-- ==== Sys2Proof/Word.lean ====
section
/-! DEFINITION. The byte type, byte strings and the plainest arithmetic on them. Everything with a
rule of its own (CRCs, encodings, rounding) stands in Machine/Ops.lean. -/

namespace Sys2Proof

/-- One byte of a frame, an object value or a memory window. -/
abbrev Byte := BitVec 8

/-- A byte string, first byte first. -/
abbrev Bytes := List Byte

/-- Little-endian value of a byte string (00 R4: multi-byte values are little-endian). -/
def leNat : Bytes → Nat
  | [] => 0
  | b :: bs => b.toNat + 256 * leNat bs

/-- Big-endian value of a byte string (the CRC fields of 05 R91, R92: the first byte holds bits [15:8]). -/
def beNat (bs : Bytes) : Nat := leNat bs.reverse

/-- The `n` low bytes of a number, little-endian. -/
def leBytes : Nat → Nat → Bytes
  | 0, _ => []
  | n + 1, v => BitVec.ofNat 8 v :: leBytes n (v / 256)

/-- The `n` low bytes of a number, big-endian. -/
def beBytes (n v : Nat) : Bytes := (leBytes n v).reverse

/-- Two's-complement value of the low `w` bits of a number. -/
def toSigned (w v : Nat) : Int :=
  if v % 2 ^ w < 2 ^ (w - 1) then ((v % 2 ^ w : Nat) : Int) else ((v % 2 ^ w : Nat) : Int) - (2 ^ w : Nat)

/-- The low `w` bits of an integer as a number. -/
def ofSigned (w : Nat) (v : Int) : Nat := (v % (2 ^ w : Nat)).toNat

end Sys2Proof
end

