-- ==== Sys2Proof/Syntax.lean ====
section
/-! DEFINITION. The commands of the block: one constructor for each row of spec/opcode_table.json, in the
table's order. A row that names a timed instant or an input edge carries what the world supplies with it;
a row that names a command of a command object carries the session that wrote it (12 R315). -/

namespace Sys2Proof

/-- A session identity: IFACE [15:12], BUS [11:8], CLIENT [7:0] (12 R315). -/
abbrev Sess := Nat

/-- What the BOOT steps of 03 R55 find: the hold-up capacitance (02 R45), which image set verifies on both
dies, whether the retained areas keep their CRC (03 R64, R65; 12 R332), and the seconds spent unpowered. -/
structure BootReport where
  holdupUf : Nat
  verifyA : Bool
  verifyB : Bool
  logicRetainedOk : Bool
  estRetainedOk : Bool
  copyAOk : Bool
  copyBOk : Bool
  tallyOk : Bool
deriving DecidableEq, Repr

/-- The words frozen at CTL cycle 400 (07 R160, in A and V), the crossing found in error if any (04 R75),
and whether the stage table was still running at cycle 4,400 (04 R79). -/
structure SampleIn where
  shunt : Rat
  fluxgate : Rat
  vBus : Rat
  vStr : Rat
  badCrossing : Option Nat
  tableLate : Bool
deriving DecidableEq, Repr

/-- A CAN frame as the controller hands it over (11 R283, R295, R296). -/
structure CanFrame where
  id : Nat
  ext : Bool
  fd : Bool
  brs : Bool
  rtr : Bool
  data : Bytes
  /-- Error state indicator of an FD frame: the sender was error-passive (11 R283). -/
  esi : Bool := false
deriving DecidableEq, Repr

/-- What transmission of the buffer ended in (11 R293). -/
inductive TxEnd where
  | sent
  | lostOrError
deriving DecidableEq, Repr

/-- A PTP Announce, with the data set members the best master clock algorithm compares (13 R338). -/
structure Announce where
  priority1 : Nat
  clockClass : Nat
  accuracy : Nat
  variance : Nat
  priority2 : Nat
  identity : Bytes
  stepsRemoved : Nat
  ptpTimescale : Bool
  domain : Nat
deriving DecidableEq, Repr

/-- What verification of a staged set finds (17 R425), step by step. -/
structure VerifyReport where
  signatureOk : Bool
  digestsOk : Bool
  configOk : Bool
  compatible : Bool
deriving DecidableEq, Repr

/-- A bit operand of the logic engine (14 R365, form B). -/
structure BitOp where
  space : Nat
  inv : Bool
  bit : Nat
  addr : Nat
deriving DecidableEq, Repr

/-- A word operand of the logic engine (14 R365, form W). -/
structure WordOp where
  space : Nat
  width : Nat
  sgn : Bool
  addr : Nat
deriving DecidableEq, Repr

/-- A block operand of the logic engine (14 R365, form F; the TYPE is the constructor's). -/
structure BlockOp where
  space : Nat
  addr : Nat
deriving DecidableEq, Repr

/-- The commands. -/
inductive Instr where
  -- supply (02) and start-up (03)
  | auxInputPresent (input : Fin 2) (mv : Nat)
  | auxInputAbsent (input : Fin 2) (mv : Nat)
  | allSuppliesLost
  | holdupSealComplete
  | wakePulse (ms : Nat)
  | watchdogExpiry
  | boot (r : BootReport)
  | bootComplete
  | dupNodeIdListenEnd
  | selftestComplete (failed : Nat)
  | cmdEnable (sess : Sess)
  | cmdDisable (sess : Sess)
  | cmdAcknowledge (sess : Sess)
  | cmdEnterService (sess : Sess)
  | cmdLeaveService (sess : Sess)
  | cmdEnterQuarry (sess : Sess)
  | quarryEntryComplete
  | cmdReset (sess : Sess)
  | cmdColdRestartLogic (sess : Sess)
  | cmdColdRestartEstimator (sess : Sess)
  | pendingEnableExpiry
  | prechargeCooldownEnd
  | derateHoldExpiry
  | courseBoundary
  | sampleStrobe
  | controlSample (x : SampleIn)
  | captureComplete
  | chiselComplete
  | impedanceWindowBoundary
  | downlinkLatch
  -- segment links and nodes (05), conversion (06)
  | superframeStart
  | uplinkFrameRx (seg : Fin 16) (frame : Bytes) (lineOk : Bool) (t4 : Nat)
  | bypassConfirmTimeout (seg : Fin 16)
  | uplinkMissingTimeout (seg : Fin 16)
  | uplinkWordsLostTimeout (seg : Fin 16)
  | linkCommaLock (seg : Fin 16)
  | mgmtResponseRx (seg : Fin 16) (frame : Bytes)
  | mgmtTimeout (seg : Fin 16)
  | nodeCmdCommission (sess : Sess) (seg : Fin 16)
  | nodeCmdReleaseLatch (sess : Sess) (seg : Fin 16)
  | nodeCmdRepeatBringup (sess : Sess) (seg : Fin 16)
  | nodeCmdComparatorTest (sess : Sess) (seg : Fin 16)
  | nodeDownlinkFrameRx (node : Fin 16) (port : Fin 2) (frame : Bytes) (lineOk : Bool)
  | nodeSuperframeStart (node : Fin 16) (inBound : Bool)
  | nodeDesaturation (node : Fin 16) (high : Bool)
  | hardBypassLatchSet (node : Fin 16) (periods : Nat)
  | nodePortsDark (node : Fin 16) (us : Nat)
  | mgmtRead (node : Fin 16) (port : Fin 2) (tag : Byte) (addr len : Nat)
  | mgmtWrite (node : Fin 16) (port : Fin 2) (tag : Byte) (addr : Nat) (data : Bytes)
  | imageBlock (node : Fin 16) (port : Fin 2) (tag : Byte) (block : Nat) (data : Bytes)
  | imageActivate (node : Fin 16) (port : Fin 2) (tag : Byte) (digest : Bytes)
  | latchRelease (node : Fin 16) (port : Fin 2) (tag : Byte) (checkOk : Bool)
  | comparatorTest (node : Fin 16) (port : Fin 2) (tag : Byte) (passed : Bool)
  | segCmdBypass (sess : Sess) (seg : Fin 16)
  | segCmdReturn (sess : Sess) (seg : Fin 16)
  | busCollapseDetected
  | busCollapseRelease
  | softstartContactorsClosed
  | softstartMatched
  | softstartMatchTimeout
  | softstartSwitchClosed
  | softstartSwitchTimeout
  | softstartComplete
  | shortAbort
  | prechargeTimeout
  | balancingAgeTick
  | rmsRatioBucket
  -- estimation (08) and thermal (09)
  | estimatorSweep
  | uncertaintyLimitExceeded
  | referenceWindowComplete
  | referenceRequestUnmet
  | estCmdRequestWindow (sess : Sess)
  | estCmdWithdrawRequest (sess : Sess)
  | segEstCmdReplaced (sess : Sess) (seg : Fin 16)
  | tableCmdSwitchBank (sess : Sess)
  | tableCmdEraseBank (sess : Sess)
  | tableImageWrite (sess : Sess) (bank : Fin 2) (image : Bytes)
  | thermalEvaluation (sensors : List (Option Int))
  -- safety (10)
  | crossChannelExchange (valueDiff : Bool)
  | crossChannelMismatch
  | channelBSample (fluxgate : Rat) (beat : Option Nat) (fault : Bool)
  | fastComparatorTrip
  | fastComparatorCheck (passed : Bool)
  | i2tBlock
  | seqStep1End
  | classSHoldoffExpiry
  | lintelOpenTimeout
  | step4BlockedTimeout
  | loopTest (channelB : Bool)
  | loopTestExpiry (loopMa : Nat)
  | safetyInputChange (pair : Fin 8) (channelB : Bool) (on : Bool)
  | inputDiscrepancyTimeout (pair : Fin 8)
  | testPulseStart (t2 : Bool) (lowA lowB : Nat) (fbLowP fbLowN : Bool)
  | feedbackInputChange (input : Fin 3) (showsOpen : Bool)
  | contactorOpenTimeout (negative : Bool)
  | contactorCloseTimeout (negative : Bool)
  | unexpectedOpeningTimeout (negative : Bool)
  | switchDiscrepancyTimeout
  | bayTripRead (loopMa : Nat)
  | bayTripHeldTimeout
  | safetyReleaseTimer (cause : Fin 13)
  | safetyCmdReleaseSf09 (sess : Sess)
  | safetyCmdReleaseDeepSf02 (sess : Sess)
  | pePathTest (tenthOhm : Option Nat)
  | insulationHalfPeriod (estA estB : Option Nat) (nF : Nat)
  | insulationSelftest (ohm : Nat)
  | insulationListenGap (heardMv : Nat)
  | unmonitoredLimitExpiry
  | srdoRefresh
  | srdoSctExpiry (k : Fin 8)
  | twinXLowDetected (us : Nat)
  | twinXTestPulse
  | opticalMarginLow (path : Fin 18) (marginCdB : Int)
  -- CAN and bay time (11)
  | canFrameRx (bus : Fin 2) (f : CanFrame) (sof : Nat)
  | heartbeatRx (bus : Fin 2) (node : Nat) (nmt : Nat)
  | srdoRx (bus : Fin 2) (k : Fin 8) (inverted : Bool) (data : Bytes)
  | rpdoRx (bus : Fin 2) (n : Fin 4) (data : Bytes)
  | startRemoteNode (node : Nat)
  | stopRemoteNode (node : Nat)
  | enterPreOperational (node : Nat)
  | resetNode (node : Nat)
  | resetCommunication (node : Nat)
  | heartbeatTx
  | txBufferLoad (bus : Fin 2)
  | canTxComplete (bus : Fin 2) (tb : Fin 3) (how : TxEnd)
  | framePromotion (bus : Fin 2)
  | frameDeadline (bus : Fin 2)
  | canErrorPassive (bus : Fin 2)
  | canErrorActive (bus : Fin 2)
  | canBusOff (bus : Fin 2)
  | busOffRecoveryComplete (bus : Fin 2)
  | canNoAckTimeout (bus : Fin 2)
  | busMonitorCheckEnd
  | canCmdRecover (sess : Sess) (bus : Fin 2)
  | canCmdClearCounters (sess : Sess) (bus : Fin 2)
  | referenceMessageSend
  | referenceCancelTimeout (bus : Fin 2)
  | referenceMessageRx (bus : Fin 2) (frame : Bytes) (sof : Nat)
  | followUpRx (bus : Fin 2) (frame : Bytes)
  | timeHoldoverEntry
  | holdoverLimitExpiry
  | managerSilenceTimeout
  -- layer setting, dictionary, sessions (12)
  | lssSwitchStateGlobal (bus : Fin 2) (configuration : Bool)
  | lssSwitchStateSelective (bus : Fin 2) (vendor product revision serial : Nat)
  | lssConfigureNodeId (bus : Fin 2) (node : Nat)
  | lssStoreConfiguration (bus : Fin 2)
  | lssInquireVendor (bus : Fin 2)
  | lssInquireProduct (bus : Fin 2)
  | lssInquireRevision (bus : Fin 2)
  | lssInquireSerial (bus : Fin 2)
  | lssInquireNodeId (bus : Fin 2)
  | lssIdentifyRemoteSlave (bus : Fin 2) (vendor product revLo revHi serLo serHi : Nat)
  | lssIdentifyNonConfigured (bus : Fin 2)
  | odWrite (sess : Sess) (viaPartner : Bool) (index sub : Nat) (value : Bytes)
  | odRead (sess : Sess) (index sub : Nat) (segmented : Bool)
  | segmentedReadTimeout (sess : Sess)
  | readListResultRead (sess : Sess) (n : Fin 8)
  | transaction (sess : Sess) (viaPartner : Bool) (image : Bytes)
  | authResponse (sess : Sess) (response : Bytes)
  | lowerLevel (sess : Sess) (level : Nat)
  | sessionIdleTimeout (sess : Sess)
  | authLockExpiry (sess : Sess)
  | safetyParamWrite (sess : Sess) (index sub : Nat) (value : Bytes)
  | safetyCmdDiscardEdit (sess : Sess)
  | safetySetConfirm (sess : Sess) (crc : Nat)
  | editCopyTimeout
  | safetySetCrcCheck (copyAOk copyBOk : Bool)
  -- bay manager (13)
  | summarySend
  | summaryRx (n : Nat) (frame : Bytes)
  | summaryDeadline
  | baySnapshotSend
  | baySnapshotRx (frame : Bytes)
  | dispatchStepRx (frame : Bytes)
  | dataPlaneSend
  | ptpAnnounceRx (a : Announce)
  | ptpSyncRx (identity : Bytes) (seq : Nat) (twoStep : Bool) (origin correction rx : Int)
  | ptpFollowUpRx (identity : Bytes) (seq : Nat) (origin correction : Int)
  | ptpDelayReqSend (tx : Int)
  | ptpDelayRespRx (seq : Nat) (receive correction : Int)
  | siteTimeHoldover
  | siteTimeWaitExpiry
  | manualModuleTime (sess : Sess) (time : Nat)
  | ethernetLinkChange (link : Fin 3)
  | arpRequest (ip : Nat)
  | icmpEchoRequest (ip ident seq : Nat) (data : Bytes)
  | modbusConnect (client : Nat)
  | readHoldingRegisters (conn : Fin 8) (start count : Nat)
  | readInputRegisters (conn : Fin 8) (start count : Nat)
  | writeSingleRegister (conn : Fin 8) (reg value : Nat)
  | writeMultipleRegisters (conn : Fin 8) (start : Nat) (values : List Nat)
  | readDeviceIdentification (conn : Fin 8)
  -- logic engine (14)
  | logicScan
  | scanOverrun
  | nop
  | ldb (o : BitOp)
  | andb (o : BitOp)
  | orb (o : BitOp)
  | stb (o : BitOp)
  | setb (o : BitOp)
  | rstb (o : BitOp)
  | notb
  | pushb
  | popand
  | popor
  | ld (o : WordOp)
  | ldi (imm : BitVec 24)
  | ldhi (imm : BitVec 24)
  | st (o : WordOp)
  | add (o : WordOp)
  | sub (o : WordOp)
  | mul (o : WordOp)
  | div (o : WordOp)
  | addi (imm : BitVec 24)
  | and (o : WordOp)
  | or (o : WordOp)
  | shl (imm : BitVec 24)
  | shr (imm : BitVec 24)
  | min (o : WordOp)
  | max (o : WordOp)
  | eq (o : WordOp)
  | ne (o : WordOp)
  | lt (o : WordOp)
  | gt (o : WordOp)
  | jmp (target : BitVec 24)
  | jmpt (target : BitVec 24)
  | jmpf (target : BitVec 24)
  | loop (imm : BitVec 24)
  | next
  | call (target : BitVec 24)
  | ret
  | end_
  | ton (o : BlockOp)
  | tof (o : BlockOp)
  | tp (o : BlockOp)
  | ctu (o : BlockOp)
  | ctd (o : BlockOp)
  | ctud (o : BlockOp)
  | rTrig (o : BlockOp)
  | fTrig (o : BlockOp)
  | msgrx (o : WordOp)
  | msgtx (o : WordOp)
  | evt (cls : Nat) (code : Nat)
  | logicCmdStart (sess : Sess)
  | logicCmdStop (sess : Sess)
  | logicCmdActivate (sess : Sess)
  | logicCmdClearForces (sess : Sess)
  | logicCmdEraseInactive (sess : Sess)
  | setForce (sess : Sess) (entry : Bytes)
  | releaseForce (sess : Sess) (entry : Nat)
  | logicImageWrite (sess : Sess) (bank : Fin 2) (image : Bytes)
  -- twin (15), recorder (16), capture and chisel (07)
  | mirrorFrameSend
  | mirrorFrameRx (frame : Bytes) (primary secondary : Fin 3)
  | pairCheckComplete (ownPass partnerPass : Bool)
  | mirrorFrameMissing
  | urgentWordRx (word : Bytes)
  | stateTransferComplete
  | stateTransferTimeout
  | twinCmdHandover (sess : Sess)
  | twinCmdResync (sess : Sess)
  | handoverClaimLimit
  | recordCommit
  | repeatUpdate
  | recorderCmdFreeze (sess : Sess)
  | recorderCmdRelease (sess : Sess)
  | recorderCmdClear (sess : Sess)
  | freezeTimeout
  | recordsRead (sess : Sess)
  | captureDataRead (sess : Sess)
  | captureArm (sess : Sess)
  | captureForceTrigger (sess : Sess)
  | captureAbort (sess : Sess)
  | chiselStart (sess : Sess)
  | chiselStop (sess : Sess)
  -- update and journal (17)
  | manifestWrite (sess : Sess) (image : Bytes)
  | stagingBlockWrite (sess : Sess) (image : Bytes)
  | updateCmdVerify (sess : Sess)
  | verificationComplete (r : VerifyReport)
  | updateCmdActivate (sess : Sess)
  | updateCmdDiscard (sess : Sess)
  | probationConfirm
  | probationTimeTick
  | probationLimit
  | nodeUpdateSegment
  | integratorKeyWrite (sess : Sess) (key : Bytes)
  | flashRefreshBlock (block : Fin 1024) (ok : Bool)
  | journalCheckpoint
  | countersSaveTick
  -- debug port (18) and the rows added at the table's end
  | dbgOpen (tag : Byte)
  | dbgAuth (tag : Byte) (level : Nat) (mac : Bytes)
  | dbgClose (tag : Byte)
  | dbgStatus (tag : Byte)
  | dbgRead (tag : Byte) (addr len : Nat)
  | dbgWrite (tag : Byte) (addr : Nat) (data : Bytes)
  | dbgOdRead (tag : Byte) (index sub : Nat)
  | dbgOdWrite (tag : Byte) (index sub : Nat) (value : Bytes)
  | logicHalt (tag : Byte)
  | logicStep (tag : Byte) (count : Nat)
  | logicStepCourse (tag : Byte)
  | logicRun (tag : Byte)
  | breakSet (tag : Byte) (slot kind param : Nat)
  | breakClear (tag : Byte) (slot : Nat)
  | islandHalt (tag : Byte) (island : Nat)
  | islandRun (tag : Byte)
  | debugIdleTimeout
  | cyclicDiagnostic (okA okB : Bool)
  | withheldRecoveryStart (bus : Fin 2)
  | modbusConnectionClose (conn : Fin 8)
  | modbusUnsupportedFunction (conn : Fin 8) (code : Nat)
  | dbgInvalidRequest (tag : Byte) (crcWrong : Bool)
  | nodePowerUp (node : Fin 16)
  | nodeCommaLock (node : Fin 16) (port : Fin 2)
  | nodeComparatorSelftest (node : Fin 16) (passed : Bool)
deriving DecidableEq, Repr

end Sys2Proof
end

