-- ==== Sys2Proof/Decode.lean ====
section
/-! DEFINITION. The command a word spells. No row of the table gives bits, so no word spells a command (log 7). The words of
the logic engine's own programs are read by Machine/LogicCode.lean. -/

namespace Sys2Proof

/-- The command that a word of `nbits` bits spells by the table: none, as the table gives no row any bits. -/
def decodeTableWord (_nbits _w : Nat) : Option Instr := none

end Sys2Proof
end

