-- ==== Sys2Proof/Config.lean ====
section
/-! DEFINITION. What one implementation fixes and the spec leaves open: constants with no body, so that
no proof can see their value. Each names the assumption-log entry that marks it. -/

namespace Sys2Proof.Config

/-- Error of the sine of an angle given in turns, which is "exact to 2^-20 × A" (07 R183). Log 10. -/
opaque sinError : Rat → Rat
/-- π to 40 decimals, in the impedance model of 08 R218 and the crossover of 07 R174. Log 10. -/
def pi : Rat := 31415926535897932384626433832795028841971 / 10000000000000000000000000000000000000000
/-- SHA-256 of a byte string (17 R421, 05 R109). Log 11. -/
opaque sha256 : Bytes → Bytes
/-- HMAC-SHA-256 of a byte string under a key (12 R316, 18 R444). Log 11. -/
opaque hmac : Bytes → Bytes → Bytes
/-- ECDSA P-256: does the signature verify for this key and digest (17 R421, R422). Log 11. -/
opaque ecdsaOk : Bytes → Bytes → Bytes → Bool
/-- The vendor key held in the ROM (17 R422). Log 11. -/
opaque vendorKey : Bytes
/-- The L4 key, set per module at the factory (12 R318). Log 11. -/
opaque l4Key : Bytes
/-- A freshly drawn 16-byte nonce, by the draw's count (12 R316, 18 R444). Log 12. -/
opaque nonce : Nat → Bytes
/-- The module serial number (12 R312, factory). Log 13. -/
opaque serial : Nat
/-- The variant, 1 or 3 (12 R313, factory). Log 13. -/
opaque variant : Nat
/-- The handover schema of an image set by its version: major [15:8], minor [7:0] (15 R389). Log 13. -/
opaque schemaOf : Nat → Nat
/-- Bytes of the debug address space whose contents the spec does not give (18 R446): address, count of reads. Log 14. -/
opaque freeByte : Nat → Nat → Byte
/-- An integer the spec leaves unstated, by the count of such draws. Log 15. -/
opaque freeInt : Nat → Int
/-- The time servo: rate correction from the offset and the present rate (11 R305; the servo law is not given). Log 16. -/
opaque servoRate : Int → Int → Int
/-- A quotient whose divisor is zero, by dividend (no rule states a result there). Log 17. -/
opaque divByZero : Rat → Rat
/-- The 16 bytes of cross-channel tolerances of 0x4040:06 (10 R281: the layout is not given). Log 18. -/
opaque tolerances : Bytes
/-- Static facts of a segment node (05 R110): maker, model, serial, image, cell count, dead time, by segment. Log 19. -/
opaque nodeMaker : Nat → Nat
/-- MODEL string of a node. Log 19. -/
opaque nodeModel : Nat → Bytes
/-- SERIAL of a node. Log 19. -/
opaque nodeSerial : Nat → Nat
/-- CELLS of a node, 8 to 32. Log 19. -/
opaque nodeCells : Nat → Nat
/-- IMAGE version of a node by the digest of its activated image, empty for the first image. Log 19. -/
opaque nodeImage : Nat → Bytes → Nat
/-- DEADTIME of a node. Log 19. -/
opaque nodeDeadTime : Nat → Nat
/-- Island that owns a byte of SRAM, by its debug address (18 R446: the spec names no owner). Log 14. -/
opaque sramIsland : Nat → Nat
/-- Source number of the power-and-state events of 02 R43, R45 and 03 R70 (the spec names no number). Log 28. -/
opaque powerSource : Nat
/-- Code of such an event: argument 1 state change, 2 change of supply, 3 hold-up store below 1.2 mF, 4 island event (04 R75). Log 28. -/
opaque powerCode : Nat → Nat
/-- Is the signature of SRDO k valid for its parameters and mapping (10 R277; the signature algorithm is EN 50325-5's). Log 37. -/
opaque srdoSigOk : Nat → List Int → Bool
/-- Codes of the segment events the spec names without a code (05 R112): 1 latch on k = 7; 2 high-side desaturation, 3 low-side
desaturation on k = 5. Log 28. -/
opaque segCode : Nat → Nat
/-- Their classes, taken modulo 4. Log 28. -/
opaque segClass : Nat → Nat
/-- The bytes over which SDIG and EDIG are the CRC-32C: each quantity in the order of 15 R395, in an encoding that is not given. Log 33. -/
opaque digestBytes : List Rat → List (BitVec 8)

/-- What a parameter set of an update manifest holds: values of objects by key, and byte strings by key (17 R420 to R423: its format is
not given). Log 45. -/
opaque paramValues : Bytes → List (Nat × Int)
/-- Byte strings of a parameter set, by key. Log 45. -/
opaque paramBlobs : Bytes → List (Nat × Bytes)
/-- Stage s of a bedrock-law image: type, lanes, mode mask, four sources, variant, coefficient exponent, eight mantissas (07 R162, 17
R420: its format is not given). Log 45. -/
opaque lawStage : Bytes → Nat → List Int
/-- Version of a bedrock-law image (07 R193 sub 34; its format is not given). Log 45. -/
opaque lawVersion : Bytes → BitVec 16

end Sys2Proof.Config
end

