-- ==== Sys2Proof/Machine/State.lean ====
section
/-! DEFINITION. The state of the block, plain data: everything the spec gives the module, what it holds about
its partner, and the contract side of its segment nodes. A field's default is its value at reset. Where the
rule cited gives no reset value, the value is the model's (log 6) and the docstring says so by "choice". -/

namespace Sys2Proof.Machine

/-- A sparse store of numbers by key. The key of object index:sub is index × 256 + sub. -/
abbrev Store := List (Nat × Int)

/-- A sparse store of byte strings by the same key. -/
abbrev Blobs := List (Nat × Bytes)

/-! ### 03: the state machine -/

/-- The ten states of 03 R50; the code is the constructor's position. -/
inductive MState where
  | quarry | off | boot | selftest | standby | precharge | run | derated | safe | service
deriving DecidableEq, Repr

/-- What the four-step sequence runs for: the shut-down of 03 R58, a class S or class F trip (10 R250), or the
release within the twin (10 R261). -/
inductive SeqKind where
  | shutdown | classS | classF | releaseOnly
deriving DecidableEq, Repr

/-- A running or completed four-step sequence (10 R249). -/
structure Seq where
  /-- What it runs for (10 R250). -/
  kind : SeqKind
  /-- Step reached, 1 to 5 (03 R70, 0x2000:09). -/
  step : Nat
  /-- Clock at the trip decision or the disable (10 R249). -/
  since : Nat
  /-- Clock at which FAST_OFF went OFF (10 R251). -/
  offAt : Option Nat := none
  /-- Clock at which step 3 began (10 R252). -/
  step3At : Option Nat := none
  /-- Step 4 is blocked, event 108 code 5 raised (10 R252). -/
  blocked : Bool := false
deriving DecidableEq, Repr

/-- The state machine and its timers. -/
structure Mode where
  /-- Module state, own (03 R50, 0x2000:08). Reset QUARRY: factory-shipped modules are in QUARRY (03 R67). -/
  st : MState := .quarry
  /-- The four-step sequence, running or complete (03 R70, 10 R249). Reset none. -/
  seq : Option Seq := none
  /-- Pending enable: its deadline on the clock (03 R59). Reset none. -/
  pendEnable : Option Nat := none
  /-- End of the precharge cool-down on the clock (03 R62). Reset none. -/
  cooldown : Option Nat := none
  /-- Clock at which a derating cause was last active (03 R52 T11). Reset 0 (choice). -/
  derateAt : Nat := 0
  /-- Clock at the last entry to BOOT (03 R70, 0x2000:1E). Reset 0 (choice). -/
  bootClk : Nat := 0
  /-- Class C self-test failure holds the module in SELFTEST (03 R56). Reset false. -/
  classCFail : Bool := false
  /-- Channel B holds FAST_OFF OFF through BOOT and SELFTEST (03 R54). Reset false. -/
  holdOffB : Bool := false
  /-- The duplicate listen of BOOT is running (01 R12). Reset false. -/
  listening : Bool := false
  /-- The BOOT steps of 03 R55 are done and an image runs (03 R52 T5, T6). Reset false. -/
  booted : Bool := false
  /-- A duplicate node-ID was heard (01 R12). Reset false. -/
  dupHeard : Bool := false
  /-- Quarry entry is running, sealing journal and recorder (03 R67). Reset false. -/
  quarryEntry : Bool := false
  /-- STANDBY has been entered since BOOT (03 R64, 15 R397). Reset false. -/
  standbySeen : Bool := false
deriving DecidableEq, Repr

/-! ### 02: supply and pins -/

/-- The three states of FAST_OFF (02 R33). -/
inductive FastOff where
  | absent | permit | off
deriving DecidableEq, Repr

/-- Supply and connector pins. -/
structure Pins where
  /-- Aux input 1 present (02 R42). Reset false: nothing is told of it in QUARRY (choice). -/
  aux1 : Bool := false
  /-- Aux input 2 present (02 R42). Reset false (choice). -/
  aux2 : Bool := false
  /-- Clock since which at least one aux input is present (10 R262). Reset none (choice). -/
  auxSince : Option Nat := none
  /-- All three sources absent, running on hold-up (02 R45). Reset false. -/
  holdup : Bool := false
  /-- Source of supply as the last event or BOOT found it: 0 aux, 1 string-derived, 2 hold-up (02 R43). Reset 2 (choice). -/
  drawn : Nat := 2
  /-- Own FAST_OFF output (02 R33). Reset ABSENT (03 R50 QUARRY). -/
  fastOff : FastOff := .absent
  /-- Clock since which FAST_OFF is driven OFF without a break (10 R270). Reset none. -/
  offSince : Option Nat := none
  /-- Clock at which the last OFF ended (10 R270). Reset none. -/
  offEnded : Option Nat := none
  /-- FAST_OFF as driver path A of channel A drives it; ABSENT also while its supply is removed (10 R247, R261). Reset ABSENT. -/
  pathA : FastOff := .absent
  /-- FAST_OFF as driver path B of channel B drives it (10 R247). Reset ABSENT. -/
  pathB : FastOff := .absent
  /-- Channel B has removed the supply of driver path A (10 R247, R261). Reset false. -/
  cutA : Bool := false
  /-- Channel A contact of the lintel loop closed (02 R32). Reset open (03 R50 QUARRY). -/
  contactA : Bool := false
  /-- Channel B contact of the lintel loop closed (02 R32). Reset open (03 R50 QUARRY). -/
  contactB : Bool := false
  /-- Element of the bay trip loop open (02 R39, 10 R271). Reset closed: an unpowered element stays closed. -/
  elementOpen : Bool := false
  /-- Its channel A switch is open (10 R247, R271). Reset closed. -/
  elemA : Bool := false
  /-- Its channel B switch is open (10 R247, R271). Reset closed. -/
  elemB : Bool := false
  /-- TWIN_X pulled low (02 R40). Reset released: the line idles high. -/
  twinXLow : Bool := false
  /-- A command still holds TWIN_X low (02 R40, 10 R253). Reset false. -/
  xHeld : Bool := false
  /-- Clock at which TWIN_X was pulled low (02 R40, 10 R269). Reset none. -/
  xLowAt : Option Nat := none
  /-- Clocks at which T1 and T2 were last pulled low, for 300 µs each (10 R268). Reset none. -/
  pulseAt : Option Nat × Option Nat := (none, none)
  /-- The line has last been found held low by the partner (02 R40, 10 R253). Reset released. -/
  xIn : Bool := false
  /-- Clock at which FAST_OFF last changed (10 R270). Reset 0 (choice). -/
  fastAt : Nat := 0
  /-- Voltage the insulation monitor applies between STR_N and PE_S, V: +20, −20, or 0 (10 R272). Reset 0. -/
  insVolt : Int := 0
  /-- Insulation-monitor relay closed (02 R26). Reset open (02 R46). -/
  insRelay : Bool := false
  /-- Quarry relays have disconnected STR_P, BUS_P, BUS_N and the internal supply (02 R46). Reset true (03 R50 QUARRY). -/
  quarryRelays : Bool := true
  /-- FB_KP shows the positive contactor open (02 R35). Reset true (choice). -/
  fbKpOpen : Bool := true
  /-- FB_KN shows the negative contactor open (02 R35). Reset true (choice). -/
  fbKnOpen : Bool := true
  /-- SSW_FB shows the string switch open (02 R35). Reset true (choice). -/
  sswOpen : Bool := true
  /-- Clocks of the last change of FB_KP, FB_KN and SSW_FB (10 R269, R270). Reset 0 (choice). -/
  fbAt : List Nat := [0, 0, 0]
  /-- The PHY on X13 is powered (02 R41, R45). Reset false. -/
  phyOn : Bool := false
deriving DecidableEq, Repr

/-! ### 04, 11: time -/

/-- One reference awaiting its follow-up (11 R303, R305): bus, sender, sequence, own start-of-frame time. -/
structure RefRx where
  /-- Bus it came on. -/
  bus : Nat
  /-- Sender's node-ID. -/
  sender : Nat
  /-- Reference sequence. -/
  seq : Nat
  /-- Own capture of its start of frame. -/
  sof : Nat
deriving DecidableEq, Repr

/-- What a pair that is used changes, as it stood before: so that it can be discarded with its period (11 R305). -/
structure PairUse where
  /-- The receiver's 10 ms period. -/
  period : Nat
  /-- 0x2200:02 to 04, 14 and 1A. -/
  objs : List (Nat × Int)
  /-- Module time step still to be applied, and whether it is the first. -/
  step : Int × Bool
  /-- Consecutive pairs that met the lock condition. -/
  lockCount : Nat
  /-- Clock of the last valid pair. -/
  lastPair : Nat
deriving DecidableEq, Repr

/-- The time unit (04 R81, R82) and bay time (11 R302 to R308). Its reported values stand in `obj`. -/
structure TimeU where
  /-- Module time, ns since 2000-01-01 TAI (00 R5, 04 R81). Reset 0: not kept in QUARRY (03 R66; choice). -/
  mtime : Nat := 0
  /-- Uptime clock, ns, that every deadline of the model is held against (log 2). Reset 0 (choice). -/
  clk : Nat := 0
  /-- Cycles of the LNK timing tree counted (04 R81). Reset 0 (choice). -/
  cyc : Nat := 0
  /-- What those cycles have added beyond `mtime`, in 2^-32 ns (04 R81). Reset 0 (choice). -/
  frac : Nat := 0
  /-- Module time of the last course boundary (04 R80, 12 R319). Reset 0 (choice). -/
  lastBoundary : Nat := 0
  /-- Time has been synchronised since BOOT (04 R82, 11 R308). Reset false (03 R66). -/
  synced : Bool := false
  /-- Time that was lost at BOOT counts provisionally from 0 until the first synchronisation (11 R308). Reset true. -/
  provisional : Bool := true
  /-- A step still to be applied at the next sample instant, a multiple of 10,000 ns (04 R82). Reset 0. -/
  stepPending : Int := 0
  /-- That step is the first synchronisation since BOOT (04 R82, 11 R308). Reset false. -/
  firstPending : Bool := false
  /-- An offset above the threshold has been reported while it lasts (04 R82). Reset false. -/
  offsetReported : Bool := false
  /-- References received and awaiting their follow-up (11 R305). Reset none. -/
  refs : List RefRx := []
  /-- Consecutive pairs that met the lock condition (11 R305). Reset 0. -/
  lockCount : Nat := 0
  /-- The 10 ms period of the lead manager in which the preferred bus last gave a valid pair (11 R305). Reset none. -/
  prefPeriod : Option Nat := none
  /-- The pair in use in the present period, and what stood before it (11 R305). Reset none. -/
  used : Option PairUse := none
  /-- Clock at which the present holdover began (11 R309). Reset 0. -/
  holdAt : Nat := 0
  /-- Clock of the last valid reference message, either bus (01 R17, 11 R307). Reset 0 (choice). -/
  lastRef : Nat := 0
  /-- The last valid pair (11 R307). Reset 0 (choice). -/
  lastPair : Nat := 0
  /-- References from node 1 and node 65 seen in the present period (11 R304). Reset none. -/
  seenFrom : List Nat := []
  /-- Last reference instant sent as lead manager (01 R15, 15 R389 LASTREF). Reset 0. -/
  lastSent : Nat := 0
  /-- Reference sequence counter of the lead manager (11 R303). Reset 0 (choice). -/
  refSeq : Nat := 0
  /-- Own start-of-frame captures of a sent reference: bus, time (11 R302). Reset none. -/
  refSof : List (Nat × Nat) := []
  /-- Manager silence has ramped the dispatched target to zero (01 R17). Reset false. -/
  silence : Bool := false
deriving DecidableEq, Repr

/-! ### 12: the keystone -/

/-- A write waiting for the next commit (12 R319, R321): a value or a command, in order of arrival. -/
structure Pend where
  /-- Session that wrote it. -/
  sess : Sess
  /-- It arrived through the partner, or is a mirrored request (01 R19, 15 R391). -/
  via : Bool
  /-- Object key. -/
  key : Nat
  /-- Value bytes, little-endian. -/
  val : Bytes
  /-- Transaction number it belongs to, none for a plain write (12 R326). -/
  txn : Option Nat
  /-- Sequence under which it was forwarded to the standby in this course (15 R391). -/
  fwd : Option Nat := none
  /-- Level of its session when it arrived (12 R317). -/
  level : Nat := 0
  /-- Abort code it has been answered with already: the row of a command or an image, which its commit only counts and mirrors (log 4). -/
  done : Option Nat := none
deriving DecidableEq, Repr

/-- A transaction accepted on arrival (12 R326, R327). -/
structure Txn where
  /-- Number within the course. -/
  num : Nat
  /-- Session that wrote it. -/
  sess : Sess
  /-- FLAGS byte. -/
  flags : Nat
  /-- TAG. -/
  tag : Nat
  /-- BASE epoch. -/
  base : Nat
  /-- It arrived through the partner. -/
  via : Bool
deriving DecidableEq, Repr

/-- A session (12 R315, R316). -/
structure Session where
  /-- Identity. -/
  id : Sess
  /-- Access level held (00 R7). -/
  level : Nat
  /-- Clock of its last request. -/
  lastReq : Nat
  /-- Epochs whose nonce it has used (12 R316). -/
  used : List Nat := []
  /-- Clocks of its authentication failures within 60 s (12 R316). -/
  fails : List Nat := []
  /-- Authentication locked until this clock (12 R316). -/
  lockUntil : Option Nat := none
  /-- 0x2100:05 for this session (12 R334). -/
  refusedEntry : Nat := 0
  /-- 0x2100:06 for this session (12 R334). -/
  lastAbort : Nat := 0
deriving DecidableEq, Repr

/-- The edit copy of the safety set (12 R329). -/
structure EditCopy where
  /-- Session that opened it. -/
  owner : Sess
  /-- Values that differ from the active set, by key. -/
  vals : Store
  /-- Clock of the last write into it. -/
  lastWrite : Nat
deriving DecidableEq, Repr

/-- The keystone. -/
structure Keystone where
  /-- Keystone epoch of the latest snapshot (12 R334 0x2100:01). Reset 0 (choice). -/
  epoch : Nat := 0
  /-- Writes waiting for the commit, oldest first (12 R319). Reset none. -/
  pend : List Pend := []
  /-- Transactions waiting for the commit (12 R327). Reset none. -/
  txns : List Txn := []
  /-- Writes refused on arrival since the last boundary (12 R334 0x2100:04). Reset 0. -/
  refused : Nat := 0
  /-- Epoch at which each object was last committed (12 R327). Reset none. -/
  objEpoch : List (Nat × Nat) := []
  /-- Segmented reads that run: session and object (12 R323, 07 R191). Reset none. -/
  reading : List (Sess × Nat) := []
  /-- Nonces drawn at the commits of the last second: epoch, clock, nonce (12 R316). Reset none. -/
  nonces : List (Nat × Nat × Bytes) := []
  /-- Sessions held, at most 64 (12 R315). Reset none. -/
  sessions : List Session := []
  /-- Edit copy of the safety set (12 R329). Reset closed. -/
  edit : Option EditCopy := none
  /-- Parameter copies of the active safety set in MRAM agree with its CRC: copy A, copy B (12 R332). Reset true. -/
  copyAOk : Bool := true
  /-- Copy B (12 R332). Reset true. -/
  copyBOk : Bool := true
  /-- The safety set has been confirmed since manufacture (03 R56 SAFEPAR, 15 R398). Reset false. -/
  confirmed : Bool := false
  /-- Values in force in CTL and EST: the parameters as they stood at the commit in effect (04 R80). Reset none. -/
  ctl : Store := []
  /-- Module time at which the latest commit takes effect in CTL and EST (04 R80). Reset none. -/
  ctlDue : Option Nat := none
  /-- Commands accepted in the present course (12 R321). Reset 0. -/
  commands : Nat := 0
  /-- Values at the last BOOT of the objects that take effect at the next boot (01 R10, 11 R287, 13 R355, 14 R357). Reset none: every default. -/
  atBoot : Store := []
  /-- Writes to the standby that await the active twin's answer: session, key (01 R19, 12 R322). Reset none. -/
  forwarded : List (Sess × Nat) := []
  /-- Those of them that a mirrored commit has decided: committed, and so answered with success whatever becomes of the partner (12 R322).
  Reset none. -/
  sure : List (Sess × Nat) := []
  /-- TAG of the transaction whose entries are being applied (12 R326). Reset none. -/
  tag : Option Nat := none
deriving DecidableEq, Repr

/-! ### 12, 16: events and the recorder -/

/-- An event waiting in the intake or committed (16 R406). -/
structure Rec where
  /-- SEQ. -/
  seq : Nat
  /-- TIME, bit 63 set for a provisional stamp (11 R308). -/
  time : Nat
  /-- Event source. -/
  source : Nat
  /-- Class: 0 INFO, 1 WARN, 2 FAULT, 3 SAFETY. -/
  cls : Nat
  /-- Event code. -/
  code : Nat
  /-- Raised while standby: SOURCE[10]. -/
  standby : Bool
  /-- Coalesced in the reserve: SOURCE[11]. -/
  coalesced : Bool
  /-- REPEAT. -/
  rep : Nat
  /-- LASTREP, ms. -/
  lastRep : Nat
  /-- PAYLOAD, 32 bytes. -/
  payload : Bytes
  /-- ERA, set when it commits. -/
  era : Nat
deriving DecidableEq, Repr

/-- Which part of the intake an entry holds (16 R407). -/
inductive Part where
  | normal | reserve | system
deriving DecidableEq, Repr

/-- A persisting condition (12 R335, R463). -/
structure Cond where
  /-- Source. -/
  source : Nat
  /-- Code that started it. -/
  code : Nat
  /-- Class. -/
  cls : Nat
  /-- Recorder sequence of that event. -/
  seq : Nat
  /-- Key bytes of that event. -/
  key : Bytes
deriving DecidableEq, Repr

/-- An overflow register (16 R412). -/
structure Ovf where
  /-- Events counted. -/
  count : Nat := 0
  /-- Time of the first loss. -/
  first : Nat := 0
  /-- Time of the last loss. -/
  last : Nat := 0
deriving DecidableEq, Repr

/-- A buffer of the tally register (16 R410). -/
structure Tally where
  /-- TSEQ. -/
  seq : Nat := 0
  /-- TREP. -/
  rep : Nat := 0
  /-- TLAST. -/
  last : Nat := 0
  /-- TRCRC. -/
  rcrc : Nat := 0
  /-- TGEN. -/
  gen : Nat := 0
deriving DecidableEq, Repr

/-- An event whose EMCY is still to be sent (11 R301). -/
structure Emcy where
  /-- Source. -/
  source : Nat
  /-- Code. -/
  code : Nat
  /-- Class. -/
  cls : Nat
  /-- Value of 0x1001 after the event. -/
  err : Nat
  /-- Recorder sequence of the event's record. -/
  seq : Nat
deriving DecidableEq, Repr

/-- The recorder. -/
structure Recorder where
  /-- Slots of the cairn that have been written: slot, 64 bytes (16 R405). Reset none: an erased slot reads FFH. -/
  slots : List (Nat × Bytes) := []
  /-- Present era (16 R417 0x4600:01). Reset 0. -/
  era : Nat := 0
  /-- Sequence the next entry takes (16 R405). Reset 0 (choice). -/
  nextSeq : Nat := 0
  /-- Newest committed sequence (16 R417 0x4600:02). Reset none. -/
  newest : Option Nat := none
  /-- Lowest sequence of the present era (16 R415). Reset 0. -/
  eraFirst : Nat := 0
  /-- Entries waiting, in sequence order, with their part (16 R407). Reset none. -/
  intake : List (Part × Rec) := []
  /-- Overflow registers for INFO, WARN, FAULT (16 R407, R412). Reset empty. -/
  ovf : List Ovf := [{}, {}, {}]
  /-- The newest entry, waiting or committed (16 R409). Reset none. -/
  last : Option Rec := none
  /-- Frozen: deadline on the clock, owner session (16 R413). Reset running. -/
  freeze : Option (Nat × Sess) := none
  /-- Released and a new freeze not yet allowed (16 R413). Reset false. -/
  noFreeze : Bool := false
  /-- The freeze record is still to commit before commits stop (16 R413). Reset false. -/
  freezing : Bool := false
  /-- The era register is occupied (16 R415). Reset false. -/
  eraHeld : Bool := false
  /-- Session that wrote the clear (16 R415). Reset 0. -/
  eraSess : Sess := 0
  /-- Tally buffers A and B (16 R410). Reset zeros (choice). -/
  tallyA : Tally := {}
  /-- Buffer B. Reset zeros (choice). -/
  tallyB : Tally := {}
  /-- Committed records with repeats that wait for their update in place, as they are to stand, oldest first (16 R410). Reset none. -/
  repPending : List Rec := []
  /-- Sequence and kind of the newest power-and-state event in the intake or cairn: its source and code are free (16 R409; log 28). Reset
  none. -/
  power : Option (Nat × Nat) := none
  /-- Persisting conditions, oldest first (12 R335). Reset none. -/
  conds : List Cond := []
  /-- Events whose EMCY leaves with their record, oldest first (11 R301). Reset none. -/
  emcy : List Emcy := []
  /-- EMCY history 0x1003, newest first (11 R301). Reset none. -/
  history : List Nat := []
  /-- Events raised since BOOT (12 R335 0x4E00:01). Reset 0. -/
  raised : Nat := 0
  /-- Last event: source, code, stamp, recorder sequence (12 R335 0x4E00:02 to 04). Reset 0. -/
  lastEvent : Nat × Nat × Nat × Nat := (0, 0, 0, 0)
  /-- Events lost since BOOT: INFO, WARN, FAULT (16 R417 0x4600:07 to 09). Reset 0. -/
  lost : List Nat := [0, 0, 0]
  /-- Island breakpoints hit by events and not yet taken: slot (18 R449). Reset none. -/
  brkHit : List Nat := []
deriving DecidableEq, Repr

/-! ### 10: safety -/

/-- An input pair on X11 (10 R266 to R268), configuration apart. -/
structure Pair where
  /-- Filtered level of the A input: on (10 R267). Reset off (choice). -/
  a : Bool := false
  /-- Filtered level of the B input (10 R267). Reset off (choice). -/
  b : Bool := false
  /-- Channel A saw its input in demand (10 R267). Reset false. -/
  demA : Bool := false
  /-- Channel B saw its input in demand (10 R267). Reset false. -/
  demB : Bool := false
  /-- Clock since which the two inputs disagree (10 R267). Reset none. -/
  discSince : Option Nat := none
  /-- Discrepancy fault latched (10 R267). Reset false. -/
  disc : Bool := false
  /-- Test-pulse fault latched (10 R268). Reset false. -/
  tpFault : Bool := false
  /-- Missed expected lows in a row, input A (10 R268). Reset 0. -/
  missA : Nat := 0
  /-- Missed expected lows in a row, input B (10 R268). Reset 0. -/
  missB : Nat := 0
  /-- Input A has passed through demand since the fault or demand was latched (10 R262, R267). Reset false. -/
  passA : Bool := false
  /-- Input B has passed through demand (10 R262, R267). Reset false. -/
  passB : Bool := false
deriving DecidableEq, Repr

/-- A trip command to the partner (10 R253): D0 of 15 R388, bay scope, class F. -/
structure TripCmd where
  /-- 1 to 12 for SF-n, 13 for a bay trip, 14 for handover now. -/
  d0 : Nat
  /-- Bay scope. -/
  bay : Bool
  /-- Class F. -/
  classF : Bool
deriving DecidableEq, Repr

/-- What the two channels count about one segment (10 R255, R257). -/
structure SegWatch where
  /-- Consecutive valid words with CELL_OV, CELL_UV, CELL_OT, BRIDGE_OT (10 R257). Reset 0. -/
  run : List Nat := [0, 0, 0, 0]
  /-- Consecutive sample sets with the cell at or above the overvoltage level, by cell (10 R255). Reset 0. -/
  ovRuns : List Nat := List.replicate 32 0
  /-- Consecutive sample sets with the cell at or below the undervoltage level, by cell (10 R255). Reset 0. -/
  uvRuns : List Nat := List.replicate 32 0
  /-- Superframes with the word missing at both twins while SSW_FB shows closed (10 R257). Reset 0. -/
  missing : Nat := 0
  /-- Superframes in a row with the word missing here: absent or invalid (10 R257). Reset 0. -/
  absent : Nat := 0
  /-- The partner's last frame forwarded a valid word (10 R257). Reset false. -/
  fwd : Bool := false
  /-- CMPTEST has been reported while it lasts (10 R257). Reset false. -/
  cmptest : Bool := false
deriving DecidableEq, Repr

/-- The safety channels and the lintel. -/
structure Safety where
  /-- Trip decisions of channel A, bit n − 1 for SF-n, bit 12 bay trip (10 R248). Reset 0. -/
  decA : Nat := 0
  /-- Trip decisions of channel B (10 R248). Reset 0. -/
  decB : Nat := 0
  /-- Clock since which the channels differ (10 R248). Reset none. -/
  mismatch : Option Nat := none
  /-- Hold-off of a channel that cannot run step 1: deadline on the clock (10 R250). Reset none. -/
  holdoff : Option Nat := none
  /-- The standby twin sees a hazard (02 R33, 10 R250). Reset false. -/
  hazard : Bool := false
  /-- Command this twin holds to its partner (10 R253). Reset none. -/
  ownCmd : Option TripCmd := none
  /-- Further own commands whose causes are active, in the order of their decision (10 R253). Reset none. -/
  ownMore : List TripCmd := []
  /-- Command obeyed from the partner while it is held (10 R253). Reset none. -/
  obeyed : Option TripCmd := none
  /-- A precharge fault is latched until the acknowledgement (10 R262). Reset false. -/
  precharge : Bool := false
  /-- The safe state was taken on loss of supply (02 R44, 10 R262). Reset false. -/
  supplyLoss : Bool := false
  /-- Per cause, bit number 0 to 12: clock since which its release condition holds (10 R262). Reset none. -/
  relSince : List (Option Nat) := List.replicate 13 none
  /-- Per cause: its release condition has been met (03 R61, 10 R262). Reset false. -/
  released : List Bool := List.replicate 13 false
  /-- Some cell fell below 0.8 × the SF-02 level (10 R262). Reset false. -/
  deepUv : Bool := false
  /-- Fast-comparator latch (10 R259). Reset clear. -/
  fastLatch : Bool := false
  /-- I²t integral of channel A, A²s, retained (10 R260). Reset 0 (choice). -/
  eA : Rat := 0
  /-- I²t integral of channel B, A²s, retained (10 R260). Reset 0 (choice). -/
  eB : Rat := 0
  /-- Sum of i² and the count of samples in the present block, channel A (10 R260). Reset 0. -/
  sumA : Rat × Nat := (0, 0)
  /-- The same of channel B (10 R260). Reset 0. -/
  sumB : Rat × Nat := (0, 0)
  /-- Epoch byte of the last heartbeat word (10 R261). Reset none. -/
  beat : Option Nat := none
  /-- Heartbeat words missing in a row (10 R261). Reset 0. -/
  beatMissing : Nat := 0
  /-- Clocks of the SF-11 trips within 24 h (10 R262). Reset none. -/
  sf11 : List Nat := []
  /-- A third SF-11 within 24 h has tripped: only a reset releases it (10 R262). Reset false. -/
  sf11Reset : Bool := false
  /-- Per segment counts (10 R255, R257). Reset zeros. -/
  seg : List SegWatch := List.replicate 16 {}
  /-- Input pairs (10 R266). Reset as Pair. -/
  pairs : List Pair := List.replicate 8 {}
  /-- Loop test: contact under test is channel B, clock at which it opened (10 R263). Reset none. -/
  test : Option (Bool × Nat) := none
  /-- Clock of the last LOOP self-test of a lone twin (10 R264). Reset 0 (choice). -/
  loneSince : Nat := 0
  /-- Missed expected lows in a row on FB_KP and FB_KN (10 R268, R269). Reset 0. -/
  fbMiss : Nat × Nat := (0, 0)
  /-- SF-09 test-pulse fault on a feedback input (10 R269). Reset false. -/
  fbFault : Bool := false
  /-- Clock at which the expectation of the contactors last changed, and the expectation: closed (10 R269). Reset open at 0. -/
  expect : Nat × Bool := (0, false)
  /-- Clock since which loop current below 4 mA has been read (10 R271). Reset none. -/
  bayRead : Option Nat := none
  /-- A bay trip held for more than 1 s has been reported (10 R271). Reset false. -/
  bayHeld : Bool := false
  /-- Bay trip loop current last read, mA (02 R39, 0x2000:18). Reset 0 (choice). -/
  bayMa : Nat := 0
  /-- Clock at which the own element opened (10 R271). Reset none. -/
  elementAt : Option Nat := none
  /-- What keeps the element open: bit 0 input pair of SF-07, bit 1 SF-06, bit 2 partner's command, bit 3 input pair
  of SF-08 (10 R271). Reset 0. -/
  elementFor : Nat := 0
  /-- Own pair of insulation estimates below the fault level in a row: channel A, channel B (10 R272). Reset 0. -/
  insBelow : Nat × Nat := (0, 0)
  /-- Half-periods since the last change of the measured system (10 R272). Reset 0. -/
  insHalves : Nat := 0
  /-- Active insulation fault on the own string (10 R275). Reset false. -/
  insFault : Bool := false
  /-- Connection fault (02 R26, 10 R272). Reset false. -/
  insConn : Bool := false
  /-- The injector's fault notice for this bus identifier (10 R276). Reset false. -/
  insNotice : Bool := false
  /-- Module time at which the listen gap under way ends (10 R274). Reset none. -/
  insGap : Option Nat := none
  /-- Stopped as duplicate injector (10 R274). Reset false. -/
  insDup : Bool := false
  /-- Clock since which the bus is unmonitored (10 R276). Reset none. -/
  unmonSince : Option Nat := none
  /-- The unmonitored limit has expired (10 R276). Reset false. -/
  unmonExpired : Bool := false
  /-- Consumed SRDOs: clock at which each was last valid (10 R277). Reset none. -/
  srdoAt : List (Option Nat) := List.replicate 8 none
  /-- Normal frame of each consumed SRDO awaiting its inverted frame, and the clock of its arrival (10 R277). Reset none. -/
  srdoHalf : List (Option (Nat × Bytes)) := List.replicate 8 none
  /-- Last safety-related data of each consumed SRDO (10 R277). Reset none. -/
  srdoData : List Bytes := List.replicate 8 []
  /-- Clock since which the partner's FAST_OFF is reported OFF, and clock at which its last OFF ended (10 R270). Reset none. -/
  theirOff : Option Nat × Option Nat := (none, none)
  /-- The partner's FAST_OFF as last judged, 0 ABSENT, 1 PERMIT, 2 OFF, and the clock since which it stands (10 R270). Reset ABSENT at 0. -/
  theirFast : Nat × Nat := (0, 0)
  /-- Clock of the last own TWIN_X test pulse (02 R40). Reset none. -/
  xTest : Option Nat := none
  /-- Clock at which the partner's TWIN_X test pulse was last seen (02 R40). Reset none. -/
  xSeen : Option Nat := none
deriving DecidableEq, Repr

/-! ### 05, 06: links, nodes and conversion -/

/-- A management request outstanding on a port (05 R109). -/
structure MgmtReq where
  /-- OP. -/
  op : Nat
  /-- TAG byte of the request. -/
  tag : Nat
  /-- ADDR. -/
  addr : Nat
  /-- DATA. -/
  data : Bytes
  /-- Retries made. -/
  tries : Nat
deriving DecidableEq, Repr

/-- A complete sample set of a pooled pair that waits for the verdict on its fragments (05 R97; 15 R394). -/
structure PendSet where
  /-- Control epoch at which it was taken. -/
  at_ : Nat
  /-- Cell voltages, 100 µV. -/
  cells : List Nat
  /-- Temperatures, 0.1 °C. -/
  temps : List Int
  /-- Epochs of the fragments still to be judged, and whether one was not valid at both twins. -/
  frags : List Nat × Bool
deriving DecidableEq, Repr

/-- What the module holds about one segment: its link (05 R113), its last uplink (05 R96), its conversion (06 R150). -/
structure Seg where
  /-- Link state (05 R113 sub 21). Reset 0. -/
  link : Nat := 0
  /-- Bring-up: next register block to read, identity seen (05 R111). Reset 0. -/
  bring : Nat := 0
  /-- CELLS of the node, read at bring-up (05 R111, 08 R205). Reset 0: not read. -/
  cellsN : Nat := 0
  /-- Outstanding management request (05 R109). Reset none. -/
  req : Option MgmtReq := none
  /-- Requests waiting for the port (05 R109). Reset none. -/
  reqQ : List MgmtReq := []
  /-- Next TAG byte of a request (05 R109). Reset 0 (choice). -/
  reqTag : Nat := 0
  /-- Sum and count of round trips being averaged, 0.25 ns (05 R101). Reset 0. -/
  rt : Int × Nat := (0, 0)
  /-- Stamp t1: departure of the last slot 0 comma after t_j, 0.25 ns (05 R90, R101). Reset 24 ns. -/
  t1 : Nat := 96
  /-- Sum of the stamps t1 over the same superframes (05 R101). Reset 0. -/
  t1Sum : Nat := 0
  /-- Arrival offset last written, 0.25 ns (05 R101). Reset none. -/
  arrival : Option Int := none
  /-- Clocks of the invalid frames of the last second, newest first, at most 11 (05 R112). Reset none. -/
  invAt : List Nat := []
  /-- More than 10 invalid frames in 1 s have been reported while it lasts (05 R112). Reset false. -/
  invRep : Bool := false
  /-- A margin below 2 dB at the node has been reported while it lasts (05 R112). Reset false. -/
  marginRep : Bool := false
  /-- The last uplink was valid (05 R96). Reset false. -/
  valid : Bool := false
  /-- The uplink of the superframe before was valid (15 R389 UVALID). Reset false. -/
  wasValid : Bool := false
  /-- MODEL of the node, read at bring-up (05 R110, 17 R429). Reset empty: not read. -/
  model : Bytes := []
  /-- Superframes in a row without a valid uplink (05 R112). Reset 0. -/
  missed : Nat := 0
  /-- Low 16 bits of the last UCRC (15 R389 UCHK). Reset 0. -/
  uchk : Nat := 0
  /-- Uplink safety word as received (15 R389 SWORDS). Reset zeros. -/
  sword : Bytes := []
  /-- SFLAGS of the last valid word (05 R98). Reset 0. -/
  sflags : Nat := 0
  /-- NSTAT, ALIGNED, IDENT, CMPTEST: byte 3 (05 R96). Reset 0. -/
  stat : Nat := 0
  /-- Byte 4: token report (05 R96, R113 sub 27). Reset 0. -/
  tokRep : Nat := 0
  /-- TGEN of the node (05 R96). Reset 0. -/
  tgen : Nat := 0
  /-- BSTATE (05 R96). Reset 0. -/
  bstate : Nat := 0
  /-- VSEG in 2 mV, FFFFH not available (05 R96). Reset FFFFH. -/
  vseg : Nat := 65535
  /-- Sample set under collection: SSET × 32 and a bit for each DPHASE taken (05 R97). Reset none. -/
  sset : Option Nat := none
  /-- Control epochs of the fragments of that set whose validity at both twins is still to be known, and whether one was found not to be
  valid at both (15 R394). Reset none. -/
  frags : List Nat × Bool := ([], false)
  /-- Complete sets whose fragments are still to be known valid at both twins, oldest first (15 R394). Reset none. -/
  sets : List PendSet := []
  /-- Cell voltages, 100 µV, FFFFH not available (05 R97). Reset not available. -/
  cells : List Nat := List.replicate 32 65535
  /-- Thermistors 0 to 7 and bridge sensors 0 to 1, 0.1 °C, 8000H not available (05 R97). Reset not available. -/
  temps : List Int := List.replicate 10 (-32768)
  /-- Excluded by segment command (06 R150). Reset false. -/
  excluded : Bool := false
  /-- Segment command waiting for its carrier boundary: 1 bypass, 2 return, 3 bypass for a node update, with the module time it counts from (06 R150). Reset none. -/
  segCmd : Option (Nat × Nat) := none
  /-- A segment command committed while another waits: it takes its place once its own time has come (06 R150). Reset none. -/
  segNext : Option (Nat × Nat) := none
  /-- Current direction at which it rested (06 R145). Reset 0. -/
  restDir : Int := 0
  /-- Out of A for this cause, 0 none (06 R150 sub 09). Reset 0. -/
  cause : Nat := 0
  /-- Bypass commanded and not yet seen: 0 until the release, then the control epoch of the governed superframe (06 R143,
  10 R249). Reset none. -/
  confirm : Option Nat := none
  /-- SAF holds the hard bypass (05 R104). Reset false. -/
  hard : Bool := false
  /-- Commissioning: tag the safety words are formed with meanwhile (05 R111). Reset none. -/
  comTag : Option Nat := none
  /-- Commissioning: superframes until its WRITE may leave, the node having taken the words with its own tag by then (05 R111). Reset 0. -/
  comWait : Nat := 0
  /-- Loss of commander has been reported while it lasts (05 R112). Reset false. -/
  lostRep : Bool := false
  /-- A minority report of a newer generation has been reported while it lasts (05 R100). Reset false. -/
  tokWarn : Bool := false
  /-- Latch report seen while it lasts (05 R112). Reset false. -/
  latchRep : Bool := false
  /-- Previous DUTY (06 R120). Reset 0. -/
  duty : Nat := 0
  /-- Time of the segment's last computed edge, module time in 10⁻¹² s (06 R120). Reset none. -/
  lastEdge : Option Int := none
  /-- Inserted fraction of the last superframe (06 R141). Reset 0. -/
  frac : Rat := 0
  /-- Inserted fractions of the superframes released and not yet ended, newest first, at most 3 (04 R78, 06 R141). Reset none. -/
  fracQ : List Rat := []
  /-- Inserted at the end of the last superframe released (05 R94, 06 R120). Reset false. -/
  ins : Bool := false
  /-- Wanted balancing term, duty (06 R137). Reset 0. -/
  want : Rat := 0
  /-- Granted balancing term, duty (06 R138). Reset 0. -/
  grant : Rat := 0
  /-- Age a_k (06 R138). Reset 1. -/
  age : Nat := 1
  /-- Sums of |g| and |w| since the last age tick (06 R138). Reset 0. -/
  sums : Rat × Rat := (0, 0)
  /-- Running time served in the queue at full w, ms (06 R138). Reset 0. -/
  served : Nat := 0
  /-- Running clocks of its entries into the queue within 1 h (06 R139). Reset none. -/
  joins : List Nat := []
  /-- Q_k, A², retained (06 R141). Reset 0 (choice). -/
  q : Rat := 0
  /-- One-minute buckets of i² × fraction, newest first, at most 60 (06 R141). Reset none. -/
  buckets : List Rat := []
  /-- Bucket being filled: sum and samples (06 R141). Reset 0. -/
  bucket : Rat × Nat := (0, 0)
  /-- RMS ratio left its band, while it lasts (06 R141). Reset false. -/
  rmsOut : Bool := false
deriving DecidableEq, Repr

/-- A valid command a node holds (05 R93). -/
structure NodeCmd where
  /-- Permit: SCMD 3CH (05 R93). -/
  permit : Bool
  /-- MODE modulate. -/
  modulate : Bool
  /-- PSLOT. -/
  pslot : Nat
  /-- NACT. -/
  nact : Nat
  /-- CIDX. -/
  cidx : Nat
  /-- DUTY. -/
  duty : Nat
deriving DecidableEq, Repr

/-- A segment node, contract side (05 R93 to R110). -/
structure Node where
  /-- The node has power (05 R108). Reset true (choice). -/
  powered : Bool := true
  /-- Registers by address, 16-bit (05 R110): TAG, SEGMENT kept without power. Reset empty: the table's defaults. -/
  regs : Store := []
  /-- NSTAT (05 R108). Reset 0 INIT. -/
  nstat : Nat := 0
  /-- Comma lock on port 0, port 1 (05 R108). Reset false. -/
  lock : Bool × Bool := (false, false)
  /-- Token port: 0 none, 1 port 0, 2 port 1 (05 R99). Reset none. -/
  tport : Nat := 0
  /-- Generation G (05 R99). Reset 0. -/
  gen : Nat := 0
  /-- CONFLICT in the last superframe (05 R96, R99). Reset false. -/
  conflict : Bool := false
  /-- Own control epoch (05 R93). Reset 0 (choice). -/
  epoch : Nat := 0
  /-- Claims received in this superframe that meet every condition of R93 but the last: port, TGEN, command. Reset none. -/
  claims : List (Nat × Nat × NodeCmd) := []
  /-- Command for the superframe after the present one (05 R95). Reset none. -/
  next : Option NodeCmd := none
  /-- Command in force (05 R95). Reset none. -/
  cmd : Option NodeCmd := none
  /-- MISS (05 R106). Reset 0. -/
  miss : Nat := 0
  /-- ALIGNED (05 R102). Reset false. -/
  aligned : Bool := false
  /-- Superframes in a row within the bound (05 R102). Reset 0. -/
  inBound : Nat := 0
  /-- Superframes outside the bound since it was last set (05 R102: any 2 clear it). Reset 0. -/
  outBound : Nat := 0
  /-- Time source: port (05 R102). Reset 0. -/
  source : Nat := 0
  /-- Hard-bypass latch (05 R103). Reset clear. -/
  latch : Bool := false
  /-- Superframes since a pattern was last received on either port (05 R105). Reset none. -/
  patternAge : Option Nat := none
  /-- High-side desaturation (05 R96 BSTATE[2]). Reset false. -/
  desatHigh : Bool := false
  /-- Low-side desaturation (05 R96 BSTATE[3]). Reset false. -/
  desatLow : Bool := false
  /-- Gate supply fault (05 R96 BSTATE[4]). Reset false. -/
  gateFault : Bool := false
  /-- Bypassed by loss of commander (05 R106). Reset false. -/
  lost : Bool := false
  /-- BRIDGE_FAULT flag (05 R98). Reset false. -/
  bridgeFault : Bool := false
  /-- NODE_FAULT flag latched apart from default thresholds (05 R98). Reset false. -/
  nodeFault : Bool := false
  /-- Comparator flags CELL_OV, CELL_UV, CELL_OT, BRIDGE_OT, bits 0 to 3 (05 R98). Reset 0. -/
  flags : Nat := 0
  /-- CMPTEST (05 R98). Reset false. -/
  cmptest : Bool := false
  /-- Inserted at the superframe start (05 R96 BSTATE[0]). Reset false. -/
  inserted : Bool := false
  /-- Time both ports have been dark, µs (05 R107). Reset 0. -/
  dark : Nat := 0
  /-- Image blocks received: number, bytes (05 R109). Reset none. -/
  blocks : List (Nat × Bytes) := []
  /-- A WRITE taken, applied at the next superframe start (05 R109). Reset none. -/
  staged : List (Nat × Bytes) := []
  /-- Image activation running (05 R108 UPDATE). Reset false. -/
  updating : Bool := false
  /-- Token port and generation at the superframe's start, from which its claims are judged together (05 R99). Reset none, 0. -/
  base : Nat × Nat := (0, 0)
  /-- SHA-256 of the image activated since manufacture, empty for the first image (05 R109). Reset empty. -/
  image : Bytes := []
  /-- Activation to be answered after the restart: port, tag, digest (05 R109). Reset none. -/
  act : Option (Nat × Byte × Bytes) := none
  /-- Sample set taken last: cells 0 to 31, thermistors 0 to 7, bridge sensors 0 and 1, 16 bits each (05 R97). Reset not
  available. -/
  sampNow : List Nat := List.replicate 32 0xFFFF ++ List.replicate 10 0x8000
  /-- Sample set being sent, the one before (05 R97). Reset not available. -/
  sampSent : List Nat := List.replicate 32 0xFFFF ++ List.replicate 10 0x8000
  /-- Edge instants of this superframe, ns after its start (05 R94, R95). Reset none. -/
  edges : List Nat := []
  /-- Inserted when this superframe ends (05 R94, R95). Reset false. -/
  endIns : Bool := false
  /-- The low-side switch conducts (05 R95). Reset true: bypassed. -/
  low : Bool := true
  /-- Superframes since the condition of each comparator flag was last present (05 R98). Reset 0. -/
  flagAge : List Nat := List.replicate 4 0
deriving DecidableEq, Repr

/-- The command of one segment in a release (05 R91, R92). -/
structure SegOut where
  /-- MODE modulate. -/
  modulate : Bool := false
  /-- SCMD permit. -/
  permit : Bool := false
  /-- PSLOT. -/
  pslot : Nat := 0
  /-- DUTY. -/
  duty : Nat := 0
deriving DecidableEq, Repr

/-- An output vector of the control engine (04 R78). -/
structure Release where
  /-- NACT. -/
  nact : Nat := 4
  /-- CIDX of the governed superframe. -/
  cidx : Nat := 0
  /-- One command per segment. -/
  segs : List SegOut := List.replicate 16 {}
deriving DecidableEq, Repr

/-- String conversion (06). -/
structure Conv where
  /-- Active set A, ascending (06 R114). Reset empty. -/
  act : List Nat := []
  /-- Phase slots of the present carrier cycle: segment, slot (06 R121, R122). Reset none. -/
  slots : List (Nat × Nat) := []
  /-- NACT (06 R114). Reset 0. -/
  nact : Nat := 0
  /-- CIDX of the superframe governed by the next release (06 R116). Reset 0. -/
  cidx : Nat := 0
  /-- LFSR state (06 R122). Reset 0 (choice): seeded at PRECHARGE. -/
  lfsr : Nat := 0
  /-- Carrier periods since the last draw (06 R123). Reset 0. -/
  periods : Nat := 0
  /-- A has changed since the arrangement was fixed (06 R123). Reset false. -/
  dirty : Bool := false
  /-- Common duty D (06 R115). Reset 0. -/
  d : Rat := 0
  /-- Mode in effect: 0 CURRENT, 1 POWER, 2 BUSV (06 R131). Reset 0. -/
  mode : Nat := 0
  /-- Ramp value r in A, W or V (06 R132). Reset 0. -/
  r : Rat := 0
  /-- Last dispatch entry other than 8000H since the source became dispatch, 0.1 A (13 R346). Reset none. -/
  dispLast : Option Int := none
  /-- Tag of the last dispatch step applied (01 R23). Reset none. -/
  dispTag : Option Nat := none
  /-- The own entry of a dispatch step received and waiting for the boundary: tag, entry in 0.1 A (01 R23). Reset none. -/
  dispHeld : Option (Nat × Int) := none
  /-- Discharge limit, A (06 R128). Reset 0. -/
  limDis : Rat := 0
  /-- Limit flags of the last sample (06 R149). Reset 0. -/
  flags : Nat := 0
  /-- Charge limit, A (06 R128). Reset 0. -/
  limCh : Rat := 0
  /-- Shut-down limit magnitude, A (03 R58). Reset none. -/
  shutLim : Option Rat := none
  /-- Clock at which both limits reached zero in a shut-down (03 R58). Reset none. -/
  zeroAt : Option Nat := none
  /-- Limits held at 0 after fewer than 4 segments (06 R144). Reset false. -/
  below4 : Bool := false
  /-- Headroom H, V (06 R124). Reset 0 (choice). -/
  h : Rat := 0
  /-- Headroom condition reported: 0 none, 1 below the band, 2 negative (06 R151). Reset 0. -/
  hRep : Nat := 0
  /-- String current of the last sample, A (06 R148). Reset 0 (choice). -/
  i : Rat := 0
  /-- Bus voltage of the last sample, V (06 R148). Reset 0 (choice). -/
  vBus : Rat := 0
  /-- String voltage of the last sample, V (07 R160). Reset 0 (choice). -/
  vStr : Rat := 0
  /-- Fluxgate current of the last sample, A (07 R160). Reset 0 (choice). -/
  iFg : Rat := 0
  /-- Inserted voltage, V (06 R114). Reset 0 (choice). -/
  vIns : Rat := 0
  /-- Samples of the last 1 s that no later sample exceeds: clock and bus voltage, newest first (06 R124). Reset none. -/
  vMax : List (Nat × Rat) := []
  /-- String voltages of the last carrier period, newest first (06 R133). Reset none. -/
  vStrAvg : List Rat := []
  /-- Running sum of i over the last 1 ms for the droop term, newest first (06 R130). Reset none. -/
  iAvg : List Rat := []
  /-- Soft-start phase (06 R133). Reset 0 idle. -/
  phase : Nat := 0
  /-- Clock at which the phase began (06 R133). Reset 0. -/
  phaseAt : Nat := 0
  /-- Clock at which SSW_FB showed closed (06 R134). Reset none. -/
  closedAt : Option Nat := none
  /-- Clock since which the end condition of phase 2 or 5 holds (06 R133). Reset none. -/
  okSince : Option Nat := none
  /-- Clock since which the bus is below 0.1 V_nom (06 R129, R134). Reset none. -/
  lowSince : Option Nat := none
  /-- Clock since which the bus is at or above 0.1 V_nom during a collapse hold (06 R129). Reset none. -/
  highSince : Option Nat := none
  /-- Bus-collapse hold (06 R129). Reset false. -/
  collapse : Bool := false
  /-- Segments in the priority queue, head first (06 R138). Reset none. -/
  queue : List Nat := []
  /-- Running time with a direction, ms, for ages and queue (06 R138). Reset 0. -/
  running : Nat := 0
  /-- Clock since which the target is clamped (06 R151 32/2). Reset none. -/
  clampSince : Option Nat := none
  /-- Target clamp reported while it lasts (06 R151). Reset false. -/
  clampRep : Bool := false
  /-- Fold-back reported while it lasts (06 R151). Reset false. -/
  foldRep : Bool := false
  /-- Sign of the current direction at the last sample (06 R136). Reset 0. -/
  dir : Int := 0
  /-- Output vector released in the last sample (04 R78). Reset: every segment bypassed. -/
  rel : Release := {}
  /-- Output vector latched for the next superframe (04 R78). Reset: every segment bypassed. -/
  lat : Release := {}
  /-- Energy discharged and charged since manufacture, Wh (17 R439 0x4800:40, 41). Reset 0. -/
  energy : Rat × Rat := (0, 0)
deriving DecidableEq, Repr

/-! ### 15: the twin -/

/-- What the last valid mirror frames say of the partner (15 R389). -/
structure Partner where
  /-- CEPOCH of the last valid frame, of which any second copy is dropped (15 R386). Reset none. -/
  cepoch : Option Nat := none
  /-- SENDER. Reset 0 none. -/
  node : Nat := 0
  /-- PSTATE byte. Reset 0. -/
  pstate : Nat := 0
  /-- Consecutive frames that report healthy (10 R261). Reset 0. -/
  healthyRun : Nat := 0
  /-- HSCHEMA. Reset 0. -/
  schema : Nat := 0
  /-- KEPOCH. Reset 0. -/
  kepoch : Nat := 0
  /-- TGEN. Reset 0. -/
  tgen : Nat := 0
  /-- TOKEN byte. Reset 0. -/
  token : Nat := 0
  /-- SAFE byte. Reset 0. -/
  safe : Nat := 0
  /-- TRIPFN. Reset 0. -/
  tripfn : Nat := 0
  /-- LOOPI, mA. Reset 0. -/
  loopi : Nat := 0
  /-- TMOD, 0.1 °C. Reset 8000H. -/
  tmod : Int := -32768
  /-- UVALID. Reset 0. -/
  uvalid : Nat := 0
  /-- ISH, ASHLAR32 as received. Reset 0. -/
  ish : Nat := 0
  /-- LASTREF. Reset 0. -/
  lastref : Nat := 0
  /-- Serial of the last partner (15 R401). Reset none. -/
  serial : Option Nat := none
  /-- Its active safety set: CRC, and whether it is confirmed (15 R398). Reset none: not told. -/
  safeCrc : Option (Nat × Bool) := none
deriving DecidableEq, Repr

/-- What one sample gives the estimator, the lock-in unit and the I²t tracking, until the active twin's string current of that sample is
known (15 R394). -/
structure ShareIn where
  /-- Control epoch of the sample. -/
  epoch : Nat
  /-- Its module time. -/
  mtime : Nat
  /-- The own string current, A. -/
  i : Rat
  /-- Inserted fraction of each segment. -/
  frac : List Rat
  /-- Segments outside A. -/
  away : List Bool
deriving DecidableEq, Repr

/-- The inputs of one sweep held during a state transfer (15 R398): per cell the sums and the not-available count, per segment the sets,
the current, the inserted fraction and the thermistors (08 R201). -/
structure HeldSweep where
  /-- 512 cells. -/
  cells : List ((Nat × Nat) × Nat)
  /-- 16 segments. -/
  segs : List (Nat × (Rat × Nat) × Rat × List Int)
deriving DecidableEq, Repr

/-- Twin pairing. -/
structure Twin where
  /-- Pair state, 0 to 4 (15 R403 0x4A00:01). Reset 0. -/
  pair : Nat := 0
  /-- Holds the drive token (01 R13, 15 R397). Reset false (03 R66). -/
  holds : Bool := false
  /-- Token generation held or claimed (15 R403 0x4A00:03). Reset 0. -/
  gen : Nat := 0
  /-- Claims a newer generation (15 R389 TOKEN[1]). Reset false. -/
  claims : Bool := false
  /-- Handover requested (15 R400). Reset false. -/
  hoReq : Bool := false
  /-- Handover accepted (15 R400). Reset false. -/
  hoAcc : Bool := false
  /-- Superframes since the first claim of G + 1 (15 R400). Reset none. -/
  hoCount : Option Nat := none
  /-- Release FAST_OFF and the loop once the uplinks report G + 1 (02 R45, 15 R400). Reset false. -/
  hoRelease : Bool := false
  /-- Take SF-12 once the handover is done (15 R396). Reset false. -/
  hoSf12 : Bool := false
  /-- Frames missing in a row (15 R399). Reset 0. -/
  missing : Nat := 0
  /-- In step at the last valid frame (15 R399). Reset false. -/
  wasInStep : Bool := false
  /-- What the partner's frames say. Reset as Partner. -/
  p : Partner := {}
  /-- Consecutive mismatches of SDIG, EDIG, arrangement (15 R396). Reset 0. -/
  mism : List Nat := [0, 0, 0]
  /-- Consecutive matching SDIG comparisons, and a matching EDIG seen (15 R398). Reset none. -/
  matched : Nat × Bool := (0, false)
  /-- Pair check running (15 R396). Reset false. -/
  check : Bool := false
  /-- A failed own pair check makes this twin unhealthy (15 R389 PSTATE[4]). Reset false. -/
  checkFailed : Bool := false
  /-- State transfer: clock at which it started, epoch E (15 R398). Reset none. -/
  transfer : Option (Nat × Nat) := none
  /-- A transfer is to start at the next course boundary (15 R398). Reset false. -/
  transferDue : Bool := false
  /-- The complete state image received (15 R398). Reset none. -/
  image : Option Bytes := none
  /-- Commits held during a transfer: epoch, requests in order of application, logic input image of the course (15 R398). Reset none. -/
  heldCommits : List (Nat × List Pend × Bytes) := []
  /-- Inputs of the sweeps held during a transfer, oldest first (15 R398). Reset none. -/
  heldSweeps : List HeldSweep := []
  /-- Fragment sequence of each bulk channel (15 R389 BSEQ). Reset 0 (choice). -/
  bseq : List Nat := List.replicate 8 0
  /-- Bytes 0 to 235 of the own last frame (15 R394, R395). Reset none. -/
  mine : Bytes := []
  /-- ESWEEP of the last sweep whose digests were compared (15 R395). Reset none. -/
  edigAt : Option Nat := none
  /-- Standby: frames received since the own boundary whose commit is still to come (15 R391). Reset none. -/
  due : Option Nat := none
  /-- Verdicts received: epoch, a bit per decided request (15 R391). Reset none. -/
  verdicts : Option (Nat × List Bool) := none
  /-- Logic input image of the active twin for the present course (15 R391, R394). Reset none. -/
  inputs : Option Bytes := none
  /-- Bulk channels with data waiting to be sent: channel, bytes (15 R390). Reset none. -/
  bulk : List (Nat × Bytes) := []
  /-- Bulk data received of a channel whose last fragment is still to come: channel, bytes, none where a fragment was lost (15 R390).
  Reset none. -/
  rxBulk : List (Nat × Option Bytes) := []
  /-- BSEQ that the next fragment of each bulk channel carries, none before the first (15 R389). Reset none. -/
  rxSeq : List (Option Nat) := List.replicate 8 none
  /-- Sequence of the next forwarded request in this course (15 R391). Reset 0. -/
  fwdSeq : Nat := 0
  /-- Last commit record: epoch, requests decided, CRC (15 R391). Reset zeros. -/
  commit : Nat × Nat × Nat := (0, 0, 0)
  /-- Mirrored requests held until the commit record, at the standby (15 R391). Reset none. -/
  mirrored : List Pend := []
  /-- Frames in a row without a valid copy, per fibre (15 R404 120/1). Reset 0. -/
  dead : List Nat := [0, 0]
  /-- Own state and estimator digests reported in the last frame (15 R395). Reset 0. -/
  sdig : Nat := 0
  /-- Estimator digest of the last completed sweep (15 R389 EDIG). Reset 0. -/
  edig : Nat := 0
  /-- That sweep's start / 10 ms (15 R389 ESWEEP). Reset 0. -/
  esweep : Nat := 0
  /-- CARRY quantities of the partner's last frame, ASHLAR32 (15 R389, R394). Reset zeros. -/
  carry : List Nat := [0, 0, 0, 0, 0]
  /-- Samples whose string current is still to come with the active twin's frame, oldest first (15 R394). Reset none. -/
  share : List ShareIn := []
  /-- Result of the partner's pair check, as received on channel 7 (15 R396). Reset none. -/
  peerPass : Option Bool := none
  /-- Own CARRY quantities at the start and at the end of the last sample (15 R394). Reset none. -/
  ownCarry : List (List Rat) := []
  /-- A safety set came by state transfer, and its node thresholds are still to be written (15 R398). Reset false. -/
  thrDue : Bool := false
  /-- Pairing refused with this check (15 R398). Reset 0. -/
  refused : Nat := 0
deriving DecidableEq, Repr

/-! ### 07: the control engine, the chisel and the capture unit -/

/-- An ashlar vector: lane mantissas and the shared exponent (07 R152). -/
structure Ash where
  /-- Mantissas, 1 to 4 lanes. -/
  m : List Int := [0]
  /-- Exponent. -/
  e : Int := -128
deriving DecidableEq, Repr

/-- The structure and coefficients of a stage (07 R192). -/
structure Stage where
  /-- Type code (07 R166). -/
  ty : Nat := 0
  /-- Lanes. -/
  lanes : Nat := 1
  /-- Mode mask (07 R161). -/
  mask : Nat := 7
  /-- Source words of x1 to x4 (07 R159). -/
  src : List Nat := [255, 255, 255, 255]
  /-- Variant word. -/
  variant : Nat := 0
  /-- Coefficient exponent (07 R155). -/
  ec : Int := -128
  /-- Coefficient mantissas c0 to c7 (07 R155). -/
  cm : List Int := [0, 0, 0, 0, 0, 0, 0, 0]
deriving DecidableEq, Repr

/-- The state of a stage (07 R161 to R171, R177). -/
structure StageSt where
  /-- Output of the last sample (07 R159 source 80H + s). Reset 0. -/
  out : Ash := {}
  /-- Wide state 1 per lane: integrator, s1, î (07 R168 to R170). Reset 0. -/
  w1 : List Rat := []
  /-- Wide state 2 per lane: d, s2, d̂ (07 R168 to R170). Reset 0. -/
  w2 : List Rat := []
  /-- Previous error of a PID, previous V_bus of OBSERVER and PLUMB (07 R168, R170, R177). Reset none. -/
  prev : List Rat := []
  /-- PLUMB: the last deltas, newest first, at most 10 (07 R177). Reset none. -/
  deltas : List Rat := []
  /-- PLUMB: the last i_sh, newest first, at most 10 (07 R177). Reset none. -/
  ish : List Rat := []
  /-- Output was at hi, at lo in the previous sample, per lane (07 R168). Reset false. -/
  atHi : List Bool := []
  /-- At lo. -/
  atLo : List Bool := []
  /-- Stage flags (07 R192 sub 18). Reset 0. -/
  flags : Nat := 0
  /-- Its output overflowed in the last sample (07 R154). Reset false. -/
  ovf : Bool := false
  /-- Its mode bit was set in the previous sample (07 R161). Reset false. -/
  modeOn : Bool := false
  /-- It tracks in its first sample after a structural change (07 R164). Reset false. -/
  fresh : Bool := false
deriving DecidableEq, Repr

/-- The control engine. -/
structure Engine where
  /-- The stage table in effect (07 R158). Reset: no law loaded until `Machine.bedrock` is taken at BOOT. -/
  tab : List Stage := []
  /-- Stage states. Reset none. -/
  st : List StageSt := []
  /-- Committed table that takes effect at the sample of R80 (07 R164). Reset none. -/
  nextTab : Option (List Stage) := none
  /-- The stage writes of the commit under way were refused (07 R163). Reset false. -/
  refused : Bool := false
  /-- V_ins* of the last sample (07 R165). Reset 0. -/
  vinsCmd : Rat := 0
  /-- Samples in a row with a table not finished (04 R79). Reset 0. -/
  late : Nat := 0
  /-- Consecutive samples with r_m and r_x above their fault levels (07 R179). Reset 0. -/
  faultRun : Nat × Nat := (0, 0)
  /-- Largest fault count of the course (07 R193 3C). Reset 0. -/
  faultMax : Nat := 0
  /-- Warning raised and not yet left for a whole course, r_m and r_x (07 R179). Reset false. -/
  warned : Bool × Bool := (false, false)
  /-- Residual above its warning level in this course, r_m and r_x (07 R179). Reset false. -/
  above : Bool × Bool := (false, false)
  /-- Largest magnitudes in this course, A (07 R193 38, 39). Reset 0. -/
  resMax : Rat × Rat := (0, 0)
  /-- Control fault held in SAF (07 R179). Reset false. -/
  fault : Bool := false
  /-- Event 50 code 1 raised in this course (07 R154). Reset false. -/
  ovfRep : Bool := false
  /-- The module drove the string in the previous sample (07 R161). Reset false. -/
  drove : Bool := false
  /-- IN9: inserted voltage averaged over the last superframe, V (07 R160). Reset 0. -/
  in9 : Rat := 0
  /-- IN0 to IN15 of the last sample, for the capture channels (07 R160, R189). Reset none. -/
  ins : List Ash := []
deriving DecidableEq, Repr

/-- The chisel (07 R182 to R188). -/
structure Chisel where
  /-- State of 0x3200:25. Reset 0. -/
  st : Nat := 0
  /-- Control epoch at which the tuning signal starts or started (07 R183, R195 26). Reset 0. -/
  start : Nat := 0
  /-- Chirp phase accumulator, 32 bits (07 R183). Reset 0. -/
  theta : Nat := 0
  /-- PRBS register (07 R184). Reset 0. -/
  prbs : Nat := 0
  /-- Signal of the last sample (07 R182). Reset 0. -/
  sig : Rat := 0
  /-- The tuning signal has begun (07 R183, R188). Reset false. -/
  begun : Bool := false
  /-- The impedance multisine is injected (07 R187). Reset false. -/
  imp : Bool := false
deriving DecidableEq, Repr

/-- The capture unit (07 R189 to R191). -/
structure Capture where
  /-- State of 0x3201:0D. Reset 0. -/
  st : Nat := 0
  /-- Samples held, 16 bytes each, newest first (07 R189). Reset none. -/
  buf : List Bytes := []
  /-- Samples until the next recorded one (07 R189). Reset 0. -/
  dec : Nat := 0
  /-- Committed commands that wait for their sample, oldest first: the command and the module time from which it takes effect (04 R80,
  07 R190). Reset none. -/
  cmds : List (Nat × Nat) := []
  /-- The level trigger has seen the channel beyond the hysteresis: rising, falling (07 R190). Reset false. -/
  prime : Bool × Bool := (false, false)
  /-- The event named by 0x3201:0B has been raised since the last sample (07 R190). Reset false. -/
  eventSeen : Bool := false
  /-- The frozen inputs of the present sample carry the notice of that event (07 R190). Reset false. -/
  notice : Bool := false
  /-- A force fires the trigger in the present sample (07 R190). Reset false. -/
  force : Bool := false
deriving DecidableEq, Repr

/-! ### 08: the estimator -/

/-- A cell context (08 R198, R208 to R222, R229). -/
structure Ctx where
  /-- SoC_int, a fraction, retained (03 R66). Reset 0 (choice): set at the first restart (03 R65). -/
  soc : Rat := 0
  /-- v1 and v2, V. Reset 0 (choice). -/
  v1 : Rat := 0
  /-- v2. Reset 0 (choice). -/
  v2 : Rat := 0
  /-- Hysteresis voltage h, V. Reset 0 (choice). -/
  h : Rat := 0
  /-- Covariance, row by row (08 R208). Reset 0 (choice). -/
  p : List Rat := List.replicate 16 0
  /-- Learned capacity Q_c, Ah, retained (08 R214). Reset 0 (choice): Q_NOM is taken where it is 0. -/
  qc : Rat := 0
  /-- Scale factors α_s, α_1, α_2 (08 R218). Reset 1 (08 R215). -/
  aS : Rat := 1
  /-- α_1. Reset 1. -/
  a1 : Rat := 1
  /-- α_2. Reset 1. -/
  a2 : Rat := 1
  /-- Sweeps since the last accepted impedance result (08 R218). Reset none. -/
  impAge : Option Nat := none
  /-- In BLEND (08 R210). Reset COUNT. -/
  blend : Bool := false
  /-- Consecutive outliers (08 R209). Reset 0. -/
  outliers : Nat := 0
  /-- SoC_rep, retained (08 R221). Reset 0 (choice). -/
  rep : Rat := 0
  /-- Consecutive updates at or below V_EMPTY with direction +1 (08 R212). Reset 0. -/
  emptyRun : Nat := 0
  /-- Consecutive updates at or above V_FULL with direction −1 (08 R212). Reset 0. -/
  fullRun : Nat := 0
  /-- No voltage update was withheld in the run (08 R213). Reset true. -/
  runClean : Bool := true
  /-- At the empty point (08 R212). Reset false. -/
  atEmpty : Bool := false
  /-- At the full point (08 R212). Reset false. -/
  atFull : Bool := false
  /-- Consecutive updates at direction 0 (08 R212). Reset 0. -/
  rest : Nat := 0
  /-- Last anchor: 0 none, 1 empty, 2 full (08 R213). Reset 0. -/
  anchor : Nat := 0
  /-- Module time of the last anchor (08 R213). Reset 0. -/
  anchorAt : Nat := 0
  /-- Charge counted since the last empty and the last full anchor, Ah (08 R213). Reset none. -/
  since : Option Rat × Option Rat := (none, none)
  /-- Last reference of the impedance or window kind with σ_SoC ≤ 1 %: SoC_int after it, charge counted since (08 R214). Reset none. -/
  ref : Option (Rat × Rat) := none
  /-- Capacity-disagreement flag (08 R222). Reset false. -/
  disagree : Bool := false
  /-- Charge-and-voltage events raised since the last anchor, bit code (08 R222). Reset 0. -/
  said : Nat := 0
  /-- Voltage update withheld in the last interval (08 R201). Reset false. -/
  withheld : Bool := false
  /-- Deepest voltage level entered, −4 to 4 (08 R226). Reset 0. -/
  level : Int := 0
  /-- v_c of the last interval, V (08 R201). Reset none. -/
  vc : Option Rat := none
  /-- T_c, 0.1 °C (08 R201). Reset none. -/
  tc : Option Rat := none
  /-- No temperature of the cell was available in the last interval: TCELL holds the not-available value (00 R4). Reset true. -/
  tNa : Bool := true
  /-- Sum of the sample sets of the interval, 100 µV, and their count (08 R201). Reset 0. -/
  acc : Nat × Nat := (0, 0)
  /-- Sets of the interval with the not-available value (08 R201). Reset 0. -/
  na : Nat := 0
  /-- Sum, count and not-available sets that already belong to the next interval (08 R201). Reset 0. -/
  next : (Nat × Nat) × Nat := ((0, 0), 0)
  /-- Cell current of the last interval, A (08 R201). Reset 0. -/
  ic : Rat := 0
  /-- Change of SoC by charge counting in the last update (08 R221). Reset 0. -/
  dq : Rat := 0
  /-- Sums of SoC_int and T_c over the impedance window, and updates in it (08 R218). Reset 0. -/
  win : Rat × Rat × Nat := (0, 0, 0)
deriving DecidableEq, Repr

/-- Segment aggregates (08 R223, R225, R228). -/
structure SegEst where
  /-- Reported SoC (08 R221), retained. Reset 0 (choice). -/
  rep : Rat := 0
  /-- Internal SoC (08 R223). Reset 0 (choice). -/
  soc : Rat := 0
  /-- E_rem and E_room, Wh (08 R223). Reset 0 (choice). -/
  eRem : Rat := 0
  /-- E_room. Reset 0 (choice). -/
  eRoom : Rat := 0
  /-- SoH (08 R223). Reset 0 (choice). -/
  soh : Rat := 0
  /-- Limiting cells for discharge and charge (08 R223). Reset none. -/
  limCell : Option Nat × Option Nat := (none, none)
  /-- Discharge and charge limit, A (08 R225). Reset 0. -/
  lim : Rat × Rat := (0, 0)
  /-- At its empty point, at its full point (08 R212). Reset false. -/
  ended : Bool × Bool := (false, false)
  /-- Sample sets taken in the interval (08 R201). Reset 0. -/
  sets : Nat := 0
  /-- Sum of i × inserted fraction over the interval, and its samples (08 R201). Reset 0. -/
  iAcc : Rat × Nat := (0, 0)
  /-- Inserted fractions, mean per sweep over the last 1 s, newest first (08 R225). Reset none. -/
  fracs : List Rat := []
  /-- Sum of inserted fractions of the interval. Reset 0. -/
  fAcc : Rat := 0
  /-- Consecutive sweeps with the sum of cell voltages off VSEG (08 R231 k = 2 code 2). Reset 0. -/
  sumOff : Nat := 0
  /-- Lock-in: sums of segment current × cos, × sin per tone (08 R216). Reset 0. -/
  lockI : List (Rat × Rat) := List.replicate 8 (0, 0)
  /-- Lock-in of the 32 cells: per cell, per tone (08 R216). Reset 0. -/
  lockV : List (List (Rat × Rat)) := List.replicate 32 (List.replicate 8 (0, 0))
  /-- Sample sets taken in the impedance window (08 R217). Reset 0. -/
  lockSets : Nat := 0
  /-- Sum of inserted fractions and samples of the window. Reset 0. -/
  lockF : Rat × Nat := (0, 0)
  /-- The segment left A in the window (08 R217). Reset false. -/
  lockOut : Bool := false
  /-- Control epoch and segment current of the last 20 samples, newest first (08 R216). Reset none. -/
  setI : List (Nat × Rat) := []
  /-- What already belongs to the next interval: sum of i × inserted fraction, samples, sum of fractions (08 R201). Reset 0. -/
  next : (Rat × Nat) × Rat := ((0, 0), 0)
  /-- Thermistors of the last sample set of the interval, 0.1 °C (08 R201). Reset none. -/
  temps : List Int := []
  /-- Thermistors of the last sample set that already belongs to the next interval. Reset none. -/
  nextTemps : Option (List Int) := none
deriving DecidableEq, Repr

/-- The estimator. -/
structure Est where
  /-- The 512 contexts. Reset as Ctx. -/
  ctx : List Ctx := List.replicate 512 {}
  /-- The segments. Reset as SegEst. -/
  seg : List SegEst := List.replicate 16 {}
  /-- String SoC reported, internal, SoH, E_rem, E_room (08 R224). Reset 0 (choice). -/
  rep : Rat := 0
  /-- String SoC internal. Reset 0 (choice). -/
  soc : Rat := 0
  /-- String SoH. Reset 0 (choice). -/
  soh : Rat := 0
  /-- Σ E_rem. Reset 0 (choice). -/
  eRem : Rat := 0
  /-- Σ E_room. Reset 0 (choice). -/
  eRoom : Rat := 0
  /-- Estimator discharge and charge limit, A (08 R225). Reset 0. -/
  lim : Rat × Rat := (0, 0)
  /-- Uncertainty (08 R219). Reset 0 (choice). -/
  sigma : Rat := 0
  /-- String end points reached: discharge, charge (08 R222). Reset false. -/
  ended : Bool × Bool := (false, false)
  /-- Clock since which the uncertainty is above its limit (08 R219). Reset none. -/
  overSince : Option Nat := none
  /-- Event 67 code 1 raised while it lasts (08 R219). Reset false. -/
  overRep : Bool := false
  /-- Clock since which a reference window is requested (08 R219). Reset none. -/
  reqSince : Option Nat := none
  /-- Clock since which |i| ≤ 0.02 I_max (08 R219). Reset none. -/
  quietSince : Option Nat := none
  /-- The window recognised in the present quiet time has completed (08 R219). Reset false. -/
  quietDone : Bool := false
  /-- The request came from the operator or the module (08 R219). Reset false. -/
  requested : Bool := false
  /-- The request has stood unmet for 24 h (08 R219). Reset false. -/
  unmet : Bool := false
  /-- Every fitted cell is in BLEND, reported (08 R210). Reset false. -/
  allBlend : Bool := false
  /-- Bank switch waits for the first sweep that starts at this module time or later (08 R206). Reset none. -/
  switchAt : Option Nat := none
  /-- Depth of the string SoC low and high levels (08 R226). Reset 0. -/
  socLevel : Nat × Nat := (0, 0)
  /-- Samples of the impedance window in which stage 13 or 39 clamped, and samples of the window (08 R217). Reset 0. -/
  winClamp : Nat × Nat := (0, 0)
  /-- The multisine was injected in every sample of the window (08 R217). Reset false. -/
  winClean : Bool := false
  /-- Sweeps since BOOT, for the once-a-second energy (08 R223). Reset 0. -/
  sweeps : Nat := 0
  /-- A cold restart is owed: whole estimator, or segments (03 R65, 08 R215). Reset false. -/
  cold : Bool := false
  /-- Contexts not yet started since their cold restart (03 R65). Reset none. -/
  coldCtx : List Nat := []
deriving DecidableEq, Repr

/-! ### 09: temperature -/

/-- One temperature sensor: a thermistor, a bridge sensor or a module sensor (09 R234 to R240). -/
structure Sens where
  /-- Value of the last evaluation, 0.1 °C, none not available (09 R234). Reset none. -/
  v : Option Rat := none
  /-- Value used: the reading or its substitute (09 R240). Reset none. -/
  use : Option Rat := none
  /-- Sum and count of the valid readings of the interval (09 R234). Reset 0. -/
  acc : Int × Nat := (0, 0)
  /-- Sum and count of the readings that already belong to the next interval (09 R234). Reset 0. -/
  next : Int × Nat := (0, 0)
  /-- Consecutive failed conclusive checks (09 R239). Reset 0. -/
  fails : Nat := 0
  /-- Consecutive not-available evaluations (09 R239). Reset 0. -/
  na : Nat := 0
  /-- Conclusive checks in a row within 4.0 K while suspect (09 R239). Reset 0. -/
  clean : Nat := 0
  /-- Suspect (09 R239). Reset false. -/
  suspect : Bool := false
  /-- Levels held: warning, throttle, shutdown (09 R235). Reset none held. -/
  lev : Bool × Bool × Bool := (false, false, false)
  /-- A suspect reading at or above warning has been reported while it lasts (09 R240). Reset false. -/
  hotRep : Bool := false
  /-- Consecutive 100 ms means at or above the overtemperature level of SF-03 (10 R255). Reset 0. -/
  otRun : Nat := 0
deriving DecidableEq, Repr

/-- Thermal management. -/
structure Therm where
  /-- Ten sensors per segment: thermistors 0 to 7, bridge sensors 0 and 1. -/
  seg : List (List Sens) := List.replicate 16 (List.replicate 10 {})
  /-- Four module sensors (09 R233). -/
  mod : List Sens := List.replicate 4 {}
  /-- Module time, in 100 ms, of the last evaluation (09 R234). Reset 0. -/
  last : Nat := 0
  /-- Thermal factor F (09 R241). Reset 1. -/
  f : Rat := 1
  /-- Charging refused by temperature (09 R243). Reset true: 0x3A00:1C resets to 0. -/
  chRefused : Bool := true
  /-- Current limits 0 for a bridge shutdown or two suspect bridge sensors (09 R237, R240). Reset false. -/
  zero : Bool := false
  /-- 50 % derate for two adjacent suspects (09 R240). Reset false. -/
  half : Bool := false
  /-- Some throttle band is held (09 R241). Reset false. -/
  throttle : Bool := false
  /-- Segments with the adjacent-suspect derate reported, and with the bypass for three suspects reported (09 R246). Reset none. -/
  adjRep : List Nat := []
  /-- Segments bypassed for three suspects. Reset none. -/
  threeRep : List Nat := []
  /-- Thermal state per segment (09 R245 sub 35). Reset 0. -/
  state : List Nat := List.replicate 16 0
  /-- Derate factor per segment (09 R245 sub 36). Reset 1. -/
  fac : List Rat := List.replicate 16 1
deriving DecidableEq, Repr

/-! ### 11: CAN -/

/-- A frame waiting to leave (11 R288 to R293). -/
structure TxFrame where
  /-- The frame. -/
  f : CanFrame
  /-- Original class. -/
  cls : Nat
  /-- Class after promotion (11 R291). -/
  ring : Nat
  /-- Clock at which it was enqueued. -/
  at_ : Nat
  /-- Order of enqueueing, for equal clocks. -/
  num : Nat
  /-- Requester: 0 the module, 1 the logic engine, 2 a reference message or follow-up, 3 a dispatch step. -/
  who : Nat
  /-- Rerouted (11 R293). -/
  rerouted : Bool := false
  /-- Late (11 R293). -/
  late : Bool := false
  /-- 1 the normal, 2 the inverted frame of an SRDO pair, its number one more (11 R297); else 0. -/
  pair : Nat := 0
  /-- A copy under the same number stands on the other bus (11 R297). -/
  both : Bool := false
  /-- The outcome word has been given for the other copy (11 R293). -/
  told : Bool := false
deriving DecidableEq, Repr

/-- A frame in a transmit buffer (11 R289, R293). -/
structure TxBuf where
  /-- The frame. -/
  f : TxFrame
  /-- In arbitration. -/
  inArb : Bool
  /-- Cancellation requested: 1 withdrawal, 2 cancel for good. -/
  cancel : Nat
deriving DecidableEq, Repr

/-- One CAN FD controller; its counters and settings stand in `obj` (11 R287). -/
structure Can where
  /-- State of 0x2010+b:10. Reset 0. -/
  st : Nat := 0
  /-- Frames waiting in the four transmit rings (11 R288). Reset none. -/
  tx : List TxFrame := []
  /-- TB0, TB1, TB2 (11 R289). Reset free. -/
  tb : List (Option TxBuf) := [none, none, none]
  /-- Clocks of the recoveries started in the last 60 s (11 R298). Reset none. -/
  recov : List Nat := []
  /-- Rerouting of class 0 frames has been reported since the bus ceased to be usable (11 R310). Reset false. -/
  rerRep : Bool := false
  /-- A recovery is withheld by the rate limit (11 R298). Reset false. -/
  withheld : Bool := false
  /-- General receive ring: time stamp, frame (11 R296). Reset none. -/
  rx : List (Nat × CanFrame) := []
  /-- Ring-full has been reported in this course (11 R296). Reset false. -/
  fullRep : Bool := false
  /-- HPB0 and HPB1, each frame with its time stamp (11 R296). Reset free. -/
  hpb : List (Option (Nat × CanFrame)) := [none, none]
  /-- In the 1 s bus-monitoring check after the loss of both buses (11 R300). Reset false. -/
  monitor : Bool := false
  /-- Clock at which that check began (11 R300). Reset 0. -/
  monAt : Nat := 0
  /-- Error-passive by fault confinement, whatever state 5 shows (11 R287, R297). Reset false. -/
  passive : Bool := false
deriving DecidableEq, Repr

/-- What the two controllers and the CANopen services share. -/
structure Com where
  /-- NMT state: 0 initialising, 4 stopped, 5 operational, 127 pre-operational (11 R284). Reset 0. -/
  nmt : Nat := 0
  /-- Clock of the last heartbeat (11 R285). Reset 0 (choice). -/
  beatAt : Nat := 0
  /-- CAN A and CAN B. -/
  bus : List Can := [{}, {}]
  /-- Number of the next frame enqueued. Reset 0. -/
  num : Nat := 0
  /-- Logic ring 28: bus, time stamp, frame (11 R296). Reset none. -/
  logicRx : List (Nat × Nat × CanFrame) := []
  /-- Logic ring full reported in this course. Reset false. -/
  logicFull : Bool := false
  /-- Both buses unusable, reported (11 R300). Reset false. -/
  bothLost : Bool := false
  /-- An SF-06 notice the lead manager could not send: clock at which it was first due (11 R300). Reset none. -/
  noticeDue : Option Nat := none
  /-- Clock of the last EMCY, for the inhibit time (11 R301). Reset none. -/
  emcyAt : Option Nat := none
  /-- LSS: configuration state per bus (12 R314). Reset waiting. -/
  lssConf : List Bool := [false, false]
  /-- LSS: node-ID configured and not yet stored (12 R314). Reset none. -/
  lssNode : Option Nat := none
  /-- LSS: node-ID stored, to be committed at the next boundary (12 R314). Reset none. -/
  lssStore : Option Nat := none
  /-- Sequence count of the bay safety SRDO (10 R277). Reset 0. -/
  baySeq : Nat := 0
deriving DecidableEq, Repr

/-! ### 13: the bay manager -/

/-- What the manager holds of one string (13 R341 to R344). -/
structure StrEntry where
  /-- Lower node-ID of the pair, the string's number n (13 R337). -/
  n : Nat
  /-- The last 48-byte summary (13 R342). -/
  summary : Bytes
  /-- Epochs since the summary was fresh (01 R22). Reset 0. -/
  stale : Nat := 0
  /-- Clock at which its present reference-window request was first seen (13 R347). Reset none. -/
  reqAt : Option Nat := none
deriving DecidableEq, Repr

/-- One Modbus connection (13 R351). -/
structure MbConn where
  /-- Client address. -/
  client : Nat
  /-- Its level (13 R351). -/
  level : Nat
  /-- Object window: selected index (13 R352). Reset 0. -/
  index : Nat := 0
  /-- Object window: selected sub-index. Reset 0. -/
  sub : Nat := 0
  /-- Requests that await their answers, the next to be answered first: object, function code, first register, count or value (13 R350).
  Reset none. -/
  req : List (Nat × Nat × Nat × Nat) := []
deriving DecidableEq, Repr

/-- PTP and site time (13 R338 to R340). -/
structure Ptp where
  /-- The selected master's Announce and the clock it was last heard (13 R338). Reset none. -/
  master : Option (Announce × Nat) := none
  /-- Two-step Sync awaiting its follow-up: sequence, correction, own receive time (13 R339). Reset none. -/
  sync : Option (Nat × Int × Int) := none
  /-- The last complete Sync: t1 and t2 (13 R339). Reset none. -/
  t12 : Option (Int × Int) := none
  /-- Delay request outstanding: sequence, send time t3 (13 R339). Reset none. -/
  req : Option (Nat × Int) := none
  /-- Sequence of the next delay request. Reset 0 (choice). -/
  reqSeq : Nat := 0
  /-- Mean path delay, none before the first exchange (13 R339). Reset none. -/
  delay : Option Int := none
  /-- Clock of the last Sync from the selected master (13 R339). Reset 0 (choice). -/
  lastSync : Nat := 0
  /-- Site time selected since BOOT (13 R340). Reset false. -/
  locked : Bool := false
  /-- Identities of the masters refused for a missing PTP timescale whose event is raised (13 R339). Reset none. -/
  refused : List Bytes := []
deriving DecidableEq, Repr

/-- The bay manager's duties and what every module keeps of the bay snapshot. -/
structure Mgr where
  /-- Strings present, by node-ID order (13 R341). Reset none. -/
  strings : List StrEntry := []
  /-- Own summary, latched at the last bay-epoch boundary (01 R22, 13 R342). Reset none. -/
  own : Bytes := []
  /-- Bay epoch whose summary deadline last passed (01 R22). Reset none. -/
  deadlineOf : Option Nat := none
  /-- Bay epoch of the last snapshot sent as lead manager (13 R343). Reset none. -/
  sent : Option Nat := none
  /-- Bay epoch of the last data-plane datagrams (13 R354). Reset none. -/
  dpSent : Option Nat := none
  /-- The latest bay snapshot received or formed, 64 bytes (13 R343). Reset none. -/
  snap : Option Bytes := none
  /-- Its own reception time stamp and clock (13 R343). Reset none. -/
  snapAt : Option (Nat × Nat) := none
  /-- A snapshot held until the next course boundary (13 R343). Reset none. -/
  snapHeld : Option Bytes := none
  /-- Shortfall of the last dispatch step (13 R347). Reset 0. -/
  shortfall : Int := 0
  /-- Clock at which the shortfall event was last raised (13 R347). Reset none. -/
  shortAt : Option Nat := none
  /-- Tag of the last dispatch step (13 R346). Reset 0. -/
  tag : Nat := 0
  /-- Reference-window grant: n, clock since (13 R347). Reset none. -/
  grant : Option (Nat × Nat) := none
  /-- Dispatch journal entries still open: sequence, part, bus (13 R348). Reset none. -/
  dispOpen : List (Nat × Nat × Nat) := []
  /-- This module leads the bay (01 R15). Reset false. -/
  lead : Bool := false
  /-- SF-06 notices the lead manager holds for the bus identifiers of the strings it hears, bit identifier − 1 (10 R276). Reset 0. -/
  notices : Nat := 0
  /-- Data-plane sequence (13 R354). Reset 0 (choice). -/
  dpSeq : Nat := 0
  /-- Modbus connections (13 R351). Reset none. -/
  conns : List (Option MbConn) := List.replicate 8 none
  /-- PTP. Reset as Ptp. -/
  ptp : Ptp := {}
deriving DecidableEq, Repr

/-! ### 14: the logic engine -/

/-- A force (14 R380). -/
structure Force where
  /-- Entry number in the force table, 0 to 63 (14 R378). -/
  slot : Nat
  /-- The 16-byte entry as set. -/
  entry : Bytes
  /-- Space of the location (14 R363). -/
  space : Nat
  /-- Byte address within the space; a variable's address in the active program. -/
  addr : Nat
  /-- Session that set it. -/
  sess : Sess
deriving DecidableEq, Repr

/-- The virtual machine of the logic engine (14 R363 to R369). -/
structure Vm where
  /-- Spaces V, R, I, Q and S as one memory by the addresses of 18 R446 less 51000000H, canonical: rising, no zero byte. -/
  mem : List Host.Cell := []
  /-- Accumulator, 32 bits signed (14 R364). Reset 0. -/
  acc : Int := 0
  /-- Bit accumulator (14 R364). Reset 0. -/
  ba : Bool := false
  /-- Bit stack, top first (14 R364). Reset empty. -/
  bst : List Bool := []
  /-- Loop stack, top first: first instruction of the body, passes remaining (14 R364). Reset empty. -/
  loops : List (Nat × Nat) := []
  /-- Call stack, top first (14 R364). Reset empty. -/
  calls : List Nat := []
  /-- Instruction index (14 R364). Reset 0. -/
  pc : Nat := 0
  /-- Frames accepted by MSGTX in this scan: bus, class, frame, oldest first (14 R374). Reset none. -/
  outQ : List (Nat × Nat × CanFrame) := []
  /-- Runtime error flags of this scan (14 R366, 0x4400:0E). Reset 0. -/
  flags : Nat := 0
  /-- Cycles used in this scan (14 R366). Reset 0. -/
  cyc : Nat := 0
  /-- END has been executed in this scan. Reset false. -/
  ended : Bool := false
deriving DecidableEq, Repr

/-- The logic engine outside its virtual machine; its reported values stand in `obj`. -/
structure Logic where
  /-- The virtual machine. -/
  vm : Vm := {}
  /-- Active bank (14 R374). Reset 0. -/
  bank : Nat := 0
  /-- The program of each bank has passed the check (14 R375). Reset false. -/
  bankOk : List Bool := [false, false]
  /-- Logic clock L, ms, 32 bits (14 R358). Reset 0. -/
  l : Nat := 0
  /-- The last start was cold (14 R364 SFLAGS). Reset false. -/
  cold : Bool := false
  /-- The scan of this course is still to run (14 R359). Reset false. -/
  due : Bool := false
  /-- The first course since a start is still to begin: L is 0 in it (14 R358). Reset true. -/
  opens : Bool := true
  /-- The first scan since a start or restart is still to come (14 R376). Reset true. -/
  first : Bool := true
  /-- Forces, in order of setting (14 R380). Reset none. -/
  forces : List Force := []
  /-- Image values last written through the output map, by entry number (14 R372). Reset none. -/
  written : Store := []
  /-- Writes that join the next commit: output map entry (32 and 33 the analogue values), object key, bytes (14 R359, R372). Reset none. -/
  writes : List (Nat × Nat × Bytes) := []
  /-- Output map entries refused at the last commit (14 R364 OUTREF). Reset 0. -/
  outRef : Nat := 0
  /-- Frames of ring 28 latched at the last boundary and not taken: bus, time stamp, frame (14 R374). Reset none. -/
  latched : List (Nat × Nat × CanFrame) := []
  /-- A halt waits for the scan of the course that began at the commit (18 R447). Reset false. -/
  haltReq : Bool := false
  /-- Session that owns the halt and the node it is open on (18 R447, R451 sub 22). Reset none. -/
  owner : Option (Sess × Nat) := none
  /-- Boundaries passed while halted (18 R447). Reset 0. -/
  haltFor : Nat := 0
  /-- A halted scan has been prepared: inputs copied, forces applied (18 R447, R448). Reset false. -/
  prepared : Bool := false
  /-- The next scan is the first since an online change (14 R364, R381). Reset false. -/
  change : Bool := false
  /-- Stop behaviour of 14 R373 applied. Reset false. -/
  stopped : Bool := false
deriving DecidableEq, Repr

/-! ### 17: update and journal -/

/-- The contents of a flash slot (17 R419, R424). -/
structure Slot where
  /-- Manifest. -/
  manifest : Bytes
  /-- Blocks written and read back: part, block, data (17 R424). -/
  blocks : List (Nat × Nat × Bytes) := []
deriving DecidableEq, Repr

/-- A journal entry (17 R434). -/
structure JEntry where
  /-- SEQ. -/
  seq : Nat
  /-- CLASS. -/
  cls : Nat
  /-- ORIGIN[0]: mirrored from the partner. -/
  mirrored : Bool := false
  /-- STATE: complete. -/
  done : Bool := false
  /-- TIME. -/
  time : Nat
  /-- BODY. The spec fixes what a body holds, not its bytes; the model's layout is log 25. -/
  body : Bytes
  /-- Bytes of the ring written before this entry, for its place and the 512 KiB rule (17 R433, R435). -/
  pos : Nat
deriving DecidableEq, Repr

/-- The journal. -/
structure Journal where
  /-- Entries, newest first. Reset none. -/
  ents : List JEntry := []
  /-- Sequence the next entry takes. Reset 0 (choice). -/
  nextSeq : Nat := 0
  /-- Bytes written so far. Reset 0. -/
  head : Nat := 0
  /-- Sequence of the last checkpoint (17 R433). Reset none. -/
  check : Option Nat := none
  /-- Generation of the valid head record (17 R433). Reset 0 (choice). -/
  gen : Nat := 0
deriving DecidableEq, Repr

/-- Field update; its reported values stand in `obj`. -/
structure Update where
  /-- Slots A and B (17 R419). Reset empty (choice). -/
  slots : List (Option Slot) := [none, none]
  /-- The running set: 0 golden image, 1 slot A, 2 slot B (17 R419, 03 R55). Reset 0 (choice). -/
  running : Nat := 0
  /-- The previous set (17 R419). Reset 0 (choice). -/
  previous : Nat := 0
  /-- The golden image's manifest (17 R419). Reset empty (choice). -/
  golden : Bytes := []
  /-- The activation entry of a set in probation: its journal sequence (17 R427). Reset none. -/
  activation : Option Nat := none
  /-- What the ROM selects at the next boot: 1 slot A, 2 slot B, 3 the golden image, 0 where no activation entry names one (03 R55, 17
  R427). Reset 0. -/
  selected : Nat := 0
  /-- Probation boots counted (17 R430). Reset 0. -/
  boots : Nat := 0
  /-- In probation (17 R427). Reset false. -/
  probation : Bool := false
  /-- Activated pair at once (17 R426). Reset false. -/
  atOnce : Bool := false
  /-- Configuration of the previous generation: objects and blobs (17 R420). Reset none. -/
  prevGen : Option (Store × Blobs) := none
  /-- Stage table of the previous generation, where a bedrock-law part replaced it (17 R420). Reset none. -/
  prevTab : Option (List Stage) := none
  /-- The set in probation carries configuration parts (17 R420). Reset false. -/
  replaced : Bool := false
  /-- Activation by command waits for the partner's confirmation, this twin having still to activate (17 R428). Reset false. -/
  turn : Bool := false
  /-- The partner has confirmed (17 R428). Reset false. -/
  partnerConfirmed : Bool := false
  /-- Clock since which the running in probation is clean (17 R430). Reset 0. -/
  cleanAt : Nat := 0
  /-- Clock at which the time in probation was last added up (17 R430). Reset 0. -/
  tickAt : Nat := 0
  /-- The set must be left for the previous one once the token has been handed over (17 R428, R430). Reset false. -/
  back : Bool := false
  /-- Node update under way: segment, step (0 the bypass, 1 the image on its way, 2 bring-up), clock (17 R429). Reset none. -/
  nodeSeg : Option (Nat × Nat × Nat) := none
  /-- Node updates stopped by a failure (17 R429). Reset false. -/
  nodeStop : Bool := false
  /-- Age clock of the flash at which each block was last written, where not 0 (17 R432). Reset none. -/
  written : List (Nat × Nat) := []
  /-- Age clock of the flash at the last BOOT, ns: it counts module time, and running time until the first synchronisation (17 R432; log
  228). Reset 0. -/
  flashOff : Nat := 0
  /-- Module time and age clock that belong together, since the first synchronisation (17 R432; log 228). Reset none. -/
  flashRef : Option (Nat × Nat) := none
  /-- Clock of the last refresh (17 R432). Reset none. -/
  refreshAt : Option Nat := none
  /-- Failed rewrites in a row of the block being refreshed (17 R432). Reset none. -/
  rewrites : Option (Nat × Nat) := none
deriving DecidableEq, Repr

/-! ### 18: the debug port -/

/-- A breakpoint slot (18 R449). -/
structure Brk where
  /-- Kind 0 to 3. -/
  kind : Nat
  /-- Parameter. -/
  param : Nat
  /-- Session that set it. -/
  sess : Sess
  /-- Node-ID of that session's twin. -/
  node : Nat
deriving DecidableEq, Repr

/-- The debug port. -/
structure Debug where
  /-- A session is open: level, clock of the last valid request (18 R444). Reset none. -/
  session : Option (Nat × Nat) := none
  /-- Nonce of the open session (18 R444). Reset empty. -/
  nonce : Bytes := []
  /-- Clocks of its authentication failures within 60 s (18 R444, 12 R316). Reset none. -/
  fails : List Nat := []
  /-- Locked until this clock (18 R444). Reset none. -/
  lockUntil : Option Nat := none
  /-- Attention causes pending: bit 0 breakpoint, 1 halt, 2 event, 3 session closed (18 R443). Reset 0. -/
  attn : Nat := 0
  /-- Breakpoints by slot (18 R449). Reset none. -/
  brk : List (Option Brk) := List.replicate 8 none
  /-- Islands halted, bit per island (18 R450). Reset 0. -/
  halted : Nat := 0
  /-- Bytes written at L4 into memory whose layout the spec does not give, by rising address; every other byte reads as a free value
  (18 R446). Reset none. -/
  mem : List Host.Cell := []
  /-- The request whose response waits for a commit or for the partner, by its tag (18 R442). Reset none. -/
  waiting : Option Byte := none
deriving DecidableEq, Repr

/-- What retained MRAM holds beside the fields that survive as they stand (03 R65, R66; 17 R438 class 5). -/
structure Retained where
  /-- Cell contexts as last written (03 R65). Reset as Ctx. -/
  ctx : List Ctx := List.replicate 512 {}
  /-- Segment aggregates as last written (03 R65). Reset as SegEst. -/
  seg : List SegEst := List.replicate 16 {}
  /-- Reported SoC of the string as last written (08 R221). Reset 0 (choice). -/
  rep : Rat := 0
  /-- Energy counters as last saved (17 R438). Reset 0. -/
  energy : Rat × Rat := (0, 0)
  /-- Q_k as last saved (06 R141, 17 R438). Reset 0 (choice). -/
  q : List Rat := List.replicate 16 0
  /-- E of both channels as last saved (10 R260, 17 R438). Reset 0 (choice). -/
  e : Rat × Rat := (0, 0)
  /-- Module time and its provisional mark at the save (03 R66). Reset 0 (choice). -/
  at_ : Nat := 0
deriving DecidableEq, Repr

/-! ### The whole -/

/-- What leaves the block: the outbox the world reads (log 9). -/
inductive Out where
  /-- Answer to a session: abort code, 0 for success, and data (12 R336). -/
  | answer (sess : Sess) (abort : Nat) (data : Bytes)
  /-- A downlink frame (05 R91). -/
  | downlink (seg : Nat) (frame : Bytes)
  /-- A hard-bypass pattern (05 R104). -/
  | hardBypass (seg : Nat)
  /-- A management request (05 R109). -/
  | mgmt (seg : Nat) (frame : Bytes)
  /-- A node's uplink frame on a port (05 R96). -/
  | uplink (node port : Nat) (frame : Bytes)
  /-- A node's management response (05 R109). -/
  | nodeResp (node port : Nat) (frame : Bytes)
  /-- A CAN frame put into arbitration on a bus (11 R289). -/
  | can (bus : Nat) (frame : CanFrame)
  /-- The outcome word of a frame, given to its requester (11 R293). -/
  | txOutcome (bus who id word : Nat)
  /-- A mirror frame (15 R388). -/
  | mirror (frame : Bytes)
  /-- An urgent word (15 R388). -/
  | urgent (word : Bytes)
  /-- Bytes of a bulk channel or notice to the partner (15 R390). -/
  | bulk (channel : Nat) (data : Bytes)
  /-- An Ethernet datagram: service or source port, destination address and port (0 for a protocol that has none), bytes (13). -/
  | eth (service dest port : Nat) (data : Bytes)
  /-- A Modbus response (13 R351). -/
  | modbus (conn : Nat) (pdu : Bytes)
  /-- A debug response (18 R442). -/
  | dbg (frame : Bytes)
  /-- An LSS response (12 R314). -/
  | lss (bus : Nat) (data : Bytes)
deriving DecidableEq, Repr

/-- Everything the block holds but the queue and the snapshots. -/
structure Live where
  /-- State machine (03). -/
  mode : Mode := {}
  /-- Supply and pins (02). -/
  pins : Pins := {}
  /-- Time (04, 11). -/
  time : TimeU := {}
  /-- Keystone (12). -/
  ks : Keystone := {}
  /-- Recorder (16). -/
  rcd : Recorder := {}
  /-- Safety channels (10). -/
  saf : Safety := {}
  /-- The 16 segments as the module holds them (05, 06). -/
  seg : List Seg := List.replicate 16 {}
  /-- The 16 segment nodes (05). -/
  node : List Node := List.replicate 16 {}
  /-- String conversion (06). -/
  conv : Conv := {}
  /-- Twin pairing (15). -/
  twin : Twin := {}
  /-- Control engine (07). -/
  eng : Engine := {}
  /-- Chisel (07). -/
  chi : Chisel := {}
  /-- Capture unit (07). -/
  cap : Capture := {}
  /-- Estimator (08). -/
  est : Est := {}
  /-- Thermal management (09). -/
  th : Therm := {}
  /-- CAN (11). -/
  com : Com := {}
  /-- Bay manager (13). -/
  mgr : Mgr := {}
  /-- Logic engine (14). -/
  lgc : Logic := {}
  /-- Update (17). -/
  upd : Update := {}
  /-- Journal (17). -/
  jrn : Journal := {}
  /-- Debug port (18). -/
  dbg : Debug := {}
  /-- Retained MRAM (03 R66). -/
  ret : Retained := {}
  /-- Values of the plain numeric objects that differ from the dictionary's default (12). Reset none: every default. -/
  obj : Store := []
  /-- Values of the byte-string objects that are not empty (12). Reset none. -/
  blob : Blobs := []
  /-- Outbox, newest first (log 9). Reset empty. -/
  out : List Out := []
  /-- Free values drawn so far: the model's own counter (log 15). Reset 0 (choice). -/
  free : Nat := 0
deriving DecidableEq, Repr

/-- The reasons a step can stop the block. No rule of the spec stops it: every error is an abort code, an event or a
trip, so no constructor is raised by any meaning. -/
inductive Fault where
deriving DecidableEq, Repr

/-- The reasons a command has no meaning. -/
inductive Refusal where
  /-- The command is not modelled yet; raised by no arm once every row has its meaning. Safe: the block stops. -/
  | notModelled (mnemonic : String)
  /-- A logic instruction in a form that the load check of 14 R375 refuses, so that no program holds it: raised by the
  logic instruction rows. Safe: the block stops where it could not have been. -/
  | refusedAtLoad (mnemonic : String)
deriving DecidableEq, Repr

/-- The state of the block. -/
structure State where
  /-- What changes as the block runs. -/
  live : Live := {}
  /-- The latest committed snapshot (12 R317, R320). Reset: the reset state itself. -/
  snap : Live := {}
  /-- Snapshots kept for segmented reads: session, deadline on the clock, snapshot (12 R323). Reset none. -/
  kept : List (Sess × Nat × Live) := []
  /-- At the standby of an in-step pair: what it latched at its own boundary, until the commit record comes (01 R20, 15 R391). Reset none. -/
  latched : Option Live := none
  /-- Commands waiting, first in first out. Reset empty. -/
  pending : List Instr := []
deriving DecidableEq, Repr

/-- The block as it leaves the factory: in QUARRY (03 R67), every object at its default, nothing queued. -/
def State.reset : State := {}

end Sys2Proof.Machine
end

