-- ==== Sys2Proof/Machine/Ashlar.lean ====
section
/-! DEFINITION. Ashlar arithmetic and the stage types of the control engine (07 R152 to R181). Everything
here is a function of the table, the stage states and the frozen inputs. -/

namespace Sys2Proof.Machine

/-- A rational number from an integer. -/
def q (i : Int) : Rat := (i : Rat)

/-- Magnitude of a rational. -/
def absQ (x : Rat) : Rat := if x < 0 then -x else x

/-- The smaller of two rationals. -/
def minQ (a b : Rat) : Rat := if a ≤ b then a else b

/-- The larger of two rationals. -/
def maxQ (a b : Rat) : Rat := if a ≤ b then b else a

/-- min(max(x, lo), hi) as the spec's ramps and limits write it. -/
def clampQ (lo hi x : Rat) : Rat := minQ (maxQ x lo) hi

/-- Round to nearest, ties away from zero (00 R4, 07 R153). -/
def roundQ (x : Rat) : Int :=
  if x < 0 then -((-x + 1 / 2).floor) else (x + 1 / 2).floor

/-- A quotient; where the divisor is 0 the spec states no value, and the free value of log 17 stands. -/
def divQ (a b : Rat) : Rat := if b = 0 then Config.divByZero a else a / b

/-- Sum of a list of rationals. -/
def sumQ (l : List Rat) : Rat := l.foldl (· + ·) 0

/-- 2^e for an integer exponent. -/
def pow2 (e : Int) : Rat :=
  if 0 ≤ e then ((2 ^ e.toNat : Nat) : Rat) else 1 / ((2 ^ (-e).toNat : Nat) : Rat)

/-- floor(log2 x) for x > 0. -/
def log2Q (x : Rat) : Int :=
  let k := (Nat.log2 x.num.natAbs : Int) - (Nat.log2 x.den : Int)
  if pow2 k ≤ x then k else k - 1

/-- The exponent for which the magnitude `big` lies in [2^top, 2^(top+1)), moved up by one where rounding of some
lane would reach 2^(top+1) (07 R153). -/
def normExp (top : Nat) (xs : List Rat) : Int :=
  let big := xs.foldl (fun a x => maxQ a (absQ x)) 0
  if big = 0 then -128
  else
    let e := log2Q big - top
    if xs.any (fun x => (roundQ (x * pow2 (-e))).natAbs = 2 ^ (top + 1)) then e + 1 else e

/-- Renormalisation of a stage's output (07 R153, R154): the vector, and whether it overflowed. DESIGN CHOICE (log 211): a lane of
value 0 in an overflowing vector, which has no sign, stays 0. -/
def renorm (xs : List Rat) : Ash × Bool :=
  let e := normExp 22 xs
  if 127 < e then
    ({ m := xs.map (fun x => if x < 0 then -8388607 else if x = 0 then 0 else 8388607), e := 127 }, true)
  else
    let e := if e < -128 then -128 else e
    ({ m := xs.map (fun x => roundQ (x * pow2 (-e))), e := e }, false)

/-- Renormalisation of a wide state into [2^30, 2^31), per lane with its own exponent (07 R152, R153). -/
def wide (x : Rat) : Rat :=
  if x = 0 then 0
  else
    let e := normExp 30 [x]
    q (roundQ (x * pow2 (-e))) * pow2 e

/-- Value of lane l of an ashlar vector (07 R152). -/
def Ash.lane (a : Ash) (l : Nat) : Rat := q (a.m.getD l 0) * pow2 a.e

/-- A one-lane ashlar value (07 R160). -/
def ashOf (x : Rat) : Ash := (renorm [x]).1

/-- ASHLAR32 of lane l (07 R157): mantissa in [31:8], exponent in [7:0]. -/
def Ash.word (a : Ash) (l : Nat) : Nat := ofSigned 24 (a.m.getD l 0) * 256 + ofSigned 8 a.e

/-- Value of an ASHLAR32 word, none for the not-available word 80000000H (07 R157). -/
def ash32 (w : Nat) : Option Rat :=
  if w = 2147483648 then none else some (q (toSigned 24 (w / 256)) * pow2 (toSigned 8 w))

/-- A term of an accumulation: mantissa and exponent (07 R156). -/
abbrev Term := Int × Int

/-- Accumulation at the largest term exponent, each other term shifted right and rounded (07 R156). -/
def accSum (ts : List Term) : Rat :=
  match ts with
  | [] => 0
  | t :: rest =>
    let e := rest.foldl (fun a x => if a < x.2 then x.2 else a) t.2
    let s := ts.foldl (fun (a : Int) x =>
      a + (if x.2 = e then x.1 else roundQ (q x.1 * pow2 (x.2 - e)))) 0
    q s * pow2 e

/-- A wide state as a term: its mantissa and exponent (07 R152, R156). -/
def wideTerm (x : Rat) : Term :=
  let e := normExp 30 [x]
  (roundQ (x * pow2 (-e)), e)

/-- An ashlar value as a term (07 R156). -/
def Ash.term (a : Ash) (l : Nat) : Term := (a.m.getD l 0, a.e)

/-- A term with the opposite sign. -/
def negTerm (t : Term) : Term := (-t.1, t.2)

/-- Half a term: its exponent one lower. -/
def halfTerm (t : Term) : Term := (t.1, t.2 - 1)

/-- A term's value. -/
def termQ (t : Term) : Rat := q t.1 * pow2 t.2

/-- Coefficient j of a stage as a number (07 R155). -/
def Stage.c (s : Stage) (j : Nat) : Rat := q (s.cm.getD j 0) * pow2 s.ec

/-- The product of lane l of a vector with coefficient j as a term (07 R156). -/
def Stage.term (s : Stage) (j : Nat) (a : Ash) (l : Nat) : Term :=
  (a.m.getD l 0 * s.cm.getD j 0, a.e + s.ec)

/-- The product of a wide value with coefficient j as a term (07 R156). -/
def Stage.wideProd (s : Stage) (j : Nat) (x : Rat) : Term := ((wideTerm x).1 * s.cm.getD j 0, (wideTerm x).2 + s.ec)

/-- Quantisation of a stage's coefficients (07 R155). -/
def quantise (cs : List Rat) : Int × List Int :=
  let e := normExp 16 cs
  let e := if e < -128 then -128 else if 127 < e then 127 else e
  (e, cs.map (fun c => let m := roundQ (c * pow2 (-e)); if 131071 < m then 131071 else if m < -131071 then -131071 else m))

/-- A stage with these coefficients. -/
def Stage.withC (s : Stage) (cs : List Rat) : Stage :=
  let cs := (cs ++ List.replicate 8 0).take 8
  { s with ec := (quantise cs).1, cm := (quantise cs).2 }

/-- Source word of stage s, lane l, in this sample (07 R159). -/
def srcS (s l : Nat) : Nat := 64 + s + 256 * l

/-- Is source word w unconnected (07 R159)? -/
def srcNone (w : Nat) : Bool := w % 256 == 255

/-- Cost of a stage in CTL cycles (07 R166). -/
def Stage.cost (s : Stage) : Nat :=
  let n := s.lanes
  let m := (s.src.filter (fun w => !srcNone w)).length
  match s.ty with
  | 1 => 20 + 8 * n
  | 2 => 20 + 8 * m * n
  | 3 => 40 + 24 * n
  | 4 => 56 + 36 * n
  | 5 => 44 + 32 * n
  | 6 => if s.variant % 2 = 0 then 28 + 12 * n else 96 + 48 * n
  | 7 => 24 + 8 * n
  | 8 => 32 + 12 * n
  | 9 => 180
  | 10 => 20 + 4 * n
  | 11 => 20 + 4 * n
  | 12 => 240
  | _ => 0

/-- Lanes of a stage's output (07 R166). -/
def Stage.outLanes (s : Stage) : Nat := if s.ty = 9 ∨ s.ty = 12 then 2 else s.lanes

/-- Cost of the whole table (07 R158). -/
def tableCost (t : List Stage) : Nat := t.foldl (fun a s => a + s.cost) 0

/-- Start cycle of stage s (07 R158). -/
def startCycle (t : List Stage) (s : Nat) : Nat := 400 + tableCost (t.take s)

/-- The settings the module-written coefficients of R173 follow. -/
structure LawSet where
  /-- Calibration gains of i_sh, i_fg, V_bus, V_str (0x4012:0A–0D). -/
  cal : List Rat
  /-- L in H (0x4012:01). -/
  l : Rat
  /-- R_L in Ω (0x4012:02). -/
  rl : Rat
  /-- V_nom in V (0x3000:06). -/
  vnom : Rat
  /-- R_droop in Ω (0x3000:05). -/
  droop : Rat
  /-- I_max in A (0x4011:01). -/
  imax : Rat
  /-- Hook clamps as shares (0x4012:05, 06). -/
  hookI : Rat
  /-- Hook V clamp. -/
  hookV : Rat
  /-- Inserted-voltage step limit in V per sample (0x4012:07). -/
  step : Rat

/-- Coefficients of a bedrock stage as one list, the module-written ones taken from the settings (07 R173, R175);
`cs` are the stage's present coefficients. -/
def lawCoefs (p : LawSet) (s : Nat) (cs : List Rat) : List Rat :=
  let g := fun j => cs.getD j 0
  match s with
  | 0 => p.cal
  | 2 => [divQ (1 / 100000) p.l, p.rl, g 2, g 3]
  | 5 => [g 0, p.vnom / 10]
  | 6 => [g 0, -p.droop]
  | 10 => [-(p.hookI * p.imax), p.hookI * p.imax]
  | 19 => [g 0, p.rl]
  | 20 => [-(p.hookV * p.vnom), p.hookV * p.vnom]
  | 23 => [p.step, p.step]
  | _ => cs

/-- Who may write coefficient j of stage i (07 R162, R173): 0 level L2, 1 locked (L3), 2 module-written, 3 not named by R173 and so
part of the law's structure (DEDUCED). -/
def coefClass (i j : Nat) : Nat :=
  if 40 ≤ i then 0
  else match i with
    | 0 => if j < 4 then 2 else 3
    | 1 => if j < 5 then 0 else 3
    | 2 => if j < 2 then 2 else if j < 4 then 0 else 3
    | 4 => if j = 0 then 1 else 3
    | 5 => if j = 0 then 1 else if j = 1 then 2 else 3
    | 6 => if j = 0 then 1 else if j = 1 then 2 else 3
    | 8 => if j < 4 then 1 else 3
    | 9 => if j < 2 then 0 else 3
    | 10 => if j < 2 then 2 else 3
    | 11 => if j < 4 then 1 else 3
    | 14 => if j < 4 then 1 else 3
    | 15 => if j < 2 then 0 else 3
    | 16 => if j < 5 then 0 else 3
    | 17 => if j < 5 then 0 else 3
    | 18 => if j = 0 then 0 else 3
    | 19 => if j = 0 then 1 else if j = 1 then 2 else 3
    | 20 => if j < 2 then 2 else 3
    | 21 => if j < 4 then 1 else 3
    | 23 => if j < 2 then 2 else 3
    | 39 => if j = 0 then 1 else 3
    | _ => 3

/-- Is a bedrock stage's coefficient list module-written in any place (07 R173)? -/
def lawWritten (s : Nat) : Bool := [0, 2, 5, 6, 10, 19, 20, 23].contains s

/-- Coefficients that a stage type uses (07 R166). -/
def usedCoefs (ty : Nat) : Nat := [0, 4, 4, 2, 4, 5, 3, 2, 2, 4, 1].getD ty 0

/-- The table with every module-written coefficient recomputed (07 R175). -/
def recompute (p : LawSet) (t : List Stage) : List Stage :=
  t.mapIdx (fun i s =>
    if lawWritten i ∧ s.ty ≠ 0 then s.withC (lawCoefs p i ((List.range 8).map s.c)) else s)

/-- The bedrock law version 0100H (07 R172) with the default coefficients of R173, slots 40 to 63 EMPTY. -/
def bedrock (p : LawSet) : List Stage :=
  let st := fun (ty lanes mask : Nat) (src : List Nat) (variant : Nat) (cs : List Rat) =>
    (Stage.withC { ty := ty, lanes := lanes, mask := mask, src := (src ++ [255, 255, 255, 255]).take 4, variant := variant } cs)
  recompute p
    ([ st 1 4 7 [0, 1, 2, 3] 0 [1, 1, 1, 1],
       st 5 1 7 [srcS 0 2] 0 [118089 / 1000000, 0, 0, -(881911 / 1000000), 0],
       st 9 1 7 [9, srcS 0 2, srcS 0 0] 0 [1 / 40, 1 / 500, 1 / 5, 2 / 5],
       st 12 1 7 [srcS 0 0, srcS 0 1, 9, srcS 0 2] 0 [],
       st 1 1 1 [4] 0 [1],
       st 6 1 2 [4, srcS 0 2] 1 [1, 120],
       st 2 1 4 [4, 5] 0 [1, -(1 / 10)],
       st 7 1 4 [srcS 6 0, 255, 11] 1 [0],
       st 2 1 4 [srcS 7 0, srcS 1 0] 0 [1, -1],
       st 3 1 4 [srcS 8 0, 7, 6, 0] 13 [2, 1 / 5000] ] ++
     [ st 7 1 7 [17] 3 [-10, 10],
       st 2 1 7 [srcS 4 0, srcS 5 0, srcS 9 0, srcS 10 0] 0 [1, 1, 1, 1],
       st 10 1 7 [srcS 11 0] 1 [1],
       st 7 1 7 [srcS 12 0, 7, 6] 0 [],
       st 2 1 7 [srcS 13 0, srcS 0 0] 0 [1, -1],
       st 3 1 7 [srcS 14 0, 255, 255, 17] 39 [5 / 4, 1 / 80],
       st 5 1 7 [srcS 15 0] 0 [1, 0, 0, 0, 0],
       st 5 1 7 [srcS 16 0] 0 [1, 0, 0, 0, 0],
       st 1 1 7 [srcS 2 1] 0 [0],
       st 6 1 7 [srcS 0 2, srcS 13 0] 0 [1, 1 / 500] ] ++
     [ st 7 1 7 [17] 3 [-60, 60],
       st 2 1 7 [srcS 17 0, srcS 18 0, srcS 19 0, srcS 20 0] 0 [1, 1, 1, 1],
       st 10 1 7 [srcS 21 0] 1 [1],
       st 8 1 7 [srcS 22 0] 0 [20, 20] ] ++
     List.replicate 15 ({} : Stage) ++
     [ st 7 1 7 [srcS 23 0, 255, 8] 1 [0] ] ++
     List.replicate 24 ({} : Stage))

/-! ### REAL32 (07 R155, R157) -/

/-- Value of a REAL32 word, none for NaN and the infinities. -/
def real32 (w : Nat) : Option Rat :=
  let e : Nat := w / 2 ^ 23 % 256
  let m : Nat := w % 2 ^ 23
  let v := if e = 0 then q (m : Int) * pow2 (-149) else q ((m + 2 ^ 23 : Nat) : Int) * pow2 ((e : Int) - 150)
  if e = 255 then none else some (if w / 2 ^ 31 % 2 = 1 then -v else v)

/-- REAL32 word of a value: the largest where it is beyond, 0 below the smallest subnormal (07 R157). -/
def toReal32 (x : Rat) : Nat :=
  let a := absQ x
  let sign := if x < 0 then 2 ^ 31 else 0
  if a < pow2 (-149) then 0
  else
    let k := log2Q a
    if k < -126 then sign + (roundQ (a * pow2 149)).toNat
    else
      let m := (roundQ (a * pow2 (23 - k))).toNat
      let r := if m = 2 ^ 24 then (k + 1, 2 ^ 23) else (k, m)
      if 127 < r.1 then sign + 0x7F7FFFFF else sign + (r.1 + 127).toNat * 2 ^ 23 + (r.2 - 2 ^ 23)

/-! ### Running the table -/

/-- What a sample gives every stage. -/
structure Frozen where
  /-- IN0 to IN15. -/
  ins : List Ash
  /-- Mode: 0 CURRENT, 1 POWER, 2 BUSV. -/
  mode : Nat
  /-- Track strobe (07 R161). -/
  strobe : Bool
  /-- SSW_FB shows the switch open (07 R170, R177). -/
  sswOpen : Bool
  /-- Chisel signal and its target: stage, input, lane mask (07 R185). -/
  sig : Rat
  /-- Target word of 0x3200:03, none while nothing is injected. -/
  target : Option Nat
  /-- Impedance multisine, injected at stage 12 (07 R187). -/
  imp : Rat

/-- Is lane l of input x of stage s a target of the chisel (07 R185)? -/
def hitTarget (t : Option Nat) (s x l : Nat) : Bool :=
  match t with
  | none => false
  | some w => w / 256 % 64 == s && w / 16 % 4 == x && (w % 16) / 2 ^ l % 2 == 1

/-- What an INJECT stage adds through its gain on the lanes of its own mask: the chisel signal where the target names it, the impedance
multisine at stage 12 (07 R171, R185, R187). -/
def Frozen.injected (f : Frozen) (sn : Nat) : Rat :=
  (match f.target with
   | some w => if w / 256 % 64 = sn ∧ w / 16 % 4 = 0 then f.sig else 0
   | none => 0) + (if sn = 12 then f.imp else 0)

/-- The vector a source word names, before its lanes are taken (07 R159). -/
def srcVec (f : Frozen) (done : List Ash) (prev : List Ash) (w : Nat) : Ash :=
  let s := w % 256
  if s < 16 then f.ins.getD s {}
  else if s = 16 then ashOf f.sig
  else if s = 17 then { m := [0, 0, 0, 0], e := -128 }
  else if 64 ≤ s ∧ s < 128 then done.getD (s - 64) {}
  else if 128 ≤ s ∧ s < 192 then prev.getD (s - 128) {}
  else {}

/-- Input x of stage number s: lanes LANE to LANE + n − 1, with the chisel signal added where it is the target and the
stage is no INJECT (07 R159, R185). -/
def fetch (f : Frozen) (done prev : List Ash) (sn : Nat) (s : Stage) (x n : Nat) : Ash :=
  let w := s.src.getD x 255
  let v := srcVec f done prev w
  let lanes := (List.range n).map (fun l => v.m.getD (l + w / 256 % 4) 0)
  let a : Ash := { m := lanes, e := v.e }
  if s.ty ≠ 10 ∧ (List.range n).any (hitTarget f.target sn x) then
    (renorm ((List.range n).map (fun l => a.lane l + (if hitTarget f.target sn x l then f.sig else 0)))).1
  else a

/-- Output of a stage before renormalisation, with its new state. -/
structure StageOut where
  /-- Lane values. -/
  y : List Rat
  /-- New state, its output not yet set. -/
  st : StageSt

/-- LIMIT (07 R167): value, clamped high, clamped low, inverted. -/
def limitLane (x : Rat) (lo hi : Option Rat) : Rat × Bool × Bool × Bool :=
  match lo, hi with
  | some a, some b =>
    if b < a then ((a + b) / 2, decide ((a + b) / 2 < x), decide (x < (a + b) / 2), true)
    else if b < x then (b, true, false, false)
    else if x < a then (a, false, true, false)
    else (x, false, false, false)
  | some a, none => if x < a then (a, false, true, false) else (x, false, false, false)
  | none, some b => if b < x then (b, true, false, false) else (x, false, false, false)
  | none, none => (x, false, false, false)

/-- min(max(x, lo), hi) with unconnected bounds unbounded (07 R167, R168). -/
def boundLane (x : Rat) (lo hi : Option Rat) : Rat :=
  let y := match lo with | some a => maxQ x a | none => x
  match hi with | some b => minQ y b | none => y

/-- Bit `b` of a flags number from a condition. -/
def bit (b : Nat) (c : Bool) : Nat := if c then 2 ^ b else 0

/-- PI and PID (07 R168, R161). `down` is the flags of the downstream LIMIT in the previous sample. DESIGN CHOICE (log 213): an
unconnected track input tracks 0. -/
def runPi (pid : Bool) (s : Stage) (st : StageSt) (down : Nat) (track : Bool)
    (e : Ash) (lo hi tr : Nat → Option Rat) : StageOut :=
  let n := s.lanes
  let lane := fun l =>
    let ev := e.lane l
    let integ0 := st.w1.getD l 0
    let d := if pid then
        wide (accSum [s.wideProd 3 (st.w2.getD l 0), wideTerm ((1 - s.c 3) * s.c 2 * (ev - st.prev.getD l 0))]) else 0
    let held := (down % 2 == 1 && decide (0 < ev)) || (down / 2 % 2 == 1 && decide (ev < 0))
      || (st.atHi.getD l false && decide (0 < ev)) || (st.atLo.getD l false && decide (ev < 0))
    let integ := if held then integ0 else wide (accSum [wideTerm integ0, s.term 1 e l])
    let out := fun (g : Rat) => accSum [s.term 0 e l, wideTerm d, wideTerm g]
    let y := boundLane (out integ) (lo l) (hi l)
    if track then
      let b := wideTerm (boundLane ((tr l).getD 0) (lo l) (hi l))
      let integ := wide (accSum [b, negTerm (s.term 0 e l), negTerm (wideTerm d)])
      (out integ, integ, d, ev)
    else (y, integ, d, ev)
  let rs := (List.range n).map lane
  let y := rs.map (·.1)
  { y := y,
    st := { st with
      w1 := rs.map (·.2.1), w2 := rs.map (·.2.2.1), prev := rs.map (·.2.2.2),
      atHi := (List.range n).map (fun l => match hi l with | some b => decide (b ≤ y.getD l 0) | none => false),
      atLo := (List.range n).map (fun l => match lo l with | some a => decide (y.getD l 0 ≤ a) | none => false),
      flags := bit 2 track } }

/-- BIQUAD, transposed direct form II (07 R169); while tracking its states stand at the steady state of the input (R161). -/
def runBiquad (s : Stage) (st : StageSt) (strobe : Bool) (x : Ash) : StageOut :=
  let lane := fun l =>
    let xv := x.lane l
    if strobe then
      let ya := ashOf (divQ ((s.c 0 + s.c 1 + s.c 2) * xv) (1 + s.c 3 + s.c 4))
      let s2 := wide (accSum [s.term 2 x l, (-(ya.m.getD 0 0 * s.cm.getD 4 0), ya.e + s.ec)])
      (ya.lane 0, wide (accSum [ya.term 0, negTerm (s.term 0 x l)]), s2)
    else
      let y := accSum [s.term 0 x l, wideTerm (st.w1.getD l 0)]
      let ya := ashOf y
      let s1 := wide (accSum [s.term 1 x l, (-(ya.m.getD 0 0 * s.cm.getD 3 0), ya.e + s.ec), wideTerm (st.w2.getD l 0)])
      let s2 := wide (accSum [s.term 2 x l, (-(ya.m.getD 0 0 * s.cm.getD 4 0), ya.e + s.ec)])
      (y, s1, s2)
  let rs := (List.range s.lanes).map lane
  { y := rs.map (·.1), st := { st with w1 := rs.map (·.2.1), w2 := rs.map (·.2.2), flags := bit 2 strobe } }

/-- What the string's inductor adds to the current in one sample, as a term: T / L times the voltage across it (07 R170, R177); the
voltage is summed and held wide before the product (07 R156; log 195). -/
def inductorStep (s : Stage) (vins vbus : Ash) (vp i d : Rat) : Term :=
  s.wideProd 0 (wide (accSum [vins.term 0, negTerm (halfTerm (ashOf vp |>.term 0)), negTerm (halfTerm (vbus.term 0)),
    negTerm (s.wideProd 1 i), wideTerm d]))

/-- OBSERVER (07 R170). DESIGN CHOICE (log 214): V_bus[k-1] of the first sample after a reset of the state is the present V_bus. -/
def runObserver (s : Stage) (st : StageSt) (sswOpen : Bool) (vins vbus i : Ash) : StageOut :=
  let ih := st.w1.getD 0 0
  let dh := st.w2.getD 0 0
  let vp := st.prev.getD 0 (vbus.lane 0)
  let im := wide (accSum [wideTerm ih, inductorStep s vins vbus vp ih dh])
  let e := wide (accSum [i.term 0, negTerm (wideTerm im)])
  let ih' := if sswOpen then i.lane 0 else wide (accSum [wideTerm im, s.wideProd 2 e])
  let dh' := if sswOpen then 0 else wide (accSum [wideTerm dh, s.wideProd 3 e])
  { y := [ih', dh'], st := { st with w1 := [ih'], w2 := [dh'], prev := [vbus.lane 0], flags := 0 } }

/-- PLUMB (07 R177, R178): lane 0 the model residual, lane 1 the cross residual. T / L and R_L are those of stage 2, `law`. The ten
increments, more than one sum takes (07 R156), are summed five and five, each sum held wide (DESIGN CHOICE, log 195). -/
def runPlumb (law : Stage) (st : StageSt) (sswOpen : Bool) (ishA ifg vins vbusA : Ash) : StageOut :=
  let ish := ishA.lane 0
  let vbus := vbusA.lane 0
  let rx := accSum [ishA.term 0, negTerm (ifg.term 0)]
  if sswOpen then { y := [0, rx], st := { st with deltas := [], ish := [], prev := [], flags := 0 } }
  else
    match st.ish, st.prev with
    | ip :: _, vp :: _ =>
      let delta := wide (termQ (inductorStep law vins vbusA vp ip 0))
      let deltas := (delta :: st.deltas).take 10
      let part := fun (d : List Rat) => negTerm (wideTerm (wide (accSum (d.map wideTerm))))
      let rm := if deltas.length < 10 then 0
        else accSum [ishA.term 0, negTerm (ashOf (st.ish.getD 9 0) |>.term 0), part (deltas.take 5), part (deltas.drop 5)]
      { y := [rm, rx], st := { st with deltas := deltas, ish := (ish :: st.ish).take 10, prev := [vbus], flags := 0 } }
    | _, _ => { y := [0, rx], st := { st with deltas := [], ish := [ish], prev := [vbus], flags := 0 } }

/-- One stage: its lane values and new state, its output apart (07 R161, R166 to R171). -/
def runStage (f : Frozen) (tab : List Stage) (sts : List StageSt) (done prev : List Ash) (sn : Nat)
    (s : Stage) (st : StageSt) : StageOut :=
  let n := s.lanes
  let x := fetch f done prev sn s 0 n
  let x2 := fetch f done prev sn s 1 n
  let x3 := fetch f done prev sn s 2 n
  let x4 := fetch f done prev sn s 3 n
  let opt := fun (k : Nat) (a : Ash) (l : Nat) => if srcNone (s.src.getD k 255) then none else some (a.lane l)
  let down := if s.variant % 64 = 63 then 0 else (sts.getD (s.variant % 64) {}).flags
  let track := f.strobe || st.fresh || !st.modeOn
  match s.ty with
  | 1 =>
    let stacked := !srcNone (s.src.getD 1 255)
    let one := fun k => (fetch f done prev sn s k 1).lane 0
    { y := (List.range n).map (fun l =>
        let c := if s.variant % 2 = 1 then s.c 0 else s.c l
        c * (if stacked then one l else x.lane l)), st := { st with flags := 0 } }
  | 2 =>
    { y := (List.range n).map (fun l => accSum ((List.range 4).filterMap (fun j =>
        if srcNone (s.src.getD j 255) then none else some (s.term j (fetch f done prev sn s j n) l)))),
      st := { st with flags := 0 } }
  | 3 => runPi false s st down track x (opt 1 x2) (opt 2 x3) (opt 3 x4)
  | 4 => runPi true s st down track x (opt 1 x2) (opt 2 x3) (opt 3 x4)
  | 5 => runBiquad s st f.strobe x
  | 6 =>
    if s.variant % 2 = 0 then
      { y := (List.range n).map (fun l => accSum ((List.range 3).filterMap (fun j =>
          if srcNone (s.src.getD j 255) then none else some (s.term j (fetch f done prev sn s j n) l)))),
        st := { st with flags := 0 } }
    else
      { y := (List.range n).map (fun l =>
          (ashOf (divQ (s.c 0 * x.lane l) (if x2.lane l < 0 then s.c 1 else maxQ (x2.lane l) (s.c 1)))).lane 0), st := { st with flags := 0 } }
  | 7 =>
    let lo := fun l => if s.variant % 2 = 1 then some (s.c 0) else opt 1 x2 l
    let hi := fun l => if s.variant / 2 % 2 = 1 then some (s.c 1) else opt 2 x3 l
    let rs := (List.range n).map (fun l => limitLane (x.lane l) (lo l) (hi l))
    { y := rs.map (·.1),
      st := { st with flags := bit 0 (rs.any (·.2.1)) + bit 1 (rs.any (·.2.2.1)) + bit 5 (rs.any (·.2.2.2)) } }
  | 8 =>
    let rise := s.c 0
    let fall := if s.variant % 2 = 1 then s.c 1 else s.c 0
    { y := (List.range n).map (fun l =>
        if f.strobe then x.lane l
        else accSum [st.out.term l, wideTerm (clampQ (-fall) rise (accSum [x.term l, negTerm (st.out.term l)]))]), st := { st with flags := bit 2 f.strobe } }
  | 9 => runObserver s st f.sswOpen x (fetch f done prev sn s 1 1) (fetch f done prev sn s 2 1)
  | 10 =>
    { y := (List.range n).map (fun l =>
        if s.variant / 2 ^ l % 2 = 1 then accSum [x.term l, s.term 0 (ashOf (f.injected sn)) 0] else x.lane l),
      st := { st with flags := 0 } }
  | 11 => { y := (List.range n).map x.lane, st := { st with flags := 0 } }
  | 12 =>
    runPlumb (tab.getD 2 {}) st f.sswOpen (fetch f done prev sn s 0 1) (fetch f done prev sn s 1 1) (fetch f done prev sn s 2 1)
      (fetch f done prev sn s 3 1)
  | _ => { y := [0], st := st }

/-- One stage with its mode mask and renormalisation (07 R153, R161). -/
def stepStage (f : Frozen) (tab : List Stage) (sts : List StageSt) (done prev : List Ash) (sn : Nat) (s : Stage) : StageSt :=
  let st := sts.getD sn {}
  if s.ty = 0 then {}
  else if s.mask / 2 ^ f.mode % 2 = 0 then
    { out := { m := List.replicate s.outLanes 0, e := -128 }, flags := 8 + bit 4 (st.flags / 16 % 2 == 1), modeOn := false, fresh := st.fresh }
  else
    let r := runStage f tab sts done prev sn s st
    let o := renorm r.y
    { r.st with out := o.1, flags := r.st.flags + bit 4 (o.2 || st.flags / 16 % 2 == 1), ovf := o.2, modeOn := true, fresh := false }

/-- The stages in ascending slot number, from slot `sn` on (07 R158). -/
def runFrom (f : Frozen) (tab : List Stage) (sts : List StageSt) (prev : List Ash) : List Stage → Nat → List Ash → List StageSt
  | [], _, _ => []
  | s :: rest, sn, done =>
    let st := stepStage f tab sts done prev sn s
    st :: runFrom f tab sts prev rest (sn + 1) (done ++ [st.out])

/-- The whole table, one sample. -/
def runTable (f : Frozen) (tab : List Stage) (sts : List StageSt) : List StageSt :=
  runFrom f tab sts (sts.map (·.out)) tab 0 []

/-! ### The table check (07 R163) -/

/-- Does source word w fit stage sn with n lanes: none, or the failing result 2 or 3 (07 R159, R163)? -/
def srcCheck (t : List Stage) (sn : Nat) (s : Stage) (x w : Nat) : Option Nat :=
  let k := w % 256
  let lane := w / 256 % 4
  let n := if s.ty = 9 ∨ s.ty = 12 ∨ (s.ty = 1 ∧ sn = 0) then 1 else s.lanes
  if k = 255 then none
  else if k < 16 then (if lane + n ≤ 1 then none else some 3)
  else if k = 16 then (if s.ty = 11 ∧ x = 0 then (if lane + n ≤ 1 then none else some 3) else some 2)
  else if k = 17 then none
  else if 64 ≤ k ∧ k < 128 then
    if sn ≤ k - 64 ∨ (t.getD (k - 64) {}).ty = 0 then some 2
    else if (t.getD (k - 64) {}).outLanes < lane + n then some 3 else none
  else if 128 ≤ k ∧ k < 192 then
    if (t.getD (k - 128) {}).ty = 0 then some 2
    else if (t.getD (k - 128) {}).outLanes < lane + n then some 3 else none
  else some 2

/-- Coefficient ranges of the bedrock law and the pole rule of BIQUAD (07 R163 result 5, R173, R174). -/
def coefOk (lHenry nFit : Rat) (sn : Nat) (s : Stage) : Bool :=
  let c := s.c
  let within := fun j lo hi => decide (lo ≤ c j ∧ c j ≤ hi)
  let poles := s.ty != 5 || (decide (absQ (c 4) < 1) && decide (absQ (c 3) < 1 + c 4))
  let small := s.ty != 5 || 40 ≤ sn || (List.range 5).all (fun j => decide (absQ (c j) ≤ 8))
  let alpha := s.ty != 4 || within 3 0 (999 / 1000)
  poles && small && alpha &&
    (match sn with
     | 2 => within 2 0 1 && within 3 0 40
     | 9 => within 0 0 100 && within 1 0 (1 / 100)
     | 15 => within 0 0 100 && within 1 0 1 && decide (c 0 * 4 * nFit ≤ 50000 * 2 * Config.pi * lHenry)
     | 18 => within 0 0 1
     | _ => true)

/-- Are type, variant and the count of inputs allowed (07 R163 result 6, R166)? DESIGN CHOICE (log 212): the stage that a PI or PID
variant word names may be of any type; its flags are read as they stand. -/
def typeOk (sn : Nat) (s : Stage) : Bool :=
  let con := s.src.map (fun w => !srcNone w)
  let c := fun k => con.getD k false
  let only := fun n => (List.range 4).all (fun k => decide (k < n) || !c k)
  decide (1 ≤ s.lanes ∧ s.lanes ≤ 4) &&
  (match s.ty with
   | 0 => true
   | 1 => c 0 && decide (s.variant ≤ 1) && (only 1 || (sn == 0 && s.lanes == 4 && c 1 && c 2 && c 3))
   | 2 => c 0 && c 1 && s.variant == 0
   | 3 => c 0 && decide (s.variant ≤ 63)
   | 4 => c 0 && decide (s.variant ≤ 63)
   | 5 => c 0 && only 1 && s.variant == 0
   | 6 => c 0 && only 3 && decide (s.variant ≤ 1) && (s.variant == 0 || c 1)
   | 7 => c 0 && only 3 && decide (s.variant ≤ 3)
   | 8 => c 0 && only 1 && decide (s.variant ≤ 1)
   | 9 => c 0 && c 1 && c 2 && only 3 && s.variant == 0
   | 10 => c 0 && only 1 && decide (s.variant ≤ 15)
   | 11 => c 0 && only 1 && s.variant == 0
   | 12 => c 0 && c 1 && c 2 && c 3 && s.variant == 0
   | _ => false)

/-- Lowest stage number that fails `bad`. -/
def lowest (t : List Stage) (bad : Nat → Stage → Bool) : Option Nat :=
  (List.range t.length).find? (fun i => bad i (t.getD i {}))

/-- First slot at which the running cost passes 4,000 (07 R163 result 1). -/
def costStage (t : List Stage) : Option Nat :=
  (List.range t.length).find? (fun i => decide (4000 < tableCost (t.take (i + 1))))

/-- A source that fails with this result. -/
def badSrc (t : List Stage) (r : Nat) (i : Nat) (s : Stage) : Bool :=
  s.ty != 0 && (List.range 4).any (fun x => srcCheck t i s x (s.src.getD x 255) == some r)

/-- The table check: none accepted, or the first failing result and the stage (07 R163). `locked` lists the stages with a
locked field written below its level. -/
def checkTable (lHenry nFit : Rat) (locked : List Nat) (t : List Stage) : Option (Nat × Nat) :=
  let pick := fun (r : Nat) (o : Option Nat) => o.map (fun i => (r, i))
  (pick 1 (costStage t)).or
    ((pick 2 (lowest t (badSrc t 2))).or
      ((pick 3 (lowest t (badSrc t 3))).or
        ((pick 4 (lowest t (fun i _ => locked.contains i))).or
          ((pick 5 (lowest t (fun i s => s.ty != 0 && !coefOk lHenry nFit i s))).or
            ((pick 6 (lowest t (fun i s => !typeOk i s))).or
              ((pick 7 (lowest t (fun i s => s.ty == 12 && i != 3))).or
                (pick 8 (lowest t (fun i s => (i == 10 || i == 20) &&
                  !(s.src.getD 0 255 % 256 == 17 || (168 ≤ s.src.getD 0 255 % 256 && s.src.getD 0 255 % 256 < 192)))))))))))

/-- How the state of a stage carries over a change of its structure or coefficients (07 R164). -/
def carryState (old new : Stage) (st : StageSt) : StageSt :=
  if old = new then st
  else if old.ty = new.ty ∧ old.lanes = new.lanes ∧ old.variant = new.variant ∧ old.src = new.src then
    if new.ty = 3 ∨ new.ty = 4 then
      { st with w1 := st.w1.mapIdx (fun l w => wide (w + (old.c 0 - new.c 0) * st.prev.getD l 0)) }
    else st
  else { fresh := true }

end Sys2Proof.Machine
end

