-- ==== Sys2Proof/Machine/Od.lean ====
section
/-! DEFINITION. The object dictionary as the tables of the spec give it: per index, the sub-indices with their type, access
code, level, default and range (00 R4, R6 to R8; 12 R311). A value the tables leave open ("—") has the default 0 (log 6).
The objects of the communication profile of 11 R283 and 10 R277 take the layout of CiA 301 and EN 50325-5 (log 26). -/

namespace Sys2Proof.Machine

/-- The types the dictionary uses (00 R4). -/
inductive OdType where
  | u8 | u16 | u32 | u64 | i8 | i16 | i32 | i64 | bool | r32 | dom | oct
deriving DecidableEq, Repr

/-- The access codes (00 R8). -/
inductive OdAcc where
  | ro | rw | wo | rwc
deriving DecidableEq, Repr

/-- One row of a table: sub-indices lo to hi, type, access code, level of a write, level of a read, default, range. -/
structure OdRow where
  /-- First sub-index. -/
  lo : Nat
  /-- Last sub-index. -/
  hi : Nat
  /-- Type. -/
  ty : OdType
  /-- Access code. -/
  acc : OdAcc
  /-- Level of a write. -/
  wl : Nat
  /-- Level of a read. -/
  rl : Nat
  /-- Default. -/
  dflt : Int
  /-- Smallest value. -/
  min : Int
  /-- Largest value. -/
  max : Int
deriving DecidableEq, Repr

/-- Size in bytes of a type, 0 where it has no fixed size. -/
def OdType.size : OdType → Nat
  | .u8 | .i8 | .bool => 1
  | .u16 | .i16 => 2
  | .u32 | .i32 | .r32 => 4
  | .u64 | .i64 => 8
  | .dom | .oct => 0

/-- Is a type signed? -/
def OdType.signed : OdType → Bool
  | .i8 | .i16 | .i32 | .i64 => true
  | _ => false

/-- 0x1000 (chapter 11). -/
def od1000 : List OdRow :=
  [ ⟨0, 0, .u32, .ro, 0, 0, 0, 0, 4294967295⟩ ]

/-- 0x1001 (chapter 11). -/
def od1001 : List OdRow :=
  [ ⟨0, 0, .u8, .ro, 0, 0, 0, 0, 255⟩ ]

/-- 0x1003 (chapter 11). -/
def od1003 : List OdRow :=
  [ ⟨0, 0, .u8, .rwc, 2, 0, 0, 0, 0⟩,
    ⟨1, 16, .u32, .ro, 0, 0, 0, 0, 4294967295⟩ ]

/-- 0x1008 (chapter 11). -/
def od1008 : List OdRow :=
  [ ⟨0, 0, .oct, .ro, 0, 0, 0, 0, 0⟩ ]

/-- 0x1009 (chapter 11). -/
def od1009 : List OdRow :=
  [ ⟨0, 0, .oct, .ro, 0, 0, 0, 0, 0⟩ ]

/-- 0x100A (chapter 11). -/
def od100A : List OdRow :=
  [ ⟨0, 0, .oct, .ro, 0, 0, 0, 0, 0⟩ ]

/-- 0x1014 (chapter 11). -/
def od1014 : List OdRow :=
  [ ⟨0, 0, .u32, .rwc, 2, 0, 0, 0, 4294967295⟩ ]

/-- 0x1015 (chapter 11). -/
def od1015 : List OdRow :=
  [ ⟨0, 0, .u16, .rwc, 2, 0, 10, 0, 65535⟩ ]

/-- 0x1017 (chapter 11). -/
def od1017 : List OdRow :=
  [ ⟨0, 0, .u16, .rwc, 2, 0, 100, 10, 100⟩ ]

/-- 0x1018 (chapter 11). -/
def od1018 : List OdRow :=
  [ ⟨0, 0, .u8, .ro, 0, 0, 4, 0, 255⟩,
    ⟨1, 1, .u32, .ro, 0, 0, 2876, 0, 4294967295⟩,
    ⟨2, 2, .u32, .ro, 0, 0, 5443606, 0, 4294967295⟩,
    ⟨3, 3, .u32, .ro, 0, 0, 0, 0, 4294967295⟩,
    ⟨4, 4, .u32, .ro, 0, 0, 0, 0, 4294967295⟩ ]

/-- 0x1200 (chapter 11). -/
def od1200 : List OdRow :=
  [ ⟨0, 0, .u8, .ro, 0, 0, 2, 0, 255⟩,
    ⟨1, 1, .u32, .ro, 0, 0, 0, 0, 4294967295⟩,
    ⟨2, 2, .u32, .ro, 0, 0, 0, 0, 4294967295⟩ ]

/-- 0x1301 to 0x1308 (chapter 10). -/
def od1301 : List OdRow :=
  [ ⟨1, 1, .u8, .rwc, 3, 0, 0, 0, 2⟩,
    ⟨2, 2, .u16, .rwc, 3, 0, 25, 10, 1000⟩,
    ⟨3, 3, .u8, .rwc, 3, 0, 20, 1, 20⟩,
    ⟨5, 5, .u32, .rwc, 3, 0, 0, 0, 2047⟩,
    ⟨6, 6, .u32, .rwc, 3, 0, 0, 0, 2047⟩ ]

/-- 0x1381 to 0x1388 (chapter 10). -/
def od1381 : List OdRow :=
  [ ⟨0, 0, .u8, .rwc, 3, 0, 0, 0, 16⟩,
    ⟨1, 16, .u32, .rwc, 3, 0, 0, 0, 4294967295⟩ ]

/-- 0x13FE (chapter 10). -/
def od13FE : List OdRow :=
  [ ⟨0, 0, .u8, .rwc, 3, 0, 0, 0, 255⟩ ]

/-- 0x13FF (chapter 10). -/
def od13FF : List OdRow :=
  [ ⟨1, 8, .u16, .rwc, 3, 0, 0, 0, 65535⟩ ]

/-- 0x1400 to 0x1403 (chapter 11). -/
def od1400 : List OdRow :=
  [ ⟨0, 0, .u8, .ro, 0, 0, 2, 0, 255⟩,
    ⟨1, 1, .u32, .rwc, 2, 0, 0, 0, 4294967295⟩,
    ⟨2, 2, .u8, .rwc, 2, 0, 254, 254, 255⟩ ]

/-- 0x1600 to 0x1603 (chapter 11). -/
def od1600 : List OdRow :=
  [ ⟨0, 0, .u8, .rwc, 2, 0, 0, 0, 64⟩,
    ⟨1, 64, .u32, .rwc, 2, 0, 0, 0, 4294967295⟩ ]

/-- 0x1800 to 0x1803 (chapter 11). -/
def od1800 : List OdRow :=
  [ ⟨0, 0, .u8, .ro, 0, 0, 2, 0, 255⟩,
    ⟨1, 1, .u32, .rwc, 2, 0, 0, 0, 4294967295⟩,
    ⟨2, 2, .u8, .rwc, 2, 0, 254, 254, 255⟩ ]

/-- 0x1A00 to 0x1A03 (chapter 11). -/
def od1A00 : List OdRow :=
  [ ⟨0, 0, .u8, .rwc, 2, 0, 0, 0, 64⟩,
    ⟨1, 64, .u32, .rwc, 2, 0, 0, 0, 4294967295⟩ ]

/-- 0x2000 (chapters 01, 02, 03, 12). -/
def od2000 : List OdRow :=
  [ ⟨2, 2, .u8, .rw, 2, 0, 255, 1, 255⟩,
    ⟨3, 3, .u8, .ro, 0, 0, 0, 0, 255⟩,
    ⟨4, 4, .u8, .ro, 0, 0, 0, 0, 255⟩,
    ⟨5, 5, .bool, .rwc, 2, 0, 1, 0, 1⟩,
    ⟨6, 6, .u16, .rwc, 2, 0, 5000, 1000, 60000⟩,
    ⟨7, 7, .u8, .rwc, 1, 0, 0, 0, 1⟩,
    ⟨16, 16, .u32, .ro, 0, 0, 0, 0, 4294967295⟩,
    ⟨17, 17, .u32, .ro, 0, 0, 0, 0, 4294967295⟩,
    ⟨18, 18, .u8, .ro, 0, 0, 0, 0, 255⟩,
    ⟨19, 19, .i32, .ro, 0, 0, 0, -2147483648, 2147483647⟩,
    ⟨20, 20, .u16, .ro, 0, 0, 0, 0, 65535⟩,
    ⟨21, 21, .i32, .ro, 0, 0, 0, -2147483648, 2147483647⟩ ] ++
  [ ⟨22, 22, .bool, .rwc, 2, 0, 0, 0, 1⟩,
    ⟨23, 23, .bool, .rwc, 2, 0, 0, 0, 1⟩,
    ⟨24, 24, .i32, .ro, 0, 0, 0, -2147483648, 2147483647⟩,
    ⟨25, 25, .u16, .ro, 0, 0, 0, 0, 65535⟩,
    ⟨8, 8, .u8, .ro, 0, 0, 0, 0, 255⟩,
    ⟨9, 9, .u8, .ro, 0, 0, 0, 0, 255⟩,
    ⟨10, 10, .u8, .wo, 1, 0, 0, 1, 9⟩,
    ⟨11, 11, .u16, .ro, 0, 0, 0, 0, 65535⟩,
    ⟨12, 12, .u8, .ro, 0, 0, 0, 0, 255⟩,
    ⟨13, 13, .u8, .ro, 0, 0, 0, 0, 255⟩,
    ⟨14, 14, .u8, .ro, 0, 0, 0, 0, 255⟩,
    ⟨15, 15, .u8, .ro, 0, 0, 0, 0, 255⟩ ] ++
  [ ⟨26, 26, .u32, .ro, 0, 0, 0, 0, 4294967295⟩,
    ⟨27, 27, .u16, .ro, 0, 0, 0, 0, 65535⟩,
    ⟨28, 28, .u8, .rwc, 2, 0, 0, 0, 1⟩,
    ⟨29, 29, .u8, .rwc, 2, 0, 0, 0, 1⟩,
    ⟨30, 30, .u32, .ro, 0, 0, 0, 0, 4294967295⟩,
    ⟨1, 1, .u8, .ro, 0, 0, 0, 0, 255⟩ ]

/-- 0x2010 to 0x2011 (chapter 11). -/
def od2010 : List OdRow :=
  [ ⟨1, 1, .u16, .rwc, 2, 0, 500, 250, 1000⟩,
    ⟨2, 2, .u16, .rwc, 2, 0, 2000, 1000, 5000⟩,
    ⟨3, 3, .u16, .rwc, 2, 0, 800, 750, 875⟩,
    ⟨4, 4, .u16, .rwc, 2, 0, 750, 700, 800⟩,
    ⟨5, 5, .bool, .rwc, 2, 0, 1, 0, 1⟩,
    ⟨6, 6, .u8, .rwc, 2, 0, 0, 0, 1⟩,
    ⟨7, 7, .bool, .rwc, 2, 0, 1, 0, 1⟩,
    ⟨8, 8, .u8, .rwc, 2, 0, 3, 1, 3⟩,
    ⟨9, 9, .u8, .wo, 2, 0, 0, 1, 2⟩,
    ⟨10, 10, .bool, .rwc, 2, 0, 1, 0, 1⟩,
    ⟨16, 16, .u8, .ro, 0, 0, 0, 0, 255⟩,
    ⟨17, 17, .u16, .ro, 0, 0, 0, 0, 65535⟩ ] ++
  [ ⟨18, 18, .u8, .ro, 0, 0, 0, 0, 255⟩,
    ⟨19, 19, .u32, .ro, 0, 0, 0, 0, 4294967295⟩,
    ⟨20, 20, .u32, .ro, 0, 0, 0, 0, 4294967295⟩,
    ⟨21, 21, .u32, .ro, 0, 0, 0, 0, 4294967295⟩,
    ⟨22, 22, .u32, .ro, 0, 0, 0, 0, 4294967295⟩,
    ⟨23, 23, .u32, .ro, 0, 0, 0, 0, 4294967295⟩ ]

/-- 0x2012 (chapter 11). -/
def od2012 : List OdRow :=
  [ ⟨1, 1, .u16, .rwc, 2, 0, 50, 10, 1000⟩,
    ⟨2, 2, .u16, .rwc, 2, 0, 5, 1, 100⟩,
    ⟨3, 3, .u16, .rwc, 2, 0, 20, 5, 1000⟩,
    ⟨4, 4, .u16, .rwc, 2, 0, 100, 10, 10000⟩,
    ⟨5, 5, .u16, .rwc, 2, 0, 1000, 10, 60000⟩,
    ⟨6, 6, .u8, .rwc, 2, 0, 12, 0, 15⟩,
    ⟨16, 19, .u32, .ro, 0, 0, 0, 0, 4294967295⟩,
    ⟨20, 23, .u32, .ro, 0, 0, 0, 0, 4294967295⟩,
    ⟨24, 24, .u32, .ro, 0, 0, 0, 0, 4294967295⟩,
    ⟨32, 32, .u8, .rwc, 2, 0, 1, 0, 3⟩ ]

/-- 0x2013 to 0x2014 (chapter 11). -/
def od2013 : List OdRow :=
  [ ⟨1, 8, .u64, .ro, 0, 0, 0, 0, 18446744073709551615⟩,
    ⟨9, 32, .u64, .rwc, 2, 0, 0, 0, 18446744073709551615⟩ ]

/-- 0x2100 (chapter 12). -/
def od2100 : List OdRow :=
  [ ⟨1, 1, .u64, .ro, 0, 0, 0, 0, 18446744073709551615⟩,
    ⟨2, 2, .u64, .ro, 0, 0, 0, 0, 18446744073709551615⟩,
    ⟨3, 3, .u16, .ro, 0, 0, 0, 0, 65535⟩,
    ⟨4, 4, .u16, .ro, 0, 0, 0, 0, 65535⟩,
    ⟨5, 5, .u8, .ro, 0, 0, 0, 0, 255⟩,
    ⟨6, 6, .u32, .ro, 0, 0, 0, 0, 4294967295⟩,
    ⟨16, 16, .dom, .wo, 0, 0, 0, 0, 0⟩,
    ⟨32, 39, .dom, .rwc, 0, 0, 0, 0, 0⟩,
    ⟨40, 47, .dom, .ro, 0, 0, 0, 0, 0⟩ ]

/-- 0x2200 (chapters 04, 11). -/
def od2200 : List OdRow :=
  [ ⟨1, 1, .u64, .ro, 0, 0, 0, 0, 18446744073709551615⟩,
    ⟨2, 2, .u8, .ro, 0, 0, 0, 0, 255⟩,
    ⟨3, 3, .i32, .ro, 0, 0, 0, -2147483648, 2147483647⟩,
    ⟨4, 4, .i32, .ro, 0, 0, 0, -2147483648, 2147483647⟩,
    ⟨5, 5, .u64, .ro, 0, 0, 0, 0, 18446744073709551615⟩,
    ⟨6, 6, .u32, .rwc, 2, 0, 100000, 10000, 10000000⟩,
    ⟨7, 7, .i64, .ro, 0, 0, 0, -9223372036854775808, 9223372036854775807⟩,
    ⟨8, 8, .i16, .ro, 0, 0, 0, -32768, 32767⟩,
    ⟨16, 16, .u32, .rwc, 2, 0, 504, 1, 2047⟩,
    ⟨17, 17, .u32, .rwc, 2, 0, 505, 1, 2047⟩,
    ⟨18, 18, .u16, .rwc, 2, 0, 0, 0, 1000⟩,
    ⟨19, 19, .u8, .rwc, 2, 0, 0, 0, 1⟩ ] ++
  [ ⟨20, 20, .u16, .ro, 0, 0, 0, 0, 65535⟩,
    ⟨21, 21, .u32, .ro, 0, 0, 0, 0, 4294967295⟩,
    ⟨22, 22, .u32, .ro, 0, 0, 0, 0, 4294967295⟩,
    ⟨23, 23, .u32, .ro, 0, 0, 0, 0, 4294967295⟩,
    ⟨24, 24, .u64, .ro, 0, 0, 0, 0, 18446744073709551615⟩,
    ⟨25, 25, .u16, .rwc, 2, 0, 600, 10, 3600⟩,
    ⟨26, 26, .u8, .ro, 0, 0, 255, 0, 255⟩ ]

/-- 0x3000 (chapters 06, 07). -/
def od3000 : List OdRow :=
  [ ⟨1, 1, .u8, .rwc, 2, 0, 0, 0, 2⟩,
    ⟨2, 2, .i32, .rwc, 1, 0, 0, -1000000, 1000000⟩,
    ⟨3, 3, .i32, .rwc, 1, 0, 0, -1500000, 1500000⟩,
    ⟨4, 4, .u32, .rwc, 1, 0, 0, 0, 1500000⟩,
    ⟨5, 5, .u16, .rwc, 2, 0, 100, 0, 10000⟩,
    ⟨6, 6, .u32, .rwc, 2, 0, 1200000, 100000, 1500000⟩,
    ⟨7, 7, .u32, .rwc, 2, 0, 1000, 1, 100000⟩,
    ⟨8, 8, .u32, .rwc, 2, 0, 1000, 1, 1500000⟩,
    ⟨9, 9, .u32, .rwc, 2, 0, 100, 1, 100000⟩,
    ⟨11, 11, .u16, .rwc, 2, 0, 300, 50, 5000⟩,
    ⟨12, 12, .u16, .rwc, 2, 0, 10000, 1000, 60000⟩,
    ⟨14, 14, .u32, .rwc, 2, 0, 5000, 1000, 50000⟩ ] ++
  [ ⟨16, 16, .u16, .rwc, 2, 0, 100, 10, 1000⟩,
    ⟨17, 17, .u16, .rwc, 2, 0, 100, 0, 1000⟩,
    ⟨18, 18, .u16, .rwc, 2, 0, 20, 0, 500⟩,
    ⟨19, 19, .u16, .rwc, 2, 0, 2000, 2000, 8000⟩,
    ⟨20, 20, .u16, .rwc, 2, 0, 64, 16, 1024⟩,
    ⟨21, 21, .u16, .rwc, 2, 0, 0, 0, 65535⟩,
    ⟨22, 22, .u16, .rwc, 2, 0, 500, 100, 2000⟩,
    ⟨32, 32, .u8, .ro, 0, 0, 0, 0, 255⟩,
    ⟨33, 33, .u8, .ro, 0, 0, 0, 0, 255⟩,
    ⟨34, 34, .i32, .ro, 0, 0, 0, -2147483648, 2147483647⟩,
    ⟨35, 35, .i32, .ro, 0, 0, 0, -2147483648, 2147483647⟩,
    ⟨36, 36, .i32, .ro, 0, 0, 0, -2147483648, 2147483647⟩ ] ++
  [ ⟨37, 37, .i32, .ro, 0, 0, 0, -2147483648, 2147483647⟩,
    ⟨38, 38, .u32, .ro, 0, 0, 0, 0, 4294967295⟩,
    ⟨39, 39, .i32, .ro, 0, 0, 0, -2147483648, 2147483647⟩,
    ⟨40, 40, .u32, .ro, 0, 0, 0, 0, 4294967295⟩,
    ⟨41, 41, .i32, .ro, 0, 0, 0, -2147483648, 2147483647⟩,
    ⟨42, 42, .u16, .ro, 0, 0, 0, 0, 65535⟩,
    ⟨43, 43, .u8, .ro, 0, 0, 0, 0, 255⟩,
    ⟨44, 44, .u16, .ro, 0, 0, 0, 0, 65535⟩,
    ⟨45, 45, .u32, .ro, 0, 0, 0, 0, 4294967295⟩,
    ⟨48, 48, .u16, .ro, 0, 0, 1532, 0, 65535⟩,
    ⟨49, 49, .u8, .ro, 0, 0, 0, 0, 255⟩,
    ⟨50, 50, .u8, .ro, 0, 0, 255, 0, 255⟩ ] ++
  [ ⟨51, 51, .u32, .ro, 0, 0, 0, 0, 4294967295⟩,
    ⟨52, 52, .u16, .ro, 0, 0, 256, 0, 65535⟩,
    ⟨53, 53, .u32, .ro, 0, 0, 0, 0, 4294967295⟩,
    ⟨54, 54, .u32, .ro, 0, 0, 0, 0, 4294967295⟩,
    ⟨56, 56, .i32, .ro, 0, 0, 0, -2147483648, 2147483647⟩,
    ⟨57, 57, .i32, .ro, 0, 0, 0, -2147483648, 2147483647⟩,
    ⟨58, 58, .u32, .rwc, 2, 0, 20000, 1000, 1000000⟩,
    ⟨59, 59, .u16, .rwc, 2, 0, 200, 50, 2000⟩,
    ⟨60, 60, .u8, .ro, 0, 0, 0, 0, 255⟩ ]

/-- 0x3100 to 0x313F (chapter 07). -/
def od3100 : List OdRow :=
  [ ⟨1, 1, .u8, .rwc, 2, 0, 0, 0, 12⟩,
    ⟨2, 2, .u8, .rwc, 2, 0, 1, 1, 4⟩,
    ⟨3, 3, .u8, .rwc, 2, 0, 7, 0, 7⟩,
    ⟨4, 7, .u16, .rwc, 2, 0, 255, 0, 65535⟩,
    ⟨8, 8, .u16, .rwc, 2, 0, 0, 0, 65535⟩,
    ⟨9, 9, .i8, .ro, 0, 0, -128, -128, 127⟩,
    ⟨10, 17, .r32, .rwc, 2, 0, 0, 0, 4294967295⟩,
    ⟨18, 18, .u16, .ro, 0, 0, 0, 0, 65535⟩,
    ⟨19, 19, .u16, .ro, 0, 0, 0, 0, 65535⟩,
    ⟨20, 23, .r32, .ro, 0, 0, 0, 0, 4294967295⟩,
    ⟨24, 24, .u8, .ro, 0, 0, 0, 0, 255⟩ ]

/-- 0x3200 (chapter 07). -/
def od3200 : List OdRow :=
  [ ⟨1, 1, .u8, .rwc, 2, 0, 0, 0, 5⟩,
    ⟨2, 2, .bool, .rwc, 2, 0, 1, 0, 1⟩,
    ⟨3, 3, .u16, .rwc, 2, 0, 3073, 0, 65535⟩,
    ⟨4, 4, .r32, .rwc, 2, 0, 0, 0, 4294967295⟩,
    ⟨5, 5, .u32, .rwc, 2, 0, 100000, 1, 100000000⟩,
    ⟨6, 6, .u32, .rwc, 2, 0, 50000, 1, 100000000⟩,
    ⟨7, 7, .u32, .rwc, 2, 0, 10000, 100, 25000000⟩,
    ⟨8, 8, .u32, .rwc, 2, 0, 2000000, 100, 25000000⟩,
    ⟨9, 9, .u8, .rwc, 2, 0, 11, 7, 15⟩,
    ⟨10, 10, .u8, .rwc, 2, 0, 1, 1, 64⟩,
    ⟨11, 11, .u8, .rwc, 2, 0, 1, 1, 8⟩,
    ⟨12, 19, .u32, .rwc, 2, 0, 100, 1, 250000⟩ ] ++
  [ ⟨20, 27, .u16, .rwc, 2, 0, 10000, 0, 10000⟩,
    ⟨28, 35, .u16, .rwc, 2, 0, 0, 0, 65535⟩,
    ⟨36, 36, .u8, .wo, 2, 0, 0, 1, 2⟩,
    ⟨37, 37, .u8, .ro, 0, 0, 0, 0, 255⟩,
    ⟨38, 38, .u64, .ro, 0, 0, 0, 0, 18446744073709551615⟩,
    ⟨39, 39, .u8, .ro, 0, 0, 0, 0, 255⟩,
    ⟨40, 40, .u8, .ro, 0, 0, 0, 0, 255⟩ ]

/-- 0x3201 (chapter 07). -/
def od3201 : List OdRow :=
  [ ⟨1, 4, .u16, .rwc, 2, 0, 255, 0, 65535⟩,
    ⟨5, 5, .u16, .rwc, 2, 0, 1, 1, 1000⟩,
    ⟨6, 6, .u16, .rwc, 2, 0, 1024, 0, 16383⟩,
    ⟨7, 7, .u8, .rwc, 2, 0, 0, 0, 4⟩,
    ⟨8, 8, .u8, .rwc, 2, 0, 4, 0, 15⟩,
    ⟨9, 9, .r32, .rwc, 2, 0, 0, 0, 4294967295⟩,
    ⟨10, 10, .r32, .rwc, 2, 0, 0, 0, 4294967295⟩,
    ⟨11, 11, .u32, .rwc, 2, 0, 0, 0, 4294967295⟩,
    ⟨12, 12, .u8, .wo, 2, 0, 0, 1, 3⟩,
    ⟨13, 13, .u8, .ro, 0, 0, 0, 0, 255⟩,
    ⟨14, 14, .u64, .ro, 0, 0, 0, 0, 18446744073709551615⟩,
    ⟨15, 15, .u16, .ro, 0, 0, 0, 0, 65535⟩ ] ++
  [ ⟨16, 16, .dom, .ro, 0, 0, 0, 0, 0⟩ ]

/-- 0x3400 to 0x340F (chapters 05, 06, 08, 09). -/
def od3400 : List OdRow :=
  [ ⟨32, 32, .bool, .rwc, 2, 0, 0, 0, 1⟩,
    ⟨33, 33, .u8, .ro, 0, 0, 0, 0, 255⟩,
    ⟨34, 34, .i16, .ro, 0, 0, 32768, -32768, 32767⟩,
    ⟨35, 35, .i16, .ro, 0, 0, 32768, -32768, 32767⟩,
    ⟨36, 36, .u32, .ro, 0, 0, 0, 0, 4294967295⟩,
    ⟨37, 37, .u32, .ro, 0, 0, 0, 0, 4294967295⟩,
    ⟨38, 38, .u32, .ro, 0, 0, 0, 0, 4294967295⟩,
    ⟨39, 39, .u8, .ro, 0, 0, 0, 0, 255⟩,
    ⟨40, 40, .u16, .ro, 0, 0, 0, 0, 65535⟩,
    ⟨41, 41, .u16, .ro, 0, 0, 0, 0, 65535⟩,
    ⟨42, 42, .u32, .ro, 0, 0, 0, 0, 4294967295⟩,
    ⟨43, 43, .u32, .ro, 0, 0, 0, 0, 4294967295⟩ ] ++
  [ ⟨44, 44, .u16, .ro, 0, 0, 255, 0, 65535⟩,
    ⟨45, 45, .u8, .wo, 2, 0, 0, 1, 4⟩,
    ⟨46, 46, .u16, .ro, 0, 0, 0, 0, 65535⟩,
    ⟨47, 47, .u8, .ro, 0, 0, 0, 0, 255⟩,
    ⟨1, 1, .u8, .ro, 0, 0, 0, 0, 255⟩,
    ⟨2, 2, .u8, .ro, 0, 0, 255, 0, 255⟩,
    ⟨3, 3, .u16, .ro, 0, 0, 0, 0, 65535⟩,
    ⟨4, 4, .i16, .ro, 0, 0, 0, -32768, 32767⟩,
    ⟨5, 5, .u8, .ro, 0, 0, 1, 0, 255⟩,
    ⟨6, 6, .u16, .ro, 0, 0, 10000, 0, 65535⟩,
    ⟨7, 7, .i32, .ro, 0, 0, 0, -2147483648, 2147483647⟩,
    ⟨8, 8, .u32, .ro, 0, 0, 0, 0, 4294967295⟩ ] ++
  [ ⟨9, 9, .u8, .ro, 0, 0, 0, 0, 255⟩,
    ⟨10, 10, .u8, .wo, 2, 0, 0, 1, 2⟩,
    ⟨16, 16, .u16, .ro, 0, 0, 0, 0, 65535⟩,
    ⟨17, 17, .u16, .ro, 0, 0, 0, 0, 65535⟩,
    ⟨18, 18, .u32, .ro, 0, 0, 0, 0, 4294967295⟩,
    ⟨19, 19, .u32, .ro, 0, 0, 0, 0, 4294967295⟩,
    ⟨20, 20, .u16, .ro, 0, 0, 0, 0, 65535⟩,
    ⟨21, 21, .u8, .ro, 0, 0, 255, 0, 255⟩,
    ⟨22, 22, .u8, .ro, 0, 0, 255, 0, 255⟩,
    ⟨23, 23, .i32, .ro, 0, 0, 0, -2147483648, 2147483647⟩,
    ⟨24, 24, .i32, .ro, 0, 0, 0, -2147483648, 2147483647⟩,
    ⟨25, 25, .u16, .ro, 0, 0, 0, 0, 65535⟩ ] ++
  [ ⟨26, 26, .u16, .ro, 0, 0, 10000, 0, 65535⟩,
    ⟨27, 27, .u16, .ro, 0, 0, 0, 0, 65535⟩,
    ⟨28, 28, .u16, .ro, 0, 0, 0, 0, 65535⟩,
    ⟨31, 31, .u8, .wo, 2, 0, 0, 1, 1⟩,
    ⟨48, 48, .i16, .ro, 0, 0, 32768, -32768, 32767⟩,
    ⟨49, 49, .u8, .ro, 0, 0, 255, 0, 255⟩,
    ⟨50, 50, .i16, .ro, 0, 0, 32768, -32768, 32767⟩,
    ⟨51, 51, .i16, .ro, 0, 0, 32768, -32768, 32767⟩,
    ⟨52, 52, .u16, .ro, 0, 0, 0, 0, 65535⟩,
    ⟨53, 53, .u8, .ro, 0, 0, 0, 0, 255⟩,
    ⟨54, 54, .u16, .ro, 0, 0, 10000, 0, 65535⟩ ]

/-- 0x3500 (chapter 08). -/
def od3500 : List OdRow :=
  [ ⟨1, 1, .u16, .ro, 0, 0, 0, 0, 65535⟩,
    ⟨2, 2, .bool, .rwc, 2, 0, 0, 0, 1⟩,
    ⟨5, 5, .u16, .rwc, 2, 0, 20, 1, 500⟩,
    ⟨6, 6, .u16, .rwc, 2, 0, 50, 1, 1000⟩,
    ⟨7, 7, .u16, .rwc, 2, 0, 300, 50, 2000⟩,
    ⟨8, 8, .bool, .rwc, 2, 0, 1, 0, 1⟩,
    ⟨9, 9, .u16, .rwc, 2, 0, 90, 30, 600⟩,
    ⟨10, 10, .u16, .rwc, 2, 0, 500, 100, 2000⟩,
    ⟨11, 11, .u16, .rwc, 2, 0, 100, 10, 100⟩,
    ⟨12, 12, .u16, .rwc, 2, 0, 2000, 0, 10000⟩,
    ⟨13, 13, .u16, .rwc, 2, 0, 1000, 0, 10000⟩,
    ⟨14, 14, .u16, .rwc, 2, 0, 500, 0, 10000⟩ ] ++
  [ ⟨15, 15, .u16, .rwc, 2, 0, 200, 0, 10000⟩,
    ⟨16, 16, .u16, .rwc, 2, 0, 8000, 0, 10000⟩,
    ⟨17, 17, .u16, .rwc, 2, 0, 9000, 0, 10000⟩,
    ⟨18, 18, .u16, .rwc, 2, 0, 9500, 0, 10000⟩,
    ⟨19, 19, .u16, .rwc, 2, 0, 9800, 0, 10000⟩,
    ⟨20, 20, .u16, .rwc, 2, 0, 50, 0, 500⟩,
    ⟨21, 21, .u16, .rwc, 2, 0, 100, 0, 1000⟩,
    ⟨22, 22, .u16, .rwc, 2, 0, 10, 1, 60⟩,
    ⟨23, 23, .u16, .rwc, 2, 0, 20, 1, 50⟩,
    ⟨24, 24, .u16, .rwc, 2, 0, 30, 1, 1000⟩,
    ⟨32, 32, .u16, .ro, 0, 0, 0, 0, 65535⟩,
    ⟨33, 33, .u16, .ro, 0, 0, 0, 0, 65535⟩ ] ++
  [ ⟨34, 34, .u32, .ro, 0, 0, 0, 0, 4294967295⟩,
    ⟨35, 35, .u32, .ro, 0, 0, 0, 0, 4294967295⟩,
    ⟨36, 36, .u16, .ro, 0, 0, 0, 0, 65535⟩,
    ⟨37, 37, .i32, .ro, 0, 0, 0, -2147483648, 2147483647⟩,
    ⟨38, 38, .i32, .ro, 0, 0, 0, -2147483648, 2147483647⟩,
    ⟨39, 39, .u8, .ro, 0, 0, 0, 0, 255⟩,
    ⟨40, 40, .u16, .ro, 0, 0, 0, 0, 65535⟩,
    ⟨42, 42, .u64, .ro, 0, 0, 0, 0, 18446744073709551615⟩,
    ⟨43, 43, .u16, .ro, 0, 0, 0, 0, 65535⟩,
    ⟨48, 48, .u8, .wo, 1, 0, 0, 1, 2⟩ ]

/-- 0x3600 to 0x360F (chapter 08). -/
def od3600 : List OdRow :=
  [ ⟨0, 0, .u8, .ro, 0, 0, 32, 0, 255⟩,
    ⟨1, 32, .oct, .ro, 0, 0, 0, 0, 0⟩ ]

/-- 0x3800 (chapter 08). -/
def od3800 : List OdRow :=
  [ ⟨1, 1, .u8, .ro, 0, 0, 0, 0, 255⟩,
    ⟨2, 2, .u8, .ro, 0, 0, 0, 0, 255⟩,
    ⟨3, 3, .u8, .ro, 0, 0, 0, 0, 255⟩,
    ⟨4, 4, .u32, .ro, 0, 0, 0, 0, 4294967295⟩,
    ⟨5, 5, .u32, .ro, 0, 0, 0, 0, 4294967295⟩,
    ⟨6, 6, .u8, .wo, 3, 0, 0, 1, 2⟩,
    ⟨7, 7, .u8, .ro, 0, 0, 0, 0, 255⟩,
    ⟨16, 16, .dom, .rw, 3, 0, 0, 0, 0⟩,
    ⟨17, 17, .dom, .rw, 3, 0, 0, 0, 0⟩ ]

/-- 0x3A00 (chapter 09). -/
def od3A00 : List OdRow :=
  [ ⟨1, 1, .i16, .ro, 0, 0, 0, -32768, 32767⟩,
    ⟨2, 2, .i16, .ro, 0, 0, 0, -32768, 32767⟩,
    ⟨3, 3, .i16, .ro, 0, 0, 0, -32768, 32767⟩,
    ⟨4, 4, .u16, .ro, 0, 0, 0, 0, 65535⟩,
    ⟨5, 5, .i16, .ro, 0, 0, 0, -32768, 32767⟩,
    ⟨6, 6, .i16, .ro, 0, 0, 0, -32768, 32767⟩,
    ⟨8, 8, .i16, .rwc, 2, 0, 1000, 500, 1500⟩,
    ⟨9, 9, .i16, .rwc, 2, 0, 1100, 500, 1500⟩,
    ⟨10, 10, .i16, .rwc, 2, 0, 1250, 500, 1500⟩,
    ⟨11, 11, .u16, .rwc, 2, 0, 30, 10, 100⟩,
    ⟨16, 19, .i16, .ro, 0, 0, 0, -32768, 32767⟩,
    ⟨24, 24, .u16, .ro, 0, 0, 10000, 0, 65535⟩ ] ++
  [ ⟨25, 25, .u16, .ro, 0, 0, 65535, 0, 65535⟩,
    ⟨26, 26, .i16, .ro, 0, 0, 32768, -32768, 32767⟩,
    ⟨27, 27, .i16, .ro, 0, 0, 32768, -32768, 32767⟩,
    ⟨28, 28, .bool, .ro, 0, 0, 0, 0, 1⟩,
    ⟨29, 29, .u8, .rwc, 2, 0, 10, 1, 60⟩,
    ⟨30, 30, .u8, .ro, 0, 0, 0, 0, 255⟩ ]

/-- 0x4000 (chapter 12). -/
def od4000 : List OdRow :=
  [ ⟨1, 1, .u8, .ro, 0, 0, 0, 0, 255⟩,
    ⟨2, 2, .u16, .ro, 0, 0, 0, 0, 65535⟩,
    ⟨3, 3, .u8, .wo, 3, 0, 0, 1, 1⟩,
    ⟨4, 4, .u32, .wo, 3, 0, 0, 0, 4294967295⟩,
    ⟨5, 5, .u32, .ro, 0, 0, 0, 0, 4294967295⟩,
    ⟨6, 6, .u32, .ro, 0, 0, 0, 0, 4294967295⟩,
    ⟨7, 7, .u8, .ro, 0, 0, 0, 0, 255⟩,
    ⟨8, 8, .u32, .ro, 0, 0, 0, 0, 4294967295⟩,
    ⟨9, 9, .u64, .ro, 0, 0, 0, 0, 18446744073709551615⟩,
    ⟨10, 10, .u32, .ro, 0, 0, 0, 0, 4294967295⟩,
    ⟨16, 16, .dom, .ro, 0, 3, 0, 0, 0⟩ ]

/-- 0x4010 (chapter 02). -/
def od4010 : List OdRow :=
  [ ⟨1, 1, .u32, .rwc, 3, 0, 50000, 10000, 5000000⟩,
    ⟨2, 2, .u16, .rwc, 3, 0, 5000, 1000, 10000⟩ ]

/-- 0x4011 (chapters 06, 10). -/
def od4011 : List OdRow :=
  [ ⟨1, 1, .i32, .rwc, 3, 0, 100000, 10000, 1000000⟩,
    ⟨2, 2, .u16, .rwc, 3, 0, 0, 0, 65535⟩,
    ⟨3, 3, .u16, .rwc, 3, 0, 15000, 11000, 20000⟩,
    ⟨4, 4, .u16, .rwc, 3, 0, 10000, 5000, 10000⟩,
    ⟨5, 5, .u32, .rwc, 3, 0, 2100, 100, 600000⟩ ]

/-- 0x4012 (chapter 07). -/
def od4012 : List OdRow :=
  [ ⟨1, 1, .u32, .rwc, 3, 0, 400000, 50000, 5000000⟩,
    ⟨2, 2, .u32, .rwc, 3, 0, 2000, 0, 200000⟩,
    ⟨3, 3, .u32, .rwc, 3, 0, 40000, 5000, 2000000⟩,
    ⟨4, 4, .u16, .rwc, 3, 0, 500, 100, 2000⟩,
    ⟨5, 5, .u16, .rwc, 3, 0, 1000, 0, 2000⟩,
    ⟨6, 6, .u16, .rwc, 3, 0, 500, 0, 1000⟩,
    ⟨7, 7, .u32, .rwc, 3, 0, 20000, 1000, 200000⟩,
    ⟨8, 8, .u16, .rwc, 3, 0, 2000, 0, 2000⟩,
    ⟨9, 9, .u16, .rwc, 3, 0, 1000, 0, 1000⟩,
    ⟨10, 13, .u32, .rwc, 3, 0, 100000, 98000, 102000⟩ ]

/-- 0x4013 (chapter 10). -/
def od4013 : List OdRow :=
  [ ⟨1, 1, .u16, .rwc, 3, 0, 100, 10, 500⟩,
    ⟨2, 2, .u16, .rwc, 3, 0, 200, 10, 1000⟩,
    ⟨3, 3, .u16, .rwc, 3, 0, 5, 1, 50⟩ ]

/-- 0x4014 (chapter 10). -/
def od4014 : List OdRow :=
  [ ⟨1, 1, .u16, .rwc, 3, 0, 168, 24, 720⟩ ]

/-- 0x4020 (chapter 10). -/
def od4020 : List OdRow :=
  [ ⟨1, 1, .u16, .rwc, 3, 0, 36500, 20000, 50000⟩,
    ⟨2, 2, .u16, .rwc, 3, 0, 25000, 5000, 40000⟩,
    ⟨3, 3, .i16, .rwc, 3, 0, 650, 0, 1000⟩,
    ⟨4, 4, .i16, .rwc, 3, 0, 1350, 0, 1500⟩ ]

/-- 0x4022 (chapter 10). -/
def od4022 : List OdRow :=
  [ ⟨1, 1, .u32, .rwc, 3, 0, 300000, 50000, 10000000⟩,
    ⟨2, 2, .u32, .rwc, 3, 0, 150000, 20000, 5000000⟩,
    ⟨3, 3, .u8, .rwc, 3, 0, 1, 1, 16⟩,
    ⟨4, 4, .u8, .rwc, 3, 0, 2, 0, 2⟩,
    ⟨5, 5, .u16, .rwc, 3, 0, 600, 60, 3600⟩,
    ⟨8, 8, .bool, .ro, 0, 0, 0, 0, 1⟩,
    ⟨16, 16, .u32, .ro, 0, 0, 4294967295, 0, 4294967295⟩,
    ⟨17, 17, .u32, .ro, 0, 0, 4294967295, 0, 4294967295⟩,
    ⟨18, 18, .u8, .ro, 0, 0, 0, 0, 255⟩,
    ⟨20, 20, .u16, .ro, 0, 0, 0, 0, 65535⟩ ]

/-- 0x4030 to 0x4037 (chapter 10). -/
def od4030 : List OdRow :=
  [ ⟨1, 1, .u8, .rwc, 3, 0, 0, 0, 5⟩,
    ⟨2, 2, .u8, .rwc, 3, 0, 0, 0, 1⟩,
    ⟨3, 3, .u16, .rwc, 3, 0, 100, 5, 2000⟩,
    ⟨4, 4, .u8, .rwc, 3, 0, 1, 0, 1⟩,
    ⟨5, 5, .u8, .rwc, 3, 0, 0, 0, 15⟩,
    ⟨6, 6, .bool, .rwc, 3, 0, 0, 0, 1⟩,
    ⟨16, 16, .u8, .ro, 0, 0, 4, 0, 255⟩ ]

/-- 0x4040 (chapter 10). -/
def od4040 : List OdRow :=
  [ ⟨1, 1, .u16, .ro, 0, 0, 0, 0, 65535⟩,
    ⟨2, 2, .u16, .ro, 0, 0, 0, 0, 65535⟩,
    ⟨3, 3, .u8, .ro, 0, 0, 0, 0, 255⟩,
    ⟨4, 4, .bool, .ro, 0, 0, 0, 0, 1⟩,
    ⟨5, 5, .u8, .ro, 0, 0, 0, 0, 255⟩,
    ⟨6, 6, .oct, .ro, 0, 0, 0, 0, 0⟩,
    ⟨7, 7, .u16, .ro, 0, 0, 0, 0, 65535⟩,
    ⟨8, 8, .u8, .wo, 3, 0, 0, 1, 2⟩ ]

/-- 0x4400 (chapter 14). -/
def od4400 : List OdRow :=
  [ ⟨1, 1, .u8, .ro, 0, 0, 0, 0, 255⟩,
    ⟨2, 2, .u8, .wo, 2, 0, 0, 1, 5⟩,
    ⟨3, 3, .u8, .ro, 0, 0, 0, 0, 255⟩,
    ⟨4, 4, .u32, .ro, 0, 0, 0, 0, 4294967295⟩,
    ⟨5, 5, .u32, .ro, 0, 0, 0, 0, 4294967295⟩,
    ⟨6, 6, .u8, .ro, 0, 0, 0, 0, 255⟩,
    ⟨7, 7, .u8, .ro, 0, 0, 0, 0, 255⟩,
    ⟨8, 8, .u32, .ro, 0, 0, 0, 0, 4294967295⟩,
    ⟨9, 9, .u32, .ro, 0, 0, 794000, 0, 4294967295⟩,
    ⟨10, 10, .u8, .rwc, 2, 0, 10, 1, 100⟩,
    ⟨11, 11, .u32, .ro, 0, 0, 0, 0, 4294967295⟩,
    ⟨12, 12, .u32, .ro, 0, 0, 0, 0, 4294967295⟩ ] ++
  [ ⟨13, 13, .u32, .ro, 0, 0, 0, 0, 4294967295⟩,
    ⟨14, 14, .u8, .ro, 0, 0, 0, 0, 255⟩,
    ⟨16, 16, .u8, .ro, 0, 0, 0, 0, 255⟩,
    ⟨17, 17, .bool, .ro, 0, 0, 0, 0, 1⟩,
    ⟨18, 18, .dom, .ro, 0, 0, 0, 0, 0⟩,
    ⟨19, 19, .oct, .wo, 2, 0, 0, 0, 0⟩,
    ⟨20, 20, .u8, .wo, 2, 0, 0, 0, 63⟩,
    ⟨24, 24, .dom, .rw, 2, 0, 0, 0, 0⟩,
    ⟨25, 25, .dom, .rw, 2, 0, 0, 0, 0⟩,
    ⟨32, 32, .dom, .rwc, 2, 0, 0, 0, 0⟩,
    ⟨33, 33, .dom, .rwc, 2, 0, 0, 0, 0⟩,
    ⟨34, 34, .u32, .rwc, 2, 0, 1314, 0, 4294967295⟩ ] ++
  [ ⟨35, 35, .u32, .rwc, 2, 0, 1344, 0, 4294967295⟩,
    ⟨48, 48, .i32, .ro, 0, 0, 0, -2147483648, 2147483647⟩,
    ⟨49, 49, .i32, .ro, 0, 0, 0, -2147483648, 2147483647⟩,
    ⟨50, 50, .i32, .rwc, 2, 0, 0, -2147483648, 2147483647⟩,
    ⟨51, 51, .i32, .rwc, 2, 0, 0, -2147483648, 2147483647⟩,
    ⟨56, 56, .u32, .ro, 0, 0, 0, 0, 4294967295⟩,
    ⟨57, 57, .u32, .ro, 0, 0, 0, 0, 4294967295⟩ ]

/-- 0x4600 (chapter 16). -/
def od4600 : List OdRow :=
  [ ⟨1, 1, .u32, .ro, 0, 0, 0, 0, 4294967295⟩,
    ⟨2, 2, .u32, .ro, 0, 0, 0, 0, 4294967295⟩,
    ⟨3, 3, .u32, .ro, 0, 0, 0, 0, 4294967295⟩,
    ⟨4, 4, .u32, .ro, 0, 0, 0, 0, 4294967295⟩,
    ⟨5, 5, .u16, .ro, 0, 0, 0, 0, 65535⟩,
    ⟨6, 6, .u8, .ro, 0, 0, 0, 0, 255⟩,
    ⟨7, 9, .u32, .ro, 0, 0, 0, 0, 4294967295⟩,
    ⟨10, 10, .u8, .ro, 0, 0, 0, 0, 255⟩,
    ⟨11, 11, .u16, .ro, 0, 0, 0, 0, 65535⟩,
    ⟨12, 12, .u16, .ro, 0, 0, 0, 0, 65535⟩,
    ⟨13, 13, .u8, .wo, 1, 0, 0, 1, 3⟩,
    ⟨14, 14, .u32, .rwc, 0, 0, 0, 0, 4294967295⟩ ] ++
  [ ⟨15, 15, .u16, .rwc, 0, 0, 256, 1, 1024⟩,
    ⟨16, 16, .dom, .ro, 0, 0, 0, 0, 0⟩,
    ⟨17, 17, .u16, .rwc, 2, 0, 60, 1, 3600⟩,
    ⟨18, 18, .bool, .ro, 0, 0, 0, 0, 1⟩,
    ⟨19, 19, .u32, .ro, 0, 0, 0, 0, 4294967295⟩ ]

/-- 0x4800 (chapter 17). -/
def od4800 : List OdRow :=
  [ ⟨1, 1, .u8, .ro, 0, 0, 0, 0, 255⟩,
    ⟨2, 2, .u8, .wo, 2, 0, 0, 1, 3⟩,
    ⟨3, 3, .u8, .ro, 0, 0, 0, 0, 255⟩,
    ⟨4, 4, .u32, .ro, 0, 0, 0, 0, 4294967295⟩,
    ⟨5, 5, .u32, .ro, 0, 0, 0, 0, 4294967295⟩,
    ⟨6, 6, .u32, .ro, 0, 0, 0, 0, 4294967295⟩,
    ⟨7, 7, .u32, .ro, 0, 0, 0, 0, 4294967295⟩,
    ⟨8, 8, .u16, .ro, 0, 0, 0, 0, 65535⟩,
    ⟨9, 9, .u16, .ro, 0, 0, 0, 0, 65535⟩,
    ⟨10, 10, .u16, .ro, 0, 0, 0, 0, 65535⟩,
    ⟨11, 11, .u16, .ro, 0, 0, 0, 0, 65535⟩,
    ⟨12, 12, .u8, .ro, 0, 0, 255, 0, 255⟩ ] ++
  [ ⟨13, 13, .u16, .ro, 0, 0, 0, 0, 65535⟩,
    ⟨15, 15, .u32, .ro, 0, 0, 0, 0, 4294967295⟩,
    ⟨16, 16, .dom, .wo, 2, 0, 0, 0, 0⟩,
    ⟨17, 17, .dom, .wo, 2, 0, 0, 0, 0⟩,
    ⟨18, 18, .oct, .rw, 3, 0, 0, 0, 0⟩,
    ⟨32, 32, .u32, .ro, 0, 0, 0, 0, 4294967295⟩,
    ⟨33, 33, .u32, .ro, 0, 0, 0, 0, 4294967295⟩,
    ⟨34, 34, .u32, .ro, 0, 0, 0, 0, 4294967295⟩,
    ⟨35, 35, .u16, .ro, 0, 0, 0, 0, 65535⟩,
    ⟨36, 36, .u32, .ro, 0, 0, 0, 0, 4294967295⟩,
    ⟨48, 48, .u16, .ro, 0, 0, 0, 0, 65535⟩,
    ⟨49, 49, .u16, .ro, 0, 0, 0, 0, 65535⟩ ] ++
  [ ⟨64, 64, .u64, .ro, 0, 0, 0, 0, 18446744073709551615⟩,
    ⟨65, 65, .u64, .ro, 0, 0, 0, 0, 18446744073709551615⟩ ]

/-- 0x4A00 (chapter 15). -/
def od4A00 : List OdRow :=
  [ ⟨1, 1, .u8, .ro, 0, 0, 0, 0, 255⟩,
    ⟨2, 2, .u8, .ro, 0, 0, 0, 0, 255⟩,
    ⟨3, 3, .u8, .ro, 0, 0, 0, 0, 255⟩,
    ⟨4, 4, .u8, .wo, 2, 0, 0, 1, 2⟩,
    ⟨5, 5, .u16, .ro, 0, 0, 0, 0, 65535⟩,
    ⟨6, 6, .u16, .ro, 0, 0, 0, 0, 65535⟩,
    ⟨7, 7, .i16, .ro, 0, 0, 32768, -32768, 32767⟩,
    ⟨8, 8, .i16, .ro, 0, 0, 32768, -32768, 32767⟩,
    ⟨9, 9, .u32, .ro, 0, 0, 0, 0, 4294967295⟩,
    ⟨10, 10, .u32, .ro, 0, 0, 0, 0, 4294967295⟩,
    ⟨11, 11, .u32, .ro, 0, 0, 0, 0, 4294967295⟩,
    ⟨12, 12, .u32, .ro, 0, 0, 0, 0, 4294967295⟩ ] ++
  [ ⟨13, 13, .u16, .ro, 0, 0, 0, 0, 65535⟩,
    ⟨14, 14, .u64, .ro, 0, 0, 0, 0, 18446744073709551615⟩,
    ⟨15, 15, .u16, .ro, 0, 0, 0, 0, 65535⟩,
    ⟨16, 16, .u16, .ro, 0, 0, 0, 0, 65535⟩,
    ⟨17, 17, .u8, .ro, 0, 0, 0, 0, 255⟩,
    ⟨18, 18, .u16, .ro, 0, 0, 0, 0, 65535⟩ ]

/-- 0x4C00 (chapters 12, 18). -/
def od4C00 : List OdRow :=
  [ ⟨1, 1, .u16, .ro, 0, 0, 0, 0, 65535⟩,
    ⟨2, 2, .oct, .ro, 0, 0, 0, 0, 0⟩,
    ⟨3, 3, .oct, .wo, 0, 0, 0, 0, 0⟩,
    ⟨4, 4, .u8, .wo, 0, 0, 0, 0, 4⟩,
    ⟨5, 5, .u8, .ro, 0, 0, 0, 0, 255⟩,
    ⟨6, 6, .u16, .rwc, 3, 0, 600, 60, 3600⟩,
    ⟨7, 7, .u8, .rwc, 3, 0, 0, 0, 1⟩,
    ⟨8, 8, .u8, .ro, 0, 0, 0, 0, 255⟩,
    ⟨16, 18, .oct, .wo, 3, 0, 0, 0, 0⟩,
    ⟨32, 32, .u8, .ro, 0, 0, 0, 0, 255⟩,
    ⟨33, 33, .u8, .ro, 0, 0, 0, 0, 255⟩,
    ⟨34, 34, .u32, .ro, 0, 0, 0, 0, 4294967295⟩ ] ++
  [ ⟨35, 35, .u8, .ro, 0, 0, 0, 0, 255⟩,
    ⟨36, 36, .u8, .ro, 0, 0, 0, 0, 255⟩,
    ⟨37, 37, .u8, .ro, 0, 0, 255, 0, 255⟩,
    ⟨38, 38, .bool, .rwc, 3, 0, 1, 0, 1⟩,
    ⟨39, 39, .u16, .rwc, 3, 0, 60, 10, 600⟩ ]

/-- 0x4E00 (chapter 12). -/
def od4E00 : List OdRow :=
  [ ⟨1, 1, .u32, .ro, 0, 0, 0, 0, 4294967295⟩,
    ⟨2, 2, .u32, .ro, 0, 0, 0, 0, 4294967295⟩,
    ⟨3, 3, .u64, .ro, 0, 0, 0, 0, 18446744073709551615⟩,
    ⟨4, 4, .u32, .ro, 0, 0, 0, 0, 4294967295⟩,
    ⟨5, 8, .u16, .ro, 0, 0, 0, 0, 65535⟩,
    ⟨16, 16, .dom, .ro, 0, 0, 0, 0, 0⟩ ]

/-- 0x5000 (chapter 13). -/
def od5000 : List OdRow :=
  [ ⟨1, 1, .i32, .rwc, 1, 0, 0, -48000000, 48000000⟩,
    ⟨2, 2, .u8, .rwc, 2, 0, 1, 0, 1⟩,
    ⟨3, 3, .u32, .ro, 0, 0, 0, 0, 4294967295⟩,
    ⟨4, 4, .u8, .ro, 0, 0, 0, 0, 255⟩,
    ⟨5, 5, .u32, .ro, 0, 0, 0, 0, 4294967295⟩,
    ⟨6, 6, .u16, .rwc, 2, 0, 1664, 1664, 1726⟩,
    ⟨7, 7, .u16, .rwc, 2, 0, 1728, 1698, 1757⟩,
    ⟨8, 8, .u16, .rwc, 2, 0, 1729, 1698, 1757⟩,
    ⟨16, 16, .oct, .ro, 0, 0, 0, 0, 0⟩,
    ⟨32, 32, .u32, .rwc, 2, 0, 3232235530, 1, 4294967295⟩,
    ⟨33, 33, .u32, .rwc, 2, 0, 4294967040, 0, 4294967295⟩,
    ⟨34, 34, .u32, .rwc, 2, 0, 0, 0, 4294967295⟩ ] ++
  [ ⟨35, 35, .u8, .ro, 0, 0, 0, 0, 255⟩,
    ⟨36, 36, .u8, .rwc, 2, 0, 0, 0, 127⟩,
    ⟨37, 37, .u8, .ro, 0, 0, 0, 0, 255⟩,
    ⟨38, 38, .i32, .ro, 0, 0, 0, -2147483648, 2147483647⟩,
    ⟨39, 39, .u32, .ro, 0, 0, 0, 0, 4294967295⟩,
    ⟨40, 40, .oct, .ro, 0, 0, 0, 0, 0⟩,
    ⟨41, 41, .u16, .rwc, 2, 0, 60, 10, 3600⟩,
    ⟨42, 42, .u64, .wo, 3, 0, 0, 0, 9223372036854775807⟩,
    ⟨48, 55, .u64, .rwc, 3, 0, 0, 0, 18446744073709551615⟩,
    ⟨56, 56, .u8, .rwc, 3, 0, 0, 0, 255⟩,
    ⟨64, 64, .u32, .rwc, 2, 0, 0, 0, 4294967295⟩,
    ⟨65, 65, .u16, .rwc, 2, 0, 48350, 1024, 65535⟩ ] ++
  [ ⟨66, 66, .u32, .ro, 0, 0, 0, 0, 4294967295⟩ ]

/-- 0x5001 (chapter 13). -/
def od5001 : List OdRow :=
  [ ⟨1, 33, .oct, .ro, 0, 0, 0, 0, 0⟩ ]

/-- First index of the table an index belongs to: the per-segment, per-stage, per-bus and per-input tables repeat (12 R311). -/
def odBase (idx : Nat) : Nat :=
  if 0x1301 ≤ idx ∧ idx < 0x1309 then 0x1301
  else if 0x1381 ≤ idx ∧ idx < 0x1389 then 0x1381
  else if 0x1400 ≤ idx ∧ idx < 0x1404 then 0x1400
  else if 0x1600 ≤ idx ∧ idx < 0x1604 then 0x1600
  else if 0x1800 ≤ idx ∧ idx < 0x1804 then 0x1800
  else if 0x1A00 ≤ idx ∧ idx < 0x1A04 then 0x1A00
  else if 0x2010 ≤ idx ∧ idx < 0x2012 then 0x2010
  else if 0x2013 ≤ idx ∧ idx < 0x2015 then 0x2013
  else if 0x3100 ≤ idx ∧ idx < 0x3140 then 0x3100
  else if 0x3400 ≤ idx ∧ idx < 0x3410 then 0x3400
  else if 0x3600 ≤ idx ∧ idx < 0x3610 then 0x3600
  else if 0x4030 ≤ idx ∧ idx < 0x4038 then 0x4030
  else idx

/-- The rows of an index, none where the index does not exist (12 R311). -/
def odRows (idx : Nat) : List OdRow :=
  match odBase idx with
  | 0x1000 => od1000
  | 0x1001 => od1001
  | 0x1003 => od1003
  | 0x1008 => od1008
  | 0x1009 => od1009
  | 0x100A => od100A
  | 0x1014 => od1014
  | 0x1015 => od1015
  | 0x1017 => od1017
  | 0x1018 => od1018
  | 0x1200 => od1200
  | 0x1301 => od1301
  | 0x1381 => od1381
  | 0x13FE => od13FE
  | 0x13FF => od13FF
  | 0x1400 => od1400
  | 0x1600 => od1600
  | 0x1800 => od1800
  | 0x1A00 => od1A00
  | 0x2000 => od2000
  | 0x2010 => od2010
  | 0x2012 => od2012
  | 0x2013 => od2013
  | 0x2100 => od2100
  | 0x2200 => od2200
  | 0x3000 => od3000
  | 0x3100 => od3100
  | 0x3200 => od3200
  | 0x3201 => od3201
  | 0x3400 => od3400
  | 0x3500 => od3500
  | 0x3600 => od3600
  | 0x3800 => od3800
  | 0x3A00 => od3A00
  | 0x4000 => od4000
  | 0x4010 => od4010
  | 0x4011 => od4011
  | 0x4012 => od4012
  | 0x4013 => od4013
  | 0x4014 => od4014
  | 0x4020 => od4020
  | 0x4022 => od4022
  | 0x4030 => od4030
  | 0x4040 => od4040
  | 0x4400 => od4400
  | 0x4600 => od4600
  | 0x4800 => od4800
  | 0x4A00 => od4A00
  | 0x4C00 => od4C00
  | 0x4E00 => od4E00
  | 0x5000 => od5000
  | 0x5001 => od5001
  | _ => []

/-- The row of an object (12 R311). -/
def odRow (idx sub : Nat) : Option OdRow := (odRows idx).find? (fun r => decide (r.lo ≤ sub ∧ sub ≤ r.hi))

end Sys2Proof.Machine
end

