-- ==== Sys2Proof/Machine/Ops.lean ====
section
/-! DEFINITION. The operations every meaning shares: checks over bytes, the object store, time, the outbox, the
transmit rings and the raising of events. -/

namespace Sys2Proof.Machine

/-! ### Checks over bytes -/

/-- n-fold application. -/
def iter {α : Type} (f : α → α) : Nat → α → α
  | 0, a => a
  | n + 1, a => iter f n (f a)

/-- One bit of a 16-bit check, most significant bit first (05 R92). -/
def crc16Bit (poly c : Nat) : Nat := if 32768 ≤ c then ((2 * c) % 65536) ^^^ poly else 2 * c

/-- CRC-16, not reflected, no final XOR (05 R92). -/
def crc16 (poly init : Nat) (bs : Bytes) : Nat :=
  bs.foldl (fun c b => iter (crc16Bit poly) 8 (c ^^^ (b.toNat * 256))) init

/-- FCRC and every check with its parameters (05 R92). -/
def fcrc (bs : Bytes) : Nat := crc16 0x1021 0xFFFF bs

/-- SCHK with the downlink initial value (05 R92). -/
def schkDown (tag : Nat) (bs : Bytes) : Nat := crc16 0x8BB7 ((0x5A00 + tag) % 65536) bs

/-- SCHK with the uplink initial value (05 R92). -/
def schkUp (seg tag : Nat) (bs : Bytes) : Nat := crc16 0x8BB7 ((0xA000 + 256 * seg + tag) % 65536) bs

/-- One bit of CRC-32C, reflected (05 R96). -/
def crc32Bit (c : Nat) : Nat := if c % 2 = 1 then (c / 2) ^^^ 0x82F63B78 else c / 2

/-- CRC-32C: reflected, initial value and final XOR FFFFFFFFH (05 R96). -/
def crc32c (bs : Bytes) : Nat :=
  (bs.foldl (fun c b => iter crc32Bit 8 (c ^^^ b.toNat)) 0xFFFFFFFF) ^^^ 0xFFFFFFFF

/-- Bytes from offset o, n of them. -/
def slice (bs : Bytes) (o n : Nat) : Bytes := (bs.drop o).take n

/-- Little-endian field of n bytes at offset o. -/
def le (bs : Bytes) (o n : Nat) : Nat := leNat (slice bs o n)

/-- One byte at offset o, 0 beyond the end. -/
def byteAt (bs : Bytes) (o : Nat) : Nat := (bs.getD o 0).toNat

/-- Padded or cut to n bytes with zeros. -/
def padTo (n : Nat) (bs : Bytes) : Bytes := (bs ++ List.replicate n 0).take n

/-- Field [hi:lo] of a number. -/
def fld (v hi lo : Nat) : Nat := v / 2 ^ lo % 2 ^ (hi + 1 - lo)

/-- Bit b of a number. -/
def bitOf (v b : Nat) : Bool := v / 2 ^ b % 2 == 1

/-- A number with bit b set to c. -/
def setBit (v b : Nat) (c : Bool) : Nat :=
  v - (if bitOf v b then 2 ^ b else 0) + (if c then 2 ^ b else 0)

/-- Number from bits, bit 0 first. -/
def ofBits : List Bool → Nat
  | [] => 0
  | b :: bs => (if b then 1 else 0) + 2 * ofBits bs

/-! ### Stores -/

/-- Value of a key, none where it is not listed. -/
def Store.find (s : Store) (k : Nat) : Option Int := (List.find? (fun p => p.1 == k) s).map (·.2)

/-- The store without a key. -/
def Store.erase (s : Store) (k : Nat) : Store := List.filter (fun p => p.1 != k) s

/-- Insert in rising key order, the key not being listed. -/
def Store.insert : Store → Nat → Int → Store
  | [], k, v => [(k, v)]
  | p :: rest, k, v => if k < p.1 then (k, v) :: p :: rest else p :: Store.insert rest k v

/-- Write a key; writing the default removes it, so that equal stores are equal data. -/
def Store.put (s : Store) (dflt : Int) (k : Nat) (v : Int) : Store :=
  if v = dflt then s.erase k else Store.insert (s.erase k) k v

/-- Default of an object, 0 where the dictionary has none (00 R8, log 6). -/
def odDefault (k : Nat) : Int := match odRow (k / 256) (k % 256) with | some r => r.dflt | none => 0

/-- Value of a numeric object. -/
def Live.get (L : Live) (k : Nat) : Int := (L.obj.find k).getD (odDefault k)

/-- Value of an unsigned numeric object. -/
def Live.getN (L : Live) (k : Nat) : Nat := (L.get k).toNat

/-- Is a BOOLEAN object 1? -/
def Live.isSet (L : Live) (k : Nat) : Bool := L.get k == 1

/-- Write a numeric object. -/
def Live.put (L : Live) (k : Nat) (v : Int) : Live := { L with obj := L.obj.put (odDefault k) k v }

/-- Count an object up by n, held at its largest value (DEDUCED from its range, log 29). -/
def Live.bump (L : Live) (k n bits : Nat) : Live := L.put k (min (L.getN k + n) (2 ^ bits - 1) : Nat)

/-- Bytes of a DOMAIN or OCTET_STRING object. -/
def Live.blobOf (L : Live) (k : Nat) : Bytes := ((L.blob.find? (fun p => p.1 == k)).map (·.2)).getD []

/-- Write the bytes of an object. -/
def Live.putBlob (L : Live) (k : Nat) (v : Bytes) : Live :=
  let rest := L.blob.filter (fun p => p.1 != k)
  { L with blob := if v.isEmpty then rest
      else rest.filter (fun p => p.1 < k) ++ (k, v) :: rest.filter (fun p => k < p.1) }

/-- Value in force in CTL and EST (04 R80): the parameters of the commit that has taken effect there. -/
def Live.ctl (L : Live) (k : Nat) : Int := (L.ks.ctl.find k).getD (odDefault k)

/-- An unsigned value in force in CTL and EST. -/
def Live.ctlN (L : Live) (k : Nat) : Nat := (L.ctl k).toNat

/-- Value at the last BOOT, for objects that take effect at the next boot (01 R10, 11 R287). -/
def Live.boot (L : Live) (k : Nat) : Int := (L.ks.atBoot.find k).getD (odDefault k)

/-- The same, unsigned. -/
def Live.bootN (L : Live) (k : Nat) : Nat := (L.boot k).toNat

/-! ### Identity and role -/

/-- Node-ID in force (01 R10). -/
def Live.nodeId (L : Live) : Nat := L.bootN 0x200002

/-- Lower node-ID of the pair, the tag of its nodes (01 R11, 05 R92). -/
def Live.lower (L : Live) : Nat := if 65 ≤ L.nodeId then L.nodeId - 64 else L.nodeId

/-- Node-ID of the twin (01 R11). -/
def Live.twinId (L : Live) : Nat := if 65 ≤ L.nodeId then L.nodeId - 64 else L.nodeId + 64

/-- One of the manager pair, node-IDs 1 and 65 (01 R11). -/
def Live.isManager (L : Live) : Bool := L.nodeId == 1 || L.nodeId == 65

/-- Node-ID 255: unassigned (01 R10). -/
def Live.unassigned (L : Live) : Bool := L.nodeId == 255

/-- In step with the partner (15 R403). -/
def Live.inStep (L : Live) : Bool := L.twin.pair == 3

/-- A partner is present (01 R13). -/
def Live.hasPartner (L : Live) : Bool := L.twin.pair == 1 || L.twin.pair == 2 || L.twin.pair == 3

/-- Twin role reported in 0x2000:04 (01 R13). -/
def Live.role (L : Live) : Nat := if !L.hasPartner then 0 else if L.twin.holds then 1 else 2

/-- This twin acts for the pair: it holds the drive token (01 R13). -/
def Live.active (L : Live) : Bool := L.twin.holds

/-- The standby twin of an in-step pair. -/
def Live.shadow (L : Live) : Bool := L.inStep && !L.twin.holds

/-- The two twins form the inputs of their sweeps together: in step, and while the standby resynchronises (15 R394, R398). -/
def Live.pooled (L : Live) : Bool := L.twin.pair == 2 || L.twin.pair == 3

/-- A standby that follows the active twin's commits, carries and arrangement: in step, or with its state taken over and the matching
comparisons still to come (15 R391, R394, R398). -/
def Live.tracks (L : Live) : Bool :=
  !L.twin.holds && (L.inStep || (L.twin.pair == 2 && L.twin.transfer.isNone && !L.twin.transferDue && bitOf L.twin.p.token 0))

/-- A standby whose state image is on its way (15 R398). -/
def Live.resyncing (L : Live) : Bool := !L.twin.holds && L.twin.pair == 2 && L.twin.transfer.isSome

/-- The partner is in step and reported itself healthy in its last 2 frames (10 R261). -/
def Live.healthyPartner (L : Live) : Bool := L.inStep && decide (2 ≤ L.twin.p.healthyRun)

/-- Nothing runs in QUARRY (03 R68) nor in OFF (03 R50). -/
def Live.powered (L : Live) : Bool := L.mode.st != .quarry && L.mode.st != .off

/-- The string is driven: PRECHARGE, RUN or DERATED. -/
def Live.driving (L : Live) : Bool :=
  L.mode.st == .precharge || L.mode.st == .run || L.mode.st == .derated

/-- Code of a state (03 R50). -/
def MState.code : MState → Nat
  | .quarry => 0 | .off => 1 | .boot => 2 | .selftest => 3 | .standby => 4 | .precharge => 5
  | .run => 6 | .derated => 7 | .safe => 8 | .service => 9

/-- From STANDBY on: every state but QUARRY, OFF, BOOT and SELFTEST. -/
def Live.fromStandby (L : Live) : Bool := decide (4 ≤ L.mode.st.code)

/-- SAFE with its sequence complete (03 R70). -/
def Live.safeDone (L : Live) : Bool :=
  L.mode.st == .safe && (match L.mode.seq with | some q => q.step == 5 | none => true)

/-! ### Time -/

/-- Time stamp: module time, bit 63 set while provisional (11 R308). -/
def Live.stamp (L : Live) : Nat := L.time.mtime + (if L.time.provisional then 2 ^ 63 else 0)

/-- Control epoch (00 R5, 04 R85). -/
def Live.epoch (L : Live) : Nat := L.time.mtime / 10000

/-- Course period in ns (14 R357, at next boot). -/
def Live.course (L : Live) : Nat := L.bootN 0x44000A * 1000000

/-- What one LNK cycle adds to module time: 8 ns corrected by the rate of 0x2200:04, in 2^-32 ns (04 R81). -/
def Live.lnkInc (L : Live) : Nat := (8 * 2 ^ 32 * (1000000000 + L.get 0x220004) / 1000000000).toNat

/-- Let d ns of module time pass: as many LNK cycles as it takes at the rate in force, the rest of the last one carried in 2^-32 ns
(04 R81, R82; log 183). -/
def Live.pass (L : Live) (d : Nat) : Live :=
  let n := (d * 2 ^ 32 - L.time.frac + L.lnkInc - 1) / L.lnkInc
  { L with time := { L.time with
    mtime := L.time.mtime + d
    clk := L.time.clk + d
    cyc := L.time.cyc + n
    frac := L.time.frac + n * L.lnkInc - d * 2 ^ 32 } }

/-- Let the time run to the next module time that is `at_` modulo `period` (log 3). -/
def Live.toPhase (L : Live) (period at_ : Nat) : Live := L.pass ((at_ + period - L.time.mtime % period) % period)

/-- Let the clock reach at least t: the instant a deadline falls (log 3). -/
def Live.reach (L : Live) (t : Nat) : Live := L.pass (t - L.time.clk)

/-- Milliseconds in ns. -/
def ms (n : Nat) : Nat := n * 1000000

/-- Seconds in ns. -/
def sec (n : Nat) : Nat := n * 1000000000

/-- To the next module time that lies 200 µs after a multiple of the period: the sweeps and the thermal evaluations (08 R207, 09
R234). -/
def Live.toMark (L : Live) (p : Nat) : Live := L.pass ((p - (L.time.mtime + p - 200000) % p) % p)

/-- The age clock of the flash, ns: module time since it was first synchronised, running time before (17 R432; log 228). -/
def Live.flashNow (L : Live) : Nat :=
  match L.time.synced, L.upd.flashRef with
  | true, some r => r.2 + (L.time.mtime - r.1)
  | _, _ => L.upd.flashOff + L.time.mtime

/-- What interrupts the clean running of a set in probation starts it again (17 R430). -/
def Live.breakClean (L : Live) : Live := { L with upd := { L.upd with cleanAt := L.time.clk } }

/-! ### Outbox -/

/-- Put an item into the outbox (log 9). -/
def Live.emit (L : Live) (o : Out) : Live := { L with out := o :: L.out }

/-- Modbus exception of an abort code (13 R353). -/
def mbException (abort : Nat) : Nat :=
  if abort = 0x06020000 ∨ abort = 0x06090011 then 2
  else if abort = 0x06090030 ∨ abort = 0x06070010 ∨ abort = 0x08000101 ∨ abort = 0x0800010A then 3
  else if abort = 0x08000108 ∨ abort = 0x08000111 then 6 else 4

/-- Registers of a block: register k holds bytes 2k and 2k + 1, low byte first (13 R352). -/
def mbRegs (d : Bytes) (start count : Nat) : List Nat := (List.range count).map (fun i => leNat ((d.drop (2 * (start + i))).take 2))

/-- A Modbus response that carries registers. -/
def mbReply (fc : Nat) (regs : List Nat) : Bytes := leBytes 1 fc ++ leBytes 1 (2 * regs.length) ++ regs.flatMap (beBytes 2)

/-- Change what is held of a Modbus connection. -/
def Live.modConn (L : Live) (conn : Nat) (f : MbConn → MbConn) : Live :=
  { L with mgr := { L.mgr with conns := L.mgr.conns.modify conn (fun (c : Option MbConn) => c.map f) } }

/-- Requests that await their answers on a connection. -/
def Live.mbWaiting (L : Live) (conn : Nat) : List (Nat × Nat × Nat × Nat) :=
  match L.mgr.conns.getD conn none with
  | some c => c.req
  | none => []

/-- A request runs with its answer due first; if it is not answered at once, it waits behind those already waiting (13 R350). -/
def Live.mbCall (L : Live) (conn k fc start n : Nat) (f : Live → Live) : Live :=
  let R := f (L.modConn conn (fun c => { c with req := (k, fc, start, n) :: c.req }))
  if (R.mbWaiting conn).length ≤ (L.mbWaiting conn).length then R
  else R.modConn conn (fun c => { c with req := c.req.tail ++ c.req.take 1 })

/-- The answer that comes is that of a session's oldest waiting read or write of an object. -/
def Live.mbPick (L : Live) (s : Sess) (k : Nat) (read : Bool) : Live :=
  if s / 4096 ≠ 3 then L
  else L.modConn (s % 256) (fun c =>
    match c.req.find? (fun r => r.1 == k && (r.2.1 == 3) == read) with
    | some r => { c with req := r :: c.req.erase r }
    | none => c)

/-- The answer to the first of the requests outstanding on a Modbus connection, if any (13 R350, R352, R353). -/
def Live.mbAnswer (L : Live) (conn abort : Nat) (data : Bytes) : Live :=
  match L.mgr.conns.getD conn none with
  | none => L
  | some c => match c.req with
    | [] => L
    | (_, fc, start, n) :: rest =>
      let pdu := if abort ≠ 0 then leBytes 1 (fc + 128) ++ leBytes 1 (mbException abort)
        else if fc = 3 then mbReply 3 (mbRegs data (start - 16) n)
        else leBytes 1 fc ++ beBytes 2 start ++ beBytes 2 n
      { L with mgr := { L.mgr with conns := L.mgr.conns.set conn (some { c with req := rest }) } }.emit (.modbus conn pdu)

/-- A response of the debug port (18 R442). -/
def dbgResponse (tag : Byte) (status : Nat) (payload : Bytes) : Bytes :=
  let body := tag :: leBytes 1 status ++ leBytes 2 payload.length ++ payload
  leBytes 1 0x5A ++ body ++ leBytes 2 (fcrc body)

/-- The response that waits on the debug port: the code of a refusal below 256 is its STATUS, a greater one an abort code (18 R445). -/
def Live.dbgAnswer (L : Live) (code : Nat) (data : Bytes) : Live :=
  match L.dbg.waiting with
  | none => L
  | some tag =>
    { L with dbg := { L.dbg with waiting := none } }.emit (.dbg
      (if code < 256 then dbgResponse tag code data else dbgResponse tag 0x0B (leBytes 4 code)))

/-! ### Transmit rings -/

/-- A frame, under the next number, enters the ring of its class on each of some buses (11 R288, R297). -/
def Live.enqueueOn (L : Live) (on : List Nat) (fr : TxFrame) : Live :=
  let fr := { fr with num := L.com.num, ring := fr.cls, both := decide (1 < on.length) }
  { L with com := { L.com with
      num := L.com.num + 1
      bus := on.foldl (fun (cs : List Can) b => cs.modify b (fun c => { c with tx := c.tx ++ [fr] })) L.com.bus } }

/-- Enqueue a frame in the ring of its class (11 R288), at this clock or later. -/
def Live.enqueueAt (L : Live) (bus : Nat) (f : CanFrame) (cls who t : Nat) (rerouted : Bool) : Live :=
  L.enqueueOn [bus] { f := f, cls := cls, ring := cls, at_ := t, num := 0, who := who, rerouted := rerouted }

/-- A classical data frame with an 11-bit identifier. -/
def canFrame (id : Nat) (data : Bytes) : CanFrame :=
  { id := id, ext := false, fd := false, brs := false, rtr := false, data := data }

/-- A CAN FD frame with bit-rate switch. -/
def fdFrame (id : Nat) (data : Bytes) : CanFrame :=
  { id := id, ext := false, fd := true, brs := true, rtr := false, data := data }

/-- A response to a CAN client enters the class 2 ring of its bus (11 R288). PRESUMED (log 225): its COB-ID is that of 0x1200:02, and its
bytes, which are CiA 301's and CiA 1301's, are here the abort code and the first data bytes. -/
def Live.canAnswer (L : Live) (s : Sess) (abort : Nat) (data : Bytes) : Live :=
  let i := s / 4096
  if i = 1 ∨ i = 2 then
    L.enqueueAt (i - 1) (canFrame (0x580 + L.nodeId) (padTo 8 (leBytes 4 abort ++ data))) 2 0 L.time.clk false
  else L

/-- Answer a request: abort code 0 for success (12 R320, R336); over Modbus as 13 R353 maps it, on the debug port as 18 R445, on CAN
through the transmit ring of its class. -/
def Live.answer (L : Live) (s : Sess) (abort : Nat) (data : Bytes) : Live :=
  if s / 4096 = 3 then L.mbAnswer (s % 256) abort data
  else if s / 4096 = 4 then L.dbgAnswer abort data
  else (L.canAnswer s abort data).emit (.answer s abort data)

/-- The PTP port starts again: with the master it selected, or with none (13 R338). -/
def Live.startPort (L : Live) (m : Option (Announce × Nat)) : Live :=
  { L with mgr := { L.mgr with ptp := { L.mgr.ptp with
    master := m
    sync := none
    t12 := none
    req := none
    delay := none
    locked := false } } }.put 0x500025 0

/-- Is the bus usable: error-active (11 R297)? -/
def busUsable (c : Can) : Bool := c.st == 0 && !c.monitor

/-- Is the bus impaired: error-passive (11 R297)? -/
def busImpaired (c : Can) : Bool := c.st == 1 && !c.monitor

/-- Where a class 0 frame of a bus goes (11 R297): buses, and whether it is rerouted. With both unusable it is sent on neither: it waits in
its own ring, where its deadline removes it (11 R292, R293). -/
def class0Route (own other : Can) (bus : Nat) : List Nat × Bool :=
  if busUsable own then ([bus], false)
  else if busUsable other then ([1 - bus], true)
  else if busImpaired own && busImpaired other then ([bus, 1 - bus], false)
  else if busImpaired own then ([bus], false)
  else if busImpaired other then ([1 - bus], true)
  else ([bus], false)

/-! ### Events -/

/-- Does event source.code start a condition (12 R463; log 30 lists the companions read from the tables)? -/
def startsCond (src code : Nat) : Bool :=
  if src = 33 then code == 1 || code == 2
  else if src = 34 then code == 1 || code == 2
  else if src = 70 ∨ src = 71 then 1 ≤ code && code ≤ 4
  else if src = 80 then 1 ≤ code && code ≤ 3
  else if src = 81 then code == 1
  else if src = 82 then code == 1
  else if src = 104 then (1 ≤ code && code ≤ 3) || (5 ≤ code && code ≤ 11)
  else if 96 ≤ src ∧ src ≤ 107 then 1 ≤ code && code ≤ 3
  else if src = 110 then code == 8 || code == 2 || code == 5
  else if src = 111 then code == 1 || code == 2 || code == 4
  else if src = 112 ∨ src = 113 then code == 1 || code == 3
  else if src = 120 then code == 1
  else if src = 8 then code == 4
  else if src = 9 then code == 8
  else if src = 13 then code == 1
  else if src = 108 then code == 1 || code == 2
  else if src = 116 then code == 2
  else if src = 121 then code == 3
  else if src = 124 then code == 3
  else if src = 126 then code == 18
  else if 128 ≤ src then
    match src % 8 with
    | 0 => code == 4
    | 1 => 1 ≤ code && code ≤ 8
    | 3 => 1 ≤ code && code ≤ 4
    | 4 => 1 ≤ code && code ≤ 4
    | _ => false
  else false

/-- Does event source.code end a condition started by code c of the same source (12 R463)? -/
def endsCond (src code c : Nat) : Bool :=
  if src = 33 ∨ src = 34 then code == 3
  else if src = 70 ∨ src = 71 ∨ src = 80 then code == c + 16
  else if src = 81 then code == 3
  else if src = 82 then code == 2
  else if 96 ≤ src ∧ src ≤ 107 then code == 4
  else if src = 110 then code == 9 && c == 8
  else if src = 111 then code == 5
  else if src = 112 ∨ src = 113 then code == c + 1
  else if src = 120 then code == 2
  else if src = 9 then (code == 9 || code == 10 || code == 13) && c == 8
  else if src = 13 then code == 2
  else if src = 124 then code == 4
  else if 128 ≤ src then
    match src % 8 with
    | 1 => code == c + 16
    | 3 => code == c + 16
    | 4 => (code == 17 && c == 1) || (code == 18 && c == 2) || (code == 7 && (c == 3 || c == 4))
    | _ => false
  else false

/-- Does the end of a condition not ask for the same key: its companion names no item (12 R463)? -/
def endsAnyKey (src : Nat) : Bool := src == 33 || src == 34 || src == 82 || src == 13 || src == 124 || (96 ≤ src && src ≤ 111)

/-- Bit of the error register beside bit 0 (11 R301). -/
def errorBit (src code : Nat) : Nat :=
  if src = 99 ∨ src = 100 then 1
  else if src = 96 ∨ src = 97 ∨ (src = 33 ∧ code = 2) ∨ (src = 34 ∧ code = 2) then 2
  else if src = 98 ∨ (80 ≤ src ∧ src ≤ 82) ∨ (128 ≤ src ∧ (src % 8 = 3 ∨ src % 8 = 4)) then 3
  else if (112 ≤ src ∧ src ≤ 116) ∨ src = 120 ∨ src = 105 ∨ (128 ≤ src ∧ src % 8 = 0) then 4
  else 7

/-- Error register 0x1001 (11 R301): the FAULT- and SAFETY-class conditions that persist. -/
def errorRegister (cs : List Cond) : Nat :=
  (cs.filter (fun c => 2 ≤ c.cls)).foldl (fun r c => setBit (setBit r 0 true) (errorBit c.source c.code) true) 0

/-- Does any FAULT- or SAFETY-class condition persist? -/
def anyFault (cs : List Cond) : Bool := cs.any (fun c => decide (2 ≤ c.cls))

/-- Conditions after an event, before its own start (12 R463). -/
def condsEnd (cs : List Cond) (src code : Nat) (key : Bytes) : List Cond :=
  cs.filter (fun c => !(c.source == src && endsCond src code c.code && (endsAnyKey src || c.key == key)))

/-- Is the condition already there? -/
def condHeld (cs : List Cond) (src code : Nat) (key : Bytes) : Bool :=
  cs.any (fun c => c.source == src && c.code == code && c.key == key)

/-- Entries of a part that wait (16 R407). -/
def Recorder.waiting (r : Recorder) (p : Part) : Nat := (r.intake.filter (fun e => e.1 == p)).length

/-- Instant of the latest occurrence of an entry (16 R409). -/
def Rec.latest (r : Rec) : Nat := if r.rep = 0 then r.time else r.time + ms r.lastRep

/-- May an event with this key part repeat an entry of its source and code: within the window, below the limits, and not a committed
record while the cairn is frozen (16 R409, R413)? -/
def mayRepeat (r : Recorder) (window t : Nat) (key : Bytes) (e : Rec) : Bool :=
  e.payload.take 8 == key && decide (t - e.latest ≤ sec window)
    && decide (e.rep + 1 ≤ 0xFFFFFFFE) && decide ((t - e.time) / 1000000 ≤ 0xFFFFFFFE)
    && !(r.freeze.isSome && !(r.intake.any (fun w => w.2.seq == e.seq)))

/-- Does an event repeat the newest entry (16 R409, R413)? -/
def repeats (r : Recorder) (window t src code : Nat) (key : Bytes) : Bool :=
  match r.last with
  | none => false
  | some e => src != 124 && e.source != 124 && e.source == src && e.code == code && mayRepeat r window t key e

/-- Does a power-and-state event of a kind repeat the newest entry: their source and codes are free, their kinds are not (16 R409;
log 28)? -/
def repeatsPower (r : Recorder) (window t what : Nat) (key : Bytes) : Bool :=
  match r.last with
  | none => false
  | some e => r.power == some (e.seq, what) && mayRepeat r window t key e

/-- The newest entry with one more occurrence, in the intake where it waits, else owed to the cairn in place (16 R409, R410). -/
def repeatNewest (r : Recorder) (e : Rec) (t : Nat) : Recorder :=
  let e' := { e with rep := e.rep + 1, lastRep := (t - e.time) / 1000000 }
  if r.intake.any (fun w => w.2.seq == e.seq) then
    { r with last := some e', intake := r.intake.map (fun w => if w.2.seq == e.seq then (w.1, e') else w) }
  else { r with last := some e', repPending := r.repPending.filter (fun x => x.seq != e.seq) ++ [e'] }

/-- A new entry at the end of the intake (16 R407). -/
def newEntry (r : Recorder) (part : Part) (t src cls code : Nat) (standby : Bool) (payload : Bytes) : Recorder :=
  let e : Rec := { seq := r.nextSeq, time := t, source := src, cls := cls, code := code, standby := standby,
                   coalesced := false, rep := 0, lastRep := 0, payload := padTo 32 payload, era := r.era }
  { r with intake := r.intake ++ [(part, e)], nextSeq := (r.nextSeq + 1) % 2 ^ 32, last := some e }

/-- One loss counted in the overflow register of its class (16 R412). -/
def loseEvent (r : Recorder) (t cls : Nat) : Recorder :=
  { r with
    ovf := r.ovf.modify cls (fun o => { count := o.count + 1, first := if o.count = 0 then t else o.first, last := t }),
    lost := r.lost.modify cls (· + 1) }

/-- A waiting reserve entry of the same source and code takes the occurrence (16 R411). -/
def coalesceReserve (r : Recorder) (t src code : Nat) : Recorder :=
  { r with intake := r.intake.map (fun w =>
      if w.1 == .reserve && w.2.source == src && w.2.code == code then
        (w.1, { w.2 with rep := w.2.rep + 1, lastRep := (t - w.2.time) / 1000000, coalesced := true })
      else w) }

/-- An event enters the intake (16 R407 to R412). -/
def intakeEvent (r : Recorder) (window t src cls code : Nat) (standby : Bool) (payload : Bytes) : Recorder :=
  match repeats r window t src code (payload.take 8), r.last with
  | true, some e => repeatNewest r e t
  | _, _ =>
    if r.waiting .normal < 1024 then newEntry r .normal t src cls code standby payload
    else if cls = 3 then
      if r.intake.any (fun w => w.1 == .reserve && w.2.source == src && w.2.code == code) then coalesceReserve r t src code
      else newEntry r .reserve t src cls code standby payload
    else loseEvent r t cls

/-- EMCY frame (11 R301). -/
def emcyData (eec err code cls seq : Nat) : Bytes :=
  leBytes 2 eec ++ leBytes 1 err ++ leBytes 2 code ++ leBytes 1 cls ++ leBytes 2 seq

/-- May this module send an EMCY: not in NMT stopped, not without a node-ID (01 R10, R12; 11 R284)? -/
def Live.mayEmcy (L : Live) : Bool := L.com.nmt != 4 && (L.com.nmt != 0 || L.mode.st == .selftest) && !L.unassigned

/-- COB-ID of the EMCY, 0x080 + node-ID by default (11 R301). -/
def Live.emcyCob (L : Live) : Nat := if L.get 0x101400 = 0 then 0x80 + L.nodeId else L.getN 0x101400

/-- Send an EMCY on both buses under the inhibit time, and enter it in 0x1003 (11 R301). -/
def Live.sendEmcy (L : Live) (eec err code cls seq : Nat) : Live :=
  let t := match L.com.emcyAt with
    | some a => if L.time.clk < a + L.getN 0x101500 * 100000 then a + L.getN 0x101500 * 100000 else L.time.clk
    | none => L.time.clk
  let f := canFrame L.emcyCob (emcyData eec err code cls seq)
  let L := if L.mayEmcy then
      { (L.enqueueAt 0 f 1 0 t false).enqueueAt 1 f 1 0 t false with
        com := { ((L.enqueueAt 0 f 1 0 t false).enqueueAt 1 f 1 0 t false).com with emcyAt := some t } }
    else L
  { L with rcd := { L.rcd with history := ((eec + 65536 * code) :: L.rcd.history).take 16 } }

/-- The conditions change; the error-reset EMCY goes out when the last FAULT- or SAFETY-class condition ends (11 R301, 12 R463). -/
def Live.setConds (L : Live) (cs : List Cond) : Live :=
  let was := anyFault L.rcd.conds
  let L := { L with rcd := { L.rcd with conds := cs } }
  if was && !anyFault cs then L.sendEmcy 0 0 0 0 0 else L

/-- Conditions of a kind end: the clearing of a self-test bit, the exit from SELFTEST, a reset (12 R463). -/
def Live.endConds (L : Live) (p : Cond → Bool) : Live := L.setConds (L.rcd.conds.filter (fun c => !p c))

/-- Slots of kind 3 that an event hits (18 R449). -/
def brkOnEvent (bs : List (Option Brk)) (src code : Nat) : List Nat :=
  (List.range 8).filter (fun i => match bs.getD i none with
    | some b => b.kind == 3 && fld b.param 23 16 == src && fld b.param 15 0 == code
    | none => false)

/-- Does the capture's trigger, as in force in CTL, name this event (04 R80; 07 R190)? -/
def Live.namesEvent (L : Live) (src code : Nat) : Bool :=
  L.ctlN 0x320107 == 3 && L.ctlN 0x32010B == src * 65536 + code

/-- The sequence of the record that holds an event just entered, none where it was lost: the newest entry, or the reserve entry that it
coalesced into (16 R407 to R412). -/
def seqOf (before r : Recorder) (src code : Nat) : Option Nat :=
  if r.lost ≠ before.lost then none
  else match r.last with
    | some e =>
      if e.source = src ∧ e.code = code then some e.seq
      else (r.intake.find? (fun w => w.1 == .reserve && w.2.source == src && w.2.code == code)).map (·.2.seq)
    | none => none

/-- The EMCY of an event is owed, with the error register after it; it leaves with the event's record (11 R301; 16 R408). -/
def Live.oweEmcy (L : Live) (before : Recorder) (src code cls : Nat) : Live :=
  { L with rcd := { L.rcd with
    emcy := L.rcd.emcy ++ (match seqOf before L.rcd src code with
      | none => []
      | some n => [{ source := src, code := code, cls := cls, err := errorRegister L.rcd.conds, seq := n }]) } }

/-- A condition starts with an event just raised, if it does not hold already (12 R463). -/
def Live.startCond (L : Live) (src code cls : Nat) (key : Bytes) : Live :=
  { L with rcd := { L.rcd with
    conds := L.rcd.conds ++ (if condHeld L.rcd.conds src code key then []
      else [{ source := src, code := code, cls := cls, seq := L.rcd.lastEvent.2.2.2, key := key }]) } }

/-- Raise an event: counted, entered into the recorder, its conditions started or ended (12 R335, R463; 16 R407). `key` are
the identifying items (payload bytes 24 to 31), `rest` the others; the bytes of the items are the model's (log 27). An event that a
transaction causes echoes its TAG after them (12 R326; DESIGN CHOICE, log 202). -/
def Live.raise (L : Live) (src code cls : Nat) (key rest : Bytes) : Live :=
  let t := L.stamp
  let k := padTo 8 key
  let rest := rest ++ (match L.ks.tag with | some n => leBytes 4 n | none => [])
  let seq := L.rcd.nextSeq
  let old := L.rcd
  let r := intakeEvent L.rcd (L.getN 0x460011) t src cls code L.shadow (k ++ padTo 24 rest)
  let cs := condsEnd r.conds src code k
  let cs := if startsCond src code && !condHeld cs src code k then
      cs ++ [{ source := src, code := code, cls := cls, seq := seq, key := k }] else cs
  let L := { L with
    rcd := { r with raised := r.raised + 1,
                    lastEvent := (src, code, t, match r.last with | some e => e.seq | none => seq),
                    brkHit := r.brkHit ++ brkOnEvent L.dbg.brk src code }
    dbg := { L.dbg with attn := if 2 ≤ cls ∧ L.dbg.session.isSome then setBit L.dbg.attn 2 true else L.dbg.attn }
    cap := { L.cap with eventSeen := L.cap.eventSeen || L.namesEvent src code } }
  (L.setConds cs).oweEmcy old src code cls

/-- Raise a power-and-state event or an event of the islands; its source and code are free (02 R43, 03 R70, log 28). The FAULT of the
hold-up store, which sets a self-test bit, and that of a crossing, a cause of SF-12, start a condition (02 R45, 04 R75, 12 R463). -/
def Live.raisePower (L : Live) (what cls : Nat) (key rest : Bytes) : Live :=
  let t := L.stamp
  let r := newEntry L.rcd .normal t Config.powerSource cls (Config.powerCode what) L.shadow (padTo 8 key ++ padTo 24 rest)
  let r' := match repeatsPower L.rcd (L.getN 0x460011) t what (padTo 8 key), L.rcd.last with
    | true, some e => repeatNewest L.rcd e t
    | _, _ => if L.rcd.waiting .normal < 1024 then { r with power := some (L.rcd.nextSeq, what) } else loseEvent L.rcd t cls
  let old := L.rcd
  let L := { L with
    rcd := { r' with raised := L.rcd.raised + 1,
                     lastEvent := (Config.powerSource, Config.powerCode what, t,
                       match r'.last with | some e => e.seq | none => L.rcd.nextSeq)
                     brkHit := r'.brkHit ++ brkOnEvent L.dbg.brk Config.powerSource (Config.powerCode what) }
    cap := { L.cap with eventSeen := L.cap.eventSeen || L.namesEvent Config.powerSource (Config.powerCode what) }
    dbg := { L.dbg with attn := if 2 ≤ cls ∧ L.dbg.session.isSome then setBit L.dbg.attn 2 true else L.dbg.attn } }
  let L := if 2 ≤ cls then L.startCond Config.powerSource (Config.powerCode what) cls (padTo 8 key) else L
  L.oweEmcy old Config.powerSource (Config.powerCode what) cls

/-- The stamp as payload bytes: each payload also carries the module time (16 R406 order: after the named items). -/
def Live.tb (L : Live) : Bytes := leBytes 8 L.stamp

/-- Raise an event whose payload is its items and the module time. -/
def Live.ev (L : Live) (src code cls : Nat) (key rest : Bytes) : Live := L.raise src code cls key (rest ++ L.tb)

/-- Event of segment s, source 128 + 8s + k (05 R112, 06 R151, 08 R231, 09 R246). -/
def Live.segEv (L : Live) (s k code cls : Nat) (rest : Bytes) : Live := L.ev (128 + 8 * s + k) code cls (leBytes 1 s) rest

/-- Class 0 frames of a bus leave on the other: counted, and reported once while the bus is not usable (11 R297, R310). -/
def Live.noteReroute (L : Live) (bus n : Nat) : Live :=
  let L := L.bump 0x201218 n 32
  if (L.com.bus.getD bus {}).rerRep then L
  else { L with com := { L.com with bus := L.com.bus.modify bus (fun (c : Can) => { c with rerRep := true }) } }.ev 114 3 1 []
    (leBytes 1 bus)

/-- Enqueue class 0 frames by the table of 11 R297, all the same way. -/
def Live.enqueueClass0 (L : Live) (bus who : Nat) (fs : List (CanFrame × Nat)) : Live :=
  let r := class0Route (L.com.bus.getD bus {}) (L.com.bus.getD (1 - bus) {}) bus
  let L := if r.2 then L.noteReroute bus fs.length else L
  fs.foldl (fun L x => L.enqueueOn r.1
    { f := x.1, cls := 0, ring := 0, at_ := L.time.clk, num := 0, who := who, rerouted := r.2, pair := x.2 }) L

/-- Enqueue a frame, a class 0 frame by the table of 11 R297; reference messages never move (who = 2). -/
def Live.enqueue (L : Live) (bus : Nat) (f : CanFrame) (cls who : Nat) : Live :=
  if cls = 0 ∧ who ≠ 2 then L.enqueueClass0 bus who [(f, 0)]
  else L.enqueueAt bus f cls who L.time.clk false

/-- A self-test bit is set or cleared; clearing ends the condition it stands for (03 R56, 12 R463). -/
def Live.selfBit (L : Live) (b : Nat) (failed : Bool) : Live :=
  let L := L.put 0x20001A (setBit (L.getN 0x20001A) b failed : Nat)
  if failed then L
  else L.endConds (fun c =>
    (b == 6 && c.source == Config.powerSource && c.code == Config.powerCode 3) || (b == 12 && c.source == 8 && c.code == 4) || (b == 13 && c.source == 116 && c.code == 2) ||
    (b == 14 && c.source == 121 && c.code == 3) || (b == 11 && c.source == 110 && c.code == 5) ||
    (b == 19 && c.source == 110 && c.code == 2) || (b == 15 && 128 ≤ c.source && c.source % 8 == 0 && c.code == 4))

end Sys2Proof.Machine
end

