-- ==== Sys2Proof/Machine/Sequence.lean ====
section
/-! DEFINITION. The state machine's transitions, the four-step sequence, the trip of a safety function and the release of
causes (03 R50 to R61, 10 R248 to R262, R271), shared by every command that can cause them. -/

namespace Sys2Proof.Machine

/-- I_max in A (06 R148), the value in force. -/
def Live.iMax (L : Live) : Rat := q (L.ctl 0x401101) / 1000

/-- I_dead in A (06 R148). -/
def Live.iDead (L : Live) : Rat := q (L.ctl 0x300010) / 10000 * L.iMax

/-- Is |i| ≤ I_dead (10 R249 step 1)? -/
def Live.iZero (L : Live) : Bool := decide (absQ L.conv.i ≤ L.iDead)

/-- Is segment s fitted (05 R113 sub 20)? -/
def Live.fitted (L : Live) (s : Nat) : Bool := L.isSet ((0x3400 + s) * 256 + 0x20)

/-- The same in force in CTL and EST, 200 µs after the boundary of its commit (04 R80). -/
def Live.fittedCtl (L : Live) (s : Nat) : Bool := L.ctl ((0x3400 + s) * 256 + 0x20) == 1

/-- Does the node's last word report the segment bypassed or latched (05 R96, R108; 10 R249 step 4)? -/
def segBypassed (g : Seg) : Bool := g.stat % 8 == 6 || bitOf g.bstate 1 || (!bitOf g.bstate 0 && g.stat % 8 != 3)

/-- Every fitted node reports itself bypassed or latched (10 R249 step 4). -/
def Live.allBypassed (L : Live) : Bool :=
  (List.range 16).all (fun s => !L.fitted s || segBypassed (L.seg.getD s {}))

/-- How many of SSW_FB, FB_KP and FB_KN show open (10 R252). -/
def Live.shownOpen (L : Live) : Nat :=
  (if L.pins.sswOpen then 1 else 0) + (if L.pins.fbKpOpen then 1 else 0) + (if L.pins.fbKnOpen then 1 else 0)

/-- All three feedbacks show open (03 R67, 10 R262 SF-09). -/
def Live.allOpen (L : Live) : Bool := L.pins.sswOpen && L.pins.fbKpOpen && L.pins.fbKnOpen

/-- FAST_OFF at the pins from what the two driver paths drive: OFF where either drives it, ABSENT where neither drives (02 R33, 10
R247). -/
def joinFast (a b : FastOff) : FastOff :=
  if a = .off ∨ b = .off then .off else if a = .permit ∨ b = .permit then .permit else .absent

/-- Both driver paths drive FAST_OFF to a state, keeping when an OFF began and ended (02 R33; 10 R247, R270). -/
def Live.setFast (L : Live) (f : FastOff) : Live :=
  { L with pins := { L.pins with
    fastOff := f
    pathA := f
    pathB := f
    cutA := false
    offSince := (if f = .off then some (L.pins.offSince.getD L.time.clk) else none)
    offEnded := if L.pins.fastOff = .off ∧ f ≠ .off then some L.time.clk else L.pins.offEnded
    fastAt := if L.pins.fastOff = f then L.pins.fastAt else L.time.clk } }

/-- One channel's driver path (10 R247): 1 path A, 2 path B, else both. -/
def Live.setPath (L : Live) (ch : Nat) (f : FastOff) : Live :=
  let a := if ch = 2 then L.pins.pathA else if L.pins.cutA then .absent else f
  let b := if ch = 1 then L.pins.pathB else f
  let cut := L.pins.cutA
  let L := L.setFast (joinFast a b)
  { L with pins := { L.pins with pathA := a, pathB := b, cutA := cut } }

/-- FAST_OFF released to ABSENT by channel B: its own path released and the supply of driver path A removed (10 R247, R261). -/
def Live.cutFast (L : Live) : Live :=
  let L := L.setFast .absent
  { L with pins := { L.pins with cutA := true } }

/-- TWIN_X is pulled low, by a command or as the mere 1 ms of a twin that opens its loop without a partner (02 R40; 10 R253, R269). -/
def Live.pullX (L : Live) (hold : Bool) : Live :=
  { L with pins := { L.pins with
    twinXLow := true
    xHeld := L.pins.xHeld || hold
    xLowAt := if L.pins.twinXLow then L.pins.xLowAt else some L.time.clk } }

/-- TWIN_X is released once nothing holds it low, at the earliest 1 ms after it was pulled (02 R40). -/
def Live.settleX (L : Live) : Live :=
  let old := match L.pins.xLowAt with | some t => decide (t + 1000000 ≤ L.time.clk) | none => true
  if L.pins.twinXLow && !L.pins.xHeld && old then { L with pins := { L.pins with twinXLow := false, xLowAt := none } } else L

/-- No command holds TWIN_X any more. -/
def Live.dropX (L : Live) : Live := { L with pins := { L.pins with xHeld := false } }.settleX

/-- Own loop closed: both contacts (02 R32). -/
def Live.loopClosed (L : Live) : Bool := L.pins.contactA && L.pins.contactB

/-- The contactors' expectation follows the loops of both twins; a twin with no partner data expects them open only once it has held
TWIN_X low for 1 ms (10 R269). -/
def Live.updExpect (L : Live) : Live :=
  let closed := L.loopClosed || (L.hasPartner && bitOf L.twin.p.safe 3) ||
    (!L.hasPartner && L.saf.expect.2 && !L.pins.twinXLow)
  let from_ := if closed || L.hasPartner then L.time.clk else max L.time.clk (L.pins.xLowAt.getD L.time.clk + 1000000)
  if L.saf.expect.2 = closed then L else { L with saf := { L.saf with expect := (from_, closed) } }

/-- Are the contactors expected closed now (10 R269)? -/
def Live.expectsClosed (L : Live) : Bool := L.saf.expect.2 || decide (L.time.clk < L.saf.expect.1)

/-- Open the own loop: both contacts; a twin without a partner commands by TWIN_X as it does so (10 R251, R269). -/
def Live.openLoop (L : Live) : Live :=
  let L := { L with pins := { L.pins with
    contactA := false
    contactB := false } }
  let L := if L.hasPartner then L else L.pullX false
  (L.put 0x200015 0).updExpect

/-- The own loop current is read back: nothing with a contact open or without an aux input to source the loop, else a measured value, a
free one within the range of 0x2000:15 (02 R32, R47; log 15). -/
def Live.senseLoop (L : Live) : Live :=
  if L.loopClosed && (L.pins.aux1 || L.pins.aux2) then
    { L.put 0x200015 (Config.freeInt L.free % 3001) with free := L.free + 1 }
  else L.put 0x200015 0

/-- The injected square wave at a module time: +20 V in the first half of each 2 s, −20 V in the second (10 R272). -/
def waveAt (t : Nat) : Int := if t % 2000000000 < 1000000000 then 20 else -20

/-- Open or close the relay of the insulation monitor; a change makes the next estimate wait for a whole period (10 R272). -/
def Live.setRelay (L : Live) (on : Bool) : Live :=
  if L.pins.insRelay = on then L
  else { L with pins := { L.pins with insRelay := on, insVolt := if on then waveAt L.time.mtime else 0 }, saf := { L.saf with insHalves := 0, insBelow := (0, 0), insGap := none } }

/-- Connection fault: PE path, or a failed self-test (10 R272; 02 R26). -/
def Live.insBad (L : Live) : Bool := L.saf.insConn || bitOf (L.getN 0x20001A) 11

/-- What the coupling relay serves: 0 open, 1 injecting on a bus, 2 measuring the own string; only the twin that holds the drive
token (10 R273, R275; for the own string DEDUCED, log 39). -/
def Live.insWants (L : Live) : Nat :=
  let open_ := L.pins.fbKpOpen && L.pins.fbKnOpen
  if !L.fromStandby || !L.twin.holds || L.insBad || L.saf.insDup then 0
  else if L.isSet 0x402208 then (if open_ then 0 else 1)
  else if open_ && !L.loopClosed then 2 else 0

/-- The relay follows (10 R273, R275). -/
def Live.insRelay (L : Live) : Live := L.setRelay (L.insWants != 0)

/-- Close the own loop (06 R133 phase 1); the relay is opened first (10 R275). -/
def Live.closeLoop (L : Live) : Live :=
  let L := L.setRelay false
  { L with pins := { L.pins with contactA := true, contactB := true } }.dropX.updExpect.senseLoop

/-- Write a command result (03 R57). -/
def Live.result (L : Live) (r : Nat) : Live := L.put 0x20000C r

/-- A tuning signal aborts at once, with its cause (07 R186, R195). -/
def Live.abortChisel (L : Live) (cause : Nat) : Live :=
  if L.chi.st = 1 ∨ L.chi.st = 2 ∨ L.chi.st = 3 then
    let L := { L with chi := { L.chi with st := 5, sig := 0, begun := false } }
    (L.put 0x320027 cause).ev 52 3 1 [] (leBytes 1 cause ++ leBytes 8 L.epoch)
  else L

/-- Where a tuning signal is live and where it is dry (07 R186). -/
def signalPlace (st : MState) : Nat :=
  match st with
  | .run | .derated => 1
  | .standby | .service => 2
  | _ => 0

/-- The one way the state changes: by a transition of 03 R52, with its INFO event (03 R70). -/
def Live.setState (L : Live) (new : MState) (trig : Nat) : Live :=
  if L.mode.st = new then L
  else
    let old := L.mode.st
    let L := { L with mode := { L.mode with st := new } }
    let L := if signalPlace old ≠ signalPlace new then L.abortChisel (if new = .safe then 3 else 2) else L
    L.raisePower 1 0 (leBytes 1 old.code ++ leBytes 1 new.code ++ leBytes 1 trig) L.tb

/-- Does the module count as driving for R82: its own state, and for the lead manager any string of its latest snapshot (13 R339)? -/
def Live.timeDriving (L : Live) : Bool :=
  L.driving || (L.mgr.lead && (match L.mgr.snap with | some b => le b 13 5 != 0 | none => false))

/-- Does the string-derived supply deliver: not on hold-up, nor in SAFE, with at least 300 V inserted between STR_P and STR_N (02 R43)? -/
def Live.stringFeeds (L : Live) : Bool :=
  !L.pins.holdup && L.mode.st != .safe && !L.pins.quarryRelays && decide (300 ≤ L.conv.vStr)

/-- What the module draws from: 0 aux, 1 string-derived, 2 hold-up (02 R43). -/
def Live.source (L : Live) : Nat := if L.pins.aux1 || L.pins.aux2 then 0 else if L.stringFeeds then 1 else 2

/-- A change of source raises an INFO power event (02 R43). -/
def Live.sourceEvent (L : Live) : Live :=
  if L.source = L.pins.drawn then L
  else { L with pins := { L.pins with drawn := L.source } }.raisePower 2 0 (leBytes 1 L.source) L.tb

/-- Has this twin released its outputs: on hold-up (02 R45), or handled SF-12 within itself (10 R261)? -/
def Live.letGo (L : Live) : Bool :=
  L.pins.holdup || (match L.mode.seq with | some s => s.kind == .releaseOnly | none => false)

/-- FAST_OFF of a twin that is not starting or driving (02 R33): the active twin commands the switch open; the standby drives OFF with
the active twin's mirrored command or its own hazard, else PERMIT. A twin without a partner that does not hold the token is no
standby and leaves it ABSENT (log 193). -/
def Live.restFast (L : Live) : FastOff :=
  if L.letGo then .absent
  else if L.twin.holds ∨ L.saf.hazard then .off
  else if !L.hasPartner then .absent
  else if L.twin.p.safe % 4 = 2 ∨ bitOf L.twin.p.safe 2 then .off else .permit

/-- NMT state, with its event (11 R284, R310). -/
def Live.setNmt (L : Live) (n : Nat) : Live :=
  if L.com.nmt = n then L
  else
    let old := L.com.nmt
    let L := { L with com := { L.com with nmt := n } }
    L.ev 116 1 0 [] (leBytes 1 old ++ leBytes 1 n)

/-- Entry to STANDBY by transition `trig`: the sequence ends, the held OFF is released and 02 R33 governs, the loop stays open
and counts as tested for a lone twin (03 R50, R54; 10 R264; 11 R284). -/
def Live.enterStandby (L : Live) (trig : Nat) : Live :=
  let L := L.setState .standby trig
  let L := { L with
    mode := { L.mode with seq := none, holdOffB := false, standbySeen := true }
    conv := { L.conv with phase := 0, shutLim := none, zeroAt := none }
    saf := { L.saf with loneSince := L.time.clk } }
  let L := if trig = 7 then L.setNmt 5 else L
  L.setFast L.restFast

/-- Step of the running sequence, 0 none (10 R249). -/
def Live.stepOf (L : Live) : Nat := match L.mode.seq with | some s => s.step | none => 0

/-- Change the running sequence. -/
def Live.setSeq (L : Live) (f : Seq → Seq) : Live :=
  { L with mode := { L.mode with seq := L.mode.seq.map f } }

/-- Step 2: FAST_OFF driven OFF, at the active twin by channel A (10 R249, R250). -/
def Live.toStep2 (L : Live) : Live :=
  (L.setPath (if L.twin.holds then 1 else 3) .off).setSeq (fun s => { s with step := 2, offAt := some L.time.clk })

/-- Step 3: the lintel contacts are opened (10 R249, R251). -/
def Live.toStep3 (L : Live) : Live :=
  L.openLoop.setSeq (fun s => { s with step := 3, step3At := some L.time.clk })

/-- Step 4: bypass of every segment begins (10 R252). -/
def Live.toStep4 (L : Live) : Live :=
  { L with conv := { L.conv with act := [], slots := [], nact := 0, cidx := 0, phase := 0 } }.setSeq (fun s => { s with step := 4 })

/-- The own command for a cause ends: the next one that is still held takes its place; with none left TWIN_X is let go (10 R253; the
order DESIGN CHOICE, log 188). -/
def Live.endCommand (L : Live) (n : Nat) : Live :=
  match L.saf.ownCmd with
  | none => L
  | some c =>
    let rest := L.saf.ownMore.filter (fun x => x.d0 != n)
    if c.d0 ≠ n then { L with saf := { L.saf with ownMore := rest } }
    else match rest with
      | x :: xs => { L with saf := { L.saf with ownCmd := some x, ownMore := xs } }
      | [] => { L with saf := { L.saf with ownCmd := none, ownMore := [] } }.dropX

/-- Step 5: the sequence is complete. A shut-down ends in STANDBY by T12 (03 R52, R58); a twin in SF-12 no longer holds its
command (10 R253). -/
def Live.toStep5 (L : Live) : Live :=
  match L.mode.seq with
  | some s =>
    if s.kind = .shutdown then L.enterStandby 12
    else
      (L.setSeq (fun s => { s with step := 5 })).endCommand 12
  | none => L

/-- Step 1 ends at once while |i| ≤ I_dead (10 R249, 03 R58). A standby, which cannot run step 1 of a class S trip, drives OFF when
SSW_FB shows the switch open (R250). -/
def Live.seq12 (L : Live) : Live :=
  match L.mode.seq with
  | some s =>
    let isOver := if !L.twin.holds && s.kind != .shutdown then L.pins.sswOpen else L.iZero
    if s.step = 1 ∧ isOver then L.toStep2 else L
  | none => L

/-- Step 2 ends when SSW_FB shows the switch open (10 R249, R251). -/
def Live.seq23 (L : Live) : Live :=
  match L.mode.seq with
  | some s => if s.step = 2 ∧ L.pins.sswOpen then L.toStep3 else L
  | none => L

/-- Step 3 ends when two of the three feedbacks show open (10 R252). -/
def Live.seq34 (L : Live) : Live :=
  match L.mode.seq with
  | some s => if s.step = 3 ∧ 2 ≤ L.shownOpen then L.toStep4 else L
  | none => L

/-- Step 4 ends when every fitted node reports itself bypassed or latched (10 R249). -/
def Live.seq45 (L : Live) : Live :=
  match L.mode.seq with
  | some s => if s.step = 4 ∧ L.allBypassed then L.toStep5 else L
  | none => L

/-- Every step end whose condition already holds, in order (10 R249). -/
def Live.seqOn (L : Live) : Live := L.seq12.seq23.seq34.seq45

/-- A pending enable is cancelled with this result (03 R59, R60). -/
def Live.cancelPending (L : Live) (r : Nat) : Live :=
  if L.mode.pendEnable.isSome then { L with mode := { L.mode with pendEnable := none } }.result r else L

/-- T13 to SAFE with the four-step sequence of a kind (03 R52, 10 R249, R250); a running shut-down becomes the safe-state
sequence from the step it has reached. Taken from PRECHARGE, RUN, DERATED and STANDBY only. -/
def Live.enterSafe (L : Live) (kind : SeqKind) : Live :=
  if L.driving ∨ L.mode.st = .standby then
    let step := match L.mode.seq with
      | some s => if 5 ≤ s.step then 1 else s.step
      | none => 1
    let sq : Seq := { kind := kind, step := step, since := L.time.clk,
                      offAt := L.mode.seq.bind (·.offAt), step3At := L.mode.seq.bind (·.step3At) }
    let L := L.cancelPending 5
    let L := L.setState .safe 13
    let L := { L with
      mode := { L.mode with seq := some sq }
      saf := { L.saf with loneSince := L.time.clk }
      conv := { L.conv with shutLim := none, zeroAt := none } }
    let L := if kind = .classF ∧ step = 1 then L.toStep2 else L
    L.seqOn
  else if L.mode.st = .safe ∧ kind = .classF ∧ L.stepOf = 1 then
    (L.toStep2.setSeq (fun s => { s with kind := .classF })).seqOn
  else L

/-- The release within the twin (10 R261): FAST_OFF to ABSENT, own loop open, the token to the partner, SAFE as its own state
with its sequence complete once its own loop current is below 10 mA. T13 leads there from the states it names alone, so that a twin
in SERVICE releases and stays in it (03 R52). -/
def Live.releaseTwin (L : Live) : Live :=
  let L := L.cutFast.openLoop
  let L := { L with twin := { L.twin with holds := false, claims := false } }.insRelay
  if L.mode.st = .service then L
  else
    let L := (L.cancelPending 5).setState .safe 13
    { L with mode := { L.mode with seq := some { kind := .releaseOnly, step := 5, since := L.time.clk } } }

/-- Bytes every safety payload carries: time of decision, node-ID, sequence step (10 R282). -/
def Live.tripPayload (L : Live) : Bytes := L.tb ++ leBytes 1 L.nodeId ++ leBytes 1 L.stepOf

/-- A channel opens its switch of the element in the bay trip loop for a reason, with event 111 code 2 when the element was closed (10
R247, R271). -/
def Live.openElement (L : Live) (why ch : Nat) : Live :=
  let was := L.pins.elementOpen
  let L := { L with
    pins := { L.pins with
      elementOpen := true
      elemA := L.pins.elemA || ch != 2
      elemB := L.pins.elemB || ch != 1 }
    saf := { L.saf with
      elementAt := (if was then L.saf.elementAt else some L.time.clk)
      elementFor := setBit L.saf.elementFor why true } }
  if was then L else L.raise 111 2 3 [] (L.tripPayload ++ leBytes 1 why)

/-- Urgent word of a command (15 R388). -/
def urgentWord (c : TripCmd) : Bytes :=
  let d := leBytes 1 c.d0 ++ leBytes 1 (ofBits [c.bay, c.classF])
  d ++ leBytes 2 (fcrc d)

/-- Command the partner to do the same: urgent word and TWIN_X; the frames carry the oldest command still held (10 R253). -/
def Live.commandPartner (L : Live) (c : TripCmd) : Live :=
  let L := match L.saf.ownCmd with
    | none => { L with saf := { L.saf with ownCmd := some c } }
    | some x =>
      if x.d0 = c.d0 ∨ L.saf.ownMore.any (fun y => y.d0 == c.d0) then L
      else { L with saf := { L.saf with ownMore := L.saf.ownMore ++ [c] } }
  (L.pullX true).emit (.urgent (urgentWord c))

/-- The cause enters the active and latched masks and the channel of first decision (10 R281, R253). -/
def Live.latchCause (L : Live) (n ch : Nat) : Live :=
  let first := L.getN 0x404001 == 0
  let L := if n = 12 ∧ ch = 3 then L else L.put 0x404001 (setBit (L.getN 0x404001) (n - 1) true : Nat)
  let L := L.put 0x404002 (setBit (L.getN 0x404002) (n - 1) true : Nat)
  let L := if first then L.put 0x404003 ch else L
  { L with saf := { L.saf with
    decA := (if ch = 1 then setBit L.saf.decA (n - 1) true else L.saf.decA)
    decB := (if ch = 2 then setBit L.saf.decB (n - 1) true else L.saf.decB)
    relSince := L.saf.relSince.set (n - 1) none
    released := L.saf.released.set (n - 1) false } }

/-- Has this channel already decided this trip? -/
def Live.decided (L : Live) (n ch : Nat) : Bool :=
  if ch = 1 then bitOf L.saf.decA (n - 1)
  else if ch = 2 then bitOf L.saf.decB (n - 1)
  else bitOf (L.getN 0x404002) (n - 1)

/-- A new SF-11 is counted; the third within 24 h is released by a reset alone (10 R262). -/
def Live.countSf11 (L : Live) : Live :=
  let day := L.time.clk :: L.saf.sf11.filter (fun t => decide (L.time.clk ≤ t + 86400000000000))
  { L with saf := { L.saf with
    sf11 := day.take 8
    sf11Reset := L.saf.sf11Reset || decide (3 ≤ day.length) } }

/-- What keeps the bay loop element open after a trip: 0 an input pair of SF-07, 1 SF-06, 2 the partner's command, 3 a pair of SF-08. -/
def elementWhy (n ch : Nat) : Nat := if ch = 3 then 2 else if n = 6 then 1 else if n = 8 then 3 else 0

/-- What a trip does beyond its event and latch: the bay loop element, the release within the twin, the command to
the partner, the hold-off or OFF, and the safe state in its class (10 R250, R253, R261, R271). -/
def Live.tripAct (L : Live) (n ch : Nat) (classF bay : Bool) : Live :=
  let L := if n = 12 then L.breakClean else L
  let L := if bay then L.openElement (elementWhy n ch) ch else L
  if n = 12 ∧ ch ≠ 3 ∧ L.healthyPartner then L.releaseTwin
  else
    let L := if ch = 3 then L else L.commandPartner { d0 := n, bay := bay, classF := classF }
    let L := if ch = 1 ∧ L.twin.holds then (if n = 12 then L.setPath 2 .off else L)
      else if classF then { L with saf := { L.saf with hazard := true } }.setPath ch .off
      else { L with saf := { L.saf with holdoff := some (L.saf.holdoff.getD (L.time.clk + 1200000)) } }
    L.enterSafe (if classF then .classF else .classS)

/-- A demand, or the partner's command, that carries the bay scope opens the element though its function is decided already (10 R271).
A trip of SF-n (n = 13: bay trip) decided by channel A (1), channel B (2) or the partner (3): event, latch, command to the
partner, and the safe state in its class (10 R248 to R255, R261). Before STANDBY no trip is taken (DEDUCED from 03 R54, log 35). -/
def Live.trip (L : Live) (n ch code : Nat) (classF bay : Bool) : Live :=
  if !L.fromStandby then L
  else if L.decided n ch then (if bay then L.openElement (elementWhy n ch) ch else L)
  else
    let L := if n = 13 then L.raise 111 code 3 [] L.tripPayload else L.raise (95 + n) code 3 [] L.tripPayload
    let L := if n = 11 ∧ !bitOf (L.getN 0x404002) 10 then L.countSf11 else L
    (L.latchCause n ch).tripAct n ch classF bay

/-- SF-12 of a channel (10 R255, R261): class F, code the channel's. -/
def Live.sf12 (L : Live) (ch : Nat) : Live := L.trip 12 ch ch true false

/-- A cause is no longer active (10 R262): its bit leaves the active mask; the own command to the partner for it goes too. -/
def Live.endActive (L : Live) (n : Nat) : Live :=
  let L := L.put 0x404002 (setBit (L.getN 0x404002) (n - 1) false : Nat)
  let L := { L with saf := { L.saf with
    decA := setBit L.saf.decA (n - 1) false
    decB := setBit L.saf.decB (n - 1) false } }
  L.endCommand n

/-- The release condition of a latched cause has been met (10 R262): event code 4 (5 for a bay trip). -/
def Live.releaseCause (L : Live) (n : Nat) : Live :=
  let L := L.endActive n
  let L := if n = 13 then L.raise 111 5 0 [] L.tripPayload else L.raise (95 + n) 4 0 [] L.tripPayload
  { L with saf := { L.saf with released := L.saf.released.set (n - 1) true } }

/-- The element of the bay trip loop closes once nothing keeps it open, at the earliest 2 ms after it opened (10 R271). -/
def Live.closeIfDue (L : Live) : Live :=
  let old := match L.saf.elementAt with | some t => decide (t + 2000000 ≤ L.time.clk) | none => true
  if L.pins.elementOpen && L.saf.elementFor == 0 && old then
    { L with pins := { L.pins with elementOpen := false, elemA := false, elemB := false }, saf := { L.saf with elementAt := none } }
  else L

/-- Nothing of kind `why` keeps the element open any more (10 R271). -/
def Live.closeElement (L : Live) (why : Nat) : Live :=
  { L with saf := { L.saf with elementFor := setBit L.saf.elementFor why false } }.closeIfDue

/-- A precharge fault (06 R134): event 35, T13 to SAFE, the 10 s cool-down of 03 R62. -/
def Live.prechargeFault (L : Live) (code : Nat) : Live :=
  let L := L.ev 35 code 2 [] (leBytes 8 L.epoch ++ leBytes 1 L.conv.act.length)
  let L := { L with
    saf := { L.saf with precharge := true }
    mode := { L.mode with cooldown := some (L.time.clk + sec 10) } }
  L.enterSafe .classS

/-- The safe state on loss of supply (02 R44, R45). -/
def Live.supplyLossSafe (L : Live) : Live :=
  { L with saf := { L.saf with supplyLoss := true } }.enterSafe .classS

/-- Channel B decides the trip that channel A has decided from what both read: in class S it holds off, in class F it drives OFF at once
(10 R250). -/
def Live.alsoB (L : Live) (n : Nat) (classF : Bool) : Live :=
  if !bitOf L.saf.decA (n - 1) ∨ bitOf L.saf.decB (n - 1) then L
  else
    let L := { L with saf := { L.saf with decB := setBit L.saf.decB (n - 1) true } }
    if classF then L.setPath 2 .off
    else { L with saf := { L.saf with holdoff := some (L.saf.holdoff.getD (L.time.clk + 1200000)) } }

/-- SF-09 with a code of 10 R269, R270, judged by both channels: its event while the discrepancy is new, the reclose block, and a
trip in class S or F where the tables give one. -/
def Live.sf09 (L : Live) (code : Nat) (block trips classF : Bool) : Live :=
  if condHeld L.rcd.conds 104 code (padTo 8 []) ∨ !L.fromStandby then L
  else
    let L := if block then L.put 0x404004 1 else L
    let L := (L.raise 104 code 3 [] L.tripPayload).latchCause 9 1
    if trips then (L.tripAct 9 1 classF false).alsoB 9 classF
    else { L with saf := { L.saf with decB := setBit L.saf.decB 8 true } }

/-- An active twin whose loop has lost its source runs the safe-state sequence once no partner reports aux present any more (02
R44). -/
def Live.auxWatch (L : Live) : Live :=
  if L.powered && L.twin.holds && !L.pins.aux1 && !L.pins.aux2 && !L.pins.holdup && !L.saf.supplyLoss &&
      !(L.hasPartner && bitOf L.twin.p.pstate 5) then L.supplyLossSafe
  else L

/-- May a planned handover be made now (15 R400): in step with a healthy partner, no state transfer, no pair check, not in SAFE? -/
def Live.mayHandover (L : Live) : Bool :=
  L.healthyPartner && L.twin.transfer.isNone && !L.twin.check && L.mode.st != .safe

/-- Give up the token to the partner, which claims it (02 R44, R45; 15 R400): handover requested, under R45 by the urgent word
"handover now". -/
def Live.requestHandover (L : Live) (release : Bool) : Live :=
  let L := { L with twin := { L.twin with hoReq := true, hoCount := none, hoRelease := release } }
  if release then L.emit (.urgent (urgentWord { d0 := 14, bay := false, classF := false })) else L

/-- Disarm the breakpoints of kinds 2 and 3, with event 127 code 7 cause 2 for each (18 R449). -/
def Live.disarmIsland (L : Live) : Live :=
  let armed := L.dbg.brk.any (fun b => match b with | some b => decide (2 ≤ b.kind) | none => false)
  let L := { L with dbg := { L.dbg with brk := L.dbg.brk.map (fun b => match b with
    | some b => if 2 ≤ b.kind then none else some b
    | none => none) } }
  if armed then L.ev 127 7 1 [] (leBytes 1 2) else L

end Sys2Proof.Machine
end

