-- ==== Sys2Proof/Machine/Cairn.lean ====
section
/-! DEFINITION. The cairn and the journal: record images, the commit of the next waiting entry, repeats in place, system
records, journal entries, checkpoints and the seal (16 R405 to R416, 17 R433 to R438). -/

namespace Sys2Proof.Machine

/-! ### The journal -/

/-- Size of an entry in the ring: header, body and ECRC, padded to a multiple of 8 (17 R434). -/
def entrySize (body : Bytes) : Nat := (24 + body.length + 7) / 8 * 8

/-- Bytes of the ring (17 R433). -/
def ringSize : Nat := 1044480

/-- The incomplete entries, oldest first (17 R436). -/
def Journal.open_ (j : Journal) : List JEntry := (j.ents.filter (fun e => !e.done)).reverse

/-- The oldest incomplete entry (17 R433). -/
def Journal.oldest (j : Journal) : Option JEntry := j.open_.head?

/-- The image of an entry (17 R434). -/
def JEntry.bytes (e : JEntry) : Bytes :=
  let head := leBytes 4 e.seq ++ [BitVec.ofNat 8 e.cls, if e.mirrored then 1 else 0] ++ leBytes 2 e.body.length
  let tail := leBytes 8 e.time ++ e.body
  padTo (entrySize e.body) (head ++ leBytes 4 (if e.done then 0xC3A55A3C else 0) ++ tail ++ leBytes 4 (crc32c (head ++ tail)))

/-- Payload that every event of source 126 carries beside the time: the running set's MANIFEST_ID (17 R440). -/
def Live.updEv (L : Live) (code cls : Nat) (rest : Bytes) : Live :=
  L.ev 126 code cls [] (rest ++ leBytes 4 (L.getN 0x480004))

/-- Is an entry mirrored to the partner: an own one of class 2, or of class 3 or 4 at the active twin (13 R348, 17 R437)? -/
def Live.mirrors (L : Live) (e : JEntry) : Bool :=
  L.inStep && !e.mirrored && (e.cls == 2 || (L.twin.holds && (e.cls == 3 || e.cls == 4)))

/-- A journal item waits for bulk channel 5: kind 1 an entry, 2 its completion mark; then class and body (15 R390; layout log 27). -/
def Live.sendEntry (L : Live) (kind : Nat) (e : JEntry) : Live :=
  if L.mirrors e then
    { L with twin := { L.twin with bulk := L.twin.bulk ++ [(5, leBytes 1 kind ++ leBytes 1 e.cls ++ e.body)] } }
  else L

/-- Write an entry at the head of the ring (17 R433 to R435). Reaching an incomplete entry writes nothing and is a cause of
SF-12, with event 126 code 18. -/
def Live.jwrite (L : Live) (cls : Nat) (mirrored done : Bool) (body : Bytes) : Live :=
  let n := entrySize body
  let isOver := match L.jrn.oldest with
    | some e => decide (e.pos + ringSize < L.jrn.head + n)
    | none => false
  if isOver then (L.updEv 18 2 []).sf12 1
  else
    let e : JEntry := { seq := L.jrn.nextSeq, cls := cls, mirrored := mirrored, done := done, time := L.stamp,
                        body := body, pos := L.jrn.head }
    { L with jrn := { L.jrn with
        ents := e :: L.jrn.ents.filter (fun x => decide (L.jrn.head + n ≤ x.pos + ringSize))
        nextSeq := (L.jrn.nextSeq + 1) % 2 ^ 32
        head := L.jrn.head + n } }.sendEntry 1 e

/-- Mark every open entry of a kind complete (17 R434), with its mark to the partner. -/
def Live.jdoneAll (L : Live) (p : JEntry → Bool) : Live :=
  let L := (L.jrn.open_.filter p).foldl (fun (L : Live) e => L.sendEntry 2 e) L
  { L with jrn := { L.jrn with ents := L.jrn.ents.map (fun e => if p e then { e with done := true } else e) } }

/-- Mark an entry complete (17 R434). -/
def Live.jdone (L : Live) (seq : Nat) : Live := L.jdoneAll (fun e => e.seq == seq)

/-- Carry one entry forward: written again at the head with a new SEQ, the old copy complete (17 R435). -/
def Live.carryEntry (L : Live) (e : JEntry) : Live :=
  let new := L.jrn.nextSeq
  let bulk := L.twin.bulk
  let L := (L.jwrite e.cls e.mirrored false e.body).jdone e.seq
  { L with
    twin := { L.twin with bulk := bulk }
    upd := { L.upd with activation := if L.upd.activation = some e.seq then some new else L.upd.activation }
    mgr := { L.mgr with dispOpen := L.mgr.dispOpen.map (fun d => if d.1 == e.seq then (new, d.2) else d) } }

/-- A checkpoint: what lies far behind is carried forward, the checkpoint entry is written with the newest recorder sequence,
and the older head record is updated (17 R433, R435; 16 R416). -/
def Live.checkpoint (L : Live) : Live :=
  let far := L.jrn.open_.filter (fun e => decide (e.pos + 524288 < L.jrn.head))
  let L := far.foldl (fun L e => L.carryEntry e) L
  let L := if far.isEmpty then L else (L.bump 0x480024 far.length 32).updEv 17 0 (leBytes 2 far.length)
  let seq := L.jrn.nextSeq
  let L := L.jwrite 7 false true (leBytes 4 (L.rcd.newest.getD 0))
  { L with jrn := { L.jrn with check := some seq, gen := (L.jrn.gen + 1) % 2 ^ 32 } }

/-! ### The cairn -/

/-- Bytes 0 to 59 of a record (16 R406). -/
def Rec.body (r : Rec) : Bytes :=
  leBytes 4 r.seq ++ leBytes 8 r.time ++
  leBytes 2 (r.source % 256 + 256 * (r.cls % 4) + (if r.standby then 1024 else 0) + (if r.coalesced then 2048 else 0)) ++
  leBytes 2 r.code ++ leBytes 4 r.rep ++ leBytes 4 r.lastRep ++ padTo 32 r.payload ++ leBytes 4 r.era

/-- RCRC of a record (16 R406). -/
def Rec.rcrc (r : Rec) : Nat := crc32c r.body

/-- The 64-byte image of a record (16 R406). -/
def Rec.image (r : Rec) : Bytes := r.body ++ leBytes 4 r.rcrc

/-- Write a slot, slots in rising order (16 R405). -/
def putSlot (s : List (Nat × Bytes)) (k : Nat) (v : Bytes) : List (Nat × Bytes) :=
  s.filter (fun p => p.1 < k) ++ (k, v) :: s.filter (fun p => k < p.1)

/-- The slot of a sequence number as it stands; an erased slot reads FFH (16 R405). -/
def Recorder.slot (r : Recorder) (seq : Nat) : Bytes :=
  ((r.slots.find? (fun p => p.1 == seq % 65536)).map (·.2)).getD (List.replicate 64 0xFF)

/-- Does a slot hold the valid record of this sequence (16 R405)? -/
def Recorder.valid (r : Recorder) (seq : Nat) : Bool :=
  let b := r.slot seq
  le b 60 4 == crc32c (b.take 60) && le b 56 4 == r.era && le b 0 4 == seq

/-- Serial order modulo 2^32: is a newer than b (16 R410)? -/
def newer32 (a b : Nat) : Bool := a != b && decide ((a + 2 ^ 32 - b) % 2 ^ 32 < 2 ^ 31)

/-- The valid buffer of the tally register (16 R410). -/
def Recorder.tally (r : Recorder) : Tally := if newer32 r.tallyB.gen r.tallyA.gen then r.tallyB else r.tallyA

/-- Write the inactive buffer of the tally register to name a record: sequence, REPEAT, LASTREP, RCRC (16 R410). -/
def Recorder.nameTally (r : Recorder) (seq rep last rcrc : Nat) : Recorder :=
  let t : Tally := { seq := seq, rep := rep, last := last, rcrc := rcrc, gen := (r.tally.gen + 1) % 2 ^ 32 }
  if newer32 r.tallyB.gen r.tallyA.gen then { r with tallyA := t } else { r with tallyB := t }

/-- Write the inactive buffer of the tally register to name a record (16 R410). -/
def Recorder.putTally (r : Recorder) (e : Rec) : Recorder := r.nameTally e.seq e.rep e.lastRep e.rcrc

/-- A journalled record is written again from step 2 on: slot and tally register (16 R408). -/
def Recorder.putImage (r : Recorder) (b : Bytes) : Recorder :=
  let r := r.nameTally (le b 0 4) (le b 16 4) (le b 20 4) (le b 60 4)
  { r with slots := putSlot r.slots (le b 0 4 % 65536) (b.take 64) }

/-- Sources whose EMCY the active twin alone sends (11 R301). -/
def stringSource (s : Nat) : Bool := (32 ≤ s && s ≤ 79) || (96 ≤ s && s ≤ 111) || 128 ≤ s

/-- The EMCY of one event (11 R301). -/
def Live.emcyOf (L : Live) (e : Emcy) : Live :=
  if e.cls < L.getN 0x201220 then L
  else if stringSource e.source ∧ L.hasPartner ∧ !L.twin.holds then L
  else L.sendEmcy (0xFF00 + e.source) e.err e.code e.cls (e.seq % 65536)

/-- The EMCYs of the events of a record, repeats included, leave (11 R301). -/
def Live.emcysOf (L : Live) (seq : Nat) : Live :=
  let due := L.rcd.emcy.filter (fun e => e.seq == seq)
  let L := { L with rcd := { L.rcd with emcy := L.rcd.emcy.filter (fun e => e.seq != seq) } }
  due.foldl Live.emcyOf L

/-- The recorder's own record enters a system register with a sequence of its own; it never repeats an entry (16 R407, R409). -/
def Live.systemRecord (L : Live) (code cls : Nat) (payload : Bytes) : Live :=
  let t := L.stamp
  let e : Rec := { seq := L.rcd.nextSeq, time := t, source := 124, cls := cls, code := code, standby := L.shadow,
                   coalesced := false, rep := 0, lastRep := 0, payload := padTo 32 payload, era := L.rcd.era }
  let key := padTo 8 payload
  let old := L.rcd
  let L := { L with rcd := { L.rcd with
    intake := L.rcd.intake ++ [(Part.system, e)]
    nextSeq := (L.rcd.nextSeq + 1) % 2 ^ 32
    last := some e
    raised := L.rcd.raised + 1
    lastEvent := (124, code, t, e.seq) } }
  let cs := condsEnd L.rcd.conds 124 code key
  (L.setConds (if startsCond 124 code && !condHeld cs 124 code key then
    cs ++ [{ source := 124, code := code, cls := cls, seq := e.seq, key := key }] else cs)).oweEmcy old 124 code cls

/-- With the normal entries below 512 each overflow register in use enters the intake as one record (16 R412). -/
def Live.overflowRecords (L : Live) : Live :=
  if 512 ≤ L.rcd.waiting .normal then L
  else (List.range 3).foldl (fun L c =>
    match L.rcd.ovf.getD c {} with
    | ⟨0, _, _⟩ => L
    | o =>
      let L := { L with rcd := { L.rcd with ovf := L.rcd.ovf.set c {} } }
      L.systemRecord 2 1 (leBytes 8 c ++ leBytes 4 o.count ++ leBytes 8 o.first ++ leBytes 8 o.last)) L

/-- The era an entry commits with: the clear record opens the next one (16 R415). -/
def eraOf (r : Recorder) (e : Rec) : Nat := if e.source = 124 ∧ e.code = 1 then (r.era + 1) % 2 ^ 32 else r.era

/-- Commit the next entry in sequence order: journal entry, slot, RCRC, tally, entry complete, EMCY, overflow records (16 R408). -/
def Live.commitRecord (L : Live) : Live :=
  match L.rcd.intake with
  | [] => L
  | (_, e0) :: rest =>
    let era := eraOf L.rcd e0
    let clear := decide (era ≠ L.rcd.era)
    let e := { e0 with era := era }
    let L := L.jwrite 6 false true e.image
    let r := L.rcd
    let r := { r with
      intake := rest
      slots := putSlot r.slots (e.seq % 65536) e.image
      newest := some e.seq
      era := era
      eraFirst := (if clear then e.seq else r.eraFirst)
      eraHeld := r.eraHeld && !clear
      freezing := r.freezing && !(e.source == 124 && e.code == 3)
      last := r.last.map (fun (l : Rec) => if l.seq == e.seq then { l with era := era } else l) }
    let r := r.putTally e
    let r := { r with noFreeze := r.noFreeze && r.waiting .normal != 0 }
    ({ L with rcd := r }.emcysOf e.seq).overflowRecords

/-- May an entry commit: not while frozen, save the freeze record and what precedes it (16 R413)? -/
def Live.mayCommit (L : Live) : Bool := L.rcd.freeze.isNone || L.rcd.freezing

/-- Commit every waiting entry, at most n (16 R413). -/
def Live.commitAll : Nat → Live → Live
  | 0, L => L
  | n + 1, L => if L.rcd.intake.isEmpty then L else Live.commitAll n L.commitRecord

/-- One record with its repeats is written in place: tally register, slot, and the EMCYs of the repeats (16 R410; 11 R301). -/
def Live.putRepeat (L : Live) (e : Rec) : Live :=
  let r := L.rcd.putTally e
  { L with rcd := { r with slots := putSlot r.slots (e.seq % 65536) e.image } }.emcysOf e.seq

/-- The repeats owed to committed records are written in place, none while the cairn is frozen (16 R410, R413). -/
def Live.repeatInPlace (L : Live) : Live :=
  if L.rcd.freeze.isSome then L
  else
    let due := L.rcd.repPending
    due.foldl Live.putRepeat { L with rcd := { L.rcd with repPending := [] } }

/-- Release of a freeze with a cause (16 R413). -/
def Live.releaseFreeze (L : Live) (cause : Nat) : Live :=
  match L.rcd.freeze with
  | none => L
  | some _ =>
    let L := { L with rcd := { L.rcd with freeze := none, noFreeze := L.rcd.waiting .normal != 0, freezing := false } }
    L.systemRecord 4 0 (leBytes 1 cause)

/-- Save the counters into retained MRAM by a journal entry of class 5 (17 R438). -/
def Live.saveCounters (L : Live) : Live :=
  let r := { L.ret with energy := L.conv.energy, q := L.seg.map (·.q), e := (L.saf.eA, L.saf.eB), at_ := L.stamp }
  let w := fun (x : Rat) => leBytes 8 (ofSigned 64 (x * 1000).floor)
  let L := L.jwrite 5 false true (w r.energy.1 ++ w r.energy.2 ++ (r.q.map w).flatten ++ w r.e.1 ++ w r.e.2)
  { L with ret := r }

/-- Write the cell contexts into retained MRAM (03 R65). -/
def Live.saveContexts (L : Live) : Live :=
  { L with ret := { L.ret with ctx := L.est.ctx, seg := L.est.seg, rep := L.est.rep } }

/-- The seal of journal and recorder (02 R45, 03 R65, 16 R413, 17 R435, R438): a freeze is released with cause 3, every waiting
entry commits, contexts and counters are saved, and a checkpoint is written. -/
def Live.seal (L : Live) : Live :=
  let L := L.releaseFreeze 3
  let L := Live.commitAll 1093 L
  (L.repeatInPlace.saveContexts.saveCounters).checkpoint

/-- A journal entry of class 3 (17 R438). -/
def Live.stageEntry (L : Live) (done : Bool) (kind : Nat) (rest : Bytes) : Live :=
  L.jwrite 3 false done (BitVec.ofNat 8 kind :: rest)

end Sys2Proof.Machine
end

