-- ==== Sys2Proof/Machine/Real.lean ====
section
/-! DEFINITION. The real functions the rules name: square root, exponential, logarithm, power and sine (06 R141; 07 R183; 08 R198,
R208, R225). Each is computed in fixed point to at least 2⁻⁶⁰ of its value; the spec gives no rounding of them (log 10). -/

namespace Sys2Proof.Machine

/-- Bits from the highest down of the integer square root of n, from a root r so far. -/
def isqrtBits (n : Nat) : Nat → Nat → Nat
  | 0, r => r
  | k + 1, r => isqrtBits n k (if (r + 2 ^ k) * (r + 2 ^ k) ≤ n then r + 2 ^ k else r)

/-- Integer square root. -/
def isqrt (n : Nat) : Nat := isqrtBits n (Nat.log2 n / 2 + 1) 0

/-- Square root of a rational; 0 below 0. -/
def sqrtQ (x : Rat) : Rat :=
  if x ≤ 0 then 0
  else
    let k := 64 + Nat.log2 x.den
    q (isqrt (x.num.natAbs * 4 ^ k / x.den) : Int) / q ((2 ^ k : Nat) : Int)

/-- One in fixed point with 96 fraction bits. -/
def fxOne : Int := 2 ^ 96

/-- A rational in that fixed point. -/
def toFx (x : Rat) : Int := (x * q fxOne).floor

/-- Product in fixed point. -/
def mulFx (a b : Int) : Int := (a * b) / fxOne

/-- Sum of a series whose next term comes from the last by `f`, from a first term. -/
def series (f : Nat → Int → Int) (t : Int) (n : Nat) : Int :=
  ((List.range n).foldl (fun (a : Int × Int) i => let t := f i a.1; (t, a.2 + t)) (t, t)).2

/-- Natural logarithm of 2. -/
def ln2 : Rat := 6931471805599453094172321214581765680755001343602552541206800094933936 / 10 ^ 70

/-- Exponential. -/
def expQ (x : Rat) : Rat :=
  let k := (x / ln2).floor
  let k := max (-5000) (min k 5000)
  let r := toFx (x - q k * ln2)
  q (series (fun i t => mulFx t r / (i + 1)) fxOne 40) / q fxOne * pow2 k

/-- Natural logarithm of a positive rational; 0 elsewhere. -/
def lnQ (x : Rat) : Rat :=
  if x ≤ 0 then 0
  else
    let e := log2Q x
    let m := x / pow2 e
    let y := toFx ((m - 1) / (m + 1))
    let y2 := mulFx y y
    -- Twice the inverse hyperbolic tangent: y, y³/3, y⁵/5 and so on.
    let s := ((List.range 40).foldl (fun (a : Int × Int) (i : Nat) => (mulFx a.1 y2, a.2 + a.1 / (2 * i + 1))) (y, 0)).2
    q (2 * s) / q fxOne + q e * ln2

/-- The power f0 × (f1 / f0)^x of the logarithmic chirp (07 R183). -/
def powRatio (f0 f1 x : Rat) : Rat := if f0 ≤ 0 ∨ f1 ≤ 0 then 0 else f0 * expQ (x * lnQ (f1 / f0))

/-- Sine of an angle in turns, 0 to 1/4. -/
def sinQuarter (t : Rat) : Rat :=
  let y := toFx (2 * Config.pi * t)
  let y2 := mulFx y y
  q (series (fun i t => -(mulFx t y2 / ((2 * i + 2) * (2 * i + 3)))) y 24) / q fxOne

/-- Sine of an angle given in turns, exact to 2⁻²⁰ (07 R183): which value within that bound the unit gives is free (log 10). -/
def sinTurn (x : Rat) : Rat :=
  let t := x - q x.floor
  let s := if t ≤ 1 / 4 then sinQuarter t
    else if t ≤ 1 / 2 then sinQuarter (1 / 2 - t)
    else if t ≤ 3 / 4 then -(sinQuarter (t - 1 / 2))
    else -(sinQuarter (1 - t))
  clampQ (-1) 1 (s + clampQ (-(pow2 (-21))) (pow2 (-21)) (Config.sinError x))

end Sys2Proof.Machine
end

