-- ==== Sys2Proof/Machine/CellModel.lean ====
section
/-! DEFINITION. The cell model table and the filter of one cell context (08 R198 to R210, R218, R225), as
functions of the table image, the settings and the context. Arithmetic is exact; the state of a context is held
as ashlar wide state after each update (log 22). -/

namespace Sys2Proof.Machine

/-- Unsigned 16-bit value at byte offset o of an image (08 R202). -/
def img16 (img : Bytes) (o : Nat) : Nat := leNat ((img.drop o).take 2)

/-- Signed 16-bit value at byte offset o. -/
def imgS16 (img : Bytes) (o : Nat) : Int := toSigned 16 (img16 img o)

/-- Entry of parameter p at temperature point t and SoC point s (08 R204). -/
def tabEntry (img : Bytes) (p t s : Nat) : Int :=
  if p = 10 then imgS16 img (256 + 2 * (1024 * p + 64 * t + s)) else (img16 img (256 + 2 * (1024 * p + 64 * t + s)) : Int)

/-- The SoC grid as fractions (08 R203). -/
def socGrid (img : Bytes) : List Rat := (List.range 64).map (fun s => q (img16 img (96 + 2 * s)) / 10000)

/-- The temperature grid in 0.1 °C (08 R203). -/
def tempGrid (img : Bytes) : List Rat := (List.range 16).map (fun t => q (imgS16 img (224 + 2 * t)))

/-- Header fields used by the estimator and the thermal unit (08 R203). -/
def hdrChem (img : Bytes) : Nat := img16 img 6
/-- CELLS. -/
def hdrCells (img : Bytes) : Nat := ((img.drop 8).headD 0).toNat
/-- TABLE_ID. -/
def hdrId (img : Bytes) : Nat := leNat ((img.drop 10).take 4)
/-- Q_NOM in Ah. -/
def hdrQnom (img : Bytes) : Rat := q (leNat ((img.drop 14).take 4)) / 1000
/-- V_FULL, V. -/
def hdrVfull (img : Bytes) : Rat := q (img16 img 18) / 10000
/-- V_EMPTY, V. -/
def hdrVempty (img : Bytes) : Rat := q (img16 img 20) / 10000
/-- V_EWH level n (1 to 4), V. -/
def hdrEwh (img : Bytes) (n : Nat) : Rat := q (img16 img (20 + 2 * n)) / 10000
/-- V_EWL level n (1 to 4), V. -/
def hdrEwl (img : Bytes) (n : Nat) : Rat := q (img16 img (28 + 2 * n)) / 10000
/-- T_WARN, T_THROT, T_SHUT, T_CHMIN, T_CHMAX as n = 0 to 4, 0.1 °C. -/
def hdrT (img : Bytes) (n : Nat) : Int := imgS16 img (38 + 2 * n)
/-- T_HYST, 0.1 K. -/
def hdrThyst (img : Bytes) : Int := imgS16 img 48
/-- I_ANCHOR in A: 0.001 C of Q_NOM. -/
def hdrIanchor (img : Bytes) : Rat := q (img16 img 50) / 1000 * hdrQnom img

/-- The lower index and the fraction of a value in an ascending grid, clamped to its edges (08 R200). -/
def bracket (g : List Rat) (x : Rat) : Nat × Rat :=
  let n := g.length
  if x ≤ g.getD 0 0 then (0, 0)
  else if g.getD (n - 1) 0 ≤ x then (n - 2, 1)
  else
    let i := ((List.range (n - 1)).find? (fun i => decide (x < g.getD (i + 1) 0))).getD (n - 2)
    (i, divQ (x - g.getD i 0) (g.getD (i + 1) 0 - g.getD i 0))

/-- Parameters 1 to 11 by bilinear interpolation, raw units (08 R200). -/
def param (img : Bytes) (p : Nat) (soc t : Rat) : Rat :=
  let (s, fs) := bracket (socGrid img) soc
  let (k, ft) := bracket (tempGrid img) t
  let v := fun (a b : Nat) => q (tabEntry img p (k + a) (s + b))
  (1 - ft) * ((1 - fs) * v 0 0 + fs * v 0 1) + ft * ((1 - fs) * v 1 0 + fs * v 1 1)

/-- Index of the grid temperature at or below T, clamped (08 R200). -/
def tempBelow (img : Bytes) (t : Rat) : Nat :=
  let (k, f) := bracket (tempGrid img) t
  if f = 1 then k + 1 else k

/-- An OCV branch (0 charge, 1 discharge) in V at SoC and temperature (08 R200). -/
def ocv (img : Bytes) (br : Nat) (soc t : Rat) : Rat :=
  let k := tempBelow img t
  let (s, f) := bracket (socGrid img) soc
  let tg := (tempGrid img).getD k 0
  let tc := clampQ ((tempGrid img).getD 0 0) ((tempGrid img).getD 15 0) t
  ((1 - f) * q (tabEntry img br k s) + f * q (tabEntry img br k (s + 1))) / 10000
    + param img 10 soc t / 10000000 * (tc - tg) / 10

/-- The mean of the two branches (08 R198). -/
def ocvMid (img : Bytes) (soc t : Rat) : Rat := (ocv img 0 soc t + ocv img 1 soc t) / 2

/-- ∂OCV/∂SoC of the mid curve, V per unit: the slope of the piecewise-linear function, the mean of both sides at a grid
point, 0 outside the grid (08 R200). -/
def ocvSlope (img : Bytes) (soc t : Rat) : Rat :=
  let g := socGrid img
  let seg := fun (s : Nat) => divQ (ocvMid img (g.getD (s + 1) 0) t - ocvMid img (g.getD s 0) t) (g.getD (s + 1) 0 - g.getD s 0)
  if soc < 0 ∨ 1 < soc then 0
  else
    match (List.range 64).find? (fun s => decide (g.getD s 0 = soc)) with
    | some 0 => seg 0 / 2
    | some s => if s = 63 then seg 62 / 2 else (seg (s - 1) + seg s) / 2
    | none => seg (bracket g soc).1

/-- Resistances and time constants of one cell at a working point, in Ω and s. -/
structure CellPar where
  /-- Rs for charge. -/
  rsCh : Rat
  /-- Rs for discharge. -/
  rsDis : Rat
  /-- Rp1. -/
  rp1 : Rat
  /-- τ1. -/
  t1 : Rat
  /-- Rp2. -/
  rp2 : Rat
  /-- τ2. -/
  t2 : Rat
  /-- H_max, V. -/
  hMax : Rat
  /-- γ. -/
  gamma : Rat
  /-- η. -/
  eta : Rat

/-- Parameters of a cell at a working point (08 R199). -/
def cellPar (img : Bytes) (soc t : Rat) : CellPar :=
  { rsCh := param img 2 soc t / 1000000, rsDis := param img 3 soc t / 1000000,
    rp1 := param img 4 soc t / 1000000, t1 := param img 5 soc t / 1000,
    rp2 := param img 6 soc t / 1000000, t2 := param img 7 soc t / 10,
    hMax := param img 8 soc t / 100000, gamma := param img 9 soc t / 100,
    eta := 1 - param img 11 soc t / 1000000 }

/-- rs_dir of 08 R198. -/
def rsDir (p : CellPar) (dir : Int) : Rat :=
  if 0 < dir then p.rsDis else if dir < 0 then p.rsCh else (p.rsCh + p.rsDis) / 2

/-- Settings the filter uses. -/
structure EstPar where
  /-- σ_v, V (0x3500:05). -/
  sv : Rat
  /-- σ_q per √h (0x3500:06). -/
  sq : Rat
  /-- Uncertainty limit (0x3500:07). -/
  uLim : Rat
  /-- Impedance freshness in sweeps (0x3500:09). -/
  fresh : Nat
  /-- I_max, A. -/
  imax : Rat
  /-- Hold all in COUNT (0x3500:02). -/
  holdCount : Bool
  /-- Reporting gap span G (0x3500:0A). -/
  gspan : Rat
  /-- Rest rate per minute (0x3500:0B). -/
  restRate : Rat
  /-- Capacity learning gain (0x3500:17). -/
  kLearn : Rat
  /-- Observability floor, V per unit SoC (0x3500:18). -/
  floorV : Rat
  /-- Horizon H_p, s (0x3500:16). -/
  hp : Rat

/-- The update interval Δt, s (08 R198). -/
def dtS : Rat := 1 / 100

/-- Element of a 4 × 4 matrix. -/
def mat (p : List Rat) (i j : Nat) : Rat := p.getD (4 * i + j) 0

/-- A 4 × 4 matrix from its elements, held as wide state (08 R208). -/
def mkMat (f : Nat → Nat → Rat) : List Rat := (List.range 16).map (fun k => wide (f (k / 4) (k % 4)))

/-- Scale row and column j so that its deviation lies in [lo, hi] (08 R208). -/
def boundVar (p : List Rat) (j : Nat) (lo hi : Rat) : List Rat :=
  let v := mat p j j
  let f := if v < lo * lo then (if v = 0 then 0 else sqrtQ (lo * lo / v))
           else if hi * hi < v then sqrtQ (hi * hi / v) else 1
  if v < lo * lo ∧ v = 0 then mkMat (fun a b => if a = j ∧ b = j then lo * lo else mat p a b)
  else if f = 1 then p
  else mkMat (fun a b => if a = j ∧ b = j then (if v < lo * lo then lo * lo else hi * hi)
                         else if a = j ∨ b = j then mat p a b * f else mat p a b)

/-- The bounds on P after each update (08 R208). -/
def boundP (p : List Rat) (hMax : Rat) : List Rat :=
  boundVar (boundVar (boundVar (boundVar p 0 (2 / 1000) (1 / 5)) 1 0 (1 / 20)) 2 0 (1 / 20)) 3 0 hMax

/-- Effective current: charging current is counted with η (08 R198). -/
def iEff (p : CellPar) (ic : Rat) : Rat := if 0 ≤ ic then ic else p.eta * ic

/-- The prediction of one update (08 R198, R208). -/
def predict (e : EstPar) (p : CellPar) (dir : Int) (ic : Rat) (c : Ctx) : Ctx :=
  let ie := iEff p ic
  let x1 := expQ (-(divQ dtS p.t1))
  let x2 := expQ (-(divQ dtS p.t2))
  let ah := expQ (-(divQ (p.gamma * absQ ie * dtS) (3600 * c.qc)))
  let f := fun (j : Nat) => if j = 0 then 1 else if j = 1 then x1 else if j = 2 then x2 else if dir = 0 then 1 else ah
  let qn := fun (j : Nat) =>
    if j = 0 then
      let d := divQ (e.imax / 1000 * dtS) (3600 * c.qc)
      e.sq * e.sq * dtS / 3600 + d * d
    else if j = 3 then (p.hMax / 10) * (p.hMax / 10) else 1 / 1000000
  let dq := divQ (ie * dtS) (3600 * c.qc)
  { c with
    soc := wide (c.soc - dq),
    v1 := wide (x1 * c.v1 + (1 - x1) * c.a1 * p.rp1 * ic),
    v2 := wide (x2 * c.v2 + (1 - x2) * c.a2 * p.rp2 * ic),
    h := if dir = 0 then c.h else wide (ah * c.h + (1 - ah) * (-(q dir) * p.hMax)),
    p := mkMat (fun i j => f i * mat c.p i j * f j + (if i = j then qn i else 0)),
    since := (c.since.1.map (fun s => s + ie * dtS / 3600), c.since.2.map (fun s => s + ie * dtS / 3600)),
    ref := c.ref.map (fun r => (r.1, r.2 + ie * dtS / 3600)),
    impAge := c.impAge.map (· + 1) }

/-- The model voltage (08 R198). -/
def vModel (img : Bytes) (p : CellPar) (dir : Int) (ic t : Rat) (c : Ctx) : Rat :=
  ocvMid img c.soc t + c.h - c.v1 - c.v2 - c.aS * rsDir p dir * ic

/-- The voltage update, none where the innovation is an outlier (08 R209). -/
def measure (img : Bytes) (e : EstPar) (p : CellPar) (dir : Int) (ic t v : Rat) (c : Ctx) : Option Ctx :=
  let s := ocvSlope img c.soc t
  let h := fun (j : Nat) => if j = 0 then s else if j = 3 then 1 else -1
  let r := e.sv * e.sv
  let ph := fun (i : Nat) => sumQ ((List.range 4).map (fun j => mat c.p i j * h j))
  let var := sumQ ((List.range 4).map (fun i => h i * ph i)) + r
  let inn := v - vModel img p dir ic t c
  if 16 * var < inn * inn then none
  else
    let k := fun (i : Nat) => divQ (ph i) var
    let m := fun (i j : Nat) => (if i = j then 1 else 0) - k i * h j
    let mp := fun (i j : Nat) => sumQ ((List.range 4).map (fun a => m i a * mat c.p a j))
    some { c with
      soc := wide (c.soc + k 0 * inn), v1 := wide (c.v1 + k 1 * inn), v2 := wide (c.v2 + k 2 * inn), h := wide (c.h + k 3 * inn),
      p := mkMat (fun i j => sumQ ((List.range 4).map (fun a => mp i a * m j a)) + k i * r * k j),
      outliers := 0 }

/-- The standard deviation of SoC (08 R219). -/
def sigmaSoc (c : Ctx) : Rat := sqrtQ (mat c.p 0 0)

/-- Set σ_SoC, the correlations of SoC cleared where asked (08 R209, R213, 03 R65). -/
def setSigma (s : Rat) (clear : Bool) (c : Ctx) : Ctx :=
  { c with p := mkMat (fun i j => if i = 0 ∧ j = 0 then s * s else if clear ∧ (i = 0 ∨ j = 0) then 0 else mat c.p i j) }

/-- Raise σ_SoC to at least s (03 R65, 08 R206). -/
def raiseSigma (s : Rat) (c : Ctx) : Ctx := if mat c.p 0 0 < s * s then setSigma s false c else c

/-- SoC at which the mid curve takes this voltage (03 R65): the first crossing on the SoC grid. -/
def socOfOcv (img : Bytes) (v t : Rat) : Rat :=
  let g := socGrid img
  if v ≤ ocvMid img 0 t then 0
  else if ocvMid img 1 t ≤ v then 1
  else
    let s := ((List.range 63).find? (fun s => decide (v ≤ ocvMid img (g.getD (s + 1) 0) t))).getD 62
    let a := ocvMid img (g.getD s 0) t
    let b := ocvMid img (g.getD (s + 1) 0) t
    if b = a then g.getD s 0 else g.getD s 0 + (v - a) / (b - a) * (g.getD (s + 1) 0 - g.getD s 0)

/-- Cold start of one context at its first measured voltage (03 R65): the learned capacity and the scale factors stay. -/
def coldStart (img : Bytes) (v t : Rat) (c : Ctx) : Ctx :=
  let s := socOfOcv img v t
  { c with
    soc := s, v1 := 0, v2 := 0, h := 0, p := mkMat (fun i j => if i = 0 ∧ j = 0 then 1 / 100 else 0),
    blend := false, outliers := 0, anchor := 0, since := (none, none), ref := none, emptyRun := 0, fullRun := 0,
    atEmpty := false, atFull := false, qc := if c.qc = 0 then hdrQnom img else c.qc }

/-- Mean of a function over [a, b] by trapezoids on the SoC grid (08 R223). -/
def meanOver (img : Bytes) (f : Rat → Rat) (a b : Rat) : Rat :=
  if b ≤ a then f a
  else
    let pts := a :: ((socGrid img).filter (fun g => decide (a < g ∧ g < b))) ++ [b]
    let area := sumQ ((pts.zip (pts.drop 1)).map (fun (x, y) => (f x + f y) / 2 * (y - x)))
    area / (b - a)

/-- Current limits of one cell: discharge, charge; Rs is that of the cell's direction (08 R198, R225). -/
def cellLimits (img : Bytes) (e : EstPar) (dir : Int) (ic t v dk : Rat) (c : Ctx) : Rat × Rat :=
  let p := cellPar img c.soc t
  let slope := ocvSlope img c.soc t
  let reff := c.aS * rsDir p dir + c.a1 * p.rp1 * (1 - expQ (-(divQ e.hp p.t1)))
    + c.a2 * p.rp2 * (1 - expQ (-(divQ e.hp p.t2)))
  let den := reff + divQ (slope * e.hp) (3600 * c.qc)
  let dis := divQ (v + reff * ic - hdrVempty img) den
  let ch := divQ (hdrVfull img - v + reff * ic) den
  let low := e.imax * dk / 20
  if hdrVempty img < v ∧ v < hdrVfull img then (maxQ dis low, maxQ ch low) else (dis, ch)

/-- The reported value before the end-point rule (08 R221). -/
def report (e : EstPar) (dir : Int) (soc rep dc : Rat) : Rat :=
  let g := soc - rep
  if 0 < dir then minQ (rep + clampQ 0 2 (1 - divQ g e.gspan) * dc) rep
  else if dir < 0 then maxQ (rep + clampQ 0 2 (1 + divQ g e.gspan) * dc) rep
  else
    let step := e.restRate * dtS / 60
    rep + clampQ (-step) step g

/-- The floor, the ceiling and the end points of the reported value (08 R222): a value beyond a bound stands, or moves back toward it
(log 194). -/
def reportEnd (old new : Rat) (empty full : Bool) : Rat :=
  if empty then 0 else if full then 1
  else minQ (maxQ new (minQ old (1 / 200))) (maxQ old (199 / 200))

/-! ### Checks of a table image (08 R205) -/

/-- Strictly ascending? -/
def ascending (l : List Int) : Bool := (l.zip (l.drop 1)).all (fun (a, b) => decide (a < b))

/-- Range of a parameter's entry (08 R199). -/
def entryOk (img : Bytes) (p t s : Nat) : Bool :=
  let v := tabEntry img p t s
  let lo : Int := [10000, 10000, 1, 1, 0, 1, 0, 1, 0, 0, -32767, 0].getD p 0
  let hi : Int := if p = 8 then (tabEntry img 0 t s - tabEntry img 1 t s) * 5 + 10 else
    [50000, 50000, 65534, 65534, 65534, 65534, 65534, 65534, 0, 65534, 32767, 50000].getD p 0
  decide (lo ≤ v ∧ v ≤ hi)

/-- All grid points satisfy this. -/
def allPoints (f : Nat → Nat → Bool) : Bool := (List.range 16).all (fun t => (List.range 64).all (f t))

end Sys2Proof.Machine
end

