-- ==== Sys2Proof/Machine/Session.lean ====
section
/-! DEFINITION. Sessions, levels and the checks on the arrival of a write (12 R315 to R321, R336), and the frame every command
row shares. -/

namespace Sys2Proof.Machine

/-- An abort code as the four bytes of an answer. -/
abbrev Abort := Nat

/-- Interface of a session: 1 SDO, 2 USDO, 3 Modbus, 4 debug (12 R315). -/
def iface (s : Sess) : Nat := fld s 15 12

/-- The session held under this identity. -/
def Live.session (L : Live) (s : Sess) : Option Session := L.ks.sessions.find? (fun x => x.id == s)

/-- Level of a session (12 R315, R316; 13 R351; 18 R444): a session not held has the open level. -/
def Live.levelOf (L : Live) (s : Sess) : Nat :=
  if iface s = 4 then (match L.dbg.session with | some d => d.1 | none => 0)
  else if iface s = 3 then (match L.mgr.conns.getD (s % 256) none with | some c => c.level | none => 0)
  else match L.session s with
    | some x => x.level
    | none => L.getN 0x4C0007

/-- The session idle longest (12 R315). -/
def idlest : List Session → Option Session
  | [] => none
  | x :: xs => match idlest xs with
    | none => some x
    | some y => if x.lastReq ≤ y.lastReq then some x else some y

/-- The edit copy closes when its owner's session ends (12 R329). -/
def Live.endSession (L : Live) (s : Sess) : Live :=
  let L := { L with ks := { L.ks with sessions := L.ks.sessions.filter (fun x => x.id != s) } }
  match L.ks.edit with
  | some e => if e.owner = s then { L with ks := { L.ks with edit := none } } else L
  | none => L

/-- A request of a session: it is held, the one idle longest leaving a full table of 64 (12 R315). -/
def Live.touch (L : Live) (s : Sess) : Live :=
  match L.session s with
  | some _ => { L with ks := { L.ks with
      sessions := L.ks.sessions.map (fun x => if x.id == s then { x with lastReq := L.time.clk } else x) } }
  | none =>
    let L := if L.ks.sessions.length < 64 then L
      else match idlest L.ks.sessions with | some x => L.endSession x.id | none => L
    { L with ks := { L.ks with
      sessions := L.ks.sessions ++ [{ id := s, level := L.levelOf s, lastReq := L.time.clk }] } }

/-- Change what is held of a session. -/
def Live.modSession (L : Live) (s : Sess) (f : Session → Session) : Live :=
  { L with ks := { L.ks with sessions := L.ks.sessions.map (fun x => if x.id == s then f x else x) } }

/-- Refuse a request: answered once with its abort code, which stands in 0x2100:06 for the session (12 R334, R336). -/
def Live.refuse (L : Live) (s : Sess) (code : Abort) : Live :=
  (L.modSession s (fun x => { x with lastAbort := code, refusedEntry := 0 })).answer s code []

/-- Refuse on arrival: counted for 0x2100:04. -/
def Live.refuseArrival (L : Live) (s : Sess) (code : Abort) : Live :=
  { L with ks := { L.ks with refused := L.ks.refused + 1 } }.refuse s code

/-- Answer success. -/
def Live.accept (L : Live) (s : Sess) : Live := L.answer s 0 []

/-! ### The abort codes of 12 R336 -/

/-- 0x06010000: access not supported. -/
def abAccess : Abort := 0x06010000
/-- 0x06010001: read of a wo object. -/
def abWo : Abort := 0x06010001
/-- 0x06010002: write of a ro object. -/
def abRo : Abort := 0x06010002
/-- 0x06020000: index does not exist. -/
def abIndex : Abort := 0x06020000
/-- 0x06060000: uncorrectable memory error while reading. No command reports such an error during a read (log 227). -/
def abMemory : Abort := 0x06060000
/-- 0x06070010: length does not match. -/
def abLength : Abort := 0x06070010
/-- 0x06090011: sub-index does not exist. -/
def abSub : Abort := 0x06090011
/-- 0x06090030: value out of range. -/
def abRange : Abort := 0x06090030
/-- 0x08000000: general error, where no other code applies: every refusal of the model has one that does (log 227). -/
def abGeneral : Abort := 0x08000000
/-- 0x08000022: the state abort code. -/
def abState : Abort := 0x08000022
/-- 0x08000101: reserved bit set. -/
def abReserved : Abort := 0x08000101
/-- 0x08000102: level insufficient. -/
def abLevel : Abort := 0x08000102
/-- 0x08000103: refused by the set-point source. -/
def abSource : Abort := 0x08000103
/-- 0x08000104: conversion refused. -/
def abConv : Abort := 0x08000104
/-- 0x08000105: stage table invalid. -/
def abStage : Abort := 0x08000105
/-- 0x08000106: cell model table invalid. -/
def abTable : Abort := 0x08000106
/-- 0x08000107: data no longer available. -/
def abGone : Abort := 0x08000107
/-- 0x08000108: write conflict. -/
def abConflict : Abort := 0x08000108
/-- 0x08000109: stale base epoch. -/
def abStale : Abort := 0x08000109
/-- 0x0800010A: transaction malformed. -/
def abMalformed : Abort := 0x0800010A
/-- 0x0800010B: edit copy owned by another session. -/
def abOwner : Abort := 0x0800010B
/-- 0x0800010C: safety set not confirmed. -/
def abConfirm : Abort := 0x0800010C
/-- 0x0800010D: force conflict in online change. -/
def abForce : Abort := 0x0800010D
/-- 0x0800010E: not committed. -/
def abLost : Abort := 0x0800010E
/-- 0x0800010F: authentication failed. -/
def abAuth : Abort := 0x0800010F
/-- 0x08000110: authentication locked. -/
def abLocked : Abort := 0x08000110
/-- 0x08000111: command limit of the course. -/
def abLimit : Abort := 0x08000111

/-! ### Command rows -/

/-- Does the module serve this session now: no CAN request while NMT is stopped, without a node-ID or after a duplicate one was heard
(01 R10, R12; 11 R284)? -/
def Live.serves (L : Live) (s : Sess) : Bool :=
  !(iface s == 1 || iface s == 2) || (L.com.nmt != 4 && L.com.nmt != 0 && !L.unassigned && !L.mode.dupHeard)

/-- What a session asks, where the module serves it; else nothing is done or answered (01 R10, R12; 11 R284). -/
def Live.asked (L : Live) (s : Sess) (f : Live → Live) : Live := if L.serves s then f (L.touch s) else L

/-- The answer to a request with its abort code, 0 for success. -/
def Live.finish (x : Live × Abort) (s : Sess) : Live := if x.2 = 0 then x.1.accept s else x.1.refuse s x.2

/-- A command whose check answers an abort code or the effect: the state it leaves and its code. -/
def Live.orAbort (L : Live) (r : Except Abort Live) : Live × Abort :=
  match r with
  | .ok L' => (L', 0)
  | .error code => (L, code)

/-- Run an internal operation as a command: nothing runs in QUARRY or OFF (03 R68, log 8). -/
def run (s : State) (f : Live → Live) : Host.Outcome State Fault Refusal :=
  if s.live.powered then .next { s with live := f s.live } else .next s

/-- The same for work of an island (0 CTL, 1 EST, 2 LNK, 3 LOG, 4 COM, 5 SAF, 6 none), which runs once BOOT has ended (03 R55)
and stands still while the island is halted (18 R446, R450). -/
def runIn (island : Nat) (s : State) (f : Live → Live) : Host.Outcome State Fault Refusal :=
  if s.live.powered && s.live.mode.st != .boot && !bitOf s.live.dbg.halted island then .next { s with live := f s.live } else .next s

/-! ### Arrival checks -/

/-- The command objects, excepted from the one-writer rule (12 R321), and the debug port's requests that are committed like them
(18 R447 to R449), which the model gives keys from DB0000H on. -/
def isCommandObject (k : Nat) : Bool :=
  let idx := k / 256
  let sub := k % 256
  [0x20000A, 0x201009, 0x201109, 0x320024, 0x32010C, 0x350030, 0x380006, 0x400003, 0x400004, 0x404008, 0x440002, 0x440013,
   0x440014, 0x46000D, 0x480002, 0x4A0004, 0x4C0003, 0x4C0004, 0x50002A].contains k || k / 65536 == 0xDB ||
  (0x3400 ≤ idx && idx ≤ 0x340F && (sub == 0x0A || sub == 0x2D || sub == 0x1F))

/-- A safety parameter: rwc L3 in 0x4010 to 0x403F (12 R329). -/
def isSafetyParam (k : Nat) : Bool :=
  0x4010 ≤ k / 256 && k / 256 ≤ 0x403F &&
  (match odRow (k / 256) (k % 256) with | some r => r.acc == .rwc | none => false)

/-- Objects a write reaches only at the twin it addresses (15 R393). -/
def isTwinLocalWrite (k : Nat) : Bool :=
  let idx := k / 256
  let sub := k % 256
  [0x200002, 0x200016, 0x200017, 0x220006, 0x220019].contains k ||
  ((idx == 0x2010 || idx == 0x2011) && 1 ≤ sub && sub ≤ 0x0A) ||
  ((idx == 0x2013 || idx == 0x2014) && 9 ≤ sub && sub ≤ 32) ||
  (idx == 0x2200 && 0x10 ≤ sub && sub ≤ 0x13)

/-- Objects each twin answers from its own snapshot (15 R392, 18 R451). -/
def isTwinLocalRead (k : Nat) : Bool :=
  let idx := k / 256
  let sub := k % 256
  (idx == 0x2000 && (sub == 2 || sub == 4 || (0x0D ≤ sub && sub ≤ 0x1A) || sub == 0x1E || sub == 8)) ||
  (0x2010 ≤ idx && idx ≤ 0x2014 && !(idx == 0x2012 && ((1 ≤ sub && sub ≤ 6) || sub == 0x20))) ||
  idx == 0x2200 || (idx == 0x3201 && 0x0D ≤ sub && sub ≤ 0x10) ||
  (idx == 0x3A00 && ((0x10 ≤ sub && sub ≤ 0x13) || sub == 0x1E)) ||
  (idx == 0x4022 && 0x10 ≤ sub && sub ≤ 0x14) || idx == 0x4800 || idx == 0x4A00 ||
  (idx == 0x4C00 && (sub == 0x20 || sub == 0x21 || sub == 0x23 || sub == 0x24 || sub == 0x25))

/-- Objects of the manager pair alone (13 R355). -/
def Live.exists5000 (L : Live) (k : Nat) : Bool :=
  let idx := k / 256
  let sub := k % 256
  if idx = 0x5001 then L.isManager
  else if idx = 0x5000 then L.isManager || sub == 2 || (6 ≤ sub && sub ≤ 8) || sub == 0x10
  else true

/-- Row of an object, or the abort code of R311, R355. -/
def Live.findRow (L : Live) (idx sub : Nat) : Except Abort OdRow :=
  if (odRows idx).isEmpty || !L.exists5000 (idx * 256 + sub) then .error abIndex
  else match odRow idx sub with
    | some r => .ok r
    | none => .error abSub

/-- Value of the bytes of a numeric object. -/
def OdType.decode (t : OdType) (v : Bytes) : Int :=
  if t.signed then toSigned (8 * t.size) (leNat v) else (leNat v : Int)

/-- Bytes of the value of a numeric object. -/
def OdType.encode (t : OdType) (v : Int) : Bytes := leBytes t.size (ofSigned (8 * t.size) v)

/-- A COB-ID that is a default of a node-ID from 1 to 97 (11 R309): every function code of CiA 301 but NMT. -/
def isDefaultCob (id : Nat) : Bool :=
  let n := id % 128
  let f := id / 128
  1 ≤ n && n ≤ 97 && (f == 1 || (3 ≤ f && f ≤ 12) || f == 14)

/-- The rates of one bus fit one row of 11 R286. -/
def ratesOk (arb data : Nat) : Bool :=
  (arb == 250 && (data == 1000 || data == 2000)) || (arb == 500 && (data == 2000 || data == 4000 || data == 5000)) ||
  (arb == 1000 && (data == 4000 || data == 5000))

/-- A contiguous IPv4 mask: ones above zeros (13 R355). -/
def maskOk (m : Nat) : Bool := (List.range 33).any (fun n => m == 2 ^ 32 - 2 ^ n)

/-- Acceptance filters 8 to 31 (11 R295): base format uses 11 bits, FMT 3 is reserved, targets 0, 1 and 4. -/
def filterCheck (v : Nat) : Option Abort :=
  let ide := bitOf v 58
  if fld v 60 59 = 3 then some abReserved
  else if !ide && (fld v 28 11 ≠ 0 || fld v 57 40 ≠ 0) then some abReserved
  else if !([0, 1, 4].contains (fld v 63 61)) then some abRange
  else none

/-- What the range column says beyond its bounds without naming another object, and the reserved bits (00 R6; 11 R287, R295, R309;
13 R355; 14 R357; 01 R10, R16). -/
def Live.extraCheck (L : Live) (idx sub : Nat) (v : Int) : Option Abort :=
  let k := idx * 256 + sub
  let n := v.toNat
  let range := fun (b : Bool) => if b then none else some abRange
  let reserved := fun (b : Bool) => if b then none else some abReserved
  if k = 0x200002 then range ((1 ≤ n && n ≤ 33) || (65 ≤ n && n ≤ 97) || n == 255)
  else if k = 0x200005 then (if L.isManager then none else some abRo)
  else if k = 0x320004 ∨ k = 0x320109 then range (real32 n).isSome
  else if k = 0x32010A then range (match real32 n with | some x => decide (0 ≤ x) | none => false)
  else if k = 0x320009 then range ([7, 9, 10, 11, 15].contains n)
  else if k = 0x320003 then reserved (fld n 15 14 == 0 && fld n 7 6 == 0)
  else if k = 0x320108 then (if fld n 7 4 ≠ 0 then some abReserved else range (fld n 3 2 != 0))
  else if k = 0x32010B then reserved (fld n 31 24 == 0)
  else if k = 0x201206 then (if fld n 7 4 ≠ 0 then some abReserved else range (n % 2 == 0))
  else if k = 0x220010 ∨ k = 0x220011 then range (!isDefaultCob n)
  else if k = 0x500021 then range (maskOk n)
  else if k = 0x500038 then range (n ≤ 3 || n == 255)
  else if k = 0x44000A then range ([1, 2, 4, 5, 10, 20, 25, 50, 100].contains n)
  else if k = 0x440022 ∨ k = 0x440023 then reserved (fld n 31 30 == 0)
  else if idx = 0x2010 ∨ idx = 0x2011 then
    if sub = 1 then range ([250, 500, 1000].contains n)
    else if sub = 2 then range ([1000, 2000, 4000, 5000].contains n)
    else none
  else if idx = 0x2013 ∨ idx = 0x2014 then filterCheck n
  else if idx = 0x5000 ∧ 0x30 ≤ sub ∧ sub ≤ 0x37 then
    (if fld n 63 40 ≠ 0 then some abReserved else range (fld n 39 32 ≤ 3))
  else if 0x3100 ≤ idx ∧ idx ≤ 0x313F then
    if sub = 3 then reserved (n ≤ 7)
    else if 4 ≤ sub ∧ sub ≤ 7 then reserved (fld n 15 10 == 0)
    else if 0x0A ≤ sub ∧ sub ≤ 0x11 then
      (if coefClass (idx - 0x3100) (sub - 0x0A) = 2 then some abRo else range (real32 n).isSome)
    else none
  else if 0x3201 = idx ∧ 1 ≤ sub ∧ sub ≤ 4 then
    (if fld n 15 10 ≠ 0 then some abReserved
     else range (n % 256 == 255 || (n % 256 ≤ 16 && n / 256 == 0) || (64 ≤ n % 256 && n % 256 < 128)))
  else none

/-- Level a write of this object needs beyond its row: module commands by code (03 R57), the clear (16 R417), activation of a
set with a bedrock-law part (17 R422; the part kinds stand in the staged manifest). -/
def Live.extraLevel (L : Live) (k : Nat) (v : Int) : Nat :=
  if k = 0x20000A then (if 4 ≤ v then 2 else 1)
  else if k = 0x46000D then (if v = 3 then 3 else 1)
  else if k = 0x480002 ∧ v = 2 then
    match L.upd.slots.getD (if L.upd.running = 1 then 1 else 0) none with
    | some sl => if (List.range (byteAt sl.manifest 7)).any (fun i => byteAt sl.manifest (32 + 64 * i) == 7) then 3 else 2
    | none => 2
  else 0

/-- Size of an octet string of fixed length (08 R229; 10 R281; 12 R318; 13 R355; 14 R384; 17 R439). -/
def octSize (k : Nat) : Option Nat :=
  if 0x3600 ≤ k / 256 ∧ k / 256 ≤ 0x360F then some 32
  else if k / 256 = 0x5001 then some 48
  else if 0x4C0010 ≤ k ∧ k ≤ 0x4C0012 then some 32
  else if k = 0x404006 ∨ k = 0x440013 then some 16
  else if k = 0x480012 ∨ k = 0x500010 then some 64
  else if k = 0x4C0002 then some 24
  else if k = 0x4C0003 then some 25
  else if k = 0x500028 then some 8
  else none

/-- Length allowed for an object of octets (12 R316, R318, R324, R326; 14 R371, R372, R378; 17 R421, R424). -/
def blobLengthOk (k n : Nat) : Bool :=
  if (octSize k).isSome then octSize k == some n
  else if k = 0x210010 then n ≤ 4096
  else if 0x210020 ≤ k ∧ k ≤ 0x210027 then n ≤ 128 && n % 4 == 0
  else if k = 0x440020 then n ≤ 1008 && n % 8 == 0
  else if k = 0x440021 then n ≤ 512 && n % 16 == 0
  else if k = 0x480011 then n == 4112
  else true

/-- Entries of a map, each of n bytes. -/
def chunks (n : Nat) (b : Bytes) : List Bytes := (List.range (b.length / n)).map (fun i => slice b (n * i) n)

/-- Does no stretch of an image meet a later one? -/
def apart : List (Nat × Nat) → Bool
  | [] => true
  | x :: xs => xs.all (fun y => decide (x.1 + x.2 ≤ y.1 ∨ y.1 + y.2 ≤ x.1)) && apart xs

/-- An input map entry the logic may have: an object it may read at L2, its size, its place in the image (14 R357, R371). -/
def Live.inEntryOk (L : Live) (e : Bytes) : Bool :=
  match L.findRow (le e 0 2) (byteAt e 2) with
  | .error _ => false
  | .ok r =>
    let size := if r.ty = .oct then (octSize (le e 0 2 * 256 + byteAt e 2)).getD 0 else r.ty.size
    r.acc != .wo && decide (r.rl ≤ 2) && r.ty != .dom && size == byteAt e 3 && decide (1 ≤ byteAt e 3 ∧ byteAt e 3 ≤ 8) &&
      decide (16 ≤ le e 4 2 ∧ le e 4 2 + byteAt e 3 ≤ 1024)

/-- Does the running golden image refuse a write: it takes updates, their sessions' levels and module commands, whose results answer for
themselves (03 R55, R57; DEDUCED, log 201)? -/
def Live.goldenRefuses (L : Live) (k : Nat) : Bool :=
  L.getN 0x20000D == 2 && k / 256 != 0x4800 && k / 256 != 0x4C00 && k != 0x20000A

/-- Is a stage object beyond level L2: the structure of stages 0 to 39 but the hook sources of 10 and 20, and a coefficient that R173
does not mark tunable (07 R162, R173)? -/
def stageLocked (k : Nat) : Bool :=
  let i := k / 256 - 0x3100
  let sub := k % 256
  decide (0x3100 ≤ k / 256 ∧ i < 40) &&
    (if sub ≤ 8 then !(sub == 4 && (i == 10 || i == 20)) else decide (coefClass i (sub - 0x0A) ≠ 0))

/-- An output map entry the logic may have: an object it may write at L2, no safety parameter and none of 0x4040 (14 R357, R372). -/
def Live.outEntryOk (L : Live) (e : Bytes) : Bool :=
  match L.findRow (le e 0 2) (byteAt e 2) with
  | .error _ => false
  | .ok r => r.acc != .ro && decide (r.wl ≤ 2) && r.ty != .dom && r.ty != .oct && r.ty.size == byteAt e 3 &&
      !isSafetyParam (le e 0 2 * 256 + byteAt e 2) && le e 0 2 != 0x4040 && !stageLocked (le e 0 2 * 256 + byteAt e 2) &&
      decide (8 ≤ le e 4 2 ∧ le e 4 2 + byteAt e 3 ≤ 512) && decide (byteAt e 6 ≤ 1 ∧ byteAt e 7 ≤ 1) &&
      (slice e (8 + byteAt e 3) (8 - byteAt e 3)).all (· == 0)

/-- A map of the logic engine is refused whole for one entry (14 R384). -/
def Live.mapOk (L : Live) (k : Nat) (v : Bytes) : Bool :=
  if k = 0x440020 then (chunks 8 v).all L.inEntryOk && apart ((chunks 8 v).map (fun e => (le e 4 2, byteAt e 3)))
  else if k = 0x440021 then (chunks 16 v).all L.outEntryOk
  else true

/-- Does a read list set a reserved field [7:0] of an entry (12 R324), or an input map the reserved bytes of one (14 R371; 00 R6)? -/
def blobReserved (k : Nat) (v : Bytes) : Bool :=
  (decide (0x210020 ≤ k ∧ k ≤ 0x210027) && !(chunks 4 v).all (fun e => byteAt e 0 == 0)) ||
  (k == 0x440020 && !(chunks 8 v).all (fun e => le e 6 2 == 0))

/-- Objects that the configuration parts of a set replace: the safety set, the level keys, the table and the logic banks (17 R420). -/
def isConfigPart (k : Nat) : Bool :=
  isSafetyParam k || (0x4C0010 ≤ k && k ≤ 0x4C0012) || k == 0x380010 || k == 0x380011 || k == 0x440018 || k == 0x440019

/-- Octet strings longer than 64 bytes. -/
def blobLong (k : Nat) : Bool := k == 0x480011 || k == 0x440020 || k == 0x440021 || k == 0x440012

/-- Entries of a read list: index, sub-index (12 R324). -/
def listEntries (v : Bytes) : List (Nat × Nat) :=
  (List.range (v.length / 4)).map (fun i => (le v (4 * i + 2) 2, le v (4 * i + 1) 1))

/-- An entry of a read list names no DOMAIN and nothing longer than 64 bytes (12 R324). -/
def listOk (v : Bytes) : Bool :=
  (listEntries v).all (fun e => match odRow e.1 e.2 with
    | some r => r.ty != .dom && !(r.ty == .oct && blobLong (e.1 * 256 + e.2))
    | none => true)

/-- The checks on arrival, in the order existence, access code, level, type and length, range, reserved bits (12 R319): the abort
code of the first that fails. -/
def Live.arrivalAt (L : Live) (level : Nat) (idx sub : Nat) (value : Bytes) : Option Abort :=
  match L.findRow idx sub with
  | .error e => some e
  | .ok r =>
    let k := idx * 256 + sub
    if r.acc = .ro then some abRo
    else if L.goldenRefuses k then some abState
    else if level < r.wl then some abLevel
    else if L.upd.replaced && isConfigPart k then some abState
    else if r.ty = .dom ∨ r.ty = .oct then
      (if !blobLengthOk k value.length then some abLength
       else if !L.mapOk k value ∨ (0x210020 ≤ k ∧ k ≤ 0x210027 ∧ !listOk value) then some abRange
       else if blobReserved k value then some abReserved else none)
    else if value.length ≠ r.ty.size then some abLength
    else
      let v := r.ty.decode value
      if level < L.extraLevel k v then some abLevel
      else match L.extraCheck idx sub v with
        | some e => some e
        | none => if r.min ≤ v ∧ v ≤ r.max then none else some abRange

/-- The same at a session's level (12 R317). -/
def Live.arrival (L : Live) (s : Sess) (idx sub : Nat) (value : Bytes) : Option Abort := L.arrivalAt (L.levelOf s) idx sub value

/-! ### Between the twins (01 R19; 15 R390 to R393) -/

/-- Data waiting for the partner on a bulk channel (15 R390). -/
def Live.toPartner (L : Live) (channel : Nat) (d : Bytes) : Live :=
  { L with twin := { L.twin with bulk := L.twin.bulk ++ [(channel, d)] } }

/-- A request as it is forwarded: sequence, session, object, the level its session has here, value; the spec gives no layout (log 27). -/
def requestBytes (seq : Nat) (s : Sess) (k level : Nat) (v : Bytes) : Bytes :=
  leBytes 2 seq ++ leBytes 2 s ++ leBytes 3 k ++ leBytes 2 v.length ++ leBytes 1 level ++ v

/-- A request is forwarded on channel 1 with its sequence in this course. -/
def Live.forward (L : Live) (s : Sess) (k : Nat) (v : Bytes) : Live :=
  let L := L.toPartner 1 (requestBytes L.twin.fwdSeq s k (L.levelOf s) v)
  { L with twin := { L.twin with fwdSeq := L.twin.fwdSeq + 1 } }

/-- A standby twin: its partner holds the token, and the pair's keystone is the partner's (01 R19). -/
def Live.follower (L : Live) : Bool := L.hasPartner && !L.twin.holds && bitOf L.twin.p.token 0

/-- Does the active twin forward its requests: the standby receives them in step and while it resynchronises (15 R391, R398)? -/
def Live.mirrorsOut (L : Live) : Bool := L.twin.holds && (L.twin.pair == 2 || L.twin.pair == 3)

/-- A request that arrives at the active twin's keystone goes to the standby, under the sequence returned (15 R391). -/
def Live.forwardOn (L : Live) (s : Sess) (k : Nat) (v : Bytes) : Live × Option Nat :=
  if L.mirrorsOut ∧ !isTwinLocalWrite k then (L.forward s k v, some L.twin.fwdSeq) else (L, none)

/-- Island i halts: the partner is told and treats this twin as absent, channel B takes FAST_OFF to ABSENT, or to OFF where this twin
holds the token, and the loop opens (18 R450). -/
def Live.haltIsland (L : Live) (i : Nat) : Live :=
  let L := L.toPartner 7 (leBytes 1 3)
  let L := (if L.twin.holds then L.setFast .off else L.setFast .absent).openLoop
  let L := { L with
    twin := { L.twin with pair := 0 }
    dbg := { L.dbg with
      halted := setBit L.dbg.halted i true
      attn := (if L.dbg.session.isSome then setBit L.dbg.attn 1 true else L.dbg.attn) } }
  L.ev 127 6 1 [] (leBytes 1 i)

/-- A breakpoint of kind 2 or 3 is hit and taken as a halt of its island (18 R449). -/
def Live.brkIsland (L : Live) (slot : Nat) : Live :=
  match L.dbg.brk.getD slot none with
  | none => L
  | some b =>
    let L := (L.put 0x4C0025 slot).ev 127 8 0 [] (leBytes 1 slot)
    let L := { L with dbg := { L.dbg with attn := (if L.dbg.session.isSome then setBit L.dbg.attn 0 true else L.dbg.attn) } }
    L.haltIsland (if b.kind = 2 then 0 else fld b.param 31 24)

/-- Breakpoints that events have hit since the last sample instant are taken (18 R449). -/
def Live.takeHits (L : Live) : Live :=
  L.rcd.brkHit.foldl (fun (L : Live) b => L.brkIsland b) { L with rcd := { L.rcd with brkHit := [] } }

/-- Slot of a breakpoint on a stage of the control engine (18 R449). -/
def Live.stageBrk (L : Live) : Option Nat :=
  (List.range 8).find? (fun i => match L.dbg.brk.getD i none with | some b => b.kind == 2 | none => false)

/-- A write that the standby passes to the active twin, to be answered here once it is decided (01 R19, 12 R322). -/
def Live.passOn (L : Live) (s : Sess) (k : Nat) (v : Bytes) : Live :=
  { L.forward s k v with ks := { (L.forward s k v).ks with forwarded := L.ks.forwarded ++ [(s, k)] } }

/-! ### Writes with a row of their own -/

/-- A row's request answered with this code stands among the writes of the course, so that the commit tells the standby its verdict
(15 R391). -/
def Live.noteDone (L : Live) (s : Sess) (k : Nat) (v : Bytes) (fwd : Option Nat) (code : Abort) : Live :=
  if fwd.isNone ∨ L.mode.st = .boot then L
  else { L with ks := { L.ks with
    pend := L.ks.pend ++ [{ sess := s, via := false, key := k, val := v, txn := none, fwd := fwd, done := some code }] } }

/-- A write of object `k` as its own row: at a standby it goes to the active twin, which forwards it to the standby; there it is
refused on arrival, or `f` applies it, and it is answered at once (01 R19; 12 R317; 15 R391; log 4). -/
def Live.asWrite (L : Live) (s : Sess) (k : Nat) (v : Bytes) (refused : Live → Option Abort) (f : Live → Live × Abort) : Live :=
  L.asked s fun L =>
  if L.follower ∧ !isTwinLocalWrite k then L.passOn s k v
  else
    let x := L.forwardOn s k v
    match (if x.1.goldenRefuses k then some abState else refused x.1) with
    | some e => x.1.refuseArrival s e
    | none =>
      let y := f x.1
      (Live.finish y s).noteDone s k v x.2 y.2

/-- What refuses a write below a level. -/
def Live.belowLevel (s : Sess) (level : Nat) (L : Live) : Option Abort := if L.levelOf s < level then some abLevel else none

/-- A command of a command object as its own row: the level is checked, at most 16 are accepted in a course, and the keystone
applies it (12 R317, R321; log 4). -/
def Live.command (L : Live) (s : Sess) (level : Nat) (k : Nat) (v : Bytes) (f : Live → Live × Abort) : Live :=
  L.asWrite s k v (fun L => if L.levelOf s < level then some abLevel else if 16 ≤ L.ks.commands then some abLimit else none)
    (fun L => f { L with ks := { L.ks with commands := L.ks.commands + 1 } })

end Sys2Proof.Machine
end

