-- ==== Sys2Proof/Machine/ConvOps.lean ====
section
/-! DEFINITION. String conversion, the shared operations: voltages, headroom, limits, ramp, duties and the pulse rule, phase
slots, and how a segment leaves and returns to the active set (06 R114 to R147). -/

namespace Sys2Proof.Machine

/-! ### Segments -/

/-- Image of a cell model table bank (08 R230). -/
def Live.bankImage (L : Live) (b : Nat) : Bytes := L.blobOf (0x380010 + b)

/-- The active bank (08 R206). -/
def Live.bank (L : Live) : Nat := L.getN 0x380001

/-- Image of the active bank; empty where it holds none. -/
def Live.table (L : Live) : Bytes := L.bankImage L.bank

/-- Segment s. -/
def Live.segAt (L : Live) (s : Nat) : Seg := L.seg.getD s {}

/-- Change segment s. -/
def Live.modSeg (L : Live) (s : Nat) (f : Seg → Seg) : Live := { L with seg := L.seg.modify s f }

/-- Key of an object of segment s. -/
def segKey (s sub : Nat) : Nat := (0x3400 + s) * 256 + sub

/-- Voltage of segment s, V: the VSEG last reported (05 R96, 06 R114). -/
def Live.vSeg (L : Live) (s : Nat) : Rat :=
  let v := (L.segAt s).vseg
  if v = 65535 then 0 else q (2 * v : Int) / 1000

/-- Sum of the segment voltages over a set. -/
def Live.vSum (L : Live) (a : List Nat) : Rat := sumQ (a.map L.vSeg)

/-- Lowest segment voltage of a set, 0 where it is empty. -/
def Live.vMin (L : Live) (a : List Nat) : Rat :=
  match a with
  | [] => 0
  | s :: ss => ss.foldl (fun m t => minQ m (L.vSeg t)) (L.vSeg s)

/-- V_nom in V (06 R148). -/
def Live.vNom (L : Live) : Rat := q (L.ctl 0x300006) / 1000

/-- Segments that are fitted (05 R113). -/
def Live.fittedSegs (L : Live) : List Nat := (List.range 16).filter L.fittedCtl

/-- The segment command committed last of those that wait (06 R150). -/
def Seg.lastCmd (g : Seg) : Option Nat := (g.segNext.orElse (fun _ => g.segCmd)).map (·.1)

/-- Is the segment excluded once the commands that wait are carried over (06 R150)? -/
def Seg.carried (g : Seg) : Bool :=
  match g.lastCmd with
  | some 1 => true
  | some 2 => false
  | _ => g.excluded

/-- Does a thermal cause keep segment s out of A at a start: a cell shutdown level held, or a thermal bypass that no segment command has
cleared (09 R237)? A carried-over command 2 counts. -/
def Live.thermOut (L : Live) (s : Nat) : Bool :=
  let g := L.segAt s
  ((L.th.seg.getD s []).take 8).any (·.lev.2.2) || (g.cause == 6 && !(g.lastCmd == some 2))

/-- Is the node of segment s being updated, so that it must not modulate (17 R429)? -/
def Live.inUpdate (L : Live) (s : Nat) : Bool := L.upd.nodeSeg.map (·.1) == some s

/-- Could segment s enter A at a start: fitted, link state 3 or 5, not excluded, a carried-over segment command counted, no thermal
cause, its node not being updated (03 R57, 06 R150, 09 R237, 17 R429)? -/
def Live.mayStart (L : Live) (s : Nat) : Bool :=
  let g := L.segAt s
  L.fittedCtl s && (g.link == 3 || g.link == 5) && !g.carried && !L.thermOut s && !L.inUpdate s

/-- Segments that could enter A at a start. -/
def Live.startSet (L : Live) : List Nat := (List.range 16).filter L.mayStart

/-- Segment SoC as an object value, 0.01 %. -/
def Live.socOf (L : Live) (s : Nat) : Nat := (roundQ ((L.est.seg.getD s {}).soc * 10000)).toNat

/-- Segment voltage as its object 0x3400+s:08, mV; not available by 00 R4 where VSEG is (06 R150). -/
def segMv (g : Seg) : Nat := if g.vseg = 65535 then 0xFFFFFFFF else 2 * g.vseg

/-- A segment conversion event: payload epoch, N_active, SoC and voltage (06 R151). -/
def Live.convSegEv (L : Live) (s k code cls : Nat) : Live :=
  L.segEv s k code cls (leBytes 8 L.epoch ++ leBytes 1 L.conv.act.length ++ leBytes 2 (L.socOf s) ++ leBytes 4 (segMv (L.segAt s)))

/-- A conversion event of the string (06 R151). -/
def Live.convEv (L : Live) (src code cls : Nat) : Live :=
  L.ev src code cls [] (leBytes 8 L.epoch ++ leBytes 1 L.conv.act.length)

/-! ### Headroom and limits -/

/-- Highest bus voltage of the last 1 s; in BUSV at least the present target (06 R124). -/
def Live.vBusMax (L : Live) : Rat :=
  let m := (L.conv.vMax.map (·.2)).foldl maxQ L.conv.vBus
  if L.conv.mode = 2 then maxQ m (q (L.ctl 0x300004) / 1000) else m

/-- Headroom of a set (06 R124). -/
def Live.headroom (L : Live) (a : List Nat) : Rat :=
  95 / 100 * (q (a.length : Int) - 1) * L.vMin a - L.vBusMax

/-- Fold-back limit, A (06 R127). -/
def Live.foldBack (L : Live) (v : Rat) : Rat :=
  let x := divQ v L.vNom
  if 1 / 2 ≤ x then L.iMax
  else if x ≤ 1 / 10 then 5 / 100 * L.iMax
  else L.iMax * (5 / 100 + 2375 / 1000 * (x - 1 / 10))

/-- Scaling of the limits by headroom, CURRENT and POWER (06 R125). -/
def Live.headScale (L : Live) (h : Rat) : Rat :=
  let b := q (L.ctl 0x300016) / 10000 * L.vNom
  if L.conv.mode = 2 then 1 else if h < 0 then 0 else if h < b then divQ h b else 1

/-- Scale of the limits by temperature (06 R128; 09 R240, R241). -/
def Live.thermScale (L : Live) : Rat :=
  if L.th.zero then 0 else minQ L.th.f (if L.th.half then 1 / 2 else 1)

/-- Both current limits before a shut-down or a safe state lowers them: discharge, charge (06 R128, R129, R144). -/
def Live.limits (L : Live) (h vb : Rat) : Rat × Rat :=
  let m := minQ (minQ L.iMax (L.foldBack vb)) (minQ (L.headScale h * L.iMax) (L.thermScale * L.iMax))
  let z := L.conv.collapse || L.conv.below4
  let d := if z then 0 else minQ m L.est.lim.1
  let c := if z || L.th.chRefused then 0 else minQ m L.est.lim.2
  (maxQ d 0, maxQ c 0)

/-! ### Ramp -/

/-- The ramp of one sample from its present value (06 R132). -/
def ramp (r target lo hi s : Rat) : Rat :=
  let r := minQ (maxQ r lo) hi
  let t := minQ (maxQ target lo) hi
  if absQ (t - r) ≤ s then r + (t - r) else if r < t then r + s else r - s

/-- Slew of a mode in its unit per sample of 10 µs: A, W or V (06 R132, R148). -/
def Live.slew (L : Live) (mode : Nat) : Rat :=
  if mode = 0 then q (L.ctl 0x300007) / 1000 / 100
  else if mode = 1 then q (L.ctl 0x300008) / 100
  else q (L.ctl 0x300009) / 1000 / 100

/-- Bounds of the mode quantity (06 R132). -/
def Live.rampBounds (L : Live) (mode : Nat) (dis ch vb : Rat) : Rat × Rat :=
  if mode = 0 then (-ch, dis)
  else if mode = 1 then (-(ch * vb), dis * vb)
  else
    let a := L.conv.act
    (0, minQ (11 / 10 * L.vNom) (95 / 100 * (q (a.length : Int) - 1) * L.vMin a))

/-- Target of a mode: its set-point object, which a dispatch step also sets, in A, W or V; 0 in manager silence (01 R17, R18; 06 R130;
13 R346). DESIGN CHOICE (log 186): in manager silence a BUSV string keeps the voltage target 0x3000:04, which R18 gives it under
either source, and so does not come to zero current; and the silence overrides the target alone, 0x3000:02 and :03 keep the last
dispatched value, from which a change of source to direct ramps on. -/
def Live.target (L : Live) (mode : Nat) : Rat :=
  let direct := L.ctl 0x200007 == 1
  if mode = 0 then
    q (if !direct && L.time.silence then 0 else L.ctl 0x300002) / 1000
  else if mode = 1 then
    q (if !direct && L.time.silence then 0 else L.ctl 0x300003)
  else q (L.ctl 0x300004) / 1000

/-- Droop in Ω (06 R130). -/
def Live.droop (L : Live) : Rat := q (L.ctl 0x300005) / 1000

/-- Mean string current over the last 1 ms (06 R130). -/
def Live.iAvg1 (L : Live) : Rat :=
  let l := L.conv.iAvg
  if l.isEmpty then L.conv.i else sumQ l / q (l.length : Int)

/-- The measured value of a mode's quantity, from which a bumpless start ramps (06 R131). -/
def Live.measured (L : Live) (mode : Nat) : Rat :=
  if mode = 0 then L.conv.i
  else if mode = 1 then L.conv.vBus * L.conv.i
  else L.conv.vBus + L.droop * L.conv.i

/-! ### Duties -/

/-- Raw offset of a segment: balancing grant and I²t term, within ±5 % (06 R115, R141, R150 sub 04). -/
def Live.rawOffset (L : Live) (rho : Rat) (s : Nat) : Rat :=
  clampQ (-5 / 100) (5 / 100) ((L.segAt s).grant + clampQ (-1 / 100) (1 / 100) (-(1 / 4) * (rho - 1)))

/-- RMS_k (06 R141). -/
def Live.rms (L : Live) (s : Nat) : Rat := sqrtQ (L.segAt s).q

/-- RMS current of a segment over its closed buckets, A (06 R141, R150 sub 07). -/
def Live.rmsHour (L : Live) (s : Nat) : Rat :=
  let b := (L.segAt s).buckets
  sqrtQ (sumQ b / q (max b.length 1 : Nat))

/-- ρ_k: RMS_k over the mean of RMS over A (06 R141). -/
def Live.rho (L : Live) (s : Nat) : Rat :=
  let a := L.conv.act
  let m := sumQ (a.map L.rms) / q (max a.length 1 : Nat)
  if a.isEmpty then 1 else divQ (L.rms s) m

/-- Duties of A before the pulse rule: common duty and neutral offsets (06 R115). -/
def Live.duties (L : Live) (vins : Rat) : Rat × List (Nat × Rat) :=
  let a := L.conv.act
  let sv := L.vSum a
  let d := clampQ 0 1 (divQ vins sv)
  let raw := a.map (fun s => (s, L.rawOffset (L.rho s) s))
  let corr := divQ (sumQ (raw.map (fun x => x.2 * L.vSeg x.1))) sv
  (d, raw.map (fun x => (x.1, clampQ 0 1 (d + (x.2 - corr)))))

/-- Is the segment inserted from carrier phase u on (in 2 × NACT × 10 µs = 1) with duty d: a crossing at u itself has happened (05
R94)? -/
def insertedFrom (d u : Rat) : Bool := decide (u < d / 2) || decide (0 < d ∧ 1 - d / 2 ≤ u)

/-- Is it inserted up to carrier phase u: a crossing at u itself is still to come (05 R94)? -/
def insertedTo (d u : Rat) : Bool := decide (0 < d ∧ u ≤ d / 2) || decide (1 - d / 2 < u)

/-- An instant within a superframe, in 10 µs, rounded to the nearest 2 ns (05 R95). -/
def round2ns (x : Rat) : Rat := q (roundQ (x * 5000)) / 5000

/-- Edges of one superframe in units of 10 µs after its start, with the state before: the crossings of R94 that fall into it, and
one at 0 where the new duty puts the segment in the other state; each rounded to 2 ns (05 R94, R95). -/
def edgesOf (before : Bool) (cidx pslot nact : Nat) (d : Rat) : List Rat × Bool :=
  let n : Rat := q (2 * nact : Int)
  let u0 := q ((cidx + 2 * nact - 2 * pslot % (2 * nact)) % (2 * nact) : Nat) / n
  let u1 := u0 + 1 / n
  let at0 := if insertedFrom d u0 != before then [(0 : Rat)] else []
  let cross := if d ≤ 0 ∨ 1 ≤ d then [] else [d / 2, 1 - d / 2].filter (fun c => decide (u0 < c) && decide (c < u1))
  (at0 ++ cross.map (fun c => round2ns ((c - u0) * n)), insertedTo d u1)

/-- The near-0 and near-1 part of the pulse rule (06 R120): t_min = 1.5 µs. -/
def pulseEnds (nact : Nat) (d : Rat) : Rat :=
  let e := divQ (15 / 10) (q (20 * nact : Int))
  if d < e then 0 else if 1 - e < d then 1 else d

/-- Do two edges fall less than t_min apart, the last of the superframe before included (06 R120)? Times in 10 µs. -/
def closeEdges : Option Rat → List Rat → Bool
  | _, [] => false
  | none, e :: es => closeEdges (some e) es
  | some p, e :: es => decide (e - p < 15 / 100) || closeEdges (some e) es

/-- Fraction of a superframe for which the segment is inserted, from its edges (06 R141). -/
def fractionOf (start : Bool) : List Rat → Rat → Rat
  | [], t => if start then 1 - t else 0
  | e :: es, t => (if start then e - t else 0) + fractionOf (!start) es e

/-- Round a duty to DUTY (06 R115). -/
def dutyWord (d : Rat) : Nat := (roundQ (d * 65535)).toNat

/-- One segment's duty through the pulse rule: DUTY, time of its last edge, inserted fraction, state at the end. `base` is the
start of the governed superframe in 10 µs. -/
def pulse (g : Seg) (base : Nat) (cidx pslot nact : Nat) (before : Bool) (d : Rat) : Nat × Option Int × Rat × Bool :=
  let d := pulseEnds nact d
  let last := g.lastEdge.map (fun t => q t / 1000000 / 10 - q (base : Int))
  let w := dutyWord d
  let try_ := edgesOf before cidx pslot nact (q (w : Int) / 65535)
  let use := if closeEdges last try_.1 then g.duty else w
  let e := edgesOf before cidx pslot nact (q (use : Int) / 65535)
  let le := match e.1.getLast? with
    | some x => some (roundQ ((x + q (base : Int)) * 10000000))
    | none => g.lastEdge
  (use, le, fractionOf before e.1 0, e.2)

/-! ### Phase slots -/

/-- One step of the Galois LFSR (06 R122). -/
def lfsrStep (x : Nat) : Nat := if x % 2 = 1 then (x / 2) ^^^ 0xB400 else x / 2

/-- Swap two places of a list. -/
def swap (l : List Nat) (i j : Nat) : List Nat := (l.set i (l.getD j 0)).set j (l.getD i 0)

/-- The permutation loop for i down to 1 (06 R122). -/
def permLoop : Nat → Nat → List Nat → Nat × List Nat
  | 0, x, p => (x, p)
  | i + 1, x, p =>
    let x := lfsrStep x
    permLoop i x (swap p (i + 1) (x % (i + 2)))

/-- Draw a permutation: the state after exactly 16 steps, and the permutation (06 R122). -/
def drawPerm (nact x : Nat) : Nat × List Nat :=
  let r := permLoop (nact - 1) x (List.range nact)
  (iter lfsrStep (16 - (nact - 1)) r.1, r.2)

/-- The slots of an arrangement of A: ranks for 4 to 7, else the permutation; the LFSR as drawn (06 R121, R122). -/
def arrangement (a : List Nat) (x : Nat) : Nat × List (Nat × Nat) :=
  if a.length < 8 then (x, a.zipIdx)
  else
    let r := drawPerm a.length x
    (r.1, (a.zipIdx).map (fun y => (y.1, r.2.getD y.2 0)))

/-- Fix a new arrangement for A at a carrier boundary (06 R119, R123), with event 37 code 2 where NACT changes. 0x3000:2C takes the LFSR
as the draw's 16 steps leave it (06 R148; DESIGN CHOICE, log 206). -/
def Live.arrange (L : Live) : Live :=
  let a := L.conv.act
  if a.length < 4 then L
  else
    let r := arrangement a L.conv.lfsr
    let old := L.conv.nact
    let L := { L with conv := { L.conv with lfsr := r.1, slots := r.2, nact := a.length, periods := 0, dirty := false } }
    let L := if 8 ≤ a.length then L.put 0x30002C r.1 else L
    if old = a.length then L else L.convEv 37 2 0

/-- Seed of the LFSR (06 R123). -/
def Live.seed (L : Live) : Nat :=
  if L.getN 0x300015 = 0 then 0x5A5A ^^^ (257 * L.lower) % 65536 else L.getN 0x300015

/-! ### Leaving and returning -/

/-- Rescale D when A changes (06 R142, R145). -/
def Live.rescale (L : Live) (old : List Nat) : Live :=
  let n := L.vSum L.conv.act
  { L with conv := { L.conv with d := if n = 0 then L.conv.d else clampQ 0 1 (L.conv.d * L.vSum old / n) } }

/-- Conversion state of a segment (06 R150). -/
def Live.convState (L : Live) (s : Nat) : Nat :=
  let g := L.segAt s
  if !L.fittedCtl s then 0
  else if L.conv.act.contains s then 1
  else if g.stat % 8 = 6 ∨ g.cause = 8 then 5
  else if g.cause = 3 then 2
  else if 4 ≤ g.cause then 4
  else 3

/-- A bypass decision enters the journal, open until it stands in a committed snapshot (17 R438 class 4); the standby holds the active
twin's entries instead (17 R437). -/
def Live.jBypass (L : Live) (s kind : Nat) : Live :=
  if L.shadow then L else L.jwrite 4 false false ([s, kind, (L.segAt s).cause, L.convState s].map (BitVec.ofNat 8))

/-- Take a segment out of A at a carrier boundary (06 R142): kind 0 planned, 1 resting. -/
def Live.leave (L : Live) (s kind cause : Nat) : Live :=
  let old := L.conv.act
  let L := { L with conv := { L.conv with act := old.filter (· != s), dirty := true } }
  let L := (L.modSeg s (fun g => { g with
    cause := cause
    excluded := g.excluded || cause == 1
    restDir := L.conv.dir
    segCmd := none })).rescale old
  (L.convSegEv s 7 (if kind = 1 then 3 else 1) 0).jBypass s kind

/-- Put a segment back into A at a carrier boundary (06 R145). -/
def Live.rejoin (L : Live) (s : Nat) : Live :=
  let old := L.conv.act
  let resting := (L.segAt s).cause == 3
  let a := (List.range 16).filter (fun x => old.contains x || x == s)
  let L := { L with conv := { L.conv with act := a, dirty := true } }
  let L := (L.modSeg s (fun g => { g with cause := 0, segCmd := none, excluded := false, confirm := none })).rescale old
  (L.convSegEv s 7 (if resting then 3 else 1) 0).jBypass s 3

/-- Would a planned bypass break R142? -/
def Live.bypassRefused (L : Live) (s : Nat) : Bool :=
  let a := L.conv.act.filter (· != s)
  a.length < 4 || decide (L.headroom a < 0)

/-- Is every cell of the segment below its shutdown level, fewer than three of its sensors suspect, and every cell inside the charging
range while the string charges (09 R237, R240, R243)? -/
def Live.tempReturn (L : Live) (s : Nat) : Bool :=
  let img := L.table
  let ss := (L.th.seg.getD s []).take 8
  let charging := decide (L.conv.dir < 0)
  decide ((ss.filter (·.suspect)).length < 3) && ss.all (fun x => !x.lev.2.2) &&
  (!charging || img.isEmpty || ss.all (fun x => match x.use with
    | some t => decide (q (hdrT img 3) ≤ t ∧ t ≤ q (hdrT img 4))
    | none => !x.suspect))

/-- The conditions of a return, the cause cleared: no bridge fault in BSTATE, no safety flag, temperatures, after a hard bypass the latch
released, and no update of the node (05 R105; 06 R142, R145; 17 R429). -/
def Live.mayReturn (L : Live) (s : Nat) : Bool :=
  let g := L.segAt s
  let a := L.conv.act
  let soc := fun k => (L.est.seg.getD k {}).soc
  let mean := sumQ (a.map soc) / q (max a.length 1 : Nat)
  let a' := (List.range 16).filter (fun x => a.contains x || x == s)
  L.fittedCtl s && (g.link == 3 || g.link == 5) && g.sflags == 0 && g.bstate / 4 % 8 == 0 && L.tempReturn s &&
  !g.hard && g.stat % 8 != 6 && !L.inUpdate s &&
  (a.isEmpty || decide (absQ (soc s - mean) ≤ 1 / 10)) && decide (L.headroom a ≤ L.headroom a')

/-- Fewer than 4 segments left by an unplanned bypass: limits 0, event 37 code 1, and a disable on the module's own behalf, session
0 standing for the module (06 R144). -/
def Live.belowFour (L : Live) : Live :=
  if L.conv.act.length < 4 ∧ !L.conv.below4 then
    let own : Pend := { sess := 0, via := false, key := 0x20000A, val := [2], txn := none }
    let L := { L with
      conv := { L.conv with below4 := true }
      ks := { L.ks with pend := L.ks.pend ++ [own] } }
    L.convEv 37 1 2
  else L

/-- Unplanned bypass of a segment (06 R142, R143, R144): MODE bypass and SCMD C3H in the next command, slot left empty. Out of A
it only takes the cause. -/
def Live.unplanned (L : Live) (s cause : Nat) : Live :=
  let old := L.conv.act
  if old.contains s then
    let L := { L with conv := { L.conv with act := old.filter (· != s), slots := L.conv.slots.filter (fun x => x.1 != s), dirty := true } }
    let L := (L.modSeg s (fun g => { g with cause := cause, confirm := some 0, segCmd := none })).rescale old
    ((L.convSegEv s 7 2 1).jBypass s 2).belowFour
  else if L.fittedCtl s ∧ (L.segAt s).cause = 0 ∧ L.driving then L.modSeg s (fun g => { g with cause := cause })
  else L

/-- May the module send the hard-bypass pattern to segment s (05 R104)? Under (a), the pattern to all segments, step 4 of a sequence or a
decision that would leave every fitted segment bypassed, is held back until SSW_FB shows the switch open. -/
def Live.mayPattern (L : Live) (s : Nat) : Bool :=
  let side := if 65 ≤ L.nodeId then 2 else 1
  let toAll := L.stepOf == 4 || L.fittedSegs.all (fun t => t == s || (L.segAt t).hard || segBypassed (L.segAt t))
  let a := L.twin.holds && (L.segAt s).tokRep % 4 == side && (!toAll || L.pins.sswOpen)
  let b := L.pins.sswOpen && L.pins.fastOff == .off && (L.pins.fbKpOpen || L.pins.fbKnOpen)
  L.fromStandby && (a || b)

/-- SAF decides a hard bypass: the burst is sent and the decision held (05 R104, 06 R143). A segment that an unplanned bypass has taken out
keeps that cause, one without a cause gets 8 (06 R150; DESIGN CHOICE, log 208). -/
def Live.hardBypass (L : Live) (s : Nat) : Live :=
  let L := L.modSeg s (fun g => { g with confirm := none, hard := true, cause := if g.cause = 0 then 8 else g.cause })
  let L := if L.mayPattern s then L.emit (.hardBypass s) else L
  L.convSegEv s 7 5 2

/-- A segment command waits for the first carrier boundary from `due` on, behind one that waits already. -/
def Seg.queueCmd (g : Seg) (v due : Nat) : Seg :=
  if g.segCmd.isNone then { g with segCmd := some (v, due) } else { g with segNext := some (v, due) }

/-- Segment commands (06 R150): 1 bypass, 2 return; `due` is the module time from which its carrier boundary counts. -/
def Live.cmdSegment (L : Live) (s v due : Nat) : Except Abort Live :=
  if !L.fitted s then .error abRange
  else if !(L.mode.st = .standby ∨ L.driving) then .error abState
  else if L.mode.st = .standby then .ok (L.modSeg s (fun g => { g with
    cause := if v = 2 ∧ g.cause = 6 ∧ L.tempReturn s then 0 else g.cause
    excluded := v == 1
    segCmd := none
    segNext := none }))
  else if v = 1 ∧ L.conv.act.contains s ∧ L.bypassRefused s then .error abConv
  else .ok (L.modSeg s (fun g => g.queueCmd v due))

/-! ### Start and shut-down -/

/-- T8: entry to PRECHARGE with soft-start phase 1 (03 R52; 06 R123, R131, R133). The first carrier boundary fixes the
arrangement. -/
def Live.startPrecharge (L : Live) : Live :=
  let a := L.startSet
  let seg : List Seg := L.seg.zipIdx.map (fun (x : Seg × Nat) =>
    let g := x.1
    { g with
      excluded := g.carried
      segCmd := none
      segNext := none
      confirm := none
      duty := 0
      lastEdge := none
      frac := 0
      fracQ := []
      ins := false
      restDir := 0
      cause := (if a.contains x.2 then 0 else if g.cause = 6 then 6 else if g.carried then 1 else g.cause) })
  let L := L.setState .precharge 8
  let L := if L.conv.collapse then L.convEv 34 3 0 else L
  let L := if L.getN 0x300001 = L.conv.mode then L else L.convEv 32 1 0
  let seed := L.seed
  let L := { L with
    seg := seg
    mode := { L.mode with pendEnable := none, seq := none }
    conv := { L.conv with
      act := a, slots := [], nact := 0, cidx := 0, lfsr := seed, periods := 0, dirty := true, d := 0, r := 0
      mode := L.getN 0x300001, phase := 1, phaseAt := L.time.clk, closedAt := none, okSince := none
      lowSince := none, highSince := none, collapse := false, below4 := false, shutLim := none, zeroAt := none
      clampSince := none, clampRep := false } }
  (L.setFast .off).closeLoop

/-- The shut-down of R58: step 1, or step 2 where the switch is still open (03 R58; 06 R135). -/
def Live.startShutdown (L : Live) : Live :=
  let step := if L.mode.st = .precharge ∧ L.conv.phase ≤ 3 then 2 else 1
  let L := { L with
    mode := { L.mode with seq := some { kind := .shutdown, step := 1, since := L.time.clk } }
    conv := { L.conv with shutLim := some (absQ L.conv.i), zeroAt := none } }
  if step = 2 then L.toStep2.seqOn else L

/-! ### Limit flags and derating -/

/-- Upper bound of the voltage target in BUSV (06 R125). -/
def Live.busvBound (L : Live) : Rat :=
  95 / 100 * (q (L.conv.act.length : Int) - 1) * L.vMin L.conv.act

/-- The limit flags of 0x3000:2A (06 R149): in every state. -/
def Live.limFlags (L : Live) : Nat :=
  let b := q (L.ctl 0x300016) / 10000 * L.vNom
  let head := if L.conv.mode = 2 then decide (L.busvBound < L.target 2) else decide (L.conv.h < b)
  ofBits [
    head,
    L.th.throttle,
    decide (L.conv.act.length < L.fittedSegs.length),
    L.th.half,
    L.th.chRefused && decide (L.conv.mode ≠ 2) && decide (L.target L.conv.mode < 0),
    decide (L.foldBack L.conv.vBus < L.iMax),
    L.conv.collapse,
    decide (L.est.lim.1 < L.iMax) || decide (L.est.lim.2 < L.iMax),
    !L.conv.queue.isEmpty]

/-- A derating cause becomes active: T10 from RUN; while one is active the 1 s of T11 does not run (03 R52, R53). -/
def Live.derate (L : Live) : Live :=
  if L.mode.st = .run ∨ L.mode.st = .derated then
    if L.limFlags % 32 = 0 then L
    else
      let L := L.setState .derated 10
      { L with mode := { L.mode with derateAt := L.time.clk } }
  else L

end Sys2Proof.Machine
end

