-- ==== Sys2Proof/Machine/ThermCore.lean ====
section
/-! DEFINITION. The cross-checks, substitutes and levels of the temperature sensors (09 R235 to R241), as
functions of one sensor and its neighbours. -/

namespace Sys2Proof.Machine

/-- Insert into an ascending list. -/
def insQ (x : Rat) : List Rat → List Rat
  | [] => [x]
  | y :: ys => if x ≤ y then x :: y :: ys else y :: insQ x ys

/-- Ascending order. -/
def sortQ (l : List Rat) : List Rat := l.foldr insQ []

/-- Median, the mean of the middle two for an even count (09 R238). -/
def medianQ (l : List Rat) : Rat :=
  let s := sortQ l
  let n := s.length
  if n % 2 = 1 then s.getD (n / 2) 0 else (s.getD (n / 2 - 1) 0 + s.getD (n / 2) 0) / 2

/-- Largest of a list, none where it is empty. -/
def maxOpt (l : List Rat) : Option Rat := l.foldl (fun a x => match a with | none => some x | some y => some (maxQ y x)) none

/-- Smallest of a list, none where it is empty. -/
def minOpt (l : List Rat) : Option Rat := l.foldl (fun a x => match a with | none => some x | some y => some (minQ y x)) none

/-- Neighbours of thermistor j (09 R238). -/
def thermNeighbours (j : Nat) : List Nat :=
  [[1, 2, 3, 4], [0, 2, 3, 4], [0, 1, 3, 4], [1, 2, 4, 5], [2, 3, 5, 6], [3, 4, 6, 7], [3, 4, 5, 7], [3, 4, 5, 6]].getD j []

/-- Segments whose bridge sensors are neighbours of those of segment s: the nearest fitted on each side, or at an end the
two nearest on the one side (09 R238). -/
def bridgeSegs (fitted : List Nat) (s : Nat) : List Nat :=
  let below := (fitted.filter (fun x => decide (x < s))).reverse
  let above := fitted.filter (fun x => decide (s < x))
  match below, above with
  | [], a => a.take 2
  | b, [] => b.take 2
  | b :: _, a :: _ => [b, a]

/-- A conclusive check: at least 3 neighbours with a spread of at most 3.0 K; the median, else none (09 R238). -/
def conclusive (ns : List Rat) : Option Rat :=
  if ns.length < 3 then none
  else match maxOpt ns, minOpt ns with
    | some a, some b => if a - b ≤ 30 then some (medianQ ns) else none
    | _, _ => none

/-- Update of the suspect counts of one sensor after its value has been set; `persist` is the persistence time in
evaluations (09 R239). -/
def checkSens (persist : Nat) (ns : List Rat) (s : Sens) : Sens :=
  match s.v with
  | none =>
    let na := s.na + 1
    { s with na := na, clean := 0, suspect := s.suspect || decide (10 ≤ na) }
  | some x =>
    match conclusive ns with
    | none => { s with na := 0 }
    | some m =>
      let dev := absQ (x - m)
      if s.suspect then
        let clean := if dev ≤ 40 then s.clean + 1 else 0
        if 600 ≤ clean then { s with na := 0, clean := 0, fails := 0, suspect := false } else { s with na := 0, clean := clean }
      else if 80 < dev then
        let f := s.fails + 1
        { s with na := 0, fails := f, suspect := decide (persist ≤ f), clean := 0 }
      else { s with na := 0, fails := 0 }

/-- The value used: the own reading, or for a suspect the hottest of its neighbours, else the hottest of its kind (09 R240). -/
def useSens (ns kind : List Rat) (s : Sens) : Sens :=
  { s with use := if s.suspect then (match maxOpt ns with | some x => some x | none => maxOpt kind) else s.v }

/-- A level with hysteresis: entered at or above it, left below it by the hysteresis; an unavailable value keeps it (09 R235). -/
def levelHeld (held : Bool) (lev hyst : Rat) : Option Rat → Bool
  | none => held
  | some x => if lev ≤ x then true else if x < lev - hyst then false else held

/-- The three levels of a sensor (09 R235). -/
def levelSens (w t d hyst : Rat) (s : Sens) : Sens :=
  { s with lev := (levelHeld s.lev.1 w hyst s.use, levelHeld s.lev.2.1 t hyst s.use, levelHeld s.lev.2.2 d hyst s.use) }

/-- Derate factor of a sensor (09 R241); a substitute that is not available gives 0 (09 R240). -/
def factorSens (t d : Rat) (s : Sens) : Rat :=
  match s.use with
  | none => if s.suspect then 0 else 1
  | some x => clampQ 0 1 (divQ (d - x) (d - t))

/-- Close the interval of a node sensor: the mean of at least 200 valid readings; what belongs to the next interval opens it (09
R234). -/
def closeSens (s : Sens) : Sens :=
  { s with
    v := if s.acc.2 < 200 then none else some (q s.acc.1 / q s.acc.2)
    acc := s.next
    next := (0, 0) }

/-- A valid reading goes to the interval being collected, or to the one after it (09 R234). -/
def addSens (later : Bool) (v : Int) (s : Sens) : Sens :=
  if later then { s with next := (s.next.1 + v, s.next.2 + 1) } else { s with acc := (s.acc.1 + v, s.acc.2 + 1) }

end Sys2Proof.Machine
end

