-- ==== Sys2Proof/Machine/EstOps.lean ====
section
/-! DEFINITION. The estimator's shared operations: settings, one cell's update with end points and anchors, segment and string
aggregates, balancing, the check of a table image and the impedance fit (08 R198 to R231; 06 R137, R138). -/

namespace Sys2Proof.Machine

/-! ### Settings -/

/-- The settings in force in EST (08 R227, 04 R80). -/
def Live.estPar (L : Live) : EstPar :=
  { sv := q (L.ctl 0x350005) / 10000
    sq := q (L.ctl 0x350006) / 10000
    uLim := q (L.ctl 0x350007) / 10000
    fresh := L.ctlN 0x350009 * 100
    imax := L.iMax
    holdCount := L.ctl 0x350002 == 1
    gspan := q (L.ctl 0x35000A) / 10000
    restRate := q (L.ctl 0x35000B) / 10000
    kLearn := q (L.ctl 0x350017) / 100
    floorV := q (L.ctl 0x350018) / 1000
    hp := q (L.ctl 0x350016) }

/-- Context of a cell by its global index 32 s + c (08 R207). -/
def Live.ctxAt (L : Live) (g : Nat) : Ctx := L.est.ctx.getD g {}

/-- Change one context. -/
def Live.setCtx (L : Live) (g : Nat) (c : Ctx) : Live := { L with est := { L.est with ctx := L.est.ctx.set g c } }

/-- Estimates of segment s. -/
def Live.segEst (L : Live) (s : Nat) : SegEst := L.est.seg.getD s {}

/-- Change the estimates of a segment. -/
def Live.modEst (L : Live) (s : Nat) (f : SegEst → SegEst) : Live :=
  { L with est := { L.est with seg := L.est.seg.modify s f } }

/-- Cells of a segment: CELLS of the active table (08 R203), 0 without a table. -/
def Live.cellCount (L : Live) : Nat := hdrCells L.table

/-- String estimates exist: a segment is fitted and a cell model table is active (08 R221, R223). -/
def Live.hasEst (L : Live) : Bool := !L.fittedSegs.isEmpty && !L.table.isEmpty

/-- Global indices of the fitted cells in ascending order (08 R207). -/
def Live.fittedCells (L : Live) : List Nat :=
  L.fittedSegs.flatMap (fun s => (List.range L.cellCount).map (fun c => 32 * s + c))

/-- Direction of a cell: that of R136 while its segment is in A, else 0 (08 R198). -/
def Live.cellDir (L : Live) (s : Nat) : Int := if L.conv.act.contains s then L.conv.dir else 0

/-- Thermistor of cell c (09 R232). -/
def thermOf (cells c : Nat) : Nat := 8 * c / max cells 1

/-- Does a temperature lie within the table's grid (08 R209, R213)? -/
def inGrid (img : Bytes) (t : Rat) : Bool :=
  decide ((tempGrid img).getD 0 0 ≤ t ∧ t ≤ (tempGrid img).getD 15 0)

/-! ### Events of one cell -/

/-- An event of the cell update: source, code, class, key, rest. -/
structure CellEv where
  /-- Source. -/
  src : Nat
  /-- Code. -/
  code : Nat
  /-- Class. -/
  cls : Nat
  /-- Identifying items. -/
  key : Bytes
  /-- Other items. -/
  rest : Bytes

/-- Raise the events of a cell, in order. -/
def Live.cellEvs (L : Live) (es : List CellEv) : Live := es.foldl (fun L e => L.ev e.src e.code e.cls e.key e.rest) L

/-- Key bytes of a cell: segment and cell. -/
def cellKey (g : Nat) : Bytes := [g / 32, g % 32].map (BitVec.ofNat 8)

/-- Scaled and saturated to an unsigned field that keeps its last value for not available (00 R4). -/
def satU (bits : Nat) (x : Rat) : Nat := (min (max (roundQ x) 0) (2 ^ bits - 2)).toNat

/-- Scaled and saturated to a signed range, as an unsigned field. -/
def satS (bits : Nat) (lo hi : Int) (x : Rat) : Nat := ofSigned bits (min (max (roundQ x) lo) hi)

/-! ### Capacity, anchors and references -/

/-- One capacity update with its clamp (08 R214). -/
def learn (img : Bytes) (g : Nat) (qm k : Rat) (c : Ctx) : Ctx × List CellEv :=
  let d := k * (qm - c.qc)
  let lim := 5 / 100 * hdrQnom img
  let new := wide (c.qc + clampQ (-lim) lim d)
  ({ c with qc := new },
   { src := 69, code := 1, cls := 0, key := cellKey g,
     rest := leBytes 4 (satU 32 (c.qc * 1000)) ++ leBytes 4 (satU 32 (new * 1000)) } ::
   (if lim < absQ d then [{ src := 69, code := 2, cls := 1, key := cellKey g, rest := [] }] else []))

/-- 30 days in ns (08 R214). -/
def days30 : Nat := 30 * 86400 * 1000000000

/-- Capacity learned at an anchor of a kind (1 empty, 2 full): an opposite-kind pair, else a partial pair (08 R214). -/
def anchorLearn (img : Bytes) (e : EstPar) (now g kind : Nat) (c : Ctx) : Ctx × List CellEv :=
  let val : Rat := if kind = 1 then 0 else 1
  let opp := c.anchor == 3 - kind && decide (now - c.anchorAt ≤ days30)
  match opp, (if kind = 1 then c.since.2 else c.since.1) with
  | true, some n => learn img g (if kind = 1 then n else -n) (if c.disagree then maxQ e.kLearn (1 / 2) else e.kLearn) c
  | _, _ =>
    match c.ref with
    | some (s0, n) =>
      let ds := absQ (s0 - val)
      if 4 / 10 ≤ ds then learn img g (absQ n / ds) (e.kLearn * ds) c else (c, [])
    | none => (c, [])

/-- An anchor (08 R213). -/
def takeAnchor (img : Bytes) (e : EstPar) (hMax : Rat) (now g kind : Nat) (c : Ctx) : Ctx × List CellEv :=
  let r := anchorLearn img e now g kind c
  let c := setSigma (1 / 200) true { r.1 with
    soc := if kind = 1 then 0 else 1
    h := if kind = 1 then -hMax else hMax
    anchor := kind
    anchorAt := now
    since := if kind = 1 then (some 0, r.1.since.2) else (r.1.since.1, some 0)
    ref := none
    disagree := false
    said := 0 }
  (c, r.2)

/-- BLEND after a valid reference that has brought σ_SoC to the limit, unless held in COUNT (08 R210). -/
def toBlend (e : EstPar) (c : Ctx) : Ctx :=
  if !e.holdCount && decide (mat c.p 0 0 ≤ e.uLim * e.uLim) then { c with blend := true } else c

/-- A valid reference of the impedance or window kind: the voltage update with the last interval's values, the change to BLEND,
and a partial pair with the last anchor (08 R210, R214, R219). -/
def reference (img : Bytes) (e : EstPar) (g : Nat) (dir : Int) (c : Ctx) : Ctx × List CellEv :=
  match c.vc, c.tc with
  | some v, some t =>
    let p := cellPar img c.soc t
    let c := match (if inGrid img t && !c.withheld then measure img e p dir c.ic t v c else none) with
      | some c' => { c' with p := boundP c'.p p.hMax }
      | none => c
    let c := toBlend e c
    if mat c.p 0 0 ≤ 1 / 10000 then
      let n := if c.anchor = 1 then c.since.1 else if c.anchor = 2 then c.since.2 else none
      let ds := absQ (c.soc - (if c.anchor = 1 then 0 else 1))
      let r := match n with
        | some n => if 4 / 10 ≤ ds then learn img g (absQ n / ds) (e.kLearn * ds) c else (c, [])
        | none => (c, [])
      ({ r.1 with ref := some (r.1.soc, 0) }, r.2)
    else (c, [])
  | _, _ => (c, [])

/-! ### One cell -/

/-- What the update of one cell takes (08 R201). -/
structure CellIn where
  /-- Global index. -/
  g : Nat
  /-- Cell direction. -/
  dir : Int
  /-- i_c, A. -/
  ic : Rat
  /-- T_c, 0.1 °C. -/
  t : Rat
  /-- v_c, V, none where no set held it. -/
  v : Option Rat
  /-- More than 20 sets missing. -/
  withheld : Bool
  /-- Module time of the update. -/
  now : Nat

/-- The voltage update of an ordinary sweep (08 R209). -/
def blendStep (img : Bytes) (e : EstPar) (p : CellPar) (x : CellIn) (c : Ctx) : Ctx :=
  let fresh := match c.impAge with | some a => decide (a ≤ e.fresh) | none => false
  if c.blend && !x.withheld && (fresh || x.dir == 0) && inGrid img x.t then
    match x.v with
    | some v => (measure img e p x.dir x.ic x.t v c).getD { c with outliers := c.outliers + 1 }
    | none => c
  else c

/-- 300 consecutive outliers (08 R209). -/
def outlierStep (g : Nat) (c : Ctx) : Ctx × List CellEv :=
  if 300 ≤ c.outliers then
    (setSigma (5 / 100) false { c with outliers := 0 }, [{ src := 64, code := 2, cls := 1, key := cellKey g, rest := [] }])
  else (c, [])

/-- Event 68 with its flag where the condition holds (08 R222). -/
def disagreeAt (g code : Nat) (cond : Bool) (c : Ctx) : Ctx × List CellEv :=
  if cond then
    ({ c with disagree := true },
     [{ src := 68, code := code, cls := 1, key := cellKey g,
        rest := leBytes 2 (satS 16 (-5000) 15000 (c.soc * 10000)) ++ leBytes 2 (match c.vc with | some v => satU 16 (v * 10000) | none => 65535) }])
  else (c, [])

/-- The same for a condition that lasts, as it sets in (08 R222). -/
def disagreeStep (g code : Nat) (cond : Bool) (c : Ctx) : Ctx × List CellEv :=
  disagreeAt g code (cond && !bitOf c.said code) { c with said := setBit c.said code cond }

/-- End points, their release, and the anchor at the tenth update (08 R212, R213, R222). -/
def endStep (img : Bytes) (e : EstPar) (hMax : Rat) (x : CellIn) (c : Ctx) : Ctx × List CellEv :=
  let low := x.dir == 1 && (match x.v with | some v => decide (v ≤ hdrVempty img) | none => false)
  let high := x.dir == -1 && (match x.v with | some v => decide (hdrVfull img ≤ v) | none => false)
  let c := { c with
    runClean := ((!low && !high) || (c.emptyRun == 0 && c.fullRun == 0) || c.runClean) && !x.withheld
    emptyRun := if low then min (c.emptyRun + 1) 11 else 0
    fullRun := if high then min (c.fullRun + 1) 11 else 0
    rest := if x.dir = 0 then min (c.rest + 1) 6000 else 0 }
  let c := { c with
    atEmpty := c.atEmpty && x.dir != -1 && decide (c.rest < 6000)
    atFull := c.atFull && x.dir != 1 && decide (c.rest < 6000) }
  let anchorOk := c.runClean && inGrid img x.t && decide (absQ x.ic ≤ hdrIanchor img)
  if c.emptyRun = 10 then
    let r := disagreeAt x.g 2 (decide (5 / 100 ≤ c.soc)) { c with atEmpty := true }
    if anchorOk then
      let a := takeAnchor img e hMax x.now x.g 1 r.1
      (toBlend e a.1, r.2 ++ a.2)
    else r
  else if c.fullRun = 10 then
    let r := disagreeAt x.g 4 (decide (c.soc ≤ 95 / 100)) { c with atFull := true }
    if anchorOk then
      let a := takeAnchor img e hMax x.now x.g 2 r.1
      (toBlend e a.1, r.2 ++ a.2)
    else r
  else
    let r := disagreeStep x.g 1 (!c.atEmpty && decide (c.soc ≤ 0)) c
    let r' := disagreeStep x.g 3 (!r.1.atFull && decide (1 ≤ r.1.soc)) r.1
    (r'.1, r.2 ++ r'.2)

/-- Deepest voltage level (08 R226): entered past it, left past it by the hysteresis. -/
def vLevel (img : Bytes) (hyst v : Rat) (old : Int) : Int :=
  let high := ((List.range 4).filter (fun n => decide (hdrEwh img (n + 1) < v) ||
    (decide ((n : Int) + 1 ≤ old) && decide (hdrEwh img (n + 1) - hyst ≤ v)))).length
  let low := ((List.range 4).filter (fun n => decide (v < hdrEwl img (n + 1)) ||
    (decide (old ≤ -((n : Int) + 1)) && decide (v ≤ hdrEwl img (n + 1) + hyst)))).length
  if 0 < high then (high : Int) else -(low : Int)

/-- Codes of a change of level: left ones, then entered ones (08 R226). -/
def levelCodes (old new : Int) : List (Nat × Nat) :=
  let at_ := fun (l : Int) (n : Nat) => decide ((n : Int) ≤ l)
  let cls := fun (n : Nat) => if 3 ≤ n then 1 else 0
  ([1, 2, 3, 4].filter (fun n => at_ old n && !at_ new n)).map (fun n => (16 + n, cls n)) ++
  ([1, 2, 3, 4].filter (fun n => at_ (-old) n && !at_ (-new) n)).map (fun n => (20 + n, cls n)) ++
  ([1, 2, 3, 4].filter (fun n => !at_ old n && at_ new n)).map (fun n => (n, cls n)) ++
  ([1, 2, 3, 4].filter (fun n => !at_ (-old) n && at_ (-new) n)).map (fun n => (4 + n, cls n))

/-- Voltage levels of one cell with their events on source 128 + 8s + 1 (08 R226). -/
def levelStep (img : Bytes) (hyst : Rat) (x : CellIn) (c : Ctx) : Ctx × List CellEv :=
  match x.v with
  | none => (c, [])
  | some v =>
    let new := vLevel img hyst v c.level
    ({ c with level := new }, (levelCodes c.level new).map (fun y =>
      { src := 129 + 8 * (x.g / 32), code := y.1, cls := y.2, key := cellKey x.g, rest := leBytes 2 (satU 16 (v * 10000)) }))

/-- The reported value of one cell (08 R221, R222). -/
def repStep (e : EstPar) (x : CellIn) (dc : Rat) (c : Ctx) : Ctx :=
  { c with rep := reportEnd c.rep (report e x.dir c.soc c.rep dc) c.atEmpty c.atFull }

/-- The whole update of one cell in a sweep (08 R198 to R226). -/
def cellSweep (img : Bytes) (e : EstPar) (hyst : Rat) (x : CellIn) (c : Ctx) : Ctx × List CellEv :=
  let c := if e.holdCount then { c with blend := false } else c
  let p := cellPar img c.soc x.t
  let old := c.qc
  let c := { predict e p x.dir x.ic c with vc := x.v, tc := some x.t, ic := x.ic, withheld := x.withheld }
  let dc := -(divQ (iEff p x.ic * dtS) (3600 * old))
  let c := { c with dq := dc }
  let c := blendStep img e p x c
  let r1 := outlierStep x.g { c with p := boundP c.p p.hMax }
  let r2 := endStep img e p.hMax x { r1.1 with win := (r1.1.win.1 + r1.1.soc, r1.1.win.2.1 + x.t, r1.1.win.2.2 + 1) }
  let r3 := levelStep img hyst x r2.1
  (repStep e x dc r3.1, r1.2 ++ r2.2 ++ r3.2)

/-! ### Aggregates -/

/-- Index of the smallest value, first in order. -/
def argMin : List (Nat × Rat) → Option (Nat × Rat)
  | [] => none
  | x :: xs => match argMin xs with
    | none => some x
    | some y => if x.2 ≤ y.2 then some x else some y

/-- SoC_int clamped to [0, 1] (08 R223). -/
def soc01 (c : Ctx) : Rat := clampQ 0 1 c.soc

/-- Remaining and room charge of a segment with their limiting cells, from (SoC, Q_c) of its cells (08 R223). -/
def segCharge (cs : List (Rat × Rat)) : Option ((Nat × Rat) × (Nat × Rat)) :=
  let z := cs.zipIdx
  match argMin (z.map (fun x => (x.2, x.1.1 * x.1.2))), argMin (z.map (fun x => (x.2, (1 - x.1.1) * x.1.2))) with
  | some a, some b => some (a, b)
  | _, _ => none

/-- SoC_int of a segment from its two charges (08 R223). -/
def segSoc (x : (Nat × Rat) × (Nat × Rat)) : Rat := divQ x.1.2 (x.1.2 + x.2.2)

/-- Usable energy and room of a segment, Wh (08 R223). -/
def segEnergy (img : Bytes) (x : (Nat × Rat) × (Nat × Rat)) (cs : List Ctx) : Rat × Rat :=
  let t := fun (c : Ctx) => c.tc.getD 250
  (sumQ (cs.map (fun c => x.1.2 * meanOver img (fun s => ocv img 1 s (t c)) (soc01 c - divQ x.1.2 c.qc) (soc01 c))),
   sumQ (cs.map (fun c => x.2.2 * meanOver img (fun s => ocv img 0 s (t c)) (soc01 c) (soc01 c + divQ x.2.2 c.qc))))

/-- Grid temperature nearest 25 °C (08 R224). -/
def tempNear25 (img : Bytes) : Rat :=
  (tempGrid img).foldl (fun a b => if absQ (b - 250) < absQ (a - 250) then b else a) ((tempGrid img).getD 0 0)

/-- E_nom of a segment, Wh (08 R224). -/
def eNom (img : Bytes) : Rat :=
  q (hdrCells img : Int) * hdrQnom img * meanOver img (fun s => ocvMid img s (tempNear25 img)) 0 1

/-- Contexts of the fitted cells of a segment. -/
def Live.segCtx (L : Live) (s : Nat) : List Ctx := (List.range L.cellCount).map (fun c => L.ctxAt (32 * s + c))

/-- Mean inserted fraction of a segment over the last 1 s, at least 0.1 (08 R225). -/
def meanFrac (x : SegEst) : Rat :=
  let n := x.fracs.length
  maxQ (1 / 10) (if n = 0 then 0 else sumQ x.fracs / q (n : Int))

/-- Limits of a segment in the cells' direction (08 R225). -/
def segLimits (img : Bytes) (e : EstPar) (dir : Int) (d : Rat) (cs : List Ctx) : Rat × Rat :=
  let ls := cs.filterMap (fun c => match c.vc, c.tc with
    | some v, some t => some (cellLimits img e dir c.ic t v d c)
    | _, _ => none)
  let least := fun (l : List Rat) => (minOpt l).getD (e.imax * d)
  (clampQ 0 e.imax (least (ls.map (·.1)) / d), clampQ 0 e.imax (least (ls.map (·.2)) / d))

/-! ### Balancing -/

/-- Wanted balancing term (06 R137): gain in 0.01 % duty per % SoC. -/
def wanted (k thr : Rat) (dir : Int) (dev : Rat) : Rat :=
  if absQ dev < thr then 0 else clampQ (-5 / 100) (5 / 100) (k * dev * q dir)

/-- Order of the segments outside the queue: descending |deviation| × age, ties to the lower number (06 R138). -/
def insRank (x : Nat × Rat) : List (Nat × Rat) → List (Nat × Rat)
  | [] => [x]
  | y :: ys => if y.2 < x.2 then x :: y :: ys else y :: insRank x ys

/-- Grant terms in order while budget remains (06 R138). -/
def grantTerms (want : Nat → Rat) : List Nat → Rat → List (Nat × Rat)
  | [], _ => []
  | s :: ss, b =>
    let w := want s
    let g := if absQ w ≤ b then w else if w < 0 then -b else b
    (s, g) :: grantTerms want ss (b - absQ g)

/-- Balancing at an estimator update (06 R137, R138, R140). -/
def Live.balance (L : Live) : Live :=
  let a := L.conv.act
  let dir := L.conv.dir
  let mean := sumQ (a.map (fun s => (L.segEst s).soc)) / q (max a.length 1 : Nat)
  let dev := fun (s : Nat) => (L.segEst s).soc - mean
  let thr := q (L.ctl 0x300012) / 10000
  let k := q (L.ctl 0x300011) / 100
  let w := fun (s : Nat) => if a.contains s then wanted k thr dir (dev s) else 0
  let below := fun (s : Nat) => !a.contains s || decide (absQ (dev s) < thr)
  let queue := if dir = 0 then L.conv.queue else L.conv.queue.filter (fun s => !below s)
  let others := ((a.filter (fun s => !queue.contains s)).foldl
    (fun l s => insRank (s, absQ (dev s) * q ((L.segAt s).age : Int)) l) []).map (·.1)
  let grants := grantTerms w (queue ++ others) (q (L.ctl 0x300013) / 10000)
  let grantOf := fun (s : Nat) => ((grants.find? (fun x => x.1 == s)).map (·.2)).getD 0
  let seg : List Seg := L.seg.zipIdx.map (fun (x : Seg × Nat) =>
    let g := x.1
    let s := x.2
    let gr := grantOf s
    if dir = 0 then { g with want := 0, grant := 0 }
    else
      let full := queue.contains s && gr == w s
      let served := if full then g.served + 10 else g.served
      let out := queue.contains s && decide (60000 ≤ served)
      { g with
        want := w s
        grant := gr
        age := if below s || out then 1 else g.age
        served := if queue.contains s && !out then served else 0
        sums := (g.sums.1 + absQ gr, g.sums.2 + absQ (w s)) })
  let stay := queue.filter (fun s => decide ((seg.getD s {}).served ≠ 0) || (seg.getD s {}).age == 16)
  { L with
    seg := seg
    conv := { L.conv with
      queue := if dir = 0 then queue else stay
      running := if dir = 0 then L.conv.running else L.conv.running + 10 } }

/-! ### The check of a table image (08 R205) -/

/-- The first check that fails, 0 where the image is accepted (08 R205). -/
def Live.tableCheck (L : Live) (img : Bytes) : Nat :=
  let at_ := fun (p t s : Nat) => tabEntry img p t s
  let zero := fun (o n : Nat) => (slice img o n).all (· == 0)
  let ew := [hdrEwl img 4, hdrEwl img 3, hdrEwl img 2, hdrEwl img 1, hdrVempty img, hdrVfull img, hdrEwh img 1, hdrEwh img 2,
    hdrEwh img 3, hdrEwh img 4].map (fun v => roundQ (v * 10000))
  let grid := (List.range 64).map (fun s => (img16 img (96 + 2 * s) : Int))
  let temps := (List.range 16).map (fun t => imgS16 img (224 + 2 * t))
  if img.length ≠ 24836 ∨ crc32c (img.take 24832) ≠ le img 24832 4 then 1
  else if le img 0 4 ≠ 0x43544D42 ∨ img16 img 4 / 256 ≠ 1 ∨ !zero 9 1 ∨ !zero 52 44 then 2
  else if hdrCells img < 8 ∨ 32 < hdrCells img ∨
      L.fittedSegs.any (fun s => (L.segAt s).cellsN != 0 && (L.segAt s).cellsN != hdrCells img) then 3
  else if !ascending grid ∨ !ascending temps ∨ grid.getD 0 0 ≠ 0 ∨ grid.getD 63 0 ≠ 10000 then 4
  else if !((List.range 12).all (fun p => allPoints (entryOk img p))) then 5
  else if !(allPoints (fun t s => (s == 63 || (decide (at_ 0 t s ≤ at_ 0 t (s + 1)) && decide (at_ 1 t s ≤ at_ 1 t (s + 1)))) &&
      decide (at_ 1 t s ≤ at_ 0 t s) && decide (at_ 5 t s < at_ 7 t s * 100))) then 6
  else if !ascending (L.get 0x402002 :: (ew ++ [L.get 0x402001])) then 7
  else if !(decide (hdrT img 0 < hdrT img 1) && decide (hdrT img 1 < hdrT img 2) && decide (hdrT img 3 < hdrT img 4) &&
      decide (hdrT img 4 ≤ hdrT img 1)) then 8
  else if L.driving ∧ (hdrChem img ≠ hdrChem L.table ∨ hdrCells img ≠ hdrCells L.table) then 9
  else 0

/-! ### Impedance -/

/-- m_i of the multisine (07 R187). -/
def toneM : List Nat := [5, 17, 53, 169, 539, 1703, 5273, 9913]

/-- cos and sin of the reference phase of tone i at a control epoch (08 R216): set s of a window lies at epoch 5s after its start. -/
def refPhase (i epoch : Nat) : Rat × Rat :=
  let x := q ((toneM.getD i 0 * epoch) % 1000000 : Nat) / 1000000
  (sinTurn (x + 1 / 4), sinTurn x)

/-- A complex quotient with its sign turned: Z = −V / I (08 R218). -/
def zOf (v i : Rat × Rat) : Rat × Rat :=
  let d := i.1 * i.1 + i.2 * i.2
  (-(divQ (v.1 * i.1 + v.2 * i.2) d), -(divQ (v.2 * i.1 - v.1 * i.2) d))

/-- 1 / (1 + j w): real and imaginary part (08 R218). -/
def rcPart (w : Rat) : Rat × Rat := (1 / (1 + w * w), -(w / (1 + w * w)))

/-- The three model columns at a tone: real and imaginary (08 R218). -/
def fitRow (p : CellPar) (i : Nat) : (Rat × Rat × Rat) × (Rat × Rat × Rat) :=
  let w := 2 * Config.pi * q (toneM.getD i 0 : Int) / 10
  let a := rcPart (w * p.t1)
  let b := rcPart (w * p.t2)
  (((p.rsCh + p.rsDis) / 2, p.rp1 * a.1, p.rp2 * b.1), (0, p.rp1 * a.2, p.rp2 * b.2))

/-- Determinant of three rows. -/
def det3 (a b c : Rat × Rat × Rat) : Rat :=
  a.1 * (b.2.1 * c.2.2 - b.2.2 * c.2.1) - a.2.1 * (b.1 * c.2.2 - b.2.2 * c.1) + a.2.2 * (b.1 * c.2.1 - b.2.1 * c.1)

/-- Weighted least squares over the 16 equations (08 R218): the three factors, none where the fit has no solution or is refused. -/
def fitAlpha (p : CellPar) (z : List (Rat × Rat)) : Option (Rat × Rat × Rat) :=
  let eqs := (z.zipIdx).flatMap (fun x =>
    let r := fitRow p x.2
    let w := divQ 1 (x.1.1 * x.1.1 + x.1.2 * x.1.2)
    [(r.1, x.1.1, w), (r.2, x.1.2, w)])
  let sum := fun (f : (Rat × Rat × Rat) × Rat × Rat → Rat) => sumQ (eqs.map f)
  let dot := fun (f g : Rat × Rat × Rat → Rat) => sum (fun e => f e.1 * g e.1 * e.2.2)
  let c0 := fun (r : Rat × Rat × Rat) => r.1
  let c1 := fun (r : Rat × Rat × Rat) => r.2.1
  let c2 := fun (r : Rat × Rat × Rat) => r.2.2
  let r0 := (dot c0 c0, dot c0 c1, dot c0 c2)
  let r1 := (dot c1 c0, dot c1 c1, dot c1 c2)
  let r2 := (dot c2 c0, dot c2 c1, dot c2 c2)
  let y := (sum (fun e => c0 e.1 * e.2.1 * e.2.2), sum (fun e => c1 e.1 * e.2.1 * e.2.2), sum (fun e => c2 e.1 * e.2.1 * e.2.2))
  let d := det3 r0 r1 r2
  if d = 0 ∨ z.any (fun x => x.1 == 0 && x.2 == 0) then none
  else
    -- Cramer's rule; the matrix is symmetric, so its rows are its columns.
    let a0 := det3 y r1 r2 / d
    let a1 := det3 r0 y r2 / d
    let a2 := det3 r0 r1 y / d
    let res := sum (fun e => let d := e.1.1 * a0 + e.1.2.1 * a1 + e.1.2.2 * a2 - e.2.1; d * d * e.2.2) / 16
    let ok := [a0, a1, a2].all (fun a => decide (1 / 2 ≤ a ∧ a ≤ 4))
    if ok && decide (res ≤ 1 / 100) then some (a0, a1, a2) else none

/-- I_imp, A (07 R187). -/
def Live.iImp (L : Live) : Rat := maxQ (L.iMax / 100) 2

/-! ### Sample sets -/

/-- Products of the lock-in of one channel (08 R216). -/
def lockAdd (epoch : Nat) (x : Rat) (acc : List (Rat × Rat)) : List (Rat × Rat) :=
  acc.zipIdx.map (fun y => let r := refPhase y.2 epoch; (y.1.1 + x * r.1, y.1.2 + x * r.2))

/-- The intervals of the sweeps and of the thermal evaluations end at the multiple of `p` before the next 200 µs mark; one whose
number is `last` has ended (08 R201, 09 R234). -/
def intervalEnd (p last mtime : Nat) : Nat := p * max ((mtime - 200000 + p - 1) / p) (last + 1)

/-- Does a sample set or a sample of this module time belong to a later interval than the one the next sweep closes (08 R201, R207)? -/
def Live.laterSweep (L : Live) (t : Nat) : Bool := decide (intervalEnd 10000000 L.twin.esweep L.time.mtime ≤ t)

/-- Does a sample set of this module time belong to a later interval than that of the next thermal evaluation (09 R234)? -/
def Live.laterTherm (L : Live) (t : Nat) : Bool := decide (intervalEnd 100000000 L.th.last L.time.mtime ≤ t)

/-- One cell of a sample set goes to its interval (08 R201); 0xFFFF is not available. -/
def addCell (later : Bool) (v : Nat) (c : Ctx) : Ctx :=
  match later, v == 65535 with
  | false, true => { c with na := c.na + 1 }
  | false, false => { c with acc := (c.acc.1 + v, c.acc.2 + 1) }
  | true, true => { c with next := (c.next.1, c.next.2 + 1) }
  | true, false => { c with next := ((c.next.1.1 + v, c.next.1.2 + 1), c.next.2) }

/-- A cell's next interval opens with what already belongs to it. -/
def openCell (c : Ctx) : Ctx :=
  { c with
    acc := c.next.1
    na := c.next.2
    next := ((0, 0), 0) }

/-- A segment's next interval opens with what already belongs to it. -/
def openSeg (x : SegEst) : SegEst :=
  { x with
    sets := 0
    iAcc := x.next.1
    fAcc := x.next.2
    next := ((0, 0), 0)
    temps := x.nextTemps.getD x.temps
    nextTemps := none }

/-- Segment current of a set: the mean of the samples of the 50 µs that end at its instant (08 R216). -/
def setCurrent (epoch : Nat) (now : Rat) (l : List (Nat × Rat)) : Rat :=
  let w := l.filter (fun y => decide (epoch < y.1 + 5 ∧ y.1 ≤ epoch))
  if w.isEmpty then now else sumQ (w.map (·.2)) / q (w.length : Int)

/-- A complete sample set of segment s taken at a control epoch (05 R97, 08 R201, R216; 09 R234). -/
def Live.takeSet (L : Live) (s epoch : Nat) (cells : List Nat) (temps : List Int) : Live :=
  let g := L.segAt s
  let n := L.cellCount
  let later := L.laterSweep (epoch * 10000)
  let iSeg := setCurrent epoch (L.conv.i * g.frac) (L.segEst s).setI
  let ctx := L.est.ctx.zipIdx.map (fun (x : Ctx × Nat) =>
    if x.2 / 32 = s ∧ x.2 % 32 < n then addCell later (cells.getD (x.2 % 32) 65535) x.1 else x.1)
  let laterTh := L.laterTherm (epoch * 10000)
  let L := { L with est := { L.est with ctx := ctx } }
  let L := L.modEst s (fun e => { e with
    sets := e.sets + 1
    lockSets := e.lockSets + 1
    temps := if later then e.temps else temps
    nextTemps := if later then some temps else e.nextTemps
    lockI := lockAdd epoch iSeg e.lockI
    lockV := e.lockV.zipIdx.map (fun y =>
      let v := cells.getD y.2 65535
      if v = 65535 ∨ n ≤ y.2 then y.1 else lockAdd epoch (q (v : Int) / 10000) y.1) })
  { L with th := { L.th with seg := L.th.seg.modify s (fun ss => ss.zipIdx.map (fun (x : Sens × Nat) =>
      let v := temps.getD x.2 (-32768)
      if v = -32768 then x.1 else addSens laterTh v x.1)) } }

end Sys2Proof.Machine
end

