-- ==== Sys2Proof/Machine/Est.lean ====
section
/-! DEFINITION. The meanings of the estimator's commands (08). -/

namespace Sys2Proof.Machine

/-! ### Restarts and banks -/

/-- A restart of the estimator (03 R65): warm from retained MRAM, or cold, each context then waiting for its first measured voltage.
Reported values resume from their retained values; learned capacity and resistance growth survive both. -/
def Live.estRestart (L : Live) (cold : Bool) (from_ : List Ctx) : Live :=
  let ctx := from_.map (fun c =>
    let c := { c with
      acc := (0, 0)
      na := 0
      next := ((0, 0), 0)
      blend := false
      outliers := 0
      win := (0, 0, 0) }
    if cold then c else raiseSigma (2 / 100) c)
  let L := { L with est := { L.est with
    ctx := ctx
    coldCtx := (if cold then List.range 512 else [])
    cold := false
    allBlend := false } }
  if cold then L.ev 64 4 0 [] [] else L.ev 64 3 0 [] []

/-- The bank switch of 08 R206, taken at the start of a sweep. -/
def Live.takeSwitch (L : Live) : Live :=
  match L.est.switchAt with
  | none => L
  | some t =>
    if L.time.mtime < t then L
    else
      let old := L.table
      let L := (L.put 0x380001 (1 - L.bank : Nat))
      let L := { L with est := { L.est with switchAt := none } }
      let new := L.table
      let L := L.ev 65 1 0 [] (leBytes 4 (hdrId new))
      if hdrChem new ≠ hdrChem old ∨ hdrCells new ≠ hdrCells old then L.estRestart true L.est.ctx
      else { L with est := { L.est with ctx := L.est.ctx.map (raiseSigma (1 / 100)) } }

/-! ### The sweep -/

/-- T_c: the assigned thermistor in the last sample set of the interval, or its substitute while suspect (08 R201; 09 R232, R240). -/
def Live.assigned (L : Live) (s c : Nat) : Option Rat :=
  let j := thermOf L.cellCount c
  let sens := (L.th.seg.getD s []).getD j {}
  let v := (L.segEst s).temps.getD j (-32768)
  if sens.suspect then sens.use else if v = -32768 then none else some (q v)

/-- One cell of the sweep. A cell whose temperature has never been available takes a free value (log 15); a context without a cell is
processed like the others and raises nothing (08 R207). -/
def Live.sweepCell (e : EstPar) (L : Live) (g : Nat) : Live :=
  let s := g / 32
  let img := L.table
  let c := L.ctxAt g
  let se := L.segEst s
  let v := if c.acc.2 = 0 then none else some (q (c.acc.1 : Int) / q (c.acc.2 : Int) / 10000)
  let ic := if se.iAcc.2 = 0 then L.conv.i * (L.segAt s).frac else se.iAcc.1 / q (se.iAcc.2 : Int)
  let fitted := L.fittedSegs.contains s && decide (g % 32 < L.cellCount)
  let now := if fitted then L.assigned s (g % 32) else none
  let na := now.isNone
  let t := match now, c.tc with
    | some t, _ => t
    | none, some t => t
    | none, none => q (Config.freeInt (L.free + g)) / 10
  let L := if 20 < c.na then L.ev (130 + 8 * s) 1 2 (cellKey g) [] else L
  if L.est.coldCtx.contains g then
    match v with
    | some x =>
      let L := L.setCtx g { coldStart img x t c with
        vc := v
        tc := some t
        tNa := na
        ic := ic }
      { L with est := { L.est with coldCtx := L.est.coldCtx.filter (· != g) } }
    | none => L
  else
    let x : CellIn := { g := g, dir := L.cellDir s, ic := ic, t := t, v := v, withheld := decide (c.acc.2 < 180), now := L.time.mtime }
    let r := cellSweep img e (q (L.ctl 0x350015) / 10000) x c
    let L := L.setCtx g { r.1 with tNa := na }
    if fitted then L.cellEvs r.2 else L

/-- The sum of the cell voltages against VSEG, for 1 s (08 R231, k = 2 code 2). -/
def Live.sumCheck (L : Live) (s : Nat) : Live :=
  let vs := (L.segCtx s).map (·.vc)
  let sum := sumQ (vs.map (fun v => v.getD 0))
  let vseg := L.vSeg s
  let off := vs.all (·.isSome) && (L.segAt s).vseg != 65535 && decide (maxQ (vseg / 100) (1 / 2) < absQ (sum - vseg))
  let n := (L.segEst s).sumOff
  let L := L.modEst s (fun x => { x with sumOff := if off then min (n + 1) 101 else 0 })
  if off ∧ n + 1 = 100 then L.segEv s 2 2 2 [] else L

/-- Segment aggregates after the cells (08 R212, R220 to R225). `before` are the cells as they stood before the sweep. -/
def Live.segSweep (e : EstPar) (before : List Ctx) (L : Live) (s : Nat) : Live :=
  let img := L.table
  let cs := L.segCtx s
  let old := (List.range L.cellCount).map (fun c => before.getD (32 * s + c) {})
  match segCharge (cs.map (fun c => (soc01 c, c.qc))),
        segCharge ((old.zip cs).map (fun x => (soc01 x.1, x.2.qc))),
        segCharge ((old.zip cs).map (fun x => (clampQ 0 1 (x.1.soc + x.2.dq), x.2.qc))) with
  | some now, some was, some counted =>
    let se := L.segEst s
    let empty := cs.any (·.atEmpty)
    let full := cs.any (·.atFull)
    let who := fun (f : Ctx → Bool) => [s, (cs.findIdx f)].map (BitVec.ofNat 8)
    let L := if empty && !se.ended.1 then L.ev 72 1 0 (who (·.atEmpty)) [] else L
    let L := if full && !se.ended.2 then L.ev 72 2 0 (who (·.atFull)) [] else L
    let soc := segSoc now
    let en := if L.est.sweeps % 100 = 0 then segEnergy img now cs else (se.eRem, se.eRoom)
    let frac := if se.iAcc.2 = 0 then (L.segAt s).frac else se.fAcc / q (se.iAcc.2 : Int)
    let fracs := (frac :: se.fracs).take 100
    let lim := segLimits img e (L.cellDir s) (meanFrac { se with fracs := fracs }) cs
    L.modEst s (fun x => { x with
      rep := reportEnd se.rep (report e (L.cellDir s) soc se.rep (segSoc counted - segSoc was)) empty full
      soc := soc
      eRem := en.1
      eRoom := en.2
      soh := divQ (now.1.2 + now.2.2) (hdrQnom img)
      limCell := (some now.1.1, some now.2.1)
      lim := lim
      ended := (empty, full)
      fracs := fracs })
  | _, _, _ => L

/-- The charge-counted change of the string: the segments' changes weighted by their energies (08 R221; DEDUCED, log 34). -/
def stringCounted (w : List (Rat × Rat)) : Rat :=
  let t := sumQ (w.map (·.2))
  if t = 0 then 0 else sumQ (w.map (fun x => x.1 * x.2)) / t

/-- A string end point: a segment of A stands at its end point and R142 refuses its resting (06 R146). -/
def Live.stringEnd (L : Live) (f : SegEst → Bool) : Bool :=
  L.conv.act.any (fun s => f (L.segEst s) && L.bypassRefused s)

/-- SoC levels of the string with their events on sources 70 and 71 (08 R226): depth entered. -/
def Live.socLevels (L : Live) : Live :=
  let r := L.est.rep * 10000
  let h := q (L.ctl 0x350014)
  let lo := fun (n : Nat) => q (L.ctl (0x35000B + n))
  let hi := fun (n : Nat) => q (L.ctl (0x35000F + n))
  let old := L.est.socLevel
  let low := ([1, 2, 3, 4].filter (fun n => decide (r < lo n) || (decide (n ≤ old.1) && decide (r ≤ lo n + h)))).length
  let high := ([1, 2, 3, 4].filter (fun n => decide (hi n < r) || (decide (n ≤ old.2) && decide (hi n - h ≤ r)))).length
  let cls := fun (n : Nat) => if 3 ≤ n then 1 else 0
  let evs := fun (src o n : Nat) =>
    ([1, 2, 3, 4].filter (fun k => decide (k ≤ o) && decide (n < k))).map (fun k => (src, 16 + k, cls k)) ++
    ([1, 2, 3, 4].filter (fun k => decide (k ≤ n) && decide (o < k))).map (fun k => (src, k, cls k))
  let L := { L with est := { L.est with socLevel := (low, high) } }
  (evs 70 old.1 low ++ evs 71 old.2 high).foldl (fun L x => L.ev x.1 x.2.1 x.2.2 [] (leBytes 2 (satU 16 r))) L

/-- String aggregates, limits and end points (08 R219, R221 to R226; 06 R146). `was` are the segments' estimates before the sweep. -/
def Live.stringSweep (L : Live) (e : EstPar) (dcs : List (Rat × Rat)) : Live :=
  let img := L.table
  let fit := L.fittedSegs
  if !L.hasEst then L
  else
    let a := L.conv.act
    let rem := sumQ (fit.map (fun s => (L.segEst s).eRem))
    let room := sumQ (fit.map (fun s => (L.segEst s).eRoom))
    let soc := divQ rem (rem + room)
    let refused := a.filter L.bypassRefused
    let lim := fun (f : SegEst → Rat) => ((minOpt (refused.map (fun s => f (L.segEst s)))).getD e.imax)
    let ends := (decide (L.conv.dir = 1) && L.stringEnd (·.ended.1), decide (L.conv.dir = -1) && L.stringEnd (·.ended.2))
    let was := L.est.ended
    let L := if ends.1 && !was.1 then L.ev 72 3 0 [] [] else L
    let L := if ends.2 && !was.2 then L.ev 72 4 0 [] [] else L
    let sigma := (maxOpt (a.flatMap (fun s => (L.segCtx s).map sigmaSoc))).getD 0
    let isOver := decide (e.uLim < sigma)
    ({ L with est := { L.est with
      rep := if rem + room = 0 then L.est.rep else reportEnd L.est.rep (report e L.conv.dir soc L.est.rep (stringCounted dcs)) ends.1 ends.2
      soc := if rem + room = 0 then L.est.soc else soc
      soh := divQ (rem + room) (q (fit.length : Int) * eNom img)
      eRem := rem
      eRoom := room
      lim := (clampQ 0 e.imax (lim (·.lim.1)), clampQ 0 e.imax (lim (·.lim.2)))
      ended := ends
      sigma := sigma
      overSince := (if isOver then some (L.est.overSince.getD L.time.clk) else none)
      overRep := L.est.overRep && isOver } }).socLevels

/-- Event 64 code 1 when the last fitted cell has entered BLEND (08 R210). -/
def Live.blendCheck (L : Live) : Live :=
  let all := !L.fittedCells.isEmpty && L.fittedCells.all (fun g => (L.ctxAt g).blend)
  let was := L.est.allBlend
  let L := { L with est := { L.est with allBlend := all } }
  if all && !was then L.ev 64 1 0 [] [] else L

/-- An optional quantity of the digest: whether it is there, and its value. -/
def optQ (x : Option Rat) : List Rat := match x with | some v => [1, v] | none => [0, 0]

/-- A whole number of the digest. -/
def natQ (x : Nat) : Rat := q (x : Int)

/-- A cell context in the digest: all that a sweep leaves in it (08 R198, R208 to R222). -/
def Ctx.quantities (c : Ctx) : List Rat :=
  let b := fun (x : Bool) => if x then 1 else 0
  [c.soc, c.v1, c.v2, c.h] ++ c.p ++ [c.qc, c.aS, c.a1, c.a2, c.rep] ++ optQ (c.impAge.map natQ) ++
  [b c.blend, natQ c.outliers, natQ c.emptyRun, natQ c.fullRun, b c.runClean, b c.atEmpty, b c.atFull, natQ c.rest, natQ c.anchor,
   natQ c.anchorAt] ++ optQ c.since.1 ++ optQ c.since.2 ++ optQ (c.ref.map (·.1)) ++ optQ (c.ref.map (·.2)) ++
  [b c.disagree, natQ c.said, b c.withheld, q c.level] ++ optQ c.vc ++ optQ c.tc ++
  [b c.tNa, c.ic, c.dq, c.win.1, c.win.2.1, natQ c.win.2.2]

/-- Quantities of EDIG (08 R211; 15 R395): the contexts, the segment aggregates and the limits, with the reported values. -/
def Live.estDigest (L : Live) : Nat :=
  crc32c (Config.digestBytes (L.est.ctx.flatMap Ctx.quantities ++
    L.est.seg.flatMap (fun x => [x.rep, x.soc, x.eRem, x.eRoom, x.soh, x.lim.1, x.lim.2] ++ optQ (x.limCell.1.map natQ) ++
      optQ (x.limCell.2.map natQ)) ++ [L.est.rep, L.est.lim.1, L.est.lim.2]))

/-- Each fitted segment's change by charge counting, with its weight (08 R221). -/
def Live.countedChanges (L : Live) (before : List Ctx) (w : List (Nat × Rat)) : List (Rat × Rat) :=
  w.map (fun x =>
    let cs := L.segCtx x.1
    let old := (List.range L.cellCount).map (fun c => before.getD (32 * x.1 + c) {})
    match segCharge ((old.zip cs).map (fun y => (soc01 y.1, y.2.qc))),
          segCharge ((old.zip cs).map (fun y => (clampQ 0 1 (y.1.soc + y.2.dq), y.2.qc))) with
    | some a, some b => (segSoc b - segSoc a, x.2)
    | _, _ => (0, x.2))

/-- All 512 contexts in ascending index, whether a cell is fitted or not (08 R207); none without a cell model table. -/
def Live.cellsSweep (L : Live) (e : EstPar) : Live :=
  let L := (if L.table.isEmpty then [] else List.range 512).foldl (fun L g => Live.sweepCell e L g) L
  { L with free := L.free + 512 }

/-- Every fitted segment's aggregates. -/
def Live.segsSweep (L : Live) (e : EstPar) (before : List Ctx) : Live :=
  L.fittedSegs.foldl (fun L s => (Live.segSweep e before L s).sumCheck s) L

/-- The next interval opens (08 R201). -/
def Live.openIntervals (L : Live) : Live :=
  { L with est := { L.est with
    ctx := L.est.ctx.map openCell
    seg := L.est.seg.map openSeg } }

/-- The intervals begin anew and the sweep's digest stands (08 R201, 15 R389). -/
def Live.sweepEnd (L : Live) : Live :=
  let L := L.openIntervals
  let L := { L with est := { L.est with sweeps := L.est.sweeps + 1 } }
  { L with twin := { L.twin with edig := L.estDigest, esweep := L.time.mtime / 10000000 } }

/-- Contexts go to retained MRAM every 1 s (03 R65). -/
def Live.sweepSave (L : Live) : Live := if L.est.sweeps % 100 = 0 then L.saveContexts else L

/-- The whole sweep (08 R207): the bank switch, the contexts, the aggregates, limits and levels, balancing. -/
def Live.sweep (L₀ : Live) : Live :=
  let L := L₀.takeSwitch
  let e := L.estPar
  let w := L.fittedSegs.map (fun s => (s, (L.segEst s).eRem + (L.segEst s).eRoom))
  let L₁ := (L.cellsSweep e).segsSweep e L.est.ctx
  (L₁.stringSweep e (L₁.countedChanges L.est.ctx w)).blendCheck.balance.sweepEnd.sweepSave

/-- The inputs of the ending interval, and the state with the interval begun anew (15 R398; 08 R201). -/
def Live.holdSweep (L : Live) : Live :=
  let h : HeldSweep := {
    cells := L.est.ctx.map (fun (c : Ctx) => (c.acc, c.na))
    segs := L.est.seg.map (fun (x : SegEst) => (x.sets, x.iAcc, x.fAcc, x.temps)) }
  let L := L.openIntervals
  { L with twin := { L.twin with heldSweeps := L.twin.heldSweeps ++ [h] } }

/-- A held interval's inputs are put in place (15 R398). -/
def Live.putInputs (L : Live) (h : HeldSweep) : Live :=
  { L with est := { L.est with
      ctx := (L.est.ctx.zip h.cells).map (fun (x : Ctx × ((Nat × Nat) × Nat)) => { x.1 with
        acc := x.2.1
        na := x.2.2 })
      seg := (L.est.seg.zip h.segs).map (fun (x : SegEst × (Nat × (Rat × Nat) × Rat × List Int)) => { x.1 with
        sets := x.2.1
        iAcc := x.2.2.1
        fAcc := x.2.2.2.1
        temps := x.2.2.2.2 }) } }

/-- ESTIMATOR_SWEEP (08 R207), at the next module time 10 ms × n + 200 µs: a standby whose state image is on its way holds the interval's
inputs instead (15 R398). -/
def execEstimatorSweep (s : State) : Host.Outcome State Fault Refusal :=
  runIn 1 s (fun L =>
    let L := L.toMark (ms 10)
    if L.resyncing then L.holdSweep else L.sweep)

/-! ### Reference windows (08 R219) -/

/-- A reference window is requested: event 67 code 2, 0x3500:27 reads 1, or 2 where the current is quiet already; a window that has
completed in the present quiet time begins anew. -/
def Live.requestWindow (L : Live) (operator : Bool) : Live :=
  let L := { L with est := { L.est with
    reqSince := some L.time.clk
    requested := operator
    quietSince := (if L.est.quietDone then L.est.quietSince.map (fun _ => L.time.clk) else L.est.quietSince)
    quietDone := false
    unmet := false } }
  (L.put 0x350027 (if L.est.quietSince.isSome then 2 else 1)).ev 67 2 0 [] []

/-- UNCERTAINTY_LIMIT_EXCEEDED (08 R219): armed while the uncertainty is above its limit; 60 s later event 67 code 1, and a
request where 0x3500:08 is 1. -/
def execUncertaintyLimitExceeded (s : State) : Host.Outcome State Fault Refusal :=
  runIn 1 s (fun L =>
    match L.est.overSince with
    | some t =>
      if L.est.overRep then L
      else
        let L := L.reach (t + sec 60)
        let L := { L with est := { L.est with overRep := true } }
        let L := L.ev 67 1 1 [] (leBytes 2 (satU 16 (L.est.sigma * 10000)))
        if L.ctl 0x350008 = 1 ∧ L.est.reqSince = none then L.requestWindow false else L
    | none => L)

/-- The end of a reference window: every cell of A takes a voltage update with direction 0 (08 R219). -/
def Live.windowCells (L : Live) : Live :=
  let e := L.estPar
  let img := L.table
  let cells := L.conv.act.flatMap (fun s => (List.range L.cellCount).map (fun c => 32 * s + c))
  (cells.foldl (fun L g =>
    let r := reference img e g 0 (L.ctxAt g)
    (L.setCtx g r.1).cellEvs r.2) L).blendCheck

/-- REFERENCE_WINDOW_COMPLETE (08 R219): armed while |i| ≤ 0.02 I_max holds in the window; 60 s after it began. -/
def execReferenceWindowComplete (s : State) : Host.Outcome State Fault Refusal :=
  runIn 1 s (fun L =>
    match L.est.quietSince with
    | some t =>
      if L.est.quietDone then L
      else
        let L := (L.reach (t + sec 60)).windowCells
        let L := { L with est := { L.est with quietDone := true, reqSince := none, requested := false, unmet := false } }
        (L.put 0x350027 3).ev 67 3 0 [] []
    | none => L)

/-- REFERENCE_REQUEST_UNMET (08 R219): 24 h after the request; it continues to stand. -/
def execReferenceRequestUnmet (s : State) : Host.Outcome State Fault Refusal :=
  runIn 1 s (fun L =>
    match L.est.reqSince with
    | some t =>
      if L.est.unmet then L
      else
        let L := L.reach (t + sec 86400)
        let L := { L with est := { L.est with unmet := true } }
        (L.put 0x350027 4).ev 67 4 1 [] []
    | none => L)

/-- Estimator commands (08 R219): 1 request, 2 withdraw. -/
def Live.cmdEst (L : Live) (v : Nat) : Except Abort Live :=
  if v = 1 then .ok (if L.est.reqSince.isSome then L else L.requestWindow true)
  else if v = 2 then
    .ok ({ L with est := { L.est with reqSince := none, requested := false, unmet := false } }.put 0x350027
      (if L.est.quietSince.isSome ∧ !L.est.quietDone then 2 else 0))
  else .error abRange

/-- EST_CMD_REQUEST_WINDOW (08 R219). -/
def execEstCmdRequestWindow (sess : Sess) (s : State) : Host.Outcome State Fault Refusal :=
  run s (fun L => L.command sess 1 0x350030 (leBytes 1 1) (fun L => L.orAbort (L.cmdEst 1)))

/-- EST_CMD_WITHDRAW_REQUEST (08 R219). -/
def execEstCmdWithdrawRequest (sess : Sess) (s : State) : Host.Outcome State Fault Refusal :=
  run s (fun L => L.command sess 1 0x350030 (leBytes 1 2) (fun L => L.orAbort (L.cmdEst 2)))

/-- Segment estimator command 1: the segment has been replaced (08 R215). -/
def Live.cmdReplaced (L : Live) (g : Nat) (v : Nat) : Except Abort Live :=
  if v ≠ 1 then .error abRange
  else if L.mode.st ≠ .standby ∧ L.mode.st ≠ .service then .error abState
  else
    let qn := hdrQnom L.table
    let ctx := L.est.ctx.zipIdx.map (fun (x : Ctx × Nat) =>
      if x.2 / 32 = g then
        { x.1 with
          qc := qn
          aS := 1
          a1 := 1
          a2 := 1
          impAge := none
          anchor := 0
          anchorAt := 0
          since := (none, none)
          ref := none
          disagree := false
          said := 0
          blend := false
          outliers := 0
          emptyRun := 0
          fullRun := 0
          rest := 0
          atEmpty := false
          atFull := false }
      else x.1)
    let cold := (List.range 32).map (fun c => 32 * g + c)
    let L := { L with est := { L.est with
      ctx := ctx
      allBlend := false
      coldCtx := L.est.coldCtx.filter (fun x => x / 32 != g) ++ cold } }
    .ok (L.ev 69 4 0 (leBytes 1 g) [])

/-- SEG_EST_CMD_REPLACED (08 R215). -/
def execSegEstCmdReplaced (sess : Sess) (seg : Fin 16) (s : State) : Host.Outcome State Fault Refusal :=
  run s (fun L => L.command sess 2 (segKey seg.val 0x1F) (leBytes 1 1) (fun L => L.orAbort (L.cmdReplaced seg.val 1)))

/-! ### Table banks (08 R205, R206, R230) -/

/-- A switch checks the inactive bank's image; its result is reported whether or not the switch is refused (08 R205, R230). -/
def Live.noteCheck (L : Live) (v : Nat) : Live :=
  if v = 1 then L.put 0x380007 (L.tableCheck (L.bankImage (1 - L.bank))) else L

/-- Bank commands: 1 switch to the inactive bank at the first sweep from `due`, the module time of R80 on, 2 erase it (04 R80; 08 R206, R230). -/
def Live.cmdTable (L : Live) (v due : Nat) : Except Abort Live :=
  let b := 1 - L.bank
  if v = 1 then
    let r := L.tableCheck (L.bankImage b)
    if r ≠ 0 then .error abTable
    else .ok { L with est := { L.est with switchAt := some due } }
  else if v = 2 then
    .ok ((((L.putBlob (0x380010 + b) []).put (0x380002 + b) 0).put (0x380004 + b) 0))
  else .error abRange

/-- TABLE_CMD_SWITCH_BANK (08 R206). -/
def execTableCmdSwitchBank (sess : Sess) (s : State) : Host.Outcome State Fault Refusal :=
  run s (fun L => L.command sess 3 0x380006 (leBytes 1 1) (fun L => (L.noteCheck 1).orAbort ((L.noteCheck 1).cmdTable 1 (L.time.mtime + 200000))))

/-- TABLE_CMD_ERASE_BANK (08 R230). -/
def execTableCmdEraseBank (sess : Sess) (s : State) : Host.Outcome State Fault Refusal :=
  run s (fun L => L.command sess 3 0x380006 (leBytes 1 2) (fun L => L.orAbort (L.cmdTable 2 (L.time.mtime + 200000))))

/-- An image written to a bank, checked at the commit that ends its transfer (08 R205, R206, R230): a write of the active bank is
refused; the result stands in 0x3800:07 and the bank's status. -/
def Live.writeTable (L : Live) (b : Nat) (img : Bytes) : Except Abort Live :=
  if b = L.bank then .error abTable
  else if L.upd.replaced then .error abState
  else if img.length ≠ 24836 then .error abLength
  else
    let r := L.tableCheck img
    let L := (L.putBlob (0x380010 + b) img).put 0x380007 r
    let L := L.put (0x380002 + b) (if r = 0 then 1 else if r = 1 then 2 else 3)
    let L := L.put (0x380004 + b) (hdrId img)
    .ok (if r = 0 then L else L.ev 65 2 1 [] (leBytes 1 r))

/-- TABLE_IMAGE_WRITE (08 R205). -/
def execTableImageWrite (sess : Sess) (bank : Fin 2) (image : Bytes) (s : State) : Host.Outcome State Fault Refusal :=
  run s (fun L => L.asWrite sess (0x380010 + bank.val) image (Live.belowLevel sess 3) (fun L => L.orAbort (L.writeTable bank.val image)))

/-! ### The impedance window (07 R187; 08 R216 to R218) -/

/-- The first condition of R217 that fails for a segment, 0 none. -/
def Live.windowFails (L : Live) (s : Nat) : Nat :=
  let x := L.segEst s
  let n := x.lockSets
  let mean := if x.lockF.2 = 0 then 0 else x.lockF.1 / q (x.lockF.2 : Int)
  let amin := L.iImp / 8 * mean / 2
  let tones := x.lockI.all (fun y =>
    let k := if n = 0 then 0 else 2 / q (n : Int)
    decide (amin * amin ≤ k * k * (y.1 * y.1 + y.2 * y.2)))
  if !L.est.winClean then 1
  else if L.est.winClamp.2 < 1000 * L.est.winClamp.1 then 2
  else if x.lockOut then 3
  else if n + 100 < 600000 then 4
  else if !tones then 5
  else 0

/-- The fit of one cell and its use (08 R218). -/
def Live.fitCell (s : Nat) (L : Live) (c : Nat) : Live :=
  let g := 32 * s + c
  let img := L.table
  let e := L.estPar
  let x := L.ctxAt g
  let n : Rat := q (max x.win.2.2 1 : Nat)
  let p := cellPar img (x.win.1 / n) (x.win.2.1 / n)
  let z := ((L.segEst s).lockV.getD c []).zip (L.segEst s).lockI |>.map (fun y => zOf (y.1.1, -y.1.2) (y.2.1, -y.2.2))
  match fitAlpha p z with
  | none => L.ev 66 3 1 (cellKey g) []
  | some (a, b, d) =>
    let y := { x with
      aS := wide (x.aS + (a - x.aS) / 4)
      a1 := wide (x.a1 + (b - x.a1) / 4)
      a2 := wide (x.a2 + (d - x.a2) / 4)
      impAge := some 0 }
    let L := if y.aS > 2 ∧ x.aS ≤ 2 then L.ev 69 3 1 (cellKey g) [] else L
    let t := x.tc.getD 250
    if e.floorV ≤ absQ (ocvSlope img y.soc t) then
      let r := reference img e g (L.cellDir s) y
      (L.setCtx g r.1).cellEvs r.2
    else L.setCtx g y

/-- The lock-in results of the ended window, and a clean start of the next (08 R216, R217). -/
def Live.evalWindow (L : Live) (start : Nat) : Live :=
  let r := L.fittedSegs.foldl (fun (x : Live × Nat) s =>
    let f := x.1.windowFails s
    if f ≠ 0 then (x.1.ev 66 2 1 (leBytes 1 s) (leBytes 1 f), x.2)
    else ((List.range x.1.cellCount).foldl (Live.fitCell s) x.1, setBit x.2 s true)) (L, 0)
  let L := (r.1.put 0x35002A start).put 0x35002B r.2
  (L.ev 66 1 0 [] (leBytes 2 r.2)).blendCheck

/-- Accumulators cleared at a window boundary (08 R217). -/
def Live.clearWindow (L : Live) : Live :=
  let seg := L.est.seg.zipIdx.map (fun (x : SegEst × Nat) => { x.1 with
    lockI := List.replicate 8 (0, 0)
    lockV := List.replicate 32 (List.replicate 8 (0, 0))
    lockSets := 0
    lockF := (0, 0)
    lockOut := !L.conv.act.contains x.2 })
  let ctx := L.est.ctx.map (fun (c : Ctx) => { c with win := (0, 0, 0) })
  { L with est := { L.est with seg := seg, ctx := ctx, winClamp := (0, 0), winClean := L.chi.imp } }

/-- Does a tuning signal run, live or dry, its start reached (07 R187, R188, R195)? -/
def Live.tuning (L : Live) : Bool := (L.chi.st == 1 || L.chi.st == 2) && decide (L.chi.start ≤ L.epoch)

/-- The conditions of the impedance multisine (07 R187). -/
def Live.mayImp (L : Live) : Bool :=
  (L.mode.st == .run || L.mode.st == .derated) && L.ctl 0x320002 == 1 && !L.tuning

/-- IMPEDANCE_WINDOW_BOUNDARY (07 R187; 08 R216 to R218): at the next control epoch that is a multiple of 3,000,000. -/
def execImpedanceWindowBoundary (s : State) : Host.Outcome State Fault Refusal :=
  runIn 1 s (fun L =>
    let w := 30000000000
    let L := L.pass ((w - L.time.mtime % w) % w)
    let L := L.evalWindow (L.epoch - 3000000)
    let L := if L.mayImp ∧ !L.chi.imp then L.ev 52 5 0 [] (leBytes 8 L.epoch) else L
    { L with chi := { L.chi with imp := L.mayImp } }.clearWindow)

end Sys2Proof.Machine
end

