-- ==== Sys2Proof/Machine/EngineOps.lean ====
section
/-! DEFINITION. The control engine's shared operations: its settings, the input registers, the stage table in effect, the chisel
signal, the capture unit, and their commands (07). -/

namespace Sys2Proof.Machine

/-! ### Settings and the table in effect -/

/-- The settings behind the module-written coefficients, as the dictionary holds them (07 R173, R175). -/
def Live.lawSet (L : Live) : LawSet :=
  { cal := (List.range 4).map (fun n => q (L.get (0x40120A + n)) / 100000)
    l := q (L.get 0x401201) / 1000000000
    rl := q (L.get 0x401202) / 1000000
    vnom := q (L.get 0x300006) / 1000
    droop := q (L.get 0x300005) / 1000
    imax := q (L.get 0x401101) / 1000
    hookI := q (L.get 0x401205) / 10000
    hookV := q (L.get 0x401206) / 10000
    step := q (L.get 0x401207) / 1000 }

/-- The table as the latest commit leaves it: the one waiting for its sample, else the one in effect. -/
def Live.committedTab (L : Live) : List Stage := L.eng.nextTab.getD L.eng.tab

/-- A table committed; it waits for the sample of R80. A tuning signal whose target stage changes its structure aborts, and a
capture loses a CAPTURE stage that one of its channels names (07 R164, R186, R190). -/
def Live.commitTab (L : Live) (t : List Stage) : Live :=
  let old := L.committedTab
  if t = old then L
  else
    let same := fun (k : Nat) =>
      let a := old.getD k {}
      let b := t.getD k {}
      a.ty == b.ty && a.lanes == b.lanes && a.variant == b.variant && a.src == b.src
    let tgt := L.ctlN 0x320003 / 256 % 64
    let L := if same tgt then L else L.abortChisel 4
    let named := (List.range 4).map (fun n => L.ctlN (0x320101 + n))
    let lost := named.any (fun w => 64 ≤ w % 256 && w % 256 < 128 && old.getD (w % 256 - 64) {} != t.getD (w % 256 - 64) {})
    let L := if lost then { L with cap := {} } else L
    { L with eng := { L.eng with nextTab := some t } }

/-- A stage with the structure writes of a commit. -/
def Stage.setField (g : Stage) (sub : Nat) (x : Int) : Stage :=
  match sub with
  | 1 => { g with ty := x.toNat }
  | 2 => { g with lanes := x.toNat }
  | 3 => { g with mask := x.toNat }
  | 8 => { g with variant := x.toNat }
  | _ => if 4 ≤ sub ∧ sub ≤ 7 then { g with src := g.src.set (sub - 4) x.toNat } else g

/-- Stage i with its structure writes. -/
def Stage.withFields (g : Stage) (mine : List (Nat × Int)) : Stage := mine.foldl (fun (g : Stage) w => g.setField w.1 w.2) g

/-- The coefficients stage i is to have with the writes of a commit: its present ones with those written, the module-written ones
from the settings, 0 where its type uses none (07 R155, R173, R192). -/
def coefsWanted (p : LawSet) (i : Nat) (g : Stage) (mine : List (Nat × Int)) : List Rat :=
  let g' := g.withFields mine
  let cs := mine.foldl (fun (cs : List Rat) w => if 0x0A ≤ w.1 then cs.set (w.1 - 0x0A) ((real32 w.2.toNat).getD 0) else cs)
    ((List.range 8).map g.c)
  let cs := if lawWritten i ∧ g'.ty ≠ 0 then lawCoefs p i cs else cs
  (List.range 8).map (fun j => if j < usedCoefs g'.ty then cs.getD j 0 else 0)

/-- The stage writes of stage i. -/
def writesOf (ws : List (Nat × Nat × Int)) (i : Nat) : List (Nat × Int) := (ws.filter (fun w => w.1 == i)).map (·.2)

/-- The table with the stage writes of a commit and the module-written coefficients that the settings give: each stage's coefficients
are quantised together (07 R155, R175). -/
def withStages (p : LawSet) (t : List Stage) (ws : List (Nat × Nat × Int)) : List Stage :=
  t.mapIdx (fun i g =>
    let cs := coefsWanted p i g (writesOf ws i)
    let g' := g.withFields (writesOf ws i)
    if cs = (List.range 8).map g.c then g' else g'.withC cs)

/-- Every coefficient of the commit that is not 0 and quantises to 0: event 50 code 2 (07 R155). -/
def Live.zeroCoefs (L : Live) (p : LawSet) (old new : List Stage) (ws : List (Nat × Nat × Int)) : Live :=
  (List.range 64).foldl (fun (L : Live) i =>
    let cs := coefsWanted p i (old.getD i {}) (writesOf ws i)
    (List.range 8).foldl (fun (L : Live) j =>
      if cs.getD j 0 ≠ 0 ∧ (new.getD i {}).c j = 0 then L.ev 50 2 0 [] (leBytes 1 i ++ leBytes 1 j ++ leBytes 8 L.epoch) else L) L) L

/-- The check of a table against the settings in force (07 R163, R174). -/
def Live.tableFails (L : Live) (locked : List Nat) (t : List Stage) : Option (Nat × Nat) :=
  checkTable (q (L.get 0x401201) / 1000000000) (q L.fittedSegs.length) locked t

/-- The result of a table check as 0x3000:31 and 32 report it (07 R163). -/
def Live.noteTable (L : Live) (r : Option (Nat × Nat)) : Live :=
  let x := r.getD (0, 255)
  (L.put 0x300031 x.1).put 0x300032 x.2

/-- The stage writes of the commit under way are refused, or not (07 R163). -/
def Live.tabRefused (L : Live) (b : Bool) : Live := { L with eng := { L.eng with refused := b } }

/-- Module-written coefficients follow their source objects at the same commit: a table they change is checked and taken (07 R163,
R175). Where the stage writes of the commit were refused, their result stands unless this table fails too. -/
def Live.recommit (L : Live) : Live :=
  let old := L.committedTab
  let t := withStages L.lawSet old []
  let r := L.tableFails [] t
  if t = old then L
  else ((if L.eng.refused && r.isNone then L else L.noteTable r).commitTab t).zeroCoefs L.lawSet old t []

/-- Bytes of sub-indices 01 to 08 of a stage (07 R193). -/
def Stage.bytes (s : Stage) : Bytes :=
  leBytes 1 s.ty ++ leBytes 1 s.lanes ++ leBytes 1 s.mask ++ (s.src.map (leBytes 2)).flatten ++ leBytes 2 s.variant

/-- Table identity (07 R193). -/
def tableId (t : List Stage) : Nat := crc32c (t.map Stage.bytes).flatten

/-- Values of a commit take effect in CTL and EST at their sample, and a committed table is swapped in (04 R80, 07 R164). DESIGN
CHOICE (log 217): "overflow since commit", flag [4] of 07 R192, counts from the last swap of a committed stage table. -/
def Live.takeCommit (L : Live) : Live :=
  match L.ks.ctlDue with
  | none => L
  | some t =>
    if L.time.mtime < t then L
    else
      let L := { L with ks := { L.ks with ctl := L.obj, ctlDue := none } }
      match L.eng.nextTab with
      | none => L
      | some tab =>
        let st := (List.range 64).map (fun k =>
          let x := carryState (L.eng.tab.getD k {}) (tab.getD k {}) (L.eng.st.getD k {})
          { x with flags := setBit x.flags 4 false })
        let L := { L with eng := { L.eng with tab := tab, st := st, nextTab := none } }
        L.ev 48 1 0 [] (leBytes 4 (tableId tab) ++ leBytes 2 (tableCost tab) ++ leBytes 8 L.epoch)

/-! ### The chisel -/

/-- Amplitude A (07 R195). -/
def Live.chiA (L : Live) : Rat := (real32 (L.ctlN 0x320004)).getD 0

/-- Chirp frequency at sample k, Hz (07 R183). -/
def Live.chirpF (L : Live) (k : Nat) : Rat :=
  let f0 := q (L.ctl 0x320007) / 1000
  let f1 := q (L.ctl 0x320008) / 1000
  let x := q (k : Int) / q (L.ctl 0x320005)
  if L.ctlN 0x320001 = 2 then f0 + (f1 - f0) * x else powRatio f0 f1 x

/-- Tap t of a PRBS order (07 R184). -/
def prbsTap (n : Nat) : Nat :=
  match n with
  | 7 => 6
  | 9 => 5
  | 10 => 7
  | 11 => 9
  | _ => 14

/-- One shift of the PRBS register: bit i − 1 holds stage i (07 R184). -/
def prbsStep (n r : Nat) : Nat :=
  let new := (r / 2 ^ (n - 1) + r / 2 ^ (prbsTap n - 1)) % 2
  (2 * r + new) % 2 ^ n

/-- A cosine of an angle in turns (07 R183). -/
def cosTurn (x : Rat) : Rat := sinTurn (x + 1 / 4)

/-- The tuning multisine at control epoch j (07 R183). -/
def Live.multisine (L : Live) (j : Nat) : Rat :=
  sumQ ((List.range (L.ctlN 0x32000B)).map (fun i =>
    let m := L.ctlN (0x32000C + i)
    let x := q ((m * j) % 1000000 : Nat) / 1000000 + q (L.ctl (0x32001C + i)) / 65536
    q (L.ctl (0x320014 + i)) / 10000 * cosTurn x))

/-- The tuning signal of sample k at control epoch j, with the chisel after it (07 R183, R184). -/
def Live.tuningSignal (L : Live) (k j : Nat) : Rat × Chisel :=
  let a := L.chiA
  let c := L.chi
  if L.ctlN 0x320005 ≤ k then (0, c)
  else
    match L.ctlN 0x320001 with
    | 1 => (if k < L.ctlN 0x320006 then a else 0, c)
    | 4 =>
      let n := L.ctlN 0x320009
      let r := if k = 0 then 2 ^ n - 1 else if k % L.ctlN 0x32000A = 0 then prbsStep n c.prbs else c.prbs
      (if r / 2 ^ (n - 1) % 2 = 1 then a else -a, { c with prbs := r })
    | 5 => (a * L.multisine j, c)
    | 0 => (0, c)
    | _ =>
      let th := if k = 0 then 0 else c.theta
      let next := (th + (roundQ (L.chirpF k / 100000 * pow2 32)).toNat) % 2 ^ 32
      (a * sinTurn (q (th : Int) / pow2 32), { c with theta := next })

/-- Phases of the impedance multisine in turns (07 R187). -/
def impPhase : List Rat := [0, -1 / 8, -3 / 8, 1 / 4, -1 / 4, 1 / 8, 3 / 8, 1 / 2]

/-- The impedance multisine at control epoch j (07 R187). -/
def Live.impSignal (L : Live) (j : Nat) : Rat :=
  L.iImp / 8 * sumQ ((toneM.zip impPhase).map (fun x => cosTurn (q ((x.1 * j) % 1000000 : Nat) / 1000000 + x.2)))

/-- Status of the impedance injection (07 R195 sub 28). -/
def Live.impStatus (L : Live) : Nat :=
  if L.chi.imp then 1
  else if L.ctl 0x320002 ≠ 1 then 3
  else if L.mode.st = .run ∨ L.mode.st = .derated then (if L.tuning then 2 else 5)
  else if L.fromStandby then 4 else 0

/-- The tuning signal begins in the first sample at or after its start epoch, a deferred one once the capture's pre-trigger part
has filled; the impedance multisine stops at once when a condition fails (07 R183, R187, R188). DESIGN CHOICE (log 215): a deferred
start whose capture is aborted, reset by a table commit or fired by force before that part has filled begins in the next sample. -/
def Live.chiselBegin (L : Live) : Live :=
  let L := if L.chi.st = 3 ∧ L.cap.cmds.all (fun c => c.1 != 1) ∧ L.cap.st ≠ 1 then
      { L with chi := { L.chi with st := signalPlace L.mode.st, start := L.epoch } } else L
  let L := if L.tuning ∧ !L.chi.begun then
      { L with chi := { L.chi with begun := true, theta := 0, prbs := 0 } }.ev 52 1 0 []
        (leBytes 1 (L.ctlN 0x320001) ++ leBytes 2 (L.ctlN 0x320003) ++ leBytes 8 L.chi.start)
    else L
  if L.chi.imp ∧ !L.mayImp then
    let L := { L with chi := { L.chi with imp := false } }
    L.ev 52 4 0 [] (leBytes 1 L.impStatus ++ leBytes 8 L.epoch)
  else L

/-- The chisel signal of this sample (07 R182, R183). -/
def Live.chiselSignal (L : Live) : Live :=
  if L.tuning then
    let r := L.tuningSignal (L.epoch - L.chi.start) L.epoch
    { L with chi := { r.2 with sig := r.1 } }
  else { L with chi := { L.chi with sig := 0 } }

/-! ### Chisel commands -/

/-- Limit on |A| of the target's unit, none for stages 40 to 63 (07 R185). Stages without an entry have no unit and take the
current limit (DEDUCED: they are EMPTY). -/
def Live.chiLimit (L : Live) (stage input : Nat) : Option Rat :=
  let imax := q (L.get 0x401101) / 1000
  let cur := q (L.get 0x401208) / 10000 * imax
  let vnom := q (L.get 0x300006) / 1000
  let vol := q (L.get 0x401209) / 10000 * vnom
  if 40 ≤ stage then none
  else match stage, input with
    | 5, 0 => some (q (L.get 0x401208) / 10000 * imax * vnom)
    | 0, k => some (if k ≤ 1 then cur else vol)
    | 1, _ => some vol
    | 2, k => some (if k = 2 then cur else vol)
    | 3, k => some (if k ≤ 1 then cur else vol)
    | 5, _ => some vol
    | 6, k => some (if k = 0 then vol else cur)
    | 7, _ => some vol
    | 8, _ => some vol
    | 9, k => some (if k = 0 then vol else cur)
    | 15, k => some (if k = 0 then cur else vol)
    | 16, _ => some vol
    | 17, _ => some vol
    | 18, _ => some vol
    | 19, k => some (if k = 0 then vol else cur)
    | 20, _ => some vol
    | 21, _ => some vol
    | 22, _ => some vol
    | 23, _ => some vol
    | 39, _ => some vol
    | _, _ => some cur

/-- Chisel commands (07 R185, R186, R188): 1 start, 2 stop. `due` is the module time of R80. -/
def Live.cmdChisel (L : Live) (v due : Nat) : Except Abort Live :=
  if v = 1 then
    let w := L.getN 0x320003
    let a := (real32 (L.getN 0x320004)).getD 0
    let isOver := match L.chiLimit (w / 256 % 64) (w / 16 % 4) with | some m => decide (m < absQ a) | none => false
    let running := L.chi.st == 1 || L.chi.st == 2 || L.chi.st == 3
    if signalPlace L.mode.st = 0 ∨ running then .error abState
    else if isOver then .error abRange
    else
      let deferred := L.cap.cmds.contains (1, due) && L.getN 0x320107 == 1
      .ok { L with chi := { L.chi with
        st := (if deferred then 3 else signalPlace L.mode.st)
        start := due / 10000
        begun := false
        sig := 0 } }
  else if v = 2 then .ok (L.abortChisel 1)
  else .error abRange

/-! ### The capture unit -/

/-- Value of a capture channel, none where its source is none (07 R189). -/
def Live.capLane (L : Live) (w : Nat) : Option (Ash × Nat) :=
  let k := w % 256
  if k < 16 then some (L.eng.ins.getD k {}, 0)
  else if k = 16 then some (ashOf L.chi.sig, 0)
  else if 64 ≤ k ∧ k < 128 ∧ (L.eng.tab.getD (k - 64) {}).ty = 11 then some ((L.eng.st.getD (k - 64) {}).out, w / 256 % 4)
  else none

/-- The ASHLAR32 word of a channel (07 R157, R189). -/
def Live.capWord (L : Live) (n : Nat) : Bytes :=
  match L.capLane (L.ctlN (0x320101 + n)) with
  | some (a, l) => leBytes 4 (a.word l)
  | none => leBytes 4 0x80000000

/-- One recorded sample: the 4 channels (07 R189). -/
def Live.capSample (L : Live) : Bytes := ((List.range 4).map L.capWord).flatten

/-- A sample the pre-trigger part has not reached (07 R190). -/
def capNone : Bytes := (List.replicate 4 (leBytes 4 0x80000000)).flatten

/-- Does the level trigger fire in this sample; and its memory of having been beyond the hysteresis (07 R190)? -/
def Live.capLevel (L : Live) : Bool × (Bool × Bool) :=
  let w := L.ctlN 0x320108
  match L.capLane (L.ctlN (0x320101 + w % 4)) with
  | none => (false, L.cap.prime)
  | some (a, l) =>
    let x := a.lane l
    let lev := (real32 (L.ctlN 0x320109)).getD 0
    let hys := (real32 (L.ctlN 0x32010A)).getD 0
    let up := bitOf w 2 && L.cap.prime.1 && decide (lev ≤ x)
    let dn := bitOf w 3 && L.cap.prime.2 && decide (x ≤ lev)
    (up || dn, (L.cap.prime.1 || decide (x ≤ lev - hys), L.cap.prime.2 || decide (lev + hys ≤ x)))

/-- The trigger fires in this sample: always recorded, decimation restarts, event 53 code 1 (07 R190). -/
def Live.capTrigger (L : Live) : Live :=
  let pre := L.ctlN 0x320106
  let held := L.cap.buf.take pre
  let buf := L.capSample :: (held ++ List.replicate (pre - held.length) capNone)
  let L := { L with cap := { L.cap with st := 3, buf := buf, dec := L.ctlN 0x320105 - 1, force := false } }
  let L := (L.put 0x32010E L.epoch).put 0x32010F pre
  L.ev 53 1 0 [] (leBytes 8 L.epoch)

/-- Record this sample where its turn has come, at most `room` samples being kept (07 R189). -/
def Live.capRecord (L : Live) (room : Nat) : Live :=
  if L.cap.dec = 0 then
    { L with cap := { L.cap with buf := (L.capSample :: L.cap.buf).take room, dec := L.ctlN 0x320105 - 1 } }
  else { L with cap := { L.cap with dec := L.cap.dec - 1 } }

/-- Does the trigger fire, the pre-trigger part being full (07 R190)? -/
def Live.capFires (L : Live) (chiselNow : Bool) : Bool :=
  match L.ctlN 0x320107 with
  | 0 => true
  | 1 => chiselNow
  | 2 => L.capLevel.1
  | 3 => L.cap.notice
  | _ => false

/-- The pre-trigger part has filled (07 R190). -/
def Live.capFilled (L : Live) : Live :=
  if L.cap.st = 1 ∧ L.ctlN 0x320106 ≤ L.cap.buf.length then { L with cap := { L.cap with st := 2 } } else L

/-- One capture command in its sample (04 R80; 07 R190). -/
def Live.capCommand (L : Live) (v : Nat) : Live :=
  let kept : Capture := { cmds := L.cap.cmds, notice := L.cap.notice, eventSeen := L.cap.eventSeen }
  match v with
  | 1 => { L with cap := { kept with st := 1 } }.capFilled
  | 2 => { L with cap := { L.cap with force := decide (1 ≤ L.cap.st) } }
  | _ => { L with cap := kept }

/-- The capture commands whose sample this is, in the order of their commits (04 R80). -/
def Live.capCommands (L : Live) : Live :=
  let now := L.cap.cmds.filter (fun c => decide (c.2 ≤ L.time.mtime))
  let L := { L with cap := { L.cap with cmds := L.cap.cmds.filter (fun c => decide (L.time.mtime < c.2)) } }
  now.foldl (fun L c => L.capCommand c.1) L

/-- The capture unit after the release of a sample (04 R78; 07 R189, R190). DESIGN CHOICE (log 216): a force in state 3 triggers again
on what is held, one in state 4 with a pre-trigger part that holds nothing. -/
def Live.capture (L : Live) (chiselNow : Bool) : Live :=
  let L := { L with cap := { L.cap with prime := L.capLevel.2 } }
  if L.cap.force then (if L.cap.st = 4 then { L with cap := { L.cap with buf := [] } } else L).capTrigger
  else if L.cap.st = 2 ∧ L.capFires chiselNow then L.capTrigger
  else if L.cap.st = 1 ∨ L.cap.st = 2 then (L.capRecord (L.ctlN 0x320106)).capFilled
  else if L.cap.st = 3 ∧ L.cap.buf.length < 16384 then L.capRecord 16384
  else L

/-- Segmented reads of the capture data that an arm aborts (07 R191). -/
def Live.dropCaptureReads (L : Live) : Live :=
  let rs := L.ks.reading
  let L := { L with ks := { L.ks with reading := rs.filter (fun x => x.2 != 0x320110) } }
  (rs.filter (fun x => x.2 == 0x320110)).foldl (fun L x => L.refuse x.1 abGone) L

/-- Capture commands (07 R188, R190, R191): 1 arm, 2 force trigger, 3 abort. `due` is the module time of R80. A start committed together
with the arm of a capture that it triggers is deferred, whichever came first. -/
def Live.cmdCapture (L : Live) (v due : Nat) : Except Abort Live :=
  if v = 1 then
    let together := (L.chi.st == 1 || L.chi.st == 2) && !L.chi.begun && L.chi.start == due / 10000 && L.getN 0x320107 == 1
    .ok { L.dropCaptureReads with
      cap := { L.cap with cmds := L.cap.cmds ++ [(1, due)] }
      chi := { L.chi with st := if together then 3 else L.chi.st } }
  else if v = 2 ∨ v = 3 then .ok { L with cap := { L.cap with cmds := L.cap.cmds ++ [(v, due)] } }
  else .error abRange

end Sys2Proof.Machine
end

