-- ==== Sys2Proof/Machine/Sample.lean ====
section
/-! DEFINITION. The control sample (04 R78 to R80; 06; 07): measurements, limits, the ramp, the stage table, the plumb check, the
carrier boundary, the duties and the release. Every step of it is an operation of its own, in the order of the sample. -/

namespace Sys2Proof.Machine

/-! ### Inputs -/

/-- Does the module's output drive the string (07 R161): soft-start phases 4 and 5, RUN, DERATED, and step 1 of a safe-state
sequence, in which the loop drives i to zero (10 R249; DEDUCED, log 36)? -/
def Live.drives (L : Live) : Bool :=
  (L.mode.st == .precharge && decide (4 ≤ L.conv.phase)) || L.mode.st == .run || L.mode.st == .derated ||
  (L.mode.st == .safe && L.stepOf == 1)

/-- Does a running sequence hold the duties of the last sample of its step 1: steps 2 and 3 (10 R249)? -/
def Live.holdsDuty (L : Live) : Bool := L.stepOf == 2 || L.stepOf == 3

/-- A crossing found in error: FAULT-class island event and SF-12 (04 R75). -/
def Live.crossing (L : Live) : Option Nat → Live
  | some ch => (L.raisePower 4 2 (leBytes 2 ch) L.tb).sf12 1
  | none => L

/-- A bus-voltage sample in the window of the last 1 s (06 R124). -/
def pushMax (now : Nat) (v : Rat) (l : List (Nat × Rat)) : List (Nat × Rat) :=
  (now, v) :: (l.filter (fun x => decide (v < x.2) && decide (now < x.1 + sec 1)))

/-- The measured quantities of the sample, calibrated (06 R124, R130, R133; 07 R172 stage 0). -/
def Live.measure (L : Live) (x : SampleIn) : Live :=
  let cal := fun (n : Nat) => q (L.ctl (0x40120A + n)) / 100000
  let i := cal 0 * x.shunt
  let vb := cal 2 * x.vBus
  let vs := cal 3 * x.vStr
  { L with conv := { L.conv with
    i := i
    iFg := cal 1 * x.fluxgate
    vBus := vb
    vStr := vs
    iAvg := (i :: L.conv.iAvg).take 100
    vMax := pushMax L.time.clk vb L.conv.vMax
    vStrAvg := (vs :: L.conv.vStrAvg).take (2 * max L.conv.nact 1) } }

/-- The string current that the estimator, the lock-in, the I²t tracking and the thermal evaluation use: the active twin's on the
standby of an in-step pair (15 R394). -/
def Live.iShared (L : Live) : Rat := if L.pooled && !L.twin.holds then (ash32 L.twin.p.ish).getD L.conv.i else L.conv.i

/-- Inserted fractions of the superframe that ends at this sample instant: those released three samples before (04 R78). -/
def Live.endFrame (L : Live) : Live :=
  { L with seg := L.seg.map (fun (g : Seg) => { g with frac := g.fracQ.getD 2 0 }) }

/-- Current direction under I_dead (06 R136). -/
def Live.setDir (L : Live) : Live :=
  let i := L.iShared
  { L with conv := { L.conv with dir := if L.iDead < i then 1 else if i < -L.iDead then -1 else 0 } }

/-- Quiet current for reference windows (08 R219): |i| ≤ 0.02 I_max; a broken window leaves what the request reads. -/
def Live.quiet (L : Live) : Live :=
  if absQ L.iShared ≤ 2 / 100 * L.iMax then
    (if L.est.quietSince.isSome then L
     else { L with est := { L.est with quietSince := some L.time.clk, quietDone := false } }.put 0x350027 2)
  else if L.est.quietSince.isSome then
    let L := { L with est := { L.est with quietSince := none, quietDone := false } }
    if L.getN 0x350027 = 2 then L.put 0x350027 (if L.est.unmet then 4 else if L.est.reqSince.isSome then 1 else 0) else L
  else L

/-- One sample goes to the interval of the sweeps it belongs to (08 R201). -/
def addSample (later : Bool) (i f : Rat) (x : SegEst) : SegEst :=
  if later then { x with next := ((x.next.1.1 + i * f, x.next.1.2 + 1), x.next.2 + f) }
  else { x with
    iAcc := (x.iAcc.1 + i * f, x.iAcc.2 + 1)
    fAcc := x.fAcc + f }

/-- Sums that the estimator, the lock-in unit and the impedance window take from a sample (08 R201, R216, R217, R225). -/
def Live.accumulate (L : Live) (i : Rat) (x : ShareIn) : Live :=
  let later := L.laterSweep x.mtime
  let seg := L.est.seg.zipIdx.map (fun (y : SegEst × Nat) =>
    let f := x.frac.getD y.2 0
    let z := addSample later i f y.1
    { z with
      setI := (x.epoch, i * f) :: y.1.setI.take 19
      lockF := (y.1.lockF.1 + f, y.1.lockF.2 + 1)
      lockOut := y.1.lockOut || x.away.getD y.2 false })
  { L with est := { L.est with seg := seg } }

/-- I²t tracking: Q_k with its time constant of 20 min, and the present bucket (06 R141). Q_k is held in the wide format of the
engine's states, rounded to it in every sample (DESIGN CHOICE, log 207). -/
def Live.trackHeat (L : Live) (i : Rat) (x : ShareIn) : Live :=
  let a := 1 - expQ (-(1 / 100000) / 1200)
  { L with seg := L.seg.zipIdx.map (fun (y : Seg × Nat) =>
    let g := y.1
    let w := i * i * x.frac.getD y.2 0
    { g with
      q := wide (g.q + (w - g.q) * a)
      bucket := (g.bucket.1 + w, g.bucket.2 + 1) }) }

/-- One sample with the string current that the pair takes for it (15 R394). -/
def Live.shareStep (L : Live) (i : Rat) (x : ShareIn) : Live := (L.accumulate i x).trackHeat i x

/-- The samples of which no frame of the active twin told enter with the own current (DESIGN CHOICE, log 218). -/
def Live.shareOwn (L : Live) (l : List ShareIn) : Live := l.foldl (fun L x => L.shareStep x.i x) L

/-- The sample enters the estimator, the lock-in unit and the I²t tracking: at once with the own current, or, at the standby of a pooled
pair, with the active twin's of the same sample once its frame brings it (15 R394). -/
def Live.shareSample (L : Live) : Live :=
  let x : ShareIn := {
    epoch := L.epoch
    mtime := L.time.mtime
    i := L.conv.i
    frac := L.seg.map (·.frac)
    away := (List.range 16).map (fun s => !L.conv.act.contains s) }
  let l := L.twin.share ++ [x]
  let keep := if L.pooled && !L.twin.holds then 8 else 0
  let L := { L with twin := { L.twin with share := l.drop (l.length - keep) } }
  L.shareOwn (l.take (l.length - keep))

/-- Channel A's sum of i² (10 R260). -/
def Live.sumHeat (L : Live) : Live :=
  { L with saf := { L.saf with sumA := (L.saf.sumA.1 + L.conv.i * L.conv.i, L.saf.sumA.2 + 1) } }

/-- Energy discharged and charged since manufacture, Wh (17 R439). -/
def Live.countEnergy (L : Live) : Live :=
  let e := L.conv.vBus * L.conv.i / 360000000
  { L with conv := { L.conv with
    energy := if 0 < e then (L.conv.energy.1 + e, L.conv.energy.2) else (L.conv.energy.1, L.conv.energy.2 - e) } }

/-! ### Commits, mode and carry -/

/-- A committed change of mode takes effect in RUN and DERATED with the bumpless start (06 R131); is it this sample? -/
def Live.modeChange (L : Live) : Live × Bool :=
  let m := L.ctlN 0x300001
  if (L.mode.st = .run ∨ L.mode.st = .derated) ∧ m ≠ L.conv.mode then
    let L := { L with conv := { L.conv with mode := m } }
    (({ L with conv := { L.conv with r := L.measured m } }).convEv 32 1 0, true)
  else (L, false)

/-- Own CARRY quantities: integrators of stages 9 and 15, d̂ of stage 2, output of stage 23, ramp value (15 R389, R394). -/
def Live.carries (L : Live) : List Rat :=
  let st := fun (k : Nat) => L.eng.st.getD k {}
  [(st 9).w1.getD 0 0, (st 15).w1.getD 0 0, (st 2).w2.getD 0 0, (st 23).out.lane 0, L.conv.r]

/-- Set the CARRY quantities. -/
def Live.setCarries (L : Live) (c : List Rat) : Live :=
  let st := ((L.eng.st.modify 9 (fun (x : StageSt) => { x with w1 := [c.getD 0 0] })).modify 15
    (fun (x : StageSt) => { x with w1 := [c.getD 1 0] })).modify 2 (fun (x : StageSt) => { x with w2 := [c.getD 2 0] })
  let st := st.modify 23 (fun (x : StageSt) => { x with out := ashOf (c.getD 3 0) })
  { L with eng := { L.eng with st := st }, conv := { L.conv with r := c.getD 4 0 } }

/-- The standby of an in-step pair re-bases each CARRY quantity at the start of a sample: the active twin's value plus its own
change over the last sample (15 R394). -/
def Live.rebase (L : Live) : Live :=
  match L.twin.ownCarry with
  | [a, b] =>
    if L.tracks && L.twin.missing == 0 then
      L.setCarries ((List.range 5).map (fun n =>
        ((ash32 (L.twin.carry.getD n 0)).getD 0) + b.getD n 0 - a.getD n 0))
    else L
  | _ => L

/-! ### Limits and the ramp -/

/-- Headroom, with its events while the string is driven in CURRENT or POWER (06 R124, R125, R151). -/
def Live.headroomNow (L : Live) : Live :=
  let h := L.headroom L.conv.act
  let b := q (L.ctl 0x300016) / 10000 * L.vNom
  let L := { L with conv := { L.conv with h := h } }
  if !L.drives ∨ L.conv.mode = 2 then L
  else
    let n := if h < 0 then 2 else if h < b then 1 else 0
    if n = L.conv.hRep then L
    else
      let L := { L with conv := { L.conv with hRep := n } }
      L.convEv 33 (if n = 0 then 3 else n) (if n = 0 then 0 else n)

/-- The shut-down's own limit falls from the present magnitude of the current at the current slew rate (03 R58). -/
def Live.shutLimit (L : Live) : Live :=
  match L.conv.shutLim with
  | some m =>
    let m := maxQ 0 (m - L.slew 0)
    { L with conv := { L.conv with
      shutLim := some m
      zeroAt := if m = 0 then some (L.conv.zeroAt.getD L.time.clk) else none } }
  | none => L

/-- Both current limits of the sample: 0 in SAFE, lowered by a shut-down (06 R128; 03 R58; 10 R249). -/
def Live.setLimits (L : Live) : Live :=
  let l := L.limits L.conv.h L.conv.vBus
  let m := fun (x : Rat) => if L.mode.st = .safe then 0 else match L.conv.shutLim with | some s => minQ x s | none => x
  { L with conv := { L.conv with limDis := m l.1, limCh := m l.2 } }

/-- Events of limits: fold-back acting, the target clamped for more than 1 s (06 R151). -/
def Live.limitEvents (L : Live) : Live :=
  let fold := L.drives && decide (L.foldBack L.conv.vBus < L.iMax)
  let L := if fold && !L.conv.foldRep then L.convEv 34 1 0 else L
  let L := { L with conv := { L.conv with foldRep := fold } }
  let b := L.rampBounds L.conv.mode L.conv.limDis L.conv.limCh L.conv.vBus
  let t := L.target L.conv.mode
  let cl := L.drives && decide (minQ (maxQ t b.1) b.2 ≠ t)
  let since := if cl then some (L.conv.clampSince.getD L.time.clk) else none
  let long := match since with | some a => decide (sec 1 < L.time.clk - a) | none => false
  let L := if long && !L.conv.clampRep then L.convEv 32 2 1 else L
  { L with conv := { L.conv with clampSince := since, clampRep := cl && (L.conv.clampRep || long) } }

/-- The ramp of the sample (06 R132), run in every sample; in soft-start phase 4 the loop starts at i = 0, in BUSV at the measured bus
voltage (R133). -/
def Live.rampStep (L : Live) : Live :=
  let m := L.conv.mode
  if L.mode.st = .precharge ∧ L.conv.phase = 4 then
    { L with conv := { L.conv with r := if m = 2 then L.conv.vBus else 0 } }
  else
    let b := L.rampBounds m L.conv.limDis L.conv.limCh L.conv.vBus
    { L with conv := { L.conv with r := ramp L.conv.r (L.target m) b.1 b.2 (L.slew m) } }

/-! ### Soft start and the bus -/

/-- Mean string voltage over one carrier period (06 R133). -/
def Live.vStrMean (L : Live) : Rat :=
  if L.conv.vStrAvg.isEmpty then L.conv.vStr else sumQ L.conv.vStrAvg / q (L.conv.vStrAvg.length : Int)

/-- Keep an instant while a condition holds. -/
def holdSince (now : Nat) (c : Bool) (since : Option Nat) : Option Nat := if c then some (since.getD now) else none

/-- Reference voltage of BUSV (06 R130). -/
def Live.vRef (L : Live) : Rat := L.conv.r - L.droop * L.iAvg1

/-- The end conditions of soft-start phases 2 and 5, and the match: D is moved toward the bus voltage at 200 V/ms (06 R133). -/
def Live.softStart (L : Live) : Live :=
  let now := L.time.clk
  if L.mode.st ≠ .precharge then L
  else if L.conv.phase = 2 then
    let sv := L.vSum L.conv.act
    let v := L.conv.d * sv
    let d := if sv = 0 then 0 else clampQ 0 1 (divQ (v + clampQ (-2) 2 (L.conv.vBus - v)) sv)
    let ok := decide (absQ (L.vStrMean - L.conv.vBus) ≤ q (L.ctl 0x30000E) / 1000)
    { L with conv := { L.conv with d := d, okSince := holdSince now ok L.conv.okSince } }
  else if L.conv.phase = 5 then
    let b := L.rampBounds 2 0 0 0
    let ok := if L.conv.mode = 2 then
        decide (L.conv.r = minQ (maxQ (L.target 2) b.1) b.2) && decide (absQ (L.conv.vBus - L.vRef) ≤ 2 / 100 * L.vNom)
      else decide (L.vNom / 2 ≤ L.conv.vBus)
    { L with conv := { L.conv with okSince := holdSince now ok L.conv.okSince } }
  else L

/-- A low bus in RUN, DERATED and phase 5, and its recovery during a collapse hold (06 R129, R134). -/
def Live.busWatch (L : Live) : Live :=
  let low := decide (L.conv.vBus < L.vNom / 10)
  let on := L.mode.st == .run || L.mode.st == .derated || (L.mode.st == .precharge && L.conv.phase == 5)
  { L with conv := { L.conv with
    lowSince := holdSince L.time.clk (on && low) L.conv.lowSince
    highSince := holdSince L.time.clk (L.conv.collapse && !low) L.conv.highSince } }

/-! ### The stage table -/

/-- IN0 to IN15 (07 R160). -/
def Live.inputs (L : Live) (x : SampleIn) : List Ash :=
  let a := L.conv.act
  let in9 := sumQ ((List.range 16).map (fun s => (L.segAt s).frac * L.vSeg s))
  ([x.shunt, x.fluxgate, x.vBus, x.vStr, L.conv.r, L.iAvg1, L.conv.limDis, -L.conv.limCh, L.vSum a, in9, L.vNom / 10,
    minQ (11 / 10 * L.vNom) L.busvBound, L.iMax, q (a.length : Int), q (L.ctl 0x440030), q (L.ctl 0x440031)]).map ashOf

/-- Overflows of the sample: counted, and event 50 code 1 once per course (07 R154, R193). -/
def Live.overflows (L : Live) : Live :=
  let hit := (List.range 64).filter (fun k => (L.eng.st.getD k {}).ovf)
  match hit with
  | [] => L
  | k :: _ =>
    let L := L.bump 0x300035 hit.length 32
    if L.eng.ovfRep then L
    else { L with eng := { L.eng with ovfRep := true } }.ev 50 1 1 (leBytes 1 k) (leBytes 8 L.epoch)

/-- The stage table runs (07 R158 to R172): its first driving sample still tracks (R161). A table still running at cycle 4,400
leaves the previous output, event 49 code 1, two in a row SF-12 and the condition of a cause of it (04 R79; 12 R463); the states it would have left are not taken. -/
def Live.runEngine (L : Live) (x : SampleIn) : Live :=
  let ins := L.inputs x
  let dr := L.drives
  let f : Frozen :=
    { ins := ins
      mode := L.conv.mode
      strobe := !dr || !L.eng.drove
      sswOpen := L.pins.sswOpen
      sig := L.chi.sig
      target := if L.tuning then some (L.ctlN 0x320003) else none
      imp := if L.chi.imp then L.impSignal L.epoch else 0 }
  let L := { L with eng := { L.eng with ins := ins, drove := dr, in9 := (ins.getD 9 {}).lane 0 } }
  if x.tableLate then
    let n := L.eng.late + 1
    let L := ({ L.breakClean with eng := { L.eng with late := n } }.bump 0x300036 1 32).ev 49 1 2 [] (leBytes 8 L.epoch)
    if n = 2 then (L.startCond 49 1 2 (padTo 8 [])).sf12 1 else L
  else
    let st := runTable f L.eng.tab L.eng.st
    ({ L with eng := { L.eng with st := st, late := 0, vinsCmd := (st.getD 39 {}).out.lane 0 } }).overflows

/-- One residual against its levels: warning event and fault count (07 R179). `n` is 0 for r_m, 1 for r_x. -/
def Live.residual (L : Live) (n : Nat) (r warn fault : Rat) : Live :=
  let pick := fun (x : Bool × Bool) => if n = 0 then x.1 else x.2
  let put := fun (x : Bool × Bool) (b : Bool) => if n = 0 then (b, x.2) else (x.1, b)
  let isOver := decide (warn < absQ r)
  let run := (if n = 0 then L.eng.faultRun.1 else L.eng.faultRun.2)
  let run' := if fault < absQ r then min (run + 1) 15 else 0
  let mx := L.eng.resMax
  let bytes := leBytes 4 (ofSigned 32 (roundQ (r * 1000))) ++ leBytes 8 L.epoch
  let L := { L with eng := { L.eng with
    above := put L.eng.above (pick L.eng.above || isOver)
    faultRun := (if n = 0 then (run', L.eng.faultRun.2) else (L.eng.faultRun.1, run'))
    faultMax := max L.eng.faultMax run'
    resMax := (if n = 0 then (if absQ mx.1 < absQ r then r else mx.1, mx.2) else (mx.1, if absQ mx.2 < absQ r then r else mx.2)) } }
  let L := if isOver && !pick L.eng.warned then
      { L with eng := { L.eng with warned := put L.eng.warned true } }.ev 51 (n + 1) 1 [] bytes else L
  if run' = 5 then
    (({ L with eng := { L.eng with fault := true } }).ev 51 (n + 3) 2 [] bytes).trip 11 1 1 true false
  else L

/-- The plumb check: both residuals of stage 3 (07 R177 to R180). -/
def Live.plumb (L : Live) : Live :=
  let o := (L.eng.st.getD 3 {}).out
  let imax := L.iMax
  let L := L.residual 0 (o.lane 0) (q (L.ctl 0x30003A) / 1000) (q (L.ctl 0x401203) / 1000)
  L.residual 1 (o.lane 1) (q (L.ctl 0x30003B) / 10000 * imax) (maxQ (q (L.ctl 0x401204) / 10000 * imax) 2)

/-- What EST is told of the sample: injection and clamping of stages 13 and 39 (07 R187, 08 R217). -/
def Live.tellEst (L : Live) : Live :=
  let cl := fun (k : Nat) => (L.eng.st.getD k {}).flags % 4 != 0
  { L with est := { L.est with
    winClamp := (L.est.winClamp.1 + (if cl 13 || cl 39 then 1 else 0), L.est.winClamp.2 + 1)
    winClean := L.est.winClean && L.chi.imp } }

/-! ### The carrier boundary -/

/-- The segment command now first: a later one takes its place once its own time has come (06 R150). -/
def Seg.nextCmd (now : Nat) (g : Seg) : Seg :=
  match g.segNext with
  | some (v, due) => if due ≤ now ∨ g.segCmd.isNone then { g with segCmd := some (v, due), segNext := none } else g
  | none => g

/-- Segment commands whose time has come (06 R142, R145, R150); one that its conditions do not yet allow stays pending. A bypass of a
resting segment makes it bypassed by command; another one out of A keeps its cause. -/
def Live.segCommand (L : Live) (s : Nat) : Live :=
  let L := L.modSeg s (Seg.nextCmd L.time.mtime)
  match (L.segAt s).segCmd with
  | some (v, due) =>
    if L.time.mtime < due then L
    else if v = 1 then
      (if !L.conv.act.contains s then L.modSeg s (fun g => { g with
          cause := if g.cause = 3 then 1 else g.cause
          excluded := true
          segCmd := none })
       else if L.bypassRefused s then L else L.leave s 0 1)
    else if v = 3 then
      (if !L.conv.act.contains s then L.modSeg s (fun g => { g with segCmd := none })
       else if L.bypassRefused s then L else L.leave s 0 2)
    else if L.conv.act.contains s then L.modSeg s (fun g => { g with segCmd := none })
    else if L.mayReturn s then L.rejoin s else L
  | none => L

/-- Resting drop-outs at a segment's end point, and returns after the direction has reversed (06 R145, R146). -/
def Live.resting (L : Live) (s : Nat) : Live :=
  let e := (L.segEst s).ended
  let at_ := (L.conv.dir == 1 && e.1) || (L.conv.dir == -1 && e.2)
  let g := L.segAt s
  if L.conv.act.contains s then
    (if at_ && !L.bypassRefused s then L.leave s 1 3 else L)
  else if g.cause = 3 ∧ L.conv.dir ≠ 0 ∧ L.conv.dir = -g.restDir ∧ L.mayReturn s then L.rejoin s
  else L

/-- The carrier boundary fixed in this sample (06 R119, R123): commands, drop-outs, returns, then a new arrangement where A has
changed or the rotation epoch is complete. -/
def Live.carrierBoundary (L : Live) : Live :=
  let run := L.mode.st == .run || L.mode.st == .derated || L.mode.st == .precharge
  let L := if run then (List.range 16).foldl (fun L s => (L.segCommand s).resting s) L else L
  let p := L.conv.periods + 1
  if L.conv.dirty then L.arrange
  else if L.ctlN 0x300014 ≤ p then L.arrange
  else { L with conv := { L.conv with periods := p } }

/-! ### The release -/

/-- A bypass commanded is to be seen from its governed superframe on: an unplanned one, and step 4 of a sequence for every fitted
segment not yet bypassed (06 R143, 10 R249). -/
def Live.confirmFrom (L : Live) (g : Seg) (s : Nat) : Option Nat :=
  let step4 := L.stepOf == 4 && L.fittedCtl s && !segBypassed g && !g.hard && g.confirm.isNone
  if step4 ∨ g.confirm = some 0 then some (L.epoch + 2) else g.confirm

/-- One segment of the release: its duty through the pulse rule, or bypassed (06 R115, R120; 05 R94). -/
def Live.segRelease (L : Live) (d : List (Nat × Rat)) (s : Nat) : Seg × SegOut :=
  let g := L.segAt s
  let base := L.epoch + 2
  match d.find? (fun x => x.1 == s), L.conv.slots.find? (fun x => x.1 == s) with
  | some x, some y =>
    let p := pulse g base L.conv.cidx y.2 L.conv.nact g.ins x.2
    ({ g with duty := p.1, lastEdge := p.2.1, fracQ := (p.2.2.1 :: g.fracQ).take 3, ins := p.2.2.2 },
     { modulate := true, permit := true, pslot := y.2, duty := p.1 })
  | _, _ =>
    ({ g with
        duty := 0
        confirm := L.confirmFrom g s
        lastEdge := if g.ins then some ((base : Int) * 10000000) else g.lastEdge
        fracQ := (0 :: g.fracQ).take 3
        ins := false },
     { pslot := (match L.conv.slots.find? (fun x => x.1 == s) with | some y => y.2 | none => 0) })

/-- The output vector of the sample (04 R78; 06 R114, R115): the duties of V_ins*, of the match in phases 2 and 3, held ones in
steps 2 and 3 of a sequence, else every segment bypassed. CIDX counts on. -/
def Live.release (L : Live) : Live :=
  let L := if L.conv.cidx = 0 && !L.conv.act.isEmpty && !L.holdsDuty then L.carrierBoundary else L
  let sv := L.vSum L.conv.act
  let matching := L.mode.st == .precharge && (L.conv.phase == 2 || L.conv.phase == 3)
  let r := if L.drives then L.duties L.eng.vinsCmd
    else if matching || L.holdsDuty then L.duties (L.conv.d * sv)
    else (L.conv.d, [])
  let outs := (List.range 16).map (L.segRelease r.2)
  let n := L.conv.nact
  let ins := sumQ ((List.range 16).map (fun s => q ((outs.getD s ({}, {})).2.duty : Int) / 65535 * L.vSeg s))
  { L with
    seg := outs.map (·.1)
    conv := { L.conv with
      d := r.1
      vIns := ins
      rel := { nact := (if n = 0 then 4 else n), cidx := (if n = 0 then 0 else L.conv.cidx), segs := outs.map (·.2) }
      cidx := if n = 0 then 0 else (L.conv.cidx + 1) % (2 * n) } }

/-- A late table releases the previous sample's output unchanged; CIDX counts on (04 R79). -/
def Live.releaseOld (L : Live) : Live :=
  let n := L.conv.nact
  { L with
    seg := L.seg.map (fun (g : Seg) => { g with fracQ := (g.fracQ.headD 0 :: g.fracQ).take 3 })
    conv := { L.conv with cidx := if n = 0 then 0 else (L.conv.cidx + 1) % (2 * n) } }

/-! ### The whole sample -/

/-- Step 1 of a shut-down ends in the sample that finds it: |i| ≤ I_dead, or 100 ms after both limits reached zero (03 R58); the
other steps end by what has been shown (10 R249). -/
def Live.seqSample (L : Live) : Live :=
  match L.mode.seq, L.conv.zeroAt with
  | some s, some t =>
    if s.kind = .shutdown ∧ s.step = 1 ∧ t + ms 100 ≤ L.time.clk then L.toStep2.seqOn else L.seqOn
  | _, _ => L.seqOn

/-- A natural number among the digest's quantities. -/
def qn (x : Nat) : Rat := q (x : Int)

/-- E of a channel in percent of its limit, rounded down (15 R395). -/
def Live.ePercent (L : Live) (e : Rat) : Rat :=
  q (divQ (e * 100) (q (L.ctl 0x401105) / 1000 * L.iMax * L.iMax)).floor

/-- SEGCMD of a segment: PSLOT, MODE modulate, SCMD bypass (15 R389). -/
def segCmdByte (o : SegOut) : Nat := o.pslot % 16 + 16 * ofBits [o.modulate, !o.permit]

/-- The bytes from `a` on of a memory in its canonical form, `n` of them. -/
def denseBytes : Nat → Nat → List Host.Cell → Bytes
  | 0, _, _ => []
  | n + 1, a, [] => 0 :: denseBytes n (a + 1) []
  | n + 1, a, c :: m => if c.1 = a then c.2 :: denseBytes n (a + 1) m else 0 :: denseBytes n (a + 1) (c :: m)

/-- Quantities of SDIG, in the order of 15 R395; logic state, L and the CRC of V and R as of the last course boundary. -/
def Live.stateDigest (snap L : Live) : Nat :=
  let cmd := fun (s : Nat) => qn (segCmdByte (L.conv.rel.segs.getD s {}))
  crc32c (Config.digestBytes (
    [qn L.ks.epoch, qn (tableId L.eng.tab), qn L.mode.st.code, qn L.stepOf, qn L.conv.mode, L.target L.conv.mode] ++
    L.conv.act.map qn ++ [qn L.conv.nact, qn L.conv.cidx] ++ (List.range 16).map cmd ++ [qn L.conv.lfsr] ++
    L.seg.map (fun (g : Seg) => g.grant) ++ L.seg.map (fun (g : Seg) => qn g.age) ++ L.conv.queue.map qn ++
    [qn L.chi.st, qn L.chi.start, qn L.chi.theta, qn L.chi.prbs, qn L.cap.st, qn (snap.getN 0x440001), qn snap.lgc.l,
     qn (crc32c (denseBytes 0x5000 0 snap.lgc.vm.mem))] ++
    [L.ePercent L.saf.eA, L.ePercent L.saf.eB]))

/-- Inputs up to the freeze: commits, carries, measurements, sums (04 R78, R80). -/
def Live.sampleIn (L : Live) (x : SampleIn) : Live :=
  let L := { L with cap := { L.cap with
    notice := L.cap.eventSeen
    eventSeen := false } }
  let L := ((L.crossing x.badCrossing).takeCommit.capCommands.rebase.measure x).endFrame.setDir
  let L := L.sourceEvent.settleX
  L.quiet.shareSample.sumHeat.countEnergy

/-- Set-point, limits and ramp (06 R124 to R132). -/
def Live.sampleRamp (L : Live) : Live :=
  let L := L.modeChange.1.headroomNow.shutLimit.setLimits.limitEvents.rampStep
  let L := L.softStart.busWatch
  { L with conv := { L.conv with flags := L.limFlags } }

/-- Engine, plumb check, chisel and EST notice (07). -/
def Live.sampleEngine (L : Live) (x : SampleIn) : Live :=
  let L := L.chiselBegin.chiselSignal.runEngine x
  (if x.tableLate then L else L.plumb).tellEst

/-- What follows the release: capture, derating, sequence, digest (04 R78; 07 R190; 03 R53). -/
def Live.sampleOut (snap L : Live) (c₀ : List Rat) (chiselNow : Bool) : Live :=
  let L := ((L.capture chiselNow).derate).seqSample
  { L with twin := { L.twin with ownCarry := [c₀, L.carries], sdig := Live.stateDigest snap L } }

/-- The control sample (04 R78). -/
def Live.sample (snap L : Live) (x : SampleIn) : Live :=
  let was := L.chi.begun
  let L := L.sampleIn x
  let c₀ := L.carries
  let L := L.sampleRamp.sampleEngine x
  let L := if x.tableLate then L.releaseOld else L.release
  Live.sampleOut snap L c₀ (L.chi.begun && !was)

/-- CONTROL_SAMPLE (04 R78): it runs in every state from STANDBY on (07 R165); a breakpoint on a stage halts the island in its first
sample, before anything of it is seen (18 R449). A crossing found in error is reported whether or not the sample runs (04 R75); before
STANDBY it takes no trip (log 35). -/
def execControlSample (i : SampleIn) (s : State) : Host.Outcome State Fault Refusal :=
  run s (fun L =>
    if bitOf L.dbg.halted 0 ∨ !L.fromStandby then L.crossing i.badCrossing
    else match L.stageBrk with
      | some b => (L.crossing i.badCrossing).brkIsland b
      | none => Live.sample s.snap L i)

/-- The per-segment I²t decays by the time without power once module time is first synchronised (03 R66). -/
def Live.heatDecay (L : Live) : Live :=
  let off := L.time.mtime - (L.time.clk - L.mode.bootClk) - L.ret.at_
  if 2 ^ 63 ≤ L.ret.at_ ∨ off = 0 then L
  else
    let f := expQ (-(q (off : Int) / 1000000000) / 1200)
    { L with seg := L.seg.map (fun (g : Seg) => { g with q := g.q * f }) }

/-- A step of module time is applied, recorded with the old and the new time; the first one ends the provisional count, whose origin
is the step itself (04 R82, 11 R308). A module that drives by now never steps: a step armed before is dropped and its offset slewed.
The next commit falls on the first course boundary after the step, and a commit still to take effect keeps its delay. -/
def Live.applyStep (L : Live) : Live :=
  let d := L.time.stepPending
  if d = 0 ∧ !L.time.firstPending then L
  else if L.timeDriving ∧ !L.time.firstPending then { L with time := { L.time with stepPending := 0 } }
  else
    let old := L.time.mtime
    let first := L.time.firstPending
    let age := L.flashNow
    let L := { L with time := { L.time with
      mtime := ((old : Int) + d).toNat
      lastBoundary := ((old : Int) + d).toNat / L.course * L.course
      stepPending := 0
      firstPending := false
      synced := L.time.synced || first
      provisional := L.time.provisional && !first } }
    let L := { L with ks := { L.ks with ctlDue := L.ks.ctlDue.map (fun t => ((t : Int) + d).toNat) } }
    let L := L.put 0x220007 d
    let L := if first then
        { L.heatDecay with upd := { L.upd with flashRef := some (L.upd.flashRef.getD (L.time.mtime, age)) } } else L
    let L := if first then (L.put 0x220018 d.toNat).ev 115 1 0 [] (leBytes 8 d.toNat) else L
    L.ev 115 3 0 [] (leBytes 8 old ++ leBytes 8 L.time.mtime)

/-- SAMPLE_STROBE (04 R78): the next sample instant; a pending step of module time is applied there (04 R82). -/
def execSampleStrobe (s : State) : Host.Outcome State Fault Refusal :=
  run s (fun L => (L.pass (10000 - L.time.mtime % 10000)).takeHits.applyStep)

/-! ### Chisel and capture -/

/-- CHISEL_COMPLETE (07 R183): N samples after its start the running signal is complete. -/
def execChiselComplete (s : State) : Host.Outcome State Fault Refusal :=
  runIn 0 s (fun L =>
    if L.chi.st = 1 ∨ L.chi.st = 2 then
      let L := L.pass ((L.chi.start + L.ctlN 0x320005) * 10000 - L.time.mtime)
      { L with chi := { L.chi with st := 4, sig := 0, begun := false } }.ev 52 2 0 [] (leBytes 8 L.epoch)
    else L)

/-- CAPTURE_COMPLETE (07 R190): the buffer is full. -/
def execCaptureComplete (s : State) : Host.Outcome State Fault Refusal :=
  runIn 0 s (fun L =>
    if L.cap.st = 3 ∧ 16384 ≤ L.cap.buf.length then
      { L with cap := { L.cap with st := 4 } }.ev 53 2 0 [] (leBytes 8 L.epoch)
    else L)

/-- CHISEL_START (07 R186). -/
def execChiselStart (sess : Sess) (s : State) : Host.Outcome State Fault Refusal :=
  run s (fun L => L.command sess 2 0x320024 (leBytes 1 1) (fun L => L.orAbort (L.cmdChisel 1 (L.time.mtime + 200000))))

/-- CHISEL_STOP (07 R186). -/
def execChiselStop (sess : Sess) (s : State) : Host.Outcome State Fault Refusal :=
  run s (fun L => L.command sess 2 0x320024 (leBytes 1 2) (fun L => L.orAbort (L.cmdChisel 2 (L.time.mtime + 200000))))

/-- CAPTURE_ARM (07 R190). -/
def execCaptureArm (sess : Sess) (s : State) : Host.Outcome State Fault Refusal :=
  run s (fun L => L.command sess 2 0x32010C (leBytes 1 1) (fun L => L.orAbort (L.cmdCapture 1 (L.time.mtime + 200000))))

/-- CAPTURE_FORCE_TRIGGER (07 R190). -/
def execCaptureForceTrigger (sess : Sess) (s : State) : Host.Outcome State Fault Refusal :=
  run s (fun L => L.command sess 2 0x32010C (leBytes 1 2) (fun L => L.orAbort (L.cmdCapture 2 (L.time.mtime + 200000))))

/-- CAPTURE_ABORT (07 R190). -/
def execCaptureAbort (sess : Sess) (s : State) : Host.Outcome State Fault Refusal :=
  run s (fun L => L.command sess 2 0x32010C (leBytes 1 3) (fun L => L.orAbort (L.cmdCapture 3 (L.time.mtime + 200000))))

end Sys2Proof.Machine
end

