-- ==== Sys2Proof/Machine/Node.lean ====
section
/-! DEFINITION. The contract side of a segment node: its command frames, token, modulator, uplink, hard-bypass latch and
management channel (05 R87 to R110). -/

namespace Sys2Proof.Machine

/-- A downlink command frame, its fields (05 R91, R92). -/
structure DownFrame where
  /-- TOK. -/
  tok : Bool
  /-- SIDE of byte 1 and of the safety word. -/
  side : Nat × Nat
  /-- TGEN. -/
  tgen : Nat
  /-- SEG of the safety word. -/
  seg : Nat
  /-- SEQ of the safety word. -/
  seq : Nat
  /-- The command it carries. -/
  cmd : NodeCmd
deriving DecidableEq, Repr

/-- Big-endian check at offset o (05 R91, R92). -/
def beAt (bs : Bytes) (o : Nat) : Nat := 256 * byteAt bs o + byteAt bs (o + 1)

/-- The frame's own checks: first character, length, FCRC, SCHK, ranges and reserved bits (05 R87, R91, R93). -/
def parseDown (tag : Nat) (bs : Bytes) : Option DownFrame :=
  let b1 := byteAt bs 1
  let nact := fld (byteAt bs 3) 4 0
  let cidx := fld (byteAt bs 4) 4 0
  let mode := fld b1 5 4
  let pslot := fld b1 3 0
  let scmd := byteAt bs 8
  if bs.length = 16 ∧ byteAt bs 0 = 0xBC ∧ fcrc (slice bs 1 13) = beAt bs 14 ∧ schkDown tag (slice bs 8 4) = beAt bs 12 ∧
      (scmd = 0x3C ∨ scmd = 0xC3) ∧ mode ≤ 1 ∧ 4 ≤ nact ∧ nact ≤ 16 ∧ pslot < nact ∧ cidx < 2 * nact ∧
      fld (byteAt bs 3) 7 5 = 0 ∧ fld (byteAt bs 4) 7 5 = 0 ∧ byteAt bs 7 = 0 ∧ fld (byteAt bs 9) 7 5 = 0 then
    some { tok := bitOf b1 7, side := (fld b1 6 6, fld (byteAt bs 9) 4 4), tgen := byteAt bs 2,
           seg := fld (byteAt bs 9) 3 0, seq := le bs 10 2,
           cmd := { permit := scmd == 0x3C, modulate := mode == 1, pslot := pslot, nact := nact, cidx := cidx,
                    duty := le bs 5 2 } }
  else none

/-- Default of a byte of a writable register (05 R110); THR_CRC states none and reads 0 (log 6). -/
def nodeRegDefault (a : Nat) : Int :=
  if a = 0x101 ∨ a = 0x110 ∨ a = 0x111 ∨ a = 0x114 ∨ a = 0x116 then 255
  else if a = 0x115 ∨ a = 0x117 then 127 else 0

/-- A byte of a writable register. -/
def Node.reg (n : Node) (a : Nat) : Nat := ((n.regs.find a).getD (nodeRegDefault a)).toNat

/-- TAG (05 R110). -/
def Node.tag (n : Node) : Nat := n.reg 0x100

/-- SEGMENT (05 R110). -/
def Node.segment (n : Node) : Nat := n.reg 0x101

/-- Tag and segment are commissioned: IDENT (05 R92, R96). -/
def Node.ident (n : Node) : Bool := decide (1 ≤ n.tag) && decide (n.tag ≤ 33) && decide (n.segment ≤ 15)

/-- Some threshold still holds its default (05 R110). -/
def Node.unset (n : Node) : Bool :=
  n.reg 0x110 + 256 * n.reg 0x111 == 0xFFFF || n.reg 0x112 + 256 * n.reg 0x113 == 0 ||
  n.reg 0x114 + 256 * n.reg 0x115 == 0x7FFF || n.reg 0x116 + 256 * n.reg 0x117 == 0x7FFF

/-- A byte of any register of node s; unassigned bytes inside the two blocks read 0 (log 32). -/
def Node.byte (n : Node) (s a : Nat) : Nat :=
  if a < 2 then (if a = 1 then 1 else 0)
  else if a < 4 then Config.nodeMaker s / 256 ^ (a - 2) % 256
  else if a < 0x14 then ((Config.nodeModel s).getD (a - 4) 0).toNat
  else if a < 0x18 then Config.nodeSerial s / 256 ^ (a - 0x14) % 256
  else if a < 0x1C then Config.nodeImage s n.image / 256 ^ (a - 0x18) % 256
  else if a = 0x1C then Config.nodeCells s % 256
  else if a = 0x1D then 8
  else if a = 0x1E then 2
  else if a = 0x20 ∨ a = 0x21 then Config.nodeDeadTime s / 256 ^ (a - 0x20) % 256
  else if 0x100 ≤ a then n.reg a else 0

/-- Serial comparison of generations: T is newer than G (05 R99). -/
def newerGen (t g : Nat) : Bool :=
  let d := (t + 256 - g % 256) % 256
  1 ≤ d && d ≤ 127

/-- Token port (0 none, 1 port 0, 2 port 1), generation, conflict, and the command, from the claims of both ports (05 R99).
DESIGN CHOICE (log 174): of two claims whose generations differ by exactly 128 neither is newer by R99; with P none port 0 is then
taken, with both newer than G the frame from P, and CONFLICT is not set. DESIGN CHOICE (log 204): where P's own port claims a
newer generation while the other claims G or one older than G - 1, the newer claim moves G and CONFLICT stays clear. -/
def tokenDecision (p g : Nat) (c0 c1 : Option (Nat × NodeCmd)) : Nat × Nat × Bool × Option NodeCmd :=
  if p = 0 then
    match c0, c1 with
    | none, none => (0, g, false, none)
    | some a, none => (1, a.1, false, some a.2)
    | none, some b => (2, b.1, false, some b.2)
    | some a, some b =>
      if newerGen b.1 a.1 then (2, b.1, false, some b.2)
      else (1, a.1, a.1 == b.1, some a.2)
  else
    let own := if p = 1 then c0 else c1
    let oth := if p = 1 then c1 else c0
    let q := 3 - p
    match own, oth with
    | none, none => (p, g, false, none)
    | some a, none =>
      if newerGen a.1 g then (p, a.1, false, some a.2)
      else (p, g, false, if a.1 = g then some a.2 else none)
    | none, some b =>
      if newerGen b.1 g then (q, b.1, false, some b.2)
      else (p, g, (b.1 + 1) % 256 != g, none)
    | some a, some b =>
      match newerGen a.1 g, newerGen b.1 g with
      | true, true =>
        if a.1 = b.1 then (p, g, true, none)
        else if newerGen b.1 a.1 then (q, b.1, false, some b.2)
        else (p, a.1, false, some a.2)
      | true, false => (p, a.1, false, some a.2)
      | false, true => (q, b.1, false, some b.2)
      | false, false => (p, g, (b.1 + 1) % 256 != g, if a.1 = g then some a.2 else none)

/-- The claim of a port in this superframe. -/
def Node.claim (n : Node) (port : Nat) : Option (Nat × NodeCmd) := (n.claims.find? (fun c => c.1 == port)).map (·.2)

/-- Settle token and command from the claims received so far, judged from the superframe's start (05 R99). -/
def Node.settle (n : Node) : Node :=
  let d := tokenDecision n.base.1 n.base.2 (n.claim 0) (n.claim 1)
  { n with
    tport := d.1
    gen := d.2.1
    conflict := d.2.2.1
    next := d.2.2.2
    source := (if d.1 = 0 then n.source else d.1 - 1) }

/-- A frame that meets every condition of R93 but the last, with TOK = 1, is a claim. An uncommissioned SEGMENT (FFH) has no value
to compare SEG with, so SEG is then not tested and commissioning can take P (05 R92, R111; DEDUCED, log 175). -/
def Node.rxDown (n : Node) (port : Nat) (bs : Bytes) (lineOk : Bool) : Node :=
  match (if lineOk then parseDown n.tag bs else none) with
  | none => n
  | some f =>
    if (f.seg = n.segment ∨ n.segment = 255) ∧ f.side = (port, port) ∧ f.seq = (n.epoch + 1) % 65536 ∧ f.tok then
      { n with claims := (port, f.tgen, f.cmd) :: n.claims.filter (fun c => c.1 != port) }.settle
    else n

/-- Carrier against duty at the superframe's start: inserted while c < d (05 R94). -/
def carrierIn (c : NodeCmd) : Bool :=
  let tc := c.nact * 20
  let u := q (((c.cidx * 10 + tc - (c.pslot * 20) % tc) % tc : Nat) : Int) / q (tc : Int)
  decide (1 - absQ (2 * u - 1) < q (c.duty : Int) / 65535)

/-- The node bypasses on its command: one that asks for bypass, or none yet (05 R93, R108). -/
def Node.bypassed (n : Node) : Bool := match n.cmd with | none => true | some c => !(c.permit && c.modulate)

/-- The frame command in force is MODE bypass (05 R105, R109): its MODE field alone, whatever SCMD says; with no command none is in
force (DEDUCED, log 176). -/
def Node.modeBypass (n : Node) : Bool := match n.cmd with | none => false | some c => !c.modulate

/-- NSTAT (05 R108). Where several states hold at once the order below decides: UPDATE, LATCHED, INIT, LINKUP, LOST, HOLD, then READY
or DRIVEN (DESIGN CHOICE, log 177). -/
def Node.state (n : Node) : Nat :=
  if n.updating then 7
  else if n.latch then 6
  else if !n.lock.1 && !n.lock.2 then 0
  else if !n.aligned then 1
  else if n.miss = 4 then 5
  else if 1 ≤ n.miss then 4
  else if n.bypassed then 2 else 3

/-- May the high-side switch conduct on the command in force: driven or held, aligned, no latch, no desaturation, thresholds set (05
R94, R95, R102, R110)? -/
def Node.mayInsert (n : Node) : Bool :=
  match n.cmd with
  | none => false
  | some c => c.permit && c.modulate && n.aligned && !n.latch && !n.desatHigh && !n.desatLow && !n.lost && !n.unset && !n.updating

/-- Does the node insert at the superframe's start (05 R94)? -/
def Node.inserts (n : Node) : Bool :=
  match n.cmd with
  | none => false
  | some c => n.mayInsert && carrierIn c

/-- Edges of the superframe, ns after its start at multiples of 2 ns, and the state at its end (05 R94, R95). -/
def Node.edgeTimes (n : Node) : List Nat × Bool :=
  match n.mayInsert, n.cmd with
  | true, some c =>
    let e := edgesOf n.endIns c.cidx c.pslot c.nact (q (c.duty : Int) / 65535)
    (e.1.map (fun x => (roundQ (x * 10000)).toNat), e.2)
  | _, _ => (if n.endIns then [0] else [], false)

/-- Bypassed at once: the high side off, the low side on (05 R95, R103). -/
def Node.bypassNow (n : Node) : Node := { n with inserted := false, edges := [], endIns := false, low := true }

/-- MISS and the command of a superframe (05 R95, R106). -/
def Node.take (n : Node) : Node :=
  match n.next with
  | some c => { n with cmd := some c, next := none, miss := 0, lost := false }
  | none =>
    let m := min (n.miss + 1) 4
    if m = 4 then { n with miss := 4, lost := true }
    else { n with miss := m, cmd := n.cmd.map (fun c => { c with cidx := (c.cidx + 1) % (2 * c.nact) }) }

/-- ALIGNED: set after 100 consecutive superframes within the bound, cleared after any 2 outside it (05 R102). -/
def Node.align (n : Node) (inBound : Bool) : Node :=
  let ok := inBound && (n.lock.1 || n.lock.2)
  if ok then
    let k := min (n.inBound + 1) 100
    if 100 ≤ k ∧ !n.aligned then { n with inBound := k, aligned := true, outBound := 0 } else { n with inBound := k }
  else
    let o := n.outBound + 1
    { n with inBound := 0, outBound := min o 2, aligned := n.aligned && decide (o < 2) }

/-- Bytes of a WRITE land at the superframe's start (05 R109). -/
def Node.applyWrites (n : Node) : Node :=
  let put := fun (st : Store) (a : Nat) (b : Byte) => st.put (nodeRegDefault a) a b.toNat
  { n with
    regs := n.staged.foldl (fun st w => (w.2.zipIdx).foldl (fun st x => put st (w.1 + x.2) x.1) st) n.regs
    staged := [] }

/-- SFLAGS (05 R98, R110). NODE_FAULT of a threshold at its default goes with the default, as R110 has it ("while"); only a NODE_FAULT
of another cause waits for a LATCH_RELEASE or restart (R98; DEDUCED, log 178). -/
def Node.sflags (n : Node) : Nat :=
  n.flags % 16 + (if n.bridgeFault then 16 else 0) + (if n.latch then 32 else 0) + (if n.nodeFault || n.unset then 64 else 0)

/-- The uplink safety word (05 R92, R98). -/
def Node.word (n : Node) : Bytes :=
  let b : Bytes := [if n.sflags = 0 then 0x3C else 0xC3, BitVec.ofNat 8 n.sflags] ++ leBytes 2 n.epoch
  b ++ beBytes 2 (if n.ident then schkUp n.segment n.tag b else schkUp 0 0 b)

/-- Received power a port reports, 0.01 dBm: 8000H while both ports are dark, at least −30 dBm with comma lock, else either; the
power is measured, a free value (05 R96, R107; log 15). -/
def Node.rxPower (n : Node) (port v : Nat) : Nat :=
  let lit := ofSigned 16 (v % 3501 - 3000)
  let lock := if port = 0 then n.lock.1 else n.lock.2
  if n.dark ≠ 0 then 0x8000 else if lock then lit else if v % 2 = 0 then 0x8000 else lit

/-- DATA of the sample set being sent, in phase q (05 R97); reserved bytes are 0 (00 R6). -/
def Node.dataBytes (n : Node) (phase : Nat) : Bytes :=
  if phase < 4 then ((List.range 8).flatMap (fun i => leBytes 2 (n.sampSent.getD (8 * phase + i) 0xFFFF))) ++ List.replicate 4 0
  else (List.range 10).flatMap (fun i => leBytes 2 (n.sampSent.getD (32 + i) 0x8000))

/-- A sample set: free values, for the cells are measured; cells beyond the fitted count carry FFFFH (05 R97, 00 R4; log 15). -/
def freshSet (cells : Nat) (free : Nat → Nat) : List Nat :=
  (List.range 42).map (fun i => if i < 32 ∧ cells ≤ i then 0xFFFF else free i % 65536)

/-- A set is taken at each t_5s, and the one before is sent in the five superframes that follow (05 R97). -/
def Node.sample (n : Node) (cells : Nat) (free : Nat → Nat) : Node :=
  if n.epoch % 5 = 0 then { n with sampSent := n.sampNow, sampNow := freshSet cells free } else n

/-- The comparator flags of one superframe: a condition present sets its flag, which clears once the condition has been absent for
100 ms (05 R98). Whether a condition is present is measured, a free bit (log 15). -/
def Node.compare (n : Node) (present : Nat) : Node :=
  let age := (List.range 4).map (fun i => if bitOf present i then 0 else min (n.flagAge.getD i 0 + 1) 10000)
  { n with
    flagAge := age
    flags := ofBits ((List.range 4).map (fun i => bitOf present i || (bitOf n.flags i && decide (age.getD i 0 < 10000)))) }

/-- The uplink frame on a port (05 R96, R97); segment voltage and turnaround are measured, so free values stand for them (log 15). -/
def Node.uplink (n : Node) (port : Nat) (free : Nat → Nat) : Bytes :=
  let b3 := n.state + (if n.aligned then 8 else 0) + (if n.ident then 16 else 0) + (if n.cmptest then 32 else 0)
  let b4 := n.tport + 4 * n.miss + 32 * port + (if n.conflict then 64 else 0)
  let bst := ofBits [n.inserted, n.latch, n.desatHigh, n.desatLow, n.gateFault, n.lost]
  let body := leBytes 2 n.epoch ++ leBytes 1 b3 ++ leBytes 1 b4 ++ leBytes 1 n.gen ++ leBytes 1 bst ++ leBytes 2 (free 0) ++
    leBytes 2 (free (1 + port)) ++ leBytes 1 (n.epoch % 5) ++ leBytes 2 ((n.epoch / 5 + 65535) % 65536) ++
    n.dataBytes (n.epoch % 5) ++ leBytes 2 (n.rxPower port (free (3 + port))) ++ n.word
  0xBC :: body ++ leBytes 4 (crc32c body)

/-- Free values of one superframe, by the counter of log 15. -/
def freeNat (base i : Nat) : Nat := (Config.freeInt (base + i)).toNat

/-- Change node k. -/
def Live.modNode (L : Live) (k : Nat) (f : Node → Node) : Live := { L with node := L.node.modify k f }

/-- Node k. -/
def Live.nodeAt (L : Live) (k : Nat) : Node := L.node.getD k {}

/-- What the node's own bridge, comparators and sensors do in a superframe: the edges of the command (05 R94, R95), the comparators
and the gate supply (05 R96, R98, measured: log 15), the sample set (05 R97). A low-side desaturation keeps the low side as
commanded, off only where the command would insert in this state (R95, R103, R108). -/
def Node.bridge (n : Node) (cells : Nat) (free : Nat → Nat) : Node :=
  let e := n.edgeTimes
  let n := { n with
    inserted := n.inserts
    edges := e.1
    endIns := e.2
    low := !{ n with desatLow := false }.inserts
    gateFault := bitOf (free 6) 0 }
  (n.compare (free 5)).sample cells (fun i => free (7 + i))

/-- A superframe of the node: epoch, command, alignment, writes, latch pattern age, bridge and sensors, uplink on both ports. CONFLICT
of the last superframe is reported and then begins anew (05 R96). -/
def Live.nodeFrame (L : Live) (k : Nat) (inBound : Bool) : Live :=
  let n := L.nodeAt k
  if !n.powered then L
  else
    let fr := freeNat L.free
    let n := { n with epoch := n.epoch + 1 }
    let n := ((n.take).align inBound).applyWrites
    let n := { n with
      claims := []
      base := (n.tport, n.gen)
      patternAge := n.patternAge.map (· + 1) }
    let n := n.bridge (Config.nodeCells k) fr
    let n := { n with nstat := n.state }
    ({ L with free := L.free + 49 }.modNode k (fun _ => { n with conflict := false })).emit (.uplink k 0 (n.uplink 0 fr))
      |>.emit (.uplink k 1 (n.uplink 1 fr))

/-- NODE_SUPERFRAME_START (05 R94 to R97, R101, R102, R106, R108). -/
def execNodeSuperframeStart (node : Fin 16) (inBound : Bool) (s : State) : Host.Outcome State Fault Refusal :=
  .next { s with live := s.live.nodeFrame node inBound }

/-- NODE_DOWNLINK_FRAME_RX (05 R87, R93, R99). -/
def execNodeDownlinkFrameRx (node : Fin 16) (port : Fin 2) (frame : Bytes) (lineOk : Bool) (s : State) :
    Host.Outcome State Fault Refusal :=
  .next { s with live := s.live.modNode node (fun n => if n.powered then n.rxDown port frame lineOk else n) }

/-- NODE_DESATURATION (05 R95): of the high side bypasses at once; of the low side turns the high side off and keeps the low side as
commanded; both set BRIDGE_FAULT. -/
def execNodeDesaturation (node : Fin 16) (high : Bool) (s : State) : Host.Outcome State Fault Refusal :=
  .next { s with live := s.live.modNode node (fun n =>
    if !n.powered then n
    else if high then { n with desatHigh := true, bridgeFault := true }.bypassNow
    else { n with desatLow := true, bridgeFault := true, inserted := false, edges := [], endIns := false }) }

/-- The latch sets: bypassed whatever the token (05 R103). -/
def Node.setLatch (n : Node) : Node := { n with latch := true, nstat := if n.updating then 7 else 6 }.bypassNow

/-- HARD_BYPASS_LATCH_SET (05 R103): 8 consecutive periods of the pattern on either port. -/
def execHardBypassLatchSet (node : Fin 16) (periods : Nat) (s : State) : Host.Outcome State Fault Refusal :=
  .next { s with live := s.live.modNode node (fun n =>
    if 8 ≤ periods then { n with patternAge := some 0 }.setLatch else n) }

/-- NODE_PORTS_DARK (05 R107): both ports dark for 100 µs set the latch. -/
def execNodePortsDark (node : Fin 16) (us : Nat) (s : State) : Host.Outcome State Fault Refusal :=
  .next { s with live := s.live.modNode node (fun n =>
    let n := { n with dark := us, lock := (false, false) }
    if 100 ≤ us then n.setLatch else n) }

/-- NODE_COMMA_LOCK (05 R108). -/
def execNodeCommaLock (node : Fin 16) (port : Fin 2) (s : State) : Host.Outcome State Fault Refusal :=
  .next { s with live := s.live.modNode node (fun n =>
    if !n.powered then n
    else
      let n := { n with
        lock := (if port = 0 then (true, n.lock.2) else (n.lock.1, true))
        dark := 0
        source := (if n.tport = 0 then (if n.lock.1 || port == 0 then 0 else 1) else n.source) }
      { n with nstat := n.state }) }

/-- NODE_COMPARATOR_SELFTEST (05 R98). -/
def execNodeComparatorSelftest (node : Fin 16) (passed : Bool) (s : State) : Host.Outcome State Fault Refusal :=
  .next { s with live := s.live.modNode node (fun n => if n.powered then { n with cmptest := !passed } else n) }

/-! ### Management (05 R109) -/

/-- An uplink management frame. -/
def mgmtResp (op tag result : Nat) (data : Bytes) : Bytes :=
  let b := leBytes 1 (op + 128) ++ leBytes 1 tag ++ leBytes 1 result ++ leBytes 1 data.length ++ data
  0xFB :: b ++ leBytes 2 (fcrc b) ++ [0xFD]

/-- The request comes from the token port (05 R109). -/
def Node.fromP (n : Node) (port : Nat) : Bool := n.tport == port + 1

/-- Restart of the node logic: every register but TAG and SEGMENT at its default, no token, no lock (05 R108, R110). The latch, which
holds while any supply is present, and what it has received stay (05 R103). -/
def Node.restart (n : Node) : Node :=
  let keep := fun (st : Store) (a : Nat) => match n.regs.find a with | some v => st.put (nodeRegDefault a) a v | none => st
  { powered := true, regs := keep (keep [] 0x100) 0x101, image := n.image, latch := n.latch, patternAge := n.patternAge,
    dark := n.dark, nstat := if n.latch then 6 else 0 }

/-- NODE_POWER_UP (05 R108, R109): INIT, bypassed; an activated image starts and is answered now. -/
def execNodePowerUp (node : Fin 16) (s : State) : Host.Outcome State Fault Refusal :=
  let L := s.live
  let n := L.nodeAt node
  let L := match n.act with
    | some a => (L.modNode node (fun n => { n.restart with image := a.2.2 })).emit
        (.nodeResp node a.1 (mgmtResp 0x11 a.2.1.toNat 0 []))
    | none => L.modNode node Node.restart
  .next { s with live := L }

/-- Are all these bytes inside the two register blocks (05 R110)? -/
def nodeReadable (addr len : Nat) : Bool := addr + len ≤ 0x22 || (0x100 ≤ addr && addr + len ≤ 0x11A)

/-- Result of a WRITE before it is taken (05 R109, R110). -/
def Node.writeResult (n : Node) (port addr : Nat) (data : Bytes) : Nat :=
  let len := data.length
  let tagOk := fun (v : Nat) => decide (v ≤ 33)
  let segOk := fun (v : Nat) => decide (v ≤ 15) || v == 255
  if n.updating then 6
  else if addr = 0x104 ∧ len = 2 then (if port ≠ 0 then 3 else if le data 0 2 ≤ 16000 then 0 else 7)
  else if addr = 0x106 ∧ len = 2 then (if port ≠ 1 then 3 else if le data 0 2 ≤ 16000 then 0 else 7)
  else if (addr = 0x100 ∧ (len = 1 ∨ len = 2)) ∨ (addr = 0x101 ∧ len = 1) then
    if !n.fromP port then 3
    else if addr = 0x100 then (if tagOk (byteAt data 0) ∧ (len = 1 ∨ segOk (byteAt data 1)) then 0 else 7)
    else if segOk (byteAt data 0) then 0 else 7
  else if addr = 0x110 ∧ len = 10 then
    if !n.fromP port then 3
    else if fcrc (data.take 8) ≠ le data 8 2 then 5
    else
      let i16 := fun (o : Nat) => toSigned 16 (le data o 2)
      if 10000 ≤ le data 0 2 ∧ le data 0 2 ≤ 50000 ∧ 5000 ≤ le data 2 2 ∧ le data 2 2 ≤ 40000 ∧
          0 ≤ i16 4 ∧ i16 4 ≤ 1000 ∧ 0 ≤ i16 6 ∧ i16 6 ≤ 1500 then 0 else 7
  else 2

/-- A request answered with a result and data. -/
def Live.nodeAnswer (L : Live) (k port op tag result : Nat) (data : Bytes) : Live :=
  L.emit (.nodeResp k port (mgmtResp op tag result data))

/-- MGMT_READ (05 R109). -/
def execMgmtRead (node : Fin 16) (port : Fin 2) (tag : Byte) (addr len : Nat) (s : State) : Host.Outcome State Fault Refusal :=
  let L := s.live
  let n := L.nodeAt node
  if !n.powered then .next s
  else if n.updating then .next { s with live := L.nodeAnswer node port 1 tag.toNat 6 [] }
  else if 40 < len ∨ !nodeReadable addr len then .next { s with live := L.nodeAnswer node port 1 tag.toNat 2 [] }
  else
    let data := (List.range len).map (fun i => BitVec.ofNat 8 (n.byte node (addr + i)))
    .next { s with live := L.nodeAnswer node port 1 tag.toNat 0 data }

/-- MGMT_WRITE (05 R109, R110): applied together at the next superframe start. -/
def execMgmtWrite (node : Fin 16) (port : Fin 2) (tag : Byte) (addr : Nat) (data : Bytes) (s : State) :
    Host.Outcome State Fault Refusal :=
  let L := s.live
  let n := L.nodeAt node
  if !n.powered then .next s
  else
    let r := n.writeResult port addr data
    let L := if r = 0 then L.modNode node (fun n => { n with staged := n.staged ++ [(addr, data)] }) else L
    .next { s with live := L.nodeAnswer node port 2 tag.toNat r [] }

/-- Result of a request that needs P and MODE bypass in force (05 R105, R109). -/
def Node.needBypass (n : Node) (port : Nat) : Nat :=
  if n.updating then 6 else if !n.fromP port then 3 else if !n.modeBypass then 4 else 0

/-- IMAGE_BLOCK (05 R109). -/
def execImageBlock (node : Fin 16) (port : Fin 2) (tag : Byte) (block : Nat) (data : Bytes) (s : State) :
    Host.Outcome State Fault Refusal :=
  let L := s.live
  let n := L.nodeAt node
  if !n.powered then .next s
  else
    let r := if n.needBypass port = 0 ∧ data.length ≠ 64 then 2 else n.needBypass port
    let L := if r = 0 then L.modNode node (fun n => { n with blocks := putSlot n.blocks block data }) else L
    .next { s with live := L.nodeAnswer node port 0x10 tag.toNat r [] }

/-- IMAGE_ACTIVATE (05 R109): a matching digest restarts the node in the new image, answered after the restart. -/
def execImageActivate (node : Fin 16) (port : Fin 2) (tag : Byte) (digest : Bytes) (s : State) :
    Host.Outcome State Fault Refusal :=
  let L := s.live
  let n := L.nodeAt node
  if !n.powered then .next s
  else
    let r := n.needBypass port
    if r ≠ 0 then .next { s with live := L.nodeAnswer node port 0x11 tag.toNat r [] }
    else if digest = Config.sha256 (n.blocks.map (·.2)).flatten then
      .next { s with live := L.modNode node (fun n =>
        { n with updating := true, nstat := 7, act := some (port.val, tag, digest) }.bypassNow) }
    else .next { s with live := L.nodeAnswer node port 0x11 tag.toNat 5 [] }

/-- LATCH_RELEASE (05 R105, R98): from P, bypass in force, no pattern for 100 ms, the own check passed. -/
def execLatchRelease (node : Fin 16) (port : Fin 2) (tag : Byte) (checkOk : Bool) (s : State) :
    Host.Outcome State Fault Refusal :=
  let L := s.live
  let n := L.nodeAt node
  if !n.powered then .next s
  else
    let quiet := match n.patternAge with | none => true | some a => decide (10000 ≤ a)
    let r := if n.needBypass port ≠ 0 then n.needBypass port else if quiet && checkOk then 0 else 5
    let L := if r = 0 then L.modNode node (fun n =>
        let n := { n with
          latch := false
          bridgeFault := false
          nodeFault := false
          desatHigh := false
          desatLow := false }
        { n with nstat := n.state }) else L
    .next { s with live := L.nodeAnswer node port 0x20 tag.toNat r [] }

/-- COMPARATOR_TEST (05 R98, R109): the test is run, its outcome stands in CMPTEST. -/
def execComparatorTest (node : Fin 16) (port : Fin 2) (tag : Byte) (passed : Bool) (s : State) :
    Host.Outcome State Fault Refusal :=
  let L := s.live
  let n := L.nodeAt node
  if !n.powered then .next s
  else
    let r := n.needBypass port
    let L := if r = 0 then L.modNode node (fun n => { n with cmptest := !passed }) else L
    .next { s with live := L.nodeAnswer node port 0x21 tag.toNat r [] }

end Sys2Proof.Machine
end

