-- ==== Sys2Proof/Machine/Therm.lean ====
section
/-! DEFINITION. Thermal evaluation (09). -/

namespace Sys2Proof.Machine

/-- Levels of the cell thermistors: warning, throttle, shutdown, hysteresis; the LFP defaults without a table (09 R235). -/
def Live.cellLevels (L : Live) : Rat × Rat × Rat × Rat :=
  let img := L.table
  if img.isEmpty then (500, 550, 600, 30)
  else (q (hdrT img 0), q (hdrT img 1), q (hdrT img 2), q (hdrThyst img))

/-- Levels of the bridge sensors (09 R235). -/
def Live.bridgeLevels (L : Live) : Rat × Rat × Rat × Rat :=
  (q (L.ctl 0x3A0008), q (L.ctl 0x3A0009), q (L.ctl 0x3A000A), q (L.ctl 0x3A000B))

/-- Sensor j of segment s. -/
def Live.sensAt (L : Live) (s j : Nat) : Sens := (L.th.seg.getD s []).getD j {}

/-- Change sensor j of segment s. -/
def Live.modSens (L : Live) (s j : Nat) (f : Sens → Sens) : Live :=
  { L with th := { L.th with seg := L.th.seg.modify s (fun ss => ss.modify j f) } }

/-- The value of a sensor that is neither suspect nor not available. -/
def good (x : Sens) : Option Rat := if x.suspect then none else x.v

/-- Neighbours of sensor j of segment s as values (09 R238); 8 and 9 are the bridge sensors. -/
def neighbourVals (at_ : Nat → Nat → Sens) (fitted : List Nat) (s j : Nat) : List Rat :=
  if j < 8 then (thermNeighbours j).filterMap (fun k => good (at_ s k))
  else
    (good (at_ s (17 - j))).toList ++
    (bridgeSegs fitted s).flatMap (fun t => (good (at_ t 8)).toList ++ (good (at_ t 9)).toList)

/-- The other sensors of the same kind in the same segment, as values (09 R240). -/
def kindVals (at_ : Nat → Nat → Sens) (s j : Nat) : List Rat :=
  let all := if j < 8 then List.range 8 else [8, 9]
  (all.filter (· != j)).filterMap (fun k => good (at_ s k))

/-- Events of one sensor between its state before and after an evaluation: suspect, cleared, hot suspect, levels. Codes are given as
(kind offset k, code, class). -/
def sensEvents (old new : Sens) (warn : Rat) (hot : Bool) (sus clr hotC : Nat × Nat × Nat)
    (lev : List ((Nat × Nat × Nat) × (Nat × Nat × Nat))) : List (Nat × Nat × Nat) :=
  let edge := fun (a b : Bool) (c : (Nat × Nat × Nat) × (Nat × Nat × Nat)) =>
    if !a && b then [c.1] else if a && !b then [c.2] else []
  let z : (Nat × Nat × Nat) × (Nat × Nat × Nat) := ((0, 0, 0), (0, 0, 0))
  (if !old.suspect && new.suspect then [sus] else []) ++
  (if old.suspect && !new.suspect then [clr] else []) ++
  (if hot && new.suspect && (match new.v with | some x => decide (warn ≤ x) | none => false) then [hotC] else []) ++
  edge old.lev.1 new.lev.1 (lev.getD 0 z) ++ edge old.lev.2.1 new.lev.2.1 (lev.getD 1 z) ++
  edge old.lev.2.2 new.lev.2.2 (lev.getD 2 z)

/-- A reading as payload bytes, 0.1 °C. -/
def tempBytes (v : Option Rat) : Bytes := leBytes 2 (match v with | some x => ofSigned 16 (roundQ x) | none => 0x8000)

/-- Is the suspect's own reading at or above its warning level (09 R240)? -/
def isHot (warn : Rat) (x : Sens) : Bool := x.suspect && (match x.v with | some v => decide (warn ≤ v) | none => false)

/-- The first cell a thermistor covers (09 R232), 255 without a table. -/
def Live.firstCell (L : Live) (j : Nat) : Nat := ((List.range L.cellCount).find? (fun c => thermOf L.cellCount c == j)).getD 255

/-- An event of sensor j of segment s: of a thermistor's level the cell and the value used, of a bridge sensor's level the sensor and
the value used, of a suspect the sensor, its reading and the median (09 R246). -/
def Live.sensEv (L : Live) (s j : Nat) (e : Nat × Nat × Nat) (x : Sens) (med : Option Rat) : Live :=
  let level := e.1 == 3 || [1, 2, 17, 18].contains e.2.1
  let key := [s, if level && decide (j < 8) then L.firstCell j else j].map (BitVec.ofNat 8)
  L.ev (128 + 8 * s + e.1) e.2.1 e.2.2 key (if level then tempBytes x.use else tempBytes x.v ++ tempBytes med)

/-- Node sensors: checks, substitutes, levels, with their events (09 R234 to R240). -/
def Live.thermNodes (L : Live) : Live :=
  let fit := L.fittedSegs
  let cl := L.cellLevels
  let bl := L.bridgeLevels
  let n := L.ctlN 0x3A001D * 10
  let old := L.th.seg
  let closed := old.map (fun ss => ss.map closeSens)
  let at0 := fun (s j : Nat) => (closed.getD s []).getD j {}
  let checked := closed.zipIdx.map (fun (x : List Sens × Nat) =>
    if fit.contains x.2 then x.1.zipIdx.map (fun (y : Sens × Nat) => checkSens n (neighbourVals at0 fit x.2 y.2) y.1) else x.1)
  let at1 := fun (s j : Nat) => (checked.getD s []).getD j {}
  let done := checked.zipIdx.map (fun (x : List Sens × Nat) =>
    if fit.contains x.2 then x.1.zipIdx.map (fun (y : Sens × Nat) =>
      let u := useSens (neighbourVals at1 fit x.2 y.2) (kindVals at1 x.2 y.2) y.1
      let lv := if y.2 < 8 then cl else bl
      let w := levelSens lv.1 lv.2.1 lv.2.2.1 lv.2.2.2 u
      { w with hotRep := isHot lv.1 w })
    else x.1)
  let L := { L with th := { L.th with seg := done } }
  let sensors := fit.flatMap (fun s => (List.range 10).map (fun j => (s, j)))
  sensors.foldl (fun L y =>
    let s := y.1
    let j := y.2
    let o := (old.getD s []).getD j {}
    let x := (done.getD s []).getD j {}
    let evs := if j < 8 then
        sensEvents o x cl.1 (!o.hotRep) (4, 3, 1) (4, 7, 0) (4, 8, 1)
          [((3, 1, 1), (3, 17, 0)), ((3, 2, 1), (3, 18, 0)), ((4, 1, 2), (4, 17, 0))]
      else
        sensEvents o x bl.1 (!o.hotRep) (4, 4, 1) (4, 7, 0) (4, 8, 1)
          [((3, 3, 1), (3, 19, 0)), ((3, 4, 1), (3, 20, 0)), ((4, 2, 2), (4, 18, 0))]
    let med := conclusive (neighbourVals at0 fit s j)
    evs.foldl (fun L e => L.sensEv s j e x med) L) L

/-- Module sensors: checks, substitutes, levels, with their events, which name of a level the value used and of a suspect the reading (09
R235 to R240, R246). -/
def Live.thermModule (L : Live) (vals : List (Option Int)) : Live :=
  let n := L.ctlN 0x3A001D * 10
  let old := L.th.mod
  let closed := old.zipIdx.map (fun (x : Sens × Nat) => { x.1 with v := (vals.getD x.2 none).map q })
  let others := fun (l : List Sens) (j : Nat) => (l.zipIdx.filter (fun y => y.2 != j)).filterMap (fun y => good y.1)
  let checked := closed.zipIdx.map (fun (y : Sens × Nat) => checkSens n (others closed y.2) y.1)
  let done := checked.zipIdx.map (fun (y : Sens × Nat) =>
    let w := levelSens 850 950 1100 30 (useSens (others checked y.2) (others checked y.2) y.1)
    { w with hotRep := isHot 850 w })
  let L := { L with th := { L.th with mod := done } }
  (List.range 4).foldl (fun L j =>
    let o := old.getD j {}
    let x := done.getD j {}
    (sensEvents o x 850 (!o.hotRep) (81, 1, 1) (81, 3, 0) (81, 2, 1)
      [((80, 1, 1), (80, 17, 0)), ((80, 2, 1), (80, 18, 0)), ((80, 3, 2), (80, 19, 0))]).foldl
      (fun L e => L.ev e.1 e.2.1 e.2.2 (leBytes 1 j) (tempBytes (if e.1 = 80 then x.use else x.v))) L) L

/-- Are two adjacent thermistors of the segment suspect (09 R240)? -/
def adjacentSuspects (ss : List Sens) : Bool :=
  (List.range 7).any (fun j => (ss.getD j {}).suspect && (ss.getD (j + 1) {}).suspect)

/-- Number of suspect thermistors. -/
def suspectCount (ss : List Sens) : Nat := ((ss.take 8).filter (·.suspect)).length

/-- Thermal state of a segment, the most severe condition (09 R245). -/
def thermalState (inA : Bool) (ss : List Sens) : Nat :=
  let t := ss.take 8
  let b := ss.drop 8
  if b.any (·.lev.2.2) then 4
  else if t.any (·.lev.2.2) then 3
  else if 3 ≤ suspectCount ss then 6
  else if inA && adjacentSuspects ss then 5
  else if ss.any (·.lev.2.1) then 2
  else if ss.any (·.lev.1) then 1
  else 0

/-- Derate factor of a segment's sensors j for which `p` holds (09 R241). -/
def segFactor (cl bl : Rat × Rat × Rat × Rat) (p : Nat → Bool) (ss : List Sens) : Rat :=
  ss.zipIdx.foldl (fun f x =>
    if p x.2 then minQ f (if x.2 < 8 then factorSens cl.2.1 cl.2.2.1 x.1 else factorSens bl.2.1 bl.2.2.1 x.1) else f) 1

/-- Consecutive own 100 ms means at or above the SF-03 level of each sensor; the third trips it on channel A (10 R255). -/
def Live.overTemp (L : Live) : Live :=
  let seg := L.th.seg.map (fun ss => ss.zipIdx.map (fun (x : Sens × Nat) =>
    let lev := q (L.get (if x.2 < 8 then 0x402003 else 0x402004))
    { x.1 with otRun := match x.1.v with | some v => if lev ≤ v then min (x.1.otRun + 1) 3 else 0 | none => 0 }))
  let L := { L with th := { L.th with seg := seg } }
  let hit := (List.range 16).any (fun s => bitOf (L.getN 0x401102) s && (seg.getD s []).any (fun x => x.otRun == 3))
  if hit then L.trip 3 1 1 false false else L

/-- Effects of the levels and suspects on the segments: bypasses, zero and halved limits (09 R237, R240). -/
def Live.thermEffects (L : Live) : Live :=
  let fit := L.fittedSegs
  let ss := fun (s : Nat) => L.th.seg.getD s []
  let hot := fit.filter (fun s => ((ss s).take 8).any (·.lev.2.2))
  let three := fit.filter (fun s => decide (3 ≤ suspectCount (ss s)))
  let adj := fit.filter (fun s => L.conv.act.contains s && adjacentSuspects (ss s) && decide (suspectCount (ss s) < 3))
  let zero := fit.any (fun s => ((ss s).drop 8).any (·.lev.2.2) || ((ss s).drop 8).all (·.suspect))
  let newAdj := adj.filter (fun s => !L.th.adjRep.contains s)
  let newThree := three.filter (fun s => !L.th.threeRep.contains s)
  let L := { L with th := { L.th with
    zero := zero
    half := !adj.isEmpty
    adjRep := adj
    threeRep := three
    state := (List.range 16).map (fun s => if fit.contains s then thermalState (L.conv.act.contains s) (ss s) else 0)
    fac := (List.range 16).map (fun s => if fit.contains s then segFactor L.cellLevels L.bridgeLevels (fun _ => true) (ss s) else 1) } }
  let L := newAdj.foldl (fun L s => L.segEv s 4 5 1 []) L
  let L := newThree.foldl (fun L s => L.segEv s 4 6 2 []) L
  ((hot ++ three).filter (fun s => L.conv.act.contains s)).foldl (fun L s => L.unplanned s 6) L

/-- The string's thermal factor and its throttle band (09 R241). -/
def Live.thermFactor (L : Live) : Live :=
  let fit := L.fittedSegs
  let inA := fun (s : Nat) => L.conv.act.contains s
  let fs := fit.map (fun s => segFactor L.cellLevels L.bridgeLevels (fun j => decide (8 ≤ j) || inA s) (L.th.seg.getD s []))
  let fm := if L.twin.holds then L.th.mod.map (factorSens 950 1100) else []
  let thr := fit.any (fun s => (L.th.seg.getD s []).zipIdx.any (fun x => x.1.lev.2.1 && (decide (8 ≤ x.2) || inA s))) ||
    (L.twin.holds && L.th.mod.any (·.lev.2.1))
  { L with th := { L.th with f := (fs ++ fm).foldl minQ 1, throttle := thr } }

/-- The cells of A that charging depends on, the first of each thermistor, with the value used, none where a substitute is not available
(09 R232, R240, R243). -/
def Live.chargeTemps (L : Live) : List (Nat × Option Rat) :=
  if L.cellCount = 0 then []
  else L.conv.act.flatMap (fun s => (List.range 8).filterMap (fun j =>
    let x := L.sensAt s j
    let g := 32 * s + L.firstCell j
    match x.use with
    | some t => some (g, some t)
    | none => if x.suspect then some (g, none) else none))

/-- Charge refusal with its hysteresis (09 R243). -/
def Live.chargeRefusal (L : Live) : Live :=
  let img := L.table
  let lo := q (hdrT img 3)
  let hi := q (hdrT img 4)
  let h := q (hdrThyst img)
  let ts := L.chargeTemps
  let out := fun (t : Option Rat) => match t with | some t => decide (t < lo ∨ hi < t) | none => true
  let inside := fun (t : Option Rat) => match t with | some t => decide (lo + h ≤ t ∧ t ≤ hi - h) | none => false
  let was := L.th.chRefused
  let now := if was then !ts.all (fun x => inside x.2) else ts.any (fun x => out x.2)
  let L := { L with th := { L.th with chRefused := now } }
  if now && !was then
    (match ts.find? (fun x => out x.2) with
     | some x => L.ev 82 1 0 (cellKey x.1) (tempBytes x.2)
     | none => L)
  else if was && !now then L.ev 82 2 0 [] []
  else L

/-- Hand over on module throttle, once on reaching the level, where a planned handover can be made (09 R242; 15 R400). -/
def Live.throttleHandover (L : Live) (was : Bool) : Live :=
  let now := L.th.mod.any (·.lev.2.1)
  if now && !was && L.twin.holds && L.mayHandover && L.twin.p.tmod != -32768 && decide (L.twin.p.tmod < 850) then
    (L.requestHandover false).ev 80 5 0 [] []
  else L

/-- Module shutdown levels and suspects as a cause of SF-12 of channel A (09 R237, R240). -/
def Live.moduleShutdown (L : Live) : Live :=
  let down := L.th.mod.any (·.lev.2.2) || decide (3 ≤ (L.th.mod.filter (·.suspect)).length)
  if down && L.fromStandby then L.sf12 1 else L

/-- THERMAL_EVALUATION (09 R234), at the next module time 100 ms × n + 200 µs: the checks, substitutes, levels, factor, charge refusal,
handover and derating. `sensors` are the module's own readings as the offset and thermal resistance of the factory have already
referred them to the main-die junction (09 R233; log 181). -/
def execThermalEvaluation (sensors : List (Option Int)) (s : State) : Host.Outcome State Fault Refusal :=
  runIn 1 s (fun L =>
    let L := L.toMark (ms 100)
    let L := { L with th := { L.th with last := L.time.mtime / 100000000 } }
    let was := L.th.mod.any (·.lev.2.1)
    ((((((L.thermNodes.thermModule sensors).overTemp.thermEffects).thermFactor).chargeRefusal.throttleHandover was).moduleShutdown).derate))

end Sys2Proof.Machine
end

