-- ==== Sys2Proof/Machine/LinkOps.lean ====
section
/-! DEFINITION. The module's side of the segment links, the shared operations: management requests, bring-up, the downlink frame,
token reports and handover, and the judgement of a safety word (05 R89 to R113; 10 R257; 15 R400). -/

namespace Sys2Proof.Machine

/-! ### The twin's side and token -/

/-- SIDE: 0 lower twin, 1 upper twin (05 R91). -/
def Live.side (L : Live) : Nat := if 65 ≤ L.nodeId then 1 else 0

/-- A twin event: payload items, control epoch and both node-IDs (15 R404). -/
def Live.twinEv (L : Live) (src code cls : Nat) (rest : Bytes) : Live :=
  L.raise src code cls [] (rest ++ leBytes 8 L.epoch ++ leBytes 1 L.nodeId ++ leBytes 1 L.twinId)

/-- Does the node of segment s report a newer generation on the other side (05 R100)? -/
def Live.reportsNewer (L : Live) (s : Nat) : Bool :=
  let g := L.segAt s
  g.valid && g.tokRep % 4 == 2 - L.side && newerGen g.tgen L.twin.gen

/-- Does it report the generation this twin claims, on its own side (05 R99)? -/
def Live.reportsOwn (L : Live) (s : Nat) : Bool :=
  let g := L.segAt s
  g.valid && g.tokRep % 4 == L.side + 1 && g.tgen == L.twin.gen

/-- The old holder gives up the token after a handover; under R45 it then releases FAST_OFF and opens its loop (15 R400, 02 R45).
A twin that was to take SF-12 takes it now (15 R396). -/
def Live.finishHandover (L : Live) : Live :=
  let old := L.twin.gen
  let rel := L.twin.hoRelease
  let sf := L.twin.hoSf12
  let L := { L with twin := { L.twin with
    holds := false
    claims := false
    hoReq := false
    hoAcc := false
    hoCount := none
    hoRelease := false
    hoSf12 := false } }
  let L := L.twinEv 122 1 0 (leBytes 1 old ++ leBytes 1 ((old + 1) % 256))
  let L := if rel then (L.setFast .absent).openLoop else L
  let L := L.insRelay
  if sf then L.sf12 1 else L

/-- This twin yields to a newer generation (05 R100, 15 R399): it stops claiming; while it drives it keeps its loop closed and
drives PERMIT. -/
def Live.yieldToken (L : Live) : Live :=
  let L := { L with twin := { L.twin with holds := false, claims := false } }.insRelay
  let L := L.twinEv 122 3 1 []
  if L.driving then L.setFast .permit else L.setFast L.restFast

/-- A report of a newer generation from fewer than half: WARN code 5 for each reporting segment, while it lasts once (05 R100). -/
def Live.minorityReports (L : Live) : Live :=
  let fit := L.fittedSegs
  let newer := if L.twin.holds || L.twin.claims then fit.filter L.reportsNewer else []
  let few := !L.twin.hoReq && decide (2 * newer.length < fit.length)
  let who := if few then newer else []
  let L := (who.filter (fun s => !(L.segAt s).tokWarn)).foldl (fun L s => L.segEv s 0 5 1 []) L
  { L with seg := L.seg.zipIdx.map (fun (x : Seg × Nat) => { x.1 with tokWarn := who.contains x.2 }) }

/-! ### Management requests -/

/-- A downlink management frame (05 R109). The LEN of a READ is the count asked for and no DATA follows; its count is held as
that many zero bytes. -/
def mgmtReqFrame (r : MgmtReq) : Bytes :=
  let b := leBytes 1 r.op ++ leBytes 1 r.tag ++ leBytes 2 r.addr ++ leBytes 1 r.data.length ++ (if r.op = 1 then [] else r.data)
  0xFB :: b ++ leBytes 2 (fcrc b) ++ [0xFD]

/-- The next waiting request goes out when none is outstanding on the port (05 R109), the WRITE of a commissioning once words with the
node's present tag have made this side the node's P (05 R99, R111). -/
def Live.pumpReq (L : Live) (s : Nat) : Live :=
  match (L.segAt s).req, (L.segAt s).reqQ with
  | none, r :: rest =>
    if r.op = 2 ∧ r.addr = 0x100 ∧ (L.segAt s).comWait ≠ 0 then L
    else (L.modSeg s (fun g => { g with req := some r, reqQ := rest })).emit (.mgmt s (mgmtReqFrame r))
  | _, _ => L

/-- Send a management request, after those that wait (05 R109). -/
def Live.request (L : Live) (s op addr : Nat) (data : Bytes) : Live :=
  let L := L.modSeg s (fun g => { g with
    reqTag := (g.reqTag + 1) % 256
    reqQ := g.reqQ ++ [{ op := op, tag := g.reqTag, addr := addr, data := data, tries := 0 }] })
  L.pumpReq s

/-! ### Bring-up -/

/-- Thresholds of the confirmed safety set with THR_CRC (05 R110, 10 R258). -/
def Live.thresholds (L : Live) : Bytes :=
  let b := leBytes 2 (L.getN 0x402001) ++ leBytes 2 (L.getN 0x402002) ++ leBytes 2 (ofSigned 16 (L.get 0x402003)) ++
    leBytes 2 (ofSigned 16 (L.get 0x402004))
  b ++ leBytes 2 (fcrc b)

/-- Set the link state of a segment (05 R113). -/
def Live.setLink (L : Live) (s n : Nat) : Live := L.modSeg s (fun g => { g with link := n })

/-- Bring-up begins: comma locked, the identity is read (05 R111). -/
def Live.startBring (L : Live) (s : Nat) : Live :=
  let L := L.modSeg s (fun g => { g with
    link := 1
    bring := 1
    req := none
    reqQ := []
    comTag := none
    comWait := 0
    rt := (0, 0)
    t1Sum := 0
    arrival := none
    cellsN := 0 })
  L.request s 1 0 (List.replicate 34 0)

/-- Bring-up is refused (05 R111 step 3). -/
def Live.refuseBring (L : Live) (s check : Nat) : Live :=
  ((L.setLink s 7).modSeg s (fun g => { g with bring := 0 })).segEv s 0 4 2 (leBytes 1 check)

/-- Write the thresholds and read them back, by the token holder (05 R110, R111 step 6). -/
def Live.writeThresholds (L : Live) (s : Nat) : Live :=
  let L := L.modSeg s (fun g => { g with bring := 5 })
  L.request s 2 0x110 L.thresholds

/-- The thresholds of the active set go to every node past step 5 of its bring-up (05 R110): those of a node whose write of step 6 runs or
has failed too. -/
def Live.writeAllThresholds (L : Live) : Live :=
  L.fittedSegs.foldl (fun L s =>
    let g := L.segAt s
    if (3 ≤ g.link ∧ g.link ≤ 6) ∨ (g.link = 2 ∧ (g.bring = 0 ∨ 5 ≤ g.bring)) then L.writeThresholds s else L) L

/-- A safety set taken by state transfer: its thresholds are written when this twin next holds the token (15 R398). -/
def Live.dueThresholds (L : Live) : Live :=
  if L.twin.thrDue then { L with twin := { L.twin with thrDue := false } }.writeAllThresholds else L

/-- What the token reports of the superframe so far decide (05 R100; 15 R400). `whole` is set at the superframe's end. -/
def Live.tokenReports (L : Live) (whole : Bool) : Live :=
  let fit := L.fittedSegs
  let valid := fit.filter (fun s => (L.segAt s).valid)
  let newer := fit.filter L.reportsNewer
  let all := !valid.isEmpty && (whole || valid.length == fit.length)
  if L.twin.holds && L.twin.hoReq then
    (if all && newer.length == valid.length then L.finishHandover else L)
  else if L.twin.holds || L.twin.claims then
    if 0 < newer.length ∧ fit.length ≤ 2 * newer.length then L.yieldToken
    else if !L.twin.holds && all && valid.all L.reportsOwn then
      -- A claim is settled once every valid node reports it (05 R99, 15 R400).
      let L := { L with twin := { L.twin with
        holds := true
        claims := false
        hoAcc := false } }
      L.insRelay.dueThresholds.twinEv 122 1 0 (leBytes 1 ((L.twin.gen + 255) % 256) ++ leBytes 1 L.twin.gen)
    else L
  else L

/-- What ALIGNED and the thresholds bring (05 R111 steps 5 and 6): the holder writes them, the standby needs none. -/
def Live.bringOn (L : Live) (s : Nat) : Live :=
  let g := L.segAt s
  if g.bring = 4 ∧ bitOf g.stat 3 then
    if L.twin.holds then L.writeThresholds s
    else (L.setLink s 3).modSeg s (fun g => { g with bring := 0 })
  else L

/-- The arrival offset, written when the link comes up and when it moves by more than 1 ns; the fibre delay with its event
(05 R101, R112). The stamp t1 in A is the mean of the same 64 superframes (DEDUCED, log 179). -/
def Live.arrivalUpdate (L : Live) (s : Nat) : Live :=
  let g := L.segAt s
  if g.rt.2 < 64 then L
  else
    let rt := q g.rt.1 / 64
    let a := roundQ (q (g.t1Sum : Int) / 64 + rt / 2)
    let delay : Int := roundQ (rt / 2 * 250)
    let old := L.get (segKey s 0x24)
    let L := L.modSeg s (fun g => { g with rt := (0, 0), t1Sum := 0 })
    let moved := match g.arrival with | none => true | some b => decide (4 < (a - b).natAbs)
    let L := if g.arrival.isSome ∧ 5000 < (delay - old).natAbs then L.segEv s 0 8 0 [] else L
    let L := L.put (segKey s 0x24) (min (max delay 0) 600000)
    if moved then
      let L := L.modSeg s (fun g => { g with arrival := some a, bring := if g.bring = 3 then 4 else g.bring })
      L.request s 2 (0x104 + 2 * L.side) (leBytes 2 a.toNat)
    else L

/-- The identity block has been read: the checks of 05 R111 step 3 that it decides, and its objects (05 R113). -/
def Live.takeIdentity (L : Live) (s : Nat) (d : Bytes) : Live :=
  let L := L.put (segKey s 0x28) (le d 0 2)
  let L := L.put (segKey s 0x29) (le d 2 2)
  let L := L.put (segKey s 0x2B) (le d 0x14 4)
  let L := L.put (segKey s 0x2A) (le d 0x18 4)
  let L := L.modSeg s (fun g => { g with cellsN := byteAt d 0x1C, model := slice d 4 16, bring := 2 })
  if byteAt d 1 ≠ 1 then L.refuseBring s 1
  else L.request s 1 0x100 (List.replicate 2 0)

/-- TAG and SEGMENT have been read (05 R111 step 3). -/
def Live.takeCommission (L : Live) (s : Nat) (d : Bytes) : Live :=
  let tag := byteAt d 0
  let seg := byteAt d 1
  let L := L.put (segKey s 0x2C) (256 * tag + seg : Nat)
  if tag ≠ L.lower then L.refuseBring s 2
  else if seg ≠ s then L.refuseBring s 3
  else if (L.segAt s).cellsN ≠ L.cellCount then L.refuseBring s 4
  else (L.setLink s 2).modSeg s (fun g => { g with bring := 3, rt := (0, 0), t1Sum := 0, arrival := none })

/-- A management request has come to nothing, refused or unanswered: thresholds not written and read back keep the segment bypassed
(05 R110); a commissioning whose WRITE failed is over, and the safety words carry the own tag again (05 R111; DEDUCED, log 180). -/
def Live.requestFailed (L : Live) (s : Nat) (r : MgmtReq) : Live :=
  if r.op = 2 ∧ r.addr = 0x100 then L.modSeg s (fun g => { g with comTag := none })
  else if (L.segAt s).bring = 5 ∨ (L.segAt s).bring = 6 then (L.setLink s 2).modSeg s (fun g => { g with bring := 0 })
  else L

/-- The answer to the outstanding request (05 R109 to R111). A READ of step 2 that the node refuses ends the bring-up as a failed check
does: link state 7 and event code 4 (DESIGN CHOICE, log 205). -/
def Live.takeResponse (L : Live) (s : Nat) (r : MgmtReq) (result : Nat) (d : Bytes) : Live :=
  let g := L.segAt s
  if result ≠ 0 then
    (if g.bring = 1 ∨ g.bring = 2 then L.refuseBring s 0 else L.requestFailed s r)
  else if r.op = 1 ∧ g.bring = 1 then L.takeIdentity s d
  else if r.op = 1 ∧ g.bring = 2 then L.takeCommission s d
  else if r.op = 2 ∧ r.addr = 0x110 ∧ g.bring = 5 then
    (L.modSeg s (fun g => { g with bring := 6 })).request s 1 0x110 (List.replicate 10 0)
  else if r.op = 1 ∧ g.bring = 6 then
    -- A mismatch keeps the segment bypassed (05 R110).
    let L := L.modSeg s (fun g => { g with bring := 0 })
    if d = L.thresholds then L.setLink s 3 else L.setLink s 2
  else if r.op = 2 ∧ r.addr = 0x100 then
    -- Commissioned: the own tag from the next superframe (05 R111).
    let L := L.modSeg s (fun g => { g with comTag := none })
    L.put (segKey s 0x2C) (256 * byteAt r.data 0 + byteAt r.data 1 : Nat)
  else L

/-! ### The downlink frame -/

/-- Does SAF permit modulation of segment s (05 R92, 10 R249): in A, while the string is driven or the sequence has not reached
step 4, and no commissioning runs? -/
def Live.permits (L : Live) (s : Nat) : Bool :=
  let g := L.segAt s
  (L.driving || (L.mode.st == .safe && decide (L.stepOf < 4) && decide (1 ≤ L.stepOf))) &&
  L.conv.act.contains s && g.comTag.isNone && !g.hard

/-- The command frame for segment s (05 R91, R92, R111). -/
def Live.downFrame (L : Live) (s : Nat) : Bytes :=
  let g := L.segAt s
  let o := L.conv.lat.segs.getD s {}
  let permit := o.permit && L.permits s
  let modul := o.modulate && g.comTag.isNone && L.fromStandby
  let tok := L.fromStandby && (L.twin.holds || L.twin.claims)
  let b1 := (if tok then 128 else 0) + 64 * L.side + (if modul then 16 else 0) + o.pslot % 16
  let word := leBytes 1 (if permit then 0x3C else 0xC3) ++ leBytes 1 (s + 16 * L.side) ++ leBytes 2 ((L.epoch + 1) % 65536)
  let safe := word ++ beBytes 2 (schkDown (g.comTag.getD L.lower) word)
  let body := leBytes 1 b1 ++ leBytes 1 L.twin.gen ++ leBytes 1 L.conv.lat.nact ++ leBytes 1 L.conv.lat.cidx ++
    leBytes 2 o.duty ++ [0] ++ safe
  0xBC :: body ++ beBytes 2 (fcrc body)

/-! ### The uplink frame -/

/-- Is the frame valid: whole, no line error, UCRC right (05 R87, R96)? -/
def uplinkOk (bs : Bytes) (lineOk : Bool) : Bool :=
  lineOk && bs.length == 46 && byteAt bs 0 == 0xBC && crc32c (slice bs 1 41) == le bs 42 4

/-- Is the safety word valid (10 R257; 05 R92, R98)? -/
def wordOk (seg tag epoch : Nat) (w : Bytes) : Bool :=
  w.length == 6 && schkUp seg tag (w.take 4) == beAt w 4 && le w 2 2 == epoch % 65536 &&
  (byteAt w 0 == (if byteAt w 1 = 0 then 0x3C else 0xC3))

/-- Change what SAF counts of a segment. -/
def Live.modWatch (L : Live) (s : Nat) (f : SegWatch → SegWatch) : Live :=
  { L with saf := { L.saf with seg := L.saf.seg.modify s f } }

/-- Is the segment in the fitted-segment mask (10 R257)? -/
def Live.inMask (L : Live) (s : Nat) : Bool := bitOf (L.getN 0x401102) s

/-- The flags of a valid word: two in a row trip SF-01, SF-02 or SF-03 on both channels; bridge and node faults bypass (10 R257). -/
def Live.judgeWord (L : Live) (s : Nat) (w : Bytes) : Live :=
  let f := byteAt w 1
  let run := (L.saf.seg.getD s {}).run
  let run' := (List.range 4).map (fun i => if bitOf f i then min (run.getD i 0 + 1) 2 else 0)
  let L := L.modWatch s (fun x => { x with run := run', missing := 0, absent := 0 })
  let both := fun (L : Live) (n : Nat) => (L.trip n 1 1 false false).trip n 2 2 false false
  let L := if L.inMask s then
      let L := if run'.getD 0 0 = 2 then both L 1 else L
      let L := if run'.getD 1 0 = 2 then both L 2 else L
      if run'.getD 2 0 = 2 ∨ run'.getD 3 0 = 2 then both L 3 else L
    else L
  if bitOf f 4 then L.unplanned s 4 else if bitOf f 6 then L.unplanned s 5 else L

/-- The low 8 samples of DATA or the temperatures of a frame go into the set under collection; the last one completes it (05 R97). -/
def Live.takeData (L : Live) (s : Nat) (bs : Bytes) : Live × Bool :=
  let qd := byteAt bs 11 % 8
  let sset := le bs 12 2
  if 4 < qd then (L, false)
  else
    let g := L.segAt s
    let mask := match g.sset with | some m => if m / 32 = sset then m % 32 else 0 | none => 0
    let frags := if mask = 0 then ([L.epoch], false) else (g.frags.1 ++ [L.epoch], g.frags.2)
    let mask := setBit mask qd true
    let g := if qd < 4 then
        { g with cells := (List.range 8).foldl (fun cs i => cs.set (8 * qd + i) (le bs (14 + 2 * i) 2)) g.cells }
      else { g with temps := (List.range 10).map (fun i => toSigned 16 (le bs (14 + 2 * i) 2)) }
    let full := mask == 31
    (L.modSeg s (fun _ => { g with
      frags := frags
      sset := if full then none else some (32 * sset + mask) }), full)

/-- A complete set enters the estimator and the thermal evaluation: at once, or, of a pooled pair, once every fragment is known to have
been valid at both twins (15 R394). -/
def Live.setDone (L : Live) (s epoch : Nat) : Live :=
  let g := L.segAt s
  if L.pooled then
    let p : PendSet := { at_ := epoch, cells := g.cells, temps := g.temps, frags := g.frags }
    L.modSeg s (fun g => { g with sets := (g.sets ++ [p]).drop (g.sets.length - 7) })
  else (L.modSeg s (fun g => { g with sets := [] })).takeSet s epoch g.cells g.temps

/-- Fragments taken by epoch e are judged: those of e by `ok`, older ones, of which no frame told, not valid at both (15 R394). -/
def judgeFrags (e : Nat) (ok : Bool) (f : List Nat × Bool) : List Nat × Bool :=
  (f.1.filter (fun x => decide (e < x)), f.2 || f.1.any (fun x => decide (x < e) || (x == e && !ok)))

/-- The verdict on the uplink of segment s in superframe e: the sets it completes enter the estimator and the thermal evaluation, or
count as missing (15 R394, R395). -/
def Live.judgeUplink (L : Live) (s e : Nat) (ok : Bool) : Live :=
  let all := (L.segAt s).sets.map (fun p => { p with frags := judgeFrags e ok p.frags })
  let L := L.modSeg s (fun g => { g with
    frags := judgeFrags e ok g.frags
    sets := all.filter (fun p => !p.frags.1.isEmpty) })
  (all.filter (fun p => p.frags.1.isEmpty && !p.frags.2)).foldl (fun L p => L.takeSet s p.at_ p.cells p.temps) L

/-- Runs of sample sets in which a cell meets a condition, by cell, held at n (10 R255). -/
def cellRuns (n : Nat) (runs : List Nat) (hit : List Bool) : List Nat :=
  hit.zipIdx.map (fun x => if x.1 then min (runs.getD x.2 0 + 1) n else 0)

/-- Cell voltages of a complete set against the levels of SF-01 and SF-02: one cell in 20, in 200 sets in a row (10 R255). -/
def Live.judgeCells (L : Live) (s : Nat) : Live :=
  let cs := (L.segAt s).cells.take L.cellCount
  let meets := fun (f : Int → Bool) => cs.map (fun v => v != 65535 && f (v : Int))
  let w := L.saf.seg.getD s {}
  let ov := cellRuns 20 w.ovRuns (meets (fun v => decide (L.get 0x402001 ≤ v)))
  let uv := cellRuns 200 w.uvRuns (meets (fun v => decide (v ≤ L.get 0x402002)))
  let deep := (meets (fun v => decide (10 * v < 8 * L.get 0x402002))).any id
  let L := L.modWatch s (fun x => { x with ovRuns := ov, uvRuns := uv })
  let L := { L with saf := { L.saf with deepUv := L.saf.deepUv || (deep && L.inMask s) } }
  if !L.inMask s then L
  else
    let L := if ov.contains 20 then L.trip 1 1 1 false false else L
    if uv.contains 200 then L.trip 2 1 1 false false else L

/-- Link state from what the node reports (05 R113): latched, driven, shadow or aligned; ALIGNED lost falls back. -/
def Live.linkFrom (L : Live) (s : Nat) : Live :=
  let g := L.segAt s
  let nst := g.stat % 8
  if g.link < 3 ∨ g.link = 7 then L
  else if nst = 6 then L.setLink s 6
  else if !bitOf g.stat 3 then L.setLink s 2 |>.modSeg s (fun g => { g with bring := 4 })
  else if g.tokRep % 4 ≠ L.side + 1 then L.setLink s 5
  else if nst = 3 ∨ nst = 4 then L.setLink s 4
  else L.setLink s 3

/-- Once-only link events of a valid uplink: optical fields, misses, latch, desaturation, loss of commander, conflict, comparator
test (05 R96, R112; 10 R257). `old` is the segment before the frame. -/
def Live.linkEvents (L : Live) (s : Nat) (old : Seg) : Live :=
  let g := L.segAt s
  let up := fun (v w : Nat) (b : Nat) => !bitOf v b && bitOf w b
  let L := if up old.tokRep g.tokRep 6 then L.segEv s 0 5 1 [] else L
  let L := if bitOf g.bstate 5 ∧ !g.lostRep then L.segEv s 0 6 0 [] else L
  let L := if bitOf g.bstate 1 ∧ !g.latchRep then
      (L.segEv s 7 (Config.segCode 1) (Config.segClass 1 % 4) []).bump (segKey s 0x2E) 1 16
    else L
  let L := if up old.bstate g.bstate 2 then L.segEv s 5 (Config.segCode 2) (Config.segClass 2 % 4) [] else L
  let L := if up old.bstate g.bstate 3 then L.segEv s 5 (Config.segCode 3) (Config.segClass 3 % 4) [] else L
  let test := bitOf g.stat 5
  let L := if test ∧ !(L.saf.seg.getD s {}).cmptest then L.segEv s 2 3 1 [] else L
  let L := L.modWatch s (fun x => { x with cmptest := test })
  let L := L.modSeg s (fun g => { g with lostRep := bitOf g.bstate 5, latchRep := bitOf g.bstate 1 })
  if 1 ≤ fld g.tokRep 4 2 then L.bump (segKey s 0x26) 1 32 else L

/-- What a commanded bypass waits for, and what the pattern waits for (06 R143): a report of bypass in the uplink of the governed
superframe or a later one, a report of the latch. -/
def Live.bypassSeen (L : Live) (s : Nat) : Live :=
  let g := L.segAt s
  let due : Bool := match g.confirm with | some e => decide (e ≠ 0) && decide (e ≤ L.epoch) | none => false
  let L := if due ∧ segBypassed g then L.modSeg s (fun g => { g with confirm := none }) else L
  if g.hard ∧ g.stat % 8 = 6 then L.modSeg s (fun g => { g with hard := false }) else L

/-- The module stores the fields of a valid frame (05 R96, R101). Received power at the module is measured: a free value (log 15). -/
def Live.storeUplink (L : Live) (s : Nat) (bs : Bytes) (t4 : Nat) : Live :=
  let turn := le bs 9 2
  let rt : Int := (t4 : Int) - (L.segAt s).t1 - turn
  let L := L.modSeg s (fun g => { g with
    valid := true
    missed := 0
    uchk := le bs 42 2
    sword := slice bs 36 6
    stat := byteAt bs 3
    tokRep := byteAt bs 4
    tgen := byteAt bs 5
    bstate := byteAt bs 6
    vseg := le bs 7 2
    rt := if 2 ≤ g.link then (g.rt.1 + rt, g.rt.2 + 1) else (0, 0)
    t1Sum := if 2 ≤ g.link then g.t1Sum + g.t1 else 0 })
  let L := L.put (segKey s 0x27) (byteAt bs 4)
  let L := L.put (segKey s 0x23) (toSigned 16 (le bs 34 2))
  let L := L.put (segKey s 0x22) (Config.freeInt L.free % 4501 - 4000)
  { L with free := L.free + 1 }

/-- The margin of the downlink fibre, judged on the power the node reports: below 2 dB over the sensitivity of −20 dBm and not dark,
reported once while it lasts (02 R36; 05 R88, R112 code 1). -/
def Live.nodeMargin (L : Live) (s : Nat) : Live :=
  let p := L.get (segKey s 0x23)
  let low := decide (p ≠ -32768) && decide (p < -1800)
  let was := (L.segAt s).marginRep
  let L := L.modSeg s (fun g => { g with marginRep := low })
  if low && !was then L.segEv s 0 1 1 (leBytes 2 (ofSigned 16 (p + 2000))) else L

/-- A frame that is not valid: counted, and more than 10 in any 1 s reported, while it lasts once (05 R112, R113). -/
def Live.badUplink (L : Live) (s : Nat) : Live :=
  let g := L.segAt s
  let at_ := (L.time.clk :: g.invAt.filter (fun t => decide (L.time.clk < t + sec 1))).take 11
  let many := at_.length == 11
  let L := (L.bump (segKey s 0x25) 1 32).modSeg s (fun g => { g with invAt := at_, invRep := many })
  if many && !g.invRep then L.segEv s 0 2 1 [] else L

end Sys2Proof.Machine
end

