-- ==== Sys2Proof/Machine/Link.lean ====
section
/-! DEFINITION. The meanings of the module's link commands (05, 06 R143, 10 R257). -/

namespace Sys2Proof.Machine

/-- DOWNLINK_LATCH (04 R78): the output vector goes to the downlink buffer. -/
def execDownlinkLatch (s : State) : Host.Outcome State Fault Refusal :=
  runIn 2 s (fun L => { L with conv := { L.conv with lat := L.conv.rel } })

/-- The departure of a slot 0 comma: 24 ns ± 4 ns, measured, so a free value inside the bound, in 0.25 ns (05 R90; log 15). -/
def departure (v : Int) : Nat := (80 + v % 33).toNat

/-- The words missing of one more superframe: in a row, and those that count toward the 10 ms, while SSW_FB shows closed; a valid word,
own or forwarded, begins both anew (10 R257). -/
def Live.countMissing (L : Live) (s : Nat) : Live :=
  L.modWatch s (fun x => { x with absent := x.absent + 1, missing := if L.pins.sswOpen then 0 else x.missing + 1 })

/-- One segment at the superframe's start: its counts begin anew, its command frame leaves, a held pattern is resent in slot 7
(05 R89, R91, R104). -/
def Live.segFrame (L : Live) (s : Nat) : Live :=
  let t1 := departure (Config.freeInt L.free)
  let L := { L with free := L.free + 1 }
  let L := L.modSeg s (fun g => { g with
    missed := g.missed + 1
    wasValid := g.valid
    valid := false
    t1 := t1 })
  let L := L.countMissing s
  let L := L.emit (.downlink s (L.downFrame s))
  let L := (L.modSeg s (fun g => { g with comWait := g.comWait - 1 })).pumpReq s
  if (L.segAt s).hard ∧ L.mayPattern s then L.emit (.hardBypass s) else L

/-- SUPERFRAME_START (05 R89, R91, R100, R104; 15 R400): the token reports of the superframe that ends are counted first. -/
def execSuperframeStart (s : State) : Host.Outcome State Fault Refusal :=
  runIn 2 s (fun L =>
    let L := (L.tokenReports true).minorityReports
    let L := { L with twin := { L.twin with hoCount := L.twin.hoCount.map (· + 1) } }
    L.fittedSegs.foldl Live.segFrame L)

/-- A valid frame, used whole (05 R96 to R101; 10 R255, R257; 06 R143). -/
def Live.goodUplink (L : Live) (s : Nat) (bs : Bytes) (t4 : Nat) : Live :=
  let old := L.segAt s
  let L := (L.storeUplink s bs t4).nodeMargin s
  let L := if wordOk s L.lower L.epoch (slice bs 36 6) then
      (L.modSeg s (fun g => { g with sflags := byteAt bs 37 })).judgeWord s (slice bs 36 6) else L
  let d := L.takeData s bs
  let L := if d.2 then
      (d.1.setDone s (L.epoch - (if byteAt bs 11 % 8 = 4 then 9 else 5 + byteAt bs 11 % 8))).judgeCells s else d.1
  let L := if (L.segAt s).bstate / 4 % 8 ≠ 0 then L.unplanned s 4 else L
  let L := ((L.linkEvents s old).bypassSeen s).linkFrom s
  let L := (L.bringOn s).arrivalUpdate s
  (L.tokenReports false).seqOn

/-- UPLINK_FRAME_RX (05 R96): a frame of a fitted segment is taken whole or not at all. -/
def execUplinkFrameRx (seg : Fin 16) (frame : Bytes) (lineOk : Bool) (t4 : Nat) (s : State) : Host.Outcome State Fault Refusal :=
  runIn 2 s (fun L =>
    if !L.fitted seg then L
    else if uplinkOk frame lineOk then L.goodUplink seg frame t4
    else L.badUplink seg)

/-- End of the 5 superframes that follow the governed one, module time: the governed superframe of a bypass still to be released is
the one two after the present (06 R143, worked example). -/
def Live.confirmDue (L : Live) (e : Nat) : Nat := ((if e = 0 then L.epoch + 2 else e) + 6) * 10000

/-- BYPASS_CONFIRM_TIMEOUT (06 R143, 10 R249 step 4): armed by a bypass commanded and not yet seen. -/
def execBypassConfirmTimeout (seg : Fin 16) (s : State) : Host.Outcome State Fault Refusal :=
  runIn 5 s (fun L =>
    match (L.segAt seg).confirm with
    | some e => (L.pass (L.confirmDue e - L.time.mtime)).hardBypass seg
    | none => L)

/-- The link of a segment is down: no valid uplink for 4 superframes; link event code 3 while the fibre is lit, dark is shown
otherwise (05 R112, R113); whether it is lit is measured, a free value (log 15). -/
def Live.linkDown (L : Live) (s : Nat) : Live :=
  let lit := Config.freeInt L.free % 2 == 1
  let L := { L with free := L.free + 1 }
  let L := if lit then L.segEv s 0 3 2 [] else L.put (segKey s 0x22) (-32768)
  L.modSeg s (fun g => { g with link := 0, bring := 0, req := none, reqQ := [], comTag := none, comWait := 0 })

/-- UPLINK_MISSING_TIMEOUT (05 R112 code 3; 10 R257; 06 R142): armed while the words of a fitted segment are missing, absent or
invalid; the link is down where no valid frame has come either. -/
def execUplinkMissingTimeout (seg : Fin 16) (s : State) : Host.Outcome State Fault Refusal :=
  runIn 5 s (fun L =>
    let n := (L.saf.seg.getD seg.val {}).absent
    if !L.fitted seg ∨ n = 0 then L
    else
      let L := L.pass ((4 - n) * 10000)
      let L := if n ≤ (L.segAt seg).missed then L.linkDown seg else L
      L.unplanned seg 5)

/-- UPLINK_WORDS_LOST_TIMEOUT (10 R257): counted only while SSW_FB shows closed and neither twin receives valid words. -/
def execUplinkWordsLostTimeout (seg : Fin 16) (s : State) : Host.Outcome State Fault Refusal :=
  runIn 5 s (fun L =>
    let w := L.saf.seg.getD seg.val {}
    let partner := L.hasPartner && w.fwd
    if L.pins.sswOpen ∨ !L.inMask seg ∨ w.missing = 0 ∨ partner then L
    else
      let L := L.pass ((1000 - w.missing) * 10000)
      let L := (L.trip 1 1 1 false false).trip 1 2 2 false false
      (L.trip 2 1 1 false false).trip 2 2 2 false false)

/-- LINK_COMMA_LOCK (05 R111): bring-up of a fitted segment begins. -/
def execLinkCommaLock (seg : Fin 16) (s : State) : Host.Outcome State Fault Refusal :=
  runIn 2 s (fun L => if L.fitted seg then L.startBring seg else L)

/-- A response frame whole: its fields, none where its length or check is wrong (05 R109). -/
def parseResp (bs : Bytes) : Option (Nat × Nat × Nat × Bytes) :=
  let n := byteAt bs 4
  if bs.length = n + 8 ∧ n ≤ 40 ∧ byteAt bs 0 = 0xFB ∧ byteAt bs (n + 7) = 0xFD ∧ fcrc (slice bs 1 (n + 4)) = le bs (n + 5) 2 then
    some (byteAt bs 1, byteAt bs 2, byteAt bs 3, slice bs 5 n)
  else none

/-- MGMT_RESPONSE_RX (05 R109, R111): it completes the outstanding request whose OP and TAG it carries. -/
def execMgmtResponseRx (seg : Fin 16) (frame : Bytes) (s : State) : Host.Outcome State Fault Refusal :=
  runIn 2 s (fun L =>
    match parseResp frame, (L.segAt seg).req with
    | some (op, tag, result, d), some r =>
      if op = r.op + 128 ∧ tag = r.tag then
        let L := L.modSeg seg (fun g => { g with req := none })
        (L.takeResponse seg r result d).pumpReq seg
      else L
    | _, _ => L)

/-- MGMT_TIMEOUT (05 R109): the retries have gone out in vain; the request is given up. -/
def execMgmtTimeout (seg : Fin 16) (s : State) : Host.Outcome State Fault Refusal :=
  runIn 2 s (fun L =>
    match (L.segAt seg).req with
    | some r =>
      let L := (List.range (3 - r.tries)).foldl (fun L _ => L.emit (.mgmt seg (mgmtReqFrame r))) L
      let L := (L.modSeg seg (fun g => { g with req := none })).segEv seg 0 7 2 (leBytes 1 r.op ++ leBytes 2 r.addr)
      (L.requestFailed seg r).pumpReq seg
    | none => L)

/-- Node commands (05 R105, R111, R113): 1 commission, 2 release latch, 3 repeat bring-up, 4 comparator test. -/
def Live.cmdNode (L : Live) (s v : Nat) : Except Abort Live :=
  let quiet := L.mode.st == .standby || L.mode.st == .service
  let out := !L.conv.act.contains s
  if v = 1 then
    if !quiet ∨ !L.twin.holds then .error abState
    else
      let L := L.modSeg s (fun g => { g with
        comTag := some (L.getN (segKey s 0x2C) / 256)
        comWait := 2 })
      .ok (L.request s 2 0x100 (leBytes 1 L.lower ++ leBytes 1 s))
  else if v = 2 then
    if !quiet then .error abState else .ok (L.request s 0x20 0 [])
  else if v = 3 then
    if L.fitted s ∧ (quiet ∨ (L.driving ∧ out)) then .ok (L.startBring s) else .error abState
  else if v = 4 then
    if L.fromStandby ∧ out then .ok (L.request s 0x21 0 []) else .error abState
  else .error abRange

/-- NODE_CMD_COMMISSION (05 R111). -/
def execNodeCmdCommission (sess : Sess) (seg : Fin 16) (s : State) : Host.Outcome State Fault Refusal :=
  run s (fun L => L.command sess 2 (segKey seg 0x2D) (leBytes 1 1) (fun L => L.orAbort (L.cmdNode seg 1)))

/-- NODE_CMD_RELEASE_LATCH (05 R105). -/
def execNodeCmdReleaseLatch (sess : Sess) (seg : Fin 16) (s : State) : Host.Outcome State Fault Refusal :=
  run s (fun L => L.command sess 2 (segKey seg 0x2D) (leBytes 1 2) (fun L => L.orAbort (L.cmdNode seg 2)))

/-- NODE_CMD_REPEAT_BRINGUP (05 R113). -/
def execNodeCmdRepeatBringup (sess : Sess) (seg : Fin 16) (s : State) : Host.Outcome State Fault Refusal :=
  run s (fun L => L.command sess 2 (segKey seg 0x2D) (leBytes 1 3) (fun L => L.orAbort (L.cmdNode seg 3)))

/-- NODE_CMD_COMPARATOR_TEST (05 R113). -/
def execNodeCmdComparatorTest (sess : Sess) (seg : Fin 16) (s : State) : Host.Outcome State Fault Refusal :=
  run s (fun L => L.command sess 2 (segKey seg 0x2D) (leBytes 1 4) (fun L => L.orAbort (L.cmdNode seg 4)))

/-- OPTICAL_MARGIN_LOW (02 R36; 05 R112 code 1; 15 R404): the margin measured at one of the module's receivers, segment fibres 0 to
15 and Omine fibres 16 and 17. Its object holds the power, the margin above the sensitivity at the end of life of −20 dBm or −17 dBm
(02, optical table); below 2 dB the event is raised. The downlink end is judged with each uplink, which reports its power
(`Live.nodeMargin`, 05 R88). -/
def execOpticalMarginLow (path : Fin 18) (marginCdB : Int) (s : State) : Host.Outcome State Fault Refusal :=
  runIn 2 s (fun L =>
    let power := fun (sens : Int) => max (-4000) (min 500 (marginCdB + sens))
    let low := leBytes 2 (ofSigned 16 marginCdB)
    if path.val < 16 then
      let L := L.put (segKey path 0x22) (power (-2000))
      if 200 ≤ marginCdB then L else L.segEv path 0 1 1 low
    else
      let L := L.put (0x4A0007 + (path.val - 16)) (power (-1700))
      if 200 ≤ marginCdB then L else L.twinEv 120 3 1 (leBytes 1 (path.val - 16) ++ low))

/-- SEG_CMD_BYPASS (06 R142, R150): checked, and taken at the first carrier boundary after R80. -/
def execSegCmdBypass (sess : Sess) (seg : Fin 16) (s : State) : Host.Outcome State Fault Refusal :=
  run s (fun L => L.command sess 2 (segKey seg 0x0A) (leBytes 1 1) (fun L => L.orAbort (L.cmdSegment seg 1 (L.time.mtime + 200000))))

/-- SEG_CMD_RETURN (06 R145, R150). -/
def execSegCmdReturn (sess : Sess) (seg : Fin 16) (s : State) : Host.Outcome State Fault Refusal :=
  run s (fun L => L.command sess 2 (segKey seg 0x0A) (leBytes 1 2) (fun L => L.orAbort (L.cmdSegment seg 2 (L.time.mtime + 200000))))

end Sys2Proof.Machine
end

