-- ==== Sys2Proof/Machine/SafOps.lean ====
section
/-! DEFINITION. The safety functions' shared operations: input pairs, the channels' exchange, release conditions, commands between
the twins, feedback judgements and the insulation monitor (10). -/

namespace Sys2Proof.Machine

/-! ### Input pairs (10 R266 to R268) -/

/-- Key of an object of input pair i. -/
def pairKey (i sub : Nat) : Nat := (0x4030 + i) * 256 + sub

/-- Input pair i. -/
def Live.pair (L : Live) (i : Nat) : Pair := L.saf.pairs.getD i {}

/-- Change input pair i. -/
def Live.modPair (L : Live) (i : Nat) (f : Pair → Pair) : Live :=
  { L with saf := { L.saf with pairs := L.saf.pairs.modify i f } }

/-- Is the input in demand by its level and the pair's mode (10 R267)? -/
def Live.inDemand (L : Live) (i : Nat) (chB : Bool) : Bool :=
  let p := L.pair i
  if chB then (if L.getN (pairKey i 2) = 1 then p.b else !p.b) else !p.a

/-- Are both inputs in permit, with no fault (10 R262)? -/
def Live.permit (L : Live) (i : Nat) : Bool :=
  !L.inDemand i false && !L.inDemand i true && !(L.pair i).disc && !(L.pair i).tpFault

/-- Pair state object (10 R280 sub 10). -/
def Live.pairState (L : Live) (i : Nat) : Nat :=
  if L.getN (pairKey i 1) = 0 then 4
  else if (L.pair i).disc then 2
  else if (L.pair i).tpFault then 3
  else if L.inDemand i false || L.inDemand i true then 1 else 0

/-- SF-07 or SF-08 of a pair's function (10 R266). -/
def Live.pairSf (L : Live) (i : Nat) : Nat := if L.getN (pairKey i 1) = 1 then 7 else 8

/-- A demand on a pair, decided by a channel (10 R267, R271). -/
def Live.pairTrip (L : Live) (i ch : Nat) : Live := L.trip (L.pairSf i) ch ch false (L.isSet (pairKey i 6))

/-- After a change of a pair's level or fault: passages through demand since its function was latched or its fault found, the
disagreement, and the release of a fault once both channels have passed through demand and returned to permit (10 R262, R267). -/
def Live.judgePair (L : Live) (i : Nat) : Live :=
  let dA := L.inDemand i false
  let dB := L.inDemand i true
  let p := L.pair i
  let anti := L.getN (pairKey i 2) == 1
  let differ := if anti then p.a == p.b else p.a != p.b
  let since := bitOf (L.getN 0x404001) (L.pairSf i - 1) || p.disc || p.tpFault
  let passA := (since && p.passA) || dA
  let passB := (since && p.passB) || dB
  let isOver := !dA && !dB && passA && passB
  L.modPair i (fun p => { p with
    demA := dA
    demB := dB
    passA := passA
    passB := passB
    disc := p.disc && !isOver
    tpFault := p.tpFault && !isOver
    discSince := if differ then some (p.discSince.getD L.time.clk) else none })

/-- A test-pulse fault on an input: event 109, treated as a demand on that channel, latched (10 R268). -/
def Live.testFault (L : Live) (i : Nat) (chB cross : Bool) : Live :=
  let ch := if chB then 2 else 1
  if (L.pair i).tpFault then L
  else
    let L := L.modPair i (fun p => { p with tpFault := true, passA := false, passB := false })
    let L := L.raise 109 (if cross then 3 else 2) 2 ([i, ch].map (BitVec.ofNat 8)) L.tripPayload
    L.pairTrip i ch

/-- Is a low on this input an expected one: within 500 µs of the start of its own output's pulse (10 R268)? -/
def Live.blanked (L : Live) (i : Nat) (chB : Bool) : Bool :=
  L.getN (pairKey i 4) == 1 &&
  (match (if chB then L.pins.pulseAt.2 else L.pins.pulseAt.1) with | some t => decide (L.time.clk < t + 500000) | none => false)

/-- One input of a pair at a test pulse of its own output or of the other (10 R268): judged while its level is on. -/
def Live.pulseInput (L : Live) (own : Bool) (low : Nat) (chB : Bool) (i : Nat) : Live :=
  let p := L.pair i
  let on := if chB then p.b else p.a
  let used := L.getN (pairKey i 1) != 0 && L.getN (pairKey i 4) == 1
  if !used || !on then L
  else if own then
    let n := if bitOf low i then 0 else (if chB then p.missB else p.missA) + 1
    let L := L.modPair i (fun p => if chB then { p with missB := min n 2 } else { p with missA := min n 2 })
    if n = 2 then L.testFault i chB false else L
  else if bitOf low i then L.testFault i chB true else L

/-! ### Exchange of the channels (10 R248) -/

/-- The other channel decides a pair's demand, or its test-pulse fault, which counts as one, from the exchanged value (10 R267,
R268). -/
def Live.exchangePair (L : Live) (i : Nat) : Live :=
  if L.getN (pairKey i 1) = 0 then L
  else if L.inDemand i false || L.inDemand i true || (L.pair i).tpFault then (L.pairTrip i 1).pairTrip i 2
  else L

/-! ### Release conditions (10 R262) -/

/-- Segments whose cells and sensors the release conditions judge (10 R257). -/
def Live.maskSegs (L : Live) : List Nat := (List.range 16).filter L.inMask

/-- Every cell of every such segment meets a condition; a cell not available meets none. -/
def Live.allCells (L : Live) (f : Nat → Bool) : Bool :=
  L.maskSegs.all (fun s => ((L.segAt s).cells.take L.cellCount).all (fun v => v != 65535 && f v))

/-- No valid word shows one of these flags. -/
def Live.noFlag (L : Live) (mask : Nat) : Bool := L.maskSegs.all (fun s => (L.segAt s).sflags &&& mask == 0)

/-- Every sensor at least 5 K below its SF-03 level. -/
def Live.allCool (L : Live) : Bool :=
  L.maskSegs.all (fun s => (L.segAt s).temps.zipIdx.all (fun x =>
    x.1 != -32768 && decide (x.1 + 50 ≤ L.get (if x.2 < 8 then 0x402003 else 0x402004))))

/-- Is a consumed SRDO valid within its SCT (10 R277)? -/
def Live.srdoValid (L : Live) (k : Nat) : Bool :=
  match L.saf.srdoAt.getD k none with
  | some t => decide (L.time.clk ≤ t + ms (L.getN ((0x1301 + k) * 256 + 2)))
  | none => false

/-- SRDO k is consumed: direction 2, configuration valid (10 R277). -/
def Live.srdoOn (L : Live) (k dir : Nat) : Bool :=
  let base := (0x1301 + k) * 256
  let vals := ([1, 2, 3, 5, 6].map (fun n => L.get (base + n))) ++
    (List.range 17).map (fun n => L.get ((0x1381 + k) * 256 + n)) ++ [L.get (0x13FF * 256 + 1 + k)]
  L.getN base.succ == dir && L.getN 0x13FE00 == 0xA5 && Config.srdoSigOk k vals

/-- Trip limit of SF-05, A²s (10 R260). -/
def Live.i2tLimit (L : Live) : Rat := q (L.ctl 0x401105) / 1000 * L.iMax * L.iMax

/-- Does the release condition of a cause hold now? SF-09 needs its command, SF-12 a reset; a commanded cause is held while its
command is (10 R253, R262). -/
def Live.relHolds (L : Live) (n : Nat) : Bool :=
  let held := match L.saf.obeyed with | some c => c.d0 == n | none => false
  let pairs := (List.range 8).filter (fun i => L.getN (pairKey i 1) != 0 && L.pairSf i == n)
  !held && (match n with
  | 1 => L.allCells (fun v => decide ((v : Int) + 500 ≤ L.get 0x402001)) && L.noFlag 1
  | 2 => L.allCells (fun v => decide (L.get 0x402002 ≤ (v : Int))) && !L.saf.deepUv
  | 3 => L.allCool && L.noFlag 12
  | 4 => L.iZero
  | 5 => decide (2 * L.saf.eA < L.i2tLimit) && decide (2 * L.saf.eB < L.i2tLimit)
  | 6 => if L.pins.insRelay then decide (L.get 0x402201 < L.get 0x402210) else !L.saf.insNotice
  | 7 => pairs.all (fun i => L.permit i && (L.pair i).passA == (L.pair i).passB)
  | 8 => pairs.all (fun i => L.permit i && (L.pair i).passA == (L.pair i).passB)
  | 10 => (List.range 8).all (fun k => !L.srdoOn k 2 || L.srdoValid k)
  | 11 => !L.saf.sf11Reset
  | 13 => decide (8 ≤ L.saf.bayMa) && !L.pins.elementOpen
  | _ => false)

/-- For how long it must hold, ns (10 R262); the notice of SF-06 that a member obeys need only be clear. -/
def Live.relTime (L : Live) (n : Nat) : Nat :=
  match n with
  | 1 => sec 10
  | 2 => sec 10
  | 3 => sec 60
  | 6 => if L.pins.insRelay then sec 60 else 0
  | 10 => sec 1
  | 13 => sec 1
  | _ => 0

/-- Is a cause latched or, commanded as SF-12, active, and not yet released? -/
def Live.relOpen (L : Live) (n : Nat) : Bool :=
  bitOf (L.getN 0x404001) (n - 1) && !L.saf.released.getD (n - 1) false

/-- Since when each open cause's condition holds (10 R262). -/
def Live.relWatch (L : Live) : Live :=
  { L with saf := { L.saf with relSince := (List.range 13).map (fun b =>
    if L.relOpen (b + 1) && L.relHolds (b + 1) then some ((L.saf.relSince.getD b none).getD L.time.clk) else none) } }

/-- A cause is released; what it kept open in the bay trip loop closes, and its pairs count passages anew (10 R262, R271). -/
def Live.release_ (L : Live) (n : Nat) : Live :=
  let L := L.releaseCause n
  if n = 7 ∨ n = 8 then
    let L := { L with saf := { L.saf with pairs := L.saf.pairs.zipIdx.map (fun (x : Pair × Nat) =>
      if L.pairSf x.2 = n then { x.1 with passA := false, passB := false } else x.1) } }
    L.closeElement (if n = 7 then 0 else 3)
  else if n = 6 then L.closeElement 1
  else if n = 11 then { L with eng := { L.eng with fault := false } }
  else L

/-! ### Commands between the twins (10 R253) -/

/-- Obey a trip command of the partner, the first that comes (10 R253). D0 = 0 stands for TWIN_X alone, which names no function: the
safe state is taken in class F (log 38). -/
def Live.obey (L : Live) (c : TripCmd) : Live :=
  if L.saf.obeyed.isSome ∨ !L.fromStandby then L
  else
    let L := { L with saf := { L.saf with obeyed := some c } }
    if c.d0 = 0 then
      let L := if L.getN 0x404001 = 0 then L.put 0x404003 3 else L
      ({ L with saf := { L.saf with hazard := true } }.setFast .off).enterSafe .classF
    else if c.d0 = 13 then
      (((L.raise 111 4 3 [] (L.tripPayload ++ leBytes 1 L.twinId)).latchCause 13 3)).tripAct 13 3 c.classF c.bay
    else L.trip c.d0 3 3 c.classF c.bay

/-- The partner no longer holds its command, neither in its frames nor by TWIN_X (10 R253): a commanded SF-12 ends, and what it kept
open closes. A line once found low is held until a test pulse shows it released (DESIGN CHOICE, log 221). -/
def Live.endObeyed (L : Live) : Live :=
  match L.saf.obeyed with
  | none => L
  | some c =>
    if L.pins.xIn then L else
    let L := { L with saf := { L.saf with obeyed := none } }
    let L := if c.d0 = 12 then L.endActive 12 else L
    L.closeElement 2

/-- The command that a frame carries: the one obeyed already, or another than that, which has then ended (10 R253). -/
def Live.obeyNamed (L : Live) (c : TripCmd) : Live :=
  match L.saf.obeyed with
  | some x => if x.d0 = c.d0 then L else ({ L with pins := { L.pins with xIn := false } }.endObeyed).obey c
  | none => L.obey c

/-! ### The insulation monitor (10 R272 to R276) -/

/-- Injector role taken or left, with its event (10 R282). -/
def Live.setRole (L : Live) (on : Bool) : Live :=
  if L.isSet 0x402208 = on then L
  else ((L.put 0x402208 (if on then 1 else 0)).raise 110 6 0 [] (leBytes 1 (if on then 1 else 0) ++ L.tripPayload)).insRelay

/-- Has a lone twin run for the interval without a test of its contacts (10 R264)? -/
def Live.loneLate (L : Live) : Bool :=
  !L.inStep && L.fromStandby && decide (L.saf.loneSince + sec (3600 * L.getN 0x401401) ≤ L.time.clk)

/-- Injector state object (10 R281). -/
def Live.insState (L : Live) : Nat :=
  if L.insBad then 5 else if L.saf.insDup then 4 else if L.pins.insRelay && L.saf.insGap.isSome then 3 else if L.pins.insRelay then L.insWants else 0

/-- A change of the contactors is a change of the measured system; an injector whose contactors open has lost the bus and clears its
role (10 R272, R273, R275). -/
def Live.insContactors (L : Live) : Live :=
  let L := { L with saf := { L.saf with insHalves := 0, insBelow := (0, 0) } }
  let L := if L.isSet 0x402208 && L.pins.fbKpOpen && L.pins.fbKnOpen then L.setRole false else L
  L.insRelay

/-- SF-06 on a channel (10 R272, R276): two estimates in a row below the fault level, or the injector's notice. -/
def Live.sf06 (L : Live) (ch : Nat) : Live := L.trip 6 ch ch false (L.getN 0x402204 == 2)

/-- Estimates of one half-period on the bus (10 R272): the run below the fault level per channel. -/
def Live.insOnBus (L : Live) (a b : Option Nat) : Live :=
  let lim := L.getN 0x402202
  let run : Nat → Option Nat → Nat := fun n e => match e with | some x => if x < lim then min (n + 1) 2 else 0 | none => 0
  let n : Nat × Nat := (run L.saf.insBelow.1 a, run L.saf.insBelow.2 b)
  let L := { L with saf := { L.saf with insBelow := n } }
  let L := if n.1 = 2 then L.sf06 1 else L
  if n.2 = 2 then L.sf06 2 else L

/-- The estimate of the own string while the contactors are open (10 R275): the active insulation fault with its events. -/
def Live.insOwn (L : Live) (a : Option Nat) : Live :=
  match a with
  | none => L
  | some x =>
    let bad := decide (x < L.getN 0x402202)
    if bad && !L.saf.insFault then
      { L with saf := { L.saf with insFault := true } }.raise 110 8 2 [] L.tripPayload
    else if !bad && L.saf.insFault then
      { L with saf := { L.saf with insFault := false } }.raise 110 9 0 [] L.tripPayload
    else L

/-- An estimate is reported: resistance, capacitance, and the warnings of R272 with each estimate beyond their levels. -/
def Live.insReport (L : Live) (a : Option Nat) (nF : Nat) : Live :=
  match a with
  | none => L
  | some x =>
    let L := (L.put 0x402210 (min x 0xFFFFFFFE : Nat)).put 0x402211 (min nF 100000 : Nat)
    let L := if x < L.getN 0x402201 then L.raise 110 1 1 [] L.tripPayload else L
    if 10000 < nF then L.raise 110 7 1 [] L.tripPayload else L

/-! ### Feedback -/

/-- Change the clock of a feedback's last change. -/
def Live.fbClock (L : Live) (n : Nat) : Live := { L with pins := { L.pins with fbAt := L.pins.fbAt.set n L.time.clk } }

/-- Does this contactor show open? -/
def Live.kOpen (L : Live) (neg : Bool) : Bool := if neg then L.pins.fbKnOpen else L.pins.fbKpOpen

/-- FAST_OFF of the partner as its frames report it: 0 ABSENT, 1 PERMIT, 2 OFF (15 R389). -/
def Live.partnerFast (L : Live) : Nat := if L.hasPartner then L.twin.p.safe % 4 else 0

/-- Safety release commands (10 R262): 1 SF-09, with its reclose block; 2 a deep SF-02. -/
def Live.cmdSafety (L : Live) (v : Nat) : Except Abort Live :=
  if v = 1 then
    if !L.allOpen ∨ !bitOf (L.getN 0x404001) 8 then .error abState
    else
      let L := (if L.relOpen 9 then L.release_ 9 else L).put 0x404004 0
      .ok { L with saf := { L.saf with fbFault := false, fbMiss := (0, 0) } }
  else if v = 2 then
    if !(bitOf (L.getN 0x404001) 1 && L.saf.deepUv) then .error abState
    else .ok { L with saf := { L.saf with deepUv := false } }
  else .error abRange

/-- SF-06 notices held for each bus identifier: those with reaction 1 (10 R276). -/
def Live.sf06Notices (L : Live) : Nat :=
  let own := if L.getN 0x402204 = 1 ∧ bitOf (L.getN 0x404002) 5 then 2 ^ (L.getN 0x402203 - 1) else 0
  own ||| L.mgr.notices

end Sys2Proof.Machine
end

