-- ==== Sys2Proof/Machine/CanOps.lean ====
section
/-! DEFINITION. The CAN controllers: filters and receive rings, the loader, arbitration order, promotion, deadlines, outcomes and
the rerouting of class 0 frames (11 R288 to R300). -/

namespace Sys2Proof.Machine

/-- Object of a controller. -/
def canKey (bus sub : Nat) : Nat := (0x2010 + bus) * 256 + sub

/-- Controller b. -/
def Live.can (L : Live) (bus : Nat) : Can := L.com.bus.getD bus {}

/-- Change a controller. -/
def Live.modCan (L : Live) (bus : Nat) (f : Can → Can) : Live :=
  { L with com := { L.com with bus := L.com.bus.modify bus f } }

/-- Bring a controller into a state of 0x2010+b:10; state 5 leaves fault confinement as it stands (11 R297). A usable bus ends the report
of rerouting. -/
def Live.setCan (L : Live) (bus st : Nat) : Live :=
  (L.modCan bus (fun c => { c with st := st, passive := if st = 5 then c.passive else st == 1, rerRep := c.rerRep && st != 0 })).put (canKey bus 0x10) st

/-- May the controller put frames into arbitration: not bus-off, recovering, disabled, nor in the check of R300? -/
def Can.sends (c : Can) : Bool := (c.st == 0 || c.st == 1 || c.st == 5) && !c.monitor

/-- COB-ID of PDO n, transmitted or received: the value written, CiA 301's pre-defined one where it is 0 (11 R283; PRESUMED, log 224). -/
def Live.pdoCob (L : Live) (tx : Bool) (n : Nat) : Nat :=
  let v := L.getN (((if tx then 0x1800 else 0x1400) + n) * 256 + 1)
  if v = 0 then (if tx then 0x180 else 0x200) + 0x100 * n + L.nodeId else v

/-! ### Receiving -/

/-- SRDO k's COB-ID of the normal or inverted frame, where the SRDO is consumed (11 R295 filters 0 and 1). -/
def Live.srdoTakes (L : Live) (inv : Bool) (id : Nat) : Bool :=
  (List.range 8).any (fun k => L.srdoOn k 2 && L.getN ((0x1301 + k) * 256 + (if inv then 6 else 5)) == id)

/-- Does fixed filter i take this base-format frame (11 R295)? -/
def Live.fixedFilter (L : Live) (i id : Nat) (fd : Bool) : Bool :=
  match i with
  | 0 => !fd && L.srdoTakes false id
  | 1 => !fd && L.srdoTakes true id
  | 2 => id == L.bootN 0x220010 || id == L.bootN 0x220011
  | 3 => id == 0
  | 4 => id == 0x600 + L.nodeId
  | 5 => decide (0x701 ≤ id ∧ id ≤ 0x77F)
  | 6 => decide (L.bootN 0x500006 < id ∧ id ≤ L.bootN 0x500006 + 33) || id == L.bootN 0x500007 ||
         id == L.bootN 0x500008 || id == L.bootN 0x500008 + 1
  | 7 => decide (0x81 ≤ id ∧ id ≤ 0xFF)
  | _ => false

/-- Target of fixed filter i; filter 7 rejects where the module is no manager (11 R295). -/
def Live.fixedTarget (L : Live) (i : Nat) : Nat :=
  match i with | 0 => 2 | 1 => 3 | 2 => 5 | 7 => if L.isManager then 1 else 0 | _ => 1

/-- Does a filter word take the frame: identifier under the mask, format (11 R295)? -/
def filterTakes (w : Nat) (f : CanFrame) : Bool :=
  let bits := if f.ext then 29 else 11
  bitOf w 58 == f.ext &&
  ((fld w 28 0 ^^^ f.id) &&& fld w 57 29) % 2 ^ bits == 0 &&
  (fld w 60 59 == 0 || (fld w 60 59 == 1 && !f.fd) || (fld w 60 59 == 2 && f.fd))

/-- Target of the first filter that takes the frame, in ascending number; 0 where it is rejected or none takes it (11 R295). -/
def Live.filterTarget (L : Live) (bus : Nat) (f : CanFrame) : Nat :=
  match (List.range 8).find? (fun i => !f.ext && L.fixedFilter i f.id f.fd) with
  | some i => L.fixedTarget i
  | none =>
    match (List.range 24).find? (fun i => filterTakes (L.getN ((0x2013 + bus) * 256 + 9 + i)) f) with
    | some i => fld (L.getN ((0x2013 + bus) * 256 + 9 + i)) 63 61
    | none => 0

/-- A frame into its general ring of 256 entries, or lost (11 R296). -/
def Live.toGeneralRing (L : Live) (bus sof : Nat) (f : CanFrame) : Live :=
  let c := L.can bus
  if c.rx.length < 256 then L.modCan bus (fun c => { c with rx := c.rx ++ [(sof, f)] })
  else
    let L := L.bump (canKey bus 0x16) 1 32
    if c.fullRep then L
    else (L.modCan bus (fun c => { c with fullRep := true })).ev 114 5 1 [] (leBytes 1 (24 + bus) ++ leBytes 1 bus)

/-- A frame into logic ring 28 of 64 entries, or lost (11 R296). -/
def Live.toLogicRing (L : Live) (bus sof : Nat) (f : CanFrame) : Live :=
  if L.com.logicRx.length < 64 then
    { L with com := { L.com with logicRx := L.com.logicRx ++ [(bus, sof, f)] } }
  else
    let L := L.bump (canKey bus 0x16) 1 32
    if L.com.logicFull then L
    else { L with com := { L.com with logicFull := true } }.ev 114 5 1 [] (leBytes 1 28 ++ leBytes 1 bus)

/-- A frame into HPB0 or HPB1; an untaken one is overwritten, counted and reported (11 R296). -/
def Live.toHpb (L : Live) (bus n sof : Nat) (f : CanFrame) : Live :=
  let full := ((L.can bus).hpb.getD n none).isSome
  let L := L.modCan bus (fun c => { c with hpb := c.hpb.set n (some (sof, f)) })
  if full then (L.bump (canKey bus 0x17) 1 32).ev 114 6 2 [] (leBytes 1 bus) else L

/-- A frame accepted by a filter is counted and placed by its target (11 R295, R296); the time unit takes its frames itself. -/
def Live.canAccept (L : Live) (bus sof : Nat) (f : CanFrame) : Live :=
  if f.rtr ∨ !((L.can bus).st == 0 || (L.can bus).st == 1 || (L.can bus).st == 5) then L
  else
    let rec_ := L.getN (canKey bus 0x12)
    let L := L.put (canKey bus 0x12) (rec_ - 1 : Nat)
    match L.filterTarget bus f with
    | 1 => (L.bump (canKey bus 0x15) 1 32).toGeneralRing bus sof f
    | 2 => (L.bump (canKey bus 0x15) 1 32).toHpb bus 0 sof f
    | 3 => (L.bump (canKey bus 0x15) 1 32).toHpb bus 1 sof f
    | 4 => (L.bump (canKey bus 0x15) 1 32).toLogicRing bus sof f
    | 5 => L.bump (canKey bus 0x15) 1 32
    | _ => L

/-! ### Outcomes -/

/-- Deadline of a class, ns (11 R294). -/
def Live.deadline (L : Live) (cls : Nat) : Nat := ms (L.getN (0x201202 + cls))

/-- An outcome word: code, REROUTED, LATE (11 R293). -/
def outcomeWord (code : Nat) (f : TxFrame) (late : Bool) : Nat :=
  code + (if f.rerouted then 16 else 0) + (if late then 32 else 0)

/-- COB-ID of the dispatch part this frame is, if it is one (13 R346). -/
def Live.dispPart (L : Live) (id : Nat) : Option Nat :=
  if id = L.bootN 0x500008 then some 0 else if id = L.bootN 0x500008 + 1 then some 1 else none

/-- A part of the oldest dispatch step still open on this bus ends. Sent: the entry of 13 R348 is complete once both parts have
completed on one bus. Not sent: that bus cannot complete it any more (marked by bus + 2). -/
def Live.dispatchEnd (L : Live) (bus id : Nat) (sent : Bool) : Live :=
  match L.dispPart id with
  | none => L
  | some part =>
    match L.mgr.dispOpen.find? (fun d => d.2.1 == part && d.2.2 == bus) with
    | none => L
    | some d =>
      let rest := L.mgr.dispOpen.filter (fun x => x != d)
      if sent then
        let done := !(rest.any (fun x => x.1 == d.1 && x.2.2 % 2 == bus))
        if done then
          { L with mgr := { L.mgr with dispOpen := rest.filter (fun x => x.1 != d.1) } }.jdone d.1
        else { L with mgr := { L.mgr with dispOpen := rest } }
      else { L with mgr := { L.mgr with dispOpen := rest ++ [(d.1, part, bus + 2)] } }

/-- The frames of a controller, in rings and buffers. -/
def Can.frames (c : Can) : List TxFrame := c.tx ++ c.tb.filterMap (fun b => b.map (·.f))

/-- Change every frame of a controller. -/
def Can.mapFrames (c : Can) (g : TxFrame → TxFrame) : Can :=
  { c with tx := c.tx.map g, tb := c.tb.map (fun b => b.map (fun x => { x with f := g x.f })) }

/-- The one outcome word of a frame, given to its requester (11 R293). Of a frame on both buses the word is that of the copy that is
transmitted first, or, where none is, of the copy that ends last. -/
def Live.outcome (L : Live) (bus : Nat) (f : TxFrame) (code : Nat) : Live :=
  let other := f.both && (L.can (1 - bus)).frames.any (fun g => g.num == f.num)
  let sent := code == 0 || code == 2
  if f.told ∨ (other && !sent) then L
  else
  let L := if other then L.modCan (1 - bus) (fun c => c.mapFrames (fun g => if g.num = f.num then { g with told := true } else g)) else L
  let late := f.late || decide (f.at_ + L.deadline f.cls < L.time.clk)
  let L := L.emit (.txOutcome bus f.who f.f.id (outcomeWord code f late))
  if f.who = 3 then L.dispatchEnd bus f.f.id (code == 0 || code == 2) else L

/-! ### Arbitration -/

/-- Arbitration rank of a frame as the bus decides it: the first 11 identifier bits, base format before extended, the other 18 bits, and a
classical frame before an FD frame (11 R290). -/
def txRank (f : TxFrame) : Nat :=
  let id := if f.f.ext then f.f.id / 2 ^ 18 * 2 ^ 19 + 2 ^ 18 + f.f.id % 2 ^ 18 else f.f.id * 2 ^ 19
  2 * id + (if f.f.fd then 1 else 0)

/-- The filled buffer that enters arbitration next (11 R290): by identifier, or by number. -/
def nextBuffer (byNumber : Bool) (tb : List (Option TxBuf)) : Option Nat :=
  (List.range 3).foldl (fun best i =>
    match tb.getD i none with
    | none => best
    | some x => match best with
      | none => some i
      | some j => match tb.getD j none with
        | some y => if !byNumber && txRank x.f < txRank y.f then some i else some j
        | none => some i) none

/-- With no buffer in arbitration the next one is committed for the SOF bit (11 R290, R293); an FD frame shows the error state (R283); the lead manager captures the SOF of its
own reference (R302). -/
def Live.commitBuffer (L : Live) (bus : Nat) : Live :=
  let c := L.can bus
  let busy := c.tb.any (fun b => match b with | some x => x.inArb | none => false)
  if busy ∨ !c.sends then L
  else match nextBuffer (L.getN (canKey bus 6) == 1) c.tb with
    | none => L
    | some i => match c.tb.getD i none with
      | none => L
      | some b =>
        let L := L.modCan bus (fun c => { c with tb := c.tb.set i (some { b with inArb := true }) })
        let L := if b.f.who = 2 ∧ b.f.f.id = L.bootN 0x220010 then
            { L with time := { L.time with
              refSof := (bus, L.time.mtime) :: L.time.refSof.filter (fun x => x.1 != bus) } }
          else L
        L.emit (.can bus { b.f.f with esi := b.f.f.fd && c.passive })

/-- Order within and between rings: ring, enqueue time, order of enqueueing (11 R288, R291). -/
def txBefore (a b : TxFrame) : Bool :=
  decide (a.ring < b.ring) || (a.ring == b.ring && (decide (a.at_ < b.at_) || (a.at_ == b.at_ && decide (a.num < b.num))))

/-- The frame of a list that stands first. -/
def firstFrame : List TxFrame → Option TxFrame
  | [] => none
  | f :: fs => match firstFrame fs with
    | none => some f
    | some g => if txBefore f g then some f else some g

/-- The loader's candidate (11 R289): the first frame whose identifier is in no buffer and stands earlier in no ring. -/
def Live.candidate (L : Live) (bus : Nat) : Option TxFrame :=
  let c := L.can bus
  firstFrame (c.tx.filter (fun f =>
    decide (f.at_ ≤ L.time.clk) &&
    !(c.tb.any (fun b => match b with | some x => x.f.f.id == f.f.id && x.f.f.ext == f.f.ext | none => false)) &&
    !(c.tx.any (fun g => g.f.id == f.f.id && g.f.ext == f.f.ext &&
      (decide (g.at_ < f.at_) || (g.at_ == f.at_ && decide (g.num < f.num)))))))

/-- The buffered frame of lowest class without a cancellation, the latest enqueued among equals (11 R289). -/
def weakest (tb : List (Option TxBuf)) : Option Nat :=
  (List.range 3).foldl (fun best i =>
    match tb.getD i none with
    | none => best
    | some x =>
      if x.cancel ≠ 0 then best
      else match best with
        | none => some i
        | some j => match tb.getD j none with
          | some y => if txBefore y.f x.f then some i else some j
          | none => some i) none

/-- Withdrawal of the weakest buffered frame for a frame of a higher class (11 R289): a frame not in arbitration returns to its ring at
once, one in arbitration carries the request. -/
def Live.withdraw (L : Live) (bus : Nat) (f : TxFrame) : Live :=
  let c := L.can bus
  match weakest c.tb with
  | none => L
  | some i => match c.tb.getD i none with
    | none => L
    | some b =>
      if b.f.ring ≤ f.ring then L
      else if b.inArb then L.modCan bus (fun c => { c with tb := c.tb.set i (some { b with cancel := 1 }) })
      else L.modCan bus (fun c => { c with tb := c.tb.set i none, tx := c.tx ++ [b.f] })

/-- The loader's work at a bus (11 R289, R290). -/
def Live.loadBuffer (L : Live) (bus : Nat) : Live :=
  match L.candidate bus with
  | none => L.commitBuffer bus
  | some f =>
    match (List.range 3).find? (fun i => ((L.can bus).tb.getD i none).isNone) with
    | some i =>
      (L.modCan bus (fun c => { c with
        tb := c.tb.set i (some { f := f, inArb := false, cancel := 0 })
        tx := c.tx.filter (fun g => g.num != f.num) })).commitBuffer bus
    | none => (L.withdraw bus f).commitBuffer bus

/-! ### Promotion and deadlines -/

/-- Ring of a frame after its age (11 R291). -/
def promoted (age clk : Nat) (f : TxFrame) : Nat :=
  if f.cls < 2 then f.cls else max 1 (f.cls - (clk - f.at_) / max 1 age)

/-- Instant at which a frame moves up next (11 R291). -/
def nextPromotion (age : Nat) (f : TxFrame) : Option Nat :=
  if f.cls < 2 ∨ f.ring < 2 then none else some (f.at_ + (f.cls - f.ring + 1) * age)

/-- The earliest of some instants. -/
def earliest (ts : List (Option Nat)) : Option Nat :=
  ts.foldl (fun a b => match a, b with
    | none, x => x
    | x, none => x
    | some x, some y => some (min x y)) none

/-- Frames that have waited a promotion age move up (11 R291). -/
def Live.promote (L : Live) (bus : Nat) : Live :=
  let age := ms (L.getN 0x201201)
  match earliest ((L.can bus).frames.map (nextPromotion age)) with
  | none => L
  | some t =>
    let L := L.reach t
    L.modCan bus (fun c => c.mapFrames (fun f => { f with ring := promoted age L.time.clk f }))

/-- One frame whose deadline has passed is handled by the action of its class (11 R292). -/
def Live.frameLate (L : Live) (bus : Nat) (f : TxFrame) : Live :=
  let drop := f.cls != 0 && bitOf (L.getN 0x201206) f.cls
  let off := (L.can bus).st == 2 || (L.can bus).st == 3 || (L.can bus).st == 4
  let L := L.bump ((if drop then 0x201214 else 0x201210) + f.cls) 1 32
  let L := L.ev 114 (if drop then 2 else 1) (if drop then 0 else 1) [] (leBytes 1 f.cls ++ leBytes 4 f.f.id ++ leBytes 1 bus)
  let inArb := (L.can bus).tb.any (fun b => match b with | some x => x.f.num == f.num && x.inArb | none => false)
  if off ∨ (drop ∧ !inArb) then
    (L.modCan bus (fun c => { c with
      tx := c.tx.filter (fun g => g.num != f.num)
      tb := c.tb.map (fun b => match b with | some x => if x.f.num == f.num then none else some x | none => none) })).outcome bus
      f (if off then 4 else 3)
  else
    L.modCan bus (fun c => { (c.mapFrames (fun g => if g.num == f.num then { g with late := true } else g)) with
      tb := c.tb.map (fun b => b.map (fun x =>
        if x.f.num == f.num then { x with f := { x.f with late := true }, cancel := (if drop then 3 else x.cancel) } else x)) })

/-- The frames whose deadline comes next are handled (11 R292). -/
def Live.deadlines (L : Live) (bus : Nat) : Live :=
  let due := fun (f : TxFrame) => f.at_ + L.deadline f.cls
  let open_ := (L.can bus).frames.filter (fun f => !f.late)
  match earliest (open_.map (fun f => some (due f))) with
  | none => L
  | some t =>
    let L := L.reach t
    (open_.filter (fun f => due f ≤ L.time.clk)).foldl (fun L f => L.frameLate bus f) L

/-! ### Degraded buses -/

/-- One class 0 frame of a bus that is no longer usable goes where 11 R297 sends it, its age kept. -/
def Live.moveFrame (L : Live) (bus : Nat) (f : TxFrame) : Live :=
  let r := class0Route (L.can bus) (L.can (1 - bus)) bus
  let there := fun (L : Live) (b : Nat) => (L.can b).frames.any (fun g => g.num == f.num)
  let add := fun (L : Live) (b : Nat) => if there L b then L
    else L.modCan b (fun c => { c with tx := c.tx ++ [{ f with rerouted := r.2, both := f.both || decide (1 < r.1.length) }] })
  let L := if r.2 then L.noteReroute bus 1 else L
  r.1.foldl add L

/-- The frames of a bus that have not entered arbitration. -/
def Can.idle (c : Can) : List TxFrame :=
  c.tx ++ c.tb.filterMap (fun b => match b with | some x => if x.inArb then none else some x.f | none => none)

/-- The class 0 frames of a bus that are not in arbitration move (11 R297); reference messages never do, nor does the second frame of an
SRDO pair whose first has left or is in arbitration here. -/
def Live.moveClass0 (L : Live) (bus : Nat) : Live :=
  let c := L.can bus
  let moves := fun (f : TxFrame) => f.cls == 0 && f.who != 2 && (f.pair != 2 || c.idle.any (fun g => g.num + 1 == f.num))
  let out := c.idle.filter moves
  let L := L.modCan bus (fun c => { c with
    tx := c.tx.filter (fun f => !moves f)
    tb := c.tb.map (fun b => match b with
      | some x => if moves x.f && !x.inArb then none else some x
      | none => none) })
  out.foldl (fun L f => L.moveFrame bus f) L

/-- Neither usable nor impaired (11 R297). -/
def Can.unusable (c : Can) : Bool := !(busUsable c) && !(busImpaired c)

/-- Both buses unusable: event 114 code 4, and an SF-06 notice of the lead manager begins to wait (11 R300). -/
def Live.bothCheck (L : Live) : Live :=
  if (L.can 0).unusable && (L.can 1).unusable && !L.com.bothLost then
    let L := { L with com := { L.com with bothLost := true } }.ev 114 4 2 [] []
    if L.mgr.lead && L.sf06Notices != 0 then { L with com := { L.com with noticeDue := some L.time.clk } } else L
  else L

/-- A notice that the lead manager could not send for the class 0 deadline opens the bay trip loop (11 R300). -/
def Live.noticeWatch (L : Live) : Live :=
  if L.mgr.lead && L.sf06Notices != 0 && (L.can 0).unusable && (L.can 1).unusable then
    match L.com.noticeDue with
    | none => { L with com := { L.com with noticeDue := some L.time.clk } }
    | some t => if t + L.deadline 0 ≤ L.time.clk then L.openElement 1 1 else L
  else { L with com := { L.com with noticeDue := none } }

/-- What follows when a bus ceases to be usable (11 R297, R300). -/
def Live.degraded (L : Live) (bus : Nat) : Live := (L.moveClass0 bus).bothCheck

/-- Error counters after an error state changed: the spec gives no counter arithmetic, so the counts are free below the bound that the
state sets (log 40). -/
def Live.freeCounters (L : Live) (bus bound : Nat) : Live :=
  let a := (Config.freeInt L.free).toNat % bound
  let b := (Config.freeInt (L.free + 1)).toNat % bound
  { ((L.put (canKey bus 0x11) a).put (canKey bus 0x12) b) with free := L.free + 2 }

/-- Recovery starts, counted for the limit (11 R298). -/
def Live.startRecovery (L : Live) (bus : Nat) : Live :=
  (L.modCan bus (fun c => { c with
    recov := c.recov.filter (fun t => decide (L.time.clk < t + sec 60)) ++ [L.time.clk]
    withheld := false })).setCan bus 3

/-- Bus-off (11 R298): automatic recovery within the limit, else withheld. -/
def Live.busOff (L : Live) (bus : Nat) : Live :=
  let L := (L.bump (canKey bus 0x13) 1 32).put (canKey bus 0x11) 256
  let L := (L.setCan bus 2).ev (112 + bus) 3 2 [] (leBytes 1 bus)
  let L := L.modCan bus (fun c => { c with tb := c.tb.map (fun b => b.map (fun x => { x with inArb := false })) })
  let recent := (L.can bus).recov.filter (fun t => decide (L.time.clk < t + sec 60))
  let L := if !L.isSet (canKey bus 7) then L
    else if recent.length < L.getN (canKey bus 8) then L.startRecovery bus
    else (L.modCan bus (fun c => { c with withheld := true })).ev (112 + bus) 5 1 [] (leBytes 1 bus)
  L.degraded bus

/-! ### Completion -/

/-- Follow-up of a reference that has completed, sent by the lead manager alone (11 R302, R303). -/
def Live.followUp (L : Live) (bus seq : Nat) : Live :=
  match L.time.refSof.find? (fun x => x.1 == bus) with
  | none => L
  | some x =>
    if !L.mgr.lead then L else
    let L := { L with time := { L.time with refSof := L.time.refSof.filter (fun y => y.1 != bus) } }
    L.enqueue bus (fdFrame (L.bootN 0x220011) (leBytes 8 x.2 ++ leBytes 2 seq ++ leBytes 1 L.nodeId ++ leBytes 1 bus)) 0 2

/-- A controller in state 5 whose frame has been acknowledged takes part again as fault confinement stands; after the loss of both buses it
first runs the check of R300 (11 R297, R300). -/
def Live.acknowledged (L : Live) (bus : Nat) : Live :=
  if (L.can bus).st ≠ 5 then L
  else
    let L := L.setCan bus (if (L.can bus).passive then 1 else 0)
    if L.com.bothLost then L.modCan bus (fun c => { c with monitor := true, monAt := L.time.clk }) else L

/-- A class 0 frame that has failed moves, and with the first of an SRDO pair the second (11 R297); the second alone stays with its first. -/
def Live.moveFailed (L : Live) (bus : Nat) (f : TxFrame) : Live :=
  let second := if f.pair = 1 then (L.can bus).idle.filter (fun g => g.num == f.num + 1 && g.pair == 2) else []
  let gone := fun (g : TxFrame) => second.any (fun h => h.num == g.num)
  let L := L.modCan bus (fun c => { c with
    tx := c.tx.filter (fun g => !gone g)
    tb := c.tb.map (fun b => match b with | some x => if gone x.f then none else some x | none => none) })
  second.foldl (fun L g => L.moveFrame bus g) (L.moveFrame bus f)

/-- A transmission ends: the frame of a buffer in arbitration is sent, or fails (11 R293, R297). -/
def Live.txEnd (L : Live) (bus tb : Nat) (how : TxEnd) : Live :=
  match (L.can bus).tb.getD tb none with
  | none => L
  | some b =>
    if !b.inArb then L
    else
      let free := fun (L : Live) => L.modCan bus (fun c => { c with tb := c.tb.set tb none })
      match how with
      | .sent =>
        let L := (free L).bump (canKey bus 0x14) 1 32
        let L := L.put (canKey bus 0x11) (L.getN (canKey bus 0x11) - 1 : Nat)
        let L := L.acknowledged bus
        let L := L.outcome bus b.f (if 2 ≤ b.cancel then 2 else 0)
        let L := if b.f.who = 2 ∧ b.f.f.id = L.bootN 0x220010 then L.followUp bus (le b.f.f.data 0 2) else L
        L.commitBuffer bus
      | .lostOrError =>
        let L := match b.cancel with
          | 1 => (free L).modCan bus (fun c => { c with tx := c.tx ++ [b.f] })
          | 2 => (free L).outcome bus b.f 1
          | 3 => (free L).outcome bus b.f 3
          | _ =>
            if b.f.cls = 0 ∧ b.f.who ≠ 2 ∧ b.f.pair ≠ 2 ∧ !busUsable (L.can bus) then (free L).moveFailed bus b.f
            else L.modCan bus (fun c => { c with tb := c.tb.set tb (some { b with inArb := false }) })
        L.commitBuffer bus

/-- Frames of a bus that have not entered arbitration are cancelled, each with its outcome (11 R293). -/
def Live.cancelFrames (L : Live) (bus : Nat) (gone : List TxFrame) : Live :=
  let has := fun (f : TxFrame) => gone.any (fun g => g.num == f.num)
  let L := L.modCan bus (fun c => { c with
    tx := c.tx.filter (fun f => !has f)
    tb := c.tb.map (fun b => match b with | some x => if has x.f then none else some x | none => none) })
  gone.foldl (fun L f => L.outcome bus f 1) L

/-- A reference that has not entered arbitration by S + 5 ms is cancelled and gets no follow-up (11 R302). -/
def Live.cancelReference (L : Live) (bus : Nat) : Live :=
  let wait := (L.can bus).idle.filter (fun f => f.who == 2 && f.f.id == L.bootN 0x220010)
  match earliest (wait.map (fun f => some (f.at_ + ms 5))) with
  | none => L
  | some t =>
    let L := L.reach t
    L.cancelFrames bus (wait.filter (fun f => decide (f.at_ + ms 5 ≤ L.time.clk)))

/-- References and follow-ups of a module that has ceased to lead are cancelled, those in arbitration apart (11 R302). -/
def Live.dropReferences (L : Live) : Live :=
  (List.range 2).foldl (fun L b => L.cancelFrames b ((L.can b).idle.filter (fun f => f.who == 2))) L

/-- The inverted data of an SRDO. -/
def inverted (d : Bytes) : Bytes := d.map (fun b => ~~~b)

end Sys2Proof.Machine
end

