-- ==== Sys2Proof/Machine/TimeOps.lean ====
section
/-! DEFINITION. The time unit's shared operations: whom it follows, an offset put to use, holdover (04 R82, R83; 11 R305 to R308; 13
R339, R340), and the lead-manager role (01 R14). -/

namespace Sys2Proof.Machine

/-- Does this module lead the bay now (01 R14)? With the pair driving, the active twin; else node-ID 1 while it is in STANDBY or RUN,
else node-ID 65. What node-ID 65 knows of node-ID 1 is its frames' lead bit. -/
def Live.leadsNow (L : Live) : Bool :=
  let here := L.mode.st == .standby || L.mode.st == .run
  L.isManager && L.fromStandby && !L.pins.holdup &&
  (if L.isSet 0x200005 then L.twin.holds
   else if L.nodeId = 1 then here
   else !L.hasPartner || !bitOf L.twin.p.pstate 6)

/-- The lead role is taken or left (01 R14, R15; 13 R356): its event, and the journal of the old lead's last step closed (13 R348). -/
def Live.updLead (L : Live) : Live :=
  if L.mgr.lead = L.leadsNow then L
  else if L.mgr.lead then { L with mgr := { L.mgr with lead := false } }.dropReferences
  else
    let L := { L with
      mgr := { L.mgr with lead := true }
      time := { L.time with lastSent := max L.time.lastSent L.twin.p.lastref } }
    L.ev 12 1 0 [] (leBytes 1 L.nodeId ++ leBytes 4 (L.time.mtime / 100000000))

/-- Does module time follow the partner over the Omine link: the standby twin in step, or the reserve manager (04 R83, 13 R339)? -/
def Live.followsTwin (L : Live) : Bool := L.inStep && (if L.isManager then !L.mgr.lead else !L.twin.holds)

/-- Does module time follow the bay (11 R305)? -/
def Live.followsBay (L : Live) : Bool := !L.isManager && !L.followsTwin

/-- An offset of the source is put to use (04 R82, 11 R305): reported, then the first synchronisation, a step, or the servo; the
event of an offset above the threshold while driving is the source's. The servo law is Config's. DESIGN CHOICE (log 184): the first
synchronisation steps also where the module already reports PRECHARGE, RUN or DERATED (the first two bullets of R82 conflict there),
and an offset above the threshold in BOOT or SELFTEST after it steps too (R82 names those states in neither list). -/
def Live.useOffset (L : Live) (off : Int) (src code : Nat) (payload : Bytes) : Live :=
  let L := L.put 0x220003 (max (-2147483647) (min 2147483647 off))
  let whole := off.tdiv 10000 * 10000
  let big := decide (L.getN 0x220006 < off.natAbs)
  let L :=
    if !L.time.synced then
      { L with time := { L.time with
        stepPending := whole
        firstPending := true } }
    else if !big then { L with time := { L.time with offsetReported := false } }
    else if L.timeDriving then
      if L.time.offsetReported then L
      else { L with time := { L.time with offsetReported := true } }.ev src code 1 [] payload
    else { L with time := { L.time with stepPending := whole } }
  L.put 0x220004 (max (-100000) (min 100000 (Config.servoRate off (L.get 0x220004))))

/-- A source is followed again (11 R305, R307; 03 R56): TIME clears, holdover ends, and the state is locking until it counts as locked. -/
def Live.sourceHeard (L : Live) : Live :=
  let L := if bitOf (L.getN 0x20001A) 18 then L.selfBit 18 false else L
  if L.getN 0x220002 = 2 then L else L.put 0x220002 1

/-- Locked: state 2 with its event (11 R305). -/
def Live.lockedTo (L : Live) (src code : Nat) (payload : Bytes) : Live :=
  if L.getN 0x220002 = 2 then L else (L.put 0x220002 2).ev src code 0 [] payload

/-- Ten consecutive offsets within 1 µs count as locked (11 R305). -/
def Live.lockRun (L : Live) (off : Int) (src code : Nat) (payload : Bytes) : Live :=
  let n := if off.natAbs ≤ 1000 then min 10 (L.time.lockCount + 1) else 0
  let L := { L with time := { L.time with lockCount := n } }
  if n = 10 then L.lockedTo src code payload else L

/-- Clock at which the present holdover of a worker began (11 R307). -/
def Live.holdoverSince (L : Live) : Nat := L.time.lastPair + ms 50

/-! ### References and follow-ups (11 R303, R305) -/

/-- The 10 ms period of a time. -/
def period10 (t : Nat) : Nat := t / 10000000

/-- A valid reference message: 4 bytes from node-ID 1 or 65 (11 R303). -/
def referenceOk (f : Bytes) : Bool := f.length == 4 && (byteAt f 3 == 1 || byteAt f 3 == 65)

/-- References of both manager node-IDs in one 10 ms period of the receiver (11 R305). -/
def Live.bothManagers (L : Live) (p : Nat) : Bool :=
  L.time.seenFrom.contains (p * 128 + 1) && L.time.seenFrom.contains (p * 128 + 65)

/-- The pair used in a period whose references came from both managers is discarded after all: what it changed returns (11 R305). A step
already applied at a sample instant stands (DESIGN CHOICE, log 226). -/
def Live.discardUsed (L : Live) (p : Nat) : Live :=
  match L.time.used with
  | none => L
  | some u =>
    if u.period ≠ p then L
    else
      let L := u.objs.foldl (fun L x => L.put x.1 x.2) L
      let L := (L.put 0x220015 (L.getN 0x220015 - 1 : Nat)).bump 0x220016 1 32
      { L with time := { L.time with
        used := none
        stepPending := if L.time.stepPending = 0 then 0 else u.step.1
        firstPending := L.time.firstPending && u.step.2
        lockCount := u.lockCount
        lastPair := u.lastPair } }

/-- A reference message is taken (11 R305; 01 R17). -/
def Live.referenceRx (L : Live) (bus : Nat) (f : Bytes) (sof : Nat) : Live :=
  if !referenceOk f ∨ L.mgr.lead then L
  else
    let p := period10 sof
    let was := L.bothManagers p
    let mark := p * 128 + byteAt f 3
    let r : RefRx := { bus := bus, sender := byteAt f 3, seq := le f 0 2, sof := sof }
    let L := { L with time := { L.time with
      lastRef := L.time.clk
      refs := r :: L.time.refs.filter (fun x => x.bus != bus)
      seenFrom := mark :: L.time.seenFrom.filter (fun x => x != mark && x / 128 == p) } }
    if L.bothManagers p && !was then (L.discardUsed p).ev 115 4 1 [] (leBytes 1 bus) else L

/-- Does the follow-up make a valid pair with the reference (11 R305)? -/
def Live.pairValid (L : Live) (bus : Nat) (r : RefRx) (f : Bytes) : Bool :=
  f.length == 12 && r.seq == le f 8 2 && r.sender == byteAt f 10 && byteAt f 11 % 2 == bus &&
  decide (L.time.mtime ≤ r.sof + ms 5) && period10 (le f 0 8) % 65536 == le f 8 2 && !L.bothManagers (period10 r.sof)

/-- Is the pair's bus the one in use: the preferred one, or the other after two whole periods without a valid pair there (11 R305)? `p` is
the lead manager's period. -/
def Live.busTaken (L : Live) (bus p : Nat) : Bool :=
  bus == L.getN 0x220013 || (match L.time.prefPeriod with | some x => decide (x + 3 ≤ p) | none => false)

/-- A valid pair is used: offset, servo, lock, end of holdover (11 R305, R307, R308). -/
def Live.usePair (L : Live) (bus : Nat) (r : RefRx) (f : Bytes) : Live :=
  let off : Int := (le f 0 8 : Int) + L.get 0x220012 - r.sof
  let use : PairUse := {
    period := period10 r.sof
    objs := [0x220002, 0x220003, 0x220004, 0x220014, 0x22001A].map (fun k => (k, L.get k))
    step := (L.time.stepPending, L.time.firstPending)
    lockCount := L.time.lockCount
    lastPair := L.time.lastPair }
  let L := ((L.put 0x220014 r.seq).bump 0x220015 1 32).put 0x22001A bus
  let L := { L with time := { L.time with lastPair := L.time.clk, used := some use } }
  let L := (L.useOffset off 115 2 (leBytes 1 bus)).sourceHeard
  L.lockRun off 115 7 (leBytes 1 bus)

/-- A follow-up is taken (11 R305). -/
def Live.followUpRx (L : Live) (bus : Nat) (f : Bytes) : Live :=
  if L.mgr.lead then L
  else match L.time.refs.find? (fun r => r.bus == bus) with
    | none => L
    | some r =>
      let L := { L with time := { L.time with refs := L.time.refs.filter (fun x => x.bus != bus) } }
      if !L.pairValid bus r f then L.bump 0x220016 1 32
      else
        let p := period10 (le f 0 8)
        let taken := L.busTaken bus p
        let L := if taken && !L.followsBay then { L with time := { L.time with lastPair := L.time.clk } } else L
        let L := { L with time := { L.time with
          prefPeriod := if bus = L.getN 0x220013 then some p else some (L.time.prefPeriod.getD (p - 1)) } }
        if taken && L.followsBay then L.usePair bus r f else (L.put 0x220014 r.seq).bump 0x220015 1 32

end Sys2Proof.Machine
end

