-- ==== Sys2Proof/Machine/CanRows.lean ====
section
/-! DEFINITION. The meanings of the CAN, NMT and bay-time commands (11). -/

namespace Sys2Proof.Machine

/-! ### Frames received -/

/-- CAN_FRAME_RX (11 R295, R296, R304): an accepted frame, stamped with its SOF, is placed by its filter's target. -/
def execCanFrameRx (bus : Fin 2) (f : CanFrame) (sof : Nat) (s : State) : Host.Outcome State Fault Refusal :=
  runIn 4 s (fun L => L.canAccept bus.val sof f)

/-- HEARTBEAT_RX (01 R12): one with the own node-ID during the listen of BOOT. The module consumes no heartbeat (11 R283). -/
def execHeartbeatRx (bus : Fin 2) (node _nmt : Nat) (s : State) : Host.Outcome State Fault Refusal :=
  run s (fun L =>
    if L.mode.listening && !L.mode.dupHeard && !L.unassigned && node == L.nodeId then
      let L := { L with mode := { L.mode with dupHeard := true } }.put 0x20001A (setBit (L.getN 0x20001A) 13 true : Nat)
      L.ev 116 2 2 [] (leBytes 1 bus.val)
    else L)

/-- The bay safety SRDO's notice for the own bus identifier (10 R276, R277): it rises and trips, or falls. -/
def Live.bayNotice (L : Live) (data : Bytes) : Live :=
  let on := bitOf (le data 0 2) (L.getN 0x402203 - 1)
  let was := L.saf.insNotice
  let L := { L with saf := { L.saf with insNotice := on } }
  if on && !was && !L.pins.insRelay then (L.sf06 1).sf06 2 else L

/-- A valid pair of SRDO k: refreshed, its data held (10 R277). -/
def Live.srdoTaken (L : Live) (k : Nat) (data : Bytes) : Live :=
  let L := { L with saf := { L.saf with
    srdoAt := L.saf.srdoAt.set k (some L.time.clk)
    srdoData := L.saf.srdoData.set k data } }
  if L.getN ((0x1301 + k) * 256 + 5) = 0x143 then L.bayNotice data else L

/-- SRDO_RX (10 R277; 11 R296): SAF takes the frame from HPB0 or HPB1; a normal frame waits for its inverted frame within the SRVT. -/
def execSrdoRx (bus : Fin 2) (k : Fin 8) (inverted_ : Bool) (data : Bytes) (s : State) : Host.Outcome State Fault Refusal :=
  runIn 5 s (fun L =>
    if !L.srdoOn k.val 2 then L
    else
      let L := L.modCan bus.val (fun c => { c with hpb := c.hpb.set (if inverted_ then 1 else 0) none })
      if !inverted_ then { L with saf := { L.saf with srdoHalf := L.saf.srdoHalf.set k.val (some (L.time.clk, data)) } }
      else match L.saf.srdoHalf.getD k.val none with
        | none => L
        | some h =>
          let L := { L with saf := { L.saf with srdoHalf := L.saf.srdoHalf.set k.val none } }
          let srvt := ms (L.getN ((0x1301 + k.val) * 256 + 3))
          if L.time.clk ≤ h.1 + srvt ∧ data = inverted h.2 then L.srdoTaken k.val h.2 else L)

/-- Session under which a received PDO writes: no client, the open level (log 41). -/
def pdoSess : Sess := 1

/-- The mapping entries of a PDO: index:sub key and length in bytes (11 R283). -/
def Live.pdoMap (L : Live) (index : Nat) : List (Nat × Nat) :=
  (List.range (min 64 (L.getN (index * 256)))).map (fun i =>
    let e := L.getN (index * 256 + 1 + i)
    (e / 256, fld e 7 0 / 8))

/-- The values of a PDO written one after the other (11 R283; 12 R319; 01 R19). -/
def Live.pdoWrite (L : Live) : List (Nat × Nat) → Bytes → Live
  | [], _ => L
  | (k, n) :: rest, data =>
    let v := data.take n
    let L :=
      if L.follower ∧ !isTwinLocalWrite k then L.forward pdoSess k v
      else
        let x := L.forwardOn pdoSess k v
        let L := x.1
        match L.arrival pdoSess (k / 256) (k % 256) v with
        | none => { L with ks := { L.ks with
            pend := L.ks.pend ++ [{ sess := pdoSess, via := false, key := k, val := v, txn := none, fwd := x.2, level := L.levelOf pdoSess }] } }
        | some _ => { L with ks := { L.ks with refused := L.ks.refused + 1 } }
    Live.pdoWrite L rest (data.drop n)

/-- Does the controller take a frame with the COB-ID of RPDO n: on the bus, and accepted by a filter for the general ring (11 R295)? The
identifiers of PDOs are in no fixed filter. -/
def Live.takesRpdo (L : Live) (bus n len : Nat) : Bool :=
  let cob := L.pdoCob false n
  let c := L.can bus
  (c.st == 0 || c.st == 1 || c.st == 5) && !bitOf cob 31 &&
  L.filterTarget bus (if len ≤ 8 then canFrame (cob % 2048) [] else fdFrame (cob % 2048) []) == 1

/-- RPDO_RX (11 R283, R284, R295): in Operational a received PDO writes its mapped objects through the keystone. -/
def execRpdoRx (bus : Fin 2) (n : Fin 4) (data : Bytes) (s : State) : Host.Outcome State Fault Refusal :=
  runIn 4 s (fun L =>
    let m := L.pdoMap (0x1600 + n.val)
    if L.com.nmt ≠ 5 ∨ !L.takesRpdo bus n data.length ∨ data.length < (m.map (·.2)).foldl (· + ·) 0 then L
    else L.pdoWrite m data)

/-! ### NMT (11 R284) -/

/-- Is an NMT command for this module, which obeys any sender once it has left BOOT? -/
def Live.nmtFor (L : Live) (node : Nat) : Bool := (node == 0 || node == L.nodeId) && L.com.nmt != 0 && !L.unassigned

/-- START_REMOTE_NODE: Operational. -/
def execStartRemoteNode (node : Nat) (s : State) : Host.Outcome State Fault Refusal :=
  runIn 4 s (fun L => if L.nmtFor node then L.setNmt 5 else L)

/-- STOP_REMOTE_NODE: Stopped. -/
def execStopRemoteNode (node : Nat) (s : State) : Host.Outcome State Fault Refusal :=
  runIn 4 s (fun L => if L.nmtFor node then L.setNmt 4 else L)

/-- ENTER_PRE_OPERATIONAL: Pre-operational. -/
def execEnterPreOperational (node : Nat) (s : State) : Host.Outcome State Fault Refusal :=
  runIn 4 s (fun L => if L.nmtFor node then L.setNmt 127 else L)

/-- Is a key one of the communication objects, 0x1000 to 0x1FFF (12 R311)? -/
def isComKey (k : Nat) : Bool := 0x1000 ≤ k / 256 && k / 256 ≤ 0x1FFF

/-- The communication objects reload from the committed snapshot and both controllers restart; a self-starting module goes on to
Operational (11 R284; DEDUCED, log 41). -/
def Live.resetCom (snap L : Live) : Live :=
  let obj := L.obj.filter (fun p => p.1 < 0x100000) ++ snap.obj.filter (fun p => isComKey p.1) ++
    L.obj.filter (fun p => 0x200000 ≤ p.1)
  let L := { L with obj := obj }
  let restart := fun (L : Live) (b : Nat) =>
    let L := L.modCan b (fun (c : Can) => { c with
      tb := [none, none, none]
      tx := c.tx ++ c.tb.filterMap (fun x => x.map (·.f))
      withheld := false
      monitor := false })
    let L := (L.put (canKey b 0x11) 0).put (canKey b 0x12) 0
    L.setCan b (if L.boot (canKey b 0x0A) = 1 then 0 else 4)
  let L := restart (restart L 0) 1
  let L := { L with com := { L.com with bothLost := false, noticeDue := none } }
  L.setNmt (if L.fromStandby then 5 else 127)

/-- RESET_NODE: acts as reset communication. -/
def execResetNode (node : Nat) (s : State) : Host.Outcome State Fault Refusal :=
  runIn 4 s (fun L => if L.nmtFor node then Live.resetCom s.snap L else L)

/-- RESET_COMMUNICATION. -/
def execResetCommunication (node : Nat) (s : State) : Host.Outcome State Fault Refusal :=
  runIn 4 s (fun L => if L.nmtFor node then Live.resetCom s.snap L else L)

/-- May the module send heartbeats and bay time frames: past BOOT, with a node-ID of its own (01 R10, R12; 11 R284)? -/
def Live.maySend (L : Live) : Bool := L.com.nmt != 0 && !L.unassigned && !L.mode.dupHeard

/-- May the module send its other frames of Pre-operational and Operational: not in Stopped (11 R284)? -/
def Live.mayTalk (L : Live) : Bool := L.maySend && L.com.nmt != 4

/-- HEARTBEAT_TX (11 R285): one producer time after the last, on both buses, in class 1. -/
def execHeartbeatTx (s : State) : Host.Outcome State Fault Refusal :=
  runIn 4 s (fun L =>
    if !L.maySend then L
    else
      let L := L.reach (L.com.beatAt + ms (L.getN 0x101700))
      let L := { L with com := { L.com with beatAt := L.time.clk } }
      let f := canFrame (0x700 + L.nodeId) (leBytes 1 L.com.nmt)
      (L.enqueue 0 f 1 0).enqueue 1 f 1 0)

/-! ### Transmitting -/

/-- TX_BUFFER_LOAD (11 R289, R290, R293). -/
def execTxBufferLoad (bus : Fin 2) (s : State) : Host.Outcome State Fault Refusal :=
  runIn 4 s (fun L => L.loadBuffer bus.val)

/-- CAN_TX_COMPLETE (11 R293, R302). -/
def execCanTxComplete (bus : Fin 2) (tb : Fin 3) (how : TxEnd) (s : State) : Host.Outcome State Fault Refusal :=
  runIn 4 s (fun L => L.txEnd bus.val tb.val how)

/-- FRAME_PROMOTION (11 R291). -/
def execFramePromotion (bus : Fin 2) (s : State) : Host.Outcome State Fault Refusal :=
  runIn 4 s (fun L => L.promote bus.val)

/-- FRAME_DEADLINE (11 R292). -/
def execFrameDeadline (bus : Fin 2) (s : State) : Host.Outcome State Fault Refusal :=
  runIn 4 s (fun L => L.deadlines bus.val)

/-! ### Fault confinement -/

/-- CAN_ERROR_PASSIVE (11 R297); state 5 stays until a frame is acknowledged. -/
def execCanErrorPassive (bus : Fin 2) (s : State) : Host.Outcome State Fault Refusal :=
  runIn 4 s (fun L =>
    let b := bus.val
    if (L.can b).st = 5 ∧ !(L.can b).passive then
      ((L.modCan b (fun c => { c with passive := true })).freeCounters b 256).ev (112 + b) 1 1 [] (leBytes 1 b)
    else if (L.can b).st = 0 then
      (((L.setCan b 1).freeCounters b 256).ev (112 + b) 1 1 [] (leBytes 1 b)).degraded b
    else L)

/-- CAN_ERROR_ACTIVE (11 R297). -/
def execCanErrorActive (bus : Fin 2) (s : State) : Host.Outcome State Fault Refusal :=
  runIn 4 s (fun L =>
    let b := bus.val
    if (L.can b).st = 5 ∧ (L.can b).passive then
      ((L.modCan b (fun c => { c with passive := false })).freeCounters b 128).ev (112 + b) 2 0 [] (leBytes 1 b)
    else if (L.can b).st = 1 then ((L.setCan b 0).freeCounters b 128).ev (112 + b) 2 0 [] (leBytes 1 b) else L)

/-- CAN_BUS_OFF (11 R298, R300). -/
def execCanBusOff (bus : Fin 2) (s : State) : Host.Outcome State Fault Refusal :=
  runIn 4 s (fun L =>
    let st := (L.can bus.val).st
    if st = 0 ∨ st = 1 ∨ st = 5 then L.busOff bus.val else L)

/-- The controller takes part in the bus again, at once or after the check of R300 (11 R298, R300). -/
def Live.canRejoin (L : Live) (bus : Nat) : Live :=
  let L := ((L.put (canKey bus 0x11) 0).put (canKey bus 0x12) 0).setCan bus 0
  if L.com.bothLost then L.modCan bus (fun c => { c with monitor := true, monAt := L.time.clk })
  else L.ev (112 + bus) 4 0 [] (leBytes 1 bus)

/-- BUS_OFF_RECOVERY_COMPLETE (11 R298). -/
def execBusOffRecoveryComplete (bus : Fin 2) (s : State) : Host.Outcome State Fault Refusal :=
  runIn 4 s (fun L => if (L.can bus.val).st = 3 then L.canRejoin bus.val else L)

/-- CAN_NO_ACK_TIMEOUT (11 R297): state 5, while there were frames to send. -/
def execCanNoAckTimeout (bus : Fin 2) (s : State) : Host.Outcome State Fault Refusal :=
  runIn 4 s (fun L =>
    let b := bus.val
    if ((L.can b).st = 0 ∨ (L.can b).st = 1) ∧ !(L.can b).frames.isEmpty then
      ((L.setCan b 5).ev (112 + b) 6 1 [] (leBytes 1 b)).degraded b
    else L)

/-- BUS_MONITOR_CHECK_END (11 R300): each bus whose check of 1 s has run transmits again. -/
def execBusMonitorCheckEnd (s : State) : Host.Outcome State Fault Refusal :=
  runIn 4 s (fun L =>
    let ends := fun (c : Can) => if c.monitor then some (c.monAt + sec 1) else none
    let L := match earliest ((L.com.bus).map ends) with | some t => L.reach t | none => L
    (List.range 2).foldl (fun (L : Live) b =>
      if (L.can b).monitor && decide ((L.can b).monAt + sec 1 ≤ L.time.clk) then
        let L := L.modCan b (fun c => { c with monitor := false })
        { L with com := { L.com with bothLost := false, noticeDue := none } }.ev (112 + b) 4 0 [] (leBytes 1 b)
      else L) L)

/-- Controller command: 1 recover now, 2 clear counters (11 R287, R298). -/
def Live.cmdCan (L : Live) (bus v : Nat) : Except Abort Live :=
  if v = 1 then .ok (if (L.can bus).st = 2 then L.startRecovery bus else L)
  else if v = 2 then .ok ([0x13, 0x14, 0x15, 0x16, 0x17].foldl (fun L n => L.put (canKey bus n) 0) L)
  else .error abRange

/-- CAN_CMD_RECOVER (11 R287). -/
def execCanCmdRecover (sess : Sess) (bus : Fin 2) (s : State) : Host.Outcome State Fault Refusal :=
  run s (fun L => L.command sess 2 (canKey bus.val 9) (leBytes 1 1) (fun L => L.orAbort (L.cmdCan bus.val 1)))

/-- CAN_CMD_CLEAR_COUNTERS (11 R287). -/
def execCanCmdClearCounters (sess : Sess) (bus : Fin 2) (s : State) : Host.Outcome State Fault Refusal :=
  run s (fun L => L.command sess 2 (canKey bus.val 9) (leBytes 1 2) (fun L => L.orAbort (L.cmdCan bus.val 2)))

/-- WITHHELD_RECOVERY_START (11 R298): the oldest counted recovery is 60 s old. -/
def execWithheldRecoveryStart (bus : Fin 2) (s : State) : Host.Outcome State Fault Refusal :=
  runIn 4 s (fun L =>
    let c := L.can bus.val
    if !c.withheld ∨ c.st ≠ 2 then L
    else match earliest ((c.recov.filter (fun t => decide (L.time.clk < t + sec 60))).map some) with
      | some t => (L.reach (t + sec 60)).startRecovery bus.val
      | none => L.startRecovery bus.val)

/-! ### Bay time -/

/-- REFERENCE_MESSAGE_SEND (11 R302, R303; 01 R15): at the next instant S the lead manager enqueues the reference on both buses. -/
def execReferenceMessageSend (s : State) : Host.Outcome State Fault Refusal :=
  runIn 4 s (fun L =>
    if !L.mgr.lead ∨ !L.maySend ∨ !L.time.synced then L
    else
    let L := L.toPhase (ms 10) 0
    let inst := L.time.mtime
    if inst ≤ L.time.lastSent then L
    else
      let seq := period10 inst % 65536
      let st := L.getN 0x220002
      let flags := ofBits [inst % 100000000 == 0, st == 2, st == 3]
      let f := canFrame (L.bootN 0x220010) (leBytes 2 seq ++ leBytes 1 flags ++ leBytes 1 L.nodeId)
      let L := { L with time := { L.time with lastSent := inst, refSeq := seq } }
      (L.enqueue 0 f 0 2).enqueue 1 f 0 2)

/-- REFERENCE_CANCEL_TIMEOUT (11 R302). -/
def execReferenceCancelTimeout (bus : Fin 2) (s : State) : Host.Outcome State Fault Refusal :=
  runIn 4 s (fun L => L.cancelReference bus.val)

/-- REFERENCE_MESSAGE_RX (11 R303 to R305; 01 R17). -/
def execReferenceMessageRx (bus : Fin 2) (frame : Bytes) (sof : Nat) (s : State) : Host.Outcome State Fault Refusal :=
  runIn 2 s (fun L => L.referenceRx bus.val frame sof)

/-- FOLLOW_UP_RX (11 R305 to R308). -/
def execFollowUpRx (bus : Fin 2) (frame : Bytes) (s : State) : Host.Outcome State Fault Refusal :=
  runIn 2 s (fun L => L.followUpRx bus.val frame)

/-- TIME_HOLDOVER_ENTRY (11 R307): 50 ms without a valid pair. -/
def execTimeHoldoverEntry (s : State) : Host.Outcome State Fault Refusal :=
  runIn 2 s (fun L =>
    if L.followsBay && (L.getN 0x220002 == 1 || L.getN 0x220002 == 2) then
      let L := (L.reach L.holdoverSince).put 0x220002 3
      let L := { L with time := { L.time with lockCount := 0, holdAt := L.time.clk } }.put 0x22001A 0xFF
      L.ev 115 5 1 [] []
    else L)

/-- HOLDOVER_LIMIT_EXPIRY (11 R307): the module is unsynchronised and TIME is set again. -/
def execHoldoverLimitExpiry (s : State) : Host.Outcome State Fault Refusal :=
  runIn 2 s (fun L =>
    if L.followsBay && L.getN 0x220002 == 3 then
      let L := (L.reach (L.holdoverSince + sec (L.getN 0x220019))).put 0x220002 0
      (L.selfBit 18 true).ev 115 6 1 [] []
    else L)

/-- MANAGER_SILENCE_TIMEOUT (01 R17): a dispatched worker ramps to zero. -/
def execManagerSilenceTimeout (s : State) : Host.Outcome State Fault Refusal :=
  runIn 3 s (fun L =>
    if L.isManager || L.get 0x200007 != 0 || L.time.silence then L
    else
      let L := L.reach (L.time.lastRef + ms (L.getN 0x200006))
      { L with time := { L.time with silence := true } })

end Sys2Proof.Machine
end

