-- ==== Sys2Proof/Machine/SafeSet.lean ====
section
/-! DEFINITION. The safety parameter set: edit copy, image and CRC, consistency, confirmation (12 R329 to R332), and the sessions'
challenge (12 R316). -/

namespace Sys2Proof.Machine

/-! ### The set -/

/-- The safety parameters in ascending order with their types (12 R329, R330). -/
def safetyObjs : List (Nat × OdType) :=
  (List.range 0x30).flatMap (fun i =>
    (odRows (0x4010 + i)).flatMap (fun r =>
      if r.acc = .rwc then (List.range (r.hi + 1 - r.lo)).map (fun j => ((0x4010 + i) * 256 + r.lo + j, r.ty)) else []))

/-- Serialisation of the set (12 R330). -/
def setImage (get : Nat → Int) : Bytes :=
  safetyObjs.flatMap (fun o =>
    leBytes 2 (o.1 / 256) ++ leBytes 1 (o.1 % 256) ++ leBytes 1 o.2.size ++ o.2.encode (get o.1))

/-- CRC of the active set, 0x4000:05 (12 R330). -/
def Live.activeCrc (L : Live) : Nat := crc32c (setImage L.get)

/-- A value of the edit copy. -/
def Live.editGet (L : Live) (e : EditCopy) (k : Nat) : Int := (Store.find e.vals k).getD (L.get k)

/-- Image 0x4000:10 of the edit copy. -/
def Live.editImage (L : Live) (e : EditCopy) : Bytes := setImage (L.editGet e)

/-- 0x4000:06 (12 R330). -/
def Live.editCrc (L : Live) : Nat := match L.ks.edit with | some e => crc32c (L.editImage e) | none => 0

/-- The state as it would stand with the edit copy active. -/
def Live.withEdit (L : Live) (e : EditCopy) : Live := e.vals.foldl (fun L p => L.put p.1 p.2) L

/-- Objects of the set that are inconsistent with the rest (12 R331): R29, R30 of the sensors, R181 of the plumb check, R236 and R205
result 7 against the active table, the ranges of R279, and the fitted mask. Without a table T_SHUT is R235's default. Judged with the set active. -/
def Live.inconsistencies (L : Live) : List Nat :=
  let imax := L.get 0x401101
  let tab := !L.table.isEmpty
  let l := q (L.get 0x401201) / 1000000000
  let fault := q (L.get 0x401203) / 1000
  let faultX := maxQ (q (L.get 0x401204) / 10000 * (q imax / 1000)) 2
  let mask := ofBits ((List.range 16).map L.fitted)
  let bad : List (Nat × Bool) :=
    [ (0x401001, decide (L.get 0x401001 * imax < 10000000000 ∨ 50000000000 < L.get 0x401001 * imax)),
      (0x401002, decide (200 * L.get 0x401002 < imax)),
      (0x401102, L.getN 0x401102 != mask),
      (0x401203, decide (fault * l < 12 / 1000) || decide (24 / 1000 ≤ fault * l) ||
        !decide (q (L.get 0x30003A) / 1000 < fault)),
      (0x401204, !decide (q (L.get 0x30003B) / 10000 * (q imax / 1000) < faultX)),
      (0x402001, tab && !decide (roundQ (hdrEwh L.table 4 * 10000) < L.get 0x402001)),
      (0x402002, tab && !decide (L.get 0x402002 < roundQ (hdrEwl L.table 4 * 10000))),
      (0x402003, !decide ((if tab then (hdrT L.table 2 : Int) else 600) < L.get 0x402003)),
      (0x402004, !decide (L.get 0x3A000A < L.get 0x402004)),
      (0x402202, !decide (L.get 0x402202 < L.get 0x402201)) ]
  (bad.filter (·.2)).map (·.1)

/-- Open or continue the edit copy with one value (12 R329). -/
def Live.editWrite (L : Live) (s : Sess) (k : Nat) (v : Int) : Except Abort Live :=
  match L.ks.edit with
  | some e =>
    if e.owner ≠ s then .error abOwner
    else .ok { L with ks := { L.ks with edit := some { e with vals := e.vals.put (L.get k) k v, lastWrite := L.time.clk } } }
  | none =>
    .ok { L with ks := { L.ks with edit := some { owner := s, vals := Store.put [] (L.get k) k v, lastWrite := L.time.clk } } }

/-- Safety set command 1: discard the edit copy (12 R329). -/
def Live.cmdDiscardEdit (L : Live) (s : Sess) : Except Abort Live :=
  match L.ks.edit with
  | none => .error abState
  | some e => if e.owner ≠ s then .error abOwner else .ok { L with ks := { L.ks with edit := none } }

/-- States in which a confirmation is accepted (12 R331); none while a set with configuration parts is in probation (17 R420). -/
def Live.confirmState (L : Live) : Bool :=
  !L.upd.replaced && (L.mode.st == .standby || L.mode.st == .service || L.safeDone)

/-- Reason of a refused confirmation and the first object found inconsistent, (0, 0) where it is accepted (12 R331). -/
def Live.confirmReason (L : Live) (s : Sess) (crc : Nat) : Nat × Nat :=
  match L.ks.edit with
  | none => (4, 0)
  | some e =>
    if e.owner ≠ s then (5, 0)
    else if crc ≠ L.editCrc then (1, 0)
    else if !L.confirmState then (3, 0)
    else match (L.withEdit e).inconsistencies with
      | k :: _ => (2, k * 256)
      | [] => (0, 0)

/-- What a new active set brings besides its values: both copies, SAFEPAR clear, the coefficients and node thresholds that depend on
it (12 R331; 07 R175; 05 R110). -/
def Live.setActive (L : Live) : Live :=
  let L := { L with ks := { L.ks with copyAOk := true, copyBOk := true, confirmed := true } }.selfBit 12 false
  let L := L.recommit
  let L := if L.twin.holds then L.writeAllThresholds else L
  { L with ks := { L.ks with ctlDue := some (L.time.mtime + 200000) } }

/-- Confirm with CRC (12 R331). On refusal the reason stands in 0x4000:07, with event 8 code 2. -/
def Live.cmdConfirm (L : Live) (s : Sess) (crc : Nat) : Live × Abort :=
  let r := L.confirmReason s crc
  match r.1, L.ks.edit with
  | 0, some e =>
    let L := { L.withEdit e with ks := { L.ks with edit := none } }
    let L := ((L.put 0x400007 0).bump 0x400008 1 32).put 0x400009 L.ks.epoch
    let L := (L.put 0x40000A 0).setActive
    (L.ev 8 1 0 [] (leBytes 4 crc ++ leBytes 2 s), 0)
  | _, _ =>
    let L := (L.put 0x400007 r.1).put 0x40000A r.2
    (L.ev 8 2 1 [] (leBytes 1 r.1 ++ leBytes 4 r.2), abConfirm)

/-- The CRC of the active set is recomputed in both copies (12 R332). -/
def Live.checkCopies (L : Live) (aOk bOk : Bool) : Live :=
  match aOk, bOk with
  | true, true => L
  | false, false =>
    let L := { L with ks := { L.ks with copyAOk := false, copyBOk := false } }.selfBit 12 true
    if condHeld L.rcd.conds 8 4 (padTo 8 []) then L else L.ev 8 4 2 [] []
  | _, _ => { L with ks := { L.ks with copyAOk := true, copyBOk := true } }.ev 8 3 1 [] (leBytes 1 (if aOk then 1 else 0))

/-! ### Authentication -/

/-- Is a level's key set, and which (12 R318)? -/
def Live.levelKey (L : Live) (level : Nat) : Bytes :=
  if level = 4 then Config.l4Key else if 1 ≤ level ∧ level ≤ 3 then L.blobOf (0x4C000F + level) else []

/-- An authentication failure; three within 60 s lock the session's authentication for 60 s (12 R316). -/
def Live.authFail (L : Live) (s : Sess) : Live :=
  let recent := match L.session s with
    | some x => L.time.clk :: x.fails.filter (fun t => decide (L.time.clk < t + sec 60))
    | none => []
  if 3 ≤ recent.length then
    (L.modSession s (fun x => { x with fails := [], lockUntil := some (L.time.clk + sec 60) })).ev 127 16 1 [] (leBytes 2 s)
  else L.modSession s (fun x => { x with fails := recent })

/-- Is a response right (12 R316): the named epoch within the last second of commits and unused by this session, and the MAC over
nonce, epoch, level, serial and session identity under the level's key? -/
def Live.authRight (L : Live) (x : Session) (v : Bytes) : Bool :=
  let level := byteAt v 0
  let epoch := le v 1 8
  let key := L.levelKey level
  match L.ks.nonces.find? (fun n => n.1 == epoch && decide (L.time.clk ≤ n.2.1 + sec 1)) with
  | none => false
  | some n =>
    !key.isEmpty && !x.used.contains epoch &&
    (Config.hmac key (n.2.2 ++ leBytes 8 epoch ++ leBytes 1 level ++ leBytes 4 Config.serial ++ leBytes 2 x.id)).take 16
      == slice v 9 16

/-- Response 0x4C00:03 (12 R316). A failure is answered with 0x0800010F, a locked session with 0x08000110. -/
def Live.cmdAuth (L : Live) (s : Sess) (v : Bytes) : Live × Abort :=
  match L.session s with
  | none => (L, abAuth)
  | some x =>
    if iface s ≠ 1 ∧ iface s ≠ 2 then (L, abAccess)
    else if x.lockUntil.isSome then (L, abLocked)
    else if v.length ≠ 25 then (L, abLength)
    else if L.authRight x v then
      let L := L.modSession s (fun x => { x with level := byteAt v 0, used := le v 1 8 :: x.used })
      (L.ev 8 5 0 [] (leBytes 2 s ++ leBytes 1 (byteAt v 0)), 0)
    else (L.authFail s, abAuth)

/-- 0x4C00:04: a session lowers its level (12 R316). -/
def Live.cmdLower (L : Live) (s : Sess) (level : Nat) : Except Abort Live :=
  if L.levelOf s < level then .error abRange
  else if iface s = 1 ∨ iface s = 2 then .ok (L.modSession s (fun x => { x with level := level }))
  else if iface s = 3 then
    .ok { L with mgr := { L.mgr with conns := L.mgr.conns.modify (s % 256) (fun c => c.map (fun c => { c with level := level })) } }
  else .ok { L with dbg := { L.dbg with session := L.dbg.session.map (fun d => (level, d.2)) } }

end Sys2Proof.Machine
end

