-- ==== Sys2Proof/Machine/Sessions.lean ====
section
/-! DEFINITION. The meanings of the session, safety-set and layer-setting commands (12 R314 to R332). -/

namespace Sys2Proof.Machine

/-- AUTH_RESPONSE (12 R316). -/
def execAuthResponse (sess : Sess) (response : Bytes) (s : State) : Host.Outcome State Fault Refusal :=
  run s (fun L => L.command sess 0 0x4C0003 response (fun L => L.cmdAuth sess response))

/-- LOWER_LEVEL (12 R316). -/
def execLowerLevel (sess : Sess) (level : Nat) (s : State) : Host.Outcome State Fault Refusal :=
  run s (fun L => L.command sess 0 0x4C0004 (leBytes 1 level) (fun L => L.orAbort (L.cmdLower sess level)))

/-- SESSION_IDLE_TIMEOUT (12 R315): the session falls back to the open level. -/
def execSessionIdleTimeout (sess : Sess) (s : State) : Host.Outcome State Fault Refusal :=
  run s (fun L => match L.session sess with
    | none => L
    | some x =>
      (L.reach (x.lastReq + sec (L.getN 0x4C0006))).modSession sess (fun x => { x with level := L.getN 0x4C0007 }))

/-- AUTH_LOCK_EXPIRY (12 R316; 18 R444): 60 s after the third failure. -/
def execAuthLockExpiry (sess : Sess) (s : State) : Host.Outcome State Fault Refusal :=
  run s (fun L =>
    if iface sess = 4 then
      match L.dbg.lockUntil with
      | none => L
      | some t => { L.reach t with dbg := { (L.reach t).dbg with lockUntil := none } }
    else match (L.session sess).bind (·.lockUntil) with
      | none => L
      | some t => (L.reach t).modSession sess (fun x => { x with lockUntil := none }))

/-- SAFETY_PARAM_WRITE (12 R329): after the arrival checks the value enters the edit copy. -/
def execSafetyParamWrite (sess : Sess) (index sub : Nat) (value : Bytes) (s : State) : Host.Outcome State Fault Refusal :=
  run s (fun L => L.asWrite sess (index * 256 + sub) value
    (fun L => match L.arrival sess index sub value with
      | some e => some e
      | none => if isSafetyParam (index * 256 + sub) then none else some abAccess)
    (fun L => match odRow index sub with
      | some r => L.orAbort (L.editWrite sess (index * 256 + sub) (r.ty.decode value))
      | none => (L, abSub)))

/-- SAFETY_CMD_DISCARD_EDIT (12 R329). -/
def execSafetyCmdDiscardEdit (sess : Sess) (s : State) : Host.Outcome State Fault Refusal :=
  run s (fun L => L.command sess 3 0x400003 (leBytes 1 1) (fun L => L.orAbort (L.cmdDiscardEdit sess)))

/-- SAFETY_SET_CONFIRM (12 R331). -/
def execSafetySetConfirm (sess : Sess) (crc : Nat) (s : State) : Host.Outcome State Fault Refusal :=
  run s (fun L => L.command sess 3 0x400004 (leBytes 4 crc) (fun L => L.cmdConfirm sess crc))

/-- EDIT_COPY_TIMEOUT (12 R329): 10 min without a write. -/
def execEditCopyTimeout (s : State) : Host.Outcome State Fault Refusal :=
  run s (fun L => match L.ks.edit with
    | none => L
    | some e => { L.reach (e.lastWrite + sec 600) with ks := { (L.reach (e.lastWrite + sec 600)).ks with edit := none } })

/-- SAFETY_SET_CRC_CHECK (12 R332). -/
def execSafetySetCrcCheck (copyAOk copyBOk : Bool) (s : State) : Host.Outcome State Fault Refusal :=
  run s (fun L => L.checkCopies copyAOk copyBOk)

/-! ### Layer setting (12 R314; services and frames of CiA 305, log 26) -/

/-- Identity object 0x1018: vendor, product, revision, serial (12 R312). -/
def Live.identity (L : Live) (n : Nat) : Nat :=
  match n with
  | 1 => 0x00000B3C
  | 2 => 0x00531016
  | 3 => L.getN 0x480005
  | 4 => Config.serial % 2 ^ 32
  | _ => 4

/-- A layer-setting response on the bus of its request, through its class 2 ring (11 R288; identifier PRESUMED after CiA 305, log 225);
none once a duplicate node-ID has been heard (01 R12). -/
def Live.lssSend (L : Live) (bus cs : Nat) (rest : Bytes) : Live :=
  if L.mode.dupHeard then L
  else
    let d := padTo 8 (leBytes 1 cs ++ rest)
    (L.enqueueAt bus (canFrame 0x7E4 d) 2 0 L.time.clk false).emit (.lss bus d)

/-- Is the bus in the configuration state? -/
def Live.lssOn (L : Live) (bus : Nat) : Bool := L.com.lssConf.getD bus false

/-- Enter or leave the configuration state on a bus. -/
def Live.lssSet (L : Live) (bus : Nat) (on : Bool) : Live := { L with com := { L.com with lssConf := L.com.lssConf.set bus on } }

/-- LSS_SWITCH_STATE_GLOBAL. -/
def execLssSwitchStateGlobal (bus : Fin 2) (configuration : Bool) (s : State) : Host.Outcome State Fault Refusal :=
  runIn 4 s (fun L => L.lssSet bus.val configuration)

/-- LSS_SWITCH_STATE_SELECTIVE: the module with this LSS address enters the configuration state and answers. -/
def execLssSwitchStateSelective (bus : Fin 2) (vendor product revision serial : Nat) (s : State) : Host.Outcome State Fault Refusal :=
  runIn 4 s (fun L =>
    if vendor = L.identity 1 ∧ product = L.identity 2 ∧ revision = L.identity 3 ∧ serial = L.identity 4 then
      (L.lssSet bus.val true).lssSend bus.val 0x44 []
    else L)

/-- LSS_CONFIGURE_NODE_ID (12 R314): only without a node-ID and in STANDBY; error 1 for a value outside R10, error 255 with specific
error 1 otherwise. -/
def execLssConfigureNodeId (bus : Fin 2) (node : Nat) (s : State) : Host.Outcome State Fault Refusal :=
  runIn 4 s (fun L =>
    if !L.lssOn bus.val then L
    else if L.getN 0x200002 ≠ 255 ∨ L.mode.st ≠ .standby then L.lssSend bus.val 0x11 [255, 1]
    else if (1 ≤ node ∧ node ≤ 33) ∨ (65 ≤ node ∧ node ≤ 97) ∨ node = 255 then
      { L with com := { L.com with lssNode := some node } }.lssSend bus.val 0x11 [0, 0]
    else L.lssSend bus.val 0x11 [1, 0])

/-- LSS_STORE_CONFIGURATION (12 R314): the configured value is committed at the next course boundary. -/
def execLssStoreConfiguration (bus : Fin 2) (s : State) : Host.Outcome State Fault Refusal :=
  runIn 4 s (fun L =>
    if !L.lssOn bus.val then L
    else { L with com := { L.com with lssStore := L.com.lssNode } }.lssSend bus.val 0x17 [0, 0])

/-- An inquire service, answered in the configuration state. -/
def Live.lssInquire (L : Live) (bus cs n : Nat) : Live :=
  if L.lssOn bus then L.lssSend bus cs (leBytes 4 n) else L

/-- LSS_INQUIRE_VENDOR. -/
def execLssInquireVendor (bus : Fin 2) (s : State) : Host.Outcome State Fault Refusal :=
  runIn 4 s (fun L => L.lssInquire bus.val 0x5A (L.identity 1))

/-- LSS_INQUIRE_PRODUCT. -/
def execLssInquireProduct (bus : Fin 2) (s : State) : Host.Outcome State Fault Refusal :=
  runIn 4 s (fun L => L.lssInquire bus.val 0x5B (L.identity 2))

/-- LSS_INQUIRE_REVISION. -/
def execLssInquireRevision (bus : Fin 2) (s : State) : Host.Outcome State Fault Refusal :=
  runIn 4 s (fun L => L.lssInquire bus.val 0x5C (L.identity 3))

/-- LSS_INQUIRE_SERIAL. -/
def execLssInquireSerial (bus : Fin 2) (s : State) : Host.Outcome State Fault Refusal :=
  runIn 4 s (fun L => L.lssInquire bus.val 0x5D (L.identity 4))

/-- LSS_INQUIRE_NODE_ID. -/
def execLssInquireNodeId (bus : Fin 2) (s : State) : Host.Outcome State Fault Refusal :=
  runIn 4 s (fun L => L.lssInquire bus.val 0x5E L.nodeId)

/-- LSS_IDENTIFY_REMOTE_SLAVE: vendor and product equal, revision and serial within the ranges. -/
def execLssIdentifyRemoteSlave (bus : Fin 2) (vendor product revLo revHi serLo serHi : Nat) (s : State) :
    Host.Outcome State Fault Refusal :=
  runIn 4 s (fun L =>
    if vendor = L.identity 1 ∧ product = L.identity 2 ∧ revLo ≤ L.identity 3 ∧ L.identity 3 ≤ revHi ∧
        serLo ≤ L.identity 4 ∧ L.identity 4 ≤ serHi then L.lssSend bus.val 0x4F []
    else L)

/-- LSS_IDENTIFY_NON_CONFIGURED: answered while no node-ID is assigned. -/
def execLssIdentifyNonConfigured (bus : Fin 2) (s : State) : Host.Outcome State Fault Refusal :=
  runIn 4 s (fun L => if L.getN 0x200002 = 255 then L.lssSend bus.val 0x50 [] else L)

end Sys2Proof.Machine
end

