-- ==== Sys2Proof/Machine/ObjValues.lean ====
section
/-! DEFINITION. What the dictionary's read-only objects read: values computed from the state, per index, and the byte strings; then a
read (12 R323, R324). An object without an entry here reads its stored value. -/

namespace Sys2Proof.Machine

/-! ### Numbers -/

/-- A rational rounded, held in an unsigned range of w bits below the not-available value (00 R4). -/
def uQ (w : Nat) (x : Rat) : Int := min (max (roundQ x) 0) (2 ^ w - 2 : Nat)

/-- A rational rounded, held in ± bound. -/
def sQ (bound : Int) (x : Rat) : Int := min (max (roundQ x) (-bound)) bound

/-- Milliseconds left until a deadline, 0 where it is past. -/
def msLeft (now due : Nat) : Nat := (due - now + 999999) / 1000000

/-- 0x2000: role, supply, state (01 R16, 02 R47, 03 R70). -/
def Live.num2000 (L : Live) (sub : Nat) : Option Int :=
  match sub with
  | 0x01 => some Config.variant
  | 0x03 => some (if !L.isManager then 0 else if L.mgr.lead then 1 else 2)
  | 0x04 => some L.role
  | 0x05 => if L.isManager then none else some 0
  | 0x08 => some L.mode.st.code
  | 0x09 => some L.stepOf
  | 0x0B => some (match L.mode.pendEnable with | some t => msLeft L.time.clk t | none => 0)
  | 0x12 => some (L.source : Nat)
  | 0x13 => some (Config.freeInt L.time.clk % 61)
  | 0x18 => some (min 20 L.saf.bayMa : Nat)
  | 0x1B => some (match L.mode.cooldown with | some t => msLeft L.time.clk t | none => 0)
  | 0x1E => some ((L.time.clk - L.mode.bootClk) / 1000000000 : Nat)
  | _ => none

/-- Voltage of a segment without load once it has given d Ah, V: the sum of its cells' discharge curves (08 R200). -/
def voltAfter (img : Bytes) (cs : List Ctx) (d : Rat) : Rat :=
  sumQ (cs.map (fun c => ocv img 1 (soc01 c - divQ d c.qc) (c.tc.getD 250)))

/-- Charge between lo and hi after which a segment's voltage comes down to v, by n halvings. -/
def chargeTo (img : Bytes) (cs : List Ctx) (v : Rat) : Nat → Rat → Rat → Rat
  | 0, lo, _ => lo
  | n + 1, lo, hi =>
    let mid := (lo + hi) / 2
    if v ≤ voltAfter img cs mid then chargeTo img cs v n mid hi else chargeTo img cs v n lo mid

/-- Energy of a segment down to the voltage v, Wh (06 R147): its usable energy where it is not reached. The segment's voltage is taken
as that of its cells without load, the charge to 2⁻⁴⁰ of the remaining one (DEDUCED, log 42). -/
def Live.energyTo (L : Live) (s : Nat) (v : Rat) : Rat :=
  let cs := L.segCtx s
  let img := L.table
  match segCharge (cs.map (fun c => (soc01 c, c.qc))) with
  | some x =>
    if v ≤ voltAfter img cs x.1.2 then (L.segEst s).eRem
    else
      let d := chargeTo img cs v 40 0 x.1.2
      minQ (L.segEst s).eRem
        (sumQ (cs.map (fun c => d * meanOver img (fun y => ocv img 1 y (c.tc.getD 250)) (soc01 c - divQ d c.qc) (soc01 c))))
  | none => 0

/-- Deliverable string energy, Wh (06 R147): the N_need segments with the least usable energy count down to the voltage at which R124
would break, 0.95 × (N_need − 1) of it meeting the highest bus voltage. While A is empty every fitted segment counts as needed (DESIGN CHOICE, log 209). -/
def Live.deliverable (L : Live) : Rat :=
  let ss := (L.fittedSegs.foldl (fun l s => insRank (s, -(L.segEst s).eRem) l) []).map (·.1)
  let need := if L.conv.act.isEmpty then ss.length
    else ((L.conv.vBus / maxQ (19 / 20 * L.vMin L.conv.act) (1 / 1000)).ceil + 1).toNat
  let least := divQ L.vBusMax (19 / 20 * q ((need : Int) - 1))
  sumQ ((ss.drop need).map (fun s => (L.segEst s).eRem)) +
    (if need ≤ 1 then sumQ ((ss.take need).map (fun s => (L.segEst s).eRem))
     else sumQ ((ss.take need).map (fun s => L.energyTo s least)))

/-- Plumb status bits 0 to 3 (07 R193). -/
def Live.plumbBits (L : Live) : Nat :=
  let w := L.getN 0x30003C
  ofBits [!L.pins.sswOpen, bitOf w 1, bitOf w 2, L.eng.fault] + 16 * (w / 16)

/-- 0x3000: conversion and engine (06 R148, 07 R193). -/
def Live.num3000 (L : Live) (sub : Nat) : Option Int :=
  match sub with
  | 0x20 => some L.conv.act.length
  | 0x21 => some L.conv.nact
  | 0x22 => some (sQ 1500000 (L.conv.h * 1000))
  | 0x23 => some (uQ 31 (L.conv.limDis * 1000))
  | 0x24 => some (uQ 31 (L.conv.limCh * 1000))
  | 0x25 => some (sQ 2147483647 (L.conv.r * (if L.conv.mode = 1 then 1 else 1000)))
  | 0x26 => some (uQ 32 (L.conv.vIns * 1000))
  | 0x27 => some (sQ 2000000 (L.conv.i * 1000))
  | 0x28 => some (uQ 32 (L.conv.vBus * 1000))
  | 0x29 => some (sQ 3000000 (L.conv.i * L.conv.vBus))
  | 0x2A => some L.conv.flags
  | 0x2B => some L.conv.phase
  | 0x2D => some (uQ 32 L.deliverable)
  | 0x30 => if L.committedTab.isEmpty then none else some (tableCost L.committedTab)
  | 0x33 => some (tableId L.committedTab)
  | 0x3C => some L.plumbBits
  | _ => none

/-- 0x3100 + s: a stage (07 R192). -/
def Live.num3100 (L : Live) (s sub : Nat) : Option Int :=
  let g := L.committedTab.getD s {}
  let st := L.eng.st.getD s {}
  if sub = 1 then some g.ty
  else if sub = 2 then some g.lanes
  else if sub = 3 then some g.mask
  else if 4 ≤ sub ∧ sub ≤ 7 then some (g.src.getD (sub - 4) 255)
  else if sub = 8 then some g.variant
  else if sub = 9 then some g.ec
  else if 0x0A ≤ sub ∧ sub ≤ 0x11 then some (toReal32 (g.c (sub - 0x0A)))
  else if sub = 0x12 then some g.cost
  else if sub = 0x13 then some (startCycle L.committedTab s)
  else if 0x14 ≤ sub ∧ sub ≤ 0x17 then some (toReal32 (if sub - 0x14 < g.outLanes then st.out.lane (sub - 0x14) else 0))
  else if sub = 0x18 then some st.flags
  else none

/-- Temperature used of a sensor as an object value, 8000H where it is not available (00 R4). -/
def tempObj (x : Option Rat) : Int := match x with | some t => sQ 32767 t | none => -32768

/-- Temperature of cell c of segment s: that of its thermistor (08 R201, 09 R232). -/
def Live.cellTemp (L : Live) (s c : Nat) : Option Rat := (L.sensAt s (thermOf L.cellCount c)).use

/-- The cell with the extreme temperature among some cells, the first where they tie: cell and temperature. -/
def extreme (better : Rat → Rat → Bool) (l : List (Nat × Option Rat)) : Option (Nat × Rat) :=
  l.foldl (fun a x => match a, x.2 with
    | none, some t => some (x.1, t)
    | some y, some t => if better t y.2 then some (x.1, t) else some y
    | a, none => a) none

/-- Cells of a segment with their temperatures, by a base for the index. -/
def Live.segTemps (L : Live) (s base : Nat) : List (Nat × Option Rat) :=
  (List.range L.cellCount).map (fun c => (base + c, L.cellTemp s c))

/-- Hotter. -/
def hotter (a b : Rat) : Bool := decide (b < a)
/-- Colder. -/
def colder (a b : Rat) : Bool := decide (a < b)

/-- 0x3400 + s, 01 to 09: conversion (06 R150). -/
def Live.numSegConv (L : Live) (s sub : Nat) : Option Int :=
  let g := L.segAt s
  match sub with
  | 0x01 => some (L.convState s)
  | 0x02 => some (match L.conv.slots.find? (fun x => x.1 == s) with | some x => x.2 | none => 255)
  | 0x03 => some (if L.conv.act.contains s then g.duty else 0)
  | 0x04 => some (if L.conv.act.contains s then sQ 500 (L.rawOffset (L.rho s) s * 10000) else 0)
  | 0x05 => some (if L.conv.queue.contains s then 255 else g.age)
  | 0x06 => some (uQ 16 (L.rho s * 10000))
  | 0x07 => some (sQ 1000000 (L.rmsHour s * 1000))
  | 0x08 => some (segMv g)
  | 0x09 => some g.cause
  | _ => none

/-- 0x3400 + s, 10 to 1C: estimation (08 R228). A segment that is not fitted reads not available where its objects state no default
(00 R4). -/
def Live.numSegEst (L : Live) (s sub : Nat) : Option Int :=
  let e := L.segEst s
  let vs := ((L.segAt s).cells.take L.cellCount).filter (· != 65535)
  let cs := L.segCtx s
  if !L.fitted s then
    match sub with
    | 0x12 => some 0xFFFFFFFF
    | 0x13 => some 0xFFFFFFFF
    | 0x15 => some 255
    | 0x16 => some 255
    | 0x17 => some 0
    | 0x18 => some 0
    | 0x1A => some 10000
    | _ => if 0x10 ≤ sub ∧ sub ≤ 0x1C then some 65535 else none
  else match sub with
  | 0x10 => some (uQ 16 (e.rep * 10000))
  | 0x11 => some (uQ 16 (clampQ 0 1 e.soc * 10000))
  | 0x12 => some (uQ 32 e.eRem)
  | 0x13 => some (uQ 32 e.eRoom)
  | 0x14 => some (uQ 16 (clampQ 0 1 e.soh * 10000))
  | 0x15 => some (match e.limCell.1 with | some c => c % 32 | none => 255)
  | 0x16 => some (match e.limCell.2 with | some c => c % 32 | none => 255)
  | 0x17 => some (uQ 31 (e.lim.1 * 1000))
  | 0x18 => some (uQ 31 (e.lim.2 * 1000))
  | 0x19 => some (uQ 16 (((maxOpt (cs.map sigmaSoc)).getD 0) * 10000))
  | 0x1A => some (uQ 16 (if cs.isEmpty then 10000 else sumQ (cs.map (·.aS)) / q cs.length * 10000))
  | 0x1B => some (vs.foldl (fun a v => if a = 65535 then v else min a v) 65535 : Nat)
  | 0x1C => some (if vs.isEmpty then 65535 else vs.foldl max 0 : Nat)
  | _ => none

/-- 0x3400 + s, 21 to 36: link and temperature (05 R113, 09 R245). -/
def Live.numSegLink (L : Live) (s sub : Nat) : Option Int :=
  let g := L.segAt s
  let hot := extreme hotter (L.segTemps s 0)
  match sub with
  | 0x21 => some g.link
  | 0x27 => some g.tokRep
  | 0x2F => some g.sflags
  | 0x30 => some (tempObj (hot.map (·.2)))
  | 0x31 => some (match hot with | some x => x.1 | none => 255)
  | 0x32 => some (tempObj (L.sensAt s 8).v)
  | 0x33 => some (tempObj (L.sensAt s 9).v)
  | 0x34 => some (ofBits ((List.range 10).map (fun j => (L.sensAt s j).suspect)))
  | 0x35 => some (L.th.state.getD s 0)
  | 0x36 => some (uQ 16 (L.th.fac.getD s 1 * 10000))
  | _ => none

/-- 0x3500: the estimator (08 R227); where no segment is fitted or no table active the string's values are not available (00 R4). -/
def Live.num3500 (L : Live) (sub : Nat) : Option Int :=
  match sub with
  | 0x01 => some (L.fittedCells.filter (fun g => !(L.ctxAt g).blend)).length
  | 0x20 => some (if L.hasEst then uQ 16 (L.est.rep * 10000) else 0xFFFF)
  | 0x21 => some (if L.hasEst && L.est.eRem + L.est.eRoom != 0 then uQ 16 (L.est.soc * 10000) else 0xFFFF)
  | 0x22 => some (if L.hasEst then uQ 32 L.est.eRem else 0xFFFFFFFF)
  | 0x23 => some (if L.hasEst then uQ 32 L.est.eRoom else 0xFFFFFFFF)
  | 0x24 => some (if L.hasEst && !L.conv.act.isEmpty then uQ 16 (L.est.sigma * 10000) else 0xFFFF)
  | 0x25 => some (uQ 31 (L.est.lim.1 * 1000))
  | 0x26 => some (uQ 31 (L.est.lim.2 * 1000))
  | 0x28 => some (if L.hasEst then uQ 16 (clampQ 0 1 L.est.soh * 10000) else 0xFFFF)
  | _ => none

/-- Own reading of a module sensor as its object, −50.0 to 150.0 °C, suspect or not (09 R240, R244). -/
def modTemp (x : Sens) : Int := match x.v with | some t => max (-500) (min 1500 (roundQ t)) | none => -32768

/-- 0x3A00: thermal (09 R244). -/
def Live.num3A00 (L : Live) (sub : Nat) : Option Int :=
  let img := L.table
  let cells := L.conv.act.flatMap (fun s => L.segTemps s (32 * s))
  if 1 ≤ sub ∧ sub ≤ 6 then
    (if img.isEmpty then some (match sub with
      | 1 => 500 | 2 => 550 | 3 => 600 | 4 => 30 | _ => -32768)
     else some (match sub with
      | 1 => hdrT img 0 | 2 => hdrT img 1 | 3 => hdrT img 2 | 4 => hdrThyst img | 5 => hdrT img 3 | _ => hdrT img 4))
  else match sub with
  | 0x10 => some (modTemp (L.th.mod.getD 0 {}))
  | 0x11 => some (modTemp (L.th.mod.getD 1 {}))
  | 0x12 => some (modTemp (L.th.mod.getD 2 {}))
  | 0x13 => some (modTemp (L.th.mod.getD 3 {}))
  | 0x18 => some (uQ 16 (L.th.f * 10000))
  | 0x19 => some (match extreme hotter cells with | some x => x.1 | none => 65535)
  | 0x1A => some (tempObj ((extreme hotter cells).map (·.2)))
  | 0x1B => some (tempObj ((extreme colder cells).map (·.2)))
  | 0x1C => some (if L.th.chRefused then 0 else 1)
  | 0x1E => some (ofBits (L.th.mod.map (·.suspect)))
  | _ => none

/-- 0x4400: the logic engine (14 R362). -/
def Live.num4400 (L : Live) (sub : Nat) : Option Int :=
  match sub with
  | 0x03 => some L.lgc.bank
  | 0x09 => some (L.bootN 0x44000A * 80000 - 6000 : Nat)
  | 0x0B => some L.lgc.l
  | 0x10 => some L.lgc.forces.length
  | 0x11 => some (if L.lgc.forces.isEmpty then 0 else 1)
  | _ => none

/-- 0x4600: the recorder (16 R417). -/
def Live.num4600 (L : Live) (sub : Nat) : Option Int :=
  let r := L.rcd
  match sub with
  | 0x01 => some r.era
  | 0x02 => some (r.newest.getD 0)
  | 0x03 => some ((match r.newest with
      | none => r.eraFirst
      | some n => if (n + 2 ^ 32 - r.eraFirst) % 2 ^ 32 < 65536 then r.eraFirst else (n + 2 ^ 32 - 65535) % 2 ^ 32) : Nat)
  | 0x04 => some ((match r.newest with
      | none => 0
      | some n => min 65536 ((n + 2 ^ 32 - r.eraFirst) % 2 ^ 32 + 1)) : Nat)
  | 0x05 => some (r.waiting .normal)
  | 0x06 => some (r.waiting .reserve)
  | 0x07 => some (r.lost.getD 0 0)
  | 0x08 => some (r.lost.getD 1 0)
  | 0x09 => some (r.lost.getD 2 0)
  | 0x0A => some (if r.freeze.isSome then 1 else if r.noFreeze then 2 else 0)
  | 0x0B => some (match r.freeze with | some f => msLeft L.time.clk f.1 | none => 0)
  | 0x0C => some (match r.freeze with | some f => f.2 | none => 0)
  | _ => none

/-- Own health: no cause of SF-12, no failed pair check (15 R389 PSTATE). -/
def Live.healthy (L : Live) : Bool := !bitOf (L.getN 0x404001) 11 && !L.twin.checkFailed

/-- Clean seconds so far, at most 600 (17 R430); none while a condition of it fails. -/
def Live.cleanFor (L : Live) : Nat :=
  if !L.upd.probation ∨ !L.healthy ∨ (L.hasPartner && !L.inStep) then 0 else min 600 ((L.time.clk - L.upd.cleanAt) / 1000000000)

/-- Age of the flash block written longest ago, in days; a block never written counts from 0 (17 R432, R439). -/
def Live.oldestBlock (L : Live) : Nat :=
  let first := if L.upd.written.length < 1024 then 0 else L.upd.written.foldl (fun (a : Nat) x => min a x.2) L.flashNow
  min 65534 ((L.flashNow - first) / (86400 * 1000000000))

/-- 0x4800: the journal's objects and the counters (17 R439). -/
def Live.num4800 (L : Live) (sub : Nat) : Option Int :=
  match sub with
  | 0x0B => some L.cleanFor
  | 0x30 => some L.oldestBlock
  | 0x20 => some (min ringSize (match L.jrn.oldest with | some e => L.jrn.head - e.pos | none => 0) : Nat)
  | 0x21 => some (match L.jrn.oldest with | some e => e.seq | none => 0)
  | 0x22 => some ((L.jrn.nextSeq + 2 ^ 32 - 1) % 2 ^ 32 : Nat)
  | 0x40 => some (uQ 64 L.conv.energy.1)
  | 0x41 => some (uQ 64 L.conv.energy.2)
  | _ => none

/-- 0x4A00: the twin (15 R403). -/
def Live.num4A00 (L : Live) (sub : Nat) : Option Int :=
  match sub with
  | 0x01 => some L.twin.pair
  | 0x02 => some L.twin.p.node
  | 0x03 => some L.twin.gen
  | 0x05 => some (Config.schemaOf (L.getN 0x480005) : Nat)
  | 0x06 => some L.twin.p.schema
  | _ => none

/-- 0x4C00: sessions and the debug port (12 R318, 18 R451). -/
def Live.num4C00 (L : Live) (sub : Nat) : Option Int :=
  match sub with
  | 0x08 => some L.ks.sessions.length
  | 0x20 => some (if L.dbg.lockUntil.isSome then 3
      else match L.dbg.session with | none => 0 | some d => if d.1 = 0 then 1 else 2)
  | 0x21 => some (match L.dbg.session with | some d => d.1 | none => 0)
  | 0x22 => some (match L.lgc.owner with | some o => o.1 + 65536 * o.2 | none => 0)
  | 0x23 => some L.dbg.halted
  | 0x24 => some (ofBits (L.dbg.brk.map (·.isSome)))
  | _ => none

/-- 0x4E00: events and conditions (12 R335). -/
def Live.num4E00 (L : Live) (sub : Nat) : Option Int :=
  let e := L.rcd.lastEvent
  match sub with
  | 0x01 => some (min L.rcd.raised (2 ^ 32 - 1) : Nat)
  | 0x02 => some (e.1 % 256 * 65536 + e.2.1 % 65536 : Nat)
  | 0x03 => some e.2.2.1
  | 0x04 => some e.2.2.2
  | 0x05 => some (L.rcd.conds.filter (fun c => c.cls == 0)).length
  | 0x06 => some (L.rcd.conds.filter (fun c => c.cls == 1)).length
  | 0x07 => some (L.rcd.conds.filter (fun c => c.cls == 2)).length
  | 0x08 => some (L.rcd.conds.filter (fun c => c.cls == 3)).length
  | _ => none

/-- State of the PTP port (13 R355 sub 25). -/
def Live.ptpState (L : Live) : Nat :=
  match L.mgr.ptp.master with
  | none => if bitOf (L.getN 0x500025) 2 then 4 else 0
  | some _ => if L.mgr.ptp.locked then (if L.getN 0x220002 = 3 then 3 else 2) else 1

/-- 0x5000: the bay manager (13 R355). -/
def Live.num5000 (L : Live) (sub : Nat) : Option Int :=
  match sub with
  | 0x03 => some L.mgr.shortfall.toNat
  | 0x04 => some L.mgr.strings.length
  | 0x05 => some L.mgr.tag
  | 0x25 => some L.ptpState
  | 0x27 => some ((L.mgr.ptp.delay.getD 0).toNat : Nat)
  | 0x42 => some L.mgr.dpSeq
  | _ => none

/-- Word of fixed filter i (11 R295). Identifier and mask of filters 0 and 1, which take several identifiers each, are free; those of filter
6 are the narrowest pair that takes its identifiers (DESIGN CHOICE, log 42). -/
def Live.filterWord (L : Live) (i : Nat) : Nat :=
  let w := fun (id mask target : Nat) => id + mask * 2 ^ 29 + target * 2 ^ 61
  match i with
  | 2 => w (L.bootN 0x220010 &&& L.bootN 0x220011) (0x7FF ^^^ (L.bootN 0x220010 ^^^ L.bootN 0x220011)) 5
  | 3 => w 0 0x7FF 1
  | 4 => w (0x600 + L.nodeId) 0x7FF 1
  | 5 => w 0x700 0x780 1
  | 6 =>
    let first := L.bootN 0x500006 + 1
    let ids := (List.range 33).map (fun i => first + i) ++ [L.bootN 0x500007, L.bootN 0x500008, L.bootN 0x500008 + 1]
    let differ := ids.foldl (fun a x => a ||| (x ^^^ first)) 0
    let mask := (List.range 11).foldl (fun m i => if differ < 2 ^ (i + 1) ∧ m = 0 then 0x800 - 2 ^ (i + 1) else m) 0
    w (first &&& mask) mask 1
  | 7 => w 0x80 0x780 (if L.isManager then 1 else 0)
  | _ => w ((Config.freeInt i).toNat % 2 ^ 11) ((Config.freeInt (i + 2)).toNat % 2 ^ 11 + 2 ^ 30) (2 + i)

/-- Value of a numeric object computed from the state, none where its stored value is read. -/
def Live.computed (L : Live) (k : Nat) : Option Int :=
  let idx := k / 256
  let sub := k % 256
  if 0x3400 ≤ idx ∧ idx ≤ 0x340F then
    (if sub ≤ 9 then L.numSegConv (idx - 0x3400) sub
     else if sub ≤ 0x1C then L.numSegEst (idx - 0x3400) sub
     else L.numSegLink (idx - 0x3400) sub)
  else if 0x3100 ≤ idx ∧ idx ≤ 0x313F then L.num3100 (idx - 0x3100) sub
  else if 0x4030 ≤ idx ∧ idx ≤ 0x4037 then (if sub = 0x10 then some (L.pairState (idx - 0x4030)) else none)
  else match idx with
  | 0x1001 => some (errorRegister L.rcd.conds)
  | 0x1003 => some (if sub = 0 then L.rcd.history.length else L.rcd.history.getD (sub - 1) 0)
  | 0x1014 => some L.emcyCob
  | 0x1018 => some (L.identity sub)
  | 0x1400 | 0x1401 | 0x1402 | 0x1403 => if sub = 1 then some (L.pdoCob false (idx - 0x1400)) else none
  | 0x1800 | 0x1801 | 0x1802 | 0x1803 => if sub = 1 then some (L.pdoCob true (idx - 0x1800)) else none
  | 0x1200 => some (match sub with | 1 => 0x600 + L.nodeId | 2 => 0x580 + L.nodeId | _ => 2)
  | 0x2000 => L.num2000 sub
  | 0x2013 => if sub ≤ 8 then some (L.filterWord (sub - 1)) else none
  | 0x2014 => if sub ≤ 8 then some (L.filterWord (sub - 1)) else none
  | 0x2100 => if sub = 1 then some L.ks.epoch else none
  | 0x2200 =>
    (match sub with
     | 1 => some L.time.lastBoundary
     | 5 => some (L.time.lastBoundary / 10000 : Nat)
     | 8 => if L.hasPartner then none else some (-32768)
     | 0x17 => some (if L.getN 0x220002 = 3 then (L.time.clk - L.time.holdAt) / 1000000 else 0 : Nat)
     | _ => none)
  | 0x3000 => L.num3000 sub
  | 0x3200 =>
    (match sub with
     | 0x25 => some L.chi.st | 0x26 => some L.chi.start | 0x28 => some L.impStatus | _ => none)
  | 0x3201 => if sub = 0x0D then some L.cap.st else none
  | 0x3500 => L.num3500 sub
  | 0x3600 => some 32
  | 0x3A00 => L.num3A00 sub
  | 0x4000 =>
    (match sub with
     | 1 => some (if L.ks.edit.isSome then 1 else 0)
     | 2 => some (match L.ks.edit with | some e => e.owner | none => 0)
     | 5 => some L.activeCrc
     | 6 => some L.editCrc
     | _ => none)
  | 0x4022 =>
    (match sub with
     | 0x12 => some L.insState
     | 0x14 => some (match L.saf.unmonSince with | some t => min 65535 ((L.time.clk - t) / 1000000000) | none => 0 : Nat)
     | _ => none)
  | 0x4040 =>
    (match sub with
     | 5 => some (setBit (L.getN 0x404005) 3 L.loneLate : Nat)
     | 7 => some (if L.inStep then 0 else min 65534 ((L.time.clk - L.saf.loneSince) / sec 3600) : Nat)
     | _ => none)
  | 0x4400 => L.num4400 sub
  | 0x4600 => L.num4600 sub
  | 0x4800 => L.num4800 sub
  | 0x4A00 => L.num4A00 sub
  | 0x4C00 => L.num4C00 sub
  | 0x4E00 => L.num4E00 sub
  | 0x5000 => L.num5000 sub
  | _ => none

/-- Value of a numeric object. -/
def Live.num (L : Live) (k : Nat) : Int := (L.computed k).getD (L.get k)

/-- The same, unsigned. -/
def Live.numN (L : Live) (k : Nat) : Nat := (L.num k).toNat

/-! ### Byte strings -/

/-- ASCII bytes of a text. -/
def ascii (s : String) : Bytes := s.toList.map (fun c => BitVec.ofNat 8 c.toNat)

/-- Record of cell c of segment s (08 R229). -/
def Live.cellRecord (L : Live) (s c : Nat) : Bytes :=
  let g := 32 * s + c
  let u := fun (w : Nat) (x : Rat) => leBytes (w / 8) (uQ w x).toNat
  if !(L.fittedCells.contains g) then
    leBytes 2 0xFFFF ++ leBytes 2 0x8000 ++ leBytes 2 0xFFFF ++ leBytes 2 0x8000 ++ leBytes 2 0xFFFF ++ leBytes 2 0xFFFF ++
    leBytes 4 0xFFFFFFFF ++ leBytes 2 0xFFFF ++ leBytes 2 0xFFFF ++ leBytes 2 0x8000 ++ leBytes 2 0xFFFF ++ leBytes 2 0xFFFF ++
    leBytes 4 0 ++ leBytes 2 0xFFFF
  else
    let x := L.ctxAt g
    let img := L.table
    let qn := hdrQnom img
    let par := cellPar img (clampQ 0 1 x.soc) (x.tc.getD 250)
    let fresh := match x.impAge with | some a => decide (a ≤ L.estPar.fresh) | none => false
    let days := (L.time.mtime - x.anchorAt) / (86400 * 1000000000)
    (match x.vc with | some v => u 16 (v * 10000) | none => leBytes 2 0xFFFF) ++
    leBytes 2 (ofSigned 16 (tempObj (if x.tNa then none else x.tc))) ++ u 16 (x.rep * 10000) ++
    leBytes 2 (ofSigned 16 (max (-5000) (min 15000 (roundQ (x.soc * 10000))))) ++ u 16 (sigmaSoc x * 10000) ++
    u 16 (divQ x.qc qn * 10000) ++ u 32 (x.qc * 1000) ++ u 16 (x.aS * 10000) ++ u 16 ((x.a1 + x.a2) / 2 * 10000) ++
    leBytes 2 (ofSigned 16 (sQ 32767 (x.h * 100000))) ++
    (match x.impAge with | some a => leBytes 2 (min 65534 (a / 100)) | none => leBytes 2 0xFFFF) ++
    u 16 (x.aS * (par.rsDis + par.rsCh) / 2 * 1000000) ++
    leBytes 1 (ofBits [x.blend, fresh, x.atFull, x.atEmpty, x.disagree, x.withheld, L.getN 0x350027 == 2, true]) ++
    leBytes 1 (ofSigned 8 x.level) ++ leBytes 1 x.anchor ++ [0] ++
    (if x.anchor = 0 then leBytes 2 0xFFFF else leBytes 2 (min 65534 days))

/-- The condition list (12 R335). -/
def condList (cs : List Cond) : Bytes :=
  (cs.take 256).flatMap (fun c => leBytes 1 c.source ++ leBytes 2 c.code ++ leBytes 1 c.cls ++ leBytes 4 c.seq)

/-- Summary of string n as held by a manager; FFH while it has never been seen (13 R355). -/
def Live.summaryOf (L : Live) (n : Nat) : Bytes :=
  match L.mgr.strings.find? (fun x => x.n == n) with
  | some x => x.summary
  | none => List.replicate 48 0xFF

/-- Bytes of a DOMAIN or OCTET_STRING object. -/
def Live.bytesOf (L : Live) (k : Nat) : Bytes :=
  let idx := k / 256
  let sub := k % 256
  if 0x3600 ≤ idx ∧ idx ≤ 0x360F then L.cellRecord (idx - 0x3600) (sub - 1)
  else if idx = 0x5001 then L.summaryOf sub
  else match k with
  | 0x100800 => ascii (if Config.variant = 3 then "GX-S16-C" else "GX-S16-A")
  | 0x100900 => (List.range 8).map (Config.freeByte 0x1009)
  | 0x100A00 => leBytes 4 (L.getN 0x480005)
  | 0x400010 => (match L.ks.edit with | some e => L.editImage e | none => [])
  | 0x404006 => padTo 16 Config.tolerances
  | 0x440012 => (List.range 64).flatMap (fun n =>
      match L.lgc.forces.find? (fun f => f.slot == n) with | some f => padTo 16 f.entry | none => List.replicate 16 0)
  | 0x480012 => padTo 64 (L.blobOf k)
  | 0x4C0002 => (match L.ks.nonces.find? (fun n => n.1 == L.ks.epoch) with
      | some n => n.2.2 ++ leBytes 8 n.1
      | none => List.replicate 16 0 ++ leBytes 8 L.ks.epoch)
  | 0x4E0010 => condList L.rcd.conds
  | 0x500010 => (L.mgr.snap.getD (List.replicate 64 0))
  | 0x500028 => (match L.mgr.ptp.master with | some m => padTo 8 m.1.identity | none => List.replicate 8 0)
  | _ => L.blobOf k

/-! ### Reads -/

/-- Value bytes of an object from a snapshot. -/
def Live.valueBytes (snap : Live) (r : OdRow) (k : Nat) : Bytes :=
  if r.ty = .dom ∨ r.ty = .oct then snap.bytesOf k else r.ty.encode (snap.num k)

/-- The values kept per session (12 R318, R334) and the capture's data (07 R191), answered from the live state. -/
def Live.liveRead (L : Live) (s : Sess) (k : Nat) : Option (Except Abort Bytes) :=
  let x := L.session s
  match k with
  | 0x210005 => some (.ok (leBytes 1 (match x with | some x => x.refusedEntry | none => 0)))
  | 0x210006 => some (.ok (leBytes 4 (match x with | some x => x.lastAbort | none => 0)))
  | 0x4C0001 => some (.ok (leBytes 2 s))
  | 0x320110 => some (if L.cap.st = 4 then .ok L.cap.buf.reverse.flatten else .error abState)
  | _ => none

/-- One entry of a read result: length byte and value, L = 0 where it does not exist or may not be read (12 R324). -/
def Live.listValue (snap L : Live) (s : Sess) (e : Nat × Nat) : Bytes :=
  match L.findRow e.1 e.2 with
  | .error _ => [0]
  | .ok r =>
    if r.acc = .wo ∨ L.levelOf s < r.rl then [0]
    else
      let v := match L.liveRead s (e.1 * 256 + e.2) with
        | some (.ok b) => b
        | some (.error _) => []
        | none => snap.valueBytes r (e.1 * 256 + e.2)
      if 64 < v.length then [0] else leBytes 1 v.length ++ v

/-- Read result n: the epoch, then each entry (12 R324). -/
def Live.readResult (snap L : Live) (s : Sess) (n : Nat) : Bytes :=
  leBytes 8 snap.ks.epoch ++ (listEntries (snap.blobOf (0x210020 + n))).flatMap (Live.listValue snap L s)

/-- An object as a session reads it: the level of the asking session stands in the snapshot like the rest of its table (12 R315, R318). -/
def Live.seen (snap : Live) (s : Sess) (r : OdRow) (k : Nat) : Bytes :=
  if k = 0x4C0005 then leBytes 1 (snap.levelOf s) else snap.valueBytes r k

/-- A read by a session (12 R323, R336). -/
def Live.readObj (snap L : Live) (s : Sess) (idx sub : Nat) : Except Abort Bytes :=
  let k := idx * 256 + sub
  match L.findRow idx sub with
  | .error e => .error e
  | .ok r =>
    if r.acc = .wo then .error abWo
    else if L.levelOf s < r.rl then .error abLevel
    else if k = 0x400010 ∧ snap.ks.edit.isNone then .error abState
    else if 0x210028 ≤ k ∧ k ≤ 0x21002F then .ok (Live.readResult snap L s (k - 0x210028))
    else match L.liveRead s k with
      | some x => x
      | none => .ok (snap.seen s r k)

end Sys2Proof.Machine
end

