-- ==== Sys2Proof/Machine/Recorder.lean ====
section
/-! DEFINITION. The cairn's commands and events: commit, repeat in place, freeze, release, clear and reading (16 R408 to R416). -/

namespace Sys2Proof.Machine

/-- Recorder command 1: freeze; commits go on until the freeze record has committed, where it found room in the intake (16 R413). -/
def Live.cmdFreeze (L : Live) (s : Sess) : Except Abort Live :=
  if L.rcd.freeze.isSome ∨ L.rcd.noFreeze then .error abState
  else
    let L := { L with rcd := { L.rcd with freeze := some (L.time.clk + sec 10, s) } }.raise 124 3 0 [] (leBytes 2 s)
    .ok { L with rcd := { L.rcd with freezing := L.rcd.intake.any (fun e => e.2.source == 124 && e.2.code == 3) } }

/-- Recorder command 2: release, from the freezing session or any L3 session (16 R413). -/
def Live.cmdRelease (L : Live) (s : Sess) : Except Abort Live :=
  match L.rcd.freeze with
  | none => .error abState
  | some f => if f.2 = s ∨ 3 ≤ L.levelOf s then .ok (L.releaseFreeze 1) else .error abState

/-- Lowest and highest sequence of the present era (16 R415, R417). -/
def Recorder.oldestHeld (r : Recorder) : Nat :=
  match r.newest with
  | none => r.eraFirst
  | some n => if (n + 2 ^ 32 - r.eraFirst) % 2 ^ 32 < 65536 then r.eraFirst else (n + 2 ^ 32 - 65535) % 2 ^ 32

/-- Recorder command 3: clear (16 R415). -/
def Live.cmdClear (L : Live) (s : Sess) : Except Abort Live :=
  if L.rcd.freeze.isSome ∨ L.getN 0x404001 ≠ 0 ∨ L.rcd.eraHeld then .error abState
  else
    let L := { L with rcd := { L.rcd with eraHeld := true, eraSess := s } }
    let hi := (L.rcd.nextSeq + 2 ^ 32 - 1) % 2 ^ 32
    .ok (L.systemRecord 1 0 (leBytes 4 L.rcd.era ++ leBytes 4 0 ++ leBytes 4 L.rcd.eraFirst ++ leBytes 4 hi ++ leBytes 2 s))

/-- One record of a read, as it stands (16 R405, R414, R416). -/
def Live.readRecord (L : Live) (seq : Nat) : Live × Bytes :=
  let b := L.rcd.slot seq
  if L.rcd.valid seq then (L, b)
  else if le b 0 4 = seq ∧ le b 56 4 = L.rcd.era ∧ L.rcd.newest.isSome then
    ((L.bump 0x460013 1 32).ev 125 2 1 [] (leBytes 2 (seq % 65536)), b)
  else (L, List.replicate 64 0xFF)

/-- RECORD_COMMIT (16 R408, R411, R412; 11 R301). -/
def execRecordCommit (s : State) : Host.Outcome State Fault Refusal :=
  run s (fun L => if L.mayCommit then L.commitRecord else L)

/-- REPEAT_UPDATE (16 R409, R410). -/
def execRepeatUpdate (s : State) : Host.Outcome State Fault Refusal := run s Live.repeatInPlace

/-- RECORDER_CMD_FREEZE (16 R413). -/
def execRecorderCmdFreeze (sess : Sess) (s : State) : Host.Outcome State Fault Refusal :=
  run s (fun L => L.command sess 1 0x46000D (leBytes 1 1) (fun L => L.orAbort (L.cmdFreeze sess)))

/-- RECORDER_CMD_RELEASE (16 R413). -/
def execRecorderCmdRelease (sess : Sess) (s : State) : Host.Outcome State Fault Refusal :=
  run s (fun L => L.command sess 1 0x46000D (leBytes 1 2) (fun L => L.orAbort (L.cmdRelease sess)))

/-- RECORDER_CMD_CLEAR (16 R415). -/
def execRecorderCmdClear (sess : Sess) (s : State) : Host.Outcome State Fault Refusal :=
  run s (fun L => L.command sess 3 0x46000D (leBytes 1 3) (fun L => L.orAbort (L.cmdClear sess)))

/-- FREEZE_TIMEOUT (16 R413): 10 s after it took effect. -/
def execFreezeTimeout (s : State) : Host.Outcome State Fault Refusal :=
  run s (fun L => match L.rcd.freeze with
    | some f => (L.reach f.1).releaseFreeze 2
    | none => L)

/-- RECORDS_READ (16 R414): 0x4600:0F records from 0x4600:0E, each as it stands when its segment is sent. -/
def execRecordsRead (sess : Sess) (s : State) : Host.Outcome State Fault Refusal :=
  run s (fun L => L.asked sess (fun L =>
    let r := (List.range (L.getN 0x46000F)).foldl (fun (a : Live × Bytes) i =>
      let x := a.1.readRecord ((L.getN 0x46000E + i) % 2 ^ 32)
      (x.1, a.2 ++ x.2)) (L, [])
    r.1.answer sess 0 r.2))

end Sys2Proof.Machine
end

