-- ==== Sys2Proof/Machine/Arrival.lean ====
section
/-! DEFINITION. The arrival of reads, writes and transactions at the keystone (12 R319 to R327; 01 R19; 15 R391 to R393). -/

namespace Sys2Proof.Machine

/-! ### Reads -/

/-- Answer a read or its refusal. -/
def Live.answerRead (L : Live) (s : Sess) (r : Except Abort Bytes) : Live :=
  match r with
  | .ok b => L.answer s 0 b
  | .error e => L.refuse s e

/-- Records from 0x4600:0E on (16 R414). -/
def Live.readRecords (L : Live) (s : Sess) : Live :=
  let r := (List.range (L.getN 0x46000F)).foldl (fun (a : Live × Bytes) i =>
    let x := a.1.readRecord ((L.getN 0x46000E + i) % 2 ^ 32)
    (x.1, a.2 ++ x.2)) (L, [])
  r.1.answer s 0 r.2

/-- A read of a session: at the standby, of an object that is not twin-local, it is forwarded (15 R392; layout log 27); else it is
answered at once. -/
def Live.read (snap L : Live) (s : Sess) (idx sub : Nat) : Live :=
  let k := idx * 256 + sub
  let own := k = 0x210005 ∨ k = 0x210006 ∨ k = 0x4C0001 ∨ k = 0x4C0005
  if L.follower ∧ !isTwinLocalRead k ∧ !decide own then L.toPartner 3 (leBytes 1 0 ++ leBytes 2 s ++ leBytes 3 k)
  else if k = 0x460010 then L.readRecords s
  else L.answerRead s (Live.readObj snap L s idx sub)

/-- The segmented read that a session now runs, in place of its last (12 R323, 07 R191). -/
def Live.setReading (L : Live) (s : Sess) (k : Option Nat) : Live :=
  { L with ks := { L.ks with reading := (k.map (fun k => (s, k))).toList ++ L.ks.reading.filter (fun x => x.1 != s) } }

/-- OD_READ (12 R323): a segmented read keeps its snapshot for at most 1 s. -/
def execOdRead (sess : Sess) (index sub : Nat) (segmented : Bool) (s : State) : Host.Outcome State Fault Refusal :=
  if !s.live.powered || s.live.mode.st == .boot || !s.live.serves sess then .next s
  else
    let L := (s.live.touch sess).setReading sess (if segmented then some (index * 256 + sub) else none)
    let rest := s.kept.filter (fun x => x.1 != sess)
    .next { s with
      live := Live.read s.snap L sess index sub
      kept := if segmented then (sess, L.time.clk + sec 1, s.snap) :: rest else rest }

/-- SEGMENTED_READ_TIMEOUT (12 R323): the transfer is aborted with 0x08000107, unless an arm has aborted it already (07 R191). -/
def execSegmentedReadTimeout (sess : Sess) (s : State) : Host.Outcome State Fault Refusal :=
  match s.kept.find? (fun x => x.1 == sess) with
  | none => .next s
  | some x =>
    if !s.live.powered then .next s
    else .next { s with
      live :=
        let L := s.live.reach x.2.1
        if L.ks.reading.any (fun y => y.1 == sess) then (L.refuse sess abGone).setReading sess none else L
      kept := s.kept.filter (fun x => x.1 != sess) }

/-- READ_LIST_RESULT_READ (12 R324). -/
def execReadListResultRead (sess : Sess) (n : Fin 8) (s : State) : Host.Outcome State Fault Refusal :=
  run s (fun L => if L.mode.st = .boot ∨ !L.serves sess then L else Live.read s.snap (L.touch sess) sess 0x2100 (0x28 + n.val))

/-- CAPTURE_DATA_READ (07 R191): a segmented read, which an arm aborts. -/
def execCaptureDataRead (sess : Sess) (s : State) : Host.Outcome State Fault Refusal := execOdRead sess 0x3201 0x10 true s

/-! ### Writes -/

/-- A write waits for the next commit, with the level its session had when it arrived (12 R317, R319, R321). -/
def Live.queueWrite (L : Live) (s : Sess) (level : Nat) (via : Bool) (k : Nat) (v : Bytes) (txn fwd : Option Nat) : Live :=
  { L with ks := { L.ks with
    pend := L.ks.pend ++ [{ sess := s, via := via, key := k, val := v, txn := txn, fwd := fwd, level := level }]
    commands := L.ks.commands + (if isCommandObject k then 1 else 0) } }

/-- A command beyond the 16 of the course is refused (12 R321). -/
def Live.overLimit (L : Live) (k : Nat) : Bool := isCommandObject k && decide (16 ≤ L.ks.commands)

/-! ### Transactions -/

/-- The entries of a transaction image: key and value of each; none where its format is wrong (12 R326). -/
def txnEntries : Nat → Bytes → Option (List (Nat × Bytes) × Bytes)
  | 0, bs => some ([], bs)
  | n + 1, bs =>
    let len := byteAt bs 3
    let size := (4 + len + 3) / 4 * 4
    if bs.length < size ∨ len = 0 ∨ 64 < len ∨ !(slice bs (4 + len) (size - 4 - len)).all (· == 0) then none
    else (txnEntries n (bs.drop size)).map (fun r => ((le bs 0 2 * 256 + byteAt bs 2, slice bs 4 len) :: r.1, r.2))

/-- Does some key occur twice? -/
def repeated : List Nat → Bool
  | [] => false
  | k :: ks => ks.contains k || repeated ks

/-- A well-formed transaction: FLAGS, TAG, BASE and its entries (12 R326). -/
def parseTxn (bs : Bytes) : Option (Nat × Nat × Nat × List (Nat × Bytes)) :=
  if bs.length < 20 ∨ 4096 < bs.length ∨ le bs 0 2 ≠ 1 ∨ 4 ≤ byteAt bs 3 ∨ byteAt bs 2 = 0 ∨ 64 < byteAt bs 2 ∨
      crc32c (bs.take (bs.length - 4)) ≠ le bs (bs.length - 4) 4 then none
  else match txnEntries (byteAt bs 2) ((bs.take (bs.length - 4)).drop 16) with
    | some (es, []) =>
      if repeated (es.map (·.1)) ∨ es.any (fun e => match odRow (e.1 / 256) (e.1 % 256) with | some r => r.ty == .dom | none => false)
      then none else some (byteAt bs 3, le bs 4 4, le bs 8 8, es)
    | _ => none

/-- The first entry that fails on arrival: position from 1 and abort code (12 R326). -/
def Live.txnArrivalAt (L : Live) (level : Nat) : Nat → Nat → List (Nat × Bytes) → Option (Nat × Abort)
  | _, _, [] => none
  | i, cmds, e :: es =>
    match L.arrivalAt level (e.1 / 256) (e.1 % 256) e.2 with
    | some c => some (i, c)
    | none =>
      if isCommandObject e.1 ∧ 16 ≤ cmds then some (i, abLimit)
      else L.txnArrivalAt level (i + 1) (if isCommandObject e.1 then cmds + 1 else cmds) es

/-- The same at a session's level. -/
def Live.txnArrival (L : Live) (s : Sess) (i cmds : Nat) (es : List (Nat × Bytes)) : Option (Nat × Abort) :=
  L.txnArrivalAt (L.levelOf s) i cmds es

/-- Refuse a transaction at an entry: 0x2100:05 reports its position (12 R326). -/
def Live.refuseEntry (L : Live) (s : Sess) (pos : Nat) (code : Abort) : Live :=
  (L.modSession s (fun x => { x with lastAbort := code, refusedEntry := pos })).answer s code []

/-- A write that came through the partner is answered through it: kind 2, session, object, abort code, position (15 R390, 01 R19;
layout log 27). -/
def Live.answerVia (L : Live) (s : Sess) (k : Nat) (code : Abort) (pos : Nat) : Live :=
  L.toPartner 3 (leBytes 1 2 ++ leBytes 2 s ++ leBytes 3 k ++ leBytes 4 code ++ leBytes 1 pos)

/-- A write refused on arrival is counted and answered where it came from; `pos` is the entry of a transaction, 0 for none. -/
def Live.refuseWrite (L : Live) (s : Sess) (via : Bool) (k pos : Nat) (code : Abort) : Live :=
  let L := { L with ks := { L.ks with refused := L.ks.refused + 1 } }
  if via then L.answerVia s k code pos
  else if pos = 0 then L.refuse s code
  else L.refuseEntry s pos code

/-- A transaction arrives (12 R326). -/
def Live.txnWrite (L : Live) (s : Sess) (level : Nat) (via : Bool) (image : Bytes) (fwd : Option Nat) : Live :=
  match parseTxn image with
  | none => L.refuseWrite s via 0x210010 0 abMalformed
  | some (flags, tag, base, es) =>
    match L.txnArrivalAt level 1 L.ks.commands es with
    | some (pos, code) => L.refuseWrite s via 0x210010 pos code
    | none =>
      let num := L.ks.txns.length + 1
      let L := { L with ks := { L.ks with
        txns := L.ks.txns ++ [{ num := num, sess := s, flags := flags, tag := tag, base := base, via := via }] } }
      es.foldl (fun L e => L.queueWrite s level via e.1 e.2 (some num) fwd) L

/-- A write arrives at this twin's keystone: checked and queued, or refused (12 R319, R321). -/
def Live.writeHere (L : Live) (s : Sess) (level : Nat) (via : Bool) (k : Nat) (v : Bytes) (fwd : Option Nat) : Live :=
  if k = 0x210010 then L.txnWrite s level via v fwd
  else match L.arrivalAt level (k / 256) (k % 256) v with
    | some e => L.refuseWrite s via k 0 e
    | none => if L.overLimit k then L.refuseWrite s via k 0 abLimit else L.queueWrite s level via k v none fwd

/-- A request of the debug port that commits like a command (18 R447 to R449) comes to the keystone; it carries its own checks. -/
def Live.queueDebug (L : Live) (s : Sess) (via : Bool) (k : Nat) (v : Bytes) : Live :=
  let x := L.forwardOn s k v
  x.1.queueWrite s (L.levelOf s) via k v none x.2

/-- A write addressed to this twin, or through it to the pair. At a standby its own objects are written here, a mirrored request waits
for the commit record, and any other goes to the active twin, which forwards each request to the standby (01 R19; 15 R391, R393). `level`
is the level the request arrives with. -/
def Live.writeAt (L : Live) (s : Sess) (level : Nat) (via : Bool) (k : Nat) (v : Bytes) : Live :=
  if L.follower then
    if via then
      { L with twin := { L.twin with mirrored := L.twin.mirrored ++ [{ sess := s, via := true, key := k, val := v, txn := none, level := level }] } }
    else if isTwinLocalWrite k then L.writeHere s level false k v none
    else L.passOn s k v
  else
    let x := L.forwardOn s k v
    x.1.writeHere s level via k v x.2

/-- A write at the level its session has here (12 R317). -/
def Live.write (L : Live) (s : Sess) (via : Bool) (k : Nat) (v : Bytes) : Live := L.writeAt s (L.levelOf s) via k v

/-- OD_WRITE (12 R319 to R321; 01 R19). -/
def execOdWrite (sess : Sess) (viaPartner : Bool) (index sub : Nat) (value : Bytes) (s : State) :
    Host.Outcome State Fault Refusal :=
  run s (fun L => if L.mode.st = .boot ∨ !L.serves sess then L else (L.touch sess).write sess viaPartner (index * 256 + sub) value)

/-- TRANSACTION (12 R326, R327). -/
def execTransaction (sess : Sess) (viaPartner : Bool) (image : Bytes) (s : State) : Host.Outcome State Fault Refusal :=
  run s (fun L => if L.mode.st = .boot ∨ !L.serves sess then L else (L.touch sess).write sess viaPartner 0x210010 image)

end Sys2Proof.Machine
end

