-- ==== Sys2Proof/Machine/Operands.lean ====
section
/-! DEFINITION. The logic engine's memory and operand forms: the five spaces as one canonical memory, the forced locations, and the
loads and stores of forms B, W and F (14 R363, R365, R366, R378, R379). -/

namespace Sys2Proof.Machine

/-! ### Memory -/

/-- Keys strictly rising from a bound and no byte equal to the 0 that an unlisted address reads as. -/
def risingFrom : Nat → List Host.Cell → Bool
  | _, [] => true
  | n, c :: cs => decide (n ≤ c.1) && c.2 != 0 && risingFrom (c.1 + 1) cs

/-- The canonical form of a memory. -/
def Memory.wf (m : List Host.Cell) : Bool := risingFrom 0 m

/-- The byte at an address; an unlisted address reads 0 (14 R376: cleared at a start). -/
def memByte : List Host.Cell → Nat → Byte
  | [], _ => 0
  | c :: cs, a => if c.1 = a then c.2 else memByte cs a

/-- Write a byte, keeping the canonical form. -/
def memPut : List Host.Cell → Nat → Byte → List Host.Cell
  | [], a, b => if b = 0 then [] else [(a, b)]
  | c :: cs, a, b =>
    if a < c.1 then (if b = 0 then c :: cs else (a, b) :: c :: cs)
    else if a = c.1 then (if b = 0 then cs else (a, b) :: cs)
    else c :: memPut cs a b

/-- Write bytes from an address on. -/
def memPutAll (m : List Host.Cell) : Nat → Bytes → List Host.Cell
  | _, [] => m
  | a, b :: bs => memPutAll (memPut m a b) (a + 1) bs

/-- n bytes from an address on. -/
def memBytes (m : List Host.Cell) (a n : Nat) : Bytes := (List.range n).map (fun i => memByte m (a + i))

/-! ### Spaces (14 R363) -/

/-- Size of a space, 0 for a reserved one. -/
def spaceSize : Nat → Nat
  | 0 => 16384 | 1 => 4096 | 2 => 1024 | 3 => 512 | 4 => 64 | _ => 0

/-- First address of a space, as the debug port numbers it less 51000000H. -/
def spaceBase : Nat → Nat
  | 0 => 0 | 1 => 0x4000 | 2 => 0x5000 | 3 => 0x5400 | _ => 0x5600

/-- May a program store into this space? -/
def writable (space : Nat) : Bool := space == 0 || space == 1 || space == 3

/-! ### Forced locations (14 R378, R379) -/

/-- Width of a forced location, in bytes: a bit stands in one. -/
def Force.bytes (f : Force) : Nat := if byteAt f.entry 8 = 0 then 1 else 2 ^ (byteAt f.entry 8 - 1)

/-- Mask of the forced bits in byte a of a space, 0 where the force does not reach it. -/
def Force.mask (f : Force) (space a : Nat) : Nat :=
  if f.space ≠ space ∨ a < f.addr ∨ f.addr + f.bytes ≤ a then 0
  else if byteAt f.entry 8 = 0 then 2 ^ (byteAt f.entry 9 % 8) else 255

/-- The forced bits of byte a, in their places. -/
def Force.value (f : Force) (a : Nat) : Nat :=
  if byteAt f.entry 8 = 0 then le f.entry 12 4 % 2 * 2 ^ (byteAt f.entry 9 % 8) else byteAt f.entry (12 + (a - f.addr))

/-- A byte with the forced bits of its location in place. -/
def overlay (fs : List Force) (space a : Nat) (b : Nat) : Nat :=
  fs.foldl (fun b f => (b &&& (255 - f.mask space a)) ||| (f.value a &&& f.mask space a)) b

/-- Bits of byte a of a space that some force holds. -/
def forcedMask (fs : List Force) (space a : Nat) : Nat := fs.foldl (fun m f => m ||| f.mask space a) 0

/-- The byte a program loads: forced in I, V and R; a force on Q acts on what is written out. -/
def Logic.loadByte (g : Logic) (space a : Nat) : Nat :=
  let b := (memByte g.vm.mem (spaceBase space + a)).toNat
  if space = 3 then b else overlay g.forces space a b

/-- The byte of Q as it is written out, forced (14 R379). -/
def Logic.outByte (g : Logic) (a : Nat) : Nat := overlay g.forces 3 a (memByte g.vm.mem (spaceBase 3 + a)).toNat

/-- A program's store of one byte; a store to a forced variable is discarded (14 R379). -/
def Logic.storeByte (g : Logic) (space a b : Nat) : Logic :=
  let old := (memByte g.vm.mem (spaceBase space + a)).toNat
  let m := if space = 0 ∨ space = 1 then forcedMask g.forces space a else 0
  let v := (old &&& m) ||| (b &&& (255 - m))
  { g with vm := { g.vm with mem := memPut g.vm.mem (spaceBase space + a) (BitVec.ofNat 8 v) } }

/-- Load n bytes, little-endian. -/
def Logic.load (g : Logic) (space a n : Nat) : Nat := leNat ((List.range n).map (fun i => BitVec.ofNat 8 (g.loadByte space (a + i))))

/-- Store n bytes, little-endian. -/
def Logic.store (g : Logic) (space a n v : Nat) : Logic :=
  (List.range n).foldl (fun (h : Logic) i => h.storeByte space (a + i) (v / 256 ^ i % 256)) g

/-! ### Forms B and W -/

/-- The bit of an operand, inverted where INV asks it. -/
def Logic.loadBit (g : Logic) (o : BitOp) : Bool := bitOf (g.loadByte o.space o.addr) o.bit != o.inv

/-- Store a bit, inverted where INV asks it. -/
def Logic.storeBit (g : Logic) (o : BitOp) (v : Bool) : Logic :=
  g.store o.space o.addr 1 (setBit (g.loadByte o.space o.addr) o.bit (v != o.inv))

/-- Bytes of a word operand. -/
def wordBytes (o : WordOp) : Nat := 2 ^ o.width

/-- Value of a word operand: sign- or zero-extended, a 32-bit load as a raw pattern (14 R366). -/
def Logic.loadWord (g : Logic) (o : WordOp) : Int :=
  let v := g.load o.space o.addr (2 ^ o.width)
  if o.width = 2 then toSigned 32 v else if o.sgn then toSigned (8 * 2 ^ o.width) v else v

/-- Least and largest value of a word operand. -/
def wordRange (o : WordOp) : Int × Int :=
  let w := 8 * 2 ^ o.width
  if o.sgn then (-(2 ^ (w - 1) : Nat), (2 ^ (w - 1) - 1 : Nat)) else (0, (2 ^ w - 1 : Nat))

/-- A value saturated to a word operand's width and signedness (14 R366). -/
def saturate (o : WordOp) (v : Int) : Int := max (wordRange o).1 (min (wordRange o).2 v)

/-- Store a saturated value. -/
def Logic.storeWord (g : Logic) (o : WordOp) (v : Int) : Logic :=
  g.store o.space o.addr (2 ^ o.width) (ofSigned (8 * 2 ^ o.width) v)

/-! ### What the load check accepts (14 R365) -/

/-- A bit operand a program may hold; a store form names no I or S. -/
def bitOk (stores : Bool) (o : BitOp) : Bool :=
  decide (o.space ≤ 4) && decide (o.bit < 8) && decide (o.addr < spaceSize o.space) && (!stores || writable o.space)

/-- A word operand a program may hold: width, alignment, size, space; n bytes are touched. -/
def wordOpOk (stores : Bool) (n : Nat) (o : WordOp) : Bool :=
  decide (o.space ≤ 4) && decide (o.width ≤ 2) && o.addr % 2 ^ o.width == 0 && decide (o.addr + n ≤ spaceSize o.space) &&
  (!stores || writable o.space)

/-- A block operand a program may hold: V or R, aligned to 16, whole. -/
def blockOk (o : BlockOp) : Bool := decide (o.space ≤ 1) && o.addr % 16 == 0 && decide (o.addr + 16 ≤ spaceSize o.space)

end Sys2Proof.Machine
end

