-- ==== Sys2Proof/Machine/Flags.lean ====
section
/-! DEFINITION. The logic engine's arithmetic and runtime error flags (14 R366): saturation sets OVF, division by zero DIVZERO, a
narrowing store SAT. -/

namespace Sys2Proof.Machine

/-- Least INTEGER32. -/
def minI32 : Int := -2147483648
/-- Largest INTEGER32. -/
def maxI32 : Int := 2147483647

/-- Set a runtime error flag: 0 OVF, 1 DIVZERO, 2 SAT, 3 message refused. -/
def Logic.flag (g : Logic) (b : Nat) : Logic := { g with vm := { g.vm with flags := setBit g.vm.flags b true } }

/-- ACC becomes a sum, difference or product, saturated at the INTEGER32 limits with OVF. -/
def Logic.setSat (g : Logic) (v : Int) : Logic :=
  let w := max minI32 (min maxI32 v)
  let g := if w = v then g else g.flag 0
  { g with vm := { g.vm with acc := w } }

/-- ACC. -/
def Logic.setAcc (g : Logic) (v : Int) : Logic := { g with vm := { g.vm with acc := v } }

/-- BA. -/
def Logic.setBa (g : Logic) (b : Bool) : Logic := { g with vm := { g.vm with ba := b } }

/-- ACC divided, truncated toward zero; by 0 it gives 0 and DIVZERO. -/
def Logic.divide (g : Logic) (v : Int) : Logic :=
  if v = 0 then (g.flag 1).setAcc 0 else g.setSat (g.vm.acc.tdiv v)

/-- A store of ACC: a narrowing one that saturates sets SAT. -/
def Logic.storeAcc (g : Logic) (o : WordOp) : Logic :=
  let v := saturate o g.vm.acc
  let g := if o.width < 2 ∧ v ≠ g.vm.acc then g.flag 2 else g
  g.storeWord o v

/-- Bitwise operation on the 32-bit patterns of ACC and a value. -/
def bits32 (f : Nat → Nat → Nat) (a v : Int) : Int := toSigned 32 (f (ofSigned 32 a) (ofSigned 32 v))

end Sys2Proof.Machine
end

