-- ==== Sys2Proof/Machine/LogicCode.lean ====
section
/-! DEFINITION. The logic engine's instructions (14 R365 to R369): the decoding of their 32-bit words, what the load check accepts,
their cycles, and their meanings, each over shared operations. -/

namespace Sys2Proof.Machine

/-! ### Words (14 R365, R366) -/

/-- Form B. -/
def formB (w : Nat) : BitOp := { space := fld w 23 21, inv := bitOf w 20, bit := fld w 19 17, addr := fld w 16 0 }

/-- Form W. -/
def formW (w : Nat) : WordOp := { space := fld w 23 21, width := fld w 20 19, sgn := bitOf w 18, addr := fld w 17 0 }

/-- Form F: SPACE and ADDR; the type is read apart. -/
def formF (w : Nat) : BlockOp := { space := fld w 17 16, addr := fld w 15 0 }

/-- Form I, 24 bits. -/
def formI (w : Nat) : BitVec 24 := BitVec.ofNat 24 w

/-- Opcode 40H by its TYPE. -/
def decodeBlock (w : Nat) : Option Instr :=
  let o := formF w
  if fld w 19 18 ≠ 0 then none
  else match fld w 23 20 with
    | 1 => some (.ton o) | 2 => some (.tof o) | 3 => some (.tp o) | 4 => some (.ctu o) | 5 => some (.ctd o) | 6 => some (.ctud o)
    | 7 => some (.rTrig o) | 8 => some (.fTrig o) | _ => none

/-- The instruction a code word spells, none for an opcode of no row or a set reserved bit of forms T, F and E. -/
def decodeLogic (w : Nat) : Option Instr :=
  let b := formB w
  let o := formW w
  let i := formI w
  let t := if fld w 23 14 = 0 then some i else none
  match w / 2 ^ 24 with
  | 0x00 => some .nop
  | 0x01 => some (.ldb b) | 0x02 => some (.andb b) | 0x03 => some (.orb b) | 0x04 => some (.stb b)
  | 0x05 => some (.setb b) | 0x06 => some (.rstb b)
  | 0x07 => some .notb | 0x08 => some .pushb | 0x09 => some .popand | 0x0A => some .popor
  | 0x10 => some (.ld o) | 0x11 => some (.ldi i) | 0x12 => some (.ldhi i) | 0x13 => some (.st o)
  | 0x14 => some (.add o) | 0x15 => some (.sub o) | 0x16 => some (.mul o) | 0x17 => some (.div o) | 0x18 => some (.addi i)
  | 0x19 => some (.and o) | 0x1A => some (.or o) | 0x1B => some (.shl i) | 0x1C => some (.shr i)
  | 0x1D => some (.min o) | 0x1E => some (.max o)
  | 0x20 => some (.eq o) | 0x21 => some (.ne o) | 0x22 => some (.lt o) | 0x23 => some (.gt o)
  | 0x30 => t.map .jmp | 0x31 => t.map .jmpt | 0x32 => t.map .jmpf
  | 0x33 => some (.loop i) | 0x34 => some .next
  | 0x35 => t.map .call | 0x36 => some .ret | 0x37 => some .end_
  | 0x40 => decodeBlock w
  | 0x50 => some (.msgrx o) | 0x51 => some (.msgtx o)
  | 0x52 => if fld w 21 16 = 0 then some (.evt (fld w 23 22) (fld w 15 0)) else none
  | _ => none

/-- Does the load check accept the instruction's operand (14 R365, R366)? -/
def loadOk : Instr → Bool
  | .ldb o | .andb o | .orb o => bitOk false o
  | .stb o | .setb o | .rstb o => bitOk true o
  | .ld o | .add o | .sub o | .mul o | .div o | .and o | .or o | .min o | .max o | .eq o | .ne o | .lt o | .gt o =>
    wordOpOk false (wordBytes o) o
  | .st o => wordOpOk true (wordBytes o) o
  | .ldhi i => decide (i.toNat < 2 ^ 8)
  | .shl i => decide (i.toNat < 2 ^ 5)
  | .loop i => decide (1 ≤ i.toNat ∧ i.toNat ≤ 255)
  | .jmp t | .jmpt t | .jmpf t | .call t => decide (t.toNat < 2 ^ 14)
  | .ton o | .tof o | .tp o | .ctu o | .ctd o | .ctud o | .rTrig o | .fTrig o => blockOk o
  | .msgrx o => o.width == 2 && wordOpOk true 72 o
  | .msgtx o => o.width == 2 && wordOpOk false 72 o
  | .evt c _ => decide (c ≤ 2)
  | _ => true

/-- Exact LOG cycles (14 R366). -/
def cyclesOf : Instr → Nat
  | .ldb _ | .andb _ | .orb _ => 2
  | .stb _ | .setb _ | .rstb _ => 3
  | .ld _ | .st _ | .add _ | .sub _ | .and _ | .or _ | .min _ | .max _ | .eq _ | .ne _ | .lt _ | .gt _ => 3
  | .mul _ => 5
  | .div _ => 24
  | .jmp _ | .jmpt _ | .jmpf _ => 2
  | .loop _ | .next => 3
  | .call _ | .ret => 4
  | .ton _ | .tof _ | .tp _ | .ctu _ | .ctd _ | .ctud _ | .rTrig _ | .fTrig _ => 24
  | .msgrx _ | .msgtx _ => 40
  | .evt _ _ => 20
  | _ => 1

/-! ### Shared operations -/

/-- A logic event: its items, then L and the keystone epoch of the scan (14 R385). -/
def Live.lgcEv (L : Live) (src code cls : Nat) (key rest : Bytes) : Live :=
  L.raise src code cls key (rest ++ leBytes 4 L.lgc.l ++ leBytes 8 (leNat (memBytes L.lgc.vm.mem 0x5614 8)))

/-- Change the logic engine. -/
def Live.modLgc (L : Live) (f : Logic → Logic) : Live := { L with lgc := f L.lgc }

/-- The instruction counter moves on, or to a target. -/
def Logic.goto (g : Logic) (k : Nat) : Logic := { g with vm := { g.vm with pc := k } }

/-- Cycles are charged, and the next instruction is the following one unless the meaning moves it. -/
def Logic.begin_ (g : Logic) (cycles : Nat) : Logic :=
  { g with vm := { g.vm with
      cyc := g.vm.cyc + cycles
      pc := g.vm.pc + 1 } }

/-- A logic instruction in a form that no program can hold is refused at load (14 R365). -/
def logicRow (i : Instr) (name : String) (s : State) (f : Live → Live) : Host.Outcome State Fault Refusal :=
  if loadOk i then runIn 3 s f else .refused (.refusedAtLoad name)

/-! ### Bits -/

/-- BA takes a bit. -/
def Logic.opLdb (g : Logic) (o : BitOp) : Logic := (g.begin_ 2).setBa (g.loadBit o)
/-- BA AND a bit. -/
def Logic.opAndb (g : Logic) (o : BitOp) : Logic := (g.begin_ 2).setBa (g.vm.ba && g.loadBit o)
/-- BA OR a bit. -/
def Logic.opOrb (g : Logic) (o : BitOp) : Logic := (g.begin_ 2).setBa (g.vm.ba || g.loadBit o)
/-- The bit takes BA. -/
def Logic.opStb (g : Logic) (o : BitOp) : Logic := (g.begin_ 3).storeBit o g.vm.ba
/-- The bit is set if BA. -/
def Logic.opSetb (g : Logic) (o : BitOp) : Logic := if g.vm.ba then (g.begin_ 3).storeBit o true else g.begin_ 3
/-- The bit is cleared if BA. -/
def Logic.opRstb (g : Logic) (o : BitOp) : Logic := if g.vm.ba then (g.begin_ 3).storeBit o false else g.begin_ 3
/-- BA inverted. -/
def Logic.opNotb (g : Logic) : Logic := (g.begin_ 1).setBa (!g.vm.ba)
/-- BA pushed on the boolean stack. -/
def Logic.opPushb (g : Logic) : Logic := { g.begin_ 1 with vm := { (g.begin_ 1).vm with bst := g.vm.ba :: g.vm.bst } }

/-- The value popped from the boolean stack; the load check keeps the stack from running empty, and what an empty one yields is free
(log 43). -/
def Live.popBit (L : Live) (f : Bool → Bool → Bool) : Live :=
  let g := L.lgc.begin_ 1
  match g.vm.bst with
  | b :: rest => { L with lgc := { g with vm := { g.vm with
      ba := f b g.vm.ba
      bst := rest } } }
  | [] => { L with
    lgc := g.setBa (f (Config.freeInt L.free % 2 == 1) g.vm.ba)
    free := L.free + 1 }

/-! ### Words -/

/-- ACC takes a value. -/
def Logic.opLd (g : Logic) (o : WordOp) : Logic := (g.begin_ 3).setAcc (g.loadWord o)
/-- ACC takes an immediate of 24 bits. -/
def Logic.opLdi (g : Logic) (i : BitVec 24) : Logic := (g.begin_ 1).setAcc i.toInt
/-- The top byte of ACC takes an immediate. -/
def Logic.opLdhi (g : Logic) (i : BitVec 24) : Logic :=
  (g.begin_ 1).setAcc (toSigned 32 (ofSigned 32 g.vm.acc % 2 ^ 24 + 2 ^ 24 * (i.toNat % 256)))
/-- The location takes ACC, saturated. -/
def Logic.opSt (g : Logic) (o : WordOp) : Logic := (g.begin_ 3).storeAcc o
/-- Sum. -/
def Logic.opAdd (g : Logic) (o : WordOp) : Logic := (g.begin_ 3).setSat (g.vm.acc + g.loadWord o)
/-- Difference. -/
def Logic.opSub (g : Logic) (o : WordOp) : Logic := (g.begin_ 3).setSat (g.vm.acc - g.loadWord o)
/-- Product. -/
def Logic.opMul (g : Logic) (o : WordOp) : Logic := (g.begin_ 5).setSat (g.vm.acc * g.loadWord o)
/-- Quotient. -/
def Logic.opDiv (g : Logic) (o : WordOp) : Logic := (g.begin_ 24).divide (g.loadWord o)
/-- Sum with an immediate. -/
def Logic.opAddi (g : Logic) (i : BitVec 24) : Logic := (g.begin_ 1).setSat (g.vm.acc + i.toInt)
/-- Bitwise AND. -/
def Logic.opAnd (g : Logic) (o : WordOp) : Logic := (g.begin_ 3).setAcc (bits32 (· &&& ·) g.vm.acc (g.loadWord o))
/-- Bitwise OR. -/
def Logic.opOr (g : Logic) (o : WordOp) : Logic := (g.begin_ 3).setAcc (bits32 (· ||| ·) g.vm.acc (g.loadWord o))
/-- Shift left by IMM[4:0]. -/
def Logic.opShl (g : Logic) (i : BitVec 24) : Logic := (g.begin_ 1).setAcc (toSigned 32 (ofSigned 32 g.vm.acc * 2 ^ (i.toNat % 32)))
/-- Arithmetic shift right by IMM[4:0]. -/
def Logic.opShr (g : Logic) (i : BitVec 24) : Logic := (g.begin_ 1).setAcc (g.vm.acc.fdiv (2 ^ (i.toNat % 32)))
/-- Smaller. -/
def Logic.opMin (g : Logic) (o : WordOp) : Logic := (g.begin_ 3).setAcc (min g.vm.acc (g.loadWord o))
/-- Larger. -/
def Logic.opMax (g : Logic) (o : WordOp) : Logic := (g.begin_ 3).setAcc (max g.vm.acc (g.loadWord o))
/-- BA takes a comparison of ACC with a value. -/
def Logic.opCmp (g : Logic) (o : WordOp) (f : Int → Int → Bool) : Logic := (g.begin_ 3).setBa (f g.vm.acc (g.loadWord o))

/-! ### Control -/

/-- Jump to INDEX where the condition holds. -/
def Logic.opJump (g : Logic) (t : BitVec 24) (c : Bool) : Logic := if c then (g.begin_ 2).goto (t.toNat % 2 ^ 14) else g.begin_ 2

/-- A loop of IMM[7:0] passes starts with the next instruction. -/
def Logic.opLoop (g : Logic) (i : BitVec 24) : Logic :=
  { g.begin_ 3 with vm := { (g.begin_ 3).vm with loops := (g.vm.pc + 1, i.toNat % 256) :: g.vm.loops } }

/-- The end of a loop body: back to its first instruction while passes remain. With no loop open, which the load check excludes, it only
passes on (log 43). -/
def Logic.opNext (g : Logic) : Logic :=
  let h := g.begin_ 3
  match g.vm.loops with
  | [] => h
  | (first, n) :: rest =>
    if 2 ≤ n then { h with vm := { h.vm with
        loops := (first, n - 1) :: rest
        pc := first } }
    else { h with vm := { h.vm with loops := rest } }

/-- Call a subroutine. -/
def Logic.opCall (g : Logic) (t : BitVec 24) : Logic :=
  { g.begin_ 4 with vm := { (g.begin_ 4).vm with
    calls := (g.vm.pc + 1) :: g.vm.calls
    pc := t.toNat % 2 ^ 14 } }

/-- Return from a subroutine. With no call open, which the load check excludes, it only passes on (log 43). -/
def Logic.opRet (g : Logic) : Logic :=
  let h := g.begin_ 4
  match g.vm.calls with
  | [] => h
  | k :: rest => { h with vm := { h.vm with
      calls := rest
      pc := k } }

/-- The end of the scan. -/
def Logic.opEnd (g : Logic) : Logic := { g.begin_ 1 with vm := { (g.begin_ 1).vm with ended := true } }

/-! ### Timers, counters, edges (14 R368, R369) -/

/-- Signed word of an instance. -/
def Logic.instI (g : Logic) (o : BlockOp) (off : Nat) : Int := toSigned 32 (g.load o.space (o.addr + off) 4)

/-- Store a word of an instance. -/
def Logic.putI (g : Logic) (o : BlockOp) (off : Nat) (v : Int) : Logic := g.store o.space (o.addr + off) 4 (ofSigned 32 v)

/-- Byte 12 of an instance, and whether its first call is pending. -/
def Logic.instBits (g : Logic) (o : BlockOp) : Nat × Bool := (g.load o.space (o.addr + 12) 1, bitOf (g.load o.space (o.addr + 13) 1) 0)

/-- Store byte 12 and clear the first-call flag. -/
def Logic.putBits (g : Logic) (o : BlockOp) (b : Nat) : Logic :=
  (g.store o.space (o.addr + 12) 1 b).store o.space (o.addr + 13) 1 (setBit (g.load o.space (o.addr + 13) 1) 0 false)

/-- A timer's new running mark, START, Q and ET from its edge. -/
structure Timer where
  /-- Timing. -/
  run : Bool
  /-- L at start. -/
  start : Nat
  /-- Q. -/
  q : Bool
  /-- ET, ms. -/
  et : Int
deriving DecidableEq, Repr

/-- ET while timing: min((L − START) mod 2^32, PT). -/
def elapsed (l start : Nat) (pt : Int) : Int := min (((l + 2 ^ 32 - start) % 2 ^ 32 : Nat) : Int) pt

/-- On-delay: a rising edge starts it; Q once PT has passed; a low input resets it. -/
def tonStep (l : Nat) (pt : Int) (inp prev : Bool) (t : Timer) : Timer :=
  if !inp then { run := false, start := t.start, q := false, et := 0 }
  else
    let t := if !prev then { run := true, start := l, q := false, et := 0 } else t
    if t.run then
      let e := elapsed l t.start pt
      { run := decide (e < pt), start := t.start, q := decide (pt ≤ e), et := e }
    else t

/-- Off-delay: Q with the input; a falling edge starts it; Q falls once PT has passed. -/
def tofStep (l : Nat) (pt : Int) (inp prev : Bool) (t : Timer) : Timer :=
  if inp then { run := false, start := t.start, q := true, et := 0 }
  else
    let t := if prev then { run := true, start := l, q := true, et := 0 } else t
    if t.run then
      let e := elapsed l t.start pt
      { run := decide (e < pt), start := t.start, q := decide (e < pt), et := e }
    else { t with q := false }

/-- Pulse: a rising edge starts it while it does not run; Q for PT; at rest ET follows the input back to 0. -/
def tpStep (l : Nat) (pt : Int) (inp prev : Bool) (t : Timer) : Timer :=
  let t := if inp && !prev && !t.run then { run := true, start := l, q := true, et := 0 } else t
  if t.run then
    let e := elapsed l t.start pt
    { run := decide (e < pt), start := t.start, q := decide (e < pt), et := e }
  else { t with
    q := false
    et := if inp then t.et else 0 }

/-- Run a timer block: IN from BA, then BA = Q and ACC = ET. -/
def Logic.opTimer (g : Logic) (o : BlockOp) (f : Nat → Int → Bool → Bool → Timer → Timer) : Logic :=
  let h := g.begin_ 24
  let b := h.instBits o
  let inp := g.vm.ba
  let prev := if b.2 then inp else bitOf b.1 3
  let t := f g.l (h.instI o 0) inp prev
    { run := bitOf b.1 2, start := h.load o.space (o.addr + 8) 4, q := bitOf b.1 1, et := h.instI o 4 }
  let h := (h.putI o 4 t.et).store o.space (o.addr + 8) 4 t.start
  let h := h.putBits o (b.1 / 16 * 16 + ofBits [inp, t.q, t.run, inp])
  (h.setBa t.q).setAcc t.et

/-- CV with one count, saturated at the INTEGER32 limits. -/
def count (cv d : Int) : Int := max minI32 (min maxI32 (cv + d))

/-- Run a counter block: kind 0 CTU, 1 CTD, 2 CTUD; the main input from BA, then BA = Q (QU) and ACC = CV. -/
def Logic.opCounter (g : Logic) (o : BlockOp) (kind : Nat) : Logic :=
  let h := g.begin_ 24
  let b := h.instBits o
  let pv := h.instI o 0
  let cv := h.instI o 4
  let cu := kind != 1 && g.vm.ba
  let cd := if kind = 1 then g.vm.ba else kind == 2 && bitOf b.1 1
  let up := cu && !(if b.2 then cu else bitOf b.1 6)
  let dn := cd && !(if b.2 then cd else bitOf b.1 7)
  let r := kind != 1 && bitOf b.1 2
  let ld := kind != 0 && bitOf b.1 3
  let cv := if r then 0 else if ld then pv else if up && !dn then count cv 1 else if dn && !up then count cv (-1) else cv
  let qu := decide (pv ≤ cv)
  let qd := decide (cv ≤ 0)
  let q := if kind = 1 then qd else qu
  let h := (h.putI o 4 cv).putBits o (ofBits [g.vm.ba, bitOf b.1 1, bitOf b.1 2, bitOf b.1 3, q,
    (if kind = 2 then qd else bitOf b.1 5), cu, cd])
  (h.setBa q).setAcc cv

/-- Run an edge detector: CLK from BA, then BA = Q; ACC stands. -/
def Logic.opEdge (g : Logic) (o : BlockOp) (rising : Bool) : Logic :=
  let h := g.begin_ 24
  let b := h.instBits o
  let clk := g.vm.ba
  let m := if b.2 then clk else bitOf b.1 2
  let q := if rising then clk && !m else m && !clk
  (h.putBits o (b.1 / 8 * 8 + ofBits [clk, q, clk])).setBa q

/-! ### Messages and events (14 R374, R385) -/

/-- The message buffer of a frame received on a bus. -/
def msgBuffer (bus : Nat) (f : CanFrame) : Bytes :=
  leBytes 4 (f.id + (if f.ext then 2 ^ 29 else 0) + (if f.fd then 2 ^ 30 else 0) + (if f.brs then 2 ^ 31 else 0)) ++
  leBytes 1 f.data.length ++ leBytes 1 (16 * bus) ++ [0, 0] ++ padTo 64 f.data

/-- Store bytes from an address on, each under the forces. -/
def Logic.storeAll (g : Logic) (space a : Nat) (bs : Bytes) : Logic :=
  bs.zipIdx.foldl (fun (h : Logic) (x : Byte × Nat) => h.storeByte space (a + x.2) x.1.toNat) g

/-- MSGRX: the oldest frame latched and not yet taken; it leaves ring 28. -/
def Live.opMsgrx (L : Live) (o : WordOp) : Live :=
  let g := L.lgc.begin_ 40
  match g.latched with
  | [] => { L with lgc := g.setBa false }
  | (bus, _, f) :: rest =>
    let g := (g.storeAll o.space o.addr (msgBuffer bus f)).setBa true
    let g := { g with latched := rest }
    ({ L with
      lgc := g
      com := { L.com with logicRx := L.com.logicRx.drop 1 } }).bump 0x440039 1 32

/-- May MSGTX send this buffer: class 1 to 3, identifier within 0x4400:22 to 23 and of the range's format, a CAN FD length, fewer than 16
frames accepted? -/
def Live.txOk (L : Live) (b : Bytes) : Bool :=
  let id := le b 0 4 % 2 ^ 30
  let cls := byteAt b 5 % 4
  1 ≤ cls && cls ≤ 3 && L.getN 0x440022 ≤ id && id ≤ L.getN 0x440023 &&
  (byteAt b 4 ≤ 8 || (bitOf (le b 0 4) 30 && [12, 16, 20, 24, 32, 48, 64].contains (byteAt b 4))) && decide (L.lgc.vm.outQ.length < 16)

/-- MSGTX: the frame is copied, to be enqueued after the scan; or it is refused with its flag. -/
def Live.opMsgtx (L : Live) (o : WordOp) : Live :=
  let g := L.lgc.begin_ 40
  let b := (List.range 72).map (fun i => BitVec.ofNat 8 (g.loadByte o.space (o.addr + i)))
  if L.txOk b then
    let w := le b 0 4
    let f : CanFrame := { id := w % 2 ^ 29, ext := bitOf w 29, fd := bitOf w 30, brs := bitOf w 31, rtr := false,
                          data := slice b 8 (byteAt b 4) }
    let g := g.setBa true
    { L with lgc := { g with vm := { g.vm with
      outQ := g.vm.outQ ++ [(if bitOf (byteAt b 5) 4 then 1 else 0, byteAt b 5 % 4, f)] } } }
  else { L with lgc := (g.flag 3).setBa false }

/-- EVT: event 10 with the program's code and class, ACC in the payload. -/
def Live.opEvt (L : Live) (cls code : Nat) : Live :=
  (L.modLgc (fun g => g.begin_ 20)).lgcEv 10 code cls [] (leBytes 4 (ofSigned 32 L.lgc.vm.acc))

/-! ### The rows -/

/-- NOP. -/
def execNop (s : State) : Host.Outcome State Fault Refusal := runIn 3 s (fun L => L.modLgc (fun g => g.begin_ 1))
/-- LDB. -/
def execLdb (o : BitOp) (s : State) : Host.Outcome State Fault Refusal := logicRow (.ldb o) "LDB" s (fun L => L.modLgc (fun g => g.opLdb o))
/-- ANDB. -/
def execAndb (o : BitOp) (s : State) : Host.Outcome State Fault Refusal :=
  logicRow (.andb o) "ANDB" s (fun L => L.modLgc (fun g => g.opAndb o))
/-- ORB. -/
def execOrb (o : BitOp) (s : State) : Host.Outcome State Fault Refusal := logicRow (.orb o) "ORB" s (fun L => L.modLgc (fun g => g.opOrb o))
/-- STB. -/
def execStb (o : BitOp) (s : State) : Host.Outcome State Fault Refusal := logicRow (.stb o) "STB" s (fun L => L.modLgc (fun g => g.opStb o))
/-- SETB. -/
def execSetb (o : BitOp) (s : State) : Host.Outcome State Fault Refusal :=
  logicRow (.setb o) "SETB" s (fun L => L.modLgc (fun g => g.opSetb o))
/-- RSTB. -/
def execRstb (o : BitOp) (s : State) : Host.Outcome State Fault Refusal :=
  logicRow (.rstb o) "RSTB" s (fun L => L.modLgc (fun g => g.opRstb o))
/-- NOTB. -/
def execNotb (s : State) : Host.Outcome State Fault Refusal := runIn 3 s (fun L => L.modLgc Logic.opNotb)
/-- PUSHB. -/
def execPushb (s : State) : Host.Outcome State Fault Refusal := runIn 3 s (fun L => L.modLgc Logic.opPushb)
/-- POPAND. -/
def execPopand (s : State) : Host.Outcome State Fault Refusal := runIn 3 s (fun L => L.popBit (· && ·))
/-- POPOR. -/
def execPopor (s : State) : Host.Outcome State Fault Refusal := runIn 3 s (fun L => L.popBit (· || ·))
/-- LD. -/
def execLd (o : WordOp) (s : State) : Host.Outcome State Fault Refusal := logicRow (.ld o) "LD" s (fun L => L.modLgc (fun g => g.opLd o))
/-- LDI. -/
def execLdi (imm : BitVec 24) (s : State) : Host.Outcome State Fault Refusal := runIn 3 s (fun L => L.modLgc (fun g => g.opLdi imm))
/-- LDHI. -/
def execLdhi (imm : BitVec 24) (s : State) : Host.Outcome State Fault Refusal :=
  logicRow (.ldhi imm) "LDHI" s (fun L => L.modLgc (fun g => g.opLdhi imm))
/-- ST. -/
def execSt (o : WordOp) (s : State) : Host.Outcome State Fault Refusal := logicRow (.st o) "ST" s (fun L => L.modLgc (fun g => g.opSt o))
/-- ADD. -/
def execAdd (o : WordOp) (s : State) : Host.Outcome State Fault Refusal := logicRow (.add o) "ADD" s (fun L => L.modLgc (fun g => g.opAdd o))
/-- SUB. -/
def execSub (o : WordOp) (s : State) : Host.Outcome State Fault Refusal := logicRow (.sub o) "SUB" s (fun L => L.modLgc (fun g => g.opSub o))
/-- MUL. -/
def execMul (o : WordOp) (s : State) : Host.Outcome State Fault Refusal := logicRow (.mul o) "MUL" s (fun L => L.modLgc (fun g => g.opMul o))
/-- DIV. -/
def execDiv (o : WordOp) (s : State) : Host.Outcome State Fault Refusal := logicRow (.div o) "DIV" s (fun L => L.modLgc (fun g => g.opDiv o))
/-- ADDI. -/
def execAddi (imm : BitVec 24) (s : State) : Host.Outcome State Fault Refusal := runIn 3 s (fun L => L.modLgc (fun g => g.opAddi imm))
/-- AND. -/
def execAnd (o : WordOp) (s : State) : Host.Outcome State Fault Refusal := logicRow (.and o) "AND" s (fun L => L.modLgc (fun g => g.opAnd o))
/-- OR. -/
def execOr (o : WordOp) (s : State) : Host.Outcome State Fault Refusal := logicRow (.or o) "OR" s (fun L => L.modLgc (fun g => g.opOr o))
/-- SHL. -/
def execShl (imm : BitVec 24) (s : State) : Host.Outcome State Fault Refusal :=
  logicRow (.shl imm) "SHL" s (fun L => L.modLgc (fun g => g.opShl imm))
/-- SHR. -/
def execShr (imm : BitVec 24) (s : State) : Host.Outcome State Fault Refusal := runIn 3 s (fun L => L.modLgc (fun g => g.opShr imm))
/-- MIN. -/
def execMin (o : WordOp) (s : State) : Host.Outcome State Fault Refusal := logicRow (.min o) "MIN" s (fun L => L.modLgc (fun g => g.opMin o))
/-- MAX. -/
def execMax (o : WordOp) (s : State) : Host.Outcome State Fault Refusal := logicRow (.max o) "MAX" s (fun L => L.modLgc (fun g => g.opMax o))
/-- EQ. -/
def execEq (o : WordOp) (s : State) : Host.Outcome State Fault Refusal :=
  logicRow (.eq o) "EQ" s (fun L => L.modLgc (fun g => g.opCmp o (fun a v => a == v)))
/-- NE. -/
def execNe (o : WordOp) (s : State) : Host.Outcome State Fault Refusal :=
  logicRow (.ne o) "NE" s (fun L => L.modLgc (fun g => g.opCmp o (fun a v => a != v)))
/-- LT. -/
def execLt (o : WordOp) (s : State) : Host.Outcome State Fault Refusal :=
  logicRow (.lt o) "LT" s (fun L => L.modLgc (fun g => g.opCmp o (fun a v => decide (a < v))))
/-- GT. -/
def execGt (o : WordOp) (s : State) : Host.Outcome State Fault Refusal :=
  logicRow (.gt o) "GT" s (fun L => L.modLgc (fun g => g.opCmp o (fun a v => decide (v < a))))
/-- JMP. -/
def execJmp (target : BitVec 24) (s : State) : Host.Outcome State Fault Refusal :=
  logicRow (.jmp target) "JMP" s (fun L => L.modLgc (fun g => g.opJump target true))
/-- JMPT. -/
def execJmpt (target : BitVec 24) (s : State) : Host.Outcome State Fault Refusal :=
  logicRow (.jmpt target) "JMPT" s (fun L => L.modLgc (fun g => g.opJump target g.vm.ba))
/-- JMPF. -/
def execJmpf (target : BitVec 24) (s : State) : Host.Outcome State Fault Refusal :=
  logicRow (.jmpf target) "JMPF" s (fun L => L.modLgc (fun g => g.opJump target (!g.vm.ba)))
/-- LOOP. -/
def execLoop (imm : BitVec 24) (s : State) : Host.Outcome State Fault Refusal :=
  logicRow (.loop imm) "LOOP" s (fun L => L.modLgc (fun g => g.opLoop imm))
/-- NEXT. -/
def execNext (s : State) : Host.Outcome State Fault Refusal := runIn 3 s (fun L => L.modLgc Logic.opNext)
/-- CALL. -/
def execCall (target : BitVec 24) (s : State) : Host.Outcome State Fault Refusal :=
  logicRow (.call target) "CALL" s (fun L => L.modLgc (fun g => g.opCall target))
/-- RET. -/
def execRet (s : State) : Host.Outcome State Fault Refusal := runIn 3 s (fun L => L.modLgc Logic.opRet)
/-- END. -/
def execEnd (s : State) : Host.Outcome State Fault Refusal := runIn 3 s (fun L => L.modLgc Logic.opEnd)
/-- TON. -/
def execTon (o : BlockOp) (s : State) : Host.Outcome State Fault Refusal :=
  logicRow (.ton o) "TON" s (fun L => L.modLgc (fun g => g.opTimer o tonStep))
/-- TOF. -/
def execTof (o : BlockOp) (s : State) : Host.Outcome State Fault Refusal :=
  logicRow (.tof o) "TOF" s (fun L => L.modLgc (fun g => g.opTimer o tofStep))
/-- TP. -/
def execTp (o : BlockOp) (s : State) : Host.Outcome State Fault Refusal :=
  logicRow (.tp o) "TP" s (fun L => L.modLgc (fun g => g.opTimer o tpStep))
/-- CTU. -/
def execCtu (o : BlockOp) (s : State) : Host.Outcome State Fault Refusal :=
  logicRow (.ctu o) "CTU" s (fun L => L.modLgc (fun g => g.opCounter o 0))
/-- CTD. -/
def execCtd (o : BlockOp) (s : State) : Host.Outcome State Fault Refusal :=
  logicRow (.ctd o) "CTD" s (fun L => L.modLgc (fun g => g.opCounter o 1))
/-- CTUD. -/
def execCtud (o : BlockOp) (s : State) : Host.Outcome State Fault Refusal :=
  logicRow (.ctud o) "CTUD" s (fun L => L.modLgc (fun g => g.opCounter o 2))
/-- R_TRIG. -/
def execRTrig (o : BlockOp) (s : State) : Host.Outcome State Fault Refusal :=
  logicRow (.rTrig o) "R_TRIG" s (fun L => L.modLgc (fun g => g.opEdge o true))
/-- F_TRIG. -/
def execFTrig (o : BlockOp) (s : State) : Host.Outcome State Fault Refusal :=
  logicRow (.fTrig o) "F_TRIG" s (fun L => L.modLgc (fun g => g.opEdge o false))
/-- MSGRX. -/
def execMsgrx (o : WordOp) (s : State) : Host.Outcome State Fault Refusal := logicRow (.msgrx o) "MSGRX" s (fun L => L.opMsgrx o)
/-- MSGTX. -/
def execMsgtx (o : WordOp) (s : State) : Host.Outcome State Fault Refusal := logicRow (.msgtx o) "MSGTX" s (fun L => L.opMsgtx o)
/-- EVT. -/
def execEvt (cls code : Nat) (s : State) : Host.Outcome State Fault Refusal := logicRow (.evt cls code) "EVT" s (fun L => L.opEvt cls code)

/-! ### One instruction of a program -/

/-- The meaning of a decoded instruction of the program, the same operations as the rows'. -/
def Live.logicOp (L : Live) : Instr → Live
  | .nop => L.modLgc (fun g => g.begin_ 1)
  | .ldb o => L.modLgc (fun g => g.opLdb o)
  | .andb o => L.modLgc (fun g => g.opAndb o)
  | .orb o => L.modLgc (fun g => g.opOrb o)
  | .stb o => L.modLgc (fun g => g.opStb o)
  | .setb o => L.modLgc (fun g => g.opSetb o)
  | .rstb o => L.modLgc (fun g => g.opRstb o)
  | .notb => L.modLgc Logic.opNotb
  | .pushb => L.modLgc Logic.opPushb
  | .popand => L.popBit (· && ·)
  | .popor => L.popBit (· || ·)
  | .ld o => L.modLgc (fun g => g.opLd o)
  | .ldi i => L.modLgc (fun g => g.opLdi i)
  | .ldhi i => L.modLgc (fun g => g.opLdhi i)
  | .st o => L.modLgc (fun g => g.opSt o)
  | .add o => L.modLgc (fun g => g.opAdd o)
  | .sub o => L.modLgc (fun g => g.opSub o)
  | .mul o => L.modLgc (fun g => g.opMul o)
  | .div o => L.modLgc (fun g => g.opDiv o)
  | .addi i => L.modLgc (fun g => g.opAddi i)
  | .and o => L.modLgc (fun g => g.opAnd o)
  | .or o => L.modLgc (fun g => g.opOr o)
  | .shl i => L.modLgc (fun g => g.opShl i)
  | .shr i => L.modLgc (fun g => g.opShr i)
  | .min o => L.modLgc (fun g => g.opMin o)
  | .max o => L.modLgc (fun g => g.opMax o)
  | .eq o => L.modLgc (fun g => g.opCmp o (fun a v => a == v))
  | .ne o => L.modLgc (fun g => g.opCmp o (fun a v => a != v))
  | .lt o => L.modLgc (fun g => g.opCmp o (fun a v => decide (a < v)))
  | .gt o => L.modLgc (fun g => g.opCmp o (fun a v => decide (v < a)))
  | .jmp t => L.modLgc (fun g => g.opJump t true)
  | .jmpt t => L.modLgc (fun g => g.opJump t g.vm.ba)
  | .jmpf t => L.modLgc (fun g => g.opJump t (!g.vm.ba))
  | .loop i => L.modLgc (fun g => g.opLoop i)
  | .next => L.modLgc Logic.opNext
  | .call t => L.modLgc (fun g => g.opCall t)
  | .ret => L.modLgc Logic.opRet
  | .end_ => L.modLgc Logic.opEnd
  | .ton o => L.modLgc (fun g => g.opTimer o tonStep)
  | .tof o => L.modLgc (fun g => g.opTimer o tofStep)
  | .tp o => L.modLgc (fun g => g.opTimer o tpStep)
  | .ctu o => L.modLgc (fun g => g.opCounter o 0)
  | .ctd o => L.modLgc (fun g => g.opCounter o 1)
  | .ctud o => L.modLgc (fun g => g.opCounter o 2)
  | .rTrig o => L.modLgc (fun g => g.opEdge o true)
  | .fTrig o => L.modLgc (fun g => g.opEdge o false)
  | .msgrx o => L.opMsgrx o
  | .msgtx o => L.opMsgtx o
  | .evt c k => L.opEvt c k
  | _ => L

end Sys2Proof.Machine
end

