-- ==== Sys2Proof/Machine/LogicImage.lean ====
section
/-! DEFINITION. Program images of the logic engine: header and tables, the load check with its structure and worst case (14 R360, R367,
R375). The spec gives the header's members and not their widths: the model's layout is log 44. -/

namespace Sys2Proof.Machine

/-! ### The image (14 R375) -/

/-- PROGRAM_ID. -/
def imgId (b : Bytes) : Nat := le b 8 4
/-- Code length in instructions. -/
def imgLen (b : Bytes) : Nat := le b 12 4
/-- V size. -/
def imgV (b : Bytes) : Nat := le b 16 4
/-- R size. -/
def imgR (b : Bytes) : Nat := le b 20 4
/-- Instance count. -/
def imgInsts (b : Bytes) : Nat := le b 24 4
/-- Variable count. -/
def imgVars (b : Bytes) : Nat := le b 28 4
/-- Retained layout identity. -/
def imgRetained (b : Bytes) : Nat := le b 32 4
/-- First byte of the instance table. -/
def imgInstAt (b : Bytes) : Nat := 64 + 4 * imgLen b
/-- First byte of the variable table. -/
def imgVarAt (b : Bytes) : Nat := imgInstAt b + 8 * imgInsts b
/-- First byte of the initial values. -/
def imgInitAt (b : Bytes) : Nat := imgVarAt b + 12 * imgVars b

/-- An instance of the table. -/
structure Inst where
  /-- Identifier. -/
  id : Nat
  /-- Type, as in form F. -/
  ty : Nat
  /-- Space: 0 V, 1 R. -/
  space : Nat
  /-- Address. -/
  addr : Nat
deriving DecidableEq, Repr

/-- A variable of the table. -/
structure Var where
  /-- Identifier. -/
  id : Nat
  /-- Type. -/
  ty : Nat
  /-- Space: 0 V, 1 R. -/
  space : Nat
  /-- Address. -/
  addr : Nat
  /-- Size in bytes. -/
  size : Nat
  /-- Offset of its initial value. -/
  off : Nat
deriving DecidableEq, Repr

/-- The instance table. -/
def imgInstances (b : Bytes) : List Inst :=
  (List.range (imgInsts b)).map (fun i =>
    let a := imgInstAt b + 8 * i
    { id := le b a 4, ty := byteAt b (a + 4), space := byteAt b (a + 5), addr := le b (a + 6) 2 })

/-- The variable table. -/
def imgVariables (b : Bytes) : List Var :=
  (List.range (imgVars b)).map (fun i =>
    let a := imgVarAt b + 12 * i
    { id := le b a 4, ty := byteAt b (a + 4), space := byteAt b (a + 5), addr := le b (a + 6) 2, size := le b (a + 8) 2,
      off := le b (a + 10) 2 })

/-- Initial value of a variable. -/
def imgInitial (b : Bytes) (v : Var) : Bytes := slice b (imgInitAt b + v.off) v.size

/-- Instruction k of the program, none beyond its code or where the load check refuses its word (14 R365, R366). -/
def imgInstr (b : Bytes) (k : Nat) : Option Instr :=
  if imgLen b ≤ k then none
  else match decodeLogic (le b (64 + 4 * k) 4) with
    | some i => if loadOk i then some i else none
    | none => none

/-- The whole program, none where some word is refused. -/
def imgCode (b : Bytes) : Option (List Instr) := (List.range (imgLen b)).mapM (imgInstr b)

/-! ### Structure and worst case (14 R367) -/

/-- Cost and the least and largest depth of the boolean stack over the paths to a point, from where they began. -/
abbrev Paths := Int × Int × Int

/-- Two sets of paths together. -/
def Paths.join : Option Paths → Option Paths → Option Paths
  | none, b => b
  | a, none => a
  | some (c, l, h), some (d, m, k) => some (max c d, min l m, max h k)

/-- What a walk over a stretch of code finds: the paths that pass its end, those that leave by END or RET, and the extremes of the
stack. -/
structure Walk where
  /-- Paths that reach the end of the stretch. -/
  fall : Option Paths := none
  /-- Paths that leave by END or RET. -/
  out : Option Paths := none
  /-- Largest depth. -/
  peak : Int := 0
  /-- Least depth. -/
  trough : Int := 0
deriving DecidableEq, Repr

/-- Index of the NEXT that closes a loop opened before k. -/
def closing (code : List Instr) : Nat → Nat → Nat → Option Nat
  | 0, _, _ => none
  | f + 1, k, d =>
    match code[k]? with
    | none => none
    | some (.loop _) => closing code f (k + 1) (d + 1)
    | some .next => if d = 0 then some k else closing code f (k + 1) (d - 1)
    | some _ => closing code f (k + 1) d

/-- Is t after k in the same loop body? -/
def sameBody (code : List Instr) (k t : Nat) : Bool :=
  decide (k < t) &&
  (((code.take t).drop (k + 1)).foldl (fun (d : Option Nat) i => match d, i with
    | some d, .loop _ => some (d + 1)
    | some 0, .next => none
    | some (d + 1), .next => some d
    | d, _ => d) (some 0)) == some 0

/-- LOOP and NEXT of a stretch pair like brackets, at most 4 deep. -/
def brackets (code : List Instr) : Bool :=
  code.foldl (fun (d : Option Nat) i => match d, i with
    | some d, .loop _ => if d < 4 then some (d + 1) else none
    | some 0, .next => none
    | some (d + 1), .next => some d
    | d, _ => d) (some 0) == some 0

/-- Index of the main program's END: the last END of the code. -/
def mainEnd (code : List Instr) : Option Nat :=
  ((List.range code.length).filter (fun k => code[k]? == some .end_)).getLast?

/-- The subroutines' first instructions: the targets of the CALLs. -/
def callTargets (code : List Instr) : List Nat :=
  code.filterMap (fun i => match i with | .call t => some t.toNat | _ => none)

/-- End of the subroutine at t: the next one's first instruction or the end of the code. -/
def subEnd (code : List Instr) (t : Nat) : Nat :=
  ((callTargets code).filter (fun x => decide (t < x))).foldl min code.length

/-- Walk a stretch from k to stop with the paths that reach it and those that jump ahead. kind: 0 main program, 1 subroutine, 2 loop
body; calls: nesting still allowed. None where R367 refuses the stretch. -/
def walk (code : List Instr) : Nat → Nat → Nat → Nat → Nat → Option Paths → List (Nat × Paths) → Walk → Option Walk
  | 0, _, _, _, _, _, _, _ => none
  | f + 1, kind, calls, k, stop, cur, ahead, w =>
    let here := (ahead.filter (fun p => p.1 == k)).foldl (fun a p => Paths.join a (some p.2)) cur
    if stop ≤ k then some { w with fall := here }
    else match code.getD k .nop, here with
    | .loop _, none =>
      (match closing code code.length (k + 1) 0 with
       | some m => walk code f kind calls (m + 1) stop none ahead w
       | none => none)
    | _, none => walk code f kind calls (k + 1) stop none ahead w
    | .loop i, some (c, l, h) =>
      (match closing code code.length (k + 1) 0 with
       | none => none
       | some m =>
         match walk code f 2 calls (k + 1) m (some (0, 0, 0)) [] {} with
         | some { fall := some (bc, a, d), out := none, peak := p, trough := t } =>
           let n : Int := i.toNat
           walk code f kind calls (m + 1) stop (some (c + 3 + n * (bc + 3), l + n * a, h + n * d)) ahead
             { w with
               peak := max w.peak (h + p + max 0 ((n - 1) * d))
               trough := min w.trough (l + t + min 0 ((n - 1) * a)) }
         | _ => none)
    | .jmp t, some (c, l, h) =>
      if sameBody code k t.toNat ∧ (t.toNat < stop ∨ (kind = 2 ∧ t.toNat = stop)) then
        walk code f kind calls (k + 1) stop none ((t.toNat, (c + 2, l, h)) :: ahead) w
      else none
    | .jmpt t, some (c, l, h) =>
      if sameBody code k t.toNat ∧ (t.toNat < stop ∨ (kind = 2 ∧ t.toNat = stop)) then
        walk code f kind calls (k + 1) stop (some (c + 2, l, h)) ((t.toNat, (c + 2, l, h)) :: ahead) w
      else none
    | .jmpf t, some (c, l, h) =>
      if sameBody code k t.toNat ∧ (t.toNat < stop ∨ (kind = 2 ∧ t.toNat = stop)) then
        walk code f kind calls (k + 1) stop (some (c + 2, l, h)) ((t.toNat, (c + 2, l, h)) :: ahead) w
      else none
    | .call t, some (c, l, h) =>
      if calls = 0 then none
      else (match walk code f 1 (calls - 1) t.toNat (subEnd code t.toNat) (some (0, 0, 0)) [] {} with
        | some { fall := none, out := some (sc, a, d), peak := p, trough := tr } =>
          if l + a = 0 ∧ h + d = 0 then
            walk code f kind calls (k + 1) stop (some (c + 4 + sc, 0, 0)) ahead
              { w with
                peak := max w.peak (h + p)
                trough := min w.trough (l + tr) }
          else none
        | _ => none)
    | .ret, some (c, l, h) =>
      if kind = 1 then
        walk code f kind calls (k + 1) stop none ahead { w with out := Paths.join w.out (some (c + 4, l, h)) }
      else none
    | .end_, some (c, l, h) =>
      if kind = 0 ∧ l = 0 ∧ h = 0 then
        walk code f kind calls (k + 1) stop none ahead { w with out := Paths.join w.out (some (c + 1, 0, 0)) }
      else none
    | .next, some _ => none
    | .pushb, some (c, l, h) =>
      walk code f kind calls (k + 1) stop (some (c + 1, l + 1, h + 1)) ahead { w with peak := max w.peak (h + 1) }
    | .popand, some (c, l, h) =>
      walk code f kind calls (k + 1) stop (some (c + 1, l - 1, h - 1)) ahead { w with trough := min w.trough (l - 1) }
    | .popor, some (c, l, h) =>
      walk code f kind calls (k + 1) stop (some (c + 1, l - 1, h - 1)) ahead { w with trough := min w.trough (l - 1) }
    | i, some (c, l, h) => walk code f kind calls (k + 1) stop (some (c + cyclesOf i, l, h)) ahead w

/-- Every jump, reached or not, leads ahead within its loop body and its stretch: the main program or its subroutine (14 R367). -/
def jumpsOk (code : List Instr) (e : Nat) : Bool :=
  (List.range code.length).all (fun k =>
    let ok := fun (t : Nat) => sameBody code k t && decide (t < if k ≤ e then e + 1 else subEnd code k)
    match code[k]? with
    | some (.jmp t) => ok t.toNat
    | some (.jmpt t) => ok t.toNat
    | some (.jmpf t) => ok t.toNat
    | _ => true)

/-- Subroutines lie after the main program, each closed by RET, those that nothing calls too; every call names one; brackets pair in
every stretch. -/
def layoutOk (code : List Instr) (e : Nat) : Bool :=
  let ts := callTargets code
  let first := subEnd code e
  jumpsOk code e && brackets (code.take (e + 1)) &&
  (e + 1 == first || (code[first - 1]? == some .ret && brackets ((code.take first).drop (e + 1)))) &&
  ts.all (fun t => decide (e < t ∧ t < code.length) && code[subEnd code t - 1]? == some .ret &&
    brackets ((code.take (subEnd code t)).drop t))

/-- The worst case of a program in LOG cycles, none where its structure is refused (14 R367). -/
def worstCase (code : List Instr) : Option Nat :=
  match mainEnd code with
  | none => none
  | some e =>
    if !layoutOk code e then none
    else match walk code (10 * code.length + 10) 0 8 0 (e + 1) (some (0, 0, 0)) [] {} with
      | some { fall := none, out := some (c, _, _), peak := p, trough := t } => if p ≤ 8 ∧ 0 ≤ t then some c.toNat else none
      | _ => none

/-! ### The check (14 R375) -/

/-- Cycle budget of a scan at a course period in ms (14 R360). -/
def budget (p : Nat) : Nat := p * 80000 - 6000

/-- Do two stretches of a space overlap? -/
def overlaps (a b : Nat × Nat × Nat) : Bool := a.1 == b.1 && decide (a.2.1 < b.2.1 + b.2.2) && decide (b.2.1 < a.2.1 + a.2.2)

/-- Does no stretch overlap a later one? -/
def disjoint : List (Nat × Nat × Nat) → Bool
  | [] => true
  | x :: xs => !(xs.any (overlaps x)) && disjoint xs

/-- Does a list hold an element twice? -/
def twice : List Nat → Bool
  | [] => false
  | x :: xs => xs.contains x || twice xs

/-- Identifiers single, instances and variables apart and within the declared sizes. -/
def tablesOk (b : Bytes) : Bool :=
  let is := imgInstances b
  let vs := imgVariables b
  let size := fun (sp : Nat) => if sp = 0 then imgV b else if sp = 1 then imgR b else 0
  let spans := is.map (fun i => (i.space, i.addr, 16)) ++ vs.map (fun v => (v.space, v.addr, v.size))
  !twice (is.map (·.id)) && !twice (vs.map (·.id)) && spans.all (fun s => decide (s.2.1 + s.2.2 ≤ size s.1)) && disjoint spans &&
  is.all (fun i => i.addr % 16 == 0 && decide (1 ≤ i.ty ∧ i.ty ≤ 8)) &&
  vs.all (fun v => decide (v.off + v.size + imgInitAt b + 64 ≤ b.length))

/-- Is the image signed: its last 64 bytes, over the SHA-256 of all that precedes, by the vendor's or the integrator's key (17 R421,
R422)? -/
def Live.imgSigned (L : Live) (b : Bytes) : Bool :=
  let d := Config.sha256 (b.take (b.length - 64))
  let sig := b.drop (b.length - 64)
  Config.ecdsaOk Config.vendorKey d sig || (!(L.blobOf 0x480012).isEmpty && Config.ecdsaOk (L.blobOf 0x480012) d sig)

/-- First failing check of an image, 0 where it is accepted, and its worst case (14 R375). -/
def Live.checkProgram (L : Live) (b : Bytes) : Nat × Nat :=
  if b.length < 128 ∨ !L.imgSigned b then (1, 0)
  else if le b 0 4 ≠ 0x4750474C ∨ byteAt b 5 ≠ 1 ∨ le b 6 2 ≠ 0 ∨ !((slice b 40 24).all (· == 0)) then (2, 0)
  else if 16384 < imgLen b ∨ 16384 < imgV b ∨ 4096 < imgR b ∨ b.length < imgInitAt b + 64 then (3, 0)
  else match imgCode b with
    | none => (4, 0)
    | some code => match worstCase code with
      | none => (5, 0)
      | some w => if budget (L.bootN 0x44000A) < w then (6, 0) else if tablesOk b then (0, w) else (7, 0)

end Sys2Proof.Machine
end

