-- ==== Sys2Proof/Machine/Manager.lean ====
section
/-! DEFINITION. The bay manager's duties: summaries, the bay snapshot, the dispatch division, the reference-window grant, the
injector designation and the data-plane stream (13 R337 to R349, R354), and what every module does with a snapshot and a step. -/

namespace Sys2Proof.Machine

/-- Bay epoch of a module time (01 R22). -/
def bayEpoch (t : Nat) : Nat := t / 100000000

/-- Signed field of n bytes at offset o. -/
def leS (b : Bytes) (o n : Nat) : Int := toSigned (8 * n) (le b o n)

/-- A manager event: its items, then the bay epoch concerned (13 R356). -/
def Live.mgrEv (L : Live) (src code cls : Nat) (rest : Bytes) : Live :=
  L.ev src code cls [] (rest ++ leBytes 4 (bayEpoch L.time.mtime))

/-! ### Summaries (13 R341, R342; 01 R22) -/

/-- FLAGS of the own summary. -/
def Live.summaryFlags (S : Live) : Nat :=
  ofBits [S.getN 0x200007 == 0, S.getN 0x300001 == 2, S.getN 0x350027 == 1 || S.getN 0x350027 == 2, S.isSet 0x402208,
    S.saf.insConn, decide (S.get 0x402210 < S.get 0x402201), S.getN 0x220002 == 2, S.role == 0]

/-- The string summary of epoch m from the snapshot committed at its boundary. -/
def Live.summary (S : Live) (m : Nat) : Bytes :=
  let u := fun (k w : Nat) => leBytes w (ofSigned (8 * w) (S.num k))
  leBytes 4 m ++ leBytes 1 S.mode.st.code ++ leBytes 1 S.summaryFlags ++ u 0x402203 1 ++ leBytes 1 S.conv.act.length ++
  u 0x300027 4 ++ u 0x300028 4 ++ u 0x300023 4 ++ u 0x300024 4 ++ u 0x350020 2 ++ u 0x350028 2 ++ u 0x350022 4 ++ u 0x350023 4 ++
  u 0x30002D 4 ++ u 0x404001 2 ++ leBytes 2 (S.conv.dispTag.getD 0) ++ leBytes 4 S.ks.epoch

/-- Fields of a summary. -/
def sumState (b : Bytes) : Nat := byteAt b 4
/-- Is the string of a summary in RUN or DERATED? -/
def sumRuns (b : Bytes) : Bool := sumState b == 6 || sumState b == 7

/-- The value of a field of n bytes at offset o, none where it holds the not-available value (00 R4). -/
def fieldU (b : Bytes) (o n : Nat) : Option Rat := if le b o n = 2 ^ (8 * n) - 1 then none else some (q (le b o n : Nat))

/-- The same of a signed field. -/
def fieldS (b : Bytes) (o n : Nat) : Option Rat := if le b o n = 2 ^ (8 * n - 1) then none else some (q (leS b o n))

/-- Bus voltage, V; a value not available counts as 0 in the division (log 182). -/
def sumV (b : Bytes) : Rat := (fieldU b 12 4).getD 0 / 1000
/-- Discharge limit, A. -/
def sumDis (b : Bytes) : Rat := (fieldS b 16 4).getD 0 / 1000
/-- Charge limit, A. -/
def sumCh (b : Bytes) : Rat := (fieldS b 20 4).getD 0 / 1000
/-- SOC as a fraction. -/
def sumSoc (b : Bytes) : Rat := (fieldU b 24 2).getD 0 / 10000

/-- Notices of SF-06 that the strings heard report, by bus identifier, where the reaction is the bay's (10 R276). -/
def Live.heardNotices (L : Live) : Nat :=
  if L.getN 0x402204 ≠ 1 then 0
  else L.mgr.strings.foldl (fun n x =>
    if bitOf (le x.summary 40 2) 5 ∧ 1 ≤ byteAt x.summary 6 ∧ byteAt x.summary 6 ≤ 16 then setBit n (byteAt x.summary 6 - 1) true
    else n) 0

/-- An item of the manager mirror on bulk channel 4: kind 0 snapshot, 1 summary, 2 received logic frame (15 R390; layout log 27). -/
def Live.mirrorItem (L : Live) (kind : Nat) (d : Bytes) : Live :=
  if L.inStep then L.toPartner 4 (leBytes 1 kind ++ d) else L

/-- The string's entry with a new summary; entries stand in order of n. -/
def putString (xs : List StrEntry) (e : StrEntry) : List StrEntry :=
  xs.filter (fun x => x.n < e.n) ++ e :: xs.filter (fun x => e.n < x.n)

/-- A summary of string n is held; its window request is dated by when it was first seen (13 R347). With the reaction of the injector's
string only, one that newly reports SF-06 on the own bus raises event 110 code 1 here (10 R276; log 220). -/
def Live.holdSummary (L : Live) (n : Nat) (b : Bytes) : Live :=
  let old := L.mgr.strings.find? (fun x => x.n == n)
  let req := if bitOf (byteAt b 5) 2 then some ((old.bind (·.reqAt)).getD L.time.clk) else none
  let L := { L with mgr := { L.mgr with strings := putString L.mgr.strings { n := n, summary := b, reqAt := req } } }
  let L := { L with mgr := { L.mgr with notices := L.heardNotices } }
  let sf06 := fun (x : Bytes) => bitOf (le x 40 2) 5
  let was := match old with | some o => sf06 o.summary | none => false
  if L.getN 0x402204 = 0 ∧ n ≠ L.lower ∧ byteAt b 6 = L.getN 0x402203 ∧ sf06 b ∧ !was then L.raise 110 1 1 [] L.tripPayload
  else L

/-- Is the summary of string n for this epoch held already? -/
def Live.hasSummary (L : Live) (n m : Nat) : Bool :=
  L.mgr.strings.any (fun x => x.n == n && le x.summary 0 4 == m % 2 ^ 32)

/-- A summary reaches the lead manager: the first valid copy counts, in time and for this epoch (13 R337, R341). -/
def Live.takeSummary (L : Live) (n : Nat) (b : Bytes) : Live :=
  let m := bayEpoch L.time.mtime
  if !L.mgr.lead ∨ n = 0 ∨ 33 < n ∨ b.length ≠ 48 ∨ le b 0 4 ≠ m % 2 ^ 32 ∨ 20000000 < L.time.mtime % 100000000 ∨
      L.mgr.deadlineOf = some m ∨ L.hasSummary n m then L
  else
    let known := L.mgr.strings.any (fun x => x.n == n)
    let workers := (L.mgr.strings.filter (fun x => x.n != 1)).length
    if !known ∧ n ≠ 1 ∧ 31 ≤ workers then L.mgrEv 12 8 1 (leBytes 1 n)
    else (L.holdSummary n b).mirrorItem 1 (leBytes 1 n ++ b)

/-- The 20 ms deadline: a string without a summary for the epoch is carried stale (01 R22). -/
def Live.summaryDeadline (L : Live) : Live :=
  let m := bayEpoch L.time.mtime
  if !L.mgr.lead ∨ L.mgr.deadlineOf = some m then L
  else
    let late := L.mgr.strings.filter (fun x => le x.summary 0 4 != m % 2 ^ 32)
    let L := { L with mgr := { L.mgr with
      deadlineOf := some m
      strings := L.mgr.strings.map (fun (x : StrEntry) =>
        if le x.summary 0 4 = m % 2 ^ 32 then { x with stale := 0 } else { x with stale := x.stale + 1 }) } }
    late.foldl (fun (L : Live) x =>
      let L := L.mgrEv 12 2 1 (leBytes 1 x.n)
      if x.stale = 1 then L.mgrEv 12 3 1 (leBytes 1 x.n) else L) L

/-! ### The division (13 R345) -/

/-- A string in the division: n, available power W, weight, bus voltage V, limit in 0.1 A, share W. -/
structure Slice where
  /-- String number. -/
  n : Nat
  /-- A_k. -/
  a : Rat
  /-- W_k. -/
  w : Rat
  /-- VBUS, V. -/
  v : Rat
  /-- The string's limit in the direction, 0.1 A. -/
  lim : Int
  /-- share_k. -/
  share : Rat := 0
deriving DecidableEq, Repr

/-- Is a string eligible: fresh or stale for one epoch, in RUN or DERATED, on dispatch, not BUSV, not the grant holder? -/
def eligible (grant : Nat) (x : StrEntry) : Bool :=
  decide (x.stale ≤ 1) && sumRuns x.summary && bitOf (byteAt x.summary 5) 0 && !bitOf (byteAt x.summary 5) 1 && x.n != grant

/-- A_k and W_k of a string by the direction of the set-point. -/
def sliceOf (p : Int) (x : StrEntry) : Slice :=
  let b := x.summary
  let lim := if 0 ≤ p then sumDis b else sumCh b
  let a := lim * sumV b
  { n := x.n, a := a, w := a * (if 0 ≤ p then sumSoc b else 1 - sumSoc b), v := sumV b, lim := (lim * 10).floor }

/-- The loop of 13 R345 over the open strings: those settled, and what remains of the power. -/
def divide : Nat → Rat → List Slice → List Slice × Rat
  | 0, rem, open_ => (open_, rem)
  | k + 1, rem, open_ =>
    let total := sumQ (open_.map (·.w))
    if open_.isEmpty ∨ total = 0 then (open_, rem)
    else
      let hits := fun (x : Slice) => decide (x.a ≤ rem * x.w / total)
      if !(open_.any hits) then (open_.map (fun (x : Slice) => { x with share := rem * x.w / total }), 0)
      else
        let hit := (open_.filter hits).map (fun (x : Slice) => { x with share := x.a })
        let r := divide k (rem - sumQ (hit.map (·.a))) (open_.filter (fun x => !hits x))
        (hit ++ r.1, r.2)

/-- The division among the strings eligible with this grant holder: every eligible string's slice, and the shortfall. -/
def division (p : Int) (grant : Nat) (xs : List StrEntry) : List Slice × Rat :=
  let all := (xs.filter (eligible grant)).map (sliceOf p)
  let r := divide (all.length + 1) (q p.natAbs) (all.filter (fun x => decide (0 < x.w)))
  (all.filter (fun x => !decide (0 < x.w)) ++ r.1, r.2)

/-- A share as a current, rounded to 0.1 A and clamped to the string's limit (13 R345). -/
def shareEntry (p : Int) (x : Slice) : Int :=
  let i := min (roundQ (divQ x.share x.v * 10)) x.lim
  if 0 ≤ p then i else -i

/-- SHARE entry of string n: 0 for the grant holder and a string stale for two epochs, its share where eligible, else 8000H (13 R346). -/
def shareOf (p : Int) (grant : Nat) (xs : List StrEntry) (sl : List Slice) (n : Nat) : Nat :=
  match xs.find? (fun x => x.n == n) with
  | none => 0x8000
  | some x =>
    if 2 ≤ x.stale ∨ n = grant then 0
    else match sl.find? (fun y => y.n == n) with
      | some y => ofSigned 16 (shareEntry p y)
      | none => 0x8000

/-! ### Grant and designation -/

/-- The grant ends: the holder no longer asks, or 90 s have passed, which sends it to the back (13 R347). -/
def Live.endGrant (L : Live) : Live :=
  match L.mgr.grant with
  | none => L
  | some (n, since) =>
    let asks := L.mgr.strings.any (fun x => x.n == n && bitOf (byteAt x.summary 5) 2)
    let old := decide (since + sec 90 ≤ L.time.clk)
    if asks && !old then L
    else
      let L := { L with mgr := { L.mgr with
        grant := none
        strings := L.mgr.strings.map (fun (x : StrEntry) =>
          if x.n = n ∧ asks then { x with reqAt := some L.time.clk } else x) } }
      L.mgrEv 12 5 0 (leBytes 1 n)

/-- The candidate whose request was first seen earliest, the lower n of equals (13 R347). -/
def firstRequest (xs : List StrEntry) : Option StrEntry :=
  xs.foldl (fun (best : Option StrEntry) x => match best, x.reqAt with
    | none, some _ => some x
    | some b, some t => if t < b.reqAt.getD t then some x else some b
    | b, none => b) none

/-- A grant to the first candidate, where the division without it leaves no shortfall (13 R347). -/
def Live.makeGrant (L : Live) (p : Int) : Live :=
  if L.mgr.grant.isSome ∨ L.getN 0x500002 = 0 then L
  else match firstRequest (L.mgr.strings.filter (eligible 0)) with
    | none => L
    | some x =>
      if (division p x.n L.mgr.strings).2 = 0 then
        { L with mgr := { L.mgr with grant := some (x.n, L.time.clk) } }.mgrEv 12 5 0 (leBytes 1 x.n)
      else L

/-- n of the grant holder, 0 none. -/
def Live.grantN (L : Live) : Nat := match L.mgr.grant with | some g => g.1 | none => 0

/-- INJ of the latest snapshot for bus identifier b. -/
def Live.oldInj (L : Live) (b : Nat) : Nat := match L.mgr.snap with | some s => byteAt s (47 + b) | none => 0

/-- INJ[b] by the three rules of 13 R349; the designation leaves a holder only once its summary no longer shows FLAGS[3]. -/
def Live.newInj (L : Live) (b : Nat) : Nat :=
  let xs := L.mgr.strings.filter (fun x => byteAt x.summary 6 == b)
  let holds := xs.filter (fun x => bitOf (byteAt x.summary 5) 3)
  let can := xs.filter (fun x => sumRuns x.summary && !bitOf (byteAt x.summary 5) 4)
  match holds with
  | x :: _ => x.n
  | [] => match can with
    | x :: _ => x.n
    | [] => 0

/-- INJ[1] to INJ[16] with their events (13 R349). -/
def Live.designate (L : Live) : Live × Bytes :=
  (List.range 16).foldl (fun (a : Live × Bytes) i =>
    let b := i + 1
    let L := a.1
    if !(L.mgr.strings.any (fun x => byteAt x.summary 6 == b)) then (L, a.2 ++ leBytes 1 0)
    else
      let n := L.newInj b
      let L := if n = L.oldInj b then L else L.mgrEv 12 6 0 (leBytes 1 b ++ leBytes 1 n)
      let L := if n = 0 then L.mgrEv 12 7 1 (leBytes 1 b) else L
      (L, a.2 ++ leBytes 1 n)) (L, [])

/-! ### The snapshot and the step (13 R343, R346, R348) -/

/-- Mask of the strings of a kind, bit n − 1. -/
def stringMask (xs : List StrEntry) (p : StrEntry → Bool) : Nat :=
  (xs.filter p).foldl (fun m x => setBit m (x.n - 1) true) 0

/-- A power in W from a current in mA at offset o and VBUS in mV (13 R342). -/
def fieldP (b : Bytes) (o : Nat) : Option Rat :=
  match fieldS b o 4, fieldU b 12 4 with
  | some i, some v => some (i / 1000 * (v / 1000))
  | _, _ => none

/-- Sum over the strings whose summary gives the value, rounded; none where there are strings and none of them gives it (00 R4;
log 182). -/
def sumOver (xs : List StrEntry) (f : Bytes → Option Rat) : Option Int :=
  let vs := xs.filterMap (fun x => f x.summary)
  if vs.isEmpty && !xs.isEmpty then none else some (roundQ (sumQ vs))

/-- A sum as an UNSIGNED32 field: saturating, or not available (00 R4). -/
def sumU (v : Option Int) : Bytes := leBytes 4 (match v with | some x => (max 0 (min x 0xFFFFFFFE)).toNat | none => 0xFFFFFFFF)

/-- A sum as an INTEGER32 field. -/
def sumS (v : Option Int) : Bytes :=
  leBytes 4 (match v with | some x => ofSigned 32 (max (-0x7FFFFFFF) (min x 0x7FFFFFFF)) | none => 0x80000000)

/-- SOC of the bay: Σ EREM of Σ (EREM + EROOM) in 0.01 %, not available where that is 0 or unknown (13 R343, 00 R4). -/
def baySoc (rem room : Option Int) : Nat :=
  match rem, room with
  | some a, some b => if a + b = 0 then 0xFFFF else (roundQ (q a / q (a + b) * 10000)).toNat
  | _, _ => 0xFFFF

/-- Lowest and highest SOC of the strings that report one; not available where none does (00 R4). -/
def Live.socRange (L : Live) : Nat × Nat :=
  match (L.mgr.strings.map (fun x => le x.summary 24 2)).filter (· != 0xFFFF) with
  | [] => (0xFFFF, 0xFFFF)
  | x :: xs => (xs.foldl min x, xs.foldl max x)

/-- The 64-byte bay snapshot (13 R343). -/
def Live.baySnapshot (L : Live) (m : Nat) (short : Bool) (inj : Bytes) : Bytes :=
  let xs := L.mgr.strings
  let rem := sumOver xs (fun b => fieldU b 28 4)
  let room := sumOver xs (fun b => fieldU b 32 4)
  let st := L.getN 0x220002
  let flags := ofBits [st == 2, st == 3, L.pins.elementOpen || L.saf.bayRead.isSome, short]
  let avail := fun (o : Nat) => sumS (sumOver (xs.filter (fun x => sumRuns x.summary)) (fun b => fieldP b o))
  leBytes 4 m ++ leBytes 1 xs.length ++ leBytes 1 flags ++ leBytes 1 L.grantN ++ [0] ++
  leBytes 5 (stringMask xs (fun x => x.stale != 0)) ++
  leBytes 5 (stringMask xs (fun x => 5 ≤ sumState x.summary && sumState x.summary ≤ 7)) ++
  leBytes 2 (baySoc rem room) ++
  sumS (sumOver xs (fun b => fieldP b 8)) ++ leBytes 4 (ofSigned 32 (L.get 0x500001)) ++
  avail 16 ++ avail 20 ++ sumU rem ++ sumU room ++
  leBytes 2 L.socRange.1 ++ leBytes 2 L.socRange.2 ++ inj

/-- Part of a dispatch step (13 R346). -/
def stepFrame (m part : Nat) (shares : List Nat) : Bytes :=
  leBytes 4 m ++ leBytes 1 part ++ [0, 0, 0] ++ ((shares.drop (20 * part)).take 20).flatMap (leBytes 2)

/-- The shortfall is reported, its event at most once per 10 s (13 R345). -/
def Live.setShortfall (L : Live) (s : Rat) : Live :=
  let L := { L with mgr := { L.mgr with shortfall := roundQ s } }
  let due : Bool := match L.mgr.shortAt with | some t => decide (t + sec 10 ≤ L.time.clk) | none => true
  if 0 < s ∧ due then
    { L with mgr := { L.mgr with shortAt := some L.time.clk } }.mgrEv 12 4 1 (leBytes 4 (roundQ s).toNat)
  else L

/-- The journal entry of a step, open on both buses (13 R348). -/
def Live.journalStep (L : Live) (m : Nat) (shares : List Nat) (inj : Bytes) : Live :=
  let seq := L.jrn.nextSeq
  let L := L.jwrite 2 false false (leBytes 4 m ++ leBytes 4 (ofSigned 32 (L.get 0x500001)) ++ shares.flatMap (leBytes 2) ++
    leBytes 1 L.grantN ++ inj)
  { L with mgr := { L.mgr with
    dispOpen := L.mgr.dispOpen ++ [(seq, 0, 0), (seq, 1, 0), (seq, 0, 1), (seq, 1, 1)] } }

/-- A frame on both buses. -/
def Live.onBoth (L : Live) (f : CanFrame) (cls who : Nat) : Live := (L.enqueue 0 f cls who).enqueue 1 f cls who

/-- A module holds a bay snapshot until its next boundary, with its reception time (13 R344). -/
def Live.holdSnapshot (L : Live) (b : Bytes) : Live :=
  { L with mgr := { L.mgr with
    snapHeld := some b
    snapAt := some (L.time.mtime, L.time.clk) } }

/-- Serial order of tags: is a newer than b, or is there no b (01 R23)? -/
def newerTag (a : Nat) (b : Option Nat) : Bool := match b with | none => true | some b => newer32 a b

/-- A part of a dispatch step reaches a string's module: the own entry is held for the boundary (01 R18, R23; 13 R346). -/
def Live.holdStep (L : Live) (f : Bytes) : Live :=
  let tag := le f 0 4
  let part := byteAt f 4
  let n := L.lower
  if f.length ≠ 48 ∨ n = 0 ∨ (n - 1) / 20 ≠ part ∨ !newerTag tag L.conv.dispTag ∨
      !newerTag tag (L.conv.dispHeld.map (·.1)) then L
  else { L with conv := { L.conv with dispHeld := some (tag, leS f (8 + 2 * ((n - 1) % 20)) 2) } }

/-- How long ago the grant was made, and each request first seen: the dates that the reserve manager takes over (01 R14, 13 R347; layout
log 27). -/
def Live.grantAges (L : Live) : Bytes :=
  let age := fun (t : Nat) => leBytes 8 (L.time.clk - t)
  (match L.mgr.grant with | some g => age g.2 | none => age L.time.clk) ++
  L.mgr.strings.flatMap (fun x => match x.reqAt with | some t => leBytes 1 x.n ++ age t | none => [])

/-- The lead manager builds snapshot m, sends it, then sends the dispatch step (01 R22; 13 R343 to R349). -/
def Live.sendBay (L : Live) (m : Nat) : Live :=
  let p := L.get 0x500001
  let L := L.endGrant.makeGrant p
  let d := division p L.grantN L.mgr.strings
  let L := L.setShortfall d.2
  let shares := (List.range 40).map (fun i => shareOf p L.grantN L.mgr.strings d.1 (i + 1))
  let x := L.designate
  let L := x.1
  let b := L.baySnapshot m (decide (0 < d.2)) x.2
  let L := { L with free := L.free + 2 }
  let L := (L.onBoth (fdFrame (L.bootN 0x500007) b) 1 0).holdSnapshot b
  let L := (L.mirrorItem 0 (b ++ leBytes 8 m ++ leBytes 4 (ofSigned 32 L.mgr.shortfall) ++ L.grantAges)).journalStep m shares x.2
  let f := fun (k : Nat) => stepFrame m k shares
  let L := L.onBoth (fdFrame (L.bootN 0x500008) (f 0)) 1 3
  let L := L.onBoth (fdFrame (L.bootN 0x500008 + 1) (f 1)) 1 3
  let L := (L.holdStep (f 0)).holdStep (f 1)
  { L with mgr := { L.mgr with
    sent := some m
    tag := m % 2 ^ 32 } }

/-! ### At the course boundary -/

/-- A dispatch entry becomes the target of the mode in force; 8000H and BUSV keep it (13 R346). -/
def Live.entryTarget (L : Live) (e : Int) : Live :=
  match L.getN 0x300001 with
  | 0 => L.put 0x300002 (e * 100)
  | 1 => L.put 0x300003 (roundQ (q e / 10 * L.conv.vBus))
  | _ => L

/-- A held dispatch step is applied or discarded at the boundary (01 R18, R23). An entry that gives a target ends the manager silence;
8000H keeps the present target, which in manager silence is 0 (13 R346, 01 R17). -/
def Live.applyStep23 (L : Live) : Live :=
  match L.conv.dispHeld with
  | none => L
  | some (tag, e) =>
    let L := { L with conv := { L.conv with dispHeld := none } }
    if L.getN 0x200007 = 1 ∨ !newerTag tag L.conv.dispTag then L
    else
      let L := { L with conv := { L.conv with dispTag := some tag } }
      if e = -32768 then L
      else { L with
        conv := { L.conv with dispLast := some e }
        time := { L.time with silence := false } }.entryTarget e

/-- A committed change of mode under dispatch applies the last entry again in the new unit; a change of source to direct forgets it,
and any change of source ends the manager silence (13 R346; 01 R17). `old` is the state before the writes. -/
def Live.afterModeWrite (old L : Live) : Live :=
  let src := L.getN 0x200007
  let L := if old.getN 0x200007 ≠ src then
      { L with
        time := { L.time with silence := false }
        conv := { L.conv with dispLast := none } }
    else L
  if src = 0 ∧ old.getN 0x300001 ≠ L.getN 0x300001 then
    match L.conv.dispLast with | some e => L.entryTarget e | none => L
  else L

/-- A held bay snapshot is committed (13 R344). -/
def Live.commitSnap (L : Live) : Live :=
  match L.mgr.snapHeld with
  | some b => { L with mgr := { L.mgr with snap := some b, snapHeld := none } }
  | none => L

/-- Own designation by the latest bay snapshot, unless it is older than 300 ms (13 R349). -/
def Live.wantsInj (L : Live) : Option Bool :=
  match L.mgr.snap, L.mgr.snapAt with
  | some b, some (_, t) =>
    if t + ms 300 < L.time.clk then none else some (byteAt b (47 + L.getN 0x402203) == L.lower)
  | _, _ => none

/-! ### Data plane (13 R354) -/

/-- A string record of 52 bytes. -/
def planeRecord (x : StrEntry) : Bytes := leBytes 1 x.n ++ leBytes 1 (min 255 x.stale) ++ [0, 0] ++ padTo 48 x.summary

/-- One datagram: header, body, CRC. -/
def Live.datagram (L : Live) (part seq count : Nat) (body : Bytes) : Bytes :=
  let d := leBytes 4 0x50445847 ++ leBytes 2 0x0100 ++ leBytes 1 part ++ leBytes 1 2 ++ leBytes 4 seq ++
    leBytes 4 (bayEpoch L.time.mtime) ++ leBytes 8 L.stamp ++ leBytes 1 L.nodeId ++ leBytes 1 count ++
    List.replicate 6 0 ++ body
  d ++ leBytes 4 (crc32c d)

/-- Both datagrams of an epoch. -/
def Live.sendPlane (L : Live) : Live :=
  let lo := L.mgr.strings.filter (fun x => decide (x.n ≤ 16))
  let hi := L.mgr.strings.filter (fun x => decide (16 < x.n))
  let d0 := L.datagram 0 L.mgr.dpSeq lo.length (padTo 64 (((L.mgr.snapHeld.orElse (fun _ => L.mgr.snap))).getD []) ++
    lo.flatMap planeRecord)
  let d1 := L.datagram 1 (L.mgr.dpSeq + 1) hi.length (hi.flatMap planeRecord)
  let gram := fun (d : Bytes) => Out.eth 48350 (L.getN 0x500040) (L.getN 0x500041) d
  let L := (L.emit (gram d0)).emit (gram d1)
  { L with mgr := { L.mgr with
    dpSeq := L.mgr.dpSeq + 2
    dpSent := some (bayEpoch L.time.mtime) } }

/-! ### The rows -/

/-- SUMMARY_SEND (13 R341): at m × 100 ms + 0.4 ms × (n - 1), once an epoch, the active twin or a twin with no partner sends it; the
lead manager forms that of its own string internally at the same instant, whoever holds the token. -/
def execSummarySend (s : State) : Host.Outcome State Fault Refusal :=
  runIn 4 s (fun L =>
    let L := L.toPhase (ms 100) (400000 * (L.lower - 1))
    let own := L.mgr.own
    if own.isEmpty ∨ le own 0 4 ≠ bayEpoch L.time.mtime % 2 ^ 32 then L
    else
      let L := { L with mgr := { L.mgr with own := [] } }
      if L.mgr.lead then L.takeSummary 1 own
      else if (L.hasPartner && !L.twin.holds) ∨ !L.mayTalk then L
      else L.onBoth (fdFrame (L.bootN 0x500006 + L.lower) own) 1 0)

/-- SUMMARY_RX (13 R337, R341). -/
def execSummaryRx (n : Nat) (frame : Bytes) (s : State) : Host.Outcome State Fault Refusal :=
  runIn 4 s (fun L => L.takeSummary n frame)

/-- SUMMARY_DEADLINE (01 R22). -/
def execSummaryDeadline (s : State) : Host.Outcome State Fault Refusal :=
  runIn 4 s (fun L => L.summaryDeadline)

/-- BAY_SNAPSHOT_SEND (13 R343 to R349) at m × 100 ms + 30 ms, once for an epoch. -/
def execBaySnapshotSend (s : State) : Host.Outcome State Fault Refusal :=
  runIn 4 s (fun L =>
    let L := L.toPhase (ms 100) (ms 30)
    let m := bayEpoch L.time.mtime
    if !L.mgr.lead ∨ !L.mayTalk ∨ L.mgr.sent = some m then L else L.sendBay m)

/-- BAY_SNAPSHOT_RX (13 R344). -/
def execBaySnapshotRx (frame : Bytes) (s : State) : Host.Outcome State Fault Refusal :=
  runIn 4 s (fun L => if frame.length = 64 ∧ !L.mgr.lead then L.holdSnapshot frame else L)

/-- DISPATCH_STEP_RX (01 R18, R23; 13 R346): held for the next course boundary. -/
def execDispatchStepRx (frame : Bytes) (s : State) : Host.Outcome State Fault Refusal :=
  runIn 4 s (fun L => if L.mgr.lead ∨ L.getN 0x200007 = 1 then L else L.holdStep frame)

/-- DATA_PLANE_SEND (13 R354) at m × 100 ms + 35 ms, once for an epoch. -/
def execDataPlaneSend (s : State) : Host.Outcome State Fault Refusal :=
  runIn 4 s (fun L =>
    let L := L.toPhase (ms 100) (ms 35)
    if !L.mgr.lead ∨ L.getN 0x500040 = 0 ∨ L.mgr.dpSent = some (bayEpoch L.time.mtime) then L else L.sendPlane)

end Sys2Proof.Machine
end

