-- ==== Sys2Proof/Machine/LogicOps.lean ====
section
/-! DEFINITION. The logic engine: restarts, the images, the scan, halts and steps, forces, program images and the online change
(14 R357 to R385; 18 R447, R448). -/

namespace Sys2Proof.Machine

/-! ### The active program -/

/-- Image of a bank. -/
def Live.logicBank (L : Live) (b : Nat) : Bytes := L.blobOf (0x440018 + b)

/-- Image of the active bank. -/
def Live.program (L : Live) : Bytes := L.logicBank L.lgc.bank

/-- Does a bank hold a program that has passed the check? -/
def Live.bankValid (L : Live) (b : Nat) : Bool := L.lgc.bankOk.getD b false

/-- State of the engine, 0x4400:01. -/
def Live.logicState (L : Live) : Nat := L.getN 0x440001

/-- The engine runs or is halted. -/
def Live.logicOn (L : Live) : Bool := L.logicState == 2 || L.logicState == 3

/-- A memory without the bytes from a on, n of them. -/
def memClear (m : List Host.Cell) (a n : Nat) : List Host.Cell := m.filter (fun c => decide (c.1 < a ∨ a + n ≤ c.1))

/-! ### Starting (14 R376; 03 R64) -/

/-- An instance at a start: first call pending; a timer starts reset. -/
def startInstance (m : List Host.Cell) (i : Inst) : List Host.Cell :=
  let a := spaceBase i.space + i.addr
  let m := memPut m (a + 13) (BitVec.ofNat 8 (setBit (memByte m (a + 13)).toNat 0 true))
  if 1 ≤ i.ty ∧ i.ty ≤ 3 then memPutAll m (a + 4) (List.replicate 9 0) else m

/-- Memory at a start: I, Q, S and V cleared, R kept on a warm one; V, and R on a cold one, take the initial values; every instance's
first call is pending. -/
def startMemory (img : Bytes) (cold : Bool) (m : List Host.Cell) : List Host.Cell :=
  let m := m.filter (fun c => !cold && decide (0x4000 ≤ c.1 ∧ c.1 < 0x5000))
  let vars := (imgVariables img).filter (fun v => v.space == 0 || cold)
  let m := vars.foldl (fun (m : List Host.Cell) v => memPutAll m (spaceBase v.space + v.addr) (imgInitial img v)) m
  (imgInstances img).foldl startInstance m

/-- Payload of a force event: its entry and its session (14 R380). -/
def Live.forceEv (L : Live) (code cls : Nat) (f : Force) : Live :=
  L.lgcEv 9 code cls (f.entry.take 8) (f.entry.drop 8 ++ leBytes 2 f.sess)

/-- Every force is cleared by a restart, each recorded with the count (03 R64, 14 R385). -/
def Live.clearForcesRestart (L : Live) : Live :=
  let fs := L.lgc.forces
  let L := fs.foldl (fun (L : Live) (f : Force) =>
    L.lgcEv 9 13 0 (f.entry.take 8) (f.entry.drop 8 ++ leBytes 2 f.sess ++ leBytes 1 fs.length)) L
  L.modLgc (fun g => { g with forces := [] })

/-- A restart, warm or cold; without a valid program the engine stays in state 0 with its self-test bit set
and the event of a stop, cause 2 (14 R376; 03 R56, R64; the event DESIGN CHOICE, log 192). -/
def Live.logicRestart (L : Live) (cold : Bool) : Live :=
  let L := L.clearForcesRestart
  let ok := L.bankValid L.lgc.bank
  let L := { L with lgc := {
    vm := { mem := if ok then startMemory L.program cold L.lgc.vm.mem else L.lgc.vm.mem }
    bank := L.lgc.bank
    bankOk := L.lgc.bankOk
    cold := cold
    latched := L.lgc.latched } }
  let L := [0x44000D, 0x44000E, 0x440038, 0x440039].foldl (fun (L : Live) k => L.put k 0) L
  if ok then ((L.put 0x440001 2).selfBit 17 false).lgcEv 9 (if cold then 2 else 1) 0 [] []
  else ((L.put 0x440001 0).selfBit 17 true).lgcEv 9 3 0 [] (leBytes 1 2)

/-- A start by command: its course begins at the commit, with L at 0 (14 R358, R376). -/
def Live.logicStart (L : Live) (cold : Bool) : Live := (L.logicRestart cold).modLgc (fun g => { g with due := true })

/-! ### Stopping (14 R373) -/

/-- The output map: index and sub-index as a key, length, image address, write mode, stop mode, stop value (14 R372). -/
structure OutMap where
  /-- Entry number e. -/
  e : Nat
  /-- Object. -/
  key : Nat
  /-- Length in bytes. -/
  len : Nat
  /-- Address in Q. -/
  addr : Nat
  /-- Write mode. -/
  mode : Nat
  /-- Stop mode. -/
  stop : Nat
  /-- Stop value. -/
  value : Bytes
deriving DecidableEq, Repr

/-- Entries of an output map. -/
def outMap (b : Bytes) : List OutMap :=
  (List.range (b.length / 16)).map (fun e =>
    let a := 16 * e
    { e := e, key := le b a 2 * 256 + byteAt b (a + 2), len := byteAt b (a + 3), addr := le b (a + 4) 2, mode := byteAt b (a + 6),
      stop := byteAt b (a + 7), value := slice b (a + 8) (byteAt b (a + 3)) })

/-- The stop behaviour: stop values in the next commit, the analogue values' too; all else ceases. -/
def Live.stopOutputs (L : Live) : Live :=
  let ws := ((outMap (L.blobOf 0x440021)).filter (fun o => o.stop == 1)).map (fun o => (o.e, o.key, o.value))
  let an := fun (k : Nat) => leBytes 4 (ofSigned 32 (L.get k))
  L.modLgc (fun g => { g with
    vm := { g.vm with outQ := [] }
    writes := (32, 0x440030, an 0x440032) :: (33, 0x440031, an 0x440033) :: ws
    stopped := true })

/-- The engine stops by command: event 9 code 3 with cause 1 (14 R376). -/
def Live.logicStop (L : Live) : Live :=
  (((L.put 0x440001 1).modLgc (fun g => { g with
    due := false
    haltReq := false
    owner := none
    prepared := false })).stopOutputs).lgcEv 9 3 0 [] (leBytes 1 1)

/-- The engine faults: the scan's outputs are discarded (14 R361). -/
def Live.logicFault (L : Live) : Live :=
  (((L.put 0x440001 4).modLgc (fun g => { g with
    due := false
    haltReq := false
    owner := none
    prepared := false })).stopOutputs).lgcEv 9 6 2 [] []

/-! ### The course (14 R358, R374) -/

/-- A received logic frame as an item of the manager mirror: its time stamp and its message buffer (15 R390; layout log 27). -/
def ringItem (x : Nat × Nat × CanFrame) : Bytes := leBytes 8 x.2.1 ++ msgBuffer x.1 x.2.2

/-- The frame of a message buffer, and its bus. -/
def bufferFrame (b : Bytes) : Nat × CanFrame :=
  let w := le b 0 4
  (if bitOf (byteAt b 5) 4 then 1 else 0,
   { id := w % 2 ^ 29, ext := bitOf w 29, fd := bitOf w 30, brs := bitOf w 31, rtr := false, data := slice b 8 (byteAt b 4) })

/-- The frames that a mirror item holds. -/
def ringFrames (b : Bytes) : List (Nat × Nat × CanFrame) :=
  (List.range (b.length / 80)).map (fun i =>
    let f := bufferFrame (slice b (80 * i + 8) 72)
    (f.1, le b (80 * i) 8, f.2))

/-- At a boundary: L advances while the engine runs or is halted, a scan is due, the frames that reached the active twin are latched and
mirrored to the twin in step (14 R374), and a halt that lasts takes the stop behaviour. -/
def Live.logicCourse (L : Live) : Live :=
  let frames := L.com.logicRx.take 64
  let L := if L.shadow then L else L.modLgc (fun g => { g with latched := frames })
  let L := if L.twin.holds then L.mirrorItem 2 (frames.flatMap ringItem) else L
  if !L.logicOn ∨ !L.fromStandby then L
  else
    let g := L.lgc
    let l := if g.opens then 0 else (g.l + L.bootN 0x44000A) % 2 ^ 32
    let n := if L.logicState = 3 then g.haltFor + 1 else 0
    let L := L.modLgc (fun g => { g with
      l := l
      opens := false
      due := true
      haltFor := n })
    if n = 2 ∧ !g.stopped then L.stopOutputs else L

/-! ### The images (14 R364, R370, R371) -/

/-- The input map: object key, length, image address. -/
def inMap (b : Bytes) : List (Nat × Nat × Nat) :=
  (List.range (b.length / 8)).map (fun e => (le b (8 * e) 2 * 256 + byteAt b (8 * e + 2), byteAt b (8 * e + 3), le b (8 * e + 4) 2))

/-- Space S of a scan. -/
def Live.systemSpace (snap L : Live) : Bytes :=
  let g := L.lgc
  leBytes 4 g.l ++ leBytes 4 (L.bootN 0x44000A) ++ leBytes 1 snap.mode.st.code ++ leBytes 1 snap.role ++
  leBytes 1 (ofBits [g.first, g.change, !g.cold, g.cold, !g.forces.isEmpty]) ++ [0] ++ leBytes 4 (L.getN 0x44000E) ++ leBytes 4 g.outRef ++
  leBytes 8 snap.ks.epoch ++ leBytes 8 snap.stamp ++ leBytes 1 g.latched.length

/-- Fixed area of the input image: PAIRS and HWIN. -/
def Live.fixedInputs (snap : Live) : Bytes :=
  (List.range 8).flatMap (fun i => leBytes 1 (snap.pairState i)) ++
  leBytes 1 (ofBits [!snap.pins.fbKpOpen, !snap.pins.fbKnOpen, snap.pins.sswOpen, snap.saf.bayRead.isNone,
    !snap.pins.twinXLow && snap.saf.obeyed.isNone, snap.pins.aux1, snap.pins.aux2])

/-- Value bytes of an object in a snapshot, n of them, as the input map takes them. -/
def Live.mapped (snap : Live) (key n : Nat) : Bytes :=
  match odRow (key / 256) (key % 256) with
  | some r => padTo n (snap.valueBytes r key)
  | none => padTo n []

/-- Bytes laid over an image at an address. -/
def overlayAt (b : Bytes) (a : Nat) (v : Bytes) : Bytes := b.take a ++ v ++ b.drop (a + v.length)

/-- The input image of a snapshot: the fixed area and the mapped objects. -/
def Live.ownInputs (snap L : Live) : Bytes :=
  (inMap (L.blobOf 0x440020)).foldl (fun (b : Bytes) x => overlayAt b x.2.2 (snap.mapped x.1 x.2.1)) (padTo 0x400 snap.fixedInputs)

/-- The input image: the active twin's at an in-step standby that holds it, else from the own snapshot (14 R370, R371; 15 R394). -/
def Live.inputImage (snap L : Live) : Bytes :=
  match L.twin.inputs with
  | some b => if L.tracks || L.resyncing then b else Live.ownInputs snap L
  | none => Live.ownInputs snap L

/-- Step 1 of a scan: system values and input image from the snapshot, and the virtual machine at instruction 0. -/
def Live.prepareScan (snap L : Live) : Live :=
  let m := memClear L.lgc.vm.mem 0x5000 0x400
  let m := memPutAll m 0x5000 (Live.inputImage snap L)
  let m := memPutAll (memClear m 0x5600 0x40) 0x5600 (Live.systemSpace snap L)
  L.modLgc (fun g => { g with
    vm := { mem := m }
    opens := false
    prepared := true })

/-! ### Breakpoints and halts (18 R447, R449) -/

/-- Bytes of a location of a kind 1 breakpoint: parameter [1:0] is the width, the rest the address (DEDUCED). -/
def brkWidth (param : Nat) : Nat := if param % 4 = 3 then 4 else if param % 4 = 2 then 2 else 1

/-- Slot of kind 0 at an instruction. -/
def Live.brkAt (L : Live) (pc : Nat) : Option Nat :=
  (List.range 8).find? (fun i => match L.dbg.brk.getD i none with | some b => b.kind == 0 && b.param == pc | none => false)

/-- Slot of kind 1 whose location differs from an earlier memory. -/
def Live.brkChanged (L : Live) (old : List Host.Cell) : Option Nat :=
  (List.range 8).find? (fun i => match L.dbg.brk.getD i none with
    | some b => b.kind == 1 && memBytes old (b.param / 4) (brkWidth b.param) != memBytes L.lgc.vm.mem (b.param / 4) (brkWidth b.param)
    | none => false)

/-- An attention cause of an open debug session (18 R443). -/
def Live.attention (L : Live) (bit : Nat) : Live :=
  if L.dbg.session.isSome then { L with dbg := { L.dbg with attn := setBit L.dbg.attn bit true } } else L

/-- A halt is taken at the present instruction: state 3, its event (18 R447, R452). -/
def Live.haltTaken (L : Live) : Live :=
  let s := match L.lgc.owner with | some o => o.1 | none => 0
  (((L.put 0x440001 3).modLgc (fun g => { g with haltReq := false })).attention 1).ev 127 4 0 [] (leBytes 2 s ++ leBytes 4 L.lgc.vm.pc)

/-- A hit of a logic breakpoint is a halt owned by its session (18 R449). -/
def Live.brkTaken (L : Live) (slot : Nat) : Live :=
  let own := match L.dbg.brk.getD slot none with | some b => some (b.sess, b.node) | none => none
  let L := ((L.put 0x4C0025 slot).attention 0).ev 127 8 0 [] (leBytes 1 slot)
  (L.modLgc (fun g => { g with owner := g.owner.orElse (fun _ => own) })).haltTaken

/-- Run at most n instructions, to END or to a breakpoint, whose slot is answered; `skip`: a breakpoint at the first instruction has been
taken. A program that leaves its code, which the load check excludes, ends (log 43). -/
def runLogic (img : Bytes) : Nat → Bool → Live → Live × Option Nat
  | 0, _, L => (L, none)
  | n + 1, skip, L =>
    if L.lgc.vm.ended then (L, none)
    else match (if skip then none else L.brkAt L.lgc.vm.pc), imgInstr img L.lgc.vm.pc with
    | some b, _ => (L, some b)
    | none, none => (L.modLgc Logic.opEnd, none)
    | none, some i =>
      match (L.logicOp i).brkChanged L.lgc.vm.mem with
      | some b => (L.logicOp i, some b)
      | none => runLogic img n false (L.logicOp i)

/-! ### The end of a scan (14 R359, R366, R372, R374) -/

/-- Bytes of the output image, forced. -/
def Logic.outBytes (g : Logic) (a n : Nat) : Bytes := (List.range n).map (fun i => BitVec.ofNat 8 (g.outByte (a + i)))

/-- One entry of the output map: its write, where it makes one, and the value remembered for it. -/
def Logic.outWrite (g : Logic) (o : OutMap) : Logic :=
  let v := g.outBytes o.addr o.len
  let n : Int := leNat v
  let changed : Bool := g.written.find o.e != some n
  let cmd := isCommandObject o.key
  let due := if cmd then changed && n != 0 else o.mode == 0 || changed
  { g with
    written := if cmd || due then g.written.put (-1) o.e n else g.written
    writes := if due then g.writes ++ [(o.e, o.key, v)] else g.writes }

/-- Accepted messages are enqueued in program order, on the active twin only. -/
def Live.sendMessages (L : Live) : Live :=
  let fs := L.lgc.vm.outQ
  let L := L.modLgc (fun g => { g with vm := { g.vm with outQ := [] } })
  if !L.twin.holds then L
  else (fs.foldl (fun (L : Live) x => L.enqueue x.1 x.2.2 x.2.1 1) L).bump 0x440038 fs.length 32

/-- Step 3: cycles and flags are reported, outputs become writes of the next commit, those of command objects counting toward the 16 of
the course, and messages leave. -/
def Live.finishScan (L : Live) : Live :=
  let g := L.lgc
  let c := g.vm.cyc + 6000
  let L := (L.put 0x44000C c).put 0x44000D (max (L.getN 0x44000D) c : Nat)
  let L := L.put 0x44000E g.vm.flags
  let L := if g.vm.flags = 0 then L else L.lgcEv 9 7 1 [] (leBytes 1 g.vm.flags)
  let L := L.modLgc (fun g => { g with writes := [(32, 0x440030, g.outBytes 0 4), (33, 0x440031, g.outBytes 4 4)] })
  let L := L.modLgc (fun g => (outMap (L.blobOf 0x440021)).foldl Logic.outWrite g)
  let L := { L with ks := { L.ks with
    commands := L.ks.commands + (L.lgc.writes.filter (fun (w : Nat × Nat × Bytes) => isCommandObject w.2.1)).length } }
  L.sendMessages.modLgc (fun g => { g with
    due := false
    first := false
    change := false
    prepared := false })

/-- Most instructions of a scan: no program passes the largest budget (14 R360). -/
def maxScan : Nat := 8000000

/-- What follows a run of the program: a breakpoint halts, END finishes the scan. -/
def Live.afterRun (r : Live × Option Nat) : Live :=
  match r.2 with
  | some b => r.1.brkTaken b
  | none => if r.1.lgc.vm.ended then r.1.finishScan else r.1

/-- LOGIC_SCAN (14 R359): a halted engine prepares the scan and waits before instruction 0. -/
def Live.logicScan (snap L : Live) : Live :=
  if !L.logicOn ∨ !L.lgc.due then L
  else if L.logicState = 3 then
    (if L.lgc.prepared then L else Live.prepareScan snap L).modLgc (fun g => { g with due := false })
  else
    let L := Live.prepareScan snap L
    if L.lgc.haltReq then (L.modLgc (fun g => { g with due := false })).haltTaken
    else
      let L := Live.afterRun (runLogic L.program maxScan false L)
      L.modLgc (fun g => { g with due := false })

/-! ### Halts and steps as commands (18 R447, R448) -/

/-- A halted scan that is not yet prepared is so from the state at the commit. -/
def Live.ensureScan (L : Live) : Live := if L.lgc.prepared then L else Live.prepareScan L L

/-- The next n instructions of the halted scan, then it halts again; END finishes it. -/
def Live.stepHalted (L : Live) (n : Nat) : Live :=
  let L := L.ensureScan
  let r := runLogic L.program n true L
  match r.2 with
  | some b => r.1.brkTaken b
  | none => if r.1.lgc.vm.ended then r.1.finishScan else r.1.haltTaken

/-- The halted scan runs to END, or to a breakpoint. -/
def Live.stepCourse (L : Live) : Live :=
  let L := L.ensureScan
  Live.afterRun (runLogic L.program maxScan true L)

/-- The halted scan runs to END and normal scans resume; a halt not yet taken is withdrawn. -/
def Live.resumeLogic (L : Live) : Live :=
  if L.logicState ≠ 3 then
    (L.modLgc (fun g => { g with
      haltReq := false
      owner := none })).ev 127 5 0 [] []
  else
    let L := L.ensureScan
    let r := runLogic L.program maxScan true L
    match r.2 with
    | some b => r.1.brkTaken b
    | none =>
      ((((if r.1.lgc.vm.ended then r.1.finishScan else r.1).put 0x440001 2).modLgc (fun g => { g with
        owner := none
        haltFor := 0
        stopped := false })).ev 127 5 0 [] [])

/-! ### Forces (14 R378 to R380) -/

/-- Width code to bytes. -/
def forceWidth (w : Nat) : Nat := if w = 3 then 4 else if w = 2 then 2 else 1

/-- The location of a force entry: space and address, none where the entry is out of range (14 R378). -/
def Live.forcePlace (L : Live) (v : Bytes) : Option (Nat × Nat) :=
  let w := forceWidth (byteAt v 8)
  let space := byteAt v 1
  if 3 < byteAt v 8 ∨ (byteAt v 8 = 0 ∧ 7 < byteAt v 9) then none
  else if byteAt v 0 = 1 then
    (if (space = 2 ∨ space = 3) ∧ le v 2 2 + w ≤ spaceSize space then some (space, le v 2 2) else none)
  else if byteAt v 0 = 2 ∧ L.bankValid L.lgc.bank then
    (match (imgVariables L.program).find? (fun x => x.id == le v 4 4 && x.space == space) with
     | some x => if w ≤ x.size then some (space, x.addr) else none
     | none => none)
  else none

/-- Do two forces hold a common bit? -/
def Force.meets (f h : Force) : Bool :=
  (List.range 4).any (fun i => (f.mask f.space (f.addr + i) &&& h.mask f.space (f.addr + i)) != 0)

/-- First free entry of the force table. -/
def freeSlot (fs : List Force) : Option Nat := (List.range 64).find? (fun n => !(fs.any (fun f => f.slot == n)))

/-- Set a force, replacing those on its location (14 R378, R380): one event tells of the force set and the first it replaces, and each
other force that goes is recorded as released (DESIGN CHOICE, log 203). -/
def Live.cmdSetForce (L : Live) (s : Sess) (v : Bytes) : Except Abort Live :=
  if v.length ≠ 16 then .error abLength
  else if le v 10 2 ≠ 0 then .error abReserved
  else match L.forcePlace v with
    | none => .error abRange
    | some (space, addr) =>
      let f : Force := { slot := 0, entry := v, space := space, addr := addr, sess := s }
      let rest := L.lgc.forces.filter (fun h => !f.meets h)
      let gone := (L.lgc.forces.filter (fun h => f.meets h)).drop 1
      match ((L.lgc.forces.find? (fun h => f.meets h)).map (·.slot)).orElse (fun _ => freeSlot rest) with
      | none => .error abState
      | some n =>
        let L := gone.foldl (fun (L : Live) h => L.forceEv 9 0 { h with sess := s }) L
        .ok ((L.modLgc (fun g => { g with forces := rest ++ [{ f with slot := n }] })).forceEv 8 0 { f with slot := n })

/-- Release a force by its entry number; the event carries the session of the command (14 R380). -/
def Live.cmdReleaseForce (L : Live) (s : Sess) (n : Nat) : Except Abort Live :=
  if 63 < n then .error abRange
  else match L.lgc.forces.find? (fun f => f.slot == n) with
    | none => .error abState
    | some f => .ok ((L.modLgc (fun g => { g with forces := g.forces.filter (fun h => h.slot != n) })).forceEv 9 0 { f with sess := s })

/-! ### Commands of 0x4400:02 (14 R376, R381 to R384) -/

/-- Command 1: a warm restart; the state abort code without a valid program. -/
def Live.cmdLogicStart (L : Live) : Except Abort Live := if L.bankValid L.lgc.bank then .ok (L.logicStart false) else .error abState

/-- Command 2. -/
def Live.cmdLogicStop (L : Live) : Except Abort Live := if L.logicOn then .ok L.logicStop else .error abState

/-- Command 4: all forces are cleared; the events carry the session of the command (14 R380). -/
def Live.cmdClearForces (L : Live) (s : Sess) : Except Abort Live :=
  let fs := L.lgc.forces
  .ok (fs.foldl (fun (L : Live) f => L.forceEv 9 0 { f with sess := s }) (L.modLgc (fun g => { g with forces := [] })))

/-- Command 5: the inactive bank is erased. -/
def Live.cmdEraseInactive (L : Live) : Except Abort Live :=
  let b := 1 - L.lgc.bank
  .ok (((((L.putBlob (0x440018 + b) []).modLgc (fun g => { g with bankOk := g.bankOk.set b false })).put 0x440005 0).put 0x440006 0))

/-- The variable of the new program that matches an old one (14 R382). -/
def matchVar (new : Bytes) (v : Var) : Option Var := (imgVariables new).find? (fun x => x.id == v.id && x.ty == v.ty && x.size == v.size)

/-- V and R after an online change (14 R382). -/
def carryMemory (old new : Bytes) (m : List Host.Cell) : List Host.Cell :=
  let keep := m.filter (fun c => decide (0x5000 ≤ c.1))
  let m1 := (imgVariables new).foldl (fun (n : List Host.Cell) v =>
    match (imgVariables old).find? (fun x => x.id == v.id && x.ty == v.ty && x.size == v.size) with
    | some x => memPutAll n (spaceBase v.space + v.addr) (memBytes m (spaceBase x.space + x.addr) v.size)
    | none => memPutAll n (spaceBase v.space + v.addr) (imgInitial new v)) keep
  (imgInstances new).foldl (fun (n : List Host.Cell) i =>
    match (imgInstances old).find? (fun x => x.id == i.id && x.ty == i.ty) with
    | some x => memPutAll n (spaceBase i.space + i.addr) (memBytes m (spaceBase x.space + x.addr) 16)
    | none => memPut n (spaceBase i.space + i.addr + 13) 1) m1

/-- A force after an online change: kept on I and Q, moved with a matched variable whose space its entry then names, none where it conflicts (14 R382, R383). -/
def carryForce (old new : Bytes) (f : Force) : Option Force :=
  if f.space = 2 ∨ f.space = 3 then some f
  else match (imgVariables old).find? (fun x => x.id == le f.entry 4 4) with
    | none => none
    | some x => (matchVar new x).map (fun y => { f with
        entry := f.entry.set 1 (BitVec.ofNat 8 y.space)
        space := y.space
        addr := y.addr })

/-- The online change itself (14 R381, R382): dropped forces are recorded. -/
def Live.activateLogic (L : Live) : Live :=
  let b := 1 - L.lgc.bank
  let old := L.program
  let new := L.logicBank b
  let oldId := L.getN 0x440004
  let kept := L.lgc.forces.filterMap (carryForce old new)
  let lost := L.lgc.forces.filter (fun f => (carryForce old new f).isNone)
  let worst := match (imgCode new).bind worstCase with | some w => w | none => 0
  let L := L.modLgc (fun g => { g with
    vm := { mem := carryMemory old new g.vm.mem }
    bank := b
    forces := kept
    prepared := false
    change := true })
  let L := (((L.put 0x440004 (imgId new)).put 0x440005 oldId).put 0x440006 (if L.bankValid (1 - b) then 1 else 0)).put 0x440008 worst
  let L := lost.foldl (fun (L : Live) f => L.forceEv 10 1 f) L
  L.lgcEv 9 4 0 [] (leBytes 4 oldId ++ leBytes 4 (imgId new))

/-- Why an online change is refused, 0 where it is not. -/
def Live.activateRefusal (L : Live) (drop : Bool) : Abort :=
  let b := 1 - L.lgc.bank
  if !L.bankValid b ∨ L.logicState = 0 ∨ L.logicState = 4 then abState
  else if !drop ∧ (L.lgc.forces.any (fun f => (carryForce L.program (L.logicBank b) f).isNone)) then abForce
  else 0

/-- Command 3, with FLAGS[1] of its transaction (14 R381, R383): a refusal is recorded. -/
def Live.cmdActivateLogic (L : Live) (drop : Bool) : Live × Abort :=
  let e := L.activateRefusal drop
  if e = 0 then (L.activateLogic, 0) else (L.lgcEv 9 5 1 [] (leBytes 4 e), e)

/-! ### Program images (14 R375) -/

/-- The first failing check of an image at the configured course period, and its worst case. -/
def Live.imageWritten (L : Live) (b : Nat) (image : Bytes) : Live :=
  let r := L.checkProgram image
  let L := (L.putBlob (0x440018 + b) image).put 0x440007 r.1
  let L := L.modLgc (fun g => { g with bankOk := g.bankOk.set b (r.1 == 0) })
  if r.1 = 0 then (L.put 0x440005 (imgId image)).put 0x440006 1
  else ((L.put 0x440005 0).put 0x440006 2).lgcEv 9 12 1 [] (leBytes 1 r.1)

/-- An image to the inactive bank; one to the active bank is refused. -/
def Live.cmdImage (L : Live) (b : Nat) (image : Bytes) : Except Abort Live :=
  if b = L.lgc.bank ∨ L.upd.replaced then .error abState else .ok (L.imageWritten b image)

/-! ### The rows -/

/-- LOGIC_SCAN (14 R359). -/
def execLogicScan (s : State) : Host.Outcome State Fault Refusal := runIn 3 s (fun L => Live.logicScan s.snap L)

/-- SCAN_OVERRUN (14 R361): a scan has not reached END in its course, or code or variables show an uncorrectable memory error, in a
stepped scan of a halted engine too. -/
def execScanOverrun (s : State) : Host.Outcome State Fault Refusal := runIn 6 s (fun L => if L.logicOn then L.logicFault else L)

/-- LOGIC_CMD_START (14 R376). -/
def execLogicCmdStart (sess : Sess) (s : State) : Host.Outcome State Fault Refusal :=
  run s (fun L => L.command sess 2 0x440002 (leBytes 1 1) (fun L => L.orAbort L.cmdLogicStart))

/-- LOGIC_CMD_STOP (14 R376). -/
def execLogicCmdStop (sess : Sess) (s : State) : Host.Outcome State Fault Refusal :=
  run s (fun L => L.command sess 2 0x440002 (leBytes 1 2) (fun L => L.orAbort L.cmdLogicStop))

/-- LOGIC_CMD_ACTIVATE (14 R381 to R383), as a plain write: no flag lets it drop a force. -/
def execLogicCmdActivate (sess : Sess) (s : State) : Host.Outcome State Fault Refusal :=
  run s (fun L => L.command sess 2 0x440002 (leBytes 1 3) (fun L => L.cmdActivateLogic false))

/-- LOGIC_CMD_CLEAR_FORCES (14 R378). -/
def execLogicCmdClearForces (sess : Sess) (s : State) : Host.Outcome State Fault Refusal :=
  run s (fun L => L.command sess 2 0x440002 (leBytes 1 4) (fun L => L.orAbort (L.cmdClearForces sess)))

/-- LOGIC_CMD_ERASE_INACTIVE (14 R384). -/
def execLogicCmdEraseInactive (sess : Sess) (s : State) : Host.Outcome State Fault Refusal :=
  run s (fun L => L.command sess 2 0x440002 (leBytes 1 5) (fun L => L.orAbort L.cmdEraseInactive))

/-- SET_FORCE (14 R378). -/
def execSetForce (sess : Sess) (entry : Bytes) (s : State) : Host.Outcome State Fault Refusal :=
  run s (fun L => L.command sess 2 0x440013 entry (fun L => L.orAbort (L.cmdSetForce sess entry)))

/-- RELEASE_FORCE (14 R378). -/
def execReleaseForce (sess : Sess) (entry : Nat) (s : State) : Host.Outcome State Fault Refusal :=
  run s (fun L => L.command sess 2 0x440014 (leBytes 1 entry) (fun L => L.orAbort (L.cmdReleaseForce sess entry)))

/-- LOGIC_IMAGE_WRITE (14 R375): no command object, so the limit of a course does not count it. -/
def execLogicImageWrite (sess : Sess) (bank : Fin 2) (image : Bytes) (s : State) : Host.Outcome State Fault Refusal :=
  run s (fun L => L.asWrite sess (0x440018 + bank.val) image (Live.belowLevel sess 2) (fun L => L.orAbort (L.cmdImage bank.val image)))

end Sys2Proof.Machine
end

