-- ==== Sys2Proof/Machine/DebugOps.lean ====
section
/-! DEFINITION. The debug port's requests that are committed like commands and act on both twins (18 R444, R447 to R449). A request is
queued under a key of the model's own, from DB0000H on; its value begins with the node-ID of the twin whose port sent it. -/

namespace Sys2Proof.Machine

/-- Keys of the requests: halt, step, step course, run, breakpoint set, breakpoint clear, end of the session, memory write. -/
abbrev keyHalt : Nat := 0xDB0000
/-- LOGIC_STEP: count in byte 1. -/
abbrev keyStep : Nat := 0xDB0001
/-- LOGIC_STEP_COURSE. -/
abbrev keyCourse : Nat := 0xDB0002
/-- LOGIC_RUN. -/
abbrev keyRun : Nat := 0xDB0003
/-- BREAK_SET of kind 0 or 1: slot, kind, parameter 4. -/
abbrev keyBreak : Nat := 0xDB0004
/-- BREAK_CLEAR of a kind 0 or 1: slot. -/
abbrev keyClear : Nat := 0xDB0005
/-- The session has ended. -/
abbrev keyEnded : Nat := 0xDB0006
/-- WRITE to V, R or Q: address 4, data. -/
abbrev keyVm : Nat := 0xDB0010

/-- STATUS 07: not permitted in the present state (18 R445). -/
abbrev stState : Nat := 0x07
/-- STATUS 0A: halt or step owned by another session. -/
abbrev stOwner : Nat := 0x0A

/-- Does another session own the halt (18 R447)? -/
def Live.otherOwner (L : Live) (s : Sess) (node : Nat) : Bool :=
  match L.lgc.owner with
  | some o => o != (s, node)
  | none => false

/-- A step or run acts on the halted scan of its owner, else its STATUS (18 R447, R448). -/
def Live.onHalted (L : Live) (s : Sess) (node : Nat) (f : Live → Live) : Live × Nat :=
  if L.otherOwner s node then (L, stOwner)
  else if L.lgc.owner.isNone then (L, stState)
  else (f L, 0)

/-- LOGIC_HALT: the first session to commit one owns the halt (18 R447). -/
def Live.logicHaltBy (L : Live) (s : Sess) (node : Nat) : Live × Nat :=
  if L.otherOwner s node then (L, stOwner)
  else if !L.logicOn then (L, stState)
  else (L.modLgc (fun g => { g with
    owner := some (s, node)
    haltReq := L.logicState == 2 || g.haltReq }), 0)

/-- Breakpoints of kinds 0 and 1 of a session are disarmed. -/
def Live.disarmLogic (L : Live) (s : Sess) (node : Nat) : Live :=
  { L with dbg := { L.dbg with brk := L.dbg.brk.map (fun b => match b with
    | some b => if b.kind ≤ 1 ∧ b.sess = s ∧ b.node = node then none else some b
    | none => none) } }

/-- A session's end, as it acts on the pair (18 R444). -/
def Live.debugEnded (L : Live) (s : Sess) (node : Nat) : Live :=
  let L := L.disarmLogic s node
  if L.lgc.owner = some (s, node) then L.resumeLogic else L

/-- Put or remove a breakpoint. -/
def Live.setBrk (L : Live) (slot : Nat) (b : Option Brk) : Live :=
  { L with dbg := { L.dbg with brk := L.dbg.brk.set slot b } }

/-- One request of the debug port at its commit; its STATUS, 0 for done. -/
def Live.cmdDebug (L : Live) (s : Sess) (k : Nat) (v : Bytes) : Live × Nat :=
  let node := byteAt v 0
  match k with
  | 0xDB0000 => L.logicHaltBy s node
  | 0xDB0001 =>
    if L.logicState = 3 ∨ L.otherOwner s node then L.onHalted s node (fun L => L.stepHalted (byteAt v 1)) else (L, stState)
  | 0xDB0002 => if L.logicState = 3 ∨ L.otherOwner s node then L.onHalted s node Live.stepCourse else (L, stState)
  | 0xDB0003 => L.onHalted s node Live.resumeLogic
  | 0xDB0004 =>
    (L.setBrk (byteAt v 1) (some { kind := byteAt v 2, param := le v 3 4, sess := s, node := node }), 0)
  | 0xDB0005 => (L.setBrk (byteAt v 1) none, 0)
  | 0xDB0006 => (L.debugEnded 0x4000 node, 0)
  | _ => (L, 0)

/-- A committed debug WRITE to V, R or Q (18 R448). -/
def Live.writeVm (L : Live) (v : Bytes) : Live :=
  L.modLgc (fun g => { g with vm := { g.vm with mem := memPutAll g.vm.mem (le v 0 4 - 0x51000000) (v.drop 4) } })

end Sys2Proof.Machine
end

