-- ==== Sys2Proof/Machine/Site.lean ====
section
/-! DEFINITION. The manager's way to the site: site time by PTP, the Ethernet services and Modbus TCP (13 R338 to R340, R350 to R353). -/

namespace Sys2Proof.Machine

/-! ### Site time -/

/-- Nanoseconds from 1970 to 2000 in PTP time (13 R339). -/
def ptpOrigin : Int := 946684800000000000

/-- Is the PHY of a manager module powered (02 R41, R45)? -/
def Live.online (L : Live) : Bool := L.isManager && L.pins.phyOn

/-- Does the module's time follow the site: a manager that does not follow its partner (13 R339)? -/
def Live.followsSite (L : Live) : Bool := L.isManager && !L.followsTwin

/-- Order of two byte strings, first byte first. -/
def bytesLess (a b : Bytes) : Bool := decide (beNat a < beNat b)

/-- Is Announce a better than b by the data set comparison of the profile (13 R338; the algorithm is IEEE 1588's, log 43)? -/
def betterMaster (a b : Announce) : Bool :=
  let ka := [a.priority1, a.clockClass, a.accuracy, a.variance, a.priority2, beNat a.identity, a.stepsRemoved]
  let kb := [b.priority1, b.clockClass, b.accuracy, b.variance, b.priority2, beNat b.identity, b.stepsRemoved]
  match (ka.zip kb).find? (fun p => p.1 != p.2) with
  | some p => decide (p.1 < p.2)
  | none => false

/-- Announce receipt time-out of the profile: three intervals of 2 s (log 43). -/
def announceTimeout : Nat := sec 6

/-- A master is selected: the port starts again with it (13 R338). -/
def Live.selectMaster (L : Live) (a : Announce) : Live := L.startPort (some (a, L.time.clk))

/-- An Announce (13 R338, R339). -/
def Live.announce (L : Live) (a : Announce) : Live :=
  if !L.online ∨ a.domain ≠ L.getN 0x500024 then L
  else if !a.ptpTimescale then
    let seen := L.mgr.ptp.refused.contains a.identity
    let L := if (L.mgr.ptp.master.map (fun m => m.1.identity)) = some a.identity then L.startPort none else L
    if seen then L
    else { L with mgr := { L.mgr with ptp := { L.mgr.ptp with
      refused := a.identity :: L.mgr.ptp.refused } } }.mgrEv 20 5 1 (padTo 8 a.identity)
  else
    let L := { L with mgr := { L.mgr with ptp := { L.mgr.ptp with
      refused := L.mgr.ptp.refused.filter (fun x => x != a.identity) } } }
    match L.mgr.ptp.master with
    | none => L.selectMaster a
    | some (m, t) =>
      if m.identity = a.identity then
        { L with mgr := { L.mgr with ptp := { L.mgr.ptp with master := some (a, L.time.clk) } } }
      else if t + announceTimeout ≤ L.time.clk ∨ betterMaster a m then L.selectMaster a
      else L

/-- Is a PTP message from the selected master? -/
def Live.fromMaster (L : Live) (identity : Bytes) : Bool :=
  L.online && (match L.mgr.ptp.master with | some m => m.1.identity == identity | none => false)

/-- A valid Sync is complete: t1 on module time and t2; the servo runs, or the reserve manager reports its offset (13 R339, R340). -/
def Live.siteSync (L : Live) (t1 t2 : Int) : Live :=
  let L := { L with mgr := { L.mgr with ptp := { L.mgr.ptp with
    t12 := some (t1, t2)
    sync := none
    lastSync := L.time.clk } } }
  match L.mgr.ptp.delay with
  | none => L
  | some d =>
    let off := t1 + d - t2
    let id := match L.mgr.ptp.master with | some m => padTo 8 m.1.identity | none => []
    let L := L.put 0x500026 (max (-2147483648) (min 2147483647 (-off)))
    if !L.followsSite then L
    else
      let ep := leBytes 4 (bayEpoch L.time.mtime)
      let L := (L.useOffset off 20 6 ep).sourceHeard
      let L := { L with mgr := { L.mgr with ptp := { L.mgr.ptp with locked := true } } }
      L.lockRun off 20 1 (id ++ ep)

/-- PTP_ANNOUNCE_RX. -/
def execPtpAnnounceRx (a : Announce) (s : State) : Host.Outcome State Fault Refusal := runIn 4 s (fun L => L.announce a)

/-- PTP_SYNC_RX: one-step completes at once, two-step waits for its follow-up. -/
def execPtpSyncRx (identity : Bytes) (seq : Nat) (twoStep : Bool) (origin correction rx : Int) (s : State) :
    Host.Outcome State Fault Refusal :=
  runIn 4 s (fun L =>
    if !L.fromMaster identity then L
    else if twoStep then
      { L with mgr := { L.mgr with ptp := { L.mgr.ptp with sync := some (seq, correction, rx) } } }
    else L.siteSync (origin + correction - ptpOrigin) rx)

/-- PTP_FOLLOW_UP_RX. -/
def execPtpFollowUpRx (identity : Bytes) (seq : Nat) (origin correction : Int) (s : State) : Host.Outcome State Fault Refusal :=
  runIn 4 s (fun L =>
    match L.mgr.ptp.sync with
    | none => L
    | some (n, c, rx) =>
      if !L.fromMaster identity ∨ n ≠ seq then L else L.siteSync (origin + c + correction - ptpOrigin) rx)

/-- Delay_Req of IEEE 1588 (13 R338; own clock identity not given, log 43). -/
def Live.delayReq (L : Live) (seq : Nat) : Bytes :=
  [0x01, 0x02, 0x00, 0x2C] ++ leBytes 1 (L.getN 0x500024) ++ List.replicate 15 0 ++
  (List.range 8).map (Config.freeByte 0x1588) ++ [0, 1] ++ beBytes 2 seq ++ [0x01, 0x7F] ++ List.replicate 10 0

/-- PTP_DELAY_REQ_SEND: after a Sync of the selected master. -/
def execPtpDelayReqSend (tx : Int) (s : State) : Host.Outcome State Fault Refusal :=
  runIn 4 s (fun L =>
    if !L.online ∨ L.mgr.ptp.t12.isNone then L
    else
      let seq := L.mgr.ptp.reqSeq
      let L := L.emit (.eth 319 0xE0000181 319 (L.delayReq seq))
      { L with mgr := { L.mgr with ptp := { L.mgr.ptp with
        req := some (seq, tx)
        reqSeq := (seq + 1) % 65536 } } })

/-- PTP_DELAY_RESP_RX: the mean path delay by the end-to-end mechanism. -/
def execPtpDelayRespRx (seq : Nat) (receive correction : Int) (s : State) : Host.Outcome State Fault Refusal :=
  runIn 4 s (fun L =>
    match L.mgr.ptp.req, L.mgr.ptp.t12 with
    | some (n, t3), some (t1, t2) =>
      if !L.online ∨ n ≠ seq then L
      else
        let t4 := receive - correction - ptpOrigin
        { L with mgr := { L.mgr with ptp := { L.mgr.ptp with
          req := none
          delay := some (roundQ (q ((t2 - t1) + (t4 - t3)) / 2)) } } }
    | _, _ => L)

/-- SITE_TIME_HOLDOVER (13 R340): 5 s without a valid Sync, from whichever master. -/
def execSiteTimeHoldover (s : State) : Host.Outcome State Fault Refusal :=
  runIn 4 s (fun L =>
    if L.mgr.lead && L.followsSite && L.time.synced && (L.getN 0x220002 == 1 || L.getN 0x220002 == 2) then
      let L := (L.reach (L.mgr.ptp.lastSync + sec 5)).put 0x220002 3
      { L with time := { L.time with lockCount := 0, holdAt := L.time.clk } }.mgrEv 20 2 1 []
    else L)

/-- SITE_TIME_WAIT_EXPIRY (13 R340): no usable master within the wait, counted from BOOT. -/
def execSiteTimeWaitExpiry (s : State) : Host.Outcome State Fault Refusal :=
  runIn 4 s (fun L =>
    if !L.mgr.lead || L.time.synced || L.mgr.ptp.master.isSome || bitOf (L.getN 0x500025) 2 then L
    else ((L.reach (L.mode.bootClk + sec (L.getN 0x500029))).put 0x500025 4).mgrEv 20 3 1 [])

/-- A manual module time: the lead manager's first synchronisation (13 R340, 11 R308). -/
def Live.cmdTime (L : Live) (s : Sess) (t : Nat) : Except Abort Live :=
  if 2 ^ 63 ≤ t then .error abRange
  else if !L.mgr.lead ∨ L.time.synced ∨ L.time.firstPending then .error abState
  else
    let off : Int := (t : Int) - L.time.mtime
    .ok ({ L with time := { L.time with
      stepPending := off.tdiv 10000 * 10000
      firstPending := true } }.mgrEv 20 4 0 (leBytes 8 t ++ leBytes 2 s))

/-- MANUAL_MODULE_TIME (13 R340, R355): exists on the manager pair alone. -/
def execManualModuleTime (sess : Sess) (time : Nat) (s : State) : Host.Outcome State Fault Refusal :=
  run s (fun L =>
    if !L.isManager then L.asked sess (fun L => L.refuseArrival sess abIndex)
    else L.command sess 3 0x50002A (leBytes 8 time) (fun L => L.orAbort (L.cmdTime sess time)))

/-! ### Ethernet -/

/-- ETHERNET_LINK_CHANGE (13 R355, R356): the new state of 0x5000:23. -/
def execEthernetLinkChange (link : Fin 3) (s : State) : Host.Outcome State Fault Refusal :=
  runIn 4 s (fun L =>
    if !L.online then L
    else
      let was := L.getN 0x500023
      let L := L.put 0x500023 link.val
      if was ≠ 0 ∧ link.val = 0 then L.mgrEv 13 1 1 []
      else if was = 0 ∧ link.val ≠ 0 then L.mgrEv 13 2 0 []
      else L)

/-- Is the network reachable? -/
def Live.netUp (L : Live) : Bool := L.online && L.getN 0x500023 != 0

/-- ARP_REQUEST (13 R350): answered for the own address; the hardware address is not given (log 43). -/
def execArpRequest (ip : Nat) (s : State) : Host.Outcome State Fault Refusal :=
  runIn 4 s (fun L =>
    if L.netUp && ip == L.bootN 0x500020 then
      L.emit (.eth 0x0806 0 0 ([0, 1, 8, 0, 6, 4, 0, 2] ++ (List.range 6).map (Config.freeByte 0x0806) ++ beBytes 4 ip))
    else L)

/-- Internet checksum of a message, its own field being zero. -/
def inetSum (d : Bytes) : Nat :=
  let n := (List.range ((d.length + 1) / 2)).foldl (fun a i =>
    let w := byteAt d (2 * i) * 256 + byteAt d (2 * i + 1)
    (a + w) % 65536 + (a + w) / 65536) 0
  65535 - n

/-- ICMP_ECHO_REQUEST (13 R350): the echo reply to the asker. -/
def execIcmpEchoRequest (ip ident seq : Nat) (data : Bytes) (s : State) : Host.Outcome State Fault Refusal :=
  runIn 4 s (fun L =>
    if !L.netUp then L
    else
      let tail := beBytes 2 ident ++ beBytes 2 seq ++ data
      L.emit (.eth 1 ip 0 ([0, 0] ++ beBytes 2 (inetSum ([0, 0, 0, 0] ++ tail)) ++ tail)))

/-! ### Modbus connections (13 R350, R351) -/

/-- The session of a connection (12 R315). -/
def mbSess (conn : Nat) : Sess := 0x3000 + conn

/-- Level of a client by the client table, 0xFF refuse (13 R351). -/
def Live.clientLevel (L : Live) (client : Nat) : Nat :=
  match (List.range 8).find? (fun i =>
    let e := L.getN (0x500030 + i)
    e % 2 ^ 32 != 0 && e % 2 ^ 32 == client) with
  | some i => fld (L.getN (0x500030 + i)) 39 32
  | none => L.getN 0x500038

/-- MODBUS_CONNECT (13 R350, R351): the ninth connection, and a client without a level, are refused. -/
def execModbusConnect (client : Nat) (s : State) : Host.Outcome State Fault Refusal :=
  runIn 4 s (fun L =>
    if !L.netUp then L
    else
      let lv := L.clientLevel client
      match (List.range 8).find? (fun i => (L.mgr.conns.getD i none).isNone) with
      | some i =>
        if lv = 0xFF then L.mgrEv 13 3 0 (leBytes 4 client)
        else
          { L with mgr := { L.mgr with
            conns := L.mgr.conns.set i (some { client := client, level := lv }) } }.touch (mbSess i)
      | none => L.mgrEv 13 3 0 (leBytes 4 client))

/-- MODBUS_CONNECTION_CLOSE (13 R351; 12 R315, R329): the session ends, and with it the edit copy it owns. -/
def execModbusConnectionClose (conn : Fin 8) (s : State) : Host.Outcome State Fault Refusal :=
  runIn 4 s (fun L =>
    if (L.mgr.conns.getD conn.val none).isNone then L
    else
      let L := { L with mgr := { L.mgr with conns := L.mgr.conns.set conn.val none } }
      L.endSession (mbSess conn.val))

/-- A request on an open connection. -/
def Live.onConn (L : Live) (conn : Nat) (f : MbConn → Live → Live) : Live :=
  match L.mgr.conns.getD conn none with
  | none => L
  | some c => f c (L.touch (mbSess conn))

/-- A Modbus response. -/
def Live.mbSend (L : Live) (conn : Nat) (pdu : Bytes) : Live := L.emit (.modbus conn pdu)

/-- An exception response (13 R353). -/
def Live.mbFail (L : Live) (conn fc code : Nat) : Live := L.mbSend conn (leBytes 1 (fc + 128) ++ leBytes 1 code)

/-- MODBUS_UNSUPPORTED_FUNCTION (13 R353). -/
def execModbusUnsupportedFunction (conn : Fin 8) (code : Nat) (s : State) : Host.Outcome State Fault Refusal :=
  runIn 4 s (fun L => L.onConn conn.val (fun _ L => L.mbFail conn.val (code % 128) 1))

/-! ### Registers (13 R352) -/

/-- Input register r: bay snapshot, summaries; none outside the map. -/
def inputReg (S : Live) (r : Nat) : Option Nat :=
  if r < 32 then some ((mbRegs (padTo 64 (S.bytesOf 0x500010)) r 1).getD 0 0)
  else if 100 ≤ r ∧ r < 892 then some ((mbRegs (S.summaryOf ((r - 100) / 24 + 1)) ((r - 100) % 24) 1).getD 0 0)
  else none

/-- All of some registers, none where one is outside the map. -/
def allRegs (f : Nat → Option Nat) (start count : Nat) : Option (List Nat) :=
  (List.range count).mapM (fun i => f (start + i))

/-- READ_INPUT_REGISTERS. -/
def execReadInputRegisters (conn : Fin 8) (start count : Nat) (s : State) : Host.Outcome State Fault Refusal :=
  runIn 4 s (fun L => L.onConn conn.val (fun _ L =>
    if count = 0 ∨ 125 < count then L.mbFail conn.val 4 3
    else match allRegs (inputReg s.snap) start count with
      | some rs => L.mbSend conn.val (mbReply 4 rs)
      | none => L.mbFail conn.val 4 2))

/-- Size in bytes of the object a connection has selected, 0 where there is none. -/
def Live.objSize (S : Live) (c : MbConn) : Nat :=
  match S.findRow c.index c.sub with
  | .error _ => 0
  | .ok r =>
    let k := c.index * 256 + c.sub
    if r.ty = .dom ∨ r.ty = .oct then (octSize k).getD (S.bytesOf k).length else r.ty.size

/-- Holding register r outside the value window. -/
def holdingReg (S L : Live) (s : Sess) (c : MbConn) (r : Nat) : Option Nat :=
  let p := ofSigned 32 (S.get 0x500001)
  let last := match L.session s with | some x => x.lastAbort | none => 0
  if r = 0 then some (p % 65536)
  else if r = 1 then some (p / 65536)
  else if r = 10 then some c.index
  else if r = 11 then some c.sub
  else if r = 12 then some (S.objSize c % 65536)
  else if r = 13 then some (last % 65536)
  else if r = 14 then some (last / 65536)
  else none

/-- READ_HOLDING_REGISTERS: the value window is a read of the selected object (12 R323). -/
def execReadHoldingRegisters (conn : Fin 8) (start count : Nat) (s : State) : Host.Outcome State Fault Refusal :=
  runIn 4 s (fun L => L.onConn conn.val (fun c L =>
    let ss := mbSess conn.val
    if count = 0 ∨ 125 < count then L.mbFail conn.val 3 3
    else if 16 ≤ start ∧ start + count ≤ 48 then
      L.mbCall conn.val (c.index * 256 + c.sub) 3 start count (fun L => Live.read s.snap L ss c.index c.sub)
    else match allRegs (holdingReg s.snap L ss c) start count with
      | some rs => L.mbSend conn.val (mbReply 3 rs)
      | none => L.mbFail conn.val 3 2))

/-- A write through Modbus goes the way of every write, answered after its commit (13 R350, R352; 12 R320). -/
def Live.mbObject (L : Live) (conn fc start n k : Nat) (v : Bytes) : Live :=
  L.mbCall conn k fc start n (fun L => L.write (mbSess conn) false k v)

/-- A write of registers: it covers exactly one object (13 R352, R353). -/
def Live.mbWrite (L : Live) (c : MbConn) (conn fc start n : Nat) (vals : List Nat) : Live :=
  let data := vals.flatMap (leBytes 2)
  let k := c.index * 256 + c.sub
  let set := fun (f : MbConn → MbConn) => (L.modConn conn f).mbSend conn (leBytes 1 fc ++ beBytes 2 start ++ beBytes 2 n)
  let refuse := fun (e : Abort) => L.mbCall conn k fc start n (fun L => L.refuseArrival (mbSess conn) e)
  if start = 0 ∧ vals.length = 2 then L.mbObject conn fc start n 0x500001 data
  else if start = 10 ∧ vals.length = 1 then set (fun x => { x with index := vals.getD 0 0 })
  else if start = 11 ∧ vals.length = 1 then set (fun x => { x with sub := vals.getD 0 0 % 256 })
  else if start = 10 ∧ vals.length = 2 then
    set (fun x => { x with
      index := vals.getD 0 0
      sub := vals.getD 1 0 % 256 })
  else if (start = 12 ∧ vals.length = 1) ∨ (start = 13 ∧ vals.length = 2) then
    refuse abRo
  else if start = 16 ∧ vals.length ≤ 32 then
    match L.findRow c.index c.sub with
    | .error e => refuse e
    | .ok r =>
      match if r.ty = .dom ∨ r.ty = .oct then octSize k else some r.ty.size with
      | none => L.mbObject conn fc start n k data
      | some size => if vals.length = (size + 1) / 2 then L.mbObject conn fc start n k (data.take size) else L.mbFail conn fc 2
  else L.mbFail conn fc 2

/-- WRITE_SINGLE_REGISTER. -/
def execWriteSingleRegister (conn : Fin 8) (reg value : Nat) (s : State) : Host.Outcome State Fault Refusal :=
  runIn 4 s (fun L => L.onConn conn.val (fun c L => L.mbWrite c conn.val 6 reg (value % 65536) [value % 65536]))

/-- WRITE_MULTIPLE_REGISTERS. -/
def execWriteMultipleRegisters (conn : Fin 8) (start : Nat) (values : List Nat) (s : State) : Host.Outcome State Fault Refusal :=
  runIn 4 s (fun L => L.onConn conn.val (fun c L =>
    if values.isEmpty ∨ 123 < values.length then L.mbFail conn.val 16 3
    else L.mbWrite c conn.val 16 start values.length (values.map (· % 65536))))

/-- READ_DEVICE_IDENTIFICATION (13 R350): basic level; the text form of the version is that of 0x100A (log 26). -/
def execReadDeviceIdentification (conn : Fin 8) (s : State) : Host.Outcome State Fault Refusal :=
  runIn 4 s (fun L => L.onConn conn.val (fun _ L =>
    let item := fun (i : Nat) (b : Bytes) => leBytes 1 i ++ leBytes 1 b.length ++ b
    L.mbSend conn.val ([0x2B, 0x0E, 1, 1, 0, 0, 3] ++ item 0 (ascii "Bexholt") ++ item 1 (s.snap.bytesOf 0x100800) ++
      item 2 (s.snap.bytesOf 0x100A00))))

end Sys2Proof.Machine
end

