-- ==== Sys2Proof/Machine/Reset.lean ====
section
/-! DEFINITION. The transition into BOOT: what a reset keeps and loses (03 R54, R63, R66; 10 R262). -/

namespace Sys2Proof.Machine

/-- Read-only objects that retained MRAM, the parameter region or an external pin holds across a reset (03 R66). -/
def isRetainedRo (k : Nat) : Bool :=
  [0x200010, 0x200011, 0x404001, 0x404003, 0x404004, 0x210002, 0x440004, 0x440005, 0x440006, 0x440007, 0x440008, 0x480030,
   0x300034, 0x480040, 0x480041].contains k ||
  (0x400007 ≤ k && k ≤ 0x40000A) || (0x380001 ≤ k && k ≤ 0x380007) || (0x480001 ≤ k && k ≤ 0x48000F && k != 0x48000B)

/-- Does an object's value survive a reset: every parameter, and what R66 retains? -/
def survives (k : Nat) : Bool :=
  isRetainedRo k || (match odRow (k / 256) (k % 256) with | some r => r.acc != .ro | none => false)

/-- Does channel B hold FAST_OFF OFF over this reset (03 R54, R63; 10 R261)? -/
def Live.holdsOff (L : Live) : Bool :=
  L.mode.holdOffB ||
  (!L.inStep && L.driving) ||
  (L.mode.st == .safe && bitOf (L.getN 0x404001) 11 && L.pins.fastOff == .off && !L.healthyPartner)

/-- A condition that a reset leaves: the trip of a safety function whose cause stays latched (03 R66, 12 R463). -/
def keepsCond (c : Cond) : Bool := (96 ≤ c.source && c.source ≤ 107) || (c.source == 111 && c.code != 5)

/-- The causes that a reset itself releases: SF-12, and SF-11 after its third within 24 h (10 R262). -/
def Live.resetReleases (L : Live) : Live :=
  let L := if bitOf (L.getN 0x404001) 11 then
      { L with obj := (L.put 0x404001 (setBit (L.getN 0x404001) 11 false : Nat)).obj }.raise 107 4 0 [] L.tripPayload else L
  if bitOf (L.getN 0x404001) 10 ∧ L.saf.sf11Reset then
    let L := (L.put 0x404001 (setBit (L.getN 0x404001) 10 false : Nat)).raise 106 4 0 [] L.tripPayload
    { L with saf := { L.saf with sf11 := [], sf11Reset := false } }
  else L

/-- Partner data as a twin knows it right after a reset: only the serial of its last partner (15 R401). -/
def freshTwin (t : Twin) : Twin := { p := { serial := t.p.serial } }

/-- The nodes and the segments' retained I²t survive; all else the module holds of a segment is formed anew. -/
def freshSeg (q : Rat) : Seg := { q := q }

/-- The transition into BOOT by T1, T2 or T4 with a reset cause (03 R52, R54, R63, R66). -/
def Live.toBoot (L : Live) (trig cause : Nat) : Live :=
  let L := if L.dbg.session.isSome then L.ev 127 3 1 [] (leBytes 1 3) else L
  let held := decide (trig = 4) && L.holdsOff
  let L := L.setState .boot trig
  let L := L.resetReleases
  let obj := L.obj.filter (fun p => survives p.1)
  let L := { L with
    mode := { st := .boot, bootClk := L.time.clk, holdOffB := held }
    pins := { L.pins with
      fastOff := (if held then .off else .absent)
      pathA := .absent
      pathB := (if held then .off else .absent)
      cutA := false
      offSince := (if held then some L.time.clk else none)
      contactA := false, contactB := false, elementOpen := false, elemA := false, elemB := false
      twinXLow := false, xHeld := false, xLowAt := none, insRelay := false, insVolt := 0
      holdup := false
      drawn := if L.pins.aux1 || L.pins.aux2 then 0 else 2
      phyOn := decide ((Store.find obj 0x200002).getD 255 = 1) || decide ((Store.find obj 0x200002).getD 255 = 65) }
    time := { clk := L.time.clk }
    ks := { L.ks with pend := [], txns := [], refused := 0, nonces := [], ctl := obj, ctlDue := none, commands := 0,
                      atBoot := obj, forwarded := [], sure := [] }
    rcd := { L.rcd with raised := 0, lastEvent := (0, 0, 0, 0), lost := [0, 0, 0], brkHit := [], history := [] }
    saf := { released := L.saf.released, sf11 := L.saf.sf11, deepUv := L.saf.deepUv, fastLatch := L.saf.fastLatch, eA := L.ret.e.1, eB := L.ret.e.2 }
    seg := L.ret.q.map freshSeg
    conv := { energy := L.ret.energy }
    twin := freshTwin L.twin
    eng := { tab := L.eng.nextTab.getD L.eng.tab }
    chi := {}
    cap := {}
    upd := { L.upd with flashOff := L.flashNow }
    est := { ctx := L.ret.ctx, seg := L.ret.seg, rep := L.ret.rep, switchAt := L.est.switchAt }
    th := {}
    com := { beatAt := L.time.clk }
    mgr := {}
    lgc := { vm := { mem := L.lgc.vm.mem }, bank := L.lgc.bank, bankOk := L.lgc.bankOk, forces := L.lgc.forces }
    dbg := {
      lockUntil := L.dbg.lockUntil
      mem := L.dbg.mem.filter (fun c => decide (0x10000000 ≤ c.1)) }
    obj := obj }
  let L := (L.put 0x20000F cause).put 0x20001A (2 ^ 18 : Nat)
  let L := L.put 0x48000B 0
  L.endConds (fun c => !keepsCond c)

end Sys2Proof.Machine
end

