-- ==== Sys2Proof/Machine/Update.lean ====
section
/-! DEFINITION. Field update and journal: manifests, staging, verification, activation, probation, node parts, flash refresh and the
replay of journal entries (17 R419 to R440). -/

namespace Sys2Proof.Machine

/-! ### Manifests (17 R421) -/

/-- Number of part entries. -/
def manParts (m : Bytes) : Nat := byteAt m 7
/-- MANIFEST_ID. -/
def manId (m : Bytes) : Nat := le m 8 4
/-- VERSION. -/
def manVersion (m : Bytes) : Nat := le m 12 4
/-- SECVER. -/
def manSecver (m : Bytes) : Nat := le m 16 4
/-- HSCHEMA. -/
def manSchema (m : Bytes) : Nat := le m 20 2
/-- KIND of part i. -/
def partKind (m : Bytes) (i : Nat) : Nat := byteAt m (32 + 64 * i)
/-- MAKER of part i. -/
def partMaker (m : Bytes) (i : Nat) : Nat := le m (34 + 64 * i) 2
/-- MODEL of part i. -/
def partModel (m : Bytes) (i : Nat) : Bytes := slice m (36 + 64 * i) 16
/-- LENGTH of part i. -/
def partLen (m : Bytes) (i : Nat) : Nat := le m (52 + 64 * i) 4
/-- PVER of part i. -/
def partVer (m : Bytes) (i : Nat) : Nat := le m (56 + 64 * i) 4
/-- DIGEST of part i. -/
def partDigest (m : Bytes) (i : Nat) : Bytes := slice m (60 + 64 * i) 32
/-- SAFECRC of part i. -/
def partSafe (m : Bytes) (i : Nat) : Nat := le m (92 + 64 * i) 4
/-- The part numbers. -/
def manRange (m : Bytes) : List Nat := List.range (manParts m)
/-- Blocks of part i. -/
def partBlocks (m : Bytes) (i : Nat) : Nat := (partLen m i + 4095) / 4096
/-- Blocks of a set. -/
def manBlocks (m : Bytes) : Nat := (manRange m).foldl (fun n i => n + partBlocks m i) 0
/-- Does a set hold a part of a kind? -/
def hasKind (m : Bytes) (k : Nat) : Bool := (manRange m).any (fun i => partKind m i == k)

/-- Format and reserved bytes: at most one part of each kind, and one node part for a maker and model. -/
def manFormatOk (m : Bytes) : Bool :=
  let key := fun (i : Nat) => if partKind m i = 3 then leNat (leBytes 1 3 ++ leBytes 2 (partMaker m i) ++ partModel m i) else partKind m i
  m.length == 96 + 64 * manParts m && le m 0 4 == 0x584D4647 && byteAt m 5 == 1 && (byteAt m 6 == 1 || byteAt m 6 == 2) &&
  decide (1 ≤ manParts m ∧ manParts m ≤ 12 ∧ manBlocks m ≤ 6143) && (slice m 22 10).all (· == 0) &&
  (manRange m).all (fun i => decide (1 ≤ partKind m i ∧ partKind m i ≤ 7) && byteAt m (33 + 64 * i) == 0 &&
    (partKind m i == 3 || (partMaker m i == 0 && (partModel m i).all (· == 0))) && (partKind m i == 5 || partSafe m i == 0)) &&
  !twice ((manRange m).map key)

/-- Signature over all preceding bytes by the key that KEYID names (17 R422). -/
def Live.manSigned (L : Live) (m : Bytes) : Bool :=
  let d := Config.sha256 (m.take (m.length - 64))
  let sig := m.drop (m.length - 64)
  if byteAt m 6 = 1 then Config.ecdsaOk Config.vendorKey d sig
  else !(L.blobOf 0x480012).isEmpty && Config.ecdsaOk (L.blobOf 0x480012) d sig

/-- First failing check of a manifest, 0 where it is accepted (17 R421, R422, R439 sub 03). -/
def Live.manCheck (L : Live) (m : Bytes) : Nat :=
  if !manFormatOk m then 2
  else if !L.manSigned m then 1
  else if byteAt m 6 = 2 ∧ !((manRange m).all (fun i => decide (4 ≤ partKind m i ∧ partKind m i ≤ 6))) then 7
  else if manSecver m < L.getN 0x48000F then 9 else 0

/-! ### Slots (17 R419) -/

/-- Index of the inactive slot: 0 A, 1 B. -/
def Live.inactive (L : Live) : Nat := if L.upd.running = 1 then 1 else 0

/-- A slot by its index. -/
def Live.slotAt (L : Live) (i : Nat) : Option Slot := L.upd.slots.getD i none

/-- Manifest of the running set: slot A or B, else the golden image. -/
def Live.runningManifest (L : Live) : Bytes :=
  match L.upd.running with
  | 0 => L.upd.golden
  | n => match L.slotAt (n - 1) with | some s => s.manifest | none => []

/-- Data of part i of a slot. -/
def Slot.part (s : Slot) (i : Nat) : Bytes :=
  ((List.range (partBlocks s.manifest i)).flatMap (fun n =>
    match s.blocks.find? (fun b => b.1 == i && b.2.1 == n) with
    | some b => b.2.2
    | none => [])).take (partLen s.manifest i)

/-- Update state, 0x4800:01. -/
def Live.updState (L : Live) : Nat := L.getN 0x480001

/-- A refusal with its result: 0x4800:03 and event 126 code 2 (17 R439, R440). -/
def Live.updRefuse (L : Live) (result : Nat) : Live := (L.put 0x480003 result).updEv 2 1 (leBytes 1 result)

/-- A set is in probation, or provisionally confirmed, so that the other slot is its fallback (17 R424, R428). -/
def Live.keepsFallback (L : Live) : Bool := L.upd.probation || L.updState == 7

/-! ### Staging (17 R424) -/

/-- A kind of open update-stage entry is marked complete. -/
def Live.stageDone (L : Live) (kind : Nat) : Live :=
  L.jdoneAll (fun e => !e.done && e.cls == 3 && e.body.head? == some (BitVec.ofNat 8 kind))

/-- A manifest is written; a verification of the set it erases is over. The abort code of a refusal is the state abort code in probation, else the value-range one (DEDUCED). -/
def Live.writeManifest (L : Live) (m : Bytes) : Live × Abort :=
  if L.keepsFallback then (L.updRefuse 8, abState)
  else if L.updState = 5 then (L.updRefuse 6, abState)
  else
    let r := L.manCheck m
    if r ≠ 0 then (L.updRefuse r, abRange)
    else
      let L := { L with upd := { L.upd with
        slots := L.upd.slots.set L.inactive (some { manifest := m })
        previous := 0 } }
      let L := ((((L.put 0x480001 1).put 0x480003 0).put 0x480006 (manId m)).put 0x480008 0).put 0x480009 (manBlocks m)
      let L := ((L.put 0x480007 0).stageDone 3).stageEntry true 1 (leBytes 4 (manId m))
      (L.updEv 1 0 (leBytes 4 (manId m)), 0)

/-- First failing check of a staging block against the open set, 0 where it is accepted. -/
def blockCheck (m b : Bytes) : Nat :=
  let i := byteAt b 4
  let n := le b 6 2
  let used := if n + 1 = partBlocks m i then partLen m i - 4096 * n else 0
  if byteAt b 5 ≠ 0 ∨ le b 14 2 ≠ 0 ∨ manParts m ≤ i ∨ partBlocks m i ≤ n ∨ le b 12 2 ≠ used then 2
  else if le b 0 4 ≠ manId m then 6
  else if crc32c (b.drop 16) ≠ le b 8 4 then 4 else 0

/-- A block is written, read back and marked; one already set is acknowledged. With every bit set the set is staged. -/
def Live.writeBlock (L : Live) (b : Bytes) : Live × Abort :=
  match L.slotAt L.inactive with
  | none => (L.updRefuse 6, abState)
  | some s =>
    if b.length ≠ 4112 then (L, abLength)
    else if L.updState ≠ 1 ∧ L.updState ≠ 2 then (L.updRefuse 6, abState)
    else
      let r := blockCheck s.manifest b
      let i := byteAt b 4
      let n := le b 6 2
      if r ≠ 0 then (L.updRefuse r, if r = 6 then abState else abRange)
      else if s.blocks.any (fun x => x.1 == i && x.2.1 == n) then (L, 0)
      else
        let s' := { s with blocks := (i, n, b.drop 16) :: s.blocks }
        let L := { L with upd := { L.upd with slots := L.upd.slots.set L.inactive (some s') } }
        let L := (L.put 0x480008 s'.blocks.length).stageEntry true 2 (leBytes 1 i ++ leBytes 2 n)
        if s'.blocks.length = manBlocks s.manifest then ((L.put 0x480001 2).updEv 3 0 [], 0) else (L, 0)

/-! ### Verification (17 R425) -/

/-- Update command 1. -/
def Live.cmdVerify (L : Live) : Live × Abort :=
  if L.updState = 2 ∨ L.updState = 3 ∨ L.updState = 4 then
    ((L.put 0x480001 3).stageEntry false 3 (leBytes 4 (L.getN 0x480006)), 0)
  else (L.put 0x480003 6, abState)

/-- The stage table as a bedrock-law image makes it: its structure for stages 0 to 39, the rest as they stand (07 R162). -/
def Live.lawTable (L : Live) (img : Bytes) : List Stage :=
  let st := fun (s : Nat) =>
    let w := Config.lawStage img s
    let n := fun (j : Nat) => (w.getD j 0).toNat
    ({ ty := n 0, lanes := n 1, mask := n 2, src := [n 3, n 4, n 5, n 6], variant := n 7, ec := w.getD 8 0,
       cm := (w.drop 9).take 8 } : Stage)
  recompute L.lawSet ((List.range 40).map st ++ L.committedTab.drop 40)

/-- The state as it would stand with a parameter set's values. -/
def Live.withParams (L : Live) (d : Bytes) : Live := (Config.paramValues d).foldl (fun (L : Live) p => L.put p.1 p.2) L

/-- The cell model table that will be active with a set: its own, else the present one. -/
def Live.withTable (L : Live) (s : Slot) : Live :=
  match (manRange s.manifest).find? (fun i => partKind s.manifest i == 6) with
  | some i => L.putBlob (0x380010 + L.bank) (s.part i)
  | none => L

/-- Does a configuration part pass its own chapter's check (17 R423, R425 step 3)? A parameter set carries the CRC of the safety
parameters it has, and a later integrator key only under the present one (17 R422, R423). -/
def Live.configPartOk (L : Live) (s : Slot) (i : Nat) : Bool :=
  let d := s.part i
  match partKind s.manifest i with
  | 4 => (L.checkProgram d).1 == 0
  | 5 =>
    let L' := (L.withTable s).withParams d
    (if (Config.paramValues d).any (fun p => isSafetyParam p.1) then
      partSafe s.manifest i == L'.activeCrc && L'.inconsistencies.isEmpty else partSafe s.manifest i == 0) &&
    ((L.blobOf 0x480012).isEmpty || byteAt s.manifest 6 == 2 || (Config.paramBlobs d).all (fun p => p.1 != 0x480012))
  | 6 => L.tableCheck d == 0
  | 7 => checkTable (q (L.get 0x401201) / 1000000000) L.fittedSegs.length [] (L.lawTable d) == none
  | _ => true

/-- Compatibility (17 R425 step 4): contract major 1 of every fitted node that a node part matches. -/
def Live.nodesOk (L : Live) (m : Bytes) : Bool :=
  L.fittedSegs.all (fun s => (manRange m).all (fun i =>
    !(partKind m i == 3 && partMaker m i == L.getN (segKey s 0x29) && partModel m i == (L.segAt s).model) ||
    L.getN (segKey s 0x28) / 256 == 1))

/-- Result of a verification and the part concerned, by what the dies report and what the staged data show. The spec gives a failed
configuration check no result of its own: it is reported as 5 (DEDUCED). The part of a check that names none is free (log 15). -/
def Live.verifyResult (L : Live) (s : Slot) (r : VerifyReport) : Nat × Nat :=
  let m := s.manifest
  let any := (Config.freeInt L.free).toNat % 12
  if !r.signatureOk ∨ !L.manSigned m then (1, any)
  else if !r.digestsOk then (3, any)
  else match (manRange m).find? (fun i => Config.sha256 (s.part i) != partDigest m i) with
    | some i => (3, i)
    | none =>
      if !r.configOk then (5, any)
      else match (manRange m).find? (fun i => !L.configPartOk s i) with
        | some i => (5, i)
        | none => if r.compatible && L.nodesOk m then (0, 0) else (5, any)

/-- The logic program of a set as its own chapter's check finds it (14 R375): its result in 0x4400:07, a refusal's event. -/
def Live.noteProgram (L : Live) (s : Slot) : Live :=
  match (manRange s.manifest).find? (fun i => partKind s.manifest i == 4) with
  | none => L
  | some i =>
    let r := (L.checkProgram (s.part i)).1
    let L := L.put 0x440007 r
    if r = 0 then L else L.lgcEv 9 12 1 [] (leBytes 1 r)

/-- Verification ends (17 R425). -/
def Live.verified (L : Live) (r : VerifyReport) : Live :=
  match L.slotAt L.inactive with
  | none => L
  | some s =>
    if L.updState ≠ 3 then L
    else
      let x := L.verifyResult s r
      let L := if x.1 = 0 ∨ x.1 = 5 then L.noteProgram s else L
      let L := ({ L with free := L.free + 1 }.put 0x480003 x.1).stageDone 3
      if x.1 = 0 then (L.put 0x480001 4).updEv 4 0 []
      else (L.put 0x480001 2).updEv 5 1 (leBytes 1 x.1 ++ leBytes 1 x.2)

/-! ### Activation (17 R426 to R428) -/

/-- May the staged set be activated twin by twin: main, plumb and node parts only, and the running set's HSCHEMA major? -/
def Live.twinByTwin (L : Live) (m : Bytes) : Bool :=
  (manRange m).all (fun i => decide (partKind m i ≤ 3)) && manSchema m / 256 == Config.schemaOf (L.getN 0x480005) / 256

/-- The states of an activation of the pair at once. -/
def Live.stopped (L : Live) : Bool := L.mode.st == .standby || L.mode.st == .service || L.safeDone

/-- The activation entry of a slot and the reset that follows it (17 R427). The twin whose turn it was keeps the confirmation of the one
before it (17 R428); nothing is staged any more. -/
def Live.activateSlot (L : Live) (slot : Nat) (probation atOnce : Bool) : Live :=
  let m := match L.slotAt (slot - 1) with | some s => s.manifest | none => []
  let seq := L.jrn.nextSeq
  let L := L.stageEntry false 4 (leBytes 1 slot ++ leBytes 1 L.upd.running ++ leBytes 4 (manId m) ++ leBytes 4 (manSecver m))
  let L := { L with upd := { L.upd with
    activation := some seq
    previous := L.upd.running
    selected := slot
    probation := probation
    boots := 0
    atOnce := atOnce
    turn := false
    back := false
    partnerConfirmed := L.upd.turn && L.upd.partnerConfirmed
    replaced := (manRange m).any (fun i => decide (4 ≤ partKind m i)) && probation } }
  let L := ((L.put 0x480001 5).put 0x480007 (L.getN 0x480004)).put 0x48000A 0
  let L := ((L.put 0x480006 0).put 0x480008 0).put 0x480009 0
  let L := L.updEv 6 0 (leBytes 1 slot ++ leBytes 4 (manId m))
  L.toBoot 4 3

/-- Update command 2 (17 R426, R428). -/
def Live.cmdActivateSet (L : Live) (level : Nat) : Live × Abort :=
  match L.slotAt L.inactive with
  | none => (L.put 0x480003 6, abState)
  | some s =>
    let m := s.manifest
    let slot := L.inactive + 1
    if L.updState ≠ 4 then (L.put 0x480003 6, abState)
    else if hasKind m 7 ∧ level < 3 then (L, abLevel)
    else if L.twinByTwin m ∧ L.inStep then
      if !L.healthyPartner ∨ !L.healthy then (L.put 0x480003 6, abState)
      else if L.twin.holds then
        ({ L.put 0x480001 5 with upd := { L.upd with turn := true, partnerConfirmed := false } }, 0)
      else (L.activateSlot slot true false, 0)
    else if !L.stopped ∨ (L.hasPartner ∧ !L.inStep) then (L.put 0x480003 6, abState)
    else (L.activateSlot slot true true, 0)

/-- Update command 3. -/
def Live.cmdDiscardSet (L : Live) : Live × Abort :=
  if 1 ≤ L.updState ∧ L.updState ≤ 4 then
    let L := { L with upd := { L.upd with slots := L.upd.slots.set L.inactive none } }
    let L := (((L.put 0x480001 0).put 0x480006 0).put 0x480008 0).put 0x480009 0
    ((L.stageDone 3).stageEntry true 8 [], 0)
  else (L.put 0x480003 6, abState)

/-! ### Configuration parts (17 R420, R427) -/

/-- Objects whose previous values a part of this kind keeps. -/
def partKeys (kind : Nat) (d : Bytes) : List Nat :=
  match kind with
  | 4 => [0x440003, 0x440004, 0x440005, 0x440006, 0x440007, 0x440008]
  | 5 => (Config.paramValues d).map (·.1)
  | 6 => (List.range 7).map (0x380001 + ·)
  | 7 => [0x300034]
  | _ => []

/-- Byte strings whose previous contents a part of this kind keeps. -/
def partBlobs (kind : Nat) (d : Bytes) : List Nat :=
  match kind with
  | 4 => [0x440018, 0x440019]
  | 5 => (Config.paramBlobs d).map (·.1)
  | 6 => [0x380010, 0x380011]
  | _ => []

/-- Copy one configuration part into the new generation. -/
def Live.installPart (L : Live) (kind : Nat) (d : Bytes) : Live :=
  match kind with
  | 4 =>
    let b := 1 - L.lgc.bank
    let same := imgRetained d == imgRetained L.program
    let old := L.getN 0x440004
    let w := (L.checkProgram d).2
    let L := (L.putBlob (0x440018 + b) d).modLgc (fun g => { g with
      bank := b
      bankOk := g.bankOk.set b true })
    let L := if same then L else L.put 0x20001C 1
    (((L.put 0x440004 (imgId d)).put 0x440005 old).put 0x440006 (if L.bankValid (1 - b) then 1 else 0)).put 0x440008 w
  | 5 =>
    let L := (Config.paramBlobs d).foldl (fun (L : Live) p => L.putBlob p.1 p.2) (L.withParams d)
    if (Config.paramValues d).any (fun p => isSafetyParam p.1) then
      { L.setActive with twin := { L.setActive.twin with thrDue := true } } else L
  | 6 =>
    let old := L.table
    let b := 1 - L.bank
    let L := (((L.putBlob (0x380010 + b) d).put (0x380002 + b) 1).put (0x380004 + b) (hdrId d)).put 0x380001 b
    let L := if hdrChem d ≠ hdrChem old ∨ hdrCells d ≠ hdrCells old then L.put 0x20001D 1 else L
    L.updEv 6 0 (leBytes 4 (hdrId d))
  | 7 => { L with eng := { L.eng with tab := L.lawTable d, nextTab := none } }.put 0x300034 (Config.lawVersion d).toNat
  | _ => L

/-- Bank A or B of the logic engine among the kept values. -/
def Live.keptValue (L : Live) (k : Nat) : Int := if k = 0x440003 then (L.lgc.bank : Int) else L.get k

/-- Copy every configuration part of a slot, keeping the previous generation once (17 R420, R427). -/
def Live.installSet (L : Live) (s : Slot) : Live :=
  let m := s.manifest
  let parts := ((manRange m).filter (fun i => decide (4 ≤ partKind m i))).map (fun i => (partKind m i, s.part i))
  let keep : Store × Blobs := (parts.flatMap (fun p => (partKeys p.1 p.2).map (fun k => (k, L.keptValue k))),
    parts.flatMap (fun p => (partBlobs p.1 p.2).map (fun k => (k, L.blobOf k))))
  let tab := if hasKind m 7 then some L.committedTab else none
  let L := match L.upd.prevGen with
    | some _ => L
    | none => if parts.isEmpty then L else { L with upd := { L.upd with prevGen := some keep, prevTab := tab } }
  parts.foldl (fun (L : Live) p => L.installPart p.1 p.2) L

/-- A fallback restores the previous generation (17 R420). -/
def Live.restoreGen (L : Live) : Live :=
  match L.upd.prevGen with
  | none => L
  | some (vals, blobs) =>
    let L := vals.foldl (fun (L : Live) p =>
      if p.1 = 0x440003 then L.modLgc (fun g => { g with bank := p.2.toNat }) else L.put p.1 p.2) L
    let L := blobs.foldl (fun (L : Live) p => L.putBlob p.1 p.2) L
    let L := L.modLgc (fun g => { g with bankOk := [(L.checkProgram (L.logicBank 0)).1 == 0, (L.checkProgram (L.logicBank 1)).1 == 0] })
    let L := match L.upd.prevTab with
      | some t => { L with eng := { L.eng with tab := t, nextTab := none } }
      | none => L
    { L with upd := { L.upd with
      prevGen := none
      prevTab := none
      replaced := false } }

/-! ### Probation (17 R428, R430) -/

/-- A notice on channel 7: kind, MANIFEST_ID (15 R390; layout log 27). -/
def Live.notice (L : Live) (kind : Nat) : Live :=
  { L with twin := { L.twin with bulk := L.twin.bulk ++ [(7, leBytes 1 kind ++ leBytes 4 (L.getN 0x480004))] } }

/-- The set is confirmed: the previous generation goes; SECVER becomes the floor once every module that runs it has confirmed; node
parts follow (17 R422, R428, R430). -/
def Live.confirmAll (L : Live) (pair : Bool) : Live :=
  let m := L.runningManifest
  let L := { L with upd := { L.upd with
    prevGen := none
    prevTab := none
    replaced := false
    nodeStop := false } }
  let L := (L.put 0x48000F (max (L.getN 0x48000F) (manSecver m) : Nat)).put 0x48000D 0
  let L := L.put 0x480001 (if L.twin.holds && hasKind m 3 then 10 else 8)
  if pair then L.updEv 13 0 [] else L

/-- A set in probation confirms itself (17 R428, R430): provisionally where the partner is still to confirm. -/
def Live.confirmSet (L : Live) : Live :=
  let pair := L.hasPartner
  let L := { L with upd := { L.upd with
    probation := false
    boots := 0 } }
  let L := (L.stageEntry true 7 (leBytes 4 (L.getN 0x480004))).updEv 8 0 []
  let L := if pair then L.notice 4 else L
  if pair && !L.upd.partnerConfirmed then L.put 0x480001 7 else L.confirmAll pair

/-- The partner's confirmation arrives (17 R428): a twin that waits for its turn hands over at the next course boundary; one that is
provisionally confirmed completes the update. -/
def Live.partnerConfirms (L : Live) : Live :=
  let L := { L with upd := { L.upd with partnerConfirmed := true } }
  if L.updState = 7 then L.confirmAll true else L

/-- The partner has fallen back (17 R428, R430): this twin leaves the set too, once it no longer holds the token; a set activated pair at
once falls back at once. -/
def Live.partnerFellBack (L : Live) : Live :=
  if L.upd.running = 0 ∨ L.upd.previous = L.upd.running ∨ !(L.upd.probation || L.updState = 7) then
    { L with upd := { L.upd with turn := false } }
  else { L with upd := { L.upd with back := true } }

/-- Leave the set for the previous one: a new activation entry, or, where none is left, the golden image (17 R428, R430). -/
def Live.leaveSet (L : Live) : Live :=
  let L := (L.put 0x480003 0).updEv 9 2 (leBytes 1 2)
  let prev := L.upd.previous
  L.restoreGen.activateSlot prev false false

/-- At each course boundary: an update whose turn has come hands the token over and then activates; a twin that drives the string waits
until it can, save one whose time in probation is used (17 R428, R430). -/
def Live.updateTurn (L : Live) : Live :=
  let due := (L.upd.turn && L.upd.partnerConfirmed) || L.upd.back
  if !due then L
  else if L.twin.holds ∧ L.healthyPartner then (if L.twin.hoReq then L else L.requestHandover false)
  else if L.upd.back ∧ L.upd.probation ∧ 1800 ≤ L.getN 0x48000A then L.toBoot 4 3
  else if L.twin.holds ∧ !L.stopped ∧ (L.upd.turn ∨ !L.upd.atOnce) then L
  else if L.upd.back then L.leaveSet
  else L.activateSlot (L.inactive + 1) true false

/-- Time in probation so far, s: what is added up and what has passed since. -/
def Live.probationUsed (L : Live) : Nat := L.getN 0x48000A + (L.time.clk - L.upd.tickAt) / 1000000000

/-- The time in probation is added up in an update-stage entry (17 R430). -/
def Live.probationTick (L : Live) : Live :=
  let n := min 1800 L.probationUsed
  { (L.put 0x48000A n).stageEntry true 5 (leBytes 2 n) with upd := { L.upd with tickAt := L.time.clk } }

/-- 1,800 s without confirming: the token is handed over, then the module resets and the ROM selects the previous set (17 R430). -/
def Live.probationOver (L : Live) : Live :=
  let L := L.probationTick
  let L := L.put 0x48000A 1800
  if L.twin.holds ∧ L.healthyPartner then { L.requestHandover false with upd := { L.upd with back := true } }
  else L.toBoot 4 3

/-! ### Node parts (17 R429) -/

/-- The node part of the running set for segment s, where its image differs. -/
def Live.nodePart (L : Live) (s : Nat) : Option Nat :=
  let m := L.runningManifest
  (manRange m).find? (fun i => partKind m i == 3 && partMaker m i == L.getN (segKey s 0x29) && partModel m i == (L.segAt s).model &&
    partVer m i != L.getN (segKey s 0x2A))

/-- The segment whose node comes next. -/
def Live.nextNode (L : Live) : Option Nat :=
  L.fittedSegs.find? (fun s => (L.nodePart s).isSome && !bitOf (L.getN 0x48000D) s && decide (3 ≤ (L.segAt s).link ∧ (L.segAt s).link ≤ 5))

/-- Step 1: the planned bypass; where it is refused the node waits until the string stands in STANDBY. A segment out of A, by no cause or
resting, stays out for the update. -/
def Live.nodeStart (L : Live) (s : Nat) : Live :=
  if L.conv.act.contains s ∧ L.bypassRefused s then L
  else if L.driving ∨ L.mode.st = .standby then
    let L := if L.conv.act.contains s then L.modSeg s (fun g => { g with segCmd := some (3, L.time.mtime) })
      else L.modSeg s (fun g => { g with cause := if g.cause = 0 ∨ g.cause = 3 then 2 else g.cause })
    let L := { L with upd := { L.upd with nodeSeg := some (s, 0, L.time.clk) } }
    (((L.put 0x480001 10).put 0x48000C s).stageEntry false 9 (leBytes 1 s)).updEv 10 0 (leBytes 1 s)
  else L

/-- Step 2: the image in blocks of 64 bytes, then its activation. -/
def Live.nodeSend (L : Live) (s : Nat) : Live :=
  match L.slotAt (L.upd.running - 1), L.nodePart s with
  | some sl, some i =>
    let d := sl.part i
    let L := (List.range ((d.length + 63) / 64)).foldl (fun (L : Live) n => L.request s 0x10 n (padTo 64 (slice d (64 * n) 64))) L
    let L := L.request s 0x11 0 (partDigest sl.manifest i)
    { L with upd := { L.upd with nodeSeg := some (s, 1, L.time.clk) } }
  | _, _ => L

/-- Step 4: a segment that the update took out returns to A. -/
def Live.nodeDone (L : Live) (s : Nat) : Live :=
  let L := if L.driving then L.modSeg s (fun g =>
      { g with segCmd := if g.cause = 2 ∧ !g.excluded then some (2, L.time.mtime) else g.segCmd })
    else L.modSeg s (fun g => { g with cause := if g.cause = 2 then 0 else g.cause })
  let L := { L with upd := { L.upd with nodeSeg := none } }
  (((L.put 0x48000D (setBit (L.getN 0x48000D) s true : Nat)).put 0x48000C 255).stageDone 9).updEv 11 0 (leBytes 1 s)

/-- The node fails bring-up on its new image: it stays bypassed and the others' updates stop. -/
def Live.nodeFail (L : Live) (s : Nat) : Live :=
  let L := { L with upd := { L.upd with nodeSeg := none, nodeStop := true } }
  (((L.put 0x48000C 255).put 0x480001 8).stageDone 9).updEv 12 1 (leBytes 1 s)

/-- One step of the update of the nodes (17 R429). -/
def Live.nodeUpdate (L : Live) : Live :=
  if !L.twin.holds ∨ L.upd.nodeStop ∨ (L.updState ≠ 10 ∧ L.updState ≠ 8) then L
  else match L.upd.nodeSeg with
    | none => (match L.nextNode with
      | some s => L.nodeStart s
      | none => if L.updState = 10 then L.put 0x480001 8 else L)
    | some (s, 0, _) =>
      if L.conv.act.contains s ∨ !segBypassed (L.segAt s) ∨ !(3 ≤ (L.segAt s).link ∧ (L.segAt s).link ≤ 5) then L
      else if (L.nodePart s).isSome then L.nodeSend s
      else { L with upd := { L.upd with nodeSeg := some (s, 2, L.time.clk) } }
    | some (s, 1, _) =>
      if (L.segAt s).req.isSome ∨ !(L.segAt s).reqQ.isEmpty then L
      else { L with upd := { L.upd with nodeSeg := some (s, 2, L.time.clk) } }
    | some (s, _, t) =>
      if (L.nodePart s).isNone ∧ 3 ≤ (L.segAt s).link ∧ (L.segAt s).link ≤ 5 then L.nodeDone s
      else if t + sec 5 < L.time.clk then L.nodeFail s else L

/-! ### Integrator key and flash refresh (17 R422, R432) -/

/-- A first integrator key, in STANDBY or SERVICE. -/
def Live.writeIntKey (L : Live) (k : Bytes) : Except Abort Live :=
  if k.length ≠ 64 then .error abLength
  else if !(L.blobOf 0x480012).isEmpty ∨ !(L.mode.st = .standby ∨ L.mode.st = .service) then .error abState
  else .ok (L.putBlob 0x480012 k)

/-- Age clock at which a flash block was last written. -/
def Live.blockWritten (L : Live) (b : Nat) : Nat := match L.upd.written.find? (fun x => x.1 == b) with | some x => x.2 | none => 0

/-- Five years of module time, ns (365.25 days a year, DEDUCED). -/
def fiveYears : Nat := 1826 * 86400 * 1000000000 + 21600 * 1000000000

/-- A block is written again now. -/
def Live.blockFresh (L : Live) (b : Nat) : Live :=
  { L with upd := { L.upd with
    written := L.upd.written.filter (fun x => x.1 < b) ++ (b, L.flashNow) :: L.upd.written.filter (fun x => b < x.1)
    rewrites := none } }

/-- The refresh of one aged block, its entry naming the block and the CRC-32C of its content, which is free (log 14); `ok`: it reads back against its CRC. Two failed rewrites give event 126 code 15. -/
def Live.refresh (L : Live) (b : Nat) (ok : Bool) : Live :=
  let soon : Bool := match L.upd.refreshAt with | some t => decide (L.time.clk < t + sec 10) | none => false
  if soon ∨ L.flashNow < L.blockWritten b + fiveYears then L
  else
    let L := { L with upd := { L.upd with refreshAt := some L.time.clk } }
    let L := L.stageEntry false 6 (leBytes 2 b ++ leBytes 4 (Config.freeInt L.free).toNat)
    let L := { L with free := L.free + 1 }
    if ok then (((L.blockFresh b).stageDone 6).bump 0x480031 1 16).updEv 14 0 (leBytes 2 b)
    else
      let n := match L.upd.rewrites with | some (x, n) => if x = b then n + 1 else 1 | none => 1
      if 2 ≤ n then ((L.blockFresh b).stageDone 6).updEv 15 2 (leBytes 2 b)
      else { L.stageDone 6 with upd := { L.upd with rewrites := some (b, n), refreshAt := some L.time.clk } }

/-! ### Replay (17 R436 to R438) -/

/-- Objects of a class 1 entry: key, value bytes, after its epoch (log 25). -/
def commitItems : Nat → Bytes → List (Nat × Bytes)
  | 0, _ => []
  | n + 1, b => if b.length < 5 then [] else (le b 0 3, slice b 5 (le b 3 2)) :: commitItems n (b.drop (5 + le b 3 2))

/-- The value of a committed object is written again. -/
def Live.rewrite (L : Live) (x : Nat × Bytes) : Live :=
  match odRow (x.1 / 256) (x.1 % 256) with
  | some r => if r.ty = .dom ∨ r.ty = .oct then L.putBlob x.1 x.2 else L.put x.1 (r.ty.decode x.2)
  | none => L

/-- A node update that a reset or a takeover broke off: the segment stays bypassed, and by its node's IMAGE the image is sent again from
block 0 or bring-up is awaited (17 R431). -/
def Live.resumeNode (L : Live) (s : Nat) : Live :=
  let L := L.modSeg s (fun g => { g with cause := 2 })
  ({ L with upd := { L.upd with nodeSeg := some (s, 0, L.time.clk) } }.put 0x480001 10).put 0x48000C s

/-- What the replay of one entry does before it is marked (16 R408; 17 R431, R432, R438). Checkpoints are complete as written. -/
def Live.replayBody (L : Live) (e : JEntry) : Live :=
  match e.cls with
  | 1 => (commitItems e.body.length (e.body.drop 8)).foldl Live.rewrite L
  | 3 =>
    (match byteAt e.body 0 with
     | 3 => if e.mirrored then L else L.put 0x480001 3
     | 4 =>
       if e.mirrored ∨ L.upd.activation ≠ some e.seq then L
       else (match L.slotAt (byteAt e.body 1 - 1) with
         | some s => if L.upd.running = byteAt e.body 1 ∧ L.upd.probation then L.installSet s else L
         | none => L)
     | 6 => if e.mirrored then L else L.blockFresh (le e.body 1 2)
     | 9 => L.resumeNode (byteAt e.body 1)
     | _ => L)
  | 4 =>
    let s := byteAt e.body 0
    L.modSeg s (fun g => { g with
      cause := byteAt e.body 2
      excluded := g.excluded || byteAt e.body 2 == 1 })
  | 6 => { L with rcd := L.rcd.putImage e.body }
  | _ => L

/-- Replay the incomplete entries of a kind in SEQ order, marking each (17 R436, R437). -/
def Live.replay (L : Live) (p : JEntry → Bool) : Live :=
  (L.jrn.open_.filter p).foldl (fun (L : Live) e => (L.replayBody e).jdone e.seq) L

/-! ### The rows -/

/-- MANIFEST_WRITE (17 R424). -/
def execManifestWrite (sess : Sess) (image : Bytes) (s : State) : Host.Outcome State Fault Refusal :=
  run s (fun L => L.asWrite sess 0x480010 image (Live.belowLevel sess 2) (fun L => L.writeManifest image))

/-- STAGING_BLOCK_WRITE (17 R424). -/
def execStagingBlockWrite (sess : Sess) (image : Bytes) (s : State) : Host.Outcome State Fault Refusal :=
  run s (fun L => L.asWrite sess 0x480011 image (Live.belowLevel sess 2) (fun L => L.writeBlock image))

/-- UPDATE_CMD_VERIFY (17 R425). -/
def execUpdateCmdVerify (sess : Sess) (s : State) : Host.Outcome State Fault Refusal :=
  run s (fun L => L.command sess 2 0x480002 (leBytes 1 1) (fun L => L.cmdVerify))

/-- VERIFICATION_COMPLETE (17 R425). -/
def execVerificationComplete (r : VerifyReport) (s : State) : Host.Outcome State Fault Refusal := run s (fun L => L.verified r)

/-- UPDATE_CMD_ACTIVATE (17 R426 to R428): the command is answered before a reset. -/
def execUpdateCmdActivate (sess : Sess) (s : State) : Host.Outcome State Fault Refusal :=
  run s (fun L => L.command sess 2 0x480002 (leBytes 1 2) (fun L => L.cmdActivateSet (L.levelOf sess)))

/-- UPDATE_CMD_DISCARD (17 R439). -/
def execUpdateCmdDiscard (sess : Sess) (s : State) : Host.Outcome State Fault Refusal :=
  run s (fun L => L.command sess 2 0x480002 (leBytes 1 3) (fun L => L.cmdDiscardSet))

/-- PROBATION_CONFIRM (17 R430): armed in probation while the running is clean; 600 s after it began. -/
def execProbationConfirm (s : State) : Host.Outcome State Fault Refusal :=
  run s (fun L =>
    if !L.upd.probation ∨ L.updState ≠ 6 ∨ !L.healthy ∨ (L.hasPartner && !L.inStep) then L
    else (L.reach (L.upd.cleanAt + sec 600)).confirmSet)

/-- PROBATION_TIME_TICK (17 R430): 60 s after the last. -/
def execProbationTimeTick (s : State) : Host.Outcome State Fault Refusal :=
  run s (fun L => if L.upd.probation then (L.reach (L.upd.tickAt + sec 60)).probationTick else L)

/-- PROBATION_LIMIT (17 R430): once 1,800 s are used. -/
def execProbationLimit (s : State) : Host.Outcome State Fault Refusal :=
  run s (fun L =>
    if L.upd.probation then (L.reach (L.upd.tickAt + sec (1800 - L.getN 0x48000A))).probationOver else L)

/-- NODE_UPDATE_SEGMENT (17 R429). -/
def execNodeUpdateSegment (s : State) : Host.Outcome State Fault Refusal := run s Live.nodeUpdate

/-- INTEGRATOR_KEY_WRITE (17 R422). -/
def execIntegratorKeyWrite (sess : Sess) (key : Bytes) (s : State) : Host.Outcome State Fault Refusal :=
  run s (fun L => L.asWrite sess 0x480012 key (Live.belowLevel sess 3) (fun L => L.orAbort (L.writeIntKey key)))

/-- FLASH_REFRESH_BLOCK (17 R432). -/
def execFlashRefreshBlock (block : Fin 1024) (ok : Bool) (s : State) : Host.Outcome State Fault Refusal :=
  run s (fun L => L.refresh block.val ok)

/-- JOURNAL_CHECKPOINT (17 R433, R435). -/
def execJournalCheckpoint (s : State) : Host.Outcome State Fault Refusal := run s Live.checkpoint

/-- COUNTERS_SAVE_TICK (17 R438 class 5). -/
def execCountersSaveTick (s : State) : Host.Outcome State Fault Refusal := run s Live.saveCounters

end Sys2Proof.Machine
end

