-- ==== Sys2Proof/Machine/Modes.lean ====
section
/-! DEFINITION. Start-up and the module commands: BOOT, SELFTEST, the first claim of the drive token, enable, disable, acknowledge,
SERVICE, QUARRY, reset and restarts (03 R50 to R70; 15 R397). -/

namespace Sys2Proof.Machine

/-! ### BOOT (03 R55) -/

/-- The ROM's choice among golden image (0), slot A (1) and slot B (2), and why the selected set is left, 0 where it is not: 1 probation
boots used, 2 probation time used, 3 it does not verify. A slot whose set no activation entry names is tried from A on (DEDUCED,
log 210); 3 selects the golden image, the set before one that fell back. -/
def Live.selectImage (L : Live) (r : BootReport) : Nat × Nat :=
  let ok := fun (n : Nat) => (n == 1 && r.verifyA) || (n == 2 && r.verifyB)
  let sel := if L.upd.selected = 0 then 1 else L.upd.selected
  let why := if !L.upd.probation then 0 else if 3 ≤ L.upd.boots then 1 else if 1800 ≤ L.getN 0x48000A then 2 else 0
  let want := if why = 0 then sel else L.upd.previous
  if want = 0 ∨ want = 3 then (0, why)
  else if ok want then (want, why)
  else
    let why := if why = 0 ∧ L.upd.probation then 3 else why
    (if ok (3 - want) then (3 - want, why) else (0, why))

/-- A set in probation is left: the previous generation returns, event 126 code 9, the partner is told (17 R428, R430). -/
def Live.fallBack (L : Live) (why : Nat) : Live :=
  let L := L.restoreGen
  let L := { L with upd := { L.upd with
    probation := false
    boots := 0
    back := false } }
  let L := (L.put 0x480001 9).updEv 9 2 (leBytes 1 why)
  L.notice 5

/-- Steps 2 to 4: the image set, its probation boot counted before it runs. A set that does not verify stays the one the last
activation entry names; one that fell back is left for good, and is the previous set then (17 R419, R428, R430). -/
def Live.bootImage (L : Live) (r : BootReport) : Live :=
  let x := L.selectImage r
  let left := if L.upd.selected = 0 then 1 else L.upd.selected
  let id := match L.slotAt (left - 1) with | some s => manId s.manifest | none => 0
  let L := if x.2 ≠ 0 then (L.fallBack x.2).put 0x480007 id else L
  let L := { L with upd := { L.upd with
    running := x.1
    previous := (if x.2 ≠ 0 then left else L.upd.previous)
    selected := (if x.2 = 0 then L.upd.selected else if x.1 ≠ 0 then x.1 else if L.upd.previous ≠ 0 then L.upd.previous else 3)
    cleanAt := L.time.clk
    tickAt := L.time.clk } }
  let L := L.put 0x20000D (if x.1 = 0 then 2 else (x.1 - 1 : Nat))
  let m := L.runningManifest
  let L := if m.isEmpty then L else (L.put 0x480004 (manId m)).put 0x480005 (manVersion m)
  let L := if L.upd.probation then
      let n := L.upd.boots + 1
      (({ L with upd := { L.upd with boots := n } }.put 0x480001 6).put 0x20000E n).updEv 7 0 (leBytes 1 n)
    else if L.updState = 5 then L.put 0x480001 9 else L
  if x.1 = 0 then L.updEv 19 1 [] else L

/-- The record that the valid tally buffer names is rewritten from it (16 R410). -/
def Live.tallyRestore (L : Live) (ok : Bool) : Live :=
  if ok then L
  else
    let t := L.rcd.tally
    let b := L.rcd.slot t.seq
    let b' := b.take 16 ++ leBytes 4 t.rep ++ leBytes 4 t.last ++ slice b 24 36 ++ leBytes 4 t.rcrc
    ({ L with rcd := { L.rcd with
      slots := putSlot L.rcd.slots (t.seq % 65536) b'
      repPending := [] } }.bump 0x460012 1 32).ev 125 1 1 [] (leBytes 4 t.seq)

/-- Step 6: every incomplete entry is carried out and marked, with event 126 code 16 and a checkpoint, and event 125 code 3 where records
were written again (16 R408, R418; 17 R436, R438). -/
def Live.bootReplay (L : Live) : Live :=
  let open_ := L.jrn.open_
  let n := fun (c : Nat) => (open_.filter (fun e => e.cls == c)).length
  let L := L.replay (fun _ => true)
  let L := { L with
    est := { L.est with ctx := L.est.ctx.map (fun (c : Ctx) => { c with blend := false }) }
    mgr := { L.mgr with dispOpen := [] } }
  let L := if n 6 = 0 then L else L.ev 125 3 0 [] (leBytes 2 (n 6))
  let L := (L.put 0x480023 (min 65535 open_.length : Nat)).updEv 16 0 ((List.range 7).flatMap (fun c => leBytes 2 (n (c + 1))))
  L.checkpoint

/-- The capacitance of the hold-up store, held in the range of its object (02 R45, R47). -/
def Live.holdupCheck (L : Live) (uf : Nat) : Live :=
  let L := (L.put 0x200014 (min 5000 uf)).selfBit 6 (decide (uf < 1200))
  if uf < 1200 then L.raisePower 3 2 (leBytes 4 uf) L.tb else L

/-- Step 7: parameters in force, and the stage table, the bedrock law where none is held (07 R172). -/
def Live.bootRestore (L : Live) : Live :=
  let L := { L with ks := { L.ks with
    ctl := L.obj
    atBoot := L.obj } }
  let t := if L.eng.tab.isEmpty then bedrock L.lawSet else recompute L.lawSet L.eng.tab
  { L with eng := { L.eng with
    tab := t
    st := List.replicate 64 {} } }

/-- BOOT (03 R55, R64, R65; 02 R45; 12 R332; 16 R410; 17 R436): every step, in order; the listen of 01 R12 begins. -/
def execBoot (r : BootReport) (s : State) : Host.Outcome State Fault Refusal :=
  run s (fun L =>
    if L.mode.st ≠ .boot ∨ L.mode.booted then L
    else
      let L := ((L.holdupCheck r.holdupUf).bootImage r).tallyRestore r.tallyOk
      let L := L.bootReplay.bootRestore.checkCopies r.copyAOk r.copyBOk
      let L := if L.ks.copyAOk && L.ks.copyBOk then L.selfBit 12 (!L.ks.confirmed) else L
      let L := (L.logicRestart (L.getN 0x20001C == 1 || !r.logicRetainedOk)).put 0x20001C 0
      let L := (L.estRestart (L.getN 0x20001D == 1 || L.est.cold || !r.estRetainedOk) L.est.ctx).put 0x20001D 0
      let L := [0, 1].foldl (fun (L : Live) b => if L.boot (canKey b 0x0A) = 0 then L.setCan b 4 else L) L
      { L with mode := { L.mode with
        booted := true
        listening := true } })

/-- BOOT_COMPLETE (03 R52 T5, T6): the golden image enters SERVICE. -/
def execBootComplete (s : State) : Host.Outcome State Fault Refusal :=
  run s (fun L =>
    if L.mode.st ≠ .boot ∨ !L.mode.booted then L
    else if L.upd.running = 0 then
      let L := L.setState .service 6
      let L := { L with mode := { L.mode with holdOffB := false } }
      (L.setNmt 127).setFast L.restFast
    else L.setState .selftest 5)

/-- DUP_NODE_ID_LISTEN_END (01 R12): 200 ms after BOOT; a module that heard none may talk on the bus from here on. -/
def execDupNodeIdListenEnd (s : State) : Host.Outcome State Fault Refusal :=
  run s (fun L =>
    if !L.mode.listening then L
    else
      let L := L.reach (L.mode.bootClk + ms 200)
      let L := { L with mode := { L.mode with listening := false } }
      if L.mode.dupHeard then L else L.setNmt 127)

/-! ### SELFTEST (03 R56) -/

/-- Tests whose outcome the hardware gives: all but HOLDUP, SAFEPAR, NODEID, TWIN, LINKS, TABLE, LOGIC and TIME. -/
def hardTests : List Nat := [0, 1, 2, 3, 4, 5, 7, 8, 9, 10, 11, 19]

/-- Tests of class C. -/
def classC : List Nat := [0, 1, 2, 3, 4, 5, 7, 8, 9, 10, 13]

/-- Tests of class E. -/
def classE : List Nat := [6, 11, 12, 14, 15, 16, 18, 19]

/-- A fitted segment is short of link state 3 (05 R111). -/
def Live.linksBad (L : Live) : Bool := L.fittedSegs.any (fun s => decide ((L.segAt s).link < 3) || (L.segAt s).link == 7)

/-- The Omine partner reports another node-ID than the twin's (01 R11). -/
def Live.wrongTwin (L : Live) : Bool := L.twin.pair == 4 && L.twin.refused == 1

/-- The bits that go on being evaluated: TWIN and LINKS here; TIME, IMNET and PE_PATH follow their own events (03 R56). -/
def Live.liveTests (L : Live) : Live :=
  let L := if bitOf (L.getN 0x20001A) 15 = L.linksBad then L else L.selfBit 15 L.linksBad
  if bitOf (L.getN 0x20001A) 14 = L.wrongTwin then L else L.selfBit 14 L.wrongTwin

/-- Every self-test result, `hard` being what the hardware tests found. -/
def Live.testResults (L : Live) (hard : Nat) : Live :=
  let L := hardTests.foldl (fun (L : Live) b => L.selfBit b (bitOf hard b)) L
  let L := if bitOf hard 11 ∧ !condHeld L.rcd.conds 110 5 (padTo 8 []) then L.raise 110 5 2 [] L.tripPayload else L
  let L := if bitOf hard 19 then
      let L := { L with saf := { L.saf with insConn := true } }
      if condHeld L.rcd.conds 110 2 (padTo 8 []) then L else L.raise 110 2 2 [] L.tripPayload
    else L
  let L := L.selfBit 13 L.mode.dupHeard
  (L.selfBit 16 (L.table.isEmpty || L.tableCheck L.table == 1)).liveTests

/-- A first claim of the token, with the generation one newer than the newest that the uplinks report (15 R397). -/
def Live.claimFirst (L : Live) : Live :=
  let gens := (L.fittedSegs.filter (fun s => (L.segAt s).valid)).map (fun s => (L.segAt s).tgen)
  let top := gens.foldl (fun (a : Nat) g => if newerGen g a then g else a) (gens.headD 0)
  let L := { L with twin := { L.twin with
    holds := true
    claims := false
    gen := (top + 1) % 256 } }
  (L.setFast L.restFast).dueThresholds

/-- The token at the first entry to STANDBY (15 R397): alone where no valid frame comes from a partner; with one, the lower node-ID where
neither holds, a refused pairing included (DEDUCED, log 219). -/
def Live.firstToken (L : Live) : Live :=
  if L.twin.holds then L
  else if L.twin.pair = 0 then L.claimFirst
  else if L.twin.p.token % 4 = 0 ∧ L.nodeId < 65 then L.claimFirst
  else L

/-- A twin that resynchronised in its own SELFTEST or SERVICE has not taken the pair's state (03 R51): its transfer is made again from
STANDBY (15 R398). -/
def Live.rejoinPair (L : Live) : Live :=
  if L.twin.pair = 2 ∧ !L.twin.holds ∧ L.twin.transfer.isNone then
    { L with twin := { L.twin with transferDue := true, matched := (0, false) } }
  else L

/-- A fast-comparator latch that a reset has left set trips both channels again (10 R255, R259). -/
def Live.latchTrips (L : Live) : Live :=
  if L.saf.fastLatch then (L.trip 4 1 1 true false).trip 4 2 2 true false else L

/-- SELFTEST_COMPLETE (03 R52 T7, R54, R56, R69; 15 R397). The latching relays reconnect once PLUMB has passed.
A failure of class C raises SF-12 and holds the module, which leaves by reset. -/
def execSelftestComplete (failed : Nat) (s : State) : Host.Outcome State Fault Refusal :=
  run s (fun L =>
    if L.mode.st ≠ .selftest ∨ L.mode.listening ∨ L.mode.classCFail then L
    else
      let L := L.testResults failed
      let L := if bitOf failed 5 then L else { L with pins := { L.pins with quarryRelays := false } }
      if classC.any (fun b => bitOf (L.getN 0x20001A) b) then
        let L := (L.raise 107 1 3 [] L.tripPayload).latchCause 12 1
        let L := if L.mode.holdOffB then L.setFast .absent else L
        { L with mode := { L.mode with
          classCFail := true
          holdOffB := false } }
      else
        ((L.enterStandby 7).rejoinPair.firstToken).latchTrips)

/-! ### Commands of 0x2000:0A (03 R57 to R62) -/

/-- Does an interlock refuse an enable (03 R57)? -/
def Live.enableRefused (L : Live) : Bool :=
  classE.any (fun b => bitOf (L.getN 0x20001A) b) || L.unassigned || L.wrongTwin || L.twin.pair == 4 || L.isSet 0x404004 ||
  L.saf.insFault || bitOf (L.getN 0x404002) 5 || L.saf.unmonExpired || L.dbg.halted != 0 || decide (L.startSet.length < 4)

/-- Does the precharge cool-down still run (03 R62)? -/
def Live.cooling (L : Live) : Bool := match L.mode.cooldown with | some t => decide (L.time.clk < t) | none => false

/-- An enable acts, or is discarded for an interlock (03 R57, R59). -/
def Live.actEnable (L : Live) : Live := if L.enableRefused then L.result 3 else L.startPrecharge.result 0

/-- Command 1; without a node-ID every enable is refused (01 R10). -/
def Live.cmdEnable (L : Live) : Live :=
  let held := L.mode.st == .safe || (L.driving && L.mode.seq.isSome) || (L.mode.st == .standby && L.cooling)
  if L.mode.quarryEntry then L.result 2
  else if L.unassigned then L.result 3
  else if held then { L with mode := { L.mode with pendEnable := some (L.time.clk + sec 30) } }.result 1
  else if L.mode.st = .standby then { L with mode := { L.mode with pendEnable := none } }.actEnable
  else L.result 2

/-- Command 2: elsewhere than in PRECHARGE, RUN and DERATED it only cancels a pending enable. -/
def Live.cmdDisable (L : Live) : Live :=
  if L.driving ∧ L.mode.seq.isNone then L.startShutdown.result 0
  else if L.mode.pendEnable.isSome then L.cancelPending 5
  else L.result (if L.driving then 0 else 2)

/-- Every latched cause has met its release condition, and so have a precharge fault and a loss of supply (03 R61; 10 R262). -/
def Live.allReleased (L : Live) : Bool :=
  (List.range 13).all (fun b => !bitOf (L.getN 0x404001) b || L.saf.released.getD b false) &&
  (!L.saf.supplyLoss || (match L.pins.auxSince with | some t => decide (t + sec 1 ≤ L.time.clk) | none => false))

/-- Command 3. -/
def Live.cmdAcknowledge (L : Live) : Live :=
  if L.safeDone ∧ L.getN 0x404002 = 0 ∧ L.saf.obeyed.isNone ∧ L.allReleased then
    let L := L.put 0x404001 0
    let L := { L with saf := { L.saf with
      fastLatch := false
      hazard := false
      precharge := false
      supplyLoss := false
      holdoff := none
      deepUv := false
      released := List.replicate 13 false
      relSince := List.replicate 13 none } }
    (L.enterStandby 14).result 0
  else L.result 2

/-- Command 4: a pending enable is cancelled by SERVICE entry. -/
def Live.cmdEnterService (L : Live) : Live :=
  if (L.mode.st = .standby ∧ !L.mode.quarryEntry) ∨ L.safeDone then
    let had := L.mode.pendEnable.isSome
    let L := L.setState .service 15
    let L := { L with mode := { L.mode with
      seq := none
      pendEnable := none } }
    (L.setFast L.restFast).result (if had then 5 else 0)
  else L.result 2

/-- Command 5: the golden image keeps SERVICE. -/
def Live.cmdLeaveService (L : Live) : Live :=
  if L.mode.st ≠ .service then L.result 2
  else if L.getN 0x20000D = 2 then L.result 3
  else (L.enterStandby 16).rejoinPair.result 0

/-- Command 6 (03 R67). -/
def Live.cmdEnterQuarry (L : Live) : Live :=
  if (L.mode.st ≠ .standby ∧ L.mode.st ≠ .service) ∨ L.mode.quarryEntry then L.result 2
  else if !L.allOpen ∨ L.mgr.lead then L.result 3
  else { L with mode := { L.mode with quarryEntry := true } }.result 0

/-- Command 8. -/
def Live.cmdColdLogic (L : Live) : Live := if L.fromStandby then (L.logicStart true).result 0 else L.result 2

/-- Command 9. -/
def Live.cmdColdEst (L : Live) : Live :=
  if L.mode.st = .standby ∨ L.mode.st = .service then (L.estRestart true L.est.ctx).result 0 else L.result 2

/-- A module command by its code (03 R57); the answer is success whatever its result. -/
def Live.cmdModule (L : Live) (v : Nat) : Live :=
  match v with
  | 1 => L.cmdEnable
  | 2 => L.cmdDisable
  | 3 => L.cmdAcknowledge
  | 4 => L.cmdEnterService
  | 5 => L.cmdLeaveService
  | 6 => L.cmdEnterQuarry
  | 7 => (L.result 0).toBoot 4 1
  | 8 => L.cmdColdLogic
  | _ => L.cmdColdEst

/-- At a course boundary whose latched state is STANDBY a pending enable acts, once no cool-down runs (03 R59, R62). -/
def Live.pendingActs (L : Live) : Live :=
  match L.mode.pendEnable with
  | some t =>
    if L.mode.st ≠ .standby ∨ L.cooling ∨ L.mode.quarryEntry ∨ t ≤ L.time.clk then L
    else { L with mode := { L.mode with pendEnable := none } }.actEnable
  | none => L

/-! ### The rows -/

/-- A module command as its row. -/
def Live.moduleRow (L : Live) (s : Sess) (level code : Nat) (f : Live → Live) : Live :=
  L.command s level 0x20000A (leBytes 1 code) (fun L => (f L, 0))

/-- CMD_ENABLE (03 R57). -/
def execCmdEnable (sess : Sess) (s : State) : Host.Outcome State Fault Refusal := run s (fun L => L.moduleRow sess 1 1 Live.cmdEnable)

/-- CMD_DISABLE (03 R57, R58). -/
def execCmdDisable (sess : Sess) (s : State) : Host.Outcome State Fault Refusal := run s (fun L => L.moduleRow sess 1 2 Live.cmdDisable)

/-- CMD_ACKNOWLEDGE (03 R61). -/
def execCmdAcknowledge (sess : Sess) (s : State) : Host.Outcome State Fault Refusal :=
  run s (fun L => L.moduleRow sess 1 3 Live.cmdAcknowledge)

/-- CMD_ENTER_SERVICE (03 R57). -/
def execCmdEnterService (sess : Sess) (s : State) : Host.Outcome State Fault Refusal :=
  run s (fun L => L.moduleRow sess 2 4 Live.cmdEnterService)

/-- CMD_LEAVE_SERVICE (03 R57). -/
def execCmdLeaveService (sess : Sess) (s : State) : Host.Outcome State Fault Refusal :=
  run s (fun L => L.moduleRow sess 2 5 Live.cmdLeaveService)

/-- CMD_ENTER_QUARRY (03 R57, R67). -/
def execCmdEnterQuarry (sess : Sess) (s : State) : Host.Outcome State Fault Refusal :=
  run s (fun L => L.moduleRow sess 2 6 Live.cmdEnterQuarry)

/-- QUARRY_ENTRY_COMPLETE (03 R52 T17, R66 to R68): the entry is recorded, journal and recorder sealed, the relays set. -/
def execQuarryEntryComplete (s : State) : Host.Outcome State Fault Refusal :=
  run s (fun L =>
    if !L.mode.quarryEntry ∨ (L.mode.st ≠ .standby ∧ L.mode.st ≠ .service) then L
    else
      let L := ((L.setState .quarry 17).seal).setFast .absent
      { L with
        pins := { L.pins with
          contactA := false
          contactB := false
          elementOpen := false
          elemA := false
          elemB := false
          twinXLow := false
          xHeld := false
          xLowAt := none
          insRelay := false
          insVolt := 0
          phyOn := false
          quarryRelays := true }
        mode := { st := .quarry } })

/-- CMD_RESET (03 R52 T4, R57): answered, then the reset. -/
def execCmdReset (sess : Sess) (s : State) : Host.Outcome State Fault Refusal :=
  run s (fun L => L.moduleRow sess 2 7 (fun L => (L.result 0).toBoot 4 1))

/-- CMD_COLD_RESTART_LOGIC (03 R57, R64). -/
def execCmdColdRestartLogic (sess : Sess) (s : State) : Host.Outcome State Fault Refusal :=
  run s (fun L => L.moduleRow sess 2 8 Live.cmdColdLogic)

/-- CMD_COLD_RESTART_ESTIMATOR (03 R57, R65). -/
def execCmdColdRestartEstimator (sess : Sess) (s : State) : Host.Outcome State Fault Refusal :=
  run s (fun L => L.moduleRow sess 2 9 Live.cmdColdEst)

/-- PENDING_ENABLE_EXPIRY (03 R59): 30 s after its commit. -/
def execPendingEnableExpiry (s : State) : Host.Outcome State Fault Refusal :=
  run s (fun L => match L.mode.pendEnable with
    | some t => { L.reach t with mode := { (L.reach t).mode with pendEnable := none } }.result 4
    | none => L)

/-- PRECHARGE_COOLDOWN_END (03 R62). -/
def execPrechargeCooldownEnd (s : State) : Host.Outcome State Fault Refusal :=
  run s (fun L => match L.mode.cooldown with
    | some t => { L.reach t with mode := { (L.reach t).mode with cooldown := none } }
    | none => L)

/-- CYCLIC_DIAGNOSTIC (10 R255): a failed one is SF-12 of its channel.
An ECC error that cannot be corrected is reported by this row too, as a diagnostic of its channel that failed: no row of
its own brings it (DEDUCED, log 189). -/
def execCyclicDiagnostic (okA okB : Bool) (s : State) : Host.Outcome State Fault Refusal :=
  runIn 5 s (fun L =>
    let L := if okA then L else L.sf12 1
    if okB then L else L.sf12 2)

end Sys2Proof.Machine
end

