-- ==== Sys2Proof/Machine/TwinOps.lean ====
section
/-! DEFINITION. Leaving step and the twin commands (15 R391, R396 to R400, R403). -/

namespace Sys2Proof.Machine

/-- The in-step state ends and a state transfer is due; a handover asked for that the partner has not begun to claim lapses, save the one
that gives up FAST_OFF and the one before SF-12 (15 R400): event 121 code 2 with its cause, 1 pair check, 2 commit, 3 command, 4 partner
lost, 5 the partner left (15 R391, R396, R398, R403; causes log 27). -/
def Live.leaveStep (L : Live) (cause : Nat) : Live :=
  if !L.inStep then L
  else
    let L := { L with twin := { L.twin with
      pair := 2
      transferDue := true
      wasInStep := false
      matched := (0, false)
      mism := [0, 0, 0]
      transfer := none
      image := none
      inputs := none
      heldCommits := []
      heldSweeps := []
      due := none
      hoReq := L.twin.hoReq && (L.twin.hoCount.isSome || L.twin.hoRelease || L.twin.hoSf12) } }
    (L.breakClean).twinEv 121 2 1 (leBytes 1 cause)

/-- Twin commands (15 R400, R403): 1 hand over, 2 resynchronise now. -/
def Live.cmdTwin (L : Live) (v : Nat) : Except Abort Live :=
  if v = 1 then
    if !L.mayHandover then .error abState
    else .ok (if L.twin.holds then L.requestHandover false else L)
  else if v = 2 then (if L.inStep then .ok (L.leaveStep 3) else .error abState)
  else .error abRange

/-- TWIN_CMD_HANDOVER (15 R400, R403). -/
def execTwinCmdHandover (sess : Sess) (s : State) : Host.Outcome State Fault Refusal :=
  run s (fun L => L.command sess 2 0x4A0004 (leBytes 1 1) (fun L => L.orAbort (L.cmdTwin 1)))

/-- TWIN_CMD_RESYNC (15 R403). -/
def execTwinCmdResync (sess : Sess) (s : State) : Host.Outcome State Fault Refusal :=
  run s (fun L => L.command sess 2 0x4A0004 (leBytes 1 2) (fun L => L.orAbort (L.cmdTwin 2)))

end Sys2Proof.Machine
end

