-- ==== Sys2Proof/Machine/Commit.lean ====
section
/-! DEFINITION. Step 2 of a course boundary: the writes, transactions and commands of the course, checked and applied (01 R18, R20;
07 R162, R163; 12 R319 to R334; 15 R391). -/

namespace Sys2Proof.Machine

/-- One request of a commit: a plain write or a whole transaction. -/
structure Req where
  /-- Session that wrote it. -/
  sess : Sess
  /-- It arrived through the partner. -/
  via : Bool
  /-- Its transaction. -/
  txn : Option Txn
  /-- Sequence under which it was forwarded. -/
  fwd : Option Nat
  /-- Objects and values, in order. -/
  items : List (Nat × Bytes)
  /-- Output map entry that wrote it (14 R372). -/
  out : Option Nat := none
  /-- Decided by the active twin: not checked again (15 R391). -/
  decided : Bool := false
  /-- Level of its session when it arrived (12 R317). -/
  level : Nat := 0
  /-- Abort code it has been answered with already, as a row of its own (log 4). -/
  done : Option Nat := none

/-! ### The requests of the course -/

/-- Pending writes, those of one transaction together. -/
def groupPend (ts : List Txn) : List Pend → List Req
  | [] => []
  | p :: ps =>
    let rest := groupPend ts ps
    match p.txn.bind (fun n => ts.find? (fun t => t.num == n)), rest with
    | some t, r :: rs =>
      if r.txn = some t then { r with items := (p.key, p.val) :: r.items } :: rs
      else { sess := p.sess, via := p.via, txn := some t, fwd := p.fwd, items := [(p.key, p.val)], level := p.level } :: rest
    | t, _ =>
      { sess := p.sess, via := p.via, txn := t, fwd := p.fwd, items := [(p.key, p.val)], level := p.level, done := p.done } :: rest

/-- The logic engine's output writes, which come first: they were due before the boundary (14 R372). -/
def Live.logicRequests (L : Live) : List Req :=
  L.lgc.writes.map (fun (w : Nat × Nat × Bytes) =>
    { sess := 0, via := false, txn := none, fwd := none, items := [(w.2.1, w.2.2)], out := some w.1, level := 2 })

/-- The requests that arrived, in order. -/
def Live.ownRequests (L : Live) : List Req := groupPend L.ks.txns L.ks.pend

/-- A mirrored request that its verdict commits: a transaction's own entries, without those of twin-local objects, which never reach
the other twin (15 R393). -/
def mirroredReq (p : Pend) (n : Nat) : Req :=
  let r : Req := { sess := p.sess, via := true, txn := none, fwd := some n, items := [(p.key, p.val)], decided := true, level := p.level }
  if p.key = 0x210010 then
    match parseTxn p.val with
    | some (flags, tag, base, es) =>
      { r with
        txn := some { num := 0, sess := p.sess, flags := flags, tag := tag, base := base, via := true }
        items := es.filter (fun e => !isTwinLocalWrite e.1) }
    | none => { r with items := [] }
  else r

/-! ### Values -/

/-- An operation that answers an abort code. -/
def orCode (x : Live × Abort) : Except Abort Live := if x.2 = 0 then .ok x.1 else .error x.2

/-- Does the module drive a string (01 R14, R16)? -/
def Live.hasString (L : Live) : Bool := !L.isManager || L.isSet 0x200005

/-- The data rate of a bus: above 2 Mbit/s its transmitter delay compensation is forced to 1 (11 R287). -/
def Live.putDataRate (L : Live) (idx : Nat) (x : Int) : Live :=
  let L := L.put (idx * 256 + 2) x
  if 2000 < x then L.put (idx * 256 + 5) 1 else L

/-- One value, apart from the stage table (01 R18; 12 R324, R329; 14 R375; 08 R205; 17 R421 to R424; 11 R301). -/
def Live.applyValue (L : Live) (s : Sess) (k : Nat) (v : Bytes) : Except Abort Live :=
  match odRow (k / 256) (k % 256) with
  | none => .error abSub
  | some r =>
    let x := r.ty.decode v
    if isSafetyParam k then L.editWrite s k x
    else if 0x320001 ≤ k ∧ k ≤ 0x320023 ∧ k ≠ 0x320002 ∧ 1 ≤ L.chi.st ∧ L.chi.st ≤ 3 then .error abState
    else if (k = 0x300002 ∨ k = 0x300003) ∧ L.getN 0x200007 = 0 ∧ L.hasString then .error abSource
    else match k with
    | 0x100300 => if x = 0 then .ok { L with rcd := { L.rcd with history := [] } } else .error abRange
    | 0x380010 => L.writeTable 0 v
    | 0x380011 => L.writeTable 1 v
    | 0x440018 => L.cmdImage 0 v
    | 0x440019 => L.cmdImage 1 v
    | 0x480010 => orCode (L.writeManifest v)
    | 0x480011 => orCode (L.writeBlock v)
    | 0x480012 => L.writeIntKey v
    | 0x440021 => .ok ((L.putBlob k v).modLgc (fun g => { g with written := [] }))
    | 0x500024 => .ok (if x = L.get k then L else (L.put k x).startPort none)
    | 0x201002 => .ok (L.putDataRate 0x2010 x)
    | 0x201102 => .ok (L.putDataRate 0x2011 x)
    | 0x201005 => .ok (L.put k (if 2000 < L.getN 0x201002 then 1 else x))
    | 0x201105 => .ok (L.put k (if 2000 < L.getN 0x201102 then 1 else x))
    | _ => .ok (if r.ty = .dom ∨ r.ty = .oct then L.putBlob k v else L.put k x)

/-- An identifier the message range may not contain (14 R374). -/
def Live.forbidden (L : Live) (id : Nat) : Bool :=
  let m := id % 128
  let f := id / 128
  id == 0 || (0x101 ≤ id && id ≤ 0x180) || id == 0x7E4 || id == 0x7E5 || id == L.getN 0x220010 || id == L.getN 0x220011 ||
  (((1 ≤ m && m ≤ 33) || (65 ≤ m && m ≤ 97) || (120 ≤ m && m ≤ 127)) && (f == 1 || (3 ≤ f && f ≤ 12) || f == 14)) ||
  (L.getN 0x500006 < id && id ≤ L.getN 0x500006 + 33) || id == L.getN 0x500007 || id == L.getN 0x500008 || id == L.getN 0x500008 + 1

/-- May the range run from lowest to highest identifier? One of extended identifiers meets no other service (14 R374). -/
def Live.rangeOk (L : Live) (lo hi : Nat) : Bool :=
  decide (lo ≤ hi) && (bitOf lo 29 || (List.range 2048).all (fun id => !(decide (lo ≤ id ∧ id ≤ hi)) || !(L.forbidden id)))

/-- Does a written value agree with the other objects its range names (06 R128; 08 R227; 09 R236, R244; 11 R286, R287, R309; 13 R355;
14 R360, R374)? -/
def Live.crossOk (L : Live) (k : Nat) : Bool :=
  let g := L.get
  let n := L.getN
  if k = 0x3A0008 ∨ k = 0x3A0009 ∨ k = 0x3A000A then
    decide (g 0x3A0008 < g 0x3A0009 ∧ g 0x3A0009 < g 0x3A000A ∧ g 0x3A000A < g 0x402004)
  else if 0x35000C ≤ k ∧ k ≤ 0x35000F then decide (g 0x35000F < g 0x35000E ∧ g 0x35000E < g 0x35000D ∧ g 0x35000D < g 0x35000C)
  else if 0x350010 ≤ k ∧ k ≤ 0x350013 then decide (g 0x350010 < g 0x350011 ∧ g 0x350011 < g 0x350012 ∧ g 0x350012 < g 0x350013)
  else if k = 0x500007 then
    let a := n 0x500007
    !(decide (n 0x500006 < a ∧ a ≤ n 0x500006 + 33)) && a != n 0x500008 && a != n 0x500008 + 1
  else if k = 0x500008 then
    let a := n 0x500008
    [a, a + 1].all (fun x => !(decide (n 0x500006 < x ∧ x ≤ n 0x500006 + 33)) && x != n 0x500007)
  else if k = 0x300002 then decide ((g k).natAbs ≤ (g 0x401101).natAbs)
  else if k = 0x220010 ∨ k = 0x220011 then decide (g 0x220010 ≠ g 0x220011)
  else if k = 0x201001 ∨ k = 0x201002 then ratesOk (n 0x201001) (n 0x201002)
  else if k = 0x201101 ∨ k = 0x201102 then ratesOk (n 0x201101) (n 0x201102)
  else if k = 0x20100A ∨ k = 0x20110A then L.isSet 0x20100A || L.isSet 0x20110A
  else if k = 0x44000A then decide (n 0x440008 ≤ n k * 80000 - 6000)
  else if k = 0x440022 ∨ k = 0x440023 then L.rangeOk (n 0x440022) (n 0x440023)
  else if k = 0x320005 ∨ k = 0x320006 then decide (n 0x320006 ≤ n 0x320005)
  else if k = 0x32000B ∨ (0x320014 ≤ k ∧ k ≤ 0x32001B) then
    decide (((List.range (n 0x32000B)).map (fun i => n (0x320014 + i))).foldl (· + ·) 0 ≤ 10000)
  else true

/-! ### The fold over the requests -/

/-- What the requests so far have done. -/
structure Fold where
  /-- The state with their values. -/
  L : Live
  /-- Objects claimed in this course (12 R321). -/
  claimed : List Nat := []
  /-- Stage writes: stage, sub-index, value (07 R163). -/
  stages : List (Nat × Nat × Int) := []
  /-- Commands so far: those of the output map stand ahead of the sessions' (14 R372). -/
  cmds : Nat := 0
  /-- Stages with a locked field written below its level (07 R162, R163 result 4). -/
  locked : List Nat := []
  /-- Requests with their abort code and refused entry, newest first. -/
  res : List (Req × Abort × Nat) := []

/-- A stage write of a session: what is locked to it is noted for the table check; a gain beyond R174 is refused. -/
def Fold.stage (c : Fold) (r : Req) (i sub : Nat) (x : Int) : Except Abort Fold :=
  let cls := coefClass i (sub - 0x0A)
  let lock := if sub ≤ 8 then decide (i < 40) && !(sub == 4 && (i == 10 || i == 20))
    else cls == 3 || (cls == 1 && decide (r.level < 3))
  let kp := (real32 x.toNat).getD 0
  let l := q (c.L.get 0x401201) / 1000000000
  if i = 15 ∧ sub = 0x0A ∧ 50000 * 2 * Config.pi * l < kp * 4 * q c.L.fittedSegs.length then .error abRange
  else .ok { c with
    stages := c.stages ++ [(i, sub, x)]
    locked := if lock then i :: c.locked else c.locked }

/-- A value of the logic engine: the analogue values, or an output map entry. -/
def Live.outputValue (L : Live) (k : Nat) (v : Bytes) : Except Abort Live :=
  if k = 0x440030 ∨ k = 0x440031 then .ok (L.put k (toSigned 32 (leNat v))) else L.applyValue 0 k v

/-- What refuses an output map entry's write, of a value, a stage object or a command, at level L2 (14 R357, R372; 12 R319). -/
def Live.outputRefused (L : Live) (r : Req) (k : Nat) (v : Bytes) : Option Abort :=
  if r.out.isNone ∨ k = 0x440030 ∨ k = 0x440031 then none else L.arrivalAt 2 (k / 256) (k % 256) v

/-- One value of a request. `stageOk`: the stage writes of the course pass as one table. -/
def Fold.value (stageOk : Bool) (c : Fold) (r : Req) (k : Nat) (v : Bytes) : Except Abort Fold :=
  if 0x3100 ≤ k / 256 ∧ k / 256 ≤ 0x313F then
    if !stageOk then .error abStage
    else match odRow (k / 256) (k % 256) with
      | some o => c.stage r (k / 256 - 0x3100) (k % 256) (o.ty.decode v)
      | none => .error abSub
  else match (if r.out.isSome then c.L.outputValue k v else c.L.applyValue r.sess k v) with
    | .ok L => .ok { c with L := L }
    | .error e => if r.decided then .ok { c with L := c.L.rewrite (k, v) } else .error e

/-- The values of a request in order; the position and code of the first that fails. -/
def Fold.values (stageOk : Bool) (r : Req) : Nat → List (Nat × Bytes) → Fold → Except (Nat × Abort) Fold
  | _, [], c => .ok c
  | i, it :: rest, c =>
    match c.L.outputRefused r it.1 it.2 with
    | some e => .error (i, e)
    | none =>
    if isCommandObject it.1 then Fold.values stageOk r (i + 1) rest c
    else match c.value stageOk r it.1 it.2 with
      | .ok c => Fold.values stageOk r (i + 1) rest c
      | .error e => .error (i, e)

/-- Position of the first item that a test picks, counted from 1. -/
def firstPos (p : Nat → Bool) : Nat → List (Nat × Bytes) → Option Nat
  | _, [] => none
  | i, it :: rest => if p it.1 then some i else firstPos p (i + 1) rest

/-- Epoch at which an object was last committed, 0 for never (12 R327). -/
def Live.committedAt (L : Live) (k : Nat) : Nat := match L.ks.objEpoch.find? (fun x => x.1 == k) with | some x => x.2 | none => 0

/-! ### Commands -/

/-- A command by its object (12 R321); `level` is that of its session when it arrived (R317), `due` the module time of R80, `drop` is FLAGS[1] of its transaction. -/
def Live.applyCommand (L : Live) (s : Sess) (level k : Nat) (v : Bytes) (due : Nat) (drop decided : Bool) :
    Live × Abort :=
  let n := leNat v
  let f := fun (x : Except Abort Live) => match x with
    | .ok L' => (L', (0 : Nat))
    | .error e => (L, e)
  let idx := k / 256
  if 0x3400 ≤ idx ∧ idx ≤ 0x340F then
    (if k % 256 = 0x0A then f (L.cmdSegment (idx - 0x3400) n due)
     else if k % 256 = 0x2D then f (L.cmdNode (idx - 0x3400) n)
     else f (L.cmdReplaced (idx - 0x3400) n))
  else match k with
  | 0x20000A => (if n = 7 then L.result 0 else L.cmdModule n, 0)
  | 0x201009 => f (L.cmdCan 0 n)
  | 0x201109 => f (L.cmdCan 1 n)
  | 0x320024 => f (L.cmdChisel n due)
  | 0x32010C => f (L.cmdCapture n due)
  | 0x350030 => f (L.cmdEst n)
  | 0x380006 => (match (L.noteCheck n).cmdTable n due with
    | .ok L' => (L', 0)
    | .error e => (L.noteCheck n, e))
  | 0x400003 => f (L.cmdDiscardEdit s)
  | 0x400004 => L.cmdConfirm s n
  | 0x404008 => f (L.cmdSafety n)
  | 0x440002 =>
    (match n with
     | 1 => f L.cmdLogicStart
     | 2 => f L.cmdLogicStop
     | 3 => L.cmdActivateLogic drop
     | 4 => f (L.cmdClearForces s)
     | _ => f L.cmdEraseInactive)
  | 0x440013 => f (L.cmdSetForce s v)
  | 0x440014 => f (L.cmdReleaseForce s n)
  | 0x46000D => f (if n = 1 then L.cmdFreeze s else if n = 2 then L.cmdRelease s else L.cmdClear s)
  | 0x480002 => (if n = 1 then L.cmdVerify else if n = 2 then L.cmdActivateSet (if decided then 4 else level) else L.cmdDiscardSet)
  | 0x4A0004 => f (L.cmdTwin n)
  | 0x4C0003 =>
    if decided then ((L.touch s).modSession s (fun x => { x with level := byteAt v 0 }), 0) else L.cmdAuth s v
  | 0x4C0004 => f (L.cmdLower s n)
  | 0x50002A => f (L.cmdTime s n)
  | _ => L.cmdDebug s k v

/-- Does a command's own rule answer with an abort code, so that it can refuse its transaction (12 R327)? -/
def refusesTxn (k : Nat) : Bool := k != 0x20000A

/-- A transaction's commands judged in entry order against the state with its values: the first that fails, and the state it leaves. -/
def Live.tryCommands (L : Live) (s : Sess) (level due : Nat) (drop : Bool) : Nat → List (Nat × Bytes) → Option (Nat × Abort × Nat × Live)
  | _, [] => none
  | i, it :: rest =>
    if !isCommandObject it.1 then L.tryCommands s level due drop (i + 1) rest
    else
      let x := L.applyCommand s level it.1 it.2 due drop false
      if x.2 ≠ 0 ∧ refusesTxn it.1 then some (i, x.2, it.1, x.1) else x.1.tryCommands s level due drop (i + 1) rest

/-- A refused command of a transaction leaves only its own record: an authentication failure, the reason of a refused confirmation, the
event of a refused online change, the result of a table's check (08 R205; 12 R316, R331; 14 R385; DEDUCED). -/
def Live.afterRefusal (L : Live) (s : Sess) (k : Nat) (e : Abort) (sim : Live) : Live :=
  if k = 0x4C0003 then L.authFail s
  else if k = 0x440002 ∧ (e = abState ∨ e = abForce) then L.lgcEv 9 5 1 [] (leBytes 4 e)
  else if k = 0x380006 then L.put 0x380007 (sim.get 0x380007)
  else if k = 0x400004 then
    ((L.put 0x400007 (sim.get 0x400007)).put 0x40000A (sim.get 0x40000A)).ev 8 2 1 []
      (leBytes 1 (sim.getN 0x400007) ++ leBytes 4 (sim.getN 0x40000A))
  else L

/-- FLAGS of a request, 0 for a plain write. -/
def Req.flags (r : Req) : Nat := match r.txn with | some t => t.flags | none => 0

/-- Note what becomes of a request: abort code, 0 where it stands, and refused entry. -/
def Fold.refused (c : Fold) (r : Req) (code : Abort) (pos : Nat) : Fold := { c with res := (r, code, pos) :: c.res }

/-- Does a capture channel that names a stage name a lane of a CAPTURE stage of the table as the commit makes it (07 R189)? -/
def Fold.channelOk (c : Fold) (k : Nat) : Bool :=
  let w := c.L.getN k
  if 0x320101 ≤ k ∧ k ≤ 0x320104 ∧ 64 ≤ w % 256 ∧ w % 256 < 128 then
    let g := (c.L.committedTab.getD (w % 256 - 64) {}).withFields (writesOf c.stages (w % 256 - 64))
    g.ty == 11 && decide (w / 256 % 4 < g.lanes)
  else true

/-- Position of the entry whose command is beyond the 16 of a course, `n` of them having come before (12 R321, 14 R372). -/
def beyondLimit (n i : Nat) : List (Nat × Bytes) → Option Nat
  | [] => none
  | it :: rest =>
    if isCommandObject it.1 then (if 16 ≤ n then some i else beyondLimit (n + 1) (i + 1) rest) else beyondLimit n (i + 1) rest

/-- A transaction's entries are being applied, or no longer (12 R326). -/
def Live.tagged (L : Live) (t : Option Txn) : Live := { L with ks := { L.ks with tag := t.map (·.tag) } }

/-- One request: its conflicts, its base epoch, its values and the commands of a transaction (12 R321, R327). It claims its objects
whatever becomes of it. -/
def Fold.request (stageOk : Bool) (due : Nat) (c : Fold) (r : Req) : Fold :=
  let keys := (r.items.map (·.1)).filter (fun k => !isCommandObject k)
  let claimed := fun (k : Nat) => !isCommandObject k && c.claimed.contains k
  let stale := fun (k : Nat) => match r.txn with
    | some t => bitOf t.flags 0 && decide (t.base < c.L.committedAt k)
    | none => false
  let c' := { c with
    claimed := c.claimed ++ keys
    cmds := c.cmds + (r.items.filter (fun (it : Nat × Bytes) => isCommandObject it.1)).length }
  match r.done, (if r.decided then none else beyondLimit c.cmds 1 r.items) with
  | some e, _ => c'.refused r e 0
  | none, some i => c'.refused r abLimit i
  | none, none =>
  match (if r.decided then none else firstPos claimed 1 r.items), (if r.decided then none else firstPos stale 1 r.items) with
  | some i, _ => c'.refused r abConflict i
  | none, some i => c'.refused r abStale i
  | none, none =>
    match Fold.values stageOk r 1 r.items { c' with L := c'.L.tagged r.txn } with
    | .error (i, e) => c'.refused r e i
    | .ok d =>
      match (if r.decided then none else firstPos (fun k => !d.L.crossOk k || !d.channelOk k) 1 r.items) with
      | some i => c'.refused r abRange i
      | none =>
        match (if r.txn.isNone ∨ r.decided then none
            else d.L.tryCommands r.sess r.level due (bitOf r.flags 1) 1 r.items) with
        | some (i, e, k, sim) => { c' with L := ((c'.L.tagged r.txn).afterRefusal r.sess k e sim).tagged none }.refused r e i
        | none => { d with L := d.L.tagged none }.refused r 0 0

/-- All requests, in order. -/
def Live.foldRequests (L : Live) (stageOk : Bool) (due : Nat) (rs : List Req) : Fold := rs.foldl (Fold.request stageOk due) { L := L }

/-! ### The stage table -/

/-- The settings by which a commit's table is judged, as they stand after it: with the safety set that a confirmation among its commands
makes active (07 R163; 12 R331). -/
def Fold.judge (c : Fold) : Live :=
  let confirms := c.res.any (fun (x : Req × Abort × Nat) => x.2.1 == 0 && x.1.items.any (fun (it : Nat × Bytes) =>
    it.1 == 0x400004 && x.1.done.isNone && (x.1.decided || c.L.confirmReason x.1.sess (leNat it.2) == (0, 0))))
  match c.L.ks.edit with
  | some e => if confirms then c.L.withEdit e else c.L
  | none => c.L

/-- The values of a commit: where the table would fail its check, every stage write of the course is refused and the rest is
decided again without them (07 R163). -/
def Live.commitValues (L : Live) (due : Nat) (rs : List Req) : Fold :=
  let c := L.foldRequests true due rs
  if c.stages.isEmpty then c
  else
    let J := c.judge
    let p := J.lawSet
    let old := c.L.committedTab
    let t := withStages p old c.stages
    match J.tableFails c.locked t with
    | none => { c with L := ((c.L.noteTable none).commitTab t).zeroCoefs p old t c.stages }
    | some (r, i) =>
      let d := L.foldRequests false due rs
      let L := d.L.noteTable (some (r, i))
      { d with L := (L.ev 48 2 1 [] (leBytes 1 r ++ leBytes 1 i ++ leBytes 8 L.epoch)).tabRefused true }

/-! ### The commands of the commit -/

/-- The commands of the requests that stand, in order of arrival, after all values (12 R321, R327): a plain command's code is its
answer. What a row of its own has done is not done again. -/
def runCommands (due : Nat) : List (Req × Abort × Nat) → Live → Live × List (Req × Abort × Nat)
  | [], L => (L, [])
  | (r, code, pos) :: rest, L =>
    if code ≠ 0 ∨ r.done.isSome then
      let x := runCommands due rest L
      (x.1, (r, code, pos) :: x.2)
    else
      let y := r.items.foldl (fun (a : Live × Abort) it =>
        if isCommandObject it.1 then a.1.applyCommand r.sess r.level it.1 it.2 due (bitOf r.flags 1) r.decided else a)
        (L.tagged r.txn, 0)
      let x := runCommands due rest (y.1.tagged none)
      (x.1, (r, (if r.txn.isSome ∨ r.decided then 0 else y.2), pos) :: x.2)

/-- Debug writes of a commit come before any step committed with it (18 R448). -/
def Live.vmWrites (L : Live) (rs : List Req) : Live :=
  (rs.flatMap (·.items)).foldl (fun (L : Live) it => if it.1 = keyVm then L.writeVm it.2 else L) L

/-- The module reset that a commit carries, which takes place once it stands (03 R57). -/
def resets (res : List (Req × Abort × Nat)) : Bool :=
  res.any (fun x => x.2.1 == 0 && x.1.done.isNone && x.1.items.any (fun it => it.1 == 0x20000A && leNat it.2 == 7))

end Sys2Proof.Machine
end

