-- ==== Sys2Proof/Machine/StateImage.lean ====
section
/-! DEFINITION. The state image of a state transfer (15 R398): the spec lists what it holds and gives no layout, so that its bytes and the
reading of them are free values of Config. -/

namespace Sys2Proof.Config

/-- The bytes of the image that the active twin latches. Log 46. -/
opaque stateImage : Machine.Live → Bytes
/-- What an image received holds, none where it is not an image. Log 46. -/
opaque imageContent : Bytes → Option Machine.Live

end Sys2Proof.Config
end

