-- ==== Sys2Proof/Machine/Boundary.lean ====
section
/-! DEFINITION. The course boundary: the latch, the commit, its snapshot, the record to the standby, the answers, and what else falls on a
boundary (01 R20 to R23; 12 R319 to R327; 15 R391, R398). -/

namespace Sys2Proof.Machine

/-! ### The ending course (01 R20, step 1) -/

/-- The boundary is reached: the next multiple of the course period, or the last one where a step of module time has passed it
(01 R21). -/
def Live.toBoundary (L : Live) : Live :=
  let last := L.time.mtime / L.course * L.course
  let b := if L.time.lastBoundary < last then last else last + L.course
  let L := L.pass (b - L.time.mtime)
  { L with time := { L.time with lastBoundary := b } }

/-- A lone twin whose contacts have not been tested for the interval (10 R264). -/
def Live.loneOverdue (L : Live) : Live :=
  if !L.loneLate then L
  else L.raise 108 3 1 [] L.tripPayload

/-- What the course reports of itself, with the loop current read back, and what begins anew with the next (07 R154, R179, R193; 11 R296; 03 R56). -/
def Live.closeCourse (L : Live) : Live :=
  let e := L.eng
  let L := (L.put 0x300038 (sQ 2000000 (e.resMax.1 * 1000))).put 0x300039 (sQ 2000000 (e.resMax.2 * 1000))
  let L := L.put 0x30003C (2 * (ofBits [e.above.1, e.above.2]) + 16 * min 15 e.faultMax : Nat)
  let L := { L with
    eng := { L.eng with
      resMax := (0, 0)
      faultMax := 0
      ovfRep := false
      warned := (e.warned.1 && e.above.1, e.warned.2 && e.above.2)
      above := (false, false) }
    com := { L.com with
      logicFull := false
      bus := L.com.bus.map (fun (c : Can) => { c with
        rx := []
        fullRep := false }) } }
  let L := if L.mode.st = .standby then L.liveTests else L
  L.loneOverdue.senseLoop

/-! ### The commit (01 R20, steps 2 and 3) -/

/-- Is this instant a bay epoch (01 R22)? -/
def Live.atBayEpoch (L : Live) : Bool := L.time.lastBoundary % 100000000 == 0

/-- The nonce of a commit; those of the last second stand (12 R316). -/
def Live.drawNonce (L : Live) (epoch : Nat) : Live :=
  { L with
    ks := { L.ks with
      nonces := (epoch, L.time.clk, Config.nonce L.free) :: L.ks.nonces.filter (fun n => decide (L.time.clk ≤ n.2.1 + sec 1)) }
    free := L.free + 1 }

/-- Objects and values that a commit wrote: those of the requests that stand, and the safety set where it was confirmed. -/
def committedItems (res : List (Req × Abort × Nat)) (confirmed : Store) : List (Nat × Bytes) :=
  ((res.filter (fun x => x.2.1 == 0)).flatMap (fun x => x.1.items)).filter (fun it => !isCommandObject it.1 && !isSafetyParam it.1) ++
  confirmed.filterMap (fun p => (odRow (p.1 / 256) (p.1 % 256)).map (fun r => (p.1, r.ty.encode p.2)))

/-- The body of a keystone commit's journal entry, what fits into it (17 R434, R438; layout log 25). -/
def commitBody (epoch : Nat) (its : List (Nat × Bytes)) : Bytes :=
  its.foldl (fun (b : Bytes) it =>
    let x := leBytes 3 it.1 ++ leBytes 2 it.2.length ++ it.2
    if b.length + x.length ≤ 65535 then b ++ x else b) (leBytes 8 epoch)

/-- Output map entries refused at the commit (14 R364, R366, R372). -/
def Live.outputResults (L : Live) (res : List (Req × Abort × Nat)) : Live :=
  let bad := res.filterMap (fun x => match x.1.out with
    | some e => if x.2.1 = 0 then none else some (e, x.2.1)
    | none => none)
  let L := L.modLgc (fun g => { g with
    outRef := bad.foldl (fun (n : Nat) x => setBit n x.1 true) 0 })
  let L := if bad.isEmpty then L else L.put 0x44000E (setBit (L.getN 0x44000E) 4 true : Nat)
  bad.foldl (fun (L : Live) x => L.lgcEv 9 11 1 [] (leBytes 1 x.1 ++ leBytes 4 x.2)) L

/-- Requests of sessions that this commit decides: those that stand, or that are refused. -/
def countRes (res : List (Req × Abort × Nat)) (stand : Bool) : Nat :=
  (res.filter (fun (y : Req × Abort × Nat) => (y.2.1 == 0) == stand && y.1.out.isNone && y.1.done.isNone)).length

/-- The commit of an epoch, with the mirrored requests it carries at a standby: values, the pending enable, commands, counts, journal.
The answer names what becomes of each request. -/
def Live.commit (L₀ : Live) (epoch : Nat) (mirrored : List Req) : Live × List (Req × Abort × Nat) :=
  let due := L₀.time.lastBoundary + 200000
  let L := L₀.commitSnap.applyStep23
  let lss := L.com.lssStore
  let L := match lss with
    | some n => { L.put 0x200002 n with com := { L.com with lssStore := none } }
    | none => L
  let edit := L.ks.edit
  let c := ((L.modLgc (fun g => { g with writes := [] })).tabRefused false).commitValues due (L.logicRequests ++ mirrored ++ L.ownRequests)
  let L := (Live.afterModeWrite L c.L)
  let L := L.recommit
  let L := (L.vmWrites ((c.res.reverse.filter (fun x => x.2.1 == 0 && x.1.done.isNone)).map (·.1))).pendingActs
  let confirms := L.getN 0x400008
  let x := runCommands due c.res.reverse { L with ks := { L.ks with epoch := epoch } }
  let L := x.1
  let res := x.2
  let L := match L.wantsInj with | some on => L.setRole on | none => L
  let edited := match c.L.ks.edit, edit with
    | some e, _ => e.vals
    | none, some e => e.vals
    | none, none => []
  let its := committedItems res (if confirms < L.getN 0x400008 then edited else [])
  let keys := its.map (·.1) ++ (if lss.isSome then [0x200002] else [])
  let L := { L with ks := { L.ks with
    epoch := epoch
    pend := []
    txns := []
    commands := 0
    refused := 0
    ctlDue := some due
    objEpoch := keys.eraseDups.map (fun k => (k, epoch)) ++ L.ks.objEpoch.filter (fun (y : Nat × Nat) => !keys.contains y.1) } }
  let L := L.put 0x210003 (min 65535 (countRes res true) : Nat)
  let L := L.put 0x210004 (min 65535 (L₀.ks.refused + countRes res false) : Nat)
  let L := if L.atBayEpoch then L.put 0x210002 epoch else L
  let L := (L.outputResults res).drawNonce epoch
  let L := (L.jwrite 1 false true (commitBody epoch its)).jdoneAll (fun e => e.cls == 4 && !e.mirrored && !e.done)
  (L, res)

/-! ### The snapshot (01 R20, step 3) -/

/-- Objects that show the latched state of the safety functions, not what a command of the commit made of it. -/
def latchedObjs : List Nat := [0x404001, 0x404002, 0x404003, 0x404004, 0x404007]

/-- The snapshot: the upward data as latched (`U`) with everything that step 2 wrote, the dispatch step it applied, the cleared error
history and a freeze among it. -/
def snapOf (U L : Live) : Live :=
  { L with
    mode := { L.mode with
      st := U.mode.st
      seq := U.mode.seq }
    pins := U.pins
    time := U.time
    rcd := { U.rcd with
      history := L.rcd.history
      freeze := L.rcd.freeze
      noFreeze := L.rcd.noFreeze }
    saf := U.saf
    seg := U.seg.zipWith (fun (u a : Seg) => { u with
      excluded := a.excluded
      segCmd := a.segCmd
      segNext := a.segNext }) L.seg
    node := U.node
    conv := { U.conv with
      dispTag := L.conv.dispTag
      dispLast := L.conv.dispLast
      dispHeld := L.conv.dispHeld }
    twin := U.twin
    est := U.est
    th := U.th
    com := U.com
    obj := latchedObjs.foldl (fun (s : Store) k => s.put (odDefault k) k (U.get k)) L.obj
    out := [] }

/-! ### The record to the standby (01 R20, step 4; 15 R391) -/

/-- The forwarded requests that a commit decided, by their sequence: is each committed? -/
def verdictsOf (n : Nat) (res : List (Req × Abort × Nat)) : List Bool :=
  (List.range n).map (fun i => res.any (fun x => x.1.fwd == some i && x.2.1 == 0))

/-- CRC over the committed requests in their order of application: the values, then the commands (layout log 27). -/
def commitCrc (res : List (Req × Abort × Nat)) : Nat :=
  let its := (res.filter (fun x => x.2.1 == 0)).flatMap (fun x => match x.1.fwd with
    | some n => (x.1.items.filter (fun it => !isTwinLocalWrite it.1)).map (fun it => (n, x.1.sess, x.1.level, it))
    | none => [])
  let bytes := fun (l : List (Nat × Sess × Nat × Nat × Bytes)) =>
    l.flatMap (fun y => requestBytes y.1 y.2.1 y.2.2.2.1 y.2.2.1 y.2.2.2.2)
  crc32c (bytes (its.filter (fun y => !isCommandObject y.2.2.2.1)) ++ bytes (its.filter (fun y => isCommandObject y.2.2.2.1)))

/-- The active twin's record of a commit and, on channel 2, a verdict bit per decided request and the logic input image. -/
def Live.sendRecord (snap L : Live) (res : List (Req × Abort × Nat)) : Live :=
  let n := L.twin.fwdSeq
  let L := L.put 0x4A0012 (min 65535 n : Nat)
  let L := { L with twin := { L.twin with fwdSeq := 0 } }
  if !L.mirrorsOut then L
  else
    let L := { L with twin := { L.twin with commit := (L.ks.epoch, n, commitCrc res) } }
    L.toPartner 2 (leBytes 8 L.ks.epoch ++ leBytes 2 n ++ leBytes ((n + 7) / 8) (ofBits (verdictsOf n res)) ++ Live.ownInputs snap L)

/-! ### Answers (12 R320, R334) -/

/-- The object a client knows its request by. -/
def Req.key (r : Req) : Nat := if r.txn.isSome then 0x210010 else (r.items.map (·.1)).headD 0

/-- The answer to one request, through the partner where it came that way. -/
def Live.answerReq (L : Live) (x : Req × Abort × Nat) : Live :=
  let r := x.1
  if r.decided ∨ r.out.isSome ∨ r.done.isSome ∨ iface r.sess = 0 then L
  else if r.via then L.answerVia r.sess r.key x.2.1 x.2.2
  else if x.2.1 = 0 then L.accept r.sess
  else if r.txn.isSome then L.refuseEntry r.sess x.2.2 x.2.1
  else L.refuse r.sess x.2.1

/-! ### What else falls on a boundary -/

/-- Bytes of a PDO's mapped values in a snapshot (11 R283). -/
def Live.pdoData (snap L : Live) (n : Nat) : Bytes := (L.pdoMap (0x1A00 + n)).flatMap (fun m => snap.mapped m.1 m.2)

/-- The event-driven transmit PDOs whose values a commit changed, in Operational, in class 2, on both buses (11 R283, R284, R288; DESIGN
CHOICE, log 26). -/
def Live.sendPdos (old new L : Live) : Live :=
  (List.range 4).foldl (fun (L : Live) n =>
    let cob := L.pdoCob true n
    let d := Live.pdoData new L n
    if L.com.nmt ≠ 5 ∨ L.unassigned ∨ L.mode.dupHeard ∨ bitOf cob 31 ∨ d.isEmpty ∨ d = Live.pdoData old L n then L
    else
      let f := if d.length ≤ 8 then canFrame (cob % 2048) d else fdFrame (cob % 2048) d
      (L.enqueue 0 f 2 0).enqueue 1 f 2 0) L

/-- A state transfer that is due begins: the active twin latches its image and sends it, the standby waits for it (15 R398). -/
def Live.startTransfer (L : Live) : Live :=
  if !L.twin.transferDue ∨ L.twin.pair ≠ 2 ∨ !(L.twin.holds || bitOf L.twin.p.token 0) then L
  else
    let L := { L with twin := { L.twin with
      transferDue := false
      transfer := some (L.time.clk, L.ks.epoch)
      image := none
      heldCommits := []
      heldSweeps := []
      rxBulk := L.twin.rxBulk.filter (fun b => b.1 != 6)
      bulk := L.twin.bulk.filter (fun b => b.1 != 6) } }
    let L := if L.twin.holds then L.toPartner 6 ((Config.stateImage L).take 3104000) else L
    L.twinEv 123 1 0 (leBytes 8 L.ks.epoch)

/-- After the commit: the string summary of a bay epoch, the logic engine's course, an update's turn, the lead, the notices. -/
def Live.courseEnd (old snap L : Live) : Live :=
  let L := Live.sendPdos old snap L
  let L := if L.atBayEpoch then { L with mgr := { L.mgr with own := snap.summary (bayEpoch L.time.lastBoundary) } } else L
  L.logicCourse.updateTurn.updLead.noticeWatch.startTransfer

/-- A commit at this twin, from the latched state to the answers: the new state and the new snapshot. -/
def commitAt (old U L : Live) (epoch : Nat) (mirrored : List Req) : Live × Live :=
  let x := L.commit epoch mirrored
  let snap := snapOf U x.1
  let L := Live.sendRecord snap x.1 x.2
  let L := x.2.foldl (fun (L : Live) y => L.answerReq y) L
  let L := Live.courseEnd old snap L
  (if resets x.2 then L.toBoot 4 1 else L, snap)

/-- COURSE_BOUNDARY (01 R20): the standby of an in-step pair latches here and commits with the active twin's record (15 R391). -/
def execCourseBoundary (s : State) : Host.Outcome State Fault Refusal :=
  if s.live.powered && s.live.mode.st != .boot && !bitOf s.live.dbg.halted 3 then
    let U := s.live.toBoundary.closeCourse
    if U.tracks then
      .next { s with
        live := { U with twin := { U.twin with due := some 0 } }
        latched := some U }
    else
      let x := commitAt s.snap U U (s.live.ks.epoch + 1) []
      .next { s with
        live := x.1
        snap := x.2
        latched := none }
  else .next s

end Sys2Proof.Machine
end

