-- ==== Sys2Proof/Machine/Conv.lean ====
section
/-! DEFINITION. The meanings of the soft-start, bus-collapse, derating and balancing commands (03 R52; 06 R129 to R141). -/

namespace Sys2Proof.Machine

/-! ### Soft start -/

/-- Soft start is in this phase, no shut-down running (06 R133, R135). -/
def Live.inPhase (L : Live) (n : Nat) : Bool := L.mode.st == .precharge && L.conv.phase == n && L.mode.seq.isNone

/-- Begin a phase (06 R133). -/
def Live.setPhase (L : Live) (n : Nat) : Live :=
  { L with conv := { L.conv with phase := n, phaseAt := L.time.clk, okSince := none } }

/-- SOFTSTART_CONTACTORS_CLOSED (06 R133): FB_KP and FB_KN show both closed in phase 1; the match begins with D at 0. -/
def execSoftstartContactorsClosed (s : State) : Host.Outcome State Fault Refusal :=
  runIn 0 s (fun L =>
    if L.inPhase 1 && !L.pins.fbKpOpen && !L.pins.fbKnOpen then
      let L := L.setPhase 2
      { L with conv := { L.conv with d := 0, vStrAvg := [] } }
    else L)

/-- When the match is reached, if within its 20 ms (06 R133). -/
def Live.matchedAt (L : Live) : Option Nat :=
  match L.conv.okSince with
  | some t => if t + ms 1 ≤ L.conv.phaseAt + ms 20 then some (t + ms 1) else none
  | none => none

/-- SOFTSTART_MATCHED (06 R133 phases 2 to 4): headroom is evaluated; then FAST_OFF is driven PERMIT and the loop starts at i = 0,
in BUSV at the measured bus voltage. -/
def execSoftstartMatched (s : State) : Host.Outcome State Fault Refusal :=
  runIn 0 s (fun L =>
    match L.matchedAt with
    | some t =>
      if L.inPhase 2 then
        let L := (L.reach t).setPhase 3
        let h := L.headroom L.conv.act
        let L := { L with conv := { L.conv with h := h } }
        if h < 0 then L.prechargeFault 2
        else
          let L := (L.setPhase 4).setFast .permit
          { L with conv := { L.conv with r := if L.conv.mode = 2 then L.conv.vBus else 0 } }
      else L
    | none => L)

/-- SOFTSTART_MATCH_TIMEOUT (06 R133): not matched within 20 ms is a precharge fault, code 4. -/
def execSoftstartMatchTimeout (s : State) : Host.Outcome State Fault Refusal :=
  runIn 0 s (fun L =>
    if L.inPhase 2 && L.matchedAt.isNone then (L.reach (L.conv.phaseAt + ms 20)).prechargeFault 4 else L)

/-- SOFTSTART_SWITCH_CLOSED (06 R133): SSW_FB shows the switch closed; phase 5 begins. -/
def execSoftstartSwitchClosed (s : State) : Host.Outcome State Fault Refusal :=
  runIn 0 s (fun L =>
    if L.inPhase 4 && !L.pins.sswOpen then
      let L := L.setPhase 5
      { L with conv := { L.conv with closedAt := some L.time.clk, lowSince := none } }
    else L)

/-- SOFTSTART_SWITCH_TIMEOUT (06 R133): not closed within 2 ms of PERMIT is a precharge fault, code 4. -/
def execSoftstartSwitchTimeout (s : State) : Host.Outcome State Fault Refusal :=
  runIn 0 s (fun L =>
    if L.inPhase 4 && L.pins.sswOpen then (L.reach (L.conv.phaseAt + ms 2)).prechargeFault 4 else L)

/-- A mode change committed in PRECHARGE takes effect at T9 with the bumpless start (06 R131). -/
def Live.modeAtT9 (L : Live) : Live :=
  let m := L.ctlN 0x300001
  if m = L.conv.mode then L
  else
    let L := { L with conv := { L.conv with mode := m } }
    ({ L with conv := { L.conv with r := L.measured m } }).convEv 32 1 0

/-- SOFTSTART_COMPLETE (06 R133 phase 5; 03 R52 T9): the end condition holds, in CURRENT and POWER for 100 ms. A derating cause is
then found by the next control sample (T10). -/
def execSoftstartComplete (s : State) : Host.Outcome State Fault Refusal :=
  runIn 0 s (fun L =>
    match L.conv.okSince with
    | some t =>
      if L.inPhase 5 then
        let L := L.reach (if L.conv.mode = 2 then t else t + ms 100)
        ((L.setPhase 6).setState .run 9).modeAtT9
      else L
    | none => L)

/-- SHORT_ABORT (06 R134): the bus below 0.1 V_nom for the short-abort time, counted from the switch's closing. -/
def execShortAbort (s : State) : Host.Outcome State Fault Refusal :=
  runIn 0 s (fun L =>
    match L.conv.lowSince, L.conv.closedAt with
    | some t, some c =>
      if L.inPhase 5 then (L.reach (max t c + ms (L.ctlN 0x30000B))).prechargeFault 1 else L
    | _, _ => L)

/-- PRECHARGE_TIMEOUT (06 R134): phase 5 does not end in time. -/
def execPrechargeTimeout (s : State) : Host.Outcome State Fault Refusal :=
  runIn 0 s (fun L =>
    match L.conv.closedAt with
    | some c => if L.inPhase 5 then (L.reach (c + ms (L.ctlN 0x30000C))).prechargeFault 3 else L
    | none => L)

/-! ### Bus collapse and derating -/

/-- BUS_COLLAPSE_DETECTED (06 R129): in RUN or DERATED, both limits go to 0. -/
def execBusCollapseDetected (s : State) : Host.Outcome State Fault Refusal :=
  runIn 0 s (fun L =>
    match L.conv.lowSince with
    | some t =>
      if (L.mode.st = .run ∨ L.mode.st = .derated) ∧ !L.conv.collapse then
        let L := L.reach (t + ms (L.ctlN 0x30000B))
        { L with conv := { L.conv with collapse := true, limDis := 0, limCh := 0 } }.convEv 34 2 2
      else L
    | none => L)

/-- BUS_COLLAPSE_RELEASE (06 R129): 1 s at or above 0.1 V_nom. -/
def execBusCollapseRelease (s : State) : Host.Outcome State Fault Refusal :=
  runIn 0 s (fun L =>
    match L.conv.highSince with
    | some t =>
      if L.conv.collapse then
        let L := L.reach (t + sec 1)
        { L with conv := { L.conv with collapse := false, highSince := none } }.convEv 34 3 0
      else L
    | none => L)

/-- DERATE_HOLD_EXPIRY (03 R52 T11): no derating cause active for 1 s. -/
def execDerateHoldExpiry (s : State) : Host.Outcome State Fault Refusal :=
  runIn 0 s (fun L =>
    if L.mode.st = .derated ∧ L.limFlags % 32 = 0 then (L.reach (L.mode.derateAt + sec 1)).setState .run 11 else L)

/-! ### Balancing ages and heat ratios -/

/-- Does segment s, in A, deviate by the threshold or more (06 R137, R138)? -/
def Live.deviates (L : Live) (s : Nat) : Bool :=
  let a := L.conv.act
  let mean := sumQ (a.map (fun k => (L.segEst k).soc)) / q (max a.length 1 : Nat)
  a.contains s && decide (q (L.ctl 0x300012) / 10000 ≤ absQ ((L.segEst s).soc - mean))

/-- A segment joins the tail of the priority queue, with its events (06 R138, R139). -/
def Live.joinQueue (L : Live) (s : Nat) : Live :=
  let g := L.segAt s
  let joins := L.conv.running :: g.joins.filter (fun t => decide (L.conv.running < t + 3600000))
  let L := { L with conv := { L.conv with queue := L.conv.queue ++ [s] } }
  let L := (L.modSeg s (fun g => { g with joins := joins, served := 0 })).convSegEv s 6 1 0
  if joins.length = 3 then L.convSegEv s 6 2 1 else L

/-- One segment at the age tick (06 R138): its mean grant against half its mean wanted term. -/
def Live.ageTick (L : Live) (s : Nat) : Live :=
  let g := L.segAt s
  let up := L.deviates s && decide (2 * g.sums.1 < g.sums.2) && decide (g.age < 16)
  let L := L.modSeg s (fun g => { g with age := if up then g.age + 1 else g.age, sums := (0, 0) })
  if up && decide (g.age + 1 = 16) && !L.conv.queue.contains s then L.joinQueue s else L

/-- BALANCING_AGE_TICK (06 R138, R139): every 20 s of running with a direction. -/
def execBalancingAgeTick (s : State) : Host.Outcome State Fault Refusal :=
  runIn 1 s (fun L =>
    if L.driving ∧ L.conv.dir ≠ 0 then
      let n := L.conv.running
      let L := { L with conv := { L.conv with running := n - n % 20000 + (if n % 20000 = 0 ∧ n ≠ 0 then 0 else 20000) } }
      (List.range 16).foldl Live.ageTick L
    else L)

/-- A segment's ratio over the last hour leaves 0.97 to 1.03 (06 R141): event 36, while it lasts once. Judged on 60 buckets. -/
def Live.ratioCheck (L : Live) (s : Nat) : Live :=
  let a := L.conv.act
  let m := sumQ (a.map L.rmsHour) / q (max a.length 1 : Nat)
  let full := (L.segAt s).buckets.length == 60
  let r := divQ (L.rmsHour s) m
  let out := a.contains s && full && decide (m ≠ 0) && decide (r < 97 / 100 ∨ 103 / 100 < r)
  let was := (L.segAt s).rmsOut
  let L := L.modSeg s (fun g => { g with rmsOut := out })
  if out && !was then L.ev 36 1 1 (leBytes 1 s) (leBytes 2 (satU 16 (r * 10000)) ++ leBytes 8 L.epoch ++ leBytes 1 L.conv.act.length) else L

/-- RMS_RATIO_BUCKET (06 R141): each one-minute bucket closes. -/
def execRmsRatioBucket (s : State) : Host.Outcome State Fault Refusal :=
  runIn 0 s (fun L =>
    let seg := L.seg.map (fun (g : Seg) => { g with
      buckets := ((g.bucket.1 / q (max g.bucket.2 1 : Nat)) :: g.buckets).take 60
      bucket := (0, 0) })
    (List.range 16).foldl Live.ratioCheck { L with seg := seg })

end Sys2Proof.Machine
end

