-- ==== Sys2Proof/Machine/TwinFrame.lean ====
section
/-! DEFINITION. The mirror frame as it is sent, and what its bulk channels bring (15 R387 to R392, R398). -/

namespace Sys2Proof.Machine

/-! ### The frame as sent (15 R389) -/

/-- FAST_OFF in SAFE[1:0]. -/
def FastOff.code : FastOff → Nat
  | .absent => 0
  | .permit => 1
  | .off => 2

/-- PSTATE: role, pair state (4 reads as 0), health, aux, lead, the partner's test pulse seen within 10 s. -/
def Live.pstateByte (L : Live) : Nat :=
  let seen := match L.saf.xSeen with | some t => decide (L.time.clk ≤ t + sec 10) | none => false
  L.role % 4 + 4 * (if L.twin.pair = 4 then 0 else L.twin.pair) +
    16 * ofBits [L.healthy, L.pins.aux1 || L.pins.aux2, L.mgr.lead, seen]

/-- TOKEN: a handover under 02 R45 is asked for by the urgent word instead of bit 2. -/
def Live.tokenByte (L : Live) : Nat :=
  ofBits [L.twin.holds, L.twin.claims, L.twin.hoReq && !L.twin.hoRelease, L.twin.hoAcc]

/-- SAFE: own FAST_OFF, own command to open the switch, own loop, the command held to the partner. -/
def Live.safeByte (L : Live) : Nat :=
  let c := L.saf.ownCmd
  L.pins.fastOff.code + 4 * ofBits [decide (2 ≤ L.stepOf) || L.saf.hazard, L.loopClosed, c.isSome,
    (match c with | some c => c.bay | none => false), (match c with | some c => c.classF | none => false)]

/-- Hottest own module sensor, 8000H where none is available. -/
def Live.hottest (L : Live) : Int := tempObj (maxOpt (L.th.mod.filterMap (fun (x : Sens) => x.use)))

/-- Bytes 0 to 235: everything but the bulk section and FCRC. -/
def Live.frameHead (L : Live) : Bytes :=
  let segs := List.range 16
  leBytes 2 (L.numN 0x4A0005) ++ leBytes 1 L.nodeId ++ leBytes 1 L.pstateByte ++ leBytes 8 L.epoch ++ leBytes 8 L.ks.epoch ++
  leBytes 1 L.twin.gen ++ leBytes 1 L.tokenByte ++ leBytes 1 L.safeByte ++
  leBytes 1 (match L.saf.ownCmd with | some c => c.d0 | none => 0) ++ leBytes 2 (L.numN 0x200015) ++
  leBytes 2 (ofSigned 16 L.hottest) ++ leBytes 2 (ofBits (segs.map (fun s => (L.segAt s).wasValid))) ++
  segs.flatMap (fun s => leBytes 2 (L.segAt s).uchk) ++ leBytes 1 L.conv.rel.nact ++ leBytes 1 L.conv.rel.cidx ++
  leBytes 2 (ofBits (segs.map L.conv.act.contains)) ++ segs.flatMap (fun s => leBytes 1 (segCmdByte (L.conv.rel.segs.getD s {}))) ++
  leBytes 4 L.twin.sdig ++ leBytes 4 L.twin.edig ++ leBytes 4 (L.twin.esweep % 2 ^ 32) ++ leBytes 4 ((ashOf L.conv.i).word 0) ++
  L.carries.flatMap (fun c => leBytes 4 ((ashOf c).word 0)) ++ leBytes 8 L.time.lastSent ++
  segs.flatMap (fun s => if (L.segAt s).wasValid then padTo 6 (L.segAt s).sword else List.replicate 6 0) ++
  leBytes 8 L.twin.commit.1 ++ leBytes 2 L.twin.commit.2.1 ++ leBytes 4 L.twin.commit.2.2

/-- The bulk channels in order of priority (15 R390). -/
def bulkOrder : List Nat := [2, 1, 3, 5, 4, 7, 6]

/-- The oldest item of the highest-priority channel that has data waiting. -/
def Live.nextBulk (L : Live) : Option (Nat × Bytes) :=
  bulkOrder.findSome? (fun c => L.twin.bulk.find? (fun b => b.1 == c))

/-- Replace the first item of a channel by what remains of it, nothing once it has all been sent. -/
def replaceFirst (c : Nat) (rest : Bytes) : List (Nat × Bytes) → List (Nat × Bytes)
  | [] => []
  | b :: bs => if b.1 = c then (if rest.isEmpty then bs else (c, rest) :: bs) else b :: replaceFirst c rest bs

/-- Bytes 236 to 1019 with the fragment taken from its channel (15 R390). -/
def Live.bulkSection (L : Live) : Live × Bytes :=
  match L.nextBulk with
  | none => (L, List.replicate 784 0)
  | some (c, d) =>
    let frag := d.take 776
    let rest := d.drop 776
    let n := L.twin.bseq.getD c 0
    ({ L with twin := { L.twin with
        bulk := replaceFirst c rest L.twin.bulk
        bseq := L.twin.bseq.set c ((n + 1) % 65536) } },
      leBytes 1 c ++ leBytes 1 (if rest.isEmpty then 1 else 0) ++ leBytes 2 n ++ leBytes 2 frag.length ++ [0, 0] ++ padTo 776 frag)

/-- What a partner must know before it can pair, on channel 7 while the twins are not paired: kind 1, serial, CRC of the active safety
set, whether it is confirmed (15 R398, R401; the spec gives no carrier, layout log 27). -/
def Live.sayIdentity (L : Live) : Live :=
  if (L.twin.pair = 0 ∨ L.twin.pair = 1 ∨ L.twin.pair = 4) ∧ L.twin.bulk.all (fun b => b.1 != 7) then
    L.toPartner 7 (leBytes 1 1 ++ leBytes 4 Config.serial ++ leBytes 4 L.activeCrc ++ leBytes 1 (if L.ks.confirmed then 1 else 0))
  else L

/-- MIRROR_FRAME_SEND (15 R387): a halted twin sends no more frames once its halt notice has left, so that its partner can treat it as
absent (18 R450; DEDUCED). -/
def execMirrorFrameSend (s : State) : Host.Outcome State Fault Refusal :=
  run s (fun L =>
    if L.mode.st = .boot ∨ L.unassigned ∨ (L.dbg.halted ≠ 0 ∧ L.twin.bulk.all (fun b => b.1 != 7)) then L
    else
      let L := L.sayIdentity
      let head := L.frameHead
      let x := L.bulkSection
      let body := head ++ x.2
      { x.1 with twin := { x.1.twin with mine := head } }.emit (.mirror (body ++ leBytes 4 (crc32c body))))

/-! ### Bulk items received (15 R390 to R392) -/

/-- The first write of a session and object that awaits the active twin's answer is answered here (12 R322; 01 R19). -/
def Live.answerForwarded (L : Live) (s : Sess) (k : Nat) (code : Abort) (pos : Nat) : Live :=
  if !L.ks.forwarded.contains (s, k) then L
  else
    let L := { L with ks := { L.ks with forwarded := L.ks.forwarded.erase (s, k), sure := L.ks.sure.erase (s, k) } }.mbPick s k false
    if code = 0 then L.accept s
    else if pos = 0 then L.refuse s code
    else L.refuseEntry s pos code

/-- A forwarded read is answered from the active twin's committed snapshot: kind 1, session, abort code, object, data (15 R392). -/
def Live.answerRemote (snap L : Live) (s : Sess) (k : Nat) : Live :=
  let L := L.touch s
  let x : Live × Except Abort Bytes :=
    if k = 0x460010 then
      let r := (List.range (L.getN 0x46000F)).foldl (fun (a : Live × Bytes) i =>
        let y := a.1.readRecord ((L.getN 0x46000E + i) % 2 ^ 32)
        (y.1, a.2 ++ y.2)) (L, [])
      (r.1, .ok r.2)
    else (L, Live.readObj snap L s (k / 256) (k % 256))
  let d : Abort × Bytes := match x.2 with | .ok b => (0, b) | .error e => (e, [])
  x.1.toPartner 3 (leBytes 1 1 ++ leBytes 2 s ++ leBytes 4 d.1 ++ leBytes 3 k ++ d.2)

/-- A request on channel 1: at the active twin a write the standby passed on, at the standby a mirrored request. Either way its session
is held here too (12 R315); the connections of Modbus and the debug port stand at the twin they address, so their level comes with
the request (13 R351). -/
def Live.takeRequest (L : Live) (d : Bytes) : Live :=
  let s := le d 2 2
  let k := le d 4 3
  let v := slice d 10 (le d 7 2)
  let L := if s = 0 then L else L.touch s
  if L.follower then L.writeAt s (byteAt d 9) true k v
  else if (iface s = 4 ∨ s = 0) ∧ k / 65536 = 0xDB then L.queueDebug s true k v
  else L.writeAt s (if iface s = 3 ∨ iface s = 4 then byteAt d 9 else L.levelOf s) true k v

/-- An item on channel 3: 0 a read, 1 its answer, 2 the answer to a write. -/
def Live.takeReadItem (snap L : Live) (d : Bytes) : Live :=
  let s := le d 1 2
  if byteAt d 0 = 0 then Live.answerRemote snap L s (le d 3 3)
  else if byteAt d 0 = 1 then
    let code := le d 3 4
    (L.mbPick s (le d 7 3) true).answerRead s (if code = 0 then .ok (d.drop 10) else .error code)
  else L.answerForwarded s (le d 3 3) (le d 6 4) (byteAt d 10)

/-- The reserve manager's dispatch state follows the lead's with each mirrored snapshot: its epoch and shortfall, the strings it
carried as stale, the grant and the requests with their ages (01 R14, R22; 13 R345 to R347; layout log 27). -/
def Live.mirrorDispatch (L : Live) (b : Bytes) : Live :=
  let m := le b 64 8
  let g := byteAt b 6
  let reqs := chunks 9 (b.drop 84)
  { L with mgr := { L.mgr with
    sent := some m
    deadlineOf := some m
    tag := le b 0 4
    shortfall := leS b 72 4
    strings := L.mgr.strings.map (fun (x : StrEntry) =>
      { x with
        stale := if bitOf (le b 8 5) (x.n - 1) then x.stale + 1 else 0
        reqAt := (reqs.find? (fun r => byteAt r 0 == x.n)).map (fun r => L.time.clk - le r 1 8) })
    grant := if g = 0 then none else some (g, L.time.clk - le b 76 8) } }

/-- An item of the manager mirror (01 R14; 13 R343; 14 R374). -/
def Live.takeMgrItem (L : Live) (d : Bytes) : Live :=
  let b := d.drop 1
  if byteAt d 0 = 0 then (L.mirrorDispatch b).holdSnapshot (b.take 64)
  else if byteAt d 0 = 1 then L.holdSummary (byteAt b 0) (b.drop 1)
  else L.modLgc (fun g => { g with latched := ringFrames b })

/-- A journal item of the partner: an entry, or the mark that completes it (17 R437). -/
def Live.takeEntry (L : Live) (d : Bytes) : Live :=
  let cls := byteAt d 1
  let body := d.drop 2
  if byteAt d 0 = 1 then L.jwrite cls true false body
  else match L.jrn.open_.find? (fun e => e.mirrored && e.cls == cls && e.body == body) with
    | some e => L.jdone e.seq
    | none => L

/-- The partner's identity: event 123 code 4 where it is another module than the last partner (15 R401). -/
def Live.takeIdentity7 (L : Live) (d : Bytes) : Live :=
  let n := le d 1 4
  let old := L.twin.p.serial
  let L := { L with twin := { L.twin with p := { L.twin.p with
    serial := some n
    safeCrc := some (le d 5 4, byteAt d 9 == 1) } } }
  match old with
  | some o => if o = n then L else L.twinEv 123 4 0 (leBytes 4 o ++ leBytes 4 n)
  | none => L

/-- A twin that no longer follows its partner's time is locking to its next source (04 R85; DESIGN CHOICE, log 185). -/
def Live.endFollow (L : Live) : Live := if L.getN 0x220002 = 4 then L.put 0x220002 1 else L

/-- The debug session of a partner that is lost can command nothing here: its breakpoints and its halt of the logic engine end at the
next commit (18 R444; DEDUCED, log 229). -/
def Live.endTheirDebug (L : Live) : Live :=
  if L.lgc.owner = some (0x4000, L.twinId) ∨ L.dbg.brk.any (fun b => match b with
      | some b => b.node == L.twinId
      | none => false) then L.queueWrite 0 0 false keyEnded (leBytes 1 L.twinId) none none
  else L

/-- The partner is lost: each write passed to it is answered, with success where a mirrored commit holds it, else as not committed
(12 R322). -/
def Live.answerLost (L : Live) : Live :=
  (L.ks.forwarded.foldl (fun (L : Live) x =>
    L.answerForwarded x.1 x.2 (if L.ks.sure.contains x then 0 else abLost) 0) L).endTheirDebug

/-- The partner has halted and counts as absent (18 R450). -/
def Live.partnerGone (L : Live) : Live :=
  { L.endFollow with
    twin := { L.twin with
      pair := 0
      wasInStep := false
      transfer := none
      transferDue := false
      rxBulk := []
      rxSeq := List.replicate 8 none }
    saf := { L.saf with
      loneSince := L.time.clk
      theirFast := if L.saf.theirFast.1 = 0 then L.saf.theirFast else (0, L.time.clk) } }

/-- The pair check starts, with event 121 code 4 (15 R396). -/
def Live.startCheck (L : Live) (kind : Nat) : Live :=
  if L.twin.check ∨ !L.inStep then L
  else { L with twin := { L.twin with
    check := true
    peerPass := none
    mism := [0, 0, 0] } }.twinEv 121 4 1 (leBytes 1 kind)

/-- An item on channel 7: 1 identity, 2 pair check result, 3 island halt, 4 set confirmed, 5 fallen back, 6 pair check starts
(15 R390, R396; 17 R428; log 27). -/
def Live.takeNotice (L : Live) (d : Bytes) : Live :=
  match byteAt d 0 with
  | 1 => L.takeIdentity7 d
  | 2 => { L with twin := { L.twin with peerPass := some (byteAt d 1 == 1) } }
  | 6 => L.startCheck (byteAt d 1)
  | 3 => (L.leaveStep 4).partnerGone.answerLost
  | 4 => L.partnerConfirms
  | 5 => L.partnerFellBack
  | _ => L

/-- The verdicts and the logic input image of a commit (15 R391). -/
def Live.takeVerdicts (L : Live) (d : Bytes) : Live :=
  let n := le d 8 2
  let bits := slice d 10 ((n + 7) / 8)
  { L with twin := { L.twin with
    verdicts := some (le d 0 8, (List.range n).map (fun i => bitOf (byteAt bits (i / 8)) (i % 8)))
    inputs := some (padTo 0x400 (d.drop (10 + (n + 7) / 8))) } }

/-- A complete item of a channel. -/
def Live.takeItem (snap L : Live) (c : Nat) (d : Bytes) : Live :=
  match c with
  | 1 => L.takeRequest d
  | 2 => L.takeVerdicts d
  | 3 => Live.takeReadItem snap L d
  | 4 => L.takeMgrItem d
  | 5 => L.takeEntry d
  | 6 => { L with twin := { L.twin with image := some d } }
  | 7 => L.takeNotice d
  | _ => L

/-- The bulk section of a valid frame: a fragment joins what came before of its item, and the last completes it. Where BSEQ shows a
fragment lost, the item is dropped (15 R389, R390; DEDUCED). -/
def Live.takeBulk (snap L : Live) (f : Bytes) : Live :=
  let c := byteAt f 236
  if c = 0 ∨ 7 < c then L
  else
    let n := le f 238 2
    let last := bitOf (byteAt f 237) 0
    let lost := match L.twin.rxSeq.getD c none with | some e => e != n | none => false
    let old := match L.twin.rxBulk.find? (fun b => b.1 == c) with | some b => b.2 | none => some []
    let now : Option Bytes := if lost then none else old.map (fun b => b ++ slice f 244 (min 776 (le f 240 2)))
    let rest := L.twin.rxBulk.filter (fun b => b.1 != c)
    let L := { L with twin := { L.twin with
      rxSeq := L.twin.rxSeq.set c (some ((n + 1) % 65536))
      rxBulk := if last then rest else (c, now) :: rest } }
    match last, now with
    | true, some d => Live.takeItem snap L c d
    | _, _ => L

end Sys2Proof.Machine
end

