-- ==== Sys2Proof/Machine/Debug.lean ====
section
/-! DEFINITION. The serial debug port (18 R441 to R452): sessions, the address map, object access, halting of the logic engine and of an
island, breakpoints. -/

namespace Sys2Proof.Machine

/-- Identity of the debug session (12 R315). -/
abbrev dbgSess : Sess := 0x4000

/-- STATUS of 18 R445: wrong CRC. -/
abbrev stCrc : Nat := 0x01
/-- Unknown command. -/
abbrev stUnknown : Nat := 0x02
/-- Length or alignment invalid. -/
abbrev stLength : Nat := 0x03
/-- Level insufficient. -/
abbrev stLevel : Nat := 0x04
/-- Address not mapped, or not writable. -/
abbrev stAddress : Nat := 0x05
/-- This twin holds the drive token. -/
abbrev stToken : Nat := 0x06
/-- Authentication failed. -/
abbrev stAuth : Nat := 0x08
/-- Authentication locked. -/
abbrev stLocked : Nat := 0x09
/-- No session open. -/
abbrev stClosed : Nat := 0x0C

/-! ### Requests and responses (18 R442 to R445) -/

/-- The response to a request. -/
def Live.respond (L : Live) (tag : Byte) (status : Nat) (payload : Bytes) : Live := L.emit (.dbg (dbgResponse tag status payload))

/-- A request reaches the port: nothing answers in QUARRY, OFF or BOOT, and the port is busy while a response waits (DEDUCED). -/
def portRun (s : State) (f : Live → Live) : Host.Outcome State Fault Refusal :=
  run s (fun L => if L.mode.st = .boot ∨ L.dbg.waiting.isSome then L else f L)

/-- A request of the open session at a level: the session's idle time begins anew (18 R444, R445). -/
def Live.inSession (L : Live) (tag : Byte) (level : Nat) (f : Live → Live) : Live :=
  match L.dbg.session with
  | none => L.respond tag stClosed []
  | some d =>
    let L := { L.touch dbgSess with dbg := { (L.touch dbgSess).dbg with session := some (d.1, L.time.clk) } }
    if d.1 < level then L.respond tag stLevel [] else f L

/-- The response of this request waits for a commit or for the partner. -/
def Live.awaits (L : Live) (tag : Byte) : Live := { L with dbg := { L.dbg with waiting := some tag } }

/-- A request that is committed like a command goes to the pair's keystone; its value begins with this twin's node-ID (18 R447). -/
def Live.commitLater (L : Live) (tag : Byte) (k : Nat) (v : Bytes) : Live :=
  let v := leBytes 1 L.nodeId ++ v
  if L.ks.commands < 16 then
    let L := L.awaits tag
    if L.follower then L.passOn dbgSess k v else L.queueDebug dbgSess false k v
  else L.respond tag 0x0B (leBytes 4 abLimit)

/-- The session ends, 1 CLOSE, 2 idle, 3 reset: its breakpoints are disarmed here and on the pair, and the pair resumes its logic halt by a
request on the module's own behalf, session 0, that nobody awaits (18 R444). -/
def Live.endDebug (L : Live) (cause : Nat) : Live :=
  let v := leBytes 1 L.nodeId
  let L := if L.follower then L.forward 0 keyEnded v else L.queueDebug 0 false keyEnded v
  let L := { L.endSession dbgSess with dbg := { (L.endSession dbgSess).dbg with
    session := none
    nonce := []
    fails := []
    waiting := none
    attn := if cause = 2 then setBit 0 3 true else 0
    brk := L.dbg.brk.map (fun (b : Option Brk) => match b with
      | some b => if 2 ≤ b.kind then none else some b
      | none => none) } }
  L.ev 127 3 0 [] (leBytes 1 cause)

/-- A fresh nonce (18 R444). -/
def Live.newNonce (L : Live) : Live :=
  { L with
    dbg := { L.dbg with nonce := Config.nonce L.free }
    free := L.free + 1 }

/-- DBG_OPEN (18 R444); a session that closed by itself stays the pending cause until STATUS is read (18 R443). -/
def execDbgOpen (tag : Byte) (s : State) : Host.Outcome State Fault Refusal :=
  portRun s (fun L =>
    if L.dbg.session.isSome ∨ !L.isSet 0x4C0026 then L.respond tag stState []
    else
      let L := L.newNonce
      let L := { L.touch dbgSess with dbg := { L.dbg with session := some (0, L.time.clk) } }
      (L.respond tag 0 (padTo 16 L.dbg.nonce ++ leBytes 4 Config.serial ++ leBytes 1 L.nodeId ++ [0])).ev 127 1 0 [] [])

/-- A wrong MAC: three within 60 s lock the authentication for 60 s, with event 127 code 16 (18 R444, 12 R316). -/
def Live.dbgAuthFail (L : Live) : Live :=
  let recent := L.time.clk :: L.dbg.fails.filter (fun t => decide (L.time.clk < t + sec 60))
  if 3 ≤ recent.length then
    { L with dbg := { L.dbg with
      fails := []
      lockUntil := some (L.time.clk + sec 60) } }.ev 127 16 1 [] (leBytes 2 dbgSess)
  else { L with dbg := { L.dbg with fails := recent } }

/-- Is the MAC right: nonce, level, serial, session identity under the level's key (18 R444)? -/
def Live.macRight (L : Live) (level : Nat) (mac : Bytes) : Bool :=
  let key := L.levelKey level
  !key.isEmpty &&
  (Config.hmac key (padTo 16 L.dbg.nonce ++ leBytes 1 level ++ leBytes 4 Config.serial ++ leBytes 2 dbgSess)).take 16 == mac

/-- DBG_AUTH (18 R444): each nonce serves one. -/
def execDbgAuth (tag : Byte) (level : Nat) (mac : Bytes) (s : State) : Host.Outcome State Fault Refusal :=
  portRun s (fun L => L.inSession tag 0 (fun L =>
    if mac.length ≠ 16 then L.respond tag stLength []
    else if L.dbg.lockUntil.isSome then L.newNonce.respond tag stLocked []
    else if L.macRight level mac then
      let L := L.newNonce
      let L := { L with dbg := { L.dbg with session := some (level, L.time.clk) } }
      (L.respond tag 0 []).ev 127 2 0 [] (leBytes 1 level)
    else (L.newNonce.dbgAuthFail).respond tag stAuth []))

/-- DBG_CLOSE (18 R444). -/
def execDbgClose (tag : Byte) (s : State) : Host.Outcome State Fault Refusal :=
  portRun s (fun L => L.inSession tag 0 (fun L => (L.respond tag 0 []).endDebug 1))

/-- DEBUG_IDLE_TIMEOUT (18 R444). -/
def execDebugIdleTimeout (s : State) : Host.Outcome State Fault Refusal :=
  run s (fun L => match L.dbg.session with
    | none => L
    | some d => (L.reach (d.2 + sec (L.getN 0x4C0027))).endDebug 2)

/-- DBG_STATUS (18 R443): the pending causes, which are pending no longer. -/
def execDbgStatus (tag : Byte) (s : State) : Host.Outcome State Fault Refusal :=
  portRun s (fun L => L.inSession tag 0 (fun L =>
    { L.respond tag 0 (leBytes 1 L.dbg.attn) with dbg := { L.dbg with attn := 0 } }))

/-- DBG_INVALID_REQUEST (18 R442, R445): a wrong CRC, or an unknown command. -/
def execDbgInvalidRequest (tag : Byte) (crcWrong : Bool) (s : State) : Host.Outcome State Fault Refusal :=
  portRun s (fun L => L.respond tag (if crcWrong then stCrc else stUnknown) [])

/-! ### The address map (18 R446) -/

/-- A row of the map. -/
inductive Region where
  | sram | journal | cairn | retained | params | flash
  | window (island : Nat)
  | code | logic
deriving DecidableEq, Repr

/-- The row a byte lies in, none outside every row. -/
def regionOf (a : Nat) : Option Region :=
  if a < 0x00400000 then some .sram
  else if 0x10000000 ≤ a ∧ a < 0x10100000 then some .journal
  else if 0x10100000 ≤ a ∧ a < 0x10500000 then some .cairn
  else if 0x10500000 ≤ a ∧ a < 0x10600000 then some .retained
  else if 0x10600000 ≤ a ∧ a < 0x10800000 then some .params
  else if 0x20000000 ≤ a ∧ a < 0x24000000 then some .flash
  else if 0x40000000 ≤ a ∧ a < 0x40600000 then some (.window ((a - 0x40000000) / 0x100000))
  else if 0x50000000 ≤ a ∧ a < 0x50020000 then some .code
  else if 0x51000000 ≤ a ∧ a < 0x51006000 then some .logic
  else none

/-- A byte of the ring: the newest entry that covers its place (17 R433, R434); a place never written reads as a free value. -/
def Live.ringByte (L : Live) (o : Nat) : Option Byte :=
  match L.jrn.ents.find? (fun e => decide ((o + ringSize - e.pos % ringSize) % ringSize < entrySize e.body)) with
  | some e => some (e.bytes.getD ((o + ringSize - e.pos % ringSize) % ringSize) 0)
  | none => none

/-- A byte of flash: a slot's manifest in its first 4 KiB (17 R419); the rest of its layout is not given. -/
def Live.flashByte (L : Live) (o : Nat) : Option Byte :=
  let inSlot := fun (n base : Nat) => match L.upd.slots.getD n none with
    | some sl => if o < base + sl.manifest.length ∧ o < base + 4096 then some (sl.manifest.getD (o - base) 0) else none
    | none => none
  if o < 0x800000 then none
  else if o < 0x2000000 then inSlot 0 0x800000
  else if o < 0x3800000 then inSlot 1 0x2000000
  else none

/-- Logic code: the active bank, then the inactive one (14 R363). -/
def Live.codeByte (L : Live) (o : Nat) : Byte :=
  let img := L.logicBank (if o < 0x10000 then L.lgc.bank else 1 - L.lgc.bank)
  if o % 0x10000 < 4 * imgLen img then img.getD (64 + o % 0x10000) 0 else 0

/-- A byte of the address space as it stands now. What the spec gives no layout for is a free value, one for each read (log 14), save where
an L4 write has set it. -/
def Live.dbgByte (L : Live) (a : Nat) : Byte :=
  let free := ((L.dbg.mem.find? (fun c => c.1 == a)).map (·.2)).getD (Config.freeByte a L.free)
  match regionOf a with
  | some .journal => if a < 0x10001000 then free else (L.ringByte (a - 0x10001000)).getD free
  | some .cairn => (L.rcd.slot ((a - 0x10100000) / 64)).getD ((a - 0x10100000) % 64) 0xFF
  | some .flash => (L.flashByte (a - 0x20000000)).getD free
  | some .code => L.codeByte (a - 0x50000000)
  | some .logic => memByte L.lgc.vm.mem (a - 0x51000000)
  | _ => free

/-- DBG_READ (18 R445, R446). -/
def execDbgRead (tag : Byte) (addr len : Nat) (s : State) : Host.Outcome State Fault Refusal :=
  portRun s (fun L => L.inSession tag 2 (fun L =>
    if len < 4 ∨ 1024 < len ∨ len % 4 ≠ 0 ∨ addr % 4 ≠ 0 then L.respond tag stLength []
    else if (List.range len).any (fun i => (regionOf (addr + i)).isNone) then L.respond tag stAddress []
    else
      let L := L.respond tag 0 ((List.range len).map (fun i => L.dbgByte (addr + i)))
      { L with free := L.free + 1 }))

/-- Level a byte's row asks of a write, and whether it may be written now; none where its row refuses every write. -/
def Live.writable (L : Live) (a : Nat) : Option (Nat × Bool) :=
  match regionOf a with
  | some .sram => some (4, bitOf L.dbg.halted (Config.sramIsland a))
  | some .retained => some (4, L.mode.st == .service)
  | some .params => some (4, L.mode.st == .service)
  | some (.window i) => some (4, bitOf L.dbg.halted i)
  | some .logic =>
    let o := a - 0x51000000
    if o < 0x5000 ∨ (0x5400 ≤ o ∧ o < 0x5600) then some (2, L.logicState == 3) else none
  | _ => none

/-- Put a byte into a list of rising addresses. -/
def cellPut (m : List Host.Cell) (a : Nat) (b : Byte) : List Host.Cell :=
  m.filter (fun c => decide (c.1 < a)) ++ (a, b) :: m.filter (fun c => decide (a < c.1))

/-- Put bytes from an address on. -/
def cellPutAll (m : List Host.Cell) : Nat → Bytes → List Host.Cell
  | _, [] => m
  | a, b :: bs => cellPutAll (cellPut m a b) (a + 1) bs

/-- DBG_WRITE (18 R445, R446, R448): V, R and Q at the next commit on both twins, the rest at once at L4. -/
def execDbgWrite (tag : Byte) (addr : Nat) (data : Bytes) (s : State) : Host.Outcome State Fault Refusal :=
  portRun s (fun L => L.inSession tag 2 (fun L =>
    let rows := (List.range data.length).map (fun i => L.writable (addr + i))
    let level := match L.dbg.session with | some d => d.1 | none => 0
    if data.length < 4 ∨ 1024 < data.length ∨ data.length % 4 ≠ 0 ∨ addr % 4 ≠ 0 then L.respond tag stLength []
    else if rows.any (fun r => match r with | some x => decide (level < x.1) | none => false) then L.respond tag stLevel []
    else if rows.any (fun r => match r with | some x => !x.2 | none => true) then L.respond tag stAddress []
    else if regionOf addr = some .logic then L.commitLater tag keyVm (leBytes 4 addr ++ data)
    else
      let L := { L with dbg := { L.dbg with mem := cellPutAll L.dbg.mem addr data } }
      (L.respond tag 0 []).ev 127 9 1 [] (leBytes 4 addr ++ leBytes 4 data.length)))

/-! ### Objects (18 R445) -/

/-- DBG_OD_READ. -/
def execDbgOdRead (tag : Byte) (index sub : Nat) (s : State) : Host.Outcome State Fault Refusal :=
  portRun s (fun L => L.inSession tag 0 (fun L => Live.read s.snap (L.awaits tag) dbgSess index sub))

/-- DBG_OD_WRITE: answered after its commit. An index that the dictionary lacks is refused here, before it could be passed on. -/
def execDbgOdWrite (tag : Byte) (index sub : Nat) (value : Bytes) (s : State) : Host.Outcome State Fault Refusal :=
  portRun s (fun L => L.inSession tag 0 (fun L =>
    let L := L.awaits tag
    if (odRows index).isEmpty then L.refuseArrival dbgSess abIndex
    else L.write dbgSess false (index * 256 + sub) value))

/-! ### The logic engine (18 R447, R448) -/

/-- LOGIC_HALT. -/
def execLogicHalt (tag : Byte) (s : State) : Host.Outcome State Fault Refusal :=
  portRun s (fun L => L.inSession tag 2 (fun L => L.commitLater tag keyHalt []))

/-- LOGIC_STEP: 1 to 16 instructions. -/
def execLogicStep (tag : Byte) (count : Nat) (s : State) : Host.Outcome State Fault Refusal :=
  portRun s (fun L => L.inSession tag 2 (fun L =>
    if count = 0 ∨ 16 < count then L.respond tag stLength [] else L.commitLater tag keyStep (leBytes 1 count)))

/-- LOGIC_STEP_COURSE. -/
def execLogicStepCourse (tag : Byte) (s : State) : Host.Outcome State Fault Refusal :=
  portRun s (fun L => L.inSession tag 2 (fun L => L.commitLater tag keyCourse []))

/-- LOGIC_RUN. -/
def execLogicRun (tag : Byte) (s : State) : Host.Outcome State Fault Refusal :=
  portRun s (fun L => L.inSession tag 2 (fun L => L.commitLater tag keyRun []))

/-! ### Breakpoints and islands (18 R449, R450) -/

/-- Would ISLAND_HALT be accepted now (18 R450)? -/
def Live.haltAllowed (L : Live) : Bool :=
  !L.twin.holds || L.mode.st == .standby || L.mode.st == .service || L.safeDone

/-- Kind of the breakpoint in a slot. -/
def Live.brkKind (L : Live) (slot : Nat) : Option Nat := (L.dbg.brk.getD slot none).map (·.kind)

/-- Slots other than this one that hold a breakpoint of kind 2 or 3. -/
def Live.islandSlots (L : Live) (slot : Nat) : Nat :=
  ((List.range 8).filter (fun i => i != slot && (match L.brkKind i with | some k => decide (2 ≤ k) | none => false))).length

/-- Is a breakpoint well-formed: slot, kind, and the stage or island its parameter names (18 R445, R449)? -/
def brkOk (slot kind param : Nat) : Bool :=
  decide (slot < 8) && decide (kind < 4) && decide (param < 2 ^ 32) && (kind != 2 || decide (param < 64)) &&
  (kind != 3 || decide (fld param 31 24 < 6))

/-- BREAK_SET (18 R449): kinds 0 and 1 are committed, kinds 2 and 3 are this twin's own. -/
def execBreakSet (tag : Byte) (slot kind param : Nat) (s : State) : Host.Outcome State Fault Refusal :=
  portRun s (fun L => L.inSession tag (if kind < 2 then 2 else 4) (fun L =>
    if !brkOk slot kind param then L.respond tag stLength []
    else if kind < 2 then L.commitLater tag keyBreak (leBytes 1 slot ++ leBytes 1 kind ++ leBytes 4 param)
    else if !L.haltAllowed then L.respond tag stToken []
    else if 2 ≤ L.islandSlots slot then L.respond tag stState []
    else (L.setBrk slot (some { kind := kind, param := param, sess := dbgSess, node := L.nodeId })).respond tag 0 []))

/-- BREAK_CLEAR (18 R449), at the level its kind was set with. -/
def execBreakClear (tag : Byte) (slot : Nat) (s : State) : Host.Outcome State Fault Refusal :=
  portRun s (fun L =>
    let own := match L.brkKind slot with | some k => decide (2 ≤ k) | none => false
    L.inSession tag (if own then 4 else 2) (fun L =>
      if 8 ≤ slot then L.respond tag stLength []
      else if own then (L.setBrk slot none).respond tag 0 []
      else L.commitLater tag keyClear (leBytes 1 slot)))

/-- ISLAND_HALT (18 R450). -/
def execIslandHalt (tag : Byte) (island : Nat) (s : State) : Host.Outcome State Fault Refusal :=
  portRun s (fun L => L.inSession tag 4 (fun L =>
    if 6 ≤ island then L.respond tag stLength []
    else if L.haltAllowed then (L.haltIsland island).respond tag 0 []
    else (L.respond tag stToken []).ev 127 7 1 [] (leBytes 1 1)))

/-- ISLAND_RUN (18 R450): it resets the twin with cause 1. -/
def execIslandRun (tag : Byte) (s : State) : Host.Outcome State Fault Refusal :=
  portRun s (fun L => L.inSession tag 4 (fun L => (L.respond tag 0 []).toBoot 4 1))

end Sys2Proof.Machine
end

