-- ==== Sys2Proof/Machine/Power.lean ====
section
/-! DEFINITION. Supply, hold-up, wake, watchdog (02 R42 to R46; 03 R52, R68). -/

namespace Sys2Proof.Machine

/-- One aux input's presence and voltage, held in the range of its object (02 R47). -/
def Live.setAux (L : Live) (input : Fin 2) (on : Bool) (mv : Nat) : Live :=
  let p := if input = 0 then { L.pins with aux1 := on } else { L.pins with aux2 := on }
  let any := p.aux1 || p.aux2
  let p := { p with auxSince := if any then (match L.pins.auxSince with | some t => some t | none => some L.time.clk) else none }
  { L with pins := p }.put (0x200010 + input.val) (min 40000 mv)

/-- AUX_INPUT_PRESENT (02 R42, R43; 03 R52 T1, T2): an input counts as present at 17.0 V rising. DESIGN CHOICE (log 187): an input that
returns during hold-up, before the seal is complete, ends the hold-up alone: PHY and PTP stay down until the next BOOT, and neither
FAST_OFF nor the token comes back by it. -/
def execAuxInputPresent (input : Fin 2) (mv : Nat) (s : State) : Host.Outcome State Fault Refusal :=
  let L := s.live
  if mv < 17000 then .next s
  else
    let had := if input = 0 then L.pins.aux1 else L.pins.aux2
    let L := L.setAux input true mv
    let L := { L with pins := { L.pins with holdup := false } }
    let L := if had then L
      else match L.mode.st with
        | .quarry => L.toBoot 1 5
        | .off => L.toBoot 2 0
        | _ => L.sourceEvent
    .next { s with live := L }

/-- The response to the loss of both aux inputs (02 R44): the loop opens and the token goes to a partner that reports aux
present; else the holder runs the safe-state sequence and the standby opens its own loop. -/
def Live.auxLost (L : Live) : Live :=
  if L.hasPartner ∧ bitOf L.twin.p.pstate 5 then
    let L := L.openLoop
    if L.twin.holds then L.requestHandover false else L
  else if L.twin.holds then L.supplyLossSafe
  else L.openLoop

/-- AUX_INPUT_ABSENT (02 R42 to R44): below 16.0 V for 200 µs. -/
def execAuxInputAbsent (input : Fin 2) (mv : Nat) (s : State) : Host.Outcome State Fault Refusal :=
  let L := s.live
  if 16000 ≤ mv then .next s
  else
    let had := L.pins.aux1 || L.pins.aux2
    let L := L.setAux input false mv
    let L := if L.powered && had && !(L.pins.aux1 || L.pins.aux2) then L.sourceEvent.auxLost else L
    .next { s with live := L }

/-- ALL_SUPPLIES_LOST (02 R45): hold-up; what only the manager role uses is powered down; the token is handed over and the
outputs released with a healthy partner, else the safe-state sequence runs. -/
def execAllSuppliesLost (s : State) : Host.Outcome State Fault Refusal :=
  let L := s.live
  let L := (L.setAux 0 false 0).setAux 1 false 0
  if !L.powered then .next { s with live := L }
  else
    let L := { L with
      pins := { L.pins with holdup := true, phyOn := false }
      mgr := { L.mgr with ptp := {}, conns := List.replicate 8 none, lead := false } }
    let L := L.put 0x500023 0
    let L := L.sourceEvent
    let L := if L.healthyPartner then
        if L.twin.holds then L.requestHandover true
        else (L.setFast .absent).openLoop
      else if L.twin.holds then L.supplyLossSafe
      else L.openLoop
    .next { s with live := L }

/-- HOLDUP_SEAL_COMPLETE (02 R45, 03 R52 T3): journal and recorder are sealed and the module is OFF. -/
def execHoldupSealComplete (s : State) : Host.Outcome State Fault Refusal :=
  run s (fun L =>
    if !L.pins.holdup then L
    else
      let L := (L.setState .off 3).seal
      { (L.setFast .absent) with
        pins := { (L.setFast .absent).pins with contactA := false, contactB := false, elementOpen := false, elemA := false, elemB := false
                                                twinXLow := false, xHeld := false, xLowAt := none
                                                insRelay := false, insVolt := 0, phyOn := false, holdup := false }
        mode := { st := .off } })

/-- WAKE_PULSE (02 R46; 03 R52 T1): at least 10 ms, in QUARRY. -/
def execWakePulse (ms : Nat) (s : State) : Host.Outcome State Fault Refusal :=
  if s.live.mode.st = .quarry ∧ 10 ≤ ms then .next { s with live := s.live.toBoot 1 5 } else .next s

/-- WATCHDOG_EXPIRY (03 R52 T4, R63); the watchdog stands still while an island is halted (18 R450). -/
def execWatchdogExpiry (s : State) : Host.Outcome State Fault Refusal :=
  run s (fun L => if L.dbg.halted = 0 then L.toBoot 4 2 else L)

end Sys2Proof.Machine
end

