-- ==== Sys2Proof/Machine/SafRows.lean ====
section
/-! DEFINITION. The meanings of the safety commands (10). -/

namespace Sys2Proof.Machine

/-! ### Channels -/

/-- CROSS_CHANNEL_EXCHANGE (10 R248, R267): every 1 ms. The exchanged inputs are judged by the other channel, and a difference of
the decisions or of a compared value begins or ends. -/
def execCrossChannelExchange (valueDiff : Bool) (s : State) : Host.Outcome State Fault Refusal :=
  runIn 5 s (fun L =>
    let L := (List.range 8).foldl Live.exchangePair L
    let differ := valueDiff || L.saf.decA != L.saf.decB
    let L := { L with saf := { L.saf with mismatch := if differ then some (L.saf.mismatch.getD L.time.clk) else none } }
    L.relWatch.closeIfDue.settleX)

/-- CROSS_CHANNEL_MISMATCH (10 R248): 10 ms after a difference began, SF-12 on both channels. -/
def execCrossChannelMismatch (s : State) : Host.Outcome State Fault Refusal :=
  runIn 5 s (fun L =>
    match L.saf.mismatch with
    | some t => ((L.reach (t + ms 10)).sf12 1).sf12 2
    | none => L)

/-- The heartbeat word: its epoch must advance by one; two missing in a row are SF-12 of channel B (10 R261). -/
def Live.heartbeatWord (L : Live) (beat : Option Nat) : Live :=
  let good := match beat, L.saf.beat with
    | some b, some a => b % 256 == (a + 1) % 256
    | some _, none => true
    | none, _ => false
  let n := if good then 0 else min (L.saf.beatMissing + 1) 2
  let L := { L with saf := { L.saf with
    beatMissing := n
    beat := match beat with | some b => some (b % 256) | none => L.saf.beat.map (fun a => (a + 1) % 256) } }
  if n = 2 then L.sf12 2 else L

/-- CHANNEL_B_SAMPLE (10 R255, R260, R261): the fluxgate word, the heartbeat word and the plumb-check result. -/
def execChannelBSample (fluxgate : Rat) (beat : Option Nat) (fault : Bool) (s : State) : Host.Outcome State Fault Refusal :=
  runIn 5 s (fun L =>
    if !L.fromStandby then L
    else
      let L := { L with saf := { L.saf with sumB := (L.saf.sumB.1 + fluxgate * fluxgate, L.saf.sumB.2 + 1) } }
      let isOver := decide (q (L.get 0x401103) / 10000 * L.iMax ≤ absQ fluxgate)
      let L := if isOver then L.trip 4 2 2 true false else L
      let L := L.heartbeatWord beat
      if fault then L.trip 11 2 2 true false else L)

/-- FAST_COMPARATOR_TRIP (10 R255 SF-04, R259): the latch is set and FAST_OFF driven OFF directly; both channels see the latch. Before
STANDBY, where 03 R50 and R54 fix FAST_OFF, it is latched alone, and trips at the entry to STANDBY. -/
def execFastComparatorTrip (s : State) : Host.Outcome State Fault Refusal :=
  runIn 5 s (fun L =>
    let L := { L with saf := { L.saf with fastLatch := true } }
    if L.fromStandby then ((L.setFast .off).trip 4 1 1 true false).trip 4 2 2 true false else L)

/-- FAST_COMPARATOR_CHECK (10 R259): every 10 s while driving; a failed check is a cause of SF-12. -/
def execFastComparatorCheck (passed : Bool) (s : State) : Host.Outcome State Fault Refusal :=
  runIn 5 s (fun L => if L.driving && !passed then L.sf12 1 else L)

/-- Mean of i² of a block. -/
def blockMean (x : Rat × Nat) : Rat := if x.2 = 0 then 0 else x.1 / q (x.2 : Int)

/-- I2T_BLOCK (10 R260): both integrals over a 100 ms block; SF-05 at the limit. -/
def execI2tBlock (s : State) : Host.Outcome State Fault Refusal :=
  runIn 5 s (fun L =>
    let ic := q (L.ctl 0x401104) / 10000 * L.iMax
    let next := fun (e : Rat) (x : Rat × Nat) => maxQ 0 (e + (blockMean x - ic * ic) / 10)
    let eA := next L.saf.eA L.saf.sumA
    let eB := next L.saf.eB L.saf.sumB
    let L := { L with saf := { L.saf with eA := eA, eB := eB, sumA := (0, 0), sumB := (0, 0) } }
    let L := if L.i2tLimit ≤ eA then L.trip 5 1 1 false false else L
    if L.i2tLimit ≤ eB then L.trip 5 2 2 false false else L)

/-! ### The sequence -/

/-- SEQ_STEP1_END (10 R249, R250; 03 R58): |i| ≤ I_dead, or 1 ms after the decision; in a shut-down 100 ms after both limits reached
zero. Channel A of the active twin alone runs step 1 of a class S trip; a standby holds off instead. -/
def execSeqStep1End (s : State) : Host.Outcome State Fault Refusal :=
  runIn 5 s (fun L =>
    match L.mode.seq with
    | some sq =>
      if sq.step ≠ 1 ∨ (!L.twin.holds ∧ sq.kind ≠ .shutdown) then L
      else if L.iZero then L.toStep2.seqOn
      else if sq.kind = .shutdown then
        match L.conv.zeroAt with
        | some t => (L.reach (t + ms 100)).toStep2.seqOn
        | none => L
      else (L.reach (sq.since + ms 1)).toStep2.seqOn
    | none => L)

/-- The channel that held off drives OFF: channel B of the active twin, both of the standby, whose decision is a hazard from here (10
R250; 02 R33). -/
def Live.holdoffEnds (L : Live) : Live :=
  let L := { L with saf := { L.saf with holdoff := none, hazard := true } }.setPath (if L.twin.holds then 2 else 3) .off
  if L.stepOf = 1 then L.toStep2.seqOn else L

/-- CLASS_S_HOLDOFF_EXPIRY (10 R250): 1.2 ms after a class S decision. -/
def execClassSHoldoffExpiry (s : State) : Host.Outcome State Fault Refusal :=
  runIn 5 s (fun L =>
    match L.saf.holdoff with
    | some t => (L.reach t).holdoffEnds
    | none => L)

/-- LINTEL_OPEN_TIMEOUT (10 R251): 2 ms after the twin's FAST_OFF went OFF, with the active twin's before its own step 2 or with that, the
contacts open without SSW_FB. -/
def execLintelOpenTimeout (s : State) : Host.Outcome State Fault Refusal :=
  runIn 5 s (fun L =>
    match L.mode.seq with
    | some sq =>
      (match sq.step, L.pins.offSince with
       | 1, some t => (L.reach (t + ms 2)).toStep3.seqOn
       | 2, some t => (L.reach (min t (sq.offAt.getD t) + ms 2)).toStep3.seqOn
       | _, _ => L)
    | none => L)

/-- STEP4_BLOCKED_TIMEOUT (10 R252): fewer than two indications show open 2 s after step 3 began. -/
def execStep4BlockedTimeout (s : State) : Host.Outcome State Fault Refusal :=
  runIn 5 s (fun L =>
    match L.mode.seq with
    | some sq =>
      (match sq.step3At with
       | some t =>
         if sq.step = 3 ∧ !sq.blocked ∧ L.shownOpen < 2 then
           let L := (L.reach (t + sec 2)).setSeq (fun x => { x with blocked := true })
           L.raise 108 5 2 [] L.tripPayload
         else L
       | none => L)
    | none => L)

/-! ### The lintel test (10 R263) -/

/-- LOOP_TEST (10 R263): at its instant in each 10 s of module time, 0 s and 5 s for channels A and B of the lower twin, 2.5 s and 7.5 s
of the upper, one contact opens, while the string is driven and the partner reports at least 100 mA; else the test is skipped. -/
def execLoopTest (channelB : Bool) (s : State) : Host.Outcome State Fault Refusal :=
  runIn 5 s (fun L =>
    if !L.driving ∨ L.saf.test.isSome then L
    else
    let L := L.toPhase (sec 10) (ms ((if L.nodeId < 65 then 0 else 2500) + (if channelB then 5000 else 0)))
    if L.inStep ∧ 100 ≤ L.twin.p.loopi then
      let L := { L with
        pins := (if channelB then { L.pins with contactB := false } else { L.pins with contactA := false })
        saf := { L.saf with test := some (channelB, L.time.clk) } }
      L.updExpect
    else L.put 0x404005 (setBit (L.getN 0x404005) 2 true : Nat))

/-- LOOP_TEST_EXPIRY: 1 ms later the loop current is judged; the contact recloses, or the test fails with SF-12. -/
def execLoopTestExpiry (loopMa : Nat) (s : State) : Host.Outcome State Fault Refusal :=
  runIn 5 s (fun L =>
    match L.saf.test with
    | some (b, t) =>
      let L := L.reach (t + ms 1)
      let L := L.put 0x200015 (min loopMa 3000 : Nat)
      let ok := decide (loopMa < 10)
      let r := setBit (setBit (L.getN 0x404005) 2 false) (if b then 1 else 0) ok
      let L := L.put 0x404005 r
      let still := L.driving && decide (L.stepOf < 3)
      let L := { L with
        saf := { L.saf with test := none }
        pins := (if !still then L.pins else if b then { L.pins with contactB := true } else { L.pins with contactA := true }) }
      let L := if ok then L.updExpect.senseLoop else L.updExpect
      if ok then L
      else
        let ch := if b then 2 else 1
        (L.raise 108 ch 2 [] L.tripPayload).sf12 ch
    | none => L)

/-! ### Inputs and feedback -/

/-- SAFETY_INPUT_CHANGE (10 R267, R268): an input's level changes, filtered and debounced (log 190); a low that its own test pulse
explains is ignored, and the channel whose own input goes to demand trips at once. -/
def execSafetyInputChange (pair : Fin 8) (channelB on : Bool) (s : State) : Host.Outcome State Fault Refusal :=
  runIn 5 s (fun L =>
    let i := pair.val
    if !on ∧ L.blanked i channelB then L
    else
    let L := L.modPair i (fun p => if channelB then { p with b := on } else { p with a := on })
    if L.getN (pairKey i 1) = 0 then L
    else
      let L := L.judgePair i
      if L.inDemand i channelB then L.pairTrip i (if channelB then 2 else 1) else L)

/-- INPUT_DISCREPANCY_TIMEOUT (10 R267): the disagreement has lasted the discrepancy time. -/
def execInputDiscrepancyTimeout (pair : Fin 8) (s : State) : Host.Outcome State Fault Refusal :=
  runIn 5 s (fun L =>
    let i := pair.val
    match (L.pair i).discSince with
    | some t =>
      if (L.pair i).disc ∨ L.getN (pairKey i 1) = 0 then L
      else
        let L := L.reach (t + ms (L.getN (pairKey i 3)))
        let L := L.modPair i (fun p => { p with disc := true, passA := false, passB := false })
        L.raise 109 1 2 (leBytes 1 i) L.tripPayload
    | none => L)

/-- FB_KP or FB_KN at a test pulse: one that shows its contactor open carries the pulses of its own output, and no others
(10 R268, R269). -/
def Live.pulseFeedback (L : Live) (neg own low : Bool) : Live :=
  if !L.kOpen neg ∨ L.saf.fbFault then L
  else
    let n := if neg then L.saf.fbMiss.2 else L.saf.fbMiss.1
    let n := if own then (if low then 0 else n + 1) else n
    let L := { L with saf := { L.saf with fbMiss := if neg then (L.saf.fbMiss.1, min n 2) else (min n 2, L.saf.fbMiss.2) } }
    if n = 2 ∨ (!own && low) then
      { L with saf := { L.saf with fbFault := true } }.sf09 11 true false false
    else L

/-- The next module time at which T1, or T2, is pulled low: ≡ 0 ms, or ≡ 10 ms, mod 20 ms (10 R268). -/
def Live.toPulse (L : Live) (t2 : Bool) : Live :=
  let off := if t2 then ms 10 else 0
  let L := L.pass ((ms 20 - (L.time.mtime + ms 20 - off) % ms 20) % ms 20)
  { L with pins := { L.pins with pulseAt := if t2 then (L.pins.pulseAt.1, some L.time.clk) else (some L.time.clk, L.pins.pulseAt.2) } }

/-- TEST_PULSE_START (10 R268, R269): T1 or T2 is pulled low for 300 µs; T1 feeds the A inputs and FB_KP, T2 the B inputs and FB_KN. -/
def execTestPulseStart (t2 : Bool) (lowA lowB : Nat) (fbLowP fbLowN : Bool) (s : State) : Host.Outcome State Fault Refusal :=
  runIn 5 s (fun L =>
    let L := L.toPulse t2
    let L := (List.range 8).foldl (fun L i => (L.pulseInput (!t2) lowA false i).pulseInput t2 lowB true i) L
    (L.pulseFeedback false (!t2) fbLowP).pulseFeedback true t2 fbLowN)

/-- FEEDBACK_INPUT_CHANGE (10 R249 to R252, R257, R269, R270): FB_KP, FB_KN or SSW_FB changes; the step ends it shows are taken, and
with the switch open a channel that held off drives OFF. -/
def execFeedbackInputChange (input : Fin 3) (showsOpen : Bool) (s : State) : Host.Outcome State Fault Refusal :=
  runIn 5 s (fun L =>
    let L := { L with pins := match input.val with
      | 0 => { L.pins with fbKpOpen := showsOpen }
      | 1 => { L.pins with fbKnOpen := showsOpen }
      | _ => { L.pins with sswOpen := showsOpen } }
    let L := L.fbClock input
    if input.val = 2 then
      let L := if showsOpen then
          { L with saf := { L.saf with seg := L.saf.seg.map (fun (w : SegWatch) => { w with missing := 0 }) } } else L
      let L := if showsOpen ∧ L.saf.holdoff.isSome then L.holdoffEnds else L
      L.seqOn
    else L.seqOn.insContactors)

/-- CONTACTOR_OPEN_TIMEOUT (10 R269): still closed after the loops opened: SF-09 code 5 or 6 and the reclose block. -/
def execContactorOpenTimeout (negative : Bool) (s : State) : Host.Outcome State Fault Refusal :=
  runIn 5 s (fun L =>
    if L.saf.expect.2 ∨ L.kOpen negative then L
    else (L.reach (L.saf.expect.1 + ms (L.getN 0x401301))).sf09 (if negative then 6 else 5) true false false)

/-- CONTACTOR_CLOSE_TIMEOUT (10 R269): not closed after a loop closed: SF-09 code 7, in phase 1 also a precharge fault, code 5. -/
def execContactorCloseTimeout (negative : Bool) (s : State) : Host.Outcome State Fault Refusal :=
  runIn 5 s (fun L =>
    if !L.saf.expect.2 ∨ !L.kOpen negative then L
    else
      let phase1 := L.mode.st == .precharge && L.conv.phase == 1
      let L := (L.reach (L.saf.expect.1 + ms (L.getN 0x401302))).sf09 7 false false false
      if phase1 then L.prechargeFault 5 else L)

/-- UNEXPECTED_OPENING_TIMEOUT (10 R269): a contactor shows open while expected closed: SF-09 code 10, class S. In phase 1 it has not
closed yet. -/
def execUnexpectedOpeningTimeout (negative : Bool) (s : State) : Host.Outcome State Fault Refusal :=
  runIn 5 s (fun L =>
    let phase1 := L.mode.st == .precharge && L.conv.phase == 1
    if !L.expectsClosed ∨ !L.kOpen negative ∨ phase1 then L
    else
      let t := max L.saf.expect.1 (L.pins.fbAt.getD (if negative then 1 else 0) 0)
      (L.reach (t + ms (L.getN 0x401303))).sf09 10 false true false)

/-- Clock at which the OFF now driven, by this twin or its partner, began (10 R270). -/
def Live.offBegan (L : Live) : Nat :=
  let own := if L.pins.fastOff = .off then L.pins.offSince else none
  let other := if L.partnerFast = 2 then L.saf.theirOff.1 else none
  match own, other with
  | some a, some b => min a b
  | some a, none => a
  | none, some b => b
  | none, none => L.time.clk

/-- SWITCH_DISCREPANCY_TIMEOUT (10 R270): SSW_FB against the FAST_OFF states of both twins, timed from the last change of any of the
three. -/
def execSwitchDiscrepancyTimeout (s : State) : Host.Outcome State Fault Refusal :=
  runIn 5 s (fun L =>
    let own := L.pins.fastOff
    let other := L.partnerFast
    let sw := max (L.pins.fbAt.getD 2 0) (max L.pins.fastAt L.saf.theirFast.2)
    if !L.pins.sswOpen then
      if own = .off ∨ other = 2 then
        let L := (L.reach (L.offBegan + ms 2)).sf09 8 true false false
        if L.stepOf = 2 then L.toStep3.seqOn else L.openLoop
      else if own = .permit ∨ other = 1 then L
      else
        let L := (L.reach (max sw (max (L.pins.offEnded.getD 0) (L.saf.theirOff.2.getD 0) + ms 2) + ms 1)).sf09 9 true true true
        if L.stepOf = 2 then L.toStep3.seqOn else L
    else if (L.mode.st = .run ∨ L.mode.st = .derated) ∧ own = .permit ∧ (!L.hasPartner ∨ other = 1) then
      (L.reach (sw + ms 1)).sf09 10 false true false
    else L)

/-! ### Bay trip and release -/

/-- BAY_TRIP_READ (10 R271, 02 R39): loop current below 4 mA is read as a bay trip by both channels. -/
def execBayTripRead (loopMa : Nat) (s : State) : Host.Outcome State Fault Refusal :=
  runIn 5 s (fun L =>
    let L := { L with saf := { L.saf with
      bayMa := loopMa
      bayRead := (if loopMa < 4 then some (L.saf.bayRead.getD L.time.clk) else none)
      bayHeld := L.saf.bayHeld && decide (loopMa < 4) } }
    if loopMa < 4 then
      (L.trip 13 1 1 false false).alsoB 13 false
    else L)

/-- BAY_TRIP_HELD_TIMEOUT (10 R271): held for more than 1 s. -/
def execBayTripHeldTimeout (s : State) : Host.Outcome State Fault Refusal :=
  runIn 5 s (fun L =>
    match L.saf.bayRead with
    | some t =>
      if L.saf.bayHeld then L
      else
        let L := L.reach (t + sec 1)
        { L with saf := { L.saf with bayHeld := true } }.raise 111 3 1 [] L.tripPayload
    | none => L)

/-- SAFETY_RELEASE_TIMER (10 R262): the release condition of a latched cause has held for its time. -/
def execSafetyReleaseTimer (cause : Fin 13) (s : State) : Host.Outcome State Fault Refusal :=
  runIn 5 s (fun L =>
    let n := cause.val + 1
    if L.relOpen n && L.relHolds n then
      let t := (L.saf.relSince.getD cause.val none).getD L.time.clk
      (L.reach (t + L.relTime n)).release_ n
    else L)

/-- SAFETY_CMD_RELEASE_SF09 (10 R262). -/
def execSafetyCmdReleaseSf09 (sess : Sess) (s : State) : Host.Outcome State Fault Refusal :=
  run s (fun L => L.command sess 3 0x404008 (leBytes 1 1) (fun L => L.orAbort (L.cmdSafety 1)))

/-- SAFETY_CMD_RELEASE_DEEP_SF02 (10 R262). -/
def execSafetyCmdReleaseDeepSf02 (sess : Sess) (s : State) : Host.Outcome State Fault Refusal :=
  run s (fun L => L.command sess 3 0x404008 (leBytes 1 2) (fun L => L.orAbort (L.cmdSafety 2)))

/-! ### The insulation monitor -/

/-- PE_PATH_TEST (02 R26): every 10 s; above 10 Ω, or open, is the connection fault. -/
def execPePathTest (tenthOhm : Option Nat) (s : State) : Host.Outcome State Fault Refusal :=
  runIn 5 s (fun L =>
    if !L.fromStandby then L
    else
      let bad := match tenthOhm with | some r => decide (100 < r) | none => true
      let L := L.put 0x200019 (match tenthOhm with | some r => min r 1000 | none => 0xFFFF : Nat)
      let new := bad && !L.saf.insConn
      let L := { L with saf := { L.saf with insConn := bad } }.selfBit 19 bad
      let L := if new then L.raise 110 2 2 [] L.tripPayload else L
      L.insRelay)

/-- The next end of a half-period, a whole second of module time, from which the wave has its other sign, or injection stands still in the
listen gap, which may end here (10 R272, R274). -/
def Live.toHalf (L : Live) : Live :=
  let L := L.pass (sec 1 - L.time.mtime % sec 1)
  let gap := L.saf.insGap.filter (fun t => decide (L.time.mtime < t))
  { L with
    pins := { L.pins with insVolt := if L.pins.insRelay && gap.isNone then waveAt L.time.mtime else 0 }
    saf := { L.saf with insGap := gap } }

/-- INSULATION_HALF_PERIOD (10 R272, R275): an estimate counts from the third half-period end after a change of the measured
system, the first that completes a whole period. A half-period of the listen gap gives none (10 R274; DESIGN CHOICE, log 222). -/
def execInsulationHalfPeriod (estA estB : Option Nat) (nF : Nat) (s : State) : Host.Outcome State Fault Refusal :=
  runIn 5 s (fun L =>
    let gap := L.saf.insGap.isSome
    let L := (L.toHalf).insRelay
    if !L.pins.insRelay ∨ gap then L
    else
      let n := min (L.saf.insHalves + 1) 3
      let L := { L with saf := { L.saf with insHalves := n } }
      if n < 3 then L
      else
        let L := L.insReport estA nF
        if L.insWants = 1 then L.insOnBus estA estB else L.insOwn estA)

/-- INSULATION_SELFTEST (10 R272): every 24 h and on command, which the spec gives no object: the internal 100 kΩ reference must read
within ±10 %. -/
def execInsulationSelftest (ohm : Nat) (s : State) : Host.Outcome State Fault Refusal :=
  runIn 5 s (fun L =>
    if !L.fromStandby then L
    else
      let bad := decide (ohm < 90000 ∨ 110000 < ohm)
      let L := L.selfBit 11 bad
      let L := if bad then L.raise 110 5 2 [] L.tripPayload else L
      L.insRelay)

/-- INSULATION_LISTEN_GAP (10 R274): from 2 n s into each 120 s of module time the injection stops for 2 s; more than 5 V heard is a second
injector. Which of the two has the higher node-ID is the other module's fact: a free value (log 15). -/
def execInsulationListenGap (heardMv : Nat) (s : State) : Host.Outcome State Fault Refusal :=
  runIn 5 s (fun L =>
    if L.insWants ≠ 1 then L
    else
    let L := L.toPhase (sec 120) (sec (2 * L.lower))
    let L := { L with
      pins := { L.pins with insVolt := 0 }
      saf := { L.saf with insGap := some (L.time.mtime + sec 2) } }
    if 5000 < heardMv then
      let other := (Config.freeInt L.free % 33 + 1).toNat
      let L := { L with free := L.free + 1 }.raise 110 4 1 [] L.tripPayload
      if other < L.lower then ({ L with saf := { L.saf with insDup := true } }.setRole false).insRelay else L
    else L)

/-- UNMONITORED_LIMIT_EXPIRY (10 R276): event 110 code 3, and enables are refused. -/
def execUnmonitoredLimitExpiry (s : State) : Host.Outcome State Fault Refusal :=
  runIn 5 s (fun L =>
    match L.saf.unmonSince with
    | some t =>
      if L.saf.unmonExpired then L
      else
        let L := L.reach (t + sec (L.getN 0x402205))
        { L with saf := { L.saf with unmonExpired := true } }.raise 110 3 1 [] L.tripPayload
    | none => L)

/-! ### SRDOs (10 R277) -/

/-- Data of SRDO 1, in the order R277 names it; its bytes are the model's (log 27). -/
def Live.srdoStatus (L : Live) : Bytes :=
  leBytes 1 L.mode.st.code ++ leBytes 2 (L.getN 0x404001) ++ leBytes 1 L.insState ++ leBytes 1 (L.getN 0x402203)

/-- Plain data of a produced SRDO: the objects of the odd entries of its mapping, in the committed snapshot; the even ones name their
inverted copies (10 R277; PRESUMED after EN 50325-5, log 223). -/
def Live.srdoData (snap L : Live) (k : Nat) : Bytes :=
  (((L.pdoMap (0x1381 + k)).zipIdx.filter (fun x => x.2 % 2 == 0)).flatMap (fun x => snap.mapped x.1.1 x.1.2)).take 8

/-- An SRDO leaves: its normal frame and its inverted frame, in class 0. -/
def Live.sendSrdo (L : Live) (cob cobInv : Nat) (d : Bytes) : Live :=
  L.enqueueClass0 0 0 [(canFrame cob d, 1), (canFrame cobInv (inverted d), 2)]

/-- SRDO_REFRESH (10 R277; 11 R284): SRDO 1 and the others set to be produced by the active twin, the bay safety SRDO by the lead
manager. -/
def execSrdoRefresh (s : State) : Host.Outcome State Fault Refusal :=
  runIn 4 s (fun L =>
    let L := L.noticeWatch
    if L.com.nmt ≠ 5 ∨ L.unassigned ∨ L.mode.dupHeard then L
    else
      let L := if L.active ∧ L.srdoOn 0 1 then
          L.sendSrdo (0xFF + 2 * L.lower) (0x100 + 2 * L.lower) L.srdoStatus
        else L
      let L := if !L.active then L
        else ((List.range 8).filter (fun k => k != 0 && L.srdoOn k 1)).foldl (fun L k =>
          L.sendSrdo (L.getN ((0x1301 + k) * 256 + 5)) (L.getN ((0x1301 + k) * 256 + 6)) (Live.srdoData s.snap L k)) L
      if L.mgr.lead then
        let n := (L.com.baySeq + 1) % 256
        let d := leBytes 2 L.sf06Notices ++ leBytes 1 n
        let L := { L with com := { L.com with baySeq := n } }
        L.sendSrdo 0x143 0x144 d
      else L)

/-- SRDO_SCT_EXPIRY (10 R255 SF-10, R277): a consumed SRDO not valid within its SCT trips both channels. -/
def execSrdoSctExpiry (k : Fin 8) (s : State) : Host.Outcome State Fault Refusal :=
  runIn 5 s (fun L =>
    if !L.srdoOn k.val 2 then L
    else
      let t := (L.saf.srdoAt.getD k.val none).getD L.time.clk
      let L := L.reach (t + ms (L.getN ((0x1301 + k.val) * 256 + 2)))
      (L.trip 10 1 1 false false).trip 10 2 2 false false)

/-! ### TWIN_X (02 R40) -/

/-- TWIN_X_LOW_DETECTED: a low of at least 500 µs is a trip command, a shorter one the partner's test pulse; the function is the one
its frames name, if any. -/
def execTwinXLowDetected (us : Nat) (s : State) : Host.Outcome State Fault Refusal :=
  runIn 5 s (fun L =>
    if us < 500 then
      -- A pulse shows the line released: a command that only the line carried has ended (10 R253).
      let L := { L with
        saf := { L.saf with xSeen := some L.time.clk }
        pins := { L.pins with xIn := false } }
      if L.hasPartner && bitOf L.twin.p.safe 4 then L else L.endObeyed
    else
      let L := { L with pins := { L.pins with xIn := true } }
      let p := L.twin.p
      let named := L.hasPartner && bitOf p.safe 4 && decide (1 ≤ p.tripfn ∧ p.tripfn ≤ 13)
      L.obey (if named then { d0 := p.tripfn, bay := bitOf p.safe 5, classF := bitOf p.safe 6 }
        else { d0 := 0, bay := false, classF := true }))

/-- TWIN_X_TEST_PULSE: every 10 s; the pulse before must have been reported seen by the partner. -/
def execTwinXTestPulse (s : State) : Host.Outcome State Fault Refusal :=
  runIn 5 s (fun L =>
    if !L.fromStandby then L
    else
      let L := if L.saf.xTest.isSome && L.hasPartner && !bitOf L.twin.p.pstate 7 then L.twinEv 120 4 1 [] else L
      { L with saf := { L.saf with xTest := some L.time.clk } })

end Sys2Proof.Machine
end

