-- ==== Sys2Proof/Machine/Shape.lean ====
section
/-! DEFINITION. The shape that every state of the block has: the logic engine's memory in its canonical form, and as many segments,
nodes, buses, buffers, inputs, sensors, cell contexts, connections and breakpoints as the spec gives the block. -/

namespace Sys2Proof.Machine

/-- Segments, nodes and what stands beside each of them: 16 (05, 06); 512 cell contexts (08 R207), ten sensors of a node and
four of the module (09 R233). -/
def Live.shapedString (L : Live) : Bool :=
  L.seg.length == 16 && L.node.length == 16 && L.saf.seg.length == 16 && L.est.ctx.length == 512 && L.est.seg.length == 16 &&
  L.th.mod.length == 4 && L.th.seg.length == 16 && L.ret.ctx.length == 512 && L.ret.seg.length == 16 && L.ret.q.length == 16

/-- Two buses of three transmit buffers (11 R289), eight SRDOs (10 R277), eight connections (13 R350). -/
def Live.shapedComms (L : Live) : Bool :=
  L.com.bus.length == 2 && L.com.bus.all (fun c => c.tb.length == 3) && L.com.lssConf.length == 2 && L.saf.srdoHalf.length == 8 &&
  L.mgr.conns.length == 8

/-- Eight pairs of safety inputs, thirteen safety functions, three contact feedbacks, two banks, eight breakpoints (10 R266,
R269; 14 R363; 18 R449). -/
def Live.shapedUnits (L : Live) : Bool :=
  L.saf.pairs.length == 8 && L.saf.released.length == 13 && L.saf.relSince.length == 13 && L.pins.fbAt.length == 3 &&
  L.lgc.bankOk.length == 2 && L.dbg.brk.length == 8

/-- The whole shape. -/
def Live.shaped (L : Live) : Bool := Memory.wf L.lgc.vm.mem && L.shapedString && L.shapedComms && L.shapedUnits

end Sys2Proof.Machine
end

