-- ==== Sys2Proof/Machine/Twin.lean ====
section
/-! DEFINITION. The mirror frame as received, the pair states, state transfer, takeover and handover (15 R386 to R404). -/

namespace Sys2Proof.Machine

/-! ### Copies and paths (15 R386, R387, R404) -/

/-- One fibre path: a copy counts as 0 none, 1 invalid, 2 valid. Invalid copies are counted, a hundred frames in a row without a valid
copy are reported, and so is the next valid one. Received power is measured: a free value (log 15). -/
def Live.fibre (L : Live) (path copy : Nat) : Live :=
  let L := if copy = 1 then L.bump (0x4A000A + path) 1 32 else L
  let L := (L.put (0x4A0007 + path) (if copy = 0 then -32768 else Config.freeInt L.free % 4501 - 4000))
  let L := { L with free := L.free + 1 }
  let n := L.twin.dead.getD path 0
  let n' := if copy = 2 then 0 else min 100 (n + 1)
  let L := { L with twin := { L.twin with dead := L.twin.dead.set path n' } }
  if n' = 100 ∧ n < 100 then L.twinEv 120 1 1 (leBytes 1 path)
  else if n' = 0 ∧ n = 100 then L.twinEv 120 2 0 (leBytes 1 path)
  else L

/-- Is a copy of this frame valid here: whole, FCRC right, CEPOCH that of the frame awaited (15 R387)? -/
def Live.frameOk (L : Live) (f : Bytes) : Bool :=
  f.length == 1024 && crc32c (f.take 1020) == le f 1020 4 && (le f 4 8 == L.epoch || le f 4 8 + 1 == L.epoch)

/-! ### Storing the frame (15 R389) -/

/-- The fields of a frame that say how the partner stands. -/
def Live.storeFrame (L : Live) (f : Bytes) : Live :=
  let healthy := bitOf (byteAt f 3) 4
  { L with twin := { L.twin with
      missing := 0
      carry := (List.range 5).map (fun i => le f (98 + 4 * i) 4)
      p := { L.twin.p with
        cepoch := some (le f 4 8)
        schema := le f 0 2
        node := byteAt f 2
        pstate := byteAt f 3
        healthyRun := if healthy then L.twin.p.healthyRun + 1 else 0
        kepoch := le f 12 8
        tgen := byteAt f 20
        token := byteAt f 21
        safe := byteAt f 22
        tripfn := byteAt f 23
        loopi := le f 24 2
        tmod := toSigned 16 (le f 26 2)
        uvalid := le f 28 2
        ish := le f 94 4
        lastref := le f 118 8 } } }

/-- When the partner's FAST_OFF went OFF, and when its last OFF ended, as its frames show it (10 R270). -/
def Live.partnerOff (L : Live) : Live :=
  let off := L.partnerFast == 2
  { L with saf := { L.saf with
    theirFast := if L.saf.theirFast.1 = L.partnerFast then L.saf.theirFast else (L.partnerFast, L.time.clk)
    theirOff :=
      if off then (some (L.saf.theirOff.1.getD L.time.clk), L.saf.theirOff.2)
      else (none, if L.saf.theirOff.1.isSome then some L.time.clk else L.saf.theirOff.2) } }

/-- A word of the partner's receivers counts as received here where it is valid (10 R257). -/
def Live.forwardedWords (L : Live) (f : Bytes) : Live :=
  (List.range 16).foldl (fun (L : Live) s =>
    let ok := bitOf (le f 28 2) s && wordOk s L.lower (le f 4 8 - 1) (slice f (126 + 6 * s) 6)
    L.modWatch s (fun x => { x with fwd := ok, missing := if ok then 0 else x.missing })) L

/-! ### Pairing (15 R398) -/

/-- The check of pairing that fails, 0 none: 1 SENDER, 2 HSCHEMA major, 3 safety set; none while the partner's set is not yet known. -/
def Live.pairCheck (L : Live) : Option Nat :=
  let p := L.twin.p
  if p.node ≠ L.twinId then some 1
  else if p.schema / 256 ≠ L.numN 0x4A0005 / 256 then some 2
  else if !L.ks.confirmed then some 0
  else match p.safeCrc with
    | none => none
    | some (c, conf) => some (if conf ∧ c ≠ L.activeCrc then 3 else 0)

/-- The pairing is refused with a check; event 121 code 3 as it enters pair state 4. -/
def Live.refusePair (L : Live) (check : Nat) : Live :=
  let was := L.twin.pair
  let L := { L with twin := { L.twin with
    pair := 4
    refused := check } }
  if was = 4 then L else L.twinEv 121 3 2 (leBytes 1 check)

/-- Pairing passes: into a state transfer, unless KEPOCH and EDIG agree already. -/
def Live.passPair (L : Live) (f : Bytes) : Live :=
  let same := L.twin.p.kepoch == L.ks.epoch && le f 86 4 == L.twin.edig
  { L with twin := { L.twin with
    pair := 2
    refused := 0
    transfer := none
    transferDue := !same
    matched := (0, false)
    mism := [0, 0, 0]
    mirrored := []
    due := none } }

/-- In step: event 121 code 1; at the active twin the transfer, if one ran, is complete. -/
def Live.enterStep (L : Live) : Live :=
  let ran := L.twin.transfer
  let L := { L with
    twin := { L.twin with
      pair := 3
      transfer := none
      transferDue := false
      mism := [0, 0, 0]
      refused := 0 }
    saf := { L.saf with loneSince := L.time.clk } }
  let L := match ran with
    | some (t, _) =>
      let d := min 65535 ((L.time.clk - t) / 1000000)
      ((L.put 0x4A0010 d).bump 0x4A000F 1 16).twinEv 123 2 0 (leBytes 2 d)
    | none => L
  L.breakClean.twinEv 121 1 0 []

/-- The in-step state ends, or, where matching had only begun, the transfer is to be made again (15 R391). -/
def Live.dropStep (L : Live) (cause : Nat) : Live :=
  if L.inStep then L.leaveStep cause
  else if L.twin.pair = 2 then { L with twin := { L.twin with
    transfer := none
    transferDue := true
    matched := (0, false)
    heldCommits := []
    heldSweeps := []
    due := none } }
  else L

/-- The pair state at a valid frame; `old` is the PSTATE byte of the frame before. -/
def Live.pairStep (L : Live) (f : Bytes) (old : Nat) : Live :=
  let theirs := fld L.twin.p.pstate 3 2
  let L := if L.twin.pair = 0 then { L with twin := { L.twin with
    pair := 1
    rxBulk := [] } } else L
  if L.twin.pair = 1 ∨ L.twin.pair = 4 then
    match L.pairCheck with
    | none => L
    | some 0 => L.passPair f
    | some n => L.refusePair n
  else if L.twin.pair = 3 ∧ fld old 3 2 = 3 ∧ theirs ≠ 3 then L.leaveStep 5
  else if L.twin.pair = 2 ∧ L.twin.holds ∧ theirs = 3 then L.enterStep
  else if L.tracks ∧ L.twin.pair = 2 ∧ 10 ≤ L.twin.matched.1 ∧ L.twin.matched.2 then L.enterStep
  else L

/-! ### Comparisons (15 R394 to R396) -/

/-- One comparison of a kind: 0 SDIG, 1 EDIG, 2 arrangement. Three mismatches in a row start the pair check; that of the arrangement,
which the standby alone compares, is told to the active twin on channel 7 (15 R396; log 27). -/
def Live.compared (L : Live) (kind : Nat) (ok : Bool) : Live :=
  let n := if ok then 0 else min 3 (L.twin.mism.getD kind 0 + 1)
  let L := { L with twin := { L.twin with mism := L.twin.mism.set kind n } }
  let L := if ok then L else L.bump 0x4A000C 1 32
  if n = 3 ∧ !L.twin.check ∧ L.inStep then
    (if kind = 2 then L.toPartner 7 (leBytes 1 6 ++ leBytes 1 kind) else L).startCheck kind
  else L

/-- SDIG of the same sample: in step it is compared, before that the matches in a row are counted. -/
def Live.cmpState (L : Live) (f : Bytes) : Live :=
  let ok := slice f 82 4 == slice L.twin.mine 82 4
  if L.inStep then L.compared 0 ok
  else { L with twin := { L.twin with matched := (if ok then L.twin.matched.1 + 1 else 0, L.twin.matched.2) } }

/-- EDIG, once per sweep. -/
def Live.cmpSweep (L : Live) (f : Bytes) : Live :=
  let sweep := le f 90 4
  if sweep ≠ le L.twin.mine 90 4 ∨ L.twin.edigAt = some sweep then L
  else
    let ok := slice f 86 4 == slice L.twin.mine 86 4
    let L := { L with twin := { L.twin with edigAt := some sweep } }
    if L.inStep then L.compared 1 ok
    else { L with twin := { L.twin with matched := (L.twin.matched.1, L.twin.matched.2 || ok) } }

/-- The standby takes the active twin's arrangement for its next release: A, NACT, the slots, and CIDX counted on by as many samples as
the standby itself has released since the frame's (15 R394). The frame carries no LFSR state (15 R389). -/
def Live.adoptArrangement (L : Live) (f : Bytes) : Live :=
  let mask := le f 64 2
  let act := (List.range 16).filter (fun s => bitOf mask s)
  let n := act.length
  let own := 2 * max 1 (byteAt L.twin.mine 62)
  let since := if L.conv.nact = byteAt L.twin.mine 62 then (L.conv.cidx + own - byteAt L.twin.mine 63 % own) % own else 1
  { L with conv := { L.conv with
    act := act
    nact := byteAt f 62
    cidx := if n = 0 then 0 else (byteAt f 63 + since) % (2 * max 1 (byteAt f 62))
    slots := act.map (fun s => (s, byteAt f (66 + s) % 16)) } }

/-- AMASK, NACT, CIDX and SEGCMD for the same governed superframe, at the standby. -/
def Live.cmpArrangement (L : Live) (f : Bytes) : Live :=
  if L.twin.holds then L
  else
    let ok := slice f 62 20 == slice L.twin.mine 62 20
    let L := if L.inStep then L.compared 2 ok else L
    if ok then L else L.adoptArrangement f

/-- The uplinks of the superframe before are judged: valid at both twins, and the same frame of the node at both; where the twins
received different frames, the set counts as missing at both, with the link event (15 R394, R395). -/
def Live.cmpUplinks (L : Live) (f : Bytes) : Live :=
  let both := le f 28 2 &&& le L.twin.mine 28 2
  (List.range 16).foldl (fun (L : Live) s =>
    let same := slice f (30 + 2 * s) 2 == slice L.twin.mine (30 + 2 * s) 2
    let L := if bitOf both s && !same then L.segEv s 0 9 1 [] else L
    L.judgeUplink s (le f 4 8 - 1) (bitOf both s && same)) L

/-- The string current of the active twin's sample before enters at the standby, the samples before it of which no frame told with the
own (15 R389 ISH, R394). -/
def Live.takeShared (L : Live) (f : Bytes) : Live :=
  if !L.pooled ∨ L.twin.holds then L
  else
    let e := le f 4 8 - 1
    let l := L.twin.share
    let L := { L with twin := { L.twin with share := l.filter (fun x => decide (e < x.epoch)) } }
    let L := L.shareOwn (l.filter (fun x => decide (x.epoch < e)))
    (l.filter (fun x => x.epoch == e)).foldl (fun L x => L.shareStep ((ash32 L.twin.p.ish).getD x.i) x) L

/-- The comparisons of a frame, made against the own frame of the same control epoch. -/
def Live.compareFrame (L : Live) (f : Bytes) : Live :=
  if slice f 4 8 ≠ slice L.twin.mine 4 8 then L
  else
    let L := if L.pooled then L.cmpUplinks f else L
    let L := if L.tracks then L.cmpArrangement f else L
    if L.inStep ∨ L.tracks then (L.cmpState f).cmpSweep f else L

/-! ### Safety, token and time -/

/-- The command the partner's frame carries is obeyed; what it no longer carries ends (10 R253). The expectation of the contactors and
the standby's FAST_OFF follow the active twin (02 R33; 10 R269). -/
def Live.obeyFrame (L : Live) : Live :=
  let p := L.twin.p
  let L := if bitOf p.safe 4 && decide (1 ≤ p.tripfn ∧ p.tripfn ≤ 13) then
      L.obeyNamed { d0 := p.tripfn, bay := bitOf p.safe 5, classF := bitOf p.safe 6 }
    else L.endObeyed
  let L := L.updExpect
  if L.fromStandby ∧ !L.twin.holds ∧ (L.stepOf ≤ 1 ∨ L.stepOf = 5) then L.setFast L.restFast else L

/-- The standby claims the generation one newer for a planned handover, from its next release (15 R400); its island breakpoints are
disarmed (18 R449). -/
def Live.acceptHandover (L : Live) : Live :=
  if L.twin.holds ∨ L.twin.claims ∨ !L.inStep ∨ !L.healthy then L
  else
    let L := L.disarmIsland
    { L with twin := { L.twin with
      claims := true
      hoAcc := true
      hoCount := some 0
      gen := (L.twin.p.tgen + 1) % 256 } }

/-- The token as the partner's frame shows it (15 R389, R400). -/
def Live.tokenFrame (L : Live) : Live :=
  let t := L.twin.p.token
  let L := if !L.twin.holds ∧ !L.twin.claims then { L with twin := { L.twin with gen := L.twin.p.tgen } } else L
  let L := if bitOf t 2 then L.acceptHandover else L
  if L.twin.holds ∧ L.twin.hoReq ∧ L.twin.hoCount.isNone ∧ bitOf t 1 then { L with twin := { L.twin with hoCount := some 0 } } else L

/-- Offset of the partner's time from the own one as its frame shows it: whole samples by the control epoch it carries where that is
not the own one or the one before, and within them a measured value that R83 keeps within 10 ns: a free value (log 15). -/
def Live.twinOffset (L : Live) : Int :=
  let d : Int := (L.twin.p.cepoch.getD L.epoch : Int) - L.epoch
  (if d = 0 ∨ d = -1 then 0 else d * 10000) + (Config.freeInt L.free % 21 - 10)

/-- The arrival of a frame serves the time of a twin that follows its partner (04 R83; 13 R339). A twin that follows its partner no
longer is locking to its next source (DESIGN CHOICE, log 185). -/
def Live.timeFrame (L : Live) : Live :=
  let off := L.twinOffset
  let L := L.put 0x220008 (Config.freeInt L.free % 21 - 10)
  let L := { L with free := L.free + 1 }
  if !L.followsTwin then L.endFollow
  else (L.useOffset off 115 2 []).put 0x220002 4

/-! ### The commit record (15 R391, R398) -/

/-- The forwarded requests that a commit decided, with its sequence, those its verdicts commit; none where some have not arrived. -/
def Live.decidedRequests (L : Live) (n : Nat) (bits : List Bool) : Option (List Pend) :=
  if L.twin.mirrored.length < n ∨ bits.length ≠ n then none
  else some (((L.twin.mirrored.take n).zipIdx.filter (fun x => bits.getD x.2 false)).map
    (fun (x : Pend × Nat) => { x.1 with fwd := some x.2 }))

/-- Those requests as a commit takes them. -/
def decidedReqs (ps : List Pend) : List Req := ps.map (fun p => mirroredReq p (p.fwd.getD 0))

/-- CRC of a commit record over requests that all stand. -/
def recordCrc (rs : List Req) : Nat := commitCrc (rs.map (fun r => (r, 0, 0)))

/-- The requests that a record has decided leave the queue of mirrored requests. -/
def Live.dropDecided (L : Live) (n : Nat) : Live :=
  { L with twin := { L.twin with
    mirrored := L.twin.mirrored.drop n
    verdicts := none
    due := none } }

/-- The writes passed to the active twin that a mirrored commit now holds: they are committed, whatever becomes of the partner
(12 R322). -/
def Live.noteSure (L : Live) (ps : List Pend) : Live :=
  { L with ks := { L.ks with
    sure := L.ks.sure ++ (ps.map (fun p => (p.sess, p.key))).filter (fun x => L.ks.forwarded.contains x) } }

/-- The record differs, or its data did not fit into two frames: event 121 code 6, and a state transfer (15 R391). -/
def Live.recordFails (L : Live) (n : Nat) : Live := ((L.dropDecided n).twinEv 121 6 1 []).dropStep 2

/-- The commit record at a resynchronising standby: the commit is held (15 R398). -/
def Live.holdRecord (L : Live) (epoch n crc : Nat) (bits : List Bool) : Live :=
  match L.decidedRequests n bits with
  | none => L.recordFails n
  | some ps =>
    if recordCrc (decidedReqs ps) ≠ crc then L.recordFails n
    else
      let L := L.dropDecided n
      { L with twin := { L.twin with heldCommits := L.twin.heldCommits ++ [(epoch, ps, L.twin.inputs.getD [])] } }

/-- The commit record of a frame. A standby that follows commits the same requests in the same order with the same epoch, from what it
latched at its own boundary. -/
def takeRecord (s : State) (L : Live) (f : Bytes) : State :=
  let epoch := le f 222 8
  let n := le f 230 2
  let crc := le f 232 4
  if L.resyncing then
    match L.twin.verdicts with
    | some (e, bits) => { s with live := if e = epoch then L.holdRecord epoch n crc bits else L }
    | none => { s with live := L }
  else if !L.tracks then { s with live := L }
  else match L.twin.due with
    | none => { s with live := L }
    | some k =>
      if epoch = L.ks.epoch then { s with live := L }
      else if epoch ≠ L.ks.epoch + 1 then { s with live := L.recordFails n, latched := none }
      else match L.twin.verdicts with
        | some (e, bits) =>
          if e ≠ epoch then { s with live := L.recordFails n, latched := none }
          else match L.decidedRequests n bits with
            | none => { s with live := L.recordFails n, latched := none }
            | some ps =>
              let rs := decidedReqs ps
              if recordCrc rs ≠ crc then { s with live := L.recordFails n, latched := none }
              else
                let x := commitAt s.snap (s.latched.getD L) ((L.dropDecided n).noteSure ps) epoch rs
                { s with live := x.1, snap := x.2, latched := none }
        | none =>
          if 1 ≤ k then { s with live := L.recordFails n, latched := none }
          else { s with live := { L with twin := { L.twin with due := some (k + 1) } } }

/-! ### MIRROR_FRAME_RX -/

/-- A valid frame, taken whole. -/
def takeFrame (s : State) (f : Bytes) : State :=
  let L := s.live
  let old := L.twin.p.pstate
  let L := (((L.storeFrame f).forwardedWords f).pairStep f old).partnerOff
  let L := if L.twin.pair = 4 then L
    else (((L.takeShared f).compareFrame f).obeyFrame.tokenFrame).timeFrame
  let L := { L with twin := { L.twin with wasInStep := L.inStep } }
  let L := (if L.isManager then L.updLead else L).auxWatch
  takeRecord s (Live.takeBulk s.snap L f) f

/-- MIRROR_FRAME_RX (15 R386, R387, R389): `primary` and `secondary` say what each fibre delivered of the frame: 0 nothing, 1 an invalid
copy, 2 this one. A second copy of a frame already taken is dropped. -/
def execMirrorFrameRx (frame : Bytes) (primary secondary : Fin 3) (s : State) : Host.Outcome State Fault Refusal :=
  let L := s.live
  if !L.powered || L.mode.st == .boot || L.dbg.halted != 0 || L.unassigned then .next s
  else
    let ok := L.frameOk frame
    let copy := fun (c : Fin 3) => if c.val = 2 ∧ !ok then 1 else c.val
    let L := (L.fibre 0 (copy primary)).fibre 1 (copy secondary)
    if ok && (primary == 2 || secondary == 2) && L.twin.p.cepoch != some (le frame 4 8) then .next (takeFrame { s with live := L } frame)
    else .next { s with live := L }

/-! ### Loss of the partner (15 R399) -/

/-- The standby takes the token over and takes on the pair's duties (15 R399; 17 R437; 01 R14; 10 R273; 18 R449). -/
def Live.takeover (L : Live) : Live :=
  let L := L.disarmIsland
  let L := { L with twin := { L.twin with
    holds := true
    claims := false
    hoAcc := false
    hoCount := none
    gen := (L.twin.p.tgen + 1) % 256 } }
  let L := ((L.bump 0x4A000D 1 16).put 0x4A000E L.epoch).twinEv 122 2 1 (leBytes 1 L.twin.gen)
  let L := (L.partnerGone.breakClean).answerLost
  let L := { L with twin := { L.twin with
    mirrored := []
    verdicts := none
    inputs := none
    due := none
    check := false
    rxBulk := [] } }
  let L := (L.replay (fun e => e.mirrored)).updLead.insRelay.dueThresholds
  if L.driving ∨ L.mode.seq.isSome then L else L.setFast L.restFast

/-- The active twin is lost while this one cannot take the token: a hazard under 02 R33. -/
def Live.lostUnfollowed (L : Live) : Live :=
  let L := (L.twinEv 122 4 2 []).partnerGone.answerLost
  if L.fromStandby then { L with saf := { L.saf with hazard := true } }.setFast .off else L

/-- Two frames in a row are missing (15 R399). -/
def Live.partnerLost (L : Live) : Live :=
  let trip := L.getN 0x404001 != 0 || L.saf.obeyed.isSome
  if L.twin.holds ∨ L.twin.pair = 4 ∨ !bitOf L.twin.p.token 0 then (L.leaveStep 4).partnerGone.answerLost
  else if L.twin.wasInStep ∧ L.healthy ∧ !trip then L.takeover
  else L.lostUnfollowed

/-- MIRROR_FRAME_MISSING (15 R387, R399, R403, R404): counted once a partner has been heard since BOOT. -/
def execMirrorFrameMissing (s : State) : Host.Outcome State Fault Refusal :=
  let L := s.live
  if !L.powered || L.mode.st == .boot || L.dbg.halted != 0 || L.twin.p.node == 0 then .next s
  else
    let L := ((L.fibre 0 0).fibre 1 0).bump 0x4A0009 1 32
    let n := L.twin.missing + 1
    let L := { L with twin := { L.twin with
      missing := min n 2
      p := { L.twin.p with healthyRun := 0 } } }
    if n = 2 ∧ L.twin.pair ≠ 0 then .next { s with
        live := L.partnerLost.partnerOff.auxWatch
        latched := none }
    else .next { s with live := L }

/-- URGENT_WORD_RX (15 R388): a trip is obeyed, "handover now" is claimed at the next release. -/
def execUrgentWordRx (word : Bytes) (s : State) : Host.Outcome State Fault Refusal :=
  runIn 5 s (fun L =>
    let d0 := byteAt word 0
    let d1 := byteAt word 1
    if word.length ≠ 4 ∨ fcrc (word.take 2) ≠ le word 2 2 ∨ d0 = 0 ∨ 14 < d0 then L
    else if d0 = 14 then L.acceptHandover
    else L.obey { d0 := d0, bay := bitOf d1 0, classF := bitOf d1 1 })

/-! ### Pair check (15 R396) -/

/-- The results of a pair check lead on. -/
def Live.checkOutcome (L : Live) (own partner : Bool) : Live :=
  if own && partner then L.leaveStep 1
  else if !own && !partner then
    let L := L.leaveStep 1
    { L with twin := { L.twin with
      transferDue := false
      p := { L.twin.p with healthyRun := 0 } } }.sf12 1
  else if L.twin.holds then
    if own then
      let L := L.leaveStep 1
      { L with twin := { L.twin with transferDue := false } }
    else { L.requestHandover false with twin := { (L.requestHandover false).twin with hoSf12 := true } }
  else if own then L
  else L.sf12 1

/-- PAIR_CHECK_COMPLETE (15 R396): armed by a running check; the own result goes out on channel 7. The partner's is the one received
there, the row's where none has come yet. -/
def execPairCheckComplete (ownPass partnerPass : Bool) (s : State) : Host.Outcome State Fault Refusal :=
  runIn 5 s (fun L =>
    if !L.twin.check then L
    else
      let partnerPass := L.twin.peerPass.getD partnerPass
      let r := if ownPass then (if partnerPass then 1 else 3) else (if partnerPass then 2 else 4)
      let L := L.put 0x4A0011 (r : Nat)
      let L := L.toPartner 7 (leBytes 1 2 ++ leBytes 1 (if ownPass then 1 else 0))
      let L := { L with twin := { L.twin with
        check := false
        peerPass := none
        checkFailed := !ownPass
        mism := [0, 0, 0] } }
      let L := if ownPass && partnerPass then L else L.breakClean
      (L.twinEv 121 5 0 ([ownPass, partnerPass].map (fun b => if b then 1 else 0))).checkOutcome ownPass partnerPass)

/-! ### Handover (15 R400) -/

/-- At the end of the 100 superframes the new holder takes what has not moved as an unplanned bypass (06 R142, R143). -/
def Live.settleClaim (L : Live) : Live :=
  let stay := L.fittedSegs.filter (fun s => !L.reportsOwn s)
  let L := { L with twin := { L.twin with
    holds := true
    claims := false
    hoAcc := false
    hoCount := none } }
  (stay.foldl (fun (L : Live) s => L.unplanned s 5) L).dueThresholds

/-- HANDOVER_CLAIM_LIMIT (15 R400): 100 superframes after the first claim of G + 1. -/
def execHandoverClaimLimit (s : State) : Host.Outcome State Fault Refusal :=
  runIn 4 s (fun L =>
    match L.twin.hoCount with
    | none => L
    | some n =>
      let L := L.pass ((100 - n) * 10000)
      if L.twin.holds then L.finishHandover
      else if L.twin.claims then L.settleClaim
      else { L with twin := { L.twin with hoCount := none } })

/-! ### State transfer (15 R398) -/

/-- Is an object's value part of the state image: writable, of the pair, and of the safety set only where that is taken? -/
def imaged (safety : Bool) (k : Nat) : Bool :=
  (match odRow (k / 256) (k % 256) with | some r => r.acc == .rw || r.acc == .rwc | none => false) &&
  !isTwinLocalWrite k && (safety || !isSafetyParam k)

/-- The objects and byte strings of the image. The safety set is taken where its CRC is the partner's. -/
def Live.takeObjects (L C : Live) : Live :=
  let safety := match L.twin.p.safeCrc with | some (c, _) => C.activeCrc == c | none => false
  let mine := L.obj.filter (fun p => !imaged safety p.1)
  let theirs := C.obj.filter (fun p => imaged safety p.1)
  let blobOk := fun (k : Nat) => imaged true k && k / 256 != 0x4800
  let L := { L with
    obj := theirs.foldl (fun (s : Store) p => s.put (odDefault p.1) p.1 p.2) mine
    blob := L.blob.filter (fun b => !blobOk b.1) }
  let L := (C.blob.filter (fun b => blobOk b.1)).foldl (fun (L : Live) b => L.putBlob b.1 b.2) L
  let L := [0x380001, 0x380002, 0x380003, 0x440001, 0x440004, 0x440005, 0x440006, 0x440007, 0x440008].foldl
    (fun (L : Live) k => L.put k (C.get k)) L
  if safety then
    let L := [0x400007, 0x400008, 0x400009, 0x40000A].foldl (fun (L : Live) k => L.put k (C.get k)) L
    { L with ks := { L.ks with confirmed := C.ks.confirmed }, twin := { L.twin with thrDue := true } }
  else L

/-- The keystone, the state machine and the logic engine of the image. A twin's own SELFTEST and SERVICE stay its own (03 R51, R52). -/
def Live.takeKeystone (L C : Live) : Live :=
  { L with
    ks := { L.ks with
      epoch := C.ks.epoch
      sessions := C.ks.sessions
      edit := C.ks.edit
      objEpoch := C.ks.objEpoch
      ctl := C.ks.ctl
      ctlDue := C.ks.ctlDue }
    mode := if L.mode.st = .selftest ∨ L.mode.st = .service then L.mode else { L.mode with
      st := C.mode.st
      seq := C.mode.seq
      pendEnable := C.mode.pendEnable
      cooldown := C.mode.cooldown }
    lgc := { C.lgc with latched := L.lgc.latched }
    dbg := { L.dbg with brk := (L.dbg.brk.zip C.dbg.brk).map (fun (x : Option Brk × Option Brk) =>
      match x.1 with
      | some b => if 2 ≤ b.kind then x.1 else x.2
      | none => x.2) }
    eng := { L.eng with
      tab := C.eng.tab
      nextTab := C.eng.nextTab } }

/-- The inputs of the interval now running, and of the one after it, stand as in `A`. -/
def Live.keepInputs (L A : Live) : Live :=
  { L with est := { L.est with
    ctx := (A.est.ctx.zip L.est.ctx).map (fun (x : Ctx × Ctx) => { x.2 with
      acc := x.1.acc
      na := x.1.na
      next := x.1.next })
    seg := (A.est.seg.zip L.est.seg).map (fun (x : SegEst × SegEst) => { x.2 with
      sets := x.1.sets
      iAcc := x.1.iAcc
      fAcc := x.1.fAcc
      next := x.1.next
      setI := x.1.setI
      temps := x.1.temps
      nextTemps := x.1.nextTemps }) } }

/-- The deterministic state of 15 R395 and the estimator; measurements and running sums stay the own. -/
def Live.takeState (L C : Live) : Live :=
  { L with
    conv := { C.conv with
      i := L.conv.i
      iFg := L.conv.iFg
      vBus := L.conv.vBus
      vStr := L.conv.vStr
      vMax := L.conv.vMax
      vStrAvg := L.conv.vStrAvg
      iAvg := L.conv.iAvg
      energy := L.conv.energy }
    seg := (L.seg.zip C.seg).map (fun (x : Seg × Seg) => { x.1 with
      excluded := x.2.excluded
      segCmd := x.2.segCmd
      segNext := x.2.segNext
      restDir := x.2.restDir
      cause := x.2.cause
      duty := x.2.duty
      lastEdge := x.2.lastEdge
      frac := x.2.frac
      fracQ := x.2.fracQ
      ins := x.2.ins
      want := x.2.want
      grant := x.2.grant
      age := x.2.age
      sums := x.2.sums
      served := x.2.served
      joins := x.2.joins
      q := x.2.q
      buckets := x.2.buckets
      bucket := x.2.bucket })
    chi := C.chi
    cap := { C.cap with buf := L.cap.buf }
    est := (({ L with est := C.est } : Live).keepInputs L).est
    saf := { L.saf with
      eA := C.saf.eA
      eB := C.saf.eB } }

/-- One held commit and its course: the commit, its logic input image, the scan. -/
def replayCommit (s : State) (h : Nat × List Pend × Bytes) : State :=
  if h.1 ≤ s.live.ks.epoch then s
  else
    let x := commitAt s.snap s.live s.live h.1 (decidedReqs h.2.1)
    let L := { x.1 with twin := { x.1.twin with inputs := some h.2.2 } }
    { s with live := Live.logicScan x.2 L, snap := x.2 }

/-- One sweep per held interval; the interval now running keeps its own inputs. -/
def Live.replaySweeps (L : Live) : Live :=
  (L.twin.heldSweeps.foldl (fun (L : Live) h => (L.putInputs h).sweep) L).keepInputs L

/-- STATE_TRANSFER_COMPLETE (15 R398): armed at the standby once the whole image of an active twin has arrived. -/
def execStateTransferComplete (s : State) : Host.Outcome State Fault Refusal :=
  let L := s.live
  if !L.powered || L.mode.st == .boot || !L.resyncing then .next s
  else match (L.twin.image.bind Config.imageContent).filter (fun C => C.shaped && C.fromStandby), L.twin.transfer with
    | some C, some (t, _) =>
      let held := L.twin.heldCommits
      let L := ((L.takeObjects C).takeKeystone C).takeState C
      let s := held.foldl replayCommit { s with
        live := L
        snap := { L with out := [] }
        latched := none }
      let L := s.live.replaySweeps
      let d := min 65535 ((L.time.clk - t) / 1000000)
      let L := { L with twin := { L.twin with
        transfer := none
        transferDue := false
        image := none
        heldCommits := []
        heldSweeps := []
        matched := (0, false)
        due := none } }
      .next { s with live := ((L.put 0x4A0010 d).bump 0x4A000F 1 16).twinEv 123 2 0 (leBytes 2 d) }
    | _, _ => .next s

/-- STATE_TRANSFER_TIMEOUT (15 R398): 150 ms after its start a transfer not complete starts again at the next course boundary. -/
def execStateTransferTimeout (s : State) : Host.Outcome State Fault Refusal :=
  runIn 4 s (fun L =>
    match L.twin.transfer with
    | none => L
    | some (t, _) =>
      let L := L.reach (t + ms 150)
      let L := { L with twin := { L.twin with
        transfer := none
        transferDue := true
        image := none
        heldCommits := []
        heldSweeps := [] } }
      L.twinEv 123 3 1 [])

end Sys2Proof.Machine
end

