-- ==== Sys2Proof/Machine/Dispatch.lean ====
section
/-! DEFINITION. One arm per command: the meaning it calls. -/

namespace Sys2Proof.Machine

open Sys2Proof

/-- The effect of a command on everything but the queue. -/
def exec (i : Instr) (s : State) : Host.Outcome State Fault Refusal :=
  match i with
  | .auxInputPresent input mv => Sys2Proof.Machine.execAuxInputPresent input mv s
  | .auxInputAbsent input mv => Sys2Proof.Machine.execAuxInputAbsent input mv s
  | .allSuppliesLost => Sys2Proof.Machine.execAllSuppliesLost s
  | .holdupSealComplete => Sys2Proof.Machine.execHoldupSealComplete s
  | .wakePulse ms => Sys2Proof.Machine.execWakePulse ms s
  | .watchdogExpiry => Sys2Proof.Machine.execWatchdogExpiry s
  | .boot r => Sys2Proof.Machine.execBoot r s
  | .bootComplete => Sys2Proof.Machine.execBootComplete s
  | .dupNodeIdListenEnd => Sys2Proof.Machine.execDupNodeIdListenEnd s
  | .selftestComplete failed => Sys2Proof.Machine.execSelftestComplete failed s
  | .cmdEnable sess => Sys2Proof.Machine.execCmdEnable sess s
  | .cmdDisable sess => Sys2Proof.Machine.execCmdDisable sess s
  | .cmdAcknowledge sess => Sys2Proof.Machine.execCmdAcknowledge sess s
  | .cmdEnterService sess => Sys2Proof.Machine.execCmdEnterService sess s
  | .cmdLeaveService sess => Sys2Proof.Machine.execCmdLeaveService sess s
  | .cmdEnterQuarry sess => Sys2Proof.Machine.execCmdEnterQuarry sess s
  | .quarryEntryComplete => Sys2Proof.Machine.execQuarryEntryComplete s
  | .cmdReset sess => Sys2Proof.Machine.execCmdReset sess s
  | .cmdColdRestartLogic sess => Sys2Proof.Machine.execCmdColdRestartLogic sess s
  | .cmdColdRestartEstimator sess => Sys2Proof.Machine.execCmdColdRestartEstimator sess s
  | .pendingEnableExpiry => Sys2Proof.Machine.execPendingEnableExpiry s
  | .prechargeCooldownEnd => Sys2Proof.Machine.execPrechargeCooldownEnd s
  | .derateHoldExpiry => Sys2Proof.Machine.execDerateHoldExpiry s
  | .courseBoundary => Sys2Proof.Machine.execCourseBoundary s
  | .sampleStrobe => Sys2Proof.Machine.execSampleStrobe s
  | .controlSample x => Sys2Proof.Machine.execControlSample x s
  | .captureComplete => Sys2Proof.Machine.execCaptureComplete s
  | .chiselComplete => Sys2Proof.Machine.execChiselComplete s
  | .impedanceWindowBoundary => Sys2Proof.Machine.execImpedanceWindowBoundary s
  | .downlinkLatch => Sys2Proof.Machine.execDownlinkLatch s
  | .superframeStart => Sys2Proof.Machine.execSuperframeStart s
  | .uplinkFrameRx seg frame lineOk t4 => Sys2Proof.Machine.execUplinkFrameRx seg frame lineOk t4 s
  | .bypassConfirmTimeout seg => Sys2Proof.Machine.execBypassConfirmTimeout seg s
  | .uplinkMissingTimeout seg => Sys2Proof.Machine.execUplinkMissingTimeout seg s
  | .uplinkWordsLostTimeout seg => Sys2Proof.Machine.execUplinkWordsLostTimeout seg s
  | .linkCommaLock seg => Sys2Proof.Machine.execLinkCommaLock seg s
  | .mgmtResponseRx seg frame => Sys2Proof.Machine.execMgmtResponseRx seg frame s
  | .mgmtTimeout seg => Sys2Proof.Machine.execMgmtTimeout seg s
  | .nodeCmdCommission sess seg => Sys2Proof.Machine.execNodeCmdCommission sess seg s
  | .nodeCmdReleaseLatch sess seg => Sys2Proof.Machine.execNodeCmdReleaseLatch sess seg s
  | .nodeCmdRepeatBringup sess seg => Sys2Proof.Machine.execNodeCmdRepeatBringup sess seg s
  | .nodeCmdComparatorTest sess seg => Sys2Proof.Machine.execNodeCmdComparatorTest sess seg s
  | .nodeDownlinkFrameRx node port frame lineOk => Sys2Proof.Machine.execNodeDownlinkFrameRx node port frame lineOk s
  | .nodeSuperframeStart node inBound => Sys2Proof.Machine.execNodeSuperframeStart node inBound s
  | .nodeDesaturation node high => Sys2Proof.Machine.execNodeDesaturation node high s
  | .hardBypassLatchSet node periods => Sys2Proof.Machine.execHardBypassLatchSet node periods s
  | .nodePortsDark node us => Sys2Proof.Machine.execNodePortsDark node us s
  | .mgmtRead node port tag addr len => Sys2Proof.Machine.execMgmtRead node port tag addr len s
  | .mgmtWrite node port tag addr data => Sys2Proof.Machine.execMgmtWrite node port tag addr data s
  | .imageBlock node port tag block data => Sys2Proof.Machine.execImageBlock node port tag block data s
  | .imageActivate node port tag digest => Sys2Proof.Machine.execImageActivate node port tag digest s
  | .latchRelease node port tag checkOk => Sys2Proof.Machine.execLatchRelease node port tag checkOk s
  | .comparatorTest node port tag passed => Sys2Proof.Machine.execComparatorTest node port tag passed s
  | .segCmdBypass sess seg => Sys2Proof.Machine.execSegCmdBypass sess seg s
  | .segCmdReturn sess seg => Sys2Proof.Machine.execSegCmdReturn sess seg s
  | .busCollapseDetected => Sys2Proof.Machine.execBusCollapseDetected s
  | .busCollapseRelease => Sys2Proof.Machine.execBusCollapseRelease s
  | .softstartContactorsClosed => Sys2Proof.Machine.execSoftstartContactorsClosed s
  | .softstartMatched => Sys2Proof.Machine.execSoftstartMatched s
  | .softstartMatchTimeout => Sys2Proof.Machine.execSoftstartMatchTimeout s
  | .softstartSwitchClosed => Sys2Proof.Machine.execSoftstartSwitchClosed s
  | .softstartSwitchTimeout => Sys2Proof.Machine.execSoftstartSwitchTimeout s
  | .softstartComplete => Sys2Proof.Machine.execSoftstartComplete s
  | .shortAbort => Sys2Proof.Machine.execShortAbort s
  | .prechargeTimeout => Sys2Proof.Machine.execPrechargeTimeout s
  | .balancingAgeTick => Sys2Proof.Machine.execBalancingAgeTick s
  | .rmsRatioBucket => Sys2Proof.Machine.execRmsRatioBucket s
  | .estimatorSweep => Sys2Proof.Machine.execEstimatorSweep s
  | .uncertaintyLimitExceeded => Sys2Proof.Machine.execUncertaintyLimitExceeded s
  | .referenceWindowComplete => Sys2Proof.Machine.execReferenceWindowComplete s
  | .referenceRequestUnmet => Sys2Proof.Machine.execReferenceRequestUnmet s
  | .estCmdRequestWindow sess => Sys2Proof.Machine.execEstCmdRequestWindow sess s
  | .estCmdWithdrawRequest sess => Sys2Proof.Machine.execEstCmdWithdrawRequest sess s
  | .segEstCmdReplaced sess seg => Sys2Proof.Machine.execSegEstCmdReplaced sess seg s
  | .tableCmdSwitchBank sess => Sys2Proof.Machine.execTableCmdSwitchBank sess s
  | .tableCmdEraseBank sess => Sys2Proof.Machine.execTableCmdEraseBank sess s
  | .tableImageWrite sess bank image => Sys2Proof.Machine.execTableImageWrite sess bank image s
  | .thermalEvaluation sensors => Sys2Proof.Machine.execThermalEvaluation sensors s
  | .crossChannelExchange valueDiff => Sys2Proof.Machine.execCrossChannelExchange valueDiff s
  | .crossChannelMismatch => Sys2Proof.Machine.execCrossChannelMismatch s
  | .channelBSample fluxgate beat fault => Sys2Proof.Machine.execChannelBSample fluxgate beat fault s
  | .fastComparatorTrip => Sys2Proof.Machine.execFastComparatorTrip s
  | .fastComparatorCheck passed => Sys2Proof.Machine.execFastComparatorCheck passed s
  | .i2tBlock => Sys2Proof.Machine.execI2tBlock s
  | .seqStep1End => Sys2Proof.Machine.execSeqStep1End s
  | .classSHoldoffExpiry => Sys2Proof.Machine.execClassSHoldoffExpiry s
  | .lintelOpenTimeout => Sys2Proof.Machine.execLintelOpenTimeout s
  | .step4BlockedTimeout => Sys2Proof.Machine.execStep4BlockedTimeout s
  | .loopTest channelB => Sys2Proof.Machine.execLoopTest channelB s
  | .loopTestExpiry loopMa => Sys2Proof.Machine.execLoopTestExpiry loopMa s
  | .safetyInputChange pair channelB on => Sys2Proof.Machine.execSafetyInputChange pair channelB on s
  | .inputDiscrepancyTimeout pair => Sys2Proof.Machine.execInputDiscrepancyTimeout pair s
  | .testPulseStart t2 lowA lowB fbLowP fbLowN => Sys2Proof.Machine.execTestPulseStart t2 lowA lowB fbLowP fbLowN s
  | .feedbackInputChange input showsOpen => Sys2Proof.Machine.execFeedbackInputChange input showsOpen s
  | .contactorOpenTimeout negative => Sys2Proof.Machine.execContactorOpenTimeout negative s
  | .contactorCloseTimeout negative => Sys2Proof.Machine.execContactorCloseTimeout negative s
  | .unexpectedOpeningTimeout negative => Sys2Proof.Machine.execUnexpectedOpeningTimeout negative s
  | .switchDiscrepancyTimeout => Sys2Proof.Machine.execSwitchDiscrepancyTimeout s
  | .bayTripRead loopMa => Sys2Proof.Machine.execBayTripRead loopMa s
  | .bayTripHeldTimeout => Sys2Proof.Machine.execBayTripHeldTimeout s
  | .safetyReleaseTimer cause => Sys2Proof.Machine.execSafetyReleaseTimer cause s
  | .safetyCmdReleaseSf09 sess => Sys2Proof.Machine.execSafetyCmdReleaseSf09 sess s
  | .safetyCmdReleaseDeepSf02 sess => Sys2Proof.Machine.execSafetyCmdReleaseDeepSf02 sess s
  | .pePathTest tenthOhm => Sys2Proof.Machine.execPePathTest tenthOhm s
  | .insulationHalfPeriod estA estB nF => Sys2Proof.Machine.execInsulationHalfPeriod estA estB nF s
  | .insulationSelftest ohm => Sys2Proof.Machine.execInsulationSelftest ohm s
  | .insulationListenGap heardMv => Sys2Proof.Machine.execInsulationListenGap heardMv s
  | .unmonitoredLimitExpiry => Sys2Proof.Machine.execUnmonitoredLimitExpiry s
  | .srdoRefresh => Sys2Proof.Machine.execSrdoRefresh s
  | .srdoSctExpiry k => Sys2Proof.Machine.execSrdoSctExpiry k s
  | .twinXLowDetected us => Sys2Proof.Machine.execTwinXLowDetected us s
  | .twinXTestPulse => Sys2Proof.Machine.execTwinXTestPulse s
  | .opticalMarginLow path marginCdB => Sys2Proof.Machine.execOpticalMarginLow path marginCdB s
  | .canFrameRx bus f sof => Sys2Proof.Machine.execCanFrameRx bus f sof s
  | .heartbeatRx bus node nmt => Sys2Proof.Machine.execHeartbeatRx bus node nmt s
  | .srdoRx bus k inverted data => Sys2Proof.Machine.execSrdoRx bus k inverted data s
  | .rpdoRx bus n data => Sys2Proof.Machine.execRpdoRx bus n data s
  | .startRemoteNode node => Sys2Proof.Machine.execStartRemoteNode node s
  | .stopRemoteNode node => Sys2Proof.Machine.execStopRemoteNode node s
  | .enterPreOperational node => Sys2Proof.Machine.execEnterPreOperational node s
  | .resetNode node => Sys2Proof.Machine.execResetNode node s
  | .resetCommunication node => Sys2Proof.Machine.execResetCommunication node s
  | .heartbeatTx => Sys2Proof.Machine.execHeartbeatTx s
  | .txBufferLoad bus => Sys2Proof.Machine.execTxBufferLoad bus s
  | .canTxComplete bus tb how => Sys2Proof.Machine.execCanTxComplete bus tb how s
  | .framePromotion bus => Sys2Proof.Machine.execFramePromotion bus s
  | .frameDeadline bus => Sys2Proof.Machine.execFrameDeadline bus s
  | .canErrorPassive bus => Sys2Proof.Machine.execCanErrorPassive bus s
  | .canErrorActive bus => Sys2Proof.Machine.execCanErrorActive bus s
  | .canBusOff bus => Sys2Proof.Machine.execCanBusOff bus s
  | .busOffRecoveryComplete bus => Sys2Proof.Machine.execBusOffRecoveryComplete bus s
  | .canNoAckTimeout bus => Sys2Proof.Machine.execCanNoAckTimeout bus s
  | .busMonitorCheckEnd => Sys2Proof.Machine.execBusMonitorCheckEnd s
  | .canCmdRecover sess bus => Sys2Proof.Machine.execCanCmdRecover sess bus s
  | .canCmdClearCounters sess bus => Sys2Proof.Machine.execCanCmdClearCounters sess bus s
  | .referenceMessageSend => Sys2Proof.Machine.execReferenceMessageSend s
  | .referenceCancelTimeout bus => Sys2Proof.Machine.execReferenceCancelTimeout bus s
  | .referenceMessageRx bus frame sof => Sys2Proof.Machine.execReferenceMessageRx bus frame sof s
  | .followUpRx bus frame => Sys2Proof.Machine.execFollowUpRx bus frame s
  | .timeHoldoverEntry => Sys2Proof.Machine.execTimeHoldoverEntry s
  | .holdoverLimitExpiry => Sys2Proof.Machine.execHoldoverLimitExpiry s
  | .managerSilenceTimeout => Sys2Proof.Machine.execManagerSilenceTimeout s
  | .lssSwitchStateGlobal bus configuration => Sys2Proof.Machine.execLssSwitchStateGlobal bus configuration s
  | .lssSwitchStateSelective bus vendor product revision serial => Sys2Proof.Machine.execLssSwitchStateSelective bus vendor product revision serial s
  | .lssConfigureNodeId bus node => Sys2Proof.Machine.execLssConfigureNodeId bus node s
  | .lssStoreConfiguration bus => Sys2Proof.Machine.execLssStoreConfiguration bus s
  | .lssInquireVendor bus => Sys2Proof.Machine.execLssInquireVendor bus s
  | .lssInquireProduct bus => Sys2Proof.Machine.execLssInquireProduct bus s
  | .lssInquireRevision bus => Sys2Proof.Machine.execLssInquireRevision bus s
  | .lssInquireSerial bus => Sys2Proof.Machine.execLssInquireSerial bus s
  | .lssInquireNodeId bus => Sys2Proof.Machine.execLssInquireNodeId bus s
  | .lssIdentifyRemoteSlave bus vendor product revLo revHi serLo serHi => Sys2Proof.Machine.execLssIdentifyRemoteSlave bus vendor product revLo revHi serLo serHi s
  | .lssIdentifyNonConfigured bus => Sys2Proof.Machine.execLssIdentifyNonConfigured bus s
  | .odWrite sess viaPartner index sub value => Sys2Proof.Machine.execOdWrite sess viaPartner index sub value s
  | .odRead sess index sub segmented => Sys2Proof.Machine.execOdRead sess index sub segmented s
  | .segmentedReadTimeout sess => Sys2Proof.Machine.execSegmentedReadTimeout sess s
  | .readListResultRead sess n => Sys2Proof.Machine.execReadListResultRead sess n s
  | .transaction sess viaPartner image => Sys2Proof.Machine.execTransaction sess viaPartner image s
  | .authResponse sess response => Sys2Proof.Machine.execAuthResponse sess response s
  | .lowerLevel sess level => Sys2Proof.Machine.execLowerLevel sess level s
  | .sessionIdleTimeout sess => Sys2Proof.Machine.execSessionIdleTimeout sess s
  | .authLockExpiry sess => Sys2Proof.Machine.execAuthLockExpiry sess s
  | .safetyParamWrite sess index sub value => Sys2Proof.Machine.execSafetyParamWrite sess index sub value s
  | .safetyCmdDiscardEdit sess => Sys2Proof.Machine.execSafetyCmdDiscardEdit sess s
  | .safetySetConfirm sess crc => Sys2Proof.Machine.execSafetySetConfirm sess crc s
  | .editCopyTimeout => Sys2Proof.Machine.execEditCopyTimeout s
  | .safetySetCrcCheck copyAOk copyBOk => Sys2Proof.Machine.execSafetySetCrcCheck copyAOk copyBOk s
  | .summarySend => Sys2Proof.Machine.execSummarySend s
  | .summaryRx n frame => Sys2Proof.Machine.execSummaryRx n frame s
  | .summaryDeadline => Sys2Proof.Machine.execSummaryDeadline s
  | .baySnapshotSend => Sys2Proof.Machine.execBaySnapshotSend s
  | .baySnapshotRx frame => Sys2Proof.Machine.execBaySnapshotRx frame s
  | .dispatchStepRx frame => Sys2Proof.Machine.execDispatchStepRx frame s
  | .dataPlaneSend => Sys2Proof.Machine.execDataPlaneSend s
  | .ptpAnnounceRx a => Sys2Proof.Machine.execPtpAnnounceRx a s
  | .ptpSyncRx identity seq twoStep origin correction rx => Sys2Proof.Machine.execPtpSyncRx identity seq twoStep origin correction rx s
  | .ptpFollowUpRx identity seq origin correction => Sys2Proof.Machine.execPtpFollowUpRx identity seq origin correction s
  | .ptpDelayReqSend tx => Sys2Proof.Machine.execPtpDelayReqSend tx s
  | .ptpDelayRespRx seq receive correction => Sys2Proof.Machine.execPtpDelayRespRx seq receive correction s
  | .siteTimeHoldover => Sys2Proof.Machine.execSiteTimeHoldover s
  | .siteTimeWaitExpiry => Sys2Proof.Machine.execSiteTimeWaitExpiry s
  | .manualModuleTime sess time => Sys2Proof.Machine.execManualModuleTime sess time s
  | .ethernetLinkChange link => Sys2Proof.Machine.execEthernetLinkChange link s
  | .arpRequest ip => Sys2Proof.Machine.execArpRequest ip s
  | .icmpEchoRequest ip ident seq data => Sys2Proof.Machine.execIcmpEchoRequest ip ident seq data s
  | .modbusConnect client => Sys2Proof.Machine.execModbusConnect client s
  | .readHoldingRegisters conn start count => Sys2Proof.Machine.execReadHoldingRegisters conn start count s
  | .readInputRegisters conn start count => Sys2Proof.Machine.execReadInputRegisters conn start count s
  | .writeSingleRegister conn reg value => Sys2Proof.Machine.execWriteSingleRegister conn reg value s
  | .writeMultipleRegisters conn start values => Sys2Proof.Machine.execWriteMultipleRegisters conn start values s
  | .readDeviceIdentification conn => Sys2Proof.Machine.execReadDeviceIdentification conn s
  | .logicScan => Sys2Proof.Machine.execLogicScan s
  | .scanOverrun => Sys2Proof.Machine.execScanOverrun s
  | .nop => Sys2Proof.Machine.execNop s
  | .ldb o => Sys2Proof.Machine.execLdb o s
  | .andb o => Sys2Proof.Machine.execAndb o s
  | .orb o => Sys2Proof.Machine.execOrb o s
  | .stb o => Sys2Proof.Machine.execStb o s
  | .setb o => Sys2Proof.Machine.execSetb o s
  | .rstb o => Sys2Proof.Machine.execRstb o s
  | .notb => Sys2Proof.Machine.execNotb s
  | .pushb => Sys2Proof.Machine.execPushb s
  | .popand => Sys2Proof.Machine.execPopand s
  | .popor => Sys2Proof.Machine.execPopor s
  | .ld o => Sys2Proof.Machine.execLd o s
  | .ldi imm => Sys2Proof.Machine.execLdi imm s
  | .ldhi imm => Sys2Proof.Machine.execLdhi imm s
  | .st o => Sys2Proof.Machine.execSt o s
  | .add o => Sys2Proof.Machine.execAdd o s
  | .sub o => Sys2Proof.Machine.execSub o s
  | .mul o => Sys2Proof.Machine.execMul o s
  | .div o => Sys2Proof.Machine.execDiv o s
  | .addi imm => Sys2Proof.Machine.execAddi imm s
  | .and o => Sys2Proof.Machine.execAnd o s
  | .or o => Sys2Proof.Machine.execOr o s
  | .shl imm => Sys2Proof.Machine.execShl imm s
  | .shr imm => Sys2Proof.Machine.execShr imm s
  | .min o => Sys2Proof.Machine.execMin o s
  | .max o => Sys2Proof.Machine.execMax o s
  | .eq o => Sys2Proof.Machine.execEq o s
  | .ne o => Sys2Proof.Machine.execNe o s
  | .lt o => Sys2Proof.Machine.execLt o s
  | .gt o => Sys2Proof.Machine.execGt o s
  | .jmp target => Sys2Proof.Machine.execJmp target s
  | .jmpt target => Sys2Proof.Machine.execJmpt target s
  | .jmpf target => Sys2Proof.Machine.execJmpf target s
  | .loop imm => Sys2Proof.Machine.execLoop imm s
  | .next => Sys2Proof.Machine.execNext s
  | .call target => Sys2Proof.Machine.execCall target s
  | .ret => Sys2Proof.Machine.execRet s
  | .end_ => Sys2Proof.Machine.execEnd s
  | .ton o => Sys2Proof.Machine.execTon o s
  | .tof o => Sys2Proof.Machine.execTof o s
  | .tp o => Sys2Proof.Machine.execTp o s
  | .ctu o => Sys2Proof.Machine.execCtu o s
  | .ctd o => Sys2Proof.Machine.execCtd o s
  | .ctud o => Sys2Proof.Machine.execCtud o s
  | .rTrig o => Sys2Proof.Machine.execRTrig o s
  | .fTrig o => Sys2Proof.Machine.execFTrig o s
  | .msgrx o => Sys2Proof.Machine.execMsgrx o s
  | .msgtx o => Sys2Proof.Machine.execMsgtx o s
  | .evt cls code => Sys2Proof.Machine.execEvt cls code s
  | .logicCmdStart sess => Sys2Proof.Machine.execLogicCmdStart sess s
  | .logicCmdStop sess => Sys2Proof.Machine.execLogicCmdStop sess s
  | .logicCmdActivate sess => Sys2Proof.Machine.execLogicCmdActivate sess s
  | .logicCmdClearForces sess => Sys2Proof.Machine.execLogicCmdClearForces sess s
  | .logicCmdEraseInactive sess => Sys2Proof.Machine.execLogicCmdEraseInactive sess s
  | .setForce sess entry => Sys2Proof.Machine.execSetForce sess entry s
  | .releaseForce sess entry => Sys2Proof.Machine.execReleaseForce sess entry s
  | .logicImageWrite sess bank image => Sys2Proof.Machine.execLogicImageWrite sess bank image s
  | .mirrorFrameSend => Sys2Proof.Machine.execMirrorFrameSend s
  | .mirrorFrameRx frame primary secondary => Sys2Proof.Machine.execMirrorFrameRx frame primary secondary s
  | .pairCheckComplete ownPass partnerPass => Sys2Proof.Machine.execPairCheckComplete ownPass partnerPass s
  | .mirrorFrameMissing => Sys2Proof.Machine.execMirrorFrameMissing s
  | .urgentWordRx word => Sys2Proof.Machine.execUrgentWordRx word s
  | .stateTransferComplete => Sys2Proof.Machine.execStateTransferComplete s
  | .stateTransferTimeout => Sys2Proof.Machine.execStateTransferTimeout s
  | .twinCmdHandover sess => Sys2Proof.Machine.execTwinCmdHandover sess s
  | .twinCmdResync sess => Sys2Proof.Machine.execTwinCmdResync sess s
  | .handoverClaimLimit => Sys2Proof.Machine.execHandoverClaimLimit s
  | .recordCommit => Sys2Proof.Machine.execRecordCommit s
  | .repeatUpdate => Sys2Proof.Machine.execRepeatUpdate s
  | .recorderCmdFreeze sess => Sys2Proof.Machine.execRecorderCmdFreeze sess s
  | .recorderCmdRelease sess => Sys2Proof.Machine.execRecorderCmdRelease sess s
  | .recorderCmdClear sess => Sys2Proof.Machine.execRecorderCmdClear sess s
  | .freezeTimeout => Sys2Proof.Machine.execFreezeTimeout s
  | .recordsRead sess => Sys2Proof.Machine.execRecordsRead sess s
  | .captureDataRead sess => Sys2Proof.Machine.execCaptureDataRead sess s
  | .captureArm sess => Sys2Proof.Machine.execCaptureArm sess s
  | .captureForceTrigger sess => Sys2Proof.Machine.execCaptureForceTrigger sess s
  | .captureAbort sess => Sys2Proof.Machine.execCaptureAbort sess s
  | .chiselStart sess => Sys2Proof.Machine.execChiselStart sess s
  | .chiselStop sess => Sys2Proof.Machine.execChiselStop sess s
  | .manifestWrite sess image => Sys2Proof.Machine.execManifestWrite sess image s
  | .stagingBlockWrite sess image => Sys2Proof.Machine.execStagingBlockWrite sess image s
  | .updateCmdVerify sess => Sys2Proof.Machine.execUpdateCmdVerify sess s
  | .verificationComplete r => Sys2Proof.Machine.execVerificationComplete r s
  | .updateCmdActivate sess => Sys2Proof.Machine.execUpdateCmdActivate sess s
  | .updateCmdDiscard sess => Sys2Proof.Machine.execUpdateCmdDiscard sess s
  | .probationConfirm => Sys2Proof.Machine.execProbationConfirm s
  | .probationTimeTick => Sys2Proof.Machine.execProbationTimeTick s
  | .probationLimit => Sys2Proof.Machine.execProbationLimit s
  | .nodeUpdateSegment => Sys2Proof.Machine.execNodeUpdateSegment s
  | .integratorKeyWrite sess key => Sys2Proof.Machine.execIntegratorKeyWrite sess key s
  | .flashRefreshBlock block ok => Sys2Proof.Machine.execFlashRefreshBlock block ok s
  | .journalCheckpoint => Sys2Proof.Machine.execJournalCheckpoint s
  | .countersSaveTick => Sys2Proof.Machine.execCountersSaveTick s
  | .dbgOpen tag => Sys2Proof.Machine.execDbgOpen tag s
  | .dbgAuth tag level mac => Sys2Proof.Machine.execDbgAuth tag level mac s
  | .dbgClose tag => Sys2Proof.Machine.execDbgClose tag s
  | .dbgStatus tag => Sys2Proof.Machine.execDbgStatus tag s
  | .dbgRead tag addr len => Sys2Proof.Machine.execDbgRead tag addr len s
  | .dbgWrite tag addr data => Sys2Proof.Machine.execDbgWrite tag addr data s
  | .dbgOdRead tag index sub => Sys2Proof.Machine.execDbgOdRead tag index sub s
  | .dbgOdWrite tag index sub value => Sys2Proof.Machine.execDbgOdWrite tag index sub value s
  | .logicHalt tag => Sys2Proof.Machine.execLogicHalt tag s
  | .logicStep tag count => Sys2Proof.Machine.execLogicStep tag count s
  | .logicStepCourse tag => Sys2Proof.Machine.execLogicStepCourse tag s
  | .logicRun tag => Sys2Proof.Machine.execLogicRun tag s
  | .breakSet tag slot kind param => Sys2Proof.Machine.execBreakSet tag slot kind param s
  | .breakClear tag slot => Sys2Proof.Machine.execBreakClear tag slot s
  | .islandHalt tag island => Sys2Proof.Machine.execIslandHalt tag island s
  | .islandRun tag => Sys2Proof.Machine.execIslandRun tag s
  | .debugIdleTimeout => Sys2Proof.Machine.execDebugIdleTimeout s
  | .cyclicDiagnostic okA okB => Sys2Proof.Machine.execCyclicDiagnostic okA okB s
  | .withheldRecoveryStart bus => Sys2Proof.Machine.execWithheldRecoveryStart bus s
  | .modbusConnectionClose conn => Sys2Proof.Machine.execModbusConnectionClose conn s
  | .modbusUnsupportedFunction conn code => Sys2Proof.Machine.execModbusUnsupportedFunction conn code s
  | .dbgInvalidRequest tag crcWrong => Sys2Proof.Machine.execDbgInvalidRequest tag crcWrong s
  | .nodePowerUp node => Sys2Proof.Machine.execNodePowerUp node s
  | .nodeCommaLock node port => Sys2Proof.Machine.execNodeCommaLock node port s
  | .nodeComparatorSelftest node passed => Sys2Proof.Machine.execNodeComparatorSelftest node passed s

end Sys2Proof.Machine
end

