-- ==== Sys2Proof/Safety.lean ====
section
/-! DEFINITION. What counts as a safe step, and the words the statements are written in. -/

namespace Sys2Proof

open Sys2Proof.Machine

/-- A step goes on: no rule of the spec stops the block. -/
def SafeStep (s : State) : Prop := ∃ t, step s = .next t

/-- A command answers a next state in which nothing but the live part has changed (no snapshot, no queue), and P holds of it. -/
def Answers (c : Instr) (s : State) (P : Live → Prop) : Prop := ∃ L, exec c s = .next { s with live := L } ∧ P L

/-- An island's work goes on: the module is up, BOOT has ended (03 R55) and the island is not halted (18 R450). -/
abbrev Works (island : Nat) (L : Live) : Prop := L.powered = true ∧ L.mode.st ≠ .boot ∧ bitOf L.dbg.halted island = false

/-- A session is served at this level: the module is up, serves the session (01 R10, R12; 11 R284) and the session holds the level. -/
abbrev Served (sess : Sess) (level : Nat) (L : Live) : Prop :=
  L.powered = true ∧ L.serves sess = true ∧ level ≤ (L.touch sess).levelOf sess

/-- A session may give a command of this level: the module is up and serves the session (01 R10, R12; 11 R284), the session holds the
level and the course has room (12 R317, R321); the request has reached the keystone that decides it (01 R19) of a module that does not
run its golden image (03 R55). -/
abbrev Granted (sess : Sess) (level : Nat) (L : Live) : Prop :=
  L.powered = true ∧ L.serves sess = true ∧ level ≤ (L.touch sess).levelOf sess ∧ L.ks.commands < 16 ∧ L.follower = false ∧
  L.getN 0x20000D ≠ 2

/-- The newest item of the outbox answers a session of CAN with this abort code, 0 for success (12 R320, R336). Modbus and the debug
port give their answers in frames of their own. -/
abbrev Replied (sess : Sess) (abort : Nat) (L : Live) : Prop :=
  iface sess ≠ 3 → iface sess ≠ 4 → L.out.head? = some (.answer sess abort [])

/-- Two blocks agree on every numeric object but those named. -/
def SameObjects (ks : List Nat) (L M : Live) : Prop := ∀ k, k ∉ ks → L.get k = M.get k

/-- Two memories of the logic engine agree on every byte outside n bytes from a on. -/
def SameBytes (a n : Nat) (m m' : List Host.Cell) : Prop := ∀ k, k < a ∨ a + n ≤ k → memByte m k = memByte m' k

/-- First address of a block operand's instance in the logic engine's memory. -/
abbrev instAt (o : BlockOp) : Nat := spaceBase o.space + o.addr

/-- A timer's new state from its instance, the input BA and the logic clock, by the rule f of its type (14 R368). -/
def timerAfter (f : Nat → Int → Bool → Bool → Timer → Timer) (g : Logic) (o : BlockOp) : Timer :=
  let b := g.instBits o
  f g.l (g.instI o 0) g.vm.ba (if b.2 then g.vm.ba else bitOf b.1 3)
    { run := bitOf b.1 2, start := g.load o.space (o.addr + 8) 4, q := bitOf b.1 1, et := g.instI o 4 }

/-- Every segment node but one is the same in two blocks. -/
def OtherNodes (node : Nat) (L M : Live) : Prop := ∀ k, k ≠ node → L.nodeAt k = M.nodeAt k

/-- The transitions of the module states (03 R52, T1 to T17, "any state" being every state but QUARRY and OFF), and staying where it is. -/
def follows (a b : MState) : Bool :=
  a == b || (a != .quarry && a != .off && (b == .off || b == .boot)) ||
  [(MState.quarry, MState.boot), (.off, .boot), (.boot, .selftest), (.boot, .service), (.selftest, .standby), (.standby, .precharge),
    (.precharge, .run), (.run, .derated), (.derated, .run), (.precharge, .standby), (.run, .standby), (.derated, .standby),
    (.precharge, .safe), (.run, .safe), (.derated, .safe), (.standby, .safe), (.safe, .standby), (.standby, .service), (.safe, .service),
    (.service, .standby), (.standby, .quarry), (.service, .quarry)].contains (a, b)

/-- Before STANDBY is reached the own loop is open: both contacts stand open and FAST_OFF does not permit (03 R50, R54, R67). -/
abbrev OpenBeforeStandby (L : Live) : Prop :=
  (L.mode.st = .quarry ∨ L.mode.st = .off ∨ L.mode.st = .boot ∨ L.mode.st = .selftest) →
    L.pins.contactA = false ∧ L.pins.contactB = false ∧ L.pins.fastOff ≠ .permit

end Sys2Proof
end

