-- ==== Sys2Proof/Certificates/Slice0/Obligations.lean ====
section
/-! DEFINITION. The statements for the provers. -/

open Sys2Proof Sys2Proof.Machine

/-- A step runs the command at the front of the queue on the state with the queue's rest; with no command the block idles (the
model's own choice, log 1). Every form the load check admits (14 R375) completes in every state. -/
def Obligations.StepRunsFrontCommand : Prop :=
  (∀ (c : Instr) (rest : List Instr) (s : State), step { s with pending := c :: rest } = exec c { s with pending := rest }) ∧ (∀ s
    : State, s.pending = [] → step s = .next s) ∧ (∀ (c : Instr) (s : State), loadOk c = true → ∃ t, exec c s = .next t)

/-- Reset is QUARRY (03 R67) with FAST_OFF ABSENT, the loop open and the relays disconnected (03 R50); nothing is held or queued.
-/
def Obligations.ResetLeavesTheBlockInQuarry : Prop :=
  State.reset.live.mode.st = .quarry ∧ State.reset.live.pins.fastOff = .absent ∧ State.reset.live.pins.contactA = false ∧
    State.reset.live.pins.contactB = false ∧ State.reset.live.pins.quarryRelays = true ∧ State.reset.live.twin.holds = false ∧
    State.reset.live.twin.pair = 0 ∧ State.reset.live.ks.pend = [] ∧ State.reset.live.ks.sessions = [] ∧
    State.reset.live.rcd.intake = [] ∧ State.reset.live.out = [] ∧ State.reset.snap = State.reset.live ∧ State.reset.pending = [] ∧
    State.reset.live.shaped = true ∧ OpenBeforeStandby State.reset.live

/-- Presence of the aux inputs and what their loss does (02 R42 to R45). -/
def Obligations.SupplyPresenceIsRecorded : Prop :=
  (∀ (s : State) (input : Fin 2) (mv : Nat), mv < 17000 → exec (.auxInputPresent input mv) s = .next s) ∧
  (∀ (s : State) (input : Fin 2) (mv : Nat), 17000 ≤ mv → s.live.mode.st ≠ .quarry → s.live.mode.st ≠ .off → Answers
    (.auxInputPresent input mv) s (fun L => ((if input = 0 then L.pins.aux1 else L.pins.aux2) = true) ∧ L.pins.holdup = false ∧
    L.getN (0x200010 + input.val) = min 40000 mv ∧ SameObjects [0x200010 + input.val] L s.live ∧
    { L with pins := { L.pins with aux1 := s.live.pins.aux1, aux2 := s.live.pins.aux2, auxSince := s.live.pins.auxSince, holdup := s.live.pins.holdup, drawn := s.live.pins.drawn }, rcd := s.live.rcd, dbg := s.live.dbg, obj := s.live.obj }
    = s.live)) ∧
  (∀ (s : State) (input : Fin 2) (mv : Nat), 16000 ≤ mv → exec (.auxInputAbsent input mv) s = .next s) ∧
  (∀ (s : State) (input : Fin 2) (mv : Nat), mv < 16000 → (if input = 0 then s.live.pins.aux2 else s.live.pins.aux1) = true →
    Answers (.auxInputAbsent input mv) s (fun L => ((if input = 0 then L.pins.aux1 else L.pins.aux2) = false) ∧ L.getN (0x200010 +
    input.val) = min 40000 mv ∧ SameObjects [0x200010 + input.val] L s.live ∧
    { L with pins := { L.pins with aux1 := s.live.pins.aux1, aux2 := s.live.pins.aux2, auxSince := s.live.pins.auxSince }, obj := s.live.obj }
    = s.live)) ∧
  (∀ (s : State) (input : Fin 2) (mv : Nat), mv < 16000 → s.live.powered = true → (if input = 0 then s.live.pins.aux1 else
    s.live.pins.aux2) = true → (if input = 0 then s.live.pins.aux2 else s.live.pins.aux1) = false → s.live.twin.holds = false →
    Answers (.auxInputAbsent input mv) s (fun L => L.pins.aux1 = false ∧ L.pins.aux2 = false ∧ L.pins.contactA = false ∧
    L.pins.contactB = false ∧ L.mode = s.live.mode)) ∧
  (∀ (s : State) (input : Fin 2) (mv : Nat), mv < 16000 → s.live.driving = true → (if input = 0 then s.live.pins.aux1 else
    s.live.pins.aux2) = true → (if input = 0 then s.live.pins.aux2 else s.live.pins.aux1) = false → s.live.twin.holds = true →
    s.live.hasPartner = false → Answers (.auxInputAbsent input mv) s (fun L => L.mode.st = .safe ∧ L.saf.supplyLoss = true ∧
    L.pins.aux1 = false ∧ L.pins.aux2 = false)) ∧
  (∀ (s : State), s.live.powered = true → Answers .allSuppliesLost s (fun L => L.pins.aux1 = false ∧ L.pins.aux2 = false ∧
    L.pins.holdup = true ∧ L.pins.phyOn = false ∧ L.getN 0x200010 = 0 ∧ L.getN 0x200011 = 0 ∧ L.mgr.lead = false ∧ L.getN 0x500023
    = 0))

/-- Every way into BOOT (03 R52 T1, T2, T4) and what it leaves (03 R50, R54, R63, R66). -/
def Obligations.ResetsEnterBoot : Prop :=
  (∀ (s : State) (ms : Nat), s.live.mode.st = .quarry → 10 ≤ ms → Answers (.wakePulse ms) s (fun L => L.mode.st = .boot ∧ L.getN
    0x20000F = 5 ∧ L.pins.fastOff = .absent ∧ L.pins.contactA = false ∧ L.pins.contactB = false ∧ L.mode.seq = none ∧ L.ks.pend =
    [] ∧ L.twin.holds = false ∧ L.twin.pair = 0)) ∧
  (∀ (s : State) (ms : Nat), (s.live.mode.st ≠ .quarry ∨ ms < 10) → exec (.wakePulse ms) s = .next s) ∧
  (∀ (s : State) (input : Fin 2) (mv : Nat), (s.live.mode.st = .quarry ∨ s.live.mode.st = .off) → 17000 ≤ mv → (if input = 0 then
    s.live.pins.aux1 else s.live.pins.aux2) = false → Answers (.auxInputPresent input mv) s (fun L => L.mode.st = .boot ∧ (L.getN
    0x20000F = if s.live.mode.st = .quarry then 5 else 0) ∧ L.pins.fastOff = .absent ∧ ((if input = 0 then L.pins.aux1 else
    L.pins.aux2) = true) ∧ L.pins.contactA = false ∧ L.pins.contactB = false)) ∧
  (∀ (s : State), s.live.powered = true → s.live.dbg.halted = 0 → Answers .watchdogExpiry s (fun L => L.mode.st = .boot ∧ L.getN
    0x20000F = 2 ∧ (L.pins.fastOff = (if s.live.holdsOff then .off else .absent)) ∧ L.mode.holdOffB = s.live.holdsOff ∧
    L.pins.contactA = false ∧ L.pins.contactB = false ∧ L.pins.elementOpen = false ∧ L.pins.twinXLow = false ∧ L.mode.seq = none ∧
    L.mode.pendEnable = none ∧ L.ks.pend = [] ∧ L.ks.txns = [] ∧ L.twin.holds = false ∧ L.twin.pair = 0)) ∧
  (∀ (s : State), s.live.powered = true → s.live.dbg.halted ≠ 0 → exec .watchdogExpiry s = .next s) ∧
  (∀ (s : State) (sess : Sess), Granted sess 2 s.live → Answers (.cmdReset sess) s (fun L => L.mode.st = .boot ∧ L.getN 0x20000F =
    1 ∧ (L.pins.fastOff = (if s.live.holdsOff then .off else .absent)) ∧ L.pins.contactA = false ∧ L.pins.contactB = false ∧
    L.mode.seq = none ∧ L.ks.pend = [] ∧ L.twin.holds = false)) ∧
  (∀ (s : State), s.live.driving = true → s.live.inStep = false → s.live.holdsOff = true) ∧
  (∀ (s : State), s.live.driving = false → s.live.mode.holdOffB = false → s.live.mode.st ≠ .safe → s.live.holdsOff = false)

/-- The start-up commands (03 R52 T5 to T7, R54 to R56; 01 R12; 15 R397). -/
def Obligations.StartUpReachesStandby : Prop :=
  (∀ (s : State) (r : BootReport), s.live.mode.st = .boot → s.live.mode.booted = false → Answers (.boot r) s (fun L => L.mode.st =
    .boot ∧ L.mode.booted = true ∧ L.mode.listening = true ∧ L.upd.running = (s.live.selectImage r).1 ∧ (L.getN 0x20000D = if
    (s.live.selectImage r).1 = 0 then 2 else (s.live.selectImage r).1 - 1) ∧ L.pins.fastOff = s.live.pins.fastOff ∧ L.pins.contactA
    = s.live.pins.contactA ∧ L.pins.contactB = s.live.pins.contactB)) ∧
  (∀ (s : State) (r : BootReport), (s.live.mode.st ≠ .boot ∨ s.live.mode.booted = true) → exec (.boot r) s = .next s) ∧
  (∀ (s : State), s.live.mode.st = .boot → s.live.mode.booted = true → s.live.upd.running ≠ 0 → Answers .bootComplete s (fun L =>
    L.mode.st = .selftest ∧ L.pins.fastOff = s.live.pins.fastOff ∧
    { L with mode := { L.mode with st := s.live.mode.st }, rcd := s.live.rcd, dbg := s.live.dbg } = s.live)) ∧
  (∀ (s : State), s.live.mode.st = .boot → s.live.mode.booted = true → s.live.upd.running = 0 → Answers .bootComplete s (fun L =>
    L.mode.st = .service ∧ L.mode.listening = s.live.mode.listening ∧ L.com.nmt = 127 ∧ L.pins.fastOff = s.live.restFast)) ∧
  (∀ (s : State), s.live.powered = true → s.live.mode.listening = true → Answers .dupNodeIdListenEnd s (fun L => L.mode.listening =
    false ∧ (s.live.mode.dupHeard = false → L.com.nmt = 127) ∧ L.time.clk = max s.live.time.clk (s.live.mode.bootClk + ms 200) ∧
    { L with mode := { L.mode with listening := s.live.mode.listening }, time := { L.time with clk := s.live.time.clk, mtime := s.live.time.mtime, cyc := s.live.time.cyc, frac := s.live.time.frac }, com := s.live.com, rcd := s.live.rcd, dbg := s.live.dbg, cap := s.live.cap }
    = s.live)) ∧
  (∀ (s : State) (failed : Nat), s.live.mode.st = .selftest → s.live.mode.listening = false → s.live.mode.classCFail = false →
    s.live.saf.fastLatch = false → classC.any (fun b => bitOf ((s.live.testResults failed).getN 0x20001A) b) = false → Answers
    (.selftestComplete failed) s (fun L => L.mode.st = .standby ∧ L.pins.quarryRelays = false ∧ L.mode.seq = none ∧
    L.mode.standbySeen = true ∧ L.pins.contactA = s.live.pins.contactA ∧ L.pins.contactB = s.live.pins.contactB ∧ (s.live.twin.pair
    = 0 → L.twin.holds = true) ∧ (s.live.twin.p.token % 4 = 0 → s.live.nodeId < 65 → L.twin.holds = true) ∧ (s.live.twin.holds =
    true → L.twin.holds = true) ∧ L.pins.fastOff = L.restFast)) ∧
  (∀ (s : State) (failed : Nat), s.live.mode.st = .selftest → s.live.mode.listening = false → s.live.mode.classCFail = false →
    s.live.saf.fastLatch = true → s.live.decided 4 1 = false → s.live.decided 4 2 = false → classC.any (fun b => bitOf
    ((s.live.testResults failed).getN 0x20001A) b) = false → Answers (.selftestComplete failed) s (fun L => L.mode.st = .safe ∧
    L.saf.fastLatch = true ∧ bitOf (L.getN 0x404001) 3 = true ∧ L.pins.quarryRelays = false ∧ L.mode.standbySeen = true)) ∧
  (∀ (s : State) (failed : Nat), s.live.mode.st = .selftest → s.live.mode.listening = false → s.live.mode.classCFail = false →
    classC.any (fun b => bitOf ((s.live.testResults failed).getN 0x20001A) b) = true → Answers (.selftestComplete failed) s (fun L
    => L.mode.st = .selftest ∧ L.mode.classCFail = true ∧ L.mode.holdOffB = false ∧ bitOf (L.getN 0x404001) 11 = true ∧
    (s.live.mode.holdOffB = true → L.pins.fastOff = .absent)))

/-- Commands 1 to 3 (03 R57 to R61). -/
def Obligations.EnableDisableAcknowledge : Prop :=
  (∀ (s : State) (sess : Sess), Granted sess 1 s.live → s.live.mode.st = .standby → s.live.mode.quarryEntry = false →
    s.live.cooling = false → s.live.enableRefused = false → Answers (.cmdEnable sess) s (fun L => L.mode.st = .precharge ∧
    L.mode.pendEnable = none ∧ L.getN 0x20000C = 0 ∧ L.conv.phase = 1 ∧ L.conv.act = s.live.startSet ∧ L.pins.fastOff = .off ∧
    L.pins.contactA = true ∧ L.pins.contactB = true ∧ L.pins.insRelay = false ∧ Replied sess 0 L)) ∧
  (∀ (s : State) (sess : Sess), Granted sess 1 s.live → s.live.mode.st = .standby → s.live.mode.quarryEntry = false →
    s.live.cooling = false → s.live.unassigned = false → s.live.enableRefused = true → Answers (.cmdEnable sess) s (fun L =>
    L.mode.st = .standby ∧ L.mode.pendEnable = none ∧ L.getN 0x20000C = 3 ∧ Replied sess 0 L ∧
    { L with mode := { L.mode with pendEnable := s.live.mode.pendEnable }, ks := s.live.ks, obj := s.live.obj, out := s.live.out, mgr := s.live.mgr, dbg := s.live.dbg, com := { L.com with num := s.live.com.num, bus := s.live.com.bus }, twin := { L.twin with bulk := s.live.twin.bulk, fwdSeq := s.live.twin.fwdSeq } }
    = s.live ∧ SameObjects [0x20000C] L s.live)) ∧
  (∀ (s : State) (sess : Sess), Granted sess 1 s.live → s.live.mode.st = .safe → s.live.mode.quarryEntry = false →
    s.live.unassigned = false → Answers (.cmdEnable sess) s (fun L => L.mode.pendEnable = some (s.live.time.clk + sec 30) ∧ L.getN
    0x20000C = 1 ∧ L.mode.st = .safe ∧ Replied sess 0 L ∧
    { L with mode := { L.mode with pendEnable := s.live.mode.pendEnable }, ks := s.live.ks, obj := s.live.obj, out := s.live.out, mgr := s.live.mgr, dbg := s.live.dbg, com := { L.com with num := s.live.com.num, bus := s.live.com.bus }, twin := { L.twin with bulk := s.live.twin.bulk, fwdSeq := s.live.twin.fwdSeq } }
    = s.live)) ∧
  (∀ (s : State) (sess : Sess), Granted sess 1 s.live → (s.live.mode.st = .service ∨ s.live.mode.st = .boot ∨ s.live.mode.st =
    .selftest) → s.live.unassigned = false → Answers (.cmdEnable sess) s (fun L => L.getN 0x20000C = 2 ∧ L.mode = s.live.mode ∧
    { L with ks := s.live.ks, obj := s.live.obj, out := s.live.out, mgr := s.live.mgr, dbg := s.live.dbg, com := { L.com with num := s.live.com.num, bus := s.live.com.bus }, twin := { L.twin with bulk := s.live.twin.bulk, fwdSeq := s.live.twin.fwdSeq } }
    = s.live)) ∧
  (∀ (s : State) (sess : Sess), Granted sess 1 s.live → s.live.mode.quarryEntry = false → s.live.unassigned = true → Answers
    (.cmdEnable sess) s (fun L => L.getN 0x20000C = 3 ∧ L.mode = s.live.mode ∧ Replied sess 0 L ∧
    { L with ks := s.live.ks, obj := s.live.obj, out := s.live.out, mgr := s.live.mgr, dbg := s.live.dbg, com := { L.com with num := s.live.com.num, bus := s.live.com.bus }, twin := { L.twin with bulk := s.live.twin.bulk, fwdSeq := s.live.twin.fwdSeq } }
    = s.live ∧ SameObjects [0x20000C] L s.live)) ∧
  (∀ (s : State) (sess : Sess), Granted sess 1 s.live → s.live.driving = true → s.live.mode.seq = none → Answers (.cmdDisable sess)
    s (fun L => L.getN 0x20000C = 0 ∧ (L.mode.st = s.live.mode.st ∨ L.mode.st = .standby) ∧ (∀ q ∈ L.mode.seq.toList, q.kind =
    .shutdown ∧ q.since = s.live.time.clk) ∧ (L.mode.st = s.live.mode.st → L.mode.seq.isSome) ∧ Replied sess 0 L)) ∧
  (∀ (s : State) (sess : Sess), Granted sess 1 s.live → s.live.driving = false → s.live.mode.pendEnable ≠ none → Answers
    (.cmdDisable sess) s (fun L => L.mode.pendEnable = none ∧ L.getN 0x20000C = 5 ∧ Replied sess 0 L ∧
    { L with mode := { L.mode with pendEnable := s.live.mode.pendEnable }, ks := s.live.ks, obj := s.live.obj, out := s.live.out, mgr := s.live.mgr, dbg := s.live.dbg, com := { L.com with num := s.live.com.num, bus := s.live.com.bus }, twin := { L.twin with bulk := s.live.twin.bulk, fwdSeq := s.live.twin.fwdSeq } }
    = s.live)) ∧
  (∀ (s : State) (sess : Sess), Granted sess 1 s.live → s.live.driving = false → s.live.mode.pendEnable = none → Answers
    (.cmdDisable sess) s (fun L => L.getN 0x20000C = 2 ∧ Replied sess 0 L ∧
    { L with ks := s.live.ks, obj := s.live.obj, out := s.live.out, mgr := s.live.mgr, dbg := s.live.dbg, com := { L.com with num := s.live.com.num, bus := s.live.com.bus }, twin := { L.twin with bulk := s.live.twin.bulk, fwdSeq := s.live.twin.fwdSeq } }
    = s.live)) ∧
  (∀ (s : State) (sess : Sess), Granted sess 1 s.live → s.live.safeDone = true → s.live.getN 0x404002 = 0 → s.live.saf.obeyed =
    none → s.live.allReleased = true → Answers (.cmdAcknowledge sess) s (fun L => L.mode.st = .standby ∧ L.mode.seq = none ∧ L.getN
    0x404001 = 0 ∧ L.getN 0x20000C = 0 ∧ L.saf.fastLatch = false ∧ L.saf.hazard = false ∧ L.saf.supplyLoss = false ∧ L.pins.fastOff
    = L.restFast ∧ L.pins.contactA = s.live.pins.contactA ∧ Replied sess 0 L)) ∧
  (∀ (s : State) (sess : Sess), Granted sess 1 s.live → (s.live.safeDone = false ∨ s.live.getN 0x404002 ≠ 0 ∨ s.live.saf.obeyed ≠
    none ∨ s.live.allReleased = false) → Answers (.cmdAcknowledge sess) s (fun L => L.getN 0x20000C = 2 ∧ Replied sess 0 L ∧
    { L with ks := s.live.ks, obj := s.live.obj, out := s.live.out, mgr := s.live.mgr, dbg := s.live.dbg, com := { L.com with num := s.live.com.num, bus := s.live.com.bus }, twin := { L.twin with bulk := s.live.twin.bulk, fwdSeq := s.live.twin.fwdSeq } }
    = s.live ∧ SameObjects [0x20000C] L s.live))

/-- Commands 4 to 6 and the ends of the quarry entry and of hold-up (03 R57, R67; 02 R45, R46). -/
def Obligations.ServiceAndQuarryCommands : Prop :=
  (∀ (s : State) (sess : Sess), Granted sess 2 s.live → ((s.live.mode.st = .standby ∧ s.live.mode.quarryEntry = false) ∨
    s.live.safeDone = true) → Answers (.cmdEnterService sess) s (fun L => L.mode.st = .service ∧ L.mode.seq = none ∧
    L.mode.pendEnable = none ∧ (L.getN 0x20000C = if s.live.mode.pendEnable = none then 0 else 5) ∧ L.pins.contactA =
    s.live.pins.contactA ∧ Replied sess 0 L)) ∧
  (∀ (s : State) (sess : Sess), Granted sess 2 s.live → s.live.driving = true → Answers (.cmdEnterService sess) s (fun L => L.getN
    0x20000C = 2 ∧
    { L with ks := s.live.ks, obj := s.live.obj, out := s.live.out, mgr := s.live.mgr, dbg := s.live.dbg, com := { L.com with num := s.live.com.num, bus := s.live.com.bus }, twin := { L.twin with bulk := s.live.twin.bulk, fwdSeq := s.live.twin.fwdSeq } }
    = s.live)) ∧
  (∀ (s : State) (sess : Sess), Granted sess 2 s.live → s.live.mode.st = .service → s.live.getN 0x20000D ≠ 2 → Answers
    (.cmdLeaveService sess) s (fun L => L.mode.st = .standby ∧ L.getN 0x20000C = 0 ∧ L.pins.fastOff = L.restFast ∧ Replied sess 0
    L)) ∧
  (∀ (s : State) (sess : Sess), Served sess 2 s.live → s.live.ks.commands < 16 → s.live.follower = false → s.live.mode.st =
    .service → s.live.getN 0x20000D = 2 → Answers (.cmdLeaveService sess) s (fun L => L.mode.st = .service ∧ L.getN 0x20000C = 3 ∧
    { L with ks := s.live.ks, obj := s.live.obj, out := s.live.out, mgr := s.live.mgr, dbg := s.live.dbg, com := { L.com with num := s.live.com.num, bus := s.live.com.bus }, twin := { L.twin with bulk := s.live.twin.bulk, fwdSeq := s.live.twin.fwdSeq } }
    = s.live)) ∧
  (∀ (s : State) (sess : Sess), Granted sess 2 s.live → (s.live.mode.st = .standby ∨ s.live.mode.st = .service) →
    s.live.mode.quarryEntry = false → s.live.allOpen = true → s.live.mgr.lead = false → Answers (.cmdEnterQuarry sess) s (fun L =>
    L.mode.quarryEntry = true ∧ L.getN 0x20000C = 0 ∧ Replied sess 0 L ∧
    { L with mode := { L.mode with quarryEntry := s.live.mode.quarryEntry }, ks := s.live.ks, obj := s.live.obj, out := s.live.out, mgr := s.live.mgr, dbg := s.live.dbg, com := { L.com with num := s.live.com.num, bus := s.live.com.bus }, twin := { L.twin with bulk := s.live.twin.bulk, fwdSeq := s.live.twin.fwdSeq } }
    = s.live)) ∧
  (∀ (s : State) (sess : Sess), Granted sess 2 s.live → (s.live.mode.st = .standby ∨ s.live.mode.st = .service) →
    s.live.mode.quarryEntry = false → s.live.allOpen = false → Answers (.cmdEnterQuarry sess) s (fun L => L.mode.quarryEntry =
    false ∧ L.getN 0x20000C = 3 ∧
    { L with ks := s.live.ks, obj := s.live.obj, out := s.live.out, mgr := s.live.mgr, dbg := s.live.dbg, com := { L.com with num := s.live.com.num, bus := s.live.com.bus }, twin := { L.twin with bulk := s.live.twin.bulk, fwdSeq := s.live.twin.fwdSeq } }
    = s.live)) ∧
  (∀ (s : State), s.live.mode.quarryEntry = true → (s.live.mode.st = .standby ∨ s.live.mode.st = .service) → Answers
    .quarryEntryComplete s (fun L => L.mode.st = .quarry ∧ L.pins.fastOff = .absent ∧ L.pins.contactA = false ∧ L.pins.contactB =
    false ∧ L.pins.elementOpen = false ∧ L.pins.twinXLow = false ∧ L.pins.insRelay = false ∧ L.pins.quarryRelays = true ∧
    L.mode.seq = none ∧ L.mode.pendEnable = none)) ∧
  (∀ (s : State), s.live.powered = true → s.live.pins.holdup = true → Answers .holdupSealComplete s (fun L => L.mode.st = .off ∧
    L.pins.fastOff = .absent ∧ L.pins.contactA = false ∧ L.pins.contactB = false ∧ L.pins.elementOpen = false ∧ L.pins.twinXLow =
    false ∧ L.pins.holdup = false ∧ L.pins.phyOn = false)) ∧
  (∀ (s : State), s.live.pins.holdup = false → exec .holdupSealComplete s = .next s)

/-- Commands 8 and 9 (03 R57, R64, R65) and the timers of 03 R59, R62 and R52 T11. -/
def Obligations.RestartsAndModuleTimers : Prop :=
  (∀ (s : State) (sess : Sess), Granted sess 2 s.live → s.live.fromStandby = true → Answers (.cmdColdRestartLogic sess) s (fun L =>
    L.getN 0x20000C = 0 ∧ L.mode = s.live.mode ∧ Replied sess 0 L ∧ L.pins = s.live.pins ∧ L.lgc.forces = [] ∧ L.lgc.due = true ∧
    L.lgc.bank = s.live.lgc.bank ∧ L.lgc.latched = s.live.lgc.latched ∧ (L.getN 0x440001 = if s.live.bankValid s.live.lgc.bank then
    2 else 0) ∧ L.getN 0x44000D = 0 ∧ L.getN 0x440038 = 0 ∧ (s.live.bankValid s.live.lgc.bank = true → L.lgc.vm =
    { mem := startMemory s.live.program true s.live.lgc.vm.mem }))) ∧
  (∀ (s : State) (sess : Sess), Granted sess 2 s.live → s.live.fromStandby = false → Answers (.cmdColdRestartLogic sess) s (fun L
    => L.getN 0x20000C = 2 ∧
    { L with ks := s.live.ks, obj := s.live.obj, out := s.live.out, mgr := s.live.mgr, dbg := s.live.dbg, com := { L.com with num := s.live.com.num, bus := s.live.com.bus }, twin := { L.twin with bulk := s.live.twin.bulk, fwdSeq := s.live.twin.fwdSeq } }
    = s.live)) ∧
  (∀ (s : State) (sess : Sess), Granted sess 2 s.live → (s.live.mode.st = .standby ∨ s.live.mode.st = .service) → Answers
    (.cmdColdRestartEstimator sess) s (fun L => L.getN 0x20000C = 0 ∧ L.mode = s.live.mode ∧ Replied sess 0 L ∧ L.pins =
    s.live.pins ∧ L.est.coldCtx = List.range 512 ∧ L.est.ctx.length = s.live.est.ctx.length ∧ (L.est.ctx.all (fun c => decide (c.na
    = 0) && !c.blend) = true) ∧ L.est.seg = s.live.est.seg ∧ L.est.rep = s.live.est.rep ∧ SameObjects [0x20000C] L s.live)) ∧
  (∀ (s : State) (sess : Sess), Granted sess 2 s.live → s.live.driving = true → Answers (.cmdColdRestartEstimator sess) s (fun L =>
    L.getN 0x20000C = 2 ∧
    { L with ks := s.live.ks, obj := s.live.obj, out := s.live.out, mgr := s.live.mgr, dbg := s.live.dbg, com := { L.com with num := s.live.com.num, bus := s.live.com.bus }, twin := { L.twin with bulk := s.live.twin.bulk, fwdSeq := s.live.twin.fwdSeq } }
    = s.live)) ∧
  (∀ (s : State) (t : Nat), s.live.powered = true → s.live.mode.pendEnable = some t → Answers .pendingEnableExpiry s (fun L =>
    L.mode.pendEnable = none ∧ L.getN 0x20000C = 4 ∧ L.time.clk = max s.live.time.clk t ∧ SameObjects [0x20000C] L s.live ∧
    { L with mode := { L.mode with pendEnable := s.live.mode.pendEnable }, time := { L.time with clk := s.live.time.clk, mtime := s.live.time.mtime, cyc := s.live.time.cyc, frac := s.live.time.frac }, obj := s.live.obj }
    = s.live)) ∧
  (∀ (s : State) (t : Nat), s.live.powered = true → s.live.mode.cooldown = some t → Answers .prechargeCooldownEnd s (fun L =>
    L.mode.cooldown = none ∧ L.time.clk = max s.live.time.clk t ∧
    { L with mode := { L.mode with cooldown := s.live.mode.cooldown }, time := { L.time with clk := s.live.time.clk, mtime := s.live.time.mtime, cyc := s.live.time.cyc, frac := s.live.time.frac } }
    = s.live)) ∧
  (∀ (s : State), Works 0 s.live → s.live.mode.st = .derated → s.live.limFlags % 32 = 0 → Answers .derateHoldExpiry s (fun L =>
    L.mode.st = .run ∧ L.time.clk = max s.live.time.clk (s.live.mode.derateAt + sec 1) ∧
    { L with mode := { L.mode with st := s.live.mode.st }, time := { L.time with clk := s.live.time.clk, mtime := s.live.time.mtime, cyc := s.live.time.cyc, frac := s.live.time.frac }, rcd := s.live.rcd, dbg := s.live.dbg, chi := s.live.chi, obj := s.live.obj }
    = s.live))

/-- The instants of 04 R78 to R82 and the commit of 01 R20 and 12 R319. -/
def Obligations.TimeMovesToItsInstants : Prop :=
  (∀ (s : State), s.live.powered = true → Answers .sampleStrobe s (fun L => (L.time.mtime = (((s.live.time.mtime / 10000 + 1) *
    10000 : Nat) + (if s.live.timeDriving ∧ s.live.time.firstPending = false then 0 else s.live.time.stepPending)).toNat) ∧
    L.time.clk = s.live.time.clk + ((s.live.time.mtime / 10000 + 1) * 10000 - s.live.time.mtime) ∧ L.time.stepPending = 0 ∧
    (L.rcd.brkHit = [] ∨ s.live.rcd.brkHit ≠ []) ∧ L.conv = s.live.conv ∧ L.eng = s.live.eng ∧ L.node = s.live.node)) ∧
  (∀ (s : State) (x : SampleIn), Works 0 s.live → s.live.fromStandby = true → s.live.stageBrk = none → s.live.ks.ctlDue = none →
    Answers (.controlSample x) s (fun L => L.conv.i = q (s.live.ctl 0x40120A) / 100000 * x.shunt ∧ L.conv.iFg = q (s.live.ctl
    0x40120B) / 100000 * x.fluxgate ∧ L.conv.vBus = q (s.live.ctl 0x40120C) / 100000 * x.vBus ∧ L.conv.vStr = q (s.live.ctl
    0x40120D) / 100000 * x.vStr ∧ L.time = s.live.time ∧ L.node = s.live.node ∧ L.ks.pend = s.live.ks.pend)) ∧
  (∀ (s : State) (x : SampleIn), Works 0 s.live → s.live.fromStandby = true → s.live.stageBrk = none → x.tableLate = true → Answers
    (.controlSample x) s (fun L => L.conv.rel = s.live.conv.rel ∧ L.eng.vinsCmd = s.live.eng.vinsCmd ∧ L.eng.late = s.live.eng.late
    + 1 ∧ L.getN 0x300036 = min (s.live.getN 0x300036 + 1) (2 ^ 32 - 1))) ∧
  (∀ (s : State) (x : SampleIn), s.live.fromStandby = false → x.badCrossing = none → exec (.controlSample x) s = .next s) ∧
  (∀ (s : State) (x : SampleIn) (ch : Nat), s.live.powered = true → s.live.fromStandby = true → bitOf s.live.dbg.halted 0 = true →
    x.badCrossing = some ch → s.live.decided 12 1 = false → Answers (.controlSample x) s (fun L => bitOf (L.getN 0x404001) 11 =
    true ∧ bitOf (L.getN 0x404002) 11 = true ∧ L.conv.i = s.live.conv.i ∧ L.eng.vinsCmd = s.live.eng.vinsCmd ∧ L.time =
    s.live.time)) ∧
  (∀ (s : State), Works 3 s.live → s.live.tracks = false → s.live.course ≠ 0 → ∃ t, exec .courseBoundary s = .next t ∧
    t.live.ks.epoch = s.live.ks.epoch + 1 ∧ t.snap.ks.epoch = s.live.ks.epoch + 1 ∧ t.live.ks.txns = [] ∧ t.live.ks.refused = 0 ∧
    t.snap.ks.pend = [] ∧ t.snap.time.lastBoundary % s.live.course = 0 ∧ s.live.time.mtime / s.live.course * s.live.course ≤
    t.snap.time.lastBoundary ∧ t.latched = none ∧ t.pending = s.pending) ∧
  (∀ (s : State), Works 3 s.live → s.live.tracks = true → ∃ t, exec .courseBoundary s = .next t ∧ (t.latched = some t.live ∨
    t.latched.isSome) ∧ t.live.twin.due = some 0 ∧ t.live.ks = s.live.ks ∧ t.snap = s.snap ∧ t.pending = s.pending)

/-- The chisel and the capture unit (07 R182 to R191) and the impedance window (07 R187). -/
def Obligations.ChiselAndCaptureCommands : Prop :=
  (∀ (s : State) (sess : Sess), Granted sess 2 s.live → (s.live.mode.st = .run ∨ s.live.mode.st = .derated ∨ s.live.mode.st =
    .standby ∨ s.live.mode.st = .service) → (s.live.chi.st ≠ 1 ∧ s.live.chi.st ≠ 2 ∧ s.live.chi.st ≠ 3) → real32 (s.live.getN
    0x320004) = some 0 → Answers (.chiselStart sess) s (fun L => (L.chi.st = if s.live.cap.cmds.contains (1, s.live.time.mtime +
    200000) = true ∧ s.live.getN 0x320107 = 1 then 3 else if s.live.driving then 1 else 2) ∧ L.chi.start = (s.live.time.mtime +
    200000) / 10000 ∧ L.chi.begun = false ∧ Replied sess 0 L ∧
    { L with chi := s.live.chi, ks := s.live.ks, out := s.live.out, mgr := s.live.mgr, dbg := s.live.dbg, com := { L.com with num := s.live.com.num, bus := s.live.com.bus }, twin := { L.twin with bulk := s.live.twin.bulk, fwdSeq := s.live.twin.fwdSeq } }
    = s.live)) ∧
  (∀ (s : State) (sess : Sess), Granted sess 2 s.live → (s.live.mode.st = .safe ∨ s.live.mode.st = .precharge ∨ s.live.chi.st = 1)
    → Answers (.chiselStart sess) s (fun L => Replied sess abState L ∧
    { L with ks := s.live.ks, out := s.live.out, mgr := s.live.mgr, dbg := s.live.dbg, com := { L.com with num := s.live.com.num, bus := s.live.com.bus }, twin := { L.twin with bulk := s.live.twin.bulk, fwdSeq := s.live.twin.fwdSeq } }
    = s.live)) ∧
  (∀ (s : State) (sess : Sess), Granted sess 2 s.live → (s.live.chi.st = 1 ∨ s.live.chi.st = 2 ∨ s.live.chi.st = 3) → Answers
    (.chiselStop sess) s (fun L => L.chi.st = 5 ∧ L.chi.sig = 0 ∧ L.getN 0x320027 = 1 ∧ Replied sess 0 L ∧
    { L with chi := s.live.chi, ks := s.live.ks, out := s.live.out, mgr := s.live.mgr, dbg := s.live.dbg, obj := s.live.obj, rcd := s.live.rcd, com := s.live.com, cap := s.live.cap, twin := { L.twin with bulk := s.live.twin.bulk, fwdSeq := s.live.twin.fwdSeq } }
    = s.live)) ∧
  (∀ (s : State), Works 0 s.live → (s.live.chi.st = 1 ∨ s.live.chi.st = 2) → Answers .chiselComplete s (fun L => L.chi.st = 4 ∧
    L.chi.sig = 0 ∧ L.time.mtime = max s.live.time.mtime ((s.live.chi.start + s.live.ctlN 0x320005) * 10000) ∧
    { L with chi := s.live.chi, time := s.live.time, rcd := s.live.rcd, com := s.live.com, dbg := s.live.dbg, cap := s.live.cap } =
    s.live)) ∧
  (∀ (s : State) (sess : Sess), Granted sess 2 s.live → Answers (.captureArm sess) s (fun L => L.cap.cmds = s.live.cap.cmds ++ [(1,
    s.live.time.mtime + 200000)] ∧ (L.chi.st = if (s.live.chi.st = 1 ∨ s.live.chi.st = 2) ∧ s.live.chi.begun = false ∧
    s.live.chi.start = (s.live.time.mtime + 200000) / 10000 ∧ s.live.getN 0x320107 = 1 then 3 else s.live.chi.st) ∧ Replied sess 0
    L ∧
    { L with cap := { L.cap with cmds := s.live.cap.cmds }, chi := { L.chi with st := s.live.chi.st }, ks := s.live.ks, out := s.live.out, mgr := s.live.mgr, dbg := s.live.dbg, com := { L.com with num := s.live.com.num, bus := s.live.com.bus }, twin := { L.twin with bulk := s.live.twin.bulk, fwdSeq := s.live.twin.fwdSeq } }
    = s.live)) ∧
  (∀ (s : State) (sess : Sess), Granted sess 2 s.live → Answers (.captureForceTrigger sess) s (fun L => L.cap.cmds =
    s.live.cap.cmds ++ [(2, s.live.time.mtime + 200000)] ∧ Replied sess 0 L ∧
    { L with cap := { L.cap with cmds := s.live.cap.cmds }, ks := s.live.ks, out := s.live.out, mgr := s.live.mgr, dbg := s.live.dbg, com := { L.com with num := s.live.com.num, bus := s.live.com.bus }, twin := { L.twin with bulk := s.live.twin.bulk, fwdSeq := s.live.twin.fwdSeq } }
    = s.live)) ∧
  (∀ (s : State) (sess : Sess), Granted sess 2 s.live → Answers (.captureAbort sess) s (fun L => L.cap.cmds = s.live.cap.cmds ++
    [(3, s.live.time.mtime + 200000)] ∧ Replied sess 0 L ∧
    { L with cap := { L.cap with cmds := s.live.cap.cmds }, ks := s.live.ks, out := s.live.out, mgr := s.live.mgr, dbg := s.live.dbg, com := { L.com with num := s.live.com.num, bus := s.live.com.bus }, twin := { L.twin with bulk := s.live.twin.bulk, fwdSeq := s.live.twin.fwdSeq } }
    = s.live)) ∧
  (∀ (s : State), Works 0 s.live → s.live.cap.st = 3 → 16384 ≤ s.live.cap.buf.length → Answers .captureComplete s (fun L =>
    L.cap.st = 4 ∧ L.cap.buf = s.live.cap.buf ∧
    { L with cap := s.live.cap, rcd := s.live.rcd, com := s.live.com, dbg := s.live.dbg } = s.live)) ∧
  (∀ (s : State), Works 1 s.live → Answers .impedanceWindowBoundary s (fun L => L.time.mtime % 30000000000 = 0 ∧ s.live.time.mtime
    ≤ L.time.mtime ∧ L.time.mtime < s.live.time.mtime + 30000000000 ∧ L.chi.imp = s.live.mayImp ∧ L.mode = s.live.mode ∧ L.pins =
    s.live.pins))

/-- The phases of 06 R133 and the precharge faults of 06 R134. -/
def Obligations.SoftStartPhases : Prop :=
  (∀ (s : State), Works 0 s.live → s.live.inPhase 1 = true → s.live.pins.fbKpOpen = false → s.live.pins.fbKnOpen = false → Answers
    .softstartContactorsClosed s (fun L => L.conv.phase = 2 ∧ L.conv.d = 0 ∧ L.conv.phaseAt = s.live.time.clk ∧
    { L with conv := { L.conv with phase := s.live.conv.phase, d := s.live.conv.d, phaseAt := s.live.conv.phaseAt, okSince := s.live.conv.okSince, vStrAvg := s.live.conv.vStrAvg } }
    = s.live)) ∧
  (∀ (s : State), Works 0 s.live → s.live.inPhase 1 = true → (s.live.pins.fbKpOpen = true ∨ s.live.pins.fbKnOpen = true) → exec
    .softstartContactorsClosed s = .next s) ∧
  (∀ (s : State) (t : Nat), Works 0 s.live → s.live.inPhase 2 = true → s.live.matchedAt = some t → 0 ≤ s.live.headroom
    s.live.conv.act → Answers .softstartMatched s (fun L => L.conv.phase = 4 ∧ L.pins.fastOff = .permit ∧ (L.conv.r = if
    s.live.conv.mode = 2 then s.live.conv.vBus else 0) ∧ L.time.clk = max s.live.time.clk t ∧ L.mode = s.live.mode ∧
    L.pins.contactA = s.live.pins.contactA)) ∧
  (∀ (s : State) (t : Nat), Works 0 s.live → s.live.inPhase 2 = true → s.live.matchedAt = some t → s.live.headroom s.live.conv.act
    < 0 → Answers .softstartMatched s (fun L => L.mode.st = .safe ∧ L.saf.precharge = true ∧ L.mode.cooldown = some (max
    s.live.time.clk t + sec 10))) ∧
  (∀ (s : State), Works 0 s.live → s.live.inPhase 2 = true → s.live.matchedAt = none → Answers .softstartMatchTimeout s (fun L =>
    L.mode.st = .safe ∧ L.saf.precharge = true ∧ L.time.clk = max s.live.time.clk (s.live.conv.phaseAt + ms 20) ∧ L.mode.cooldown =
    some (L.time.clk + sec 10) ∧ L.mode.pendEnable = none)) ∧
  (∀ (s : State), Works 0 s.live → s.live.inPhase 4 = true → s.live.pins.sswOpen = false → Answers .softstartSwitchClosed s (fun L
    => L.conv.phase = 5 ∧ L.conv.closedAt = some s.live.time.clk ∧
    { L with conv := { L.conv with phase := s.live.conv.phase, phaseAt := s.live.conv.phaseAt, okSince := s.live.conv.okSince, closedAt := s.live.conv.closedAt, lowSince := s.live.conv.lowSince } }
    = s.live)) ∧
  (∀ (s : State), Works 0 s.live → s.live.inPhase 4 = true → s.live.pins.sswOpen = true → Answers .softstartSwitchTimeout s (fun L
    => L.mode.st = .safe ∧ L.saf.precharge = true ∧ L.time.clk = max s.live.time.clk (s.live.conv.phaseAt + ms 2) ∧ L.mode.cooldown
    = some (L.time.clk + sec 10))) ∧
  (∀ (s : State) (t : Nat), Works 0 s.live → s.live.inPhase 5 = true → s.live.conv.okSince = some t → Answers .softstartComplete s
    (fun L => L.mode.st = .run ∧ L.conv.phase = 6 ∧ L.conv.mode = s.live.ctlN 0x300001 ∧ (L.time.clk = max s.live.time.clk (if
    s.live.conv.mode = 2 then t else t + ms 100)) ∧ L.pins = s.live.pins ∧ L.saf = s.live.saf)) ∧
  (∀ (s : State) (a : Nat) (b : Nat), Works 0 s.live → s.live.inPhase 5 = true → s.live.conv.lowSince = some a →
    s.live.conv.closedAt = some b → Answers .shortAbort s (fun L => L.mode.st = .safe ∧ L.saf.precharge = true ∧ L.time.clk = max
    s.live.time.clk (max a b + ms (s.live.ctlN 0x30000B)) ∧ L.mode.cooldown = some (L.time.clk + sec 10))) ∧
  (∀ (s : State) (b : Nat), Works 0 s.live → s.live.inPhase 5 = true → s.live.conv.closedAt = some b → Answers .prechargeTimeout s
    (fun L => L.mode.st = .safe ∧ L.saf.precharge = true ∧ L.time.clk = max s.live.time.clk (b + ms (s.live.ctlN 0x30000C)) ∧
    L.mode.cooldown = some (L.time.clk + sec 10)))

/-- The six commands of bus collapse (06 R129), planned bypass and return (06 R142, R145, R150) and balancing (06 R138, R141), each
completing. -/
def Obligations.CollapseSegmentsAndBalancing : Prop :=
  (∀ (s : State) (t : Nat), Works 0 s.live → (s.live.mode.st = .run ∨ s.live.mode.st = .derated) → s.live.conv.collapse = false →
    s.live.conv.lowSince = some t → Answers .busCollapseDetected s (fun L => L.conv.collapse = true ∧ L.conv.limDis = 0 ∧
    L.conv.limCh = 0 ∧ L.time.clk = max s.live.time.clk (t + ms (s.live.ctlN 0x30000B)) ∧
    { L with conv := { L.conv with collapse := s.live.conv.collapse, limDis := s.live.conv.limDis, limCh := s.live.conv.limCh }, time := s.live.time, rcd := s.live.rcd, com := s.live.com, dbg := s.live.dbg, cap := s.live.cap }
    = s.live)) ∧
  (∀ (s : State), (s.live.conv.lowSince = none ∨ s.live.conv.collapse = true ∨ ¬(s.live.mode.st = .run ∨ s.live.mode.st =
    .derated)) → exec .busCollapseDetected s = .next s) ∧
  (∀ (s : State) (t : Nat), Works 0 s.live → s.live.conv.collapse = true → s.live.conv.highSince = some t → Answers
    .busCollapseRelease s (fun L => L.conv.collapse = false ∧ L.conv.highSince = none ∧ L.time.clk = max s.live.time.clk (t + sec
    1) ∧
    { L with conv := { L.conv with collapse := s.live.conv.collapse, highSince := s.live.conv.highSince }, time := s.live.time, rcd := s.live.rcd, com := s.live.com, dbg := s.live.dbg, cap := s.live.cap }
    = s.live)) ∧
  (∀ (s : State), (s.live.conv.highSince = none ∨ s.live.conv.collapse = false) → exec .busCollapseRelease s = .next s) ∧
  (∀ (s : State) (sess : Sess) (seg : Fin 16), Granted sess 2 s.live → s.live.fitted seg = true → s.live.driving = true →
    (s.live.conv.act.contains seg.val = true → s.live.bypassRefused seg = false) → seg.val < s.live.seg.length → Answers
    (.segCmdBypass sess seg) s (fun L => L.segAt seg = (s.live.segAt seg).queueCmd 1 (s.live.time.mtime + 200000) ∧ (∀ k : Fin 16,
    k ≠ seg → L.segAt k = s.live.segAt k) ∧ Replied sess 0 L ∧
    { L with seg := s.live.seg, ks := s.live.ks, out := s.live.out, mgr := s.live.mgr, dbg := s.live.dbg, com := { L.com with num := s.live.com.num, bus := s.live.com.bus }, twin := { L.twin with bulk := s.live.twin.bulk, fwdSeq := s.live.twin.fwdSeq } }
    = s.live)) ∧
  (∀ (s : State) (sess : Sess) (seg : Fin 16), Granted sess 2 s.live → s.live.fitted seg = true → s.live.driving = true →
    s.live.conv.act.contains seg.val = true → s.live.bypassRefused seg = true → Answers (.segCmdBypass sess seg) s (fun L =>
    Replied sess abConv L ∧
    { L with ks := s.live.ks, out := s.live.out, mgr := s.live.mgr, dbg := s.live.dbg, com := { L.com with num := s.live.com.num, bus := s.live.com.bus }, twin := { L.twin with bulk := s.live.twin.bulk, fwdSeq := s.live.twin.fwdSeq } }
    = s.live)) ∧
  (∀ (s : State) (sess : Sess) (seg : Fin 16), Granted sess 2 s.live → s.live.fitted seg = true → s.live.mode.st = .standby →
    seg.val < s.live.seg.length → Answers (.segCmdBypass sess seg) s (fun L => L.segAt seg =
    { s.live.segAt seg with excluded := true, segCmd := none, segNext := none } ∧ (∀ k : Fin 16, k ≠ seg → L.segAt k = s.live.segAt
    k) ∧ Replied sess 0 L ∧
    { L with seg := s.live.seg, ks := s.live.ks, out := s.live.out, mgr := s.live.mgr, dbg := s.live.dbg, com := { L.com with num := s.live.com.num, bus := s.live.com.bus }, twin := { L.twin with bulk := s.live.twin.bulk, fwdSeq := s.live.twin.fwdSeq } }
    = s.live)) ∧
  (∀ (s : State) (sess : Sess) (seg : Fin 16), Granted sess 2 s.live → s.live.fitted seg = true → s.live.driving = true → seg.val <
    s.live.seg.length → Answers (.segCmdReturn sess seg) s (fun L => L.segAt seg = (s.live.segAt seg).queueCmd 2 (s.live.time.mtime
    + 200000) ∧ (∀ k : Fin 16, k ≠ seg → L.segAt k = s.live.segAt k) ∧ Replied sess 0 L ∧
    { L with seg := s.live.seg, ks := s.live.ks, out := s.live.out, mgr := s.live.mgr, dbg := s.live.dbg, com := { L.com with num := s.live.com.num, bus := s.live.com.bus }, twin := { L.twin with bulk := s.live.twin.bulk, fwdSeq := s.live.twin.fwdSeq } }
    = s.live)) ∧
  (∀ (s : State) (sess : Sess) (seg : Fin 16), Granted sess 2 s.live → s.live.fitted seg = true → s.live.mode.st = .standby →
    seg.val < s.live.seg.length → Answers (.segCmdReturn sess seg) s (fun L => (L.segAt seg =
    { s.live.segAt seg with cause := if (s.live.segAt seg).cause = 6 ∧ s.live.tempReturn seg = true then 0 else (s.live.segAt seg).cause, excluded := false, segCmd := none, segNext := none })
    ∧ (∀ k : Fin 16, k ≠ seg → L.segAt k = s.live.segAt k) ∧ Replied sess 0 L ∧
    { L with seg := s.live.seg, ks := s.live.ks, out := s.live.out, mgr := s.live.mgr, dbg := s.live.dbg, com := { L.com with num := s.live.com.num, bus := s.live.com.bus }, twin := { L.twin with bulk := s.live.twin.bulk, fwdSeq := s.live.twin.fwdSeq } }
    = s.live)) ∧
  (∀ (s : State) (sess : Sess) (seg : Fin 16), Granted sess 2 s.live → s.live.fitted seg = false → Answers (.segCmdReturn sess seg)
    s (fun L => Replied sess abRange L ∧
    { L with ks := s.live.ks, out := s.live.out, mgr := s.live.mgr, dbg := s.live.dbg, com := { L.com with num := s.live.com.num, bus := s.live.com.bus }, twin := { L.twin with bulk := s.live.twin.bulk, fwdSeq := s.live.twin.fwdSeq } }
    = s.live)) ∧
  (∀ (s : State) (sess : Sess) (seg : Fin 16), Granted sess 2 s.live → s.live.fitted seg = false → Answers (.segCmdBypass sess seg)
    s (fun L => Replied sess abRange L ∧
    { L with ks := s.live.ks, out := s.live.out, mgr := s.live.mgr, dbg := s.live.dbg, com := { L.com with num := s.live.com.num, bus := s.live.com.bus }, twin := { L.twin with bulk := s.live.twin.bulk, fwdSeq := s.live.twin.fwdSeq } }
    = s.live)) ∧
  (∀ (s : State) (sess : Sess) (seg : Fin 16), Granted sess 2 s.live → s.live.fitted seg = true → s.live.mode.st ≠ .standby →
    s.live.driving = false → Answers (.segCmdBypass sess seg) s (fun L => Replied sess abState L ∧
    { L with ks := s.live.ks, out := s.live.out, mgr := s.live.mgr, dbg := s.live.dbg, com := { L.com with num := s.live.com.num, bus := s.live.com.bus }, twin := { L.twin with bulk := s.live.twin.bulk, fwdSeq := s.live.twin.fwdSeq } }
    = s.live)) ∧
  (∀ (s : State) (sess : Sess) (seg : Fin 16), Granted sess 2 s.live → s.live.fitted seg = true → s.live.mode.st ≠ .standby →
    s.live.driving = false → Answers (.segCmdReturn sess seg) s (fun L => Replied sess abState L ∧
    { L with ks := s.live.ks, out := s.live.out, mgr := s.live.mgr, dbg := s.live.dbg, com := { L.com with num := s.live.com.num, bus := s.live.com.bus }, twin := { L.twin with bulk := s.live.twin.bulk, fwdSeq := s.live.twin.fwdSeq } }
    = s.live)) ∧
  (∀ (s : State), Works 1 s.live → s.live.driving = true → s.live.conv.dir ≠ 0 → Answers .balancingAgeTick s (fun L =>
    L.conv.running % 20000 = 0 ∧ s.live.conv.running ≤ L.conv.running ∧ L.conv.running ≤ s.live.conv.running + 20000 ∧ 0 <
    L.conv.running ∧ (∀ g ∈ L.seg, g.sums = (0, 0)) ∧ (∀ k, k < s.live.seg.length → (L.segAt k).age = if s.live.deviates k = true ∧
    2 * (s.live.segAt k).sums.1 < (s.live.segAt k).sums.2 ∧ (s.live.segAt k).age < 16 then (s.live.segAt k).age + 1 else
    (s.live.segAt k).age) ∧ L.conv.act = s.live.conv.act ∧
    { L with seg := s.live.seg, conv := { L.conv with running := s.live.conv.running, queue := s.live.conv.queue } } = s.live)) ∧
  (∀ (s : State), (s.live.driving = false ∨ s.live.conv.dir = 0) → exec .balancingAgeTick s = .next s) ∧
  (∀ (s : State), Works 0 s.live → Answers .rmsRatioBucket s (fun L => (∀ g ∈ L.seg, g.bucket = (0, 0) ∧ g.buckets.length ≤ 60) ∧
    (L.seg.map (·.buckets) = s.live.seg.map (fun g => ((g.bucket.1 / q (max g.bucket.2 1 : Nat)) :: g.buckets).take 60)) ∧
    { L with seg := s.live.seg, rcd := s.live.rcd, com := s.live.com, dbg := s.live.dbg, cap := s.live.cap } = s.live))

/-- Nothing runs in QUARRY (03 R68) nor in OFF (03 R50); only supply and wake reach the module there (02 R42 to R46), and the nodes
are devices of their own (the model's reading, log 19). -/
def Obligations.NothingRunsInQuarryOrOff : Prop :=
  ∀ (c : Instr) (s t : State), s.live.powered = false → exec c s = .next t → (∃ i mv, c = .auxInputPresent i mv) ∨ (∃ i mv, c =
    .auxInputAbsent i mv) ∨ c = .allSuppliesLost ∨ (∃ ms, c = .wakePulse ms) ∨
    { t with live := { t.live with node := s.live.node, out := s.live.out, free := s.live.free } } = s

/-- What the module does with its segment links (05 R89 to R112, 06 R143, 10 R257). -/
def Obligations.SuperframesAndUplinks : Prop :=
  (∀ (s : State), Works 2 s.live → Answers .downlinkLatch s (fun L => L.conv.lat = s.live.conv.rel ∧
    { L with conv := { L.conv with lat := s.live.conv.lat } } = s.live)) ∧
  (∀ (s : State) (k : Fin 16), Works 2 s.live → s.live.seg.length = 16 → s.live.fitted k = true → Answers .superframeStart s (fun L
    => (L.segAt k).missed = (s.live.segAt k).missed + 1 ∧ (L.segAt k).valid = false ∧ L.time = s.live.time ∧ L.node = s.live.node)) ∧
  (∀ (s : State) (seg : Fin 16) (frame : Bytes) (lineOk : Bool) (t4 : Nat), Works 2 s.live → s.live.seg.length = 16 → s.live.fitted
    seg = true → uplinkOk frame lineOk = true → Answers (.uplinkFrameRx seg frame lineOk t4) s (fun L => (L.segAt seg).valid = true
    ∧ (L.segAt seg).missed = 0 ∧ (L.segAt seg).stat = byteAt frame 3 ∧ (L.segAt seg).tgen = byteAt frame 5 ∧ (L.segAt seg).bstate =
    byteAt frame 6 ∧ (L.segAt seg).vseg = le frame 7 2 ∧ L.time = s.live.time ∧ L.node = s.live.node)) ∧
  (∀ (s : State) (seg : Fin 16) (frame : Bytes) (lineOk : Bool) (t4 : Nat), Works 2 s.live → s.live.fitted seg = true → uplinkOk
    frame lineOk = false → Answers (.uplinkFrameRx seg frame lineOk t4) s (fun L => L.getN (segKey seg 0x25) = min (s.live.getN
    (segKey seg 0x25) + 1) (2 ^ 32 - 1) ∧ (L.segAt seg).valid = (s.live.segAt seg).valid ∧ (L.segAt seg).stat = (s.live.segAt
    seg).stat ∧
    { L with seg := s.live.seg, obj := s.live.obj, rcd := s.live.rcd, com := s.live.com, dbg := s.live.dbg, cap := s.live.cap } =
    s.live)) ∧
  (∀ (s : State) (seg : Fin 16) (frame : Bytes) (lineOk : Bool) (t4 : Nat), s.live.fitted seg = false → exec (.uplinkFrameRx seg
    frame lineOk t4) s = .next s) ∧
  (∀ (s : State) (seg : Fin 16) (n : Nat), Works 5 s.live → s.live.seg.length = 16 → (s.live.segAt seg).confirm = some n → Answers
    (.bypassConfirmTimeout seg) s (fun L => (L.segAt seg).confirm = none ∧ (L.segAt seg).hard = true ∧ L.time.mtime = max
    s.live.time.mtime (s.live.confirmDue n) ∧ L.conv = s.live.conv ∧ L.mode = s.live.mode)) ∧
  (∀ (s : State) (seg : Fin 16), Works 5 s.live → s.live.seg.length = 16 → s.live.fitted seg = true → (s.live.saf.seg.getD seg.val
    {}).absent ≠ 0 → Answers (.uplinkMissingTimeout seg) s (fun L => ((s.live.saf.seg.getD seg.val {}).absent ≤ (s.live.segAt
    seg).missed → (L.segAt seg).link = 0 ∧ (L.segAt seg).req = none) ∧ ((s.live.saf.seg.getD seg.val {}).absent ≤ (s.live.segAt
    seg).missed → Config.freeInt s.live.free % 2 ≠ 1 → L.get (segKey seg 0x22) = -32768) ∧ L.conv.act = s.live.conv.act.filter (·
    != seg.val) ∧ L.time.mtime = s.live.time.mtime + (4 - (s.live.saf.seg.getD seg.val {}).absent) * 10000 ∧ L.mode = s.live.mode ∧
    L.pins = s.live.pins)) ∧
  (∀ (s : State) (seg : Fin 16), Works 5 s.live → s.live.fromStandby = true → s.live.pins.sswOpen = false → s.live.inMask seg =
    true → (s.live.saf.seg.getD seg.val {}).missing ≠ 0 → (s.live.hasPartner = false ∨ bitOf s.live.twin.p.uvalid seg = false) →
    s.live.decided 1 1 = false → s.live.decided 2 1 = false → Answers (.uplinkWordsLostTimeout seg) s (fun L => bitOf (L.getN
    0x404001) 0 = true ∧ bitOf (L.getN 0x404001) 1 = true ∧ L.time.mtime = s.live.time.mtime + (1000 - (s.live.saf.seg.getD seg.val
    {}).missing) * 10000 ∧ (s.live.mode.st ≠ .service → L.mode.st = .safe))) ∧
  (∀ (s : State) (seg : Fin 16), Works 2 s.live → s.live.seg.length = 16 → s.live.fitted seg = true → Answers (.linkCommaLock seg)
    s (fun L => (L.segAt seg).link = 1 ∧ (L.segAt seg).bring = 1 ∧ (L.segAt seg).req = some
    { op := 1, tag := (s.live.segAt seg).reqTag, addr := 0, data := List.replicate 34 0, tries := 0 } ∧
    { L with seg := s.live.seg, out := s.live.out } = s.live)) ∧
  (∀ (s : State) (path : Fin 18) (m : Int), Works 2 s.live → m < 200 → Answers (.opticalMarginLow path m) s (fun L => (L.get (if
    path.val < 16 then segKey path 0x22 else 0x4A0007 + (path.val - 16)) = max (-4000) (min 500 (m + (if path.val < 16 then -2000
    else -1700)))) ∧ L.rcd.raised = s.live.rcd.raised + 1 ∧ (L.rcd.lastEvent.1 = if path.val < 16 then 128 + 8 * path.val else 120)
    ∧ (L.rcd.lastEvent.2.1 = if path.val < 16 then 1 else 3) ∧
    { L with obj := s.live.obj, rcd := s.live.rcd, com := s.live.com, dbg := s.live.dbg, cap := s.live.cap } = s.live)) ∧
  (∀ (s : State) (path : Fin 18) (m : Int), Works 2 s.live → 200 ≤ m → Answers (.opticalMarginLow path m) s (fun L => (L.get (if
    path.val < 16 then segKey path 0x22 else 0x4A0007 + (path.val - 16)) = max (-4000) (min 500 (m + (if path.val < 16 then -2000
    else -1700)))) ∧ { L with obj := s.live.obj } = s.live))

/-- Management requests (05 R105 to R113). -/
def Obligations.NodeRequestsOfTheModule : Prop :=
  (∀ (s : State) (sess : Sess) (seg : Fin 16), Granted sess 2 s.live → s.live.seg.length = 16 → (s.live.mode.st = .standby ∨
    s.live.mode.st = .service) → s.live.twin.holds = true → Answers (.nodeCmdCommission sess seg) s (fun L => (L.segAt
    seg).req.toList ++ (L.segAt seg).reqQ = (s.live.segAt seg).req.toList ++ (s.live.segAt seg).reqQ ++
    [{ op := 2, tag := (s.live.segAt seg).reqTag, addr := 0x100, data := leBytes 1 s.live.lower ++ leBytes 1 seg, tries := 0 }] ∧
    (L.segAt seg).comTag = some (s.live.getN (segKey seg 0x2C) / 256) ∧ Replied sess 0 L ∧
    { L with seg := s.live.seg, ks := s.live.ks, out := s.live.out, mgr := s.live.mgr, dbg := s.live.dbg, com := { L.com with num := s.live.com.num, bus := s.live.com.bus }, twin := { L.twin with bulk := s.live.twin.bulk, fwdSeq := s.live.twin.fwdSeq } }
    = s.live)) ∧
  (∀ (s : State) (sess : Sess) (seg : Fin 16), Granted sess 2 s.live → s.live.driving = true → Answers (.nodeCmdCommission sess
    seg) s (fun L => Replied sess abState L ∧
    { L with ks := s.live.ks, out := s.live.out, mgr := s.live.mgr, dbg := s.live.dbg, com := { L.com with num := s.live.com.num, bus := s.live.com.bus }, twin := { L.twin with bulk := s.live.twin.bulk, fwdSeq := s.live.twin.fwdSeq } }
    = s.live)) ∧
  (∀ (s : State) (sess : Sess) (seg : Fin 16), Granted sess 2 s.live → s.live.seg.length = 16 → (s.live.mode.st = .standby ∨
    s.live.mode.st = .service) → Answers (.nodeCmdReleaseLatch sess seg) s (fun L => (L.segAt seg).req.toList ++ (L.segAt seg).reqQ
    = (s.live.segAt seg).req.toList ++ (s.live.segAt seg).reqQ ++
    [{ op := 0x20, tag := (s.live.segAt seg).reqTag, addr := 0, data := [], tries := 0 }] ∧ Replied sess 0 L ∧
    { L with seg := s.live.seg, ks := s.live.ks, out := s.live.out, mgr := s.live.mgr, dbg := s.live.dbg, com := { L.com with num := s.live.com.num, bus := s.live.com.bus }, twin := { L.twin with bulk := s.live.twin.bulk, fwdSeq := s.live.twin.fwdSeq } }
    = s.live)) ∧
  (∀ (s : State) (sess : Sess) (seg : Fin 16), Granted sess 2 s.live → s.live.seg.length = 16 → s.live.fitted seg = true →
    (s.live.mode.st = .standby ∨ s.live.mode.st = .service ∨ (s.live.driving = true ∧ s.live.conv.act.contains seg.val = false)) →
    Answers (.nodeCmdRepeatBringup sess seg) s (fun L => (L.segAt seg).link = 1 ∧ (L.segAt seg).bring = 1 ∧ Replied sess 0 L ∧
    { L with seg := s.live.seg, ks := s.live.ks, out := s.live.out, mgr := s.live.mgr, dbg := s.live.dbg, com := { L.com with num := s.live.com.num, bus := s.live.com.bus }, twin := { L.twin with bulk := s.live.twin.bulk, fwdSeq := s.live.twin.fwdSeq } }
    = s.live)) ∧
  (∀ (s : State) (sess : Sess) (seg : Fin 16), Granted sess 2 s.live → s.live.seg.length = 16 → s.live.fromStandby = true →
    s.live.conv.act.contains seg.val = false → Answers (.nodeCmdComparatorTest sess seg) s (fun L => (L.segAt seg).req.toList ++
    (L.segAt seg).reqQ = (s.live.segAt seg).req.toList ++ (s.live.segAt seg).reqQ ++
    [{ op := 0x21, tag := (s.live.segAt seg).reqTag, addr := 0, data := [], tries := 0 }] ∧ Replied sess 0 L ∧
    { L with seg := s.live.seg, ks := s.live.ks, out := s.live.out, mgr := s.live.mgr, dbg := s.live.dbg, com := { L.com with num := s.live.com.num, bus := s.live.com.bus }, twin := { L.twin with bulk := s.live.twin.bulk, fwdSeq := s.live.twin.fwdSeq } }
    = s.live)) ∧
  (∀ (s : State) (seg : Fin 16) (r : MgmtReq), Works 2 s.live → s.live.seg.length = 16 → (s.live.segAt seg).req = some r → Answers
    (.mgmtTimeout seg) s (fun L => (L.segAt seg).req = (s.live.segAt seg).reqQ.head? ∧ (L.segAt seg).reqQ = (s.live.segAt
    seg).reqQ.tail ∧ L.rcd.raised = s.live.rcd.raised + 1 ∧ L.rcd.lastEvent.1 = 128 + 8 * seg.val ∧ L.rcd.lastEvent.2.1 = 7 ∧
    { L with seg := s.live.seg, out := s.live.out, rcd := s.live.rcd, com := s.live.com, dbg := s.live.dbg, cap := s.live.cap } =
    s.live)) ∧
  (∀ (s : State) (seg : Fin 16) (r : MgmtReq) (d : Bytes), Works 2 s.live → s.live.seg.length = 16 → (s.live.segAt seg).req = some
    r → (s.live.segAt seg).reqQ = [] → (s.live.segAt seg).bring = 1 → r.op = 1 → r.tag < 256 → d.length ≤ 40 → Answers
    (.mgmtResponseRx seg (mgmtResp 1 r.tag 0 d)) s (fun L => L.getN (segKey seg 0x28) = le d 0 2 ∧ L.getN (segKey seg 0x2B) = le d
    0x14 4 ∧ (byteAt d 1 = 1 → (L.segAt seg).bring = 2 ∧ ((L.segAt seg).req.map (fun q => (q.op, q.addr))) = some (1, 0x100)) ∧
    (byteAt d 1 ≠ 1 → (L.segAt seg).link = 7 ∧ (L.segAt seg).bring = 0 ∧ (L.segAt seg).req = none))) ∧
  (∀ (s : State) (seg : Fin 16) (frame : Bytes), Works 2 s.live → parseResp frame = none → exec (.mgmtResponseRx seg frame) s =
    .next s)

/-- The node of 05 R93 to R108. -/
def Obligations.NodeStateAndLatch : Prop :=
  (∀ (s : State) (node : Fin 16), s.live.node.length = 16 → (s.live.nodeAt node).act = none → Answers (.nodePowerUp node) s (fun L
    => (L.nodeAt node).powered = true ∧ (L.nodeAt node).tag = (s.live.nodeAt node).tag ∧ (L.nodeAt node).segment = (s.live.nodeAt
    node).segment ∧ (L.nodeAt node).tport = 0 ∧ (L.nodeAt node).cmd = none ∧ (L.nodeAt node).latch = (s.live.nodeAt node).latch ∧
    (L.nodeAt node).miss = 0 ∧ OtherNodes node L s.live ∧ { L with node := s.live.node } = s.live)) ∧
  (∀ (s : State) (node : Fin 16) (port : Fin 2), s.live.node.length = 16 → (s.live.nodeAt node).powered = true → Answers
    (.nodeCommaLock node port) s (fun L => ((if port = 0 then (L.nodeAt node).lock.1 else (L.nodeAt node).lock.2) = true) ∧
    (L.nodeAt node).dark = 0 ∧ OtherNodes node L s.live ∧ { L with node := s.live.node } = s.live)) ∧
  (∀ (s : State) (node : Fin 16) (inBound : Bool), s.live.node.length = 16 → (s.live.nodeAt node).powered = true → Answers
    (.nodeSuperframeStart node inBound) s (fun L => (L.nodeAt node).epoch = (s.live.nodeAt node).epoch + 1 ∧ ((L.nodeAt node).miss
    = if (s.live.nodeAt node).next.isSome then 0 else min ((s.live.nodeAt node).miss + 1) 4) ∧ ((s.live.nodeAt node).next.isSome =
    true → (L.nodeAt node).cmd = (s.live.nodeAt node).next ∧ (L.nodeAt node).lost = false) ∧ ((s.live.nodeAt node).next = none ∧ 3
    ≤ (s.live.nodeAt node).miss → (L.nodeAt node).lost = true) ∧ (L.nodeAt node).claims = [] ∧ (L.nodeAt node).latch =
    (s.live.nodeAt node).latch ∧ L.out.length = s.live.out.length + 2 ∧ OtherNodes node L s.live ∧
    { L with node := s.live.node, out := s.live.out, free := s.live.free } = s.live)) ∧
  (∀ (s : State) (node : Fin 16) (inBound : Bool), (s.live.nodeAt node).powered = false → exec (.nodeSuperframeStart node inBound)
    s = .next s) ∧
  (∀ (s : State) (node : Fin 16) (port : Fin 2) (frame : Bytes) (lineOk : Bool), (lineOk = false ∨ parseDown (s.live.nodeAt
    node).tag frame = none) → Answers (.nodeDownlinkFrameRx node port frame lineOk) s (fun L => L = s.live)) ∧
  (∀ (s : State) (node : Fin 16) (port : Fin 2) (frame : Bytes) (fr : DownFrame), s.live.node.length = 16 → (s.live.nodeAt
    node).powered = true → parseDown (s.live.nodeAt node).tag frame = some fr → fr.tok = true → (fr.seg = (s.live.nodeAt
    node).segment ∨ (s.live.nodeAt node).segment = 255) → fr.side = (port.val, port.val) → fr.seq = ((s.live.nodeAt node).epoch +
    1) % 65536 → Answers (.nodeDownlinkFrameRx node port frame true) s (fun L => (L.nodeAt node).claim port = some (fr.tgen,
    fr.cmd) ∧ (L.nodeAt node).cmd = (s.live.nodeAt node).cmd ∧ OtherNodes node L s.live ∧ { L with node := s.live.node } = s.live)) ∧
  (∀ (s : State) (node : Fin 16) (high : Bool), s.live.node.length = 16 → (s.live.nodeAt node).powered = true → Answers
    (.nodeDesaturation node high) s (fun L => ((if high then (L.nodeAt node).desatHigh else (L.nodeAt node).desatLow) = true) ∧
    (L.nodeAt node).bridgeFault = true ∧ (high = true → (L.nodeAt node).inserted = false) ∧ OtherNodes node L s.live ∧
    { L with node := s.live.node } = s.live)) ∧
  (∀ (s : State) (node : Fin 16) (periods : Nat), s.live.node.length = 16 → 8 ≤ periods → Answers (.hardBypassLatchSet node
    periods) s (fun L => (L.nodeAt node).latch = true ∧ (L.nodeAt node).inserted = false ∧ OtherNodes node L s.live ∧
    { L with node := s.live.node } = s.live)) ∧
  (∀ (s : State) (node : Fin 16) (periods : Nat), periods < 8 → Answers (.hardBypassLatchSet node periods) s (fun L => L = s.live)) ∧
  (∀ (s : State) (node : Fin 16) (us : Nat), s.live.node.length = 16 → Answers (.nodePortsDark node us) s (fun L => (L.nodeAt
    node).latch = ((s.live.nodeAt node).latch || decide (100 ≤ us)) ∧ (L.nodeAt node).lock = (false, false) ∧ (L.nodeAt node).dark
    = us ∧ OtherNodes node L s.live ∧ { L with node := s.live.node } = s.live)) ∧
  (∀ (s : State) (node : Fin 16) (passed : Bool), s.live.node.length = 16 → (s.live.nodeAt node).powered = true → Answers
    (.nodeComparatorSelftest node passed) s (fun L => (L.nodeAt node).cmptest = !passed ∧ OtherNodes node L s.live ∧
    { L with node := s.live.node } = s.live))

/-- The management channel of a node (05 R109, R110; R98, R105). -/
def Obligations.NodeManagementChannel : Prop :=
  (∀ (s : State) (node : Fin 16) (port : Fin 2) (tag : Byte) (addr : Nat) (len : Nat), (s.live.nodeAt node).powered = true →
    (s.live.nodeAt node).updating = false → len ≤ 40 → nodeReadable addr len = true → Answers (.mgmtRead node port tag addr len) s
    (fun L => (L.out = .nodeResp node port (mgmtResp 1 tag.toNat 0 ((List.range len).map (fun i => BitVec.ofNat 8 ((s.live.nodeAt
    node).byte node (addr + i))))) :: s.live.out) ∧ { L with out := s.live.out } = s.live)) ∧
  (∀ (s : State) (node : Fin 16) (port : Fin 2) (tag : Byte) (addr : Nat) (len : Nat), (s.live.nodeAt node).powered = true →
    (s.live.nodeAt node).updating = false → (40 < len ∨ nodeReadable addr len = false) → Answers (.mgmtRead node port tag addr len)
    s (fun L => L.out = .nodeResp node port (mgmtResp 1 tag.toNat 2 []) :: s.live.out ∧ { L with out := s.live.out } = s.live)) ∧
  (∀ (s : State) (node : Fin 16) (port : Fin 2) (tag : Byte) (addr : Nat) (len : Nat), (s.live.nodeAt node).powered = true →
    (s.live.nodeAt node).updating = true → Answers (.mgmtRead node port tag addr len) s (fun L => L.out = .nodeResp node port
    (mgmtResp 1 tag.toNat 6 []) :: s.live.out ∧ { L with out := s.live.out } = s.live)) ∧
  (∀ (s : State) (node : Fin 16) (port : Fin 2) (tag : Byte) (addr : Nat) (data : Bytes), s.live.node.length = 16 → (s.live.nodeAt
    node).powered = true → Answers (.mgmtWrite node port tag addr data) s (fun L => L.out = .nodeResp node port (mgmtResp 2
    tag.toNat ((s.live.nodeAt node).writeResult port addr data) []) :: s.live.out ∧ ((L.nodeAt node).staged = (s.live.nodeAt
    node).staged ++ (if (s.live.nodeAt node).writeResult port addr data = 0 then [(addr, data)] else [])) ∧ (L.nodeAt node).regs =
    (s.live.nodeAt node).regs ∧ OtherNodes node L s.live ∧ { L with node := s.live.node, out := s.live.out } = s.live)) ∧
  (∀ (s : State) (node : Fin 16) (port : Fin 2) (tag : Byte) (block : Nat) (data : Bytes), s.live.node.length = 16 → (s.live.nodeAt
    node).powered = true → (s.live.nodeAt node).needBypass port = 0 → data.length = 64 → Answers (.imageBlock node port tag block
    data) s (fun L => L.out = .nodeResp node port (mgmtResp 0x10 tag.toNat 0 []) :: s.live.out ∧ (L.nodeAt node).blocks = putSlot
    (s.live.nodeAt node).blocks block data ∧ OtherNodes node L s.live ∧ { L with node := s.live.node, out := s.live.out } =
    s.live)) ∧
  (∀ (s : State) (node : Fin 16) (port : Fin 2) (tag : Byte) (block : Nat) (data : Bytes), (s.live.nodeAt node).powered = true →
    (s.live.nodeAt node).updating = false → (s.live.nodeAt node).tport ≠ port.val + 1 → Answers (.imageBlock node port tag block
    data) s (fun L => L.out = .nodeResp node port (mgmtResp 0x10 tag.toNat 3 []) :: s.live.out ∧ { L with out := s.live.out } =
    s.live)) ∧
  (∀ (s : State) (node : Fin 16) (port : Fin 2) (tag : Byte) (digest : Bytes), s.live.node.length = 16 → (s.live.nodeAt
    node).powered = true → (s.live.nodeAt node).needBypass port = 0 → digest = Config.sha256 ((s.live.nodeAt node).blocks.map
    (·.2)).flatten → Answers (.imageActivate node port tag digest) s (fun L => (L.nodeAt node).updating = true ∧ (L.nodeAt
    node).inserted = false ∧ (L.nodeAt node).act = some (port.val, tag, digest) ∧ OtherNodes node L s.live ∧
    { L with node := s.live.node } = s.live)) ∧
  (∀ (s : State) (node : Fin 16) (port : Fin 2) (tag : Byte) (checkOk : Bool), s.live.node.length = 16 → (s.live.nodeAt
    node).powered = true → (s.live.nodeAt node).needBypass port = 0 → ((s.live.nodeAt node).patternAge = none ∨ 10000 ≤
    (s.live.nodeAt node).patternAge.getD 0) → checkOk = true → Answers (.latchRelease node port tag checkOk) s (fun L => L.out =
    .nodeResp node port (mgmtResp 0x20 tag.toNat 0 []) :: s.live.out ∧ (L.nodeAt node).latch = false ∧ (L.nodeAt node).bridgeFault
    = false ∧ (L.nodeAt node).desatHigh = false ∧ OtherNodes node L s.live ∧ { L with node := s.live.node, out := s.live.out } =
    s.live)) ∧
  (∀ (s : State) (node : Fin 16) (port : Fin 2) (tag : Byte) (checkOk : Bool), s.live.node.length = 16 → (s.live.nodeAt
    node).powered = true → (s.live.nodeAt node).needBypass port = 0 → ((∃ a ∈ (s.live.nodeAt node).patternAge, a < 10000) ∨ checkOk
    = false) → Answers (.latchRelease node port tag checkOk) s (fun L => L.out = .nodeResp node port (mgmtResp 0x20 tag.toNat 5 [])
    :: s.live.out ∧ { L with out := s.live.out } = s.live)) ∧
  (∀ (s : State) (node : Fin 16) (port : Fin 2) (tag : Byte) (passed : Bool), s.live.node.length = 16 → (s.live.nodeAt
    node).powered = true → (s.live.nodeAt node).needBypass port = 0 → Answers (.comparatorTest node port tag passed) s (fun L =>
    L.out = .nodeResp node port (mgmtResp 0x21 tag.toNat 0 []) :: s.live.out ∧ (L.nodeAt node).cmptest = !passed ∧ OtherNodes node
    L s.live ∧ { L with node := s.live.node, out := s.live.out } = s.live))

/-- The estimator's rows (08 R201, R207, R215, R219; 15 R398). -/
def Obligations.EstimatorSweepsAndWindows : Prop :=
  (∀ (s : State), Works 1 s.live → s.live.resyncing = false → Answers .estimatorSweep s (fun L => L.est.sweeps = s.live.est.sweeps
    + 1 ∧ (L.est.seg.map (fun x => (x.sets, x.iAcc, x.fAcc, x.next)) = s.live.est.seg.map (fun x => (0, x.next.1, x.next.2, ((0,
    0), 0)))) ∧ L.twin.esweep = L.time.mtime / 10000000 ∧ L.twin.edig = L.estDigest ∧ L.time = (s.live.toMark (ms 10)).time ∧
    L.time.mtime % 10000000 = 200000 ∧ s.live.time.mtime ≤ L.time.mtime ∧ L.time.mtime < s.live.time.mtime + 10000000 ∧ L.pins =
    s.live.pins ∧ L.mode = s.live.mode ∧ L.node = s.live.node)) ∧
  (∀ (s : State), Works 1 s.live → s.live.resyncing = true → Answers .estimatorSweep s (fun L => L.twin.heldSweeps.length =
    s.live.twin.heldSweeps.length + 1 ∧ (L.est.seg.map (fun x => (x.sets, x.iAcc, x.fAcc, x.next)) = s.live.est.seg.map (fun x =>
    (0, x.next.1, x.next.2, ((0, 0), 0)))) ∧ (L.est.ctx.map (fun x => (x.acc, x.na, x.next)) = s.live.est.ctx.map (fun x =>
    (x.next.1, x.next.2, ((0, 0), 0)))) ∧ L.time = (s.live.toMark (ms 10)).time ∧
    { L with est := { L.est with ctx := s.live.est.ctx, seg := s.live.est.seg }, twin := { L.twin with heldSweeps := s.live.twin.heldSweeps }, time := s.live.time }
    = s.live)) ∧
  (∀ (s : State) (t : Nat), Works 1 s.live → s.live.est.overSince = some t → s.live.est.overRep = false → Answers
    .uncertaintyLimitExceeded s (fun L => L.est.overRep = true ∧ L.time.clk = max s.live.time.clk (t + sec 60) ∧ (s.live.ctl
    0x350008 = 1 → L.est.reqSince.isSome = true) ∧ (L.rcd.raised = s.live.rcd.raised + (if s.live.ctl 0x350008 = 1 ∧
    s.live.est.reqSince = none then 2 else 1)) ∧
    { L with est := s.live.est, time := s.live.time, rcd := s.live.rcd, com := s.live.com, dbg := s.live.dbg, cap := s.live.cap, obj := s.live.obj }
    = s.live)) ∧
  (∀ (s : State) (t : Nat), Works 1 s.live → s.live.est.quietSince = some t → s.live.est.quietDone = false → Answers
    .referenceWindowComplete s (fun L => L.est.quietDone = true ∧ L.est.reqSince = none ∧ L.getN 0x350027 = 3 ∧ L.time.clk = max
    s.live.time.clk (t + sec 60) ∧ L.mode = s.live.mode ∧ L.pins = s.live.pins)) ∧
  (∀ (s : State) (t : Nat), Works 1 s.live → s.live.est.reqSince = some t → s.live.est.unmet = false → Answers
    .referenceRequestUnmet s (fun L => L.est.unmet = true ∧ L.getN 0x350027 = 4 ∧ L.time.clk = max s.live.time.clk (t + sec 86400)
    ∧ SameObjects [0x350027] L s.live ∧
    { L with est := { L.est with unmet := s.live.est.unmet }, time := s.live.time, rcd := s.live.rcd, com := s.live.com, dbg := s.live.dbg, cap := s.live.cap, obj := s.live.obj }
    = s.live)) ∧
  (∀ (s : State), (s.live.est.reqSince = none ∨ s.live.est.unmet = true) → exec .referenceRequestUnmet s = .next s) ∧
  (∀ (s : State) (sess : Sess), Granted sess 1 s.live → s.live.est.reqSince = none → Answers (.estCmdRequestWindow sess) s (fun L
    => L.est.reqSince = some s.live.time.clk ∧ L.est.requested = true ∧ (L.getN 0x350027 = if s.live.est.quietSince.isSome then 2
    else 1) ∧ Replied sess 0 L ∧
    { L with est := { L.est with reqSince := s.live.est.reqSince, requested := s.live.est.requested, quietSince := s.live.est.quietSince, quietDone := s.live.est.quietDone, unmet := s.live.est.unmet }, obj := s.live.obj, rcd := s.live.rcd, com := s.live.com, dbg := s.live.dbg, cap := s.live.cap, ks := s.live.ks, out := s.live.out, mgr := s.live.mgr, twin := { L.twin with bulk := s.live.twin.bulk, fwdSeq := s.live.twin.fwdSeq } }
    = s.live)) ∧
  (∀ (s : State) (sess : Sess), Granted sess 1 s.live → s.live.est.reqSince ≠ none → Answers (.estCmdRequestWindow sess) s (fun L
    => Replied sess 0 L ∧
    { L with ks := s.live.ks, out := s.live.out, mgr := s.live.mgr, dbg := s.live.dbg, com := { L.com with num := s.live.com.num, bus := s.live.com.bus }, twin := { L.twin with bulk := s.live.twin.bulk, fwdSeq := s.live.twin.fwdSeq } }
    = s.live)) ∧
  (∀ (s : State) (sess : Sess), Granted sess 1 s.live → Answers (.estCmdWithdrawRequest sess) s (fun L => L.est.reqSince = none ∧
    L.est.requested = false ∧ (L.getN 0x350027 = if s.live.est.quietSince.isSome ∧ s.live.est.quietDone = false then 2 else 0) ∧
    Replied sess 0 L ∧
    { L with est := { L.est with reqSince := s.live.est.reqSince, requested := s.live.est.requested, unmet := s.live.est.unmet }, obj := s.live.obj, ks := s.live.ks, out := s.live.out, mgr := s.live.mgr, dbg := s.live.dbg, com := { L.com with num := s.live.com.num, bus := s.live.com.bus }, twin := { L.twin with bulk := s.live.twin.bulk, fwdSeq := s.live.twin.fwdSeq } }
    = s.live)) ∧
  (∀ (s : State) (sess : Sess) (seg : Fin 16), Granted sess 2 s.live → s.live.est.ctx.length = 512 → (s.live.mode.st = .standby ∨
    s.live.mode.st = .service) → Answers (.segEstCmdReplaced sess seg) s (fun L => (∀ x ∈ L.est.ctx.zipIdx, x.2 / 32 = seg.val →
    x.1.qc = hdrQnom s.live.table ∧ x.1.anchor = 0 ∧ x.1.aS = 1 ∧ x.1.blend = false) ∧ (∀ x ∈ L.est.ctx.zipIdx, x.2 / 32 ≠ seg.val
    → x.1 = s.live.est.ctx.getD x.2 {}) ∧ Replied sess 0 L ∧
    { L with est := { L.est with ctx := s.live.est.ctx, allBlend := s.live.est.allBlend, coldCtx := s.live.est.coldCtx }, rcd := s.live.rcd, com := s.live.com, dbg := s.live.dbg, cap := s.live.cap, ks := s.live.ks, out := s.live.out, mgr := s.live.mgr, twin := { L.twin with bulk := s.live.twin.bulk, fwdSeq := s.live.twin.fwdSeq } }
    = s.live)) ∧
  (∀ (s : State) (sess : Sess) (seg : Fin 16), Granted sess 2 s.live → (s.live.driving = true ∨ s.live.mode.st = .safe) → Answers
    (.segEstCmdReplaced sess seg) s (fun L => Replied sess abState L ∧
    { L with ks := s.live.ks, out := s.live.out, mgr := s.live.mgr, dbg := s.live.dbg, com := { L.com with num := s.live.com.num, bus := s.live.com.bus }, twin := { L.twin with bulk := s.live.twin.bulk, fwdSeq := s.live.twin.fwdSeq } }
    = s.live))

/-- The table banks (08 R205, R206, R230) and the thermal evaluation (09 R234, R241). -/
def Obligations.TableBanksAndTemperature : Prop :=
  (∀ (s : State) (sess : Sess) (bank : Fin 2) (image : Bytes), Served sess 3 s.live → s.live.upd.replaced = false → bank.val ≠
    s.live.bank → image.length = 24836 → Answers (.tableImageWrite sess bank image) s (fun L => L.blobOf (0x380010 + bank.val) =
    image ∧ L.getN 0x380007 = s.live.tableCheck image ∧ L.getN (0x380004 + bank.val) = hdrId image ∧ (L.getN (0x380002 + bank.val)
    = if s.live.tableCheck image = 0 then 1 else if s.live.tableCheck image = 1 then 2 else 3) ∧ Replied sess 0 L ∧
    { L with obj := s.live.obj, blob := s.live.blob, rcd := s.live.rcd, com := s.live.com, dbg := s.live.dbg, cap := s.live.cap, ks := s.live.ks, out := s.live.out, mgr := s.live.mgr, twin := { L.twin with bulk := s.live.twin.bulk, fwdSeq := s.live.twin.fwdSeq } }
    = s.live)) ∧
  (∀ (s : State) (sess : Sess) (bank : Fin 2) (image : Bytes), Served sess 3 s.live → bank.val = s.live.bank → Answers
    (.tableImageWrite sess bank image) s (fun L => Replied sess abTable L ∧
    { L with ks := s.live.ks, out := s.live.out, mgr := s.live.mgr, dbg := s.live.dbg, com := { L.com with num := s.live.com.num, bus := s.live.com.bus }, twin := { L.twin with bulk := s.live.twin.bulk, fwdSeq := s.live.twin.fwdSeq } }
    = s.live)) ∧
  (∀ (s : State) (sess : Sess) (bank : Fin 2) (image : Bytes), Served sess 3 s.live → s.live.upd.replaced = false → bank.val ≠
    s.live.bank → image.length ≠ 24836 → Answers (.tableImageWrite sess bank image) s (fun L => Replied sess abLength L ∧
    { L with ks := s.live.ks, out := s.live.out, mgr := s.live.mgr, dbg := s.live.dbg, com := { L.com with num := s.live.com.num, bus := s.live.com.bus }, twin := { L.twin with bulk := s.live.twin.bulk, fwdSeq := s.live.twin.fwdSeq } }
    = s.live)) ∧
  (∀ (s : State) (sess : Sess) (bank : Fin 2) (image : Bytes), Served sess 0 s.live → (s.live.touch sess).levelOf sess < 3 →
    Answers (.tableImageWrite sess bank image) s (fun L => Replied sess abLevel L ∧
    { L with ks := s.live.ks, out := s.live.out, mgr := s.live.mgr, dbg := s.live.dbg, com := { L.com with num := s.live.com.num, bus := s.live.com.bus }, twin := { L.twin with bulk := s.live.twin.bulk, fwdSeq := s.live.twin.fwdSeq } }
    = s.live)) ∧
  (∀ (s : State) (sess : Sess), Granted sess 3 s.live → Answers (.tableCmdSwitchBank sess) s (fun L => (s.live.tableCheck
    (s.live.bankImage (1 - s.live.bank)) = 0 → L.est.switchAt = some (s.live.time.mtime + 200000) ∧ L.getN 0x380007 = 0 ∧ Replied
    sess 0 L) ∧ (s.live.tableCheck (s.live.bankImage (1 - s.live.bank)) ≠ 0 → L.est.switchAt = s.live.est.switchAt ∧ L.getN
    0x380007 = s.live.tableCheck (s.live.bankImage (1 - s.live.bank)) ∧ Replied sess abTable L) ∧ L.bank = s.live.bank ∧
    { L with est := { L.est with switchAt := s.live.est.switchAt }, obj := s.live.obj, ks := s.live.ks, out := s.live.out, mgr := s.live.mgr, dbg := s.live.dbg, com := { L.com with num := s.live.com.num, bus := s.live.com.bus }, twin := { L.twin with bulk := s.live.twin.bulk, fwdSeq := s.live.twin.fwdSeq } }
    = s.live)) ∧
  (∀ (s : State) (sess : Sess), Granted sess 3 s.live → Answers (.tableCmdEraseBank sess) s (fun L => L.blobOf (0x380010 + (1 -
    s.live.bank)) = [] ∧ L.getN (0x380002 + (1 - s.live.bank)) = 0 ∧ L.getN (0x380004 + (1 - s.live.bank)) = 0 ∧ L.bank =
    s.live.bank ∧ Replied sess 0 L ∧
    { L with obj := s.live.obj, blob := s.live.blob, ks := s.live.ks, out := s.live.out, mgr := s.live.mgr, dbg := s.live.dbg, com := { L.com with num := s.live.com.num, bus := s.live.com.bus }, twin := { L.twin with bulk := s.live.twin.bulk, fwdSeq := s.live.twin.fwdSeq } }
    = s.live)) ∧
  (∀ (s : State) (sensors : List (Option Int)), Works 1 s.live → s.live.th.mod.length = 4 → Answers (.thermalEvaluation sensors) s
    (fun L => (∀ j : Fin 4, (L.th.mod.getD j {}).v = (sensors.getD j none).map q) ∧ 0 ≤ L.th.f ∧ L.th.f ≤ 1 ∧ L.th.state.length =
    16 ∧ L.th.last = L.time.mtime / 100000000 ∧ L.time = (s.live.toMark (ms 100)).time ∧ L.node = s.live.node))

/-- The channels' rows (10 R248 to R261). `decided` is that the channel has decided the trip already. -/
def Obligations.ChannelsDecideTrips : Prop :=
  (∀ (s : State), Works 5 s.live → s.live.fromStandby = true → Answers .fastComparatorTrip s (fun L => L.saf.fastLatch = true ∧
    L.pins.fastOff = .off ∧ L.time = s.live.time)) ∧
  (∀ (s : State), Works 5 s.live → s.live.fromStandby = false → Answers .fastComparatorTrip s (fun L => L.saf.fastLatch = true ∧
    { L with saf := { L.saf with fastLatch := s.live.saf.fastLatch } } = s.live)) ∧
  (∀ (s : State), Works 5 s.live → (s.live.driving = true ∨ s.live.mode.st = .standby) → s.live.decided 4 1 = false → Answers
    .fastComparatorTrip s (fun L => L.mode.st = .safe ∧ bitOf (L.getN 0x404001) 3 = true ∧ bitOf (L.getN 0x404002) 3 = true ∧
    L.saf.decA = setBit s.live.saf.decA 3 true ∧ L.pins.twinXLow = true)) ∧
  (∀ (s : State) (okA : Bool) (okB : Bool), Works 5 s.live → (s.live.driving = true ∨ s.live.mode.st = .standby) → s.live.decided
    12 1 = false → s.live.decided 12 2 = false → (okA = false ∨ okB = false) → Answers (.cyclicDiagnostic okA okB) s (fun L =>
    L.mode.st = .safe ∧ bitOf (L.getN 0x404001) 11 = true ∧ L.time = s.live.time)) ∧
  (∀ (s : State), Works 5 s.live → Answers (.cyclicDiagnostic true true) s (fun L => L = s.live)) ∧
  (∀ (s : State) (passed : Bool), Works 5 s.live → s.live.driving = true → s.live.decided 12 1 = false → passed = false → Answers
    (.fastComparatorCheck passed) s (fun L => L.mode.st = .safe ∧ bitOf (L.getN 0x404001) 11 = true)) ∧
  (∀ (s : State) (passed : Bool), (s.live.driving = false ∨ passed = true) → exec (.fastComparatorCheck passed) s = .next s) ∧
  (∀ (s : State) (t : Nat), Works 5 s.live → s.live.saf.mismatch = some t → (s.live.driving = true ∨ s.live.mode.st = .standby) →
    s.live.decided 12 1 = false → Answers .crossChannelMismatch s (fun L => L.mode.st = .safe ∧ bitOf (L.getN 0x404001) 11 = true ∧
    L.time.clk = max s.live.time.clk (t + ms 10))) ∧
  (∀ (s : State) (valueDiff : Bool), Works 5 s.live → (∀ i : Fin 8, s.live.getN (pairKey i 1) = 0) → Answers (.crossChannelExchange
    valueDiff) s (fun L => (L.saf.mismatch = if valueDiff ∨ s.live.saf.decA ≠ s.live.saf.decB then some (s.live.saf.mismatch.getD
    s.live.time.clk) else none) ∧ L.saf.decA = s.live.saf.decA ∧
    { L with saf := s.live.saf, pins := { L.pins with elementOpen := s.live.pins.elementOpen, elemA := s.live.pins.elemA, elemB := s.live.pins.elemB, twinXLow := s.live.pins.twinXLow, xLowAt := s.live.pins.xLowAt } }
    = s.live)) ∧
  (∀ (s : State) (fluxgate : Rat) (beat : Option Nat) (fault : Bool), Works 5 s.live → s.live.fromStandby = true → Answers
    (.channelBSample fluxgate beat fault) s (fun L => L.saf.sumB = (s.live.saf.sumB.1 + fluxgate * fluxgate, s.live.saf.sumB.2 + 1)
    ∧ (fault = true ∧ s.live.decided 11 2 = false → bitOf (L.getN 0x404001) 10 = true) ∧ L.time = s.live.time ∧ L.node =
    s.live.node)) ∧
  (∀ (s : State) (fluxgate : Rat) (beat : Option Nat) (fault : Bool), s.live.fromStandby = false → exec (.channelBSample fluxgate
    beat fault) s = .next s) ∧
  (∀ (s : State), Works 5 s.live → Answers .i2tBlock s (fun L => L.saf.sumA = (0, 0) ∧ L.saf.sumB = (0, 0) ∧ 0 ≤ L.saf.eA ∧ 0 ≤
    L.saf.eB ∧ L.saf.eA = maxQ 0 (s.live.saf.eA + (blockMean s.live.saf.sumA - (q (s.live.ctl 0x401104) / 10000 * s.live.iMax) * (q
    (s.live.ctl 0x401104) / 10000 * s.live.iMax)) / 10) ∧ (s.live.fromStandby = true ∧ s.live.decided 5 1 = false ∧ s.live.i2tLimit
    ≤ L.saf.eA → bitOf (L.getN 0x404001) 4 = true)))

/-- Steps of 10 R249 to R252 and the lintel test of 10 R263. -/
def Obligations.SafeStateSequenceSteps : Prop :=
  (∀ (s : State) (sq : Seq), Works 5 s.live → s.live.mode.seq = some sq → sq.step = 1 → sq.kind ≠ .shutdown → s.live.twin.holds =
    true → Answers .seqStep1End s (fun L => 2 ≤ L.stepOf ∧ (L.pins.fastOff = joinFast (if s.live.pins.cutA then .absent else .off)
    s.live.pins.pathB) ∧ L.mode.st = s.live.mode.st ∧ (L.time.clk = if s.live.iZero then s.live.time.clk else max s.live.time.clk
    (sq.since + ms 1)))) ∧
  (∀ (s : State), s.live.twin.holds = false → (∀ sq ∈ s.live.mode.seq.toList, sq.kind ≠ .shutdown) → exec .seqStep1End s = .next s) ∧
  (∀ (s : State) (t : Nat), Works 5 s.live → s.live.saf.holdoff = some t → (∀ sq ∈ s.live.mode.seq.toList, sq.kind ≠ .shutdown) →
    Answers .classSHoldoffExpiry s (fun L => L.saf.holdoff = none ∧ L.saf.hazard = true ∧ L.pins.fastOff = .off ∧ L.time.clk = max
    s.live.time.clk t ∧ L.mode.st = s.live.mode.st)) ∧
  (∀ (s : State) (sq : Seq) (t : Nat), Works 5 s.live → s.live.mode.seq = some sq → (sq.step = 1 ∨ sq.step = 2) →
    s.live.pins.offSince = some t → Answers .lintelOpenTimeout s (fun L => L.pins.contactA = false ∧ L.pins.contactB = false ∧ (3 ≤
    L.stepOf ∨ L.mode.st = .standby) ∧ (L.time.clk = max s.live.time.clk ((if sq.step = 2 then min t (sq.offAt.getD t) else t) + ms
    2)))) ∧
  (∀ (s : State), (s.live.pins.offSince = none ∨ (s.live.stepOf ≠ 1 ∧ s.live.stepOf ≠ 2)) → exec .lintelOpenTimeout s = .next s) ∧
  (∀ (s : State) (sq : Seq) (t : Nat), Works 5 s.live → s.live.mode.seq = some sq → sq.step = 3 → sq.blocked = false → sq.step3At =
    some t → s.live.shownOpen < 2 → Answers .step4BlockedTimeout s (fun L => (∀ r ∈ L.mode.seq.toList, r.blocked = true ∧ r.step =
    3) ∧ L.time.clk = max s.live.time.clk (t + sec 2) ∧ L.rcd.raised = s.live.rcd.raised + 1 ∧ L.rcd.lastEvent.1 = 108 ∧
    L.rcd.lastEvent.2.1 = 5 ∧
    { L with mode := s.live.mode, time := s.live.time, rcd := s.live.rcd, com := s.live.com, dbg := s.live.dbg, cap := s.live.cap }
    = s.live)) ∧
  (∀ (s : State) (channelB : Bool), Works 5 s.live → s.live.driving = true → s.live.saf.test = none → s.live.inStep = true → 100 ≤
    s.live.twin.p.loopi → Answers (.loopTest channelB) s (fun L => ((if channelB then L.pins.contactB else L.pins.contactA) =
    false) ∧ ((if channelB then L.pins.contactA else L.pins.contactB) = (if channelB then s.live.pins.contactA else
    s.live.pins.contactB)) ∧ L.saf.test = some (channelB, L.time.clk) ∧ (L.time.mtime % sec 10 = ms ((if s.live.nodeId < 65 then 0
    else 2500) + (if channelB then 5000 else 0))) ∧ s.live.time.clk ≤ L.time.clk ∧ L.mode = s.live.mode ∧
    { L with pins := { L.pins with contactA := s.live.pins.contactA, contactB := s.live.pins.contactB }, saf := { L.saf with test := s.live.saf.test, expect := s.live.saf.expect }, time := s.live.time }
    = s.live)) ∧
  (∀ (s : State) (channelB : Bool), Works 5 s.live → s.live.driving = true → s.live.saf.test = none → (s.live.inStep = false ∨
    s.live.twin.p.loopi < 100) → Answers (.loopTest channelB) s (fun L => bitOf (L.getN 0x404005) 2 = true ∧ (L.time.mtime % sec 10
    = ms ((if s.live.nodeId < 65 then 0 else 2500) + (if channelB then 5000 else 0))) ∧ SameObjects [0x404005] L s.live ∧
    { L with obj := s.live.obj, time := s.live.time } = s.live)) ∧
  (∀ (s : State) (loopMa : Nat) (b : Bool) (t : Nat), Works 5 s.live → s.live.saf.test = some (b, t) → loopMa < 10 → Answers
    (.loopTestExpiry loopMa) s (fun L => L.saf.test = none ∧ ((if b then L.pins.contactB else L.pins.contactA) = (if s.live.driving
    ∧ s.live.stepOf < 3 then true else (if b then s.live.pins.contactB else s.live.pins.contactA))) ∧ (bitOf (L.getN 0x404005) (if
    b then 1 else 0) = true) ∧ L.time.clk = max s.live.time.clk (t + ms 1) ∧ SameObjects [0x404005, 0x200015] L s.live ∧
    { L with pins := { L.pins with contactA := s.live.pins.contactA, contactB := s.live.pins.contactB }, saf := { L.saf with test := s.live.saf.test, expect := s.live.saf.expect }, obj := s.live.obj, time := s.live.time, free := s.live.free }
    = s.live)) ∧
  (∀ (s : State) (loopMa : Nat) (b : Bool) (t : Nat), Works 5 s.live → s.live.saf.test = some (b, t) → 10 ≤ loopMa →
    s.live.fromStandby = true → s.live.decided 12 (if b then 2 else 1) = false → Answers (.loopTestExpiry loopMa) s (fun L =>
    L.saf.test = none ∧ (bitOf (L.getN 0x404005) (if b then 1 else 0) = false) ∧ bitOf (L.getN 0x404001) 11 = true ∧
    (s.live.driving = true → L.mode.st = .safe)))

/-- Inputs and feedback (10 R266 to R270). -/
def Obligations.InputsAndFeedbackAreJudged : Prop :=
  (∀ (s : State) (pair : Fin 8) (channelB : Bool) (on : Bool), Works 5 s.live → s.live.getN (pairKey pair 1) = 0 →
    s.live.saf.pairs.length = 8 → (on = true ∨ s.live.blanked pair channelB = false) → Answers (.safetyInputChange pair channelB
    on) s (fun L => ((if channelB then (L.pair pair).b else (L.pair pair).a) = on) ∧ (∀ j : Fin 8, j ≠ pair → L.pair j =
    s.live.pair j) ∧ { L with saf := { L.saf with pairs := s.live.saf.pairs } } = s.live)) ∧
  (∀ (s : State) (pair : Fin 8) (channelB : Bool) (on : Bool), Works 5 s.live → (s.live.driving = true ∨ s.live.mode.st = .standby)
    → s.live.getN (pairKey pair 1) ≠ 0 → s.live.saf.pairs.length = 8 → s.live.getN (pairKey pair 2) = 0 → on = false →
    s.live.blanked pair channelB = false → s.live.decided (s.live.pairSf pair) (if channelB then 2 else 1) = false → Answers
    (.safetyInputChange pair channelB on) s (fun L => ((if channelB then (L.pair pair).b else (L.pair pair).a) = on) ∧ bitOf
    (L.getN 0x404001) (s.live.pairSf pair - 1) = true ∧ L.mode.st = .safe)) ∧
  (∀ (s : State) (pair : Fin 8) (channelB : Bool), s.live.blanked pair channelB = true → exec (.safetyInputChange pair channelB
    false) s = .next s) ∧
  (∀ (s : State) (pair : Fin 8) (t : Nat), Works 5 s.live → s.live.saf.pairs.length = 8 → (s.live.pair pair).discSince = some t →
    (s.live.pair pair).disc = false → s.live.getN (pairKey pair 1) ≠ 0 → Answers (.inputDiscrepancyTimeout pair) s (fun L =>
    (L.pair pair).disc = true ∧ L.time.clk = max s.live.time.clk (t + ms (s.live.getN (pairKey pair 3))) ∧ L.rcd.raised =
    s.live.rcd.raised + 1 ∧ L.rcd.lastEvent.1 = 109 ∧ L.rcd.lastEvent.2.1 = 1 ∧
    { L with saf := { L.saf with pairs := s.live.saf.pairs }, time := s.live.time, rcd := s.live.rcd, com := s.live.com, dbg := s.live.dbg, cap := s.live.cap }
    = s.live)) ∧
  (∀ (s : State) (t2 : Bool) (lowA : Nat) (lowB : Nat) (fbLowP : Bool) (fbLowN : Bool), Works 5 s.live → (∀ i : Fin 8, s.live.getN
    (pairKey i 1) = 0) → s.live.saf.fbFault = false → s.live.pins.fbKpOpen = true → s.live.pins.fbKnOpen = true → fbLowP = !t2 →
    fbLowN = t2 → Answers (.testPulseStart t2 lowA lowB fbLowP fbLowN) s (fun L => (L.saf.fbMiss = (if t2 then (min
    s.live.saf.fbMiss.1 2, 0) else (0, min s.live.saf.fbMiss.2 2))) ∧ L.time = (s.live.toPulse t2).time ∧ ((if t2 then
    L.pins.pulseAt.2 else L.pins.pulseAt.1) = some L.time.clk) ∧
    { L with saf := { L.saf with fbMiss := s.live.saf.fbMiss }, time := s.live.time, pins := { L.pins with pulseAt := s.live.pins.pulseAt } }
    = s.live)) ∧
  (∀ (s : State) (t2 : Bool) (lowA : Nat) (lowB : Nat) (fbLowP : Bool) (fbLowN : Bool), Works 5 s.live → s.live.fromStandby = true
    → s.live.saf.fbFault = false → s.live.pins.fbKpOpen = true → t2 = true → fbLowP = true → Answers (.testPulseStart t2 lowA lowB
    fbLowP fbLowN) s (fun L => L.saf.fbFault = true ∧ (L.getN 0x404004 = 1 ∨ condHeld L.rcd.conds 104 11 (padTo 8 []) = true))) ∧
  (∀ (s : State) (input : Fin 3) (showsOpen : Bool), Works 5 s.live → s.live.pins.fbAt.length = 3 → s.live.saf.holdoff = none →
    s.live.mode.seq = none → Answers (.feedbackInputChange input showsOpen) s (fun L => ((if input = 0 then L.pins.fbKpOpen else if
    input = 1 then L.pins.fbKnOpen else L.pins.sswOpen) = showsOpen) ∧ L.pins.fbAt.getD input 0 = s.live.time.clk ∧ L.mode =
    s.live.mode ∧ L.pins.fastOff = s.live.pins.fastOff ∧ L.pins.contactA = s.live.pins.contactA)) ∧
  (∀ (s : State) (negative : Bool), Works 5 s.live → s.live.fromStandby = true → s.live.saf.expect.2 = false → s.live.kOpen
    negative = false → condHeld s.live.rcd.conds 104 (if negative then 6 else 5) (padTo 8 []) = false → Answers
    (.contactorOpenTimeout negative) s (fun L => bitOf (L.getN 0x404001) 8 = true ∧ L.getN 0x404004 = 1 ∧ L.time.clk = max
    s.live.time.clk (s.live.saf.expect.1 + ms (s.live.getN 0x401301)) ∧ L.mode = s.live.mode ∧ L.pins = s.live.pins)) ∧
  (∀ (s : State) (negative : Bool), (s.live.saf.expect.2 = true ∨ s.live.kOpen negative = true) → exec (.contactorOpenTimeout
    negative) s = .next s) ∧
  (∀ (s : State) (negative : Bool), Works 5 s.live → s.live.fromStandby = true → s.live.saf.expect.2 = true → s.live.kOpen negative
    = true → condHeld s.live.rcd.conds 104 7 (padTo 8 []) = false → Answers (.contactorCloseTimeout negative) s (fun L => bitOf
    (L.getN 0x404001) 8 = true ∧ L.time.clk = max s.live.time.clk (s.live.saf.expect.1 + ms (s.live.getN 0x401302)) ∧
    (s.live.mode.st = .precharge ∧ s.live.conv.phase = 1 → L.mode.st = .safe ∧ L.saf.precharge = true) ∧ (s.live.mode.st ≠
    .precharge → L.mode = s.live.mode))) ∧
  (∀ (s : State) (negative : Bool), Works 5 s.live → (s.live.mode.st = .run ∨ s.live.mode.st = .derated) → s.live.saf.expect.2 =
    true → s.live.kOpen negative = true → condHeld s.live.rcd.conds 104 10 (padTo 8 []) = false → Answers
    (.unexpectedOpeningTimeout negative) s (fun L => bitOf (L.getN 0x404001) 8 = true ∧ L.mode.st = .safe ∧ (L.time.clk = max
    s.live.time.clk (max s.live.saf.expect.1 (s.live.pins.fbAt.getD (if negative then 1 else 0) 0) + ms (s.live.getN 0x401303))))) ∧
  (∀ (s : State), Works 5 s.live → s.live.fromStandby = true → s.live.pins.sswOpen = false → s.live.pins.fastOff = .off → condHeld
    s.live.rcd.conds 104 8 (padTo 8 []) = false → Answers .switchDiscrepancyTimeout s (fun L => bitOf (L.getN 0x404001) 8 = true ∧
    L.getN 0x404004 = 1 ∧ L.pins.contactA = false ∧ L.pins.contactB = false ∧ L.time.clk = max s.live.time.clk (s.live.offBegan +
    ms 2))) ∧
  (∀ (s : State), s.live.pins.sswOpen = false → s.live.pins.fastOff = .permit → s.live.partnerFast ≠ 2 → exec
    .switchDiscrepancyTimeout s = .next s)

/-- Bay trip (10 R271), release (10 R262), SRDO (10 R277), TWIN_X (02 R40, 10 R253). -/
def Obligations.BayTripReleaseAndTwinX : Prop :=
  (∀ (s : State) (loopMa : Nat), Works 5 s.live → (s.live.driving = true ∨ s.live.mode.st = .standby) → s.live.decided 13 1 = false
    → loopMa < 4 → Answers (.bayTripRead loopMa) s (fun L => L.saf.bayMa = loopMa ∧ L.saf.bayRead = some (s.live.saf.bayRead.getD
    s.live.time.clk) ∧ bitOf (L.getN 0x404001) 12 = true ∧ bitOf L.saf.decA 12 = true ∧ bitOf L.saf.decB 12 = true ∧ L.mode.st =
    .safe)) ∧
  (∀ (s : State) (loopMa : Nat), Works 5 s.live → 4 ≤ loopMa → Answers (.bayTripRead loopMa) s (fun L => L.saf.bayMa = loopMa ∧
    L.saf.bayRead = none ∧ L.saf.bayHeld = false ∧
    { L with saf := { L.saf with bayMa := s.live.saf.bayMa, bayRead := s.live.saf.bayRead, bayHeld := s.live.saf.bayHeld } } =
    s.live)) ∧
  (∀ (s : State) (t : Nat), Works 5 s.live → s.live.saf.bayRead = some t → s.live.saf.bayHeld = false → Answers .bayTripHeldTimeout
    s (fun L => L.saf.bayHeld = true ∧ L.time.clk = max s.live.time.clk (t + sec 1) ∧ L.rcd.raised = s.live.rcd.raised + 1 ∧
    { L with saf := { L.saf with bayHeld := s.live.saf.bayHeld }, time := s.live.time, rcd := s.live.rcd, com := s.live.com, dbg := s.live.dbg, cap := s.live.cap }
    = s.live)) ∧
  (∀ (s : State) (cause : Fin 13), Works 5 s.live → s.live.saf.released.length = 13 → s.live.relOpen (cause.val + 1) = true →
    s.live.relHolds (cause.val + 1) = true → Answers (.safetyReleaseTimer cause) s (fun L => L.saf.released.getD cause false = true
    ∧ bitOf (L.getN 0x404002) cause = false ∧ bitOf (L.getN 0x404001) cause = true ∧ L.time.clk = max s.live.time.clk
    ((s.live.saf.relSince.getD cause none).getD s.live.time.clk + s.live.relTime (cause.val + 1)) ∧ L.mode = s.live.mode)) ∧
  (∀ (s : State) (cause : Fin 13), (s.live.relOpen (cause.val + 1) = false ∨ s.live.relHolds (cause.val + 1) = false) → exec
    (.safetyReleaseTimer cause) s = .next s) ∧
  (∀ (s : State) (sess : Sess), Granted sess 3 s.live → s.live.saf.released.length = 13 → s.live.allOpen = true → s.live.relOpen 9
    = true → Answers (.safetyCmdReleaseSf09 sess) s (fun L => L.getN 0x404004 = 0 ∧ L.saf.released.getD 8 false = true ∧ bitOf
    (L.getN 0x404002) 8 = false ∧ Replied sess 0 L)) ∧
  (∀ (s : State) (sess : Sess), Granted sess 3 s.live → (s.live.allOpen = false ∨ s.live.relOpen 9 = false) → Answers
    (.safetyCmdReleaseSf09 sess) s (fun L => Replied sess abState L ∧
    { L with ks := s.live.ks, out := s.live.out, mgr := s.live.mgr, dbg := s.live.dbg, com := { L.com with num := s.live.com.num, bus := s.live.com.bus }, twin := { L.twin with bulk := s.live.twin.bulk, fwdSeq := s.live.twin.fwdSeq } }
    = s.live)) ∧
  (∀ (s : State) (sess : Sess), Granted sess 3 s.live → s.live.relOpen 2 = true → s.live.saf.deepUv = true → Answers
    (.safetyCmdReleaseDeepSf02 sess) s (fun L => L.saf.deepUv = false ∧ Replied sess 0 L ∧
    { L with saf := { L.saf with deepUv := s.live.saf.deepUv }, ks := s.live.ks, out := s.live.out, mgr := s.live.mgr, dbg := s.live.dbg, com := { L.com with num := s.live.com.num, bus := s.live.com.bus }, twin := { L.twin with bulk := s.live.twin.bulk, fwdSeq := s.live.twin.fwdSeq } }
    = s.live)) ∧
  (∀ (s : State) (k : Fin 8), Works 5 s.live → (s.live.driving = true ∨ s.live.mode.st = .standby) → s.live.decided 10 1 = false →
    Answers (.srdoSctExpiry k) s (fun L => (s.live.srdoOn k 2 = true → bitOf (L.getN 0x404001) 9 = true ∧ L.mode.st = .safe ∧
    L.time.clk = max s.live.time.clk ((s.live.saf.srdoAt.getD k none).getD s.live.time.clk + ms (s.live.getN ((0x1301 + k.val) *
    256 + 2)))) ∧ (s.live.srdoOn k 2 = false → L = s.live))) ∧
  (∀ (s : State), Works 4 s.live → (s.live.com.nmt ≠ 5 ∨ s.live.mode.dupHeard = true) → s.live.mgr.lead = false → Answers
    .srdoRefresh s (fun L => { L with com := { L.com with noticeDue := s.live.com.noticeDue } } = s.live ∧ L.com.noticeDue = none)) ∧
  (∀ (s : State), Works 4 s.live → s.live.com.nmt = 5 → s.live.mode.dupHeard = false → s.live.twin.holds = true → s.live.mgr.lead =
    false → s.live.com.bus.length = 2 → busUsable (s.live.com.bus.getD 0 {}) = true → Answers .srdoRefresh s (fun L =>
    ((L.com.bus.getD 0 {}).tx.length = (s.live.com.bus.getD 0 {}).tx.length + (if s.live.srdoOn 0 1 then 2 else 0)) ∧ L.mode =
    s.live.mode ∧ L.saf = s.live.saf ∧ { L with com := s.live.com } = s.live)) ∧
  (∀ (s : State) (us : Nat), Works 5 s.live → (s.live.driving = true ∨ s.live.mode.st = .standby) → s.live.saf.obeyed = none →
    s.live.hasPartner = false → 500 ≤ us → Answers (.twinXLowDetected us) s (fun L => L.mode.st = .safe ∧ L.saf.obeyed = some
    { d0 := 0, bay := false, classF := true } ∧ L.pins.fastOff = .off ∧ L.saf.hazard = true)) ∧
  (∀ (s : State) (us : Nat), Works 5 s.live → us < 500 → Answers (.twinXLowDetected us) s (fun L => L.saf.xSeen = some
    s.live.time.clk ∧ (s.live.hasPartner = false → L.saf.obeyed = none) ∧ L.mode = s.live.mode ∧ L.pins.fastOff =
    s.live.pins.fastOff)) ∧
  (∀ (s : State), Works 5 s.live → s.live.fromStandby = true → Answers .twinXTestPulse s (fun L => L.saf.xTest = some
    s.live.time.clk ∧
    { L with saf := { L.saf with xTest := s.live.saf.xTest }, rcd := s.live.rcd, com := s.live.com, dbg := s.live.dbg, cap := s.live.cap }
    = s.live))

/-- The insulation monitor (02 R26; 10 R272 to R276). -/
def Obligations.InsulationMonitorRows : Prop :=
  (∀ (s : State) (tenthOhm : Option Nat), Works 5 s.live → s.live.fromStandby = true → Answers (.pePathTest tenthOhm) s (fun L =>
    (L.saf.insConn = (match tenthOhm with | some r => decide (100 < r) | none => true)) ∧ bitOf (L.getN 0x20001A) 19 =
    L.saf.insConn ∧ (L.saf.insConn = true → L.pins.insRelay = false) ∧ (L.getN 0x200019 =
    (match tenthOhm with | some r => min r 1000 | none => 0xFFFF)) ∧ L.mode = s.live.mode)) ∧
  (∀ (s : State) (ohm : Nat), Works 5 s.live → s.live.fromStandby = true → Answers (.insulationSelftest ohm) s (fun L => (bitOf
    (L.getN 0x20001A) 11 = decide (ohm < 90000 ∨ 110000 < ohm)) ∧ (ohm < 90000 ∨ 110000 < ohm → L.pins.insRelay = false) ∧ L.mode =
    s.live.mode)) ∧
  (∀ (s : State) (estA : Option Nat) (estB : Option Nat) (nF : Nat), Works 5 s.live → s.live.insWants ≠ 0 → s.live.pins.insRelay =
    true → s.live.saf.insHalves < 2 → s.live.saf.insGap = none → Answers (.insulationHalfPeriod estA estB nF) s (fun L =>
    L.saf.insHalves = s.live.saf.insHalves + 1 ∧ L.time = s.live.toHalf.time ∧ L.pins.insVolt = waveAt L.time.mtime ∧
    { L with saf := { L.saf with insHalves := s.live.saf.insHalves }, time := s.live.time, pins := { L.pins with insVolt := s.live.pins.insVolt } }
    = s.live)) ∧
  (∀ (s : State) (estA : Option Nat) (estB : Option Nat) (nF : Nat), Works 5 s.live → s.live.insWants = 0 → Answers
    (.insulationHalfPeriod estA estB nF) s (fun L => L.pins.insRelay = false ∧ L.pins.insVolt = 0 ∧ L.mode = s.live.mode ∧ L.time =
    s.live.toHalf.time ∧
    { L with pins := { L.pins with insRelay := s.live.pins.insRelay, insVolt := s.live.pins.insVolt }, saf := { L.saf with insHalves := s.live.saf.insHalves, insBelow := s.live.saf.insBelow, insGap := s.live.saf.insGap }, time := s.live.time }
    = s.live)) ∧
  (∀ (s : State) (a : Nat) (estB : Option Nat) (nF : Nat), Works 5 s.live → s.live.insWants = 2 → s.live.pins.insRelay = true → 2 ≤
    s.live.saf.insHalves → s.live.saf.insGap = none → Answers (.insulationHalfPeriod (some a) estB nF) s (fun L => L.getN 0x402210
    = min a 0xFFFFFFFE ∧ L.getN 0x402211 = min nF 100000 ∧ L.saf.insFault = decide (a < s.live.getN 0x402202) ∧ L.mode =
    s.live.mode)) ∧
  (∀ (s : State) (estA : Option Nat) (estB : Option Nat) (nF : Nat) (t : Nat), Works 5 s.live → s.live.insWants ≠ 0 →
    s.live.pins.insRelay = true → s.live.saf.insGap = some t → Answers (.insulationHalfPeriod estA estB nF) s (fun L => L.time =
    s.live.toHalf.time ∧ (L.saf.insGap = (if s.live.toHalf.time.mtime < t then some t else none)) ∧ (L.pins.insVolt = (if
    s.live.toHalf.time.mtime < t then 0 else waveAt L.time.mtime)) ∧
    { L with time := s.live.time, saf := { L.saf with insGap := s.live.saf.insGap }, pins := { L.pins with insVolt := s.live.pins.insVolt } }
    = s.live)) ∧
  (∀ (s : State) (heardMv : Nat), Works 5 s.live → s.live.insWants = 1 → 5000 < heardMv → Answers (.insulationListenGap heardMv) s
    (fun L => s.live.rcd.raised + 1 ≤ L.rcd.raised ∧ L.free = s.live.free + 1 ∧ L.mode = s.live.mode)) ∧
  (∀ (s : State) (heardMv : Nat), (s.live.insWants ≠ 1 ∨ heardMv ≤ 5000) → exec (.insulationListenGap heardMv) s = .next s) ∧
  (∀ (s : State) (t : Nat), Works 5 s.live → s.live.saf.unmonSince = some t → s.live.saf.unmonExpired = false → Answers
    .unmonitoredLimitExpiry s (fun L => L.saf.unmonExpired = true ∧ L.enableRefused = true ∧ L.time.clk = max s.live.time.clk (t +
    sec (s.live.getN 0x402205)) ∧ L.rcd.raised = s.live.rcd.raised + 1 ∧
    { L with saf := { L.saf with unmonExpired := s.live.saf.unmonExpired }, time := s.live.time, rcd := s.live.rcd, com := s.live.com, dbg := s.live.dbg, cap := s.live.cap }
    = s.live))

/-- Reception (11 R283, R284, R295, R296; 10 R277; 01 R12). -/
def Obligations.FramesReceivedAreFiled : Prop :=
  (∀ (s : State) (bus : Fin 2) (f : CanFrame) (sof : Nat), Works 4 s.live → s.live.com.bus.length = 2 → f.rtr = false →
    ((s.live.can bus).st = 0 ∨ (s.live.can bus).st = 1 ∨ (s.live.can bus).st = 5) → s.live.filterTarget bus f = 1 → (s.live.can
    bus).rx.length < 256 → Answers (.canFrameRx bus f sof) s (fun L => (L.can bus).rx = (s.live.can bus).rx ++ [(sof, f)] ∧ (L.can
    (1 - bus)) = s.live.can (1 - bus) ∧ L.getN (canKey bus 0x15) = min (s.live.getN (canKey bus 0x15) + 1) (2 ^ 32 - 1) ∧
    SameObjects [canKey bus 0x15, canKey bus 0x12] L s.live ∧
    { L with com := { L.com with num := s.live.com.num, bus := s.live.com.bus }, obj := s.live.obj } = s.live)) ∧
  (∀ (s : State) (bus : Fin 2) (f : CanFrame) (sof : Nat), Works 4 s.live → f.rtr = false → ((s.live.can bus).st = 0 ∨ (s.live.can
    bus).st = 1 ∨ (s.live.can bus).st = 5) → s.live.filterTarget bus f = 0 → Answers (.canFrameRx bus f sof) s (fun L => L.getN
    (canKey bus 0x12) = s.live.getN (canKey bus 0x12) - 1 ∧ SameObjects [canKey bus 0x12] L s.live ∧ { L with obj := s.live.obj } =
    s.live)) ∧
  (∀ (s : State) (bus : Fin 2) (f : CanFrame) (sof : Nat), (f.rtr = true ∨ (s.live.can bus).st = 2 ∨ (s.live.can bus).st = 3 ∨
    (s.live.can bus).st = 4) → exec (.canFrameRx bus f sof) s = .next s) ∧
  (∀ (s : State) (bus : Fin 2) (f : CanFrame) (sof : Nat), Works 4 s.live → f.rtr = false → ((s.live.can bus).st = 0 ∨ (s.live.can
    bus).st = 1 ∨ (s.live.can bus).st = 5) → s.live.filterTarget bus f = 4 → s.live.com.logicRx.length < 64 → Answers (.canFrameRx
    bus f sof) s (fun L => L.com.logicRx = s.live.com.logicRx ++ [(bus.val, sof, f)] ∧ SameObjects [canKey bus 0x15, canKey bus
    0x12] L s.live ∧ { L with com := { L.com with logicRx := s.live.com.logicRx }, obj := s.live.obj } = s.live)) ∧
  (∀ (s : State) (bus : Fin 2) (f : CanFrame) (sof : Nat), Works 4 s.live → s.live.com.bus.length = 2 → f.rtr = false →
    ((s.live.can bus).st = 0 ∨ (s.live.can bus).st = 1 ∨ (s.live.can bus).st = 5) → (s.live.filterTarget bus f = 2 ∨
    s.live.filterTarget bus f = 3) → (s.live.can bus).hpb = [none, none] → Answers (.canFrameRx bus f sof) s (fun L => ((L.can
    bus).hpb = (if s.live.filterTarget bus f = 2 then [some (sof, f), none] else [none, some (sof, f)])) ∧ (L.can (1 - bus)) =
    s.live.can (1 - bus) ∧ SameObjects [canKey bus 0x15, canKey bus 0x12] L s.live ∧
    { L with com := { L.com with bus := s.live.com.bus }, obj := s.live.obj } = s.live)) ∧
  (∀ (s : State) (bus : Fin 2) (node : Nat) (nmt : Nat), s.live.powered = true → s.live.mode.listening = true →
    s.live.mode.dupHeard = false → s.live.unassigned = false → node = s.live.nodeId → Answers (.heartbeatRx bus node nmt) s (fun L
    => L.mode.dupHeard = true ∧ bitOf (L.getN 0x20001A) 13 = true ∧ L.rcd.raised = s.live.rcd.raised + 1 ∧
    { L with mode := { L.mode with dupHeard := s.live.mode.dupHeard }, obj := s.live.obj, rcd := s.live.rcd, com := s.live.com, dbg := s.live.dbg, cap := s.live.cap }
    = s.live)) ∧
  (∀ (s : State) (bus : Fin 2) (node : Nat) (nmt : Nat), (s.live.mode.listening = false ∨ node ≠ s.live.nodeId) → exec
    (.heartbeatRx bus node nmt) s = .next s) ∧
  (∀ (s : State) (bus : Fin 2) (k : Fin 8) (inv : Bool) (data : Bytes), Works 5 s.live → s.live.saf.srdoHalf.length = 8 → Answers
    (.srdoRx bus k inv data) s (fun L => (s.live.srdoOn k 2 = false → L = s.live) ∧ (s.live.srdoOn k 2 = true ∧ inv = false →
    L.saf.srdoHalf.getD k none = some (s.live.time.clk, data) ∧ L.mode = s.live.mode))) ∧
  (∀ (s : State) (bus : Fin 2) (n : Fin 4) (data : Bytes), Works 4 s.live → s.live.com.nmt = 5 → s.live.follower = false →
    s.live.takesRpdo bus n data.length = true → ((s.live.pdoMap (0x1600 + n.val)).map (·.2)).foldl (· + ·) 0 ≤ data.length →
    Answers (.rpdoRx bus n data) s (fun L => L.ks.pend.length + L.ks.refused = s.live.ks.pend.length + s.live.ks.refused +
    (s.live.pdoMap (0x1600 + n.val)).length ∧
    { L with ks := { L.ks with pend := s.live.ks.pend, refused := s.live.ks.refused }, twin := s.live.twin } = s.live)) ∧
  (∀ (s : State) (bus : Fin 2) (n : Fin 4) (data : Bytes), (s.live.com.nmt ≠ 5 ∨ s.live.takesRpdo bus n data.length = false) → exec
    (.rpdoRx bus n data) s = .next s)

/-- NMT (11 R284) and the heartbeat (11 R285). -/
def Obligations.NmtAndHeartbeat : Prop :=
  (∀ (s : State) (node : Nat), Works 4 s.live → s.live.nmtFor node = true → Answers (.startRemoteNode node) s (fun L => L.com.nmt =
    5 ∧ L.com.bus.length = s.live.com.bus.length ∧
    { L with com := s.live.com, rcd := s.live.rcd, dbg := s.live.dbg, cap := s.live.cap } = s.live)) ∧
  (∀ (s : State) (node : Nat), Works 4 s.live → s.live.nmtFor node = true → Answers (.stopRemoteNode node) s (fun L => L.com.nmt =
    4 ∧ { L with com := s.live.com, rcd := s.live.rcd, dbg := s.live.dbg, cap := s.live.cap } = s.live)) ∧
  (∀ (s : State) (node : Nat), Works 4 s.live → s.live.nmtFor node = true → Answers (.enterPreOperational node) s (fun L =>
    L.com.nmt = 127 ∧ { L with com := s.live.com, rcd := s.live.rcd, dbg := s.live.dbg, cap := s.live.cap } = s.live)) ∧
  (∀ (s : State) (node : Nat), Works 4 s.live → s.live.com.bus.length = 2 → s.live.nmtFor node = true → Answers (.resetNode node) s
    (fun L => (L.com.nmt = if s.live.fromStandby then 5 else 127) ∧ (L.can 0).tb = [none, none, none] ∧ (L.can 1).tb = [none, none,
    none] ∧ { L with com := s.live.com, rcd := s.live.rcd, dbg := s.live.dbg, cap := s.live.cap, obj := s.live.obj } = s.live)) ∧
  (∀ (s : State) (node : Nat), Works 4 s.live → s.live.com.bus.length = 2 → s.live.nmtFor node = true → Answers
    (.resetCommunication node) s (fun L => (L.com.nmt = if s.live.fromStandby then 5 else 127) ∧ (L.can 0).tb = [none, none, none]
    ∧ (L.can 1).tb = [none, none, none] ∧
    { L with com := s.live.com, rcd := s.live.rcd, dbg := s.live.dbg, cap := s.live.cap, obj := s.live.obj } = s.live)) ∧
  (∀ (s : State) (node : Nat), node ≠ 0 → node ≠ s.live.nodeId → exec (.stopRemoteNode node) s = .next s) ∧
  (∀ (s : State), Works 4 s.live → s.live.com.bus.length = 2 → s.live.maySend = true → Answers .heartbeatTx s (fun L => (L.can
    0).tx.length = (s.live.can 0).tx.length + 1 ∧ (L.can 1).tx.length = (s.live.can 1).tx.length + 1 ∧ (L.can 0).tx.getLast?.map
    (·.f) = some (canFrame (0x700 + s.live.nodeId) (leBytes 1 s.live.com.nmt)) ∧ L.time.clk = max s.live.time.clk
    (s.live.com.beatAt + ms (s.live.getN 0x101700)) ∧ { L with com := s.live.com, time := s.live.time } = s.live)) ∧
  (∀ (s : State), s.live.maySend = false → exec .heartbeatTx s = .next s)

/-- The transmit buffers (11 R289 to R293). -/
def Obligations.TransmissionOnABus : Prop :=
  (∀ (s : State) (bus : Fin 2) (f : TxFrame), Works 4 s.live → s.live.com.bus.length = 2 → (s.live.can bus).tb = [none, none, none]
    → s.live.candidate bus = some f → (s.live.can bus).sends = true → Answers (.txBufferLoad bus) s (fun L => (L.can bus).tb =
    [some { f := f, inArb := true, cancel := 0 }, none, none] ∧ ((L.can bus).tx = (s.live.can bus).tx.filter (fun g => g.num !=
    f.num)) ∧ L.out = .can bus f.f :: s.live.out ∧
    { L with com := { L.com with num := s.live.com.num, bus := s.live.com.bus }, time := { L.time with refSof := s.live.time.refSof }, out := s.live.out }
    = s.live)) ∧
  (∀ (s : State) (bus : Fin 2) (tb : Fin 3) (b : TxBuf), Works 4 s.live → s.live.com.bus.length = 2 → (s.live.can bus).tb.length =
    3 → (s.live.can bus).tb.getD tb none = some b → b.inArb = true → b.f.who < 2 → b.cancel < 2 → Answers (.canTxComplete bus tb
    .sent) s (fun L => (L.can bus).tb.getD tb none = none ∧ L.getN (canKey bus 0x14) = min (s.live.getN (canKey bus 0x14) + 1) (2 ^
    32 - 1) ∧ .txOutcome bus b.f.who b.f.f.id (outcomeWord 0 b.f (b.f.late || decide (b.f.at_ + s.live.deadline b.f.cls <
    s.live.time.clk))) ∈ L.out ∧
    { L with com := { L.com with num := s.live.com.num, bus := s.live.com.bus }, out := s.live.out, obj := s.live.obj, time := { L.time with refSof := s.live.time.refSof } }
    = s.live)) ∧
  (∀ (s : State) (bus : Fin 2) (tb : Fin 3) (b : TxBuf), Works 4 s.live → s.live.com.bus.length = 2 → (s.live.can bus).tb.length =
    3 → (s.live.can bus).tb.getD tb none = some b → b.inArb = true → b.f.cls ≠ 0 → b.cancel = 0 → Answers (.canTxComplete bus tb
    .lostOrError) s (fun L => ((L.can bus).tb.getD tb none).map (·.f) = some b.f ∧ (L.can bus).tx = (s.live.can bus).tx ∧
    { L with com := { L.com with num := s.live.com.num, bus := s.live.com.bus }, out := s.live.out, time := { L.time with refSof := s.live.time.refSof } }
    = s.live)) ∧
  (∀ (s : State) (bus : Fin 2) (t : Nat), Works 4 s.live → s.live.com.bus.length = 2 → earliest ((s.live.can bus).frames.map
    (nextPromotion (ms (s.live.getN 0x201201)))) = some t → Answers (.framePromotion bus) s (fun L => (∀ f ∈ (L.can bus).frames,
    f.ring = promoted (ms (s.live.getN 0x201201)) L.time.clk f) ∧ L.time.clk = max s.live.time.clk t ∧ (L.can (1 - bus)) =
    s.live.can (1 - bus) ∧
    { L with com := { L.com with num := s.live.com.num, bus := s.live.com.bus }, time := { L.time with clk := s.live.time.clk, mtime := s.live.time.mtime, cyc := s.live.time.cyc, frac := s.live.time.frac } }
    = s.live)) ∧
  (∀ (s : State) (bus : Fin 2) (t : Nat), Works 4 s.live → s.live.com.bus.length = 2 → earliest (((s.live.can bus).frames.filter
    (fun f => !f.late)).map (fun f => some (f.at_ + s.live.deadline f.cls))) = some t → Answers (.frameDeadline bus) s (fun L => (∀
    f ∈ (L.can bus).frames, f.late = true ∨ L.time.clk < f.at_ + s.live.deadline f.cls) ∧ L.time.clk = max s.live.time.clk t ∧
    L.mode = s.live.mode ∧ L.saf = s.live.saf))

/-- Fault confinement (11 R287, R297, R298, R300). -/
def Obligations.CanFaultConfinement : Prop :=
  (∀ (s : State) (bus : Fin 2), Works 4 s.live → s.live.com.bus.length = 2 → ((s.live.can bus).st = 0 ∨ (s.live.can bus).st = 5) →
    Answers (.canErrorPassive bus) s (fun L => (L.can bus).st = 1 ∧ (L.can (1 - bus)).st = (s.live.can (1 - bus)).st ∧ L.getN
    (canKey bus 0x10) = 1 ∧ L.time = s.live.time ∧ L.mode = s.live.mode)) ∧
  (∀ (s : State) (bus : Fin 2), Works 4 s.live → s.live.com.bus.length = 2 → (s.live.can bus).st = 1 → Answers (.canErrorActive
    bus) s (fun L => (L.can bus).st = 0 ∧ (L.can (1 - bus)).st = (s.live.can (1 - bus)).st ∧ L.getN (canKey bus 0x10) = 0 ∧
    { L with com := s.live.com, obj := s.live.obj, rcd := s.live.rcd, dbg := s.live.dbg, cap := s.live.cap, free := s.live.free } =
    s.live)) ∧
  (∀ (s : State) (bus : Fin 2), (s.live.can bus).st ≠ 1 → exec (.canErrorActive bus) s = .next s) ∧
  (∀ (s : State) (bus : Fin 2), Works 4 s.live → s.live.com.bus.length = 2 → ((s.live.can bus).st = 0 ∨ (s.live.can bus).st = 1 ∨
    (s.live.can bus).st = 5) → Answers (.canBusOff bus) s (fun L => L.getN (canKey bus 0x13) = min (s.live.getN (canKey bus 0x13) +
    1) (2 ^ 32 - 1) ∧ ((L.can bus).st = (if s.live.isSet (canKey bus 7) ∧ ((s.live.can bus).recov.filter (fun t => decide
    (s.live.time.clk < t + sec 60))).length < s.live.getN (canKey bus 8) then 3 else 2)) ∧ (L.can (1 - bus)).st = (s.live.can (1 -
    bus)).st ∧ L.mode = s.live.mode)) ∧
  (∀ (s : State) (bus : Fin 2), Works 4 s.live → s.live.com.bus.length = 2 → (s.live.can bus).st = 3 → Answers
    (.busOffRecoveryComplete bus) s (fun L => (L.can bus).st = 0 ∧ L.getN (canKey bus 0x11) = 0 ∧ L.getN (canKey bus 0x12) = 0 ∧
    (L.can bus).monitor = ((s.live.can bus).monitor || s.live.com.bothLost) ∧ (L.can (1 - bus)).st = (s.live.can (1 - bus)).st ∧
    { L with com := s.live.com, obj := s.live.obj, rcd := s.live.rcd, dbg := s.live.dbg, cap := s.live.cap } = s.live)) ∧
  (∀ (s : State) (bus : Fin 2), Works 4 s.live → s.live.com.bus.length = 2 → ((s.live.can bus).st = 0 ∨ (s.live.can bus).st = 1) →
    (s.live.can bus).frames ≠ [] → Answers (.canNoAckTimeout bus) s (fun L => (L.can bus).st = 5 ∧ (L.can (1 - bus)).st =
    (s.live.can (1 - bus)).st ∧ L.getN (canKey bus 0x10) = 5 ∧ L.mode = s.live.mode)) ∧
  (∀ (s : State), Works 4 s.live → s.live.com.bus.length = 2 → Answers .busMonitorCheckEnd s (fun L => (∀ b : Fin 2, (L.can
    b).monitor = ((s.live.can b).monitor && decide (L.time.clk < (s.live.can b).monAt + sec 1))) ∧ ((s.live.can 0).monitor = true ∨
    (s.live.can 1).monitor = true → L.com.bothLost = false) ∧
    { L with com := s.live.com, rcd := s.live.rcd, dbg := s.live.dbg, cap := s.live.cap, time := s.live.time } = s.live)) ∧
  (∀ (s : State) (sess : Sess) (bus : Fin 2), Granted sess 2 s.live → s.live.com.bus.length = 2 → (s.live.can bus).st = 2 → Answers
    (.canCmdRecover sess bus) s (fun L => (L.can bus).st = 3 ∧ (L.can bus).withheld = false ∧ Replied sess 0 L ∧
    { L with com := { L.com with num := s.live.com.num, bus := s.live.com.bus }, obj := s.live.obj, ks := s.live.ks, out := s.live.out, mgr := s.live.mgr, dbg := s.live.dbg, twin := { L.twin with bulk := s.live.twin.bulk, fwdSeq := s.live.twin.fwdSeq } }
    = s.live)) ∧
  (∀ (s : State) (sess : Sess) (bus : Fin 2), Granted sess 2 s.live → Answers (.canCmdClearCounters sess bus) s (fun L => (∀ n :
    Fin 5, L.getN (canKey bus (0x13 + n)) = 0) ∧ SameObjects [canKey bus 0x13, canKey bus 0x14, canKey bus 0x15, canKey bus 0x16,
    canKey bus 0x17] L s.live ∧ Replied sess 0 L ∧
    { L with obj := s.live.obj, ks := s.live.ks, out := s.live.out, mgr := s.live.mgr, dbg := s.live.dbg, com := { L.com with num := s.live.com.num, bus := s.live.com.bus }, twin := { L.twin with bulk := s.live.twin.bulk, fwdSeq := s.live.twin.fwdSeq } }
    = s.live)) ∧
  (∀ (s : State) (bus : Fin 2), Works 4 s.live → s.live.com.bus.length = 2 → (s.live.can bus).withheld = true → (s.live.can bus).st
    = 2 → Answers (.withheldRecoveryStart bus) s (fun L => (L.can bus).st = 3 ∧ (L.can bus).withheld = false ∧ s.live.time.clk ≤
    L.time.clk ∧
    { L with com := { L.com with num := s.live.com.num, bus := s.live.com.bus }, obj := s.live.obj, time := { L.time with clk := s.live.time.clk, mtime := s.live.time.mtime, cyc := s.live.time.cyc, frac := s.live.time.frac } }
    = s.live))

/-- Bay time (11 R302 to R307; 01 R15, R17). -/
def Obligations.BayTimeRows : Prop :=
  (∀ (s : State), Works 4 s.live → s.live.com.bus.length = 2 → s.live.mgr.lead = true → s.live.maySend = true → s.live.time.synced
    = true → s.live.time.lastSent < s.live.time.mtime → Answers .referenceMessageSend s (fun L => L.time.lastSent = L.time.mtime ∧
    L.time.mtime % ms 10 = 0 ∧ s.live.time.mtime ≤ L.time.mtime ∧ L.time.mtime < s.live.time.mtime + ms 10 ∧ (L.can 0).tx.length =
    (s.live.can 0).tx.length + 1 ∧ (L.can 1).tx.length = (s.live.can 1).tx.length + 1 ∧
    { L with com := s.live.com, time := s.live.time } = s.live)) ∧
  (∀ (s : State), (s.live.mgr.lead = false ∨ s.live.maySend = false ∨ s.live.time.synced = false) → exec .referenceMessageSend s =
    .next s) ∧
  (∀ (s : State) (bus : Fin 2), Works 4 s.live → s.live.com.bus.length = 2 → (s.live.can bus).frames = [] → Answers
    (.referenceCancelTimeout bus) s (fun L => L = s.live)) ∧
  (∀ (s : State) (bus : Fin 2) (fr : TxFrame), Works 4 s.live → s.live.com.bus.length = 2 → (s.live.can bus).tx = [fr] →
    (s.live.can bus).tb = [none, none, none] → fr.who = 2 → fr.f.id = s.live.bootN 0x220010 → Answers (.referenceCancelTimeout bus)
    s (fun L => (L.can bus).tx = [] ∧ L.time.clk = max s.live.time.clk (fr.at_ + ms 5) ∧ L.out.length = s.live.out.length + 1 ∧
    { L with com := { L.com with num := s.live.com.num, bus := s.live.com.bus }, time := { L.time with clk := s.live.time.clk, mtime := s.live.time.mtime, cyc := s.live.time.cyc, frac := s.live.time.frac }, out := s.live.out }
    = s.live)) ∧
  (∀ (s : State) (bus : Fin 2) (frame : Bytes) (sof : Nat), Works 2 s.live → s.live.mgr.lead = false → referenceOk frame = true →
    Answers (.referenceMessageRx bus frame sof) s (fun L => L.time.lastRef = s.live.time.clk ∧ (L.time.refs.find? (fun r => r.bus
    == bus.val) = some { bus := bus, sender := byteAt frame 3, seq := le frame 0 2, sof := sof }) ∧ L.time.mtime =
    s.live.time.mtime ∧ { L with time := s.live.time, rcd := s.live.rcd, com := s.live.com, dbg := s.live.dbg, cap := s.live.cap }
    = s.live)) ∧
  (∀ (s : State) (bus : Fin 2) (frame : Bytes) (sof : Nat), (referenceOk frame = false ∨ s.live.mgr.lead = true) → exec
    (.referenceMessageRx bus frame sof) s = .next s) ∧
  (∀ (s : State) (bus : Fin 2) (frame : Bytes), s.live.time.refs.find? (fun r => r.bus == bus.val) = none → exec (.followUpRx bus
    frame) s = .next s) ∧
  (∀ (s : State) (bus : Fin 2) (frame : Bytes) (r : RefRx), Works 2 s.live → s.live.mgr.lead = false → s.live.time.refs.find? (fun
    x => x.bus == bus.val) = some r → s.live.pairValid bus r frame = false → Answers (.followUpRx bus frame) s (fun L =>
    (L.time.refs.find? (fun x => x.bus == bus.val) = none) ∧ L.getN 0x220016 = min (s.live.getN 0x220016 + 1) (2 ^ 32 - 1) ∧
    SameObjects [0x220016] L s.live ∧ { L with time := { L.time with refs := s.live.time.refs }, obj := s.live.obj } = s.live)) ∧
  (∀ (s : State) (bus : Fin 2) (frame : Bytes) (r : RefRx), Works 2 s.live → s.live.mgr.lead = false → s.live.time.refs.find? (fun
    x => x.bus == bus.val) = some r → s.live.pairValid bus r frame = true → s.live.busTaken bus (period10 (le frame 0 8)) = true →
    s.live.followsBay = true → Answers (.followUpRx bus frame) s (fun L => L.time.lastPair = s.live.time.clk ∧ L.getN 0x220014 =
    r.seq ∧ L.getN 0x22001A = bus.val ∧ L.getN 0x220015 = min (s.live.getN 0x220015 + 1) (2 ^ 32 - 1) ∧ L.get 0x220003 = max
    (-2147483647) (min 2147483647 ((le frame 0 8 : Int) + s.live.get 0x220012 - r.sof)) ∧ (L.getN 0x220002 = 1 ∨ L.getN 0x220002 =
    2) ∧ L.mode = s.live.mode)) ∧
  (∀ (s : State), Works 2 s.live → s.live.followsBay = true → (s.live.getN 0x220002 = 1 ∨ s.live.getN 0x220002 = 2) → Answers
    .timeHoldoverEntry s (fun L => L.getN 0x220002 = 3 ∧ L.getN 0x22001A = 0xFF ∧ L.time.lockCount = 0 ∧ L.time.clk = max
    s.live.time.clk (s.live.time.lastPair + ms 50) ∧ SameObjects [0x220002, 0x22001A] L s.live ∧
    { L with time := s.live.time, obj := s.live.obj, rcd := s.live.rcd, com := s.live.com, dbg := s.live.dbg, cap := s.live.cap } =
    s.live)) ∧
  (∀ (s : State), Works 2 s.live → s.live.followsBay = true → s.live.getN 0x220002 = 3 → Answers .holdoverLimitExpiry s (fun L =>
    L.getN 0x220002 = 0 ∧ bitOf (L.getN 0x20001A) 18 = true ∧ L.time.clk = max s.live.time.clk (s.live.time.lastPair + ms 50 + sec
    (s.live.getN 0x220019)) ∧
    { L with time := s.live.time, obj := s.live.obj, rcd := s.live.rcd, com := s.live.com, dbg := s.live.dbg, cap := s.live.cap } =
    s.live)) ∧
  (∀ (s : State), Works 3 s.live → s.live.isManager = false → s.live.get 0x200007 = 0 → s.live.time.silence = false → Answers
    .managerSilenceTimeout s (fun L => L.time.silence = true ∧ L.time.clk = max s.live.time.clk (s.live.time.lastRef + ms
    (s.live.getN 0x200006)) ∧
    { L with time := { L.time with silence := s.live.time.silence, clk := s.live.time.clk, mtime := s.live.time.mtime, cyc := s.live.time.cyc, frac := s.live.time.frac } }
    = s.live))

/-- Layer setting (12 R314). The frames' bytes are the model's (log 26, PRESUMED). -/
def Obligations.LayerSettingServices : Prop :=
  (∀ (s : State) (bus : Fin 2) (configuration : Bool), Works 4 s.live → s.live.com.lssConf.length = 2 → Answers
    (.lssSwitchStateGlobal bus configuration) s (fun L => L.lssOn bus = configuration ∧ L.lssOn (1 - bus) = s.live.lssOn (1 - bus)
    ∧ { L with com := { L.com with lssConf := s.live.com.lssConf, num := s.live.com.num, bus := s.live.com.bus } } = s.live)) ∧
  (∀ (s : State) (bus : Fin 2) (vendor : Nat) (product : Nat) (revision : Nat) (serial : Nat), Works 4 s.live →
    s.live.com.lssConf.length = 2 → vendor = s.live.identity 1 → product = s.live.identity 2 → revision = s.live.identity 3 →
    serial = s.live.identity 4 → Answers (.lssSwitchStateSelective bus vendor product revision serial) s (fun L => L.lssOn bus =
    true ∧ (L.out = if s.live.mode.dupHeard then s.live.out else .lss bus (padTo 8 [0x44]) :: s.live.out) ∧
    { L with com := { L.com with lssConf := s.live.com.lssConf, num := s.live.com.num, bus := s.live.com.bus }, out := s.live.out }
    = s.live)) ∧
  (∀ (s : State) (bus : Fin 2) (vendor : Nat) (product : Nat) (revision : Nat) (serial : Nat), vendor ≠ s.live.identity 1 → exec
    (.lssSwitchStateSelective bus vendor product revision serial) s = .next s) ∧
  (∀ (s : State) (bus : Fin 2) (node : Nat), Works 4 s.live → s.live.lssOn bus = true → s.live.getN 0x200002 = 255 → s.live.mode.st
    = .standby → ((1 ≤ node ∧ node ≤ 33) ∨ (65 ≤ node ∧ node ≤ 97) ∨ node = 255) → Answers (.lssConfigureNodeId bus node) s (fun L
    => L.com.lssNode = some node ∧ (L.out = if s.live.mode.dupHeard then s.live.out else .lss bus (padTo 8 [0x11, 0, 0]) ::
    s.live.out) ∧
    { L with com := { L.com with lssNode := s.live.com.lssNode, num := s.live.com.num, bus := s.live.com.bus }, out := s.live.out }
    = s.live)) ∧
  (∀ (s : State) (bus : Fin 2) (node : Nat), Works 4 s.live → s.live.lssOn bus = true → s.live.getN 0x200002 = 255 → s.live.mode.st
    = .standby → (node = 0 ∨ (33 < node ∧ node < 65) ∨ (97 < node ∧ node ≠ 255)) → Answers (.lssConfigureNodeId bus node) s (fun L
    => (L.out = if s.live.mode.dupHeard then s.live.out else .lss bus (padTo 8 [0x11, 1, 0]) :: s.live.out) ∧
    { L with out := s.live.out, com := { L.com with num := s.live.com.num, bus := s.live.com.bus } } = s.live)) ∧
  (∀ (s : State) (bus : Fin 2) (node : Nat), Works 4 s.live → s.live.lssOn bus = true → (s.live.getN 0x200002 ≠ 255 ∨
    s.live.mode.st ≠ .standby) → Answers (.lssConfigureNodeId bus node) s (fun L => (L.out = if s.live.mode.dupHeard then
    s.live.out else .lss bus (padTo 8 [0x11, 255, 1]) :: s.live.out) ∧
    { L with out := s.live.out, com := { L.com with num := s.live.com.num, bus := s.live.com.bus } } = s.live)) ∧
  (∀ (s : State) (bus : Fin 2), Works 4 s.live → s.live.lssOn bus = true → Answers (.lssStoreConfiguration bus) s (fun L =>
    L.com.lssStore = s.live.com.lssNode ∧ (L.out = if s.live.mode.dupHeard then s.live.out else .lss bus (padTo 8 [0x17, 0, 0]) ::
    s.live.out) ∧
    { L with com := { L.com with lssStore := s.live.com.lssStore, num := s.live.com.num, bus := s.live.com.bus }, out := s.live.out }
    = s.live)) ∧
  (∀ (s : State) (bus : Fin 2) (node : Nat), s.live.lssOn bus = false → exec (.lssConfigureNodeId bus node) s = .next s) ∧
  (∀ (s : State) (bus : Fin 2), Works 4 s.live → s.live.lssOn bus = true → Answers (.lssInquireVendor bus) s (fun L => (L.out = if
    s.live.mode.dupHeard then s.live.out else .lss bus (padTo 8 (0x5A :: leBytes 4 0xB3C)) :: s.live.out) ∧
    { L with out := s.live.out, com := { L.com with num := s.live.com.num, bus := s.live.com.bus } } = s.live)) ∧
  (∀ (s : State) (bus : Fin 2), Works 4 s.live → s.live.lssOn bus = true → Answers (.lssInquireProduct bus) s (fun L => (L.out = if
    s.live.mode.dupHeard then s.live.out else .lss bus (padTo 8 (0x5B :: leBytes 4 0x531016)) :: s.live.out) ∧
    { L with out := s.live.out, com := { L.com with num := s.live.com.num, bus := s.live.com.bus } } = s.live)) ∧
  (∀ (s : State) (bus : Fin 2), Works 4 s.live → s.live.lssOn bus = true → Answers (.lssInquireRevision bus) s (fun L => (L.out =
    if s.live.mode.dupHeard then s.live.out else .lss bus (padTo 8 (0x5C :: leBytes 4 (s.live.getN 0x480005))) :: s.live.out) ∧
    { L with out := s.live.out, com := { L.com with num := s.live.com.num, bus := s.live.com.bus } } = s.live)) ∧
  (∀ (s : State) (bus : Fin 2), Works 4 s.live → s.live.lssOn bus = true → Answers (.lssInquireSerial bus) s (fun L => (L.out = if
    s.live.mode.dupHeard then s.live.out else .lss bus (padTo 8 (0x5D :: leBytes 4 (Config.serial % 2 ^ 32))) :: s.live.out) ∧
    { L with out := s.live.out, com := { L.com with num := s.live.com.num, bus := s.live.com.bus } } = s.live)) ∧
  (∀ (s : State) (bus : Fin 2), Works 4 s.live → s.live.lssOn bus = true → Answers (.lssInquireNodeId bus) s (fun L => (L.out = if
    s.live.mode.dupHeard then s.live.out else .lss bus (padTo 8 (0x5E :: leBytes 4 s.live.nodeId)) :: s.live.out) ∧
    { L with out := s.live.out, com := { L.com with num := s.live.com.num, bus := s.live.com.bus } } = s.live)) ∧
  (∀ (s : State) (bus : Fin 2) (vendor : Nat) (product : Nat) (revLo : Nat) (revHi : Nat) (serLo : Nat) (serHi : Nat), Works 4
    s.live → vendor = s.live.identity 1 → product = s.live.identity 2 → revLo ≤ s.live.identity 3 → s.live.identity 3 ≤ revHi →
    serLo ≤ s.live.identity 4 → s.live.identity 4 ≤ serHi → Answers (.lssIdentifyRemoteSlave bus vendor product revLo revHi serLo
    serHi) s (fun L => (L.out = if s.live.mode.dupHeard then s.live.out else .lss bus (padTo 8 [0x4F]) :: s.live.out) ∧
    { L with out := s.live.out, com := { L.com with num := s.live.com.num, bus := s.live.com.bus } } = s.live)) ∧
  (∀ (s : State) (bus : Fin 2), Works 4 s.live → s.live.getN 0x200002 = 255 → Answers (.lssIdentifyNonConfigured bus) s (fun L =>
    (L.out = if s.live.mode.dupHeard then s.live.out else .lss bus (padTo 8 [0x50]) :: s.live.out) ∧
    { L with out := s.live.out, com := { L.com with num := s.live.com.num, bus := s.live.com.bus } } = s.live)) ∧
  (∀ (s : State) (bus : Fin 2), s.live.getN 0x200002 ≠ 255 → exec (.lssIdentifyNonConfigured bus) s = .next s)

/-- Reads (12 R320, R323, R324; 07 R191; 16 R414). -/
def Obligations.ReadsAreAnswered : Prop :=
  (∀ (s : State) (sess : Sess) (index : Nat) (sub : Nat) (segmented : Bool), s.live.powered = true → s.live.mode.st ≠ .boot →
    s.live.serves sess = true → s.live.follower = false → index * 256 + sub ≠ 0x460010 → iface sess = 1 → ∃ t, exec (.odRead sess
    index sub segmented) s = .next t ∧ (t.live.out = .answer sess
    (match Live.readObj s.snap (s.live.touch sess) sess index sub with | .ok _ => 0 | .error e => e)
    (match Live.readObj s.snap (s.live.touch sess) sess index sub with | .ok b => b | .error _ => []) :: s.live.out) ∧
    { t.live with ks := s.live.ks, out := s.live.out, com := { t.live.com with num := s.live.com.num, bus := s.live.com.bus } } =
    s.live ∧ t.live.ks.pend = s.live.ks.pend ∧ t.snap = s.snap ∧ t.pending = s.pending ∧ (segmented = true → (sess, s.live.time.clk
    + sec 1, s.snap) ∈ t.kept) ∧ (segmented = false → t.kept = s.kept.filter (fun x => x.1 != sess))) ∧
  (∀ (s : State) (sess : Sess) (index : Nat) (sub : Nat) (segmented : Bool), (s.live.powered = false ∨ s.live.mode.st = .boot ∨
    s.live.serves sess = false) → exec (.odRead sess index sub segmented) s = .next s) ∧
  (∀ (s : State) (sess : Sess), s.live.powered = true → (s.kept.find? (fun x => x.1 == sess)).isSome = true → iface sess = 1 →
    s.live.ks.reading.any (fun y => y.1 == sess) = true → ∃ t, exec (.segmentedReadTimeout sess) s = .next t ∧ t.live.out = .answer
    sess 0x08000107 [] :: s.live.out ∧ (t.live.ks.reading = s.live.ks.reading.filter (fun x => x.1 != sess)) ∧ (t.kept =
    s.kept.filter (fun x => x.1 != sess)) ∧
    { t.live with ks := s.live.ks, out := s.live.out, time := s.live.time, com := { t.live.com with num := s.live.com.num, bus := s.live.com.bus } }
    = s.live ∧ s.live.time.clk ≤ t.live.time.clk ∧ t.snap = s.snap) ∧
  (∀ (s : State) (sess : Sess), s.live.powered = true → (s.kept.find? (fun x => x.1 == sess)).isSome = true → s.live.ks.reading.any
    (fun y => y.1 == sess) = false → ∃ t, exec (.segmentedReadTimeout sess) s = .next t ∧ (t.kept = s.kept.filter (fun x => x.1 !=
    sess)) ∧ { t.live with time := s.live.time } = s.live ∧ s.live.time.clk ≤ t.live.time.clk ∧ t.snap = s.snap) ∧
  (∀ (s : State) (sess : Sess), s.kept.find? (fun x => x.1 == sess) = none → exec (.segmentedReadTimeout sess) s = .next s) ∧
  (∀ (s : State) (sess : Sess) (n : Fin 8), s.live.powered = true → s.live.mode.st ≠ .boot → s.live.serves sess = true →
    s.live.follower = false → iface sess = 1 → Answers (.readListResultRead sess n) s (fun L => (L.out = .answer sess
    (match Live.readObj s.snap (s.live.touch sess) sess 0x2100 (0x28 + n.val) with | .ok _ => 0 | .error e => e)
    (match Live.readObj s.snap (s.live.touch sess) sess 0x2100 (0x28 + n.val) with | .ok b => b | .error _ => []) :: s.live.out) ∧
    L.ks.pend = s.live.ks.pend ∧
    { L with ks := s.live.ks, out := s.live.out, com := { L.com with num := s.live.com.num, bus := s.live.com.bus } } = s.live)) ∧
  (∀ (s : State) (sess : Sess), s.live.powered = true → s.live.mode.st ≠ .boot → s.live.serves sess = true → s.live.follower =
    false → iface sess = 1 → ∃ t, exec (.captureDataRead sess) s = .next t ∧ (t.live.out = .answer sess
    (match Live.readObj s.snap (s.live.touch sess) sess 0x3201 0x10 with | .ok _ => 0 | .error e => e)
    (match Live.readObj s.snap (s.live.touch sess) sess 0x3201 0x10 with | .ok b => b | .error _ => []) :: s.live.out) ∧
    t.live.ks.pend = s.live.ks.pend ∧ t.live.ks.reading.head? = some (sess, 0x320110) ∧
    { t.live with ks := s.live.ks, out := s.live.out, com := { t.live.com with num := s.live.com.num, bus := s.live.com.bus } } =
    s.live ∧ (sess, s.live.time.clk + sec 1, s.snap) ∈ t.kept ∧ t.snap = s.snap) ∧
  (∀ (s : State) (sess : Sess) (seq : Nat), s.live.powered = true → s.live.serves sess = true → iface sess = 1 → s.live.getN
    0x46000E = seq → s.live.getN 0x46000F = 1 → seq < 2 ^ 32 → s.live.rcd.valid seq = true → Answers (.recordsRead sess) s (fun L
    => L.out = .answer sess 0 (s.live.rcd.slot seq) :: s.live.out ∧
    { L with ks := s.live.ks, out := s.live.out, com := { L.com with num := s.live.com.num, bus := s.live.com.bus } } = s.live))

/-- Arrival of writes (12 R319, R321, R326, R336). -/
def Obligations.WritesArriveAtTheKeystone : Prop :=
  (∀ (s : State) (sess : Sess) (index : Nat) (sub : Nat) (value : Bytes), Granted sess 0 s.live → s.live.mode.st ≠ .boot →
    s.live.follower = false → s.live.mirrorsOut = false → index * 256 + sub ≠ 0x210010 → sub < 256 → (s.live.touch sess).arrival
    sess index sub value = none → Answers (.odWrite sess false index sub value) s (fun L => L.ks.pend = s.live.ks.pend ++
    [{ sess := sess, via := false, key := index * 256 + sub, val := value, txn := none, fwd := none, level := (s.live.touch sess).levelOf sess }]
    ∧ L.ks.refused = s.live.ks.refused ∧ (L.ks.commands = s.live.ks.commands + (if isCommandObject (index * 256 + sub) then 1 else
    0)) ∧ { L with ks := s.live.ks } = s.live)) ∧
  (∀ (s : State) (sess : Sess) (index : Nat) (sub : Nat) (value : Bytes) (e : Nat), Granted sess 0 s.live → s.live.mode.st ≠ .boot
    → s.live.follower = false → s.live.mirrorsOut = false → index * 256 + sub ≠ 0x210010 → sub < 256 → iface sess = 1 →
    (s.live.touch sess).arrival sess index sub value = some e → Answers (.odWrite sess false index sub value) s (fun L => L.ks.pend
    = s.live.ks.pend ∧ L.ks.refused = s.live.ks.refused + 1 ∧ L.out = .answer sess e [] :: s.live.out ∧ (L.session sess).map
    (·.lastAbort) = some e ∧
    { L with ks := s.live.ks, out := s.live.out, com := { L.com with num := s.live.com.num, bus := s.live.com.bus }, twin := { L.twin with bulk := s.live.twin.bulk, fwdSeq := s.live.twin.fwdSeq } }
    = s.live)) ∧
  (∀ (s : State) (sess : Sess) (via : Bool) (index : Nat) (sub : Nat) (value : Bytes), (s.live.powered = false ∨ s.live.mode.st =
    .boot ∨ s.live.serves sess = false) → exec (.odWrite sess via index sub value) s = .next s) ∧
  (∀ (s : State) (sess : Sess) (image : Bytes), Granted sess 0 s.live → s.live.mode.st ≠ .boot → s.live.follower = false →
    s.live.mirrorsOut = false → iface sess = 1 → parseTxn image = none → Answers (.transaction sess false image) s (fun L =>
    L.ks.pend = s.live.ks.pend ∧ L.ks.txns = s.live.ks.txns ∧ L.ks.refused = s.live.ks.refused + 1 ∧ L.out = .answer sess
    0x0800010A [] :: s.live.out ∧
    { L with ks := s.live.ks, out := s.live.out, com := { L.com with num := s.live.com.num, bus := s.live.com.bus }, twin := { L.twin with bulk := s.live.twin.bulk, fwdSeq := s.live.twin.fwdSeq } }
    = s.live)) ∧
  (∀ (s : State) (sess : Sess) (image : Bytes) (flags : Nat) (tag : Nat) (base : Nat) (es : List (Nat × Bytes)), Granted sess 0
    s.live → s.live.mode.st ≠ .boot → s.live.follower = false → s.live.mirrorsOut = false → parseTxn image = some (flags, tag,
    base, es) → (s.live.touch sess).txnArrival sess 1 s.live.ks.commands es = none → Answers (.transaction sess false image) s (fun
    L => L.ks.txns = s.live.ks.txns ++
    [{ num := s.live.ks.txns.length + 1, sess := sess, flags := flags, tag := tag, base := base, via := false }] ∧ (L.ks.pend =
    s.live.ks.pend ++ es.map (fun e =>
    { sess := sess, via := false, key := e.1, val := e.2, txn := some (s.live.ks.txns.length + 1), fwd := none, level := (s.live.touch sess).levelOf sess }))
    ∧ L.ks.refused = s.live.ks.refused ∧ { L with ks := s.live.ks } = s.live)) ∧
  (∀ (s : State) (sess : Sess) (image : Bytes) (flags : Nat) (tag : Nat) (base : Nat) (es : List (Nat × Bytes)) (pos : Nat) (e :
    Nat), Granted sess 0 s.live → s.live.mode.st ≠ .boot → s.live.follower = false → s.live.mirrorsOut = false → iface sess = 1 →
    parseTxn image = some (flags, tag, base, es) → (s.live.touch sess).txnArrival sess 1 s.live.ks.commands es = some (pos, e) →
    Answers (.transaction sess false image) s (fun L => L.ks.txns = s.live.ks.txns ∧ L.ks.pend = s.live.ks.pend ∧ L.ks.refused =
    s.live.ks.refused + 1 ∧ L.out = .answer sess e [] :: s.live.out ∧ (L.session sess).map (·.refusedEntry) = some pos ∧
    { L with ks := s.live.ks, out := s.live.out, com := { L.com with num := s.live.com.num, bus := s.live.com.bus }, twin := { L.twin with bulk := s.live.twin.bulk, fwdSeq := s.live.twin.fwdSeq } }
    = s.live)) ∧
  (∀ (s : State) (sess : Sess), Served sess 0 s.live → s.live.follower = true → Answers (.cmdEnable sess) s (fun L =>
    L.ks.forwarded = s.live.ks.forwarded ++ [(sess, 0x20000A)] ∧ L.ks.pend = s.live.ks.pend ∧ L.mode = s.live.mode ∧ L.out =
    s.live.out ∧
    { L with ks := s.live.ks, mgr := s.live.mgr, dbg := s.live.dbg, twin := { L.twin with bulk := s.live.twin.bulk, fwdSeq := s.live.twin.fwdSeq } }
    = s.live)) ∧
  (∀ (s : State) (sess : Sess), Served sess 0 s.live → s.live.follower = true → Answers (.tableCmdEraseBank sess) s (fun L =>
    L.ks.forwarded = s.live.ks.forwarded ++ [(sess, 0x380006)] ∧ L.blob = s.live.blob ∧ L.obj = s.live.obj ∧ L.out = s.live.out ∧
    { L with ks := s.live.ks, mgr := s.live.mgr, dbg := s.live.dbg, twin := { L.twin with bulk := s.live.twin.bulk, fwdSeq := s.live.twin.fwdSeq } }
    = s.live)) ∧
  (∀ (s : State) (sess : Sess), Served sess 0 s.live → s.live.follower = false → s.live.getN 0x20000D = 2 → Answers
    (.tableCmdEraseBank sess) s (fun L => Replied sess abState L ∧ L.blob = s.live.blob ∧ L.obj = s.live.obj ∧
    { L with ks := s.live.ks, out := s.live.out, mgr := s.live.mgr, dbg := s.live.dbg, com := { L.com with num := s.live.com.num, bus := s.live.com.bus }, twin := { L.twin with bulk := s.live.twin.bulk, fwdSeq := s.live.twin.fwdSeq } }
    = s.live))

/-- Sessions and levels (12 R315 to R317). -/
def Obligations.SessionsAndLevels : Prop :=
  (∀ (s : State) (sess : Sess) (response : Bytes), Granted sess 0 s.live → iface sess = 1 → response.length = 25 → ((s.live.touch
    sess).session sess).map (·.lockUntil) = some none → Answers (.authResponse sess response) s (fun L => (L.levelOf sess = (if
    ((s.live.touch sess).session sess).any (fun x => (s.live.touch sess).authRight x response) then byteAt response 0 else
    (s.live.touch sess).levelOf sess)) ∧ (((s.live.touch sess).session sess).any (fun x => (s.live.touch sess).authRight x
    response) = true → Replied sess 0 L) ∧ (((s.live.touch sess).session sess).any (fun x => (s.live.touch sess).authRight x
    response) = false → Replied sess 0x0800010F L) ∧ L.time = s.live.time ∧ (s.live.mirrorsOut = false → L.ks.pend =
    s.live.ks.pend) ∧
    { L with ks := s.live.ks, out := s.live.out, rcd := s.live.rcd, obj := s.live.obj, dbg := s.live.dbg, com := s.live.com, cap := s.live.cap, twin := { L.twin with bulk := s.live.twin.bulk, fwdSeq := s.live.twin.fwdSeq } }
    = s.live)) ∧
  (∀ (s : State) (sess : Sess) (response : Bytes) (u : Nat), Granted sess 0 s.live → iface sess = 1 → ((s.live.touch sess).session
    sess).map (·.lockUntil) = some (some u) → Answers (.authResponse sess response) s (fun L => L.levelOf sess = (s.live.touch
    sess).levelOf sess ∧ Replied sess 0x08000110 L ∧
    { L with ks := s.live.ks, out := s.live.out, com := { L.com with num := s.live.com.num, bus := s.live.com.bus }, twin := { L.twin with bulk := s.live.twin.bulk, fwdSeq := s.live.twin.fwdSeq } }
    = s.live)) ∧
  (∀ (s : State) (sess : Sess) (level : Nat), Granted sess level s.live → (iface sess = 1 ∨ iface sess = 2) → Answers (.lowerLevel
    sess level) s (fun L => L.levelOf sess = level ∧ Replied sess 0 L ∧
    { L with ks := s.live.ks, out := s.live.out, com := { L.com with num := s.live.com.num, bus := s.live.com.bus }, twin := { L.twin with bulk := s.live.twin.bulk, fwdSeq := s.live.twin.fwdSeq } }
    = s.live)) ∧
  (∀ (s : State) (sess : Sess) (level : Nat), Granted sess 0 s.live → (s.live.touch sess).levelOf sess < level → Answers
    (.lowerLevel sess level) s (fun L => L.levelOf sess = (s.live.touch sess).levelOf sess ∧ Replied sess 0x06090030 L ∧
    { L with ks := s.live.ks, out := s.live.out, mgr := s.live.mgr, dbg := s.live.dbg, com := { L.com with num := s.live.com.num, bus := s.live.com.bus }, twin := { L.twin with bulk := s.live.twin.bulk, fwdSeq := s.live.twin.fwdSeq } }
    = s.live)) ∧
  (∀ (s : State) (sess : Sess), s.live.powered = true → (s.live.session sess).isSome = true → (iface sess = 1 ∨ iface sess = 2) →
    Answers (.sessionIdleTimeout sess) s (fun L => L.levelOf sess = s.live.getN 0x4C0007 ∧ s.live.time.clk ≤ L.time.clk ∧ L.ks.edit
    = s.live.ks.edit ∧
    { L with ks := { L.ks with sessions := s.live.ks.sessions }, time := { L.time with clk := s.live.time.clk, mtime := s.live.time.mtime, cyc := s.live.time.cyc, frac := s.live.time.frac } }
    = s.live)) ∧
  (∀ (s : State) (sess : Sess), s.live.session sess = none → exec (.sessionIdleTimeout sess) s = .next s) ∧
  (∀ (s : State) (sess : Sess) (x : Session) (u : Nat), s.live.powered = true → (iface sess = 1 ∨ iface sess = 2) → s.live.session
    sess = some x → x.lockUntil = some u → Answers (.authLockExpiry sess) s (fun L => (L.session sess).map (·.lockUntil) = some
    none ∧ L.time.clk = max s.live.time.clk u ∧
    { L with ks := { L.ks with sessions := s.live.ks.sessions }, time := { L.time with clk := s.live.time.clk, mtime := s.live.time.mtime, cyc := s.live.time.cyc, frac := s.live.time.frac } }
    = s.live)) ∧
  (∀ (s : State) (u : Nat), s.live.powered = true → s.live.dbg.lockUntil = some u → Answers (.authLockExpiry 0x4000) s (fun L =>
    L.dbg.lockUntil = none ∧ L.time.clk = max s.live.time.clk u ∧
    { L with dbg := { L.dbg with lockUntil := s.live.dbg.lockUntil }, time := { L.time with clk := s.live.time.clk, mtime := s.live.time.mtime, cyc := s.live.time.cyc, frac := s.live.time.frac } }
    = s.live))

/-- The safety set (12 R329 to R332). -/
def Obligations.SafetySetIsEditedAndConfirmed : Prop :=
  (∀ (s : State) (sess : Sess) (index : Nat) (sub : Nat) (value : Bytes), Served sess 0 s.live → isSafetyParam (index * 256 + sub)
    = true → sub < 256 → (s.live.touch sess).arrival sess index sub value = none → (∀ e ∈ (s.live.touch sess).ks.edit, e.owner =
    sess) → Answers (.safetyParamWrite sess index sub value) s (fun L => L.ks.edit.map (·.owner) = some sess ∧ (s.live.mirrorsOut =
    false → L.ks.pend = s.live.ks.pend) ∧ L.ks.edit.map (·.lastWrite) = some s.live.time.clk ∧ ((odRow index sub).map (fun r =>
    r.ty.decode value) = L.ks.edit.map (fun e => L.editGet e (index * 256 + sub))) ∧ Replied sess 0 L ∧
    { L with ks := s.live.ks, out := s.live.out, mgr := s.live.mgr, dbg := s.live.dbg, com := { L.com with num := s.live.com.num, bus := s.live.com.bus }, twin := { L.twin with bulk := s.live.twin.bulk, fwdSeq := s.live.twin.fwdSeq } }
    = s.live)) ∧
  (∀ (s : State) (sess : Sess) (index : Nat) (sub : Nat) (value : Bytes) (e : EditCopy), Served sess 0 s.live → (s.live.touch
    sess).ks.edit = some e → e.owner ≠ sess → isSafetyParam (index * 256 + sub) = true → sub < 256 → (s.live.touch sess).arrival
    sess index sub value = none → Answers (.safetyParamWrite sess index sub value) s (fun L => L.ks.edit = some e ∧
    (s.live.mirrorsOut = false → L.ks.pend = s.live.ks.pend) ∧ Replied sess 0x0800010B L ∧
    { L with ks := s.live.ks, out := s.live.out, mgr := s.live.mgr, dbg := s.live.dbg, com := { L.com with num := s.live.com.num, bus := s.live.com.bus }, twin := { L.twin with bulk := s.live.twin.bulk, fwdSeq := s.live.twin.fwdSeq } }
    = s.live)) ∧
  (∀ (s : State) (sess : Sess) (e : EditCopy), Granted sess 3 s.live → (s.live.touch sess).ks.edit = some e → e.owner = sess →
    Answers (.safetyCmdDiscardEdit sess) s (fun L => L.ks.edit = none ∧ Replied sess 0 L ∧
    { L with ks := s.live.ks, out := s.live.out, mgr := s.live.mgr, dbg := s.live.dbg, com := { L.com with num := s.live.com.num, bus := s.live.com.bus }, twin := { L.twin with bulk := s.live.twin.bulk, fwdSeq := s.live.twin.fwdSeq } }
    = s.live)) ∧
  (∀ (s : State) (sess : Sess) (e : EditCopy) (crc : Nat), Granted sess 3 s.live → (s.live.touch sess).ks.edit = some e →
    e.vals.all (fun p => isSafetyParam p.1) = true → (s.live.touch sess).confirmReason sess crc = (0, 0) → Answers
    (.safetySetConfirm sess crc) s (fun L => L.ks.edit = none ∧ L.ks.confirmed = true ∧ L.ks.copyAOk = true ∧ L.ks.copyBOk = true ∧
    L.getN 0x400007 = 0 ∧ L.getN 0x400009 = s.live.ks.epoch ∧ (∀ o ∈ safetyObjs, L.get o.1 = s.live.editGet e o.1) ∧ L.getN
    0x400008 = min (s.live.getN 0x400008 + 1) (2 ^ 32 - 1) ∧
    { L with ks := s.live.ks, out := s.live.out, obj := s.live.obj, eng := s.live.eng, seg := s.live.seg, rcd := s.live.rcd, com := s.live.com, mgr := s.live.mgr, dbg := s.live.dbg, cap := s.live.cap, twin := { L.twin with bulk := s.live.twin.bulk, fwdSeq := s.live.twin.fwdSeq } }
    = s.live)) ∧
  (∀ (s : State) (sess : Sess) (crc : Nat), Granted sess 3 s.live → ((s.live.touch sess).confirmReason sess crc).1 ≠ 0 → Answers
    (.safetySetConfirm sess crc) s (fun L => L.getN 0x400007 = ((s.live.touch sess).confirmReason sess crc).1 ∧ L.get 0x40000A =
    ((s.live.touch sess).confirmReason sess crc).2 ∧ Replied sess 0x0800010C L ∧ L.ks.edit = (s.live.touch sess).ks.edit ∧
    L.ks.confirmed = s.live.ks.confirmed ∧
    { L with ks := s.live.ks, out := s.live.out, mgr := s.live.mgr, dbg := s.live.dbg, obj := s.live.obj, rcd := s.live.rcd, com := s.live.com, cap := s.live.cap, twin := { L.twin with bulk := s.live.twin.bulk, fwdSeq := s.live.twin.fwdSeq } }
    = s.live)) ∧
  (∀ (s : State) (e : EditCopy), s.live.powered = true → s.live.ks.edit = some e → Answers .editCopyTimeout s (fun L => L.ks.edit =
    none ∧ L.time.clk = max s.live.time.clk (e.lastWrite + sec 600) ∧
    { L with ks := { L.ks with edit := s.live.ks.edit }, time := { L.time with clk := s.live.time.clk, mtime := s.live.time.mtime, cyc := s.live.time.cyc, frac := s.live.time.frac } }
    = s.live)) ∧
  (∀ (s : State), s.live.ks.edit = none → exec .editCopyTimeout s = .next s) ∧
  (∀ (s : State) (copyAOk : Bool) (copyBOk : Bool), s.live.powered = true → Answers (.safetySetCrcCheck copyAOk copyBOk) s (fun L
    => (copyAOk = true ∧ copyBOk = true → L = s.live) ∧ ((copyAOk = true ∧ copyBOk = false) ∨ (copyAOk = false ∧ copyBOk = true) →
    L.ks.copyAOk = true ∧ L.ks.copyBOk = true) ∧ (copyAOk = false ∧ copyBOk = false → L.ks.copyAOk = false ∧ L.ks.copyBOk = false ∧
    bitOf (L.getN 0x20001A) 12 = true) ∧ (L.mode.st = s.live.mode.st ∨ copyAOk = false ∧ copyBOk = false)))

/-- The cairn (16 R408 to R415). -/
def Obligations.RecorderCommitsFreezesAndClears : Prop :=
  (∀ (s : State) (p : Part) (e : Rec), s.live.powered = true → s.live.mayCommit = true → s.live.rcd.intake.head? = some (p, e) →
    s.live.jrn.ents = [] → e.seq < 2 ^ 32 → Answers .recordCommit s (fun L => L.rcd.newest = some e.seq ∧ L.rcd.era = eraOf
    s.live.rcd e ∧ L.rcd.slot e.seq = { e with era := eraOf s.live.rcd e }.image ∧ (L.rcd.slots.filter (fun x => x.1 != e.seq %
    65536) = s.live.rcd.slots.filter (fun x => x.1 != e.seq % 65536)) ∧ (L.jrn.ents.head?).map (·.body) = some
    { e with era := eraOf s.live.rcd e }.image ∧
    { L with rcd := s.live.rcd, jrn := s.live.jrn, com := s.live.com, twin := s.live.twin, free := s.live.free } = s.live)) ∧
  (∀ (s : State), (s.live.rcd.intake = [] ∨ s.live.mayCommit = false) → exec .recordCommit s = .next s) ∧
  (∀ (s : State) (e : Rec), s.live.powered = true → s.live.rcd.freeze = none → s.live.rcd.repPending = [e] → Answers .repeatUpdate
    s (fun L => L.rcd.slot e.seq = e.image ∧ (L.rcd.slots.filter (fun x => x.1 != e.seq % 65536) = s.live.rcd.slots.filter (fun x
    => x.1 != e.seq % 65536)) ∧ L.rcd.repPending = [] ∧ L.rcd.last = s.live.rcd.last ∧ L.rcd.intake = s.live.rcd.intake ∧
    L.rcd.nextSeq = s.live.rcd.nextSeq ∧ L.rcd.newest = s.live.rcd.newest ∧ { L with rcd := s.live.rcd, com := s.live.com } =
    s.live)) ∧
  (∀ (s : State), (s.live.rcd.repPending = [] ∨ s.live.rcd.freeze.isSome = true) → exec .repeatUpdate s = .next s) ∧
  (∀ (s : State) (sess : Sess), Granted sess 1 s.live → s.live.rcd.freeze = none → s.live.rcd.noFreeze = false → Answers
    (.recorderCmdFreeze sess) s (fun L => L.rcd.freeze = some (s.live.time.clk + sec 10, sess) ∧ L.rcd.slots = s.live.rcd.slots ∧
    L.rcd.nextSeq = (s.live.rcd.nextSeq + 1) % 2 ^ 32 ∧
    { L with ks := s.live.ks, out := s.live.out, rcd := s.live.rcd, mgr := s.live.mgr, dbg := s.live.dbg, obj := s.live.obj, com := s.live.com, cap := s.live.cap, twin := { L.twin with bulk := s.live.twin.bulk, fwdSeq := s.live.twin.fwdSeq } }
    = s.live)) ∧
  (∀ (s : State) (sess : Sess) (t : Nat), Granted sess 1 s.live → s.live.rcd.freeze = some (t, sess) → Answers (.recorderCmdRelease
    sess) s (fun L => L.rcd.freeze = none ∧ Replied sess 0 L ∧ L.rcd.slots = s.live.rcd.slots ∧
    { L with ks := s.live.ks, out := s.live.out, rcd := s.live.rcd, mgr := s.live.mgr, dbg := s.live.dbg, com := { L.com with num := s.live.com.num, bus := s.live.com.bus }, twin := { L.twin with bulk := s.live.twin.bulk, fwdSeq := s.live.twin.fwdSeq } }
    = s.live)) ∧
  (∀ (s : State) (t : Nat) (sess : Sess), s.live.powered = true → s.live.rcd.freeze = some (t, sess) → Answers .freezeTimeout s
    (fun L => L.rcd.freeze = none ∧ L.time.clk = max s.live.time.clk t ∧ L.rcd.slots = s.live.rcd.slots ∧
    { L with rcd := s.live.rcd, time := { L.time with clk := s.live.time.clk, mtime := s.live.time.mtime, cyc := s.live.time.cyc, frac := s.live.time.frac } }
    = s.live)) ∧
  (∀ (s : State), s.live.rcd.freeze = none → exec .freezeTimeout s = .next s) ∧
  (∀ (s : State) (sess : Sess), Granted sess 3 s.live → s.live.rcd.freeze = none → s.live.getN 0x404001 = 0 → s.live.rcd.eraHeld =
    false → Answers (.recorderCmdClear sess) s (fun L => L.rcd.eraHeld = true ∧ L.rcd.eraSess = sess ∧ L.rcd.era = s.live.rcd.era ∧
    L.rcd.slots = s.live.rcd.slots ∧ Replied sess 0 L ∧
    { L with ks := s.live.ks, out := s.live.out, rcd := s.live.rcd, mgr := s.live.mgr, dbg := s.live.dbg, com := { L.com with num := s.live.com.num, bus := s.live.com.bus }, twin := { L.twin with bulk := s.live.twin.bulk, fwdSeq := s.live.twin.fwdSeq } }
    = s.live)) ∧
  (∀ (s : State) (sess : Sess), Granted sess 3 s.live → (s.live.rcd.freeze.isSome = true ∨ s.live.getN 0x404001 ≠ 0 ∨
    s.live.rcd.eraHeld = true) → Answers (.recorderCmdClear sess) s (fun L => L.rcd = s.live.rcd ∧ Replied sess 0x08000022 L ∧
    { L with ks := s.live.ks, out := s.live.out, mgr := s.live.mgr, dbg := s.live.dbg, com := { L.com with num := s.live.com.num, bus := s.live.com.bus }, twin := { L.twin with bulk := s.live.twin.bulk, fwdSeq := s.live.twin.fwdSeq } }
    = s.live))

/-- The manager's bay epoch (01 R22, R23; 13 R341 to R354). -/
def Obligations.BaySummariesAndSnapshots : Prop :=
  (∀ (s : State), Works 4 s.live → s.live.com.bus.length = 2 → s.live.mgr.own ≠ [] → le s.live.mgr.own 0 4 = bayEpoch
    s.live.time.mtime % 2 ^ 32 → s.live.time.mtime % ms 100 ≤ 400000 * (s.live.lower - 1) → (s.live.hasPartner &&
    !s.live.twin.holds) = false → s.live.mayTalk = true → s.live.mgr.lead = false → Answers .summarySend s (fun L => (L.can
    0).tx.getLast?.map (·.f) = some (fdFrame (s.live.bootN 0x500006 + s.live.lower) s.live.mgr.own) ∧ (L.can 1).tx.getLast?.map
    (·.f) = some (fdFrame (s.live.bootN 0x500006 + s.live.lower) s.live.mgr.own) ∧ (L.can 0).tb = (s.live.can 0).tb ∧ L.mgr.own =
    [] ∧ L.time.mtime % ms 100 = 400000 * (s.live.lower - 1) ∧ s.live.time.mtime ≤ L.time.mtime ∧
    { L with com := s.live.com, time := s.live.time, mgr := { L.mgr with own := s.live.mgr.own } } = s.live)) ∧
  (∀ (s : State), Works 4 s.live → s.live.mgr.own = [] → Answers .summarySend s (fun L => L.out = s.live.out ∧
    { L with time := s.live.time } = s.live)) ∧
  (∀ (s : State), Works 4 s.live → s.live.mgr.lead = false → ((s.live.hasPartner && !s.live.twin.holds) = true ∨ s.live.mayTalk =
    false) → Answers .summarySend s (fun L => (L.mgr.own = [] ∨ L.mgr.own = s.live.mgr.own) ∧
    { L with mgr := { L.mgr with own := s.live.mgr.own }, time := s.live.time } = s.live)) ∧
  (∀ (s : State), Works 4 s.live → s.live.mgr.lead = true → s.live.mgr.own ≠ [] → le s.live.mgr.own 0 4 = bayEpoch
    s.live.time.mtime % 2 ^ 32 → s.live.time.mtime % ms 100 ≤ 400000 * (s.live.lower - 1) → Answers .summarySend s (fun L =>
    L.mgr.own = [] ∧ (s.live.lower = 1 ∧ s.live.mgr.own.length = 48 ∧ s.live.mgr.deadlineOf ≠ some (bayEpoch s.live.time.mtime) →
    L.hasSummary 1 (bayEpoch s.live.time.mtime) = true) ∧
    { L with mgr := s.live.mgr, time := s.live.time, twin := { L.twin with bulk := s.live.twin.bulk, fwdSeq := s.live.twin.fwdSeq } }
    = s.live)) ∧
  (∀ (s : State) (n : Nat) (frame : Bytes), Works 4 s.live → s.live.mgr.lead = true → 1 ≤ n → n ≤ 33 → frame.length = 48 → le frame
    0 4 = bayEpoch s.live.time.mtime % 2 ^ 32 → s.live.time.mtime % 100000000 ≤ 20000000 → s.live.mgr.deadlineOf ≠ some (bayEpoch
    s.live.time.mtime) → s.live.hasSummary n (bayEpoch s.live.time.mtime) = false → (s.live.mgr.strings.filter (fun x => x.n !=
    1)).length < 31 → Answers (.summaryRx n frame) s (fun L => ((L.mgr.strings.find? (fun x => x.n == n)).map (·.summary) = some
    frame) ∧ (L.mgr.strings.filter (fun x => x.n != n) = s.live.mgr.strings.filter (fun x => x.n != n)) ∧
    { L with mgr := { L.mgr with strings := s.live.mgr.strings, notices := s.live.mgr.notices }, twin := { L.twin with bulk := s.live.twin.bulk } }
    = s.live)) ∧
  (∀ (s : State) (n : Nat) (frame : Bytes), (s.live.mgr.lead = false ∨ n = 0 ∨ 33 < n ∨ frame.length ≠ 48 ∨ le frame 0 4 ≠ bayEpoch
    s.live.time.mtime % 2 ^ 32 ∨ 20000000 < s.live.time.mtime % 100000000 ∨ s.live.hasSummary n (bayEpoch s.live.time.mtime) =
    true) → exec (.summaryRx n frame) s = .next s) ∧
  (∀ (s : State), Works 4 s.live → s.live.mgr.lead = true → s.live.mgr.deadlineOf ≠ some (bayEpoch s.live.time.mtime) → Answers
    .summaryDeadline s (fun L => L.mgr.strings.map (·.n) = s.live.mgr.strings.map (·.n) ∧ (L.mgr.strings.map (·.stale) =
    s.live.mgr.strings.map (fun x => if le x.summary 0 4 = bayEpoch s.live.time.mtime % 2 ^ 32 then 0 else x.stale + 1)) ∧
    L.mgr.strings.map (·.summary) = s.live.mgr.strings.map (·.summary) ∧ L.mgr.deadlineOf = some (bayEpoch s.live.time.mtime) ∧
    { L with mgr := s.live.mgr, rcd := s.live.rcd, obj := s.live.obj, com := s.live.com, dbg := s.live.dbg, cap := s.live.cap } =
    s.live)) ∧
  (∀ (s : State), (s.live.mgr.lead = false ∨ s.live.mgr.deadlineOf = some (bayEpoch s.live.time.mtime)) → exec .summaryDeadline s =
    .next s) ∧
  (∀ (s : State), Works 4 s.live → s.live.com.bus.length = 2 → s.live.mgr.lead = true → s.live.mayTalk = true → (∀ m ∈
    s.live.mgr.sent, m < bayEpoch s.live.time.mtime) → Answers .baySnapshotSend s (fun L => L.mgr.sent = some (bayEpoch
    L.time.mtime) ∧ L.time.mtime % ms 100 = ms 30 ∧ s.live.time.mtime ≤ L.time.mtime ∧ L.time.mtime < s.live.time.mtime + ms 100 ∧
    L.mgr.snapHeld.map (·.length) = some 64 ∧ (L.mgr.snapHeld.map (fun b => le b 0 4) = some (bayEpoch L.time.mtime % 2 ^ 32)) ∧ 3
    ≤ (L.can 0).tx.length - (s.live.can 0).tx.length ∧ 3 ≤ (L.can 1).tx.length - (s.live.can 1).tx.length ∧ L.mgr.strings.map
    (·.summary) = s.live.mgr.strings.map (·.summary) ∧
    { L with mgr := s.live.mgr, com := s.live.com, rcd := s.live.rcd, obj := s.live.obj, jrn := s.live.jrn, twin := s.live.twin, conv := { L.conv with dispHeld := s.live.conv.dispHeld }, free := s.live.free, dbg := s.live.dbg, cap := s.live.cap, mode := s.live.mode, saf := s.live.saf, pins := s.live.pins, time := s.live.time }
    = s.live)) ∧
  (∀ (s : State), (s.live.mgr.lead = false ∨ s.live.mayTalk = false) → Answers .baySnapshotSend s (fun L => L.mgr = s.live.mgr ∧
    { L with time := s.live.time } = s.live)) ∧
  (∀ (s : State) (frame : Bytes), Works 4 s.live → s.live.mgr.lead = false → frame.length = 64 → Answers (.baySnapshotRx frame) s
    (fun L => L.mgr.snapHeld = some frame ∧ L.mgr.snapAt = some (s.live.time.mtime, s.live.time.clk) ∧
    { L with mgr := { L.mgr with snapHeld := s.live.mgr.snapHeld, snapAt := s.live.mgr.snapAt } } = s.live)) ∧
  (∀ (s : State) (frame : Bytes), frame.length ≠ 64 → exec (.baySnapshotRx frame) s = .next s) ∧
  (∀ (s : State) (frame : Bytes), Works 4 s.live → s.live.mgr.lead = false → s.live.getN 0x200007 ≠ 1 → frame.length = 48 → 1 ≤
    s.live.lower → byteAt frame 4 = (s.live.lower - 1) / 20 → newerTag (le frame 0 4) s.live.conv.dispTag = true → newerTag (le
    frame 0 4) (s.live.conv.dispHeld.map (·.1)) = true → Answers (.dispatchStepRx frame) s (fun L => L.conv.dispHeld = some (le
    frame 0 4, leS frame (8 + 2 * ((s.live.lower - 1) % 20)) 2) ∧
    { L with conv := { L.conv with dispHeld := s.live.conv.dispHeld } } = s.live)) ∧
  (∀ (s : State) (frame : Bytes), (s.live.mgr.lead = true ∨ s.live.getN 0x200007 = 1 ∨ frame.length ≠ 48 ∨ newerTag (le frame 0 4)
    s.live.conv.dispTag = false) → exec (.dispatchStepRx frame) s = .next s) ∧
  (∀ (s : State), Works 4 s.live → s.live.mgr.lead = true → s.live.getN 0x500040 ≠ 0 → (∀ m ∈ s.live.mgr.dpSent, m < bayEpoch
    s.live.time.mtime) → Answers .dataPlaneSend s (fun L => L.out.length = s.live.out.length + 2 ∧ L.out.drop 2 = s.live.out ∧
    L.mgr.dpSeq = s.live.mgr.dpSeq + 2 ∧ L.mgr.dpSent = some (bayEpoch L.time.mtime) ∧ L.time.mtime % ms 100 = ms 35 ∧
    s.live.time.mtime ≤ L.time.mtime ∧ L.time.mtime < s.live.time.mtime + ms 100 ∧
    { L with out := s.live.out, mgr := { L.mgr with dpSeq := s.live.mgr.dpSeq, dpSent := s.live.mgr.dpSent }, time := s.live.time }
    = s.live)) ∧
  (∀ (s : State), (s.live.mgr.lead = false ∨ s.live.getN 0x500040 = 0) → Answers .dataPlaneSend s (fun L => L.out = s.live.out ∧
    { L with time := s.live.time } = s.live))

/-- Site time (13 R338 to R340). -/
def Obligations.SiteTimeByPtp : Prop :=
  (∀ (s : State) (a : Announce), Works 4 s.live → s.live.online = true → a.domain = s.live.getN 0x500024 → a.ptpTimescale = true →
    s.live.mgr.ptp.master = none → Answers (.ptpAnnounceRx a) s (fun L => L.mgr.ptp.master = some (a, s.live.time.clk) ∧
    L.mgr.ptp.sync = none ∧ L.mgr.ptp.t12 = none ∧ L.mgr.ptp.req = none ∧ L.mgr.ptp.delay = none ∧ L.mgr.ptp.locked = false ∧
    L.getN 0x500025 = 0 ∧ SameObjects [0x500025] L s.live ∧
    { L with mgr := { L.mgr with ptp := s.live.mgr.ptp }, obj := s.live.obj } = s.live)) ∧
  (∀ (s : State) (a : Announce), Works 4 s.live → s.live.online = true → a.domain = s.live.getN 0x500024 → a.ptpTimescale = false →
    Answers (.ptpAnnounceRx a) s (fun L => (L.mgr.ptp.master = (if s.live.mgr.ptp.master.map (fun m => m.1.identity) = some
    a.identity then none else s.live.mgr.ptp.master)) ∧ L.time = s.live.time ∧ L.mgr.ptp.refused.contains a.identity = true ∧
    { L with mgr := { L.mgr with ptp := s.live.mgr.ptp }, rcd := s.live.rcd, obj := s.live.obj, com := s.live.com, dbg := s.live.dbg, cap := s.live.cap }
    = s.live)) ∧
  (∀ (s : State) (a : Announce), (s.live.online = false ∨ a.domain ≠ s.live.getN 0x500024) → exec (.ptpAnnounceRx a) s = .next s) ∧
  (∀ (s : State) (identity : Bytes) (seq : Nat) (origin : Int) (correction : Int) (rx : Int), Works 4 s.live → s.live.fromMaster
    identity = true → Answers (.ptpSyncRx identity seq true origin correction rx) s (fun L => L.mgr.ptp.sync = some (seq,
    correction, rx) ∧ L.mgr.ptp.t12 = s.live.mgr.ptp.t12 ∧ { L with mgr := { L.mgr with ptp := s.live.mgr.ptp } } = s.live)) ∧
  (∀ (s : State) (identity : Bytes) (seq : Nat) (origin : Int) (correction : Int) (rx : Int), Works 4 s.live → s.live.fromMaster
    identity = true → Answers (.ptpSyncRx identity seq false origin correction rx) s (fun L => L.mgr.ptp.t12 = some (origin +
    correction - 946684800000000000, rx) ∧ L.mgr.ptp.sync = none ∧ (∀ d ∈ s.live.mgr.ptp.delay, L.get 0x500026 = max (-2147483648)
    (min 2147483647 (rx - (origin + correction - 946684800000000000 + d)))) ∧ (s.live.mgr.ptp.delay = none → L.time = s.live.time ∧
    L.obj = s.live.obj) ∧
    { L with mgr := { L.mgr with ptp := s.live.mgr.ptp }, obj := s.live.obj, time := s.live.time, rcd := s.live.rcd, com := s.live.com, dbg := s.live.dbg, cap := s.live.cap }
    = s.live)) ∧
  (∀ (s : State) (identity : Bytes) (seq : Nat) (twoStep : Bool) (origin : Int) (correction : Int) (rx : Int), s.live.fromMaster
    identity = false → exec (.ptpSyncRx identity seq twoStep origin correction rx) s = .next s) ∧
  (∀ (s : State) (identity : Bytes) (seq : Nat) (origin : Int) (correction : Int) (c0 : Int) (rx : Int), Works 4 s.live →
    s.live.fromMaster identity = true → s.live.mgr.ptp.sync = some (seq, c0, rx) → Answers (.ptpFollowUpRx identity seq origin
    correction) s (fun L => L.mgr.ptp.t12 = some (origin + c0 + correction - 946684800000000000, rx) ∧ L.mgr.ptp.sync = none ∧
    { L with mgr := { L.mgr with ptp := s.live.mgr.ptp }, obj := s.live.obj, time := s.live.time, rcd := s.live.rcd, com := s.live.com, dbg := s.live.dbg, cap := s.live.cap }
    = s.live)) ∧
  (∀ (s : State) (identity : Bytes) (seq : Nat) (origin : Int) (correction : Int), (s.live.mgr.ptp.sync.map (·.1)) ≠ some seq →
    exec (.ptpFollowUpRx identity seq origin correction) s = .next s) ∧
  (∀ (s : State) (tx : Int), Works 4 s.live → s.live.online = true → s.live.mgr.ptp.t12.isSome = true → Answers (.ptpDelayReqSend
    tx) s (fun L => L.mgr.ptp.req = some (s.live.mgr.ptp.reqSeq, tx) ∧ L.mgr.ptp.reqSeq = (s.live.mgr.ptp.reqSeq + 1) % 65536 ∧
    L.out.length = s.live.out.length + 1 ∧ { L with out := s.live.out, mgr := { L.mgr with ptp := s.live.mgr.ptp } } = s.live)) ∧
  (∀ (s : State) (tx : Int), (s.live.online = false ∨ s.live.mgr.ptp.t12 = none) → exec (.ptpDelayReqSend tx) s = .next s) ∧
  (∀ (s : State) (seq : Nat) (receive : Int) (correction : Int) (t1 : Int) (t2 : Int) (t3 : Int), Works 4 s.live → s.live.online =
    true → s.live.mgr.ptp.req = some (seq, t3) → s.live.mgr.ptp.t12 = some (t1, t2) → Answers (.ptpDelayRespRx seq receive
    correction) s (fun L => L.mgr.ptp.delay = some (roundQ (q ((t2 - t1) + (receive - correction - 946684800000000000 - t3)) / 2))
    ∧ L.mgr.ptp.req = none ∧ { L with mgr := { L.mgr with ptp := s.live.mgr.ptp } } = s.live)) ∧
  (∀ (s : State) (seq : Nat) (receive : Int) (correction : Int), s.live.mgr.ptp.req.map (·.1) ≠ some seq → exec (.ptpDelayRespRx
    seq receive correction) s = .next s) ∧
  (∀ (s : State), Works 4 s.live → s.live.mgr.lead = true → s.live.followsSite = true → s.live.time.synced = true → (s.live.getN
    0x220002 = 1 ∨ s.live.getN 0x220002 = 2) → Answers .siteTimeHoldover s (fun L => L.getN 0x220002 = 3 ∧ L.time.clk = max
    s.live.time.clk (s.live.mgr.ptp.lastSync + sec 5) ∧ L.time.lockCount = 0 ∧
    { L with time := { L.time with clk := s.live.time.clk, mtime := s.live.time.mtime, cyc := s.live.time.cyc, frac := s.live.time.frac, lockCount := s.live.time.lockCount, holdAt := s.live.time.holdAt }, obj := s.live.obj, rcd := s.live.rcd, com := s.live.com, dbg := s.live.dbg, cap := s.live.cap }
    = s.live)) ∧
  (∀ (s : State), (s.live.mgr.lead = false ∨ s.live.time.synced = false) → exec .siteTimeHoldover s = .next s) ∧
  (∀ (s : State), Works 4 s.live → s.live.mgr.lead = true → s.live.time.synced = false → s.live.mgr.ptp.master = none → bitOf
    (s.live.getN 0x500025) 2 = false → Answers .siteTimeWaitExpiry s (fun L => L.getN 0x500025 = 4 ∧ L.time.clk = max
    s.live.time.clk (s.live.mode.bootClk + sec (s.live.getN 0x500029)) ∧
    { L with time := { L.time with clk := s.live.time.clk, mtime := s.live.time.mtime, cyc := s.live.time.cyc, frac := s.live.time.frac }, obj := s.live.obj, rcd := s.live.rcd, com := s.live.com, dbg := s.live.dbg, cap := s.live.cap }
    = s.live)) ∧
  (∀ (s : State), (s.live.mgr.lead = false ∨ s.live.time.synced = true) → exec .siteTimeWaitExpiry s = .next s) ∧
  (∀ (s : State) (sess : Sess) (time : Nat), Granted sess 3 s.live → s.live.isManager = true → s.live.mgr.lead = true →
    s.live.time.synced = false → s.live.time.firstPending = false → time < 2 ^ 63 → Answers (.manualModuleTime sess time) s (fun L
    => L.time.stepPending = ((time : Int) - s.live.time.mtime).tdiv 10000 * 10000 ∧ L.time.firstPending = true ∧ Replied sess 0 L ∧
    { L with ks := s.live.ks, out := s.live.out, time := { L.time with stepPending := s.live.time.stepPending, firstPending := s.live.time.firstPending }, mgr := s.live.mgr, dbg := s.live.dbg, rcd := s.live.rcd, obj := s.live.obj, com := s.live.com, cap := s.live.cap, twin := { L.twin with bulk := s.live.twin.bulk, fwdSeq := s.live.twin.fwdSeq } }
    = s.live)) ∧
  (∀ (s : State) (sess : Sess) (time : Nat), Served sess 0 s.live → s.live.isManager = false → Answers (.manualModuleTime sess
    time) s (fun L => Replied sess 0x06020000 L ∧ L.time = s.live.time ∧
    { L with ks := s.live.ks, out := s.live.out, mgr := s.live.mgr, dbg := s.live.dbg, com := { L.com with num := s.live.com.num, bus := s.live.com.bus } }
    = s.live))

/-- Ethernet and Modbus (13 R350 to R356). -/
def Obligations.EthernetAndModbus : Prop :=
  (∀ (s : State) (link : Fin 3), Works 4 s.live → s.live.online = true → Answers (.ethernetLinkChange link) s (fun L => L.getN
    0x500023 = link.val ∧ (s.live.getN 0x500023 = link.val → L.rcd.raised = s.live.rcd.raised) ∧
    { L with obj := s.live.obj, rcd := s.live.rcd, com := s.live.com, dbg := s.live.dbg, cap := s.live.cap } = s.live)) ∧
  (∀ (s : State) (link : Fin 3), s.live.online = false → exec (.ethernetLinkChange link) s = .next s) ∧
  (∀ (s : State) (ip : Nat), Works 4 s.live → s.live.netUp = true → ip = s.live.bootN 0x500020 → Answers (.arpRequest ip) s (fun L
    => L.out.length = s.live.out.length + 1 ∧ L.out.drop 1 = s.live.out ∧ { L with out := s.live.out } = s.live)) ∧
  (∀ (s : State) (ip : Nat), (s.live.netUp = false ∨ ip ≠ s.live.bootN 0x500020) → exec (.arpRequest ip) s = .next s) ∧
  (∀ (s : State) (ip : Nat) (ident : Nat) (seq : Nat) (data : Bytes), Works 4 s.live → s.live.netUp = true → Answers
    (.icmpEchoRequest ip ident seq data) s (fun L => L.out = .eth 1 ip 0 ([0, 0] ++ beBytes 2 (inetSum ([0, 0, 0, 0] ++ beBytes 2
    ident ++ beBytes 2 seq ++ data)) ++ beBytes 2 ident ++ beBytes 2 seq ++ data) :: s.live.out ∧ { L with out := s.live.out } =
    s.live)) ∧
  (∀ (s : State) (ip : Nat) (ident : Nat) (seq : Nat) (data : Bytes), s.live.netUp = false → exec (.icmpEchoRequest ip ident seq
    data) s = .next s) ∧
  (∀ (s : State) (client : Nat) (i : Fin 8), Works 4 s.live → s.live.netUp = true → s.live.mgr.conns.length = 8 →
    (s.live.mgr.conns.getD i none).isNone = true → (∀ j : Fin 8, j < i → (s.live.mgr.conns.getD j none).isNone = false) →
    s.live.clientLevel client ≠ 0xFF → Answers (.modbusConnect client) s (fun L => L.mgr.conns = s.live.mgr.conns.set i (some
    { client := client, level := s.live.clientLevel client }) ∧ L.levelOf (mbSess i) = s.live.clientLevel client ∧
    { L with mgr := { L.mgr with conns := s.live.mgr.conns }, ks := s.live.ks } = s.live)) ∧
  (∀ (s : State) (client : Nat), Works 4 s.live → s.live.netUp = true → ((∀ j : Fin 8, (s.live.mgr.conns.getD j none).isNone =
    false) ∨ s.live.clientLevel client = 0xFF) → Answers (.modbusConnect client) s (fun L => L.mgr = s.live.mgr ∧
    { L with rcd := s.live.rcd, obj := s.live.obj, com := s.live.com, dbg := s.live.dbg, cap := s.live.cap } = s.live)) ∧
  (∀ (s : State) (conn : Fin 8), Works 4 s.live → s.live.mgr.conns.length = 8 → (s.live.mgr.conns.getD conn none).isSome = true →
    Answers (.modbusConnectionClose conn) s (fun L => L.mgr.conns = s.live.mgr.conns.set conn none ∧ L.session (mbSess conn) = none
    ∧ (L.ks.edit.all (fun e => e.owner != mbSess conn) = true) ∧
    { L with mgr := { L.mgr with conns := s.live.mgr.conns }, ks := { L.ks with sessions := s.live.ks.sessions, edit := s.live.ks.edit } }
    = s.live)) ∧
  (∀ (s : State) (conn : Fin 8) (code : Nat), Works 4 s.live → (s.live.mgr.conns.getD conn none).isSome = true → Answers
    (.modbusUnsupportedFunction conn code) s (fun L => L.out = .modbus conn (leBytes 1 (code % 128 + 128) ++ leBytes 1 1) ::
    s.live.out ∧ { L with out := s.live.out, ks := s.live.ks } = s.live)) ∧
  (∀ (s : State) (conn : Fin 8) (start : Nat) (count : Nat), s.live.mgr.conns.getD conn none = none → exec (.readInputRegisters
    conn start count) s = .next s) ∧
  (∀ (s : State) (conn : Fin 8) (start : Nat) (count : Nat), Works 4 s.live → (s.live.mgr.conns.getD conn none).isSome = true →
    Answers (.readInputRegisters conn start count) s (fun L => (L.out = .modbus conn (if count = 0 ∨ 125 < count then [0x84, 3]
    else match allRegs (inputReg s.snap) start count with | some rs => mbReply 4 rs | none => [0x84, 2]) :: s.live.out) ∧
    { L with out := s.live.out, ks := s.live.ks } = s.live)) ∧
  (∀ (s : State) (conn : Fin 8), Works 4 s.live → (s.live.mgr.conns.getD conn none).isSome = true → Answers (.readHoldingRegisters
    conn 0 2) s (fun L => L.out = .modbus conn (mbReply 3 [ofSigned 32 (s.snap.get 0x500001) % 65536, ofSigned 32 (s.snap.get
    0x500001) / 65536]) :: s.live.out ∧ { L with out := s.live.out, ks := s.live.ks } = s.live)) ∧
  (∀ (s : State) (conn : Fin 8) (start : Nat) (count : Nat), Works 4 s.live → (s.live.mgr.conns.getD conn none).isSome = true →
    (count = 0 ∨ 125 < count ∨ 15 < start ∧ 48 < start + count) → Answers (.readHoldingRegisters conn start count) s (fun L =>
    (L.out = .modbus conn [0x83, if count = 0 ∨ 125 < count then 3 else 2] :: s.live.out) ∧
    { L with out := s.live.out, ks := s.live.ks } = s.live)) ∧
  (∀ (s : State) (conn : Fin 8) (c0 : MbConn) (value : Nat), Works 4 s.live → s.live.mgr.conns.length = 8 → s.live.mgr.conns.getD
    conn none = some c0 → Answers (.writeSingleRegister conn 10 value) s (fun L => L.mgr.conns = s.live.mgr.conns.set conn (some
    { c0 with index := value % 65536 }) ∧ L.out = .modbus conn (leBytes 1 6 ++ beBytes 2 10 ++ beBytes 2 (value % 65536)) ::
    s.live.out ∧ { L with out := s.live.out, ks := s.live.ks, mgr := { L.mgr with conns := s.live.mgr.conns } } = s.live)) ∧
  (∀ (s : State) (conn : Fin 8) (reg : Nat) (value : Nat), Works 4 s.live → (s.live.mgr.conns.getD conn none).isSome = true → 17 ≤
    reg → Answers (.writeSingleRegister conn reg value) s (fun L => L.out = .modbus conn [0x86, 2] :: s.live.out ∧
    { L with out := s.live.out, ks := s.live.ks } = s.live)) ∧
  (∀ (s : State) (conn : Fin 8) (c0 : MbConn) (index : Nat) (sub : Nat), Works 4 s.live → s.live.mgr.conns.length = 8 →
    s.live.mgr.conns.getD conn none = some c0 → Answers (.writeMultipleRegisters conn 10 [index, sub]) s (fun L => L.mgr.conns =
    s.live.mgr.conns.set conn (some { c0 with index := index % 65536, sub := sub % 65536 % 256 }) ∧ L.out = .modbus conn (leBytes 1
    16 ++ beBytes 2 10 ++ beBytes 2 2) :: s.live.out ∧
    { L with out := s.live.out, ks := s.live.ks, mgr := { L.mgr with conns := s.live.mgr.conns } } = s.live)) ∧
  (∀ (s : State) (conn : Fin 8) (start : Nat) (values : List Nat), Works 4 s.live → (s.live.mgr.conns.getD conn none).isSome = true
    → (values = [] ∨ 123 < values.length) → Answers (.writeMultipleRegisters conn start values) s (fun L => L.out = .modbus conn
    [0x90, 3] :: s.live.out ∧ { L with out := s.live.out, ks := s.live.ks } = s.live)) ∧
  (∀ (s : State) (conn : Fin 8), Works 4 s.live → (s.live.mgr.conns.getD conn none).isSome = true → Answers
    (.readDeviceIdentification conn) s (fun L => L.out.length = s.live.out.length + 1 ∧ L.out.drop 1 = s.live.out ∧
    { L with out := s.live.out, ks := s.live.ks } = s.live))

/-- The bit instructions of the logic engine (14 R366). -/
def Obligations.LogicBitInstructions : Prop :=
  (∀ (s : State) (o : BitOp), Works 3 s.live → loadOk (.ldb o) = true → Answers (.ldb o) s (fun L => L.lgc.vm =
    { s.live.lgc.vm with ba := s.live.lgc.loadBit o, cyc := s.live.lgc.vm.cyc + 2, pc := s.live.lgc.vm.pc + 1 } ∧
    { L with lgc := { L.lgc with vm := s.live.lgc.vm } } = s.live)) ∧
  (∀ (s : State) (o : BitOp), Works 3 s.live → loadOk (.andb o) = true → Answers (.andb o) s (fun L => L.lgc.vm =
    { s.live.lgc.vm with ba := (s.live.lgc.vm.ba && s.live.lgc.loadBit o), cyc := s.live.lgc.vm.cyc + 2, pc := s.live.lgc.vm.pc + 1 }
    ∧ { L with lgc := { L.lgc with vm := s.live.lgc.vm } } = s.live)) ∧
  (∀ (s : State) (o : BitOp), Works 3 s.live → loadOk (.orb o) = true → Answers (.orb o) s (fun L => L.lgc.vm =
    { s.live.lgc.vm with ba := (s.live.lgc.vm.ba || s.live.lgc.loadBit o), cyc := s.live.lgc.vm.cyc + 2, pc := s.live.lgc.vm.pc + 1 }
    ∧ { L with lgc := { L.lgc with vm := s.live.lgc.vm } } = s.live)) ∧
  (∀ (s : State), Works 3 s.live → Answers .notb s (fun L => L.lgc.vm =
    { s.live.lgc.vm with ba := (!s.live.lgc.vm.ba), cyc := s.live.lgc.vm.cyc + 1, pc := s.live.lgc.vm.pc + 1 } ∧
    { L with lgc := { L.lgc with vm := s.live.lgc.vm } } = s.live)) ∧
  (∀ (s : State), Works 3 s.live → Answers .pushb s (fun L => L.lgc.vm =
    { s.live.lgc.vm with bst := s.live.lgc.vm.ba :: s.live.lgc.vm.bst, cyc := s.live.lgc.vm.cyc + 1, pc := s.live.lgc.vm.pc + 1 } ∧
    { L with lgc := { L.lgc with vm := s.live.lgc.vm } } = s.live)) ∧
  (∀ (s : State) (b : Bool) (rest : List Bool), Works 3 s.live → s.live.lgc.vm.bst = b :: rest → Answers .popand s (fun L =>
    L.lgc.vm =
    { s.live.lgc.vm with ba := (b && s.live.lgc.vm.ba), bst := rest, cyc := s.live.lgc.vm.cyc + 1, pc := s.live.lgc.vm.pc + 1 } ∧
    { L with lgc := { L.lgc with vm := s.live.lgc.vm } } = s.live)) ∧
  (∀ (s : State) (b : Bool) (rest : List Bool), Works 3 s.live → s.live.lgc.vm.bst = b :: rest → Answers .popor s (fun L =>
    L.lgc.vm =
    { s.live.lgc.vm with ba := (b || s.live.lgc.vm.ba), bst := rest, cyc := s.live.lgc.vm.cyc + 1, pc := s.live.lgc.vm.pc + 1 } ∧
    { L with lgc := { L.lgc with vm := s.live.lgc.vm } } = s.live)) ∧
  (∀ (s : State) (o : BitOp), Works 3 s.live → loadOk (.stb o) = true → Answers (.stb o) s (fun L => SameBytes (spaceBase o.space +
    o.addr) 1 L.lgc.vm.mem s.live.lgc.vm.mem ∧ (s.live.lgc.forces = [] ∧ Memory.wf s.live.lgc.vm.mem = true → memByte L.lgc.vm.mem
    (spaceBase o.space + o.addr) = BitVec.ofNat 8 (setBit (memByte s.live.lgc.vm.mem (spaceBase o.space + o.addr)).toNat o.bit
    (s.live.lgc.vm.ba != o.inv))) ∧ L.lgc.vm =
    { s.live.lgc.vm with mem := L.lgc.vm.mem, cyc := s.live.lgc.vm.cyc + 3, pc := s.live.lgc.vm.pc + 1 } ∧
    { L with lgc := { L.lgc with vm := s.live.lgc.vm } } = s.live)) ∧
  (∀ (s : State) (o : BitOp), Works 3 s.live → loadOk (.setb o) = true → Answers (.setb o) s (fun L => SameBytes (spaceBase o.space
    + o.addr) 1 L.lgc.vm.mem s.live.lgc.vm.mem ∧ (s.live.lgc.forces = [] ∧ Memory.wf s.live.lgc.vm.mem = true ∧ s.live.lgc.vm.ba =
    true → memByte L.lgc.vm.mem (spaceBase o.space + o.addr) = BitVec.ofNat 8 (setBit (memByte s.live.lgc.vm.mem (spaceBase o.space
    + o.addr)).toNat o.bit (true != o.inv))) ∧ (s.live.lgc.vm.ba = false → L.lgc.vm.mem = s.live.lgc.vm.mem) ∧ L.lgc.vm =
    { s.live.lgc.vm with mem := L.lgc.vm.mem, cyc := s.live.lgc.vm.cyc + 3, pc := s.live.lgc.vm.pc + 1 } ∧
    { L with lgc := { L.lgc with vm := s.live.lgc.vm } } = s.live)) ∧
  (∀ (s : State) (o : BitOp), Works 3 s.live → loadOk (.rstb o) = true → Answers (.rstb o) s (fun L => SameBytes (spaceBase o.space
    + o.addr) 1 L.lgc.vm.mem s.live.lgc.vm.mem ∧ (s.live.lgc.forces = [] ∧ Memory.wf s.live.lgc.vm.mem = true ∧ s.live.lgc.vm.ba =
    true → memByte L.lgc.vm.mem (spaceBase o.space + o.addr) = BitVec.ofNat 8 (setBit (memByte s.live.lgc.vm.mem (spaceBase o.space
    + o.addr)).toNat o.bit (false != o.inv))) ∧ (s.live.lgc.vm.ba = false → L.lgc.vm.mem = s.live.lgc.vm.mem) ∧ L.lgc.vm =
    { s.live.lgc.vm with mem := L.lgc.vm.mem, cyc := s.live.lgc.vm.cyc + 3, pc := s.live.lgc.vm.pc + 1 } ∧
    { L with lgc := { L.lgc with vm := s.live.lgc.vm } } = s.live))

/-- The word instructions of the logic engine (14 R366). -/
def Obligations.LogicWordInstructions : Prop :=
  (∀ (s : State) (o : WordOp), Works 3 s.live → loadOk (.ld o) = true → Answers (.ld o) s (fun L => L.lgc.vm =
    { s.live.lgc.vm with acc := s.live.lgc.loadWord o, cyc := s.live.lgc.vm.cyc + 3, pc := s.live.lgc.vm.pc + 1 } ∧
    { L with lgc := { L.lgc with vm := s.live.lgc.vm } } = s.live)) ∧
  (∀ (s : State) (imm : BitVec 24), Works 3 s.live → Answers (.ldi imm) s (fun L => L.lgc.vm =
    { s.live.lgc.vm with acc := imm.toInt, cyc := s.live.lgc.vm.cyc + 1, pc := s.live.lgc.vm.pc + 1 } ∧
    { L with lgc := { L.lgc with vm := s.live.lgc.vm } } = s.live)) ∧
  (∀ (s : State) (imm : BitVec 24), Works 3 s.live → loadOk (.ldhi imm) = true → Answers (.ldhi imm) s (fun L => L.lgc.vm =
    { s.live.lgc.vm with acc := toSigned 32 (ofSigned 32 s.live.lgc.vm.acc % 2 ^ 24 + 2 ^ 24 * imm.toNat), cyc := s.live.lgc.vm.cyc + 1, pc := s.live.lgc.vm.pc + 1 }
    ∧ { L with lgc := { L.lgc with vm := s.live.lgc.vm } } = s.live)) ∧
  (∀ (s : State) (o : WordOp), Works 3 s.live → loadOk (.add o) = true → Answers (.add o) s (fun L => (L.lgc.vm =
    { s.live.lgc.vm with acc := max minI32 (min maxI32 (s.live.lgc.vm.acc + s.live.lgc.loadWord o)), flags := (if max minI32 (min maxI32 (s.live.lgc.vm.acc + s.live.lgc.loadWord o)) = s.live.lgc.vm.acc + s.live.lgc.loadWord o then s.live.lgc.vm.flags else setBit s.live.lgc.vm.flags 0 true), cyc := s.live.lgc.vm.cyc + 3, pc := s.live.lgc.vm.pc + 1 })
    ∧ { L with lgc := { L.lgc with vm := s.live.lgc.vm } } = s.live)) ∧
  (∀ (s : State) (o : WordOp), Works 3 s.live → loadOk (.sub o) = true → Answers (.sub o) s (fun L => (L.lgc.vm =
    { s.live.lgc.vm with acc := max minI32 (min maxI32 (s.live.lgc.vm.acc - s.live.lgc.loadWord o)), flags := (if max minI32 (min maxI32 (s.live.lgc.vm.acc - s.live.lgc.loadWord o)) = s.live.lgc.vm.acc - s.live.lgc.loadWord o then s.live.lgc.vm.flags else setBit s.live.lgc.vm.flags 0 true), cyc := s.live.lgc.vm.cyc + 3, pc := s.live.lgc.vm.pc + 1 })
    ∧ { L with lgc := { L.lgc with vm := s.live.lgc.vm } } = s.live)) ∧
  (∀ (s : State) (o : WordOp), Works 3 s.live → loadOk (.mul o) = true → Answers (.mul o) s (fun L => (L.lgc.vm =
    { s.live.lgc.vm with acc := max minI32 (min maxI32 (s.live.lgc.vm.acc * s.live.lgc.loadWord o)), flags := (if max minI32 (min maxI32 (s.live.lgc.vm.acc * s.live.lgc.loadWord o)) = s.live.lgc.vm.acc * s.live.lgc.loadWord o then s.live.lgc.vm.flags else setBit s.live.lgc.vm.flags 0 true), cyc := s.live.lgc.vm.cyc + 5, pc := s.live.lgc.vm.pc + 1 })
    ∧ { L with lgc := { L.lgc with vm := s.live.lgc.vm } } = s.live)) ∧
  (∀ (s : State) (o : WordOp), Works 3 s.live → loadOk (.div o) = true → Answers (.div o) s (fun L => (s.live.lgc.loadWord o = 0 →
    L.lgc.vm =
    { s.live.lgc.vm with acc := 0, flags := setBit s.live.lgc.vm.flags 1 true, cyc := s.live.lgc.vm.cyc + 24, pc := s.live.lgc.vm.pc + 1 })
    ∧ (s.live.lgc.loadWord o ≠ 0 → L.lgc.vm =
    { s.live.lgc.vm with acc := max minI32 (min maxI32 (s.live.lgc.vm.acc.tdiv (s.live.lgc.loadWord o))), flags := (if max minI32 (min maxI32 (s.live.lgc.vm.acc.tdiv (s.live.lgc.loadWord o))) = s.live.lgc.vm.acc.tdiv (s.live.lgc.loadWord o) then s.live.lgc.vm.flags else setBit s.live.lgc.vm.flags 0 true), cyc := s.live.lgc.vm.cyc + 24, pc := s.live.lgc.vm.pc + 1 })
    ∧ { L with lgc := { L.lgc with vm := s.live.lgc.vm } } = s.live)) ∧
  (∀ (s : State) (imm : BitVec 24), Works 3 s.live → Answers (.addi imm) s (fun L => (L.lgc.vm =
    { s.live.lgc.vm with acc := max minI32 (min maxI32 (s.live.lgc.vm.acc + imm.toInt)), flags := (if max minI32 (min maxI32 (s.live.lgc.vm.acc + imm.toInt)) = s.live.lgc.vm.acc + imm.toInt then s.live.lgc.vm.flags else setBit s.live.lgc.vm.flags 0 true), cyc := s.live.lgc.vm.cyc + 1, pc := s.live.lgc.vm.pc + 1 })
    ∧ { L with lgc := { L.lgc with vm := s.live.lgc.vm } } = s.live)) ∧
  (∀ (s : State) (o : WordOp), Works 3 s.live → loadOk (.and o) = true → Answers (.and o) s (fun L => L.lgc.vm =
    { s.live.lgc.vm with acc := toSigned 32 (ofSigned 32 s.live.lgc.vm.acc &&& ofSigned 32 (s.live.lgc.loadWord o)), cyc := s.live.lgc.vm.cyc + 3, pc := s.live.lgc.vm.pc + 1 }
    ∧ { L with lgc := { L.lgc with vm := s.live.lgc.vm } } = s.live)) ∧
  (∀ (s : State) (o : WordOp), Works 3 s.live → loadOk (.or o) = true → Answers (.or o) s (fun L => L.lgc.vm =
    { s.live.lgc.vm with acc := toSigned 32 (ofSigned 32 s.live.lgc.vm.acc ||| ofSigned 32 (s.live.lgc.loadWord o)), cyc := s.live.lgc.vm.cyc + 3, pc := s.live.lgc.vm.pc + 1 }
    ∧ { L with lgc := { L.lgc with vm := s.live.lgc.vm } } = s.live)) ∧
  (∀ (s : State) (imm : BitVec 24), Works 3 s.live → loadOk (.shl imm) = true → Answers (.shl imm) s (fun L => L.lgc.vm =
    { s.live.lgc.vm with acc := toSigned 32 (ofSigned 32 s.live.lgc.vm.acc * 2 ^ imm.toNat), cyc := s.live.lgc.vm.cyc + 1, pc := s.live.lgc.vm.pc + 1 }
    ∧ { L with lgc := { L.lgc with vm := s.live.lgc.vm } } = s.live)) ∧
  (∀ (s : State) (imm : BitVec 24), Works 3 s.live → Answers (.shr imm) s (fun L => L.lgc.vm =
    { s.live.lgc.vm with acc := s.live.lgc.vm.acc.fdiv (2 ^ (imm.toNat % 32)), cyc := s.live.lgc.vm.cyc + 1, pc := s.live.lgc.vm.pc + 1 }
    ∧ { L with lgc := { L.lgc with vm := s.live.lgc.vm } } = s.live)) ∧
  (∀ (s : State) (o : WordOp), Works 3 s.live → loadOk (.min o) = true → Answers (.min o) s (fun L => L.lgc.vm =
    { s.live.lgc.vm with acc := min s.live.lgc.vm.acc (s.live.lgc.loadWord o), cyc := s.live.lgc.vm.cyc + 3, pc := s.live.lgc.vm.pc + 1 }
    ∧ { L with lgc := { L.lgc with vm := s.live.lgc.vm } } = s.live)) ∧
  (∀ (s : State) (o : WordOp), Works 3 s.live → loadOk (.max o) = true → Answers (.max o) s (fun L => L.lgc.vm =
    { s.live.lgc.vm with acc := max s.live.lgc.vm.acc (s.live.lgc.loadWord o), cyc := s.live.lgc.vm.cyc + 3, pc := s.live.lgc.vm.pc + 1 }
    ∧ { L with lgc := { L.lgc with vm := s.live.lgc.vm } } = s.live)) ∧
  (∀ (s : State) (o : WordOp), Works 3 s.live → loadOk (.eq o) = true → Answers (.eq o) s (fun L => L.lgc.vm =
    { s.live.lgc.vm with ba := decide (s.live.lgc.vm.acc = s.live.lgc.loadWord o), cyc := s.live.lgc.vm.cyc + 3, pc := s.live.lgc.vm.pc + 1 }
    ∧ { L with lgc := { L.lgc with vm := s.live.lgc.vm } } = s.live)) ∧
  (∀ (s : State) (o : WordOp), Works 3 s.live → loadOk (.ne o) = true → Answers (.ne o) s (fun L => L.lgc.vm =
    { s.live.lgc.vm with ba := decide (s.live.lgc.vm.acc ≠ s.live.lgc.loadWord o), cyc := s.live.lgc.vm.cyc + 3, pc := s.live.lgc.vm.pc + 1 }
    ∧ { L with lgc := { L.lgc with vm := s.live.lgc.vm } } = s.live)) ∧
  (∀ (s : State) (o : WordOp), Works 3 s.live → loadOk (.lt o) = true → Answers (.lt o) s (fun L => L.lgc.vm =
    { s.live.lgc.vm with ba := decide (s.live.lgc.vm.acc < s.live.lgc.loadWord o), cyc := s.live.lgc.vm.cyc + 3, pc := s.live.lgc.vm.pc + 1 }
    ∧ { L with lgc := { L.lgc with vm := s.live.lgc.vm } } = s.live)) ∧
  (∀ (s : State) (o : WordOp), Works 3 s.live → loadOk (.gt o) = true → Answers (.gt o) s (fun L => L.lgc.vm =
    { s.live.lgc.vm with ba := decide (s.live.lgc.loadWord o < s.live.lgc.vm.acc), cyc := s.live.lgc.vm.cyc + 3, pc := s.live.lgc.vm.pc + 1 }
    ∧ { L with lgc := { L.lgc with vm := s.live.lgc.vm } } = s.live)) ∧
  (∀ (s : State) (o : WordOp), Works 3 s.live → loadOk (.st o) = true → Answers (.st o) s (fun L => SameBytes (spaceBase o.space +
    o.addr) (2 ^ o.width) L.lgc.vm.mem s.live.lgc.vm.mem ∧ (s.live.lgc.forces = [] ∧ Memory.wf s.live.lgc.vm.mem = true → memBytes
    L.lgc.vm.mem (spaceBase o.space + o.addr) (2 ^ o.width) = leBytes (2 ^ o.width) (ofSigned (8 * 2 ^ o.width) (max (wordRange
    o).1 (min (wordRange o).2 s.live.lgc.vm.acc)))) ∧ (L.lgc.vm =
    { s.live.lgc.vm with mem := L.lgc.vm.mem, flags := (if o.width < 2 ∧ max (wordRange o).1 (min (wordRange o).2 s.live.lgc.vm.acc) ≠ s.live.lgc.vm.acc then setBit s.live.lgc.vm.flags 2 true else s.live.lgc.vm.flags), cyc := s.live.lgc.vm.cyc + 3, pc := s.live.lgc.vm.pc + 1 })
    ∧ { L with lgc := { L.lgc with vm := s.live.lgc.vm } } = s.live))

/-- The control instructions of the logic engine (14 R366, R367). -/
def Obligations.LogicControlInstructions : Prop :=
  (∀ (s : State), Works 3 s.live → Answers .nop s (fun L => L.lgc.vm =
    { s.live.lgc.vm with cyc := s.live.lgc.vm.cyc + 1, pc := s.live.lgc.vm.pc + 1 } ∧
    { L with lgc := { L.lgc with vm := s.live.lgc.vm } } = s.live)) ∧
  (∀ (s : State) (target : BitVec 24), Works 3 s.live → loadOk (.jmp target) = true → Answers (.jmp target) s (fun L => L.lgc.vm =
    { s.live.lgc.vm with pc := target.toNat, cyc := s.live.lgc.vm.cyc + 2 } ∧ { L with lgc := { L.lgc with vm := s.live.lgc.vm } }
    = s.live)) ∧
  (∀ (s : State) (target : BitVec 24), Works 3 s.live → loadOk (.jmpt target) = true → Answers (.jmpt target) s (fun L => (L.lgc.vm
    = { s.live.lgc.vm with pc := if s.live.lgc.vm.ba then target.toNat else s.live.lgc.vm.pc + 1, cyc := s.live.lgc.vm.cyc + 2 }) ∧
    { L with lgc := { L.lgc with vm := s.live.lgc.vm } } = s.live)) ∧
  (∀ (s : State) (target : BitVec 24), Works 3 s.live → loadOk (.jmpf target) = true → Answers (.jmpf target) s (fun L => (L.lgc.vm
    = { s.live.lgc.vm with pc := if s.live.lgc.vm.ba then s.live.lgc.vm.pc + 1 else target.toNat, cyc := s.live.lgc.vm.cyc + 2 }) ∧
    { L with lgc := { L.lgc with vm := s.live.lgc.vm } } = s.live)) ∧
  (∀ (s : State) (imm : BitVec 24), Works 3 s.live → loadOk (.loop imm) = true → Answers (.loop imm) s (fun L => L.lgc.vm =
    { s.live.lgc.vm with loops := (s.live.lgc.vm.pc + 1, imm.toNat) :: s.live.lgc.vm.loops, cyc := s.live.lgc.vm.cyc + 3, pc := s.live.lgc.vm.pc + 1 }
    ∧ { L with lgc := { L.lgc with vm := s.live.lgc.vm } } = s.live)) ∧
  (∀ (s : State) (first : Nat) (n : Nat) (rest : List (Nat × Nat)), Works 3 s.live → s.live.lgc.vm.loops = (first, n) :: rest →
    Answers .next s (fun L => (2 ≤ n → L.lgc.vm =
    { s.live.lgc.vm with loops := (first, n - 1) :: rest, pc := first, cyc := s.live.lgc.vm.cyc + 3 }) ∧ (n ≤ 1 → L.lgc.vm =
    { s.live.lgc.vm with loops := rest, pc := s.live.lgc.vm.pc + 1, cyc := s.live.lgc.vm.cyc + 3 }) ∧
    { L with lgc := { L.lgc with vm := s.live.lgc.vm } } = s.live)) ∧
  (∀ (s : State) (target : BitVec 24), Works 3 s.live → loadOk (.call target) = true → Answers (.call target) s (fun L => L.lgc.vm
    =
    { s.live.lgc.vm with calls := (s.live.lgc.vm.pc + 1) :: s.live.lgc.vm.calls, pc := target.toNat, cyc := s.live.lgc.vm.cyc + 4 }
    ∧ { L with lgc := { L.lgc with vm := s.live.lgc.vm } } = s.live)) ∧
  (∀ (s : State) (k : Nat) (rest : List Nat), Works 3 s.live → s.live.lgc.vm.calls = k :: rest → Answers .ret s (fun L => L.lgc.vm
    = { s.live.lgc.vm with calls := rest, pc := k, cyc := s.live.lgc.vm.cyc + 4 } ∧
    { L with lgc := { L.lgc with vm := s.live.lgc.vm } } = s.live)) ∧
  (∀ (s : State), Works 3 s.live → Answers .end_ s (fun L => L.lgc.vm =
    { s.live.lgc.vm with ended := true, cyc := s.live.lgc.vm.cyc + 1, pc := s.live.lgc.vm.pc + 1 } ∧
    { L with lgc := { L.lgc with vm := s.live.lgc.vm } } = s.live))

/-- The function blocks of the logic engine (14 R368, R369). -/
def Obligations.LogicTimersCountersEdges : Prop :=
  (∀ (s : State) (o : BlockOp), Works 3 s.live → loadOk (.ton o) = true → Answers (.ton o) s (fun L => SameBytes (instAt o) 16
    L.lgc.vm.mem s.live.lgc.vm.mem ∧ L.lgc.vm =
    { s.live.lgc.vm with mem := L.lgc.vm.mem, ba := (timerAfter tonStep s.live.lgc o).q, acc := (timerAfter tonStep s.live.lgc o).et, cyc := s.live.lgc.vm.cyc + 24, pc := s.live.lgc.vm.pc + 1 }
    ∧ (s.live.lgc.forces = [] ∧ Memory.wf s.live.lgc.vm.mem = true → memBytes L.lgc.vm.mem (instAt o) 16 = memBytes
    s.live.lgc.vm.mem (instAt o) 4 ++ leBytes 4 (ofSigned 32 (timerAfter tonStep s.live.lgc o).et) ++ leBytes 4 (timerAfter tonStep
    s.live.lgc o).start ++ [BitVec.ofNat 8 ((memByte s.live.lgc.vm.mem (instAt o + 12)).toNat / 16 * 16 + ofBits [s.live.lgc.vm.ba,
    (timerAfter tonStep s.live.lgc o).q, (timerAfter tonStep s.live.lgc o).run, s.live.lgc.vm.ba]), BitVec.ofNat 8 (setBit (memByte
    s.live.lgc.vm.mem (instAt o + 13)).toNat 0 false)] ++ memBytes s.live.lgc.vm.mem (instAt o + 14) 2) ∧
    { L with lgc := { L.lgc with vm := s.live.lgc.vm } } = s.live)) ∧
  (∀ (s : State) (o : BlockOp), Works 3 s.live → loadOk (.tof o) = true → Answers (.tof o) s (fun L => SameBytes (instAt o) 16
    L.lgc.vm.mem s.live.lgc.vm.mem ∧ L.lgc.vm =
    { s.live.lgc.vm with mem := L.lgc.vm.mem, ba := (timerAfter tofStep s.live.lgc o).q, acc := (timerAfter tofStep s.live.lgc o).et, cyc := s.live.lgc.vm.cyc + 24, pc := s.live.lgc.vm.pc + 1 }
    ∧ (s.live.lgc.forces = [] ∧ Memory.wf s.live.lgc.vm.mem = true → memBytes L.lgc.vm.mem (instAt o) 16 = memBytes
    s.live.lgc.vm.mem (instAt o) 4 ++ leBytes 4 (ofSigned 32 (timerAfter tofStep s.live.lgc o).et) ++ leBytes 4 (timerAfter tofStep
    s.live.lgc o).start ++ [BitVec.ofNat 8 ((memByte s.live.lgc.vm.mem (instAt o + 12)).toNat / 16 * 16 + ofBits [s.live.lgc.vm.ba,
    (timerAfter tofStep s.live.lgc o).q, (timerAfter tofStep s.live.lgc o).run, s.live.lgc.vm.ba]), BitVec.ofNat 8 (setBit (memByte
    s.live.lgc.vm.mem (instAt o + 13)).toNat 0 false)] ++ memBytes s.live.lgc.vm.mem (instAt o + 14) 2) ∧
    { L with lgc := { L.lgc with vm := s.live.lgc.vm } } = s.live)) ∧
  (∀ (s : State) (o : BlockOp), Works 3 s.live → loadOk (.tp o) = true → Answers (.tp o) s (fun L => SameBytes (instAt o) 16
    L.lgc.vm.mem s.live.lgc.vm.mem ∧ L.lgc.vm =
    { s.live.lgc.vm with mem := L.lgc.vm.mem, ba := (timerAfter tpStep s.live.lgc o).q, acc := (timerAfter tpStep s.live.lgc o).et, cyc := s.live.lgc.vm.cyc + 24, pc := s.live.lgc.vm.pc + 1 }
    ∧ (s.live.lgc.forces = [] ∧ Memory.wf s.live.lgc.vm.mem = true → memBytes L.lgc.vm.mem (instAt o) 16 = memBytes
    s.live.lgc.vm.mem (instAt o) 4 ++ leBytes 4 (ofSigned 32 (timerAfter tpStep s.live.lgc o).et) ++ leBytes 4 (timerAfter tpStep
    s.live.lgc o).start ++ [BitVec.ofNat 8 ((memByte s.live.lgc.vm.mem (instAt o + 12)).toNat / 16 * 16 + ofBits [s.live.lgc.vm.ba,
    (timerAfter tpStep s.live.lgc o).q, (timerAfter tpStep s.live.lgc o).run, s.live.lgc.vm.ba]), BitVec.ofNat 8 (setBit (memByte
    s.live.lgc.vm.mem (instAt o + 13)).toNat 0 false)] ++ memBytes s.live.lgc.vm.mem (instAt o + 14) 2) ∧
    { L with lgc := { L.lgc with vm := s.live.lgc.vm } } = s.live)) ∧
  (∀ (s : State) (o : BlockOp), Works 3 s.live → loadOk (.ctu o) = true → Answers (.ctu o) s (fun L => SameBytes (instAt o) 16
    L.lgc.vm.mem s.live.lgc.vm.mem ∧ (L.lgc.vm.acc = if bitOf (s.live.lgc.instBits o).1 2 then 0 else if (s.live.lgc.vm.ba && !(if
    (s.live.lgc.instBits o).2 then s.live.lgc.vm.ba else bitOf (s.live.lgc.instBits o).1 6)) then count (s.live.lgc.instI o 4) 1
    else s.live.lgc.instI o 4) ∧ L.lgc.vm.ba = decide (s.live.lgc.instI o 0 ≤ L.lgc.vm.acc) ∧ (s.live.lgc.forces = [] ∧ Memory.wf
    s.live.lgc.vm.mem = true → memBytes L.lgc.vm.mem (instAt o) 12 = memBytes s.live.lgc.vm.mem (instAt o) 4 ++ leBytes 4 (ofSigned
    32 L.lgc.vm.acc) ++ memBytes s.live.lgc.vm.mem (instAt o + 8) 4) ∧ L.lgc.vm =
    { s.live.lgc.vm with mem := L.lgc.vm.mem, ba := L.lgc.vm.ba, acc := L.lgc.vm.acc, cyc := s.live.lgc.vm.cyc + 24, pc := s.live.lgc.vm.pc + 1 }
    ∧ { L with lgc := { L.lgc with vm := s.live.lgc.vm } } = s.live)) ∧
  (∀ (s : State) (o : BlockOp), Works 3 s.live → loadOk (.ctd o) = true → Answers (.ctd o) s (fun L => SameBytes (instAt o) 16
    L.lgc.vm.mem s.live.lgc.vm.mem ∧ (L.lgc.vm.acc = if bitOf (s.live.lgc.instBits o).1 3 then s.live.lgc.instI o 0 else if
    (s.live.lgc.vm.ba && !(if (s.live.lgc.instBits o).2 then s.live.lgc.vm.ba else bitOf (s.live.lgc.instBits o).1 7)) then count
    (s.live.lgc.instI o 4) (-1) else s.live.lgc.instI o 4) ∧ L.lgc.vm.ba = decide (L.lgc.vm.acc ≤ 0) ∧ (s.live.lgc.forces = [] ∧
    Memory.wf s.live.lgc.vm.mem = true → memBytes L.lgc.vm.mem (instAt o) 12 = memBytes s.live.lgc.vm.mem (instAt o) 4 ++ leBytes 4
    (ofSigned 32 L.lgc.vm.acc) ++ memBytes s.live.lgc.vm.mem (instAt o + 8) 4) ∧ L.lgc.vm =
    { s.live.lgc.vm with mem := L.lgc.vm.mem, ba := L.lgc.vm.ba, acc := L.lgc.vm.acc, cyc := s.live.lgc.vm.cyc + 24, pc := s.live.lgc.vm.pc + 1 }
    ∧ { L with lgc := { L.lgc with vm := s.live.lgc.vm } } = s.live)) ∧
  (∀ (s : State) (o : BlockOp), Works 3 s.live → loadOk (.ctud o) = true → Answers (.ctud o) s (fun L => SameBytes (instAt o) 16
    L.lgc.vm.mem s.live.lgc.vm.mem ∧ (L.lgc.vm.acc = if bitOf (s.live.lgc.instBits o).1 2 then 0 else if bitOf (s.live.lgc.instBits
    o).1 3 then s.live.lgc.instI o 0 else if ((s.live.lgc.vm.ba && !(if (s.live.lgc.instBits o).2 then s.live.lgc.vm.ba else bitOf
    (s.live.lgc.instBits o).1 6)) && !(bitOf (s.live.lgc.instBits o).1 1 && !(if (s.live.lgc.instBits o).2 then bitOf
    (s.live.lgc.instBits o).1 1 else bitOf (s.live.lgc.instBits o).1 7))) then count (s.live.lgc.instI o 4) 1 else if ((bitOf
    (s.live.lgc.instBits o).1 1 && !(if (s.live.lgc.instBits o).2 then bitOf (s.live.lgc.instBits o).1 1 else bitOf
    (s.live.lgc.instBits o).1 7)) && !(s.live.lgc.vm.ba && !(if (s.live.lgc.instBits o).2 then s.live.lgc.vm.ba else bitOf
    (s.live.lgc.instBits o).1 6))) then count (s.live.lgc.instI o 4) (-1) else s.live.lgc.instI o 4) ∧ L.lgc.vm.ba = decide
    (s.live.lgc.instI o 0 ≤ L.lgc.vm.acc) ∧ (s.live.lgc.forces = [] ∧ Memory.wf s.live.lgc.vm.mem = true → memBytes L.lgc.vm.mem
    (instAt o) 12 = memBytes s.live.lgc.vm.mem (instAt o) 4 ++ leBytes 4 (ofSigned 32 L.lgc.vm.acc) ++ memBytes s.live.lgc.vm.mem
    (instAt o + 8) 4) ∧ L.lgc.vm =
    { s.live.lgc.vm with mem := L.lgc.vm.mem, ba := L.lgc.vm.ba, acc := L.lgc.vm.acc, cyc := s.live.lgc.vm.cyc + 24, pc := s.live.lgc.vm.pc + 1 }
    ∧ { L with lgc := { L.lgc with vm := s.live.lgc.vm } } = s.live)) ∧
  (∀ (s : State) (o : BlockOp), Works 3 s.live → loadOk (.rTrig o) = true → Answers (.rTrig o) s (fun L => SameBytes (instAt o) 16
    L.lgc.vm.mem s.live.lgc.vm.mem ∧ (L.lgc.vm =
    { s.live.lgc.vm with mem := L.lgc.vm.mem, ba := (s.live.lgc.vm.ba && !(if (s.live.lgc.instBits o).2 then s.live.lgc.vm.ba else bitOf (s.live.lgc.instBits o).1 2)), cyc := s.live.lgc.vm.cyc + 24, pc := s.live.lgc.vm.pc + 1 })
    ∧ (s.live.lgc.forces = [] ∧ Memory.wf s.live.lgc.vm.mem = true → memBytes L.lgc.vm.mem (instAt o) 12 = memBytes
    s.live.lgc.vm.mem (instAt o) 12 ∧ memByte L.lgc.vm.mem (instAt o + 13) = BitVec.ofNat 8 (setBit (memByte s.live.lgc.vm.mem
    (instAt o + 13)).toNat 0 false)) ∧ { L with lgc := { L.lgc with vm := s.live.lgc.vm } } = s.live)) ∧
  (∀ (s : State) (o : BlockOp), Works 3 s.live → loadOk (.fTrig o) = true → Answers (.fTrig o) s (fun L => SameBytes (instAt o) 16
    L.lgc.vm.mem s.live.lgc.vm.mem ∧ (L.lgc.vm =
    { s.live.lgc.vm with mem := L.lgc.vm.mem, ba := ((if (s.live.lgc.instBits o).2 then s.live.lgc.vm.ba else bitOf (s.live.lgc.instBits o).1 2) && !s.live.lgc.vm.ba), cyc := s.live.lgc.vm.cyc + 24, pc := s.live.lgc.vm.pc + 1 })
    ∧ (s.live.lgc.forces = [] ∧ Memory.wf s.live.lgc.vm.mem = true → memBytes L.lgc.vm.mem (instAt o) 12 = memBytes
    s.live.lgc.vm.mem (instAt o) 12 ∧ memByte L.lgc.vm.mem (instAt o + 13) = BitVec.ofNat 8 (setBit (memByte s.live.lgc.vm.mem
    (instAt o + 13)).toNat 0 false)) ∧ { L with lgc := { L.lgc with vm := s.live.lgc.vm } } = s.live))

/-- Messages, events and the load check (14 R365, R374, R385). -/
def Obligations.LogicMessagesAndLoadCheck : Prop :=
  (∀ (s : State) (o : WordOp), Works 3 s.live → loadOk (.msgrx o) = true → Answers (.msgrx o) s (fun L => (s.live.lgc.latched = []
    → L.lgc.vm.ba = false ∧ L.lgc.vm.mem = s.live.lgc.vm.mem ∧ L.com = s.live.com) ∧ (∀ x ∈ s.live.lgc.latched.head?, L.lgc.vm.ba =
    true ∧ L.lgc.latched = s.live.lgc.latched.drop 1 ∧ L.com.logicRx = s.live.com.logicRx.drop 1 ∧ (s.live.lgc.forces = [] ∧
    Memory.wf s.live.lgc.vm.mem = true ∧ x.2.2.data.length ≤ 64 → memBytes L.lgc.vm.mem (spaceBase o.space + o.addr) 72 = msgBuffer
    x.1 x.2.2)) ∧ SameBytes (spaceBase o.space + o.addr) 72 L.lgc.vm.mem s.live.lgc.vm.mem ∧ L.lgc =
    { s.live.lgc with latched := L.lgc.latched, vm := { s.live.lgc.vm with mem := L.lgc.vm.mem, ba := L.lgc.vm.ba, cyc := s.live.lgc.vm.cyc + 40, pc := s.live.lgc.vm.pc + 1 } }
    ∧ { L with lgc := s.live.lgc, com := { L.com with logicRx := s.live.com.logicRx }, obj := s.live.obj } = s.live)) ∧
  (∀ (s : State) (o : WordOp), Works 3 s.live → loadOk (.msgtx o) = true → Answers (.msgtx o) s (fun L => (s.live.txOk ((List.range
    72).map (fun i => BitVec.ofNat 8 (s.live.lgc.loadByte o.space (o.addr + i)))) = true → L.lgc.vm.ba = true ∧ L.lgc.vm.flags =
    s.live.lgc.vm.flags ∧ L.lgc.vm.outQ = s.live.lgc.vm.outQ ++ [((bufferFrame ((List.range 72).map (fun i => BitVec.ofNat 8
    (s.live.lgc.loadByte o.space (o.addr + i))))).1, s.live.lgc.loadByte o.space (o.addr + 5) % 4, (bufferFrame ((List.range
    72).map (fun i => BitVec.ofNat 8 (s.live.lgc.loadByte o.space (o.addr + i))))).2)]) ∧ (s.live.txOk ((List.range 72).map (fun i
    => BitVec.ofNat 8 (s.live.lgc.loadByte o.space (o.addr + i)))) = false → L.lgc.vm.ba = false ∧ L.lgc.vm.flags = setBit
    s.live.lgc.vm.flags 3 true ∧ L.lgc.vm.outQ = s.live.lgc.vm.outQ) ∧ L.lgc.vm =
    { s.live.lgc.vm with ba := L.lgc.vm.ba, flags := L.lgc.vm.flags, outQ := L.lgc.vm.outQ, cyc := s.live.lgc.vm.cyc + 40, pc := s.live.lgc.vm.pc + 1 }
    ∧ { L with lgc := { L.lgc with vm := s.live.lgc.vm } } = s.live)) ∧
  (∀ (s : State) (cls : Nat) (code : Nat), Works 3 s.live → loadOk (.evt cls code) = true → Answers (.evt cls code) s (fun L =>
    L.lgc.vm = { s.live.lgc.vm with cyc := s.live.lgc.vm.cyc + 20, pc := s.live.lgc.vm.pc + 1 } ∧ L.rcd.raised = s.live.rcd.raised
    + 1 ∧
    { L with lgc := { L.lgc with vm := s.live.lgc.vm }, rcd := s.live.rcd, obj := s.live.obj, com := s.live.com, dbg := s.live.dbg, cap := s.live.cap }
    = s.live)) ∧
  (∀ (s : State) (o : BitOp), loadOk (.ldb o) = false → exec (.ldb o) s = .refused (.refusedAtLoad "LDB")) ∧
  (∀ (s : State) (o : BitOp), loadOk (.andb o) = false → exec (.andb o) s = .refused (.refusedAtLoad "ANDB")) ∧
  (∀ (s : State) (o : BitOp), loadOk (.orb o) = false → exec (.orb o) s = .refused (.refusedAtLoad "ORB")) ∧
  (∀ (s : State) (o : BitOp), loadOk (.stb o) = false → exec (.stb o) s = .refused (.refusedAtLoad "STB")) ∧
  (∀ (s : State) (o : BitOp), loadOk (.setb o) = false → exec (.setb o) s = .refused (.refusedAtLoad "SETB")) ∧
  (∀ (s : State) (o : BitOp), loadOk (.rstb o) = false → exec (.rstb o) s = .refused (.refusedAtLoad "RSTB")) ∧
  (∀ (s : State) (o : WordOp), loadOk (.ld o) = false → exec (.ld o) s = .refused (.refusedAtLoad "LD")) ∧
  (∀ (s : State) (o : WordOp), loadOk (.add o) = false → exec (.add o) s = .refused (.refusedAtLoad "ADD")) ∧
  (∀ (s : State) (o : WordOp), loadOk (.sub o) = false → exec (.sub o) s = .refused (.refusedAtLoad "SUB")) ∧
  (∀ (s : State) (o : WordOp), loadOk (.mul o) = false → exec (.mul o) s = .refused (.refusedAtLoad "MUL")) ∧
  (∀ (s : State) (o : WordOp), loadOk (.div o) = false → exec (.div o) s = .refused (.refusedAtLoad "DIV")) ∧
  (∀ (s : State) (o : WordOp), loadOk (.and o) = false → exec (.and o) s = .refused (.refusedAtLoad "AND")) ∧
  (∀ (s : State) (o : WordOp), loadOk (.or o) = false → exec (.or o) s = .refused (.refusedAtLoad "OR")) ∧
  (∀ (s : State) (o : WordOp), loadOk (.min o) = false → exec (.min o) s = .refused (.refusedAtLoad "MIN")) ∧
  (∀ (s : State) (o : WordOp), loadOk (.max o) = false → exec (.max o) s = .refused (.refusedAtLoad "MAX")) ∧
  (∀ (s : State) (o : WordOp), loadOk (.eq o) = false → exec (.eq o) s = .refused (.refusedAtLoad "EQ")) ∧
  (∀ (s : State) (o : WordOp), loadOk (.ne o) = false → exec (.ne o) s = .refused (.refusedAtLoad "NE")) ∧
  (∀ (s : State) (o : WordOp), loadOk (.lt o) = false → exec (.lt o) s = .refused (.refusedAtLoad "LT")) ∧
  (∀ (s : State) (o : WordOp), loadOk (.gt o) = false → exec (.gt o) s = .refused (.refusedAtLoad "GT")) ∧
  (∀ (s : State) (o : WordOp), loadOk (.st o) = false → exec (.st o) s = .refused (.refusedAtLoad "ST")) ∧
  (∀ (s : State) (o : WordOp), loadOk (.msgrx o) = false → exec (.msgrx o) s = .refused (.refusedAtLoad "MSGRX")) ∧
  (∀ (s : State) (o : WordOp), loadOk (.msgtx o) = false → exec (.msgtx o) s = .refused (.refusedAtLoad "MSGTX")) ∧
  (∀ (s : State) (imm : BitVec 24), loadOk (.ldhi imm) = false → exec (.ldhi imm) s = .refused (.refusedAtLoad "LDHI")) ∧
  (∀ (s : State) (imm : BitVec 24), loadOk (.shl imm) = false → exec (.shl imm) s = .refused (.refusedAtLoad "SHL")) ∧
  (∀ (s : State) (imm : BitVec 24), loadOk (.loop imm) = false → exec (.loop imm) s = .refused (.refusedAtLoad "LOOP")) ∧
  (∀ (s : State) (target : BitVec 24), loadOk (.jmp target) = false → exec (.jmp target) s = .refused (.refusedAtLoad "JMP")) ∧
  (∀ (s : State) (target : BitVec 24), loadOk (.jmpt target) = false → exec (.jmpt target) s = .refused (.refusedAtLoad "JMPT")) ∧
  (∀ (s : State) (target : BitVec 24), loadOk (.jmpf target) = false → exec (.jmpf target) s = .refused (.refusedAtLoad "JMPF")) ∧
  (∀ (s : State) (target : BitVec 24), loadOk (.call target) = false → exec (.call target) s = .refused (.refusedAtLoad "CALL")) ∧
  (∀ (s : State) (o : BlockOp), loadOk (.ton o) = false → exec (.ton o) s = .refused (.refusedAtLoad "TON")) ∧
  (∀ (s : State) (o : BlockOp), loadOk (.tof o) = false → exec (.tof o) s = .refused (.refusedAtLoad "TOF")) ∧
  (∀ (s : State) (o : BlockOp), loadOk (.tp o) = false → exec (.tp o) s = .refused (.refusedAtLoad "TP")) ∧
  (∀ (s : State) (o : BlockOp), loadOk (.ctu o) = false → exec (.ctu o) s = .refused (.refusedAtLoad "CTU")) ∧
  (∀ (s : State) (o : BlockOp), loadOk (.ctd o) = false → exec (.ctd o) s = .refused (.refusedAtLoad "CTD")) ∧
  (∀ (s : State) (o : BlockOp), loadOk (.ctud o) = false → exec (.ctud o) s = .refused (.refusedAtLoad "CTUD")) ∧
  (∀ (s : State) (o : BlockOp), loadOk (.rTrig o) = false → exec (.rTrig o) s = .refused (.refusedAtLoad "R_TRIG")) ∧
  (∀ (s : State) (o : BlockOp), loadOk (.fTrig o) = false → exec (.fTrig o) s = .refused (.refusedAtLoad "F_TRIG")) ∧
  (∀ (s : State) (cls : Nat) (code : Nat), loadOk (.evt cls code) = false → exec (.evt cls code) s = .refused (.refusedAtLoad
    "EVT"))

/-- The scan and the engine's commands (14 R358 to R384). -/
def Obligations.LogicScanAndCommands : Prop :=
  (∀ (s : State), (s.live.logicOn = false ∨ s.live.lgc.due = false) → exec .logicScan s = .next s) ∧
  (∀ (s : State), Works 3 s.live → s.live.logicState = 3 → s.live.lgc.due = true → Answers .logicScan s (fun L => L.lgc.due = false
    ∧ L.lgc.prepared = true ∧ (s.live.lgc.prepared = true → L.lgc.vm = s.live.lgc.vm) ∧ L.lgc.forces = s.live.lgc.forces ∧
    L.lgc.writes = s.live.lgc.writes ∧ { L with lgc := s.live.lgc } = s.live)) ∧
  (∀ (s : State), Works 3 s.live → s.live.logicState = 2 → s.live.lgc.due = true → s.live.lgc.haltReq = true → Answers .logicScan s
    (fun L => L.logicState = 3 ∧ L.lgc.due = false ∧ L.lgc.haltReq = false ∧ L.lgc.vm.pc = 0 ∧ L.lgc.vm.ended = false ∧
    { L with lgc := s.live.lgc, obj := s.live.obj, rcd := s.live.rcd, com := s.live.com, dbg := s.live.dbg, cap := s.live.cap } =
    s.live)) ∧
  (∀ (s : State), Works 3 s.live → s.live.logicState = 2 → s.live.lgc.due = true → s.live.lgc.haltReq = false → Answers .logicScan
    s (fun L => L.lgc.due = false ∧ (L.logicState = 2 ∨ L.logicState = 3) ∧ L.lgc.bank = s.live.lgc.bank ∧ L.lgc.forces =
    s.live.lgc.forces ∧ L.lgc.l = s.live.lgc.l ∧
    { L with lgc := s.live.lgc, obj := s.live.obj, rcd := s.live.rcd, com := s.live.com, dbg := s.live.dbg, cap := s.live.cap, ks := { L.ks with commands := s.live.ks.commands } }
    = s.live)) ∧
  (∀ (s : State), Works 6 s.live → s.live.logicOn = true → Answers .scanOverrun s (fun L => L.logicState = 4 ∧ L.lgc.due = false ∧
    L.lgc.stopped = true ∧ L.lgc.vm.outQ = [] ∧ L.lgc.vm.mem = s.live.lgc.vm.mem ∧
    { L with lgc := s.live.lgc, obj := s.live.obj, rcd := s.live.rcd, com := s.live.com, dbg := s.live.dbg, cap := s.live.cap } =
    s.live)) ∧
  (∀ (s : State), s.live.logicOn = false → exec .scanOverrun s = .next s) ∧
  (∀ (s : State) (sess : Sess), Granted sess 2 s.live → s.live.bankValid s.live.lgc.bank = true → Answers (.logicCmdStart sess) s
    (fun L => L.logicState = 2 ∧ L.lgc.l = 0 ∧ L.lgc.due = true ∧ L.lgc.cold = false ∧ L.lgc.first = true ∧ L.lgc.forces = [] ∧
    L.lgc.bank = s.live.lgc.bank ∧ L.lgc.bankOk = s.live.lgc.bankOk ∧ Replied sess 0 L ∧
    { L with ks := s.live.ks, out := s.live.out, mgr := s.live.mgr, dbg := s.live.dbg, lgc := s.live.lgc, obj := s.live.obj, rcd := s.live.rcd, com := s.live.com, cap := s.live.cap, twin := { L.twin with bulk := s.live.twin.bulk, fwdSeq := s.live.twin.fwdSeq } }
    = s.live)) ∧
  (∀ (s : State) (sess : Sess), Granted sess 2 s.live → s.live.bankValid s.live.lgc.bank = false → Answers (.logicCmdStart sess) s
    (fun L => Replied sess 0x08000022 L ∧
    { L with ks := s.live.ks, out := s.live.out, mgr := s.live.mgr, dbg := s.live.dbg, com := { L.com with num := s.live.com.num, bus := s.live.com.bus }, twin := { L.twin with bulk := s.live.twin.bulk, fwdSeq := s.live.twin.fwdSeq } }
    = s.live)) ∧
  (∀ (s : State) (sess : Sess), Granted sess 2 s.live → s.live.logicOn = true → Answers (.logicCmdStop sess) s (fun L =>
    L.logicState = 1 ∧ L.lgc.due = false ∧ L.lgc.stopped = true ∧ L.lgc.vm.outQ = [] ∧ L.lgc.vm.mem = s.live.lgc.vm.mem ∧ Replied
    sess 0 L ∧
    { L with ks := s.live.ks, out := s.live.out, mgr := s.live.mgr, dbg := s.live.dbg, lgc := s.live.lgc, obj := s.live.obj, rcd := s.live.rcd, com := s.live.com, cap := s.live.cap, twin := { L.twin with bulk := s.live.twin.bulk, fwdSeq := s.live.twin.fwdSeq } }
    = s.live)) ∧
  (∀ (s : State) (sess : Sess), Granted sess 2 s.live → s.live.logicOn = false → Answers (.logicCmdStop sess) s (fun L => Replied
    sess 0x08000022 L ∧
    { L with ks := s.live.ks, out := s.live.out, mgr := s.live.mgr, dbg := s.live.dbg, com := { L.com with num := s.live.com.num, bus := s.live.com.bus }, twin := { L.twin with bulk := s.live.twin.bulk, fwdSeq := s.live.twin.fwdSeq } }
    = s.live)) ∧
  (∀ (s : State) (sess : Sess), Granted sess 2 s.live → s.live.activateRefusal false = 0 → Answers (.logicCmdActivate sess) s (fun
    L => L.lgc.bank = 1 - s.live.lgc.bank ∧ L.lgc.change = true ∧ L.lgc.l = s.live.lgc.l ∧ L.getN 0x440004 = imgId
    (s.live.logicBank (1 - s.live.lgc.bank)) ∧ L.get 0x440005 = s.live.getN 0x440004 ∧ L.logicState = s.live.logicState ∧ Replied
    sess 0 L ∧
    { L with ks := s.live.ks, out := s.live.out, mgr := s.live.mgr, dbg := s.live.dbg, lgc := s.live.lgc, obj := s.live.obj, rcd := s.live.rcd, com := s.live.com, cap := s.live.cap, twin := { L.twin with bulk := s.live.twin.bulk, fwdSeq := s.live.twin.fwdSeq } }
    = s.live)) ∧
  (∀ (s : State) (sess : Sess), Granted sess 2 s.live → s.live.activateRefusal false ≠ 0 → Answers (.logicCmdActivate sess) s (fun
    L => L.lgc = s.live.lgc ∧ Replied sess (s.live.activateRefusal false) L ∧
    { L with ks := s.live.ks, out := s.live.out, mgr := s.live.mgr, dbg := s.live.dbg, obj := s.live.obj, rcd := s.live.rcd, com := s.live.com, cap := s.live.cap, twin := { L.twin with bulk := s.live.twin.bulk, fwdSeq := s.live.twin.fwdSeq } }
    = s.live)) ∧
  (∀ (s : State) (sess : Sess), Granted sess 2 s.live → s.live.lgc.bank ≤ 1 → s.live.lgc.bankOk.length = 2 → Answers
    (.logicCmdEraseInactive sess) s (fun L => L.logicBank (1 - s.live.lgc.bank) = [] ∧ L.bankValid (1 - s.live.lgc.bank) = false ∧
    L.program = s.live.program ∧ L.bankValid s.live.lgc.bank = s.live.bankValid s.live.lgc.bank ∧ L.getN 0x440005 = 0 ∧ L.getN
    0x440006 = 0 ∧ Replied sess 0 L ∧
    { L with ks := s.live.ks, out := s.live.out, mgr := s.live.mgr, dbg := s.live.dbg, lgc := { L.lgc with bankOk := s.live.lgc.bankOk }, obj := s.live.obj, blob := s.live.blob, com := { L.com with num := s.live.com.num, bus := s.live.com.bus }, twin := { L.twin with bulk := s.live.twin.bulk, fwdSeq := s.live.twin.fwdSeq } }
    = s.live)) ∧
  (∀ (s : State) (sess : Sess) (bank : Fin 2) (image : Bytes), Served sess 2 s.live → bank.val ≠ s.live.lgc.bank →
    s.live.upd.replaced = false → s.live.lgc.bankOk.length = 2 → Answers (.logicImageWrite sess bank image) s (fun L => L.logicBank
    bank = image ∧ L.bankValid bank = decide (((s.live.touch sess).checkProgram image).1 = 0) ∧ (L.getN 0x440006 = (if
    ((s.live.touch sess).checkProgram image).1 = 0 then 1 else 2)) ∧ L.lgc.bank = s.live.lgc.bank ∧ Replied sess 0 L ∧
    { L with ks := s.live.ks, out := s.live.out, mgr := s.live.mgr, dbg := s.live.dbg, lgc := { L.lgc with bankOk := s.live.lgc.bankOk }, obj := s.live.obj, blob := s.live.blob, rcd := s.live.rcd, com := s.live.com, cap := s.live.cap, twin := { L.twin with bulk := s.live.twin.bulk, fwdSeq := s.live.twin.fwdSeq } }
    = s.live)) ∧
  (∀ (s : State) (sess : Sess) (bank : Fin 2) (image : Bytes), Served sess 2 s.live → (bank.val = s.live.lgc.bank ∨
    s.live.upd.replaced = true) → Answers (.logicImageWrite sess bank image) s (fun L => Replied sess 0x08000022 L ∧
    { L with ks := s.live.ks, out := s.live.out, mgr := s.live.mgr, dbg := s.live.dbg, com := { L.com with num := s.live.com.num, bus := s.live.com.bus }, twin := { L.twin with bulk := s.live.twin.bulk, fwdSeq := s.live.twin.fwdSeq } }
    = s.live))

/-- Forces (14 R378, R380). -/
def Obligations.LogicForces : Prop :=
  (∀ (s : State) (sess : Sess) (entry : Bytes) (space : Nat) (addr : Nat), Granted sess 2 s.live → entry.length = 16 → le entry 10
    2 = 0 → s.live.forcePlace entry = some (space, addr) → s.live.lgc.forces.length < 64 → Answers (.setForce sess entry) s (fun L
    => L.lgc.forces.getLast?.map (·.entry) = some entry ∧ (L.lgc.forces.getLast?.map (fun f => (f.space, f.addr, f.sess)) = some
    (space, addr, sess)) ∧ (∀ f ∈ L.lgc.forces.dropLast, f ∈ s.live.lgc.forces ∧ f.meets
    { slot := 0, entry := entry, space := space, addr := addr, sess := sess } = false) ∧ L.lgc.vm = s.live.lgc.vm ∧ Replied sess 0
    L ∧
    { L with ks := s.live.ks, out := s.live.out, mgr := s.live.mgr, dbg := s.live.dbg, lgc := { L.lgc with forces := s.live.lgc.forces }, rcd := s.live.rcd, obj := s.live.obj, com := s.live.com, cap := s.live.cap, twin := { L.twin with bulk := s.live.twin.bulk, fwdSeq := s.live.twin.fwdSeq } }
    = s.live)) ∧
  (∀ (s : State) (sess : Sess) (entry : Bytes), Granted sess 2 s.live → entry.length = 16 → le entry 10 2 = 0 → s.live.forcePlace
    entry = none → Answers (.setForce sess entry) s (fun L => Replied sess 0x06090030 L ∧
    { L with ks := s.live.ks, out := s.live.out, mgr := s.live.mgr, dbg := s.live.dbg, com := { L.com with num := s.live.com.num, bus := s.live.com.bus }, twin := { L.twin with bulk := s.live.twin.bulk, fwdSeq := s.live.twin.fwdSeq } }
    = s.live)) ∧
  (∀ (s : State) (sess : Sess) (entry : Nat) (f : Force), Granted sess 2 s.live → entry ≤ 63 → s.live.lgc.forces.find? (fun f =>
    f.slot == entry) = some f → Answers (.releaseForce sess entry) s (fun L => (L.lgc.forces = s.live.lgc.forces.filter (fun h =>
    h.slot != entry)) ∧ L.lgc.vm = s.live.lgc.vm ∧ Replied sess 0 L ∧
    { L with ks := s.live.ks, out := s.live.out, mgr := s.live.mgr, dbg := s.live.dbg, lgc := { L.lgc with forces := s.live.lgc.forces }, rcd := s.live.rcd, obj := s.live.obj, com := s.live.com, cap := s.live.cap, twin := { L.twin with bulk := s.live.twin.bulk, fwdSeq := s.live.twin.fwdSeq } }
    = s.live)) ∧
  (∀ (s : State) (sess : Sess) (entry : Nat), Granted sess 2 s.live → s.live.lgc.forces.find? (fun f => f.slot == entry) = none →
    Answers (.releaseForce sess entry) s (fun L => (Replied sess (if 63 < entry then 0x06090030 else 0x08000022) L) ∧
    { L with ks := s.live.ks, out := s.live.out, mgr := s.live.mgr, dbg := s.live.dbg, com := { L.com with num := s.live.com.num, bus := s.live.com.bus }, twin := { L.twin with bulk := s.live.twin.bulk, fwdSeq := s.live.twin.fwdSeq } }
    = s.live)) ∧
  (∀ (s : State) (sess : Sess), Granted sess 2 s.live → Answers (.logicCmdClearForces sess) s (fun L => L.lgc.forces = [] ∧
    L.lgc.vm = s.live.lgc.vm ∧ Replied sess 0 L ∧
    { L with ks := s.live.ks, out := s.live.out, mgr := s.live.mgr, dbg := s.live.dbg, lgc := { L.lgc with forces := s.live.lgc.forces }, rcd := s.live.rcd, obj := s.live.obj, com := s.live.com, cap := s.live.cap, twin := { L.twin with bulk := s.live.twin.bulk, fwdSeq := s.live.twin.fwdSeq } }
    = s.live))

/-- The Omine link (15 R386 to R399). -/
def Obligations.MirrorFramesAndTheirLoss : Prop :=
  (∀ (s : State), s.live.powered = true → s.live.mode.st ≠ .boot → s.live.unassigned = false → s.live.dbg.halted = 0 →
    (s.live.twin.pair = 2 ∨ s.live.twin.pair = 3) → Answers .mirrorFrameSend s (fun L => L.out = .mirror (s.live.frameHead ++
    s.live.bulkSection.2 ++ leBytes 4 (crc32c (s.live.frameHead ++ s.live.bulkSection.2))) :: s.live.out ∧ L.twin.mine =
    s.live.frameHead ∧ L.twin.bulk.length ≤ s.live.twin.bulk.length ∧
    { L with out := s.live.out, twin := { L.twin with mine := s.live.twin.mine, bulk := s.live.twin.bulk, bseq := s.live.twin.bseq } }
    = s.live)) ∧
  (∀ (s : State), (s.live.powered = false ∨ s.live.mode.st = .boot ∨ s.live.unassigned = true) → exec .mirrorFrameSend s = .next s) ∧
  (∀ (s : State) (frame : Bytes) (primary : Fin 3) (secondary : Fin 3), Works 5 s.live → s.live.dbg.halted = 0 → s.live.unassigned
    = false → (s.live.frameOk frame = false ∨ (primary ≠ 2 ∧ secondary ≠ 2)) → Answers (.mirrorFrameRx frame primary secondary) s
    (fun L => L.twin.p = s.live.twin.p ∧ L.twin.missing = s.live.twin.missing ∧ L.twin.pair = s.live.twin.pair ∧
    { L with twin := { L.twin with dead := s.live.twin.dead }, free := s.live.free, obj := s.live.obj, rcd := s.live.rcd, com := s.live.com, dbg := s.live.dbg, cap := s.live.cap }
    = s.live)) ∧
  (∀ (s : State) (frame : Bytes) (primary : Fin 3) (secondary : Fin 3), s.live.powered = true → s.live.mode.st ≠ .boot →
    s.live.dbg.halted = 0 → s.live.unassigned = false → s.live.frameOk frame = true → (primary = 2 ∨ secondary = 2) →
    s.live.twin.p.cepoch ≠ some (le frame 4 8) → ∃ t, exec (.mirrorFrameRx frame primary secondary) s = .next t ∧
    t.live.twin.p.cepoch = some (le frame 4 8) ∧ t.live.twin.p.node = byteAt frame 2 ∧ t.live.twin.p.pstate = byteAt frame 3 ∧
    t.live.twin.p.kepoch = le frame 12 8 ∧ t.live.twin.p.tgen = byteAt frame 20 ∧ t.live.twin.p.token = byteAt frame 21 ∧
    t.live.twin.p.safe = byteAt frame 22 ∧ t.pending = s.pending) ∧
  (∀ (s : State), s.live.powered = true → s.live.mode.st ≠ .boot → s.live.dbg.halted = 0 → s.live.twin.p.node ≠ 0 →
    s.live.twin.missing ≠ 1 → Answers .mirrorFrameMissing s (fun L => L.twin.missing = min (s.live.twin.missing + 1) 2 ∧
    L.twin.p.healthyRun = 0 ∧ L.twin.pair = s.live.twin.pair ∧ L.twin.holds = s.live.twin.holds ∧ L.getN 0x4A0009 = min
    (s.live.getN 0x4A0009 + 1) (2 ^ 32 - 1) ∧
    { L with twin := { L.twin with dead := s.live.twin.dead, missing := s.live.twin.missing, p := s.live.twin.p }, free := s.live.free, obj := s.live.obj, rcd := s.live.rcd, com := s.live.com, dbg := s.live.dbg, cap := s.live.cap }
    = s.live)) ∧
  (∀ (s : State), s.live.powered = true → s.live.mode.st ≠ .boot → s.live.dbg.halted = 0 → s.live.twin.p.node ≠ 0 →
    s.live.twin.missing = 1 → s.live.twin.holds = true → s.live.twin.pair ≠ 0 → (s.live.pins.aux1 = true ∨ s.live.pins.aux2 = true)
    → ∃ t, exec .mirrorFrameMissing s = .next t ∧ t.live.twin.pair = 0 ∧ t.live.twin.holds = true ∧ t.live.twin.missing = 2 ∧
    t.latched = none ∧ t.pending = s.pending ∧ t.live.mode = s.live.mode ∧ t.live.pins = s.live.pins) ∧
  (∀ (s : State), s.live.powered = true → s.live.mode.st ≠ .boot → s.live.dbg.halted = 0 → s.live.twin.p.node ≠ 0 →
    s.live.twin.missing = 1 → s.live.twin.holds = true → s.live.twin.pair ≠ 0 → (s.live.pins.aux1 = false ∧ s.live.pins.aux2 =
    false) → s.live.pins.holdup = false → s.live.saf.supplyLoss = false → (s.live.driving = true ∨ s.live.mode.st = .standby) → ∃
    t, exec .mirrorFrameMissing s = .next t ∧ t.live.twin.pair = 0 ∧ t.live.mode.st = .safe ∧ t.live.saf.supplyLoss = true ∧
    t.latched = none ∧ t.pending = s.pending) ∧
  (∀ (s : State), s.live.powered = true → s.live.mode.st ≠ .boot → s.live.dbg.halted = 0 → s.live.twin.p.node ≠ 0 →
    s.live.twin.missing = 1 → s.live.twin.holds = false → s.live.twin.pair = 3 → bitOf s.live.twin.p.token 0 = true →
    s.live.twin.wasInStep = true → s.live.healthy = true → s.live.getN 0x404001 = 0 → s.live.saf.obeyed = none → (s.live.pins.aux1
    = true ∨ s.live.pins.aux2 = true) → ∃ t, exec .mirrorFrameMissing s = .next t ∧ t.live.twin.pair = 0 ∧ t.live.twin.holds = true
    ∧ t.live.twin.gen = (s.live.twin.p.tgen + 1) % 256 ∧ t.live.mode.st = s.live.mode.st ∧ t.latched = none ∧ t.pending =
    s.pending) ∧
  (∀ (s : State), (s.live.powered = false ∨ s.live.mode.st = .boot ∨ s.live.twin.p.node = 0) → exec .mirrorFrameMissing s = .next
    s)

/-- Pair check, transfer and handover (15 R388 to R403). -/
def Obligations.PairCheckTransferHandover : Prop :=
  (∀ (s : State) (ownPass : Bool) (partnerPass : Bool), Works 5 s.live → s.live.twin.check = true → s.live.twin.pair = 3 → Answers
    (.pairCheckComplete ownPass partnerPass) s (fun L => L.twin.check = false ∧ L.twin.checkFailed = !ownPass ∧ (L.getN 0x4A0011 =
    (if ownPass then (if s.live.twin.peerPass.getD partnerPass then 1 else 3) else (if s.live.twin.peerPass.getD partnerPass then 2
    else 4))) ∧ (ownPass = true ∧ s.live.twin.peerPass.getD partnerPass = true → L.twin.pair = 2 ∧ L.twin.transferDue = true ∧
    L.mode = s.live.mode ∧ L.twin.holds = s.live.twin.holds) ∧ (s.live.twin.holds = true ∧ ownPass = true ∧
    s.live.twin.peerPass.getD partnerPass = false → L.twin.pair = 2 ∧ L.twin.transferDue = false ∧ L.mode = s.live.mode) ∧
    (s.live.twin.holds = true ∧ ownPass = false ∧ s.live.twin.peerPass.getD partnerPass = true → L.twin.hoReq = true ∧
    L.twin.hoSf12 = true ∧ L.mode = s.live.mode))) ∧
  (∀ (s : State) (ownPass : Bool) (partnerPass : Bool), s.live.twin.check = false → exec (.pairCheckComplete ownPass partnerPass) s
    = .next s) ∧
  (∀ (s : State) (word : Bytes), Works 5 s.live → s.live.fromStandby = true → word.length = 4 → fcrc (word.take 2) = le word 2 2 →
    1 ≤ byteAt word 0 → byteAt word 0 ≤ 13 → s.live.saf.obeyed = none → Answers (.urgentWordRx word) s (fun L => L.saf.obeyed =
    some { d0 := byteAt word 0, bay := bitOf (byteAt word 1) 0, classF := bitOf (byteAt word 1) 1 } ∧ L.time = s.live.time ∧ L.ks =
    s.live.ks)) ∧
  (∀ (s : State) (word : Bytes), Works 5 s.live → word.length = 4 → fcrc (word.take 2) = le word 2 2 → byteAt word 0 = 14 →
    s.live.twin.pair = 3 → s.live.twin.holds = false → s.live.twin.claims = false → s.live.healthy = true → Answers (.urgentWordRx
    word) s (fun L => L.twin.claims = true ∧ L.twin.hoAcc = true ∧ L.twin.hoCount = some 0 ∧ L.twin.gen = (s.live.twin.p.tgen + 1)
    % 256 ∧
    { L with twin := s.live.twin, dbg := s.live.dbg, rcd := s.live.rcd, com := s.live.com, obj := s.live.obj, cap := s.live.cap } =
    s.live)) ∧
  (∀ (s : State) (word : Bytes), (word.length ≠ 4 ∨ fcrc (word.take 2) ≠ le word 2 2 ∨ byteAt word 0 = 0 ∨ 14 < byteAt word 0) →
    exec (.urgentWordRx word) s = .next s) ∧
  (∀ (s : State) (b : Bytes) (t0 : Nat) (e : Nat), s.live.powered = true → s.live.mode.st ≠ .boot → s.live.resyncing = true →
    s.live.twin.image = some b → s.live.twin.transfer = some (t0, e) → ∃ t, exec .stateTransferComplete s = .next t ∧
    (Config.imageContent b = none → t = s) ∧ (∀ C, Config.imageContent b = some C → C.shaped = true → C.fromStandby = true →
    t.live.twin.transfer = none ∧ t.live.twin.image = none ∧ t.live.twin.heldCommits = [] ∧ t.latched = none) ∧ t.pending =
    s.pending) ∧
  (∀ (s : State), s.live.resyncing = false → exec .stateTransferComplete s = .next s) ∧
  (∀ (s : State) (t0 : Nat) (e : Nat), Works 4 s.live → s.live.twin.transfer = some (t0, e) → Answers .stateTransferTimeout s (fun
    L => L.twin.transfer = none ∧ L.twin.transferDue = true ∧ L.twin.image = none ∧ L.twin.heldCommits = [] ∧ L.time.clk = max
    s.live.time.clk (t0 + ms 150) ∧
    { L with twin := s.live.twin, time := { L.time with clk := s.live.time.clk, mtime := s.live.time.mtime, cyc := s.live.time.cyc, frac := s.live.time.frac }, rcd := s.live.rcd, com := s.live.com, obj := s.live.obj, dbg := s.live.dbg, cap := s.live.cap }
    = s.live)) ∧
  (∀ (s : State), s.live.twin.transfer = none → exec .stateTransferTimeout s = .next s) ∧
  (∀ (s : State) (sess : Sess), Granted sess 2 s.live → s.live.healthyPartner = true → s.live.twin.transfer = none →
    s.live.twin.check = false → s.live.mode.st ≠ .safe → Answers (.twinCmdHandover sess) s (fun L => (s.live.twin.holds = true →
    L.twin.hoReq = true ∧ L.twin.hoCount = none) ∧ L.twin.holds = s.live.twin.holds ∧ L.twin.gen = s.live.twin.gen ∧ Replied sess 0
    L ∧
    { L with ks := s.live.ks, out := s.live.out, mgr := s.live.mgr, dbg := s.live.dbg, twin := s.live.twin, com := { L.com with num := s.live.com.num, bus := s.live.com.bus } }
    = s.live)) ∧
  (∀ (s : State) (sess : Sess), Granted sess 2 s.live → (s.live.healthyPartner = false ∨ s.live.mode.st = .safe) → Answers
    (.twinCmdHandover sess) s (fun L => Replied sess 0x08000022 L ∧
    { L with ks := s.live.ks, out := s.live.out, mgr := s.live.mgr, dbg := s.live.dbg, com := { L.com with num := s.live.com.num, bus := s.live.com.bus }, twin := { L.twin with bulk := s.live.twin.bulk, fwdSeq := s.live.twin.fwdSeq } }
    = s.live)) ∧
  (∀ (s : State) (sess : Sess), Granted sess 2 s.live → s.live.twin.pair = 3 → Answers (.twinCmdResync sess) s (fun L =>
    L.twin.pair = 2 ∧ L.twin.transferDue = true ∧ L.twin.holds = s.live.twin.holds ∧ Replied sess 0 L ∧
    { L with ks := s.live.ks, out := s.live.out, mgr := s.live.mgr, dbg := s.live.dbg, twin := s.live.twin, rcd := s.live.rcd, com := s.live.com, obj := s.live.obj, cap := s.live.cap, upd := { L.upd with cleanAt := s.live.upd.cleanAt } }
    = s.live)) ∧
  (∀ (s : State) (sess : Sess), Granted sess 2 s.live → s.live.twin.pair ≠ 3 → Answers (.twinCmdResync sess) s (fun L => Replied
    sess 0x08000022 L ∧
    { L with ks := s.live.ks, out := s.live.out, mgr := s.live.mgr, dbg := s.live.dbg, com := { L.com with num := s.live.com.num, bus := s.live.com.bus }, twin := { L.twin with bulk := s.live.twin.bulk, fwdSeq := s.live.twin.fwdSeq } }
    = s.live)) ∧
  (∀ (s : State) (n : Nat), Works 4 s.live → s.live.twin.hoCount = some n → Answers .handoverClaimLimit s (fun L => L.twin.hoCount
    = none ∧ s.live.time.clk ≤ L.time.clk ∧ (s.live.twin.holds = true → L.twin.holds = false ∧ L.twin.hoReq = false) ∧
    (s.live.twin.holds = false ∧ s.live.twin.claims = true → L.twin.holds = true ∧ L.twin.claims = false) ∧ (s.live.twin.holds =
    false ∧ s.live.twin.claims = false → L.twin.holds = false))) ∧
  (∀ (s : State), s.live.twin.hoCount = none → exec .handoverClaimLimit s = .next s)

/-- Staging (17 R424) and verification (17 R425). -/
def Obligations.StagingAndVerification : Prop :=
  (∀ (s : State) (sess : Sess) (image : Bytes), Granted sess 2 s.live → s.live.keepsFallback = false → s.live.updState ≠ 5 →
    s.live.upd.slots.length = 2 → Answers (.manifestWrite sess image) s (fun L => ((s.live.touch sess).manCheck image = 0 →
    L.slotAt s.live.inactive = some { manifest := image } ∧ L.updState = 1 ∧ L.getN 0x480003 = 0 ∧ L.getN 0x480006 = manId image ∧
    L.getN 0x480008 = 0 ∧ Replied sess 0 L) ∧ ((s.live.touch sess).manCheck image ≠ 0 → L.upd.slots = s.live.upd.slots ∧ L.updState
    = s.live.updState ∧ L.getN 0x480003 = (s.live.touch sess).manCheck image ∧ Replied sess 0x06090030 L) ∧ L.slotAt (1 -
    s.live.inactive) = s.live.slotAt (1 - s.live.inactive) ∧
    { L with ks := s.live.ks, out := s.live.out, upd := { L.upd with slots := s.live.upd.slots, previous := s.live.upd.previous }, obj := s.live.obj, jrn := s.live.jrn, rcd := s.live.rcd, com := s.live.com, dbg := s.live.dbg, cap := s.live.cap, mgr := s.live.mgr, saf := s.live.saf, mode := s.live.mode, pins := s.live.pins, twin := s.live.twin, conv := s.live.conv }
    = s.live)) ∧
  (∀ (s : State) (sess : Sess) (image : Bytes), Granted sess 2 s.live → (s.live.keepsFallback = true ∨ s.live.updState = 5) →
    Answers (.manifestWrite sess image) s (fun L => (L.upd = s.live.upd ∧ L.getN 0x480003 = (if s.live.keepsFallback then 8 else
    6)) ∧ Replied sess 0x08000022 L ∧
    { L with ks := s.live.ks, out := s.live.out, obj := s.live.obj, rcd := s.live.rcd, com := s.live.com, dbg := s.live.dbg, cap := s.live.cap, mgr := s.live.mgr, twin := { L.twin with bulk := s.live.twin.bulk, fwdSeq := s.live.twin.fwdSeq } }
    = s.live)) ∧
  (∀ (s : State) (sess : Sess) (image : Bytes) (sl : Slot), Granted sess 2 s.live → s.live.upd.slots.length = 2 → s.live.slotAt
    s.live.inactive = some sl → image.length = 4112 → (s.live.updState = 1 ∨ s.live.updState = 2) → blockCheck sl.manifest image =
    0 → sl.blocks.any (fun x => x.1 == byteAt image 4 && x.2.1 == le image 6 2) = false → Answers (.stagingBlockWrite sess image) s
    (fun L => L.slotAt s.live.inactive = some { sl with blocks := (byteAt image 4, le image 6 2, image.drop 16) :: sl.blocks } ∧
    L.getN 0x480008 = sl.blocks.length + 1 ∧ (L.updState = (if sl.blocks.length + 1 = manBlocks sl.manifest then 2 else
    s.live.updState)) ∧ L.slotAt (1 - s.live.inactive) = s.live.slotAt (1 - s.live.inactive) ∧ Replied sess 0 L)) ∧
  (∀ (s : State) (sess : Sess) (image : Bytes) (sl : Slot), Granted sess 2 s.live → s.live.slotAt s.live.inactive = some sl →
    image.length = 4112 → (s.live.updState = 1 ∨ s.live.updState = 2) → blockCheck sl.manifest image ≠ 0 → Answers
    (.stagingBlockWrite sess image) s (fun L => L.upd = s.live.upd ∧ L.getN 0x480003 = blockCheck sl.manifest image ∧ (Replied sess
    (if blockCheck sl.manifest image = 6 then 0x08000022 else 0x06090030) L) ∧
    { L with ks := s.live.ks, out := s.live.out, obj := s.live.obj, rcd := s.live.rcd, com := s.live.com, dbg := s.live.dbg, cap := s.live.cap, mgr := s.live.mgr, twin := { L.twin with bulk := s.live.twin.bulk, fwdSeq := s.live.twin.fwdSeq } }
    = s.live)) ∧
  (∀ (s : State) (sess : Sess), Granted sess 2 s.live → (s.live.updState = 2 ∨ s.live.updState = 3 ∨ s.live.updState = 4) → Answers
    (.updateCmdVerify sess) s (fun L => L.updState = 3 ∧ L.upd = s.live.upd ∧ Replied sess 0 L)) ∧
  (∀ (s : State) (sess : Sess), Granted sess 2 s.live → s.live.updState ≠ 2 → s.live.updState ≠ 3 → s.live.updState ≠ 4 → Answers
    (.updateCmdVerify sess) s (fun L => L.updState = s.live.updState ∧ L.getN 0x480003 = 6 ∧ Replied sess 0x08000022 L ∧
    { L with ks := s.live.ks, out := s.live.out, obj := s.live.obj, mgr := s.live.mgr, dbg := s.live.dbg, com := { L.com with num := s.live.com.num, bus := s.live.com.bus }, twin := { L.twin with bulk := s.live.twin.bulk, fwdSeq := s.live.twin.fwdSeq } }
    = s.live)) ∧
  (∀ (s : State) (r : VerifyReport) (sl : Slot), s.live.powered = true → s.live.updState = 3 → s.live.slotAt s.live.inactive = some
    sl → Answers (.verificationComplete r) s (fun L => L.getN 0x480003 = (s.live.verifyResult sl r).1 ∧ (L.updState = (if
    (s.live.verifyResult sl r).1 = 0 then 4 else 2)) ∧ (r.signatureOk = false → L.getN 0x480003 = 1) ∧
    { L with free := s.live.free, obj := s.live.obj, jrn := s.live.jrn, rcd := s.live.rcd, com := s.live.com, dbg := s.live.dbg, cap := s.live.cap, twin := { L.twin with bulk := s.live.twin.bulk } }
    = s.live)) ∧
  (∀ (s : State) (r : VerifyReport), s.live.updState ≠ 3 → exec (.verificationComplete r) s = .next s) ∧
  (∀ (s : State) (sess : Sess), Granted sess 2 s.live → s.live.upd.slots.length = 2 → 1 ≤ s.live.updState → s.live.updState ≤ 4 →
    Answers (.updateCmdDiscard sess) s (fun L => L.slotAt s.live.inactive = none ∧ L.slotAt (1 - s.live.inactive) = s.live.slotAt
    (1 - s.live.inactive) ∧ L.updState = 0 ∧ L.getN 0x480006 = 0 ∧ L.getN 0x480008 = 0 ∧ L.getN 0x480009 = 0 ∧ Replied sess 0 L))

/-- Activation, probation and upkeep (17 R426 to R438). -/
def Obligations.ActivationProbationAndUpkeep : Prop :=
  (∀ (s : State) (sess : Sess) (sl : Slot), Granted sess 3 s.live → s.live.updState = 4 → s.live.slotAt s.live.inactive = some sl →
    s.live.stopped = true → s.live.hasPartner = false → (s.live.twinByTwin sl.manifest = false ∨ s.live.inStep = false) → Answers
    (.updateCmdActivate sess) s (fun L => L.mode.st = .boot ∧ L.upd.selected = s.live.inactive + 1 ∧ L.upd.probation = true ∧
    L.upd.previous = s.live.upd.running ∧ L.upd.slots = s.live.upd.slots ∧ L.getN 0x20000F = 3 ∧ L.pins.contactA = false ∧
    L.pins.contactB = false)) ∧
  (∀ (s : State) (sess : Sess), Granted sess 2 s.live → (s.live.updState ≠ 4 ∨ s.live.slotAt s.live.inactive = none) → Answers
    (.updateCmdActivate sess) s (fun L => L.upd = s.live.upd ∧ L.mode = s.live.mode ∧ L.getN 0x480003 = 6 ∧ Replied sess 0x08000022
    L ∧
    { L with ks := s.live.ks, out := s.live.out, obj := s.live.obj, mgr := s.live.mgr, dbg := s.live.dbg, com := { L.com with num := s.live.com.num, bus := s.live.com.bus }, twin := { L.twin with bulk := s.live.twin.bulk, fwdSeq := s.live.twin.fwdSeq } }
    = s.live)) ∧
  (∀ (s : State), s.live.powered = true → s.live.upd.probation = true → s.live.updState = 6 → s.live.healthy = true →
    s.live.hasPartner = false → Answers .probationConfirm s (fun L => L.upd.probation = false ∧ L.upd.boots = 0 ∧ L.upd.prevGen =
    none ∧ L.upd.replaced = false ∧ (L.updState = 8 ∨ L.updState = 10) ∧ L.time.clk = max s.live.time.clk (s.live.upd.cleanAt + sec
    600) ∧ L.mode = s.live.mode)) ∧
  (∀ (s : State), (s.live.upd.probation = false ∨ s.live.updState ≠ 6 ∨ s.live.healthy = false) → exec .probationConfirm s = .next
    s) ∧
  (∀ (s : State), s.live.powered = true → s.live.upd.probation = true → Answers .probationTimeTick s (fun L => L.time.clk = max
    s.live.time.clk (s.live.upd.tickAt + sec 60) ∧ L.upd.tickAt = L.time.clk ∧ L.getN 0x48000A = min 1800 (s.live.getN 0x48000A +
    (L.time.clk - s.live.upd.tickAt) / 1000000000) ∧ L.upd.probation = true ∧ L.mode.st = s.live.mode.st)) ∧
  (∀ (s : State), s.live.upd.probation = false → exec .probationTimeTick s = .next s) ∧
  (∀ (s : State), s.live.powered = true → s.live.upd.probation = true → (s.live.twin.holds = false ∨ s.live.healthyPartner = false)
    → Answers .probationLimit s (fun L => L.mode.st = .boot ∧ L.getN 0x48000A = 1800 ∧ L.getN 0x20000F = 3 ∧ L.pins.contactA =
    false ∧ L.pins.contactB = false)) ∧
  (∀ (s : State), s.live.upd.probation = false → exec .probationLimit s = .next s) ∧
  (∀ (s : State), s.live.powered = true → s.live.twin.holds = true → s.live.upd.nodeStop = false → s.live.updState = 10 →
    s.live.upd.nodeSeg = none → s.live.nextNode = none → Answers .nodeUpdateSegment s (fun L => L.updState = 8 ∧ SameObjects
    [0x480001] L s.live ∧ { L with obj := s.live.obj } = s.live)) ∧
  (∀ (s : State) (seg : Fin 16) (t0 : Nat), s.live.powered = true → s.live.seg.length = 16 → s.live.twin.holds = true →
    s.live.upd.nodeStop = false → s.live.updState = 10 → s.live.upd.nodeSeg = some (seg.val, 2, t0) → (s.live.nodePart seg).isSome
    = true → t0 + sec 5 < s.live.time.clk → Answers .nodeUpdateSegment s (fun L => L.upd.nodeSeg = none ∧ L.upd.nodeStop = true ∧
    L.updState = 8 ∧ L.getN 0x48000C = 255 ∧ L.mode = s.live.mode)) ∧
  (∀ (s : State) (seg : Fin 16) (t0 : Nat), s.live.powered = true → s.live.twin.holds = true → s.live.upd.nodeStop = false →
    s.live.updState = 10 → s.live.upd.nodeSeg = some (seg.val, 1, t0) → (s.live.segAt seg).req = none → (s.live.segAt seg).reqQ =
    [] → Answers .nodeUpdateSegment s (fun L => L.upd.nodeSeg = some (seg.val, 2, s.live.time.clk) ∧
    { L with upd := { L.upd with nodeSeg := s.live.upd.nodeSeg } } = s.live)) ∧
  (∀ (s : State), (s.live.twin.holds = false ∨ s.live.upd.nodeStop = true) → exec .nodeUpdateSegment s = .next s) ∧
  (∀ (s : State) (sess : Sess) (key : Bytes), Served sess 3 s.live → key.length = 64 → s.live.blobOf 0x480012 = [] →
    (s.live.mode.st = .standby ∨ s.live.mode.st = .service) → Answers (.integratorKeyWrite sess key) s (fun L => L.blobOf 0x480012
    = key ∧ Replied sess 0 L ∧
    { L with ks := s.live.ks, out := s.live.out, mgr := s.live.mgr, dbg := s.live.dbg, blob := s.live.blob, com := { L.com with num := s.live.com.num, bus := s.live.com.bus }, twin := { L.twin with bulk := s.live.twin.bulk, fwdSeq := s.live.twin.fwdSeq } }
    = s.live)) ∧
  (∀ (s : State) (sess : Sess) (key : Bytes), Served sess 3 s.live → key.length = 64 → (s.live.blobOf 0x480012 ≠ [] ∨
    (s.live.mode.st ≠ .standby ∧ s.live.mode.st ≠ .service)) → Answers (.integratorKeyWrite sess key) s (fun L => Replied sess
    0x08000022 L ∧
    { L with ks := s.live.ks, out := s.live.out, mgr := s.live.mgr, dbg := s.live.dbg, com := { L.com with num := s.live.com.num, bus := s.live.com.bus }, twin := { L.twin with bulk := s.live.twin.bulk, fwdSeq := s.live.twin.fwdSeq } }
    = s.live)) ∧
  (∀ (s : State) (block : Fin 1024), s.live.powered = true → s.live.upd.refreshAt = none → s.live.blockWritten block + fiveYears ≤
    s.live.flashNow → Answers (.flashRefreshBlock block true) s (fun L => L.blockWritten block = s.live.flashNow ∧ L.upd.refreshAt
    = some s.live.time.clk ∧ L.getN 0x480031 = min (s.live.getN 0x480031 + 1) (2 ^ 16 - 1) ∧ L.upd.slots = s.live.upd.slots ∧
    L.mode = s.live.mode)) ∧
  (∀ (s : State) (block : Fin 1024) (ok : Bool), s.live.flashNow < s.live.blockWritten block + fiveYears → exec (.flashRefreshBlock
    block ok) s = .next s) ∧
  (∀ (s : State), s.live.powered = true → s.live.jrn.ents = [] → Answers .journalCheckpoint s (fun L => L.jrn.ents.map (·.cls) =
    [7] ∧ L.jrn.check = some s.live.jrn.nextSeq ∧ L.jrn.gen = (s.live.jrn.gen + 1) % 2 ^ 32 ∧ { L with jrn := s.live.jrn } =
    s.live)) ∧
  (∀ (s : State), s.live.powered = true → Answers .countersSaveTick s (fun L => L.ret.energy = s.live.conv.energy ∧ L.ret.q =
    s.live.seg.map (·.q) ∧ L.ret.e = (s.live.saf.eA, s.live.saf.eB) ∧ L.ret.ctx = s.live.ret.ctx ∧ L.ret.seg = s.live.ret.seg ∧
    { L with ret := s.live.ret, jrn := s.live.jrn } = s.live))

/-- The debug port (18 R442 to R446). -/
def Obligations.DebugSessionsAndReads : Prop :=
  (∀ (s : State) (tag : Byte), s.live.powered = true → s.live.mode.st ≠ .boot → s.live.dbg.waiting = none → s.live.dbg.session =
    none → s.live.isSet 0x4C0026 = true → Answers (.dbgOpen tag) s (fun L => L.dbg.session = some (0, s.live.time.clk) ∧ L.dbg.attn
    = s.live.dbg.attn ∧ L.out = .dbg (dbgResponse tag 0 (padTo 16 (Config.nonce s.live.free) ++ leBytes 4 Config.serial ++ leBytes
    1 s.live.nodeId ++ [0])) :: s.live.out ∧ L.dbg.halted = s.live.dbg.halted ∧ L.dbg.brk = s.live.dbg.brk ∧
    { L with dbg := s.live.dbg, ks := s.live.ks, out := s.live.out, free := s.live.free, rcd := s.live.rcd, com := s.live.com, obj := s.live.obj, cap := s.live.cap }
    = s.live)) ∧
  (∀ (s : State) (tag : Byte), s.live.powered = true → s.live.mode.st ≠ .boot → s.live.dbg.waiting = none →
    (s.live.dbg.session.isSome = true ∨ s.live.isSet 0x4C0026 = false) → Answers (.dbgOpen tag) s (fun L => L.out = .dbg
    (dbgResponse tag 7 []) :: s.live.out ∧ { L with out := s.live.out } = s.live)) ∧
  (∀ (s : State) (tag : Byte) (level : Nat) (mac : Bytes) (d : Nat × Nat), s.live.powered = true → s.live.mode.st ≠ .boot →
    s.live.dbg.waiting = none → s.live.dbg.session = some d → s.live.dbg.lockUntil = none → mac.length = 16 → Answers (.dbgAuth tag
    level mac) s (fun L => ((s.live.touch dbgSess).macRight level mac = true → L.dbg.session = some (level, s.live.time.clk) ∧
    L.out = .dbg (dbgResponse tag 0 []) :: s.live.out) ∧ ((s.live.touch dbgSess).macRight level mac = false → L.dbg.session = some
    (d.1, s.live.time.clk) ∧ L.out = .dbg (dbgResponse tag 8 []) :: s.live.out) ∧ L.dbg.nonce = Config.nonce s.live.free ∧
    { L with dbg := s.live.dbg, ks := s.live.ks, out := s.live.out, free := s.live.free, rcd := s.live.rcd, com := s.live.com, obj := s.live.obj, cap := s.live.cap }
    = s.live)) ∧
  (∀ (s : State) (tag : Byte) (d : Nat × Nat), s.live.powered = true → s.live.mode.st ≠ .boot → s.live.dbg.waiting = none →
    s.live.dbg.session = some d → Answers (.dbgClose tag) s (fun L => L.dbg.session = none ∧ (.dbg (dbgResponse tag 0 []) ∈ L.out)
    ∧ L.dbg.halted = s.live.dbg.halted ∧
    { L with dbg := s.live.dbg, ks := s.live.ks, out := s.live.out, rcd := s.live.rcd, com := s.live.com, obj := s.live.obj, cap := s.live.cap, twin := { L.twin with bulk := s.live.twin.bulk, fwdSeq := s.live.twin.fwdSeq } }
    = s.live)) ∧
  (∀ (s : State) (d : Nat × Nat), s.live.powered = true → s.live.dbg.session = some d → Answers .debugIdleTimeout s (fun L =>
    L.dbg.session = none ∧ bitOf L.dbg.attn 3 = true ∧ L.time.clk = max s.live.time.clk (d.2 + sec (s.live.getN 0x4C0027)) ∧
    { L with dbg := s.live.dbg, ks := s.live.ks, rcd := s.live.rcd, com := s.live.com, obj := s.live.obj, cap := s.live.cap, twin := { L.twin with bulk := s.live.twin.bulk, fwdSeq := s.live.twin.fwdSeq }, time := { L.time with clk := s.live.time.clk, mtime := s.live.time.mtime, cyc := s.live.time.cyc, frac := s.live.time.frac } }
    = s.live)) ∧
  (∀ (s : State), s.live.dbg.session = none → exec .debugIdleTimeout s = .next s) ∧
  (∀ (s : State) (tag : Byte) (d : Nat × Nat), s.live.powered = true → s.live.mode.st ≠ .boot → s.live.dbg.waiting = none →
    s.live.dbg.session = some d → Answers (.dbgStatus tag) s (fun L => L.out = .dbg (dbgResponse tag 0 (leBytes 1 s.live.dbg.attn))
    :: s.live.out ∧ L.dbg.attn = 0 ∧ L.dbg.session = some (d.1, s.live.time.clk) ∧
    { L with out := s.live.out, ks := s.live.ks, dbg := s.live.dbg } = s.live)) ∧
  (∀ (s : State) (tag : Byte), s.live.powered = true → s.live.mode.st ≠ .boot → s.live.dbg.waiting = none → s.live.dbg.session =
    none → Answers (.dbgStatus tag) s (fun L => L.out = .dbg (dbgResponse tag 0x0C []) :: s.live.out ∧ { L with out := s.live.out }
    = s.live)) ∧
  (∀ (s : State) (tag : Byte) (crcWrong : Bool), s.live.powered = true → s.live.mode.st ≠ .boot → s.live.dbg.waiting = none →
    Answers (.dbgInvalidRequest tag crcWrong) s (fun L => (L.out = .dbg (dbgResponse tag (if crcWrong then 1 else 2) []) ::
    s.live.out) ∧ { L with out := s.live.out } = s.live)) ∧
  (∀ (s : State) (tag : Byte) (addr : Nat) (len : Nat) (d : Nat × Nat), s.live.powered = true → s.live.mode.st ≠ .boot →
    s.live.dbg.waiting = none → s.live.dbg.session = some d → 2 ≤ d.1 → 4 ≤ len → len ≤ 1024 → len % 4 = 0 → addr % 4 = 0 → Answers
    (.dbgRead tag addr len) s (fun L => (L.out = .dbg (if (List.range len).any (fun i => (regionOf (addr + i)).isNone) then
    dbgResponse tag 5 [] else dbgResponse tag 0 ((List.range len).map (fun i => (s.live.touch dbgSess).dbgByte (addr + i)))) ::
    s.live.out) ∧ L.lgc = s.live.lgc ∧ L.dbg.mem = s.live.dbg.mem ∧
    { L with out := s.live.out, ks := s.live.ks, dbg := s.live.dbg, free := s.live.free } = s.live)) ∧
  (∀ (s : State) (tag : Byte) (addr : Nat) (len : Nat) (d : Nat × Nat), s.live.powered = true → s.live.mode.st ≠ .boot →
    s.live.dbg.waiting = none → s.live.dbg.session = some d → d.1 < 2 → Answers (.dbgRead tag addr len) s (fun L => L.out = .dbg
    (dbgResponse tag 4 []) :: s.live.out ∧ { L with out := s.live.out, ks := s.live.ks, dbg := s.live.dbg } = s.live)) ∧
  (∀ (s : State) (tag : Byte) (addr : Nat) (data : Bytes) (d : Nat × Nat) (i : Fin 6), s.live.powered = true → s.live.mode.st ≠
    .boot → s.live.dbg.waiting = none → s.live.dbg.session = some d → d.1 = 4 → 4 ≤ data.length → data.length ≤ 1024 → data.length
    % 4 = 0 → addr % 4 = 0 → 0x40000000 + 0x100000 * i.val ≤ addr → addr + data.length ≤ 0x40000000 + 0x100000 * (i.val + 1) →
    bitOf s.live.dbg.halted i = true → Answers (.dbgWrite tag addr data) s (fun L => (∀ k : Fin data.length, L.dbgByte (addr + k) =
    data.getD k 0) ∧ .dbg (dbgResponse tag 0 []) ∈ L.out ∧ L.lgc = s.live.lgc ∧
    { L with out := s.live.out, ks := s.live.ks, dbg := s.live.dbg, rcd := s.live.rcd, com := s.live.com, obj := s.live.obj, cap := s.live.cap }
    = s.live)) ∧
  (∀ (s : State) (tag : Byte) (addr : Nat) (data : Bytes) (d : Nat × Nat), s.live.powered = true → s.live.mode.st ≠ .boot →
    s.live.dbg.waiting = none → s.live.dbg.session = some d → 2 ≤ d.1 → 4 ≤ data.length → data.length ≤ 1024 → data.length % 4 = 0
    → addr % 4 = 0 → 0x51000000 ≤ addr → addr + data.length ≤ 0x51005000 → s.live.logicState = 3 → s.live.ks.commands < 16 →
    s.live.follower = false → s.live.mirrorsOut = false → Answers (.dbgWrite tag addr data) s (fun L => L.ks.pend = s.live.ks.pend
    ++
    [{ sess := dbgSess, via := false, key := keyVm, val := leBytes 1 s.live.nodeId ++ (leBytes 4 addr ++ data), txn := none, fwd := none, level := d.1 }]
    ∧ L.dbg.waiting = some tag ∧ L.lgc = s.live.lgc ∧ L.out = s.live.out ∧ { L with ks := s.live.ks, dbg := s.live.dbg } = s.live)) ∧
  (∀ (s : State) (tag : Byte) (index : Nat) (sub : Nat) (d : Nat × Nat), s.live.powered = true → s.live.mode.st ≠ .boot →
    s.live.dbg.waiting = none → s.live.dbg.session = some d → s.live.follower = false → index * 256 + sub ≠ 0x460010 → Answers
    (.dbgOdRead tag index sub) s (fun L => L.out.length = s.live.out.length + 1 ∧ L.out.drop 1 = s.live.out ∧ L.dbg.waiting = none
    ∧ { L with out := s.live.out, ks := s.live.ks, dbg := s.live.dbg } = s.live)) ∧
  (∀ (s : State) (tag : Byte) (index : Nat) (sub : Nat) (value : Bytes) (d : Nat × Nat), s.live.powered = true → s.live.mode.st ≠
    .boot → s.live.dbg.waiting = none → s.live.dbg.session = some d → s.live.follower = false → s.live.mirrorsOut = false →
    s.live.ks.commands < 16 → index * 256 + sub ≠ 0x210010 → sub < 256 → (s.live.touch dbgSess).arrivalAt d.1 index sub value =
    none → Answers (.dbgOdWrite tag index sub value) s (fun L => L.ks.pend = s.live.ks.pend ++
    [{ sess := dbgSess, via := false, key := index * 256 + sub, val := value, txn := none, fwd := none, level := d.1 }] ∧
    L.dbg.waiting = some tag ∧ L.out = s.live.out ∧ { L with ks := s.live.ks, dbg := s.live.dbg } = s.live))

/-- Halts and breakpoints (18 R447 to R450). -/
def Obligations.DebugHaltsAndBreakpoints : Prop :=
  (∀ (s : State) (tag : Byte) (d : Nat × Nat), s.live.powered = true → s.live.mode.st ≠ .boot → s.live.dbg.waiting = none →
    s.live.dbg.session = some d → 2 ≤ d.1 → s.live.ks.commands < 16 → s.live.follower = false → s.live.mirrorsOut = false → Answers
    (.logicHalt tag) s (fun L => L.ks.pend = s.live.ks.pend ++
    [{ sess := dbgSess, via := false, key := keyHalt, val := leBytes 1 s.live.nodeId, txn := none, fwd := none, level := d.1 }] ∧
    L.dbg.waiting = some tag ∧ { L with ks := s.live.ks, dbg := s.live.dbg } = s.live)) ∧
  (∀ (s : State) (tag : Byte) (count : Nat) (d : Nat × Nat), s.live.powered = true → s.live.mode.st ≠ .boot → s.live.dbg.waiting =
    none → s.live.dbg.session = some d → 2 ≤ d.1 → 1 ≤ count → count ≤ 16 → s.live.ks.commands < 16 → s.live.follower = false →
    s.live.mirrorsOut = false → Answers (.logicStep tag count) s (fun L => L.ks.pend = s.live.ks.pend ++
    [{ sess := dbgSess, via := false, key := keyStep, val := leBytes 1 s.live.nodeId ++ leBytes 1 count, txn := none, fwd := none, level := d.1 }]
    ∧ L.dbg.waiting = some tag ∧ { L with ks := s.live.ks, dbg := s.live.dbg } = s.live)) ∧
  (∀ (s : State) (tag : Byte) (count : Nat) (d : Nat × Nat), s.live.powered = true → s.live.mode.st ≠ .boot → s.live.dbg.waiting =
    none → s.live.dbg.session = some d → 2 ≤ d.1 → (count = 0 ∨ 16 < count) → Answers (.logicStep tag count) s (fun L => L.out =
    .dbg (dbgResponse tag 3 []) :: s.live.out ∧ { L with out := s.live.out, ks := s.live.ks, dbg := s.live.dbg } = s.live)) ∧
  (∀ (s : State) (tag : Byte) (d : Nat × Nat), s.live.powered = true → s.live.mode.st ≠ .boot → s.live.dbg.waiting = none →
    s.live.dbg.session = some d → 2 ≤ d.1 → s.live.ks.commands < 16 → s.live.follower = false → s.live.mirrorsOut = false → Answers
    (.logicStepCourse tag) s (fun L => L.ks.pend = s.live.ks.pend ++
    [{ sess := dbgSess, via := false, key := keyCourse, val := leBytes 1 s.live.nodeId, txn := none, fwd := none, level := d.1 }] ∧
    L.dbg.waiting = some tag ∧ { L with ks := s.live.ks, dbg := s.live.dbg } = s.live)) ∧
  (∀ (s : State) (tag : Byte) (d : Nat × Nat), s.live.powered = true → s.live.mode.st ≠ .boot → s.live.dbg.waiting = none →
    s.live.dbg.session = some d → 2 ≤ d.1 → s.live.ks.commands < 16 → s.live.follower = false → s.live.mirrorsOut = false → Answers
    (.logicRun tag) s (fun L => L.ks.pend = s.live.ks.pend ++
    [{ sess := dbgSess, via := false, key := keyRun, val := leBytes 1 s.live.nodeId, txn := none, fwd := none, level := d.1 }] ∧
    L.dbg.waiting = some tag ∧ { L with ks := s.live.ks, dbg := s.live.dbg } = s.live)) ∧
  (∀ (s : State) (tag : Byte) (slot : Nat) (kind : Nat) (param : Nat) (d : Nat × Nat), s.live.powered = true → s.live.mode.st ≠
    .boot → s.live.dbg.waiting = none → s.live.dbg.session = some d → 2 ≤ d.1 → kind < 2 → brkOk slot kind param = true →
    s.live.ks.commands < 16 → s.live.follower = false → s.live.mirrorsOut = false → Answers (.breakSet tag slot kind param) s (fun
    L => L.ks.pend = s.live.ks.pend ++
    [{ sess := dbgSess, via := false, key := keyBreak, val := leBytes 1 s.live.nodeId ++ (leBytes 1 slot ++ leBytes 1 kind ++ leBytes 4 param), txn := none, fwd := none, level := d.1 }]
    ∧ L.dbg.waiting = some tag ∧ L.dbg.brk = s.live.dbg.brk ∧ { L with ks := s.live.ks, dbg := s.live.dbg } = s.live)) ∧
  (∀ (s : State) (tag : Byte) (slot : Nat) (kind : Nat) (param : Nat) (d : Nat × Nat), s.live.powered = true → s.live.mode.st ≠
    .boot → s.live.dbg.waiting = none → s.live.dbg.session = some d → d.1 = 4 → 2 ≤ kind → brkOk slot kind param = true →
    s.live.haltAllowed = true → s.live.islandSlots slot < 2 → s.live.dbg.brk.length = 8 → Answers (.breakSet tag slot kind param) s
    (fun L => L.dbg.brk = s.live.dbg.brk.set slot (some { kind := kind, param := param, sess := dbgSess, node := s.live.nodeId }) ∧
    L.out = .dbg (dbgResponse tag 0 []) :: s.live.out ∧ { L with ks := s.live.ks, out := s.live.out, dbg := s.live.dbg } = s.live)) ∧
  (∀ (s : State) (tag : Byte) (slot : Nat) (d : Nat × Nat) (k : Nat), s.live.powered = true → s.live.mode.st ≠ .boot →
    s.live.dbg.waiting = none → s.live.dbg.session = some d → d.1 = 4 → slot < 8 → s.live.brkKind slot = some k → 2 ≤ k → Answers
    (.breakClear tag slot) s (fun L => L.dbg.brk = s.live.dbg.brk.set slot none ∧ L.out = .dbg (dbgResponse tag 0 []) :: s.live.out
    ∧ { L with ks := s.live.ks, out := s.live.out, dbg := s.live.dbg } = s.live)) ∧
  (∀ (s : State) (tag : Byte) (slot : Nat) (d : Nat × Nat), s.live.powered = true → s.live.mode.st ≠ .boot → s.live.dbg.waiting =
    none → s.live.dbg.session = some d → 2 ≤ d.1 → slot < 8 → s.live.brkKind slot = none → s.live.ks.commands < 16 →
    s.live.follower = false → s.live.mirrorsOut = false → Answers (.breakClear tag slot) s (fun L => L.ks.pend = s.live.ks.pend ++
    [{ sess := dbgSess, via := false, key := keyClear, val := leBytes 1 s.live.nodeId ++ leBytes 1 slot, txn := none, fwd := none, level := d.1 }]
    ∧ L.dbg.waiting = some tag ∧ L.dbg.brk = s.live.dbg.brk ∧ { L with ks := s.live.ks, dbg := s.live.dbg } = s.live)) ∧
  (∀ (s : State) (tag : Byte) (island : Nat) (d : Nat × Nat), s.live.powered = true → s.live.mode.st ≠ .boot → s.live.dbg.waiting =
    none → s.live.dbg.session = some d → d.1 = 4 → island < 6 → s.live.haltAllowed = true → Answers (.islandHalt tag island) s (fun
    L => bitOf L.dbg.halted island = true ∧ (L.pins.contactA = false ∧ L.pins.contactB = false ∧ L.pins.fastOff = (if
    s.live.twin.holds then .off else .absent)) ∧ L.twin.pair = 0 ∧ L.out = .dbg (dbgResponse tag 0 []) :: s.live.out ∧
    { L with ks := s.live.ks, out := s.live.out, dbg := s.live.dbg, twin := s.live.twin, pins := s.live.pins, saf := s.live.saf, obj := s.live.obj, rcd := s.live.rcd, com := s.live.com, cap := s.live.cap }
    = s.live)) ∧
  (∀ (s : State) (tag : Byte) (island : Nat) (d : Nat × Nat), s.live.powered = true → s.live.mode.st ≠ .boot → s.live.dbg.waiting =
    none → s.live.dbg.session = some d → d.1 = 4 → island < 6 → s.live.haltAllowed = false → Answers (.islandHalt tag island) s
    (fun L => L.pins = s.live.pins ∧ L.dbg.halted = s.live.dbg.halted ∧ .dbg (dbgResponse tag 6 []) ∈ L.out ∧
    { L with ks := s.live.ks, out := s.live.out, dbg := s.live.dbg, rcd := s.live.rcd, com := s.live.com, obj := s.live.obj, cap := s.live.cap }
    = s.live)) ∧
  (∀ (s : State) (tag : Byte) (d : Nat × Nat), s.live.powered = true → s.live.mode.st ≠ .boot → s.live.dbg.waiting = none →
    s.live.dbg.session = some d → d.1 = 4 → Answers (.islandRun tag) s (fun L => L.mode.st = .boot ∧ L.dbg.halted = 0 ∧ L.getN
    0x20000F = 1 ∧ L.pins.contactA = false ∧ L.pins.contactB = false ∧ L.pins.fastOff ≠ .permit))

/-- The transitions of the module states (03 R52), and only these, are taken. -/
def Obligations.StatesFollowTheTable : Prop :=
  ∀ (c : Instr) (s t : State), c ≠ .courseBoundary → c ≠ .mirrorFrameMissing → c ≠ .stateTransferComplete → (∀ f p q, c ≠
    .mirrorFrameRx f p q) → exec c s = .next t → follows s.live.mode.st t.live.mode.st = true ∨ (s.live.mode.st = .selftest ∧
    t.live.mode.st = .safe ∧ s.live.saf.fastLatch = true)

/-- Before STANDBY nothing closes the own loop or permits FAST_OFF (03 R50), kept by every step. -/
def Obligations.LoopStaysOpenBeforeStandby : Prop :=
  ∀ (s t : State), OpenBeforeStandby s.live → step s = .next t → OpenBeforeStandby t.live

/-- The memory of the logic engine (14 R363) keeps the one form in which equal memories are equal data. -/
def Obligations.LogicMemoryStaysCanonical : Prop :=
  ∀ (s t : State), Memory.wf s.live.lgc.vm.mem = true → step s = .next t → Memory.wf t.live.lgc.vm.mem = true

/-- The shape of the block, which the other statements take as a premise where they need it, is kept by every step. -/
def Obligations.EveryStepKeepsTheShape : Prop :=
  ∀ (s t : State), s.live.shaped = true → step s = .next t → t.live.shaped = true

/-- The scan (14 R358) and the rows of the instruction set (14 R366) are one machine; every instruction the load check accepts
completes. -/
def Obligations.CodeWordsRunAsTheRows : Prop :=
  ∀ (s : State) (img : Bytes) (n : Nat) (i : Instr), Works 3 s.live → s.live.lgc.vm.ended = false → s.live.brkAt s.live.lgc.vm.pc =
    none → imgInstr img s.live.lgc.vm.pc = some i → ∃ t, exec i s = .next t ∧ t = { s with live := t.live } ∧ (t.live.brkChanged
    s.live.lgc.vm.mem = none → runLogic img (n + 1) false s.live = runLogic img n false t.live)

/-- The elementary stages (07 R167), RATE (07 R169) and the cross residual (07 R178), before renormalisation. -/
def Obligations.ElementaryStagesCompute : Prop :=
  ∀ (f : Frozen) (tab : List Stage) (sts : List StageSt) (done prev : List Ash) (sn : Nat) (g : Stage) (st : StageSt) (l : Fin
    g.lanes), (g.ty = 1 → srcNone (g.src.getD 1 255) = true → (runStage f tab sts done prev sn g st).y.getD l 0 = (if g.variant % 2
    = 1 then g.c 0 else g.c l) * (fetch f done prev sn g 0 g.lanes).lane l) ∧ (g.ty = 7 → g.variant % 4 = 3 → g.c 0 ≤ g.c 1 → g.c 0
    ≤ (runStage f tab sts done prev sn g st).y.getD l 0 ∧ (runStage f tab sts done prev sn g st).y.getD l 0 ≤ g.c 1 ∧ (g.c 0 ≤
    (fetch f done prev sn g 0 g.lanes).lane l → (fetch f done prev sn g 0 g.lanes).lane l ≤ g.c 1 → (runStage f tab sts done prev
    sn g st).y.getD l 0 = (fetch f done prev sn g 0 g.lanes).lane l) ∧ (g.c 1 < (fetch f done prev sn g 0 g.lanes).lane l →
    (runStage f tab sts done prev sn g st).y.getD l 0 = g.c 1 ∧ bitOf (runStage f tab sts done prev sn g st).st.flags 0 = true) ∧
    ((fetch f done prev sn g 0 g.lanes).lane l < g.c 0 → (runStage f tab sts done prev sn g st).y.getD l 0 = g.c 0 ∧ bitOf
    (runStage f tab sts done prev sn g st).st.flags 1 = true)) ∧ (g.ty = 7 → g.variant % 4 = 3 → g.c 1 < g.c 0 → (runStage f tab
    sts done prev sn g st).y.getD l 0 = (g.c 0 + g.c 1) / 2 ∧ bitOf (runStage f tab sts done prev sn g st).st.flags 5 = true) ∧
    (g.ty = 8 → f.strobe = true → (runStage f tab sts done prev sn g st).y.getD l 0 = (fetch f done prev sn g 0 g.lanes).lane l) ∧
    (g.ty = 8 → f.strobe = false → g.variant % 2 = 1 → 0 ≤ g.c 0 → 0 ≤ g.c 1 → ∃ d : Rat, -(g.c 1) ≤ d ∧ d ≤ g.c 0 ∧ (runStage f
    tab sts done prev sn g st).y.getD l 0 = accSum [st.out.term l, wideTerm d] ∧ (-(g.c 1) ≤ accSum [(fetch f done prev sn g 0
    g.lanes).term l, negTerm (st.out.term l)] → accSum [(fetch f done prev sn g 0 g.lanes).term l, negTerm (st.out.term l)] ≤ g.c 0
    → d = accSum [(fetch f done prev sn g 0 g.lanes).term l, negTerm (st.out.term l)])) ∧ (g.ty = 12 → (runStage f tab sts done
    prev sn g st).y.getD 1 0 = accSum [(fetch f done prev sn g 0 1).term 0, negTerm ((fetch f done prev sn g 1 1).term 0)] ∧
    ((fetch f done prev sn g 0 1).e = (fetch f done prev sn g 1 1).e → (runStage f tab sts done prev sn g st).y.getD 1 0 = (fetch f
    done prev sn g 0 1).lane 0 - (fetch f done prev sn g 1 1).lane 0))

/-- Fold-back (06 R127). -/
def Obligations.FoldBackLimitsTheCurrent : Prop :=
  ∀ (L : Live) (v h : Rat), 0 < L.vNom → 0 ≤ L.iMax → (1 / 2 ≤ v / L.vNom → L.foldBack v = L.iMax) ∧ (1 / 10 < v / L.vNom → v /
    L.vNom < 1 / 2 → L.foldBack v = L.iMax * (5 / 100 + 2375 / 1000 * (v / L.vNom - 1 / 10))) ∧ (v / L.vNom ≤ 1 / 10 → L.foldBack v
    = 5 / 100 * L.iMax) ∧ (L.limits h v).1 ≤ L.foldBack v ∧ (L.limits h v).2 ≤ L.foldBack v

/-- Identity (12 R312). -/
def Obligations.IdentityObjects : Prop :=
  ∀ (L : Live), L.num 0x101801 = 0x00000B3C ∧ L.num 0x101802 = 0x00531016 ∧ L.num 0x101803 = L.numN 0x480005 ∧ L.num 0x101804 =
    (Config.serial % 2 ^ 32 : Nat) ∧ L.bytesOf 0x100800 = (if Config.variant = 3 then ascii "GX-S16-C" else ascii "GX-S16-A")

/-- Serialisation of the safety parameter set (12 R330). -/
def Obligations.SafetySetIsSerialised : Prop :=
  (safetyObjs.map (·.1)).Pairwise (· < ·) ∧ (∀ o ∈ safetyObjs, ∀ v : Int, (o.2.encode v).length = o.2.size ∧ o.2.encode v = leBytes
    o.2.size (ofSigned (8 * o.2.size) v)) ∧ (∀ L : Live, L.num 0x400005 = (crc32c (safetyObjs.flatMap (fun o => leBytes 2 (o.1 /
    256) ++ leBytes 1 (o.1 % 256) ++ leBytes 1 o.2.size ++ o.2.encode (L.get o.1))) : Nat)) ∧ (∀ (L : Live) (e : EditCopy),
    L.ks.edit = some e → L.bytesOf 0x400010 = safetyObjs.flatMap (fun o => leBytes 2 (o.1 / 256) ++ leBytes 1 (o.1 % 256) ++
    leBytes 1 o.2.size ++ o.2.encode ((Store.find e.vals o.1).getD (L.get o.1))) ∧ L.num 0x400006 = (crc32c (L.bytesOf 0x400010) :
    Nat))
end

