-- ==== Sys2Proof/Laws/Fields.lean ====
section
/-! SUPPORT. Reading one field of the block through a conditional and through a fold. -/

namespace Sys2Proof

open Machine

@[simp] theorem fst_ite {α β : Type} (c : Prop) [Decidable c] (x y : α × β) : (if c then x else y).1 = if c then x.1 else y.1 :=
  apply_ite Prod.fst c x y

@[simp] theorem mode_ite (c : Prop) [Decidable c] (A B : Live) :
    (if c then A else B).mode = if c then A.mode else B.mode := apply_ite Live.mode c A B

@[simp] theorem mode_foldl {α : Type} (g : Live → α → Live) (h : ∀ L a, (g L a).mode = L.mode) (l : List α) (L : Live) :
    (l.foldl g L).mode = L.mode := by
  induction l generalizing L with
  | nil => rfl
  | cons a l ih => simp [ih, h]

@[simp] theorem pins_ite (c : Prop) [Decidable c] (A B : Live) :
    (if c then A else B).pins = if c then A.pins else B.pins := apply_ite Live.pins c A B

@[simp] theorem pins_foldl {α : Type} (g : Live → α → Live) (h : ∀ L a, (g L a).pins = L.pins) (l : List α) (L : Live) :
    (l.foldl g L).pins = L.pins := by
  induction l generalizing L with
  | nil => rfl
  | cons a l ih => simp [ih, h]

@[simp] theorem time_ite (c : Prop) [Decidable c] (A B : Live) :
    (if c then A else B).time = if c then A.time else B.time := apply_ite Live.time c A B

@[simp] theorem time_foldl {α : Type} (g : Live → α → Live) (h : ∀ L a, (g L a).time = L.time) (l : List α) (L : Live) :
    (l.foldl g L).time = L.time := by
  induction l generalizing L with
  | nil => rfl
  | cons a l ih => simp [ih, h]

@[simp] theorem ks_ite (c : Prop) [Decidable c] (A B : Live) :
    (if c then A else B).ks = if c then A.ks else B.ks := apply_ite Live.ks c A B

@[simp] theorem ks_foldl {α : Type} (g : Live → α → Live) (h : ∀ L a, (g L a).ks = L.ks) (l : List α) (L : Live) :
    (l.foldl g L).ks = L.ks := by
  induction l generalizing L with
  | nil => rfl
  | cons a l ih => simp [ih, h]

@[simp] theorem rcd_ite (c : Prop) [Decidable c] (A B : Live) :
    (if c then A else B).rcd = if c then A.rcd else B.rcd := apply_ite Live.rcd c A B

@[simp] theorem rcd_foldl {α : Type} (g : Live → α → Live) (h : ∀ L a, (g L a).rcd = L.rcd) (l : List α) (L : Live) :
    (l.foldl g L).rcd = L.rcd := by
  induction l generalizing L with
  | nil => rfl
  | cons a l ih => simp [ih, h]

@[simp] theorem saf_ite (c : Prop) [Decidable c] (A B : Live) :
    (if c then A else B).saf = if c then A.saf else B.saf := apply_ite Live.saf c A B

@[simp] theorem saf_foldl {α : Type} (g : Live → α → Live) (h : ∀ L a, (g L a).saf = L.saf) (l : List α) (L : Live) :
    (l.foldl g L).saf = L.saf := by
  induction l generalizing L with
  | nil => rfl
  | cons a l ih => simp [ih, h]

@[simp] theorem seg_ite (c : Prop) [Decidable c] (A B : Live) :
    (if c then A else B).seg = if c then A.seg else B.seg := apply_ite Live.seg c A B

@[simp] theorem seg_foldl {α : Type} (g : Live → α → Live) (h : ∀ L a, (g L a).seg = L.seg) (l : List α) (L : Live) :
    (l.foldl g L).seg = L.seg := by
  induction l generalizing L with
  | nil => rfl
  | cons a l ih => simp [ih, h]

@[simp] theorem node_ite (c : Prop) [Decidable c] (A B : Live) :
    (if c then A else B).node = if c then A.node else B.node := apply_ite Live.node c A B

@[simp] theorem node_foldl {α : Type} (g : Live → α → Live) (h : ∀ L a, (g L a).node = L.node) (l : List α) (L : Live) :
    (l.foldl g L).node = L.node := by
  induction l generalizing L with
  | nil => rfl
  | cons a l ih => simp [ih, h]

@[simp] theorem conv_ite (c : Prop) [Decidable c] (A B : Live) :
    (if c then A else B).conv = if c then A.conv else B.conv := apply_ite Live.conv c A B

@[simp] theorem conv_foldl {α : Type} (g : Live → α → Live) (h : ∀ L a, (g L a).conv = L.conv) (l : List α) (L : Live) :
    (l.foldl g L).conv = L.conv := by
  induction l generalizing L with
  | nil => rfl
  | cons a l ih => simp [ih, h]

@[simp] theorem twin_ite (c : Prop) [Decidable c] (A B : Live) :
    (if c then A else B).twin = if c then A.twin else B.twin := apply_ite Live.twin c A B

@[simp] theorem twin_foldl {α : Type} (g : Live → α → Live) (h : ∀ L a, (g L a).twin = L.twin) (l : List α) (L : Live) :
    (l.foldl g L).twin = L.twin := by
  induction l generalizing L with
  | nil => rfl
  | cons a l ih => simp [ih, h]

@[simp] theorem eng_ite (c : Prop) [Decidable c] (A B : Live) :
    (if c then A else B).eng = if c then A.eng else B.eng := apply_ite Live.eng c A B

@[simp] theorem eng_foldl {α : Type} (g : Live → α → Live) (h : ∀ L a, (g L a).eng = L.eng) (l : List α) (L : Live) :
    (l.foldl g L).eng = L.eng := by
  induction l generalizing L with
  | nil => rfl
  | cons a l ih => simp [ih, h]

@[simp] theorem chi_ite (c : Prop) [Decidable c] (A B : Live) :
    (if c then A else B).chi = if c then A.chi else B.chi := apply_ite Live.chi c A B

@[simp] theorem chi_foldl {α : Type} (g : Live → α → Live) (h : ∀ L a, (g L a).chi = L.chi) (l : List α) (L : Live) :
    (l.foldl g L).chi = L.chi := by
  induction l generalizing L with
  | nil => rfl
  | cons a l ih => simp [ih, h]

@[simp] theorem cap_ite (c : Prop) [Decidable c] (A B : Live) :
    (if c then A else B).cap = if c then A.cap else B.cap := apply_ite Live.cap c A B

@[simp] theorem cap_foldl {α : Type} (g : Live → α → Live) (h : ∀ L a, (g L a).cap = L.cap) (l : List α) (L : Live) :
    (l.foldl g L).cap = L.cap := by
  induction l generalizing L with
  | nil => rfl
  | cons a l ih => simp [ih, h]

@[simp] theorem est_ite (c : Prop) [Decidable c] (A B : Live) :
    (if c then A else B).est = if c then A.est else B.est := apply_ite Live.est c A B

@[simp] theorem est_foldl {α : Type} (g : Live → α → Live) (h : ∀ L a, (g L a).est = L.est) (l : List α) (L : Live) :
    (l.foldl g L).est = L.est := by
  induction l generalizing L with
  | nil => rfl
  | cons a l ih => simp [ih, h]

@[simp] theorem th_ite (c : Prop) [Decidable c] (A B : Live) :
    (if c then A else B).th = if c then A.th else B.th := apply_ite Live.th c A B

@[simp] theorem th_foldl {α : Type} (g : Live → α → Live) (h : ∀ L a, (g L a).th = L.th) (l : List α) (L : Live) :
    (l.foldl g L).th = L.th := by
  induction l generalizing L with
  | nil => rfl
  | cons a l ih => simp [ih, h]

@[simp] theorem com_ite (c : Prop) [Decidable c] (A B : Live) :
    (if c then A else B).com = if c then A.com else B.com := apply_ite Live.com c A B

@[simp] theorem com_foldl {α : Type} (g : Live → α → Live) (h : ∀ L a, (g L a).com = L.com) (l : List α) (L : Live) :
    (l.foldl g L).com = L.com := by
  induction l generalizing L with
  | nil => rfl
  | cons a l ih => simp [ih, h]

@[simp] theorem mgr_ite (c : Prop) [Decidable c] (A B : Live) :
    (if c then A else B).mgr = if c then A.mgr else B.mgr := apply_ite Live.mgr c A B

@[simp] theorem mgr_foldl {α : Type} (g : Live → α → Live) (h : ∀ L a, (g L a).mgr = L.mgr) (l : List α) (L : Live) :
    (l.foldl g L).mgr = L.mgr := by
  induction l generalizing L with
  | nil => rfl
  | cons a l ih => simp [ih, h]

@[simp] theorem lgc_ite (c : Prop) [Decidable c] (A B : Live) :
    (if c then A else B).lgc = if c then A.lgc else B.lgc := apply_ite Live.lgc c A B

@[simp] theorem lgc_foldl {α : Type} (g : Live → α → Live) (h : ∀ L a, (g L a).lgc = L.lgc) (l : List α) (L : Live) :
    (l.foldl g L).lgc = L.lgc := by
  induction l generalizing L with
  | nil => rfl
  | cons a l ih => simp [ih, h]

@[simp] theorem upd_ite (c : Prop) [Decidable c] (A B : Live) :
    (if c then A else B).upd = if c then A.upd else B.upd := apply_ite Live.upd c A B

@[simp] theorem upd_foldl {α : Type} (g : Live → α → Live) (h : ∀ L a, (g L a).upd = L.upd) (l : List α) (L : Live) :
    (l.foldl g L).upd = L.upd := by
  induction l generalizing L with
  | nil => rfl
  | cons a l ih => simp [ih, h]

@[simp] theorem jrn_ite (c : Prop) [Decidable c] (A B : Live) :
    (if c then A else B).jrn = if c then A.jrn else B.jrn := apply_ite Live.jrn c A B

@[simp] theorem jrn_foldl {α : Type} (g : Live → α → Live) (h : ∀ L a, (g L a).jrn = L.jrn) (l : List α) (L : Live) :
    (l.foldl g L).jrn = L.jrn := by
  induction l generalizing L with
  | nil => rfl
  | cons a l ih => simp [ih, h]

@[simp] theorem dbg_ite (c : Prop) [Decidable c] (A B : Live) :
    (if c then A else B).dbg = if c then A.dbg else B.dbg := apply_ite Live.dbg c A B

@[simp] theorem dbg_foldl {α : Type} (g : Live → α → Live) (h : ∀ L a, (g L a).dbg = L.dbg) (l : List α) (L : Live) :
    (l.foldl g L).dbg = L.dbg := by
  induction l generalizing L with
  | nil => rfl
  | cons a l ih => simp [ih, h]

@[simp] theorem ret_ite (c : Prop) [Decidable c] (A B : Live) :
    (if c then A else B).ret = if c then A.ret else B.ret := apply_ite Live.ret c A B

@[simp] theorem ret_foldl {α : Type} (g : Live → α → Live) (h : ∀ L a, (g L a).ret = L.ret) (l : List α) (L : Live) :
    (l.foldl g L).ret = L.ret := by
  induction l generalizing L with
  | nil => rfl
  | cons a l ih => simp [ih, h]

@[simp] theorem obj_ite (c : Prop) [Decidable c] (A B : Live) :
    (if c then A else B).obj = if c then A.obj else B.obj := apply_ite Live.obj c A B

@[simp] theorem obj_foldl {α : Type} (g : Live → α → Live) (h : ∀ L a, (g L a).obj = L.obj) (l : List α) (L : Live) :
    (l.foldl g L).obj = L.obj := by
  induction l generalizing L with
  | nil => rfl
  | cons a l ih => simp [ih, h]

@[simp] theorem blob_ite (c : Prop) [Decidable c] (A B : Live) :
    (if c then A else B).blob = if c then A.blob else B.blob := apply_ite Live.blob c A B

@[simp] theorem blob_foldl {α : Type} (g : Live → α → Live) (h : ∀ L a, (g L a).blob = L.blob) (l : List α) (L : Live) :
    (l.foldl g L).blob = L.blob := by
  induction l generalizing L with
  | nil => rfl
  | cons a l ih => simp [ih, h]

@[simp] theorem out_ite (c : Prop) [Decidable c] (A B : Live) :
    (if c then A else B).out = if c then A.out else B.out := apply_ite Live.out c A B

@[simp] theorem out_foldl {α : Type} (g : Live → α → Live) (h : ∀ L a, (g L a).out = L.out) (l : List α) (L : Live) :
    (l.foldl g L).out = L.out := by
  induction l generalizing L with
  | nil => rfl
  | cons a l ih => simp [ih, h]

@[simp] theorem free_ite (c : Prop) [Decidable c] (A B : Live) :
    (if c then A else B).free = if c then A.free else B.free := apply_ite Live.free c A B

@[simp] theorem free_foldl {α : Type} (g : Live → α → Live) (h : ∀ L a, (g L a).free = L.free) (l : List α) (L : Live) :
    (l.foldl g L).free = L.free := by
  induction l generalizing L with
  | nil => rfl
  | cons a l ih => simp [ih, h]

@[simp] theorem mode_foldl_fst {α β : Type} (g : Live × β → α → Live × β) (h : ∀ x a, (g x a).1.mode = x.1.mode) (l : List α)
    (x : Live × β) : (l.foldl g x).1.mode = x.1.mode := by
  induction l generalizing x with
  | nil => rfl
  | cons a l ih => simp [ih, h]

@[simp] theorem pins_foldl_fst {α β : Type} (g : Live × β → α → Live × β) (h : ∀ x a, (g x a).1.pins = x.1.pins) (l : List α)
    (x : Live × β) : (l.foldl g x).1.pins = x.1.pins := by
  induction l generalizing x with
  | nil => rfl
  | cons a l ih => simp [ih, h]

@[simp] theorem time_foldl_fst {α β : Type} (g : Live × β → α → Live × β) (h : ∀ x a, (g x a).1.time = x.1.time) (l : List α)
    (x : Live × β) : (l.foldl g x).1.time = x.1.time := by
  induction l generalizing x with
  | nil => rfl
  | cons a l ih => simp [ih, h]

@[simp] theorem ks_foldl_fst {α β : Type} (g : Live × β → α → Live × β) (h : ∀ x a, (g x a).1.ks = x.1.ks) (l : List α)
    (x : Live × β) : (l.foldl g x).1.ks = x.1.ks := by
  induction l generalizing x with
  | nil => rfl
  | cons a l ih => simp [ih, h]

@[simp] theorem rcd_foldl_fst {α β : Type} (g : Live × β → α → Live × β) (h : ∀ x a, (g x a).1.rcd = x.1.rcd) (l : List α)
    (x : Live × β) : (l.foldl g x).1.rcd = x.1.rcd := by
  induction l generalizing x with
  | nil => rfl
  | cons a l ih => simp [ih, h]

@[simp] theorem saf_foldl_fst {α β : Type} (g : Live × β → α → Live × β) (h : ∀ x a, (g x a).1.saf = x.1.saf) (l : List α)
    (x : Live × β) : (l.foldl g x).1.saf = x.1.saf := by
  induction l generalizing x with
  | nil => rfl
  | cons a l ih => simp [ih, h]

@[simp] theorem seg_foldl_fst {α β : Type} (g : Live × β → α → Live × β) (h : ∀ x a, (g x a).1.seg = x.1.seg) (l : List α)
    (x : Live × β) : (l.foldl g x).1.seg = x.1.seg := by
  induction l generalizing x with
  | nil => rfl
  | cons a l ih => simp [ih, h]

@[simp] theorem node_foldl_fst {α β : Type} (g : Live × β → α → Live × β) (h : ∀ x a, (g x a).1.node = x.1.node) (l : List α)
    (x : Live × β) : (l.foldl g x).1.node = x.1.node := by
  induction l generalizing x with
  | nil => rfl
  | cons a l ih => simp [ih, h]

@[simp] theorem conv_foldl_fst {α β : Type} (g : Live × β → α → Live × β) (h : ∀ x a, (g x a).1.conv = x.1.conv) (l : List α)
    (x : Live × β) : (l.foldl g x).1.conv = x.1.conv := by
  induction l generalizing x with
  | nil => rfl
  | cons a l ih => simp [ih, h]

@[simp] theorem twin_foldl_fst {α β : Type} (g : Live × β → α → Live × β) (h : ∀ x a, (g x a).1.twin = x.1.twin) (l : List α)
    (x : Live × β) : (l.foldl g x).1.twin = x.1.twin := by
  induction l generalizing x with
  | nil => rfl
  | cons a l ih => simp [ih, h]

@[simp] theorem eng_foldl_fst {α β : Type} (g : Live × β → α → Live × β) (h : ∀ x a, (g x a).1.eng = x.1.eng) (l : List α)
    (x : Live × β) : (l.foldl g x).1.eng = x.1.eng := by
  induction l generalizing x with
  | nil => rfl
  | cons a l ih => simp [ih, h]

@[simp] theorem chi_foldl_fst {α β : Type} (g : Live × β → α → Live × β) (h : ∀ x a, (g x a).1.chi = x.1.chi) (l : List α)
    (x : Live × β) : (l.foldl g x).1.chi = x.1.chi := by
  induction l generalizing x with
  | nil => rfl
  | cons a l ih => simp [ih, h]

@[simp] theorem cap_foldl_fst {α β : Type} (g : Live × β → α → Live × β) (h : ∀ x a, (g x a).1.cap = x.1.cap) (l : List α)
    (x : Live × β) : (l.foldl g x).1.cap = x.1.cap := by
  induction l generalizing x with
  | nil => rfl
  | cons a l ih => simp [ih, h]

@[simp] theorem est_foldl_fst {α β : Type} (g : Live × β → α → Live × β) (h : ∀ x a, (g x a).1.est = x.1.est) (l : List α)
    (x : Live × β) : (l.foldl g x).1.est = x.1.est := by
  induction l generalizing x with
  | nil => rfl
  | cons a l ih => simp [ih, h]

@[simp] theorem th_foldl_fst {α β : Type} (g : Live × β → α → Live × β) (h : ∀ x a, (g x a).1.th = x.1.th) (l : List α)
    (x : Live × β) : (l.foldl g x).1.th = x.1.th := by
  induction l generalizing x with
  | nil => rfl
  | cons a l ih => simp [ih, h]

@[simp] theorem com_foldl_fst {α β : Type} (g : Live × β → α → Live × β) (h : ∀ x a, (g x a).1.com = x.1.com) (l : List α)
    (x : Live × β) : (l.foldl g x).1.com = x.1.com := by
  induction l generalizing x with
  | nil => rfl
  | cons a l ih => simp [ih, h]

@[simp] theorem mgr_foldl_fst {α β : Type} (g : Live × β → α → Live × β) (h : ∀ x a, (g x a).1.mgr = x.1.mgr) (l : List α)
    (x : Live × β) : (l.foldl g x).1.mgr = x.1.mgr := by
  induction l generalizing x with
  | nil => rfl
  | cons a l ih => simp [ih, h]

@[simp] theorem lgc_foldl_fst {α β : Type} (g : Live × β → α → Live × β) (h : ∀ x a, (g x a).1.lgc = x.1.lgc) (l : List α)
    (x : Live × β) : (l.foldl g x).1.lgc = x.1.lgc := by
  induction l generalizing x with
  | nil => rfl
  | cons a l ih => simp [ih, h]

@[simp] theorem upd_foldl_fst {α β : Type} (g : Live × β → α → Live × β) (h : ∀ x a, (g x a).1.upd = x.1.upd) (l : List α)
    (x : Live × β) : (l.foldl g x).1.upd = x.1.upd := by
  induction l generalizing x with
  | nil => rfl
  | cons a l ih => simp [ih, h]

@[simp] theorem jrn_foldl_fst {α β : Type} (g : Live × β → α → Live × β) (h : ∀ x a, (g x a).1.jrn = x.1.jrn) (l : List α)
    (x : Live × β) : (l.foldl g x).1.jrn = x.1.jrn := by
  induction l generalizing x with
  | nil => rfl
  | cons a l ih => simp [ih, h]

@[simp] theorem dbg_foldl_fst {α β : Type} (g : Live × β → α → Live × β) (h : ∀ x a, (g x a).1.dbg = x.1.dbg) (l : List α)
    (x : Live × β) : (l.foldl g x).1.dbg = x.1.dbg := by
  induction l generalizing x with
  | nil => rfl
  | cons a l ih => simp [ih, h]

@[simp] theorem ret_foldl_fst {α β : Type} (g : Live × β → α → Live × β) (h : ∀ x a, (g x a).1.ret = x.1.ret) (l : List α)
    (x : Live × β) : (l.foldl g x).1.ret = x.1.ret := by
  induction l generalizing x with
  | nil => rfl
  | cons a l ih => simp [ih, h]

@[simp] theorem obj_foldl_fst {α β : Type} (g : Live × β → α → Live × β) (h : ∀ x a, (g x a).1.obj = x.1.obj) (l : List α)
    (x : Live × β) : (l.foldl g x).1.obj = x.1.obj := by
  induction l generalizing x with
  | nil => rfl
  | cons a l ih => simp [ih, h]

@[simp] theorem blob_foldl_fst {α β : Type} (g : Live × β → α → Live × β) (h : ∀ x a, (g x a).1.blob = x.1.blob) (l : List α)
    (x : Live × β) : (l.foldl g x).1.blob = x.1.blob := by
  induction l generalizing x with
  | nil => rfl
  | cons a l ih => simp [ih, h]

@[simp] theorem out_foldl_fst {α β : Type} (g : Live × β → α → Live × β) (h : ∀ x a, (g x a).1.out = x.1.out) (l : List α)
    (x : Live × β) : (l.foldl g x).1.out = x.1.out := by
  induction l generalizing x with
  | nil => rfl
  | cons a l ih => simp [ih, h]

@[simp] theorem free_foldl_fst {α β : Type} (g : Live × β → α → Live × β) (h : ∀ x a, (g x a).1.free = x.1.free) (l : List α)
    (x : Live × β) : (l.foldl g x).1.free = x.1.free := by
  induction l generalizing x with
  | nil => rfl
  | cons a l ih => simp [ih, h]

/-- What holds of a block and is kept by each step of a fold holds after it. -/
theorem foldl_inv {α : Type} (P : Live → Prop) (g : Live → α → Live) (h : ∀ L a, P L → P (g L a)) (l : List α) (L : Live)
    (hL : P L) : P (l.foldl g L) := by
  induction l generalizing L with
  | nil => exact hL
  | cons a l ih => exact ih _ (h _ _ hL)

end Sys2Proof
end

