-- ==== Sys2Proof/Laws/FrameOps.lean ====
section
/-! SUPPORT. What each operation of Machine/Ops.lean leaves as it is. -/

namespace Sys2Proof.Machine

open Sys2Proof

@[simp] theorem Live.put_frame (L : Live) (k : Nat) (v : Int) :
    (Live.put L k v).mode = L.mode ∧
    (Live.put L k v).pins = L.pins ∧
    (Live.put L k v).time = L.time ∧
    (Live.put L k v).ks = L.ks ∧
    (Live.put L k v).rcd = L.rcd ∧
    (Live.put L k v).saf = L.saf ∧
    (Live.put L k v).seg = L.seg ∧
    (Live.put L k v).node = L.node ∧
    (Live.put L k v).conv = L.conv ∧
    (Live.put L k v).twin = L.twin ∧
    (Live.put L k v).eng = L.eng ∧
    (Live.put L k v).chi = L.chi ∧
    (Live.put L k v).cap = L.cap ∧
    (Live.put L k v).est = L.est ∧
    (Live.put L k v).th = L.th ∧
    (Live.put L k v).com = L.com ∧
    (Live.put L k v).mgr = L.mgr ∧
    (Live.put L k v).lgc = L.lgc ∧
    (Live.put L k v).upd = L.upd ∧
    (Live.put L k v).jrn = L.jrn ∧
    (Live.put L k v).dbg = L.dbg ∧
    (Live.put L k v).ret = L.ret ∧
    (Live.put L k v).blob = L.blob ∧
    (Live.put L k v).out = L.out ∧
    (Live.put L k v).free = L.free := by
  simp [Live.put]

@[simp] theorem Live.bump_frame (L : Live) (k n bits : Nat) :
    (Live.bump L k n bits).mode = L.mode ∧
    (Live.bump L k n bits).pins = L.pins ∧
    (Live.bump L k n bits).time = L.time ∧
    (Live.bump L k n bits).ks = L.ks ∧
    (Live.bump L k n bits).rcd = L.rcd ∧
    (Live.bump L k n bits).saf = L.saf ∧
    (Live.bump L k n bits).seg = L.seg ∧
    (Live.bump L k n bits).node = L.node ∧
    (Live.bump L k n bits).conv = L.conv ∧
    (Live.bump L k n bits).twin = L.twin ∧
    (Live.bump L k n bits).eng = L.eng ∧
    (Live.bump L k n bits).chi = L.chi ∧
    (Live.bump L k n bits).cap = L.cap ∧
    (Live.bump L k n bits).est = L.est ∧
    (Live.bump L k n bits).th = L.th ∧
    (Live.bump L k n bits).com = L.com ∧
    (Live.bump L k n bits).mgr = L.mgr ∧
    (Live.bump L k n bits).lgc = L.lgc ∧
    (Live.bump L k n bits).upd = L.upd ∧
    (Live.bump L k n bits).jrn = L.jrn ∧
    (Live.bump L k n bits).dbg = L.dbg ∧
    (Live.bump L k n bits).ret = L.ret ∧
    (Live.bump L k n bits).blob = L.blob ∧
    (Live.bump L k n bits).out = L.out ∧
    (Live.bump L k n bits).free = L.free := by
  simp [Live.bump]

@[simp] theorem Live.putBlob_frame (L : Live) (k : Nat) (v : Bytes) :
    (Live.putBlob L k v).mode = L.mode ∧
    (Live.putBlob L k v).pins = L.pins ∧
    (Live.putBlob L k v).time = L.time ∧
    (Live.putBlob L k v).ks = L.ks ∧
    (Live.putBlob L k v).rcd = L.rcd ∧
    (Live.putBlob L k v).saf = L.saf ∧
    (Live.putBlob L k v).seg = L.seg ∧
    (Live.putBlob L k v).node = L.node ∧
    (Live.putBlob L k v).conv = L.conv ∧
    (Live.putBlob L k v).twin = L.twin ∧
    (Live.putBlob L k v).eng = L.eng ∧
    (Live.putBlob L k v).chi = L.chi ∧
    (Live.putBlob L k v).cap = L.cap ∧
    (Live.putBlob L k v).est = L.est ∧
    (Live.putBlob L k v).th = L.th ∧
    (Live.putBlob L k v).com = L.com ∧
    (Live.putBlob L k v).mgr = L.mgr ∧
    (Live.putBlob L k v).lgc = L.lgc ∧
    (Live.putBlob L k v).upd = L.upd ∧
    (Live.putBlob L k v).jrn = L.jrn ∧
    (Live.putBlob L k v).dbg = L.dbg ∧
    (Live.putBlob L k v).ret = L.ret ∧
    (Live.putBlob L k v).obj = L.obj ∧
    (Live.putBlob L k v).out = L.out ∧
    (Live.putBlob L k v).free = L.free := by
  simp [Live.putBlob]

@[simp] theorem Live.pass_frame (L : Live) (d : Nat) :
    (Live.pass L d).mode = L.mode ∧
    (Live.pass L d).pins = L.pins ∧
    (Live.pass L d).ks = L.ks ∧
    (Live.pass L d).rcd = L.rcd ∧
    (Live.pass L d).saf = L.saf ∧
    (Live.pass L d).seg = L.seg ∧
    (Live.pass L d).node = L.node ∧
    (Live.pass L d).conv = L.conv ∧
    (Live.pass L d).twin = L.twin ∧
    (Live.pass L d).eng = L.eng ∧
    (Live.pass L d).chi = L.chi ∧
    (Live.pass L d).cap = L.cap ∧
    (Live.pass L d).est = L.est ∧
    (Live.pass L d).th = L.th ∧
    (Live.pass L d).com = L.com ∧
    (Live.pass L d).mgr = L.mgr ∧
    (Live.pass L d).lgc = L.lgc ∧
    (Live.pass L d).upd = L.upd ∧
    (Live.pass L d).jrn = L.jrn ∧
    (Live.pass L d).dbg = L.dbg ∧
    (Live.pass L d).ret = L.ret ∧
    (Live.pass L d).obj = L.obj ∧
    (Live.pass L d).blob = L.blob ∧
    (Live.pass L d).out = L.out ∧
    (Live.pass L d).free = L.free := by
  simp [Live.pass]

@[simp] theorem Live.toPhase_frame (L : Live) (period at_ : Nat) :
    (Live.toPhase L period at_).mode = L.mode ∧
    (Live.toPhase L period at_).pins = L.pins ∧
    (Live.toPhase L period at_).ks = L.ks ∧
    (Live.toPhase L period at_).rcd = L.rcd ∧
    (Live.toPhase L period at_).saf = L.saf ∧
    (Live.toPhase L period at_).seg = L.seg ∧
    (Live.toPhase L period at_).node = L.node ∧
    (Live.toPhase L period at_).conv = L.conv ∧
    (Live.toPhase L period at_).twin = L.twin ∧
    (Live.toPhase L period at_).eng = L.eng ∧
    (Live.toPhase L period at_).chi = L.chi ∧
    (Live.toPhase L period at_).cap = L.cap ∧
    (Live.toPhase L period at_).est = L.est ∧
    (Live.toPhase L period at_).th = L.th ∧
    (Live.toPhase L period at_).com = L.com ∧
    (Live.toPhase L period at_).mgr = L.mgr ∧
    (Live.toPhase L period at_).lgc = L.lgc ∧
    (Live.toPhase L period at_).upd = L.upd ∧
    (Live.toPhase L period at_).jrn = L.jrn ∧
    (Live.toPhase L period at_).dbg = L.dbg ∧
    (Live.toPhase L period at_).ret = L.ret ∧
    (Live.toPhase L period at_).obj = L.obj ∧
    (Live.toPhase L period at_).blob = L.blob ∧
    (Live.toPhase L period at_).out = L.out ∧
    (Live.toPhase L period at_).free = L.free := by
  simp [Live.toPhase]

@[simp] theorem Live.reach_frame (L : Live) (t : Nat) :
    (Live.reach L t).mode = L.mode ∧
    (Live.reach L t).pins = L.pins ∧
    (Live.reach L t).ks = L.ks ∧
    (Live.reach L t).rcd = L.rcd ∧
    (Live.reach L t).saf = L.saf ∧
    (Live.reach L t).seg = L.seg ∧
    (Live.reach L t).node = L.node ∧
    (Live.reach L t).conv = L.conv ∧
    (Live.reach L t).twin = L.twin ∧
    (Live.reach L t).eng = L.eng ∧
    (Live.reach L t).chi = L.chi ∧
    (Live.reach L t).cap = L.cap ∧
    (Live.reach L t).est = L.est ∧
    (Live.reach L t).th = L.th ∧
    (Live.reach L t).com = L.com ∧
    (Live.reach L t).mgr = L.mgr ∧
    (Live.reach L t).lgc = L.lgc ∧
    (Live.reach L t).upd = L.upd ∧
    (Live.reach L t).jrn = L.jrn ∧
    (Live.reach L t).dbg = L.dbg ∧
    (Live.reach L t).ret = L.ret ∧
    (Live.reach L t).obj = L.obj ∧
    (Live.reach L t).blob = L.blob ∧
    (Live.reach L t).out = L.out ∧
    (Live.reach L t).free = L.free := by
  simp [Live.reach]

@[simp] theorem Live.toMark_frame (L : Live) (p : Nat) :
    (Live.toMark L p).mode = L.mode ∧
    (Live.toMark L p).pins = L.pins ∧
    (Live.toMark L p).ks = L.ks ∧
    (Live.toMark L p).rcd = L.rcd ∧
    (Live.toMark L p).saf = L.saf ∧
    (Live.toMark L p).seg = L.seg ∧
    (Live.toMark L p).node = L.node ∧
    (Live.toMark L p).conv = L.conv ∧
    (Live.toMark L p).twin = L.twin ∧
    (Live.toMark L p).eng = L.eng ∧
    (Live.toMark L p).chi = L.chi ∧
    (Live.toMark L p).cap = L.cap ∧
    (Live.toMark L p).est = L.est ∧
    (Live.toMark L p).th = L.th ∧
    (Live.toMark L p).com = L.com ∧
    (Live.toMark L p).mgr = L.mgr ∧
    (Live.toMark L p).lgc = L.lgc ∧
    (Live.toMark L p).upd = L.upd ∧
    (Live.toMark L p).jrn = L.jrn ∧
    (Live.toMark L p).dbg = L.dbg ∧
    (Live.toMark L p).ret = L.ret ∧
    (Live.toMark L p).obj = L.obj ∧
    (Live.toMark L p).blob = L.blob ∧
    (Live.toMark L p).out = L.out ∧
    (Live.toMark L p).free = L.free := by
  simp [Live.toMark]

@[simp] theorem Live.breakClean_frame (L : Live) :
    (Live.breakClean L).mode = L.mode ∧
    (Live.breakClean L).pins = L.pins ∧
    (Live.breakClean L).time = L.time ∧
    (Live.breakClean L).ks = L.ks ∧
    (Live.breakClean L).rcd = L.rcd ∧
    (Live.breakClean L).saf = L.saf ∧
    (Live.breakClean L).seg = L.seg ∧
    (Live.breakClean L).node = L.node ∧
    (Live.breakClean L).conv = L.conv ∧
    (Live.breakClean L).twin = L.twin ∧
    (Live.breakClean L).eng = L.eng ∧
    (Live.breakClean L).chi = L.chi ∧
    (Live.breakClean L).cap = L.cap ∧
    (Live.breakClean L).est = L.est ∧
    (Live.breakClean L).th = L.th ∧
    (Live.breakClean L).com = L.com ∧
    (Live.breakClean L).mgr = L.mgr ∧
    (Live.breakClean L).lgc = L.lgc ∧
    (Live.breakClean L).jrn = L.jrn ∧
    (Live.breakClean L).dbg = L.dbg ∧
    (Live.breakClean L).ret = L.ret ∧
    (Live.breakClean L).obj = L.obj ∧
    (Live.breakClean L).blob = L.blob ∧
    (Live.breakClean L).out = L.out ∧
    (Live.breakClean L).free = L.free := by
  simp [Live.breakClean]

@[simp] theorem Live.emit_frame (L : Live) (o : Out) :
    (Live.emit L o).mode = L.mode ∧
    (Live.emit L o).pins = L.pins ∧
    (Live.emit L o).time = L.time ∧
    (Live.emit L o).ks = L.ks ∧
    (Live.emit L o).rcd = L.rcd ∧
    (Live.emit L o).saf = L.saf ∧
    (Live.emit L o).seg = L.seg ∧
    (Live.emit L o).node = L.node ∧
    (Live.emit L o).conv = L.conv ∧
    (Live.emit L o).twin = L.twin ∧
    (Live.emit L o).eng = L.eng ∧
    (Live.emit L o).chi = L.chi ∧
    (Live.emit L o).cap = L.cap ∧
    (Live.emit L o).est = L.est ∧
    (Live.emit L o).th = L.th ∧
    (Live.emit L o).com = L.com ∧
    (Live.emit L o).mgr = L.mgr ∧
    (Live.emit L o).lgc = L.lgc ∧
    (Live.emit L o).upd = L.upd ∧
    (Live.emit L o).jrn = L.jrn ∧
    (Live.emit L o).dbg = L.dbg ∧
    (Live.emit L o).ret = L.ret ∧
    (Live.emit L o).obj = L.obj ∧
    (Live.emit L o).blob = L.blob ∧
    (Live.emit L o).free = L.free := by
  simp [Live.emit]

@[simp] theorem Live.modConn_frame (L : Live) (conn : Nat) (f : MbConn → MbConn) :
    (Live.modConn L conn f).mode = L.mode ∧
    (Live.modConn L conn f).pins = L.pins ∧
    (Live.modConn L conn f).time = L.time ∧
    (Live.modConn L conn f).ks = L.ks ∧
    (Live.modConn L conn f).rcd = L.rcd ∧
    (Live.modConn L conn f).saf = L.saf ∧
    (Live.modConn L conn f).seg = L.seg ∧
    (Live.modConn L conn f).node = L.node ∧
    (Live.modConn L conn f).conv = L.conv ∧
    (Live.modConn L conn f).twin = L.twin ∧
    (Live.modConn L conn f).eng = L.eng ∧
    (Live.modConn L conn f).chi = L.chi ∧
    (Live.modConn L conn f).cap = L.cap ∧
    (Live.modConn L conn f).est = L.est ∧
    (Live.modConn L conn f).th = L.th ∧
    (Live.modConn L conn f).com = L.com ∧
    (Live.modConn L conn f).lgc = L.lgc ∧
    (Live.modConn L conn f).upd = L.upd ∧
    (Live.modConn L conn f).jrn = L.jrn ∧
    (Live.modConn L conn f).dbg = L.dbg ∧
    (Live.modConn L conn f).ret = L.ret ∧
    (Live.modConn L conn f).obj = L.obj ∧
    (Live.modConn L conn f).blob = L.blob ∧
    (Live.modConn L conn f).out = L.out ∧
    (Live.modConn L conn f).free = L.free := by
  simp [Live.modConn]

@[simp] theorem Live.mbPick_frame (L : Live) (s : Sess) (k : Nat) (read : Bool) :
    (Live.mbPick L s k read).mode = L.mode ∧
    (Live.mbPick L s k read).pins = L.pins ∧
    (Live.mbPick L s k read).time = L.time ∧
    (Live.mbPick L s k read).ks = L.ks ∧
    (Live.mbPick L s k read).rcd = L.rcd ∧
    (Live.mbPick L s k read).saf = L.saf ∧
    (Live.mbPick L s k read).seg = L.seg ∧
    (Live.mbPick L s k read).node = L.node ∧
    (Live.mbPick L s k read).conv = L.conv ∧
    (Live.mbPick L s k read).twin = L.twin ∧
    (Live.mbPick L s k read).eng = L.eng ∧
    (Live.mbPick L s k read).chi = L.chi ∧
    (Live.mbPick L s k read).cap = L.cap ∧
    (Live.mbPick L s k read).est = L.est ∧
    (Live.mbPick L s k read).th = L.th ∧
    (Live.mbPick L s k read).com = L.com ∧
    (Live.mbPick L s k read).lgc = L.lgc ∧
    (Live.mbPick L s k read).upd = L.upd ∧
    (Live.mbPick L s k read).jrn = L.jrn ∧
    (Live.mbPick L s k read).dbg = L.dbg ∧
    (Live.mbPick L s k read).ret = L.ret ∧
    (Live.mbPick L s k read).obj = L.obj ∧
    (Live.mbPick L s k read).blob = L.blob ∧
    (Live.mbPick L s k read).out = L.out ∧
    (Live.mbPick L s k read).free = L.free := by
  simp [Live.mbPick]

@[simp] theorem Live.mbAnswer_frame (L : Live) (conn abort : Nat) (data : Bytes) :
    (Live.mbAnswer L conn abort data).mode = L.mode ∧
    (Live.mbAnswer L conn abort data).pins = L.pins ∧
    (Live.mbAnswer L conn abort data).time = L.time ∧
    (Live.mbAnswer L conn abort data).ks = L.ks ∧
    (Live.mbAnswer L conn abort data).rcd = L.rcd ∧
    (Live.mbAnswer L conn abort data).saf = L.saf ∧
    (Live.mbAnswer L conn abort data).seg = L.seg ∧
    (Live.mbAnswer L conn abort data).node = L.node ∧
    (Live.mbAnswer L conn abort data).conv = L.conv ∧
    (Live.mbAnswer L conn abort data).twin = L.twin ∧
    (Live.mbAnswer L conn abort data).eng = L.eng ∧
    (Live.mbAnswer L conn abort data).chi = L.chi ∧
    (Live.mbAnswer L conn abort data).cap = L.cap ∧
    (Live.mbAnswer L conn abort data).est = L.est ∧
    (Live.mbAnswer L conn abort data).th = L.th ∧
    (Live.mbAnswer L conn abort data).com = L.com ∧
    (Live.mbAnswer L conn abort data).lgc = L.lgc ∧
    (Live.mbAnswer L conn abort data).upd = L.upd ∧
    (Live.mbAnswer L conn abort data).jrn = L.jrn ∧
    (Live.mbAnswer L conn abort data).dbg = L.dbg ∧
    (Live.mbAnswer L conn abort data).ret = L.ret ∧
    (Live.mbAnswer L conn abort data).obj = L.obj ∧
    (Live.mbAnswer L conn abort data).blob = L.blob ∧
    (Live.mbAnswer L conn abort data).free = L.free := by
  simp only [Live.mbAnswer]
  (repeat' split) <;> simp

@[simp] theorem Live.dbgAnswer_frame (L : Live) (code : Nat) (data : Bytes) :
    (Live.dbgAnswer L code data).mode = L.mode ∧
    (Live.dbgAnswer L code data).pins = L.pins ∧
    (Live.dbgAnswer L code data).time = L.time ∧
    (Live.dbgAnswer L code data).ks = L.ks ∧
    (Live.dbgAnswer L code data).rcd = L.rcd ∧
    (Live.dbgAnswer L code data).saf = L.saf ∧
    (Live.dbgAnswer L code data).seg = L.seg ∧
    (Live.dbgAnswer L code data).node = L.node ∧
    (Live.dbgAnswer L code data).conv = L.conv ∧
    (Live.dbgAnswer L code data).twin = L.twin ∧
    (Live.dbgAnswer L code data).eng = L.eng ∧
    (Live.dbgAnswer L code data).chi = L.chi ∧
    (Live.dbgAnswer L code data).cap = L.cap ∧
    (Live.dbgAnswer L code data).est = L.est ∧
    (Live.dbgAnswer L code data).th = L.th ∧
    (Live.dbgAnswer L code data).com = L.com ∧
    (Live.dbgAnswer L code data).mgr = L.mgr ∧
    (Live.dbgAnswer L code data).lgc = L.lgc ∧
    (Live.dbgAnswer L code data).upd = L.upd ∧
    (Live.dbgAnswer L code data).jrn = L.jrn ∧
    (Live.dbgAnswer L code data).ret = L.ret ∧
    (Live.dbgAnswer L code data).obj = L.obj ∧
    (Live.dbgAnswer L code data).blob = L.blob ∧
    (Live.dbgAnswer L code data).free = L.free := by
  simp only [Live.dbgAnswer]
  (repeat' split) <;> simp

@[simp] theorem Live.enqueueOn_frame (L : Live) (on : List Nat) (fr : TxFrame) :
    (Live.enqueueOn L on fr).mode = L.mode ∧
    (Live.enqueueOn L on fr).pins = L.pins ∧
    (Live.enqueueOn L on fr).time = L.time ∧
    (Live.enqueueOn L on fr).ks = L.ks ∧
    (Live.enqueueOn L on fr).rcd = L.rcd ∧
    (Live.enqueueOn L on fr).saf = L.saf ∧
    (Live.enqueueOn L on fr).seg = L.seg ∧
    (Live.enqueueOn L on fr).node = L.node ∧
    (Live.enqueueOn L on fr).conv = L.conv ∧
    (Live.enqueueOn L on fr).twin = L.twin ∧
    (Live.enqueueOn L on fr).eng = L.eng ∧
    (Live.enqueueOn L on fr).chi = L.chi ∧
    (Live.enqueueOn L on fr).cap = L.cap ∧
    (Live.enqueueOn L on fr).est = L.est ∧
    (Live.enqueueOn L on fr).th = L.th ∧
    (Live.enqueueOn L on fr).mgr = L.mgr ∧
    (Live.enqueueOn L on fr).lgc = L.lgc ∧
    (Live.enqueueOn L on fr).upd = L.upd ∧
    (Live.enqueueOn L on fr).jrn = L.jrn ∧
    (Live.enqueueOn L on fr).dbg = L.dbg ∧
    (Live.enqueueOn L on fr).ret = L.ret ∧
    (Live.enqueueOn L on fr).obj = L.obj ∧
    (Live.enqueueOn L on fr).blob = L.blob ∧
    (Live.enqueueOn L on fr).out = L.out ∧
    (Live.enqueueOn L on fr).free = L.free := by
  simp [Live.enqueueOn]

@[simp] theorem Live.enqueueAt_frame (L : Live) (bus : Nat) (f : CanFrame) (cls who t : Nat) (rerouted : Bool) :
    (Live.enqueueAt L bus f cls who t rerouted).mode = L.mode ∧
    (Live.enqueueAt L bus f cls who t rerouted).pins = L.pins ∧
    (Live.enqueueAt L bus f cls who t rerouted).time = L.time ∧
    (Live.enqueueAt L bus f cls who t rerouted).ks = L.ks ∧
    (Live.enqueueAt L bus f cls who t rerouted).rcd = L.rcd ∧
    (Live.enqueueAt L bus f cls who t rerouted).saf = L.saf ∧
    (Live.enqueueAt L bus f cls who t rerouted).seg = L.seg ∧
    (Live.enqueueAt L bus f cls who t rerouted).node = L.node ∧
    (Live.enqueueAt L bus f cls who t rerouted).conv = L.conv ∧
    (Live.enqueueAt L bus f cls who t rerouted).twin = L.twin ∧
    (Live.enqueueAt L bus f cls who t rerouted).eng = L.eng ∧
    (Live.enqueueAt L bus f cls who t rerouted).chi = L.chi ∧
    (Live.enqueueAt L bus f cls who t rerouted).cap = L.cap ∧
    (Live.enqueueAt L bus f cls who t rerouted).est = L.est ∧
    (Live.enqueueAt L bus f cls who t rerouted).th = L.th ∧
    (Live.enqueueAt L bus f cls who t rerouted).mgr = L.mgr ∧
    (Live.enqueueAt L bus f cls who t rerouted).lgc = L.lgc ∧
    (Live.enqueueAt L bus f cls who t rerouted).upd = L.upd ∧
    (Live.enqueueAt L bus f cls who t rerouted).jrn = L.jrn ∧
    (Live.enqueueAt L bus f cls who t rerouted).dbg = L.dbg ∧
    (Live.enqueueAt L bus f cls who t rerouted).ret = L.ret ∧
    (Live.enqueueAt L bus f cls who t rerouted).obj = L.obj ∧
    (Live.enqueueAt L bus f cls who t rerouted).blob = L.blob ∧
    (Live.enqueueAt L bus f cls who t rerouted).out = L.out ∧
    (Live.enqueueAt L bus f cls who t rerouted).free = L.free := by
  simp [Live.enqueueAt]

@[simp] theorem Live.canAnswer_frame (L : Live) (s : Sess) (abort : Nat) (data : Bytes) :
    (Live.canAnswer L s abort data).mode = L.mode ∧
    (Live.canAnswer L s abort data).pins = L.pins ∧
    (Live.canAnswer L s abort data).time = L.time ∧
    (Live.canAnswer L s abort data).ks = L.ks ∧
    (Live.canAnswer L s abort data).rcd = L.rcd ∧
    (Live.canAnswer L s abort data).saf = L.saf ∧
    (Live.canAnswer L s abort data).seg = L.seg ∧
    (Live.canAnswer L s abort data).node = L.node ∧
    (Live.canAnswer L s abort data).conv = L.conv ∧
    (Live.canAnswer L s abort data).twin = L.twin ∧
    (Live.canAnswer L s abort data).eng = L.eng ∧
    (Live.canAnswer L s abort data).chi = L.chi ∧
    (Live.canAnswer L s abort data).cap = L.cap ∧
    (Live.canAnswer L s abort data).est = L.est ∧
    (Live.canAnswer L s abort data).th = L.th ∧
    (Live.canAnswer L s abort data).mgr = L.mgr ∧
    (Live.canAnswer L s abort data).lgc = L.lgc ∧
    (Live.canAnswer L s abort data).upd = L.upd ∧
    (Live.canAnswer L s abort data).jrn = L.jrn ∧
    (Live.canAnswer L s abort data).dbg = L.dbg ∧
    (Live.canAnswer L s abort data).ret = L.ret ∧
    (Live.canAnswer L s abort data).obj = L.obj ∧
    (Live.canAnswer L s abort data).blob = L.blob ∧
    (Live.canAnswer L s abort data).out = L.out ∧
    (Live.canAnswer L s abort data).free = L.free := by
  simp [Live.canAnswer]

@[simp] theorem Live.answer_frame (L : Live) (s : Sess) (abort : Nat) (data : Bytes) :
    (Live.answer L s abort data).mode = L.mode ∧
    (Live.answer L s abort data).pins = L.pins ∧
    (Live.answer L s abort data).time = L.time ∧
    (Live.answer L s abort data).ks = L.ks ∧
    (Live.answer L s abort data).rcd = L.rcd ∧
    (Live.answer L s abort data).saf = L.saf ∧
    (Live.answer L s abort data).seg = L.seg ∧
    (Live.answer L s abort data).node = L.node ∧
    (Live.answer L s abort data).conv = L.conv ∧
    (Live.answer L s abort data).twin = L.twin ∧
    (Live.answer L s abort data).eng = L.eng ∧
    (Live.answer L s abort data).chi = L.chi ∧
    (Live.answer L s abort data).cap = L.cap ∧
    (Live.answer L s abort data).est = L.est ∧
    (Live.answer L s abort data).th = L.th ∧
    (Live.answer L s abort data).lgc = L.lgc ∧
    (Live.answer L s abort data).upd = L.upd ∧
    (Live.answer L s abort data).jrn = L.jrn ∧
    (Live.answer L s abort data).ret = L.ret ∧
    (Live.answer L s abort data).obj = L.obj ∧
    (Live.answer L s abort data).blob = L.blob ∧
    (Live.answer L s abort data).free = L.free := by
  simp [Live.answer]

@[simp] theorem Live.startPort_frame (L : Live) (m : Option (Announce × Nat)) :
    (Live.startPort L m).mode = L.mode ∧
    (Live.startPort L m).pins = L.pins ∧
    (Live.startPort L m).time = L.time ∧
    (Live.startPort L m).ks = L.ks ∧
    (Live.startPort L m).rcd = L.rcd ∧
    (Live.startPort L m).saf = L.saf ∧
    (Live.startPort L m).seg = L.seg ∧
    (Live.startPort L m).node = L.node ∧
    (Live.startPort L m).conv = L.conv ∧
    (Live.startPort L m).twin = L.twin ∧
    (Live.startPort L m).eng = L.eng ∧
    (Live.startPort L m).chi = L.chi ∧
    (Live.startPort L m).cap = L.cap ∧
    (Live.startPort L m).est = L.est ∧
    (Live.startPort L m).th = L.th ∧
    (Live.startPort L m).com = L.com ∧
    (Live.startPort L m).lgc = L.lgc ∧
    (Live.startPort L m).upd = L.upd ∧
    (Live.startPort L m).jrn = L.jrn ∧
    (Live.startPort L m).dbg = L.dbg ∧
    (Live.startPort L m).ret = L.ret ∧
    (Live.startPort L m).blob = L.blob ∧
    (Live.startPort L m).out = L.out ∧
    (Live.startPort L m).free = L.free := by
  simp [Live.startPort]

@[simp] theorem Live.sendEmcy_frame (L : Live) (eec err code cls seq : Nat) :
    (Live.sendEmcy L eec err code cls seq).mode = L.mode ∧
    (Live.sendEmcy L eec err code cls seq).pins = L.pins ∧
    (Live.sendEmcy L eec err code cls seq).time = L.time ∧
    (Live.sendEmcy L eec err code cls seq).ks = L.ks ∧
    (Live.sendEmcy L eec err code cls seq).saf = L.saf ∧
    (Live.sendEmcy L eec err code cls seq).seg = L.seg ∧
    (Live.sendEmcy L eec err code cls seq).node = L.node ∧
    (Live.sendEmcy L eec err code cls seq).conv = L.conv ∧
    (Live.sendEmcy L eec err code cls seq).twin = L.twin ∧
    (Live.sendEmcy L eec err code cls seq).eng = L.eng ∧
    (Live.sendEmcy L eec err code cls seq).chi = L.chi ∧
    (Live.sendEmcy L eec err code cls seq).cap = L.cap ∧
    (Live.sendEmcy L eec err code cls seq).est = L.est ∧
    (Live.sendEmcy L eec err code cls seq).th = L.th ∧
    (Live.sendEmcy L eec err code cls seq).mgr = L.mgr ∧
    (Live.sendEmcy L eec err code cls seq).lgc = L.lgc ∧
    (Live.sendEmcy L eec err code cls seq).upd = L.upd ∧
    (Live.sendEmcy L eec err code cls seq).jrn = L.jrn ∧
    (Live.sendEmcy L eec err code cls seq).dbg = L.dbg ∧
    (Live.sendEmcy L eec err code cls seq).ret = L.ret ∧
    (Live.sendEmcy L eec err code cls seq).obj = L.obj ∧
    (Live.sendEmcy L eec err code cls seq).blob = L.blob ∧
    (Live.sendEmcy L eec err code cls seq).out = L.out ∧
    (Live.sendEmcy L eec err code cls seq).free = L.free := by
  simp [Live.sendEmcy]

@[simp] theorem Live.setConds_frame (L : Live) (cs : List Cond) :
    (Live.setConds L cs).mode = L.mode ∧
    (Live.setConds L cs).pins = L.pins ∧
    (Live.setConds L cs).time = L.time ∧
    (Live.setConds L cs).ks = L.ks ∧
    (Live.setConds L cs).saf = L.saf ∧
    (Live.setConds L cs).seg = L.seg ∧
    (Live.setConds L cs).node = L.node ∧
    (Live.setConds L cs).conv = L.conv ∧
    (Live.setConds L cs).twin = L.twin ∧
    (Live.setConds L cs).eng = L.eng ∧
    (Live.setConds L cs).chi = L.chi ∧
    (Live.setConds L cs).cap = L.cap ∧
    (Live.setConds L cs).est = L.est ∧
    (Live.setConds L cs).th = L.th ∧
    (Live.setConds L cs).mgr = L.mgr ∧
    (Live.setConds L cs).lgc = L.lgc ∧
    (Live.setConds L cs).upd = L.upd ∧
    (Live.setConds L cs).jrn = L.jrn ∧
    (Live.setConds L cs).dbg = L.dbg ∧
    (Live.setConds L cs).ret = L.ret ∧
    (Live.setConds L cs).obj = L.obj ∧
    (Live.setConds L cs).blob = L.blob ∧
    (Live.setConds L cs).out = L.out ∧
    (Live.setConds L cs).free = L.free := by
  simp [Live.setConds]

@[simp] theorem Live.endConds_frame (L : Live) (p : Cond → Bool) :
    (Live.endConds L p).mode = L.mode ∧
    (Live.endConds L p).pins = L.pins ∧
    (Live.endConds L p).time = L.time ∧
    (Live.endConds L p).ks = L.ks ∧
    (Live.endConds L p).saf = L.saf ∧
    (Live.endConds L p).seg = L.seg ∧
    (Live.endConds L p).node = L.node ∧
    (Live.endConds L p).conv = L.conv ∧
    (Live.endConds L p).twin = L.twin ∧
    (Live.endConds L p).eng = L.eng ∧
    (Live.endConds L p).chi = L.chi ∧
    (Live.endConds L p).cap = L.cap ∧
    (Live.endConds L p).est = L.est ∧
    (Live.endConds L p).th = L.th ∧
    (Live.endConds L p).mgr = L.mgr ∧
    (Live.endConds L p).lgc = L.lgc ∧
    (Live.endConds L p).upd = L.upd ∧
    (Live.endConds L p).jrn = L.jrn ∧
    (Live.endConds L p).dbg = L.dbg ∧
    (Live.endConds L p).ret = L.ret ∧
    (Live.endConds L p).obj = L.obj ∧
    (Live.endConds L p).blob = L.blob ∧
    (Live.endConds L p).out = L.out ∧
    (Live.endConds L p).free = L.free := by
  simp [Live.endConds]

@[simp] theorem Live.oweEmcy_frame (L : Live) (before : Recorder) (src code cls : Nat) :
    (Live.oweEmcy L before src code cls).mode = L.mode ∧
    (Live.oweEmcy L before src code cls).pins = L.pins ∧
    (Live.oweEmcy L before src code cls).time = L.time ∧
    (Live.oweEmcy L before src code cls).ks = L.ks ∧
    (Live.oweEmcy L before src code cls).saf = L.saf ∧
    (Live.oweEmcy L before src code cls).seg = L.seg ∧
    (Live.oweEmcy L before src code cls).node = L.node ∧
    (Live.oweEmcy L before src code cls).conv = L.conv ∧
    (Live.oweEmcy L before src code cls).twin = L.twin ∧
    (Live.oweEmcy L before src code cls).eng = L.eng ∧
    (Live.oweEmcy L before src code cls).chi = L.chi ∧
    (Live.oweEmcy L before src code cls).cap = L.cap ∧
    (Live.oweEmcy L before src code cls).est = L.est ∧
    (Live.oweEmcy L before src code cls).th = L.th ∧
    (Live.oweEmcy L before src code cls).com = L.com ∧
    (Live.oweEmcy L before src code cls).mgr = L.mgr ∧
    (Live.oweEmcy L before src code cls).lgc = L.lgc ∧
    (Live.oweEmcy L before src code cls).upd = L.upd ∧
    (Live.oweEmcy L before src code cls).jrn = L.jrn ∧
    (Live.oweEmcy L before src code cls).dbg = L.dbg ∧
    (Live.oweEmcy L before src code cls).ret = L.ret ∧
    (Live.oweEmcy L before src code cls).obj = L.obj ∧
    (Live.oweEmcy L before src code cls).blob = L.blob ∧
    (Live.oweEmcy L before src code cls).out = L.out ∧
    (Live.oweEmcy L before src code cls).free = L.free := by
  simp only [Live.oweEmcy]
  (repeat' split) <;> simp

@[simp] theorem Live.startCond_frame (L : Live) (src code cls : Nat) (key : Bytes) :
    (Live.startCond L src code cls key).mode = L.mode ∧
    (Live.startCond L src code cls key).pins = L.pins ∧
    (Live.startCond L src code cls key).time = L.time ∧
    (Live.startCond L src code cls key).ks = L.ks ∧
    (Live.startCond L src code cls key).saf = L.saf ∧
    (Live.startCond L src code cls key).seg = L.seg ∧
    (Live.startCond L src code cls key).node = L.node ∧
    (Live.startCond L src code cls key).conv = L.conv ∧
    (Live.startCond L src code cls key).twin = L.twin ∧
    (Live.startCond L src code cls key).eng = L.eng ∧
    (Live.startCond L src code cls key).chi = L.chi ∧
    (Live.startCond L src code cls key).cap = L.cap ∧
    (Live.startCond L src code cls key).est = L.est ∧
    (Live.startCond L src code cls key).th = L.th ∧
    (Live.startCond L src code cls key).com = L.com ∧
    (Live.startCond L src code cls key).mgr = L.mgr ∧
    (Live.startCond L src code cls key).lgc = L.lgc ∧
    (Live.startCond L src code cls key).upd = L.upd ∧
    (Live.startCond L src code cls key).jrn = L.jrn ∧
    (Live.startCond L src code cls key).dbg = L.dbg ∧
    (Live.startCond L src code cls key).ret = L.ret ∧
    (Live.startCond L src code cls key).obj = L.obj ∧
    (Live.startCond L src code cls key).blob = L.blob ∧
    (Live.startCond L src code cls key).out = L.out ∧
    (Live.startCond L src code cls key).free = L.free := by
  simp [Live.startCond]

@[simp] theorem Live.raise_frame (L : Live) (src code cls : Nat) (key rest : Bytes) :
    (Live.raise L src code cls key rest).mode = L.mode ∧
    (Live.raise L src code cls key rest).pins = L.pins ∧
    (Live.raise L src code cls key rest).time = L.time ∧
    (Live.raise L src code cls key rest).ks = L.ks ∧
    (Live.raise L src code cls key rest).saf = L.saf ∧
    (Live.raise L src code cls key rest).seg = L.seg ∧
    (Live.raise L src code cls key rest).node = L.node ∧
    (Live.raise L src code cls key rest).conv = L.conv ∧
    (Live.raise L src code cls key rest).twin = L.twin ∧
    (Live.raise L src code cls key rest).eng = L.eng ∧
    (Live.raise L src code cls key rest).chi = L.chi ∧
    (Live.raise L src code cls key rest).est = L.est ∧
    (Live.raise L src code cls key rest).th = L.th ∧
    (Live.raise L src code cls key rest).mgr = L.mgr ∧
    (Live.raise L src code cls key rest).lgc = L.lgc ∧
    (Live.raise L src code cls key rest).upd = L.upd ∧
    (Live.raise L src code cls key rest).jrn = L.jrn ∧
    (Live.raise L src code cls key rest).ret = L.ret ∧
    (Live.raise L src code cls key rest).obj = L.obj ∧
    (Live.raise L src code cls key rest).blob = L.blob ∧
    (Live.raise L src code cls key rest).out = L.out ∧
    (Live.raise L src code cls key rest).free = L.free := by
  simp [Live.raise]

@[simp] theorem Live.raisePower_frame (L : Live) (what cls : Nat) (key rest : Bytes) :
    (Live.raisePower L what cls key rest).mode = L.mode ∧
    (Live.raisePower L what cls key rest).pins = L.pins ∧
    (Live.raisePower L what cls key rest).time = L.time ∧
    (Live.raisePower L what cls key rest).ks = L.ks ∧
    (Live.raisePower L what cls key rest).saf = L.saf ∧
    (Live.raisePower L what cls key rest).seg = L.seg ∧
    (Live.raisePower L what cls key rest).node = L.node ∧
    (Live.raisePower L what cls key rest).conv = L.conv ∧
    (Live.raisePower L what cls key rest).twin = L.twin ∧
    (Live.raisePower L what cls key rest).eng = L.eng ∧
    (Live.raisePower L what cls key rest).chi = L.chi ∧
    (Live.raisePower L what cls key rest).est = L.est ∧
    (Live.raisePower L what cls key rest).th = L.th ∧
    (Live.raisePower L what cls key rest).com = L.com ∧
    (Live.raisePower L what cls key rest).mgr = L.mgr ∧
    (Live.raisePower L what cls key rest).lgc = L.lgc ∧
    (Live.raisePower L what cls key rest).upd = L.upd ∧
    (Live.raisePower L what cls key rest).jrn = L.jrn ∧
    (Live.raisePower L what cls key rest).ret = L.ret ∧
    (Live.raisePower L what cls key rest).obj = L.obj ∧
    (Live.raisePower L what cls key rest).blob = L.blob ∧
    (Live.raisePower L what cls key rest).out = L.out ∧
    (Live.raisePower L what cls key rest).free = L.free := by
  simp [Live.raisePower]

@[simp] theorem Live.ev_frame (L : Live) (src code cls : Nat) (key rest : Bytes) :
    (Live.ev L src code cls key rest).mode = L.mode ∧
    (Live.ev L src code cls key rest).pins = L.pins ∧
    (Live.ev L src code cls key rest).time = L.time ∧
    (Live.ev L src code cls key rest).ks = L.ks ∧
    (Live.ev L src code cls key rest).saf = L.saf ∧
    (Live.ev L src code cls key rest).seg = L.seg ∧
    (Live.ev L src code cls key rest).node = L.node ∧
    (Live.ev L src code cls key rest).conv = L.conv ∧
    (Live.ev L src code cls key rest).twin = L.twin ∧
    (Live.ev L src code cls key rest).eng = L.eng ∧
    (Live.ev L src code cls key rest).chi = L.chi ∧
    (Live.ev L src code cls key rest).est = L.est ∧
    (Live.ev L src code cls key rest).th = L.th ∧
    (Live.ev L src code cls key rest).mgr = L.mgr ∧
    (Live.ev L src code cls key rest).lgc = L.lgc ∧
    (Live.ev L src code cls key rest).upd = L.upd ∧
    (Live.ev L src code cls key rest).jrn = L.jrn ∧
    (Live.ev L src code cls key rest).ret = L.ret ∧
    (Live.ev L src code cls key rest).obj = L.obj ∧
    (Live.ev L src code cls key rest).blob = L.blob ∧
    (Live.ev L src code cls key rest).out = L.out ∧
    (Live.ev L src code cls key rest).free = L.free := by
  simp [Live.ev]

@[simp] theorem Live.segEv_frame (L : Live) (s k code cls : Nat) (rest : Bytes) :
    (Live.segEv L s k code cls rest).mode = L.mode ∧
    (Live.segEv L s k code cls rest).pins = L.pins ∧
    (Live.segEv L s k code cls rest).time = L.time ∧
    (Live.segEv L s k code cls rest).ks = L.ks ∧
    (Live.segEv L s k code cls rest).saf = L.saf ∧
    (Live.segEv L s k code cls rest).seg = L.seg ∧
    (Live.segEv L s k code cls rest).node = L.node ∧
    (Live.segEv L s k code cls rest).conv = L.conv ∧
    (Live.segEv L s k code cls rest).twin = L.twin ∧
    (Live.segEv L s k code cls rest).eng = L.eng ∧
    (Live.segEv L s k code cls rest).chi = L.chi ∧
    (Live.segEv L s k code cls rest).est = L.est ∧
    (Live.segEv L s k code cls rest).th = L.th ∧
    (Live.segEv L s k code cls rest).mgr = L.mgr ∧
    (Live.segEv L s k code cls rest).lgc = L.lgc ∧
    (Live.segEv L s k code cls rest).upd = L.upd ∧
    (Live.segEv L s k code cls rest).jrn = L.jrn ∧
    (Live.segEv L s k code cls rest).ret = L.ret ∧
    (Live.segEv L s k code cls rest).obj = L.obj ∧
    (Live.segEv L s k code cls rest).blob = L.blob ∧
    (Live.segEv L s k code cls rest).out = L.out ∧
    (Live.segEv L s k code cls rest).free = L.free := by
  simp [Live.segEv]

@[simp] theorem Live.noteReroute_frame (L : Live) (bus n : Nat) :
    (Live.noteReroute L bus n).mode = L.mode ∧
    (Live.noteReroute L bus n).pins = L.pins ∧
    (Live.noteReroute L bus n).time = L.time ∧
    (Live.noteReroute L bus n).ks = L.ks ∧
    (Live.noteReroute L bus n).saf = L.saf ∧
    (Live.noteReroute L bus n).seg = L.seg ∧
    (Live.noteReroute L bus n).node = L.node ∧
    (Live.noteReroute L bus n).conv = L.conv ∧
    (Live.noteReroute L bus n).twin = L.twin ∧
    (Live.noteReroute L bus n).eng = L.eng ∧
    (Live.noteReroute L bus n).chi = L.chi ∧
    (Live.noteReroute L bus n).est = L.est ∧
    (Live.noteReroute L bus n).th = L.th ∧
    (Live.noteReroute L bus n).mgr = L.mgr ∧
    (Live.noteReroute L bus n).lgc = L.lgc ∧
    (Live.noteReroute L bus n).upd = L.upd ∧
    (Live.noteReroute L bus n).jrn = L.jrn ∧
    (Live.noteReroute L bus n).ret = L.ret ∧
    (Live.noteReroute L bus n).blob = L.blob ∧
    (Live.noteReroute L bus n).out = L.out ∧
    (Live.noteReroute L bus n).free = L.free := by
  simp [Live.noteReroute]

@[simp] theorem Live.enqueueClass0_frame (L : Live) (bus who : Nat) (fs : List (CanFrame × Nat)) :
    (Live.enqueueClass0 L bus who fs).mode = L.mode ∧
    (Live.enqueueClass0 L bus who fs).pins = L.pins ∧
    (Live.enqueueClass0 L bus who fs).time = L.time ∧
    (Live.enqueueClass0 L bus who fs).ks = L.ks ∧
    (Live.enqueueClass0 L bus who fs).saf = L.saf ∧
    (Live.enqueueClass0 L bus who fs).seg = L.seg ∧
    (Live.enqueueClass0 L bus who fs).node = L.node ∧
    (Live.enqueueClass0 L bus who fs).conv = L.conv ∧
    (Live.enqueueClass0 L bus who fs).twin = L.twin ∧
    (Live.enqueueClass0 L bus who fs).eng = L.eng ∧
    (Live.enqueueClass0 L bus who fs).chi = L.chi ∧
    (Live.enqueueClass0 L bus who fs).est = L.est ∧
    (Live.enqueueClass0 L bus who fs).th = L.th ∧
    (Live.enqueueClass0 L bus who fs).mgr = L.mgr ∧
    (Live.enqueueClass0 L bus who fs).lgc = L.lgc ∧
    (Live.enqueueClass0 L bus who fs).upd = L.upd ∧
    (Live.enqueueClass0 L bus who fs).jrn = L.jrn ∧
    (Live.enqueueClass0 L bus who fs).ret = L.ret ∧
    (Live.enqueueClass0 L bus who fs).blob = L.blob ∧
    (Live.enqueueClass0 L bus who fs).out = L.out ∧
    (Live.enqueueClass0 L bus who fs).free = L.free := by
  simp [Live.enqueueClass0]

@[simp] theorem Live.enqueue_frame (L : Live) (bus : Nat) (f : CanFrame) (cls who : Nat) :
    (Live.enqueue L bus f cls who).mode = L.mode ∧
    (Live.enqueue L bus f cls who).pins = L.pins ∧
    (Live.enqueue L bus f cls who).time = L.time ∧
    (Live.enqueue L bus f cls who).ks = L.ks ∧
    (Live.enqueue L bus f cls who).saf = L.saf ∧
    (Live.enqueue L bus f cls who).seg = L.seg ∧
    (Live.enqueue L bus f cls who).node = L.node ∧
    (Live.enqueue L bus f cls who).conv = L.conv ∧
    (Live.enqueue L bus f cls who).twin = L.twin ∧
    (Live.enqueue L bus f cls who).eng = L.eng ∧
    (Live.enqueue L bus f cls who).chi = L.chi ∧
    (Live.enqueue L bus f cls who).est = L.est ∧
    (Live.enqueue L bus f cls who).th = L.th ∧
    (Live.enqueue L bus f cls who).mgr = L.mgr ∧
    (Live.enqueue L bus f cls who).lgc = L.lgc ∧
    (Live.enqueue L bus f cls who).upd = L.upd ∧
    (Live.enqueue L bus f cls who).jrn = L.jrn ∧
    (Live.enqueue L bus f cls who).ret = L.ret ∧
    (Live.enqueue L bus f cls who).blob = L.blob ∧
    (Live.enqueue L bus f cls who).out = L.out ∧
    (Live.enqueue L bus f cls who).free = L.free := by
  simp [Live.enqueue]

@[simp] theorem Live.selfBit_frame (L : Live) (b : Nat) (failed : Bool) :
    (Live.selfBit L b failed).mode = L.mode ∧
    (Live.selfBit L b failed).pins = L.pins ∧
    (Live.selfBit L b failed).time = L.time ∧
    (Live.selfBit L b failed).ks = L.ks ∧
    (Live.selfBit L b failed).saf = L.saf ∧
    (Live.selfBit L b failed).seg = L.seg ∧
    (Live.selfBit L b failed).node = L.node ∧
    (Live.selfBit L b failed).conv = L.conv ∧
    (Live.selfBit L b failed).twin = L.twin ∧
    (Live.selfBit L b failed).eng = L.eng ∧
    (Live.selfBit L b failed).chi = L.chi ∧
    (Live.selfBit L b failed).cap = L.cap ∧
    (Live.selfBit L b failed).est = L.est ∧
    (Live.selfBit L b failed).th = L.th ∧
    (Live.selfBit L b failed).mgr = L.mgr ∧
    (Live.selfBit L b failed).lgc = L.lgc ∧
    (Live.selfBit L b failed).upd = L.upd ∧
    (Live.selfBit L b failed).jrn = L.jrn ∧
    (Live.selfBit L b failed).dbg = L.dbg ∧
    (Live.selfBit L b failed).ret = L.ret ∧
    (Live.selfBit L b failed).blob = L.blob ∧
    (Live.selfBit L b failed).out = L.out ∧
    (Live.selfBit L b failed).free = L.free := by
  simp [Live.selfBit]

end Sys2Proof.Machine
end

