-- ==== Sys2Proof/Laws/FrameSequence.lean ====
section
/-! SUPPORT. What each operation of Machine/Sequence.lean leaves as it is. -/

namespace Sys2Proof.Machine

open Sys2Proof

theorem Live.setFast_frame (L : Live) (f : FastOff) :
    (Live.setFast L f).mode = L.mode ∧
    (Live.setFast L f).time = L.time ∧
    (Live.setFast L f).ks = L.ks ∧
    (Live.setFast L f).rcd = L.rcd ∧
    (Live.setFast L f).saf = L.saf ∧
    (Live.setFast L f).seg = L.seg ∧
    (Live.setFast L f).node = L.node ∧
    (Live.setFast L f).conv = L.conv ∧
    (Live.setFast L f).twin = L.twin ∧
    (Live.setFast L f).eng = L.eng ∧
    (Live.setFast L f).chi = L.chi ∧
    (Live.setFast L f).cap = L.cap ∧
    (Live.setFast L f).est = L.est ∧
    (Live.setFast L f).th = L.th ∧
    (Live.setFast L f).com = L.com ∧
    (Live.setFast L f).mgr = L.mgr ∧
    (Live.setFast L f).lgc = L.lgc ∧
    (Live.setFast L f).upd = L.upd ∧
    (Live.setFast L f).jrn = L.jrn ∧
    (Live.setFast L f).dbg = L.dbg ∧
    (Live.setFast L f).ret = L.ret ∧
    (Live.setFast L f).obj = L.obj ∧
    (Live.setFast L f).blob = L.blob ∧
    (Live.setFast L f).out = L.out ∧
    (Live.setFast L f).free = L.free := by
  simp [Live.setFast]

theorem Live.setPath_frame (L : Live) (ch : Nat) (f : FastOff) :
    (Live.setPath L ch f).mode = L.mode ∧
    (Live.setPath L ch f).time = L.time ∧
    (Live.setPath L ch f).ks = L.ks ∧
    (Live.setPath L ch f).rcd = L.rcd ∧
    (Live.setPath L ch f).saf = L.saf ∧
    (Live.setPath L ch f).seg = L.seg ∧
    (Live.setPath L ch f).node = L.node ∧
    (Live.setPath L ch f).conv = L.conv ∧
    (Live.setPath L ch f).twin = L.twin ∧
    (Live.setPath L ch f).eng = L.eng ∧
    (Live.setPath L ch f).chi = L.chi ∧
    (Live.setPath L ch f).cap = L.cap ∧
    (Live.setPath L ch f).est = L.est ∧
    (Live.setPath L ch f).th = L.th ∧
    (Live.setPath L ch f).com = L.com ∧
    (Live.setPath L ch f).mgr = L.mgr ∧
    (Live.setPath L ch f).lgc = L.lgc ∧
    (Live.setPath L ch f).upd = L.upd ∧
    (Live.setPath L ch f).jrn = L.jrn ∧
    (Live.setPath L ch f).dbg = L.dbg ∧
    (Live.setPath L ch f).ret = L.ret ∧
    (Live.setPath L ch f).obj = L.obj ∧
    (Live.setPath L ch f).blob = L.blob ∧
    (Live.setPath L ch f).out = L.out ∧
    (Live.setPath L ch f).free = L.free := by
  have h0 := @Live.setFast_frame
  simp [Live.setPath, h0]

theorem Live.cutFast_frame (L : Live) :
    (Live.cutFast L).mode = L.mode ∧
    (Live.cutFast L).time = L.time ∧
    (Live.cutFast L).ks = L.ks ∧
    (Live.cutFast L).rcd = L.rcd ∧
    (Live.cutFast L).saf = L.saf ∧
    (Live.cutFast L).seg = L.seg ∧
    (Live.cutFast L).node = L.node ∧
    (Live.cutFast L).conv = L.conv ∧
    (Live.cutFast L).twin = L.twin ∧
    (Live.cutFast L).eng = L.eng ∧
    (Live.cutFast L).chi = L.chi ∧
    (Live.cutFast L).cap = L.cap ∧
    (Live.cutFast L).est = L.est ∧
    (Live.cutFast L).th = L.th ∧
    (Live.cutFast L).com = L.com ∧
    (Live.cutFast L).mgr = L.mgr ∧
    (Live.cutFast L).lgc = L.lgc ∧
    (Live.cutFast L).upd = L.upd ∧
    (Live.cutFast L).jrn = L.jrn ∧
    (Live.cutFast L).dbg = L.dbg ∧
    (Live.cutFast L).ret = L.ret ∧
    (Live.cutFast L).obj = L.obj ∧
    (Live.cutFast L).blob = L.blob ∧
    (Live.cutFast L).out = L.out ∧
    (Live.cutFast L).free = L.free := by
  have h0 := @Live.setFast_frame
  simp [Live.cutFast, h0]

theorem Live.pullX_frame (L : Live) (hold : Bool) :
    (Live.pullX L hold).mode = L.mode ∧
    (Live.pullX L hold).time = L.time ∧
    (Live.pullX L hold).ks = L.ks ∧
    (Live.pullX L hold).rcd = L.rcd ∧
    (Live.pullX L hold).saf = L.saf ∧
    (Live.pullX L hold).seg = L.seg ∧
    (Live.pullX L hold).node = L.node ∧
    (Live.pullX L hold).conv = L.conv ∧
    (Live.pullX L hold).twin = L.twin ∧
    (Live.pullX L hold).eng = L.eng ∧
    (Live.pullX L hold).chi = L.chi ∧
    (Live.pullX L hold).cap = L.cap ∧
    (Live.pullX L hold).est = L.est ∧
    (Live.pullX L hold).th = L.th ∧
    (Live.pullX L hold).com = L.com ∧
    (Live.pullX L hold).mgr = L.mgr ∧
    (Live.pullX L hold).lgc = L.lgc ∧
    (Live.pullX L hold).upd = L.upd ∧
    (Live.pullX L hold).jrn = L.jrn ∧
    (Live.pullX L hold).dbg = L.dbg ∧
    (Live.pullX L hold).ret = L.ret ∧
    (Live.pullX L hold).obj = L.obj ∧
    (Live.pullX L hold).blob = L.blob ∧
    (Live.pullX L hold).out = L.out ∧
    (Live.pullX L hold).free = L.free := by
  simp [Live.pullX]

theorem Live.settleX_frame (L : Live) :
    (Live.settleX L).mode = L.mode ∧
    (Live.settleX L).time = L.time ∧
    (Live.settleX L).ks = L.ks ∧
    (Live.settleX L).rcd = L.rcd ∧
    (Live.settleX L).saf = L.saf ∧
    (Live.settleX L).seg = L.seg ∧
    (Live.settleX L).node = L.node ∧
    (Live.settleX L).conv = L.conv ∧
    (Live.settleX L).twin = L.twin ∧
    (Live.settleX L).eng = L.eng ∧
    (Live.settleX L).chi = L.chi ∧
    (Live.settleX L).cap = L.cap ∧
    (Live.settleX L).est = L.est ∧
    (Live.settleX L).th = L.th ∧
    (Live.settleX L).com = L.com ∧
    (Live.settleX L).mgr = L.mgr ∧
    (Live.settleX L).lgc = L.lgc ∧
    (Live.settleX L).upd = L.upd ∧
    (Live.settleX L).jrn = L.jrn ∧
    (Live.settleX L).dbg = L.dbg ∧
    (Live.settleX L).ret = L.ret ∧
    (Live.settleX L).obj = L.obj ∧
    (Live.settleX L).blob = L.blob ∧
    (Live.settleX L).out = L.out ∧
    (Live.settleX L).free = L.free := by
  simp [Live.settleX]

theorem Live.dropX_frame (L : Live) :
    (Live.dropX L).mode = L.mode ∧
    (Live.dropX L).time = L.time ∧
    (Live.dropX L).ks = L.ks ∧
    (Live.dropX L).rcd = L.rcd ∧
    (Live.dropX L).saf = L.saf ∧
    (Live.dropX L).seg = L.seg ∧
    (Live.dropX L).node = L.node ∧
    (Live.dropX L).conv = L.conv ∧
    (Live.dropX L).twin = L.twin ∧
    (Live.dropX L).eng = L.eng ∧
    (Live.dropX L).chi = L.chi ∧
    (Live.dropX L).cap = L.cap ∧
    (Live.dropX L).est = L.est ∧
    (Live.dropX L).th = L.th ∧
    (Live.dropX L).com = L.com ∧
    (Live.dropX L).mgr = L.mgr ∧
    (Live.dropX L).lgc = L.lgc ∧
    (Live.dropX L).upd = L.upd ∧
    (Live.dropX L).jrn = L.jrn ∧
    (Live.dropX L).dbg = L.dbg ∧
    (Live.dropX L).ret = L.ret ∧
    (Live.dropX L).obj = L.obj ∧
    (Live.dropX L).blob = L.blob ∧
    (Live.dropX L).out = L.out ∧
    (Live.dropX L).free = L.free := by
  have h0 := @Live.settleX_frame
  simp [Live.dropX, h0]

theorem Live.updExpect_frame (L : Live) :
    (Live.updExpect L).mode = L.mode ∧
    (Live.updExpect L).pins = L.pins ∧
    (Live.updExpect L).time = L.time ∧
    (Live.updExpect L).ks = L.ks ∧
    (Live.updExpect L).rcd = L.rcd ∧
    (Live.updExpect L).seg = L.seg ∧
    (Live.updExpect L).node = L.node ∧
    (Live.updExpect L).conv = L.conv ∧
    (Live.updExpect L).twin = L.twin ∧
    (Live.updExpect L).eng = L.eng ∧
    (Live.updExpect L).chi = L.chi ∧
    (Live.updExpect L).cap = L.cap ∧
    (Live.updExpect L).est = L.est ∧
    (Live.updExpect L).th = L.th ∧
    (Live.updExpect L).com = L.com ∧
    (Live.updExpect L).mgr = L.mgr ∧
    (Live.updExpect L).lgc = L.lgc ∧
    (Live.updExpect L).upd = L.upd ∧
    (Live.updExpect L).jrn = L.jrn ∧
    (Live.updExpect L).dbg = L.dbg ∧
    (Live.updExpect L).ret = L.ret ∧
    (Live.updExpect L).obj = L.obj ∧
    (Live.updExpect L).blob = L.blob ∧
    (Live.updExpect L).out = L.out ∧
    (Live.updExpect L).free = L.free := by
  simp [Live.updExpect]

theorem Live.openLoop_frame (L : Live) :
    (Live.openLoop L).mode = L.mode ∧
    (Live.openLoop L).time = L.time ∧
    (Live.openLoop L).ks = L.ks ∧
    (Live.openLoop L).rcd = L.rcd ∧
    (Live.openLoop L).seg = L.seg ∧
    (Live.openLoop L).node = L.node ∧
    (Live.openLoop L).conv = L.conv ∧
    (Live.openLoop L).twin = L.twin ∧
    (Live.openLoop L).eng = L.eng ∧
    (Live.openLoop L).chi = L.chi ∧
    (Live.openLoop L).cap = L.cap ∧
    (Live.openLoop L).est = L.est ∧
    (Live.openLoop L).th = L.th ∧
    (Live.openLoop L).com = L.com ∧
    (Live.openLoop L).mgr = L.mgr ∧
    (Live.openLoop L).lgc = L.lgc ∧
    (Live.openLoop L).upd = L.upd ∧
    (Live.openLoop L).jrn = L.jrn ∧
    (Live.openLoop L).dbg = L.dbg ∧
    (Live.openLoop L).ret = L.ret ∧
    (Live.openLoop L).blob = L.blob ∧
    (Live.openLoop L).out = L.out ∧
    (Live.openLoop L).free = L.free := by
  have h0 := @Live.updExpect_frame
  have h1 := @Live.pullX_frame
  simp [Live.openLoop, h0, h1]

theorem Live.senseLoop_frame (L : Live) :
    (Live.senseLoop L).mode = L.mode ∧
    (Live.senseLoop L).pins = L.pins ∧
    (Live.senseLoop L).time = L.time ∧
    (Live.senseLoop L).ks = L.ks ∧
    (Live.senseLoop L).rcd = L.rcd ∧
    (Live.senseLoop L).saf = L.saf ∧
    (Live.senseLoop L).seg = L.seg ∧
    (Live.senseLoop L).node = L.node ∧
    (Live.senseLoop L).conv = L.conv ∧
    (Live.senseLoop L).twin = L.twin ∧
    (Live.senseLoop L).eng = L.eng ∧
    (Live.senseLoop L).chi = L.chi ∧
    (Live.senseLoop L).cap = L.cap ∧
    (Live.senseLoop L).est = L.est ∧
    (Live.senseLoop L).th = L.th ∧
    (Live.senseLoop L).com = L.com ∧
    (Live.senseLoop L).mgr = L.mgr ∧
    (Live.senseLoop L).lgc = L.lgc ∧
    (Live.senseLoop L).upd = L.upd ∧
    (Live.senseLoop L).jrn = L.jrn ∧
    (Live.senseLoop L).dbg = L.dbg ∧
    (Live.senseLoop L).ret = L.ret ∧
    (Live.senseLoop L).blob = L.blob ∧
    (Live.senseLoop L).out = L.out := by
  simp [Live.senseLoop]

theorem Live.setRelay_frame (L : Live) (on : Bool) :
    (Live.setRelay L on).mode = L.mode ∧
    (Live.setRelay L on).time = L.time ∧
    (Live.setRelay L on).ks = L.ks ∧
    (Live.setRelay L on).rcd = L.rcd ∧
    (Live.setRelay L on).seg = L.seg ∧
    (Live.setRelay L on).node = L.node ∧
    (Live.setRelay L on).conv = L.conv ∧
    (Live.setRelay L on).twin = L.twin ∧
    (Live.setRelay L on).eng = L.eng ∧
    (Live.setRelay L on).chi = L.chi ∧
    (Live.setRelay L on).cap = L.cap ∧
    (Live.setRelay L on).est = L.est ∧
    (Live.setRelay L on).th = L.th ∧
    (Live.setRelay L on).com = L.com ∧
    (Live.setRelay L on).mgr = L.mgr ∧
    (Live.setRelay L on).lgc = L.lgc ∧
    (Live.setRelay L on).upd = L.upd ∧
    (Live.setRelay L on).jrn = L.jrn ∧
    (Live.setRelay L on).dbg = L.dbg ∧
    (Live.setRelay L on).ret = L.ret ∧
    (Live.setRelay L on).obj = L.obj ∧
    (Live.setRelay L on).blob = L.blob ∧
    (Live.setRelay L on).out = L.out ∧
    (Live.setRelay L on).free = L.free := by
  simp [Live.setRelay]

theorem Live.insRelay_frame (L : Live) :
    (Live.insRelay L).mode = L.mode ∧
    (Live.insRelay L).time = L.time ∧
    (Live.insRelay L).ks = L.ks ∧
    (Live.insRelay L).rcd = L.rcd ∧
    (Live.insRelay L).seg = L.seg ∧
    (Live.insRelay L).node = L.node ∧
    (Live.insRelay L).conv = L.conv ∧
    (Live.insRelay L).twin = L.twin ∧
    (Live.insRelay L).eng = L.eng ∧
    (Live.insRelay L).chi = L.chi ∧
    (Live.insRelay L).cap = L.cap ∧
    (Live.insRelay L).est = L.est ∧
    (Live.insRelay L).th = L.th ∧
    (Live.insRelay L).com = L.com ∧
    (Live.insRelay L).mgr = L.mgr ∧
    (Live.insRelay L).lgc = L.lgc ∧
    (Live.insRelay L).upd = L.upd ∧
    (Live.insRelay L).jrn = L.jrn ∧
    (Live.insRelay L).dbg = L.dbg ∧
    (Live.insRelay L).ret = L.ret ∧
    (Live.insRelay L).obj = L.obj ∧
    (Live.insRelay L).blob = L.blob ∧
    (Live.insRelay L).out = L.out ∧
    (Live.insRelay L).free = L.free := by
  have h0 := @Live.setRelay_frame
  simp [Live.insRelay, h0]

theorem Live.closeLoop_frame (L : Live) :
    (Live.closeLoop L).mode = L.mode ∧
    (Live.closeLoop L).time = L.time ∧
    (Live.closeLoop L).ks = L.ks ∧
    (Live.closeLoop L).rcd = L.rcd ∧
    (Live.closeLoop L).seg = L.seg ∧
    (Live.closeLoop L).node = L.node ∧
    (Live.closeLoop L).conv = L.conv ∧
    (Live.closeLoop L).twin = L.twin ∧
    (Live.closeLoop L).eng = L.eng ∧
    (Live.closeLoop L).chi = L.chi ∧
    (Live.closeLoop L).cap = L.cap ∧
    (Live.closeLoop L).est = L.est ∧
    (Live.closeLoop L).th = L.th ∧
    (Live.closeLoop L).com = L.com ∧
    (Live.closeLoop L).mgr = L.mgr ∧
    (Live.closeLoop L).lgc = L.lgc ∧
    (Live.closeLoop L).upd = L.upd ∧
    (Live.closeLoop L).jrn = L.jrn ∧
    (Live.closeLoop L).dbg = L.dbg ∧
    (Live.closeLoop L).ret = L.ret ∧
    (Live.closeLoop L).blob = L.blob ∧
    (Live.closeLoop L).out = L.out := by
  have h0 := @Live.setRelay_frame
  have h1 := @Live.senseLoop_frame
  have h2 := @Live.updExpect_frame
  have h3 := @Live.dropX_frame
  simp [Live.closeLoop, h0, h1, h2, h3]

theorem Live.result_frame (L : Live) (r : Nat) :
    (Live.result L r).mode = L.mode ∧
    (Live.result L r).pins = L.pins ∧
    (Live.result L r).time = L.time ∧
    (Live.result L r).ks = L.ks ∧
    (Live.result L r).rcd = L.rcd ∧
    (Live.result L r).saf = L.saf ∧
    (Live.result L r).seg = L.seg ∧
    (Live.result L r).node = L.node ∧
    (Live.result L r).conv = L.conv ∧
    (Live.result L r).twin = L.twin ∧
    (Live.result L r).eng = L.eng ∧
    (Live.result L r).chi = L.chi ∧
    (Live.result L r).cap = L.cap ∧
    (Live.result L r).est = L.est ∧
    (Live.result L r).th = L.th ∧
    (Live.result L r).com = L.com ∧
    (Live.result L r).mgr = L.mgr ∧
    (Live.result L r).lgc = L.lgc ∧
    (Live.result L r).upd = L.upd ∧
    (Live.result L r).jrn = L.jrn ∧
    (Live.result L r).dbg = L.dbg ∧
    (Live.result L r).ret = L.ret ∧
    (Live.result L r).blob = L.blob ∧
    (Live.result L r).out = L.out ∧
    (Live.result L r).free = L.free := by
  simp [Live.result]

theorem Live.abortChisel_frame (L : Live) (cause : Nat) :
    (Live.abortChisel L cause).mode = L.mode ∧
    (Live.abortChisel L cause).pins = L.pins ∧
    (Live.abortChisel L cause).time = L.time ∧
    (Live.abortChisel L cause).ks = L.ks ∧
    (Live.abortChisel L cause).saf = L.saf ∧
    (Live.abortChisel L cause).seg = L.seg ∧
    (Live.abortChisel L cause).node = L.node ∧
    (Live.abortChisel L cause).conv = L.conv ∧
    (Live.abortChisel L cause).twin = L.twin ∧
    (Live.abortChisel L cause).eng = L.eng ∧
    (Live.abortChisel L cause).est = L.est ∧
    (Live.abortChisel L cause).th = L.th ∧
    (Live.abortChisel L cause).mgr = L.mgr ∧
    (Live.abortChisel L cause).lgc = L.lgc ∧
    (Live.abortChisel L cause).upd = L.upd ∧
    (Live.abortChisel L cause).jrn = L.jrn ∧
    (Live.abortChisel L cause).ret = L.ret ∧
    (Live.abortChisel L cause).blob = L.blob ∧
    (Live.abortChisel L cause).out = L.out ∧
    (Live.abortChisel L cause).free = L.free := by
  simp [Live.abortChisel]

theorem Live.setState_frame (L : Live) (new : MState) (trig : Nat) :
    (Live.setState L new trig).pins = L.pins ∧
    (Live.setState L new trig).time = L.time ∧
    (Live.setState L new trig).ks = L.ks ∧
    (Live.setState L new trig).saf = L.saf ∧
    (Live.setState L new trig).seg = L.seg ∧
    (Live.setState L new trig).node = L.node ∧
    (Live.setState L new trig).conv = L.conv ∧
    (Live.setState L new trig).twin = L.twin ∧
    (Live.setState L new trig).eng = L.eng ∧
    (Live.setState L new trig).est = L.est ∧
    (Live.setState L new trig).th = L.th ∧
    (Live.setState L new trig).mgr = L.mgr ∧
    (Live.setState L new trig).lgc = L.lgc ∧
    (Live.setState L new trig).upd = L.upd ∧
    (Live.setState L new trig).jrn = L.jrn ∧
    (Live.setState L new trig).ret = L.ret ∧
    (Live.setState L new trig).blob = L.blob ∧
    (Live.setState L new trig).out = L.out ∧
    (Live.setState L new trig).free = L.free := by
  have h0 := @Live.abortChisel_frame
  simp [Live.setState, h0]

theorem Live.sourceEvent_frame (L : Live) :
    (Live.sourceEvent L).mode = L.mode ∧
    (Live.sourceEvent L).time = L.time ∧
    (Live.sourceEvent L).ks = L.ks ∧
    (Live.sourceEvent L).saf = L.saf ∧
    (Live.sourceEvent L).seg = L.seg ∧
    (Live.sourceEvent L).node = L.node ∧
    (Live.sourceEvent L).conv = L.conv ∧
    (Live.sourceEvent L).twin = L.twin ∧
    (Live.sourceEvent L).eng = L.eng ∧
    (Live.sourceEvent L).chi = L.chi ∧
    (Live.sourceEvent L).est = L.est ∧
    (Live.sourceEvent L).th = L.th ∧
    (Live.sourceEvent L).com = L.com ∧
    (Live.sourceEvent L).mgr = L.mgr ∧
    (Live.sourceEvent L).lgc = L.lgc ∧
    (Live.sourceEvent L).upd = L.upd ∧
    (Live.sourceEvent L).jrn = L.jrn ∧
    (Live.sourceEvent L).ret = L.ret ∧
    (Live.sourceEvent L).obj = L.obj ∧
    (Live.sourceEvent L).blob = L.blob ∧
    (Live.sourceEvent L).out = L.out ∧
    (Live.sourceEvent L).free = L.free := by
  simp [Live.sourceEvent]

theorem Live.setNmt_frame (L : Live) (n : Nat) :
    (Live.setNmt L n).mode = L.mode ∧
    (Live.setNmt L n).pins = L.pins ∧
    (Live.setNmt L n).time = L.time ∧
    (Live.setNmt L n).ks = L.ks ∧
    (Live.setNmt L n).saf = L.saf ∧
    (Live.setNmt L n).seg = L.seg ∧
    (Live.setNmt L n).node = L.node ∧
    (Live.setNmt L n).conv = L.conv ∧
    (Live.setNmt L n).twin = L.twin ∧
    (Live.setNmt L n).eng = L.eng ∧
    (Live.setNmt L n).chi = L.chi ∧
    (Live.setNmt L n).est = L.est ∧
    (Live.setNmt L n).th = L.th ∧
    (Live.setNmt L n).mgr = L.mgr ∧
    (Live.setNmt L n).lgc = L.lgc ∧
    (Live.setNmt L n).upd = L.upd ∧
    (Live.setNmt L n).jrn = L.jrn ∧
    (Live.setNmt L n).ret = L.ret ∧
    (Live.setNmt L n).obj = L.obj ∧
    (Live.setNmt L n).blob = L.blob ∧
    (Live.setNmt L n).out = L.out ∧
    (Live.setNmt L n).free = L.free := by
  simp [Live.setNmt]

theorem Live.enterStandby_frame (L : Live) (trig : Nat) :
    (Live.enterStandby L trig).time = L.time ∧
    (Live.enterStandby L trig).ks = L.ks ∧
    (Live.enterStandby L trig).seg = L.seg ∧
    (Live.enterStandby L trig).node = L.node ∧
    (Live.enterStandby L trig).twin = L.twin ∧
    (Live.enterStandby L trig).eng = L.eng ∧
    (Live.enterStandby L trig).est = L.est ∧
    (Live.enterStandby L trig).th = L.th ∧
    (Live.enterStandby L trig).mgr = L.mgr ∧
    (Live.enterStandby L trig).lgc = L.lgc ∧
    (Live.enterStandby L trig).upd = L.upd ∧
    (Live.enterStandby L trig).jrn = L.jrn ∧
    (Live.enterStandby L trig).ret = L.ret ∧
    (Live.enterStandby L trig).blob = L.blob ∧
    (Live.enterStandby L trig).out = L.out ∧
    (Live.enterStandby L trig).free = L.free := by
  have h0 := @Live.setState_frame
  have h1 := @Live.setFast_frame
  have h2 := @Live.setNmt_frame
  simp [Live.enterStandby, h0, h1, h2]

theorem Live.setSeq_frame (L : Live) (f : Seq → Seq) :
    (Live.setSeq L f).pins = L.pins ∧
    (Live.setSeq L f).time = L.time ∧
    (Live.setSeq L f).ks = L.ks ∧
    (Live.setSeq L f).rcd = L.rcd ∧
    (Live.setSeq L f).saf = L.saf ∧
    (Live.setSeq L f).seg = L.seg ∧
    (Live.setSeq L f).node = L.node ∧
    (Live.setSeq L f).conv = L.conv ∧
    (Live.setSeq L f).twin = L.twin ∧
    (Live.setSeq L f).eng = L.eng ∧
    (Live.setSeq L f).chi = L.chi ∧
    (Live.setSeq L f).cap = L.cap ∧
    (Live.setSeq L f).est = L.est ∧
    (Live.setSeq L f).th = L.th ∧
    (Live.setSeq L f).com = L.com ∧
    (Live.setSeq L f).mgr = L.mgr ∧
    (Live.setSeq L f).lgc = L.lgc ∧
    (Live.setSeq L f).upd = L.upd ∧
    (Live.setSeq L f).jrn = L.jrn ∧
    (Live.setSeq L f).dbg = L.dbg ∧
    (Live.setSeq L f).ret = L.ret ∧
    (Live.setSeq L f).obj = L.obj ∧
    (Live.setSeq L f).blob = L.blob ∧
    (Live.setSeq L f).out = L.out ∧
    (Live.setSeq L f).free = L.free := by
  simp [Live.setSeq]

theorem Live.toStep2_frame (L : Live) :
    (Live.toStep2 L).time = L.time ∧
    (Live.toStep2 L).ks = L.ks ∧
    (Live.toStep2 L).rcd = L.rcd ∧
    (Live.toStep2 L).saf = L.saf ∧
    (Live.toStep2 L).seg = L.seg ∧
    (Live.toStep2 L).node = L.node ∧
    (Live.toStep2 L).conv = L.conv ∧
    (Live.toStep2 L).twin = L.twin ∧
    (Live.toStep2 L).eng = L.eng ∧
    (Live.toStep2 L).chi = L.chi ∧
    (Live.toStep2 L).cap = L.cap ∧
    (Live.toStep2 L).est = L.est ∧
    (Live.toStep2 L).th = L.th ∧
    (Live.toStep2 L).com = L.com ∧
    (Live.toStep2 L).mgr = L.mgr ∧
    (Live.toStep2 L).lgc = L.lgc ∧
    (Live.toStep2 L).upd = L.upd ∧
    (Live.toStep2 L).jrn = L.jrn ∧
    (Live.toStep2 L).dbg = L.dbg ∧
    (Live.toStep2 L).ret = L.ret ∧
    (Live.toStep2 L).obj = L.obj ∧
    (Live.toStep2 L).blob = L.blob ∧
    (Live.toStep2 L).out = L.out ∧
    (Live.toStep2 L).free = L.free := by
  have h0 := @Live.setSeq_frame
  have h1 := @Live.setPath_frame
  simp [Live.toStep2, h0, h1]

theorem Live.toStep3_frame (L : Live) :
    (Live.toStep3 L).time = L.time ∧
    (Live.toStep3 L).ks = L.ks ∧
    (Live.toStep3 L).rcd = L.rcd ∧
    (Live.toStep3 L).seg = L.seg ∧
    (Live.toStep3 L).node = L.node ∧
    (Live.toStep3 L).conv = L.conv ∧
    (Live.toStep3 L).twin = L.twin ∧
    (Live.toStep3 L).eng = L.eng ∧
    (Live.toStep3 L).chi = L.chi ∧
    (Live.toStep3 L).cap = L.cap ∧
    (Live.toStep3 L).est = L.est ∧
    (Live.toStep3 L).th = L.th ∧
    (Live.toStep3 L).com = L.com ∧
    (Live.toStep3 L).mgr = L.mgr ∧
    (Live.toStep3 L).lgc = L.lgc ∧
    (Live.toStep3 L).upd = L.upd ∧
    (Live.toStep3 L).jrn = L.jrn ∧
    (Live.toStep3 L).dbg = L.dbg ∧
    (Live.toStep3 L).ret = L.ret ∧
    (Live.toStep3 L).blob = L.blob ∧
    (Live.toStep3 L).out = L.out ∧
    (Live.toStep3 L).free = L.free := by
  have h0 := @Live.setSeq_frame
  have h1 := @Live.openLoop_frame
  simp [Live.toStep3, h0, h1]

theorem Live.toStep4_frame (L : Live) :
    (Live.toStep4 L).pins = L.pins ∧
    (Live.toStep4 L).time = L.time ∧
    (Live.toStep4 L).ks = L.ks ∧
    (Live.toStep4 L).rcd = L.rcd ∧
    (Live.toStep4 L).saf = L.saf ∧
    (Live.toStep4 L).seg = L.seg ∧
    (Live.toStep4 L).node = L.node ∧
    (Live.toStep4 L).twin = L.twin ∧
    (Live.toStep4 L).eng = L.eng ∧
    (Live.toStep4 L).chi = L.chi ∧
    (Live.toStep4 L).cap = L.cap ∧
    (Live.toStep4 L).est = L.est ∧
    (Live.toStep4 L).th = L.th ∧
    (Live.toStep4 L).com = L.com ∧
    (Live.toStep4 L).mgr = L.mgr ∧
    (Live.toStep4 L).lgc = L.lgc ∧
    (Live.toStep4 L).upd = L.upd ∧
    (Live.toStep4 L).jrn = L.jrn ∧
    (Live.toStep4 L).dbg = L.dbg ∧
    (Live.toStep4 L).ret = L.ret ∧
    (Live.toStep4 L).obj = L.obj ∧
    (Live.toStep4 L).blob = L.blob ∧
    (Live.toStep4 L).out = L.out ∧
    (Live.toStep4 L).free = L.free := by
  have h0 := @Live.setSeq_frame
  simp [Live.toStep4, h0]

theorem Live.endCommand_frame (L : Live) (n : Nat) :
    (Live.endCommand L n).mode = L.mode ∧
    (Live.endCommand L n).time = L.time ∧
    (Live.endCommand L n).ks = L.ks ∧
    (Live.endCommand L n).rcd = L.rcd ∧
    (Live.endCommand L n).seg = L.seg ∧
    (Live.endCommand L n).node = L.node ∧
    (Live.endCommand L n).conv = L.conv ∧
    (Live.endCommand L n).twin = L.twin ∧
    (Live.endCommand L n).eng = L.eng ∧
    (Live.endCommand L n).chi = L.chi ∧
    (Live.endCommand L n).cap = L.cap ∧
    (Live.endCommand L n).est = L.est ∧
    (Live.endCommand L n).th = L.th ∧
    (Live.endCommand L n).com = L.com ∧
    (Live.endCommand L n).mgr = L.mgr ∧
    (Live.endCommand L n).lgc = L.lgc ∧
    (Live.endCommand L n).upd = L.upd ∧
    (Live.endCommand L n).jrn = L.jrn ∧
    (Live.endCommand L n).dbg = L.dbg ∧
    (Live.endCommand L n).ret = L.ret ∧
    (Live.endCommand L n).obj = L.obj ∧
    (Live.endCommand L n).blob = L.blob ∧
    (Live.endCommand L n).out = L.out ∧
    (Live.endCommand L n).free = L.free := by
  have h0 := @Live.dropX_frame
  simp only [Live.endCommand]
  (repeat' split) <;> simp [h0]

theorem Live.toStep5_frame (L : Live) :
    (Live.toStep5 L).time = L.time ∧
    (Live.toStep5 L).ks = L.ks ∧
    (Live.toStep5 L).seg = L.seg ∧
    (Live.toStep5 L).node = L.node ∧
    (Live.toStep5 L).twin = L.twin ∧
    (Live.toStep5 L).eng = L.eng ∧
    (Live.toStep5 L).est = L.est ∧
    (Live.toStep5 L).th = L.th ∧
    (Live.toStep5 L).mgr = L.mgr ∧
    (Live.toStep5 L).lgc = L.lgc ∧
    (Live.toStep5 L).upd = L.upd ∧
    (Live.toStep5 L).jrn = L.jrn ∧
    (Live.toStep5 L).ret = L.ret ∧
    (Live.toStep5 L).blob = L.blob ∧
    (Live.toStep5 L).out = L.out ∧
    (Live.toStep5 L).free = L.free := by
  have h0 := @Live.endCommand_frame
  have h1 := @Live.setSeq_frame
  have h2 := @Live.enterStandby_frame
  simp only [Live.toStep5]
  (repeat' split) <;> simp [h0, h1, h2]

theorem Live.seq12_frame (L : Live) :
    (Live.seq12 L).time = L.time ∧
    (Live.seq12 L).ks = L.ks ∧
    (Live.seq12 L).rcd = L.rcd ∧
    (Live.seq12 L).saf = L.saf ∧
    (Live.seq12 L).seg = L.seg ∧
    (Live.seq12 L).node = L.node ∧
    (Live.seq12 L).conv = L.conv ∧
    (Live.seq12 L).twin = L.twin ∧
    (Live.seq12 L).eng = L.eng ∧
    (Live.seq12 L).chi = L.chi ∧
    (Live.seq12 L).cap = L.cap ∧
    (Live.seq12 L).est = L.est ∧
    (Live.seq12 L).th = L.th ∧
    (Live.seq12 L).com = L.com ∧
    (Live.seq12 L).mgr = L.mgr ∧
    (Live.seq12 L).lgc = L.lgc ∧
    (Live.seq12 L).upd = L.upd ∧
    (Live.seq12 L).jrn = L.jrn ∧
    (Live.seq12 L).dbg = L.dbg ∧
    (Live.seq12 L).ret = L.ret ∧
    (Live.seq12 L).obj = L.obj ∧
    (Live.seq12 L).blob = L.blob ∧
    (Live.seq12 L).out = L.out ∧
    (Live.seq12 L).free = L.free := by
  have h0 := @Live.toStep2_frame
  simp only [Live.seq12]
  (repeat' split) <;> simp [h0]

theorem Live.seq23_frame (L : Live) :
    (Live.seq23 L).time = L.time ∧
    (Live.seq23 L).ks = L.ks ∧
    (Live.seq23 L).rcd = L.rcd ∧
    (Live.seq23 L).seg = L.seg ∧
    (Live.seq23 L).node = L.node ∧
    (Live.seq23 L).conv = L.conv ∧
    (Live.seq23 L).twin = L.twin ∧
    (Live.seq23 L).eng = L.eng ∧
    (Live.seq23 L).chi = L.chi ∧
    (Live.seq23 L).cap = L.cap ∧
    (Live.seq23 L).est = L.est ∧
    (Live.seq23 L).th = L.th ∧
    (Live.seq23 L).com = L.com ∧
    (Live.seq23 L).mgr = L.mgr ∧
    (Live.seq23 L).lgc = L.lgc ∧
    (Live.seq23 L).upd = L.upd ∧
    (Live.seq23 L).jrn = L.jrn ∧
    (Live.seq23 L).dbg = L.dbg ∧
    (Live.seq23 L).ret = L.ret ∧
    (Live.seq23 L).blob = L.blob ∧
    (Live.seq23 L).out = L.out ∧
    (Live.seq23 L).free = L.free := by
  have h0 := @Live.toStep3_frame
  simp only [Live.seq23]
  (repeat' split) <;> simp [h0]

theorem Live.seq34_frame (L : Live) :
    (Live.seq34 L).pins = L.pins ∧
    (Live.seq34 L).time = L.time ∧
    (Live.seq34 L).ks = L.ks ∧
    (Live.seq34 L).rcd = L.rcd ∧
    (Live.seq34 L).saf = L.saf ∧
    (Live.seq34 L).seg = L.seg ∧
    (Live.seq34 L).node = L.node ∧
    (Live.seq34 L).twin = L.twin ∧
    (Live.seq34 L).eng = L.eng ∧
    (Live.seq34 L).chi = L.chi ∧
    (Live.seq34 L).cap = L.cap ∧
    (Live.seq34 L).est = L.est ∧
    (Live.seq34 L).th = L.th ∧
    (Live.seq34 L).com = L.com ∧
    (Live.seq34 L).mgr = L.mgr ∧
    (Live.seq34 L).lgc = L.lgc ∧
    (Live.seq34 L).upd = L.upd ∧
    (Live.seq34 L).jrn = L.jrn ∧
    (Live.seq34 L).dbg = L.dbg ∧
    (Live.seq34 L).ret = L.ret ∧
    (Live.seq34 L).obj = L.obj ∧
    (Live.seq34 L).blob = L.blob ∧
    (Live.seq34 L).out = L.out ∧
    (Live.seq34 L).free = L.free := by
  have h0 := @Live.toStep4_frame
  simp only [Live.seq34]
  (repeat' split) <;> simp [h0]

theorem Live.seq45_frame (L : Live) :
    (Live.seq45 L).time = L.time ∧
    (Live.seq45 L).ks = L.ks ∧
    (Live.seq45 L).seg = L.seg ∧
    (Live.seq45 L).node = L.node ∧
    (Live.seq45 L).twin = L.twin ∧
    (Live.seq45 L).eng = L.eng ∧
    (Live.seq45 L).est = L.est ∧
    (Live.seq45 L).th = L.th ∧
    (Live.seq45 L).mgr = L.mgr ∧
    (Live.seq45 L).lgc = L.lgc ∧
    (Live.seq45 L).upd = L.upd ∧
    (Live.seq45 L).jrn = L.jrn ∧
    (Live.seq45 L).ret = L.ret ∧
    (Live.seq45 L).blob = L.blob ∧
    (Live.seq45 L).out = L.out ∧
    (Live.seq45 L).free = L.free := by
  have h0 := @Live.toStep5_frame
  simp only [Live.seq45]
  (repeat' split) <;> simp [h0]

theorem Live.seqOn_frame (L : Live) :
    (Live.seqOn L).time = L.time ∧
    (Live.seqOn L).ks = L.ks ∧
    (Live.seqOn L).seg = L.seg ∧
    (Live.seqOn L).node = L.node ∧
    (Live.seqOn L).twin = L.twin ∧
    (Live.seqOn L).eng = L.eng ∧
    (Live.seqOn L).est = L.est ∧
    (Live.seqOn L).th = L.th ∧
    (Live.seqOn L).mgr = L.mgr ∧
    (Live.seqOn L).lgc = L.lgc ∧
    (Live.seqOn L).upd = L.upd ∧
    (Live.seqOn L).jrn = L.jrn ∧
    (Live.seqOn L).ret = L.ret ∧
    (Live.seqOn L).blob = L.blob ∧
    (Live.seqOn L).out = L.out ∧
    (Live.seqOn L).free = L.free := by
  have h0 := @Live.seq45_frame
  have h1 := @Live.seq34_frame
  have h2 := @Live.seq23_frame
  have h3 := @Live.seq12_frame
  simp [Live.seqOn, h0, h1, h2, h3]

theorem Live.cancelPending_frame (L : Live) (r : Nat) :
    (Live.cancelPending L r).pins = L.pins ∧
    (Live.cancelPending L r).time = L.time ∧
    (Live.cancelPending L r).ks = L.ks ∧
    (Live.cancelPending L r).rcd = L.rcd ∧
    (Live.cancelPending L r).saf = L.saf ∧
    (Live.cancelPending L r).seg = L.seg ∧
    (Live.cancelPending L r).node = L.node ∧
    (Live.cancelPending L r).conv = L.conv ∧
    (Live.cancelPending L r).twin = L.twin ∧
    (Live.cancelPending L r).eng = L.eng ∧
    (Live.cancelPending L r).chi = L.chi ∧
    (Live.cancelPending L r).cap = L.cap ∧
    (Live.cancelPending L r).est = L.est ∧
    (Live.cancelPending L r).th = L.th ∧
    (Live.cancelPending L r).com = L.com ∧
    (Live.cancelPending L r).mgr = L.mgr ∧
    (Live.cancelPending L r).lgc = L.lgc ∧
    (Live.cancelPending L r).upd = L.upd ∧
    (Live.cancelPending L r).jrn = L.jrn ∧
    (Live.cancelPending L r).dbg = L.dbg ∧
    (Live.cancelPending L r).ret = L.ret ∧
    (Live.cancelPending L r).blob = L.blob ∧
    (Live.cancelPending L r).out = L.out ∧
    (Live.cancelPending L r).free = L.free := by
  have h0 := @Live.result_frame
  simp [Live.cancelPending, h0]

theorem Live.enterSafe_frame (L : Live) (kind : SeqKind) :
    (Live.enterSafe L kind).time = L.time ∧
    (Live.enterSafe L kind).ks = L.ks ∧
    (Live.enterSafe L kind).seg = L.seg ∧
    (Live.enterSafe L kind).node = L.node ∧
    (Live.enterSafe L kind).twin = L.twin ∧
    (Live.enterSafe L kind).eng = L.eng ∧
    (Live.enterSafe L kind).est = L.est ∧
    (Live.enterSafe L kind).th = L.th ∧
    (Live.enterSafe L kind).mgr = L.mgr ∧
    (Live.enterSafe L kind).lgc = L.lgc ∧
    (Live.enterSafe L kind).upd = L.upd ∧
    (Live.enterSafe L kind).jrn = L.jrn ∧
    (Live.enterSafe L kind).ret = L.ret ∧
    (Live.enterSafe L kind).blob = L.blob ∧
    (Live.enterSafe L kind).out = L.out ∧
    (Live.enterSafe L kind).free = L.free := by
  have h0 := @Live.setState_frame
  have h1 := @Live.cancelPending_frame
  have h2 := @Live.seqOn_frame
  have h3 := @Live.toStep2_frame
  have h4 := @Live.setSeq_frame
  simp [Live.enterSafe, h0, h1, h2, h3, h4]

theorem Live.releaseTwin_frame (L : Live) :
    (Live.releaseTwin L).time = L.time ∧
    (Live.releaseTwin L).ks = L.ks ∧
    (Live.releaseTwin L).seg = L.seg ∧
    (Live.releaseTwin L).node = L.node ∧
    (Live.releaseTwin L).conv = L.conv ∧
    (Live.releaseTwin L).eng = L.eng ∧
    (Live.releaseTwin L).est = L.est ∧
    (Live.releaseTwin L).th = L.th ∧
    (Live.releaseTwin L).mgr = L.mgr ∧
    (Live.releaseTwin L).lgc = L.lgc ∧
    (Live.releaseTwin L).upd = L.upd ∧
    (Live.releaseTwin L).jrn = L.jrn ∧
    (Live.releaseTwin L).ret = L.ret ∧
    (Live.releaseTwin L).blob = L.blob ∧
    (Live.releaseTwin L).out = L.out ∧
    (Live.releaseTwin L).free = L.free := by
  have h0 := @Live.openLoop_frame
  have h1 := @Live.cutFast_frame
  have h2 := @Live.insRelay_frame
  have h3 := @Live.setState_frame
  have h4 := @Live.cancelPending_frame
  simp [Live.releaseTwin, h0, h1, h2, h3, h4]

theorem Live.openElement_frame (L : Live) (why ch : Nat) :
    (Live.openElement L why ch).mode = L.mode ∧
    (Live.openElement L why ch).time = L.time ∧
    (Live.openElement L why ch).ks = L.ks ∧
    (Live.openElement L why ch).seg = L.seg ∧
    (Live.openElement L why ch).node = L.node ∧
    (Live.openElement L why ch).conv = L.conv ∧
    (Live.openElement L why ch).twin = L.twin ∧
    (Live.openElement L why ch).eng = L.eng ∧
    (Live.openElement L why ch).chi = L.chi ∧
    (Live.openElement L why ch).est = L.est ∧
    (Live.openElement L why ch).th = L.th ∧
    (Live.openElement L why ch).mgr = L.mgr ∧
    (Live.openElement L why ch).lgc = L.lgc ∧
    (Live.openElement L why ch).upd = L.upd ∧
    (Live.openElement L why ch).jrn = L.jrn ∧
    (Live.openElement L why ch).ret = L.ret ∧
    (Live.openElement L why ch).obj = L.obj ∧
    (Live.openElement L why ch).blob = L.blob ∧
    (Live.openElement L why ch).out = L.out ∧
    (Live.openElement L why ch).free = L.free := by
  simp [Live.openElement]

theorem Live.commandPartner_frame (L : Live) (c : TripCmd) :
    (Live.commandPartner L c).mode = L.mode ∧
    (Live.commandPartner L c).time = L.time ∧
    (Live.commandPartner L c).ks = L.ks ∧
    (Live.commandPartner L c).rcd = L.rcd ∧
    (Live.commandPartner L c).seg = L.seg ∧
    (Live.commandPartner L c).node = L.node ∧
    (Live.commandPartner L c).conv = L.conv ∧
    (Live.commandPartner L c).twin = L.twin ∧
    (Live.commandPartner L c).eng = L.eng ∧
    (Live.commandPartner L c).chi = L.chi ∧
    (Live.commandPartner L c).cap = L.cap ∧
    (Live.commandPartner L c).est = L.est ∧
    (Live.commandPartner L c).th = L.th ∧
    (Live.commandPartner L c).com = L.com ∧
    (Live.commandPartner L c).mgr = L.mgr ∧
    (Live.commandPartner L c).lgc = L.lgc ∧
    (Live.commandPartner L c).upd = L.upd ∧
    (Live.commandPartner L c).jrn = L.jrn ∧
    (Live.commandPartner L c).dbg = L.dbg ∧
    (Live.commandPartner L c).ret = L.ret ∧
    (Live.commandPartner L c).obj = L.obj ∧
    (Live.commandPartner L c).blob = L.blob ∧
    (Live.commandPartner L c).free = L.free := by
  have h0 := @Live.pullX_frame
  simp only [Live.commandPartner]
  (repeat' split) <;> simp [h0]

theorem Live.latchCause_frame (L : Live) (n ch : Nat) :
    (Live.latchCause L n ch).mode = L.mode ∧
    (Live.latchCause L n ch).pins = L.pins ∧
    (Live.latchCause L n ch).time = L.time ∧
    (Live.latchCause L n ch).ks = L.ks ∧
    (Live.latchCause L n ch).rcd = L.rcd ∧
    (Live.latchCause L n ch).seg = L.seg ∧
    (Live.latchCause L n ch).node = L.node ∧
    (Live.latchCause L n ch).conv = L.conv ∧
    (Live.latchCause L n ch).twin = L.twin ∧
    (Live.latchCause L n ch).eng = L.eng ∧
    (Live.latchCause L n ch).chi = L.chi ∧
    (Live.latchCause L n ch).cap = L.cap ∧
    (Live.latchCause L n ch).est = L.est ∧
    (Live.latchCause L n ch).th = L.th ∧
    (Live.latchCause L n ch).com = L.com ∧
    (Live.latchCause L n ch).mgr = L.mgr ∧
    (Live.latchCause L n ch).lgc = L.lgc ∧
    (Live.latchCause L n ch).upd = L.upd ∧
    (Live.latchCause L n ch).jrn = L.jrn ∧
    (Live.latchCause L n ch).dbg = L.dbg ∧
    (Live.latchCause L n ch).ret = L.ret ∧
    (Live.latchCause L n ch).blob = L.blob ∧
    (Live.latchCause L n ch).out = L.out ∧
    (Live.latchCause L n ch).free = L.free := by
  simp [Live.latchCause]

theorem Live.countSf11_frame (L : Live) :
    (Live.countSf11 L).mode = L.mode ∧
    (Live.countSf11 L).pins = L.pins ∧
    (Live.countSf11 L).time = L.time ∧
    (Live.countSf11 L).ks = L.ks ∧
    (Live.countSf11 L).rcd = L.rcd ∧
    (Live.countSf11 L).seg = L.seg ∧
    (Live.countSf11 L).node = L.node ∧
    (Live.countSf11 L).conv = L.conv ∧
    (Live.countSf11 L).twin = L.twin ∧
    (Live.countSf11 L).eng = L.eng ∧
    (Live.countSf11 L).chi = L.chi ∧
    (Live.countSf11 L).cap = L.cap ∧
    (Live.countSf11 L).est = L.est ∧
    (Live.countSf11 L).th = L.th ∧
    (Live.countSf11 L).com = L.com ∧
    (Live.countSf11 L).mgr = L.mgr ∧
    (Live.countSf11 L).lgc = L.lgc ∧
    (Live.countSf11 L).upd = L.upd ∧
    (Live.countSf11 L).jrn = L.jrn ∧
    (Live.countSf11 L).dbg = L.dbg ∧
    (Live.countSf11 L).ret = L.ret ∧
    (Live.countSf11 L).obj = L.obj ∧
    (Live.countSf11 L).blob = L.blob ∧
    (Live.countSf11 L).out = L.out ∧
    (Live.countSf11 L).free = L.free := by
  simp [Live.countSf11]

theorem Live.tripAct_frame (L : Live) (n ch : Nat) (classF bay : Bool) :
    (Live.tripAct L n ch classF bay).time = L.time ∧
    (Live.tripAct L n ch classF bay).ks = L.ks ∧
    (Live.tripAct L n ch classF bay).seg = L.seg ∧
    (Live.tripAct L n ch classF bay).node = L.node ∧
    (Live.tripAct L n ch classF bay).eng = L.eng ∧
    (Live.tripAct L n ch classF bay).est = L.est ∧
    (Live.tripAct L n ch classF bay).th = L.th ∧
    (Live.tripAct L n ch classF bay).mgr = L.mgr ∧
    (Live.tripAct L n ch classF bay).lgc = L.lgc ∧
    (Live.tripAct L n ch classF bay).jrn = L.jrn ∧
    (Live.tripAct L n ch classF bay).ret = L.ret ∧
    (Live.tripAct L n ch classF bay).blob = L.blob ∧
    (Live.tripAct L n ch classF bay).free = L.free := by
  have h0 := @Live.openElement_frame
  have h1 := @Live.commandPartner_frame
  have h2 := @Live.releaseTwin_frame
  have h3 := @Live.enterSafe_frame
  have h4 := @Live.setPath_frame
  simp [Live.tripAct, h0, h1, h2, h3, h4]

theorem Live.trip_frame (L : Live) (n ch code : Nat) (classF bay : Bool) :
    (Live.trip L n ch code classF bay).time = L.time ∧
    (Live.trip L n ch code classF bay).ks = L.ks ∧
    (Live.trip L n ch code classF bay).seg = L.seg ∧
    (Live.trip L n ch code classF bay).node = L.node ∧
    (Live.trip L n ch code classF bay).eng = L.eng ∧
    (Live.trip L n ch code classF bay).est = L.est ∧
    (Live.trip L n ch code classF bay).th = L.th ∧
    (Live.trip L n ch code classF bay).mgr = L.mgr ∧
    (Live.trip L n ch code classF bay).lgc = L.lgc ∧
    (Live.trip L n ch code classF bay).jrn = L.jrn ∧
    (Live.trip L n ch code classF bay).ret = L.ret ∧
    (Live.trip L n ch code classF bay).blob = L.blob ∧
    (Live.trip L n ch code classF bay).free = L.free := by
  have h0 := @Live.openElement_frame
  have h1 := @Live.tripAct_frame
  have h2 := @Live.latchCause_frame
  have h3 := @Live.countSf11_frame
  simp [Live.trip, h0, h1, h2, h3]

theorem Live.sf12_frame (L : Live) (ch : Nat) :
    (Live.sf12 L ch).time = L.time ∧
    (Live.sf12 L ch).ks = L.ks ∧
    (Live.sf12 L ch).seg = L.seg ∧
    (Live.sf12 L ch).node = L.node ∧
    (Live.sf12 L ch).eng = L.eng ∧
    (Live.sf12 L ch).est = L.est ∧
    (Live.sf12 L ch).th = L.th ∧
    (Live.sf12 L ch).mgr = L.mgr ∧
    (Live.sf12 L ch).lgc = L.lgc ∧
    (Live.sf12 L ch).jrn = L.jrn ∧
    (Live.sf12 L ch).ret = L.ret ∧
    (Live.sf12 L ch).blob = L.blob ∧
    (Live.sf12 L ch).free = L.free := by
  have h0 := @Live.trip_frame
  simp [Live.sf12, h0]

theorem Live.endActive_frame (L : Live) (n : Nat) :
    (Live.endActive L n).mode = L.mode ∧
    (Live.endActive L n).time = L.time ∧
    (Live.endActive L n).ks = L.ks ∧
    (Live.endActive L n).rcd = L.rcd ∧
    (Live.endActive L n).seg = L.seg ∧
    (Live.endActive L n).node = L.node ∧
    (Live.endActive L n).conv = L.conv ∧
    (Live.endActive L n).twin = L.twin ∧
    (Live.endActive L n).eng = L.eng ∧
    (Live.endActive L n).chi = L.chi ∧
    (Live.endActive L n).cap = L.cap ∧
    (Live.endActive L n).est = L.est ∧
    (Live.endActive L n).th = L.th ∧
    (Live.endActive L n).com = L.com ∧
    (Live.endActive L n).mgr = L.mgr ∧
    (Live.endActive L n).lgc = L.lgc ∧
    (Live.endActive L n).upd = L.upd ∧
    (Live.endActive L n).jrn = L.jrn ∧
    (Live.endActive L n).dbg = L.dbg ∧
    (Live.endActive L n).ret = L.ret ∧
    (Live.endActive L n).blob = L.blob ∧
    (Live.endActive L n).out = L.out ∧
    (Live.endActive L n).free = L.free := by
  have h0 := @Live.endCommand_frame
  simp [Live.endActive, h0]

theorem Live.releaseCause_frame (L : Live) (n : Nat) :
    (Live.releaseCause L n).mode = L.mode ∧
    (Live.releaseCause L n).time = L.time ∧
    (Live.releaseCause L n).ks = L.ks ∧
    (Live.releaseCause L n).seg = L.seg ∧
    (Live.releaseCause L n).node = L.node ∧
    (Live.releaseCause L n).conv = L.conv ∧
    (Live.releaseCause L n).twin = L.twin ∧
    (Live.releaseCause L n).eng = L.eng ∧
    (Live.releaseCause L n).chi = L.chi ∧
    (Live.releaseCause L n).est = L.est ∧
    (Live.releaseCause L n).th = L.th ∧
    (Live.releaseCause L n).mgr = L.mgr ∧
    (Live.releaseCause L n).lgc = L.lgc ∧
    (Live.releaseCause L n).upd = L.upd ∧
    (Live.releaseCause L n).jrn = L.jrn ∧
    (Live.releaseCause L n).ret = L.ret ∧
    (Live.releaseCause L n).blob = L.blob ∧
    (Live.releaseCause L n).out = L.out ∧
    (Live.releaseCause L n).free = L.free := by
  have h0 := @Live.endActive_frame
  simp [Live.releaseCause, h0]

theorem Live.closeIfDue_frame (L : Live) :
    (Live.closeIfDue L).mode = L.mode ∧
    (Live.closeIfDue L).time = L.time ∧
    (Live.closeIfDue L).ks = L.ks ∧
    (Live.closeIfDue L).rcd = L.rcd ∧
    (Live.closeIfDue L).seg = L.seg ∧
    (Live.closeIfDue L).node = L.node ∧
    (Live.closeIfDue L).conv = L.conv ∧
    (Live.closeIfDue L).twin = L.twin ∧
    (Live.closeIfDue L).eng = L.eng ∧
    (Live.closeIfDue L).chi = L.chi ∧
    (Live.closeIfDue L).cap = L.cap ∧
    (Live.closeIfDue L).est = L.est ∧
    (Live.closeIfDue L).th = L.th ∧
    (Live.closeIfDue L).com = L.com ∧
    (Live.closeIfDue L).mgr = L.mgr ∧
    (Live.closeIfDue L).lgc = L.lgc ∧
    (Live.closeIfDue L).upd = L.upd ∧
    (Live.closeIfDue L).jrn = L.jrn ∧
    (Live.closeIfDue L).dbg = L.dbg ∧
    (Live.closeIfDue L).ret = L.ret ∧
    (Live.closeIfDue L).obj = L.obj ∧
    (Live.closeIfDue L).blob = L.blob ∧
    (Live.closeIfDue L).out = L.out ∧
    (Live.closeIfDue L).free = L.free := by
  simp [Live.closeIfDue]

theorem Live.closeElement_frame (L : Live) (why : Nat) :
    (Live.closeElement L why).mode = L.mode ∧
    (Live.closeElement L why).time = L.time ∧
    (Live.closeElement L why).ks = L.ks ∧
    (Live.closeElement L why).rcd = L.rcd ∧
    (Live.closeElement L why).seg = L.seg ∧
    (Live.closeElement L why).node = L.node ∧
    (Live.closeElement L why).conv = L.conv ∧
    (Live.closeElement L why).twin = L.twin ∧
    (Live.closeElement L why).eng = L.eng ∧
    (Live.closeElement L why).chi = L.chi ∧
    (Live.closeElement L why).cap = L.cap ∧
    (Live.closeElement L why).est = L.est ∧
    (Live.closeElement L why).th = L.th ∧
    (Live.closeElement L why).com = L.com ∧
    (Live.closeElement L why).mgr = L.mgr ∧
    (Live.closeElement L why).lgc = L.lgc ∧
    (Live.closeElement L why).upd = L.upd ∧
    (Live.closeElement L why).jrn = L.jrn ∧
    (Live.closeElement L why).dbg = L.dbg ∧
    (Live.closeElement L why).ret = L.ret ∧
    (Live.closeElement L why).obj = L.obj ∧
    (Live.closeElement L why).blob = L.blob ∧
    (Live.closeElement L why).out = L.out ∧
    (Live.closeElement L why).free = L.free := by
  have h0 := @Live.closeIfDue_frame
  simp [Live.closeElement, h0]

theorem Live.prechargeFault_frame (L : Live) (code : Nat) :
    (Live.prechargeFault L code).time = L.time ∧
    (Live.prechargeFault L code).ks = L.ks ∧
    (Live.prechargeFault L code).seg = L.seg ∧
    (Live.prechargeFault L code).node = L.node ∧
    (Live.prechargeFault L code).twin = L.twin ∧
    (Live.prechargeFault L code).eng = L.eng ∧
    (Live.prechargeFault L code).est = L.est ∧
    (Live.prechargeFault L code).th = L.th ∧
    (Live.prechargeFault L code).mgr = L.mgr ∧
    (Live.prechargeFault L code).lgc = L.lgc ∧
    (Live.prechargeFault L code).upd = L.upd ∧
    (Live.prechargeFault L code).jrn = L.jrn ∧
    (Live.prechargeFault L code).ret = L.ret ∧
    (Live.prechargeFault L code).blob = L.blob ∧
    (Live.prechargeFault L code).out = L.out ∧
    (Live.prechargeFault L code).free = L.free := by
  have h0 := @Live.enterSafe_frame
  simp [Live.prechargeFault, h0]

theorem Live.supplyLossSafe_frame (L : Live) :
    (Live.supplyLossSafe L).time = L.time ∧
    (Live.supplyLossSafe L).ks = L.ks ∧
    (Live.supplyLossSafe L).seg = L.seg ∧
    (Live.supplyLossSafe L).node = L.node ∧
    (Live.supplyLossSafe L).twin = L.twin ∧
    (Live.supplyLossSafe L).eng = L.eng ∧
    (Live.supplyLossSafe L).est = L.est ∧
    (Live.supplyLossSafe L).th = L.th ∧
    (Live.supplyLossSafe L).mgr = L.mgr ∧
    (Live.supplyLossSafe L).lgc = L.lgc ∧
    (Live.supplyLossSafe L).upd = L.upd ∧
    (Live.supplyLossSafe L).jrn = L.jrn ∧
    (Live.supplyLossSafe L).ret = L.ret ∧
    (Live.supplyLossSafe L).blob = L.blob ∧
    (Live.supplyLossSafe L).out = L.out ∧
    (Live.supplyLossSafe L).free = L.free := by
  have h0 := @Live.enterSafe_frame
  simp [Live.supplyLossSafe, h0]

theorem Live.alsoB_frame (L : Live) (n : Nat) (classF : Bool) :
    (Live.alsoB L n classF).mode = L.mode ∧
    (Live.alsoB L n classF).time = L.time ∧
    (Live.alsoB L n classF).ks = L.ks ∧
    (Live.alsoB L n classF).rcd = L.rcd ∧
    (Live.alsoB L n classF).seg = L.seg ∧
    (Live.alsoB L n classF).node = L.node ∧
    (Live.alsoB L n classF).conv = L.conv ∧
    (Live.alsoB L n classF).twin = L.twin ∧
    (Live.alsoB L n classF).eng = L.eng ∧
    (Live.alsoB L n classF).chi = L.chi ∧
    (Live.alsoB L n classF).cap = L.cap ∧
    (Live.alsoB L n classF).est = L.est ∧
    (Live.alsoB L n classF).th = L.th ∧
    (Live.alsoB L n classF).com = L.com ∧
    (Live.alsoB L n classF).mgr = L.mgr ∧
    (Live.alsoB L n classF).lgc = L.lgc ∧
    (Live.alsoB L n classF).upd = L.upd ∧
    (Live.alsoB L n classF).jrn = L.jrn ∧
    (Live.alsoB L n classF).dbg = L.dbg ∧
    (Live.alsoB L n classF).ret = L.ret ∧
    (Live.alsoB L n classF).obj = L.obj ∧
    (Live.alsoB L n classF).blob = L.blob ∧
    (Live.alsoB L n classF).out = L.out ∧
    (Live.alsoB L n classF).free = L.free := by
  have h0 := @Live.setPath_frame
  simp [Live.alsoB, h0]

theorem Live.sf09_frame (L : Live) (code : Nat) (block trips classF : Bool) :
    (Live.sf09 L code block trips classF).time = L.time ∧
    (Live.sf09 L code block trips classF).ks = L.ks ∧
    (Live.sf09 L code block trips classF).seg = L.seg ∧
    (Live.sf09 L code block trips classF).node = L.node ∧
    (Live.sf09 L code block trips classF).eng = L.eng ∧
    (Live.sf09 L code block trips classF).est = L.est ∧
    (Live.sf09 L code block trips classF).th = L.th ∧
    (Live.sf09 L code block trips classF).mgr = L.mgr ∧
    (Live.sf09 L code block trips classF).lgc = L.lgc ∧
    (Live.sf09 L code block trips classF).jrn = L.jrn ∧
    (Live.sf09 L code block trips classF).ret = L.ret ∧
    (Live.sf09 L code block trips classF).blob = L.blob ∧
    (Live.sf09 L code block trips classF).free = L.free := by
  have h0 := @Live.latchCause_frame
  have h1 := @Live.alsoB_frame
  have h2 := @Live.tripAct_frame
  simp [Live.sf09, h0, h1, h2]

theorem Live.auxWatch_frame (L : Live) :
    (Live.auxWatch L).time = L.time ∧
    (Live.auxWatch L).ks = L.ks ∧
    (Live.auxWatch L).seg = L.seg ∧
    (Live.auxWatch L).node = L.node ∧
    (Live.auxWatch L).twin = L.twin ∧
    (Live.auxWatch L).eng = L.eng ∧
    (Live.auxWatch L).est = L.est ∧
    (Live.auxWatch L).th = L.th ∧
    (Live.auxWatch L).mgr = L.mgr ∧
    (Live.auxWatch L).lgc = L.lgc ∧
    (Live.auxWatch L).upd = L.upd ∧
    (Live.auxWatch L).jrn = L.jrn ∧
    (Live.auxWatch L).ret = L.ret ∧
    (Live.auxWatch L).blob = L.blob ∧
    (Live.auxWatch L).out = L.out ∧
    (Live.auxWatch L).free = L.free := by
  have h0 := @Live.supplyLossSafe_frame
  simp [Live.auxWatch, h0]

theorem Live.requestHandover_frame (L : Live) (release : Bool) :
    (Live.requestHandover L release).mode = L.mode ∧
    (Live.requestHandover L release).pins = L.pins ∧
    (Live.requestHandover L release).time = L.time ∧
    (Live.requestHandover L release).ks = L.ks ∧
    (Live.requestHandover L release).rcd = L.rcd ∧
    (Live.requestHandover L release).saf = L.saf ∧
    (Live.requestHandover L release).seg = L.seg ∧
    (Live.requestHandover L release).node = L.node ∧
    (Live.requestHandover L release).conv = L.conv ∧
    (Live.requestHandover L release).eng = L.eng ∧
    (Live.requestHandover L release).chi = L.chi ∧
    (Live.requestHandover L release).cap = L.cap ∧
    (Live.requestHandover L release).est = L.est ∧
    (Live.requestHandover L release).th = L.th ∧
    (Live.requestHandover L release).com = L.com ∧
    (Live.requestHandover L release).mgr = L.mgr ∧
    (Live.requestHandover L release).lgc = L.lgc ∧
    (Live.requestHandover L release).upd = L.upd ∧
    (Live.requestHandover L release).jrn = L.jrn ∧
    (Live.requestHandover L release).dbg = L.dbg ∧
    (Live.requestHandover L release).ret = L.ret ∧
    (Live.requestHandover L release).obj = L.obj ∧
    (Live.requestHandover L release).blob = L.blob ∧
    (Live.requestHandover L release).free = L.free := by
  simp [Live.requestHandover]

theorem Live.disarmIsland_frame (L : Live) :
    (Live.disarmIsland L).mode = L.mode ∧
    (Live.disarmIsland L).pins = L.pins ∧
    (Live.disarmIsland L).time = L.time ∧
    (Live.disarmIsland L).ks = L.ks ∧
    (Live.disarmIsland L).saf = L.saf ∧
    (Live.disarmIsland L).seg = L.seg ∧
    (Live.disarmIsland L).node = L.node ∧
    (Live.disarmIsland L).conv = L.conv ∧
    (Live.disarmIsland L).twin = L.twin ∧
    (Live.disarmIsland L).eng = L.eng ∧
    (Live.disarmIsland L).chi = L.chi ∧
    (Live.disarmIsland L).est = L.est ∧
    (Live.disarmIsland L).th = L.th ∧
    (Live.disarmIsland L).mgr = L.mgr ∧
    (Live.disarmIsland L).lgc = L.lgc ∧
    (Live.disarmIsland L).upd = L.upd ∧
    (Live.disarmIsland L).jrn = L.jrn ∧
    (Live.disarmIsland L).ret = L.ret ∧
    (Live.disarmIsland L).obj = L.obj ∧
    (Live.disarmIsland L).blob = L.blob ∧
    (Live.disarmIsland L).out = L.out ∧
    (Live.disarmIsland L).free = L.free := by
  simp [Live.disarmIsland]

end Sys2Proof.Machine
end

