-- ==== Sys2Proof/Laws/FrameCairn.lean ====
section
/-! SUPPORT. What each operation of Machine/Cairn.lean leaves as it is. -/

namespace Sys2Proof.Machine

open Sys2Proof

theorem Live.updEv_frame (L : Live) (code cls : Nat) (rest : Bytes) :
    (Live.updEv L code cls rest).mode = L.mode ∧
    (Live.updEv L code cls rest).pins = L.pins ∧
    (Live.updEv L code cls rest).time = L.time ∧
    (Live.updEv L code cls rest).ks = L.ks ∧
    (Live.updEv L code cls rest).saf = L.saf ∧
    (Live.updEv L code cls rest).seg = L.seg ∧
    (Live.updEv L code cls rest).node = L.node ∧
    (Live.updEv L code cls rest).conv = L.conv ∧
    (Live.updEv L code cls rest).twin = L.twin ∧
    (Live.updEv L code cls rest).eng = L.eng ∧
    (Live.updEv L code cls rest).chi = L.chi ∧
    (Live.updEv L code cls rest).est = L.est ∧
    (Live.updEv L code cls rest).th = L.th ∧
    (Live.updEv L code cls rest).mgr = L.mgr ∧
    (Live.updEv L code cls rest).lgc = L.lgc ∧
    (Live.updEv L code cls rest).upd = L.upd ∧
    (Live.updEv L code cls rest).jrn = L.jrn ∧
    (Live.updEv L code cls rest).ret = L.ret ∧
    (Live.updEv L code cls rest).obj = L.obj ∧
    (Live.updEv L code cls rest).blob = L.blob ∧
    (Live.updEv L code cls rest).out = L.out ∧
    (Live.updEv L code cls rest).free = L.free := by
  simp [Live.updEv]

theorem Live.sendEntry_frame (L : Live) (kind : Nat) (e : JEntry) :
    (Live.sendEntry L kind e).mode = L.mode ∧
    (Live.sendEntry L kind e).pins = L.pins ∧
    (Live.sendEntry L kind e).time = L.time ∧
    (Live.sendEntry L kind e).ks = L.ks ∧
    (Live.sendEntry L kind e).rcd = L.rcd ∧
    (Live.sendEntry L kind e).saf = L.saf ∧
    (Live.sendEntry L kind e).seg = L.seg ∧
    (Live.sendEntry L kind e).node = L.node ∧
    (Live.sendEntry L kind e).conv = L.conv ∧
    (Live.sendEntry L kind e).eng = L.eng ∧
    (Live.sendEntry L kind e).chi = L.chi ∧
    (Live.sendEntry L kind e).cap = L.cap ∧
    (Live.sendEntry L kind e).est = L.est ∧
    (Live.sendEntry L kind e).th = L.th ∧
    (Live.sendEntry L kind e).com = L.com ∧
    (Live.sendEntry L kind e).mgr = L.mgr ∧
    (Live.sendEntry L kind e).lgc = L.lgc ∧
    (Live.sendEntry L kind e).upd = L.upd ∧
    (Live.sendEntry L kind e).jrn = L.jrn ∧
    (Live.sendEntry L kind e).dbg = L.dbg ∧
    (Live.sendEntry L kind e).ret = L.ret ∧
    (Live.sendEntry L kind e).obj = L.obj ∧
    (Live.sendEntry L kind e).blob = L.blob ∧
    (Live.sendEntry L kind e).out = L.out ∧
    (Live.sendEntry L kind e).free = L.free := by
  simp [Live.sendEntry]

theorem Live.jwrite_frame (L : Live) (cls : Nat) (mirrored done : Bool) (body : Bytes) :
    (Live.jwrite L cls mirrored done body).time = L.time ∧
    (Live.jwrite L cls mirrored done body).ks = L.ks ∧
    (Live.jwrite L cls mirrored done body).seg = L.seg ∧
    (Live.jwrite L cls mirrored done body).node = L.node ∧
    (Live.jwrite L cls mirrored done body).eng = L.eng ∧
    (Live.jwrite L cls mirrored done body).est = L.est ∧
    (Live.jwrite L cls mirrored done body).th = L.th ∧
    (Live.jwrite L cls mirrored done body).mgr = L.mgr ∧
    (Live.jwrite L cls mirrored done body).lgc = L.lgc ∧
    (Live.jwrite L cls mirrored done body).ret = L.ret ∧
    (Live.jwrite L cls mirrored done body).blob = L.blob ∧
    (Live.jwrite L cls mirrored done body).free = L.free := by
  have h0 := @Live.sf12_frame
  have h1 := @Live.updEv_frame
  have h2 := @Live.sendEntry_frame
  simp [Live.jwrite, h0, h1, h2]

theorem Live.jdoneAll_frame (L : Live) (p : JEntry → Bool) :
    (Live.jdoneAll L p).mode = L.mode ∧
    (Live.jdoneAll L p).pins = L.pins ∧
    (Live.jdoneAll L p).time = L.time ∧
    (Live.jdoneAll L p).ks = L.ks ∧
    (Live.jdoneAll L p).rcd = L.rcd ∧
    (Live.jdoneAll L p).saf = L.saf ∧
    (Live.jdoneAll L p).seg = L.seg ∧
    (Live.jdoneAll L p).node = L.node ∧
    (Live.jdoneAll L p).conv = L.conv ∧
    (Live.jdoneAll L p).eng = L.eng ∧
    (Live.jdoneAll L p).chi = L.chi ∧
    (Live.jdoneAll L p).cap = L.cap ∧
    (Live.jdoneAll L p).est = L.est ∧
    (Live.jdoneAll L p).th = L.th ∧
    (Live.jdoneAll L p).com = L.com ∧
    (Live.jdoneAll L p).mgr = L.mgr ∧
    (Live.jdoneAll L p).lgc = L.lgc ∧
    (Live.jdoneAll L p).upd = L.upd ∧
    (Live.jdoneAll L p).dbg = L.dbg ∧
    (Live.jdoneAll L p).ret = L.ret ∧
    (Live.jdoneAll L p).obj = L.obj ∧
    (Live.jdoneAll L p).blob = L.blob ∧
    (Live.jdoneAll L p).out = L.out ∧
    (Live.jdoneAll L p).free = L.free := by
  have h0 := @Live.sendEntry_frame
  simp [Live.jdoneAll, h0]

theorem Live.jdone_frame (L : Live) (seq : Nat) :
    (Live.jdone L seq).mode = L.mode ∧
    (Live.jdone L seq).pins = L.pins ∧
    (Live.jdone L seq).time = L.time ∧
    (Live.jdone L seq).ks = L.ks ∧
    (Live.jdone L seq).rcd = L.rcd ∧
    (Live.jdone L seq).saf = L.saf ∧
    (Live.jdone L seq).seg = L.seg ∧
    (Live.jdone L seq).node = L.node ∧
    (Live.jdone L seq).conv = L.conv ∧
    (Live.jdone L seq).eng = L.eng ∧
    (Live.jdone L seq).chi = L.chi ∧
    (Live.jdone L seq).cap = L.cap ∧
    (Live.jdone L seq).est = L.est ∧
    (Live.jdone L seq).th = L.th ∧
    (Live.jdone L seq).com = L.com ∧
    (Live.jdone L seq).mgr = L.mgr ∧
    (Live.jdone L seq).lgc = L.lgc ∧
    (Live.jdone L seq).upd = L.upd ∧
    (Live.jdone L seq).dbg = L.dbg ∧
    (Live.jdone L seq).ret = L.ret ∧
    (Live.jdone L seq).obj = L.obj ∧
    (Live.jdone L seq).blob = L.blob ∧
    (Live.jdone L seq).out = L.out ∧
    (Live.jdone L seq).free = L.free := by
  have h0 := @Live.jdoneAll_frame
  simp [Live.jdone, h0]

theorem Live.carryEntry_frame (L : Live) (e : JEntry) :
    (Live.carryEntry L e).time = L.time ∧
    (Live.carryEntry L e).ks = L.ks ∧
    (Live.carryEntry L e).seg = L.seg ∧
    (Live.carryEntry L e).node = L.node ∧
    (Live.carryEntry L e).eng = L.eng ∧
    (Live.carryEntry L e).est = L.est ∧
    (Live.carryEntry L e).th = L.th ∧
    (Live.carryEntry L e).lgc = L.lgc ∧
    (Live.carryEntry L e).ret = L.ret ∧
    (Live.carryEntry L e).blob = L.blob ∧
    (Live.carryEntry L e).free = L.free := by
  have h0 := @Live.jdone_frame
  have h1 := @Live.jwrite_frame
  simp [Live.carryEntry, h0, h1]

theorem Live.checkpoint_frame (L : Live) :
    (Live.checkpoint L).time = L.time ∧
    (Live.checkpoint L).ks = L.ks ∧
    (Live.checkpoint L).seg = L.seg ∧
    (Live.checkpoint L).node = L.node ∧
    (Live.checkpoint L).eng = L.eng ∧
    (Live.checkpoint L).est = L.est ∧
    (Live.checkpoint L).th = L.th ∧
    (Live.checkpoint L).lgc = L.lgc ∧
    (Live.checkpoint L).ret = L.ret ∧
    (Live.checkpoint L).blob = L.blob ∧
    (Live.checkpoint L).free = L.free := by
  have h0 := @Live.jwrite_frame
  have h1 := @Live.carryEntry_frame
  have h2 := @Live.updEv_frame
  simp [Live.checkpoint, h0, h1, h2]

theorem Live.emcyOf_frame (L : Live) (e : Emcy) :
    (Live.emcyOf L e).mode = L.mode ∧
    (Live.emcyOf L e).pins = L.pins ∧
    (Live.emcyOf L e).time = L.time ∧
    (Live.emcyOf L e).ks = L.ks ∧
    (Live.emcyOf L e).saf = L.saf ∧
    (Live.emcyOf L e).seg = L.seg ∧
    (Live.emcyOf L e).node = L.node ∧
    (Live.emcyOf L e).conv = L.conv ∧
    (Live.emcyOf L e).twin = L.twin ∧
    (Live.emcyOf L e).eng = L.eng ∧
    (Live.emcyOf L e).chi = L.chi ∧
    (Live.emcyOf L e).cap = L.cap ∧
    (Live.emcyOf L e).est = L.est ∧
    (Live.emcyOf L e).th = L.th ∧
    (Live.emcyOf L e).mgr = L.mgr ∧
    (Live.emcyOf L e).lgc = L.lgc ∧
    (Live.emcyOf L e).upd = L.upd ∧
    (Live.emcyOf L e).jrn = L.jrn ∧
    (Live.emcyOf L e).dbg = L.dbg ∧
    (Live.emcyOf L e).ret = L.ret ∧
    (Live.emcyOf L e).obj = L.obj ∧
    (Live.emcyOf L e).blob = L.blob ∧
    (Live.emcyOf L e).out = L.out ∧
    (Live.emcyOf L e).free = L.free := by
  simp [Live.emcyOf]

theorem Live.emcysOf_frame (L : Live) (seq : Nat) :
    (Live.emcysOf L seq).mode = L.mode ∧
    (Live.emcysOf L seq).pins = L.pins ∧
    (Live.emcysOf L seq).time = L.time ∧
    (Live.emcysOf L seq).ks = L.ks ∧
    (Live.emcysOf L seq).saf = L.saf ∧
    (Live.emcysOf L seq).seg = L.seg ∧
    (Live.emcysOf L seq).node = L.node ∧
    (Live.emcysOf L seq).conv = L.conv ∧
    (Live.emcysOf L seq).twin = L.twin ∧
    (Live.emcysOf L seq).eng = L.eng ∧
    (Live.emcysOf L seq).chi = L.chi ∧
    (Live.emcysOf L seq).cap = L.cap ∧
    (Live.emcysOf L seq).est = L.est ∧
    (Live.emcysOf L seq).th = L.th ∧
    (Live.emcysOf L seq).mgr = L.mgr ∧
    (Live.emcysOf L seq).lgc = L.lgc ∧
    (Live.emcysOf L seq).upd = L.upd ∧
    (Live.emcysOf L seq).jrn = L.jrn ∧
    (Live.emcysOf L seq).dbg = L.dbg ∧
    (Live.emcysOf L seq).ret = L.ret ∧
    (Live.emcysOf L seq).obj = L.obj ∧
    (Live.emcysOf L seq).blob = L.blob ∧
    (Live.emcysOf L seq).out = L.out ∧
    (Live.emcysOf L seq).free = L.free := by
  have h0 := @Live.emcyOf_frame
  simp [Live.emcysOf, h0]

theorem Live.systemRecord_frame (L : Live) (code cls : Nat) (payload : Bytes) :
    (Live.systemRecord L code cls payload).mode = L.mode ∧
    (Live.systemRecord L code cls payload).pins = L.pins ∧
    (Live.systemRecord L code cls payload).time = L.time ∧
    (Live.systemRecord L code cls payload).ks = L.ks ∧
    (Live.systemRecord L code cls payload).saf = L.saf ∧
    (Live.systemRecord L code cls payload).seg = L.seg ∧
    (Live.systemRecord L code cls payload).node = L.node ∧
    (Live.systemRecord L code cls payload).conv = L.conv ∧
    (Live.systemRecord L code cls payload).twin = L.twin ∧
    (Live.systemRecord L code cls payload).eng = L.eng ∧
    (Live.systemRecord L code cls payload).chi = L.chi ∧
    (Live.systemRecord L code cls payload).cap = L.cap ∧
    (Live.systemRecord L code cls payload).est = L.est ∧
    (Live.systemRecord L code cls payload).th = L.th ∧
    (Live.systemRecord L code cls payload).mgr = L.mgr ∧
    (Live.systemRecord L code cls payload).lgc = L.lgc ∧
    (Live.systemRecord L code cls payload).upd = L.upd ∧
    (Live.systemRecord L code cls payload).jrn = L.jrn ∧
    (Live.systemRecord L code cls payload).dbg = L.dbg ∧
    (Live.systemRecord L code cls payload).ret = L.ret ∧
    (Live.systemRecord L code cls payload).obj = L.obj ∧
    (Live.systemRecord L code cls payload).blob = L.blob ∧
    (Live.systemRecord L code cls payload).out = L.out ∧
    (Live.systemRecord L code cls payload).free = L.free := by
  simp [Live.systemRecord]

theorem Live.overflowRecords_frame (L : Live) :
    (Live.overflowRecords L).mode = L.mode ∧
    (Live.overflowRecords L).pins = L.pins ∧
    (Live.overflowRecords L).time = L.time ∧
    (Live.overflowRecords L).ks = L.ks ∧
    (Live.overflowRecords L).saf = L.saf ∧
    (Live.overflowRecords L).seg = L.seg ∧
    (Live.overflowRecords L).node = L.node ∧
    (Live.overflowRecords L).conv = L.conv ∧
    (Live.overflowRecords L).twin = L.twin ∧
    (Live.overflowRecords L).eng = L.eng ∧
    (Live.overflowRecords L).chi = L.chi ∧
    (Live.overflowRecords L).cap = L.cap ∧
    (Live.overflowRecords L).est = L.est ∧
    (Live.overflowRecords L).th = L.th ∧
    (Live.overflowRecords L).mgr = L.mgr ∧
    (Live.overflowRecords L).lgc = L.lgc ∧
    (Live.overflowRecords L).upd = L.upd ∧
    (Live.overflowRecords L).jrn = L.jrn ∧
    (Live.overflowRecords L).dbg = L.dbg ∧
    (Live.overflowRecords L).ret = L.ret ∧
    (Live.overflowRecords L).obj = L.obj ∧
    (Live.overflowRecords L).blob = L.blob ∧
    (Live.overflowRecords L).out = L.out ∧
    (Live.overflowRecords L).free = L.free := by
  have h0 := @Live.systemRecord_frame
  unfold Live.overflowRecords
  (repeat' split) <;> first
    | (simp [h0]; done)
    | (apply foldl_inv (fun M => M.mode = L.mode ∧ M.pins = L.pins ∧ M.time = L.time ∧ M.ks = L.ks ∧ M.saf = L.saf ∧ M.seg = L.seg ∧ M.node = L.node ∧ M.conv = L.conv ∧ M.twin = L.twin ∧ M.eng = L.eng ∧ M.chi = L.chi ∧ M.cap = L.cap ∧ M.est = L.est ∧ M.th = L.th ∧ M.mgr = L.mgr ∧ M.lgc = L.lgc ∧ M.upd = L.upd ∧ M.jrn = L.jrn ∧ M.dbg = L.dbg ∧ M.ret = L.ret ∧ M.obj = L.obj ∧ M.blob = L.blob ∧ M.out = L.out ∧ M.free = L.free)
       · intro M a h
         (repeat' split) <;> simp_all
       · simp [h0])

theorem Live.commitRecord_frame (L : Live) :
    (Live.commitRecord L).time = L.time ∧
    (Live.commitRecord L).ks = L.ks ∧
    (Live.commitRecord L).seg = L.seg ∧
    (Live.commitRecord L).node = L.node ∧
    (Live.commitRecord L).eng = L.eng ∧
    (Live.commitRecord L).est = L.est ∧
    (Live.commitRecord L).th = L.th ∧
    (Live.commitRecord L).mgr = L.mgr ∧
    (Live.commitRecord L).lgc = L.lgc ∧
    (Live.commitRecord L).ret = L.ret ∧
    (Live.commitRecord L).blob = L.blob ∧
    (Live.commitRecord L).free = L.free := by
  have h0 := @Live.jwrite_frame
  have h1 := @Live.overflowRecords_frame
  have h2 := @Live.emcysOf_frame
  simp only [Live.commitRecord]
  (repeat' split) <;> simp [h0, h1, h2]

theorem Live.commitAll_frame (n : Nat) (L : Live) :
    (Live.commitAll n L).time = L.time ∧
    (Live.commitAll n L).ks = L.ks ∧
    (Live.commitAll n L).seg = L.seg ∧
    (Live.commitAll n L).node = L.node ∧
    (Live.commitAll n L).eng = L.eng ∧
    (Live.commitAll n L).est = L.est ∧
    (Live.commitAll n L).th = L.th ∧
    (Live.commitAll n L).mgr = L.mgr ∧
    (Live.commitAll n L).lgc = L.lgc ∧
    (Live.commitAll n L).ret = L.ret ∧
    (Live.commitAll n L).blob = L.blob ∧
    (Live.commitAll n L).free = L.free := by
  have h0 := @Live.commitRecord_frame
  induction n generalizing L with
  | zero => simp [Live.commitAll, h0]
  | succ n ih => simp only [Live.commitAll]; split <;> simp [ih, h0]

theorem Live.putRepeat_frame (L : Live) (e : Rec) :
    (Live.putRepeat L e).mode = L.mode ∧
    (Live.putRepeat L e).pins = L.pins ∧
    (Live.putRepeat L e).time = L.time ∧
    (Live.putRepeat L e).ks = L.ks ∧
    (Live.putRepeat L e).saf = L.saf ∧
    (Live.putRepeat L e).seg = L.seg ∧
    (Live.putRepeat L e).node = L.node ∧
    (Live.putRepeat L e).conv = L.conv ∧
    (Live.putRepeat L e).twin = L.twin ∧
    (Live.putRepeat L e).eng = L.eng ∧
    (Live.putRepeat L e).chi = L.chi ∧
    (Live.putRepeat L e).cap = L.cap ∧
    (Live.putRepeat L e).est = L.est ∧
    (Live.putRepeat L e).th = L.th ∧
    (Live.putRepeat L e).mgr = L.mgr ∧
    (Live.putRepeat L e).lgc = L.lgc ∧
    (Live.putRepeat L e).upd = L.upd ∧
    (Live.putRepeat L e).jrn = L.jrn ∧
    (Live.putRepeat L e).dbg = L.dbg ∧
    (Live.putRepeat L e).ret = L.ret ∧
    (Live.putRepeat L e).obj = L.obj ∧
    (Live.putRepeat L e).blob = L.blob ∧
    (Live.putRepeat L e).out = L.out ∧
    (Live.putRepeat L e).free = L.free := by
  have h0 := @Live.emcysOf_frame
  simp [Live.putRepeat, h0]

theorem Live.repeatInPlace_frame (L : Live) :
    (Live.repeatInPlace L).mode = L.mode ∧
    (Live.repeatInPlace L).pins = L.pins ∧
    (Live.repeatInPlace L).time = L.time ∧
    (Live.repeatInPlace L).ks = L.ks ∧
    (Live.repeatInPlace L).saf = L.saf ∧
    (Live.repeatInPlace L).seg = L.seg ∧
    (Live.repeatInPlace L).node = L.node ∧
    (Live.repeatInPlace L).conv = L.conv ∧
    (Live.repeatInPlace L).twin = L.twin ∧
    (Live.repeatInPlace L).eng = L.eng ∧
    (Live.repeatInPlace L).chi = L.chi ∧
    (Live.repeatInPlace L).cap = L.cap ∧
    (Live.repeatInPlace L).est = L.est ∧
    (Live.repeatInPlace L).th = L.th ∧
    (Live.repeatInPlace L).mgr = L.mgr ∧
    (Live.repeatInPlace L).lgc = L.lgc ∧
    (Live.repeatInPlace L).upd = L.upd ∧
    (Live.repeatInPlace L).jrn = L.jrn ∧
    (Live.repeatInPlace L).dbg = L.dbg ∧
    (Live.repeatInPlace L).ret = L.ret ∧
    (Live.repeatInPlace L).obj = L.obj ∧
    (Live.repeatInPlace L).blob = L.blob ∧
    (Live.repeatInPlace L).out = L.out ∧
    (Live.repeatInPlace L).free = L.free := by
  have h0 := @Live.putRepeat_frame
  simp only [Live.repeatInPlace]
  split <;> simp [h0]

theorem Live.releaseFreeze_frame (L : Live) (cause : Nat) :
    (Live.releaseFreeze L cause).mode = L.mode ∧
    (Live.releaseFreeze L cause).pins = L.pins ∧
    (Live.releaseFreeze L cause).time = L.time ∧
    (Live.releaseFreeze L cause).ks = L.ks ∧
    (Live.releaseFreeze L cause).saf = L.saf ∧
    (Live.releaseFreeze L cause).seg = L.seg ∧
    (Live.releaseFreeze L cause).node = L.node ∧
    (Live.releaseFreeze L cause).conv = L.conv ∧
    (Live.releaseFreeze L cause).twin = L.twin ∧
    (Live.releaseFreeze L cause).eng = L.eng ∧
    (Live.releaseFreeze L cause).chi = L.chi ∧
    (Live.releaseFreeze L cause).cap = L.cap ∧
    (Live.releaseFreeze L cause).est = L.est ∧
    (Live.releaseFreeze L cause).th = L.th ∧
    (Live.releaseFreeze L cause).mgr = L.mgr ∧
    (Live.releaseFreeze L cause).lgc = L.lgc ∧
    (Live.releaseFreeze L cause).upd = L.upd ∧
    (Live.releaseFreeze L cause).jrn = L.jrn ∧
    (Live.releaseFreeze L cause).dbg = L.dbg ∧
    (Live.releaseFreeze L cause).ret = L.ret ∧
    (Live.releaseFreeze L cause).obj = L.obj ∧
    (Live.releaseFreeze L cause).blob = L.blob ∧
    (Live.releaseFreeze L cause).out = L.out ∧
    (Live.releaseFreeze L cause).free = L.free := by
  have h0 := @Live.systemRecord_frame
  simp only [Live.releaseFreeze]
  (repeat' split) <;> simp [h0]

theorem Live.saveCounters_frame (L : Live) :
    (Live.saveCounters L).time = L.time ∧
    (Live.saveCounters L).ks = L.ks ∧
    (Live.saveCounters L).seg = L.seg ∧
    (Live.saveCounters L).node = L.node ∧
    (Live.saveCounters L).eng = L.eng ∧
    (Live.saveCounters L).est = L.est ∧
    (Live.saveCounters L).th = L.th ∧
    (Live.saveCounters L).mgr = L.mgr ∧
    (Live.saveCounters L).lgc = L.lgc ∧
    (Live.saveCounters L).blob = L.blob ∧
    (Live.saveCounters L).free = L.free := by
  have h0 := @Live.jwrite_frame
  simp [Live.saveCounters, h0]

theorem Live.saveContexts_frame (L : Live) :
    (Live.saveContexts L).mode = L.mode ∧
    (Live.saveContexts L).pins = L.pins ∧
    (Live.saveContexts L).time = L.time ∧
    (Live.saveContexts L).ks = L.ks ∧
    (Live.saveContexts L).rcd = L.rcd ∧
    (Live.saveContexts L).saf = L.saf ∧
    (Live.saveContexts L).seg = L.seg ∧
    (Live.saveContexts L).node = L.node ∧
    (Live.saveContexts L).conv = L.conv ∧
    (Live.saveContexts L).twin = L.twin ∧
    (Live.saveContexts L).eng = L.eng ∧
    (Live.saveContexts L).chi = L.chi ∧
    (Live.saveContexts L).cap = L.cap ∧
    (Live.saveContexts L).est = L.est ∧
    (Live.saveContexts L).th = L.th ∧
    (Live.saveContexts L).com = L.com ∧
    (Live.saveContexts L).mgr = L.mgr ∧
    (Live.saveContexts L).lgc = L.lgc ∧
    (Live.saveContexts L).upd = L.upd ∧
    (Live.saveContexts L).jrn = L.jrn ∧
    (Live.saveContexts L).dbg = L.dbg ∧
    (Live.saveContexts L).obj = L.obj ∧
    (Live.saveContexts L).blob = L.blob ∧
    (Live.saveContexts L).out = L.out ∧
    (Live.saveContexts L).free = L.free := by
  simp [Live.saveContexts]

theorem Live.seal_frame (L : Live) :
    (Live.seal L).time = L.time ∧
    (Live.seal L).ks = L.ks ∧
    (Live.seal L).seg = L.seg ∧
    (Live.seal L).node = L.node ∧
    (Live.seal L).eng = L.eng ∧
    (Live.seal L).est = L.est ∧
    (Live.seal L).th = L.th ∧
    (Live.seal L).lgc = L.lgc ∧
    (Live.seal L).blob = L.blob ∧
    (Live.seal L).free = L.free := by
  have h0 := @Live.checkpoint_frame
  have h1 := @Live.saveCounters_frame
  have h2 := @Live.saveContexts_frame
  have h3 := @Live.repeatInPlace_frame
  have h4 := @Live.commitAll_frame
  have h5 := @Live.releaseFreeze_frame
  simp [Live.seal, h0, h1, h2, h3, h4, h5]

theorem Live.stageEntry_frame (L : Live) (done : Bool) (kind : Nat) (rest : Bytes) :
    (Live.stageEntry L done kind rest).time = L.time ∧
    (Live.stageEntry L done kind rest).ks = L.ks ∧
    (Live.stageEntry L done kind rest).seg = L.seg ∧
    (Live.stageEntry L done kind rest).node = L.node ∧
    (Live.stageEntry L done kind rest).eng = L.eng ∧
    (Live.stageEntry L done kind rest).est = L.est ∧
    (Live.stageEntry L done kind rest).th = L.th ∧
    (Live.stageEntry L done kind rest).mgr = L.mgr ∧
    (Live.stageEntry L done kind rest).lgc = L.lgc ∧
    (Live.stageEntry L done kind rest).ret = L.ret ∧
    (Live.stageEntry L done kind rest).blob = L.blob ∧
    (Live.stageEntry L done kind rest).free = L.free := by
  have h0 := @Live.jwrite_frame
  simp [Live.stageEntry, h0]

end Sys2Proof.Machine
end

