-- ==== Sys2Proof/Laws/FrameSession.lean ====
section
/-! SUPPORT. What each operation of Machine/Session.lean leaves as it is. -/

namespace Sys2Proof.Machine

open Sys2Proof

theorem Live.endSession_frame (L : Live) (s : Sess) :
    (Live.endSession L s).mode = L.mode ∧
    (Live.endSession L s).pins = L.pins ∧
    (Live.endSession L s).time = L.time ∧
    (Live.endSession L s).rcd = L.rcd ∧
    (Live.endSession L s).saf = L.saf ∧
    (Live.endSession L s).seg = L.seg ∧
    (Live.endSession L s).node = L.node ∧
    (Live.endSession L s).conv = L.conv ∧
    (Live.endSession L s).twin = L.twin ∧
    (Live.endSession L s).eng = L.eng ∧
    (Live.endSession L s).chi = L.chi ∧
    (Live.endSession L s).cap = L.cap ∧
    (Live.endSession L s).est = L.est ∧
    (Live.endSession L s).th = L.th ∧
    (Live.endSession L s).com = L.com ∧
    (Live.endSession L s).mgr = L.mgr ∧
    (Live.endSession L s).lgc = L.lgc ∧
    (Live.endSession L s).upd = L.upd ∧
    (Live.endSession L s).jrn = L.jrn ∧
    (Live.endSession L s).dbg = L.dbg ∧
    (Live.endSession L s).ret = L.ret ∧
    (Live.endSession L s).obj = L.obj ∧
    (Live.endSession L s).blob = L.blob ∧
    (Live.endSession L s).out = L.out ∧
    (Live.endSession L s).free = L.free := by
  simp only [Live.endSession]
  (repeat' split) <;> simp

theorem Live.touch_frame (L : Live) (s : Sess) :
    (Live.touch L s).mode = L.mode ∧
    (Live.touch L s).pins = L.pins ∧
    (Live.touch L s).time = L.time ∧
    (Live.touch L s).rcd = L.rcd ∧
    (Live.touch L s).saf = L.saf ∧
    (Live.touch L s).seg = L.seg ∧
    (Live.touch L s).node = L.node ∧
    (Live.touch L s).conv = L.conv ∧
    (Live.touch L s).twin = L.twin ∧
    (Live.touch L s).eng = L.eng ∧
    (Live.touch L s).chi = L.chi ∧
    (Live.touch L s).cap = L.cap ∧
    (Live.touch L s).est = L.est ∧
    (Live.touch L s).th = L.th ∧
    (Live.touch L s).com = L.com ∧
    (Live.touch L s).mgr = L.mgr ∧
    (Live.touch L s).lgc = L.lgc ∧
    (Live.touch L s).upd = L.upd ∧
    (Live.touch L s).jrn = L.jrn ∧
    (Live.touch L s).dbg = L.dbg ∧
    (Live.touch L s).ret = L.ret ∧
    (Live.touch L s).obj = L.obj ∧
    (Live.touch L s).blob = L.blob ∧
    (Live.touch L s).out = L.out ∧
    (Live.touch L s).free = L.free := by
  have h0 := @Live.endSession_frame
  simp only [Live.touch]
  (repeat' split) <;> simp [h0]

theorem Live.modSession_frame (L : Live) (s : Sess) (f : Session → Session) :
    (Live.modSession L s f).mode = L.mode ∧
    (Live.modSession L s f).pins = L.pins ∧
    (Live.modSession L s f).time = L.time ∧
    (Live.modSession L s f).rcd = L.rcd ∧
    (Live.modSession L s f).saf = L.saf ∧
    (Live.modSession L s f).seg = L.seg ∧
    (Live.modSession L s f).node = L.node ∧
    (Live.modSession L s f).conv = L.conv ∧
    (Live.modSession L s f).twin = L.twin ∧
    (Live.modSession L s f).eng = L.eng ∧
    (Live.modSession L s f).chi = L.chi ∧
    (Live.modSession L s f).cap = L.cap ∧
    (Live.modSession L s f).est = L.est ∧
    (Live.modSession L s f).th = L.th ∧
    (Live.modSession L s f).com = L.com ∧
    (Live.modSession L s f).mgr = L.mgr ∧
    (Live.modSession L s f).lgc = L.lgc ∧
    (Live.modSession L s f).upd = L.upd ∧
    (Live.modSession L s f).jrn = L.jrn ∧
    (Live.modSession L s f).dbg = L.dbg ∧
    (Live.modSession L s f).ret = L.ret ∧
    (Live.modSession L s f).obj = L.obj ∧
    (Live.modSession L s f).blob = L.blob ∧
    (Live.modSession L s f).out = L.out ∧
    (Live.modSession L s f).free = L.free := by
  simp [Live.modSession]

theorem Live.refuse_frame (L : Live) (s : Sess) (code : Abort) :
    (Live.refuse L s code).mode = L.mode ∧
    (Live.refuse L s code).pins = L.pins ∧
    (Live.refuse L s code).time = L.time ∧
    (Live.refuse L s code).rcd = L.rcd ∧
    (Live.refuse L s code).saf = L.saf ∧
    (Live.refuse L s code).seg = L.seg ∧
    (Live.refuse L s code).node = L.node ∧
    (Live.refuse L s code).conv = L.conv ∧
    (Live.refuse L s code).twin = L.twin ∧
    (Live.refuse L s code).eng = L.eng ∧
    (Live.refuse L s code).chi = L.chi ∧
    (Live.refuse L s code).cap = L.cap ∧
    (Live.refuse L s code).est = L.est ∧
    (Live.refuse L s code).th = L.th ∧
    (Live.refuse L s code).lgc = L.lgc ∧
    (Live.refuse L s code).upd = L.upd ∧
    (Live.refuse L s code).jrn = L.jrn ∧
    (Live.refuse L s code).ret = L.ret ∧
    (Live.refuse L s code).obj = L.obj ∧
    (Live.refuse L s code).blob = L.blob ∧
    (Live.refuse L s code).free = L.free := by
  have h0 := @Live.modSession_frame
  simp [Live.refuse, h0]

theorem Live.refuseArrival_frame (L : Live) (s : Sess) (code : Abort) :
    (Live.refuseArrival L s code).mode = L.mode ∧
    (Live.refuseArrival L s code).pins = L.pins ∧
    (Live.refuseArrival L s code).time = L.time ∧
    (Live.refuseArrival L s code).rcd = L.rcd ∧
    (Live.refuseArrival L s code).saf = L.saf ∧
    (Live.refuseArrival L s code).seg = L.seg ∧
    (Live.refuseArrival L s code).node = L.node ∧
    (Live.refuseArrival L s code).conv = L.conv ∧
    (Live.refuseArrival L s code).twin = L.twin ∧
    (Live.refuseArrival L s code).eng = L.eng ∧
    (Live.refuseArrival L s code).chi = L.chi ∧
    (Live.refuseArrival L s code).cap = L.cap ∧
    (Live.refuseArrival L s code).est = L.est ∧
    (Live.refuseArrival L s code).th = L.th ∧
    (Live.refuseArrival L s code).lgc = L.lgc ∧
    (Live.refuseArrival L s code).upd = L.upd ∧
    (Live.refuseArrival L s code).jrn = L.jrn ∧
    (Live.refuseArrival L s code).ret = L.ret ∧
    (Live.refuseArrival L s code).obj = L.obj ∧
    (Live.refuseArrival L s code).blob = L.blob ∧
    (Live.refuseArrival L s code).free = L.free := by
  have h0 := @Live.refuse_frame
  simp [Live.refuseArrival, h0]

theorem Live.accept_frame (L : Live) (s : Sess) :
    (Live.accept L s).mode = L.mode ∧
    (Live.accept L s).pins = L.pins ∧
    (Live.accept L s).time = L.time ∧
    (Live.accept L s).ks = L.ks ∧
    (Live.accept L s).rcd = L.rcd ∧
    (Live.accept L s).saf = L.saf ∧
    (Live.accept L s).seg = L.seg ∧
    (Live.accept L s).node = L.node ∧
    (Live.accept L s).conv = L.conv ∧
    (Live.accept L s).twin = L.twin ∧
    (Live.accept L s).eng = L.eng ∧
    (Live.accept L s).chi = L.chi ∧
    (Live.accept L s).cap = L.cap ∧
    (Live.accept L s).est = L.est ∧
    (Live.accept L s).th = L.th ∧
    (Live.accept L s).lgc = L.lgc ∧
    (Live.accept L s).upd = L.upd ∧
    (Live.accept L s).jrn = L.jrn ∧
    (Live.accept L s).ret = L.ret ∧
    (Live.accept L s).obj = L.obj ∧
    (Live.accept L s).blob = L.blob ∧
    (Live.accept L s).free = L.free := by
  simp [Live.accept]

theorem Live.toPartner_frame (L : Live) (channel : Nat) (d : Bytes) :
    (Live.toPartner L channel d).mode = L.mode ∧
    (Live.toPartner L channel d).pins = L.pins ∧
    (Live.toPartner L channel d).time = L.time ∧
    (Live.toPartner L channel d).ks = L.ks ∧
    (Live.toPartner L channel d).rcd = L.rcd ∧
    (Live.toPartner L channel d).saf = L.saf ∧
    (Live.toPartner L channel d).seg = L.seg ∧
    (Live.toPartner L channel d).node = L.node ∧
    (Live.toPartner L channel d).conv = L.conv ∧
    (Live.toPartner L channel d).eng = L.eng ∧
    (Live.toPartner L channel d).chi = L.chi ∧
    (Live.toPartner L channel d).cap = L.cap ∧
    (Live.toPartner L channel d).est = L.est ∧
    (Live.toPartner L channel d).th = L.th ∧
    (Live.toPartner L channel d).com = L.com ∧
    (Live.toPartner L channel d).mgr = L.mgr ∧
    (Live.toPartner L channel d).lgc = L.lgc ∧
    (Live.toPartner L channel d).upd = L.upd ∧
    (Live.toPartner L channel d).jrn = L.jrn ∧
    (Live.toPartner L channel d).dbg = L.dbg ∧
    (Live.toPartner L channel d).ret = L.ret ∧
    (Live.toPartner L channel d).obj = L.obj ∧
    (Live.toPartner L channel d).blob = L.blob ∧
    (Live.toPartner L channel d).out = L.out ∧
    (Live.toPartner L channel d).free = L.free := by
  simp [Live.toPartner]

theorem Live.forward_frame (L : Live) (s : Sess) (k : Nat) (v : Bytes) :
    (Live.forward L s k v).mode = L.mode ∧
    (Live.forward L s k v).pins = L.pins ∧
    (Live.forward L s k v).time = L.time ∧
    (Live.forward L s k v).ks = L.ks ∧
    (Live.forward L s k v).rcd = L.rcd ∧
    (Live.forward L s k v).saf = L.saf ∧
    (Live.forward L s k v).seg = L.seg ∧
    (Live.forward L s k v).node = L.node ∧
    (Live.forward L s k v).conv = L.conv ∧
    (Live.forward L s k v).eng = L.eng ∧
    (Live.forward L s k v).chi = L.chi ∧
    (Live.forward L s k v).cap = L.cap ∧
    (Live.forward L s k v).est = L.est ∧
    (Live.forward L s k v).th = L.th ∧
    (Live.forward L s k v).com = L.com ∧
    (Live.forward L s k v).mgr = L.mgr ∧
    (Live.forward L s k v).lgc = L.lgc ∧
    (Live.forward L s k v).upd = L.upd ∧
    (Live.forward L s k v).jrn = L.jrn ∧
    (Live.forward L s k v).dbg = L.dbg ∧
    (Live.forward L s k v).ret = L.ret ∧
    (Live.forward L s k v).obj = L.obj ∧
    (Live.forward L s k v).blob = L.blob ∧
    (Live.forward L s k v).out = L.out ∧
    (Live.forward L s k v).free = L.free := by
  have h0 := @Live.toPartner_frame
  simp [Live.forward, h0]

theorem Live.forwardOn_frame (L : Live) (s : Sess) (k : Nat) (v : Bytes) :
    (Live.forwardOn L s k v).1.mode = L.mode ∧
    (Live.forwardOn L s k v).1.pins = L.pins ∧
    (Live.forwardOn L s k v).1.time = L.time ∧
    (Live.forwardOn L s k v).1.ks = L.ks ∧
    (Live.forwardOn L s k v).1.rcd = L.rcd ∧
    (Live.forwardOn L s k v).1.saf = L.saf ∧
    (Live.forwardOn L s k v).1.seg = L.seg ∧
    (Live.forwardOn L s k v).1.node = L.node ∧
    (Live.forwardOn L s k v).1.conv = L.conv ∧
    (Live.forwardOn L s k v).1.eng = L.eng ∧
    (Live.forwardOn L s k v).1.chi = L.chi ∧
    (Live.forwardOn L s k v).1.cap = L.cap ∧
    (Live.forwardOn L s k v).1.est = L.est ∧
    (Live.forwardOn L s k v).1.th = L.th ∧
    (Live.forwardOn L s k v).1.com = L.com ∧
    (Live.forwardOn L s k v).1.mgr = L.mgr ∧
    (Live.forwardOn L s k v).1.lgc = L.lgc ∧
    (Live.forwardOn L s k v).1.upd = L.upd ∧
    (Live.forwardOn L s k v).1.jrn = L.jrn ∧
    (Live.forwardOn L s k v).1.dbg = L.dbg ∧
    (Live.forwardOn L s k v).1.ret = L.ret ∧
    (Live.forwardOn L s k v).1.obj = L.obj ∧
    (Live.forwardOn L s k v).1.blob = L.blob ∧
    (Live.forwardOn L s k v).1.out = L.out ∧
    (Live.forwardOn L s k v).1.free = L.free := by
  have h0 := @Live.forward_frame
  simp [Live.forwardOn, h0]

theorem Live.haltIsland_frame (L : Live) (i : Nat) :
    (Live.haltIsland L i).mode = L.mode ∧
    (Live.haltIsland L i).time = L.time ∧
    (Live.haltIsland L i).ks = L.ks ∧
    (Live.haltIsland L i).seg = L.seg ∧
    (Live.haltIsland L i).node = L.node ∧
    (Live.haltIsland L i).conv = L.conv ∧
    (Live.haltIsland L i).eng = L.eng ∧
    (Live.haltIsland L i).chi = L.chi ∧
    (Live.haltIsland L i).est = L.est ∧
    (Live.haltIsland L i).th = L.th ∧
    (Live.haltIsland L i).mgr = L.mgr ∧
    (Live.haltIsland L i).lgc = L.lgc ∧
    (Live.haltIsland L i).upd = L.upd ∧
    (Live.haltIsland L i).jrn = L.jrn ∧
    (Live.haltIsland L i).ret = L.ret ∧
    (Live.haltIsland L i).blob = L.blob ∧
    (Live.haltIsland L i).out = L.out ∧
    (Live.haltIsland L i).free = L.free := by
  have h0 := @Live.openLoop_frame
  have h1 := @Live.setFast_frame
  have h2 := @Live.toPartner_frame
  simp [Live.haltIsland, h0, h1, h2]

theorem Live.brkIsland_frame (L : Live) (slot : Nat) :
    (Live.brkIsland L slot).mode = L.mode ∧
    (Live.brkIsland L slot).time = L.time ∧
    (Live.brkIsland L slot).ks = L.ks ∧
    (Live.brkIsland L slot).seg = L.seg ∧
    (Live.brkIsland L slot).node = L.node ∧
    (Live.brkIsland L slot).conv = L.conv ∧
    (Live.brkIsland L slot).eng = L.eng ∧
    (Live.brkIsland L slot).chi = L.chi ∧
    (Live.brkIsland L slot).est = L.est ∧
    (Live.brkIsland L slot).th = L.th ∧
    (Live.brkIsland L slot).mgr = L.mgr ∧
    (Live.brkIsland L slot).lgc = L.lgc ∧
    (Live.brkIsland L slot).upd = L.upd ∧
    (Live.brkIsland L slot).jrn = L.jrn ∧
    (Live.brkIsland L slot).ret = L.ret ∧
    (Live.brkIsland L slot).blob = L.blob ∧
    (Live.brkIsland L slot).out = L.out ∧
    (Live.brkIsland L slot).free = L.free := by
  have h0 := @Live.haltIsland_frame
  simp only [Live.brkIsland]
  (repeat' split) <;> simp [h0]

theorem Live.takeHits_frame (L : Live) :
    (Live.takeHits L).mode = L.mode ∧
    (Live.takeHits L).time = L.time ∧
    (Live.takeHits L).ks = L.ks ∧
    (Live.takeHits L).seg = L.seg ∧
    (Live.takeHits L).node = L.node ∧
    (Live.takeHits L).conv = L.conv ∧
    (Live.takeHits L).eng = L.eng ∧
    (Live.takeHits L).chi = L.chi ∧
    (Live.takeHits L).est = L.est ∧
    (Live.takeHits L).th = L.th ∧
    (Live.takeHits L).mgr = L.mgr ∧
    (Live.takeHits L).lgc = L.lgc ∧
    (Live.takeHits L).upd = L.upd ∧
    (Live.takeHits L).jrn = L.jrn ∧
    (Live.takeHits L).ret = L.ret ∧
    (Live.takeHits L).blob = L.blob ∧
    (Live.takeHits L).out = L.out ∧
    (Live.takeHits L).free = L.free := by
  have h0 := @Live.brkIsland_frame
  simp [Live.takeHits, h0]

theorem Live.passOn_frame (L : Live) (s : Sess) (k : Nat) (v : Bytes) :
    (Live.passOn L s k v).mode = L.mode ∧
    (Live.passOn L s k v).pins = L.pins ∧
    (Live.passOn L s k v).time = L.time ∧
    (Live.passOn L s k v).rcd = L.rcd ∧
    (Live.passOn L s k v).saf = L.saf ∧
    (Live.passOn L s k v).seg = L.seg ∧
    (Live.passOn L s k v).node = L.node ∧
    (Live.passOn L s k v).conv = L.conv ∧
    (Live.passOn L s k v).eng = L.eng ∧
    (Live.passOn L s k v).chi = L.chi ∧
    (Live.passOn L s k v).cap = L.cap ∧
    (Live.passOn L s k v).est = L.est ∧
    (Live.passOn L s k v).th = L.th ∧
    (Live.passOn L s k v).com = L.com ∧
    (Live.passOn L s k v).mgr = L.mgr ∧
    (Live.passOn L s k v).lgc = L.lgc ∧
    (Live.passOn L s k v).upd = L.upd ∧
    (Live.passOn L s k v).jrn = L.jrn ∧
    (Live.passOn L s k v).dbg = L.dbg ∧
    (Live.passOn L s k v).ret = L.ret ∧
    (Live.passOn L s k v).obj = L.obj ∧
    (Live.passOn L s k v).blob = L.blob ∧
    (Live.passOn L s k v).out = L.out ∧
    (Live.passOn L s k v).free = L.free := by
  have h0 := @Live.forward_frame
  simp [Live.passOn, h0]

theorem Live.noteDone_frame (L : Live) (s : Sess) (k : Nat) (v : Bytes) (fwd : Option Nat) (code : Abort) :
    (Live.noteDone L s k v fwd code).mode = L.mode ∧
    (Live.noteDone L s k v fwd code).pins = L.pins ∧
    (Live.noteDone L s k v fwd code).time = L.time ∧
    (Live.noteDone L s k v fwd code).rcd = L.rcd ∧
    (Live.noteDone L s k v fwd code).saf = L.saf ∧
    (Live.noteDone L s k v fwd code).seg = L.seg ∧
    (Live.noteDone L s k v fwd code).node = L.node ∧
    (Live.noteDone L s k v fwd code).conv = L.conv ∧
    (Live.noteDone L s k v fwd code).twin = L.twin ∧
    (Live.noteDone L s k v fwd code).eng = L.eng ∧
    (Live.noteDone L s k v fwd code).chi = L.chi ∧
    (Live.noteDone L s k v fwd code).cap = L.cap ∧
    (Live.noteDone L s k v fwd code).est = L.est ∧
    (Live.noteDone L s k v fwd code).th = L.th ∧
    (Live.noteDone L s k v fwd code).com = L.com ∧
    (Live.noteDone L s k v fwd code).mgr = L.mgr ∧
    (Live.noteDone L s k v fwd code).lgc = L.lgc ∧
    (Live.noteDone L s k v fwd code).upd = L.upd ∧
    (Live.noteDone L s k v fwd code).jrn = L.jrn ∧
    (Live.noteDone L s k v fwd code).dbg = L.dbg ∧
    (Live.noteDone L s k v fwd code).ret = L.ret ∧
    (Live.noteDone L s k v fwd code).obj = L.obj ∧
    (Live.noteDone L s k v fwd code).blob = L.blob ∧
    (Live.noteDone L s k v fwd code).out = L.out ∧
    (Live.noteDone L s k v fwd code).free = L.free := by
  simp [Live.noteDone]

end Sys2Proof.Machine
end

