-- ==== Sys2Proof/Laws/FrameConvOps.lean ====
section
/-! SUPPORT. What each operation of Machine/ConvOps.lean leaves as it is. -/

namespace Sys2Proof.Machine

open Sys2Proof

theorem Live.modSeg_frame (L : Live) (s : Nat) (f : Seg → Seg) :
    (Live.modSeg L s f).mode = L.mode ∧
    (Live.modSeg L s f).pins = L.pins ∧
    (Live.modSeg L s f).time = L.time ∧
    (Live.modSeg L s f).ks = L.ks ∧
    (Live.modSeg L s f).rcd = L.rcd ∧
    (Live.modSeg L s f).saf = L.saf ∧
    (Live.modSeg L s f).node = L.node ∧
    (Live.modSeg L s f).conv = L.conv ∧
    (Live.modSeg L s f).twin = L.twin ∧
    (Live.modSeg L s f).eng = L.eng ∧
    (Live.modSeg L s f).chi = L.chi ∧
    (Live.modSeg L s f).cap = L.cap ∧
    (Live.modSeg L s f).est = L.est ∧
    (Live.modSeg L s f).th = L.th ∧
    (Live.modSeg L s f).com = L.com ∧
    (Live.modSeg L s f).mgr = L.mgr ∧
    (Live.modSeg L s f).lgc = L.lgc ∧
    (Live.modSeg L s f).upd = L.upd ∧
    (Live.modSeg L s f).jrn = L.jrn ∧
    (Live.modSeg L s f).dbg = L.dbg ∧
    (Live.modSeg L s f).ret = L.ret ∧
    (Live.modSeg L s f).obj = L.obj ∧
    (Live.modSeg L s f).blob = L.blob ∧
    (Live.modSeg L s f).out = L.out ∧
    (Live.modSeg L s f).free = L.free := by
  simp [Live.modSeg]

theorem Live.convSegEv_frame (L : Live) (s k code cls : Nat) :
    (Live.convSegEv L s k code cls).mode = L.mode ∧
    (Live.convSegEv L s k code cls).pins = L.pins ∧
    (Live.convSegEv L s k code cls).time = L.time ∧
    (Live.convSegEv L s k code cls).ks = L.ks ∧
    (Live.convSegEv L s k code cls).saf = L.saf ∧
    (Live.convSegEv L s k code cls).seg = L.seg ∧
    (Live.convSegEv L s k code cls).node = L.node ∧
    (Live.convSegEv L s k code cls).conv = L.conv ∧
    (Live.convSegEv L s k code cls).twin = L.twin ∧
    (Live.convSegEv L s k code cls).eng = L.eng ∧
    (Live.convSegEv L s k code cls).chi = L.chi ∧
    (Live.convSegEv L s k code cls).est = L.est ∧
    (Live.convSegEv L s k code cls).th = L.th ∧
    (Live.convSegEv L s k code cls).mgr = L.mgr ∧
    (Live.convSegEv L s k code cls).lgc = L.lgc ∧
    (Live.convSegEv L s k code cls).upd = L.upd ∧
    (Live.convSegEv L s k code cls).jrn = L.jrn ∧
    (Live.convSegEv L s k code cls).ret = L.ret ∧
    (Live.convSegEv L s k code cls).obj = L.obj ∧
    (Live.convSegEv L s k code cls).blob = L.blob ∧
    (Live.convSegEv L s k code cls).out = L.out ∧
    (Live.convSegEv L s k code cls).free = L.free := by
  simp [Live.convSegEv]

theorem Live.convEv_frame (L : Live) (src code cls : Nat) :
    (Live.convEv L src code cls).mode = L.mode ∧
    (Live.convEv L src code cls).pins = L.pins ∧
    (Live.convEv L src code cls).time = L.time ∧
    (Live.convEv L src code cls).ks = L.ks ∧
    (Live.convEv L src code cls).saf = L.saf ∧
    (Live.convEv L src code cls).seg = L.seg ∧
    (Live.convEv L src code cls).node = L.node ∧
    (Live.convEv L src code cls).conv = L.conv ∧
    (Live.convEv L src code cls).twin = L.twin ∧
    (Live.convEv L src code cls).eng = L.eng ∧
    (Live.convEv L src code cls).chi = L.chi ∧
    (Live.convEv L src code cls).est = L.est ∧
    (Live.convEv L src code cls).th = L.th ∧
    (Live.convEv L src code cls).mgr = L.mgr ∧
    (Live.convEv L src code cls).lgc = L.lgc ∧
    (Live.convEv L src code cls).upd = L.upd ∧
    (Live.convEv L src code cls).jrn = L.jrn ∧
    (Live.convEv L src code cls).ret = L.ret ∧
    (Live.convEv L src code cls).obj = L.obj ∧
    (Live.convEv L src code cls).blob = L.blob ∧
    (Live.convEv L src code cls).out = L.out ∧
    (Live.convEv L src code cls).free = L.free := by
  simp [Live.convEv]

theorem Live.arrange_frame (L : Live) :
    (Live.arrange L).mode = L.mode ∧
    (Live.arrange L).pins = L.pins ∧
    (Live.arrange L).time = L.time ∧
    (Live.arrange L).ks = L.ks ∧
    (Live.arrange L).saf = L.saf ∧
    (Live.arrange L).seg = L.seg ∧
    (Live.arrange L).node = L.node ∧
    (Live.arrange L).twin = L.twin ∧
    (Live.arrange L).eng = L.eng ∧
    (Live.arrange L).chi = L.chi ∧
    (Live.arrange L).est = L.est ∧
    (Live.arrange L).th = L.th ∧
    (Live.arrange L).mgr = L.mgr ∧
    (Live.arrange L).lgc = L.lgc ∧
    (Live.arrange L).upd = L.upd ∧
    (Live.arrange L).jrn = L.jrn ∧
    (Live.arrange L).ret = L.ret ∧
    (Live.arrange L).blob = L.blob ∧
    (Live.arrange L).out = L.out ∧
    (Live.arrange L).free = L.free := by
  have h0 := @Live.convEv_frame
  simp [Live.arrange, h0]

theorem Live.rescale_frame (L : Live) (old : List Nat) :
    (Live.rescale L old).mode = L.mode ∧
    (Live.rescale L old).pins = L.pins ∧
    (Live.rescale L old).time = L.time ∧
    (Live.rescale L old).ks = L.ks ∧
    (Live.rescale L old).rcd = L.rcd ∧
    (Live.rescale L old).saf = L.saf ∧
    (Live.rescale L old).seg = L.seg ∧
    (Live.rescale L old).node = L.node ∧
    (Live.rescale L old).twin = L.twin ∧
    (Live.rescale L old).eng = L.eng ∧
    (Live.rescale L old).chi = L.chi ∧
    (Live.rescale L old).cap = L.cap ∧
    (Live.rescale L old).est = L.est ∧
    (Live.rescale L old).th = L.th ∧
    (Live.rescale L old).com = L.com ∧
    (Live.rescale L old).mgr = L.mgr ∧
    (Live.rescale L old).lgc = L.lgc ∧
    (Live.rescale L old).upd = L.upd ∧
    (Live.rescale L old).jrn = L.jrn ∧
    (Live.rescale L old).dbg = L.dbg ∧
    (Live.rescale L old).ret = L.ret ∧
    (Live.rescale L old).obj = L.obj ∧
    (Live.rescale L old).blob = L.blob ∧
    (Live.rescale L old).out = L.out ∧
    (Live.rescale L old).free = L.free := by
  simp [Live.rescale]

theorem Live.jBypass_frame (L : Live) (s kind : Nat) :
    (Live.jBypass L s kind).time = L.time ∧
    (Live.jBypass L s kind).ks = L.ks ∧
    (Live.jBypass L s kind).seg = L.seg ∧
    (Live.jBypass L s kind).node = L.node ∧
    (Live.jBypass L s kind).eng = L.eng ∧
    (Live.jBypass L s kind).est = L.est ∧
    (Live.jBypass L s kind).th = L.th ∧
    (Live.jBypass L s kind).mgr = L.mgr ∧
    (Live.jBypass L s kind).lgc = L.lgc ∧
    (Live.jBypass L s kind).ret = L.ret ∧
    (Live.jBypass L s kind).blob = L.blob ∧
    (Live.jBypass L s kind).free = L.free := by
  have h0 := @Live.jwrite_frame
  simp [Live.jBypass, h0]

theorem Live.leave_frame (L : Live) (s kind cause : Nat) :
    (Live.leave L s kind cause).time = L.time ∧
    (Live.leave L s kind cause).ks = L.ks ∧
    (Live.leave L s kind cause).node = L.node ∧
    (Live.leave L s kind cause).eng = L.eng ∧
    (Live.leave L s kind cause).est = L.est ∧
    (Live.leave L s kind cause).th = L.th ∧
    (Live.leave L s kind cause).mgr = L.mgr ∧
    (Live.leave L s kind cause).lgc = L.lgc ∧
    (Live.leave L s kind cause).ret = L.ret ∧
    (Live.leave L s kind cause).blob = L.blob ∧
    (Live.leave L s kind cause).free = L.free := by
  have h0 := @Live.jBypass_frame
  have h1 := @Live.convSegEv_frame
  have h2 := @Live.rescale_frame
  have h3 := @Live.modSeg_frame
  simp [Live.leave, h0, h1, h2, h3]

theorem Live.rejoin_frame (L : Live) (s : Nat) :
    (Live.rejoin L s).time = L.time ∧
    (Live.rejoin L s).ks = L.ks ∧
    (Live.rejoin L s).node = L.node ∧
    (Live.rejoin L s).eng = L.eng ∧
    (Live.rejoin L s).est = L.est ∧
    (Live.rejoin L s).th = L.th ∧
    (Live.rejoin L s).mgr = L.mgr ∧
    (Live.rejoin L s).lgc = L.lgc ∧
    (Live.rejoin L s).ret = L.ret ∧
    (Live.rejoin L s).blob = L.blob ∧
    (Live.rejoin L s).free = L.free := by
  have h0 := @Live.jBypass_frame
  have h1 := @Live.convSegEv_frame
  have h2 := @Live.rescale_frame
  have h3 := @Live.modSeg_frame
  simp [Live.rejoin, h0, h1, h2, h3]

theorem Live.belowFour_frame (L : Live) :
    (Live.belowFour L).mode = L.mode ∧
    (Live.belowFour L).pins = L.pins ∧
    (Live.belowFour L).time = L.time ∧
    (Live.belowFour L).saf = L.saf ∧
    (Live.belowFour L).seg = L.seg ∧
    (Live.belowFour L).node = L.node ∧
    (Live.belowFour L).twin = L.twin ∧
    (Live.belowFour L).eng = L.eng ∧
    (Live.belowFour L).chi = L.chi ∧
    (Live.belowFour L).est = L.est ∧
    (Live.belowFour L).th = L.th ∧
    (Live.belowFour L).mgr = L.mgr ∧
    (Live.belowFour L).lgc = L.lgc ∧
    (Live.belowFour L).upd = L.upd ∧
    (Live.belowFour L).jrn = L.jrn ∧
    (Live.belowFour L).ret = L.ret ∧
    (Live.belowFour L).obj = L.obj ∧
    (Live.belowFour L).blob = L.blob ∧
    (Live.belowFour L).out = L.out ∧
    (Live.belowFour L).free = L.free := by
  have h0 := @Live.convEv_frame
  simp [Live.belowFour, h0]

theorem Live.unplanned_frame (L : Live) (s cause : Nat) :
    (Live.unplanned L s cause).time = L.time ∧
    (Live.unplanned L s cause).node = L.node ∧
    (Live.unplanned L s cause).eng = L.eng ∧
    (Live.unplanned L s cause).est = L.est ∧
    (Live.unplanned L s cause).th = L.th ∧
    (Live.unplanned L s cause).mgr = L.mgr ∧
    (Live.unplanned L s cause).lgc = L.lgc ∧
    (Live.unplanned L s cause).ret = L.ret ∧
    (Live.unplanned L s cause).blob = L.blob ∧
    (Live.unplanned L s cause).free = L.free := by
  have h0 := @Live.belowFour_frame
  have h1 := @Live.jBypass_frame
  have h2 := @Live.convSegEv_frame
  have h3 := @Live.rescale_frame
  have h4 := @Live.modSeg_frame
  simp [Live.unplanned, h0, h1, h2, h3, h4]

theorem Live.hardBypass_frame (L : Live) (s : Nat) :
    (Live.hardBypass L s).mode = L.mode ∧
    (Live.hardBypass L s).pins = L.pins ∧
    (Live.hardBypass L s).time = L.time ∧
    (Live.hardBypass L s).ks = L.ks ∧
    (Live.hardBypass L s).saf = L.saf ∧
    (Live.hardBypass L s).node = L.node ∧
    (Live.hardBypass L s).conv = L.conv ∧
    (Live.hardBypass L s).twin = L.twin ∧
    (Live.hardBypass L s).eng = L.eng ∧
    (Live.hardBypass L s).chi = L.chi ∧
    (Live.hardBypass L s).est = L.est ∧
    (Live.hardBypass L s).th = L.th ∧
    (Live.hardBypass L s).mgr = L.mgr ∧
    (Live.hardBypass L s).lgc = L.lgc ∧
    (Live.hardBypass L s).upd = L.upd ∧
    (Live.hardBypass L s).jrn = L.jrn ∧
    (Live.hardBypass L s).ret = L.ret ∧
    (Live.hardBypass L s).obj = L.obj ∧
    (Live.hardBypass L s).blob = L.blob ∧
    (Live.hardBypass L s).free = L.free := by
  have h0 := @Live.convSegEv_frame
  have h1 := @Live.modSeg_frame
  simp [Live.hardBypass, h0, h1]

theorem Live.startPrecharge_frame (L : Live) :
    (Live.startPrecharge L).time = L.time ∧
    (Live.startPrecharge L).ks = L.ks ∧
    (Live.startPrecharge L).node = L.node ∧
    (Live.startPrecharge L).twin = L.twin ∧
    (Live.startPrecharge L).eng = L.eng ∧
    (Live.startPrecharge L).est = L.est ∧
    (Live.startPrecharge L).th = L.th ∧
    (Live.startPrecharge L).mgr = L.mgr ∧
    (Live.startPrecharge L).lgc = L.lgc ∧
    (Live.startPrecharge L).upd = L.upd ∧
    (Live.startPrecharge L).jrn = L.jrn ∧
    (Live.startPrecharge L).ret = L.ret ∧
    (Live.startPrecharge L).blob = L.blob ∧
    (Live.startPrecharge L).out = L.out := by
  have h0 := @Live.setState_frame
  have h1 := @Live.convEv_frame
  have h2 := @Live.closeLoop_frame
  have h3 := @Live.setFast_frame
  simp [Live.startPrecharge, h0, h1, h2, h3]

theorem Live.startShutdown_frame (L : Live) :
    (Live.startShutdown L).time = L.time ∧
    (Live.startShutdown L).ks = L.ks ∧
    (Live.startShutdown L).seg = L.seg ∧
    (Live.startShutdown L).node = L.node ∧
    (Live.startShutdown L).twin = L.twin ∧
    (Live.startShutdown L).eng = L.eng ∧
    (Live.startShutdown L).est = L.est ∧
    (Live.startShutdown L).th = L.th ∧
    (Live.startShutdown L).mgr = L.mgr ∧
    (Live.startShutdown L).lgc = L.lgc ∧
    (Live.startShutdown L).upd = L.upd ∧
    (Live.startShutdown L).jrn = L.jrn ∧
    (Live.startShutdown L).ret = L.ret ∧
    (Live.startShutdown L).blob = L.blob ∧
    (Live.startShutdown L).out = L.out ∧
    (Live.startShutdown L).free = L.free := by
  have h0 := @Live.seqOn_frame
  have h1 := @Live.toStep2_frame
  simp [Live.startShutdown, h0, h1]

theorem Live.derate_frame (L : Live) :
    (Live.derate L).pins = L.pins ∧
    (Live.derate L).time = L.time ∧
    (Live.derate L).ks = L.ks ∧
    (Live.derate L).saf = L.saf ∧
    (Live.derate L).seg = L.seg ∧
    (Live.derate L).node = L.node ∧
    (Live.derate L).conv = L.conv ∧
    (Live.derate L).twin = L.twin ∧
    (Live.derate L).eng = L.eng ∧
    (Live.derate L).est = L.est ∧
    (Live.derate L).th = L.th ∧
    (Live.derate L).mgr = L.mgr ∧
    (Live.derate L).lgc = L.lgc ∧
    (Live.derate L).upd = L.upd ∧
    (Live.derate L).jrn = L.jrn ∧
    (Live.derate L).ret = L.ret ∧
    (Live.derate L).blob = L.blob ∧
    (Live.derate L).out = L.out ∧
    (Live.derate L).free = L.free := by
  have h0 := @Live.setState_frame
  simp [Live.derate, h0]

end Sys2Proof.Machine
end

