-- ==== Sys2Proof/Laws/FrameEstOps.lean ====
section
/-! SUPPORT. What each operation of Machine/EstOps.lean leaves as it is. -/

namespace Sys2Proof.Machine

open Sys2Proof

theorem Live.setCtx_frame (L : Live) (g : Nat) (c : Ctx) :
    (Live.setCtx L g c).mode = L.mode ∧
    (Live.setCtx L g c).pins = L.pins ∧
    (Live.setCtx L g c).time = L.time ∧
    (Live.setCtx L g c).ks = L.ks ∧
    (Live.setCtx L g c).rcd = L.rcd ∧
    (Live.setCtx L g c).saf = L.saf ∧
    (Live.setCtx L g c).seg = L.seg ∧
    (Live.setCtx L g c).node = L.node ∧
    (Live.setCtx L g c).conv = L.conv ∧
    (Live.setCtx L g c).twin = L.twin ∧
    (Live.setCtx L g c).eng = L.eng ∧
    (Live.setCtx L g c).chi = L.chi ∧
    (Live.setCtx L g c).cap = L.cap ∧
    (Live.setCtx L g c).th = L.th ∧
    (Live.setCtx L g c).com = L.com ∧
    (Live.setCtx L g c).mgr = L.mgr ∧
    (Live.setCtx L g c).lgc = L.lgc ∧
    (Live.setCtx L g c).upd = L.upd ∧
    (Live.setCtx L g c).jrn = L.jrn ∧
    (Live.setCtx L g c).dbg = L.dbg ∧
    (Live.setCtx L g c).ret = L.ret ∧
    (Live.setCtx L g c).obj = L.obj ∧
    (Live.setCtx L g c).blob = L.blob ∧
    (Live.setCtx L g c).out = L.out ∧
    (Live.setCtx L g c).free = L.free := by
  simp [Live.setCtx]

theorem Live.modEst_frame (L : Live) (s : Nat) (f : SegEst → SegEst) :
    (Live.modEst L s f).mode = L.mode ∧
    (Live.modEst L s f).pins = L.pins ∧
    (Live.modEst L s f).time = L.time ∧
    (Live.modEst L s f).ks = L.ks ∧
    (Live.modEst L s f).rcd = L.rcd ∧
    (Live.modEst L s f).saf = L.saf ∧
    (Live.modEst L s f).seg = L.seg ∧
    (Live.modEst L s f).node = L.node ∧
    (Live.modEst L s f).conv = L.conv ∧
    (Live.modEst L s f).twin = L.twin ∧
    (Live.modEst L s f).eng = L.eng ∧
    (Live.modEst L s f).chi = L.chi ∧
    (Live.modEst L s f).cap = L.cap ∧
    (Live.modEst L s f).th = L.th ∧
    (Live.modEst L s f).com = L.com ∧
    (Live.modEst L s f).mgr = L.mgr ∧
    (Live.modEst L s f).lgc = L.lgc ∧
    (Live.modEst L s f).upd = L.upd ∧
    (Live.modEst L s f).jrn = L.jrn ∧
    (Live.modEst L s f).dbg = L.dbg ∧
    (Live.modEst L s f).ret = L.ret ∧
    (Live.modEst L s f).obj = L.obj ∧
    (Live.modEst L s f).blob = L.blob ∧
    (Live.modEst L s f).out = L.out ∧
    (Live.modEst L s f).free = L.free := by
  simp [Live.modEst]

theorem Live.cellEvs_frame (L : Live) (es : List CellEv) :
    (Live.cellEvs L es).mode = L.mode ∧
    (Live.cellEvs L es).pins = L.pins ∧
    (Live.cellEvs L es).time = L.time ∧
    (Live.cellEvs L es).ks = L.ks ∧
    (Live.cellEvs L es).saf = L.saf ∧
    (Live.cellEvs L es).seg = L.seg ∧
    (Live.cellEvs L es).node = L.node ∧
    (Live.cellEvs L es).conv = L.conv ∧
    (Live.cellEvs L es).twin = L.twin ∧
    (Live.cellEvs L es).eng = L.eng ∧
    (Live.cellEvs L es).chi = L.chi ∧
    (Live.cellEvs L es).est = L.est ∧
    (Live.cellEvs L es).th = L.th ∧
    (Live.cellEvs L es).mgr = L.mgr ∧
    (Live.cellEvs L es).lgc = L.lgc ∧
    (Live.cellEvs L es).upd = L.upd ∧
    (Live.cellEvs L es).jrn = L.jrn ∧
    (Live.cellEvs L es).ret = L.ret ∧
    (Live.cellEvs L es).obj = L.obj ∧
    (Live.cellEvs L es).blob = L.blob ∧
    (Live.cellEvs L es).out = L.out ∧
    (Live.cellEvs L es).free = L.free := by
  simp [Live.cellEvs]

theorem Live.balance_frame (L : Live) :
    (Live.balance L).mode = L.mode ∧
    (Live.balance L).pins = L.pins ∧
    (Live.balance L).time = L.time ∧
    (Live.balance L).ks = L.ks ∧
    (Live.balance L).rcd = L.rcd ∧
    (Live.balance L).saf = L.saf ∧
    (Live.balance L).node = L.node ∧
    (Live.balance L).twin = L.twin ∧
    (Live.balance L).eng = L.eng ∧
    (Live.balance L).chi = L.chi ∧
    (Live.balance L).cap = L.cap ∧
    (Live.balance L).est = L.est ∧
    (Live.balance L).th = L.th ∧
    (Live.balance L).com = L.com ∧
    (Live.balance L).mgr = L.mgr ∧
    (Live.balance L).lgc = L.lgc ∧
    (Live.balance L).upd = L.upd ∧
    (Live.balance L).jrn = L.jrn ∧
    (Live.balance L).dbg = L.dbg ∧
    (Live.balance L).ret = L.ret ∧
    (Live.balance L).obj = L.obj ∧
    (Live.balance L).blob = L.blob ∧
    (Live.balance L).out = L.out ∧
    (Live.balance L).free = L.free := by
  simp [Live.balance]

theorem Live.takeSet_frame (L : Live) (s epoch : Nat) (cells : List Nat) (temps : List Int) :
    (Live.takeSet L s epoch cells temps).mode = L.mode ∧
    (Live.takeSet L s epoch cells temps).pins = L.pins ∧
    (Live.takeSet L s epoch cells temps).time = L.time ∧
    (Live.takeSet L s epoch cells temps).ks = L.ks ∧
    (Live.takeSet L s epoch cells temps).rcd = L.rcd ∧
    (Live.takeSet L s epoch cells temps).saf = L.saf ∧
    (Live.takeSet L s epoch cells temps).seg = L.seg ∧
    (Live.takeSet L s epoch cells temps).node = L.node ∧
    (Live.takeSet L s epoch cells temps).conv = L.conv ∧
    (Live.takeSet L s epoch cells temps).twin = L.twin ∧
    (Live.takeSet L s epoch cells temps).eng = L.eng ∧
    (Live.takeSet L s epoch cells temps).chi = L.chi ∧
    (Live.takeSet L s epoch cells temps).cap = L.cap ∧
    (Live.takeSet L s epoch cells temps).com = L.com ∧
    (Live.takeSet L s epoch cells temps).mgr = L.mgr ∧
    (Live.takeSet L s epoch cells temps).lgc = L.lgc ∧
    (Live.takeSet L s epoch cells temps).upd = L.upd ∧
    (Live.takeSet L s epoch cells temps).jrn = L.jrn ∧
    (Live.takeSet L s epoch cells temps).dbg = L.dbg ∧
    (Live.takeSet L s epoch cells temps).ret = L.ret ∧
    (Live.takeSet L s epoch cells temps).obj = L.obj ∧
    (Live.takeSet L s epoch cells temps).blob = L.blob ∧
    (Live.takeSet L s epoch cells temps).out = L.out ∧
    (Live.takeSet L s epoch cells temps).free = L.free := by
  have h0 := @Live.modEst_frame
  simp [Live.takeSet, h0]

end Sys2Proof.Machine
end

