-- ==== Sys2Proof/Laws/FrameEst.lean ====
section
/-! SUPPORT. What each operation of Machine/Est.lean leaves as it is. -/

namespace Sys2Proof.Machine

open Sys2Proof

theorem Live.estRestart_frame (L : Live) (cold : Bool) (from_ : List Ctx) :
    (Live.estRestart L cold from_).mode = L.mode ∧
    (Live.estRestart L cold from_).pins = L.pins ∧
    (Live.estRestart L cold from_).time = L.time ∧
    (Live.estRestart L cold from_).ks = L.ks ∧
    (Live.estRestart L cold from_).saf = L.saf ∧
    (Live.estRestart L cold from_).seg = L.seg ∧
    (Live.estRestart L cold from_).node = L.node ∧
    (Live.estRestart L cold from_).conv = L.conv ∧
    (Live.estRestart L cold from_).twin = L.twin ∧
    (Live.estRestart L cold from_).eng = L.eng ∧
    (Live.estRestart L cold from_).chi = L.chi ∧
    (Live.estRestart L cold from_).th = L.th ∧
    (Live.estRestart L cold from_).mgr = L.mgr ∧
    (Live.estRestart L cold from_).lgc = L.lgc ∧
    (Live.estRestart L cold from_).upd = L.upd ∧
    (Live.estRestart L cold from_).jrn = L.jrn ∧
    (Live.estRestart L cold from_).ret = L.ret ∧
    (Live.estRestart L cold from_).obj = L.obj ∧
    (Live.estRestart L cold from_).blob = L.blob ∧
    (Live.estRestart L cold from_).out = L.out ∧
    (Live.estRestart L cold from_).free = L.free := by
  simp [Live.estRestart]

theorem Live.takeSwitch_frame (L : Live) :
    (Live.takeSwitch L).mode = L.mode ∧
    (Live.takeSwitch L).pins = L.pins ∧
    (Live.takeSwitch L).time = L.time ∧
    (Live.takeSwitch L).ks = L.ks ∧
    (Live.takeSwitch L).saf = L.saf ∧
    (Live.takeSwitch L).seg = L.seg ∧
    (Live.takeSwitch L).node = L.node ∧
    (Live.takeSwitch L).conv = L.conv ∧
    (Live.takeSwitch L).twin = L.twin ∧
    (Live.takeSwitch L).eng = L.eng ∧
    (Live.takeSwitch L).chi = L.chi ∧
    (Live.takeSwitch L).th = L.th ∧
    (Live.takeSwitch L).mgr = L.mgr ∧
    (Live.takeSwitch L).lgc = L.lgc ∧
    (Live.takeSwitch L).upd = L.upd ∧
    (Live.takeSwitch L).jrn = L.jrn ∧
    (Live.takeSwitch L).ret = L.ret ∧
    (Live.takeSwitch L).blob = L.blob ∧
    (Live.takeSwitch L).out = L.out ∧
    (Live.takeSwitch L).free = L.free := by
  have h0 := @Live.estRestart_frame
  simp only [Live.takeSwitch]
  (repeat' split) <;> simp [h0]

theorem Live.sweepCell_frame (e : EstPar) (L : Live) (g : Nat) :
    (Live.sweepCell e L g).mode = L.mode ∧
    (Live.sweepCell e L g).pins = L.pins ∧
    (Live.sweepCell e L g).time = L.time ∧
    (Live.sweepCell e L g).ks = L.ks ∧
    (Live.sweepCell e L g).saf = L.saf ∧
    (Live.sweepCell e L g).seg = L.seg ∧
    (Live.sweepCell e L g).node = L.node ∧
    (Live.sweepCell e L g).conv = L.conv ∧
    (Live.sweepCell e L g).twin = L.twin ∧
    (Live.sweepCell e L g).eng = L.eng ∧
    (Live.sweepCell e L g).chi = L.chi ∧
    (Live.sweepCell e L g).th = L.th ∧
    (Live.sweepCell e L g).mgr = L.mgr ∧
    (Live.sweepCell e L g).lgc = L.lgc ∧
    (Live.sweepCell e L g).upd = L.upd ∧
    (Live.sweepCell e L g).jrn = L.jrn ∧
    (Live.sweepCell e L g).ret = L.ret ∧
    (Live.sweepCell e L g).obj = L.obj ∧
    (Live.sweepCell e L g).blob = L.blob ∧
    (Live.sweepCell e L g).out = L.out ∧
    (Live.sweepCell e L g).free = L.free := by
  have h0 := @Live.setCtx_frame
  have h1 := @Live.cellEvs_frame
  simp only [Live.sweepCell]
  (repeat' split) <;> simp [h0, h1]

theorem Live.sumCheck_frame (L : Live) (s : Nat) :
    (Live.sumCheck L s).mode = L.mode ∧
    (Live.sumCheck L s).pins = L.pins ∧
    (Live.sumCheck L s).time = L.time ∧
    (Live.sumCheck L s).ks = L.ks ∧
    (Live.sumCheck L s).saf = L.saf ∧
    (Live.sumCheck L s).seg = L.seg ∧
    (Live.sumCheck L s).node = L.node ∧
    (Live.sumCheck L s).conv = L.conv ∧
    (Live.sumCheck L s).twin = L.twin ∧
    (Live.sumCheck L s).eng = L.eng ∧
    (Live.sumCheck L s).chi = L.chi ∧
    (Live.sumCheck L s).th = L.th ∧
    (Live.sumCheck L s).mgr = L.mgr ∧
    (Live.sumCheck L s).lgc = L.lgc ∧
    (Live.sumCheck L s).upd = L.upd ∧
    (Live.sumCheck L s).jrn = L.jrn ∧
    (Live.sumCheck L s).ret = L.ret ∧
    (Live.sumCheck L s).obj = L.obj ∧
    (Live.sumCheck L s).blob = L.blob ∧
    (Live.sumCheck L s).out = L.out ∧
    (Live.sumCheck L s).free = L.free := by
  have h0 := @Live.modEst_frame
  simp [Live.sumCheck, h0]

theorem Live.segSweep_frame (e : EstPar) (before : List Ctx) (L : Live) (s : Nat) :
    (Live.segSweep e before L s).mode = L.mode ∧
    (Live.segSweep e before L s).pins = L.pins ∧
    (Live.segSweep e before L s).time = L.time ∧
    (Live.segSweep e before L s).ks = L.ks ∧
    (Live.segSweep e before L s).saf = L.saf ∧
    (Live.segSweep e before L s).seg = L.seg ∧
    (Live.segSweep e before L s).node = L.node ∧
    (Live.segSweep e before L s).conv = L.conv ∧
    (Live.segSweep e before L s).twin = L.twin ∧
    (Live.segSweep e before L s).eng = L.eng ∧
    (Live.segSweep e before L s).chi = L.chi ∧
    (Live.segSweep e before L s).th = L.th ∧
    (Live.segSweep e before L s).mgr = L.mgr ∧
    (Live.segSweep e before L s).lgc = L.lgc ∧
    (Live.segSweep e before L s).upd = L.upd ∧
    (Live.segSweep e before L s).jrn = L.jrn ∧
    (Live.segSweep e before L s).ret = L.ret ∧
    (Live.segSweep e before L s).obj = L.obj ∧
    (Live.segSweep e before L s).blob = L.blob ∧
    (Live.segSweep e before L s).out = L.out ∧
    (Live.segSweep e before L s).free = L.free := by
  have h0 := @Live.modEst_frame
  simp only [Live.segSweep]
  (repeat' split) <;> simp [h0]

theorem Live.socLevels_frame (L : Live) :
    (Live.socLevels L).mode = L.mode ∧
    (Live.socLevels L).pins = L.pins ∧
    (Live.socLevels L).time = L.time ∧
    (Live.socLevels L).ks = L.ks ∧
    (Live.socLevels L).saf = L.saf ∧
    (Live.socLevels L).seg = L.seg ∧
    (Live.socLevels L).node = L.node ∧
    (Live.socLevels L).conv = L.conv ∧
    (Live.socLevels L).twin = L.twin ∧
    (Live.socLevels L).eng = L.eng ∧
    (Live.socLevels L).chi = L.chi ∧
    (Live.socLevels L).th = L.th ∧
    (Live.socLevels L).mgr = L.mgr ∧
    (Live.socLevels L).lgc = L.lgc ∧
    (Live.socLevels L).upd = L.upd ∧
    (Live.socLevels L).jrn = L.jrn ∧
    (Live.socLevels L).ret = L.ret ∧
    (Live.socLevels L).obj = L.obj ∧
    (Live.socLevels L).blob = L.blob ∧
    (Live.socLevels L).out = L.out ∧
    (Live.socLevels L).free = L.free := by
  simp [Live.socLevels]

theorem Live.stringSweep_frame (L : Live) (e : EstPar) (dcs : List (Rat × Rat)) :
    (Live.stringSweep L e dcs).mode = L.mode ∧
    (Live.stringSweep L e dcs).pins = L.pins ∧
    (Live.stringSweep L e dcs).time = L.time ∧
    (Live.stringSweep L e dcs).ks = L.ks ∧
    (Live.stringSweep L e dcs).saf = L.saf ∧
    (Live.stringSweep L e dcs).seg = L.seg ∧
    (Live.stringSweep L e dcs).node = L.node ∧
    (Live.stringSweep L e dcs).conv = L.conv ∧
    (Live.stringSweep L e dcs).twin = L.twin ∧
    (Live.stringSweep L e dcs).eng = L.eng ∧
    (Live.stringSweep L e dcs).chi = L.chi ∧
    (Live.stringSweep L e dcs).th = L.th ∧
    (Live.stringSweep L e dcs).mgr = L.mgr ∧
    (Live.stringSweep L e dcs).lgc = L.lgc ∧
    (Live.stringSweep L e dcs).upd = L.upd ∧
    (Live.stringSweep L e dcs).jrn = L.jrn ∧
    (Live.stringSweep L e dcs).ret = L.ret ∧
    (Live.stringSweep L e dcs).obj = L.obj ∧
    (Live.stringSweep L e dcs).blob = L.blob ∧
    (Live.stringSweep L e dcs).out = L.out ∧
    (Live.stringSweep L e dcs).free = L.free := by
  have h0 := @Live.socLevels_frame
  simp [Live.stringSweep, h0]

theorem Live.blendCheck_frame (L : Live) :
    (Live.blendCheck L).mode = L.mode ∧
    (Live.blendCheck L).pins = L.pins ∧
    (Live.blendCheck L).time = L.time ∧
    (Live.blendCheck L).ks = L.ks ∧
    (Live.blendCheck L).saf = L.saf ∧
    (Live.blendCheck L).seg = L.seg ∧
    (Live.blendCheck L).node = L.node ∧
    (Live.blendCheck L).conv = L.conv ∧
    (Live.blendCheck L).twin = L.twin ∧
    (Live.blendCheck L).eng = L.eng ∧
    (Live.blendCheck L).chi = L.chi ∧
    (Live.blendCheck L).th = L.th ∧
    (Live.blendCheck L).mgr = L.mgr ∧
    (Live.blendCheck L).lgc = L.lgc ∧
    (Live.blendCheck L).upd = L.upd ∧
    (Live.blendCheck L).jrn = L.jrn ∧
    (Live.blendCheck L).ret = L.ret ∧
    (Live.blendCheck L).obj = L.obj ∧
    (Live.blendCheck L).blob = L.blob ∧
    (Live.blendCheck L).out = L.out ∧
    (Live.blendCheck L).free = L.free := by
  simp [Live.blendCheck]

theorem Live.cellsSweep_frame (L : Live) (e : EstPar) :
    (Live.cellsSweep L e).mode = L.mode ∧
    (Live.cellsSweep L e).pins = L.pins ∧
    (Live.cellsSweep L e).time = L.time ∧
    (Live.cellsSweep L e).ks = L.ks ∧
    (Live.cellsSweep L e).saf = L.saf ∧
    (Live.cellsSweep L e).seg = L.seg ∧
    (Live.cellsSweep L e).node = L.node ∧
    (Live.cellsSweep L e).conv = L.conv ∧
    (Live.cellsSweep L e).twin = L.twin ∧
    (Live.cellsSweep L e).eng = L.eng ∧
    (Live.cellsSweep L e).chi = L.chi ∧
    (Live.cellsSweep L e).th = L.th ∧
    (Live.cellsSweep L e).mgr = L.mgr ∧
    (Live.cellsSweep L e).lgc = L.lgc ∧
    (Live.cellsSweep L e).upd = L.upd ∧
    (Live.cellsSweep L e).jrn = L.jrn ∧
    (Live.cellsSweep L e).ret = L.ret ∧
    (Live.cellsSweep L e).obj = L.obj ∧
    (Live.cellsSweep L e).blob = L.blob ∧
    (Live.cellsSweep L e).out = L.out := by
  have h0 := @Live.sweepCell_frame
  simp [Live.cellsSweep, h0]

theorem Live.segsSweep_frame (L : Live) (e : EstPar) (before : List Ctx) :
    (Live.segsSweep L e before).mode = L.mode ∧
    (Live.segsSweep L e before).pins = L.pins ∧
    (Live.segsSweep L e before).time = L.time ∧
    (Live.segsSweep L e before).ks = L.ks ∧
    (Live.segsSweep L e before).saf = L.saf ∧
    (Live.segsSweep L e before).seg = L.seg ∧
    (Live.segsSweep L e before).node = L.node ∧
    (Live.segsSweep L e before).conv = L.conv ∧
    (Live.segsSweep L e before).twin = L.twin ∧
    (Live.segsSweep L e before).eng = L.eng ∧
    (Live.segsSweep L e before).chi = L.chi ∧
    (Live.segsSweep L e before).th = L.th ∧
    (Live.segsSweep L e before).mgr = L.mgr ∧
    (Live.segsSweep L e before).lgc = L.lgc ∧
    (Live.segsSweep L e before).upd = L.upd ∧
    (Live.segsSweep L e before).jrn = L.jrn ∧
    (Live.segsSweep L e before).ret = L.ret ∧
    (Live.segsSweep L e before).obj = L.obj ∧
    (Live.segsSweep L e before).blob = L.blob ∧
    (Live.segsSweep L e before).out = L.out ∧
    (Live.segsSweep L e before).free = L.free := by
  have h0 := @Live.sumCheck_frame
  have h1 := @Live.segSweep_frame
  simp [Live.segsSweep, h0, h1]

theorem Live.openIntervals_frame (L : Live) :
    (Live.openIntervals L).mode = L.mode ∧
    (Live.openIntervals L).pins = L.pins ∧
    (Live.openIntervals L).time = L.time ∧
    (Live.openIntervals L).ks = L.ks ∧
    (Live.openIntervals L).rcd = L.rcd ∧
    (Live.openIntervals L).saf = L.saf ∧
    (Live.openIntervals L).seg = L.seg ∧
    (Live.openIntervals L).node = L.node ∧
    (Live.openIntervals L).conv = L.conv ∧
    (Live.openIntervals L).twin = L.twin ∧
    (Live.openIntervals L).eng = L.eng ∧
    (Live.openIntervals L).chi = L.chi ∧
    (Live.openIntervals L).cap = L.cap ∧
    (Live.openIntervals L).th = L.th ∧
    (Live.openIntervals L).com = L.com ∧
    (Live.openIntervals L).mgr = L.mgr ∧
    (Live.openIntervals L).lgc = L.lgc ∧
    (Live.openIntervals L).upd = L.upd ∧
    (Live.openIntervals L).jrn = L.jrn ∧
    (Live.openIntervals L).dbg = L.dbg ∧
    (Live.openIntervals L).ret = L.ret ∧
    (Live.openIntervals L).obj = L.obj ∧
    (Live.openIntervals L).blob = L.blob ∧
    (Live.openIntervals L).out = L.out ∧
    (Live.openIntervals L).free = L.free := by
  simp [Live.openIntervals]

theorem Live.sweepEnd_frame (L : Live) :
    (Live.sweepEnd L).mode = L.mode ∧
    (Live.sweepEnd L).pins = L.pins ∧
    (Live.sweepEnd L).time = L.time ∧
    (Live.sweepEnd L).ks = L.ks ∧
    (Live.sweepEnd L).rcd = L.rcd ∧
    (Live.sweepEnd L).saf = L.saf ∧
    (Live.sweepEnd L).seg = L.seg ∧
    (Live.sweepEnd L).node = L.node ∧
    (Live.sweepEnd L).conv = L.conv ∧
    (Live.sweepEnd L).eng = L.eng ∧
    (Live.sweepEnd L).chi = L.chi ∧
    (Live.sweepEnd L).cap = L.cap ∧
    (Live.sweepEnd L).th = L.th ∧
    (Live.sweepEnd L).com = L.com ∧
    (Live.sweepEnd L).mgr = L.mgr ∧
    (Live.sweepEnd L).lgc = L.lgc ∧
    (Live.sweepEnd L).upd = L.upd ∧
    (Live.sweepEnd L).jrn = L.jrn ∧
    (Live.sweepEnd L).dbg = L.dbg ∧
    (Live.sweepEnd L).ret = L.ret ∧
    (Live.sweepEnd L).obj = L.obj ∧
    (Live.sweepEnd L).blob = L.blob ∧
    (Live.sweepEnd L).out = L.out ∧
    (Live.sweepEnd L).free = L.free := by
  have h0 := @Live.openIntervals_frame
  simp [Live.sweepEnd, h0]

theorem Live.sweepSave_frame (L : Live) :
    (Live.sweepSave L).mode = L.mode ∧
    (Live.sweepSave L).pins = L.pins ∧
    (Live.sweepSave L).time = L.time ∧
    (Live.sweepSave L).ks = L.ks ∧
    (Live.sweepSave L).rcd = L.rcd ∧
    (Live.sweepSave L).saf = L.saf ∧
    (Live.sweepSave L).seg = L.seg ∧
    (Live.sweepSave L).node = L.node ∧
    (Live.sweepSave L).conv = L.conv ∧
    (Live.sweepSave L).twin = L.twin ∧
    (Live.sweepSave L).eng = L.eng ∧
    (Live.sweepSave L).chi = L.chi ∧
    (Live.sweepSave L).cap = L.cap ∧
    (Live.sweepSave L).est = L.est ∧
    (Live.sweepSave L).th = L.th ∧
    (Live.sweepSave L).com = L.com ∧
    (Live.sweepSave L).mgr = L.mgr ∧
    (Live.sweepSave L).lgc = L.lgc ∧
    (Live.sweepSave L).upd = L.upd ∧
    (Live.sweepSave L).jrn = L.jrn ∧
    (Live.sweepSave L).dbg = L.dbg ∧
    (Live.sweepSave L).obj = L.obj ∧
    (Live.sweepSave L).blob = L.blob ∧
    (Live.sweepSave L).out = L.out ∧
    (Live.sweepSave L).free = L.free := by
  have h0 := @Live.saveContexts_frame
  simp [Live.sweepSave, h0]

theorem Live.sweep_frame (L₀ : Live) :
    (Live.sweep L₀).mode = L₀.mode ∧
    (Live.sweep L₀).pins = L₀.pins ∧
    (Live.sweep L₀).time = L₀.time ∧
    (Live.sweep L₀).ks = L₀.ks ∧
    (Live.sweep L₀).saf = L₀.saf ∧
    (Live.sweep L₀).node = L₀.node ∧
    (Live.sweep L₀).eng = L₀.eng ∧
    (Live.sweep L₀).chi = L₀.chi ∧
    (Live.sweep L₀).th = L₀.th ∧
    (Live.sweep L₀).mgr = L₀.mgr ∧
    (Live.sweep L₀).lgc = L₀.lgc ∧
    (Live.sweep L₀).upd = L₀.upd ∧
    (Live.sweep L₀).jrn = L₀.jrn ∧
    (Live.sweep L₀).blob = L₀.blob ∧
    (Live.sweep L₀).out = L₀.out := by
  have h0 := @Live.sweepSave_frame
  have h1 := @Live.sweepEnd_frame
  have h2 := @Live.balance_frame
  have h3 := @Live.blendCheck_frame
  have h4 := @Live.stringSweep_frame
  have h5 := @Live.segsSweep_frame
  have h6 := @Live.cellsSweep_frame
  have h7 := @Live.takeSwitch_frame
  simp [Live.sweep, h0, h1, h2, h3, h4, h5, h6, h7]

theorem Live.holdSweep_frame (L : Live) :
    (Live.holdSweep L).mode = L.mode ∧
    (Live.holdSweep L).pins = L.pins ∧
    (Live.holdSweep L).time = L.time ∧
    (Live.holdSweep L).ks = L.ks ∧
    (Live.holdSweep L).rcd = L.rcd ∧
    (Live.holdSweep L).saf = L.saf ∧
    (Live.holdSweep L).seg = L.seg ∧
    (Live.holdSweep L).node = L.node ∧
    (Live.holdSweep L).conv = L.conv ∧
    (Live.holdSweep L).eng = L.eng ∧
    (Live.holdSweep L).chi = L.chi ∧
    (Live.holdSweep L).cap = L.cap ∧
    (Live.holdSweep L).th = L.th ∧
    (Live.holdSweep L).com = L.com ∧
    (Live.holdSweep L).mgr = L.mgr ∧
    (Live.holdSweep L).lgc = L.lgc ∧
    (Live.holdSweep L).upd = L.upd ∧
    (Live.holdSweep L).jrn = L.jrn ∧
    (Live.holdSweep L).dbg = L.dbg ∧
    (Live.holdSweep L).ret = L.ret ∧
    (Live.holdSweep L).obj = L.obj ∧
    (Live.holdSweep L).blob = L.blob ∧
    (Live.holdSweep L).out = L.out ∧
    (Live.holdSweep L).free = L.free := by
  have h0 := @Live.openIntervals_frame
  simp [Live.holdSweep, h0]

theorem Live.putInputs_frame (L : Live) (h : HeldSweep) :
    (Live.putInputs L h).mode = L.mode ∧
    (Live.putInputs L h).pins = L.pins ∧
    (Live.putInputs L h).time = L.time ∧
    (Live.putInputs L h).ks = L.ks ∧
    (Live.putInputs L h).rcd = L.rcd ∧
    (Live.putInputs L h).saf = L.saf ∧
    (Live.putInputs L h).seg = L.seg ∧
    (Live.putInputs L h).node = L.node ∧
    (Live.putInputs L h).conv = L.conv ∧
    (Live.putInputs L h).twin = L.twin ∧
    (Live.putInputs L h).eng = L.eng ∧
    (Live.putInputs L h).chi = L.chi ∧
    (Live.putInputs L h).cap = L.cap ∧
    (Live.putInputs L h).th = L.th ∧
    (Live.putInputs L h).com = L.com ∧
    (Live.putInputs L h).mgr = L.mgr ∧
    (Live.putInputs L h).lgc = L.lgc ∧
    (Live.putInputs L h).upd = L.upd ∧
    (Live.putInputs L h).jrn = L.jrn ∧
    (Live.putInputs L h).dbg = L.dbg ∧
    (Live.putInputs L h).ret = L.ret ∧
    (Live.putInputs L h).obj = L.obj ∧
    (Live.putInputs L h).blob = L.blob ∧
    (Live.putInputs L h).out = L.out ∧
    (Live.putInputs L h).free = L.free := by
  simp [Live.putInputs]

theorem Live.windowCells_frame (L : Live) :
    (Live.windowCells L).mode = L.mode ∧
    (Live.windowCells L).pins = L.pins ∧
    (Live.windowCells L).time = L.time ∧
    (Live.windowCells L).ks = L.ks ∧
    (Live.windowCells L).saf = L.saf ∧
    (Live.windowCells L).seg = L.seg ∧
    (Live.windowCells L).node = L.node ∧
    (Live.windowCells L).conv = L.conv ∧
    (Live.windowCells L).twin = L.twin ∧
    (Live.windowCells L).eng = L.eng ∧
    (Live.windowCells L).chi = L.chi ∧
    (Live.windowCells L).th = L.th ∧
    (Live.windowCells L).mgr = L.mgr ∧
    (Live.windowCells L).lgc = L.lgc ∧
    (Live.windowCells L).upd = L.upd ∧
    (Live.windowCells L).jrn = L.jrn ∧
    (Live.windowCells L).ret = L.ret ∧
    (Live.windowCells L).obj = L.obj ∧
    (Live.windowCells L).blob = L.blob ∧
    (Live.windowCells L).out = L.out ∧
    (Live.windowCells L).free = L.free := by
  have h0 := @Live.blendCheck_frame
  have h1 := @Live.cellEvs_frame
  have h2 := @Live.setCtx_frame
  simp [Live.windowCells, h0, h1, h2]

theorem Live.fitCell_frame (s : Nat) (L : Live) (c : Nat) :
    (Live.fitCell s L c).mode = L.mode ∧
    (Live.fitCell s L c).pins = L.pins ∧
    (Live.fitCell s L c).time = L.time ∧
    (Live.fitCell s L c).ks = L.ks ∧
    (Live.fitCell s L c).saf = L.saf ∧
    (Live.fitCell s L c).seg = L.seg ∧
    (Live.fitCell s L c).node = L.node ∧
    (Live.fitCell s L c).conv = L.conv ∧
    (Live.fitCell s L c).twin = L.twin ∧
    (Live.fitCell s L c).eng = L.eng ∧
    (Live.fitCell s L c).chi = L.chi ∧
    (Live.fitCell s L c).th = L.th ∧
    (Live.fitCell s L c).mgr = L.mgr ∧
    (Live.fitCell s L c).lgc = L.lgc ∧
    (Live.fitCell s L c).upd = L.upd ∧
    (Live.fitCell s L c).jrn = L.jrn ∧
    (Live.fitCell s L c).ret = L.ret ∧
    (Live.fitCell s L c).obj = L.obj ∧
    (Live.fitCell s L c).blob = L.blob ∧
    (Live.fitCell s L c).out = L.out ∧
    (Live.fitCell s L c).free = L.free := by
  have h0 := @Live.setCtx_frame
  have h1 := @Live.cellEvs_frame
  simp only [Live.fitCell]
  (repeat' split) <;> simp [h0, h1]

theorem Live.evalWindow_frame (L : Live) (start : Nat) :
    (Live.evalWindow L start).mode = L.mode ∧
    (Live.evalWindow L start).pins = L.pins ∧
    (Live.evalWindow L start).time = L.time ∧
    (Live.evalWindow L start).ks = L.ks ∧
    (Live.evalWindow L start).saf = L.saf ∧
    (Live.evalWindow L start).seg = L.seg ∧
    (Live.evalWindow L start).node = L.node ∧
    (Live.evalWindow L start).conv = L.conv ∧
    (Live.evalWindow L start).twin = L.twin ∧
    (Live.evalWindow L start).eng = L.eng ∧
    (Live.evalWindow L start).chi = L.chi ∧
    (Live.evalWindow L start).th = L.th ∧
    (Live.evalWindow L start).mgr = L.mgr ∧
    (Live.evalWindow L start).lgc = L.lgc ∧
    (Live.evalWindow L start).upd = L.upd ∧
    (Live.evalWindow L start).jrn = L.jrn ∧
    (Live.evalWindow L start).ret = L.ret ∧
    (Live.evalWindow L start).blob = L.blob ∧
    (Live.evalWindow L start).out = L.out ∧
    (Live.evalWindow L start).free = L.free := by
  have h0 := @Live.blendCheck_frame
  have h1 := @Live.fitCell_frame
  simp [Live.evalWindow, h0, h1]

theorem Live.clearWindow_frame (L : Live) :
    (Live.clearWindow L).mode = L.mode ∧
    (Live.clearWindow L).pins = L.pins ∧
    (Live.clearWindow L).time = L.time ∧
    (Live.clearWindow L).ks = L.ks ∧
    (Live.clearWindow L).rcd = L.rcd ∧
    (Live.clearWindow L).saf = L.saf ∧
    (Live.clearWindow L).seg = L.seg ∧
    (Live.clearWindow L).node = L.node ∧
    (Live.clearWindow L).conv = L.conv ∧
    (Live.clearWindow L).twin = L.twin ∧
    (Live.clearWindow L).eng = L.eng ∧
    (Live.clearWindow L).chi = L.chi ∧
    (Live.clearWindow L).cap = L.cap ∧
    (Live.clearWindow L).th = L.th ∧
    (Live.clearWindow L).com = L.com ∧
    (Live.clearWindow L).mgr = L.mgr ∧
    (Live.clearWindow L).lgc = L.lgc ∧
    (Live.clearWindow L).upd = L.upd ∧
    (Live.clearWindow L).jrn = L.jrn ∧
    (Live.clearWindow L).dbg = L.dbg ∧
    (Live.clearWindow L).ret = L.ret ∧
    (Live.clearWindow L).obj = L.obj ∧
    (Live.clearWindow L).blob = L.blob ∧
    (Live.clearWindow L).out = L.out ∧
    (Live.clearWindow L).free = L.free := by
  simp [Live.clearWindow]

end Sys2Proof.Machine
end

