-- ==== Sys2Proof/Laws/FrameEngineOps.lean ====
section
/-! SUPPORT. What each operation of Machine/EngineOps.lean leaves as it is. -/

namespace Sys2Proof.Machine

open Sys2Proof

theorem Live.commitTab_frame (L : Live) (t : List Stage) :
    (Live.commitTab L t).mode = L.mode ∧
    (Live.commitTab L t).pins = L.pins ∧
    (Live.commitTab L t).time = L.time ∧
    (Live.commitTab L t).ks = L.ks ∧
    (Live.commitTab L t).saf = L.saf ∧
    (Live.commitTab L t).seg = L.seg ∧
    (Live.commitTab L t).node = L.node ∧
    (Live.commitTab L t).conv = L.conv ∧
    (Live.commitTab L t).twin = L.twin ∧
    (Live.commitTab L t).est = L.est ∧
    (Live.commitTab L t).th = L.th ∧
    (Live.commitTab L t).mgr = L.mgr ∧
    (Live.commitTab L t).lgc = L.lgc ∧
    (Live.commitTab L t).upd = L.upd ∧
    (Live.commitTab L t).jrn = L.jrn ∧
    (Live.commitTab L t).ret = L.ret ∧
    (Live.commitTab L t).blob = L.blob ∧
    (Live.commitTab L t).out = L.out ∧
    (Live.commitTab L t).free = L.free := by
  have h0 := @Live.abortChisel_frame
  simp [Live.commitTab, h0]

theorem Live.zeroCoefs_frame (L : Live) (p : LawSet) (old new : List Stage) (ws : List (Nat × Nat × Int)) :
    (Live.zeroCoefs L p old new ws).mode = L.mode ∧
    (Live.zeroCoefs L p old new ws).pins = L.pins ∧
    (Live.zeroCoefs L p old new ws).time = L.time ∧
    (Live.zeroCoefs L p old new ws).ks = L.ks ∧
    (Live.zeroCoefs L p old new ws).saf = L.saf ∧
    (Live.zeroCoefs L p old new ws).seg = L.seg ∧
    (Live.zeroCoefs L p old new ws).node = L.node ∧
    (Live.zeroCoefs L p old new ws).conv = L.conv ∧
    (Live.zeroCoefs L p old new ws).twin = L.twin ∧
    (Live.zeroCoefs L p old new ws).eng = L.eng ∧
    (Live.zeroCoefs L p old new ws).chi = L.chi ∧
    (Live.zeroCoefs L p old new ws).est = L.est ∧
    (Live.zeroCoefs L p old new ws).th = L.th ∧
    (Live.zeroCoefs L p old new ws).mgr = L.mgr ∧
    (Live.zeroCoefs L p old new ws).lgc = L.lgc ∧
    (Live.zeroCoefs L p old new ws).upd = L.upd ∧
    (Live.zeroCoefs L p old new ws).jrn = L.jrn ∧
    (Live.zeroCoefs L p old new ws).ret = L.ret ∧
    (Live.zeroCoefs L p old new ws).obj = L.obj ∧
    (Live.zeroCoefs L p old new ws).blob = L.blob ∧
    (Live.zeroCoefs L p old new ws).out = L.out ∧
    (Live.zeroCoefs L p old new ws).free = L.free := by
  simp [Live.zeroCoefs]

theorem Live.noteTable_frame (L : Live) (r : Option (Nat × Nat)) :
    (Live.noteTable L r).mode = L.mode ∧
    (Live.noteTable L r).pins = L.pins ∧
    (Live.noteTable L r).time = L.time ∧
    (Live.noteTable L r).ks = L.ks ∧
    (Live.noteTable L r).rcd = L.rcd ∧
    (Live.noteTable L r).saf = L.saf ∧
    (Live.noteTable L r).seg = L.seg ∧
    (Live.noteTable L r).node = L.node ∧
    (Live.noteTable L r).conv = L.conv ∧
    (Live.noteTable L r).twin = L.twin ∧
    (Live.noteTable L r).eng = L.eng ∧
    (Live.noteTable L r).chi = L.chi ∧
    (Live.noteTable L r).cap = L.cap ∧
    (Live.noteTable L r).est = L.est ∧
    (Live.noteTable L r).th = L.th ∧
    (Live.noteTable L r).com = L.com ∧
    (Live.noteTable L r).mgr = L.mgr ∧
    (Live.noteTable L r).lgc = L.lgc ∧
    (Live.noteTable L r).upd = L.upd ∧
    (Live.noteTable L r).jrn = L.jrn ∧
    (Live.noteTable L r).dbg = L.dbg ∧
    (Live.noteTable L r).ret = L.ret ∧
    (Live.noteTable L r).blob = L.blob ∧
    (Live.noteTable L r).out = L.out ∧
    (Live.noteTable L r).free = L.free := by
  simp [Live.noteTable]

theorem Live.tabRefused_frame (L : Live) (b : Bool) :
    (Live.tabRefused L b).mode = L.mode ∧
    (Live.tabRefused L b).pins = L.pins ∧
    (Live.tabRefused L b).time = L.time ∧
    (Live.tabRefused L b).ks = L.ks ∧
    (Live.tabRefused L b).rcd = L.rcd ∧
    (Live.tabRefused L b).saf = L.saf ∧
    (Live.tabRefused L b).seg = L.seg ∧
    (Live.tabRefused L b).node = L.node ∧
    (Live.tabRefused L b).conv = L.conv ∧
    (Live.tabRefused L b).twin = L.twin ∧
    (Live.tabRefused L b).chi = L.chi ∧
    (Live.tabRefused L b).cap = L.cap ∧
    (Live.tabRefused L b).est = L.est ∧
    (Live.tabRefused L b).th = L.th ∧
    (Live.tabRefused L b).com = L.com ∧
    (Live.tabRefused L b).mgr = L.mgr ∧
    (Live.tabRefused L b).lgc = L.lgc ∧
    (Live.tabRefused L b).upd = L.upd ∧
    (Live.tabRefused L b).jrn = L.jrn ∧
    (Live.tabRefused L b).dbg = L.dbg ∧
    (Live.tabRefused L b).ret = L.ret ∧
    (Live.tabRefused L b).obj = L.obj ∧
    (Live.tabRefused L b).blob = L.blob ∧
    (Live.tabRefused L b).out = L.out ∧
    (Live.tabRefused L b).free = L.free := by
  simp [Live.tabRefused]

theorem Live.recommit_frame (L : Live) :
    (Live.recommit L).mode = L.mode ∧
    (Live.recommit L).pins = L.pins ∧
    (Live.recommit L).time = L.time ∧
    (Live.recommit L).ks = L.ks ∧
    (Live.recommit L).saf = L.saf ∧
    (Live.recommit L).seg = L.seg ∧
    (Live.recommit L).node = L.node ∧
    (Live.recommit L).conv = L.conv ∧
    (Live.recommit L).twin = L.twin ∧
    (Live.recommit L).est = L.est ∧
    (Live.recommit L).th = L.th ∧
    (Live.recommit L).mgr = L.mgr ∧
    (Live.recommit L).lgc = L.lgc ∧
    (Live.recommit L).upd = L.upd ∧
    (Live.recommit L).jrn = L.jrn ∧
    (Live.recommit L).ret = L.ret ∧
    (Live.recommit L).blob = L.blob ∧
    (Live.recommit L).out = L.out ∧
    (Live.recommit L).free = L.free := by
  have h0 := @Live.zeroCoefs_frame
  have h1 := @Live.commitTab_frame
  have h2 := @Live.noteTable_frame
  simp [Live.recommit, h0, h1, h2]

theorem Live.takeCommit_frame (L : Live) :
    (Live.takeCommit L).mode = L.mode ∧
    (Live.takeCommit L).pins = L.pins ∧
    (Live.takeCommit L).time = L.time ∧
    (Live.takeCommit L).saf = L.saf ∧
    (Live.takeCommit L).seg = L.seg ∧
    (Live.takeCommit L).node = L.node ∧
    (Live.takeCommit L).conv = L.conv ∧
    (Live.takeCommit L).twin = L.twin ∧
    (Live.takeCommit L).chi = L.chi ∧
    (Live.takeCommit L).est = L.est ∧
    (Live.takeCommit L).th = L.th ∧
    (Live.takeCommit L).mgr = L.mgr ∧
    (Live.takeCommit L).lgc = L.lgc ∧
    (Live.takeCommit L).upd = L.upd ∧
    (Live.takeCommit L).jrn = L.jrn ∧
    (Live.takeCommit L).ret = L.ret ∧
    (Live.takeCommit L).obj = L.obj ∧
    (Live.takeCommit L).blob = L.blob ∧
    (Live.takeCommit L).out = L.out ∧
    (Live.takeCommit L).free = L.free := by
  simp only [Live.takeCommit]
  (repeat' split) <;> simp

theorem Live.chiselBegin_frame (L : Live) :
    (Live.chiselBegin L).mode = L.mode ∧
    (Live.chiselBegin L).pins = L.pins ∧
    (Live.chiselBegin L).time = L.time ∧
    (Live.chiselBegin L).ks = L.ks ∧
    (Live.chiselBegin L).saf = L.saf ∧
    (Live.chiselBegin L).seg = L.seg ∧
    (Live.chiselBegin L).node = L.node ∧
    (Live.chiselBegin L).conv = L.conv ∧
    (Live.chiselBegin L).twin = L.twin ∧
    (Live.chiselBegin L).eng = L.eng ∧
    (Live.chiselBegin L).est = L.est ∧
    (Live.chiselBegin L).th = L.th ∧
    (Live.chiselBegin L).mgr = L.mgr ∧
    (Live.chiselBegin L).lgc = L.lgc ∧
    (Live.chiselBegin L).upd = L.upd ∧
    (Live.chiselBegin L).jrn = L.jrn ∧
    (Live.chiselBegin L).ret = L.ret ∧
    (Live.chiselBegin L).obj = L.obj ∧
    (Live.chiselBegin L).blob = L.blob ∧
    (Live.chiselBegin L).out = L.out ∧
    (Live.chiselBegin L).free = L.free := by
  simp [Live.chiselBegin]

theorem Live.chiselSignal_frame (L : Live) :
    (Live.chiselSignal L).mode = L.mode ∧
    (Live.chiselSignal L).pins = L.pins ∧
    (Live.chiselSignal L).time = L.time ∧
    (Live.chiselSignal L).ks = L.ks ∧
    (Live.chiselSignal L).rcd = L.rcd ∧
    (Live.chiselSignal L).saf = L.saf ∧
    (Live.chiselSignal L).seg = L.seg ∧
    (Live.chiselSignal L).node = L.node ∧
    (Live.chiselSignal L).conv = L.conv ∧
    (Live.chiselSignal L).twin = L.twin ∧
    (Live.chiselSignal L).eng = L.eng ∧
    (Live.chiselSignal L).cap = L.cap ∧
    (Live.chiselSignal L).est = L.est ∧
    (Live.chiselSignal L).th = L.th ∧
    (Live.chiselSignal L).com = L.com ∧
    (Live.chiselSignal L).mgr = L.mgr ∧
    (Live.chiselSignal L).lgc = L.lgc ∧
    (Live.chiselSignal L).upd = L.upd ∧
    (Live.chiselSignal L).jrn = L.jrn ∧
    (Live.chiselSignal L).dbg = L.dbg ∧
    (Live.chiselSignal L).ret = L.ret ∧
    (Live.chiselSignal L).obj = L.obj ∧
    (Live.chiselSignal L).blob = L.blob ∧
    (Live.chiselSignal L).out = L.out ∧
    (Live.chiselSignal L).free = L.free := by
  simp [Live.chiselSignal]

theorem Live.capTrigger_frame (L : Live) :
    (Live.capTrigger L).mode = L.mode ∧
    (Live.capTrigger L).pins = L.pins ∧
    (Live.capTrigger L).time = L.time ∧
    (Live.capTrigger L).ks = L.ks ∧
    (Live.capTrigger L).saf = L.saf ∧
    (Live.capTrigger L).seg = L.seg ∧
    (Live.capTrigger L).node = L.node ∧
    (Live.capTrigger L).conv = L.conv ∧
    (Live.capTrigger L).twin = L.twin ∧
    (Live.capTrigger L).eng = L.eng ∧
    (Live.capTrigger L).chi = L.chi ∧
    (Live.capTrigger L).est = L.est ∧
    (Live.capTrigger L).th = L.th ∧
    (Live.capTrigger L).mgr = L.mgr ∧
    (Live.capTrigger L).lgc = L.lgc ∧
    (Live.capTrigger L).upd = L.upd ∧
    (Live.capTrigger L).jrn = L.jrn ∧
    (Live.capTrigger L).ret = L.ret ∧
    (Live.capTrigger L).blob = L.blob ∧
    (Live.capTrigger L).out = L.out ∧
    (Live.capTrigger L).free = L.free := by
  simp [Live.capTrigger]

theorem Live.capRecord_frame (L : Live) (room : Nat) :
    (Live.capRecord L room).mode = L.mode ∧
    (Live.capRecord L room).pins = L.pins ∧
    (Live.capRecord L room).time = L.time ∧
    (Live.capRecord L room).ks = L.ks ∧
    (Live.capRecord L room).rcd = L.rcd ∧
    (Live.capRecord L room).saf = L.saf ∧
    (Live.capRecord L room).seg = L.seg ∧
    (Live.capRecord L room).node = L.node ∧
    (Live.capRecord L room).conv = L.conv ∧
    (Live.capRecord L room).twin = L.twin ∧
    (Live.capRecord L room).eng = L.eng ∧
    (Live.capRecord L room).chi = L.chi ∧
    (Live.capRecord L room).est = L.est ∧
    (Live.capRecord L room).th = L.th ∧
    (Live.capRecord L room).com = L.com ∧
    (Live.capRecord L room).mgr = L.mgr ∧
    (Live.capRecord L room).lgc = L.lgc ∧
    (Live.capRecord L room).upd = L.upd ∧
    (Live.capRecord L room).jrn = L.jrn ∧
    (Live.capRecord L room).dbg = L.dbg ∧
    (Live.capRecord L room).ret = L.ret ∧
    (Live.capRecord L room).obj = L.obj ∧
    (Live.capRecord L room).blob = L.blob ∧
    (Live.capRecord L room).out = L.out ∧
    (Live.capRecord L room).free = L.free := by
  simp [Live.capRecord]

theorem Live.capFilled_frame (L : Live) :
    (Live.capFilled L).mode = L.mode ∧
    (Live.capFilled L).pins = L.pins ∧
    (Live.capFilled L).time = L.time ∧
    (Live.capFilled L).ks = L.ks ∧
    (Live.capFilled L).rcd = L.rcd ∧
    (Live.capFilled L).saf = L.saf ∧
    (Live.capFilled L).seg = L.seg ∧
    (Live.capFilled L).node = L.node ∧
    (Live.capFilled L).conv = L.conv ∧
    (Live.capFilled L).twin = L.twin ∧
    (Live.capFilled L).eng = L.eng ∧
    (Live.capFilled L).chi = L.chi ∧
    (Live.capFilled L).est = L.est ∧
    (Live.capFilled L).th = L.th ∧
    (Live.capFilled L).com = L.com ∧
    (Live.capFilled L).mgr = L.mgr ∧
    (Live.capFilled L).lgc = L.lgc ∧
    (Live.capFilled L).upd = L.upd ∧
    (Live.capFilled L).jrn = L.jrn ∧
    (Live.capFilled L).dbg = L.dbg ∧
    (Live.capFilled L).ret = L.ret ∧
    (Live.capFilled L).obj = L.obj ∧
    (Live.capFilled L).blob = L.blob ∧
    (Live.capFilled L).out = L.out ∧
    (Live.capFilled L).free = L.free := by
  simp [Live.capFilled]

theorem Live.capCommand_frame (L : Live) (v : Nat) :
    (Live.capCommand L v).mode = L.mode ∧
    (Live.capCommand L v).pins = L.pins ∧
    (Live.capCommand L v).time = L.time ∧
    (Live.capCommand L v).ks = L.ks ∧
    (Live.capCommand L v).rcd = L.rcd ∧
    (Live.capCommand L v).saf = L.saf ∧
    (Live.capCommand L v).seg = L.seg ∧
    (Live.capCommand L v).node = L.node ∧
    (Live.capCommand L v).conv = L.conv ∧
    (Live.capCommand L v).twin = L.twin ∧
    (Live.capCommand L v).eng = L.eng ∧
    (Live.capCommand L v).chi = L.chi ∧
    (Live.capCommand L v).est = L.est ∧
    (Live.capCommand L v).th = L.th ∧
    (Live.capCommand L v).com = L.com ∧
    (Live.capCommand L v).mgr = L.mgr ∧
    (Live.capCommand L v).lgc = L.lgc ∧
    (Live.capCommand L v).upd = L.upd ∧
    (Live.capCommand L v).jrn = L.jrn ∧
    (Live.capCommand L v).dbg = L.dbg ∧
    (Live.capCommand L v).ret = L.ret ∧
    (Live.capCommand L v).obj = L.obj ∧
    (Live.capCommand L v).blob = L.blob ∧
    (Live.capCommand L v).out = L.out ∧
    (Live.capCommand L v).free = L.free := by
  have h0 := @Live.capFilled_frame
  simp only [Live.capCommand]
  (repeat' split) <;> simp [h0]

theorem Live.capCommands_frame (L : Live) :
    (Live.capCommands L).mode = L.mode ∧
    (Live.capCommands L).pins = L.pins ∧
    (Live.capCommands L).time = L.time ∧
    (Live.capCommands L).ks = L.ks ∧
    (Live.capCommands L).rcd = L.rcd ∧
    (Live.capCommands L).saf = L.saf ∧
    (Live.capCommands L).seg = L.seg ∧
    (Live.capCommands L).node = L.node ∧
    (Live.capCommands L).conv = L.conv ∧
    (Live.capCommands L).twin = L.twin ∧
    (Live.capCommands L).eng = L.eng ∧
    (Live.capCommands L).chi = L.chi ∧
    (Live.capCommands L).est = L.est ∧
    (Live.capCommands L).th = L.th ∧
    (Live.capCommands L).com = L.com ∧
    (Live.capCommands L).mgr = L.mgr ∧
    (Live.capCommands L).lgc = L.lgc ∧
    (Live.capCommands L).upd = L.upd ∧
    (Live.capCommands L).jrn = L.jrn ∧
    (Live.capCommands L).dbg = L.dbg ∧
    (Live.capCommands L).ret = L.ret ∧
    (Live.capCommands L).obj = L.obj ∧
    (Live.capCommands L).blob = L.blob ∧
    (Live.capCommands L).out = L.out ∧
    (Live.capCommands L).free = L.free := by
  have h0 := @Live.capCommand_frame
  simp [Live.capCommands, h0]

theorem Live.capture_frame (L : Live) (chiselNow : Bool) :
    (Live.capture L chiselNow).mode = L.mode ∧
    (Live.capture L chiselNow).pins = L.pins ∧
    (Live.capture L chiselNow).time = L.time ∧
    (Live.capture L chiselNow).ks = L.ks ∧
    (Live.capture L chiselNow).saf = L.saf ∧
    (Live.capture L chiselNow).seg = L.seg ∧
    (Live.capture L chiselNow).node = L.node ∧
    (Live.capture L chiselNow).conv = L.conv ∧
    (Live.capture L chiselNow).twin = L.twin ∧
    (Live.capture L chiselNow).eng = L.eng ∧
    (Live.capture L chiselNow).chi = L.chi ∧
    (Live.capture L chiselNow).est = L.est ∧
    (Live.capture L chiselNow).th = L.th ∧
    (Live.capture L chiselNow).mgr = L.mgr ∧
    (Live.capture L chiselNow).lgc = L.lgc ∧
    (Live.capture L chiselNow).upd = L.upd ∧
    (Live.capture L chiselNow).jrn = L.jrn ∧
    (Live.capture L chiselNow).ret = L.ret ∧
    (Live.capture L chiselNow).blob = L.blob ∧
    (Live.capture L chiselNow).out = L.out ∧
    (Live.capture L chiselNow).free = L.free := by
  have h0 := @Live.capTrigger_frame
  have h1 := @Live.capFilled_frame
  have h2 := @Live.capRecord_frame
  simp [Live.capture, h0, h1, h2]

theorem Live.dropCaptureReads_frame (L : Live) :
    (Live.dropCaptureReads L).mode = L.mode ∧
    (Live.dropCaptureReads L).pins = L.pins ∧
    (Live.dropCaptureReads L).time = L.time ∧
    (Live.dropCaptureReads L).rcd = L.rcd ∧
    (Live.dropCaptureReads L).saf = L.saf ∧
    (Live.dropCaptureReads L).seg = L.seg ∧
    (Live.dropCaptureReads L).node = L.node ∧
    (Live.dropCaptureReads L).conv = L.conv ∧
    (Live.dropCaptureReads L).twin = L.twin ∧
    (Live.dropCaptureReads L).eng = L.eng ∧
    (Live.dropCaptureReads L).chi = L.chi ∧
    (Live.dropCaptureReads L).cap = L.cap ∧
    (Live.dropCaptureReads L).est = L.est ∧
    (Live.dropCaptureReads L).th = L.th ∧
    (Live.dropCaptureReads L).lgc = L.lgc ∧
    (Live.dropCaptureReads L).upd = L.upd ∧
    (Live.dropCaptureReads L).jrn = L.jrn ∧
    (Live.dropCaptureReads L).ret = L.ret ∧
    (Live.dropCaptureReads L).obj = L.obj ∧
    (Live.dropCaptureReads L).blob = L.blob ∧
    (Live.dropCaptureReads L).free = L.free := by
  have h0 := @Live.refuse_frame
  simp [Live.dropCaptureReads, h0]

end Sys2Proof.Machine
end

