-- ==== Sys2Proof/Laws/FrameSample.lean ====
section
/-! SUPPORT. What each operation of Machine/Sample.lean leaves as it is. -/

namespace Sys2Proof.Machine

open Sys2Proof

theorem Live.crossing_frame (L : Live) (c : Option Nat) :
    (Live.crossing L c).time = L.time ∧
    (Live.crossing L c).ks = L.ks ∧
    (Live.crossing L c).seg = L.seg ∧
    (Live.crossing L c).node = L.node ∧
    (Live.crossing L c).eng = L.eng ∧
    (Live.crossing L c).est = L.est ∧
    (Live.crossing L c).th = L.th ∧
    (Live.crossing L c).mgr = L.mgr ∧
    (Live.crossing L c).lgc = L.lgc ∧
    (Live.crossing L c).jrn = L.jrn ∧
    (Live.crossing L c).ret = L.ret ∧
    (Live.crossing L c).blob = L.blob ∧
    (Live.crossing L c).free = L.free := by
  have h0 := @Live.sf12_frame
  cases c <;> simp [Live.crossing, h0]

theorem Live.measure_frame (L : Live) (x : SampleIn) :
    (Live.measure L x).mode = L.mode ∧
    (Live.measure L x).pins = L.pins ∧
    (Live.measure L x).time = L.time ∧
    (Live.measure L x).ks = L.ks ∧
    (Live.measure L x).rcd = L.rcd ∧
    (Live.measure L x).saf = L.saf ∧
    (Live.measure L x).seg = L.seg ∧
    (Live.measure L x).node = L.node ∧
    (Live.measure L x).twin = L.twin ∧
    (Live.measure L x).eng = L.eng ∧
    (Live.measure L x).chi = L.chi ∧
    (Live.measure L x).cap = L.cap ∧
    (Live.measure L x).est = L.est ∧
    (Live.measure L x).th = L.th ∧
    (Live.measure L x).com = L.com ∧
    (Live.measure L x).mgr = L.mgr ∧
    (Live.measure L x).lgc = L.lgc ∧
    (Live.measure L x).upd = L.upd ∧
    (Live.measure L x).jrn = L.jrn ∧
    (Live.measure L x).dbg = L.dbg ∧
    (Live.measure L x).ret = L.ret ∧
    (Live.measure L x).obj = L.obj ∧
    (Live.measure L x).blob = L.blob ∧
    (Live.measure L x).out = L.out ∧
    (Live.measure L x).free = L.free := by
  simp [Live.measure]

theorem Live.endFrame_frame (L : Live) :
    (Live.endFrame L).mode = L.mode ∧
    (Live.endFrame L).pins = L.pins ∧
    (Live.endFrame L).time = L.time ∧
    (Live.endFrame L).ks = L.ks ∧
    (Live.endFrame L).rcd = L.rcd ∧
    (Live.endFrame L).saf = L.saf ∧
    (Live.endFrame L).node = L.node ∧
    (Live.endFrame L).conv = L.conv ∧
    (Live.endFrame L).twin = L.twin ∧
    (Live.endFrame L).eng = L.eng ∧
    (Live.endFrame L).chi = L.chi ∧
    (Live.endFrame L).cap = L.cap ∧
    (Live.endFrame L).est = L.est ∧
    (Live.endFrame L).th = L.th ∧
    (Live.endFrame L).com = L.com ∧
    (Live.endFrame L).mgr = L.mgr ∧
    (Live.endFrame L).lgc = L.lgc ∧
    (Live.endFrame L).upd = L.upd ∧
    (Live.endFrame L).jrn = L.jrn ∧
    (Live.endFrame L).dbg = L.dbg ∧
    (Live.endFrame L).ret = L.ret ∧
    (Live.endFrame L).obj = L.obj ∧
    (Live.endFrame L).blob = L.blob ∧
    (Live.endFrame L).out = L.out ∧
    (Live.endFrame L).free = L.free := by
  simp [Live.endFrame]

theorem Live.setDir_frame (L : Live) :
    (Live.setDir L).mode = L.mode ∧
    (Live.setDir L).pins = L.pins ∧
    (Live.setDir L).time = L.time ∧
    (Live.setDir L).ks = L.ks ∧
    (Live.setDir L).rcd = L.rcd ∧
    (Live.setDir L).saf = L.saf ∧
    (Live.setDir L).seg = L.seg ∧
    (Live.setDir L).node = L.node ∧
    (Live.setDir L).twin = L.twin ∧
    (Live.setDir L).eng = L.eng ∧
    (Live.setDir L).chi = L.chi ∧
    (Live.setDir L).cap = L.cap ∧
    (Live.setDir L).est = L.est ∧
    (Live.setDir L).th = L.th ∧
    (Live.setDir L).com = L.com ∧
    (Live.setDir L).mgr = L.mgr ∧
    (Live.setDir L).lgc = L.lgc ∧
    (Live.setDir L).upd = L.upd ∧
    (Live.setDir L).jrn = L.jrn ∧
    (Live.setDir L).dbg = L.dbg ∧
    (Live.setDir L).ret = L.ret ∧
    (Live.setDir L).obj = L.obj ∧
    (Live.setDir L).blob = L.blob ∧
    (Live.setDir L).out = L.out ∧
    (Live.setDir L).free = L.free := by
  simp [Live.setDir]

theorem Live.quiet_frame (L : Live) :
    (Live.quiet L).mode = L.mode ∧
    (Live.quiet L).pins = L.pins ∧
    (Live.quiet L).time = L.time ∧
    (Live.quiet L).ks = L.ks ∧
    (Live.quiet L).rcd = L.rcd ∧
    (Live.quiet L).saf = L.saf ∧
    (Live.quiet L).seg = L.seg ∧
    (Live.quiet L).node = L.node ∧
    (Live.quiet L).conv = L.conv ∧
    (Live.quiet L).twin = L.twin ∧
    (Live.quiet L).eng = L.eng ∧
    (Live.quiet L).chi = L.chi ∧
    (Live.quiet L).cap = L.cap ∧
    (Live.quiet L).th = L.th ∧
    (Live.quiet L).com = L.com ∧
    (Live.quiet L).mgr = L.mgr ∧
    (Live.quiet L).lgc = L.lgc ∧
    (Live.quiet L).upd = L.upd ∧
    (Live.quiet L).jrn = L.jrn ∧
    (Live.quiet L).dbg = L.dbg ∧
    (Live.quiet L).ret = L.ret ∧
    (Live.quiet L).blob = L.blob ∧
    (Live.quiet L).out = L.out ∧
    (Live.quiet L).free = L.free := by
  simp [Live.quiet]

theorem Live.accumulate_frame (L : Live) (i : Rat) (x : ShareIn) :
    (Live.accumulate L i x).mode = L.mode ∧
    (Live.accumulate L i x).pins = L.pins ∧
    (Live.accumulate L i x).time = L.time ∧
    (Live.accumulate L i x).ks = L.ks ∧
    (Live.accumulate L i x).rcd = L.rcd ∧
    (Live.accumulate L i x).saf = L.saf ∧
    (Live.accumulate L i x).seg = L.seg ∧
    (Live.accumulate L i x).node = L.node ∧
    (Live.accumulate L i x).conv = L.conv ∧
    (Live.accumulate L i x).twin = L.twin ∧
    (Live.accumulate L i x).eng = L.eng ∧
    (Live.accumulate L i x).chi = L.chi ∧
    (Live.accumulate L i x).cap = L.cap ∧
    (Live.accumulate L i x).th = L.th ∧
    (Live.accumulate L i x).com = L.com ∧
    (Live.accumulate L i x).mgr = L.mgr ∧
    (Live.accumulate L i x).lgc = L.lgc ∧
    (Live.accumulate L i x).upd = L.upd ∧
    (Live.accumulate L i x).jrn = L.jrn ∧
    (Live.accumulate L i x).dbg = L.dbg ∧
    (Live.accumulate L i x).ret = L.ret ∧
    (Live.accumulate L i x).obj = L.obj ∧
    (Live.accumulate L i x).blob = L.blob ∧
    (Live.accumulate L i x).out = L.out ∧
    (Live.accumulate L i x).free = L.free := by
  simp [Live.accumulate]

theorem Live.trackHeat_frame (L : Live) (i : Rat) (x : ShareIn) :
    (Live.trackHeat L i x).mode = L.mode ∧
    (Live.trackHeat L i x).pins = L.pins ∧
    (Live.trackHeat L i x).time = L.time ∧
    (Live.trackHeat L i x).ks = L.ks ∧
    (Live.trackHeat L i x).rcd = L.rcd ∧
    (Live.trackHeat L i x).saf = L.saf ∧
    (Live.trackHeat L i x).node = L.node ∧
    (Live.trackHeat L i x).conv = L.conv ∧
    (Live.trackHeat L i x).twin = L.twin ∧
    (Live.trackHeat L i x).eng = L.eng ∧
    (Live.trackHeat L i x).chi = L.chi ∧
    (Live.trackHeat L i x).cap = L.cap ∧
    (Live.trackHeat L i x).est = L.est ∧
    (Live.trackHeat L i x).th = L.th ∧
    (Live.trackHeat L i x).com = L.com ∧
    (Live.trackHeat L i x).mgr = L.mgr ∧
    (Live.trackHeat L i x).lgc = L.lgc ∧
    (Live.trackHeat L i x).upd = L.upd ∧
    (Live.trackHeat L i x).jrn = L.jrn ∧
    (Live.trackHeat L i x).dbg = L.dbg ∧
    (Live.trackHeat L i x).ret = L.ret ∧
    (Live.trackHeat L i x).obj = L.obj ∧
    (Live.trackHeat L i x).blob = L.blob ∧
    (Live.trackHeat L i x).out = L.out ∧
    (Live.trackHeat L i x).free = L.free := by
  simp [Live.trackHeat]

theorem Live.shareStep_frame (L : Live) (i : Rat) (x : ShareIn) :
    (Live.shareStep L i x).mode = L.mode ∧
    (Live.shareStep L i x).pins = L.pins ∧
    (Live.shareStep L i x).time = L.time ∧
    (Live.shareStep L i x).ks = L.ks ∧
    (Live.shareStep L i x).rcd = L.rcd ∧
    (Live.shareStep L i x).saf = L.saf ∧
    (Live.shareStep L i x).node = L.node ∧
    (Live.shareStep L i x).conv = L.conv ∧
    (Live.shareStep L i x).twin = L.twin ∧
    (Live.shareStep L i x).eng = L.eng ∧
    (Live.shareStep L i x).chi = L.chi ∧
    (Live.shareStep L i x).cap = L.cap ∧
    (Live.shareStep L i x).th = L.th ∧
    (Live.shareStep L i x).com = L.com ∧
    (Live.shareStep L i x).mgr = L.mgr ∧
    (Live.shareStep L i x).lgc = L.lgc ∧
    (Live.shareStep L i x).upd = L.upd ∧
    (Live.shareStep L i x).jrn = L.jrn ∧
    (Live.shareStep L i x).dbg = L.dbg ∧
    (Live.shareStep L i x).ret = L.ret ∧
    (Live.shareStep L i x).obj = L.obj ∧
    (Live.shareStep L i x).blob = L.blob ∧
    (Live.shareStep L i x).out = L.out ∧
    (Live.shareStep L i x).free = L.free := by
  have h0 := @Live.trackHeat_frame
  have h1 := @Live.accumulate_frame
  simp [Live.shareStep, h0, h1]

theorem Live.shareOwn_frame (L : Live) (l : List ShareIn) :
    (Live.shareOwn L l).mode = L.mode ∧
    (Live.shareOwn L l).pins = L.pins ∧
    (Live.shareOwn L l).time = L.time ∧
    (Live.shareOwn L l).ks = L.ks ∧
    (Live.shareOwn L l).rcd = L.rcd ∧
    (Live.shareOwn L l).saf = L.saf ∧
    (Live.shareOwn L l).node = L.node ∧
    (Live.shareOwn L l).conv = L.conv ∧
    (Live.shareOwn L l).twin = L.twin ∧
    (Live.shareOwn L l).eng = L.eng ∧
    (Live.shareOwn L l).chi = L.chi ∧
    (Live.shareOwn L l).cap = L.cap ∧
    (Live.shareOwn L l).th = L.th ∧
    (Live.shareOwn L l).com = L.com ∧
    (Live.shareOwn L l).mgr = L.mgr ∧
    (Live.shareOwn L l).lgc = L.lgc ∧
    (Live.shareOwn L l).upd = L.upd ∧
    (Live.shareOwn L l).jrn = L.jrn ∧
    (Live.shareOwn L l).dbg = L.dbg ∧
    (Live.shareOwn L l).ret = L.ret ∧
    (Live.shareOwn L l).obj = L.obj ∧
    (Live.shareOwn L l).blob = L.blob ∧
    (Live.shareOwn L l).out = L.out ∧
    (Live.shareOwn L l).free = L.free := by
  have h0 := @Live.shareStep_frame
  simp [Live.shareOwn, h0]

theorem Live.shareSample_frame (L : Live) :
    (Live.shareSample L).mode = L.mode ∧
    (Live.shareSample L).pins = L.pins ∧
    (Live.shareSample L).time = L.time ∧
    (Live.shareSample L).ks = L.ks ∧
    (Live.shareSample L).rcd = L.rcd ∧
    (Live.shareSample L).saf = L.saf ∧
    (Live.shareSample L).node = L.node ∧
    (Live.shareSample L).conv = L.conv ∧
    (Live.shareSample L).eng = L.eng ∧
    (Live.shareSample L).chi = L.chi ∧
    (Live.shareSample L).cap = L.cap ∧
    (Live.shareSample L).th = L.th ∧
    (Live.shareSample L).com = L.com ∧
    (Live.shareSample L).mgr = L.mgr ∧
    (Live.shareSample L).lgc = L.lgc ∧
    (Live.shareSample L).upd = L.upd ∧
    (Live.shareSample L).jrn = L.jrn ∧
    (Live.shareSample L).dbg = L.dbg ∧
    (Live.shareSample L).ret = L.ret ∧
    (Live.shareSample L).obj = L.obj ∧
    (Live.shareSample L).blob = L.blob ∧
    (Live.shareSample L).out = L.out ∧
    (Live.shareSample L).free = L.free := by
  have h0 := @Live.shareOwn_frame
  simp [Live.shareSample, h0]

theorem Live.sumHeat_frame (L : Live) :
    (Live.sumHeat L).mode = L.mode ∧
    (Live.sumHeat L).pins = L.pins ∧
    (Live.sumHeat L).time = L.time ∧
    (Live.sumHeat L).ks = L.ks ∧
    (Live.sumHeat L).rcd = L.rcd ∧
    (Live.sumHeat L).seg = L.seg ∧
    (Live.sumHeat L).node = L.node ∧
    (Live.sumHeat L).conv = L.conv ∧
    (Live.sumHeat L).twin = L.twin ∧
    (Live.sumHeat L).eng = L.eng ∧
    (Live.sumHeat L).chi = L.chi ∧
    (Live.sumHeat L).cap = L.cap ∧
    (Live.sumHeat L).est = L.est ∧
    (Live.sumHeat L).th = L.th ∧
    (Live.sumHeat L).com = L.com ∧
    (Live.sumHeat L).mgr = L.mgr ∧
    (Live.sumHeat L).lgc = L.lgc ∧
    (Live.sumHeat L).upd = L.upd ∧
    (Live.sumHeat L).jrn = L.jrn ∧
    (Live.sumHeat L).dbg = L.dbg ∧
    (Live.sumHeat L).ret = L.ret ∧
    (Live.sumHeat L).obj = L.obj ∧
    (Live.sumHeat L).blob = L.blob ∧
    (Live.sumHeat L).out = L.out ∧
    (Live.sumHeat L).free = L.free := by
  simp [Live.sumHeat]

theorem Live.countEnergy_frame (L : Live) :
    (Live.countEnergy L).mode = L.mode ∧
    (Live.countEnergy L).pins = L.pins ∧
    (Live.countEnergy L).time = L.time ∧
    (Live.countEnergy L).ks = L.ks ∧
    (Live.countEnergy L).rcd = L.rcd ∧
    (Live.countEnergy L).saf = L.saf ∧
    (Live.countEnergy L).seg = L.seg ∧
    (Live.countEnergy L).node = L.node ∧
    (Live.countEnergy L).twin = L.twin ∧
    (Live.countEnergy L).eng = L.eng ∧
    (Live.countEnergy L).chi = L.chi ∧
    (Live.countEnergy L).cap = L.cap ∧
    (Live.countEnergy L).est = L.est ∧
    (Live.countEnergy L).th = L.th ∧
    (Live.countEnergy L).com = L.com ∧
    (Live.countEnergy L).mgr = L.mgr ∧
    (Live.countEnergy L).lgc = L.lgc ∧
    (Live.countEnergy L).upd = L.upd ∧
    (Live.countEnergy L).jrn = L.jrn ∧
    (Live.countEnergy L).dbg = L.dbg ∧
    (Live.countEnergy L).ret = L.ret ∧
    (Live.countEnergy L).obj = L.obj ∧
    (Live.countEnergy L).blob = L.blob ∧
    (Live.countEnergy L).out = L.out ∧
    (Live.countEnergy L).free = L.free := by
  simp [Live.countEnergy]

theorem Live.modeChange_frame (L : Live) :
    (Live.modeChange L).1.mode = L.mode ∧
    (Live.modeChange L).1.pins = L.pins ∧
    (Live.modeChange L).1.time = L.time ∧
    (Live.modeChange L).1.ks = L.ks ∧
    (Live.modeChange L).1.saf = L.saf ∧
    (Live.modeChange L).1.seg = L.seg ∧
    (Live.modeChange L).1.node = L.node ∧
    (Live.modeChange L).1.twin = L.twin ∧
    (Live.modeChange L).1.eng = L.eng ∧
    (Live.modeChange L).1.chi = L.chi ∧
    (Live.modeChange L).1.est = L.est ∧
    (Live.modeChange L).1.th = L.th ∧
    (Live.modeChange L).1.mgr = L.mgr ∧
    (Live.modeChange L).1.lgc = L.lgc ∧
    (Live.modeChange L).1.upd = L.upd ∧
    (Live.modeChange L).1.jrn = L.jrn ∧
    (Live.modeChange L).1.ret = L.ret ∧
    (Live.modeChange L).1.obj = L.obj ∧
    (Live.modeChange L).1.blob = L.blob ∧
    (Live.modeChange L).1.out = L.out ∧
    (Live.modeChange L).1.free = L.free := by
  have h0 := @Live.convEv_frame
  simp [Live.modeChange, h0]

theorem Live.setCarries_frame (L : Live) (c : List Rat) :
    (Live.setCarries L c).mode = L.mode ∧
    (Live.setCarries L c).pins = L.pins ∧
    (Live.setCarries L c).time = L.time ∧
    (Live.setCarries L c).ks = L.ks ∧
    (Live.setCarries L c).rcd = L.rcd ∧
    (Live.setCarries L c).saf = L.saf ∧
    (Live.setCarries L c).seg = L.seg ∧
    (Live.setCarries L c).node = L.node ∧
    (Live.setCarries L c).twin = L.twin ∧
    (Live.setCarries L c).chi = L.chi ∧
    (Live.setCarries L c).cap = L.cap ∧
    (Live.setCarries L c).est = L.est ∧
    (Live.setCarries L c).th = L.th ∧
    (Live.setCarries L c).com = L.com ∧
    (Live.setCarries L c).mgr = L.mgr ∧
    (Live.setCarries L c).lgc = L.lgc ∧
    (Live.setCarries L c).upd = L.upd ∧
    (Live.setCarries L c).jrn = L.jrn ∧
    (Live.setCarries L c).dbg = L.dbg ∧
    (Live.setCarries L c).ret = L.ret ∧
    (Live.setCarries L c).obj = L.obj ∧
    (Live.setCarries L c).blob = L.blob ∧
    (Live.setCarries L c).out = L.out ∧
    (Live.setCarries L c).free = L.free := by
  simp [Live.setCarries]

theorem Live.rebase_frame (L : Live) :
    (Live.rebase L).mode = L.mode ∧
    (Live.rebase L).pins = L.pins ∧
    (Live.rebase L).time = L.time ∧
    (Live.rebase L).ks = L.ks ∧
    (Live.rebase L).rcd = L.rcd ∧
    (Live.rebase L).saf = L.saf ∧
    (Live.rebase L).seg = L.seg ∧
    (Live.rebase L).node = L.node ∧
    (Live.rebase L).twin = L.twin ∧
    (Live.rebase L).chi = L.chi ∧
    (Live.rebase L).cap = L.cap ∧
    (Live.rebase L).est = L.est ∧
    (Live.rebase L).th = L.th ∧
    (Live.rebase L).com = L.com ∧
    (Live.rebase L).mgr = L.mgr ∧
    (Live.rebase L).lgc = L.lgc ∧
    (Live.rebase L).upd = L.upd ∧
    (Live.rebase L).jrn = L.jrn ∧
    (Live.rebase L).dbg = L.dbg ∧
    (Live.rebase L).ret = L.ret ∧
    (Live.rebase L).obj = L.obj ∧
    (Live.rebase L).blob = L.blob ∧
    (Live.rebase L).out = L.out ∧
    (Live.rebase L).free = L.free := by
  have h0 := @Live.setCarries_frame
  simp only [Live.rebase]
  (repeat' split) <;> simp [h0]

theorem Live.headroomNow_frame (L : Live) :
    (Live.headroomNow L).mode = L.mode ∧
    (Live.headroomNow L).pins = L.pins ∧
    (Live.headroomNow L).time = L.time ∧
    (Live.headroomNow L).ks = L.ks ∧
    (Live.headroomNow L).saf = L.saf ∧
    (Live.headroomNow L).seg = L.seg ∧
    (Live.headroomNow L).node = L.node ∧
    (Live.headroomNow L).twin = L.twin ∧
    (Live.headroomNow L).eng = L.eng ∧
    (Live.headroomNow L).chi = L.chi ∧
    (Live.headroomNow L).est = L.est ∧
    (Live.headroomNow L).th = L.th ∧
    (Live.headroomNow L).mgr = L.mgr ∧
    (Live.headroomNow L).lgc = L.lgc ∧
    (Live.headroomNow L).upd = L.upd ∧
    (Live.headroomNow L).jrn = L.jrn ∧
    (Live.headroomNow L).ret = L.ret ∧
    (Live.headroomNow L).obj = L.obj ∧
    (Live.headroomNow L).blob = L.blob ∧
    (Live.headroomNow L).out = L.out ∧
    (Live.headroomNow L).free = L.free := by
  have h0 := @Live.convEv_frame
  simp [Live.headroomNow, h0]

theorem Live.shutLimit_frame (L : Live) :
    (Live.shutLimit L).mode = L.mode ∧
    (Live.shutLimit L).pins = L.pins ∧
    (Live.shutLimit L).time = L.time ∧
    (Live.shutLimit L).ks = L.ks ∧
    (Live.shutLimit L).rcd = L.rcd ∧
    (Live.shutLimit L).saf = L.saf ∧
    (Live.shutLimit L).seg = L.seg ∧
    (Live.shutLimit L).node = L.node ∧
    (Live.shutLimit L).twin = L.twin ∧
    (Live.shutLimit L).eng = L.eng ∧
    (Live.shutLimit L).chi = L.chi ∧
    (Live.shutLimit L).cap = L.cap ∧
    (Live.shutLimit L).est = L.est ∧
    (Live.shutLimit L).th = L.th ∧
    (Live.shutLimit L).com = L.com ∧
    (Live.shutLimit L).mgr = L.mgr ∧
    (Live.shutLimit L).lgc = L.lgc ∧
    (Live.shutLimit L).upd = L.upd ∧
    (Live.shutLimit L).jrn = L.jrn ∧
    (Live.shutLimit L).dbg = L.dbg ∧
    (Live.shutLimit L).ret = L.ret ∧
    (Live.shutLimit L).obj = L.obj ∧
    (Live.shutLimit L).blob = L.blob ∧
    (Live.shutLimit L).out = L.out ∧
    (Live.shutLimit L).free = L.free := by
  simp only [Live.shutLimit]
  (repeat' split) <;> simp

theorem Live.setLimits_frame (L : Live) :
    (Live.setLimits L).mode = L.mode ∧
    (Live.setLimits L).pins = L.pins ∧
    (Live.setLimits L).time = L.time ∧
    (Live.setLimits L).ks = L.ks ∧
    (Live.setLimits L).rcd = L.rcd ∧
    (Live.setLimits L).saf = L.saf ∧
    (Live.setLimits L).seg = L.seg ∧
    (Live.setLimits L).node = L.node ∧
    (Live.setLimits L).twin = L.twin ∧
    (Live.setLimits L).eng = L.eng ∧
    (Live.setLimits L).chi = L.chi ∧
    (Live.setLimits L).cap = L.cap ∧
    (Live.setLimits L).est = L.est ∧
    (Live.setLimits L).th = L.th ∧
    (Live.setLimits L).com = L.com ∧
    (Live.setLimits L).mgr = L.mgr ∧
    (Live.setLimits L).lgc = L.lgc ∧
    (Live.setLimits L).upd = L.upd ∧
    (Live.setLimits L).jrn = L.jrn ∧
    (Live.setLimits L).dbg = L.dbg ∧
    (Live.setLimits L).ret = L.ret ∧
    (Live.setLimits L).obj = L.obj ∧
    (Live.setLimits L).blob = L.blob ∧
    (Live.setLimits L).out = L.out ∧
    (Live.setLimits L).free = L.free := by
  simp [Live.setLimits]

theorem Live.limitEvents_frame (L : Live) :
    (Live.limitEvents L).mode = L.mode ∧
    (Live.limitEvents L).pins = L.pins ∧
    (Live.limitEvents L).time = L.time ∧
    (Live.limitEvents L).ks = L.ks ∧
    (Live.limitEvents L).saf = L.saf ∧
    (Live.limitEvents L).seg = L.seg ∧
    (Live.limitEvents L).node = L.node ∧
    (Live.limitEvents L).twin = L.twin ∧
    (Live.limitEvents L).eng = L.eng ∧
    (Live.limitEvents L).chi = L.chi ∧
    (Live.limitEvents L).est = L.est ∧
    (Live.limitEvents L).th = L.th ∧
    (Live.limitEvents L).mgr = L.mgr ∧
    (Live.limitEvents L).lgc = L.lgc ∧
    (Live.limitEvents L).upd = L.upd ∧
    (Live.limitEvents L).jrn = L.jrn ∧
    (Live.limitEvents L).ret = L.ret ∧
    (Live.limitEvents L).obj = L.obj ∧
    (Live.limitEvents L).blob = L.blob ∧
    (Live.limitEvents L).out = L.out ∧
    (Live.limitEvents L).free = L.free := by
  have h0 := @Live.convEv_frame
  simp [Live.limitEvents, h0]

theorem Live.rampStep_frame (L : Live) :
    (Live.rampStep L).mode = L.mode ∧
    (Live.rampStep L).pins = L.pins ∧
    (Live.rampStep L).time = L.time ∧
    (Live.rampStep L).ks = L.ks ∧
    (Live.rampStep L).rcd = L.rcd ∧
    (Live.rampStep L).saf = L.saf ∧
    (Live.rampStep L).seg = L.seg ∧
    (Live.rampStep L).node = L.node ∧
    (Live.rampStep L).twin = L.twin ∧
    (Live.rampStep L).eng = L.eng ∧
    (Live.rampStep L).chi = L.chi ∧
    (Live.rampStep L).cap = L.cap ∧
    (Live.rampStep L).est = L.est ∧
    (Live.rampStep L).th = L.th ∧
    (Live.rampStep L).com = L.com ∧
    (Live.rampStep L).mgr = L.mgr ∧
    (Live.rampStep L).lgc = L.lgc ∧
    (Live.rampStep L).upd = L.upd ∧
    (Live.rampStep L).jrn = L.jrn ∧
    (Live.rampStep L).dbg = L.dbg ∧
    (Live.rampStep L).ret = L.ret ∧
    (Live.rampStep L).obj = L.obj ∧
    (Live.rampStep L).blob = L.blob ∧
    (Live.rampStep L).out = L.out ∧
    (Live.rampStep L).free = L.free := by
  simp [Live.rampStep]

theorem Live.softStart_frame (L : Live) :
    (Live.softStart L).mode = L.mode ∧
    (Live.softStart L).pins = L.pins ∧
    (Live.softStart L).time = L.time ∧
    (Live.softStart L).ks = L.ks ∧
    (Live.softStart L).rcd = L.rcd ∧
    (Live.softStart L).saf = L.saf ∧
    (Live.softStart L).seg = L.seg ∧
    (Live.softStart L).node = L.node ∧
    (Live.softStart L).twin = L.twin ∧
    (Live.softStart L).eng = L.eng ∧
    (Live.softStart L).chi = L.chi ∧
    (Live.softStart L).cap = L.cap ∧
    (Live.softStart L).est = L.est ∧
    (Live.softStart L).th = L.th ∧
    (Live.softStart L).com = L.com ∧
    (Live.softStart L).mgr = L.mgr ∧
    (Live.softStart L).lgc = L.lgc ∧
    (Live.softStart L).upd = L.upd ∧
    (Live.softStart L).jrn = L.jrn ∧
    (Live.softStart L).dbg = L.dbg ∧
    (Live.softStart L).ret = L.ret ∧
    (Live.softStart L).obj = L.obj ∧
    (Live.softStart L).blob = L.blob ∧
    (Live.softStart L).out = L.out ∧
    (Live.softStart L).free = L.free := by
  simp [Live.softStart]

theorem Live.busWatch_frame (L : Live) :
    (Live.busWatch L).mode = L.mode ∧
    (Live.busWatch L).pins = L.pins ∧
    (Live.busWatch L).time = L.time ∧
    (Live.busWatch L).ks = L.ks ∧
    (Live.busWatch L).rcd = L.rcd ∧
    (Live.busWatch L).saf = L.saf ∧
    (Live.busWatch L).seg = L.seg ∧
    (Live.busWatch L).node = L.node ∧
    (Live.busWatch L).twin = L.twin ∧
    (Live.busWatch L).eng = L.eng ∧
    (Live.busWatch L).chi = L.chi ∧
    (Live.busWatch L).cap = L.cap ∧
    (Live.busWatch L).est = L.est ∧
    (Live.busWatch L).th = L.th ∧
    (Live.busWatch L).com = L.com ∧
    (Live.busWatch L).mgr = L.mgr ∧
    (Live.busWatch L).lgc = L.lgc ∧
    (Live.busWatch L).upd = L.upd ∧
    (Live.busWatch L).jrn = L.jrn ∧
    (Live.busWatch L).dbg = L.dbg ∧
    (Live.busWatch L).ret = L.ret ∧
    (Live.busWatch L).obj = L.obj ∧
    (Live.busWatch L).blob = L.blob ∧
    (Live.busWatch L).out = L.out ∧
    (Live.busWatch L).free = L.free := by
  simp [Live.busWatch]

theorem Live.overflows_frame (L : Live) :
    (Live.overflows L).mode = L.mode ∧
    (Live.overflows L).pins = L.pins ∧
    (Live.overflows L).time = L.time ∧
    (Live.overflows L).ks = L.ks ∧
    (Live.overflows L).saf = L.saf ∧
    (Live.overflows L).seg = L.seg ∧
    (Live.overflows L).node = L.node ∧
    (Live.overflows L).conv = L.conv ∧
    (Live.overflows L).twin = L.twin ∧
    (Live.overflows L).chi = L.chi ∧
    (Live.overflows L).est = L.est ∧
    (Live.overflows L).th = L.th ∧
    (Live.overflows L).mgr = L.mgr ∧
    (Live.overflows L).lgc = L.lgc ∧
    (Live.overflows L).upd = L.upd ∧
    (Live.overflows L).jrn = L.jrn ∧
    (Live.overflows L).ret = L.ret ∧
    (Live.overflows L).blob = L.blob ∧
    (Live.overflows L).out = L.out ∧
    (Live.overflows L).free = L.free := by
  simp only [Live.overflows]
  (repeat' split) <;> simp

theorem Live.runEngine_frame (L : Live) (x : SampleIn) :
    (Live.runEngine L x).time = L.time ∧
    (Live.runEngine L x).ks = L.ks ∧
    (Live.runEngine L x).seg = L.seg ∧
    (Live.runEngine L x).node = L.node ∧
    (Live.runEngine L x).est = L.est ∧
    (Live.runEngine L x).th = L.th ∧
    (Live.runEngine L x).mgr = L.mgr ∧
    (Live.runEngine L x).lgc = L.lgc ∧
    (Live.runEngine L x).jrn = L.jrn ∧
    (Live.runEngine L x).ret = L.ret ∧
    (Live.runEngine L x).blob = L.blob ∧
    (Live.runEngine L x).free = L.free := by
  have h0 := @Live.sf12_frame
  have h1 := @Live.overflows_frame
  simp [Live.runEngine, h0, h1]

theorem Live.residual_frame (L : Live) (n : Nat) (r warn fault : Rat) :
    (Live.residual L n r warn fault).time = L.time ∧
    (Live.residual L n r warn fault).ks = L.ks ∧
    (Live.residual L n r warn fault).seg = L.seg ∧
    (Live.residual L n r warn fault).node = L.node ∧
    (Live.residual L n r warn fault).est = L.est ∧
    (Live.residual L n r warn fault).th = L.th ∧
    (Live.residual L n r warn fault).mgr = L.mgr ∧
    (Live.residual L n r warn fault).lgc = L.lgc ∧
    (Live.residual L n r warn fault).jrn = L.jrn ∧
    (Live.residual L n r warn fault).ret = L.ret ∧
    (Live.residual L n r warn fault).blob = L.blob ∧
    (Live.residual L n r warn fault).free = L.free := by
  have h0 := @Live.trip_frame
  simp [Live.residual, h0]

theorem Live.plumb_frame (L : Live) :
    (Live.plumb L).time = L.time ∧
    (Live.plumb L).ks = L.ks ∧
    (Live.plumb L).seg = L.seg ∧
    (Live.plumb L).node = L.node ∧
    (Live.plumb L).est = L.est ∧
    (Live.plumb L).th = L.th ∧
    (Live.plumb L).mgr = L.mgr ∧
    (Live.plumb L).lgc = L.lgc ∧
    (Live.plumb L).jrn = L.jrn ∧
    (Live.plumb L).ret = L.ret ∧
    (Live.plumb L).blob = L.blob ∧
    (Live.plumb L).free = L.free := by
  have h0 := @Live.residual_frame
  simp [Live.plumb, h0]

theorem Live.tellEst_frame (L : Live) :
    (Live.tellEst L).mode = L.mode ∧
    (Live.tellEst L).pins = L.pins ∧
    (Live.tellEst L).time = L.time ∧
    (Live.tellEst L).ks = L.ks ∧
    (Live.tellEst L).rcd = L.rcd ∧
    (Live.tellEst L).saf = L.saf ∧
    (Live.tellEst L).seg = L.seg ∧
    (Live.tellEst L).node = L.node ∧
    (Live.tellEst L).conv = L.conv ∧
    (Live.tellEst L).twin = L.twin ∧
    (Live.tellEst L).eng = L.eng ∧
    (Live.tellEst L).chi = L.chi ∧
    (Live.tellEst L).cap = L.cap ∧
    (Live.tellEst L).th = L.th ∧
    (Live.tellEst L).com = L.com ∧
    (Live.tellEst L).mgr = L.mgr ∧
    (Live.tellEst L).lgc = L.lgc ∧
    (Live.tellEst L).upd = L.upd ∧
    (Live.tellEst L).jrn = L.jrn ∧
    (Live.tellEst L).dbg = L.dbg ∧
    (Live.tellEst L).ret = L.ret ∧
    (Live.tellEst L).obj = L.obj ∧
    (Live.tellEst L).blob = L.blob ∧
    (Live.tellEst L).out = L.out ∧
    (Live.tellEst L).free = L.free := by
  simp [Live.tellEst]

theorem Live.segCommand_frame (L : Live) (s : Nat) :
    (Live.segCommand L s).time = L.time ∧
    (Live.segCommand L s).ks = L.ks ∧
    (Live.segCommand L s).node = L.node ∧
    (Live.segCommand L s).eng = L.eng ∧
    (Live.segCommand L s).est = L.est ∧
    (Live.segCommand L s).th = L.th ∧
    (Live.segCommand L s).mgr = L.mgr ∧
    (Live.segCommand L s).lgc = L.lgc ∧
    (Live.segCommand L s).ret = L.ret ∧
    (Live.segCommand L s).blob = L.blob ∧
    (Live.segCommand L s).free = L.free := by
  have h0 := @Live.modSeg_frame
  have h1 := @Live.rejoin_frame
  have h2 := @Live.leave_frame
  simp only [Live.segCommand]
  (repeat' split) <;> simp [h0, h1, h2]

theorem Live.resting_frame (L : Live) (s : Nat) :
    (Live.resting L s).time = L.time ∧
    (Live.resting L s).ks = L.ks ∧
    (Live.resting L s).node = L.node ∧
    (Live.resting L s).eng = L.eng ∧
    (Live.resting L s).est = L.est ∧
    (Live.resting L s).th = L.th ∧
    (Live.resting L s).mgr = L.mgr ∧
    (Live.resting L s).lgc = L.lgc ∧
    (Live.resting L s).ret = L.ret ∧
    (Live.resting L s).blob = L.blob ∧
    (Live.resting L s).free = L.free := by
  have h0 := @Live.leave_frame
  have h1 := @Live.rejoin_frame
  simp [Live.resting, h0, h1]

theorem Live.carrierBoundary_frame (L : Live) :
    (Live.carrierBoundary L).time = L.time ∧
    (Live.carrierBoundary L).ks = L.ks ∧
    (Live.carrierBoundary L).node = L.node ∧
    (Live.carrierBoundary L).eng = L.eng ∧
    (Live.carrierBoundary L).est = L.est ∧
    (Live.carrierBoundary L).th = L.th ∧
    (Live.carrierBoundary L).mgr = L.mgr ∧
    (Live.carrierBoundary L).lgc = L.lgc ∧
    (Live.carrierBoundary L).ret = L.ret ∧
    (Live.carrierBoundary L).blob = L.blob ∧
    (Live.carrierBoundary L).free = L.free := by
  have h0 := @Live.resting_frame
  have h1 := @Live.segCommand_frame
  have h2 := @Live.arrange_frame
  simp [Live.carrierBoundary, h0, h1, h2]

theorem Live.release_frame (L : Live) :
    (Live.release L).time = L.time ∧
    (Live.release L).ks = L.ks ∧
    (Live.release L).node = L.node ∧
    (Live.release L).eng = L.eng ∧
    (Live.release L).est = L.est ∧
    (Live.release L).th = L.th ∧
    (Live.release L).mgr = L.mgr ∧
    (Live.release L).lgc = L.lgc ∧
    (Live.release L).ret = L.ret ∧
    (Live.release L).blob = L.blob ∧
    (Live.release L).free = L.free := by
  have h0 := @Live.carrierBoundary_frame
  simp [Live.release, h0]

theorem Live.releaseOld_frame (L : Live) :
    (Live.releaseOld L).mode = L.mode ∧
    (Live.releaseOld L).pins = L.pins ∧
    (Live.releaseOld L).time = L.time ∧
    (Live.releaseOld L).ks = L.ks ∧
    (Live.releaseOld L).rcd = L.rcd ∧
    (Live.releaseOld L).saf = L.saf ∧
    (Live.releaseOld L).node = L.node ∧
    (Live.releaseOld L).twin = L.twin ∧
    (Live.releaseOld L).eng = L.eng ∧
    (Live.releaseOld L).chi = L.chi ∧
    (Live.releaseOld L).cap = L.cap ∧
    (Live.releaseOld L).est = L.est ∧
    (Live.releaseOld L).th = L.th ∧
    (Live.releaseOld L).com = L.com ∧
    (Live.releaseOld L).mgr = L.mgr ∧
    (Live.releaseOld L).lgc = L.lgc ∧
    (Live.releaseOld L).upd = L.upd ∧
    (Live.releaseOld L).jrn = L.jrn ∧
    (Live.releaseOld L).dbg = L.dbg ∧
    (Live.releaseOld L).ret = L.ret ∧
    (Live.releaseOld L).obj = L.obj ∧
    (Live.releaseOld L).blob = L.blob ∧
    (Live.releaseOld L).out = L.out ∧
    (Live.releaseOld L).free = L.free := by
  simp [Live.releaseOld]

theorem Live.seqSample_frame (L : Live) :
    (Live.seqSample L).time = L.time ∧
    (Live.seqSample L).ks = L.ks ∧
    (Live.seqSample L).seg = L.seg ∧
    (Live.seqSample L).node = L.node ∧
    (Live.seqSample L).twin = L.twin ∧
    (Live.seqSample L).eng = L.eng ∧
    (Live.seqSample L).est = L.est ∧
    (Live.seqSample L).th = L.th ∧
    (Live.seqSample L).mgr = L.mgr ∧
    (Live.seqSample L).lgc = L.lgc ∧
    (Live.seqSample L).upd = L.upd ∧
    (Live.seqSample L).jrn = L.jrn ∧
    (Live.seqSample L).ret = L.ret ∧
    (Live.seqSample L).blob = L.blob ∧
    (Live.seqSample L).out = L.out ∧
    (Live.seqSample L).free = L.free := by
  have h0 := @Live.seqOn_frame
  have h1 := @Live.toStep2_frame
  simp only [Live.seqSample]
  (repeat' split) <;> simp [h0, h1]

theorem Live.sampleIn_frame (L : Live) (x : SampleIn) :
    (Live.sampleIn L x).time = L.time ∧
    (Live.sampleIn L x).node = L.node ∧
    (Live.sampleIn L x).th = L.th ∧
    (Live.sampleIn L x).mgr = L.mgr ∧
    (Live.sampleIn L x).lgc = L.lgc ∧
    (Live.sampleIn L x).jrn = L.jrn ∧
    (Live.sampleIn L x).ret = L.ret ∧
    (Live.sampleIn L x).blob = L.blob ∧
    (Live.sampleIn L x).free = L.free := by
  have h0 := @Live.countEnergy_frame
  have h1 := @Live.sumHeat_frame
  have h2 := @Live.shareSample_frame
  have h3 := @Live.quiet_frame
  have h4 := @Live.settleX_frame
  have h5 := @Live.sourceEvent_frame
  have h6 := @Live.setDir_frame
  have h7 := @Live.endFrame_frame
  have h8 := @Live.measure_frame
  have h9 := @Live.rebase_frame
  have h10 := @Live.capCommands_frame
  have h11 := @Live.takeCommit_frame
  have h12 := @Live.crossing_frame
  simp [Live.sampleIn, h0, h1, h2, h3, h4, h5, h6, h7, h8, h9, h10, h11, h12]

theorem Live.sampleRamp_frame (L : Live) :
    (Live.sampleRamp L).mode = L.mode ∧
    (Live.sampleRamp L).pins = L.pins ∧
    (Live.sampleRamp L).time = L.time ∧
    (Live.sampleRamp L).ks = L.ks ∧
    (Live.sampleRamp L).saf = L.saf ∧
    (Live.sampleRamp L).seg = L.seg ∧
    (Live.sampleRamp L).node = L.node ∧
    (Live.sampleRamp L).twin = L.twin ∧
    (Live.sampleRamp L).eng = L.eng ∧
    (Live.sampleRamp L).chi = L.chi ∧
    (Live.sampleRamp L).est = L.est ∧
    (Live.sampleRamp L).th = L.th ∧
    (Live.sampleRamp L).mgr = L.mgr ∧
    (Live.sampleRamp L).lgc = L.lgc ∧
    (Live.sampleRamp L).upd = L.upd ∧
    (Live.sampleRamp L).jrn = L.jrn ∧
    (Live.sampleRamp L).ret = L.ret ∧
    (Live.sampleRamp L).obj = L.obj ∧
    (Live.sampleRamp L).blob = L.blob ∧
    (Live.sampleRamp L).out = L.out ∧
    (Live.sampleRamp L).free = L.free := by
  have h0 := @Live.busWatch_frame
  have h1 := @Live.softStart_frame
  have h2 := @Live.rampStep_frame
  have h3 := @Live.limitEvents_frame
  have h4 := @Live.setLimits_frame
  have h5 := @Live.shutLimit_frame
  have h6 := @Live.headroomNow_frame
  have h7 := @Live.modeChange_frame
  simp [Live.sampleRamp, h0, h1, h2, h3, h4, h5, h6, h7]

theorem Live.sampleEngine_frame (L : Live) (x : SampleIn) :
    (Live.sampleEngine L x).time = L.time ∧
    (Live.sampleEngine L x).ks = L.ks ∧
    (Live.sampleEngine L x).seg = L.seg ∧
    (Live.sampleEngine L x).node = L.node ∧
    (Live.sampleEngine L x).th = L.th ∧
    (Live.sampleEngine L x).mgr = L.mgr ∧
    (Live.sampleEngine L x).lgc = L.lgc ∧
    (Live.sampleEngine L x).jrn = L.jrn ∧
    (Live.sampleEngine L x).ret = L.ret ∧
    (Live.sampleEngine L x).blob = L.blob ∧
    (Live.sampleEngine L x).free = L.free := by
  have h0 := @Live.tellEst_frame
  have h1 := @Live.runEngine_frame
  have h2 := @Live.chiselSignal_frame
  have h3 := @Live.chiselBegin_frame
  have h4 := @Live.plumb_frame
  simp [Live.sampleEngine, h0, h1, h2, h3, h4]

theorem Live.sampleOut_frame (snap L : Live) (c₀ : List Rat) (chiselNow : Bool) :
    (Live.sampleOut snap L c₀ chiselNow).time = L.time ∧
    (Live.sampleOut snap L c₀ chiselNow).ks = L.ks ∧
    (Live.sampleOut snap L c₀ chiselNow).seg = L.seg ∧
    (Live.sampleOut snap L c₀ chiselNow).node = L.node ∧
    (Live.sampleOut snap L c₀ chiselNow).eng = L.eng ∧
    (Live.sampleOut snap L c₀ chiselNow).est = L.est ∧
    (Live.sampleOut snap L c₀ chiselNow).th = L.th ∧
    (Live.sampleOut snap L c₀ chiselNow).mgr = L.mgr ∧
    (Live.sampleOut snap L c₀ chiselNow).lgc = L.lgc ∧
    (Live.sampleOut snap L c₀ chiselNow).upd = L.upd ∧
    (Live.sampleOut snap L c₀ chiselNow).jrn = L.jrn ∧
    (Live.sampleOut snap L c₀ chiselNow).ret = L.ret ∧
    (Live.sampleOut snap L c₀ chiselNow).blob = L.blob ∧
    (Live.sampleOut snap L c₀ chiselNow).out = L.out ∧
    (Live.sampleOut snap L c₀ chiselNow).free = L.free := by
  have h0 := @Live.seqSample_frame
  have h1 := @Live.derate_frame
  have h2 := @Live.capture_frame
  simp [Live.sampleOut, h0, h1, h2]

theorem Live.sample_frame (snap L : Live) (x : SampleIn) :
    (Live.sample snap L x).time = L.time ∧
    (Live.sample snap L x).node = L.node ∧
    (Live.sample snap L x).th = L.th ∧
    (Live.sample snap L x).mgr = L.mgr ∧
    (Live.sample snap L x).lgc = L.lgc ∧
    (Live.sample snap L x).ret = L.ret ∧
    (Live.sample snap L x).blob = L.blob ∧
    (Live.sample snap L x).free = L.free := by
  have h0 := @Live.releaseOld_frame
  have h1 := @Live.sampleOut_frame
  have h2 := @Live.sampleEngine_frame
  have h3 := @Live.sampleRamp_frame
  have h4 := @Live.sampleIn_frame
  have h5 := @Live.release_frame
  simp [Live.sample, h0, h1, h2, h3, h4, h5]

theorem Live.heatDecay_frame (L : Live) :
    (Live.heatDecay L).mode = L.mode ∧
    (Live.heatDecay L).pins = L.pins ∧
    (Live.heatDecay L).time = L.time ∧
    (Live.heatDecay L).ks = L.ks ∧
    (Live.heatDecay L).rcd = L.rcd ∧
    (Live.heatDecay L).saf = L.saf ∧
    (Live.heatDecay L).node = L.node ∧
    (Live.heatDecay L).conv = L.conv ∧
    (Live.heatDecay L).twin = L.twin ∧
    (Live.heatDecay L).eng = L.eng ∧
    (Live.heatDecay L).chi = L.chi ∧
    (Live.heatDecay L).cap = L.cap ∧
    (Live.heatDecay L).est = L.est ∧
    (Live.heatDecay L).th = L.th ∧
    (Live.heatDecay L).com = L.com ∧
    (Live.heatDecay L).mgr = L.mgr ∧
    (Live.heatDecay L).lgc = L.lgc ∧
    (Live.heatDecay L).upd = L.upd ∧
    (Live.heatDecay L).jrn = L.jrn ∧
    (Live.heatDecay L).dbg = L.dbg ∧
    (Live.heatDecay L).ret = L.ret ∧
    (Live.heatDecay L).obj = L.obj ∧
    (Live.heatDecay L).blob = L.blob ∧
    (Live.heatDecay L).out = L.out ∧
    (Live.heatDecay L).free = L.free := by
  simp [Live.heatDecay]

theorem Live.applyStep_frame (L : Live) :
    (Live.applyStep L).mode = L.mode ∧
    (Live.applyStep L).pins = L.pins ∧
    (Live.applyStep L).saf = L.saf ∧
    (Live.applyStep L).node = L.node ∧
    (Live.applyStep L).conv = L.conv ∧
    (Live.applyStep L).twin = L.twin ∧
    (Live.applyStep L).eng = L.eng ∧
    (Live.applyStep L).chi = L.chi ∧
    (Live.applyStep L).est = L.est ∧
    (Live.applyStep L).th = L.th ∧
    (Live.applyStep L).mgr = L.mgr ∧
    (Live.applyStep L).lgc = L.lgc ∧
    (Live.applyStep L).jrn = L.jrn ∧
    (Live.applyStep L).ret = L.ret ∧
    (Live.applyStep L).blob = L.blob ∧
    (Live.applyStep L).out = L.out ∧
    (Live.applyStep L).free = L.free := by
  have h0 := @Live.heatDecay_frame
  simp [Live.applyStep, h0]

end Sys2Proof.Machine
end

