-- ==== Sys2Proof/Laws/FrameNode.lean ====
section
/-! SUPPORT. What each operation of Machine/Node.lean leaves as it is. -/

namespace Sys2Proof.Machine

open Sys2Proof

theorem Live.modNode_frame (L : Live) (k : Nat) (f : Node → Node) :
    (Live.modNode L k f).mode = L.mode ∧
    (Live.modNode L k f).pins = L.pins ∧
    (Live.modNode L k f).time = L.time ∧
    (Live.modNode L k f).ks = L.ks ∧
    (Live.modNode L k f).rcd = L.rcd ∧
    (Live.modNode L k f).saf = L.saf ∧
    (Live.modNode L k f).seg = L.seg ∧
    (Live.modNode L k f).conv = L.conv ∧
    (Live.modNode L k f).twin = L.twin ∧
    (Live.modNode L k f).eng = L.eng ∧
    (Live.modNode L k f).chi = L.chi ∧
    (Live.modNode L k f).cap = L.cap ∧
    (Live.modNode L k f).est = L.est ∧
    (Live.modNode L k f).th = L.th ∧
    (Live.modNode L k f).com = L.com ∧
    (Live.modNode L k f).mgr = L.mgr ∧
    (Live.modNode L k f).lgc = L.lgc ∧
    (Live.modNode L k f).upd = L.upd ∧
    (Live.modNode L k f).jrn = L.jrn ∧
    (Live.modNode L k f).dbg = L.dbg ∧
    (Live.modNode L k f).ret = L.ret ∧
    (Live.modNode L k f).obj = L.obj ∧
    (Live.modNode L k f).blob = L.blob ∧
    (Live.modNode L k f).out = L.out ∧
    (Live.modNode L k f).free = L.free := by
  simp [Live.modNode]

theorem Live.nodeFrame_frame (L : Live) (k : Nat) (inBound : Bool) :
    (Live.nodeFrame L k inBound).mode = L.mode ∧
    (Live.nodeFrame L k inBound).pins = L.pins ∧
    (Live.nodeFrame L k inBound).time = L.time ∧
    (Live.nodeFrame L k inBound).ks = L.ks ∧
    (Live.nodeFrame L k inBound).rcd = L.rcd ∧
    (Live.nodeFrame L k inBound).saf = L.saf ∧
    (Live.nodeFrame L k inBound).seg = L.seg ∧
    (Live.nodeFrame L k inBound).conv = L.conv ∧
    (Live.nodeFrame L k inBound).twin = L.twin ∧
    (Live.nodeFrame L k inBound).eng = L.eng ∧
    (Live.nodeFrame L k inBound).chi = L.chi ∧
    (Live.nodeFrame L k inBound).cap = L.cap ∧
    (Live.nodeFrame L k inBound).est = L.est ∧
    (Live.nodeFrame L k inBound).th = L.th ∧
    (Live.nodeFrame L k inBound).com = L.com ∧
    (Live.nodeFrame L k inBound).mgr = L.mgr ∧
    (Live.nodeFrame L k inBound).lgc = L.lgc ∧
    (Live.nodeFrame L k inBound).upd = L.upd ∧
    (Live.nodeFrame L k inBound).jrn = L.jrn ∧
    (Live.nodeFrame L k inBound).dbg = L.dbg ∧
    (Live.nodeFrame L k inBound).ret = L.ret ∧
    (Live.nodeFrame L k inBound).obj = L.obj ∧
    (Live.nodeFrame L k inBound).blob = L.blob := by
  have h0 := @Live.modNode_frame
  simp [Live.nodeFrame, h0]

end Sys2Proof.Machine
end

