-- ==== Sys2Proof/Laws/FrameTherm.lean ====
section
/-! SUPPORT. What each operation of Machine/Therm.lean leaves as it is. -/

namespace Sys2Proof.Machine

open Sys2Proof

theorem Live.modSens_frame (L : Live) (s j : Nat) (f : Sens → Sens) :
    (Live.modSens L s j f).mode = L.mode ∧
    (Live.modSens L s j f).pins = L.pins ∧
    (Live.modSens L s j f).time = L.time ∧
    (Live.modSens L s j f).ks = L.ks ∧
    (Live.modSens L s j f).rcd = L.rcd ∧
    (Live.modSens L s j f).saf = L.saf ∧
    (Live.modSens L s j f).seg = L.seg ∧
    (Live.modSens L s j f).node = L.node ∧
    (Live.modSens L s j f).conv = L.conv ∧
    (Live.modSens L s j f).twin = L.twin ∧
    (Live.modSens L s j f).eng = L.eng ∧
    (Live.modSens L s j f).chi = L.chi ∧
    (Live.modSens L s j f).cap = L.cap ∧
    (Live.modSens L s j f).est = L.est ∧
    (Live.modSens L s j f).com = L.com ∧
    (Live.modSens L s j f).mgr = L.mgr ∧
    (Live.modSens L s j f).lgc = L.lgc ∧
    (Live.modSens L s j f).upd = L.upd ∧
    (Live.modSens L s j f).jrn = L.jrn ∧
    (Live.modSens L s j f).dbg = L.dbg ∧
    (Live.modSens L s j f).ret = L.ret ∧
    (Live.modSens L s j f).obj = L.obj ∧
    (Live.modSens L s j f).blob = L.blob ∧
    (Live.modSens L s j f).out = L.out ∧
    (Live.modSens L s j f).free = L.free := by
  simp [Live.modSens]

theorem Live.sensEv_frame (L : Live) (s j : Nat) (e : Nat × Nat × Nat) (x : Sens) (med : Option Rat) :
    (Live.sensEv L s j e x med).mode = L.mode ∧
    (Live.sensEv L s j e x med).pins = L.pins ∧
    (Live.sensEv L s j e x med).time = L.time ∧
    (Live.sensEv L s j e x med).ks = L.ks ∧
    (Live.sensEv L s j e x med).saf = L.saf ∧
    (Live.sensEv L s j e x med).seg = L.seg ∧
    (Live.sensEv L s j e x med).node = L.node ∧
    (Live.sensEv L s j e x med).conv = L.conv ∧
    (Live.sensEv L s j e x med).twin = L.twin ∧
    (Live.sensEv L s j e x med).eng = L.eng ∧
    (Live.sensEv L s j e x med).chi = L.chi ∧
    (Live.sensEv L s j e x med).est = L.est ∧
    (Live.sensEv L s j e x med).th = L.th ∧
    (Live.sensEv L s j e x med).mgr = L.mgr ∧
    (Live.sensEv L s j e x med).lgc = L.lgc ∧
    (Live.sensEv L s j e x med).upd = L.upd ∧
    (Live.sensEv L s j e x med).jrn = L.jrn ∧
    (Live.sensEv L s j e x med).ret = L.ret ∧
    (Live.sensEv L s j e x med).obj = L.obj ∧
    (Live.sensEv L s j e x med).blob = L.blob ∧
    (Live.sensEv L s j e x med).out = L.out ∧
    (Live.sensEv L s j e x med).free = L.free := by
  simp [Live.sensEv]

theorem Live.thermNodes_frame (L : Live) :
    (Live.thermNodes L).mode = L.mode ∧
    (Live.thermNodes L).pins = L.pins ∧
    (Live.thermNodes L).time = L.time ∧
    (Live.thermNodes L).ks = L.ks ∧
    (Live.thermNodes L).saf = L.saf ∧
    (Live.thermNodes L).seg = L.seg ∧
    (Live.thermNodes L).node = L.node ∧
    (Live.thermNodes L).conv = L.conv ∧
    (Live.thermNodes L).twin = L.twin ∧
    (Live.thermNodes L).eng = L.eng ∧
    (Live.thermNodes L).chi = L.chi ∧
    (Live.thermNodes L).est = L.est ∧
    (Live.thermNodes L).mgr = L.mgr ∧
    (Live.thermNodes L).lgc = L.lgc ∧
    (Live.thermNodes L).upd = L.upd ∧
    (Live.thermNodes L).jrn = L.jrn ∧
    (Live.thermNodes L).ret = L.ret ∧
    (Live.thermNodes L).obj = L.obj ∧
    (Live.thermNodes L).blob = L.blob ∧
    (Live.thermNodes L).out = L.out ∧
    (Live.thermNodes L).free = L.free := by
  have h0 := @Live.sensEv_frame
  simp [Live.thermNodes, h0]

theorem Live.overTemp_frame (L : Live) :
    (Live.overTemp L).time = L.time ∧
    (Live.overTemp L).ks = L.ks ∧
    (Live.overTemp L).seg = L.seg ∧
    (Live.overTemp L).node = L.node ∧
    (Live.overTemp L).eng = L.eng ∧
    (Live.overTemp L).est = L.est ∧
    (Live.overTemp L).mgr = L.mgr ∧
    (Live.overTemp L).lgc = L.lgc ∧
    (Live.overTemp L).jrn = L.jrn ∧
    (Live.overTemp L).ret = L.ret ∧
    (Live.overTemp L).blob = L.blob ∧
    (Live.overTemp L).free = L.free := by
  have h0 := @Live.trip_frame
  simp [Live.overTemp, h0]

theorem Live.thermEffects_frame (L : Live) :
    (Live.thermEffects L).time = L.time ∧
    (Live.thermEffects L).node = L.node ∧
    (Live.thermEffects L).eng = L.eng ∧
    (Live.thermEffects L).est = L.est ∧
    (Live.thermEffects L).mgr = L.mgr ∧
    (Live.thermEffects L).lgc = L.lgc ∧
    (Live.thermEffects L).ret = L.ret ∧
    (Live.thermEffects L).blob = L.blob ∧
    (Live.thermEffects L).free = L.free := by
  have h0 := @Live.unplanned_frame
  simp [Live.thermEffects, h0]

theorem Live.thermFactor_frame (L : Live) :
    (Live.thermFactor L).mode = L.mode ∧
    (Live.thermFactor L).pins = L.pins ∧
    (Live.thermFactor L).time = L.time ∧
    (Live.thermFactor L).ks = L.ks ∧
    (Live.thermFactor L).rcd = L.rcd ∧
    (Live.thermFactor L).saf = L.saf ∧
    (Live.thermFactor L).seg = L.seg ∧
    (Live.thermFactor L).node = L.node ∧
    (Live.thermFactor L).conv = L.conv ∧
    (Live.thermFactor L).twin = L.twin ∧
    (Live.thermFactor L).eng = L.eng ∧
    (Live.thermFactor L).chi = L.chi ∧
    (Live.thermFactor L).cap = L.cap ∧
    (Live.thermFactor L).est = L.est ∧
    (Live.thermFactor L).com = L.com ∧
    (Live.thermFactor L).mgr = L.mgr ∧
    (Live.thermFactor L).lgc = L.lgc ∧
    (Live.thermFactor L).upd = L.upd ∧
    (Live.thermFactor L).jrn = L.jrn ∧
    (Live.thermFactor L).dbg = L.dbg ∧
    (Live.thermFactor L).ret = L.ret ∧
    (Live.thermFactor L).obj = L.obj ∧
    (Live.thermFactor L).blob = L.blob ∧
    (Live.thermFactor L).out = L.out ∧
    (Live.thermFactor L).free = L.free := by
  simp [Live.thermFactor]

theorem Live.chargeRefusal_frame (L : Live) :
    (Live.chargeRefusal L).mode = L.mode ∧
    (Live.chargeRefusal L).pins = L.pins ∧
    (Live.chargeRefusal L).time = L.time ∧
    (Live.chargeRefusal L).ks = L.ks ∧
    (Live.chargeRefusal L).saf = L.saf ∧
    (Live.chargeRefusal L).seg = L.seg ∧
    (Live.chargeRefusal L).node = L.node ∧
    (Live.chargeRefusal L).conv = L.conv ∧
    (Live.chargeRefusal L).twin = L.twin ∧
    (Live.chargeRefusal L).eng = L.eng ∧
    (Live.chargeRefusal L).chi = L.chi ∧
    (Live.chargeRefusal L).est = L.est ∧
    (Live.chargeRefusal L).mgr = L.mgr ∧
    (Live.chargeRefusal L).lgc = L.lgc ∧
    (Live.chargeRefusal L).upd = L.upd ∧
    (Live.chargeRefusal L).jrn = L.jrn ∧
    (Live.chargeRefusal L).ret = L.ret ∧
    (Live.chargeRefusal L).obj = L.obj ∧
    (Live.chargeRefusal L).blob = L.blob ∧
    (Live.chargeRefusal L).out = L.out ∧
    (Live.chargeRefusal L).free = L.free := by
  simp only [Live.chargeRefusal]
  (repeat' split) <;> simp

theorem Live.throttleHandover_frame (L : Live) (was : Bool) :
    (Live.throttleHandover L was).mode = L.mode ∧
    (Live.throttleHandover L was).pins = L.pins ∧
    (Live.throttleHandover L was).time = L.time ∧
    (Live.throttleHandover L was).ks = L.ks ∧
    (Live.throttleHandover L was).saf = L.saf ∧
    (Live.throttleHandover L was).seg = L.seg ∧
    (Live.throttleHandover L was).node = L.node ∧
    (Live.throttleHandover L was).conv = L.conv ∧
    (Live.throttleHandover L was).eng = L.eng ∧
    (Live.throttleHandover L was).chi = L.chi ∧
    (Live.throttleHandover L was).est = L.est ∧
    (Live.throttleHandover L was).th = L.th ∧
    (Live.throttleHandover L was).mgr = L.mgr ∧
    (Live.throttleHandover L was).lgc = L.lgc ∧
    (Live.throttleHandover L was).upd = L.upd ∧
    (Live.throttleHandover L was).jrn = L.jrn ∧
    (Live.throttleHandover L was).ret = L.ret ∧
    (Live.throttleHandover L was).obj = L.obj ∧
    (Live.throttleHandover L was).blob = L.blob ∧
    (Live.throttleHandover L was).free = L.free := by
  have h0 := @Live.requestHandover_frame
  simp [Live.throttleHandover, h0]

theorem Live.moduleShutdown_frame (L : Live) :
    (Live.moduleShutdown L).time = L.time ∧
    (Live.moduleShutdown L).ks = L.ks ∧
    (Live.moduleShutdown L).seg = L.seg ∧
    (Live.moduleShutdown L).node = L.node ∧
    (Live.moduleShutdown L).eng = L.eng ∧
    (Live.moduleShutdown L).est = L.est ∧
    (Live.moduleShutdown L).th = L.th ∧
    (Live.moduleShutdown L).mgr = L.mgr ∧
    (Live.moduleShutdown L).lgc = L.lgc ∧
    (Live.moduleShutdown L).jrn = L.jrn ∧
    (Live.moduleShutdown L).ret = L.ret ∧
    (Live.moduleShutdown L).blob = L.blob ∧
    (Live.moduleShutdown L).free = L.free := by
  have h0 := @Live.sf12_frame
  simp [Live.moduleShutdown, h0]

end Sys2Proof.Machine
end

