-- ==== Sys2Proof/Laws/FrameLinkOps.lean ====
section
/-! SUPPORT. What each operation of Machine/LinkOps.lean leaves as it is. -/

namespace Sys2Proof.Machine

open Sys2Proof

theorem Live.twinEv_frame (L : Live) (src code cls : Nat) (rest : Bytes) :
    (Live.twinEv L src code cls rest).mode = L.mode ∧
    (Live.twinEv L src code cls rest).pins = L.pins ∧
    (Live.twinEv L src code cls rest).time = L.time ∧
    (Live.twinEv L src code cls rest).ks = L.ks ∧
    (Live.twinEv L src code cls rest).saf = L.saf ∧
    (Live.twinEv L src code cls rest).seg = L.seg ∧
    (Live.twinEv L src code cls rest).node = L.node ∧
    (Live.twinEv L src code cls rest).conv = L.conv ∧
    (Live.twinEv L src code cls rest).twin = L.twin ∧
    (Live.twinEv L src code cls rest).eng = L.eng ∧
    (Live.twinEv L src code cls rest).chi = L.chi ∧
    (Live.twinEv L src code cls rest).est = L.est ∧
    (Live.twinEv L src code cls rest).th = L.th ∧
    (Live.twinEv L src code cls rest).mgr = L.mgr ∧
    (Live.twinEv L src code cls rest).lgc = L.lgc ∧
    (Live.twinEv L src code cls rest).upd = L.upd ∧
    (Live.twinEv L src code cls rest).jrn = L.jrn ∧
    (Live.twinEv L src code cls rest).ret = L.ret ∧
    (Live.twinEv L src code cls rest).obj = L.obj ∧
    (Live.twinEv L src code cls rest).blob = L.blob ∧
    (Live.twinEv L src code cls rest).out = L.out ∧
    (Live.twinEv L src code cls rest).free = L.free := by
  simp [Live.twinEv]

theorem Live.finishHandover_frame (L : Live) :
    (Live.finishHandover L).time = L.time ∧
    (Live.finishHandover L).ks = L.ks ∧
    (Live.finishHandover L).seg = L.seg ∧
    (Live.finishHandover L).node = L.node ∧
    (Live.finishHandover L).eng = L.eng ∧
    (Live.finishHandover L).est = L.est ∧
    (Live.finishHandover L).th = L.th ∧
    (Live.finishHandover L).mgr = L.mgr ∧
    (Live.finishHandover L).lgc = L.lgc ∧
    (Live.finishHandover L).jrn = L.jrn ∧
    (Live.finishHandover L).ret = L.ret ∧
    (Live.finishHandover L).blob = L.blob ∧
    (Live.finishHandover L).free = L.free := by
  have h0 := @Live.sf12_frame
  have h1 := @Live.insRelay_frame
  have h2 := @Live.openLoop_frame
  have h3 := @Live.setFast_frame
  have h4 := @Live.twinEv_frame
  simp [Live.finishHandover, h0, h1, h2, h3, h4]

theorem Live.yieldToken_frame (L : Live) :
    (Live.yieldToken L).mode = L.mode ∧
    (Live.yieldToken L).time = L.time ∧
    (Live.yieldToken L).ks = L.ks ∧
    (Live.yieldToken L).seg = L.seg ∧
    (Live.yieldToken L).node = L.node ∧
    (Live.yieldToken L).conv = L.conv ∧
    (Live.yieldToken L).eng = L.eng ∧
    (Live.yieldToken L).chi = L.chi ∧
    (Live.yieldToken L).est = L.est ∧
    (Live.yieldToken L).th = L.th ∧
    (Live.yieldToken L).mgr = L.mgr ∧
    (Live.yieldToken L).lgc = L.lgc ∧
    (Live.yieldToken L).upd = L.upd ∧
    (Live.yieldToken L).jrn = L.jrn ∧
    (Live.yieldToken L).ret = L.ret ∧
    (Live.yieldToken L).obj = L.obj ∧
    (Live.yieldToken L).blob = L.blob ∧
    (Live.yieldToken L).out = L.out ∧
    (Live.yieldToken L).free = L.free := by
  have h0 := @Live.setFast_frame
  have h1 := @Live.twinEv_frame
  have h2 := @Live.insRelay_frame
  simp [Live.yieldToken, h0, h1, h2]

theorem Live.pumpReq_frame (L : Live) (s : Nat) :
    (Live.pumpReq L s).mode = L.mode ∧
    (Live.pumpReq L s).pins = L.pins ∧
    (Live.pumpReq L s).time = L.time ∧
    (Live.pumpReq L s).ks = L.ks ∧
    (Live.pumpReq L s).rcd = L.rcd ∧
    (Live.pumpReq L s).saf = L.saf ∧
    (Live.pumpReq L s).node = L.node ∧
    (Live.pumpReq L s).conv = L.conv ∧
    (Live.pumpReq L s).twin = L.twin ∧
    (Live.pumpReq L s).eng = L.eng ∧
    (Live.pumpReq L s).chi = L.chi ∧
    (Live.pumpReq L s).cap = L.cap ∧
    (Live.pumpReq L s).est = L.est ∧
    (Live.pumpReq L s).th = L.th ∧
    (Live.pumpReq L s).com = L.com ∧
    (Live.pumpReq L s).mgr = L.mgr ∧
    (Live.pumpReq L s).lgc = L.lgc ∧
    (Live.pumpReq L s).upd = L.upd ∧
    (Live.pumpReq L s).jrn = L.jrn ∧
    (Live.pumpReq L s).dbg = L.dbg ∧
    (Live.pumpReq L s).ret = L.ret ∧
    (Live.pumpReq L s).obj = L.obj ∧
    (Live.pumpReq L s).blob = L.blob ∧
    (Live.pumpReq L s).free = L.free := by
  have h0 := @Live.modSeg_frame
  simp only [Live.pumpReq]
  (repeat' split) <;> simp [h0]

theorem Live.request_frame (L : Live) (s op addr : Nat) (data : Bytes) :
    (Live.request L s op addr data).mode = L.mode ∧
    (Live.request L s op addr data).pins = L.pins ∧
    (Live.request L s op addr data).time = L.time ∧
    (Live.request L s op addr data).ks = L.ks ∧
    (Live.request L s op addr data).rcd = L.rcd ∧
    (Live.request L s op addr data).saf = L.saf ∧
    (Live.request L s op addr data).node = L.node ∧
    (Live.request L s op addr data).conv = L.conv ∧
    (Live.request L s op addr data).twin = L.twin ∧
    (Live.request L s op addr data).eng = L.eng ∧
    (Live.request L s op addr data).chi = L.chi ∧
    (Live.request L s op addr data).cap = L.cap ∧
    (Live.request L s op addr data).est = L.est ∧
    (Live.request L s op addr data).th = L.th ∧
    (Live.request L s op addr data).com = L.com ∧
    (Live.request L s op addr data).mgr = L.mgr ∧
    (Live.request L s op addr data).lgc = L.lgc ∧
    (Live.request L s op addr data).upd = L.upd ∧
    (Live.request L s op addr data).jrn = L.jrn ∧
    (Live.request L s op addr data).dbg = L.dbg ∧
    (Live.request L s op addr data).ret = L.ret ∧
    (Live.request L s op addr data).obj = L.obj ∧
    (Live.request L s op addr data).blob = L.blob ∧
    (Live.request L s op addr data).free = L.free := by
  have h0 := @Live.pumpReq_frame
  have h1 := @Live.modSeg_frame
  simp [Live.request, h0, h1]

theorem Live.setLink_frame (L : Live) (s n : Nat) :
    (Live.setLink L s n).mode = L.mode ∧
    (Live.setLink L s n).pins = L.pins ∧
    (Live.setLink L s n).time = L.time ∧
    (Live.setLink L s n).ks = L.ks ∧
    (Live.setLink L s n).rcd = L.rcd ∧
    (Live.setLink L s n).saf = L.saf ∧
    (Live.setLink L s n).node = L.node ∧
    (Live.setLink L s n).conv = L.conv ∧
    (Live.setLink L s n).twin = L.twin ∧
    (Live.setLink L s n).eng = L.eng ∧
    (Live.setLink L s n).chi = L.chi ∧
    (Live.setLink L s n).cap = L.cap ∧
    (Live.setLink L s n).est = L.est ∧
    (Live.setLink L s n).th = L.th ∧
    (Live.setLink L s n).com = L.com ∧
    (Live.setLink L s n).mgr = L.mgr ∧
    (Live.setLink L s n).lgc = L.lgc ∧
    (Live.setLink L s n).upd = L.upd ∧
    (Live.setLink L s n).jrn = L.jrn ∧
    (Live.setLink L s n).dbg = L.dbg ∧
    (Live.setLink L s n).ret = L.ret ∧
    (Live.setLink L s n).obj = L.obj ∧
    (Live.setLink L s n).blob = L.blob ∧
    (Live.setLink L s n).out = L.out ∧
    (Live.setLink L s n).free = L.free := by
  have h0 := @Live.modSeg_frame
  simp [Live.setLink, h0]

theorem Live.startBring_frame (L : Live) (s : Nat) :
    (Live.startBring L s).mode = L.mode ∧
    (Live.startBring L s).pins = L.pins ∧
    (Live.startBring L s).time = L.time ∧
    (Live.startBring L s).ks = L.ks ∧
    (Live.startBring L s).rcd = L.rcd ∧
    (Live.startBring L s).saf = L.saf ∧
    (Live.startBring L s).node = L.node ∧
    (Live.startBring L s).conv = L.conv ∧
    (Live.startBring L s).twin = L.twin ∧
    (Live.startBring L s).eng = L.eng ∧
    (Live.startBring L s).chi = L.chi ∧
    (Live.startBring L s).cap = L.cap ∧
    (Live.startBring L s).est = L.est ∧
    (Live.startBring L s).th = L.th ∧
    (Live.startBring L s).com = L.com ∧
    (Live.startBring L s).mgr = L.mgr ∧
    (Live.startBring L s).lgc = L.lgc ∧
    (Live.startBring L s).upd = L.upd ∧
    (Live.startBring L s).jrn = L.jrn ∧
    (Live.startBring L s).dbg = L.dbg ∧
    (Live.startBring L s).ret = L.ret ∧
    (Live.startBring L s).obj = L.obj ∧
    (Live.startBring L s).blob = L.blob ∧
    (Live.startBring L s).free = L.free := by
  have h0 := @Live.request_frame
  have h1 := @Live.modSeg_frame
  simp [Live.startBring, h0, h1]

theorem Live.refuseBring_frame (L : Live) (s check : Nat) :
    (Live.refuseBring L s check).mode = L.mode ∧
    (Live.refuseBring L s check).pins = L.pins ∧
    (Live.refuseBring L s check).time = L.time ∧
    (Live.refuseBring L s check).ks = L.ks ∧
    (Live.refuseBring L s check).saf = L.saf ∧
    (Live.refuseBring L s check).node = L.node ∧
    (Live.refuseBring L s check).conv = L.conv ∧
    (Live.refuseBring L s check).twin = L.twin ∧
    (Live.refuseBring L s check).eng = L.eng ∧
    (Live.refuseBring L s check).chi = L.chi ∧
    (Live.refuseBring L s check).est = L.est ∧
    (Live.refuseBring L s check).th = L.th ∧
    (Live.refuseBring L s check).mgr = L.mgr ∧
    (Live.refuseBring L s check).lgc = L.lgc ∧
    (Live.refuseBring L s check).upd = L.upd ∧
    (Live.refuseBring L s check).jrn = L.jrn ∧
    (Live.refuseBring L s check).ret = L.ret ∧
    (Live.refuseBring L s check).obj = L.obj ∧
    (Live.refuseBring L s check).blob = L.blob ∧
    (Live.refuseBring L s check).out = L.out ∧
    (Live.refuseBring L s check).free = L.free := by
  have h0 := @Live.modSeg_frame
  have h1 := @Live.setLink_frame
  simp [Live.refuseBring, h0, h1]

theorem Live.writeThresholds_frame (L : Live) (s : Nat) :
    (Live.writeThresholds L s).mode = L.mode ∧
    (Live.writeThresholds L s).pins = L.pins ∧
    (Live.writeThresholds L s).time = L.time ∧
    (Live.writeThresholds L s).ks = L.ks ∧
    (Live.writeThresholds L s).rcd = L.rcd ∧
    (Live.writeThresholds L s).saf = L.saf ∧
    (Live.writeThresholds L s).node = L.node ∧
    (Live.writeThresholds L s).conv = L.conv ∧
    (Live.writeThresholds L s).twin = L.twin ∧
    (Live.writeThresholds L s).eng = L.eng ∧
    (Live.writeThresholds L s).chi = L.chi ∧
    (Live.writeThresholds L s).cap = L.cap ∧
    (Live.writeThresholds L s).est = L.est ∧
    (Live.writeThresholds L s).th = L.th ∧
    (Live.writeThresholds L s).com = L.com ∧
    (Live.writeThresholds L s).mgr = L.mgr ∧
    (Live.writeThresholds L s).lgc = L.lgc ∧
    (Live.writeThresholds L s).upd = L.upd ∧
    (Live.writeThresholds L s).jrn = L.jrn ∧
    (Live.writeThresholds L s).dbg = L.dbg ∧
    (Live.writeThresholds L s).ret = L.ret ∧
    (Live.writeThresholds L s).obj = L.obj ∧
    (Live.writeThresholds L s).blob = L.blob ∧
    (Live.writeThresholds L s).free = L.free := by
  have h0 := @Live.request_frame
  have h1 := @Live.modSeg_frame
  simp [Live.writeThresholds, h0, h1]

theorem Live.writeAllThresholds_frame (L : Live) :
    (Live.writeAllThresholds L).mode = L.mode ∧
    (Live.writeAllThresholds L).pins = L.pins ∧
    (Live.writeAllThresholds L).time = L.time ∧
    (Live.writeAllThresholds L).ks = L.ks ∧
    (Live.writeAllThresholds L).rcd = L.rcd ∧
    (Live.writeAllThresholds L).saf = L.saf ∧
    (Live.writeAllThresholds L).node = L.node ∧
    (Live.writeAllThresholds L).conv = L.conv ∧
    (Live.writeAllThresholds L).twin = L.twin ∧
    (Live.writeAllThresholds L).eng = L.eng ∧
    (Live.writeAllThresholds L).chi = L.chi ∧
    (Live.writeAllThresholds L).cap = L.cap ∧
    (Live.writeAllThresholds L).est = L.est ∧
    (Live.writeAllThresholds L).th = L.th ∧
    (Live.writeAllThresholds L).com = L.com ∧
    (Live.writeAllThresholds L).mgr = L.mgr ∧
    (Live.writeAllThresholds L).lgc = L.lgc ∧
    (Live.writeAllThresholds L).upd = L.upd ∧
    (Live.writeAllThresholds L).jrn = L.jrn ∧
    (Live.writeAllThresholds L).dbg = L.dbg ∧
    (Live.writeAllThresholds L).ret = L.ret ∧
    (Live.writeAllThresholds L).obj = L.obj ∧
    (Live.writeAllThresholds L).blob = L.blob ∧
    (Live.writeAllThresholds L).free = L.free := by
  have h0 := @Live.writeThresholds_frame
  simp [Live.writeAllThresholds, h0]

theorem Live.dueThresholds_frame (L : Live) :
    (Live.dueThresholds L).mode = L.mode ∧
    (Live.dueThresholds L).pins = L.pins ∧
    (Live.dueThresholds L).time = L.time ∧
    (Live.dueThresholds L).ks = L.ks ∧
    (Live.dueThresholds L).rcd = L.rcd ∧
    (Live.dueThresholds L).saf = L.saf ∧
    (Live.dueThresholds L).node = L.node ∧
    (Live.dueThresholds L).conv = L.conv ∧
    (Live.dueThresholds L).eng = L.eng ∧
    (Live.dueThresholds L).chi = L.chi ∧
    (Live.dueThresholds L).cap = L.cap ∧
    (Live.dueThresholds L).est = L.est ∧
    (Live.dueThresholds L).th = L.th ∧
    (Live.dueThresholds L).com = L.com ∧
    (Live.dueThresholds L).mgr = L.mgr ∧
    (Live.dueThresholds L).lgc = L.lgc ∧
    (Live.dueThresholds L).upd = L.upd ∧
    (Live.dueThresholds L).jrn = L.jrn ∧
    (Live.dueThresholds L).dbg = L.dbg ∧
    (Live.dueThresholds L).ret = L.ret ∧
    (Live.dueThresholds L).obj = L.obj ∧
    (Live.dueThresholds L).blob = L.blob ∧
    (Live.dueThresholds L).free = L.free := by
  have h0 := @Live.writeAllThresholds_frame
  simp [Live.dueThresholds, h0]

theorem Live.tokenReports_frame (L : Live) (whole : Bool) :
    (Live.tokenReports L whole).time = L.time ∧
    (Live.tokenReports L whole).ks = L.ks ∧
    (Live.tokenReports L whole).node = L.node ∧
    (Live.tokenReports L whole).eng = L.eng ∧
    (Live.tokenReports L whole).est = L.est ∧
    (Live.tokenReports L whole).th = L.th ∧
    (Live.tokenReports L whole).mgr = L.mgr ∧
    (Live.tokenReports L whole).lgc = L.lgc ∧
    (Live.tokenReports L whole).jrn = L.jrn ∧
    (Live.tokenReports L whole).ret = L.ret ∧
    (Live.tokenReports L whole).blob = L.blob ∧
    (Live.tokenReports L whole).free = L.free := by
  have h0 := @Live.finishHandover_frame
  have h1 := @Live.yieldToken_frame
  have h2 := @Live.twinEv_frame
  have h3 := @Live.dueThresholds_frame
  have h4 := @Live.insRelay_frame
  simp [Live.tokenReports, h0, h1, h2, h3, h4]

theorem Live.bringOn_frame (L : Live) (s : Nat) :
    (Live.bringOn L s).mode = L.mode ∧
    (Live.bringOn L s).pins = L.pins ∧
    (Live.bringOn L s).time = L.time ∧
    (Live.bringOn L s).ks = L.ks ∧
    (Live.bringOn L s).rcd = L.rcd ∧
    (Live.bringOn L s).saf = L.saf ∧
    (Live.bringOn L s).node = L.node ∧
    (Live.bringOn L s).conv = L.conv ∧
    (Live.bringOn L s).twin = L.twin ∧
    (Live.bringOn L s).eng = L.eng ∧
    (Live.bringOn L s).chi = L.chi ∧
    (Live.bringOn L s).cap = L.cap ∧
    (Live.bringOn L s).est = L.est ∧
    (Live.bringOn L s).th = L.th ∧
    (Live.bringOn L s).com = L.com ∧
    (Live.bringOn L s).mgr = L.mgr ∧
    (Live.bringOn L s).lgc = L.lgc ∧
    (Live.bringOn L s).upd = L.upd ∧
    (Live.bringOn L s).jrn = L.jrn ∧
    (Live.bringOn L s).dbg = L.dbg ∧
    (Live.bringOn L s).ret = L.ret ∧
    (Live.bringOn L s).obj = L.obj ∧
    (Live.bringOn L s).blob = L.blob ∧
    (Live.bringOn L s).free = L.free := by
  have h0 := @Live.writeThresholds_frame
  have h1 := @Live.modSeg_frame
  have h2 := @Live.setLink_frame
  simp [Live.bringOn, h0, h1, h2]

theorem Live.arrivalUpdate_frame (L : Live) (s : Nat) :
    (Live.arrivalUpdate L s).mode = L.mode ∧
    (Live.arrivalUpdate L s).pins = L.pins ∧
    (Live.arrivalUpdate L s).time = L.time ∧
    (Live.arrivalUpdate L s).ks = L.ks ∧
    (Live.arrivalUpdate L s).saf = L.saf ∧
    (Live.arrivalUpdate L s).node = L.node ∧
    (Live.arrivalUpdate L s).conv = L.conv ∧
    (Live.arrivalUpdate L s).twin = L.twin ∧
    (Live.arrivalUpdate L s).eng = L.eng ∧
    (Live.arrivalUpdate L s).chi = L.chi ∧
    (Live.arrivalUpdate L s).est = L.est ∧
    (Live.arrivalUpdate L s).th = L.th ∧
    (Live.arrivalUpdate L s).mgr = L.mgr ∧
    (Live.arrivalUpdate L s).lgc = L.lgc ∧
    (Live.arrivalUpdate L s).upd = L.upd ∧
    (Live.arrivalUpdate L s).jrn = L.jrn ∧
    (Live.arrivalUpdate L s).ret = L.ret ∧
    (Live.arrivalUpdate L s).blob = L.blob ∧
    (Live.arrivalUpdate L s).free = L.free := by
  have h0 := @Live.request_frame
  have h1 := @Live.modSeg_frame
  simp [Live.arrivalUpdate, h0, h1]

theorem Live.takeIdentity_frame (L : Live) (s : Nat) (d : Bytes) :
    (Live.takeIdentity L s d).mode = L.mode ∧
    (Live.takeIdentity L s d).pins = L.pins ∧
    (Live.takeIdentity L s d).time = L.time ∧
    (Live.takeIdentity L s d).ks = L.ks ∧
    (Live.takeIdentity L s d).saf = L.saf ∧
    (Live.takeIdentity L s d).node = L.node ∧
    (Live.takeIdentity L s d).conv = L.conv ∧
    (Live.takeIdentity L s d).twin = L.twin ∧
    (Live.takeIdentity L s d).eng = L.eng ∧
    (Live.takeIdentity L s d).chi = L.chi ∧
    (Live.takeIdentity L s d).est = L.est ∧
    (Live.takeIdentity L s d).th = L.th ∧
    (Live.takeIdentity L s d).mgr = L.mgr ∧
    (Live.takeIdentity L s d).lgc = L.lgc ∧
    (Live.takeIdentity L s d).upd = L.upd ∧
    (Live.takeIdentity L s d).jrn = L.jrn ∧
    (Live.takeIdentity L s d).ret = L.ret ∧
    (Live.takeIdentity L s d).blob = L.blob ∧
    (Live.takeIdentity L s d).free = L.free := by
  have h0 := @Live.request_frame
  have h1 := @Live.modSeg_frame
  have h2 := @Live.refuseBring_frame
  simp [Live.takeIdentity, h0, h1, h2]

theorem Live.takeCommission_frame (L : Live) (s : Nat) (d : Bytes) :
    (Live.takeCommission L s d).mode = L.mode ∧
    (Live.takeCommission L s d).pins = L.pins ∧
    (Live.takeCommission L s d).time = L.time ∧
    (Live.takeCommission L s d).ks = L.ks ∧
    (Live.takeCommission L s d).saf = L.saf ∧
    (Live.takeCommission L s d).node = L.node ∧
    (Live.takeCommission L s d).conv = L.conv ∧
    (Live.takeCommission L s d).twin = L.twin ∧
    (Live.takeCommission L s d).eng = L.eng ∧
    (Live.takeCommission L s d).chi = L.chi ∧
    (Live.takeCommission L s d).est = L.est ∧
    (Live.takeCommission L s d).th = L.th ∧
    (Live.takeCommission L s d).mgr = L.mgr ∧
    (Live.takeCommission L s d).lgc = L.lgc ∧
    (Live.takeCommission L s d).upd = L.upd ∧
    (Live.takeCommission L s d).jrn = L.jrn ∧
    (Live.takeCommission L s d).ret = L.ret ∧
    (Live.takeCommission L s d).blob = L.blob ∧
    (Live.takeCommission L s d).out = L.out ∧
    (Live.takeCommission L s d).free = L.free := by
  have h0 := @Live.modSeg_frame
  have h1 := @Live.setLink_frame
  have h2 := @Live.refuseBring_frame
  simp [Live.takeCommission, h0, h1, h2]

theorem Live.requestFailed_frame (L : Live) (s : Nat) (r : MgmtReq) :
    (Live.requestFailed L s r).mode = L.mode ∧
    (Live.requestFailed L s r).pins = L.pins ∧
    (Live.requestFailed L s r).time = L.time ∧
    (Live.requestFailed L s r).ks = L.ks ∧
    (Live.requestFailed L s r).rcd = L.rcd ∧
    (Live.requestFailed L s r).saf = L.saf ∧
    (Live.requestFailed L s r).node = L.node ∧
    (Live.requestFailed L s r).conv = L.conv ∧
    (Live.requestFailed L s r).twin = L.twin ∧
    (Live.requestFailed L s r).eng = L.eng ∧
    (Live.requestFailed L s r).chi = L.chi ∧
    (Live.requestFailed L s r).cap = L.cap ∧
    (Live.requestFailed L s r).est = L.est ∧
    (Live.requestFailed L s r).th = L.th ∧
    (Live.requestFailed L s r).com = L.com ∧
    (Live.requestFailed L s r).mgr = L.mgr ∧
    (Live.requestFailed L s r).lgc = L.lgc ∧
    (Live.requestFailed L s r).upd = L.upd ∧
    (Live.requestFailed L s r).jrn = L.jrn ∧
    (Live.requestFailed L s r).dbg = L.dbg ∧
    (Live.requestFailed L s r).ret = L.ret ∧
    (Live.requestFailed L s r).obj = L.obj ∧
    (Live.requestFailed L s r).blob = L.blob ∧
    (Live.requestFailed L s r).out = L.out ∧
    (Live.requestFailed L s r).free = L.free := by
  have h0 := @Live.modSeg_frame
  have h1 := @Live.setLink_frame
  simp [Live.requestFailed, h0, h1]

theorem Live.takeResponse_frame (L : Live) (s : Nat) (r : MgmtReq) (result : Nat) (d : Bytes) :
    (Live.takeResponse L s r result d).mode = L.mode ∧
    (Live.takeResponse L s r result d).pins = L.pins ∧
    (Live.takeResponse L s r result d).time = L.time ∧
    (Live.takeResponse L s r result d).ks = L.ks ∧
    (Live.takeResponse L s r result d).saf = L.saf ∧
    (Live.takeResponse L s r result d).node = L.node ∧
    (Live.takeResponse L s r result d).conv = L.conv ∧
    (Live.takeResponse L s r result d).twin = L.twin ∧
    (Live.takeResponse L s r result d).eng = L.eng ∧
    (Live.takeResponse L s r result d).chi = L.chi ∧
    (Live.takeResponse L s r result d).est = L.est ∧
    (Live.takeResponse L s r result d).th = L.th ∧
    (Live.takeResponse L s r result d).mgr = L.mgr ∧
    (Live.takeResponse L s r result d).lgc = L.lgc ∧
    (Live.takeResponse L s r result d).upd = L.upd ∧
    (Live.takeResponse L s r result d).jrn = L.jrn ∧
    (Live.takeResponse L s r result d).ret = L.ret ∧
    (Live.takeResponse L s r result d).blob = L.blob ∧
    (Live.takeResponse L s r result d).free = L.free := by
  have h0 := @Live.takeIdentity_frame
  have h1 := @Live.takeCommission_frame
  have h2 := @Live.request_frame
  have h3 := @Live.modSeg_frame
  have h4 := @Live.setLink_frame
  have h5 := @Live.refuseBring_frame
  have h6 := @Live.requestFailed_frame
  simp [Live.takeResponse, h0, h1, h2, h3, h4, h5, h6]

theorem Live.modWatch_frame (L : Live) (s : Nat) (f : SegWatch → SegWatch) :
    (Live.modWatch L s f).mode = L.mode ∧
    (Live.modWatch L s f).pins = L.pins ∧
    (Live.modWatch L s f).time = L.time ∧
    (Live.modWatch L s f).ks = L.ks ∧
    (Live.modWatch L s f).rcd = L.rcd ∧
    (Live.modWatch L s f).seg = L.seg ∧
    (Live.modWatch L s f).node = L.node ∧
    (Live.modWatch L s f).conv = L.conv ∧
    (Live.modWatch L s f).twin = L.twin ∧
    (Live.modWatch L s f).eng = L.eng ∧
    (Live.modWatch L s f).chi = L.chi ∧
    (Live.modWatch L s f).cap = L.cap ∧
    (Live.modWatch L s f).est = L.est ∧
    (Live.modWatch L s f).th = L.th ∧
    (Live.modWatch L s f).com = L.com ∧
    (Live.modWatch L s f).mgr = L.mgr ∧
    (Live.modWatch L s f).lgc = L.lgc ∧
    (Live.modWatch L s f).upd = L.upd ∧
    (Live.modWatch L s f).jrn = L.jrn ∧
    (Live.modWatch L s f).dbg = L.dbg ∧
    (Live.modWatch L s f).ret = L.ret ∧
    (Live.modWatch L s f).obj = L.obj ∧
    (Live.modWatch L s f).blob = L.blob ∧
    (Live.modWatch L s f).out = L.out ∧
    (Live.modWatch L s f).free = L.free := by
  simp [Live.modWatch]

theorem Live.judgeWord_frame (L : Live) (s : Nat) (w : Bytes) :
    (Live.judgeWord L s w).time = L.time ∧
    (Live.judgeWord L s w).node = L.node ∧
    (Live.judgeWord L s w).eng = L.eng ∧
    (Live.judgeWord L s w).est = L.est ∧
    (Live.judgeWord L s w).th = L.th ∧
    (Live.judgeWord L s w).mgr = L.mgr ∧
    (Live.judgeWord L s w).lgc = L.lgc ∧
    (Live.judgeWord L s w).ret = L.ret ∧
    (Live.judgeWord L s w).blob = L.blob ∧
    (Live.judgeWord L s w).free = L.free := by
  have h0 := @Live.unplanned_frame
  have h1 := @Live.trip_frame
  have h2 := @Live.modWatch_frame
  simp [Live.judgeWord, h0, h1, h2]

theorem Live.takeData_frame (L : Live) (s : Nat) (bs : Bytes) :
    (Live.takeData L s bs).1.mode = L.mode ∧
    (Live.takeData L s bs).1.pins = L.pins ∧
    (Live.takeData L s bs).1.time = L.time ∧
    (Live.takeData L s bs).1.ks = L.ks ∧
    (Live.takeData L s bs).1.rcd = L.rcd ∧
    (Live.takeData L s bs).1.saf = L.saf ∧
    (Live.takeData L s bs).1.node = L.node ∧
    (Live.takeData L s bs).1.conv = L.conv ∧
    (Live.takeData L s bs).1.twin = L.twin ∧
    (Live.takeData L s bs).1.eng = L.eng ∧
    (Live.takeData L s bs).1.chi = L.chi ∧
    (Live.takeData L s bs).1.cap = L.cap ∧
    (Live.takeData L s bs).1.est = L.est ∧
    (Live.takeData L s bs).1.th = L.th ∧
    (Live.takeData L s bs).1.com = L.com ∧
    (Live.takeData L s bs).1.mgr = L.mgr ∧
    (Live.takeData L s bs).1.lgc = L.lgc ∧
    (Live.takeData L s bs).1.upd = L.upd ∧
    (Live.takeData L s bs).1.jrn = L.jrn ∧
    (Live.takeData L s bs).1.dbg = L.dbg ∧
    (Live.takeData L s bs).1.ret = L.ret ∧
    (Live.takeData L s bs).1.obj = L.obj ∧
    (Live.takeData L s bs).1.blob = L.blob ∧
    (Live.takeData L s bs).1.out = L.out ∧
    (Live.takeData L s bs).1.free = L.free := by
  have h0 := @Live.modSeg_frame
  simp [Live.takeData, h0]

theorem Live.setDone_frame (L : Live) (s epoch : Nat) :
    (Live.setDone L s epoch).mode = L.mode ∧
    (Live.setDone L s epoch).pins = L.pins ∧
    (Live.setDone L s epoch).time = L.time ∧
    (Live.setDone L s epoch).ks = L.ks ∧
    (Live.setDone L s epoch).rcd = L.rcd ∧
    (Live.setDone L s epoch).saf = L.saf ∧
    (Live.setDone L s epoch).node = L.node ∧
    (Live.setDone L s epoch).conv = L.conv ∧
    (Live.setDone L s epoch).twin = L.twin ∧
    (Live.setDone L s epoch).eng = L.eng ∧
    (Live.setDone L s epoch).chi = L.chi ∧
    (Live.setDone L s epoch).cap = L.cap ∧
    (Live.setDone L s epoch).com = L.com ∧
    (Live.setDone L s epoch).mgr = L.mgr ∧
    (Live.setDone L s epoch).lgc = L.lgc ∧
    (Live.setDone L s epoch).upd = L.upd ∧
    (Live.setDone L s epoch).jrn = L.jrn ∧
    (Live.setDone L s epoch).dbg = L.dbg ∧
    (Live.setDone L s epoch).ret = L.ret ∧
    (Live.setDone L s epoch).obj = L.obj ∧
    (Live.setDone L s epoch).blob = L.blob ∧
    (Live.setDone L s epoch).out = L.out ∧
    (Live.setDone L s epoch).free = L.free := by
  have h0 := @Live.modSeg_frame
  have h1 := @Live.takeSet_frame
  simp [Live.setDone, h0, h1]

theorem Live.judgeUplink_frame (L : Live) (s e : Nat) (ok : Bool) :
    (Live.judgeUplink L s e ok).mode = L.mode ∧
    (Live.judgeUplink L s e ok).pins = L.pins ∧
    (Live.judgeUplink L s e ok).time = L.time ∧
    (Live.judgeUplink L s e ok).ks = L.ks ∧
    (Live.judgeUplink L s e ok).rcd = L.rcd ∧
    (Live.judgeUplink L s e ok).saf = L.saf ∧
    (Live.judgeUplink L s e ok).node = L.node ∧
    (Live.judgeUplink L s e ok).conv = L.conv ∧
    (Live.judgeUplink L s e ok).twin = L.twin ∧
    (Live.judgeUplink L s e ok).eng = L.eng ∧
    (Live.judgeUplink L s e ok).chi = L.chi ∧
    (Live.judgeUplink L s e ok).cap = L.cap ∧
    (Live.judgeUplink L s e ok).com = L.com ∧
    (Live.judgeUplink L s e ok).mgr = L.mgr ∧
    (Live.judgeUplink L s e ok).lgc = L.lgc ∧
    (Live.judgeUplink L s e ok).upd = L.upd ∧
    (Live.judgeUplink L s e ok).jrn = L.jrn ∧
    (Live.judgeUplink L s e ok).dbg = L.dbg ∧
    (Live.judgeUplink L s e ok).ret = L.ret ∧
    (Live.judgeUplink L s e ok).obj = L.obj ∧
    (Live.judgeUplink L s e ok).blob = L.blob ∧
    (Live.judgeUplink L s e ok).out = L.out ∧
    (Live.judgeUplink L s e ok).free = L.free := by
  have h0 := @Live.takeSet_frame
  have h1 := @Live.modSeg_frame
  simp [Live.judgeUplink, h0, h1]

theorem Live.judgeCells_frame (L : Live) (s : Nat) :
    (Live.judgeCells L s).time = L.time ∧
    (Live.judgeCells L s).ks = L.ks ∧
    (Live.judgeCells L s).seg = L.seg ∧
    (Live.judgeCells L s).node = L.node ∧
    (Live.judgeCells L s).eng = L.eng ∧
    (Live.judgeCells L s).est = L.est ∧
    (Live.judgeCells L s).th = L.th ∧
    (Live.judgeCells L s).mgr = L.mgr ∧
    (Live.judgeCells L s).lgc = L.lgc ∧
    (Live.judgeCells L s).jrn = L.jrn ∧
    (Live.judgeCells L s).ret = L.ret ∧
    (Live.judgeCells L s).blob = L.blob ∧
    (Live.judgeCells L s).free = L.free := by
  have h0 := @Live.modWatch_frame
  have h1 := @Live.trip_frame
  simp [Live.judgeCells, h0, h1]

theorem Live.linkFrom_frame (L : Live) (s : Nat) :
    (Live.linkFrom L s).mode = L.mode ∧
    (Live.linkFrom L s).pins = L.pins ∧
    (Live.linkFrom L s).time = L.time ∧
    (Live.linkFrom L s).ks = L.ks ∧
    (Live.linkFrom L s).rcd = L.rcd ∧
    (Live.linkFrom L s).saf = L.saf ∧
    (Live.linkFrom L s).node = L.node ∧
    (Live.linkFrom L s).conv = L.conv ∧
    (Live.linkFrom L s).twin = L.twin ∧
    (Live.linkFrom L s).eng = L.eng ∧
    (Live.linkFrom L s).chi = L.chi ∧
    (Live.linkFrom L s).cap = L.cap ∧
    (Live.linkFrom L s).est = L.est ∧
    (Live.linkFrom L s).th = L.th ∧
    (Live.linkFrom L s).com = L.com ∧
    (Live.linkFrom L s).mgr = L.mgr ∧
    (Live.linkFrom L s).lgc = L.lgc ∧
    (Live.linkFrom L s).upd = L.upd ∧
    (Live.linkFrom L s).jrn = L.jrn ∧
    (Live.linkFrom L s).dbg = L.dbg ∧
    (Live.linkFrom L s).ret = L.ret ∧
    (Live.linkFrom L s).obj = L.obj ∧
    (Live.linkFrom L s).blob = L.blob ∧
    (Live.linkFrom L s).out = L.out ∧
    (Live.linkFrom L s).free = L.free := by
  have h0 := @Live.setLink_frame
  have h1 := @Live.modSeg_frame
  simp [Live.linkFrom, h0, h1]

theorem Live.linkEvents_frame (L : Live) (s : Nat) (old : Seg) :
    (Live.linkEvents L s old).mode = L.mode ∧
    (Live.linkEvents L s old).pins = L.pins ∧
    (Live.linkEvents L s old).time = L.time ∧
    (Live.linkEvents L s old).ks = L.ks ∧
    (Live.linkEvents L s old).node = L.node ∧
    (Live.linkEvents L s old).conv = L.conv ∧
    (Live.linkEvents L s old).twin = L.twin ∧
    (Live.linkEvents L s old).eng = L.eng ∧
    (Live.linkEvents L s old).chi = L.chi ∧
    (Live.linkEvents L s old).est = L.est ∧
    (Live.linkEvents L s old).th = L.th ∧
    (Live.linkEvents L s old).mgr = L.mgr ∧
    (Live.linkEvents L s old).lgc = L.lgc ∧
    (Live.linkEvents L s old).upd = L.upd ∧
    (Live.linkEvents L s old).jrn = L.jrn ∧
    (Live.linkEvents L s old).ret = L.ret ∧
    (Live.linkEvents L s old).blob = L.blob ∧
    (Live.linkEvents L s old).out = L.out ∧
    (Live.linkEvents L s old).free = L.free := by
  have h0 := @Live.modSeg_frame
  have h1 := @Live.modWatch_frame
  simp [Live.linkEvents, h0, h1]

theorem Live.bypassSeen_frame (L : Live) (s : Nat) :
    (Live.bypassSeen L s).mode = L.mode ∧
    (Live.bypassSeen L s).pins = L.pins ∧
    (Live.bypassSeen L s).time = L.time ∧
    (Live.bypassSeen L s).ks = L.ks ∧
    (Live.bypassSeen L s).rcd = L.rcd ∧
    (Live.bypassSeen L s).saf = L.saf ∧
    (Live.bypassSeen L s).node = L.node ∧
    (Live.bypassSeen L s).conv = L.conv ∧
    (Live.bypassSeen L s).twin = L.twin ∧
    (Live.bypassSeen L s).eng = L.eng ∧
    (Live.bypassSeen L s).chi = L.chi ∧
    (Live.bypassSeen L s).cap = L.cap ∧
    (Live.bypassSeen L s).est = L.est ∧
    (Live.bypassSeen L s).th = L.th ∧
    (Live.bypassSeen L s).com = L.com ∧
    (Live.bypassSeen L s).mgr = L.mgr ∧
    (Live.bypassSeen L s).lgc = L.lgc ∧
    (Live.bypassSeen L s).upd = L.upd ∧
    (Live.bypassSeen L s).jrn = L.jrn ∧
    (Live.bypassSeen L s).dbg = L.dbg ∧
    (Live.bypassSeen L s).ret = L.ret ∧
    (Live.bypassSeen L s).obj = L.obj ∧
    (Live.bypassSeen L s).blob = L.blob ∧
    (Live.bypassSeen L s).out = L.out ∧
    (Live.bypassSeen L s).free = L.free := by
  have h0 := @Live.modSeg_frame
  simp [Live.bypassSeen, h0]

theorem Live.storeUplink_frame (L : Live) (s : Nat) (bs : Bytes) (t4 : Nat) :
    (Live.storeUplink L s bs t4).mode = L.mode ∧
    (Live.storeUplink L s bs t4).pins = L.pins ∧
    (Live.storeUplink L s bs t4).time = L.time ∧
    (Live.storeUplink L s bs t4).ks = L.ks ∧
    (Live.storeUplink L s bs t4).rcd = L.rcd ∧
    (Live.storeUplink L s bs t4).saf = L.saf ∧
    (Live.storeUplink L s bs t4).node = L.node ∧
    (Live.storeUplink L s bs t4).conv = L.conv ∧
    (Live.storeUplink L s bs t4).twin = L.twin ∧
    (Live.storeUplink L s bs t4).eng = L.eng ∧
    (Live.storeUplink L s bs t4).chi = L.chi ∧
    (Live.storeUplink L s bs t4).cap = L.cap ∧
    (Live.storeUplink L s bs t4).est = L.est ∧
    (Live.storeUplink L s bs t4).th = L.th ∧
    (Live.storeUplink L s bs t4).com = L.com ∧
    (Live.storeUplink L s bs t4).mgr = L.mgr ∧
    (Live.storeUplink L s bs t4).lgc = L.lgc ∧
    (Live.storeUplink L s bs t4).upd = L.upd ∧
    (Live.storeUplink L s bs t4).jrn = L.jrn ∧
    (Live.storeUplink L s bs t4).dbg = L.dbg ∧
    (Live.storeUplink L s bs t4).ret = L.ret ∧
    (Live.storeUplink L s bs t4).blob = L.blob ∧
    (Live.storeUplink L s bs t4).out = L.out := by
  have h0 := @Live.modSeg_frame
  simp [Live.storeUplink, h0]

theorem Live.nodeMargin_frame (L : Live) (s : Nat) :
    (Live.nodeMargin L s).mode = L.mode ∧
    (Live.nodeMargin L s).pins = L.pins ∧
    (Live.nodeMargin L s).time = L.time ∧
    (Live.nodeMargin L s).ks = L.ks ∧
    (Live.nodeMargin L s).saf = L.saf ∧
    (Live.nodeMargin L s).node = L.node ∧
    (Live.nodeMargin L s).conv = L.conv ∧
    (Live.nodeMargin L s).twin = L.twin ∧
    (Live.nodeMargin L s).eng = L.eng ∧
    (Live.nodeMargin L s).chi = L.chi ∧
    (Live.nodeMargin L s).est = L.est ∧
    (Live.nodeMargin L s).th = L.th ∧
    (Live.nodeMargin L s).mgr = L.mgr ∧
    (Live.nodeMargin L s).lgc = L.lgc ∧
    (Live.nodeMargin L s).upd = L.upd ∧
    (Live.nodeMargin L s).jrn = L.jrn ∧
    (Live.nodeMargin L s).ret = L.ret ∧
    (Live.nodeMargin L s).obj = L.obj ∧
    (Live.nodeMargin L s).blob = L.blob ∧
    (Live.nodeMargin L s).out = L.out ∧
    (Live.nodeMargin L s).free = L.free := by
  have h0 := @Live.modSeg_frame
  simp [Live.nodeMargin, h0]

theorem Live.badUplink_frame (L : Live) (s : Nat) :
    (Live.badUplink L s).mode = L.mode ∧
    (Live.badUplink L s).pins = L.pins ∧
    (Live.badUplink L s).time = L.time ∧
    (Live.badUplink L s).ks = L.ks ∧
    (Live.badUplink L s).saf = L.saf ∧
    (Live.badUplink L s).node = L.node ∧
    (Live.badUplink L s).conv = L.conv ∧
    (Live.badUplink L s).twin = L.twin ∧
    (Live.badUplink L s).eng = L.eng ∧
    (Live.badUplink L s).chi = L.chi ∧
    (Live.badUplink L s).est = L.est ∧
    (Live.badUplink L s).th = L.th ∧
    (Live.badUplink L s).mgr = L.mgr ∧
    (Live.badUplink L s).lgc = L.lgc ∧
    (Live.badUplink L s).upd = L.upd ∧
    (Live.badUplink L s).jrn = L.jrn ∧
    (Live.badUplink L s).ret = L.ret ∧
    (Live.badUplink L s).blob = L.blob ∧
    (Live.badUplink L s).out = L.out ∧
    (Live.badUplink L s).free = L.free := by
  have h0 := @Live.modSeg_frame
  simp [Live.badUplink, h0]

end Sys2Proof.Machine
end

