-- ==== Sys2Proof/Laws/FrameLink.lean ====
section
/-! SUPPORT. What each operation of Machine/Link.lean leaves as it is. -/

namespace Sys2Proof.Machine

open Sys2Proof

theorem Live.countMissing_frame (L : Live) (s : Nat) :
    (Live.countMissing L s).mode = L.mode ∧
    (Live.countMissing L s).pins = L.pins ∧
    (Live.countMissing L s).time = L.time ∧
    (Live.countMissing L s).ks = L.ks ∧
    (Live.countMissing L s).rcd = L.rcd ∧
    (Live.countMissing L s).seg = L.seg ∧
    (Live.countMissing L s).node = L.node ∧
    (Live.countMissing L s).conv = L.conv ∧
    (Live.countMissing L s).twin = L.twin ∧
    (Live.countMissing L s).eng = L.eng ∧
    (Live.countMissing L s).chi = L.chi ∧
    (Live.countMissing L s).cap = L.cap ∧
    (Live.countMissing L s).est = L.est ∧
    (Live.countMissing L s).th = L.th ∧
    (Live.countMissing L s).com = L.com ∧
    (Live.countMissing L s).mgr = L.mgr ∧
    (Live.countMissing L s).lgc = L.lgc ∧
    (Live.countMissing L s).upd = L.upd ∧
    (Live.countMissing L s).jrn = L.jrn ∧
    (Live.countMissing L s).dbg = L.dbg ∧
    (Live.countMissing L s).ret = L.ret ∧
    (Live.countMissing L s).obj = L.obj ∧
    (Live.countMissing L s).blob = L.blob ∧
    (Live.countMissing L s).out = L.out ∧
    (Live.countMissing L s).free = L.free := by
  have h0 := @Live.modWatch_frame
  simp [Live.countMissing, h0]

theorem Live.segFrame_frame (L : Live) (s : Nat) :
    (Live.segFrame L s).mode = L.mode ∧
    (Live.segFrame L s).pins = L.pins ∧
    (Live.segFrame L s).time = L.time ∧
    (Live.segFrame L s).ks = L.ks ∧
    (Live.segFrame L s).rcd = L.rcd ∧
    (Live.segFrame L s).node = L.node ∧
    (Live.segFrame L s).conv = L.conv ∧
    (Live.segFrame L s).twin = L.twin ∧
    (Live.segFrame L s).eng = L.eng ∧
    (Live.segFrame L s).chi = L.chi ∧
    (Live.segFrame L s).cap = L.cap ∧
    (Live.segFrame L s).est = L.est ∧
    (Live.segFrame L s).th = L.th ∧
    (Live.segFrame L s).com = L.com ∧
    (Live.segFrame L s).mgr = L.mgr ∧
    (Live.segFrame L s).lgc = L.lgc ∧
    (Live.segFrame L s).upd = L.upd ∧
    (Live.segFrame L s).jrn = L.jrn ∧
    (Live.segFrame L s).dbg = L.dbg ∧
    (Live.segFrame L s).ret = L.ret ∧
    (Live.segFrame L s).obj = L.obj ∧
    (Live.segFrame L s).blob = L.blob := by
  have h0 := @Live.pumpReq_frame
  have h1 := @Live.modSeg_frame
  have h2 := @Live.countMissing_frame
  simp [Live.segFrame, h0, h1, h2]

theorem Live.goodUplink_frame (L : Live) (s : Nat) (bs : Bytes) (t4 : Nat) :
    (Live.goodUplink L s bs t4).time = L.time ∧
    (Live.goodUplink L s bs t4).node = L.node ∧
    (Live.goodUplink L s bs t4).eng = L.eng ∧
    (Live.goodUplink L s bs t4).mgr = L.mgr ∧
    (Live.goodUplink L s bs t4).lgc = L.lgc ∧
    (Live.goodUplink L s bs t4).ret = L.ret ∧
    (Live.goodUplink L s bs t4).blob = L.blob := by
  have h0 := @Live.seqOn_frame
  have h1 := @Live.tokenReports_frame
  have h2 := @Live.arrivalUpdate_frame
  have h3 := @Live.bringOn_frame
  have h4 := @Live.linkFrom_frame
  have h5 := @Live.bypassSeen_frame
  have h6 := @Live.linkEvents_frame
  have h7 := @Live.judgeCells_frame
  have h8 := @Live.setDone_frame
  have h9 := @Live.takeData_frame
  have h10 := @Live.judgeWord_frame
  have h11 := @Live.modSeg_frame
  have h12 := @Live.nodeMargin_frame
  have h13 := @Live.storeUplink_frame
  have h14 := @Live.unplanned_frame
  simp [Live.goodUplink, h0, h1, h2, h3, h4, h5, h6, h7, h8, h9, h10, h11, h12, h13, h14]

theorem Live.linkDown_frame (L : Live) (s : Nat) :
    (Live.linkDown L s).mode = L.mode ∧
    (Live.linkDown L s).pins = L.pins ∧
    (Live.linkDown L s).time = L.time ∧
    (Live.linkDown L s).ks = L.ks ∧
    (Live.linkDown L s).saf = L.saf ∧
    (Live.linkDown L s).node = L.node ∧
    (Live.linkDown L s).conv = L.conv ∧
    (Live.linkDown L s).twin = L.twin ∧
    (Live.linkDown L s).eng = L.eng ∧
    (Live.linkDown L s).chi = L.chi ∧
    (Live.linkDown L s).est = L.est ∧
    (Live.linkDown L s).th = L.th ∧
    (Live.linkDown L s).mgr = L.mgr ∧
    (Live.linkDown L s).lgc = L.lgc ∧
    (Live.linkDown L s).upd = L.upd ∧
    (Live.linkDown L s).jrn = L.jrn ∧
    (Live.linkDown L s).ret = L.ret ∧
    (Live.linkDown L s).blob = L.blob ∧
    (Live.linkDown L s).out = L.out := by
  have h0 := @Live.modSeg_frame
  simp [Live.linkDown, h0]

end Sys2Proof.Machine
end

