-- ==== Sys2Proof/Laws/FrameSafOps.lean ====
section
/-! SUPPORT. What each operation of Machine/SafOps.lean leaves as it is. -/

namespace Sys2Proof.Machine

open Sys2Proof

theorem Live.modPair_frame (L : Live) (i : Nat) (f : Pair → Pair) :
    (Live.modPair L i f).mode = L.mode ∧
    (Live.modPair L i f).pins = L.pins ∧
    (Live.modPair L i f).time = L.time ∧
    (Live.modPair L i f).ks = L.ks ∧
    (Live.modPair L i f).rcd = L.rcd ∧
    (Live.modPair L i f).seg = L.seg ∧
    (Live.modPair L i f).node = L.node ∧
    (Live.modPair L i f).conv = L.conv ∧
    (Live.modPair L i f).twin = L.twin ∧
    (Live.modPair L i f).eng = L.eng ∧
    (Live.modPair L i f).chi = L.chi ∧
    (Live.modPair L i f).cap = L.cap ∧
    (Live.modPair L i f).est = L.est ∧
    (Live.modPair L i f).th = L.th ∧
    (Live.modPair L i f).com = L.com ∧
    (Live.modPair L i f).mgr = L.mgr ∧
    (Live.modPair L i f).lgc = L.lgc ∧
    (Live.modPair L i f).upd = L.upd ∧
    (Live.modPair L i f).jrn = L.jrn ∧
    (Live.modPair L i f).dbg = L.dbg ∧
    (Live.modPair L i f).ret = L.ret ∧
    (Live.modPair L i f).obj = L.obj ∧
    (Live.modPair L i f).blob = L.blob ∧
    (Live.modPair L i f).out = L.out ∧
    (Live.modPair L i f).free = L.free := by
  simp [Live.modPair]

theorem Live.pairTrip_frame (L : Live) (i ch : Nat) :
    (Live.pairTrip L i ch).time = L.time ∧
    (Live.pairTrip L i ch).ks = L.ks ∧
    (Live.pairTrip L i ch).seg = L.seg ∧
    (Live.pairTrip L i ch).node = L.node ∧
    (Live.pairTrip L i ch).eng = L.eng ∧
    (Live.pairTrip L i ch).est = L.est ∧
    (Live.pairTrip L i ch).th = L.th ∧
    (Live.pairTrip L i ch).mgr = L.mgr ∧
    (Live.pairTrip L i ch).lgc = L.lgc ∧
    (Live.pairTrip L i ch).jrn = L.jrn ∧
    (Live.pairTrip L i ch).ret = L.ret ∧
    (Live.pairTrip L i ch).blob = L.blob ∧
    (Live.pairTrip L i ch).free = L.free := by
  have h0 := @Live.trip_frame
  simp [Live.pairTrip, h0]

theorem Live.judgePair_frame (L : Live) (i : Nat) :
    (Live.judgePair L i).mode = L.mode ∧
    (Live.judgePair L i).pins = L.pins ∧
    (Live.judgePair L i).time = L.time ∧
    (Live.judgePair L i).ks = L.ks ∧
    (Live.judgePair L i).rcd = L.rcd ∧
    (Live.judgePair L i).seg = L.seg ∧
    (Live.judgePair L i).node = L.node ∧
    (Live.judgePair L i).conv = L.conv ∧
    (Live.judgePair L i).twin = L.twin ∧
    (Live.judgePair L i).eng = L.eng ∧
    (Live.judgePair L i).chi = L.chi ∧
    (Live.judgePair L i).cap = L.cap ∧
    (Live.judgePair L i).est = L.est ∧
    (Live.judgePair L i).th = L.th ∧
    (Live.judgePair L i).com = L.com ∧
    (Live.judgePair L i).mgr = L.mgr ∧
    (Live.judgePair L i).lgc = L.lgc ∧
    (Live.judgePair L i).upd = L.upd ∧
    (Live.judgePair L i).jrn = L.jrn ∧
    (Live.judgePair L i).dbg = L.dbg ∧
    (Live.judgePair L i).ret = L.ret ∧
    (Live.judgePair L i).obj = L.obj ∧
    (Live.judgePair L i).blob = L.blob ∧
    (Live.judgePair L i).out = L.out ∧
    (Live.judgePair L i).free = L.free := by
  have h0 := @Live.modPair_frame
  simp [Live.judgePair, h0]

theorem Live.testFault_frame (L : Live) (i : Nat) (chB cross : Bool) :
    (Live.testFault L i chB cross).time = L.time ∧
    (Live.testFault L i chB cross).ks = L.ks ∧
    (Live.testFault L i chB cross).seg = L.seg ∧
    (Live.testFault L i chB cross).node = L.node ∧
    (Live.testFault L i chB cross).eng = L.eng ∧
    (Live.testFault L i chB cross).est = L.est ∧
    (Live.testFault L i chB cross).th = L.th ∧
    (Live.testFault L i chB cross).mgr = L.mgr ∧
    (Live.testFault L i chB cross).lgc = L.lgc ∧
    (Live.testFault L i chB cross).jrn = L.jrn ∧
    (Live.testFault L i chB cross).ret = L.ret ∧
    (Live.testFault L i chB cross).blob = L.blob ∧
    (Live.testFault L i chB cross).free = L.free := by
  have h0 := @Live.pairTrip_frame
  have h1 := @Live.modPair_frame
  simp [Live.testFault, h0, h1]

theorem Live.pulseInput_frame (L : Live) (own : Bool) (low : Nat) (chB : Bool) (i : Nat) :
    (Live.pulseInput L own low chB i).time = L.time ∧
    (Live.pulseInput L own low chB i).ks = L.ks ∧
    (Live.pulseInput L own low chB i).seg = L.seg ∧
    (Live.pulseInput L own low chB i).node = L.node ∧
    (Live.pulseInput L own low chB i).eng = L.eng ∧
    (Live.pulseInput L own low chB i).est = L.est ∧
    (Live.pulseInput L own low chB i).th = L.th ∧
    (Live.pulseInput L own low chB i).mgr = L.mgr ∧
    (Live.pulseInput L own low chB i).lgc = L.lgc ∧
    (Live.pulseInput L own low chB i).jrn = L.jrn ∧
    (Live.pulseInput L own low chB i).ret = L.ret ∧
    (Live.pulseInput L own low chB i).blob = L.blob ∧
    (Live.pulseInput L own low chB i).free = L.free := by
  have h0 := @Live.testFault_frame
  have h1 := @Live.modPair_frame
  simp [Live.pulseInput, h0, h1]

theorem Live.exchangePair_frame (L : Live) (i : Nat) :
    (Live.exchangePair L i).time = L.time ∧
    (Live.exchangePair L i).ks = L.ks ∧
    (Live.exchangePair L i).seg = L.seg ∧
    (Live.exchangePair L i).node = L.node ∧
    (Live.exchangePair L i).eng = L.eng ∧
    (Live.exchangePair L i).est = L.est ∧
    (Live.exchangePair L i).th = L.th ∧
    (Live.exchangePair L i).mgr = L.mgr ∧
    (Live.exchangePair L i).lgc = L.lgc ∧
    (Live.exchangePair L i).jrn = L.jrn ∧
    (Live.exchangePair L i).ret = L.ret ∧
    (Live.exchangePair L i).blob = L.blob ∧
    (Live.exchangePair L i).free = L.free := by
  have h0 := @Live.pairTrip_frame
  simp [Live.exchangePair, h0]

theorem Live.relWatch_frame (L : Live) :
    (Live.relWatch L).mode = L.mode ∧
    (Live.relWatch L).pins = L.pins ∧
    (Live.relWatch L).time = L.time ∧
    (Live.relWatch L).ks = L.ks ∧
    (Live.relWatch L).rcd = L.rcd ∧
    (Live.relWatch L).seg = L.seg ∧
    (Live.relWatch L).node = L.node ∧
    (Live.relWatch L).conv = L.conv ∧
    (Live.relWatch L).twin = L.twin ∧
    (Live.relWatch L).eng = L.eng ∧
    (Live.relWatch L).chi = L.chi ∧
    (Live.relWatch L).cap = L.cap ∧
    (Live.relWatch L).est = L.est ∧
    (Live.relWatch L).th = L.th ∧
    (Live.relWatch L).com = L.com ∧
    (Live.relWatch L).mgr = L.mgr ∧
    (Live.relWatch L).lgc = L.lgc ∧
    (Live.relWatch L).upd = L.upd ∧
    (Live.relWatch L).jrn = L.jrn ∧
    (Live.relWatch L).dbg = L.dbg ∧
    (Live.relWatch L).ret = L.ret ∧
    (Live.relWatch L).obj = L.obj ∧
    (Live.relWatch L).blob = L.blob ∧
    (Live.relWatch L).out = L.out ∧
    (Live.relWatch L).free = L.free := by
  simp [Live.relWatch]

theorem Live.release__frame (L : Live) (n : Nat) :
    (Live.release_ L n).mode = L.mode ∧
    (Live.release_ L n).time = L.time ∧
    (Live.release_ L n).ks = L.ks ∧
    (Live.release_ L n).seg = L.seg ∧
    (Live.release_ L n).node = L.node ∧
    (Live.release_ L n).conv = L.conv ∧
    (Live.release_ L n).twin = L.twin ∧
    (Live.release_ L n).chi = L.chi ∧
    (Live.release_ L n).est = L.est ∧
    (Live.release_ L n).th = L.th ∧
    (Live.release_ L n).mgr = L.mgr ∧
    (Live.release_ L n).lgc = L.lgc ∧
    (Live.release_ L n).upd = L.upd ∧
    (Live.release_ L n).jrn = L.jrn ∧
    (Live.release_ L n).ret = L.ret ∧
    (Live.release_ L n).blob = L.blob ∧
    (Live.release_ L n).out = L.out ∧
    (Live.release_ L n).free = L.free := by
  have h0 := @Live.releaseCause_frame
  have h1 := @Live.closeElement_frame
  simp [Live.release_, h0, h1]

theorem Live.obey_frame (L : Live) (c : TripCmd) :
    (Live.obey L c).time = L.time ∧
    (Live.obey L c).ks = L.ks ∧
    (Live.obey L c).seg = L.seg ∧
    (Live.obey L c).node = L.node ∧
    (Live.obey L c).eng = L.eng ∧
    (Live.obey L c).est = L.est ∧
    (Live.obey L c).th = L.th ∧
    (Live.obey L c).mgr = L.mgr ∧
    (Live.obey L c).lgc = L.lgc ∧
    (Live.obey L c).jrn = L.jrn ∧
    (Live.obey L c).ret = L.ret ∧
    (Live.obey L c).blob = L.blob ∧
    (Live.obey L c).free = L.free := by
  have h0 := @Live.enterSafe_frame
  have h1 := @Live.setFast_frame
  have h2 := @Live.tripAct_frame
  have h3 := @Live.latchCause_frame
  have h4 := @Live.trip_frame
  simp [Live.obey, h0, h1, h2, h3, h4]

theorem Live.endObeyed_frame (L : Live) :
    (Live.endObeyed L).mode = L.mode ∧
    (Live.endObeyed L).time = L.time ∧
    (Live.endObeyed L).ks = L.ks ∧
    (Live.endObeyed L).rcd = L.rcd ∧
    (Live.endObeyed L).seg = L.seg ∧
    (Live.endObeyed L).node = L.node ∧
    (Live.endObeyed L).conv = L.conv ∧
    (Live.endObeyed L).twin = L.twin ∧
    (Live.endObeyed L).eng = L.eng ∧
    (Live.endObeyed L).chi = L.chi ∧
    (Live.endObeyed L).cap = L.cap ∧
    (Live.endObeyed L).est = L.est ∧
    (Live.endObeyed L).th = L.th ∧
    (Live.endObeyed L).com = L.com ∧
    (Live.endObeyed L).mgr = L.mgr ∧
    (Live.endObeyed L).lgc = L.lgc ∧
    (Live.endObeyed L).upd = L.upd ∧
    (Live.endObeyed L).jrn = L.jrn ∧
    (Live.endObeyed L).dbg = L.dbg ∧
    (Live.endObeyed L).ret = L.ret ∧
    (Live.endObeyed L).blob = L.blob ∧
    (Live.endObeyed L).out = L.out ∧
    (Live.endObeyed L).free = L.free := by
  have h0 := @Live.closeElement_frame
  have h1 := @Live.endActive_frame
  simp only [Live.endObeyed]
  (repeat' split) <;> simp [h0, h1]

theorem Live.obeyNamed_frame (L : Live) (c : TripCmd) :
    (Live.obeyNamed L c).time = L.time ∧
    (Live.obeyNamed L c).ks = L.ks ∧
    (Live.obeyNamed L c).seg = L.seg ∧
    (Live.obeyNamed L c).node = L.node ∧
    (Live.obeyNamed L c).eng = L.eng ∧
    (Live.obeyNamed L c).est = L.est ∧
    (Live.obeyNamed L c).th = L.th ∧
    (Live.obeyNamed L c).mgr = L.mgr ∧
    (Live.obeyNamed L c).lgc = L.lgc ∧
    (Live.obeyNamed L c).jrn = L.jrn ∧
    (Live.obeyNamed L c).ret = L.ret ∧
    (Live.obeyNamed L c).blob = L.blob ∧
    (Live.obeyNamed L c).free = L.free := by
  have h0 := @Live.obey_frame
  have h1 := @Live.endObeyed_frame
  simp only [Live.obeyNamed]
  (repeat' split) <;> simp [h0, h1]

theorem Live.setRole_frame (L : Live) (on : Bool) :
    (Live.setRole L on).mode = L.mode ∧
    (Live.setRole L on).time = L.time ∧
    (Live.setRole L on).ks = L.ks ∧
    (Live.setRole L on).seg = L.seg ∧
    (Live.setRole L on).node = L.node ∧
    (Live.setRole L on).conv = L.conv ∧
    (Live.setRole L on).twin = L.twin ∧
    (Live.setRole L on).eng = L.eng ∧
    (Live.setRole L on).chi = L.chi ∧
    (Live.setRole L on).est = L.est ∧
    (Live.setRole L on).th = L.th ∧
    (Live.setRole L on).mgr = L.mgr ∧
    (Live.setRole L on).lgc = L.lgc ∧
    (Live.setRole L on).upd = L.upd ∧
    (Live.setRole L on).jrn = L.jrn ∧
    (Live.setRole L on).ret = L.ret ∧
    (Live.setRole L on).blob = L.blob ∧
    (Live.setRole L on).out = L.out ∧
    (Live.setRole L on).free = L.free := by
  have h0 := @Live.insRelay_frame
  simp [Live.setRole, h0]

theorem Live.insContactors_frame (L : Live) :
    (Live.insContactors L).mode = L.mode ∧
    (Live.insContactors L).time = L.time ∧
    (Live.insContactors L).ks = L.ks ∧
    (Live.insContactors L).seg = L.seg ∧
    (Live.insContactors L).node = L.node ∧
    (Live.insContactors L).conv = L.conv ∧
    (Live.insContactors L).twin = L.twin ∧
    (Live.insContactors L).eng = L.eng ∧
    (Live.insContactors L).chi = L.chi ∧
    (Live.insContactors L).est = L.est ∧
    (Live.insContactors L).th = L.th ∧
    (Live.insContactors L).mgr = L.mgr ∧
    (Live.insContactors L).lgc = L.lgc ∧
    (Live.insContactors L).upd = L.upd ∧
    (Live.insContactors L).jrn = L.jrn ∧
    (Live.insContactors L).ret = L.ret ∧
    (Live.insContactors L).blob = L.blob ∧
    (Live.insContactors L).out = L.out ∧
    (Live.insContactors L).free = L.free := by
  have h0 := @Live.insRelay_frame
  have h1 := @Live.setRole_frame
  simp [Live.insContactors, h0, h1]

theorem Live.sf06_frame (L : Live) (ch : Nat) :
    (Live.sf06 L ch).time = L.time ∧
    (Live.sf06 L ch).ks = L.ks ∧
    (Live.sf06 L ch).seg = L.seg ∧
    (Live.sf06 L ch).node = L.node ∧
    (Live.sf06 L ch).eng = L.eng ∧
    (Live.sf06 L ch).est = L.est ∧
    (Live.sf06 L ch).th = L.th ∧
    (Live.sf06 L ch).mgr = L.mgr ∧
    (Live.sf06 L ch).lgc = L.lgc ∧
    (Live.sf06 L ch).jrn = L.jrn ∧
    (Live.sf06 L ch).ret = L.ret ∧
    (Live.sf06 L ch).blob = L.blob ∧
    (Live.sf06 L ch).free = L.free := by
  have h0 := @Live.trip_frame
  simp [Live.sf06, h0]

theorem Live.insOnBus_frame (L : Live) (a b : Option Nat) :
    (Live.insOnBus L a b).time = L.time ∧
    (Live.insOnBus L a b).ks = L.ks ∧
    (Live.insOnBus L a b).seg = L.seg ∧
    (Live.insOnBus L a b).node = L.node ∧
    (Live.insOnBus L a b).eng = L.eng ∧
    (Live.insOnBus L a b).est = L.est ∧
    (Live.insOnBus L a b).th = L.th ∧
    (Live.insOnBus L a b).mgr = L.mgr ∧
    (Live.insOnBus L a b).lgc = L.lgc ∧
    (Live.insOnBus L a b).jrn = L.jrn ∧
    (Live.insOnBus L a b).ret = L.ret ∧
    (Live.insOnBus L a b).blob = L.blob ∧
    (Live.insOnBus L a b).free = L.free := by
  have h0 := @Live.sf06_frame
  simp [Live.insOnBus, h0]

theorem Live.insOwn_frame (L : Live) (a : Option Nat) :
    (Live.insOwn L a).mode = L.mode ∧
    (Live.insOwn L a).pins = L.pins ∧
    (Live.insOwn L a).time = L.time ∧
    (Live.insOwn L a).ks = L.ks ∧
    (Live.insOwn L a).seg = L.seg ∧
    (Live.insOwn L a).node = L.node ∧
    (Live.insOwn L a).conv = L.conv ∧
    (Live.insOwn L a).twin = L.twin ∧
    (Live.insOwn L a).eng = L.eng ∧
    (Live.insOwn L a).chi = L.chi ∧
    (Live.insOwn L a).est = L.est ∧
    (Live.insOwn L a).th = L.th ∧
    (Live.insOwn L a).mgr = L.mgr ∧
    (Live.insOwn L a).lgc = L.lgc ∧
    (Live.insOwn L a).upd = L.upd ∧
    (Live.insOwn L a).jrn = L.jrn ∧
    (Live.insOwn L a).ret = L.ret ∧
    (Live.insOwn L a).obj = L.obj ∧
    (Live.insOwn L a).blob = L.blob ∧
    (Live.insOwn L a).out = L.out ∧
    (Live.insOwn L a).free = L.free := by
  simp only [Live.insOwn]
  (repeat' split) <;> simp

theorem Live.insReport_frame (L : Live) (a : Option Nat) (nF : Nat) :
    (Live.insReport L a nF).mode = L.mode ∧
    (Live.insReport L a nF).pins = L.pins ∧
    (Live.insReport L a nF).time = L.time ∧
    (Live.insReport L a nF).ks = L.ks ∧
    (Live.insReport L a nF).saf = L.saf ∧
    (Live.insReport L a nF).seg = L.seg ∧
    (Live.insReport L a nF).node = L.node ∧
    (Live.insReport L a nF).conv = L.conv ∧
    (Live.insReport L a nF).twin = L.twin ∧
    (Live.insReport L a nF).eng = L.eng ∧
    (Live.insReport L a nF).chi = L.chi ∧
    (Live.insReport L a nF).est = L.est ∧
    (Live.insReport L a nF).th = L.th ∧
    (Live.insReport L a nF).mgr = L.mgr ∧
    (Live.insReport L a nF).lgc = L.lgc ∧
    (Live.insReport L a nF).upd = L.upd ∧
    (Live.insReport L a nF).jrn = L.jrn ∧
    (Live.insReport L a nF).ret = L.ret ∧
    (Live.insReport L a nF).blob = L.blob ∧
    (Live.insReport L a nF).out = L.out ∧
    (Live.insReport L a nF).free = L.free := by
  simp only [Live.insReport]
  (repeat' split) <;> simp

theorem Live.fbClock_frame (L : Live) (n : Nat) :
    (Live.fbClock L n).mode = L.mode ∧
    (Live.fbClock L n).time = L.time ∧
    (Live.fbClock L n).ks = L.ks ∧
    (Live.fbClock L n).rcd = L.rcd ∧
    (Live.fbClock L n).saf = L.saf ∧
    (Live.fbClock L n).seg = L.seg ∧
    (Live.fbClock L n).node = L.node ∧
    (Live.fbClock L n).conv = L.conv ∧
    (Live.fbClock L n).twin = L.twin ∧
    (Live.fbClock L n).eng = L.eng ∧
    (Live.fbClock L n).chi = L.chi ∧
    (Live.fbClock L n).cap = L.cap ∧
    (Live.fbClock L n).est = L.est ∧
    (Live.fbClock L n).th = L.th ∧
    (Live.fbClock L n).com = L.com ∧
    (Live.fbClock L n).mgr = L.mgr ∧
    (Live.fbClock L n).lgc = L.lgc ∧
    (Live.fbClock L n).upd = L.upd ∧
    (Live.fbClock L n).jrn = L.jrn ∧
    (Live.fbClock L n).dbg = L.dbg ∧
    (Live.fbClock L n).ret = L.ret ∧
    (Live.fbClock L n).obj = L.obj ∧
    (Live.fbClock L n).blob = L.blob ∧
    (Live.fbClock L n).out = L.out ∧
    (Live.fbClock L n).free = L.free := by
  simp [Live.fbClock]

end Sys2Proof.Machine
end

