-- ==== Sys2Proof/Laws/FrameCanOps.lean ====
section
/-! SUPPORT. What each operation of Machine/CanOps.lean leaves as it is. -/

namespace Sys2Proof.Machine

open Sys2Proof

theorem Live.modCan_frame (L : Live) (bus : Nat) (f : Can → Can) :
    (Live.modCan L bus f).mode = L.mode ∧
    (Live.modCan L bus f).pins = L.pins ∧
    (Live.modCan L bus f).time = L.time ∧
    (Live.modCan L bus f).ks = L.ks ∧
    (Live.modCan L bus f).rcd = L.rcd ∧
    (Live.modCan L bus f).saf = L.saf ∧
    (Live.modCan L bus f).seg = L.seg ∧
    (Live.modCan L bus f).node = L.node ∧
    (Live.modCan L bus f).conv = L.conv ∧
    (Live.modCan L bus f).twin = L.twin ∧
    (Live.modCan L bus f).eng = L.eng ∧
    (Live.modCan L bus f).chi = L.chi ∧
    (Live.modCan L bus f).cap = L.cap ∧
    (Live.modCan L bus f).est = L.est ∧
    (Live.modCan L bus f).th = L.th ∧
    (Live.modCan L bus f).mgr = L.mgr ∧
    (Live.modCan L bus f).lgc = L.lgc ∧
    (Live.modCan L bus f).upd = L.upd ∧
    (Live.modCan L bus f).jrn = L.jrn ∧
    (Live.modCan L bus f).dbg = L.dbg ∧
    (Live.modCan L bus f).ret = L.ret ∧
    (Live.modCan L bus f).obj = L.obj ∧
    (Live.modCan L bus f).blob = L.blob ∧
    (Live.modCan L bus f).out = L.out ∧
    (Live.modCan L bus f).free = L.free := by
  simp [Live.modCan]

theorem Live.setCan_frame (L : Live) (bus st : Nat) :
    (Live.setCan L bus st).mode = L.mode ∧
    (Live.setCan L bus st).pins = L.pins ∧
    (Live.setCan L bus st).time = L.time ∧
    (Live.setCan L bus st).ks = L.ks ∧
    (Live.setCan L bus st).rcd = L.rcd ∧
    (Live.setCan L bus st).saf = L.saf ∧
    (Live.setCan L bus st).seg = L.seg ∧
    (Live.setCan L bus st).node = L.node ∧
    (Live.setCan L bus st).conv = L.conv ∧
    (Live.setCan L bus st).twin = L.twin ∧
    (Live.setCan L bus st).eng = L.eng ∧
    (Live.setCan L bus st).chi = L.chi ∧
    (Live.setCan L bus st).cap = L.cap ∧
    (Live.setCan L bus st).est = L.est ∧
    (Live.setCan L bus st).th = L.th ∧
    (Live.setCan L bus st).mgr = L.mgr ∧
    (Live.setCan L bus st).lgc = L.lgc ∧
    (Live.setCan L bus st).upd = L.upd ∧
    (Live.setCan L bus st).jrn = L.jrn ∧
    (Live.setCan L bus st).dbg = L.dbg ∧
    (Live.setCan L bus st).ret = L.ret ∧
    (Live.setCan L bus st).blob = L.blob ∧
    (Live.setCan L bus st).out = L.out ∧
    (Live.setCan L bus st).free = L.free := by
  have h0 := @Live.modCan_frame
  simp [Live.setCan, h0]

theorem Live.toGeneralRing_frame (L : Live) (bus sof : Nat) (f : CanFrame) :
    (Live.toGeneralRing L bus sof f).mode = L.mode ∧
    (Live.toGeneralRing L bus sof f).pins = L.pins ∧
    (Live.toGeneralRing L bus sof f).time = L.time ∧
    (Live.toGeneralRing L bus sof f).ks = L.ks ∧
    (Live.toGeneralRing L bus sof f).saf = L.saf ∧
    (Live.toGeneralRing L bus sof f).seg = L.seg ∧
    (Live.toGeneralRing L bus sof f).node = L.node ∧
    (Live.toGeneralRing L bus sof f).conv = L.conv ∧
    (Live.toGeneralRing L bus sof f).twin = L.twin ∧
    (Live.toGeneralRing L bus sof f).eng = L.eng ∧
    (Live.toGeneralRing L bus sof f).chi = L.chi ∧
    (Live.toGeneralRing L bus sof f).est = L.est ∧
    (Live.toGeneralRing L bus sof f).th = L.th ∧
    (Live.toGeneralRing L bus sof f).mgr = L.mgr ∧
    (Live.toGeneralRing L bus sof f).lgc = L.lgc ∧
    (Live.toGeneralRing L bus sof f).upd = L.upd ∧
    (Live.toGeneralRing L bus sof f).jrn = L.jrn ∧
    (Live.toGeneralRing L bus sof f).ret = L.ret ∧
    (Live.toGeneralRing L bus sof f).blob = L.blob ∧
    (Live.toGeneralRing L bus sof f).out = L.out ∧
    (Live.toGeneralRing L bus sof f).free = L.free := by
  have h0 := @Live.modCan_frame
  simp [Live.toGeneralRing, h0]

theorem Live.toLogicRing_frame (L : Live) (bus sof : Nat) (f : CanFrame) :
    (Live.toLogicRing L bus sof f).mode = L.mode ∧
    (Live.toLogicRing L bus sof f).pins = L.pins ∧
    (Live.toLogicRing L bus sof f).time = L.time ∧
    (Live.toLogicRing L bus sof f).ks = L.ks ∧
    (Live.toLogicRing L bus sof f).saf = L.saf ∧
    (Live.toLogicRing L bus sof f).seg = L.seg ∧
    (Live.toLogicRing L bus sof f).node = L.node ∧
    (Live.toLogicRing L bus sof f).conv = L.conv ∧
    (Live.toLogicRing L bus sof f).twin = L.twin ∧
    (Live.toLogicRing L bus sof f).eng = L.eng ∧
    (Live.toLogicRing L bus sof f).chi = L.chi ∧
    (Live.toLogicRing L bus sof f).est = L.est ∧
    (Live.toLogicRing L bus sof f).th = L.th ∧
    (Live.toLogicRing L bus sof f).mgr = L.mgr ∧
    (Live.toLogicRing L bus sof f).lgc = L.lgc ∧
    (Live.toLogicRing L bus sof f).upd = L.upd ∧
    (Live.toLogicRing L bus sof f).jrn = L.jrn ∧
    (Live.toLogicRing L bus sof f).ret = L.ret ∧
    (Live.toLogicRing L bus sof f).blob = L.blob ∧
    (Live.toLogicRing L bus sof f).out = L.out ∧
    (Live.toLogicRing L bus sof f).free = L.free := by
  simp [Live.toLogicRing]

theorem Live.toHpb_frame (L : Live) (bus n sof : Nat) (f : CanFrame) :
    (Live.toHpb L bus n sof f).mode = L.mode ∧
    (Live.toHpb L bus n sof f).pins = L.pins ∧
    (Live.toHpb L bus n sof f).time = L.time ∧
    (Live.toHpb L bus n sof f).ks = L.ks ∧
    (Live.toHpb L bus n sof f).saf = L.saf ∧
    (Live.toHpb L bus n sof f).seg = L.seg ∧
    (Live.toHpb L bus n sof f).node = L.node ∧
    (Live.toHpb L bus n sof f).conv = L.conv ∧
    (Live.toHpb L bus n sof f).twin = L.twin ∧
    (Live.toHpb L bus n sof f).eng = L.eng ∧
    (Live.toHpb L bus n sof f).chi = L.chi ∧
    (Live.toHpb L bus n sof f).est = L.est ∧
    (Live.toHpb L bus n sof f).th = L.th ∧
    (Live.toHpb L bus n sof f).mgr = L.mgr ∧
    (Live.toHpb L bus n sof f).lgc = L.lgc ∧
    (Live.toHpb L bus n sof f).upd = L.upd ∧
    (Live.toHpb L bus n sof f).jrn = L.jrn ∧
    (Live.toHpb L bus n sof f).ret = L.ret ∧
    (Live.toHpb L bus n sof f).blob = L.blob ∧
    (Live.toHpb L bus n sof f).out = L.out ∧
    (Live.toHpb L bus n sof f).free = L.free := by
  have h0 := @Live.modCan_frame
  simp [Live.toHpb, h0]

theorem Live.canAccept_frame (L : Live) (bus sof : Nat) (f : CanFrame) :
    (Live.canAccept L bus sof f).mode = L.mode ∧
    (Live.canAccept L bus sof f).pins = L.pins ∧
    (Live.canAccept L bus sof f).time = L.time ∧
    (Live.canAccept L bus sof f).ks = L.ks ∧
    (Live.canAccept L bus sof f).saf = L.saf ∧
    (Live.canAccept L bus sof f).seg = L.seg ∧
    (Live.canAccept L bus sof f).node = L.node ∧
    (Live.canAccept L bus sof f).conv = L.conv ∧
    (Live.canAccept L bus sof f).twin = L.twin ∧
    (Live.canAccept L bus sof f).eng = L.eng ∧
    (Live.canAccept L bus sof f).chi = L.chi ∧
    (Live.canAccept L bus sof f).est = L.est ∧
    (Live.canAccept L bus sof f).th = L.th ∧
    (Live.canAccept L bus sof f).mgr = L.mgr ∧
    (Live.canAccept L bus sof f).lgc = L.lgc ∧
    (Live.canAccept L bus sof f).upd = L.upd ∧
    (Live.canAccept L bus sof f).jrn = L.jrn ∧
    (Live.canAccept L bus sof f).ret = L.ret ∧
    (Live.canAccept L bus sof f).blob = L.blob ∧
    (Live.canAccept L bus sof f).out = L.out ∧
    (Live.canAccept L bus sof f).free = L.free := by
  have h0 := @Live.toGeneralRing_frame
  have h1 := @Live.toHpb_frame
  have h2 := @Live.toLogicRing_frame
  simp only [Live.canAccept]
  (repeat' split) <;> simp [h0, h1, h2]

theorem Live.dispatchEnd_frame (L : Live) (bus id : Nat) (sent : Bool) :
    (Live.dispatchEnd L bus id sent).mode = L.mode ∧
    (Live.dispatchEnd L bus id sent).pins = L.pins ∧
    (Live.dispatchEnd L bus id sent).time = L.time ∧
    (Live.dispatchEnd L bus id sent).ks = L.ks ∧
    (Live.dispatchEnd L bus id sent).rcd = L.rcd ∧
    (Live.dispatchEnd L bus id sent).saf = L.saf ∧
    (Live.dispatchEnd L bus id sent).seg = L.seg ∧
    (Live.dispatchEnd L bus id sent).node = L.node ∧
    (Live.dispatchEnd L bus id sent).conv = L.conv ∧
    (Live.dispatchEnd L bus id sent).eng = L.eng ∧
    (Live.dispatchEnd L bus id sent).chi = L.chi ∧
    (Live.dispatchEnd L bus id sent).cap = L.cap ∧
    (Live.dispatchEnd L bus id sent).est = L.est ∧
    (Live.dispatchEnd L bus id sent).th = L.th ∧
    (Live.dispatchEnd L bus id sent).com = L.com ∧
    (Live.dispatchEnd L bus id sent).lgc = L.lgc ∧
    (Live.dispatchEnd L bus id sent).upd = L.upd ∧
    (Live.dispatchEnd L bus id sent).dbg = L.dbg ∧
    (Live.dispatchEnd L bus id sent).ret = L.ret ∧
    (Live.dispatchEnd L bus id sent).obj = L.obj ∧
    (Live.dispatchEnd L bus id sent).blob = L.blob ∧
    (Live.dispatchEnd L bus id sent).out = L.out ∧
    (Live.dispatchEnd L bus id sent).free = L.free := by
  have h0 := @Live.jdone_frame
  simp only [Live.dispatchEnd]
  (repeat' split) <;> simp [h0]

theorem Live.outcome_frame (L : Live) (bus : Nat) (f : TxFrame) (code : Nat) :
    (Live.outcome L bus f code).mode = L.mode ∧
    (Live.outcome L bus f code).pins = L.pins ∧
    (Live.outcome L bus f code).time = L.time ∧
    (Live.outcome L bus f code).ks = L.ks ∧
    (Live.outcome L bus f code).rcd = L.rcd ∧
    (Live.outcome L bus f code).saf = L.saf ∧
    (Live.outcome L bus f code).seg = L.seg ∧
    (Live.outcome L bus f code).node = L.node ∧
    (Live.outcome L bus f code).conv = L.conv ∧
    (Live.outcome L bus f code).eng = L.eng ∧
    (Live.outcome L bus f code).chi = L.chi ∧
    (Live.outcome L bus f code).cap = L.cap ∧
    (Live.outcome L bus f code).est = L.est ∧
    (Live.outcome L bus f code).th = L.th ∧
    (Live.outcome L bus f code).lgc = L.lgc ∧
    (Live.outcome L bus f code).upd = L.upd ∧
    (Live.outcome L bus f code).dbg = L.dbg ∧
    (Live.outcome L bus f code).ret = L.ret ∧
    (Live.outcome L bus f code).obj = L.obj ∧
    (Live.outcome L bus f code).blob = L.blob ∧
    (Live.outcome L bus f code).free = L.free := by
  have h0 := @Live.modCan_frame
  have h1 := @Live.dispatchEnd_frame
  simp [Live.outcome, h0, h1]

theorem Live.commitBuffer_frame (L : Live) (bus : Nat) :
    (Live.commitBuffer L bus).mode = L.mode ∧
    (Live.commitBuffer L bus).pins = L.pins ∧
    (Live.commitBuffer L bus).ks = L.ks ∧
    (Live.commitBuffer L bus).rcd = L.rcd ∧
    (Live.commitBuffer L bus).saf = L.saf ∧
    (Live.commitBuffer L bus).seg = L.seg ∧
    (Live.commitBuffer L bus).node = L.node ∧
    (Live.commitBuffer L bus).conv = L.conv ∧
    (Live.commitBuffer L bus).twin = L.twin ∧
    (Live.commitBuffer L bus).eng = L.eng ∧
    (Live.commitBuffer L bus).chi = L.chi ∧
    (Live.commitBuffer L bus).cap = L.cap ∧
    (Live.commitBuffer L bus).est = L.est ∧
    (Live.commitBuffer L bus).th = L.th ∧
    (Live.commitBuffer L bus).mgr = L.mgr ∧
    (Live.commitBuffer L bus).lgc = L.lgc ∧
    (Live.commitBuffer L bus).upd = L.upd ∧
    (Live.commitBuffer L bus).jrn = L.jrn ∧
    (Live.commitBuffer L bus).dbg = L.dbg ∧
    (Live.commitBuffer L bus).ret = L.ret ∧
    (Live.commitBuffer L bus).obj = L.obj ∧
    (Live.commitBuffer L bus).blob = L.blob ∧
    (Live.commitBuffer L bus).free = L.free := by
  have h0 := @Live.modCan_frame
  simp only [Live.commitBuffer]
  (repeat' split) <;> simp [h0]

theorem Live.withdraw_frame (L : Live) (bus : Nat) (f : TxFrame) :
    (Live.withdraw L bus f).mode = L.mode ∧
    (Live.withdraw L bus f).pins = L.pins ∧
    (Live.withdraw L bus f).time = L.time ∧
    (Live.withdraw L bus f).ks = L.ks ∧
    (Live.withdraw L bus f).rcd = L.rcd ∧
    (Live.withdraw L bus f).saf = L.saf ∧
    (Live.withdraw L bus f).seg = L.seg ∧
    (Live.withdraw L bus f).node = L.node ∧
    (Live.withdraw L bus f).conv = L.conv ∧
    (Live.withdraw L bus f).twin = L.twin ∧
    (Live.withdraw L bus f).eng = L.eng ∧
    (Live.withdraw L bus f).chi = L.chi ∧
    (Live.withdraw L bus f).cap = L.cap ∧
    (Live.withdraw L bus f).est = L.est ∧
    (Live.withdraw L bus f).th = L.th ∧
    (Live.withdraw L bus f).mgr = L.mgr ∧
    (Live.withdraw L bus f).lgc = L.lgc ∧
    (Live.withdraw L bus f).upd = L.upd ∧
    (Live.withdraw L bus f).jrn = L.jrn ∧
    (Live.withdraw L bus f).dbg = L.dbg ∧
    (Live.withdraw L bus f).ret = L.ret ∧
    (Live.withdraw L bus f).obj = L.obj ∧
    (Live.withdraw L bus f).blob = L.blob ∧
    (Live.withdraw L bus f).out = L.out ∧
    (Live.withdraw L bus f).free = L.free := by
  have h0 := @Live.modCan_frame
  simp only [Live.withdraw]
  (repeat' split) <;> simp [h0]

theorem Live.loadBuffer_frame (L : Live) (bus : Nat) :
    (Live.loadBuffer L bus).mode = L.mode ∧
    (Live.loadBuffer L bus).pins = L.pins ∧
    (Live.loadBuffer L bus).ks = L.ks ∧
    (Live.loadBuffer L bus).rcd = L.rcd ∧
    (Live.loadBuffer L bus).saf = L.saf ∧
    (Live.loadBuffer L bus).seg = L.seg ∧
    (Live.loadBuffer L bus).node = L.node ∧
    (Live.loadBuffer L bus).conv = L.conv ∧
    (Live.loadBuffer L bus).twin = L.twin ∧
    (Live.loadBuffer L bus).eng = L.eng ∧
    (Live.loadBuffer L bus).chi = L.chi ∧
    (Live.loadBuffer L bus).cap = L.cap ∧
    (Live.loadBuffer L bus).est = L.est ∧
    (Live.loadBuffer L bus).th = L.th ∧
    (Live.loadBuffer L bus).mgr = L.mgr ∧
    (Live.loadBuffer L bus).lgc = L.lgc ∧
    (Live.loadBuffer L bus).upd = L.upd ∧
    (Live.loadBuffer L bus).jrn = L.jrn ∧
    (Live.loadBuffer L bus).dbg = L.dbg ∧
    (Live.loadBuffer L bus).ret = L.ret ∧
    (Live.loadBuffer L bus).obj = L.obj ∧
    (Live.loadBuffer L bus).blob = L.blob ∧
    (Live.loadBuffer L bus).free = L.free := by
  have h0 := @Live.commitBuffer_frame
  have h1 := @Live.modCan_frame
  have h2 := @Live.withdraw_frame
  simp only [Live.loadBuffer]
  (repeat' split) <;> simp [h0, h1, h2]

theorem Live.promote_frame (L : Live) (bus : Nat) :
    (Live.promote L bus).mode = L.mode ∧
    (Live.promote L bus).pins = L.pins ∧
    (Live.promote L bus).ks = L.ks ∧
    (Live.promote L bus).rcd = L.rcd ∧
    (Live.promote L bus).saf = L.saf ∧
    (Live.promote L bus).seg = L.seg ∧
    (Live.promote L bus).node = L.node ∧
    (Live.promote L bus).conv = L.conv ∧
    (Live.promote L bus).twin = L.twin ∧
    (Live.promote L bus).eng = L.eng ∧
    (Live.promote L bus).chi = L.chi ∧
    (Live.promote L bus).cap = L.cap ∧
    (Live.promote L bus).est = L.est ∧
    (Live.promote L bus).th = L.th ∧
    (Live.promote L bus).mgr = L.mgr ∧
    (Live.promote L bus).lgc = L.lgc ∧
    (Live.promote L bus).upd = L.upd ∧
    (Live.promote L bus).jrn = L.jrn ∧
    (Live.promote L bus).dbg = L.dbg ∧
    (Live.promote L bus).ret = L.ret ∧
    (Live.promote L bus).obj = L.obj ∧
    (Live.promote L bus).blob = L.blob ∧
    (Live.promote L bus).out = L.out ∧
    (Live.promote L bus).free = L.free := by
  have h0 := @Live.modCan_frame
  simp only [Live.promote]
  (repeat' split) <;> simp [h0]

theorem Live.frameLate_frame (L : Live) (bus : Nat) (f : TxFrame) :
    (Live.frameLate L bus f).mode = L.mode ∧
    (Live.frameLate L bus f).pins = L.pins ∧
    (Live.frameLate L bus f).time = L.time ∧
    (Live.frameLate L bus f).ks = L.ks ∧
    (Live.frameLate L bus f).saf = L.saf ∧
    (Live.frameLate L bus f).seg = L.seg ∧
    (Live.frameLate L bus f).node = L.node ∧
    (Live.frameLate L bus f).conv = L.conv ∧
    (Live.frameLate L bus f).eng = L.eng ∧
    (Live.frameLate L bus f).chi = L.chi ∧
    (Live.frameLate L bus f).est = L.est ∧
    (Live.frameLate L bus f).th = L.th ∧
    (Live.frameLate L bus f).lgc = L.lgc ∧
    (Live.frameLate L bus f).upd = L.upd ∧
    (Live.frameLate L bus f).ret = L.ret ∧
    (Live.frameLate L bus f).blob = L.blob ∧
    (Live.frameLate L bus f).free = L.free := by
  have h0 := @Live.outcome_frame
  have h1 := @Live.modCan_frame
  simp [Live.frameLate, h0, h1]

theorem Live.deadlines_frame (L : Live) (bus : Nat) :
    (Live.deadlines L bus).mode = L.mode ∧
    (Live.deadlines L bus).pins = L.pins ∧
    (Live.deadlines L bus).ks = L.ks ∧
    (Live.deadlines L bus).saf = L.saf ∧
    (Live.deadlines L bus).seg = L.seg ∧
    (Live.deadlines L bus).node = L.node ∧
    (Live.deadlines L bus).conv = L.conv ∧
    (Live.deadlines L bus).eng = L.eng ∧
    (Live.deadlines L bus).chi = L.chi ∧
    (Live.deadlines L bus).est = L.est ∧
    (Live.deadlines L bus).th = L.th ∧
    (Live.deadlines L bus).lgc = L.lgc ∧
    (Live.deadlines L bus).upd = L.upd ∧
    (Live.deadlines L bus).ret = L.ret ∧
    (Live.deadlines L bus).blob = L.blob ∧
    (Live.deadlines L bus).free = L.free := by
  have h0 := @Live.frameLate_frame
  simp only [Live.deadlines]
  (repeat' split) <;> simp [h0]

theorem Live.moveFrame_frame (L : Live) (bus : Nat) (f : TxFrame) :
    (Live.moveFrame L bus f).mode = L.mode ∧
    (Live.moveFrame L bus f).pins = L.pins ∧
    (Live.moveFrame L bus f).time = L.time ∧
    (Live.moveFrame L bus f).ks = L.ks ∧
    (Live.moveFrame L bus f).saf = L.saf ∧
    (Live.moveFrame L bus f).seg = L.seg ∧
    (Live.moveFrame L bus f).node = L.node ∧
    (Live.moveFrame L bus f).conv = L.conv ∧
    (Live.moveFrame L bus f).twin = L.twin ∧
    (Live.moveFrame L bus f).eng = L.eng ∧
    (Live.moveFrame L bus f).chi = L.chi ∧
    (Live.moveFrame L bus f).est = L.est ∧
    (Live.moveFrame L bus f).th = L.th ∧
    (Live.moveFrame L bus f).mgr = L.mgr ∧
    (Live.moveFrame L bus f).lgc = L.lgc ∧
    (Live.moveFrame L bus f).upd = L.upd ∧
    (Live.moveFrame L bus f).jrn = L.jrn ∧
    (Live.moveFrame L bus f).ret = L.ret ∧
    (Live.moveFrame L bus f).blob = L.blob ∧
    (Live.moveFrame L bus f).out = L.out ∧
    (Live.moveFrame L bus f).free = L.free := by
  have h0 := @Live.modCan_frame
  simp [Live.moveFrame, h0]

theorem Live.moveClass0_frame (L : Live) (bus : Nat) :
    (Live.moveClass0 L bus).mode = L.mode ∧
    (Live.moveClass0 L bus).pins = L.pins ∧
    (Live.moveClass0 L bus).time = L.time ∧
    (Live.moveClass0 L bus).ks = L.ks ∧
    (Live.moveClass0 L bus).saf = L.saf ∧
    (Live.moveClass0 L bus).seg = L.seg ∧
    (Live.moveClass0 L bus).node = L.node ∧
    (Live.moveClass0 L bus).conv = L.conv ∧
    (Live.moveClass0 L bus).twin = L.twin ∧
    (Live.moveClass0 L bus).eng = L.eng ∧
    (Live.moveClass0 L bus).chi = L.chi ∧
    (Live.moveClass0 L bus).est = L.est ∧
    (Live.moveClass0 L bus).th = L.th ∧
    (Live.moveClass0 L bus).mgr = L.mgr ∧
    (Live.moveClass0 L bus).lgc = L.lgc ∧
    (Live.moveClass0 L bus).upd = L.upd ∧
    (Live.moveClass0 L bus).jrn = L.jrn ∧
    (Live.moveClass0 L bus).ret = L.ret ∧
    (Live.moveClass0 L bus).blob = L.blob ∧
    (Live.moveClass0 L bus).out = L.out ∧
    (Live.moveClass0 L bus).free = L.free := by
  have h0 := @Live.moveFrame_frame
  have h1 := @Live.modCan_frame
  simp [Live.moveClass0, h0, h1]

theorem Live.bothCheck_frame (L : Live) :
    (Live.bothCheck L).mode = L.mode ∧
    (Live.bothCheck L).pins = L.pins ∧
    (Live.bothCheck L).time = L.time ∧
    (Live.bothCheck L).ks = L.ks ∧
    (Live.bothCheck L).saf = L.saf ∧
    (Live.bothCheck L).seg = L.seg ∧
    (Live.bothCheck L).node = L.node ∧
    (Live.bothCheck L).conv = L.conv ∧
    (Live.bothCheck L).twin = L.twin ∧
    (Live.bothCheck L).eng = L.eng ∧
    (Live.bothCheck L).chi = L.chi ∧
    (Live.bothCheck L).est = L.est ∧
    (Live.bothCheck L).th = L.th ∧
    (Live.bothCheck L).mgr = L.mgr ∧
    (Live.bothCheck L).lgc = L.lgc ∧
    (Live.bothCheck L).upd = L.upd ∧
    (Live.bothCheck L).jrn = L.jrn ∧
    (Live.bothCheck L).ret = L.ret ∧
    (Live.bothCheck L).obj = L.obj ∧
    (Live.bothCheck L).blob = L.blob ∧
    (Live.bothCheck L).out = L.out ∧
    (Live.bothCheck L).free = L.free := by
  simp [Live.bothCheck]

theorem Live.noticeWatch_frame (L : Live) :
    (Live.noticeWatch L).mode = L.mode ∧
    (Live.noticeWatch L).time = L.time ∧
    (Live.noticeWatch L).ks = L.ks ∧
    (Live.noticeWatch L).seg = L.seg ∧
    (Live.noticeWatch L).node = L.node ∧
    (Live.noticeWatch L).conv = L.conv ∧
    (Live.noticeWatch L).twin = L.twin ∧
    (Live.noticeWatch L).eng = L.eng ∧
    (Live.noticeWatch L).chi = L.chi ∧
    (Live.noticeWatch L).est = L.est ∧
    (Live.noticeWatch L).th = L.th ∧
    (Live.noticeWatch L).mgr = L.mgr ∧
    (Live.noticeWatch L).lgc = L.lgc ∧
    (Live.noticeWatch L).upd = L.upd ∧
    (Live.noticeWatch L).jrn = L.jrn ∧
    (Live.noticeWatch L).ret = L.ret ∧
    (Live.noticeWatch L).obj = L.obj ∧
    (Live.noticeWatch L).blob = L.blob ∧
    (Live.noticeWatch L).out = L.out ∧
    (Live.noticeWatch L).free = L.free := by
  have h0 := @Live.openElement_frame
  simp only [Live.noticeWatch]
  (repeat' split) <;> simp [h0]

theorem Live.degraded_frame (L : Live) (bus : Nat) :
    (Live.degraded L bus).mode = L.mode ∧
    (Live.degraded L bus).pins = L.pins ∧
    (Live.degraded L bus).time = L.time ∧
    (Live.degraded L bus).ks = L.ks ∧
    (Live.degraded L bus).saf = L.saf ∧
    (Live.degraded L bus).seg = L.seg ∧
    (Live.degraded L bus).node = L.node ∧
    (Live.degraded L bus).conv = L.conv ∧
    (Live.degraded L bus).twin = L.twin ∧
    (Live.degraded L bus).eng = L.eng ∧
    (Live.degraded L bus).chi = L.chi ∧
    (Live.degraded L bus).est = L.est ∧
    (Live.degraded L bus).th = L.th ∧
    (Live.degraded L bus).mgr = L.mgr ∧
    (Live.degraded L bus).lgc = L.lgc ∧
    (Live.degraded L bus).upd = L.upd ∧
    (Live.degraded L bus).jrn = L.jrn ∧
    (Live.degraded L bus).ret = L.ret ∧
    (Live.degraded L bus).blob = L.blob ∧
    (Live.degraded L bus).out = L.out ∧
    (Live.degraded L bus).free = L.free := by
  have h0 := @Live.bothCheck_frame
  have h1 := @Live.moveClass0_frame
  simp [Live.degraded, h0, h1]

theorem Live.startRecovery_frame (L : Live) (bus : Nat) :
    (Live.startRecovery L bus).mode = L.mode ∧
    (Live.startRecovery L bus).pins = L.pins ∧
    (Live.startRecovery L bus).time = L.time ∧
    (Live.startRecovery L bus).ks = L.ks ∧
    (Live.startRecovery L bus).rcd = L.rcd ∧
    (Live.startRecovery L bus).saf = L.saf ∧
    (Live.startRecovery L bus).seg = L.seg ∧
    (Live.startRecovery L bus).node = L.node ∧
    (Live.startRecovery L bus).conv = L.conv ∧
    (Live.startRecovery L bus).twin = L.twin ∧
    (Live.startRecovery L bus).eng = L.eng ∧
    (Live.startRecovery L bus).chi = L.chi ∧
    (Live.startRecovery L bus).cap = L.cap ∧
    (Live.startRecovery L bus).est = L.est ∧
    (Live.startRecovery L bus).th = L.th ∧
    (Live.startRecovery L bus).mgr = L.mgr ∧
    (Live.startRecovery L bus).lgc = L.lgc ∧
    (Live.startRecovery L bus).upd = L.upd ∧
    (Live.startRecovery L bus).jrn = L.jrn ∧
    (Live.startRecovery L bus).dbg = L.dbg ∧
    (Live.startRecovery L bus).ret = L.ret ∧
    (Live.startRecovery L bus).blob = L.blob ∧
    (Live.startRecovery L bus).out = L.out ∧
    (Live.startRecovery L bus).free = L.free := by
  have h0 := @Live.setCan_frame
  have h1 := @Live.modCan_frame
  simp [Live.startRecovery, h0, h1]

theorem Live.busOff_frame (L : Live) (bus : Nat) :
    (Live.busOff L bus).mode = L.mode ∧
    (Live.busOff L bus).pins = L.pins ∧
    (Live.busOff L bus).time = L.time ∧
    (Live.busOff L bus).ks = L.ks ∧
    (Live.busOff L bus).saf = L.saf ∧
    (Live.busOff L bus).seg = L.seg ∧
    (Live.busOff L bus).node = L.node ∧
    (Live.busOff L bus).conv = L.conv ∧
    (Live.busOff L bus).twin = L.twin ∧
    (Live.busOff L bus).eng = L.eng ∧
    (Live.busOff L bus).chi = L.chi ∧
    (Live.busOff L bus).est = L.est ∧
    (Live.busOff L bus).th = L.th ∧
    (Live.busOff L bus).mgr = L.mgr ∧
    (Live.busOff L bus).lgc = L.lgc ∧
    (Live.busOff L bus).upd = L.upd ∧
    (Live.busOff L bus).jrn = L.jrn ∧
    (Live.busOff L bus).ret = L.ret ∧
    (Live.busOff L bus).blob = L.blob ∧
    (Live.busOff L bus).out = L.out ∧
    (Live.busOff L bus).free = L.free := by
  have h0 := @Live.modCan_frame
  have h1 := @Live.setCan_frame
  have h2 := @Live.degraded_frame
  have h3 := @Live.startRecovery_frame
  simp [Live.busOff, h0, h1, h2, h3]

theorem Live.followUp_frame (L : Live) (bus seq : Nat) :
    (Live.followUp L bus seq).mode = L.mode ∧
    (Live.followUp L bus seq).pins = L.pins ∧
    (Live.followUp L bus seq).ks = L.ks ∧
    (Live.followUp L bus seq).saf = L.saf ∧
    (Live.followUp L bus seq).seg = L.seg ∧
    (Live.followUp L bus seq).node = L.node ∧
    (Live.followUp L bus seq).conv = L.conv ∧
    (Live.followUp L bus seq).twin = L.twin ∧
    (Live.followUp L bus seq).eng = L.eng ∧
    (Live.followUp L bus seq).chi = L.chi ∧
    (Live.followUp L bus seq).est = L.est ∧
    (Live.followUp L bus seq).th = L.th ∧
    (Live.followUp L bus seq).mgr = L.mgr ∧
    (Live.followUp L bus seq).lgc = L.lgc ∧
    (Live.followUp L bus seq).upd = L.upd ∧
    (Live.followUp L bus seq).jrn = L.jrn ∧
    (Live.followUp L bus seq).ret = L.ret ∧
    (Live.followUp L bus seq).blob = L.blob ∧
    (Live.followUp L bus seq).out = L.out ∧
    (Live.followUp L bus seq).free = L.free := by
  simp only [Live.followUp]
  (repeat' split) <;> simp

theorem Live.acknowledged_frame (L : Live) (bus : Nat) :
    (Live.acknowledged L bus).mode = L.mode ∧
    (Live.acknowledged L bus).pins = L.pins ∧
    (Live.acknowledged L bus).time = L.time ∧
    (Live.acknowledged L bus).ks = L.ks ∧
    (Live.acknowledged L bus).rcd = L.rcd ∧
    (Live.acknowledged L bus).saf = L.saf ∧
    (Live.acknowledged L bus).seg = L.seg ∧
    (Live.acknowledged L bus).node = L.node ∧
    (Live.acknowledged L bus).conv = L.conv ∧
    (Live.acknowledged L bus).twin = L.twin ∧
    (Live.acknowledged L bus).eng = L.eng ∧
    (Live.acknowledged L bus).chi = L.chi ∧
    (Live.acknowledged L bus).cap = L.cap ∧
    (Live.acknowledged L bus).est = L.est ∧
    (Live.acknowledged L bus).th = L.th ∧
    (Live.acknowledged L bus).mgr = L.mgr ∧
    (Live.acknowledged L bus).lgc = L.lgc ∧
    (Live.acknowledged L bus).upd = L.upd ∧
    (Live.acknowledged L bus).jrn = L.jrn ∧
    (Live.acknowledged L bus).dbg = L.dbg ∧
    (Live.acknowledged L bus).ret = L.ret ∧
    (Live.acknowledged L bus).blob = L.blob ∧
    (Live.acknowledged L bus).out = L.out ∧
    (Live.acknowledged L bus).free = L.free := by
  have h0 := @Live.setCan_frame
  have h1 := @Live.modCan_frame
  simp [Live.acknowledged, h0, h1]

theorem Live.moveFailed_frame (L : Live) (bus : Nat) (f : TxFrame) :
    (Live.moveFailed L bus f).mode = L.mode ∧
    (Live.moveFailed L bus f).pins = L.pins ∧
    (Live.moveFailed L bus f).time = L.time ∧
    (Live.moveFailed L bus f).ks = L.ks ∧
    (Live.moveFailed L bus f).saf = L.saf ∧
    (Live.moveFailed L bus f).seg = L.seg ∧
    (Live.moveFailed L bus f).node = L.node ∧
    (Live.moveFailed L bus f).conv = L.conv ∧
    (Live.moveFailed L bus f).twin = L.twin ∧
    (Live.moveFailed L bus f).eng = L.eng ∧
    (Live.moveFailed L bus f).chi = L.chi ∧
    (Live.moveFailed L bus f).est = L.est ∧
    (Live.moveFailed L bus f).th = L.th ∧
    (Live.moveFailed L bus f).mgr = L.mgr ∧
    (Live.moveFailed L bus f).lgc = L.lgc ∧
    (Live.moveFailed L bus f).upd = L.upd ∧
    (Live.moveFailed L bus f).jrn = L.jrn ∧
    (Live.moveFailed L bus f).ret = L.ret ∧
    (Live.moveFailed L bus f).blob = L.blob ∧
    (Live.moveFailed L bus f).out = L.out ∧
    (Live.moveFailed L bus f).free = L.free := by
  have h0 := @Live.moveFrame_frame
  have h1 := @Live.modCan_frame
  simp [Live.moveFailed, h0, h1]

theorem Live.txEnd_frame (L : Live) (bus tb : Nat) (how : TxEnd) :
    (Live.txEnd L bus tb how).mode = L.mode ∧
    (Live.txEnd L bus tb how).pins = L.pins ∧
    (Live.txEnd L bus tb how).ks = L.ks ∧
    (Live.txEnd L bus tb how).saf = L.saf ∧
    (Live.txEnd L bus tb how).seg = L.seg ∧
    (Live.txEnd L bus tb how).node = L.node ∧
    (Live.txEnd L bus tb how).conv = L.conv ∧
    (Live.txEnd L bus tb how).eng = L.eng ∧
    (Live.txEnd L bus tb how).chi = L.chi ∧
    (Live.txEnd L bus tb how).est = L.est ∧
    (Live.txEnd L bus tb how).th = L.th ∧
    (Live.txEnd L bus tb how).lgc = L.lgc ∧
    (Live.txEnd L bus tb how).upd = L.upd ∧
    (Live.txEnd L bus tb how).ret = L.ret ∧
    (Live.txEnd L bus tb how).blob = L.blob ∧
    (Live.txEnd L bus tb how).free = L.free := by
  have h0 := @Live.commitBuffer_frame
  have h1 := @Live.outcome_frame
  have h2 := @Live.acknowledged_frame
  have h3 := @Live.modCan_frame
  have h4 := @Live.followUp_frame
  have h5 := @Live.moveFailed_frame
  simp only [Live.txEnd]
  (repeat' split) <;> simp [h0, h1, h2, h3, h4, h5]

theorem Live.cancelFrames_frame (L : Live) (bus : Nat) (gone : List TxFrame) :
    (Live.cancelFrames L bus gone).mode = L.mode ∧
    (Live.cancelFrames L bus gone).pins = L.pins ∧
    (Live.cancelFrames L bus gone).time = L.time ∧
    (Live.cancelFrames L bus gone).ks = L.ks ∧
    (Live.cancelFrames L bus gone).rcd = L.rcd ∧
    (Live.cancelFrames L bus gone).saf = L.saf ∧
    (Live.cancelFrames L bus gone).seg = L.seg ∧
    (Live.cancelFrames L bus gone).node = L.node ∧
    (Live.cancelFrames L bus gone).conv = L.conv ∧
    (Live.cancelFrames L bus gone).eng = L.eng ∧
    (Live.cancelFrames L bus gone).chi = L.chi ∧
    (Live.cancelFrames L bus gone).cap = L.cap ∧
    (Live.cancelFrames L bus gone).est = L.est ∧
    (Live.cancelFrames L bus gone).th = L.th ∧
    (Live.cancelFrames L bus gone).lgc = L.lgc ∧
    (Live.cancelFrames L bus gone).upd = L.upd ∧
    (Live.cancelFrames L bus gone).dbg = L.dbg ∧
    (Live.cancelFrames L bus gone).ret = L.ret ∧
    (Live.cancelFrames L bus gone).obj = L.obj ∧
    (Live.cancelFrames L bus gone).blob = L.blob ∧
    (Live.cancelFrames L bus gone).free = L.free := by
  have h0 := @Live.outcome_frame
  have h1 := @Live.modCan_frame
  simp [Live.cancelFrames, h0, h1]

theorem Live.cancelReference_frame (L : Live) (bus : Nat) :
    (Live.cancelReference L bus).mode = L.mode ∧
    (Live.cancelReference L bus).pins = L.pins ∧
    (Live.cancelReference L bus).ks = L.ks ∧
    (Live.cancelReference L bus).rcd = L.rcd ∧
    (Live.cancelReference L bus).saf = L.saf ∧
    (Live.cancelReference L bus).seg = L.seg ∧
    (Live.cancelReference L bus).node = L.node ∧
    (Live.cancelReference L bus).conv = L.conv ∧
    (Live.cancelReference L bus).eng = L.eng ∧
    (Live.cancelReference L bus).chi = L.chi ∧
    (Live.cancelReference L bus).cap = L.cap ∧
    (Live.cancelReference L bus).est = L.est ∧
    (Live.cancelReference L bus).th = L.th ∧
    (Live.cancelReference L bus).lgc = L.lgc ∧
    (Live.cancelReference L bus).upd = L.upd ∧
    (Live.cancelReference L bus).dbg = L.dbg ∧
    (Live.cancelReference L bus).ret = L.ret ∧
    (Live.cancelReference L bus).obj = L.obj ∧
    (Live.cancelReference L bus).blob = L.blob ∧
    (Live.cancelReference L bus).free = L.free := by
  have h0 := @Live.cancelFrames_frame
  simp only [Live.cancelReference]
  (repeat' split) <;> simp [h0]

theorem Live.dropReferences_frame (L : Live) :
    (Live.dropReferences L).mode = L.mode ∧
    (Live.dropReferences L).pins = L.pins ∧
    (Live.dropReferences L).time = L.time ∧
    (Live.dropReferences L).ks = L.ks ∧
    (Live.dropReferences L).rcd = L.rcd ∧
    (Live.dropReferences L).saf = L.saf ∧
    (Live.dropReferences L).seg = L.seg ∧
    (Live.dropReferences L).node = L.node ∧
    (Live.dropReferences L).conv = L.conv ∧
    (Live.dropReferences L).eng = L.eng ∧
    (Live.dropReferences L).chi = L.chi ∧
    (Live.dropReferences L).cap = L.cap ∧
    (Live.dropReferences L).est = L.est ∧
    (Live.dropReferences L).th = L.th ∧
    (Live.dropReferences L).lgc = L.lgc ∧
    (Live.dropReferences L).upd = L.upd ∧
    (Live.dropReferences L).dbg = L.dbg ∧
    (Live.dropReferences L).ret = L.ret ∧
    (Live.dropReferences L).obj = L.obj ∧
    (Live.dropReferences L).blob = L.blob ∧
    (Live.dropReferences L).free = L.free := by
  have h0 := @Live.cancelFrames_frame
  simp [Live.dropReferences, h0]

end Sys2Proof.Machine
end

