-- ==== Sys2Proof/Laws/FrameTimeOps.lean ====
section
/-! SUPPORT. What each operation of Machine/TimeOps.lean leaves as it is. -/

namespace Sys2Proof.Machine

open Sys2Proof

theorem Live.updLead_frame (L : Live) :
    (Live.updLead L).mode = L.mode ∧
    (Live.updLead L).pins = L.pins ∧
    (Live.updLead L).ks = L.ks ∧
    (Live.updLead L).saf = L.saf ∧
    (Live.updLead L).seg = L.seg ∧
    (Live.updLead L).node = L.node ∧
    (Live.updLead L).conv = L.conv ∧
    (Live.updLead L).eng = L.eng ∧
    (Live.updLead L).chi = L.chi ∧
    (Live.updLead L).est = L.est ∧
    (Live.updLead L).th = L.th ∧
    (Live.updLead L).lgc = L.lgc ∧
    (Live.updLead L).upd = L.upd ∧
    (Live.updLead L).ret = L.ret ∧
    (Live.updLead L).obj = L.obj ∧
    (Live.updLead L).blob = L.blob ∧
    (Live.updLead L).free = L.free := by
  have h0 := @Live.dropReferences_frame
  simp [Live.updLead, h0]

theorem Live.useOffset_frame (L : Live) (off : Int) (src code : Nat) (payload : Bytes) :
    (Live.useOffset L off src code payload).mode = L.mode ∧
    (Live.useOffset L off src code payload).pins = L.pins ∧
    (Live.useOffset L off src code payload).ks = L.ks ∧
    (Live.useOffset L off src code payload).saf = L.saf ∧
    (Live.useOffset L off src code payload).seg = L.seg ∧
    (Live.useOffset L off src code payload).node = L.node ∧
    (Live.useOffset L off src code payload).conv = L.conv ∧
    (Live.useOffset L off src code payload).twin = L.twin ∧
    (Live.useOffset L off src code payload).eng = L.eng ∧
    (Live.useOffset L off src code payload).chi = L.chi ∧
    (Live.useOffset L off src code payload).est = L.est ∧
    (Live.useOffset L off src code payload).th = L.th ∧
    (Live.useOffset L off src code payload).mgr = L.mgr ∧
    (Live.useOffset L off src code payload).lgc = L.lgc ∧
    (Live.useOffset L off src code payload).upd = L.upd ∧
    (Live.useOffset L off src code payload).jrn = L.jrn ∧
    (Live.useOffset L off src code payload).ret = L.ret ∧
    (Live.useOffset L off src code payload).blob = L.blob ∧
    (Live.useOffset L off src code payload).out = L.out ∧
    (Live.useOffset L off src code payload).free = L.free := by
  simp [Live.useOffset]

theorem Live.sourceHeard_frame (L : Live) :
    (Live.sourceHeard L).mode = L.mode ∧
    (Live.sourceHeard L).pins = L.pins ∧
    (Live.sourceHeard L).time = L.time ∧
    (Live.sourceHeard L).ks = L.ks ∧
    (Live.sourceHeard L).saf = L.saf ∧
    (Live.sourceHeard L).seg = L.seg ∧
    (Live.sourceHeard L).node = L.node ∧
    (Live.sourceHeard L).conv = L.conv ∧
    (Live.sourceHeard L).twin = L.twin ∧
    (Live.sourceHeard L).eng = L.eng ∧
    (Live.sourceHeard L).chi = L.chi ∧
    (Live.sourceHeard L).cap = L.cap ∧
    (Live.sourceHeard L).est = L.est ∧
    (Live.sourceHeard L).th = L.th ∧
    (Live.sourceHeard L).mgr = L.mgr ∧
    (Live.sourceHeard L).lgc = L.lgc ∧
    (Live.sourceHeard L).upd = L.upd ∧
    (Live.sourceHeard L).jrn = L.jrn ∧
    (Live.sourceHeard L).dbg = L.dbg ∧
    (Live.sourceHeard L).ret = L.ret ∧
    (Live.sourceHeard L).blob = L.blob ∧
    (Live.sourceHeard L).out = L.out ∧
    (Live.sourceHeard L).free = L.free := by
  simp [Live.sourceHeard]

theorem Live.lockedTo_frame (L : Live) (src code : Nat) (payload : Bytes) :
    (Live.lockedTo L src code payload).mode = L.mode ∧
    (Live.lockedTo L src code payload).pins = L.pins ∧
    (Live.lockedTo L src code payload).time = L.time ∧
    (Live.lockedTo L src code payload).ks = L.ks ∧
    (Live.lockedTo L src code payload).saf = L.saf ∧
    (Live.lockedTo L src code payload).seg = L.seg ∧
    (Live.lockedTo L src code payload).node = L.node ∧
    (Live.lockedTo L src code payload).conv = L.conv ∧
    (Live.lockedTo L src code payload).twin = L.twin ∧
    (Live.lockedTo L src code payload).eng = L.eng ∧
    (Live.lockedTo L src code payload).chi = L.chi ∧
    (Live.lockedTo L src code payload).est = L.est ∧
    (Live.lockedTo L src code payload).th = L.th ∧
    (Live.lockedTo L src code payload).mgr = L.mgr ∧
    (Live.lockedTo L src code payload).lgc = L.lgc ∧
    (Live.lockedTo L src code payload).upd = L.upd ∧
    (Live.lockedTo L src code payload).jrn = L.jrn ∧
    (Live.lockedTo L src code payload).ret = L.ret ∧
    (Live.lockedTo L src code payload).blob = L.blob ∧
    (Live.lockedTo L src code payload).out = L.out ∧
    (Live.lockedTo L src code payload).free = L.free := by
  simp [Live.lockedTo]

theorem Live.lockRun_frame (L : Live) (off : Int) (src code : Nat) (payload : Bytes) :
    (Live.lockRun L off src code payload).mode = L.mode ∧
    (Live.lockRun L off src code payload).pins = L.pins ∧
    (Live.lockRun L off src code payload).ks = L.ks ∧
    (Live.lockRun L off src code payload).saf = L.saf ∧
    (Live.lockRun L off src code payload).seg = L.seg ∧
    (Live.lockRun L off src code payload).node = L.node ∧
    (Live.lockRun L off src code payload).conv = L.conv ∧
    (Live.lockRun L off src code payload).twin = L.twin ∧
    (Live.lockRun L off src code payload).eng = L.eng ∧
    (Live.lockRun L off src code payload).chi = L.chi ∧
    (Live.lockRun L off src code payload).est = L.est ∧
    (Live.lockRun L off src code payload).th = L.th ∧
    (Live.lockRun L off src code payload).mgr = L.mgr ∧
    (Live.lockRun L off src code payload).lgc = L.lgc ∧
    (Live.lockRun L off src code payload).upd = L.upd ∧
    (Live.lockRun L off src code payload).jrn = L.jrn ∧
    (Live.lockRun L off src code payload).ret = L.ret ∧
    (Live.lockRun L off src code payload).blob = L.blob ∧
    (Live.lockRun L off src code payload).out = L.out ∧
    (Live.lockRun L off src code payload).free = L.free := by
  have h0 := @Live.lockedTo_frame
  simp [Live.lockRun, h0]

theorem Live.discardUsed_frame (L : Live) (p : Nat) :
    (Live.discardUsed L p).mode = L.mode ∧
    (Live.discardUsed L p).pins = L.pins ∧
    (Live.discardUsed L p).ks = L.ks ∧
    (Live.discardUsed L p).rcd = L.rcd ∧
    (Live.discardUsed L p).saf = L.saf ∧
    (Live.discardUsed L p).seg = L.seg ∧
    (Live.discardUsed L p).node = L.node ∧
    (Live.discardUsed L p).conv = L.conv ∧
    (Live.discardUsed L p).twin = L.twin ∧
    (Live.discardUsed L p).eng = L.eng ∧
    (Live.discardUsed L p).chi = L.chi ∧
    (Live.discardUsed L p).cap = L.cap ∧
    (Live.discardUsed L p).est = L.est ∧
    (Live.discardUsed L p).th = L.th ∧
    (Live.discardUsed L p).com = L.com ∧
    (Live.discardUsed L p).mgr = L.mgr ∧
    (Live.discardUsed L p).lgc = L.lgc ∧
    (Live.discardUsed L p).upd = L.upd ∧
    (Live.discardUsed L p).jrn = L.jrn ∧
    (Live.discardUsed L p).dbg = L.dbg ∧
    (Live.discardUsed L p).ret = L.ret ∧
    (Live.discardUsed L p).blob = L.blob ∧
    (Live.discardUsed L p).out = L.out ∧
    (Live.discardUsed L p).free = L.free := by
  simp only [Live.discardUsed]
  (repeat' split) <;> simp

theorem Live.usePair_frame (L : Live) (bus : Nat) (r : RefRx) (f : Bytes) :
    (Live.usePair L bus r f).mode = L.mode ∧
    (Live.usePair L bus r f).pins = L.pins ∧
    (Live.usePair L bus r f).ks = L.ks ∧
    (Live.usePair L bus r f).saf = L.saf ∧
    (Live.usePair L bus r f).seg = L.seg ∧
    (Live.usePair L bus r f).node = L.node ∧
    (Live.usePair L bus r f).conv = L.conv ∧
    (Live.usePair L bus r f).twin = L.twin ∧
    (Live.usePair L bus r f).eng = L.eng ∧
    (Live.usePair L bus r f).chi = L.chi ∧
    (Live.usePair L bus r f).est = L.est ∧
    (Live.usePair L bus r f).th = L.th ∧
    (Live.usePair L bus r f).mgr = L.mgr ∧
    (Live.usePair L bus r f).lgc = L.lgc ∧
    (Live.usePair L bus r f).upd = L.upd ∧
    (Live.usePair L bus r f).jrn = L.jrn ∧
    (Live.usePair L bus r f).ret = L.ret ∧
    (Live.usePair L bus r f).blob = L.blob ∧
    (Live.usePair L bus r f).out = L.out ∧
    (Live.usePair L bus r f).free = L.free := by
  have h0 := @Live.lockRun_frame
  have h1 := @Live.sourceHeard_frame
  have h2 := @Live.useOffset_frame
  simp [Live.usePair, h0, h1, h2]

theorem Live.followUpRx_frame (L : Live) (bus : Nat) (f : Bytes) :
    (Live.followUpRx L bus f).mode = L.mode ∧
    (Live.followUpRx L bus f).pins = L.pins ∧
    (Live.followUpRx L bus f).ks = L.ks ∧
    (Live.followUpRx L bus f).saf = L.saf ∧
    (Live.followUpRx L bus f).seg = L.seg ∧
    (Live.followUpRx L bus f).node = L.node ∧
    (Live.followUpRx L bus f).conv = L.conv ∧
    (Live.followUpRx L bus f).twin = L.twin ∧
    (Live.followUpRx L bus f).eng = L.eng ∧
    (Live.followUpRx L bus f).chi = L.chi ∧
    (Live.followUpRx L bus f).est = L.est ∧
    (Live.followUpRx L bus f).th = L.th ∧
    (Live.followUpRx L bus f).mgr = L.mgr ∧
    (Live.followUpRx L bus f).lgc = L.lgc ∧
    (Live.followUpRx L bus f).upd = L.upd ∧
    (Live.followUpRx L bus f).jrn = L.jrn ∧
    (Live.followUpRx L bus f).ret = L.ret ∧
    (Live.followUpRx L bus f).blob = L.blob ∧
    (Live.followUpRx L bus f).out = L.out ∧
    (Live.followUpRx L bus f).free = L.free := by
  have h0 := @Live.usePair_frame
  simp only [Live.followUpRx]
  (repeat' split) <;> simp [h0]

end Sys2Proof.Machine
end

