-- ==== Sys2Proof/Laws/FrameCanRows.lean ====
section
/-! SUPPORT. What each operation of Machine/CanRows.lean leaves as it is. -/

namespace Sys2Proof.Machine

open Sys2Proof

theorem Live.bayNotice_frame (L : Live) (data : Bytes) :
    (Live.bayNotice L data).time = L.time ∧
    (Live.bayNotice L data).ks = L.ks ∧
    (Live.bayNotice L data).seg = L.seg ∧
    (Live.bayNotice L data).node = L.node ∧
    (Live.bayNotice L data).eng = L.eng ∧
    (Live.bayNotice L data).est = L.est ∧
    (Live.bayNotice L data).th = L.th ∧
    (Live.bayNotice L data).mgr = L.mgr ∧
    (Live.bayNotice L data).lgc = L.lgc ∧
    (Live.bayNotice L data).jrn = L.jrn ∧
    (Live.bayNotice L data).ret = L.ret ∧
    (Live.bayNotice L data).blob = L.blob ∧
    (Live.bayNotice L data).free = L.free := by
  have h0 := @Live.sf06_frame
  simp [Live.bayNotice, h0]

theorem Live.srdoTaken_frame (L : Live) (k : Nat) (data : Bytes) :
    (Live.srdoTaken L k data).time = L.time ∧
    (Live.srdoTaken L k data).ks = L.ks ∧
    (Live.srdoTaken L k data).seg = L.seg ∧
    (Live.srdoTaken L k data).node = L.node ∧
    (Live.srdoTaken L k data).eng = L.eng ∧
    (Live.srdoTaken L k data).est = L.est ∧
    (Live.srdoTaken L k data).th = L.th ∧
    (Live.srdoTaken L k data).mgr = L.mgr ∧
    (Live.srdoTaken L k data).lgc = L.lgc ∧
    (Live.srdoTaken L k data).jrn = L.jrn ∧
    (Live.srdoTaken L k data).ret = L.ret ∧
    (Live.srdoTaken L k data).blob = L.blob ∧
    (Live.srdoTaken L k data).free = L.free := by
  have h0 := @Live.bayNotice_frame
  simp [Live.srdoTaken, h0]

theorem Live.resetCom_frame (snap L : Live) :
    (Live.resetCom snap L).mode = L.mode ∧
    (Live.resetCom snap L).pins = L.pins ∧
    (Live.resetCom snap L).time = L.time ∧
    (Live.resetCom snap L).ks = L.ks ∧
    (Live.resetCom snap L).saf = L.saf ∧
    (Live.resetCom snap L).seg = L.seg ∧
    (Live.resetCom snap L).node = L.node ∧
    (Live.resetCom snap L).conv = L.conv ∧
    (Live.resetCom snap L).twin = L.twin ∧
    (Live.resetCom snap L).eng = L.eng ∧
    (Live.resetCom snap L).chi = L.chi ∧
    (Live.resetCom snap L).est = L.est ∧
    (Live.resetCom snap L).th = L.th ∧
    (Live.resetCom snap L).mgr = L.mgr ∧
    (Live.resetCom snap L).lgc = L.lgc ∧
    (Live.resetCom snap L).upd = L.upd ∧
    (Live.resetCom snap L).jrn = L.jrn ∧
    (Live.resetCom snap L).ret = L.ret ∧
    (Live.resetCom snap L).blob = L.blob ∧
    (Live.resetCom snap L).out = L.out ∧
    (Live.resetCom snap L).free = L.free := by
  have h0 := @Live.setCan_frame
  have h1 := @Live.modCan_frame
  have h2 := @Live.setNmt_frame
  simp [Live.resetCom, h0, h1, h2]

theorem Live.canRejoin_frame (L : Live) (bus : Nat) :
    (Live.canRejoin L bus).mode = L.mode ∧
    (Live.canRejoin L bus).pins = L.pins ∧
    (Live.canRejoin L bus).time = L.time ∧
    (Live.canRejoin L bus).ks = L.ks ∧
    (Live.canRejoin L bus).saf = L.saf ∧
    (Live.canRejoin L bus).seg = L.seg ∧
    (Live.canRejoin L bus).node = L.node ∧
    (Live.canRejoin L bus).conv = L.conv ∧
    (Live.canRejoin L bus).twin = L.twin ∧
    (Live.canRejoin L bus).eng = L.eng ∧
    (Live.canRejoin L bus).chi = L.chi ∧
    (Live.canRejoin L bus).est = L.est ∧
    (Live.canRejoin L bus).th = L.th ∧
    (Live.canRejoin L bus).mgr = L.mgr ∧
    (Live.canRejoin L bus).lgc = L.lgc ∧
    (Live.canRejoin L bus).upd = L.upd ∧
    (Live.canRejoin L bus).jrn = L.jrn ∧
    (Live.canRejoin L bus).ret = L.ret ∧
    (Live.canRejoin L bus).blob = L.blob ∧
    (Live.canRejoin L bus).out = L.out ∧
    (Live.canRejoin L bus).free = L.free := by
  have h0 := @Live.setCan_frame
  have h1 := @Live.modCan_frame
  simp [Live.canRejoin, h0, h1]

end Sys2Proof.Machine
end

