-- ==== Sys2Proof/Laws/FrameSafeSet.lean ====
section
/-! SUPPORT. What each operation of Machine/SafeSet.lean leaves as it is. -/

namespace Sys2Proof.Machine

open Sys2Proof

theorem Live.withEdit_frame (L : Live) (e : EditCopy) :
    (Live.withEdit L e).mode = L.mode ∧
    (Live.withEdit L e).pins = L.pins ∧
    (Live.withEdit L e).time = L.time ∧
    (Live.withEdit L e).ks = L.ks ∧
    (Live.withEdit L e).rcd = L.rcd ∧
    (Live.withEdit L e).saf = L.saf ∧
    (Live.withEdit L e).seg = L.seg ∧
    (Live.withEdit L e).node = L.node ∧
    (Live.withEdit L e).conv = L.conv ∧
    (Live.withEdit L e).twin = L.twin ∧
    (Live.withEdit L e).eng = L.eng ∧
    (Live.withEdit L e).chi = L.chi ∧
    (Live.withEdit L e).cap = L.cap ∧
    (Live.withEdit L e).est = L.est ∧
    (Live.withEdit L e).th = L.th ∧
    (Live.withEdit L e).com = L.com ∧
    (Live.withEdit L e).mgr = L.mgr ∧
    (Live.withEdit L e).lgc = L.lgc ∧
    (Live.withEdit L e).upd = L.upd ∧
    (Live.withEdit L e).jrn = L.jrn ∧
    (Live.withEdit L e).dbg = L.dbg ∧
    (Live.withEdit L e).ret = L.ret ∧
    (Live.withEdit L e).blob = L.blob ∧
    (Live.withEdit L e).out = L.out ∧
    (Live.withEdit L e).free = L.free := by
  simp [Live.withEdit]

theorem Live.setActive_frame (L : Live) :
    (Live.setActive L).mode = L.mode ∧
    (Live.setActive L).pins = L.pins ∧
    (Live.setActive L).time = L.time ∧
    (Live.setActive L).saf = L.saf ∧
    (Live.setActive L).node = L.node ∧
    (Live.setActive L).conv = L.conv ∧
    (Live.setActive L).twin = L.twin ∧
    (Live.setActive L).est = L.est ∧
    (Live.setActive L).th = L.th ∧
    (Live.setActive L).mgr = L.mgr ∧
    (Live.setActive L).lgc = L.lgc ∧
    (Live.setActive L).upd = L.upd ∧
    (Live.setActive L).jrn = L.jrn ∧
    (Live.setActive L).ret = L.ret ∧
    (Live.setActive L).blob = L.blob ∧
    (Live.setActive L).free = L.free := by
  have h0 := @Live.recommit_frame
  have h1 := @Live.writeAllThresholds_frame
  simp [Live.setActive, h0, h1]

theorem Live.cmdConfirm_frame (L : Live) (s : Sess) (crc : Nat) :
    (Live.cmdConfirm L s crc).1.mode = L.mode ∧
    (Live.cmdConfirm L s crc).1.pins = L.pins ∧
    (Live.cmdConfirm L s crc).1.time = L.time ∧
    (Live.cmdConfirm L s crc).1.saf = L.saf ∧
    (Live.cmdConfirm L s crc).1.node = L.node ∧
    (Live.cmdConfirm L s crc).1.conv = L.conv ∧
    (Live.cmdConfirm L s crc).1.twin = L.twin ∧
    (Live.cmdConfirm L s crc).1.est = L.est ∧
    (Live.cmdConfirm L s crc).1.th = L.th ∧
    (Live.cmdConfirm L s crc).1.mgr = L.mgr ∧
    (Live.cmdConfirm L s crc).1.lgc = L.lgc ∧
    (Live.cmdConfirm L s crc).1.upd = L.upd ∧
    (Live.cmdConfirm L s crc).1.jrn = L.jrn ∧
    (Live.cmdConfirm L s crc).1.ret = L.ret ∧
    (Live.cmdConfirm L s crc).1.blob = L.blob ∧
    (Live.cmdConfirm L s crc).1.free = L.free := by
  have h0 := @Live.withEdit_frame
  have h1 := @Live.setActive_frame
  simp only [Live.cmdConfirm]
  (repeat' split) <;> simp [h0, h1]

theorem Live.checkCopies_frame (L : Live) (aOk bOk : Bool) :
    (Live.checkCopies L aOk bOk).mode = L.mode ∧
    (Live.checkCopies L aOk bOk).pins = L.pins ∧
    (Live.checkCopies L aOk bOk).time = L.time ∧
    (Live.checkCopies L aOk bOk).saf = L.saf ∧
    (Live.checkCopies L aOk bOk).seg = L.seg ∧
    (Live.checkCopies L aOk bOk).node = L.node ∧
    (Live.checkCopies L aOk bOk).conv = L.conv ∧
    (Live.checkCopies L aOk bOk).twin = L.twin ∧
    (Live.checkCopies L aOk bOk).eng = L.eng ∧
    (Live.checkCopies L aOk bOk).chi = L.chi ∧
    (Live.checkCopies L aOk bOk).est = L.est ∧
    (Live.checkCopies L aOk bOk).th = L.th ∧
    (Live.checkCopies L aOk bOk).mgr = L.mgr ∧
    (Live.checkCopies L aOk bOk).lgc = L.lgc ∧
    (Live.checkCopies L aOk bOk).upd = L.upd ∧
    (Live.checkCopies L aOk bOk).jrn = L.jrn ∧
    (Live.checkCopies L aOk bOk).ret = L.ret ∧
    (Live.checkCopies L aOk bOk).blob = L.blob ∧
    (Live.checkCopies L aOk bOk).out = L.out ∧
    (Live.checkCopies L aOk bOk).free = L.free := by
  simp only [Live.checkCopies]
  (repeat' split) <;> simp

theorem Live.authFail_frame (L : Live) (s : Sess) :
    (Live.authFail L s).mode = L.mode ∧
    (Live.authFail L s).pins = L.pins ∧
    (Live.authFail L s).time = L.time ∧
    (Live.authFail L s).saf = L.saf ∧
    (Live.authFail L s).seg = L.seg ∧
    (Live.authFail L s).node = L.node ∧
    (Live.authFail L s).conv = L.conv ∧
    (Live.authFail L s).twin = L.twin ∧
    (Live.authFail L s).eng = L.eng ∧
    (Live.authFail L s).chi = L.chi ∧
    (Live.authFail L s).est = L.est ∧
    (Live.authFail L s).th = L.th ∧
    (Live.authFail L s).mgr = L.mgr ∧
    (Live.authFail L s).lgc = L.lgc ∧
    (Live.authFail L s).upd = L.upd ∧
    (Live.authFail L s).jrn = L.jrn ∧
    (Live.authFail L s).ret = L.ret ∧
    (Live.authFail L s).obj = L.obj ∧
    (Live.authFail L s).blob = L.blob ∧
    (Live.authFail L s).out = L.out ∧
    (Live.authFail L s).free = L.free := by
  have h0 := @Live.modSession_frame
  simp [Live.authFail, h0]

theorem Live.cmdAuth_frame (L : Live) (s : Sess) (v : Bytes) :
    (Live.cmdAuth L s v).1.mode = L.mode ∧
    (Live.cmdAuth L s v).1.pins = L.pins ∧
    (Live.cmdAuth L s v).1.time = L.time ∧
    (Live.cmdAuth L s v).1.saf = L.saf ∧
    (Live.cmdAuth L s v).1.seg = L.seg ∧
    (Live.cmdAuth L s v).1.node = L.node ∧
    (Live.cmdAuth L s v).1.conv = L.conv ∧
    (Live.cmdAuth L s v).1.twin = L.twin ∧
    (Live.cmdAuth L s v).1.eng = L.eng ∧
    (Live.cmdAuth L s v).1.chi = L.chi ∧
    (Live.cmdAuth L s v).1.est = L.est ∧
    (Live.cmdAuth L s v).1.th = L.th ∧
    (Live.cmdAuth L s v).1.mgr = L.mgr ∧
    (Live.cmdAuth L s v).1.lgc = L.lgc ∧
    (Live.cmdAuth L s v).1.upd = L.upd ∧
    (Live.cmdAuth L s v).1.jrn = L.jrn ∧
    (Live.cmdAuth L s v).1.ret = L.ret ∧
    (Live.cmdAuth L s v).1.obj = L.obj ∧
    (Live.cmdAuth L s v).1.blob = L.blob ∧
    (Live.cmdAuth L s v).1.out = L.out ∧
    (Live.cmdAuth L s v).1.free = L.free := by
  have h0 := @Live.authFail_frame
  have h1 := @Live.modSession_frame
  simp only [Live.cmdAuth]
  (repeat' split) <;> simp [h0, h1]

end Sys2Proof.Machine
end

