-- ==== Sys2Proof/Laws/FrameSessions.lean ====
section
/-! SUPPORT. What each operation of Machine/Sessions.lean leaves as it is. -/

namespace Sys2Proof.Machine

open Sys2Proof

theorem Live.lssSend_frame (L : Live) (bus cs : Nat) (rest : Bytes) :
    (Live.lssSend L bus cs rest).mode = L.mode ∧
    (Live.lssSend L bus cs rest).pins = L.pins ∧
    (Live.lssSend L bus cs rest).time = L.time ∧
    (Live.lssSend L bus cs rest).ks = L.ks ∧
    (Live.lssSend L bus cs rest).rcd = L.rcd ∧
    (Live.lssSend L bus cs rest).saf = L.saf ∧
    (Live.lssSend L bus cs rest).seg = L.seg ∧
    (Live.lssSend L bus cs rest).node = L.node ∧
    (Live.lssSend L bus cs rest).conv = L.conv ∧
    (Live.lssSend L bus cs rest).twin = L.twin ∧
    (Live.lssSend L bus cs rest).eng = L.eng ∧
    (Live.lssSend L bus cs rest).chi = L.chi ∧
    (Live.lssSend L bus cs rest).cap = L.cap ∧
    (Live.lssSend L bus cs rest).est = L.est ∧
    (Live.lssSend L bus cs rest).th = L.th ∧
    (Live.lssSend L bus cs rest).mgr = L.mgr ∧
    (Live.lssSend L bus cs rest).lgc = L.lgc ∧
    (Live.lssSend L bus cs rest).upd = L.upd ∧
    (Live.lssSend L bus cs rest).jrn = L.jrn ∧
    (Live.lssSend L bus cs rest).dbg = L.dbg ∧
    (Live.lssSend L bus cs rest).ret = L.ret ∧
    (Live.lssSend L bus cs rest).obj = L.obj ∧
    (Live.lssSend L bus cs rest).blob = L.blob ∧
    (Live.lssSend L bus cs rest).free = L.free := by
  simp [Live.lssSend]

theorem Live.lssSet_frame (L : Live) (bus : Nat) (on : Bool) :
    (Live.lssSet L bus on).mode = L.mode ∧
    (Live.lssSet L bus on).pins = L.pins ∧
    (Live.lssSet L bus on).time = L.time ∧
    (Live.lssSet L bus on).ks = L.ks ∧
    (Live.lssSet L bus on).rcd = L.rcd ∧
    (Live.lssSet L bus on).saf = L.saf ∧
    (Live.lssSet L bus on).seg = L.seg ∧
    (Live.lssSet L bus on).node = L.node ∧
    (Live.lssSet L bus on).conv = L.conv ∧
    (Live.lssSet L bus on).twin = L.twin ∧
    (Live.lssSet L bus on).eng = L.eng ∧
    (Live.lssSet L bus on).chi = L.chi ∧
    (Live.lssSet L bus on).cap = L.cap ∧
    (Live.lssSet L bus on).est = L.est ∧
    (Live.lssSet L bus on).th = L.th ∧
    (Live.lssSet L bus on).mgr = L.mgr ∧
    (Live.lssSet L bus on).lgc = L.lgc ∧
    (Live.lssSet L bus on).upd = L.upd ∧
    (Live.lssSet L bus on).jrn = L.jrn ∧
    (Live.lssSet L bus on).dbg = L.dbg ∧
    (Live.lssSet L bus on).ret = L.ret ∧
    (Live.lssSet L bus on).obj = L.obj ∧
    (Live.lssSet L bus on).blob = L.blob ∧
    (Live.lssSet L bus on).out = L.out ∧
    (Live.lssSet L bus on).free = L.free := by
  simp [Live.lssSet]

theorem Live.lssInquire_frame (L : Live) (bus cs n : Nat) :
    (Live.lssInquire L bus cs n).mode = L.mode ∧
    (Live.lssInquire L bus cs n).pins = L.pins ∧
    (Live.lssInquire L bus cs n).time = L.time ∧
    (Live.lssInquire L bus cs n).ks = L.ks ∧
    (Live.lssInquire L bus cs n).rcd = L.rcd ∧
    (Live.lssInquire L bus cs n).saf = L.saf ∧
    (Live.lssInquire L bus cs n).seg = L.seg ∧
    (Live.lssInquire L bus cs n).node = L.node ∧
    (Live.lssInquire L bus cs n).conv = L.conv ∧
    (Live.lssInquire L bus cs n).twin = L.twin ∧
    (Live.lssInquire L bus cs n).eng = L.eng ∧
    (Live.lssInquire L bus cs n).chi = L.chi ∧
    (Live.lssInquire L bus cs n).cap = L.cap ∧
    (Live.lssInquire L bus cs n).est = L.est ∧
    (Live.lssInquire L bus cs n).th = L.th ∧
    (Live.lssInquire L bus cs n).mgr = L.mgr ∧
    (Live.lssInquire L bus cs n).lgc = L.lgc ∧
    (Live.lssInquire L bus cs n).upd = L.upd ∧
    (Live.lssInquire L bus cs n).jrn = L.jrn ∧
    (Live.lssInquire L bus cs n).dbg = L.dbg ∧
    (Live.lssInquire L bus cs n).ret = L.ret ∧
    (Live.lssInquire L bus cs n).obj = L.obj ∧
    (Live.lssInquire L bus cs n).blob = L.blob ∧
    (Live.lssInquire L bus cs n).free = L.free := by
  have h0 := @Live.lssSend_frame
  simp [Live.lssInquire, h0]

end Sys2Proof.Machine
end

