-- ==== Sys2Proof/Laws/FrameRecorder.lean ====
section
/-! SUPPORT. What each operation of Machine/Recorder.lean leaves as it is. -/

namespace Sys2Proof.Machine

open Sys2Proof

theorem Live.readRecord_frame (L : Live) (seq : Nat) :
    (Live.readRecord L seq).1.mode = L.mode ∧
    (Live.readRecord L seq).1.pins = L.pins ∧
    (Live.readRecord L seq).1.time = L.time ∧
    (Live.readRecord L seq).1.ks = L.ks ∧
    (Live.readRecord L seq).1.saf = L.saf ∧
    (Live.readRecord L seq).1.seg = L.seg ∧
    (Live.readRecord L seq).1.node = L.node ∧
    (Live.readRecord L seq).1.conv = L.conv ∧
    (Live.readRecord L seq).1.twin = L.twin ∧
    (Live.readRecord L seq).1.eng = L.eng ∧
    (Live.readRecord L seq).1.chi = L.chi ∧
    (Live.readRecord L seq).1.est = L.est ∧
    (Live.readRecord L seq).1.th = L.th ∧
    (Live.readRecord L seq).1.mgr = L.mgr ∧
    (Live.readRecord L seq).1.lgc = L.lgc ∧
    (Live.readRecord L seq).1.upd = L.upd ∧
    (Live.readRecord L seq).1.jrn = L.jrn ∧
    (Live.readRecord L seq).1.ret = L.ret ∧
    (Live.readRecord L seq).1.blob = L.blob ∧
    (Live.readRecord L seq).1.out = L.out ∧
    (Live.readRecord L seq).1.free = L.free := by
  simp [Live.readRecord]

end Sys2Proof.Machine
end

