-- ==== Sys2Proof/Laws/FrameArrival.lean ====
section
/-! SUPPORT. What each operation of Machine/Arrival.lean leaves as it is. -/

namespace Sys2Proof.Machine

open Sys2Proof

theorem Live.answerRead_frame (L : Live) (s : Sess) (r : Except Abort Bytes) :
    (Live.answerRead L s r).mode = L.mode ∧
    (Live.answerRead L s r).pins = L.pins ∧
    (Live.answerRead L s r).time = L.time ∧
    (Live.answerRead L s r).rcd = L.rcd ∧
    (Live.answerRead L s r).saf = L.saf ∧
    (Live.answerRead L s r).seg = L.seg ∧
    (Live.answerRead L s r).node = L.node ∧
    (Live.answerRead L s r).conv = L.conv ∧
    (Live.answerRead L s r).twin = L.twin ∧
    (Live.answerRead L s r).eng = L.eng ∧
    (Live.answerRead L s r).chi = L.chi ∧
    (Live.answerRead L s r).cap = L.cap ∧
    (Live.answerRead L s r).est = L.est ∧
    (Live.answerRead L s r).th = L.th ∧
    (Live.answerRead L s r).lgc = L.lgc ∧
    (Live.answerRead L s r).upd = L.upd ∧
    (Live.answerRead L s r).jrn = L.jrn ∧
    (Live.answerRead L s r).ret = L.ret ∧
    (Live.answerRead L s r).obj = L.obj ∧
    (Live.answerRead L s r).blob = L.blob ∧
    (Live.answerRead L s r).free = L.free := by
  have h0 := @Live.refuse_frame
  simp only [Live.answerRead]
  (repeat' split) <;> simp [h0]

theorem Live.readRecords_frame (L : Live) (s : Sess) :
    (Live.readRecords L s).mode = L.mode ∧
    (Live.readRecords L s).pins = L.pins ∧
    (Live.readRecords L s).time = L.time ∧
    (Live.readRecords L s).ks = L.ks ∧
    (Live.readRecords L s).saf = L.saf ∧
    (Live.readRecords L s).seg = L.seg ∧
    (Live.readRecords L s).node = L.node ∧
    (Live.readRecords L s).conv = L.conv ∧
    (Live.readRecords L s).twin = L.twin ∧
    (Live.readRecords L s).eng = L.eng ∧
    (Live.readRecords L s).chi = L.chi ∧
    (Live.readRecords L s).est = L.est ∧
    (Live.readRecords L s).th = L.th ∧
    (Live.readRecords L s).lgc = L.lgc ∧
    (Live.readRecords L s).upd = L.upd ∧
    (Live.readRecords L s).jrn = L.jrn ∧
    (Live.readRecords L s).ret = L.ret ∧
    (Live.readRecords L s).blob = L.blob ∧
    (Live.readRecords L s).free = L.free := by
  have h0 := @Live.readRecord_frame
  simp [Live.readRecords, h0]

theorem Live.read_frame (snap L : Live) (s : Sess) (idx sub : Nat) :
    (Live.read snap L s idx sub).mode = L.mode ∧
    (Live.read snap L s idx sub).pins = L.pins ∧
    (Live.read snap L s idx sub).time = L.time ∧
    (Live.read snap L s idx sub).saf = L.saf ∧
    (Live.read snap L s idx sub).seg = L.seg ∧
    (Live.read snap L s idx sub).node = L.node ∧
    (Live.read snap L s idx sub).conv = L.conv ∧
    (Live.read snap L s idx sub).eng = L.eng ∧
    (Live.read snap L s idx sub).chi = L.chi ∧
    (Live.read snap L s idx sub).est = L.est ∧
    (Live.read snap L s idx sub).th = L.th ∧
    (Live.read snap L s idx sub).lgc = L.lgc ∧
    (Live.read snap L s idx sub).upd = L.upd ∧
    (Live.read snap L s idx sub).jrn = L.jrn ∧
    (Live.read snap L s idx sub).ret = L.ret ∧
    (Live.read snap L s idx sub).blob = L.blob ∧
    (Live.read snap L s idx sub).free = L.free := by
  have h0 := @Live.toPartner_frame
  have h1 := @Live.readRecords_frame
  have h2 := @Live.answerRead_frame
  simp [Live.read, h0, h1, h2]

theorem Live.setReading_frame (L : Live) (s : Sess) (k : Option Nat) :
    (Live.setReading L s k).mode = L.mode ∧
    (Live.setReading L s k).pins = L.pins ∧
    (Live.setReading L s k).time = L.time ∧
    (Live.setReading L s k).rcd = L.rcd ∧
    (Live.setReading L s k).saf = L.saf ∧
    (Live.setReading L s k).seg = L.seg ∧
    (Live.setReading L s k).node = L.node ∧
    (Live.setReading L s k).conv = L.conv ∧
    (Live.setReading L s k).twin = L.twin ∧
    (Live.setReading L s k).eng = L.eng ∧
    (Live.setReading L s k).chi = L.chi ∧
    (Live.setReading L s k).cap = L.cap ∧
    (Live.setReading L s k).est = L.est ∧
    (Live.setReading L s k).th = L.th ∧
    (Live.setReading L s k).com = L.com ∧
    (Live.setReading L s k).mgr = L.mgr ∧
    (Live.setReading L s k).lgc = L.lgc ∧
    (Live.setReading L s k).upd = L.upd ∧
    (Live.setReading L s k).jrn = L.jrn ∧
    (Live.setReading L s k).dbg = L.dbg ∧
    (Live.setReading L s k).ret = L.ret ∧
    (Live.setReading L s k).obj = L.obj ∧
    (Live.setReading L s k).blob = L.blob ∧
    (Live.setReading L s k).out = L.out ∧
    (Live.setReading L s k).free = L.free := by
  simp [Live.setReading]

theorem Live.queueWrite_frame (L : Live) (s : Sess) (level : Nat) (via : Bool) (k : Nat) (v : Bytes) (txn fwd : Option Nat) :
    (Live.queueWrite L s level via k v txn fwd).mode = L.mode ∧
    (Live.queueWrite L s level via k v txn fwd).pins = L.pins ∧
    (Live.queueWrite L s level via k v txn fwd).time = L.time ∧
    (Live.queueWrite L s level via k v txn fwd).rcd = L.rcd ∧
    (Live.queueWrite L s level via k v txn fwd).saf = L.saf ∧
    (Live.queueWrite L s level via k v txn fwd).seg = L.seg ∧
    (Live.queueWrite L s level via k v txn fwd).node = L.node ∧
    (Live.queueWrite L s level via k v txn fwd).conv = L.conv ∧
    (Live.queueWrite L s level via k v txn fwd).twin = L.twin ∧
    (Live.queueWrite L s level via k v txn fwd).eng = L.eng ∧
    (Live.queueWrite L s level via k v txn fwd).chi = L.chi ∧
    (Live.queueWrite L s level via k v txn fwd).cap = L.cap ∧
    (Live.queueWrite L s level via k v txn fwd).est = L.est ∧
    (Live.queueWrite L s level via k v txn fwd).th = L.th ∧
    (Live.queueWrite L s level via k v txn fwd).com = L.com ∧
    (Live.queueWrite L s level via k v txn fwd).mgr = L.mgr ∧
    (Live.queueWrite L s level via k v txn fwd).lgc = L.lgc ∧
    (Live.queueWrite L s level via k v txn fwd).upd = L.upd ∧
    (Live.queueWrite L s level via k v txn fwd).jrn = L.jrn ∧
    (Live.queueWrite L s level via k v txn fwd).dbg = L.dbg ∧
    (Live.queueWrite L s level via k v txn fwd).ret = L.ret ∧
    (Live.queueWrite L s level via k v txn fwd).obj = L.obj ∧
    (Live.queueWrite L s level via k v txn fwd).blob = L.blob ∧
    (Live.queueWrite L s level via k v txn fwd).out = L.out ∧
    (Live.queueWrite L s level via k v txn fwd).free = L.free := by
  simp [Live.queueWrite]

theorem Live.refuseEntry_frame (L : Live) (s : Sess) (pos : Nat) (code : Abort) :
    (Live.refuseEntry L s pos code).mode = L.mode ∧
    (Live.refuseEntry L s pos code).pins = L.pins ∧
    (Live.refuseEntry L s pos code).time = L.time ∧
    (Live.refuseEntry L s pos code).rcd = L.rcd ∧
    (Live.refuseEntry L s pos code).saf = L.saf ∧
    (Live.refuseEntry L s pos code).seg = L.seg ∧
    (Live.refuseEntry L s pos code).node = L.node ∧
    (Live.refuseEntry L s pos code).conv = L.conv ∧
    (Live.refuseEntry L s pos code).twin = L.twin ∧
    (Live.refuseEntry L s pos code).eng = L.eng ∧
    (Live.refuseEntry L s pos code).chi = L.chi ∧
    (Live.refuseEntry L s pos code).cap = L.cap ∧
    (Live.refuseEntry L s pos code).est = L.est ∧
    (Live.refuseEntry L s pos code).th = L.th ∧
    (Live.refuseEntry L s pos code).lgc = L.lgc ∧
    (Live.refuseEntry L s pos code).upd = L.upd ∧
    (Live.refuseEntry L s pos code).jrn = L.jrn ∧
    (Live.refuseEntry L s pos code).ret = L.ret ∧
    (Live.refuseEntry L s pos code).obj = L.obj ∧
    (Live.refuseEntry L s pos code).blob = L.blob ∧
    (Live.refuseEntry L s pos code).free = L.free := by
  have h0 := @Live.modSession_frame
  simp [Live.refuseEntry, h0]

theorem Live.answerVia_frame (L : Live) (s : Sess) (k : Nat) (code : Abort) (pos : Nat) :
    (Live.answerVia L s k code pos).mode = L.mode ∧
    (Live.answerVia L s k code pos).pins = L.pins ∧
    (Live.answerVia L s k code pos).time = L.time ∧
    (Live.answerVia L s k code pos).ks = L.ks ∧
    (Live.answerVia L s k code pos).rcd = L.rcd ∧
    (Live.answerVia L s k code pos).saf = L.saf ∧
    (Live.answerVia L s k code pos).seg = L.seg ∧
    (Live.answerVia L s k code pos).node = L.node ∧
    (Live.answerVia L s k code pos).conv = L.conv ∧
    (Live.answerVia L s k code pos).eng = L.eng ∧
    (Live.answerVia L s k code pos).chi = L.chi ∧
    (Live.answerVia L s k code pos).cap = L.cap ∧
    (Live.answerVia L s k code pos).est = L.est ∧
    (Live.answerVia L s k code pos).th = L.th ∧
    (Live.answerVia L s k code pos).com = L.com ∧
    (Live.answerVia L s k code pos).mgr = L.mgr ∧
    (Live.answerVia L s k code pos).lgc = L.lgc ∧
    (Live.answerVia L s k code pos).upd = L.upd ∧
    (Live.answerVia L s k code pos).jrn = L.jrn ∧
    (Live.answerVia L s k code pos).dbg = L.dbg ∧
    (Live.answerVia L s k code pos).ret = L.ret ∧
    (Live.answerVia L s k code pos).obj = L.obj ∧
    (Live.answerVia L s k code pos).blob = L.blob ∧
    (Live.answerVia L s k code pos).out = L.out ∧
    (Live.answerVia L s k code pos).free = L.free := by
  have h0 := @Live.toPartner_frame
  simp [Live.answerVia, h0]

theorem Live.refuseWrite_frame (L : Live) (s : Sess) (via : Bool) (k pos : Nat) (code : Abort) :
    (Live.refuseWrite L s via k pos code).mode = L.mode ∧
    (Live.refuseWrite L s via k pos code).pins = L.pins ∧
    (Live.refuseWrite L s via k pos code).time = L.time ∧
    (Live.refuseWrite L s via k pos code).rcd = L.rcd ∧
    (Live.refuseWrite L s via k pos code).saf = L.saf ∧
    (Live.refuseWrite L s via k pos code).seg = L.seg ∧
    (Live.refuseWrite L s via k pos code).node = L.node ∧
    (Live.refuseWrite L s via k pos code).conv = L.conv ∧
    (Live.refuseWrite L s via k pos code).eng = L.eng ∧
    (Live.refuseWrite L s via k pos code).chi = L.chi ∧
    (Live.refuseWrite L s via k pos code).cap = L.cap ∧
    (Live.refuseWrite L s via k pos code).est = L.est ∧
    (Live.refuseWrite L s via k pos code).th = L.th ∧
    (Live.refuseWrite L s via k pos code).lgc = L.lgc ∧
    (Live.refuseWrite L s via k pos code).upd = L.upd ∧
    (Live.refuseWrite L s via k pos code).jrn = L.jrn ∧
    (Live.refuseWrite L s via k pos code).ret = L.ret ∧
    (Live.refuseWrite L s via k pos code).obj = L.obj ∧
    (Live.refuseWrite L s via k pos code).blob = L.blob ∧
    (Live.refuseWrite L s via k pos code).free = L.free := by
  have h0 := @Live.answerVia_frame
  have h1 := @Live.refuse_frame
  have h2 := @Live.refuseEntry_frame
  simp [Live.refuseWrite, h0, h1, h2]

theorem Live.txnWrite_frame (L : Live) (s : Sess) (level : Nat) (via : Bool) (image : Bytes) (fwd : Option Nat) :
    (Live.txnWrite L s level via image fwd).mode = L.mode ∧
    (Live.txnWrite L s level via image fwd).pins = L.pins ∧
    (Live.txnWrite L s level via image fwd).time = L.time ∧
    (Live.txnWrite L s level via image fwd).rcd = L.rcd ∧
    (Live.txnWrite L s level via image fwd).saf = L.saf ∧
    (Live.txnWrite L s level via image fwd).seg = L.seg ∧
    (Live.txnWrite L s level via image fwd).node = L.node ∧
    (Live.txnWrite L s level via image fwd).conv = L.conv ∧
    (Live.txnWrite L s level via image fwd).eng = L.eng ∧
    (Live.txnWrite L s level via image fwd).chi = L.chi ∧
    (Live.txnWrite L s level via image fwd).cap = L.cap ∧
    (Live.txnWrite L s level via image fwd).est = L.est ∧
    (Live.txnWrite L s level via image fwd).th = L.th ∧
    (Live.txnWrite L s level via image fwd).lgc = L.lgc ∧
    (Live.txnWrite L s level via image fwd).upd = L.upd ∧
    (Live.txnWrite L s level via image fwd).jrn = L.jrn ∧
    (Live.txnWrite L s level via image fwd).ret = L.ret ∧
    (Live.txnWrite L s level via image fwd).obj = L.obj ∧
    (Live.txnWrite L s level via image fwd).blob = L.blob ∧
    (Live.txnWrite L s level via image fwd).free = L.free := by
  have h0 := @Live.refuseWrite_frame
  have h1 := @Live.queueWrite_frame
  simp only [Live.txnWrite]
  (repeat' split) <;> simp [h0, h1]

theorem Live.writeHere_frame (L : Live) (s : Sess) (level : Nat) (via : Bool) (k : Nat) (v : Bytes) (fwd : Option Nat) :
    (Live.writeHere L s level via k v fwd).mode = L.mode ∧
    (Live.writeHere L s level via k v fwd).pins = L.pins ∧
    (Live.writeHere L s level via k v fwd).time = L.time ∧
    (Live.writeHere L s level via k v fwd).rcd = L.rcd ∧
    (Live.writeHere L s level via k v fwd).saf = L.saf ∧
    (Live.writeHere L s level via k v fwd).seg = L.seg ∧
    (Live.writeHere L s level via k v fwd).node = L.node ∧
    (Live.writeHere L s level via k v fwd).conv = L.conv ∧
    (Live.writeHere L s level via k v fwd).eng = L.eng ∧
    (Live.writeHere L s level via k v fwd).chi = L.chi ∧
    (Live.writeHere L s level via k v fwd).cap = L.cap ∧
    (Live.writeHere L s level via k v fwd).est = L.est ∧
    (Live.writeHere L s level via k v fwd).th = L.th ∧
    (Live.writeHere L s level via k v fwd).lgc = L.lgc ∧
    (Live.writeHere L s level via k v fwd).upd = L.upd ∧
    (Live.writeHere L s level via k v fwd).jrn = L.jrn ∧
    (Live.writeHere L s level via k v fwd).ret = L.ret ∧
    (Live.writeHere L s level via k v fwd).obj = L.obj ∧
    (Live.writeHere L s level via k v fwd).blob = L.blob ∧
    (Live.writeHere L s level via k v fwd).free = L.free := by
  have h0 := @Live.refuseWrite_frame
  have h1 := @Live.queueWrite_frame
  have h2 := @Live.txnWrite_frame
  simp only [Live.writeHere]
  (repeat' split) <;> simp [h0, h1, h2]

theorem Live.queueDebug_frame (L : Live) (s : Sess) (via : Bool) (k : Nat) (v : Bytes) :
    (Live.queueDebug L s via k v).mode = L.mode ∧
    (Live.queueDebug L s via k v).pins = L.pins ∧
    (Live.queueDebug L s via k v).time = L.time ∧
    (Live.queueDebug L s via k v).rcd = L.rcd ∧
    (Live.queueDebug L s via k v).saf = L.saf ∧
    (Live.queueDebug L s via k v).seg = L.seg ∧
    (Live.queueDebug L s via k v).node = L.node ∧
    (Live.queueDebug L s via k v).conv = L.conv ∧
    (Live.queueDebug L s via k v).eng = L.eng ∧
    (Live.queueDebug L s via k v).chi = L.chi ∧
    (Live.queueDebug L s via k v).cap = L.cap ∧
    (Live.queueDebug L s via k v).est = L.est ∧
    (Live.queueDebug L s via k v).th = L.th ∧
    (Live.queueDebug L s via k v).com = L.com ∧
    (Live.queueDebug L s via k v).mgr = L.mgr ∧
    (Live.queueDebug L s via k v).lgc = L.lgc ∧
    (Live.queueDebug L s via k v).upd = L.upd ∧
    (Live.queueDebug L s via k v).jrn = L.jrn ∧
    (Live.queueDebug L s via k v).dbg = L.dbg ∧
    (Live.queueDebug L s via k v).ret = L.ret ∧
    (Live.queueDebug L s via k v).obj = L.obj ∧
    (Live.queueDebug L s via k v).blob = L.blob ∧
    (Live.queueDebug L s via k v).out = L.out ∧
    (Live.queueDebug L s via k v).free = L.free := by
  have h0 := @Live.queueWrite_frame
  have h1 := @Live.forwardOn_frame
  simp [Live.queueDebug, h0, h1]

theorem Live.writeAt_frame (L : Live) (s : Sess) (level : Nat) (via : Bool) (k : Nat) (v : Bytes) :
    (Live.writeAt L s level via k v).mode = L.mode ∧
    (Live.writeAt L s level via k v).pins = L.pins ∧
    (Live.writeAt L s level via k v).time = L.time ∧
    (Live.writeAt L s level via k v).rcd = L.rcd ∧
    (Live.writeAt L s level via k v).saf = L.saf ∧
    (Live.writeAt L s level via k v).seg = L.seg ∧
    (Live.writeAt L s level via k v).node = L.node ∧
    (Live.writeAt L s level via k v).conv = L.conv ∧
    (Live.writeAt L s level via k v).eng = L.eng ∧
    (Live.writeAt L s level via k v).chi = L.chi ∧
    (Live.writeAt L s level via k v).cap = L.cap ∧
    (Live.writeAt L s level via k v).est = L.est ∧
    (Live.writeAt L s level via k v).th = L.th ∧
    (Live.writeAt L s level via k v).lgc = L.lgc ∧
    (Live.writeAt L s level via k v).upd = L.upd ∧
    (Live.writeAt L s level via k v).jrn = L.jrn ∧
    (Live.writeAt L s level via k v).ret = L.ret ∧
    (Live.writeAt L s level via k v).obj = L.obj ∧
    (Live.writeAt L s level via k v).blob = L.blob ∧
    (Live.writeAt L s level via k v).free = L.free := by
  have h0 := @Live.writeHere_frame
  have h1 := @Live.passOn_frame
  have h2 := @Live.forwardOn_frame
  simp [Live.writeAt, h0, h1, h2]

theorem Live.write_frame (L : Live) (s : Sess) (via : Bool) (k : Nat) (v : Bytes) :
    (Live.write L s via k v).mode = L.mode ∧
    (Live.write L s via k v).pins = L.pins ∧
    (Live.write L s via k v).time = L.time ∧
    (Live.write L s via k v).rcd = L.rcd ∧
    (Live.write L s via k v).saf = L.saf ∧
    (Live.write L s via k v).seg = L.seg ∧
    (Live.write L s via k v).node = L.node ∧
    (Live.write L s via k v).conv = L.conv ∧
    (Live.write L s via k v).eng = L.eng ∧
    (Live.write L s via k v).chi = L.chi ∧
    (Live.write L s via k v).cap = L.cap ∧
    (Live.write L s via k v).est = L.est ∧
    (Live.write L s via k v).th = L.th ∧
    (Live.write L s via k v).lgc = L.lgc ∧
    (Live.write L s via k v).upd = L.upd ∧
    (Live.write L s via k v).jrn = L.jrn ∧
    (Live.write L s via k v).ret = L.ret ∧
    (Live.write L s via k v).obj = L.obj ∧
    (Live.write L s via k v).blob = L.blob ∧
    (Live.write L s via k v).free = L.free := by
  have h0 := @Live.writeAt_frame
  simp [Live.write, h0]

end Sys2Proof.Machine
end

