-- ==== Sys2Proof/Laws/FrameLogicCode.lean ====
section
/-! SUPPORT. What each operation of Machine/LogicCode.lean leaves as it is. -/

namespace Sys2Proof.Machine

open Sys2Proof

theorem Live.lgcEv_frame (L : Live) (src code cls : Nat) (key rest : Bytes) :
    (Live.lgcEv L src code cls key rest).mode = L.mode ∧
    (Live.lgcEv L src code cls key rest).pins = L.pins ∧
    (Live.lgcEv L src code cls key rest).time = L.time ∧
    (Live.lgcEv L src code cls key rest).ks = L.ks ∧
    (Live.lgcEv L src code cls key rest).saf = L.saf ∧
    (Live.lgcEv L src code cls key rest).seg = L.seg ∧
    (Live.lgcEv L src code cls key rest).node = L.node ∧
    (Live.lgcEv L src code cls key rest).conv = L.conv ∧
    (Live.lgcEv L src code cls key rest).twin = L.twin ∧
    (Live.lgcEv L src code cls key rest).eng = L.eng ∧
    (Live.lgcEv L src code cls key rest).chi = L.chi ∧
    (Live.lgcEv L src code cls key rest).est = L.est ∧
    (Live.lgcEv L src code cls key rest).th = L.th ∧
    (Live.lgcEv L src code cls key rest).mgr = L.mgr ∧
    (Live.lgcEv L src code cls key rest).lgc = L.lgc ∧
    (Live.lgcEv L src code cls key rest).upd = L.upd ∧
    (Live.lgcEv L src code cls key rest).jrn = L.jrn ∧
    (Live.lgcEv L src code cls key rest).ret = L.ret ∧
    (Live.lgcEv L src code cls key rest).obj = L.obj ∧
    (Live.lgcEv L src code cls key rest).blob = L.blob ∧
    (Live.lgcEv L src code cls key rest).out = L.out ∧
    (Live.lgcEv L src code cls key rest).free = L.free := by
  simp [Live.lgcEv]

theorem Live.modLgc_frame (L : Live) (f : Logic → Logic) :
    (Live.modLgc L f).mode = L.mode ∧
    (Live.modLgc L f).pins = L.pins ∧
    (Live.modLgc L f).time = L.time ∧
    (Live.modLgc L f).ks = L.ks ∧
    (Live.modLgc L f).rcd = L.rcd ∧
    (Live.modLgc L f).saf = L.saf ∧
    (Live.modLgc L f).seg = L.seg ∧
    (Live.modLgc L f).node = L.node ∧
    (Live.modLgc L f).conv = L.conv ∧
    (Live.modLgc L f).twin = L.twin ∧
    (Live.modLgc L f).eng = L.eng ∧
    (Live.modLgc L f).chi = L.chi ∧
    (Live.modLgc L f).cap = L.cap ∧
    (Live.modLgc L f).est = L.est ∧
    (Live.modLgc L f).th = L.th ∧
    (Live.modLgc L f).com = L.com ∧
    (Live.modLgc L f).mgr = L.mgr ∧
    (Live.modLgc L f).upd = L.upd ∧
    (Live.modLgc L f).jrn = L.jrn ∧
    (Live.modLgc L f).dbg = L.dbg ∧
    (Live.modLgc L f).ret = L.ret ∧
    (Live.modLgc L f).obj = L.obj ∧
    (Live.modLgc L f).blob = L.blob ∧
    (Live.modLgc L f).out = L.out ∧
    (Live.modLgc L f).free = L.free := by
  simp [Live.modLgc]

theorem Live.popBit_frame (L : Live) (f : Bool → Bool → Bool) :
    (Live.popBit L f).mode = L.mode ∧
    (Live.popBit L f).pins = L.pins ∧
    (Live.popBit L f).time = L.time ∧
    (Live.popBit L f).ks = L.ks ∧
    (Live.popBit L f).rcd = L.rcd ∧
    (Live.popBit L f).saf = L.saf ∧
    (Live.popBit L f).seg = L.seg ∧
    (Live.popBit L f).node = L.node ∧
    (Live.popBit L f).conv = L.conv ∧
    (Live.popBit L f).twin = L.twin ∧
    (Live.popBit L f).eng = L.eng ∧
    (Live.popBit L f).chi = L.chi ∧
    (Live.popBit L f).cap = L.cap ∧
    (Live.popBit L f).est = L.est ∧
    (Live.popBit L f).th = L.th ∧
    (Live.popBit L f).com = L.com ∧
    (Live.popBit L f).mgr = L.mgr ∧
    (Live.popBit L f).upd = L.upd ∧
    (Live.popBit L f).jrn = L.jrn ∧
    (Live.popBit L f).dbg = L.dbg ∧
    (Live.popBit L f).ret = L.ret ∧
    (Live.popBit L f).obj = L.obj ∧
    (Live.popBit L f).blob = L.blob ∧
    (Live.popBit L f).out = L.out := by
  simp only [Live.popBit]
  (repeat' split) <;> simp

theorem Live.opMsgrx_frame (L : Live) (o : WordOp) :
    (Live.opMsgrx L o).mode = L.mode ∧
    (Live.opMsgrx L o).pins = L.pins ∧
    (Live.opMsgrx L o).time = L.time ∧
    (Live.opMsgrx L o).ks = L.ks ∧
    (Live.opMsgrx L o).rcd = L.rcd ∧
    (Live.opMsgrx L o).saf = L.saf ∧
    (Live.opMsgrx L o).seg = L.seg ∧
    (Live.opMsgrx L o).node = L.node ∧
    (Live.opMsgrx L o).conv = L.conv ∧
    (Live.opMsgrx L o).twin = L.twin ∧
    (Live.opMsgrx L o).eng = L.eng ∧
    (Live.opMsgrx L o).chi = L.chi ∧
    (Live.opMsgrx L o).cap = L.cap ∧
    (Live.opMsgrx L o).est = L.est ∧
    (Live.opMsgrx L o).th = L.th ∧
    (Live.opMsgrx L o).mgr = L.mgr ∧
    (Live.opMsgrx L o).upd = L.upd ∧
    (Live.opMsgrx L o).jrn = L.jrn ∧
    (Live.opMsgrx L o).dbg = L.dbg ∧
    (Live.opMsgrx L o).ret = L.ret ∧
    (Live.opMsgrx L o).blob = L.blob ∧
    (Live.opMsgrx L o).out = L.out ∧
    (Live.opMsgrx L o).free = L.free := by
  simp only [Live.opMsgrx]
  (repeat' split) <;> simp

theorem Live.opMsgtx_frame (L : Live) (o : WordOp) :
    (Live.opMsgtx L o).mode = L.mode ∧
    (Live.opMsgtx L o).pins = L.pins ∧
    (Live.opMsgtx L o).time = L.time ∧
    (Live.opMsgtx L o).ks = L.ks ∧
    (Live.opMsgtx L o).rcd = L.rcd ∧
    (Live.opMsgtx L o).saf = L.saf ∧
    (Live.opMsgtx L o).seg = L.seg ∧
    (Live.opMsgtx L o).node = L.node ∧
    (Live.opMsgtx L o).conv = L.conv ∧
    (Live.opMsgtx L o).twin = L.twin ∧
    (Live.opMsgtx L o).eng = L.eng ∧
    (Live.opMsgtx L o).chi = L.chi ∧
    (Live.opMsgtx L o).cap = L.cap ∧
    (Live.opMsgtx L o).est = L.est ∧
    (Live.opMsgtx L o).th = L.th ∧
    (Live.opMsgtx L o).com = L.com ∧
    (Live.opMsgtx L o).mgr = L.mgr ∧
    (Live.opMsgtx L o).upd = L.upd ∧
    (Live.opMsgtx L o).jrn = L.jrn ∧
    (Live.opMsgtx L o).dbg = L.dbg ∧
    (Live.opMsgtx L o).ret = L.ret ∧
    (Live.opMsgtx L o).obj = L.obj ∧
    (Live.opMsgtx L o).blob = L.blob ∧
    (Live.opMsgtx L o).out = L.out ∧
    (Live.opMsgtx L o).free = L.free := by
  simp [Live.opMsgtx]

theorem Live.opEvt_frame (L : Live) (cls code : Nat) :
    (Live.opEvt L cls code).mode = L.mode ∧
    (Live.opEvt L cls code).pins = L.pins ∧
    (Live.opEvt L cls code).time = L.time ∧
    (Live.opEvt L cls code).ks = L.ks ∧
    (Live.opEvt L cls code).saf = L.saf ∧
    (Live.opEvt L cls code).seg = L.seg ∧
    (Live.opEvt L cls code).node = L.node ∧
    (Live.opEvt L cls code).conv = L.conv ∧
    (Live.opEvt L cls code).twin = L.twin ∧
    (Live.opEvt L cls code).eng = L.eng ∧
    (Live.opEvt L cls code).chi = L.chi ∧
    (Live.opEvt L cls code).est = L.est ∧
    (Live.opEvt L cls code).th = L.th ∧
    (Live.opEvt L cls code).mgr = L.mgr ∧
    (Live.opEvt L cls code).upd = L.upd ∧
    (Live.opEvt L cls code).jrn = L.jrn ∧
    (Live.opEvt L cls code).ret = L.ret ∧
    (Live.opEvt L cls code).obj = L.obj ∧
    (Live.opEvt L cls code).blob = L.blob ∧
    (Live.opEvt L cls code).out = L.out ∧
    (Live.opEvt L cls code).free = L.free := by
  have h0 := @Live.lgcEv_frame
  have h1 := @Live.modLgc_frame
  simp [Live.opEvt, h0, h1]

/-- What one instruction of a program does to the block: it changes the virtual machine, pops a bit, handles a message, raises an
event, or nothing. -/
theorem Live.logicOp_cases (L : Live) (i : Instr) :
    (∃ f, L.logicOp i = L.modLgc f) ∨ (∃ f, L.logicOp i = L.popBit f) ∨ (∃ o, L.logicOp i = L.opMsgrx o) ∨
    (∃ o, L.logicOp i = L.opMsgtx o) ∨ (∃ c k, L.logicOp i = L.opEvt c k) ∨ L.logicOp i = L := by
  cases i
  case nop => exact .inl ⟨(fun g => g.begin_ 1), rfl⟩
  case ldb o => exact .inl ⟨(fun g => g.opLdb o), rfl⟩
  case andb o => exact .inl ⟨(fun g => g.opAndb o), rfl⟩
  case orb o => exact .inl ⟨(fun g => g.opOrb o), rfl⟩
  case stb o => exact .inl ⟨(fun g => g.opStb o), rfl⟩
  case setb o => exact .inl ⟨(fun g => g.opSetb o), rfl⟩
  case rstb o => exact .inl ⟨(fun g => g.opRstb o), rfl⟩
  case notb => exact .inl ⟨Logic.opNotb, rfl⟩
  case pushb => exact .inl ⟨Logic.opPushb, rfl⟩
  case popand => exact .inr (.inl ⟨(· && ·), rfl⟩)
  case popor => exact .inr (.inl ⟨(· || ·), rfl⟩)
  case ld o => exact .inl ⟨(fun g => g.opLd o), rfl⟩
  case ldi i => exact .inl ⟨(fun g => g.opLdi i), rfl⟩
  case ldhi i => exact .inl ⟨(fun g => g.opLdhi i), rfl⟩
  case st o => exact .inl ⟨(fun g => g.opSt o), rfl⟩
  case add o => exact .inl ⟨(fun g => g.opAdd o), rfl⟩
  case sub o => exact .inl ⟨(fun g => g.opSub o), rfl⟩
  case mul o => exact .inl ⟨(fun g => g.opMul o), rfl⟩
  case div o => exact .inl ⟨(fun g => g.opDiv o), rfl⟩
  case addi i => exact .inl ⟨(fun g => g.opAddi i), rfl⟩
  case and o => exact .inl ⟨(fun g => g.opAnd o), rfl⟩
  case or o => exact .inl ⟨(fun g => g.opOr o), rfl⟩
  case shl i => exact .inl ⟨(fun g => g.opShl i), rfl⟩
  case shr i => exact .inl ⟨(fun g => g.opShr i), rfl⟩
  case min o => exact .inl ⟨(fun g => g.opMin o), rfl⟩
  case max o => exact .inl ⟨(fun g => g.opMax o), rfl⟩
  case eq o => exact .inl ⟨(fun g => g.opCmp o (fun a v => a == v)), rfl⟩
  case ne o => exact .inl ⟨(fun g => g.opCmp o (fun a v => a != v)), rfl⟩
  case lt o => exact .inl ⟨(fun g => g.opCmp o (fun a v => decide (a < v))), rfl⟩
  case gt o => exact .inl ⟨(fun g => g.opCmp o (fun a v => decide (v < a))), rfl⟩
  case jmp t => exact .inl ⟨(fun g => g.opJump t true), rfl⟩
  case jmpt t => exact .inl ⟨(fun g => g.opJump t g.vm.ba), rfl⟩
  case jmpf t => exact .inl ⟨(fun g => g.opJump t (!g.vm.ba)), rfl⟩
  case loop i => exact .inl ⟨(fun g => g.opLoop i), rfl⟩
  case next => exact .inl ⟨Logic.opNext, rfl⟩
  case call t => exact .inl ⟨(fun g => g.opCall t), rfl⟩
  case ret => exact .inl ⟨Logic.opRet, rfl⟩
  case end_ => exact .inl ⟨Logic.opEnd, rfl⟩
  case ton o => exact .inl ⟨(fun g => g.opTimer o tonStep), rfl⟩
  case tof o => exact .inl ⟨(fun g => g.opTimer o tofStep), rfl⟩
  case tp o => exact .inl ⟨(fun g => g.opTimer o tpStep), rfl⟩
  case ctu o => exact .inl ⟨(fun g => g.opCounter o 0), rfl⟩
  case ctd o => exact .inl ⟨(fun g => g.opCounter o 1), rfl⟩
  case ctud o => exact .inl ⟨(fun g => g.opCounter o 2), rfl⟩
  case rTrig o => exact .inl ⟨(fun g => g.opEdge o true), rfl⟩
  case fTrig o => exact .inl ⟨(fun g => g.opEdge o false), rfl⟩
  case msgrx o => exact .inr (.inr (.inl ⟨o, rfl⟩))
  case msgtx o => exact .inr (.inr (.inr (.inl ⟨o, rfl⟩)))
  case evt c k => exact .inr (.inr (.inr (.inr (.inl ⟨c, k, rfl⟩))))
  all_goals exact .inr (.inr (.inr (.inr (.inr rfl))))

theorem Live.logicOp_frame (L : Live) (i : Instr) :
    (Live.logicOp L i).mode = L.mode ∧
    (Live.logicOp L i).pins = L.pins ∧
    (Live.logicOp L i).time = L.time ∧
    (Live.logicOp L i).ks = L.ks ∧
    (Live.logicOp L i).saf = L.saf ∧
    (Live.logicOp L i).seg = L.seg ∧
    (Live.logicOp L i).node = L.node ∧
    (Live.logicOp L i).conv = L.conv ∧
    (Live.logicOp L i).twin = L.twin ∧
    (Live.logicOp L i).eng = L.eng ∧
    (Live.logicOp L i).chi = L.chi ∧
    (Live.logicOp L i).est = L.est ∧
    (Live.logicOp L i).th = L.th ∧
    (Live.logicOp L i).mgr = L.mgr ∧
    (Live.logicOp L i).upd = L.upd ∧
    (Live.logicOp L i).jrn = L.jrn ∧
    (Live.logicOp L i).ret = L.ret ∧
    (Live.logicOp L i).blob = L.blob ∧
    (Live.logicOp L i).out = L.out := by
  have h0 := @Live.modLgc_frame
  have h1 := @Live.popBit_frame
  have h2 := @Live.opMsgrx_frame
  have h3 := @Live.opMsgtx_frame
  have h4 := @Live.opEvt_frame
  rcases L.logicOp_cases i with ⟨f, h⟩ | ⟨f, h⟩ | ⟨o, h⟩ | ⟨o, h⟩ | ⟨c, k, h⟩ | h <;> simp [h, h0, h1, h2, h3, h4]

end Sys2Proof.Machine
end

