-- ==== Sys2Proof/Laws/FrameManager.lean ====
section
/-! SUPPORT. What each operation of Machine/Manager.lean leaves as it is. -/

namespace Sys2Proof.Machine

open Sys2Proof

theorem Live.mgrEv_frame (L : Live) (src code cls : Nat) (rest : Bytes) :
    (Live.mgrEv L src code cls rest).mode = L.mode ∧
    (Live.mgrEv L src code cls rest).pins = L.pins ∧
    (Live.mgrEv L src code cls rest).time = L.time ∧
    (Live.mgrEv L src code cls rest).ks = L.ks ∧
    (Live.mgrEv L src code cls rest).saf = L.saf ∧
    (Live.mgrEv L src code cls rest).seg = L.seg ∧
    (Live.mgrEv L src code cls rest).node = L.node ∧
    (Live.mgrEv L src code cls rest).conv = L.conv ∧
    (Live.mgrEv L src code cls rest).twin = L.twin ∧
    (Live.mgrEv L src code cls rest).eng = L.eng ∧
    (Live.mgrEv L src code cls rest).chi = L.chi ∧
    (Live.mgrEv L src code cls rest).est = L.est ∧
    (Live.mgrEv L src code cls rest).th = L.th ∧
    (Live.mgrEv L src code cls rest).mgr = L.mgr ∧
    (Live.mgrEv L src code cls rest).lgc = L.lgc ∧
    (Live.mgrEv L src code cls rest).upd = L.upd ∧
    (Live.mgrEv L src code cls rest).jrn = L.jrn ∧
    (Live.mgrEv L src code cls rest).ret = L.ret ∧
    (Live.mgrEv L src code cls rest).obj = L.obj ∧
    (Live.mgrEv L src code cls rest).blob = L.blob ∧
    (Live.mgrEv L src code cls rest).out = L.out ∧
    (Live.mgrEv L src code cls rest).free = L.free := by
  simp [Live.mgrEv]

theorem Live.mirrorItem_frame (L : Live) (kind : Nat) (d : Bytes) :
    (Live.mirrorItem L kind d).mode = L.mode ∧
    (Live.mirrorItem L kind d).pins = L.pins ∧
    (Live.mirrorItem L kind d).time = L.time ∧
    (Live.mirrorItem L kind d).ks = L.ks ∧
    (Live.mirrorItem L kind d).rcd = L.rcd ∧
    (Live.mirrorItem L kind d).saf = L.saf ∧
    (Live.mirrorItem L kind d).seg = L.seg ∧
    (Live.mirrorItem L kind d).node = L.node ∧
    (Live.mirrorItem L kind d).conv = L.conv ∧
    (Live.mirrorItem L kind d).eng = L.eng ∧
    (Live.mirrorItem L kind d).chi = L.chi ∧
    (Live.mirrorItem L kind d).cap = L.cap ∧
    (Live.mirrorItem L kind d).est = L.est ∧
    (Live.mirrorItem L kind d).th = L.th ∧
    (Live.mirrorItem L kind d).com = L.com ∧
    (Live.mirrorItem L kind d).mgr = L.mgr ∧
    (Live.mirrorItem L kind d).lgc = L.lgc ∧
    (Live.mirrorItem L kind d).upd = L.upd ∧
    (Live.mirrorItem L kind d).jrn = L.jrn ∧
    (Live.mirrorItem L kind d).dbg = L.dbg ∧
    (Live.mirrorItem L kind d).ret = L.ret ∧
    (Live.mirrorItem L kind d).obj = L.obj ∧
    (Live.mirrorItem L kind d).blob = L.blob ∧
    (Live.mirrorItem L kind d).out = L.out ∧
    (Live.mirrorItem L kind d).free = L.free := by
  have h0 := @Live.toPartner_frame
  simp [Live.mirrorItem, h0]

theorem Live.holdSummary_frame (L : Live) (n : Nat) (b : Bytes) :
    (Live.holdSummary L n b).mode = L.mode ∧
    (Live.holdSummary L n b).pins = L.pins ∧
    (Live.holdSummary L n b).time = L.time ∧
    (Live.holdSummary L n b).ks = L.ks ∧
    (Live.holdSummary L n b).saf = L.saf ∧
    (Live.holdSummary L n b).seg = L.seg ∧
    (Live.holdSummary L n b).node = L.node ∧
    (Live.holdSummary L n b).conv = L.conv ∧
    (Live.holdSummary L n b).twin = L.twin ∧
    (Live.holdSummary L n b).eng = L.eng ∧
    (Live.holdSummary L n b).chi = L.chi ∧
    (Live.holdSummary L n b).est = L.est ∧
    (Live.holdSummary L n b).th = L.th ∧
    (Live.holdSummary L n b).lgc = L.lgc ∧
    (Live.holdSummary L n b).upd = L.upd ∧
    (Live.holdSummary L n b).jrn = L.jrn ∧
    (Live.holdSummary L n b).ret = L.ret ∧
    (Live.holdSummary L n b).obj = L.obj ∧
    (Live.holdSummary L n b).blob = L.blob ∧
    (Live.holdSummary L n b).out = L.out ∧
    (Live.holdSummary L n b).free = L.free := by
  simp [Live.holdSummary]

theorem Live.takeSummary_frame (L : Live) (n : Nat) (b : Bytes) :
    (Live.takeSummary L n b).mode = L.mode ∧
    (Live.takeSummary L n b).pins = L.pins ∧
    (Live.takeSummary L n b).time = L.time ∧
    (Live.takeSummary L n b).ks = L.ks ∧
    (Live.takeSummary L n b).saf = L.saf ∧
    (Live.takeSummary L n b).seg = L.seg ∧
    (Live.takeSummary L n b).node = L.node ∧
    (Live.takeSummary L n b).conv = L.conv ∧
    (Live.takeSummary L n b).eng = L.eng ∧
    (Live.takeSummary L n b).chi = L.chi ∧
    (Live.takeSummary L n b).est = L.est ∧
    (Live.takeSummary L n b).th = L.th ∧
    (Live.takeSummary L n b).lgc = L.lgc ∧
    (Live.takeSummary L n b).upd = L.upd ∧
    (Live.takeSummary L n b).jrn = L.jrn ∧
    (Live.takeSummary L n b).ret = L.ret ∧
    (Live.takeSummary L n b).obj = L.obj ∧
    (Live.takeSummary L n b).blob = L.blob ∧
    (Live.takeSummary L n b).out = L.out ∧
    (Live.takeSummary L n b).free = L.free := by
  have h0 := @Live.mgrEv_frame
  have h1 := @Live.mirrorItem_frame
  have h2 := @Live.holdSummary_frame
  simp [Live.takeSummary, h0, h1, h2]

theorem Live.summaryDeadline_frame (L : Live) :
    (Live.summaryDeadline L).mode = L.mode ∧
    (Live.summaryDeadline L).pins = L.pins ∧
    (Live.summaryDeadline L).time = L.time ∧
    (Live.summaryDeadline L).ks = L.ks ∧
    (Live.summaryDeadline L).saf = L.saf ∧
    (Live.summaryDeadline L).seg = L.seg ∧
    (Live.summaryDeadline L).node = L.node ∧
    (Live.summaryDeadline L).conv = L.conv ∧
    (Live.summaryDeadline L).twin = L.twin ∧
    (Live.summaryDeadline L).eng = L.eng ∧
    (Live.summaryDeadline L).chi = L.chi ∧
    (Live.summaryDeadline L).est = L.est ∧
    (Live.summaryDeadline L).th = L.th ∧
    (Live.summaryDeadline L).lgc = L.lgc ∧
    (Live.summaryDeadline L).upd = L.upd ∧
    (Live.summaryDeadline L).jrn = L.jrn ∧
    (Live.summaryDeadline L).ret = L.ret ∧
    (Live.summaryDeadline L).obj = L.obj ∧
    (Live.summaryDeadline L).blob = L.blob ∧
    (Live.summaryDeadline L).out = L.out ∧
    (Live.summaryDeadline L).free = L.free := by
  have h0 := @Live.mgrEv_frame
  simp [Live.summaryDeadline, h0]

theorem Live.endGrant_frame (L : Live) :
    (Live.endGrant L).mode = L.mode ∧
    (Live.endGrant L).pins = L.pins ∧
    (Live.endGrant L).time = L.time ∧
    (Live.endGrant L).ks = L.ks ∧
    (Live.endGrant L).saf = L.saf ∧
    (Live.endGrant L).seg = L.seg ∧
    (Live.endGrant L).node = L.node ∧
    (Live.endGrant L).conv = L.conv ∧
    (Live.endGrant L).twin = L.twin ∧
    (Live.endGrant L).eng = L.eng ∧
    (Live.endGrant L).chi = L.chi ∧
    (Live.endGrant L).est = L.est ∧
    (Live.endGrant L).th = L.th ∧
    (Live.endGrant L).lgc = L.lgc ∧
    (Live.endGrant L).upd = L.upd ∧
    (Live.endGrant L).jrn = L.jrn ∧
    (Live.endGrant L).ret = L.ret ∧
    (Live.endGrant L).obj = L.obj ∧
    (Live.endGrant L).blob = L.blob ∧
    (Live.endGrant L).out = L.out ∧
    (Live.endGrant L).free = L.free := by
  have h0 := @Live.mgrEv_frame
  simp only [Live.endGrant]
  (repeat' split) <;> simp [h0]

theorem Live.makeGrant_frame (L : Live) (p : Int) :
    (Live.makeGrant L p).mode = L.mode ∧
    (Live.makeGrant L p).pins = L.pins ∧
    (Live.makeGrant L p).time = L.time ∧
    (Live.makeGrant L p).ks = L.ks ∧
    (Live.makeGrant L p).saf = L.saf ∧
    (Live.makeGrant L p).seg = L.seg ∧
    (Live.makeGrant L p).node = L.node ∧
    (Live.makeGrant L p).conv = L.conv ∧
    (Live.makeGrant L p).twin = L.twin ∧
    (Live.makeGrant L p).eng = L.eng ∧
    (Live.makeGrant L p).chi = L.chi ∧
    (Live.makeGrant L p).est = L.est ∧
    (Live.makeGrant L p).th = L.th ∧
    (Live.makeGrant L p).lgc = L.lgc ∧
    (Live.makeGrant L p).upd = L.upd ∧
    (Live.makeGrant L p).jrn = L.jrn ∧
    (Live.makeGrant L p).ret = L.ret ∧
    (Live.makeGrant L p).obj = L.obj ∧
    (Live.makeGrant L p).blob = L.blob ∧
    (Live.makeGrant L p).out = L.out ∧
    (Live.makeGrant L p).free = L.free := by
  have h0 := @Live.mgrEv_frame
  simp only [Live.makeGrant]
  (repeat' split) <;> simp [h0]

theorem Live.designate_frame (L : Live) :
    (Live.designate L).1.mode = L.mode ∧
    (Live.designate L).1.pins = L.pins ∧
    (Live.designate L).1.time = L.time ∧
    (Live.designate L).1.ks = L.ks ∧
    (Live.designate L).1.saf = L.saf ∧
    (Live.designate L).1.seg = L.seg ∧
    (Live.designate L).1.node = L.node ∧
    (Live.designate L).1.conv = L.conv ∧
    (Live.designate L).1.twin = L.twin ∧
    (Live.designate L).1.eng = L.eng ∧
    (Live.designate L).1.chi = L.chi ∧
    (Live.designate L).1.est = L.est ∧
    (Live.designate L).1.th = L.th ∧
    (Live.designate L).1.mgr = L.mgr ∧
    (Live.designate L).1.lgc = L.lgc ∧
    (Live.designate L).1.upd = L.upd ∧
    (Live.designate L).1.jrn = L.jrn ∧
    (Live.designate L).1.ret = L.ret ∧
    (Live.designate L).1.obj = L.obj ∧
    (Live.designate L).1.blob = L.blob ∧
    (Live.designate L).1.out = L.out ∧
    (Live.designate L).1.free = L.free := by
  have h0 := @Live.mgrEv_frame
  simp [Live.designate, h0]

theorem Live.setShortfall_frame (L : Live) (s : Rat) :
    (Live.setShortfall L s).mode = L.mode ∧
    (Live.setShortfall L s).pins = L.pins ∧
    (Live.setShortfall L s).time = L.time ∧
    (Live.setShortfall L s).ks = L.ks ∧
    (Live.setShortfall L s).saf = L.saf ∧
    (Live.setShortfall L s).seg = L.seg ∧
    (Live.setShortfall L s).node = L.node ∧
    (Live.setShortfall L s).conv = L.conv ∧
    (Live.setShortfall L s).twin = L.twin ∧
    (Live.setShortfall L s).eng = L.eng ∧
    (Live.setShortfall L s).chi = L.chi ∧
    (Live.setShortfall L s).est = L.est ∧
    (Live.setShortfall L s).th = L.th ∧
    (Live.setShortfall L s).lgc = L.lgc ∧
    (Live.setShortfall L s).upd = L.upd ∧
    (Live.setShortfall L s).jrn = L.jrn ∧
    (Live.setShortfall L s).ret = L.ret ∧
    (Live.setShortfall L s).obj = L.obj ∧
    (Live.setShortfall L s).blob = L.blob ∧
    (Live.setShortfall L s).out = L.out ∧
    (Live.setShortfall L s).free = L.free := by
  have h0 := @Live.mgrEv_frame
  simp [Live.setShortfall, h0]

theorem Live.journalStep_frame (L : Live) (m : Nat) (shares : List Nat) (inj : Bytes) :
    (Live.journalStep L m shares inj).time = L.time ∧
    (Live.journalStep L m shares inj).ks = L.ks ∧
    (Live.journalStep L m shares inj).seg = L.seg ∧
    (Live.journalStep L m shares inj).node = L.node ∧
    (Live.journalStep L m shares inj).eng = L.eng ∧
    (Live.journalStep L m shares inj).est = L.est ∧
    (Live.journalStep L m shares inj).th = L.th ∧
    (Live.journalStep L m shares inj).lgc = L.lgc ∧
    (Live.journalStep L m shares inj).ret = L.ret ∧
    (Live.journalStep L m shares inj).blob = L.blob ∧
    (Live.journalStep L m shares inj).free = L.free := by
  have h0 := @Live.jwrite_frame
  simp [Live.journalStep, h0]

theorem Live.onBoth_frame (L : Live) (f : CanFrame) (cls who : Nat) :
    (Live.onBoth L f cls who).mode = L.mode ∧
    (Live.onBoth L f cls who).pins = L.pins ∧
    (Live.onBoth L f cls who).time = L.time ∧
    (Live.onBoth L f cls who).ks = L.ks ∧
    (Live.onBoth L f cls who).saf = L.saf ∧
    (Live.onBoth L f cls who).seg = L.seg ∧
    (Live.onBoth L f cls who).node = L.node ∧
    (Live.onBoth L f cls who).conv = L.conv ∧
    (Live.onBoth L f cls who).twin = L.twin ∧
    (Live.onBoth L f cls who).eng = L.eng ∧
    (Live.onBoth L f cls who).chi = L.chi ∧
    (Live.onBoth L f cls who).est = L.est ∧
    (Live.onBoth L f cls who).th = L.th ∧
    (Live.onBoth L f cls who).mgr = L.mgr ∧
    (Live.onBoth L f cls who).lgc = L.lgc ∧
    (Live.onBoth L f cls who).upd = L.upd ∧
    (Live.onBoth L f cls who).jrn = L.jrn ∧
    (Live.onBoth L f cls who).ret = L.ret ∧
    (Live.onBoth L f cls who).blob = L.blob ∧
    (Live.onBoth L f cls who).out = L.out ∧
    (Live.onBoth L f cls who).free = L.free := by
  simp [Live.onBoth]

theorem Live.holdSnapshot_frame (L : Live) (b : Bytes) :
    (Live.holdSnapshot L b).mode = L.mode ∧
    (Live.holdSnapshot L b).pins = L.pins ∧
    (Live.holdSnapshot L b).time = L.time ∧
    (Live.holdSnapshot L b).ks = L.ks ∧
    (Live.holdSnapshot L b).rcd = L.rcd ∧
    (Live.holdSnapshot L b).saf = L.saf ∧
    (Live.holdSnapshot L b).seg = L.seg ∧
    (Live.holdSnapshot L b).node = L.node ∧
    (Live.holdSnapshot L b).conv = L.conv ∧
    (Live.holdSnapshot L b).twin = L.twin ∧
    (Live.holdSnapshot L b).eng = L.eng ∧
    (Live.holdSnapshot L b).chi = L.chi ∧
    (Live.holdSnapshot L b).cap = L.cap ∧
    (Live.holdSnapshot L b).est = L.est ∧
    (Live.holdSnapshot L b).th = L.th ∧
    (Live.holdSnapshot L b).com = L.com ∧
    (Live.holdSnapshot L b).lgc = L.lgc ∧
    (Live.holdSnapshot L b).upd = L.upd ∧
    (Live.holdSnapshot L b).jrn = L.jrn ∧
    (Live.holdSnapshot L b).dbg = L.dbg ∧
    (Live.holdSnapshot L b).ret = L.ret ∧
    (Live.holdSnapshot L b).obj = L.obj ∧
    (Live.holdSnapshot L b).blob = L.blob ∧
    (Live.holdSnapshot L b).out = L.out ∧
    (Live.holdSnapshot L b).free = L.free := by
  simp [Live.holdSnapshot]

theorem Live.holdStep_frame (L : Live) (f : Bytes) :
    (Live.holdStep L f).mode = L.mode ∧
    (Live.holdStep L f).pins = L.pins ∧
    (Live.holdStep L f).time = L.time ∧
    (Live.holdStep L f).ks = L.ks ∧
    (Live.holdStep L f).rcd = L.rcd ∧
    (Live.holdStep L f).saf = L.saf ∧
    (Live.holdStep L f).seg = L.seg ∧
    (Live.holdStep L f).node = L.node ∧
    (Live.holdStep L f).twin = L.twin ∧
    (Live.holdStep L f).eng = L.eng ∧
    (Live.holdStep L f).chi = L.chi ∧
    (Live.holdStep L f).cap = L.cap ∧
    (Live.holdStep L f).est = L.est ∧
    (Live.holdStep L f).th = L.th ∧
    (Live.holdStep L f).com = L.com ∧
    (Live.holdStep L f).mgr = L.mgr ∧
    (Live.holdStep L f).lgc = L.lgc ∧
    (Live.holdStep L f).upd = L.upd ∧
    (Live.holdStep L f).jrn = L.jrn ∧
    (Live.holdStep L f).dbg = L.dbg ∧
    (Live.holdStep L f).ret = L.ret ∧
    (Live.holdStep L f).obj = L.obj ∧
    (Live.holdStep L f).blob = L.blob ∧
    (Live.holdStep L f).out = L.out ∧
    (Live.holdStep L f).free = L.free := by
  simp [Live.holdStep]

theorem Live.sendBay_frame (L : Live) (m : Nat) :
    (Live.sendBay L m).time = L.time ∧
    (Live.sendBay L m).ks = L.ks ∧
    (Live.sendBay L m).seg = L.seg ∧
    (Live.sendBay L m).node = L.node ∧
    (Live.sendBay L m).eng = L.eng ∧
    (Live.sendBay L m).est = L.est ∧
    (Live.sendBay L m).th = L.th ∧
    (Live.sendBay L m).lgc = L.lgc ∧
    (Live.sendBay L m).ret = L.ret ∧
    (Live.sendBay L m).blob = L.blob := by
  have h0 := @Live.designate_frame
  have h1 := @Live.setShortfall_frame
  have h2 := @Live.makeGrant_frame
  have h3 := @Live.endGrant_frame
  have h4 := @Live.holdStep_frame
  have h5 := @Live.onBoth_frame
  have h6 := @Live.journalStep_frame
  have h7 := @Live.mirrorItem_frame
  have h8 := @Live.holdSnapshot_frame
  simp [Live.sendBay, h0, h1, h2, h3, h4, h5, h6, h7, h8]

theorem Live.entryTarget_frame (L : Live) (e : Int) :
    (Live.entryTarget L e).mode = L.mode ∧
    (Live.entryTarget L e).pins = L.pins ∧
    (Live.entryTarget L e).time = L.time ∧
    (Live.entryTarget L e).ks = L.ks ∧
    (Live.entryTarget L e).rcd = L.rcd ∧
    (Live.entryTarget L e).saf = L.saf ∧
    (Live.entryTarget L e).seg = L.seg ∧
    (Live.entryTarget L e).node = L.node ∧
    (Live.entryTarget L e).conv = L.conv ∧
    (Live.entryTarget L e).twin = L.twin ∧
    (Live.entryTarget L e).eng = L.eng ∧
    (Live.entryTarget L e).chi = L.chi ∧
    (Live.entryTarget L e).cap = L.cap ∧
    (Live.entryTarget L e).est = L.est ∧
    (Live.entryTarget L e).th = L.th ∧
    (Live.entryTarget L e).com = L.com ∧
    (Live.entryTarget L e).mgr = L.mgr ∧
    (Live.entryTarget L e).lgc = L.lgc ∧
    (Live.entryTarget L e).upd = L.upd ∧
    (Live.entryTarget L e).jrn = L.jrn ∧
    (Live.entryTarget L e).dbg = L.dbg ∧
    (Live.entryTarget L e).ret = L.ret ∧
    (Live.entryTarget L e).blob = L.blob ∧
    (Live.entryTarget L e).out = L.out ∧
    (Live.entryTarget L e).free = L.free := by
  simp only [Live.entryTarget]
  (repeat' split) <;> simp

theorem Live.applyStep23_frame (L : Live) :
    (Live.applyStep23 L).mode = L.mode ∧
    (Live.applyStep23 L).pins = L.pins ∧
    (Live.applyStep23 L).ks = L.ks ∧
    (Live.applyStep23 L).rcd = L.rcd ∧
    (Live.applyStep23 L).saf = L.saf ∧
    (Live.applyStep23 L).seg = L.seg ∧
    (Live.applyStep23 L).node = L.node ∧
    (Live.applyStep23 L).twin = L.twin ∧
    (Live.applyStep23 L).eng = L.eng ∧
    (Live.applyStep23 L).chi = L.chi ∧
    (Live.applyStep23 L).cap = L.cap ∧
    (Live.applyStep23 L).est = L.est ∧
    (Live.applyStep23 L).th = L.th ∧
    (Live.applyStep23 L).com = L.com ∧
    (Live.applyStep23 L).mgr = L.mgr ∧
    (Live.applyStep23 L).lgc = L.lgc ∧
    (Live.applyStep23 L).upd = L.upd ∧
    (Live.applyStep23 L).jrn = L.jrn ∧
    (Live.applyStep23 L).dbg = L.dbg ∧
    (Live.applyStep23 L).ret = L.ret ∧
    (Live.applyStep23 L).blob = L.blob ∧
    (Live.applyStep23 L).out = L.out ∧
    (Live.applyStep23 L).free = L.free := by
  have h0 := @Live.entryTarget_frame
  simp only [Live.applyStep23]
  (repeat' split) <;> simp [h0]

theorem Live.afterModeWrite_frame (old L : Live) :
    (Live.afterModeWrite old L).mode = L.mode ∧
    (Live.afterModeWrite old L).pins = L.pins ∧
    (Live.afterModeWrite old L).ks = L.ks ∧
    (Live.afterModeWrite old L).rcd = L.rcd ∧
    (Live.afterModeWrite old L).saf = L.saf ∧
    (Live.afterModeWrite old L).seg = L.seg ∧
    (Live.afterModeWrite old L).node = L.node ∧
    (Live.afterModeWrite old L).twin = L.twin ∧
    (Live.afterModeWrite old L).eng = L.eng ∧
    (Live.afterModeWrite old L).chi = L.chi ∧
    (Live.afterModeWrite old L).cap = L.cap ∧
    (Live.afterModeWrite old L).est = L.est ∧
    (Live.afterModeWrite old L).th = L.th ∧
    (Live.afterModeWrite old L).com = L.com ∧
    (Live.afterModeWrite old L).mgr = L.mgr ∧
    (Live.afterModeWrite old L).lgc = L.lgc ∧
    (Live.afterModeWrite old L).upd = L.upd ∧
    (Live.afterModeWrite old L).jrn = L.jrn ∧
    (Live.afterModeWrite old L).dbg = L.dbg ∧
    (Live.afterModeWrite old L).ret = L.ret ∧
    (Live.afterModeWrite old L).blob = L.blob ∧
    (Live.afterModeWrite old L).out = L.out ∧
    (Live.afterModeWrite old L).free = L.free := by
  have h0 := @Live.entryTarget_frame
  simp only [Live.afterModeWrite]
  (repeat' split) <;> simp [h0]

theorem Live.commitSnap_frame (L : Live) :
    (Live.commitSnap L).mode = L.mode ∧
    (Live.commitSnap L).pins = L.pins ∧
    (Live.commitSnap L).time = L.time ∧
    (Live.commitSnap L).ks = L.ks ∧
    (Live.commitSnap L).rcd = L.rcd ∧
    (Live.commitSnap L).saf = L.saf ∧
    (Live.commitSnap L).seg = L.seg ∧
    (Live.commitSnap L).node = L.node ∧
    (Live.commitSnap L).conv = L.conv ∧
    (Live.commitSnap L).twin = L.twin ∧
    (Live.commitSnap L).eng = L.eng ∧
    (Live.commitSnap L).chi = L.chi ∧
    (Live.commitSnap L).cap = L.cap ∧
    (Live.commitSnap L).est = L.est ∧
    (Live.commitSnap L).th = L.th ∧
    (Live.commitSnap L).com = L.com ∧
    (Live.commitSnap L).lgc = L.lgc ∧
    (Live.commitSnap L).upd = L.upd ∧
    (Live.commitSnap L).jrn = L.jrn ∧
    (Live.commitSnap L).dbg = L.dbg ∧
    (Live.commitSnap L).ret = L.ret ∧
    (Live.commitSnap L).obj = L.obj ∧
    (Live.commitSnap L).blob = L.blob ∧
    (Live.commitSnap L).out = L.out ∧
    (Live.commitSnap L).free = L.free := by
  simp only [Live.commitSnap]
  (repeat' split) <;> simp

end Sys2Proof.Machine
end

