-- ==== Sys2Proof/Laws/FrameLogicOps.lean ====
section
/-! SUPPORT. What each operation of Machine/LogicOps.lean leaves as it is. -/

namespace Sys2Proof.Machine

open Sys2Proof

theorem Live.forceEv_frame (L : Live) (code cls : Nat) (f : Force) :
    (Live.forceEv L code cls f).mode = L.mode ∧
    (Live.forceEv L code cls f).pins = L.pins ∧
    (Live.forceEv L code cls f).time = L.time ∧
    (Live.forceEv L code cls f).ks = L.ks ∧
    (Live.forceEv L code cls f).saf = L.saf ∧
    (Live.forceEv L code cls f).seg = L.seg ∧
    (Live.forceEv L code cls f).node = L.node ∧
    (Live.forceEv L code cls f).conv = L.conv ∧
    (Live.forceEv L code cls f).twin = L.twin ∧
    (Live.forceEv L code cls f).eng = L.eng ∧
    (Live.forceEv L code cls f).chi = L.chi ∧
    (Live.forceEv L code cls f).est = L.est ∧
    (Live.forceEv L code cls f).th = L.th ∧
    (Live.forceEv L code cls f).mgr = L.mgr ∧
    (Live.forceEv L code cls f).lgc = L.lgc ∧
    (Live.forceEv L code cls f).upd = L.upd ∧
    (Live.forceEv L code cls f).jrn = L.jrn ∧
    (Live.forceEv L code cls f).ret = L.ret ∧
    (Live.forceEv L code cls f).obj = L.obj ∧
    (Live.forceEv L code cls f).blob = L.blob ∧
    (Live.forceEv L code cls f).out = L.out ∧
    (Live.forceEv L code cls f).free = L.free := by
  have h0 := @Live.lgcEv_frame
  simp [Live.forceEv, h0]

theorem Live.clearForcesRestart_frame (L : Live) :
    (Live.clearForcesRestart L).mode = L.mode ∧
    (Live.clearForcesRestart L).pins = L.pins ∧
    (Live.clearForcesRestart L).time = L.time ∧
    (Live.clearForcesRestart L).ks = L.ks ∧
    (Live.clearForcesRestart L).saf = L.saf ∧
    (Live.clearForcesRestart L).seg = L.seg ∧
    (Live.clearForcesRestart L).node = L.node ∧
    (Live.clearForcesRestart L).conv = L.conv ∧
    (Live.clearForcesRestart L).twin = L.twin ∧
    (Live.clearForcesRestart L).eng = L.eng ∧
    (Live.clearForcesRestart L).chi = L.chi ∧
    (Live.clearForcesRestart L).est = L.est ∧
    (Live.clearForcesRestart L).th = L.th ∧
    (Live.clearForcesRestart L).mgr = L.mgr ∧
    (Live.clearForcesRestart L).upd = L.upd ∧
    (Live.clearForcesRestart L).jrn = L.jrn ∧
    (Live.clearForcesRestart L).ret = L.ret ∧
    (Live.clearForcesRestart L).obj = L.obj ∧
    (Live.clearForcesRestart L).blob = L.blob ∧
    (Live.clearForcesRestart L).out = L.out ∧
    (Live.clearForcesRestart L).free = L.free := by
  have h0 := @Live.modLgc_frame
  have h1 := @Live.lgcEv_frame
  simp [Live.clearForcesRestart, h0, h1]

theorem Live.logicRestart_frame (L : Live) (cold : Bool) :
    (Live.logicRestart L cold).mode = L.mode ∧
    (Live.logicRestart L cold).pins = L.pins ∧
    (Live.logicRestart L cold).time = L.time ∧
    (Live.logicRestart L cold).ks = L.ks ∧
    (Live.logicRestart L cold).saf = L.saf ∧
    (Live.logicRestart L cold).seg = L.seg ∧
    (Live.logicRestart L cold).node = L.node ∧
    (Live.logicRestart L cold).conv = L.conv ∧
    (Live.logicRestart L cold).twin = L.twin ∧
    (Live.logicRestart L cold).eng = L.eng ∧
    (Live.logicRestart L cold).chi = L.chi ∧
    (Live.logicRestart L cold).est = L.est ∧
    (Live.logicRestart L cold).th = L.th ∧
    (Live.logicRestart L cold).mgr = L.mgr ∧
    (Live.logicRestart L cold).upd = L.upd ∧
    (Live.logicRestart L cold).jrn = L.jrn ∧
    (Live.logicRestart L cold).ret = L.ret ∧
    (Live.logicRestart L cold).blob = L.blob ∧
    (Live.logicRestart L cold).out = L.out ∧
    (Live.logicRestart L cold).free = L.free := by
  have h0 := @Live.clearForcesRestart_frame
  have h1 := @Live.lgcEv_frame
  simp [Live.logicRestart, h0, h1]

theorem Live.logicStart_frame (L : Live) (cold : Bool) :
    (Live.logicStart L cold).mode = L.mode ∧
    (Live.logicStart L cold).pins = L.pins ∧
    (Live.logicStart L cold).time = L.time ∧
    (Live.logicStart L cold).ks = L.ks ∧
    (Live.logicStart L cold).saf = L.saf ∧
    (Live.logicStart L cold).seg = L.seg ∧
    (Live.logicStart L cold).node = L.node ∧
    (Live.logicStart L cold).conv = L.conv ∧
    (Live.logicStart L cold).twin = L.twin ∧
    (Live.logicStart L cold).eng = L.eng ∧
    (Live.logicStart L cold).chi = L.chi ∧
    (Live.logicStart L cold).est = L.est ∧
    (Live.logicStart L cold).th = L.th ∧
    (Live.logicStart L cold).mgr = L.mgr ∧
    (Live.logicStart L cold).upd = L.upd ∧
    (Live.logicStart L cold).jrn = L.jrn ∧
    (Live.logicStart L cold).ret = L.ret ∧
    (Live.logicStart L cold).blob = L.blob ∧
    (Live.logicStart L cold).out = L.out ∧
    (Live.logicStart L cold).free = L.free := by
  have h0 := @Live.modLgc_frame
  have h1 := @Live.logicRestart_frame
  simp [Live.logicStart, h0, h1]

theorem Live.stopOutputs_frame (L : Live) :
    (Live.stopOutputs L).mode = L.mode ∧
    (Live.stopOutputs L).pins = L.pins ∧
    (Live.stopOutputs L).time = L.time ∧
    (Live.stopOutputs L).ks = L.ks ∧
    (Live.stopOutputs L).rcd = L.rcd ∧
    (Live.stopOutputs L).saf = L.saf ∧
    (Live.stopOutputs L).seg = L.seg ∧
    (Live.stopOutputs L).node = L.node ∧
    (Live.stopOutputs L).conv = L.conv ∧
    (Live.stopOutputs L).twin = L.twin ∧
    (Live.stopOutputs L).eng = L.eng ∧
    (Live.stopOutputs L).chi = L.chi ∧
    (Live.stopOutputs L).cap = L.cap ∧
    (Live.stopOutputs L).est = L.est ∧
    (Live.stopOutputs L).th = L.th ∧
    (Live.stopOutputs L).com = L.com ∧
    (Live.stopOutputs L).mgr = L.mgr ∧
    (Live.stopOutputs L).upd = L.upd ∧
    (Live.stopOutputs L).jrn = L.jrn ∧
    (Live.stopOutputs L).dbg = L.dbg ∧
    (Live.stopOutputs L).ret = L.ret ∧
    (Live.stopOutputs L).obj = L.obj ∧
    (Live.stopOutputs L).blob = L.blob ∧
    (Live.stopOutputs L).out = L.out ∧
    (Live.stopOutputs L).free = L.free := by
  have h0 := @Live.modLgc_frame
  simp [Live.stopOutputs, h0]

theorem Live.logicStop_frame (L : Live) :
    (Live.logicStop L).mode = L.mode ∧
    (Live.logicStop L).pins = L.pins ∧
    (Live.logicStop L).time = L.time ∧
    (Live.logicStop L).ks = L.ks ∧
    (Live.logicStop L).saf = L.saf ∧
    (Live.logicStop L).seg = L.seg ∧
    (Live.logicStop L).node = L.node ∧
    (Live.logicStop L).conv = L.conv ∧
    (Live.logicStop L).twin = L.twin ∧
    (Live.logicStop L).eng = L.eng ∧
    (Live.logicStop L).chi = L.chi ∧
    (Live.logicStop L).est = L.est ∧
    (Live.logicStop L).th = L.th ∧
    (Live.logicStop L).mgr = L.mgr ∧
    (Live.logicStop L).upd = L.upd ∧
    (Live.logicStop L).jrn = L.jrn ∧
    (Live.logicStop L).ret = L.ret ∧
    (Live.logicStop L).blob = L.blob ∧
    (Live.logicStop L).out = L.out ∧
    (Live.logicStop L).free = L.free := by
  have h0 := @Live.lgcEv_frame
  have h1 := @Live.stopOutputs_frame
  have h2 := @Live.modLgc_frame
  simp [Live.logicStop, h0, h1, h2]

theorem Live.logicFault_frame (L : Live) :
    (Live.logicFault L).mode = L.mode ∧
    (Live.logicFault L).pins = L.pins ∧
    (Live.logicFault L).time = L.time ∧
    (Live.logicFault L).ks = L.ks ∧
    (Live.logicFault L).saf = L.saf ∧
    (Live.logicFault L).seg = L.seg ∧
    (Live.logicFault L).node = L.node ∧
    (Live.logicFault L).conv = L.conv ∧
    (Live.logicFault L).twin = L.twin ∧
    (Live.logicFault L).eng = L.eng ∧
    (Live.logicFault L).chi = L.chi ∧
    (Live.logicFault L).est = L.est ∧
    (Live.logicFault L).th = L.th ∧
    (Live.logicFault L).mgr = L.mgr ∧
    (Live.logicFault L).upd = L.upd ∧
    (Live.logicFault L).jrn = L.jrn ∧
    (Live.logicFault L).ret = L.ret ∧
    (Live.logicFault L).blob = L.blob ∧
    (Live.logicFault L).out = L.out ∧
    (Live.logicFault L).free = L.free := by
  have h0 := @Live.lgcEv_frame
  have h1 := @Live.stopOutputs_frame
  have h2 := @Live.modLgc_frame
  simp [Live.logicFault, h0, h1, h2]

theorem Live.logicCourse_frame (L : Live) :
    (Live.logicCourse L).mode = L.mode ∧
    (Live.logicCourse L).pins = L.pins ∧
    (Live.logicCourse L).time = L.time ∧
    (Live.logicCourse L).ks = L.ks ∧
    (Live.logicCourse L).rcd = L.rcd ∧
    (Live.logicCourse L).saf = L.saf ∧
    (Live.logicCourse L).seg = L.seg ∧
    (Live.logicCourse L).node = L.node ∧
    (Live.logicCourse L).conv = L.conv ∧
    (Live.logicCourse L).eng = L.eng ∧
    (Live.logicCourse L).chi = L.chi ∧
    (Live.logicCourse L).cap = L.cap ∧
    (Live.logicCourse L).est = L.est ∧
    (Live.logicCourse L).th = L.th ∧
    (Live.logicCourse L).com = L.com ∧
    (Live.logicCourse L).mgr = L.mgr ∧
    (Live.logicCourse L).upd = L.upd ∧
    (Live.logicCourse L).jrn = L.jrn ∧
    (Live.logicCourse L).dbg = L.dbg ∧
    (Live.logicCourse L).ret = L.ret ∧
    (Live.logicCourse L).obj = L.obj ∧
    (Live.logicCourse L).blob = L.blob ∧
    (Live.logicCourse L).out = L.out ∧
    (Live.logicCourse L).free = L.free := by
  have h0 := @Live.modLgc_frame
  have h1 := @Live.mirrorItem_frame
  have h2 := @Live.stopOutputs_frame
  simp [Live.logicCourse, h0, h1, h2]

theorem Live.prepareScan_frame (snap L : Live) :
    (Live.prepareScan snap L).mode = L.mode ∧
    (Live.prepareScan snap L).pins = L.pins ∧
    (Live.prepareScan snap L).time = L.time ∧
    (Live.prepareScan snap L).ks = L.ks ∧
    (Live.prepareScan snap L).rcd = L.rcd ∧
    (Live.prepareScan snap L).saf = L.saf ∧
    (Live.prepareScan snap L).seg = L.seg ∧
    (Live.prepareScan snap L).node = L.node ∧
    (Live.prepareScan snap L).conv = L.conv ∧
    (Live.prepareScan snap L).twin = L.twin ∧
    (Live.prepareScan snap L).eng = L.eng ∧
    (Live.prepareScan snap L).chi = L.chi ∧
    (Live.prepareScan snap L).cap = L.cap ∧
    (Live.prepareScan snap L).est = L.est ∧
    (Live.prepareScan snap L).th = L.th ∧
    (Live.prepareScan snap L).com = L.com ∧
    (Live.prepareScan snap L).mgr = L.mgr ∧
    (Live.prepareScan snap L).upd = L.upd ∧
    (Live.prepareScan snap L).jrn = L.jrn ∧
    (Live.prepareScan snap L).dbg = L.dbg ∧
    (Live.prepareScan snap L).ret = L.ret ∧
    (Live.prepareScan snap L).obj = L.obj ∧
    (Live.prepareScan snap L).blob = L.blob ∧
    (Live.prepareScan snap L).out = L.out ∧
    (Live.prepareScan snap L).free = L.free := by
  have h0 := @Live.modLgc_frame
  simp [Live.prepareScan, h0]

theorem Live.attention_frame (L : Live) (bit : Nat) :
    (Live.attention L bit).mode = L.mode ∧
    (Live.attention L bit).pins = L.pins ∧
    (Live.attention L bit).time = L.time ∧
    (Live.attention L bit).ks = L.ks ∧
    (Live.attention L bit).rcd = L.rcd ∧
    (Live.attention L bit).saf = L.saf ∧
    (Live.attention L bit).seg = L.seg ∧
    (Live.attention L bit).node = L.node ∧
    (Live.attention L bit).conv = L.conv ∧
    (Live.attention L bit).twin = L.twin ∧
    (Live.attention L bit).eng = L.eng ∧
    (Live.attention L bit).chi = L.chi ∧
    (Live.attention L bit).cap = L.cap ∧
    (Live.attention L bit).est = L.est ∧
    (Live.attention L bit).th = L.th ∧
    (Live.attention L bit).com = L.com ∧
    (Live.attention L bit).mgr = L.mgr ∧
    (Live.attention L bit).lgc = L.lgc ∧
    (Live.attention L bit).upd = L.upd ∧
    (Live.attention L bit).jrn = L.jrn ∧
    (Live.attention L bit).ret = L.ret ∧
    (Live.attention L bit).obj = L.obj ∧
    (Live.attention L bit).blob = L.blob ∧
    (Live.attention L bit).out = L.out ∧
    (Live.attention L bit).free = L.free := by
  simp [Live.attention]

theorem Live.haltTaken_frame (L : Live) :
    (Live.haltTaken L).mode = L.mode ∧
    (Live.haltTaken L).pins = L.pins ∧
    (Live.haltTaken L).time = L.time ∧
    (Live.haltTaken L).ks = L.ks ∧
    (Live.haltTaken L).saf = L.saf ∧
    (Live.haltTaken L).seg = L.seg ∧
    (Live.haltTaken L).node = L.node ∧
    (Live.haltTaken L).conv = L.conv ∧
    (Live.haltTaken L).twin = L.twin ∧
    (Live.haltTaken L).eng = L.eng ∧
    (Live.haltTaken L).chi = L.chi ∧
    (Live.haltTaken L).est = L.est ∧
    (Live.haltTaken L).th = L.th ∧
    (Live.haltTaken L).mgr = L.mgr ∧
    (Live.haltTaken L).upd = L.upd ∧
    (Live.haltTaken L).jrn = L.jrn ∧
    (Live.haltTaken L).ret = L.ret ∧
    (Live.haltTaken L).blob = L.blob ∧
    (Live.haltTaken L).out = L.out ∧
    (Live.haltTaken L).free = L.free := by
  have h0 := @Live.attention_frame
  have h1 := @Live.modLgc_frame
  simp [Live.haltTaken, h0, h1]

theorem Live.brkTaken_frame (L : Live) (slot : Nat) :
    (Live.brkTaken L slot).mode = L.mode ∧
    (Live.brkTaken L slot).pins = L.pins ∧
    (Live.brkTaken L slot).time = L.time ∧
    (Live.brkTaken L slot).ks = L.ks ∧
    (Live.brkTaken L slot).saf = L.saf ∧
    (Live.brkTaken L slot).seg = L.seg ∧
    (Live.brkTaken L slot).node = L.node ∧
    (Live.brkTaken L slot).conv = L.conv ∧
    (Live.brkTaken L slot).twin = L.twin ∧
    (Live.brkTaken L slot).eng = L.eng ∧
    (Live.brkTaken L slot).chi = L.chi ∧
    (Live.brkTaken L slot).est = L.est ∧
    (Live.brkTaken L slot).th = L.th ∧
    (Live.brkTaken L slot).mgr = L.mgr ∧
    (Live.brkTaken L slot).upd = L.upd ∧
    (Live.brkTaken L slot).jrn = L.jrn ∧
    (Live.brkTaken L slot).ret = L.ret ∧
    (Live.brkTaken L slot).blob = L.blob ∧
    (Live.brkTaken L slot).out = L.out ∧
    (Live.brkTaken L slot).free = L.free := by
  have h0 := @Live.haltTaken_frame
  have h1 := @Live.modLgc_frame
  have h2 := @Live.attention_frame
  simp [Live.brkTaken, h0, h1, h2]

theorem runLogic_frame (img : Bytes) (n : Nat) (skip : Bool) (L : Live) :
    ((runLogic img n skip L).1).mode = L.mode ∧
    ((runLogic img n skip L).1).pins = L.pins ∧
    ((runLogic img n skip L).1).time = L.time ∧
    ((runLogic img n skip L).1).ks = L.ks ∧
    ((runLogic img n skip L).1).saf = L.saf ∧
    ((runLogic img n skip L).1).seg = L.seg ∧
    ((runLogic img n skip L).1).node = L.node ∧
    ((runLogic img n skip L).1).conv = L.conv ∧
    ((runLogic img n skip L).1).twin = L.twin ∧
    ((runLogic img n skip L).1).eng = L.eng ∧
    ((runLogic img n skip L).1).chi = L.chi ∧
    ((runLogic img n skip L).1).est = L.est ∧
    ((runLogic img n skip L).1).th = L.th ∧
    ((runLogic img n skip L).1).mgr = L.mgr ∧
    ((runLogic img n skip L).1).upd = L.upd ∧
    ((runLogic img n skip L).1).jrn = L.jrn ∧
    ((runLogic img n skip L).1).ret = L.ret ∧
    ((runLogic img n skip L).1).blob = L.blob ∧
    ((runLogic img n skip L).1).out = L.out := by
  have h0 := @Live.modLgc_frame
  have h1 := @Live.logicOp_frame
  induction n generalizing skip L with
  | zero => simp [runLogic, h0, h1]
  | succ n ih =>
    simp only [runLogic]
    split
    · simp [h0, h1]
    · split
      · simp [h0, h1]
      · simp [h0, h1]
      · split
        · simp [h0, h1]
        · simp [ih, h0, h1]

theorem Live.sendMessages_frame (L : Live) :
    (Live.sendMessages L).mode = L.mode ∧
    (Live.sendMessages L).pins = L.pins ∧
    (Live.sendMessages L).time = L.time ∧
    (Live.sendMessages L).ks = L.ks ∧
    (Live.sendMessages L).saf = L.saf ∧
    (Live.sendMessages L).seg = L.seg ∧
    (Live.sendMessages L).node = L.node ∧
    (Live.sendMessages L).conv = L.conv ∧
    (Live.sendMessages L).twin = L.twin ∧
    (Live.sendMessages L).eng = L.eng ∧
    (Live.sendMessages L).chi = L.chi ∧
    (Live.sendMessages L).est = L.est ∧
    (Live.sendMessages L).th = L.th ∧
    (Live.sendMessages L).mgr = L.mgr ∧
    (Live.sendMessages L).upd = L.upd ∧
    (Live.sendMessages L).jrn = L.jrn ∧
    (Live.sendMessages L).ret = L.ret ∧
    (Live.sendMessages L).blob = L.blob ∧
    (Live.sendMessages L).out = L.out ∧
    (Live.sendMessages L).free = L.free := by
  have h0 := @Live.modLgc_frame
  simp [Live.sendMessages, h0]

theorem Live.finishScan_frame (L : Live) :
    (Live.finishScan L).mode = L.mode ∧
    (Live.finishScan L).pins = L.pins ∧
    (Live.finishScan L).time = L.time ∧
    (Live.finishScan L).saf = L.saf ∧
    (Live.finishScan L).seg = L.seg ∧
    (Live.finishScan L).node = L.node ∧
    (Live.finishScan L).conv = L.conv ∧
    (Live.finishScan L).twin = L.twin ∧
    (Live.finishScan L).eng = L.eng ∧
    (Live.finishScan L).chi = L.chi ∧
    (Live.finishScan L).est = L.est ∧
    (Live.finishScan L).th = L.th ∧
    (Live.finishScan L).mgr = L.mgr ∧
    (Live.finishScan L).upd = L.upd ∧
    (Live.finishScan L).jrn = L.jrn ∧
    (Live.finishScan L).ret = L.ret ∧
    (Live.finishScan L).blob = L.blob ∧
    (Live.finishScan L).out = L.out ∧
    (Live.finishScan L).free = L.free := by
  have h0 := @Live.modLgc_frame
  have h1 := @Live.lgcEv_frame
  have h2 := @Live.sendMessages_frame
  simp [Live.finishScan, h0, h1, h2]

theorem Live.ensureScan_frame (L : Live) :
    (Live.ensureScan L).mode = L.mode ∧
    (Live.ensureScan L).pins = L.pins ∧
    (Live.ensureScan L).time = L.time ∧
    (Live.ensureScan L).ks = L.ks ∧
    (Live.ensureScan L).rcd = L.rcd ∧
    (Live.ensureScan L).saf = L.saf ∧
    (Live.ensureScan L).seg = L.seg ∧
    (Live.ensureScan L).node = L.node ∧
    (Live.ensureScan L).conv = L.conv ∧
    (Live.ensureScan L).twin = L.twin ∧
    (Live.ensureScan L).eng = L.eng ∧
    (Live.ensureScan L).chi = L.chi ∧
    (Live.ensureScan L).cap = L.cap ∧
    (Live.ensureScan L).est = L.est ∧
    (Live.ensureScan L).th = L.th ∧
    (Live.ensureScan L).com = L.com ∧
    (Live.ensureScan L).mgr = L.mgr ∧
    (Live.ensureScan L).upd = L.upd ∧
    (Live.ensureScan L).jrn = L.jrn ∧
    (Live.ensureScan L).dbg = L.dbg ∧
    (Live.ensureScan L).ret = L.ret ∧
    (Live.ensureScan L).obj = L.obj ∧
    (Live.ensureScan L).blob = L.blob ∧
    (Live.ensureScan L).out = L.out ∧
    (Live.ensureScan L).free = L.free := by
  have h0 := @Live.prepareScan_frame
  simp [Live.ensureScan, h0]

theorem Live.stepHalted_frame (L : Live) (n : Nat) :
    (Live.stepHalted L n).mode = L.mode ∧
    (Live.stepHalted L n).pins = L.pins ∧
    (Live.stepHalted L n).time = L.time ∧
    (Live.stepHalted L n).saf = L.saf ∧
    (Live.stepHalted L n).seg = L.seg ∧
    (Live.stepHalted L n).node = L.node ∧
    (Live.stepHalted L n).conv = L.conv ∧
    (Live.stepHalted L n).twin = L.twin ∧
    (Live.stepHalted L n).eng = L.eng ∧
    (Live.stepHalted L n).chi = L.chi ∧
    (Live.stepHalted L n).est = L.est ∧
    (Live.stepHalted L n).th = L.th ∧
    (Live.stepHalted L n).mgr = L.mgr ∧
    (Live.stepHalted L n).upd = L.upd ∧
    (Live.stepHalted L n).jrn = L.jrn ∧
    (Live.stepHalted L n).ret = L.ret ∧
    (Live.stepHalted L n).blob = L.blob ∧
    (Live.stepHalted L n).out = L.out := by
  have h0 := @Live.brkTaken_frame
  have h1 := @runLogic_frame
  have h2 := @Live.ensureScan_frame
  have h3 := @Live.haltTaken_frame
  have h4 := @Live.finishScan_frame
  simp only [Live.stepHalted]
  (repeat' split) <;> simp [h0, h1, h2, h3, h4]

theorem Live.resumeLogic_frame (L : Live) :
    (Live.resumeLogic L).mode = L.mode ∧
    (Live.resumeLogic L).pins = L.pins ∧
    (Live.resumeLogic L).time = L.time ∧
    (Live.resumeLogic L).saf = L.saf ∧
    (Live.resumeLogic L).seg = L.seg ∧
    (Live.resumeLogic L).node = L.node ∧
    (Live.resumeLogic L).conv = L.conv ∧
    (Live.resumeLogic L).twin = L.twin ∧
    (Live.resumeLogic L).eng = L.eng ∧
    (Live.resumeLogic L).chi = L.chi ∧
    (Live.resumeLogic L).est = L.est ∧
    (Live.resumeLogic L).th = L.th ∧
    (Live.resumeLogic L).mgr = L.mgr ∧
    (Live.resumeLogic L).upd = L.upd ∧
    (Live.resumeLogic L).jrn = L.jrn ∧
    (Live.resumeLogic L).ret = L.ret ∧
    (Live.resumeLogic L).blob = L.blob ∧
    (Live.resumeLogic L).out = L.out := by
  have h0 := @Live.brkTaken_frame
  have h1 := @runLogic_frame
  have h2 := @Live.ensureScan_frame
  have h3 := @Live.modLgc_frame
  have h4 := @Live.finishScan_frame
  simp only [Live.resumeLogic]
  (repeat' split) <;> simp [h0, h1, h2, h3, h4]

theorem Live.activateLogic_frame (L : Live) :
    (Live.activateLogic L).mode = L.mode ∧
    (Live.activateLogic L).pins = L.pins ∧
    (Live.activateLogic L).time = L.time ∧
    (Live.activateLogic L).ks = L.ks ∧
    (Live.activateLogic L).saf = L.saf ∧
    (Live.activateLogic L).seg = L.seg ∧
    (Live.activateLogic L).node = L.node ∧
    (Live.activateLogic L).conv = L.conv ∧
    (Live.activateLogic L).twin = L.twin ∧
    (Live.activateLogic L).eng = L.eng ∧
    (Live.activateLogic L).chi = L.chi ∧
    (Live.activateLogic L).est = L.est ∧
    (Live.activateLogic L).th = L.th ∧
    (Live.activateLogic L).mgr = L.mgr ∧
    (Live.activateLogic L).upd = L.upd ∧
    (Live.activateLogic L).jrn = L.jrn ∧
    (Live.activateLogic L).ret = L.ret ∧
    (Live.activateLogic L).blob = L.blob ∧
    (Live.activateLogic L).out = L.out ∧
    (Live.activateLogic L).free = L.free := by
  have h0 := @Live.lgcEv_frame
  have h1 := @Live.forceEv_frame
  have h2 := @Live.modLgc_frame
  simp [Live.activateLogic, h0, h1, h2]

theorem Live.cmdActivateLogic_frame (L : Live) (drop : Bool) :
    (Live.cmdActivateLogic L drop).1.mode = L.mode ∧
    (Live.cmdActivateLogic L drop).1.pins = L.pins ∧
    (Live.cmdActivateLogic L drop).1.time = L.time ∧
    (Live.cmdActivateLogic L drop).1.ks = L.ks ∧
    (Live.cmdActivateLogic L drop).1.saf = L.saf ∧
    (Live.cmdActivateLogic L drop).1.seg = L.seg ∧
    (Live.cmdActivateLogic L drop).1.node = L.node ∧
    (Live.cmdActivateLogic L drop).1.conv = L.conv ∧
    (Live.cmdActivateLogic L drop).1.twin = L.twin ∧
    (Live.cmdActivateLogic L drop).1.eng = L.eng ∧
    (Live.cmdActivateLogic L drop).1.chi = L.chi ∧
    (Live.cmdActivateLogic L drop).1.est = L.est ∧
    (Live.cmdActivateLogic L drop).1.th = L.th ∧
    (Live.cmdActivateLogic L drop).1.mgr = L.mgr ∧
    (Live.cmdActivateLogic L drop).1.upd = L.upd ∧
    (Live.cmdActivateLogic L drop).1.jrn = L.jrn ∧
    (Live.cmdActivateLogic L drop).1.ret = L.ret ∧
    (Live.cmdActivateLogic L drop).1.blob = L.blob ∧
    (Live.cmdActivateLogic L drop).1.out = L.out ∧
    (Live.cmdActivateLogic L drop).1.free = L.free := by
  have h0 := @Live.activateLogic_frame
  have h1 := @Live.lgcEv_frame
  simp [Live.cmdActivateLogic, h0, h1]

theorem Live.imageWritten_frame (L : Live) (b : Nat) (image : Bytes) :
    (Live.imageWritten L b image).mode = L.mode ∧
    (Live.imageWritten L b image).pins = L.pins ∧
    (Live.imageWritten L b image).time = L.time ∧
    (Live.imageWritten L b image).ks = L.ks ∧
    (Live.imageWritten L b image).saf = L.saf ∧
    (Live.imageWritten L b image).seg = L.seg ∧
    (Live.imageWritten L b image).node = L.node ∧
    (Live.imageWritten L b image).conv = L.conv ∧
    (Live.imageWritten L b image).twin = L.twin ∧
    (Live.imageWritten L b image).eng = L.eng ∧
    (Live.imageWritten L b image).chi = L.chi ∧
    (Live.imageWritten L b image).est = L.est ∧
    (Live.imageWritten L b image).th = L.th ∧
    (Live.imageWritten L b image).mgr = L.mgr ∧
    (Live.imageWritten L b image).upd = L.upd ∧
    (Live.imageWritten L b image).jrn = L.jrn ∧
    (Live.imageWritten L b image).ret = L.ret ∧
    (Live.imageWritten L b image).out = L.out ∧
    (Live.imageWritten L b image).free = L.free := by
  have h0 := @Live.modLgc_frame
  have h1 := @Live.lgcEv_frame
  simp [Live.imageWritten, h0, h1]

end Sys2Proof.Machine
end

