-- ==== Sys2Proof/Laws/FrameDebugOps.lean ====
section
/-! SUPPORT. What each operation of Machine/DebugOps.lean leaves as it is. -/

namespace Sys2Proof.Machine

open Sys2Proof

theorem Live.logicHaltBy_frame (L : Live) (s : Sess) (node : Nat) :
    (Live.logicHaltBy L s node).1.mode = L.mode ∧
    (Live.logicHaltBy L s node).1.pins = L.pins ∧
    (Live.logicHaltBy L s node).1.time = L.time ∧
    (Live.logicHaltBy L s node).1.ks = L.ks ∧
    (Live.logicHaltBy L s node).1.rcd = L.rcd ∧
    (Live.logicHaltBy L s node).1.saf = L.saf ∧
    (Live.logicHaltBy L s node).1.seg = L.seg ∧
    (Live.logicHaltBy L s node).1.node = L.node ∧
    (Live.logicHaltBy L s node).1.conv = L.conv ∧
    (Live.logicHaltBy L s node).1.twin = L.twin ∧
    (Live.logicHaltBy L s node).1.eng = L.eng ∧
    (Live.logicHaltBy L s node).1.chi = L.chi ∧
    (Live.logicHaltBy L s node).1.cap = L.cap ∧
    (Live.logicHaltBy L s node).1.est = L.est ∧
    (Live.logicHaltBy L s node).1.th = L.th ∧
    (Live.logicHaltBy L s node).1.com = L.com ∧
    (Live.logicHaltBy L s node).1.mgr = L.mgr ∧
    (Live.logicHaltBy L s node).1.upd = L.upd ∧
    (Live.logicHaltBy L s node).1.jrn = L.jrn ∧
    (Live.logicHaltBy L s node).1.dbg = L.dbg ∧
    (Live.logicHaltBy L s node).1.ret = L.ret ∧
    (Live.logicHaltBy L s node).1.obj = L.obj ∧
    (Live.logicHaltBy L s node).1.blob = L.blob ∧
    (Live.logicHaltBy L s node).1.out = L.out ∧
    (Live.logicHaltBy L s node).1.free = L.free := by
  have h0 := @Live.modLgc_frame
  simp [Live.logicHaltBy, h0]

theorem Live.disarmLogic_frame (L : Live) (s : Sess) (node : Nat) :
    (Live.disarmLogic L s node).mode = L.mode ∧
    (Live.disarmLogic L s node).pins = L.pins ∧
    (Live.disarmLogic L s node).time = L.time ∧
    (Live.disarmLogic L s node).ks = L.ks ∧
    (Live.disarmLogic L s node).rcd = L.rcd ∧
    (Live.disarmLogic L s node).saf = L.saf ∧
    (Live.disarmLogic L s node).seg = L.seg ∧
    (Live.disarmLogic L s node).node = L.node ∧
    (Live.disarmLogic L s node).conv = L.conv ∧
    (Live.disarmLogic L s node).twin = L.twin ∧
    (Live.disarmLogic L s node).eng = L.eng ∧
    (Live.disarmLogic L s node).chi = L.chi ∧
    (Live.disarmLogic L s node).cap = L.cap ∧
    (Live.disarmLogic L s node).est = L.est ∧
    (Live.disarmLogic L s node).th = L.th ∧
    (Live.disarmLogic L s node).com = L.com ∧
    (Live.disarmLogic L s node).mgr = L.mgr ∧
    (Live.disarmLogic L s node).lgc = L.lgc ∧
    (Live.disarmLogic L s node).upd = L.upd ∧
    (Live.disarmLogic L s node).jrn = L.jrn ∧
    (Live.disarmLogic L s node).ret = L.ret ∧
    (Live.disarmLogic L s node).obj = L.obj ∧
    (Live.disarmLogic L s node).blob = L.blob ∧
    (Live.disarmLogic L s node).out = L.out ∧
    (Live.disarmLogic L s node).free = L.free := by
  simp [Live.disarmLogic]

theorem Live.debugEnded_frame (L : Live) (s : Sess) (node : Nat) :
    (Live.debugEnded L s node).mode = L.mode ∧
    (Live.debugEnded L s node).pins = L.pins ∧
    (Live.debugEnded L s node).time = L.time ∧
    (Live.debugEnded L s node).saf = L.saf ∧
    (Live.debugEnded L s node).seg = L.seg ∧
    (Live.debugEnded L s node).node = L.node ∧
    (Live.debugEnded L s node).conv = L.conv ∧
    (Live.debugEnded L s node).twin = L.twin ∧
    (Live.debugEnded L s node).eng = L.eng ∧
    (Live.debugEnded L s node).chi = L.chi ∧
    (Live.debugEnded L s node).est = L.est ∧
    (Live.debugEnded L s node).th = L.th ∧
    (Live.debugEnded L s node).mgr = L.mgr ∧
    (Live.debugEnded L s node).upd = L.upd ∧
    (Live.debugEnded L s node).jrn = L.jrn ∧
    (Live.debugEnded L s node).ret = L.ret ∧
    (Live.debugEnded L s node).blob = L.blob ∧
    (Live.debugEnded L s node).out = L.out := by
  have h0 := @Live.disarmLogic_frame
  have h1 := @Live.resumeLogic_frame
  simp [Live.debugEnded, h0, h1]

theorem Live.setBrk_frame (L : Live) (slot : Nat) (b : Option Brk) :
    (Live.setBrk L slot b).mode = L.mode ∧
    (Live.setBrk L slot b).pins = L.pins ∧
    (Live.setBrk L slot b).time = L.time ∧
    (Live.setBrk L slot b).ks = L.ks ∧
    (Live.setBrk L slot b).rcd = L.rcd ∧
    (Live.setBrk L slot b).saf = L.saf ∧
    (Live.setBrk L slot b).seg = L.seg ∧
    (Live.setBrk L slot b).node = L.node ∧
    (Live.setBrk L slot b).conv = L.conv ∧
    (Live.setBrk L slot b).twin = L.twin ∧
    (Live.setBrk L slot b).eng = L.eng ∧
    (Live.setBrk L slot b).chi = L.chi ∧
    (Live.setBrk L slot b).cap = L.cap ∧
    (Live.setBrk L slot b).est = L.est ∧
    (Live.setBrk L slot b).th = L.th ∧
    (Live.setBrk L slot b).com = L.com ∧
    (Live.setBrk L slot b).mgr = L.mgr ∧
    (Live.setBrk L slot b).lgc = L.lgc ∧
    (Live.setBrk L slot b).upd = L.upd ∧
    (Live.setBrk L slot b).jrn = L.jrn ∧
    (Live.setBrk L slot b).ret = L.ret ∧
    (Live.setBrk L slot b).obj = L.obj ∧
    (Live.setBrk L slot b).blob = L.blob ∧
    (Live.setBrk L slot b).out = L.out ∧
    (Live.setBrk L slot b).free = L.free := by
  simp [Live.setBrk]

theorem Live.writeVm_frame (L : Live) (v : Bytes) :
    (Live.writeVm L v).mode = L.mode ∧
    (Live.writeVm L v).pins = L.pins ∧
    (Live.writeVm L v).time = L.time ∧
    (Live.writeVm L v).ks = L.ks ∧
    (Live.writeVm L v).rcd = L.rcd ∧
    (Live.writeVm L v).saf = L.saf ∧
    (Live.writeVm L v).seg = L.seg ∧
    (Live.writeVm L v).node = L.node ∧
    (Live.writeVm L v).conv = L.conv ∧
    (Live.writeVm L v).twin = L.twin ∧
    (Live.writeVm L v).eng = L.eng ∧
    (Live.writeVm L v).chi = L.chi ∧
    (Live.writeVm L v).cap = L.cap ∧
    (Live.writeVm L v).est = L.est ∧
    (Live.writeVm L v).th = L.th ∧
    (Live.writeVm L v).com = L.com ∧
    (Live.writeVm L v).mgr = L.mgr ∧
    (Live.writeVm L v).upd = L.upd ∧
    (Live.writeVm L v).jrn = L.jrn ∧
    (Live.writeVm L v).dbg = L.dbg ∧
    (Live.writeVm L v).ret = L.ret ∧
    (Live.writeVm L v).obj = L.obj ∧
    (Live.writeVm L v).blob = L.blob ∧
    (Live.writeVm L v).out = L.out ∧
    (Live.writeVm L v).free = L.free := by
  have h0 := @Live.modLgc_frame
  simp [Live.writeVm, h0]

end Sys2Proof.Machine
end

