-- ==== Sys2Proof/Laws/FrameSite.lean ====
section
/-! SUPPORT. What each operation of Machine/Site.lean leaves as it is. -/

namespace Sys2Proof.Machine

open Sys2Proof

theorem Live.selectMaster_frame (L : Live) (a : Announce) :
    (Live.selectMaster L a).mode = L.mode ∧
    (Live.selectMaster L a).pins = L.pins ∧
    (Live.selectMaster L a).time = L.time ∧
    (Live.selectMaster L a).ks = L.ks ∧
    (Live.selectMaster L a).rcd = L.rcd ∧
    (Live.selectMaster L a).saf = L.saf ∧
    (Live.selectMaster L a).seg = L.seg ∧
    (Live.selectMaster L a).node = L.node ∧
    (Live.selectMaster L a).conv = L.conv ∧
    (Live.selectMaster L a).twin = L.twin ∧
    (Live.selectMaster L a).eng = L.eng ∧
    (Live.selectMaster L a).chi = L.chi ∧
    (Live.selectMaster L a).cap = L.cap ∧
    (Live.selectMaster L a).est = L.est ∧
    (Live.selectMaster L a).th = L.th ∧
    (Live.selectMaster L a).com = L.com ∧
    (Live.selectMaster L a).lgc = L.lgc ∧
    (Live.selectMaster L a).upd = L.upd ∧
    (Live.selectMaster L a).jrn = L.jrn ∧
    (Live.selectMaster L a).dbg = L.dbg ∧
    (Live.selectMaster L a).ret = L.ret ∧
    (Live.selectMaster L a).blob = L.blob ∧
    (Live.selectMaster L a).out = L.out ∧
    (Live.selectMaster L a).free = L.free := by
  simp [Live.selectMaster]

theorem Live.announce_frame (L : Live) (a : Announce) :
    (Live.announce L a).mode = L.mode ∧
    (Live.announce L a).pins = L.pins ∧
    (Live.announce L a).time = L.time ∧
    (Live.announce L a).ks = L.ks ∧
    (Live.announce L a).saf = L.saf ∧
    (Live.announce L a).seg = L.seg ∧
    (Live.announce L a).node = L.node ∧
    (Live.announce L a).conv = L.conv ∧
    (Live.announce L a).twin = L.twin ∧
    (Live.announce L a).eng = L.eng ∧
    (Live.announce L a).chi = L.chi ∧
    (Live.announce L a).est = L.est ∧
    (Live.announce L a).th = L.th ∧
    (Live.announce L a).lgc = L.lgc ∧
    (Live.announce L a).upd = L.upd ∧
    (Live.announce L a).jrn = L.jrn ∧
    (Live.announce L a).ret = L.ret ∧
    (Live.announce L a).blob = L.blob ∧
    (Live.announce L a).out = L.out ∧
    (Live.announce L a).free = L.free := by
  have h0 := @Live.selectMaster_frame
  have h1 := @Live.mgrEv_frame
  simp only [Live.announce]
  (repeat' split) <;> simp [h0, h1]

theorem Live.siteSync_frame (L : Live) (t1 t2 : Int) :
    (Live.siteSync L t1 t2).mode = L.mode ∧
    (Live.siteSync L t1 t2).pins = L.pins ∧
    (Live.siteSync L t1 t2).ks = L.ks ∧
    (Live.siteSync L t1 t2).saf = L.saf ∧
    (Live.siteSync L t1 t2).seg = L.seg ∧
    (Live.siteSync L t1 t2).node = L.node ∧
    (Live.siteSync L t1 t2).conv = L.conv ∧
    (Live.siteSync L t1 t2).twin = L.twin ∧
    (Live.siteSync L t1 t2).eng = L.eng ∧
    (Live.siteSync L t1 t2).chi = L.chi ∧
    (Live.siteSync L t1 t2).est = L.est ∧
    (Live.siteSync L t1 t2).th = L.th ∧
    (Live.siteSync L t1 t2).lgc = L.lgc ∧
    (Live.siteSync L t1 t2).upd = L.upd ∧
    (Live.siteSync L t1 t2).jrn = L.jrn ∧
    (Live.siteSync L t1 t2).ret = L.ret ∧
    (Live.siteSync L t1 t2).blob = L.blob ∧
    (Live.siteSync L t1 t2).out = L.out ∧
    (Live.siteSync L t1 t2).free = L.free := by
  have h0 := @Live.sourceHeard_frame
  have h1 := @Live.useOffset_frame
  have h2 := @Live.lockRun_frame
  simp only [Live.siteSync]
  (repeat' split) <;> simp [h0, h1, h2]

theorem Live.mbSend_frame (L : Live) (conn : Nat) (pdu : Bytes) :
    (Live.mbSend L conn pdu).mode = L.mode ∧
    (Live.mbSend L conn pdu).pins = L.pins ∧
    (Live.mbSend L conn pdu).time = L.time ∧
    (Live.mbSend L conn pdu).ks = L.ks ∧
    (Live.mbSend L conn pdu).rcd = L.rcd ∧
    (Live.mbSend L conn pdu).saf = L.saf ∧
    (Live.mbSend L conn pdu).seg = L.seg ∧
    (Live.mbSend L conn pdu).node = L.node ∧
    (Live.mbSend L conn pdu).conv = L.conv ∧
    (Live.mbSend L conn pdu).twin = L.twin ∧
    (Live.mbSend L conn pdu).eng = L.eng ∧
    (Live.mbSend L conn pdu).chi = L.chi ∧
    (Live.mbSend L conn pdu).cap = L.cap ∧
    (Live.mbSend L conn pdu).est = L.est ∧
    (Live.mbSend L conn pdu).th = L.th ∧
    (Live.mbSend L conn pdu).com = L.com ∧
    (Live.mbSend L conn pdu).mgr = L.mgr ∧
    (Live.mbSend L conn pdu).lgc = L.lgc ∧
    (Live.mbSend L conn pdu).upd = L.upd ∧
    (Live.mbSend L conn pdu).jrn = L.jrn ∧
    (Live.mbSend L conn pdu).dbg = L.dbg ∧
    (Live.mbSend L conn pdu).ret = L.ret ∧
    (Live.mbSend L conn pdu).obj = L.obj ∧
    (Live.mbSend L conn pdu).blob = L.blob ∧
    (Live.mbSend L conn pdu).free = L.free := by
  simp [Live.mbSend]

theorem Live.mbFail_frame (L : Live) (conn fc code : Nat) :
    (Live.mbFail L conn fc code).mode = L.mode ∧
    (Live.mbFail L conn fc code).pins = L.pins ∧
    (Live.mbFail L conn fc code).time = L.time ∧
    (Live.mbFail L conn fc code).ks = L.ks ∧
    (Live.mbFail L conn fc code).rcd = L.rcd ∧
    (Live.mbFail L conn fc code).saf = L.saf ∧
    (Live.mbFail L conn fc code).seg = L.seg ∧
    (Live.mbFail L conn fc code).node = L.node ∧
    (Live.mbFail L conn fc code).conv = L.conv ∧
    (Live.mbFail L conn fc code).twin = L.twin ∧
    (Live.mbFail L conn fc code).eng = L.eng ∧
    (Live.mbFail L conn fc code).chi = L.chi ∧
    (Live.mbFail L conn fc code).cap = L.cap ∧
    (Live.mbFail L conn fc code).est = L.est ∧
    (Live.mbFail L conn fc code).th = L.th ∧
    (Live.mbFail L conn fc code).com = L.com ∧
    (Live.mbFail L conn fc code).mgr = L.mgr ∧
    (Live.mbFail L conn fc code).lgc = L.lgc ∧
    (Live.mbFail L conn fc code).upd = L.upd ∧
    (Live.mbFail L conn fc code).jrn = L.jrn ∧
    (Live.mbFail L conn fc code).dbg = L.dbg ∧
    (Live.mbFail L conn fc code).ret = L.ret ∧
    (Live.mbFail L conn fc code).obj = L.obj ∧
    (Live.mbFail L conn fc code).blob = L.blob ∧
    (Live.mbFail L conn fc code).free = L.free := by
  have h0 := @Live.mbSend_frame
  simp [Live.mbFail, h0]

end Sys2Proof.Machine
end

