-- ==== Sys2Proof/Laws/FrameReset.lean ====
section
/-! SUPPORT. What each operation of Machine/Reset.lean leaves as it is. -/

namespace Sys2Proof.Machine

open Sys2Proof

theorem Live.resetReleases_frame (L : Live) :
    (Live.resetReleases L).mode = L.mode ∧
    (Live.resetReleases L).pins = L.pins ∧
    (Live.resetReleases L).time = L.time ∧
    (Live.resetReleases L).ks = L.ks ∧
    (Live.resetReleases L).seg = L.seg ∧
    (Live.resetReleases L).node = L.node ∧
    (Live.resetReleases L).conv = L.conv ∧
    (Live.resetReleases L).twin = L.twin ∧
    (Live.resetReleases L).eng = L.eng ∧
    (Live.resetReleases L).chi = L.chi ∧
    (Live.resetReleases L).est = L.est ∧
    (Live.resetReleases L).th = L.th ∧
    (Live.resetReleases L).mgr = L.mgr ∧
    (Live.resetReleases L).lgc = L.lgc ∧
    (Live.resetReleases L).upd = L.upd ∧
    (Live.resetReleases L).jrn = L.jrn ∧
    (Live.resetReleases L).ret = L.ret ∧
    (Live.resetReleases L).blob = L.blob ∧
    (Live.resetReleases L).out = L.out ∧
    (Live.resetReleases L).free = L.free := by
  simp [Live.resetReleases]

theorem Live.toBoot_frame (L : Live) (trig cause : Nat) :
    (Live.toBoot L trig cause).node = L.node ∧
    (Live.toBoot L trig cause).jrn = L.jrn ∧
    (Live.toBoot L trig cause).ret = L.ret ∧
    (Live.toBoot L trig cause).blob = L.blob ∧
    (Live.toBoot L trig cause).out = L.out ∧
    (Live.toBoot L trig cause).free = L.free := by
  have h0 := @Live.resetReleases_frame
  have h1 := @Live.setState_frame
  simp [Live.toBoot, h0, h1]

end Sys2Proof.Machine
end

