-- ==== Sys2Proof/Laws/FrameUpdate.lean ====
section
/-! SUPPORT. What each operation of Machine/Update.lean leaves as it is. -/

namespace Sys2Proof.Machine

open Sys2Proof

theorem Live.updRefuse_frame (L : Live) (result : Nat) :
    (Live.updRefuse L result).mode = L.mode ∧
    (Live.updRefuse L result).pins = L.pins ∧
    (Live.updRefuse L result).time = L.time ∧
    (Live.updRefuse L result).ks = L.ks ∧
    (Live.updRefuse L result).saf = L.saf ∧
    (Live.updRefuse L result).seg = L.seg ∧
    (Live.updRefuse L result).node = L.node ∧
    (Live.updRefuse L result).conv = L.conv ∧
    (Live.updRefuse L result).twin = L.twin ∧
    (Live.updRefuse L result).eng = L.eng ∧
    (Live.updRefuse L result).chi = L.chi ∧
    (Live.updRefuse L result).est = L.est ∧
    (Live.updRefuse L result).th = L.th ∧
    (Live.updRefuse L result).mgr = L.mgr ∧
    (Live.updRefuse L result).lgc = L.lgc ∧
    (Live.updRefuse L result).upd = L.upd ∧
    (Live.updRefuse L result).jrn = L.jrn ∧
    (Live.updRefuse L result).ret = L.ret ∧
    (Live.updRefuse L result).blob = L.blob ∧
    (Live.updRefuse L result).out = L.out ∧
    (Live.updRefuse L result).free = L.free := by
  have h0 := @Live.updEv_frame
  simp [Live.updRefuse, h0]

theorem Live.stageDone_frame (L : Live) (kind : Nat) :
    (Live.stageDone L kind).mode = L.mode ∧
    (Live.stageDone L kind).pins = L.pins ∧
    (Live.stageDone L kind).time = L.time ∧
    (Live.stageDone L kind).ks = L.ks ∧
    (Live.stageDone L kind).rcd = L.rcd ∧
    (Live.stageDone L kind).saf = L.saf ∧
    (Live.stageDone L kind).seg = L.seg ∧
    (Live.stageDone L kind).node = L.node ∧
    (Live.stageDone L kind).conv = L.conv ∧
    (Live.stageDone L kind).eng = L.eng ∧
    (Live.stageDone L kind).chi = L.chi ∧
    (Live.stageDone L kind).cap = L.cap ∧
    (Live.stageDone L kind).est = L.est ∧
    (Live.stageDone L kind).th = L.th ∧
    (Live.stageDone L kind).com = L.com ∧
    (Live.stageDone L kind).mgr = L.mgr ∧
    (Live.stageDone L kind).lgc = L.lgc ∧
    (Live.stageDone L kind).upd = L.upd ∧
    (Live.stageDone L kind).dbg = L.dbg ∧
    (Live.stageDone L kind).ret = L.ret ∧
    (Live.stageDone L kind).obj = L.obj ∧
    (Live.stageDone L kind).blob = L.blob ∧
    (Live.stageDone L kind).out = L.out ∧
    (Live.stageDone L kind).free = L.free := by
  have h0 := @Live.jdoneAll_frame
  simp [Live.stageDone, h0]

theorem Live.writeManifest_frame (L : Live) (m : Bytes) :
    (Live.writeManifest L m).1.time = L.time ∧
    (Live.writeManifest L m).1.ks = L.ks ∧
    (Live.writeManifest L m).1.seg = L.seg ∧
    (Live.writeManifest L m).1.node = L.node ∧
    (Live.writeManifest L m).1.eng = L.eng ∧
    (Live.writeManifest L m).1.est = L.est ∧
    (Live.writeManifest L m).1.th = L.th ∧
    (Live.writeManifest L m).1.mgr = L.mgr ∧
    (Live.writeManifest L m).1.lgc = L.lgc ∧
    (Live.writeManifest L m).1.ret = L.ret ∧
    (Live.writeManifest L m).1.blob = L.blob ∧
    (Live.writeManifest L m).1.free = L.free := by
  have h0 := @Live.updRefuse_frame
  have h1 := @Live.updEv_frame
  have h2 := @Live.stageEntry_frame
  have h3 := @Live.stageDone_frame
  simp [Live.writeManifest, h0, h1, h2, h3]

theorem Live.writeBlock_frame (L : Live) (b : Bytes) :
    (Live.writeBlock L b).1.time = L.time ∧
    (Live.writeBlock L b).1.ks = L.ks ∧
    (Live.writeBlock L b).1.seg = L.seg ∧
    (Live.writeBlock L b).1.node = L.node ∧
    (Live.writeBlock L b).1.eng = L.eng ∧
    (Live.writeBlock L b).1.est = L.est ∧
    (Live.writeBlock L b).1.th = L.th ∧
    (Live.writeBlock L b).1.mgr = L.mgr ∧
    (Live.writeBlock L b).1.lgc = L.lgc ∧
    (Live.writeBlock L b).1.ret = L.ret ∧
    (Live.writeBlock L b).1.blob = L.blob ∧
    (Live.writeBlock L b).1.free = L.free := by
  have h0 := @Live.updRefuse_frame
  have h1 := @Live.stageEntry_frame
  have h2 := @Live.updEv_frame
  simp only [Live.writeBlock]
  (repeat' split) <;> simp [h0, h1, h2]

theorem Live.cmdVerify_frame (L : Live) :
    (Live.cmdVerify L).1.time = L.time ∧
    (Live.cmdVerify L).1.ks = L.ks ∧
    (Live.cmdVerify L).1.seg = L.seg ∧
    (Live.cmdVerify L).1.node = L.node ∧
    (Live.cmdVerify L).1.eng = L.eng ∧
    (Live.cmdVerify L).1.est = L.est ∧
    (Live.cmdVerify L).1.th = L.th ∧
    (Live.cmdVerify L).1.mgr = L.mgr ∧
    (Live.cmdVerify L).1.lgc = L.lgc ∧
    (Live.cmdVerify L).1.ret = L.ret ∧
    (Live.cmdVerify L).1.blob = L.blob ∧
    (Live.cmdVerify L).1.free = L.free := by
  have h0 := @Live.stageEntry_frame
  simp [Live.cmdVerify, h0]

theorem Live.withParams_frame (L : Live) (d : Bytes) :
    (Live.withParams L d).mode = L.mode ∧
    (Live.withParams L d).pins = L.pins ∧
    (Live.withParams L d).time = L.time ∧
    (Live.withParams L d).ks = L.ks ∧
    (Live.withParams L d).rcd = L.rcd ∧
    (Live.withParams L d).saf = L.saf ∧
    (Live.withParams L d).seg = L.seg ∧
    (Live.withParams L d).node = L.node ∧
    (Live.withParams L d).conv = L.conv ∧
    (Live.withParams L d).twin = L.twin ∧
    (Live.withParams L d).eng = L.eng ∧
    (Live.withParams L d).chi = L.chi ∧
    (Live.withParams L d).cap = L.cap ∧
    (Live.withParams L d).est = L.est ∧
    (Live.withParams L d).th = L.th ∧
    (Live.withParams L d).com = L.com ∧
    (Live.withParams L d).mgr = L.mgr ∧
    (Live.withParams L d).lgc = L.lgc ∧
    (Live.withParams L d).upd = L.upd ∧
    (Live.withParams L d).jrn = L.jrn ∧
    (Live.withParams L d).dbg = L.dbg ∧
    (Live.withParams L d).ret = L.ret ∧
    (Live.withParams L d).blob = L.blob ∧
    (Live.withParams L d).out = L.out ∧
    (Live.withParams L d).free = L.free := by
  simp [Live.withParams]

theorem Live.withTable_frame (L : Live) (s : Slot) :
    (Live.withTable L s).mode = L.mode ∧
    (Live.withTable L s).pins = L.pins ∧
    (Live.withTable L s).time = L.time ∧
    (Live.withTable L s).ks = L.ks ∧
    (Live.withTable L s).rcd = L.rcd ∧
    (Live.withTable L s).saf = L.saf ∧
    (Live.withTable L s).seg = L.seg ∧
    (Live.withTable L s).node = L.node ∧
    (Live.withTable L s).conv = L.conv ∧
    (Live.withTable L s).twin = L.twin ∧
    (Live.withTable L s).eng = L.eng ∧
    (Live.withTable L s).chi = L.chi ∧
    (Live.withTable L s).cap = L.cap ∧
    (Live.withTable L s).est = L.est ∧
    (Live.withTable L s).th = L.th ∧
    (Live.withTable L s).com = L.com ∧
    (Live.withTable L s).mgr = L.mgr ∧
    (Live.withTable L s).lgc = L.lgc ∧
    (Live.withTable L s).upd = L.upd ∧
    (Live.withTable L s).jrn = L.jrn ∧
    (Live.withTable L s).dbg = L.dbg ∧
    (Live.withTable L s).ret = L.ret ∧
    (Live.withTable L s).obj = L.obj ∧
    (Live.withTable L s).out = L.out ∧
    (Live.withTable L s).free = L.free := by
  simp only [Live.withTable]
  (repeat' split) <;> simp

theorem Live.noteProgram_frame (L : Live) (s : Slot) :
    (Live.noteProgram L s).mode = L.mode ∧
    (Live.noteProgram L s).pins = L.pins ∧
    (Live.noteProgram L s).time = L.time ∧
    (Live.noteProgram L s).ks = L.ks ∧
    (Live.noteProgram L s).saf = L.saf ∧
    (Live.noteProgram L s).seg = L.seg ∧
    (Live.noteProgram L s).node = L.node ∧
    (Live.noteProgram L s).conv = L.conv ∧
    (Live.noteProgram L s).twin = L.twin ∧
    (Live.noteProgram L s).eng = L.eng ∧
    (Live.noteProgram L s).chi = L.chi ∧
    (Live.noteProgram L s).est = L.est ∧
    (Live.noteProgram L s).th = L.th ∧
    (Live.noteProgram L s).mgr = L.mgr ∧
    (Live.noteProgram L s).lgc = L.lgc ∧
    (Live.noteProgram L s).upd = L.upd ∧
    (Live.noteProgram L s).jrn = L.jrn ∧
    (Live.noteProgram L s).ret = L.ret ∧
    (Live.noteProgram L s).blob = L.blob ∧
    (Live.noteProgram L s).out = L.out ∧
    (Live.noteProgram L s).free = L.free := by
  have h0 := @Live.lgcEv_frame
  simp only [Live.noteProgram]
  (repeat' split) <;> simp [h0]

theorem Live.verified_frame (L : Live) (r : VerifyReport) :
    (Live.verified L r).mode = L.mode ∧
    (Live.verified L r).pins = L.pins ∧
    (Live.verified L r).time = L.time ∧
    (Live.verified L r).ks = L.ks ∧
    (Live.verified L r).saf = L.saf ∧
    (Live.verified L r).seg = L.seg ∧
    (Live.verified L r).node = L.node ∧
    (Live.verified L r).conv = L.conv ∧
    (Live.verified L r).eng = L.eng ∧
    (Live.verified L r).chi = L.chi ∧
    (Live.verified L r).est = L.est ∧
    (Live.verified L r).th = L.th ∧
    (Live.verified L r).mgr = L.mgr ∧
    (Live.verified L r).lgc = L.lgc ∧
    (Live.verified L r).upd = L.upd ∧
    (Live.verified L r).ret = L.ret ∧
    (Live.verified L r).blob = L.blob ∧
    (Live.verified L r).out = L.out := by
  have h0 := @Live.updEv_frame
  have h1 := @Live.stageDone_frame
  have h2 := @Live.noteProgram_frame
  simp only [Live.verified]
  (repeat' split) <;> simp [h0, h1, h2]

theorem Live.activateSlot_frame (L : Live) (slot : Nat) (probation atOnce : Bool) :
    (Live.activateSlot L slot probation atOnce).node = L.node ∧
    (Live.activateSlot L slot probation atOnce).ret = L.ret ∧
    (Live.activateSlot L slot probation atOnce).blob = L.blob ∧
    (Live.activateSlot L slot probation atOnce).free = L.free := by
  have h0 := @Live.stageEntry_frame
  have h1 := @Live.toBoot_frame
  have h2 := @Live.updEv_frame
  simp [Live.activateSlot, h0, h1, h2]

theorem Live.cmdActivateSet_frame (L : Live) (level : Nat) :
    (Live.cmdActivateSet L level).1.node = L.node ∧
    (Live.cmdActivateSet L level).1.ret = L.ret ∧
    (Live.cmdActivateSet L level).1.blob = L.blob ∧
    (Live.cmdActivateSet L level).1.free = L.free := by
  have h0 := @Live.activateSlot_frame
  simp only [Live.cmdActivateSet]
  (repeat' split) <;> simp [h0]

theorem Live.cmdDiscardSet_frame (L : Live) :
    (Live.cmdDiscardSet L).1.time = L.time ∧
    (Live.cmdDiscardSet L).1.ks = L.ks ∧
    (Live.cmdDiscardSet L).1.seg = L.seg ∧
    (Live.cmdDiscardSet L).1.node = L.node ∧
    (Live.cmdDiscardSet L).1.eng = L.eng ∧
    (Live.cmdDiscardSet L).1.est = L.est ∧
    (Live.cmdDiscardSet L).1.th = L.th ∧
    (Live.cmdDiscardSet L).1.mgr = L.mgr ∧
    (Live.cmdDiscardSet L).1.lgc = L.lgc ∧
    (Live.cmdDiscardSet L).1.ret = L.ret ∧
    (Live.cmdDiscardSet L).1.blob = L.blob ∧
    (Live.cmdDiscardSet L).1.free = L.free := by
  have h0 := @Live.stageEntry_frame
  have h1 := @Live.stageDone_frame
  simp [Live.cmdDiscardSet, h0, h1]

theorem Live.installPart_frame (L : Live) (kind : Nat) (d : Bytes) :
    (Live.installPart L kind d).mode = L.mode ∧
    (Live.installPart L kind d).pins = L.pins ∧
    (Live.installPart L kind d).time = L.time ∧
    (Live.installPart L kind d).saf = L.saf ∧
    (Live.installPart L kind d).node = L.node ∧
    (Live.installPart L kind d).conv = L.conv ∧
    (Live.installPart L kind d).est = L.est ∧
    (Live.installPart L kind d).th = L.th ∧
    (Live.installPart L kind d).mgr = L.mgr ∧
    (Live.installPart L kind d).upd = L.upd ∧
    (Live.installPart L kind d).jrn = L.jrn ∧
    (Live.installPart L kind d).ret = L.ret ∧
    (Live.installPart L kind d).free = L.free := by
  have h0 := @Live.modLgc_frame
  have h1 := @Live.withParams_frame
  have h2 := @Live.setActive_frame
  have h3 := @Live.updEv_frame
  simp only [Live.installPart]
  (repeat' split) <;> simp [h0, h1, h2, h3]

theorem Live.installSet_frame (L : Live) (s : Slot) :
    (Live.installSet L s).mode = L.mode ∧
    (Live.installSet L s).pins = L.pins ∧
    (Live.installSet L s).time = L.time ∧
    (Live.installSet L s).saf = L.saf ∧
    (Live.installSet L s).node = L.node ∧
    (Live.installSet L s).conv = L.conv ∧
    (Live.installSet L s).est = L.est ∧
    (Live.installSet L s).th = L.th ∧
    (Live.installSet L s).mgr = L.mgr ∧
    (Live.installSet L s).jrn = L.jrn ∧
    (Live.installSet L s).ret = L.ret ∧
    (Live.installSet L s).free = L.free := by
  have h0 := @Live.installPart_frame
  simp only [Live.installSet]
  (repeat' split) <;> simp [h0]

theorem Live.restoreGen_frame (L : Live) :
    (Live.restoreGen L).mode = L.mode ∧
    (Live.restoreGen L).pins = L.pins ∧
    (Live.restoreGen L).time = L.time ∧
    (Live.restoreGen L).ks = L.ks ∧
    (Live.restoreGen L).rcd = L.rcd ∧
    (Live.restoreGen L).saf = L.saf ∧
    (Live.restoreGen L).seg = L.seg ∧
    (Live.restoreGen L).node = L.node ∧
    (Live.restoreGen L).conv = L.conv ∧
    (Live.restoreGen L).twin = L.twin ∧
    (Live.restoreGen L).chi = L.chi ∧
    (Live.restoreGen L).cap = L.cap ∧
    (Live.restoreGen L).est = L.est ∧
    (Live.restoreGen L).th = L.th ∧
    (Live.restoreGen L).com = L.com ∧
    (Live.restoreGen L).mgr = L.mgr ∧
    (Live.restoreGen L).jrn = L.jrn ∧
    (Live.restoreGen L).dbg = L.dbg ∧
    (Live.restoreGen L).ret = L.ret ∧
    (Live.restoreGen L).out = L.out ∧
    (Live.restoreGen L).free = L.free := by
  have h0 := @Live.modLgc_frame
  simp only [Live.restoreGen]
  (repeat' split) <;> simp [h0]

theorem Live.notice_frame (L : Live) (kind : Nat) :
    (Live.notice L kind).mode = L.mode ∧
    (Live.notice L kind).pins = L.pins ∧
    (Live.notice L kind).time = L.time ∧
    (Live.notice L kind).ks = L.ks ∧
    (Live.notice L kind).rcd = L.rcd ∧
    (Live.notice L kind).saf = L.saf ∧
    (Live.notice L kind).seg = L.seg ∧
    (Live.notice L kind).node = L.node ∧
    (Live.notice L kind).conv = L.conv ∧
    (Live.notice L kind).eng = L.eng ∧
    (Live.notice L kind).chi = L.chi ∧
    (Live.notice L kind).cap = L.cap ∧
    (Live.notice L kind).est = L.est ∧
    (Live.notice L kind).th = L.th ∧
    (Live.notice L kind).com = L.com ∧
    (Live.notice L kind).mgr = L.mgr ∧
    (Live.notice L kind).lgc = L.lgc ∧
    (Live.notice L kind).upd = L.upd ∧
    (Live.notice L kind).jrn = L.jrn ∧
    (Live.notice L kind).dbg = L.dbg ∧
    (Live.notice L kind).ret = L.ret ∧
    (Live.notice L kind).obj = L.obj ∧
    (Live.notice L kind).blob = L.blob ∧
    (Live.notice L kind).out = L.out ∧
    (Live.notice L kind).free = L.free := by
  simp [Live.notice]

theorem Live.confirmAll_frame (L : Live) (pair : Bool) :
    (Live.confirmAll L pair).mode = L.mode ∧
    (Live.confirmAll L pair).pins = L.pins ∧
    (Live.confirmAll L pair).time = L.time ∧
    (Live.confirmAll L pair).ks = L.ks ∧
    (Live.confirmAll L pair).saf = L.saf ∧
    (Live.confirmAll L pair).seg = L.seg ∧
    (Live.confirmAll L pair).node = L.node ∧
    (Live.confirmAll L pair).conv = L.conv ∧
    (Live.confirmAll L pair).twin = L.twin ∧
    (Live.confirmAll L pair).eng = L.eng ∧
    (Live.confirmAll L pair).chi = L.chi ∧
    (Live.confirmAll L pair).est = L.est ∧
    (Live.confirmAll L pair).th = L.th ∧
    (Live.confirmAll L pair).mgr = L.mgr ∧
    (Live.confirmAll L pair).lgc = L.lgc ∧
    (Live.confirmAll L pair).jrn = L.jrn ∧
    (Live.confirmAll L pair).ret = L.ret ∧
    (Live.confirmAll L pair).blob = L.blob ∧
    (Live.confirmAll L pair).out = L.out ∧
    (Live.confirmAll L pair).free = L.free := by
  have h0 := @Live.updEv_frame
  simp [Live.confirmAll, h0]

theorem Live.confirmSet_frame (L : Live) :
    (Live.confirmSet L).time = L.time ∧
    (Live.confirmSet L).ks = L.ks ∧
    (Live.confirmSet L).seg = L.seg ∧
    (Live.confirmSet L).node = L.node ∧
    (Live.confirmSet L).eng = L.eng ∧
    (Live.confirmSet L).est = L.est ∧
    (Live.confirmSet L).th = L.th ∧
    (Live.confirmSet L).mgr = L.mgr ∧
    (Live.confirmSet L).lgc = L.lgc ∧
    (Live.confirmSet L).ret = L.ret ∧
    (Live.confirmSet L).blob = L.blob ∧
    (Live.confirmSet L).free = L.free := by
  have h0 := @Live.notice_frame
  have h1 := @Live.updEv_frame
  have h2 := @Live.stageEntry_frame
  have h3 := @Live.confirmAll_frame
  simp [Live.confirmSet, h0, h1, h2, h3]

theorem Live.partnerConfirms_frame (L : Live) :
    (Live.partnerConfirms L).mode = L.mode ∧
    (Live.partnerConfirms L).pins = L.pins ∧
    (Live.partnerConfirms L).time = L.time ∧
    (Live.partnerConfirms L).ks = L.ks ∧
    (Live.partnerConfirms L).saf = L.saf ∧
    (Live.partnerConfirms L).seg = L.seg ∧
    (Live.partnerConfirms L).node = L.node ∧
    (Live.partnerConfirms L).conv = L.conv ∧
    (Live.partnerConfirms L).twin = L.twin ∧
    (Live.partnerConfirms L).eng = L.eng ∧
    (Live.partnerConfirms L).chi = L.chi ∧
    (Live.partnerConfirms L).est = L.est ∧
    (Live.partnerConfirms L).th = L.th ∧
    (Live.partnerConfirms L).mgr = L.mgr ∧
    (Live.partnerConfirms L).lgc = L.lgc ∧
    (Live.partnerConfirms L).jrn = L.jrn ∧
    (Live.partnerConfirms L).ret = L.ret ∧
    (Live.partnerConfirms L).blob = L.blob ∧
    (Live.partnerConfirms L).out = L.out ∧
    (Live.partnerConfirms L).free = L.free := by
  have h0 := @Live.confirmAll_frame
  simp [Live.partnerConfirms, h0]

theorem Live.partnerFellBack_frame (L : Live) :
    (Live.partnerFellBack L).mode = L.mode ∧
    (Live.partnerFellBack L).pins = L.pins ∧
    (Live.partnerFellBack L).time = L.time ∧
    (Live.partnerFellBack L).ks = L.ks ∧
    (Live.partnerFellBack L).rcd = L.rcd ∧
    (Live.partnerFellBack L).saf = L.saf ∧
    (Live.partnerFellBack L).seg = L.seg ∧
    (Live.partnerFellBack L).node = L.node ∧
    (Live.partnerFellBack L).conv = L.conv ∧
    (Live.partnerFellBack L).twin = L.twin ∧
    (Live.partnerFellBack L).eng = L.eng ∧
    (Live.partnerFellBack L).chi = L.chi ∧
    (Live.partnerFellBack L).cap = L.cap ∧
    (Live.partnerFellBack L).est = L.est ∧
    (Live.partnerFellBack L).th = L.th ∧
    (Live.partnerFellBack L).com = L.com ∧
    (Live.partnerFellBack L).mgr = L.mgr ∧
    (Live.partnerFellBack L).lgc = L.lgc ∧
    (Live.partnerFellBack L).jrn = L.jrn ∧
    (Live.partnerFellBack L).dbg = L.dbg ∧
    (Live.partnerFellBack L).ret = L.ret ∧
    (Live.partnerFellBack L).obj = L.obj ∧
    (Live.partnerFellBack L).blob = L.blob ∧
    (Live.partnerFellBack L).out = L.out ∧
    (Live.partnerFellBack L).free = L.free := by
  simp [Live.partnerFellBack]

theorem Live.leaveSet_frame (L : Live) :
    (Live.leaveSet L).node = L.node ∧
    (Live.leaveSet L).ret = L.ret ∧
    (Live.leaveSet L).free = L.free := by
  have h0 := @Live.updEv_frame
  have h1 := @Live.activateSlot_frame
  have h2 := @Live.restoreGen_frame
  simp [Live.leaveSet, h0, h1, h2]

theorem Live.updateTurn_frame (L : Live) :
    (Live.updateTurn L).node = L.node ∧
    (Live.updateTurn L).ret = L.ret ∧
    (Live.updateTurn L).free = L.free := by
  have h0 := @Live.requestHandover_frame
  have h1 := @Live.toBoot_frame
  have h2 := @Live.leaveSet_frame
  have h3 := @Live.activateSlot_frame
  simp [Live.updateTurn, h0, h1, h2, h3]

theorem Live.probationTick_frame (L : Live) :
    (Live.probationTick L).time = L.time ∧
    (Live.probationTick L).ks = L.ks ∧
    (Live.probationTick L).seg = L.seg ∧
    (Live.probationTick L).node = L.node ∧
    (Live.probationTick L).eng = L.eng ∧
    (Live.probationTick L).est = L.est ∧
    (Live.probationTick L).th = L.th ∧
    (Live.probationTick L).mgr = L.mgr ∧
    (Live.probationTick L).lgc = L.lgc ∧
    (Live.probationTick L).ret = L.ret ∧
    (Live.probationTick L).blob = L.blob ∧
    (Live.probationTick L).free = L.free := by
  have h0 := @Live.stageEntry_frame
  simp [Live.probationTick, h0]

theorem Live.probationOver_frame (L : Live) :
    (Live.probationOver L).node = L.node ∧
    (Live.probationOver L).ret = L.ret ∧
    (Live.probationOver L).blob = L.blob ∧
    (Live.probationOver L).free = L.free := by
  have h0 := @Live.requestHandover_frame
  have h1 := @Live.probationTick_frame
  have h2 := @Live.toBoot_frame
  simp [Live.probationOver, h0, h1, h2]

theorem Live.nodeStart_frame (L : Live) (s : Nat) :
    (Live.nodeStart L s).time = L.time ∧
    (Live.nodeStart L s).ks = L.ks ∧
    (Live.nodeStart L s).node = L.node ∧
    (Live.nodeStart L s).eng = L.eng ∧
    (Live.nodeStart L s).est = L.est ∧
    (Live.nodeStart L s).th = L.th ∧
    (Live.nodeStart L s).mgr = L.mgr ∧
    (Live.nodeStart L s).lgc = L.lgc ∧
    (Live.nodeStart L s).ret = L.ret ∧
    (Live.nodeStart L s).blob = L.blob ∧
    (Live.nodeStart L s).free = L.free := by
  have h0 := @Live.modSeg_frame
  have h1 := @Live.updEv_frame
  have h2 := @Live.stageEntry_frame
  simp [Live.nodeStart, h0, h1, h2]

theorem Live.nodeSend_frame (L : Live) (s : Nat) :
    (Live.nodeSend L s).mode = L.mode ∧
    (Live.nodeSend L s).pins = L.pins ∧
    (Live.nodeSend L s).time = L.time ∧
    (Live.nodeSend L s).ks = L.ks ∧
    (Live.nodeSend L s).rcd = L.rcd ∧
    (Live.nodeSend L s).saf = L.saf ∧
    (Live.nodeSend L s).node = L.node ∧
    (Live.nodeSend L s).conv = L.conv ∧
    (Live.nodeSend L s).twin = L.twin ∧
    (Live.nodeSend L s).eng = L.eng ∧
    (Live.nodeSend L s).chi = L.chi ∧
    (Live.nodeSend L s).cap = L.cap ∧
    (Live.nodeSend L s).est = L.est ∧
    (Live.nodeSend L s).th = L.th ∧
    (Live.nodeSend L s).com = L.com ∧
    (Live.nodeSend L s).mgr = L.mgr ∧
    (Live.nodeSend L s).lgc = L.lgc ∧
    (Live.nodeSend L s).jrn = L.jrn ∧
    (Live.nodeSend L s).dbg = L.dbg ∧
    (Live.nodeSend L s).ret = L.ret ∧
    (Live.nodeSend L s).obj = L.obj ∧
    (Live.nodeSend L s).blob = L.blob ∧
    (Live.nodeSend L s).free = L.free := by
  have h0 := @Live.request_frame
  simp only [Live.nodeSend]
  (repeat' split) <;> simp [h0]

theorem Live.nodeDone_frame (L : Live) (s : Nat) :
    (Live.nodeDone L s).mode = L.mode ∧
    (Live.nodeDone L s).pins = L.pins ∧
    (Live.nodeDone L s).time = L.time ∧
    (Live.nodeDone L s).ks = L.ks ∧
    (Live.nodeDone L s).saf = L.saf ∧
    (Live.nodeDone L s).node = L.node ∧
    (Live.nodeDone L s).conv = L.conv ∧
    (Live.nodeDone L s).eng = L.eng ∧
    (Live.nodeDone L s).chi = L.chi ∧
    (Live.nodeDone L s).est = L.est ∧
    (Live.nodeDone L s).th = L.th ∧
    (Live.nodeDone L s).mgr = L.mgr ∧
    (Live.nodeDone L s).lgc = L.lgc ∧
    (Live.nodeDone L s).ret = L.ret ∧
    (Live.nodeDone L s).blob = L.blob ∧
    (Live.nodeDone L s).out = L.out ∧
    (Live.nodeDone L s).free = L.free := by
  have h0 := @Live.modSeg_frame
  have h1 := @Live.updEv_frame
  have h2 := @Live.stageDone_frame
  simp [Live.nodeDone, h0, h1, h2]

theorem Live.nodeFail_frame (L : Live) (s : Nat) :
    (Live.nodeFail L s).mode = L.mode ∧
    (Live.nodeFail L s).pins = L.pins ∧
    (Live.nodeFail L s).time = L.time ∧
    (Live.nodeFail L s).ks = L.ks ∧
    (Live.nodeFail L s).saf = L.saf ∧
    (Live.nodeFail L s).seg = L.seg ∧
    (Live.nodeFail L s).node = L.node ∧
    (Live.nodeFail L s).conv = L.conv ∧
    (Live.nodeFail L s).eng = L.eng ∧
    (Live.nodeFail L s).chi = L.chi ∧
    (Live.nodeFail L s).est = L.est ∧
    (Live.nodeFail L s).th = L.th ∧
    (Live.nodeFail L s).mgr = L.mgr ∧
    (Live.nodeFail L s).lgc = L.lgc ∧
    (Live.nodeFail L s).ret = L.ret ∧
    (Live.nodeFail L s).blob = L.blob ∧
    (Live.nodeFail L s).out = L.out ∧
    (Live.nodeFail L s).free = L.free := by
  have h0 := @Live.updEv_frame
  have h1 := @Live.stageDone_frame
  simp [Live.nodeFail, h0, h1]

theorem Live.nodeUpdate_frame (L : Live) :
    (Live.nodeUpdate L).time = L.time ∧
    (Live.nodeUpdate L).ks = L.ks ∧
    (Live.nodeUpdate L).node = L.node ∧
    (Live.nodeUpdate L).eng = L.eng ∧
    (Live.nodeUpdate L).est = L.est ∧
    (Live.nodeUpdate L).th = L.th ∧
    (Live.nodeUpdate L).mgr = L.mgr ∧
    (Live.nodeUpdate L).lgc = L.lgc ∧
    (Live.nodeUpdate L).ret = L.ret ∧
    (Live.nodeUpdate L).blob = L.blob ∧
    (Live.nodeUpdate L).free = L.free := by
  have h0 := @Live.nodeStart_frame
  have h1 := @Live.nodeSend_frame
  have h2 := @Live.nodeFail_frame
  have h3 := @Live.nodeDone_frame
  simp only [Live.nodeUpdate]
  (repeat' split) <;> simp [h0, h1, h2, h3]

theorem Live.blockFresh_frame (L : Live) (b : Nat) :
    (Live.blockFresh L b).mode = L.mode ∧
    (Live.blockFresh L b).pins = L.pins ∧
    (Live.blockFresh L b).time = L.time ∧
    (Live.blockFresh L b).ks = L.ks ∧
    (Live.blockFresh L b).rcd = L.rcd ∧
    (Live.blockFresh L b).saf = L.saf ∧
    (Live.blockFresh L b).seg = L.seg ∧
    (Live.blockFresh L b).node = L.node ∧
    (Live.blockFresh L b).conv = L.conv ∧
    (Live.blockFresh L b).twin = L.twin ∧
    (Live.blockFresh L b).eng = L.eng ∧
    (Live.blockFresh L b).chi = L.chi ∧
    (Live.blockFresh L b).cap = L.cap ∧
    (Live.blockFresh L b).est = L.est ∧
    (Live.blockFresh L b).th = L.th ∧
    (Live.blockFresh L b).com = L.com ∧
    (Live.blockFresh L b).mgr = L.mgr ∧
    (Live.blockFresh L b).lgc = L.lgc ∧
    (Live.blockFresh L b).jrn = L.jrn ∧
    (Live.blockFresh L b).dbg = L.dbg ∧
    (Live.blockFresh L b).ret = L.ret ∧
    (Live.blockFresh L b).obj = L.obj ∧
    (Live.blockFresh L b).blob = L.blob ∧
    (Live.blockFresh L b).out = L.out ∧
    (Live.blockFresh L b).free = L.free := by
  simp [Live.blockFresh]

theorem Live.refresh_frame (L : Live) (b : Nat) (ok : Bool) :
    (Live.refresh L b ok).time = L.time ∧
    (Live.refresh L b ok).ks = L.ks ∧
    (Live.refresh L b ok).seg = L.seg ∧
    (Live.refresh L b ok).node = L.node ∧
    (Live.refresh L b ok).eng = L.eng ∧
    (Live.refresh L b ok).est = L.est ∧
    (Live.refresh L b ok).th = L.th ∧
    (Live.refresh L b ok).mgr = L.mgr ∧
    (Live.refresh L b ok).lgc = L.lgc ∧
    (Live.refresh L b ok).ret = L.ret ∧
    (Live.refresh L b ok).blob = L.blob := by
  have h0 := @Live.stageDone_frame
  have h1 := @Live.stageEntry_frame
  have h2 := @Live.updEv_frame
  have h3 := @Live.blockFresh_frame
  simp [Live.refresh, h0, h1, h2, h3]

theorem Live.rewrite_frame (L : Live) (x : Nat × Bytes) :
    (Live.rewrite L x).mode = L.mode ∧
    (Live.rewrite L x).pins = L.pins ∧
    (Live.rewrite L x).time = L.time ∧
    (Live.rewrite L x).ks = L.ks ∧
    (Live.rewrite L x).rcd = L.rcd ∧
    (Live.rewrite L x).saf = L.saf ∧
    (Live.rewrite L x).seg = L.seg ∧
    (Live.rewrite L x).node = L.node ∧
    (Live.rewrite L x).conv = L.conv ∧
    (Live.rewrite L x).twin = L.twin ∧
    (Live.rewrite L x).eng = L.eng ∧
    (Live.rewrite L x).chi = L.chi ∧
    (Live.rewrite L x).cap = L.cap ∧
    (Live.rewrite L x).est = L.est ∧
    (Live.rewrite L x).th = L.th ∧
    (Live.rewrite L x).com = L.com ∧
    (Live.rewrite L x).mgr = L.mgr ∧
    (Live.rewrite L x).lgc = L.lgc ∧
    (Live.rewrite L x).upd = L.upd ∧
    (Live.rewrite L x).jrn = L.jrn ∧
    (Live.rewrite L x).dbg = L.dbg ∧
    (Live.rewrite L x).ret = L.ret ∧
    (Live.rewrite L x).out = L.out ∧
    (Live.rewrite L x).free = L.free := by
  simp only [Live.rewrite]
  (repeat' split) <;> simp

theorem Live.resumeNode_frame (L : Live) (s : Nat) :
    (Live.resumeNode L s).mode = L.mode ∧
    (Live.resumeNode L s).pins = L.pins ∧
    (Live.resumeNode L s).time = L.time ∧
    (Live.resumeNode L s).ks = L.ks ∧
    (Live.resumeNode L s).rcd = L.rcd ∧
    (Live.resumeNode L s).saf = L.saf ∧
    (Live.resumeNode L s).node = L.node ∧
    (Live.resumeNode L s).conv = L.conv ∧
    (Live.resumeNode L s).twin = L.twin ∧
    (Live.resumeNode L s).eng = L.eng ∧
    (Live.resumeNode L s).chi = L.chi ∧
    (Live.resumeNode L s).cap = L.cap ∧
    (Live.resumeNode L s).est = L.est ∧
    (Live.resumeNode L s).th = L.th ∧
    (Live.resumeNode L s).com = L.com ∧
    (Live.resumeNode L s).mgr = L.mgr ∧
    (Live.resumeNode L s).lgc = L.lgc ∧
    (Live.resumeNode L s).jrn = L.jrn ∧
    (Live.resumeNode L s).dbg = L.dbg ∧
    (Live.resumeNode L s).ret = L.ret ∧
    (Live.resumeNode L s).blob = L.blob ∧
    (Live.resumeNode L s).out = L.out ∧
    (Live.resumeNode L s).free = L.free := by
  have h0 := @Live.modSeg_frame
  simp [Live.resumeNode, h0]

theorem Live.replayBody_frame (L : Live) (e : JEntry) :
    (Live.replayBody L e).mode = L.mode ∧
    (Live.replayBody L e).pins = L.pins ∧
    (Live.replayBody L e).time = L.time ∧
    (Live.replayBody L e).saf = L.saf ∧
    (Live.replayBody L e).node = L.node ∧
    (Live.replayBody L e).conv = L.conv ∧
    (Live.replayBody L e).est = L.est ∧
    (Live.replayBody L e).th = L.th ∧
    (Live.replayBody L e).mgr = L.mgr ∧
    (Live.replayBody L e).jrn = L.jrn ∧
    (Live.replayBody L e).ret = L.ret ∧
    (Live.replayBody L e).free = L.free := by
  have h0 := @Live.rewrite_frame
  have h1 := @Live.installSet_frame
  have h2 := @Live.blockFresh_frame
  have h3 := @Live.modSeg_frame
  have h4 := @Live.resumeNode_frame
  simp only [Live.replayBody]
  (repeat' split) <;> simp [h0, h1, h2, h3, h4]

theorem Live.replay_frame (L : Live) (p : JEntry → Bool) :
    (Live.replay L p).mode = L.mode ∧
    (Live.replay L p).pins = L.pins ∧
    (Live.replay L p).time = L.time ∧
    (Live.replay L p).saf = L.saf ∧
    (Live.replay L p).node = L.node ∧
    (Live.replay L p).conv = L.conv ∧
    (Live.replay L p).est = L.est ∧
    (Live.replay L p).th = L.th ∧
    (Live.replay L p).mgr = L.mgr ∧
    (Live.replay L p).ret = L.ret ∧
    (Live.replay L p).free = L.free := by
  have h0 := @Live.jdone_frame
  have h1 := @Live.replayBody_frame
  simp [Live.replay, h0, h1]

end Sys2Proof.Machine
end

