-- ==== Sys2Proof/Laws/FrameModes.lean ====
section
/-! SUPPORT. What each operation of Machine/Modes.lean leaves as it is. -/

namespace Sys2Proof.Machine

open Sys2Proof

theorem Live.fallBack_frame (L : Live) (why : Nat) :
    (Live.fallBack L why).mode = L.mode ∧
    (Live.fallBack L why).pins = L.pins ∧
    (Live.fallBack L why).time = L.time ∧
    (Live.fallBack L why).ks = L.ks ∧
    (Live.fallBack L why).saf = L.saf ∧
    (Live.fallBack L why).seg = L.seg ∧
    (Live.fallBack L why).node = L.node ∧
    (Live.fallBack L why).conv = L.conv ∧
    (Live.fallBack L why).chi = L.chi ∧
    (Live.fallBack L why).est = L.est ∧
    (Live.fallBack L why).th = L.th ∧
    (Live.fallBack L why).mgr = L.mgr ∧
    (Live.fallBack L why).jrn = L.jrn ∧
    (Live.fallBack L why).ret = L.ret ∧
    (Live.fallBack L why).out = L.out ∧
    (Live.fallBack L why).free = L.free := by
  have h0 := @Live.restoreGen_frame
  have h1 := @Live.notice_frame
  have h2 := @Live.updEv_frame
  simp [Live.fallBack, h0, h1, h2]

theorem Live.bootImage_frame (L : Live) (r : BootReport) :
    (Live.bootImage L r).mode = L.mode ∧
    (Live.bootImage L r).pins = L.pins ∧
    (Live.bootImage L r).time = L.time ∧
    (Live.bootImage L r).ks = L.ks ∧
    (Live.bootImage L r).saf = L.saf ∧
    (Live.bootImage L r).seg = L.seg ∧
    (Live.bootImage L r).node = L.node ∧
    (Live.bootImage L r).conv = L.conv ∧
    (Live.bootImage L r).chi = L.chi ∧
    (Live.bootImage L r).est = L.est ∧
    (Live.bootImage L r).th = L.th ∧
    (Live.bootImage L r).mgr = L.mgr ∧
    (Live.bootImage L r).jrn = L.jrn ∧
    (Live.bootImage L r).ret = L.ret ∧
    (Live.bootImage L r).out = L.out ∧
    (Live.bootImage L r).free = L.free := by
  have h0 := @Live.fallBack_frame
  have h1 := @Live.updEv_frame
  simp [Live.bootImage, h0, h1]

theorem Live.bootReplay_frame (L : Live) :
    (Live.bootReplay L).time = L.time ∧
    (Live.bootReplay L).node = L.node ∧
    (Live.bootReplay L).th = L.th ∧
    (Live.bootReplay L).ret = L.ret ∧
    (Live.bootReplay L).free = L.free := by
  have h0 := @Live.replay_frame
  have h1 := @Live.checkpoint_frame
  have h2 := @Live.updEv_frame
  simp [Live.bootReplay, h0, h1, h2]

theorem Live.bootRestore_frame (L : Live) :
    (Live.bootRestore L).mode = L.mode ∧
    (Live.bootRestore L).pins = L.pins ∧
    (Live.bootRestore L).time = L.time ∧
    (Live.bootRestore L).rcd = L.rcd ∧
    (Live.bootRestore L).saf = L.saf ∧
    (Live.bootRestore L).seg = L.seg ∧
    (Live.bootRestore L).node = L.node ∧
    (Live.bootRestore L).conv = L.conv ∧
    (Live.bootRestore L).twin = L.twin ∧
    (Live.bootRestore L).chi = L.chi ∧
    (Live.bootRestore L).cap = L.cap ∧
    (Live.bootRestore L).est = L.est ∧
    (Live.bootRestore L).th = L.th ∧
    (Live.bootRestore L).com = L.com ∧
    (Live.bootRestore L).mgr = L.mgr ∧
    (Live.bootRestore L).lgc = L.lgc ∧
    (Live.bootRestore L).upd = L.upd ∧
    (Live.bootRestore L).jrn = L.jrn ∧
    (Live.bootRestore L).dbg = L.dbg ∧
    (Live.bootRestore L).ret = L.ret ∧
    (Live.bootRestore L).obj = L.obj ∧
    (Live.bootRestore L).blob = L.blob ∧
    (Live.bootRestore L).out = L.out ∧
    (Live.bootRestore L).free = L.free := by
  simp [Live.bootRestore]

theorem Live.liveTests_frame (L : Live) :
    (Live.liveTests L).mode = L.mode ∧
    (Live.liveTests L).pins = L.pins ∧
    (Live.liveTests L).time = L.time ∧
    (Live.liveTests L).ks = L.ks ∧
    (Live.liveTests L).saf = L.saf ∧
    (Live.liveTests L).seg = L.seg ∧
    (Live.liveTests L).node = L.node ∧
    (Live.liveTests L).conv = L.conv ∧
    (Live.liveTests L).twin = L.twin ∧
    (Live.liveTests L).eng = L.eng ∧
    (Live.liveTests L).chi = L.chi ∧
    (Live.liveTests L).cap = L.cap ∧
    (Live.liveTests L).est = L.est ∧
    (Live.liveTests L).th = L.th ∧
    (Live.liveTests L).mgr = L.mgr ∧
    (Live.liveTests L).lgc = L.lgc ∧
    (Live.liveTests L).upd = L.upd ∧
    (Live.liveTests L).jrn = L.jrn ∧
    (Live.liveTests L).dbg = L.dbg ∧
    (Live.liveTests L).ret = L.ret ∧
    (Live.liveTests L).blob = L.blob ∧
    (Live.liveTests L).out = L.out ∧
    (Live.liveTests L).free = L.free := by
  simp [Live.liveTests]

theorem Live.testResults_frame (L : Live) (hard : Nat) :
    (Live.testResults L hard).mode = L.mode ∧
    (Live.testResults L hard).pins = L.pins ∧
    (Live.testResults L hard).time = L.time ∧
    (Live.testResults L hard).ks = L.ks ∧
    (Live.testResults L hard).seg = L.seg ∧
    (Live.testResults L hard).node = L.node ∧
    (Live.testResults L hard).conv = L.conv ∧
    (Live.testResults L hard).twin = L.twin ∧
    (Live.testResults L hard).eng = L.eng ∧
    (Live.testResults L hard).chi = L.chi ∧
    (Live.testResults L hard).est = L.est ∧
    (Live.testResults L hard).th = L.th ∧
    (Live.testResults L hard).mgr = L.mgr ∧
    (Live.testResults L hard).lgc = L.lgc ∧
    (Live.testResults L hard).upd = L.upd ∧
    (Live.testResults L hard).jrn = L.jrn ∧
    (Live.testResults L hard).ret = L.ret ∧
    (Live.testResults L hard).blob = L.blob ∧
    (Live.testResults L hard).out = L.out ∧
    (Live.testResults L hard).free = L.free := by
  have h0 := @Live.liveTests_frame
  simp [Live.testResults, h0]

theorem Live.claimFirst_frame (L : Live) :
    (Live.claimFirst L).mode = L.mode ∧
    (Live.claimFirst L).time = L.time ∧
    (Live.claimFirst L).ks = L.ks ∧
    (Live.claimFirst L).rcd = L.rcd ∧
    (Live.claimFirst L).saf = L.saf ∧
    (Live.claimFirst L).node = L.node ∧
    (Live.claimFirst L).conv = L.conv ∧
    (Live.claimFirst L).eng = L.eng ∧
    (Live.claimFirst L).chi = L.chi ∧
    (Live.claimFirst L).cap = L.cap ∧
    (Live.claimFirst L).est = L.est ∧
    (Live.claimFirst L).th = L.th ∧
    (Live.claimFirst L).com = L.com ∧
    (Live.claimFirst L).mgr = L.mgr ∧
    (Live.claimFirst L).lgc = L.lgc ∧
    (Live.claimFirst L).upd = L.upd ∧
    (Live.claimFirst L).jrn = L.jrn ∧
    (Live.claimFirst L).dbg = L.dbg ∧
    (Live.claimFirst L).ret = L.ret ∧
    (Live.claimFirst L).obj = L.obj ∧
    (Live.claimFirst L).blob = L.blob ∧
    (Live.claimFirst L).free = L.free := by
  have h0 := @Live.dueThresholds_frame
  have h1 := @Live.setFast_frame
  simp [Live.claimFirst, h0, h1]

theorem Live.firstToken_frame (L : Live) :
    (Live.firstToken L).mode = L.mode ∧
    (Live.firstToken L).time = L.time ∧
    (Live.firstToken L).ks = L.ks ∧
    (Live.firstToken L).rcd = L.rcd ∧
    (Live.firstToken L).saf = L.saf ∧
    (Live.firstToken L).node = L.node ∧
    (Live.firstToken L).conv = L.conv ∧
    (Live.firstToken L).eng = L.eng ∧
    (Live.firstToken L).chi = L.chi ∧
    (Live.firstToken L).cap = L.cap ∧
    (Live.firstToken L).est = L.est ∧
    (Live.firstToken L).th = L.th ∧
    (Live.firstToken L).com = L.com ∧
    (Live.firstToken L).mgr = L.mgr ∧
    (Live.firstToken L).lgc = L.lgc ∧
    (Live.firstToken L).upd = L.upd ∧
    (Live.firstToken L).jrn = L.jrn ∧
    (Live.firstToken L).dbg = L.dbg ∧
    (Live.firstToken L).ret = L.ret ∧
    (Live.firstToken L).obj = L.obj ∧
    (Live.firstToken L).blob = L.blob ∧
    (Live.firstToken L).free = L.free := by
  have h0 := @Live.claimFirst_frame
  simp [Live.firstToken, h0]

theorem Live.rejoinPair_frame (L : Live) :
    (Live.rejoinPair L).mode = L.mode ∧
    (Live.rejoinPair L).pins = L.pins ∧
    (Live.rejoinPair L).time = L.time ∧
    (Live.rejoinPair L).ks = L.ks ∧
    (Live.rejoinPair L).rcd = L.rcd ∧
    (Live.rejoinPair L).saf = L.saf ∧
    (Live.rejoinPair L).seg = L.seg ∧
    (Live.rejoinPair L).node = L.node ∧
    (Live.rejoinPair L).conv = L.conv ∧
    (Live.rejoinPair L).eng = L.eng ∧
    (Live.rejoinPair L).chi = L.chi ∧
    (Live.rejoinPair L).cap = L.cap ∧
    (Live.rejoinPair L).est = L.est ∧
    (Live.rejoinPair L).th = L.th ∧
    (Live.rejoinPair L).com = L.com ∧
    (Live.rejoinPair L).mgr = L.mgr ∧
    (Live.rejoinPair L).lgc = L.lgc ∧
    (Live.rejoinPair L).upd = L.upd ∧
    (Live.rejoinPair L).jrn = L.jrn ∧
    (Live.rejoinPair L).dbg = L.dbg ∧
    (Live.rejoinPair L).ret = L.ret ∧
    (Live.rejoinPair L).obj = L.obj ∧
    (Live.rejoinPair L).blob = L.blob ∧
    (Live.rejoinPair L).out = L.out ∧
    (Live.rejoinPair L).free = L.free := by
  simp [Live.rejoinPair]

theorem Live.latchTrips_frame (L : Live) :
    (Live.latchTrips L).time = L.time ∧
    (Live.latchTrips L).ks = L.ks ∧
    (Live.latchTrips L).seg = L.seg ∧
    (Live.latchTrips L).node = L.node ∧
    (Live.latchTrips L).eng = L.eng ∧
    (Live.latchTrips L).est = L.est ∧
    (Live.latchTrips L).th = L.th ∧
    (Live.latchTrips L).mgr = L.mgr ∧
    (Live.latchTrips L).lgc = L.lgc ∧
    (Live.latchTrips L).jrn = L.jrn ∧
    (Live.latchTrips L).ret = L.ret ∧
    (Live.latchTrips L).blob = L.blob ∧
    (Live.latchTrips L).free = L.free := by
  have h0 := @Live.trip_frame
  simp [Live.latchTrips, h0]

theorem Live.actEnable_frame (L : Live) :
    (Live.actEnable L).time = L.time ∧
    (Live.actEnable L).ks = L.ks ∧
    (Live.actEnable L).node = L.node ∧
    (Live.actEnable L).twin = L.twin ∧
    (Live.actEnable L).eng = L.eng ∧
    (Live.actEnable L).est = L.est ∧
    (Live.actEnable L).th = L.th ∧
    (Live.actEnable L).mgr = L.mgr ∧
    (Live.actEnable L).lgc = L.lgc ∧
    (Live.actEnable L).upd = L.upd ∧
    (Live.actEnable L).jrn = L.jrn ∧
    (Live.actEnable L).ret = L.ret ∧
    (Live.actEnable L).blob = L.blob ∧
    (Live.actEnable L).out = L.out := by
  have h0 := @Live.result_frame
  have h1 := @Live.startPrecharge_frame
  simp [Live.actEnable, h0, h1]

theorem Live.cmdEnable_frame (L : Live) :
    (Live.cmdEnable L).time = L.time ∧
    (Live.cmdEnable L).ks = L.ks ∧
    (Live.cmdEnable L).node = L.node ∧
    (Live.cmdEnable L).twin = L.twin ∧
    (Live.cmdEnable L).eng = L.eng ∧
    (Live.cmdEnable L).est = L.est ∧
    (Live.cmdEnable L).th = L.th ∧
    (Live.cmdEnable L).mgr = L.mgr ∧
    (Live.cmdEnable L).lgc = L.lgc ∧
    (Live.cmdEnable L).upd = L.upd ∧
    (Live.cmdEnable L).jrn = L.jrn ∧
    (Live.cmdEnable L).ret = L.ret ∧
    (Live.cmdEnable L).blob = L.blob ∧
    (Live.cmdEnable L).out = L.out := by
  have h0 := @Live.result_frame
  have h1 := @Live.actEnable_frame
  simp [Live.cmdEnable, h0, h1]

theorem Live.cmdDisable_frame (L : Live) :
    (Live.cmdDisable L).time = L.time ∧
    (Live.cmdDisable L).ks = L.ks ∧
    (Live.cmdDisable L).seg = L.seg ∧
    (Live.cmdDisable L).node = L.node ∧
    (Live.cmdDisable L).twin = L.twin ∧
    (Live.cmdDisable L).eng = L.eng ∧
    (Live.cmdDisable L).est = L.est ∧
    (Live.cmdDisable L).th = L.th ∧
    (Live.cmdDisable L).mgr = L.mgr ∧
    (Live.cmdDisable L).lgc = L.lgc ∧
    (Live.cmdDisable L).upd = L.upd ∧
    (Live.cmdDisable L).jrn = L.jrn ∧
    (Live.cmdDisable L).ret = L.ret ∧
    (Live.cmdDisable L).blob = L.blob ∧
    (Live.cmdDisable L).out = L.out ∧
    (Live.cmdDisable L).free = L.free := by
  have h0 := @Live.result_frame
  have h1 := @Live.startShutdown_frame
  have h2 := @Live.cancelPending_frame
  simp [Live.cmdDisable, h0, h1, h2]

theorem Live.cmdAcknowledge_frame (L : Live) :
    (Live.cmdAcknowledge L).time = L.time ∧
    (Live.cmdAcknowledge L).ks = L.ks ∧
    (Live.cmdAcknowledge L).seg = L.seg ∧
    (Live.cmdAcknowledge L).node = L.node ∧
    (Live.cmdAcknowledge L).twin = L.twin ∧
    (Live.cmdAcknowledge L).eng = L.eng ∧
    (Live.cmdAcknowledge L).est = L.est ∧
    (Live.cmdAcknowledge L).th = L.th ∧
    (Live.cmdAcknowledge L).mgr = L.mgr ∧
    (Live.cmdAcknowledge L).lgc = L.lgc ∧
    (Live.cmdAcknowledge L).upd = L.upd ∧
    (Live.cmdAcknowledge L).jrn = L.jrn ∧
    (Live.cmdAcknowledge L).ret = L.ret ∧
    (Live.cmdAcknowledge L).blob = L.blob ∧
    (Live.cmdAcknowledge L).out = L.out ∧
    (Live.cmdAcknowledge L).free = L.free := by
  have h0 := @Live.result_frame
  have h1 := @Live.enterStandby_frame
  simp [Live.cmdAcknowledge, h0, h1]

theorem Live.cmdEnterService_frame (L : Live) :
    (Live.cmdEnterService L).time = L.time ∧
    (Live.cmdEnterService L).ks = L.ks ∧
    (Live.cmdEnterService L).saf = L.saf ∧
    (Live.cmdEnterService L).seg = L.seg ∧
    (Live.cmdEnterService L).node = L.node ∧
    (Live.cmdEnterService L).conv = L.conv ∧
    (Live.cmdEnterService L).twin = L.twin ∧
    (Live.cmdEnterService L).eng = L.eng ∧
    (Live.cmdEnterService L).est = L.est ∧
    (Live.cmdEnterService L).th = L.th ∧
    (Live.cmdEnterService L).mgr = L.mgr ∧
    (Live.cmdEnterService L).lgc = L.lgc ∧
    (Live.cmdEnterService L).upd = L.upd ∧
    (Live.cmdEnterService L).jrn = L.jrn ∧
    (Live.cmdEnterService L).ret = L.ret ∧
    (Live.cmdEnterService L).blob = L.blob ∧
    (Live.cmdEnterService L).out = L.out ∧
    (Live.cmdEnterService L).free = L.free := by
  have h0 := @Live.setState_frame
  have h1 := @Live.result_frame
  have h2 := @Live.setFast_frame
  simp [Live.cmdEnterService, h0, h1, h2]

theorem Live.cmdLeaveService_frame (L : Live) :
    (Live.cmdLeaveService L).time = L.time ∧
    (Live.cmdLeaveService L).ks = L.ks ∧
    (Live.cmdLeaveService L).seg = L.seg ∧
    (Live.cmdLeaveService L).node = L.node ∧
    (Live.cmdLeaveService L).eng = L.eng ∧
    (Live.cmdLeaveService L).est = L.est ∧
    (Live.cmdLeaveService L).th = L.th ∧
    (Live.cmdLeaveService L).mgr = L.mgr ∧
    (Live.cmdLeaveService L).lgc = L.lgc ∧
    (Live.cmdLeaveService L).upd = L.upd ∧
    (Live.cmdLeaveService L).jrn = L.jrn ∧
    (Live.cmdLeaveService L).ret = L.ret ∧
    (Live.cmdLeaveService L).blob = L.blob ∧
    (Live.cmdLeaveService L).out = L.out ∧
    (Live.cmdLeaveService L).free = L.free := by
  have h0 := @Live.result_frame
  have h1 := @Live.rejoinPair_frame
  have h2 := @Live.enterStandby_frame
  simp [Live.cmdLeaveService, h0, h1, h2]

theorem Live.cmdEnterQuarry_frame (L : Live) :
    (Live.cmdEnterQuarry L).pins = L.pins ∧
    (Live.cmdEnterQuarry L).time = L.time ∧
    (Live.cmdEnterQuarry L).ks = L.ks ∧
    (Live.cmdEnterQuarry L).rcd = L.rcd ∧
    (Live.cmdEnterQuarry L).saf = L.saf ∧
    (Live.cmdEnterQuarry L).seg = L.seg ∧
    (Live.cmdEnterQuarry L).node = L.node ∧
    (Live.cmdEnterQuarry L).conv = L.conv ∧
    (Live.cmdEnterQuarry L).twin = L.twin ∧
    (Live.cmdEnterQuarry L).eng = L.eng ∧
    (Live.cmdEnterQuarry L).chi = L.chi ∧
    (Live.cmdEnterQuarry L).cap = L.cap ∧
    (Live.cmdEnterQuarry L).est = L.est ∧
    (Live.cmdEnterQuarry L).th = L.th ∧
    (Live.cmdEnterQuarry L).com = L.com ∧
    (Live.cmdEnterQuarry L).mgr = L.mgr ∧
    (Live.cmdEnterQuarry L).lgc = L.lgc ∧
    (Live.cmdEnterQuarry L).upd = L.upd ∧
    (Live.cmdEnterQuarry L).jrn = L.jrn ∧
    (Live.cmdEnterQuarry L).dbg = L.dbg ∧
    (Live.cmdEnterQuarry L).ret = L.ret ∧
    (Live.cmdEnterQuarry L).blob = L.blob ∧
    (Live.cmdEnterQuarry L).out = L.out ∧
    (Live.cmdEnterQuarry L).free = L.free := by
  have h0 := @Live.result_frame
  simp [Live.cmdEnterQuarry, h0]

theorem Live.cmdColdLogic_frame (L : Live) :
    (Live.cmdColdLogic L).mode = L.mode ∧
    (Live.cmdColdLogic L).pins = L.pins ∧
    (Live.cmdColdLogic L).time = L.time ∧
    (Live.cmdColdLogic L).ks = L.ks ∧
    (Live.cmdColdLogic L).saf = L.saf ∧
    (Live.cmdColdLogic L).seg = L.seg ∧
    (Live.cmdColdLogic L).node = L.node ∧
    (Live.cmdColdLogic L).conv = L.conv ∧
    (Live.cmdColdLogic L).twin = L.twin ∧
    (Live.cmdColdLogic L).eng = L.eng ∧
    (Live.cmdColdLogic L).chi = L.chi ∧
    (Live.cmdColdLogic L).est = L.est ∧
    (Live.cmdColdLogic L).th = L.th ∧
    (Live.cmdColdLogic L).mgr = L.mgr ∧
    (Live.cmdColdLogic L).upd = L.upd ∧
    (Live.cmdColdLogic L).jrn = L.jrn ∧
    (Live.cmdColdLogic L).ret = L.ret ∧
    (Live.cmdColdLogic L).blob = L.blob ∧
    (Live.cmdColdLogic L).out = L.out ∧
    (Live.cmdColdLogic L).free = L.free := by
  have h0 := @Live.result_frame
  have h1 := @Live.logicStart_frame
  simp [Live.cmdColdLogic, h0, h1]

theorem Live.cmdColdEst_frame (L : Live) :
    (Live.cmdColdEst L).mode = L.mode ∧
    (Live.cmdColdEst L).pins = L.pins ∧
    (Live.cmdColdEst L).time = L.time ∧
    (Live.cmdColdEst L).ks = L.ks ∧
    (Live.cmdColdEst L).saf = L.saf ∧
    (Live.cmdColdEst L).seg = L.seg ∧
    (Live.cmdColdEst L).node = L.node ∧
    (Live.cmdColdEst L).conv = L.conv ∧
    (Live.cmdColdEst L).twin = L.twin ∧
    (Live.cmdColdEst L).eng = L.eng ∧
    (Live.cmdColdEst L).chi = L.chi ∧
    (Live.cmdColdEst L).th = L.th ∧
    (Live.cmdColdEst L).mgr = L.mgr ∧
    (Live.cmdColdEst L).lgc = L.lgc ∧
    (Live.cmdColdEst L).upd = L.upd ∧
    (Live.cmdColdEst L).jrn = L.jrn ∧
    (Live.cmdColdEst L).ret = L.ret ∧
    (Live.cmdColdEst L).blob = L.blob ∧
    (Live.cmdColdEst L).out = L.out ∧
    (Live.cmdColdEst L).free = L.free := by
  have h0 := @Live.result_frame
  have h1 := @Live.estRestart_frame
  simp [Live.cmdColdEst, h0, h1]

theorem Live.cmdModule_frame (L : Live) (v : Nat) :
    (Live.cmdModule L v).node = L.node ∧
    (Live.cmdModule L v).jrn = L.jrn ∧
    (Live.cmdModule L v).ret = L.ret ∧
    (Live.cmdModule L v).blob = L.blob ∧
    (Live.cmdModule L v).out = L.out := by
  have h0 := @Live.cmdEnable_frame
  have h1 := @Live.cmdDisable_frame
  have h2 := @Live.cmdAcknowledge_frame
  have h3 := @Live.cmdEnterService_frame
  have h4 := @Live.cmdLeaveService_frame
  have h5 := @Live.cmdEnterQuarry_frame
  have h6 := @Live.toBoot_frame
  have h7 := @Live.result_frame
  have h8 := @Live.cmdColdLogic_frame
  have h9 := @Live.cmdColdEst_frame
  simp only [Live.cmdModule]
  (repeat' split) <;> simp [h0, h1, h2, h3, h4, h5, h6, h7, h8, h9]

theorem Live.pendingActs_frame (L : Live) :
    (Live.pendingActs L).time = L.time ∧
    (Live.pendingActs L).ks = L.ks ∧
    (Live.pendingActs L).node = L.node ∧
    (Live.pendingActs L).twin = L.twin ∧
    (Live.pendingActs L).eng = L.eng ∧
    (Live.pendingActs L).est = L.est ∧
    (Live.pendingActs L).th = L.th ∧
    (Live.pendingActs L).mgr = L.mgr ∧
    (Live.pendingActs L).lgc = L.lgc ∧
    (Live.pendingActs L).upd = L.upd ∧
    (Live.pendingActs L).jrn = L.jrn ∧
    (Live.pendingActs L).ret = L.ret ∧
    (Live.pendingActs L).blob = L.blob ∧
    (Live.pendingActs L).out = L.out := by
  have h0 := @Live.actEnable_frame
  simp only [Live.pendingActs]
  (repeat' split) <;> simp [h0]

end Sys2Proof.Machine
end

