-- ==== Sys2Proof/Laws/FrameTwinOps.lean ====
section
/-! SUPPORT. What each operation of Machine/TwinOps.lean leaves as it is. -/

namespace Sys2Proof.Machine

open Sys2Proof

theorem Live.leaveStep_frame (L : Live) (cause : Nat) :
    (Live.leaveStep L cause).mode = L.mode ∧
    (Live.leaveStep L cause).pins = L.pins ∧
    (Live.leaveStep L cause).time = L.time ∧
    (Live.leaveStep L cause).ks = L.ks ∧
    (Live.leaveStep L cause).saf = L.saf ∧
    (Live.leaveStep L cause).seg = L.seg ∧
    (Live.leaveStep L cause).node = L.node ∧
    (Live.leaveStep L cause).conv = L.conv ∧
    (Live.leaveStep L cause).eng = L.eng ∧
    (Live.leaveStep L cause).chi = L.chi ∧
    (Live.leaveStep L cause).est = L.est ∧
    (Live.leaveStep L cause).th = L.th ∧
    (Live.leaveStep L cause).mgr = L.mgr ∧
    (Live.leaveStep L cause).lgc = L.lgc ∧
    (Live.leaveStep L cause).jrn = L.jrn ∧
    (Live.leaveStep L cause).ret = L.ret ∧
    (Live.leaveStep L cause).obj = L.obj ∧
    (Live.leaveStep L cause).blob = L.blob ∧
    (Live.leaveStep L cause).out = L.out ∧
    (Live.leaveStep L cause).free = L.free := by
  have h0 := @Live.twinEv_frame
  simp [Live.leaveStep, h0]

end Sys2Proof.Machine
end

