-- ==== Sys2Proof/Laws/FrameCommit.lean ====
section
/-! SUPPORT. What each operation of Machine/Commit.lean leaves as it is. -/

namespace Sys2Proof.Machine

open Sys2Proof

theorem Live.putDataRate_frame (L : Live) (idx : Nat) (x : Int) :
    (Live.putDataRate L idx x).mode = L.mode ∧
    (Live.putDataRate L idx x).pins = L.pins ∧
    (Live.putDataRate L idx x).time = L.time ∧
    (Live.putDataRate L idx x).ks = L.ks ∧
    (Live.putDataRate L idx x).rcd = L.rcd ∧
    (Live.putDataRate L idx x).saf = L.saf ∧
    (Live.putDataRate L idx x).seg = L.seg ∧
    (Live.putDataRate L idx x).node = L.node ∧
    (Live.putDataRate L idx x).conv = L.conv ∧
    (Live.putDataRate L idx x).twin = L.twin ∧
    (Live.putDataRate L idx x).eng = L.eng ∧
    (Live.putDataRate L idx x).chi = L.chi ∧
    (Live.putDataRate L idx x).cap = L.cap ∧
    (Live.putDataRate L idx x).est = L.est ∧
    (Live.putDataRate L idx x).th = L.th ∧
    (Live.putDataRate L idx x).com = L.com ∧
    (Live.putDataRate L idx x).mgr = L.mgr ∧
    (Live.putDataRate L idx x).lgc = L.lgc ∧
    (Live.putDataRate L idx x).upd = L.upd ∧
    (Live.putDataRate L idx x).jrn = L.jrn ∧
    (Live.putDataRate L idx x).dbg = L.dbg ∧
    (Live.putDataRate L idx x).ret = L.ret ∧
    (Live.putDataRate L idx x).blob = L.blob ∧
    (Live.putDataRate L idx x).out = L.out ∧
    (Live.putDataRate L idx x).free = L.free := by
  simp [Live.putDataRate]

theorem Live.afterRefusal_frame (L : Live) (s : Sess) (k : Nat) (e : Abort) (sim : Live) :
    (Live.afterRefusal L s k e sim).mode = L.mode ∧
    (Live.afterRefusal L s k e sim).pins = L.pins ∧
    (Live.afterRefusal L s k e sim).time = L.time ∧
    (Live.afterRefusal L s k e sim).saf = L.saf ∧
    (Live.afterRefusal L s k e sim).seg = L.seg ∧
    (Live.afterRefusal L s k e sim).node = L.node ∧
    (Live.afterRefusal L s k e sim).conv = L.conv ∧
    (Live.afterRefusal L s k e sim).twin = L.twin ∧
    (Live.afterRefusal L s k e sim).eng = L.eng ∧
    (Live.afterRefusal L s k e sim).chi = L.chi ∧
    (Live.afterRefusal L s k e sim).est = L.est ∧
    (Live.afterRefusal L s k e sim).th = L.th ∧
    (Live.afterRefusal L s k e sim).mgr = L.mgr ∧
    (Live.afterRefusal L s k e sim).lgc = L.lgc ∧
    (Live.afterRefusal L s k e sim).upd = L.upd ∧
    (Live.afterRefusal L s k e sim).jrn = L.jrn ∧
    (Live.afterRefusal L s k e sim).ret = L.ret ∧
    (Live.afterRefusal L s k e sim).blob = L.blob ∧
    (Live.afterRefusal L s k e sim).out = L.out ∧
    (Live.afterRefusal L s k e sim).free = L.free := by
  have h0 := @Live.authFail_frame
  have h1 := @Live.lgcEv_frame
  simp [Live.afterRefusal, h0, h1]

theorem Live.tagged_frame (L : Live) (t : Option Txn) :
    (Live.tagged L t).mode = L.mode ∧
    (Live.tagged L t).pins = L.pins ∧
    (Live.tagged L t).time = L.time ∧
    (Live.tagged L t).rcd = L.rcd ∧
    (Live.tagged L t).saf = L.saf ∧
    (Live.tagged L t).seg = L.seg ∧
    (Live.tagged L t).node = L.node ∧
    (Live.tagged L t).conv = L.conv ∧
    (Live.tagged L t).twin = L.twin ∧
    (Live.tagged L t).eng = L.eng ∧
    (Live.tagged L t).chi = L.chi ∧
    (Live.tagged L t).cap = L.cap ∧
    (Live.tagged L t).est = L.est ∧
    (Live.tagged L t).th = L.th ∧
    (Live.tagged L t).com = L.com ∧
    (Live.tagged L t).mgr = L.mgr ∧
    (Live.tagged L t).lgc = L.lgc ∧
    (Live.tagged L t).upd = L.upd ∧
    (Live.tagged L t).jrn = L.jrn ∧
    (Live.tagged L t).dbg = L.dbg ∧
    (Live.tagged L t).ret = L.ret ∧
    (Live.tagged L t).obj = L.obj ∧
    (Live.tagged L t).blob = L.blob ∧
    (Live.tagged L t).out = L.out ∧
    (Live.tagged L t).free = L.free := by
  simp [Live.tagged]

theorem Live.vmWrites_frame (L : Live) (rs : List Req) :
    (Live.vmWrites L rs).mode = L.mode ∧
    (Live.vmWrites L rs).pins = L.pins ∧
    (Live.vmWrites L rs).time = L.time ∧
    (Live.vmWrites L rs).ks = L.ks ∧
    (Live.vmWrites L rs).rcd = L.rcd ∧
    (Live.vmWrites L rs).saf = L.saf ∧
    (Live.vmWrites L rs).seg = L.seg ∧
    (Live.vmWrites L rs).node = L.node ∧
    (Live.vmWrites L rs).conv = L.conv ∧
    (Live.vmWrites L rs).twin = L.twin ∧
    (Live.vmWrites L rs).eng = L.eng ∧
    (Live.vmWrites L rs).chi = L.chi ∧
    (Live.vmWrites L rs).cap = L.cap ∧
    (Live.vmWrites L rs).est = L.est ∧
    (Live.vmWrites L rs).th = L.th ∧
    (Live.vmWrites L rs).com = L.com ∧
    (Live.vmWrites L rs).mgr = L.mgr ∧
    (Live.vmWrites L rs).upd = L.upd ∧
    (Live.vmWrites L rs).jrn = L.jrn ∧
    (Live.vmWrites L rs).dbg = L.dbg ∧
    (Live.vmWrites L rs).ret = L.ret ∧
    (Live.vmWrites L rs).obj = L.obj ∧
    (Live.vmWrites L rs).blob = L.blob ∧
    (Live.vmWrites L rs).out = L.out ∧
    (Live.vmWrites L rs).free = L.free := by
  have h0 := @Live.writeVm_frame
  simp [Live.vmWrites, h0]

end Sys2Proof.Machine
end

