-- ==== Sys2Proof/Laws/FrameBoundary.lean ====
section
/-! SUPPORT. What each operation of Machine/Boundary.lean leaves as it is. -/

namespace Sys2Proof.Machine

open Sys2Proof

theorem Live.loneOverdue_frame (L : Live) :
    (Live.loneOverdue L).mode = L.mode ∧
    (Live.loneOverdue L).pins = L.pins ∧
    (Live.loneOverdue L).time = L.time ∧
    (Live.loneOverdue L).ks = L.ks ∧
    (Live.loneOverdue L).saf = L.saf ∧
    (Live.loneOverdue L).seg = L.seg ∧
    (Live.loneOverdue L).node = L.node ∧
    (Live.loneOverdue L).conv = L.conv ∧
    (Live.loneOverdue L).twin = L.twin ∧
    (Live.loneOverdue L).eng = L.eng ∧
    (Live.loneOverdue L).chi = L.chi ∧
    (Live.loneOverdue L).est = L.est ∧
    (Live.loneOverdue L).th = L.th ∧
    (Live.loneOverdue L).mgr = L.mgr ∧
    (Live.loneOverdue L).lgc = L.lgc ∧
    (Live.loneOverdue L).upd = L.upd ∧
    (Live.loneOverdue L).jrn = L.jrn ∧
    (Live.loneOverdue L).ret = L.ret ∧
    (Live.loneOverdue L).obj = L.obj ∧
    (Live.loneOverdue L).blob = L.blob ∧
    (Live.loneOverdue L).out = L.out ∧
    (Live.loneOverdue L).free = L.free := by
  simp [Live.loneOverdue]

theorem Live.closeCourse_frame (L : Live) :
    (Live.closeCourse L).mode = L.mode ∧
    (Live.closeCourse L).pins = L.pins ∧
    (Live.closeCourse L).time = L.time ∧
    (Live.closeCourse L).ks = L.ks ∧
    (Live.closeCourse L).saf = L.saf ∧
    (Live.closeCourse L).seg = L.seg ∧
    (Live.closeCourse L).node = L.node ∧
    (Live.closeCourse L).conv = L.conv ∧
    (Live.closeCourse L).twin = L.twin ∧
    (Live.closeCourse L).chi = L.chi ∧
    (Live.closeCourse L).est = L.est ∧
    (Live.closeCourse L).th = L.th ∧
    (Live.closeCourse L).mgr = L.mgr ∧
    (Live.closeCourse L).lgc = L.lgc ∧
    (Live.closeCourse L).upd = L.upd ∧
    (Live.closeCourse L).jrn = L.jrn ∧
    (Live.closeCourse L).ret = L.ret ∧
    (Live.closeCourse L).blob = L.blob ∧
    (Live.closeCourse L).out = L.out := by
  have h0 := @Live.senseLoop_frame
  have h1 := @Live.loneOverdue_frame
  have h2 := @Live.liveTests_frame
  simp [Live.closeCourse, h0, h1, h2]

theorem Live.drawNonce_frame (L : Live) (epoch : Nat) :
    (Live.drawNonce L epoch).mode = L.mode ∧
    (Live.drawNonce L epoch).pins = L.pins ∧
    (Live.drawNonce L epoch).time = L.time ∧
    (Live.drawNonce L epoch).rcd = L.rcd ∧
    (Live.drawNonce L epoch).saf = L.saf ∧
    (Live.drawNonce L epoch).seg = L.seg ∧
    (Live.drawNonce L epoch).node = L.node ∧
    (Live.drawNonce L epoch).conv = L.conv ∧
    (Live.drawNonce L epoch).twin = L.twin ∧
    (Live.drawNonce L epoch).eng = L.eng ∧
    (Live.drawNonce L epoch).chi = L.chi ∧
    (Live.drawNonce L epoch).cap = L.cap ∧
    (Live.drawNonce L epoch).est = L.est ∧
    (Live.drawNonce L epoch).th = L.th ∧
    (Live.drawNonce L epoch).com = L.com ∧
    (Live.drawNonce L epoch).mgr = L.mgr ∧
    (Live.drawNonce L epoch).lgc = L.lgc ∧
    (Live.drawNonce L epoch).upd = L.upd ∧
    (Live.drawNonce L epoch).jrn = L.jrn ∧
    (Live.drawNonce L epoch).dbg = L.dbg ∧
    (Live.drawNonce L epoch).ret = L.ret ∧
    (Live.drawNonce L epoch).obj = L.obj ∧
    (Live.drawNonce L epoch).blob = L.blob ∧
    (Live.drawNonce L epoch).out = L.out := by
  simp [Live.drawNonce]

theorem Live.outputResults_frame (L : Live) (res : List (Req × Abort × Nat)) :
    (Live.outputResults L res).mode = L.mode ∧
    (Live.outputResults L res).pins = L.pins ∧
    (Live.outputResults L res).time = L.time ∧
    (Live.outputResults L res).ks = L.ks ∧
    (Live.outputResults L res).saf = L.saf ∧
    (Live.outputResults L res).seg = L.seg ∧
    (Live.outputResults L res).node = L.node ∧
    (Live.outputResults L res).conv = L.conv ∧
    (Live.outputResults L res).twin = L.twin ∧
    (Live.outputResults L res).eng = L.eng ∧
    (Live.outputResults L res).chi = L.chi ∧
    (Live.outputResults L res).est = L.est ∧
    (Live.outputResults L res).th = L.th ∧
    (Live.outputResults L res).mgr = L.mgr ∧
    (Live.outputResults L res).upd = L.upd ∧
    (Live.outputResults L res).jrn = L.jrn ∧
    (Live.outputResults L res).ret = L.ret ∧
    (Live.outputResults L res).blob = L.blob ∧
    (Live.outputResults L res).out = L.out ∧
    (Live.outputResults L res).free = L.free := by
  have h0 := @Live.lgcEv_frame
  have h1 := @Live.modLgc_frame
  simp [Live.outputResults, h0, h1]

theorem snapOf_frame (U L : Live) :
    (snapOf U L).ks = L.ks ∧
    (snapOf U L).eng = L.eng ∧
    (snapOf U L).chi = L.chi ∧
    (snapOf U L).cap = L.cap ∧
    (snapOf U L).mgr = L.mgr ∧
    (snapOf U L).lgc = L.lgc ∧
    (snapOf U L).upd = L.upd ∧
    (snapOf U L).jrn = L.jrn ∧
    (snapOf U L).dbg = L.dbg ∧
    (snapOf U L).ret = L.ret ∧
    (snapOf U L).blob = L.blob ∧
    (snapOf U L).free = L.free := by
  simp [snapOf]

theorem Live.sendRecord_frame (snap L : Live) (res : List (Req × Abort × Nat)) :
    (Live.sendRecord snap L res).mode = L.mode ∧
    (Live.sendRecord snap L res).pins = L.pins ∧
    (Live.sendRecord snap L res).time = L.time ∧
    (Live.sendRecord snap L res).ks = L.ks ∧
    (Live.sendRecord snap L res).rcd = L.rcd ∧
    (Live.sendRecord snap L res).saf = L.saf ∧
    (Live.sendRecord snap L res).seg = L.seg ∧
    (Live.sendRecord snap L res).node = L.node ∧
    (Live.sendRecord snap L res).conv = L.conv ∧
    (Live.sendRecord snap L res).eng = L.eng ∧
    (Live.sendRecord snap L res).chi = L.chi ∧
    (Live.sendRecord snap L res).cap = L.cap ∧
    (Live.sendRecord snap L res).est = L.est ∧
    (Live.sendRecord snap L res).th = L.th ∧
    (Live.sendRecord snap L res).com = L.com ∧
    (Live.sendRecord snap L res).mgr = L.mgr ∧
    (Live.sendRecord snap L res).lgc = L.lgc ∧
    (Live.sendRecord snap L res).upd = L.upd ∧
    (Live.sendRecord snap L res).jrn = L.jrn ∧
    (Live.sendRecord snap L res).dbg = L.dbg ∧
    (Live.sendRecord snap L res).ret = L.ret ∧
    (Live.sendRecord snap L res).blob = L.blob ∧
    (Live.sendRecord snap L res).out = L.out ∧
    (Live.sendRecord snap L res).free = L.free := by
  have h0 := @Live.toPartner_frame
  simp [Live.sendRecord, h0]

theorem Live.answerReq_frame (L : Live) (x : Req × Abort × Nat) :
    (Live.answerReq L x).mode = L.mode ∧
    (Live.answerReq L x).pins = L.pins ∧
    (Live.answerReq L x).time = L.time ∧
    (Live.answerReq L x).rcd = L.rcd ∧
    (Live.answerReq L x).saf = L.saf ∧
    (Live.answerReq L x).seg = L.seg ∧
    (Live.answerReq L x).node = L.node ∧
    (Live.answerReq L x).conv = L.conv ∧
    (Live.answerReq L x).eng = L.eng ∧
    (Live.answerReq L x).chi = L.chi ∧
    (Live.answerReq L x).cap = L.cap ∧
    (Live.answerReq L x).est = L.est ∧
    (Live.answerReq L x).th = L.th ∧
    (Live.answerReq L x).lgc = L.lgc ∧
    (Live.answerReq L x).upd = L.upd ∧
    (Live.answerReq L x).jrn = L.jrn ∧
    (Live.answerReq L x).ret = L.ret ∧
    (Live.answerReq L x).obj = L.obj ∧
    (Live.answerReq L x).blob = L.blob ∧
    (Live.answerReq L x).free = L.free := by
  have h0 := @Live.answerVia_frame
  have h1 := @Live.accept_frame
  have h2 := @Live.refuseEntry_frame
  have h3 := @Live.refuse_frame
  simp [Live.answerReq, h0, h1, h2, h3]

theorem Live.sendPdos_frame (old new L : Live) :
    (Live.sendPdos old new L).mode = L.mode ∧
    (Live.sendPdos old new L).pins = L.pins ∧
    (Live.sendPdos old new L).time = L.time ∧
    (Live.sendPdos old new L).ks = L.ks ∧
    (Live.sendPdos old new L).saf = L.saf ∧
    (Live.sendPdos old new L).seg = L.seg ∧
    (Live.sendPdos old new L).node = L.node ∧
    (Live.sendPdos old new L).conv = L.conv ∧
    (Live.sendPdos old new L).twin = L.twin ∧
    (Live.sendPdos old new L).eng = L.eng ∧
    (Live.sendPdos old new L).chi = L.chi ∧
    (Live.sendPdos old new L).est = L.est ∧
    (Live.sendPdos old new L).th = L.th ∧
    (Live.sendPdos old new L).mgr = L.mgr ∧
    (Live.sendPdos old new L).lgc = L.lgc ∧
    (Live.sendPdos old new L).upd = L.upd ∧
    (Live.sendPdos old new L).jrn = L.jrn ∧
    (Live.sendPdos old new L).ret = L.ret ∧
    (Live.sendPdos old new L).blob = L.blob ∧
    (Live.sendPdos old new L).out = L.out ∧
    (Live.sendPdos old new L).free = L.free := by
  simp [Live.sendPdos]

theorem Live.startTransfer_frame (L : Live) :
    (Live.startTransfer L).mode = L.mode ∧
    (Live.startTransfer L).pins = L.pins ∧
    (Live.startTransfer L).time = L.time ∧
    (Live.startTransfer L).ks = L.ks ∧
    (Live.startTransfer L).saf = L.saf ∧
    (Live.startTransfer L).seg = L.seg ∧
    (Live.startTransfer L).node = L.node ∧
    (Live.startTransfer L).conv = L.conv ∧
    (Live.startTransfer L).eng = L.eng ∧
    (Live.startTransfer L).chi = L.chi ∧
    (Live.startTransfer L).est = L.est ∧
    (Live.startTransfer L).th = L.th ∧
    (Live.startTransfer L).mgr = L.mgr ∧
    (Live.startTransfer L).lgc = L.lgc ∧
    (Live.startTransfer L).upd = L.upd ∧
    (Live.startTransfer L).jrn = L.jrn ∧
    (Live.startTransfer L).ret = L.ret ∧
    (Live.startTransfer L).obj = L.obj ∧
    (Live.startTransfer L).blob = L.blob ∧
    (Live.startTransfer L).out = L.out ∧
    (Live.startTransfer L).free = L.free := by
  have h0 := @Live.toPartner_frame
  have h1 := @Live.twinEv_frame
  simp [Live.startTransfer, h0, h1]

theorem Live.courseEnd_frame (old snap L : Live) :
    (Live.courseEnd old snap L).node = L.node ∧
    (Live.courseEnd old snap L).ret = L.ret ∧
    (Live.courseEnd old snap L).free = L.free := by
  have h0 := @Live.sendPdos_frame
  have h1 := @Live.startTransfer_frame
  have h2 := @Live.noticeWatch_frame
  have h3 := @Live.updLead_frame
  have h4 := @Live.updateTurn_frame
  have h5 := @Live.logicCourse_frame
  simp [Live.courseEnd, h0, h1, h2, h3, h4, h5]

end Sys2Proof.Machine
end

