-- ==== Sys2Proof/Laws/FrameConv.lean ====
section
/-! SUPPORT. What each operation of Machine/Conv.lean leaves as it is. -/

namespace Sys2Proof.Machine

open Sys2Proof

theorem Live.setPhase_frame (L : Live) (n : Nat) :
    (Live.setPhase L n).mode = L.mode ∧
    (Live.setPhase L n).pins = L.pins ∧
    (Live.setPhase L n).time = L.time ∧
    (Live.setPhase L n).ks = L.ks ∧
    (Live.setPhase L n).rcd = L.rcd ∧
    (Live.setPhase L n).saf = L.saf ∧
    (Live.setPhase L n).seg = L.seg ∧
    (Live.setPhase L n).node = L.node ∧
    (Live.setPhase L n).twin = L.twin ∧
    (Live.setPhase L n).eng = L.eng ∧
    (Live.setPhase L n).chi = L.chi ∧
    (Live.setPhase L n).cap = L.cap ∧
    (Live.setPhase L n).est = L.est ∧
    (Live.setPhase L n).th = L.th ∧
    (Live.setPhase L n).com = L.com ∧
    (Live.setPhase L n).mgr = L.mgr ∧
    (Live.setPhase L n).lgc = L.lgc ∧
    (Live.setPhase L n).upd = L.upd ∧
    (Live.setPhase L n).jrn = L.jrn ∧
    (Live.setPhase L n).dbg = L.dbg ∧
    (Live.setPhase L n).ret = L.ret ∧
    (Live.setPhase L n).obj = L.obj ∧
    (Live.setPhase L n).blob = L.blob ∧
    (Live.setPhase L n).out = L.out ∧
    (Live.setPhase L n).free = L.free := by
  simp [Live.setPhase]

theorem Live.modeAtT9_frame (L : Live) :
    (Live.modeAtT9 L).mode = L.mode ∧
    (Live.modeAtT9 L).pins = L.pins ∧
    (Live.modeAtT9 L).time = L.time ∧
    (Live.modeAtT9 L).ks = L.ks ∧
    (Live.modeAtT9 L).saf = L.saf ∧
    (Live.modeAtT9 L).seg = L.seg ∧
    (Live.modeAtT9 L).node = L.node ∧
    (Live.modeAtT9 L).twin = L.twin ∧
    (Live.modeAtT9 L).eng = L.eng ∧
    (Live.modeAtT9 L).chi = L.chi ∧
    (Live.modeAtT9 L).est = L.est ∧
    (Live.modeAtT9 L).th = L.th ∧
    (Live.modeAtT9 L).mgr = L.mgr ∧
    (Live.modeAtT9 L).lgc = L.lgc ∧
    (Live.modeAtT9 L).upd = L.upd ∧
    (Live.modeAtT9 L).jrn = L.jrn ∧
    (Live.modeAtT9 L).ret = L.ret ∧
    (Live.modeAtT9 L).obj = L.obj ∧
    (Live.modeAtT9 L).blob = L.blob ∧
    (Live.modeAtT9 L).out = L.out ∧
    (Live.modeAtT9 L).free = L.free := by
  have h0 := @Live.convEv_frame
  simp [Live.modeAtT9, h0]

theorem Live.joinQueue_frame (L : Live) (s : Nat) :
    (Live.joinQueue L s).mode = L.mode ∧
    (Live.joinQueue L s).pins = L.pins ∧
    (Live.joinQueue L s).time = L.time ∧
    (Live.joinQueue L s).ks = L.ks ∧
    (Live.joinQueue L s).saf = L.saf ∧
    (Live.joinQueue L s).node = L.node ∧
    (Live.joinQueue L s).twin = L.twin ∧
    (Live.joinQueue L s).eng = L.eng ∧
    (Live.joinQueue L s).chi = L.chi ∧
    (Live.joinQueue L s).est = L.est ∧
    (Live.joinQueue L s).th = L.th ∧
    (Live.joinQueue L s).mgr = L.mgr ∧
    (Live.joinQueue L s).lgc = L.lgc ∧
    (Live.joinQueue L s).upd = L.upd ∧
    (Live.joinQueue L s).jrn = L.jrn ∧
    (Live.joinQueue L s).ret = L.ret ∧
    (Live.joinQueue L s).obj = L.obj ∧
    (Live.joinQueue L s).blob = L.blob ∧
    (Live.joinQueue L s).out = L.out ∧
    (Live.joinQueue L s).free = L.free := by
  have h0 := @Live.convSegEv_frame
  have h1 := @Live.modSeg_frame
  simp [Live.joinQueue, h0, h1]

theorem Live.ageTick_frame (L : Live) (s : Nat) :
    (Live.ageTick L s).mode = L.mode ∧
    (Live.ageTick L s).pins = L.pins ∧
    (Live.ageTick L s).time = L.time ∧
    (Live.ageTick L s).ks = L.ks ∧
    (Live.ageTick L s).saf = L.saf ∧
    (Live.ageTick L s).node = L.node ∧
    (Live.ageTick L s).twin = L.twin ∧
    (Live.ageTick L s).eng = L.eng ∧
    (Live.ageTick L s).chi = L.chi ∧
    (Live.ageTick L s).est = L.est ∧
    (Live.ageTick L s).th = L.th ∧
    (Live.ageTick L s).mgr = L.mgr ∧
    (Live.ageTick L s).lgc = L.lgc ∧
    (Live.ageTick L s).upd = L.upd ∧
    (Live.ageTick L s).jrn = L.jrn ∧
    (Live.ageTick L s).ret = L.ret ∧
    (Live.ageTick L s).obj = L.obj ∧
    (Live.ageTick L s).blob = L.blob ∧
    (Live.ageTick L s).out = L.out ∧
    (Live.ageTick L s).free = L.free := by
  have h0 := @Live.modSeg_frame
  have h1 := @Live.joinQueue_frame
  simp [Live.ageTick, h0, h1]

theorem Live.ratioCheck_frame (L : Live) (s : Nat) :
    (Live.ratioCheck L s).mode = L.mode ∧
    (Live.ratioCheck L s).pins = L.pins ∧
    (Live.ratioCheck L s).time = L.time ∧
    (Live.ratioCheck L s).ks = L.ks ∧
    (Live.ratioCheck L s).saf = L.saf ∧
    (Live.ratioCheck L s).node = L.node ∧
    (Live.ratioCheck L s).conv = L.conv ∧
    (Live.ratioCheck L s).twin = L.twin ∧
    (Live.ratioCheck L s).eng = L.eng ∧
    (Live.ratioCheck L s).chi = L.chi ∧
    (Live.ratioCheck L s).est = L.est ∧
    (Live.ratioCheck L s).th = L.th ∧
    (Live.ratioCheck L s).mgr = L.mgr ∧
    (Live.ratioCheck L s).lgc = L.lgc ∧
    (Live.ratioCheck L s).upd = L.upd ∧
    (Live.ratioCheck L s).jrn = L.jrn ∧
    (Live.ratioCheck L s).ret = L.ret ∧
    (Live.ratioCheck L s).obj = L.obj ∧
    (Live.ratioCheck L s).blob = L.blob ∧
    (Live.ratioCheck L s).out = L.out ∧
    (Live.ratioCheck L s).free = L.free := by
  have h0 := @Live.modSeg_frame
  simp [Live.ratioCheck, h0]

end Sys2Proof.Machine
end

