-- ==== Sys2Proof/Laws/FrameTwinFrame.lean ====
section
/-! SUPPORT. What each operation of Machine/TwinFrame.lean leaves as it is. -/

namespace Sys2Proof.Machine

open Sys2Proof

theorem Live.sayIdentity_frame (L : Live) :
    (Live.sayIdentity L).mode = L.mode ∧
    (Live.sayIdentity L).pins = L.pins ∧
    (Live.sayIdentity L).time = L.time ∧
    (Live.sayIdentity L).ks = L.ks ∧
    (Live.sayIdentity L).rcd = L.rcd ∧
    (Live.sayIdentity L).saf = L.saf ∧
    (Live.sayIdentity L).seg = L.seg ∧
    (Live.sayIdentity L).node = L.node ∧
    (Live.sayIdentity L).conv = L.conv ∧
    (Live.sayIdentity L).eng = L.eng ∧
    (Live.sayIdentity L).chi = L.chi ∧
    (Live.sayIdentity L).cap = L.cap ∧
    (Live.sayIdentity L).est = L.est ∧
    (Live.sayIdentity L).th = L.th ∧
    (Live.sayIdentity L).com = L.com ∧
    (Live.sayIdentity L).mgr = L.mgr ∧
    (Live.sayIdentity L).lgc = L.lgc ∧
    (Live.sayIdentity L).upd = L.upd ∧
    (Live.sayIdentity L).jrn = L.jrn ∧
    (Live.sayIdentity L).dbg = L.dbg ∧
    (Live.sayIdentity L).ret = L.ret ∧
    (Live.sayIdentity L).obj = L.obj ∧
    (Live.sayIdentity L).blob = L.blob ∧
    (Live.sayIdentity L).out = L.out ∧
    (Live.sayIdentity L).free = L.free := by
  have h0 := @Live.toPartner_frame
  simp [Live.sayIdentity, h0]

theorem Live.answerForwarded_frame (L : Live) (s : Sess) (k : Nat) (code : Abort) (pos : Nat) :
    (Live.answerForwarded L s k code pos).mode = L.mode ∧
    (Live.answerForwarded L s k code pos).pins = L.pins ∧
    (Live.answerForwarded L s k code pos).time = L.time ∧
    (Live.answerForwarded L s k code pos).rcd = L.rcd ∧
    (Live.answerForwarded L s k code pos).saf = L.saf ∧
    (Live.answerForwarded L s k code pos).seg = L.seg ∧
    (Live.answerForwarded L s k code pos).node = L.node ∧
    (Live.answerForwarded L s k code pos).conv = L.conv ∧
    (Live.answerForwarded L s k code pos).twin = L.twin ∧
    (Live.answerForwarded L s k code pos).eng = L.eng ∧
    (Live.answerForwarded L s k code pos).chi = L.chi ∧
    (Live.answerForwarded L s k code pos).cap = L.cap ∧
    (Live.answerForwarded L s k code pos).est = L.est ∧
    (Live.answerForwarded L s k code pos).th = L.th ∧
    (Live.answerForwarded L s k code pos).lgc = L.lgc ∧
    (Live.answerForwarded L s k code pos).upd = L.upd ∧
    (Live.answerForwarded L s k code pos).jrn = L.jrn ∧
    (Live.answerForwarded L s k code pos).ret = L.ret ∧
    (Live.answerForwarded L s k code pos).obj = L.obj ∧
    (Live.answerForwarded L s k code pos).blob = L.blob ∧
    (Live.answerForwarded L s k code pos).free = L.free := by
  have h0 := @Live.accept_frame
  have h1 := @Live.refuse_frame
  have h2 := @Live.refuseEntry_frame
  simp [Live.answerForwarded, h0, h1, h2]

theorem Live.answerRemote_frame (snap L : Live) (s : Sess) (k : Nat) :
    (Live.answerRemote snap L s k).mode = L.mode ∧
    (Live.answerRemote snap L s k).pins = L.pins ∧
    (Live.answerRemote snap L s k).time = L.time ∧
    (Live.answerRemote snap L s k).saf = L.saf ∧
    (Live.answerRemote snap L s k).seg = L.seg ∧
    (Live.answerRemote snap L s k).node = L.node ∧
    (Live.answerRemote snap L s k).conv = L.conv ∧
    (Live.answerRemote snap L s k).eng = L.eng ∧
    (Live.answerRemote snap L s k).chi = L.chi ∧
    (Live.answerRemote snap L s k).est = L.est ∧
    (Live.answerRemote snap L s k).th = L.th ∧
    (Live.answerRemote snap L s k).mgr = L.mgr ∧
    (Live.answerRemote snap L s k).lgc = L.lgc ∧
    (Live.answerRemote snap L s k).upd = L.upd ∧
    (Live.answerRemote snap L s k).jrn = L.jrn ∧
    (Live.answerRemote snap L s k).ret = L.ret ∧
    (Live.answerRemote snap L s k).blob = L.blob ∧
    (Live.answerRemote snap L s k).out = L.out ∧
    (Live.answerRemote snap L s k).free = L.free := by
  have h0 := @Live.toPartner_frame
  have h1 := @Live.readRecord_frame
  have h2 := @Live.touch_frame
  simp [Live.answerRemote, h0, h1, h2]

theorem Live.takeRequest_frame (L : Live) (d : Bytes) :
    (Live.takeRequest L d).mode = L.mode ∧
    (Live.takeRequest L d).pins = L.pins ∧
    (Live.takeRequest L d).time = L.time ∧
    (Live.takeRequest L d).rcd = L.rcd ∧
    (Live.takeRequest L d).saf = L.saf ∧
    (Live.takeRequest L d).seg = L.seg ∧
    (Live.takeRequest L d).node = L.node ∧
    (Live.takeRequest L d).conv = L.conv ∧
    (Live.takeRequest L d).eng = L.eng ∧
    (Live.takeRequest L d).chi = L.chi ∧
    (Live.takeRequest L d).cap = L.cap ∧
    (Live.takeRequest L d).est = L.est ∧
    (Live.takeRequest L d).th = L.th ∧
    (Live.takeRequest L d).lgc = L.lgc ∧
    (Live.takeRequest L d).upd = L.upd ∧
    (Live.takeRequest L d).jrn = L.jrn ∧
    (Live.takeRequest L d).ret = L.ret ∧
    (Live.takeRequest L d).obj = L.obj ∧
    (Live.takeRequest L d).blob = L.blob ∧
    (Live.takeRequest L d).free = L.free := by
  have h0 := @Live.writeAt_frame
  have h1 := @Live.touch_frame
  have h2 := @Live.queueDebug_frame
  simp [Live.takeRequest, h0, h1, h2]

theorem Live.takeReadItem_frame (snap L : Live) (d : Bytes) :
    (Live.takeReadItem snap L d).mode = L.mode ∧
    (Live.takeReadItem snap L d).pins = L.pins ∧
    (Live.takeReadItem snap L d).time = L.time ∧
    (Live.takeReadItem snap L d).saf = L.saf ∧
    (Live.takeReadItem snap L d).seg = L.seg ∧
    (Live.takeReadItem snap L d).node = L.node ∧
    (Live.takeReadItem snap L d).conv = L.conv ∧
    (Live.takeReadItem snap L d).eng = L.eng ∧
    (Live.takeReadItem snap L d).chi = L.chi ∧
    (Live.takeReadItem snap L d).est = L.est ∧
    (Live.takeReadItem snap L d).th = L.th ∧
    (Live.takeReadItem snap L d).lgc = L.lgc ∧
    (Live.takeReadItem snap L d).upd = L.upd ∧
    (Live.takeReadItem snap L d).jrn = L.jrn ∧
    (Live.takeReadItem snap L d).ret = L.ret ∧
    (Live.takeReadItem snap L d).blob = L.blob ∧
    (Live.takeReadItem snap L d).free = L.free := by
  have h0 := @Live.answerRemote_frame
  have h1 := @Live.answerRead_frame
  have h2 := @Live.answerForwarded_frame
  simp [Live.takeReadItem, h0, h1, h2]

theorem Live.mirrorDispatch_frame (L : Live) (b : Bytes) :
    (Live.mirrorDispatch L b).mode = L.mode ∧
    (Live.mirrorDispatch L b).pins = L.pins ∧
    (Live.mirrorDispatch L b).time = L.time ∧
    (Live.mirrorDispatch L b).ks = L.ks ∧
    (Live.mirrorDispatch L b).rcd = L.rcd ∧
    (Live.mirrorDispatch L b).saf = L.saf ∧
    (Live.mirrorDispatch L b).seg = L.seg ∧
    (Live.mirrorDispatch L b).node = L.node ∧
    (Live.mirrorDispatch L b).conv = L.conv ∧
    (Live.mirrorDispatch L b).twin = L.twin ∧
    (Live.mirrorDispatch L b).eng = L.eng ∧
    (Live.mirrorDispatch L b).chi = L.chi ∧
    (Live.mirrorDispatch L b).cap = L.cap ∧
    (Live.mirrorDispatch L b).est = L.est ∧
    (Live.mirrorDispatch L b).th = L.th ∧
    (Live.mirrorDispatch L b).com = L.com ∧
    (Live.mirrorDispatch L b).lgc = L.lgc ∧
    (Live.mirrorDispatch L b).upd = L.upd ∧
    (Live.mirrorDispatch L b).jrn = L.jrn ∧
    (Live.mirrorDispatch L b).dbg = L.dbg ∧
    (Live.mirrorDispatch L b).ret = L.ret ∧
    (Live.mirrorDispatch L b).obj = L.obj ∧
    (Live.mirrorDispatch L b).blob = L.blob ∧
    (Live.mirrorDispatch L b).out = L.out ∧
    (Live.mirrorDispatch L b).free = L.free := by
  simp [Live.mirrorDispatch]

theorem Live.takeMgrItem_frame (L : Live) (d : Bytes) :
    (Live.takeMgrItem L d).mode = L.mode ∧
    (Live.takeMgrItem L d).pins = L.pins ∧
    (Live.takeMgrItem L d).time = L.time ∧
    (Live.takeMgrItem L d).ks = L.ks ∧
    (Live.takeMgrItem L d).saf = L.saf ∧
    (Live.takeMgrItem L d).seg = L.seg ∧
    (Live.takeMgrItem L d).node = L.node ∧
    (Live.takeMgrItem L d).conv = L.conv ∧
    (Live.takeMgrItem L d).twin = L.twin ∧
    (Live.takeMgrItem L d).eng = L.eng ∧
    (Live.takeMgrItem L d).chi = L.chi ∧
    (Live.takeMgrItem L d).est = L.est ∧
    (Live.takeMgrItem L d).th = L.th ∧
    (Live.takeMgrItem L d).upd = L.upd ∧
    (Live.takeMgrItem L d).jrn = L.jrn ∧
    (Live.takeMgrItem L d).ret = L.ret ∧
    (Live.takeMgrItem L d).obj = L.obj ∧
    (Live.takeMgrItem L d).blob = L.blob ∧
    (Live.takeMgrItem L d).out = L.out ∧
    (Live.takeMgrItem L d).free = L.free := by
  have h0 := @Live.holdSnapshot_frame
  have h1 := @Live.mirrorDispatch_frame
  have h2 := @Live.holdSummary_frame
  have h3 := @Live.modLgc_frame
  simp [Live.takeMgrItem, h0, h1, h2, h3]

theorem Live.takeEntry_frame (L : Live) (d : Bytes) :
    (Live.takeEntry L d).time = L.time ∧
    (Live.takeEntry L d).ks = L.ks ∧
    (Live.takeEntry L d).seg = L.seg ∧
    (Live.takeEntry L d).node = L.node ∧
    (Live.takeEntry L d).eng = L.eng ∧
    (Live.takeEntry L d).est = L.est ∧
    (Live.takeEntry L d).th = L.th ∧
    (Live.takeEntry L d).mgr = L.mgr ∧
    (Live.takeEntry L d).lgc = L.lgc ∧
    (Live.takeEntry L d).ret = L.ret ∧
    (Live.takeEntry L d).blob = L.blob ∧
    (Live.takeEntry L d).free = L.free := by
  have h0 := @Live.jdone_frame
  have h1 := @Live.jwrite_frame
  simp only [Live.takeEntry]
  (repeat' split) <;> simp [h0, h1]

theorem Live.takeIdentity7_frame (L : Live) (d : Bytes) :
    (Live.takeIdentity7 L d).mode = L.mode ∧
    (Live.takeIdentity7 L d).pins = L.pins ∧
    (Live.takeIdentity7 L d).time = L.time ∧
    (Live.takeIdentity7 L d).ks = L.ks ∧
    (Live.takeIdentity7 L d).saf = L.saf ∧
    (Live.takeIdentity7 L d).seg = L.seg ∧
    (Live.takeIdentity7 L d).node = L.node ∧
    (Live.takeIdentity7 L d).conv = L.conv ∧
    (Live.takeIdentity7 L d).eng = L.eng ∧
    (Live.takeIdentity7 L d).chi = L.chi ∧
    (Live.takeIdentity7 L d).est = L.est ∧
    (Live.takeIdentity7 L d).th = L.th ∧
    (Live.takeIdentity7 L d).mgr = L.mgr ∧
    (Live.takeIdentity7 L d).lgc = L.lgc ∧
    (Live.takeIdentity7 L d).upd = L.upd ∧
    (Live.takeIdentity7 L d).jrn = L.jrn ∧
    (Live.takeIdentity7 L d).ret = L.ret ∧
    (Live.takeIdentity7 L d).obj = L.obj ∧
    (Live.takeIdentity7 L d).blob = L.blob ∧
    (Live.takeIdentity7 L d).out = L.out ∧
    (Live.takeIdentity7 L d).free = L.free := by
  have h0 := @Live.twinEv_frame
  simp only [Live.takeIdentity7]
  (repeat' split) <;> simp [h0]

theorem Live.endFollow_frame (L : Live) :
    (Live.endFollow L).mode = L.mode ∧
    (Live.endFollow L).pins = L.pins ∧
    (Live.endFollow L).time = L.time ∧
    (Live.endFollow L).ks = L.ks ∧
    (Live.endFollow L).rcd = L.rcd ∧
    (Live.endFollow L).saf = L.saf ∧
    (Live.endFollow L).seg = L.seg ∧
    (Live.endFollow L).node = L.node ∧
    (Live.endFollow L).conv = L.conv ∧
    (Live.endFollow L).twin = L.twin ∧
    (Live.endFollow L).eng = L.eng ∧
    (Live.endFollow L).chi = L.chi ∧
    (Live.endFollow L).cap = L.cap ∧
    (Live.endFollow L).est = L.est ∧
    (Live.endFollow L).th = L.th ∧
    (Live.endFollow L).com = L.com ∧
    (Live.endFollow L).mgr = L.mgr ∧
    (Live.endFollow L).lgc = L.lgc ∧
    (Live.endFollow L).upd = L.upd ∧
    (Live.endFollow L).jrn = L.jrn ∧
    (Live.endFollow L).dbg = L.dbg ∧
    (Live.endFollow L).ret = L.ret ∧
    (Live.endFollow L).blob = L.blob ∧
    (Live.endFollow L).out = L.out ∧
    (Live.endFollow L).free = L.free := by
  simp [Live.endFollow]

theorem Live.endTheirDebug_frame (L : Live) :
    (Live.endTheirDebug L).mode = L.mode ∧
    (Live.endTheirDebug L).pins = L.pins ∧
    (Live.endTheirDebug L).time = L.time ∧
    (Live.endTheirDebug L).rcd = L.rcd ∧
    (Live.endTheirDebug L).saf = L.saf ∧
    (Live.endTheirDebug L).seg = L.seg ∧
    (Live.endTheirDebug L).node = L.node ∧
    (Live.endTheirDebug L).conv = L.conv ∧
    (Live.endTheirDebug L).twin = L.twin ∧
    (Live.endTheirDebug L).eng = L.eng ∧
    (Live.endTheirDebug L).chi = L.chi ∧
    (Live.endTheirDebug L).cap = L.cap ∧
    (Live.endTheirDebug L).est = L.est ∧
    (Live.endTheirDebug L).th = L.th ∧
    (Live.endTheirDebug L).com = L.com ∧
    (Live.endTheirDebug L).mgr = L.mgr ∧
    (Live.endTheirDebug L).lgc = L.lgc ∧
    (Live.endTheirDebug L).upd = L.upd ∧
    (Live.endTheirDebug L).jrn = L.jrn ∧
    (Live.endTheirDebug L).dbg = L.dbg ∧
    (Live.endTheirDebug L).ret = L.ret ∧
    (Live.endTheirDebug L).obj = L.obj ∧
    (Live.endTheirDebug L).blob = L.blob ∧
    (Live.endTheirDebug L).out = L.out ∧
    (Live.endTheirDebug L).free = L.free := by
  have h0 := @Live.queueWrite_frame
  simp only [Live.endTheirDebug]
  (repeat' split) <;> simp [h0]

theorem Live.answerLost_frame (L : Live) :
    (Live.answerLost L).mode = L.mode ∧
    (Live.answerLost L).pins = L.pins ∧
    (Live.answerLost L).time = L.time ∧
    (Live.answerLost L).rcd = L.rcd ∧
    (Live.answerLost L).saf = L.saf ∧
    (Live.answerLost L).seg = L.seg ∧
    (Live.answerLost L).node = L.node ∧
    (Live.answerLost L).conv = L.conv ∧
    (Live.answerLost L).twin = L.twin ∧
    (Live.answerLost L).eng = L.eng ∧
    (Live.answerLost L).chi = L.chi ∧
    (Live.answerLost L).cap = L.cap ∧
    (Live.answerLost L).est = L.est ∧
    (Live.answerLost L).th = L.th ∧
    (Live.answerLost L).lgc = L.lgc ∧
    (Live.answerLost L).upd = L.upd ∧
    (Live.answerLost L).jrn = L.jrn ∧
    (Live.answerLost L).ret = L.ret ∧
    (Live.answerLost L).obj = L.obj ∧
    (Live.answerLost L).blob = L.blob ∧
    (Live.answerLost L).free = L.free := by
  have h0 := @Live.answerForwarded_frame
  have h1 := @Live.endTheirDebug_frame
  simp [Live.answerLost, h0, h1]

theorem Live.partnerGone_frame (L : Live) :
    (Live.partnerGone L).mode = L.mode ∧
    (Live.partnerGone L).pins = L.pins ∧
    (Live.partnerGone L).time = L.time ∧
    (Live.partnerGone L).ks = L.ks ∧
    (Live.partnerGone L).rcd = L.rcd ∧
    (Live.partnerGone L).seg = L.seg ∧
    (Live.partnerGone L).node = L.node ∧
    (Live.partnerGone L).conv = L.conv ∧
    (Live.partnerGone L).eng = L.eng ∧
    (Live.partnerGone L).chi = L.chi ∧
    (Live.partnerGone L).cap = L.cap ∧
    (Live.partnerGone L).est = L.est ∧
    (Live.partnerGone L).th = L.th ∧
    (Live.partnerGone L).com = L.com ∧
    (Live.partnerGone L).mgr = L.mgr ∧
    (Live.partnerGone L).lgc = L.lgc ∧
    (Live.partnerGone L).upd = L.upd ∧
    (Live.partnerGone L).jrn = L.jrn ∧
    (Live.partnerGone L).dbg = L.dbg ∧
    (Live.partnerGone L).ret = L.ret ∧
    (Live.partnerGone L).blob = L.blob ∧
    (Live.partnerGone L).out = L.out ∧
    (Live.partnerGone L).free = L.free := by
  have h0 := @Live.endFollow_frame
  simp [Live.partnerGone, h0]

theorem Live.startCheck_frame (L : Live) (kind : Nat) :
    (Live.startCheck L kind).mode = L.mode ∧
    (Live.startCheck L kind).pins = L.pins ∧
    (Live.startCheck L kind).time = L.time ∧
    (Live.startCheck L kind).ks = L.ks ∧
    (Live.startCheck L kind).saf = L.saf ∧
    (Live.startCheck L kind).seg = L.seg ∧
    (Live.startCheck L kind).node = L.node ∧
    (Live.startCheck L kind).conv = L.conv ∧
    (Live.startCheck L kind).eng = L.eng ∧
    (Live.startCheck L kind).chi = L.chi ∧
    (Live.startCheck L kind).est = L.est ∧
    (Live.startCheck L kind).th = L.th ∧
    (Live.startCheck L kind).mgr = L.mgr ∧
    (Live.startCheck L kind).lgc = L.lgc ∧
    (Live.startCheck L kind).upd = L.upd ∧
    (Live.startCheck L kind).jrn = L.jrn ∧
    (Live.startCheck L kind).ret = L.ret ∧
    (Live.startCheck L kind).obj = L.obj ∧
    (Live.startCheck L kind).blob = L.blob ∧
    (Live.startCheck L kind).out = L.out ∧
    (Live.startCheck L kind).free = L.free := by
  have h0 := @Live.twinEv_frame
  simp [Live.startCheck, h0]

theorem Live.takeNotice_frame (L : Live) (d : Bytes) :
    (Live.takeNotice L d).mode = L.mode ∧
    (Live.takeNotice L d).pins = L.pins ∧
    (Live.takeNotice L d).time = L.time ∧
    (Live.takeNotice L d).seg = L.seg ∧
    (Live.takeNotice L d).node = L.node ∧
    (Live.takeNotice L d).conv = L.conv ∧
    (Live.takeNotice L d).eng = L.eng ∧
    (Live.takeNotice L d).chi = L.chi ∧
    (Live.takeNotice L d).est = L.est ∧
    (Live.takeNotice L d).th = L.th ∧
    (Live.takeNotice L d).lgc = L.lgc ∧
    (Live.takeNotice L d).jrn = L.jrn ∧
    (Live.takeNotice L d).ret = L.ret ∧
    (Live.takeNotice L d).blob = L.blob ∧
    (Live.takeNotice L d).free = L.free := by
  have h0 := @Live.takeIdentity7_frame
  have h1 := @Live.startCheck_frame
  have h2 := @Live.answerLost_frame
  have h3 := @Live.partnerGone_frame
  have h4 := @Live.leaveStep_frame
  have h5 := @Live.partnerConfirms_frame
  have h6 := @Live.partnerFellBack_frame
  simp only [Live.takeNotice]
  (repeat' split) <;> simp [h0, h1, h2, h3, h4, h5, h6]

theorem Live.takeVerdicts_frame (L : Live) (d : Bytes) :
    (Live.takeVerdicts L d).mode = L.mode ∧
    (Live.takeVerdicts L d).pins = L.pins ∧
    (Live.takeVerdicts L d).time = L.time ∧
    (Live.takeVerdicts L d).ks = L.ks ∧
    (Live.takeVerdicts L d).rcd = L.rcd ∧
    (Live.takeVerdicts L d).saf = L.saf ∧
    (Live.takeVerdicts L d).seg = L.seg ∧
    (Live.takeVerdicts L d).node = L.node ∧
    (Live.takeVerdicts L d).conv = L.conv ∧
    (Live.takeVerdicts L d).eng = L.eng ∧
    (Live.takeVerdicts L d).chi = L.chi ∧
    (Live.takeVerdicts L d).cap = L.cap ∧
    (Live.takeVerdicts L d).est = L.est ∧
    (Live.takeVerdicts L d).th = L.th ∧
    (Live.takeVerdicts L d).com = L.com ∧
    (Live.takeVerdicts L d).mgr = L.mgr ∧
    (Live.takeVerdicts L d).lgc = L.lgc ∧
    (Live.takeVerdicts L d).upd = L.upd ∧
    (Live.takeVerdicts L d).jrn = L.jrn ∧
    (Live.takeVerdicts L d).dbg = L.dbg ∧
    (Live.takeVerdicts L d).ret = L.ret ∧
    (Live.takeVerdicts L d).obj = L.obj ∧
    (Live.takeVerdicts L d).blob = L.blob ∧
    (Live.takeVerdicts L d).out = L.out ∧
    (Live.takeVerdicts L d).free = L.free := by
  simp [Live.takeVerdicts]

theorem Live.takeItem_frame (snap L : Live) (c : Nat) (d : Bytes) :
    (Live.takeItem snap L c d).time = L.time ∧
    (Live.takeItem snap L c d).seg = L.seg ∧
    (Live.takeItem snap L c d).node = L.node ∧
    (Live.takeItem snap L c d).eng = L.eng ∧
    (Live.takeItem snap L c d).est = L.est ∧
    (Live.takeItem snap L c d).th = L.th ∧
    (Live.takeItem snap L c d).ret = L.ret ∧
    (Live.takeItem snap L c d).blob = L.blob ∧
    (Live.takeItem snap L c d).free = L.free := by
  have h0 := @Live.takeRequest_frame
  have h1 := @Live.takeVerdicts_frame
  have h2 := @Live.takeReadItem_frame
  have h3 := @Live.takeMgrItem_frame
  have h4 := @Live.takeEntry_frame
  have h5 := @Live.takeNotice_frame
  simp only [Live.takeItem]
  (repeat' split) <;> simp [h0, h1, h2, h3, h4, h5]

theorem Live.takeBulk_frame (snap L : Live) (f : Bytes) :
    (Live.takeBulk snap L f).time = L.time ∧
    (Live.takeBulk snap L f).seg = L.seg ∧
    (Live.takeBulk snap L f).node = L.node ∧
    (Live.takeBulk snap L f).eng = L.eng ∧
    (Live.takeBulk snap L f).est = L.est ∧
    (Live.takeBulk snap L f).th = L.th ∧
    (Live.takeBulk snap L f).ret = L.ret ∧
    (Live.takeBulk snap L f).blob = L.blob ∧
    (Live.takeBulk snap L f).free = L.free := by
  have h0 := @Live.takeItem_frame
  simp only [Live.takeBulk]
  (repeat' split) <;> simp [h0]

end Sys2Proof.Machine
end

