-- ==== Sys2Proof/Laws/FrameDebug.lean ====
section
/-! SUPPORT. What each operation of Machine/Debug.lean leaves as it is. -/

namespace Sys2Proof.Machine

open Sys2Proof

theorem Live.respond_frame (L : Live) (tag : Byte) (status : Nat) (payload : Bytes) :
    (Live.respond L tag status payload).mode = L.mode ∧
    (Live.respond L tag status payload).pins = L.pins ∧
    (Live.respond L tag status payload).time = L.time ∧
    (Live.respond L tag status payload).ks = L.ks ∧
    (Live.respond L tag status payload).rcd = L.rcd ∧
    (Live.respond L tag status payload).saf = L.saf ∧
    (Live.respond L tag status payload).seg = L.seg ∧
    (Live.respond L tag status payload).node = L.node ∧
    (Live.respond L tag status payload).conv = L.conv ∧
    (Live.respond L tag status payload).twin = L.twin ∧
    (Live.respond L tag status payload).eng = L.eng ∧
    (Live.respond L tag status payload).chi = L.chi ∧
    (Live.respond L tag status payload).cap = L.cap ∧
    (Live.respond L tag status payload).est = L.est ∧
    (Live.respond L tag status payload).th = L.th ∧
    (Live.respond L tag status payload).com = L.com ∧
    (Live.respond L tag status payload).mgr = L.mgr ∧
    (Live.respond L tag status payload).lgc = L.lgc ∧
    (Live.respond L tag status payload).upd = L.upd ∧
    (Live.respond L tag status payload).jrn = L.jrn ∧
    (Live.respond L tag status payload).dbg = L.dbg ∧
    (Live.respond L tag status payload).ret = L.ret ∧
    (Live.respond L tag status payload).obj = L.obj ∧
    (Live.respond L tag status payload).blob = L.blob ∧
    (Live.respond L tag status payload).free = L.free := by
  simp [Live.respond]

theorem Live.awaits_frame (L : Live) (tag : Byte) :
    (Live.awaits L tag).mode = L.mode ∧
    (Live.awaits L tag).pins = L.pins ∧
    (Live.awaits L tag).time = L.time ∧
    (Live.awaits L tag).ks = L.ks ∧
    (Live.awaits L tag).rcd = L.rcd ∧
    (Live.awaits L tag).saf = L.saf ∧
    (Live.awaits L tag).seg = L.seg ∧
    (Live.awaits L tag).node = L.node ∧
    (Live.awaits L tag).conv = L.conv ∧
    (Live.awaits L tag).twin = L.twin ∧
    (Live.awaits L tag).eng = L.eng ∧
    (Live.awaits L tag).chi = L.chi ∧
    (Live.awaits L tag).cap = L.cap ∧
    (Live.awaits L tag).est = L.est ∧
    (Live.awaits L tag).th = L.th ∧
    (Live.awaits L tag).com = L.com ∧
    (Live.awaits L tag).mgr = L.mgr ∧
    (Live.awaits L tag).lgc = L.lgc ∧
    (Live.awaits L tag).upd = L.upd ∧
    (Live.awaits L tag).jrn = L.jrn ∧
    (Live.awaits L tag).ret = L.ret ∧
    (Live.awaits L tag).obj = L.obj ∧
    (Live.awaits L tag).blob = L.blob ∧
    (Live.awaits L tag).out = L.out ∧
    (Live.awaits L tag).free = L.free := by
  simp [Live.awaits]

theorem Live.commitLater_frame (L : Live) (tag : Byte) (k : Nat) (v : Bytes) :
    (Live.commitLater L tag k v).mode = L.mode ∧
    (Live.commitLater L tag k v).pins = L.pins ∧
    (Live.commitLater L tag k v).time = L.time ∧
    (Live.commitLater L tag k v).rcd = L.rcd ∧
    (Live.commitLater L tag k v).saf = L.saf ∧
    (Live.commitLater L tag k v).seg = L.seg ∧
    (Live.commitLater L tag k v).node = L.node ∧
    (Live.commitLater L tag k v).conv = L.conv ∧
    (Live.commitLater L tag k v).eng = L.eng ∧
    (Live.commitLater L tag k v).chi = L.chi ∧
    (Live.commitLater L tag k v).cap = L.cap ∧
    (Live.commitLater L tag k v).est = L.est ∧
    (Live.commitLater L tag k v).th = L.th ∧
    (Live.commitLater L tag k v).com = L.com ∧
    (Live.commitLater L tag k v).mgr = L.mgr ∧
    (Live.commitLater L tag k v).lgc = L.lgc ∧
    (Live.commitLater L tag k v).upd = L.upd ∧
    (Live.commitLater L tag k v).jrn = L.jrn ∧
    (Live.commitLater L tag k v).ret = L.ret ∧
    (Live.commitLater L tag k v).obj = L.obj ∧
    (Live.commitLater L tag k v).blob = L.blob ∧
    (Live.commitLater L tag k v).free = L.free := by
  have h0 := @Live.passOn_frame
  have h1 := @Live.awaits_frame
  have h2 := @Live.queueDebug_frame
  have h3 := @Live.respond_frame
  simp [Live.commitLater, h0, h1, h2, h3]

theorem Live.endDebug_frame (L : Live) (cause : Nat) :
    (Live.endDebug L cause).mode = L.mode ∧
    (Live.endDebug L cause).pins = L.pins ∧
    (Live.endDebug L cause).time = L.time ∧
    (Live.endDebug L cause).saf = L.saf ∧
    (Live.endDebug L cause).seg = L.seg ∧
    (Live.endDebug L cause).node = L.node ∧
    (Live.endDebug L cause).conv = L.conv ∧
    (Live.endDebug L cause).eng = L.eng ∧
    (Live.endDebug L cause).chi = L.chi ∧
    (Live.endDebug L cause).est = L.est ∧
    (Live.endDebug L cause).th = L.th ∧
    (Live.endDebug L cause).mgr = L.mgr ∧
    (Live.endDebug L cause).lgc = L.lgc ∧
    (Live.endDebug L cause).upd = L.upd ∧
    (Live.endDebug L cause).jrn = L.jrn ∧
    (Live.endDebug L cause).ret = L.ret ∧
    (Live.endDebug L cause).obj = L.obj ∧
    (Live.endDebug L cause).blob = L.blob ∧
    (Live.endDebug L cause).out = L.out ∧
    (Live.endDebug L cause).free = L.free := by
  have h0 := @Live.endSession_frame
  have h1 := @Live.forward_frame
  have h2 := @Live.queueDebug_frame
  simp [Live.endDebug, h0, h1, h2]

theorem Live.newNonce_frame (L : Live) :
    (Live.newNonce L).mode = L.mode ∧
    (Live.newNonce L).pins = L.pins ∧
    (Live.newNonce L).time = L.time ∧
    (Live.newNonce L).ks = L.ks ∧
    (Live.newNonce L).rcd = L.rcd ∧
    (Live.newNonce L).saf = L.saf ∧
    (Live.newNonce L).seg = L.seg ∧
    (Live.newNonce L).node = L.node ∧
    (Live.newNonce L).conv = L.conv ∧
    (Live.newNonce L).twin = L.twin ∧
    (Live.newNonce L).eng = L.eng ∧
    (Live.newNonce L).chi = L.chi ∧
    (Live.newNonce L).cap = L.cap ∧
    (Live.newNonce L).est = L.est ∧
    (Live.newNonce L).th = L.th ∧
    (Live.newNonce L).com = L.com ∧
    (Live.newNonce L).mgr = L.mgr ∧
    (Live.newNonce L).lgc = L.lgc ∧
    (Live.newNonce L).upd = L.upd ∧
    (Live.newNonce L).jrn = L.jrn ∧
    (Live.newNonce L).ret = L.ret ∧
    (Live.newNonce L).obj = L.obj ∧
    (Live.newNonce L).blob = L.blob ∧
    (Live.newNonce L).out = L.out := by
  simp [Live.newNonce]

end Sys2Proof.Machine
end

