-- ==== Sys2Proof/Laws/FramePower.lean ====
section
/-! SUPPORT. What each operation of Machine/Power.lean leaves as it is. -/

namespace Sys2Proof.Machine

open Sys2Proof

theorem Live.auxLost_frame (L : Live) :
    (Live.auxLost L).time = L.time ∧
    (Live.auxLost L).ks = L.ks ∧
    (Live.auxLost L).seg = L.seg ∧
    (Live.auxLost L).node = L.node ∧
    (Live.auxLost L).eng = L.eng ∧
    (Live.auxLost L).est = L.est ∧
    (Live.auxLost L).th = L.th ∧
    (Live.auxLost L).mgr = L.mgr ∧
    (Live.auxLost L).lgc = L.lgc ∧
    (Live.auxLost L).upd = L.upd ∧
    (Live.auxLost L).jrn = L.jrn ∧
    (Live.auxLost L).ret = L.ret ∧
    (Live.auxLost L).blob = L.blob ∧
    (Live.auxLost L).free = L.free := by
  have h0 := @Live.openLoop_frame
  have h1 := @Live.requestHandover_frame
  have h2 := @Live.supplyLossSafe_frame
  simp [Live.auxLost, h0, h1, h2]

end Sys2Proof.Machine
end

