-- ==== Sys2Proof/Laws/FrameSafRows.lean ====
section
/-! SUPPORT. What each operation of Machine/SafRows.lean leaves as it is. -/

namespace Sys2Proof.Machine

open Sys2Proof

theorem Live.heartbeatWord_frame (L : Live) (beat : Option Nat) :
    (Live.heartbeatWord L beat).time = L.time ∧
    (Live.heartbeatWord L beat).ks = L.ks ∧
    (Live.heartbeatWord L beat).seg = L.seg ∧
    (Live.heartbeatWord L beat).node = L.node ∧
    (Live.heartbeatWord L beat).eng = L.eng ∧
    (Live.heartbeatWord L beat).est = L.est ∧
    (Live.heartbeatWord L beat).th = L.th ∧
    (Live.heartbeatWord L beat).mgr = L.mgr ∧
    (Live.heartbeatWord L beat).lgc = L.lgc ∧
    (Live.heartbeatWord L beat).jrn = L.jrn ∧
    (Live.heartbeatWord L beat).ret = L.ret ∧
    (Live.heartbeatWord L beat).blob = L.blob ∧
    (Live.heartbeatWord L beat).free = L.free := by
  have h0 := @Live.sf12_frame
  simp [Live.heartbeatWord, h0]

theorem Live.holdoffEnds_frame (L : Live) :
    (Live.holdoffEnds L).time = L.time ∧
    (Live.holdoffEnds L).ks = L.ks ∧
    (Live.holdoffEnds L).seg = L.seg ∧
    (Live.holdoffEnds L).node = L.node ∧
    (Live.holdoffEnds L).twin = L.twin ∧
    (Live.holdoffEnds L).eng = L.eng ∧
    (Live.holdoffEnds L).est = L.est ∧
    (Live.holdoffEnds L).th = L.th ∧
    (Live.holdoffEnds L).mgr = L.mgr ∧
    (Live.holdoffEnds L).lgc = L.lgc ∧
    (Live.holdoffEnds L).upd = L.upd ∧
    (Live.holdoffEnds L).jrn = L.jrn ∧
    (Live.holdoffEnds L).ret = L.ret ∧
    (Live.holdoffEnds L).blob = L.blob ∧
    (Live.holdoffEnds L).out = L.out ∧
    (Live.holdoffEnds L).free = L.free := by
  have h0 := @Live.seqOn_frame
  have h1 := @Live.toStep2_frame
  have h2 := @Live.setPath_frame
  simp [Live.holdoffEnds, h0, h1, h2]

theorem Live.pulseFeedback_frame (L : Live) (neg own low : Bool) :
    (Live.pulseFeedback L neg own low).time = L.time ∧
    (Live.pulseFeedback L neg own low).ks = L.ks ∧
    (Live.pulseFeedback L neg own low).seg = L.seg ∧
    (Live.pulseFeedback L neg own low).node = L.node ∧
    (Live.pulseFeedback L neg own low).eng = L.eng ∧
    (Live.pulseFeedback L neg own low).est = L.est ∧
    (Live.pulseFeedback L neg own low).th = L.th ∧
    (Live.pulseFeedback L neg own low).mgr = L.mgr ∧
    (Live.pulseFeedback L neg own low).lgc = L.lgc ∧
    (Live.pulseFeedback L neg own low).jrn = L.jrn ∧
    (Live.pulseFeedback L neg own low).ret = L.ret ∧
    (Live.pulseFeedback L neg own low).blob = L.blob ∧
    (Live.pulseFeedback L neg own low).free = L.free := by
  have h0 := @Live.sf09_frame
  simp [Live.pulseFeedback, h0]

theorem Live.sendSrdo_frame (L : Live) (cob cobInv : Nat) (d : Bytes) :
    (Live.sendSrdo L cob cobInv d).mode = L.mode ∧
    (Live.sendSrdo L cob cobInv d).pins = L.pins ∧
    (Live.sendSrdo L cob cobInv d).time = L.time ∧
    (Live.sendSrdo L cob cobInv d).ks = L.ks ∧
    (Live.sendSrdo L cob cobInv d).saf = L.saf ∧
    (Live.sendSrdo L cob cobInv d).seg = L.seg ∧
    (Live.sendSrdo L cob cobInv d).node = L.node ∧
    (Live.sendSrdo L cob cobInv d).conv = L.conv ∧
    (Live.sendSrdo L cob cobInv d).twin = L.twin ∧
    (Live.sendSrdo L cob cobInv d).eng = L.eng ∧
    (Live.sendSrdo L cob cobInv d).chi = L.chi ∧
    (Live.sendSrdo L cob cobInv d).est = L.est ∧
    (Live.sendSrdo L cob cobInv d).th = L.th ∧
    (Live.sendSrdo L cob cobInv d).mgr = L.mgr ∧
    (Live.sendSrdo L cob cobInv d).lgc = L.lgc ∧
    (Live.sendSrdo L cob cobInv d).upd = L.upd ∧
    (Live.sendSrdo L cob cobInv d).jrn = L.jrn ∧
    (Live.sendSrdo L cob cobInv d).ret = L.ret ∧
    (Live.sendSrdo L cob cobInv d).blob = L.blob ∧
    (Live.sendSrdo L cob cobInv d).out = L.out ∧
    (Live.sendSrdo L cob cobInv d).free = L.free := by
  simp [Live.sendSrdo]

end Sys2Proof.Machine
end

