-- ==== Sys2Proof/Laws/FrameTwin.lean ====
section
/-! SUPPORT. What each operation of Machine/Twin.lean leaves as it is. -/

namespace Sys2Proof.Machine

open Sys2Proof

theorem Live.fibre_frame (L : Live) (path copy : Nat) :
    (Live.fibre L path copy).mode = L.mode ∧
    (Live.fibre L path copy).pins = L.pins ∧
    (Live.fibre L path copy).time = L.time ∧
    (Live.fibre L path copy).ks = L.ks ∧
    (Live.fibre L path copy).saf = L.saf ∧
    (Live.fibre L path copy).seg = L.seg ∧
    (Live.fibre L path copy).node = L.node ∧
    (Live.fibre L path copy).conv = L.conv ∧
    (Live.fibre L path copy).eng = L.eng ∧
    (Live.fibre L path copy).chi = L.chi ∧
    (Live.fibre L path copy).est = L.est ∧
    (Live.fibre L path copy).th = L.th ∧
    (Live.fibre L path copy).mgr = L.mgr ∧
    (Live.fibre L path copy).lgc = L.lgc ∧
    (Live.fibre L path copy).upd = L.upd ∧
    (Live.fibre L path copy).jrn = L.jrn ∧
    (Live.fibre L path copy).ret = L.ret ∧
    (Live.fibre L path copy).blob = L.blob ∧
    (Live.fibre L path copy).out = L.out := by
  have h0 := @Live.twinEv_frame
  simp [Live.fibre, h0]

theorem Live.storeFrame_frame (L : Live) (f : Bytes) :
    (Live.storeFrame L f).mode = L.mode ∧
    (Live.storeFrame L f).pins = L.pins ∧
    (Live.storeFrame L f).time = L.time ∧
    (Live.storeFrame L f).ks = L.ks ∧
    (Live.storeFrame L f).rcd = L.rcd ∧
    (Live.storeFrame L f).saf = L.saf ∧
    (Live.storeFrame L f).seg = L.seg ∧
    (Live.storeFrame L f).node = L.node ∧
    (Live.storeFrame L f).conv = L.conv ∧
    (Live.storeFrame L f).eng = L.eng ∧
    (Live.storeFrame L f).chi = L.chi ∧
    (Live.storeFrame L f).cap = L.cap ∧
    (Live.storeFrame L f).est = L.est ∧
    (Live.storeFrame L f).th = L.th ∧
    (Live.storeFrame L f).com = L.com ∧
    (Live.storeFrame L f).mgr = L.mgr ∧
    (Live.storeFrame L f).lgc = L.lgc ∧
    (Live.storeFrame L f).upd = L.upd ∧
    (Live.storeFrame L f).jrn = L.jrn ∧
    (Live.storeFrame L f).dbg = L.dbg ∧
    (Live.storeFrame L f).ret = L.ret ∧
    (Live.storeFrame L f).obj = L.obj ∧
    (Live.storeFrame L f).blob = L.blob ∧
    (Live.storeFrame L f).out = L.out ∧
    (Live.storeFrame L f).free = L.free := by
  simp [Live.storeFrame]

theorem Live.partnerOff_frame (L : Live) :
    (Live.partnerOff L).mode = L.mode ∧
    (Live.partnerOff L).pins = L.pins ∧
    (Live.partnerOff L).time = L.time ∧
    (Live.partnerOff L).ks = L.ks ∧
    (Live.partnerOff L).rcd = L.rcd ∧
    (Live.partnerOff L).seg = L.seg ∧
    (Live.partnerOff L).node = L.node ∧
    (Live.partnerOff L).conv = L.conv ∧
    (Live.partnerOff L).twin = L.twin ∧
    (Live.partnerOff L).eng = L.eng ∧
    (Live.partnerOff L).chi = L.chi ∧
    (Live.partnerOff L).cap = L.cap ∧
    (Live.partnerOff L).est = L.est ∧
    (Live.partnerOff L).th = L.th ∧
    (Live.partnerOff L).com = L.com ∧
    (Live.partnerOff L).mgr = L.mgr ∧
    (Live.partnerOff L).lgc = L.lgc ∧
    (Live.partnerOff L).upd = L.upd ∧
    (Live.partnerOff L).jrn = L.jrn ∧
    (Live.partnerOff L).dbg = L.dbg ∧
    (Live.partnerOff L).ret = L.ret ∧
    (Live.partnerOff L).obj = L.obj ∧
    (Live.partnerOff L).blob = L.blob ∧
    (Live.partnerOff L).out = L.out ∧
    (Live.partnerOff L).free = L.free := by
  simp [Live.partnerOff]

theorem Live.forwardedWords_frame (L : Live) (f : Bytes) :
    (Live.forwardedWords L f).mode = L.mode ∧
    (Live.forwardedWords L f).pins = L.pins ∧
    (Live.forwardedWords L f).time = L.time ∧
    (Live.forwardedWords L f).ks = L.ks ∧
    (Live.forwardedWords L f).rcd = L.rcd ∧
    (Live.forwardedWords L f).seg = L.seg ∧
    (Live.forwardedWords L f).node = L.node ∧
    (Live.forwardedWords L f).conv = L.conv ∧
    (Live.forwardedWords L f).twin = L.twin ∧
    (Live.forwardedWords L f).eng = L.eng ∧
    (Live.forwardedWords L f).chi = L.chi ∧
    (Live.forwardedWords L f).cap = L.cap ∧
    (Live.forwardedWords L f).est = L.est ∧
    (Live.forwardedWords L f).th = L.th ∧
    (Live.forwardedWords L f).com = L.com ∧
    (Live.forwardedWords L f).mgr = L.mgr ∧
    (Live.forwardedWords L f).lgc = L.lgc ∧
    (Live.forwardedWords L f).upd = L.upd ∧
    (Live.forwardedWords L f).jrn = L.jrn ∧
    (Live.forwardedWords L f).dbg = L.dbg ∧
    (Live.forwardedWords L f).ret = L.ret ∧
    (Live.forwardedWords L f).obj = L.obj ∧
    (Live.forwardedWords L f).blob = L.blob ∧
    (Live.forwardedWords L f).out = L.out ∧
    (Live.forwardedWords L f).free = L.free := by
  have h0 := @Live.modWatch_frame
  simp [Live.forwardedWords, h0]

theorem Live.refusePair_frame (L : Live) (check : Nat) :
    (Live.refusePair L check).mode = L.mode ∧
    (Live.refusePair L check).pins = L.pins ∧
    (Live.refusePair L check).time = L.time ∧
    (Live.refusePair L check).ks = L.ks ∧
    (Live.refusePair L check).saf = L.saf ∧
    (Live.refusePair L check).seg = L.seg ∧
    (Live.refusePair L check).node = L.node ∧
    (Live.refusePair L check).conv = L.conv ∧
    (Live.refusePair L check).eng = L.eng ∧
    (Live.refusePair L check).chi = L.chi ∧
    (Live.refusePair L check).est = L.est ∧
    (Live.refusePair L check).th = L.th ∧
    (Live.refusePair L check).mgr = L.mgr ∧
    (Live.refusePair L check).lgc = L.lgc ∧
    (Live.refusePair L check).upd = L.upd ∧
    (Live.refusePair L check).jrn = L.jrn ∧
    (Live.refusePair L check).ret = L.ret ∧
    (Live.refusePair L check).obj = L.obj ∧
    (Live.refusePair L check).blob = L.blob ∧
    (Live.refusePair L check).out = L.out ∧
    (Live.refusePair L check).free = L.free := by
  have h0 := @Live.twinEv_frame
  simp [Live.refusePair, h0]

theorem Live.passPair_frame (L : Live) (f : Bytes) :
    (Live.passPair L f).mode = L.mode ∧
    (Live.passPair L f).pins = L.pins ∧
    (Live.passPair L f).time = L.time ∧
    (Live.passPair L f).ks = L.ks ∧
    (Live.passPair L f).rcd = L.rcd ∧
    (Live.passPair L f).saf = L.saf ∧
    (Live.passPair L f).seg = L.seg ∧
    (Live.passPair L f).node = L.node ∧
    (Live.passPair L f).conv = L.conv ∧
    (Live.passPair L f).eng = L.eng ∧
    (Live.passPair L f).chi = L.chi ∧
    (Live.passPair L f).cap = L.cap ∧
    (Live.passPair L f).est = L.est ∧
    (Live.passPair L f).th = L.th ∧
    (Live.passPair L f).com = L.com ∧
    (Live.passPair L f).mgr = L.mgr ∧
    (Live.passPair L f).lgc = L.lgc ∧
    (Live.passPair L f).upd = L.upd ∧
    (Live.passPair L f).jrn = L.jrn ∧
    (Live.passPair L f).dbg = L.dbg ∧
    (Live.passPair L f).ret = L.ret ∧
    (Live.passPair L f).obj = L.obj ∧
    (Live.passPair L f).blob = L.blob ∧
    (Live.passPair L f).out = L.out ∧
    (Live.passPair L f).free = L.free := by
  simp [Live.passPair]

theorem Live.enterStep_frame (L : Live) :
    (Live.enterStep L).mode = L.mode ∧
    (Live.enterStep L).pins = L.pins ∧
    (Live.enterStep L).time = L.time ∧
    (Live.enterStep L).ks = L.ks ∧
    (Live.enterStep L).seg = L.seg ∧
    (Live.enterStep L).node = L.node ∧
    (Live.enterStep L).conv = L.conv ∧
    (Live.enterStep L).eng = L.eng ∧
    (Live.enterStep L).chi = L.chi ∧
    (Live.enterStep L).est = L.est ∧
    (Live.enterStep L).th = L.th ∧
    (Live.enterStep L).mgr = L.mgr ∧
    (Live.enterStep L).lgc = L.lgc ∧
    (Live.enterStep L).jrn = L.jrn ∧
    (Live.enterStep L).ret = L.ret ∧
    (Live.enterStep L).blob = L.blob ∧
    (Live.enterStep L).out = L.out ∧
    (Live.enterStep L).free = L.free := by
  have h0 := @Live.twinEv_frame
  simp only [Live.enterStep]
  (repeat' split) <;> simp [h0]

theorem Live.dropStep_frame (L : Live) (cause : Nat) :
    (Live.dropStep L cause).mode = L.mode ∧
    (Live.dropStep L cause).pins = L.pins ∧
    (Live.dropStep L cause).time = L.time ∧
    (Live.dropStep L cause).ks = L.ks ∧
    (Live.dropStep L cause).saf = L.saf ∧
    (Live.dropStep L cause).seg = L.seg ∧
    (Live.dropStep L cause).node = L.node ∧
    (Live.dropStep L cause).conv = L.conv ∧
    (Live.dropStep L cause).eng = L.eng ∧
    (Live.dropStep L cause).chi = L.chi ∧
    (Live.dropStep L cause).est = L.est ∧
    (Live.dropStep L cause).th = L.th ∧
    (Live.dropStep L cause).mgr = L.mgr ∧
    (Live.dropStep L cause).lgc = L.lgc ∧
    (Live.dropStep L cause).jrn = L.jrn ∧
    (Live.dropStep L cause).ret = L.ret ∧
    (Live.dropStep L cause).obj = L.obj ∧
    (Live.dropStep L cause).blob = L.blob ∧
    (Live.dropStep L cause).out = L.out ∧
    (Live.dropStep L cause).free = L.free := by
  have h0 := @Live.leaveStep_frame
  simp [Live.dropStep, h0]

theorem Live.pairStep_frame (L : Live) (f : Bytes) (old : Nat) :
    (Live.pairStep L f old).mode = L.mode ∧
    (Live.pairStep L f old).pins = L.pins ∧
    (Live.pairStep L f old).time = L.time ∧
    (Live.pairStep L f old).ks = L.ks ∧
    (Live.pairStep L f old).seg = L.seg ∧
    (Live.pairStep L f old).node = L.node ∧
    (Live.pairStep L f old).conv = L.conv ∧
    (Live.pairStep L f old).eng = L.eng ∧
    (Live.pairStep L f old).chi = L.chi ∧
    (Live.pairStep L f old).est = L.est ∧
    (Live.pairStep L f old).th = L.th ∧
    (Live.pairStep L f old).mgr = L.mgr ∧
    (Live.pairStep L f old).lgc = L.lgc ∧
    (Live.pairStep L f old).jrn = L.jrn ∧
    (Live.pairStep L f old).ret = L.ret ∧
    (Live.pairStep L f old).blob = L.blob ∧
    (Live.pairStep L f old).out = L.out ∧
    (Live.pairStep L f old).free = L.free := by
  have h0 := @Live.enterStep_frame
  have h1 := @Live.leaveStep_frame
  have h2 := @Live.passPair_frame
  have h3 := @Live.refusePair_frame
  simp only [Live.pairStep]
  (repeat' split) <;> simp [h0, h1, h2, h3]

theorem Live.compared_frame (L : Live) (kind : Nat) (ok : Bool) :
    (Live.compared L kind ok).mode = L.mode ∧
    (Live.compared L kind ok).pins = L.pins ∧
    (Live.compared L kind ok).time = L.time ∧
    (Live.compared L kind ok).ks = L.ks ∧
    (Live.compared L kind ok).saf = L.saf ∧
    (Live.compared L kind ok).seg = L.seg ∧
    (Live.compared L kind ok).node = L.node ∧
    (Live.compared L kind ok).conv = L.conv ∧
    (Live.compared L kind ok).eng = L.eng ∧
    (Live.compared L kind ok).chi = L.chi ∧
    (Live.compared L kind ok).est = L.est ∧
    (Live.compared L kind ok).th = L.th ∧
    (Live.compared L kind ok).mgr = L.mgr ∧
    (Live.compared L kind ok).lgc = L.lgc ∧
    (Live.compared L kind ok).upd = L.upd ∧
    (Live.compared L kind ok).jrn = L.jrn ∧
    (Live.compared L kind ok).ret = L.ret ∧
    (Live.compared L kind ok).blob = L.blob ∧
    (Live.compared L kind ok).out = L.out ∧
    (Live.compared L kind ok).free = L.free := by
  have h0 := @Live.startCheck_frame
  have h1 := @Live.toPartner_frame
  simp [Live.compared, h0, h1]

theorem Live.cmpState_frame (L : Live) (f : Bytes) :
    (Live.cmpState L f).mode = L.mode ∧
    (Live.cmpState L f).pins = L.pins ∧
    (Live.cmpState L f).time = L.time ∧
    (Live.cmpState L f).ks = L.ks ∧
    (Live.cmpState L f).saf = L.saf ∧
    (Live.cmpState L f).seg = L.seg ∧
    (Live.cmpState L f).node = L.node ∧
    (Live.cmpState L f).conv = L.conv ∧
    (Live.cmpState L f).eng = L.eng ∧
    (Live.cmpState L f).chi = L.chi ∧
    (Live.cmpState L f).est = L.est ∧
    (Live.cmpState L f).th = L.th ∧
    (Live.cmpState L f).mgr = L.mgr ∧
    (Live.cmpState L f).lgc = L.lgc ∧
    (Live.cmpState L f).upd = L.upd ∧
    (Live.cmpState L f).jrn = L.jrn ∧
    (Live.cmpState L f).ret = L.ret ∧
    (Live.cmpState L f).blob = L.blob ∧
    (Live.cmpState L f).out = L.out ∧
    (Live.cmpState L f).free = L.free := by
  have h0 := @Live.compared_frame
  simp [Live.cmpState, h0]

theorem Live.cmpSweep_frame (L : Live) (f : Bytes) :
    (Live.cmpSweep L f).mode = L.mode ∧
    (Live.cmpSweep L f).pins = L.pins ∧
    (Live.cmpSweep L f).time = L.time ∧
    (Live.cmpSweep L f).ks = L.ks ∧
    (Live.cmpSweep L f).saf = L.saf ∧
    (Live.cmpSweep L f).seg = L.seg ∧
    (Live.cmpSweep L f).node = L.node ∧
    (Live.cmpSweep L f).conv = L.conv ∧
    (Live.cmpSweep L f).eng = L.eng ∧
    (Live.cmpSweep L f).chi = L.chi ∧
    (Live.cmpSweep L f).est = L.est ∧
    (Live.cmpSweep L f).th = L.th ∧
    (Live.cmpSweep L f).mgr = L.mgr ∧
    (Live.cmpSweep L f).lgc = L.lgc ∧
    (Live.cmpSweep L f).upd = L.upd ∧
    (Live.cmpSweep L f).jrn = L.jrn ∧
    (Live.cmpSweep L f).ret = L.ret ∧
    (Live.cmpSweep L f).blob = L.blob ∧
    (Live.cmpSweep L f).out = L.out ∧
    (Live.cmpSweep L f).free = L.free := by
  have h0 := @Live.compared_frame
  simp [Live.cmpSweep, h0]

theorem Live.adoptArrangement_frame (L : Live) (f : Bytes) :
    (Live.adoptArrangement L f).mode = L.mode ∧
    (Live.adoptArrangement L f).pins = L.pins ∧
    (Live.adoptArrangement L f).time = L.time ∧
    (Live.adoptArrangement L f).ks = L.ks ∧
    (Live.adoptArrangement L f).rcd = L.rcd ∧
    (Live.adoptArrangement L f).saf = L.saf ∧
    (Live.adoptArrangement L f).seg = L.seg ∧
    (Live.adoptArrangement L f).node = L.node ∧
    (Live.adoptArrangement L f).twin = L.twin ∧
    (Live.adoptArrangement L f).eng = L.eng ∧
    (Live.adoptArrangement L f).chi = L.chi ∧
    (Live.adoptArrangement L f).cap = L.cap ∧
    (Live.adoptArrangement L f).est = L.est ∧
    (Live.adoptArrangement L f).th = L.th ∧
    (Live.adoptArrangement L f).com = L.com ∧
    (Live.adoptArrangement L f).mgr = L.mgr ∧
    (Live.adoptArrangement L f).lgc = L.lgc ∧
    (Live.adoptArrangement L f).upd = L.upd ∧
    (Live.adoptArrangement L f).jrn = L.jrn ∧
    (Live.adoptArrangement L f).dbg = L.dbg ∧
    (Live.adoptArrangement L f).ret = L.ret ∧
    (Live.adoptArrangement L f).obj = L.obj ∧
    (Live.adoptArrangement L f).blob = L.blob ∧
    (Live.adoptArrangement L f).out = L.out ∧
    (Live.adoptArrangement L f).free = L.free := by
  simp [Live.adoptArrangement]

theorem Live.cmpArrangement_frame (L : Live) (f : Bytes) :
    (Live.cmpArrangement L f).mode = L.mode ∧
    (Live.cmpArrangement L f).pins = L.pins ∧
    (Live.cmpArrangement L f).time = L.time ∧
    (Live.cmpArrangement L f).ks = L.ks ∧
    (Live.cmpArrangement L f).saf = L.saf ∧
    (Live.cmpArrangement L f).seg = L.seg ∧
    (Live.cmpArrangement L f).node = L.node ∧
    (Live.cmpArrangement L f).eng = L.eng ∧
    (Live.cmpArrangement L f).chi = L.chi ∧
    (Live.cmpArrangement L f).est = L.est ∧
    (Live.cmpArrangement L f).th = L.th ∧
    (Live.cmpArrangement L f).mgr = L.mgr ∧
    (Live.cmpArrangement L f).lgc = L.lgc ∧
    (Live.cmpArrangement L f).upd = L.upd ∧
    (Live.cmpArrangement L f).jrn = L.jrn ∧
    (Live.cmpArrangement L f).ret = L.ret ∧
    (Live.cmpArrangement L f).blob = L.blob ∧
    (Live.cmpArrangement L f).out = L.out ∧
    (Live.cmpArrangement L f).free = L.free := by
  have h0 := @Live.compared_frame
  have h1 := @Live.adoptArrangement_frame
  simp [Live.cmpArrangement, h0, h1]

theorem Live.cmpUplinks_frame (L : Live) (f : Bytes) :
    (Live.cmpUplinks L f).mode = L.mode ∧
    (Live.cmpUplinks L f).pins = L.pins ∧
    (Live.cmpUplinks L f).time = L.time ∧
    (Live.cmpUplinks L f).ks = L.ks ∧
    (Live.cmpUplinks L f).saf = L.saf ∧
    (Live.cmpUplinks L f).node = L.node ∧
    (Live.cmpUplinks L f).conv = L.conv ∧
    (Live.cmpUplinks L f).twin = L.twin ∧
    (Live.cmpUplinks L f).eng = L.eng ∧
    (Live.cmpUplinks L f).chi = L.chi ∧
    (Live.cmpUplinks L f).mgr = L.mgr ∧
    (Live.cmpUplinks L f).lgc = L.lgc ∧
    (Live.cmpUplinks L f).upd = L.upd ∧
    (Live.cmpUplinks L f).jrn = L.jrn ∧
    (Live.cmpUplinks L f).ret = L.ret ∧
    (Live.cmpUplinks L f).obj = L.obj ∧
    (Live.cmpUplinks L f).blob = L.blob ∧
    (Live.cmpUplinks L f).out = L.out ∧
    (Live.cmpUplinks L f).free = L.free := by
  have h0 := @Live.judgeUplink_frame
  simp [Live.cmpUplinks, h0]

theorem Live.takeShared_frame (L : Live) (f : Bytes) :
    (Live.takeShared L f).mode = L.mode ∧
    (Live.takeShared L f).pins = L.pins ∧
    (Live.takeShared L f).time = L.time ∧
    (Live.takeShared L f).ks = L.ks ∧
    (Live.takeShared L f).rcd = L.rcd ∧
    (Live.takeShared L f).saf = L.saf ∧
    (Live.takeShared L f).node = L.node ∧
    (Live.takeShared L f).conv = L.conv ∧
    (Live.takeShared L f).eng = L.eng ∧
    (Live.takeShared L f).chi = L.chi ∧
    (Live.takeShared L f).cap = L.cap ∧
    (Live.takeShared L f).th = L.th ∧
    (Live.takeShared L f).com = L.com ∧
    (Live.takeShared L f).mgr = L.mgr ∧
    (Live.takeShared L f).lgc = L.lgc ∧
    (Live.takeShared L f).upd = L.upd ∧
    (Live.takeShared L f).jrn = L.jrn ∧
    (Live.takeShared L f).dbg = L.dbg ∧
    (Live.takeShared L f).ret = L.ret ∧
    (Live.takeShared L f).obj = L.obj ∧
    (Live.takeShared L f).blob = L.blob ∧
    (Live.takeShared L f).out = L.out ∧
    (Live.takeShared L f).free = L.free := by
  have h0 := @Live.shareStep_frame
  have h1 := @Live.shareOwn_frame
  simp [Live.takeShared, h0, h1]

theorem Live.compareFrame_frame (L : Live) (f : Bytes) :
    (Live.compareFrame L f).mode = L.mode ∧
    (Live.compareFrame L f).pins = L.pins ∧
    (Live.compareFrame L f).time = L.time ∧
    (Live.compareFrame L f).ks = L.ks ∧
    (Live.compareFrame L f).saf = L.saf ∧
    (Live.compareFrame L f).node = L.node ∧
    (Live.compareFrame L f).eng = L.eng ∧
    (Live.compareFrame L f).chi = L.chi ∧
    (Live.compareFrame L f).mgr = L.mgr ∧
    (Live.compareFrame L f).lgc = L.lgc ∧
    (Live.compareFrame L f).upd = L.upd ∧
    (Live.compareFrame L f).jrn = L.jrn ∧
    (Live.compareFrame L f).ret = L.ret ∧
    (Live.compareFrame L f).blob = L.blob ∧
    (Live.compareFrame L f).out = L.out ∧
    (Live.compareFrame L f).free = L.free := by
  have h0 := @Live.cmpSweep_frame
  have h1 := @Live.cmpState_frame
  have h2 := @Live.cmpArrangement_frame
  have h3 := @Live.cmpUplinks_frame
  simp [Live.compareFrame, h0, h1, h2, h3]

theorem Live.obeyFrame_frame (L : Live) :
    (Live.obeyFrame L).time = L.time ∧
    (Live.obeyFrame L).ks = L.ks ∧
    (Live.obeyFrame L).seg = L.seg ∧
    (Live.obeyFrame L).node = L.node ∧
    (Live.obeyFrame L).eng = L.eng ∧
    (Live.obeyFrame L).est = L.est ∧
    (Live.obeyFrame L).th = L.th ∧
    (Live.obeyFrame L).mgr = L.mgr ∧
    (Live.obeyFrame L).lgc = L.lgc ∧
    (Live.obeyFrame L).jrn = L.jrn ∧
    (Live.obeyFrame L).ret = L.ret ∧
    (Live.obeyFrame L).blob = L.blob ∧
    (Live.obeyFrame L).free = L.free := by
  have h0 := @Live.updExpect_frame
  have h1 := @Live.endObeyed_frame
  have h2 := @Live.setFast_frame
  have h3 := @Live.obeyNamed_frame
  simp [Live.obeyFrame, h0, h1, h2, h3]

theorem Live.acceptHandover_frame (L : Live) :
    (Live.acceptHandover L).mode = L.mode ∧
    (Live.acceptHandover L).pins = L.pins ∧
    (Live.acceptHandover L).time = L.time ∧
    (Live.acceptHandover L).ks = L.ks ∧
    (Live.acceptHandover L).saf = L.saf ∧
    (Live.acceptHandover L).seg = L.seg ∧
    (Live.acceptHandover L).node = L.node ∧
    (Live.acceptHandover L).conv = L.conv ∧
    (Live.acceptHandover L).eng = L.eng ∧
    (Live.acceptHandover L).chi = L.chi ∧
    (Live.acceptHandover L).est = L.est ∧
    (Live.acceptHandover L).th = L.th ∧
    (Live.acceptHandover L).mgr = L.mgr ∧
    (Live.acceptHandover L).lgc = L.lgc ∧
    (Live.acceptHandover L).upd = L.upd ∧
    (Live.acceptHandover L).jrn = L.jrn ∧
    (Live.acceptHandover L).ret = L.ret ∧
    (Live.acceptHandover L).obj = L.obj ∧
    (Live.acceptHandover L).blob = L.blob ∧
    (Live.acceptHandover L).out = L.out ∧
    (Live.acceptHandover L).free = L.free := by
  have h0 := @Live.disarmIsland_frame
  simp [Live.acceptHandover, h0]

theorem Live.tokenFrame_frame (L : Live) :
    (Live.tokenFrame L).mode = L.mode ∧
    (Live.tokenFrame L).pins = L.pins ∧
    (Live.tokenFrame L).time = L.time ∧
    (Live.tokenFrame L).ks = L.ks ∧
    (Live.tokenFrame L).saf = L.saf ∧
    (Live.tokenFrame L).seg = L.seg ∧
    (Live.tokenFrame L).node = L.node ∧
    (Live.tokenFrame L).conv = L.conv ∧
    (Live.tokenFrame L).eng = L.eng ∧
    (Live.tokenFrame L).chi = L.chi ∧
    (Live.tokenFrame L).est = L.est ∧
    (Live.tokenFrame L).th = L.th ∧
    (Live.tokenFrame L).mgr = L.mgr ∧
    (Live.tokenFrame L).lgc = L.lgc ∧
    (Live.tokenFrame L).upd = L.upd ∧
    (Live.tokenFrame L).jrn = L.jrn ∧
    (Live.tokenFrame L).ret = L.ret ∧
    (Live.tokenFrame L).obj = L.obj ∧
    (Live.tokenFrame L).blob = L.blob ∧
    (Live.tokenFrame L).out = L.out ∧
    (Live.tokenFrame L).free = L.free := by
  have h0 := @Live.acceptHandover_frame
  simp [Live.tokenFrame, h0]

theorem Live.timeFrame_frame (L : Live) :
    (Live.timeFrame L).mode = L.mode ∧
    (Live.timeFrame L).pins = L.pins ∧
    (Live.timeFrame L).ks = L.ks ∧
    (Live.timeFrame L).saf = L.saf ∧
    (Live.timeFrame L).seg = L.seg ∧
    (Live.timeFrame L).node = L.node ∧
    (Live.timeFrame L).conv = L.conv ∧
    (Live.timeFrame L).twin = L.twin ∧
    (Live.timeFrame L).eng = L.eng ∧
    (Live.timeFrame L).chi = L.chi ∧
    (Live.timeFrame L).est = L.est ∧
    (Live.timeFrame L).th = L.th ∧
    (Live.timeFrame L).mgr = L.mgr ∧
    (Live.timeFrame L).lgc = L.lgc ∧
    (Live.timeFrame L).upd = L.upd ∧
    (Live.timeFrame L).jrn = L.jrn ∧
    (Live.timeFrame L).ret = L.ret ∧
    (Live.timeFrame L).blob = L.blob ∧
    (Live.timeFrame L).out = L.out := by
  have h0 := @Live.endFollow_frame
  have h1 := @Live.useOffset_frame
  simp [Live.timeFrame, h0, h1]

theorem Live.dropDecided_frame (L : Live) (n : Nat) :
    (Live.dropDecided L n).mode = L.mode ∧
    (Live.dropDecided L n).pins = L.pins ∧
    (Live.dropDecided L n).time = L.time ∧
    (Live.dropDecided L n).ks = L.ks ∧
    (Live.dropDecided L n).rcd = L.rcd ∧
    (Live.dropDecided L n).saf = L.saf ∧
    (Live.dropDecided L n).seg = L.seg ∧
    (Live.dropDecided L n).node = L.node ∧
    (Live.dropDecided L n).conv = L.conv ∧
    (Live.dropDecided L n).eng = L.eng ∧
    (Live.dropDecided L n).chi = L.chi ∧
    (Live.dropDecided L n).cap = L.cap ∧
    (Live.dropDecided L n).est = L.est ∧
    (Live.dropDecided L n).th = L.th ∧
    (Live.dropDecided L n).com = L.com ∧
    (Live.dropDecided L n).mgr = L.mgr ∧
    (Live.dropDecided L n).lgc = L.lgc ∧
    (Live.dropDecided L n).upd = L.upd ∧
    (Live.dropDecided L n).jrn = L.jrn ∧
    (Live.dropDecided L n).dbg = L.dbg ∧
    (Live.dropDecided L n).ret = L.ret ∧
    (Live.dropDecided L n).obj = L.obj ∧
    (Live.dropDecided L n).blob = L.blob ∧
    (Live.dropDecided L n).out = L.out ∧
    (Live.dropDecided L n).free = L.free := by
  simp [Live.dropDecided]

theorem Live.noteSure_frame (L : Live) (ps : List Pend) :
    (Live.noteSure L ps).mode = L.mode ∧
    (Live.noteSure L ps).pins = L.pins ∧
    (Live.noteSure L ps).time = L.time ∧
    (Live.noteSure L ps).rcd = L.rcd ∧
    (Live.noteSure L ps).saf = L.saf ∧
    (Live.noteSure L ps).seg = L.seg ∧
    (Live.noteSure L ps).node = L.node ∧
    (Live.noteSure L ps).conv = L.conv ∧
    (Live.noteSure L ps).twin = L.twin ∧
    (Live.noteSure L ps).eng = L.eng ∧
    (Live.noteSure L ps).chi = L.chi ∧
    (Live.noteSure L ps).cap = L.cap ∧
    (Live.noteSure L ps).est = L.est ∧
    (Live.noteSure L ps).th = L.th ∧
    (Live.noteSure L ps).com = L.com ∧
    (Live.noteSure L ps).mgr = L.mgr ∧
    (Live.noteSure L ps).lgc = L.lgc ∧
    (Live.noteSure L ps).upd = L.upd ∧
    (Live.noteSure L ps).jrn = L.jrn ∧
    (Live.noteSure L ps).dbg = L.dbg ∧
    (Live.noteSure L ps).ret = L.ret ∧
    (Live.noteSure L ps).obj = L.obj ∧
    (Live.noteSure L ps).blob = L.blob ∧
    (Live.noteSure L ps).out = L.out ∧
    (Live.noteSure L ps).free = L.free := by
  simp [Live.noteSure]

theorem Live.recordFails_frame (L : Live) (n : Nat) :
    (Live.recordFails L n).mode = L.mode ∧
    (Live.recordFails L n).pins = L.pins ∧
    (Live.recordFails L n).time = L.time ∧
    (Live.recordFails L n).ks = L.ks ∧
    (Live.recordFails L n).saf = L.saf ∧
    (Live.recordFails L n).seg = L.seg ∧
    (Live.recordFails L n).node = L.node ∧
    (Live.recordFails L n).conv = L.conv ∧
    (Live.recordFails L n).eng = L.eng ∧
    (Live.recordFails L n).chi = L.chi ∧
    (Live.recordFails L n).est = L.est ∧
    (Live.recordFails L n).th = L.th ∧
    (Live.recordFails L n).mgr = L.mgr ∧
    (Live.recordFails L n).lgc = L.lgc ∧
    (Live.recordFails L n).jrn = L.jrn ∧
    (Live.recordFails L n).ret = L.ret ∧
    (Live.recordFails L n).obj = L.obj ∧
    (Live.recordFails L n).blob = L.blob ∧
    (Live.recordFails L n).out = L.out ∧
    (Live.recordFails L n).free = L.free := by
  have h0 := @Live.dropStep_frame
  have h1 := @Live.twinEv_frame
  have h2 := @Live.dropDecided_frame
  simp [Live.recordFails, h0, h1, h2]

theorem Live.holdRecord_frame (L : Live) (epoch n crc : Nat) (bits : List Bool) :
    (Live.holdRecord L epoch n crc bits).mode = L.mode ∧
    (Live.holdRecord L epoch n crc bits).pins = L.pins ∧
    (Live.holdRecord L epoch n crc bits).time = L.time ∧
    (Live.holdRecord L epoch n crc bits).ks = L.ks ∧
    (Live.holdRecord L epoch n crc bits).saf = L.saf ∧
    (Live.holdRecord L epoch n crc bits).seg = L.seg ∧
    (Live.holdRecord L epoch n crc bits).node = L.node ∧
    (Live.holdRecord L epoch n crc bits).conv = L.conv ∧
    (Live.holdRecord L epoch n crc bits).eng = L.eng ∧
    (Live.holdRecord L epoch n crc bits).chi = L.chi ∧
    (Live.holdRecord L epoch n crc bits).est = L.est ∧
    (Live.holdRecord L epoch n crc bits).th = L.th ∧
    (Live.holdRecord L epoch n crc bits).mgr = L.mgr ∧
    (Live.holdRecord L epoch n crc bits).lgc = L.lgc ∧
    (Live.holdRecord L epoch n crc bits).jrn = L.jrn ∧
    (Live.holdRecord L epoch n crc bits).ret = L.ret ∧
    (Live.holdRecord L epoch n crc bits).obj = L.obj ∧
    (Live.holdRecord L epoch n crc bits).blob = L.blob ∧
    (Live.holdRecord L epoch n crc bits).out = L.out ∧
    (Live.holdRecord L epoch n crc bits).free = L.free := by
  have h0 := @Live.recordFails_frame
  have h1 := @Live.dropDecided_frame
  simp only [Live.holdRecord]
  (repeat' split) <;> simp [h0, h1]

theorem Live.takeover_frame (L : Live) :
    (Live.takeover L).mode = L.mode ∧
    (Live.takeover L).node = L.node ∧
    (Live.takeover L).conv = L.conv ∧
    (Live.takeover L).est = L.est ∧
    (Live.takeover L).th = L.th ∧
    (Live.takeover L).ret = L.ret ∧
    (Live.takeover L).free = L.free := by
  have h0 := @Live.disarmIsland_frame
  have h1 := @Live.answerLost_frame
  have h2 := @Live.partnerGone_frame
  have h3 := @Live.twinEv_frame
  have h4 := @Live.dueThresholds_frame
  have h5 := @Live.insRelay_frame
  have h6 := @Live.updLead_frame
  have h7 := @Live.replay_frame
  have h8 := @Live.setFast_frame
  simp [Live.takeover, h0, h1, h2, h3, h4, h5, h6, h7, h8]

theorem Live.lostUnfollowed_frame (L : Live) :
    (Live.lostUnfollowed L).mode = L.mode ∧
    (Live.lostUnfollowed L).time = L.time ∧
    (Live.lostUnfollowed L).seg = L.seg ∧
    (Live.lostUnfollowed L).node = L.node ∧
    (Live.lostUnfollowed L).conv = L.conv ∧
    (Live.lostUnfollowed L).eng = L.eng ∧
    (Live.lostUnfollowed L).chi = L.chi ∧
    (Live.lostUnfollowed L).est = L.est ∧
    (Live.lostUnfollowed L).th = L.th ∧
    (Live.lostUnfollowed L).lgc = L.lgc ∧
    (Live.lostUnfollowed L).upd = L.upd ∧
    (Live.lostUnfollowed L).jrn = L.jrn ∧
    (Live.lostUnfollowed L).ret = L.ret ∧
    (Live.lostUnfollowed L).blob = L.blob ∧
    (Live.lostUnfollowed L).free = L.free := by
  have h0 := @Live.answerLost_frame
  have h1 := @Live.partnerGone_frame
  have h2 := @Live.twinEv_frame
  have h3 := @Live.setFast_frame
  simp [Live.lostUnfollowed, h0, h1, h2, h3]

theorem Live.partnerLost_frame (L : Live) :
    (Live.partnerLost L).mode = L.mode ∧
    (Live.partnerLost L).node = L.node ∧
    (Live.partnerLost L).conv = L.conv ∧
    (Live.partnerLost L).est = L.est ∧
    (Live.partnerLost L).th = L.th ∧
    (Live.partnerLost L).ret = L.ret ∧
    (Live.partnerLost L).free = L.free := by
  have h0 := @Live.answerLost_frame
  have h1 := @Live.partnerGone_frame
  have h2 := @Live.leaveStep_frame
  have h3 := @Live.takeover_frame
  have h4 := @Live.lostUnfollowed_frame
  simp [Live.partnerLost, h0, h1, h2, h3, h4]

theorem Live.checkOutcome_frame (L : Live) (own partner : Bool) :
    (Live.checkOutcome L own partner).time = L.time ∧
    (Live.checkOutcome L own partner).ks = L.ks ∧
    (Live.checkOutcome L own partner).seg = L.seg ∧
    (Live.checkOutcome L own partner).node = L.node ∧
    (Live.checkOutcome L own partner).eng = L.eng ∧
    (Live.checkOutcome L own partner).est = L.est ∧
    (Live.checkOutcome L own partner).th = L.th ∧
    (Live.checkOutcome L own partner).mgr = L.mgr ∧
    (Live.checkOutcome L own partner).lgc = L.lgc ∧
    (Live.checkOutcome L own partner).jrn = L.jrn ∧
    (Live.checkOutcome L own partner).ret = L.ret ∧
    (Live.checkOutcome L own partner).blob = L.blob ∧
    (Live.checkOutcome L own partner).free = L.free := by
  have h0 := @Live.leaveStep_frame
  have h1 := @Live.requestHandover_frame
  have h2 := @Live.sf12_frame
  simp [Live.checkOutcome, h0, h1, h2]

theorem Live.settleClaim_frame (L : Live) :
    (Live.settleClaim L).time = L.time ∧
    (Live.settleClaim L).node = L.node ∧
    (Live.settleClaim L).eng = L.eng ∧
    (Live.settleClaim L).est = L.est ∧
    (Live.settleClaim L).th = L.th ∧
    (Live.settleClaim L).mgr = L.mgr ∧
    (Live.settleClaim L).lgc = L.lgc ∧
    (Live.settleClaim L).ret = L.ret ∧
    (Live.settleClaim L).blob = L.blob ∧
    (Live.settleClaim L).free = L.free := by
  have h0 := @Live.dueThresholds_frame
  have h1 := @Live.unplanned_frame
  simp [Live.settleClaim, h0, h1]

theorem Live.takeKeystone_frame (L C : Live) :
    (Live.takeKeystone L C).pins = L.pins ∧
    (Live.takeKeystone L C).time = L.time ∧
    (Live.takeKeystone L C).rcd = L.rcd ∧
    (Live.takeKeystone L C).saf = L.saf ∧
    (Live.takeKeystone L C).seg = L.seg ∧
    (Live.takeKeystone L C).node = L.node ∧
    (Live.takeKeystone L C).conv = L.conv ∧
    (Live.takeKeystone L C).twin = L.twin ∧
    (Live.takeKeystone L C).chi = L.chi ∧
    (Live.takeKeystone L C).cap = L.cap ∧
    (Live.takeKeystone L C).est = L.est ∧
    (Live.takeKeystone L C).th = L.th ∧
    (Live.takeKeystone L C).com = L.com ∧
    (Live.takeKeystone L C).mgr = L.mgr ∧
    (Live.takeKeystone L C).upd = L.upd ∧
    (Live.takeKeystone L C).jrn = L.jrn ∧
    (Live.takeKeystone L C).ret = L.ret ∧
    (Live.takeKeystone L C).obj = L.obj ∧
    (Live.takeKeystone L C).blob = L.blob ∧
    (Live.takeKeystone L C).out = L.out ∧
    (Live.takeKeystone L C).free = L.free := by
  simp [Live.takeKeystone]

theorem Live.keepInputs_frame (L A : Live) :
    (Live.keepInputs L A).mode = L.mode ∧
    (Live.keepInputs L A).pins = L.pins ∧
    (Live.keepInputs L A).time = L.time ∧
    (Live.keepInputs L A).ks = L.ks ∧
    (Live.keepInputs L A).rcd = L.rcd ∧
    (Live.keepInputs L A).saf = L.saf ∧
    (Live.keepInputs L A).seg = L.seg ∧
    (Live.keepInputs L A).node = L.node ∧
    (Live.keepInputs L A).conv = L.conv ∧
    (Live.keepInputs L A).twin = L.twin ∧
    (Live.keepInputs L A).eng = L.eng ∧
    (Live.keepInputs L A).chi = L.chi ∧
    (Live.keepInputs L A).cap = L.cap ∧
    (Live.keepInputs L A).th = L.th ∧
    (Live.keepInputs L A).com = L.com ∧
    (Live.keepInputs L A).mgr = L.mgr ∧
    (Live.keepInputs L A).lgc = L.lgc ∧
    (Live.keepInputs L A).upd = L.upd ∧
    (Live.keepInputs L A).jrn = L.jrn ∧
    (Live.keepInputs L A).dbg = L.dbg ∧
    (Live.keepInputs L A).ret = L.ret ∧
    (Live.keepInputs L A).obj = L.obj ∧
    (Live.keepInputs L A).blob = L.blob ∧
    (Live.keepInputs L A).out = L.out ∧
    (Live.keepInputs L A).free = L.free := by
  simp [Live.keepInputs]

theorem Live.takeState_frame (L C : Live) :
    (Live.takeState L C).mode = L.mode ∧
    (Live.takeState L C).pins = L.pins ∧
    (Live.takeState L C).time = L.time ∧
    (Live.takeState L C).ks = L.ks ∧
    (Live.takeState L C).rcd = L.rcd ∧
    (Live.takeState L C).node = L.node ∧
    (Live.takeState L C).twin = L.twin ∧
    (Live.takeState L C).eng = L.eng ∧
    (Live.takeState L C).th = L.th ∧
    (Live.takeState L C).com = L.com ∧
    (Live.takeState L C).mgr = L.mgr ∧
    (Live.takeState L C).lgc = L.lgc ∧
    (Live.takeState L C).upd = L.upd ∧
    (Live.takeState L C).jrn = L.jrn ∧
    (Live.takeState L C).dbg = L.dbg ∧
    (Live.takeState L C).ret = L.ret ∧
    (Live.takeState L C).obj = L.obj ∧
    (Live.takeState L C).blob = L.blob ∧
    (Live.takeState L C).out = L.out ∧
    (Live.takeState L C).free = L.free := by
  simp [Live.takeState]

theorem Live.replaySweeps_frame (L : Live) :
    (Live.replaySweeps L).mode = L.mode ∧
    (Live.replaySweeps L).pins = L.pins ∧
    (Live.replaySweeps L).time = L.time ∧
    (Live.replaySweeps L).ks = L.ks ∧
    (Live.replaySweeps L).saf = L.saf ∧
    (Live.replaySweeps L).node = L.node ∧
    (Live.replaySweeps L).eng = L.eng ∧
    (Live.replaySweeps L).chi = L.chi ∧
    (Live.replaySweeps L).th = L.th ∧
    (Live.replaySweeps L).mgr = L.mgr ∧
    (Live.replaySweeps L).lgc = L.lgc ∧
    (Live.replaySweeps L).upd = L.upd ∧
    (Live.replaySweeps L).jrn = L.jrn ∧
    (Live.replaySweeps L).blob = L.blob ∧
    (Live.replaySweeps L).out = L.out := by
  have h0 := @Live.keepInputs_frame
  have h1 := @Live.sweep_frame
  have h2 := @Live.putInputs_frame
  simp [Live.replaySweeps, h0, h1, h2]

end Sys2Proof.Machine
end

