-- ==== Sys2Proof/Laws/SubFields.lean ====
section
/-! SUPPORT. Reading one field of a unit of the block through a conditional and through a fold. -/

namespace Sys2Proof

open Machine

@[simp] theorem Mode.st_ite (c : Prop) [Decidable c] (A B : Mode) :
    (if c then A else B).st = if c then A.st else B.st := apply_ite Mode.st c A B

@[simp] theorem mode_st_foldl {α : Type} (g : Live → α → Live) (h : ∀ L a, (g L a).mode.st = L.mode.st) (l : List α) (L : Live) :
    (l.foldl g L).mode.st = L.mode.st :=
  foldl_inv (fun M => M.mode.st = L.mode.st) g (fun M a e => (h M a).trans e) l L rfl

@[simp] theorem mode_st_foldl_fst {α β : Type} (g : Live × β → α → Live × β) (h : ∀ x a, (g x a).1.mode.st = x.1.mode.st)
    (l : List α) (x : Live × β) : (l.foldl g x).1.mode.st = x.1.mode.st := by
  induction l generalizing x with
  | nil => rfl
  | cons a l ih => simp [ih, h]

@[simp] theorem Mode.pendEnable_ite (c : Prop) [Decidable c] (A B : Mode) :
    (if c then A else B).pendEnable = if c then A.pendEnable else B.pendEnable := apply_ite Mode.pendEnable c A B

@[simp] theorem mode_pendEnable_foldl {α : Type} (g : Live → α → Live) (h : ∀ L a, (g L a).mode.pendEnable = L.mode.pendEnable) (l : List α) (L : Live) :
    (l.foldl g L).mode.pendEnable = L.mode.pendEnable :=
  foldl_inv (fun M => M.mode.pendEnable = L.mode.pendEnable) g (fun M a e => (h M a).trans e) l L rfl

@[simp] theorem mode_pendEnable_foldl_fst {α β : Type} (g : Live × β → α → Live × β) (h : ∀ x a, (g x a).1.mode.pendEnable = x.1.mode.pendEnable)
    (l : List α) (x : Live × β) : (l.foldl g x).1.mode.pendEnable = x.1.mode.pendEnable := by
  induction l generalizing x with
  | nil => rfl
  | cons a l ih => simp [ih, h]

@[simp] theorem Mode.booted_ite (c : Prop) [Decidable c] (A B : Mode) :
    (if c then A else B).booted = if c then A.booted else B.booted := apply_ite Mode.booted c A B

@[simp] theorem mode_booted_foldl {α : Type} (g : Live → α → Live) (h : ∀ L a, (g L a).mode.booted = L.mode.booted) (l : List α) (L : Live) :
    (l.foldl g L).mode.booted = L.mode.booted :=
  foldl_inv (fun M => M.mode.booted = L.mode.booted) g (fun M a e => (h M a).trans e) l L rfl

@[simp] theorem mode_booted_foldl_fst {α β : Type} (g : Live × β → α → Live × β) (h : ∀ x a, (g x a).1.mode.booted = x.1.mode.booted)
    (l : List α) (x : Live × β) : (l.foldl g x).1.mode.booted = x.1.mode.booted := by
  induction l generalizing x with
  | nil => rfl
  | cons a l ih => simp [ih, h]

@[simp] theorem Mode.listening_ite (c : Prop) [Decidable c] (A B : Mode) :
    (if c then A else B).listening = if c then A.listening else B.listening := apply_ite Mode.listening c A B

@[simp] theorem mode_listening_foldl {α : Type} (g : Live → α → Live) (h : ∀ L a, (g L a).mode.listening = L.mode.listening) (l : List α) (L : Live) :
    (l.foldl g L).mode.listening = L.mode.listening :=
  foldl_inv (fun M => M.mode.listening = L.mode.listening) g (fun M a e => (h M a).trans e) l L rfl

@[simp] theorem mode_listening_foldl_fst {α β : Type} (g : Live × β → α → Live × β) (h : ∀ x a, (g x a).1.mode.listening = x.1.mode.listening)
    (l : List α) (x : Live × β) : (l.foldl g x).1.mode.listening = x.1.mode.listening := by
  induction l generalizing x with
  | nil => rfl
  | cons a l ih => simp [ih, h]

@[simp] theorem Mode.quarryEntry_ite (c : Prop) [Decidable c] (A B : Mode) :
    (if c then A else B).quarryEntry = if c then A.quarryEntry else B.quarryEntry := apply_ite Mode.quarryEntry c A B

@[simp] theorem mode_quarryEntry_foldl {α : Type} (g : Live → α → Live) (h : ∀ L a, (g L a).mode.quarryEntry = L.mode.quarryEntry) (l : List α) (L : Live) :
    (l.foldl g L).mode.quarryEntry = L.mode.quarryEntry :=
  foldl_inv (fun M => M.mode.quarryEntry = L.mode.quarryEntry) g (fun M a e => (h M a).trans e) l L rfl

@[simp] theorem mode_quarryEntry_foldl_fst {α β : Type} (g : Live × β → α → Live × β) (h : ∀ x a, (g x a).1.mode.quarryEntry = x.1.mode.quarryEntry)
    (l : List α) (x : Live × β) : (l.foldl g x).1.mode.quarryEntry = x.1.mode.quarryEntry := by
  induction l generalizing x with
  | nil => rfl
  | cons a l ih => simp [ih, h]

@[simp] theorem Pins.aux1_ite (c : Prop) [Decidable c] (A B : Pins) :
    (if c then A else B).aux1 = if c then A.aux1 else B.aux1 := apply_ite Pins.aux1 c A B

@[simp] theorem pins_aux1_foldl {α : Type} (g : Live → α → Live) (h : ∀ L a, (g L a).pins.aux1 = L.pins.aux1) (l : List α) (L : Live) :
    (l.foldl g L).pins.aux1 = L.pins.aux1 :=
  foldl_inv (fun M => M.pins.aux1 = L.pins.aux1) g (fun M a e => (h M a).trans e) l L rfl

@[simp] theorem pins_aux1_foldl_fst {α β : Type} (g : Live × β → α → Live × β) (h : ∀ x a, (g x a).1.pins.aux1 = x.1.pins.aux1)
    (l : List α) (x : Live × β) : (l.foldl g x).1.pins.aux1 = x.1.pins.aux1 := by
  induction l generalizing x with
  | nil => rfl
  | cons a l ih => simp [ih, h]

@[simp] theorem Pins.aux2_ite (c : Prop) [Decidable c] (A B : Pins) :
    (if c then A else B).aux2 = if c then A.aux2 else B.aux2 := apply_ite Pins.aux2 c A B

@[simp] theorem pins_aux2_foldl {α : Type} (g : Live → α → Live) (h : ∀ L a, (g L a).pins.aux2 = L.pins.aux2) (l : List α) (L : Live) :
    (l.foldl g L).pins.aux2 = L.pins.aux2 :=
  foldl_inv (fun M => M.pins.aux2 = L.pins.aux2) g (fun M a e => (h M a).trans e) l L rfl

@[simp] theorem pins_aux2_foldl_fst {α β : Type} (g : Live × β → α → Live × β) (h : ∀ x a, (g x a).1.pins.aux2 = x.1.pins.aux2)
    (l : List α) (x : Live × β) : (l.foldl g x).1.pins.aux2 = x.1.pins.aux2 := by
  induction l generalizing x with
  | nil => rfl
  | cons a l ih => simp [ih, h]

@[simp] theorem Pins.auxSince_ite (c : Prop) [Decidable c] (A B : Pins) :
    (if c then A else B).auxSince = if c then A.auxSince else B.auxSince := apply_ite Pins.auxSince c A B

@[simp] theorem pins_auxSince_foldl {α : Type} (g : Live → α → Live) (h : ∀ L a, (g L a).pins.auxSince = L.pins.auxSince) (l : List α) (L : Live) :
    (l.foldl g L).pins.auxSince = L.pins.auxSince :=
  foldl_inv (fun M => M.pins.auxSince = L.pins.auxSince) g (fun M a e => (h M a).trans e) l L rfl

@[simp] theorem pins_auxSince_foldl_fst {α β : Type} (g : Live × β → α → Live × β) (h : ∀ x a, (g x a).1.pins.auxSince = x.1.pins.auxSince)
    (l : List α) (x : Live × β) : (l.foldl g x).1.pins.auxSince = x.1.pins.auxSince := by
  induction l generalizing x with
  | nil => rfl
  | cons a l ih => simp [ih, h]

@[simp] theorem Pins.holdup_ite (c : Prop) [Decidable c] (A B : Pins) :
    (if c then A else B).holdup = if c then A.holdup else B.holdup := apply_ite Pins.holdup c A B

@[simp] theorem pins_holdup_foldl {α : Type} (g : Live → α → Live) (h : ∀ L a, (g L a).pins.holdup = L.pins.holdup) (l : List α) (L : Live) :
    (l.foldl g L).pins.holdup = L.pins.holdup :=
  foldl_inv (fun M => M.pins.holdup = L.pins.holdup) g (fun M a e => (h M a).trans e) l L rfl

@[simp] theorem pins_holdup_foldl_fst {α β : Type} (g : Live × β → α → Live × β) (h : ∀ x a, (g x a).1.pins.holdup = x.1.pins.holdup)
    (l : List α) (x : Live × β) : (l.foldl g x).1.pins.holdup = x.1.pins.holdup := by
  induction l generalizing x with
  | nil => rfl
  | cons a l ih => simp [ih, h]

@[simp] theorem Pins.fastOff_ite (c : Prop) [Decidable c] (A B : Pins) :
    (if c then A else B).fastOff = if c then A.fastOff else B.fastOff := apply_ite Pins.fastOff c A B

@[simp] theorem pins_fastOff_foldl {α : Type} (g : Live → α → Live) (h : ∀ L a, (g L a).pins.fastOff = L.pins.fastOff) (l : List α) (L : Live) :
    (l.foldl g L).pins.fastOff = L.pins.fastOff :=
  foldl_inv (fun M => M.pins.fastOff = L.pins.fastOff) g (fun M a e => (h M a).trans e) l L rfl

@[simp] theorem pins_fastOff_foldl_fst {α β : Type} (g : Live × β → α → Live × β) (h : ∀ x a, (g x a).1.pins.fastOff = x.1.pins.fastOff)
    (l : List α) (x : Live × β) : (l.foldl g x).1.pins.fastOff = x.1.pins.fastOff := by
  induction l generalizing x with
  | nil => rfl
  | cons a l ih => simp [ih, h]

@[simp] theorem Pins.contactA_ite (c : Prop) [Decidable c] (A B : Pins) :
    (if c then A else B).contactA = if c then A.contactA else B.contactA := apply_ite Pins.contactA c A B

@[simp] theorem pins_contactA_foldl {α : Type} (g : Live → α → Live) (h : ∀ L a, (g L a).pins.contactA = L.pins.contactA) (l : List α) (L : Live) :
    (l.foldl g L).pins.contactA = L.pins.contactA :=
  foldl_inv (fun M => M.pins.contactA = L.pins.contactA) g (fun M a e => (h M a).trans e) l L rfl

@[simp] theorem pins_contactA_foldl_fst {α β : Type} (g : Live × β → α → Live × β) (h : ∀ x a, (g x a).1.pins.contactA = x.1.pins.contactA)
    (l : List α) (x : Live × β) : (l.foldl g x).1.pins.contactA = x.1.pins.contactA := by
  induction l generalizing x with
  | nil => rfl
  | cons a l ih => simp [ih, h]

@[simp] theorem Pins.contactB_ite (c : Prop) [Decidable c] (A B : Pins) :
    (if c then A else B).contactB = if c then A.contactB else B.contactB := apply_ite Pins.contactB c A B

@[simp] theorem pins_contactB_foldl {α : Type} (g : Live → α → Live) (h : ∀ L a, (g L a).pins.contactB = L.pins.contactB) (l : List α) (L : Live) :
    (l.foldl g L).pins.contactB = L.pins.contactB :=
  foldl_inv (fun M => M.pins.contactB = L.pins.contactB) g (fun M a e => (h M a).trans e) l L rfl

@[simp] theorem pins_contactB_foldl_fst {α β : Type} (g : Live × β → α → Live × β) (h : ∀ x a, (g x a).1.pins.contactB = x.1.pins.contactB)
    (l : List α) (x : Live × β) : (l.foldl g x).1.pins.contactB = x.1.pins.contactB := by
  induction l generalizing x with
  | nil => rfl
  | cons a l ih => simp [ih, h]

@[simp] theorem Pins.elementOpen_ite (c : Prop) [Decidable c] (A B : Pins) :
    (if c then A else B).elementOpen = if c then A.elementOpen else B.elementOpen := apply_ite Pins.elementOpen c A B

@[simp] theorem pins_elementOpen_foldl {α : Type} (g : Live → α → Live) (h : ∀ L a, (g L a).pins.elementOpen = L.pins.elementOpen) (l : List α) (L : Live) :
    (l.foldl g L).pins.elementOpen = L.pins.elementOpen :=
  foldl_inv (fun M => M.pins.elementOpen = L.pins.elementOpen) g (fun M a e => (h M a).trans e) l L rfl

@[simp] theorem pins_elementOpen_foldl_fst {α β : Type} (g : Live × β → α → Live × β) (h : ∀ x a, (g x a).1.pins.elementOpen = x.1.pins.elementOpen)
    (l : List α) (x : Live × β) : (l.foldl g x).1.pins.elementOpen = x.1.pins.elementOpen := by
  induction l generalizing x with
  | nil => rfl
  | cons a l ih => simp [ih, h]

@[simp] theorem Pins.elemA_ite (c : Prop) [Decidable c] (A B : Pins) :
    (if c then A else B).elemA = if c then A.elemA else B.elemA := apply_ite Pins.elemA c A B

@[simp] theorem pins_elemA_foldl {α : Type} (g : Live → α → Live) (h : ∀ L a, (g L a).pins.elemA = L.pins.elemA) (l : List α) (L : Live) :
    (l.foldl g L).pins.elemA = L.pins.elemA :=
  foldl_inv (fun M => M.pins.elemA = L.pins.elemA) g (fun M a e => (h M a).trans e) l L rfl

@[simp] theorem pins_elemA_foldl_fst {α β : Type} (g : Live × β → α → Live × β) (h : ∀ x a, (g x a).1.pins.elemA = x.1.pins.elemA)
    (l : List α) (x : Live × β) : (l.foldl g x).1.pins.elemA = x.1.pins.elemA := by
  induction l generalizing x with
  | nil => rfl
  | cons a l ih => simp [ih, h]

@[simp] theorem Pins.elemB_ite (c : Prop) [Decidable c] (A B : Pins) :
    (if c then A else B).elemB = if c then A.elemB else B.elemB := apply_ite Pins.elemB c A B

@[simp] theorem pins_elemB_foldl {α : Type} (g : Live → α → Live) (h : ∀ L a, (g L a).pins.elemB = L.pins.elemB) (l : List α) (L : Live) :
    (l.foldl g L).pins.elemB = L.pins.elemB :=
  foldl_inv (fun M => M.pins.elemB = L.pins.elemB) g (fun M a e => (h M a).trans e) l L rfl

@[simp] theorem pins_elemB_foldl_fst {α β : Type} (g : Live × β → α → Live × β) (h : ∀ x a, (g x a).1.pins.elemB = x.1.pins.elemB)
    (l : List α) (x : Live × β) : (l.foldl g x).1.pins.elemB = x.1.pins.elemB := by
  induction l generalizing x with
  | nil => rfl
  | cons a l ih => simp [ih, h]

@[simp] theorem Pins.quarryRelays_ite (c : Prop) [Decidable c] (A B : Pins) :
    (if c then A else B).quarryRelays = if c then A.quarryRelays else B.quarryRelays := apply_ite Pins.quarryRelays c A B

@[simp] theorem pins_quarryRelays_foldl {α : Type} (g : Live → α → Live) (h : ∀ L a, (g L a).pins.quarryRelays = L.pins.quarryRelays) (l : List α) (L : Live) :
    (l.foldl g L).pins.quarryRelays = L.pins.quarryRelays :=
  foldl_inv (fun M => M.pins.quarryRelays = L.pins.quarryRelays) g (fun M a e => (h M a).trans e) l L rfl

@[simp] theorem pins_quarryRelays_foldl_fst {α β : Type} (g : Live × β → α → Live × β) (h : ∀ x a, (g x a).1.pins.quarryRelays = x.1.pins.quarryRelays)
    (l : List α) (x : Live × β) : (l.foldl g x).1.pins.quarryRelays = x.1.pins.quarryRelays := by
  induction l generalizing x with
  | nil => rfl
  | cons a l ih => simp [ih, h]

@[simp] theorem Pins.fbKpOpen_ite (c : Prop) [Decidable c] (A B : Pins) :
    (if c then A else B).fbKpOpen = if c then A.fbKpOpen else B.fbKpOpen := apply_ite Pins.fbKpOpen c A B

@[simp] theorem pins_fbKpOpen_foldl {α : Type} (g : Live → α → Live) (h : ∀ L a, (g L a).pins.fbKpOpen = L.pins.fbKpOpen) (l : List α) (L : Live) :
    (l.foldl g L).pins.fbKpOpen = L.pins.fbKpOpen :=
  foldl_inv (fun M => M.pins.fbKpOpen = L.pins.fbKpOpen) g (fun M a e => (h M a).trans e) l L rfl

@[simp] theorem pins_fbKpOpen_foldl_fst {α β : Type} (g : Live × β → α → Live × β) (h : ∀ x a, (g x a).1.pins.fbKpOpen = x.1.pins.fbKpOpen)
    (l : List α) (x : Live × β) : (l.foldl g x).1.pins.fbKpOpen = x.1.pins.fbKpOpen := by
  induction l generalizing x with
  | nil => rfl
  | cons a l ih => simp [ih, h]

@[simp] theorem Pins.fbKnOpen_ite (c : Prop) [Decidable c] (A B : Pins) :
    (if c then A else B).fbKnOpen = if c then A.fbKnOpen else B.fbKnOpen := apply_ite Pins.fbKnOpen c A B

@[simp] theorem pins_fbKnOpen_foldl {α : Type} (g : Live → α → Live) (h : ∀ L a, (g L a).pins.fbKnOpen = L.pins.fbKnOpen) (l : List α) (L : Live) :
    (l.foldl g L).pins.fbKnOpen = L.pins.fbKnOpen :=
  foldl_inv (fun M => M.pins.fbKnOpen = L.pins.fbKnOpen) g (fun M a e => (h M a).trans e) l L rfl

@[simp] theorem pins_fbKnOpen_foldl_fst {α β : Type} (g : Live × β → α → Live × β) (h : ∀ x a, (g x a).1.pins.fbKnOpen = x.1.pins.fbKnOpen)
    (l : List α) (x : Live × β) : (l.foldl g x).1.pins.fbKnOpen = x.1.pins.fbKnOpen := by
  induction l generalizing x with
  | nil => rfl
  | cons a l ih => simp [ih, h]

@[simp] theorem Pins.sswOpen_ite (c : Prop) [Decidable c] (A B : Pins) :
    (if c then A else B).sswOpen = if c then A.sswOpen else B.sswOpen := apply_ite Pins.sswOpen c A B

@[simp] theorem pins_sswOpen_foldl {α : Type} (g : Live → α → Live) (h : ∀ L a, (g L a).pins.sswOpen = L.pins.sswOpen) (l : List α) (L : Live) :
    (l.foldl g L).pins.sswOpen = L.pins.sswOpen :=
  foldl_inv (fun M => M.pins.sswOpen = L.pins.sswOpen) g (fun M a e => (h M a).trans e) l L rfl

@[simp] theorem pins_sswOpen_foldl_fst {α β : Type} (g : Live × β → α → Live × β) (h : ∀ x a, (g x a).1.pins.sswOpen = x.1.pins.sswOpen)
    (l : List α) (x : Live × β) : (l.foldl g x).1.pins.sswOpen = x.1.pins.sswOpen := by
  induction l generalizing x with
  | nil => rfl
  | cons a l ih => simp [ih, h]

@[simp] theorem Safety.supplyLoss_ite (c : Prop) [Decidable c] (A B : Safety) :
    (if c then A else B).supplyLoss = if c then A.supplyLoss else B.supplyLoss := apply_ite Safety.supplyLoss c A B

@[simp] theorem saf_supplyLoss_foldl {α : Type} (g : Live → α → Live) (h : ∀ L a, (g L a).saf.supplyLoss = L.saf.supplyLoss) (l : List α) (L : Live) :
    (l.foldl g L).saf.supplyLoss = L.saf.supplyLoss :=
  foldl_inv (fun M => M.saf.supplyLoss = L.saf.supplyLoss) g (fun M a e => (h M a).trans e) l L rfl

@[simp] theorem saf_supplyLoss_foldl_fst {α β : Type} (g : Live × β → α → Live × β) (h : ∀ x a, (g x a).1.saf.supplyLoss = x.1.saf.supplyLoss)
    (l : List α) (x : Live × β) : (l.foldl g x).1.saf.supplyLoss = x.1.saf.supplyLoss := by
  induction l generalizing x with
  | nil => rfl
  | cons a l ih => simp [ih, h]

@[simp] theorem Safety.fastLatch_ite (c : Prop) [Decidable c] (A B : Safety) :
    (if c then A else B).fastLatch = if c then A.fastLatch else B.fastLatch := apply_ite Safety.fastLatch c A B

@[simp] theorem saf_fastLatch_foldl {α : Type} (g : Live → α → Live) (h : ∀ L a, (g L a).saf.fastLatch = L.saf.fastLatch) (l : List α) (L : Live) :
    (l.foldl g L).saf.fastLatch = L.saf.fastLatch :=
  foldl_inv (fun M => M.saf.fastLatch = L.saf.fastLatch) g (fun M a e => (h M a).trans e) l L rfl

@[simp] theorem saf_fastLatch_foldl_fst {α β : Type} (g : Live × β → α → Live × β) (h : ∀ x a, (g x a).1.saf.fastLatch = x.1.saf.fastLatch)
    (l : List α) (x : Live × β) : (l.foldl g x).1.saf.fastLatch = x.1.saf.fastLatch := by
  induction l generalizing x with
  | nil => rfl
  | cons a l ih => simp [ih, h]

@[simp] theorem Safety.hazard_ite (c : Prop) [Decidable c] (A B : Safety) :
    (if c then A else B).hazard = if c then A.hazard else B.hazard := apply_ite Safety.hazard c A B

@[simp] theorem saf_hazard_foldl {α : Type} (g : Live → α → Live) (h : ∀ L a, (g L a).saf.hazard = L.saf.hazard) (l : List α) (L : Live) :
    (l.foldl g L).saf.hazard = L.saf.hazard :=
  foldl_inv (fun M => M.saf.hazard = L.saf.hazard) g (fun M a e => (h M a).trans e) l L rfl

@[simp] theorem saf_hazard_foldl_fst {α β : Type} (g : Live × β → α → Live × β) (h : ∀ x a, (g x a).1.saf.hazard = x.1.saf.hazard)
    (l : List α) (x : Live × β) : (l.foldl g x).1.saf.hazard = x.1.saf.hazard := by
  induction l generalizing x with
  | nil => rfl
  | cons a l ih => simp [ih, h]

@[simp] theorem Safety.precharge_ite (c : Prop) [Decidable c] (A B : Safety) :
    (if c then A else B).precharge = if c then A.precharge else B.precharge := apply_ite Safety.precharge c A B

@[simp] theorem saf_precharge_foldl {α : Type} (g : Live → α → Live) (h : ∀ L a, (g L a).saf.precharge = L.saf.precharge) (l : List α) (L : Live) :
    (l.foldl g L).saf.precharge = L.saf.precharge :=
  foldl_inv (fun M => M.saf.precharge = L.saf.precharge) g (fun M a e => (h M a).trans e) l L rfl

@[simp] theorem saf_precharge_foldl_fst {α β : Type} (g : Live × β → α → Live × β) (h : ∀ x a, (g x a).1.saf.precharge = x.1.saf.precharge)
    (l : List α) (x : Live × β) : (l.foldl g x).1.saf.precharge = x.1.saf.precharge := by
  induction l generalizing x with
  | nil => rfl
  | cons a l ih => simp [ih, h]

@[simp] theorem Safety.ownCmd_ite (c : Prop) [Decidable c] (A B : Safety) :
    (if c then A else B).ownCmd = if c then A.ownCmd else B.ownCmd := apply_ite Safety.ownCmd c A B

@[simp] theorem saf_ownCmd_foldl {α : Type} (g : Live → α → Live) (h : ∀ L a, (g L a).saf.ownCmd = L.saf.ownCmd) (l : List α) (L : Live) :
    (l.foldl g L).saf.ownCmd = L.saf.ownCmd :=
  foldl_inv (fun M => M.saf.ownCmd = L.saf.ownCmd) g (fun M a e => (h M a).trans e) l L rfl

@[simp] theorem saf_ownCmd_foldl_fst {α β : Type} (g : Live × β → α → Live × β) (h : ∀ x a, (g x a).1.saf.ownCmd = x.1.saf.ownCmd)
    (l : List α) (x : Live × β) : (l.foldl g x).1.saf.ownCmd = x.1.saf.ownCmd := by
  induction l generalizing x with
  | nil => rfl
  | cons a l ih => simp [ih, h]

@[simp] theorem Safety.pairs_ite (c : Prop) [Decidable c] (A B : Safety) :
    (if c then A else B).pairs = if c then A.pairs else B.pairs := apply_ite Safety.pairs c A B

@[simp] theorem saf_pairs_foldl {α : Type} (g : Live → α → Live) (h : ∀ L a, (g L a).saf.pairs = L.saf.pairs) (l : List α) (L : Live) :
    (l.foldl g L).saf.pairs = L.saf.pairs :=
  foldl_inv (fun M => M.saf.pairs = L.saf.pairs) g (fun M a e => (h M a).trans e) l L rfl

@[simp] theorem saf_pairs_foldl_fst {α β : Type} (g : Live × β → α → Live × β) (h : ∀ x a, (g x a).1.saf.pairs = x.1.saf.pairs)
    (l : List α) (x : Live × β) : (l.foldl g x).1.saf.pairs = x.1.saf.pairs := by
  induction l generalizing x with
  | nil => rfl
  | cons a l ih => simp [ih, h]

@[simp] theorem Safety.eA_ite (c : Prop) [Decidable c] (A B : Safety) :
    (if c then A else B).eA = if c then A.eA else B.eA := apply_ite Safety.eA c A B

@[simp] theorem saf_eA_foldl {α : Type} (g : Live → α → Live) (h : ∀ L a, (g L a).saf.eA = L.saf.eA) (l : List α) (L : Live) :
    (l.foldl g L).saf.eA = L.saf.eA :=
  foldl_inv (fun M => M.saf.eA = L.saf.eA) g (fun M a e => (h M a).trans e) l L rfl

@[simp] theorem saf_eA_foldl_fst {α β : Type} (g : Live × β → α → Live × β) (h : ∀ x a, (g x a).1.saf.eA = x.1.saf.eA)
    (l : List α) (x : Live × β) : (l.foldl g x).1.saf.eA = x.1.saf.eA := by
  induction l generalizing x with
  | nil => rfl
  | cons a l ih => simp [ih, h]

@[simp] theorem Safety.eB_ite (c : Prop) [Decidable c] (A B : Safety) :
    (if c then A else B).eB = if c then A.eB else B.eB := apply_ite Safety.eB c A B

@[simp] theorem saf_eB_foldl {α : Type} (g : Live → α → Live) (h : ∀ L a, (g L a).saf.eB = L.saf.eB) (l : List α) (L : Live) :
    (l.foldl g L).saf.eB = L.saf.eB :=
  foldl_inv (fun M => M.saf.eB = L.saf.eB) g (fun M a e => (h M a).trans e) l L rfl

@[simp] theorem saf_eB_foldl_fst {α β : Type} (g : Live × β → α → Live × β) (h : ∀ x a, (g x a).1.saf.eB = x.1.saf.eB)
    (l : List α) (x : Live × β) : (l.foldl g x).1.saf.eB = x.1.saf.eB := by
  induction l generalizing x with
  | nil => rfl
  | cons a l ih => simp [ih, h]

@[simp] theorem Twin.holds_ite (c : Prop) [Decidable c] (A B : Twin) :
    (if c then A else B).holds = if c then A.holds else B.holds := apply_ite Twin.holds c A B

@[simp] theorem twin_holds_foldl {α : Type} (g : Live → α → Live) (h : ∀ L a, (g L a).twin.holds = L.twin.holds) (l : List α) (L : Live) :
    (l.foldl g L).twin.holds = L.twin.holds :=
  foldl_inv (fun M => M.twin.holds = L.twin.holds) g (fun M a e => (h M a).trans e) l L rfl

@[simp] theorem twin_holds_foldl_fst {α β : Type} (g : Live × β → α → Live × β) (h : ∀ x a, (g x a).1.twin.holds = x.1.twin.holds)
    (l : List α) (x : Live × β) : (l.foldl g x).1.twin.holds = x.1.twin.holds := by
  induction l generalizing x with
  | nil => rfl
  | cons a l ih => simp [ih, h]

@[simp] theorem Twin.pair_ite (c : Prop) [Decidable c] (A B : Twin) :
    (if c then A else B).pair = if c then A.pair else B.pair := apply_ite Twin.pair c A B

@[simp] theorem twin_pair_foldl {α : Type} (g : Live → α → Live) (h : ∀ L a, (g L a).twin.pair = L.twin.pair) (l : List α) (L : Live) :
    (l.foldl g L).twin.pair = L.twin.pair :=
  foldl_inv (fun M => M.twin.pair = L.twin.pair) g (fun M a e => (h M a).trans e) l L rfl

@[simp] theorem twin_pair_foldl_fst {α β : Type} (g : Live × β → α → Live × β) (h : ∀ x a, (g x a).1.twin.pair = x.1.twin.pair)
    (l : List α) (x : Live × β) : (l.foldl g x).1.twin.pair = x.1.twin.pair := by
  induction l generalizing x with
  | nil => rfl
  | cons a l ih => simp [ih, h]

@[simp] theorem Twin.gen_ite (c : Prop) [Decidable c] (A B : Twin) :
    (if c then A else B).gen = if c then A.gen else B.gen := apply_ite Twin.gen c A B

@[simp] theorem twin_gen_foldl {α : Type} (g : Live → α → Live) (h : ∀ L a, (g L a).twin.gen = L.twin.gen) (l : List α) (L : Live) :
    (l.foldl g L).twin.gen = L.twin.gen :=
  foldl_inv (fun M => M.twin.gen = L.twin.gen) g (fun M a e => (h M a).trans e) l L rfl

@[simp] theorem twin_gen_foldl_fst {α β : Type} (g : Live × β → α → Live × β) (h : ∀ x a, (g x a).1.twin.gen = x.1.twin.gen)
    (l : List α) (x : Live × β) : (l.foldl g x).1.twin.gen = x.1.twin.gen := by
  induction l generalizing x with
  | nil => rfl
  | cons a l ih => simp [ih, h]

@[simp] theorem Twin.p_ite (c : Prop) [Decidable c] (A B : Twin) :
    (if c then A else B).p = if c then A.p else B.p := apply_ite Twin.p c A B

@[simp] theorem twin_p_foldl {α : Type} (g : Live → α → Live) (h : ∀ L a, (g L a).twin.p = L.twin.p) (l : List α) (L : Live) :
    (l.foldl g L).twin.p = L.twin.p :=
  foldl_inv (fun M => M.twin.p = L.twin.p) g (fun M a e => (h M a).trans e) l L rfl

@[simp] theorem twin_p_foldl_fst {α β : Type} (g : Live × β → α → Live × β) (h : ∀ x a, (g x a).1.twin.p = x.1.twin.p)
    (l : List α) (x : Live × β) : (l.foldl g x).1.twin.p = x.1.twin.p := by
  induction l generalizing x with
  | nil => rfl
  | cons a l ih => simp [ih, h]

@[simp] theorem Twin.transfer_ite (c : Prop) [Decidable c] (A B : Twin) :
    (if c then A else B).transfer = if c then A.transfer else B.transfer := apply_ite Twin.transfer c A B

@[simp] theorem twin_transfer_foldl {α : Type} (g : Live → α → Live) (h : ∀ L a, (g L a).twin.transfer = L.twin.transfer) (l : List α) (L : Live) :
    (l.foldl g L).twin.transfer = L.twin.transfer :=
  foldl_inv (fun M => M.twin.transfer = L.twin.transfer) g (fun M a e => (h M a).trans e) l L rfl

@[simp] theorem twin_transfer_foldl_fst {α β : Type} (g : Live × β → α → Live × β) (h : ∀ x a, (g x a).1.twin.transfer = x.1.twin.transfer)
    (l : List α) (x : Live × β) : (l.foldl g x).1.twin.transfer = x.1.twin.transfer := by
  induction l generalizing x with
  | nil => rfl
  | cons a l ih => simp [ih, h]

@[simp] theorem Twin.check_ite (c : Prop) [Decidable c] (A B : Twin) :
    (if c then A else B).check = if c then A.check else B.check := apply_ite Twin.check c A B

@[simp] theorem twin_check_foldl {α : Type} (g : Live → α → Live) (h : ∀ L a, (g L a).twin.check = L.twin.check) (l : List α) (L : Live) :
    (l.foldl g L).twin.check = L.twin.check :=
  foldl_inv (fun M => M.twin.check = L.twin.check) g (fun M a e => (h M a).trans e) l L rfl

@[simp] theorem twin_check_foldl_fst {α β : Type} (g : Live × β → α → Live × β) (h : ∀ x a, (g x a).1.twin.check = x.1.twin.check)
    (l : List α) (x : Live × β) : (l.foldl g x).1.twin.check = x.1.twin.check := by
  induction l generalizing x with
  | nil => rfl
  | cons a l ih => simp [ih, h]

@[simp] theorem Logic.vm_ite (c : Prop) [Decidable c] (A B : Logic) :
    (if c then A else B).vm = if c then A.vm else B.vm := apply_ite Logic.vm c A B

@[simp] theorem lgc_vm_foldl {α : Type} (g : Live → α → Live) (h : ∀ L a, (g L a).lgc.vm = L.lgc.vm) (l : List α) (L : Live) :
    (l.foldl g L).lgc.vm = L.lgc.vm :=
  foldl_inv (fun M => M.lgc.vm = L.lgc.vm) g (fun M a e => (h M a).trans e) l L rfl

@[simp] theorem lgc_vm_foldl_fst {α β : Type} (g : Live × β → α → Live × β) (h : ∀ x a, (g x a).1.lgc.vm = x.1.lgc.vm)
    (l : List α) (x : Live × β) : (l.foldl g x).1.lgc.vm = x.1.lgc.vm := by
  induction l generalizing x with
  | nil => rfl
  | cons a l ih => simp [ih, h]

@[simp] theorem Logic.forces_ite (c : Prop) [Decidable c] (A B : Logic) :
    (if c then A else B).forces = if c then A.forces else B.forces := apply_ite Logic.forces c A B

@[simp] theorem lgc_forces_foldl {α : Type} (g : Live → α → Live) (h : ∀ L a, (g L a).lgc.forces = L.lgc.forces) (l : List α) (L : Live) :
    (l.foldl g L).lgc.forces = L.lgc.forces :=
  foldl_inv (fun M => M.lgc.forces = L.lgc.forces) g (fun M a e => (h M a).trans e) l L rfl

@[simp] theorem lgc_forces_foldl_fst {α β : Type} (g : Live × β → α → Live × β) (h : ∀ x a, (g x a).1.lgc.forces = x.1.lgc.forces)
    (l : List α) (x : Live × β) : (l.foldl g x).1.lgc.forces = x.1.lgc.forces := by
  induction l generalizing x with
  | nil => rfl
  | cons a l ih => simp [ih, h]

@[simp] theorem Logic.bank_ite (c : Prop) [Decidable c] (A B : Logic) :
    (if c then A else B).bank = if c then A.bank else B.bank := apply_ite Logic.bank c A B

@[simp] theorem lgc_bank_foldl {α : Type} (g : Live → α → Live) (h : ∀ L a, (g L a).lgc.bank = L.lgc.bank) (l : List α) (L : Live) :
    (l.foldl g L).lgc.bank = L.lgc.bank :=
  foldl_inv (fun M => M.lgc.bank = L.lgc.bank) g (fun M a e => (h M a).trans e) l L rfl

@[simp] theorem lgc_bank_foldl_fst {α β : Type} (g : Live × β → α → Live × β) (h : ∀ x a, (g x a).1.lgc.bank = x.1.lgc.bank)
    (l : List α) (x : Live × β) : (l.foldl g x).1.lgc.bank = x.1.lgc.bank := by
  induction l generalizing x with
  | nil => rfl
  | cons a l ih => simp [ih, h]

@[simp] theorem TimeU.mtime_ite (c : Prop) [Decidable c] (A B : TimeU) :
    (if c then A else B).mtime = if c then A.mtime else B.mtime := apply_ite TimeU.mtime c A B

@[simp] theorem time_mtime_foldl {α : Type} (g : Live → α → Live) (h : ∀ L a, (g L a).time.mtime = L.time.mtime) (l : List α) (L : Live) :
    (l.foldl g L).time.mtime = L.time.mtime :=
  foldl_inv (fun M => M.time.mtime = L.time.mtime) g (fun M a e => (h M a).trans e) l L rfl

@[simp] theorem time_mtime_foldl_fst {α β : Type} (g : Live × β → α → Live × β) (h : ∀ x a, (g x a).1.time.mtime = x.1.time.mtime)
    (l : List α) (x : Live × β) : (l.foldl g x).1.time.mtime = x.1.time.mtime := by
  induction l generalizing x with
  | nil => rfl
  | cons a l ih => simp [ih, h]

@[simp] theorem TimeU.clk_ite (c : Prop) [Decidable c] (A B : TimeU) :
    (if c then A else B).clk = if c then A.clk else B.clk := apply_ite TimeU.clk c A B

@[simp] theorem time_clk_foldl {α : Type} (g : Live → α → Live) (h : ∀ L a, (g L a).time.clk = L.time.clk) (l : List α) (L : Live) :
    (l.foldl g L).time.clk = L.time.clk :=
  foldl_inv (fun M => M.time.clk = L.time.clk) g (fun M a e => (h M a).trans e) l L rfl

@[simp] theorem time_clk_foldl_fst {α β : Type} (g : Live × β → α → Live × β) (h : ∀ x a, (g x a).1.time.clk = x.1.time.clk)
    (l : List α) (x : Live × β) : (l.foldl g x).1.time.clk = x.1.time.clk := by
  induction l generalizing x with
  | nil => rfl
  | cons a l ih => simp [ih, h]

@[simp] theorem Keystone.edit_ite (c : Prop) [Decidable c] (A B : Keystone) :
    (if c then A else B).edit = if c then A.edit else B.edit := apply_ite Keystone.edit c A B

@[simp] theorem ks_edit_foldl {α : Type} (g : Live → α → Live) (h : ∀ L a, (g L a).ks.edit = L.ks.edit) (l : List α) (L : Live) :
    (l.foldl g L).ks.edit = L.ks.edit :=
  foldl_inv (fun M => M.ks.edit = L.ks.edit) g (fun M a e => (h M a).trans e) l L rfl

@[simp] theorem ks_edit_foldl_fst {α β : Type} (g : Live × β → α → Live × β) (h : ∀ x a, (g x a).1.ks.edit = x.1.ks.edit)
    (l : List α) (x : Live × β) : (l.foldl g x).1.ks.edit = x.1.ks.edit := by
  induction l generalizing x with
  | nil => rfl
  | cons a l ih => simp [ih, h]

@[simp] theorem Keystone.epoch_ite (c : Prop) [Decidable c] (A B : Keystone) :
    (if c then A else B).epoch = if c then A.epoch else B.epoch := apply_ite Keystone.epoch c A B

@[simp] theorem ks_epoch_foldl {α : Type} (g : Live → α → Live) (h : ∀ L a, (g L a).ks.epoch = L.ks.epoch) (l : List α) (L : Live) :
    (l.foldl g L).ks.epoch = L.ks.epoch :=
  foldl_inv (fun M => M.ks.epoch = L.ks.epoch) g (fun M a e => (h M a).trans e) l L rfl

@[simp] theorem ks_epoch_foldl_fst {α β : Type} (g : Live × β → α → Live × β) (h : ∀ x a, (g x a).1.ks.epoch = x.1.ks.epoch)
    (l : List α) (x : Live × β) : (l.foldl g x).1.ks.epoch = x.1.ks.epoch := by
  induction l generalizing x with
  | nil => rfl
  | cons a l ih => simp [ih, h]

@[simp] theorem Keystone.pend_ite (c : Prop) [Decidable c] (A B : Keystone) :
    (if c then A else B).pend = if c then A.pend else B.pend := apply_ite Keystone.pend c A B

@[simp] theorem ks_pend_foldl {α : Type} (g : Live → α → Live) (h : ∀ L a, (g L a).ks.pend = L.ks.pend) (l : List α) (L : Live) :
    (l.foldl g L).ks.pend = L.ks.pend :=
  foldl_inv (fun M => M.ks.pend = L.ks.pend) g (fun M a e => (h M a).trans e) l L rfl

@[simp] theorem ks_pend_foldl_fst {α β : Type} (g : Live × β → α → Live × β) (h : ∀ x a, (g x a).1.ks.pend = x.1.ks.pend)
    (l : List α) (x : Live × β) : (l.foldl g x).1.ks.pend = x.1.ks.pend := by
  induction l generalizing x with
  | nil => rfl
  | cons a l ih => simp [ih, h]

end Sys2Proof
end

