-- ==== Sys2Proof/Laws/KeepSequence.lean ====
section
/-! SUPPORT. Single registers that the operations of Machine/Sequence.lean leave as they are. -/

namespace Sys2Proof.Machine

open Sys2Proof

theorem Live.setFast_keeps (L : Live) (f : FastOff) :
    (Live.setFast L f).pins.aux1 = L.pins.aux1 ∧
    (Live.setFast L f).pins.aux2 = L.pins.aux2 ∧
    (Live.setFast L f).pins.auxSince = L.pins.auxSince ∧
    (Live.setFast L f).pins.holdup = L.pins.holdup ∧
    (Live.setFast L f).pins.contactA = L.pins.contactA ∧
    (Live.setFast L f).pins.contactB = L.pins.contactB ∧
    (Live.setFast L f).pins.elementOpen = L.pins.elementOpen ∧
    (Live.setFast L f).pins.elemA = L.pins.elemA ∧
    (Live.setFast L f).pins.elemB = L.pins.elemB ∧
    (Live.setFast L f).pins.quarryRelays = L.pins.quarryRelays ∧
    (Live.setFast L f).pins.fbKpOpen = L.pins.fbKpOpen ∧
    (Live.setFast L f).pins.fbKnOpen = L.pins.fbKnOpen ∧
    (Live.setFast L f).pins.sswOpen = L.pins.sswOpen := by
  simp [Live.setFast]

theorem Live.setPath_keeps (L : Live) (ch : Nat) (f : FastOff) :
    (Live.setPath L ch f).pins.aux1 = L.pins.aux1 ∧
    (Live.setPath L ch f).pins.aux2 = L.pins.aux2 ∧
    (Live.setPath L ch f).pins.auxSince = L.pins.auxSince ∧
    (Live.setPath L ch f).pins.holdup = L.pins.holdup ∧
    (Live.setPath L ch f).pins.contactA = L.pins.contactA ∧
    (Live.setPath L ch f).pins.contactB = L.pins.contactB ∧
    (Live.setPath L ch f).pins.elementOpen = L.pins.elementOpen ∧
    (Live.setPath L ch f).pins.elemA = L.pins.elemA ∧
    (Live.setPath L ch f).pins.elemB = L.pins.elemB ∧
    (Live.setPath L ch f).pins.quarryRelays = L.pins.quarryRelays ∧
    (Live.setPath L ch f).pins.fbKpOpen = L.pins.fbKpOpen ∧
    (Live.setPath L ch f).pins.fbKnOpen = L.pins.fbKnOpen ∧
    (Live.setPath L ch f).pins.sswOpen = L.pins.sswOpen := by
  have h0 := @Live.setFast_frame
  have h1 := @Live.setFast_keeps
  simp [Live.setPath, h0, h1]

theorem Live.cutFast_keeps (L : Live) :
    (Live.cutFast L).pins.aux1 = L.pins.aux1 ∧
    (Live.cutFast L).pins.aux2 = L.pins.aux2 ∧
    (Live.cutFast L).pins.auxSince = L.pins.auxSince ∧
    (Live.cutFast L).pins.holdup = L.pins.holdup ∧
    (Live.cutFast L).pins.contactA = L.pins.contactA ∧
    (Live.cutFast L).pins.contactB = L.pins.contactB ∧
    (Live.cutFast L).pins.elementOpen = L.pins.elementOpen ∧
    (Live.cutFast L).pins.elemA = L.pins.elemA ∧
    (Live.cutFast L).pins.elemB = L.pins.elemB ∧
    (Live.cutFast L).pins.quarryRelays = L.pins.quarryRelays ∧
    (Live.cutFast L).pins.fbKpOpen = L.pins.fbKpOpen ∧
    (Live.cutFast L).pins.fbKnOpen = L.pins.fbKnOpen ∧
    (Live.cutFast L).pins.sswOpen = L.pins.sswOpen := by
  have h0 := @Live.setFast_frame
  have h1 := @Live.setFast_keeps
  simp [Live.cutFast, h0, h1]

theorem Live.pullX_keeps (L : Live) (hold : Bool) :
    (Live.pullX L hold).pins.aux1 = L.pins.aux1 ∧
    (Live.pullX L hold).pins.aux2 = L.pins.aux2 ∧
    (Live.pullX L hold).pins.auxSince = L.pins.auxSince ∧
    (Live.pullX L hold).pins.holdup = L.pins.holdup ∧
    (Live.pullX L hold).pins.fastOff = L.pins.fastOff ∧
    (Live.pullX L hold).pins.contactA = L.pins.contactA ∧
    (Live.pullX L hold).pins.contactB = L.pins.contactB ∧
    (Live.pullX L hold).pins.elementOpen = L.pins.elementOpen ∧
    (Live.pullX L hold).pins.elemA = L.pins.elemA ∧
    (Live.pullX L hold).pins.elemB = L.pins.elemB ∧
    (Live.pullX L hold).pins.quarryRelays = L.pins.quarryRelays ∧
    (Live.pullX L hold).pins.fbKpOpen = L.pins.fbKpOpen ∧
    (Live.pullX L hold).pins.fbKnOpen = L.pins.fbKnOpen ∧
    (Live.pullX L hold).pins.sswOpen = L.pins.sswOpen := by
  simp [Live.pullX]

theorem Live.settleX_keeps (L : Live) :
    (Live.settleX L).pins.aux1 = L.pins.aux1 ∧
    (Live.settleX L).pins.aux2 = L.pins.aux2 ∧
    (Live.settleX L).pins.auxSince = L.pins.auxSince ∧
    (Live.settleX L).pins.holdup = L.pins.holdup ∧
    (Live.settleX L).pins.fastOff = L.pins.fastOff ∧
    (Live.settleX L).pins.contactA = L.pins.contactA ∧
    (Live.settleX L).pins.contactB = L.pins.contactB ∧
    (Live.settleX L).pins.elementOpen = L.pins.elementOpen ∧
    (Live.settleX L).pins.elemA = L.pins.elemA ∧
    (Live.settleX L).pins.elemB = L.pins.elemB ∧
    (Live.settleX L).pins.quarryRelays = L.pins.quarryRelays ∧
    (Live.settleX L).pins.fbKpOpen = L.pins.fbKpOpen ∧
    (Live.settleX L).pins.fbKnOpen = L.pins.fbKnOpen ∧
    (Live.settleX L).pins.sswOpen = L.pins.sswOpen := by
  simp only [Live.settleX]
  (repeat' split) <;> simp

theorem Live.dropX_keeps (L : Live) :
    (Live.dropX L).pins.aux1 = L.pins.aux1 ∧
    (Live.dropX L).pins.aux2 = L.pins.aux2 ∧
    (Live.dropX L).pins.auxSince = L.pins.auxSince ∧
    (Live.dropX L).pins.holdup = L.pins.holdup ∧
    (Live.dropX L).pins.fastOff = L.pins.fastOff ∧
    (Live.dropX L).pins.contactA = L.pins.contactA ∧
    (Live.dropX L).pins.contactB = L.pins.contactB ∧
    (Live.dropX L).pins.elementOpen = L.pins.elementOpen ∧
    (Live.dropX L).pins.elemA = L.pins.elemA ∧
    (Live.dropX L).pins.elemB = L.pins.elemB ∧
    (Live.dropX L).pins.quarryRelays = L.pins.quarryRelays ∧
    (Live.dropX L).pins.fbKpOpen = L.pins.fbKpOpen ∧
    (Live.dropX L).pins.fbKnOpen = L.pins.fbKnOpen ∧
    (Live.dropX L).pins.sswOpen = L.pins.sswOpen := by
  have h0 := @Live.settleX_keeps
  simp [Live.dropX, h0]

theorem Live.updExpect_keeps (L : Live) :
    (Live.updExpect L).saf.supplyLoss = L.saf.supplyLoss ∧
    (Live.updExpect L).saf.fastLatch = L.saf.fastLatch ∧
    (Live.updExpect L).saf.hazard = L.saf.hazard ∧
    (Live.updExpect L).saf.precharge = L.saf.precharge ∧
    (Live.updExpect L).saf.ownCmd = L.saf.ownCmd ∧
    (Live.updExpect L).saf.pairs = L.saf.pairs ∧
    (Live.updExpect L).saf.eA = L.saf.eA ∧
    (Live.updExpect L).saf.eB = L.saf.eB := by
  simp [Live.updExpect]

theorem Live.openLoop_keeps (L : Live) :
    (Live.openLoop L).pins.aux1 = L.pins.aux1 ∧
    (Live.openLoop L).pins.aux2 = L.pins.aux2 ∧
    (Live.openLoop L).pins.auxSince = L.pins.auxSince ∧
    (Live.openLoop L).pins.holdup = L.pins.holdup ∧
    (Live.openLoop L).pins.fastOff = L.pins.fastOff ∧
    (Live.openLoop L).pins.elementOpen = L.pins.elementOpen ∧
    (Live.openLoop L).pins.elemA = L.pins.elemA ∧
    (Live.openLoop L).pins.elemB = L.pins.elemB ∧
    (Live.openLoop L).pins.quarryRelays = L.pins.quarryRelays ∧
    (Live.openLoop L).pins.fbKpOpen = L.pins.fbKpOpen ∧
    (Live.openLoop L).pins.fbKnOpen = L.pins.fbKnOpen ∧
    (Live.openLoop L).pins.sswOpen = L.pins.sswOpen ∧
    (Live.openLoop L).saf.supplyLoss = L.saf.supplyLoss ∧
    (Live.openLoop L).saf.fastLatch = L.saf.fastLatch ∧
    (Live.openLoop L).saf.hazard = L.saf.hazard ∧
    (Live.openLoop L).saf.precharge = L.saf.precharge ∧
    (Live.openLoop L).saf.ownCmd = L.saf.ownCmd ∧
    (Live.openLoop L).saf.pairs = L.saf.pairs ∧
    (Live.openLoop L).saf.eA = L.saf.eA ∧
    (Live.openLoop L).saf.eB = L.saf.eB := by
  have h0 := @Live.updExpect_frame
  have h1 := @Live.pullX_keeps
  have h2 := @Live.updExpect_keeps
  have h3 := @Live.pullX_frame
  simp only [Live.openLoop]
  (repeat' split) <;> simp [h0, h1, h2, h3]

theorem Live.setRelay_keeps (L : Live) (on : Bool) :
    (Live.setRelay L on).pins.aux1 = L.pins.aux1 ∧
    (Live.setRelay L on).pins.aux2 = L.pins.aux2 ∧
    (Live.setRelay L on).pins.auxSince = L.pins.auxSince ∧
    (Live.setRelay L on).pins.holdup = L.pins.holdup ∧
    (Live.setRelay L on).pins.fastOff = L.pins.fastOff ∧
    (Live.setRelay L on).pins.contactA = L.pins.contactA ∧
    (Live.setRelay L on).pins.contactB = L.pins.contactB ∧
    (Live.setRelay L on).pins.elementOpen = L.pins.elementOpen ∧
    (Live.setRelay L on).pins.elemA = L.pins.elemA ∧
    (Live.setRelay L on).pins.elemB = L.pins.elemB ∧
    (Live.setRelay L on).pins.quarryRelays = L.pins.quarryRelays ∧
    (Live.setRelay L on).pins.fbKpOpen = L.pins.fbKpOpen ∧
    (Live.setRelay L on).pins.fbKnOpen = L.pins.fbKnOpen ∧
    (Live.setRelay L on).pins.sswOpen = L.pins.sswOpen ∧
    (Live.setRelay L on).saf.supplyLoss = L.saf.supplyLoss ∧
    (Live.setRelay L on).saf.fastLatch = L.saf.fastLatch ∧
    (Live.setRelay L on).saf.hazard = L.saf.hazard ∧
    (Live.setRelay L on).saf.precharge = L.saf.precharge ∧
    (Live.setRelay L on).saf.ownCmd = L.saf.ownCmd ∧
    (Live.setRelay L on).saf.pairs = L.saf.pairs ∧
    (Live.setRelay L on).saf.eA = L.saf.eA ∧
    (Live.setRelay L on).saf.eB = L.saf.eB := by
  simp only [Live.setRelay]
  (repeat' split) <;> simp

theorem Live.insRelay_keeps (L : Live) :
    (Live.insRelay L).pins.aux1 = L.pins.aux1 ∧
    (Live.insRelay L).pins.aux2 = L.pins.aux2 ∧
    (Live.insRelay L).pins.auxSince = L.pins.auxSince ∧
    (Live.insRelay L).pins.holdup = L.pins.holdup ∧
    (Live.insRelay L).pins.fastOff = L.pins.fastOff ∧
    (Live.insRelay L).pins.contactA = L.pins.contactA ∧
    (Live.insRelay L).pins.contactB = L.pins.contactB ∧
    (Live.insRelay L).pins.elementOpen = L.pins.elementOpen ∧
    (Live.insRelay L).pins.elemA = L.pins.elemA ∧
    (Live.insRelay L).pins.elemB = L.pins.elemB ∧
    (Live.insRelay L).pins.quarryRelays = L.pins.quarryRelays ∧
    (Live.insRelay L).pins.fbKpOpen = L.pins.fbKpOpen ∧
    (Live.insRelay L).pins.fbKnOpen = L.pins.fbKnOpen ∧
    (Live.insRelay L).pins.sswOpen = L.pins.sswOpen ∧
    (Live.insRelay L).saf.supplyLoss = L.saf.supplyLoss ∧
    (Live.insRelay L).saf.fastLatch = L.saf.fastLatch ∧
    (Live.insRelay L).saf.hazard = L.saf.hazard ∧
    (Live.insRelay L).saf.precharge = L.saf.precharge ∧
    (Live.insRelay L).saf.ownCmd = L.saf.ownCmd ∧
    (Live.insRelay L).saf.pairs = L.saf.pairs ∧
    (Live.insRelay L).saf.eA = L.saf.eA ∧
    (Live.insRelay L).saf.eB = L.saf.eB := by
  have h0 := @Live.setRelay_keeps
  simp [Live.insRelay, h0]

theorem Live.closeLoop_keeps (L : Live) :
    (Live.closeLoop L).pins.aux1 = L.pins.aux1 ∧
    (Live.closeLoop L).pins.aux2 = L.pins.aux2 ∧
    (Live.closeLoop L).pins.auxSince = L.pins.auxSince ∧
    (Live.closeLoop L).pins.holdup = L.pins.holdup ∧
    (Live.closeLoop L).pins.fastOff = L.pins.fastOff ∧
    (Live.closeLoop L).pins.elementOpen = L.pins.elementOpen ∧
    (Live.closeLoop L).pins.elemA = L.pins.elemA ∧
    (Live.closeLoop L).pins.elemB = L.pins.elemB ∧
    (Live.closeLoop L).pins.quarryRelays = L.pins.quarryRelays ∧
    (Live.closeLoop L).pins.fbKpOpen = L.pins.fbKpOpen ∧
    (Live.closeLoop L).pins.fbKnOpen = L.pins.fbKnOpen ∧
    (Live.closeLoop L).pins.sswOpen = L.pins.sswOpen ∧
    (Live.closeLoop L).saf.supplyLoss = L.saf.supplyLoss ∧
    (Live.closeLoop L).saf.fastLatch = L.saf.fastLatch ∧
    (Live.closeLoop L).saf.hazard = L.saf.hazard ∧
    (Live.closeLoop L).saf.precharge = L.saf.precharge ∧
    (Live.closeLoop L).saf.ownCmd = L.saf.ownCmd ∧
    (Live.closeLoop L).saf.pairs = L.saf.pairs ∧
    (Live.closeLoop L).saf.eA = L.saf.eA ∧
    (Live.closeLoop L).saf.eB = L.saf.eB := by
  have h0 := @Live.setRelay_frame
  have h1 := @Live.setRelay_keeps
  have h2 := @Live.senseLoop_frame
  have h3 := @Live.updExpect_frame
  have h4 := @Live.dropX_keeps
  have h5 := @Live.updExpect_keeps
  have h6 := @Live.dropX_frame
  simp [Live.closeLoop, h0, h1, h2, h3, h4, h5, h6]

theorem Live.setState_keeps (L : Live) (new : MState) (trig : Nat) :
    (Live.setState L new trig).mode.pendEnable = L.mode.pendEnable ∧
    (Live.setState L new trig).mode.booted = L.mode.booted ∧
    (Live.setState L new trig).mode.listening = L.mode.listening ∧
    (Live.setState L new trig).mode.quarryEntry = L.mode.quarryEntry := by
  have h0 := @Live.abortChisel_frame
  simp [Live.setState, h0]

theorem Live.sourceEvent_keeps (L : Live) :
    (Live.sourceEvent L).pins.aux1 = L.pins.aux1 ∧
    (Live.sourceEvent L).pins.aux2 = L.pins.aux2 ∧
    (Live.sourceEvent L).pins.auxSince = L.pins.auxSince ∧
    (Live.sourceEvent L).pins.holdup = L.pins.holdup ∧
    (Live.sourceEvent L).pins.fastOff = L.pins.fastOff ∧
    (Live.sourceEvent L).pins.contactA = L.pins.contactA ∧
    (Live.sourceEvent L).pins.contactB = L.pins.contactB ∧
    (Live.sourceEvent L).pins.elementOpen = L.pins.elementOpen ∧
    (Live.sourceEvent L).pins.elemA = L.pins.elemA ∧
    (Live.sourceEvent L).pins.elemB = L.pins.elemB ∧
    (Live.sourceEvent L).pins.quarryRelays = L.pins.quarryRelays ∧
    (Live.sourceEvent L).pins.fbKpOpen = L.pins.fbKpOpen ∧
    (Live.sourceEvent L).pins.fbKnOpen = L.pins.fbKnOpen ∧
    (Live.sourceEvent L).pins.sswOpen = L.pins.sswOpen := by
  simp only [Live.sourceEvent]
  (repeat' split) <;> simp

theorem Live.enterStandby_keeps (L : Live) (trig : Nat) :
    (Live.enterStandby L trig).mode.pendEnable = L.mode.pendEnable ∧
    (Live.enterStandby L trig).mode.booted = L.mode.booted ∧
    (Live.enterStandby L trig).mode.listening = L.mode.listening ∧
    (Live.enterStandby L trig).mode.quarryEntry = L.mode.quarryEntry ∧
    (Live.enterStandby L trig).pins.aux1 = L.pins.aux1 ∧
    (Live.enterStandby L trig).pins.aux2 = L.pins.aux2 ∧
    (Live.enterStandby L trig).pins.auxSince = L.pins.auxSince ∧
    (Live.enterStandby L trig).pins.holdup = L.pins.holdup ∧
    (Live.enterStandby L trig).pins.contactA = L.pins.contactA ∧
    (Live.enterStandby L trig).pins.contactB = L.pins.contactB ∧
    (Live.enterStandby L trig).pins.elementOpen = L.pins.elementOpen ∧
    (Live.enterStandby L trig).pins.elemA = L.pins.elemA ∧
    (Live.enterStandby L trig).pins.elemB = L.pins.elemB ∧
    (Live.enterStandby L trig).pins.quarryRelays = L.pins.quarryRelays ∧
    (Live.enterStandby L trig).pins.fbKpOpen = L.pins.fbKpOpen ∧
    (Live.enterStandby L trig).pins.fbKnOpen = L.pins.fbKnOpen ∧
    (Live.enterStandby L trig).pins.sswOpen = L.pins.sswOpen ∧
    (Live.enterStandby L trig).saf.supplyLoss = L.saf.supplyLoss ∧
    (Live.enterStandby L trig).saf.fastLatch = L.saf.fastLatch ∧
    (Live.enterStandby L trig).saf.hazard = L.saf.hazard ∧
    (Live.enterStandby L trig).saf.precharge = L.saf.precharge ∧
    (Live.enterStandby L trig).saf.ownCmd = L.saf.ownCmd ∧
    (Live.enterStandby L trig).saf.pairs = L.saf.pairs ∧
    (Live.enterStandby L trig).saf.eA = L.saf.eA ∧
    (Live.enterStandby L trig).saf.eB = L.saf.eB := by
  have h0 := @Live.setState_keeps
  have h1 := @Live.setState_frame
  have h2 := @Live.setFast_frame
  have h3 := @Live.setNmt_frame
  have h4 := @Live.setFast_keeps
  simp [Live.enterStandby, h0, h1, h2, h3, h4]

theorem Live.setSeq_keeps (L : Live) (f : Seq → Seq) :
    (Live.setSeq L f).mode.st = L.mode.st ∧
    (Live.setSeq L f).mode.pendEnable = L.mode.pendEnable ∧
    (Live.setSeq L f).mode.booted = L.mode.booted ∧
    (Live.setSeq L f).mode.listening = L.mode.listening ∧
    (Live.setSeq L f).mode.quarryEntry = L.mode.quarryEntry := by
  simp [Live.setSeq]

theorem Live.toStep2_keeps (L : Live) :
    (Live.toStep2 L).mode.st = L.mode.st ∧
    (Live.toStep2 L).mode.pendEnable = L.mode.pendEnable ∧
    (Live.toStep2 L).mode.booted = L.mode.booted ∧
    (Live.toStep2 L).mode.listening = L.mode.listening ∧
    (Live.toStep2 L).mode.quarryEntry = L.mode.quarryEntry ∧
    (Live.toStep2 L).pins.aux1 = L.pins.aux1 ∧
    (Live.toStep2 L).pins.aux2 = L.pins.aux2 ∧
    (Live.toStep2 L).pins.auxSince = L.pins.auxSince ∧
    (Live.toStep2 L).pins.holdup = L.pins.holdup ∧
    (Live.toStep2 L).pins.contactA = L.pins.contactA ∧
    (Live.toStep2 L).pins.contactB = L.pins.contactB ∧
    (Live.toStep2 L).pins.elementOpen = L.pins.elementOpen ∧
    (Live.toStep2 L).pins.elemA = L.pins.elemA ∧
    (Live.toStep2 L).pins.elemB = L.pins.elemB ∧
    (Live.toStep2 L).pins.quarryRelays = L.pins.quarryRelays ∧
    (Live.toStep2 L).pins.fbKpOpen = L.pins.fbKpOpen ∧
    (Live.toStep2 L).pins.fbKnOpen = L.pins.fbKnOpen ∧
    (Live.toStep2 L).pins.sswOpen = L.pins.sswOpen := by
  have h0 := @Live.setSeq_keeps
  have h1 := @Live.setPath_frame
  have h2 := @Live.setSeq_frame
  have h3 := @Live.setPath_keeps
  simp [Live.toStep2, h0, h1, h2, h3]

theorem Live.toStep3_keeps (L : Live) :
    (Live.toStep3 L).mode.st = L.mode.st ∧
    (Live.toStep3 L).mode.pendEnable = L.mode.pendEnable ∧
    (Live.toStep3 L).mode.booted = L.mode.booted ∧
    (Live.toStep3 L).mode.listening = L.mode.listening ∧
    (Live.toStep3 L).mode.quarryEntry = L.mode.quarryEntry ∧
    (Live.toStep3 L).pins.aux1 = L.pins.aux1 ∧
    (Live.toStep3 L).pins.aux2 = L.pins.aux2 ∧
    (Live.toStep3 L).pins.auxSince = L.pins.auxSince ∧
    (Live.toStep3 L).pins.holdup = L.pins.holdup ∧
    (Live.toStep3 L).pins.fastOff = L.pins.fastOff ∧
    (Live.toStep3 L).pins.elementOpen = L.pins.elementOpen ∧
    (Live.toStep3 L).pins.elemA = L.pins.elemA ∧
    (Live.toStep3 L).pins.elemB = L.pins.elemB ∧
    (Live.toStep3 L).pins.quarryRelays = L.pins.quarryRelays ∧
    (Live.toStep3 L).pins.fbKpOpen = L.pins.fbKpOpen ∧
    (Live.toStep3 L).pins.fbKnOpen = L.pins.fbKnOpen ∧
    (Live.toStep3 L).pins.sswOpen = L.pins.sswOpen ∧
    (Live.toStep3 L).saf.supplyLoss = L.saf.supplyLoss ∧
    (Live.toStep3 L).saf.fastLatch = L.saf.fastLatch ∧
    (Live.toStep3 L).saf.hazard = L.saf.hazard ∧
    (Live.toStep3 L).saf.precharge = L.saf.precharge ∧
    (Live.toStep3 L).saf.ownCmd = L.saf.ownCmd ∧
    (Live.toStep3 L).saf.pairs = L.saf.pairs ∧
    (Live.toStep3 L).saf.eA = L.saf.eA ∧
    (Live.toStep3 L).saf.eB = L.saf.eB := by
  have h0 := @Live.setSeq_keeps
  have h1 := @Live.openLoop_frame
  have h2 := @Live.setSeq_frame
  have h3 := @Live.openLoop_keeps
  simp [Live.toStep3, h0, h1, h2, h3]

theorem Live.toStep4_keeps (L : Live) :
    (Live.toStep4 L).mode.st = L.mode.st ∧
    (Live.toStep4 L).mode.pendEnable = L.mode.pendEnable ∧
    (Live.toStep4 L).mode.booted = L.mode.booted ∧
    (Live.toStep4 L).mode.listening = L.mode.listening ∧
    (Live.toStep4 L).mode.quarryEntry = L.mode.quarryEntry := by
  have h0 := @Live.setSeq_keeps
  simp [Live.toStep4, h0]

theorem Live.endCommand_keeps (L : Live) (n : Nat) :
    (Live.endCommand L n).pins.aux1 = L.pins.aux1 ∧
    (Live.endCommand L n).pins.aux2 = L.pins.aux2 ∧
    (Live.endCommand L n).pins.auxSince = L.pins.auxSince ∧
    (Live.endCommand L n).pins.holdup = L.pins.holdup ∧
    (Live.endCommand L n).pins.fastOff = L.pins.fastOff ∧
    (Live.endCommand L n).pins.contactA = L.pins.contactA ∧
    (Live.endCommand L n).pins.contactB = L.pins.contactB ∧
    (Live.endCommand L n).pins.elementOpen = L.pins.elementOpen ∧
    (Live.endCommand L n).pins.elemA = L.pins.elemA ∧
    (Live.endCommand L n).pins.elemB = L.pins.elemB ∧
    (Live.endCommand L n).pins.quarryRelays = L.pins.quarryRelays ∧
    (Live.endCommand L n).pins.fbKpOpen = L.pins.fbKpOpen ∧
    (Live.endCommand L n).pins.fbKnOpen = L.pins.fbKnOpen ∧
    (Live.endCommand L n).pins.sswOpen = L.pins.sswOpen ∧
    (Live.endCommand L n).saf.supplyLoss = L.saf.supplyLoss ∧
    (Live.endCommand L n).saf.fastLatch = L.saf.fastLatch ∧
    (Live.endCommand L n).saf.hazard = L.saf.hazard ∧
    (Live.endCommand L n).saf.precharge = L.saf.precharge ∧
    (Live.endCommand L n).saf.pairs = L.saf.pairs ∧
    (Live.endCommand L n).saf.eA = L.saf.eA ∧
    (Live.endCommand L n).saf.eB = L.saf.eB := by
  have h0 := @Live.dropX_keeps
  have h1 := @Live.dropX_frame
  simp only [Live.endCommand]
  (repeat' split) <;> simp [h0, h1]

theorem Live.toStep5_keeps (L : Live) :
    (Live.toStep5 L).mode.pendEnable = L.mode.pendEnable ∧
    (Live.toStep5 L).mode.booted = L.mode.booted ∧
    (Live.toStep5 L).mode.listening = L.mode.listening ∧
    (Live.toStep5 L).mode.quarryEntry = L.mode.quarryEntry ∧
    (Live.toStep5 L).pins.aux1 = L.pins.aux1 ∧
    (Live.toStep5 L).pins.aux2 = L.pins.aux2 ∧
    (Live.toStep5 L).pins.auxSince = L.pins.auxSince ∧
    (Live.toStep5 L).pins.holdup = L.pins.holdup ∧
    (Live.toStep5 L).pins.contactA = L.pins.contactA ∧
    (Live.toStep5 L).pins.contactB = L.pins.contactB ∧
    (Live.toStep5 L).pins.elementOpen = L.pins.elementOpen ∧
    (Live.toStep5 L).pins.elemA = L.pins.elemA ∧
    (Live.toStep5 L).pins.elemB = L.pins.elemB ∧
    (Live.toStep5 L).pins.quarryRelays = L.pins.quarryRelays ∧
    (Live.toStep5 L).pins.fbKpOpen = L.pins.fbKpOpen ∧
    (Live.toStep5 L).pins.fbKnOpen = L.pins.fbKnOpen ∧
    (Live.toStep5 L).pins.sswOpen = L.pins.sswOpen ∧
    (Live.toStep5 L).saf.supplyLoss = L.saf.supplyLoss ∧
    (Live.toStep5 L).saf.fastLatch = L.saf.fastLatch ∧
    (Live.toStep5 L).saf.hazard = L.saf.hazard ∧
    (Live.toStep5 L).saf.precharge = L.saf.precharge ∧
    (Live.toStep5 L).saf.pairs = L.saf.pairs ∧
    (Live.toStep5 L).saf.eA = L.saf.eA ∧
    (Live.toStep5 L).saf.eB = L.saf.eB := by
  have h0 := @Live.endCommand_frame
  have h1 := @Live.setSeq_keeps
  have h2 := @Live.endCommand_keeps
  have h3 := @Live.setSeq_frame
  have h4 := @Live.enterStandby_keeps
  simp only [Live.toStep5]
  (repeat' split) <;> simp [h0, h1, h2, h3, h4]

theorem Live.seq12_keeps (L : Live) :
    (Live.seq12 L).mode.st = L.mode.st ∧
    (Live.seq12 L).mode.pendEnable = L.mode.pendEnable ∧
    (Live.seq12 L).mode.booted = L.mode.booted ∧
    (Live.seq12 L).mode.listening = L.mode.listening ∧
    (Live.seq12 L).mode.quarryEntry = L.mode.quarryEntry ∧
    (Live.seq12 L).pins.aux1 = L.pins.aux1 ∧
    (Live.seq12 L).pins.aux2 = L.pins.aux2 ∧
    (Live.seq12 L).pins.auxSince = L.pins.auxSince ∧
    (Live.seq12 L).pins.holdup = L.pins.holdup ∧
    (Live.seq12 L).pins.contactA = L.pins.contactA ∧
    (Live.seq12 L).pins.contactB = L.pins.contactB ∧
    (Live.seq12 L).pins.elementOpen = L.pins.elementOpen ∧
    (Live.seq12 L).pins.elemA = L.pins.elemA ∧
    (Live.seq12 L).pins.elemB = L.pins.elemB ∧
    (Live.seq12 L).pins.quarryRelays = L.pins.quarryRelays ∧
    (Live.seq12 L).pins.fbKpOpen = L.pins.fbKpOpen ∧
    (Live.seq12 L).pins.fbKnOpen = L.pins.fbKnOpen ∧
    (Live.seq12 L).pins.sswOpen = L.pins.sswOpen := by
  have h0 := @Live.toStep2_keeps
  simp only [Live.seq12]
  (repeat' split) <;> simp [h0]

theorem Live.seq23_keeps (L : Live) :
    (Live.seq23 L).mode.st = L.mode.st ∧
    (Live.seq23 L).mode.pendEnable = L.mode.pendEnable ∧
    (Live.seq23 L).mode.booted = L.mode.booted ∧
    (Live.seq23 L).mode.listening = L.mode.listening ∧
    (Live.seq23 L).mode.quarryEntry = L.mode.quarryEntry ∧
    (Live.seq23 L).pins.aux1 = L.pins.aux1 ∧
    (Live.seq23 L).pins.aux2 = L.pins.aux2 ∧
    (Live.seq23 L).pins.auxSince = L.pins.auxSince ∧
    (Live.seq23 L).pins.holdup = L.pins.holdup ∧
    (Live.seq23 L).pins.fastOff = L.pins.fastOff ∧
    (Live.seq23 L).pins.elementOpen = L.pins.elementOpen ∧
    (Live.seq23 L).pins.elemA = L.pins.elemA ∧
    (Live.seq23 L).pins.elemB = L.pins.elemB ∧
    (Live.seq23 L).pins.quarryRelays = L.pins.quarryRelays ∧
    (Live.seq23 L).pins.fbKpOpen = L.pins.fbKpOpen ∧
    (Live.seq23 L).pins.fbKnOpen = L.pins.fbKnOpen ∧
    (Live.seq23 L).pins.sswOpen = L.pins.sswOpen ∧
    (Live.seq23 L).saf.supplyLoss = L.saf.supplyLoss ∧
    (Live.seq23 L).saf.fastLatch = L.saf.fastLatch ∧
    (Live.seq23 L).saf.hazard = L.saf.hazard ∧
    (Live.seq23 L).saf.precharge = L.saf.precharge ∧
    (Live.seq23 L).saf.ownCmd = L.saf.ownCmd ∧
    (Live.seq23 L).saf.pairs = L.saf.pairs ∧
    (Live.seq23 L).saf.eA = L.saf.eA ∧
    (Live.seq23 L).saf.eB = L.saf.eB := by
  have h0 := @Live.toStep3_keeps
  simp only [Live.seq23]
  (repeat' split) <;> simp [h0]

theorem Live.seq34_keeps (L : Live) :
    (Live.seq34 L).mode.st = L.mode.st ∧
    (Live.seq34 L).mode.pendEnable = L.mode.pendEnable ∧
    (Live.seq34 L).mode.booted = L.mode.booted ∧
    (Live.seq34 L).mode.listening = L.mode.listening ∧
    (Live.seq34 L).mode.quarryEntry = L.mode.quarryEntry := by
  have h0 := @Live.toStep4_keeps
  simp only [Live.seq34]
  (repeat' split) <;> simp [h0]

theorem Live.seq45_keeps (L : Live) :
    (Live.seq45 L).mode.pendEnable = L.mode.pendEnable ∧
    (Live.seq45 L).mode.booted = L.mode.booted ∧
    (Live.seq45 L).mode.listening = L.mode.listening ∧
    (Live.seq45 L).mode.quarryEntry = L.mode.quarryEntry ∧
    (Live.seq45 L).pins.aux1 = L.pins.aux1 ∧
    (Live.seq45 L).pins.aux2 = L.pins.aux2 ∧
    (Live.seq45 L).pins.auxSince = L.pins.auxSince ∧
    (Live.seq45 L).pins.holdup = L.pins.holdup ∧
    (Live.seq45 L).pins.contactA = L.pins.contactA ∧
    (Live.seq45 L).pins.contactB = L.pins.contactB ∧
    (Live.seq45 L).pins.elementOpen = L.pins.elementOpen ∧
    (Live.seq45 L).pins.elemA = L.pins.elemA ∧
    (Live.seq45 L).pins.elemB = L.pins.elemB ∧
    (Live.seq45 L).pins.quarryRelays = L.pins.quarryRelays ∧
    (Live.seq45 L).pins.fbKpOpen = L.pins.fbKpOpen ∧
    (Live.seq45 L).pins.fbKnOpen = L.pins.fbKnOpen ∧
    (Live.seq45 L).pins.sswOpen = L.pins.sswOpen ∧
    (Live.seq45 L).saf.supplyLoss = L.saf.supplyLoss ∧
    (Live.seq45 L).saf.fastLatch = L.saf.fastLatch ∧
    (Live.seq45 L).saf.hazard = L.saf.hazard ∧
    (Live.seq45 L).saf.precharge = L.saf.precharge ∧
    (Live.seq45 L).saf.pairs = L.saf.pairs ∧
    (Live.seq45 L).saf.eA = L.saf.eA ∧
    (Live.seq45 L).saf.eB = L.saf.eB := by
  have h0 := @Live.toStep5_keeps
  simp only [Live.seq45]
  (repeat' split) <;> simp [h0]

theorem Live.seqOn_keeps (L : Live) :
    (Live.seqOn L).mode.pendEnable = L.mode.pendEnable ∧
    (Live.seqOn L).mode.booted = L.mode.booted ∧
    (Live.seqOn L).mode.listening = L.mode.listening ∧
    (Live.seqOn L).mode.quarryEntry = L.mode.quarryEntry ∧
    (Live.seqOn L).pins.aux1 = L.pins.aux1 ∧
    (Live.seqOn L).pins.aux2 = L.pins.aux2 ∧
    (Live.seqOn L).pins.auxSince = L.pins.auxSince ∧
    (Live.seqOn L).pins.holdup = L.pins.holdup ∧
    (Live.seqOn L).pins.elementOpen = L.pins.elementOpen ∧
    (Live.seqOn L).pins.elemA = L.pins.elemA ∧
    (Live.seqOn L).pins.elemB = L.pins.elemB ∧
    (Live.seqOn L).pins.quarryRelays = L.pins.quarryRelays ∧
    (Live.seqOn L).pins.fbKpOpen = L.pins.fbKpOpen ∧
    (Live.seqOn L).pins.fbKnOpen = L.pins.fbKnOpen ∧
    (Live.seqOn L).pins.sswOpen = L.pins.sswOpen ∧
    (Live.seqOn L).saf.supplyLoss = L.saf.supplyLoss ∧
    (Live.seqOn L).saf.fastLatch = L.saf.fastLatch ∧
    (Live.seqOn L).saf.hazard = L.saf.hazard ∧
    (Live.seqOn L).saf.precharge = L.saf.precharge ∧
    (Live.seqOn L).saf.pairs = L.saf.pairs ∧
    (Live.seqOn L).saf.eA = L.saf.eA ∧
    (Live.seqOn L).saf.eB = L.saf.eB := by
  have h0 := @Live.seq45_keeps
  have h1 := @Live.seq34_keeps
  have h2 := @Live.seq23_keeps
  have h3 := @Live.seq12_keeps
  have h4 := @Live.seq34_frame
  have h5 := @Live.seq12_frame
  simp [Live.seqOn, h0, h1, h2, h3, h4, h5]

theorem Live.cancelPending_keeps (L : Live) (r : Nat) :
    (Live.cancelPending L r).mode.st = L.mode.st ∧
    (Live.cancelPending L r).mode.booted = L.mode.booted ∧
    (Live.cancelPending L r).mode.listening = L.mode.listening ∧
    (Live.cancelPending L r).mode.quarryEntry = L.mode.quarryEntry := by
  have h0 := @Live.result_frame
  simp [Live.cancelPending, h0]

theorem Live.enterSafe_keeps (L : Live) (kind : SeqKind) :
    (Live.enterSafe L kind).mode.booted = L.mode.booted ∧
    (Live.enterSafe L kind).mode.listening = L.mode.listening ∧
    (Live.enterSafe L kind).mode.quarryEntry = L.mode.quarryEntry ∧
    (Live.enterSafe L kind).pins.aux1 = L.pins.aux1 ∧
    (Live.enterSafe L kind).pins.aux2 = L.pins.aux2 ∧
    (Live.enterSafe L kind).pins.auxSince = L.pins.auxSince ∧
    (Live.enterSafe L kind).pins.holdup = L.pins.holdup ∧
    (Live.enterSafe L kind).pins.elementOpen = L.pins.elementOpen ∧
    (Live.enterSafe L kind).pins.elemA = L.pins.elemA ∧
    (Live.enterSafe L kind).pins.elemB = L.pins.elemB ∧
    (Live.enterSafe L kind).pins.quarryRelays = L.pins.quarryRelays ∧
    (Live.enterSafe L kind).pins.fbKpOpen = L.pins.fbKpOpen ∧
    (Live.enterSafe L kind).pins.fbKnOpen = L.pins.fbKnOpen ∧
    (Live.enterSafe L kind).pins.sswOpen = L.pins.sswOpen ∧
    (Live.enterSafe L kind).saf.supplyLoss = L.saf.supplyLoss ∧
    (Live.enterSafe L kind).saf.fastLatch = L.saf.fastLatch ∧
    (Live.enterSafe L kind).saf.hazard = L.saf.hazard ∧
    (Live.enterSafe L kind).saf.precharge = L.saf.precharge ∧
    (Live.enterSafe L kind).saf.pairs = L.saf.pairs ∧
    (Live.enterSafe L kind).saf.eA = L.saf.eA ∧
    (Live.enterSafe L kind).saf.eB = L.saf.eB := by
  have h0 := @Live.seqOn_keeps
  have h1 := @Live.setSeq_keeps
  have h2 := @Live.toStep2_keeps
  have h3 := @Live.setSeq_frame
  have h4 := @Live.toStep2_frame
  have h5 := @Live.setState_keeps
  have h6 := @Live.cancelPending_keeps
  have h7 := @Live.setState_frame
  have h8 := @Live.cancelPending_frame
  simp only [Live.enterSafe]
  (repeat' split) <;> simp [h0, h1, h2, h3, h4, h5, h6, h7, h8]

theorem Live.releaseTwin_keeps (L : Live) :
    (Live.releaseTwin L).mode.booted = L.mode.booted ∧
    (Live.releaseTwin L).mode.listening = L.mode.listening ∧
    (Live.releaseTwin L).mode.quarryEntry = L.mode.quarryEntry ∧
    (Live.releaseTwin L).pins.aux1 = L.pins.aux1 ∧
    (Live.releaseTwin L).pins.aux2 = L.pins.aux2 ∧
    (Live.releaseTwin L).pins.auxSince = L.pins.auxSince ∧
    (Live.releaseTwin L).pins.holdup = L.pins.holdup ∧
    (Live.releaseTwin L).pins.elementOpen = L.pins.elementOpen ∧
    (Live.releaseTwin L).pins.elemA = L.pins.elemA ∧
    (Live.releaseTwin L).pins.elemB = L.pins.elemB ∧
    (Live.releaseTwin L).pins.quarryRelays = L.pins.quarryRelays ∧
    (Live.releaseTwin L).pins.fbKpOpen = L.pins.fbKpOpen ∧
    (Live.releaseTwin L).pins.fbKnOpen = L.pins.fbKnOpen ∧
    (Live.releaseTwin L).pins.sswOpen = L.pins.sswOpen ∧
    (Live.releaseTwin L).saf.supplyLoss = L.saf.supplyLoss ∧
    (Live.releaseTwin L).saf.fastLatch = L.saf.fastLatch ∧
    (Live.releaseTwin L).saf.hazard = L.saf.hazard ∧
    (Live.releaseTwin L).saf.precharge = L.saf.precharge ∧
    (Live.releaseTwin L).saf.ownCmd = L.saf.ownCmd ∧
    (Live.releaseTwin L).saf.pairs = L.saf.pairs ∧
    (Live.releaseTwin L).saf.eA = L.saf.eA ∧
    (Live.releaseTwin L).saf.eB = L.saf.eB ∧
    (Live.releaseTwin L).twin.pair = L.twin.pair ∧
    (Live.releaseTwin L).twin.gen = L.twin.gen ∧
    (Live.releaseTwin L).twin.p = L.twin.p ∧
    (Live.releaseTwin L).twin.transfer = L.twin.transfer ∧
    (Live.releaseTwin L).twin.check = L.twin.check := by
  have h0 := @Live.openLoop_frame
  have h1 := @Live.cutFast_frame
  have h2 := @Live.insRelay_frame
  have h3 := @Live.setState_frame
  have h4 := @Live.cancelPending_frame
  have h5 := @Live.setState_keeps
  have h6 := @Live.cancelPending_keeps
  have h7 := @Live.insRelay_keeps
  have h8 := @Live.openLoop_keeps
  have h9 := @Live.cutFast_keeps
  simp [Live.releaseTwin, h0, h1, h2, h3, h4, h5, h6, h7, h8, h9]

theorem Live.openElement_keeps (L : Live) (why ch : Nat) :
    (Live.openElement L why ch).pins.aux1 = L.pins.aux1 ∧
    (Live.openElement L why ch).pins.aux2 = L.pins.aux2 ∧
    (Live.openElement L why ch).pins.auxSince = L.pins.auxSince ∧
    (Live.openElement L why ch).pins.holdup = L.pins.holdup ∧
    (Live.openElement L why ch).pins.fastOff = L.pins.fastOff ∧
    (Live.openElement L why ch).pins.contactA = L.pins.contactA ∧
    (Live.openElement L why ch).pins.contactB = L.pins.contactB ∧
    (Live.openElement L why ch).pins.quarryRelays = L.pins.quarryRelays ∧
    (Live.openElement L why ch).pins.fbKpOpen = L.pins.fbKpOpen ∧
    (Live.openElement L why ch).pins.fbKnOpen = L.pins.fbKnOpen ∧
    (Live.openElement L why ch).pins.sswOpen = L.pins.sswOpen ∧
    (Live.openElement L why ch).saf.supplyLoss = L.saf.supplyLoss ∧
    (Live.openElement L why ch).saf.fastLatch = L.saf.fastLatch ∧
    (Live.openElement L why ch).saf.hazard = L.saf.hazard ∧
    (Live.openElement L why ch).saf.precharge = L.saf.precharge ∧
    (Live.openElement L why ch).saf.ownCmd = L.saf.ownCmd ∧
    (Live.openElement L why ch).saf.pairs = L.saf.pairs ∧
    (Live.openElement L why ch).saf.eA = L.saf.eA ∧
    (Live.openElement L why ch).saf.eB = L.saf.eB := by
  simp [Live.openElement]

theorem Live.commandPartner_keeps (L : Live) (c : TripCmd) :
    (Live.commandPartner L c).pins.aux1 = L.pins.aux1 ∧
    (Live.commandPartner L c).pins.aux2 = L.pins.aux2 ∧
    (Live.commandPartner L c).pins.auxSince = L.pins.auxSince ∧
    (Live.commandPartner L c).pins.holdup = L.pins.holdup ∧
    (Live.commandPartner L c).pins.fastOff = L.pins.fastOff ∧
    (Live.commandPartner L c).pins.contactA = L.pins.contactA ∧
    (Live.commandPartner L c).pins.contactB = L.pins.contactB ∧
    (Live.commandPartner L c).pins.elementOpen = L.pins.elementOpen ∧
    (Live.commandPartner L c).pins.elemA = L.pins.elemA ∧
    (Live.commandPartner L c).pins.elemB = L.pins.elemB ∧
    (Live.commandPartner L c).pins.quarryRelays = L.pins.quarryRelays ∧
    (Live.commandPartner L c).pins.fbKpOpen = L.pins.fbKpOpen ∧
    (Live.commandPartner L c).pins.fbKnOpen = L.pins.fbKnOpen ∧
    (Live.commandPartner L c).pins.sswOpen = L.pins.sswOpen ∧
    (Live.commandPartner L c).saf.supplyLoss = L.saf.supplyLoss ∧
    (Live.commandPartner L c).saf.fastLatch = L.saf.fastLatch ∧
    (Live.commandPartner L c).saf.hazard = L.saf.hazard ∧
    (Live.commandPartner L c).saf.precharge = L.saf.precharge ∧
    (Live.commandPartner L c).saf.pairs = L.saf.pairs ∧
    (Live.commandPartner L c).saf.eA = L.saf.eA ∧
    (Live.commandPartner L c).saf.eB = L.saf.eB := by
  have h0 := @Live.pullX_keeps
  have h1 := @Live.pullX_frame
  simp only [Live.commandPartner]
  (repeat' split) <;> simp [h0, h1]

theorem Live.latchCause_keeps (L : Live) (n ch : Nat) :
    (Live.latchCause L n ch).saf.supplyLoss = L.saf.supplyLoss ∧
    (Live.latchCause L n ch).saf.fastLatch = L.saf.fastLatch ∧
    (Live.latchCause L n ch).saf.hazard = L.saf.hazard ∧
    (Live.latchCause L n ch).saf.precharge = L.saf.precharge ∧
    (Live.latchCause L n ch).saf.ownCmd = L.saf.ownCmd ∧
    (Live.latchCause L n ch).saf.pairs = L.saf.pairs ∧
    (Live.latchCause L n ch).saf.eA = L.saf.eA ∧
    (Live.latchCause L n ch).saf.eB = L.saf.eB := by
  simp [Live.latchCause]

theorem Live.countSf11_keeps (L : Live) :
    (Live.countSf11 L).saf.supplyLoss = L.saf.supplyLoss ∧
    (Live.countSf11 L).saf.fastLatch = L.saf.fastLatch ∧
    (Live.countSf11 L).saf.hazard = L.saf.hazard ∧
    (Live.countSf11 L).saf.precharge = L.saf.precharge ∧
    (Live.countSf11 L).saf.ownCmd = L.saf.ownCmd ∧
    (Live.countSf11 L).saf.pairs = L.saf.pairs ∧
    (Live.countSf11 L).saf.eA = L.saf.eA ∧
    (Live.countSf11 L).saf.eB = L.saf.eB := by
  simp [Live.countSf11]

theorem Live.tripAct_keeps (L : Live) (n ch : Nat) (classF bay : Bool) :
    (Live.tripAct L n ch classF bay).mode.booted = L.mode.booted ∧
    (Live.tripAct L n ch classF bay).mode.listening = L.mode.listening ∧
    (Live.tripAct L n ch classF bay).mode.quarryEntry = L.mode.quarryEntry ∧
    (Live.tripAct L n ch classF bay).pins.aux1 = L.pins.aux1 ∧
    (Live.tripAct L n ch classF bay).pins.aux2 = L.pins.aux2 ∧
    (Live.tripAct L n ch classF bay).pins.auxSince = L.pins.auxSince ∧
    (Live.tripAct L n ch classF bay).pins.holdup = L.pins.holdup ∧
    (Live.tripAct L n ch classF bay).pins.quarryRelays = L.pins.quarryRelays ∧
    (Live.tripAct L n ch classF bay).pins.fbKpOpen = L.pins.fbKpOpen ∧
    (Live.tripAct L n ch classF bay).pins.fbKnOpen = L.pins.fbKnOpen ∧
    (Live.tripAct L n ch classF bay).pins.sswOpen = L.pins.sswOpen ∧
    (Live.tripAct L n ch classF bay).saf.supplyLoss = L.saf.supplyLoss ∧
    (Live.tripAct L n ch classF bay).saf.fastLatch = L.saf.fastLatch ∧
    (Live.tripAct L n ch classF bay).saf.precharge = L.saf.precharge ∧
    (Live.tripAct L n ch classF bay).saf.pairs = L.saf.pairs ∧
    (Live.tripAct L n ch classF bay).saf.eA = L.saf.eA ∧
    (Live.tripAct L n ch classF bay).saf.eB = L.saf.eB ∧
    (Live.tripAct L n ch classF bay).twin.pair = L.twin.pair ∧
    (Live.tripAct L n ch classF bay).twin.gen = L.twin.gen ∧
    (Live.tripAct L n ch classF bay).twin.p = L.twin.p ∧
    (Live.tripAct L n ch classF bay).twin.transfer = L.twin.transfer ∧
    (Live.tripAct L n ch classF bay).twin.check = L.twin.check := by
  have h0 := @Live.commandPartner_frame
  have h1 := @Live.commandPartner_keeps
  have h2 := @Live.enterSafe_keeps
  have h3 := @Live.enterSafe_frame
  have h4 := @Live.setPath_frame
  have h5 := @Live.setPath_keeps
  have h6 := @Live.releaseTwin_keeps
  have h7 := @Live.openElement_frame
  have h8 := @Live.openElement_keeps
  simp only [Live.tripAct]
  (repeat' split) <;> simp [h0, h1, h2, h3, h4, h5, h6, h7, h8]

theorem Live.trip_keeps (L : Live) (n ch code : Nat) (classF bay : Bool) :
    (Live.trip L n ch code classF bay).mode.booted = L.mode.booted ∧
    (Live.trip L n ch code classF bay).mode.listening = L.mode.listening ∧
    (Live.trip L n ch code classF bay).mode.quarryEntry = L.mode.quarryEntry ∧
    (Live.trip L n ch code classF bay).pins.aux1 = L.pins.aux1 ∧
    (Live.trip L n ch code classF bay).pins.aux2 = L.pins.aux2 ∧
    (Live.trip L n ch code classF bay).pins.auxSince = L.pins.auxSince ∧
    (Live.trip L n ch code classF bay).pins.holdup = L.pins.holdup ∧
    (Live.trip L n ch code classF bay).pins.quarryRelays = L.pins.quarryRelays ∧
    (Live.trip L n ch code classF bay).pins.fbKpOpen = L.pins.fbKpOpen ∧
    (Live.trip L n ch code classF bay).pins.fbKnOpen = L.pins.fbKnOpen ∧
    (Live.trip L n ch code classF bay).pins.sswOpen = L.pins.sswOpen ∧
    (Live.trip L n ch code classF bay).saf.supplyLoss = L.saf.supplyLoss ∧
    (Live.trip L n ch code classF bay).saf.fastLatch = L.saf.fastLatch ∧
    (Live.trip L n ch code classF bay).saf.precharge = L.saf.precharge ∧
    (Live.trip L n ch code classF bay).saf.pairs = L.saf.pairs ∧
    (Live.trip L n ch code classF bay).saf.eA = L.saf.eA ∧
    (Live.trip L n ch code classF bay).saf.eB = L.saf.eB ∧
    (Live.trip L n ch code classF bay).twin.pair = L.twin.pair ∧
    (Live.trip L n ch code classF bay).twin.gen = L.twin.gen ∧
    (Live.trip L n ch code classF bay).twin.p = L.twin.p ∧
    (Live.trip L n ch code classF bay).twin.transfer = L.twin.transfer ∧
    (Live.trip L n ch code classF bay).twin.check = L.twin.check := by
  have h0 := @Live.tripAct_keeps
  have h1 := @Live.latchCause_frame
  have h2 := @Live.latchCause_keeps
  have h3 := @Live.countSf11_frame
  have h4 := @Live.countSf11_keeps
  have h5 := @Live.openElement_frame
  have h6 := @Live.openElement_keeps
  simp only [Live.trip]
  (repeat' split) <;> simp [h0, h1, h2, h3, h4, h5, h6]

theorem Live.sf12_keeps (L : Live) (ch : Nat) :
    (Live.sf12 L ch).mode.booted = L.mode.booted ∧
    (Live.sf12 L ch).mode.listening = L.mode.listening ∧
    (Live.sf12 L ch).mode.quarryEntry = L.mode.quarryEntry ∧
    (Live.sf12 L ch).pins.aux1 = L.pins.aux1 ∧
    (Live.sf12 L ch).pins.aux2 = L.pins.aux2 ∧
    (Live.sf12 L ch).pins.auxSince = L.pins.auxSince ∧
    (Live.sf12 L ch).pins.holdup = L.pins.holdup ∧
    (Live.sf12 L ch).pins.quarryRelays = L.pins.quarryRelays ∧
    (Live.sf12 L ch).pins.fbKpOpen = L.pins.fbKpOpen ∧
    (Live.sf12 L ch).pins.fbKnOpen = L.pins.fbKnOpen ∧
    (Live.sf12 L ch).pins.sswOpen = L.pins.sswOpen ∧
    (Live.sf12 L ch).saf.supplyLoss = L.saf.supplyLoss ∧
    (Live.sf12 L ch).saf.fastLatch = L.saf.fastLatch ∧
    (Live.sf12 L ch).saf.precharge = L.saf.precharge ∧
    (Live.sf12 L ch).saf.pairs = L.saf.pairs ∧
    (Live.sf12 L ch).saf.eA = L.saf.eA ∧
    (Live.sf12 L ch).saf.eB = L.saf.eB ∧
    (Live.sf12 L ch).twin.pair = L.twin.pair ∧
    (Live.sf12 L ch).twin.gen = L.twin.gen ∧
    (Live.sf12 L ch).twin.p = L.twin.p ∧
    (Live.sf12 L ch).twin.transfer = L.twin.transfer ∧
    (Live.sf12 L ch).twin.check = L.twin.check := by
  have h0 := @Live.trip_keeps
  simp [Live.sf12, h0]

theorem Live.endActive_keeps (L : Live) (n : Nat) :
    (Live.endActive L n).pins.aux1 = L.pins.aux1 ∧
    (Live.endActive L n).pins.aux2 = L.pins.aux2 ∧
    (Live.endActive L n).pins.auxSince = L.pins.auxSince ∧
    (Live.endActive L n).pins.holdup = L.pins.holdup ∧
    (Live.endActive L n).pins.fastOff = L.pins.fastOff ∧
    (Live.endActive L n).pins.contactA = L.pins.contactA ∧
    (Live.endActive L n).pins.contactB = L.pins.contactB ∧
    (Live.endActive L n).pins.elementOpen = L.pins.elementOpen ∧
    (Live.endActive L n).pins.elemA = L.pins.elemA ∧
    (Live.endActive L n).pins.elemB = L.pins.elemB ∧
    (Live.endActive L n).pins.quarryRelays = L.pins.quarryRelays ∧
    (Live.endActive L n).pins.fbKpOpen = L.pins.fbKpOpen ∧
    (Live.endActive L n).pins.fbKnOpen = L.pins.fbKnOpen ∧
    (Live.endActive L n).pins.sswOpen = L.pins.sswOpen ∧
    (Live.endActive L n).saf.supplyLoss = L.saf.supplyLoss ∧
    (Live.endActive L n).saf.fastLatch = L.saf.fastLatch ∧
    (Live.endActive L n).saf.hazard = L.saf.hazard ∧
    (Live.endActive L n).saf.precharge = L.saf.precharge ∧
    (Live.endActive L n).saf.pairs = L.saf.pairs ∧
    (Live.endActive L n).saf.eA = L.saf.eA ∧
    (Live.endActive L n).saf.eB = L.saf.eB := by
  have h0 := @Live.endCommand_keeps
  simp [Live.endActive, h0]

theorem Live.releaseCause_keeps (L : Live) (n : Nat) :
    (Live.releaseCause L n).pins.aux1 = L.pins.aux1 ∧
    (Live.releaseCause L n).pins.aux2 = L.pins.aux2 ∧
    (Live.releaseCause L n).pins.auxSince = L.pins.auxSince ∧
    (Live.releaseCause L n).pins.holdup = L.pins.holdup ∧
    (Live.releaseCause L n).pins.fastOff = L.pins.fastOff ∧
    (Live.releaseCause L n).pins.contactA = L.pins.contactA ∧
    (Live.releaseCause L n).pins.contactB = L.pins.contactB ∧
    (Live.releaseCause L n).pins.elementOpen = L.pins.elementOpen ∧
    (Live.releaseCause L n).pins.elemA = L.pins.elemA ∧
    (Live.releaseCause L n).pins.elemB = L.pins.elemB ∧
    (Live.releaseCause L n).pins.quarryRelays = L.pins.quarryRelays ∧
    (Live.releaseCause L n).pins.fbKpOpen = L.pins.fbKpOpen ∧
    (Live.releaseCause L n).pins.fbKnOpen = L.pins.fbKnOpen ∧
    (Live.releaseCause L n).pins.sswOpen = L.pins.sswOpen ∧
    (Live.releaseCause L n).saf.supplyLoss = L.saf.supplyLoss ∧
    (Live.releaseCause L n).saf.fastLatch = L.saf.fastLatch ∧
    (Live.releaseCause L n).saf.hazard = L.saf.hazard ∧
    (Live.releaseCause L n).saf.precharge = L.saf.precharge ∧
    (Live.releaseCause L n).saf.pairs = L.saf.pairs ∧
    (Live.releaseCause L n).saf.eA = L.saf.eA ∧
    (Live.releaseCause L n).saf.eB = L.saf.eB := by
  have h0 := @Live.endActive_frame
  have h1 := @Live.endActive_keeps
  simp [Live.releaseCause, h0, h1]

theorem Live.closeIfDue_keeps (L : Live) :
    (Live.closeIfDue L).pins.aux1 = L.pins.aux1 ∧
    (Live.closeIfDue L).pins.aux2 = L.pins.aux2 ∧
    (Live.closeIfDue L).pins.auxSince = L.pins.auxSince ∧
    (Live.closeIfDue L).pins.holdup = L.pins.holdup ∧
    (Live.closeIfDue L).pins.fastOff = L.pins.fastOff ∧
    (Live.closeIfDue L).pins.contactA = L.pins.contactA ∧
    (Live.closeIfDue L).pins.contactB = L.pins.contactB ∧
    (Live.closeIfDue L).pins.quarryRelays = L.pins.quarryRelays ∧
    (Live.closeIfDue L).pins.fbKpOpen = L.pins.fbKpOpen ∧
    (Live.closeIfDue L).pins.fbKnOpen = L.pins.fbKnOpen ∧
    (Live.closeIfDue L).pins.sswOpen = L.pins.sswOpen ∧
    (Live.closeIfDue L).saf.supplyLoss = L.saf.supplyLoss ∧
    (Live.closeIfDue L).saf.fastLatch = L.saf.fastLatch ∧
    (Live.closeIfDue L).saf.hazard = L.saf.hazard ∧
    (Live.closeIfDue L).saf.precharge = L.saf.precharge ∧
    (Live.closeIfDue L).saf.ownCmd = L.saf.ownCmd ∧
    (Live.closeIfDue L).saf.pairs = L.saf.pairs ∧
    (Live.closeIfDue L).saf.eA = L.saf.eA ∧
    (Live.closeIfDue L).saf.eB = L.saf.eB := by
  simp only [Live.closeIfDue]
  (repeat' split) <;> simp

theorem Live.closeElement_keeps (L : Live) (why : Nat) :
    (Live.closeElement L why).pins.aux1 = L.pins.aux1 ∧
    (Live.closeElement L why).pins.aux2 = L.pins.aux2 ∧
    (Live.closeElement L why).pins.auxSince = L.pins.auxSince ∧
    (Live.closeElement L why).pins.holdup = L.pins.holdup ∧
    (Live.closeElement L why).pins.fastOff = L.pins.fastOff ∧
    (Live.closeElement L why).pins.contactA = L.pins.contactA ∧
    (Live.closeElement L why).pins.contactB = L.pins.contactB ∧
    (Live.closeElement L why).pins.quarryRelays = L.pins.quarryRelays ∧
    (Live.closeElement L why).pins.fbKpOpen = L.pins.fbKpOpen ∧
    (Live.closeElement L why).pins.fbKnOpen = L.pins.fbKnOpen ∧
    (Live.closeElement L why).pins.sswOpen = L.pins.sswOpen ∧
    (Live.closeElement L why).saf.supplyLoss = L.saf.supplyLoss ∧
    (Live.closeElement L why).saf.fastLatch = L.saf.fastLatch ∧
    (Live.closeElement L why).saf.hazard = L.saf.hazard ∧
    (Live.closeElement L why).saf.precharge = L.saf.precharge ∧
    (Live.closeElement L why).saf.ownCmd = L.saf.ownCmd ∧
    (Live.closeElement L why).saf.pairs = L.saf.pairs ∧
    (Live.closeElement L why).saf.eA = L.saf.eA ∧
    (Live.closeElement L why).saf.eB = L.saf.eB := by
  have h0 := @Live.closeIfDue_keeps
  simp [Live.closeElement, h0]

theorem Live.prechargeFault_keeps (L : Live) (code : Nat) :
    (Live.prechargeFault L code).mode.booted = L.mode.booted ∧
    (Live.prechargeFault L code).mode.listening = L.mode.listening ∧
    (Live.prechargeFault L code).mode.quarryEntry = L.mode.quarryEntry ∧
    (Live.prechargeFault L code).pins.aux1 = L.pins.aux1 ∧
    (Live.prechargeFault L code).pins.aux2 = L.pins.aux2 ∧
    (Live.prechargeFault L code).pins.auxSince = L.pins.auxSince ∧
    (Live.prechargeFault L code).pins.holdup = L.pins.holdup ∧
    (Live.prechargeFault L code).pins.elementOpen = L.pins.elementOpen ∧
    (Live.prechargeFault L code).pins.elemA = L.pins.elemA ∧
    (Live.prechargeFault L code).pins.elemB = L.pins.elemB ∧
    (Live.prechargeFault L code).pins.quarryRelays = L.pins.quarryRelays ∧
    (Live.prechargeFault L code).pins.fbKpOpen = L.pins.fbKpOpen ∧
    (Live.prechargeFault L code).pins.fbKnOpen = L.pins.fbKnOpen ∧
    (Live.prechargeFault L code).pins.sswOpen = L.pins.sswOpen ∧
    (Live.prechargeFault L code).saf.supplyLoss = L.saf.supplyLoss ∧
    (Live.prechargeFault L code).saf.fastLatch = L.saf.fastLatch ∧
    (Live.prechargeFault L code).saf.hazard = L.saf.hazard ∧
    (Live.prechargeFault L code).saf.pairs = L.saf.pairs ∧
    (Live.prechargeFault L code).saf.eA = L.saf.eA ∧
    (Live.prechargeFault L code).saf.eB = L.saf.eB := by
  have h0 := @Live.enterSafe_keeps
  simp [Live.prechargeFault, h0]

theorem Live.supplyLossSafe_keeps (L : Live) :
    (Live.supplyLossSafe L).mode.booted = L.mode.booted ∧
    (Live.supplyLossSafe L).mode.listening = L.mode.listening ∧
    (Live.supplyLossSafe L).mode.quarryEntry = L.mode.quarryEntry ∧
    (Live.supplyLossSafe L).pins.aux1 = L.pins.aux1 ∧
    (Live.supplyLossSafe L).pins.aux2 = L.pins.aux2 ∧
    (Live.supplyLossSafe L).pins.auxSince = L.pins.auxSince ∧
    (Live.supplyLossSafe L).pins.holdup = L.pins.holdup ∧
    (Live.supplyLossSafe L).pins.elementOpen = L.pins.elementOpen ∧
    (Live.supplyLossSafe L).pins.elemA = L.pins.elemA ∧
    (Live.supplyLossSafe L).pins.elemB = L.pins.elemB ∧
    (Live.supplyLossSafe L).pins.quarryRelays = L.pins.quarryRelays ∧
    (Live.supplyLossSafe L).pins.fbKpOpen = L.pins.fbKpOpen ∧
    (Live.supplyLossSafe L).pins.fbKnOpen = L.pins.fbKnOpen ∧
    (Live.supplyLossSafe L).pins.sswOpen = L.pins.sswOpen ∧
    (Live.supplyLossSafe L).saf.fastLatch = L.saf.fastLatch ∧
    (Live.supplyLossSafe L).saf.hazard = L.saf.hazard ∧
    (Live.supplyLossSafe L).saf.precharge = L.saf.precharge ∧
    (Live.supplyLossSafe L).saf.pairs = L.saf.pairs ∧
    (Live.supplyLossSafe L).saf.eA = L.saf.eA ∧
    (Live.supplyLossSafe L).saf.eB = L.saf.eB := by
  have h0 := @Live.enterSafe_keeps
  simp [Live.supplyLossSafe, h0]

theorem Live.alsoB_keeps (L : Live) (n : Nat) (classF : Bool) :
    (Live.alsoB L n classF).pins.aux1 = L.pins.aux1 ∧
    (Live.alsoB L n classF).pins.aux2 = L.pins.aux2 ∧
    (Live.alsoB L n classF).pins.auxSince = L.pins.auxSince ∧
    (Live.alsoB L n classF).pins.holdup = L.pins.holdup ∧
    (Live.alsoB L n classF).pins.contactA = L.pins.contactA ∧
    (Live.alsoB L n classF).pins.contactB = L.pins.contactB ∧
    (Live.alsoB L n classF).pins.elementOpen = L.pins.elementOpen ∧
    (Live.alsoB L n classF).pins.elemA = L.pins.elemA ∧
    (Live.alsoB L n classF).pins.elemB = L.pins.elemB ∧
    (Live.alsoB L n classF).pins.quarryRelays = L.pins.quarryRelays ∧
    (Live.alsoB L n classF).pins.fbKpOpen = L.pins.fbKpOpen ∧
    (Live.alsoB L n classF).pins.fbKnOpen = L.pins.fbKnOpen ∧
    (Live.alsoB L n classF).pins.sswOpen = L.pins.sswOpen ∧
    (Live.alsoB L n classF).saf.supplyLoss = L.saf.supplyLoss ∧
    (Live.alsoB L n classF).saf.fastLatch = L.saf.fastLatch ∧
    (Live.alsoB L n classF).saf.hazard = L.saf.hazard ∧
    (Live.alsoB L n classF).saf.precharge = L.saf.precharge ∧
    (Live.alsoB L n classF).saf.ownCmd = L.saf.ownCmd ∧
    (Live.alsoB L n classF).saf.pairs = L.saf.pairs ∧
    (Live.alsoB L n classF).saf.eA = L.saf.eA ∧
    (Live.alsoB L n classF).saf.eB = L.saf.eB := by
  have h0 := @Live.setPath_keeps
  have h1 := @Live.setPath_frame
  simp only [Live.alsoB]
  (repeat' split) <;> simp [h0, h1]

theorem Live.sf09_keeps (L : Live) (code : Nat) (block trips classF : Bool) :
    (Live.sf09 L code block trips classF).mode.booted = L.mode.booted ∧
    (Live.sf09 L code block trips classF).mode.listening = L.mode.listening ∧
    (Live.sf09 L code block trips classF).mode.quarryEntry = L.mode.quarryEntry ∧
    (Live.sf09 L code block trips classF).pins.aux1 = L.pins.aux1 ∧
    (Live.sf09 L code block trips classF).pins.aux2 = L.pins.aux2 ∧
    (Live.sf09 L code block trips classF).pins.auxSince = L.pins.auxSince ∧
    (Live.sf09 L code block trips classF).pins.holdup = L.pins.holdup ∧
    (Live.sf09 L code block trips classF).pins.quarryRelays = L.pins.quarryRelays ∧
    (Live.sf09 L code block trips classF).pins.fbKpOpen = L.pins.fbKpOpen ∧
    (Live.sf09 L code block trips classF).pins.fbKnOpen = L.pins.fbKnOpen ∧
    (Live.sf09 L code block trips classF).pins.sswOpen = L.pins.sswOpen ∧
    (Live.sf09 L code block trips classF).saf.supplyLoss = L.saf.supplyLoss ∧
    (Live.sf09 L code block trips classF).saf.fastLatch = L.saf.fastLatch ∧
    (Live.sf09 L code block trips classF).saf.precharge = L.saf.precharge ∧
    (Live.sf09 L code block trips classF).saf.pairs = L.saf.pairs ∧
    (Live.sf09 L code block trips classF).saf.eA = L.saf.eA ∧
    (Live.sf09 L code block trips classF).saf.eB = L.saf.eB ∧
    (Live.sf09 L code block trips classF).twin.pair = L.twin.pair ∧
    (Live.sf09 L code block trips classF).twin.gen = L.twin.gen ∧
    (Live.sf09 L code block trips classF).twin.p = L.twin.p ∧
    (Live.sf09 L code block trips classF).twin.transfer = L.twin.transfer ∧
    (Live.sf09 L code block trips classF).twin.check = L.twin.check := by
  have h0 := @Live.latchCause_frame
  have h1 := @Live.latchCause_keeps
  have h2 := @Live.alsoB_frame
  have h3 := @Live.tripAct_keeps
  have h4 := @Live.alsoB_keeps
  simp only [Live.sf09]
  (repeat' split) <;> simp [h0, h1, h2, h3, h4]

theorem Live.auxWatch_keeps (L : Live) :
    (Live.auxWatch L).mode.booted = L.mode.booted ∧
    (Live.auxWatch L).mode.listening = L.mode.listening ∧
    (Live.auxWatch L).mode.quarryEntry = L.mode.quarryEntry ∧
    (Live.auxWatch L).pins.aux1 = L.pins.aux1 ∧
    (Live.auxWatch L).pins.aux2 = L.pins.aux2 ∧
    (Live.auxWatch L).pins.auxSince = L.pins.auxSince ∧
    (Live.auxWatch L).pins.holdup = L.pins.holdup ∧
    (Live.auxWatch L).pins.elementOpen = L.pins.elementOpen ∧
    (Live.auxWatch L).pins.elemA = L.pins.elemA ∧
    (Live.auxWatch L).pins.elemB = L.pins.elemB ∧
    (Live.auxWatch L).pins.quarryRelays = L.pins.quarryRelays ∧
    (Live.auxWatch L).pins.fbKpOpen = L.pins.fbKpOpen ∧
    (Live.auxWatch L).pins.fbKnOpen = L.pins.fbKnOpen ∧
    (Live.auxWatch L).pins.sswOpen = L.pins.sswOpen ∧
    (Live.auxWatch L).saf.fastLatch = L.saf.fastLatch ∧
    (Live.auxWatch L).saf.hazard = L.saf.hazard ∧
    (Live.auxWatch L).saf.precharge = L.saf.precharge ∧
    (Live.auxWatch L).saf.pairs = L.saf.pairs ∧
    (Live.auxWatch L).saf.eA = L.saf.eA ∧
    (Live.auxWatch L).saf.eB = L.saf.eB := by
  have h0 := @Live.supplyLossSafe_keeps
  simp only [Live.auxWatch]
  (repeat' split) <;> simp [h0]

theorem Live.requestHandover_keeps (L : Live) (release : Bool) :
    (Live.requestHandover L release).twin.holds = L.twin.holds ∧
    (Live.requestHandover L release).twin.pair = L.twin.pair ∧
    (Live.requestHandover L release).twin.gen = L.twin.gen ∧
    (Live.requestHandover L release).twin.p = L.twin.p ∧
    (Live.requestHandover L release).twin.transfer = L.twin.transfer ∧
    (Live.requestHandover L release).twin.check = L.twin.check := by
  simp [Live.requestHandover]

end Sys2Proof.Machine
end

