-- ==== Sys2Proof/Laws/KeepCairn.lean ====
section
/-! SUPPORT. Single registers that the operations of Machine/Cairn.lean leave as they are. -/

namespace Sys2Proof.Machine

open Sys2Proof

theorem Live.sendEntry_keeps (L : Live) (kind : Nat) (e : JEntry) :
    (Live.sendEntry L kind e).twin.holds = L.twin.holds ∧
    (Live.sendEntry L kind e).twin.pair = L.twin.pair ∧
    (Live.sendEntry L kind e).twin.gen = L.twin.gen ∧
    (Live.sendEntry L kind e).twin.p = L.twin.p ∧
    (Live.sendEntry L kind e).twin.transfer = L.twin.transfer ∧
    (Live.sendEntry L kind e).twin.check = L.twin.check := by
  simp [Live.sendEntry]

theorem Live.jwrite_keeps (L : Live) (cls : Nat) (mirrored done : Bool) (body : Bytes) :
    (Live.jwrite L cls mirrored done body).mode.booted = L.mode.booted ∧
    (Live.jwrite L cls mirrored done body).mode.listening = L.mode.listening ∧
    (Live.jwrite L cls mirrored done body).mode.quarryEntry = L.mode.quarryEntry ∧
    (Live.jwrite L cls mirrored done body).pins.aux1 = L.pins.aux1 ∧
    (Live.jwrite L cls mirrored done body).pins.aux2 = L.pins.aux2 ∧
    (Live.jwrite L cls mirrored done body).pins.auxSince = L.pins.auxSince ∧
    (Live.jwrite L cls mirrored done body).pins.holdup = L.pins.holdup ∧
    (Live.jwrite L cls mirrored done body).pins.quarryRelays = L.pins.quarryRelays ∧
    (Live.jwrite L cls mirrored done body).pins.fbKpOpen = L.pins.fbKpOpen ∧
    (Live.jwrite L cls mirrored done body).pins.fbKnOpen = L.pins.fbKnOpen ∧
    (Live.jwrite L cls mirrored done body).pins.sswOpen = L.pins.sswOpen ∧
    (Live.jwrite L cls mirrored done body).saf.supplyLoss = L.saf.supplyLoss ∧
    (Live.jwrite L cls mirrored done body).saf.fastLatch = L.saf.fastLatch ∧
    (Live.jwrite L cls mirrored done body).saf.precharge = L.saf.precharge ∧
    (Live.jwrite L cls mirrored done body).saf.pairs = L.saf.pairs ∧
    (Live.jwrite L cls mirrored done body).saf.eA = L.saf.eA ∧
    (Live.jwrite L cls mirrored done body).saf.eB = L.saf.eB ∧
    (Live.jwrite L cls mirrored done body).twin.pair = L.twin.pair ∧
    (Live.jwrite L cls mirrored done body).twin.gen = L.twin.gen ∧
    (Live.jwrite L cls mirrored done body).twin.p = L.twin.p ∧
    (Live.jwrite L cls mirrored done body).twin.transfer = L.twin.transfer ∧
    (Live.jwrite L cls mirrored done body).twin.check = L.twin.check := by
  have h0 := @Live.sendEntry_frame
  have h1 := @Live.sf12_keeps
  have h2 := @Live.updEv_frame
  have h3 := @Live.sendEntry_keeps
  simp [Live.jwrite, h0, h1, h2, h3]

theorem Live.jdoneAll_keeps (L : Live) (p : JEntry → Bool) :
    (Live.jdoneAll L p).twin.holds = L.twin.holds ∧
    (Live.jdoneAll L p).twin.pair = L.twin.pair ∧
    (Live.jdoneAll L p).twin.gen = L.twin.gen ∧
    (Live.jdoneAll L p).twin.p = L.twin.p ∧
    (Live.jdoneAll L p).twin.transfer = L.twin.transfer ∧
    (Live.jdoneAll L p).twin.check = L.twin.check := by
  have h0 := @Live.sendEntry_frame
  have h1 := @Live.sendEntry_keeps
  simp [Live.jdoneAll, h0, h1]

theorem Live.jdone_keeps (L : Live) (seq : Nat) :
    (Live.jdone L seq).twin.holds = L.twin.holds ∧
    (Live.jdone L seq).twin.pair = L.twin.pair ∧
    (Live.jdone L seq).twin.gen = L.twin.gen ∧
    (Live.jdone L seq).twin.p = L.twin.p ∧
    (Live.jdone L seq).twin.transfer = L.twin.transfer ∧
    (Live.jdone L seq).twin.check = L.twin.check := by
  have h0 := @Live.jdoneAll_keeps
  simp [Live.jdone, h0]

theorem Live.carryEntry_keeps (L : Live) (e : JEntry) :
    (Live.carryEntry L e).mode.booted = L.mode.booted ∧
    (Live.carryEntry L e).mode.listening = L.mode.listening ∧
    (Live.carryEntry L e).mode.quarryEntry = L.mode.quarryEntry ∧
    (Live.carryEntry L e).pins.aux1 = L.pins.aux1 ∧
    (Live.carryEntry L e).pins.aux2 = L.pins.aux2 ∧
    (Live.carryEntry L e).pins.auxSince = L.pins.auxSince ∧
    (Live.carryEntry L e).pins.holdup = L.pins.holdup ∧
    (Live.carryEntry L e).pins.quarryRelays = L.pins.quarryRelays ∧
    (Live.carryEntry L e).pins.fbKpOpen = L.pins.fbKpOpen ∧
    (Live.carryEntry L e).pins.fbKnOpen = L.pins.fbKnOpen ∧
    (Live.carryEntry L e).pins.sswOpen = L.pins.sswOpen ∧
    (Live.carryEntry L e).saf.supplyLoss = L.saf.supplyLoss ∧
    (Live.carryEntry L e).saf.fastLatch = L.saf.fastLatch ∧
    (Live.carryEntry L e).saf.precharge = L.saf.precharge ∧
    (Live.carryEntry L e).saf.pairs = L.saf.pairs ∧
    (Live.carryEntry L e).saf.eA = L.saf.eA ∧
    (Live.carryEntry L e).saf.eB = L.saf.eB ∧
    (Live.carryEntry L e).twin.pair = L.twin.pair ∧
    (Live.carryEntry L e).twin.gen = L.twin.gen ∧
    (Live.carryEntry L e).twin.p = L.twin.p ∧
    (Live.carryEntry L e).twin.transfer = L.twin.transfer ∧
    (Live.carryEntry L e).twin.check = L.twin.check := by
  have h0 := @Live.jdone_frame
  have h1 := @Live.jwrite_frame
  have h2 := @Live.jdone_keeps
  have h3 := @Live.jwrite_keeps
  simp [Live.carryEntry, h0, h1, h2, h3]

theorem Live.checkpoint_keeps (L : Live) :
    (Live.checkpoint L).mode.booted = L.mode.booted ∧
    (Live.checkpoint L).mode.listening = L.mode.listening ∧
    (Live.checkpoint L).mode.quarryEntry = L.mode.quarryEntry ∧
    (Live.checkpoint L).pins.aux1 = L.pins.aux1 ∧
    (Live.checkpoint L).pins.aux2 = L.pins.aux2 ∧
    (Live.checkpoint L).pins.auxSince = L.pins.auxSince ∧
    (Live.checkpoint L).pins.holdup = L.pins.holdup ∧
    (Live.checkpoint L).pins.quarryRelays = L.pins.quarryRelays ∧
    (Live.checkpoint L).pins.fbKpOpen = L.pins.fbKpOpen ∧
    (Live.checkpoint L).pins.fbKnOpen = L.pins.fbKnOpen ∧
    (Live.checkpoint L).pins.sswOpen = L.pins.sswOpen ∧
    (Live.checkpoint L).saf.supplyLoss = L.saf.supplyLoss ∧
    (Live.checkpoint L).saf.fastLatch = L.saf.fastLatch ∧
    (Live.checkpoint L).saf.precharge = L.saf.precharge ∧
    (Live.checkpoint L).saf.pairs = L.saf.pairs ∧
    (Live.checkpoint L).saf.eA = L.saf.eA ∧
    (Live.checkpoint L).saf.eB = L.saf.eB ∧
    (Live.checkpoint L).twin.pair = L.twin.pair ∧
    (Live.checkpoint L).twin.gen = L.twin.gen ∧
    (Live.checkpoint L).twin.p = L.twin.p ∧
    (Live.checkpoint L).twin.transfer = L.twin.transfer ∧
    (Live.checkpoint L).twin.check = L.twin.check := by
  have h0 := @Live.jwrite_frame
  have h1 := @Live.carryEntry_frame
  have h2 := @Live.updEv_frame
  have h3 := @Live.jwrite_keeps
  have h4 := @Live.carryEntry_keeps
  simp [Live.checkpoint, h0, h1, h2, h3, h4]

theorem Live.commitRecord_keeps (L : Live) :
    (Live.commitRecord L).mode.booted = L.mode.booted ∧
    (Live.commitRecord L).mode.listening = L.mode.listening ∧
    (Live.commitRecord L).mode.quarryEntry = L.mode.quarryEntry ∧
    (Live.commitRecord L).pins.aux1 = L.pins.aux1 ∧
    (Live.commitRecord L).pins.aux2 = L.pins.aux2 ∧
    (Live.commitRecord L).pins.auxSince = L.pins.auxSince ∧
    (Live.commitRecord L).pins.holdup = L.pins.holdup ∧
    (Live.commitRecord L).pins.quarryRelays = L.pins.quarryRelays ∧
    (Live.commitRecord L).pins.fbKpOpen = L.pins.fbKpOpen ∧
    (Live.commitRecord L).pins.fbKnOpen = L.pins.fbKnOpen ∧
    (Live.commitRecord L).pins.sswOpen = L.pins.sswOpen ∧
    (Live.commitRecord L).saf.supplyLoss = L.saf.supplyLoss ∧
    (Live.commitRecord L).saf.fastLatch = L.saf.fastLatch ∧
    (Live.commitRecord L).saf.precharge = L.saf.precharge ∧
    (Live.commitRecord L).saf.pairs = L.saf.pairs ∧
    (Live.commitRecord L).saf.eA = L.saf.eA ∧
    (Live.commitRecord L).saf.eB = L.saf.eB ∧
    (Live.commitRecord L).twin.pair = L.twin.pair ∧
    (Live.commitRecord L).twin.gen = L.twin.gen ∧
    (Live.commitRecord L).twin.p = L.twin.p ∧
    (Live.commitRecord L).twin.transfer = L.twin.transfer ∧
    (Live.commitRecord L).twin.check = L.twin.check := by
  have h0 := @Live.jwrite_frame
  have h1 := @Live.overflowRecords_frame
  have h2 := @Live.emcysOf_frame
  have h3 := @Live.jwrite_keeps
  simp only [Live.commitRecord]
  (repeat' split) <;> simp [h0, h1, h2, h3]

theorem Live.commitAll_keeps (n : Nat) (L : Live) :
    (Live.commitAll n L).mode.booted = L.mode.booted ∧
    (Live.commitAll n L).mode.listening = L.mode.listening ∧
    (Live.commitAll n L).mode.quarryEntry = L.mode.quarryEntry ∧
    (Live.commitAll n L).pins.aux1 = L.pins.aux1 ∧
    (Live.commitAll n L).pins.aux2 = L.pins.aux2 ∧
    (Live.commitAll n L).pins.auxSince = L.pins.auxSince ∧
    (Live.commitAll n L).pins.holdup = L.pins.holdup ∧
    (Live.commitAll n L).pins.quarryRelays = L.pins.quarryRelays ∧
    (Live.commitAll n L).pins.fbKpOpen = L.pins.fbKpOpen ∧
    (Live.commitAll n L).pins.fbKnOpen = L.pins.fbKnOpen ∧
    (Live.commitAll n L).pins.sswOpen = L.pins.sswOpen ∧
    (Live.commitAll n L).saf.supplyLoss = L.saf.supplyLoss ∧
    (Live.commitAll n L).saf.fastLatch = L.saf.fastLatch ∧
    (Live.commitAll n L).saf.precharge = L.saf.precharge ∧
    (Live.commitAll n L).saf.pairs = L.saf.pairs ∧
    (Live.commitAll n L).saf.eA = L.saf.eA ∧
    (Live.commitAll n L).saf.eB = L.saf.eB ∧
    (Live.commitAll n L).twin.pair = L.twin.pair ∧
    (Live.commitAll n L).twin.gen = L.twin.gen ∧
    (Live.commitAll n L).twin.p = L.twin.p ∧
    (Live.commitAll n L).twin.transfer = L.twin.transfer ∧
    (Live.commitAll n L).twin.check = L.twin.check := by
  have h0 := @Live.commitRecord_keeps
  induction n generalizing L with
  | zero => simp [Live.commitAll, h0]
  | succ n ih => simp only [Live.commitAll]; split <;> simp [ih, h0]

theorem Live.saveCounters_keeps (L : Live) :
    (Live.saveCounters L).mode.booted = L.mode.booted ∧
    (Live.saveCounters L).mode.listening = L.mode.listening ∧
    (Live.saveCounters L).mode.quarryEntry = L.mode.quarryEntry ∧
    (Live.saveCounters L).pins.aux1 = L.pins.aux1 ∧
    (Live.saveCounters L).pins.aux2 = L.pins.aux2 ∧
    (Live.saveCounters L).pins.auxSince = L.pins.auxSince ∧
    (Live.saveCounters L).pins.holdup = L.pins.holdup ∧
    (Live.saveCounters L).pins.quarryRelays = L.pins.quarryRelays ∧
    (Live.saveCounters L).pins.fbKpOpen = L.pins.fbKpOpen ∧
    (Live.saveCounters L).pins.fbKnOpen = L.pins.fbKnOpen ∧
    (Live.saveCounters L).pins.sswOpen = L.pins.sswOpen ∧
    (Live.saveCounters L).saf.supplyLoss = L.saf.supplyLoss ∧
    (Live.saveCounters L).saf.fastLatch = L.saf.fastLatch ∧
    (Live.saveCounters L).saf.precharge = L.saf.precharge ∧
    (Live.saveCounters L).saf.pairs = L.saf.pairs ∧
    (Live.saveCounters L).saf.eA = L.saf.eA ∧
    (Live.saveCounters L).saf.eB = L.saf.eB ∧
    (Live.saveCounters L).twin.pair = L.twin.pair ∧
    (Live.saveCounters L).twin.gen = L.twin.gen ∧
    (Live.saveCounters L).twin.p = L.twin.p ∧
    (Live.saveCounters L).twin.transfer = L.twin.transfer ∧
    (Live.saveCounters L).twin.check = L.twin.check := by
  have h0 := @Live.jwrite_frame
  have h1 := @Live.jwrite_keeps
  simp [Live.saveCounters, h0, h1]

theorem Live.seal_keeps (L : Live) :
    (Live.seal L).mode.booted = L.mode.booted ∧
    (Live.seal L).mode.listening = L.mode.listening ∧
    (Live.seal L).mode.quarryEntry = L.mode.quarryEntry ∧
    (Live.seal L).pins.aux1 = L.pins.aux1 ∧
    (Live.seal L).pins.aux2 = L.pins.aux2 ∧
    (Live.seal L).pins.auxSince = L.pins.auxSince ∧
    (Live.seal L).pins.holdup = L.pins.holdup ∧
    (Live.seal L).pins.quarryRelays = L.pins.quarryRelays ∧
    (Live.seal L).pins.fbKpOpen = L.pins.fbKpOpen ∧
    (Live.seal L).pins.fbKnOpen = L.pins.fbKnOpen ∧
    (Live.seal L).pins.sswOpen = L.pins.sswOpen ∧
    (Live.seal L).saf.supplyLoss = L.saf.supplyLoss ∧
    (Live.seal L).saf.fastLatch = L.saf.fastLatch ∧
    (Live.seal L).saf.precharge = L.saf.precharge ∧
    (Live.seal L).saf.pairs = L.saf.pairs ∧
    (Live.seal L).saf.eA = L.saf.eA ∧
    (Live.seal L).saf.eB = L.saf.eB ∧
    (Live.seal L).twin.pair = L.twin.pair ∧
    (Live.seal L).twin.gen = L.twin.gen ∧
    (Live.seal L).twin.p = L.twin.p ∧
    (Live.seal L).twin.transfer = L.twin.transfer ∧
    (Live.seal L).twin.check = L.twin.check := by
  have h0 := @Live.checkpoint_keeps
  have h1 := @Live.saveCounters_keeps
  have h2 := @Live.saveContexts_frame
  have h3 := @Live.repeatInPlace_frame
  have h4 := @Live.commitAll_keeps
  have h5 := @Live.releaseFreeze_frame
  simp [Live.seal, h0, h1, h2, h3, h4, h5]

theorem Live.stageEntry_keeps (L : Live) (done : Bool) (kind : Nat) (rest : Bytes) :
    (Live.stageEntry L done kind rest).mode.booted = L.mode.booted ∧
    (Live.stageEntry L done kind rest).mode.listening = L.mode.listening ∧
    (Live.stageEntry L done kind rest).mode.quarryEntry = L.mode.quarryEntry ∧
    (Live.stageEntry L done kind rest).pins.aux1 = L.pins.aux1 ∧
    (Live.stageEntry L done kind rest).pins.aux2 = L.pins.aux2 ∧
    (Live.stageEntry L done kind rest).pins.auxSince = L.pins.auxSince ∧
    (Live.stageEntry L done kind rest).pins.holdup = L.pins.holdup ∧
    (Live.stageEntry L done kind rest).pins.quarryRelays = L.pins.quarryRelays ∧
    (Live.stageEntry L done kind rest).pins.fbKpOpen = L.pins.fbKpOpen ∧
    (Live.stageEntry L done kind rest).pins.fbKnOpen = L.pins.fbKnOpen ∧
    (Live.stageEntry L done kind rest).pins.sswOpen = L.pins.sswOpen ∧
    (Live.stageEntry L done kind rest).saf.supplyLoss = L.saf.supplyLoss ∧
    (Live.stageEntry L done kind rest).saf.fastLatch = L.saf.fastLatch ∧
    (Live.stageEntry L done kind rest).saf.precharge = L.saf.precharge ∧
    (Live.stageEntry L done kind rest).saf.pairs = L.saf.pairs ∧
    (Live.stageEntry L done kind rest).saf.eA = L.saf.eA ∧
    (Live.stageEntry L done kind rest).saf.eB = L.saf.eB ∧
    (Live.stageEntry L done kind rest).twin.pair = L.twin.pair ∧
    (Live.stageEntry L done kind rest).twin.gen = L.twin.gen ∧
    (Live.stageEntry L done kind rest).twin.p = L.twin.p ∧
    (Live.stageEntry L done kind rest).twin.transfer = L.twin.transfer ∧
    (Live.stageEntry L done kind rest).twin.check = L.twin.check := by
  have h0 := @Live.jwrite_keeps
  simp [Live.stageEntry, h0]

end Sys2Proof.Machine
end

