-- ==== Sys2Proof/Laws/KeepSession.lean ====
section
/-! SUPPORT. Single registers that the operations of Machine/Session.lean leave as they are. -/

namespace Sys2Proof.Machine

open Sys2Proof

theorem Live.endSession_keeps (L : Live) (s : Sess) :
    (Live.endSession L s).ks.epoch = L.ks.epoch ∧
    (Live.endSession L s).ks.pend = L.ks.pend := by
  simp only [Live.endSession]
  (repeat' split) <;> simp

theorem Live.touch_keeps (L : Live) (s : Sess) :
    (Live.touch L s).ks.epoch = L.ks.epoch ∧
    (Live.touch L s).ks.pend = L.ks.pend := by
  have h0 := @Live.endSession_keeps
  simp only [Live.touch]
  (repeat' split) <;> simp [h0]

theorem Live.modSession_keeps (L : Live) (s : Sess) (f : Session → Session) :
    (Live.modSession L s f).ks.edit = L.ks.edit ∧
    (Live.modSession L s f).ks.epoch = L.ks.epoch ∧
    (Live.modSession L s f).ks.pend = L.ks.pend := by
  simp [Live.modSession]

theorem Live.refuse_keeps (L : Live) (s : Sess) (code : Abort) :
    (Live.refuse L s code).ks.edit = L.ks.edit ∧
    (Live.refuse L s code).ks.epoch = L.ks.epoch ∧
    (Live.refuse L s code).ks.pend = L.ks.pend := by
  have h0 := @Live.modSession_keeps
  simp [Live.refuse, h0]

theorem Live.refuseArrival_keeps (L : Live) (s : Sess) (code : Abort) :
    (Live.refuseArrival L s code).ks.edit = L.ks.edit ∧
    (Live.refuseArrival L s code).ks.epoch = L.ks.epoch ∧
    (Live.refuseArrival L s code).ks.pend = L.ks.pend := by
  have h0 := @Live.refuse_keeps
  simp [Live.refuseArrival, h0]

theorem Live.toPartner_keeps (L : Live) (channel : Nat) (d : Bytes) :
    (Live.toPartner L channel d).twin.holds = L.twin.holds ∧
    (Live.toPartner L channel d).twin.pair = L.twin.pair ∧
    (Live.toPartner L channel d).twin.gen = L.twin.gen ∧
    (Live.toPartner L channel d).twin.p = L.twin.p ∧
    (Live.toPartner L channel d).twin.transfer = L.twin.transfer ∧
    (Live.toPartner L channel d).twin.check = L.twin.check := by
  simp [Live.toPartner]

theorem Live.forward_keeps (L : Live) (s : Sess) (k : Nat) (v : Bytes) :
    (Live.forward L s k v).twin.holds = L.twin.holds ∧
    (Live.forward L s k v).twin.pair = L.twin.pair ∧
    (Live.forward L s k v).twin.gen = L.twin.gen ∧
    (Live.forward L s k v).twin.p = L.twin.p ∧
    (Live.forward L s k v).twin.transfer = L.twin.transfer ∧
    (Live.forward L s k v).twin.check = L.twin.check := by
  have h0 := @Live.toPartner_frame
  have h1 := @Live.toPartner_keeps
  simp [Live.forward, h0, h1]

theorem Live.forwardOn_keeps (L : Live) (s : Sess) (k : Nat) (v : Bytes) :
    (Live.forwardOn L s k v).1.twin.holds = L.twin.holds ∧
    (Live.forwardOn L s k v).1.twin.pair = L.twin.pair ∧
    (Live.forwardOn L s k v).1.twin.gen = L.twin.gen ∧
    (Live.forwardOn L s k v).1.twin.p = L.twin.p ∧
    (Live.forwardOn L s k v).1.twin.transfer = L.twin.transfer ∧
    (Live.forwardOn L s k v).1.twin.check = L.twin.check := by
  have h0 := @Live.forward_keeps
  simp [Live.forwardOn, h0]

theorem Live.haltIsland_keeps (L : Live) (i : Nat) :
    (Live.haltIsland L i).pins.aux1 = L.pins.aux1 ∧
    (Live.haltIsland L i).pins.aux2 = L.pins.aux2 ∧
    (Live.haltIsland L i).pins.auxSince = L.pins.auxSince ∧
    (Live.haltIsland L i).pins.holdup = L.pins.holdup ∧
    (Live.haltIsland L i).pins.elementOpen = L.pins.elementOpen ∧
    (Live.haltIsland L i).pins.elemA = L.pins.elemA ∧
    (Live.haltIsland L i).pins.elemB = L.pins.elemB ∧
    (Live.haltIsland L i).pins.quarryRelays = L.pins.quarryRelays ∧
    (Live.haltIsland L i).pins.fbKpOpen = L.pins.fbKpOpen ∧
    (Live.haltIsland L i).pins.fbKnOpen = L.pins.fbKnOpen ∧
    (Live.haltIsland L i).pins.sswOpen = L.pins.sswOpen ∧
    (Live.haltIsland L i).saf.supplyLoss = L.saf.supplyLoss ∧
    (Live.haltIsland L i).saf.fastLatch = L.saf.fastLatch ∧
    (Live.haltIsland L i).saf.hazard = L.saf.hazard ∧
    (Live.haltIsland L i).saf.precharge = L.saf.precharge ∧
    (Live.haltIsland L i).saf.ownCmd = L.saf.ownCmd ∧
    (Live.haltIsland L i).saf.pairs = L.saf.pairs ∧
    (Live.haltIsland L i).saf.eA = L.saf.eA ∧
    (Live.haltIsland L i).saf.eB = L.saf.eB ∧
    (Live.haltIsland L i).twin.holds = L.twin.holds ∧
    (Live.haltIsland L i).twin.gen = L.twin.gen ∧
    (Live.haltIsland L i).twin.p = L.twin.p ∧
    (Live.haltIsland L i).twin.transfer = L.twin.transfer ∧
    (Live.haltIsland L i).twin.check = L.twin.check := by
  have h0 := @Live.toPartner_keeps
  have h1 := @Live.openLoop_frame
  have h2 := @Live.setFast_frame
  have h3 := @Live.toPartner_frame
  have h4 := @Live.openLoop_keeps
  have h5 := @Live.setFast_keeps
  simp [Live.haltIsland, h0, h1, h2, h3, h4, h5]

theorem Live.brkIsland_keeps (L : Live) (slot : Nat) :
    (Live.brkIsland L slot).pins.aux1 = L.pins.aux1 ∧
    (Live.brkIsland L slot).pins.aux2 = L.pins.aux2 ∧
    (Live.brkIsland L slot).pins.auxSince = L.pins.auxSince ∧
    (Live.brkIsland L slot).pins.holdup = L.pins.holdup ∧
    (Live.brkIsland L slot).pins.elementOpen = L.pins.elementOpen ∧
    (Live.brkIsland L slot).pins.elemA = L.pins.elemA ∧
    (Live.brkIsland L slot).pins.elemB = L.pins.elemB ∧
    (Live.brkIsland L slot).pins.quarryRelays = L.pins.quarryRelays ∧
    (Live.brkIsland L slot).pins.fbKpOpen = L.pins.fbKpOpen ∧
    (Live.brkIsland L slot).pins.fbKnOpen = L.pins.fbKnOpen ∧
    (Live.brkIsland L slot).pins.sswOpen = L.pins.sswOpen ∧
    (Live.brkIsland L slot).saf.supplyLoss = L.saf.supplyLoss ∧
    (Live.brkIsland L slot).saf.fastLatch = L.saf.fastLatch ∧
    (Live.brkIsland L slot).saf.hazard = L.saf.hazard ∧
    (Live.brkIsland L slot).saf.precharge = L.saf.precharge ∧
    (Live.brkIsland L slot).saf.ownCmd = L.saf.ownCmd ∧
    (Live.brkIsland L slot).saf.pairs = L.saf.pairs ∧
    (Live.brkIsland L slot).saf.eA = L.saf.eA ∧
    (Live.brkIsland L slot).saf.eB = L.saf.eB ∧
    (Live.brkIsland L slot).twin.holds = L.twin.holds ∧
    (Live.brkIsland L slot).twin.gen = L.twin.gen ∧
    (Live.brkIsland L slot).twin.p = L.twin.p ∧
    (Live.brkIsland L slot).twin.transfer = L.twin.transfer ∧
    (Live.brkIsland L slot).twin.check = L.twin.check := by
  have h0 := @Live.haltIsland_keeps
  simp only [Live.brkIsland]
  (repeat' split) <;> simp [h0]

theorem Live.takeHits_keeps (L : Live) :
    (Live.takeHits L).pins.aux1 = L.pins.aux1 ∧
    (Live.takeHits L).pins.aux2 = L.pins.aux2 ∧
    (Live.takeHits L).pins.auxSince = L.pins.auxSince ∧
    (Live.takeHits L).pins.holdup = L.pins.holdup ∧
    (Live.takeHits L).pins.elementOpen = L.pins.elementOpen ∧
    (Live.takeHits L).pins.elemA = L.pins.elemA ∧
    (Live.takeHits L).pins.elemB = L.pins.elemB ∧
    (Live.takeHits L).pins.quarryRelays = L.pins.quarryRelays ∧
    (Live.takeHits L).pins.fbKpOpen = L.pins.fbKpOpen ∧
    (Live.takeHits L).pins.fbKnOpen = L.pins.fbKnOpen ∧
    (Live.takeHits L).pins.sswOpen = L.pins.sswOpen ∧
    (Live.takeHits L).saf.supplyLoss = L.saf.supplyLoss ∧
    (Live.takeHits L).saf.fastLatch = L.saf.fastLatch ∧
    (Live.takeHits L).saf.hazard = L.saf.hazard ∧
    (Live.takeHits L).saf.precharge = L.saf.precharge ∧
    (Live.takeHits L).saf.ownCmd = L.saf.ownCmd ∧
    (Live.takeHits L).saf.pairs = L.saf.pairs ∧
    (Live.takeHits L).saf.eA = L.saf.eA ∧
    (Live.takeHits L).saf.eB = L.saf.eB ∧
    (Live.takeHits L).twin.holds = L.twin.holds ∧
    (Live.takeHits L).twin.gen = L.twin.gen ∧
    (Live.takeHits L).twin.p = L.twin.p ∧
    (Live.takeHits L).twin.transfer = L.twin.transfer ∧
    (Live.takeHits L).twin.check = L.twin.check := by
  have h0 := @Live.brkIsland_keeps
  simp [Live.takeHits, h0]

theorem Live.passOn_keeps (L : Live) (s : Sess) (k : Nat) (v : Bytes) :
    (Live.passOn L s k v).twin.holds = L.twin.holds ∧
    (Live.passOn L s k v).twin.pair = L.twin.pair ∧
    (Live.passOn L s k v).twin.gen = L.twin.gen ∧
    (Live.passOn L s k v).twin.p = L.twin.p ∧
    (Live.passOn L s k v).twin.transfer = L.twin.transfer ∧
    (Live.passOn L s k v).twin.check = L.twin.check ∧
    (Live.passOn L s k v).ks.edit = L.ks.edit ∧
    (Live.passOn L s k v).ks.epoch = L.ks.epoch ∧
    (Live.passOn L s k v).ks.pend = L.ks.pend := by
  have h0 := @Live.forward_frame
  have h1 := @Live.forward_keeps
  simp [Live.passOn, h0, h1]

theorem Live.noteDone_keeps (L : Live) (s : Sess) (k : Nat) (v : Bytes) (fwd : Option Nat) (code : Abort) :
    (Live.noteDone L s k v fwd code).ks.edit = L.ks.edit ∧
    (Live.noteDone L s k v fwd code).ks.epoch = L.ks.epoch := by
  simp [Live.noteDone]

end Sys2Proof.Machine
end

