-- ==== Sys2Proof/Laws/KeepConvOps.lean ====
section
/-! SUPPORT. Single registers that the operations of Machine/ConvOps.lean leave as they are. -/

namespace Sys2Proof.Machine

open Sys2Proof

theorem Live.jBypass_keeps (L : Live) (s kind : Nat) :
    (Live.jBypass L s kind).mode.booted = L.mode.booted ∧
    (Live.jBypass L s kind).mode.listening = L.mode.listening ∧
    (Live.jBypass L s kind).mode.quarryEntry = L.mode.quarryEntry ∧
    (Live.jBypass L s kind).pins.aux1 = L.pins.aux1 ∧
    (Live.jBypass L s kind).pins.aux2 = L.pins.aux2 ∧
    (Live.jBypass L s kind).pins.auxSince = L.pins.auxSince ∧
    (Live.jBypass L s kind).pins.holdup = L.pins.holdup ∧
    (Live.jBypass L s kind).pins.quarryRelays = L.pins.quarryRelays ∧
    (Live.jBypass L s kind).pins.fbKpOpen = L.pins.fbKpOpen ∧
    (Live.jBypass L s kind).pins.fbKnOpen = L.pins.fbKnOpen ∧
    (Live.jBypass L s kind).pins.sswOpen = L.pins.sswOpen ∧
    (Live.jBypass L s kind).saf.supplyLoss = L.saf.supplyLoss ∧
    (Live.jBypass L s kind).saf.fastLatch = L.saf.fastLatch ∧
    (Live.jBypass L s kind).saf.precharge = L.saf.precharge ∧
    (Live.jBypass L s kind).saf.pairs = L.saf.pairs ∧
    (Live.jBypass L s kind).saf.eA = L.saf.eA ∧
    (Live.jBypass L s kind).saf.eB = L.saf.eB ∧
    (Live.jBypass L s kind).twin.pair = L.twin.pair ∧
    (Live.jBypass L s kind).twin.gen = L.twin.gen ∧
    (Live.jBypass L s kind).twin.p = L.twin.p ∧
    (Live.jBypass L s kind).twin.transfer = L.twin.transfer ∧
    (Live.jBypass L s kind).twin.check = L.twin.check := by
  have h0 := @Live.jwrite_keeps
  simp [Live.jBypass, h0]

theorem Live.leave_keeps (L : Live) (s kind cause : Nat) :
    (Live.leave L s kind cause).mode.booted = L.mode.booted ∧
    (Live.leave L s kind cause).mode.listening = L.mode.listening ∧
    (Live.leave L s kind cause).mode.quarryEntry = L.mode.quarryEntry ∧
    (Live.leave L s kind cause).pins.aux1 = L.pins.aux1 ∧
    (Live.leave L s kind cause).pins.aux2 = L.pins.aux2 ∧
    (Live.leave L s kind cause).pins.auxSince = L.pins.auxSince ∧
    (Live.leave L s kind cause).pins.holdup = L.pins.holdup ∧
    (Live.leave L s kind cause).pins.quarryRelays = L.pins.quarryRelays ∧
    (Live.leave L s kind cause).pins.fbKpOpen = L.pins.fbKpOpen ∧
    (Live.leave L s kind cause).pins.fbKnOpen = L.pins.fbKnOpen ∧
    (Live.leave L s kind cause).pins.sswOpen = L.pins.sswOpen ∧
    (Live.leave L s kind cause).saf.supplyLoss = L.saf.supplyLoss ∧
    (Live.leave L s kind cause).saf.fastLatch = L.saf.fastLatch ∧
    (Live.leave L s kind cause).saf.precharge = L.saf.precharge ∧
    (Live.leave L s kind cause).saf.pairs = L.saf.pairs ∧
    (Live.leave L s kind cause).saf.eA = L.saf.eA ∧
    (Live.leave L s kind cause).saf.eB = L.saf.eB ∧
    (Live.leave L s kind cause).twin.pair = L.twin.pair ∧
    (Live.leave L s kind cause).twin.gen = L.twin.gen ∧
    (Live.leave L s kind cause).twin.p = L.twin.p ∧
    (Live.leave L s kind cause).twin.transfer = L.twin.transfer ∧
    (Live.leave L s kind cause).twin.check = L.twin.check := by
  have h0 := @Live.jBypass_keeps
  have h1 := @Live.convSegEv_frame
  have h2 := @Live.rescale_frame
  have h3 := @Live.modSeg_frame
  simp [Live.leave, h0, h1, h2, h3]

theorem Live.rejoin_keeps (L : Live) (s : Nat) :
    (Live.rejoin L s).mode.booted = L.mode.booted ∧
    (Live.rejoin L s).mode.listening = L.mode.listening ∧
    (Live.rejoin L s).mode.quarryEntry = L.mode.quarryEntry ∧
    (Live.rejoin L s).pins.aux1 = L.pins.aux1 ∧
    (Live.rejoin L s).pins.aux2 = L.pins.aux2 ∧
    (Live.rejoin L s).pins.auxSince = L.pins.auxSince ∧
    (Live.rejoin L s).pins.holdup = L.pins.holdup ∧
    (Live.rejoin L s).pins.quarryRelays = L.pins.quarryRelays ∧
    (Live.rejoin L s).pins.fbKpOpen = L.pins.fbKpOpen ∧
    (Live.rejoin L s).pins.fbKnOpen = L.pins.fbKnOpen ∧
    (Live.rejoin L s).pins.sswOpen = L.pins.sswOpen ∧
    (Live.rejoin L s).saf.supplyLoss = L.saf.supplyLoss ∧
    (Live.rejoin L s).saf.fastLatch = L.saf.fastLatch ∧
    (Live.rejoin L s).saf.precharge = L.saf.precharge ∧
    (Live.rejoin L s).saf.pairs = L.saf.pairs ∧
    (Live.rejoin L s).saf.eA = L.saf.eA ∧
    (Live.rejoin L s).saf.eB = L.saf.eB ∧
    (Live.rejoin L s).twin.pair = L.twin.pair ∧
    (Live.rejoin L s).twin.gen = L.twin.gen ∧
    (Live.rejoin L s).twin.p = L.twin.p ∧
    (Live.rejoin L s).twin.transfer = L.twin.transfer ∧
    (Live.rejoin L s).twin.check = L.twin.check := by
  have h0 := @Live.jBypass_keeps
  have h1 := @Live.convSegEv_frame
  have h2 := @Live.rescale_frame
  have h3 := @Live.modSeg_frame
  simp [Live.rejoin, h0, h1, h2, h3]

theorem Live.belowFour_keeps (L : Live) :
    (Live.belowFour L).ks.edit = L.ks.edit ∧
    (Live.belowFour L).ks.epoch = L.ks.epoch := by
  have h0 := @Live.convEv_frame
  simp [Live.belowFour, h0]

theorem Live.unplanned_keeps (L : Live) (s cause : Nat) :
    (Live.unplanned L s cause).mode.booted = L.mode.booted ∧
    (Live.unplanned L s cause).mode.listening = L.mode.listening ∧
    (Live.unplanned L s cause).mode.quarryEntry = L.mode.quarryEntry ∧
    (Live.unplanned L s cause).pins.aux1 = L.pins.aux1 ∧
    (Live.unplanned L s cause).pins.aux2 = L.pins.aux2 ∧
    (Live.unplanned L s cause).pins.auxSince = L.pins.auxSince ∧
    (Live.unplanned L s cause).pins.holdup = L.pins.holdup ∧
    (Live.unplanned L s cause).pins.quarryRelays = L.pins.quarryRelays ∧
    (Live.unplanned L s cause).pins.fbKpOpen = L.pins.fbKpOpen ∧
    (Live.unplanned L s cause).pins.fbKnOpen = L.pins.fbKnOpen ∧
    (Live.unplanned L s cause).pins.sswOpen = L.pins.sswOpen ∧
    (Live.unplanned L s cause).saf.supplyLoss = L.saf.supplyLoss ∧
    (Live.unplanned L s cause).saf.fastLatch = L.saf.fastLatch ∧
    (Live.unplanned L s cause).saf.precharge = L.saf.precharge ∧
    (Live.unplanned L s cause).saf.pairs = L.saf.pairs ∧
    (Live.unplanned L s cause).saf.eA = L.saf.eA ∧
    (Live.unplanned L s cause).saf.eB = L.saf.eB ∧
    (Live.unplanned L s cause).twin.pair = L.twin.pair ∧
    (Live.unplanned L s cause).twin.gen = L.twin.gen ∧
    (Live.unplanned L s cause).twin.p = L.twin.p ∧
    (Live.unplanned L s cause).twin.transfer = L.twin.transfer ∧
    (Live.unplanned L s cause).twin.check = L.twin.check ∧
    (Live.unplanned L s cause).ks.edit = L.ks.edit ∧
    (Live.unplanned L s cause).ks.epoch = L.ks.epoch := by
  have h0 := @Live.belowFour_frame
  have h1 := @Live.modSeg_frame
  have h2 := @Live.jBypass_keeps
  have h3 := @Live.convSegEv_frame
  have h4 := @Live.rescale_frame
  have h5 := @Live.belowFour_keeps
  have h6 := @Live.jBypass_frame
  simp [Live.unplanned, h0, h1, h2, h3, h4, h5, h6]

theorem Live.startPrecharge_keeps (L : Live) :
    (Live.startPrecharge L).pins.aux1 = L.pins.aux1 ∧
    (Live.startPrecharge L).pins.aux2 = L.pins.aux2 ∧
    (Live.startPrecharge L).pins.auxSince = L.pins.auxSince ∧
    (Live.startPrecharge L).pins.holdup = L.pins.holdup ∧
    (Live.startPrecharge L).pins.elementOpen = L.pins.elementOpen ∧
    (Live.startPrecharge L).pins.elemA = L.pins.elemA ∧
    (Live.startPrecharge L).pins.elemB = L.pins.elemB ∧
    (Live.startPrecharge L).pins.quarryRelays = L.pins.quarryRelays ∧
    (Live.startPrecharge L).pins.fbKpOpen = L.pins.fbKpOpen ∧
    (Live.startPrecharge L).pins.fbKnOpen = L.pins.fbKnOpen ∧
    (Live.startPrecharge L).pins.sswOpen = L.pins.sswOpen ∧
    (Live.startPrecharge L).saf.supplyLoss = L.saf.supplyLoss ∧
    (Live.startPrecharge L).saf.fastLatch = L.saf.fastLatch ∧
    (Live.startPrecharge L).saf.hazard = L.saf.hazard ∧
    (Live.startPrecharge L).saf.precharge = L.saf.precharge ∧
    (Live.startPrecharge L).saf.ownCmd = L.saf.ownCmd ∧
    (Live.startPrecharge L).saf.pairs = L.saf.pairs ∧
    (Live.startPrecharge L).saf.eA = L.saf.eA ∧
    (Live.startPrecharge L).saf.eB = L.saf.eB := by
  have h0 := @Live.setState_frame
  have h1 := @Live.convEv_frame
  have h2 := @Live.setState_keeps
  have h3 := @Live.closeLoop_keeps
  have h4 := @Live.setFast_keeps
  have h5 := @Live.setFast_frame
  simp [Live.startPrecharge, h0, h1, h2, h3, h4, h5]

theorem Live.startShutdown_keeps (L : Live) :
    (Live.startShutdown L).mode.pendEnable = L.mode.pendEnable ∧
    (Live.startShutdown L).mode.booted = L.mode.booted ∧
    (Live.startShutdown L).mode.listening = L.mode.listening ∧
    (Live.startShutdown L).mode.quarryEntry = L.mode.quarryEntry ∧
    (Live.startShutdown L).pins.aux1 = L.pins.aux1 ∧
    (Live.startShutdown L).pins.aux2 = L.pins.aux2 ∧
    (Live.startShutdown L).pins.auxSince = L.pins.auxSince ∧
    (Live.startShutdown L).pins.holdup = L.pins.holdup ∧
    (Live.startShutdown L).pins.elementOpen = L.pins.elementOpen ∧
    (Live.startShutdown L).pins.elemA = L.pins.elemA ∧
    (Live.startShutdown L).pins.elemB = L.pins.elemB ∧
    (Live.startShutdown L).pins.quarryRelays = L.pins.quarryRelays ∧
    (Live.startShutdown L).pins.fbKpOpen = L.pins.fbKpOpen ∧
    (Live.startShutdown L).pins.fbKnOpen = L.pins.fbKnOpen ∧
    (Live.startShutdown L).pins.sswOpen = L.pins.sswOpen ∧
    (Live.startShutdown L).saf.supplyLoss = L.saf.supplyLoss ∧
    (Live.startShutdown L).saf.fastLatch = L.saf.fastLatch ∧
    (Live.startShutdown L).saf.hazard = L.saf.hazard ∧
    (Live.startShutdown L).saf.precharge = L.saf.precharge ∧
    (Live.startShutdown L).saf.pairs = L.saf.pairs ∧
    (Live.startShutdown L).saf.eA = L.saf.eA ∧
    (Live.startShutdown L).saf.eB = L.saf.eB := by
  have h0 := @Live.seqOn_keeps
  have h1 := @Live.toStep2_keeps
  have h2 := @Live.toStep2_frame
  simp [Live.startShutdown, h0, h1, h2]

theorem Live.derate_keeps (L : Live) :
    (Live.derate L).mode.pendEnable = L.mode.pendEnable ∧
    (Live.derate L).mode.booted = L.mode.booted ∧
    (Live.derate L).mode.listening = L.mode.listening ∧
    (Live.derate L).mode.quarryEntry = L.mode.quarryEntry := by
  have h0 := @Live.setState_keeps
  have h1 := @Live.setState_frame
  simp [Live.derate, h0, h1]

end Sys2Proof.Machine
end

