-- ==== Sys2Proof/Laws/KeepEst.lean ====
section
/-! SUPPORT. Single registers that the operations of Machine/Est.lean leave as they are. -/

namespace Sys2Proof.Machine

open Sys2Proof

theorem Live.sweepEnd_keeps (L : Live) :
    (Live.sweepEnd L).twin.holds = L.twin.holds ∧
    (Live.sweepEnd L).twin.pair = L.twin.pair ∧
    (Live.sweepEnd L).twin.gen = L.twin.gen ∧
    (Live.sweepEnd L).twin.p = L.twin.p ∧
    (Live.sweepEnd L).twin.transfer = L.twin.transfer ∧
    (Live.sweepEnd L).twin.check = L.twin.check := by
  have h0 := @Live.openIntervals_frame
  simp [Live.sweepEnd, h0]

theorem Live.sweep_keeps (L₀ : Live) :
    (Live.sweep L₀).twin.holds = L₀.twin.holds ∧
    (Live.sweep L₀).twin.pair = L₀.twin.pair ∧
    (Live.sweep L₀).twin.gen = L₀.twin.gen ∧
    (Live.sweep L₀).twin.p = L₀.twin.p ∧
    (Live.sweep L₀).twin.transfer = L₀.twin.transfer ∧
    (Live.sweep L₀).twin.check = L₀.twin.check := by
  have h0 := @Live.sweepSave_frame
  have h1 := @Live.sweepEnd_keeps
  have h2 := @Live.balance_frame
  have h3 := @Live.blendCheck_frame
  have h4 := @Live.stringSweep_frame
  have h5 := @Live.segsSweep_frame
  have h6 := @Live.cellsSweep_frame
  have h7 := @Live.takeSwitch_frame
  simp [Live.sweep, h0, h1, h2, h3, h4, h5, h6, h7]

theorem Live.holdSweep_keeps (L : Live) :
    (Live.holdSweep L).twin.holds = L.twin.holds ∧
    (Live.holdSweep L).twin.pair = L.twin.pair ∧
    (Live.holdSweep L).twin.gen = L.twin.gen ∧
    (Live.holdSweep L).twin.p = L.twin.p ∧
    (Live.holdSweep L).twin.transfer = L.twin.transfer ∧
    (Live.holdSweep L).twin.check = L.twin.check := by
  have h0 := @Live.openIntervals_frame
  simp [Live.holdSweep, h0]

end Sys2Proof.Machine
end

