-- ==== Sys2Proof/Laws/KeepEngineOps.lean ====
section
/-! SUPPORT. Single registers that the operations of Machine/EngineOps.lean leave as they are. -/

namespace Sys2Proof.Machine

open Sys2Proof

theorem Live.takeCommit_keeps (L : Live) :
    (Live.takeCommit L).ks.edit = L.ks.edit ∧
    (Live.takeCommit L).ks.epoch = L.ks.epoch ∧
    (Live.takeCommit L).ks.pend = L.ks.pend := by
  simp only [Live.takeCommit]
  (repeat' split) <;> simp

theorem Live.dropCaptureReads_keeps (L : Live) :
    (Live.dropCaptureReads L).ks.edit = L.ks.edit ∧
    (Live.dropCaptureReads L).ks.epoch = L.ks.epoch ∧
    (Live.dropCaptureReads L).ks.pend = L.ks.pend := by
  have h0 := @Live.refuse_keeps
  simp [Live.dropCaptureReads, h0]

end Sys2Proof.Machine
end

