-- ==== Sys2Proof/Laws/KeepSample.lean ====
section
/-! SUPPORT. Single registers that the operations of Machine/Sample.lean leave as they are. -/

namespace Sys2Proof.Machine

open Sys2Proof

theorem Live.crossing_keeps (L : Live) (c : Option Nat) :
    (Live.crossing L c).mode.booted = L.mode.booted ∧
    (Live.crossing L c).mode.listening = L.mode.listening ∧
    (Live.crossing L c).mode.quarryEntry = L.mode.quarryEntry ∧
    (Live.crossing L c).pins.aux1 = L.pins.aux1 ∧
    (Live.crossing L c).pins.aux2 = L.pins.aux2 ∧
    (Live.crossing L c).pins.auxSince = L.pins.auxSince ∧
    (Live.crossing L c).pins.holdup = L.pins.holdup ∧
    (Live.crossing L c).pins.quarryRelays = L.pins.quarryRelays ∧
    (Live.crossing L c).pins.fbKpOpen = L.pins.fbKpOpen ∧
    (Live.crossing L c).pins.fbKnOpen = L.pins.fbKnOpen ∧
    (Live.crossing L c).pins.sswOpen = L.pins.sswOpen ∧
    (Live.crossing L c).saf.supplyLoss = L.saf.supplyLoss ∧
    (Live.crossing L c).saf.fastLatch = L.saf.fastLatch ∧
    (Live.crossing L c).saf.precharge = L.saf.precharge ∧
    (Live.crossing L c).saf.pairs = L.saf.pairs ∧
    (Live.crossing L c).saf.eA = L.saf.eA ∧
    (Live.crossing L c).saf.eB = L.saf.eB ∧
    (Live.crossing L c).twin.pair = L.twin.pair ∧
    (Live.crossing L c).twin.gen = L.twin.gen ∧
    (Live.crossing L c).twin.p = L.twin.p ∧
    (Live.crossing L c).twin.transfer = L.twin.transfer ∧
    (Live.crossing L c).twin.check = L.twin.check := by
  have h0 := @Live.sf12_keeps
  cases c <;> simp [Live.crossing, h0]

theorem Live.shareSample_keeps (L : Live) :
    (Live.shareSample L).twin.holds = L.twin.holds ∧
    (Live.shareSample L).twin.pair = L.twin.pair ∧
    (Live.shareSample L).twin.gen = L.twin.gen ∧
    (Live.shareSample L).twin.p = L.twin.p ∧
    (Live.shareSample L).twin.transfer = L.twin.transfer ∧
    (Live.shareSample L).twin.check = L.twin.check := by
  have h0 := @Live.shareOwn_frame
  simp [Live.shareSample, h0]

theorem Live.sumHeat_keeps (L : Live) :
    (Live.sumHeat L).saf.supplyLoss = L.saf.supplyLoss ∧
    (Live.sumHeat L).saf.fastLatch = L.saf.fastLatch ∧
    (Live.sumHeat L).saf.hazard = L.saf.hazard ∧
    (Live.sumHeat L).saf.precharge = L.saf.precharge ∧
    (Live.sumHeat L).saf.ownCmd = L.saf.ownCmd ∧
    (Live.sumHeat L).saf.pairs = L.saf.pairs ∧
    (Live.sumHeat L).saf.eA = L.saf.eA ∧
    (Live.sumHeat L).saf.eB = L.saf.eB := by
  simp [Live.sumHeat]

theorem Live.runEngine_keeps (L : Live) (x : SampleIn) :
    (Live.runEngine L x).pins.aux1 = L.pins.aux1 ∧
    (Live.runEngine L x).pins.aux2 = L.pins.aux2 ∧
    (Live.runEngine L x).pins.auxSince = L.pins.auxSince ∧
    (Live.runEngine L x).pins.holdup = L.pins.holdup ∧
    (Live.runEngine L x).pins.quarryRelays = L.pins.quarryRelays ∧
    (Live.runEngine L x).pins.fbKpOpen = L.pins.fbKpOpen ∧
    (Live.runEngine L x).pins.fbKnOpen = L.pins.fbKnOpen ∧
    (Live.runEngine L x).pins.sswOpen = L.pins.sswOpen ∧
    (Live.runEngine L x).saf.supplyLoss = L.saf.supplyLoss ∧
    (Live.runEngine L x).saf.fastLatch = L.saf.fastLatch ∧
    (Live.runEngine L x).saf.precharge = L.saf.precharge ∧
    (Live.runEngine L x).saf.pairs = L.saf.pairs ∧
    (Live.runEngine L x).saf.eA = L.saf.eA ∧
    (Live.runEngine L x).saf.eB = L.saf.eB ∧
    (Live.runEngine L x).twin.pair = L.twin.pair ∧
    (Live.runEngine L x).twin.gen = L.twin.gen ∧
    (Live.runEngine L x).twin.p = L.twin.p ∧
    (Live.runEngine L x).twin.transfer = L.twin.transfer ∧
    (Live.runEngine L x).twin.check = L.twin.check := by
  have h0 := @Live.overflows_frame
  have h1 := @Live.sf12_keeps
  simp [Live.runEngine, h0, h1]

theorem Live.residual_keeps (L : Live) (n : Nat) (r warn fault : Rat) :
    (Live.residual L n r warn fault).mode.booted = L.mode.booted ∧
    (Live.residual L n r warn fault).mode.listening = L.mode.listening ∧
    (Live.residual L n r warn fault).mode.quarryEntry = L.mode.quarryEntry ∧
    (Live.residual L n r warn fault).pins.aux1 = L.pins.aux1 ∧
    (Live.residual L n r warn fault).pins.aux2 = L.pins.aux2 ∧
    (Live.residual L n r warn fault).pins.auxSince = L.pins.auxSince ∧
    (Live.residual L n r warn fault).pins.holdup = L.pins.holdup ∧
    (Live.residual L n r warn fault).pins.quarryRelays = L.pins.quarryRelays ∧
    (Live.residual L n r warn fault).pins.fbKpOpen = L.pins.fbKpOpen ∧
    (Live.residual L n r warn fault).pins.fbKnOpen = L.pins.fbKnOpen ∧
    (Live.residual L n r warn fault).pins.sswOpen = L.pins.sswOpen ∧
    (Live.residual L n r warn fault).saf.supplyLoss = L.saf.supplyLoss ∧
    (Live.residual L n r warn fault).saf.fastLatch = L.saf.fastLatch ∧
    (Live.residual L n r warn fault).saf.precharge = L.saf.precharge ∧
    (Live.residual L n r warn fault).saf.pairs = L.saf.pairs ∧
    (Live.residual L n r warn fault).saf.eA = L.saf.eA ∧
    (Live.residual L n r warn fault).saf.eB = L.saf.eB ∧
    (Live.residual L n r warn fault).twin.pair = L.twin.pair ∧
    (Live.residual L n r warn fault).twin.gen = L.twin.gen ∧
    (Live.residual L n r warn fault).twin.p = L.twin.p ∧
    (Live.residual L n r warn fault).twin.transfer = L.twin.transfer ∧
    (Live.residual L n r warn fault).twin.check = L.twin.check := by
  have h0 := @Live.trip_keeps
  simp [Live.residual, h0]

theorem Live.plumb_keeps (L : Live) :
    (Live.plumb L).mode.booted = L.mode.booted ∧
    (Live.plumb L).mode.listening = L.mode.listening ∧
    (Live.plumb L).mode.quarryEntry = L.mode.quarryEntry ∧
    (Live.plumb L).pins.aux1 = L.pins.aux1 ∧
    (Live.plumb L).pins.aux2 = L.pins.aux2 ∧
    (Live.plumb L).pins.auxSince = L.pins.auxSince ∧
    (Live.plumb L).pins.holdup = L.pins.holdup ∧
    (Live.plumb L).pins.quarryRelays = L.pins.quarryRelays ∧
    (Live.plumb L).pins.fbKpOpen = L.pins.fbKpOpen ∧
    (Live.plumb L).pins.fbKnOpen = L.pins.fbKnOpen ∧
    (Live.plumb L).pins.sswOpen = L.pins.sswOpen ∧
    (Live.plumb L).saf.supplyLoss = L.saf.supplyLoss ∧
    (Live.plumb L).saf.fastLatch = L.saf.fastLatch ∧
    (Live.plumb L).saf.precharge = L.saf.precharge ∧
    (Live.plumb L).saf.pairs = L.saf.pairs ∧
    (Live.plumb L).saf.eA = L.saf.eA ∧
    (Live.plumb L).saf.eB = L.saf.eB ∧
    (Live.plumb L).twin.pair = L.twin.pair ∧
    (Live.plumb L).twin.gen = L.twin.gen ∧
    (Live.plumb L).twin.p = L.twin.p ∧
    (Live.plumb L).twin.transfer = L.twin.transfer ∧
    (Live.plumb L).twin.check = L.twin.check := by
  have h0 := @Live.residual_keeps
  simp [Live.plumb, h0]

theorem Live.segCommand_keeps (L : Live) (s : Nat) :
    (Live.segCommand L s).mode.booted = L.mode.booted ∧
    (Live.segCommand L s).mode.listening = L.mode.listening ∧
    (Live.segCommand L s).mode.quarryEntry = L.mode.quarryEntry ∧
    (Live.segCommand L s).pins.aux1 = L.pins.aux1 ∧
    (Live.segCommand L s).pins.aux2 = L.pins.aux2 ∧
    (Live.segCommand L s).pins.auxSince = L.pins.auxSince ∧
    (Live.segCommand L s).pins.holdup = L.pins.holdup ∧
    (Live.segCommand L s).pins.quarryRelays = L.pins.quarryRelays ∧
    (Live.segCommand L s).pins.fbKpOpen = L.pins.fbKpOpen ∧
    (Live.segCommand L s).pins.fbKnOpen = L.pins.fbKnOpen ∧
    (Live.segCommand L s).pins.sswOpen = L.pins.sswOpen ∧
    (Live.segCommand L s).saf.supplyLoss = L.saf.supplyLoss ∧
    (Live.segCommand L s).saf.fastLatch = L.saf.fastLatch ∧
    (Live.segCommand L s).saf.precharge = L.saf.precharge ∧
    (Live.segCommand L s).saf.pairs = L.saf.pairs ∧
    (Live.segCommand L s).saf.eA = L.saf.eA ∧
    (Live.segCommand L s).saf.eB = L.saf.eB ∧
    (Live.segCommand L s).twin.pair = L.twin.pair ∧
    (Live.segCommand L s).twin.gen = L.twin.gen ∧
    (Live.segCommand L s).twin.p = L.twin.p ∧
    (Live.segCommand L s).twin.transfer = L.twin.transfer ∧
    (Live.segCommand L s).twin.check = L.twin.check := by
  have h0 := @Live.modSeg_frame
  have h1 := @Live.rejoin_keeps
  have h2 := @Live.leave_keeps
  simp only [Live.segCommand]
  (repeat' split) <;> simp [h0, h1, h2]

theorem Live.resting_keeps (L : Live) (s : Nat) :
    (Live.resting L s).mode.booted = L.mode.booted ∧
    (Live.resting L s).mode.listening = L.mode.listening ∧
    (Live.resting L s).mode.quarryEntry = L.mode.quarryEntry ∧
    (Live.resting L s).pins.aux1 = L.pins.aux1 ∧
    (Live.resting L s).pins.aux2 = L.pins.aux2 ∧
    (Live.resting L s).pins.auxSince = L.pins.auxSince ∧
    (Live.resting L s).pins.holdup = L.pins.holdup ∧
    (Live.resting L s).pins.quarryRelays = L.pins.quarryRelays ∧
    (Live.resting L s).pins.fbKpOpen = L.pins.fbKpOpen ∧
    (Live.resting L s).pins.fbKnOpen = L.pins.fbKnOpen ∧
    (Live.resting L s).pins.sswOpen = L.pins.sswOpen ∧
    (Live.resting L s).saf.supplyLoss = L.saf.supplyLoss ∧
    (Live.resting L s).saf.fastLatch = L.saf.fastLatch ∧
    (Live.resting L s).saf.precharge = L.saf.precharge ∧
    (Live.resting L s).saf.pairs = L.saf.pairs ∧
    (Live.resting L s).saf.eA = L.saf.eA ∧
    (Live.resting L s).saf.eB = L.saf.eB ∧
    (Live.resting L s).twin.pair = L.twin.pair ∧
    (Live.resting L s).twin.gen = L.twin.gen ∧
    (Live.resting L s).twin.p = L.twin.p ∧
    (Live.resting L s).twin.transfer = L.twin.transfer ∧
    (Live.resting L s).twin.check = L.twin.check := by
  have h0 := @Live.leave_keeps
  have h1 := @Live.rejoin_keeps
  simp [Live.resting, h0, h1]

theorem Live.carrierBoundary_keeps (L : Live) :
    (Live.carrierBoundary L).mode.booted = L.mode.booted ∧
    (Live.carrierBoundary L).mode.listening = L.mode.listening ∧
    (Live.carrierBoundary L).mode.quarryEntry = L.mode.quarryEntry ∧
    (Live.carrierBoundary L).pins.aux1 = L.pins.aux1 ∧
    (Live.carrierBoundary L).pins.aux2 = L.pins.aux2 ∧
    (Live.carrierBoundary L).pins.auxSince = L.pins.auxSince ∧
    (Live.carrierBoundary L).pins.holdup = L.pins.holdup ∧
    (Live.carrierBoundary L).pins.quarryRelays = L.pins.quarryRelays ∧
    (Live.carrierBoundary L).pins.fbKpOpen = L.pins.fbKpOpen ∧
    (Live.carrierBoundary L).pins.fbKnOpen = L.pins.fbKnOpen ∧
    (Live.carrierBoundary L).pins.sswOpen = L.pins.sswOpen ∧
    (Live.carrierBoundary L).saf.supplyLoss = L.saf.supplyLoss ∧
    (Live.carrierBoundary L).saf.fastLatch = L.saf.fastLatch ∧
    (Live.carrierBoundary L).saf.precharge = L.saf.precharge ∧
    (Live.carrierBoundary L).saf.pairs = L.saf.pairs ∧
    (Live.carrierBoundary L).saf.eA = L.saf.eA ∧
    (Live.carrierBoundary L).saf.eB = L.saf.eB ∧
    (Live.carrierBoundary L).twin.pair = L.twin.pair ∧
    (Live.carrierBoundary L).twin.gen = L.twin.gen ∧
    (Live.carrierBoundary L).twin.p = L.twin.p ∧
    (Live.carrierBoundary L).twin.transfer = L.twin.transfer ∧
    (Live.carrierBoundary L).twin.check = L.twin.check := by
  have h0 := @Live.resting_frame
  have h1 := @Live.segCommand_frame
  have h2 := @Live.arrange_frame
  have h3 := @Live.resting_keeps
  have h4 := @Live.segCommand_keeps
  simp [Live.carrierBoundary, h0, h1, h2, h3, h4]

theorem Live.release_keeps (L : Live) :
    (Live.release L).mode.booted = L.mode.booted ∧
    (Live.release L).mode.listening = L.mode.listening ∧
    (Live.release L).mode.quarryEntry = L.mode.quarryEntry ∧
    (Live.release L).pins.aux1 = L.pins.aux1 ∧
    (Live.release L).pins.aux2 = L.pins.aux2 ∧
    (Live.release L).pins.auxSince = L.pins.auxSince ∧
    (Live.release L).pins.holdup = L.pins.holdup ∧
    (Live.release L).pins.quarryRelays = L.pins.quarryRelays ∧
    (Live.release L).pins.fbKpOpen = L.pins.fbKpOpen ∧
    (Live.release L).pins.fbKnOpen = L.pins.fbKnOpen ∧
    (Live.release L).pins.sswOpen = L.pins.sswOpen ∧
    (Live.release L).saf.supplyLoss = L.saf.supplyLoss ∧
    (Live.release L).saf.fastLatch = L.saf.fastLatch ∧
    (Live.release L).saf.precharge = L.saf.precharge ∧
    (Live.release L).saf.pairs = L.saf.pairs ∧
    (Live.release L).saf.eA = L.saf.eA ∧
    (Live.release L).saf.eB = L.saf.eB ∧
    (Live.release L).twin.pair = L.twin.pair ∧
    (Live.release L).twin.gen = L.twin.gen ∧
    (Live.release L).twin.p = L.twin.p ∧
    (Live.release L).twin.transfer = L.twin.transfer ∧
    (Live.release L).twin.check = L.twin.check := by
  have h0 := @Live.carrierBoundary_frame
  have h1 := @Live.carrierBoundary_keeps
  simp [Live.release, h0, h1]

theorem Live.seqSample_keeps (L : Live) :
    (Live.seqSample L).mode.pendEnable = L.mode.pendEnable ∧
    (Live.seqSample L).mode.booted = L.mode.booted ∧
    (Live.seqSample L).mode.listening = L.mode.listening ∧
    (Live.seqSample L).mode.quarryEntry = L.mode.quarryEntry ∧
    (Live.seqSample L).pins.aux1 = L.pins.aux1 ∧
    (Live.seqSample L).pins.aux2 = L.pins.aux2 ∧
    (Live.seqSample L).pins.auxSince = L.pins.auxSince ∧
    (Live.seqSample L).pins.holdup = L.pins.holdup ∧
    (Live.seqSample L).pins.elementOpen = L.pins.elementOpen ∧
    (Live.seqSample L).pins.elemA = L.pins.elemA ∧
    (Live.seqSample L).pins.elemB = L.pins.elemB ∧
    (Live.seqSample L).pins.quarryRelays = L.pins.quarryRelays ∧
    (Live.seqSample L).pins.fbKpOpen = L.pins.fbKpOpen ∧
    (Live.seqSample L).pins.fbKnOpen = L.pins.fbKnOpen ∧
    (Live.seqSample L).pins.sswOpen = L.pins.sswOpen ∧
    (Live.seqSample L).saf.supplyLoss = L.saf.supplyLoss ∧
    (Live.seqSample L).saf.fastLatch = L.saf.fastLatch ∧
    (Live.seqSample L).saf.hazard = L.saf.hazard ∧
    (Live.seqSample L).saf.precharge = L.saf.precharge ∧
    (Live.seqSample L).saf.pairs = L.saf.pairs ∧
    (Live.seqSample L).saf.eA = L.saf.eA ∧
    (Live.seqSample L).saf.eB = L.saf.eB := by
  have h0 := @Live.seqOn_keeps
  have h1 := @Live.toStep2_keeps
  have h2 := @Live.toStep2_frame
  simp only [Live.seqSample]
  (repeat' split) <;> simp [h0, h1, h2]

theorem Live.sampleIn_keeps (L : Live) (x : SampleIn) :
    (Live.sampleIn L x).mode.booted = L.mode.booted ∧
    (Live.sampleIn L x).mode.listening = L.mode.listening ∧
    (Live.sampleIn L x).mode.quarryEntry = L.mode.quarryEntry ∧
    (Live.sampleIn L x).pins.aux1 = L.pins.aux1 ∧
    (Live.sampleIn L x).pins.aux2 = L.pins.aux2 ∧
    (Live.sampleIn L x).pins.auxSince = L.pins.auxSince ∧
    (Live.sampleIn L x).pins.holdup = L.pins.holdup ∧
    (Live.sampleIn L x).pins.quarryRelays = L.pins.quarryRelays ∧
    (Live.sampleIn L x).pins.fbKpOpen = L.pins.fbKpOpen ∧
    (Live.sampleIn L x).pins.fbKnOpen = L.pins.fbKnOpen ∧
    (Live.sampleIn L x).pins.sswOpen = L.pins.sswOpen ∧
    (Live.sampleIn L x).saf.supplyLoss = L.saf.supplyLoss ∧
    (Live.sampleIn L x).saf.fastLatch = L.saf.fastLatch ∧
    (Live.sampleIn L x).saf.precharge = L.saf.precharge ∧
    (Live.sampleIn L x).saf.pairs = L.saf.pairs ∧
    (Live.sampleIn L x).saf.eA = L.saf.eA ∧
    (Live.sampleIn L x).saf.eB = L.saf.eB ∧
    (Live.sampleIn L x).twin.pair = L.twin.pair ∧
    (Live.sampleIn L x).twin.gen = L.twin.gen ∧
    (Live.sampleIn L x).twin.p = L.twin.p ∧
    (Live.sampleIn L x).twin.transfer = L.twin.transfer ∧
    (Live.sampleIn L x).twin.check = L.twin.check ∧
    (Live.sampleIn L x).ks.edit = L.ks.edit ∧
    (Live.sampleIn L x).ks.epoch = L.ks.epoch ∧
    (Live.sampleIn L x).ks.pend = L.ks.pend := by
  have h0 := @Live.countEnergy_frame
  have h1 := @Live.sumHeat_frame
  have h2 := @Live.shareSample_frame
  have h3 := @Live.quiet_frame
  have h4 := @Live.settleX_frame
  have h5 := @Live.sourceEvent_frame
  have h6 := @Live.setDir_frame
  have h7 := @Live.endFrame_frame
  have h8 := @Live.measure_frame
  have h9 := @Live.rebase_frame
  have h10 := @Live.capCommands_frame
  have h11 := @Live.takeCommit_frame
  have h12 := @Live.crossing_keeps
  have h13 := @Live.settleX_keeps
  have h14 := @Live.sourceEvent_keeps
  have h15 := @Live.sumHeat_keeps
  have h16 := @Live.shareSample_keeps
  have h17 := @Live.takeCommit_keeps
  have h18 := @Live.crossing_frame
  simp [Live.sampleIn, h0, h1, h2, h3, h4, h5, h6, h7, h8, h9, h10, h11, h12, h13, h14, h15, h16, h17, h18]

theorem Live.sampleEngine_keeps (L : Live) (x : SampleIn) :
    (Live.sampleEngine L x).pins.aux1 = L.pins.aux1 ∧
    (Live.sampleEngine L x).pins.aux2 = L.pins.aux2 ∧
    (Live.sampleEngine L x).pins.auxSince = L.pins.auxSince ∧
    (Live.sampleEngine L x).pins.holdup = L.pins.holdup ∧
    (Live.sampleEngine L x).pins.quarryRelays = L.pins.quarryRelays ∧
    (Live.sampleEngine L x).pins.fbKpOpen = L.pins.fbKpOpen ∧
    (Live.sampleEngine L x).pins.fbKnOpen = L.pins.fbKnOpen ∧
    (Live.sampleEngine L x).pins.sswOpen = L.pins.sswOpen ∧
    (Live.sampleEngine L x).saf.supplyLoss = L.saf.supplyLoss ∧
    (Live.sampleEngine L x).saf.fastLatch = L.saf.fastLatch ∧
    (Live.sampleEngine L x).saf.precharge = L.saf.precharge ∧
    (Live.sampleEngine L x).saf.pairs = L.saf.pairs ∧
    (Live.sampleEngine L x).saf.eA = L.saf.eA ∧
    (Live.sampleEngine L x).saf.eB = L.saf.eB ∧
    (Live.sampleEngine L x).twin.pair = L.twin.pair ∧
    (Live.sampleEngine L x).twin.gen = L.twin.gen ∧
    (Live.sampleEngine L x).twin.p = L.twin.p ∧
    (Live.sampleEngine L x).twin.transfer = L.twin.transfer ∧
    (Live.sampleEngine L x).twin.check = L.twin.check := by
  have h0 := @Live.tellEst_frame
  have h1 := @Live.runEngine_keeps
  have h2 := @Live.chiselSignal_frame
  have h3 := @Live.chiselBegin_frame
  have h4 := @Live.plumb_keeps
  simp [Live.sampleEngine, h0, h1, h2, h3, h4]

theorem Live.sampleOut_keeps (snap L : Live) (c₀ : List Rat) (chiselNow : Bool) :
    (Live.sampleOut snap L c₀ chiselNow).mode.pendEnable = L.mode.pendEnable ∧
    (Live.sampleOut snap L c₀ chiselNow).mode.booted = L.mode.booted ∧
    (Live.sampleOut snap L c₀ chiselNow).mode.listening = L.mode.listening ∧
    (Live.sampleOut snap L c₀ chiselNow).mode.quarryEntry = L.mode.quarryEntry ∧
    (Live.sampleOut snap L c₀ chiselNow).pins.aux1 = L.pins.aux1 ∧
    (Live.sampleOut snap L c₀ chiselNow).pins.aux2 = L.pins.aux2 ∧
    (Live.sampleOut snap L c₀ chiselNow).pins.auxSince = L.pins.auxSince ∧
    (Live.sampleOut snap L c₀ chiselNow).pins.holdup = L.pins.holdup ∧
    (Live.sampleOut snap L c₀ chiselNow).pins.elementOpen = L.pins.elementOpen ∧
    (Live.sampleOut snap L c₀ chiselNow).pins.elemA = L.pins.elemA ∧
    (Live.sampleOut snap L c₀ chiselNow).pins.elemB = L.pins.elemB ∧
    (Live.sampleOut snap L c₀ chiselNow).pins.quarryRelays = L.pins.quarryRelays ∧
    (Live.sampleOut snap L c₀ chiselNow).pins.fbKpOpen = L.pins.fbKpOpen ∧
    (Live.sampleOut snap L c₀ chiselNow).pins.fbKnOpen = L.pins.fbKnOpen ∧
    (Live.sampleOut snap L c₀ chiselNow).pins.sswOpen = L.pins.sswOpen ∧
    (Live.sampleOut snap L c₀ chiselNow).saf.supplyLoss = L.saf.supplyLoss ∧
    (Live.sampleOut snap L c₀ chiselNow).saf.fastLatch = L.saf.fastLatch ∧
    (Live.sampleOut snap L c₀ chiselNow).saf.hazard = L.saf.hazard ∧
    (Live.sampleOut snap L c₀ chiselNow).saf.precharge = L.saf.precharge ∧
    (Live.sampleOut snap L c₀ chiselNow).saf.pairs = L.saf.pairs ∧
    (Live.sampleOut snap L c₀ chiselNow).saf.eA = L.saf.eA ∧
    (Live.sampleOut snap L c₀ chiselNow).saf.eB = L.saf.eB ∧
    (Live.sampleOut snap L c₀ chiselNow).twin.holds = L.twin.holds ∧
    (Live.sampleOut snap L c₀ chiselNow).twin.pair = L.twin.pair ∧
    (Live.sampleOut snap L c₀ chiselNow).twin.gen = L.twin.gen ∧
    (Live.sampleOut snap L c₀ chiselNow).twin.p = L.twin.p ∧
    (Live.sampleOut snap L c₀ chiselNow).twin.transfer = L.twin.transfer ∧
    (Live.sampleOut snap L c₀ chiselNow).twin.check = L.twin.check := by
  have h0 := @Live.seqSample_frame
  have h1 := @Live.derate_frame
  have h2 := @Live.capture_frame
  have h3 := @Live.seqSample_keeps
  have h4 := @Live.derate_keeps
  simp [Live.sampleOut, h0, h1, h2, h3, h4]

theorem Live.sample_keeps (snap L : Live) (x : SampleIn) :
    (Live.sample snap L x).pins.aux1 = L.pins.aux1 ∧
    (Live.sample snap L x).pins.aux2 = L.pins.aux2 ∧
    (Live.sample snap L x).pins.auxSince = L.pins.auxSince ∧
    (Live.sample snap L x).pins.holdup = L.pins.holdup ∧
    (Live.sample snap L x).pins.quarryRelays = L.pins.quarryRelays ∧
    (Live.sample snap L x).pins.fbKpOpen = L.pins.fbKpOpen ∧
    (Live.sample snap L x).pins.fbKnOpen = L.pins.fbKnOpen ∧
    (Live.sample snap L x).pins.sswOpen = L.pins.sswOpen ∧
    (Live.sample snap L x).saf.supplyLoss = L.saf.supplyLoss ∧
    (Live.sample snap L x).saf.fastLatch = L.saf.fastLatch ∧
    (Live.sample snap L x).saf.precharge = L.saf.precharge ∧
    (Live.sample snap L x).saf.pairs = L.saf.pairs ∧
    (Live.sample snap L x).saf.eA = L.saf.eA ∧
    (Live.sample snap L x).saf.eB = L.saf.eB ∧
    (Live.sample snap L x).twin.pair = L.twin.pair ∧
    (Live.sample snap L x).twin.gen = L.twin.gen ∧
    (Live.sample snap L x).twin.p = L.twin.p ∧
    (Live.sample snap L x).twin.transfer = L.twin.transfer ∧
    (Live.sample snap L x).twin.check = L.twin.check ∧
    (Live.sample snap L x).ks.edit = L.ks.edit ∧
    (Live.sample snap L x).ks.epoch = L.ks.epoch ∧
    (Live.sample snap L x).ks.pend = L.ks.pend := by
  have h0 := @Live.releaseOld_frame
  have h1 := @Live.sampleOut_keeps
  have h2 := @Live.sampleEngine_keeps
  have h3 := @Live.sampleRamp_frame
  have h4 := @Live.sampleIn_keeps
  have h5 := @Live.release_keeps
  have h6 := @Live.sampleOut_frame
  have h7 := @Live.sampleEngine_frame
  have h8 := @Live.release_frame
  simp [Live.sample, h0, h1, h2, h3, h4, h5, h6, h7, h8]

theorem Live.applyStep_keeps (L : Live) :
    (Live.applyStep L).time.clk = L.time.clk ∧
    (Live.applyStep L).ks.edit = L.ks.edit ∧
    (Live.applyStep L).ks.epoch = L.ks.epoch ∧
    (Live.applyStep L).ks.pend = L.ks.pend := by
  have h0 := @Live.heatDecay_frame
  simp [Live.applyStep, h0]

end Sys2Proof.Machine
end

