-- ==== Sys2Proof/Laws/KeepTherm.lean ====
section
/-! SUPPORT. Single registers that the operations of Machine/Therm.lean leave as they are. -/

namespace Sys2Proof.Machine

open Sys2Proof

theorem Live.overTemp_keeps (L : Live) :
    (Live.overTemp L).mode.booted = L.mode.booted ∧
    (Live.overTemp L).mode.listening = L.mode.listening ∧
    (Live.overTemp L).mode.quarryEntry = L.mode.quarryEntry ∧
    (Live.overTemp L).pins.aux1 = L.pins.aux1 ∧
    (Live.overTemp L).pins.aux2 = L.pins.aux2 ∧
    (Live.overTemp L).pins.auxSince = L.pins.auxSince ∧
    (Live.overTemp L).pins.holdup = L.pins.holdup ∧
    (Live.overTemp L).pins.quarryRelays = L.pins.quarryRelays ∧
    (Live.overTemp L).pins.fbKpOpen = L.pins.fbKpOpen ∧
    (Live.overTemp L).pins.fbKnOpen = L.pins.fbKnOpen ∧
    (Live.overTemp L).pins.sswOpen = L.pins.sswOpen ∧
    (Live.overTemp L).saf.supplyLoss = L.saf.supplyLoss ∧
    (Live.overTemp L).saf.fastLatch = L.saf.fastLatch ∧
    (Live.overTemp L).saf.precharge = L.saf.precharge ∧
    (Live.overTemp L).saf.pairs = L.saf.pairs ∧
    (Live.overTemp L).saf.eA = L.saf.eA ∧
    (Live.overTemp L).saf.eB = L.saf.eB ∧
    (Live.overTemp L).twin.pair = L.twin.pair ∧
    (Live.overTemp L).twin.gen = L.twin.gen ∧
    (Live.overTemp L).twin.p = L.twin.p ∧
    (Live.overTemp L).twin.transfer = L.twin.transfer ∧
    (Live.overTemp L).twin.check = L.twin.check := by
  have h0 := @Live.trip_keeps
  simp [Live.overTemp, h0]

theorem Live.thermEffects_keeps (L : Live) :
    (Live.thermEffects L).mode.booted = L.mode.booted ∧
    (Live.thermEffects L).mode.listening = L.mode.listening ∧
    (Live.thermEffects L).mode.quarryEntry = L.mode.quarryEntry ∧
    (Live.thermEffects L).pins.aux1 = L.pins.aux1 ∧
    (Live.thermEffects L).pins.aux2 = L.pins.aux2 ∧
    (Live.thermEffects L).pins.auxSince = L.pins.auxSince ∧
    (Live.thermEffects L).pins.holdup = L.pins.holdup ∧
    (Live.thermEffects L).pins.quarryRelays = L.pins.quarryRelays ∧
    (Live.thermEffects L).pins.fbKpOpen = L.pins.fbKpOpen ∧
    (Live.thermEffects L).pins.fbKnOpen = L.pins.fbKnOpen ∧
    (Live.thermEffects L).pins.sswOpen = L.pins.sswOpen ∧
    (Live.thermEffects L).saf.supplyLoss = L.saf.supplyLoss ∧
    (Live.thermEffects L).saf.fastLatch = L.saf.fastLatch ∧
    (Live.thermEffects L).saf.precharge = L.saf.precharge ∧
    (Live.thermEffects L).saf.pairs = L.saf.pairs ∧
    (Live.thermEffects L).saf.eA = L.saf.eA ∧
    (Live.thermEffects L).saf.eB = L.saf.eB ∧
    (Live.thermEffects L).twin.pair = L.twin.pair ∧
    (Live.thermEffects L).twin.gen = L.twin.gen ∧
    (Live.thermEffects L).twin.p = L.twin.p ∧
    (Live.thermEffects L).twin.transfer = L.twin.transfer ∧
    (Live.thermEffects L).twin.check = L.twin.check ∧
    (Live.thermEffects L).ks.edit = L.ks.edit ∧
    (Live.thermEffects L).ks.epoch = L.ks.epoch := by
  have h0 := @Live.unplanned_keeps
  simp [Live.thermEffects, h0]

theorem Live.throttleHandover_keeps (L : Live) (was : Bool) :
    (Live.throttleHandover L was).twin.holds = L.twin.holds ∧
    (Live.throttleHandover L was).twin.pair = L.twin.pair ∧
    (Live.throttleHandover L was).twin.gen = L.twin.gen ∧
    (Live.throttleHandover L was).twin.p = L.twin.p ∧
    (Live.throttleHandover L was).twin.transfer = L.twin.transfer ∧
    (Live.throttleHandover L was).twin.check = L.twin.check := by
  have h0 := @Live.requestHandover_keeps
  simp [Live.throttleHandover, h0]

theorem Live.moduleShutdown_keeps (L : Live) :
    (Live.moduleShutdown L).mode.booted = L.mode.booted ∧
    (Live.moduleShutdown L).mode.listening = L.mode.listening ∧
    (Live.moduleShutdown L).mode.quarryEntry = L.mode.quarryEntry ∧
    (Live.moduleShutdown L).pins.aux1 = L.pins.aux1 ∧
    (Live.moduleShutdown L).pins.aux2 = L.pins.aux2 ∧
    (Live.moduleShutdown L).pins.auxSince = L.pins.auxSince ∧
    (Live.moduleShutdown L).pins.holdup = L.pins.holdup ∧
    (Live.moduleShutdown L).pins.quarryRelays = L.pins.quarryRelays ∧
    (Live.moduleShutdown L).pins.fbKpOpen = L.pins.fbKpOpen ∧
    (Live.moduleShutdown L).pins.fbKnOpen = L.pins.fbKnOpen ∧
    (Live.moduleShutdown L).pins.sswOpen = L.pins.sswOpen ∧
    (Live.moduleShutdown L).saf.supplyLoss = L.saf.supplyLoss ∧
    (Live.moduleShutdown L).saf.fastLatch = L.saf.fastLatch ∧
    (Live.moduleShutdown L).saf.precharge = L.saf.precharge ∧
    (Live.moduleShutdown L).saf.pairs = L.saf.pairs ∧
    (Live.moduleShutdown L).saf.eA = L.saf.eA ∧
    (Live.moduleShutdown L).saf.eB = L.saf.eB ∧
    (Live.moduleShutdown L).twin.pair = L.twin.pair ∧
    (Live.moduleShutdown L).twin.gen = L.twin.gen ∧
    (Live.moduleShutdown L).twin.p = L.twin.p ∧
    (Live.moduleShutdown L).twin.transfer = L.twin.transfer ∧
    (Live.moduleShutdown L).twin.check = L.twin.check := by
  have h0 := @Live.sf12_keeps
  simp [Live.moduleShutdown, h0]

end Sys2Proof.Machine
end

