-- ==== Sys2Proof/Laws/KeepLinkOps.lean ====
section
/-! SUPPORT. Single registers that the operations of Machine/LinkOps.lean leave as they are. -/

namespace Sys2Proof.Machine

open Sys2Proof

theorem Live.finishHandover_keeps (L : Live) :
    (Live.finishHandover L).mode.booted = L.mode.booted ∧
    (Live.finishHandover L).mode.listening = L.mode.listening ∧
    (Live.finishHandover L).mode.quarryEntry = L.mode.quarryEntry ∧
    (Live.finishHandover L).pins.aux1 = L.pins.aux1 ∧
    (Live.finishHandover L).pins.aux2 = L.pins.aux2 ∧
    (Live.finishHandover L).pins.auxSince = L.pins.auxSince ∧
    (Live.finishHandover L).pins.holdup = L.pins.holdup ∧
    (Live.finishHandover L).pins.quarryRelays = L.pins.quarryRelays ∧
    (Live.finishHandover L).pins.fbKpOpen = L.pins.fbKpOpen ∧
    (Live.finishHandover L).pins.fbKnOpen = L.pins.fbKnOpen ∧
    (Live.finishHandover L).pins.sswOpen = L.pins.sswOpen ∧
    (Live.finishHandover L).saf.supplyLoss = L.saf.supplyLoss ∧
    (Live.finishHandover L).saf.fastLatch = L.saf.fastLatch ∧
    (Live.finishHandover L).saf.precharge = L.saf.precharge ∧
    (Live.finishHandover L).saf.pairs = L.saf.pairs ∧
    (Live.finishHandover L).saf.eA = L.saf.eA ∧
    (Live.finishHandover L).saf.eB = L.saf.eB ∧
    (Live.finishHandover L).twin.pair = L.twin.pair ∧
    (Live.finishHandover L).twin.gen = L.twin.gen ∧
    (Live.finishHandover L).twin.p = L.twin.p ∧
    (Live.finishHandover L).twin.transfer = L.twin.transfer ∧
    (Live.finishHandover L).twin.check = L.twin.check := by
  have h0 := @Live.insRelay_frame
  have h1 := @Live.openLoop_frame
  have h2 := @Live.setFast_frame
  have h3 := @Live.twinEv_frame
  have h4 := @Live.sf12_keeps
  have h5 := @Live.insRelay_keeps
  have h6 := @Live.openLoop_keeps
  have h7 := @Live.setFast_keeps
  simp [Live.finishHandover, h0, h1, h2, h3, h4, h5, h6, h7]

theorem Live.yieldToken_keeps (L : Live) :
    (Live.yieldToken L).pins.aux1 = L.pins.aux1 ∧
    (Live.yieldToken L).pins.aux2 = L.pins.aux2 ∧
    (Live.yieldToken L).pins.auxSince = L.pins.auxSince ∧
    (Live.yieldToken L).pins.holdup = L.pins.holdup ∧
    (Live.yieldToken L).pins.contactA = L.pins.contactA ∧
    (Live.yieldToken L).pins.contactB = L.pins.contactB ∧
    (Live.yieldToken L).pins.elementOpen = L.pins.elementOpen ∧
    (Live.yieldToken L).pins.elemA = L.pins.elemA ∧
    (Live.yieldToken L).pins.elemB = L.pins.elemB ∧
    (Live.yieldToken L).pins.quarryRelays = L.pins.quarryRelays ∧
    (Live.yieldToken L).pins.fbKpOpen = L.pins.fbKpOpen ∧
    (Live.yieldToken L).pins.fbKnOpen = L.pins.fbKnOpen ∧
    (Live.yieldToken L).pins.sswOpen = L.pins.sswOpen ∧
    (Live.yieldToken L).saf.supplyLoss = L.saf.supplyLoss ∧
    (Live.yieldToken L).saf.fastLatch = L.saf.fastLatch ∧
    (Live.yieldToken L).saf.hazard = L.saf.hazard ∧
    (Live.yieldToken L).saf.precharge = L.saf.precharge ∧
    (Live.yieldToken L).saf.ownCmd = L.saf.ownCmd ∧
    (Live.yieldToken L).saf.pairs = L.saf.pairs ∧
    (Live.yieldToken L).saf.eA = L.saf.eA ∧
    (Live.yieldToken L).saf.eB = L.saf.eB ∧
    (Live.yieldToken L).twin.pair = L.twin.pair ∧
    (Live.yieldToken L).twin.gen = L.twin.gen ∧
    (Live.yieldToken L).twin.p = L.twin.p ∧
    (Live.yieldToken L).twin.transfer = L.twin.transfer ∧
    (Live.yieldToken L).twin.check = L.twin.check := by
  have h0 := @Live.setFast_keeps
  have h1 := @Live.twinEv_frame
  have h2 := @Live.insRelay_keeps
  have h3 := @Live.setFast_frame
  have h4 := @Live.insRelay_frame
  simp [Live.yieldToken, h0, h1, h2, h3, h4]

theorem Live.dueThresholds_keeps (L : Live) :
    (Live.dueThresholds L).twin.holds = L.twin.holds ∧
    (Live.dueThresholds L).twin.pair = L.twin.pair ∧
    (Live.dueThresholds L).twin.gen = L.twin.gen ∧
    (Live.dueThresholds L).twin.p = L.twin.p ∧
    (Live.dueThresholds L).twin.transfer = L.twin.transfer ∧
    (Live.dueThresholds L).twin.check = L.twin.check := by
  have h0 := @Live.writeAllThresholds_frame
  simp [Live.dueThresholds, h0]

theorem Live.tokenReports_keeps (L : Live) (whole : Bool) :
    (Live.tokenReports L whole).mode.booted = L.mode.booted ∧
    (Live.tokenReports L whole).mode.listening = L.mode.listening ∧
    (Live.tokenReports L whole).mode.quarryEntry = L.mode.quarryEntry ∧
    (Live.tokenReports L whole).pins.aux1 = L.pins.aux1 ∧
    (Live.tokenReports L whole).pins.aux2 = L.pins.aux2 ∧
    (Live.tokenReports L whole).pins.auxSince = L.pins.auxSince ∧
    (Live.tokenReports L whole).pins.holdup = L.pins.holdup ∧
    (Live.tokenReports L whole).pins.quarryRelays = L.pins.quarryRelays ∧
    (Live.tokenReports L whole).pins.fbKpOpen = L.pins.fbKpOpen ∧
    (Live.tokenReports L whole).pins.fbKnOpen = L.pins.fbKnOpen ∧
    (Live.tokenReports L whole).pins.sswOpen = L.pins.sswOpen ∧
    (Live.tokenReports L whole).saf.supplyLoss = L.saf.supplyLoss ∧
    (Live.tokenReports L whole).saf.fastLatch = L.saf.fastLatch ∧
    (Live.tokenReports L whole).saf.precharge = L.saf.precharge ∧
    (Live.tokenReports L whole).saf.pairs = L.saf.pairs ∧
    (Live.tokenReports L whole).saf.eA = L.saf.eA ∧
    (Live.tokenReports L whole).saf.eB = L.saf.eB ∧
    (Live.tokenReports L whole).twin.pair = L.twin.pair ∧
    (Live.tokenReports L whole).twin.gen = L.twin.gen ∧
    (Live.tokenReports L whole).twin.p = L.twin.p ∧
    (Live.tokenReports L whole).twin.transfer = L.twin.transfer ∧
    (Live.tokenReports L whole).twin.check = L.twin.check := by
  have h0 := @Live.yieldToken_frame
  have h1 := @Live.twinEv_frame
  have h2 := @Live.dueThresholds_frame
  have h3 := @Live.insRelay_frame
  have h4 := @Live.finishHandover_keeps
  have h5 := @Live.yieldToken_keeps
  have h6 := @Live.insRelay_keeps
  have h7 := @Live.dueThresholds_keeps
  simp [Live.tokenReports, h0, h1, h2, h3, h4, h5, h6, h7]

theorem Live.modWatch_keeps (L : Live) (s : Nat) (f : SegWatch → SegWatch) :
    (Live.modWatch L s f).saf.supplyLoss = L.saf.supplyLoss ∧
    (Live.modWatch L s f).saf.fastLatch = L.saf.fastLatch ∧
    (Live.modWatch L s f).saf.hazard = L.saf.hazard ∧
    (Live.modWatch L s f).saf.precharge = L.saf.precharge ∧
    (Live.modWatch L s f).saf.ownCmd = L.saf.ownCmd ∧
    (Live.modWatch L s f).saf.pairs = L.saf.pairs ∧
    (Live.modWatch L s f).saf.eA = L.saf.eA ∧
    (Live.modWatch L s f).saf.eB = L.saf.eB := by
  simp [Live.modWatch]

theorem Live.judgeWord_keeps (L : Live) (s : Nat) (w : Bytes) :
    (Live.judgeWord L s w).mode.booted = L.mode.booted ∧
    (Live.judgeWord L s w).mode.listening = L.mode.listening ∧
    (Live.judgeWord L s w).mode.quarryEntry = L.mode.quarryEntry ∧
    (Live.judgeWord L s w).pins.aux1 = L.pins.aux1 ∧
    (Live.judgeWord L s w).pins.aux2 = L.pins.aux2 ∧
    (Live.judgeWord L s w).pins.auxSince = L.pins.auxSince ∧
    (Live.judgeWord L s w).pins.holdup = L.pins.holdup ∧
    (Live.judgeWord L s w).pins.quarryRelays = L.pins.quarryRelays ∧
    (Live.judgeWord L s w).pins.fbKpOpen = L.pins.fbKpOpen ∧
    (Live.judgeWord L s w).pins.fbKnOpen = L.pins.fbKnOpen ∧
    (Live.judgeWord L s w).pins.sswOpen = L.pins.sswOpen ∧
    (Live.judgeWord L s w).saf.supplyLoss = L.saf.supplyLoss ∧
    (Live.judgeWord L s w).saf.fastLatch = L.saf.fastLatch ∧
    (Live.judgeWord L s w).saf.precharge = L.saf.precharge ∧
    (Live.judgeWord L s w).saf.pairs = L.saf.pairs ∧
    (Live.judgeWord L s w).saf.eA = L.saf.eA ∧
    (Live.judgeWord L s w).saf.eB = L.saf.eB ∧
    (Live.judgeWord L s w).twin.pair = L.twin.pair ∧
    (Live.judgeWord L s w).twin.gen = L.twin.gen ∧
    (Live.judgeWord L s w).twin.p = L.twin.p ∧
    (Live.judgeWord L s w).twin.transfer = L.twin.transfer ∧
    (Live.judgeWord L s w).twin.check = L.twin.check ∧
    (Live.judgeWord L s w).ks.edit = L.ks.edit ∧
    (Live.judgeWord L s w).ks.epoch = L.ks.epoch := by
  have h0 := @Live.modWatch_frame
  have h1 := @Live.unplanned_keeps
  have h2 := @Live.trip_keeps
  have h3 := @Live.modWatch_keeps
  have h4 := @Live.trip_frame
  simp [Live.judgeWord, h0, h1, h2, h3, h4]

theorem Live.judgeCells_keeps (L : Live) (s : Nat) :
    (Live.judgeCells L s).mode.booted = L.mode.booted ∧
    (Live.judgeCells L s).mode.listening = L.mode.listening ∧
    (Live.judgeCells L s).mode.quarryEntry = L.mode.quarryEntry ∧
    (Live.judgeCells L s).pins.aux1 = L.pins.aux1 ∧
    (Live.judgeCells L s).pins.aux2 = L.pins.aux2 ∧
    (Live.judgeCells L s).pins.auxSince = L.pins.auxSince ∧
    (Live.judgeCells L s).pins.holdup = L.pins.holdup ∧
    (Live.judgeCells L s).pins.quarryRelays = L.pins.quarryRelays ∧
    (Live.judgeCells L s).pins.fbKpOpen = L.pins.fbKpOpen ∧
    (Live.judgeCells L s).pins.fbKnOpen = L.pins.fbKnOpen ∧
    (Live.judgeCells L s).pins.sswOpen = L.pins.sswOpen ∧
    (Live.judgeCells L s).saf.supplyLoss = L.saf.supplyLoss ∧
    (Live.judgeCells L s).saf.fastLatch = L.saf.fastLatch ∧
    (Live.judgeCells L s).saf.precharge = L.saf.precharge ∧
    (Live.judgeCells L s).saf.pairs = L.saf.pairs ∧
    (Live.judgeCells L s).saf.eA = L.saf.eA ∧
    (Live.judgeCells L s).saf.eB = L.saf.eB ∧
    (Live.judgeCells L s).twin.pair = L.twin.pair ∧
    (Live.judgeCells L s).twin.gen = L.twin.gen ∧
    (Live.judgeCells L s).twin.p = L.twin.p ∧
    (Live.judgeCells L s).twin.transfer = L.twin.transfer ∧
    (Live.judgeCells L s).twin.check = L.twin.check := by
  have h0 := @Live.modWatch_frame
  have h1 := @Live.modWatch_keeps
  have h2 := @Live.trip_keeps
  simp [Live.judgeCells, h0, h1, h2]

theorem Live.linkEvents_keeps (L : Live) (s : Nat) (old : Seg) :
    (Live.linkEvents L s old).saf.supplyLoss = L.saf.supplyLoss ∧
    (Live.linkEvents L s old).saf.fastLatch = L.saf.fastLatch ∧
    (Live.linkEvents L s old).saf.hazard = L.saf.hazard ∧
    (Live.linkEvents L s old).saf.precharge = L.saf.precharge ∧
    (Live.linkEvents L s old).saf.ownCmd = L.saf.ownCmd ∧
    (Live.linkEvents L s old).saf.pairs = L.saf.pairs ∧
    (Live.linkEvents L s old).saf.eA = L.saf.eA ∧
    (Live.linkEvents L s old).saf.eB = L.saf.eB := by
  have h0 := @Live.modSeg_frame
  have h1 := @Live.modWatch_keeps
  simp [Live.linkEvents, h0, h1]

end Sys2Proof.Machine
end

