-- ==== Sys2Proof/Laws/KeepLink.lean ====
section
/-! SUPPORT. Single registers that the operations of Machine/Link.lean leave as they are. -/

namespace Sys2Proof.Machine

open Sys2Proof

theorem Live.countMissing_keeps (L : Live) (s : Nat) :
    (Live.countMissing L s).saf.supplyLoss = L.saf.supplyLoss ∧
    (Live.countMissing L s).saf.fastLatch = L.saf.fastLatch ∧
    (Live.countMissing L s).saf.hazard = L.saf.hazard ∧
    (Live.countMissing L s).saf.precharge = L.saf.precharge ∧
    (Live.countMissing L s).saf.ownCmd = L.saf.ownCmd ∧
    (Live.countMissing L s).saf.pairs = L.saf.pairs ∧
    (Live.countMissing L s).saf.eA = L.saf.eA ∧
    (Live.countMissing L s).saf.eB = L.saf.eB := by
  have h0 := @Live.modWatch_keeps
  simp [Live.countMissing, h0]

theorem Live.segFrame_keeps (L : Live) (s : Nat) :
    (Live.segFrame L s).saf.supplyLoss = L.saf.supplyLoss ∧
    (Live.segFrame L s).saf.fastLatch = L.saf.fastLatch ∧
    (Live.segFrame L s).saf.hazard = L.saf.hazard ∧
    (Live.segFrame L s).saf.precharge = L.saf.precharge ∧
    (Live.segFrame L s).saf.ownCmd = L.saf.ownCmd ∧
    (Live.segFrame L s).saf.pairs = L.saf.pairs ∧
    (Live.segFrame L s).saf.eA = L.saf.eA ∧
    (Live.segFrame L s).saf.eB = L.saf.eB := by
  have h0 := @Live.pumpReq_frame
  have h1 := @Live.modSeg_frame
  have h2 := @Live.countMissing_keeps
  simp [Live.segFrame, h0, h1, h2]

theorem Live.goodUplink_keeps (L : Live) (s : Nat) (bs : Bytes) (t4 : Nat) :
    (Live.goodUplink L s bs t4).mode.booted = L.mode.booted ∧
    (Live.goodUplink L s bs t4).mode.listening = L.mode.listening ∧
    (Live.goodUplink L s bs t4).mode.quarryEntry = L.mode.quarryEntry ∧
    (Live.goodUplink L s bs t4).pins.aux1 = L.pins.aux1 ∧
    (Live.goodUplink L s bs t4).pins.aux2 = L.pins.aux2 ∧
    (Live.goodUplink L s bs t4).pins.auxSince = L.pins.auxSince ∧
    (Live.goodUplink L s bs t4).pins.holdup = L.pins.holdup ∧
    (Live.goodUplink L s bs t4).pins.quarryRelays = L.pins.quarryRelays ∧
    (Live.goodUplink L s bs t4).pins.fbKpOpen = L.pins.fbKpOpen ∧
    (Live.goodUplink L s bs t4).pins.fbKnOpen = L.pins.fbKnOpen ∧
    (Live.goodUplink L s bs t4).pins.sswOpen = L.pins.sswOpen ∧
    (Live.goodUplink L s bs t4).saf.supplyLoss = L.saf.supplyLoss ∧
    (Live.goodUplink L s bs t4).saf.fastLatch = L.saf.fastLatch ∧
    (Live.goodUplink L s bs t4).saf.precharge = L.saf.precharge ∧
    (Live.goodUplink L s bs t4).saf.pairs = L.saf.pairs ∧
    (Live.goodUplink L s bs t4).saf.eA = L.saf.eA ∧
    (Live.goodUplink L s bs t4).saf.eB = L.saf.eB ∧
    (Live.goodUplink L s bs t4).twin.pair = L.twin.pair ∧
    (Live.goodUplink L s bs t4).twin.gen = L.twin.gen ∧
    (Live.goodUplink L s bs t4).twin.p = L.twin.p ∧
    (Live.goodUplink L s bs t4).twin.transfer = L.twin.transfer ∧
    (Live.goodUplink L s bs t4).twin.check = L.twin.check ∧
    (Live.goodUplink L s bs t4).ks.edit = L.ks.edit ∧
    (Live.goodUplink L s bs t4).ks.epoch = L.ks.epoch := by
  have h0 := @Live.seqOn_keeps
  have h1 := @Live.tokenReports_keeps
  have h2 := @Live.arrivalUpdate_frame
  have h3 := @Live.bringOn_frame
  have h4 := @Live.linkFrom_frame
  have h5 := @Live.bypassSeen_frame
  have h6 := @Live.linkEvents_frame
  have h7 := @Live.takeData_frame
  have h8 := @Live.nodeMargin_frame
  have h9 := @Live.storeUplink_frame
  have h10 := @Live.judgeCells_keeps
  have h11 := @Live.setDone_frame
  have h12 := @Live.judgeWord_keeps
  have h13 := @Live.modSeg_frame
  have h14 := @Live.unplanned_keeps
  have h15 := @Live.linkEvents_keeps
  have h16 := @Live.seqOn_frame
  have h17 := @Live.tokenReports_frame
  have h18 := @Live.judgeCells_frame
  simp [Live.goodUplink, h0, h1, h2, h3, h4, h5, h6, h7, h8, h9, h10, h11, h12, h13, h14, h15, h16, h17, h18]

end Sys2Proof.Machine
end

