-- ==== Sys2Proof/Laws/KeepSafOps.lean ====
section
/-! SUPPORT. Single registers that the operations of Machine/SafOps.lean leave as they are. -/

namespace Sys2Proof.Machine

open Sys2Proof

theorem Live.modPair_keeps (L : Live) (i : Nat) (f : Pair → Pair) :
    (Live.modPair L i f).saf.supplyLoss = L.saf.supplyLoss ∧
    (Live.modPair L i f).saf.fastLatch = L.saf.fastLatch ∧
    (Live.modPair L i f).saf.hazard = L.saf.hazard ∧
    (Live.modPair L i f).saf.precharge = L.saf.precharge ∧
    (Live.modPair L i f).saf.ownCmd = L.saf.ownCmd ∧
    (Live.modPair L i f).saf.eA = L.saf.eA ∧
    (Live.modPair L i f).saf.eB = L.saf.eB := by
  simp [Live.modPair]

theorem Live.pairTrip_keeps (L : Live) (i ch : Nat) :
    (Live.pairTrip L i ch).mode.booted = L.mode.booted ∧
    (Live.pairTrip L i ch).mode.listening = L.mode.listening ∧
    (Live.pairTrip L i ch).mode.quarryEntry = L.mode.quarryEntry ∧
    (Live.pairTrip L i ch).pins.aux1 = L.pins.aux1 ∧
    (Live.pairTrip L i ch).pins.aux2 = L.pins.aux2 ∧
    (Live.pairTrip L i ch).pins.auxSince = L.pins.auxSince ∧
    (Live.pairTrip L i ch).pins.holdup = L.pins.holdup ∧
    (Live.pairTrip L i ch).pins.quarryRelays = L.pins.quarryRelays ∧
    (Live.pairTrip L i ch).pins.fbKpOpen = L.pins.fbKpOpen ∧
    (Live.pairTrip L i ch).pins.fbKnOpen = L.pins.fbKnOpen ∧
    (Live.pairTrip L i ch).pins.sswOpen = L.pins.sswOpen ∧
    (Live.pairTrip L i ch).saf.supplyLoss = L.saf.supplyLoss ∧
    (Live.pairTrip L i ch).saf.fastLatch = L.saf.fastLatch ∧
    (Live.pairTrip L i ch).saf.precharge = L.saf.precharge ∧
    (Live.pairTrip L i ch).saf.pairs = L.saf.pairs ∧
    (Live.pairTrip L i ch).saf.eA = L.saf.eA ∧
    (Live.pairTrip L i ch).saf.eB = L.saf.eB ∧
    (Live.pairTrip L i ch).twin.pair = L.twin.pair ∧
    (Live.pairTrip L i ch).twin.gen = L.twin.gen ∧
    (Live.pairTrip L i ch).twin.p = L.twin.p ∧
    (Live.pairTrip L i ch).twin.transfer = L.twin.transfer ∧
    (Live.pairTrip L i ch).twin.check = L.twin.check := by
  have h0 := @Live.trip_keeps
  simp [Live.pairTrip, h0]

theorem Live.judgePair_keeps (L : Live) (i : Nat) :
    (Live.judgePair L i).saf.supplyLoss = L.saf.supplyLoss ∧
    (Live.judgePair L i).saf.fastLatch = L.saf.fastLatch ∧
    (Live.judgePair L i).saf.hazard = L.saf.hazard ∧
    (Live.judgePair L i).saf.precharge = L.saf.precharge ∧
    (Live.judgePair L i).saf.ownCmd = L.saf.ownCmd ∧
    (Live.judgePair L i).saf.eA = L.saf.eA ∧
    (Live.judgePair L i).saf.eB = L.saf.eB := by
  have h0 := @Live.modPair_keeps
  simp [Live.judgePair, h0]

theorem Live.testFault_keeps (L : Live) (i : Nat) (chB cross : Bool) :
    (Live.testFault L i chB cross).mode.booted = L.mode.booted ∧
    (Live.testFault L i chB cross).mode.listening = L.mode.listening ∧
    (Live.testFault L i chB cross).mode.quarryEntry = L.mode.quarryEntry ∧
    (Live.testFault L i chB cross).pins.aux1 = L.pins.aux1 ∧
    (Live.testFault L i chB cross).pins.aux2 = L.pins.aux2 ∧
    (Live.testFault L i chB cross).pins.auxSince = L.pins.auxSince ∧
    (Live.testFault L i chB cross).pins.holdup = L.pins.holdup ∧
    (Live.testFault L i chB cross).pins.quarryRelays = L.pins.quarryRelays ∧
    (Live.testFault L i chB cross).pins.fbKpOpen = L.pins.fbKpOpen ∧
    (Live.testFault L i chB cross).pins.fbKnOpen = L.pins.fbKnOpen ∧
    (Live.testFault L i chB cross).pins.sswOpen = L.pins.sswOpen ∧
    (Live.testFault L i chB cross).saf.supplyLoss = L.saf.supplyLoss ∧
    (Live.testFault L i chB cross).saf.fastLatch = L.saf.fastLatch ∧
    (Live.testFault L i chB cross).saf.precharge = L.saf.precharge ∧
    (Live.testFault L i chB cross).saf.eA = L.saf.eA ∧
    (Live.testFault L i chB cross).saf.eB = L.saf.eB ∧
    (Live.testFault L i chB cross).twin.pair = L.twin.pair ∧
    (Live.testFault L i chB cross).twin.gen = L.twin.gen ∧
    (Live.testFault L i chB cross).twin.p = L.twin.p ∧
    (Live.testFault L i chB cross).twin.transfer = L.twin.transfer ∧
    (Live.testFault L i chB cross).twin.check = L.twin.check := by
  have h0 := @Live.pairTrip_keeps
  have h1 := @Live.modPair_frame
  have h2 := @Live.modPair_keeps
  simp [Live.testFault, h0, h1, h2]

theorem Live.pulseInput_keeps (L : Live) (own : Bool) (low : Nat) (chB : Bool) (i : Nat) :
    (Live.pulseInput L own low chB i).mode.booted = L.mode.booted ∧
    (Live.pulseInput L own low chB i).mode.listening = L.mode.listening ∧
    (Live.pulseInput L own low chB i).mode.quarryEntry = L.mode.quarryEntry ∧
    (Live.pulseInput L own low chB i).pins.aux1 = L.pins.aux1 ∧
    (Live.pulseInput L own low chB i).pins.aux2 = L.pins.aux2 ∧
    (Live.pulseInput L own low chB i).pins.auxSince = L.pins.auxSince ∧
    (Live.pulseInput L own low chB i).pins.holdup = L.pins.holdup ∧
    (Live.pulseInput L own low chB i).pins.quarryRelays = L.pins.quarryRelays ∧
    (Live.pulseInput L own low chB i).pins.fbKpOpen = L.pins.fbKpOpen ∧
    (Live.pulseInput L own low chB i).pins.fbKnOpen = L.pins.fbKnOpen ∧
    (Live.pulseInput L own low chB i).pins.sswOpen = L.pins.sswOpen ∧
    (Live.pulseInput L own low chB i).saf.supplyLoss = L.saf.supplyLoss ∧
    (Live.pulseInput L own low chB i).saf.fastLatch = L.saf.fastLatch ∧
    (Live.pulseInput L own low chB i).saf.precharge = L.saf.precharge ∧
    (Live.pulseInput L own low chB i).saf.eA = L.saf.eA ∧
    (Live.pulseInput L own low chB i).saf.eB = L.saf.eB ∧
    (Live.pulseInput L own low chB i).twin.pair = L.twin.pair ∧
    (Live.pulseInput L own low chB i).twin.gen = L.twin.gen ∧
    (Live.pulseInput L own low chB i).twin.p = L.twin.p ∧
    (Live.pulseInput L own low chB i).twin.transfer = L.twin.transfer ∧
    (Live.pulseInput L own low chB i).twin.check = L.twin.check := by
  have h0 := @Live.modPair_frame
  have h1 := @Live.testFault_keeps
  have h2 := @Live.modPair_keeps
  simp [Live.pulseInput, h0, h1, h2]

theorem Live.exchangePair_keeps (L : Live) (i : Nat) :
    (Live.exchangePair L i).mode.booted = L.mode.booted ∧
    (Live.exchangePair L i).mode.listening = L.mode.listening ∧
    (Live.exchangePair L i).mode.quarryEntry = L.mode.quarryEntry ∧
    (Live.exchangePair L i).pins.aux1 = L.pins.aux1 ∧
    (Live.exchangePair L i).pins.aux2 = L.pins.aux2 ∧
    (Live.exchangePair L i).pins.auxSince = L.pins.auxSince ∧
    (Live.exchangePair L i).pins.holdup = L.pins.holdup ∧
    (Live.exchangePair L i).pins.quarryRelays = L.pins.quarryRelays ∧
    (Live.exchangePair L i).pins.fbKpOpen = L.pins.fbKpOpen ∧
    (Live.exchangePair L i).pins.fbKnOpen = L.pins.fbKnOpen ∧
    (Live.exchangePair L i).pins.sswOpen = L.pins.sswOpen ∧
    (Live.exchangePair L i).saf.supplyLoss = L.saf.supplyLoss ∧
    (Live.exchangePair L i).saf.fastLatch = L.saf.fastLatch ∧
    (Live.exchangePair L i).saf.precharge = L.saf.precharge ∧
    (Live.exchangePair L i).saf.pairs = L.saf.pairs ∧
    (Live.exchangePair L i).saf.eA = L.saf.eA ∧
    (Live.exchangePair L i).saf.eB = L.saf.eB ∧
    (Live.exchangePair L i).twin.pair = L.twin.pair ∧
    (Live.exchangePair L i).twin.gen = L.twin.gen ∧
    (Live.exchangePair L i).twin.p = L.twin.p ∧
    (Live.exchangePair L i).twin.transfer = L.twin.transfer ∧
    (Live.exchangePair L i).twin.check = L.twin.check := by
  have h0 := @Live.pairTrip_keeps
  simp [Live.exchangePair, h0]

theorem Live.relWatch_keeps (L : Live) :
    (Live.relWatch L).saf.supplyLoss = L.saf.supplyLoss ∧
    (Live.relWatch L).saf.fastLatch = L.saf.fastLatch ∧
    (Live.relWatch L).saf.hazard = L.saf.hazard ∧
    (Live.relWatch L).saf.precharge = L.saf.precharge ∧
    (Live.relWatch L).saf.ownCmd = L.saf.ownCmd ∧
    (Live.relWatch L).saf.pairs = L.saf.pairs ∧
    (Live.relWatch L).saf.eA = L.saf.eA ∧
    (Live.relWatch L).saf.eB = L.saf.eB := by
  simp [Live.relWatch]

theorem Live.release__keeps (L : Live) (n : Nat) :
    (Live.release_ L n).pins.aux1 = L.pins.aux1 ∧
    (Live.release_ L n).pins.aux2 = L.pins.aux2 ∧
    (Live.release_ L n).pins.auxSince = L.pins.auxSince ∧
    (Live.release_ L n).pins.holdup = L.pins.holdup ∧
    (Live.release_ L n).pins.fastOff = L.pins.fastOff ∧
    (Live.release_ L n).pins.contactA = L.pins.contactA ∧
    (Live.release_ L n).pins.contactB = L.pins.contactB ∧
    (Live.release_ L n).pins.quarryRelays = L.pins.quarryRelays ∧
    (Live.release_ L n).pins.fbKpOpen = L.pins.fbKpOpen ∧
    (Live.release_ L n).pins.fbKnOpen = L.pins.fbKnOpen ∧
    (Live.release_ L n).pins.sswOpen = L.pins.sswOpen ∧
    (Live.release_ L n).saf.supplyLoss = L.saf.supplyLoss ∧
    (Live.release_ L n).saf.fastLatch = L.saf.fastLatch ∧
    (Live.release_ L n).saf.hazard = L.saf.hazard ∧
    (Live.release_ L n).saf.precharge = L.saf.precharge ∧
    (Live.release_ L n).saf.eA = L.saf.eA ∧
    (Live.release_ L n).saf.eB = L.saf.eB := by
  have h0 := @Live.releaseCause_frame
  have h1 := @Live.releaseCause_keeps
  have h2 := @Live.closeElement_keeps
  simp [Live.release_, h0, h1, h2]

theorem Live.obey_keeps (L : Live) (c : TripCmd) :
    (Live.obey L c).mode.booted = L.mode.booted ∧
    (Live.obey L c).mode.listening = L.mode.listening ∧
    (Live.obey L c).mode.quarryEntry = L.mode.quarryEntry ∧
    (Live.obey L c).pins.aux1 = L.pins.aux1 ∧
    (Live.obey L c).pins.aux2 = L.pins.aux2 ∧
    (Live.obey L c).pins.auxSince = L.pins.auxSince ∧
    (Live.obey L c).pins.holdup = L.pins.holdup ∧
    (Live.obey L c).pins.quarryRelays = L.pins.quarryRelays ∧
    (Live.obey L c).pins.fbKpOpen = L.pins.fbKpOpen ∧
    (Live.obey L c).pins.fbKnOpen = L.pins.fbKnOpen ∧
    (Live.obey L c).pins.sswOpen = L.pins.sswOpen ∧
    (Live.obey L c).saf.supplyLoss = L.saf.supplyLoss ∧
    (Live.obey L c).saf.fastLatch = L.saf.fastLatch ∧
    (Live.obey L c).saf.precharge = L.saf.precharge ∧
    (Live.obey L c).saf.pairs = L.saf.pairs ∧
    (Live.obey L c).saf.eA = L.saf.eA ∧
    (Live.obey L c).saf.eB = L.saf.eB ∧
    (Live.obey L c).twin.pair = L.twin.pair ∧
    (Live.obey L c).twin.gen = L.twin.gen ∧
    (Live.obey L c).twin.p = L.twin.p ∧
    (Live.obey L c).twin.transfer = L.twin.transfer ∧
    (Live.obey L c).twin.check = L.twin.check := by
  have h0 := @Live.enterSafe_keeps
  have h1 := @Live.setFast_frame
  have h2 := @Live.tripAct_keeps
  have h3 := @Live.latchCause_frame
  have h4 := @Live.trip_keeps
  have h5 := @Live.setFast_keeps
  have h6 := @Live.latchCause_keeps
  have h7 := @Live.enterSafe_frame
  simp [Live.obey, h0, h1, h2, h3, h4, h5, h6, h7]

theorem Live.endObeyed_keeps (L : Live) :
    (Live.endObeyed L).pins.aux1 = L.pins.aux1 ∧
    (Live.endObeyed L).pins.aux2 = L.pins.aux2 ∧
    (Live.endObeyed L).pins.auxSince = L.pins.auxSince ∧
    (Live.endObeyed L).pins.holdup = L.pins.holdup ∧
    (Live.endObeyed L).pins.fastOff = L.pins.fastOff ∧
    (Live.endObeyed L).pins.contactA = L.pins.contactA ∧
    (Live.endObeyed L).pins.contactB = L.pins.contactB ∧
    (Live.endObeyed L).pins.quarryRelays = L.pins.quarryRelays ∧
    (Live.endObeyed L).pins.fbKpOpen = L.pins.fbKpOpen ∧
    (Live.endObeyed L).pins.fbKnOpen = L.pins.fbKnOpen ∧
    (Live.endObeyed L).pins.sswOpen = L.pins.sswOpen ∧
    (Live.endObeyed L).saf.supplyLoss = L.saf.supplyLoss ∧
    (Live.endObeyed L).saf.fastLatch = L.saf.fastLatch ∧
    (Live.endObeyed L).saf.hazard = L.saf.hazard ∧
    (Live.endObeyed L).saf.precharge = L.saf.precharge ∧
    (Live.endObeyed L).saf.pairs = L.saf.pairs ∧
    (Live.endObeyed L).saf.eA = L.saf.eA ∧
    (Live.endObeyed L).saf.eB = L.saf.eB := by
  have h0 := @Live.closeElement_keeps
  have h1 := @Live.endActive_keeps
  simp only [Live.endObeyed]
  (repeat' split) <;> simp [h0, h1]

theorem Live.obeyNamed_keeps (L : Live) (c : TripCmd) :
    (Live.obeyNamed L c).mode.booted = L.mode.booted ∧
    (Live.obeyNamed L c).mode.listening = L.mode.listening ∧
    (Live.obeyNamed L c).mode.quarryEntry = L.mode.quarryEntry ∧
    (Live.obeyNamed L c).pins.aux1 = L.pins.aux1 ∧
    (Live.obeyNamed L c).pins.aux2 = L.pins.aux2 ∧
    (Live.obeyNamed L c).pins.auxSince = L.pins.auxSince ∧
    (Live.obeyNamed L c).pins.holdup = L.pins.holdup ∧
    (Live.obeyNamed L c).pins.quarryRelays = L.pins.quarryRelays ∧
    (Live.obeyNamed L c).pins.fbKpOpen = L.pins.fbKpOpen ∧
    (Live.obeyNamed L c).pins.fbKnOpen = L.pins.fbKnOpen ∧
    (Live.obeyNamed L c).pins.sswOpen = L.pins.sswOpen ∧
    (Live.obeyNamed L c).saf.supplyLoss = L.saf.supplyLoss ∧
    (Live.obeyNamed L c).saf.fastLatch = L.saf.fastLatch ∧
    (Live.obeyNamed L c).saf.precharge = L.saf.precharge ∧
    (Live.obeyNamed L c).saf.pairs = L.saf.pairs ∧
    (Live.obeyNamed L c).saf.eA = L.saf.eA ∧
    (Live.obeyNamed L c).saf.eB = L.saf.eB ∧
    (Live.obeyNamed L c).twin.pair = L.twin.pair ∧
    (Live.obeyNamed L c).twin.gen = L.twin.gen ∧
    (Live.obeyNamed L c).twin.p = L.twin.p ∧
    (Live.obeyNamed L c).twin.transfer = L.twin.transfer ∧
    (Live.obeyNamed L c).twin.check = L.twin.check := by
  have h0 := @Live.obey_keeps
  have h1 := @Live.endObeyed_frame
  have h2 := @Live.endObeyed_keeps
  simp only [Live.obeyNamed]
  (repeat' split) <;> simp [h0, h1, h2]

theorem Live.setRole_keeps (L : Live) (on : Bool) :
    (Live.setRole L on).pins.aux1 = L.pins.aux1 ∧
    (Live.setRole L on).pins.aux2 = L.pins.aux2 ∧
    (Live.setRole L on).pins.auxSince = L.pins.auxSince ∧
    (Live.setRole L on).pins.holdup = L.pins.holdup ∧
    (Live.setRole L on).pins.fastOff = L.pins.fastOff ∧
    (Live.setRole L on).pins.contactA = L.pins.contactA ∧
    (Live.setRole L on).pins.contactB = L.pins.contactB ∧
    (Live.setRole L on).pins.elementOpen = L.pins.elementOpen ∧
    (Live.setRole L on).pins.elemA = L.pins.elemA ∧
    (Live.setRole L on).pins.elemB = L.pins.elemB ∧
    (Live.setRole L on).pins.quarryRelays = L.pins.quarryRelays ∧
    (Live.setRole L on).pins.fbKpOpen = L.pins.fbKpOpen ∧
    (Live.setRole L on).pins.fbKnOpen = L.pins.fbKnOpen ∧
    (Live.setRole L on).pins.sswOpen = L.pins.sswOpen ∧
    (Live.setRole L on).saf.supplyLoss = L.saf.supplyLoss ∧
    (Live.setRole L on).saf.fastLatch = L.saf.fastLatch ∧
    (Live.setRole L on).saf.hazard = L.saf.hazard ∧
    (Live.setRole L on).saf.precharge = L.saf.precharge ∧
    (Live.setRole L on).saf.ownCmd = L.saf.ownCmd ∧
    (Live.setRole L on).saf.pairs = L.saf.pairs ∧
    (Live.setRole L on).saf.eA = L.saf.eA ∧
    (Live.setRole L on).saf.eB = L.saf.eB := by
  have h0 := @Live.insRelay_keeps
  simp [Live.setRole, h0]

theorem Live.insContactors_keeps (L : Live) :
    (Live.insContactors L).pins.aux1 = L.pins.aux1 ∧
    (Live.insContactors L).pins.aux2 = L.pins.aux2 ∧
    (Live.insContactors L).pins.auxSince = L.pins.auxSince ∧
    (Live.insContactors L).pins.holdup = L.pins.holdup ∧
    (Live.insContactors L).pins.fastOff = L.pins.fastOff ∧
    (Live.insContactors L).pins.contactA = L.pins.contactA ∧
    (Live.insContactors L).pins.contactB = L.pins.contactB ∧
    (Live.insContactors L).pins.elementOpen = L.pins.elementOpen ∧
    (Live.insContactors L).pins.elemA = L.pins.elemA ∧
    (Live.insContactors L).pins.elemB = L.pins.elemB ∧
    (Live.insContactors L).pins.quarryRelays = L.pins.quarryRelays ∧
    (Live.insContactors L).pins.fbKpOpen = L.pins.fbKpOpen ∧
    (Live.insContactors L).pins.fbKnOpen = L.pins.fbKnOpen ∧
    (Live.insContactors L).pins.sswOpen = L.pins.sswOpen ∧
    (Live.insContactors L).saf.supplyLoss = L.saf.supplyLoss ∧
    (Live.insContactors L).saf.fastLatch = L.saf.fastLatch ∧
    (Live.insContactors L).saf.hazard = L.saf.hazard ∧
    (Live.insContactors L).saf.precharge = L.saf.precharge ∧
    (Live.insContactors L).saf.ownCmd = L.saf.ownCmd ∧
    (Live.insContactors L).saf.pairs = L.saf.pairs ∧
    (Live.insContactors L).saf.eA = L.saf.eA ∧
    (Live.insContactors L).saf.eB = L.saf.eB := by
  have h0 := @Live.insRelay_keeps
  have h1 := @Live.setRole_keeps
  simp [Live.insContactors, h0, h1]

theorem Live.sf06_keeps (L : Live) (ch : Nat) :
    (Live.sf06 L ch).mode.booted = L.mode.booted ∧
    (Live.sf06 L ch).mode.listening = L.mode.listening ∧
    (Live.sf06 L ch).mode.quarryEntry = L.mode.quarryEntry ∧
    (Live.sf06 L ch).pins.aux1 = L.pins.aux1 ∧
    (Live.sf06 L ch).pins.aux2 = L.pins.aux2 ∧
    (Live.sf06 L ch).pins.auxSince = L.pins.auxSince ∧
    (Live.sf06 L ch).pins.holdup = L.pins.holdup ∧
    (Live.sf06 L ch).pins.quarryRelays = L.pins.quarryRelays ∧
    (Live.sf06 L ch).pins.fbKpOpen = L.pins.fbKpOpen ∧
    (Live.sf06 L ch).pins.fbKnOpen = L.pins.fbKnOpen ∧
    (Live.sf06 L ch).pins.sswOpen = L.pins.sswOpen ∧
    (Live.sf06 L ch).saf.supplyLoss = L.saf.supplyLoss ∧
    (Live.sf06 L ch).saf.fastLatch = L.saf.fastLatch ∧
    (Live.sf06 L ch).saf.precharge = L.saf.precharge ∧
    (Live.sf06 L ch).saf.pairs = L.saf.pairs ∧
    (Live.sf06 L ch).saf.eA = L.saf.eA ∧
    (Live.sf06 L ch).saf.eB = L.saf.eB ∧
    (Live.sf06 L ch).twin.pair = L.twin.pair ∧
    (Live.sf06 L ch).twin.gen = L.twin.gen ∧
    (Live.sf06 L ch).twin.p = L.twin.p ∧
    (Live.sf06 L ch).twin.transfer = L.twin.transfer ∧
    (Live.sf06 L ch).twin.check = L.twin.check := by
  have h0 := @Live.trip_keeps
  simp [Live.sf06, h0]

theorem Live.insOnBus_keeps (L : Live) (a b : Option Nat) :
    (Live.insOnBus L a b).mode.booted = L.mode.booted ∧
    (Live.insOnBus L a b).mode.listening = L.mode.listening ∧
    (Live.insOnBus L a b).mode.quarryEntry = L.mode.quarryEntry ∧
    (Live.insOnBus L a b).pins.aux1 = L.pins.aux1 ∧
    (Live.insOnBus L a b).pins.aux2 = L.pins.aux2 ∧
    (Live.insOnBus L a b).pins.auxSince = L.pins.auxSince ∧
    (Live.insOnBus L a b).pins.holdup = L.pins.holdup ∧
    (Live.insOnBus L a b).pins.quarryRelays = L.pins.quarryRelays ∧
    (Live.insOnBus L a b).pins.fbKpOpen = L.pins.fbKpOpen ∧
    (Live.insOnBus L a b).pins.fbKnOpen = L.pins.fbKnOpen ∧
    (Live.insOnBus L a b).pins.sswOpen = L.pins.sswOpen ∧
    (Live.insOnBus L a b).saf.supplyLoss = L.saf.supplyLoss ∧
    (Live.insOnBus L a b).saf.fastLatch = L.saf.fastLatch ∧
    (Live.insOnBus L a b).saf.precharge = L.saf.precharge ∧
    (Live.insOnBus L a b).saf.pairs = L.saf.pairs ∧
    (Live.insOnBus L a b).saf.eA = L.saf.eA ∧
    (Live.insOnBus L a b).saf.eB = L.saf.eB ∧
    (Live.insOnBus L a b).twin.pair = L.twin.pair ∧
    (Live.insOnBus L a b).twin.gen = L.twin.gen ∧
    (Live.insOnBus L a b).twin.p = L.twin.p ∧
    (Live.insOnBus L a b).twin.transfer = L.twin.transfer ∧
    (Live.insOnBus L a b).twin.check = L.twin.check := by
  have h0 := @Live.sf06_keeps
  simp [Live.insOnBus, h0]

theorem Live.insOwn_keeps (L : Live) (a : Option Nat) :
    (Live.insOwn L a).saf.supplyLoss = L.saf.supplyLoss ∧
    (Live.insOwn L a).saf.fastLatch = L.saf.fastLatch ∧
    (Live.insOwn L a).saf.hazard = L.saf.hazard ∧
    (Live.insOwn L a).saf.precharge = L.saf.precharge ∧
    (Live.insOwn L a).saf.ownCmd = L.saf.ownCmd ∧
    (Live.insOwn L a).saf.pairs = L.saf.pairs ∧
    (Live.insOwn L a).saf.eA = L.saf.eA ∧
    (Live.insOwn L a).saf.eB = L.saf.eB := by
  simp only [Live.insOwn]
  (repeat' split) <;> simp

theorem Live.fbClock_keeps (L : Live) (n : Nat) :
    (Live.fbClock L n).pins.aux1 = L.pins.aux1 ∧
    (Live.fbClock L n).pins.aux2 = L.pins.aux2 ∧
    (Live.fbClock L n).pins.auxSince = L.pins.auxSince ∧
    (Live.fbClock L n).pins.holdup = L.pins.holdup ∧
    (Live.fbClock L n).pins.fastOff = L.pins.fastOff ∧
    (Live.fbClock L n).pins.contactA = L.pins.contactA ∧
    (Live.fbClock L n).pins.contactB = L.pins.contactB ∧
    (Live.fbClock L n).pins.elementOpen = L.pins.elementOpen ∧
    (Live.fbClock L n).pins.elemA = L.pins.elemA ∧
    (Live.fbClock L n).pins.elemB = L.pins.elemB ∧
    (Live.fbClock L n).pins.quarryRelays = L.pins.quarryRelays ∧
    (Live.fbClock L n).pins.fbKpOpen = L.pins.fbKpOpen ∧
    (Live.fbClock L n).pins.fbKnOpen = L.pins.fbKnOpen ∧
    (Live.fbClock L n).pins.sswOpen = L.pins.sswOpen := by
  simp [Live.fbClock]

end Sys2Proof.Machine
end

