-- ==== Sys2Proof/Laws/KeepCanOps.lean ====
section
/-! SUPPORT. Single registers that the operations of Machine/CanOps.lean leave as they are. -/

namespace Sys2Proof.Machine

open Sys2Proof

theorem Live.dispatchEnd_keeps (L : Live) (bus id : Nat) (sent : Bool) :
    (Live.dispatchEnd L bus id sent).twin.holds = L.twin.holds ∧
    (Live.dispatchEnd L bus id sent).twin.pair = L.twin.pair ∧
    (Live.dispatchEnd L bus id sent).twin.gen = L.twin.gen ∧
    (Live.dispatchEnd L bus id sent).twin.p = L.twin.p ∧
    (Live.dispatchEnd L bus id sent).twin.transfer = L.twin.transfer ∧
    (Live.dispatchEnd L bus id sent).twin.check = L.twin.check := by
  have h0 := @Live.jdone_keeps
  simp only [Live.dispatchEnd]
  (repeat' split) <;> simp [h0]

theorem Live.outcome_keeps (L : Live) (bus : Nat) (f : TxFrame) (code : Nat) :
    (Live.outcome L bus f code).twin.holds = L.twin.holds ∧
    (Live.outcome L bus f code).twin.pair = L.twin.pair ∧
    (Live.outcome L bus f code).twin.gen = L.twin.gen ∧
    (Live.outcome L bus f code).twin.p = L.twin.p ∧
    (Live.outcome L bus f code).twin.transfer = L.twin.transfer ∧
    (Live.outcome L bus f code).twin.check = L.twin.check := by
  have h0 := @Live.modCan_frame
  have h1 := @Live.dispatchEnd_keeps
  simp [Live.outcome, h0, h1]

theorem Live.commitBuffer_keeps (L : Live) (bus : Nat) :
    (Live.commitBuffer L bus).time.mtime = L.time.mtime ∧
    (Live.commitBuffer L bus).time.clk = L.time.clk := by
  have h0 := @Live.modCan_frame
  simp only [Live.commitBuffer]
  (repeat' split) <;> simp [h0]

theorem Live.loadBuffer_keeps (L : Live) (bus : Nat) :
    (Live.loadBuffer L bus).time.mtime = L.time.mtime ∧
    (Live.loadBuffer L bus).time.clk = L.time.clk := by
  have h0 := @Live.commitBuffer_keeps
  have h1 := @Live.modCan_frame
  have h2 := @Live.withdraw_frame
  simp only [Live.loadBuffer]
  (repeat' split) <;> simp [h0, h1, h2]

theorem Live.frameLate_keeps (L : Live) (bus : Nat) (f : TxFrame) :
    (Live.frameLate L bus f).twin.holds = L.twin.holds ∧
    (Live.frameLate L bus f).twin.pair = L.twin.pair ∧
    (Live.frameLate L bus f).twin.gen = L.twin.gen ∧
    (Live.frameLate L bus f).twin.p = L.twin.p ∧
    (Live.frameLate L bus f).twin.transfer = L.twin.transfer ∧
    (Live.frameLate L bus f).twin.check = L.twin.check := by
  have h0 := @Live.modCan_frame
  have h1 := @Live.outcome_keeps
  simp [Live.frameLate, h0, h1]

theorem Live.deadlines_keeps (L : Live) (bus : Nat) :
    (Live.deadlines L bus).twin.holds = L.twin.holds ∧
    (Live.deadlines L bus).twin.pair = L.twin.pair ∧
    (Live.deadlines L bus).twin.gen = L.twin.gen ∧
    (Live.deadlines L bus).twin.p = L.twin.p ∧
    (Live.deadlines L bus).twin.transfer = L.twin.transfer ∧
    (Live.deadlines L bus).twin.check = L.twin.check := by
  have h0 := @Live.frameLate_keeps
  simp only [Live.deadlines]
  (repeat' split) <;> simp [h0]

theorem Live.noticeWatch_keeps (L : Live) :
    (Live.noticeWatch L).pins.aux1 = L.pins.aux1 ∧
    (Live.noticeWatch L).pins.aux2 = L.pins.aux2 ∧
    (Live.noticeWatch L).pins.auxSince = L.pins.auxSince ∧
    (Live.noticeWatch L).pins.holdup = L.pins.holdup ∧
    (Live.noticeWatch L).pins.fastOff = L.pins.fastOff ∧
    (Live.noticeWatch L).pins.contactA = L.pins.contactA ∧
    (Live.noticeWatch L).pins.contactB = L.pins.contactB ∧
    (Live.noticeWatch L).pins.quarryRelays = L.pins.quarryRelays ∧
    (Live.noticeWatch L).pins.fbKpOpen = L.pins.fbKpOpen ∧
    (Live.noticeWatch L).pins.fbKnOpen = L.pins.fbKnOpen ∧
    (Live.noticeWatch L).pins.sswOpen = L.pins.sswOpen ∧
    (Live.noticeWatch L).saf.supplyLoss = L.saf.supplyLoss ∧
    (Live.noticeWatch L).saf.fastLatch = L.saf.fastLatch ∧
    (Live.noticeWatch L).saf.hazard = L.saf.hazard ∧
    (Live.noticeWatch L).saf.precharge = L.saf.precharge ∧
    (Live.noticeWatch L).saf.ownCmd = L.saf.ownCmd ∧
    (Live.noticeWatch L).saf.pairs = L.saf.pairs ∧
    (Live.noticeWatch L).saf.eA = L.saf.eA ∧
    (Live.noticeWatch L).saf.eB = L.saf.eB := by
  have h0 := @Live.openElement_keeps
  simp only [Live.noticeWatch]
  (repeat' split) <;> simp [h0]

theorem Live.followUp_keeps (L : Live) (bus seq : Nat) :
    (Live.followUp L bus seq).time.mtime = L.time.mtime ∧
    (Live.followUp L bus seq).time.clk = L.time.clk := by
  simp only [Live.followUp]
  (repeat' split) <;> simp

theorem Live.txEnd_keeps (L : Live) (bus tb : Nat) (how : TxEnd) :
    (Live.txEnd L bus tb how).twin.holds = L.twin.holds ∧
    (Live.txEnd L bus tb how).twin.pair = L.twin.pair ∧
    (Live.txEnd L bus tb how).twin.gen = L.twin.gen ∧
    (Live.txEnd L bus tb how).twin.p = L.twin.p ∧
    (Live.txEnd L bus tb how).twin.transfer = L.twin.transfer ∧
    (Live.txEnd L bus tb how).twin.check = L.twin.check ∧
    (Live.txEnd L bus tb how).time.mtime = L.time.mtime ∧
    (Live.txEnd L bus tb how).time.clk = L.time.clk := by
  have h0 := @Live.commitBuffer_frame
  have h1 := @Live.outcome_keeps
  have h2 := @Live.acknowledged_frame
  have h3 := @Live.modCan_frame
  have h4 := @Live.commitBuffer_keeps
  have h5 := @Live.outcome_frame
  have h6 := @Live.followUp_frame
  have h7 := @Live.followUp_keeps
  have h8 := @Live.moveFailed_frame
  simp only [Live.txEnd]
  (repeat' split) <;> simp [h0, h1, h2, h3, h4, h5, h6, h7, h8]

theorem Live.cancelFrames_keeps (L : Live) (bus : Nat) (gone : List TxFrame) :
    (Live.cancelFrames L bus gone).twin.holds = L.twin.holds ∧
    (Live.cancelFrames L bus gone).twin.pair = L.twin.pair ∧
    (Live.cancelFrames L bus gone).twin.gen = L.twin.gen ∧
    (Live.cancelFrames L bus gone).twin.p = L.twin.p ∧
    (Live.cancelFrames L bus gone).twin.transfer = L.twin.transfer ∧
    (Live.cancelFrames L bus gone).twin.check = L.twin.check := by
  have h0 := @Live.outcome_keeps
  have h1 := @Live.modCan_frame
  simp [Live.cancelFrames, h0, h1]

theorem Live.cancelReference_keeps (L : Live) (bus : Nat) :
    (Live.cancelReference L bus).twin.holds = L.twin.holds ∧
    (Live.cancelReference L bus).twin.pair = L.twin.pair ∧
    (Live.cancelReference L bus).twin.gen = L.twin.gen ∧
    (Live.cancelReference L bus).twin.p = L.twin.p ∧
    (Live.cancelReference L bus).twin.transfer = L.twin.transfer ∧
    (Live.cancelReference L bus).twin.check = L.twin.check := by
  have h0 := @Live.cancelFrames_keeps
  simp only [Live.cancelReference]
  (repeat' split) <;> simp [h0]

theorem Live.dropReferences_keeps (L : Live) :
    (Live.dropReferences L).twin.holds = L.twin.holds ∧
    (Live.dropReferences L).twin.pair = L.twin.pair ∧
    (Live.dropReferences L).twin.gen = L.twin.gen ∧
    (Live.dropReferences L).twin.p = L.twin.p ∧
    (Live.dropReferences L).twin.transfer = L.twin.transfer ∧
    (Live.dropReferences L).twin.check = L.twin.check := by
  have h0 := @Live.cancelFrames_keeps
  simp [Live.dropReferences, h0]

end Sys2Proof.Machine
end

