-- ==== Sys2Proof/Laws/KeepTimeOps.lean ====
section
/-! SUPPORT. Single registers that the operations of Machine/TimeOps.lean leave as they are. -/

namespace Sys2Proof.Machine

open Sys2Proof

theorem Live.updLead_keeps (L : Live) :
    (Live.updLead L).twin.holds = L.twin.holds ∧
    (Live.updLead L).twin.pair = L.twin.pair ∧
    (Live.updLead L).twin.gen = L.twin.gen ∧
    (Live.updLead L).twin.p = L.twin.p ∧
    (Live.updLead L).twin.transfer = L.twin.transfer ∧
    (Live.updLead L).twin.check = L.twin.check ∧
    (Live.updLead L).time.mtime = L.time.mtime ∧
    (Live.updLead L).time.clk = L.time.clk := by
  have h0 := @Live.dropReferences_keeps
  have h1 := @Live.dropReferences_frame
  simp [Live.updLead, h0, h1]

theorem Live.useOffset_keeps (L : Live) (off : Int) (src code : Nat) (payload : Bytes) :
    (Live.useOffset L off src code payload).time.mtime = L.time.mtime ∧
    (Live.useOffset L off src code payload).time.clk = L.time.clk := by
  simp [Live.useOffset]

theorem Live.lockRun_keeps (L : Live) (off : Int) (src code : Nat) (payload : Bytes) :
    (Live.lockRun L off src code payload).time.mtime = L.time.mtime ∧
    (Live.lockRun L off src code payload).time.clk = L.time.clk := by
  have h0 := @Live.lockedTo_frame
  simp [Live.lockRun, h0]

theorem Live.discardUsed_keeps (L : Live) (p : Nat) :
    (Live.discardUsed L p).time.mtime = L.time.mtime ∧
    (Live.discardUsed L p).time.clk = L.time.clk := by
  simp only [Live.discardUsed]
  (repeat' split) <;> simp

theorem Live.referenceRx_keeps (L : Live) (bus : Nat) (f : Bytes) (sof : Nat) :
    (Live.referenceRx L bus f sof).time.mtime = L.time.mtime ∧
    (Live.referenceRx L bus f sof).time.clk = L.time.clk := by
  have h0 := @Live.discardUsed_keeps
  simp [Live.referenceRx, h0]

theorem Live.usePair_keeps (L : Live) (bus : Nat) (r : RefRx) (f : Bytes) :
    (Live.usePair L bus r f).time.mtime = L.time.mtime ∧
    (Live.usePair L bus r f).time.clk = L.time.clk := by
  have h0 := @Live.lockRun_keeps
  have h1 := @Live.sourceHeard_frame
  have h2 := @Live.useOffset_keeps
  simp [Live.usePair, h0, h1, h2]

theorem Live.followUpRx_keeps (L : Live) (bus : Nat) (f : Bytes) :
    (Live.followUpRx L bus f).time.mtime = L.time.mtime ∧
    (Live.followUpRx L bus f).time.clk = L.time.clk := by
  have h0 := @Live.usePair_keeps
  simp only [Live.followUpRx]
  (repeat' split) <;> simp [h0]

end Sys2Proof.Machine
end

