-- ==== Sys2Proof/Laws/KeepCanRows.lean ====
section
/-! SUPPORT. Single registers that the operations of Machine/CanRows.lean leave as they are. -/

namespace Sys2Proof.Machine

open Sys2Proof

theorem Live.bayNotice_keeps (L : Live) (data : Bytes) :
    (Live.bayNotice L data).mode.booted = L.mode.booted ∧
    (Live.bayNotice L data).mode.listening = L.mode.listening ∧
    (Live.bayNotice L data).mode.quarryEntry = L.mode.quarryEntry ∧
    (Live.bayNotice L data).pins.aux1 = L.pins.aux1 ∧
    (Live.bayNotice L data).pins.aux2 = L.pins.aux2 ∧
    (Live.bayNotice L data).pins.auxSince = L.pins.auxSince ∧
    (Live.bayNotice L data).pins.holdup = L.pins.holdup ∧
    (Live.bayNotice L data).pins.quarryRelays = L.pins.quarryRelays ∧
    (Live.bayNotice L data).pins.fbKpOpen = L.pins.fbKpOpen ∧
    (Live.bayNotice L data).pins.fbKnOpen = L.pins.fbKnOpen ∧
    (Live.bayNotice L data).pins.sswOpen = L.pins.sswOpen ∧
    (Live.bayNotice L data).saf.supplyLoss = L.saf.supplyLoss ∧
    (Live.bayNotice L data).saf.fastLatch = L.saf.fastLatch ∧
    (Live.bayNotice L data).saf.precharge = L.saf.precharge ∧
    (Live.bayNotice L data).saf.pairs = L.saf.pairs ∧
    (Live.bayNotice L data).saf.eA = L.saf.eA ∧
    (Live.bayNotice L data).saf.eB = L.saf.eB ∧
    (Live.bayNotice L data).twin.pair = L.twin.pair ∧
    (Live.bayNotice L data).twin.gen = L.twin.gen ∧
    (Live.bayNotice L data).twin.p = L.twin.p ∧
    (Live.bayNotice L data).twin.transfer = L.twin.transfer ∧
    (Live.bayNotice L data).twin.check = L.twin.check := by
  have h0 := @Live.sf06_keeps
  simp [Live.bayNotice, h0]

theorem Live.srdoTaken_keeps (L : Live) (k : Nat) (data : Bytes) :
    (Live.srdoTaken L k data).mode.booted = L.mode.booted ∧
    (Live.srdoTaken L k data).mode.listening = L.mode.listening ∧
    (Live.srdoTaken L k data).mode.quarryEntry = L.mode.quarryEntry ∧
    (Live.srdoTaken L k data).pins.aux1 = L.pins.aux1 ∧
    (Live.srdoTaken L k data).pins.aux2 = L.pins.aux2 ∧
    (Live.srdoTaken L k data).pins.auxSince = L.pins.auxSince ∧
    (Live.srdoTaken L k data).pins.holdup = L.pins.holdup ∧
    (Live.srdoTaken L k data).pins.quarryRelays = L.pins.quarryRelays ∧
    (Live.srdoTaken L k data).pins.fbKpOpen = L.pins.fbKpOpen ∧
    (Live.srdoTaken L k data).pins.fbKnOpen = L.pins.fbKnOpen ∧
    (Live.srdoTaken L k data).pins.sswOpen = L.pins.sswOpen ∧
    (Live.srdoTaken L k data).saf.supplyLoss = L.saf.supplyLoss ∧
    (Live.srdoTaken L k data).saf.fastLatch = L.saf.fastLatch ∧
    (Live.srdoTaken L k data).saf.precharge = L.saf.precharge ∧
    (Live.srdoTaken L k data).saf.pairs = L.saf.pairs ∧
    (Live.srdoTaken L k data).saf.eA = L.saf.eA ∧
    (Live.srdoTaken L k data).saf.eB = L.saf.eB ∧
    (Live.srdoTaken L k data).twin.pair = L.twin.pair ∧
    (Live.srdoTaken L k data).twin.gen = L.twin.gen ∧
    (Live.srdoTaken L k data).twin.p = L.twin.p ∧
    (Live.srdoTaken L k data).twin.transfer = L.twin.transfer ∧
    (Live.srdoTaken L k data).twin.check = L.twin.check := by
  have h0 := @Live.bayNotice_keeps
  simp [Live.srdoTaken, h0]

end Sys2Proof.Machine
end

