-- ==== Sys2Proof/Laws/KeepSafeSet.lean ====
section
/-! SUPPORT. Single registers that the operations of Machine/SafeSet.lean leave as they are. -/

namespace Sys2Proof.Machine

open Sys2Proof

theorem Live.setActive_keeps (L : Live) :
    (Live.setActive L).ks.edit = L.ks.edit ∧
    (Live.setActive L).ks.epoch = L.ks.epoch ∧
    (Live.setActive L).ks.pend = L.ks.pend := by
  have h0 := @Live.recommit_frame
  have h1 := @Live.writeAllThresholds_frame
  simp [Live.setActive, h0, h1]

theorem Live.cmdConfirm_keeps (L : Live) (s : Sess) (crc : Nat) :
    (Live.cmdConfirm L s crc).1.ks.epoch = L.ks.epoch ∧
    (Live.cmdConfirm L s crc).1.ks.pend = L.ks.pend := by
  have h0 := @Live.withEdit_frame
  have h1 := @Live.setActive_keeps
  simp only [Live.cmdConfirm]
  (repeat' split) <;> simp [h0, h1]

theorem Live.checkCopies_keeps (L : Live) (aOk bOk : Bool) :
    (Live.checkCopies L aOk bOk).ks.edit = L.ks.edit ∧
    (Live.checkCopies L aOk bOk).ks.epoch = L.ks.epoch ∧
    (Live.checkCopies L aOk bOk).ks.pend = L.ks.pend := by
  simp only [Live.checkCopies]
  (repeat' split) <;> simp

theorem Live.authFail_keeps (L : Live) (s : Sess) :
    (Live.authFail L s).ks.edit = L.ks.edit ∧
    (Live.authFail L s).ks.epoch = L.ks.epoch ∧
    (Live.authFail L s).ks.pend = L.ks.pend := by
  have h0 := @Live.modSession_keeps
  simp [Live.authFail, h0]

theorem Live.cmdAuth_keeps (L : Live) (s : Sess) (v : Bytes) :
    (Live.cmdAuth L s v).1.ks.edit = L.ks.edit ∧
    (Live.cmdAuth L s v).1.ks.epoch = L.ks.epoch ∧
    (Live.cmdAuth L s v).1.ks.pend = L.ks.pend := by
  have h0 := @Live.authFail_keeps
  have h1 := @Live.modSession_keeps
  simp only [Live.cmdAuth]
  (repeat' split) <;> simp [h0, h1]

end Sys2Proof.Machine
end

