-- ==== Sys2Proof/Laws/KeepArrival.lean ====
section
/-! SUPPORT. Single registers that the operations of Machine/Arrival.lean leave as they are. -/

namespace Sys2Proof.Machine

open Sys2Proof

theorem Live.answerRead_keeps (L : Live) (s : Sess) (r : Except Abort Bytes) :
    (Live.answerRead L s r).ks.edit = L.ks.edit ∧
    (Live.answerRead L s r).ks.epoch = L.ks.epoch ∧
    (Live.answerRead L s r).ks.pend = L.ks.pend := by
  have h0 := @Live.refuse_keeps
  simp only [Live.answerRead]
  (repeat' split) <;> simp [h0]

theorem Live.read_keeps (snap L : Live) (s : Sess) (idx sub : Nat) :
    (Live.read snap L s idx sub).twin.holds = L.twin.holds ∧
    (Live.read snap L s idx sub).twin.pair = L.twin.pair ∧
    (Live.read snap L s idx sub).twin.gen = L.twin.gen ∧
    (Live.read snap L s idx sub).twin.p = L.twin.p ∧
    (Live.read snap L s idx sub).twin.transfer = L.twin.transfer ∧
    (Live.read snap L s idx sub).twin.check = L.twin.check ∧
    (Live.read snap L s idx sub).ks.edit = L.ks.edit ∧
    (Live.read snap L s idx sub).ks.epoch = L.ks.epoch ∧
    (Live.read snap L s idx sub).ks.pend = L.ks.pend := by
  have h0 := @Live.readRecords_frame
  have h1 := @Live.answerRead_frame
  have h2 := @Live.toPartner_keeps
  have h3 := @Live.toPartner_frame
  have h4 := @Live.answerRead_keeps
  simp [Live.read, h0, h1, h2, h3, h4]

theorem Live.setReading_keeps (L : Live) (s : Sess) (k : Option Nat) :
    (Live.setReading L s k).ks.edit = L.ks.edit ∧
    (Live.setReading L s k).ks.epoch = L.ks.epoch ∧
    (Live.setReading L s k).ks.pend = L.ks.pend := by
  simp [Live.setReading]

theorem Live.queueWrite_keeps (L : Live) (s : Sess) (level : Nat) (via : Bool) (k : Nat) (v : Bytes) (txn fwd : Option Nat) :
    (Live.queueWrite L s level via k v txn fwd).ks.edit = L.ks.edit ∧
    (Live.queueWrite L s level via k v txn fwd).ks.epoch = L.ks.epoch := by
  simp [Live.queueWrite]

theorem Live.refuseEntry_keeps (L : Live) (s : Sess) (pos : Nat) (code : Abort) :
    (Live.refuseEntry L s pos code).ks.edit = L.ks.edit ∧
    (Live.refuseEntry L s pos code).ks.epoch = L.ks.epoch ∧
    (Live.refuseEntry L s pos code).ks.pend = L.ks.pend := by
  have h0 := @Live.modSession_keeps
  simp [Live.refuseEntry, h0]

theorem Live.answerVia_keeps (L : Live) (s : Sess) (k : Nat) (code : Abort) (pos : Nat) :
    (Live.answerVia L s k code pos).twin.holds = L.twin.holds ∧
    (Live.answerVia L s k code pos).twin.pair = L.twin.pair ∧
    (Live.answerVia L s k code pos).twin.gen = L.twin.gen ∧
    (Live.answerVia L s k code pos).twin.p = L.twin.p ∧
    (Live.answerVia L s k code pos).twin.transfer = L.twin.transfer ∧
    (Live.answerVia L s k code pos).twin.check = L.twin.check := by
  have h0 := @Live.toPartner_keeps
  simp [Live.answerVia, h0]

theorem Live.refuseWrite_keeps (L : Live) (s : Sess) (via : Bool) (k pos : Nat) (code : Abort) :
    (Live.refuseWrite L s via k pos code).twin.holds = L.twin.holds ∧
    (Live.refuseWrite L s via k pos code).twin.pair = L.twin.pair ∧
    (Live.refuseWrite L s via k pos code).twin.gen = L.twin.gen ∧
    (Live.refuseWrite L s via k pos code).twin.p = L.twin.p ∧
    (Live.refuseWrite L s via k pos code).twin.transfer = L.twin.transfer ∧
    (Live.refuseWrite L s via k pos code).twin.check = L.twin.check ∧
    (Live.refuseWrite L s via k pos code).ks.edit = L.ks.edit ∧
    (Live.refuseWrite L s via k pos code).ks.epoch = L.ks.epoch ∧
    (Live.refuseWrite L s via k pos code).ks.pend = L.ks.pend := by
  have h0 := @Live.refuse_frame
  have h1 := @Live.refuseEntry_frame
  have h2 := @Live.answerVia_keeps
  have h3 := @Live.answerVia_frame
  have h4 := @Live.refuse_keeps
  have h5 := @Live.refuseEntry_keeps
  simp [Live.refuseWrite, h0, h1, h2, h3, h4, h5]

theorem Live.txnWrite_keeps (L : Live) (s : Sess) (level : Nat) (via : Bool) (image : Bytes) (fwd : Option Nat) :
    (Live.txnWrite L s level via image fwd).twin.holds = L.twin.holds ∧
    (Live.txnWrite L s level via image fwd).twin.pair = L.twin.pair ∧
    (Live.txnWrite L s level via image fwd).twin.gen = L.twin.gen ∧
    (Live.txnWrite L s level via image fwd).twin.p = L.twin.p ∧
    (Live.txnWrite L s level via image fwd).twin.transfer = L.twin.transfer ∧
    (Live.txnWrite L s level via image fwd).twin.check = L.twin.check ∧
    (Live.txnWrite L s level via image fwd).ks.edit = L.ks.edit ∧
    (Live.txnWrite L s level via image fwd).ks.epoch = L.ks.epoch := by
  have h0 := @Live.refuseWrite_keeps
  have h1 := @Live.queueWrite_frame
  have h2 := @Live.queueWrite_keeps
  simp only [Live.txnWrite]
  (repeat' split) <;> simp [h0, h1, h2]

theorem Live.writeHere_keeps (L : Live) (s : Sess) (level : Nat) (via : Bool) (k : Nat) (v : Bytes) (fwd : Option Nat) :
    (Live.writeHere L s level via k v fwd).twin.holds = L.twin.holds ∧
    (Live.writeHere L s level via k v fwd).twin.pair = L.twin.pair ∧
    (Live.writeHere L s level via k v fwd).twin.gen = L.twin.gen ∧
    (Live.writeHere L s level via k v fwd).twin.p = L.twin.p ∧
    (Live.writeHere L s level via k v fwd).twin.transfer = L.twin.transfer ∧
    (Live.writeHere L s level via k v fwd).twin.check = L.twin.check ∧
    (Live.writeHere L s level via k v fwd).ks.edit = L.ks.edit ∧
    (Live.writeHere L s level via k v fwd).ks.epoch = L.ks.epoch := by
  have h0 := @Live.refuseWrite_keeps
  have h1 := @Live.queueWrite_frame
  have h2 := @Live.queueWrite_keeps
  have h3 := @Live.txnWrite_keeps
  simp only [Live.writeHere]
  (repeat' split) <;> simp [h0, h1, h2, h3]

theorem Live.queueDebug_keeps (L : Live) (s : Sess) (via : Bool) (k : Nat) (v : Bytes) :
    (Live.queueDebug L s via k v).twin.holds = L.twin.holds ∧
    (Live.queueDebug L s via k v).twin.pair = L.twin.pair ∧
    (Live.queueDebug L s via k v).twin.gen = L.twin.gen ∧
    (Live.queueDebug L s via k v).twin.p = L.twin.p ∧
    (Live.queueDebug L s via k v).twin.transfer = L.twin.transfer ∧
    (Live.queueDebug L s via k v).twin.check = L.twin.check ∧
    (Live.queueDebug L s via k v).ks.edit = L.ks.edit ∧
    (Live.queueDebug L s via k v).ks.epoch = L.ks.epoch := by
  have h0 := @Live.queueWrite_frame
  have h1 := @Live.forwardOn_keeps
  have h2 := @Live.queueWrite_keeps
  have h3 := @Live.forwardOn_frame
  simp [Live.queueDebug, h0, h1, h2, h3]

theorem Live.writeAt_keeps (L : Live) (s : Sess) (level : Nat) (via : Bool) (k : Nat) (v : Bytes) :
    (Live.writeAt L s level via k v).twin.holds = L.twin.holds ∧
    (Live.writeAt L s level via k v).twin.pair = L.twin.pair ∧
    (Live.writeAt L s level via k v).twin.gen = L.twin.gen ∧
    (Live.writeAt L s level via k v).twin.p = L.twin.p ∧
    (Live.writeAt L s level via k v).twin.transfer = L.twin.transfer ∧
    (Live.writeAt L s level via k v).twin.check = L.twin.check ∧
    (Live.writeAt L s level via k v).ks.edit = L.ks.edit ∧
    (Live.writeAt L s level via k v).ks.epoch = L.ks.epoch := by
  have h0 := @Live.writeHere_keeps
  have h1 := @Live.passOn_keeps
  have h2 := @Live.forwardOn_keeps
  have h3 := @Live.forwardOn_frame
  simp [Live.writeAt, h0, h1, h2, h3]

theorem Live.write_keeps (L : Live) (s : Sess) (via : Bool) (k : Nat) (v : Bytes) :
    (Live.write L s via k v).twin.holds = L.twin.holds ∧
    (Live.write L s via k v).twin.pair = L.twin.pair ∧
    (Live.write L s via k v).twin.gen = L.twin.gen ∧
    (Live.write L s via k v).twin.p = L.twin.p ∧
    (Live.write L s via k v).twin.transfer = L.twin.transfer ∧
    (Live.write L s via k v).twin.check = L.twin.check ∧
    (Live.write L s via k v).ks.edit = L.ks.edit ∧
    (Live.write L s via k v).ks.epoch = L.ks.epoch := by
  have h0 := @Live.writeAt_keeps
  simp [Live.write, h0]

end Sys2Proof.Machine
end

