-- ==== Sys2Proof/Laws/KeepManager.lean ====
section
/-! SUPPORT. Single registers that the operations of Machine/Manager.lean leave as they are. -/

namespace Sys2Proof.Machine

open Sys2Proof

theorem Live.mirrorItem_keeps (L : Live) (kind : Nat) (d : Bytes) :
    (Live.mirrorItem L kind d).twin.holds = L.twin.holds ∧
    (Live.mirrorItem L kind d).twin.pair = L.twin.pair ∧
    (Live.mirrorItem L kind d).twin.gen = L.twin.gen ∧
    (Live.mirrorItem L kind d).twin.p = L.twin.p ∧
    (Live.mirrorItem L kind d).twin.transfer = L.twin.transfer ∧
    (Live.mirrorItem L kind d).twin.check = L.twin.check := by
  have h0 := @Live.toPartner_keeps
  simp [Live.mirrorItem, h0]

theorem Live.takeSummary_keeps (L : Live) (n : Nat) (b : Bytes) :
    (Live.takeSummary L n b).twin.holds = L.twin.holds ∧
    (Live.takeSummary L n b).twin.pair = L.twin.pair ∧
    (Live.takeSummary L n b).twin.gen = L.twin.gen ∧
    (Live.takeSummary L n b).twin.p = L.twin.p ∧
    (Live.takeSummary L n b).twin.transfer = L.twin.transfer ∧
    (Live.takeSummary L n b).twin.check = L.twin.check := by
  have h0 := @Live.mgrEv_frame
  have h1 := @Live.mirrorItem_keeps
  have h2 := @Live.holdSummary_frame
  simp [Live.takeSummary, h0, h1, h2]

theorem Live.journalStep_keeps (L : Live) (m : Nat) (shares : List Nat) (inj : Bytes) :
    (Live.journalStep L m shares inj).mode.booted = L.mode.booted ∧
    (Live.journalStep L m shares inj).mode.listening = L.mode.listening ∧
    (Live.journalStep L m shares inj).mode.quarryEntry = L.mode.quarryEntry ∧
    (Live.journalStep L m shares inj).pins.aux1 = L.pins.aux1 ∧
    (Live.journalStep L m shares inj).pins.aux2 = L.pins.aux2 ∧
    (Live.journalStep L m shares inj).pins.auxSince = L.pins.auxSince ∧
    (Live.journalStep L m shares inj).pins.holdup = L.pins.holdup ∧
    (Live.journalStep L m shares inj).pins.quarryRelays = L.pins.quarryRelays ∧
    (Live.journalStep L m shares inj).pins.fbKpOpen = L.pins.fbKpOpen ∧
    (Live.journalStep L m shares inj).pins.fbKnOpen = L.pins.fbKnOpen ∧
    (Live.journalStep L m shares inj).pins.sswOpen = L.pins.sswOpen ∧
    (Live.journalStep L m shares inj).saf.supplyLoss = L.saf.supplyLoss ∧
    (Live.journalStep L m shares inj).saf.fastLatch = L.saf.fastLatch ∧
    (Live.journalStep L m shares inj).saf.precharge = L.saf.precharge ∧
    (Live.journalStep L m shares inj).saf.pairs = L.saf.pairs ∧
    (Live.journalStep L m shares inj).saf.eA = L.saf.eA ∧
    (Live.journalStep L m shares inj).saf.eB = L.saf.eB ∧
    (Live.journalStep L m shares inj).twin.pair = L.twin.pair ∧
    (Live.journalStep L m shares inj).twin.gen = L.twin.gen ∧
    (Live.journalStep L m shares inj).twin.p = L.twin.p ∧
    (Live.journalStep L m shares inj).twin.transfer = L.twin.transfer ∧
    (Live.journalStep L m shares inj).twin.check = L.twin.check := by
  have h0 := @Live.jwrite_frame
  have h1 := @Live.jwrite_keeps
  simp [Live.journalStep, h0, h1]

theorem Live.sendBay_keeps (L : Live) (m : Nat) :
    (Live.sendBay L m).mode.booted = L.mode.booted ∧
    (Live.sendBay L m).mode.listening = L.mode.listening ∧
    (Live.sendBay L m).mode.quarryEntry = L.mode.quarryEntry ∧
    (Live.sendBay L m).pins.aux1 = L.pins.aux1 ∧
    (Live.sendBay L m).pins.aux2 = L.pins.aux2 ∧
    (Live.sendBay L m).pins.auxSince = L.pins.auxSince ∧
    (Live.sendBay L m).pins.holdup = L.pins.holdup ∧
    (Live.sendBay L m).pins.quarryRelays = L.pins.quarryRelays ∧
    (Live.sendBay L m).pins.fbKpOpen = L.pins.fbKpOpen ∧
    (Live.sendBay L m).pins.fbKnOpen = L.pins.fbKnOpen ∧
    (Live.sendBay L m).pins.sswOpen = L.pins.sswOpen ∧
    (Live.sendBay L m).saf.supplyLoss = L.saf.supplyLoss ∧
    (Live.sendBay L m).saf.fastLatch = L.saf.fastLatch ∧
    (Live.sendBay L m).saf.precharge = L.saf.precharge ∧
    (Live.sendBay L m).saf.pairs = L.saf.pairs ∧
    (Live.sendBay L m).saf.eA = L.saf.eA ∧
    (Live.sendBay L m).saf.eB = L.saf.eB ∧
    (Live.sendBay L m).twin.pair = L.twin.pair ∧
    (Live.sendBay L m).twin.gen = L.twin.gen ∧
    (Live.sendBay L m).twin.p = L.twin.p ∧
    (Live.sendBay L m).twin.transfer = L.twin.transfer ∧
    (Live.sendBay L m).twin.check = L.twin.check := by
  have h0 := @Live.designate_frame
  have h1 := @Live.setShortfall_frame
  have h2 := @Live.makeGrant_frame
  have h3 := @Live.endGrant_frame
  have h4 := @Live.holdStep_frame
  have h5 := @Live.onBoth_frame
  have h6 := @Live.journalStep_frame
  have h7 := @Live.mirrorItem_frame
  have h8 := @Live.holdSnapshot_frame
  have h9 := @Live.journalStep_keeps
  have h10 := @Live.mirrorItem_keeps
  simp [Live.sendBay, h0, h1, h2, h3, h4, h5, h6, h7, h8, h9, h10]

theorem Live.applyStep23_keeps (L : Live) :
    (Live.applyStep23 L).time.mtime = L.time.mtime ∧
    (Live.applyStep23 L).time.clk = L.time.clk := by
  have h0 := @Live.entryTarget_frame
  simp only [Live.applyStep23]
  (repeat' split) <;> simp [h0]

theorem Live.afterModeWrite_keeps (old L : Live) :
    (Live.afterModeWrite old L).time.mtime = L.time.mtime ∧
    (Live.afterModeWrite old L).time.clk = L.time.clk := by
  have h0 := @Live.entryTarget_frame
  simp only [Live.afterModeWrite]
  (repeat' split) <;> simp [h0]

end Sys2Proof.Machine
end

