-- ==== Sys2Proof/Laws/KeepLogicOps.lean ====
section
/-! SUPPORT. Single registers that the operations of Machine/LogicOps.lean leave as they are. -/

namespace Sys2Proof.Machine

open Sys2Proof

theorem Live.logicCourse_keeps (L : Live) :
    (Live.logicCourse L).twin.holds = L.twin.holds ∧
    (Live.logicCourse L).twin.pair = L.twin.pair ∧
    (Live.logicCourse L).twin.gen = L.twin.gen ∧
    (Live.logicCourse L).twin.p = L.twin.p ∧
    (Live.logicCourse L).twin.transfer = L.twin.transfer ∧
    (Live.logicCourse L).twin.check = L.twin.check := by
  have h0 := @Live.modLgc_frame
  have h1 := @Live.mirrorItem_frame
  have h2 := @Live.stopOutputs_frame
  have h3 := @Live.mirrorItem_keeps
  simp [Live.logicCourse, h0, h1, h2, h3]

theorem Live.finishScan_keeps (L : Live) :
    (Live.finishScan L).ks.edit = L.ks.edit ∧
    (Live.finishScan L).ks.epoch = L.ks.epoch ∧
    (Live.finishScan L).ks.pend = L.ks.pend := by
  have h0 := @Live.modLgc_frame
  have h1 := @Live.lgcEv_frame
  have h2 := @Live.sendMessages_frame
  simp [Live.finishScan, h0, h1, h2]

theorem Live.stepHalted_keeps (L : Live) (n : Nat) :
    (Live.stepHalted L n).ks.edit = L.ks.edit ∧
    (Live.stepHalted L n).ks.epoch = L.ks.epoch ∧
    (Live.stepHalted L n).ks.pend = L.ks.pend := by
  have h0 := @Live.brkTaken_frame
  have h1 := @runLogic_frame
  have h2 := @Live.ensureScan_frame
  have h3 := @Live.haltTaken_frame
  have h4 := @Live.finishScan_keeps
  simp only [Live.stepHalted]
  (repeat' split) <;> simp [h0, h1, h2, h3, h4]

theorem Live.resumeLogic_keeps (L : Live) :
    (Live.resumeLogic L).ks.edit = L.ks.edit ∧
    (Live.resumeLogic L).ks.epoch = L.ks.epoch ∧
    (Live.resumeLogic L).ks.pend = L.ks.pend := by
  have h0 := @Live.brkTaken_frame
  have h1 := @runLogic_frame
  have h2 := @Live.ensureScan_frame
  have h3 := @Live.modLgc_frame
  have h4 := @Live.finishScan_keeps
  simp only [Live.resumeLogic]
  (repeat' split) <;> simp [h0, h1, h2, h3, h4]

end Sys2Proof.Machine
end

