-- ==== Sys2Proof/Laws/KeepDebugOps.lean ====
section
/-! SUPPORT. Single registers that the operations of Machine/DebugOps.lean leave as they are. -/

namespace Sys2Proof.Machine

open Sys2Proof

theorem Live.debugEnded_keeps (L : Live) (s : Sess) (node : Nat) :
    (Live.debugEnded L s node).ks.edit = L.ks.edit ∧
    (Live.debugEnded L s node).ks.epoch = L.ks.epoch ∧
    (Live.debugEnded L s node).ks.pend = L.ks.pend := by
  have h0 := @Live.disarmLogic_frame
  have h1 := @Live.resumeLogic_keeps
  simp [Live.debugEnded, h0, h1]

end Sys2Proof.Machine
end

