-- ==== Sys2Proof/Laws/KeepSite.lean ====
section
/-! SUPPORT. Single registers that the operations of Machine/Site.lean leave as they are. -/

namespace Sys2Proof.Machine

open Sys2Proof

theorem Live.siteSync_keeps (L : Live) (t1 t2 : Int) :
    (Live.siteSync L t1 t2).time.mtime = L.time.mtime ∧
    (Live.siteSync L t1 t2).time.clk = L.time.clk := by
  have h0 := @Live.sourceHeard_frame
  have h1 := @Live.useOffset_frame
  have h2 := @Live.lockRun_keeps
  have h3 := @Live.useOffset_keeps
  simp only [Live.siteSync]
  (repeat' split) <;> simp [h0, h1, h2, h3]

end Sys2Proof.Machine
end

