-- ==== Sys2Proof/Laws/KeepReset.lean ====
section
/-! SUPPORT. Single registers that the operations of Machine/Reset.lean leave as they are. -/

namespace Sys2Proof.Machine

open Sys2Proof

theorem Live.resetReleases_keeps (L : Live) :
    (Live.resetReleases L).saf.supplyLoss = L.saf.supplyLoss ∧
    (Live.resetReleases L).saf.fastLatch = L.saf.fastLatch ∧
    (Live.resetReleases L).saf.hazard = L.saf.hazard ∧
    (Live.resetReleases L).saf.precharge = L.saf.precharge ∧
    (Live.resetReleases L).saf.ownCmd = L.saf.ownCmd ∧
    (Live.resetReleases L).saf.pairs = L.saf.pairs ∧
    (Live.resetReleases L).saf.eA = L.saf.eA ∧
    (Live.resetReleases L).saf.eB = L.saf.eB := by
  simp [Live.resetReleases]

theorem Live.toBoot_keeps (L : Live) (trig cause : Nat) :
    (Live.toBoot L trig cause).pins.aux1 = L.pins.aux1 ∧
    (Live.toBoot L trig cause).pins.aux2 = L.pins.aux2 ∧
    (Live.toBoot L trig cause).pins.auxSince = L.pins.auxSince ∧
    (Live.toBoot L trig cause).pins.quarryRelays = L.pins.quarryRelays ∧
    (Live.toBoot L trig cause).pins.fbKpOpen = L.pins.fbKpOpen ∧
    (Live.toBoot L trig cause).pins.fbKnOpen = L.pins.fbKnOpen ∧
    (Live.toBoot L trig cause).pins.sswOpen = L.pins.sswOpen ∧
    (Live.toBoot L trig cause).ks.edit = L.ks.edit ∧
    (Live.toBoot L trig cause).ks.epoch = L.ks.epoch := by
  have h0 := @Live.resetReleases_frame
  have h1 := @Live.setState_frame
  have h2 := @Live.resetReleases_keeps
  simp [Live.toBoot, h0, h1, h2]

end Sys2Proof.Machine
end

