-- ==== Sys2Proof/Laws/KeepUpdate.lean ====
section
/-! SUPPORT. Single registers that the operations of Machine/Update.lean leave as they are. -/

namespace Sys2Proof.Machine

open Sys2Proof

theorem Live.stageDone_keeps (L : Live) (kind : Nat) :
    (Live.stageDone L kind).twin.holds = L.twin.holds ∧
    (Live.stageDone L kind).twin.pair = L.twin.pair ∧
    (Live.stageDone L kind).twin.gen = L.twin.gen ∧
    (Live.stageDone L kind).twin.p = L.twin.p ∧
    (Live.stageDone L kind).twin.transfer = L.twin.transfer ∧
    (Live.stageDone L kind).twin.check = L.twin.check := by
  have h0 := @Live.jdoneAll_keeps
  simp [Live.stageDone, h0]

theorem Live.writeManifest_keeps (L : Live) (m : Bytes) :
    (Live.writeManifest L m).1.mode.booted = L.mode.booted ∧
    (Live.writeManifest L m).1.mode.listening = L.mode.listening ∧
    (Live.writeManifest L m).1.mode.quarryEntry = L.mode.quarryEntry ∧
    (Live.writeManifest L m).1.pins.aux1 = L.pins.aux1 ∧
    (Live.writeManifest L m).1.pins.aux2 = L.pins.aux2 ∧
    (Live.writeManifest L m).1.pins.auxSince = L.pins.auxSince ∧
    (Live.writeManifest L m).1.pins.holdup = L.pins.holdup ∧
    (Live.writeManifest L m).1.pins.quarryRelays = L.pins.quarryRelays ∧
    (Live.writeManifest L m).1.pins.fbKpOpen = L.pins.fbKpOpen ∧
    (Live.writeManifest L m).1.pins.fbKnOpen = L.pins.fbKnOpen ∧
    (Live.writeManifest L m).1.pins.sswOpen = L.pins.sswOpen ∧
    (Live.writeManifest L m).1.saf.supplyLoss = L.saf.supplyLoss ∧
    (Live.writeManifest L m).1.saf.fastLatch = L.saf.fastLatch ∧
    (Live.writeManifest L m).1.saf.precharge = L.saf.precharge ∧
    (Live.writeManifest L m).1.saf.pairs = L.saf.pairs ∧
    (Live.writeManifest L m).1.saf.eA = L.saf.eA ∧
    (Live.writeManifest L m).1.saf.eB = L.saf.eB ∧
    (Live.writeManifest L m).1.twin.pair = L.twin.pair ∧
    (Live.writeManifest L m).1.twin.gen = L.twin.gen ∧
    (Live.writeManifest L m).1.twin.p = L.twin.p ∧
    (Live.writeManifest L m).1.twin.transfer = L.twin.transfer ∧
    (Live.writeManifest L m).1.twin.check = L.twin.check := by
  have h0 := @Live.updRefuse_frame
  have h1 := @Live.updEv_frame
  have h2 := @Live.stageEntry_keeps
  have h3 := @Live.stageDone_frame
  have h4 := @Live.stageDone_keeps
  simp [Live.writeManifest, h0, h1, h2, h3, h4]

theorem Live.writeBlock_keeps (L : Live) (b : Bytes) :
    (Live.writeBlock L b).1.mode.booted = L.mode.booted ∧
    (Live.writeBlock L b).1.mode.listening = L.mode.listening ∧
    (Live.writeBlock L b).1.mode.quarryEntry = L.mode.quarryEntry ∧
    (Live.writeBlock L b).1.pins.aux1 = L.pins.aux1 ∧
    (Live.writeBlock L b).1.pins.aux2 = L.pins.aux2 ∧
    (Live.writeBlock L b).1.pins.auxSince = L.pins.auxSince ∧
    (Live.writeBlock L b).1.pins.holdup = L.pins.holdup ∧
    (Live.writeBlock L b).1.pins.quarryRelays = L.pins.quarryRelays ∧
    (Live.writeBlock L b).1.pins.fbKpOpen = L.pins.fbKpOpen ∧
    (Live.writeBlock L b).1.pins.fbKnOpen = L.pins.fbKnOpen ∧
    (Live.writeBlock L b).1.pins.sswOpen = L.pins.sswOpen ∧
    (Live.writeBlock L b).1.saf.supplyLoss = L.saf.supplyLoss ∧
    (Live.writeBlock L b).1.saf.fastLatch = L.saf.fastLatch ∧
    (Live.writeBlock L b).1.saf.precharge = L.saf.precharge ∧
    (Live.writeBlock L b).1.saf.pairs = L.saf.pairs ∧
    (Live.writeBlock L b).1.saf.eA = L.saf.eA ∧
    (Live.writeBlock L b).1.saf.eB = L.saf.eB ∧
    (Live.writeBlock L b).1.twin.pair = L.twin.pair ∧
    (Live.writeBlock L b).1.twin.gen = L.twin.gen ∧
    (Live.writeBlock L b).1.twin.p = L.twin.p ∧
    (Live.writeBlock L b).1.twin.transfer = L.twin.transfer ∧
    (Live.writeBlock L b).1.twin.check = L.twin.check := by
  have h0 := @Live.updRefuse_frame
  have h1 := @Live.stageEntry_keeps
  have h2 := @Live.updEv_frame
  simp only [Live.writeBlock]
  (repeat' split) <;> simp [h0, h1, h2]

theorem Live.cmdVerify_keeps (L : Live) :
    (Live.cmdVerify L).1.mode.booted = L.mode.booted ∧
    (Live.cmdVerify L).1.mode.listening = L.mode.listening ∧
    (Live.cmdVerify L).1.mode.quarryEntry = L.mode.quarryEntry ∧
    (Live.cmdVerify L).1.pins.aux1 = L.pins.aux1 ∧
    (Live.cmdVerify L).1.pins.aux2 = L.pins.aux2 ∧
    (Live.cmdVerify L).1.pins.auxSince = L.pins.auxSince ∧
    (Live.cmdVerify L).1.pins.holdup = L.pins.holdup ∧
    (Live.cmdVerify L).1.pins.quarryRelays = L.pins.quarryRelays ∧
    (Live.cmdVerify L).1.pins.fbKpOpen = L.pins.fbKpOpen ∧
    (Live.cmdVerify L).1.pins.fbKnOpen = L.pins.fbKnOpen ∧
    (Live.cmdVerify L).1.pins.sswOpen = L.pins.sswOpen ∧
    (Live.cmdVerify L).1.saf.supplyLoss = L.saf.supplyLoss ∧
    (Live.cmdVerify L).1.saf.fastLatch = L.saf.fastLatch ∧
    (Live.cmdVerify L).1.saf.precharge = L.saf.precharge ∧
    (Live.cmdVerify L).1.saf.pairs = L.saf.pairs ∧
    (Live.cmdVerify L).1.saf.eA = L.saf.eA ∧
    (Live.cmdVerify L).1.saf.eB = L.saf.eB ∧
    (Live.cmdVerify L).1.twin.pair = L.twin.pair ∧
    (Live.cmdVerify L).1.twin.gen = L.twin.gen ∧
    (Live.cmdVerify L).1.twin.p = L.twin.p ∧
    (Live.cmdVerify L).1.twin.transfer = L.twin.transfer ∧
    (Live.cmdVerify L).1.twin.check = L.twin.check := by
  have h0 := @Live.stageEntry_keeps
  simp [Live.cmdVerify, h0]

theorem Live.verified_keeps (L : Live) (r : VerifyReport) :
    (Live.verified L r).twin.holds = L.twin.holds ∧
    (Live.verified L r).twin.pair = L.twin.pair ∧
    (Live.verified L r).twin.gen = L.twin.gen ∧
    (Live.verified L r).twin.p = L.twin.p ∧
    (Live.verified L r).twin.transfer = L.twin.transfer ∧
    (Live.verified L r).twin.check = L.twin.check := by
  have h0 := @Live.updEv_frame
  have h1 := @Live.stageDone_keeps
  have h2 := @Live.noteProgram_frame
  simp only [Live.verified]
  (repeat' split) <;> simp [h0, h1, h2]

theorem Live.activateSlot_keeps (L : Live) (slot : Nat) (probation atOnce : Bool) :
    (Live.activateSlot L slot probation atOnce).pins.aux1 = L.pins.aux1 ∧
    (Live.activateSlot L slot probation atOnce).pins.aux2 = L.pins.aux2 ∧
    (Live.activateSlot L slot probation atOnce).pins.auxSince = L.pins.auxSince ∧
    (Live.activateSlot L slot probation atOnce).pins.quarryRelays = L.pins.quarryRelays ∧
    (Live.activateSlot L slot probation atOnce).pins.fbKpOpen = L.pins.fbKpOpen ∧
    (Live.activateSlot L slot probation atOnce).pins.fbKnOpen = L.pins.fbKnOpen ∧
    (Live.activateSlot L slot probation atOnce).pins.sswOpen = L.pins.sswOpen ∧
    (Live.activateSlot L slot probation atOnce).ks.edit = L.ks.edit ∧
    (Live.activateSlot L slot probation atOnce).ks.epoch = L.ks.epoch := by
  have h0 := @Live.stageEntry_frame
  have h1 := @Live.toBoot_keeps
  have h2 := @Live.updEv_frame
  have h3 := @Live.stageEntry_keeps
  simp [Live.activateSlot, h0, h1, h2, h3]

theorem Live.cmdActivateSet_keeps (L : Live) (level : Nat) :
    (Live.cmdActivateSet L level).1.pins.aux1 = L.pins.aux1 ∧
    (Live.cmdActivateSet L level).1.pins.aux2 = L.pins.aux2 ∧
    (Live.cmdActivateSet L level).1.pins.auxSince = L.pins.auxSince ∧
    (Live.cmdActivateSet L level).1.pins.quarryRelays = L.pins.quarryRelays ∧
    (Live.cmdActivateSet L level).1.pins.fbKpOpen = L.pins.fbKpOpen ∧
    (Live.cmdActivateSet L level).1.pins.fbKnOpen = L.pins.fbKnOpen ∧
    (Live.cmdActivateSet L level).1.pins.sswOpen = L.pins.sswOpen ∧
    (Live.cmdActivateSet L level).1.ks.edit = L.ks.edit ∧
    (Live.cmdActivateSet L level).1.ks.epoch = L.ks.epoch := by
  have h0 := @Live.activateSlot_keeps
  simp only [Live.cmdActivateSet]
  (repeat' split) <;> simp [h0]

theorem Live.cmdDiscardSet_keeps (L : Live) :
    (Live.cmdDiscardSet L).1.mode.booted = L.mode.booted ∧
    (Live.cmdDiscardSet L).1.mode.listening = L.mode.listening ∧
    (Live.cmdDiscardSet L).1.mode.quarryEntry = L.mode.quarryEntry ∧
    (Live.cmdDiscardSet L).1.pins.aux1 = L.pins.aux1 ∧
    (Live.cmdDiscardSet L).1.pins.aux2 = L.pins.aux2 ∧
    (Live.cmdDiscardSet L).1.pins.auxSince = L.pins.auxSince ∧
    (Live.cmdDiscardSet L).1.pins.holdup = L.pins.holdup ∧
    (Live.cmdDiscardSet L).1.pins.quarryRelays = L.pins.quarryRelays ∧
    (Live.cmdDiscardSet L).1.pins.fbKpOpen = L.pins.fbKpOpen ∧
    (Live.cmdDiscardSet L).1.pins.fbKnOpen = L.pins.fbKnOpen ∧
    (Live.cmdDiscardSet L).1.pins.sswOpen = L.pins.sswOpen ∧
    (Live.cmdDiscardSet L).1.saf.supplyLoss = L.saf.supplyLoss ∧
    (Live.cmdDiscardSet L).1.saf.fastLatch = L.saf.fastLatch ∧
    (Live.cmdDiscardSet L).1.saf.precharge = L.saf.precharge ∧
    (Live.cmdDiscardSet L).1.saf.pairs = L.saf.pairs ∧
    (Live.cmdDiscardSet L).1.saf.eA = L.saf.eA ∧
    (Live.cmdDiscardSet L).1.saf.eB = L.saf.eB ∧
    (Live.cmdDiscardSet L).1.twin.pair = L.twin.pair ∧
    (Live.cmdDiscardSet L).1.twin.gen = L.twin.gen ∧
    (Live.cmdDiscardSet L).1.twin.p = L.twin.p ∧
    (Live.cmdDiscardSet L).1.twin.transfer = L.twin.transfer ∧
    (Live.cmdDiscardSet L).1.twin.check = L.twin.check := by
  have h0 := @Live.stageEntry_keeps
  have h1 := @Live.stageDone_frame
  have h2 := @Live.stageDone_keeps
  simp [Live.cmdDiscardSet, h0, h1, h2]

theorem Live.installPart_keeps (L : Live) (kind : Nat) (d : Bytes) :
    (Live.installPart L kind d).twin.holds = L.twin.holds ∧
    (Live.installPart L kind d).twin.pair = L.twin.pair ∧
    (Live.installPart L kind d).twin.gen = L.twin.gen ∧
    (Live.installPart L kind d).twin.p = L.twin.p ∧
    (Live.installPart L kind d).twin.transfer = L.twin.transfer ∧
    (Live.installPart L kind d).twin.check = L.twin.check ∧
    (Live.installPart L kind d).ks.edit = L.ks.edit ∧
    (Live.installPart L kind d).ks.epoch = L.ks.epoch ∧
    (Live.installPart L kind d).ks.pend = L.ks.pend := by
  have h0 := @Live.modLgc_frame
  have h1 := @Live.withParams_frame
  have h2 := @Live.setActive_frame
  have h3 := @Live.setActive_keeps
  have h4 := @Live.updEv_frame
  simp only [Live.installPart]
  (repeat' split) <;> simp [h0, h1, h2, h3, h4]

theorem Live.installSet_keeps (L : Live) (s : Slot) :
    (Live.installSet L s).twin.holds = L.twin.holds ∧
    (Live.installSet L s).twin.pair = L.twin.pair ∧
    (Live.installSet L s).twin.gen = L.twin.gen ∧
    (Live.installSet L s).twin.p = L.twin.p ∧
    (Live.installSet L s).twin.transfer = L.twin.transfer ∧
    (Live.installSet L s).twin.check = L.twin.check ∧
    (Live.installSet L s).ks.edit = L.ks.edit ∧
    (Live.installSet L s).ks.epoch = L.ks.epoch ∧
    (Live.installSet L s).ks.pend = L.ks.pend := by
  have h0 := @Live.installPart_keeps
  simp only [Live.installSet]
  (repeat' split) <;> simp [h0]

theorem Live.notice_keeps (L : Live) (kind : Nat) :
    (Live.notice L kind).twin.holds = L.twin.holds ∧
    (Live.notice L kind).twin.pair = L.twin.pair ∧
    (Live.notice L kind).twin.gen = L.twin.gen ∧
    (Live.notice L kind).twin.p = L.twin.p ∧
    (Live.notice L kind).twin.transfer = L.twin.transfer ∧
    (Live.notice L kind).twin.check = L.twin.check := by
  simp [Live.notice]

theorem Live.confirmSet_keeps (L : Live) :
    (Live.confirmSet L).mode.booted = L.mode.booted ∧
    (Live.confirmSet L).mode.listening = L.mode.listening ∧
    (Live.confirmSet L).mode.quarryEntry = L.mode.quarryEntry ∧
    (Live.confirmSet L).pins.aux1 = L.pins.aux1 ∧
    (Live.confirmSet L).pins.aux2 = L.pins.aux2 ∧
    (Live.confirmSet L).pins.auxSince = L.pins.auxSince ∧
    (Live.confirmSet L).pins.holdup = L.pins.holdup ∧
    (Live.confirmSet L).pins.quarryRelays = L.pins.quarryRelays ∧
    (Live.confirmSet L).pins.fbKpOpen = L.pins.fbKpOpen ∧
    (Live.confirmSet L).pins.fbKnOpen = L.pins.fbKnOpen ∧
    (Live.confirmSet L).pins.sswOpen = L.pins.sswOpen ∧
    (Live.confirmSet L).saf.supplyLoss = L.saf.supplyLoss ∧
    (Live.confirmSet L).saf.fastLatch = L.saf.fastLatch ∧
    (Live.confirmSet L).saf.precharge = L.saf.precharge ∧
    (Live.confirmSet L).saf.pairs = L.saf.pairs ∧
    (Live.confirmSet L).saf.eA = L.saf.eA ∧
    (Live.confirmSet L).saf.eB = L.saf.eB ∧
    (Live.confirmSet L).twin.pair = L.twin.pair ∧
    (Live.confirmSet L).twin.gen = L.twin.gen ∧
    (Live.confirmSet L).twin.p = L.twin.p ∧
    (Live.confirmSet L).twin.transfer = L.twin.transfer ∧
    (Live.confirmSet L).twin.check = L.twin.check := by
  have h0 := @Live.notice_frame
  have h1 := @Live.updEv_frame
  have h2 := @Live.confirmAll_frame
  have h3 := @Live.stageEntry_keeps
  have h4 := @Live.notice_keeps
  simp [Live.confirmSet, h0, h1, h2, h3, h4]

theorem Live.leaveSet_keeps (L : Live) :
    (Live.leaveSet L).pins.aux1 = L.pins.aux1 ∧
    (Live.leaveSet L).pins.aux2 = L.pins.aux2 ∧
    (Live.leaveSet L).pins.auxSince = L.pins.auxSince ∧
    (Live.leaveSet L).pins.quarryRelays = L.pins.quarryRelays ∧
    (Live.leaveSet L).pins.fbKpOpen = L.pins.fbKpOpen ∧
    (Live.leaveSet L).pins.fbKnOpen = L.pins.fbKnOpen ∧
    (Live.leaveSet L).pins.sswOpen = L.pins.sswOpen ∧
    (Live.leaveSet L).ks.edit = L.ks.edit ∧
    (Live.leaveSet L).ks.epoch = L.ks.epoch := by
  have h0 := @Live.updEv_frame
  have h1 := @Live.activateSlot_keeps
  have h2 := @Live.restoreGen_frame
  simp [Live.leaveSet, h0, h1, h2]

theorem Live.updateTurn_keeps (L : Live) :
    (Live.updateTurn L).pins.aux1 = L.pins.aux1 ∧
    (Live.updateTurn L).pins.aux2 = L.pins.aux2 ∧
    (Live.updateTurn L).pins.auxSince = L.pins.auxSince ∧
    (Live.updateTurn L).pins.quarryRelays = L.pins.quarryRelays ∧
    (Live.updateTurn L).pins.fbKpOpen = L.pins.fbKpOpen ∧
    (Live.updateTurn L).pins.fbKnOpen = L.pins.fbKnOpen ∧
    (Live.updateTurn L).pins.sswOpen = L.pins.sswOpen ∧
    (Live.updateTurn L).ks.edit = L.ks.edit ∧
    (Live.updateTurn L).ks.epoch = L.ks.epoch := by
  have h0 := @Live.requestHandover_frame
  have h1 := @Live.toBoot_keeps
  have h2 := @Live.leaveSet_keeps
  have h3 := @Live.activateSlot_keeps
  simp [Live.updateTurn, h0, h1, h2, h3]

theorem Live.probationTick_keeps (L : Live) :
    (Live.probationTick L).mode.booted = L.mode.booted ∧
    (Live.probationTick L).mode.listening = L.mode.listening ∧
    (Live.probationTick L).mode.quarryEntry = L.mode.quarryEntry ∧
    (Live.probationTick L).pins.aux1 = L.pins.aux1 ∧
    (Live.probationTick L).pins.aux2 = L.pins.aux2 ∧
    (Live.probationTick L).pins.auxSince = L.pins.auxSince ∧
    (Live.probationTick L).pins.holdup = L.pins.holdup ∧
    (Live.probationTick L).pins.quarryRelays = L.pins.quarryRelays ∧
    (Live.probationTick L).pins.fbKpOpen = L.pins.fbKpOpen ∧
    (Live.probationTick L).pins.fbKnOpen = L.pins.fbKnOpen ∧
    (Live.probationTick L).pins.sswOpen = L.pins.sswOpen ∧
    (Live.probationTick L).saf.supplyLoss = L.saf.supplyLoss ∧
    (Live.probationTick L).saf.fastLatch = L.saf.fastLatch ∧
    (Live.probationTick L).saf.precharge = L.saf.precharge ∧
    (Live.probationTick L).saf.pairs = L.saf.pairs ∧
    (Live.probationTick L).saf.eA = L.saf.eA ∧
    (Live.probationTick L).saf.eB = L.saf.eB ∧
    (Live.probationTick L).twin.pair = L.twin.pair ∧
    (Live.probationTick L).twin.gen = L.twin.gen ∧
    (Live.probationTick L).twin.p = L.twin.p ∧
    (Live.probationTick L).twin.transfer = L.twin.transfer ∧
    (Live.probationTick L).twin.check = L.twin.check := by
  have h0 := @Live.stageEntry_frame
  have h1 := @Live.stageEntry_keeps
  simp [Live.probationTick, h0, h1]

theorem Live.probationOver_keeps (L : Live) :
    (Live.probationOver L).pins.aux1 = L.pins.aux1 ∧
    (Live.probationOver L).pins.aux2 = L.pins.aux2 ∧
    (Live.probationOver L).pins.auxSince = L.pins.auxSince ∧
    (Live.probationOver L).pins.quarryRelays = L.pins.quarryRelays ∧
    (Live.probationOver L).pins.fbKpOpen = L.pins.fbKpOpen ∧
    (Live.probationOver L).pins.fbKnOpen = L.pins.fbKnOpen ∧
    (Live.probationOver L).pins.sswOpen = L.pins.sswOpen ∧
    (Live.probationOver L).ks.edit = L.ks.edit ∧
    (Live.probationOver L).ks.epoch = L.ks.epoch := by
  have h0 := @Live.requestHandover_frame
  have h1 := @Live.probationTick_frame
  have h2 := @Live.probationTick_keeps
  have h3 := @Live.toBoot_keeps
  simp [Live.probationOver, h0, h1, h2, h3]

theorem Live.nodeStart_keeps (L : Live) (s : Nat) :
    (Live.nodeStart L s).mode.booted = L.mode.booted ∧
    (Live.nodeStart L s).mode.listening = L.mode.listening ∧
    (Live.nodeStart L s).mode.quarryEntry = L.mode.quarryEntry ∧
    (Live.nodeStart L s).pins.aux1 = L.pins.aux1 ∧
    (Live.nodeStart L s).pins.aux2 = L.pins.aux2 ∧
    (Live.nodeStart L s).pins.auxSince = L.pins.auxSince ∧
    (Live.nodeStart L s).pins.holdup = L.pins.holdup ∧
    (Live.nodeStart L s).pins.quarryRelays = L.pins.quarryRelays ∧
    (Live.nodeStart L s).pins.fbKpOpen = L.pins.fbKpOpen ∧
    (Live.nodeStart L s).pins.fbKnOpen = L.pins.fbKnOpen ∧
    (Live.nodeStart L s).pins.sswOpen = L.pins.sswOpen ∧
    (Live.nodeStart L s).saf.supplyLoss = L.saf.supplyLoss ∧
    (Live.nodeStart L s).saf.fastLatch = L.saf.fastLatch ∧
    (Live.nodeStart L s).saf.precharge = L.saf.precharge ∧
    (Live.nodeStart L s).saf.pairs = L.saf.pairs ∧
    (Live.nodeStart L s).saf.eA = L.saf.eA ∧
    (Live.nodeStart L s).saf.eB = L.saf.eB ∧
    (Live.nodeStart L s).twin.pair = L.twin.pair ∧
    (Live.nodeStart L s).twin.gen = L.twin.gen ∧
    (Live.nodeStart L s).twin.p = L.twin.p ∧
    (Live.nodeStart L s).twin.transfer = L.twin.transfer ∧
    (Live.nodeStart L s).twin.check = L.twin.check := by
  have h0 := @Live.modSeg_frame
  have h1 := @Live.updEv_frame
  have h2 := @Live.stageEntry_keeps
  simp [Live.nodeStart, h0, h1, h2]

theorem Live.nodeDone_keeps (L : Live) (s : Nat) :
    (Live.nodeDone L s).twin.holds = L.twin.holds ∧
    (Live.nodeDone L s).twin.pair = L.twin.pair ∧
    (Live.nodeDone L s).twin.gen = L.twin.gen ∧
    (Live.nodeDone L s).twin.p = L.twin.p ∧
    (Live.nodeDone L s).twin.transfer = L.twin.transfer ∧
    (Live.nodeDone L s).twin.check = L.twin.check := by
  have h0 := @Live.modSeg_frame
  have h1 := @Live.updEv_frame
  have h2 := @Live.stageDone_keeps
  simp [Live.nodeDone, h0, h1, h2]

theorem Live.nodeFail_keeps (L : Live) (s : Nat) :
    (Live.nodeFail L s).twin.holds = L.twin.holds ∧
    (Live.nodeFail L s).twin.pair = L.twin.pair ∧
    (Live.nodeFail L s).twin.gen = L.twin.gen ∧
    (Live.nodeFail L s).twin.p = L.twin.p ∧
    (Live.nodeFail L s).twin.transfer = L.twin.transfer ∧
    (Live.nodeFail L s).twin.check = L.twin.check := by
  have h0 := @Live.updEv_frame
  have h1 := @Live.stageDone_keeps
  simp [Live.nodeFail, h0, h1]

theorem Live.nodeUpdate_keeps (L : Live) :
    (Live.nodeUpdate L).mode.booted = L.mode.booted ∧
    (Live.nodeUpdate L).mode.listening = L.mode.listening ∧
    (Live.nodeUpdate L).mode.quarryEntry = L.mode.quarryEntry ∧
    (Live.nodeUpdate L).pins.aux1 = L.pins.aux1 ∧
    (Live.nodeUpdate L).pins.aux2 = L.pins.aux2 ∧
    (Live.nodeUpdate L).pins.auxSince = L.pins.auxSince ∧
    (Live.nodeUpdate L).pins.holdup = L.pins.holdup ∧
    (Live.nodeUpdate L).pins.quarryRelays = L.pins.quarryRelays ∧
    (Live.nodeUpdate L).pins.fbKpOpen = L.pins.fbKpOpen ∧
    (Live.nodeUpdate L).pins.fbKnOpen = L.pins.fbKnOpen ∧
    (Live.nodeUpdate L).pins.sswOpen = L.pins.sswOpen ∧
    (Live.nodeUpdate L).saf.supplyLoss = L.saf.supplyLoss ∧
    (Live.nodeUpdate L).saf.fastLatch = L.saf.fastLatch ∧
    (Live.nodeUpdate L).saf.precharge = L.saf.precharge ∧
    (Live.nodeUpdate L).saf.pairs = L.saf.pairs ∧
    (Live.nodeUpdate L).saf.eA = L.saf.eA ∧
    (Live.nodeUpdate L).saf.eB = L.saf.eB ∧
    (Live.nodeUpdate L).twin.pair = L.twin.pair ∧
    (Live.nodeUpdate L).twin.gen = L.twin.gen ∧
    (Live.nodeUpdate L).twin.p = L.twin.p ∧
    (Live.nodeUpdate L).twin.transfer = L.twin.transfer ∧
    (Live.nodeUpdate L).twin.check = L.twin.check := by
  have h0 := @Live.nodeStart_keeps
  have h1 := @Live.nodeSend_frame
  have h2 := @Live.nodeFail_frame
  have h3 := @Live.nodeFail_keeps
  have h4 := @Live.nodeDone_frame
  have h5 := @Live.nodeDone_keeps
  simp only [Live.nodeUpdate]
  (repeat' split) <;> simp [h0, h1, h2, h3, h4, h5]

theorem Live.refresh_keeps (L : Live) (b : Nat) (ok : Bool) :
    (Live.refresh L b ok).mode.booted = L.mode.booted ∧
    (Live.refresh L b ok).mode.listening = L.mode.listening ∧
    (Live.refresh L b ok).mode.quarryEntry = L.mode.quarryEntry ∧
    (Live.refresh L b ok).pins.aux1 = L.pins.aux1 ∧
    (Live.refresh L b ok).pins.aux2 = L.pins.aux2 ∧
    (Live.refresh L b ok).pins.auxSince = L.pins.auxSince ∧
    (Live.refresh L b ok).pins.holdup = L.pins.holdup ∧
    (Live.refresh L b ok).pins.quarryRelays = L.pins.quarryRelays ∧
    (Live.refresh L b ok).pins.fbKpOpen = L.pins.fbKpOpen ∧
    (Live.refresh L b ok).pins.fbKnOpen = L.pins.fbKnOpen ∧
    (Live.refresh L b ok).pins.sswOpen = L.pins.sswOpen ∧
    (Live.refresh L b ok).saf.supplyLoss = L.saf.supplyLoss ∧
    (Live.refresh L b ok).saf.fastLatch = L.saf.fastLatch ∧
    (Live.refresh L b ok).saf.precharge = L.saf.precharge ∧
    (Live.refresh L b ok).saf.pairs = L.saf.pairs ∧
    (Live.refresh L b ok).saf.eA = L.saf.eA ∧
    (Live.refresh L b ok).saf.eB = L.saf.eB ∧
    (Live.refresh L b ok).twin.pair = L.twin.pair ∧
    (Live.refresh L b ok).twin.gen = L.twin.gen ∧
    (Live.refresh L b ok).twin.p = L.twin.p ∧
    (Live.refresh L b ok).twin.transfer = L.twin.transfer ∧
    (Live.refresh L b ok).twin.check = L.twin.check := by
  have h0 := @Live.stageDone_frame
  have h1 := @Live.stageEntry_frame
  have h2 := @Live.updEv_frame
  have h3 := @Live.blockFresh_frame
  have h4 := @Live.stageEntry_keeps
  have h5 := @Live.stageDone_keeps
  simp [Live.refresh, h0, h1, h2, h3, h4, h5]

theorem Live.replayBody_keeps (L : Live) (e : JEntry) :
    (Live.replayBody L e).twin.holds = L.twin.holds ∧
    (Live.replayBody L e).twin.pair = L.twin.pair ∧
    (Live.replayBody L e).twin.gen = L.twin.gen ∧
    (Live.replayBody L e).twin.p = L.twin.p ∧
    (Live.replayBody L e).twin.transfer = L.twin.transfer ∧
    (Live.replayBody L e).twin.check = L.twin.check ∧
    (Live.replayBody L e).ks.edit = L.ks.edit ∧
    (Live.replayBody L e).ks.epoch = L.ks.epoch ∧
    (Live.replayBody L e).ks.pend = L.ks.pend := by
  have h0 := @Live.rewrite_frame
  have h1 := @Live.installSet_keeps
  have h2 := @Live.blockFresh_frame
  have h3 := @Live.modSeg_frame
  have h4 := @Live.resumeNode_frame
  simp only [Live.replayBody]
  (repeat' split) <;> simp [h0, h1, h2, h3, h4]

theorem Live.replay_keeps (L : Live) (p : JEntry → Bool) :
    (Live.replay L p).twin.holds = L.twin.holds ∧
    (Live.replay L p).twin.pair = L.twin.pair ∧
    (Live.replay L p).twin.gen = L.twin.gen ∧
    (Live.replay L p).twin.p = L.twin.p ∧
    (Live.replay L p).twin.transfer = L.twin.transfer ∧
    (Live.replay L p).twin.check = L.twin.check ∧
    (Live.replay L p).ks.edit = L.ks.edit ∧
    (Live.replay L p).ks.epoch = L.ks.epoch ∧
    (Live.replay L p).ks.pend = L.ks.pend := by
  have h0 := @Live.jdone_keeps
  have h1 := @Live.replayBody_keeps
  have h2 := @Live.jdone_frame
  simp [Live.replay, h0, h1, h2]

end Sys2Proof.Machine
end

