-- ==== Sys2Proof/Laws/KeepModes.lean ====
section
/-! SUPPORT. Single registers that the operations of Machine/Modes.lean leave as they are. -/

namespace Sys2Proof.Machine

open Sys2Proof

theorem Live.fallBack_keeps (L : Live) (why : Nat) :
    (Live.fallBack L why).twin.holds = L.twin.holds ∧
    (Live.fallBack L why).twin.pair = L.twin.pair ∧
    (Live.fallBack L why).twin.gen = L.twin.gen ∧
    (Live.fallBack L why).twin.p = L.twin.p ∧
    (Live.fallBack L why).twin.transfer = L.twin.transfer ∧
    (Live.fallBack L why).twin.check = L.twin.check := by
  have h0 := @Live.restoreGen_frame
  have h1 := @Live.notice_keeps
  have h2 := @Live.updEv_frame
  simp [Live.fallBack, h0, h1, h2]

theorem Live.bootImage_keeps (L : Live) (r : BootReport) :
    (Live.bootImage L r).twin.holds = L.twin.holds ∧
    (Live.bootImage L r).twin.pair = L.twin.pair ∧
    (Live.bootImage L r).twin.gen = L.twin.gen ∧
    (Live.bootImage L r).twin.p = L.twin.p ∧
    (Live.bootImage L r).twin.transfer = L.twin.transfer ∧
    (Live.bootImage L r).twin.check = L.twin.check := by
  have h0 := @Live.fallBack_frame
  have h1 := @Live.updEv_frame
  have h2 := @Live.fallBack_keeps
  simp [Live.bootImage, h0, h1, h2]

theorem Live.bootReplay_keeps (L : Live) :
    (Live.bootReplay L).mode.booted = L.mode.booted ∧
    (Live.bootReplay L).mode.listening = L.mode.listening ∧
    (Live.bootReplay L).mode.quarryEntry = L.mode.quarryEntry ∧
    (Live.bootReplay L).pins.aux1 = L.pins.aux1 ∧
    (Live.bootReplay L).pins.aux2 = L.pins.aux2 ∧
    (Live.bootReplay L).pins.auxSince = L.pins.auxSince ∧
    (Live.bootReplay L).pins.holdup = L.pins.holdup ∧
    (Live.bootReplay L).pins.quarryRelays = L.pins.quarryRelays ∧
    (Live.bootReplay L).pins.fbKpOpen = L.pins.fbKpOpen ∧
    (Live.bootReplay L).pins.fbKnOpen = L.pins.fbKnOpen ∧
    (Live.bootReplay L).pins.sswOpen = L.pins.sswOpen ∧
    (Live.bootReplay L).saf.supplyLoss = L.saf.supplyLoss ∧
    (Live.bootReplay L).saf.fastLatch = L.saf.fastLatch ∧
    (Live.bootReplay L).saf.precharge = L.saf.precharge ∧
    (Live.bootReplay L).saf.pairs = L.saf.pairs ∧
    (Live.bootReplay L).saf.eA = L.saf.eA ∧
    (Live.bootReplay L).saf.eB = L.saf.eB ∧
    (Live.bootReplay L).twin.pair = L.twin.pair ∧
    (Live.bootReplay L).twin.gen = L.twin.gen ∧
    (Live.bootReplay L).twin.p = L.twin.p ∧
    (Live.bootReplay L).twin.transfer = L.twin.transfer ∧
    (Live.bootReplay L).twin.check = L.twin.check ∧
    (Live.bootReplay L).ks.edit = L.ks.edit ∧
    (Live.bootReplay L).ks.epoch = L.ks.epoch ∧
    (Live.bootReplay L).ks.pend = L.ks.pend := by
  have h0 := @Live.replay_frame
  have h1 := @Live.checkpoint_keeps
  have h2 := @Live.updEv_frame
  have h3 := @Live.replay_keeps
  have h4 := @Live.checkpoint_frame
  simp [Live.bootReplay, h0, h1, h2, h3, h4]

theorem Live.bootRestore_keeps (L : Live) :
    (Live.bootRestore L).ks.edit = L.ks.edit ∧
    (Live.bootRestore L).ks.epoch = L.ks.epoch ∧
    (Live.bootRestore L).ks.pend = L.ks.pend := by
  simp [Live.bootRestore]

theorem Live.testResults_keeps (L : Live) (hard : Nat) :
    (Live.testResults L hard).saf.supplyLoss = L.saf.supplyLoss ∧
    (Live.testResults L hard).saf.fastLatch = L.saf.fastLatch ∧
    (Live.testResults L hard).saf.hazard = L.saf.hazard ∧
    (Live.testResults L hard).saf.precharge = L.saf.precharge ∧
    (Live.testResults L hard).saf.ownCmd = L.saf.ownCmd ∧
    (Live.testResults L hard).saf.pairs = L.saf.pairs ∧
    (Live.testResults L hard).saf.eA = L.saf.eA ∧
    (Live.testResults L hard).saf.eB = L.saf.eB := by
  have h0 := @Live.liveTests_frame
  simp [Live.testResults, h0]

theorem Live.claimFirst_keeps (L : Live) :
    (Live.claimFirst L).pins.aux1 = L.pins.aux1 ∧
    (Live.claimFirst L).pins.aux2 = L.pins.aux2 ∧
    (Live.claimFirst L).pins.auxSince = L.pins.auxSince ∧
    (Live.claimFirst L).pins.holdup = L.pins.holdup ∧
    (Live.claimFirst L).pins.contactA = L.pins.contactA ∧
    (Live.claimFirst L).pins.contactB = L.pins.contactB ∧
    (Live.claimFirst L).pins.elementOpen = L.pins.elementOpen ∧
    (Live.claimFirst L).pins.elemA = L.pins.elemA ∧
    (Live.claimFirst L).pins.elemB = L.pins.elemB ∧
    (Live.claimFirst L).pins.quarryRelays = L.pins.quarryRelays ∧
    (Live.claimFirst L).pins.fbKpOpen = L.pins.fbKpOpen ∧
    (Live.claimFirst L).pins.fbKnOpen = L.pins.fbKnOpen ∧
    (Live.claimFirst L).pins.sswOpen = L.pins.sswOpen ∧
    (Live.claimFirst L).twin.pair = L.twin.pair ∧
    (Live.claimFirst L).twin.p = L.twin.p ∧
    (Live.claimFirst L).twin.transfer = L.twin.transfer ∧
    (Live.claimFirst L).twin.check = L.twin.check := by
  have h0 := @Live.dueThresholds_frame
  have h1 := @Live.setFast_keeps
  have h2 := @Live.dueThresholds_keeps
  have h3 := @Live.setFast_frame
  simp [Live.claimFirst, h0, h1, h2, h3]

theorem Live.firstToken_keeps (L : Live) :
    (Live.firstToken L).pins.aux1 = L.pins.aux1 ∧
    (Live.firstToken L).pins.aux2 = L.pins.aux2 ∧
    (Live.firstToken L).pins.auxSince = L.pins.auxSince ∧
    (Live.firstToken L).pins.holdup = L.pins.holdup ∧
    (Live.firstToken L).pins.contactA = L.pins.contactA ∧
    (Live.firstToken L).pins.contactB = L.pins.contactB ∧
    (Live.firstToken L).pins.elementOpen = L.pins.elementOpen ∧
    (Live.firstToken L).pins.elemA = L.pins.elemA ∧
    (Live.firstToken L).pins.elemB = L.pins.elemB ∧
    (Live.firstToken L).pins.quarryRelays = L.pins.quarryRelays ∧
    (Live.firstToken L).pins.fbKpOpen = L.pins.fbKpOpen ∧
    (Live.firstToken L).pins.fbKnOpen = L.pins.fbKnOpen ∧
    (Live.firstToken L).pins.sswOpen = L.pins.sswOpen ∧
    (Live.firstToken L).twin.pair = L.twin.pair ∧
    (Live.firstToken L).twin.p = L.twin.p ∧
    (Live.firstToken L).twin.transfer = L.twin.transfer ∧
    (Live.firstToken L).twin.check = L.twin.check := by
  have h0 := @Live.claimFirst_keeps
  simp [Live.firstToken, h0]

theorem Live.rejoinPair_keeps (L : Live) :
    (Live.rejoinPair L).twin.holds = L.twin.holds ∧
    (Live.rejoinPair L).twin.pair = L.twin.pair ∧
    (Live.rejoinPair L).twin.gen = L.twin.gen ∧
    (Live.rejoinPair L).twin.p = L.twin.p ∧
    (Live.rejoinPair L).twin.transfer = L.twin.transfer ∧
    (Live.rejoinPair L).twin.check = L.twin.check := by
  simp [Live.rejoinPair]

theorem Live.latchTrips_keeps (L : Live) :
    (Live.latchTrips L).mode.booted = L.mode.booted ∧
    (Live.latchTrips L).mode.listening = L.mode.listening ∧
    (Live.latchTrips L).mode.quarryEntry = L.mode.quarryEntry ∧
    (Live.latchTrips L).pins.aux1 = L.pins.aux1 ∧
    (Live.latchTrips L).pins.aux2 = L.pins.aux2 ∧
    (Live.latchTrips L).pins.auxSince = L.pins.auxSince ∧
    (Live.latchTrips L).pins.holdup = L.pins.holdup ∧
    (Live.latchTrips L).pins.quarryRelays = L.pins.quarryRelays ∧
    (Live.latchTrips L).pins.fbKpOpen = L.pins.fbKpOpen ∧
    (Live.latchTrips L).pins.fbKnOpen = L.pins.fbKnOpen ∧
    (Live.latchTrips L).pins.sswOpen = L.pins.sswOpen ∧
    (Live.latchTrips L).saf.supplyLoss = L.saf.supplyLoss ∧
    (Live.latchTrips L).saf.fastLatch = L.saf.fastLatch ∧
    (Live.latchTrips L).saf.precharge = L.saf.precharge ∧
    (Live.latchTrips L).saf.pairs = L.saf.pairs ∧
    (Live.latchTrips L).saf.eA = L.saf.eA ∧
    (Live.latchTrips L).saf.eB = L.saf.eB ∧
    (Live.latchTrips L).twin.pair = L.twin.pair ∧
    (Live.latchTrips L).twin.gen = L.twin.gen ∧
    (Live.latchTrips L).twin.p = L.twin.p ∧
    (Live.latchTrips L).twin.transfer = L.twin.transfer ∧
    (Live.latchTrips L).twin.check = L.twin.check := by
  have h0 := @Live.trip_keeps
  simp [Live.latchTrips, h0]

theorem Live.actEnable_keeps (L : Live) :
    (Live.actEnable L).pins.aux1 = L.pins.aux1 ∧
    (Live.actEnable L).pins.aux2 = L.pins.aux2 ∧
    (Live.actEnable L).pins.auxSince = L.pins.auxSince ∧
    (Live.actEnable L).pins.holdup = L.pins.holdup ∧
    (Live.actEnable L).pins.elementOpen = L.pins.elementOpen ∧
    (Live.actEnable L).pins.elemA = L.pins.elemA ∧
    (Live.actEnable L).pins.elemB = L.pins.elemB ∧
    (Live.actEnable L).pins.quarryRelays = L.pins.quarryRelays ∧
    (Live.actEnable L).pins.fbKpOpen = L.pins.fbKpOpen ∧
    (Live.actEnable L).pins.fbKnOpen = L.pins.fbKnOpen ∧
    (Live.actEnable L).pins.sswOpen = L.pins.sswOpen ∧
    (Live.actEnable L).saf.supplyLoss = L.saf.supplyLoss ∧
    (Live.actEnable L).saf.fastLatch = L.saf.fastLatch ∧
    (Live.actEnable L).saf.hazard = L.saf.hazard ∧
    (Live.actEnable L).saf.precharge = L.saf.precharge ∧
    (Live.actEnable L).saf.ownCmd = L.saf.ownCmd ∧
    (Live.actEnable L).saf.pairs = L.saf.pairs ∧
    (Live.actEnable L).saf.eA = L.saf.eA ∧
    (Live.actEnable L).saf.eB = L.saf.eB := by
  have h0 := @Live.result_frame
  have h1 := @Live.startPrecharge_keeps
  simp [Live.actEnable, h0, h1]

theorem Live.cmdEnable_keeps (L : Live) :
    (Live.cmdEnable L).pins.aux1 = L.pins.aux1 ∧
    (Live.cmdEnable L).pins.aux2 = L.pins.aux2 ∧
    (Live.cmdEnable L).pins.auxSince = L.pins.auxSince ∧
    (Live.cmdEnable L).pins.holdup = L.pins.holdup ∧
    (Live.cmdEnable L).pins.elementOpen = L.pins.elementOpen ∧
    (Live.cmdEnable L).pins.elemA = L.pins.elemA ∧
    (Live.cmdEnable L).pins.elemB = L.pins.elemB ∧
    (Live.cmdEnable L).pins.quarryRelays = L.pins.quarryRelays ∧
    (Live.cmdEnable L).pins.fbKpOpen = L.pins.fbKpOpen ∧
    (Live.cmdEnable L).pins.fbKnOpen = L.pins.fbKnOpen ∧
    (Live.cmdEnable L).pins.sswOpen = L.pins.sswOpen ∧
    (Live.cmdEnable L).saf.supplyLoss = L.saf.supplyLoss ∧
    (Live.cmdEnable L).saf.fastLatch = L.saf.fastLatch ∧
    (Live.cmdEnable L).saf.hazard = L.saf.hazard ∧
    (Live.cmdEnable L).saf.precharge = L.saf.precharge ∧
    (Live.cmdEnable L).saf.ownCmd = L.saf.ownCmd ∧
    (Live.cmdEnable L).saf.pairs = L.saf.pairs ∧
    (Live.cmdEnable L).saf.eA = L.saf.eA ∧
    (Live.cmdEnable L).saf.eB = L.saf.eB := by
  have h0 := @Live.result_frame
  have h1 := @Live.actEnable_keeps
  simp [Live.cmdEnable, h0, h1]

theorem Live.cmdDisable_keeps (L : Live) :
    (Live.cmdDisable L).mode.booted = L.mode.booted ∧
    (Live.cmdDisable L).mode.listening = L.mode.listening ∧
    (Live.cmdDisable L).mode.quarryEntry = L.mode.quarryEntry ∧
    (Live.cmdDisable L).pins.aux1 = L.pins.aux1 ∧
    (Live.cmdDisable L).pins.aux2 = L.pins.aux2 ∧
    (Live.cmdDisable L).pins.auxSince = L.pins.auxSince ∧
    (Live.cmdDisable L).pins.holdup = L.pins.holdup ∧
    (Live.cmdDisable L).pins.elementOpen = L.pins.elementOpen ∧
    (Live.cmdDisable L).pins.elemA = L.pins.elemA ∧
    (Live.cmdDisable L).pins.elemB = L.pins.elemB ∧
    (Live.cmdDisable L).pins.quarryRelays = L.pins.quarryRelays ∧
    (Live.cmdDisable L).pins.fbKpOpen = L.pins.fbKpOpen ∧
    (Live.cmdDisable L).pins.fbKnOpen = L.pins.fbKnOpen ∧
    (Live.cmdDisable L).pins.sswOpen = L.pins.sswOpen ∧
    (Live.cmdDisable L).saf.supplyLoss = L.saf.supplyLoss ∧
    (Live.cmdDisable L).saf.fastLatch = L.saf.fastLatch ∧
    (Live.cmdDisable L).saf.hazard = L.saf.hazard ∧
    (Live.cmdDisable L).saf.precharge = L.saf.precharge ∧
    (Live.cmdDisable L).saf.pairs = L.saf.pairs ∧
    (Live.cmdDisable L).saf.eA = L.saf.eA ∧
    (Live.cmdDisable L).saf.eB = L.saf.eB := by
  have h0 := @Live.result_frame
  have h1 := @Live.startShutdown_keeps
  have h2 := @Live.cancelPending_keeps
  have h3 := @Live.cancelPending_frame
  simp [Live.cmdDisable, h0, h1, h2, h3]

theorem Live.cmdAcknowledge_keeps (L : Live) :
    (Live.cmdAcknowledge L).mode.pendEnable = L.mode.pendEnable ∧
    (Live.cmdAcknowledge L).mode.booted = L.mode.booted ∧
    (Live.cmdAcknowledge L).mode.listening = L.mode.listening ∧
    (Live.cmdAcknowledge L).mode.quarryEntry = L.mode.quarryEntry ∧
    (Live.cmdAcknowledge L).pins.aux1 = L.pins.aux1 ∧
    (Live.cmdAcknowledge L).pins.aux2 = L.pins.aux2 ∧
    (Live.cmdAcknowledge L).pins.auxSince = L.pins.auxSince ∧
    (Live.cmdAcknowledge L).pins.holdup = L.pins.holdup ∧
    (Live.cmdAcknowledge L).pins.contactA = L.pins.contactA ∧
    (Live.cmdAcknowledge L).pins.contactB = L.pins.contactB ∧
    (Live.cmdAcknowledge L).pins.elementOpen = L.pins.elementOpen ∧
    (Live.cmdAcknowledge L).pins.elemA = L.pins.elemA ∧
    (Live.cmdAcknowledge L).pins.elemB = L.pins.elemB ∧
    (Live.cmdAcknowledge L).pins.quarryRelays = L.pins.quarryRelays ∧
    (Live.cmdAcknowledge L).pins.fbKpOpen = L.pins.fbKpOpen ∧
    (Live.cmdAcknowledge L).pins.fbKnOpen = L.pins.fbKnOpen ∧
    (Live.cmdAcknowledge L).pins.sswOpen = L.pins.sswOpen ∧
    (Live.cmdAcknowledge L).saf.ownCmd = L.saf.ownCmd ∧
    (Live.cmdAcknowledge L).saf.pairs = L.saf.pairs ∧
    (Live.cmdAcknowledge L).saf.eA = L.saf.eA ∧
    (Live.cmdAcknowledge L).saf.eB = L.saf.eB := by
  have h0 := @Live.result_frame
  have h1 := @Live.enterStandby_keeps
  simp [Live.cmdAcknowledge, h0, h1]

theorem Live.cmdEnterService_keeps (L : Live) :
    (Live.cmdEnterService L).mode.booted = L.mode.booted ∧
    (Live.cmdEnterService L).mode.listening = L.mode.listening ∧
    (Live.cmdEnterService L).mode.quarryEntry = L.mode.quarryEntry ∧
    (Live.cmdEnterService L).pins.aux1 = L.pins.aux1 ∧
    (Live.cmdEnterService L).pins.aux2 = L.pins.aux2 ∧
    (Live.cmdEnterService L).pins.auxSince = L.pins.auxSince ∧
    (Live.cmdEnterService L).pins.holdup = L.pins.holdup ∧
    (Live.cmdEnterService L).pins.contactA = L.pins.contactA ∧
    (Live.cmdEnterService L).pins.contactB = L.pins.contactB ∧
    (Live.cmdEnterService L).pins.elementOpen = L.pins.elementOpen ∧
    (Live.cmdEnterService L).pins.elemA = L.pins.elemA ∧
    (Live.cmdEnterService L).pins.elemB = L.pins.elemB ∧
    (Live.cmdEnterService L).pins.quarryRelays = L.pins.quarryRelays ∧
    (Live.cmdEnterService L).pins.fbKpOpen = L.pins.fbKpOpen ∧
    (Live.cmdEnterService L).pins.fbKnOpen = L.pins.fbKnOpen ∧
    (Live.cmdEnterService L).pins.sswOpen = L.pins.sswOpen := by
  have h0 := @Live.setState_keeps
  have h1 := @Live.setState_frame
  have h2 := @Live.result_frame
  have h3 := @Live.setFast_frame
  have h4 := @Live.setFast_keeps
  simp [Live.cmdEnterService, h0, h1, h2, h3, h4]

theorem Live.cmdLeaveService_keeps (L : Live) :
    (Live.cmdLeaveService L).mode.pendEnable = L.mode.pendEnable ∧
    (Live.cmdLeaveService L).mode.booted = L.mode.booted ∧
    (Live.cmdLeaveService L).mode.listening = L.mode.listening ∧
    (Live.cmdLeaveService L).mode.quarryEntry = L.mode.quarryEntry ∧
    (Live.cmdLeaveService L).pins.aux1 = L.pins.aux1 ∧
    (Live.cmdLeaveService L).pins.aux2 = L.pins.aux2 ∧
    (Live.cmdLeaveService L).pins.auxSince = L.pins.auxSince ∧
    (Live.cmdLeaveService L).pins.holdup = L.pins.holdup ∧
    (Live.cmdLeaveService L).pins.contactA = L.pins.contactA ∧
    (Live.cmdLeaveService L).pins.contactB = L.pins.contactB ∧
    (Live.cmdLeaveService L).pins.elementOpen = L.pins.elementOpen ∧
    (Live.cmdLeaveService L).pins.elemA = L.pins.elemA ∧
    (Live.cmdLeaveService L).pins.elemB = L.pins.elemB ∧
    (Live.cmdLeaveService L).pins.quarryRelays = L.pins.quarryRelays ∧
    (Live.cmdLeaveService L).pins.fbKpOpen = L.pins.fbKpOpen ∧
    (Live.cmdLeaveService L).pins.fbKnOpen = L.pins.fbKnOpen ∧
    (Live.cmdLeaveService L).pins.sswOpen = L.pins.sswOpen ∧
    (Live.cmdLeaveService L).saf.supplyLoss = L.saf.supplyLoss ∧
    (Live.cmdLeaveService L).saf.fastLatch = L.saf.fastLatch ∧
    (Live.cmdLeaveService L).saf.hazard = L.saf.hazard ∧
    (Live.cmdLeaveService L).saf.precharge = L.saf.precharge ∧
    (Live.cmdLeaveService L).saf.ownCmd = L.saf.ownCmd ∧
    (Live.cmdLeaveService L).saf.pairs = L.saf.pairs ∧
    (Live.cmdLeaveService L).saf.eA = L.saf.eA ∧
    (Live.cmdLeaveService L).saf.eB = L.saf.eB ∧
    (Live.cmdLeaveService L).twin.holds = L.twin.holds ∧
    (Live.cmdLeaveService L).twin.pair = L.twin.pair ∧
    (Live.cmdLeaveService L).twin.gen = L.twin.gen ∧
    (Live.cmdLeaveService L).twin.p = L.twin.p ∧
    (Live.cmdLeaveService L).twin.transfer = L.twin.transfer ∧
    (Live.cmdLeaveService L).twin.check = L.twin.check := by
  have h0 := @Live.result_frame
  have h1 := @Live.rejoinPair_frame
  have h2 := @Live.enterStandby_keeps
  have h3 := @Live.rejoinPair_keeps
  have h4 := @Live.enterStandby_frame
  simp [Live.cmdLeaveService, h0, h1, h2, h3, h4]

theorem Live.cmdEnterQuarry_keeps (L : Live) :
    (Live.cmdEnterQuarry L).mode.st = L.mode.st ∧
    (Live.cmdEnterQuarry L).mode.pendEnable = L.mode.pendEnable ∧
    (Live.cmdEnterQuarry L).mode.booted = L.mode.booted ∧
    (Live.cmdEnterQuarry L).mode.listening = L.mode.listening := by
  have h0 := @Live.result_frame
  simp [Live.cmdEnterQuarry, h0]

theorem Live.cmdModule_keeps (L : Live) (v : Nat) :
    (Live.cmdModule L v).pins.aux1 = L.pins.aux1 ∧
    (Live.cmdModule L v).pins.aux2 = L.pins.aux2 ∧
    (Live.cmdModule L v).pins.auxSince = L.pins.auxSince ∧
    (Live.cmdModule L v).pins.quarryRelays = L.pins.quarryRelays ∧
    (Live.cmdModule L v).pins.fbKpOpen = L.pins.fbKpOpen ∧
    (Live.cmdModule L v).pins.fbKnOpen = L.pins.fbKnOpen ∧
    (Live.cmdModule L v).pins.sswOpen = L.pins.sswOpen ∧
    (Live.cmdModule L v).ks.edit = L.ks.edit ∧
    (Live.cmdModule L v).ks.epoch = L.ks.epoch := by
  have h0 := @Live.cmdEnable_keeps
  have h1 := @Live.cmdEnable_frame
  have h2 := @Live.cmdDisable_keeps
  have h3 := @Live.cmdDisable_frame
  have h4 := @Live.cmdAcknowledge_keeps
  have h5 := @Live.cmdAcknowledge_frame
  have h6 := @Live.cmdEnterService_keeps
  have h7 := @Live.cmdEnterService_frame
  have h8 := @Live.cmdLeaveService_keeps
  have h9 := @Live.cmdLeaveService_frame
  have h10 := @Live.cmdEnterQuarry_frame
  have h11 := @Live.toBoot_keeps
  have h12 := @Live.result_frame
  have h13 := @Live.cmdColdLogic_frame
  have h14 := @Live.cmdColdEst_frame
  simp only [Live.cmdModule]
  (repeat' split) <;> simp [h0, h1, h2, h3, h4, h5, h6, h7, h8, h9, h10, h11, h12, h13, h14]

theorem Live.pendingActs_keeps (L : Live) :
    (Live.pendingActs L).pins.aux1 = L.pins.aux1 ∧
    (Live.pendingActs L).pins.aux2 = L.pins.aux2 ∧
    (Live.pendingActs L).pins.auxSince = L.pins.auxSince ∧
    (Live.pendingActs L).pins.holdup = L.pins.holdup ∧
    (Live.pendingActs L).pins.elementOpen = L.pins.elementOpen ∧
    (Live.pendingActs L).pins.elemA = L.pins.elemA ∧
    (Live.pendingActs L).pins.elemB = L.pins.elemB ∧
    (Live.pendingActs L).pins.quarryRelays = L.pins.quarryRelays ∧
    (Live.pendingActs L).pins.fbKpOpen = L.pins.fbKpOpen ∧
    (Live.pendingActs L).pins.fbKnOpen = L.pins.fbKnOpen ∧
    (Live.pendingActs L).pins.sswOpen = L.pins.sswOpen ∧
    (Live.pendingActs L).saf.supplyLoss = L.saf.supplyLoss ∧
    (Live.pendingActs L).saf.fastLatch = L.saf.fastLatch ∧
    (Live.pendingActs L).saf.hazard = L.saf.hazard ∧
    (Live.pendingActs L).saf.precharge = L.saf.precharge ∧
    (Live.pendingActs L).saf.ownCmd = L.saf.ownCmd ∧
    (Live.pendingActs L).saf.pairs = L.saf.pairs ∧
    (Live.pendingActs L).saf.eA = L.saf.eA ∧
    (Live.pendingActs L).saf.eB = L.saf.eB := by
  have h0 := @Live.actEnable_keeps
  simp only [Live.pendingActs]
  (repeat' split) <;> simp [h0]

end Sys2Proof.Machine
end

