-- ==== Sys2Proof/Laws/KeepTwinOps.lean ====
section
/-! SUPPORT. Single registers that the operations of Machine/TwinOps.lean leave as they are. -/

namespace Sys2Proof.Machine

open Sys2Proof

theorem Live.leaveStep_keeps (L : Live) (cause : Nat) :
    (Live.leaveStep L cause).twin.holds = L.twin.holds ∧
    (Live.leaveStep L cause).twin.gen = L.twin.gen ∧
    (Live.leaveStep L cause).twin.p = L.twin.p ∧
    (Live.leaveStep L cause).twin.check = L.twin.check := by
  have h0 := @Live.twinEv_frame
  simp [Live.leaveStep, h0]

end Sys2Proof.Machine
end

