-- ==== Sys2Proof/Laws/KeepCommit.lean ====
section
/-! SUPPORT. Single registers that the operations of Machine/Commit.lean leave as they are. -/

namespace Sys2Proof.Machine

open Sys2Proof

theorem Live.afterRefusal_keeps (L : Live) (s : Sess) (k : Nat) (e : Abort) (sim : Live) :
    (Live.afterRefusal L s k e sim).ks.edit = L.ks.edit ∧
    (Live.afterRefusal L s k e sim).ks.epoch = L.ks.epoch ∧
    (Live.afterRefusal L s k e sim).ks.pend = L.ks.pend := by
  have h0 := @Live.lgcEv_frame
  have h1 := @Live.authFail_keeps
  simp [Live.afterRefusal, h0, h1]

theorem Live.tagged_keeps (L : Live) (t : Option Txn) :
    (Live.tagged L t).ks.edit = L.ks.edit ∧
    (Live.tagged L t).ks.epoch = L.ks.epoch ∧
    (Live.tagged L t).ks.pend = L.ks.pend := by
  simp [Live.tagged]

end Sys2Proof.Machine
end

