-- ==== Sys2Proof/Laws/KeepBoundary.lean ====
section
/-! SUPPORT. Single registers that the operations of Machine/Boundary.lean leave as they are. -/

namespace Sys2Proof.Machine

open Sys2Proof

theorem Live.drawNonce_keeps (L : Live) (epoch : Nat) :
    (Live.drawNonce L epoch).ks.edit = L.ks.edit ∧
    (Live.drawNonce L epoch).ks.epoch = L.ks.epoch ∧
    (Live.drawNonce L epoch).ks.pend = L.ks.pend := by
  simp [Live.drawNonce]

theorem snapOf_keeps (U L : Live) :
    (snapOf U L).mode.pendEnable = L.mode.pendEnable ∧
    (snapOf U L).mode.booted = L.mode.booted ∧
    (snapOf U L).mode.listening = L.mode.listening ∧
    (snapOf U L).mode.quarryEntry = L.mode.quarryEntry := by
  simp [snapOf]

theorem Live.sendRecord_keeps (snap L : Live) (res : List (Req × Abort × Nat)) :
    (Live.sendRecord snap L res).twin.holds = L.twin.holds ∧
    (Live.sendRecord snap L res).twin.pair = L.twin.pair ∧
    (Live.sendRecord snap L res).twin.gen = L.twin.gen ∧
    (Live.sendRecord snap L res).twin.p = L.twin.p ∧
    (Live.sendRecord snap L res).twin.transfer = L.twin.transfer ∧
    (Live.sendRecord snap L res).twin.check = L.twin.check := by
  have h0 := @Live.toPartner_keeps
  simp [Live.sendRecord, h0]

theorem Live.answerReq_keeps (L : Live) (x : Req × Abort × Nat) :
    (Live.answerReq L x).twin.holds = L.twin.holds ∧
    (Live.answerReq L x).twin.pair = L.twin.pair ∧
    (Live.answerReq L x).twin.gen = L.twin.gen ∧
    (Live.answerReq L x).twin.p = L.twin.p ∧
    (Live.answerReq L x).twin.transfer = L.twin.transfer ∧
    (Live.answerReq L x).twin.check = L.twin.check ∧
    (Live.answerReq L x).ks.edit = L.ks.edit ∧
    (Live.answerReq L x).ks.epoch = L.ks.epoch ∧
    (Live.answerReq L x).ks.pend = L.ks.pend := by
  have h0 := @Live.accept_frame
  have h1 := @Live.refuseEntry_frame
  have h2 := @Live.refuse_frame
  have h3 := @Live.answerVia_keeps
  have h4 := @Live.answerVia_frame
  have h5 := @Live.refuseEntry_keeps
  have h6 := @Live.refuse_keeps
  simp [Live.answerReq, h0, h1, h2, h3, h4, h5, h6]

theorem Live.startTransfer_keeps (L : Live) :
    (Live.startTransfer L).twin.holds = L.twin.holds ∧
    (Live.startTransfer L).twin.pair = L.twin.pair ∧
    (Live.startTransfer L).twin.gen = L.twin.gen ∧
    (Live.startTransfer L).twin.p = L.twin.p ∧
    (Live.startTransfer L).twin.check = L.twin.check := by
  have h0 := @Live.toPartner_frame
  have h1 := @Live.twinEv_frame
  have h2 := @Live.toPartner_keeps
  simp [Live.startTransfer, h0, h1, h2]

theorem Live.courseEnd_keeps (old snap L : Live) :
    (Live.courseEnd old snap L).pins.aux1 = L.pins.aux1 ∧
    (Live.courseEnd old snap L).pins.aux2 = L.pins.aux2 ∧
    (Live.courseEnd old snap L).pins.auxSince = L.pins.auxSince ∧
    (Live.courseEnd old snap L).pins.quarryRelays = L.pins.quarryRelays ∧
    (Live.courseEnd old snap L).pins.fbKpOpen = L.pins.fbKpOpen ∧
    (Live.courseEnd old snap L).pins.fbKnOpen = L.pins.fbKnOpen ∧
    (Live.courseEnd old snap L).pins.sswOpen = L.pins.sswOpen ∧
    (Live.courseEnd old snap L).ks.edit = L.ks.edit ∧
    (Live.courseEnd old snap L).ks.epoch = L.ks.epoch := by
  have h0 := @Live.sendPdos_frame
  have h1 := @Live.startTransfer_frame
  have h2 := @Live.noticeWatch_keeps
  have h3 := @Live.updLead_frame
  have h4 := @Live.updateTurn_keeps
  have h5 := @Live.logicCourse_frame
  have h6 := @Live.noticeWatch_frame
  simp [Live.courseEnd, h0, h1, h2, h3, h4, h5, h6]

end Sys2Proof.Machine
end

