-- ==== Sys2Proof/Laws/KeepTwinFrame.lean ====
section
/-! SUPPORT. Single registers that the operations of Machine/TwinFrame.lean leave as they are. -/

namespace Sys2Proof.Machine

open Sys2Proof

theorem Live.sayIdentity_keeps (L : Live) :
    (Live.sayIdentity L).twin.holds = L.twin.holds ∧
    (Live.sayIdentity L).twin.pair = L.twin.pair ∧
    (Live.sayIdentity L).twin.gen = L.twin.gen ∧
    (Live.sayIdentity L).twin.p = L.twin.p ∧
    (Live.sayIdentity L).twin.transfer = L.twin.transfer ∧
    (Live.sayIdentity L).twin.check = L.twin.check := by
  have h0 := @Live.toPartner_keeps
  simp [Live.sayIdentity, h0]

theorem Live.answerForwarded_keeps (L : Live) (s : Sess) (k : Nat) (code : Abort) (pos : Nat) :
    (Live.answerForwarded L s k code pos).ks.edit = L.ks.edit ∧
    (Live.answerForwarded L s k code pos).ks.epoch = L.ks.epoch ∧
    (Live.answerForwarded L s k code pos).ks.pend = L.ks.pend := by
  have h0 := @Live.accept_frame
  have h1 := @Live.refuse_keeps
  have h2 := @Live.refuseEntry_keeps
  simp [Live.answerForwarded, h0, h1, h2]

theorem Live.answerRemote_keeps (snap L : Live) (s : Sess) (k : Nat) :
    (Live.answerRemote snap L s k).twin.holds = L.twin.holds ∧
    (Live.answerRemote snap L s k).twin.pair = L.twin.pair ∧
    (Live.answerRemote snap L s k).twin.gen = L.twin.gen ∧
    (Live.answerRemote snap L s k).twin.p = L.twin.p ∧
    (Live.answerRemote snap L s k).twin.transfer = L.twin.transfer ∧
    (Live.answerRemote snap L s k).twin.check = L.twin.check ∧
    (Live.answerRemote snap L s k).ks.epoch = L.ks.epoch ∧
    (Live.answerRemote snap L s k).ks.pend = L.ks.pend := by
  have h0 := @Live.toPartner_keeps
  have h1 := @Live.readRecord_frame
  have h2 := @Live.touch_frame
  have h3 := @Live.toPartner_frame
  have h4 := @Live.touch_keeps
  simp [Live.answerRemote, h0, h1, h2, h3, h4]

theorem Live.takeRequest_keeps (L : Live) (d : Bytes) :
    (Live.takeRequest L d).twin.holds = L.twin.holds ∧
    (Live.takeRequest L d).twin.pair = L.twin.pair ∧
    (Live.takeRequest L d).twin.gen = L.twin.gen ∧
    (Live.takeRequest L d).twin.p = L.twin.p ∧
    (Live.takeRequest L d).twin.transfer = L.twin.transfer ∧
    (Live.takeRequest L d).twin.check = L.twin.check ∧
    (Live.takeRequest L d).ks.epoch = L.ks.epoch := by
  have h0 := @Live.writeAt_keeps
  have h1 := @Live.touch_frame
  have h2 := @Live.queueDebug_keeps
  have h3 := @Live.touch_keeps
  simp [Live.takeRequest, h0, h1, h2, h3]

theorem Live.takeReadItem_keeps (snap L : Live) (d : Bytes) :
    (Live.takeReadItem snap L d).twin.holds = L.twin.holds ∧
    (Live.takeReadItem snap L d).twin.pair = L.twin.pair ∧
    (Live.takeReadItem snap L d).twin.gen = L.twin.gen ∧
    (Live.takeReadItem snap L d).twin.p = L.twin.p ∧
    (Live.takeReadItem snap L d).twin.transfer = L.twin.transfer ∧
    (Live.takeReadItem snap L d).twin.check = L.twin.check ∧
    (Live.takeReadItem snap L d).ks.epoch = L.ks.epoch ∧
    (Live.takeReadItem snap L d).ks.pend = L.ks.pend := by
  have h0 := @Live.answerRead_frame
  have h1 := @Live.answerForwarded_frame
  have h2 := @Live.answerRemote_keeps
  have h3 := @Live.answerRead_keeps
  have h4 := @Live.answerForwarded_keeps
  simp [Live.takeReadItem, h0, h1, h2, h3, h4]

theorem Live.takeEntry_keeps (L : Live) (d : Bytes) :
    (Live.takeEntry L d).mode.booted = L.mode.booted ∧
    (Live.takeEntry L d).mode.listening = L.mode.listening ∧
    (Live.takeEntry L d).mode.quarryEntry = L.mode.quarryEntry ∧
    (Live.takeEntry L d).pins.aux1 = L.pins.aux1 ∧
    (Live.takeEntry L d).pins.aux2 = L.pins.aux2 ∧
    (Live.takeEntry L d).pins.auxSince = L.pins.auxSince ∧
    (Live.takeEntry L d).pins.holdup = L.pins.holdup ∧
    (Live.takeEntry L d).pins.quarryRelays = L.pins.quarryRelays ∧
    (Live.takeEntry L d).pins.fbKpOpen = L.pins.fbKpOpen ∧
    (Live.takeEntry L d).pins.fbKnOpen = L.pins.fbKnOpen ∧
    (Live.takeEntry L d).pins.sswOpen = L.pins.sswOpen ∧
    (Live.takeEntry L d).saf.supplyLoss = L.saf.supplyLoss ∧
    (Live.takeEntry L d).saf.fastLatch = L.saf.fastLatch ∧
    (Live.takeEntry L d).saf.precharge = L.saf.precharge ∧
    (Live.takeEntry L d).saf.pairs = L.saf.pairs ∧
    (Live.takeEntry L d).saf.eA = L.saf.eA ∧
    (Live.takeEntry L d).saf.eB = L.saf.eB ∧
    (Live.takeEntry L d).twin.pair = L.twin.pair ∧
    (Live.takeEntry L d).twin.gen = L.twin.gen ∧
    (Live.takeEntry L d).twin.p = L.twin.p ∧
    (Live.takeEntry L d).twin.transfer = L.twin.transfer ∧
    (Live.takeEntry L d).twin.check = L.twin.check := by
  have h0 := @Live.jdone_frame
  have h1 := @Live.jdone_keeps
  have h2 := @Live.jwrite_keeps
  simp only [Live.takeEntry]
  (repeat' split) <;> simp [h0, h1, h2]

theorem Live.takeIdentity7_keeps (L : Live) (d : Bytes) :
    (Live.takeIdentity7 L d).twin.holds = L.twin.holds ∧
    (Live.takeIdentity7 L d).twin.pair = L.twin.pair ∧
    (Live.takeIdentity7 L d).twin.gen = L.twin.gen ∧
    (Live.takeIdentity7 L d).twin.transfer = L.twin.transfer ∧
    (Live.takeIdentity7 L d).twin.check = L.twin.check := by
  have h0 := @Live.twinEv_frame
  simp only [Live.takeIdentity7]
  (repeat' split) <;> simp [h0]

theorem Live.endTheirDebug_keeps (L : Live) :
    (Live.endTheirDebug L).ks.edit = L.ks.edit ∧
    (Live.endTheirDebug L).ks.epoch = L.ks.epoch := by
  simp only [Live.endTheirDebug, Live.queueWrite]
  (repeat' split) <;> simp

theorem Live.answerLost_keeps (L : Live) :
    (Live.answerLost L).ks.edit = L.ks.edit ∧
    (Live.answerLost L).ks.epoch = L.ks.epoch := by
  have h0 := @Live.answerForwarded_keeps
  have h1 := @Live.endTheirDebug_keeps
  simp [Live.answerLost, h0, h1]

theorem Live.partnerGone_keeps (L : Live) :
    (Live.partnerGone L).saf.supplyLoss = L.saf.supplyLoss ∧
    (Live.partnerGone L).saf.fastLatch = L.saf.fastLatch ∧
    (Live.partnerGone L).saf.hazard = L.saf.hazard ∧
    (Live.partnerGone L).saf.precharge = L.saf.precharge ∧
    (Live.partnerGone L).saf.ownCmd = L.saf.ownCmd ∧
    (Live.partnerGone L).saf.pairs = L.saf.pairs ∧
    (Live.partnerGone L).saf.eA = L.saf.eA ∧
    (Live.partnerGone L).saf.eB = L.saf.eB ∧
    (Live.partnerGone L).twin.holds = L.twin.holds ∧
    (Live.partnerGone L).twin.gen = L.twin.gen ∧
    (Live.partnerGone L).twin.p = L.twin.p ∧
    (Live.partnerGone L).twin.check = L.twin.check := by
  have h0 := @Live.endFollow_frame
  simp [Live.partnerGone, h0]

theorem Live.startCheck_keeps (L : Live) (kind : Nat) :
    (Live.startCheck L kind).twin.holds = L.twin.holds ∧
    (Live.startCheck L kind).twin.pair = L.twin.pair ∧
    (Live.startCheck L kind).twin.gen = L.twin.gen ∧
    (Live.startCheck L kind).twin.p = L.twin.p ∧
    (Live.startCheck L kind).twin.transfer = L.twin.transfer := by
  have h0 := @Live.twinEv_frame
  simp [Live.startCheck, h0]

theorem Live.takeNotice_keeps (L : Live) (d : Bytes) :
    (Live.takeNotice L d).saf.supplyLoss = L.saf.supplyLoss ∧
    (Live.takeNotice L d).saf.fastLatch = L.saf.fastLatch ∧
    (Live.takeNotice L d).saf.hazard = L.saf.hazard ∧
    (Live.takeNotice L d).saf.precharge = L.saf.precharge ∧
    (Live.takeNotice L d).saf.ownCmd = L.saf.ownCmd ∧
    (Live.takeNotice L d).saf.pairs = L.saf.pairs ∧
    (Live.takeNotice L d).saf.eA = L.saf.eA ∧
    (Live.takeNotice L d).saf.eB = L.saf.eB ∧
    (Live.takeNotice L d).twin.holds = L.twin.holds ∧
    (Live.takeNotice L d).twin.gen = L.twin.gen ∧
    (Live.takeNotice L d).ks.edit = L.ks.edit ∧
    (Live.takeNotice L d).ks.epoch = L.ks.epoch := by
  have h0 := @Live.takeIdentity7_frame
  have h1 := @Live.takeIdentity7_keeps
  have h2 := @Live.startCheck_frame
  have h3 := @Live.startCheck_keeps
  have h4 := @Live.answerLost_frame
  have h5 := @Live.partnerGone_keeps
  have h6 := @Live.leaveStep_frame
  have h7 := @Live.leaveStep_keeps
  have h8 := @Live.answerLost_keeps
  have h9 := @Live.partnerGone_frame
  have h10 := @Live.partnerConfirms_frame
  have h11 := @Live.partnerFellBack_frame
  simp only [Live.takeNotice]
  (repeat' split) <;> simp [h0, h1, h2, h3, h4, h5, h6, h7, h8, h9, h10, h11]

theorem Live.takeVerdicts_keeps (L : Live) (d : Bytes) :
    (Live.takeVerdicts L d).twin.holds = L.twin.holds ∧
    (Live.takeVerdicts L d).twin.pair = L.twin.pair ∧
    (Live.takeVerdicts L d).twin.gen = L.twin.gen ∧
    (Live.takeVerdicts L d).twin.p = L.twin.p ∧
    (Live.takeVerdicts L d).twin.transfer = L.twin.transfer ∧
    (Live.takeVerdicts L d).twin.check = L.twin.check := by
  simp [Live.takeVerdicts]

theorem Live.takeItem_keeps (snap L : Live) (c : Nat) (d : Bytes) :
    (Live.takeItem snap L c d).mode.booted = L.mode.booted ∧
    (Live.takeItem snap L c d).mode.listening = L.mode.listening ∧
    (Live.takeItem snap L c d).mode.quarryEntry = L.mode.quarryEntry ∧
    (Live.takeItem snap L c d).pins.aux1 = L.pins.aux1 ∧
    (Live.takeItem snap L c d).pins.aux2 = L.pins.aux2 ∧
    (Live.takeItem snap L c d).pins.auxSince = L.pins.auxSince ∧
    (Live.takeItem snap L c d).pins.holdup = L.pins.holdup ∧
    (Live.takeItem snap L c d).pins.quarryRelays = L.pins.quarryRelays ∧
    (Live.takeItem snap L c d).pins.fbKpOpen = L.pins.fbKpOpen ∧
    (Live.takeItem snap L c d).pins.fbKnOpen = L.pins.fbKnOpen ∧
    (Live.takeItem snap L c d).pins.sswOpen = L.pins.sswOpen ∧
    (Live.takeItem snap L c d).saf.supplyLoss = L.saf.supplyLoss ∧
    (Live.takeItem snap L c d).saf.fastLatch = L.saf.fastLatch ∧
    (Live.takeItem snap L c d).saf.precharge = L.saf.precharge ∧
    (Live.takeItem snap L c d).saf.pairs = L.saf.pairs ∧
    (Live.takeItem snap L c d).saf.eA = L.saf.eA ∧
    (Live.takeItem snap L c d).saf.eB = L.saf.eB ∧
    (Live.takeItem snap L c d).twin.gen = L.twin.gen ∧
    (Live.takeItem snap L c d).ks.epoch = L.ks.epoch := by
  have h0 := @Live.takeRequest_frame
  have h1 := @Live.takeRequest_keeps
  have h2 := @Live.takeVerdicts_frame
  have h3 := @Live.takeVerdicts_keeps
  have h4 := @Live.takeReadItem_frame
  have h5 := @Live.takeReadItem_keeps
  have h6 := @Live.takeMgrItem_frame
  have h7 := @Live.takeEntry_keeps
  have h8 := @Live.takeEntry_frame
  have h9 := @Live.takeNotice_frame
  have h10 := @Live.takeNotice_keeps
  simp only [Live.takeItem]
  (repeat' split) <;> simp [h0, h1, h2, h3, h4, h5, h6, h7, h8, h9, h10]

theorem Live.takeBulk_keeps (snap L : Live) (f : Bytes) :
    (Live.takeBulk snap L f).mode.booted = L.mode.booted ∧
    (Live.takeBulk snap L f).mode.listening = L.mode.listening ∧
    (Live.takeBulk snap L f).mode.quarryEntry = L.mode.quarryEntry ∧
    (Live.takeBulk snap L f).pins.aux1 = L.pins.aux1 ∧
    (Live.takeBulk snap L f).pins.aux2 = L.pins.aux2 ∧
    (Live.takeBulk snap L f).pins.auxSince = L.pins.auxSince ∧
    (Live.takeBulk snap L f).pins.holdup = L.pins.holdup ∧
    (Live.takeBulk snap L f).pins.quarryRelays = L.pins.quarryRelays ∧
    (Live.takeBulk snap L f).pins.fbKpOpen = L.pins.fbKpOpen ∧
    (Live.takeBulk snap L f).pins.fbKnOpen = L.pins.fbKnOpen ∧
    (Live.takeBulk snap L f).pins.sswOpen = L.pins.sswOpen ∧
    (Live.takeBulk snap L f).saf.supplyLoss = L.saf.supplyLoss ∧
    (Live.takeBulk snap L f).saf.fastLatch = L.saf.fastLatch ∧
    (Live.takeBulk snap L f).saf.precharge = L.saf.precharge ∧
    (Live.takeBulk snap L f).saf.pairs = L.saf.pairs ∧
    (Live.takeBulk snap L f).saf.eA = L.saf.eA ∧
    (Live.takeBulk snap L f).saf.eB = L.saf.eB ∧
    (Live.takeBulk snap L f).twin.gen = L.twin.gen ∧
    (Live.takeBulk snap L f).ks.epoch = L.ks.epoch := by
  have h0 := @Live.takeItem_keeps
  simp only [Live.takeBulk]
  (repeat' split) <;> simp [h0]

end Sys2Proof.Machine
end

