-- ==== Sys2Proof/Laws/KeepDebug.lean ====
section
/-! SUPPORT. Single registers that the operations of Machine/Debug.lean leave as they are. -/

namespace Sys2Proof.Machine

open Sys2Proof

theorem Live.commitLater_keeps (L : Live) (tag : Byte) (k : Nat) (v : Bytes) :
    (Live.commitLater L tag k v).twin.holds = L.twin.holds ∧
    (Live.commitLater L tag k v).twin.pair = L.twin.pair ∧
    (Live.commitLater L tag k v).twin.gen = L.twin.gen ∧
    (Live.commitLater L tag k v).twin.p = L.twin.p ∧
    (Live.commitLater L tag k v).twin.transfer = L.twin.transfer ∧
    (Live.commitLater L tag k v).twin.check = L.twin.check ∧
    (Live.commitLater L tag k v).ks.edit = L.ks.edit ∧
    (Live.commitLater L tag k v).ks.epoch = L.ks.epoch := by
  have h0 := @Live.respond_frame
  have h1 := @Live.passOn_keeps
  have h2 := @Live.awaits_frame
  have h3 := @Live.queueDebug_keeps
  simp [Live.commitLater, h0, h1, h2, h3]

theorem Live.endDebug_keeps (L : Live) (cause : Nat) :
    (Live.endDebug L cause).twin.holds = L.twin.holds ∧
    (Live.endDebug L cause).twin.pair = L.twin.pair ∧
    (Live.endDebug L cause).twin.gen = L.twin.gen ∧
    (Live.endDebug L cause).twin.p = L.twin.p ∧
    (Live.endDebug L cause).twin.transfer = L.twin.transfer ∧
    (Live.endDebug L cause).twin.check = L.twin.check ∧
    (Live.endDebug L cause).ks.epoch = L.ks.epoch := by
  have h0 := @Live.endSession_frame
  have h1 := @Live.forward_frame
  have h2 := @Live.queueDebug_frame
  have h3 := @Live.forward_keeps
  have h4 := @Live.queueDebug_keeps
  have h5 := @Live.endSession_keeps
  simp [Live.endDebug, h0, h1, h2, h3, h4, h5]

end Sys2Proof.Machine
end

