-- ==== Sys2Proof/Laws/KeepPower.lean ====
section
/-! SUPPORT. Single registers that the operations of Machine/Power.lean leave as they are. -/

namespace Sys2Proof.Machine

open Sys2Proof

theorem Live.auxLost_keeps (L : Live) :
    (Live.auxLost L).mode.booted = L.mode.booted ∧
    (Live.auxLost L).mode.listening = L.mode.listening ∧
    (Live.auxLost L).mode.quarryEntry = L.mode.quarryEntry ∧
    (Live.auxLost L).pins.aux1 = L.pins.aux1 ∧
    (Live.auxLost L).pins.aux2 = L.pins.aux2 ∧
    (Live.auxLost L).pins.auxSince = L.pins.auxSince ∧
    (Live.auxLost L).pins.holdup = L.pins.holdup ∧
    (Live.auxLost L).pins.elementOpen = L.pins.elementOpen ∧
    (Live.auxLost L).pins.elemA = L.pins.elemA ∧
    (Live.auxLost L).pins.elemB = L.pins.elemB ∧
    (Live.auxLost L).pins.quarryRelays = L.pins.quarryRelays ∧
    (Live.auxLost L).pins.fbKpOpen = L.pins.fbKpOpen ∧
    (Live.auxLost L).pins.fbKnOpen = L.pins.fbKnOpen ∧
    (Live.auxLost L).pins.sswOpen = L.pins.sswOpen ∧
    (Live.auxLost L).saf.fastLatch = L.saf.fastLatch ∧
    (Live.auxLost L).saf.hazard = L.saf.hazard ∧
    (Live.auxLost L).saf.precharge = L.saf.precharge ∧
    (Live.auxLost L).saf.pairs = L.saf.pairs ∧
    (Live.auxLost L).saf.eA = L.saf.eA ∧
    (Live.auxLost L).saf.eB = L.saf.eB ∧
    (Live.auxLost L).twin.holds = L.twin.holds ∧
    (Live.auxLost L).twin.pair = L.twin.pair ∧
    (Live.auxLost L).twin.gen = L.twin.gen ∧
    (Live.auxLost L).twin.p = L.twin.p ∧
    (Live.auxLost L).twin.transfer = L.twin.transfer ∧
    (Live.auxLost L).twin.check = L.twin.check := by
  have h0 := @Live.openLoop_frame
  have h1 := @Live.requestHandover_frame
  have h2 := @Live.supplyLossSafe_keeps
  have h3 := @Live.openLoop_keeps
  have h4 := @Live.supplyLossSafe_frame
  have h5 := @Live.requestHandover_keeps
  simp [Live.auxLost, h0, h1, h2, h3, h4, h5]

end Sys2Proof.Machine
end

