-- ==== Sys2Proof/Laws/KeepSafRows.lean ====
section
/-! SUPPORT. Single registers that the operations of Machine/SafRows.lean leave as they are. -/

namespace Sys2Proof.Machine

open Sys2Proof

theorem Live.heartbeatWord_keeps (L : Live) (beat : Option Nat) :
    (Live.heartbeatWord L beat).mode.booted = L.mode.booted ∧
    (Live.heartbeatWord L beat).mode.listening = L.mode.listening ∧
    (Live.heartbeatWord L beat).mode.quarryEntry = L.mode.quarryEntry ∧
    (Live.heartbeatWord L beat).pins.aux1 = L.pins.aux1 ∧
    (Live.heartbeatWord L beat).pins.aux2 = L.pins.aux2 ∧
    (Live.heartbeatWord L beat).pins.auxSince = L.pins.auxSince ∧
    (Live.heartbeatWord L beat).pins.holdup = L.pins.holdup ∧
    (Live.heartbeatWord L beat).pins.quarryRelays = L.pins.quarryRelays ∧
    (Live.heartbeatWord L beat).pins.fbKpOpen = L.pins.fbKpOpen ∧
    (Live.heartbeatWord L beat).pins.fbKnOpen = L.pins.fbKnOpen ∧
    (Live.heartbeatWord L beat).pins.sswOpen = L.pins.sswOpen ∧
    (Live.heartbeatWord L beat).saf.supplyLoss = L.saf.supplyLoss ∧
    (Live.heartbeatWord L beat).saf.fastLatch = L.saf.fastLatch ∧
    (Live.heartbeatWord L beat).saf.precharge = L.saf.precharge ∧
    (Live.heartbeatWord L beat).saf.pairs = L.saf.pairs ∧
    (Live.heartbeatWord L beat).saf.eA = L.saf.eA ∧
    (Live.heartbeatWord L beat).saf.eB = L.saf.eB ∧
    (Live.heartbeatWord L beat).twin.pair = L.twin.pair ∧
    (Live.heartbeatWord L beat).twin.gen = L.twin.gen ∧
    (Live.heartbeatWord L beat).twin.p = L.twin.p ∧
    (Live.heartbeatWord L beat).twin.transfer = L.twin.transfer ∧
    (Live.heartbeatWord L beat).twin.check = L.twin.check := by
  have h0 := @Live.sf12_keeps
  simp [Live.heartbeatWord, h0]

theorem Live.holdoffEnds_keeps (L : Live) :
    (Live.holdoffEnds L).mode.pendEnable = L.mode.pendEnable ∧
    (Live.holdoffEnds L).mode.booted = L.mode.booted ∧
    (Live.holdoffEnds L).mode.listening = L.mode.listening ∧
    (Live.holdoffEnds L).mode.quarryEntry = L.mode.quarryEntry ∧
    (Live.holdoffEnds L).pins.aux1 = L.pins.aux1 ∧
    (Live.holdoffEnds L).pins.aux2 = L.pins.aux2 ∧
    (Live.holdoffEnds L).pins.auxSince = L.pins.auxSince ∧
    (Live.holdoffEnds L).pins.holdup = L.pins.holdup ∧
    (Live.holdoffEnds L).pins.elementOpen = L.pins.elementOpen ∧
    (Live.holdoffEnds L).pins.elemA = L.pins.elemA ∧
    (Live.holdoffEnds L).pins.elemB = L.pins.elemB ∧
    (Live.holdoffEnds L).pins.quarryRelays = L.pins.quarryRelays ∧
    (Live.holdoffEnds L).pins.fbKpOpen = L.pins.fbKpOpen ∧
    (Live.holdoffEnds L).pins.fbKnOpen = L.pins.fbKnOpen ∧
    (Live.holdoffEnds L).pins.sswOpen = L.pins.sswOpen ∧
    (Live.holdoffEnds L).saf.supplyLoss = L.saf.supplyLoss ∧
    (Live.holdoffEnds L).saf.fastLatch = L.saf.fastLatch ∧
    (Live.holdoffEnds L).saf.precharge = L.saf.precharge ∧
    (Live.holdoffEnds L).saf.pairs = L.saf.pairs ∧
    (Live.holdoffEnds L).saf.eA = L.saf.eA ∧
    (Live.holdoffEnds L).saf.eB = L.saf.eB := by
  have h0 := @Live.setPath_frame
  have h1 := @Live.seqOn_keeps
  have h2 := @Live.toStep2_keeps
  have h3 := @Live.setPath_keeps
  have h4 := @Live.toStep2_frame
  simp [Live.holdoffEnds, h0, h1, h2, h3, h4]

theorem Live.pulseFeedback_keeps (L : Live) (neg own low : Bool) :
    (Live.pulseFeedback L neg own low).mode.booted = L.mode.booted ∧
    (Live.pulseFeedback L neg own low).mode.listening = L.mode.listening ∧
    (Live.pulseFeedback L neg own low).mode.quarryEntry = L.mode.quarryEntry ∧
    (Live.pulseFeedback L neg own low).pins.aux1 = L.pins.aux1 ∧
    (Live.pulseFeedback L neg own low).pins.aux2 = L.pins.aux2 ∧
    (Live.pulseFeedback L neg own low).pins.auxSince = L.pins.auxSince ∧
    (Live.pulseFeedback L neg own low).pins.holdup = L.pins.holdup ∧
    (Live.pulseFeedback L neg own low).pins.quarryRelays = L.pins.quarryRelays ∧
    (Live.pulseFeedback L neg own low).pins.fbKpOpen = L.pins.fbKpOpen ∧
    (Live.pulseFeedback L neg own low).pins.fbKnOpen = L.pins.fbKnOpen ∧
    (Live.pulseFeedback L neg own low).pins.sswOpen = L.pins.sswOpen ∧
    (Live.pulseFeedback L neg own low).saf.supplyLoss = L.saf.supplyLoss ∧
    (Live.pulseFeedback L neg own low).saf.fastLatch = L.saf.fastLatch ∧
    (Live.pulseFeedback L neg own low).saf.precharge = L.saf.precharge ∧
    (Live.pulseFeedback L neg own low).saf.pairs = L.saf.pairs ∧
    (Live.pulseFeedback L neg own low).saf.eA = L.saf.eA ∧
    (Live.pulseFeedback L neg own low).saf.eB = L.saf.eB ∧
    (Live.pulseFeedback L neg own low).twin.pair = L.twin.pair ∧
    (Live.pulseFeedback L neg own low).twin.gen = L.twin.gen ∧
    (Live.pulseFeedback L neg own low).twin.p = L.twin.p ∧
    (Live.pulseFeedback L neg own low).twin.transfer = L.twin.transfer ∧
    (Live.pulseFeedback L neg own low).twin.check = L.twin.check := by
  have h0 := @Live.sf09_keeps
  simp [Live.pulseFeedback, h0]

end Sys2Proof.Machine
end

