-- ==== Sys2Proof/Laws/KeepTwin.lean ====
section
/-! SUPPORT. Single registers that the operations of Machine/Twin.lean leave as they are. -/

namespace Sys2Proof.Machine

open Sys2Proof

theorem Live.fibre_keeps (L : Live) (path copy : Nat) :
    (Live.fibre L path copy).twin.holds = L.twin.holds ∧
    (Live.fibre L path copy).twin.pair = L.twin.pair ∧
    (Live.fibre L path copy).twin.gen = L.twin.gen ∧
    (Live.fibre L path copy).twin.p = L.twin.p ∧
    (Live.fibre L path copy).twin.transfer = L.twin.transfer ∧
    (Live.fibre L path copy).twin.check = L.twin.check := by
  have h0 := @Live.twinEv_frame
  simp [Live.fibre, h0]

theorem Live.storeFrame_keeps (L : Live) (f : Bytes) :
    (Live.storeFrame L f).twin.holds = L.twin.holds ∧
    (Live.storeFrame L f).twin.pair = L.twin.pair ∧
    (Live.storeFrame L f).twin.gen = L.twin.gen ∧
    (Live.storeFrame L f).twin.transfer = L.twin.transfer ∧
    (Live.storeFrame L f).twin.check = L.twin.check := by
  simp [Live.storeFrame]

theorem Live.partnerOff_keeps (L : Live) :
    (Live.partnerOff L).saf.supplyLoss = L.saf.supplyLoss ∧
    (Live.partnerOff L).saf.fastLatch = L.saf.fastLatch ∧
    (Live.partnerOff L).saf.hazard = L.saf.hazard ∧
    (Live.partnerOff L).saf.precharge = L.saf.precharge ∧
    (Live.partnerOff L).saf.ownCmd = L.saf.ownCmd ∧
    (Live.partnerOff L).saf.pairs = L.saf.pairs ∧
    (Live.partnerOff L).saf.eA = L.saf.eA ∧
    (Live.partnerOff L).saf.eB = L.saf.eB := by
  simp [Live.partnerOff]

theorem Live.forwardedWords_keeps (L : Live) (f : Bytes) :
    (Live.forwardedWords L f).saf.supplyLoss = L.saf.supplyLoss ∧
    (Live.forwardedWords L f).saf.fastLatch = L.saf.fastLatch ∧
    (Live.forwardedWords L f).saf.hazard = L.saf.hazard ∧
    (Live.forwardedWords L f).saf.precharge = L.saf.precharge ∧
    (Live.forwardedWords L f).saf.ownCmd = L.saf.ownCmd ∧
    (Live.forwardedWords L f).saf.pairs = L.saf.pairs ∧
    (Live.forwardedWords L f).saf.eA = L.saf.eA ∧
    (Live.forwardedWords L f).saf.eB = L.saf.eB := by
  have h0 := @Live.modWatch_keeps
  simp [Live.forwardedWords, h0]

theorem Live.refusePair_keeps (L : Live) (check : Nat) :
    (Live.refusePair L check).twin.holds = L.twin.holds ∧
    (Live.refusePair L check).twin.gen = L.twin.gen ∧
    (Live.refusePair L check).twin.p = L.twin.p ∧
    (Live.refusePair L check).twin.transfer = L.twin.transfer ∧
    (Live.refusePair L check).twin.check = L.twin.check := by
  have h0 := @Live.twinEv_frame
  simp [Live.refusePair, h0]

theorem Live.passPair_keeps (L : Live) (f : Bytes) :
    (Live.passPair L f).twin.holds = L.twin.holds ∧
    (Live.passPair L f).twin.gen = L.twin.gen ∧
    (Live.passPair L f).twin.p = L.twin.p ∧
    (Live.passPair L f).twin.check = L.twin.check := by
  simp [Live.passPair]

theorem Live.enterStep_keeps (L : Live) :
    (Live.enterStep L).saf.supplyLoss = L.saf.supplyLoss ∧
    (Live.enterStep L).saf.fastLatch = L.saf.fastLatch ∧
    (Live.enterStep L).saf.hazard = L.saf.hazard ∧
    (Live.enterStep L).saf.precharge = L.saf.precharge ∧
    (Live.enterStep L).saf.ownCmd = L.saf.ownCmd ∧
    (Live.enterStep L).saf.pairs = L.saf.pairs ∧
    (Live.enterStep L).saf.eA = L.saf.eA ∧
    (Live.enterStep L).saf.eB = L.saf.eB ∧
    (Live.enterStep L).twin.holds = L.twin.holds ∧
    (Live.enterStep L).twin.gen = L.twin.gen ∧
    (Live.enterStep L).twin.p = L.twin.p ∧
    (Live.enterStep L).twin.check = L.twin.check := by
  have h0 := @Live.twinEv_frame
  simp only [Live.enterStep]
  (repeat' split) <;> simp [h0]

theorem Live.dropStep_keeps (L : Live) (cause : Nat) :
    (Live.dropStep L cause).twin.holds = L.twin.holds ∧
    (Live.dropStep L cause).twin.gen = L.twin.gen ∧
    (Live.dropStep L cause).twin.p = L.twin.p ∧
    (Live.dropStep L cause).twin.check = L.twin.check := by
  have h0 := @Live.leaveStep_keeps
  simp [Live.dropStep, h0]

theorem Live.pairStep_keeps (L : Live) (f : Bytes) (old : Nat) :
    (Live.pairStep L f old).saf.supplyLoss = L.saf.supplyLoss ∧
    (Live.pairStep L f old).saf.fastLatch = L.saf.fastLatch ∧
    (Live.pairStep L f old).saf.hazard = L.saf.hazard ∧
    (Live.pairStep L f old).saf.precharge = L.saf.precharge ∧
    (Live.pairStep L f old).saf.ownCmd = L.saf.ownCmd ∧
    (Live.pairStep L f old).saf.pairs = L.saf.pairs ∧
    (Live.pairStep L f old).saf.eA = L.saf.eA ∧
    (Live.pairStep L f old).saf.eB = L.saf.eB ∧
    (Live.pairStep L f old).twin.holds = L.twin.holds ∧
    (Live.pairStep L f old).twin.gen = L.twin.gen ∧
    (Live.pairStep L f old).twin.p = L.twin.p ∧
    (Live.pairStep L f old).twin.check = L.twin.check := by
  have h0 := @Live.enterStep_keeps
  have h1 := @Live.leaveStep_frame
  have h2 := @Live.leaveStep_keeps
  have h3 := @Live.passPair_frame
  have h4 := @Live.passPair_keeps
  have h5 := @Live.refusePair_frame
  have h6 := @Live.refusePair_keeps
  simp only [Live.pairStep]
  (repeat' split) <;> simp [h0, h1, h2, h3, h4, h5, h6]

theorem Live.compared_keeps (L : Live) (kind : Nat) (ok : Bool) :
    (Live.compared L kind ok).twin.holds = L.twin.holds ∧
    (Live.compared L kind ok).twin.pair = L.twin.pair ∧
    (Live.compared L kind ok).twin.gen = L.twin.gen ∧
    (Live.compared L kind ok).twin.p = L.twin.p ∧
    (Live.compared L kind ok).twin.transfer = L.twin.transfer := by
  have h0 := @Live.startCheck_keeps
  have h1 := @Live.toPartner_keeps
  simp [Live.compared, h0, h1]

theorem Live.cmpState_keeps (L : Live) (f : Bytes) :
    (Live.cmpState L f).twin.holds = L.twin.holds ∧
    (Live.cmpState L f).twin.pair = L.twin.pair ∧
    (Live.cmpState L f).twin.gen = L.twin.gen ∧
    (Live.cmpState L f).twin.p = L.twin.p ∧
    (Live.cmpState L f).twin.transfer = L.twin.transfer := by
  have h0 := @Live.compared_keeps
  simp [Live.cmpState, h0]

theorem Live.cmpSweep_keeps (L : Live) (f : Bytes) :
    (Live.cmpSweep L f).twin.holds = L.twin.holds ∧
    (Live.cmpSweep L f).twin.pair = L.twin.pair ∧
    (Live.cmpSweep L f).twin.gen = L.twin.gen ∧
    (Live.cmpSweep L f).twin.p = L.twin.p ∧
    (Live.cmpSweep L f).twin.transfer = L.twin.transfer := by
  have h0 := @Live.compared_keeps
  simp [Live.cmpSweep, h0]

theorem Live.cmpArrangement_keeps (L : Live) (f : Bytes) :
    (Live.cmpArrangement L f).twin.holds = L.twin.holds ∧
    (Live.cmpArrangement L f).twin.pair = L.twin.pair ∧
    (Live.cmpArrangement L f).twin.gen = L.twin.gen ∧
    (Live.cmpArrangement L f).twin.p = L.twin.p ∧
    (Live.cmpArrangement L f).twin.transfer = L.twin.transfer := by
  have h0 := @Live.adoptArrangement_frame
  have h1 := @Live.compared_keeps
  simp [Live.cmpArrangement, h0, h1]

theorem Live.takeShared_keeps (L : Live) (f : Bytes) :
    (Live.takeShared L f).twin.holds = L.twin.holds ∧
    (Live.takeShared L f).twin.pair = L.twin.pair ∧
    (Live.takeShared L f).twin.gen = L.twin.gen ∧
    (Live.takeShared L f).twin.p = L.twin.p ∧
    (Live.takeShared L f).twin.transfer = L.twin.transfer ∧
    (Live.takeShared L f).twin.check = L.twin.check := by
  have h0 := @Live.shareStep_frame
  have h1 := @Live.shareOwn_frame
  simp [Live.takeShared, h0, h1]

theorem Live.compareFrame_keeps (L : Live) (f : Bytes) :
    (Live.compareFrame L f).twin.holds = L.twin.holds ∧
    (Live.compareFrame L f).twin.pair = L.twin.pair ∧
    (Live.compareFrame L f).twin.gen = L.twin.gen ∧
    (Live.compareFrame L f).twin.p = L.twin.p ∧
    (Live.compareFrame L f).twin.transfer = L.twin.transfer := by
  have h0 := @Live.cmpUplinks_frame
  have h1 := @Live.cmpSweep_keeps
  have h2 := @Live.cmpState_keeps
  have h3 := @Live.cmpArrangement_keeps
  simp [Live.compareFrame, h0, h1, h2, h3]

theorem Live.obeyFrame_keeps (L : Live) :
    (Live.obeyFrame L).mode.booted = L.mode.booted ∧
    (Live.obeyFrame L).mode.listening = L.mode.listening ∧
    (Live.obeyFrame L).mode.quarryEntry = L.mode.quarryEntry ∧
    (Live.obeyFrame L).pins.aux1 = L.pins.aux1 ∧
    (Live.obeyFrame L).pins.aux2 = L.pins.aux2 ∧
    (Live.obeyFrame L).pins.auxSince = L.pins.auxSince ∧
    (Live.obeyFrame L).pins.holdup = L.pins.holdup ∧
    (Live.obeyFrame L).pins.quarryRelays = L.pins.quarryRelays ∧
    (Live.obeyFrame L).pins.fbKpOpen = L.pins.fbKpOpen ∧
    (Live.obeyFrame L).pins.fbKnOpen = L.pins.fbKnOpen ∧
    (Live.obeyFrame L).pins.sswOpen = L.pins.sswOpen ∧
    (Live.obeyFrame L).saf.supplyLoss = L.saf.supplyLoss ∧
    (Live.obeyFrame L).saf.fastLatch = L.saf.fastLatch ∧
    (Live.obeyFrame L).saf.precharge = L.saf.precharge ∧
    (Live.obeyFrame L).saf.pairs = L.saf.pairs ∧
    (Live.obeyFrame L).saf.eA = L.saf.eA ∧
    (Live.obeyFrame L).saf.eB = L.saf.eB ∧
    (Live.obeyFrame L).twin.pair = L.twin.pair ∧
    (Live.obeyFrame L).twin.gen = L.twin.gen ∧
    (Live.obeyFrame L).twin.p = L.twin.p ∧
    (Live.obeyFrame L).twin.transfer = L.twin.transfer ∧
    (Live.obeyFrame L).twin.check = L.twin.check := by
  have h0 := @Live.updExpect_frame
  have h1 := @Live.endObeyed_frame
  have h2 := @Live.setFast_frame
  have h3 := @Live.obeyNamed_keeps
  have h4 := @Live.setFast_keeps
  have h5 := @Live.endObeyed_keeps
  have h6 := @Live.updExpect_keeps
  simp [Live.obeyFrame, h0, h1, h2, h3, h4, h5, h6]

theorem Live.acceptHandover_keeps (L : Live) :
    (Live.acceptHandover L).twin.holds = L.twin.holds ∧
    (Live.acceptHandover L).twin.pair = L.twin.pair ∧
    (Live.acceptHandover L).twin.p = L.twin.p ∧
    (Live.acceptHandover L).twin.transfer = L.twin.transfer ∧
    (Live.acceptHandover L).twin.check = L.twin.check := by
  have h0 := @Live.disarmIsland_frame
  simp [Live.acceptHandover, h0]

theorem Live.tokenFrame_keeps (L : Live) :
    (Live.tokenFrame L).twin.holds = L.twin.holds ∧
    (Live.tokenFrame L).twin.pair = L.twin.pair ∧
    (Live.tokenFrame L).twin.p = L.twin.p ∧
    (Live.tokenFrame L).twin.transfer = L.twin.transfer ∧
    (Live.tokenFrame L).twin.check = L.twin.check := by
  have h0 := @Live.acceptHandover_keeps
  have h1 := @Live.acceptHandover_frame
  simp [Live.tokenFrame, h0, h1]

theorem Live.timeFrame_keeps (L : Live) :
    (Live.timeFrame L).time.mtime = L.time.mtime ∧
    (Live.timeFrame L).time.clk = L.time.clk := by
  have h0 := @Live.endFollow_frame
  have h1 := @Live.useOffset_keeps
  simp [Live.timeFrame, h0, h1]

theorem Live.dropDecided_keeps (L : Live) (n : Nat) :
    (Live.dropDecided L n).twin.holds = L.twin.holds ∧
    (Live.dropDecided L n).twin.pair = L.twin.pair ∧
    (Live.dropDecided L n).twin.gen = L.twin.gen ∧
    (Live.dropDecided L n).twin.p = L.twin.p ∧
    (Live.dropDecided L n).twin.transfer = L.twin.transfer ∧
    (Live.dropDecided L n).twin.check = L.twin.check := by
  simp [Live.dropDecided]

theorem Live.noteSure_keeps (L : Live) (ps : List Pend) :
    (Live.noteSure L ps).ks.edit = L.ks.edit ∧
    (Live.noteSure L ps).ks.epoch = L.ks.epoch ∧
    (Live.noteSure L ps).ks.pend = L.ks.pend := by
  simp [Live.noteSure]

theorem Live.recordFails_keeps (L : Live) (n : Nat) :
    (Live.recordFails L n).twin.holds = L.twin.holds ∧
    (Live.recordFails L n).twin.gen = L.twin.gen ∧
    (Live.recordFails L n).twin.p = L.twin.p ∧
    (Live.recordFails L n).twin.check = L.twin.check := by
  have h0 := @Live.dropStep_keeps
  have h1 := @Live.twinEv_frame
  have h2 := @Live.dropDecided_keeps
  simp [Live.recordFails, h0, h1, h2]

theorem Live.holdRecord_keeps (L : Live) (epoch n crc : Nat) (bits : List Bool) :
    (Live.holdRecord L epoch n crc bits).twin.holds = L.twin.holds ∧
    (Live.holdRecord L epoch n crc bits).twin.gen = L.twin.gen ∧
    (Live.holdRecord L epoch n crc bits).twin.p = L.twin.p ∧
    (Live.holdRecord L epoch n crc bits).twin.check = L.twin.check := by
  have h0 := @Live.recordFails_keeps
  have h1 := @Live.dropDecided_keeps
  simp only [Live.holdRecord]
  (repeat' split) <;> simp [h0, h1]

theorem Live.takeover_keeps (L : Live) :
    (Live.takeover L).pins.aux1 = L.pins.aux1 ∧
    (Live.takeover L).pins.aux2 = L.pins.aux2 ∧
    (Live.takeover L).pins.auxSince = L.pins.auxSince ∧
    (Live.takeover L).pins.holdup = L.pins.holdup ∧
    (Live.takeover L).pins.contactA = L.pins.contactA ∧
    (Live.takeover L).pins.contactB = L.pins.contactB ∧
    (Live.takeover L).pins.elementOpen = L.pins.elementOpen ∧
    (Live.takeover L).pins.elemA = L.pins.elemA ∧
    (Live.takeover L).pins.elemB = L.pins.elemB ∧
    (Live.takeover L).pins.quarryRelays = L.pins.quarryRelays ∧
    (Live.takeover L).pins.fbKpOpen = L.pins.fbKpOpen ∧
    (Live.takeover L).pins.fbKnOpen = L.pins.fbKnOpen ∧
    (Live.takeover L).pins.sswOpen = L.pins.sswOpen ∧
    (Live.takeover L).saf.supplyLoss = L.saf.supplyLoss ∧
    (Live.takeover L).saf.fastLatch = L.saf.fastLatch ∧
    (Live.takeover L).saf.hazard = L.saf.hazard ∧
    (Live.takeover L).saf.precharge = L.saf.precharge ∧
    (Live.takeover L).saf.ownCmd = L.saf.ownCmd ∧
    (Live.takeover L).saf.pairs = L.saf.pairs ∧
    (Live.takeover L).saf.eA = L.saf.eA ∧
    (Live.takeover L).saf.eB = L.saf.eB ∧
    (Live.takeover L).twin.p = L.twin.p ∧
    (Live.takeover L).time.mtime = L.time.mtime ∧
    (Live.takeover L).time.clk = L.time.clk ∧
    (Live.takeover L).ks.edit = L.ks.edit ∧
    (Live.takeover L).ks.epoch = L.ks.epoch := by
  have h0 := @Live.disarmIsland_frame
  have h1 := @Live.answerLost_frame
  have h2 := @Live.partnerGone_frame
  have h3 := @Live.twinEv_frame
  have h4 := @Live.partnerGone_keeps
  have h5 := @Live.dueThresholds_frame
  have h6 := @Live.insRelay_frame
  have h7 := @Live.updLead_frame
  have h8 := @Live.replay_frame
  have h9 := @Live.insRelay_keeps
  have h10 := @Live.setFast_keeps
  have h11 := @Live.setFast_frame
  have h12 := @Live.dueThresholds_keeps
  have h13 := @Live.updLead_keeps
  have h14 := @Live.replay_keeps
  have h15 := @Live.answerLost_keeps
  simp [Live.takeover, h0, h1, h2, h3, h4, h5, h6, h7, h8, h9, h10, h11, h12, h13, h14, h15]

theorem Live.lostUnfollowed_keeps (L : Live) :
    (Live.lostUnfollowed L).pins.aux1 = L.pins.aux1 ∧
    (Live.lostUnfollowed L).pins.aux2 = L.pins.aux2 ∧
    (Live.lostUnfollowed L).pins.auxSince = L.pins.auxSince ∧
    (Live.lostUnfollowed L).pins.holdup = L.pins.holdup ∧
    (Live.lostUnfollowed L).pins.contactA = L.pins.contactA ∧
    (Live.lostUnfollowed L).pins.contactB = L.pins.contactB ∧
    (Live.lostUnfollowed L).pins.elementOpen = L.pins.elementOpen ∧
    (Live.lostUnfollowed L).pins.elemA = L.pins.elemA ∧
    (Live.lostUnfollowed L).pins.elemB = L.pins.elemB ∧
    (Live.lostUnfollowed L).pins.quarryRelays = L.pins.quarryRelays ∧
    (Live.lostUnfollowed L).pins.fbKpOpen = L.pins.fbKpOpen ∧
    (Live.lostUnfollowed L).pins.fbKnOpen = L.pins.fbKnOpen ∧
    (Live.lostUnfollowed L).pins.sswOpen = L.pins.sswOpen ∧
    (Live.lostUnfollowed L).saf.supplyLoss = L.saf.supplyLoss ∧
    (Live.lostUnfollowed L).saf.fastLatch = L.saf.fastLatch ∧
    (Live.lostUnfollowed L).saf.precharge = L.saf.precharge ∧
    (Live.lostUnfollowed L).saf.ownCmd = L.saf.ownCmd ∧
    (Live.lostUnfollowed L).saf.pairs = L.saf.pairs ∧
    (Live.lostUnfollowed L).saf.eA = L.saf.eA ∧
    (Live.lostUnfollowed L).saf.eB = L.saf.eB ∧
    (Live.lostUnfollowed L).twin.holds = L.twin.holds ∧
    (Live.lostUnfollowed L).twin.gen = L.twin.gen ∧
    (Live.lostUnfollowed L).twin.p = L.twin.p ∧
    (Live.lostUnfollowed L).twin.check = L.twin.check ∧
    (Live.lostUnfollowed L).ks.edit = L.ks.edit ∧
    (Live.lostUnfollowed L).ks.epoch = L.ks.epoch := by
  have h0 := @Live.answerLost_frame
  have h1 := @Live.partnerGone_frame
  have h2 := @Live.twinEv_frame
  have h3 := @Live.partnerGone_keeps
  have h4 := @Live.setFast_keeps
  have h5 := @Live.setFast_frame
  have h6 := @Live.answerLost_keeps
  simp [Live.lostUnfollowed, h0, h1, h2, h3, h4, h5, h6]

theorem Live.partnerLost_keeps (L : Live) :
    (Live.partnerLost L).pins.aux1 = L.pins.aux1 ∧
    (Live.partnerLost L).pins.aux2 = L.pins.aux2 ∧
    (Live.partnerLost L).pins.auxSince = L.pins.auxSince ∧
    (Live.partnerLost L).pins.holdup = L.pins.holdup ∧
    (Live.partnerLost L).pins.contactA = L.pins.contactA ∧
    (Live.partnerLost L).pins.contactB = L.pins.contactB ∧
    (Live.partnerLost L).pins.elementOpen = L.pins.elementOpen ∧
    (Live.partnerLost L).pins.elemA = L.pins.elemA ∧
    (Live.partnerLost L).pins.elemB = L.pins.elemB ∧
    (Live.partnerLost L).pins.quarryRelays = L.pins.quarryRelays ∧
    (Live.partnerLost L).pins.fbKpOpen = L.pins.fbKpOpen ∧
    (Live.partnerLost L).pins.fbKnOpen = L.pins.fbKnOpen ∧
    (Live.partnerLost L).pins.sswOpen = L.pins.sswOpen ∧
    (Live.partnerLost L).saf.supplyLoss = L.saf.supplyLoss ∧
    (Live.partnerLost L).saf.fastLatch = L.saf.fastLatch ∧
    (Live.partnerLost L).saf.precharge = L.saf.precharge ∧
    (Live.partnerLost L).saf.ownCmd = L.saf.ownCmd ∧
    (Live.partnerLost L).saf.pairs = L.saf.pairs ∧
    (Live.partnerLost L).saf.eA = L.saf.eA ∧
    (Live.partnerLost L).saf.eB = L.saf.eB ∧
    (Live.partnerLost L).twin.p = L.twin.p ∧
    (Live.partnerLost L).time.mtime = L.time.mtime ∧
    (Live.partnerLost L).time.clk = L.time.clk ∧
    (Live.partnerLost L).ks.edit = L.ks.edit ∧
    (Live.partnerLost L).ks.epoch = L.ks.epoch := by
  have h0 := @Live.answerLost_frame
  have h1 := @Live.partnerGone_frame
  have h2 := @Live.leaveStep_frame
  have h3 := @Live.takeover_keeps
  have h4 := @Live.lostUnfollowed_keeps
  have h5 := @Live.partnerGone_keeps
  have h6 := @Live.leaveStep_keeps
  have h7 := @Live.lostUnfollowed_frame
  have h8 := @Live.answerLost_keeps
  simp [Live.partnerLost, h0, h1, h2, h3, h4, h5, h6, h7, h8]

theorem Live.checkOutcome_keeps (L : Live) (own partner : Bool) :
    (Live.checkOutcome L own partner).mode.booted = L.mode.booted ∧
    (Live.checkOutcome L own partner).mode.listening = L.mode.listening ∧
    (Live.checkOutcome L own partner).mode.quarryEntry = L.mode.quarryEntry ∧
    (Live.checkOutcome L own partner).pins.aux1 = L.pins.aux1 ∧
    (Live.checkOutcome L own partner).pins.aux2 = L.pins.aux2 ∧
    (Live.checkOutcome L own partner).pins.auxSince = L.pins.auxSince ∧
    (Live.checkOutcome L own partner).pins.holdup = L.pins.holdup ∧
    (Live.checkOutcome L own partner).pins.quarryRelays = L.pins.quarryRelays ∧
    (Live.checkOutcome L own partner).pins.fbKpOpen = L.pins.fbKpOpen ∧
    (Live.checkOutcome L own partner).pins.fbKnOpen = L.pins.fbKnOpen ∧
    (Live.checkOutcome L own partner).pins.sswOpen = L.pins.sswOpen ∧
    (Live.checkOutcome L own partner).saf.supplyLoss = L.saf.supplyLoss ∧
    (Live.checkOutcome L own partner).saf.fastLatch = L.saf.fastLatch ∧
    (Live.checkOutcome L own partner).saf.precharge = L.saf.precharge ∧
    (Live.checkOutcome L own partner).saf.pairs = L.saf.pairs ∧
    (Live.checkOutcome L own partner).saf.eA = L.saf.eA ∧
    (Live.checkOutcome L own partner).saf.eB = L.saf.eB ∧
    (Live.checkOutcome L own partner).twin.gen = L.twin.gen ∧
    (Live.checkOutcome L own partner).twin.check = L.twin.check := by
  have h0 := @Live.leaveStep_frame
  have h1 := @Live.leaveStep_keeps
  have h2 := @Live.requestHandover_frame
  have h3 := @Live.requestHandover_keeps
  have h4 := @Live.sf12_keeps
  simp [Live.checkOutcome, h0, h1, h2, h3, h4]

theorem Live.settleClaim_keeps (L : Live) :
    (Live.settleClaim L).mode.booted = L.mode.booted ∧
    (Live.settleClaim L).mode.listening = L.mode.listening ∧
    (Live.settleClaim L).mode.quarryEntry = L.mode.quarryEntry ∧
    (Live.settleClaim L).pins.aux1 = L.pins.aux1 ∧
    (Live.settleClaim L).pins.aux2 = L.pins.aux2 ∧
    (Live.settleClaim L).pins.auxSince = L.pins.auxSince ∧
    (Live.settleClaim L).pins.holdup = L.pins.holdup ∧
    (Live.settleClaim L).pins.quarryRelays = L.pins.quarryRelays ∧
    (Live.settleClaim L).pins.fbKpOpen = L.pins.fbKpOpen ∧
    (Live.settleClaim L).pins.fbKnOpen = L.pins.fbKnOpen ∧
    (Live.settleClaim L).pins.sswOpen = L.pins.sswOpen ∧
    (Live.settleClaim L).saf.supplyLoss = L.saf.supplyLoss ∧
    (Live.settleClaim L).saf.fastLatch = L.saf.fastLatch ∧
    (Live.settleClaim L).saf.precharge = L.saf.precharge ∧
    (Live.settleClaim L).saf.pairs = L.saf.pairs ∧
    (Live.settleClaim L).saf.eA = L.saf.eA ∧
    (Live.settleClaim L).saf.eB = L.saf.eB ∧
    (Live.settleClaim L).twin.pair = L.twin.pair ∧
    (Live.settleClaim L).twin.gen = L.twin.gen ∧
    (Live.settleClaim L).twin.p = L.twin.p ∧
    (Live.settleClaim L).twin.transfer = L.twin.transfer ∧
    (Live.settleClaim L).twin.check = L.twin.check ∧
    (Live.settleClaim L).ks.edit = L.ks.edit ∧
    (Live.settleClaim L).ks.epoch = L.ks.epoch := by
  have h0 := @Live.dueThresholds_frame
  have h1 := @Live.unplanned_keeps
  have h2 := @Live.dueThresholds_keeps
  simp [Live.settleClaim, h0, h1, h2]

theorem Live.takeKeystone_keeps (L C : Live) :
    (Live.takeKeystone L C).ks.pend = L.ks.pend := by
  simp [Live.takeKeystone]

theorem Live.takeState_keeps (L C : Live) :
    (Live.takeState L C).saf.supplyLoss = L.saf.supplyLoss ∧
    (Live.takeState L C).saf.fastLatch = L.saf.fastLatch ∧
    (Live.takeState L C).saf.hazard = L.saf.hazard ∧
    (Live.takeState L C).saf.precharge = L.saf.precharge ∧
    (Live.takeState L C).saf.ownCmd = L.saf.ownCmd ∧
    (Live.takeState L C).saf.pairs = L.saf.pairs := by
  simp [Live.takeState]

theorem Live.replaySweeps_keeps (L : Live) :
    (Live.replaySweeps L).twin.holds = L.twin.holds ∧
    (Live.replaySweeps L).twin.pair = L.twin.pair ∧
    (Live.replaySweeps L).twin.gen = L.twin.gen ∧
    (Live.replaySweeps L).twin.p = L.twin.p ∧
    (Live.replaySweeps L).twin.transfer = L.twin.transfer ∧
    (Live.replaySweeps L).twin.check = L.twin.check := by
  have h0 := @Live.keepInputs_frame
  have h1 := @Live.sweep_keeps
  have h2 := @Live.putInputs_frame
  simp [Live.replaySweeps, h0, h1, h2]

end Sys2Proof.Machine
end

