-- ==== Sys2Proof/Laws/Memory.lean ====
section
/-! SUPPORT. The logic engine's memory: every operation keeps its canonical form, a read finds what was written last, and a write
leaves every other address alone. -/

namespace Sys2Proof.Machine

/-! ### The canonical form -/

theorem risingFrom_mono {m : List Host.Cell} {n k : Nat} (h : risingFrom n m = true) (hk : k ≤ n) : risingFrom k m = true := by
  cases m with
  | nil => rfl
  | cons c cs =>
    simp only [risingFrom, Bool.and_eq_true, decide_eq_true_eq] at h ⊢
    exact ⟨⟨by omega, h.1.2⟩, h.2⟩

theorem risingFrom_memPut {m : List Host.Cell} {n a : Nat} {b : Byte} (h : risingFrom n m = true) (ha : n ≤ a) :
    risingFrom n (memPut m a b) = true := by
  induction m generalizing n with
  | nil =>
    simp only [memPut]
    split
    · rfl
    · rename_i hb
      simp only [risingFrom, Bool.and_eq_true, decide_eq_true_eq, bne_iff_ne, ne_eq]
      exact ⟨⟨ha, hb⟩, trivial⟩
  | cons c cs ih =>
    have hh := h
    simp only [risingFrom, Bool.and_eq_true, decide_eq_true_eq, bne_iff_ne, ne_eq] at hh
    simp only [memPut]
    split
    · rename_i hlt
      split
      · exact h
      · rename_i hb
        simp only [risingFrom, Bool.and_eq_true, decide_eq_true_eq, bne_iff_ne, ne_eq]
        exact ⟨⟨ha, hb⟩, ⟨by omega, hh.1.2⟩, hh.2⟩
    · split
      · split
        · exact risingFrom_mono hh.2 (by omega)
        · rename_i hb
          simp only [risingFrom, Bool.and_eq_true, decide_eq_true_eq, bne_iff_ne, ne_eq]
          exact ⟨⟨ha, hb⟩, risingFrom_mono hh.2 (by omega)⟩
      · simp only [risingFrom, Bool.and_eq_true, decide_eq_true_eq, bne_iff_ne, ne_eq]
        exact ⟨hh.1, ih hh.2 (by omega)⟩

theorem risingFrom_filter {m : List Host.Cell} {n : Nat} (p : Host.Cell → Bool) (h : risingFrom n m = true) :
    risingFrom n (m.filter p) = true := by
  induction m generalizing n with
  | nil => rfl
  | cons c cs ih =>
    have hh := h
    simp only [risingFrom, Bool.and_eq_true, decide_eq_true_eq] at hh
    simp only [List.filter_cons]
    split
    · simp only [risingFrom, Bool.and_eq_true, decide_eq_true_eq]
      exact ⟨hh.1, ih hh.2⟩
    · exact risingFrom_mono (ih hh.2) (by omega)

theorem Memory.wf_put {m : List Host.Cell} (h : Memory.wf m = true) (a : Nat) (b : Byte) : Memory.wf (memPut m a b) = true :=
  risingFrom_memPut h (Nat.zero_le a)

theorem Memory.wf_filter {m : List Host.Cell} (p : Host.Cell → Bool) (h : Memory.wf m = true) : Memory.wf (m.filter p) = true :=
  risingFrom_filter p h

theorem Memory.wf_putAll {m : List Host.Cell} (h : Memory.wf m = true) (a : Nat) (bs : Bytes) :
    Memory.wf (memPutAll m a bs) = true := by
  induction bs generalizing m a with
  | nil => exact h
  | cons b bs ih => exact ih (Memory.wf_put h a b) (a + 1)

theorem Memory.wf_clear {m : List Host.Cell} (h : Memory.wf m = true) (a n : Nat) : Memory.wf (memClear m a n) = true :=
  Memory.wf_filter _ h

/-- A fold keeps the canonical form where each of its steps does. -/
theorem Memory.wf_foldl {α : Type} (f : List Host.Cell → α → List Host.Cell)
    (hf : ∀ m x, Memory.wf m = true → Memory.wf (f m x) = true) (l : List α) {m : List Host.Cell} (h : Memory.wf m = true) :
    Memory.wf (l.foldl f m) = true := by
  induction l generalizing m with
  | nil => exact h
  | cons x xs ih => exact ih (hf m x h)

theorem Memory.wf_startInstance {m : List Host.Cell} (h : Memory.wf m = true) (i : Inst) : Memory.wf (startInstance m i) = true := by
  simp only [startInstance]
  split
  · exact Memory.wf_putAll (Memory.wf_put h _ _) _ _
  · exact Memory.wf_put h _ _

theorem Memory.wf_start (img : Bytes) (cold : Bool) {m : List Host.Cell} (h : Memory.wf m = true) :
    Memory.wf (startMemory img cold m) = true :=
  Memory.wf_foldl _ (fun _ i hm => Memory.wf_startInstance hm i) _
    (Memory.wf_foldl _ (fun _ _ hm => Memory.wf_putAll hm _ _) _ (Memory.wf_filter _ h))

theorem Memory.wf_carry (old new : Bytes) {m : List Host.Cell} (h : Memory.wf m = true) :
    Memory.wf (carryMemory old new m) = true := by
  refine Memory.wf_foldl _ ?_ _ (Memory.wf_foldl _ ?_ _ (Memory.wf_filter _ h))
  · intro n i hn
    split
    · exact Memory.wf_putAll hn _ _
    · exact Memory.wf_put hn _ _
  · intro n v hn
    split
    · exact Memory.wf_putAll hn _ _
    · exact Memory.wf_putAll hn _ _

theorem Memory.wf_reset : Memory.wf State.reset.live.lgc.vm.mem = true := rfl

/-! ### Reading after writing -/

theorem memByte_below {m : List Host.Cell} {n a : Nat} (h : risingFrom n m = true) (ha : a < n) : memByte m a = 0 := by
  induction m generalizing n with
  | nil => rfl
  | cons c cs ih =>
    simp only [risingFrom, Bool.and_eq_true, decide_eq_true_eq] at h
    have hne : c.1 ≠ a := by omega
    simp only [memByte, if_neg hne]
    exact ih h.2 (by omega)

theorem memByte_put_ne (m : List Host.Cell) (a k : Nat) (b : Byte) (hk : k ≠ a) : memByte (memPut m a b) k = memByte m k := by
  induction m with
  | nil =>
    simp only [memPut]
    split
    · rfl
    · simp [memByte, Ne.symm hk]
  | cons c cs ih =>
    simp only [memPut]
    split
    · split
      · rfl
      · simp [memByte, Ne.symm hk]
    · split
      · rename_i he
        have hc : c.1 ≠ k := by omega
        split
        · simp [memByte, hc]
        · simp [memByte, hc, Ne.symm hk]
      · simp only [memByte, ih]

theorem memByte_put_same {m : List Host.Cell} {n : Nat} (h : risingFrom n m = true) (a : Nat) (b : Byte) :
    memByte (memPut m a b) a = b := by
  induction m generalizing n with
  | nil =>
    simp only [memPut]
    split
    · rename_i hb
      simp [memByte, hb]
    · simp [memByte]
  | cons c cs ih =>
    have hh := h
    simp only [risingFrom, Bool.and_eq_true, decide_eq_true_eq] at hh
    simp only [memPut]
    split
    · rename_i hlt
      split
      · rename_i hb
        have hne : c.1 ≠ a := by omega
        simp only [memByte, if_neg hne, hb]
        exact memByte_below hh.2 (by omega)
      · simp [memByte]
    · split
      · rename_i he
        split
        · rename_i hb
          rw [hb]
          exact memByte_below hh.2 (by omega)
        · simp [memByte]
      · rename_i hne
        have hc : c.1 ≠ a := fun e => hne e.symm
        simp only [memByte, if_neg hc]
        exact ih hh.2

theorem memByte_putAll_out (m : List Host.Cell) (a : Nat) (bs : Bytes) (k : Nat) (hk : k < a ∨ a + bs.length ≤ k) :
    memByte (memPutAll m a bs) k = memByte m k := by
  induction bs generalizing m a with
  | nil => rfl
  | cons b bs ih =>
    simp only [List.length_cons] at hk
    simp only [memPutAll]
    rw [ih _ _ (by omega), memByte_put_ne _ _ _ _ (by omega)]

@[simp] theorem memBytes_length (m : List Host.Cell) (a n : Nat) : (memBytes m a n).length = n := by
  simp [memBytes]

/-! ### Stores of a program -/

theorem Logic.storeByte_wf (g : Logic) (space a b : Nat) (h : Memory.wf g.vm.mem = true) :
    Memory.wf (g.storeByte space a b).vm.mem = true := Memory.wf_put h _ _

theorem Logic.storeByte_other (g : Logic) (space a b k : Nat) (hk : k ≠ spaceBase space + a) :
    memByte (g.storeByte space a b).vm.mem k = memByte g.vm.mem k := memByte_put_ne _ _ _ _ hk

theorem Logic.store_inv (P : Logic → Prop) (space a v : Nat) (l : List Nat)
    (hP : ∀ g i, i ∈ l → P g → P (g.storeByte space (a + i) (v / 256 ^ i % 256))) (g : Logic) (h : P g) :
    P (l.foldl (fun (h : Logic) i => h.storeByte space (a + i) (v / 256 ^ i % 256)) g) := by
  induction l generalizing g with
  | nil => exact h
  | cons x xs ih =>
    exact ih (fun g i hi => hP g i (List.mem_cons_of_mem x hi)) _ (hP g x (List.mem_cons_self ..) h)

theorem Logic.store_wf (g : Logic) (space a n v : Nat) (h : Memory.wf g.vm.mem = true) :
    Memory.wf (g.store space a n v).vm.mem = true :=
  Logic.store_inv (fun g => Memory.wf g.vm.mem = true) space a v _ (fun g _ _ hg => g.storeByte_wf space _ _ hg) g h

/-- A store of n bytes leaves every byte outside them alone. -/
theorem Logic.store_other (g : Logic) (space a n v k : Nat) (hk : k < spaceBase space + a ∨ spaceBase space + a + n ≤ k) :
    memByte (g.store space a n v).vm.mem k = memByte g.vm.mem k :=
  Logic.store_inv (fun h => memByte h.vm.mem k = memByte g.vm.mem k) space a v _
    (fun h i hi e => by
      have hi' := List.mem_range.mp hi
      rw [Logic.storeByte_other h space (a + i) _ k (by omega), e]) g rfl

theorem Logic.storeBit_wf (g : Logic) (o : BitOp) (v : Bool) (h : Memory.wf g.vm.mem = true) :
    Memory.wf (g.storeBit o v).vm.mem = true := Logic.store_wf g _ _ _ _ h

theorem Logic.storeWord_wf (g : Logic) (o : WordOp) (v : Int) (h : Memory.wf g.vm.mem = true) :
    Memory.wf (g.storeWord o v).vm.mem = true := Logic.store_wf g _ _ _ _ h

/-! ### The bytes a debug session wrote into an island's window: every written byte is listed, addresses strictly rising -/

theorem cellPut_rising {m : List Host.Cell} (h : m.Pairwise (fun c d => c.1 < d.1)) (a : Nat) (b : Byte) :
    (cellPut m a b).Pairwise (fun c d => c.1 < d.1) := by
  simp only [cellPut, List.pairwise_append, List.pairwise_cons, List.mem_filter, List.mem_cons, decide_eq_true_eq]
  refine ⟨h.sublist List.filter_sublist, ⟨fun c hc => hc.2, h.sublist List.filter_sublist⟩, fun c hc d hd => ?_⟩
  rcases hd with rfl | hd
  · exact hc.2
  · exact Nat.lt_trans hc.2 hd.2

theorem cellPutAll_rising {m : List Host.Cell} (h : m.Pairwise (fun c d => c.1 < d.1)) (a : Nat) (bs : Bytes) :
    (cellPutAll m a bs).Pairwise (fun c d => c.1 < d.1) := by
  induction bs generalizing m a with
  | nil => exact h
  | cons b bs ih => exact ih (cellPut_rising h a b) (a + 1)

end Sys2Proof.Machine
end

