-- ==== Sys2Proof/Laws/Sequence.lean ====
section
/-! SUPPORT. The four-step sequence and the state machine: which state each operation leaves. -/

namespace Sys2Proof.Machine

/-- Kind of the running sequence. -/
def Live.kindOf (L : Live) : Option SeqKind := L.mode.seq.map (·.kind)

@[simp] theorem Live.setFast_fastOff (L : Live) (f : FastOff) : (L.setFast f).pins.fastOff = f := rfl

@[simp] theorem Live.setState_st (L : Live) (n : MState) (t : Nat) : (L.setState n t).mode.st = n := by
  have h0 := @Live.abortChisel_frame
  unfold Live.setState
  split
  · assumption
  · dsimp only
    split <;> simp [h0]

@[simp] theorem Live.setState_seq (L : Live) (n : MState) (t : Nat) : (L.setState n t).mode.seq = L.mode.seq := by
  have h0 := @Live.abortChisel_frame
  unfold Live.setState
  split
  · rfl
  · dsimp only
    split <;> simp [h0]

@[simp] theorem Live.openLoop_open (L : Live) : L.openLoop.pins.contactA = false ∧ L.openLoop.pins.contactB = false := by
  have h0 := @Live.updExpect_frame
  have h1 := @Live.pullX_keeps
  unfold Live.openLoop
  dsimp only
  split <;> simp [h0, h1]

@[simp] theorem Live.enterStandby_st (L : Live) (t : Nat) : (L.enterStandby t).mode.st = .standby := by
  have h0 := @Live.setFast_frame
  have h1 := @Live.setNmt_frame
  have h2 := @Live.setState_frame
  have h3 := @Live.setState_keeps
  unfold Live.enterStandby
  dsimp only
  split <;> simp [h0, h1, h2, h3]

@[simp] theorem Live.enterStandby_seq (L : Live) (t : Nat) : (L.enterStandby t).mode.seq = none := by
  have h0 := @Live.setFast_frame
  have h1 := @Live.setNmt_frame
  have h2 := @Live.setState_frame
  have h3 := @Live.setState_keeps
  unfold Live.enterStandby
  dsimp only
  split <;> simp [h0, h1, h2, h3]

@[simp] theorem Live.cancelPending_seq (L : Live) (r : Nat) : (L.cancelPending r).mode.seq = L.mode.seq := by
  unfold Live.cancelPending Live.result
  split <;> simp

@[simp] theorem Live.cancelPending_pend (L : Live) (r : Nat) : (L.cancelPending r).mode.pendEnable = none := by
  unfold Live.cancelPending Live.result
  split
  · simp
  · next h => simpa using h

theorem Live.toStep2_kind (L : Live) : L.toStep2.mode.st = L.mode.st ∧ L.toStep2.kindOf = L.kindOf := by
  have h0 := @Live.setPath_frame
  simp [Live.toStep2, Live.setSeq, Live.kindOf, Function.comp_def, h0]

theorem Live.toStep3_kind (L : Live) : L.toStep3.mode.st = L.mode.st ∧ L.toStep3.kindOf = L.kindOf := by
  have h0 := @Live.openLoop_frame
  simp [Live.toStep3, Live.setSeq, Live.kindOf, Function.comp_def, h0]

theorem Live.toStep4_kind (L : Live) : L.toStep4.mode.st = L.mode.st ∧ L.toStep4.kindOf = L.kindOf := by
  simp [Live.toStep4, Live.setSeq, Live.kindOf, Function.comp_def]

/-- Step 5 of a safe state keeps the state; only a shut-down ends in STANDBY (03 R52 T12). -/
theorem Live.toStep5_kind (L : Live) (h : L.kindOf ≠ some .shutdown) :
    L.toStep5.mode.st = L.mode.st ∧ L.toStep5.kindOf = L.kindOf := by
  unfold Live.toStep5
  cases hs : L.mode.seq with
  | none => exact ⟨rfl, rfl⟩
  | some q =>
    have hq : q.kind ≠ .shutdown := by simpa [Live.kindOf, hs] using h
    simp only [hq, if_false]
    have h0 := @Live.endCommand_frame
    simp [Live.setSeq, Live.kindOf, hs, h0]

theorem Live.seqOn_kind (L : Live) (h : L.kindOf ≠ some .shutdown) : L.seqOn.mode.st = L.mode.st ∧ L.seqOn.kindOf = L.kindOf := by
  have h12 : L.seq12.mode.st = L.mode.st ∧ L.seq12.kindOf = L.kindOf := by
    unfold Live.seq12
    split
    · dsimp only
      split
      · split
        · exact L.toStep2_kind
        · exact ⟨rfl, rfl⟩
      · split
        · exact L.toStep2_kind
        · exact ⟨rfl, rfl⟩
    · exact ⟨rfl, rfl⟩
  have h23 : L.seq12.seq23.mode.st = L.mode.st ∧ L.seq12.seq23.kindOf = L.kindOf := by
    rw [← h12.1, ← h12.2]
    unfold Live.seq23
    split
    · split
      · exact Live.toStep3_kind _
      · exact ⟨rfl, rfl⟩
    · exact ⟨rfl, rfl⟩
  have h34 : L.seq12.seq23.seq34.mode.st = L.mode.st ∧ L.seq12.seq23.seq34.kindOf = L.kindOf := by
    rw [← h23.1, ← h23.2]
    unfold Live.seq34
    split
    · split
      · exact Live.toStep4_kind _
      · exact ⟨rfl, rfl⟩
    · exact ⟨rfl, rfl⟩
  have hk : L.seq12.seq23.seq34.kindOf ≠ some .shutdown := by rw [h34.2]; exact h
  have h45 := Live.toStep5_kind L.seq12.seq23.seq34 hk
  unfold Live.seqOn
  rw [← h34.1, ← h34.2]
  conv => lhs; rw [show ∀ M : Live, M.seq45 = (match M.mode.seq with
    | some s => if s.step = 4 ∧ M.allBypassed then M.toStep5 else M
    | none => M) from fun M => rfl]
  conv => rhs; rw [show ∀ M : Live, M.seq45 = (match M.mode.seq with
    | some s => if s.step = 4 ∧ M.allBypassed then M.toStep5 else M
    | none => M) from fun M => rfl]
  split
  · split
    · exact h45
    · exact ⟨rfl, rfl⟩
  · exact ⟨rfl, rfl⟩

theorem Live.step2_seqOn_st (M : Live) (c : Prop) [Decidable c] (h : M.kindOf ≠ some .shutdown) :
    ((if c then M.toStep2 else M).seqOn).mode.st = M.mode.st := by
  split
  · rw [(Live.seqOn_kind _ (by rw [M.toStep2_kind.2]; exact h)).1, M.toStep2_kind.1]
  · exact (Live.seqOn_kind _ h).1

/-- Entry to SAFE (03 R52 T13): from PRECHARGE, RUN, DERATED and STANDBY. -/
theorem Live.enterSafe_st (L : Live) (k : SeqKind) (hk : k ≠ .shutdown) (h : L.driving = true ∨ L.mode.st = .standby) :
    (L.enterSafe k).mode.st = .safe := by
  unfold Live.enterSafe
  rw [if_pos h]
  dsimp only
  rw [Live.step2_seqOn_st]
  · simp
  · simpa [Live.kindOf] using hk

end Sys2Proof.Machine
end

