-- ==== Sys2Proof/Laws/Store.lean ====
section
/-! SUPPORT. The object store: what a write leaves and what a read finds. -/

namespace Sys2Proof.Machine

theorem Store.find_erase_same (s : Store) (k : Nat) : (s.erase k).find k = none := by
  induction s with
  | nil => rfl
  | cons p s ih =>
    simp only [Store.find, Store.erase] at *
    by_cases h : p.1 = k
    · simp [h]
    · simp [h]

theorem Store.find_erase_ne (s : Store) (j k : Nat) (h : j ≠ k) : (s.erase k).find j = s.find j := by
  induction s with
  | nil => rfl
  | cons p s ih =>
    simp only [Store.find, Store.erase] at *
    by_cases hk : p.1 = k
    · have hj : ¬ k = j := fun e => h e.symm
      simp only [hk, bne_self_eq_false, List.filter_cons_of_neg, Bool.false_eq_true, not_false_eq_true, List.find?_cons,
        show (k == j) = false by simp [hj]]
      exact ih
    · by_cases hj : p.1 = j
      · simp [hj, h]
      · simpa [hk, hj] using ih

theorem Store.find_insert_same (s : Store) (k : Nat) (v : Int) (h : s.find k = none) : (Store.insert s k v).find k = some v := by
  induction s with
  | nil => simp [Store.insert, Store.find]
  | cons p s ih =>
    have hp : ¬ p.1 = k := by
      intro e
      simp [Store.find, e] at h
    have hs : Store.find s k = none := by
      simpa [Store.find, hp] using h
    simp only [Store.insert]
    split
    · simp [Store.find]
    · have := ih hs
      simp only [Store.find] at *
      simpa [hp] using this

theorem Store.find_insert_ne (s : Store) (j k : Nat) (v : Int) (h : j ≠ k) : (Store.insert s k v).find j = s.find j := by
  have hk : ¬ k = j := fun e => h e.symm
  induction s with
  | nil => simp [Store.insert, Store.find, hk]
  | cons p s ih =>
    simp only [Store.insert]
    split
    · simp [Store.find, hk]
    · simp only [Store.find] at *
      by_cases hj : p.1 = j
      · simp [hj]
      · simpa [hj] using ih

/-- A written object reads back what was written. -/
@[simp] theorem Store.find_put_same (s : Store) (d : Int) (k : Nat) (v : Int) : ((s.put d k v).find k).getD d = v := by
  unfold Store.put
  split
  · next h => simp [Store.find_erase_same, h]
  · simp [Store.find_insert_same _ _ _ (Store.find_erase_same s k)]

/-- Another object is left alone. -/
theorem Store.find_put_ne (s : Store) (d : Int) (j k : Nat) (v : Int) (h : j ≠ k) : (s.put d k v).find j = s.find j := by
  unfold Store.put
  split
  · exact Store.find_erase_ne s j k h
  · rw [Store.find_insert_ne _ _ _ _ h, Store.find_erase_ne _ _ _ h]

@[simp] theorem Live.get_put_same (L : Live) (k : Nat) (v : Int) : (L.put k v).get k = v := by
  simp [Live.get, Live.put]

theorem Live.get_put_ne (L : Live) (j k : Nat) (v : Int) (h : j ≠ k) : (L.put k v).get j = L.get j := by
  simp [Live.get, Live.put, Store.find_put_ne _ _ _ _ _ h]

@[simp] theorem Live.getN_put_same (L : Live) (k : Nat) (v : Int) : (L.put k v).getN k = v.toNat := by
  simp [Live.getN]

theorem Live.getN_put_ne (L : Live) (j k : Nat) (v : Int) (h : j ≠ k) : (L.put k v).getN j = L.getN j := by
  simp [Live.getN, Live.get_put_ne _ _ _ _ h]

/-- An object reads the same in two blocks with the same store. -/
theorem Live.get_congr (A B : Live) (k : Nat) (h : A.obj = B.obj) : A.get k = B.get k := by
  simp [Live.get, h]

theorem Live.getN_congr (A B : Live) (k : Nat) (h : A.obj = B.obj) : A.getN k = B.getN k := by
  simp [Live.getN, Live.get_congr A B k h]

end Sys2Proof.Machine
end

