-- ==== Sys2Proof/Laws/State.lean ====
section
/-! SUPPORT. Reading a field after an update of it: one lemma per field and update. What an update leaves alone is said in the Frame files. -/

namespace Sys2Proof.Machine

/-! ### Objects, byte strings, outbox, clock -/

@[simp] theorem Live.put_obj (L : Live) (k : Nat) (v : Int) : (L.put k v).obj = L.obj.put (odDefault k) k v := rfl
@[simp] theorem Live.emit_out (L : Live) (o : Out) : (L.emit o).out = o :: L.out := rfl
@[simp] theorem Live.pass_clk (L : Live) (d : Nat) : (L.pass d).time.clk = L.time.clk + d := rfl
@[simp] theorem Live.pass_mtime (L : Live) (d : Nat) : (L.pass d).time.mtime = L.time.mtime + d := rfl
@[simp] theorem Live.pass_synced (L : Live) (d : Nat) : (L.pass d).time.synced = L.time.synced := rfl
@[simp] theorem Live.pass_lastBoundary (L : Live) (d : Nat) : (L.pass d).time.lastBoundary = L.time.lastBoundary := rfl
@[simp] theorem Live.pass_stepPending (L : Live) (d : Nat) : (L.pass d).time.stepPending = L.time.stepPending := rfl
@[simp] theorem Live.reach_clk (L : Live) (t : Nat) : (L.reach t).time.clk = max L.time.clk t := by
  simp only [Live.reach, Live.pass_clk]
  omega
@[simp] theorem Live.breakClean_cleanAt (L : Live) : L.breakClean.upd.cleanAt = L.time.clk := rfl

/-! ### A member of a list -/

theorem getD_modify_same {α : Type} (l : List α) (i : Nat) (f : α → α) (d : α) (h : i < l.length) :
    (l.modify i f).getD i d = f (l.getD i d) := by
  simp [List.getD_eq_getElem?_getD, h]

theorem getD_modify_ne {α : Type} (l : List α) (i j : Nat) (f : α → α) (d : α) (h : i ≠ j) :
    (l.modify i f).getD j d = l.getD j d := by
  simp [List.getD_eq_getElem?_getD, h]

@[simp] theorem Live.modSeg_seg (L : Live) (s : Nat) (f : Seg → Seg) : (L.modSeg s f).seg = L.seg.modify s f := rfl
theorem Live.modSeg_same (L : Live) (s : Nat) (f : Seg → Seg) (h : s < L.seg.length) : (L.modSeg s f).segAt s = f (L.segAt s) :=
  getD_modify_same _ _ _ _ h
theorem Live.modSeg_other (L : Live) (s k : Nat) (f : Seg → Seg) (h : s ≠ k) : (L.modSeg s f).segAt k = L.segAt k :=
  getD_modify_ne _ _ _ _ _ h

@[simp] theorem Live.modNode_node (L : Live) (s : Nat) (f : Node → Node) : (L.modNode s f).node = L.node.modify s f := rfl
theorem Live.modNode_same (L : Live) (s : Nat) (f : Node → Node) (h : s < L.node.length) : (L.modNode s f).nodeAt s = f (L.nodeAt s) :=
  getD_modify_same _ _ _ _ h
theorem Live.modNode_other (L : Live) (s k : Nat) (f : Node → Node) (h : s ≠ k) : (L.modNode s f).nodeAt k = L.nodeAt k :=
  getD_modify_ne _ _ _ _ _ h

@[simp] theorem Live.modCan_bus (L : Live) (b : Nat) (f : Can → Can) : (L.modCan b f).com.bus = L.com.bus.modify b f := rfl
@[simp] theorem Live.modCan_nmt (L : Live) (b : Nat) (f : Can → Can) : (L.modCan b f).com.nmt = L.com.nmt := rfl
@[simp] theorem Live.modCan_num (L : Live) (b : Nat) (f : Can → Can) : (L.modCan b f).com.num = L.com.num := rfl
@[simp] theorem Live.modCan_lssConf (L : Live) (b : Nat) (f : Can → Can) : (L.modCan b f).com.lssConf = L.com.lssConf := rfl
theorem Live.modCan_same (L : Live) (b : Nat) (f : Can → Can) (h : b < L.com.bus.length) : (L.modCan b f).can b = f (L.can b) :=
  getD_modify_same _ _ _ _ h
theorem Live.modCan_other (L : Live) (b k : Nat) (f : Can → Can) (h : b ≠ k) : (L.modCan b f).can k = L.can k :=
  getD_modify_ne _ _ _ _ _ h

@[simp] theorem Live.modPair_pairs (L : Live) (i : Nat) (f : Pair → Pair) : (L.modPair i f).saf.pairs = L.saf.pairs.modify i f := rfl
@[simp] theorem Live.modPair_decA (L : Live) (i : Nat) (f : Pair → Pair) : (L.modPair i f).saf.decA = L.saf.decA := rfl
@[simp] theorem Live.modPair_decB (L : Live) (i : Nat) (f : Pair → Pair) : (L.modPair i f).saf.decB = L.saf.decB := rfl
@[simp] theorem Live.modPair_obeyed (L : Live) (i : Nat) (f : Pair → Pair) : (L.modPair i f).saf.obeyed = L.saf.obeyed := rfl
@[simp] theorem Live.modWatch_seg (L : Live) (s : Nat) (f : SegWatch → SegWatch) : (L.modWatch s f).saf.seg = L.saf.seg.modify s f := rfl
@[simp] theorem Live.modWatch_pairs (L : Live) (s : Nat) (f : SegWatch → SegWatch) : (L.modWatch s f).saf.pairs = L.saf.pairs := rfl

@[simp] theorem Live.setCtx_ctx (L : Live) (g : Nat) (c : Ctx) : (L.setCtx g c).est.ctx = L.est.ctx.set g c := rfl
@[simp] theorem Live.setCtx_seg (L : Live) (g : Nat) (c : Ctx) : (L.setCtx g c).est.seg = L.est.seg := rfl
@[simp] theorem Live.modEst_seg (L : Live) (s : Nat) (f : SegEst → SegEst) : (L.modEst s f).est.seg = L.est.seg.modify s f := rfl
@[simp] theorem Live.modEst_ctx (L : Live) (s : Nat) (f : SegEst → SegEst) : (L.modEst s f).est.ctx = L.est.ctx := rfl

/-! ### The logic engine and the soft start -/

@[simp] theorem Live.modLgc_lgc (L : Live) (f : Logic → Logic) : (L.modLgc f).lgc = f L.lgc := rfl
@[simp] theorem Live.setPhase_phase (L : Live) (n : Nat) : (L.setPhase n).conv.phase = n := rfl
@[simp] theorem Live.setPhase_phaseAt (L : Live) (n : Nat) : (L.setPhase n).conv.phaseAt = L.time.clk := rfl
@[simp] theorem Live.setPhase_okSince (L : Live) (n : Nat) : (L.setPhase n).conv.okSince = none := rfl
@[simp] theorem Live.setPhase_act (L : Live) (n : Nat) : (L.setPhase n).conv.act = L.conv.act := rfl

/-! ### The step -/

theorem step_idle {s : State} (h : s.pending = []) : step s = .next s := by
  simp [step, h]

theorem step_front {s : State} {c : Instr} {rest : List Instr} (h : s.pending = c :: rest) :
    step s = exec c { s with pending := rest } := by
  simp [step, h]

/-- What a step can do: idle, or run the command at the front. -/
theorem step_cases {s t : State} (h : step s = .next t) :
    (s.pending = [] ∧ t = s) ∨ ∃ c rest, s.pending = c :: rest ∧ exec c { s with pending := rest } = .next t := by
  unfold step at h
  split at h
  · rename_i he
    exact .inl ⟨he, by injection h with h; exact h.symm⟩
  · rename_i c rest he
    exact .inr ⟨c, rest, he, h⟩

/-- What a row of the module does: act where the module is up, else nothing. -/
theorem run_cases {s t : State} {f : Live → Live} (h : run s f = .next t) :
    (s.live.powered = true ∧ t = { s with live := f s.live }) ∨ (s.live.powered = false ∧ t = s) := by
  unfold run at h
  split at h
  · rename_i hp
    exact .inl ⟨hp, by injection h with h; exact h.symm⟩
  · rename_i hp
    exact .inr ⟨by simpa using hp, by injection h with h; exact h.symm⟩

/-- What a row of an island does. -/
theorem runIn_cases {s t : State} {i : Nat} {f : Live → Live} (h : runIn i s f = .next t) :
    (s.live.powered = true ∧ s.live.mode.st ≠ .boot ∧ bitOf s.live.dbg.halted i = false ∧ t = { s with live := f s.live }) ∨ t = s := by
  unfold runIn at h
  split at h
  · rename_i hp
    injection h with h
    simp only [Bool.and_eq_true, Bool.not_eq_true', bne_iff_ne, ne_eq] at hp
    exact .inl ⟨by simp_all, by simp_all, by simp_all, h.symm⟩
  · injection h with h
    exact .inr h.symm

end Sys2Proof.Machine
end

