-- ==== Sys2Proof/Machine/Leds.lean ====
section
/-! DEFINITION. The five LEDs, which hold no state of their own: what each shows follows from the state (02 R45, R48; 03 R68). -/

namespace Sys2Proof.Machine

/-- What an LED shows; flash patterns are 50 % duty, `breaking` is on with a 100 ms break every 2 s (02 R48). -/
inductive Led where
  | dark | slow | fast | lit | breaking
deriving DecidableEq, Repr

/-- RUN, green. -/
def Live.ledRun (L : Live) : Led :=
  match L.mode.st with
  | .quarry | .off | .safe => .dark
  | .standby | .service => .slow
  | .boot | .selftest => .fast
  | .precharge | .run => .lit
  | .derated => .breaking

/-- FORCE, amber (14 R380). -/
def Live.ledForce (L : Live) : Led := if L.lgc.forces.isEmpty then .dark else .lit

/-- FAULT, red: SF-12 latched or the hold-up store at fault flashes, else it follows the FAULT- and SAFETY-class conditions (12 R335). -/
def Live.ledFault (L : Live) : Led :=
  if bitOf (L.getN 0x404001) 11 || bitOf (L.getN 0x20001A) 6 then .fast
  else if anyFault L.rcd.conds then .lit else .dark

/-- TWIN, blue: a standby that is not in step is on its way to it (log 173). -/
def Live.ledTwin (L : Live) : Led :=
  match L.role with
  | 0 => .dark
  | 1 => .lit
  | _ => if L.inStep then .slow else .fast

/-- SAFE, white. -/
def Live.ledSafe (L : Live) : Led :=
  if L.mode.st ≠ .safe then .dark else if L.safeDone then .lit else .fast

/-- RUN, FORCE, FAULT, TWIN and SAFE: dark where nothing runs and on hold-up, all lit for the first second of BOOT, else each by its
row of the table. -/
def Live.leds (L : Live) : List Led :=
  if !L.powered || L.pins.holdup then List.replicate 5 .dark
  else if L.mode.st = .boot ∧ L.time.clk < L.mode.bootClk + sec 1 then List.replicate 5 .lit
  else [L.ledRun, L.ledForce, L.ledFault, L.ledTwin, L.ledSafe]

end Sys2Proof.Machine
end

