-- ==== Sys2Proof/WellFormed.lean ====
section
/-! DEFINITION. Well-formed commands: every operand fits the width the spec gives the field it stands for. -/

namespace Sys2Proof

/-- A CAN frame: identifier of its format, at most 8 or 64 data bytes (11 R283). -/
def canFrameWf (f : CanFrame) : Bool :=
  decide (f.id < (if f.ext then 2 ^ 29 else 2 ^ 11)) && decide (f.data.length ≤ (if f.fd then 64 else 8))

/-- A bit operand: space code and bit in three bits, address in 17 bits (14 R365). -/
def bitOpWf (o : BitOp) : Bool := decide (o.space < 8) && decide (o.bit < 8) && decide (o.addr < 2 ^ 17)

/-- A word operand: space and width codes, address in 18 bits (14 R365). -/
def wordOpWf (o : WordOp) : Bool := decide (o.space < 8) && decide (o.width < 4) && decide (o.addr < 2 ^ 18)

/-- A block operand: space code in two bits, address in 16 bits (14 R365). -/
def blockOpWf (o : BlockOp) : Bool := decide (o.space < 4) && decide (o.addr < 65536)

/-- An Announce: the members the best master clock algorithm compares, in their IEEE 1588 widths (13 R338). -/
def announceWf (a : Announce) : Bool :=
  decide (a.priority1 < 256) && decide (a.clockClass < 256) && decide (a.accuracy < 256) && decide (a.variance < 65536) &&
  decide (a.priority2 < 256) && decide (a.identity.length = 8) && decide (a.stepsRemoved < 65536) && decide (a.domain < 256)

/-- Is a command well-formed? -/
def wellFormed : Instr → Bool
  | .auxInputPresent _ mv => decide (mv ≤ 4294967295)
  | .auxInputAbsent _ mv => decide (mv ≤ 4294967295)
  | .allSuppliesLost => true
  | .holdupSealComplete => true
  | .wakePulse _ => true
  | .watchdogExpiry => true
  | .boot _ => true
  | .bootComplete => true
  | .dupNodeIdListenEnd => true
  | .selftestComplete _ => true
  | .cmdEnable sess => decide (sess ≤ 65535)
  | .cmdDisable sess => decide (sess ≤ 65535)
  | .cmdAcknowledge sess => decide (sess ≤ 65535)
  | .cmdEnterService sess => decide (sess ≤ 65535)
  | .cmdLeaveService sess => decide (sess ≤ 65535)
  | .cmdEnterQuarry sess => decide (sess ≤ 65535)
  | .quarryEntryComplete => true
  | .cmdReset sess => decide (sess ≤ 65535)
  | .cmdColdRestartLogic sess => decide (sess ≤ 65535)
  | .cmdColdRestartEstimator sess => decide (sess ≤ 65535)
  | .pendingEnableExpiry => true
  | .prechargeCooldownEnd => true
  | .derateHoldExpiry => true
  | .courseBoundary => true
  | .sampleStrobe => true
  | .controlSample _ => true
  | .captureComplete => true
  | .chiselComplete => true
  | .impedanceWindowBoundary => true
  | .downlinkLatch => true
  | .superframeStart => true
  | .uplinkFrameRx _ _ _ _ => true
  | .bypassConfirmTimeout _ => true
  | .uplinkMissingTimeout _ => true
  | .uplinkWordsLostTimeout _ => true
  | .linkCommaLock _ => true
  | .mgmtResponseRx _ _ => true
  | .mgmtTimeout _ => true
  | .nodeCmdCommission sess _ => decide (sess ≤ 65535)
  | .nodeCmdReleaseLatch sess _ => decide (sess ≤ 65535)
  | .nodeCmdRepeatBringup sess _ => decide (sess ≤ 65535)
  | .nodeCmdComparatorTest sess _ => decide (sess ≤ 65535)
  | .nodeDownlinkFrameRx _ _ _ _ => true
  | .nodeSuperframeStart _ _ => true
  | .nodeDesaturation _ _ => true
  | .hardBypassLatchSet _ _ => true
  | .nodePortsDark _ _ => true
  | .mgmtRead _ _ _ addr len => decide (addr ≤ 4294967295) && decide (len ≤ 65535)
  | .mgmtWrite _ _ _ addr _ => decide (addr ≤ 4294967295)
  | .imageBlock _ _ _ _ _ => true
  | .imageActivate _ _ _ digest => decide (digest.length = 32)
  | .latchRelease _ _ _ _ => true
  | .comparatorTest _ _ _ _ => true
  | .segCmdBypass sess _ => decide (sess ≤ 65535)
  | .segCmdReturn sess _ => decide (sess ≤ 65535)
  | .busCollapseDetected => true
  | .busCollapseRelease => true
  | .softstartContactorsClosed => true
  | .softstartMatched => true
  | .softstartMatchTimeout => true
  | .softstartSwitchClosed => true
  | .softstartSwitchTimeout => true
  | .softstartComplete => true
  | .shortAbort => true
  | .prechargeTimeout => true
  | .balancingAgeTick => true
  | .rmsRatioBucket => true
  | .estimatorSweep => true
  | .uncertaintyLimitExceeded => true
  | .referenceWindowComplete => true
  | .referenceRequestUnmet => true
  | .estCmdRequestWindow sess => decide (sess ≤ 65535)
  | .estCmdWithdrawRequest sess => decide (sess ≤ 65535)
  | .segEstCmdReplaced sess _ => decide (sess ≤ 65535)
  | .tableCmdSwitchBank sess => decide (sess ≤ 65535)
  | .tableCmdEraseBank sess => decide (sess ≤ 65535)
  | .tableImageWrite sess _ _ => decide (sess ≤ 65535)
  | .thermalEvaluation sensors => decide (sensors.length = 4)
  | .crossChannelExchange _ => true
  | .crossChannelMismatch => true
  | .channelBSample _ _ _ => true
  | .fastComparatorTrip => true
  | .fastComparatorCheck _ => true
  | .i2tBlock => true
  | .seqStep1End => true
  | .classSHoldoffExpiry => true
  | .lintelOpenTimeout => true
  | .step4BlockedTimeout => true
  | .loopTest _ => true
  | .loopTestExpiry _ => true
  | .safetyInputChange _ _ _ => true
  | .inputDiscrepancyTimeout _ => true
  | .testPulseStart _ _ _ _ _ => true
  | .feedbackInputChange _ _ => true
  | .contactorOpenTimeout _ => true
  | .contactorCloseTimeout _ => true
  | .unexpectedOpeningTimeout _ => true
  | .switchDiscrepancyTimeout => true
  | .bayTripRead _ => true
  | .bayTripHeldTimeout => true
  | .safetyReleaseTimer _ => true
  | .safetyCmdReleaseSf09 sess => decide (sess ≤ 65535)
  | .safetyCmdReleaseDeepSf02 sess => decide (sess ≤ 65535)
  | .pePathTest _ => true
  | .insulationHalfPeriod _ _ _ => true
  | .insulationSelftest _ => true
  | .insulationListenGap _ => true
  | .unmonitoredLimitExpiry => true
  | .srdoRefresh => true
  | .srdoSctExpiry _ => true
  | .twinXLowDetected _ => true
  | .twinXTestPulse => true
  | .opticalMarginLow _ _ => true
  | .canFrameRx _ f _ => canFrameWf f
  | .heartbeatRx _ node _ => decide (node ≤ 127)
  | .srdoRx _ _ _ _ => true
  | .rpdoRx _ _ _ => true
  | .startRemoteNode node => decide (node ≤ 127)
  | .stopRemoteNode node => decide (node ≤ 127)
  | .enterPreOperational node => decide (node ≤ 127)
  | .resetNode node => decide (node ≤ 127)
  | .resetCommunication node => decide (node ≤ 127)
  | .heartbeatTx => true
  | .txBufferLoad _ => true
  | .canTxComplete _ _ _ => true
  | .framePromotion _ => true
  | .frameDeadline _ => true
  | .canErrorPassive _ => true
  | .canErrorActive _ => true
  | .canBusOff _ => true
  | .busOffRecoveryComplete _ => true
  | .canNoAckTimeout _ => true
  | .busMonitorCheckEnd => true
  | .canCmdRecover sess _ => decide (sess ≤ 65535)
  | .canCmdClearCounters sess _ => decide (sess ≤ 65535)
  | .referenceMessageSend => true
  | .referenceCancelTimeout _ => true
  | .referenceMessageRx _ _ _ => true
  | .followUpRx _ _ => true
  | .timeHoldoverEntry => true
  | .holdoverLimitExpiry => true
  | .managerSilenceTimeout => true
  | .lssSwitchStateGlobal _ _ => true
  | .lssSwitchStateSelective _ _ _ _ _ => true
  | .lssConfigureNodeId _ node => decide (node ≤ 255)
  | .lssStoreConfiguration _ => true
  | .lssInquireVendor _ => true
  | .lssInquireProduct _ => true
  | .lssInquireRevision _ => true
  | .lssInquireSerial _ => true
  | .lssInquireNodeId _ => true
  | .lssIdentifyRemoteSlave _ _ _ _ _ _ _ => true
  | .lssIdentifyNonConfigured _ => true
  | .odWrite sess _ index sub _ => decide (sess ≤ 65535) && decide (index ≤ 65535) && decide (sub ≤ 255)
  | .odRead sess index sub _ => decide (sess ≤ 65535) && decide (index ≤ 65535) && decide (sub ≤ 255)
  | .segmentedReadTimeout sess => decide (sess ≤ 65535)
  | .readListResultRead sess _ => decide (sess ≤ 65535)
  | .transaction sess _ _ => decide (sess ≤ 65535)
  | .authResponse sess _ => decide (sess ≤ 65535)
  | .lowerLevel sess level => decide (sess ≤ 65535) && decide (level ≤ 255)
  | .sessionIdleTimeout sess => decide (sess ≤ 65535)
  | .authLockExpiry sess => decide (sess ≤ 65535)
  | .safetyParamWrite sess index sub _ => decide (sess ≤ 65535) && decide (index ≤ 65535) && decide (sub ≤ 255)
  | .safetyCmdDiscardEdit sess => decide (sess ≤ 65535)
  | .safetySetConfirm sess crc => decide (sess ≤ 65535) && decide (crc ≤ 4294967295)
  | .editCopyTimeout => true
  | .safetySetCrcCheck _ _ => true
  | .summarySend => true
  | .summaryRx _ _ => true
  | .summaryDeadline => true
  | .baySnapshotSend => true
  | .baySnapshotRx _ => true
  | .dispatchStepRx _ => true
  | .dataPlaneSend => true
  | .ptpAnnounceRx a => announceWf a
  | .ptpSyncRx identity seq _ _ _ _ => decide (identity.length = 8) && decide (seq ≤ 65535)
  | .ptpFollowUpRx identity seq _ _ => decide (identity.length = 8) && decide (seq ≤ 65535)
  | .ptpDelayReqSend _ => true
  | .ptpDelayRespRx seq _ _ => decide (seq ≤ 65535)
  | .siteTimeHoldover => true
  | .siteTimeWaitExpiry => true
  | .manualModuleTime sess time => decide (sess ≤ 65535) && decide (time ≤ 18446744073709551615)
  | .ethernetLinkChange _ => true
  | .arpRequest ip => decide (ip ≤ 4294967295)
  | .icmpEchoRequest ip ident seq _ => decide (ip ≤ 4294967295) && decide (ident ≤ 65535) && decide (seq ≤ 65535)
  | .modbusConnect client => decide (client ≤ 4294967295)
  | .readHoldingRegisters _ start count => decide (start ≤ 65535) && decide (count ≤ 65535)
  | .readInputRegisters _ start count => decide (start ≤ 65535) && decide (count ≤ 65535)
  | .writeSingleRegister _ reg value => decide (reg ≤ 65535) && decide (value ≤ 65535)
  | .writeMultipleRegisters _ start values => decide (start ≤ 65535) && values.all (fun v => decide (v ≤ 65535))
  | .readDeviceIdentification _ => true
  | .logicScan => true
  | .scanOverrun => true
  | .nop => true
  | .ldb o => bitOpWf o
  | .andb o => bitOpWf o
  | .orb o => bitOpWf o
  | .stb o => bitOpWf o
  | .setb o => bitOpWf o
  | .rstb o => bitOpWf o
  | .notb => true
  | .pushb => true
  | .popand => true
  | .popor => true
  | .ld o => wordOpWf o
  | .ldi _ => true
  | .ldhi _ => true
  | .st o => wordOpWf o
  | .add o => wordOpWf o
  | .sub o => wordOpWf o
  | .mul o => wordOpWf o
  | .div o => wordOpWf o
  | .addi _ => true
  | .and o => wordOpWf o
  | .or o => wordOpWf o
  | .shl _ => true
  | .shr _ => true
  | .min o => wordOpWf o
  | .max o => wordOpWf o
  | .eq o => wordOpWf o
  | .ne o => wordOpWf o
  | .lt o => wordOpWf o
  | .gt o => wordOpWf o
  | .jmp _ => true
  | .jmpt _ => true
  | .jmpf _ => true
  | .loop _ => true
  | .next => true
  | .call _ => true
  | .ret => true
  | .end_ => true
  | .ton o => blockOpWf o
  | .tof o => blockOpWf o
  | .tp o => blockOpWf o
  | .ctu o => blockOpWf o
  | .ctd o => blockOpWf o
  | .ctud o => blockOpWf o
  | .rTrig o => blockOpWf o
  | .fTrig o => blockOpWf o
  | .msgrx o => wordOpWf o
  | .msgtx o => wordOpWf o
  | .evt cls code => decide (cls ≤ 3) && decide (code ≤ 65535)
  | .logicCmdStart sess => decide (sess ≤ 65535)
  | .logicCmdStop sess => decide (sess ≤ 65535)
  | .logicCmdActivate sess => decide (sess ≤ 65535)
  | .logicCmdClearForces sess => decide (sess ≤ 65535)
  | .logicCmdEraseInactive sess => decide (sess ≤ 65535)
  | .setForce sess _ => decide (sess ≤ 65535)
  | .releaseForce sess entry => decide (sess ≤ 65535) && decide (entry ≤ 255)
  | .logicImageWrite sess _ _ => decide (sess ≤ 65535)
  | .mirrorFrameSend => true
  | .mirrorFrameRx _ _ _ => true
  | .pairCheckComplete _ _ => true
  | .mirrorFrameMissing => true
  | .urgentWordRx _ => true
  | .stateTransferComplete => true
  | .stateTransferTimeout => true
  | .twinCmdHandover sess => decide (sess ≤ 65535)
  | .twinCmdResync sess => decide (sess ≤ 65535)
  | .handoverClaimLimit => true
  | .recordCommit => true
  | .repeatUpdate => true
  | .recorderCmdFreeze sess => decide (sess ≤ 65535)
  | .recorderCmdRelease sess => decide (sess ≤ 65535)
  | .recorderCmdClear sess => decide (sess ≤ 65535)
  | .freezeTimeout => true
  | .recordsRead sess => decide (sess ≤ 65535)
  | .captureDataRead sess => decide (sess ≤ 65535)
  | .captureArm sess => decide (sess ≤ 65535)
  | .captureForceTrigger sess => decide (sess ≤ 65535)
  | .captureAbort sess => decide (sess ≤ 65535)
  | .chiselStart sess => decide (sess ≤ 65535)
  | .chiselStop sess => decide (sess ≤ 65535)
  | .manifestWrite sess _ => decide (sess ≤ 65535)
  | .stagingBlockWrite sess _ => decide (sess ≤ 65535)
  | .updateCmdVerify sess => decide (sess ≤ 65535)
  | .verificationComplete _ => true
  | .updateCmdActivate sess => decide (sess ≤ 65535)
  | .updateCmdDiscard sess => decide (sess ≤ 65535)
  | .probationConfirm => true
  | .probationTimeTick => true
  | .probationLimit => true
  | .nodeUpdateSegment => true
  | .integratorKeyWrite sess _ => decide (sess ≤ 65535)
  | .flashRefreshBlock _ _ => true
  | .journalCheckpoint => true
  | .countersSaveTick => true
  | .dbgOpen _ => true
  | .dbgAuth _ level mac => decide (level ≤ 255) && decide (mac.length = 16)
  | .dbgClose _ => true
  | .dbgStatus _ => true
  | .dbgRead _ addr len => decide (addr ≤ 4294967295) && decide (len ≤ 65535)
  | .dbgWrite _ addr _ => decide (addr ≤ 4294967295)
  | .dbgOdRead _ index sub => decide (index ≤ 65535) && decide (sub ≤ 255)
  | .dbgOdWrite _ index sub _ => decide (index ≤ 65535) && decide (sub ≤ 255)
  | .logicHalt _ => true
  | .logicStep _ count => decide (count ≤ 65535)
  | .logicStepCourse _ => true
  | .logicRun _ => true
  | .breakSet _ slot kind param => decide (slot ≤ 255) && decide (kind ≤ 255) && decide (param ≤ 4294967295)
  | .breakClear _ slot => decide (slot ≤ 255)
  | .islandHalt _ island => decide (island ≤ 255)
  | .islandRun _ => true
  | .debugIdleTimeout => true
  | .cyclicDiagnostic _ _ => true
  | .withheldRecoveryStart _ => true
  | .modbusConnectionClose _ => true
  | .modbusUnsupportedFunction _ code => decide (code ≤ 65535)
  | .dbgInvalidRequest _ _ => true
  | .nodePowerUp _ => true
  | .nodeCommaLock _ _ => true
  | .nodeComparatorSelftest _ _ => true

end Sys2Proof
end

