-- ==== Sys2Proof/Tests/Slice0.lean ====
section
/-! SUPPORT. The tests: well-formedness, a witness for the hypotheses of every statement, and small examples worked by hand. -/

namespace Sys2Proof.Tests

open Sys2Proof Sys2Proof.Machine

set_option Elab.async false
set_option maxRecDepth 20000
set_option linter.unusedVariables false
set_option linter.unusedTactic false
set_option linter.unreachableTactic false

/-! ### States of the witnesses -/

/-- A change of the live part. -/
def W.lv (s : State) (f : Live → Live) : State := { s with live := f s.live }

/-- STANDBY with both aux inputs present, as string 2, no partner and no token. -/
def W.standby : State :=
  W.lv State.reset (fun L =>
    let L := L.put 0x200002 2
    { L with
      mode := { L.mode with st := .standby }
      pins := { L.pins with aux1 := true, aux2 := true, quarryRelays := false }
      ks := { L.ks with atBoot := [(0x200002, 2)] } })

/-- The same in another state; a driving module holds its token with its contacts closed. -/
def W.inState (m : MState) : State :=
  W.lv W.standby (fun L =>
    let drives : Bool := m == .precharge || m == .run || m == .derated
    { L with
      mode := { L.mode with st := m }
      twin := { L.twin with holds := drives } })

/-- STANDBY, operational, with the open access level at 4. -/
def W.granted : State := W.lv W.standby (fun L => { L.put 0x4C0007 4 with com := { L.com with nmt := 5 } })

/-- A clean report of BOOT. -/
def W.report : BootReport :=
  { holdupUf := 5000, verifyA := true, verifyB := true, logicRetainedOk := true, estRetainedOk := true, copyAOk := true, copyBOk := true,
    tallyOk := true }

/-- A sample on time. -/
def W.sample : SampleIn := { shunt := 0, fluxgate := 0, vBus := 0, vStr := 0, badCrossing := none, tableLate := false }

/-- A sample whose table is late. -/
def W.lateSample : SampleIn := { W.sample with tableLate := true }

/-- Six fitted segments whose links are up. -/
def W.enableReady : State :=
  W.lv W.granted (fun L =>
    let L := (List.range 6).foldl (fun (L : Live) s => L.put ((0x3400 + s) * 256 + 0x20) 1) L
    { L with
      ks := { L.ks with ctl := L.obj }
      seg := L.seg.map (fun (g : Seg) => { g with link := 3, valid := true, wasValid := true }) })

/-- RUN with six segments inserted. -/
def W.sixRunning : State :=
  W.lv W.enableReady (fun L =>
    { L with
      mode := { L.mode with st := .run }
      conv := { L.conv with act := [0, 1, 2, 3, 4, 5], nact := 6 } })

/-- An uplink of 46 bytes with its comma and its check. -/
def W.uplink : Bytes :=
  let b := List.replicate 41 (0 : Byte)
  BitVec.ofNat 8 0xBC :: b ++ leBytes 4 (crc32c b)

/-- A management request. -/
def W.req : MgmtReq := { op := 1, tag := 1, addr := 0x100, data := [], tries := 0 }

/-- Node 15 powered, its token at port 2, a frame command of MODE bypass in force. -/
def W.nodeUp : State :=
  W.lv W.standby (fun L =>
    L.modNode 15 (fun n =>
      { n with tport := 2, cmd := some { permit := true, modulate := false, pslot := 0, nact := 4, cidx := 0, duty := 0 } }))

/-- Node 3 with its TAG and SEGMENT written. -/
def W.claiming : State :=
  W.lv W.standby (fun L => L.modNode 3 (fun n => { n with regs := [(0x100, 2), (0x101, 3)], epoch := 7 }))

/-- Safe-state sequences at their steps. -/
def W.seqS : Seq := { kind := .classS, step := 1, since := 0 }
/-- Step 2. -/
def W.seqS2 : Seq := { kind := .classS, step := 2, since := 0, offAt := some 5 }
/-- Step 3. -/
def W.seqS3 : Seq := { kind := .classS, step := 3, since := 0, offAt := some 5, step3At := some 5 }

/-- The token holder of a string that measures its own insulation. -/
def W.ownString : State :=
  W.lv W.standby (fun L => { L with twin := { L.twin with holds := true }, pins := { L.pins with insRelay := true } })

/-- A queued frame. -/
def W.txFrame : TxFrame := { f := canFrame 0x123 [], cls := 2, ring := 2, at_ := 5, num := 1, who := 0 }
/-- A frame in arbitration. -/
def W.txBuf : TxBuf := { f := W.txFrame, inArb := true, cancel := 0 }
/-- The own reference frame. -/
def W.refFrame : TxFrame := { W.txFrame with f := canFrame (W.standby.live.bootN 0x220010) [], who := 2 }

/-- A downlink that claims node 3 at port 0 with sequence 8. -/
def W.claim : Bytes :=
  let w := leBytes 1 0x3C ++ leBytes 1 3 ++ leBytes 2 8
  let c := schkDown 2 w
  let body := leBytes 1 144 ++ leBytes 1 8 ++ [4, 2] ++ leBytes 2 8 ++ [0] ++ w ++ [BitVec.ofNat 8 (c / 256), BitVec.ofNat 8 c]
  let k := fcrc body
  BitVec.ofNat 8 0xBC :: body ++ [BitVec.ofNat 8 (k / 256), BitVec.ofNat 8 k]

/-- What it says. -/
def W.claimRead : DownFrame :=
  (parseDown 2 W.claim).getD
    { tok := false, side := (0, 0), tgen := 0, seg := 0, seq := 0,
      cmd := { permit := false, modulate := false, pslot := 0, nact := 4, cidx := 0, duty := 0 } }

/-- A reference frame heard and the follow-up to it. -/
def W.refRx : RefRx := { bus := 0, sender := 1, seq := 3, sof := 100 }
/-- Its follow-up: transmit time, sequence, sender, quality. -/
def W.followUp : Bytes := leBytes 8 30000000 ++ leBytes 2 3 ++ [1, 0]

/-- An unassigned module whose buses are in the configuration state. -/
def W.lss : State :=
  W.lv W.standby (fun L =>
    { L.put 0x200002 255 with ks := { L.ks with atBoot := [] }, com := { L.com with lssConf := [true, true] } })

/-- A record. -/
def W.rec : Rec :=
  { seq := 7, time := 5, source := 8, cls := 1, code := 2, standby := false, coalesced := false, rep := 0, lastRep := 0,
    payload := List.replicate 32 0, era := 0 }

/-- One entry waits in the intake. -/
def W.waiting : State := W.lv W.standby (fun L => { L with rcd := { L.rcd with intake := [(.normal, W.rec)] } })

/-- Record 7 is in the cairn. -/
def W.record : State :=
  W.lv W.waiting (fun L => ((L.put 0x46000E 7).put 0x46000F 1).commitRecord)

/-- Operational, for writes. -/
def W.write : State := W.lv W.granted (fun L => { L with com := { L.com with nmt := 5 } })

/-- A transaction of one entry of four bytes, on condition of its base epoch. -/
def W.txnOf (k : Nat) : Bytes :=
  let b := leBytes 2 1 ++ [1, 1] ++ leBytes 4 5 ++ leBytes 8 9 ++ leBytes 2 (k / 256) ++ [BitVec.ofNat 8 k, 4] ++ leBytes 4 5
  b ++ leBytes 4 (crc32c b)
/-- Of an object that may be written. -/
def W.txn : Bytes := W.txnOf 0x300002
/-- Of one that may not. -/
def W.txnBad : Bytes := W.txnOf 0x300030

/-- An edit copy that is consistent. -/
def W.confirm : State :=
  W.lv W.granted (fun L =>
    { L.put 0x401001 200000 with
      ks := { L.ks with edit := some { owner := 0x1001, vals := [], lastWrite := 0 } } })

/-- A module with a summary of this bay epoch. -/
def W.summary : State :=
  W.lv W.write (fun L => { L with mgr := { L.mgr with own := List.replicate 48 0 } })

/-- The lead manager, its network up. -/
def W.manager : State :=
  W.lv W.standby (fun L =>
    let L := (L.put 0x200002 1).put 0x500023 2
    { L with
      ks := { L.ks with atBoot := [(0x200002, 1)] }
      mgr := { L.mgr with lead := true }
      pins := { L.pins with phyOn := true }
      com := { L.com with nmt := 5 } })

/-- The lead manager with a summary of its own string. -/
def W.leadSummary : State := W.lv W.manager (fun L => { L with mgr := { L.mgr with own := List.replicate 48 0 } })

/-- A summary of bay epoch 0. -/
def W.summaryBytes : Bytes := List.replicate 48 0

/-- An Announce. -/
def W.announce : Announce :=
  { priority1 := 1, clockClass := 6, accuracy := 0, variance := 0, priority2 := 1, identity := [1], stepsRemoved := 0, ptpTimescale := true,
    domain := W.manager.live.getN 0x500024 }

/-- A manager that follows a time source. -/
def W.ptpManager : State :=
  W.lv W.manager (fun L => { L with mgr := { L.mgr with ptp := { L.mgr.ptp with master := some (W.announce, 0) } } })

/-- A manager with Modbus connection 3 open. -/
def W.modbus : State :=
  W.lv W.manager (fun L => { L with mgr := { L.mgr with conns := [none, none, none, some { client := 5, level := 2 }, none, none, none, none] } })

/-- A scan under way. -/
def W.logic : State :=
  W.lv W.standby (fun L => L.modLgc (fun g => { g with vm := { g.vm with bst := [true, false], loops := [(3, 2)], calls := [9, 4], acc := 5, ba := true } }))

/-- In step with the other twin, which stands at node-ID 66. -/
def W.paired : State :=
  W.lv W.standby (fun L => { L with twin := { L.twin with pair := 3, holds := true, p := { L.twin.p with node := 66 } } })

/-- A mirror frame of the present epoch. -/
def W.mirror : Bytes :=
  let b := leBytes 2 0 ++ leBytes 1 66 ++ leBytes 1 0 ++ leBytes 8 W.paired.live.epoch ++ List.replicate 1008 0
  b ++ leBytes 4 (crc32c b)

/-- An urgent word. -/
def W.urgent (d0 d1 : Nat) : Bytes :=
  let d := leBytes 1 d0 ++ leBytes 1 d1
  d ++ leBytes 2 (fcrc d)

/-- A manifest of one part of the kind in one block. -/
def W.manifestOf (kind : Byte) : Bytes :=
  leBytes 4 0x584D4647 ++ [1, 1, 1, 1] ++ leBytes 4 77 ++ leBytes 4 1 ++ leBytes 4 1 ++ leBytes 2 0x100 ++ List.replicate 10 0 ++
    [kind, 0] ++ List.replicate 18 0 ++ leBytes 4 4096 ++ leBytes 4 1 ++ List.replicate 32 9 ++ leBytes 4 0 ++ List.replicate 64 5
/-- A module image. -/
def W.manifest : Bytes := W.manifestOf 1

/-- Its only block. -/
def W.block : Bytes :=
  let d := List.replicate 4096 (7 : Byte)
  leBytes 4 77 ++ [0, 0] ++ leBytes 2 0 ++ leBytes 4 (crc32c d) ++ leBytes 2 4096 ++ leBytes 2 0 ++ d

/-- A set being staged in slot A. -/
def W.staging : State :=
  W.lv W.granted (fun L => { L.put 0x480001 1 with upd := { L.upd with slots := [some { manifest := W.manifest }, none] } })

/-- Its verification. -/
def W.verifying : State := W.lv W.staging (fun L => L.put 0x480001 3)

/-- The node of segment 2 does not answer while it is updated. -/
def W.nodeUpd : State :=
  W.lv W.granted (fun L =>
    let L := ((L.put 0x480001 10).put (segKey 2 0x2A) 5).modSeg 2 (fun g => { g with model := List.replicate 16 0 })
    { L with
      twin := { L.twin with holds := true }
      time := { L.time with clk := sec 6 }
      upd := { L.upd with
        running := 1
        slots := [some { manifest := W.manifestOf 3 }, none]
        nodeSeg := some (2, 2, 0) } })

/-- A debug session at level 2. -/
def W.dbg : State := W.lv W.standby (fun L => { L.put 0x4C0026 1 with dbg := { L.dbg with session := some (2, 0) } })

/-! ### Well-formedness -/

/-- Operands that fit their fields, and one beyond in some member. -/
def okBit : BitOp := { space := 0, inv := false, bit := 7, addr := 131071 }
/-- The bit number does not fit. -/
def badBit : BitOp := { okBit with bit := 8 }
/-- A word operand. -/
def okWord : WordOp := { space := 0, width := 3, sgn := false, addr := 262143 }
/-- The width code does not fit. -/
def badWord : WordOp := { okWord with width := 4 }
/-- A block operand. -/
def okBlock : BlockOp := { space := 3, addr := 65535 }
/-- The space code does not fit. -/
def badBlock : BlockOp := { okBlock with space := 4 }
/-- An Announce. -/
def okAnn : Announce :=
  { priority1 := 255, clockClass := 255, accuracy := 255, variance := 65535, priority2 := 255, identity := List.replicate 8 0,
    stepsRemoved := 65535, ptpTimescale := true, domain := 255 }
/-- Its identity is too short. -/
def badAnn : Announce := { okAnn with identity := [] }

/-- Operands whose other members do not fit. -/
theorem test_operandsIllFormed :
    ([{ okBit with space := 8 }, { okBit with addr := 131072 }].all (fun o => !bitOpWf o) &&
    [{ okWord with space := 8 }, { okWord with addr := 262144 }].all (fun o => !wordOpWf o) && !blockOpWf { okBlock with addr := 65536 } &&
    [{ okAnn with priority1 := 256 }, { okAnn with clockClass := 256 }, { okAnn with accuracy := 256 }, { okAnn with variance := 65536 },
      { okAnn with priority2 := 256 }, { okAnn with stepsRemoved := 65536 }, { okAnn with domain := 256 }].all (fun a => !announceWf a)) =
    true := by decide +kernel

theorem test_illFormed_0 :
    ((
    [.auxInputPresent 0 4294967296, .auxInputAbsent 0 4294967296, .cmdEnable 65536, .cmdDisable 65536,
      .cmdAcknowledge 65536, .cmdEnterService 65536, .cmdLeaveService 65536, .cmdEnterQuarry 65536, .cmdReset 65536,
      .cmdColdRestartLogic 65536, .cmdColdRestartEstimator 65536, .nodeCmdCommission 65536 0, .nodeCmdReleaseLatch 65536 0,
      .nodeCmdRepeatBringup 65536 0, .nodeCmdComparatorTest 65536 0, .mgmtRead 0 0 0 4294967296 0, .mgmtRead 0 0 0 0 65536,
      .mgmtWrite 0 0 0 4294967296 [], .imageActivate 0 0 0 [], .segCmdBypass 65536 0, .segCmdReturn 65536 0,
      .estCmdRequestWindow 65536, .estCmdWithdrawRequest 65536, .segEstCmdReplaced 65536 0] : List Instr).all
      (fun i => !wellFormed i)) = true := by decide +kernel

theorem test_illFormed_1 :
    ((
    [.tableCmdSwitchBank 65536, .tableCmdEraseBank 65536, .tableImageWrite 65536 0 [], .thermalEvaluation [],
      .safetyCmdReleaseSf09 65536, .safetyCmdReleaseDeepSf02 65536, .canFrameRx 0 (canFrame 2048 []) 0,
      .canFrameRx 0 (canFrame 0 (List.replicate 9 0)) 0, .heartbeatRx 0 128 0, .startRemoteNode 128, .stopRemoteNode 128,
      .enterPreOperational 128, .resetNode 128, .resetCommunication 128, .canCmdRecover 65536 0,
      .canCmdClearCounters 65536 0, .lssConfigureNodeId 0 256, .odWrite 65536 false 0 0 [], .odWrite 0 false 65536 0 [],
      .odWrite 0 false 0 256 [], .odRead 65536 0 0 false, .odRead 0 65536 0 false, .odRead 0 0 256 false,
      .segmentedReadTimeout 65536] : List Instr).all
      (fun i => !wellFormed i)) = true := by decide +kernel

theorem test_illFormed_2 :
    ((
    [.readListResultRead 65536 0, .transaction 65536 false [], .authResponse 65536 [], .lowerLevel 65536 0,
      .lowerLevel 0 256, .sessionIdleTimeout 65536, .authLockExpiry 65536, .safetyParamWrite 65536 0 0 [],
      .safetyParamWrite 0 65536 0 [], .safetyParamWrite 0 0 256 [], .safetyCmdDiscardEdit 65536, .safetySetConfirm 65536 0,
      .safetySetConfirm 0 4294967296, .ptpAnnounceRx badAnn, .ptpSyncRx [] 0 false 0 0 0,
      .ptpSyncRx (List.replicate 8 0) 65536 false 0 0 0, .ptpFollowUpRx [] 0 0 0,
      .ptpFollowUpRx (List.replicate 8 0) 65536 0 0, .ptpDelayRespRx 65536 0 0, .manualModuleTime 65536 0,
      .manualModuleTime 0 18446744073709551616, .arpRequest 4294967296, .icmpEchoRequest 4294967296 0 0 [],
      .icmpEchoRequest 0 65536 0 []] : List Instr).all
      (fun i => !wellFormed i)) = true := by decide +kernel

theorem test_illFormed_3 :
    ((
    [.icmpEchoRequest 0 0 65536 [], .modbusConnect 4294967296, .readHoldingRegisters 0 65536 0,
      .readHoldingRegisters 0 0 65536, .readInputRegisters 0 65536 0, .readInputRegisters 0 0 65536,
      .writeSingleRegister 0 65536 0, .writeSingleRegister 0 0 65536, .writeMultipleRegisters 0 65536 [],
      .writeMultipleRegisters 0 0 [65536], .ldb badBit, .andb badBit, .orb badBit, .stb badBit, .setb badBit, .rstb badBit,
      .ld badWord, .st badWord, .add badWord, .sub badWord, .mul badWord, .div badWord, .and badWord, .or badWord] : List Instr).all
      (fun i => !wellFormed i)) = true := by decide +kernel

theorem test_illFormed_4 :
    ((
    [.min badWord, .max badWord, .eq badWord, .ne badWord, .lt badWord, .gt badWord, .ton badBlock, .tof badBlock,
      .tp badBlock, .ctu badBlock, .ctd badBlock, .ctud badBlock, .rTrig badBlock, .fTrig badBlock, .msgrx badWord,
      .msgtx badWord, .evt 4 0, .evt 0 65536, .logicCmdStart 65536, .logicCmdStop 65536, .logicCmdActivate 65536,
      .logicCmdClearForces 65536, .logicCmdEraseInactive 65536, .setForce 65536 []] : List Instr).all
      (fun i => !wellFormed i)) = true := by decide +kernel

theorem test_illFormed_5 :
    ((
    [.releaseForce 65536 0, .releaseForce 0 256, .logicImageWrite 65536 0 [], .twinCmdHandover 65536, .twinCmdResync 65536,
      .recorderCmdFreeze 65536, .recorderCmdRelease 65536, .recorderCmdClear 65536, .recordsRead 65536,
      .captureDataRead 65536, .captureArm 65536, .captureForceTrigger 65536, .captureAbort 65536, .chiselStart 65536,
      .chiselStop 65536, .manifestWrite 65536 [], .stagingBlockWrite 65536 [], .updateCmdVerify 65536,
      .updateCmdActivate 65536, .updateCmdDiscard 65536, .integratorKeyWrite 65536 [], .dbgAuth 0 256 (List.replicate 16 0),
      .dbgAuth 0 0 [], .dbgRead 0 4294967296 0] : List Instr).all
      (fun i => !wellFormed i)) = true := by decide +kernel

theorem test_illFormed_6 :
    ((
    [.dbgRead 0 0 65536, .dbgWrite 0 4294967296 [], .dbgOdRead 0 65536 0, .dbgOdRead 0 0 256, .dbgOdWrite 0 65536 0 [],
      .dbgOdWrite 0 0 256 [], .logicStep 0 65536, .breakSet 0 256 0 0, .breakSet 0 0 256 0, .breakSet 0 0 0 4294967296,
      .breakClear 0 256, .islandHalt 0 256, .modbusUnsupportedFunction 0 65536] : List Instr).all
      (fun i => !wellFormed i)) = true := by decide +kernel

theorem test_wellFormed_0 :
    ((
    [.auxInputPresent 0 0, .auxInputAbsent 0 0, .cmdEnable 0, .cmdDisable 0, .cmdAcknowledge 0, .cmdEnterService 0,
      .cmdLeaveService 0, .cmdEnterQuarry 0, .cmdReset 0, .cmdColdRestartLogic 0, .cmdColdRestartEstimator 0,
      .nodeCmdCommission 0 0, .nodeCmdReleaseLatch 0 0, .nodeCmdRepeatBringup 0 0, .nodeCmdComparatorTest 0 0,
      .mgmtRead 0 0 0 0 0, .mgmtWrite 0 0 0 0 [], .imageActivate 0 0 0 (List.replicate 32 0), .segCmdBypass 0 0,
      .segCmdReturn 0 0, .estCmdRequestWindow 0, .estCmdWithdrawRequest 0, .segEstCmdReplaced 0 0, .tableCmdSwitchBank 0] : List Instr).all
      (fun i => wellFormed i)) = true := by decide +kernel

theorem test_wellFormed_1 :
    ((
    [.tableCmdEraseBank 0, .tableImageWrite 0 0 [], .thermalEvaluation [none, none, none, none], .safetyCmdReleaseSf09 0,
      .safetyCmdReleaseDeepSf02 0, .canFrameRx 0 (canFrame 0 []) 0, .heartbeatRx 0 0 0, .startRemoteNode 0,
      .stopRemoteNode 0, .enterPreOperational 0, .resetNode 0, .resetCommunication 0, .canCmdRecover 0 0,
      .canCmdClearCounters 0 0, .lssConfigureNodeId 0 0, .odWrite 0 false 0 0 [], .odRead 0 0 0 false,
      .segmentedReadTimeout 0, .readListResultRead 0 0, .transaction 0 false [], .authResponse 0 [], .lowerLevel 0 0,
      .sessionIdleTimeout 0, .authLockExpiry 0] : List Instr).all
      (fun i => wellFormed i)) = true := by decide +kernel

theorem test_wellFormed_2 :
    ((
    [.safetyParamWrite 0 0 0 [], .safetyCmdDiscardEdit 0, .safetySetConfirm 0 0, .ptpAnnounceRx okAnn,
      .ptpSyncRx (List.replicate 8 0) 0 false 0 0 0, .ptpFollowUpRx (List.replicate 8 0) 0 0 0, .ptpDelayRespRx 0 0 0,
      .manualModuleTime 0 0, .arpRequest 0, .icmpEchoRequest 0 0 0 [], .modbusConnect 0, .readHoldingRegisters 0 0 0,
      .readInputRegisters 0 0 0, .writeSingleRegister 0 0 0, .writeMultipleRegisters 0 0 [], .ldb okBit, .andb okBit,
      .orb okBit, .stb okBit, .setb okBit, .rstb okBit, .ld okWord, .st okWord, .add okWord] : List Instr).all
      (fun i => wellFormed i)) = true := by decide +kernel

theorem test_wellFormed_3 :
    ((
    [.sub okWord, .mul okWord, .div okWord, .and okWord, .or okWord, .min okWord, .max okWord, .eq okWord, .ne okWord,
      .lt okWord, .gt okWord, .ton okBlock, .tof okBlock, .tp okBlock, .ctu okBlock, .ctd okBlock, .ctud okBlock,
      .rTrig okBlock, .fTrig okBlock, .msgrx okWord, .msgtx okWord, .evt 0 0, .logicCmdStart 0, .logicCmdStop 0] : List Instr).all
      (fun i => wellFormed i)) = true := by decide +kernel

theorem test_wellFormed_4 :
    ((
    [.logicCmdActivate 0, .logicCmdClearForces 0, .logicCmdEraseInactive 0, .setForce 0 [], .releaseForce 0 0,
      .logicImageWrite 0 0 [], .twinCmdHandover 0, .twinCmdResync 0, .recorderCmdFreeze 0, .recorderCmdRelease 0,
      .recorderCmdClear 0, .recordsRead 0, .captureDataRead 0, .captureArm 0, .captureForceTrigger 0, .captureAbort 0,
      .chiselStart 0, .chiselStop 0, .manifestWrite 0 [], .stagingBlockWrite 0 [], .updateCmdVerify 0, .updateCmdActivate 0,
      .updateCmdDiscard 0, .integratorKeyWrite 0 []] : List Instr).all
      (fun i => wellFormed i)) = true := by decide +kernel

theorem test_wellFormed_5 :
    ((
    [.dbgAuth 0 0 (List.replicate 16 0), .dbgRead 0 0 0, .dbgWrite 0 0 [], .dbgOdRead 0 0 0, .dbgOdWrite 0 0 0 [],
      .logicStep 0 0, .breakSet 0 0 0 0, .breakClear 0 0, .islandHalt 0 0, .modbusUnsupportedFunction 0 0] : List Instr).all
      (fun i => wellFormed i)) = true := by decide +kernel

/-! ### Witnesses: each states the hypotheses of one clause of the statement it is named after, at a state that meets them -/

theorem witness_SupplyPresenceIsRecorded :
    ((fun (s : State) (input : Fin 2) (mv : Nat) => mv < 17000) (State.reset) 1 16999) ∧
    ((fun (s : State) (input : Fin 2) (mv : Nat) => 17000 ≤ mv ∧ s.live.mode.st ≠ .quarry ∧ s.live.mode.st ≠ .off) W.standby 1
      17000) ∧
    ((fun (s : State) (input : Fin 2) (mv : Nat) => 16000 ≤ mv) W.standby 0 16000) ∧
    ((fun (s : State) (input : Fin 2) (mv : Nat) => mv < 16000 ∧ (if input = 0 then s.live.pins.aux2 else s.live.pins.aux1) = true)
      W.standby 0 15999) ∧
    ((fun (s : State) (input : Fin 2) (mv : Nat) => mv < 16000 ∧ s.live.powered = true ∧ (if input = 0 then s.live.pins.aux1 else
      s.live.pins.aux2) = true ∧ (if input = 0 then s.live.pins.aux2 else s.live.pins.aux1) = false ∧ s.live.twin.holds = false)
      (W.lv W.standby (fun L => { L with pins := { L.pins with aux1 := false } })) 1 0) ∧
    ((fun (s : State) (input : Fin 2) (mv : Nat) => mv < 16000 ∧ s.live.driving = true ∧ (if input = 0 then s.live.pins.aux1 else
      s.live.pins.aux2) = true ∧ (if input = 0 then s.live.pins.aux2 else s.live.pins.aux1) = false ∧ s.live.twin.holds = true ∧
      s.live.hasPartner = false) (W.lv (W.inState .run) (fun L => { L with pins := { L.pins with aux2 := false } })) 0 15999) ∧
    ((fun (s : State) => s.live.powered = true) W.standby) := by
  refine ⟨?_, ?_, ?_, ?_, ?_, ?_, ?_⟩
  all_goals first | decide +kernel | ((repeat' apply And.intro) <;> first | rfl | exact Or.inr rfl | decide +kernel)

theorem witness_ResetsEnterBoot :
    ((fun (s : State) (ms : Nat) => s.live.mode.st = .quarry ∧ 10 ≤ ms) State.reset 10) ∧
    ((fun (s : State) (ms : Nat) => (s.live.mode.st ≠ .quarry ∨ ms < 10)) State.reset 9) ∧
    ((fun (s : State) (input : Fin 2) (mv : Nat) => (s.live.mode.st = .quarry ∨ s.live.mode.st = .off) ∧ 17000 ≤ mv ∧ (if input = 0
      then s.live.pins.aux1 else s.live.pins.aux2) = false) State.reset 0 17000) ∧
    ((fun (s : State) => s.live.powered = true ∧ s.live.dbg.halted = 0) W.standby) ∧
    ((fun (s : State) => s.live.powered = true ∧ s.live.dbg.halted ≠ 0) (W.lv W.standby (fun L =>
      { L with dbg := { L.dbg with halted := 1 } }))) ∧
    ((fun (s : State) (sess : Sess) => Granted sess 2 s.live) W.granted 0x1001) ∧
    ((fun (s : State) => s.live.driving = true ∧ s.live.inStep = false) (W.inState .run)) ∧
    ((fun (s : State) => s.live.driving = false ∧ s.live.mode.holdOffB = false ∧ s.live.mode.st ≠ .safe) W.standby) := by
  refine ⟨?_, ?_, ?_, ?_, ?_, ?_, ?_, ?_⟩
  all_goals first | decide +kernel | ((repeat' apply And.intro) <;> first | rfl | exact Or.inr rfl | decide +kernel)

theorem witness_StartUpReachesStandby :
    ((fun (s : State) (r : BootReport) => s.live.mode.st = .boot ∧ s.live.mode.booted = false) (W.inState .boot) W.report) ∧
    ((fun (s : State) (r : BootReport) => (s.live.mode.st ≠ .boot ∨ s.live.mode.booted = true)) W.standby W.report) ∧
    ((fun (s : State) => s.live.mode.st = .boot ∧ s.live.mode.booted = true ∧ s.live.upd.running ≠ 0) (W.lv (W.inState .boot) (fun
      L => { L with mode := { L.mode with booted := true }, upd := { L.upd with running := 1 } }))) ∧
    ((fun (s : State) => s.live.mode.st = .boot ∧ s.live.mode.booted = true ∧ s.live.upd.running = 0) (W.lv (W.inState .boot) (fun
      L => { L with mode := { L.mode with booted := true } }))) ∧
    ((fun (s : State) => s.live.powered = true ∧ s.live.mode.listening = true) (W.lv W.standby (fun L =>
      { L with mode := { L.mode with listening := true } }))) ∧
    ((fun (s : State) (failed : Nat) => s.live.mode.st = .selftest ∧ s.live.mode.listening = false ∧ s.live.mode.classCFail = false
      ∧ s.live.saf.fastLatch = false ∧ classC.any (fun b => bitOf ((s.live.testResults failed).getN 0x20001A) b) = false)
      (W.inState .selftest) 0) ∧
    ((fun (s : State) (failed : Nat) => s.live.mode.st = .selftest ∧ s.live.mode.listening = false ∧ s.live.mode.classCFail = false
      ∧ s.live.saf.fastLatch = true ∧ s.live.decided 4 1 = false ∧ s.live.decided 4 2 = false ∧ classC.any (fun b => bitOf
      ((s.live.testResults failed).getN 0x20001A) b) = false) (W.lv (W.inState .selftest) (fun L =>
      { L with saf := { L.saf with fastLatch := true } })) 0) ∧
    ((fun (s : State) (failed : Nat) => s.live.mode.st = .selftest ∧ s.live.mode.listening = false ∧ s.live.mode.classCFail = false
      ∧ classC.any (fun b => bitOf ((s.live.testResults failed).getN 0x20001A) b) = true) (W.inState .selftest) 2) := by
  refine ⟨?_, ?_, ?_, ?_, ?_, ?_, ?_, ?_⟩
  all_goals first | decide +kernel | ((repeat' apply And.intro) <;> first | rfl | exact Or.inr rfl | decide +kernel)

theorem witness_EnableDisableAcknowledge_0 :
    ((fun (s : State) (sess : Sess) => Granted sess 1 s.live ∧ s.live.mode.st = .standby ∧ s.live.mode.quarryEntry = false ∧
      s.live.cooling = false ∧ s.live.enableRefused = false) W.enableReady 0x1001) ∧
    ((fun (s : State) (sess : Sess) => Granted sess 1 s.live ∧ s.live.mode.st = .standby ∧ s.live.mode.quarryEntry = false ∧
      s.live.cooling = false ∧ s.live.unassigned = false ∧ s.live.enableRefused = true) W.granted 0x1001) ∧
    ((fun (s : State) (sess : Sess) => Granted sess 1 s.live ∧ s.live.mode.st = .safe ∧ s.live.mode.quarryEntry = false ∧
      s.live.unassigned = false) (W.lv W.granted (fun L => { L with mode := { L.mode with st := .safe } })) 0x1001) ∧
    ((fun (s : State) (sess : Sess) => Granted sess 1 s.live ∧ (s.live.mode.st = .service ∨ s.live.mode.st = .boot ∨ s.live.mode.st
      = .selftest) ∧ s.live.unassigned = false) (W.lv W.granted (fun L => { L with mode := { L.mode with st := .service } }))
      0x1001) ∧
    ((fun (s : State) (sess : Sess) => Granted sess 1 s.live ∧ s.live.mode.quarryEntry = false ∧ s.live.unassigned = true) (W.lv
      W.granted (fun L =>
      { L.put 0x200002 255 with ks := { L.ks with atBoot := [] }, dbg := { L.dbg with session := some (4, 0) } })) 0x4000) ∧
    ((fun (s : State) (sess : Sess) => Granted sess 1 s.live ∧ s.live.driving = true ∧ s.live.mode.seq = none) (W.lv W.granted (fun
      L => { L with mode := { L.mode with st := .run } })) 0x1001) ∧
    ((fun (s : State) (sess : Sess) => Granted sess 1 s.live ∧ s.live.driving = false ∧ s.live.mode.pendEnable ≠ none) (W.lv
      W.granted (fun L => { L with mode := { L.mode with st := .safe, pendEnable := some 5 } })) 0x1001) ∧
    ((fun (s : State) (sess : Sess) => Granted sess 1 s.live ∧ s.live.driving = false ∧ s.live.mode.pendEnable = none) W.granted
      0x1001) := by
  refine ⟨?_, ?_, ?_, ?_, ?_, ?_, ?_, ?_⟩
  all_goals first | decide +kernel | ((repeat' apply And.intro) <;> first | rfl | exact Or.inr rfl | decide +kernel)

theorem witness_EnableDisableAcknowledge_1 :
    ((fun (s : State) (sess : Sess) => Granted sess 1 s.live ∧ s.live.safeDone = true ∧ s.live.getN 0x404002 = 0 ∧
      s.live.saf.obeyed = none ∧ s.live.allReleased = true) (W.lv W.granted (fun L =>
      { L with mode := { L.mode with st := .safe } })) 0x1001) ∧
    ((fun (s : State) (sess : Sess) => Granted sess 1 s.live ∧ (s.live.safeDone = false ∨ s.live.getN 0x404002 ≠ 0 ∨
      s.live.saf.obeyed ≠ none ∨ s.live.allReleased = false)) W.granted 0x1001) := by
  refine ⟨?_, ?_⟩
  all_goals first | decide +kernel | ((repeat' apply And.intro) <;> first | rfl | exact Or.inr rfl | decide +kernel)

theorem witness_ServiceAndQuarryCommands_0 :
    ((fun (s : State) (sess : Sess) => Granted sess 2 s.live ∧ ((s.live.mode.st = .standby ∧ s.live.mode.quarryEntry = false) ∨
      s.live.safeDone = true)) W.granted 0x1001) ∧
    ((fun (s : State) (sess : Sess) => Granted sess 2 s.live ∧ s.live.driving = true) (W.lv W.granted (fun L =>
      { L with mode := { L.mode with st := .run } })) 0x1001) ∧
    ((fun (s : State) (sess : Sess) => Granted sess 2 s.live ∧ s.live.mode.st = .service ∧ s.live.getN 0x20000D ≠ 2) (W.lv
      W.granted (fun L => { L with mode := { L.mode with st := .service } })) 0x1001) ∧
    ((fun (s : State) (sess : Sess) => Served sess 2 s.live ∧ s.live.ks.commands < 16 ∧ s.live.follower = false ∧ s.live.mode.st =
      .service ∧ s.live.getN 0x20000D = 2) (W.lv W.granted (fun L =>
      { L.put 0x20000D 2 with mode := { L.mode with st := .service } })) 0x1001) ∧
    ((fun (s : State) (sess : Sess) => Granted sess 2 s.live ∧ (s.live.mode.st = .standby ∨ s.live.mode.st = .service) ∧
      s.live.mode.quarryEntry = false ∧ s.live.allOpen = true ∧ s.live.mgr.lead = false) W.granted 0x1001) ∧
    ((fun (s : State) (sess : Sess) => Granted sess 2 s.live ∧ (s.live.mode.st = .standby ∨ s.live.mode.st = .service) ∧
      s.live.mode.quarryEntry = false ∧ s.live.allOpen = false) (W.lv W.granted (fun L =>
      { L with pins := { L.pins with sswOpen := false } })) 0x1001) ∧
    ((fun (s : State) => s.live.mode.quarryEntry = true ∧ (s.live.mode.st = .standby ∨ s.live.mode.st = .service)) (W.lv W.standby
      (fun L => { L with mode := { L.mode with quarryEntry := true } }))) ∧
    ((fun (s : State) => s.live.powered = true ∧ s.live.pins.holdup = true) (W.lv W.standby (fun L =>
      { L with pins := { L.pins with holdup := true } }))) := by
  refine ⟨?_, ?_, ?_, ?_, ?_, ?_, ?_, ?_⟩
  all_goals first | decide +kernel | ((repeat' apply And.intro) <;> first | rfl | exact Or.inr rfl | decide +kernel)

theorem witness_ServiceAndQuarryCommands_1 :
    ((fun (s : State) => s.live.pins.holdup = false) W.standby) := by
  all_goals first | decide +kernel | ((repeat' apply And.intro) <;> first | rfl | exact Or.inr rfl | decide +kernel)

theorem witness_RestartsAndModuleTimers :
    ((fun (s : State) (sess : Sess) => Granted sess 2 s.live ∧ s.live.fromStandby = true) W.granted 0x1001) ∧
    ((fun (s : State) (sess : Sess) => Granted sess 2 s.live ∧ s.live.fromStandby = false) (W.lv W.granted (fun L =>
      { L with mode := { L.mode with st := .selftest } })) 0x1001) ∧
    ((fun (s : State) (sess : Sess) => Granted sess 2 s.live ∧ (s.live.mode.st = .standby ∨ s.live.mode.st = .service)) W.granted
      0x1001) ∧
    ((fun (s : State) (sess : Sess) => Granted sess 2 s.live ∧ s.live.driving = true) (W.lv W.granted (fun L =>
      { L with mode := { L.mode with st := .run } })) 0x1001) ∧
    ((fun (s : State) (t : Nat) => s.live.powered = true ∧ s.live.mode.pendEnable = some t) (W.lv W.standby (fun L =>
      { L with mode := { L.mode with pendEnable := some 7 } })) 7) ∧
    ((fun (s : State) (t : Nat) => s.live.powered = true ∧ s.live.mode.cooldown = some t) (W.lv W.standby (fun L =>
      { L with mode := { L.mode with cooldown := some 7 } })) 7) ∧
    ((fun (s : State) => Works 0 s.live ∧ s.live.mode.st = .derated ∧ s.live.limFlags % 32 = 0) (W.lv (W.inState .derated) (fun L
      =>
      { L with th := { L.th with chRefused := false }, conv := { L.conv with h := 1000, vBus := 1000 }, est := { L.est with lim := (100, 100) } }))) := by
  refine ⟨?_, ?_, ?_, ?_, ?_, ?_, ?_⟩
  all_goals first | decide +kernel | ((repeat' apply And.intro) <;> first | rfl | exact Or.inr rfl | decide +kernel)

theorem witness_TimeMovesToItsInstants :
    ((fun (s : State) => s.live.powered = true) W.standby) ∧
    ((fun (s : State) (x : SampleIn) => Works 0 s.live ∧ s.live.fromStandby = true ∧ s.live.stageBrk = none ∧ s.live.ks.ctlDue =
      none) W.standby W.sample) ∧
    ((fun (s : State) (x : SampleIn) => Works 0 s.live ∧ s.live.fromStandby = true ∧ s.live.stageBrk = none ∧ x.tableLate = true)
      W.standby W.lateSample) ∧
    ((fun (s : State) (x : SampleIn) => s.live.fromStandby = false ∧ x.badCrossing = none) (W.inState .selftest) W.sample) ∧
    ((fun (s : State) (x : SampleIn) (ch : Nat) => s.live.powered = true ∧ s.live.fromStandby = true ∧ bitOf s.live.dbg.halted 0 =
      true ∧ x.badCrossing = some ch ∧ s.live.decided 12 1 = false) (W.lv W.standby (fun L =>
      { L with dbg := { L.dbg with halted := 1 } })) { W.sample with badCrossing := some 3 } 3) ∧
    ((fun (s : State) => Works 3 s.live ∧ s.live.tracks = false ∧ s.live.course ≠ 0) W.standby) ∧
    ((fun (s : State) => Works 3 s.live ∧ s.live.tracks = true) (W.lv W.standby (fun L =>
      { L with twin := { L.twin with pair := 3 } }))) := by
  refine ⟨?_, ?_, ?_, ?_, ?_, ?_, ?_⟩
  all_goals first | decide +kernel | ((repeat' apply And.intro) <;> first | rfl | exact Or.inr rfl | decide +kernel)

theorem witness_ChiselAndCaptureCommands_0 :
    ((fun (s : State) (sess : Sess) => Granted sess 2 s.live ∧ (s.live.mode.st = .run ∨ s.live.mode.st = .derated ∨ s.live.mode.st
      = .standby ∨ s.live.mode.st = .service) ∧ (s.live.chi.st ≠ 1 ∧ s.live.chi.st ≠ 2 ∧ s.live.chi.st ≠ 3) ∧ real32 (s.live.getN
      0x320004) = some 0) W.granted 0x1001) ∧
    ((fun (s : State) (sess : Sess) => Granted sess 2 s.live ∧ (s.live.mode.st = .safe ∨ s.live.mode.st = .precharge ∨
      s.live.chi.st = 1)) (W.lv W.granted (fun L => { L with mode := { L.mode with st := .safe } })) 0x1001) ∧
    ((fun (s : State) (sess : Sess) => Granted sess 2 s.live ∧ (s.live.chi.st = 1 ∨ s.live.chi.st = 2 ∨ s.live.chi.st = 3)) (W.lv
      W.granted (fun L => { L with chi := { L.chi with st := 3 } })) 0x1001) ∧
    ((fun (s : State) => Works 0 s.live ∧ (s.live.chi.st = 1 ∨ s.live.chi.st = 2)) (W.lv W.standby (fun L =>
      { L with chi := { L.chi with st := 1 } }))) ∧
    ((fun (s : State) (sess : Sess) => Granted sess 2 s.live) W.granted 0x1001) ∧
    ((fun (s : State) (sess : Sess) => Granted sess 2 s.live) W.granted 0x1001) ∧
    ((fun (s : State) (sess : Sess) => Granted sess 2 s.live) W.granted 0x1001) ∧
    ((fun (s : State) => Works 0 s.live ∧ s.live.cap.st = 3 ∧ 16384 ≤ s.live.cap.buf.length) (W.lv W.standby (fun L =>
      { L with cap := { L.cap with st := 3, buf := List.replicate 16384 [] } }))) := by
  refine ⟨?_, ?_, ?_, ?_, ?_, ?_, ?_, ?_⟩
  all_goals first | decide +kernel | ((repeat' apply And.intro) <;> first | rfl | exact Or.inr rfl | decide +kernel)

theorem witness_ChiselAndCaptureCommands_1 :
    ((fun (s : State) => Works 1 s.live) W.standby) := by
  all_goals first | decide +kernel | ((repeat' apply And.intro) <;> first | rfl | exact Or.inr rfl | decide +kernel)

theorem witness_SoftStartPhases_0 :
    ((fun (s : State) => Works 0 s.live ∧ s.live.inPhase 1 = true ∧ s.live.pins.fbKpOpen = false ∧ s.live.pins.fbKnOpen = false)
      (W.lv (W.inState .precharge) (fun L =>
      { L with conv := { L.conv with phase := 1 }, pins := { L.pins with fbKpOpen := false, fbKnOpen := false } }))) ∧
    ((fun (s : State) => Works 0 s.live ∧ s.live.inPhase 1 = true ∧ (s.live.pins.fbKpOpen = true ∨ s.live.pins.fbKnOpen = true))
      (W.lv (W.inState .precharge) (fun L => { L with conv := { L.conv with phase := 1 } }))) ∧
    ((fun (s : State) (t : Nat) => Works 0 s.live ∧ s.live.inPhase 2 = true ∧ s.live.matchedAt = some t ∧ 0 ≤ s.live.headroom
      s.live.conv.act) (W.lv (W.inState .precharge) (fun L =>
      { L with conv := { L.conv with phase := 2, okSince := some 19000000 } })) 20000000) ∧
    ((fun (s : State) (t : Nat) => Works 0 s.live ∧ s.live.inPhase 2 = true ∧ s.live.matchedAt = some t ∧ s.live.headroom
      s.live.conv.act < 0) (W.lv (W.inState .precharge) (fun L =>
      { L with conv := { L.conv with phase := 2, okSince := some 0, vMax := [(0, 100)] } })) 1000000) ∧
    ((fun (s : State) => Works 0 s.live ∧ s.live.inPhase 2 = true ∧ s.live.matchedAt = none) (W.lv (W.inState .precharge) (fun L =>
      { L with conv := { L.conv with phase := 2 } }))) ∧
    ((fun (s : State) => Works 0 s.live ∧ s.live.inPhase 4 = true ∧ s.live.pins.sswOpen = false) (W.lv (W.inState .precharge) (fun
      L => { L with conv := { L.conv with phase := 4 }, pins := { L.pins with sswOpen := false } }))) ∧
    ((fun (s : State) => Works 0 s.live ∧ s.live.inPhase 4 = true ∧ s.live.pins.sswOpen = true) (W.lv (W.inState .precharge) (fun L
      => { L with conv := { L.conv with phase := 4 } }))) ∧
    ((fun (s : State) (t : Nat) => Works 0 s.live ∧ s.live.inPhase 5 = true ∧ s.live.conv.okSince = some t) (W.lv (W.inState
      .precharge) (fun L => { L with conv := { L.conv with phase := 5, okSince := some 4 } })) 4) := by
  refine ⟨?_, ?_, ?_, ?_, ?_, ?_, ?_, ?_⟩
  all_goals first | decide +kernel | ((repeat' apply And.intro) <;> first | rfl | exact Or.inr rfl | decide +kernel)

theorem witness_SoftStartPhases_1 :
    ((fun (s : State) (a : Nat) (b : Nat) => Works 0 s.live ∧ s.live.inPhase 5 = true ∧ s.live.conv.lowSince = some a ∧
      s.live.conv.closedAt = some b) (W.lv (W.inState .precharge) (fun L =>
      { L with conv := { L.conv with phase := 5, lowSince := some 4, closedAt := some 3 } })) 4 3) ∧
    ((fun (s : State) (b : Nat) => Works 0 s.live ∧ s.live.inPhase 5 = true ∧ s.live.conv.closedAt = some b) (W.lv (W.inState
      .precharge) (fun L => { L with conv := { L.conv with phase := 5, closedAt := some 3 } })) 3) := by
  refine ⟨?_, ?_⟩
  all_goals first | decide +kernel | ((repeat' apply And.intro) <;> first | rfl | exact Or.inr rfl | decide +kernel)

theorem witness_CollapseSegmentsAndBalancing_0 :
    ((fun (s : State) (t : Nat) => Works 0 s.live ∧ (s.live.mode.st = .run ∨ s.live.mode.st = .derated) ∧ s.live.conv.collapse =
      false ∧ s.live.conv.lowSince = some t) (W.lv (W.inState .run) (fun L =>
      { L with conv := { L.conv with lowSince := some 3 } })) 3) ∧
    ((fun (s : State) => (s.live.conv.lowSince = none ∨ s.live.conv.collapse = true ∨ ¬(s.live.mode.st = .run ∨ s.live.mode.st =
      .derated))) W.standby) ∧
    ((fun (s : State) (t : Nat) => Works 0 s.live ∧ s.live.conv.collapse = true ∧ s.live.conv.highSince = some t) (W.lv (W.inState
      .run) (fun L => { L with conv := { L.conv with collapse := true, highSince := some 3 } })) 3) ∧
    ((fun (s : State) => (s.live.conv.highSince = none ∨ s.live.conv.collapse = false)) W.standby) ∧
    ((fun (s : State) (sess : Sess) (seg : Fin 16) => Granted sess 2 s.live ∧ s.live.fitted seg = true ∧ s.live.driving = true ∧
      (s.live.conv.act.contains seg.val = true → s.live.bypassRefused seg = false) ∧ seg.val < s.live.seg.length) W.sixRunning
      0x1001 3) ∧
    ((fun (s : State) (sess : Sess) (seg : Fin 16) => Granted sess 2 s.live ∧ s.live.fitted seg = true ∧ s.live.driving = true ∧
      s.live.conv.act.contains seg.val = true ∧ s.live.bypassRefused seg = true) (W.lv W.sixRunning (fun L =>
      { L with conv := { L.conv with act := [0, 1, 2, 3] } })) 0x1001 3) ∧
    ((fun (s : State) (sess : Sess) (seg : Fin 16) => Granted sess 2 s.live ∧ s.live.fitted seg = true ∧ s.live.mode.st = .standby
      ∧ seg.val < s.live.seg.length) W.enableReady 0x1001 3) ∧
    ((fun (s : State) (sess : Sess) (seg : Fin 16) => Granted sess 2 s.live ∧ s.live.fitted seg = true ∧ s.live.driving = true ∧
      seg.val < s.live.seg.length) (W.lv W.enableReady (fun L => { L with mode := { L.mode with st := .run } })) 0x1001 3) := by
  refine ⟨?_, ?_, ?_, ?_, ?_, ?_, ?_, ?_⟩
  all_goals first | decide +kernel | ((repeat' apply And.intro) <;> first | rfl | exact Or.inr rfl | decide +kernel)

theorem witness_CollapseSegmentsAndBalancing_1 :
    ((fun (s : State) (sess : Sess) (seg : Fin 16) => Granted sess 2 s.live ∧ s.live.fitted seg = true ∧ s.live.mode.st = .standby
      ∧ seg.val < s.live.seg.length) W.enableReady 0x1001 3) ∧
    ((fun (s : State) (sess : Sess) (seg : Fin 16) => Granted sess 2 s.live ∧ s.live.fitted seg = false) W.granted 0x1001 3) ∧
    ((fun (s : State) (sess : Sess) (seg : Fin 16) => Granted sess 2 s.live ∧ s.live.fitted seg = false) W.granted 0x1001 3) ∧
    ((fun (s : State) (sess : Sess) (seg : Fin 16) => Granted sess 2 s.live ∧ s.live.fitted seg = true ∧ s.live.mode.st ≠ .standby
      ∧ s.live.driving = false) (W.lv W.enableReady (fun L => { L with mode := { L.mode with st := .safe } })) 0x1001 3) ∧
    ((fun (s : State) (sess : Sess) (seg : Fin 16) => Granted sess 2 s.live ∧ s.live.fitted seg = true ∧ s.live.mode.st ≠ .standby
      ∧ s.live.driving = false) (W.lv W.enableReady (fun L => { L with mode := { L.mode with st := .service } })) 0x1001 3) ∧
    ((fun (s : State) => Works 1 s.live ∧ s.live.driving = true ∧ s.live.conv.dir ≠ 0) (W.lv (W.inState .run) (fun L =>
      { L with conv := { L.conv with dir := 1 } }))) ∧
    ((fun (s : State) => (s.live.driving = false ∨ s.live.conv.dir = 0)) W.standby) ∧
    ((fun (s : State) => Works 0 s.live) W.standby) := by
  refine ⟨?_, ?_, ?_, ?_, ?_, ?_, ?_, ?_⟩
  all_goals first | decide +kernel | ((repeat' apply And.intro) <;> first | rfl | exact Or.inr rfl | decide +kernel)

theorem witness_SuperframesAndUplinks_0 :
    ((fun (s : State) => Works 2 s.live) W.standby) ∧
    ((fun (s : State) (k : Fin 16) => Works 2 s.live ∧ s.live.seg.length = 16 ∧ s.live.fitted k = true) W.sixRunning 3) ∧
    ((fun (s : State) (seg : Fin 16) (frame : Bytes) (lineOk : Bool) (t4 : Nat) => Works 2 s.live ∧ s.live.seg.length = 16 ∧
      s.live.fitted seg = true ∧ uplinkOk frame lineOk = true) W.sixRunning 3 W.uplink true 200) ∧
    ((fun (s : State) (seg : Fin 16) (frame : Bytes) (lineOk : Bool) (t4 : Nat) => Works 2 s.live ∧ s.live.fitted seg = true ∧
      uplinkOk frame lineOk = false) W.sixRunning 3 [] true 200) ∧
    ((fun (s : State) (seg : Fin 16) (frame : Bytes) (lineOk : Bool) (t4 : Nat) => s.live.fitted seg = false) W.standby 3 [] true
      200) ∧
    ((fun (s : State) (seg : Fin 16) (n : Nat) => Works 5 s.live ∧ s.live.seg.length = 16 ∧ (s.live.segAt seg).confirm = some n)
      (W.lv W.standby (fun L => L.modSeg 3 (fun g => { g with confirm := some 6 }))) 3 6) ∧
    ((fun (s : State) (seg : Fin 16) => Works 5 s.live ∧ s.live.seg.length = 16 ∧ s.live.fitted seg = true ∧ (s.live.saf.seg.getD
      seg.val {}).absent ≠ 0) (W.lv W.sixRunning (fun L =>
      { (L.modSeg 3 (fun g => { g with missed := 1 })) with saf := { L.saf with seg := L.saf.seg.map (fun (w : SegWatch) => { w with absent := 1 }) } }))
      3) ∧
    ((fun (s : State) (seg : Fin 16) => Works 5 s.live ∧ s.live.fromStandby = true ∧ s.live.pins.sswOpen = false ∧ s.live.inMask
      seg = true ∧ (s.live.saf.seg.getD seg.val {}).missing ≠ 0 ∧ (s.live.hasPartner = false ∨ bitOf s.live.twin.p.uvalid seg =
      false) ∧ s.live.decided 1 1 = false ∧ s.live.decided 2 1 = false) (W.lv (W.inState .run) (fun L =>
      { L.put 0x401102 8 with saf := { L.saf with seg := L.saf.seg.map (fun (w : SegWatch) => { w with missing := 3 }) }, pins := { L.pins with sswOpen := false } }))
      3) := by
  refine ⟨?_, ?_, ?_, ?_, ?_, ?_, ?_, ?_⟩
  all_goals first | decide +kernel | ((repeat' apply And.intro) <;> first | rfl | exact Or.inr rfl | decide +kernel)

theorem witness_SuperframesAndUplinks_1 :
    ((fun (s : State) (seg : Fin 16) => Works 2 s.live ∧ s.live.seg.length = 16 ∧ s.live.fitted seg = true) W.sixRunning 3) ∧
    ((fun (s : State) (path : Fin 18) (m : Int) => Works 2 s.live ∧ m < 200) W.standby 16 199) ∧
    ((fun (s : State) (path : Fin 18) (m : Int) => Works 2 s.live ∧ 200 ≤ m) W.standby 16 200) := by
  refine ⟨?_, ?_, ?_⟩
  all_goals first | decide +kernel | ((repeat' apply And.intro) <;> first | rfl | exact Or.inr rfl | decide +kernel)

theorem witness_NodeRequestsOfTheModule :
    ((fun (s : State) (sess : Sess) (seg : Fin 16) => Granted sess 2 s.live ∧ s.live.seg.length = 16 ∧ (s.live.mode.st = .standby ∨
      s.live.mode.st = .service) ∧ s.live.twin.holds = true) (W.lv W.granted (fun L =>
      { L with twin := { L.twin with holds := true } })) 0x1001 3) ∧
    ((fun (s : State) (sess : Sess) (seg : Fin 16) => Granted sess 2 s.live ∧ s.live.driving = true) (W.lv W.granted (fun L =>
      { L with mode := { L.mode with st := .run } })) 0x1001 3) ∧
    ((fun (s : State) (sess : Sess) (seg : Fin 16) => Granted sess 2 s.live ∧ s.live.seg.length = 16 ∧ (s.live.mode.st = .standby ∨
      s.live.mode.st = .service)) W.granted 0x1001 3) ∧
    ((fun (s : State) (sess : Sess) (seg : Fin 16) => Granted sess 2 s.live ∧ s.live.seg.length = 16 ∧ s.live.fitted seg = true ∧
      (s.live.mode.st = .standby ∨ s.live.mode.st = .service ∨ (s.live.driving = true ∧ s.live.conv.act.contains seg.val = false)))
      W.enableReady 0x1001 3) ∧
    ((fun (s : State) (sess : Sess) (seg : Fin 16) => Granted sess 2 s.live ∧ s.live.seg.length = 16 ∧ s.live.fromStandby = true ∧
      s.live.conv.act.contains seg.val = false) W.granted 0x1001 3) ∧
    ((fun (s : State) (seg : Fin 16) (r : MgmtReq) => Works 2 s.live ∧ s.live.seg.length = 16 ∧ (s.live.segAt seg).req = some r)
      (W.lv W.standby (fun L => L.modSeg 3 (fun g => { g with req := some W.req }))) 3 W.req) ∧
    ((fun (s : State) (seg : Fin 16) (r : MgmtReq) (d : Bytes) => Works 2 s.live ∧ s.live.seg.length = 16 ∧ (s.live.segAt seg).req
      = some r ∧ (s.live.segAt seg).reqQ = [] ∧ (s.live.segAt seg).bring = 1 ∧ r.op = 1 ∧ r.tag < 256 ∧ d.length ≤ 40) (W.lv
      W.standby (fun L => L.modSeg 3 (fun g => { g with bring := 1, req := some W.req }))) 3 W.req [1, 1]) ∧
    ((fun (s : State) (seg : Fin 16) (frame : Bytes) => Works 2 s.live ∧ parseResp frame = none) W.standby 3 []) := by
  refine ⟨?_, ?_, ?_, ?_, ?_, ?_, ?_, ?_⟩
  all_goals first | decide +kernel | ((repeat' apply And.intro) <;> first | rfl | exact Or.inr rfl | decide +kernel)

theorem witness_NodeStateAndLatch_0 :
    ((fun (s : State) (node : Fin 16) => s.live.node.length = 16 ∧ (s.live.nodeAt node).act = none) State.reset 15) ∧
    ((fun (s : State) (node : Fin 16) (port : Fin 2) => s.live.node.length = 16 ∧ (s.live.nodeAt node).powered = true) W.nodeUp 15
      1) ∧
    ((fun (s : State) (node : Fin 16) (inBound : Bool) => s.live.node.length = 16 ∧ (s.live.nodeAt node).powered = true) W.nodeUp
      15 true) ∧
    ((fun (s : State) (node : Fin 16) (inBound : Bool) => (s.live.nodeAt node).powered = false) (W.lv State.reset (fun L =>
      L.modNode 15 (fun n => { n with powered := false }))) 15 true) ∧
    ((fun (s : State) (node : Fin 16) (port : Fin 2) (frame : Bytes) (lineOk : Bool) => (lineOk = false ∨ parseDown (s.live.nodeAt
      node).tag frame = none)) W.nodeUp 15 1 [] true) ∧
    ((fun (s : State) (node : Fin 16) (port : Fin 2) (frame : Bytes) (fr : DownFrame) => s.live.node.length = 16 ∧ (s.live.nodeAt
      node).powered = true ∧ parseDown (s.live.nodeAt node).tag frame = some fr ∧ fr.tok = true ∧ (fr.seg = (s.live.nodeAt
      node).segment ∨ (s.live.nodeAt node).segment = 255) ∧ fr.side = (port.val, port.val) ∧ fr.seq = ((s.live.nodeAt node).epoch +
      1) % 65536) W.claiming 3 0 W.claim W.claimRead) ∧
    ((fun (s : State) (node : Fin 16) (high : Bool) => s.live.node.length = 16 ∧ (s.live.nodeAt node).powered = true) W.nodeUp 15
      true) ∧
    ((fun (s : State) (node : Fin 16) (periods : Nat) => s.live.node.length = 16 ∧ 8 ≤ periods) State.reset 15 8) := by
  refine ⟨?_, ?_, ?_, ?_, ?_, ?_, ?_, ?_⟩
  all_goals first | decide +kernel | ((repeat' apply And.intro) <;> first | rfl | exact Or.inr rfl | decide +kernel)

theorem witness_NodeStateAndLatch_1 :
    ((fun (s : State) (node : Fin 16) (periods : Nat) => periods < 8) State.reset 15 7) ∧
    ((fun (s : State) (node : Fin 16) (us : Nat) => s.live.node.length = 16) State.reset 15 100) ∧
    ((fun (s : State) (node : Fin 16) (passed : Bool) => s.live.node.length = 16 ∧ (s.live.nodeAt node).powered = true) W.nodeUp 15
      false) := by
  refine ⟨?_, ?_, ?_⟩
  all_goals first | decide +kernel | ((repeat' apply And.intro) <;> first | rfl | exact Or.inr rfl | decide +kernel)

theorem witness_NodeManagementChannel_0 :
    ((fun (s : State) (node : Fin 16) (port : Fin 2) (tag : Byte) (addr : Nat) (len : Nat) => (s.live.nodeAt node).powered = true ∧
      (s.live.nodeAt node).updating = false ∧ len ≤ 40 ∧ nodeReadable addr len = true) W.nodeUp 15 1 7 0x118 2) ∧
    ((fun (s : State) (node : Fin 16) (port : Fin 2) (tag : Byte) (addr : Nat) (len : Nat) => (s.live.nodeAt node).powered = true ∧
      (s.live.nodeAt node).updating = false ∧ (40 < len ∨ nodeReadable addr len = false)) W.nodeUp 15 1 7 0x118 3) ∧
    ((fun (s : State) (node : Fin 16) (port : Fin 2) (tag : Byte) (addr : Nat) (len : Nat) => (s.live.nodeAt node).powered = true ∧
      (s.live.nodeAt node).updating = true) (W.lv W.nodeUp (fun L => L.modNode 15 (fun n => { n with updating := true }))) 15 1 7 0
      2) ∧
    ((fun (s : State) (node : Fin 16) (port : Fin 2) (tag : Byte) (addr : Nat) (data : Bytes) => s.live.node.length = 16 ∧
      (s.live.nodeAt node).powered = true) W.nodeUp 15 1 7 0x106 [0, 1]) ∧
    ((fun (s : State) (node : Fin 16) (port : Fin 2) (tag : Byte) (block : Nat) (data : Bytes) => s.live.node.length = 16 ∧
      (s.live.nodeAt node).powered = true ∧ (s.live.nodeAt node).needBypass port = 0 ∧ data.length = 64) W.nodeUp 15 1 7 0
      (List.replicate 64 0)) ∧
    ((fun (s : State) (node : Fin 16) (port : Fin 2) (tag : Byte) (block : Nat) (data : Bytes) => (s.live.nodeAt node).powered =
      true ∧ (s.live.nodeAt node).updating = false ∧ (s.live.nodeAt node).tport ≠ port.val + 1) W.nodeUp 15 0 7 0 []) ∧
    ((fun (s : State) (node : Fin 16) (port : Fin 2) (tag : Byte) (digest : Bytes) => s.live.node.length = 16 ∧ (s.live.nodeAt
      node).powered = true ∧ (s.live.nodeAt node).needBypass port = 0 ∧ digest = Config.sha256 ((s.live.nodeAt node).blocks.map
      (·.2)).flatten) W.nodeUp 15 1 7 (Config.sha256 [])) ∧
    ((fun (s : State) (node : Fin 16) (port : Fin 2) (tag : Byte) (checkOk : Bool) => s.live.node.length = 16 ∧ (s.live.nodeAt
      node).powered = true ∧ (s.live.nodeAt node).needBypass port = 0 ∧ ((s.live.nodeAt node).patternAge = none ∨ 10000 ≤
      (s.live.nodeAt node).patternAge.getD 0) ∧ checkOk = true) (W.lv W.nodeUp (fun L => L.modNode 15 (fun n =>
      { n with patternAge := some 10000 }))) 15 1 7 true) := by
  refine ⟨?_, ?_, ?_, ?_, ?_, ?_, ?_, ?_⟩
  all_goals first | decide +kernel | ((repeat' apply And.intro) <;> first | rfl | exact Or.inr rfl | decide +kernel)

theorem witness_NodeManagementChannel_1 :
    ((fun (s : State) (node : Fin 16) (port : Fin 2) (tag : Byte) (checkOk : Bool) => s.live.node.length = 16 ∧ (s.live.nodeAt
      node).powered = true ∧ (s.live.nodeAt node).needBypass port = 0 ∧ ((∃ a ∈ (s.live.nodeAt node).patternAge, a < 10000) ∨
      checkOk = false)) (W.lv W.nodeUp (fun L => L.modNode 15 (fun n => { n with patternAge := some 9999 }))) 15 1 7 true) ∧
    ((fun (s : State) (node : Fin 16) (port : Fin 2) (tag : Byte) (passed : Bool) => s.live.node.length = 16 ∧ (s.live.nodeAt
      node).powered = true ∧ (s.live.nodeAt node).needBypass port = 0) W.nodeUp 15 1 7 false) := by
  refine ⟨?_, ?_⟩
  all_goals first | decide +kernel | ((repeat' apply And.intro) <;> first | rfl | exact Or.inr rfl | decide +kernel)

theorem witness_EstimatorSweepsAndWindows_0 :
    ((fun (s : State) => Works 1 s.live ∧ s.live.resyncing = false) W.standby) ∧
    ((fun (s : State) => Works 1 s.live ∧ s.live.resyncing = true) (W.lv W.standby (fun L =>
      { L with twin := { L.twin with pair := 2, transfer := some (0, 0) } }))) ∧
    ((fun (s : State) (t : Nat) => Works 1 s.live ∧ s.live.est.overSince = some t ∧ s.live.est.overRep = false) (W.lv W.standby
      (fun L => { L with est := { L.est with overSince := some 3 } })) 3) ∧
    ((fun (s : State) (t : Nat) => Works 1 s.live ∧ s.live.est.quietSince = some t ∧ s.live.est.quietDone = false) (W.lv W.standby
      (fun L => { L with est := { L.est with quietSince := some 3 } })) 3) ∧
    ((fun (s : State) (t : Nat) => Works 1 s.live ∧ s.live.est.reqSince = some t ∧ s.live.est.unmet = false) (W.lv W.standby (fun L
      => { L with est := { L.est with reqSince := some 3 } })) 3) ∧
    ((fun (s : State) => (s.live.est.reqSince = none ∨ s.live.est.unmet = true)) W.standby) ∧
    ((fun (s : State) (sess : Sess) => Granted sess 1 s.live ∧ s.live.est.reqSince = none) W.granted 0x1001) ∧
    ((fun (s : State) (sess : Sess) => Granted sess 1 s.live ∧ s.live.est.reqSince ≠ none) (W.lv W.granted (fun L =>
      { L with est := { L.est with reqSince := some 3 } })) 0x1001) := by
  refine ⟨?_, ?_, ?_, ?_, ?_, ?_, ?_, ?_⟩
  all_goals first | decide +kernel | ((repeat' apply And.intro) <;> first | rfl | exact Or.inr rfl | decide +kernel)

theorem witness_EstimatorSweepsAndWindows_1 :
    ((fun (s : State) (sess : Sess) => Granted sess 1 s.live) W.granted 0x1001) ∧
    ((fun (s : State) (sess : Sess) (seg : Fin 16) => Granted sess 2 s.live ∧ s.live.est.ctx.length = 512 ∧ (s.live.mode.st =
      .standby ∨ s.live.mode.st = .service)) W.granted 0x1001 3) ∧
    ((fun (s : State) (sess : Sess) (seg : Fin 16) => Granted sess 2 s.live ∧ (s.live.driving = true ∨ s.live.mode.st = .safe))
      (W.lv W.granted (fun L => { L with mode := { L.mode with st := .safe } })) 0x1001 3) := by
  refine ⟨?_, ?_, ?_⟩
  all_goals first | decide +kernel | ((repeat' apply And.intro) <;> first | rfl | exact Or.inr rfl | decide +kernel)

theorem witness_TableBanksAndTemperature :
    ((fun (s : State) (sess : Sess) (bank : Fin 2) (image : Bytes) => Served sess 3 s.live ∧ s.live.upd.replaced = false ∧ bank.val
      ≠ s.live.bank ∧ image.length = 24836) W.granted 0x1001 1 (List.replicate 24836 0)) ∧
    ((fun (s : State) (sess : Sess) (bank : Fin 2) (image : Bytes) => Served sess 3 s.live ∧ bank.val = s.live.bank) W.granted
      0x1001 0 []) ∧
    ((fun (s : State) (sess : Sess) (bank : Fin 2) (image : Bytes) => Served sess 3 s.live ∧ s.live.upd.replaced = false ∧ bank.val
      ≠ s.live.bank ∧ image.length ≠ 24836) W.granted 0x1001 1 [0]) ∧
    ((fun (s : State) (sess : Sess) (bank : Fin 2) (image : Bytes) => Served sess 0 s.live ∧ (s.live.touch sess).levelOf sess < 3)
      (W.lv W.granted (fun L => L.put 0x4C0007 0)) 0x1001 1 []) ∧
    ((fun (s : State) (sess : Sess) => Granted sess 3 s.live) W.granted 0x1001) ∧
    ((fun (s : State) (sess : Sess) => Granted sess 3 s.live) W.granted 0x1001) ∧
    ((fun (s : State) (sensors : List (Option Int)) => Works 1 s.live ∧ s.live.th.mod.length = 4) W.standby [some 250, none, some
      1100]) := by
  refine ⟨?_, ?_, ?_, ?_, ?_, ?_, ?_⟩
  all_goals first | decide +kernel | ((repeat' apply And.intro) <;> first | rfl | exact Or.inr rfl | decide +kernel)

theorem witness_ChannelsDecideTrips_0 :
    ((fun (s : State) => Works 5 s.live ∧ s.live.fromStandby = true) W.standby) ∧
    ((fun (s : State) => Works 5 s.live ∧ s.live.fromStandby = false) (W.inState .selftest)) ∧
    ((fun (s : State) => Works 5 s.live ∧ (s.live.driving = true ∨ s.live.mode.st = .standby) ∧ s.live.decided 4 1 = false)
      W.standby) ∧
    ((fun (s : State) (okA : Bool) (okB : Bool) => Works 5 s.live ∧ (s.live.driving = true ∨ s.live.mode.st = .standby) ∧
      s.live.decided 12 1 = false ∧ s.live.decided 12 2 = false ∧ (okA = false ∨ okB = false)) W.standby false true) ∧
    ((fun (s : State) => Works 5 s.live) W.standby) ∧
    ((fun (s : State) (passed : Bool) => Works 5 s.live ∧ s.live.driving = true ∧ s.live.decided 12 1 = false ∧ passed = false)
      (W.inState .run) false) ∧
    ((fun (s : State) (passed : Bool) => (s.live.driving = false ∨ passed = true)) W.standby false) ∧
    ((fun (s : State) (t : Nat) => Works 5 s.live ∧ s.live.saf.mismatch = some t ∧ (s.live.driving = true ∨ s.live.mode.st =
      .standby) ∧ s.live.decided 12 1 = false) (W.lv W.standby (fun L => { L with saf := { L.saf with mismatch := some 3 } })) 3) := by
  refine ⟨?_, ?_, ?_, ?_, ?_, ?_, ?_, ?_⟩
  all_goals first | decide +kernel | ((repeat' apply And.intro) <;> first | rfl | exact Or.inr rfl | decide +kernel)

theorem witness_ChannelsDecideTrips_1 :
    ((fun (s : State) (valueDiff : Bool) => Works 5 s.live ∧ (∀ i : Fin 8, s.live.getN (pairKey i 1) = 0)) W.standby true) ∧
    ((fun (s : State) (fluxgate : Rat) (beat : Option Nat) (fault : Bool) => Works 5 s.live ∧ s.live.fromStandby = true) W.standby
      0 none false) ∧
    ((fun (s : State) (fluxgate : Rat) (beat : Option Nat) (fault : Bool) => s.live.fromStandby = false) (W.inState .selftest) 0
      none true) ∧
    ((fun (s : State) => Works 5 s.live) W.standby) := by
  refine ⟨?_, ?_, ?_, ?_⟩
  all_goals first | decide +kernel | ((repeat' apply And.intro) <;> first | rfl | exact Or.inr rfl | decide +kernel)

theorem witness_SafeStateSequenceSteps_0 :
    ((fun (s : State) (sq : Seq) => Works 5 s.live ∧ s.live.mode.seq = some sq ∧ sq.step = 1 ∧ sq.kind ≠ .shutdown ∧
      s.live.twin.holds = true) (W.lv (W.inState .safe) (fun L =>
      { L with mode := { L.mode with seq := some W.seqS }, twin := { L.twin with holds := true } })) W.seqS) ∧
    ((fun (s : State) => s.live.twin.holds = false ∧ (∀ sq ∈ s.live.mode.seq.toList, sq.kind ≠ .shutdown)) (W.lv (W.inState .safe)
      (fun L => { L with mode := { L.mode with seq := some W.seqS } }))) ∧
    ((fun (s : State) (t : Nat) => Works 5 s.live ∧ s.live.saf.holdoff = some t ∧ (∀ sq ∈ s.live.mode.seq.toList, sq.kind ≠
      .shutdown)) (W.lv W.standby (fun L => { L with saf := { L.saf with holdoff := some 3 } })) 3) ∧
    ((fun (s : State) (sq : Seq) (t : Nat) => Works 5 s.live ∧ s.live.mode.seq = some sq ∧ (sq.step = 1 ∨ sq.step = 2) ∧
      s.live.pins.offSince = some t) (W.lv (W.inState .safe) (fun L =>
      { L with mode := { L.mode with seq := some W.seqS2 }, pins := { L.pins with offSince := some 5 } })) W.seqS2 5) ∧
    ((fun (s : State) => (s.live.pins.offSince = none ∨ (s.live.stepOf ≠ 1 ∧ s.live.stepOf ≠ 2))) W.standby) ∧
    ((fun (s : State) (sq : Seq) (t : Nat) => Works 5 s.live ∧ s.live.mode.seq = some sq ∧ sq.step = 3 ∧ sq.blocked = false ∧
      sq.step3At = some t ∧ s.live.shownOpen < 2) (W.lv (W.inState .safe) (fun L =>
      { L with mode := { L.mode with seq := some W.seqS3 }, pins := { L.pins with sswOpen := false, fbKpOpen := false } })) W.seqS3
      5) ∧
    ((fun (s : State) (channelB : Bool) => Works 5 s.live ∧ s.live.driving = true ∧ s.live.saf.test = none ∧ s.live.inStep = true ∧
      100 ≤ s.live.twin.p.loopi) (W.lv (W.inState .run) (fun L =>
      { L with twin := { L.twin with pair := 3, p := { L.twin.p with loopi := 100 } } })) true) ∧
    ((fun (s : State) (channelB : Bool) => Works 5 s.live ∧ s.live.driving = true ∧ s.live.saf.test = none ∧ (s.live.inStep = false
      ∨ s.live.twin.p.loopi < 100)) (W.lv (W.inState .run) (fun L =>
      { L with twin := { L.twin with pair := 3, p := { L.twin.p with loopi := 99 } } })) true) := by
  refine ⟨?_, ?_, ?_, ?_, ?_, ?_, ?_, ?_⟩
  all_goals first | decide +kernel | ((repeat' apply And.intro) <;> first | rfl | exact Or.inr rfl | decide +kernel)

theorem witness_SafeStateSequenceSteps_1 :
    ((fun (s : State) (loopMa : Nat) (b : Bool) (t : Nat) => Works 5 s.live ∧ s.live.saf.test = some (b, t) ∧ loopMa < 10) (W.lv
      (W.inState .run) (fun L => { L with saf := { L.saf with test := some (true, 3) } })) 9 true 3) ∧
    ((fun (s : State) (loopMa : Nat) (b : Bool) (t : Nat) => Works 5 s.live ∧ s.live.saf.test = some (b, t) ∧ 10 ≤ loopMa ∧
      s.live.fromStandby = true ∧ s.live.decided 12 (if b then 2 else 1) = false) (W.lv (W.inState .run) (fun L =>
      { L with saf := { L.saf with test := some (true, 3) } })) 10 true 3) := by
  refine ⟨?_, ?_⟩
  all_goals first | decide +kernel | ((repeat' apply And.intro) <;> first | rfl | exact Or.inr rfl | decide +kernel)

theorem witness_InputsAndFeedbackAreJudged_0 :
    ((fun (s : State) (pair : Fin 8) (channelB : Bool) (on : Bool) => Works 5 s.live ∧ s.live.getN (pairKey pair 1) = 0 ∧
      s.live.saf.pairs.length = 8 ∧ (on = true ∨ s.live.blanked pair channelB = false)) W.standby 7 true true) ∧
    ((fun (s : State) (pair : Fin 8) (channelB : Bool) (on : Bool) => Works 5 s.live ∧ (s.live.driving = true ∨ s.live.mode.st =
      .standby) ∧ s.live.getN (pairKey pair 1) ≠ 0 ∧ s.live.saf.pairs.length = 8 ∧ s.live.getN (pairKey pair 2) = 0 ∧ on = false ∧
      s.live.blanked pair channelB = false ∧ s.live.decided (s.live.pairSf pair) (if channelB then 2 else 1) = false) (W.lv
      W.standby (fun L => L.put (pairKey 7 1) 1)) 7 true false) ∧
    ((fun (s : State) (pair : Fin 8) (channelB : Bool) => s.live.blanked pair channelB = true) (W.lv W.standby (fun L =>
      { L.put (pairKey 7 4) 1 with pins := { L.pins with pulseAt := (some 0, some 0) } })) 7 true) ∧
    ((fun (s : State) (pair : Fin 8) (t : Nat) => Works 5 s.live ∧ s.live.saf.pairs.length = 8 ∧ (s.live.pair pair).discSince =
      some t ∧ (s.live.pair pair).disc = false ∧ s.live.getN (pairKey pair 1) ≠ 0) (W.lv W.standby (fun L => (L.put (pairKey 7 1)
      1).modPair 7 (fun p => { p with discSince := some 3 }))) 7 3) ∧
    ((fun (s : State) (t2 : Bool) (lowA : Nat) (lowB : Nat) (fbLowP : Bool) (fbLowN : Bool) => Works 5 s.live ∧ (∀ i : Fin 8,
      s.live.getN (pairKey i 1) = 0) ∧ s.live.saf.fbFault = false ∧ s.live.pins.fbKpOpen = true ∧ s.live.pins.fbKnOpen = true ∧
      fbLowP = !t2 ∧ fbLowN = t2) W.standby true 0 0 false true) ∧
    ((fun (s : State) (t2 : Bool) (lowA : Nat) (lowB : Nat) (fbLowP : Bool) (fbLowN : Bool) => Works 5 s.live ∧ s.live.fromStandby
      = true ∧ s.live.saf.fbFault = false ∧ s.live.pins.fbKpOpen = true ∧ t2 = true ∧ fbLowP = true) W.standby true 0 0 true true) ∧
    ((fun (s : State) (input : Fin 3) (showsOpen : Bool) => Works 5 s.live ∧ s.live.pins.fbAt.length = 3 ∧ s.live.saf.holdoff =
      none ∧ s.live.mode.seq = none) W.standby 2 true) ∧
    ((fun (s : State) (negative : Bool) => Works 5 s.live ∧ s.live.fromStandby = true ∧ s.live.saf.expect.2 = false ∧ s.live.kOpen
      negative = false ∧ condHeld s.live.rcd.conds 104 (if negative then 6 else 5) (padTo 8 []) = false) (W.lv W.standby (fun L =>
      { L with pins := { L.pins with fbKnOpen := false } })) true) := by
  refine ⟨?_, ?_, ?_, ?_, ?_, ?_, ?_, ?_⟩
  all_goals first | decide +kernel | ((repeat' apply And.intro) <;> first | rfl | exact Or.inr rfl | decide +kernel)

theorem witness_InputsAndFeedbackAreJudged_1 :
    ((fun (s : State) (negative : Bool) => (s.live.saf.expect.2 = true ∨ s.live.kOpen negative = true)) W.standby true) ∧
    ((fun (s : State) (negative : Bool) => Works 5 s.live ∧ s.live.fromStandby = true ∧ s.live.saf.expect.2 = true ∧ s.live.kOpen
      negative = true ∧ condHeld s.live.rcd.conds 104 7 (padTo 8 []) = false) (W.lv W.standby (fun L =>
      { L with saf := { L.saf with expect := (4, true) } })) true) ∧
    ((fun (s : State) (negative : Bool) => Works 5 s.live ∧ (s.live.mode.st = .run ∨ s.live.mode.st = .derated) ∧
      s.live.saf.expect.2 = true ∧ s.live.kOpen negative = true ∧ condHeld s.live.rcd.conds 104 10 (padTo 8 []) = false) (W.lv
      (W.inState .run) (fun L => { L with saf := { L.saf with expect := (4, true) } })) true) ∧
    ((fun (s : State) => Works 5 s.live ∧ s.live.fromStandby = true ∧ s.live.pins.sswOpen = false ∧ s.live.pins.fastOff = .off ∧
      condHeld s.live.rcd.conds 104 8 (padTo 8 []) = false) (W.lv W.standby (fun L =>
      { L with pins := { L.pins with sswOpen := false, fastOff := .off } }))) ∧
    ((fun (s : State) => s.live.pins.sswOpen = false ∧ s.live.pins.fastOff = .permit ∧ s.live.partnerFast ≠ 2) (W.lv W.standby (fun
      L => { L with pins := { L.pins with sswOpen := false, fastOff := .permit } }))) := by
  refine ⟨?_, ?_, ?_, ?_, ?_⟩
  all_goals first | decide +kernel | ((repeat' apply And.intro) <;> first | rfl | exact Or.inr rfl | decide +kernel)

theorem witness_BayTripReleaseAndTwinX_0 :
    ((fun (s : State) (loopMa : Nat) => Works 5 s.live ∧ (s.live.driving = true ∨ s.live.mode.st = .standby) ∧ s.live.decided 13 1
      = false ∧ loopMa < 4) W.standby 3) ∧
    ((fun (s : State) (loopMa : Nat) => Works 5 s.live ∧ 4 ≤ loopMa) W.standby 4) ∧
    ((fun (s : State) (t : Nat) => Works 5 s.live ∧ s.live.saf.bayRead = some t ∧ s.live.saf.bayHeld = false) (W.lv W.standby (fun
      L => { L with saf := { L.saf with bayRead := some 3 } })) 3) ∧
    ((fun (s : State) (cause : Fin 13) => Works 5 s.live ∧ s.live.saf.released.length = 13 ∧ s.live.relOpen (cause.val + 1) = true
      ∧ s.live.relHolds (cause.val + 1) = true) (W.lv (W.inState .safe) (fun L => L.put 0x404001 8)) 3) ∧
    ((fun (s : State) (cause : Fin 13) => (s.live.relOpen (cause.val + 1) = false ∨ s.live.relHolds (cause.val + 1) = false))
      W.standby 3) ∧
    ((fun (s : State) (sess : Sess) => Granted sess 3 s.live ∧ s.live.saf.released.length = 13 ∧ s.live.allOpen = true ∧
      s.live.relOpen 9 = true) (W.lv W.granted (fun L => L.put 0x404001 256)) 0x1001) ∧
    ((fun (s : State) (sess : Sess) => Granted sess 3 s.live ∧ (s.live.allOpen = false ∨ s.live.relOpen 9 = false)) W.granted
      0x1001) ∧
    ((fun (s : State) (sess : Sess) => Granted sess 3 s.live ∧ s.live.relOpen 2 = true ∧ s.live.saf.deepUv = true) (W.lv W.granted
      (fun L => { L.put 0x404001 2 with saf := { L.saf with deepUv := true } })) 0x1001) := by
  refine ⟨?_, ?_, ?_, ?_, ?_, ?_, ?_, ?_⟩
  all_goals first | decide +kernel | ((repeat' apply And.intro) <;> first | rfl | exact Or.inr rfl | decide +kernel)

theorem witness_BayTripReleaseAndTwinX_1 :
    ((fun (s : State) (k : Fin 8) => Works 5 s.live ∧ (s.live.driving = true ∨ s.live.mode.st = .standby) ∧ s.live.decided 10 1 =
      false) W.standby 3) ∧
    ((fun (s : State) => Works 4 s.live ∧ (s.live.com.nmt ≠ 5 ∨ s.live.mode.dupHeard = true) ∧ s.live.mgr.lead = false) W.standby) ∧
    ((fun (s : State) => Works 4 s.live ∧ s.live.com.nmt = 5 ∧ s.live.mode.dupHeard = false ∧ s.live.twin.holds = true ∧
      s.live.mgr.lead = false ∧ s.live.com.bus.length = 2 ∧ busUsable (s.live.com.bus.getD 0 {}) = true) (W.lv W.standby (fun L =>
      { L with com := { L.com with nmt := 5 }, twin := { L.twin with holds := true } }))) ∧
    ((fun (s : State) (us : Nat) => Works 5 s.live ∧ (s.live.driving = true ∨ s.live.mode.st = .standby) ∧ s.live.saf.obeyed = none
      ∧ s.live.hasPartner = false ∧ 500 ≤ us) W.standby 500) ∧
    ((fun (s : State) (us : Nat) => Works 5 s.live ∧ us < 500) W.standby 499) ∧
    ((fun (s : State) => Works 5 s.live ∧ s.live.fromStandby = true) W.standby) := by
  refine ⟨?_, ?_, ?_, ?_, ?_, ?_⟩
  all_goals first | decide +kernel | ((repeat' apply And.intro) <;> first | rfl | exact Or.inr rfl | decide +kernel)

theorem witness_InsulationMonitorRows_0 :
    ((fun (s : State) (tenthOhm : Option Nat) => Works 5 s.live ∧ s.live.fromStandby = true) W.standby (some 100)) ∧
    ((fun (s : State) (ohm : Nat) => Works 5 s.live ∧ s.live.fromStandby = true) W.standby 110000) ∧
    ((fun (s : State) (estA : Option Nat) (estB : Option Nat) (nF : Nat) => Works 5 s.live ∧ s.live.insWants ≠ 0 ∧
      s.live.pins.insRelay = true ∧ s.live.saf.insHalves < 2 ∧ s.live.saf.insGap = none) W.ownString (some 5) none 7) ∧
    ((fun (s : State) (estA : Option Nat) (estB : Option Nat) (nF : Nat) => Works 5 s.live ∧ s.live.insWants = 0) (W.inState
      .selftest) (some 5) none 7) ∧
    ((fun (s : State) (a : Nat) (estB : Option Nat) (nF : Nat) => Works 5 s.live ∧ s.live.insWants = 2 ∧ s.live.pins.insRelay =
      true ∧ 2 ≤ s.live.saf.insHalves ∧ s.live.saf.insGap = none) (W.lv W.ownString (fun L =>
      { L with saf := { L.saf with insHalves := 2 } })) 5 none 7) ∧
    ((fun (s : State) (estA : Option Nat) (estB : Option Nat) (nF : Nat) (t : Nat) => Works 5 s.live ∧ s.live.insWants ≠ 0 ∧
      s.live.pins.insRelay = true ∧ s.live.saf.insGap = some t) (W.lv W.ownString (fun L =>
      { L with saf := { L.saf with insGap := some 5 } })) (some 5) none 7 5) ∧
    ((fun (s : State) (heardMv : Nat) => Works 5 s.live ∧ s.live.insWants = 1 ∧ 5000 < heardMv) (W.lv W.ownString (fun L =>
      { L.put 0x402208 1 with pins := { L.pins with fbKpOpen := false } })) 5001) ∧
    ((fun (s : State) (heardMv : Nat) => (s.live.insWants ≠ 1 ∨ heardMv ≤ 5000)) W.standby 5000) := by
  refine ⟨?_, ?_, ?_, ?_, ?_, ?_, ?_, ?_⟩
  all_goals first | decide +kernel | ((repeat' apply And.intro) <;> first | rfl | exact Or.inr rfl | decide +kernel)

theorem witness_InsulationMonitorRows_1 :
    ((fun (s : State) (t : Nat) => Works 5 s.live ∧ s.live.saf.unmonSince = some t ∧ s.live.saf.unmonExpired = false) (W.lv
      W.standby (fun L => { L with saf := { L.saf with unmonSince := some 3 } })) 3) := by
  all_goals first | decide +kernel | ((repeat' apply And.intro) <;> first | rfl | exact Or.inr rfl | decide +kernel)

theorem witness_FramesReceivedAreFiled_0 :
    ((fun (s : State) (bus : Fin 2) (f : CanFrame) (sof : Nat) => Works 4 s.live ∧ s.live.com.bus.length = 2 ∧ f.rtr = false ∧
      ((s.live.can bus).st = 0 ∨ (s.live.can bus).st = 1 ∨ (s.live.can bus).st = 5) ∧ s.live.filterTarget bus f = 1 ∧ (s.live.can
      bus).rx.length < 256) W.standby 1 (canFrame 0 [1, 0]) 5) ∧
    ((fun (s : State) (bus : Fin 2) (f : CanFrame) (sof : Nat) => Works 4 s.live ∧ f.rtr = false ∧ ((s.live.can bus).st = 0 ∨
      (s.live.can bus).st = 1 ∨ (s.live.can bus).st = 5) ∧ s.live.filterTarget bus f = 0) W.standby 1 (canFrame 0x123 [1, 0]) 5) ∧
    ((fun (s : State) (bus : Fin 2) (f : CanFrame) (sof : Nat) => (f.rtr = true ∨ (s.live.can bus).st = 2 ∨ (s.live.can bus).st = 3
      ∨ (s.live.can bus).st = 4)) (W.lv W.standby (fun L => L.modCan 1 (fun c => { c with st := 2 }))) 1 (canFrame 0 []) 5) ∧
    ((fun (s : State) (bus : Fin 2) (f : CanFrame) (sof : Nat) => Works 4 s.live ∧ f.rtr = false ∧ ((s.live.can bus).st = 0 ∨
      (s.live.can bus).st = 1 ∨ (s.live.can bus).st = 5) ∧ s.live.filterTarget bus f = 4 ∧ s.live.com.logicRx.length < 64) (W.lv
      W.standby (fun L => L.put (0x2014 * 256 + 9) (4 * 2 ^ 61 : Nat))) 1 (canFrame 0x123 []) 5) ∧
    ((fun (s : State) (bus : Fin 2) (f : CanFrame) (sof : Nat) => Works 4 s.live ∧ s.live.com.bus.length = 2 ∧ f.rtr = false ∧
      ((s.live.can bus).st = 0 ∨ (s.live.can bus).st = 1 ∨ (s.live.can bus).st = 5) ∧ (s.live.filterTarget bus f = 2 ∨
      s.live.filterTarget bus f = 3) ∧ (s.live.can bus).hpb = [none, none]) (W.lv W.standby (fun L => L.put (0x2014 * 256 + 9) (2 *
      2 ^ 61 : Nat))) 1 (canFrame 0x123 []) 5) ∧
    ((fun (s : State) (bus : Fin 2) (node : Nat) (nmt : Nat) => s.live.powered = true ∧ s.live.mode.listening = true ∧
      s.live.mode.dupHeard = false ∧ s.live.unassigned = false ∧ node = s.live.nodeId) (W.lv (W.inState .boot) (fun L =>
      { L with mode := { L.mode with listening := true } })) 1 2 5) ∧
    ((fun (s : State) (bus : Fin 2) (node : Nat) (nmt : Nat) => (s.live.mode.listening = false ∨ node ≠ s.live.nodeId)) W.standby 1
      2 5) ∧
    ((fun (s : State) (bus : Fin 2) (k : Fin 8) (inv : Bool) (data : Bytes) => Works 5 s.live ∧ s.live.saf.srdoHalf.length = 8)
      W.standby 1 3 false [1]) := by
  refine ⟨?_, ?_, ?_, ?_, ?_, ?_, ?_, ?_⟩
  all_goals first | decide +kernel | ((repeat' apply And.intro) <;> first | rfl | exact Or.inr rfl | decide +kernel)

theorem witness_FramesReceivedAreFiled_1 :
    ((fun (s : State) (bus : Fin 2) (n : Fin 4) (data : Bytes) => Works 4 s.live ∧ s.live.com.nmt = 5 ∧ s.live.follower = false ∧
      s.live.takesRpdo bus n data.length = true ∧ ((s.live.pdoMap (0x1600 + n.val)).map (·.2)).foldl (· + ·) 0 ≤ data.length) (W.lv
      W.standby (fun L =>
      { (((L.put (0x2014 * 256 + 9) (2 ^ 61 : Nat)).put (0x1600 * 256) 1).put (0x1600 * 256 + 1) 0x30000110).put (0x1400 * 256 + 1) 0x202 with com := { L.com with nmt := 5 } }))
      1 0 [1, 0]) ∧
    ((fun (s : State) (bus : Fin 2) (n : Fin 4) (data : Bytes) => (s.live.com.nmt ≠ 5 ∨ s.live.takesRpdo bus n data.length =
      false)) W.standby 1 0 [1, 0]) := by
  refine ⟨?_, ?_⟩
  all_goals first | decide +kernel | ((repeat' apply And.intro) <;> first | rfl | exact Or.inr rfl | decide +kernel)

theorem witness_NmtAndHeartbeat :
    ((fun (s : State) (node : Nat) => Works 4 s.live ∧ s.live.nmtFor node = true) (W.lv W.standby (fun L =>
      { L with com := { L.com with nmt := 127 } })) 2) ∧
    ((fun (s : State) (node : Nat) => Works 4 s.live ∧ s.live.nmtFor node = true) (W.lv W.standby (fun L =>
      { L with com := { L.com with nmt := 127 } })) 0) ∧
    ((fun (s : State) (node : Nat) => Works 4 s.live ∧ s.live.nmtFor node = true) (W.lv W.standby (fun L =>
      { L with com := { L.com with nmt := 5 } })) 2) ∧
    ((fun (s : State) (node : Nat) => Works 4 s.live ∧ s.live.com.bus.length = 2 ∧ s.live.nmtFor node = true) (W.lv W.standby (fun
      L => { L with com := { L.com with nmt := 5 } })) 2) ∧
    ((fun (s : State) (node : Nat) => Works 4 s.live ∧ s.live.com.bus.length = 2 ∧ s.live.nmtFor node = true) (W.lv W.standby (fun
      L => { L with com := { L.com with nmt := 5 } })) 2) ∧
    ((fun (s : State) (node : Nat) => node ≠ 0 ∧ node ≠ s.live.nodeId) W.standby 3) ∧
    ((fun (s : State) => Works 4 s.live ∧ s.live.com.bus.length = 2 ∧ s.live.maySend = true) (W.lv W.standby (fun L =>
      { L with com := { L.com with nmt := 5 } }))) ∧
    ((fun (s : State) => s.live.maySend = false) W.standby) := by
  refine ⟨?_, ?_, ?_, ?_, ?_, ?_, ?_, ?_⟩
  all_goals first | decide +kernel | ((repeat' apply And.intro) <;> first | rfl | exact Or.inr rfl | decide +kernel)

theorem witness_TransmissionOnABus :
    ((fun (s : State) (bus : Fin 2) (f : TxFrame) => Works 4 s.live ∧ s.live.com.bus.length = 2 ∧ (s.live.can bus).tb = [none,
      none, none] ∧ s.live.candidate bus = some f ∧ (s.live.can bus).sends = true) (W.lv W.standby (fun L =>
      { L.modCan 1 (fun c => { c with tx := [W.txFrame] }) with time := { L.time with clk := 10 } })) 1 W.txFrame) ∧
    ((fun (s : State) (bus : Fin 2) (tb : Fin 3) (b : TxBuf) => Works 4 s.live ∧ s.live.com.bus.length = 2 ∧ (s.live.can
      bus).tb.length = 3 ∧ (s.live.can bus).tb.getD tb none = some b ∧ b.inArb = true ∧ b.f.who < 2 ∧ b.cancel < 2) (W.lv W.standby
      (fun L => L.modCan 1 (fun c => { c with tb := [none, none, some W.txBuf] }))) 1 2 W.txBuf) ∧
    ((fun (s : State) (bus : Fin 2) (tb : Fin 3) (b : TxBuf) => Works 4 s.live ∧ s.live.com.bus.length = 2 ∧ (s.live.can
      bus).tb.length = 3 ∧ (s.live.can bus).tb.getD tb none = some b ∧ b.inArb = true ∧ b.f.cls ≠ 0 ∧ b.cancel = 0) (W.lv W.standby
      (fun L => L.modCan 1 (fun c => { c with tb := [none, none, some W.txBuf] }))) 1 2 W.txBuf) ∧
    ((fun (s : State) (bus : Fin 2) (t : Nat) => Works 4 s.live ∧ s.live.com.bus.length = 2 ∧ earliest ((s.live.can bus).frames.map
      (nextPromotion (ms (s.live.getN 0x201201)))) = some t) (W.lv W.standby (fun L => (L.put 0x201201 10).modCan 1 (fun c =>
      { c with tx := [W.txFrame] }))) 1 10000005) ∧
    ((fun (s : State) (bus : Fin 2) (t : Nat) => Works 4 s.live ∧ s.live.com.bus.length = 2 ∧ earliest (((s.live.can
      bus).frames.filter (fun f => !f.late)).map (fun f => some (f.at_ + s.live.deadline f.cls))) = some t) (W.lv W.standby (fun L
      => L.modCan 1 (fun c => { c with tx := [W.txFrame] }))) 1 (5 + W.standby.live.deadline 2)) := by
  refine ⟨?_, ?_, ?_, ?_, ?_⟩
  all_goals first | decide +kernel | ((repeat' apply And.intro) <;> first | rfl | exact Or.inr rfl | decide +kernel)

theorem witness_CanFaultConfinement_0 :
    ((fun (s : State) (bus : Fin 2) => Works 4 s.live ∧ s.live.com.bus.length = 2 ∧ ((s.live.can bus).st = 0 ∨ (s.live.can bus).st
      = 5)) W.standby 1) ∧
    ((fun (s : State) (bus : Fin 2) => Works 4 s.live ∧ s.live.com.bus.length = 2 ∧ (s.live.can bus).st = 1) (W.lv W.standby (fun L
      => L.modCan 1 (fun c => { c with st := 1 }))) 1) ∧
    ((fun (s : State) (bus : Fin 2) => (s.live.can bus).st ≠ 1) W.standby 1) ∧
    ((fun (s : State) (bus : Fin 2) => Works 4 s.live ∧ s.live.com.bus.length = 2 ∧ ((s.live.can bus).st = 0 ∨ (s.live.can bus).st
      = 1 ∨ (s.live.can bus).st = 5)) W.standby 1) ∧
    ((fun (s : State) (bus : Fin 2) => Works 4 s.live ∧ s.live.com.bus.length = 2 ∧ (s.live.can bus).st = 3) (W.lv W.standby (fun L
      => L.modCan 1 (fun c => { c with st := 3 }))) 1) ∧
    ((fun (s : State) (bus : Fin 2) => Works 4 s.live ∧ s.live.com.bus.length = 2 ∧ ((s.live.can bus).st = 0 ∨ (s.live.can bus).st
      = 1) ∧ (s.live.can bus).frames ≠ []) (W.lv W.standby (fun L => L.modCan 1 (fun c => { c with tx := [W.txFrame] }))) 1) ∧
    ((fun (s : State) => Works 4 s.live ∧ s.live.com.bus.length = 2) (W.lv W.standby (fun L => L.modCan 1 (fun c =>
      { c with monitor := true })))) ∧
    ((fun (s : State) (sess : Sess) (bus : Fin 2) => Granted sess 2 s.live ∧ s.live.com.bus.length = 2 ∧ (s.live.can bus).st = 2)
      (W.lv W.granted (fun L => L.modCan 1 (fun c => { c with st := 2 }))) 0x1001 1) := by
  refine ⟨?_, ?_, ?_, ?_, ?_, ?_, ?_, ?_⟩
  all_goals first | decide +kernel | ((repeat' apply And.intro) <;> first | rfl | exact Or.inr rfl | decide +kernel)

theorem witness_CanFaultConfinement_1 :
    ((fun (s : State) (sess : Sess) (bus : Fin 2) => Granted sess 2 s.live) W.granted 0x1001 1) ∧
    ((fun (s : State) (bus : Fin 2) => Works 4 s.live ∧ s.live.com.bus.length = 2 ∧ (s.live.can bus).withheld = true ∧ (s.live.can
      bus).st = 2) (W.lv W.standby (fun L => L.modCan 1 (fun c => { c with st := 2, withheld := true }))) 1) := by
  refine ⟨?_, ?_⟩
  all_goals first | decide +kernel | ((repeat' apply And.intro) <;> first | rfl | exact Or.inr rfl | decide +kernel)

theorem witness_BayTimeRows_0 :
    ((fun (s : State) => Works 4 s.live ∧ s.live.com.bus.length = 2 ∧ s.live.mgr.lead = true ∧ s.live.maySend = true ∧
      s.live.time.synced = true ∧ s.live.time.lastSent < s.live.time.mtime) (W.lv W.standby (fun L =>
      { L with mgr := { L.mgr with lead := true }, time := { L.time with synced := true, mtime := 10000000 }, com := { L.com with nmt := 5 } }))) ∧
    ((fun (s : State) => (s.live.mgr.lead = false ∨ s.live.maySend = false ∨ s.live.time.synced = false)) W.standby) ∧
    ((fun (s : State) (bus : Fin 2) => Works 4 s.live ∧ s.live.com.bus.length = 2 ∧ (s.live.can bus).frames = []) W.standby 1) ∧
    ((fun (s : State) (bus : Fin 2) (fr : TxFrame) => Works 4 s.live ∧ s.live.com.bus.length = 2 ∧ (s.live.can bus).tx = [fr] ∧
      (s.live.can bus).tb = [none, none, none] ∧ fr.who = 2 ∧ fr.f.id = s.live.bootN 0x220010) (W.lv W.standby (fun L => L.modCan 1
      (fun c => { c with tx := [W.refFrame] }))) 1 W.refFrame) ∧
    ((fun (s : State) (bus : Fin 2) (frame : Bytes) (sof : Nat) => Works 2 s.live ∧ s.live.mgr.lead = false ∧ referenceOk frame =
      true) W.standby 1 [1, 0, 0, 65] 7) ∧
    ((fun (s : State) (bus : Fin 2) (frame : Bytes) (sof : Nat) => (referenceOk frame = false ∨ s.live.mgr.lead = true)) W.standby
      1 [1, 0, 0, 2] 7) ∧
    ((fun (s : State) (bus : Fin 2) (frame : Bytes) => s.live.time.refs.find? (fun r => r.bus == bus.val) = none) W.standby 1 []) ∧
    ((fun (s : State) (bus : Fin 2) (frame : Bytes) (r : RefRx) => Works 2 s.live ∧ s.live.mgr.lead = false ∧
      s.live.time.refs.find? (fun x => x.bus == bus.val) = some r ∧ s.live.pairValid bus r frame = false) (W.lv W.standby (fun L =>
      { L with time := { L.time with refs := [{ bus := 1, sender := 1, seq := 3, sof := 5 }] } })) 1 []
      { bus := 1, sender := 1, seq := 3, sof := 5 }) := by
  refine ⟨?_, ?_, ?_, ?_, ?_, ?_, ?_, ?_⟩
  all_goals first | decide +kernel | ((repeat' apply And.intro) <;> first | rfl | exact Or.inr rfl | decide +kernel)

theorem witness_BayTimeRows_1 :
    ((fun (s : State) (bus : Fin 2) (frame : Bytes) (r : RefRx) => Works 2 s.live ∧ s.live.mgr.lead = false ∧
      s.live.time.refs.find? (fun x => x.bus == bus.val) = some r ∧ s.live.pairValid bus r frame = true ∧ s.live.busTaken bus
      (period10 (le frame 0 8)) = true ∧ s.live.followsBay = true) (W.lv W.standby (fun L =>
      { L with time := { L.time with refs := [W.refRx] } })) 0 W.followUp W.refRx) ∧
    ((fun (s : State) => Works 2 s.live ∧ s.live.followsBay = true ∧ (s.live.getN 0x220002 = 1 ∨ s.live.getN 0x220002 = 2)) (W.lv
      W.standby (fun L => L.put 0x220002 1))) ∧
    ((fun (s : State) => Works 2 s.live ∧ s.live.followsBay = true ∧ s.live.getN 0x220002 = 3) (W.lv W.standby (fun L => L.put
      0x220002 3))) ∧
    ((fun (s : State) => Works 3 s.live ∧ s.live.isManager = false ∧ s.live.get 0x200007 = 0 ∧ s.live.time.silence = false) (W.lv
      W.standby (fun L => L.put 0x200007 0))) := by
  refine ⟨?_, ?_, ?_, ?_⟩
  all_goals first | decide +kernel | ((repeat' apply And.intro) <;> first | rfl | exact Or.inr rfl | decide +kernel)

theorem witness_LayerSettingServices_0 :
    ((fun (s : State) (bus : Fin 2) (configuration : Bool) => Works 4 s.live ∧ s.live.com.lssConf.length = 2) W.standby 1 true) ∧
    ((fun (s : State) (bus : Fin 2) (vendor : Nat) (product : Nat) (revision : Nat) (serial : Nat) => Works 4 s.live ∧
      s.live.com.lssConf.length = 2 ∧ vendor = s.live.identity 1 ∧ product = s.live.identity 2 ∧ revision = s.live.identity 3 ∧
      serial = s.live.identity 4) W.standby 1 (State.reset.live.identity 1) (State.reset.live.identity 2)
      (State.reset.live.identity 3) (State.reset.live.identity 4)) ∧
    ((fun (s : State) (bus : Fin 2) (vendor : Nat) (product : Nat) (revision : Nat) (serial : Nat) => vendor ≠ s.live.identity 1)
      W.standby 1 0 0 0 0) ∧
    ((fun (s : State) (bus : Fin 2) (node : Nat) => Works 4 s.live ∧ s.live.lssOn bus = true ∧ s.live.getN 0x200002 = 255 ∧
      s.live.mode.st = .standby ∧ ((1 ≤ node ∧ node ≤ 33) ∨ (65 ≤ node ∧ node ≤ 97) ∨ node = 255)) W.lss 1 97) ∧
    ((fun (s : State) (bus : Fin 2) (node : Nat) => Works 4 s.live ∧ s.live.lssOn bus = true ∧ s.live.getN 0x200002 = 255 ∧
      s.live.mode.st = .standby ∧ (node = 0 ∨ (33 < node ∧ node < 65) ∨ (97 < node ∧ node ≠ 255))) W.lss 1 98) ∧
    ((fun (s : State) (bus : Fin 2) (node : Nat) => Works 4 s.live ∧ s.live.lssOn bus = true ∧ (s.live.getN 0x200002 ≠ 255 ∨
      s.live.mode.st ≠ .standby)) (W.lv W.lss (fun L => L.put 0x200002 2)) 1 97) ∧
    ((fun (s : State) (bus : Fin 2) => Works 4 s.live ∧ s.live.lssOn bus = true) W.lss 1) ∧
    ((fun (s : State) (bus : Fin 2) (node : Nat) => s.live.lssOn bus = false) W.standby 1 97) := by
  refine ⟨?_, ?_, ?_, ?_, ?_, ?_, ?_, ?_⟩
  all_goals first | decide +kernel | ((repeat' apply And.intro) <;> first | rfl | exact Or.inr rfl | decide +kernel)

theorem witness_LayerSettingServices_1 :
    ((fun (s : State) (bus : Fin 2) => Works 4 s.live ∧ s.live.lssOn bus = true) W.lss 1) ∧
    ((fun (s : State) (bus : Fin 2) => Works 4 s.live ∧ s.live.lssOn bus = true) W.lss 1) ∧
    ((fun (s : State) (bus : Fin 2) => Works 4 s.live ∧ s.live.lssOn bus = true) W.lss 1) ∧
    ((fun (s : State) (bus : Fin 2) => Works 4 s.live ∧ s.live.lssOn bus = true) W.lss 1) ∧
    ((fun (s : State) (bus : Fin 2) => Works 4 s.live ∧ s.live.lssOn bus = true) W.lss 1) ∧
    ((fun (s : State) (bus : Fin 2) (vendor : Nat) (product : Nat) (revLo : Nat) (revHi : Nat) (serLo : Nat) (serHi : Nat) => Works
      4 s.live ∧ vendor = s.live.identity 1 ∧ product = s.live.identity 2 ∧ revLo ≤ s.live.identity 3 ∧ s.live.identity 3 ≤ revHi ∧
      serLo ≤ s.live.identity 4 ∧ s.live.identity 4 ≤ serHi) W.standby 1 (State.reset.live.identity 1) (State.reset.live.identity
      2) (State.reset.live.identity 3) (State.reset.live.identity 3) (State.reset.live.identity 4) (State.reset.live.identity 4)) ∧
    ((fun (s : State) (bus : Fin 2) => Works 4 s.live ∧ s.live.getN 0x200002 = 255) W.lss 1) ∧
    ((fun (s : State) (bus : Fin 2) => s.live.getN 0x200002 ≠ 255) W.standby 1) := by
  refine ⟨?_, ?_, ?_, ?_, ?_, ?_, ?_, ?_⟩
  all_goals first | decide +kernel | ((repeat' apply And.intro) <;> first | rfl | exact Or.inr rfl | decide +kernel)

theorem witness_ReadsAreAnswered :
    ((fun (s : State) (sess : Sess) (index : Nat) (sub : Nat) (segmented : Bool) => s.live.powered = true ∧ s.live.mode.st ≠ .boot
      ∧ s.live.serves sess = true ∧ s.live.follower = false ∧ index * 256 + sub ≠ 0x460010 ∧ iface sess = 1) (W.lv W.standby (fun L
      => { L with com := { L.com with nmt := 5 } })) 0x1001 0x2000 2 true) ∧
    ((fun (s : State) (sess : Sess) (index : Nat) (sub : Nat) (segmented : Bool) => (s.live.powered = false ∨ s.live.mode.st =
      .boot ∨ s.live.serves sess = false)) (W.inState .boot) 0x1001 0x2000 2 true) ∧
    ((fun (s : State) (sess : Sess) => s.live.powered = true ∧ (s.kept.find? (fun x => x.1 == sess)).isSome = true ∧ iface sess = 1
      ∧ s.live.ks.reading.any (fun y => y.1 == sess) = true)
      { W.lv W.standby (fun L => { L with ks := { L.ks with reading := [(0x1001, 0x200002)] } }) with kept := [(0x1001, 5, State.reset.snap)] }
      0x1001) ∧
    ((fun (s : State) (sess : Sess) => s.live.powered = true ∧ (s.kept.find? (fun x => x.1 == sess)).isSome = true ∧
      s.live.ks.reading.any (fun y => y.1 == sess) = false) { W.standby with kept := [(0x1001, 5, State.reset.snap)] } 0x1001) ∧
    ((fun (s : State) (sess : Sess) => s.kept.find? (fun x => x.1 == sess) = none) W.standby 0x1001) ∧
    ((fun (s : State) (sess : Sess) (n : Fin 8) => s.live.powered = true ∧ s.live.mode.st ≠ .boot ∧ s.live.serves sess = true ∧
      s.live.follower = false ∧ iface sess = 1) (W.lv W.standby (fun L => { L with com := { L.com with nmt := 5 } })) 0x1001 3) ∧
    ((fun (s : State) (sess : Sess) => s.live.powered = true ∧ s.live.mode.st ≠ .boot ∧ s.live.serves sess = true ∧ s.live.follower
      = false ∧ iface sess = 1) (W.lv W.standby (fun L => { L with com := { L.com with nmt := 5 } })) 0x1001) ∧
    ((fun (s : State) (sess : Sess) (seq : Nat) => s.live.powered = true ∧ s.live.serves sess = true ∧ iface sess = 1 ∧ s.live.getN
      0x46000E = seq ∧ s.live.getN 0x46000F = 1 ∧ seq < 2 ^ 32 ∧ s.live.rcd.valid seq = true) (W.lv W.record (fun L =>
      { L with com := { L.com with nmt := 5 } })) 0x1001 7) := by
  refine ⟨?_, ?_, ?_, ?_, ?_, ?_, ?_, ?_⟩
  all_goals first | decide +kernel | ((repeat' apply And.intro) <;> first | rfl | exact Or.inr rfl | decide +kernel)

theorem witness_WritesArriveAtTheKeystone_0 :
    ((fun (s : State) (sess : Sess) (index : Nat) (sub : Nat) (value : Bytes) => Granted sess 0 s.live ∧ s.live.mode.st ≠ .boot ∧
      s.live.follower = false ∧ s.live.mirrorsOut = false ∧ index * 256 + sub ≠ 0x210010 ∧ sub < 256 ∧ (s.live.touch sess).arrival
      sess index sub value = none) W.write 0x1001 0x3000 2 (leBytes 4 5)) ∧
    ((fun (s : State) (sess : Sess) (index : Nat) (sub : Nat) (value : Bytes) (e : Nat) => Granted sess 0 s.live ∧ s.live.mode.st ≠
      .boot ∧ s.live.follower = false ∧ s.live.mirrorsOut = false ∧ index * 256 + sub ≠ 0x210010 ∧ sub < 256 ∧ iface sess = 1 ∧
      (s.live.touch sess).arrival sess index sub value = some e) W.write 0x1001 0x3000 0x30 (leBytes 4 5) 0x06010002) ∧
    ((fun (s : State) (sess : Sess) (via : Bool) (index : Nat) (sub : Nat) (value : Bytes) => (s.live.powered = false ∨
      s.live.mode.st = .boot ∨ s.live.serves sess = false)) (W.inState .boot) 0x1001 false 0x3000 1 []) ∧
    ((fun (s : State) (sess : Sess) (image : Bytes) => Granted sess 0 s.live ∧ s.live.mode.st ≠ .boot ∧ s.live.follower = false ∧
      s.live.mirrorsOut = false ∧ iface sess = 1 ∧ parseTxn image = none) W.write 0x1001 [1, 0]) ∧
    ((fun (s : State) (sess : Sess) (image : Bytes) (flags : Nat) (tag : Nat) (base : Nat) (es : List (Nat × Bytes)) => Granted
      sess 0 s.live ∧ s.live.mode.st ≠ .boot ∧ s.live.follower = false ∧ s.live.mirrorsOut = false ∧ parseTxn image = some (flags,
      tag, base, es) ∧ (s.live.touch sess).txnArrival sess 1 s.live.ks.commands es = none) W.write 0x1001 W.txn 1 5 9 [(0x300002,
      leBytes 4 5)]) ∧
    ((fun (s : State) (sess : Sess) (image : Bytes) (flags : Nat) (tag : Nat) (base : Nat) (es : List (Nat × Bytes)) (pos : Nat) (e
      : Nat) => Granted sess 0 s.live ∧ s.live.mode.st ≠ .boot ∧ s.live.follower = false ∧ s.live.mirrorsOut = false ∧ iface sess =
      1 ∧ parseTxn image = some (flags, tag, base, es) ∧ (s.live.touch sess).txnArrival sess 1 s.live.ks.commands es = some (pos,
      e)) W.write 0x1001 W.txnBad 1 5 9 [(0x300030, leBytes 4 5)] 1 0x06010002) ∧
    ((fun (s : State) (sess : Sess) => Served sess 0 s.live ∧ s.live.follower = true) (W.lv W.write (fun L =>
      { L with twin := { L.twin with pair := 3, holds := false, p := { L.twin.p with token := 1 } } })) 0x1001) ∧
    ((fun (s : State) (sess : Sess) => Served sess 0 s.live ∧ s.live.follower = true) (W.lv W.write (fun L =>
      { L with twin := { L.twin with pair := 3, holds := false, p := { L.twin.p with token := 1 } } })) 0x1001) := by
  refine ⟨?_, ?_, ?_, ?_, ?_, ?_, ?_, ?_⟩
  all_goals first | decide +kernel | ((repeat' apply And.intro) <;> first | rfl | exact Or.inr rfl | decide +kernel)

theorem witness_WritesArriveAtTheKeystone_1 :
    ((fun (s : State) (sess : Sess) => Served sess 0 s.live ∧ s.live.follower = false ∧ s.live.getN 0x20000D = 2) (W.lv W.write
      (fun L => L.put 0x20000D 2)) 0x1001) := by
  all_goals first | decide +kernel | ((repeat' apply And.intro) <;> first | rfl | exact Or.inr rfl | decide +kernel)

theorem witness_SessionsAndLevels :
    ((fun (s : State) (sess : Sess) (response : Bytes) => Granted sess 0 s.live ∧ iface sess = 1 ∧ response.length = 25 ∧
      ((s.live.touch sess).session sess).map (·.lockUntil) = some none) W.granted 0x1001 (List.replicate 25 0)) ∧
    ((fun (s : State) (sess : Sess) (response : Bytes) (u : Nat) => Granted sess 0 s.live ∧ iface sess = 1 ∧ ((s.live.touch
      sess).session sess).map (·.lockUntil) = some (some u)) (W.lv W.granted (fun L =>
      { L with ks := { L.ks with sessions := [{ id := 0x1001, level := 1, lastReq := 0, lockUntil := some 5 }] } })) 0x1001
      (List.replicate 25 0) 5) ∧
    ((fun (s : State) (sess : Sess) (level : Nat) => Granted sess level s.live ∧ (iface sess = 1 ∨ iface sess = 2)) W.granted
      0x1001 1) ∧
    ((fun (s : State) (sess : Sess) (level : Nat) => Granted sess 0 s.live ∧ (s.live.touch sess).levelOf sess < level) W.granted
      0x1001 9) ∧
    ((fun (s : State) (sess : Sess) => s.live.powered = true ∧ (s.live.session sess).isSome = true ∧ (iface sess = 1 ∨ iface sess =
      2)) (W.lv W.granted (fun L => { L with ks := { L.ks with sessions := [{ id := 0x1001, level := 1, lastReq := 0 }] } }))
      0x1001) ∧
    ((fun (s : State) (sess : Sess) => s.live.session sess = none) W.granted 0x1001) ∧
    ((fun (s : State) (sess : Sess) (x : Session) (u : Nat) => s.live.powered = true ∧ (iface sess = 1 ∨ iface sess = 2) ∧
      s.live.session sess = some x ∧ x.lockUntil = some u) (W.lv W.granted (fun L =>
      { L with ks := { L.ks with sessions := [{ id := 0x1001, level := 1, lastReq := 0, lockUntil := some 5 }] } })) 0x1001
      { id := 0x1001, level := 1, lastReq := 0, lockUntil := some 5 } 5) ∧
    ((fun (s : State) (u : Nat) => s.live.powered = true ∧ s.live.dbg.lockUntil = some u) (W.lv W.granted (fun L =>
      { L with dbg := { L.dbg with lockUntil := some 5 } })) 5) := by
  refine ⟨?_, ?_, ?_, ?_, ?_, ?_, ?_, ?_⟩
  all_goals first | decide +kernel | ((repeat' apply And.intro) <;> first | rfl | exact Or.inr rfl | decide +kernel)

theorem witness_SafetySetIsEditedAndConfirmed :
    ((fun (s : State) (sess : Sess) (index : Nat) (sub : Nat) (value : Bytes) => Served sess 0 s.live ∧ isSafetyParam (index * 256
      + sub) = true ∧ sub < 256 ∧ (s.live.touch sess).arrival sess index sub value = none ∧ (∀ e ∈ (s.live.touch sess).ks.edit,
      e.owner = sess)) W.write 0x1001 0x4020 1 (leBytes 2 40000)) ∧
    ((fun (s : State) (sess : Sess) (index : Nat) (sub : Nat) (value : Bytes) (e : EditCopy) => Served sess 0 s.live ∧
      (s.live.touch sess).ks.edit = some e ∧ e.owner ≠ sess ∧ isSafetyParam (index * 256 + sub) = true ∧ sub < 256 ∧ (s.live.touch
      sess).arrival sess index sub value = none) (W.lv W.write (fun L =>
      { L with ks := { L.ks with edit := some { owner := 0x1002, vals := [], lastWrite := 5 } } })) 0x1001 0x4020 1 (leBytes 2
      40000) { owner := 0x1002, vals := [], lastWrite := 5 }) ∧
    ((fun (s : State) (sess : Sess) (e : EditCopy) => Granted sess 3 s.live ∧ (s.live.touch sess).ks.edit = some e ∧ e.owner =
      sess) (W.lv W.granted (fun L => { L with ks := { L.ks with edit := some { owner := 0x1001, vals := [], lastWrite := 5 } } }))
      0x1001 { owner := 0x1001, vals := [], lastWrite := 5 }) ∧
    ((fun (s : State) (sess : Sess) (e : EditCopy) (crc : Nat) => Granted sess 3 s.live ∧ (s.live.touch sess).ks.edit = some e ∧
      e.vals.all (fun p => isSafetyParam p.1) = true ∧ (s.live.touch sess).confirmReason sess crc = (0, 0)) W.confirm 0x1001
      { owner := 0x1001, vals := [], lastWrite := 0 } W.confirm.live.editCrc) ∧
    ((fun (s : State) (sess : Sess) (crc : Nat) => Granted sess 3 s.live ∧ ((s.live.touch sess).confirmReason sess crc).1 ≠ 0)
      W.granted 0x1001 5) ∧
    ((fun (s : State) (e : EditCopy) => s.live.powered = true ∧ s.live.ks.edit = some e) (W.lv W.granted (fun L =>
      { L with ks := { L.ks with edit := some { owner := 0x1001, vals := [], lastWrite := 5 } } }))
      { owner := 0x1001, vals := [], lastWrite := 5 }) ∧
    ((fun (s : State) => s.live.ks.edit = none) W.standby) ∧
    ((fun (s : State) (copyAOk : Bool) (copyBOk : Bool) => s.live.powered = true) W.standby false true) := by
  refine ⟨?_, ?_, ?_, ?_, ?_, ?_, ?_, ?_⟩
  all_goals first | decide +kernel | ((repeat' apply And.intro) <;> first | rfl | exact Or.inr rfl | decide +kernel)

theorem witness_RecorderCommitsFreezesAndClears_0 :
    ((fun (s : State) (p : Part) (e : Rec) => s.live.powered = true ∧ s.live.mayCommit = true ∧ s.live.rcd.intake.head? = some (p,
      e) ∧ s.live.jrn.ents = [] ∧ e.seq < 2 ^ 32) W.waiting .normal W.rec) ∧
    ((fun (s : State) => (s.live.rcd.intake = [] ∨ s.live.mayCommit = false)) W.standby) ∧
    ((fun (s : State) (e : Rec) => s.live.powered = true ∧ s.live.rcd.freeze = none ∧ s.live.rcd.repPending = [e]) (W.lv W.standby
      (fun L => { L with rcd := { L.rcd with freeze := none, repPending := [W.rec] } })) W.rec) ∧
    ((fun (s : State) => (s.live.rcd.repPending = [] ∨ s.live.rcd.freeze.isSome = true)) W.granted) ∧
    ((fun (s : State) (sess : Sess) => Granted sess 1 s.live ∧ s.live.rcd.freeze = none ∧ s.live.rcd.noFreeze = false) W.granted
      0x1001) ∧
    ((fun (s : State) (sess : Sess) (t : Nat) => Granted sess 1 s.live ∧ s.live.rcd.freeze = some (t, sess)) (W.lv W.granted (fun L
      => { L with rcd := { L.rcd with freeze := some (5, 0x1001) } })) 0x1001 5) ∧
    ((fun (s : State) (t : Nat) (sess : Sess) => s.live.powered = true ∧ s.live.rcd.freeze = some (t, sess)) (W.lv W.granted (fun L
      => { L with rcd := { L.rcd with freeze := some (5, 0x1001) } })) 5 0x1001) ∧
    ((fun (s : State) => s.live.rcd.freeze = none) W.standby) := by
  refine ⟨?_, ?_, ?_, ?_, ?_, ?_, ?_, ?_⟩
  all_goals first | decide +kernel | ((repeat' apply And.intro) <;> first | rfl | exact Or.inr rfl | decide +kernel)

theorem witness_RecorderCommitsFreezesAndClears_1 :
    ((fun (s : State) (sess : Sess) => Granted sess 3 s.live ∧ s.live.rcd.freeze = none ∧ s.live.getN 0x404001 = 0 ∧
      s.live.rcd.eraHeld = false) W.granted 0x1001) ∧
    ((fun (s : State) (sess : Sess) => Granted sess 3 s.live ∧ (s.live.rcd.freeze.isSome = true ∨ s.live.getN 0x404001 ≠ 0 ∨
      s.live.rcd.eraHeld = true)) (W.lv W.granted (fun L => { L with rcd := { L.rcd with eraHeld := true } })) 0x1001) := by
  refine ⟨?_, ?_⟩
  all_goals first | decide +kernel | ((repeat' apply And.intro) <;> first | rfl | exact Or.inr rfl | decide +kernel)

theorem witness_BaySummariesAndSnapshots_0 :
    ((fun (s : State) => Works 4 s.live ∧ s.live.com.bus.length = 2 ∧ s.live.mgr.own ≠ [] ∧ le s.live.mgr.own 0 4 = bayEpoch
      s.live.time.mtime % 2 ^ 32 ∧ s.live.time.mtime % ms 100 ≤ 400000 * (s.live.lower - 1) ∧ (s.live.hasPartner &&
      !s.live.twin.holds) = false ∧ s.live.mayTalk = true ∧ s.live.mgr.lead = false) W.summary) ∧
    ((fun (s : State) => Works 4 s.live ∧ s.live.mgr.own = []) W.standby) ∧
    ((fun (s : State) => Works 4 s.live ∧ s.live.mgr.lead = false ∧ ((s.live.hasPartner && !s.live.twin.holds) = true ∨
      s.live.mayTalk = false)) W.standby) ∧
    ((fun (s : State) => Works 4 s.live ∧ s.live.mgr.lead = true ∧ s.live.mgr.own ≠ [] ∧ le s.live.mgr.own 0 4 = bayEpoch
      s.live.time.mtime % 2 ^ 32 ∧ s.live.time.mtime % ms 100 ≤ 400000 * (s.live.lower - 1)) W.leadSummary) ∧
    ((fun (s : State) (n : Nat) (frame : Bytes) => Works 4 s.live ∧ s.live.mgr.lead = true ∧ 1 ≤ n ∧ n ≤ 33 ∧ frame.length = 48 ∧
      le frame 0 4 = bayEpoch s.live.time.mtime % 2 ^ 32 ∧ s.live.time.mtime % 100000000 ≤ 20000000 ∧ s.live.mgr.deadlineOf ≠ some
      (bayEpoch s.live.time.mtime) ∧ s.live.hasSummary n (bayEpoch s.live.time.mtime) = false ∧ (s.live.mgr.strings.filter (fun x
      => x.n != 1)).length < 31) W.manager 3 W.summaryBytes) ∧
    ((fun (s : State) (n : Nat) (frame : Bytes) => (s.live.mgr.lead = false ∨ n = 0 ∨ 33 < n ∨ frame.length ≠ 48 ∨ le frame 0 4 ≠
      bayEpoch s.live.time.mtime % 2 ^ 32 ∨ 20000000 < s.live.time.mtime % 100000000 ∨ s.live.hasSummary n (bayEpoch
      s.live.time.mtime) = true)) W.manager 34 []) ∧
    ((fun (s : State) => Works 4 s.live ∧ s.live.mgr.lead = true ∧ s.live.mgr.deadlineOf ≠ some (bayEpoch s.live.time.mtime))
      W.manager) ∧
    ((fun (s : State) => (s.live.mgr.lead = false ∨ s.live.mgr.deadlineOf = some (bayEpoch s.live.time.mtime))) W.standby) := by
  refine ⟨?_, ?_, ?_, ?_, ?_, ?_, ?_, ?_⟩
  all_goals first | decide +kernel | ((repeat' apply And.intro) <;> first | rfl | exact Or.inr rfl | decide +kernel)

theorem witness_BaySummariesAndSnapshots_1 :
    ((fun (s : State) => Works 4 s.live ∧ s.live.com.bus.length = 2 ∧ s.live.mgr.lead = true ∧ s.live.mayTalk = true ∧ (∀ m ∈
      s.live.mgr.sent, m < bayEpoch s.live.time.mtime)) W.manager) ∧
    ((fun (s : State) => (s.live.mgr.lead = false ∨ s.live.mayTalk = false)) W.standby) ∧
    ((fun (s : State) (frame : Bytes) => Works 4 s.live ∧ s.live.mgr.lead = false ∧ frame.length = 64) W.standby (List.replicate 64
      1)) ∧
    ((fun (s : State) (frame : Bytes) => frame.length ≠ 64) W.standby [1]) ∧
    ((fun (s : State) (frame : Bytes) => Works 4 s.live ∧ s.live.mgr.lead = false ∧ s.live.getN 0x200007 ≠ 1 ∧ frame.length = 48 ∧
      1 ≤ s.live.lower ∧ byteAt frame 4 = (s.live.lower - 1) / 20 ∧ newerTag (le frame 0 4) s.live.conv.dispTag = true ∧ newerTag
      (le frame 0 4) (s.live.conv.dispHeld.map (·.1)) = true) W.standby (leBytes 4 9 ++ List.replicate 44 0)) ∧
    ((fun (s : State) (frame : Bytes) => (s.live.mgr.lead = true ∨ s.live.getN 0x200007 = 1 ∨ frame.length ≠ 48 ∨ newerTag (le
      frame 0 4) s.live.conv.dispTag = false)) W.standby []) ∧
    ((fun (s : State) => Works 4 s.live ∧ s.live.mgr.lead = true ∧ s.live.getN 0x500040 ≠ 0 ∧ (∀ m ∈ s.live.mgr.dpSent, m <
      bayEpoch s.live.time.mtime)) (W.lv W.manager (fun L => L.put 0x500040 0x0A000001))) ∧
    ((fun (s : State) => (s.live.mgr.lead = false ∨ s.live.getN 0x500040 = 0)) W.standby) := by
  refine ⟨?_, ?_, ?_, ?_, ?_, ?_, ?_, ?_⟩
  all_goals first | decide +kernel | ((repeat' apply And.intro) <;> first | rfl | exact Or.inr rfl | decide +kernel)

theorem witness_SiteTimeByPtp_0 :
    ((fun (s : State) (a : Announce) => Works 4 s.live ∧ s.live.online = true ∧ a.domain = s.live.getN 0x500024 ∧ a.ptpTimescale =
      true ∧ s.live.mgr.ptp.master = none) W.manager W.announce) ∧
    ((fun (s : State) (a : Announce) => Works 4 s.live ∧ s.live.online = true ∧ a.domain = s.live.getN 0x500024 ∧ a.ptpTimescale =
      false) W.manager { W.announce with ptpTimescale := false }) ∧
    ((fun (s : State) (a : Announce) => (s.live.online = false ∨ a.domain ≠ s.live.getN 0x500024)) W.standby W.announce) ∧
    ((fun (s : State) (identity : Bytes) (seq : Nat) (origin : Int) (correction : Int) (rx : Int) => Works 4 s.live ∧
      s.live.fromMaster identity = true) W.ptpManager (W.announce.identity) 3 1000 5 7) ∧
    ((fun (s : State) (identity : Bytes) (seq : Nat) (origin : Int) (correction : Int) (rx : Int) => Works 4 s.live ∧
      s.live.fromMaster identity = true) (W.lv W.ptpManager (fun L =>
      { L with mgr := { L.mgr with ptp := { L.mgr.ptp with delay := some 9 } } })) (W.announce.identity) 3 1000 5 7) ∧
    ((fun (s : State) (identity : Bytes) (seq : Nat) (twoStep : Bool) (origin : Int) (correction : Int) (rx : Int) =>
      s.live.fromMaster identity = false) W.standby [] 3 false 1000 5 7) ∧
    ((fun (s : State) (identity : Bytes) (seq : Nat) (origin : Int) (correction : Int) (c0 : Int) (rx : Int) => Works 4 s.live ∧
      s.live.fromMaster identity = true ∧ s.live.mgr.ptp.sync = some (seq, c0, rx)) (W.lv W.ptpManager (fun L =>
      { L with mgr := { L.mgr with ptp := { L.mgr.ptp with sync := some (3, 5, 7) } } })) (W.announce.identity) 3 1000 5 5 7) ∧
    ((fun (s : State) (identity : Bytes) (seq : Nat) (origin : Int) (correction : Int) => (s.live.mgr.ptp.sync.map (·.1)) ≠ some
      seq) W.ptpManager (W.announce.identity) 3 1000 5) := by
  refine ⟨?_, ?_, ?_, ?_, ?_, ?_, ?_, ?_⟩
  all_goals first | decide +kernel | ((repeat' apply And.intro) <;> first | rfl | exact Or.inr rfl | decide +kernel)

theorem witness_SiteTimeByPtp_1 :
    ((fun (s : State) (tx : Int) => Works 4 s.live ∧ s.live.online = true ∧ s.live.mgr.ptp.t12.isSome = true) (W.lv W.ptpManager
      (fun L => { L with mgr := { L.mgr with ptp := { L.mgr.ptp with t12 := some (5, 7) } } })) 9) ∧
    ((fun (s : State) (tx : Int) => (s.live.online = false ∨ s.live.mgr.ptp.t12 = none)) W.standby 9) ∧
    ((fun (s : State) (seq : Nat) (receive : Int) (correction : Int) (t1 : Int) (t2 : Int) (t3 : Int) => Works 4 s.live ∧
      s.live.online = true ∧ s.live.mgr.ptp.req = some (seq, t3) ∧ s.live.mgr.ptp.t12 = some (t1, t2)) (W.lv W.ptpManager (fun L =>
      { L with mgr := { L.mgr with ptp := { L.mgr.ptp with req := some (3, 6), t12 := some (5, 7) } } })) 3 1000 5 5 7 6) ∧
    ((fun (s : State) (seq : Nat) (receive : Int) (correction : Int) => s.live.mgr.ptp.req.map (·.1) ≠ some seq) W.standby 3 1000
      5) ∧
    ((fun (s : State) => Works 4 s.live ∧ s.live.mgr.lead = true ∧ s.live.followsSite = true ∧ s.live.time.synced = true ∧
      (s.live.getN 0x220002 = 1 ∨ s.live.getN 0x220002 = 2)) (W.lv W.ptpManager (fun L =>
      { L.put 0x220002 2 with time := { L.time with synced := true } }))) ∧
    ((fun (s : State) => (s.live.mgr.lead = false ∨ s.live.time.synced = false)) W.standby) ∧
    ((fun (s : State) => Works 4 s.live ∧ s.live.mgr.lead = true ∧ s.live.time.synced = false ∧ s.live.mgr.ptp.master = none ∧
      bitOf (s.live.getN 0x500025) 2 = false) W.manager) ∧
    ((fun (s : State) => (s.live.mgr.lead = false ∨ s.live.time.synced = true)) W.standby) := by
  refine ⟨?_, ?_, ?_, ?_, ?_, ?_, ?_, ?_⟩
  all_goals first | decide +kernel | ((repeat' apply And.intro) <;> first | rfl | exact Or.inr rfl | decide +kernel)

theorem witness_SiteTimeByPtp_2 :
    ((fun (s : State) (sess : Sess) (time : Nat) => Granted sess 3 s.live ∧ s.live.isManager = true ∧ s.live.mgr.lead = true ∧
      s.live.time.synced = false ∧ s.live.time.firstPending = false ∧ time < 2 ^ 63) (W.lv W.manager (fun L => L.put 0x4C0007 4))
      0x1001 5000000) ∧
    ((fun (s : State) (sess : Sess) (time : Nat) => Served sess 0 s.live ∧ s.live.isManager = false) W.granted 0x1001 5) := by
  refine ⟨?_, ?_⟩
  all_goals first | decide +kernel | ((repeat' apply And.intro) <;> first | rfl | exact Or.inr rfl | decide +kernel)

theorem witness_EthernetAndModbus_0 :
    ((fun (s : State) (link : Fin 3) => Works 4 s.live ∧ s.live.online = true) W.manager 2) ∧
    ((fun (s : State) (link : Fin 3) => s.live.online = false) W.standby 2) ∧
    ((fun (s : State) (ip : Nat) => Works 4 s.live ∧ s.live.netUp = true ∧ ip = s.live.bootN 0x500020) W.manager
      (State.reset.live.bootN 0x500020)) ∧
    ((fun (s : State) (ip : Nat) => (s.live.netUp = false ∨ ip ≠ s.live.bootN 0x500020)) W.standby 5) ∧
    ((fun (s : State) (ip : Nat) (ident : Nat) (seq : Nat) (data : Bytes) => Works 4 s.live ∧ s.live.netUp = true) W.manager 5 6 7
      [1, 2]) ∧
    ((fun (s : State) (ip : Nat) (ident : Nat) (seq : Nat) (data : Bytes) => s.live.netUp = false) W.standby 5 6 7 [1, 2]) ∧
    ((fun (s : State) (client : Nat) (i : Fin 8) => Works 4 s.live ∧ s.live.netUp = true ∧ s.live.mgr.conns.length = 8 ∧
      (s.live.mgr.conns.getD i none).isNone = true ∧ (∀ j : Fin 8, j < i → (s.live.mgr.conns.getD j none).isNone = false) ∧
      s.live.clientLevel client ≠ 0xFF) W.manager 5 0) ∧
    ((fun (s : State) (client : Nat) => Works 4 s.live ∧ s.live.netUp = true ∧ ((∀ j : Fin 8, (s.live.mgr.conns.getD j none).isNone
      = false) ∨ s.live.clientLevel client = 0xFF)) (W.lv W.manager (fun L =>
      { L with mgr := { L.mgr with conns := List.replicate 8 (some { client := 3, level := 2 }) } })) 5) := by
  refine ⟨?_, ?_, ?_, ?_, ?_, ?_, ?_, ?_⟩
  all_goals first | decide +kernel | ((repeat' apply And.intro) <;> first | rfl | exact Or.inr rfl | decide +kernel)

theorem witness_EthernetAndModbus_1 :
    ((fun (s : State) (conn : Fin 8) => Works 4 s.live ∧ s.live.mgr.conns.length = 8 ∧ (s.live.mgr.conns.getD conn none).isSome =
      true) W.modbus 3) ∧
    ((fun (s : State) (conn : Fin 8) (code : Nat) => Works 4 s.live ∧ (s.live.mgr.conns.getD conn none).isSome = true) W.modbus 3
      99) ∧
    ((fun (s : State) (conn : Fin 8) (start : Nat) (count : Nat) => s.live.mgr.conns.getD conn none = none) W.standby 3 0 2) ∧
    ((fun (s : State) (conn : Fin 8) (start : Nat) (count : Nat) => Works 4 s.live ∧ (s.live.mgr.conns.getD conn none).isSome =
      true) W.modbus 3 0 2) ∧
    ((fun (s : State) (conn : Fin 8) => Works 4 s.live ∧ (s.live.mgr.conns.getD conn none).isSome = true) W.modbus 3) ∧
    ((fun (s : State) (conn : Fin 8) (start : Nat) (count : Nat) => Works 4 s.live ∧ (s.live.mgr.conns.getD conn none).isSome =
      true ∧ (count = 0 ∨ 125 < count ∨ 15 < start ∧ 48 < start + count)) W.modbus 3 0 200) ∧
    ((fun (s : State) (conn : Fin 8) (c0 : MbConn) (value : Nat) => Works 4 s.live ∧ s.live.mgr.conns.length = 8 ∧
      s.live.mgr.conns.getD conn none = some c0) W.modbus 3 { client := 5, level := 2 } 0x3000) ∧
    ((fun (s : State) (conn : Fin 8) (reg : Nat) (value : Nat) => Works 4 s.live ∧ (s.live.mgr.conns.getD conn none).isSome = true
      ∧ 17 ≤ reg) W.modbus 3 99 5) := by
  refine ⟨?_, ?_, ?_, ?_, ?_, ?_, ?_, ?_⟩
  all_goals first | decide +kernel | ((repeat' apply And.intro) <;> first | rfl | exact Or.inr rfl | decide +kernel)

theorem witness_EthernetAndModbus_2 :
    ((fun (s : State) (conn : Fin 8) (c0 : MbConn) (index : Nat) (sub : Nat) => Works 4 s.live ∧ s.live.mgr.conns.length = 8 ∧
      s.live.mgr.conns.getD conn none = some c0) W.modbus 3 { client := 5, level := 2 } 0x3000 2) ∧
    ((fun (s : State) (conn : Fin 8) (start : Nat) (values : List Nat) => Works 4 s.live ∧ (s.live.mgr.conns.getD conn none).isSome
      = true ∧ (values = [] ∨ 123 < values.length)) W.modbus 3 0 []) ∧
    ((fun (s : State) (conn : Fin 8) => Works 4 s.live ∧ (s.live.mgr.conns.getD conn none).isSome = true) W.modbus 3) := by
  refine ⟨?_, ?_, ?_⟩
  all_goals first | decide +kernel | ((repeat' apply And.intro) <;> first | rfl | exact Or.inr rfl | decide +kernel)

theorem witness_LogicBitInstructions_0 :
    ((fun (s : State) (o : BitOp) => Works 3 s.live ∧ loadOk (.ldb o) = true) W.logic
      { space := 0, inv := true, bit := 3, addr := 5 }) ∧
    ((fun (s : State) (o : BitOp) => Works 3 s.live ∧ loadOk (.andb o) = true) W.logic
      { space := 0, inv := true, bit := 3, addr := 5 }) ∧
    ((fun (s : State) (o : BitOp) => Works 3 s.live ∧ loadOk (.orb o) = true) W.logic
      { space := 0, inv := true, bit := 3, addr := 5 }) ∧
    ((fun (s : State) => Works 3 s.live) W.logic) ∧
    ((fun (s : State) => Works 3 s.live) W.logic) ∧
    ((fun (s : State) (b : Bool) (rest : List Bool) => Works 3 s.live ∧ s.live.lgc.vm.bst = b :: rest) W.logic true [false]) ∧
    ((fun (s : State) (b : Bool) (rest : List Bool) => Works 3 s.live ∧ s.live.lgc.vm.bst = b :: rest) W.logic true [false]) ∧
    ((fun (s : State) (o : BitOp) => Works 3 s.live ∧ loadOk (.stb o) = true) W.logic
      { space := 0, inv := true, bit := 3, addr := 5 }) := by
  refine ⟨?_, ?_, ?_, ?_, ?_, ?_, ?_, ?_⟩
  all_goals first | decide +kernel | ((repeat' apply And.intro) <;> first | rfl | exact Or.inr rfl | decide +kernel)

theorem witness_LogicBitInstructions_1 :
    ((fun (s : State) (o : BitOp) => Works 3 s.live ∧ loadOk (.setb o) = true) W.logic
      { space := 0, inv := true, bit := 3, addr := 5 }) ∧
    ((fun (s : State) (o : BitOp) => Works 3 s.live ∧ loadOk (.rstb o) = true) W.logic
      { space := 0, inv := true, bit := 3, addr := 5 }) := by
  refine ⟨?_, ?_⟩
  all_goals first | decide +kernel | ((repeat' apply And.intro) <;> first | rfl | exact Or.inr rfl | decide +kernel)

theorem witness_LogicWordInstructions_0 :
    ((fun (s : State) (o : WordOp) => Works 3 s.live ∧ loadOk (.ld o) = true) W.logic
      { space := 0, width := 1, sgn := true, addr := 6 }) ∧
    ((fun (s : State) (imm : BitVec 24) => Works 3 s.live) W.logic 0xFFFFFF) ∧
    ((fun (s : State) (imm : BitVec 24) => Works 3 s.live ∧ loadOk (.ldhi imm) = true) W.logic 0xFE) ∧
    ((fun (s : State) (o : WordOp) => Works 3 s.live ∧ loadOk (.add o) = true) W.logic
      { space := 0, width := 1, sgn := true, addr := 6 }) ∧
    ((fun (s : State) (o : WordOp) => Works 3 s.live ∧ loadOk (.sub o) = true) W.logic
      { space := 0, width := 1, sgn := true, addr := 6 }) ∧
    ((fun (s : State) (o : WordOp) => Works 3 s.live ∧ loadOk (.mul o) = true) W.logic
      { space := 0, width := 1, sgn := true, addr := 6 }) ∧
    ((fun (s : State) (o : WordOp) => Works 3 s.live ∧ loadOk (.div o) = true) W.logic
      { space := 0, width := 1, sgn := true, addr := 6 }) ∧
    ((fun (s : State) (imm : BitVec 24) => Works 3 s.live) W.logic 0xFFFFFF) := by
  refine ⟨?_, ?_, ?_, ?_, ?_, ?_, ?_, ?_⟩
  all_goals first | decide +kernel | ((repeat' apply And.intro) <;> first | rfl | exact Or.inr rfl | decide +kernel)

theorem witness_LogicWordInstructions_1 :
    ((fun (s : State) (o : WordOp) => Works 3 s.live ∧ loadOk (.and o) = true) W.logic
      { space := 0, width := 1, sgn := true, addr := 6 }) ∧
    ((fun (s : State) (o : WordOp) => Works 3 s.live ∧ loadOk (.or o) = true) W.logic
      { space := 0, width := 1, sgn := true, addr := 6 }) ∧
    ((fun (s : State) (imm : BitVec 24) => Works 3 s.live ∧ loadOk (.shl imm) = true) W.logic 31) ∧
    ((fun (s : State) (imm : BitVec 24) => Works 3 s.live) W.logic 0xFFFFFF) ∧
    ((fun (s : State) (o : WordOp) => Works 3 s.live ∧ loadOk (.min o) = true) W.logic
      { space := 0, width := 1, sgn := true, addr := 6 }) ∧
    ((fun (s : State) (o : WordOp) => Works 3 s.live ∧ loadOk (.max o) = true) W.logic
      { space := 0, width := 1, sgn := true, addr := 6 }) ∧
    ((fun (s : State) (o : WordOp) => Works 3 s.live ∧ loadOk (.eq o) = true) W.logic
      { space := 0, width := 1, sgn := true, addr := 6 }) ∧
    ((fun (s : State) (o : WordOp) => Works 3 s.live ∧ loadOk (.ne o) = true) W.logic
      { space := 0, width := 1, sgn := true, addr := 6 }) := by
  refine ⟨?_, ?_, ?_, ?_, ?_, ?_, ?_, ?_⟩
  all_goals first | decide +kernel | ((repeat' apply And.intro) <;> first | rfl | exact Or.inr rfl | decide +kernel)

theorem witness_LogicWordInstructions_2 :
    ((fun (s : State) (o : WordOp) => Works 3 s.live ∧ loadOk (.lt o) = true) W.logic
      { space := 0, width := 1, sgn := true, addr := 6 }) ∧
    ((fun (s : State) (o : WordOp) => Works 3 s.live ∧ loadOk (.gt o) = true) W.logic
      { space := 0, width := 1, sgn := true, addr := 6 }) ∧
    ((fun (s : State) (o : WordOp) => Works 3 s.live ∧ loadOk (.st o) = true) W.logic
      { space := 0, width := 1, sgn := true, addr := 6 }) := by
  refine ⟨?_, ?_, ?_⟩
  all_goals first | decide +kernel | ((repeat' apply And.intro) <;> first | rfl | exact Or.inr rfl | decide +kernel)

theorem witness_LogicControlInstructions_0 :
    ((fun (s : State) => Works 3 s.live) W.logic) ∧
    ((fun (s : State) (target : BitVec 24) => Works 3 s.live ∧ loadOk (.jmp target) = true) W.logic 7) ∧
    ((fun (s : State) (target : BitVec 24) => Works 3 s.live ∧ loadOk (.jmpt target) = true) W.logic 7) ∧
    ((fun (s : State) (target : BitVec 24) => Works 3 s.live ∧ loadOk (.jmpf target) = true) W.logic 7) ∧
    ((fun (s : State) (imm : BitVec 24) => Works 3 s.live ∧ loadOk (.loop imm) = true) W.logic 3) ∧
    ((fun (s : State) (first : Nat) (n : Nat) (rest : List (Nat × Nat)) => Works 3 s.live ∧ s.live.lgc.vm.loops = (first, n) ::
      rest) W.logic 3 2 []) ∧
    ((fun (s : State) (target : BitVec 24) => Works 3 s.live ∧ loadOk (.call target) = true) W.logic 7) ∧
    ((fun (s : State) (k : Nat) (rest : List Nat) => Works 3 s.live ∧ s.live.lgc.vm.calls = k :: rest) W.logic 9 [4]) := by
  refine ⟨?_, ?_, ?_, ?_, ?_, ?_, ?_, ?_⟩
  all_goals first | decide +kernel | ((repeat' apply And.intro) <;> first | rfl | exact Or.inr rfl | decide +kernel)

theorem witness_LogicControlInstructions_1 :
    ((fun (s : State) => Works 3 s.live) W.logic) := by
  all_goals first | decide +kernel | ((repeat' apply And.intro) <;> first | rfl | exact Or.inr rfl | decide +kernel)

theorem witness_LogicTimersCountersEdges :
    ((fun (s : State) (o : BlockOp) => Works 3 s.live ∧ loadOk (.ton o) = true) W.logic { space := 1, addr := 16 }) ∧
    ((fun (s : State) (o : BlockOp) => Works 3 s.live ∧ loadOk (.tof o) = true) W.logic { space := 1, addr := 16 }) ∧
    ((fun (s : State) (o : BlockOp) => Works 3 s.live ∧ loadOk (.tp o) = true) W.logic { space := 1, addr := 16 }) ∧
    ((fun (s : State) (o : BlockOp) => Works 3 s.live ∧ loadOk (.ctu o) = true) W.logic { space := 1, addr := 16 }) ∧
    ((fun (s : State) (o : BlockOp) => Works 3 s.live ∧ loadOk (.ctd o) = true) W.logic { space := 1, addr := 16 }) ∧
    ((fun (s : State) (o : BlockOp) => Works 3 s.live ∧ loadOk (.ctud o) = true) W.logic { space := 1, addr := 16 }) ∧
    ((fun (s : State) (o : BlockOp) => Works 3 s.live ∧ loadOk (.rTrig o) = true) W.logic { space := 1, addr := 16 }) ∧
    ((fun (s : State) (o : BlockOp) => Works 3 s.live ∧ loadOk (.fTrig o) = true) W.logic { space := 1, addr := 16 }) := by
  refine ⟨?_, ?_, ?_, ?_, ?_, ?_, ?_, ?_⟩
  all_goals first | decide +kernel | ((repeat' apply And.intro) <;> first | rfl | exact Or.inr rfl | decide +kernel)

theorem witness_LogicMessagesAndLoadCheck_0 :
    ((fun (s : State) (o : WordOp) => Works 3 s.live ∧ loadOk (.msgrx o) = true) W.logic
      { space := 0, width := 2, sgn := false, addr := 8 }) ∧
    ((fun (s : State) (o : WordOp) => Works 3 s.live ∧ loadOk (.msgtx o) = true) W.logic
      { space := 0, width := 2, sgn := false, addr := 8 }) ∧
    ((fun (s : State) (cls : Nat) (code : Nat) => Works 3 s.live ∧ loadOk (.evt cls code) = true) W.logic 1 5) ∧
    ((fun (s : State) (o : BitOp) => loadOk (.ldb o) = false) W.standby { space := 5, inv := false, bit := 0, addr := 0 }) ∧
    ((fun (s : State) (o : BitOp) => loadOk (.andb o) = false) W.standby { space := 5, inv := false, bit := 0, addr := 0 }) ∧
    ((fun (s : State) (o : BitOp) => loadOk (.orb o) = false) W.standby { space := 5, inv := false, bit := 0, addr := 0 }) ∧
    ((fun (s : State) (o : BitOp) => loadOk (.stb o) = false) W.standby { space := 2, inv := false, bit := 0, addr := 0 }) ∧
    ((fun (s : State) (o : BitOp) => loadOk (.setb o) = false) W.standby { space := 2, inv := false, bit := 0, addr := 0 }) := by
  refine ⟨?_, ?_, ?_, ?_, ?_, ?_, ?_, ?_⟩
  all_goals first | decide +kernel | ((repeat' apply And.intro) <;> first | rfl | exact Or.inr rfl | decide +kernel)

theorem witness_LogicMessagesAndLoadCheck_1 :
    ((fun (s : State) (o : BitOp) => loadOk (.rstb o) = false) W.standby { space := 2, inv := false, bit := 0, addr := 0 }) ∧
    ((fun (s : State) (o : WordOp) => loadOk (.ld o) = false) W.standby { space := 5, width := 0, sgn := false, addr := 0 }) ∧
    ((fun (s : State) (o : WordOp) => loadOk (.add o) = false) W.standby { space := 5, width := 0, sgn := false, addr := 0 }) ∧
    ((fun (s : State) (o : WordOp) => loadOk (.sub o) = false) W.standby { space := 5, width := 0, sgn := false, addr := 0 }) ∧
    ((fun (s : State) (o : WordOp) => loadOk (.mul o) = false) W.standby { space := 5, width := 0, sgn := false, addr := 0 }) ∧
    ((fun (s : State) (o : WordOp) => loadOk (.div o) = false) W.standby { space := 5, width := 0, sgn := false, addr := 0 }) ∧
    ((fun (s : State) (o : WordOp) => loadOk (.and o) = false) W.standby { space := 5, width := 0, sgn := false, addr := 0 }) ∧
    ((fun (s : State) (o : WordOp) => loadOk (.or o) = false) W.standby { space := 5, width := 0, sgn := false, addr := 0 }) := by
  refine ⟨?_, ?_, ?_, ?_, ?_, ?_, ?_, ?_⟩
  all_goals first | decide +kernel | ((repeat' apply And.intro) <;> first | rfl | exact Or.inr rfl | decide +kernel)

theorem witness_LogicMessagesAndLoadCheck_2 :
    ((fun (s : State) (o : WordOp) => loadOk (.min o) = false) W.standby { space := 5, width := 0, sgn := false, addr := 0 }) ∧
    ((fun (s : State) (o : WordOp) => loadOk (.max o) = false) W.standby { space := 5, width := 0, sgn := false, addr := 0 }) ∧
    ((fun (s : State) (o : WordOp) => loadOk (.eq o) = false) W.standby { space := 5, width := 0, sgn := false, addr := 0 }) ∧
    ((fun (s : State) (o : WordOp) => loadOk (.ne o) = false) W.standby { space := 5, width := 0, sgn := false, addr := 0 }) ∧
    ((fun (s : State) (o : WordOp) => loadOk (.lt o) = false) W.standby { space := 5, width := 0, sgn := false, addr := 0 }) ∧
    ((fun (s : State) (o : WordOp) => loadOk (.gt o) = false) W.standby { space := 5, width := 0, sgn := false, addr := 0 }) ∧
    ((fun (s : State) (o : WordOp) => loadOk (.st o) = false) W.standby { space := 5, width := 0, sgn := false, addr := 0 }) ∧
    ((fun (s : State) (o : WordOp) => loadOk (.msgrx o) = false) W.standby { space := 5, width := 0, sgn := false, addr := 0 }) := by
  refine ⟨?_, ?_, ?_, ?_, ?_, ?_, ?_, ?_⟩
  all_goals first | decide +kernel | ((repeat' apply And.intro) <;> first | rfl | exact Or.inr rfl | decide +kernel)

theorem witness_LogicMessagesAndLoadCheck_3 :
    ((fun (s : State) (o : WordOp) => loadOk (.msgtx o) = false) W.standby { space := 5, width := 0, sgn := false, addr := 0 }) ∧
    ((fun (s : State) (imm : BitVec 24) => loadOk (.ldhi imm) = false) W.standby 0x100) ∧
    ((fun (s : State) (imm : BitVec 24) => loadOk (.shl imm) = false) W.standby 0x100) ∧
    ((fun (s : State) (imm : BitVec 24) => loadOk (.loop imm) = false) W.standby 0x100) ∧
    ((fun (s : State) (target : BitVec 24) => loadOk (.jmp target) = false) W.standby 0x4000) ∧
    ((fun (s : State) (target : BitVec 24) => loadOk (.jmpt target) = false) W.standby 0x4000) ∧
    ((fun (s : State) (target : BitVec 24) => loadOk (.jmpf target) = false) W.standby 0x4000) ∧
    ((fun (s : State) (target : BitVec 24) => loadOk (.call target) = false) W.standby 0x4000) := by
  refine ⟨?_, ?_, ?_, ?_, ?_, ?_, ?_, ?_⟩
  all_goals first | decide +kernel | ((repeat' apply And.intro) <;> first | rfl | exact Or.inr rfl | decide +kernel)

theorem witness_LogicMessagesAndLoadCheck_4 :
    ((fun (s : State) (o : BlockOp) => loadOk (.ton o) = false) W.standby { space := 0, addr := 8 }) ∧
    ((fun (s : State) (o : BlockOp) => loadOk (.tof o) = false) W.standby { space := 0, addr := 8 }) ∧
    ((fun (s : State) (o : BlockOp) => loadOk (.tp o) = false) W.standby { space := 0, addr := 8 }) ∧
    ((fun (s : State) (o : BlockOp) => loadOk (.ctu o) = false) W.standby { space := 0, addr := 8 }) ∧
    ((fun (s : State) (o : BlockOp) => loadOk (.ctd o) = false) W.standby { space := 0, addr := 8 }) ∧
    ((fun (s : State) (o : BlockOp) => loadOk (.ctud o) = false) W.standby { space := 0, addr := 8 }) ∧
    ((fun (s : State) (o : BlockOp) => loadOk (.rTrig o) = false) W.standby { space := 0, addr := 8 }) ∧
    ((fun (s : State) (o : BlockOp) => loadOk (.fTrig o) = false) W.standby { space := 0, addr := 8 }) := by
  refine ⟨?_, ?_, ?_, ?_, ?_, ?_, ?_, ?_⟩
  all_goals first | decide +kernel | ((repeat' apply And.intro) <;> first | rfl | exact Or.inr rfl | decide +kernel)

theorem witness_LogicMessagesAndLoadCheck_5 :
    ((fun (s : State) (cls : Nat) (code : Nat) => loadOk (.evt cls code) = false) W.standby 3 0) := by
  all_goals first | decide +kernel | ((repeat' apply And.intro) <;> first | rfl | exact Or.inr rfl | decide +kernel)

theorem witness_LogicScanAndCommands_0 :
    ((fun (s : State) => (s.live.logicOn = false ∨ s.live.lgc.due = false)) W.standby) ∧
    ((fun (s : State) => Works 3 s.live ∧ s.live.logicState = 3 ∧ s.live.lgc.due = true) (W.lv W.standby (fun L => (L.put 0x440001
      3).modLgc (fun g => { g with due := true })))) ∧
    ((fun (s : State) => Works 3 s.live ∧ s.live.logicState = 2 ∧ s.live.lgc.due = true ∧ s.live.lgc.haltReq = true) (W.lv
      W.standby (fun L => (L.put 0x440001 2).modLgc (fun g => { g with due := true, haltReq := true })))) ∧
    ((fun (s : State) => Works 3 s.live ∧ s.live.logicState = 2 ∧ s.live.lgc.due = true ∧ s.live.lgc.haltReq = false) (W.lv
      W.standby (fun L => (L.put 0x440001 2).modLgc (fun g => { g with due := true })))) ∧
    ((fun (s : State) => Works 6 s.live ∧ s.live.logicOn = true) (W.lv W.standby (fun L => L.put 0x440001 3))) ∧
    ((fun (s : State) => s.live.logicOn = false) W.standby) ∧
    ((fun (s : State) (sess : Sess) => Granted sess 2 s.live ∧ s.live.bankValid s.live.lgc.bank = true) (W.lv W.granted (fun L =>
      L.modLgc (fun g => { g with bankOk := [true, false] }))) 0x1001) ∧
    ((fun (s : State) (sess : Sess) => Granted sess 2 s.live ∧ s.live.bankValid s.live.lgc.bank = false) W.granted 0x1001) := by
  refine ⟨?_, ?_, ?_, ?_, ?_, ?_, ?_, ?_⟩
  all_goals first | decide +kernel | ((repeat' apply And.intro) <;> first | rfl | exact Or.inr rfl | decide +kernel)

theorem witness_LogicScanAndCommands_1 :
    ((fun (s : State) (sess : Sess) => Granted sess 2 s.live ∧ s.live.logicOn = true) (W.lv W.granted (fun L => L.put 0x440001 2))
      0x1001) ∧
    ((fun (s : State) (sess : Sess) => Granted sess 2 s.live ∧ s.live.logicOn = false) W.granted 0x1001) ∧
    ((fun (s : State) (sess : Sess) => Granted sess 2 s.live ∧ s.live.activateRefusal false = 0) (W.lv W.granted (fun L => (L.put
      0x440001 2).modLgc (fun g => { g with bankOk := [true, true] }))) 0x1001) ∧
    ((fun (s : State) (sess : Sess) => Granted sess 2 s.live ∧ s.live.activateRefusal false ≠ 0) W.granted 0x1001) ∧
    ((fun (s : State) (sess : Sess) => Granted sess 2 s.live ∧ s.live.lgc.bank ≤ 1 ∧ s.live.lgc.bankOk.length = 2) W.granted
      0x1001) ∧
    ((fun (s : State) (sess : Sess) (bank : Fin 2) (image : Bytes) => Served sess 2 s.live ∧ bank.val ≠ s.live.lgc.bank ∧
      s.live.upd.replaced = false ∧ s.live.lgc.bankOk.length = 2) W.granted 0x1001 1 [1, 2]) ∧
    ((fun (s : State) (sess : Sess) (bank : Fin 2) (image : Bytes) => Served sess 2 s.live ∧ (bank.val = s.live.lgc.bank ∨
      s.live.upd.replaced = true)) W.granted 0x1001 0 [1, 2]) := by
  refine ⟨?_, ?_, ?_, ?_, ?_, ?_, ?_⟩
  all_goals first | decide +kernel | ((repeat' apply And.intro) <;> first | rfl | exact Or.inr rfl | decide +kernel)

theorem witness_LogicForces :
    ((fun (s : State) (sess : Sess) (entry : Bytes) (space : Nat) (addr : Nat) => Granted sess 2 s.live ∧ entry.length = 16 ∧ le
      entry 10 2 = 0 ∧ s.live.forcePlace entry = some (space, addr) ∧ s.live.lgc.forces.length < 64) W.granted 0x1001 [1, 2, 3, 0,
      0, 0, 0, 0, 1, 0, 0, 0, 9, 0, 0, 0] 2 3) ∧
    ((fun (s : State) (sess : Sess) (entry : Bytes) => Granted sess 2 s.live ∧ entry.length = 16 ∧ le entry 10 2 = 0 ∧
      s.live.forcePlace entry = none) W.granted 0x1001 [1, 0, 3, 0, 0, 0, 0, 0, 1, 0, 0, 0, 9, 0, 0, 0]) ∧
    ((fun (s : State) (sess : Sess) (entry : Nat) (f : Force) => Granted sess 2 s.live ∧ entry ≤ 63 ∧ s.live.lgc.forces.find? (fun
      f => f.slot == entry) = some f) (W.lv W.granted (fun L => L.modLgc (fun g =>
      { g with forces := [{ slot := 3, entry := [], space := 2, addr := 6, sess := 5 }] }))) 0x1001 3
      { slot := 3, entry := [], space := 2, addr := 6, sess := 5 }) ∧
    ((fun (s : State) (sess : Sess) (entry : Nat) => Granted sess 2 s.live ∧ s.live.lgc.forces.find? (fun f => f.slot == entry) =
      none) W.granted 0x1001 64) ∧
    ((fun (s : State) (sess : Sess) => Granted sess 2 s.live) W.granted 0x1001) := by
  refine ⟨?_, ?_, ?_, ?_, ?_⟩
  all_goals first | decide +kernel | ((repeat' apply And.intro) <;> first | rfl | exact Or.inr rfl | decide +kernel)

theorem witness_MirrorFramesAndTheirLoss_0 :
    ((fun (s : State) => s.live.powered = true ∧ s.live.mode.st ≠ .boot ∧ s.live.unassigned = false ∧ s.live.dbg.halted = 0 ∧
      (s.live.twin.pair = 2 ∨ s.live.twin.pair = 3)) W.paired) ∧
    ((fun (s : State) => (s.live.powered = false ∨ s.live.mode.st = .boot ∨ s.live.unassigned = true)) (W.inState .boot)) ∧
    ((fun (s : State) (frame : Bytes) (primary : Fin 3) (secondary : Fin 3) => Works 5 s.live ∧ s.live.dbg.halted = 0 ∧
      s.live.unassigned = false ∧ (s.live.frameOk frame = false ∨ (primary ≠ 2 ∧ secondary ≠ 2))) W.paired [] 2 2) ∧
    ((fun (s : State) (frame : Bytes) (primary : Fin 3) (secondary : Fin 3) => s.live.powered = true ∧ s.live.mode.st ≠ .boot ∧
      s.live.dbg.halted = 0 ∧ s.live.unassigned = false ∧ s.live.frameOk frame = true ∧ (primary = 2 ∨ secondary = 2) ∧
      s.live.twin.p.cepoch ≠ some (le frame 4 8)) W.paired W.mirror 2 0) ∧
    ((fun (s : State) => s.live.powered = true ∧ s.live.mode.st ≠ .boot ∧ s.live.dbg.halted = 0 ∧ s.live.twin.p.node ≠ 0 ∧
      s.live.twin.missing ≠ 1) W.paired) ∧
    ((fun (s : State) => s.live.powered = true ∧ s.live.mode.st ≠ .boot ∧ s.live.dbg.halted = 0 ∧ s.live.twin.p.node ≠ 0 ∧
      s.live.twin.missing = 1 ∧ s.live.twin.holds = true ∧ s.live.twin.pair ≠ 0 ∧ (s.live.pins.aux1 = true ∨ s.live.pins.aux2 =
      true)) (W.lv W.paired (fun L => { L with twin := { L.twin with missing := 1 } }))) ∧
    ((fun (s : State) => s.live.powered = true ∧ s.live.mode.st ≠ .boot ∧ s.live.dbg.halted = 0 ∧ s.live.twin.p.node ≠ 0 ∧
      s.live.twin.missing = 1 ∧ s.live.twin.holds = true ∧ s.live.twin.pair ≠ 0 ∧ (s.live.pins.aux1 = false ∧ s.live.pins.aux2 =
      false) ∧ s.live.pins.holdup = false ∧ s.live.saf.supplyLoss = false ∧ (s.live.driving = true ∨ s.live.mode.st = .standby))
      (W.lv W.paired (fun L =>
      { L with twin := { L.twin with missing := 1 }, pins := { L.pins with aux1 := false, aux2 := false } }))) ∧
    ((fun (s : State) => s.live.powered = true ∧ s.live.mode.st ≠ .boot ∧ s.live.dbg.halted = 0 ∧ s.live.twin.p.node ≠ 0 ∧
      s.live.twin.missing = 1 ∧ s.live.twin.holds = false ∧ s.live.twin.pair = 3 ∧ bitOf s.live.twin.p.token 0 = true ∧
      s.live.twin.wasInStep = true ∧ s.live.healthy = true ∧ s.live.getN 0x404001 = 0 ∧ s.live.saf.obeyed = none ∧
      (s.live.pins.aux1 = true ∨ s.live.pins.aux2 = true)) (W.lv W.paired (fun L =>
      { L with twin := { L.twin with holds := false, wasInStep := true, missing := 1, p := { L.twin.p with token := 1 } } }))) := by
  refine ⟨?_, ?_, ?_, ?_, ?_, ?_, ?_, ?_⟩
  all_goals first | decide +kernel | ((repeat' apply And.intro) <;> first | rfl | exact Or.inr rfl | decide +kernel)

theorem witness_MirrorFramesAndTheirLoss_1 :
    ((fun (s : State) => (s.live.powered = false ∨ s.live.mode.st = .boot ∨ s.live.twin.p.node = 0)) W.standby) := by
  all_goals first | decide +kernel | ((repeat' apply And.intro) <;> first | rfl | exact Or.inr rfl | decide +kernel)

theorem witness_PairCheckTransferHandover_0 :
    ((fun (s : State) (ownPass : Bool) (partnerPass : Bool) => Works 5 s.live ∧ s.live.twin.check = true ∧ s.live.twin.pair = 3)
      (W.lv W.paired (fun L => { L with twin := { L.twin with check := true } })) true true) ∧
    ((fun (s : State) (ownPass : Bool) (partnerPass : Bool) => s.live.twin.check = false) W.standby true true) ∧
    ((fun (s : State) (word : Bytes) => Works 5 s.live ∧ s.live.fromStandby = true ∧ word.length = 4 ∧ fcrc (word.take 2) = le word
      2 2 ∧ 1 ≤ byteAt word 0 ∧ byteAt word 0 ≤ 13 ∧ s.live.saf.obeyed = none) W.standby (W.urgent 3 2)) ∧
    ((fun (s : State) (word : Bytes) => Works 5 s.live ∧ word.length = 4 ∧ fcrc (word.take 2) = le word 2 2 ∧ byteAt word 0 = 14 ∧
      s.live.twin.pair = 3 ∧ s.live.twin.holds = false ∧ s.live.twin.claims = false ∧ s.live.healthy = true) (W.lv W.paired (fun L
      => { L with twin := { L.twin with holds := false } })) (W.urgent 14 0)) ∧
    ((fun (s : State) (word : Bytes) => (word.length ≠ 4 ∨ fcrc (word.take 2) ≠ le word 2 2 ∨ byteAt word 0 = 0 ∨ 14 < byteAt word
      0)) W.standby []) ∧
    ((fun (s : State) (b : Bytes) (t0 : Nat) (e : Nat) => s.live.powered = true ∧ s.live.mode.st ≠ .boot ∧ s.live.resyncing = true
      ∧ s.live.twin.image = some b ∧ s.live.twin.transfer = some (t0, e)) (W.lv W.paired (fun L =>
      { L with twin := { L.twin with pair := 2, holds := false, image := some [1], transfer := some (5, 6) } })) [1] 5 6) ∧
    ((fun (s : State) => s.live.resyncing = false) W.standby) ∧
    ((fun (s : State) (t0 : Nat) (e : Nat) => Works 4 s.live ∧ s.live.twin.transfer = some (t0, e)) (W.lv W.paired (fun L =>
      { L with twin := { L.twin with pair := 2, transfer := some (5, 6) } })) 5 6) := by
  refine ⟨?_, ?_, ?_, ?_, ?_, ?_, ?_, ?_⟩
  all_goals first | decide +kernel | ((repeat' apply And.intro) <;> first | rfl | exact Or.inr rfl | decide +kernel)

theorem witness_PairCheckTransferHandover_1 :
    ((fun (s : State) => s.live.twin.transfer = none) W.standby) ∧
    ((fun (s : State) (sess : Sess) => Granted sess 2 s.live ∧ s.live.healthyPartner = true ∧ s.live.twin.transfer = none ∧
      s.live.twin.check = false ∧ s.live.mode.st ≠ .safe) (W.lv W.granted (fun L =>
      { L with twin := { L.twin with pair := 3, p := { L.twin.p with healthyRun := 2 } } })) 0x1001) ∧
    ((fun (s : State) (sess : Sess) => Granted sess 2 s.live ∧ (s.live.healthyPartner = false ∨ s.live.mode.st = .safe)) W.granted
      0x1001) ∧
    ((fun (s : State) (sess : Sess) => Granted sess 2 s.live ∧ s.live.twin.pair = 3) (W.lv W.granted (fun L =>
      { L with twin := { L.twin with pair := 3 } })) 0x1001) ∧
    ((fun (s : State) (sess : Sess) => Granted sess 2 s.live ∧ s.live.twin.pair ≠ 3) W.granted 0x1001) ∧
    ((fun (s : State) (n : Nat) => Works 4 s.live ∧ s.live.twin.hoCount = some n) (W.lv W.paired (fun L =>
      { L with twin := { L.twin with hoCount := some 5 } })) 5) ∧
    ((fun (s : State) => s.live.twin.hoCount = none) W.standby) := by
  refine ⟨?_, ?_, ?_, ?_, ?_, ?_, ?_⟩
  all_goals first | decide +kernel | ((repeat' apply And.intro) <;> first | rfl | exact Or.inr rfl | decide +kernel)

theorem witness_StagingAndVerification_0 :
    ((fun (s : State) (sess : Sess) (image : Bytes) => Granted sess 2 s.live ∧ s.live.keepsFallback = false ∧ s.live.updState ≠ 5 ∧
      s.live.upd.slots.length = 2) W.granted 0x1001 [1]) ∧
    ((fun (s : State) (sess : Sess) (image : Bytes) => Granted sess 2 s.live ∧ (s.live.keepsFallback = true ∨ s.live.updState = 5))
      (W.lv W.granted (fun L => L.put 0x480001 5)) 0x1001 [1]) ∧
    ((fun (s : State) (sess : Sess) (image : Bytes) (sl : Slot) => Granted sess 2 s.live ∧ s.live.upd.slots.length = 2 ∧
      s.live.slotAt s.live.inactive = some sl ∧ image.length = 4112 ∧ (s.live.updState = 1 ∨ s.live.updState = 2) ∧ blockCheck
      sl.manifest image = 0 ∧ sl.blocks.any (fun x => x.1 == byteAt image 4 && x.2.1 == le image 6 2) = false) W.staging 0x1001
      W.block { manifest := W.manifest }) ∧
    ((fun (s : State) (sess : Sess) (image : Bytes) (sl : Slot) => Granted sess 2 s.live ∧ s.live.slotAt s.live.inactive = some sl
      ∧ image.length = 4112 ∧ (s.live.updState = 1 ∨ s.live.updState = 2) ∧ blockCheck sl.manifest image ≠ 0) W.staging 0x1001
      (List.replicate 4112 0) { manifest := W.manifest }) ∧
    ((fun (s : State) (sess : Sess) => Granted sess 2 s.live ∧ (s.live.updState = 2 ∨ s.live.updState = 3 ∨ s.live.updState = 4))
      (W.lv W.granted (fun L => L.put 0x480001 2)) 0x1001) ∧
    ((fun (s : State) (sess : Sess) => Granted sess 2 s.live ∧ s.live.updState ≠ 2 ∧ s.live.updState ≠ 3 ∧ s.live.updState ≠ 4)
      W.granted 0x1001) ∧
    ((fun (s : State) (r : VerifyReport) (sl : Slot) => s.live.powered = true ∧ s.live.updState = 3 ∧ s.live.slotAt s.live.inactive
      = some sl) W.verifying { signatureOk := false, digestsOk := true, configOk := true, compatible := true }
      { manifest := W.manifest }) ∧
    ((fun (s : State) (r : VerifyReport) => s.live.updState ≠ 3) W.standby
      { signatureOk := false, digestsOk := true, configOk := true, compatible := true }) := by
  refine ⟨?_, ?_, ?_, ?_, ?_, ?_, ?_, ?_⟩
  all_goals first | decide +kernel | ((repeat' apply And.intro) <;> first | rfl | exact Or.inr rfl | decide +kernel)

theorem witness_StagingAndVerification_1 :
    ((fun (s : State) (sess : Sess) => Granted sess 2 s.live ∧ s.live.upd.slots.length = 2 ∧ 1 ≤ s.live.updState ∧ s.live.updState
      ≤ 4) W.staging 0x1001) := by
  all_goals first | decide +kernel | ((repeat' apply And.intro) <;> first | rfl | exact Or.inr rfl | decide +kernel)

theorem witness_ActivationProbationAndUpkeep_0 :
    ((fun (s : State) (sess : Sess) (sl : Slot) => Granted sess 3 s.live ∧ s.live.updState = 4 ∧ s.live.slotAt s.live.inactive =
      some sl ∧ s.live.stopped = true ∧ s.live.hasPartner = false ∧ (s.live.twinByTwin sl.manifest = false ∨ s.live.inStep =
      false)) (W.lv W.staging (fun L => L.put 0x480001 4)) 0x1001 { manifest := W.manifest }) ∧
    ((fun (s : State) (sess : Sess) => Granted sess 2 s.live ∧ (s.live.updState ≠ 4 ∨ s.live.slotAt s.live.inactive = none))
      W.granted 0x1001) ∧
    ((fun (s : State) => s.live.powered = true ∧ s.live.upd.probation = true ∧ s.live.updState = 6 ∧ s.live.healthy = true ∧
      s.live.hasPartner = false) (W.lv W.granted (fun L => { L.put 0x480001 6 with upd := { L.upd with probation := true } }))) ∧
    ((fun (s : State) => (s.live.upd.probation = false ∨ s.live.updState ≠ 6 ∨ s.live.healthy = false)) W.standby) ∧
    ((fun (s : State) => s.live.powered = true ∧ s.live.upd.probation = true) (W.lv W.granted (fun L =>
      { L with upd := { L.upd with probation := true } }))) ∧
    ((fun (s : State) => s.live.upd.probation = false) W.standby) ∧
    ((fun (s : State) => s.live.powered = true ∧ s.live.upd.probation = true ∧ (s.live.twin.holds = false ∨ s.live.healthyPartner =
      false)) (W.lv W.granted (fun L => { L with upd := { L.upd with probation := true } }))) ∧
    ((fun (s : State) => s.live.upd.probation = false) W.standby) := by
  refine ⟨?_, ?_, ?_, ?_, ?_, ?_, ?_, ?_⟩
  all_goals first | decide +kernel | ((repeat' apply And.intro) <;> first | rfl | exact Or.inr rfl | decide +kernel)

theorem witness_ActivationProbationAndUpkeep_1 :
    ((fun (s : State) => s.live.powered = true ∧ s.live.twin.holds = true ∧ s.live.upd.nodeStop = false ∧ s.live.updState = 10 ∧
      s.live.upd.nodeSeg = none ∧ s.live.nextNode = none) (W.lv W.granted (fun L =>
      { L.put 0x480001 10 with twin := { L.twin with holds := true } }))) ∧
    ((fun (s : State) (seg : Fin 16) (t0 : Nat) => s.live.powered = true ∧ s.live.seg.length = 16 ∧ s.live.twin.holds = true ∧
      s.live.upd.nodeStop = false ∧ s.live.updState = 10 ∧ s.live.upd.nodeSeg = some (seg.val, 2, t0) ∧ (s.live.nodePart
      seg).isSome = true ∧ t0 + sec 5 < s.live.time.clk) W.nodeUpd 2 0) ∧
    ((fun (s : State) (seg : Fin 16) (t0 : Nat) => s.live.powered = true ∧ s.live.twin.holds = true ∧ s.live.upd.nodeStop = false ∧
      s.live.updState = 10 ∧ s.live.upd.nodeSeg = some (seg.val, 1, t0) ∧ (s.live.segAt seg).req = none ∧ (s.live.segAt seg).reqQ =
      []) (W.lv W.nodeUpd (fun L => { L with upd := { L.upd with nodeSeg := some (2, 1, 5) } })) 2 5) ∧
    ((fun (s : State) => (s.live.twin.holds = false ∨ s.live.upd.nodeStop = true)) W.standby) ∧
    ((fun (s : State) (sess : Sess) (key : Bytes) => Served sess 3 s.live ∧ key.length = 64 ∧ s.live.blobOf 0x480012 = [] ∧
      (s.live.mode.st = .standby ∨ s.live.mode.st = .service)) W.granted 0x1001 (List.replicate 64 3)) ∧
    ((fun (s : State) (sess : Sess) (key : Bytes) => Served sess 3 s.live ∧ key.length = 64 ∧ (s.live.blobOf 0x480012 ≠ [] ∨
      (s.live.mode.st ≠ .standby ∧ s.live.mode.st ≠ .service))) (W.lv W.granted (fun L => L.putBlob 0x480012 [1])) 0x1001
      (List.replicate 64 3)) ∧
    ((fun (s : State) (block : Fin 1024) => s.live.powered = true ∧ s.live.upd.refreshAt = none ∧ s.live.blockWritten block +
      fiveYears ≤ s.live.flashNow) (W.lv W.granted (fun L => { L with time := { L.time with mtime := fiveYears } })) 5) ∧
    ((fun (s : State) (block : Fin 1024) (ok : Bool) => s.live.flashNow < s.live.blockWritten block + fiveYears) W.standby 5 true) := by
  refine ⟨?_, ?_, ?_, ?_, ?_, ?_, ?_, ?_⟩
  all_goals first | decide +kernel | ((repeat' apply And.intro) <;> first | rfl | exact Or.inr rfl | decide +kernel)

theorem witness_ActivationProbationAndUpkeep_2 :
    ((fun (s : State) => s.live.powered = true ∧ s.live.jrn.ents = []) W.granted) ∧
    ((fun (s : State) => s.live.powered = true) W.granted) := by
  refine ⟨?_, ?_⟩
  all_goals first | decide +kernel | ((repeat' apply And.intro) <;> first | rfl | exact Or.inr rfl | decide +kernel)

theorem witness_DebugSessionsAndReads_0 :
    ((fun (s : State) (tag : Byte) => s.live.powered = true ∧ s.live.mode.st ≠ .boot ∧ s.live.dbg.waiting = none ∧
      s.live.dbg.session = none ∧ s.live.isSet 0x4C0026 = true) (W.lv W.standby (fun L => L.put 0x4C0026 1)) 7) ∧
    ((fun (s : State) (tag : Byte) => s.live.powered = true ∧ s.live.mode.st ≠ .boot ∧ s.live.dbg.waiting = none ∧
      (s.live.dbg.session.isSome = true ∨ s.live.isSet 0x4C0026 = false)) W.dbg 7) ∧
    ((fun (s : State) (tag : Byte) (level : Nat) (mac : Bytes) (d : Nat × Nat) => s.live.powered = true ∧ s.live.mode.st ≠ .boot ∧
      s.live.dbg.waiting = none ∧ s.live.dbg.session = some d ∧ s.live.dbg.lockUntil = none ∧ mac.length = 16) W.dbg 7 2
      (List.replicate 16 0) (2, 0)) ∧
    ((fun (s : State) (tag : Byte) (d : Nat × Nat) => s.live.powered = true ∧ s.live.mode.st ≠ .boot ∧ s.live.dbg.waiting = none ∧
      s.live.dbg.session = some d) W.dbg 7 (2, 0)) ∧
    ((fun (s : State) (d : Nat × Nat) => s.live.powered = true ∧ s.live.dbg.session = some d) W.dbg (2, 0)) ∧
    ((fun (s : State) => s.live.dbg.session = none) W.standby) ∧
    ((fun (s : State) (tag : Byte) (d : Nat × Nat) => s.live.powered = true ∧ s.live.mode.st ≠ .boot ∧ s.live.dbg.waiting = none ∧
      s.live.dbg.session = some d) W.dbg 7 (2, 0)) ∧
    ((fun (s : State) (tag : Byte) => s.live.powered = true ∧ s.live.mode.st ≠ .boot ∧ s.live.dbg.waiting = none ∧
      s.live.dbg.session = none) W.standby 7) := by
  refine ⟨?_, ?_, ?_, ?_, ?_, ?_, ?_, ?_⟩
  all_goals first | decide +kernel | ((repeat' apply And.intro) <;> first | rfl | exact Or.inr rfl | decide +kernel)

theorem witness_DebugSessionsAndReads_1 :
    ((fun (s : State) (tag : Byte) (crcWrong : Bool) => s.live.powered = true ∧ s.live.mode.st ≠ .boot ∧ s.live.dbg.waiting = none)
      W.dbg 7 true) ∧
    ((fun (s : State) (tag : Byte) (addr : Nat) (len : Nat) (d : Nat × Nat) => s.live.powered = true ∧ s.live.mode.st ≠ .boot ∧
      s.live.dbg.waiting = none ∧ s.live.dbg.session = some d ∧ 2 ≤ d.1 ∧ 4 ≤ len ∧ len ≤ 1024 ∧ len % 4 = 0 ∧ addr % 4 = 0) W.dbg
      7 0x51000000 8 (2, 0)) ∧
    ((fun (s : State) (tag : Byte) (addr : Nat) (len : Nat) (d : Nat × Nat) => s.live.powered = true ∧ s.live.mode.st ≠ .boot ∧
      s.live.dbg.waiting = none ∧ s.live.dbg.session = some d ∧ d.1 < 2) (W.lv W.dbg (fun L =>
      { L with dbg := { L.dbg with session := some (1, 0) } })) 7 0x51000000 8 (1, 0)) ∧
    ((fun (s : State) (tag : Byte) (addr : Nat) (data : Bytes) (d : Nat × Nat) (i : Fin 6) => s.live.powered = true ∧
      s.live.mode.st ≠ .boot ∧ s.live.dbg.waiting = none ∧ s.live.dbg.session = some d ∧ d.1 = 4 ∧ 4 ≤ data.length ∧ data.length ≤
      1024 ∧ data.length % 4 = 0 ∧ addr % 4 = 0 ∧ 0x40000000 + 0x100000 * i.val ≤ addr ∧ addr + data.length ≤ 0x40000000 + 0x100000
      * (i.val + 1) ∧ bitOf s.live.dbg.halted i = true) (W.lv W.dbg (fun L =>
      { L with dbg := { L.dbg with session := some (4, 0), halted := 1 } })) 7 0x40000000 [1, 2, 3, 4] (4, 0) 0) ∧
    ((fun (s : State) (tag : Byte) (addr : Nat) (data : Bytes) (d : Nat × Nat) => s.live.powered = true ∧ s.live.mode.st ≠ .boot ∧
      s.live.dbg.waiting = none ∧ s.live.dbg.session = some d ∧ 2 ≤ d.1 ∧ 4 ≤ data.length ∧ data.length ≤ 1024 ∧ data.length % 4 =
      0 ∧ addr % 4 = 0 ∧ 0x51000000 ≤ addr ∧ addr + data.length ≤ 0x51005000 ∧ s.live.logicState = 3 ∧ s.live.ks.commands < 16 ∧
      s.live.follower = false ∧ s.live.mirrorsOut = false) (W.lv W.dbg (fun L => L.put 0x440001 3)) 7 0x51000000 [1, 2, 3, 4] (2,
      0)) ∧
    ((fun (s : State) (tag : Byte) (index : Nat) (sub : Nat) (d : Nat × Nat) => s.live.powered = true ∧ s.live.mode.st ≠ .boot ∧
      s.live.dbg.waiting = none ∧ s.live.dbg.session = some d ∧ s.live.follower = false ∧ index * 256 + sub ≠ 0x460010) W.dbg 7
      0x2000 8 (2, 0)) ∧
    ((fun (s : State) (tag : Byte) (index : Nat) (sub : Nat) (value : Bytes) (d : Nat × Nat) => s.live.powered = true ∧
      s.live.mode.st ≠ .boot ∧ s.live.dbg.waiting = none ∧ s.live.dbg.session = some d ∧ s.live.follower = false ∧
      s.live.mirrorsOut = false ∧ s.live.ks.commands < 16 ∧ index * 256 + sub ≠ 0x210010 ∧ sub < 256 ∧ (s.live.touch
      dbgSess).arrivalAt d.1 index sub value = none) W.dbg 7 0x3000 2 (leBytes 4 5) (2, 0)) := by
  refine ⟨?_, ?_, ?_, ?_, ?_, ?_, ?_⟩
  all_goals first | decide +kernel | ((repeat' apply And.intro) <;> first | rfl | exact Or.inr rfl | decide +kernel)

theorem witness_DebugHaltsAndBreakpoints_0 :
    ((fun (s : State) (tag : Byte) (d : Nat × Nat) => s.live.powered = true ∧ s.live.mode.st ≠ .boot ∧ s.live.dbg.waiting = none ∧
      s.live.dbg.session = some d ∧ 2 ≤ d.1 ∧ s.live.ks.commands < 16 ∧ s.live.follower = false ∧ s.live.mirrorsOut = false) W.dbg
      7 (2, 0)) ∧
    ((fun (s : State) (tag : Byte) (count : Nat) (d : Nat × Nat) => s.live.powered = true ∧ s.live.mode.st ≠ .boot ∧
      s.live.dbg.waiting = none ∧ s.live.dbg.session = some d ∧ 2 ≤ d.1 ∧ 1 ≤ count ∧ count ≤ 16 ∧ s.live.ks.commands < 16 ∧
      s.live.follower = false ∧ s.live.mirrorsOut = false) W.dbg 7 16 (2, 0)) ∧
    ((fun (s : State) (tag : Byte) (count : Nat) (d : Nat × Nat) => s.live.powered = true ∧ s.live.mode.st ≠ .boot ∧
      s.live.dbg.waiting = none ∧ s.live.dbg.session = some d ∧ 2 ≤ d.1 ∧ (count = 0 ∨ 16 < count)) W.dbg 7 17 (2, 0)) ∧
    ((fun (s : State) (tag : Byte) (d : Nat × Nat) => s.live.powered = true ∧ s.live.mode.st ≠ .boot ∧ s.live.dbg.waiting = none ∧
      s.live.dbg.session = some d ∧ 2 ≤ d.1 ∧ s.live.ks.commands < 16 ∧ s.live.follower = false ∧ s.live.mirrorsOut = false) W.dbg
      7 (2, 0)) ∧
    ((fun (s : State) (tag : Byte) (d : Nat × Nat) => s.live.powered = true ∧ s.live.mode.st ≠ .boot ∧ s.live.dbg.waiting = none ∧
      s.live.dbg.session = some d ∧ 2 ≤ d.1 ∧ s.live.ks.commands < 16 ∧ s.live.follower = false ∧ s.live.mirrorsOut = false) W.dbg
      7 (2, 0)) ∧
    ((fun (s : State) (tag : Byte) (slot : Nat) (kind : Nat) (param : Nat) (d : Nat × Nat) => s.live.powered = true ∧
      s.live.mode.st ≠ .boot ∧ s.live.dbg.waiting = none ∧ s.live.dbg.session = some d ∧ 2 ≤ d.1 ∧ kind < 2 ∧ brkOk slot kind param
      = true ∧ s.live.ks.commands < 16 ∧ s.live.follower = false ∧ s.live.mirrorsOut = false) W.dbg 7 7 1 5 (2, 0)) ∧
    ((fun (s : State) (tag : Byte) (slot : Nat) (kind : Nat) (param : Nat) (d : Nat × Nat) => s.live.powered = true ∧
      s.live.mode.st ≠ .boot ∧ s.live.dbg.waiting = none ∧ s.live.dbg.session = some d ∧ d.1 = 4 ∧ 2 ≤ kind ∧ brkOk slot kind param
      = true ∧ s.live.haltAllowed = true ∧ s.live.islandSlots slot < 2 ∧ s.live.dbg.brk.length = 8) (W.lv W.dbg (fun L =>
      { L with dbg := { L.dbg with session := some (4, 0) } })) 7 7 2 63 (4, 0)) ∧
    ((fun (s : State) (tag : Byte) (slot : Nat) (d : Nat × Nat) (k : Nat) => s.live.powered = true ∧ s.live.mode.st ≠ .boot ∧
      s.live.dbg.waiting = none ∧ s.live.dbg.session = some d ∧ d.1 = 4 ∧ slot < 8 ∧ s.live.brkKind slot = some k ∧ 2 ≤ k) (W.lv
      W.dbg (fun L =>
      { L with dbg := { L.dbg with session := some (4, 0), brk := [some { kind := 2, param := 3, sess := 5, node := 2 }] } })) 7 0
      (4, 0) 2) := by
  refine ⟨?_, ?_, ?_, ?_, ?_, ?_, ?_, ?_⟩
  all_goals first | decide +kernel | ((repeat' apply And.intro) <;> first | rfl | exact Or.inr rfl | decide +kernel)

theorem witness_DebugHaltsAndBreakpoints_1 :
    ((fun (s : State) (tag : Byte) (slot : Nat) (d : Nat × Nat) => s.live.powered = true ∧ s.live.mode.st ≠ .boot ∧
      s.live.dbg.waiting = none ∧ s.live.dbg.session = some d ∧ 2 ≤ d.1 ∧ slot < 8 ∧ s.live.brkKind slot = none ∧
      s.live.ks.commands < 16 ∧ s.live.follower = false ∧ s.live.mirrorsOut = false) W.dbg 7 7 (2, 0)) ∧
    ((fun (s : State) (tag : Byte) (island : Nat) (d : Nat × Nat) => s.live.powered = true ∧ s.live.mode.st ≠ .boot ∧
      s.live.dbg.waiting = none ∧ s.live.dbg.session = some d ∧ d.1 = 4 ∧ island < 6 ∧ s.live.haltAllowed = true) (W.lv W.dbg (fun
      L => { L with dbg := { L.dbg with session := some (4, 0) } })) 7 5 (4, 0)) ∧
    ((fun (s : State) (tag : Byte) (island : Nat) (d : Nat × Nat) => s.live.powered = true ∧ s.live.mode.st ≠ .boot ∧
      s.live.dbg.waiting = none ∧ s.live.dbg.session = some d ∧ d.1 = 4 ∧ island < 6 ∧ s.live.haltAllowed = false) (W.lv (W.inState
      .run) (fun L => { L with twin := { L.twin with holds := true }, dbg := { L.dbg with session := some (4, 0) } })) 7 5 (4, 0)) ∧
    ((fun (s : State) (tag : Byte) (d : Nat × Nat) => s.live.powered = true ∧ s.live.mode.st ≠ .boot ∧ s.live.dbg.waiting = none ∧
      s.live.dbg.session = some d ∧ d.1 = 4) (W.lv W.dbg (fun L => { L with dbg := { L.dbg with session := some (4, 0) } })) 7 (4,
      0)) := by
  refine ⟨?_, ?_, ?_, ?_⟩
  all_goals first | decide +kernel | ((repeat' apply And.intro) <;> first | rfl | exact Or.inr rfl | decide +kernel)

/-! ### Witnesses of the statements over all commands -/

theorem witness_StepRunsFrontCommand : State.reset.pending = [] := rfl

theorem witness_NothingRunsInQuarryOrOff :
    State.reset.live.powered = false ∧ exec .heartbeatTx State.reset = .next State.reset := ⟨by decide, rfl⟩

theorem witness_StatesFollowTheTable :
    (Instr.enterPreOperational 2 ≠ .courseBoundary ∧ Instr.enterPreOperational 2 ≠ .mirrorFrameMissing ∧
      Instr.enterPreOperational 2 ≠ .stateTransferComplete ∧ ∀ f p q, Instr.enterPreOperational 2 ≠ .mirrorFrameRx f p q) ∧
    ∃ t, exec (.enterPreOperational 2) W.standby = .next t :=
  ⟨⟨nofun, nofun, nofun, nofun⟩, ⟨_, rfl⟩⟩

theorem witness_LoopStaysOpenBeforeStandby :
    OpenBeforeStandby (W.inState .boot).live ∧
    ∃ t, step { W.inState .boot with pending := [.enterPreOperational 2] } = .next t :=
  ⟨by decide +kernel, ⟨_, rfl⟩⟩

theorem witness_LogicMemoryStaysCanonical :
    Memory.wf (W.logic.live.logicOp (.stb { space := 0, inv := false, bit := 3, addr := 6 })).lgc.vm.mem = true ∧
    (W.logic.live.logicOp (.stb { space := 0, inv := false, bit := 3, addr := 6 })).lgc.vm.mem ≠ [] ∧
    ∃ t, step { W.lv W.logic (fun L => L.logicOp (.stb { space := 0, inv := false, bit := 3, addr := 6 })) with
      pending := [.stb { space := 0, inv := true, bit := 3, addr := 5 }] } = .next t := by
  refine ⟨?_, ?_, ?_⟩
  · decide +kernel
  · decide +kernel
  · exact ⟨_, rfl⟩

theorem witness_EveryStepKeepsTheShape :
    W.standby.live.shaped = true ∧ ∃ t, step { W.standby with pending := [.enterPreOperational 2] } = .next t :=
  ⟨by decide +kernel, ⟨_, rfl⟩⟩

/-- A program image of two instructions: PUSHB and END. -/
def W.program : Bytes := List.replicate 12 0 ++ leBytes 4 2 ++ List.replicate 48 0 ++ leBytes 4 0x08000000 ++ leBytes 4 0x37000000

theorem witness_CodeWordsRunAsTheRows :
    (Works 3 W.logic.live ∧ W.logic.live.lgc.vm.ended = false ∧ W.logic.live.brkAt W.logic.live.lgc.vm.pc = none ∧
      imgInstr W.program W.logic.live.lgc.vm.pc = some .pushb) ∧
    (W.logic.live.logicOp .pushb).brkChanged W.logic.live.lgc.vm.mem = none := by
  decide +kernel

/-- A sample whose input IN0 holds a value in one lane. -/
def W.frozen (x : Rat) : Frozen :=
  { ins := [ashOf x], mode := 0, strobe := false, sswOpen := false, sig := 0, target := none, imp := 0 }
/-- A stage of one lane fed by IN0 with two coefficients, −3 and 5. -/
def W.stage (ty variant : Nat) (a b : Rat) : Stage :=
  ({ ty := ty, lanes := 1, mask := 7, src := [0, 255, 255, 255], variant := variant } : Stage).withC [a, b]
/-- Lane 0 of its input. -/
def W.laneOf (x : Rat) (g : Stage) : Rat := (fetch (W.frozen x) [] [] 5 g 0 1).lane 0

theorem witness_ElementaryStagesCompute :
    ((W.stage 1 0 5 0).ty = 1 ∧ srcNone ((W.stage 1 0 5 0).src.getD 1 255) = true ∧ W.laneOf 4 (W.stage 1 0 5 0) = 4) ∧
    ((W.stage 7 3 (-3) 5).c 0 ≤ (W.stage 7 3 (-3) 5).c 1 ∧ (W.stage 7 3 (-3) 5).c 0 ≤ W.laneOf 4 (W.stage 7 3 (-3) 5) ∧
      W.laneOf 4 (W.stage 7 3 (-3) 5) ≤ (W.stage 7 3 (-3) 5).c 1) ∧
    (W.stage 7 3 (-3) 5).c 1 < W.laneOf 6 (W.stage 7 3 (-3) 5) ∧
    W.laneOf (-4) (W.stage 7 3 (-3) 5) < (W.stage 7 3 (-3) 5).c 0 ∧
    (W.stage 7 3 5 (-3)).c 1 < (W.stage 7 3 5 (-3)).c 0 ∧
    (0 ≤ (W.stage 8 1 2 3).c 0 ∧ 0 ≤ (W.stage 8 1 2 3).c 1 ∧ -(W.stage 8 1 2 3).c 1 ≤ W.laneOf 2 (W.stage 8 1 2 3) ∧
      W.laneOf 2 (W.stage 8 1 2 3) ≤ (W.stage 8 1 2 3).c 0) ∧
    (W.stage 12 0 0 0).ty = 12 := by
  decide +kernel

theorem witness_FoldBackLimitsTheCurrent :
    (0 < W.standby.live.vNom ∧ 0 ≤ W.standby.live.iMax) ∧ 1 / 2 ≤ 600 / W.standby.live.vNom ∧
    (1 / 10 < 599 / W.standby.live.vNom ∧ 599 / W.standby.live.vNom < 1 / 2) ∧ 120 / W.standby.live.vNom ≤ 1 / 10 := by
  decide +kernel

theorem witness_SafetySetIsSerialised :
    W.confirm.live.ks.edit = some { owner := 0x1001, vals := [], lastWrite := 0 } ∧ safetyObjs ≠ [] := by
  decide +kernel

/-! ### Small examples of the spec -/

/-- Does a command answer a next state with this property? -/
def answers (c : Instr) (s : State) (p : Live → Bool) : Bool :=
  match exec c s with
  | .next t => p t.live
  | _ => false

/-- 07, worked example on renormalising: three lanes. -/
theorem test_renorm_three_lanes :
    renorm [400, -25 / 2, 123 / 1000000] = ({ m := [6553600, -204800, 2], e := -14 }, false) := by decide +kernel

/-- 07, worked example on renormalising: rounding reaches 2^23. -/
theorem test_renorm_rounds_up : renorm [51199998 / 100000] = ({ m := [4194304], e := -13 }, false) := by decide +kernel

/-- 06, worked example of one permutation: the LFSR after seven steps and the permutation. -/
theorem test_permutation : (permLoop 7 0xACE1 (List.range 8)) = (0xED89, [5, 6, 7, 3, 1, 2, 4, 0]) := by decide

/-- 06, worked example of sixteen segments: the duty word of 5/7. -/
theorem test_dutyWord : dutyWord (5 / 7) = 46811 := by decide +kernel

/-- 05 R94: NACT 4, PSLOT 1, duty 0.3; inserted at the start of superframes 1, 2 and 3. -/
theorem test_carrier :
    (List.range 8).map (fun k => carrierIn { permit := true, modulate := true, pslot := 1, nact := 4, cidx := k, duty := 19661 }) =
      [false, true, true, true, false, false, false, false] := by decide +kernel

/-- 08 R204: Rp1 at temperature point 5 and SoC point 40. -/
theorem test_tableEntry : tabEntry (List.replicate 9168 0 ++ [0x36, 0x01]) 4 5 40 = 310 := by decide +kernel

/-- 10 R260: at 1.5 I_max the sixteenth block stands at 2.0 s and the next trips at 2.125 s. -/
theorem test_i2t_trips :
    answers .i2tBlock
      (W.lv (W.inState .run) (fun L => { L with saf := { L.saf with eA := 20000, sumA := (22500 * 10, 10), sumB := (0, 10) } }))
      (fun L => L.saf.eA == 21250 && L.mode.st == .safe) = true := by decide +kernel

/-- The same one block earlier. -/
theorem test_i2t_waits :
    answers .i2tBlock
      (W.lv (W.inState .run) (fun L => { L with saf := { L.saf with eA := 18750, sumA := (22500 * 10, 10), sumB := (0, 10) } }))
      (fun L => L.saf.eA == 20000 && L.mode.st == .run) = true := by decide +kernel

/-- 13, worked example of a division that clamps: settled shares and their entries. -/
theorem test_division :
    (let r := divide 4 1400000
      [{ n := 2, a := 720000, w := 576000, v := 1200, lim := 6000 }, { n := 3, a := 720000, w := 360000, v := 1200, lim := 6000 },
        { n := 4, a := 120000, w := 108000, v := 1200, lim := 1000 }]
    (r.1.map (fun x => (x.n, x.share, shareEntry 1400000 x)), r.2)) =
      ([(2, 720000, 6000), (4, 120000, 1000), (3, 560000, 4667)], 0) := by decide +kernel

/-- 14 R365: code words written out by their forms. -/
theorem test_codeWords :
    decodeLogic 0x01160005 = some (.ldb { space := 0, inv := true, bit := 3, addr := 5 }) ∧
    decodeLogic 0x10340008 = some (.ld { space := 1, width := 2, sgn := true, addr := 8 }) ∧
    decodeLogic 0x11FFFFFE = some (.ldi 0xFFFFFE) ∧
    decodeLogic 0x30000007 = some (.jmp 7) ∧ decodeLogic 0x30004007 = none ∧
    decodeLogic 0x40100010 = some (.ton { space := 0, addr := 16 }) ∧ decodeLogic 0x40900010 = none ∧
    decodeLogic 0x52800005 = some (.evt 2 5) ∧ loadOk (.evt 3 5) = false ∧ decodeLogic 0x3A000000 = none := by decide

/-- 14 R366: LDI sign-extends its 24 bits. -/
theorem test_ldi_signExtends : answers (.ldi 0xFFFFFE) W.logic (fun L => L.lgc.vm.acc == -2) = true := by decide +kernel

/-- 14 R365: a store into space I is refused at load, by name. -/
theorem test_store_refused :
    exec (.stb { space := 2, inv := false, bit := 0, addr := 0 }) W.logic = .refused (.refusedAtLoad "STB") := rfl

/-- 03 R52, T1: a WAKE pulse of 10 ms, but not of 9, starts a module in QUARRY. -/
theorem test_wakePulse :
    answers (.wakePulse 10) State.reset (fun L => L.mode.st == .boot) = true ∧
    answers (.wakePulse 9) State.reset (fun L => L.mode.st == .quarry) = true := by decide +kernel

/-- 02 R42: presence begins at 17.0 V. -/
theorem test_auxPresence :
    answers (.auxInputPresent 0 17000) State.reset (fun L => L.pins.aux1) = true ∧
    answers (.auxInputPresent 0 16999) State.reset (fun L => !L.pins.aux1) = true := by decide +kernel

/-- 02 R48, R45: dark at reset; RUN lit with the other four dark in RUN without partner; nothing on hold-up; five lit in BOOT. -/
theorem test_leds :
    State.reset.live.leds = List.replicate 5 .dark ∧
    (W.inState .run).live.leds = [.lit, .dark, .dark, .dark, .dark] ∧
    answers (.wakePulse 10) State.reset (fun L => L.leds == List.replicate 5 .lit) = true := by decide +kernel

/-- The CRC-32C of the nine digits, as published for this polynomial. -/
theorem test_crc32c : crc32c [0x31, 0x32, 0x33, 0x34, 0x35, 0x36, 0x37, 0x38, 0x39] = 0xE3069283 := by decide +kernel

end Sys2Proof.Tests
end

section
/-! What a row does where it runs: one rule for each of the two ways a row is run. -/

namespace Sys2Proof.Machine

open Sys2Proof

/-- A row of an island acts where the island works. -/
theorem runIn_of_works {i : Nat} {s : State} (f : Live → Live) (h : Works i s.live) :
    runIn i s f = .next { s with live := f s.live } := by
  obtain ⟨hp, hb, hh⟩ := h
  simp [runIn, hp, hb, hh]

/-- A row of an island that changes nothing goes on from the same state, whether the island works or not. -/
theorem runIn_of_fixed {i : Nat} {s : State} {f : Live → Live} (h : f s.live = s.live) : runIn i s f = .next s := by
  simp [runIn, h]

/-- What a row of an island answers is what its work leaves. -/
theorem answers_of_runIn {c : Instr} {i : Nat} {s : State} {f : Live → Live} {P : Live → Prop} (hw : Works i s.live)
    (hc : exec c s = runIn i s f) (hP : P (f s.live)) : Answers c s P :=
  ⟨f s.live, hc.trans (runIn_of_works f hw), hP⟩

/-- Where it is known what a row of an island leaves, every answer is said of it. -/
theorem of_answers_runIn {c : Instr} {i : Nat} {s : State} {f : Live → Live} {P : Live → Prop} (hw : Works i s.live)
    (hc : exec c s = runIn i s f) (h : Answers c s P) : P (f s.live) := by
  obtain ⟨L, hL, hP⟩ := h
  rw [hc, runIn_of_works f hw] at hL
  injection hL with hL
  injection hL with hL
  exact hL ▸ hP

/-- A row of the module acts where the module is up. -/
theorem run_of_powered {s : State} (f : Live → Live) (h : s.live.powered = true) : run s f = .next { s with live := f s.live } := by
  simp [run, h]

/-- What a row of the module answers is what its work leaves. -/
theorem answers_of_run {c : Instr} {s : State} {f : Live → Live} {P : Live → Prop} (hp : s.live.powered = true)
    (hc : exec c s = run s f) (hP : P (f s.live)) : Answers c s P :=
  ⟨f s.live, hc.trans (run_of_powered f hp), hP⟩

end Sys2Proof.Machine
end

section
/-! Layer setting (12 R312, R314): what a response leaves, then one lemma per service. -/

namespace Sys2Proof.Machine

open Sys2Proof

/-! ### The response and the configuration state -/

/-- A layer-setting response changes the transmit ring of its bus, and the outbox unless a duplicate node-ID has been heard. -/
theorem Live.lssSend_eq (L : Live) (bus cs : Nat) (rest : Bytes) :
    ∃ n bs, L.lssSend bus cs rest = { L with
      com := { L.com with num := n, bus := bs }
      out := if L.mode.dupHeard then L.out else .lss bus (padTo 8 (leBytes 1 cs ++ rest)) :: L.out } := by
  unfold Live.lssSend
  split
  · exact ⟨L.com.num, L.com.bus, rfl⟩
  · exact ⟨_, _, rfl⟩

/-- M is L once the response d has been given on a bus, and nothing else has changed. -/
def LssReplies (bus : Nat) (d : Bytes) (L M : Live) : Prop :=
  (M.out = if L.mode.dupHeard then L.out else .lss bus (padTo 8 d) :: L.out) ∧
    { M with out := L.out, com := { M.com with num := L.com.num, bus := L.com.bus } } = L

theorem Live.lssSend_replies (L : Live) (bus cs : Nat) (rest : Bytes) :
    LssReplies bus (leBytes 1 cs ++ rest) L (L.lssSend bus cs rest) := by
  obtain ⟨n, bs, h⟩ := L.lssSend_eq bus cs rest
  rw [h]
  exact ⟨rfl, rfl⟩

/-- An inquiry in the configuration state is answered with its value. -/
theorem Live.lssInquire_replies {L : Live} {bus : Nat} (cs n : Nat) (h : L.lssOn bus = true) :
    LssReplies bus (leBytes 1 cs ++ leBytes 4 n) L (L.lssInquire bus cs n) := by
  rw [Live.lssInquire, if_pos h]
  exact L.lssSend_replies bus cs _

theorem Live.lssSet_same {L : Live} {bus : Fin 2} (on : Bool) (h : L.com.lssConf.length = 2) : (L.lssSet bus on).lssOn bus = on := by
  have hb : bus.val < L.com.lssConf.length := by omega
  simp [Live.lssOn, Live.lssSet, hb]

theorem Live.lssSet_other (L : Live) {b k : Nat} (on : Bool) (h : b ≠ k) : (L.lssSet b on).lssOn k = L.lssOn k := by
  simp [Live.lssOn, Live.lssSet, List.getD_eq_getElem?_getD, h]

/-! ### The rows -/

theorem exec_lssSwitchStateGlobal (bus : Fin 2) (on : Bool) (s : State) :
    exec (.lssSwitchStateGlobal bus on) s = runIn 4 s (fun L => L.lssSet bus.val on) := rfl

theorem exec_lssConfigureNodeId (bus : Fin 2) (node : Nat) (s : State) :
    exec (.lssConfigureNodeId bus node) s = execLssConfigureNodeId bus node s := rfl

theorem exec_lssStoreConfiguration (bus : Fin 2) (s : State) :
    exec (.lssStoreConfiguration bus) s = execLssStoreConfiguration bus s := rfl

/-! ### The services -/

section Services

variable {s : State} {bus : Fin 2}

theorem lssSwitchStateGlobal_sets (configuration : Bool) (hw : Works 4 s.live) (hl : s.live.com.lssConf.length = 2) :
    Answers (.lssSwitchStateGlobal bus configuration) s (fun L => L.lssOn bus = configuration ∧
      L.lssOn (1 - bus) = s.live.lssOn (1 - bus) ∧
      { L with com := { L.com with lssConf := s.live.com.lssConf, num := s.live.com.num, bus := s.live.com.bus } } = s.live) :=
  answers_of_runIn hw (exec_lssSwitchStateGlobal bus configuration s)
    ⟨Live.lssSet_same configuration hl, s.live.lssSet_other configuration (by omega), rfl⟩

theorem lssSwitchStateSelective_enters (hw : Works 4 s.live) (hl : s.live.com.lssConf.length = 2) :
    Answers (.lssSwitchStateSelective bus (s.live.identity 1) (s.live.identity 2) (s.live.identity 3) (s.live.identity 4)) s
      (fun L => L.lssOn bus = true ∧ (L.out = if s.live.mode.dupHeard then s.live.out else .lss bus (padTo 8 [0x44]) :: s.live.out) ∧
        { L with
          com := { L.com with lssConf := s.live.com.lssConf, num := s.live.com.num, bus := s.live.com.bus }
          out := s.live.out } = s.live) := by
  refine answers_of_runIn hw rfl ?_
  obtain ⟨n, bs, h⟩ := (s.live.lssSet bus.val true).lssSend_eq bus.val 0x44 []
  simp only [and_self, if_true, h]
  exact ⟨Live.lssSet_same (L := s.live) true hl, rfl, rfl⟩

theorem lssSwitchStateSelective_ignores {vendor : Nat} (product revision serial : Nat) (h : vendor ≠ s.live.identity 1) :
    exec (.lssSwitchStateSelective bus vendor product revision serial) s = .next s :=
  runIn_of_fixed (if_neg fun e => h e.1)

theorem lssConfigureNodeId_holds {node : Nat} (hw : Works 4 s.live) (hon : s.live.lssOn bus = true) (hid : s.live.getN 0x200002 = 255)
    (hst : s.live.mode.st = .standby) (hn : (1 ≤ node ∧ node ≤ 33) ∨ (65 ≤ node ∧ node ≤ 97) ∨ node = 255) :
    Answers (.lssConfigureNodeId bus node) s (fun L => L.com.lssNode = some node ∧
      (L.out = if s.live.mode.dupHeard then s.live.out else .lss bus (padTo 8 [0x11, 0, 0]) :: s.live.out) ∧
      { L with
        com := { L.com with lssNode := s.live.com.lssNode, num := s.live.com.num, bus := s.live.com.bus }
        out := s.live.out } = s.live) := by
  refine answers_of_runIn hw (exec_lssConfigureNodeId bus node s) ?_
  obtain ⟨n, bs, h⟩ := Live.lssSend_eq { s.live with com := { s.live.com with lssNode := some node } } bus.val 0x11 [0, 0]
  simp only [hon, hid, hst, hn, Bool.not_true, Bool.false_eq_true, ne_eq, not_true_eq_false, or_self, if_false, if_true, h]
  exact ⟨trivial, rfl, trivial⟩

theorem lssConfigureNodeId_outOfRange {node : Nat} (hw : Works 4 s.live) (hon : s.live.lssOn bus = true)
    (hid : s.live.getN 0x200002 = 255) (hst : s.live.mode.st = .standby)
    (hn : node = 0 ∨ (33 < node ∧ node < 65) ∨ (97 < node ∧ node ≠ 255)) :
    Answers (.lssConfigureNodeId bus node) s (LssReplies bus [0x11, 1, 0] s.live) := by
  refine answers_of_runIn hw (exec_lssConfigureNodeId bus node s) ?_
  have hn' : ¬((1 ≤ node ∧ node ≤ 33) ∨ (65 ≤ node ∧ node ≤ 97) ∨ node = 255) := by omega
  simp only [hon, hid, hst, hn', Bool.not_true, Bool.false_eq_true, ne_eq, not_true_eq_false, or_self, if_false]
  exact s.live.lssSend_replies bus 0x11 [1, 0]

theorem lssConfigureNodeId_refused (node : Nat) (hw : Works 4 s.live) (hon : s.live.lssOn bus = true)
    (hr : s.live.getN 0x200002 ≠ 255 ∨ s.live.mode.st ≠ .standby) :
    Answers (.lssConfigureNodeId bus node) s (LssReplies bus [0x11, 255, 1] s.live) := by
  refine answers_of_runIn hw (exec_lssConfigureNodeId bus node s) ?_
  simp only [hon, hr, Bool.not_true, Bool.false_eq_true, if_false, if_true]
  exact s.live.lssSend_replies bus 0x11 [255, 1]

theorem lssConfigureNodeId_waiting (node : Nat) (hon : s.live.lssOn bus = false) : exec (.lssConfigureNodeId bus node) s = .next s := by
  rw [exec_lssConfigureNodeId]
  exact runIn_of_fixed (if_pos (by simp [hon]))

theorem lssStoreConfiguration_holds (hw : Works 4 s.live) (hon : s.live.lssOn bus = true) :
    Answers (.lssStoreConfiguration bus) s (fun L => L.com.lssStore = s.live.com.lssNode ∧
      (L.out = if s.live.mode.dupHeard then s.live.out else .lss bus (padTo 8 [0x17, 0, 0]) :: s.live.out) ∧
      { L with
        com := { L.com with lssStore := s.live.com.lssStore, num := s.live.com.num, bus := s.live.com.bus }
        out := s.live.out } = s.live) := by
  refine answers_of_runIn hw (exec_lssStoreConfiguration bus s) ?_
  obtain ⟨n, bs, h⟩ := Live.lssSend_eq { s.live with com := { s.live.com with lssStore := s.live.com.lssNode } } bus.val 0x17 [0, 0]
  simp only [hon, Bool.not_true, Bool.false_eq_true, if_false, h]
  exact ⟨trivial, rfl, trivial⟩

theorem lssIdentifyRemoteSlave_answers {revLo revHi serLo serHi : Nat} (hw : Works 4 s.live) (hrl : revLo ≤ s.live.identity 3)
    (hrh : s.live.identity 3 ≤ revHi) (hsl : serLo ≤ s.live.identity 4) (hsh : s.live.identity 4 ≤ serHi) :
    Answers (.lssIdentifyRemoteSlave bus (s.live.identity 1) (s.live.identity 2) revLo revHi serLo serHi) s
      (LssReplies bus [0x4F] s.live) := by
  refine answers_of_runIn hw rfl ?_
  simp only [hrl, hrh, hsl, hsh, and_self, if_true]
  exact s.live.lssSend_replies bus 0x4F []

theorem lssIdentifyNonConfigured_answers (hw : Works 4 s.live) (hid : s.live.getN 0x200002 = 255) :
    Answers (.lssIdentifyNonConfigured bus) s (LssReplies bus [0x50] s.live) := by
  refine answers_of_runIn hw rfl ?_
  simp only [hid, if_true]
  exact s.live.lssSend_replies bus 0x50 []

theorem lssIdentifyNonConfigured_configured (hid : s.live.getN 0x200002 ≠ 255) : exec (.lssIdentifyNonConfigured bus) s = .next s :=
  runIn_of_fixed (if_neg hid)

end Services

/-- Settles O30: each service is its own lemma above; the five inquiries share one. -/
theorem layerSettingServices : Obligations.LayerSettingServices := by
  refine ⟨?_, ?_, ?_, ?_, ?_, ?_, ?_, ?_, ?_, ?_, ?_, ?_, ?_, ?_, ?_, ?_⟩
  · exact fun s bus conf hw hl => lssSwitchStateGlobal_sets conf hw hl
  · rintro s bus _ _ _ _ hw hl rfl rfl rfl rfl
    exact lssSwitchStateSelective_enters hw hl
  · exact fun s bus vendor product revision serial hv => lssSwitchStateSelective_ignores product revision serial hv
  · exact fun s bus node hw hon hid hst hn => lssConfigureNodeId_holds hw hon hid hst hn
  · exact fun s bus node hw hon hid hst hn => lssConfigureNodeId_outOfRange hw hon hid hst hn
  · exact fun s bus node hw hon hr => lssConfigureNodeId_refused node hw hon hr
  · exact fun s bus hw hon => lssStoreConfiguration_holds hw hon
  · exact fun s bus node hoff => lssConfigureNodeId_waiting node hoff
  · exact fun s bus hw hon => answers_of_runIn hw rfl (Live.lssInquire_replies 0x5A _ hon)
  · exact fun s bus hw hon => answers_of_runIn hw rfl (Live.lssInquire_replies 0x5B _ hon)
  · exact fun s bus hw hon => answers_of_runIn hw rfl (Live.lssInquire_replies 0x5C _ hon)
  · exact fun s bus hw hon => answers_of_runIn hw rfl (Live.lssInquire_replies 0x5D _ hon)
  · exact fun s bus hw hon => answers_of_runIn hw rfl (Live.lssInquire_replies 0x5E _ hon)
  · rintro s bus _ _ revLo revHi serLo serHi hw rfl rfl hrl hrh hsl hsh
    exact lssIdentifyRemoteSlave_answers hw hrl hrh hsl hsh
  · exact fun s bus hw hid => lssIdentifyNonConfigured_answers hw hid
  · exact fun s bus hid => lssIdentifyNonConfigured_configured hid

end Sys2Proof.Machine
end

section
/-! Reads (12 R320, R323, R324; 07 R191; 16 R414): what an answer and a request leave, then one lemma per row. -/

namespace Sys2Proof.Machine

open Sys2Proof

/-! ### Answers to a session of CAN -/

/-- A session of CAN is neither one of Modbus nor one of the debug port. -/
theorem iface_can {sess : Sess} (h : iface sess = 1) : sess / 4096 ≠ 3 ∧ sess / 4096 ≠ 4 := by
  norm_num [iface, fld] at h
  constructor <;> intro e <;> rw [e] at h <;> omega

/-- An answer to a session of CAN goes to the outbox, and through the transmit ring of its class. -/
theorem Live.answer_can (L : Live) {sess : Sess} (abort : Nat) (data : Bytes) (h : iface sess = 1) :
    ∃ n bs, L.answer sess abort data = { L with
      com := { L.com with num := n, bus := bs }
      out := .answer sess abort data :: L.out } := by
  obtain ⟨h3, h4⟩ := iface_can h
  simp only [Live.answer, h3, h4, if_false, Live.canAnswer]
  split
  · exact ⟨_, _, rfl⟩
  · exact ⟨L.com.num, L.com.bus, rfl⟩

/-- A refusal is an answer that also stands in the session's own objects. -/
theorem Live.refuse_can (L : Live) {sess : Sess} (code : Abort) (h : iface sess = 1) :
    ∃ ss n bs, L.refuse sess code = { L with
      ks := { L.ks with sessions := ss }
      com := { L.com with num := n, bus := bs }
      out := .answer sess code [] :: L.out } := by
  obtain ⟨n, bs, e⟩ := Live.answer_can (L.modSession sess fun x => { x with lastAbort := code, refusedEntry := 0 }) code [] h
  exact ⟨_, n, bs, e⟩

/-- The abort code a read is answered with, 0 for success. -/
def readCode : Except Abort Bytes → Nat
  | .ok _ => 0
  | .error e => e

/-- The data a read is answered with. -/
def readData : Except Abort Bytes → Bytes
  | .ok b => b
  | .error _ => []

/-- A read of a session of CAN is answered once, with its value or its abort code. -/
theorem Live.answerRead_can (L : Live) {sess : Sess} (r : Except Abort Bytes) (h : iface sess = 1) :
    ∃ ss n bs, L.answerRead sess r = { L with
      ks := { L.ks with sessions := ss }
      com := { L.com with num := n, bus := bs }
      out := .answer sess (readCode r) (readData r) :: L.out } := by
  cases r with
  | ok b =>
    obtain ⟨n, bs, e⟩ := L.answer_can 0 b h
    exact ⟨L.ks.sessions, n, bs, e⟩
  | error c => exact L.refuse_can c h

/-! ### Requests -/

/-- A request changes the table of sessions, and closes the edit copy of a session that leaves it. -/
theorem Live.touch_eq (L : Live) (sess : Sess) :
    ∃ ss ed, L.touch sess = { L with ks := { L.ks with sessions := ss, edit := ed } } := by
  have ends : ∀ x, ∃ ss ed, L.endSession x = { L with ks := { L.ks with sessions := ss, edit := ed } } := by
    intro x
    unfold Live.endSession
    dsimp only
    (repeat' split) <;> exact ⟨_, _, rfl⟩
  unfold Live.touch
  split
  · exact ⟨_, L.ks.edit, rfl⟩
  · dsimp only
    split
    · exact ⟨_, L.ks.edit, rfl⟩
    · split
      · next x _ =>
        obtain ⟨ss, ed, e⟩ := ends x.id
        rw [e]
        exact ⟨_, ed, rfl⟩
      · exact ⟨_, L.ks.edit, rfl⟩

/-- What a session reads does not depend on which segmented reads run. -/
theorem Live.readObj_setReading (snap L : Live) (sess : Sess) (k : Option Nat) (idx sub : Nat) :
    Live.readObj snap (L.setReading sess k) sess idx sub = Live.readObj snap L sess idx sub := rfl

/-- A read that its own twin answers, of any object but the records. -/
theorem Live.read_here {snap L : Live} {sess : Sess} {idx sub : Nat} (hf : L.follower = false) (hk : idx * 256 + sub ≠ 0x460010) :
    Live.read snap L sess idx sub = L.answerRead sess (Live.readObj snap L sess idx sub) := by
  simp [Live.read, hf, hk]

/-- A read at a twin that leads its pair, of a session of CAN that has asked and runs the segmented read k: it is answered from the
snapshot, and nothing has changed but what the keystone holds of its sessions. -/
theorem Live.read_asked {snap L : Live} {sess : Sess} {idx sub : Nat} (k : Option Nat) (hf : L.follower = false)
    (hk : idx * 256 + sub ≠ 0x460010) (hi : iface sess = 1) :
    ∃ ss ed n bs, Live.read snap ((L.touch sess).setReading sess k) sess idx sub = { L with
      ks := { L.ks with
        sessions := ss
        edit := ed
        reading := (k.map fun k => (sess, k)).toList ++ L.ks.reading.filter (fun x => x.1 != sess) }
      com := { L.com with num := n, bus := bs }
      out := .answer sess (readCode (Live.readObj snap (L.touch sess) sess idx sub))
        (readData (Live.readObj snap (L.touch sess) sess idx sub)) :: L.out } := by
  obtain ⟨ss, ed, e⟩ := L.touch_eq sess
  have hf' : ((L.touch sess).setReading sess k).follower = false := by rw [e]; exact hf
  rw [Live.read_here hf' hk, Live.readObj_setReading]
  obtain ⟨ss', n, bs, e'⟩ := ((L.touch sess).setReading sess k).answerRead_can (Live.readObj snap (L.touch sess) sess idx sub) hi
  rw [e', e]
  exact ⟨ss', ed, n, bs, rfl⟩

/-! ### The rows -/

section Rows

variable {s : State} {sess : Sess}

theorem exec_odRead (sess : Sess) (index sub : Nat) (segmented : Bool) (s : State) :
    exec (.odRead sess index sub segmented) s = execOdRead sess index sub segmented s := rfl

theorem exec_segmentedReadTimeout (sess : Sess) (s : State) :
    exec (.segmentedReadTimeout sess) s = execSegmentedReadTimeout sess s := rfl

theorem exec_readListResultRead (sess : Sess) (n : Fin 8) (s : State) :
    exec (.readListResultRead sess n) s = execReadListResultRead sess n s := rfl

theorem exec_captureDataRead (sess : Sess) (s : State) : exec (.captureDataRead sess) s = execOdRead sess 0x3201 0x10 true s := rfl

theorem exec_recordsRead (sess : Sess) (s : State) : exec (.recordsRead sess) s = execRecordsRead sess s := rfl

/-- A read that the module serves: what becomes of the live part, and of the snapshots kept. -/
theorem execOdRead_served (index sub : Nat) (segmented : Bool) (hp : s.live.powered = true) (hb : s.live.mode.st ≠ .boot)
    (hs : s.live.serves sess = true) :
    execOdRead sess index sub segmented s = .next { s with
      live := Live.read s.snap ((s.live.touch sess).setReading sess (if segmented then some (index * 256 + sub) else none)) sess index sub
      kept := if segmented then (sess, s.live.time.clk + sec 1, s.snap) :: s.kept.filter (fun x => x.1 != sess)
        else s.kept.filter (fun x => x.1 != sess) } := by
  obtain ⟨ss, ed, e⟩ := s.live.touch_eq sess
  have hc (k : Option Nat) : ((s.live.touch sess).setReading sess k).time.clk = s.live.time.clk := by
    rw [e]
    rfl
  simp [execOdRead, hp, hb, hs, hc]

theorem odRead_answered (index sub : Nat) (segmented : Bool) (hp : s.live.powered = true) (hb : s.live.mode.st ≠ .boot)
    (hs : s.live.serves sess = true) (hf : s.live.follower = false) (hk : index * 256 + sub ≠ 0x460010) (hi : iface sess = 1) :
    ∃ t, execOdRead sess index sub segmented s = .next t ∧
      t.live.out = .answer sess (readCode (Live.readObj s.snap (s.live.touch sess) sess index sub))
        (readData (Live.readObj s.snap (s.live.touch sess) sess index sub)) :: s.live.out ∧
      { t.live with
        ks := s.live.ks
        out := s.live.out
        com := { t.live.com with num := s.live.com.num, bus := s.live.com.bus } } = s.live ∧
      t.live.ks.pend = s.live.ks.pend ∧ t.snap = s.snap ∧ t.pending = s.pending ∧
      t.live.ks.reading = (if segmented then [(sess, index * 256 + sub)] else []) ++ s.live.ks.reading.filter (fun x => x.1 != sess) ∧
      (segmented = true → (sess, s.live.time.clk + sec 1, s.snap) ∈ t.kept) ∧
      (segmented = false → t.kept = s.kept.filter (fun x => x.1 != sess)) := by
  obtain ⟨ss, ed, n, bs, e⟩ :=
    Live.read_asked (snap := s.snap) (if segmented then some (index * 256 + sub) else none) hf hk hi
  refine ⟨_, execOdRead_served index sub segmented hp hb hs, ?_⟩
  rw [e]
  refine ⟨rfl, rfl, rfl, rfl, rfl, ?_, ?_, ?_⟩
  · cases segmented <;> rfl
  · rintro rfl
    exact List.mem_cons_self
  · rintro rfl
    rfl

theorem odRead_notServed (index sub : Nat) (segmented : Bool)
    (h : s.live.powered = false ∨ s.live.mode.st = .boot ∨ s.live.serves sess = false) :
    exec (.odRead sess index sub segmented) s = .next s := by
  rw [exec_odRead]
  rcases h with h | h | h <;> simp [execOdRead, h]

/-- The timeout of a session that keeps a snapshot: it is dropped, and the transfer aborted unless that has been done. -/
theorem execSegmentedReadTimeout_kept {x : Sess × Nat × Live} (hp : s.live.powered = true)
    (hx : s.kept.find? (fun x => x.1 == sess) = some x) :
    execSegmentedReadTimeout sess s = .next { s with
      live := if s.live.ks.reading.any (fun y => y.1 == sess) then ((s.live.reach x.2.1).refuse sess abGone).setReading sess none
        else s.live.reach x.2.1
      kept := s.kept.filter (fun x => x.1 != sess) } := by
  simp [execSegmentedReadTimeout, hx, hp]
  rfl

theorem segmentedReadTimeout_aborts (hp : s.live.powered = true) (hx : (s.kept.find? (fun x => x.1 == sess)).isSome = true)
    (hi : iface sess = 1) (hr : s.live.ks.reading.any (fun y => y.1 == sess) = true) :
    ∃ t, exec (.segmentedReadTimeout sess) s = .next t ∧ t.live.out = .answer sess 0x08000107 [] :: s.live.out ∧
      t.live.ks.reading = s.live.ks.reading.filter (fun x => x.1 != sess) ∧ t.kept = s.kept.filter (fun x => x.1 != sess) ∧
      { t.live with
        ks := s.live.ks
        out := s.live.out
        time := s.live.time
        com := { t.live.com with num := s.live.com.num, bus := s.live.com.bus } } = s.live ∧
      s.live.time.clk ≤ t.live.time.clk ∧ t.snap = s.snap := by
  obtain ⟨x, hx⟩ := Option.isSome_iff_exists.mp hx
  obtain ⟨ss, n, bs, e⟩ := (s.live.reach x.2.1).refuse_can abGone hi
  refine ⟨_, (exec_segmentedReadTimeout sess s).trans (execSegmentedReadTimeout_kept hp hx), ?_⟩
  rw [if_pos hr, e]
  exact ⟨rfl, rfl, rfl, rfl, Nat.le_add_right _ _, rfl⟩

theorem segmentedReadTimeout_drops (hp : s.live.powered = true) (hx : (s.kept.find? (fun x => x.1 == sess)).isSome = true)
    (hr : s.live.ks.reading.any (fun y => y.1 == sess) = false) :
    ∃ t, exec (.segmentedReadTimeout sess) s = .next t ∧ t.kept = s.kept.filter (fun x => x.1 != sess) ∧
      { t.live with time := s.live.time } = s.live ∧ s.live.time.clk ≤ t.live.time.clk ∧ t.snap = s.snap := by
  obtain ⟨x, hx⟩ := Option.isSome_iff_exists.mp hx
  refine ⟨_, (exec_segmentedReadTimeout sess s).trans (execSegmentedReadTimeout_kept hp hx), ?_⟩
  rw [hr]
  exact ⟨rfl, rfl, Nat.le_add_right _ _, rfl⟩

theorem segmentedReadTimeout_none (h : s.kept.find? (fun x => x.1 == sess) = none) :
    exec (.segmentedReadTimeout sess) s = .next s := by
  rw [exec_segmentedReadTimeout]
  simp [execSegmentedReadTimeout, h]

theorem readListResultRead_answered (n : Fin 8) (hp : s.live.powered = true) (hb : s.live.mode.st ≠ .boot)
    (hs : s.live.serves sess = true) (hf : s.live.follower = false) (hi : iface sess = 1) :
    Answers (.readListResultRead sess n) s (fun L =>
      L.out = .answer sess (readCode (Live.readObj s.snap (s.live.touch sess) sess 0x2100 (0x28 + n.val)))
        (readData (Live.readObj s.snap (s.live.touch sess) sess 0x2100 (0x28 + n.val))) :: s.live.out ∧
      L.ks.pend = s.live.ks.pend ∧
      { L with
        ks := s.live.ks
        out := s.live.out
        com := { L.com with num := s.live.com.num, bus := s.live.com.bus } } = s.live) := by
  refine answers_of_run hp (exec_readListResultRead sess n s) ?_
  obtain ⟨ss, ed, e⟩ := s.live.touch_eq sess
  have hf' : (s.live.touch sess).follower = false := by rw [e]; exact hf
  simp only [hb, hs, Bool.not_true, Bool.false_eq_true, or_self, if_false]
  rw [Live.read_here hf' (by omega)]
  generalize Live.readObj s.snap (s.live.touch sess) sess 0x2100 (0x28 + n.val) = r
  obtain ⟨ss', m, bs, e'⟩ := (s.live.touch sess).answerRead_can r hi
  rw [e', e]
  exact ⟨rfl, rfl, rfl⟩

/-- Reading the one record that is asked for and valid. -/
theorem recordsRead_answered {seq : Nat} (hp : s.live.powered = true) (hs : s.live.serves sess = true) (hi : iface sess = 1)
    (hfrom : s.live.getN 0x46000E = seq) (hcount : s.live.getN 0x46000F = 1) (hseq : seq < 2 ^ 32) (hv : s.live.rcd.valid seq = true) :
    Answers (.recordsRead sess) s (fun L => L.out = .answer sess 0 (s.live.rcd.slot seq) :: s.live.out ∧
      { L with
        ks := s.live.ks
        out := s.live.out
        com := { L.com with num := s.live.com.num, bus := s.live.com.bus } } = s.live) := by
  refine answers_of_run hp (exec_recordsRead sess s) ?_
  obtain ⟨ss, ed, e⟩ := s.live.touch_eq sess
  have hfrom' : (s.live.touch sess).getN 0x46000E = seq := by rw [e]; exact hfrom
  have hcount' : (s.live.touch sess).getN 0x46000F = 1 := by rw [e]; exact hcount
  have hrcd : (s.live.touch sess).rcd = s.live.rcd := by rw [e]
  have hrec : (s.live.touch sess).readRecord seq = (s.live.touch sess, s.live.rcd.slot seq) := by
    simp [Live.readRecord, hrcd, hv]
  obtain ⟨n, bs, e'⟩ := (s.live.touch sess).answer_can 0 (s.live.rcd.slot seq) hi
  simp only [Live.asked, hs, if_true, hfrom', hcount', List.range_one, List.foldl_cons, List.foldl_nil, Nat.add_zero,
    Nat.mod_eq_of_lt hseq, hrec, List.nil_append]
  rw [e', e]
  exact ⟨rfl, rfl⟩

end Rows

/-- Settles O31: each row is its own lemma above. -/
theorem readsAreAnswered : Obligations.ReadsAreAnswered := by
  refine ⟨?_, ?_, ?_, ?_, ?_, ?_, ?_, ?_⟩
  · intro s sess index sub segmented hp hb hs hf hk hi
    obtain ⟨t, ht, hout, hrest, hpend, hsnap, hq, -, hseg, hkept⟩ := odRead_answered index sub segmented hp hb hs hf hk hi
    exact ⟨t, ht, hout, hrest, hpend, hsnap, hq, hseg, hkept⟩
  · exact fun s sess index sub segmented h => odRead_notServed index sub segmented h
  · exact fun s sess hp hx hi hr => segmentedReadTimeout_aborts hp hx hi hr
  · exact fun s sess hp hx hr => segmentedReadTimeout_drops hp hx hr
  · exact fun s sess h => segmentedReadTimeout_none h
  · exact fun s sess n hp hb hs hf hi => readListResultRead_answered n hp hb hs hf hi
  · intro s sess hp hb hs hf hi
    obtain ⟨t, ht, hout, hrest, hpend, hsnap, -, hread, hseg, -⟩ := odRead_answered 0x3201 0x10 true hp hb hs hf (by decide) hi
    exact ⟨t, ht, hout, hpend, by rw [hread]; rfl, hrest, hseg rfl, hsnap⟩
  · exact fun s sess seq hp hs hi hfrom hcount hseq hv => recordsRead_answered hp hs hi hfrom hcount hseq hv

end Sys2Proof.Machine
end

section
/-! Bay time (11 R305): a reference that makes both managers heard in the period of a used pair. -/

namespace Sys2Proof.Machine

open Sys2Proof

theorem exec_referenceMessageRx (bus : Fin 2) (frame : Bytes) (sof : Nat) (s : State) :
    exec (.referenceMessageRx bus frame sof) s = runIn 2 s (fun L => L.referenceRx bus.val frame sof) := rfl

/-- Refutes O29, the clause of a valid reference: it says that no object changes. A worker has used a pair of node-ID 1 in its present
10 ms period, 0x2200:15 counting it, and now hears a reference of node-ID 65. By 11 R305 the pair of that period is discarded after all:
0x2200:15 counts it no more, and 0x2200:16 counts one pair discarded. -/
theorem not_bayTimeRows : ¬ Obligations.BayTimeRows := by
  rintro ⟨-, -, -, -, hRx, -⟩
  obtain ⟨-, -, -, hframe⟩ := of_answers_runIn (by decide) (exec_referenceMessageRx _ _ _ _)
    (hRx
      { live := {
          mode := { st := .standby }
          ks := { atBoot := [(0x200002, 2)] }
          obj := [(0x220015, 1)]
          time := {
            seenFrom := [1]
            used := some { period := 0, objs := [], step := (0, false), lockCount := 0, lastPair := 0 } } } }
      0 [0, 0, 0, 65] 0 (by decide) rfl (by decide))
  exact absurd (congrArg (·.getN 0x220016) hframe) (by decide +kernel)

end Sys2Proof.Machine
end

section
/-! Summaries (10 R276): one that newly reports an insulation fault on the own bus. -/

namespace Sys2Proof.Machine

open Sys2Proof

theorem exec_summaryRx (n : Nat) (frame : Bytes) (s : State) :
    exec (.summaryRx n frame) s = runIn 4 s (fun L => L.takeSummary n frame) := rfl

/-- Refutes O36, the clause of a summary that is held: it says that the recorder stays as it is. The lead manager, string 1, has the
reaction "own string" to SF-06 (0x4022:04 is 0) and takes the first summary of string 2, which reports SF-06 on bus identifier 1, its
own. By 10 R276 it raises event 110 code 1. -/
theorem not_baySummariesAndSnapshots : ¬ Obligations.BaySummariesAndSnapshots := by
  rintro ⟨-, -, -, -, hRx, -⟩
  obtain ⟨-, -, hframe⟩ := of_answers_runIn (by decide) (exec_summaryRx _ _ _)
    (hRx
      { live := {
          mode := { st := .standby }
          ks := { atBoot := [(0x200002, 1)] }
          obj := [(0x402204, 0)]
          mgr := { lead := true } } }
      2 ([0, 0, 0, 0, 6, 0, 1] ++ List.replicate 33 0 ++ [0x20] ++ List.replicate 7 0)
      (by decide) rfl (by decide) (by decide) (by decide) (by decide) (by decide) (by decide) (by decide) (by decide))
  exact absurd (congrArg (·.rcd.raised) hframe) (by decide +kernel)

end Sys2Proof.Machine
end

section
/-! What a command is said to answer holds of the live part that it leaves. -/

namespace Sys2Proof.Machine

open Sys2Proof

/-- Where it is known what a command leaves, every answer is said of it. -/
theorem of_answers {c : Instr} {s : State} {M : Live} {P : Live → Prop} (hc : exec c s = .next { s with live := M })
    (h : Answers c s P) : P M := by
  obtain ⟨L, hL, hP⟩ := h
  rw [hc] at hL
  injection hL with hL
  injection hL with hL
  exact hL ▸ hP

end Sys2Proof.Machine
end

section
/-! Aux supply (02 R42, R43): a returning input changes the source, and the event of that change may be the one the capture waits for. -/

namespace Sys2Proof.Machine

open Sys2Proof

/-- A power event is noticed where the capture's trigger names it (07 R190). -/
theorem Live.raisePower_eventSeen (L : Live) (what cls : Nat) (key rest : Bytes) :
    (L.raisePower what cls key rest).cap.eventSeen =
      (L.cap.eventSeen || L.namesEvent Config.powerSource (Config.powerCode what)) := by
  simp [Live.raisePower]

/-- A change of source is noticed where the capture's trigger names its event. -/
theorem Live.sourceEvent_eventSeen {L : Live} (h : L.source ≠ L.pins.drawn) :
    L.sourceEvent.cap.eventSeen = (L.cap.eventSeen || L.namesEvent Config.powerSource (Config.powerCode 2)) := by
  rw [Live.sourceEvent, if_neg h, Live.raisePower_eventSeen]
  rfl

/-- The module once an aux input is back: its presence and voltage recorded, hold-up ended. -/
def Live.auxBack (L : Live) (input : Fin 2) (mv : Nat) : Live :=
  { L.setAux input true mv with pins := { (L.setAux input true mv).pins with holdup := false } }

/-- A module with an aux input present draws from aux. -/
theorem Live.auxBack_source (L : Live) (input : Fin 2) (mv : Nat) : (L.auxBack input mv).source = 0 := by
  by_cases h : input = 0 <;> simp [Live.source, Live.auxBack, Live.setAux, h]

theorem Live.auxBack_drawn (L : Live) (input : Fin 2) (mv : Nat) : (L.auxBack input mv).pins.drawn = L.pins.drawn := by
  by_cases h : input = 0 <;> simp [Live.auxBack, Live.setAux, h]

/-- An aux input that returns to a module that is up may change its source of supply. -/
theorem exec_auxInputPresent_returns {s : State} {input : Fin 2} {mv : Nat} (hmv : 17000 ≤ mv)
    (habs : (if input = 0 then s.live.pins.aux1 else s.live.pins.aux2) = false) (hup : s.live.powered = true) :
    exec (.auxInputPresent input mv) s = .next { s with live := (s.live.auxBack input mv).sourceEvent } := by
  obtain ⟨hq, ho⟩ : s.live.mode.st ≠ .quarry ∧ s.live.mode.st ≠ .off := by simpa [Live.powered] using hup
  have hst : (s.live.setAux input true mv).mode.st = s.live.mode.st := rfl
  change execAuxInputPresent input mv s = _
  simp only [execAuxInputPresent, if_neg (Nat.not_lt.mpr hmv), habs, Bool.false_eq_true, if_false, hst]
  rfl

/-- From hold-up or from the string, the return of an aux input is noticed by a capture that waits for the event of a change of source
(07 R190). -/
theorem Live.auxBack_noticed {L : Live} (input : Fin 2) (mv : Nat) (hdrawn : L.pins.drawn ≠ 0) (htrigger : L.ctlN 0x320107 = 3)
    (hevent : L.ctlN 0x32010B = Config.powerSource * 65536 + Config.powerCode 2) :
    (L.auxBack input mv).sourceEvent.cap.eventSeen = true := by
  have hsource : (L.auxBack input mv).source ≠ (L.auxBack input mv).pins.drawn := by
    rw [Live.auxBack_source, Live.auxBack_drawn]
    exact hdrawn.symm
  have hnames : (L.auxBack input mv).namesEvent Config.powerSource (Config.powerCode 2) = true := by
    change L.namesEvent Config.powerSource (Config.powerCode 2) = true
    simp [Live.namesEvent, htrigger, hevent]
  rw [Live.sourceEvent_eventSeen hsource, hnames, Bool.or_true]

/-- Refutes O3, the clause of an aux input that returns: it says that the capture unit stays as it is. A module in STANDBY draws from
hold-up while its capture waits for the event of a change of source (0x3201:07 is 3, 0x3201:0B names that event). Aux input
1 returns with 24 V, the module draws from aux again, which raises the event (02 R43), and the capture holds its notice for the next
sample (07 R190). -/
theorem not_supplyPresenceIsRecorded : ¬ Obligations.SupplyPresenceIsRecorded := by
  rintro ⟨-, hPresent, -⟩
  obtain ⟨-, -, -, -, hframe⟩ := of_answers (exec_auxInputPresent_returns (by decide) (by decide) (by decide))
    (hPresent
      { live := {
          mode := { st := .standby }
          pins := { holdup := true, drawn := 2 }
          ks := { ctl := [(0x320107, 3), (0x32010B, (Config.powerSource * 65536 + Config.powerCode 2 : Nat))] } } }
      0 24000 (by decide) (by decide) (by decide))
  have hnoticed : true = false :=
    (Live.auxBack_noticed 0 24000 (by decide) rfl rfl).symm.trans (congrArg (·.cap.eventSeen) hframe)
  exact Bool.noConfusion hnoticed

end Sys2Proof.Machine
end

section
/-! The insulation monitor's listen gap (10 R274). -/

namespace Sys2Proof.Machine

open Sys2Proof

theorem exec_insulationListenGap (heardMv : Nat) (s : State) :
    exec (.insulationListenGap heardMv) s = execInsulationListenGap heardMv s := rfl

/-- An injector that hears no other stops injecting for the 2 s of its gap. -/
theorem insulationListenGap_silences {s : State} {heardMv : Nat} (hw : Works 5 s.live) (hi : s.live.insWants = 1)
    (hh : heardMv ≤ 5000) :
    Answers (.insulationListenGap heardMv) s (fun L => L.pins.insVolt = 0 ∧ L.saf.insGap = some (L.time.mtime + sec 2)) := by
  refine answers_of_runIn hw (exec_insulationListenGap heardMv s) ?_
  simp [hi, Nat.not_lt.mpr hh]

/-- Refutes O24, the clause of a listen gap in which no second injector is heard: it says that nothing happens at 5 V or less. An injector
in RUN, its contactors closed and its relay closed at +20 V, comes to its gap and hears nothing. By 10 R274 it stops injecting for 2 s all
the same: what it applies falls to 0 V. -/
theorem not_insulationMonitorRows : ¬ Obligations.InsulationMonitorRows := by
  rintro ⟨-, -, -, -, -, -, -, hElse, -⟩
  obtain ⟨hvolt, -⟩ := of_answers
    (hElse
      { live := {
          mode := { st := .run }
          pins := { fbKpOpen := false, fbKnOpen := false, insRelay := true, insVolt := 20 }
          twin := { holds := true }
          obj := [(0x402208, 1)] } }
      0 (.inr (by decide)))
    (insulationListenGap_silences (by decide) (by decide) (by decide))
  exact absurd hvolt (by decide)

end Sys2Proof.Machine
end

section
/-! The block as it leaves the factory (03 R67). -/

namespace Sys2Proof.Machine

open Sys2Proof

/-- Settles O2: each part is a value of the reset state. -/
theorem resetLeavesTheBlockInQuarry : Obligations.ResetLeavesTheBlockInQuarry := by
  have hshaped : State.reset.live.shaped = true := by decide +kernel
  have hopen : OpenBeforeStandby State.reset.live := fun _ => ⟨rfl, rfl, by decide⟩
  exact ⟨rfl, rfl, rfl, rfl, rfl, rfl, rfl, rfl, rfl, rfl, rfl, rfl, rfl, hshaped, hopen⟩

end Sys2Proof.Machine
end

section
/-! The own loop before STANDBY (03 R50). -/

namespace Sys2Proof.Machine

open Sys2Proof

/-- A twin in SELFTEST that has a partner and claims the token,
    with one fitted segment whose node reports a newer token of the partner. -/
def claimsInSelftest : State :=
  { live := {
      mode := { st := .selftest }
      twin := { claims := true, pair := 3 }
      ks := { atBoot := [(0x200002, 1)], ctl := [(0x340020, 1)] }
      seg := [{ valid := true, tokRep := 2, tgen := 1 }] } }

/-- Refutes O53: a superframe starts in SELFTEST, the claim yields to the newer token (05 R100), and FAST_OFF then permits as for any twin
with a healthy partner. -/
theorem not_loopStaysOpenBeforeStandby : ¬ Obligations.LoopStaysOpenBeforeStandby := by
  intro h
  have hopen : OpenBeforeStandby claimsInSelftest.live := fun _ => ⟨rfl, rfl, by decide⟩
  have hpermits : (match step { claimsInSelftest with pending := [.superframeStart] } with
      | .next t => decide (t.live.mode.st = .selftest ∧ t.live.pins.fastOff = .permit)
      | _ => false) = true := by decide +kernel
  split at hpermits
  · next t ht =>
    obtain ⟨hst, hfast⟩ := of_decide_eq_true hpermits
    obtain ⟨-, -, hno⟩ := h { claimsInSelftest with pending := [.superframeStart] } t hopen ht (.inr (.inr (.inr hst)))
    exact hno hfast
  · cases hpermits

end Sys2Proof.Machine
end

section
/-! A module state that changes raises an event (13 R332), and this may be the one the capture waits for (07 R190). -/

namespace Sys2Proof.Machine

open Sys2Proof

/-- A capture that waits for the event of a change of the module state (0x3201:07 is 3, 0x3201:0B names the event). -/
def awaitsStateChange : List (Nat × Int) :=
  [(0x320107, 3), (0x32010B, (Config.powerSource * 65536 + Config.powerCode 1 : Nat))]

theorem Live.namesEvent_of_awaits {L : Live} (h : L.ks.ctl = awaitsStateChange) :
    L.namesEvent Config.powerSource (Config.powerCode 1) = true := by
  have htrigger : L.ctlN 0x320107 = 3 := by rw [Live.ctlN, Live.ctl, h]; rfl
  have hevent : L.ctlN 0x32010B = Config.powerSource * 65536 + Config.powerCode 1 := by rw [Live.ctlN, Live.ctl, h]; rfl
  simp [Live.namesEvent, htrigger, hevent]

/-- A change of the module state that leaves the signal part alone is noticed by a capture that waits for it. -/
theorem Live.setState_noticed {L : Live} {new : MState} (trig : Nat) (hne : L.mode.st ≠ new)
    (hplace : signalPlace L.mode.st = signalPlace new) (hawait : L.ks.ctl = awaitsStateChange) :
    (L.setState new trig).cap.eventSeen = true := by
  have hnames : Live.namesEvent { L with mode := { L.mode with st := new } } Config.powerSource (Config.powerCode 1) = true :=
    Live.namesEvent_of_awaits hawait
  rw [Live.setState, if_neg hne]
  dsimp only
  rw [if_neg (not_not_intro hplace), Live.raisePower_eventSeen, hnames, Bool.or_true]

/-- Refutes O5, the clause of BOOT_COMPLETE: it says that the capture unit stays as it is. A booted module runs the image of slot 1
while its capture waits for the event of a change of the module state. BOOT_COMPLETE enters SELFTEST, which raises the event, and the
capture holds its notice for the next sample (07 R190). -/
theorem not_startUpReachesStandby : ¬ Obligations.StartUpReachesStandby := by
  rintro ⟨-, -, hComplete, -⟩
  let L : Live := { mode := { st := .boot, booted := true }, upd := { running := 1 }, ks := { ctl := awaitsStateChange } }
  obtain ⟨-, -, hframe⟩ := of_answers (s := { live := L }) (M := L.setState .selftest 5) rfl (hComplete _ rfl rfl (by decide))
  have hquiet : (L.setState .selftest 5).cap.eventSeen = L.cap.eventSeen := congrArg (·.cap.eventSeen) hframe
  rw [Live.setState_noticed _ (by decide) (by decide) rfl] at hquiet
  exact Bool.noConfusion hquiet

theorem exec_derateHoldExpiry (s : State) :
    exec .derateHoldExpiry s = runIn 0 s (fun L =>
      if L.mode.st = .derated ∧ L.limFlags % 32 = 0 then (L.reach (L.mode.derateAt + sec 1)).setState .run 11 else L) := rfl

theorem Live.derateHoldEnd_noticed {L : Live} (t : Nat) (hst : L.mode.st = .derated) (hawait : L.ks.ctl = awaitsStateChange) :
    ((L.reach t).setState .run 11).cap.eventSeen = true :=
  Live.setState_noticed _ (by simp [hst]) (by simp [hst, signalPlace]) (by simpa using hawait)

/-- Refutes O8, the clause of DERATE_HOLD_EXPIRY: it says that the capture unit stays as it is. A DERATED module has no derating cause
left while its capture waits for the event of a change of the module state. The hold ends in RUN, which raises the event, and the capture
holds its notice for the next sample (07 R190). -/
theorem not_restartsAndModuleTimers : ¬ Obligations.RestartsAndModuleTimers := by
  rintro ⟨-, -, -, -, -, -, hHold⟩
  let L : Live :=
    { mode := { st := .derated }
      ks := { ctl := awaitsStateChange }
      conv := { h := 1000, vBus := 1000 }
      th := { chRefused := false }
      est := { lim := (100, 100) } }
  have hcause : L.limFlags % 32 = 0 := by decide +kernel
  obtain ⟨-, -, hframe⟩ := of_answers_runIn (s := { live := L }) (by decide) (exec_derateHoldExpiry _)
    (hHold { live := L } (by decide) rfl hcause)
  have hquiet := congrArg (·.cap.eventSeen) hframe
  rw [if_pos ⟨rfl, hcause⟩] at hquiet
  exact Bool.noConfusion ((L.derateHoldEnd_noticed _ rfl rfl).symm.trans hquiet)

end Sys2Proof.Machine
end

section
/-! A segment node has a supply of its own (05 R89): what the 13 rows of a node change is the nodes, what they send,
    and the counter of the
free values of their readings. -/

namespace Sys2Proof.Machine

open Sys2Proof

/-- A next state differs from s in the nodes, the outbox and the counter of free values alone. -/
def OnlyNodes (s : State) (o : Host.Outcome State Fault Refusal) : Prop :=
  ∀ t, o = .next t → { t with live := { t.live with node := s.live.node, out := s.live.out, free := s.live.free } } = s

theorem OnlyNodes.refl (s : State) : OnlyNodes s (.next s) := by
  intro t ht
  injection ht with ht
  exact ht ▸ rfl

theorem OnlyNodes.next {s : State} {M : Live}
    (h : { M with node := s.live.node, out := s.live.out, free := s.live.free } = s.live) : OnlyNodes s (.next { s with live := M }) := by
  intro t ht
  injection ht with ht
  subst ht
  exact congrArg (fun L => { s with live := L }) h

theorem OnlyNodes.ite {s : State} {p : Prop} [Decidable p] {o u : Host.Outcome State Fault Refusal} (ho : OnlyNodes s o)
    (hu : OnlyNodes s u) : OnlyNodes s (if p then o else u) := by
  split <;> assumption

/-- A request to a node: answered by the node, perhaps after a change of it. -/
theorem onlyNodes_answer {s : State} {p : Prop} [Decidable p] (node port op tag r : Nat) (data : Bytes) (f : Node → Node) :
    OnlyNodes s (.next { s with live := (if p then s.live.modNode node f else s.live).nodeAnswer node port op tag r data }) := by
  split <;> exact .next rfl

theorem nodeDownlinkFrameRx_onlyNodes (node : Fin 16) (port : Fin 2) (frame : Bytes) (lineOk : Bool) (s : State) :
    OnlyNodes s (exec (.nodeDownlinkFrameRx node port frame lineOk) s) := .next rfl

theorem nodeSuperframeStart_onlyNodes (node : Fin 16) (inBound : Bool) (s : State) :
    OnlyNodes s (exec (.nodeSuperframeStart node inBound) s) :=
  .next (by simp [Live.nodeFrame_frame])

theorem nodeDesaturation_onlyNodes (node : Fin 16) (high : Bool) (s : State) :
    OnlyNodes s (exec (.nodeDesaturation node high) s) := .next rfl

theorem hardBypassLatchSet_onlyNodes (node : Fin 16) (periods : Nat) (s : State) :
    OnlyNodes s (exec (.hardBypassLatchSet node periods) s) := .next rfl

theorem nodePortsDark_onlyNodes (node : Fin 16) (us : Nat) (s : State) : OnlyNodes s (exec (.nodePortsDark node us) s) := .next rfl

theorem nodeCommaLock_onlyNodes (node : Fin 16) (port : Fin 2) (s : State) : OnlyNodes s (exec (.nodeCommaLock node port) s) :=
  .next rfl

theorem nodeComparatorSelftest_onlyNodes (node : Fin 16) (passed : Bool) (s : State) :
    OnlyNodes s (exec (.nodeComparatorSelftest node passed) s) := .next rfl

theorem mgmtRead_onlyNodes (node : Fin 16) (port : Fin 2) (tag : Byte) (addr len : Nat) (s : State) :
    OnlyNodes s (exec (.mgmtRead node port tag addr len) s) :=
  .ite (.refl s) (.ite (.next rfl) (.ite (.next rfl) (.next rfl)))

theorem mgmtWrite_onlyNodes (node : Fin 16) (port : Fin 2) (tag : Byte) (addr : Nat) (data : Bytes) (s : State) :
    OnlyNodes s (exec (.mgmtWrite node port tag addr data) s) :=
  .ite (.refl s) (onlyNodes_answer _ _ _ _ _ _ _)

theorem imageBlock_onlyNodes (node : Fin 16) (port : Fin 2) (tag : Byte) (block : Nat) (data : Bytes) (s : State) :
    OnlyNodes s (exec (.imageBlock node port tag block data) s) :=
  .ite (.refl s) (onlyNodes_answer _ _ _ _ _ _ _)

theorem imageActivate_onlyNodes (node : Fin 16) (port : Fin 2) (tag : Byte) (digest : Bytes) (s : State) :
    OnlyNodes s (exec (.imageActivate node port tag digest) s) :=
  .ite (.refl s) (.ite (.next rfl) (.ite (.next rfl) (.next rfl)))

theorem latchRelease_onlyNodes (node : Fin 16) (port : Fin 2) (tag : Byte) (checkOk : Bool) (s : State) :
    OnlyNodes s (exec (.latchRelease node port tag checkOk) s) :=
  .ite (.refl s) (onlyNodes_answer _ _ _ _ _ _ _)

theorem comparatorTest_onlyNodes (node : Fin 16) (port : Fin 2) (tag : Byte) (passed : Bool) (s : State) :
    OnlyNodes s (exec (.comparatorTest node port tag passed) s) :=
  .ite (.refl s) (onlyNodes_answer _ _ _ _ _ _ _)

theorem nodePowerUp_onlyNodes (node : Fin 16) (s : State) : OnlyNodes s (exec (.nodePowerUp node) s) := by
  change OnlyNodes s (execNodePowerUp node s)
  unfold execNodePowerUp
  refine .next ?_
  split <;> rfl

end Sys2Proof.Machine
end

section
/-! QUARRY and OFF (03 R50, R68): every row of the module asks whether it is up before it does anything. -/

namespace Sys2Proof.Machine

open Sys2Proof

theorem run_unpowered {s : State} {f : Live → Live} (h : s.live.powered = false) : run s f = .next s := by
  simp [run, h]

theorem run_onlyNodes {s : State} {f : Live → Live} (h : s.live.powered = false) : OnlyNodes s (run s f) :=
  run_unpowered h ▸ .refl s

theorem portRun_onlyNodes {s : State} {f : Live → Live} (h : s.live.powered = false) : OnlyNodes s (portRun s f) :=
  run_onlyNodes h

theorem runIn_onlyNodes {i : Nat} {s : State} {f : Live → Live} (h : s.live.powered = false) : OnlyNodes s (runIn i s f) := by
  have hout : runIn i s f = .next s := by simp [runIn, h]
  exact hout ▸ .refl s

theorem logicRow_onlyNodes {i : Instr} {name : String} {s : State} {f : Live → Live} (h : s.live.powered = false) :
    OnlyNodes s (logicRow i name s f) :=
  .ite (runIn_onlyNodes h) (fun _ ht => nomatch ht)

theorem courseBoundary_unpowered {s : State} (h : s.live.powered = false) : exec .courseBoundary s = .next s := by
  change execCourseBoundary s = _
  simp [execCourseBoundary, h]

theorem mirrorFrameRx_unpowered {s : State} (frame : Bytes) (p q : Fin 3) (h : s.live.powered = false) :
    exec (.mirrorFrameRx frame p q) s = .next s := by
  change execMirrorFrameRx frame p q s = _
  simp [execMirrorFrameRx, h]

theorem mirrorFrameMissing_unpowered {s : State} (h : s.live.powered = false) : exec .mirrorFrameMissing s = .next s := by
  change execMirrorFrameMissing s = _
  simp [execMirrorFrameMissing, h]

theorem stateTransferComplete_unpowered {s : State} (h : s.live.powered = false) : exec .stateTransferComplete s = .next s := by
  change execStateTransferComplete s = _
  simp [execStateTransferComplete, h]

theorem odRead_unpowered {s : State} (sess : Sess) (index sub : Nat) (segmented : Bool) (h : s.live.powered = false) :
    exec (.odRead sess index sub segmented) s = .next s := by
  change execOdRead sess index sub segmented s = _
  simp [execOdRead, h]

theorem segmentedReadTimeout_unpowered {s : State} (sess : Sess) (h : s.live.powered = false) :
    exec (.segmentedReadTimeout sess) s = .next s := by
  change execSegmentedReadTimeout sess s = _
  unfold execSegmentedReadTimeout
  split
  · rfl
  · simp [h]

/-- The supply and wake commands (02 R42 to R46), which reach a module in QUARRY and in OFF. -/
def suppliesOrWakes : Instr → Bool
  | .auxInputPresent .. | .auxInputAbsent .. | .allSuppliesLost | .wakePulse _ => true
  | _ => false

theorem exec_onlyNodes_of_unpowered {c : Instr} {s : State} (h : s.live.powered = false) (hc : suppliesOrWakes c = false) :
    OnlyNodes s (exec c s) := by
  cases c with
  | auxInputPresent | auxInputAbsent | allSuppliesLost | wakePulse =>
    cases hc
  | holdupSealComplete | watchdogExpiry | boot | bootComplete | dupNodeIdListenEnd | selftestComplete | cmdEnable | cmdDisable |
  cmdAcknowledge | cmdEnterService | cmdLeaveService | cmdEnterQuarry | quarryEntryComplete | cmdReset | cmdColdRestartLogic |
  cmdColdRestartEstimator | pendingEnableExpiry | prechargeCooldownEnd | sampleStrobe | controlSample | nodeCmdCommission |
  nodeCmdReleaseLatch | nodeCmdRepeatBringup | nodeCmdComparatorTest | segCmdBypass | segCmdReturn | estCmdRequestWindow |
  estCmdWithdrawRequest | segEstCmdReplaced | tableCmdSwitchBank | tableCmdEraseBank | tableImageWrite | safetyCmdReleaseSf09 |
  safetyCmdReleaseDeepSf02 | heartbeatRx | canCmdRecover | canCmdClearCounters | odWrite | readListResultRead | transaction |
  authResponse | lowerLevel | sessionIdleTimeout | authLockExpiry | safetyParamWrite | safetyCmdDiscardEdit | safetySetConfirm |
  editCopyTimeout | safetySetCrcCheck | manualModuleTime | logicCmdStart | logicCmdStop | logicCmdActivate | logicCmdClearForces
  | logicCmdEraseInactive | setForce | releaseForce | logicImageWrite | mirrorFrameSend | twinCmdHandover | twinCmdResync |
  recordCommit | repeatUpdate | recorderCmdFreeze | recorderCmdRelease | recorderCmdClear | freezeTimeout | recordsRead |
  captureArm | captureForceTrigger | captureAbort | chiselStart | chiselStop | manifestWrite | stagingBlockWrite |
  updateCmdVerify | verificationComplete | updateCmdActivate | updateCmdDiscard | probationConfirm | probationTimeTick |
  probationLimit | nodeUpdateSegment | integratorKeyWrite | flashRefreshBlock | journalCheckpoint | countersSaveTick |
  debugIdleTimeout =>
    dsimp only [exec]
    exact run_onlyNodes h
  | dbgOpen | dbgAuth | dbgClose | dbgStatus | dbgRead | dbgWrite | dbgOdRead | dbgOdWrite | logicHalt | logicStep |
  logicStepCourse | logicRun | breakSet | breakClear | islandHalt | islandRun | dbgInvalidRequest =>
    dsimp only [exec]
    exact portRun_onlyNodes h
  | derateHoldExpiry | captureComplete | chiselComplete | impedanceWindowBoundary | downlinkLatch | superframeStart |
  uplinkFrameRx | bypassConfirmTimeout | uplinkMissingTimeout | uplinkWordsLostTimeout | linkCommaLock | mgmtResponseRx |
  mgmtTimeout | busCollapseDetected | busCollapseRelease | softstartContactorsClosed | softstartMatched | softstartMatchTimeout
  | softstartSwitchClosed | softstartSwitchTimeout | softstartComplete | shortAbort | prechargeTimeout | balancingAgeTick |
  rmsRatioBucket | estimatorSweep | uncertaintyLimitExceeded | referenceWindowComplete | referenceRequestUnmet |
  thermalEvaluation | crossChannelExchange | crossChannelMismatch | channelBSample | fastComparatorTrip | fastComparatorCheck |
  i2tBlock | seqStep1End | classSHoldoffExpiry | lintelOpenTimeout | step4BlockedTimeout | loopTest | loopTestExpiry |
  safetyInputChange | inputDiscrepancyTimeout | testPulseStart | feedbackInputChange | contactorOpenTimeout |
  contactorCloseTimeout | unexpectedOpeningTimeout | switchDiscrepancyTimeout | bayTripRead | bayTripHeldTimeout |
  safetyReleaseTimer | pePathTest | insulationHalfPeriod | insulationSelftest | insulationListenGap | unmonitoredLimitExpiry |
  srdoRefresh | srdoSctExpiry | twinXLowDetected | twinXTestPulse | opticalMarginLow | canFrameRx | srdoRx | rpdoRx |
  startRemoteNode | stopRemoteNode | enterPreOperational | resetNode | resetCommunication | heartbeatTx | txBufferLoad |
  canTxComplete | framePromotion | frameDeadline | canErrorPassive | canErrorActive | canBusOff | busOffRecoveryComplete |
  canNoAckTimeout | busMonitorCheckEnd | referenceMessageSend | referenceCancelTimeout | referenceMessageRx | followUpRx |
  timeHoldoverEntry | holdoverLimitExpiry | managerSilenceTimeout | lssSwitchStateGlobal | lssSwitchStateSelective |
  lssConfigureNodeId | lssStoreConfiguration | lssInquireVendor | lssInquireProduct | lssInquireRevision | lssInquireSerial |
  lssInquireNodeId | lssIdentifyRemoteSlave | lssIdentifyNonConfigured | summarySend | summaryRx | summaryDeadline |
  baySnapshotSend | baySnapshotRx | dispatchStepRx | dataPlaneSend | ptpAnnounceRx | ptpSyncRx | ptpFollowUpRx | ptpDelayReqSend
  | ptpDelayRespRx | siteTimeHoldover | siteTimeWaitExpiry | ethernetLinkChange | arpRequest | icmpEchoRequest | modbusConnect |
  readHoldingRegisters | readInputRegisters | writeSingleRegister | writeMultipleRegisters | readDeviceIdentification |
  logicScan | scanOverrun | nop | notb | pushb | popand | popor | ldi | addi | shr | next | ret | end_ | pairCheckComplete |
  urgentWordRx | stateTransferTimeout | handoverClaimLimit | cyclicDiagnostic | withheldRecoveryStart | modbusConnectionClose |
  modbusUnsupportedFunction =>
    dsimp only [exec]
    exact runIn_onlyNodes h
  | ldb | andb | orb | stb | setb | rstb | ld | ldhi | st | add | sub | mul | div | and | or | shl | min | max | eq | ne | lt |
  gt | jmp | jmpt | jmpf | loop | call | ton | tof | tp | ctu | ctd | ctud | rTrig | fTrig | msgrx | msgtx | evt =>
    dsimp only [exec]
    exact logicRow_onlyNodes h
  | nodeDownlinkFrameRx => apply nodeDownlinkFrameRx_onlyNodes
  | nodeSuperframeStart => apply nodeSuperframeStart_onlyNodes
  | nodeDesaturation => apply nodeDesaturation_onlyNodes
  | hardBypassLatchSet => apply hardBypassLatchSet_onlyNodes
  | nodePortsDark => apply nodePortsDark_onlyNodes
  | nodeCommaLock => apply nodeCommaLock_onlyNodes
  | nodeComparatorSelftest => apply nodeComparatorSelftest_onlyNodes
  | mgmtRead => apply mgmtRead_onlyNodes
  | mgmtWrite => apply mgmtWrite_onlyNodes
  | imageBlock => apply imageBlock_onlyNodes
  | imageActivate => apply imageActivate_onlyNodes
  | latchRelease => apply latchRelease_onlyNodes
  | comparatorTest => apply comparatorTest_onlyNodes
  | nodePowerUp => apply nodePowerUp_onlyNodes
  | courseBoundary => exact courseBoundary_unpowered h ▸ .refl s
  | mirrorFrameRx => exact mirrorFrameRx_unpowered _ _ _ h ▸ .refl s
  | mirrorFrameMissing => exact mirrorFrameMissing_unpowered h ▸ .refl s
  | stateTransferComplete => exact stateTransferComplete_unpowered h ▸ .refl s
  | odRead => exact odRead_unpowered _ _ _ _ h ▸ .refl s
  | segmentedReadTimeout => exact segmentedReadTimeout_unpowered _ h ▸ .refl s
  | captureDataRead sess => exact odRead_unpowered sess _ _ _ h ▸ .refl s

/-- Settles O13. -/
theorem nothingRunsInQuarryOrOff : Obligations.NothingRunsInQuarryOrOff := by
  intro c s t h ht
  cases hc : suppliesOrWakes c with
  | false => exact .inr (.inr (.inr (.inr (exec_onlyNodes_of_unpowered h hc t ht))))
  | true =>
    cases c with
    | auxInputPresent input mv => exact .inl ⟨input, mv, rfl⟩
    | auxInputAbsent input mv => exact .inr (.inl ⟨input, mv, rfl⟩)
    | allSuppliesLost => exact .inr (.inr (.inl rfl))
    | wakePulse ms => exact .inr (.inr (.inr (.inl ⟨ms, rfl⟩)))
    | _ => cases hc

end Sys2Proof.Machine
end

section
/-! A trip and what it does to the module state: the state stays, or it is SAFE (03 R52 T13, 10 R249). -/

namespace Sys2Proof.Machine

open Sys2Proof

/-- The states from which a trip leads to SAFE (03 R52 T13), and SAFE itself. -/
def MState.trips (a : MState) : Bool := a == .standby || a == .precharge || a == .run || a == .derated || a == .safe

/-- The state stays, or a trip has led to SAFE. -/
def StaysOrTrips (a b : MState) : Prop := b = a ∨ (a.trips = true ∧ b = .safe)

@[simp] theorem StaysOrTrips.refl (a : MState) : StaysOrTrips a a := .inl rfl

theorem StaysOrTrips.trans {a b c : MState} (h : StaysOrTrips a b) (h' : StaysOrTrips b c) : StaysOrTrips a c := by
  rcases h' with rfl | ⟨hb, rfl⟩
  · exact h
  · rcases h with rfl | ⟨ha, -⟩
    · exact .inr ⟨hb, rfl⟩
    · exact .inr ⟨ha, rfl⟩

/-- A chain of choices stays or trips if each of its branches does. -/
@[simp] theorem staysOrTrips_ite (a : MState) (c : Prop) [Decidable c] (x y : MState) :
    StaysOrTrips a (if c then x else y) ↔ (c → StaysOrTrips a x) ∧ (¬c → StaysOrTrips a y) := by
  split <;> simp [*]

theorem trips_of_driving {L : Live} (h : L.driving = true ∨ L.mode.st = .standby) : L.mode.st.trips = true := by
  simp only [Live.driving, Bool.or_eq_true, beq_iff_eq] at h
  rcases h with ((h | h) | h) | h <;> rw [h] <;> rfl

/-- Entering SAFE is the only change of state that a trip makes. -/
theorem Live.enterSafe_staysOrTrips {a : MState} {L : Live} {k : SeqKind} (hk : k ≠ .shutdown) (h : StaysOrTrips a L.mode.st) :
    StaysOrTrips a (L.enterSafe k).mode.st := by
  refine h.trans ?_
  by_cases hd : L.driving = true ∨ L.mode.st = .standby
  · exact .inr ⟨trips_of_driving hd, L.enterSafe_st k hk hd⟩
  · unfold Live.enterSafe
    rw [if_neg hd]
    split
    · refine .inl ?_
      have hkind : (L.toStep2.setSeq (fun s => { s with kind := .classF })).kindOf ≠ some .shutdown := by
        simp [Live.kindOf, Live.setSeq, Function.comp_def]
      rw [(Live.seqOn_kind _ hkind).1]
      exact L.toStep2_kind.1
    · exact .refl _

theorem Live.releaseTwin_staysOrTrips {a : MState} {L : Live} (hs : L.fromStandby = true) (h : StaysOrTrips a L.mode.st) :
    StaysOrTrips a L.releaseTwin.mode.st := by
  refine h.trans ?_
  have hst : ({ L.cutFast.openLoop with twin := { L.cutFast.openLoop.twin with holds := false, claims := false } }.insRelay).mode.st
      = L.mode.st := by
    simp [Live.cutFast_frame, Live.openLoop_frame, Live.insRelay_frame]
  unfold Live.releaseTwin
  dsimp only
  split
  · exact .inl hst
  · next hne =>
    rw [hst] at hne
    refine .inr ⟨?_, by simp⟩
    revert hs hne
    simp only [Live.fromStandby, decide_eq_true_eq]
    cases L.mode.st <;> simp [MState.code, MState.trips]

theorem Live.fromStandby_of_mode {L M : Live} (h : M.mode = L.mode) : M.fromStandby = L.fromStandby := by
  simp [Live.fromStandby, h]

theorem Live.tripAct_staysOrTrips {a : MState} {L : Live} (n ch : Nat) (classF bay : Bool) (hs : L.fromStandby = true)
    (h : StaysOrTrips a L.mode.st) : StaysOrTrips a (L.tripAct n ch classF bay).mode.st := by
  have hkind : (if classF then SeqKind.classF else .classS) ≠ .shutdown := by cases classF <;> simp
  unfold Live.tripAct
  extract_lets M N K _ J
  have hN : N.mode = L.mode := by simp [N, M, Live.openElement_frame]
  have hJ : J.mode = L.mode := by simp [J, K, hN, Live.commandPartner_frame, Live.setPath_frame]
  split
  · exact Live.releaseTwin_staysOrTrips ((Live.fromStandby_of_mode hN).trans hs) (by rwa [hN])
  · exact Live.enterSafe_staysOrTrips hkind (by rwa [hJ])

@[simp] theorem Live.trip_staysOrTrips {a : MState} {L : Live} (n ch code : Nat) (classF bay : Bool) (h : StaysOrTrips a L.mode.st) :
    StaysOrTrips a (L.trip n ch code classF bay).mode.st := by
  unfold Live.trip
  by_cases hs : L.fromStandby = true
  · rw [if_neg (by simp [hs])]
    split
    · simpa [Live.openElement_frame] using h
    · extract_lets M N
      have hN : (N.latchCause n ch).mode = L.mode := by simp [N, M, Live.latchCause_frame, Live.countSf11_frame]
      exact Live.tripAct_staysOrTrips n ch classF bay ((Live.fromStandby_of_mode hN).trans hs) (by rwa [hN])
  · rwa [if_pos (by simp [hs])]

@[simp] theorem Live.sf12_staysOrTrips {a : MState} {L : Live} (ch : Nat) (h : StaysOrTrips a L.mode.st) :
    StaysOrTrips a (L.sf12 ch).mode.st := Live.trip_staysOrTrips 12 ch ch true false h

@[simp] theorem Live.sf09_staysOrTrips {a : MState} {L : Live} (code : Nat) (block trips classF : Bool) (h : StaysOrTrips a L.mode.st) :
    StaysOrTrips a (L.sf09 code block trips classF).mode.st := by
  unfold Live.sf09
  split
  · exact h
  · next hs =>
    extract_lets M N
    have hN : N.mode = L.mode := by simp [N, M, Live.latchCause_frame]
    have hs' : L.fromStandby = true := by
      rw [not_or] at hs
      simpa using hs.2
    split
    · simpa [Live.alsoB_frame] using
        Live.tripAct_staysOrTrips 9 1 classF false ((Live.fromStandby_of_mode hN).trans hs') (by rwa [hN])
    · simpa [hN] using h

@[simp] theorem Live.prechargeFault_staysOrTrips {a : MState} {L : Live} (code : Nat) (h : StaysOrTrips a L.mode.st) :
    StaysOrTrips a (L.prechargeFault code).mode.st :=
  Live.enterSafe_staysOrTrips (by decide) (by simpa using h)

@[simp] theorem Live.supplyLossSafe_staysOrTrips {a : MState} {L : Live} (h : StaysOrTrips a L.mode.st) :
    StaysOrTrips a L.supplyLossSafe.mode.st :=
  Live.enterSafe_staysOrTrips (by decide) h

@[simp] theorem Live.jwrite_staysOrTrips {a : MState} {L : Live} (cls : Nat) (mirrored done : Bool) (body : Bytes)
    (h : StaysOrTrips a L.mode.st) : StaysOrTrips a (L.jwrite cls mirrored done body).mode.st := by
  unfold Live.jwrite
  extract_lets
  split
  · exact Live.sf12_staysOrTrips 1 (by simpa [Live.updEv_frame] using h)
  · simpa [Live.sendEntry_frame] using h

end Sys2Proof.Machine
end

section
/-! Operations that may trip, each staying where it is or entering SAFE. -/

namespace Sys2Proof.Machine

open Sys2Proof

@[simp] theorem Live.carryEntry_staysOrTrips {a : MState} {L : Live} (e : JEntry) (h : StaysOrTrips a L.mode.st) :
    StaysOrTrips a (L.carryEntry e).mode.st := by
  simp [Live.carryEntry, h, Live.jdone_frame]

@[simp] theorem Live.checkpoint_staysOrTrips {a : MState} {L : Live} (h : StaysOrTrips a L.mode.st) :
    StaysOrTrips a L.checkpoint.mode.st := by
  have hf : ∀ l : List JEntry, StaysOrTrips a (l.foldl (fun L e => L.carryEntry e) L).mode.st := fun l =>
    foldl_inv (fun M => StaysOrTrips a M.mode.st) _ (fun M e hM => M.carryEntry_staysOrTrips e hM) l L h
  simp [Live.checkpoint, Live.updEv_frame, hf]

@[simp] theorem Live.commitRecord_staysOrTrips {a : MState} {L : Live} (h : StaysOrTrips a L.mode.st) :
    StaysOrTrips a L.commitRecord.mode.st := by
  unfold Live.commitRecord
  split <;> simp [h, Live.emcysOf_frame, Live.overflowRecords_frame]

@[simp] theorem Live.saveCounters_staysOrTrips {a : MState} {L : Live} (h : StaysOrTrips a L.mode.st) :
    StaysOrTrips a L.saveCounters.mode.st := by
  simp [Live.saveCounters, h]

@[simp] theorem Live.stageEntry_staysOrTrips {a : MState} {L : Live} (done : Bool) (kind : Nat) (rest : Bytes)
    (h : StaysOrTrips a L.mode.st) :
    StaysOrTrips a (L.stageEntry done kind rest).mode.st := by
  simp [Live.stageEntry, h]

@[simp] theorem Live.jBypass_staysOrTrips {a : MState} {L : Live} (s kind : Nat) (h : StaysOrTrips a L.mode.st) :
    StaysOrTrips a (L.jBypass s kind).mode.st := by
  simp [Live.jBypass, h]

@[simp] theorem Live.leave_staysOrTrips {a : MState} {L : Live} (s kind cause : Nat) (h : StaysOrTrips a L.mode.st) :
    StaysOrTrips a (L.leave s kind cause).mode.st := by
  simp [Live.leave, h, Live.modSeg_frame, Live.convSegEv_frame, Live.rescale_frame]

@[simp] theorem Live.rejoin_staysOrTrips {a : MState} {L : Live} (s : Nat) (h : StaysOrTrips a L.mode.st) :
    StaysOrTrips a (L.rejoin s).mode.st := by
  simp [Live.rejoin, h, Live.modSeg_frame, Live.convSegEv_frame, Live.rescale_frame]

@[simp] theorem Live.unplanned_staysOrTrips {a : MState} {L : Live} (s cause : Nat) (h : StaysOrTrips a L.mode.st) :
    StaysOrTrips a (L.unplanned s cause).mode.st := by
  simp [Live.unplanned, h, Live.modSeg_frame, Live.convSegEv_frame, Live.rescale_frame, Live.belowFour_frame]

@[simp] theorem Live.crossing_staysOrTrips {a : MState} {L : Live} (o : Option Nat) (h : StaysOrTrips a L.mode.st) :
    StaysOrTrips a (L.crossing o).mode.st := by
  cases o <;> simp [Live.crossing, h]

@[simp] theorem Live.runEngine_staysOrTrips {a : MState} {L : Live} (x : SampleIn) (h : StaysOrTrips a L.mode.st) :
    StaysOrTrips a (L.runEngine x).mode.st := by
  simp [Live.runEngine, h, Live.overflows_frame]

@[simp] theorem Live.residual_staysOrTrips {a : MState} {L : Live} (n : Nat) (r warn fault : Rat) (h : StaysOrTrips a L.mode.st) :
    StaysOrTrips a (L.residual n r warn fault).mode.st := by
  simp [Live.residual, h]

@[simp] theorem Live.plumb_staysOrTrips {a : MState} {L : Live} (h : StaysOrTrips a L.mode.st) :
    StaysOrTrips a L.plumb.mode.st := by
  simp [Live.plumb, h]

@[simp] theorem Live.segCommand_staysOrTrips {a : MState} {L : Live} (s : Nat) (h : StaysOrTrips a L.mode.st) :
    StaysOrTrips a (L.segCommand s).mode.st := by
  simp only [Live.segCommand]
  (repeat' split) <;> simp [h, Live.modSeg_frame]

@[simp] theorem Live.resting_staysOrTrips {a : MState} {L : Live} (s : Nat) (h : StaysOrTrips a L.mode.st) :
    StaysOrTrips a (L.resting s).mode.st := by
  simp [Live.resting, h]

@[simp] theorem Live.carrierBoundary_staysOrTrips {a : MState} {L : Live} (h : StaysOrTrips a L.mode.st) :
    StaysOrTrips a L.carrierBoundary.mode.st := by
  have hf : StaysOrTrips a ((List.range 16).foldl (fun L s => (L.segCommand s).resting s) L).mode.st :=
    foldl_inv (fun M => StaysOrTrips a M.mode.st) _ (fun M s hM => by simp [hM]) _ L h
  simp [Live.carrierBoundary, Live.arrange_frame, h, hf]

@[simp] theorem Live.release_staysOrTrips {a : MState} {L : Live} (h : StaysOrTrips a L.mode.st) :
    StaysOrTrips a L.release.mode.st := by
  simp [Live.release, h]

@[simp] theorem Live.sampleIn_staysOrTrips {a : MState} {L : Live} (x : SampleIn) (h : StaysOrTrips a L.mode.st) :
    StaysOrTrips a (L.sampleIn x).mode.st := by
  simp [Live.sampleIn, h, Live.takeCommit_frame, Live.capCommands_frame, Live.rebase_frame, Live.measure_frame, Live.endFrame_frame,
    Live.setDir_frame, Live.sourceEvent_frame, Live.settleX_frame, Live.quiet_frame, Live.shareSample_frame, Live.sumHeat_frame,
    Live.countEnergy_frame]

@[simp] theorem Live.sampleEngine_staysOrTrips {a : MState} {L : Live} (x : SampleIn) (h : StaysOrTrips a L.mode.st) :
    StaysOrTrips a (L.sampleEngine x).mode.st := by
  simp [Live.sampleEngine, h, Live.chiselBegin_frame, Live.chiselSignal_frame, Live.tellEst_frame]

@[simp] theorem Live.overTemp_staysOrTrips {a : MState} {L : Live} (h : StaysOrTrips a L.mode.st) :
    StaysOrTrips a L.overTemp.mode.st := by
  simp [Live.overTemp, h]

@[simp] theorem Live.thermEffects_staysOrTrips {a : MState} {L : Live} (h : StaysOrTrips a L.mode.st) :
    StaysOrTrips a L.thermEffects.mode.st := by
  unfold Live.thermEffects
  dsimp only
  exact foldl_inv (fun M => StaysOrTrips a M.mode.st) _ (fun M s hM => M.unplanned_staysOrTrips s 6 hM) _ _ (by simpa using h)

@[simp] theorem Live.moduleShutdown_staysOrTrips {a : MState} {L : Live} (h : StaysOrTrips a L.mode.st) :
    StaysOrTrips a L.moduleShutdown.mode.st := by
  simp [Live.moduleShutdown, h]

@[simp] theorem Live.finishHandover_staysOrTrips {a : MState} {L : Live} (h : StaysOrTrips a L.mode.st) :
    StaysOrTrips a L.finishHandover.mode.st := by
  simp [Live.finishHandover, h, Live.setFast_frame, Live.openLoop_frame, Live.insRelay_frame, Live.twinEv_frame]

@[simp] theorem Live.tokenReports_staysOrTrips {a : MState} {L : Live} (whole : Bool) (h : StaysOrTrips a L.mode.st) :
    StaysOrTrips a (L.tokenReports whole).mode.st := by
  simp [Live.tokenReports, h, Live.insRelay_frame, Live.twinEv_frame, Live.yieldToken_frame, Live.dueThresholds_frame]

@[simp] theorem Live.judgeWord_staysOrTrips {a : MState} {L : Live} (s : Nat) (w : Bytes) (h : StaysOrTrips a L.mode.st) :
    StaysOrTrips a (L.judgeWord s w).mode.st := by
  have hboth : ∀ (M : Live) (n : Nat), StaysOrTrips a M.mode.st →
      StaysOrTrips a ((M.trip n 1 1 false false).trip n 2 2 false false).mode.st := fun M n hM => by simp [hM]
  unfold Live.judgeWord
  extract_lets f run run' W both M₁ M₂ M₃
  have h₀ : StaysOrTrips a W.mode.st := by simpa [W, Live.modWatch_frame] using h
  have h₁ : StaysOrTrips a M₁.mode.st := by simp [M₁, both, hboth, h₀]
  have h₂ : StaysOrTrips a M₂.mode.st := by simp [M₂, both, hboth, h₁]
  have h₃ : StaysOrTrips a M₃.mode.st := by simp [M₃, both, hboth, h₀, h₂]
  simp [h₃]

@[simp] theorem Live.judgeCells_staysOrTrips {a : MState} {L : Live} (s : Nat) (h : StaysOrTrips a L.mode.st) :
    StaysOrTrips a (L.judgeCells s).mode.st := by
  simp [Live.judgeCells, h, Live.modWatch_frame]

@[simp] theorem Live.pairTrip_staysOrTrips {a : MState} {L : Live} (i ch : Nat) (h : StaysOrTrips a L.mode.st) :
    StaysOrTrips a (L.pairTrip i ch).mode.st := by
  simp [Live.pairTrip, h]

@[simp] theorem Live.testFault_staysOrTrips {a : MState} {L : Live} (i : Nat) (chB cross : Bool) (h : StaysOrTrips a L.mode.st) :
    StaysOrTrips a (L.testFault i chB cross).mode.st := by
  simp [Live.testFault, h, Live.modPair_frame]

@[simp] theorem Live.pulseInput_staysOrTrips {a : MState} {L : Live} (own : Bool) (low : Nat) (chB : Bool) (i : Nat)
    (h : StaysOrTrips a L.mode.st) :
    StaysOrTrips a (L.pulseInput own low chB i).mode.st := by
  simp [Live.pulseInput, h, Live.modPair_frame]

@[simp] theorem Live.exchangePair_staysOrTrips {a : MState} {L : Live} (i : Nat) (h : StaysOrTrips a L.mode.st) :
    StaysOrTrips a (L.exchangePair i).mode.st := by
  simp [Live.exchangePair, h]

@[simp] theorem Live.obey_staysOrTrips {a : MState} {L : Live} (c : TripCmd) (h : StaysOrTrips a L.mode.st) :
    StaysOrTrips a (L.obey c).mode.st := by
  unfold Live.obey
  split
  · exact h
  · next hs =>
    rw [not_or] at hs
    dsimp only
    split
    · exact Live.enterSafe_staysOrTrips (by decide) (by simp [Live.setFast_frame, h])
    · split
      · exact Live.tripAct_staysOrTrips _ _ _ _ (by simpa [Live.fromStandby, Live.latchCause_frame] using hs.2)
          (by simp [Live.latchCause_frame, h])
      · simp [h]

@[simp] theorem Live.sf06_staysOrTrips {a : MState} {L : Live} (ch : Nat) (h : StaysOrTrips a L.mode.st) :
    StaysOrTrips a (L.sf06 ch).mode.st := by
  simp [Live.sf06, h]

@[simp] theorem Live.insOnBus_staysOrTrips {a : MState} {L : Live} (x y : Option Nat) (h : StaysOrTrips a L.mode.st) :
    StaysOrTrips a (L.insOnBus x y).mode.st := by
  simp [Live.insOnBus, h]

@[simp] theorem Live.bayNotice_staysOrTrips {a : MState} {L : Live} (data : Bytes) (h : StaysOrTrips a L.mode.st) :
    StaysOrTrips a (L.bayNotice data).mode.st := by
  simp [Live.bayNotice, h]

@[simp] theorem Live.srdoTaken_staysOrTrips {a : MState} {L : Live} (k : Nat) (data : Bytes) (h : StaysOrTrips a L.mode.st) :
    StaysOrTrips a (L.srdoTaken k data).mode.st := by
  simp [Live.srdoTaken, h]

@[simp] theorem Live.journalStep_staysOrTrips {a : MState} {L : Live} (m : Nat) (shares : List Nat) (inj : Bytes)
    (h : StaysOrTrips a L.mode.st) :
    StaysOrTrips a (L.journalStep m shares inj).mode.st := by
  simp [Live.journalStep, h]

@[simp] theorem Live.sendBay_staysOrTrips {a : MState} {L : Live} (m : Nat) (h : StaysOrTrips a L.mode.st) :
    StaysOrTrips a (L.sendBay m).mode.st := by
  simp [Live.sendBay, h, Live.mirrorItem_frame, Live.endGrant_frame, Live.makeGrant_frame, Live.designate_frame,
      Live.setShortfall_frame, Live.onBoth_frame, Live.holdSnapshot_frame, Live.holdStep_frame]

@[simp] theorem Live.writeManifest_staysOrTrips {a : MState} {L : Live} (m : Bytes) (h : StaysOrTrips a L.mode.st) :
    StaysOrTrips a (L.writeManifest m).1.mode.st := by
  simp [Live.writeManifest, h, Live.updEv_frame, Live.updRefuse_frame, Live.stageDone_frame]

@[simp] theorem Live.writeBlock_staysOrTrips {a : MState} {L : Live} (b : Bytes) (h : StaysOrTrips a L.mode.st) :
    StaysOrTrips a (L.writeBlock b).1.mode.st := by
  unfold Live.writeBlock
  split <;> simp [h, Live.updEv_frame, Live.updRefuse_frame]

@[simp] theorem Live.cmdVerify_staysOrTrips {a : MState} {L : Live} (h : StaysOrTrips a L.mode.st) :
    StaysOrTrips a L.cmdVerify.1.mode.st := by
  simp [Live.cmdVerify, h]

@[simp] theorem Live.cmdDiscardSet_staysOrTrips {a : MState} {L : Live} (h : StaysOrTrips a L.mode.st) :
    StaysOrTrips a L.cmdDiscardSet.1.mode.st := by
  simp [Live.cmdDiscardSet, h, Live.stageDone_frame]

@[simp] theorem Live.confirmSet_staysOrTrips {a : MState} {L : Live} (h : StaysOrTrips a L.mode.st) :
    StaysOrTrips a L.confirmSet.mode.st := by
  simp [Live.confirmSet, h, Live.updEv_frame, Live.notice_frame, Live.confirmAll_frame]

@[simp] theorem Live.probationTick_staysOrTrips {a : MState} {L : Live} (h : StaysOrTrips a L.mode.st) :
    StaysOrTrips a L.probationTick.mode.st := by
  simp [Live.probationTick, h]

@[simp] theorem Live.nodeStart_staysOrTrips {a : MState} {L : Live} (s : Nat) (h : StaysOrTrips a L.mode.st) :
    StaysOrTrips a (L.nodeStart s).mode.st := by
  simp [Live.nodeStart, h, Live.updEv_frame, Live.modSeg_frame]

@[simp] theorem Live.nodeUpdate_staysOrTrips {a : MState} {L : Live} (h : StaysOrTrips a L.mode.st) :
    StaysOrTrips a L.nodeUpdate.mode.st := by
  simp only [Live.nodeUpdate]
  (repeat' split) <;> simp [h, Live.nodeSend_frame, Live.nodeDone_frame, Live.nodeFail_frame]

@[simp] theorem Live.refresh_staysOrTrips {a : MState} {L : Live} (b : Nat) (ok : Bool) (h : StaysOrTrips a L.mode.st) :
    StaysOrTrips a (L.refresh b ok).mode.st := by
  simp [Live.refresh, h, Live.updEv_frame, Live.stageDone_frame, Live.blockFresh_frame]

@[simp] theorem Live.bootReplay_staysOrTrips {a : MState} {L : Live} (h : StaysOrTrips a L.mode.st) :
    StaysOrTrips a L.bootReplay.mode.st := by
  simp [Live.bootReplay, h, Live.updEv_frame, Live.replay_frame]

@[simp] theorem Live.latchTrips_staysOrTrips {a : MState} {L : Live} (h : StaysOrTrips a L.mode.st) :
    StaysOrTrips a L.latchTrips.mode.st := by
  simp [Live.latchTrips, h]

@[simp] theorem Live.auxLost_staysOrTrips {a : MState} {L : Live} (h : StaysOrTrips a L.mode.st) :
    StaysOrTrips a L.auxLost.mode.st := by
  simp [Live.auxLost, h, Live.openLoop_frame, Live.requestHandover_frame]

@[simp] theorem Live.heartbeatWord_staysOrTrips {a : MState} {L : Live} (beat : Option Nat) (h : StaysOrTrips a L.mode.st) :
    StaysOrTrips a (L.heartbeatWord beat).mode.st := by
  simp [Live.heartbeatWord, h]

@[simp] theorem Live.pulseFeedback_staysOrTrips {a : MState} {L : Live} (neg own low : Bool) (h : StaysOrTrips a L.mode.st) :
    StaysOrTrips a (L.pulseFeedback neg own low).mode.st := by
  simp [Live.pulseFeedback, h]

@[simp] theorem Live.checkOutcome_staysOrTrips {a : MState} {L : Live} (own partner : Bool) (h : StaysOrTrips a L.mode.st) :
    StaysOrTrips a (L.checkOutcome own partner).mode.st := by
  simp [Live.checkOutcome, h, Live.requestHandover_frame, Live.leaveStep_frame]

@[simp] theorem Live.settleClaim_staysOrTrips {a : MState} {L : Live} (h : StaysOrTrips a L.mode.st) :
    StaysOrTrips a L.settleClaim.mode.st := by
  unfold Live.settleClaim
  simp only [Live.dueThresholds_frame]
  exact foldl_inv (fun M => StaysOrTrips a M.mode.st) _ (fun M s hM => M.unplanned_staysOrTrips s 5 hM) _ _ h

end Sys2Proof.Machine
end

section
/-! What a row leaves of the module state, by the shape of the row. -/

namespace Sys2Proof.Machine

open Sys2Proof

/-! ### What a row leaves, in terms of the state it starts from -/

/-- Every next state that an outcome holds stands to the state s in the relation R of module states. -/
def Ends (R : MState → MState → Prop) (s : State) (o : Host.Outcome State Fault Refusal) : Prop :=
  ∀ t, o = .next t → R s.live.mode.st t.live.mode.st

theorem Ends.next {R : MState → MState → Prop} {s t : State} (h : R s.live.mode.st t.live.mode.st) : Ends R s (.next t) := by
  intro u hu
  injection hu with hu
  exact hu ▸ h

theorem Ends.mono {R Q : MState → MState → Prop} {s : State} {o : Host.Outcome State Fault Refusal} (h : Ends R s o)
    (hq : ∀ b, R s.live.mode.st b → Q s.live.mode.st b) : Ends Q s o := fun t ht => hq _ (h t ht)

theorem run_ends {R : MState → MState → Prop} {s : State} {f : Live → Live} (hr : R s.live.mode.st s.live.mode.st)
    (h : s.live.powered = true → R s.live.mode.st (f s.live).mode.st) : Ends R s (run s f) := by
  intro t ht
  rcases run_cases ht with ⟨hp, rfl⟩ | ⟨-, rfl⟩
  · exact h hp
  · exact hr

theorem runIn_ends {R : MState → MState → Prop} {i : Nat} {s : State} {f : Live → Live} (hr : R s.live.mode.st s.live.mode.st)
    (h : s.live.powered = true → s.live.mode.st ≠ .boot → R s.live.mode.st (f s.live).mode.st) : Ends R s (runIn i s f) := by
  intro t ht
  rcases runIn_cases ht with ⟨hp, hb, -, rfl⟩ | rfl
  · exact h hp hb
  · exact hr

theorem logicRow_ends {R : MState → MState → Prop} {i : Instr} {name : String} {s : State} {f : Live → Live}
    (hr : R s.live.mode.st s.live.mode.st)
    (h : s.live.powered = true → s.live.mode.st ≠ .boot → R s.live.mode.st (f s.live).mode.st) : Ends R s (logicRow i name s f) := by
  unfold logicRow
  split
  · exact runIn_ends hr h
  · exact fun _ ht => nomatch ht

theorem portRun_ends {R : MState → MState → Prop} {s : State} {f : Live → Live} (hr : R s.live.mode.st s.live.mode.st)
    (h : s.live.powered = true → R s.live.mode.st (f s.live).mode.st) : Ends R s (portRun s f) := by
  refine run_ends hr fun hp => ?_
  split
  · exact hr
  · exact h hp

/-! ### Requests: a request leaves the state machine alone but for what its own effect does -/

theorem Live.refuseArrival_mode (L : Live) (s : Sess) (e : Abort) : (L.refuseArrival s e).mode = L.mode := by
  simp [Live.refuseArrival, Live.refuse_frame]

theorem Live.finish_mode (x : Live × Abort) (s : Sess) : (Live.finish x s).mode = x.1.mode := by
  simp [Live.finish, Live.accept_frame, Live.refuse_frame]

theorem Live.asWrite_mode (L : Live) (s : Sess) (k : Nat) (v : Bytes) (r : Live → Option Abort) (f : Live → Live × Abort) :
    (L.asWrite s k v r f).mode = L.mode ∨ ∃ M, M.mode = L.mode ∧ (L.asWrite s k v r f).mode = (f M).1.mode := by
  have hfwd : ((L.touch s).forwardOn s k v).1.mode = L.mode := by simp [Live.forwardOn_frame, Live.touch_frame]
  unfold Live.asWrite Live.asked
  split
  · dsimp only
    split
    · exact .inl (by simp [Live.passOn_frame, Live.touch_frame])
    · split
      · exact .inl (by rw [Live.refuseArrival_mode, hfwd])
      · exact .inr ⟨_, hfwd, by simp [Live.noteDone_frame, Live.finish_mode]⟩
  · exact .inl rfl

/-- A command's effect runs on the block with one command more in its course, the state machine as it was. -/
theorem Live.command_mode (L : Live) (s : Sess) (level k : Nat) (v : Bytes) (f : Live → Live × Abort) :
    (L.command s level k v f).mode = L.mode ∨ ∃ M, M.mode = L.mode ∧ (L.command s level k v f).mode = (f M).1.mode := by
  refine (L.asWrite_mode s k v _ _).imp_right fun ⟨M, hM, h⟩ => ?_
  exact ⟨{ M with ks := { M.ks with commands := M.ks.commands + 1 } }, hM, h⟩

theorem Live.inSession_mode (L : Live) (tag : Byte) (level : Nat) (f : Live → Live) :
    (L.inSession tag level f).mode = L.mode ∨ ∃ M, M.mode = L.mode ∧ (L.inSession tag level f).mode = (f M).mode := by
  unfold Live.inSession
  split
  · exact .inl (by simp [Live.respond_frame])
  · dsimp only
    split
    · exact .inl (by simp [Live.respond_frame, Live.touch_frame])
    · exact .inr ⟨_, by simp [Live.touch_frame], rfl⟩

@[simp] theorem Live.orAbort_error (L : Live) (e : Abort) : L.orAbort (.error e) = (L, e) := rfl
@[simp] theorem Live.orAbort_ok (L M : Live) : L.orAbort (.ok M) = (M, 0) := rfl
@[simp] theorem Live.orAbort_ite (L : Live) (c : Prop) [Decidable c] (x y : Except Abort Live) :
    L.orAbort (if c then x else y) = if c then L.orAbort x else L.orAbort y := by split <;> rfl

theorem command_ends {R : MState → MState → Prop} {s : State} {sess : Sess} {level k : Nat} {v : Bytes} {f : Live → Live × Abort}
    (hr : R s.live.mode.st s.live.mode.st)
    (h : s.live.powered = true → ∀ M : Live, M.mode = s.live.mode → R M.mode.st (f M).1.mode.st) :
    Ends R s (run s (fun L => L.command sess level k v f)) := by
  refine run_ends hr fun hp => ?_
  rcases s.live.command_mode sess level k v f with e | ⟨M, hM, e⟩
  · rwa [e]
  · rw [e, ← hM]
    exact h hp M hM

theorem asWrite_ends {R : MState → MState → Prop} {s : State} {sess : Sess} {k : Nat} {v : Bytes} {r : Live → Option Abort}
    {f : Live → Live × Abort} (hr : R s.live.mode.st s.live.mode.st)
    (h : s.live.powered = true → ∀ M : Live, M.mode = s.live.mode → R M.mode.st (f M).1.mode.st) :
    Ends R s (run s (fun L => L.asWrite sess k v r f)) := by
  refine run_ends hr fun hp => ?_
  rcases s.live.asWrite_mode sess k v r f with e | ⟨M, hM, e⟩
  · rwa [e]
  · rw [e, ← hM]
    exact h hp M hM

theorem inSession_ends {R : MState → MState → Prop} {s : State} {tag : Byte} {level : Nat} {f : Live → Live}
    (hr : R s.live.mode.st s.live.mode.st)
    (h : s.live.powered = true → ∀ M : Live, M.mode = s.live.mode → R M.mode.st (f M).mode.st) :
    Ends R s (portRun s (fun L => L.inSession tag level f)) := by
  refine portRun_ends hr fun hp => ?_
  rcases s.live.inSession_mode tag level f with e | ⟨M, hM, e⟩
  · rwa [e]
  · rw [e, ← hM]
    exact h hp M hM

end Sys2Proof.Machine
end

section
/-! The transition table (03 R52) as a relation, and the operations that move the state otherwise than by a trip. -/

namespace Sys2Proof.Machine

open Sys2Proof

/-! ### The transition table, as a relation -/

/-- A module state follows another by the table of 03 R52. -/
def Follows (a b : MState) : Prop := follows a b = true

@[simp] theorem Follows.refl (a : MState) : Follows a a := by cases a <;> rfl

theorem StaysOrTrips.follows {a b : MState} (h : StaysOrTrips a b) : Follows a b := by
  rcases h with rfl | ⟨ha, rfl⟩
  · exact .refl _
  · revert ha
    unfold Follows
    cases a <;> decide

/-- A row that makes at most one trip keeps to the table. -/
theorem Ends.follows {s : State} {o : Host.Outcome State Fault Refusal} (h : Ends StaysOrTrips s o) : Ends Follows s o :=
  h.mono fun _ => StaysOrTrips.follows

/-- From every state but QUARRY, OFF and BOOT the table leads to STANDBY (03 R52 T7, T12, T14, T16). -/
theorem follows_standby {L : Live} (hp : L.powered = true) (hb : L.mode.st ≠ .boot) : Follows L.mode.st .standby := by
  revert hp hb
  simp only [Live.powered, Follows]
  cases L.mode.st <;> decide

/-- What keeps to the table still does where a shut-down may end at last. -/
theorem Follows.rests {a b c : MState} (h : Follows a b) (hs : Follows a .standby) (hc : c = b ∨ c = .standby) : Follows a c := by
  rcases hc with rfl | rfl
  · exact h
  · exact hs

/-- Trips, then perhaps a derating (03 R52 T10). -/
theorem StaysOrTrips.derates {a b c : MState} (h : StaysOrTrips a b) (hc : c = b ∨ (b = .run ∧ c = .derated)) : Follows a c := by
  rcases hc with rfl | ⟨rfl, rfl⟩
  · exact h.follows
  · rcases h with rfl | ⟨-, h⟩
    · rfl
    · cases h

theorem follows_boot {L : Live} (hp : L.powered = true) : Follows L.mode.st .boot := by
  revert hp
  simp only [Live.powered, Follows]
  cases L.mode.st <;> decide

theorem follows_off {L : Live} (hp : L.powered = true) : Follows L.mode.st .off := by
  revert hp
  simp only [Live.powered, Follows]
  cases L.mode.st <;> decide

theorem Live.powered_of_mode {L M : Live} (h : M.mode = L.mode) : M.powered = L.powered := by
  simp [Live.powered, h]

/-! ### What the operations that change the state otherwise leave -/

@[simp] theorem Live.toBoot_st (L : Live) (trig cause : Nat) : (L.toBoot trig cause).mode.st = .boot := by
  simp [Live.toBoot]

theorem Live.toStep5_rests (L : Live) : L.toStep5.mode.st = L.mode.st ∨ L.toStep5.mode.st = .standby := by
  unfold Live.toStep5
  split
  · split
    · exact .inr (by simp)
    · exact .inl (by simp [Live.endCommand_frame, Live.setSeq_keeps])
  · exact .inl rfl

/-- A sequence that goes on leaves the state, unless it is a shut-down that ends (03 R52 T12). -/
theorem Live.seqOn_rests (L : Live) : L.seqOn.mode.st = L.mode.st ∨ L.seqOn.mode.st = .standby := by
  have h34 : L.seq12.seq23.seq34.mode.st = L.mode.st := by
    simp [Live.seq34_keeps, Live.seq23_keeps, Live.seq12_keeps]
  have h45 : ∀ M : Live, M.seq45.mode.st = M.mode.st ∨ M.seq45.mode.st = .standby := by
    intro M
    unfold Live.seq45
    split
    · split
      · exact M.toStep5_rests
      · exact .inl rfl
    · exact .inl rfl
  rw [← h34]
  exact h45 _

theorem Live.seqSample_rests (L : Live) : L.seqSample.mode.st = L.mode.st ∨ L.seqSample.mode.st = .standby := by
  unfold Live.seqSample
  split
  · split
    · simpa [Live.toStep2_keeps] using L.toStep2.seqOn_rests
    · exact L.seqOn_rests
  · exact L.seqOn_rests

theorem Live.holdoffEnds_rests (L : Live) : L.holdoffEnds.mode.st = L.mode.st ∨ L.holdoffEnds.mode.st = .standby := by
  unfold Live.holdoffEnds
  extract_lets _ M
  have hM : M.mode = L.mode := by simp [M, Live.setPath_frame]
  split
  · simpa [Live.toStep2_keeps, hM] using M.toStep2.seqOn_rests
  · exact .inl (by rw [hM])

/-- A derating cause leads from RUN to DERATED (03 R52 T10). -/
theorem Live.derate_st (L : Live) : L.derate.mode.st = L.mode.st ∨ (L.mode.st = .run ∧ L.derate.mode.st = .derated) := by
  unfold Live.derate
  split
  · next h =>
    split
    · exact .inl rfl
    · rcases h with h | h
      · exact .inr ⟨h, by simp⟩
      · exact .inl (by simp [h])
  · exact .inl rfl

theorem Live.derate_follows {a : MState} {L : Live} (h : StaysOrTrips a L.mode.st) : Follows a L.derate.mode.st :=
  h.derates L.derate_st

theorem Live.seqOn_follows {a : MState} {L : Live} (hs : Follows a .standby) (h : Follows a L.mode.st) : Follows a L.seqOn.mode.st :=
  h.rests hs L.seqOn_rests

theorem Live.seqSample_follows {a : MState} {L : Live} (hs : Follows a .standby) (h : Follows a L.mode.st) :
    Follows a L.seqSample.mode.st :=
  h.rests hs L.seqSample_rests

theorem Live.toStep2_seqOn_follows {a : MState} {L : Live} (hs : Follows a .standby) (h : Follows a L.mode.st) :
    Follows a L.toStep2.seqOn.mode.st :=
  Live.seqOn_follows hs (by simpa [Live.toStep2_keeps] using h)

theorem Live.toStep3_seqOn_follows {a : MState} {L : Live} (hs : Follows a .standby) (h : Follows a L.mode.st) :
    Follows a L.toStep3.seqOn.mode.st :=
  Live.seqOn_follows hs (by simpa [Live.toStep3_keeps] using h)

theorem Live.holdoffEnds_follows {a : MState} {L : Live} (hs : Follows a .standby) (h : Follows a L.mode.st) :
    Follows a L.holdoffEnds.mode.st :=
  h.rests hs L.holdoffEnds_rests

@[simp] theorem Live.startPrecharge_st (L : Live) : L.startPrecharge.mode.st = .precharge := by
  simp [Live.startPrecharge, Live.convEv_frame, Live.closeLoop_frame, Live.setFast_frame]

/-! ### The rows that change the state otherwise than by a trip -/

theorem Live.cmdEnable_follows (L : Live) : Follows L.mode.st L.cmdEnable.mode.st := by
  unfold Live.cmdEnable Live.actEnable
  dsimp only
  split
  · exact .refl _
  · split
    · exact .refl _
    · split
      · exact .refl _
      · split
        · next h =>
          split
          · exact .refl _
          · rw [h]
            simp [Live.result, Follows, follows]
        · exact .refl _

theorem Live.cmdDisable_follows (L : Live) : Follows L.mode.st L.cmdDisable.mode.st := by
  unfold Live.cmdDisable
  split
  · next h =>
    have hrest : L.startShutdown.mode.st = L.mode.st ∨ L.startShutdown.mode.st = .standby := by
      unfold Live.startShutdown
      extract_lets
      split
      · simpa [Live.toStep2_keeps] using Live.seqOn_rests (Live.toStep2 _)
      · exact .inl rfl
    have hd := h.1
    simp only [Live.driving, Bool.or_eq_true, beq_iff_eq] at hd
    rcases hrest with e | e
    · simp [Live.result, e]
    · simp only [Live.result, Live.put_frame, e]
      rcases hd with (hd | hd) | hd <;> rw [hd] <;> rfl
  · split
    · simp [Live.cancelPending_keeps]
    · exact .refl _

theorem safe_of_safeDone {L : Live} (h : L.safeDone = true) : L.mode.st = .safe := by
  simp only [Live.safeDone, Bool.and_eq_true, beq_iff_eq] at h
  exact h.1

theorem Live.cmdAcknowledge_follows (L : Live) : Follows L.mode.st L.cmdAcknowledge.mode.st := by
  unfold Live.cmdAcknowledge
  split
  · next h =>
    rw [safe_of_safeDone h.1]
    simp [Live.result, Follows, follows]
  · exact .refl _

theorem Live.cmdEnterService_follows (L : Live) : Follows L.mode.st L.cmdEnterService.mode.st := by
  unfold Live.cmdEnterService
  split
  · next h =>
    have hs : L.mode.st = .standby ∨ L.mode.st = .safe := h.imp And.left safe_of_safeDone
    rcases hs with hs | hs <;> simp [Live.result, Live.setFast_frame, hs, Follows, follows]
  · exact .refl _

theorem Live.cmdLeaveService_follows (L : Live) : Follows L.mode.st L.cmdLeaveService.mode.st := by
  unfold Live.cmdLeaveService
  split
  · exact .refl _
  · next h =>
    have h : L.mode.st = .service := by simpa using h
    split
    · exact .refl _
    · simp [Live.result, Live.rejoinPair_frame, h, Follows, follows]

end Sys2Proof.Machine
end

section
/-! The rows that move the module state by a transition of their own. -/

namespace Sys2Proof.Machine

open Sys2Proof

/-! ### The rows of the supply, the start-up and the resets -/

@[simp] theorem Live.setAux_mode (L : Live) (input : Fin 2) (present : Bool) (mv : Nat) :
    (L.setAux input present mv).mode = L.mode := rfl

theorem auxInputPresent_follows (input : Fin 2) (mv : Nat) (s : State) : Ends Follows s (exec (.auxInputPresent input mv) s) := by
  change Ends Follows s (execAuxInputPresent input mv s)
  unfold execAuxInputPresent
  split
  · exact .next (.refl _)
  · refine .next ?_
    by_cases had : (if input = 0 then s.live.pins.aux1 else s.live.pins.aux2) = true
    · simp [had]
    · simp only [had, Live.setAux_mode, Bool.false_eq_true, if_false]
      split
      · next h => simp [h, Follows, follows]
      · next h => simp [h, Follows, follows]
      · simp [Live.sourceEvent_frame]

theorem auxInputAbsent_follows (input : Fin 2) (mv : Nat) (s : State) : Ends Follows s (exec (.auxInputAbsent input mv) s) := by
  change Ends Follows s (execAuxInputAbsent input mv s)
  unfold execAuxInputAbsent
  split
  · exact .next (.refl _)
  · refine .next (StaysOrTrips.follows ?_)
    simp [Live.sourceEvent_frame]

theorem allSuppliesLost_follows (s : State) : Ends Follows s (exec .allSuppliesLost s) := by
  change Ends Follows s (execAllSuppliesLost s)
  unfold execAllSuppliesLost
  dsimp only
  split
  · exact .next (by simp)
  · refine .next (StaysOrTrips.follows ?_)
    simp [Live.sourceEvent_frame, Live.openLoop_frame, Live.setFast_frame, Live.requestHandover_frame]

theorem wakePulse_follows (ms : Nat) (s : State) : Ends Follows s (exec (.wakePulse ms) s) := by
  change Ends Follows s (execWakePulse ms s)
  unfold execWakePulse
  split
  · next h => exact .next (by simp [h.1, Follows, follows])
  · exact .next (.refl _)

theorem holdupSealComplete_follows (s : State) : Ends Follows s (exec .holdupSealComplete s) := by
  change Ends Follows s (execHoldupSealComplete s)
  refine run_ends (.refl _) fun hp => ?_
  split
  · exact .refl _
  · exact follows_off hp

theorem watchdogExpiry_follows (s : State) : Ends Follows s (exec .watchdogExpiry s) := by
  change Ends Follows s (execWatchdogExpiry s)
  refine run_ends (.refl _) fun hp => ?_
  split
  · simpa using follows_boot hp
  · exact .refl _

theorem bootComplete_follows (s : State) : Ends Follows s (exec .bootComplete s) := by
  change Ends Follows s (execBootComplete s)
  refine run_ends (.refl _) fun _ => ?_
  split
  · exact .refl _
  · next h =>
    have hb : s.live.mode.st = .boot := by simpa using (not_or.mp h).1
    split
    · simp [hb, Live.setFast_frame, Live.setNmt_frame, Follows, follows]
    · simp [hb, Follows, follows]

theorem quarryEntryComplete_follows (s : State) : Ends Follows s (exec .quarryEntryComplete s) := by
  change Ends Follows s (execQuarryEntryComplete s)
  refine run_ends (.refl _) fun _ => ?_
  split
  · exact .refl _
  · next h =>
    have hs : s.live.mode.st = .standby ∨ s.live.mode.st = .service := by
      by_contra hn
      exact h (.inr (not_or.mp hn))
    rcases hs with hs | hs <;> rw [hs] <;> rfl

theorem cmdEnable_follows (sess : Sess) (s : State) : Ends Follows s (exec (.cmdEnable sess) s) :=
  command_ends (.refl _) fun _ M _ => M.cmdEnable_follows

theorem cmdDisable_follows (sess : Sess) (s : State) : Ends Follows s (exec (.cmdDisable sess) s) :=
  command_ends (.refl _) fun _ M _ => M.cmdDisable_follows

theorem cmdAcknowledge_follows (sess : Sess) (s : State) : Ends Follows s (exec (.cmdAcknowledge sess) s) :=
  command_ends (.refl _) fun _ M _ => M.cmdAcknowledge_follows

theorem cmdEnterService_follows (sess : Sess) (s : State) : Ends Follows s (exec (.cmdEnterService sess) s) :=
  command_ends (.refl _) fun _ M _ => M.cmdEnterService_follows

theorem cmdLeaveService_follows (sess : Sess) (s : State) : Ends Follows s (exec (.cmdLeaveService sess) s) :=
  command_ends (.refl _) fun _ M _ => M.cmdLeaveService_follows

theorem cmdReset_follows (sess : Sess) (s : State) : Ends Follows s (exec (.cmdReset sess) s) :=
  command_ends (.refl _) fun hp M hM => by
    simpa using follows_boot ((Live.powered_of_mode hM).trans hp)

theorem derateHoldExpiry_follows (s : State) : Ends Follows s (exec .derateHoldExpiry s) := by
  change Ends Follows s (execDerateHoldExpiry s)
  refine runIn_ends (.refl _) fun _ _ => ?_
  split
  · next h => simp [h.1, Follows, follows]
  · exact .refl _

/-! ### The rows of the conversion, the links and the safety functions that move the state -/

theorem softstartComplete_follows (s : State) : Ends Follows s (exec .softstartComplete s) := by
  change Ends Follows s (execSoftstartComplete s)
  refine runIn_ends (.refl _) fun _ _ => ?_
  split
  · split
    · next h =>
      have hs : s.live.mode.st = .precharge := by
        simp only [Live.inPhase, Bool.and_eq_true, beq_iff_eq] at h
        exact h.1.1
      simp [hs, Live.modeAtT9_frame, Follows, follows]
    · exact .refl _
  · exact .refl _

theorem Live.sampleOut_follows {a : MState} (snap L : Live) (c₀ : List Rat) (now : Bool) (hs : Follows a .standby)
    (h : StaysOrTrips a L.mode.st) : Follows a (Live.sampleOut snap L c₀ now).mode.st := by
  have hcap : StaysOrTrips a (L.capture now).mode.st := by simpa [Live.capture_frame] using h
  exact Live.seqSample_follows hs (Live.derate_follows hcap)

theorem Live.sample_follows {a : MState} (snap L : Live) (x : SampleIn) (hs : Follows a .standby) (h : StaysOrTrips a L.mode.st) :
    Follows a (Live.sample snap L x).mode.st := by
  unfold Live.sample
  refine Live.sampleOut_follows _ _ _ _ hs ?_
  have hramp : StaysOrTrips a (L.sampleIn x).sampleRamp.mode.st := by
    rw [(L.sampleIn x).sampleRamp_frame.1]
    exact Live.sampleIn_staysOrTrips x h
  have hengine := Live.sampleEngine_staysOrTrips x hramp
  rw [mode_ite]
  split
  · rw [Live.releaseOld_frame _ |>.1]
    exact hengine
  · exact Live.release_staysOrTrips hengine

theorem controlSample_follows (x : SampleIn) (s : State) : Ends Follows s (exec (.controlSample x) s) := by
  change Ends Follows s (execControlSample x s)
  refine run_ends (.refl _) fun hp => ?_
  split
  · exact StaysOrTrips.follows (by simp)
  · next h =>
    split
    · exact StaysOrTrips.follows (by simp [Live.brkIsland_frame])
    · have hb : s.live.mode.st ≠ .boot := by
        intro hb
        simp [Live.fromStandby, hb, MState.code] at h
      exact Live.sample_follows _ _ _ (follows_standby hp hb) (.refl _)

theorem Live.goodUplink_follows {a : MState} (L : Live) (seg : Nat) (frame : Bytes) (t4 : Nat) (hs : Follows a .standby)
    (h : StaysOrTrips a L.mode.st) : Follows a (L.goodUplink seg frame t4).mode.st := by
  unfold Live.goodUplink
  extract_lets old M N d P Q R T
  have hM : StaysOrTrips a M.mode.st := by simpa [M, Live.storeUplink_frame, Live.nodeMargin_frame] using h
  have hN : StaysOrTrips a N.mode.st := by simp [N, hM, Live.modSeg_frame]
  have hd : StaysOrTrips a d.1.mode.st := by simpa [d, Live.takeData_frame] using hN
  have hP : StaysOrTrips a P.mode.st := by simp [P, hd, Live.setDone_frame]
  have hQ : StaysOrTrips a Q.mode.st := by simp [Q, hP]
  have hR : StaysOrTrips a R.mode.st := by simpa [R, Live.linkEvents_frame, Live.bypassSeen_frame, Live.linkFrom_frame] using hQ
  have hT : StaysOrTrips a T.mode.st := by simpa [T, Live.bringOn_frame, Live.arrivalUpdate_frame] using hR
  exact Live.seqOn_follows hs (Live.tokenReports_staysOrTrips false hT).follows

theorem uplinkFrameRx_follows (seg : Fin 16) (frame : Bytes) (lineOk : Bool) (t4 : Nat) (s : State) :
    Ends Follows s (exec (.uplinkFrameRx seg frame lineOk t4) s) := by
  change Ends Follows s (execUplinkFrameRx seg frame lineOk t4 s)
  refine runIn_ends (.refl _) fun hp hb => ?_
  split
  · exact .refl _
  · split
    · exact Live.goodUplink_follows _ _ _ _ (follows_standby hp hb) (.refl _)
    · simp [Live.badUplink_frame]

theorem seqStep1End_follows (s : State) : Ends Follows s (exec .seqStep1End s) := by
  change Ends Follows s (execSeqStep1End s)
  refine runIn_ends (.refl _) fun hp hb => ?_
  have hs := follows_standby hp hb
  split
  · split
    · exact .refl _
    · split
      · exact Live.toStep2_seqOn_follows hs (.refl _)
      · split
        · split
          · exact Live.toStep2_seqOn_follows hs (by simp)
          · exact .refl _
        · exact Live.toStep2_seqOn_follows hs (by simp)
  · exact .refl _

theorem lintelOpenTimeout_follows (s : State) : Ends Follows s (exec .lintelOpenTimeout s) := by
  change Ends Follows s (execLintelOpenTimeout s)
  refine runIn_ends (.refl _) fun hp hb => ?_
  have hs := follows_standby hp hb
  split
  · split
    · exact Live.toStep3_seqOn_follows hs (by simp)
    · exact Live.toStep3_seqOn_follows hs (by simp)
    · exact .refl _
  · exact .refl _

theorem classSHoldoffExpiry_follows (s : State) : Ends Follows s (exec .classSHoldoffExpiry s) := by
  change Ends Follows s (execClassSHoldoffExpiry s)
  refine runIn_ends (.refl _) fun hp hb => ?_
  split
  · exact Live.holdoffEnds_follows (follows_standby hp hb) (by simp)
  · exact .refl _

theorem feedbackInputChange_follows (input : Fin 3) (showsOpen : Bool) (s : State) :
    Ends Follows s (exec (.feedbackInputChange input showsOpen) s) := by
  change Ends Follows s (execFeedbackInputChange input showsOpen s)
  refine runIn_ends (.refl _) fun hp hb => ?_
  have hs := follows_standby hp hb
  extract_lets _ M N _ P Q
  have hN : N.mode = s.live.mode := rfl
  split
  · have hP : P.mode = s.live.mode := by simp [P, mode_ite, hN]
    have hQ : Follows s.live.mode.st Q.mode.st := by
      unfold Q
      split
      · exact Live.holdoffEnds_follows hs (by simp [hP])
      · simp [hP]
    exact Live.seqOn_follows hs hQ
  · have hon : Follows s.live.mode.st N.seqOn.mode.st := Live.seqOn_follows hs (by simp [hN])
    simpa [Live.insContactors_frame] using hon

theorem switchDiscrepancyTimeout_follows (s : State) : Ends Follows s (exec .switchDiscrepancyTimeout s) := by
  change Ends Follows s (execSwitchDiscrepancyTimeout s)
  refine runIn_ends (.refl _) fun hp hb => ?_
  have hstep : ∀ M : Live, StaysOrTrips s.live.mode.st M.mode.st → Follows s.live.mode.st M.toStep3.seqOn.mode.st := fun _ hM =>
    Live.toStep3_seqOn_follows (follows_standby hp hb) hM.follows
  dsimp only
  split
  · split
    · split
      · exact hstep _ (by simp)
      · exact StaysOrTrips.follows (by simp [Live.openLoop_frame])
    · split
      · exact .refl _
      · split
        · exact hstep _ (by simp)
        · exact StaysOrTrips.follows (by simp)
  · exact StaysOrTrips.follows (by split <;> simp)

@[simp] theorem Live.thermModule_mode (L : Live) (vals : List (Option Int)) : (L.thermModule vals).mode = L.mode := by
  simp [Live.thermModule]

/-- What a thermal evaluation does to the block once its 100 ms are reached, up to the derating it may end with. -/
theorem Live.thermal_staysOrTrips {a : MState} {L : Live} (sensors : List (Option Int)) (was : Bool) (h : StaysOrTrips a L.mode.st) :
    StaysOrTrips a
      ((L.thermNodes.thermModule sensors).overTemp.thermEffects.thermFactor.chargeRefusal.throttleHandover
        was).moduleShutdown.mode.st := by
  have hsens : StaysOrTrips a (L.thermNodes.thermModule sensors).mode.st := by simpa [Live.thermNodes_frame] using h
  have heff : StaysOrTrips a (L.thermNodes.thermModule sensors).overTemp.thermEffects.mode.st :=
    Live.thermEffects_staysOrTrips (Live.overTemp_staysOrTrips hsens)
  refine Live.moduleShutdown_staysOrTrips ?_
  simpa [Live.throttleHandover_frame, Live.chargeRefusal_frame, Live.thermFactor_frame] using heff

theorem Live.mode_withTherm (L : Live) (t : Therm) : ({ L with th := t } : Live).mode = L.mode := rfl

theorem thermalEvaluation_follows (sensors : List (Option Int)) (s : State) :
    Ends Follows s (exec (.thermalEvaluation sensors) s) := by
  change Ends Follows s (execThermalEvaluation sensors s)
  refine runIn_ends (.refl _) fun _ _ => ?_
  extract_lets M _ N was
  have hM : M.mode = s.live.mode := by simp [M]
  have hN : N.mode = s.live.mode := (M.mode_withTherm _).trans hM
  exact Live.derate_follows (Live.thermal_staysOrTrips sensors was (.inl (congrArg Mode.st hN)))

/-! ### The rows of the update and of the debug port that reset the module -/

theorem Live.activateSlot_st (L : Live) (slot : Nat) (probation atOnce : Bool) :
    (L.activateSlot slot probation atOnce).mode.st = .boot := by
  simp [Live.activateSlot]

theorem updateCmdActivate_follows (sess : Sess) (s : State) : Ends Follows s (exec (.updateCmdActivate sess) s) := by
  refine command_ends (.refl _) fun hp M hM => ?_
  have hboot : Follows M.mode.st .boot := follows_boot ((Live.powered_of_mode hM).trans hp)
  unfold Live.cmdActivateSet
  (repeat' split) <;> simp [Live.activateSlot_st, hboot, mode_ite, apply_ite (Follows _)]

theorem probationLimit_follows (s : State) : Ends Follows s (exec .probationLimit s) := by
  change Ends Follows s (execProbationLimit s)
  refine run_ends (.refl _) fun hp => ?_
  split
  · unfold Live.probationOver
    dsimp only
    split
    · exact StaysOrTrips.follows (by simp [Live.requestHandover_frame])
    · simpa using follows_boot hp
  · exact .refl _

theorem islandRun_follows (tag : Byte) (s : State) : Ends Follows s (exec (.islandRun tag) s) :=
  inSession_ends (.refl _) fun hp M hM => by
    simpa using follows_boot ((Live.powered_of_mode hM).trans hp)

end Sys2Proof.Machine
end

section
/-! Rows that loop over segments, pairs, buses or objects: at most a trip. -/

namespace Sys2Proof.Machine

open Sys2Proof

/-! ### Rows that loop over segments, pairs, buses or objects, or that answer in a frame of their own: at most a trip -/

theorem foldl_staysOrTrips {α : Type} {a : MState} {f : Live → α → Live}
    (h : ∀ M x, StaysOrTrips a M.mode.st → StaysOrTrips a (f M x).mode.st) (l : List α) {L : Live} (hL : StaysOrTrips a L.mode.st) :
    StaysOrTrips a (l.foldl f L).mode.st :=
  foldl_inv (fun M => StaysOrTrips a M.mode.st) f h l L hL

@[simp] theorem Live.holdupCheck_mode (L : Live) (uf : Nat) : (L.holdupCheck uf).mode = L.mode := by simp [Live.holdupCheck]

@[simp] theorem Live.tallyRestore_mode (L : Live) (ok : Bool) : (L.tallyRestore ok).mode = L.mode := by simp [Live.tallyRestore]

@[simp] theorem Live.minorityReports_mode (L : Live) : L.minorityReports.mode = L.mode := by simp [Live.minorityReports]

@[simp] theorem Live.toHalf_mode (L : Live) : L.toHalf.mode = L.mode := by simp [Live.toHalf]

@[simp] theorem Live.toPulse_mode (L : Live) (t2 : Bool) : (L.toPulse t2).mode = L.mode := by simp [Live.toPulse]

theorem Live.mode_withCom (L : Live) (c : Com) : ({ L with com := c } : Live).mode = L.mode := rfl

theorem Live.tripBoth_staysOrTrips {a : MState} {L : Live} (n : Nat) (h : StaysOrTrips a L.mode.st) :
    StaysOrTrips a ((L.trip n 1 1 false false).trip n 2 2 false false).mode.st :=
  Live.trip_staysOrTrips _ _ _ _ _ (Live.trip_staysOrTrips _ _ _ _ _ h)

theorem boot_staysOrTrips (r : BootReport) (s : State) : Ends StaysOrTrips s (exec (.boot r) s) := by
  change Ends StaysOrTrips s (execBoot r s)
  refine run_ends (.refl _) fun _ => ?_
  split
  · exact .refl _
  · extract_lets A B C D E F _
    have hA : StaysOrTrips s.live.mode.st A.mode.st := by
      simp [A, Live.bootImage_frame]
    have hB : StaysOrTrips s.live.mode.st B.mode.st := by
      simpa [B, Live.checkCopies_frame, Live.bootRestore_frame] using Live.bootReplay_staysOrTrips hA
    have hF : F.mode = B.mode := by
      simp [F, E, D, C, Live.estRestart_frame, Live.logicRestart_frame, Live.setCan_frame]
    change StaysOrTrips s.live.mode.st F.mode.st
    rwa [hF]

theorem superframeStart_staysOrTrips (s : State) : Ends StaysOrTrips s (exec .superframeStart s) := by
  change Ends StaysOrTrips s (execSuperframeStart s)
  refine runIn_ends (.refl _) fun _ _ => ?_
  simp [Live.segFrame_frame]

theorem uplinkWordsLostTimeout_staysOrTrips (seg : Fin 16) (s : State) : Ends StaysOrTrips s (exec (.uplinkWordsLostTimeout seg) s) := by
  change Ends StaysOrTrips s (execUplinkWordsLostTimeout seg s)
  refine runIn_ends (.refl _) fun _ _ => ?_
  dsimp only
  split
  · exact .refl _
  · exact Live.tripBoth_staysOrTrips 2 (Live.tripBoth_staysOrTrips 1 (by simp))

theorem crossChannelExchange_staysOrTrips (valueDiff : Bool) (s : State) :
    Ends StaysOrTrips s (exec (.crossChannelExchange valueDiff) s) := by
  change Ends StaysOrTrips s (execCrossChannelExchange valueDiff s)
  refine runIn_ends (.refl _) fun _ _ => ?_
  have hpairs := foldl_staysOrTrips (f := Live.exchangePair) (fun M i hM => M.exchangePair_staysOrTrips i hM) (List.range 8)
    (StaysOrTrips.refl s.live.mode.st)
  simpa [Live.relWatch_frame, Live.closeIfDue_frame, Live.settleX_frame] using hpairs

theorem channelBSample_staysOrTrips (fluxgate : Rat) (beat : Option Nat) (fault : Bool) (s : State) :
    Ends StaysOrTrips s (exec (.channelBSample fluxgate beat fault) s) := by
  change Ends StaysOrTrips s (execChannelBSample fluxgate beat fault s)
  refine runIn_ends (.refl _) fun _ _ => ?_
  split
  · exact .refl _
  · extract_lets _ M isOver N P
    have hN : StaysOrTrips s.live.mode.st N.mode.st := by simp [N, M]
    have hP : StaysOrTrips s.live.mode.st P.mode.st := Live.heartbeatWord_staysOrTrips beat hN
    simp [hP]

theorem inputDiscrepancyTimeout_staysOrTrips (pair : Fin 8) (s : State) :
    Ends StaysOrTrips s (exec (.inputDiscrepancyTimeout pair) s) := by
  change Ends StaysOrTrips s (execInputDiscrepancyTimeout pair s)
  refine runIn_ends (.refl _) fun _ _ => ?_
  dsimp only
  split
  · split
    · exact .refl _
    · simp [Live.modPair_frame]
  · exact .refl _

theorem testPulseStart_staysOrTrips (t2 : Bool) (lowA lowB : Nat) (fbLowP fbLowN : Bool) (s : State) :
    Ends StaysOrTrips s (exec (.testPulseStart t2 lowA lowB fbLowP fbLowN) s) := by
  change Ends StaysOrTrips s (execTestPulseStart t2 lowA lowB fbLowP fbLowN s)
  refine runIn_ends (.refl _) fun _ _ => ?_
  extract_lets M N
  have hM : StaysOrTrips s.live.mode.st M.mode.st := by simp [M]
  have hN : StaysOrTrips s.live.mode.st N.mode.st := by
    unfold N
    refine foldl_staysOrTrips (fun K i hK => ?_) (List.range 8) hM
    exact Live.pulseInput_staysOrTrips _ _ _ _ (Live.pulseInput_staysOrTrips _ _ _ _ hK)
  exact Live.pulseFeedback_staysOrTrips _ _ _ (Live.pulseFeedback_staysOrTrips _ _ _ hN)

theorem insulationHalfPeriod_staysOrTrips (estA estB : Option Nat) (nF : Nat) (s : State) :
    Ends StaysOrTrips s (exec (.insulationHalfPeriod estA estB nF) s) := by
  change Ends StaysOrTrips s (execInsulationHalfPeriod estA estB nF s)
  refine runIn_ends (.refl _) fun _ _ => ?_
  dsimp only
  (repeat' split) <;> simp [Live.insRelay_frame, Live.insReport_frame, Live.insOwn_frame]

theorem srdoRx_staysOrTrips (bus : Fin 2) (k : Fin 8) (inv : Bool) (data : Bytes) (s : State) :
    Ends StaysOrTrips s (exec (.srdoRx bus k inv data) s) := by
  change Ends StaysOrTrips s (execSrdoRx bus k inv data s)
  refine runIn_ends (.refl _) fun _ _ => ?_
  dsimp only
  (repeat' split) <;> simp [Live.modCan_frame]

theorem Live.pdoWrite_mode (m : List (Nat × Nat)) (data : Bytes) (L : Live) : (L.pdoWrite m data).mode = L.mode := by
  induction m generalizing L data with
  | nil => rfl
  | cons x rest ih =>
    unfold Live.pdoWrite
    dsimp only
    rw [ih, mode_ite]
    split
    · simp [Live.forward_frame]
    · split <;> simp [Live.forwardOn_frame]

theorem rpdoRx_staysOrTrips (bus : Fin 2) (n : Fin 4) (data : Bytes) (s : State) :
    Ends StaysOrTrips s (exec (.rpdoRx bus n data) s) := by
  change Ends StaysOrTrips s (execRpdoRx bus n data s)
  refine runIn_ends (.refl _) fun _ _ => ?_
  dsimp only
  split
  · exact .refl _
  · simp [Live.pdoWrite_mode]

theorem heartbeatTx_staysOrTrips (s : State) : Ends StaysOrTrips s (exec .heartbeatTx s) := by
  change Ends StaysOrTrips s (execHeartbeatTx s)
  refine runIn_ends (.refl _) fun _ _ => ?_
  split
  · exact .refl _
  · extract_lets M _ N f
    have hM : M.mode = s.live.mode := by simp [M]
    have hN : N.mode = s.live.mode := (M.mode_withCom _).trans hM
    simp [Live.enqueue_frame, hN]

theorem busMonitorCheckEnd_staysOrTrips (s : State) : Ends StaysOrTrips s (exec .busMonitorCheckEnd s) := by
  change Ends StaysOrTrips s (execBusMonitorCheckEnd s)
  refine runIn_ends (.refl _) fun _ _ => ?_
  refine foldl_staysOrTrips (fun M b hM => ?_) _ ?_
  · split
    · simpa [Live.modCan_frame] using hM
    · exact hM
  · split <;> simp

theorem withheldRecoveryStart_staysOrTrips (bus : Fin 2) (s : State) :
    Ends StaysOrTrips s (exec (.withheldRecoveryStart bus) s) := by
  change Ends StaysOrTrips s (execWithheldRecoveryStart bus s)
  refine runIn_ends (.refl _) fun _ _ => ?_
  dsimp only
  split
  · exact .refl _
  · split <;> simp [Live.startRecovery_frame]

end Sys2Proof.Machine
end

section
/-! Rows that answer a session, a connection or the port, and the rows of a node. -/

namespace Sys2Proof.Machine

open Sys2Proof

/-! ### Requests whose effect is decided by a check of its own -/

/-- A command that is refused leaves everything; else it leaves what its effect leaves. -/
theorem Live.orAbort_mode {L : Live} {r : Except Abort Live} (h : ∀ M, r = .ok M → M.mode = L.mode) : (L.orAbort r).1.mode = L.mode := by
  cases r with
  | error e => rfl
  | ok M => exact h M rfl

theorem Live.cmdClear_mode {L M : Live} {sess : Sess} (h : L.cmdClear sess = .ok M) : M.mode = L.mode := by
  unfold Live.cmdClear at h
  split at h
  · cases h
  · injection h with h
    rw [← h, (Live.systemRecord_frame _ _ _ _).1]

theorem Live.cmdDiscardEdit_mode {L M : Live} {sess : Sess} (h : L.cmdDiscardEdit sess = .ok M) : M.mode = L.mode := by
  unfold Live.cmdDiscardEdit at h
  split at h
  · cases h
  · split at h
    · cases h
    · injection h with h
      rw [← h]

theorem Live.cmdSetForce_mode {L M : Live} {sess : Sess} {v : Bytes} (h : L.cmdSetForce sess v = .ok M) : M.mode = L.mode := by
  unfold Live.cmdSetForce at h
  split at h
  · cases h
  · split at h
    · cases h
    · split at h
      · cases h
      · dsimp only at h
        split at h
        · cases h
        · injection h with h
          simp [← h, Live.forceEv_frame, Live.modLgc_frame]

theorem Live.cmdReleaseForce_mode {L M : Live} {sess : Sess} {n : Nat} (h : L.cmdReleaseForce sess n = .ok M) : M.mode = L.mode := by
  unfold Live.cmdReleaseForce at h
  split at h
  · cases h
  · split at h
    · cases h
    · injection h with h
      simp [← h, Live.forceEv_frame, Live.modLgc_frame]

theorem Live.cmdRelease_mode {L M : Live} {sess : Sess} (h : L.cmdRelease sess = .ok M) : M.mode = L.mode := by
  unfold Live.cmdRelease at h
  split at h
  · cases h
  · split at h
    · injection h with h
      simp [← h, Live.releaseFreeze_frame]
    · cases h

theorem Live.cmdTime_mode {L M : Live} {sess : Sess} {t : Nat} (h : L.cmdTime sess t = .ok M) : M.mode = L.mode := by
  unfold Live.cmdTime at h
  split at h
  · cases h
  · split at h
    · cases h
    · injection h with h
      simp [← h, Live.mgrEv_frame]

theorem Live.editWrite_mode {L M : Live} {sess : Sess} {k : Nat} {v : Int} (h : L.editWrite sess k v = .ok M) : M.mode = L.mode := by
  unfold Live.editWrite at h
  split at h
  · split at h
    · cases h
    · injection h with h
      rw [← h]
  · injection h with h
    rw [← h]

/-- A command whose effect leaves the state machine alone. -/
theorem command_staysOrTrips {s : State} {sess : Sess} {level k : Nat} {v : Bytes} {f : Live → Live × Abort}
    (h : ∀ M : Live, (f M).1.mode = M.mode) : Ends StaysOrTrips s (run s (fun L => L.command sess level k v f)) :=
  command_ends (.refl _) fun _ M _ => .inl (congrArg Mode.st (h M))

theorem cmdEnterQuarry_staysOrTrips (sess : Sess) (s : State) : Ends StaysOrTrips s (exec (.cmdEnterQuarry sess) s) := by
  refine command_ends (.refl _) fun _ M _ => .inl ?_
  change M.cmdEnterQuarry.mode.st = M.mode.st
  simp [Live.cmdEnterQuarry_keeps]

theorem cmdColdRestartLogic_staysOrTrips (sess : Sess) (s : State) : Ends StaysOrTrips s (exec (.cmdColdRestartLogic sess) s) :=
  command_staysOrTrips fun M => M.cmdColdLogic_frame.1

theorem cmdColdRestartEstimator_staysOrTrips (sess : Sess) (s : State) :
    Ends StaysOrTrips s (exec (.cmdColdRestartEstimator sess) s) :=
  command_staysOrTrips fun M => M.cmdColdEst_frame.1

theorem recorderCmdClear_staysOrTrips (sess : Sess) (s : State) : Ends StaysOrTrips s (exec (.recorderCmdClear sess) s) :=
  command_staysOrTrips fun _ => Live.orAbort_mode fun _ => Live.cmdClear_mode

theorem recorderCmdRelease_staysOrTrips (sess : Sess) (s : State) : Ends StaysOrTrips s (exec (.recorderCmdRelease sess) s) :=
  command_staysOrTrips fun _ => Live.orAbort_mode fun _ => Live.cmdRelease_mode

theorem safetyCmdDiscardEdit_staysOrTrips (sess : Sess) (s : State) : Ends StaysOrTrips s (exec (.safetyCmdDiscardEdit sess) s) :=
  command_staysOrTrips fun _ => Live.orAbort_mode fun _ => Live.cmdDiscardEdit_mode

theorem setForce_staysOrTrips (sess : Sess) (entry : Bytes) (s : State) : Ends StaysOrTrips s (exec (.setForce sess entry) s) :=
  command_staysOrTrips fun _ => Live.orAbort_mode fun _ => Live.cmdSetForce_mode

theorem releaseForce_staysOrTrips (sess : Sess) (entry : Nat) (s : State) : Ends StaysOrTrips s (exec (.releaseForce sess entry) s) :=
  command_staysOrTrips fun _ => Live.orAbort_mode fun _ => Live.cmdReleaseForce_mode

theorem manualModuleTime_staysOrTrips (sess : Sess) (time : Nat) (s : State) :
    Ends StaysOrTrips s (exec (.manualModuleTime sess time) s) := by
  change Ends StaysOrTrips s (execManualModuleTime sess time s)
  refine run_ends (.refl _) fun _ => .inl ?_
  split
  · unfold Live.asked
    split
    · rw [Live.refuseArrival_mode, (Live.touch_frame _ _).1]
    · rfl
  · rcases s.live.command_mode sess 3 0x50002A (leBytes 8 time) (fun L => L.orAbort (L.cmdTime sess time)) with h | ⟨M, hM, h⟩
    · rw [h]
    · rw [h, Live.orAbort_mode fun _ => Live.cmdTime_mode, hM]

theorem safetyParamWrite_staysOrTrips (sess : Sess) (index sub : Nat) (value : Bytes) (s : State) :
    Ends StaysOrTrips s (exec (.safetyParamWrite sess index sub value) s) := by
  change Ends StaysOrTrips s (execSafetyParamWrite sess index sub value s)
  refine asWrite_ends (.refl _) fun _ M _ => .inl ?_
  split
  · rw [Live.orAbort_mode fun _ => Live.editWrite_mode]
  · rfl

theorem recordsRead_staysOrTrips (sess : Sess) (s : State) : Ends StaysOrTrips s (exec (.recordsRead sess) s) := by
  change Ends StaysOrTrips s (execRecordsRead sess s)
  refine run_ends (.refl _) fun _ => .inl ?_
  unfold Live.asked
  split
  · rw [(Live.answer_frame _ _ _ _).1]
    simp [Live.readRecord_frame, Live.touch_frame]
  · rfl

/-! ### Modbus, reads, the port and the scan -/

/-- What a Modbus request leaves, if what it asks for leaves the state machine alone. -/
theorem Live.onConn_mode {L : Live} (conn : Nat) {f : MbConn → Live → Live} (h : ∀ c M, (f c M).mode = M.mode) :
    (L.onConn conn f).mode = L.mode := by
  unfold Live.onConn
  split
  · rfl
  · rw [h, (Live.touch_frame _ _).1]

theorem Live.mbCall_mode {L : Live} (conn k fc start n : Nat) {f : Live → Live} (h : ∀ M, (f M).mode = M.mode) :
    (L.mbCall conn k fc start n f).mode = L.mode := by
  simp [Live.mbCall, h]

theorem Live.mbObject_mode (L : Live) (conn fc start n k : Nat) (v : Bytes) : (L.mbObject conn fc start n k v).mode = L.mode :=
  Live.mbCall_mode _ _ _ _ _ fun M => (M.write_frame _ _ _ _).1

theorem Live.mbWrite_mode (L : Live) (c : MbConn) (conn fc start n : Nat) (vals : List Nat) :
    (L.mbWrite c conn fc start n vals).mode = L.mode := by
  have hset : ∀ (f : MbConn → MbConn) (b : Bytes), ((L.modConn conn f).mbSend conn b).mode = L.mode := fun f b => by
    simp [Live.mbSend_frame]
  have hrefuse : ∀ (k : Nat) (e : Abort), (L.mbCall conn k fc start n (fun L => L.refuseArrival (mbSess conn) e)).mode = L.mode :=
    fun k e => Live.mbCall_mode _ _ _ _ _ fun M => M.refuseArrival_mode _ _
  unfold Live.mbWrite
  dsimp only
  (repeat' split) <;> simp only [hset, hrefuse, Live.mbObject_mode, Live.mbFail_frame]

/-- A Modbus request that leaves the state machine alone. -/
theorem onConn_staysOrTrips {s : State} {conn : Nat} {f : MbConn → Live → Live} (h : ∀ c M, (f c M).mode = M.mode) :
    Ends StaysOrTrips s (runIn 4 s (fun L => L.onConn conn f)) :=
  runIn_ends (.refl _) fun _ _ => .inl (congrArg Mode.st (Live.onConn_mode conn h))

theorem readHoldingRegisters_staysOrTrips (conn : Fin 8) (start count : Nat) (s : State) :
    Ends StaysOrTrips s (exec (.readHoldingRegisters conn start count) s) := by
  refine onConn_staysOrTrips (conn := conn.val) fun c M => ?_
  dsimp only
  split
  · simp [Live.mbFail_frame]
  · split
    · exact Live.mbCall_mode _ _ _ _ _ fun N => (Live.read_frame _ N _ _ _).1
    · split <;> simp [Live.mbFail_frame, Live.mbSend_frame]

theorem readInputRegisters_staysOrTrips (conn : Fin 8) (start count : Nat) (s : State) :
    Ends StaysOrTrips s (exec (.readInputRegisters conn start count) s) := by
  refine onConn_staysOrTrips (conn := conn.val) fun c M => ?_
  split
  · simp [Live.mbFail_frame]
  · split <;> simp [Live.mbFail_frame, Live.mbSend_frame]

theorem writeSingleRegister_staysOrTrips (conn : Fin 8) (reg value : Nat) (s : State) :
    Ends StaysOrTrips s (exec (.writeSingleRegister conn reg value) s) :=
  onConn_staysOrTrips (conn := conn.val) fun c M => M.mbWrite_mode c ..

theorem writeMultipleRegisters_staysOrTrips (conn : Fin 8) (start : Nat) (values : List Nat) (s : State) :
    Ends StaysOrTrips s (exec (.writeMultipleRegisters conn start values) s) := by
  refine onConn_staysOrTrips (conn := conn.val) fun c M => ?_
  split
  · simp [Live.mbFail_frame]
  · exact M.mbWrite_mode c ..

theorem readDeviceIdentification_staysOrTrips (conn : Fin 8) (s : State) :
    Ends StaysOrTrips s (exec (.readDeviceIdentification conn) s) :=
  onConn_staysOrTrips (conn := conn.val) fun _ M => (M.mbSend_frame ..).1

theorem modbusUnsupportedFunction_staysOrTrips (conn : Fin 8) (code : Nat) (s : State) :
    Ends StaysOrTrips s (exec (.modbusUnsupportedFunction conn code) s) :=
  onConn_staysOrTrips (conn := conn.val) fun _ M => (M.mbFail_frame ..).1

theorem Live.afterRun_mode (x : Live × Option Nat) : (Live.afterRun x).mode = x.1.mode := by
  unfold Live.afterRun
  split
  · exact (Live.brkTaken_frame _ _).1
  · split
    · exact (Live.finishScan_frame _).1
    · rfl

theorem Live.logicScan_mode (snap L : Live) : (Live.logicScan snap L).mode = L.mode := by
  unfold Live.logicScan
  split
  · rfl
  · split
    · simp [Live.modLgc_frame, Live.prepareScan_frame]
    · dsimp only
      split
      · simp [Live.modLgc_frame, Live.prepareScan_frame, Live.haltTaken_frame]
      · rw [(Live.modLgc_frame _ _).1, Live.afterRun_mode, (runLogic_frame _ _ _ _).1, (Live.prepareScan_frame _ _).1]

theorem logicScan_staysOrTrips (s : State) : Ends StaysOrTrips s (exec .logicScan s) := by
  change Ends StaysOrTrips s (execLogicScan s)
  exact runIn_ends (.refl _) fun _ _ => .inl (congrArg Mode.st (Live.logicScan_mode _ _))

theorem Live.bulkSection_mode (L : Live) : L.bulkSection.1.mode = L.mode := by
  unfold Live.bulkSection
  split <;> rfl

theorem mirrorFrameSend_staysOrTrips (s : State) : Ends StaysOrTrips s (exec .mirrorFrameSend s) := by
  change Ends StaysOrTrips s (execMirrorFrameSend s)
  refine run_ends (.refl _) fun _ => ?_
  split
  · exact .refl _
  · simp [Live.bulkSection_mode, Live.sayIdentity_frame]

theorem breakClear_staysOrTrips (tag : Byte) (slot : Nat) (s : State) : Ends StaysOrTrips s (exec (.breakClear tag slot) s) := by
  change Ends StaysOrTrips s (execBreakClear tag slot s)
  refine portRun_ends (.refl _) fun _ => .inl ?_
  dsimp only
  rcases s.live.inSession_mode tag _ _ with h | ⟨M, hM, h⟩
  · exact congrArg Mode.st h
  · rw [h, ← hM]
    (repeat' split) <;> simp [Live.respond_frame, Live.setBrk_frame, Live.commitLater_frame]

theorem odRead_staysOrTrips (sess : Sess) (index sub : Nat) (segmented : Bool) (s : State) :
    Ends StaysOrTrips s (exec (.odRead sess index sub segmented) s) := by
  change Ends StaysOrTrips s (execOdRead sess index sub segmented s)
  unfold execOdRead
  split
  · exact .next (.refl _)
  · exact .next (by simp [Live.read_frame, Live.setReading_frame, Live.touch_frame])

theorem captureDataRead_staysOrTrips (sess : Sess) (s : State) : Ends StaysOrTrips s (exec (.captureDataRead sess) s) :=
  odRead_staysOrTrips sess 0x3201 0x10 true s

theorem segmentedReadTimeout_staysOrTrips (sess : Sess) (s : State) : Ends StaysOrTrips s (exec (.segmentedReadTimeout sess) s) := by
  change Ends StaysOrTrips s (execSegmentedReadTimeout sess s)
  unfold execSegmentedReadTimeout
  split
  · exact .next (.refl _)
  · split
    · exact .next (.refl _)
    · exact .next (by simp [Live.setReading_frame, Live.refuse_frame])

/-- A row of a node leaves the module's state. -/
theorem OnlyNodes.ends {s : State} {o : Host.Outcome State Fault Refusal} (h : OnlyNodes s o) : Ends StaysOrTrips s o :=
  fun t ht => .inl (congrArg (·.live.mode.st) (h t ht))

end Sys2Proof.Machine
end

section
/-! The end of the self-test. -/

namespace Sys2Proof.Machine

open Sys2Proof

/-! ### SELFTEST_COMPLETE: STANDBY, and with a comparator latch set the trip on the same instant (10 R255, R259) -/

/-- The end of a self-test that passes: STANDBY, or SAFE at once where the comparator latch is set. -/
theorem Live.selftestPasses_st (L : Live) :
    ((L.enterStandby 7).rejoinPair.firstToken.latchTrips).mode.st = .standby ∨
      (((L.enterStandby 7).rejoinPair.firstToken.latchTrips).mode.st = .safe ∧ L.saf.fastLatch = true) := by
  have hst : ((L.enterStandby 7).rejoinPair.firstToken).mode.st = .standby := by
    simp [Live.firstToken_frame, Live.rejoinPair_frame]
  have hlatch : ((L.enterStandby 7).rejoinPair.firstToken).saf.fastLatch = L.saf.fastLatch := by
    simp [Live.firstToken_frame, Live.rejoinPair_frame, Live.enterStandby_keeps]
  unfold Live.latchTrips
  split
  · next h =>
    have htrips : StaysOrTrips .standby
        (((L.enterStandby 7).rejoinPair.firstToken.trip 4 1 1 true false).trip 4 2 2 true false).mode.st :=
      Live.trip_staysOrTrips _ _ _ _ _ (Live.trip_staysOrTrips _ _ _ _ _ (.inl hst))
    rcases htrips with e | ⟨-, e⟩
    · exact .inl e
    · exact .inr ⟨e, hlatch ▸ h⟩
  · exact .inl hst

theorem selftestComplete_follows {failed : Nat} {s t : State} (ht : exec (.selftestComplete failed) s = .next t) :
    Follows s.live.mode.st t.live.mode.st ∨ (s.live.mode.st = .selftest ∧ t.live.mode.st = .safe ∧ s.live.saf.fastLatch = true) := by
  change execSelftestComplete failed s = _ at ht
  rcases run_cases ht with ⟨-, rfl⟩ | ⟨-, rfl⟩
  · split
    · exact .inl (.refl _)
    · next h =>
      have hst : s.live.mode.st = .selftest := by
        by_contra hn
        exact h (.inl hn)
      extract_lets M _ N P Q _
      have hM : M.mode = s.live.mode := (Live.testResults_frame _ _).1
      have hMlatch : M.saf.fastLatch = s.live.saf.fastLatch := by simp [M, Live.testResults_keeps]
      have hN : N.mode = s.live.mode ∧ N.saf.fastLatch = s.live.saf.fastLatch := by
        unfold N
        split
        · exact ⟨hM, hMlatch⟩
        · exact ⟨hM, hMlatch⟩
      obtain ⟨hN, hlatch⟩ := hN
      split
      · have hQ : Q.mode = s.live.mode := by simp [Q, P, Live.latchCause_frame, Live.setFast_frame, hN]
        refine .inl ?_
        change Follows s.live.mode.st Q.mode.st
        simp [hQ]
      · rcases N.selftestPasses_st with e | ⟨e, hl⟩
        · exact .inl (by rw [e, hst]; rfl)
        · exact .inr ⟨hst, e, hlatch ▸ hl⟩
  · exact .inl (.refl _)

end Sys2Proof.Machine
end

section
/-! Every command moves the module state along the transition table or leaves it (O52). -/

namespace Sys2Proof.Machine

open Sys2Proof

/-- The families of commands, as the model lists them. -/
inductive Family where
  | startUp | linksAndConversion | estimation | safety | can | dictionary
  | bayManager | logic | twinAndRecorder | update | debugPort

/-- The family that a command belongs to. -/
def family : Instr → Family
  | .auxInputPresent .. | .auxInputAbsent .. | .allSuppliesLost | .holdupSealComplete | .wakePulse .. | .watchdogExpiry
  | .boot .. | .bootComplete | .dupNodeIdListenEnd | .selftestComplete .. | .cmdEnable .. | .cmdDisable .. | .cmdAcknowledge ..
  | .cmdEnterService .. | .cmdLeaveService .. | .cmdEnterQuarry .. | .quarryEntryComplete | .cmdReset ..
  | .cmdColdRestartLogic .. | .cmdColdRestartEstimator .. | .pendingEnableExpiry | .prechargeCooldownEnd | .derateHoldExpiry
  | .courseBoundary | .sampleStrobe | .controlSample .. | .captureComplete | .chiselComplete | .impedanceWindowBoundary
  | .downlinkLatch => .startUp
  | .superframeStart | .uplinkFrameRx .. | .bypassConfirmTimeout .. | .uplinkMissingTimeout .. | .uplinkWordsLostTimeout ..
  | .linkCommaLock .. | .mgmtResponseRx .. | .mgmtTimeout .. | .nodeCmdCommission .. | .nodeCmdReleaseLatch ..
  | .nodeCmdRepeatBringup .. | .nodeCmdComparatorTest .. | .nodeDownlinkFrameRx .. | .nodeSuperframeStart ..
  | .nodeDesaturation .. | .hardBypassLatchSet .. | .nodePortsDark .. | .mgmtRead .. | .mgmtWrite .. | .imageBlock ..
  | .imageActivate .. | .latchRelease .. | .comparatorTest .. | .segCmdBypass .. | .segCmdReturn .. | .busCollapseDetected
  | .busCollapseRelease | .softstartContactorsClosed | .softstartMatched | .softstartMatchTimeout | .softstartSwitchClosed
  | .softstartSwitchTimeout | .softstartComplete | .shortAbort | .prechargeTimeout | .balancingAgeTick | .rmsRatioBucket =>
  .linksAndConversion
  | .estimatorSweep | .uncertaintyLimitExceeded | .referenceWindowComplete | .referenceRequestUnmet | .estCmdRequestWindow ..
  | .estCmdWithdrawRequest .. | .segEstCmdReplaced .. | .tableCmdSwitchBank .. | .tableCmdEraseBank .. | .tableImageWrite ..
  | .thermalEvaluation .. => .estimation
  | .crossChannelExchange .. | .crossChannelMismatch | .channelBSample .. | .fastComparatorTrip | .fastComparatorCheck ..
  | .i2tBlock | .seqStep1End | .classSHoldoffExpiry | .lintelOpenTimeout | .step4BlockedTimeout | .loopTest ..
  | .loopTestExpiry .. | .safetyInputChange .. | .inputDiscrepancyTimeout .. | .testPulseStart .. | .feedbackInputChange ..
  | .contactorOpenTimeout .. | .contactorCloseTimeout .. | .unexpectedOpeningTimeout .. | .switchDiscrepancyTimeout
  | .bayTripRead .. | .bayTripHeldTimeout | .safetyReleaseTimer .. | .safetyCmdReleaseSf09 .. | .safetyCmdReleaseDeepSf02 ..
  | .pePathTest .. | .insulationHalfPeriod .. | .insulationSelftest .. | .insulationListenGap .. | .unmonitoredLimitExpiry
  | .srdoRefresh | .srdoSctExpiry .. | .twinXLowDetected .. | .twinXTestPulse | .opticalMarginLow .. => .safety
  | .canFrameRx .. | .heartbeatRx .. | .srdoRx .. | .rpdoRx .. | .startRemoteNode .. | .stopRemoteNode ..
  | .enterPreOperational .. | .resetNode .. | .resetCommunication .. | .heartbeatTx | .txBufferLoad .. | .canTxComplete ..
  | .framePromotion .. | .frameDeadline .. | .canErrorPassive .. | .canErrorActive .. | .canBusOff ..
  | .busOffRecoveryComplete .. | .canNoAckTimeout .. | .busMonitorCheckEnd | .canCmdRecover .. | .canCmdClearCounters ..
  | .referenceMessageSend | .referenceCancelTimeout .. | .referenceMessageRx .. | .followUpRx .. | .timeHoldoverEntry
  | .holdoverLimitExpiry | .managerSilenceTimeout => .can
  | .lssSwitchStateGlobal .. | .lssSwitchStateSelective .. | .lssConfigureNodeId .. | .lssStoreConfiguration ..
  | .lssInquireVendor .. | .lssInquireProduct .. | .lssInquireRevision .. | .lssInquireSerial .. | .lssInquireNodeId ..
  | .lssIdentifyRemoteSlave .. | .lssIdentifyNonConfigured .. | .odWrite .. | .odRead .. | .segmentedReadTimeout ..
  | .readListResultRead .. | .transaction .. | .authResponse .. | .lowerLevel .. | .sessionIdleTimeout .. | .authLockExpiry ..
  | .safetyParamWrite .. | .safetyCmdDiscardEdit .. | .safetySetConfirm .. | .editCopyTimeout | .safetySetCrcCheck .. =>
  .dictionary
  | .summarySend | .summaryRx .. | .summaryDeadline | .baySnapshotSend | .baySnapshotRx .. | .dispatchStepRx .. | .dataPlaneSend
  | .ptpAnnounceRx .. | .ptpSyncRx .. | .ptpFollowUpRx .. | .ptpDelayReqSend .. | .ptpDelayRespRx .. | .siteTimeHoldover
  | .siteTimeWaitExpiry | .manualModuleTime .. | .ethernetLinkChange .. | .arpRequest .. | .icmpEchoRequest ..
  | .modbusConnect .. | .readHoldingRegisters .. | .readInputRegisters .. | .writeSingleRegister .. | .writeMultipleRegisters ..
  | .readDeviceIdentification .. => .bayManager
  | .logicScan | .scanOverrun | .nop | .ldb .. | .andb .. | .orb .. | .stb .. | .setb .. | .rstb .. | .notb | .pushb | .popand
  | .popor | .ld .. | .ldi .. | .ldhi .. | .st .. | .add .. | .sub .. | .mul .. | .div .. | .addi .. | .and .. | .or ..
  | .shl .. | .shr .. | .min .. | .max .. | .eq .. | .ne .. | .lt .. | .gt .. | .jmp .. | .jmpt .. | .jmpf .. | .loop .. | .next
  | .call .. | .ret | .end_ | .ton .. | .tof .. | .tp .. | .ctu .. | .ctd .. | .ctud .. | .rTrig .. | .fTrig .. | .msgrx ..
  | .msgtx .. | .evt .. | .logicCmdStart .. | .logicCmdStop .. | .logicCmdActivate .. | .logicCmdClearForces ..
  | .logicCmdEraseInactive .. | .setForce .. | .releaseForce .. | .logicImageWrite .. => .logic
  | .mirrorFrameSend | .mirrorFrameRx .. | .pairCheckComplete .. | .mirrorFrameMissing | .urgentWordRx ..
  | .stateTransferComplete | .stateTransferTimeout | .twinCmdHandover .. | .twinCmdResync .. | .handoverClaimLimit
  | .recordCommit | .repeatUpdate | .recorderCmdFreeze .. | .recorderCmdRelease .. | .recorderCmdClear .. | .freezeTimeout
  | .recordsRead .. | .captureDataRead .. | .captureArm .. | .captureForceTrigger .. | .captureAbort .. | .chiselStart ..
  | .chiselStop .. => .twinAndRecorder
  | .manifestWrite .. | .stagingBlockWrite .. | .updateCmdVerify .. | .verificationComplete .. | .updateCmdActivate ..
  | .updateCmdDiscard .. | .probationConfirm | .probationTimeTick | .probationLimit | .nodeUpdateSegment
  | .integratorKeyWrite .. | .flashRefreshBlock .. | .journalCheckpoint | .countersSaveTick => .update
  | .dbgOpen .. | .dbgAuth .. | .dbgClose .. | .dbgStatus .. | .dbgRead .. | .dbgWrite .. | .dbgOdRead .. | .dbgOdWrite ..
  | .logicHalt .. | .logicStep .. | .logicStepCourse .. | .logicRun .. | .breakSet .. | .breakClear .. | .islandHalt ..
  | .islandRun .. | .debugIdleTimeout | .cyclicDiagnostic .. | .withheldRecoveryStart .. | .modbusConnectionClose ..
  | .modbusUnsupportedFunction .. | .dbgInvalidRequest .. | .nodePowerUp .. | .nodeCommaLock .. | .nodeComparatorSelftest .. =>
  .debugPort

/-- The commands that O52 names: the four that it leaves out, and the end of the self-test, which has its own clause. -/
def leftOut : Instr → Bool
  | .courseBoundary | .mirrorFrameMissing | .stateTransferComplete | .mirrorFrameRx .. | .selftestComplete _ => true
  | _ => false

/-- The commands of the supply and the start-up (chapters 02, 03). -/
theorem startUp_follows {c : Instr} (hfam : family c = .startUp) (hc : leftOut c = false) (s : State) :
    Ends Follows s (exec c s) := by
  cases c with
  | auxInputPresent input mv => exact auxInputPresent_follows input mv s
  | auxInputAbsent input mv => exact auxInputAbsent_follows input mv s
  | allSuppliesLost => exact allSuppliesLost_follows s
  | holdupSealComplete => exact holdupSealComplete_follows s
  | wakePulse ms => exact wakePulse_follows ms s
  | watchdogExpiry => exact watchdogExpiry_follows s
  | boot r => exact (boot_staysOrTrips r s).follows
  | bootComplete => exact bootComplete_follows s
  | cmdEnable sess => exact cmdEnable_follows sess s
  | cmdDisable sess => exact cmdDisable_follows sess s
  | cmdAcknowledge sess => exact cmdAcknowledge_follows sess s
  | cmdEnterService sess => exact cmdEnterService_follows sess s
  | cmdLeaveService sess => exact cmdLeaveService_follows sess s
  | cmdEnterQuarry sess => exact (cmdEnterQuarry_staysOrTrips sess s).follows
  | quarryEntryComplete => exact quarryEntryComplete_follows s
  | cmdReset sess => exact cmdReset_follows sess s
  | cmdColdRestartLogic sess => exact (cmdColdRestartLogic_staysOrTrips sess s).follows
  | cmdColdRestartEstimator sess => exact (cmdColdRestartEstimator_staysOrTrips sess s).follows
  | derateHoldExpiry => exact derateHoldExpiry_follows s
  | controlSample x => exact controlSample_follows x s
  | dupNodeIdListenEnd =>
    dsimp only [exec]
    exact Ends.follows (run_ends (.refl _) fun _ => by simp [Live.setNmt_frame])
  | pendingEnableExpiry =>
    dsimp only [exec]
    exact Ends.follows (run_ends (.refl _) fun _ => by (repeat' split) <;> simp [Live.result_frame])
  | prechargeCooldownEnd =>
    dsimp only [exec]
    exact Ends.follows (run_ends (.refl _) fun _ => by (repeat' split) <;> simp)
  | sampleStrobe =>
    dsimp only [exec]
    exact Ends.follows (run_ends (.refl _) fun _ => by simp [Live.takeHits_frame, Live.applyStep_frame])
  | captureComplete | chiselComplete | downlinkLatch =>
    dsimp only [exec]
    exact Ends.follows (runIn_ends (.refl _) fun _ _ => by simp)
  | impedanceWindowBoundary =>
    dsimp only [exec]
    exact Ends.follows (runIn_ends (.refl _) fun _ _ => by simp [Live.evalWindow_frame, Live.clearWindow_frame])
  | selftestComplete | courseBoundary => cases hc
  | _ => cases hfam

/-- The commands of the segment links, the nodes and the conversion (05, 06). -/
theorem linksAndConversion_follows {c : Instr} (hfam : family c = .linksAndConversion) (hc : leftOut c = false) (s : State) :
    Ends Follows s (exec c s) := by
  cases c with
  | superframeStart => exact (superframeStart_staysOrTrips s).follows
  | uplinkFrameRx seg frame lineOk t4 => exact uplinkFrameRx_follows seg frame lineOk t4 s
  | uplinkWordsLostTimeout seg => exact (uplinkWordsLostTimeout_staysOrTrips seg s).follows
  | nodeDownlinkFrameRx node port frame lineOk => exact (nodeDownlinkFrameRx_onlyNodes node port frame lineOk s).ends.follows
  | nodeSuperframeStart node inBound => exact (nodeSuperframeStart_onlyNodes node inBound s).ends.follows
  | nodeDesaturation node high => exact (nodeDesaturation_onlyNodes node high s).ends.follows
  | hardBypassLatchSet node periods => exact (hardBypassLatchSet_onlyNodes node periods s).ends.follows
  | nodePortsDark node us => exact (nodePortsDark_onlyNodes node us s).ends.follows
  | mgmtRead node port tag addr len => exact (mgmtRead_onlyNodes node port tag addr len s).ends.follows
  | mgmtWrite node port tag addr data => exact (mgmtWrite_onlyNodes node port tag addr data s).ends.follows
  | imageBlock node port tag block data => exact (imageBlock_onlyNodes node port tag block data s).ends.follows
  | imageActivate node port tag digest => exact (imageActivate_onlyNodes node port tag digest s).ends.follows
  | latchRelease node port tag checkOk => exact (latchRelease_onlyNodes node port tag checkOk s).ends.follows
  | comparatorTest node port tag passed => exact (comparatorTest_onlyNodes node port tag passed s).ends.follows
  | softstartComplete => exact softstartComplete_follows s
  | bypassConfirmTimeout =>
    dsimp only [exec]
    exact Ends.follows (runIn_ends (.refl _) fun _ _ => by (repeat' split) <;> simp [Live.hardBypass_frame])
  | uplinkMissingTimeout =>
    dsimp only [exec]
    exact Ends.follows (runIn_ends (.refl _) fun _ _ => by simp [Live.linkDown_frame])
  | linkCommaLock =>
    dsimp only [exec]
    exact Ends.follows (runIn_ends (.refl _) fun _ _ => by simp [Live.startBring_frame])
  | mgmtResponseRx =>
    dsimp only [exec]
    exact Ends.follows (runIn_ends (.refl _) fun _ _ => by (repeat' split) <;> simp [Live.modSeg_frame, Live.pumpReq_frame,
        Live.takeResponse_frame])
  | mgmtTimeout =>
    dsimp only [exec]
    exact Ends.follows (runIn_ends (.refl _) fun _ _ => by (repeat' split) <;> simp [Live.modSeg_frame, Live.pumpReq_frame,
        Live.requestFailed_frame])
  | nodeCmdCommission | nodeCmdReleaseLatch | nodeCmdRepeatBringup | nodeCmdComparatorTest =>
    dsimp only [exec]
    exact Ends.follows (command_ends (.refl _) fun _ M _ => by simp [Live.cmdNode, Live.modSeg_frame, Live.request_frame,
        Live.startBring_frame])
  | segCmdBypass | segCmdReturn =>
    dsimp only [exec]
    exact Ends.follows (command_ends (.refl _) fun _ M _ => by simp [Live.cmdSegment, Live.modSeg_frame])
  | busCollapseDetected | busCollapseRelease =>
    dsimp only [exec]
    exact Ends.follows (runIn_ends (.refl _) fun _ _ => by (repeat' split) <;> simp [Live.convEv_frame])
  | softstartContactorsClosed | softstartSwitchClosed =>
    dsimp only [exec]
    exact Ends.follows (runIn_ends (.refl _) fun _ _ => by simp [Live.setPhase_frame])
  | softstartMatched =>
    dsimp only [exec]
    exact Ends.follows (runIn_ends (.refl _) fun _ _ => by (repeat' split) <;> simp [Live.setFast_frame, Live.setPhase_frame])
  | softstartMatchTimeout | softstartSwitchTimeout =>
    dsimp only [exec]
    exact Ends.follows (runIn_ends (.refl _) fun _ _ => by simp)
  | shortAbort | prechargeTimeout =>
    dsimp only [exec]
    exact Ends.follows (runIn_ends (.refl _) fun _ _ => by (repeat' split) <;> simp)
  | balancingAgeTick =>
    dsimp only [exec]
    exact Ends.follows (runIn_ends (.refl _) fun _ _ => by simp [Live.ageTick_frame])
  | rmsRatioBucket =>
    dsimp only [exec]
    exact Ends.follows (runIn_ends (.refl _) fun _ _ => by simp [Live.ratioCheck_frame])
  | _ => cases hfam

/-- The commands of the estimation and the thermal management (08, 09). -/
theorem estimation_follows {c : Instr} (hfam : family c = .estimation) (hc : leftOut c = false) (s : State) :
    Ends Follows s (exec c s) := by
  cases c with
  | thermalEvaluation sensors => exact thermalEvaluation_follows sensors s
  | estimatorSweep =>
    dsimp only [exec]
    exact Ends.follows (runIn_ends (.refl _) fun _ _ => by simp [Live.sweep_frame, Live.holdSweep_frame])
  | uncertaintyLimitExceeded =>
    dsimp only [exec]
    exact Ends.follows (runIn_ends (.refl _) fun _ _ => by (repeat' split) <;> simp [Live.requestWindow])
  | referenceWindowComplete =>
    dsimp only [exec]
    exact Ends.follows (runIn_ends (.refl _) fun _ _ => by (repeat' split) <;> simp [Live.windowCells_frame])
  | referenceRequestUnmet =>
    dsimp only [exec]
    exact Ends.follows (runIn_ends (.refl _) fun _ _ => by (repeat' split) <;> simp)
  | estCmdRequestWindow | estCmdWithdrawRequest =>
    dsimp only [exec]
    exact Ends.follows (command_ends (.refl _) fun _ M _ => by simp [Live.cmdEst, Live.requestWindow])
  | segEstCmdReplaced =>
    dsimp only [exec]
    exact Ends.follows (command_ends (.refl _) fun _ M _ => by simp [Live.cmdReplaced])
  | tableCmdSwitchBank =>
    dsimp only [exec]
    exact Ends.follows (command_ends (.refl _) fun _ M _ => by simp [Live.noteCheck, Live.cmdTable])
  | tableCmdEraseBank =>
    dsimp only [exec]
    exact Ends.follows (command_ends (.refl _) fun _ M _ => by simp [Live.cmdTable])
  | tableImageWrite =>
    dsimp only [exec]
    exact Ends.follows (asWrite_ends (.refl _) fun _ M _ => by simp [Live.writeTable])
  | _ => cases hfam

/-- The commands of the safety functions (10). -/
theorem safety_follows {c : Instr} (hfam : family c = .safety) (hc : leftOut c = false) (s : State) :
    Ends Follows s (exec c s) := by
  cases c with
  | crossChannelExchange valueDiff => exact (crossChannelExchange_staysOrTrips valueDiff s).follows
  | channelBSample fluxgate beat fault => exact (channelBSample_staysOrTrips fluxgate beat fault s).follows
  | seqStep1End => exact seqStep1End_follows s
  | classSHoldoffExpiry => exact classSHoldoffExpiry_follows s
  | lintelOpenTimeout => exact lintelOpenTimeout_follows s
  | inputDiscrepancyTimeout pair => exact (inputDiscrepancyTimeout_staysOrTrips pair s).follows
  | testPulseStart t2 lowA lowB fbLowP fbLowN => exact (testPulseStart_staysOrTrips t2 lowA lowB fbLowP fbLowN s).follows
  | feedbackInputChange input showsOpen => exact feedbackInputChange_follows input showsOpen s
  | switchDiscrepancyTimeout => exact switchDiscrepancyTimeout_follows s
  | insulationHalfPeriod estA estB nF => exact (insulationHalfPeriod_staysOrTrips estA estB nF s).follows
  | crossChannelMismatch | bayTripHeldTimeout | unmonitoredLimitExpiry =>
    dsimp only [exec]
    exact Ends.follows (runIn_ends (.refl _) fun _ _ => by (repeat' split) <;> simp)
  | fastComparatorTrip =>
    dsimp only [exec]
    exact Ends.follows (runIn_ends (.refl _) fun _ _ => by simp [Live.setFast_frame])
  | fastComparatorCheck | i2tBlock | contactorOpenTimeout | contactorCloseTimeout | unexpectedOpeningTimeout | srdoSctExpiry =>
    dsimp only [exec]
    exact Ends.follows (runIn_ends (.refl _) fun _ _ => by simp)
  | step4BlockedTimeout =>
    dsimp only [exec]
    exact Ends.follows (runIn_ends (.refl _) fun _ _ => by (repeat' split) <;> simp [Live.setSeq_keeps])
  | loopTest =>
    dsimp only [exec]
    exact Ends.follows (runIn_ends (.refl _) fun _ _ => by simp [Live.updExpect_frame])
  | loopTestExpiry =>
    dsimp only [exec]
    exact Ends.follows (runIn_ends (.refl _) fun _ _ => by (repeat' split) <;> simp [Live.updExpect_frame, Live.senseLoop_frame])
  | safetyInputChange =>
    dsimp only [exec]
    exact Ends.follows (runIn_ends (.refl _) fun _ _ => by simp [Live.modPair_frame, Live.judgePair_frame])
  | bayTripRead =>
    dsimp only [exec]
    exact Ends.follows (runIn_ends (.refl _) fun _ _ => by simp [Live.alsoB_frame])
  | safetyReleaseTimer =>
    dsimp only [exec]
    exact Ends.follows (runIn_ends (.refl _) fun _ _ => by simp [Live.release__frame])
  | safetyCmdReleaseSf09 | safetyCmdReleaseDeepSf02 =>
    dsimp only [exec]
    exact Ends.follows (command_ends (.refl _) fun _ M _ => by simp [Live.cmdSafety, Live.release__frame])
  | pePathTest | insulationSelftest =>
    dsimp only [exec]
    exact Ends.follows (runIn_ends (.refl _) fun _ _ => by simp [Live.insRelay_frame])
  | insulationListenGap =>
    dsimp only [exec]
    exact Ends.follows (runIn_ends (.refl _) fun _ _ => by simp [Live.insRelay_frame, Live.setRole_frame])
  | srdoRefresh =>
    dsimp only [exec]
    exact Ends.follows (runIn_ends (.refl _) fun _ _ => by simp [Live.noticeWatch_frame, Live.sendSrdo_frame])
  | twinXLowDetected =>
    dsimp only [exec]
    exact Ends.follows (runIn_ends (.refl _) fun _ _ => by simp [Live.endObeyed_frame])
  | twinXTestPulse | opticalMarginLow =>
    dsimp only [exec]
    exact Ends.follows (runIn_ends (.refl _) fun _ _ => by simp [Live.twinEv_frame])
  | _ => cases hfam

/-- The commands of CAN and bay time (11). -/
theorem can_follows {c : Instr} (hfam : family c = .can) (hc : leftOut c = false) (s : State) :
    Ends Follows s (exec c s) := by
  cases c with
  | srdoRx bus k inverted data => exact (srdoRx_staysOrTrips bus k inverted data s).follows
  | rpdoRx bus n data => exact (rpdoRx_staysOrTrips bus n data s).follows
  | heartbeatTx => exact (heartbeatTx_staysOrTrips s).follows
  | busMonitorCheckEnd => exact (busMonitorCheckEnd_staysOrTrips s).follows
  | canFrameRx =>
    dsimp only [exec]
    exact Ends.follows (runIn_ends (.refl _) fun _ _ => by simp [Live.canAccept_frame])
  | heartbeatRx =>
    dsimp only [exec]
    exact Ends.follows (run_ends (.refl _) fun _ => by simp)
  | startRemoteNode | stopRemoteNode | enterPreOperational =>
    dsimp only [exec]
    exact Ends.follows (runIn_ends (.refl _) fun _ _ => by simp [Live.setNmt_frame])
  | resetNode | resetCommunication =>
    dsimp only [exec]
    exact Ends.follows (runIn_ends (.refl _) fun _ _ => by simp [Live.resetCom_frame])
  | txBufferLoad =>
    dsimp only [exec]
    exact Ends.follows (runIn_ends (.refl _) fun _ _ => by simp [Live.loadBuffer_frame])
  | canTxComplete =>
    dsimp only [exec]
    exact Ends.follows (runIn_ends (.refl _) fun _ _ => by simp [Live.txEnd_frame])
  | framePromotion =>
    dsimp only [exec]
    exact Ends.follows (runIn_ends (.refl _) fun _ _ => by simp [Live.promote_frame])
  | frameDeadline =>
    dsimp only [exec]
    exact Ends.follows (runIn_ends (.refl _) fun _ _ => by simp [Live.deadlines_frame])
  | canErrorPassive =>
    dsimp only [exec]
    exact Ends.follows (runIn_ends (.refl _) fun _ _ => by simp [Live.freeCounters, Live.modCan_frame, Live.setCan_frame,
        Live.degraded_frame])
  | canErrorActive =>
    dsimp only [exec]
    exact Ends.follows (runIn_ends (.refl _) fun _ _ => by simp [Live.freeCounters, Live.modCan_frame, Live.setCan_frame])
  | canBusOff =>
    dsimp only [exec]
    exact Ends.follows (runIn_ends (.refl _) fun _ _ => by simp [Live.busOff_frame])
  | busOffRecoveryComplete =>
    dsimp only [exec]
    exact Ends.follows (runIn_ends (.refl _) fun _ _ => by simp [Live.canRejoin_frame])
  | canNoAckTimeout =>
    dsimp only [exec]
    exact Ends.follows (runIn_ends (.refl _) fun _ _ => by simp [Live.setCan_frame, Live.degraded_frame])
  | canCmdRecover | canCmdClearCounters =>
    dsimp only [exec]
    exact Ends.follows (command_ends (.refl _) fun _ M _ => by simp [Live.cmdCan, Live.startRecovery_frame])
  | referenceMessageSend | timeHoldoverEntry | holdoverLimitExpiry | managerSilenceTimeout =>
    dsimp only [exec]
    exact Ends.follows (runIn_ends (.refl _) fun _ _ => by simp)
  | referenceCancelTimeout =>
    dsimp only [exec]
    exact Ends.follows (runIn_ends (.refl _) fun _ _ => by simp [Live.cancelReference_frame])
  | referenceMessageRx =>
    dsimp only [exec]
    exact Ends.follows (runIn_ends (.refl _) fun _ _ => by simp [Live.referenceRx, Live.discardUsed_frame])
  | followUpRx =>
    dsimp only [exec]
    exact Ends.follows (runIn_ends (.refl _) fun _ _ => by simp [Live.followUpRx_frame])
  | _ => cases hfam

/-- The commands of layer setting, the dictionary and the sessions (12). -/
theorem dictionary_follows {c : Instr} (hfam : family c = .dictionary) (hc : leftOut c = false) (s : State) :
    Ends Follows s (exec c s) := by
  cases c with
  | odRead sess index sub segmented => exact (odRead_staysOrTrips sess index sub segmented s).follows
  | segmentedReadTimeout sess => exact (segmentedReadTimeout_staysOrTrips sess s).follows
  | safetyParamWrite sess index sub value => exact (safetyParamWrite_staysOrTrips sess index sub value s).follows
  | safetyCmdDiscardEdit sess => exact (safetyCmdDiscardEdit_staysOrTrips sess s).follows
  | lssSwitchStateGlobal =>
    dsimp only [exec]
    exact Ends.follows (runIn_ends (.refl _) fun _ _ => by simp [Live.lssSet_frame])
  | lssSwitchStateSelective =>
    dsimp only [exec]
    exact Ends.follows (runIn_ends (.refl _) fun _ _ => by simp [Live.lssSend_frame, Live.lssSet_frame])
  | lssConfigureNodeId | lssStoreConfiguration | lssIdentifyRemoteSlave | lssIdentifyNonConfigured =>
    dsimp only [exec]
    exact Ends.follows (runIn_ends (.refl _) fun _ _ => by simp [Live.lssSend_frame])
  | lssInquireVendor | lssInquireProduct | lssInquireRevision | lssInquireSerial | lssInquireNodeId =>
    dsimp only [exec]
    exact Ends.follows (runIn_ends (.refl _) fun _ _ => by simp [Live.lssInquire_frame])
  | odWrite | transaction =>
    dsimp only [exec]
    exact Ends.follows (run_ends (.refl _) fun _ => by simp [Live.touch_frame, Live.write_frame])
  | readListResultRead =>
    dsimp only [exec]
    exact Ends.follows (run_ends (.refl _) fun _ => by simp [Live.touch_frame, Live.read_frame])
  | authResponse =>
    dsimp only [exec]
    exact Ends.follows (command_ends (.refl _) fun _ M _ => by simp [Live.cmdAuth_frame])
  | lowerLevel =>
    dsimp only [exec]
    exact Ends.follows (command_ends (.refl _) fun _ M _ => by simp [Live.cmdLower, Live.modSession_frame])
  | sessionIdleTimeout | authLockExpiry =>
    dsimp only [exec]
    exact Ends.follows (run_ends (.refl _) fun _ => by (repeat' split) <;> simp [Live.modSession_frame])
  | safetySetConfirm =>
    dsimp only [exec]
    exact Ends.follows (command_ends (.refl _) fun _ M _ => by simp [Live.cmdConfirm_frame])
  | editCopyTimeout =>
    dsimp only [exec]
    exact Ends.follows (run_ends (.refl _) fun _ => by (repeat' split) <;> simp)
  | safetySetCrcCheck =>
    dsimp only [exec]
    exact Ends.follows (run_ends (.refl _) fun _ => by simp [Live.checkCopies_frame])
  | _ => cases hfam

/-- The commands of the bay manager (13). -/
theorem bayManager_follows {c : Instr} (hfam : family c = .bayManager) (hc : leftOut c = false) (s : State) :
    Ends Follows s (exec c s) := by
  cases c with
  | manualModuleTime sess time => exact (manualModuleTime_staysOrTrips sess time s).follows
  | readHoldingRegisters conn start count => exact (readHoldingRegisters_staysOrTrips conn start count s).follows
  | readInputRegisters conn start count => exact (readInputRegisters_staysOrTrips conn start count s).follows
  | writeSingleRegister conn reg value => exact (writeSingleRegister_staysOrTrips conn reg value s).follows
  | writeMultipleRegisters conn start values => exact (writeMultipleRegisters_staysOrTrips conn start values s).follows
  | readDeviceIdentification conn => exact (readDeviceIdentification_staysOrTrips conn s).follows
  | summarySend =>
    dsimp only [exec]
    exact Ends.follows (runIn_ends (.refl _) fun _ _ => by simp [Live.takeSummary_frame, Live.onBoth_frame])
  | summaryRx =>
    dsimp only [exec]
    exact Ends.follows (runIn_ends (.refl _) fun _ _ => by simp [Live.takeSummary_frame])
  | summaryDeadline =>
    dsimp only [exec]
    exact Ends.follows (runIn_ends (.refl _) fun _ _ => by simp [Live.summaryDeadline_frame])
  | baySnapshotSend | ptpDelayReqSend | arpRequest | icmpEchoRequest =>
    dsimp only [exec]
    exact Ends.follows (runIn_ends (.refl _) fun _ _ => by simp)
  | baySnapshotRx =>
    dsimp only [exec]
    exact Ends.follows (runIn_ends (.refl _) fun _ _ => by simp [Live.holdSnapshot_frame])
  | dispatchStepRx =>
    dsimp only [exec]
    exact Ends.follows (runIn_ends (.refl _) fun _ _ => by simp [Live.holdStep_frame])
  | dataPlaneSend =>
    dsimp only [exec]
    exact Ends.follows (runIn_ends (.refl _) fun _ _ => by simp [Live.sendPlane])
  | ptpAnnounceRx =>
    dsimp only [exec]
    exact Ends.follows (runIn_ends (.refl _) fun _ _ => by simp [Live.announce_frame])
  | ptpSyncRx =>
    dsimp only [exec]
    exact Ends.follows (runIn_ends (.refl _) fun _ _ => by simp [Live.siteSync_frame])
  | ptpFollowUpRx =>
    dsimp only [exec]
    exact Ends.follows (runIn_ends (.refl _) fun _ _ => by (repeat' split) <;> simp [Live.siteSync_frame])
  | ptpDelayRespRx =>
    dsimp only [exec]
    exact Ends.follows (runIn_ends (.refl _) fun _ _ => by (repeat' split) <;> simp)
  | siteTimeHoldover | siteTimeWaitExpiry | ethernetLinkChange =>
    dsimp only [exec]
    exact Ends.follows (runIn_ends (.refl _) fun _ _ => by simp [Live.mgrEv_frame])
  | modbusConnect =>
    dsimp only [exec]
    exact Ends.follows (runIn_ends (.refl _) fun _ _ => by (repeat' split) <;> simp [Live.touch_frame, Live.mgrEv_frame])
  | _ => cases hfam

/-- The commands of the logic engine (14). -/
theorem logic_follows {c : Instr} (hfam : family c = .logic) (hc : leftOut c = false) (s : State) :
    Ends Follows s (exec c s) := by
  cases c with
  | logicScan => exact (logicScan_staysOrTrips s).follows
  | setForce sess entry => exact (setForce_staysOrTrips sess entry s).follows
  | releaseForce sess entry => exact (releaseForce_staysOrTrips sess entry s).follows
  | scanOverrun =>
    dsimp only [exec]
    exact Ends.follows (runIn_ends (.refl _) fun _ _ => by simp [Live.logicFault_frame])
  | nop | notb | pushb | ldi | addi | shr | next | ret | end_ =>
    dsimp only [exec]
    exact Ends.follows (runIn_ends (.refl _) fun _ _ => by simp [Live.modLgc_frame])
  | ldb | andb | orb | stb | setb | rstb | ld | ldhi | st | add | sub | mul | div | and | or | shl | min | max | eq | ne | lt
  | gt | jmp | jmpt | jmpf | loop | call | ton | tof | tp | ctu | ctd | ctud | rTrig | fTrig =>
    dsimp only [exec]
    exact Ends.follows (logicRow_ends (.refl _) fun _ _ => by simp [Live.modLgc_frame])
  | popand | popor =>
    dsimp only [exec]
    exact Ends.follows (runIn_ends (.refl _) fun _ _ => by simp [Live.popBit_frame])
  | msgrx =>
    dsimp only [exec]
    exact Ends.follows (logicRow_ends (.refl _) fun _ _ => by simp [Live.opMsgrx_frame])
  | msgtx =>
    dsimp only [exec]
    exact Ends.follows (logicRow_ends (.refl _) fun _ _ => by simp [Live.opMsgtx_frame])
  | evt =>
    dsimp only [exec]
    exact Ends.follows (logicRow_ends (.refl _) fun _ _ => by simp [Live.opEvt_frame])
  | logicCmdStart =>
    dsimp only [exec]
    exact Ends.follows (command_ends (.refl _) fun _ M _ => by simp [Live.cmdLogicStart, Live.logicStart_frame])
  | logicCmdStop =>
    dsimp only [exec]
    exact Ends.follows (command_ends (.refl _) fun _ M _ => by simp [Live.cmdLogicStop, Live.logicStop_frame])
  | logicCmdActivate =>
    dsimp only [exec]
    exact Ends.follows (command_ends (.refl _) fun _ M _ => by simp [Live.cmdActivateLogic_frame])
  | logicCmdClearForces =>
    dsimp only [exec]
    exact Ends.follows (command_ends (.refl _) fun _ M _ => by simp [Live.cmdClearForces, Live.modLgc_frame, Live.forceEv_frame])
  | logicCmdEraseInactive =>
    dsimp only [exec]
    exact Ends.follows (command_ends (.refl _) fun _ M _ => by simp [Live.cmdEraseInactive, Live.modLgc_frame])
  | logicImageWrite =>
    dsimp only [exec]
    exact Ends.follows (asWrite_ends (.refl _) fun _ M _ => by simp [Live.cmdImage, Live.imageWritten_frame])
  | _ => cases hfam

/-- The commands of twin, recorder, capture and chisel (15, 16, 07). -/
theorem twinAndRecorder_follows {c : Instr} (hfam : family c = .twinAndRecorder) (hc : leftOut c = false) (s : State) :
    Ends Follows s (exec c s) := by
  cases c with
  | mirrorFrameSend => exact (mirrorFrameSend_staysOrTrips s).follows
  | recorderCmdRelease sess => exact (recorderCmdRelease_staysOrTrips sess s).follows
  | recorderCmdClear sess => exact (recorderCmdClear_staysOrTrips sess s).follows
  | recordsRead sess => exact (recordsRead_staysOrTrips sess s).follows
  | captureDataRead sess => exact (captureDataRead_staysOrTrips sess s).follows
  | pairCheckComplete =>
    dsimp only [exec]
    exact Ends.follows (runIn_ends (.refl _) fun _ _ => by simp [Live.toPartner_frame, Live.twinEv_frame])
  | urgentWordRx =>
    dsimp only [exec]
    exact Ends.follows (runIn_ends (.refl _) fun _ _ => by simp [Live.acceptHandover_frame])
  | stateTransferTimeout =>
    dsimp only [exec]
    exact Ends.follows (runIn_ends (.refl _) fun _ _ => by (repeat' split) <;> simp [Live.twinEv_frame])
  | twinCmdHandover | twinCmdResync =>
    dsimp only [exec]
    exact Ends.follows (command_ends (.refl _) fun _ M _ => by simp [Live.cmdTwin, Live.requestHandover_frame, Live.leaveStep_frame])
  | handoverClaimLimit =>
    dsimp only [exec]
    exact Ends.follows (runIn_ends (.refl _) fun _ _ => by (repeat' split) <;> simp)
  | recordCommit =>
    dsimp only [exec]
    exact Ends.follows (run_ends (.refl _) fun _ => by simp)
  | repeatUpdate =>
    dsimp only [exec]
    exact Ends.follows (run_ends (.refl _) fun _ => by simp [Live.repeatInPlace_frame])
  | recorderCmdFreeze =>
    dsimp only [exec]
    exact Ends.follows (command_ends (.refl _) fun _ M _ => by simp [Live.cmdFreeze])
  | freezeTimeout =>
    dsimp only [exec]
    exact Ends.follows (run_ends (.refl _) fun _ => by (repeat' split) <;> simp [Live.releaseFreeze_frame])
  | captureArm | captureForceTrigger | captureAbort =>
    dsimp only [exec]
    exact Ends.follows (command_ends (.refl _) fun _ M _ => by simp [Live.cmdCapture, Live.dropCaptureReads_frame])
  | chiselStart | chiselStop =>
    dsimp only [exec]
    exact Ends.follows (command_ends (.refl _) fun _ M _ => by simp [Live.cmdChisel, Live.abortChisel_frame])
  | mirrorFrameRx | mirrorFrameMissing | stateTransferComplete => cases hc
  | _ => cases hfam

/-- The commands of update and journal (17). -/
theorem update_follows {c : Instr} (hfam : family c = .update) (hc : leftOut c = false) (s : State) :
    Ends Follows s (exec c s) := by
  cases c with
  | updateCmdActivate sess => exact updateCmdActivate_follows sess s
  | probationLimit => exact probationLimit_follows s
  | manifestWrite | stagingBlockWrite =>
    dsimp only [exec]
    exact Ends.follows (asWrite_ends (.refl _) fun _ M _ => by simp)
  | updateCmdVerify | updateCmdDiscard =>
    dsimp only [exec]
    exact Ends.follows (command_ends (.refl _) fun _ M _ => by simp)
  | verificationComplete =>
    dsimp only [exec]
    exact Ends.follows (run_ends (.refl _) fun _ => by simp [Live.verified_frame])
  | probationConfirm | probationTimeTick | nodeUpdateSegment | flashRefreshBlock | journalCheckpoint | countersSaveTick =>
    dsimp only [exec]
    exact Ends.follows (run_ends (.refl _) fun _ => by simp)
  | integratorKeyWrite =>
    dsimp only [exec]
    exact Ends.follows (asWrite_ends (.refl _) fun _ M _ => by simp [Live.writeIntKey])
  | _ => cases hfam

/-- The commands of the debug port (18) and the rows at the end of the table. -/
theorem debugPort_follows {c : Instr} (hfam : family c = .debugPort) (hc : leftOut c = false) (s : State) :
    Ends Follows s (exec c s) := by
  cases c with
  | breakClear tag slot => exact (breakClear_staysOrTrips tag slot s).follows
  | islandRun tag => exact islandRun_follows tag s
  | withheldRecoveryStart bus => exact (withheldRecoveryStart_staysOrTrips bus s).follows
  | modbusUnsupportedFunction conn code => exact (modbusUnsupportedFunction_staysOrTrips conn code s).follows
  | nodePowerUp node => exact (nodePowerUp_onlyNodes node s).ends.follows
  | nodeCommaLock node port => exact (nodeCommaLock_onlyNodes node port s).ends.follows
  | nodeComparatorSelftest node passed => exact (nodeComparatorSelftest_onlyNodes node passed s).ends.follows
  | dbgOpen =>
    dsimp only [exec]
    exact Ends.follows (portRun_ends (.refl _) fun _ => by simp [Live.touch_frame, Live.respond_frame, Live.newNonce_frame])
  | dbgAuth =>
    dsimp only [exec]
    exact Ends.follows (inSession_ends (.refl _) fun _ M _ => by simp [Live.dbgAuthFail, Live.respond_frame, Live.newNonce_frame])
  | dbgClose =>
    dsimp only [exec]
    exact Ends.follows (inSession_ends (.refl _) fun _ M _ => by simp [Live.respond_frame, Live.endDebug_frame])
  | dbgStatus | dbgRead =>
    dsimp only [exec]
    exact Ends.follows (inSession_ends (.refl _) fun _ M _ => by simp [Live.respond_frame])
  | dbgWrite | logicStep =>
    dsimp only [exec]
    exact Ends.follows (inSession_ends (.refl _) fun _ M _ => by simp [Live.respond_frame, Live.commitLater_frame])
  | dbgOdRead =>
    dsimp only [exec]
    exact Ends.follows (inSession_ends (.refl _) fun _ M _ => by simp [Live.read_frame, Live.awaits_frame])
  | dbgOdWrite =>
    dsimp only [exec]
    exact Ends.follows (inSession_ends (.refl _) fun _ M _ => by simp [Live.refuseArrival_frame, Live.write_frame, Live.awaits_frame])
  | logicHalt | logicStepCourse | logicRun =>
    dsimp only [exec]
    exact Ends.follows (inSession_ends (.refl _) fun _ M _ => by simp [Live.commitLater_frame])
  | breakSet =>
    dsimp only [exec]
    exact Ends.follows (inSession_ends (.refl _) fun _ M _ => by simp [Live.setBrk_frame, Live.respond_frame, Live.commitLater_frame])
  | islandHalt =>
    dsimp only [exec]
    exact Ends.follows (inSession_ends (.refl _) fun _ M _ => by simp [Live.haltIsland_frame, Live.respond_frame])
  | debugIdleTimeout =>
    dsimp only [exec]
    exact Ends.follows (run_ends (.refl _) fun _ => by (repeat' split) <;> simp [Live.endDebug_frame])
  | cyclicDiagnostic =>
    dsimp only [exec]
    exact Ends.follows (runIn_ends (.refl _) fun _ _ => by simp)
  | modbusConnectionClose =>
    dsimp only [exec]
    exact Ends.follows (runIn_ends (.refl _) fun _ _ => by simp [Live.endSession_frame])
  | dbgInvalidRequest =>
    dsimp only [exec]
    exact Ends.follows (portRun_ends (.refl _) fun _ => by simp [Live.respond_frame])
  | _ => cases hfam

/-- Every command but those that O52 names moves the state along the table or leaves it. -/
theorem exec_follows {c : Instr} (hc : leftOut c = false) (s : State) : Ends Follows s (exec c s) := by
  cases hfam : family c with
  | startUp => exact startUp_follows hfam hc s
  | linksAndConversion => exact linksAndConversion_follows hfam hc s
  | estimation => exact estimation_follows hfam hc s
  | safety => exact safety_follows hfam hc s
  | can => exact can_follows hfam hc s
  | dictionary => exact dictionary_follows hfam hc s
  | bayManager => exact bayManager_follows hfam hc s
  | logic => exact logic_follows hfam hc s
  | twinAndRecorder => exact twinAndRecorder_follows hfam hc s
  | update => exact update_follows hfam hc s
  | debugPort => exact debugPort_follows hfam hc s

/-- Settles O52: family by family, a command leaves the state, trips to SAFE, ends a shut-down in STANDBY,
    or takes the one transition that
it is there for. -/
theorem statesFollowTheTable : Obligations.StatesFollowTheTable := by
  intro c s t hcourse hmissing htransfer hframe ht
  cases hc : leftOut c with
  | false => exact .inl (exec_follows hc s t ht)
  | true =>
    cases c with
    | selftestComplete failed => exact selftestComplete_follows ht
    | courseBoundary => exact absurd rfl hcourse
    | mirrorFrameMissing => exact absurd rfl hmissing
    | stateTransferComplete => exact absurd rfl htransfer
    | mirrorFrameRx frame p q => exact absurd rfl (hframe frame p q)
    | _ => cases hc

end Sys2Proof.Machine
end

section
/-! A module command (0x2000:0A, 03 R57) of a session that may give it: what its effect finds, and what the reply adds. -/

namespace Sys2Proof.Machine

open Sys2Proof

/-- M is L as the effect of a granted command finds it: the sessions, the edit copy and the course's count have changed, and the request
may have been forwarded to the partner. -/
def Prepared (L M : Live) : Prop :=
  ∃ ss ed n bulk seq, M = { L with
    ks := { L.ks with sessions := ss, edit := ed, commands := n }
    twin := { L.twin with bulk := bulk, fwdSeq := seq } }

/-- R is L once the session has its reply. -/
def RepliedTo (sess : Sess) (L R : Live) : Prop :=
  Replied sess 0 R ∧ (L.mode.st = .boot → R.ks = L.ks) ∧
  ∃ pend out mgr dbg num bus, R = { L with
    ks := { L.ks with pend := pend }, out := out, mgr := mgr, dbg := dbg, com := { L.com with num := num, bus := bus } }

/-- An answer changes the outbox and, by the session's interface, a transmit ring, a connection or the port. -/
theorem Live.answer_eq (L : Live) (sess : Sess) (abort : Nat) (data : Bytes) :
    ∃ out mgr dbg num bus, L.answer sess abort data = { L with
      out := out, mgr := mgr, dbg := dbg, com := { L.com with num := num, bus := bus } } := by
  unfold Live.answer
  split
  · unfold Live.mbAnswer
    (repeat' split) <;> exact ⟨_, _, _, _, _, rfl⟩
  · split
    · unfold Live.dbgAnswer
      (repeat' split) <;> exact ⟨_, _, _, _, _, rfl⟩
    · unfold Live.canAnswer
      dsimp only
      split <;> exact ⟨_, _, _, _, _, rfl⟩

/-- A session that is neither Modbus nor the port has its answer in the outbox. -/
theorem Live.answer_out (L : Live) {sess : Sess} (abort : Nat) (data : Bytes) (h3 : iface sess ≠ 3) (h4 : iface sess ≠ 4) :
    (L.answer sess abort data).out = .answer sess abort data :: L.out := by
  have hi : ∀ n < 16, iface sess ≠ n → sess / 4096 ≠ n := by
    intro n hn h e
    apply h
    norm_num [iface, fld, e]
    omega
  simp [Live.answer, hi 3 (by decide) h3, hi 4 (by decide) h4, Live.emit]

theorem repliedTo_noteDone (L : Live) (sess : Sess) (k : Nat) (v : Bytes) (fwd : Option Nat) :
    RepliedTo sess L ((L.accept sess).noteDone sess k v fwd 0) := by
  have hout : Replied sess 0 (L.accept sess) := fun h3 h4 => by simp [Live.accept, L.answer_out 0 [] h3 h4]
  obtain ⟨out, mgr, dbg, num, bus, e⟩ := L.answer_eq sess 0 []
  have hacc : L.accept sess = _ := e
  unfold Live.noteDone
  split
  · refine ⟨hout, fun _ => ?_, L.ks.pend, out, mgr, dbg, num, bus, hacc⟩
    rw [hacc]
  · next h =>
    refine ⟨hout, fun hb => absurd (Or.inr ?_) h, ?_⟩
    · rw [hacc]
      exact hb
    · rw [hacc]
      exact ⟨_, _, _, _, _, _, rfl⟩

theorem Live.forwardOn_eq (L : Live) (sess : Sess) (k : Nat) (v : Bytes) :
    ∃ bulk seq, (L.forwardOn sess k v).1 = { L with twin := { L.twin with bulk := bulk, fwdSeq := seq } } := by
  unfold Live.forwardOn
  split
  · exact ⟨_, _, rfl⟩
  · exact ⟨L.twin.bulk, L.twin.fwdSeq, rfl⟩

/-- The block as the effect of a module command finds it. -/
def Live.forCommand (L : Live) (sess : Sess) (code : Nat) : Live :=
  let M := ((L.touch sess).forwardOn sess 0x20000A (leBytes 1 code)).1
  { M with ks := { M.ks with commands := M.ks.commands + 1 } }

theorem Live.forCommand_prepared (L : Live) (sess : Sess) (code : Nat) : Prepared L (L.forCommand sess code) := by
  obtain ⟨ss, ed, htouch⟩ := L.touch_eq sess
  obtain ⟨bulk, seq, hfwd⟩ := (L.touch sess).forwardOn_eq sess 0x20000A (leBytes 1 code)
  refine ⟨ss, ed, L.ks.commands + 1, bulk, seq, ?_⟩
  rw [Live.forCommand, hfwd, htouch]

/-- The golden image lets a module command pass (03 R57). -/
theorem Live.goldenRefuses_command (L : Live) : L.goldenRefuses 0x20000A = false := by simp [Live.goldenRefuses]

theorem Live.levelOf_forwardOn (L : Live) (sess : Sess) (k : Nat)
    (v : Bytes) : (L.forwardOn sess k v).1.levelOf sess = L.levelOf sess := by
  obtain ⟨bulk, seq, e⟩ := L.forwardOn_eq sess k v
  rw [e]
  rfl

theorem Live.commands_forwardOn_touch (L : Live) (sess : Sess) (k : Nat) (v : Bytes) :
    ((L.touch sess).forwardOn sess k v).1.ks.commands = L.ks.commands := by
  obtain ⟨ss, ed, htouch⟩ := L.touch_eq sess
  obtain ⟨bulk, seq, hfwd⟩ := (L.touch sess).forwardOn_eq sess k v
  rw [hfwd, htouch]

theorem Live.follower_touch (L : Live) (sess : Sess) : (L.touch sess).follower = L.follower := by
  obtain ⟨ss, ed, htouch⟩ := L.touch_eq sess
  rw [htouch]
  rfl

/-- A module command of a session that holds its level, in a course with room, on the keystone that decides it, runs its effect and is
answered with success. -/
theorem Live.moduleRow_granted {L : Live} {sess : Sess} {level code : Nat} {f : Live → Live} (hserves : L.serves sess = true)
    (hlevel : level ≤ (L.touch sess).levelOf sess) (hroom : L.ks.commands < 16) (hown : L.follower = false) :
    RepliedTo sess (f (L.forCommand sess code)) (L.moduleRow sess level code f) := by
  have hfol : ¬((L.touch sess).follower = true ∧ (!isTwinLocalWrite 0x20000A) = true) := by
    rw [L.follower_touch, hown]
    simp
  have hlvl : ¬((L.touch sess).forwardOn sess 0x20000A (leBytes 1 code)).1.levelOf sess < level := by
    rw [Live.levelOf_forwardOn]
    omega
  have hcmd : ¬16 ≤ ((L.touch sess).forwardOn sess 0x20000A (leBytes 1 code)).1.ks.commands := by
    rw [Live.commands_forwardOn_touch]
    omega
  unfold Live.moduleRow Live.command Live.asWrite Live.asked
  rw [if_pos hserves]
  dsimp only
  rw [if_neg hfol]
  simp only [Live.goldenRefuses_command, Bool.false_eq_true, if_false, hlvl, hcmd]
  exact repliedTo_noteDone _ _ _ _ _

/-- What a granted module command answers is what its effect leaves, with the reply. -/
theorem answers_of_granted {c : Instr} {s : State} {sess : Sess} {level code : Nat} {f : Live → Live} {P : Live → Prop}
    (hc : exec c s = run s (fun L => L.moduleRow sess level code f)) (hserved : Served sess level s.live)
    (hroom : s.live.ks.commands < 16) (hown : s.live.follower = false)
    (hP : ∀ M R, Prepared s.live M → RepliedTo sess (f M) R → P R) : Answers c s P := by
  obtain ⟨hp, hserves, hlevel⟩ := hserved
  exact answers_of_run hp hc (hP _ _ (s.live.forCommand_prepared sess code) (Live.moduleRow_granted hserves hlevel hroom hown))

/-! ### Effects that change no more than the state machine's own record and the result -/

theorem Prepared.mode {L M : Live} (h : Prepared L M) : M.mode = L.mode := by
  obtain ⟨ss, ed, n, bulk, seq, rfl⟩ := h
  rfl

theorem Prepared.obj {L M : Live} (h : Prepared L M) : M.obj = L.obj := by
  obtain ⟨ss, ed, n, bulk, seq, rfl⟩ := h
  rfl

theorem Prepared.getN {L M : Live} (h : Prepared L M) (k : Nat) : M.getN k = L.getN k := Live.getN_congr _ _ _ h.obj

theorem Prepared.pins {L M : Live} (h : Prepared L M) : M.pins = L.pins := by
  obtain ⟨ss, ed, n, bulk, seq, rfl⟩ := h
  rfl

theorem Prepared.clk {L M : Live} (h : Prepared L M) : M.time.clk = L.time.clk := by
  obtain ⟨ss, ed, n, bulk, seq, rfl⟩ := h
  rfl

/-- What a reply leaves alone. -/
theorem RepliedTo.keeps {sess : Sess} {L R : Live} (h : RepliedTo sess L R) :
    R.mode = L.mode ∧ R.pins = L.pins ∧ R.saf = L.saf ∧ R.conv = L.conv ∧ R.twin = L.twin ∧ R.obj = L.obj ∧ R.restFast = L.restFast := by
  obtain ⟨-, -, pend, out, mgr, dbg, num, bus, rfl⟩ := h
  exact ⟨rfl, rfl, rfl, rfl, rfl, rfl, rfl⟩

theorem RepliedTo.getN {sess : Sess} {L R : Live} (h : RepliedTo sess L R) (k : Nat) : R.getN k = L.getN k := by
  obtain ⟨-, -, -, -, -, hobj, -⟩ := h.keeps
  exact Live.getN_congr _ _ _ hobj

theorem RepliedTo.result {sess : Sess} {L R : Live} {r : Nat} (h : RepliedTo sess (L.result r) R) : R.getN 0x20000C = r :=
  (h.getN _).trans (Live.getN_put_same _ _ _)

/-- R with what a reply may change put back as in L. -/
def Live.unreplied (R L : Live) : Live :=
  { R with
    ks := L.ks, obj := L.obj, out := L.out, mgr := L.mgr, dbg := L.dbg
    com := { R.com with num := L.com.num, bus := L.com.bus }
    twin := { R.twin with bulk := L.twin.bulk, fwdSeq := L.twin.fwdSeq } }

/-- What holds of a command's answer R whose effect was to set its result, in a block that was L. -/
structure OnlyResult (sess : Sess) (L R : Live) (m : Mode) (r : Nat) : Prop where
  result : R.getN 0x20000C = r
  replied : Replied sess 0 R
  objects : SameObjects [0x20000C] R L
  mode : R.mode = m
  frame : ∀ m', m' = L.mode → ({ R with mode := m' } : Live).unreplied L = L

/-- A command that sets its result, and no more than the record of the state machine, leaves the rest as it was. -/
theorem RepliedTo.of_result {sess : Sess} {L M R : Live} {m : Mode} {r : Nat} (hM : Prepared L M)
    (hR : RepliedTo sess (({ M with mode := m } : Live).result r) R) : OnlyResult sess L R m r := by
  obtain ⟨hout, -, pend, out, mgr, dbg, num, bus, rfl⟩ := hR
  obtain ⟨ss, ed, n, bulk, seq, rfl⟩ := hM
  exact {
    result := Live.getN_put_same _ _ _
    replied := hout
    objects := fun k hk => Live.get_put_ne _ k 0x20000C _ (by simpa using hk)
    mode := rfl
    frame := fun m' hm => by subst hm; rfl }

/-- A command that only sets its result. -/
theorem RepliedTo.of_only_result {sess : Sess} {L M R : Live} {r : Nat} (hM : Prepared L M) (hR : RepliedTo sess (M.result r) R) :
    OnlyResult sess L R L.mode r := hM.mode ▸ RepliedTo.of_result (m := M.mode) hM hR

theorem OnlyResult.unchanged {sess : Sess} {L R : Live} {r : Nat} (h : OnlyResult sess L R L.mode r) : R.unreplied L = L :=
  h.frame R.mode h.mode

/-- The record differs in the pending enable alone. -/
theorem OnlyResult.frame_pendEnable {sess : Sess} {L R : Live} {p : Option Nat} {r : Nat}
    (h : OnlyResult sess L R { L.mode with pendEnable := p } r) :
    ({ R with mode := { R.mode with pendEnable := L.mode.pendEnable } } : Live).unreplied L = L :=
  h.frame _ (by rw [h.mode])

end Sys2Proof.Machine
end

section
/-! Commands 1 to 3 (03 R57 to R61). -/

namespace Sys2Proof.Machine

open Sys2Proof

/-! ### CMD_ENABLE -/

theorem Live.driving_false {L : Live} (hp : L.mode.st ≠ .precharge) (hr : L.mode.st ≠ .run) (hd : L.mode.st ≠ .derated) :
    L.driving = false := by
  simp [Live.driving, hp, hr, hd]

/-- An enable that neither waits nor is refused at once: STANDBY without a cool-down. -/
theorem Live.cmdEnable_standby {M : Live} (hst : M.mode.st = .standby) (hquarry : M.mode.quarryEntry = false)
    (hcool : M.cooling = false) (hid : M.unassigned = false) :
    M.cmdEnable = ({ M with mode := { M.mode with pendEnable := none } } : Live).actEnable := by
  have hdrive : M.driving = false := Live.driving_false (by simp [hst]) (by simp [hst]) (by simp [hst])
  simp [Live.cmdEnable, hst, hquarry, hcool, hid, hdrive]

theorem Live.cmdEnable_safe {M : Live} (hst : M.mode.st = .safe) (hquarry : M.mode.quarryEntry = false) (hid : M.unassigned = false) :
    M.cmdEnable = ({ M with mode := { M.mode with pendEnable := some (M.time.clk + sec 30) } } : Live).result 1 := by
  simp [Live.cmdEnable, hst, hquarry, hid]

theorem Live.cmdEnable_elsewhere {M : Live} (hst : M.mode.st = .service ∨ M.mode.st = .boot ∨ M.mode.st = .selftest)
    (hid : M.unassigned = false) : M.cmdEnable = M.result 2 := by
  rcases hst with hst | hst | hst <;> simp [Live.cmdEnable, Live.driving, hst, hid]

theorem Live.cmdEnable_unassigned {M : Live} (hquarry : M.mode.quarryEntry = false) (hid : M.unassigned = true) :
    M.cmdEnable = M.result 3 := by
  simp [Live.cmdEnable, hquarry, hid]

theorem Live.actEnable_refused {M : Live} (h : M.enableRefused = true) : M.actEnable = M.result 3 := by simp [Live.actEnable, h]

theorem Live.actEnable_starts {M : Live} (h : M.enableRefused = false) : M.actEnable = M.startPrecharge.result 0 := by
  simp [Live.actEnable, h]

theorem Prepared.enableRefused {L M : Live} (h : Prepared L M) (p : Option Nat) :
    ({ M with mode := { M.mode with pendEnable := p } } : Live).enableRefused = L.enableRefused := by
  obtain ⟨ss, ed, n, bulk, seq, rfl⟩ := h
  rfl

theorem Prepared.startSet {L M : Live} (h : Prepared L M) (p : Option Nat) :
    ({ M with mode := { M.mode with pendEnable := p } } : Live).startSet = L.startSet := by
  obtain ⟨ss, ed, n, bulk, seq, rfl⟩ := h
  rfl

theorem Prepared.cooling {L M : Live} (h : Prepared L M) : M.cooling = L.cooling := by
  obtain ⟨ss, ed, n, bulk, seq, rfl⟩ := h
  rfl

theorem Prepared.unassigned {L M : Live} (h : Prepared L M) : M.unassigned = L.unassigned := by
  obtain ⟨ss, ed, n, bulk, seq, rfl⟩ := h
  rfl

theorem Prepared.driving {L M : Live} (h : Prepared L M) : M.driving = L.driving := by
  simp [Live.driving, h.mode]

theorem Prepared.safeDone {L M : Live} (h : Prepared L M) : M.safeDone = L.safeDone := by simp [Live.safeDone, h.mode]

theorem Prepared.obeyed {L M : Live} (h : Prepared L M) : M.saf.obeyed = L.saf.obeyed := by
  obtain ⟨ss, ed, n, bulk, seq, rfl⟩ := h
  rfl

theorem Prepared.allReleased {L M : Live} (h : Prepared L M) : M.allReleased = L.allReleased := by
  obtain ⟨ss, ed, n, bulk, seq, rfl⟩ := h
  rfl

/-- The relay of the insulation monitor opens before the loop closes (10 R273). -/
theorem Live.setRelay_insRelay (L : Live) (on : Bool) : (L.setRelay on).pins.insRelay = on := by
  unfold Live.setRelay
  split
  · assumption
  · rfl

theorem Live.settleX_insRelay (L : Live) : L.settleX.pins.insRelay = L.pins.insRelay := by
  unfold Live.settleX
  extract_lets old
  split <;> rfl

theorem Live.dropX_insRelay (L : Live) : L.dropX.pins.insRelay = L.pins.insRelay := Live.settleX_insRelay _

/-- The loop closed (06 R133): both contacts, with the insulation relay open. -/
theorem Live.closeLoop_pins (L : Live) :
    L.closeLoop.pins.contactA = true ∧ L.closeLoop.pins.contactB = true ∧ L.closeLoop.pins.insRelay = false := by
  unfold Live.closeLoop
  simp only [Live.senseLoop_frame, Live.updExpect_frame, Live.dropX_keeps, Live.dropX_insRelay, Live.setRelay_insRelay, and_self]

/-- What setting FAST_OFF and closing the loop leave. -/
theorem Live.setFast_closeLoop (L : Live) (f : FastOff) :
    (L.setFast f).closeLoop.mode = L.mode ∧ (L.setFast f).closeLoop.conv = L.conv ∧ (L.setFast f).closeLoop.pins.fastOff = f := by
  simp [Live.closeLoop_frame, Live.closeLoop_keeps, Live.setFast_frame, Live.setFast_fastOff]

/-- PRECHARGE begins (06 R133): phase 1 with the segments that may start, FAST_OFF OFF and the loop closed. -/
theorem Live.startPrecharge_begins (L : Live) :
    L.startPrecharge.mode.pendEnable = none ∧ L.startPrecharge.conv.phase = 1 ∧ L.startPrecharge.conv.act = L.startSet ∧
      L.startPrecharge.pins.fastOff = .off ∧ L.startPrecharge.pins.contactA = true ∧ L.startPrecharge.pins.contactB = true ∧
      L.startPrecharge.pins.insRelay = false := by
  unfold Live.startPrecharge
  extract_lets
  obtain ⟨hmode, hconv, hfast⟩ := Live.setFast_closeLoop _ .off
  exact ⟨congrArg Mode.pendEnable hmode, congrArg Conv.phase hconv, congrArg Conv.act hconv, hfast, Live.closeLoop_pins _⟩

/-! ### CMD_DISABLE -/

/-- The shut-down that began at t runs, in state a. -/
def ShutsDown (t : Nat) (a : MState) (L : Live) : Prop :=
  L.mode.st = a ∧ ∃ q, L.mode.seq = some q ∧ q.kind = .shutdown ∧ q.since = t

/-- A step of the sequence that keeps its kind and its begin. -/
theorem ShutsDown.setSeq {t : Nat} {a : MState} {L M : Live} {f : Seq → Seq} (h : ShutsDown t a L) (hM : M.mode = L.mode)
    (hkind : ∀ q, (f q).kind = q.kind) (hsince : ∀ q, (f q).since = q.since) : ShutsDown t a (M.setSeq f) := by
  obtain ⟨hst, q, hq, hk, hs⟩ := h
  refine ⟨by simp [Live.setSeq, hM, hst], f q, by simp [Live.setSeq, hM, hq], ?_, ?_⟩
  · rw [hkind, hk]
  · rw [hsince, hs]

theorem ShutsDown.toStep2 {t : Nat} {a : MState} {L : Live} (h : ShutsDown t a L) : ShutsDown t a L.toStep2 :=
  h.setSeq (Live.setPath_frame _ _ _).1 (fun _ => rfl) (fun _ => rfl)

theorem ShutsDown.seq12 {t : Nat} {a : MState} {L : Live} (h : ShutsDown t a L) : ShutsDown t a L.seq12 := by
  unfold Live.seq12
  split
  · extract_lets isOver
    split
    · exact h.toStep2
    · exact h
  · exact h

theorem ShutsDown.seq23 {t : Nat} {a : MState} {L : Live} (h : ShutsDown t a L) : ShutsDown t a L.seq23 := by
  unfold Live.seq23
  split
  · split
    · exact h.setSeq (Live.openLoop_frame _).1 (fun _ => rfl) (fun _ => rfl)
    · exact h
  · exact h

theorem ShutsDown.seq34 {t : Nat} {a : MState} {L : Live} (h : ShutsDown t a L) : ShutsDown t a L.seq34 := by
  unfold Live.seq34
  split
  · split
    · exact h.setSeq rfl (fun _ => rfl) (fun _ => rfl)
    · exact h
  · exact h

/-- A shut-down that goes on still runs, or has ended in STANDBY (03 R52 T12). -/
theorem ShutsDown.seqOn {t : Nat} {a : MState} {L : Live} (h : ShutsDown t a L) :
    ShutsDown t a L.seqOn ∨ (L.seqOn.mode.st = .standby ∧ L.seqOn.mode.seq = none) := by
  have h34 := h.seq12.seq23.seq34
  unfold Live.seqOn Live.seq45
  split
  · split
    · obtain ⟨-, q, hq, hk, -⟩ := h34
      unfold Live.toStep5
      rw [hq]
      dsimp only
      rw [if_pos hk]
      exact .inr ⟨Live.enterStandby_st _ _, Live.enterStandby_seq _ _⟩
    · exact .inl h34
  · exact .inl h34

theorem Live.startShutdown_shutsDown (L : Live) :
    ShutsDown L.time.clk L.mode.st L.startShutdown ∨ (L.startShutdown.mode.st = .standby ∧ L.startShutdown.mode.seq = none) := by
  unfold Live.startShutdown
  extract_lets step _ _ M
  have hM : ShutsDown L.time.clk L.mode.st M := ⟨rfl, _, rfl, rfl, rfl⟩
  split
  · exact hM.toStep2.seqOn
  · exact .inl hM

/-- A shut-down of a driving module runs in its state, or has ended in STANDBY at once. -/
theorem Live.startShutdown_spec {L : Live} (h : L.driving = true) :
    (L.startShutdown.mode.st = L.mode.st ∨ L.startShutdown.mode.st = .standby) ∧
      (∀ q ∈ L.startShutdown.mode.seq.toList, q.kind = .shutdown ∧ q.since = L.time.clk) ∧
      (L.startShutdown.mode.st = L.mode.st → L.startShutdown.mode.seq.isSome) := by
  have hdrives : L.mode.st ≠ .standby := by
    intro e
    simp [Live.driving, e] at h
  rcases L.startShutdown_shutsDown with ⟨hst, q, hq, hk, hs⟩ | ⟨hst, hq⟩
  · simp [hst, hq, hk, hs]
  · simp [hst, hq, hdrives.symm]

theorem Live.cmdDisable_drives {M : Live} (hdrive : M.driving = true) (hseq : M.mode.seq = none) :
    M.cmdDisable = M.startShutdown.result 0 := by
  simp [Live.cmdDisable, hdrive, hseq]

theorem Live.cmdDisable_pending {M : Live} (hdrive : M.driving = false) (hpend : M.mode.pendEnable ≠ none) :
    M.cmdDisable = ({ M with mode := { M.mode with pendEnable := none } } : Live).result 5 := by
  have hsome : M.mode.pendEnable.isSome = true := Option.isSome_iff_ne_none.mpr hpend
  simp [Live.cmdDisable, Live.cancelPending, hdrive, hsome]

theorem Live.cmdDisable_idle {M : Live} (hdrive : M.driving = false) (hpend : M.mode.pendEnable = none) :
    M.cmdDisable = M.result 2 := by
  simp [Live.cmdDisable, hdrive, hpend]

/-! ### CMD_ACKNOWLEDGE -/

/-- The block with every latched cause cleared (03 R60, 10 R264). -/
def Live.clearLatches (L : Live) : Live :=
  let L := L.put 0x404001 0
  { L with saf := { L.saf with
    fastLatch := false
    hazard := false
    precharge := false
    supplyLoss := false
    holdoff := none
    deepUv := false
    released := List.replicate 13 false
    relSince := List.replicate 13 none } }

theorem Live.cmdAcknowledge_clears {M : Live} (hdone : M.safeDone = true) (hheld : M.getN 0x404002 = 0) (hobeyed : M.saf.obeyed = none)
    (hrel : M.allReleased = true) : M.cmdAcknowledge = (M.clearLatches.enterStandby 14).result 0 := by
  simp [Live.cmdAcknowledge, hdone, hheld, hobeyed, hrel, Live.clearLatches]

theorem Live.cmdAcknowledge_refused {M : Live}
    (h : M.safeDone = false ∨ M.getN 0x404002 ≠ 0 ∨ M.saf.obeyed ≠ none ∨ M.allReleased = false) : M.cmdAcknowledge = M.result 2 := by
  unfold Live.cmdAcknowledge
  rw [if_neg]
  rintro ⟨hdone, hheld, hobeyed, hrel⟩
  simp [hdone, hheld, hrel] at h
  simp [h] at hobeyed

theorem Live.abortChisel_get (L : Live) (cause k : Nat) (hk : k ≠ 0x320027) : (L.abortChisel cause).get k = L.get k := by
  unfold Live.abortChisel
  split
  · exact (Live.get_congr _ (L.put 0x320027 cause) k (by simp)).trans (Live.get_put_ne _ k 0x320027 _ hk)
  · rfl

theorem Live.raisePower_get (L : Live) (what cls : Nat) (key rest : Bytes) (k : Nat) : (L.raisePower what cls key rest).get k = L.get k :=
  Live.get_congr _ _ k (by simp)

/-- A change of the module state touches no object but the chisel's (07 R185). -/
theorem Live.setState_get (L : Live) (new : MState) (trig k : Nat) (hk : k ≠ 0x320027) : (L.setState new trig).get k = L.get k := by
  unfold Live.setState
  split
  · rfl
  · dsimp only
    rw [Live.raisePower_get]
    split
    · exact Live.abortChisel_get _ _ k hk
    · rfl

theorem Live.enterStandby_get (L : Live) (trig k : Nat) (hk : k ≠ 0x320027) : (L.enterStandby trig).get k = L.get k := by
  have hobj : (L.enterStandby trig).obj = (L.setState .standby trig).obj := by
    simp only [Live.enterStandby, Live.setFast_frame]
    split
    · simp [Live.setNmt_frame]
    · rfl
  exact (Live.get_congr _ _ k hobj).trans (L.setState_get .standby trig k hk)

/-- In STANDBY FAST_OFF is what a resting twin drives (02 R33). -/
theorem Live.enterStandby_fastOff (L : Live) (trig : Nat) : (L.enterStandby trig).pins.fastOff = (L.enterStandby trig).restFast := rfl

/-- What an acknowledged SAFE leaves (03 R60). -/
theorem Live.acknowledge_clears (L : Live) :
    ((L.clearLatches.enterStandby 14).result 0).mode.st = .standby ∧ ((L.clearLatches.enterStandby 14).result 0).mode.seq = none ∧
      ((L.clearLatches.enterStandby 14).result 0).getN 0x404001 = 0 ∧ ((L.clearLatches.enterStandby 14).result 0).getN 0x20000C = 0 ∧
      (L.clearLatches.enterStandby 14).saf.fastLatch = false ∧ (L.clearLatches.enterStandby 14).saf.hazard = false ∧
      (L.clearLatches.enterStandby 14).saf.supplyLoss = false ∧ (L.clearLatches.enterStandby 14).pins.contactA = L.pins.contactA := by
  have hlatched : (L.clearLatches.enterStandby 14).getN 0x404001 = 0 := by
    rw [Live.getN, Live.enterStandby_get _ _ _ (by decide)]
    exact Live.getN_put_same L 0x404001 0
  refine ⟨Live.enterStandby_st _ _, Live.enterStandby_seq _ _, ?_, Live.getN_put_same _ _ _, ?_, ?_, ?_, ?_⟩
  · exact (Live.getN_put_ne _ _ 0x20000C _ (by decide)).trans hlatched
  all_goals simp [Live.enterStandby_keeps, Live.clearLatches]

/-! ### The commands, as a session gives them -/

theorem exec_cmdEnable (sess : Sess) (s : State) : exec (.cmdEnable sess) s = run s (fun L => L.moduleRow sess 1 1 Live.cmdEnable) := rfl

theorem exec_cmdDisable (sess : Sess) (s : State) :
    exec (.cmdDisable sess) s = run s (fun L => L.moduleRow sess 1 2 Live.cmdDisable) := rfl

theorem exec_cmdAcknowledge (sess : Sess) (s : State) :
    exec (.cmdAcknowledge sess) s = run s (fun L => L.moduleRow sess 1 3 Live.cmdAcknowledge) := rfl

/-- What a granted session's module command answers. -/
theorem Granted.answers {c : Instr} {s : State} {sess : Sess} {level code : Nat} {f : Live → Live} {P : Live → Prop}
    (hg : Granted sess level s.live) (hc : exec c s = run s (fun L => L.moduleRow sess level code f))
    (hP : ∀ M R, Prepared s.live M → RepliedTo sess (f M) R → P R) : Answers c s P := by
  obtain ⟨hp, hserves, hlevel, hroom, hown, -⟩ := hg
  exact answers_of_granted hc ⟨hp, hserves, hlevel⟩ hroom hown hP

/-- Settles O6. -/
theorem enableDisableAcknowledge : Obligations.EnableDisableAcknowledge := by
  refine ⟨?_, ?_, ?_, ?_, ?_, ?_, ?_, ?_, ?_, ?_⟩
  · intro s sess hg hst hquarry hcool hok
    refine Granted.answers hg (exec_cmdEnable sess s) fun M R hM hR => ?_
    have hid : s.live.unassigned = false := by
      simp only [Live.enableRefused, Bool.or_eq_false_iff] at hok
      tauto
    rw [Live.cmdEnable_standby (hM.mode ▸ hst) (hM.mode ▸ hquarry) (hM.cooling ▸ hcool) (hM.unassigned ▸ hid),
      Live.actEnable_starts ((hM.enableRefused none).trans hok)] at hR
    obtain ⟨hpend, hphase, hact, hfast, hA, hB, hins⟩ := Live.startPrecharge_begins { M with mode := { M.mode with pendEnable := none } }
    obtain ⟨hmode, hpins, -, hconv, -⟩ := hR.keeps
    rw [hmode, hpins, hconv]
    exact ⟨Live.startPrecharge_st _, hpend, hR.result, hphase, hact.trans (hM.startSet none), hfast, hA, hB, hins, hR.1⟩
  · intro s sess hg hst hquarry hcool hid hno
    refine Granted.answers hg (exec_cmdEnable sess s) fun M R hM hR => ?_
    rw [Live.cmdEnable_standby (hM.mode ▸ hst) (hM.mode ▸ hquarry) (hM.cooling ▸ hcool) (hM.unassigned ▸ hid),
      Live.actEnable_refused ((hM.enableRefused none).trans hno), hM.mode] at hR
    have h := RepliedTo.of_result hM hR
    exact ⟨by rw [h.mode]; exact hst, by rw [h.mode], h.result, h.replied, h.frame_pendEnable, h.objects⟩
  · intro s sess hg hst hquarry hid
    refine Granted.answers hg (exec_cmdEnable sess s) fun M R hM hR => ?_
    rw [Live.cmdEnable_safe (hM.mode ▸ hst) (hM.mode ▸ hquarry) (hM.unassigned ▸ hid), hM.clk, hM.mode] at hR
    have h := RepliedTo.of_result hM hR
    exact ⟨by rw [h.mode], h.result, by rw [h.mode]; exact hst, h.replied, h.frame_pendEnable⟩
  · intro s sess hg hst hid
    refine Granted.answers hg (exec_cmdEnable sess s) fun M R hM hR => ?_
    rw [Live.cmdEnable_elsewhere (hM.mode ▸ hst) (hM.unassigned ▸ hid)] at hR
    have h := RepliedTo.of_only_result hM hR
    exact ⟨h.result, h.mode, h.unchanged⟩
  · intro s sess hg hquarry hid
    refine Granted.answers hg (exec_cmdEnable sess s) fun M R hM hR => ?_
    rw [Live.cmdEnable_unassigned (hM.mode ▸ hquarry) (hM.unassigned ▸ hid)] at hR
    have h := RepliedTo.of_only_result hM hR
    exact ⟨h.result, h.mode, h.replied, h.unchanged, h.objects⟩
  · intro s sess hg hdrive hseq
    refine Granted.answers hg (exec_cmdDisable sess s) fun M R hM hR => ?_
    rw [Live.cmdDisable_drives (hM.driving ▸ hdrive) (hM.mode ▸ hseq)] at hR
    obtain ⟨hmode, -⟩ := hR.keeps
    rw [hmode, ← hM.mode, ← hM.clk]
    obtain ⟨hst, hkeeps, hsome⟩ := Live.startShutdown_spec (hM.driving.trans hdrive)
    exact ⟨hR.result, hst, hkeeps, hsome, hR.1⟩
  · intro s sess hg hdrive hpend
    refine Granted.answers hg (exec_cmdDisable sess s) fun M R hM hR => ?_
    rw [Live.cmdDisable_pending (hM.driving ▸ hdrive) (hM.mode ▸ hpend), hM.mode] at hR
    have h := RepliedTo.of_result hM hR
    exact ⟨by rw [h.mode], h.result, h.replied, h.frame_pendEnable⟩
  · intro s sess hg hdrive hpend
    refine Granted.answers hg (exec_cmdDisable sess s) fun M R hM hR => ?_
    rw [Live.cmdDisable_idle (hM.driving ▸ hdrive) (hM.mode ▸ hpend)] at hR
    have h := RepliedTo.of_only_result hM hR
    exact ⟨h.result, h.replied, h.unchanged⟩
  · intro s sess hg hdone hheld hobeyed hrel
    refine Granted.answers hg (exec_cmdAcknowledge sess s) fun M R hM hR => ?_
    rw [Live.cmdAcknowledge_clears (hM.safeDone.trans hdone) ((hM.getN _).trans hheld) (hM.obeyed.trans hobeyed)
      (hM.allReleased.trans hrel)] at hR
    obtain ⟨hst, hseq, hlatched, -, hfl, hhaz, hsup, hA⟩ := M.acknowledge_clears
    obtain ⟨hmode, hpins, hsaf, -, -, -, hrest⟩ := hR.keeps
    rw [hR.getN 0x404001, hR.result, hmode, hpins, hsaf, hrest, ← hM.pins]
    exact ⟨hst, hseq, hlatched, rfl, hfl, hhaz, hsup, Live.enterStandby_fastOff _ _, hA, hR.1⟩
  · intro s sess hg hno
    refine Granted.answers hg (exec_cmdAcknowledge sess s) fun M R hM hR => ?_
    rw [← hM.safeDone, ← hM.getN, ← hM.obeyed, ← hM.allReleased] at hno
    rw [Live.cmdAcknowledge_refused hno] at hR
    have h := RepliedTo.of_only_result hM hR
    exact ⟨h.result, h.replied, h.unchanged, h.objects⟩

end Sys2Proof.Machine
end

section
/-! Commands 4 to 6, and the ends of the quarry entry and of hold-up (03 R57, R67; 02 R45, R46). -/

namespace Sys2Proof.Machine

open Sys2Proof

/-! ### CMD_ENTER_SERVICE and CMD_LEAVE_SERVICE -/

/-- The block in SERVICE, without a sequence and without a pending enable (03 R57). -/
def Live.inService (L : Live) : Live :=
  let M := L.setState .service 15
  { M with mode := { M.mode with seq := none, pendEnable := none } }

theorem Live.cmdEnterService_enters {M : Live} (h : (M.mode.st = .standby ∧ M.mode.quarryEntry = false) ∨ M.safeDone = true) :
    M.cmdEnterService = (M.inService.setFast M.inService.restFast).result (if M.mode.pendEnable.isSome then 5 else 0) := by
  have h' : (M.mode.st = .standby ∧ (!M.mode.quarryEntry) = true) ∨ M.safeDone = true := by simpa using h
  rw [Live.cmdEnterService, if_pos h']
  rfl

theorem Live.cmdEnterService_refused {M : Live} (h : M.driving = true) : M.cmdEnterService = M.result 2 := by
  have hst : M.mode.st ≠ .standby ∧ M.mode.st ≠ .safe := by
    constructor <;> intro e <;> simp [Live.driving, e] at h
  simp [Live.cmdEnterService, Live.safeDone, hst]

theorem Live.cmdLeaveService_leaves {M : Live} (hst : M.mode.st = .service) (hgold : M.getN 0x20000D ≠ 2) :
    M.cmdLeaveService = ((M.enterStandby 16).rejoinPair).result 0 := by
  simp [Live.cmdLeaveService, hst, hgold]

theorem Live.cmdLeaveService_golden {M : Live} (hst : M.mode.st = .service) (hgold : M.getN 0x20000D = 2) :
    M.cmdLeaveService = M.result 3 := by
  simp [Live.cmdLeaveService, hst, hgold]

theorem Live.rejoinPair_restFast (L : Live) : L.rejoinPair.restFast = L.restFast := by
  unfold Live.rejoinPair
  split <;> rfl

/-! ### CMD_ENTER_QUARRY -/

theorem Live.cmdEnterQuarry_enters {M : Live} (hst : M.mode.st = .standby ∨ M.mode.st = .service) (hquarry : M.mode.quarryEntry = false)
    (hopen : M.allOpen = true) (hlead : M.mgr.lead = false) :
    M.cmdEnterQuarry = ({ M with mode := { M.mode with quarryEntry := true } } : Live).result 0 := by
  rcases hst with hst | hst <;> simp [Live.cmdEnterQuarry, hst, hquarry, hopen, hlead]

theorem Live.cmdEnterQuarry_closed {M : Live} (hst : M.mode.st = .standby ∨ M.mode.st = .service) (hquarry : M.mode.quarryEntry = false)
    (hopen : M.allOpen = false) : M.cmdEnterQuarry = M.result 3 := by
  rcases hst with hst | hst <;> simp [Live.cmdEnterQuarry, hst, hquarry, hopen]

theorem Prepared.allOpen {L M : Live} (h : Prepared L M) : M.allOpen = L.allOpen := by simp [Live.allOpen, h.pins]

theorem Prepared.lead {L M : Live} (h : Prepared L M) : M.mgr.lead = L.mgr.lead := by
  obtain ⟨ss, ed, n, bulk, seq, rfl⟩ := h
  rfl

/-- The record differs in the entry to QUARRY alone. -/
theorem OnlyResult.frame_quarryEntry {sess : Sess} {L R : Live} {b : Bool} {r : Nat}
    (h : OnlyResult sess L R { L.mode with quarryEntry := b } r) :
    ({ R with mode := { R.mode with quarryEntry := L.mode.quarryEntry } } : Live).unreplied L = L :=
  h.frame _ (by rw [h.mode])

theorem exec_cmdEnterService (sess : Sess) (s : State) :
    exec (.cmdEnterService sess) s = run s (fun L => L.moduleRow sess 2 4 Live.cmdEnterService) := rfl

theorem exec_cmdLeaveService (sess : Sess) (s : State) :
    exec (.cmdLeaveService sess) s = run s (fun L => L.moduleRow sess 2 5 Live.cmdLeaveService) := rfl

theorem exec_cmdEnterQuarry (sess : Sess) (s : State) :
    exec (.cmdEnterQuarry sess) s = run s (fun L => L.moduleRow sess 2 6 Live.cmdEnterQuarry) := rfl

/-! ### QUARRY_ENTRY_COMPLETE and HOLDUP_SEAL_COMPLETE -/

theorem Live.powered_of_st {L : Live} (hq : L.mode.st ≠ .quarry) (ho : L.mode.st ≠ .off) : L.powered = true := by
  simp [Live.powered, hq, ho]

/-- QUARRY with every output released (03 R67). -/
theorem quarryEntryComplete_enters {s : State} (hentry : s.live.mode.quarryEntry = true)
    (hst : s.live.mode.st = .standby ∨ s.live.mode.st = .service) :
    Answers .quarryEntryComplete s (fun L => L.mode.st = .quarry ∧ L.pins.fastOff = .absent ∧ L.pins.contactA = false ∧
      L.pins.contactB = false ∧ L.pins.elementOpen = false ∧ L.pins.twinXLow = false ∧ L.pins.insRelay = false ∧
      L.pins.quarryRelays = true ∧ L.mode.seq = none ∧ L.mode.pendEnable = none) := by
  have hp : s.live.powered = true := by
    rcases hst with hst | hst <;> exact Live.powered_of_st (by simp [hst]) (by simp [hst])
  refine answers_of_run hp (show _ = execQuarryEntryComplete s from rfl) ?_
  rw [if_neg]
  · exact ⟨rfl, rfl, rfl, rfl, rfl, rfl, rfl, rfl, rfl, rfl⟩
  · rcases hst with hst | hst <;> simp [hentry, hst]

/-- The end of hold-up is OFF with every output released (02 R45, R46). -/
theorem holdupSealComplete_enters {s : State} (hp : s.live.powered = true) (hup : s.live.pins.holdup = true) :
    Answers .holdupSealComplete s (fun L => L.mode.st = .off ∧ L.pins.fastOff = .absent ∧ L.pins.contactA = false ∧
      L.pins.contactB = false ∧ L.pins.elementOpen = false ∧ L.pins.twinXLow = false ∧ L.pins.holdup = false ∧ L.pins.phyOn = false) := by
  refine answers_of_run hp (show _ = execHoldupSealComplete s from rfl) ?_
  rw [if_neg (by simp [hup])]
  exact ⟨rfl, rfl, rfl, rfl, rfl, rfl, rfl, rfl⟩

theorem holdupSealComplete_idle {s : State} (h : s.live.pins.holdup = false) : exec .holdupSealComplete s = .next s := by
  change execHoldupSealComplete s = _
  unfold execHoldupSealComplete run
  simp [h]

/-- Settles O7. -/
theorem serviceAndQuarryCommands : Obligations.ServiceAndQuarryCommands := by
  refine ⟨?_, ?_, ?_, ?_, ?_, ?_, ?_, ?_, fun s => holdupSealComplete_idle⟩
  · intro s sess hg hst
    refine Granted.answers hg (exec_cmdEnterService sess s) fun M R hM hR => ?_
    rw [← hM.mode, ← hM.safeDone] at hst
    rw [Live.cmdEnterService_enters hst, hM.mode] at hR
    obtain ⟨hmode, hpins, -⟩ := hR.keeps
    have hA : M.inService.pins.contactA = M.pins.contactA := by simp [Live.inService, Live.setState_frame]
    rw [hmode, hpins, ← hM.pins]
    refine ⟨Live.setState_st _ _ _, rfl, rfl, ?_, hA, hR.1⟩
    rw [hR.result]
    cases s.live.mode.pendEnable <;> rfl
  · intro s sess hg hdrive
    refine Granted.answers hg (exec_cmdEnterService sess s) fun M R hM hR => ?_
    rw [Live.cmdEnterService_refused (hM.driving.trans hdrive)] at hR
    have h := RepliedTo.of_only_result hM hR
    exact ⟨h.result, h.unchanged⟩
  · intro s sess hg hst hgold
    refine Granted.answers hg (exec_cmdLeaveService sess s) fun M R hM hR => ?_
    rw [Live.cmdLeaveService_leaves (hM.mode ▸ hst) (by rwa [hM.getN])] at hR
    obtain ⟨hmode, hpins, -, -, -, -, hrest⟩ := hR.keeps
    have hst' : (M.enterStandby 16).rejoinPair.mode.st = .standby := by simp [Live.rejoinPair_frame]
    have hfast : (M.enterStandby 16).rejoinPair.pins.fastOff = (M.enterStandby 16).rejoinPair.restFast := by
      rw [Live.rejoinPair_restFast, (Live.rejoinPair_frame _).2.1]
      exact Live.enterStandby_fastOff M 16
    rw [hmode, hpins, hrest]
    exact ⟨hst', hR.result, hfast, hR.1⟩
  · intro s sess hserved hroom hown hst hgold
    refine answers_of_granted (exec_cmdLeaveService sess s) hserved hroom hown fun M R hM hR => ?_
    rw [Live.cmdLeaveService_golden (hM.mode ▸ hst) ((hM.getN _).trans hgold)] at hR
    have h := RepliedTo.of_only_result hM hR
    exact ⟨by rw [h.mode]; exact hst, h.result, h.unchanged⟩
  · intro s sess hg hst hquarry hopen hlead
    refine Granted.answers hg (exec_cmdEnterQuarry sess s) fun M R hM hR => ?_
    rw [Live.cmdEnterQuarry_enters (hM.mode ▸ hst) (hM.mode ▸ hquarry) (hM.allOpen.trans hopen) (hM.lead.trans hlead), hM.mode] at hR
    have h := RepliedTo.of_result hM hR
    exact ⟨by rw [h.mode], h.result, h.replied, h.frame_quarryEntry⟩
  · intro s sess hg hst hquarry hopen
    refine Granted.answers hg (exec_cmdEnterQuarry sess s) fun M R hM hR => ?_
    rw [Live.cmdEnterQuarry_closed (hM.mode ▸ hst) (hM.mode ▸ hquarry) (hM.allOpen.trans hopen)] at hR
    have h := RepliedTo.of_only_result hM hR
    exact ⟨by rw [h.mode]; exact hquarry, h.result, h.unchanged⟩
  · exact fun s => quarryEntryComplete_enters
  · exact fun s => holdupSealComplete_enters

end Sys2Proof.Machine
end

section
/-! Every way into BOOT (03 R52 T1, T2, T4), and what it leaves (03 R50, R54, R63, R66). -/

namespace Sys2Proof.Machine

open Sys2Proof

/-- What a reset holds is read from the record, the outputs, the pair and the latched causes alone (03 R54). -/
theorem Live.holdsOff_congr {L M : Live} (hmode : M.mode = L.mode) (hpins : M.pins = L.pins) (hpair : M.twin.pair = L.twin.pair)
    (hp : M.twin.p = L.twin.p) (hget : M.getN 0x404001 = L.getN 0x404001) : M.holdsOff = L.holdsOff := by
  simp [Live.holdsOff, Live.inStep, Live.driving, Live.healthyPartner, hmode, hpins, hpair, hp, hget]

theorem Live.holdsOff_ev (L : Live) (src code cls : Nat) (key rest : Bytes) : (L.ev src code cls key rest).holdsOff = L.holdsOff :=
  Live.holdsOff_congr (by simp) (by simp) (by simp) (by simp) (Live.getN_congr _ _ _ (by simp))

/-- FAST_OFF is held over a reset that is a watchdog's or a command's (03 R54). -/
def Live.heldBy (L : Live) (trig : Nat) : Bool := decide (trig = 4) && L.holdsOff

/-- The event of a debug session that a reset ends. -/
def Live.portClosed (L : Live) : Live := if L.dbg.session.isSome then L.ev 127 3 1 [] (leBytes 1 3) else L

theorem Live.portClosed_heldBy (L : Live) (trig : Nat) : (decide (trig = 4) && L.portClosed.holdsOff) = L.heldBy trig := by
  have h : L.portClosed.holdsOff = L.holdsOff := by
    unfold Live.portClosed
    split
    · exact L.holdsOff_ev _ _ _ _ _
    · rfl
  rw [h, Live.heldBy]

theorem Live.portClosed_pins (L : Live) : L.portClosed.pins = L.pins := by simp [Live.portClosed]

/-- The state machine's record starts anew. -/
theorem Live.toBoot_mode (L : Live) (trig cause : Nat) :
    (L.toBoot trig cause).mode.seq = none ∧ (L.toBoot trig cause).mode.pendEnable = none ∧
      (L.toBoot trig cause).mode.holdOffB = L.heldBy trig := by
  rw [← L.portClosed_heldBy]
  simp [Live.toBoot, Live.portClosed]

/-- BOOT releases every output; FAST_OFF is OFF where the reset holds it, else ABSENT (03 R50, R54). -/
theorem Live.toBoot_pins (L : Live) (trig cause : Nat) :
    (L.toBoot trig cause).pins.fastOff = (if L.heldBy trig then .off else .absent) ∧ (L.toBoot trig cause).pins.contactA = false ∧
      (L.toBoot trig cause).pins.contactB = false ∧ (L.toBoot trig cause).pins.elementOpen = false ∧
      (L.toBoot trig cause).pins.twinXLow = false ∧ (L.toBoot trig cause).pins.aux1 = L.pins.aux1 ∧
      (L.toBoot trig cause).pins.aux2 = L.pins.aux2 := by
  rw [← L.portClosed_heldBy, ← L.portClosed_pins]
  simp [Live.toBoot, Live.portClosed, Live.resetReleases_frame, Live.setState_frame]

/-- BOOT holds no write, transaction or token, and no pair (03 R66). -/
theorem Live.toBoot_forgets (L : Live) (trig cause : Nat) :
    (L.toBoot trig cause).ks.pend = [] ∧ (L.toBoot trig cause).ks.txns = [] ∧ (L.toBoot trig cause).twin.holds = false ∧
      (L.toBoot trig cause).twin.pair = 0 := by
  simp [Live.toBoot, freshTwin]

theorem Live.endConds_getN (L : Live) (p : Cond → Bool) (k : Nat) : (L.endConds p).getN k = L.getN k :=
  Live.getN_congr _ _ _ (by simp)

/-- The reset cause is an object (03 R63). -/
theorem Live.toBoot_cause (L : Live) (trig cause : Nat) : (L.toBoot trig cause).getN 0x20000F = cause := by
  unfold Live.toBoot
  extract_lets
  rw [Live.endConds_getN, Live.getN_put_ne _ _ _ _ (by decide), Live.getN_put_ne _ _ _ _ (by decide), Live.getN_put_same,
    Int.toNat_natCast]

theorem Live.heldBy_supply (L : Live) {trig : Nat} (h : trig ≠ 4) : L.heldBy trig = false := by simp [Live.heldBy, h]

theorem Live.heldBy_reset (L : Live) : L.heldBy 4 = L.holdsOff := by simp [Live.heldBy]

/-- A result says nothing about what a reset holds, nor does what a command finds. -/
theorem Prepared.holdsOff_result {L M : Live} (h : Prepared L M) (r : Nat) : (M.result r).holdsOff = L.holdsOff := by
  have hget : (M.result r).getN 0x404001 = L.getN 0x404001 := (Live.getN_put_ne _ _ 0x20000C _ (by decide)).trans (h.getN _)
  obtain ⟨ss, ed, n, bulk, seq, rfl⟩ := h
  exact Live.holdsOff_congr rfl rfl rfl rfl hget

/-! ### The ways into BOOT -/

theorem exec_cmdReset (sess : Sess) (s : State) :
    exec (.cmdReset sess) s = run s (fun L => L.moduleRow sess 2 7 (fun L => (L.result 0).toBoot 4 1)) := rfl

theorem wakePulse_boots {s : State} {ms : Nat} (hq : s.live.mode.st = .quarry) (hms : 10 ≤ ms) :
    exec (.wakePulse ms) s = .next { s with live := s.live.toBoot 1 5 } := if_pos ⟨hq, hms⟩

theorem wakePulse_idle {s : State} {ms : Nat} (h : s.live.mode.st ≠ .quarry ∨ ms < 10) : exec (.wakePulse ms) s = .next s :=
  if_neg (by
    rintro ⟨hq, hms⟩
    rcases h with h | h
    · exact h hq
    · omega)

theorem watchdogExpiry_boots {s : State} (hp : s.live.powered = true) (h : s.live.dbg.halted = 0) :
    exec .watchdogExpiry s = .next { s with live := s.live.toBoot 4 2 } := by
  change execWatchdogExpiry s = _
  rw [execWatchdogExpiry, run_of_powered _ hp, if_pos h]

theorem watchdogExpiry_idle {s : State} (hp : s.live.powered = true) (h : s.live.dbg.halted ≠ 0) :
    exec .watchdogExpiry s = .next s := by
  change execWatchdogExpiry s = _
  rw [execWatchdogExpiry, run_of_powered _ hp, if_neg h]

/-- An aux input that returns in QUARRY or in OFF starts the module (02 R46, 03 R52 T1, T2). -/
theorem auxInputPresent_boots {s : State} {input : Fin 2} {mv : Nat} (hst : s.live.mode.st = .quarry ∨ s.live.mode.st = .off)
    (hmv : 17000 ≤ mv) (habs : (if input = 0 then s.live.pins.aux1 else s.live.pins.aux2) = false) :
    exec (.auxInputPresent input mv) s = .next { s with live :=
      if s.live.mode.st = .quarry then (s.live.auxBack input mv).toBoot 1 5 else (s.live.auxBack input mv).toBoot 2 0 } := by
  change execAuxInputPresent input mv s = _
  simp only [execAuxInputPresent, if_neg (Nat.not_lt.mpr hmv), habs, Bool.false_eq_true, if_false, Live.setAux_mode]
  rcases hst with hst | hst <;> simp [hst, Live.auxBack]

theorem Live.auxBack_present (L : Live) (input : Fin 2) (mv : Nat) :
    (if input = 0 then (L.auxBack input mv).pins.aux1 else (L.auxBack input mv).pins.aux2) = true := by
  by_cases h : input = 0 <;> simp [Live.auxBack, Live.setAux, h]

/-- Settles O4. -/
theorem resetsEnterBoot : Obligations.ResetsEnterBoot := by
  refine ⟨?_, fun s ms => wakePulse_idle, ?_, ?_, fun s => watchdogExpiry_idle, ?_, ?_, ?_⟩
  · intro s ms hq hms
    obtain ⟨hseq, -, -⟩ := s.live.toBoot_mode 1 5
    obtain ⟨hfast, hA, hB, -⟩ := s.live.toBoot_pins 1 5
    obtain ⟨hpend, -, hholds, hpair⟩ := s.live.toBoot_forgets 1 5
    rw [Live.heldBy_supply _ (by decide)] at hfast
    exact ⟨_, wakePulse_boots hq hms, Live.toBoot_st _ _ _, Live.toBoot_cause _ _ _, hfast, hA, hB, hseq, hpend, hholds, hpair⟩
  · intro s input mv hst hmv habs
    have hboot : ∀ trig cause, trig ≠ 4 → ∀ L, L = (s.live.auxBack input mv).toBoot trig cause →
        L.mode.st = .boot ∧ L.getN 0x20000F = cause ∧ L.pins.fastOff = .absent ∧
          ((if input = 0 then L.pins.aux1 else L.pins.aux2) = true) ∧ L.pins.contactA = false ∧ L.pins.contactB = false := by
      rintro trig cause htrig _ rfl
      obtain ⟨hfast, hA, hB, -, -, h1, h2⟩ := (s.live.auxBack input mv).toBoot_pins trig cause
      rw [Live.heldBy_supply _ htrig] at hfast
      rw [h1, h2]
      exact ⟨Live.toBoot_st _ _ _, Live.toBoot_cause _ _ _, hfast, Live.auxBack_present _ _ _, hA, hB⟩
    refine ⟨_, auxInputPresent_boots hst hmv habs, ?_⟩
    split
    · exact hboot 1 5 (by decide) _ rfl
    · exact hboot 2 0 (by decide) _ rfl
  · intro s hp hhalt
    obtain ⟨hseq, hpen, hhold⟩ := s.live.toBoot_mode 4 2
    obtain ⟨hfast, hA, hB, hel, hx, -⟩ := s.live.toBoot_pins 4 2
    obtain ⟨hpend, htxns, hholds, hpair⟩ := s.live.toBoot_forgets 4 2
    rw [Live.heldBy_reset] at hfast hhold
    exact ⟨_, watchdogExpiry_boots hp hhalt, Live.toBoot_st _ _ _, Live.toBoot_cause _ _ _, hfast, hhold, hA, hB, hel, hx, hseq, hpen,
      hpend, htxns, hholds, hpair⟩
  · intro s sess hg
    refine Granted.answers hg (exec_cmdReset sess s) fun M R hM hR => ?_
    obtain ⟨hseq, -, -⟩ := (M.result 0).toBoot_mode 4 1
    obtain ⟨hfast, hA, hB, -⟩ := (M.result 0).toBoot_pins 4 1
    obtain ⟨hpend, -, hholds, -⟩ := (M.result 0).toBoot_forgets 4 1
    rw [Live.heldBy_reset, hM.holdsOff_result] at hfast
    obtain ⟨hmode, hpins, -, -, htwin, -⟩ := hR.keeps
    have hcause := hR.getN 0x20000F
    obtain ⟨-, hks, -⟩ := hR
    rw [hmode, hpins, htwin, hks (Live.toBoot_st _ _ _), hcause]
    exact ⟨Live.toBoot_st _ _ _, Live.toBoot_cause _ _ _, hfast, hA, hB, hseq, hpend, hholds⟩
  · intro s hdrive hstep
    simp [Live.holdsOff, hdrive, hstep]
  · intro s hdrive hhold hst
    simp [Live.holdsOff, hdrive, hhold, hst]

end Sys2Proof.Machine
end

section
/-! SAMPLE_STROBE (04 R78, R82): the step that it applies is an event, and a breakpoint may wait for that event (18 R449). -/

namespace Sys2Proof.Machine

open Sys2Proof

theorem exec_sampleStrobe (s : State) :
    exec .sampleStrobe s = run s (fun L => (L.pass (10000 - L.time.mtime % 10000)).takeHits.applyStep) := rfl

theorem Live.sendEmcy_brkHit (L : Live) (eec err code cls seq : Nat) : (L.sendEmcy eec err code cls seq).rcd.brkHit = L.rcd.brkHit := by
  simp [Live.sendEmcy, apply_ite Live.rcd]

theorem Live.setConds_brkHit (L : Live) (cs : List Cond) : (L.setConds cs).rcd.brkHit = L.rcd.brkHit := by
  simp only [Live.setConds]
  split
  · exact Live.sendEmcy_brkHit _ _ _ _ _ _
  · rfl

/-- An event adds the breakpoints that it hits to those that wait for the next sample instant. -/
theorem Live.mem_raise_brkHit {L : Live} {src code i : Nat} (cls : Nat) (key rest : Bytes) (hi : i ∈ brkOnEvent L.dbg.brk src code) :
    i ∈ (L.raise src code cls key rest).rcd.brkHit := by
  simp only [Live.raise, Live.oweEmcy, Live.setConds_brkHit]
  exact List.mem_append_right _ hi

/-- A step of module time after the first one hits, where it is applied, the breakpoints on its event, 115 code 3. -/
theorem Live.mem_applyStep_brkHit {L : Live} {i : Nat} (hstep : L.time.stepPending ≠ 0) (hlater : L.time.firstPending = false)
    (hstill : L.timeDriving = false) (hi : i ∈ brkOnEvent L.dbg.brk 115 3) : i ∈ L.applyStep.rcd.brkHit := by
  simp only [Live.applyStep, hstep, hlater, hstill, false_and, Bool.false_eq_true, if_false]
  exact Live.mem_raise_brkHit _ _ _ hi

theorem Live.takeHits_brk {L : Live} (hnone : L.rcd.brkHit = []) : L.takeHits.dbg.brk = L.dbg.brk := by
  simp [Live.takeHits, hnone]

/-- After a strobe that applies a step, the breakpoints on the event of that step wait, though none waited before it. -/
theorem sampleStrobe_stepHits {s : State} {i : Nat} (hp : s.live.powered = true) (hstep : s.live.time.stepPending ≠ 0)
    (hlater : s.live.time.firstPending = false) (hstill : s.live.timeDriving = false) (hnone : s.live.rcd.brkHit = [])
    (hi : i ∈ brkOnEvent s.live.dbg.brk 115 3) : Answers .sampleStrobe s (fun L => i ∈ L.rcd.brkHit) := by
  refine answers_of_run hp (exec_sampleStrobe s) (Live.mem_applyStep_brkHit ?_ ?_ ?_ ?_)
  · simpa [Live.takeHits_frame] using hstep
  · simpa [Live.takeHits_frame, Live.pass] using hlater
  · simpa [Live.timeDriving, Live.driving, Live.takeHits_frame] using hstill
  · simpa [Live.takeHits_brk, hnone] using hi

/-- Refutes O9, the clause of SAMPLE_STROBE: it says that no breakpoint waits after a strobe before which none waited. A module in
STANDBY that follows bay time has a step of 10,000 ns pending, and breakpoint 0 halts LOG on event 115 code 3. The strobe applies the
step and records it (04 R82), and its event hits the breakpoint, which waits for the next sample instant (18 R449). -/
theorem not_timeMovesToItsInstants : ¬ Obligations.TimeMovesToItsInstants := by
  rintro ⟨hStrobe, -⟩
  let s : State :=
    { live := {
        mode := { st := .standby }
        time := { synced := true, provisional := false, stepPending := 10000 }
        dbg := { brk := some { kind := 3, param := 3 * 2 ^ 24 + 115 * 2 ^ 16 + 3, sess := 0x4000, node := 1 } :: List.replicate 7 none } } }
  obtain ⟨L, hexec, hwaits⟩ := sampleStrobe_stepHits (s := s) (i := 0) (by decide) (by decide) rfl (by decide) rfl (by decide)
  obtain ⟨-, -, -, hnone, -⟩ := of_answers hexec (hStrobe s (by decide))
  rcases hnone with hnone | hbefore
  · exact List.not_mem_nil (hnone ▸ hwaits)
  · exact hbefore rfl

end Sys2Proof.Machine
end

section
/-! SUPERFRAME_START (05 R89): which segments are fitted is what CTL has in force, 200 µs after the commit (04 R80). -/

namespace Sys2Proof.Machine

open Sys2Proof

theorem exec_superframeStart (s : State) : exec .superframeStart s = execSuperframeStart s := rfl

theorem Live.fittedSegs_congr {L M : Live} (h : L.ks = M.ks) : L.fittedSegs = M.fittedSegs := by
  have hfit : L.fittedCtl = M.fittedCtl := by
    funext k
    simp [Live.fittedCtl, Live.ctl, h]
  rw [Live.fittedSegs, Live.fittedSegs, hfit]

/-- No segment in force, no token report. -/
theorem Live.tokenReports_of_unfitted {L : Live} (whole : Bool) (hfit : L.fittedSegs = []) : L.tokenReports whole = L := by
  simp [Live.tokenReports, hfit]

theorem Live.minorityReports_ks (L : Live) : L.minorityReports.ks = L.ks := by
  simp [Live.minorityReports]

/-- Minority reports leave the counts of missed words alone. -/
theorem Live.minorityReports_missed (L : Live) (k : Nat) : (L.minorityReports.segAt k).missed = (L.segAt k).missed := by
  have hevents : ∀ l : List Nat, (l.foldl (fun (M : Live) s => M.segEv s 0 5 1 []) L).seg = L.seg := by simp
  simp only [Live.minorityReports, Live.segAt, List.getD_eq_getElem?_getD, List.getElem?_map, List.getElem?_zipIdx, hevents]
  cases L.seg[k]? <;> rfl

/-- No segment in force, no frame of a segment. -/
theorem Live.segFrames_of_unfitted {L : Live} (hfit : L.fittedSegs = []) : L.fittedSegs.foldl Live.segFrame L = L := by
  rw [hfit]
  rfl

/-- A superframe counts no missed word while no segment is in force as fitted. -/
theorem superframeStart_unfitted {s : State} (hw : Works 2 s.live) (hfit : s.live.fittedSegs = []) :
    Answers .superframeStart s (fun L => ∀ k, (L.segAt k).missed = (s.live.segAt k).missed) := by
  refine answers_of_runIn hw (exec_superframeStart s) fun k => ?_
  have hreports : s.live.minorityReports.fittedSegs = [] := (Live.fittedSegs_congr s.live.minorityReports_ks).trans hfit
  rw [Live.tokenReports_of_unfitted true hfit]
  dsimp only
  rw [Live.segFrames_of_unfitted]
  · exact s.live.minorityReports_missed k
  · exact hreports

/-- Refutes O14, the clause of SUPERFRAME_START: it asks for a missed word of each segment that the dictionary shows fitted. A module in
STANDBY has just committed that segment 3 is fitted; the commit takes effect in CTL 200 µs later (04 R80), so that no segment is in force
yet, and the superframe that starts meanwhile counts no missed word. -/
theorem not_superframesAndUplinks : ¬ Obligations.SuperframesAndUplinks := by
  rintro ⟨-, hStart, -⟩
  let s : State :=
    { live := {
        mode := { st := .standby }
        ks := { ctlDue := some 200000 }
        obj := [(0x340320, 1)] } }
  obtain ⟨L, hexec, hkept⟩ := superframeStart_unfitted (s := s) (by decide) (by decide)
  obtain ⟨hcounted, -⟩ := of_answers hexec (hStart s 3 (by decide) rfl (by decide))
  rw [hkept] at hcounted
  omega

end Sys2Proof.Machine
end

section
/-! One segment node changes: what stands in its place, and that every other node and the rest of the block stay. -/

namespace Sys2Proof.Machine

open Sys2Proof

theorem Node.not_unpowered {n : Node} (h : n.powered = true) : ¬ (!n.powered) = true := by simp [h]

theorem Live.modNode_otherNodes (L : Live) (k : Nat) (f : Node → Node) : OtherNodes k (L.modNode k f) L :=
  fun _ hj => L.modNode_other k _ f hj.symm

/-- A change under which the node stays as it is changes nothing. -/
theorem Live.modNode_of_fixed {L : Live} {k : Nat} {f : Node → Node} (h : f (L.nodeAt k) = L.nodeAt k) : L.modNode k f = L := by
  have hnode : L.node.modify k f = L.node := by
    refine List.ext_getElem? fun i => ?_
    rw [List.getElem?_modify]
    by_cases hi : k = i
    · subst hi
      cases hk : L.node[k]? with
      | none => rfl
      | some n =>
        have hn : L.nodeAt k = n := by simp [Live.nodeAt, List.getD_eq_getElem?_getD, hk]
        rw [hn] at h
        simp [h]
    · simp [hi]
  rw [Live.modNode, hnode]

theorem Live.modNode_at {L : Live} (hlen : L.node.length = 16) (k : Fin 16) (f : Node → Node) :
    (L.modNode k f).nodeAt k = f (L.nodeAt k) :=
  L.modNode_same k f (by omega)

/-- A row that changes one node: what is said of that node is said of its next state, and nothing else has changed. -/
theorem answers_of_modNode {c : Instr} {s : State} {k : Fin 16} {f : Node → Node} {P : Live → Prop} (hlen : s.live.node.length = 16)
    (hc : exec c s = .next { s with live := s.live.modNode k f })
    (hP : ∀ L, L.nodeAt k = f (s.live.nodeAt k) → OtherNodes k L s.live → { L with node := s.live.node } = s.live → P L) :
    Answers c s P :=
  ⟨_, hc, hP _ (Live.modNode_at hlen k f) (s.live.modNode_otherNodes k f) rfl⟩

/-- A row under which the node stays as it is changes nothing at all. -/
theorem answers_of_modNode_fixed {c : Instr} {s : State} {k : Fin 16} {f : Node → Node}
    (hc : exec c s = .next { s with live := s.live.modNode k f }) (h : f (s.live.nodeAt k) = s.live.nodeAt k) :
    Answers c s (fun L => L = s.live) :=
  ⟨_, hc, Live.modNode_of_fixed h⟩

end Sys2Proof.Machine
end

section
/-! The segment node of 05 R93 to R108: its restart, its superframe, a claim of its token, and its bypass. -/

namespace Sys2Proof.Machine

open Sys2Proof

/-! ### The restart (05 R108) -/

/-- A register that a restart keeps is carried over from the old registers where it is listed in them. -/
def Node.keepReg (n : Node) (st : Store) (a : Nat) : Store :=
  match n.regs.find a with
  | some v => st.put (nodeRegDefault a) a v
  | none => st

theorem Node.restart_regs (n : Node) : n.restart.regs = n.keepReg (n.keepReg [] 0x100) 0x101 := rfl

theorem Node.find_keepReg_same (n : Node) {st : Store} {a : Nat} (hst : st.find a = none) :
    ((n.keepReg st a).find a).getD (nodeRegDefault a) = (n.regs.find a).getD (nodeRegDefault a) := by
  unfold Node.keepReg
  split
  · next v hv => rw [Store.find_put_same, hv, Option.getD_some]
  · next hv => rw [hst, hv]

theorem Node.find_keepReg_ne (n : Node) (st : Store) {a b : Nat} (hab : a ≠ b) : (n.keepReg st b).find a = st.find a := by
  unfold Node.keepReg
  split
  · exact Store.find_put_ne _ _ _ _ _ hab
  · rfl

/-- TAG outlasts a restart. -/
theorem Node.restart_tag (n : Node) : n.restart.tag = n.tag := by
  rw [Node.tag, Node.reg, Node.restart_regs, n.find_keepReg_ne _ (by decide), n.find_keepReg_same rfl]
  rfl

/-- SEGMENT outlasts a restart. -/
theorem Node.restart_segment (n : Node) : n.restart.segment = n.segment := by
  rw [Node.segment, Node.reg, Node.restart_regs, n.find_keepReg_same (n.find_keepReg_ne [] (by decide))]
  rfl

theorem exec_nodePowerUp_of_idle {s : State} {node : Fin 16} (h : (s.live.nodeAt node).act = none) :
    exec (.nodePowerUp node) s = .next { s with live := s.live.modNode node Node.restart } := by
  change execNodePowerUp node s = _
  simp [execNodePowerUp, h]

/-! ### The superframe (05 R94 to R97, R106) -/

/-- MISS counts up to 4 without a command, and a command ends it (05 R106). -/
theorem Node.take_miss (n : Node) : n.take.miss = if n.next.isSome then 0 else min (n.miss + 1) 4 := by
  unfold Node.take
  split
  · next c hc => simp [hc]
  · next hnone =>
    dsimp only
    split
    · next h4 => simp [hnone, h4]
    · simp [hnone]

/-- The settled command is in force, and no commander is lost. -/
theorem Node.take_of_next {n : Node} (h : n.next.isSome = true) : n.take.cmd = n.next ∧ n.take.lost = false := by
  obtain ⟨c, hc⟩ := Option.isSome_iff_exists.mp h
  simp [Node.take, hc]

theorem Node.take_lost {n : Node} (hnext : n.next = none) (hmiss : 3 ≤ n.miss) : n.take.lost = true := by
  have hm : min (n.miss + 1) 4 = 4 := by omega
  simp [Node.take, hnext, hm]

theorem Node.take_keeps (n : Node) : n.take.epoch = n.epoch ∧ n.take.latch = n.latch := by
  unfold Node.take
  split
  · exact ⟨rfl, rfl⟩
  · dsimp only
    split <;> exact ⟨rfl, rfl⟩

/-- Two states of a node agree on what a superframe takes up at its start: the epoch, MISS, the command and its loss, the latch. -/
def Node.SameCommand (m n : Node) : Prop :=
  m.epoch = n.epoch ∧ m.miss = n.miss ∧ m.cmd = n.cmd ∧ m.lost = n.lost ∧ m.latch = n.latch

theorem Node.align_sameCommand (n : Node) (inBound : Bool) : (n.align inBound).SameCommand n := by
  unfold Node.align
  dsimp only
  split
  · split <;> exact ⟨rfl, rfl, rfl, rfl, rfl⟩
  · exact ⟨rfl, rfl, rfl, rfl, rfl⟩

theorem Node.sample_sameCommand (n : Node) (cells : Nat) (free : Nat → Nat) :
    (n.sample cells free).SameCommand n ∧ (n.sample cells free).claims = n.claims := by
  unfold Node.sample
  split <;> exact ⟨⟨rfl, rfl, rfl, rfl, rfl⟩, rfl⟩

theorem Node.bridge_sameCommand (n : Node) (cells : Nat) (free : Nat → Nat) :
    (n.bridge cells free).SameCommand n ∧ (n.bridge cells free).claims = n.claims :=
  Node.sample_sameCommand _ _ _

/-- The node as it sends the uplink of a superframe, with the CONFLICT of the last one still to be reported. -/
def Node.superframe (n : Node) (cells : Nat) (free : Nat → Nat) (inBound : Bool) : Node :=
  let m := (({ n with epoch := n.epoch + 1 } : Node).take.align inBound).applyWrites
  let m := ({ m with claims := [], base := (m.tport, m.gen), patternAge := m.patternAge.map (· + 1) } : Node).bridge cells free
  { m with nstat := m.state }

/-- A powered node runs its superframe and sends its frame on both ports. -/
theorem Live.nodeFrame_of_powered {L : Live} {k : Nat} (inBound : Bool) (h : (L.nodeAt k).powered = true) :
    let free := freeNat L.free
    let n := (L.nodeAt k).superframe (Config.nodeCells k) free inBound
    L.nodeFrame k inBound = (({ L with free := L.free + 49 }.modNode k fun _ => { n with conflict := false }).emit
      (.uplink k 0 (n.uplink 0 free))).emit (.uplink k 1 (n.uplink 1 free)) :=
  if_neg (Node.not_unpowered h)

theorem Live.nodeFrame_nodeAt {L : Live} {k : Fin 16} (inBound : Bool) (hlen : L.node.length = 16) (h : (L.nodeAt k).powered = true) :
    (L.nodeFrame k inBound).nodeAt k =
      { (L.nodeAt k).superframe (Config.nodeCells k) (freeNat L.free) inBound with conflict := false } := by
  rw [Live.nodeFrame_of_powered inBound h]
  exact Live.modNode_at (L := { L with free := L.free + 49 }) hlen k _

/-- Beside its node a superframe changes the outbox, by two frames, and the counter of free values. -/
theorem Live.nodeFrame_rest {L : Live} {k : Nat} (inBound : Bool) (h : (L.nodeAt k).powered = true) :
    (L.nodeFrame k inBound).out.length = L.out.length + 2 ∧ OtherNodes k (L.nodeFrame k inBound) L ∧
      { L.nodeFrame k inBound with node := L.node, out := L.out, free := L.free } = L := by
  rw [Live.nodeFrame_of_powered inBound h]
  exact ⟨rfl, Live.modNode_otherNodes _ _ _, rfl⟩

theorem Node.superframe_takes (n : Node) (cells : Nat) (free : Nat → Nat) (inBound : Bool) :
    (n.superframe cells free inBound).SameCommand { n with epoch := n.epoch + 1 }.take ∧
      (n.superframe cells free inBound).claims = [] := by
  obtain ⟨he, hm, hc, hl, hla⟩ := Node.align_sameCommand ({ n with epoch := n.epoch + 1 } : Node).take inBound
  obtain ⟨⟨he', hm', hc', hl', hla'⟩, hcl⟩ := Node.bridge_sameCommand _ cells free
  exact ⟨⟨he'.trans he, hm'.trans hm, hc'.trans hc, hl'.trans hl, hla'.trans hla⟩, hcl⟩

/-- What a superframe does to a node (05 R95, R106). -/
theorem Node.superframe_spec (n : Node) (cells : Nat) (free : Nat → Nat) (inBound : Bool) :
    let m := n.superframe cells free inBound
    m.epoch = n.epoch + 1 ∧ (m.miss = if n.next.isSome then 0 else min (n.miss + 1) 4) ∧
      (n.next.isSome = true → m.cmd = n.next ∧ m.lost = false) ∧ (n.next = none ∧ 3 ≤ n.miss → m.lost = true) ∧
      m.claims = [] ∧ m.latch = n.latch := by
  obtain ⟨⟨he, hm, hc, hl, hla⟩, hcl⟩ := n.superframe_takes cells free inBound
  obtain ⟨hte, htl⟩ := Node.take_keeps ({ n with epoch := n.epoch + 1 } : Node)
  refine ⟨he.trans hte, hm.trans (Node.take_miss _), fun hn => ?_, fun ⟨hn, h3⟩ => hl.trans (Node.take_lost hn h3), hcl,
    hla.trans htl⟩
  obtain ⟨htc, htlost⟩ := Node.take_of_next (n := { n with epoch := n.epoch + 1 }) hn
  exact ⟨hc.trans htc, hl.trans htlost⟩

theorem nodeSuperframeStart_idle {s : State} {node : Fin 16} (inBound : Bool) (h : (s.live.nodeAt node).powered = false) :
    exec (.nodeSuperframeStart node inBound) s = .next s := by
  change execNodeSuperframeStart node inBound s = _
  simp [execNodeSuperframeStart, Live.nodeFrame, h]

/-! ### A claim of the token (05 R93, R99) -/

/-- A frame that the line or its own checks refuse is not taken. -/
theorem Node.rxDown_refused {n : Node} {frame : Bytes} {lineOk : Bool} (port : Nat) (h : lineOk = false ∨ parseDown n.tag frame = none) :
    n.rxDown port frame lineOk = n := by
  rcases h with rfl | h
  · rfl
  · cases lineOk <;> simp [Node.rxDown, h]

/-- A claim is recorded for its port and the token settled by it; the command in force stays. A node without a commissioned SEGMENT
compares none (log 175). -/
theorem Node.rxDown_claim {n : Node} {port : Nat} {frame : Bytes} {fr : DownFrame} (hparse : parseDown n.tag frame = some fr)
    (htok : fr.tok = true) (hseg : fr.seg = n.segment ∨ n.segment = 255) (hside : fr.side = (port, port))
    (hseq : fr.seq = (n.epoch + 1) % 65536) :
    (n.rxDown port frame true).claim port = some (fr.tgen, fr.cmd) ∧ (n.rxDown port frame true).cmd = n.cmd := by
  have hrx : n.rxDown port frame true =
      { n with claims := (port, fr.tgen, fr.cmd) :: n.claims.filter (fun c => c.1 != port) }.settle := by
    simp [Node.rxDown, hparse, htok, hseg, hside, hseq]
  rw [hrx]
  exact ⟨by simp [Node.claim, Node.settle], rfl⟩

/-! ### Bypass (05 R95, R103, R107) -/

/-- What dark ports leave: no lock, and the latch after 100 µs. -/
theorem Node.portsDark_latch (n : Node) (us : Nat) :
    let m : Node := { n with dark := us, lock := (false, false) }
    let m := if 100 ≤ us then m.setLatch else m
    m.latch = (n.latch || decide (100 ≤ us)) ∧ m.lock = (false, false) ∧ m.dark = us := by
  dsimp only
  split
  · next h => simp [Node.setLatch, Node.bypassNow, h]
  · next h => simp [h]

/-- Settles O16. -/
theorem nodeStateAndLatch : Obligations.NodeStateAndLatch := by
  refine ⟨?_, ?_, ?_, fun s node inBound => nodeSuperframeStart_idle inBound, ?_, ?_, ?_, ?_, ?_, ?_, ?_⟩
  · intro s node hlen hact
    refine answers_of_modNode hlen (exec_nodePowerUp_of_idle hact) fun L hn hother hframe => ?_
    rw [hn]
    exact ⟨rfl, Node.restart_tag _, Node.restart_segment _, rfl, rfl, rfl, rfl, hother, hframe⟩
  · intro s node port hlen hp
    refine answers_of_modNode hlen rfl fun L hn hother hframe => ?_
    rw [if_neg (Node.not_unpowered hp)] at hn
    rw [hn]
    refine ⟨?_, rfl, hother, hframe⟩
    by_cases h : port = 0 <;> simp [h]
  · intro s node inBound hlen hp
    obtain ⟨hout, hother, hframe⟩ := Live.nodeFrame_rest inBound hp
    obtain ⟨he, hm, hc, hl, hcl, hla⟩ := (s.live.nodeAt node).superframe_spec (Config.nodeCells node) (freeNat s.live.free) inBound
    refine ⟨s.live.nodeFrame node inBound, rfl, ?_⟩
    beta_reduce
    rw [Live.nodeFrame_nodeAt inBound hlen hp]
    exact ⟨he, hm, hc, hl, hcl, hla, hout, hother, hframe⟩
  · intro s node port frame lineOk h
    refine answers_of_modNode_fixed rfl ?_
    rw [Node.rxDown_refused _ h, ite_self]
  · intro s node port frame fr hlen hp hparse htok hseg hside hseq
    refine answers_of_modNode hlen rfl fun L hn hother hframe => ?_
    rw [if_pos hp] at hn
    obtain ⟨hclaim, hcmd⟩ := Node.rxDown_claim hparse htok hseg hside hseq
    rw [hn]
    exact ⟨hclaim, hcmd, hother, hframe⟩
  · intro s node high hlen hp
    refine answers_of_modNode hlen rfl fun L hn hother hframe => ?_
    rw [if_neg (Node.not_unpowered hp)] at hn
    rw [hn]
    cases high <;> exact ⟨rfl, rfl, fun _ => rfl, hother, hframe⟩
  · intro s node periods hlen h
    refine answers_of_modNode hlen rfl fun L hn hother hframe => ?_
    rw [if_pos h] at hn
    rw [hn]
    exact ⟨rfl, rfl, hother, hframe⟩
  · exact fun s node periods h => answers_of_modNode_fixed rfl (if_neg (Nat.not_le.mpr h))
  · intro s node us hlen
    refine answers_of_modNode hlen rfl fun L hn hother hframe => ?_
    obtain ⟨hlatch, hlock, hdark⟩ := (s.live.nodeAt node).portsDark_latch us
    rw [hn]
    exact ⟨hlatch, hlock, hdark, hother, hframe⟩
  · intro s node passed hlen hp
    refine answers_of_modNode hlen rfl fun L hn hother hframe => ?_
    rw [if_pos hp] at hn
    rw [hn]
    exact ⟨rfl, hother, hframe⟩

end Sys2Proof.Machine
end

section
/-! The management channel of a segment node (05 R109, R110; R98, R105): a request is answered with a result, and done where that is 0. -/

namespace Sys2Proof.Machine

open Sys2Proof

/-! ### Requests and their results -/

/-- A request with result 0 is answered so, and the node changes. -/
theorem answers_of_request_taken {c : Instr} {s : State} {k : Fin 16} {f : Node → Node} {port op tag r : Nat} {P : Live → Prop}
    (hlen : s.live.node.length = 16)
    (hc : exec c s = .next { s with live := (if r = 0 then s.live.modNode k f else s.live).nodeAnswer k port op tag r [] })
    (hr : r = 0)
    (hP : ∀ L, L.out = .nodeResp k port (mgmtResp op tag 0 []) :: s.live.out → L.nodeAt k = f (s.live.nodeAt k) →
      OtherNodes k L s.live → { L with node := s.live.node, out := s.live.out } = s.live → P L) :
    Answers c s P := by
  subst hr
  rw [if_pos rfl] at hc
  exact ⟨_, hc, hP _ rfl (Live.modNode_at hlen k f) (s.live.modNode_otherNodes k f) rfl⟩

/-- A request that is answered and changes no node. -/
theorem answers_of_nodeAnswer {c : Instr} {s : State} {k port op tag r : Nat} {data : Bytes}
    (hc : exec c s = .next { s with live := s.live.nodeAnswer k port op tag r data }) :
    Answers c s (fun L => L.out = .nodeResp k port (mgmtResp op tag r data) :: s.live.out ∧ { L with out := s.live.out } = s.live) :=
  ⟨_, hc, rfl, rfl⟩

/-- A request with another result is answered with it and changes no node. -/
theorem answers_of_request_refused {c : Instr} {s : State} {k port op tag r v : Nat} {M : Live}
    (hc : exec c s = .next { s with live := (if r = 0 then M else s.live).nodeAnswer k port op tag r [] }) (hr : r = v) (hv : v ≠ 0) :
    Answers c s (fun L => L.out = .nodeResp k port (mgmtResp op tag v []) :: s.live.out ∧ { L with out := s.live.out } = s.live) := by
  subst hr
  rw [if_neg hv] at hc
  exact answers_of_nodeAnswer hc

/-- A node that is not updating refuses with result 3 what does not come from its token port (05 R109). -/
theorem Node.needBypass_offPort {n : Node} {port : Nat} (hu : n.updating = false) (hport : n.tport ≠ port + 1) :
    n.needBypass port = 3 := by
  simp [Node.needBypass, Node.fromP, hu, hport]

/-- No hard-bypass pattern has been received for 100 ms (05 R105). -/
def Node.patternQuiet (n : Node) : Bool :=
  match n.patternAge with
  | none => true
  | some a => decide (10000 ≤ a)

theorem Node.patternQuiet_iff (n : Node) : n.patternQuiet = true ↔ n.patternAge = none ∨ 10000 ≤ n.patternAge.getD 0 := by
  unfold Node.patternQuiet
  cases n.patternAge <;> simp

theorem Node.patternQuiet_of_recent {n : Node} (h : ∃ a ∈ n.patternAge, a < 10000) : n.patternQuiet = false := by
  obtain ⟨a, ha, hlt⟩ := h
  simpa [Node.patternQuiet, Option.mem_def.mp ha] using hlt

/-- Result of a LATCH_RELEASE (05 R105, R98). -/
def Node.releaseResult (n : Node) (port : Nat) (checkOk : Bool) : Nat :=
  if n.needBypass port ≠ 0 then n.needBypass port else if n.patternQuiet && checkOk then 0 else 5

theorem Node.releaseResult_quiet {n : Node} {port : Nat} (hb : n.needBypass port = 0)
    (hq : n.patternAge = none ∨ 10000 ≤ n.patternAge.getD 0) : n.releaseResult port true = 0 := by
  simp [Node.releaseResult, hb, n.patternQuiet_iff.mpr hq]

theorem Node.releaseResult_refused {n : Node} {port : Nat} {checkOk : Bool} (hb : n.needBypass port = 0)
    (h : (∃ a ∈ n.patternAge, a < 10000) ∨ checkOk = false) : n.releaseResult port checkOk = 5 := by
  rcases h with h | h
  · simp [Node.releaseResult, hb, Node.patternQuiet_of_recent h]
  · simp [Node.releaseResult, hb, h]

/-! ### The requests of a powered node -/

section
variable {s : State} {node : Fin 16} (port : Fin 2) (tag : Byte) (hp : (s.live.nodeAt node).powered = true)
include hp

theorem exec_mgmtRead_readable {addr len : Nat} (hu : (s.live.nodeAt node).updating = false) (hlen : len ≤ 40)
    (hr : nodeReadable addr len = true) :
    exec (.mgmtRead node port tag addr len) s = .next { s with
      live := s.live.nodeAnswer node port 1 tag.toNat 0
        ((List.range len).map fun i => BitVec.ofNat 8 ((s.live.nodeAt node).byte node (addr + i))) } := by
  change execMgmtRead node port tag addr len s = _
  simp [execMgmtRead, hp, hu, hr, Nat.not_lt.mpr hlen]

theorem exec_mgmtRead_unreadable {addr len : Nat} (hu : (s.live.nodeAt node).updating = false)
    (hr : 40 < len ∨ nodeReadable addr len = false) :
    exec (.mgmtRead node port tag addr len) s = .next { s with live := s.live.nodeAnswer node port 1 tag.toNat 2 [] } := by
  change execMgmtRead node port tag addr len s = _
  simp [execMgmtRead, hp, hu, hr]

theorem exec_mgmtRead_updating (addr len : Nat) (hu : (s.live.nodeAt node).updating = true) :
    exec (.mgmtRead node port tag addr len) s = .next { s with live := s.live.nodeAnswer node port 1 tag.toNat 6 [] } := by
  change execMgmtRead node port tag addr len s = _
  simp [execMgmtRead, hp, hu]

theorem exec_mgmtWrite_powered (addr : Nat) (data : Bytes) :
    let r := (s.live.nodeAt node).writeResult port addr data
    exec (.mgmtWrite node port tag addr data) s = .next { s with
      live := (if r = 0 then s.live.modNode node (fun n => { n with staged := n.staged ++ [(addr, data)] }) else s.live).nodeAnswer
        node port 2 tag.toNat r [] } :=
  if_neg (Node.not_unpowered hp)

theorem exec_imageBlock_powered (block : Nat) (data : Bytes) :
    let b := (s.live.nodeAt node).needBypass port
    let r := if b = 0 ∧ data.length ≠ 64 then 2 else b
    exec (.imageBlock node port tag block data) s = .next { s with
      live := (if r = 0 then s.live.modNode node (fun n => { n with blocks := putSlot n.blocks block data }) else s.live).nodeAnswer
        node port 0x10 tag.toNat r [] } :=
  if_neg (Node.not_unpowered hp)

theorem exec_imageActivate_matching {digest : Bytes} (hb : (s.live.nodeAt node).needBypass port = 0)
    (hd : digest = Config.sha256 ((s.live.nodeAt node).blocks.map (·.2)).flatten) :
    exec (.imageActivate node port tag digest) s = .next { s with
      live := s.live.modNode node fun n =>
        { n with updating := true, nstat := 7, act := some (port.val, tag, digest) }.bypassNow } := by
  change execImageActivate node port tag digest s = _
  simp [execImageActivate, hp, hb, ← hd]

theorem exec_latchRelease_powered (checkOk : Bool) :
    let r := (s.live.nodeAt node).releaseResult port checkOk
    exec (.latchRelease node port tag checkOk) s = .next { s with
      live := (if r = 0 then s.live.modNode node (fun n =>
          let n := { n with latch := false, bridgeFault := false, nodeFault := false, desatHigh := false, desatLow := false }
          { n with nstat := n.state })
        else s.live).nodeAnswer node port 0x20 tag.toNat r [] } :=
  if_neg (Node.not_unpowered hp)

theorem exec_comparatorTest_powered (passed : Bool) :
    let r := (s.live.nodeAt node).needBypass port
    exec (.comparatorTest node port tag passed) s = .next { s with
      live := (if r = 0 then s.live.modNode node (fun n => { n with cmptest := !passed }) else s.live).nodeAnswer
        node port 0x21 tag.toNat r [] } :=
  if_neg (Node.not_unpowered hp)

end

/-- Settles O17. -/
theorem nodeManagementChannel : Obligations.NodeManagementChannel := by
  refine ⟨?_, ?_, ?_, ?_, ?_, ?_, ?_, ?_, ?_, ?_⟩
  · exact fun s node port tag addr len hp hu hlen hr => answers_of_nodeAnswer (exec_mgmtRead_readable port tag hp hu hlen hr)
  · exact fun s node port tag addr len hp hu hr => answers_of_nodeAnswer (exec_mgmtRead_unreadable port tag hp hu hr)
  · exact fun s node port tag addr len hp hu => answers_of_nodeAnswer (exec_mgmtRead_updating port tag hp addr len hu)
  · intro s node port tag addr data hlen hp
    by_cases hr : (s.live.nodeAt node).writeResult port addr data = 0
    · refine answers_of_request_taken hlen (exec_mgmtWrite_powered port tag hp addr data) hr fun L hout hn hother hframe => ?_
      rw [hn, hr, if_pos rfl]
      exact ⟨hout, rfl, rfl, hother, hframe⟩
    · refine ⟨_, exec_mgmtWrite_powered port tag hp addr data, ?_⟩
      simp only [if_neg hr, List.append_nil]
      exact ⟨rfl, rfl, rfl, fun _ _ => rfl, rfl⟩
  · intro s node port tag block data hlen hp hb hdata
    refine answers_of_request_taken hlen (exec_imageBlock_powered port tag hp block data) (by simp [hb, hdata])
      fun L hout hn hother hframe => ?_
    rw [hn]
    exact ⟨hout, rfl, hother, hframe⟩
  · intro s node port tag block data hp hu hport
    exact answers_of_request_refused (exec_imageBlock_powered port tag hp block data)
      (by simp [Node.needBypass_offPort hu hport]) (by decide)
  · intro s node port tag digest hlen hp hb hd
    refine answers_of_modNode hlen (exec_imageActivate_matching port tag hp hb hd) fun L hn hother hframe => ?_
    rw [hn]
    exact ⟨rfl, rfl, rfl, hother, hframe⟩
  · rintro s node port tag _ hlen hp hb hq rfl
    refine answers_of_request_taken hlen (exec_latchRelease_powered port tag hp true) (Node.releaseResult_quiet hb hq)
      fun L hout hn hother hframe => ?_
    rw [hn]
    exact ⟨hout, rfl, rfl, rfl, hother, hframe⟩
  · intro s node port tag checkOk hlen hp hb h
    exact answers_of_request_refused (exec_latchRelease_powered port tag hp checkOk) (Node.releaseResult_refused hb h) (by decide)
  · intro s node port tag passed hlen hp hb
    refine answers_of_request_taken hlen (exec_comparatorTest_powered port tag hp passed) hb fun L hout hn hother hframe => ?_
    rw [hn]
    exact ⟨hout, rfl, hother, hframe⟩

end Sys2Proof.Machine
end

section
/-! Fold-back (06 R127): the three ranges of the bus voltage, and the current limits under it (06 R128). -/

namespace Sys2Proof.Machine

open Sys2Proof

theorem minQ_eq_min (a b : Rat) : minQ a b = min a b := (min_def a b).symm

theorem maxQ_eq_max (a b : Rat) : maxQ a b = max a b := (max_def a b).symm

theorem divQ_of_ne_zero (a : Rat) {b : Rat} (h : b ≠ 0) : divQ a b = a / b := if_neg h

section FoldBack

variable {L : Live} {v : Rat} (hn : 0 < L.vNom)
include hn

theorem Live.foldBack_high (h : 1 / 2 ≤ v / L.vNom) : L.foldBack v = L.iMax := by
  simp only [Live.foldBack, divQ_of_ne_zero v hn.ne', if_pos h]

theorem Live.foldBack_between (hlow : 1 / 10 < v / L.vNom) (hhigh : v / L.vNom < 1 / 2) :
    L.foldBack v = L.iMax * (5 / 100 + 2375 / 1000 * (v / L.vNom - 1 / 10)) := by
  simp only [Live.foldBack, divQ_of_ne_zero v hn.ne', if_neg (not_le.mpr hhigh), if_neg (not_le.mpr hlow)]

theorem Live.foldBack_low (h : v / L.vNom ≤ 1 / 10) : L.foldBack v = 5 / 100 * L.iMax := by
  have hhalf : ¬ 1 / 2 ≤ v / L.vNom := by linarith
  simp only [Live.foldBack, divQ_of_ne_zero v hn.ne', if_neg hhalf, if_pos h]

theorem Live.foldBack_nonneg (hi : 0 ≤ L.iMax) : 0 ≤ L.foldBack v := by
  rcases le_or_gt (1 / 2) (v / L.vNom) with hhigh | hhigh
  · rw [Live.foldBack_high hn hhigh]
    exact hi
  · rcases le_or_gt (v / L.vNom) (1 / 10) with hlow | hlow
    · rw [Live.foldBack_low hn hlow]
      exact mul_nonneg (by norm_num) hi
    · rw [Live.foldBack_between hn hlow hhigh]
      exact mul_nonneg hi (by linarith)

end FoldBack

/-- A limit that is 0 or the lesser of m and another, and never below 0, stays within a bound of m. -/
theorem cappedLimit_le {m f : Rat} (l : Rat) (p : Prop) [Decidable p] (hm : m ≤ f) (hf : 0 ≤ f) :
    maxQ (if p then 0 else minQ m l) 0 ≤ f := by
  rw [maxQ_eq_max, minQ_eq_min]
  refine max_le ?_ hf
  split
  · exact hf
  · exact (min_le_left m l).trans hm

theorem Live.limits_le_foldBack {L : Live} {v : Rat} (h : Rat) (hf : 0 ≤ L.foldBack v) :
    (L.limits h v).1 ≤ L.foldBack v ∧ (L.limits h v).2 ≤ L.foldBack v := by
  have hm : minQ (minQ L.iMax (L.foldBack v)) (minQ (L.headScale h * L.iMax) (L.thermScale * L.iMax)) ≤ L.foldBack v := by
    simp [minQ_eq_min]
  exact ⟨cappedLimit_le _ _ hm hf, cappedLimit_le _ _ hm hf⟩

/-- Settles O58: the three ranges are read off the definition, and a fold-back that is not negative bounds both limits. -/
theorem foldBackLimitsTheCurrent : Obligations.FoldBackLimitsTheCurrent := fun _ _ h hn hi =>
  ⟨Live.foldBack_high hn, Live.foldBack_between hn, Live.foldBack_low hn, Live.limits_le_foldBack h (Live.foldBack_nonneg hn hi)⟩

end Sys2Proof.Machine
end

section
/-! What a row of an island that works leaves, once it is known. -/

namespace Sys2Proof.Machine

open Sys2Proof

theorem exec_of_works {c : Instr} {i : Nat} {s : State} {f : Live → Live} {M : Live} (hw : Works i s.live)
    (hc : exec c s = runIn i s f) (hf : f s.live = M) : exec c s = .next { s with live := M } := by
  rw [hc, runIn_of_works f hw, hf]

end Sys2Proof.Machine
end

section
/-! Soft start (06 R133, R134): a phase ends in the next one, in RUN, or in a precharge fault. -/

namespace Sys2Proof.Machine

open Sys2Proof

/-! ### The cool-down of 03 R62 outlives what the state machine does -/

theorem Live.setState_cooldown (L : Live) (new : MState) (trig : Nat) : (L.setState new trig).mode.cooldown = L.mode.cooldown := by
  unfold Live.setState
  split
  · rfl
  · dsimp only
    split <;> simp [Live.abortChisel_frame]

theorem Live.enterStandby_cooldown (L : Live) (trig : Nat) : (L.enterStandby trig).mode.cooldown = L.mode.cooldown := by
  unfold Live.enterStandby
  dsimp only
  split <;> simp [Live.setFast_frame, Live.setNmt_frame, Live.setState_cooldown]

theorem Live.setSeq_cooldown (L : Live) (f : Seq → Seq) : (L.setSeq f).mode.cooldown = L.mode.cooldown := rfl

theorem Live.toStep2_cooldown (L : Live) : L.toStep2.mode.cooldown = L.mode.cooldown := by
  simp [Live.toStep2, Live.setSeq_cooldown, Live.setPath_frame]

theorem Live.toStep5_cooldown (L : Live) : L.toStep5.mode.cooldown = L.mode.cooldown := by
  unfold Live.toStep5
  split
  · split
    · exact L.enterStandby_cooldown 12
    · simp [Live.endCommand_frame, Live.setSeq_cooldown]
  · rfl

theorem Live.seq12_cooldown (L : Live) : L.seq12.mode.cooldown = L.mode.cooldown := by
  unfold Live.seq12
  split
  · extract_lets isOver
    split
    · exact L.toStep2_cooldown
    · rfl
  · rfl

theorem Live.seq23_cooldown (L : Live) : L.seq23.mode.cooldown = L.mode.cooldown := by
  unfold Live.seq23
  split
  · split
    · simp [Live.toStep3, Live.setSeq_cooldown, Live.openLoop_frame]
    · rfl
  · rfl

theorem Live.seq34_cooldown (L : Live) : L.seq34.mode.cooldown = L.mode.cooldown := by
  unfold Live.seq34
  split
  · split <;> rfl
  · rfl

theorem Live.seq45_cooldown (L : Live) : L.seq45.mode.cooldown = L.mode.cooldown := by
  unfold Live.seq45
  split
  · split
    · exact L.toStep5_cooldown
    · rfl
  · rfl

theorem Live.seqOn_cooldown (L : Live) : L.seqOn.mode.cooldown = L.mode.cooldown := by
  rw [Live.seqOn, Live.seq45_cooldown, Live.seq34_cooldown, Live.seq23_cooldown, Live.seq12_cooldown]

theorem Live.cancelPending_cooldown (L : Live) (r : Nat) : (L.cancelPending r).mode.cooldown = L.mode.cooldown := by
  unfold Live.cancelPending
  split <;> simp [Live.result_frame]

/-- Entry to SAFE from PRECHARGE, RUN, DERATED or STANDBY in class S: a pending enable is cancelled (03 R59), a cool-down runs on. -/
theorem Live.enterSafe_classS {L : Live} (h : L.driving = true ∨ L.mode.st = .standby) :
    (L.enterSafe .classS).mode.pendEnable = none ∧ (L.enterSafe .classS).mode.cooldown = L.mode.cooldown := by
  unfold Live.enterSafe
  rw [if_pos h]
  simp [Live.seqOn_keeps, Live.setState_keeps, Live.seqOn_cooldown, Live.setState_cooldown, Live.cancelPending_cooldown]

/-! ### Precharge faults (06 R134) -/

/-- What a precharge fault at t leaves: SAFE, the fault latched, no pending enable, and the cool-down from t on (03 R62). -/
def FaultedAt (t : Nat) (L : Live) : Prop :=
  L.mode.st = .safe ∧ L.saf.precharge = true ∧ L.time.clk = t ∧ L.mode.cooldown = some (t + sec 10) ∧ L.mode.pendEnable = none

theorem Live.prechargeFault_faultedAt {L : Live} (code : Nat) (hst : L.mode.st = .precharge) :
    FaultedAt L.time.clk (L.prechargeFault code) := by
  unfold Live.prechargeFault
  extract_lets E _ _ F
  have hE : E.mode = L.mode ∧ E.time = L.time := by simp [E]
  have hmode : F.mode = { L.mode with cooldown := some (L.time.clk + sec 10) } := by rw [← hE.1, ← hE.2]
  have hdriving : F.driving = true := by simp [Live.driving, hmode, hst]
  obtain ⟨hpend, hcool⟩ := Live.enterSafe_classS (.inl hdriving)
  refine ⟨Live.enterSafe_st F .classS (by decide) (.inl hdriving), ?_, ?_, ?_, hpend⟩
  · simp [Live.enterSafe_keeps, F]
  · simp [Live.enterSafe_frame, F, E]
  · rw [hcool, hmode]

theorem Live.inPhase_st {L : Live} {n : Nat} (h : L.inPhase n = true) : L.mode.st = .precharge := by
  simp only [Live.inPhase, Bool.and_eq_true, beq_iff_eq] at h
  exact h.1.1

/-- A row that makes a precharge fault answers what such a fault leaves at its instant. -/
theorem answers_of_prechargeFault {c : Instr} {s : State} {n code : Nat} {M : Live} {P : Live → Prop}
    (hphase : s.live.inPhase n = true) (hc : exec c s = .next { s with live := M.prechargeFault code }) (hmode : M.mode = s.live.mode)
    (hP : ∀ L, FaultedAt M.time.clk L → P L) : Answers c s P :=
  ⟨_, hc, hP _ (M.prechargeFault_faultedAt code (hmode ▸ Live.inPhase_st hphase))⟩

/-! ### The phases (06 R133) -/

/-- The mode in force at T9 is the one committed; the phase stays (06 R131). -/
theorem Live.modeAtT9_conv (L : Live) : L.modeAtT9.conv.mode = L.ctlN 0x300001 ∧ L.modeAtT9.conv.phase = L.conv.phase := by
  unfold Live.modeAtT9
  dsimp only
  split
  · next h => exact ⟨h.symm, rfl⟩
  · simp [Live.convEv_frame]

/-- Phase 3, entered at the instant t of the match: headroom is evaluated. -/
def Live.toPhase3 (L : Live) (t : Nat) : Live :=
  let M := (L.reach t).setPhase 3
  { M with conv := { M.conv with h := L.headroom L.conv.act } }

/-- Phase 4: FAST_OFF permits, and the loop starts at no current, in BUSV at the measured bus voltage. -/
def Live.toPhase4 (L : Live) : Live :=
  let M := (L.setPhase 4).setFast .permit
  { M with conv := { M.conv with r := if L.conv.mode = 2 then L.conv.vBus else 0 } }

/-- RUN in the mode that is committed, at the end of phase 5 (03 R52 T9). -/
def Live.toRun (L : Live) (t : Nat) : Live := (((L.reach t).setPhase 6).setState .run 9).modeAtT9

theorem Live.toRun_spec (L : Live) (t : Nat) :
    (L.toRun t).mode.st = .run ∧ (L.toRun t).conv.phase = 6 ∧ (L.toRun t).conv.mode = L.ctlN 0x300001 ∧
      (L.toRun t).time.clk = max L.time.clk t ∧ (L.toRun t).pins = L.pins ∧ (L.toRun t).saf = L.saf := by
  unfold Live.toRun
  generalize hM : ((L.reach t).setPhase 6).setState .run 9 = M
  obtain ⟨hmode, hphase⟩ := M.modeAtT9_conv
  have hst : M.mode.st = .run := hM ▸ Live.setState_st _ _ _
  have hconv : M.conv.phase = 6 := by simp [← hM, Live.setState_frame]
  have hks : M.ks = L.ks := by simp [← hM, Live.setState_frame, Live.setPhase_frame]
  have hclk : M.time.clk = max L.time.clk t := by simp [← hM, Live.setState_frame, Live.setPhase_frame]
  have hpins : M.pins = L.pins := by simp [← hM, Live.setState_frame, Live.setPhase_frame]
  have hsaf : M.saf = L.saf := by simp [← hM, Live.setState_frame, Live.setPhase_frame]
  have hctl : M.ctlN 0x300001 = L.ctlN 0x300001 := by rw [Live.ctlN, Live.ctl, hks, Live.ctlN, Live.ctl]
  simp [Live.modeAtT9_frame, hmode, hphase, hst, hconv, hctl, hclk, hpins, hsaf]

/-! ### The rows -/

theorem exec_softstartMatched (s : State) : exec .softstartMatched s = execSoftstartMatched s := rfl

theorem exec_softstartComplete (s : State) : exec .softstartComplete s = execSoftstartComplete s := rfl

theorem exec_softstartMatchTimeout (s : State) : exec .softstartMatchTimeout s = execSoftstartMatchTimeout s := rfl

theorem exec_softstartSwitchTimeout (s : State) : exec .softstartSwitchTimeout s = execSoftstartSwitchTimeout s := rfl

theorem exec_shortAbort (s : State) : exec .shortAbort s = execShortAbort s := rfl

theorem exec_prechargeTimeout (s : State) : exec .prechargeTimeout s = execPrechargeTimeout s := rfl

section Rows

variable {s : State} (hw : Works 0 s.live)
include hw

theorem softstartMatched_leaves {t : Nat} (hphase : s.live.inPhase 2 = true) (hmatch : s.live.matchedAt = some t) :
    exec .softstartMatched s = .next { s with
      live := if s.live.headroom s.live.conv.act < 0 then (s.live.toPhase3 t).prechargeFault 2 else (s.live.toPhase3 t).toPhase4 } := by
  rw [exec_softstartMatched, execSoftstartMatched, runIn_of_works _ hw]
  simp only [hmatch, hphase, if_true]
  rfl

theorem softstartComplete_leaves {t : Nat} (hphase : s.live.inPhase 5 = true) (hok : s.live.conv.okSince = some t) :
    exec .softstartComplete s = .next { s with
      live := s.live.toRun (if s.live.conv.mode = 2 then t else t + ms 100) } := by
  rw [exec_softstartComplete, execSoftstartComplete, runIn_of_works _ hw]
  simp only [hok, hphase, if_true, Live.toRun]

theorem softstartMatchTimeout_leaves (hphase : s.live.inPhase 2 = true) (hmatch : s.live.matchedAt = none) :
    exec .softstartMatchTimeout s = .next { s with live := (s.live.reach (s.live.conv.phaseAt + ms 20)).prechargeFault 4 } := by
  rw [exec_softstartMatchTimeout, execSoftstartMatchTimeout, runIn_of_works _ hw, if_pos (by simp [hphase, hmatch])]

theorem softstartSwitchTimeout_leaves (hphase : s.live.inPhase 4 = true) (hopen : s.live.pins.sswOpen = true) :
    exec .softstartSwitchTimeout s = .next { s with live := (s.live.reach (s.live.conv.phaseAt + ms 2)).prechargeFault 4 } := by
  rw [exec_softstartSwitchTimeout, execSoftstartSwitchTimeout, runIn_of_works _ hw, if_pos (by simp [hphase, hopen])]

theorem shortAbort_leaves {a b : Nat} (hphase : s.live.inPhase 5 = true) (hlow : s.live.conv.lowSince = some a)
    (hclosed : s.live.conv.closedAt = some b) :
    exec .shortAbort s = .next { s with
      live := (s.live.reach (max a b + ms (s.live.ctlN 0x30000B))).prechargeFault 1 } := by
  rw [exec_shortAbort, execShortAbort, runIn_of_works _ hw]
  simp only [hlow, hclosed, hphase, if_true]

theorem prechargeTimeout_leaves {b : Nat} (hphase : s.live.inPhase 5 = true) (hclosed : s.live.conv.closedAt = some b) :
    exec .prechargeTimeout s = .next { s with live := (s.live.reach (b + ms (s.live.ctlN 0x30000C))).prechargeFault 3 } := by
  rw [exec_prechargeTimeout, execPrechargeTimeout, runIn_of_works _ hw]
  simp only [hclosed, hphase, if_true]

end Rows

/-- What a row answers that makes its precharge fault at the deadline t. -/
theorem answers_of_deadline {c : Instr} {s : State} {n code t : Nat} (hphase : s.live.inPhase n = true)
    (hc : exec c s = .next { s with live := (s.live.reach t).prechargeFault code }) :
    Answers c s (fun L => L.mode.st = .safe ∧ L.saf.precharge = true ∧ L.time.clk = max s.live.time.clk t ∧
      L.mode.cooldown = some (L.time.clk + sec 10)) :=
  answers_of_prechargeFault hphase hc (Live.reach_frame _ _).1 fun _ ⟨hst, hfault, hclk, hcool, _⟩ =>
    ⟨hst, hfault, hclk.trans (s.live.reach_clk t), hclk ▸ hcool⟩

/-- Settles O11: each phase that ends in the next one or in RUN, and each deadline that is a precharge fault. -/
theorem softStartPhases : Obligations.SoftStartPhases := by
  refine ⟨?_, ?_, ?_, ?_, ?_, ?_, ?_, ?_, ?_, ?_⟩
  · intro s hw hphase hkp hkn
    exact ⟨_, exec_of_works hw rfl (if_pos (by simp [hphase, hkp, hkn])), rfl, rfl, rfl, rfl⟩
  · intro s hw hphase hopen
    refine runIn_of_fixed (if_neg ?_)
    rcases hopen with h | h <;> simp [h]
  · intro s t hw hphase hmatch hroom
    refine ⟨_, softstartMatched_leaves hw hphase hmatch, ?_⟩
    rw [if_neg (not_lt.mpr hroom)]
    exact ⟨rfl, rfl, rfl, s.live.reach_clk t, rfl, rfl⟩
  · intro s t hw hphase hmatch hroom
    have hc := softstartMatched_leaves hw hphase hmatch
    rw [if_pos hroom] at hc
    exact answers_of_prechargeFault hphase hc rfl fun _ ⟨hst, hfault, _, hcool, _⟩ =>
      ⟨hst, hfault, s.live.reach_clk t ▸ hcool⟩
  · exact fun s hw hphase hmatch =>
      answers_of_prechargeFault hphase (softstartMatchTimeout_leaves hw hphase hmatch) (Live.reach_frame _ _).1
        fun _ ⟨hst, hfault, hclk, hcool, hpend⟩ => ⟨hst, hfault, hclk.trans (s.live.reach_clk _), hclk ▸ hcool, hpend⟩
  · intro s hw hphase hclosed
    exact ⟨_, exec_of_works hw rfl (if_pos (by simp [hphase, hclosed])), rfl, rfl, rfl⟩
  · exact fun s hw hphase hopen => answers_of_deadline hphase (softstartSwitchTimeout_leaves hw hphase hopen)
  · exact fun s t hw hphase hok => ⟨_, softstartComplete_leaves hw hphase hok, s.live.toRun_spec _⟩
  · exact fun s a b hw hphase hlow hclosed => answers_of_deadline hphase (shortAbort_leaves hw hphase hlow hclosed)
  · exact fun s b hw hphase hclosed => answers_of_deadline hphase (prechargeTimeout_leaves hw hphase hclosed)

end Sys2Proof.Machine
end

section
/-! Balancing ages (06 R138, R139): a segment that reaches age 16 joins the priority queue, which is an event. -/

namespace Sys2Proof.Machine

open Sys2Proof

/-- A module in RUN that discharges four segments: segment 0 is fuller than the others, has waited to age 15, and was granted nothing of
the term it wanted. -/
def aboutToQueue : State :=
  { live := {
      mode := { st := .run }
      conv := { act := [0, 1, 2, 3], dir := 1 }
      est := { seg := { soc := 1 } :: List.replicate 15 {} }
      seg := { age := 15, sums := (0, 1) } :: List.replicate 15 {} } }

/-- Refutes O12, the clause of BALANCING_AGE_TICK: it says that the recorder stays as it is. At the tick segment 0 reaches age 16 and
joins the priority queue (06 R138), which raises a segment balancing event (06 R139). -/
theorem not_collapseSegmentsAndBalancing : ¬ Obligations.CollapseSegmentsAndBalancing := by
  rintro ⟨-, -, -, -, -, -, -, -, -, -, -, -, -, hTick, -⟩
  obtain ⟨-, -, -, -, -, -, -, hframe⟩ :=
    of_answers_runIn (i := 1) (s := aboutToQueue) (by decide) rfl (hTick aboutToQueue (by decide) rfl (by decide))
  exact absurd (congrArg (·.rcd.raised) hframe) (by decide +kernel)

end Sys2Proof.Machine
end

section
/-! The table banks at a standby twin (01 R19; 08 R205): a write of a bank goes to the active twin. -/

namespace Sys2Proof.Machine

open Sys2Proof

/-- A standby twin passes a write on to the active twin, and answers nothing yet. -/
theorem Live.asWrite_follower {L : Live} {sess : Sess} {k : Nat} {v : Bytes} (refused : Live → Option Abort) (f : Live → Live × Abort)
    (hserves : L.serves sess = true) (hfollower : L.follower = true) (hpair : isTwinLocalWrite k = false) :
    L.asWrite sess k v refused f = (L.touch sess).passOn sess k v := by
  have hpasses : (L.touch sess).follower = true ∧ (!isTwinLocalWrite k) = true := by simp [L.follower_touch, hfollower, hpair]
  rw [Live.asWrite, Live.asked, if_pos hserves, if_pos hpasses]

theorem exec_tableImageWrite (sess : Sess) (bank : Fin 2) (image : Bytes) (s : State) :
    exec (.tableImageWrite sess bank image) s = run s (fun L => L.asWrite sess (0x380010 + bank.val) image (Live.belowLevel sess 3)
      (fun L => L.orAbort (L.writeTable bank.val image))) := rfl

/-- A bank is an object of the pair, not of one twin (15 R393). -/
theorem bank_not_twinLocal (bank : Fin 2) : isTwinLocalWrite (0x380010 + bank.val) = false := by
  revert bank
  decide

theorem tableImageWrite_follower {s : State} {sess : Sess} (bank : Fin 2) (image : Bytes) (hp : s.live.powered = true)
    (hserves : s.live.serves sess = true) (hfollower : s.live.follower = true) :
    exec (.tableImageWrite sess bank image) s =
      .next { s with live := (s.live.touch sess).passOn sess (0x380010 + bank.val) image } := by
  rw [exec_tableImageWrite, run_of_powered _ hp, Live.asWrite_follower _ _ hserves hfollower (bank_not_twinLocal bank)]

theorem Live.blobOf_passOn_touch (L : Live) (sess : Sess) (k : Nat) (v : Bytes) (j : Nat) :
    ((L.touch sess).passOn sess k v).blobOf j = L.blobOf j := by
  have hblob : ((L.touch sess).passOn sess k v).blob = L.blob := by simp [Live.passOn_frame, Live.touch_frame]
  rw [Live.blobOf, hblob, Live.blobOf]

/-- The standby twin of string 2, in STANDBY and in step with the partner, which holds the token. Both its banks are empty, and every
session of CAN has level 3. -/
def standbyTwin : State :=
  { live := {
      mode := { st := .standby }
      ks := { atBoot := [(0x200002, 2)] }
      twin := { pair := 3, p := { token := 1 } }
      com := { nmt := 5 }
      obj := [(0x4C0007, 3)] } }

/-- Refutes O19, the clause of a TABLE_IMAGE_WRITE that is stored: it asks that the session is served and holds its level, and not that the
write has reached the active twin. A session of CAN writes the inactive bank of a standby twin. By 01 R19 the twin passes the write on, and
its bank stays empty. -/
theorem not_tableBanksAndTemperature : ¬ Obligations.TableBanksAndTemperature := by
  rintro ⟨hWrite, -⟩
  obtain ⟨hstored, -⟩ := of_answers
    (tableImageWrite_follower 1 (List.replicate 24836 0) (by decide) (by decide) (by decide))
    (hWrite standbyTwin 0x1001 1 (List.replicate 24836 0) (by decide) rfl (by decide) List.length_replicate)
  rw [Live.blobOf_passOn_touch] at hstored
  have hlength : 0 = 24836 := (congrArg List.length hstored).trans List.length_replicate
  exact absurd hlength (by decide)

end Sys2Proof.Machine
end

section
/-! A command object's row (12 R317, R321) of a session that may give the command: what its effect finds, and what the answer adds. -/

namespace Sys2Proof.Machine

open Sys2Proof

/-! ### The answer -/

/-- R is L once the session has its answer with this abort code, 0 for success. -/
def AnsweredTo (sess : Sess) (code : Abort) (L R : Live) : Prop :=
  Replied sess code R ∧
  ∃ ks out mgr dbg num bus, R = { L with ks := ks, out := out, mgr := mgr, dbg := dbg, com := { L.com with num := num, bus := bus } }

theorem Live.answer_answeredTo (L : Live) (sess : Sess) (code : Abort) : AnsweredTo sess code L (L.answer sess code []) := by
  obtain ⟨out, mgr, dbg, num, bus, e⟩ := L.answer_eq sess code []
  exact ⟨fun h3 h4 => by simp [L.answer_out code [] h3 h4], L.ks, out, mgr, dbg, num, bus, e⟩

theorem Live.finish_answeredTo (x : Live × Abort) (sess : Sess) : AnsweredTo sess x.2 x.1 (Live.finish x sess) := by
  unfold Live.finish
  split
  · next h =>
    rw [h]
    exact x.1.answer_answeredTo sess 0
  · obtain ⟨hout, ks, out, mgr, dbg, num, bus, e⟩ :=
      (x.1.modSession sess fun y => { y with lastAbort := x.2, refusedEntry := 0 }).answer_answeredTo sess x.2
    exact ⟨hout, ks, out, mgr, dbg, num, bus, e⟩

/-- The verdict of a forwarded request is kept for the commit; that takes nothing from the answer. -/
theorem AnsweredTo.noteDone {sess : Sess} {code : Abort} {L R : Live} (h : AnsweredTo sess code L R) (k : Nat) (v : Bytes)
    (fwd : Option Nat) (verdict : Abort) : AnsweredTo sess code L (R.noteDone sess k v fwd verdict) := by
  unfold Live.noteDone
  split
  · exact h
  · obtain ⟨hout, ks, out, mgr, dbg, num, bus, rfl⟩ := h
    exact ⟨hout, _, out, mgr, dbg, num, bus, rfl⟩

/-! ### The request -/

/-- The block once a request has arrived: its session is held, and an active twin has forwarded it. -/
def Live.arrived (L : Live) (sess : Sess) (k : Nat) (v : Bytes) : Live := ((L.touch sess).forwardOn sess k v).1

/-- One more command of the course is accepted. -/
def Live.counted (L : Live) : Live := { L with ks := { L.ks with commands := L.ks.commands + 1 } }

theorem Live.arrived_prepared (L : Live) (sess : Sess) (k : Nat) (v : Bytes) : Prepared L (L.arrived sess k v) := by
  obtain ⟨ss, ed, htouch⟩ := L.touch_eq sess
  obtain ⟨bulk, seq, hfwd⟩ := (L.touch sess).forwardOn_eq sess k v
  exact ⟨ss, ed, L.ks.commands, bulk, seq, by rw [Live.arrived, hfwd, htouch]⟩

theorem Prepared.counted {L M : Live} (h : Prepared L M) : Prepared L M.counted := by
  obtain ⟨ss, ed, n, bulk, seq, rfl⟩ := h
  exact ⟨ss, ed, n + 1, bulk, seq, rfl⟩

/-- An image that is not the golden one takes every write (03 R55). -/
theorem Live.goldenRefuses_of_not_golden {L : Live} (h : L.getN 0x20000D ≠ 2) (k : Nat) : L.goldenRefuses k = false := by
  simp [Live.goldenRefuses, h]

/-! ### The row -/

/-- A granted command runs its effect, and its answer follows. -/
theorem Live.command_answeredTo {L : Live} {sess : Sess} {level : Nat} (h : Granted sess level L) (k : Nat) (v : Bytes)
    (f : Live → Live × Abort) :
    AnsweredTo sess (f (L.arrived sess k v).counted).2 (f (L.arrived sess k v).counted).1 (L.command sess level k v f) := by
  obtain ⟨-, hserves, hlevel, hroom, hown, himage⟩ := h
  have hfollower : ¬((L.touch sess).follower = true ∧ (!isTwinLocalWrite k) = true) := by simp [L.follower_touch, hown]
  have hgolden : (L.arrived sess k v).goldenRefuses k = false :=
    Live.goldenRefuses_of_not_golden (by rwa [(L.arrived_prepared sess k v).getN]) k
  have hlow : ¬(L.arrived sess k v).levelOf sess < level := by
    rw [Live.arrived, Live.levelOf_forwardOn]
    exact Nat.not_lt.mpr hlevel
  have hfull : ¬16 ≤ (L.arrived sess k v).ks.commands := by
    rw [Live.arrived, Live.commands_forwardOn_touch]
    exact Nat.not_le.mpr hroom
  unfold Live.arrived at hgolden hlow hfull
  unfold Live.command Live.asWrite Live.asked
  rw [if_pos hserves]
  dsimp only
  rw [if_neg hfollower]
  simp only [hgolden, Bool.false_eq_true, if_false, hlow, hfull]
  exact (Live.finish_answeredTo _ sess).noteDone _ _ _ _

/-- What the row of a granted command answers is what its effect leaves, with the answer. -/
theorem answers_of_granted_command {c : Instr} {s : State} {sess : Sess} {level k : Nat} {v : Bytes} {f : Live → Live × Abort}
    {P : Live → Prop} (h : Granted sess level s.live) (hc : exec c s = run s (fun L => L.command sess level k v f))
    (hP : ∀ M R, Prepared s.live M → AnsweredTo sess (f M).2 (f M).1 R → P R) : Answers c s P :=
  answers_of_run h.1 hc (hP _ _ (s.live.arrived_prepared sess k v).counted (Live.command_answeredTo h k v f))

end Sys2Proof.Machine
end

section
/-! What an event changes (12 R335; 16 R407). -/

namespace Sys2Proof.Machine

open Sys2Proof

theorem repeatNewest_raised (r : Recorder) (e : Rec) (t : Nat) : (repeatNewest r e t).raised = r.raised := by
  unfold repeatNewest
  dsimp only
  split <;> rfl

/-- The intake does not count: the event that enters it does. -/
theorem intakeEvent_raised (r : Recorder) (window t src cls code : Nat) (standby : Bool) (payload : Bytes) :
    (intakeEvent r window t src cls code standby payload).raised = r.raised := by
  unfold intakeEvent
  split
  · exact repeatNewest_raised _ _ _
  · (repeat' split) <;> rfl

theorem Live.sendEmcy_raised (L : Live) (eec err code cls seq : Nat) : (L.sendEmcy eec err code cls seq).rcd.raised = L.rcd.raised := by
  unfold Live.sendEmcy
  dsimp only
  split <;> rfl

theorem Live.setConds_raised (L : Live) (cs : List Cond) : (L.setConds cs).rcd.raised = L.rcd.raised := by
  unfold Live.setConds
  dsimp only
  split
  · exact Live.sendEmcy_raised _ _ _ _ _ _
  · rfl

theorem Live.ev_raised (L : Live) (src code cls : Nat) (key rest : Bytes) :
    (L.ev src code cls key rest).rcd.raised = L.rcd.raised + 1 := by
  change (Live.setConds _ _).rcd.raised = _
  rw [Live.setConds_raised]
  exact congrArg (· + 1) (intakeEvent_raised _ _ _ _ _ _ _ _)

/-- An event counts one, and changes the recorder, the transmit rings, the debug port and the capture unit at most. -/
theorem Live.ev_eq (L : Live) (src code cls : Nat) (key rest : Bytes) :
    ∃ rcd com dbg cap, L.ev src code cls key rest = { L with rcd := rcd, com := com, dbg := dbg, cap := cap } ∧
      rcd.raised = L.rcd.raised + 1 := by
  have hframe := L.ev_frame src code cls key rest
  have hraised := L.ev_raised src code cls key rest
  generalize L.ev src code cls key rest = M at hframe hraised
  refine ⟨M.rcd, M.com, M.dbg, M.cap, ?_, hraised⟩
  cases M
  simp_all

end Sys2Proof.Machine
end

section
/-! The sweep (08 R201, R207): its mark, what of the intervals its own work leaves alone, and the intervals that it opens. -/

namespace Sys2Proof.Machine

open Sys2Proof

/-! ### The mark of the sweeps -/

/-- A sweep falls 200 µs after a multiple of 10 ms, less than 10 ms on. -/
theorem Live.toMark_sweep (L : Live) :
    (L.toMark (ms 10)).time.mtime % 10000000 = 200000 ∧ L.time.mtime ≤ (L.toMark (ms 10)).time.mtime ∧
      (L.toMark (ms 10)).time.mtime < L.time.mtime + 10000000 := by
  simp only [Live.toMark, Live.pass_mtime, ms]
  omega

/-- On the way to its mark nothing but the time changes. -/
theorem Live.toMark_eq (L : Live) (p : Nat) : L.toMark p = { L with time := (L.toMark p).time } := rfl

/-! ### The number of the sweep, and what belongs to the next intervals -/

/-- The number of the last sweep, and what of the segments belongs to the interval after the next sweep. -/
def Live.opening (L : Live) : Nat × List ((Rat × Nat) × Rat) := (L.est.sweeps, L.est.seg.map (·.next))

theorem Live.opening_congr {L M : Live} (h : M.est = L.est) : M.opening = L.opening := by rw [Live.opening, h, Live.opening]

@[simp] theorem Live.opening_ite (c : Prop) [Decidable c] (L M : Live) :
    (if c then L else M).opening = if c then L.opening else M.opening := apply_ite Live.opening c L M

theorem Live.opening_foldl {α : Type} (f : Live → α → Live) (hf : ∀ L a, (f L a).opening = L.opening) (l : List α) (L : Live) :
    (l.foldl f L).opening = L.opening :=
  foldl_inv (fun M => M.opening = L.opening) f (fun M a e => (hf M a).trans e) l L rfl

@[simp] theorem Live.ev_opening (L : Live) (src code cls : Nat) (key rest : Bytes) : (L.ev src code cls key rest).opening = L.opening :=
  Live.opening_congr (by simp)

@[simp] theorem Live.segEv_opening (L : Live) (s k code cls : Nat) (rest : Bytes) : (L.segEv s k code cls rest).opening = L.opening :=
  Live.opening_congr (by simp)

@[simp] theorem Live.cellEvs_opening (L : Live) (es : List CellEv) : (L.cellEvs es).opening = L.opening :=
  Live.opening_congr (by simp [Live.cellEvs_frame])

@[simp] theorem Live.setCtx_opening (L : Live) (g : Nat) (c : Ctx) : (L.setCtx g c).opening = L.opening := rfl

/-- A segment's estimates may change while what belongs to its next interval stays. -/
theorem Live.modEst_opening (L : Live) (s : Nat) {f : SegEst → SegEst} (hf : ∀ x, (f x).next = x.next) :
    (L.modEst s f).opening = L.opening := by
  refine Prod.ext rfl (List.ext_getElem? fun i => ?_)
  simp only [Live.opening, Live.modEst_seg, List.getElem?_map, List.getElem?_modify]
  split
  · simp [hf, Function.comp_def]
  · simp

/-! ### The parts of a sweep -/

@[simp] theorem Live.estRestart_opening (L : Live) (cold : Bool) (l : List Ctx) : (L.estRestart cold l).opening = L.opening := by
  unfold Live.estRestart
  cases cold <;> exact Live.ev_opening _ _ _ _ _ _

@[simp] theorem Live.takeSwitch_opening (L : Live) : L.takeSwitch.opening = L.opening := by
  unfold Live.takeSwitch
  split
  · rfl
  · dsimp only
    split
    · rfl
    · split
      · rw [Live.estRestart_opening, Live.ev_opening]
        rfl
      · exact Live.ev_opening _ _ _ _ _ _

@[simp] theorem Live.sweepCell_opening (e : EstPar) (L : Live) (g : Nat) : (Live.sweepCell e L g).opening = L.opening := by
  unfold Live.sweepCell
  extract_lets s img c se v ic fitted now na t M x r src N
  have hM : M.opening = L.opening := by simp [M]
  clear_value v M
  split
  · cases v with
    | none => exact hM
    | some x => exact hM
  · simp [N, hM]

@[simp] theorem Live.sumCheck_opening (L : Live) (s : Nat) : (L.sumCheck s).opening = L.opening := by
  unfold Live.sumCheck
  extract_lets vs sum vseg off n M
  have hM : M.opening = L.opening := L.modEst_opening s fun _ => rfl
  simp [hM]

@[simp] theorem Live.segSweep_opening (e : EstPar) (before : List Ctx) (L : Live) (s : Nat) :
    (Live.segSweep e before L s).opening = L.opening := by
  unfold Live.segSweep
  extract_lets img cs old se empty full who M N frac fracs lim
  have hN : N.opening = L.opening := by simp [N, M]
  split
  · refine (Live.modEst_opening _ _ ?_).trans hN
    exact fun _ => rfl
  · rfl

@[simp] theorem Live.socLevels_opening (L : Live) : L.socLevels.opening = L.opening :=
  Live.opening_foldl _ (fun _ _ => Live.ev_opening _ _ _ _ _ _) _ _

@[simp] theorem Live.stringSweep_opening (L : Live) (e : EstPar) (dcs : List (Rat × Rat)) :
    (L.stringSweep e dcs).opening = L.opening := by
  unfold Live.stringSweep
  extract_lets img fit a rem room soc refused lim ends was M N sigma isOver src
  have hN : N.opening = L.opening := by simp [N, M]
  split
  · rfl
  · exact (Live.socLevels_opening _).trans hN

@[simp] theorem Live.blendCheck_opening (L : Live) : L.blendCheck.opening = L.opening := by
  unfold Live.blendCheck
  extract_lets all was src M
  have hM : M.opening = L.opening := rfl
  simp [hM]

@[simp] theorem Live.balance_opening (L : Live) : L.balance.opening = L.opening := Live.opening_congr (by simp [Live.balance_frame])

@[simp] theorem Live.cellsSweep_opening (L : Live) (e : EstPar) : (L.cellsSweep e).opening = L.opening :=
  Live.opening_foldl _ (Live.sweepCell_opening e) _ L

@[simp] theorem Live.segsSweep_opening (L : Live) (e : EstPar) (before : List Ctx) : (L.segsSweep e before).opening = L.opening :=
  Live.opening_foldl _ (fun M s => by simp) _ L

/-! ### The end of a sweep -/

/-- What a segment's interval opens with: no sample set yet, and the current and fractions that belonged to it already (08 R201). -/
theorem Live.openIntervals_seg (L : Live) :
    L.openIntervals.est.seg.map (fun x => (x.sets, x.iAcc, x.fAcc, x.next)) =
      L.opening.2.map (fun x => (0, x.1, x.2, ((0, 0), 0))) := by
  simp [Live.openIntervals, Live.opening, openSeg, Function.comp_def]

/-- What a cell's interval opens with. -/
theorem Live.openIntervals_ctx (L : Live) :
    L.openIntervals.est.ctx.map (fun x => (x.acc, x.na, x.next)) = L.est.ctx.map (fun x => (x.next.1, x.next.2, ((0, 0), 0))) := by
  simp [Live.openIntervals, openCell, Function.comp_def]

theorem Live.sweepSave_est (L : Live) : L.sweepSave.est = L.est ∧ L.sweepSave.twin = L.twin := by simp [Live.sweepSave_frame]

/-- A sweep is counted, opens the segments' intervals, and its digest stands with its number (08 R201, R207; 15 R389). -/
theorem Live.sweep_spec (L : Live) :
    L.sweep.est.sweeps = L.est.sweeps + 1 ∧
      L.sweep.est.seg.map (fun x => (x.sets, x.iAcc, x.fAcc, x.next)) =
        L.est.seg.map (fun x => (0, x.next.1, x.next.2, ((0, 0), 0))) ∧
      L.sweep.twin.esweep = L.time.mtime / 10000000 ∧ L.sweep.twin.edig = L.sweep.estDigest := by
  unfold Live.sweep
  extract_lets M e w N
  generalize hK : ((N.stringSweep e (N.countedChanges M.est.ctx w)).blendCheck).balance = K
  have hopening : K.opening = L.opening := by simp [← hK, N, M]
  have htime : K.time = L.time := by
    simp [← hK, N, M, Live.balance_frame, Live.blendCheck_frame, Live.stringSweep_frame, Live.segsSweep_frame, Live.cellsSweep_frame,
      Live.takeSwitch_frame]
  obtain ⟨hest, htwin⟩ := K.sweepEnd.sweepSave_est
  refine ⟨?_, ?_, ?_, ?_⟩
  · rw [hest]
    exact congrArg (·.1 + 1) hopening
  · rw [hest]
    refine K.openIntervals_seg.trans ?_
    rw [hopening, Live.opening, List.map_map]
    rfl
  · rw [htwin, ← htime]
    rfl
  · rw [htwin, Live.estDigest, hest]
    rfl

/-- A standby whose state image is on its way holds the inputs of one interval more, and opens the next (15 R398). M is the block L at
the mark of the sweep. -/
theorem Live.holdSweep_spec {L M : Live} (h : M = { L with time := M.time }) :
    M.holdSweep.twin.heldSweeps.length = L.twin.heldSweeps.length + 1 ∧
      M.holdSweep.est.seg.map (fun x => (x.sets, x.iAcc, x.fAcc, x.next)) =
        L.est.seg.map (fun x => (0, x.next.1, x.next.2, ((0, 0), 0))) ∧
      M.holdSweep.est.ctx.map (fun x => (x.acc, x.na, x.next)) = L.est.ctx.map (fun x => (x.next.1, x.next.2, ((0, 0), 0))) ∧
      M.holdSweep.time = M.time ∧
      { M.holdSweep with
        est := { M.holdSweep.est with ctx := L.est.ctx, seg := L.est.seg }
        twin := { M.holdSweep.twin with heldSweeps := L.twin.heldSweeps }
        time := L.time } = L := by
  obtain ⟨time, rfl⟩ : ∃ time, M = { L with time := time } := ⟨_, h⟩
  refine ⟨?_, ?_, Live.openIntervals_ctx _, rfl, rfl⟩
  · simp [Live.holdSweep, Live.openIntervals_frame]
  · exact (Live.openIntervals_seg _).trans (List.map_map ..)

theorem exec_estimatorSweep (s : State) :
    exec .estimatorSweep s = runIn 1 s (fun L => if (L.toMark (ms 10)).resyncing then (L.toMark (ms 10)).holdSweep
      else (L.toMark (ms 10)).sweep) := rfl

theorem Live.resyncing_toMark (L : Live) (p : Nat) : (L.toMark p).resyncing = L.resyncing := by simp [Live.resyncing]

theorem estimatorSweep_sweeps {s : State} (hw : Works 1 s.live) (h : s.live.resyncing = false) :
    exec .estimatorSweep s = .next { s with live := (s.live.toMark (ms 10)).sweep } :=
  exec_of_works hw (exec_estimatorSweep s) (by simp [Live.resyncing_toMark, h])

theorem estimatorSweep_holds {s : State} (hw : Works 1 s.live) (h : s.live.resyncing = true) :
    exec .estimatorSweep s = .next { s with live := (s.live.toMark (ms 10)).holdSweep } :=
  exec_of_works hw (exec_estimatorSweep s) (by simp [Live.resyncing_toMark, h])

end Sys2Proof.Machine
end

section
/-! The estimator's commands and the deadlines of its requests (08 R215, R219). -/

namespace Sys2Proof.Machine

open Sys2Proof

/-! ### A request for a reference window -/

theorem Live.requestWindow_eq (L : Live) (operator : Bool) :
    ∃ quiet rcd com dbg cap, L.requestWindow operator = { L with
        est := { L.est with
          reqSince := some L.time.clk, requested := operator, quietSince := quiet, quietDone := false, unmet := false }
        obj := L.obj.put (odDefault 0x350027) 0x350027 (if L.est.quietSince.isSome then 2 else 1)
        rcd := rcd, com := com, dbg := dbg, cap := cap } ∧
      rcd.raised = L.rcd.raised + 1 := by
  have hquiet : (if L.est.quietDone then L.est.quietSince.map (fun _ => L.time.clk) else L.est.quietSince).isSome =
      L.est.quietSince.isSome := by
    split <;> simp
  unfold Live.requestWindow
  dsimp only
  rw [hquiet]
  obtain ⟨rcd, com, dbg, cap, e, hraised⟩ := Live.ev_eq (Live.put { L with est := { L.est with
      reqSince := some L.time.clk
      requested := operator
      quietSince := if L.est.quietDone then L.est.quietSince.map (fun _ => L.time.clk) else L.est.quietSince
      quietDone := false
      unmet := false } } 0x350027 (if L.est.quietSince.isSome then 2 else 1)) 67 2 0 [] []
  exact ⟨_, rcd, com, dbg, cap, e, hraised⟩

theorem Live.cmdEst_request {L : Live} (h : L.est.reqSince = none) : L.cmdEst 1 = .ok (L.requestWindow true) := by
  simp [Live.cmdEst, h]

theorem Live.cmdEst_requested {L : Live} (h : L.est.reqSince ≠ none) : L.cmdEst 1 = .ok L := by
  simp [Live.cmdEst, Option.isSome_iff_ne_none.mpr h]

theorem Live.cmdEst_withdraw (L : Live) :
    L.cmdEst 2 = .ok ({ L with est := { L.est with reqSince := none, requested := false, unmet := false } }.put 0x350027
      (if L.est.quietSince.isSome ∧ L.est.quietDone = false then 2 else 0)) := by
  simp [Live.cmdEst]

/-! ### A segment that has been replaced -/

/-- A cell context that starts anew: the table's capacity, no anchor, and nothing learned (08 R215). -/
def Ctx.replaced (capacity : Rat) (c : Ctx) : Ctx :=
  { c with
    qc := capacity, aS := 1, a1 := 1, a2 := 1, impAge := none, anchor := 0, anchorAt := 0, since := (none, none), ref := none
    disagree := false, said := 0, blend := false, outliers := 0, emptyRun := 0, fullRun := 0, rest := 0, atEmpty := false
    atFull := false }

/-- The contexts of segment g start anew. -/
def replacedCtx (capacity : Rat) (g : Nat) (l : List Ctx) : List Ctx :=
  l.zipIdx.map fun x => if x.2 / 32 = g then x.1.replaced capacity else x.1

/-- A context of the new list is that of its place, anew where the place is of segment g. -/
theorem mem_replacedCtx {capacity : Rat} {g : Nat} {l : List Ctx} {x : Ctx × Nat} (h : x ∈ (replacedCtx capacity g l).zipIdx) :
    x.1 = if x.2 / 32 = g then (l.getD x.2 {}).replaced capacity else l.getD x.2 {} := by
  rw [List.mem_zipIdx_iff_getElem?] at h
  simp only [replacedCtx, List.getElem?_map, List.getElem?_zipIdx, Option.map_eq_some_iff] at h
  obtain ⟨-, ⟨c, hc, rfl⟩, hx⟩ := h
  simp only [Nat.zero_add] at hx
  rw [← hx, List.getD_eq_getElem?_getD, hc, Option.getD_some]

theorem Live.cmdReplaced_restarts {L : Live} (g : Nat) (h : L.mode.st = .standby ∨ L.mode.st = .service) :
    ∃ cold rcd com dbg cap, L.cmdReplaced g 1 = .ok { L with
      est := { L.est with ctx := replacedCtx (hdrQnom L.table) g L.est.ctx, allBlend := false, coldCtx := cold }
      rcd := rcd, com := com, dbg := dbg, cap := cap } := by
  have hstate : ¬(L.mode.st ≠ .standby ∧ L.mode.st ≠ .service) := by tauto
  unfold Live.cmdReplaced
  rw [if_neg (not_not_intro rfl), if_neg hstate]
  obtain ⟨rcd, com, dbg, cap, e, -⟩ := Live.ev_eq { L with est := { L.est with
      ctx := replacedCtx (hdrQnom L.table) g L.est.ctx
      allBlend := false
      coldCtx := L.est.coldCtx.filter (fun x => x / 32 != g) ++ (List.range 32).map (fun c => 32 * g + c) } }
    69 4 0 (leBytes 1 g) []
  exact ⟨_, rcd, com, dbg, cap, congrArg Except.ok e⟩

theorem Live.cmdReplaced_refused {L : Live} (g : Nat) (h : L.driving = true ∨ L.mode.st = .safe) :
    L.cmdReplaced g 1 = .error abState := by
  have hstate : L.mode.st ≠ .standby ∧ L.mode.st ≠ .service := by
    rcases h with h | h
    · constructor <;> intro e <;> simp [Live.driving, e] at h
    · simp [h]
  rw [Live.cmdReplaced, if_neg (not_not_intro rfl), if_pos hstate]

/-! ### The commands, as a session gives them -/

theorem exec_estCmdRequestWindow (sess : Sess) (s : State) :
    exec (.estCmdRequestWindow sess) s =
      run s (fun L => L.command sess 1 0x350030 (leBytes 1 1) (fun L => L.orAbort (L.cmdEst 1))) := rfl

theorem exec_estCmdWithdrawRequest (sess : Sess) (s : State) :
    exec (.estCmdWithdrawRequest sess) s =
      run s (fun L => L.command sess 1 0x350030 (leBytes 1 2) (fun L => L.orAbort (L.cmdEst 2))) := rfl

theorem exec_segEstCmdReplaced (sess : Sess) (seg : Fin 16) (s : State) :
    exec (.segEstCmdReplaced sess seg) s = run s (fun L =>
      L.command sess 2 (segKey seg.val 0x1F) (leBytes 1 1) (fun L => L.orAbort (L.cmdReplaced seg.val 1))) := rfl

theorem Prepared.est {L M : Live} (h : Prepared L M) : M.est = L.est := by
  obtain ⟨ss, ed, n, bulk, seq, rfl⟩ := h
  rfl

/-! ### The deadlines of a request -/

/-- On the way to a deadline nothing but the time changes. -/
theorem Live.reach_eq (L : Live) (t : Nat) : ∃ time, L.reach t = { L with time := time } ∧ time.clk = max L.time.clk t :=
  ⟨(L.reach t).time, rfl, L.reach_clk t⟩

/-- The uncertainty is reported (08 R219). -/
def Live.reportOver (L : Live) : Live :=
  Live.ev { L with est := { L.est with overRep := true } } 67 1 1 [] (leBytes 2 (satU 16 (L.est.sigma * 10000)))

/-- The module asks for a window where 0x3500:08 lets it and none is requested (08 R219). -/
def Live.askWindow (L : Live) : Live := if L.ctl 0x350008 = 1 ∧ L.est.reqSince = none then L.requestWindow false else L

/-- The request is met: every cell of A has its reference, and the window is complete (08 R219). -/
def Live.windowDone (L : Live) : Live :=
  let M := L.windowCells
  (Live.put { M with est := { M.est with quietDone := true, reqSince := none, requested := false, unmet := false } } 0x350027 3).ev
    67 3 0 [] []

/-- The request has stood unmet for its time, and stands on (08 R219). -/
def Live.standUnmet (L : Live) : Live :=
  (Live.put { L with est := { L.est with unmet := true } } 0x350027 4).ev 67 4 1 [] []

theorem Live.reportOver_eq (L : Live) :
    ∃ rcd com dbg cap, L.reportOver = { L with
        est := { L.est with overRep := true }, rcd := rcd, com := com, dbg := dbg, cap := cap } ∧
      rcd.raised = L.rcd.raised + 1 :=
  Live.ev_eq { L with est := { L.est with overRep := true } } _ _ _ _ _

/-- Where the module may ask for a window, one is requested afterwards; where it asks, that is one event more. -/
theorem Live.askWindow_eq (L : Live) :
    ∃ est obj rcd com dbg cap, L.askWindow = { L with est := est, obj := obj, rcd := rcd, com := com, dbg := dbg, cap := cap } ∧
      est.overRep = L.est.overRep ∧ (L.ctl 0x350008 = 1 → est.reqSince.isSome = true) ∧
      rcd.raised = L.rcd.raised + if L.ctl 0x350008 = 1 ∧ L.est.reqSince = none then 1 else 0 := by
  unfold Live.askWindow
  split
  · obtain ⟨quiet, rcd, com, dbg, cap, e, hraised⟩ := L.requestWindow_eq false
    exact ⟨_, _, rcd, com, dbg, cap, e, rfl, fun _ => rfl, hraised⟩
  · next hask =>
    exact ⟨L.est, L.obj, L.rcd, L.com, L.dbg, L.cap, rfl, rfl,
      fun hctl => Option.isSome_iff_ne_none.mpr fun hnone => hask ⟨hctl, hnone⟩, rfl⟩

theorem Live.windowDone_spec (L : Live) :
    L.windowDone.est.quietDone = true ∧ L.windowDone.est.reqSince = none ∧ L.windowDone.getN 0x350027 = 3 ∧
      L.windowDone.time = L.time ∧ L.windowDone.mode = L.mode ∧ L.windowDone.pins = L.pins := by
  unfold Live.windowDone
  dsimp only
  generalize hM : L.windowCells = M
  have htime : M.time = L.time := by simp [← hM, Live.windowCells_frame]
  have hmode : M.mode = L.mode := by simp [← hM, Live.windowCells_frame]
  have hpins : M.pins = L.pins := by simp [← hM, Live.windowCells_frame]
  obtain ⟨rcd, com, dbg, cap, e, -⟩ := Live.ev_eq
    (Live.put { M with est := { M.est with quietDone := true, reqSince := none, requested := false, unmet := false } } 0x350027 3)
    67 3 0 [] []
  rw [e]
  exact ⟨rfl, rfl, M.getN_put_same 0x350027 3, htime, hmode, hpins⟩

theorem Live.standUnmet_eq (L : Live) :
    ∃ rcd com dbg cap, L.standUnmet = { L with
      est := { L.est with unmet := true }, obj := L.obj.put (odDefault 0x350027) 0x350027 4
      rcd := rcd, com := com, dbg := dbg, cap := cap } := by
  obtain ⟨rcd, com, dbg, cap, e, -⟩ := Live.ev_eq (Live.put { L with est := { L.est with unmet := true } } 0x350027 4) 67 4 1 [] []
  exact ⟨rcd, com, dbg, cap, e⟩

/-! ### The rows of the deadlines -/

theorem exec_uncertaintyLimitExceeded (s : State) :
    exec .uncertaintyLimitExceeded s = runIn 1 s (fun L => match L.est.overSince with
      | some t => if L.est.overRep then L else (L.reach (t + sec 60)).reportOver.askWindow
      | none => L) := rfl

theorem exec_referenceWindowComplete (s : State) :
    exec .referenceWindowComplete s = runIn 1 s (fun L => match L.est.quietSince with
      | some t => if L.est.quietDone then L else (L.reach (t + sec 60)).windowDone
      | none => L) := rfl

theorem exec_referenceRequestUnmet (s : State) :
    exec .referenceRequestUnmet s = runIn 1 s (fun L => match L.est.reqSince with
      | some t => if L.est.unmet then L else (L.reach (t + sec 86400)).standUnmet
      | none => L) := rfl

section Rows

variable {s : State} {t : Nat}

theorem uncertaintyLimitExceeded_leaves (hw : Works 1 s.live) (hover : s.live.est.overSince = some t)
    (hrep : s.live.est.overRep = false) :
    exec .uncertaintyLimitExceeded s = .next { s with live := (s.live.reach (t + sec 60)).reportOver.askWindow } :=
  exec_of_works hw (exec_uncertaintyLimitExceeded s) (by simp only [hover, hrep, Bool.false_eq_true, if_false])

theorem referenceWindowComplete_leaves (hw : Works 1 s.live) (hquiet : s.live.est.quietSince = some t)
    (hdone : s.live.est.quietDone = false) :
    exec .referenceWindowComplete s = .next { s with live := (s.live.reach (t + sec 60)).windowDone } :=
  exec_of_works hw (exec_referenceWindowComplete s) (by simp only [hquiet, hdone, Bool.false_eq_true, if_false])

theorem referenceRequestUnmet_leaves (hw : Works 1 s.live) (hreq : s.live.est.reqSince = some t) (hunmet : s.live.est.unmet = false) :
    exec .referenceRequestUnmet s = .next { s with live := (s.live.reach (t + sec 86400)).standUnmet } :=
  exec_of_works hw (exec_referenceRequestUnmet s) (by simp only [hreq, hunmet, Bool.false_eq_true, if_false])

theorem referenceRequestUnmet_idle (h : s.live.est.reqSince = none ∨ s.live.est.unmet = true) :
    exec .referenceRequestUnmet s = .next s := by
  rw [exec_referenceRequestUnmet]
  refine runIn_of_fixed ?_
  rcases h with h | h
  · simp only [h]
  · simp only [h, if_true]
    split <;> rfl

end Rows

/-- Settles O18: each row is said by the lemmas above of what it leaves, and each command by those of its effect. -/
theorem estimatorSweepsAndWindows : Obligations.EstimatorSweepsAndWindows := by
  refine ⟨?_, ?_, ?_, ?_, ?_, ?_, ?_, ?_, ?_, ?_, ?_⟩
  · intro s hw hsync
    refine ⟨_, estimatorSweep_sweeps hw hsync, ?_⟩
    have hM := s.live.toMark_eq (ms 10)
    have hmark := s.live.toMark_sweep
    generalize s.live.toMark (ms 10) = M at hM hmark ⊢
    obtain ⟨hsweeps, hseg, hnumber, hdigest⟩ := M.sweep_spec
    obtain ⟨hmode, hpins, htime, -, -, hnode, -⟩ := M.sweep_frame
    dsimp only
    rw [hsweeps, hseg, hnumber, hdigest, htime, hpins, hmode, hnode]
    refine ⟨?_, ?_, rfl, rfl, rfl, hmark.1, hmark.2.1, hmark.2.2, ?_, ?_, ?_⟩ <;> rw [hM]
  · exact fun s hw hsync => ⟨_, estimatorSweep_holds hw hsync, Live.holdSweep_spec (s.live.toMark_eq (ms 10))⟩
  · intro s t hw hover hrep
    refine ⟨_, uncertaintyLimitExceeded_leaves hw hover hrep, ?_⟩
    obtain ⟨time, htime, hclk⟩ := s.live.reach_eq (t + sec 60)
    obtain ⟨rcd, com, dbg, cap, e, hraised⟩ := Live.reportOver_eq { s.live with time := time }
    obtain ⟨est, obj, rcd', com', dbg', cap', e', hrep', hreq, hraised'⟩ := Live.askWindow_eq
      { s.live with time := time, est := { s.live.est with overRep := true }, rcd := rcd, com := com, dbg := dbg, cap := cap }
    rw [htime, e, e']
    refine ⟨hrep', hclk, hreq, hraised'.trans ?_, rfl⟩
    change rcd.raised + (if s.live.ctl 0x350008 = 1 ∧ s.live.est.reqSince = none then 1 else 0) = _
    rw [hraised]
    split <;> rfl
  · intro s t hw hquiet hdone
    refine ⟨_, referenceWindowComplete_leaves hw hquiet hdone, ?_⟩
    obtain ⟨time, htime, hclk⟩ := s.live.reach_eq (t + sec 60)
    rw [htime]
    obtain ⟨hcomplete, hreq, hstatus, htime', hmode, hpins⟩ := Live.windowDone_spec { s.live with time := time }
    exact ⟨hcomplete, hreq, hstatus, htime' ▸ hclk, hmode, hpins⟩
  · intro s t hw hreq hunmet
    refine ⟨_, referenceRequestUnmet_leaves hw hreq hunmet, ?_⟩
    obtain ⟨time, htime, hclk⟩ := s.live.reach_eq (t + sec 86400)
    obtain ⟨rcd, com, dbg, cap, e⟩ := Live.standUnmet_eq { s.live with time := time }
    rw [htime, e]
    exact ⟨rfl, s.live.getN_put_same 0x350027 4, hclk, fun k hk => s.live.get_put_ne k 0x350027 4 (by simpa using hk), rfl⟩
  · exact fun s h => referenceRequestUnmet_idle h
  · intro s sess hg hnone
    refine answers_of_granted_command hg (exec_estCmdRequestWindow sess s) fun M R hM hR => ?_
    rw [Live.cmdEst_request (hM.est ▸ hnone), Live.orAbort_ok] at hR
    obtain ⟨quiet, rcd, com, dbg, cap, e, -⟩ := M.requestWindow_eq true
    rw [e] at hR
    obtain ⟨hreply, ks, out, mgr, dbg', num, bus, rfl⟩ := hR
    obtain ⟨ss, ed, n, bulk, seq, rfl⟩ := hM
    refine ⟨rfl, rfl, (Live.getN_put_same s.live 0x350027 _).trans ?_, hreply, rfl⟩
    split <;> rfl
  · intro s sess hg hsome
    refine answers_of_granted_command hg (exec_estCmdRequestWindow sess s) fun M R hM hR => ?_
    rw [Live.cmdEst_requested (hM.est ▸ hsome), Live.orAbort_ok] at hR
    obtain ⟨hreply, ks, out, mgr, dbg, num, bus, rfl⟩ := hR
    obtain ⟨ss, ed, n, bulk, seq, rfl⟩ := hM
    exact ⟨hreply, rfl⟩
  · intro s sess hg
    refine answers_of_granted_command hg (exec_estCmdWithdrawRequest sess s) fun M R hM hR => ?_
    rw [M.cmdEst_withdraw, Live.orAbort_ok] at hR
    obtain ⟨hreply, ks, out, mgr, dbg, num, bus, rfl⟩ := hR
    obtain ⟨ss, ed, n, bulk, seq, rfl⟩ := hM
    refine ⟨rfl, rfl, (Live.getN_put_same s.live 0x350027 _).trans ?_, hreply, rfl⟩
    split <;> rfl
  · intro s sess seg hg _ hst
    refine answers_of_granted_command hg (exec_segEstCmdReplaced sess seg s) fun M R hM hR => ?_
    obtain ⟨cold, rcd, com, dbg, cap, e⟩ := Live.cmdReplaced_restarts seg.val (hM.mode ▸ hst)
    rw [e, Live.orAbort_ok] at hR
    obtain ⟨hreply, ks, out, mgr, dbg', num, bus, rfl⟩ := hR
    obtain ⟨ss, ed, n, bulk, seq, rfl⟩ := hM
    refine ⟨fun x hx hin => ?_, fun x hx hout => ?_, hreply, rfl⟩
    · rw [mem_replacedCtx hx, if_pos hin]
      exact ⟨rfl, rfl, rfl, rfl⟩
    · rw [mem_replacedCtx hx, if_neg hout]
  · intro s sess seg hg hst
    refine answers_of_granted_command hg (exec_segEstCmdReplaced sess seg s) fun M R hM hR => ?_
    rw [Live.cmdReplaced_refused seg.val (hM.driving ▸ hM.mode ▸ hst), Live.orAbort_error] at hR
    obtain ⟨hreply, ks, out, mgr, dbg, num, bus, rfl⟩ := hR
    obtain ⟨ss, ed, n, bulk, seq, rfl⟩ := hM
    exact ⟨hreply, rfl⟩

end Sys2Proof.Machine
end

section
/-! Test pulses on the feedback inputs (10 R268, R269): how many pulses were missed before may be the fault already. -/

namespace Sys2Proof.Machine

open Sys2Proof

/-- At a test pulse every pair is judged, then FB_KP, then FB_KN. -/
theorem exec_testPulseStart (t2 : Bool) (lowA lowB : Nat) (fbLowP fbLowN : Bool) (s : State) :
    exec (.testPulseStart t2 lowA lowB fbLowP fbLowN) s = runIn 5 s (fun L =>
      (((List.range 8).foldl (fun L i => (L.pulseInput (!t2) lowA false i).pulseInput t2 lowB true i) (L.toPulse t2)).pulseFeedback
        false (!t2) fbLowP).pulseFeedback true t2 fbLowN) := rfl

/-- A module in STANDBY with no input pair in use, whose FB_KP has missed two of its own pulses while no fault of it is latched. -/
def missedTwice : State := { live := { mode := { st := .standby }, saf := { fbMiss := (2, 0) } } }

/-- Refutes O22, the clause of a test pulse that all inputs follow: it says that nothing changes but the missed counts, whatever they were.
FB_KP has missed two of its own pulses, and T2 is pulled low, which FB_KP rightly does not follow and FB_KN does. The count of FB_KP stays at
two, which is the test-pulse fault of 10 R269: it is latched at this pulse. -/
theorem not_inputsAndFeedbackAreJudged : ¬ Obligations.InputsAndFeedbackAreJudged := by
  rintro ⟨-, -, -, -, hPulse, -⟩
  obtain ⟨-, -, -, hframe⟩ := of_answers_runIn (by decide) (exec_testPulseStart _ _ _ _ _ _)
    (hPulse missedTwice true 0 0 false true (by decide) (by decide +kernel) rfl rfl rfl rfl rfl)
  exact absurd (congrArg (·.saf.fbFault) hframe) (by decide +kernel)

end Sys2Proof.Machine
end

section
/-! The release of SF-09 by command (10 R262), given once more while the cause is still latched. -/

namespace Sys2Proof.Machine

open Sys2Proof

/-- SF-09 is released by command while all three feedbacks show open and its cause is latched, whether it has been released before or not. -/
theorem Live.cmdSafety_releases_sf09 {L : Live} (hopen : L.allOpen = true) (hlatched : bitOf (L.getN 0x404001) 8 = true) :
    ∃ R, L.cmdSafety 1 = .ok R := by
  simp [Live.cmdSafety, hopen, hlatched]

theorem exec_safetyCmdReleaseSf09 (sess : Sess) (s : State) :
    exec (.safetyCmdReleaseSf09 sess) s =
      run s (fun L => L.command sess 3 0x404008 (leBytes 1 1) (fun L => L.orAbort (L.cmdSafety 1))) := rfl

/-- While SF-09 is latched and the three feedbacks show open, its release command is answered with success. -/
theorem safetyCmdReleaseSf09_succeeds {s : State} {sess : Sess} (hg : Granted sess 3 s.live) (hopen : s.live.allOpen = true)
    (hlatched : bitOf (s.live.getN 0x404001) 8 = true) : Answers (.safetyCmdReleaseSf09 sess) s (Replied sess 0) := by
  refine answers_of_granted_command hg (exec_safetyCmdReleaseSf09 sess s) fun M R hM hR => ?_
  obtain ⟨N, hN⟩ := Live.cmdSafety_releases_sf09 (hM.allOpen.trans hopen) ((congrArg (bitOf · 8) (hM.getN _)).trans hlatched)
  rw [hN, Live.orAbort_ok] at hR
  exact hR.1

/-- A module in SAFE with all three feedbacks open, whose SF-09 is latched and has been released by command; CAN has level 3. -/
def releasedSf09 : State :=
  { live := {
      mode := { st := .safe }
      ks := { atBoot := [(0x200002, 2)] }
      com := { nmt := 5 }
      obj := [(0x404001, 256), (0x4C0007, 3)]
      saf := { released := (List.replicate 13 false).set 8 true } } }

/-- Refutes O23, the clause of a release command of SF-09 that is refused: it says that a cause which is not open is refused with the state
abort code, and a cause released before is not open. SF-09 stays latched until the acknowledgement, all three feedbacks show open, and the
command is given a second time. 10 R262 refuses it only where a feedback does not show open or no SF-09 is latched: it is
answered with success. -/
theorem not_bayTripReleaseAndTwinX : ¬ Obligations.BayTripReleaseAndTwinX := by
  rintro ⟨-, -, -, -, -, -, hRefused, -⟩
  have hg : Granted 0x1001 3 releasedSf09.live := by decide +kernel
  obtain ⟨L, hL, hok⟩ := safetyCmdReleaseSf09_succeeds hg (by decide) (by decide +kernel)
  obtain ⟨habort, -⟩ := of_answers hL (hRefused releasedSf09 0x1001 hg (.inr (by decide +kernel)))
  have hcode : (0 : Abort) = abState := by
    simpa using (hok (by decide) (by decide)).symm.trans (habort (by decide) (by decide))
  exact absurd hcode (by decide)

end Sys2Proof.Machine
end

section
/-! What the four-step sequence and the entry to SAFE (10 R249 to R252; 03 R52 T13) leave: one induction over the steps, and its uses. -/

namespace Sys2Proof.Machine

open Sys2Proof

/-! ### The steps that the sequence may take at once -/

theorem Live.stepOf_of_seq {L : Live} {q : Seq} (h : L.mode.seq = some q) : L.stepOf = q.step := by
  simp [Live.stepOf, h]

/-- What holds at the start, and is kept by each step of the sequence from the step before it, holds once the sequence has gone on. -/
theorem Live.seqOn_induction {P : Live → Prop} (h2 : ∀ M, M.stepOf = 1 → P M → P M.toStep2) (h3 : ∀ M, M.stepOf = 2 → P M → P M.toStep3)
    (h4 : ∀ M, M.stepOf = 3 → P M → P M.toStep4) (h5 : ∀ M, M.stepOf = 4 → P M → P M.toStep5) {L : Live} (h : P L) : P L.seqOn := by
  have h12 : P L.seq12 := by
    unfold Live.seq12
    split
    · next q hq =>
      extract_lets isOver
      split
      · next hstep => exact h2 L ((Live.stepOf_of_seq hq).trans hstep.1) h
      · exact h
    · exact h
  have h23 : P L.seq12.seq23 := by
    unfold Live.seq23
    split
    · next q hq =>
      split
      · next hstep => exact h3 _ ((Live.stepOf_of_seq hq).trans hstep.1) h12
      · exact h12
    · exact h12
  have h34 : P L.seq12.seq23.seq34 := by
    unfold Live.seq34
    split
    · next q hq =>
      split
      · next hstep => exact h4 _ ((Live.stepOf_of_seq hq).trans hstep.1) h23
      · exact h23
    · exact h23
  unfold Live.seqOn Live.seq45
  split
  · next q hq =>
    split
    · next hstep => exact h5 _ ((Live.stepOf_of_seq hq).trans hstep.1) h34
    · exact h34
  · exact h34

/-! ### The record of the safety functions, and the objects -/

/-- The record of the safety functions but for what the sequence and the release within the twin change of it: the commands to the partner,
the expectation of the contactors, the last loop test, and what the insulation monitor counts. -/
def Live.record (L : Live) : Safety :=
  { L.saf with ownCmd := none, ownMore := [], expect := (0, false), loneSince := 0, insHalves := 0, insBelow := (0, 0), insGap := none }

/-- The objects that the sequence and the entry to SAFE write: a command's result, the loop current and the cause of an aborted chisel. -/
def sequenceObjects : List Nat := [0x20000C, 0x200015, 0x320027]

/-- M has the record of L and, but for those of the sequence, its objects. -/
structure Sequenced (L M : Live) : Prop where
  record : M.record = L.record
  objects : ∀ k ∉ sequenceObjects, M.get k = L.get k

theorem Sequenced.refl (L : Live) : Sequenced L L := ⟨rfl, fun _ _ => rfl⟩

theorem Sequenced.trans {L M N : Live} (h : Sequenced L M) (h' : Sequenced M N) : Sequenced L N :=
  ⟨h'.record.trans h.record, fun k hk => (h'.objects k hk).trans (h.objects k hk)⟩

theorem Sequenced.of_same {L M : Live} (hsaf : M.saf = L.saf) (hobj : M.obj = L.obj) : Sequenced L M :=
  ⟨by rw [Live.record, hsaf, Live.record], fun k _ => Live.get_congr _ _ k hobj⟩

theorem Sequenced.of_record {L M : Live} (hrecord : M.record = L.record) (hobj : M.obj = L.obj) : Sequenced L M :=
  ⟨hrecord, fun k _ => Live.get_congr _ _ k hobj⟩

theorem Sequenced.getN {L M : Live} (h : Sequenced L M) {k : Nat} (hk : k ∉ sequenceObjects) : M.getN k = L.getN k := by
  rw [Live.getN, h.objects k hk, Live.getN]

theorem Live.put_sequenced (L : Live) (k : Nat) (v : Int) (hk : k ∈ sequenceObjects) : Sequenced L (L.put k v) :=
  ⟨rfl, fun _ hj => Live.get_put_ne L _ k v fun e => hj (e ▸ hk)⟩

theorem Live.setSeq_sequenced (L : Live) (f : Seq → Seq) : Sequenced L (L.setSeq f) := .of_same rfl rfl

theorem Live.updExpect_sequenced (L : Live) : Sequenced L L.updExpect := by
  refine .of_record ?_ (by simp [Live.updExpect_frame])
  unfold Live.updExpect
  dsimp only
  split <;> rfl

theorem Live.openLoop_sequenced (L : Live) : Sequenced L L.openLoop := by
  unfold Live.openLoop
  extract_lets _ M N
  have hN : Sequenced L N := .of_same (by simp [N, M, Live.pullX_frame]) (by simp [N, M, Live.pullX_frame])
  exact (hN.trans (N.put_sequenced 0x200015 0 (by decide))).trans (Live.updExpect_sequenced _)

theorem Live.insRelay_sequenced (L : Live) : Sequenced L L.insRelay := by
  refine .of_record ?_ (by simp [Live.insRelay_frame])
  unfold Live.insRelay Live.setRelay
  split <;> rfl

theorem Live.setState_sequenced (L : Live) (new : MState) (trig : Nat) : Sequenced L (L.setState new trig) :=
  ⟨by simp [Live.record, Live.setState_frame], fun k hk => L.setState_get new trig k fun e => hk (e ▸ by decide)⟩

theorem Live.enterStandby_sequenced (L : Live) (trig : Nat) : Sequenced L (L.enterStandby trig) := by
  refine ⟨?_, fun k hk => L.enterStandby_get trig k fun e => hk (e ▸ by decide)⟩
  unfold Live.enterStandby
  dsimp only
  split <;> simp [Live.record, Live.setFast_frame, Live.setNmt_frame, Live.setState_frame]

theorem Live.cancelPending_sequenced (L : Live) (r : Nat) : Sequenced L (L.cancelPending r) := by
  unfold Live.cancelPending
  split
  · exact ⟨rfl, (L.put_sequenced 0x20000C r (by decide)).objects⟩
  · exact .refl L

theorem Live.endCommand_sequenced (L : Live) (n : Nat) : Sequenced L (L.endCommand n) := by
  refine .of_record ?_ (by simp [Live.endCommand_frame])
  unfold Live.endCommand
  split
  · rfl
  · dsimp only
    split
    · rfl
    · split
      · rfl
      · simp [Live.record, Live.dropX_frame]

theorem Live.toStep2_sequenced (L : Live) : Sequenced L L.toStep2 :=
  .of_same (by simp [Live.toStep2_frame]) (by simp [Live.toStep2_frame])

theorem Live.toStep3_sequenced (L : Live) : Sequenced L L.toStep3 := L.openLoop_sequenced.trans (Live.setSeq_sequenced _ _)

theorem Live.toStep4_sequenced (L : Live) : Sequenced L L.toStep4 := .of_same rfl rfl

theorem Live.toStep5_sequenced (L : Live) : Sequenced L L.toStep5 := by
  unfold Live.toStep5
  split
  · split
    · exact L.enterStandby_sequenced 12
    · exact (L.setSeq_sequenced _).trans (Live.endCommand_sequenced _ 12)
  · exact .refl L

theorem Live.seqOn_sequenced (L : Live) : Sequenced L L.seqOn :=
  Live.seqOn_induction (fun M _ h => h.trans M.toStep2_sequenced) (fun M _ h => h.trans M.toStep3_sequenced)
    (fun M _ h => h.trans M.toStep4_sequenced) (fun M _ h => h.trans M.toStep5_sequenced) (.refl L)

theorem Live.enterSafe_sequenced (L : Live) (kind : SeqKind) : Sequenced L (L.enterSafe kind) := by
  unfold Live.enterSafe
  split
  · extract_lets step q C S _ _ _ M N
    have hM : Sequenced S M := .of_record rfl rfl
    have hS : Sequenced L S := (L.cancelPending_sequenced 5).trans (C.setState_sequenced .safe 13)
    have hN : Sequenced M N := by
      unfold N
      split
      · exact M.toStep2_sequenced
      · exact .refl M
    exact ((hS.trans hM).trans hN).trans N.seqOn_sequenced
  · split
    · exact (L.toStep2_sequenced.trans (Live.setSeq_sequenced _ _)).trans (Live.seqOn_sequenced _)
    · exact .refl L

theorem Live.releaseTwin_sequenced (L : Live) : Sequenced L L.releaseTwin := by
  unfold Live.releaseTwin
  extract_lets M _ N K
  have hcut : Sequenced L L.cutFast := .of_same (by simp [Live.cutFast_frame]) (by simp [Live.cutFast_frame])
  have hN : Sequenced M { M with twin := { M.twin with holds := false, claims := false } } := .of_same rfl rfl
  have hK : Sequenced L N := ((hcut.trans L.cutFast.openLoop_sequenced).trans hN).trans (Live.insRelay_sequenced _)
  split
  · exact hK
  · have hS := (hK.trans (N.cancelPending_sequenced 5)).trans (Live.setState_sequenced _ .safe 13)
    exact ⟨hS.record, hS.objects⟩

end Sys2Proof.Machine
end

section
/-! What the sequence leaves of FAST_OFF, of the contacts, of the command to the partner, and how far it gets. -/

namespace Sys2Proof.Machine

open Sys2Proof

/-! ### FAST_OFF -/

/-- FAST_OFF at the pins and what channel B drives (02 R33; 10 R247). -/
def Live.drive (L : Live) : FastOff × FastOff := (L.pins.fastOff, L.pins.pathB)

theorem Live.pullX_drive (L : Live) (hold : Bool) : (L.pullX hold).drive = L.drive := rfl

theorem Live.dropX_drive (L : Live) : L.dropX.drive = L.drive := by
  unfold Live.dropX Live.settleX
  extract_lets
  split <;> rfl

theorem Live.endCommand_drive (L : Live) (n : Nat) : (L.endCommand n).drive = L.drive := by
  unfold Live.endCommand
  split
  · rfl
  · dsimp only
    split
    · rfl
    · split
      · rfl
      · exact Live.dropX_drive _

theorem Live.openLoop_drive (L : Live) : L.openLoop.drive = L.drive := by
  unfold Live.openLoop
  extract_lets _ M N
  have hN : N.drive = M.drive := by
    unfold N
    split
    · rfl
    · exact M.pullX_drive false
  simpa [Live.drive, Live.updExpect_frame] using hN

/-- OFF stands at the pins where channel B drives it. -/
theorem joinFast_off (a : FastOff) : joinFast a .off = .off := by simp [joinFast]

/-- While channel B drives OFF, a path set to OFF leaves it so. -/
theorem Live.setPath_off {L : Live} (h : L.drive = (.off, .off)) (ch : Nat) : (L.setPath ch .off).drive = (.off, .off) := by
  have hB : L.pins.pathB = .off := congrArg Prod.snd h
  unfold Live.setPath
  dsimp only
  by_cases h1 : ch = 1
  · simp [Live.drive, h1, hB, joinFast_off]
  · simp [Live.drive, h1, joinFast_off]

/-- Channel B, or both, set to OFF: OFF stands at the pins. -/
theorem Live.setPath_off_of_ne {L : Live} {ch : Nat} (hch : ch ≠ 1) : (L.setPath ch .off).drive = (.off, .off) := by
  unfold Live.setPath
  simp [Live.drive, hch, joinFast_off]

/-! ### Kinds and steps -/

theorem Live.seq_isSome_of_stepOf {L : Live} (h : L.stepOf ≠ 0) : L.mode.seq.isSome := by
  unfold Live.stepOf at h
  split at h
  · next q hq => simp [hq]
  · exact absurd rfl h

theorem Live.setSeq_stepOf (L : Live) (f : Seq → Seq) (n : Nat) (h : L.mode.seq.isSome) (hf : ∀ q, (f q).step = n) :
    (L.setSeq f).stepOf = n := by
  obtain ⟨q, hq⟩ := Option.isSome_iff_exists.mp h
  simp [Live.setSeq, Live.stepOf, hq, hf]

theorem Live.toStep2_stepOf (L : Live) (h : L.mode.seq.isSome) : L.toStep2.stepOf = 2 :=
  Live.setSeq_stepOf _ _ 2 (by simpa [Live.setPath_frame] using h) fun _ => rfl

theorem Live.toStep3_stepOf (L : Live) (h : L.mode.seq.isSome) : L.toStep3.stepOf = 3 :=
  Live.setSeq_stepOf _ _ 3 (by simpa [Live.openLoop_frame] using h) fun _ => rfl

theorem Live.toStep4_stepOf (L : Live) (h : L.mode.seq.isSome) : L.toStep4.stepOf = 4 :=
  Live.setSeq_stepOf _ _ 4 h fun _ => rfl

/-- A sequence that is no shut-down completes in step 5, with its command for SF-12 ended; FAST_OFF stays as it is driven. -/
theorem Live.toStep5_of_kind {L : Live} (h : L.kindOf ≠ some .shutdown) (hs : L.mode.seq.isSome) :
    L.toStep5 = (L.setSeq (fun q => { q with step := 5 })).endCommand 12 := by
  obtain ⟨q, hq⟩ := Option.isSome_iff_exists.mp hs
  have hkind : q.kind ≠ .shutdown := by simpa [Live.kindOf, hq] using h
  simp [Live.toStep5, hq, hkind]

theorem Live.toStep5_stepOf {L : Live} (h : L.kindOf ≠ some .shutdown) (hs : L.mode.seq.isSome) : L.toStep5.stepOf = 5 := by
  rw [Live.toStep5_of_kind h hs]
  have hstep := L.setSeq_stepOf (fun q => { q with step := 5 }) 5 hs fun _ => rfl
  simpa [Live.stepOf, Live.endCommand_frame] using hstep

/-- The step reached stays reached: at once the sequence goes only forward, unless it is a shut-down that ends in STANDBY (03 R52 T12). -/
theorem Live.seqOn_reaches {L : Live} {a : Nat} (h : a ≤ L.stepOf) :
    a ≤ L.seqOn.stepOf ∨ (L.kindOf = some .shutdown ∧ L.seqOn.mode.st = .standby) := by
  suffices hend : (L.seqOn.kindOf = L.kindOf ∧ a ≤ L.seqOn.stepOf) ∨
      (L.kindOf = some .shutdown ∧ L.seqOn.mode.st = .standby ∧ L.seqOn.stepOf = 0) from
    hend.imp (·.2) fun h => ⟨h.1, h.2.1⟩
  refine Live.seqOn_induction (P := fun M => (M.kindOf = L.kindOf ∧ a ≤ M.stepOf) ∨
    (L.kindOf = some .shutdown ∧ M.mode.st = .standby ∧ M.stepOf = 0)) ?_ ?_ ?_ ?_ (.inl ⟨rfl, h⟩)
  all_goals
    rintro M hstep (⟨hkind, ha⟩ | ⟨-, -, h0⟩)
    case inr => omega
    have hs := M.seq_isSome_of_stepOf (by omega)
  · exact .inl ⟨M.toStep2_kind.2.trans hkind, by rw [M.toStep2_stepOf hs]; omega⟩
  · exact .inl ⟨M.toStep3_kind.2.trans hkind, by rw [M.toStep3_stepOf hs]; omega⟩
  · exact .inl ⟨M.toStep4_kind.2.trans hkind, by rw [M.toStep4_stepOf hs]; omega⟩
  · by_cases hshut : M.kindOf = some .shutdown
    · obtain ⟨q, hq⟩ := Option.isSome_iff_exists.mp hs
      have hend : M.toStep5 = M.enterStandby 12 := by
        have hk : q.kind = .shutdown := by simpa [Live.kindOf, hq] using hshut
        simp [Live.toStep5, hq, hk]
      exact .inr ⟨hkind ▸ hshut, by simp [hend], by simp [hend, Live.stepOf]⟩
    · exact .inl ⟨(M.toStep5_kind hshut).2.trans hkind, by rw [M.toStep5_stepOf hshut hs]; omega⟩

/-- Past step 1 a sequence that is no shut-down leaves FAST_OFF as it is driven. -/
theorem Live.seqOn_drive {L : Live} (hstep : L.stepOf ≠ 1) (hkind : L.kindOf ≠ some .shutdown) : L.seqOn.drive = L.drive := by
  suffices hend : L.seqOn.stepOf ≠ 1 ∧ L.seqOn.kindOf ≠ some .shutdown ∧ L.seqOn.drive = L.drive from hend.2.2
  refine Live.seqOn_induction (P := fun M => M.stepOf ≠ 1 ∧ M.kindOf ≠ some .shutdown ∧ M.drive = L.drive) ?_ ?_ ?_ ?_
    ⟨hstep, hkind, rfl⟩
  all_goals
    rintro M hM ⟨hne, hk, hd⟩
    have hs := M.seq_isSome_of_stepOf (by omega)
  · exact absurd hM hne
  · exact ⟨by rw [M.toStep3_stepOf hs]; decide, M.toStep3_kind.2 ▸ hk, M.openLoop_drive.trans hd⟩
  · exact ⟨by rw [M.toStep4_stepOf hs]; decide, M.toStep4_kind.2 ▸ hk, hd⟩
  · refine ⟨by rw [M.toStep5_stepOf hk hs]; decide, (M.toStep5_kind hk).2 ▸ hk, ?_⟩
    rw [Live.toStep5_of_kind hk hs]
    exact (Live.endCommand_drive _ 12).trans hd

/-! ### The contacts of the own loop -/

theorem Live.seqOn_open {L : Live} (h : L.pins.contactA = false ∧ L.pins.contactB = false) :
    L.seqOn.pins.contactA = false ∧ L.seqOn.pins.contactB = false := by
  refine Live.seqOn_induction (P := fun M => M.pins.contactA = false ∧ M.pins.contactB = false) ?_ ?_ ?_ ?_ h
  · intro M _ hM
    simpa [Live.toStep2, Live.setSeq_frame, Live.setPath_keeps] using hM
  · intro M _ _
    exact M.openLoop_open
  · exact fun _ _ hM => hM
  · intro M _ hM
    simpa [Live.toStep5_keeps] using hM

/-! ### The command to the partner -/

/-- The commands that this twin holds to its partner (10 R253). -/
def Live.commands (L : Live) : List TripCmd := L.saf.ownCmd.toList ++ L.saf.ownMore

/-- TWIN_X is low with a command held that is not that of SF-12, which alone the end of a sequence takes back (10 R253). -/
def Live.Commanding (L : Live) : Prop := L.pins.twinXLow = true ∧ ∃ c ∈ L.commands, c.d0 ≠ 12

theorem Live.Commanding.of_same {L M : Live} (h : L.Commanding) (hpins : M.pins.twinXLow = L.pins.twinXLow) (hsaf : M.commands = L.commands) :
    M.Commanding := ⟨hpins.trans h.1, hsaf ▸ h.2⟩

theorem Live.Commanding.openLoop {L : Live} (h : L.Commanding) : L.openLoop.Commanding := by
  unfold Live.openLoop
  extract_lets _ M N
  have hM : M.Commanding := h.of_same rfl rfl
  have hN : N.Commanding := by
    unfold N
    split
    · exact hM
    · exact ⟨rfl, hM.2⟩
  refine hN.of_same (by simp [Live.updExpect_frame]) ?_
  unfold Live.updExpect
  dsimp only
  split <;> rfl

theorem Live.Commanding.endCommand {L : Live} (h : L.Commanding) : (L.endCommand 12).Commanding := by
  obtain ⟨hlow, c, hc, hne⟩ := h
  unfold Live.endCommand
  split
  · exact ⟨hlow, c, hc, hne⟩
  · next x hx =>
    have hmem : c = x ∨ c ∈ L.saf.ownMore := by simpa [Live.commands, hx] using hc
    dsimp only
    split
    · next hx12 =>
      rcases hmem with rfl | hmore
      · exact ⟨hlow, c, by simp [Live.commands, hx], hne⟩
      · exact ⟨hlow, c, by simp [Live.commands, hmore, hne], hne⟩
    · next hx12 =>
      have hmore : c ∈ L.saf.ownMore.filter (fun y => y.d0 != 12) := by
        rcases hmem with rfl | hmore
        · exact absurd hne hx12
        · simp [hmore, hne]
      split
      · next y ys hys => exact ⟨hlow, c, by simpa [Live.commands, hys] using hmore, hne⟩
      · next hnil => simp [hnil] at hmore

theorem Live.Commanding.toStep5 {L : Live} (h : L.Commanding) : L.toStep5.Commanding := by
  unfold Live.toStep5
  split
  · split
    · refine h.of_same ?_ ?_
      · unfold Live.enterStandby
        dsimp only
        split <;> simp [Live.setFast, Live.setNmt_frame, Live.setState_frame]
      · unfold Live.enterStandby Live.commands
        dsimp only
        split <;> simp [Live.setFast, Live.setNmt_frame, Live.setState_frame]
    · exact Live.Commanding.endCommand (h.of_same rfl rfl)
  · exact h

theorem Live.Commanding.toStep2 {L : Live} (h : L.Commanding) : L.toStep2.Commanding := h.of_same rfl rfl

theorem Live.Commanding.seqOn {L : Live} (h : L.Commanding) : L.seqOn.Commanding :=
  Live.seqOn_induction (fun _ _ hM => hM.toStep2) (fun _ _ hM => hM.openLoop.of_same rfl rfl) (fun _ _ hM => hM.of_same rfl rfl)
    (fun _ _ hM => hM.toStep5) h

end Sys2Proof.Machine
end

section
/-! Bits of a mask: a bit reads as it was set, and the others as before. -/

namespace Sys2Proof.Machine

open Sys2Proof

theorem bitOf_eq_testBit (v b : Nat) : bitOf v b = v.testBit b := by
  rw [Nat.testBit_eq_decide_div_mod_eq, bitOf, Bool.beq_eq_decide_eq]

/-- Adding a power of two whose bit is clear sets that bit alone: nothing carries. -/
theorem testBit_add_two_pow {v b k : Nat} (h : v.testBit b = false) (hk : k ≠ b) : (v + 2 ^ b).testBit k = v.testBit k := by
  rcases Nat.lt_or_gt_of_ne hk with hlt | hgt
  · rw [Nat.add_comm, Nat.testBit_two_pow_add_gt hlt]
  · have heven : v / 2 ^ b % 2 ≠ 1 := by simpa [Nat.testBit_eq_decide_div_mod_eq] using h
    have hhigh : (v + 2 ^ b) / 2 ^ (b + 1) = v / 2 ^ (b + 1) := by
      rw [Nat.pow_succ, ← Nat.div_div_eq_div_mul, ← Nat.div_div_eq_div_mul, Nat.add_div_right _ (Nat.two_pow_pos b)]
      omega
    obtain ⟨d, rfl⟩ : ∃ d, k = d + (b + 1) := ⟨k - (b + 1), by omega⟩
    rw [Nat.testBit_add, Nat.testBit_add, hhigh]

/-- A mask with a bit set is that mask with the bit clear, and the power of two. -/
theorem exists_clear_of_testBit {v b : Nat} (h : v.testBit b = true) : ∃ w, v = w + 2 ^ b ∧ w.testBit b = false := by
  have hle : 2 ^ b ≤ v := Nat.ge_two_pow_of_testBit h
  refine ⟨v - 2 ^ b, by omega, ?_⟩
  have hflip := Nat.testBit_two_pow_add_eq (v - 2 ^ b) b
  rw [Nat.add_sub_cancel' hle, h] at hflip
  simpa using hflip.symm

/-- The mask without a bit. -/
theorem setBit_eq_add (v b : Nat) : ∃ w, w.testBit b = false ∧ (∀ k, k ≠ b → w.testBit k = v.testBit k) ∧
    ∀ c, setBit v b c = w + if c then 2 ^ b else 0 := by
  cases h : v.testBit b with
  | false => exact ⟨v, h, fun _ _ => rfl, fun c => by simp [setBit, bitOf_eq_testBit, h]⟩
  | true =>
    obtain ⟨w, rfl, hw⟩ := exists_clear_of_testBit h
    exact ⟨w, hw, fun k hk => (testBit_add_two_pow hw hk).symm, fun c => by simp [setBit, bitOf_eq_testBit, h]⟩

@[simp] theorem bitOf_setBit_same (v b : Nat) (c : Bool) : bitOf (setBit v b c) b = c := by
  obtain ⟨w, hw, -, hset⟩ := setBit_eq_add v b
  rw [hset, bitOf_eq_testBit]
  cases c with
  | false => simpa using hw
  | true => simp [Nat.add_comm w, Nat.testBit_two_pow_add_eq, hw]

theorem bitOf_setBit_ne (v : Nat) {b k : Nat} (c : Bool) (hk : k ≠ b) : bitOf (setBit v b c) k = bitOf v k := by
  obtain ⟨w, hw, hother, hset⟩ := setBit_eq_add v b
  rw [hset, bitOf_eq_testBit, bitOf_eq_testBit, ← hother k hk]
  cases c with
  | false => rfl
  | true => exact testBit_add_two_pow hw hk

/-- A bit that is set stays set when another, or the same, is set. -/
theorem bitOf_setBit_true {v k : Nat} (b : Nat) (h : bitOf v k = true) : bitOf (setBit v b true) k = true := by
  by_cases hk : k = b
  · rw [hk, bitOf_setBit_same]
  · rw [bitOf_setBit_ne v true hk, h]

end Sys2Proof.Machine
end

section
/-! What a trip of a safety function leaves (10 R248 to R253, R261, R281): the decision, the masks, SAFE, FAST_OFF and the command. -/

namespace Sys2Proof.Machine

open Sys2Proof

/-! ### A trip that is taken, and one that is not -/

/-- The trip is on record: its event, the count of SF-11, and its latch (10 R262, R281). -/
def Live.recordTrip (L : Live) (n ch code : Nat) : Live :=
  let M := if n = 13 then L.raise 111 code 3 [] L.tripPayload else L.raise (95 + n) code 3 [] L.tripPayload
  Live.latchCause (if n = 11 ∧ !bitOf (M.getN 0x404002) 10 then M.countSf11 else M) n ch

theorem Live.trip_of_new {L : Live} {n ch : Nat} (code : Nat) (classF bay : Bool) (hs : L.fromStandby = true)
    (hnew : L.decided n ch = false) : L.trip n ch code classF bay = (L.recordTrip n ch code).tripAct n ch classF bay := by
  simp [Live.trip, Live.recordTrip, hs, hnew]

theorem Live.trip_of_decided {L : Live} {n ch : Nat} (code : Nat) (classF : Bool) (h : L.decided n ch = true) :
    L.trip n ch code classF false = L := by
  simp [Live.trip, h]

theorem Live.trip_before_standby {L : Live} (n ch code : Nat) (classF bay : Bool) (h : L.fromStandby = false) :
    L.trip n ch code classF bay = L := by
  simp [Live.trip, h]

/-! ### The record of a trip -/

/-- What a trip leaves of the record of the safety functions: all but the decisions, the hold-off, the hazard, the release of the causes, the
bay loop element, and what the sequence changes. -/
def Live.counts (L : Live) : Safety :=
  { L.record with
    decA := 0, decB := 0, holdoff := none, hazard := false, elementAt := none, elementFor := 0, relSince := [], released := [], sf11 := []
    sf11Reset := false }

theorem Sequenced.counts {L M : Live} (h : Sequenced L M) : M.counts = L.counts := by rw [Live.counts, h.record, Live.counts]

theorem Sequenced.decisions {L M : Live} (h : Sequenced L M) : M.saf.decA = L.saf.decA ∧ M.saf.decB = L.saf.decB :=
  ⟨(congrArg Safety.decA h.record :), (congrArg Safety.decB h.record :)⟩

theorem Live.commandPartner_sequenced (L : Live) (c : TripCmd) : Sequenced L (L.commandPartner c) := by
  refine .of_record ?_ (by simp [Live.commandPartner_frame])
  unfold Live.commandPartner
  extract_lets _ M
  have hM : M.record = L.record := by
    unfold M
    split
    · rfl
    · split <;> rfl
  exact hM

/-- Up to the safe state, what a trip does leaves the decisions and the counts, and the objects but for the sequence's. -/
structure Tripped (L M : Live) : Prop where
  decA : M.saf.decA = L.saf.decA
  decB : M.saf.decB = L.saf.decB
  counts : M.counts = L.counts
  objects : ∀ k ∉ sequenceObjects, M.get k = L.get k

theorem Tripped.refl (L : Live) : Tripped L L := ⟨rfl, rfl, rfl, fun _ _ => rfl⟩

theorem Tripped.trans {L M N : Live} (h : Tripped L M) (h' : Tripped M N) : Tripped L N :=
  ⟨h'.decA.trans h.decA, h'.decB.trans h.decB, h'.counts.trans h.counts, fun k hk => (h'.objects k hk).trans (h.objects k hk)⟩

theorem Tripped.getN {L M : Live} (h : Tripped L M) {k : Nat} (hk : k ∉ sequenceObjects) : M.getN k = L.getN k := by
  rw [Live.getN, h.objects k hk, Live.getN]

theorem Sequenced.tripped {L M : Live} (h : Sequenced L M) : Tripped L M := ⟨h.decisions.1, h.decisions.2, h.counts, h.objects⟩

theorem Live.openElement_tripped (L : Live) (why ch : Nat) : Tripped L (L.openElement why ch) := by
  have hobj : (L.openElement why ch).obj = L.obj := by simp [Live.openElement_frame]
  have hsaf : ∃ t, (L.openElement why ch).saf = { L.saf with elementAt := t, elementFor := setBit L.saf.elementFor why true } := by
    unfold Live.openElement
    dsimp only
    split
    · exact ⟨_, rfl⟩
    · exact ⟨some L.time.clk, by simp⟩
  obtain ⟨t, e⟩ := hsaf
  exact ⟨by rw [e], by rw [e], by rw [Live.counts, Live.record, e]; rfl, fun k _ => Live.get_congr _ _ k hobj⟩

theorem Live.setPath_tripped (L : Live) (ch : Nat) (f : FastOff) : Tripped L (L.setPath ch f) :=
  (Sequenced.of_same (by simp [Live.setPath_frame]) (by simp [Live.setPath_frame])).tripped

theorem Live.tripAct_tripped (L : Live) (n ch : Nat) (classF bay : Bool) : Tripped L (L.tripAct n ch classF bay) := by
  unfold Live.tripAct
  extract_lets M N K _ J
  have hM : Tripped L M := by
    unfold M
    split
    · exact ⟨rfl, rfl, rfl, fun _ _ => rfl⟩
    · exact .refl L
  have hN : Tripped L N := by
    unfold N
    split
    · exact hM.trans (M.openElement_tripped _ ch)
    · exact hM
  split
  · exact hN.trans N.releaseTwin_sequenced.tripped
  · have hK : Tripped L K := by
      unfold K
      split
      · exact hN
      · exact hN.trans (N.commandPartner_sequenced _).tripped
    have hJ : Tripped K J := by
      unfold J
      split
      · split
        · exact K.setPath_tripped 2 .off
        · exact .refl K
      · split
        · exact .trans (M := { K with saf := { K.saf with hazard := true } }) ⟨rfl, rfl, rfl, fun _ _ => rfl⟩ (Live.setPath_tripped _ ch .off)
        · exact ⟨rfl, rfl, rfl, fun _ _ => rfl⟩
    exact (hK.trans hJ).trans (J.enterSafe_sequenced _).tripped

end Sys2Proof.Machine
end

section
/-! A trip as a whole: what it does where it is new, and what it leaves in any case (10 R248 to R253, R281). -/

namespace Sys2Proof.Machine

open Sys2Proof

/-! ### The masks and the decisions -/

/-- The masks of latched and active causes, and the channel of first decision (10 R281). -/
def causeObjects : List Nat := [0x404001, 0x404002, 0x404003]

theorem Live.latchCause_get (L : Live) (n ch : Nat) {k : Nat} (hk : k ∉ causeObjects) : (L.latchCause n ch).get k = L.get k := by
  simp only [causeObjects, List.mem_cons, List.not_mem_nil, or_false, not_or] at hk
  obtain ⟨h1, h2, h3⟩ := hk
  unfold Live.latchCause
  extract_lets first M N K
  have hM : M.get k = L.get k := by
    unfold M
    split
    · rfl
    · exact Live.get_put_ne _ _ _ _ h1
  have hN : N.get k = L.get k := (Live.get_put_ne _ _ _ _ h2).trans hM
  have hK : K.get k = L.get k := by
    unfold K
    split
    · exact (Live.get_put_ne _ _ _ _ h3).trans hN
    · exact hN
  exact hK

theorem Live.latchCause_latched (L : Live) {n ch : Nat} (h : ch ≠ 3) :
    (L.latchCause n ch).getN 0x404001 = setBit (L.getN 0x404001) (n - 1) true := by
  unfold Live.latchCause
  rw [if_neg fun e => h e.2]
  extract_lets first M N K
  have hN : N.getN 0x404001 = setBit (L.getN 0x404001) (n - 1) true := by
    simp [N, M, Live.getN_put_ne _ 0x404001 0x404002 _ (by decide)]
  have hK : K.getN 0x404001 = N.getN 0x404001 := by
    unfold K
    split
    · exact Live.getN_put_ne _ _ _ _ (by decide)
    · rfl
  exact hK.trans hN

theorem Live.latchCause_active (L : Live) (n ch : Nat) :
    (L.latchCause n ch).getN 0x404002 = setBit (L.getN 0x404002) (n - 1) true := by
  unfold Live.latchCause
  extract_lets first M N K
  have hM : M.getN 0x404002 = L.getN 0x404002 := by
    unfold M
    split
    · rfl
    · exact Live.getN_put_ne _ _ _ _ (by decide)
  have hN : N.getN 0x404002 = setBit (L.getN 0x404002) (n - 1) true := by simp [N, hM]
  have hK : K.getN 0x404002 = N.getN 0x404002 := by
    unfold K
    split
    · exact Live.getN_put_ne _ _ _ _ (by decide)
    · rfl
  exact hK.trans hN

theorem Live.latchCause_saf (L : Live) (n ch : Nat) :
    (L.latchCause n ch).saf = { L.saf with
      decA := if ch = 1 then setBit L.saf.decA (n - 1) true else L.saf.decA
      decB := if ch = 2 then setBit L.saf.decB (n - 1) true else L.saf.decB
      relSince := L.saf.relSince.set (n - 1) none
      released := L.saf.released.set (n - 1) false } := by
  simp [Live.latchCause]

/-- What putting a trip on record changes: the decision and the masks, and the counts of SF-11. -/
structure Recorded (L : Live) (n ch : Nat) (M : Live) : Prop where
  mode : M.mode = L.mode
  pins : M.pins = L.pins
  decA : M.saf.decA = if ch = 1 then setBit L.saf.decA (n - 1) true else L.saf.decA
  decB : M.saf.decB = if ch = 2 then setBit L.saf.decB (n - 1) true else L.saf.decB
  counts : M.counts = L.counts
  latched : ch ≠ 3 → M.getN 0x404001 = setBit (L.getN 0x404001) (n - 1) true
  active : M.getN 0x404002 = setBit (L.getN 0x404002) (n - 1) true
  objects : ∀ k ∉ causeObjects, M.get k = L.get k

theorem Live.recordTrip_recorded (L : Live) (n ch code : Nat) : Recorded L n ch (L.recordTrip n ch code) := by
  unfold Live.recordTrip
  extract_lets M
  generalize hN : (if n = 11 ∧ !bitOf (M.getN 0x404002) 10 then M.countSf11 else M) = N
  have hpins : N.pins = L.pins := by simp [← hN, M, Live.countSf11_frame]
  have hmode : N.mode = L.mode := by simp [← hN, M, Live.countSf11_frame]
  have hobj : N.obj = L.obj := by simp [← hN, M, Live.countSf11_frame]
  have hsaf : ∃ l b, N.saf = { L.saf with sf11 := l, sf11Reset := b } := by
    have hM : M.saf = L.saf := by simp [M]
    rw [← hN, ← hM]
    split
    · exact ⟨_, _, rfl⟩
    · exact ⟨M.saf.sf11, M.saf.sf11Reset, rfl⟩
  obtain ⟨l, b, hsaf⟩ := hsaf
  have hlatch := N.latchCause_saf n ch
  rw [hsaf] at hlatch
  exact {
    mode := by simp [Live.latchCause_frame, hmode]
    pins := by simp [Live.latchCause_frame, hpins]
    decA := by rw [hlatch]
    decB := by rw [hlatch]
    counts := by rw [Live.counts, Live.record, hlatch]; rfl
    latched := fun h => by rw [N.latchCause_latched h, Live.getN_congr _ _ _ hobj]
    active := by rw [N.latchCause_active, Live.getN_congr _ _ _ hobj]
    objects := fun k hk => (N.latchCause_get n ch hk).trans (Live.get_congr _ _ k hobj) }

/-- A trip without bay scope changes nothing, or is new, put on record and acted upon. -/
theorem Live.trip_cases (L : Live) (n ch code : Nat) (classF : Bool) :
    L.trip n ch code classF false = L ∨ (L.fromStandby = true ∧ L.decided n ch = false ∧
      L.trip n ch code classF false = (L.recordTrip n ch code).tripAct n ch classF false) := by
  cases hs : L.fromStandby with
  | false => exact .inl (Live.trip_before_standby n ch code classF false hs)
  | true =>
    cases hd : L.decided n ch with
    | true => exact .inl (Live.trip_of_decided code classF hd)
    | false => exact .inr ⟨rfl, rfl, Live.trip_of_new code classF false hs hd⟩

theorem Live.trip_counts (L : Live) (n ch code : Nat) (classF : Bool) : (L.trip n ch code classF false).counts = L.counts := by
  rcases L.trip_cases n ch code classF with h | ⟨-, -, h⟩
  · rw [h]
  · rw [h, (Live.tripAct_tripped _ n ch classF false).counts, (L.recordTrip_recorded n ch code).counts]

/-- An object that neither a trip's record nor the sequence writes stays. -/
theorem Live.trip_get (L : Live) (n ch code : Nat) (classF : Bool) {k : Nat} (hk : k ∉ causeObjects ++ sequenceObjects) :
    (L.trip n ch code classF false).get k = L.get k := by
  rw [List.mem_append, not_or] at hk
  rcases L.trip_cases n ch code classF with h | ⟨-, -, h⟩
  · rw [h]
  · rw [h, (Live.tripAct_tripped _ n ch classF false).objects k hk.2, (L.recordTrip_recorded n ch code).objects k hk.1]

/-- A cause that is latched stays latched. -/
theorem Live.trip_keeps_latched {L : Live} {n ch code b : Nat} {classF : Bool} (hch : ch ≠ 3) (h : bitOf (L.getN 0x404001) b = true) :
    bitOf ((L.trip n ch code classF false).getN 0x404001) b = true := by
  rcases L.trip_cases n ch code classF with e | ⟨-, -, e⟩
  · rw [e, h]
  · rw [e, (Live.tripAct_tripped _ n ch classF false).getN (by decide), (L.recordTrip_recorded n ch code).latched hch]
    exact bitOf_setBit_true _ h

/-- A trip of channel B decides nothing of channel A. -/
theorem Live.trip_decA_of_ne {L : Live} {n ch code : Nat} {classF : Bool} (hch : ch ≠ 1) :
    (L.trip n ch code classF false).saf.decA = L.saf.decA := by
  rcases L.trip_cases n ch code classF with e | ⟨-, -, e⟩
  · rw [e]
  · rw [e, (Live.tripAct_tripped _ n ch classF false).decA, (L.recordTrip_recorded n ch code).decA, if_neg hch]

/-- A trip decides its own function alone. -/
theorem Live.trip_decB_ne {L : Live} {n ch code b : Nat} {classF : Bool} (hb : b ≠ n - 1) :
    bitOf (L.trip n ch code classF false).saf.decB b = bitOf L.saf.decB b := by
  rcases L.trip_cases n ch code classF with e | ⟨-, -, e⟩
  · rw [e]
  · rw [e, (Live.tripAct_tripped _ n ch classF false).decB, (L.recordTrip_recorded n ch code).decB]
    split
    · exact bitOf_setBit_ne _ true hb
    · rfl

/-! ### The module state -/

theorem Live.fromStandby_of_staysOrTrips {L M : Live} (h : StaysOrTrips L.mode.st M.mode.st) (hs : L.fromStandby = true) :
    M.fromStandby = true := by
  rcases h with e | ⟨-, e⟩
  · rwa [Live.fromStandby, e]
  · simp [Live.fromStandby, e, MState.code]

theorem Live.trip_fromStandby {L : Live} (n ch code : Nat) (classF bay : Bool) (hs : L.fromStandby = true) :
    (L.trip n ch code classF bay).fromStandby = true :=
  Live.fromStandby_of_staysOrTrips (Live.trip_staysOrTrips n ch code classF bay (.refl _)) hs

theorem safe_of_staysOrTrips {b : MState} (h : StaysOrTrips .safe b) : b = .safe := by
  rcases h with h | ⟨-, h⟩ <;> exact h

/-- SAFE is left by no trip. -/
theorem Live.trip_safe {L : Live} (n ch code : Nat) (classF bay : Bool) (h : L.mode.st = .safe) :
    (L.trip n ch code classF bay).mode.st = .safe :=
  safe_of_staysOrTrips (h ▸ Live.trip_staysOrTrips n ch code classF bay (.refl _))

theorem Live.fromStandby_of_drives {L : Live} (h : L.driving = true ∨ L.mode.st = .standby) : L.fromStandby = true := by
  simp only [Live.driving, Bool.or_eq_true, beq_iff_eq] at h
  rcases h with ((h | h) | h) | h <;> simp [Live.fromStandby, h, MState.code]

theorem Live.drives_of_mode {L M : Live} (hm : M.mode = L.mode) (h : L.driving = true ∨ L.mode.st = .standby) :
    M.driving = true ∨ M.mode.st = .standby := by
  rwa [Live.driving, hm, ← Live.driving]

theorem Live.releaseTwin_safe {L : Live} (h : L.mode.st ≠ .service) : L.releaseTwin.mode.st = .safe := by
  have hst : ({ L.cutFast.openLoop with twin := { L.cutFast.openLoop.twin with holds := false, claims := false } }.insRelay).mode.st
      = L.mode.st := by
    simp [Live.cutFast_frame, Live.openLoop_frame, Live.insRelay_frame]
  unfold Live.releaseTwin
  extract_lets M _ N
  rw [if_neg (hst ▸ h)]
  exact Live.setState_st _ _ _

/-- What a trip does takes a module that drives or stands by to SAFE (03 R52 T13). -/
theorem Live.tripAct_safe {L : Live} (n ch : Nat) (classF bay : Bool) (h : L.driving = true ∨ L.mode.st = .standby) :
    (L.tripAct n ch classF bay).mode.st = .safe := by
  have hkind : (if classF then SeqKind.classF else .classS) ≠ .shutdown := by cases classF <;> simp
  unfold Live.tripAct
  extract_lets M N K _ J
  have hN : N.mode = L.mode := by simp [N, M, Live.openElement_frame]
  have hJ : J.mode = L.mode := by simp [J, K, hN, Live.commandPartner_frame, Live.setPath_frame]
  split
  · refine Live.releaseTwin_safe fun e => ?_
    rw [hN] at e
    simp [Live.driving, e] at h
  · exact J.enterSafe_st _ hkind (Live.drives_of_mode hJ h)

/-- A new trip of a channel takes a module that drives or stands by to SAFE and latches its function. -/
theorem Live.trip_takes {L : Live} {n ch : Nat} (code : Nat) (classF : Bool) (h : L.driving = true ∨ L.mode.st = .standby)
    (hnew : L.decided n ch = false) : (L.trip n ch code classF false).mode.st = .safe := by
  rw [Live.trip_of_new code classF false (Live.fromStandby_of_drives h) hnew]
  exact Live.tripAct_safe n ch classF false (Live.drives_of_mode (L.recordTrip_recorded n ch code).mode h)

theorem Live.trip_latches {L : Live} {n ch : Nat} (code : Nat) (classF : Bool) (hs : L.fromStandby = true) (hnew : L.decided n ch = false)
    (hch : ch ≠ 3) : bitOf ((L.trip n ch code classF false).getN 0x404001) (n - 1) = true ∧
      bitOf ((L.trip n ch code classF false).getN 0x404002) (n - 1) = true := by
  rw [Live.trip_of_new code classF false hs hnew]
  have hrec := L.recordTrip_recorded n ch code
  have hact := (L.recordTrip n ch code).tripAct_tripped n ch classF false
  rw [hact.getN (by decide), hact.getN (by decide), hrec.latched hch, hrec.active]
  simp

/-- An active cause stays active. -/
theorem Live.trip_keeps_active {L : Live} {n ch code b : Nat} {classF : Bool} (h : bitOf (L.getN 0x404002) b = true) :
    bitOf ((L.trip n ch code classF false).getN 0x404002) b = true := by
  rcases L.trip_cases n ch code classF with e | ⟨-, -, e⟩
  · rw [e, h]
  · rw [e, (Live.tripAct_tripped _ n ch classF false).getN (by decide), (L.recordTrip_recorded n ch code).active]
    exact bitOf_setBit_true _ h

/-! ### FAST_OFF and the command -/

theorem Live.setSeq_same_stepOf (L : Live) (f : Seq → Seq) (hf : ∀ q, (f q).step = q.step) : (L.setSeq f).stepOf = L.stepOf := by
  cases hq : L.mode.seq <;> simp [Live.stepOf, Live.setSeq, hq, hf]

theorem Live.setSeq_kindOf (L : Live) (f : Seq → Seq) (hf : ∀ q, (f q).kind = .classF) : (L.setSeq f).kindOf ≠ some .shutdown := by
  cases hq : L.mode.seq <;> simp [Live.kindOf, Live.setSeq, hq, hf]

/-- While channel B drives OFF, the entry to SAFE in class F leaves FAST_OFF OFF (10 R250). -/
theorem Live.enterSafe_classF_drive {L : Live} (h : L.drive = (.off, .off)) : (L.enterSafe .classF).drive = (.off, .off) := by
  unfold Live.enterSafe
  split
  · extract_lets step q C S _ _ _ M N
    have hM : M.drive = (.off, .off) := by
      have hpins : M.pins = L.pins := by simp [M, S, C, Live.setState_frame, Live.cancelPending_frame]
      rwa [Live.drive, hpins, ← Live.drive]
    have hMstep : M.stepOf = step := rfl
    have hMkind : M.kindOf ≠ some .shutdown := by simp [Live.kindOf, M, q]
    obtain ⟨hN, hNstep, hNkind⟩ : N.drive = (.off, .off) ∧ N.stepOf ≠ 1 ∧ N.kindOf ≠ some .shutdown := by
      unfold N
      split
      · exact ⟨Live.setPath_off hM _, by rw [M.toStep2_stepOf rfl]; decide, M.toStep2_kind.2 ▸ hMkind⟩
      · next hstep => exact ⟨hM, fun e => hstep ⟨rfl, hMstep ▸ e⟩, hMkind⟩
    rw [Live.seqOn_drive hNstep hNkind, hN]
  · split
    · next hstep =>
      have hs : L.mode.seq.isSome := L.seq_isSome_of_stepOf (by omega)
      rw [Live.seqOn_drive]
      · exact Live.setPath_off h _
      · have hstep2 := L.toStep2_stepOf hs
        rw [Live.setSeq_same_stepOf]
        · omega
        · exact fun _ => rfl
      · exact Live.setSeq_kindOf _ _ fun _ => rfl
    · exact h

theorem Live.Commanding.enterSafe {L : Live} (h : L.Commanding) (kind : SeqKind) : (L.enterSafe kind).Commanding := by
  unfold Live.enterSafe
  split
  · extract_lets step q C S _ _ _ M N
    have hM : M.Commanding := by
      have hsaf : S.saf = L.saf := by simp [S, C, Live.setState_frame, Live.cancelPending_frame]
      have hpins : S.pins = L.pins := by simp [S, C, Live.setState_frame, Live.cancelPending_frame]
      have hS : S.Commanding := h.of_same (by rw [hpins]) (by rw [Live.commands, hsaf, Live.commands])
      exact hS.of_same rfl rfl
    have hN : N.Commanding := by
      unfold N
      split
      · exact hM.toStep2
      · exact hM
    exact hN.seqOn
  · split
    · exact Live.Commanding.seqOn (L := L.toStep2.setSeq _) (h.toStep2.of_same rfl rfl)
    · exact h

/-- A command given is held, with TWIN_X low (10 R253). -/
theorem Live.commandPartner_commanding (L : Live) {c : TripCmd} (hc : c.d0 ≠ 12) : (L.commandPartner c).Commanding := by
  unfold Live.commandPartner
  extract_lets _ M
  suffices hM : ∃ x ∈ M.commands, x.d0 ≠ 12 from ⟨rfl, hM⟩
  unfold M
  split
  · exact ⟨c, by simp [Live.commands], hc⟩
  · next x hx =>
    split
    · next hheld =>
      rcases hheld with hd | hmore
      · exact ⟨x, by simp [Live.commands, hx], hd ▸ hc⟩
      · obtain ⟨y, hy, hd⟩ := List.any_eq_true.mp hmore
        exact ⟨y, by simp [Live.commands, hy], by rwa [beq_iff_eq.mp hd]⟩
    · exact ⟨c, by simp [Live.commands], hc⟩

theorem Live.commandPartner_drive (L : Live) (c : TripCmd) : (L.commandPartner c).drive = L.drive := by
  unfold Live.commandPartner
  extract_lets _ M
  have hM : M.pins = L.pins := by
    unfold M
    split
    · rfl
    · split <;> rfl
  exact (M.pullX_drive true).trans (by rw [Live.drive, hM, Live.drive])

/-- A trip of a channel, other than SF-12, holds its command to the partner afterwards. -/
theorem Live.tripAct_commanding (L : Live) {n ch : Nat} (classF bay : Bool) (hn : n ≠ 12) (hch : ch ≠ 3) :
    (L.tripAct n ch classF bay).Commanding := by
  unfold Live.tripAct
  extract_lets M N K _ J
  rw [if_neg fun e => hn e.1]
  have hK : K.Commanding := by
    unfold K
    rw [if_neg hch]
    exact N.commandPartner_commanding hn
  have hJ : J.Commanding := by
    unfold J
    split
    · exact hK
    · split <;> exact hK.of_same rfl rfl
  exact hJ.enterSafe _

/-- With OFF driven by channel B, a trip in class F other than SF-12 leaves it so. -/
theorem Live.tripAct_classF_drive {L : Live} {n : Nat} (ch : Nat) (hn : n ≠ 12) (h : L.drive = (.off, .off)) :
    (L.tripAct n ch true false).drive = (.off, .off) := by
  unfold Live.tripAct
  extract_lets M N K _ J
  rw [if_neg fun e => hn e.1]
  have hK : K.drive = (.off, .off) := by
    have hpins : N.pins = L.pins := by simp [N, M]
    have hN : N.drive = (.off, .off) := by rwa [Live.drive, hpins, ← Live.drive]
    unfold K
    split
    · exact hN
    · exact (N.commandPartner_drive _).trans hN
  have hJ : J.drive = (.off, .off) := by
    unfold J
    split
    · exact hK
    · exact Live.setPath_off (L := { K with saf := _ }) hK ch
  exact Live.enterSafe_classF_drive hJ

theorem Live.trip_classF_drive {L : Live} {n : Nat} (ch code : Nat) (hn : n ≠ 12) (h : L.drive = (.off, .off)) :
    (L.trip n ch code true false).drive = (.off, .off) := by
  rcases L.trip_cases n ch code true with e | ⟨-, -, e⟩
  · rw [e, h]
  · rw [e]
    refine Live.tripAct_classF_drive ch hn ?_
    rw [Live.drive, (L.recordTrip_recorded n ch code).pins, ← Live.drive, h]

end Sys2Proof.Machine
end

section
/-! The rows of the two channels (10 R248 to R261). -/

namespace Sys2Proof.Machine

open Sys2Proof

/-! ### A trip of channel A, and the same of channel B -/

/-- A new trip of channel A is on record in channel A. -/
theorem Live.trip_decA_of_new {L : Live} {n : Nat} (code : Nat) (classF : Bool) (hs : L.fromStandby = true) (hnew : L.decided n 1 = false) :
    (L.trip n 1 code classF false).saf.decA = setBit L.saf.decA (n - 1) true := by
  rw [Live.trip_of_new code classF false hs hnew, (Live.tripAct_tripped _ n 1 classF false).decA,
    (L.recordTrip_recorded n 1 code).decA, if_pos rfl]

/-- What a module that drives or stands by is in once channel A, and then channel B, has decided a new trip. -/
theorem Live.trip_both {L : Live} {n : Nat} (codeA codeB : Nat) (classF : Bool) (h : L.driving = true ∨ L.mode.st = .standby)
    (hnew : L.decided n 1 = false) :
    ((L.trip n 1 codeA classF false).trip n 2 codeB classF false).mode.st = .safe ∧
      bitOf (((L.trip n 1 codeA classF false).trip n 2 codeB classF false).getN 0x404001) (n - 1) = true ∧
      bitOf (((L.trip n 1 codeA classF false).trip n 2 codeB classF false).getN 0x404002) (n - 1) = true := by
  obtain ⟨hlatched, hactive⟩ := Live.trip_latches codeA classF (Live.fromStandby_of_drives h) hnew (by decide)
  exact ⟨Live.trip_safe n 2 codeB classF false (Live.trip_takes codeA classF h hnew), Live.trip_keeps_latched (by decide) hlatched,
    Live.trip_keeps_active hactive⟩

/-- Both channels' SF-12 at an instant waited for take a module that drives or stands by to SAFE. -/
theorem Live.sf12_both_reach {L : Live} (u : Nat) (h : L.driving = true ∨ L.mode.st = .standby) (hnew : L.decided 12 1 = false) :
    (((L.reach u).sf12 1).sf12 2).mode.st = .safe ∧ bitOf ((((L.reach u).sf12 1).sf12 2).getN 0x404001) 11 = true ∧
      (((L.reach u).sf12 1).sf12 2).time.clk = max L.time.clk u := by
  have hnew' : (L.reach u).decided 12 1 = false := hnew
  obtain ⟨hst, hlatched, -⟩ := Live.trip_both 1 2 true (Live.drives_of_mode (L.reach_frame u).1 h) hnew'
  exact ⟨hst, hlatched, by simp only [Live.sf12_frame, Live.reach_clk]⟩

/-! ### The fast comparator -/

/-- The comparator's latch is set, and FAST_OFF driven OFF directly (10 R259). -/
def Live.comparatorOff (L : Live) : Live := { L with saf := { L.saf with fastLatch := true } }.setFast .off

theorem exec_fastComparatorTrip (s : State) : exec .fastComparatorTrip s = runIn 5 s (fun L =>
    if L.fromStandby then (L.comparatorOff.trip 4 1 1 true false).trip 4 2 2 true false
    else { L with saf := { L.saf with fastLatch := true } }) := rfl

theorem fastComparatorTrip_trips {s : State} (hw : Works 5 s.live) (hs : s.live.fromStandby = true) :
    exec .fastComparatorTrip s =
      .next { s with live := (s.live.comparatorOff.trip 4 1 1 true false).trip 4 2 2 true false } :=
  exec_of_works hw (exec_fastComparatorTrip s) (if_pos hs)

theorem fastComparatorTrip_latches {s : State} (hw : Works 5 s.live) (hs : s.live.fromStandby = false) :
    exec .fastComparatorTrip s = .next { s with live := { s.live with saf := { s.live.saf with fastLatch := true } } } :=
  exec_of_works hw (exec_fastComparatorTrip s) (if_neg (by simp [hs]))

/-- A trip of the comparator commands the partner, whether channel B has decided it before or not. -/
theorem Live.comparatorTrip_commanding {L : Live} (hs : L.fromStandby = true) (hnew : L.decided 4 1 = false) :
    ((L.trip 4 1 1 true false).trip 4 2 2 true false).Commanding := by
  have hA : (L.trip 4 1 1 true false).Commanding := by
    rw [Live.trip_of_new 1 true false hs hnew]
    exact Live.tripAct_commanding _ true false (by decide) (by decide)
  rcases (L.trip 4 1 1 true false).trip_cases 4 2 2 true with e | ⟨-, -, e⟩
  · rwa [e]
  · rw [e]
    exact Live.tripAct_commanding _ true false (by decide) (by decide)

theorem exec_fastComparatorCheck (passed : Bool) (s : State) :
    exec (.fastComparatorCheck passed) s = runIn 5 s (fun L => if L.driving && !passed then L.sf12 1 else L) := rfl

/-! ### Diagnostics and the exchange of the channels -/

theorem exec_cyclicDiagnostic (okA okB : Bool) (s : State) : exec (.cyclicDiagnostic okA okB) s = runIn 5 s (fun L =>
    if okB then (if okA then L else L.sf12 1) else (if okA then L else L.sf12 1).sf12 2) := rfl

/-- A diagnostic that fails in a channel takes a module that drives or stands by to SAFE, with SF-12 latched. -/
theorem Live.diagnostic_takes {L : Live} {okA okB : Bool} (h : L.driving = true ∨ L.mode.st = .standby) (hA : L.decided 12 1 = false)
    (hB : L.decided 12 2 = false) (hfail : okA = false ∨ okB = false) {M : Live}
    (hM : M = if okB then (if okA then L else L.sf12 1) else (if okA then L else L.sf12 1).sf12 2) :
    M.mode.st = .safe ∧ bitOf (M.getN 0x404001) 11 = true ∧ M.time = L.time := by
  have hs := Live.fromStandby_of_drives h
  have htime : M.time = L.time := by
    rw [hM]
    cases okA <;> cases okB <;> simp [Live.sf12_frame]
  cases okA with
  | true =>
    have hokB : okB = false := by simpa using hfail
    subst hokB
    simp only [Bool.false_eq_true, if_false, if_true] at hM
    subst hM
    exact ⟨Live.trip_takes 2 true h hB, (Live.trip_latches 2 true hs hB (by decide)).1, htime⟩
  | false =>
    cases okB with
    | true =>
      simp only [Bool.false_eq_true, if_false, if_true] at hM
      subst hM
      exact ⟨Live.trip_takes 1 true h hA, (Live.trip_latches 1 true hs hA (by decide)).1, htime⟩
    | false =>
      simp only [Bool.false_eq_true, if_false] at hM
      subst hM
      obtain ⟨hst, hlatched, -⟩ := Live.trip_both 1 2 true h hA
      exact ⟨hst, hlatched, htime⟩

theorem exec_crossChannelMismatch (s : State) : exec .crossChannelMismatch s = runIn 5 s (fun L => match L.saf.mismatch with
    | some t => ((L.reach (t + ms 10)).sf12 1).sf12 2
    | none => L) := rfl

theorem crossChannelMismatch_trips {s : State} {t : Nat} (hw : Works 5 s.live) (h : s.live.saf.mismatch = some t) :
    exec .crossChannelMismatch s = .next { s with live := ((s.live.reach (t + ms 10)).sf12 1).sf12 2 } :=
  exec_of_works hw (exec_crossChannelMismatch s) (by simp only [h])

/-- A difference of the channels begins, lasts or ends (10 R248). -/
def Live.noteDifference (L : Live) (differ : Bool) : Live :=
  { L with saf := { L.saf with mismatch := if differ then some (L.saf.mismatch.getD L.time.clk) else none } }

theorem exec_crossChannelExchange (valueDiff : Bool) (s : State) : exec (.crossChannelExchange valueDiff) s = runIn 5 s (fun L =>
    let M := (List.range 8).foldl Live.exchangePair L
    (M.noteDifference (valueDiff || M.saf.decA != M.saf.decB)).relWatch.closeIfDue.settleX) := rfl

/-- A fold that changes nothing at any member of the list changes nothing. -/
theorem foldl_of_fixed {α β : Type} {g : β → α → β} {l : List α} {b : β} (h : ∀ a ∈ l, g b a = b) : l.foldl g b = b := by
  induction l with
  | nil => rfl
  | cons a l ih =>
    rw [List.foldl_cons, h a List.mem_cons_self]
    exact ih fun x hx => h x (List.mem_cons_of_mem a hx)

/-- Pairs that are not in use are not exchanged (10 R266). -/
theorem Live.exchangePairs_unused {L : Live} (h : ∀ i : Fin 8, L.getN (pairKey i 1) = 0) :
    (List.range 8).foldl Live.exchangePair L = L :=
  foldl_of_fixed fun i hi => by rw [Live.exchangePair, if_pos (h ⟨i, List.mem_range.mp hi⟩)]

theorem Live.settleX_eq (L : Live) :
    ∃ low since, L.settleX = { L with pins := { L.pins with twinXLow := low, xLowAt := since } } := by
  unfold Live.settleX
  extract_lets old
  split
  · exact ⟨_, _, rfl⟩
  · exact ⟨L.pins.twinXLow, L.pins.xLowAt, rfl⟩

theorem Live.closeIfDue_eq (L : Live) :
    ∃ o a b since, L.closeIfDue = { L with
      pins := { L.pins with elementOpen := o, elemA := a, elemB := b }, saf := { L.saf with elementAt := since } } := by
  unfold Live.closeIfDue
  extract_lets old
  split
  · exact ⟨_, _, _, _, rfl⟩
  · exact ⟨L.pins.elementOpen, L.pins.elemA, L.pins.elemB, L.saf.elementAt, rfl⟩

/-! ### Channel B's sample -/

/-- Blocks that agree on the counts agree on the integrals and sums of I²t. -/
theorem Live.i2t_of_counts {L M : Live} (h : M.counts = L.counts) :
    M.saf.sumA = L.saf.sumA ∧ M.saf.sumB = L.saf.sumB ∧ M.saf.eA = L.saf.eA ∧ M.saf.eB = L.saf.eB :=
  ⟨(congrArg Safety.sumA h :), (congrArg Safety.sumB h :), (congrArg Safety.eA h :), (congrArg Safety.eB h :)⟩

/-- The heartbeat word's epoch and the words missing in a row. -/
def Live.countBeat (L : Live) (beat : Option Nat) (missing : Nat) : Live :=
  { L with saf := { L.saf with beatMissing := missing, beat := beat } }

/-- The heartbeat word is counted, and two missing in a row are SF-12 of channel B (10 R261). -/
theorem Live.heartbeatWord_cases (L : Live) (beat : Option Nat) :
    ∃ b n, L.heartbeatWord beat = L.countBeat b n ∨ L.heartbeatWord beat = (L.countBeat b n).sf12 2 := by
  unfold Live.heartbeatWord
  extract_lets good missing _ M
  refine ⟨M.saf.beat, missing, ?_⟩
  split
  · exact .inr rfl
  · exact .inl rfl

/-- Channel B's overcurrent (10 R255 SF-04). -/
def Live.overB (L : Live) (fluxgate : Rat) : Live :=
  if decide (q (L.get 0x401103) / 10000 * L.iMax ≤ absQ fluxgate) then L.trip 4 2 2 true false else L

/-- The fluxgate word enters channel B's sum (10 R260). -/
def Live.addFluxgate (L : Live) (fluxgate : Rat) : Live :=
  { L with saf := { L.saf with sumB := (L.saf.sumB.1 + fluxgate * fluxgate, L.saf.sumB.2 + 1) } }

/-- What channel B finds in its own sample leaves its sum, the time and the nodes, leaves SF-11 undecided, and keeps STANDBY reached. -/
structure Sampled (L M : Live) : Prop where
  sumB : M.saf.sumB = L.saf.sumB
  sf11 : M.decided 11 2 = L.decided 11 2
  standby : L.fromStandby = true → M.fromStandby = true
  time : M.time = L.time
  node : M.node = L.node

theorem Sampled.refl (L : Live) : Sampled L L := ⟨rfl, rfl, id, rfl, rfl⟩

theorem Sampled.trans {L M N : Live} (h : Sampled L M) (h' : Sampled M N) : Sampled L N :=
  ⟨h'.sumB.trans h.sumB, h'.sf11.trans h.sf11, fun hs => h'.standby (h.standby hs), h'.time.trans h.time, h'.node.trans h.node⟩

theorem Live.trip_sampled (L : Live) {n : Nat} (code : Nat) (hn : n - 1 ≠ 10) : Sampled L (L.trip n 2 code true false) where
  sumB := (Live.i2t_of_counts (L.trip_counts n 2 code true)).2.1
  sf11 := Live.trip_decB_ne hn.symm
  standby := Live.trip_fromStandby n 2 code true false
  time := by simp [Live.trip_frame]
  node := by simp [Live.trip_frame]

theorem Live.overB_sampled (L : Live) (fluxgate : Rat) : Sampled L (L.overB fluxgate) := by
  unfold Live.overB
  split
  · exact L.trip_sampled 2 (by decide)
  · exact .refl L

theorem Live.heartbeatWord_sampled (L : Live) (beat : Option Nat) : Sampled L (L.heartbeatWord beat) := by
  obtain ⟨b, n, h | h⟩ := L.heartbeatWord_cases beat
  · rw [h]
    exact ⟨rfl, rfl, id, rfl, rfl⟩
  · rw [h]
    exact .trans (M := L.countBeat b n) ⟨rfl, rfl, id, rfl, rfl⟩ ((L.countBeat b n).trip_sampled 2 (by decide))

/-- The sample of channel B up to the plumb check. -/
def Live.sampleB (L : Live) (fluxgate : Rat) (beat : Option Nat) : Live := ((L.addFluxgate fluxgate).overB fluxgate).heartbeatWord beat

theorem exec_channelBSample (fluxgate : Rat) (beat : Option Nat) (fault : Bool) (s : State) :
    exec (.channelBSample fluxgate beat fault) s = runIn 5 s (fun L =>
      if !L.fromStandby then L
      else if fault then (L.sampleB fluxgate beat).trip 11 2 2 true false else L.sampleB fluxgate beat) := rfl

theorem channelBSample_sums {s : State} (fluxgate : Rat) (beat : Option Nat) (fault : Bool) (hw : Works 5 s.live)
    (hs : s.live.fromStandby = true) :
    exec (.channelBSample fluxgate beat fault) s = .next { s with
      live := if fault then (s.live.sampleB fluxgate beat).trip 11 2 2 true false else s.live.sampleB fluxgate beat } :=
  exec_of_works hw (exec_channelBSample fluxgate beat fault s) (if_neg (by simp [hs]))

theorem Live.sampleB_sampled (L : Live) (fluxgate : Rat) (beat : Option Nat) : Sampled (L.addFluxgate fluxgate) (L.sampleB fluxgate beat) :=
  (Live.overB_sampled _ fluxgate).trans (Live.heartbeatWord_sampled _ beat)

/-! ### The I²t blocks -/

/-- An integral after a block, never below 0 (10 R260). -/
def Live.nextI2t (L : Live) (e : Rat) (x : Rat × Nat) : Rat :=
  let ic := q (L.ctl 0x401104) / 10000 * L.iMax
  maxQ 0 (e + (blockMean x - ic * ic) / 10)

theorem Live.nextI2t_nonneg (L : Live) (e : Rat) (x : Rat × Nat) : 0 ≤ L.nextI2t e x := by
  rw [Live.nextI2t, maxQ_eq_max]
  exact le_max_left _ _

/-- Both integrals after a block, and the sums of the next one begun. -/
def Live.endBlock (L : Live) : Live :=
  { L with saf := { L.saf with
    eA := L.nextI2t L.saf.eA L.saf.sumA, eB := L.nextI2t L.saf.eB L.saf.sumB, sumA := (0, 0), sumB := (0, 0) } }

/-- SF-05 of a channel whose integral e has reached the limit (10 R260). -/
def Live.judgeI2t (L : Live) (e : Rat) (ch : Nat) : Live := if L.i2tLimit ≤ e then L.trip 5 ch ch false false else L

theorem Live.judgeI2t_counts (L : Live) (e : Rat) (ch : Nat) : (L.judgeI2t e ch).counts = L.counts := by
  unfold Live.judgeI2t
  split
  · exact L.trip_counts 5 ch ch false
  · rfl

theorem Live.judgeI2t_latches {L : Live} {e : Rat} {ch : Nat} (hs : L.fromStandby = true) (hnew : L.decided 5 ch = false) (hch : ch ≠ 3)
    (h : L.i2tLimit ≤ e) : bitOf ((L.judgeI2t e ch).getN 0x404001) 4 = true := by
  rw [Live.judgeI2t, if_pos h]
  exact (Live.trip_latches ch false hs hnew hch).1

theorem Live.judgeI2t_keeps_latched {L : Live} {b : Nat} (e : Rat) {ch : Nat} (hch : ch ≠ 3) (h : bitOf (L.getN 0x404001) b = true) :
    bitOf ((L.judgeI2t e ch).getN 0x404001) b = true := by
  unfold Live.judgeI2t
  split
  · exact Live.trip_keeps_latched hch h
  · exact h

/-- The end of a block: both integrals, each judged against the limit (10 R260). -/
def Live.blockEnd (L : Live) : Live :=
  (L.endBlock.judgeI2t (L.nextI2t L.saf.eA L.saf.sumA) 1).judgeI2t (L.nextI2t L.saf.eB L.saf.sumB) 2

theorem Live.blockEnd_i2t (L : Live) :
    L.blockEnd.saf.sumA = (0, 0) ∧ L.blockEnd.saf.sumB = (0, 0) ∧ L.blockEnd.saf.eA = L.nextI2t L.saf.eA L.saf.sumA ∧
      L.blockEnd.saf.eB = L.nextI2t L.saf.eB L.saf.sumB :=
  Live.i2t_of_counts (L := L.endBlock) ((Live.judgeI2t_counts _ _ 2).trans (L.endBlock.judgeI2t_counts _ 1))

theorem exec_i2tBlock (s : State) : exec .i2tBlock s = runIn 5 s Live.blockEnd := rfl

/-- Settles O20: the rows one by one, each by what its trips leave. -/
theorem channelsDecideTrips : Obligations.ChannelsDecideTrips := by
  refine ⟨?_, ?_, ?_, ?_, ?_, ?_, ?_, ?_, ?_, ?_, ?_, ?_⟩
  · intro s hw hs
    refine ⟨_, fastComparatorTrip_trips hw hs, ?_, ?_, ?_⟩
    · simp [Live.trip_keeps, Live.comparatorOff, Live.setFast_frame]
    · exact congrArg Prod.fst (Live.trip_classF_drive 2 2 (by decide) (Live.trip_classF_drive 1 1 (by decide) rfl))
    · simp [Live.trip_frame, Live.comparatorOff, Live.setFast_frame]
  · exact fun s hw hs => ⟨_, fastComparatorTrip_latches hw hs, rfl, rfl⟩
  · intro s hw h hnew
    have hs : s.live.comparatorOff.fromStandby = true := Live.fromStandby_of_drives h
    have hnew : s.live.comparatorOff.decided 4 1 = false := hnew
    obtain ⟨hst, hlatched, hactive⟩ := Live.trip_both 1 2 true (Live.drives_of_mode (M := s.live.comparatorOff) rfl h) hnew
    refine ⟨_, fastComparatorTrip_trips hw hs, hst, hlatched, hactive, ?_, ?_⟩
    · exact (Live.trip_decA_of_ne (by decide)).trans (Live.trip_decA_of_new 1 true hs hnew)
    · exact (Live.comparatorTrip_commanding hs hnew).1
  · exact fun s okA okB hw h hA hB hfail =>
      answers_of_runIn hw (exec_cyclicDiagnostic okA okB s) (Live.diagnostic_takes h hA hB hfail rfl)
  · exact fun s hw => answers_of_runIn hw (exec_cyclicDiagnostic true true s) rfl
  · intro s passed hw hdrive hnew hpassed
    refine answers_of_runIn hw (exec_fastComparatorCheck passed s) ?_
    rw [if_pos (by simp [hdrive, hpassed])]
    exact ⟨Live.trip_takes 1 true (.inl hdrive) hnew,
      (Live.trip_latches 1 true (Live.fromStandby_of_drives (.inl hdrive)) hnew (by decide)).1⟩
  · intro s passed h
    exact runIn_of_fixed (if_neg (by rcases h with h | h <;> simp [h]))
  · intro s t hw hdiffer h hnew
    exact ⟨_, crossChannelMismatch_trips hw hdiffer, Live.sf12_both_reach _ h hnew⟩
  · intro s valueDiff hw hunused
    refine answers_of_runIn hw (exec_crossChannelExchange valueDiff s) ?_
    dsimp only
    rw [Live.exchangePairs_unused hunused]
    generalize hdiffer : (valueDiff || s.live.saf.decA != s.live.saf.decB) = differ
    obtain ⟨o, a, b, since, hclose⟩ := (s.live.noteDifference differ).relWatch.closeIfDue_eq
    obtain ⟨low, xSince, hsettle⟩ := (s.live.noteDifference differ).relWatch.closeIfDue.settleX_eq
    rw [hsettle, hclose]
    refine ⟨?_, rfl, rfl⟩
    change (if differ = true then _ else _) = _
    simp [← hdiffer]
  · intro s fluxgate beat fault hw hs
    have hB := s.live.sampleB_sampled fluxgate beat
    have hsB := hB.standby hs
    refine ⟨_, channelBSample_sums fluxgate beat fault hw hs, ?_⟩
    cases fault with
    | false => exact ⟨hB.sumB, fun h => absurd h.1 Bool.false_ne_true, hB.time, hB.node⟩
    | true =>
      obtain ⟨-, hsumB, -⟩ := Live.i2t_of_counts ((s.live.sampleB fluxgate beat).trip_counts 11 2 2 true)
      refine ⟨hsumB.trans hB.sumB, fun h => ?_, ?_, ?_⟩
      · exact (Live.trip_latches 2 true hsB (hB.sf11.trans h.2) (by decide)).1
      · simpa [Live.trip_frame, Live.addFluxgate] using hB.time
      · simpa [Live.trip_frame, Live.addFluxgate] using hB.node
  · intro s fluxgate beat fault hs
    rw [exec_channelBSample]
    exact runIn_of_fixed (if_pos (by simp [hs]))
  · intro s hw
    obtain ⟨hsumA, hsumB, heA, heB⟩ := s.live.blockEnd_i2t
    refine answers_of_runIn hw (exec_i2tBlock s) ⟨hsumA, hsumB, ?_, ?_, heA, ?_⟩
    · exact heA ▸ s.live.nextI2t_nonneg _ _
    · exact heB ▸ s.live.nextI2t_nonneg _ _
    · rintro ⟨hs, hnew, hlimit⟩
      exact Live.judgeI2t_keeps_latched _ (by decide)
        (Live.judgeI2t_latches (L := s.live.endBlock) hs hnew (by decide) (hlimit.trans_eq heA))

end Sys2Proof.Machine
end

section
/-! The steps of the safe-state sequence (10 R249 to R252) and the lintel test (10 R263). -/

namespace Sys2Proof.Machine

open Sys2Proof

/-! ### The deadlines of the sequence -/

theorem Live.kindOf_of_seq {L : Live} {q : Seq} (h : L.mode.seq = some q) : L.kindOf = some q.kind := by simp [Live.kindOf, h]

theorem Live.kindOf_ne_shutdown {L : Live} (h : ∀ q ∈ L.mode.seq.toList, q.kind ≠ .shutdown) : L.kindOf ≠ some .shutdown := by
  cases hq : L.mode.seq with
  | none => simp [Live.kindOf, hq]
  | some q => simpa [Live.kindOf, hq] using h q (by simp [hq])

/-- The active twin's channel A alone drives OFF in step 2 (10 R250). -/
theorem Live.toStep2_fastOff {L : Live} (h : L.twin.holds = true) :
    L.toStep2.pins.fastOff = joinFast (if L.pins.cutA then .absent else .off) L.pins.pathB := by
  simp [Live.toStep2, Live.setSeq, Live.setPath, Live.setFast, h]

/-- OFF driven by channel B stands through the entry to step 2. -/
theorem Live.toStep2_off {L : Live} (h : L.drive = (.off, .off)) : L.toStep2.drive = (.off, .off) := Live.setPath_off h _

/-- A sequence that is no shut-down, from step 1 on: FAST_OFF as the active twin's channel A drives it, the state and the time kept. -/
theorem Live.stepOn_from1 {L : Live} {q : Seq} (hseq : L.mode.seq = some q) (hkind : q.kind ≠ .shutdown) (hholds : L.twin.holds = true) :
    2 ≤ L.toStep2.seqOn.stepOf ∧
      L.toStep2.seqOn.pins.fastOff = joinFast (if L.pins.cutA then .absent else .off) L.pins.pathB ∧
      L.toStep2.seqOn.mode.st = L.mode.st ∧ L.toStep2.seqOn.time = L.time := by
  obtain ⟨hst, hk⟩ := L.toStep2_kind
  have hk : L.toStep2.kindOf ≠ some .shutdown := by rw [hk, Live.kindOf_of_seq hseq]; simpa using hkind
  have hstep : L.toStep2.stepOf = 2 := L.toStep2_stepOf (by simp [hseq])
  refine ⟨?_, ?_, (Live.seqOn_kind _ hk).1.trans hst, by simp [Live.seqOn_frame, Live.toStep2_frame]⟩
  · exact (Live.seqOn_reaches hstep.ge).resolve_right fun h => hk h.1
  · exact (congrArg Prod.fst (Live.seqOn_drive (by omega) hk)).trans (Live.toStep2_fastOff hholds)

theorem exec_seqStep1End (s : State) : exec .seqStep1End s = runIn 5 s (fun L =>
    match L.mode.seq with
    | some sq =>
      if sq.step ≠ 1 ∨ (!L.twin.holds ∧ sq.kind ≠ .shutdown) then L
      else if L.iZero then L.toStep2.seqOn
      else if sq.kind = .shutdown then
        match L.conv.zeroAt with
        | some t => (L.reach (t + ms 100)).toStep2.seqOn
        | none => L
      else (L.reach (sq.since + ms 1)).toStep2.seqOn
    | none => L) := rfl

theorem seqStep1End_steps {s : State} {q : Seq} (hw : Works 5 s.live) (hseq : s.live.mode.seq = some q) (hstep : q.step = 1)
    (hkind : q.kind ≠ .shutdown) (hholds : s.live.twin.holds = true) :
    exec .seqStep1End s = .next { s with
      live := (if s.live.iZero then s.live else s.live.reach (q.since + ms 1)).toStep2.seqOn } := by
  refine exec_of_works hw (exec_seqStep1End s) ?_
  simp only [hseq]
  rw [if_neg (by simp [hstep, hholds]), if_neg hkind]
  split <;> rfl

/-! ### The hold-off -/

/-- The hold-off ends: the decision is a hazard from here, and the channel that held off drives OFF (10 R250). -/
def Live.offAfterHoldoff (L : Live) : Live :=
  { L with saf := { L.saf with holdoff := none, hazard := true } }.setPath (if L.twin.holds then 2 else 3) .off

theorem Live.holdoffEnds_eq (L : Live) :
    L.holdoffEnds = if L.offAfterHoldoff.stepOf = 1 then L.offAfterHoldoff.toStep2.seqOn else L.offAfterHoldoff := rfl

theorem Live.offAfterHoldoff_drive (L : Live) : L.offAfterHoldoff.drive = (.off, .off) :=
  Live.setPath_off_of_ne (by split <;> decide)

theorem Live.offAfterHoldoff_mode (L : Live) : L.offAfterHoldoff.mode = L.mode := by simp [Live.offAfterHoldoff, Live.setPath_frame]

theorem Live.holdoff_of_sequenced {L M : Live} (h : Sequenced L M) : M.saf.holdoff = L.saf.holdoff ∧ M.saf.hazard = L.saf.hazard :=
  ⟨(congrArg Safety.holdoff h.record :), (congrArg Safety.hazard h.record :)⟩

/-- A hold-off that ends without a shut-down leaves OFF, the hazard known, and the state and the time as they are. -/
theorem Live.holdoffEnds_off {L : Live} (h : L.kindOf ≠ some .shutdown) :
    L.holdoffEnds.saf.holdoff = none ∧ L.holdoffEnds.saf.hazard = true ∧ L.holdoffEnds.pins.fastOff = .off ∧
      L.holdoffEnds.time = L.time ∧ L.holdoffEnds.mode.st = L.mode.st := by
  have hmode := L.offAfterHoldoff_mode
  have hdrive := L.offAfterHoldoff_drive
  have hsaf : L.offAfterHoldoff.saf = { L.saf with holdoff := none, hazard := true } := by
    simp [Live.offAfterHoldoff, Live.setPath_frame]
  have htime : L.offAfterHoldoff.time = L.time := by simp [Live.offAfterHoldoff, Live.setPath_frame]
  have hk : L.offAfterHoldoff.kindOf ≠ some .shutdown := by rwa [Live.kindOf, hmode, ← Live.kindOf]
  rw [Live.holdoffEnds_eq]
  generalize L.offAfterHoldoff = M at hmode hdrive hsaf htime hk ⊢
  split
  · next hstep =>
    obtain ⟨hst2, hk2⟩ := M.toStep2_kind
    have hk2 : M.toStep2.kindOf ≠ some .shutdown := hk2 ▸ hk
    have hstep2 : M.toStep2.stepOf = 2 := M.toStep2_stepOf (M.seq_isSome_of_stepOf (by omega))
    obtain ⟨hholdoff, hhazard⟩ := Live.holdoff_of_sequenced (M.toStep2_sequenced.trans M.toStep2.seqOn_sequenced)
    refine ⟨by rw [hholdoff, hsaf], by rw [hhazard, hsaf], ?_, ?_, ?_⟩
    · exact congrArg Prod.fst ((Live.seqOn_drive (by omega) hk2).trans (Live.toStep2_off hdrive))
    · simpa [Live.seqOn_frame, Live.toStep2_frame] using htime
    · rw [(Live.seqOn_kind _ hk2).1, hst2, hmode]
  · exact ⟨by rw [hsaf], by rw [hsaf], congrArg Prod.fst hdrive, htime, by rw [hmode]⟩

theorem exec_classSHoldoffExpiry (s : State) : exec .classSHoldoffExpiry s = runIn 5 s (fun L =>
    match L.saf.holdoff with
    | some t => (L.reach t).holdoffEnds
    | none => L) := rfl

theorem classSHoldoffExpiry_ends {s : State} {t : Nat} (hw : Works 5 s.live) (h : s.live.saf.holdoff = some t) :
    exec .classSHoldoffExpiry s = .next { s with live := (s.live.reach t).holdoffEnds } :=
  exec_of_works hw (exec_classSHoldoffExpiry s) (by simp only [h])

/-! ### The lintel opens -/

/-- Step 3 and what follows at once: the contacts are open, and step 3 is reached, by a shut-down STANDBY; the time stands. -/
theorem Live.stepOn_from2 {L : Live} (h : L.mode.seq.isSome) :
    L.toStep3.seqOn.pins.contactA = false ∧ L.toStep3.seqOn.pins.contactB = false ∧
      (3 ≤ L.toStep3.seqOn.stepOf ∨ L.toStep3.seqOn.mode.st = .standby) ∧ L.toStep3.seqOn.time = L.time := by
  obtain ⟨hA, hB⟩ := Live.seqOn_open (L := L.toStep3) L.openLoop_open
  exact ⟨hA, hB, (Live.seqOn_reaches (L.toStep3_stepOf h).ge).imp_right (·.2), by simp [Live.seqOn_frame, Live.toStep3_frame]⟩

theorem exec_lintelOpenTimeout (s : State) : exec .lintelOpenTimeout s = runIn 5 s (fun L =>
    match L.mode.seq with
    | some sq =>
      (match sq.step, L.pins.offSince with
       | 1, some t => (L.reach (t + ms 2)).toStep3.seqOn
       | 2, some t => (L.reach (min t (sq.offAt.getD t) + ms 2)).toStep3.seqOn
       | _, _ => L)
    | none => L) := rfl

theorem lintelOpenTimeout_opens {s : State} {q : Seq} {t : Nat} (hw : Works 5 s.live) (hseq : s.live.mode.seq = some q)
    (hstep : q.step = 1 ∨ q.step = 2) (hoff : s.live.pins.offSince = some t) :
    exec .lintelOpenTimeout s = .next { s with
      live := (s.live.reach ((if q.step = 2 then min t (q.offAt.getD t) else t) + ms 2)).toStep3.seqOn } := by
  refine exec_of_works hw (exec_lintelOpenTimeout s) ?_
  rcases hstep with hstep | hstep
  · simp only [hseq, hoff, hstep, OfNat.one_ne_ofNat, if_false]
  · simp only [hseq, hoff, hstep, if_true]

theorem lintelOpenTimeout_elsewhere {s : State} (h : s.live.pins.offSince = none ∨ (s.live.stepOf ≠ 1 ∧ s.live.stepOf ≠ 2)) :
    exec .lintelOpenTimeout s = .next s := by
  rw [exec_lintelOpenTimeout]
  refine runIn_of_fixed ?_
  split
  · next q hq =>
    rw [Live.stepOf_of_seq hq] at h
    split
    · next h1 ht => simp [h1, ht] at h
    · next h2 ht => simp [h2, ht] at h
    · rfl
  · rfl

/-! ### Step 3 blocked -/

theorem Live.sendEmcy_lastEvent (L : Live) (eec err code cls seq : Nat) :
    (L.sendEmcy eec err code cls seq).rcd.lastEvent = L.rcd.lastEvent := by
  unfold Live.sendEmcy
  dsimp only
  split <;> rfl

theorem Live.setConds_lastEvent (L : Live) (cs : List Cond) : (L.setConds cs).rcd.lastEvent = L.rcd.lastEvent := by
  unfold Live.setConds
  dsimp only
  split
  · exact Live.sendEmcy_lastEvent _ _ _ _ _ _
  · rfl

/-- An event raised counts one and is the newest; it changes the recorder, the transmit rings, the debug port and the capture unit at most. -/
theorem Live.raise_eq (L : Live) (src code cls : Nat) (key rest : Bytes) :
    ∃ rcd com dbg cap, L.raise src code cls key rest = { L with rcd := rcd, com := com, dbg := dbg, cap := cap } ∧
      rcd.raised = L.rcd.raised + 1 ∧ rcd.lastEvent.1 = src ∧ rcd.lastEvent.2.1 = code := by
  have hframe := L.raise_frame src code cls key rest
  have hraised : (L.raise src code cls key rest).rcd.raised = L.rcd.raised + 1 := by
    change (Live.setConds _ _).rcd.raised = _
    rw [Live.setConds_raised]
    exact congrArg (· + 1) (intakeEvent_raised _ _ _ _ _ _ _ _)
  have hnewest : (L.raise src code cls key rest).rcd.lastEvent.1 = src ∧ (L.raise src code cls key rest).rcd.lastEvent.2.1 = code := by
    change (Live.setConds _ _).rcd.lastEvent.1 = _ ∧ (Live.setConds _ _).rcd.lastEvent.2.1 = _
    rw [Live.setConds_lastEvent]
    exact ⟨rfl, rfl⟩
  generalize L.raise src code cls key rest = M at hframe hraised hnewest
  refine ⟨M.rcd, M.com, M.dbg, M.cap, ?_, hraised, hnewest⟩
  cases M
  simp_all

/-- The sequence is marked blocked, with its event (10 R252). -/
def Live.markBlocked (L : Live) : Live :=
  (L.setSeq (fun q => { q with blocked := true })).raise 108 5 2 [] (L.setSeq (fun q => { q with blocked := true })).tripPayload

theorem exec_step4BlockedTimeout (s : State) : exec .step4BlockedTimeout s = runIn 5 s (fun L =>
    match L.mode.seq with
    | some sq =>
      (match sq.step3At with
       | some t => if sq.step = 3 ∧ !sq.blocked ∧ L.shownOpen < 2 then (L.reach (t + sec 2)).markBlocked else L
       | none => L)
    | none => L) := rfl

theorem step4BlockedTimeout_marks {s : State} {q : Seq} {t : Nat} (hw : Works 5 s.live) (hseq : s.live.mode.seq = some q)
    (hstep : q.step = 3) (hblocked : q.blocked = false) (hat : q.step3At = some t) (hopen : s.live.shownOpen < 2) :
    exec .step4BlockedTimeout s = .next { s with live := (s.live.reach (t + sec 2)).markBlocked } := by
  refine exec_of_works hw (exec_step4BlockedTimeout s) ?_
  simp only [hseq, hat]
  exact if_pos ⟨hstep, by simp [hblocked], hopen⟩

/-! ### The lintel test -/

/-- At a phase of a period the module time has that remainder (10 R263). -/
theorem Live.toPhase_mtime (L : Live) {period at_ : Nat} (h : at_ < period) : (L.toPhase period at_).time.mtime % period = at_ := by
  have hlt : L.time.mtime % period < period := Nat.mod_lt _ (by omega)
  have hdiv : period * (L.time.mtime / period) + L.time.mtime % period = L.time.mtime := Nat.div_add_mod _ _
  rw [Live.toPhase, Live.pass_mtime, Nat.add_mod_mod]
  have hsum : L.time.mtime + (at_ + period - L.time.mtime % period) = at_ + period * (L.time.mtime / period + 1) := by
    rw [Nat.mul_add]
    omega
  rw [hsum, Nat.add_mul_mod_self_left, Nat.mod_eq_of_lt h]

/-- The lintel test's instant in each 10 s of module time, by twin and channel (10 R263). -/
def Live.testPhase (L : Live) (channelB : Bool) : Nat := ms ((if L.nodeId < 65 then 0 else 2500) + (if channelB then 5000 else 0))

theorem Live.testPhase_lt (L : Live) (channelB : Bool) : L.testPhase channelB < sec 10 := by
  unfold Live.testPhase ms sec
  split <;> split <;> decide

/-- At its instant nothing but the time has changed, and it has only gone on. -/
theorem Live.toTestPhase_eq (L : Live) (channelB : Bool) :
    ∃ time, L.toPhase (sec 10) (L.testPhase channelB) = { L with time := time } ∧ time.mtime % sec 10 = L.testPhase channelB ∧
      L.time.clk ≤ time.clk :=
  ⟨_, rfl, L.toPhase_mtime (L.testPhase_lt channelB), Nat.le_add_right _ _⟩

/-- One contact of the own loop as set. -/
def Live.setContact (L : Live) (channelB closed : Bool) : Live :=
  { L with pins := if channelB then { L.pins with contactB := closed } else { L.pins with contactA := closed } }

/-- The test begins: one contact opens. -/
def Live.startTest (L : Live) (channelB : Bool) : Live :=
  { L.setContact channelB false with saf := { L.saf with test := some (channelB, L.time.clk) } }.updExpect

/-- The test is skipped. -/
def Live.skipTest (L : Live) : Live := L.put 0x404005 (setBit (L.getN 0x404005) 2 true : Nat)

/-- At the instant of the test it begins or is skipped; written as the row of the model has it, which is this by unfolding
alone (10 R263). -/
def Live.tryTest (L : Live) (channelB : Bool) : Live :=
  if L.inStep ∧ 100 ≤ L.twin.p.loopi then
    let L := { L with
      pins := (if channelB then { L.pins with contactB := false } else { L.pins with contactA := false })
      saf := { L.saf with test := some (channelB, L.time.clk) } }
    L.updExpect
  else L.put 0x404005 (setBit (L.getN 0x404005) 2 true : Nat)

theorem Live.tryTest_starts {L : Live} {channelB : Bool} (hstep : L.inStep = true) (hpartner : 100 ≤ L.twin.p.loopi) :
    L.tryTest channelB = L.startTest channelB := if_pos ⟨hstep, hpartner⟩

theorem Live.tryTest_skips {L : Live} {channelB : Bool} (h : L.inStep = false ∨ L.twin.p.loopi < 100) :
    L.tryTest channelB = L.skipTest := by
  refine if_neg ?_
  rintro ⟨hstep, hpartner⟩
  rcases h with h | h
  · exact Bool.false_ne_true (h.symm.trans hstep)
  · omega

theorem exec_loopTest (channelB : Bool) (s : State) : exec (.loopTest channelB) s = runIn 5 s (fun L =>
    if !L.driving ∨ L.saf.test.isSome then L
    else (L.toPhase (sec 10) (ms ((if L.nodeId < 65 then 0 else 2500) + (if channelB then 5000 else 0)))).tryTest channelB) := rfl

theorem loopTest_tries {s : State} {channelB : Bool} (hw : Works 5 s.live) (hdrive : s.live.driving = true)
    (hfree : s.live.saf.test = none) :
    exec (.loopTest channelB) s = .next { s with live := (s.live.toPhase (sec 10) (s.live.testPhase channelB)).tryTest channelB } := by
  refine exec_of_works hw (exec_loopTest channelB s) ?_
  rw [if_neg (by simp [hdrive, hfree]), Live.testPhase]

theorem Live.updExpect_eq (L : Live) : ∃ expect, L.updExpect = { L with saf := { L.saf with expect := expect } } := by
  unfold Live.updExpect
  extract_lets closed start
  split
  · exact ⟨L.saf.expect, rfl⟩
  · exact ⟨(start, closed), rfl⟩

theorem Live.startTest_eq (L : Live) (channelB : Bool) : ∃ expect, L.startTest channelB =
    { L.setContact channelB false with saf := { L.saf with test := some (channelB, L.time.clk), expect := expect } } :=
  Live.updExpect_eq _

theorem Live.skipTest_get (L : Live) {k : Nat} (hk : k ≠ 0x404005) : L.skipTest.get k = L.get k := Live.get_put_ne L k _ _ hk

/-- The measured loop current and the channel's result are put into the objects. -/
def Live.putResult (L : Live) (loopMa : Nat) (b : Bool) : Live :=
  let M := L.put 0x200015 (min loopMa 3000 : Nat)
  M.put 0x404005 (setBit (setBit (M.getN 0x404005) 2 false) (if b then 1 else 0) (decide (loopMa < 10)) : Nat)

/-- The pins after a test: the contact recloses where the string is still driven and its loop not to be opened. -/
def Live.pinsAfterTest (L : Live) (b : Bool) : Pins :=
  if !(L.driving && decide (L.stepOf < 3)) then L.pins else if b then { L.pins with contactB := true } else { L.pins with contactA := true }

/-- The test is over. -/
def Live.endTest (L : Live) (b : Bool) : Live :=
  Live.updExpect { L with saf := { L.saf with test := none }, pins := L.pinsAfterTest b }

/-- The test is concluded, passed or not; written as the row of the model has it (10 R263). -/
def Live.concludeTest (L : Live) (ok b : Bool) : Live :=
  let still := L.driving && decide (L.stepOf < 3)
  let L := { L with
    saf := { L.saf with test := none }
    pins := (if !still then L.pins else if b then { L.pins with contactB := true } else { L.pins with contactA := true }) }
  let L := if ok then L.updExpect.senseLoop else L.updExpect
  if ok then L
  else
    let ch := if b then 2 else 1
    (L.raise 108 ch 2 [] L.tripPayload).sf12 ch

/-- The loop current is judged (10 R263). -/
def Live.judgeTest (L : Live) (loopMa : Nat) (b : Bool) : Live := (L.putResult loopMa b).concludeTest (decide (loopMa < 10)) b

theorem exec_loopTestExpiry (loopMa : Nat) (s : State) : exec (.loopTestExpiry loopMa) s = runIn 5 s (fun L =>
    match L.saf.test with
    | some (b, t) => (L.reach (t + ms 1)).judgeTest loopMa b
    | none => L) := rfl

theorem Live.judgeTest_of_lt (L : Live) {loopMa : Nat} (b : Bool) (h : loopMa < 10) :
    L.judgeTest loopMa b = ((L.putResult loopMa b).endTest b).senseLoop := by
  rw [Live.judgeTest, decide_eq_true h]
  rfl

theorem Live.judgeTest_of_ge (L : Live) {loopMa : Nat} (b : Bool) (h : 10 ≤ loopMa) :
    L.judgeTest loopMa b = (((L.putResult loopMa b).endTest b).raise 108 (if b then 2 else 1) 2 []
      ((L.putResult loopMa b).endTest b).tripPayload).sf12 (if b then 2 else 1) := by
  rw [Live.judgeTest, decide_eq_false (by omega)]
  rfl

theorem loopTestExpiry_judges {s : State} {b : Bool} {t : Nat} (loopMa : Nat) (hw : Works 5 s.live) (h : s.live.saf.test = some (b, t)) :
    exec (.loopTestExpiry loopMa) s = .next { s with live := (s.live.reach (t + ms 1)).judgeTest loopMa b } :=
  exec_of_works hw (exec_loopTestExpiry loopMa s) (by simp only [h])

/-- Of the objects the result touches the loop current and the results of the test alone. -/
theorem Live.putResult_get (L : Live) (loopMa : Nat) (b : Bool) {k : Nat} (hk : k ∉ [0x404005, 0x200015]) :
    (L.putResult loopMa b).get k = L.get k := by
  obtain ⟨hresult, hcurrent⟩ : k ≠ 0x404005 ∧ k ≠ 0x200015 := by simpa using hk
  exact (Live.get_put_ne _ _ _ _ hresult).trans (Live.get_put_ne _ _ _ _ hcurrent)

/-- The bit of the channel tells whether its test has passed. -/
theorem Live.putResult_bit (L : Live) (loopMa : Nat) (b : Bool) :
    bitOf ((L.putResult loopMa b).getN 0x404005) (if b then 1 else 0) = decide (loopMa < 10) := by
  simp [Live.putResult]

/-- The end of a test changes the pins, the test and the expectation of the contactors alone. -/
theorem Live.endTest_eq (L : Live) (b : Bool) :
    ∃ expect, L.endTest b = { L with pins := L.pinsAfterTest b, saf := { L.saf with test := none, expect := expect } } :=
  Live.updExpect_eq _

theorem Live.senseLoop_eq (L : Live) : ∃ v free, L.senseLoop = { L.put 0x200015 v with free := free } := by
  unfold Live.senseLoop
  split
  · exact ⟨_, _, rfl⟩
  · exact ⟨0, L.free, rfl⟩

/-- The tested contact is closed again where the string is still driven, else as it was. -/
theorem Live.pinsAfterTest_contact (L : Live) (b : Bool) :
    (if b then (L.pinsAfterTest b).contactB else (L.pinsAfterTest b).contactA) =
      if L.driving ∧ L.stepOf < 3 then true else if b then L.pins.contactB else L.pins.contactA := by
  unfold Live.pinsAfterTest
  by_cases h : L.driving = true ∧ L.stepOf < 3
  · cases b <;> simp [h]
  · cases b <;> simp [h, -not_and]

/-- Apart from the contacts a test leaves the pins. -/
theorem Live.pinsAfterTest_frame (L : Live) (b : Bool) :
    { L.pinsAfterTest b with contactA := L.pins.contactA, contactB := L.pins.contactB } = L.pins := by
  unfold Live.pinsAfterTest
  split
  · rfl
  · split <;> rfl

/-- A passed test leaves the contact as it is to be, the result and the loop current. -/
theorem Live.judgeTest_passes (L : Live) {loopMa : Nat} (b : Bool) (h : loopMa < 10) :
    ∃ expect obj free, L.judgeTest loopMa b = { L with
        pins := L.pinsAfterTest b, saf := { L.saf with test := none, expect := expect }, obj := obj, free := free } ∧
      SameObjects [0x404005, 0x200015] (L.judgeTest loopMa b) L ∧
      bitOf ((L.judgeTest loopMa b).getN 0x404005) (if b then 1 else 0) = true := by
  obtain ⟨expect, hend⟩ := (L.putResult loopMa b).endTest_eq b
  obtain ⟨v, free, hsense⟩ := ((L.putResult loopMa b).endTest b).senseLoop_eq
  rw [L.judgeTest_of_lt b h]
  have hget : ∀ k, k ≠ 0x200015 → (((L.putResult loopMa b).endTest b).senseLoop).get k = (L.putResult loopMa b).get k := by
    intro k hk
    rw [hsense, hend]
    exact Live.get_put_ne (L.putResult loopMa b) k _ v hk
  refine ⟨expect, ((L.putResult loopMa b).put 0x200015 v).obj, free, ?_, fun k hk => ?_, ?_⟩
  · rw [hsense, hend]
    rfl
  · exact (hget k fun e => hk (by simp [e])).trans (L.putResult_get loopMa b hk)
  · rw [Live.getN, hget _ (by decide), ← Live.getN, L.putResult_bit, decide_eq_true h]

/-- A new SF-12 is latched and takes a module that drives to SAFE; the test and its results stay. -/
theorem Live.sf12_new {L : Live} {ch : Nat} (hch : ch ≠ 3) (hs : L.fromStandby = true) (hnew : L.decided 12 ch = false) :
    (L.sf12 ch).saf.test = L.saf.test ∧ (L.sf12 ch).getN 0x404005 = L.getN 0x404005 ∧ bitOf ((L.sf12 ch).getN 0x404001) 11 = true ∧
      (L.driving = true → (L.sf12 ch).mode.st = .safe) := by
  refine ⟨(congrArg Safety.test (L.trip_counts 12 ch ch true) :), ?_, (Live.trip_latches ch true hs hnew hch).1, fun hdrive => ?_⟩
  · exact congrArg Int.toNat (L.trip_get 12 ch ch true (by decide))
  · exact Live.trip_takes ch true (.inl hdrive) hnew

/-- A test that is failed ends, with its result and its event, and is then SF-12 of the channel. -/
theorem Live.judgeTest_of_failed (L : Live) {loopMa : Nat} (b : Bool) (h : 10 ≤ loopMa) :
    ∃ M : Live, L.judgeTest loopMa b = M.sf12 (if b then 2 else 1) ∧ M.mode = L.mode ∧ M.saf.test = none ∧ M.saf.decA = L.saf.decA ∧
      M.saf.decB = L.saf.decB ∧ bitOf (M.getN 0x404005) (if b then 1 else 0) = false := by
  obtain ⟨expect, hend⟩ := (L.putResult loopMa b).endTest_eq b
  obtain ⟨rcd, com, dbg, cap, hraise, -⟩ := ((L.putResult loopMa b).endTest b).raise_eq 108 (if b then 2 else 1) 2 []
    ((L.putResult loopMa b).endTest b).tripPayload
  refine ⟨_, L.judgeTest_of_ge b h, ?_⟩
  rw [hraise, hend]
  exact ⟨rfl, rfl, rfl, rfl, (L.putResult_bit loopMa b).trans (decide_eq_false (by omega))⟩

/-- A failed test is SF-12 of the channel, with its result false; it takes a module that drives to SAFE (10 R263). -/
theorem Live.judgeTest_fails (L : Live) {loopMa : Nat} (b : Bool) (h : 10 ≤ loopMa) (hs : L.fromStandby = true)
    (hnew : L.decided 12 (if b then 2 else 1) = false) :
    (L.judgeTest loopMa b).saf.test = none ∧ bitOf ((L.judgeTest loopMa b).getN 0x404005) (if b then 1 else 0) = false ∧
      bitOf ((L.judgeTest loopMa b).getN 0x404001) 11 = true ∧ (L.driving = true → (L.judgeTest loopMa b).mode.st = .safe) := by
  obtain ⟨M, hM, hmode, htest, hA, hB, hbit⟩ := L.judgeTest_of_failed b h
  have hsM : M.fromStandby = true := by rwa [Live.fromStandby, hmode, ← Live.fromStandby]
  have hnewM : M.decided 12 (if b then 2 else 1) = false := by
    rw [← hnew]
    cases b <;> simp [Live.decided, hA, hB]
  obtain ⟨hkeeps, hresult, hlatched, hsafe⟩ := Live.sf12_new (by split <;> decide) hsM hnewM
  rw [hM]
  refine ⟨hkeeps.trans htest, by rw [hresult, hbit], hlatched, fun hdrive => hsafe ?_⟩
  rwa [Live.driving, hmode, ← Live.driving]

/-- Settles O21: each row by what its step leaves, and what the sequence does at once after it. -/
theorem safeStateSequenceSteps : Obligations.SafeStateSequenceSteps := by
  refine ⟨?_, ?_, ?_, ?_, ?_, ?_, ?_, ?_, ?_, ?_⟩
  · intro s q hw hseq hstep hkind hholds
    refine ⟨_, seqStep1End_steps hw hseq hstep hkind hholds, ?_⟩
    by_cases hzero : s.live.iZero = true
    · obtain ⟨hreach, hoff, hst, htime⟩ := Live.stepOn_from1 hseq hkind hholds
      rw [if_pos hzero, if_pos hzero]
      exact ⟨hreach, hoff, hst, by rw [htime]⟩
    · obtain ⟨time, hM, hclk⟩ := s.live.reach_eq (q.since + ms 1)
      obtain ⟨hreach, hoff, hst, htime⟩ := Live.stepOn_from1 (L := { s.live with time := time }) hseq hkind hholds
      rw [if_neg hzero, if_neg hzero, hM]
      exact ⟨hreach, hoff, hst, by rw [htime, hclk]⟩
  · intro s hholds hkind
    rw [exec_seqStep1End]
    refine runIn_of_fixed ?_
    split
    · next q hq => exact if_pos (.inr ⟨by simp [hholds], hkind q (by simp [hq])⟩)
    · rfl
  · intro s t hw hholdoff hkind
    obtain ⟨time, hM, hclk⟩ := s.live.reach_eq t
    obtain ⟨hnone, hhazard, hoff, htime, hst⟩ :=
      Live.holdoffEnds_off (L := { s.live with time := time }) (Live.kindOf_ne_shutdown hkind)
    refine ⟨_, classSHoldoffExpiry_ends hw hholdoff, ?_⟩
    rw [hM]
    exact ⟨hnone, hhazard, hoff, by rw [htime, hclk], hst⟩
  · intro s q t hw hseq hstep hoff
    refine ⟨_, lintelOpenTimeout_opens hw hseq hstep hoff, ?_⟩
    obtain ⟨time, hM, hclk⟩ := s.live.reach_eq ((if q.step = 2 then min t (q.offAt.getD t) else t) + ms 2)
    obtain ⟨hA, hB, hreach, htime⟩ := Live.stepOn_from2 (L := { s.live with time := time }) (by simp [hseq])
    rw [hM]
    exact ⟨hA, hB, hreach, by rw [htime, hclk]⟩
  · exact fun s h => lintelOpenTimeout_elsewhere h
  · intro s q t hw hseq hstep hblocked hat hopen
    refine ⟨_, step4BlockedTimeout_marks hw hseq hstep hblocked hat hopen, ?_⟩
    obtain ⟨time, hM, hclk⟩ := s.live.reach_eq (t + sec 2)
    obtain ⟨rcd, com, dbg, cap, hmarked, hraised, hsrc, hcode⟩ :=
      (Live.setSeq { s.live with time := time } (fun q => { q with blocked := true })).raise_eq 108 5 2 [] (Live.tripPayload _)
    rw [hM, Live.markBlocked, hmarked]
    refine ⟨fun r hr => ?_, hclk, hraised, hsrc, hcode, rfl⟩
    obtain rfl : r = { q with blocked := true } := by simpa [Live.setSeq, hseq, eq_comm] using hr
    exact ⟨rfl, hstep⟩
  · intro s channelB hw hdrive hfree hstep hpartner
    obtain ⟨time, hM, hphase, hclk⟩ := s.live.toTestPhase_eq channelB
    refine ⟨_, loopTest_tries hw hdrive hfree, ?_⟩
    rw [hM, Live.tryTest_starts (L := { s.live with time := time }) hstep hpartner]
    obtain ⟨expect, hstart⟩ := Live.startTest_eq { s.live with time := time } channelB
    rw [hstart]
    refine ⟨?_, ?_, rfl, hphase, hclk, rfl, ?_⟩
    · cases channelB <;> rfl
    · cases channelB <;> rfl
    · cases channelB <;> rfl
  · intro s channelB hw hdrive hfree h
    obtain ⟨time, hM, hphase, -⟩ := s.live.toTestPhase_eq channelB
    refine ⟨_, loopTest_tries hw hdrive hfree, ?_⟩
    rw [hM, Live.tryTest_skips (L := { s.live with time := time }) h]
    exact ⟨by simp [Live.skipTest], hphase, fun k hk => Live.skipTest_get _ (by simpa using hk), rfl⟩
  · intro s loopMa b t hw htest hpass
    obtain ⟨time, hM, hclk⟩ := s.live.reach_eq (t + ms 1)
    refine ⟨_, loopTestExpiry_judges loopMa hw htest, ?_⟩
    rw [hM]
    obtain ⟨expect, obj, free, hjudged, hobj, hbit⟩ := Live.judgeTest_passes { s.live with time := time } b hpass
    have hcontact := Live.pinsAfterTest_contact { s.live with time := time } b
    have hpins := Live.pinsAfterTest_frame { s.live with time := time } b
    refine ⟨by rw [hjudged], by rw [hjudged]; exact hcontact, hbit, by rw [hjudged]; exact hclk, hobj, ?_⟩
    rw [hjudged]
    exact congrArg (fun p => { s.live with pins := p }) hpins
  · intro s loopMa b t hw htest hfail hs hnew
    obtain ⟨time, hM, hclk⟩ := s.live.reach_eq (t + ms 1)
    refine ⟨_, loopTestExpiry_judges loopMa hw htest, ?_⟩
    rw [hM]
    exact Live.judgeTest_fails { s.live with time := time } b hfail hs hnew

end Sys2Proof.Machine
end

section
/-! Transmission on a bus (11 R283, R290): an FD frame shows the error state of its sender. -/

namespace Sys2Proof.Machine

open Sys2Proof

theorem exec_txBufferLoad (bus : Fin 2) (s : State) :
    exec (.txBufferLoad bus) s = runIn 4 s (fun L => L.loadBuffer bus.val) := rfl

/-- A CAN FD frame of the logic engine that waits in the class 2 ring. -/
def waitingFd : TxFrame := { f := fdFrame 0x2A0 [1, 2], cls := 2, ring := 2, at_ := 0, num := 0, who := 1 }

/-- Refutes O27, the clause of a candidate loaded into empty buffers: it says that the frame goes out as it stands in its ring. CAN A is
error-passive and its one frame is an FD frame. By 11 R283 an FD frame carries the error state indicator, which an error-passive
sender sets: what enters arbitration has it set, the frame in the ring does not. -/
theorem not_transmissionOnABus : ¬ Obligations.TransmissionOnABus := by
  rintro ⟨hLoad, -⟩
  obtain ⟨-, -, hout, -⟩ := of_answers_runIn (by decide) (exec_txBufferLoad _ _)
    (hLoad
      { live := {
          mode := { st := .standby }
          com := { nmt := 5, num := 1, bus := [{ st := 1, passive := true, tx := [waitingFd] }, {}] } } }
      0 waitingFd (by decide) rfl rfl (by decide) (by decide))
  exact absurd hout (by decide +kernel)

end Sys2Proof.Machine
end

section
/-! Fault confinement (11 R297): state 5 shows no acknowledgement, whatever fault confinement does. -/

namespace Sys2Proof.Machine

open Sys2Proof

theorem exec_canErrorPassive (bus : Fin 2) (s : State) :
    exec (.canErrorPassive bus) s = execCanErrorPassive bus s := rfl

/-- Refutes O28, the clause of a controller that becomes error-passive: it says that a controller in state 5 goes to state 1. CAN A has had
frames to send for 100 ms and none of them acknowledged, which by 11 R297 is state 5, and in the model state 5 ends with a sent frame
(log 106): the controller becomes error-passive, with its event, and 0x2010:10 still reads 5. -/
theorem not_canFaultConfinement : ¬ Obligations.CanFaultConfinement := by
  rintro ⟨hPassive, -⟩
  obtain ⟨hst, -⟩ := of_answers_runIn (by decide) (exec_canErrorPassive _ _)
    (hPassive
      { live := {
          mode := { st := .standby }
          obj := [(canKey 0 0x10, 5)]
          com := { nmt := 5, bus := [{ st := 5 }, {}] } } }
      0 (by decide) rfl (.inr rfl))
  exact absurd hst (by decide +kernel)

end Sys2Proof.Machine
end

section
/-! What enqueueing and events do to the two controllers: frames are added to their transmit rings, and nothing else (11 R288, R301). -/

namespace Sys2Proof.Machine

open Sys2Proof

/-- A controller with frames added at the end of its transmit rings. -/
def Can.enqueued (c : Can) (fs : List TxFrame) : Can := { c with tx := c.tx ++ fs }

@[simp] theorem Can.enqueued_tb (c : Can) (fs : List TxFrame) : (c.enqueued fs).tb = c.tb := rfl
@[simp] theorem Can.enqueued_tx (c : Can) (fs : List TxFrame) : (c.enqueued fs).tx = c.tx ++ fs := rfl
@[simp] theorem Can.enqueued_nil (c : Can) : c.enqueued [] = c := by simp [Can.enqueued]

theorem Can.enqueued_append (c : Can) (fs gs : List TxFrame) : (c.enqueued fs).enqueued gs = c.enqueued (fs ++ gs) := by
  simp [Can.enqueued]

/-- The controllers d are the controllers c with frames added to their transmit rings, in the same NMT state. -/
def FramesAdded (c d : Com) : Prop :=
  d.nmt = c.nmt ∧ d.bus.length = c.bus.length ∧ ∀ b, ∃ fs, d.bus.getD b {} = (c.bus.getD b {}).enqueued fs

theorem FramesAdded.refl (c : Com) : FramesAdded c c := ⟨rfl, rfl, fun _ => ⟨[], (Can.enqueued_nil _).symm⟩⟩

theorem FramesAdded.trans {c d e : Com} (h : FramesAdded c d) (h' : FramesAdded d e) : FramesAdded c e := by
  obtain ⟨hnmt, hlen, hcan⟩ := h
  obtain ⟨hnmt', hlen', hcan'⟩ := h'
  refine ⟨hnmt'.trans hnmt, hlen'.trans hlen, fun b => ?_⟩
  obtain ⟨fs, hfs⟩ := hcan b
  obtain ⟨fs', hfs'⟩ := hcan' b
  exact ⟨fs ++ fs', by rw [hfs', hfs, Can.enqueued_append]⟩

theorem FramesAdded.tb {c d : Com} (h : FramesAdded c d) (b : Nat) : (d.bus.getD b {}).tb = (c.bus.getD b {}).tb := by
  obtain ⟨-, -, hcan⟩ := h
  obtain ⟨fs, hfs⟩ := hcan b
  rw [hfs, Can.enqueued_tb]

/-- The frame that enqueueing puts into the ring of its class. -/
def Live.ringFrame (L : Live) (f : CanFrame) (cls who t : Nat) (rerouted : Bool) : TxFrame :=
  { f := f, cls := cls, ring := cls, at_ := t, num := L.com.num, who := who, rerouted := rerouted }

theorem Live.enqueueAt_same {L : Live} {bus : Nat} (f : CanFrame) (cls who t : Nat) (rerouted : Bool) (h : bus < L.com.bus.length) :
    (L.enqueueAt bus f cls who t rerouted).can bus = (L.can bus).enqueued [L.ringFrame f cls who t rerouted] :=
  getD_modify_same _ _ _ _ h

theorem Live.enqueueAt_other (L : Live) {bus b : Nat} (f : CanFrame) (cls who t : Nat) (rerouted : Bool) (h : bus ≠ b) :
    (L.enqueueAt bus f cls who t rerouted).can b = L.can b :=
  getD_modify_ne _ _ _ _ _ h

theorem Live.enqueueAt_busLength (L : Live) (bus : Nat) (f : CanFrame) (cls who t : Nat) (rerouted : Bool) :
    (L.enqueueAt bus f cls who t rerouted).com.bus.length = L.com.bus.length := by
  simp [Live.enqueueAt, Live.enqueueOn]

theorem Live.enqueueAt_adds (L : Live) (bus : Nat) (f : CanFrame) (cls who t : Nat) (rerouted : Bool) :
    FramesAdded L.com (L.enqueueAt bus f cls who t rerouted).com := by
  refine ⟨rfl, L.enqueueAt_busLength bus f cls who t rerouted, fun b => ?_⟩
  by_cases hb : bus = b
  · subst hb
    by_cases hlen : bus < L.com.bus.length
    · exact ⟨_, Live.enqueueAt_same f cls who t rerouted hlen⟩
    · have hlen' : L.com.bus.length ≤ bus := Nat.le_of_not_lt hlen
      exact ⟨[], by simp [Live.enqueueAt, Live.enqueueOn, hlen']⟩
  · exact ⟨[], (L.enqueueAt_other f cls who t rerouted hb).trans (Can.enqueued_nil _).symm⟩

/-- An EMCY goes out on both buses, or on none. -/
theorem Live.sendEmcy_com (L : Live) (eec err code cls seq : Nat) :
    (L.sendEmcy eec err code cls seq).com = L.com ∨
      ∃ f t, (L.sendEmcy eec err code cls seq).com =
        { ((L.enqueueAt 0 f 1 0 t false).enqueueAt 1 f 1 0 t false).com with emcyAt := some t } := by
  unfold Live.sendEmcy
  dsimp only
  split
  · exact .inr ⟨_, _, rfl⟩
  · exact .inl rfl

theorem Live.sendEmcy_adds (L : Live) (eec err code cls seq : Nat) : FramesAdded L.com (L.sendEmcy eec err code cls seq).com := by
  obtain h | ⟨f, t, h⟩ := L.sendEmcy_com eec err code cls seq
  · rw [h]
    exact .refl _
  · rw [h]
    exact (L.enqueueAt_adds 0 f 1 0 t false).trans (Live.enqueueAt_adds (L.enqueueAt 0 f 1 0 t false) 1 f 1 0 t false)

theorem Live.setConds_adds (L : Live) (cs : List Cond) : FramesAdded L.com (L.setConds cs).com := by
  unfold Live.setConds
  dsimp only
  split
  · exact Live.sendEmcy_adds { L with rcd := { L.rcd with conds := cs } } 0 0 0 0 0
  · exact .refl _

/-- An event adds at most the error-reset EMCY to the transmit rings (11 R301). -/
theorem Live.ev_adds (L : Live) (src code cls : Nat) (key rest : Bytes) : FramesAdded L.com (L.ev src code cls key rest).com := by
  change FramesAdded L.com (Live.setConds _ _).com
  exact Live.setConds_adds _ _

end Sys2Proof.Machine
end

section
/-! NMT commands (11 R284) and the heartbeat (11 R285). -/

namespace Sys2Proof.Machine

open Sys2Proof

/-! ### The NMT state -/

/-- The NMT state that is entered, with what its event may add to the transmit rings. -/
theorem Live.setNmt_adds (L : Live) (n : Nat) : FramesAdded { L.com with nmt := n } (L.setNmt n).com := by
  unfold Live.setNmt
  split
  · next h => exact ⟨h, rfl, fun _ => ⟨[], (Can.enqueued_nil _).symm⟩⟩
  · exact Live.ev_adds { L with com := { L.com with nmt := n } } 116 1 0 [] _

/-- An NMT command for this module that sets the NMT state sets it, and leaves nothing else beside its event. -/
theorem setNmt_commanded {c : Instr} {s : State} {node n : Nat} (hw : Works 4 s.live) (hfor : s.live.nmtFor node = true)
    (hc : exec c s = runIn 4 s (fun L => if L.nmtFor node then L.setNmt n else L)) :
    Answers c s (fun L => L.com.nmt = n ∧ L.com.bus.length = s.live.com.bus.length ∧
      { L with com := s.live.com, rcd := s.live.rcd, dbg := s.live.dbg, cap := s.live.cap } = s.live) := by
  refine answers_of_runIn hw hc ?_
  obtain ⟨hnmt, hlen, -⟩ := s.live.setNmt_adds n
  have hframe := s.live.setNmt_frame n
  rw [if_pos hfor]
  exact ⟨hnmt, hlen, by simp [hframe]⟩

theorem exec_startRemoteNode (node : Nat) (s : State) :
    exec (.startRemoteNode node) s = runIn 4 s (fun L => if L.nmtFor node then L.setNmt 5 else L) := rfl

theorem exec_stopRemoteNode (node : Nat) (s : State) :
    exec (.stopRemoteNode node) s = runIn 4 s (fun L => if L.nmtFor node then L.setNmt 4 else L) := rfl

theorem exec_enterPreOperational (node : Nat) (s : State) :
    exec (.enterPreOperational node) s = runIn 4 s (fun L => if L.nmtFor node then L.setNmt 127 else L) := rfl

/-- A module obeys no NMT command for another node-ID. -/
theorem Live.nmtFor_other {L : Live} {node : Nat} (h0 : node ≠ 0) (h : node ≠ L.nodeId) : L.nmtFor node = false := by
  simp [Live.nmtFor, h0, h]

/-! ### Reset communication -/

/-- A controller restarts: its buffers are empty, the frames they held are back in the rings, its error counters are 0. -/
def Live.restartCan (L : Live) (b : Nat) : Live :=
  let M := L.modCan b (fun (c : Can) => { c with
    tb := [none, none, none]
    tx := c.tx ++ c.tb.filterMap (fun x => x.map (·.f))
    withheld := false
    monitor := false })
  let N := (M.put (canKey b 0x11) 0).put (canKey b 0x12) 0
  N.setCan b (if N.boot (canKey b 0x0A) = 1 then 0 else 4)

/-- The communication objects as the snapshot holds them (11 R284). -/
def Live.reloadCom (snap L : Live) : Live :=
  { L with obj := L.obj.filter (fun p => p.1 < 0x100000) ++ snap.obj.filter (fun p => isComKey p.1) ++
      L.obj.filter (fun p => 0x200000 ≤ p.1) }

/-- Both controllers restarted on the reloaded communication objects. -/
def Live.restarted (snap L : Live) : Live :=
  let M := ((Live.reloadCom snap L).restartCan 0).restartCan 1
  { M with com := { M.com with bothLost := false, noticeDue := none } }

theorem Live.resetCom_eq (snap L : Live) :
    Live.resetCom snap L = (Live.restarted snap L).setNmt (if (Live.restarted snap L).fromStandby then 5 else 127) := rfl

theorem Live.restartCan_busLength (L : Live) (b : Nat) : (L.restartCan b).com.bus.length = L.com.bus.length := by
  simp [Live.restartCan, Live.setCan]

theorem Live.restartCan_same {L : Live} {b : Nat} (h : b < L.com.bus.length) : ((L.restartCan b).can b).tb = [none, none, none] := by
  simp [Live.restartCan, Live.setCan, Live.can, List.getD_eq_getElem?_getD, h]

theorem Live.restartCan_other (L : Live) {b k : Nat} (h : b ≠ k) : (L.restartCan b).can k = L.can k := by
  simp [Live.restartCan, Live.setCan, Live.can, List.getD_eq_getElem?_getD, h]

theorem Live.restarted_can (snap L : Live) (b : Nat) :
    (Live.restarted snap L).can b = (((Live.reloadCom snap L).restartCan 0).restartCan 1).can b := rfl

theorem Live.restarted_fromStandby (snap L : Live) : (Live.restarted snap L).fromStandby = L.fromStandby := by
  simp [Live.fromStandby, Live.restarted, Live.restartCan, Live.reloadCom, Live.setCan_frame, Live.modCan_frame]

theorem Live.restarted_tb (snap : Live) {L : Live} (h : L.com.bus.length = 2) :
    ((Live.restarted snap L).can 0).tb = [none, none, none] ∧ ((Live.restarted snap L).can 1).tb = [none, none, none] := by
  have h0 : 0 < (Live.reloadCom snap L).com.bus.length := by simp [Live.reloadCom, h]
  have h1 : 1 < ((Live.reloadCom snap L).restartCan 0).com.bus.length := by simp [Live.restartCan_busLength, Live.reloadCom, h]
  rw [Live.restarted_can, Live.restarted_can, Live.restartCan_other _ (by decide)]
  exact ⟨Live.restartCan_same h0, Live.restartCan_same h1⟩

/-- Reset communication leaves the transmit buffers empty. The NMT state it ends in, Operational from STANDBY on and Pre-operational before,
is the model's choice (log 41). -/
theorem resetCom_commanded {c : Instr} {s : State} {node : Nat} (hw : Works 4 s.live) (hlen : s.live.com.bus.length = 2)
    (hfor : s.live.nmtFor node = true) (hc : exec c s = runIn 4 s (fun L => if L.nmtFor node then Live.resetCom s.snap L else L)) :
    Answers c s (fun L => (L.com.nmt = if s.live.fromStandby then 5 else 127) ∧ (L.can 0).tb = [none, none, none] ∧
      (L.can 1).tb = [none, none, none] ∧
      { L with com := s.live.com, rcd := s.live.rcd, dbg := s.live.dbg, cap := s.live.cap, obj := s.live.obj } = s.live) := by
  refine answers_of_runIn hw hc ?_
  obtain ⟨htb0, htb1⟩ := Live.restarted_tb s.snap hlen
  have hadds := (Live.restarted s.snap s.live).setNmt_adds (if s.live.fromStandby then 5 else 127)
  have hM := Live.resetCom_eq s.snap s.live
  rw [Live.restarted_fromStandby] at hM
  rw [← hM] at hadds
  have hframe := Live.resetCom_frame s.snap s.live
  rw [if_pos hfor]
  exact ⟨hadds.1, (hadds.tb 0).trans htb0, (hadds.tb 1).trans htb1, by simp [hframe]⟩

theorem exec_resetNode (node : Nat) (s : State) :
    exec (.resetNode node) s = runIn 4 s (fun L => if L.nmtFor node then Live.resetCom s.snap L else L) := rfl

theorem exec_resetCommunication (node : Nat) (s : State) :
    exec (.resetCommunication node) s = runIn 4 s (fun L => if L.nmtFor node then Live.resetCom s.snap L else L) := rfl

/-! ### The heartbeat -/

theorem exec_heartbeatTx (s : State) : exec .heartbeatTx s = execHeartbeatTx s := rfl

/-- The module as it sends a heartbeat: the producer time has passed since the last. -/
def Live.atBeat (L : Live) : Live :=
  let M := L.reach (L.com.beatAt + ms (L.getN 0x101700))
  { M with com := { M.com with beatAt := M.time.clk } }

/-- The heartbeat frame (11 R285). -/
def Live.heartbeat (L : Live) : CanFrame := canFrame (0x700 + L.nodeId) (leBytes 1 L.com.nmt)

theorem Live.atBeat_eq (L : Live) :
    ∃ time, L.atBeat = { L with com := { L.com with beatAt := time.clk }, time := time } ∧
      time.clk = max L.time.clk (L.com.beatAt + ms (L.getN 0x101700)) := by
  obtain ⟨time, hreach, hclk⟩ := L.reach_eq (L.com.beatAt + ms (L.getN 0x101700))
  exact ⟨time, by rw [Live.atBeat, hreach], hclk⟩

theorem Live.atBeat_heartbeat (L : Live) : L.atBeat.heartbeat = L.heartbeat := by
  simp [Live.heartbeat, Live.atBeat, Live.nodeId, Live.bootN, Live.boot]

/-- A class 1 frame enters the rings of both buses at the present clock. -/
def Live.sendBoth (L : Live) (f : CanFrame) : Live := (L.enqueue 0 f 1 0).enqueue 1 f 1 0

theorem Live.enqueue_class1 (L : Live) (bus : Nat) (f : CanFrame) (who : Nat) :
    L.enqueue bus f 1 who = L.enqueueAt bus f 1 who L.time.clk false := by
  simp [Live.enqueue]

theorem heartbeatTx_sends {s : State} (hw : Works 4 s.live) (hsend : s.live.maySend = true) :
    exec .heartbeatTx s = .next { s with live := s.live.atBeat.sendBoth s.live.heartbeat } := by
  refine exec_of_works hw (exec_heartbeatTx s) ?_
  rw [← Live.atBeat_heartbeat]
  exact if_neg (by simp [hsend])

/-- On both buses one frame more stands in the rings, the newest. -/
theorem Live.sendBoth_tx {L : Live} (f : CanFrame) (h : L.com.bus.length = 2) :
    (∃ fr, fr.f = f ∧ ((L.sendBoth f).can 0).tx = (L.can 0).tx ++ [fr]) ∧
      ∃ fr, fr.f = f ∧ ((L.sendBoth f).can 1).tx = (L.can 1).tx ++ [fr] := by
  have h0 : 0 < L.com.bus.length := by omega
  have h1 : 1 < (L.enqueueAt 0 f 1 0 L.time.clk false).com.bus.length := by
    rw [Live.enqueueAt_busLength]
    omega
  rw [Live.sendBoth, Live.enqueue_class1, Live.enqueue_class1]
  constructor
  · refine ⟨L.ringFrame f 1 0 L.time.clk false, rfl, ?_⟩
    rw [Live.enqueueAt_other _ _ _ _ _ _ (by decide), Live.enqueueAt_same _ _ _ _ _ h0, Can.enqueued_tx]
  · refine ⟨_, ?_, by rw [Live.enqueueAt_same _ _ _ _ _ h1, Can.enqueued_tx, Live.enqueueAt_other _ _ _ _ _ _ (by decide)]⟩
    rfl

theorem Live.sendBoth_eq (L : Live) (f : CanFrame) : ∃ com, L.sendBoth f = { L with com := com } := by
  rw [Live.sendBoth, Live.enqueue_class1, Live.enqueue_class1]
  exact ⟨_, rfl⟩

/-- The heartbeat goes out on both buses, and beside it only the time has gone on. -/
theorem heartbeatTx_answers {s : State} (hw : Works 4 s.live) (hlen : s.live.com.bus.length = 2) (hsend : s.live.maySend = true) :
    Answers .heartbeatTx s (fun L => (L.can 0).tx.length = (s.live.can 0).tx.length + 1 ∧
      (L.can 1).tx.length = (s.live.can 1).tx.length + 1 ∧ (L.can 0).tx.getLast?.map (·.f) = some s.live.heartbeat ∧
      L.time.clk = max s.live.time.clk (s.live.com.beatAt + ms (s.live.getN 0x101700)) ∧
      { L with com := s.live.com, time := s.live.time } = s.live) := by
  refine ⟨_, heartbeatTx_sends hw hsend, ?_⟩
  obtain ⟨time, hbeat, hclk⟩ := s.live.atBeat_eq
  rw [hbeat]
  obtain ⟨⟨a, ha, hA⟩, b, -, hB⟩ := Live.sendBoth_tx (L := { s.live with com := { s.live.com with beatAt := time.clk }, time := time })
    s.live.heartbeat hlen
  obtain ⟨com, hM⟩ := Live.sendBoth_eq { s.live with com := { s.live.com with beatAt := time.clk }, time := time } s.live.heartbeat
  refine ⟨?_, ?_, ?_, by rw [hM, hclk], by rw [hM]⟩
  · rw [hA]
    exact List.length_append
  · rw [hB]
    exact List.length_append
  · rw [hA, List.getLast?_concat, Option.map_some, ha]

/-- Settles O26: each command is its own lemma above; START, STOP and PRE-OPERATIONAL share one, as do the two resets. -/
theorem nmtAndHeartbeat : Obligations.NmtAndHeartbeat := by
  refine ⟨?_, ?_, ?_, ?_, ?_, ?_, ?_, ?_⟩
  · exact fun s node hw hfor => setNmt_commanded hw hfor (exec_startRemoteNode node s)
  · intro s node hw hfor
    obtain ⟨L, hL, hnmt, -, hframe⟩ := setNmt_commanded hw hfor (exec_stopRemoteNode node s)
    exact ⟨L, hL, hnmt, hframe⟩
  · intro s node hw hfor
    obtain ⟨L, hL, hnmt, -, hframe⟩ := setNmt_commanded hw hfor (exec_enterPreOperational node s)
    exact ⟨L, hL, hnmt, hframe⟩
  · exact fun s node hw hlen hfor => resetCom_commanded hw hlen hfor (exec_resetNode node s)
  · exact fun s node hw hlen hfor => resetCom_commanded hw hlen hfor (exec_resetCommunication node s)
  · intro s node h0 hother
    rw [exec_stopRemoteNode]
    exact runIn_of_fixed (if_neg (by simp [Live.nmtFor_other h0 hother]))
  · exact fun s hw hlen hsend => heartbeatTx_answers hw hlen hsend
  · intro s hsend
    rw [exec_heartbeatTx]
    exact runIn_of_fixed (if_pos (by simp [hsend]))

end Sys2Proof.Machine
end

section
/-! A frame received (11 R283, R295, R296): what each filter target leaves. -/

namespace Sys2Proof.Machine

open Sys2Proof

/-! ### The filters read no controller object -/

/-- Objects of the two controllers lie in 0x2010 and 0x2011, the receive counters among them. -/
theorem canKey_bounds (bus : Fin 2) {sub : Nat} (h : sub < 256) : 0x201000 ≤ canKey bus sub ∧ canKey bus sub < 0x201200 := by
  have hbus := bus.isLt
  unfold canKey
  omega

section Filters

variable {L M : Live} (hget : ∀ j, j < 0x201000 ∨ 0x201200 ≤ j → L.get j = M.get j)

include hget

theorem getN_of_get {j : Nat} (h : j < 0x201000 ∨ 0x201200 ≤ j) : L.getN j = M.getN j := congrArg Int.toNat (hget j h)

theorem srdoOn_of_get {k : Nat} (hk : k < 8) (dir : Nat) : L.srdoOn k dir = M.srdoOn k dir := by
  have hset : [1, 2, 3, 5, 6].map (fun n => L.get ((0x1301 + k) * 256 + n)) =
      [1, 2, 3, 5, 6].map (fun n => M.get ((0x1301 + k) * 256 + n)) :=
    List.map_congr_left fun n hn => hget _ (by simp at hn; omega)
  have hmap : (List.range 17).map (fun n => L.get ((0x1381 + k) * 256 + n)) =
      (List.range 17).map (fun n => M.get ((0x1381 + k) * 256 + n)) :=
    List.map_congr_left fun n hn => hget _ (by simp at hn; omega)
  have hsig : L.get (0x13FF * 256 + 1 + k) = M.get (0x13FF * 256 + 1 + k) := hget _ (by omega)
  have hdir : L.getN ((0x1301 + k) * 256).succ = M.getN ((0x1301 + k) * 256).succ := getN_of_get hget (by omega)
  have hvalid : L.getN 0x13FE00 = M.getN 0x13FE00 := getN_of_get hget (by omega)
  simp only [Live.srdoOn, hset, hmap, hsig, hdir, hvalid]

theorem srdoTakes_of_get (inv : Bool) (id : Nat) : L.srdoTakes inv id = M.srdoTakes inv id := by
  refine Bool.eq_iff_iff.mpr ?_
  simp only [Live.srdoTakes, List.any_eq_true, List.mem_range]
  refine exists_congr fun k => and_congr_right fun hk => ?_
  have hcob : L.getN ((0x1301 + k) * 256 + (if inv then 6 else 5)) = M.getN ((0x1301 + k) * 256 + (if inv then 6 else 5)) :=
    getN_of_get hget (by split <;> omega)
  rw [srdoOn_of_get hget hk, hcob]

/-- Two modules with the same keystone and the same objects outside those of the controllers filter alike. -/
theorem filterTarget_of_get (hks : L.ks = M.ks) (bus : Nat) (f : CanFrame) : L.filterTarget bus f = M.filterTarget bus f := by
  have hboot : ∀ k, L.bootN k = M.bootN k := fun k => by simp [Live.bootN, Live.boot, hks]
  have hnode : L.nodeId = M.nodeId := hboot 0x200002
  have hfixed : ∀ i id fd, L.fixedFilter i id fd = M.fixedFilter i id fd := fun i id fd => by
    simp only [Live.fixedFilter, srdoTakes_of_get hget, hboot, hnode]
  have hmanager : L.isManager = M.isManager := by rw [Live.isManager, hnode, Live.isManager]
  have htarget : ∀ i, L.fixedTarget i = M.fixedTarget i := fun i => by
    unfold Live.fixedTarget
    rw [hmanager]
  have hword : ∀ i, L.getN ((0x2013 + bus) * 256 + 9 + i) = M.getN ((0x2013 + bus) * 256 + 9 + i) := fun i =>
    getN_of_get hget (by omega)
  simp only [Live.filterTarget, hfixed, htarget, hword]

end Filters

/-! ### Counting -/

/-- The receive error counter counts down with an accepted frame. -/
def Live.heard (L : Live) (bus : Nat) : Live := L.put (canKey bus 0x12) (L.getN (canKey bus 0x12) - 1 : Nat)

/-- The frames accepted since BOOT count one more (11 R287). -/
def Live.taken (L : Live) (bus : Nat) : Live := (L.heard bus).bump (canKey bus 0x15) 1 32

theorem Live.filterTarget_heard (L : Live) (b bus : Fin 2) (f : CanFrame) : (L.heard b).filterTarget bus f = L.filterTarget bus f := by
  obtain ⟨hlo, hhi⟩ := canKey_bounds b (sub := 0x12) (by decide)
  exact filterTarget_of_get (fun j hj => Live.get_put_ne L j _ _ (by omega)) rfl bus f

theorem Live.heard_objects (L : Live) (bus : Nat) : SameObjects [canKey bus 0x12] (L.heard bus) L :=
  fun k hk => Live.get_put_ne L k _ _ (by simpa using hk)

theorem Live.taken_objects (L : Live) (bus : Nat) : SameObjects [canKey bus 0x15, canKey bus 0x12] (L.taken bus) L := by
  intro k hk
  obtain ⟨hk15, hk12⟩ : k ≠ canKey bus 0x15 ∧ k ≠ canKey bus 0x12 := by simpa using hk
  exact (Live.get_put_ne _ k _ _ hk15).trans (L.heard_objects bus k (by simpa using hk12))

theorem Live.taken_accepted (L : Live) (bus : Nat) :
    (L.taken bus).getN (canKey bus 0x15) = min (L.getN (canKey bus 0x15) + 1) (2 ^ 32 - 1) := by
  have hkey : canKey bus 0x15 ≠ canKey bus 0x12 := by
    unfold canKey
    omega
  rw [Live.taken, Live.bump, Live.getN_put_same, Live.heard, Live.getN_put_ne _ _ _ _ hkey]
  rfl

theorem Live.taken_eq (L : Live) (bus : Nat) : ∃ obj, L.taken bus = { L with obj := obj } := ⟨_, rfl⟩

/-! ### Placing -/

/-- Does the controller take part in the bus (11 R287, R297)? -/
abbrev Can.onBus (c : Can) : Prop := c.st = 0 ∨ c.st = 1 ∨ c.st = 5

/-- Where a frame goes by the target of its filter (11 R295). -/
def Live.placed (L : Live) (target bus sof : Nat) (f : CanFrame) : Live :=
  match target with
  | 1 => (L.taken bus).toGeneralRing bus sof f
  | 2 => (L.taken bus).toHpb bus 0 sof f
  | 3 => (L.taken bus).toHpb bus 1 sof f
  | 4 => (L.taken bus).toLogicRing bus sof f
  | 5 => L.taken bus
  | _ => L.heard bus

theorem exec_canFrameRx (bus : Fin 2) (f : CanFrame) (sof : Nat) (s : State) :
    exec (.canFrameRx bus f sof) s = runIn 4 s (fun L => L.canAccept bus.val sof f) := rfl

/-- A data frame on a bus that the controller takes part in is placed by its filter's target. -/
theorem Live.canAccept_eq {L : Live} {bus : Fin 2} {f : CanFrame} (sof : Nat) (hdata : f.rtr = false) (hon : (L.can bus).onBus) :
    L.canAccept bus sof f = L.placed (L.filterTarget bus f) bus sof f := by
  have htaken : ¬(f.rtr = true ∨ !((L.can bus).st == 0 || (L.can bus).st == 1 || (L.can bus).st == 5)) := by
    obtain h | h | h := hon <;> simp [hdata, h]
  rw [← L.filterTarget_heard bus bus f]
  exact if_neg htaken

/-- A remote frame, and any frame at a controller that is bus-off, recovering or disabled, is not received. -/
theorem Live.canAccept_ignores {L : Live} {bus : Nat} {f : CanFrame} (sof : Nat)
    (h : f.rtr = true ∨ (L.can bus).st = 2 ∨ (L.can bus).st = 3 ∨ (L.can bus).st = 4) : L.canAccept bus sof f = L := by
  refine if_pos ?_
  obtain h | h | h | h := h <;> simp [h]

theorem Live.toGeneralRing_room {L : Live} {bus : Nat} (sof : Nat) (f : CanFrame) (h : (L.can bus).rx.length < 256) :
    L.toGeneralRing bus sof f = L.modCan bus (fun c => { c with rx := c.rx ++ [(sof, f)] }) := if_pos h

theorem Live.toLogicRing_room {L : Live} (bus sof : Nat) (f : CanFrame) (h : L.com.logicRx.length < 64) :
    L.toLogicRing bus sof f = { L with com := { L.com with logicRx := L.com.logicRx ++ [(bus, sof, f)] } } := if_pos h

theorem Live.toHpb_free {L : Live} {bus n : Nat} (sof : Nat) (f : CanFrame) (h : (L.can bus).hpb.getD n none = none) :
    L.toHpb bus n sof f = L.modCan bus (fun c => { c with hpb := c.hpb.set n (some (sof, f)) }) :=
  if_neg (by rw [h]; exact Bool.false_ne_true)

section Rows

variable {s : State} {bus : Fin 2} {f : CanFrame} (sof : Nat)

theorem canFrameRx_general (hw : Works 4 s.live) (hlen : s.live.com.bus.length = 2) (hdata : f.rtr = false)
    (hon : (s.live.can bus).onBus) (htarget : s.live.filterTarget bus f = 1) (hroom : (s.live.can bus).rx.length < 256) :
    Answers (.canFrameRx bus f sof) s (fun L => (L.can bus).rx = (s.live.can bus).rx ++ [(sof, f)] ∧
      L.can (1 - bus) = s.live.can (1 - bus) ∧
      L.getN (canKey bus 0x15) = min (s.live.getN (canKey bus 0x15) + 1) (2 ^ 32 - 1) ∧
      SameObjects [canKey bus 0x15, canKey bus 0x12] L s.live ∧
      { L with com := { L.com with num := s.live.com.num, bus := s.live.com.bus }, obj := s.live.obj } = s.live) := by
  refine answers_of_runIn hw (exec_canFrameRx bus f sof s) ?_
  have hM : s.live.canAccept bus sof f = (s.live.taken bus).modCan bus (fun c => { c with rx := c.rx ++ [(sof, f)] }) := by
    rw [Live.canAccept_eq sof hdata hon, htarget]
    exact Live.toGeneralRing_room sof f hroom
  have hbus : bus.val < (s.live.taken bus).com.bus.length := by
    change bus.val < s.live.com.bus.length
    omega
  rw [hM]
  refine ⟨congrArg Can.rx (Live.modCan_same _ _ _ hbus), Live.modCan_other _ _ _ _ (by omega), ?_, ?_, ?_⟩
  · exact (Live.getN_congr _ _ _ rfl).trans (s.live.taken_accepted bus)
  · exact fun k hk => (Live.get_congr _ _ k rfl).trans (s.live.taken_objects bus k hk)
  · obtain ⟨obj, htaken⟩ := s.live.taken_eq bus
    rw [htaken]
    rfl

theorem canFrameRx_rejected (hw : Works 4 s.live) (hdata : f.rtr = false) (hon : (s.live.can bus).onBus)
    (htarget : s.live.filterTarget bus f = 0) :
    Answers (.canFrameRx bus f sof) s (fun L => L.getN (canKey bus 0x12) = s.live.getN (canKey bus 0x12) - 1 ∧
      SameObjects [canKey bus 0x12] L s.live ∧ { L with obj := s.live.obj } = s.live) := by
  refine answers_of_runIn hw (exec_canFrameRx bus f sof s) ?_
  have hM : s.live.canAccept bus sof f = s.live.heard bus := by
    rw [Live.canAccept_eq sof hdata hon, htarget]
    rfl
  rw [hM]
  exact ⟨Live.getN_put_same _ _ _, s.live.heard_objects bus, rfl⟩

theorem canFrameRx_logic (hw : Works 4 s.live) (hdata : f.rtr = false) (hon : (s.live.can bus).onBus)
    (htarget : s.live.filterTarget bus f = 4) (hroom : s.live.com.logicRx.length < 64) :
    Answers (.canFrameRx bus f sof) s (fun L => L.com.logicRx = s.live.com.logicRx ++ [(bus.val, sof, f)] ∧
      SameObjects [canKey bus 0x15, canKey bus 0x12] L s.live ∧
      { L with com := { L.com with logicRx := s.live.com.logicRx }, obj := s.live.obj } = s.live) := by
  refine answers_of_runIn hw (exec_canFrameRx bus f sof s) ?_
  have hM : s.live.canAccept bus sof f = { s.live.taken bus with
      com := { s.live.com with logicRx := s.live.com.logicRx ++ [(bus.val, sof, f)] } } := by
    rw [Live.canAccept_eq sof hdata hon, htarget]
    exact Live.toLogicRing_room bus sof f hroom
  rw [hM]
  refine ⟨rfl, fun k hk => (Live.get_congr _ _ k rfl).trans (s.live.taken_objects bus k hk), ?_⟩
  obtain ⟨obj, htaken⟩ := s.live.taken_eq bus
  rw [htaken]

/-- A frame for high-priority buffer n, 0 or 1, both being free. -/
theorem canFrameRx_hpb {n : Nat} (hw : Works 4 s.live) (hlen : s.live.com.bus.length = 2)
    (hplaced : s.live.canAccept bus sof f = (s.live.taken bus).toHpb bus n sof f) (hfree : (s.live.can bus).hpb = [none, none]) :
    Answers (.canFrameRx bus f sof) s (fun L => (L.can bus).hpb = [none, none].set n (some (sof, f)) ∧
      L.can (1 - bus) = s.live.can (1 - bus) ∧ SameObjects [canKey bus 0x15, canKey bus 0x12] L s.live ∧
      { L with com := { L.com with bus := s.live.com.bus }, obj := s.live.obj } = s.live) := by
  refine answers_of_runIn hw (exec_canFrameRx bus f sof s) ?_
  have hbuffer : ((s.live.taken bus).can bus).hpb.getD n none = none := by
    change (s.live.can bus).hpb.getD n none = none
    rw [hfree]
    rcases n with _ | _ | _ <;> rfl
  have hbus : bus.val < (s.live.taken bus).com.bus.length := by
    change bus.val < s.live.com.bus.length
    omega
  rw [hplaced, Live.toHpb_free sof f hbuffer]
  refine ⟨?_, Live.modCan_other _ _ _ _ (by omega), ?_, ?_⟩
  · rw [Live.modCan_same _ _ _ hbus, ← hfree]
    rfl
  · exact fun k hk => (Live.get_congr _ _ k rfl).trans (s.live.taken_objects bus k hk)
  · obtain ⟨obj, htaken⟩ := s.live.taken_eq bus
    rw [htaken]
    rfl

end Rows

end Sys2Proof.Machine
end

section
/-! Heartbeats, SRDOs and PDOs received (01 R12; 10 R277; 11 R283, R284). -/

namespace Sys2Proof.Machine

open Sys2Proof

/-! ### A heartbeat with the own node-ID -/

theorem exec_heartbeatRx (bus : Fin 2) (node nmt : Nat) (s : State) :
    exec (.heartbeatRx bus node nmt) s = execHeartbeatRx bus node nmt s := rfl

/-- The duplicate is recorded, and its self-test bit set (01 R12; 03 R56). -/
def Live.duplicateHeard (L : Live) : Live :=
  { L with mode := { L.mode with dupHeard := true } }.put 0x20001A (setBit (L.getN 0x20001A) 13 true : Nat)

theorem heartbeatRx_duplicate {s : State} {bus : Fin 2} {node : Nat} (nmt : Nat) (hp : s.live.powered = true)
    (hlisten : s.live.mode.listening = true) (hfirst : s.live.mode.dupHeard = false) (hid : s.live.unassigned = false)
    (hnode : node = s.live.nodeId) :
    Answers (.heartbeatRx bus node nmt) s (fun L => L.mode.dupHeard = true ∧ bitOf (L.getN 0x20001A) 13 = true ∧
      L.rcd.raised = s.live.rcd.raised + 1 ∧
      { L with
        mode := { L.mode with dupHeard := s.live.mode.dupHeard }
        obj := s.live.obj
        rcd := s.live.rcd
        com := s.live.com
        dbg := s.live.dbg
        cap := s.live.cap } = s.live) := by
  refine answers_of_run hp (exec_heartbeatRx bus node nmt s) ?_
  rw [if_pos (by simp [hlisten, hfirst, hid, hnode])]
  obtain ⟨rcd, com, dbg, cap, hev, hraised⟩ := s.live.duplicateHeard.ev_eq 116 2 2 [] (leBytes 1 bus.val)
  rw [Live.duplicateHeard] at hev
  rw [hev]
  refine ⟨rfl, ?_, hraised, rfl⟩
  change bitOf (s.live.duplicateHeard.getN 0x20001A) 13 = true
  rw [Live.duplicateHeard, Live.getN_put_same]
  exact bitOf_setBit_same _ _ _

/-- Any other heartbeat is not consumed (11 R283). -/
theorem heartbeatRx_ignored {s : State} (bus : Fin 2) {node : Nat} (nmt : Nat)
    (h : s.live.mode.listening = false ∨ node ≠ s.live.nodeId) : exec (.heartbeatRx bus node nmt) s = .next s := by
  have hf : ¬((s.live.mode.listening && !s.live.mode.dupHeard && !s.live.unassigned && node == s.live.nodeId) = true) := by
    obtain h | h := h <;> simp [h]
  rw [exec_heartbeatRx, execHeartbeatRx, run, if_neg hf]
  exact ite_self _

/-! ### SRDOs -/

theorem exec_srdoRx (bus : Fin 2) (k : Fin 8) (inv : Bool) (data : Bytes) (s : State) :
    exec (.srdoRx bus k inv data) s = execSrdoRx bus k inv data s := rfl

theorem srdoRx_files {s : State} (bus : Fin 2) (k : Fin 8) (inv : Bool) (data : Bytes) (hw : Works 5 s.live)
    (hlen : s.live.saf.srdoHalf.length = 8) :
    Answers (.srdoRx bus k inv data) s (fun L => (s.live.srdoOn k 2 = false → L = s.live) ∧
      (s.live.srdoOn k 2 = true ∧ inv = false →
        L.saf.srdoHalf.getD k none = some (s.live.time.clk, data) ∧ L.mode = s.live.mode)) := by
  refine answers_of_runIn hw (exec_srdoRx bus k inv data s) ⟨fun hoff => if_pos (by simp [hoff]), ?_⟩
  rintro ⟨hon, rfl⟩
  have hk : k.val < s.live.saf.srdoHalf.length := by omega
  rw [if_neg (by simp [hon])]
  refine ⟨?_, rfl⟩
  simp [hk, Live.modCan]

/-! ### PDOs -/

theorem exec_rpdoRx (bus : Fin 2) (n : Fin 4) (data : Bytes) (s : State) :
    exec (.rpdoRx bus n data) s = execRpdoRx bus n data s := rfl

/-- M is L with n more values decided, each queued or refused; beside that at most requests to the partner have changed. -/
def Decides (n : Nat) (L M : Live) : Prop :=
  ∃ pend refused bulk seq,
    M = { L with ks := { L.ks with pend := pend, refused := refused }, twin := { L.twin with bulk := bulk, fwdSeq := seq } } ∧
      pend.length + refused = L.ks.pend.length + L.ks.refused + n

theorem Decides.follower {n : Nat} {L M : Live} (h : Decides n L M) : M.follower = L.follower := by
  obtain ⟨pend, refused, bulk, seq, rfl, -⟩ := h
  rfl

theorem Decides.trans {m n : Nat} {L M N : Live} (h : Decides m L M) (h' : Decides n M N) : Decides (n + m) L N := by
  obtain ⟨pend, refused, bulk, seq, rfl, hcount⟩ := h
  obtain ⟨pend', refused', bulk', seq', rfl, hcount'⟩ := h'
  exact ⟨pend', refused', bulk', seq', rfl, by dsimp only at hcount'; omega⟩

/-- One value of a PDO, at a twin that is no follower: queued for the course, or refused (12 R319). -/
theorem Live.pdoWrite_cons {L : Live} (k n : Nat) (rest : List (Nat × Nat)) (data : Bytes) (h : L.follower = false) :
    ∃ M, L.pdoWrite ((k, n) :: rest) data = M.pdoWrite rest (data.drop n) ∧ Decides 1 L M := by
  obtain ⟨bulk, seq, hfwd⟩ := L.forwardOn_eq pdoSess k (data.take n)
  refine ⟨_, rfl, ?_⟩
  rw [if_neg (by simp [h])]
  dsimp only
  rw [hfwd]
  split
  · exact ⟨_, _, bulk, seq, rfl, by simp; omega⟩
  · exact ⟨_, _, bulk, seq, rfl, by simp; omega⟩

/-- A PDO decides each of its mapped values. -/
theorem Live.pdoWrite_decides {L : Live} (m : List (Nat × Nat)) (data : Bytes) (h : L.follower = false) :
    Decides m.length L (L.pdoWrite m data) := by
  induction m generalizing L data with
  | nil => exact ⟨L.ks.pend, L.ks.refused, L.twin.bulk, L.twin.fwdSeq, rfl, rfl⟩
  | cons x rest ih =>
    obtain ⟨M, hM, hone⟩ := Live.pdoWrite_cons x.1 x.2 rest data h
    rw [hM]
    exact hone.trans (ih (data.drop x.2) (hone.follower.trans h))

theorem rpdoRx_decides {s : State} {bus : Fin 2} {n : Fin 4} {data : Bytes} (hw : Works 4 s.live) (hnmt : s.live.com.nmt = 5)
    (hfollower : s.live.follower = false) (htakes : s.live.takesRpdo bus n data.length = true)
    (hlong : ((s.live.pdoMap (0x1600 + n.val)).map (·.2)).foldl (· + ·) 0 ≤ data.length) :
    Answers (.rpdoRx bus n data) s (Decides (s.live.pdoMap (0x1600 + n.val)).length s.live) := by
  refine answers_of_runIn hw (exec_rpdoRx bus n data s) ?_
  dsimp only
  rw [if_neg (by simp [hnmt, htakes, hlong])]
  exact Live.pdoWrite_decides _ data hfollower

/-- Settles O25: each target of a filter, and each of the three other rows, is its own lemma above. -/
theorem framesReceivedAreFiled : Obligations.FramesReceivedAreFiled := by
  refine ⟨?_, ?_, ?_, ?_, ?_, ?_, ?_, ?_, ?_, ?_⟩
  · exact fun s bus f sof hw hlen hdata hon htarget hroom => canFrameRx_general sof hw hlen hdata hon htarget hroom
  · exact fun s bus f sof hw hdata hon htarget => canFrameRx_rejected sof hw hdata hon htarget
  · exact fun s bus f sof h => (exec_canFrameRx bus f sof s).trans (runIn_of_fixed (Live.canAccept_ignores sof h))
  · exact fun s bus f sof hw hdata hon htarget hroom => canFrameRx_logic sof hw hdata hon htarget hroom
  · intro s bus f sof hw hlen hdata hon htarget hfree
    have hplaced := Live.canAccept_eq sof hdata hon
    obtain htarget | htarget := htarget
    · rw [htarget] at hplaced ⊢
      exact canFrameRx_hpb sof (n := 0) hw hlen hplaced hfree
    · rw [htarget] at hplaced ⊢
      exact canFrameRx_hpb sof (n := 1) hw hlen hplaced hfree
  · exact fun s bus node nmt hp hlisten hfirst hid hnode => heartbeatRx_duplicate nmt hp hlisten hfirst hid hnode
  · exact fun s bus node nmt h => heartbeatRx_ignored bus nmt h
  · exact fun s bus k inv data hw hlen => srdoRx_files bus k inv data hw hlen
  · intro s bus n data hw hnmt hfollower htakes hlong
    obtain ⟨L, hL, pend, refused, bulk, seq, rfl, hcount⟩ := rpdoRx_decides hw hnmt hfollower htakes hlong
    exact ⟨_, hL, hcount, rfl⟩
  · intro s bus n data h
    rw [exec_rpdoRx]
    refine runIn_of_fixed (if_pos ?_)
    obtain h | h := h <;> simp [h]

end Sys2Proof.Machine
end

section
/-! Values that the dictionary computes: the identity (12 R312) and the safety set's image and CRC (12 R330). -/

namespace Sys2Proof.Machine

open Sys2Proof

/-! ### The identity -/

/-- Each entry of 0x1018 reads its part of the identity. -/
theorem Live.num_identity (L : Live) {sub : Nat} (h : sub < 256) : L.num (0x101800 + sub) = L.identity sub := by
  have hidx : (0x101800 + sub) / 256 = 0x1018 := by omega
  have hsub : (0x101800 + sub) % 256 = sub := by omega
  simp [Live.num, Live.computed, hidx, hsub]

/-- The running version is held in the dictionary, and not computed. -/
theorem Live.numN_version (L : Live) : L.numN 0x480005 = L.getN 0x480005 := rfl

/-- Settles O59: the identity's parts, its revision being the running version. -/
theorem identityObjects : Obligations.IdentityObjects := fun L =>
  ⟨L.num_identity (sub := 1) (by decide), L.num_identity (sub := 2) (by decide),
    (L.num_identity (sub := 3) (by decide)).trans (congrArg Nat.cast L.numN_version.symm),
    L.num_identity (sub := 4) (by decide), apply_ite ascii _ _ _⟩

/-! ### The safety set -/

theorem length_leBytes (n v : Nat) : (leBytes n v).length = n := by
  induction n generalizing v with
  | zero => rfl
  | succ n ih => rw [leBytes, List.length_cons, ih]

theorem Live.num_activeCrc (L : Live) : L.num 0x400005 = (L.activeCrc : Nat) := by simp [Live.num, Live.computed]

theorem Live.num_editCrc (L : Live) : L.num 0x400006 = (L.editCrc : Nat) := by simp [Live.num, Live.computed]

theorem Live.bytesOf_editImage {L : Live} {e : EditCopy} (h : L.ks.edit = some e) : L.bytesOf 0x400010 = L.editImage e := by
  simp [Live.bytesOf, h]

theorem Live.editCrc_eq {L : Live} {e : EditCopy} (h : L.ks.edit = some e) : L.editCrc = crc32c (L.editImage e) := by
  rw [Live.editCrc, h]

/-- The set's table lists its objects in ascending index, then subindex. -/
theorem safetyObjs_ascending : (safetyObjs.map (·.1)).Pairwise (· < ·) := by decide +kernel

/-- Settles O60: the table of the set ascends, and the three objects read its serialisation. -/
theorem safetySetIsSerialised : Obligations.SafetySetIsSerialised := by
  refine ⟨safetyObjs_ascending, fun o _ v => ⟨length_leBytes _ _, rfl⟩, fun L => ?_, fun L e he => ?_⟩
  · rw [L.num_activeCrc, Live.activeCrc, setImage]
  · have himage := Live.bytesOf_editImage he
    refine ⟨?_, ?_⟩
    · rw [himage, Live.editImage, setImage]
      rfl
    · rw [L.num_editCrc, Live.editCrc_eq he, himage]

end Sys2Proof.Machine
end

section
/-! The edit copy at a standby twin (01 R19; 12 R329): the write of a safety parameter goes to the active twin. -/

namespace Sys2Proof.Machine

open Sys2Proof

/-- A safety parameter belongs to the pair (15 R393): a standby twin passes its write on. -/
theorem safetyParamWrite_follower {s : State} {sess : Sess} {index sub : Nat} (value : Bytes) (hp : s.live.powered = true)
    (hserves : s.live.serves sess = true) (hfollower : s.live.follower = true)
    (hpair : isTwinLocalWrite (index * 256 + sub) = false) :
    exec (.safetyParamWrite sess index sub value) s =
      .next { s with live := (s.live.touch sess).passOn sess (index * 256 + sub) value } := by
  change execSafetyParamWrite sess index sub value s = _
  rw [execSafetyParamWrite, run_of_powered _ hp, Live.asWrite_follower _ _ hserves hfollower hpair]

theorem Live.edit_passOn (L : Live) (sess : Sess) (k : Nat) (v : Bytes) : (L.passOn sess k v).ks.edit = L.ks.edit := rfl

/-- Refutes O34, the clause of a SAFETY_PARAM_WRITE that is stored: it asks that the session is served and the arrival checks are passed,
and not that the write has reached the active twin. A session of CAN writes 0x4020:01 at a standby twin that holds no edit copy. By 01 R19
the twin passes the write on, and opens none. -/
theorem not_safetySetIsEditedAndConfirmed : ¬ Obligations.SafetySetIsEditedAndConfirmed := by
  rintro ⟨hWrite, -⟩
  have hnone : (standbyTwin.live.touch 0x1001).ks.edit = none := by decide
  obtain ⟨howner, -⟩ := of_answers
    (safetyParamWrite_follower (leBytes 2 40000) (by decide) (by decide) (by decide) (by decide))
    (hWrite standbyTwin 0x1001 0x4020 1 (leBytes 2 40000) (by decide) (by decide) (by decide) (by decide +kernel)
      (by simp [hnone]))
  rw [Live.edit_passOn, hnone] at howner
  exact absurd howner (by decide)

end Sys2Proof.Machine
end

section
/-! What is held of a session (12 R315): after a request, after a change, and after a refusal. -/

namespace Sys2Proof.Machine

open Sys2Proof

/-! ### The table of sessions -/

/-- A change of the session sess alone, which keeps its identity, is found in what is listed under that identity. -/
theorem find_session_map (l : List Session) (sess : Sess) {f : Session → Session} (hf : ∀ x, (f x).id = x.id) :
    (l.map (fun x => if x.id == sess then f x else x)).find? (fun x => x.id == sess) = (l.find? (fun x => x.id == sess)).map f := by
  induction l with
  | nil => rfl
  | cons x xs ih =>
    by_cases h : x.id = sess
    · simp [h, hf]
    · simpa [h] using ih

theorem Live.session_modSession (L : Live) (sess : Sess) {f : Session → Session} (hf : ∀ x, (f x).id = x.id) :
    (L.modSession sess f).session sess = (L.session sess).map f := find_session_map L.ks.sessions sess hf

theorem Live.session_modSession_held {L : Live} {sess : Sess} {x : Session} (f : Session → Session) (hf : ∀ x, (f x).id = x.id)
    (hx : L.session sess = some x) : (L.modSession sess f).session sess = some (f x) := by
  rw [L.session_modSession sess hf, hx]
  rfl

/-- A session that asks is held. -/
theorem Live.session_touch_isSome (L : Live) (sess : Sess) : ((L.touch sess).session sess).isSome = true := by
  unfold Live.touch
  split
  · next x hx =>
    have hmap := find_session_map L.ks.sessions sess (f := fun x => { x with lastReq := L.time.clk }) fun _ => rfl
    rw [Live.session, hmap]
    simpa [Live.session] using congrArg Option.isSome hx
  · simp [Live.session]

theorem Live.mirrorsOut_touch (L : Live) (sess : Sess) : (L.touch sess).mirrorsOut = L.mirrorsOut := by
  obtain ⟨ss, ed, htouch⟩ := L.touch_eq sess
  rw [htouch]
  rfl

/-! ### Refusals -/

/-- A write of this twin's own session that is refused on arrival counts, and is refused at its entry, 0 for none. -/
theorem Live.refuseWrite_here (L : Live) (sess : Sess) (k pos : Nat) (code : Abort) :
    L.refuseWrite sess false k pos code =
      ({ L with ks := { L.ks with refused := L.ks.refused + 1 } } : Live).refuseEntry sess pos code := by
  by_cases h : pos = 0
  · subst h
    rfl
  · simp [Live.refuseWrite, h]

/-- R is L once a write of a session of CAN has been refused on arrival: it is counted, answered once, and its code and the entry that
failed stand for the session (12 R326, R334). -/
structure RefusedOnArrival (sess : Sess) (pos : Nat) (code : Abort) (L R : Live) : Prop where
  lastAbort : (R.session sess).map (·.lastAbort) = some code
  refusedEntry : (R.session sess).map (·.refusedEntry) = some pos
  frame : ∃ ss ed n bs, R = { L with
    ks := { L.ks with sessions := ss, edit := ed, refused := L.ks.refused + 1 }
    com := { L.com with num := n, bus := bs }
    out := .answer sess code [] :: L.out }

theorem Live.refuseEntry_can {L : Live} {sess : Sess} {x : Session} (pos : Nat) (code : Abort) (h : iface sess = 1)
    (hx : L.session sess = some x) :
    (L.refuseEntry sess pos code).session sess = some { x with lastAbort := code, refusedEntry := pos } ∧
      ∃ ss n bs, L.refuseEntry sess pos code = { L with
        ks := { L.ks with sessions := ss }
        com := { L.com with num := n, bus := bs }
        out := .answer sess code [] :: L.out } := by
  obtain ⟨n, bs, e⟩ := (L.modSession sess fun y => { y with lastAbort := code, refusedEntry := pos }).answer_can code [] h
  refine ⟨?_, _, n, bs, e⟩
  rw [Live.refuseEntry, e]
  exact Live.session_modSession_held (fun y => { y with lastAbort := code, refusedEntry := pos }) (fun _ => rfl) hx

theorem Live.refuseWrite_touch (L : Live) {sess : Sess} (k pos : Nat) (code : Abort) (h : iface sess = 1) :
    RefusedOnArrival sess pos code L ((L.touch sess).refuseWrite sess false k pos code) := by
  obtain ⟨x, hx⟩ := Option.isSome_iff_exists.mp (L.session_touch_isSome sess)
  obtain ⟨ss, ed, htouch⟩ := L.touch_eq sess
  obtain ⟨hsession, ss', n, bs, e⟩ := Live.refuseEntry_can
    (L := { L.touch sess with ks := { (L.touch sess).ks with refused := (L.touch sess).ks.refused + 1 } }) pos code h hx
  rw [Live.refuseWrite_here]
  refine ⟨by rw [hsession]; rfl, by rw [hsession]; rfl, ss', ed, n, bs, ?_⟩
  rw [e, htouch]

end Sys2Proof.Machine
end

section
/-! Writes and transactions that arrive (12 R319, R321, R326; 01 R19; 03 R55). -/

namespace Sys2Proof.Machine

open Sys2Proof

/-! ### At the keystone that decides -/

/-- A write at a twin that leads its pair and mirrors nothing is decided there, under no sequence. -/
theorem Live.write_touch {L : Live} (sess : Sess) (k : Nat) (v : Bytes) (hown : L.follower = false) (halone : L.mirrorsOut = false) :
    (L.touch sess).write sess false k v = (L.touch sess).writeHere sess ((L.touch sess).levelOf sess) false k v none := by
  simp [Live.write, Live.writeAt, Live.forwardOn, L.follower_touch, L.mirrorsOut_touch, hown, halone]

theorem Live.writeHere_queues {L : Live} {sess : Sess} {level k : Nat} {v : Bytes} {fwd : Option Nat} (hk : k ≠ 0x210010)
    (hpass : L.arrivalAt level (k / 256) (k % 256) v = none) (hroom : L.ks.commands < 16) :
    L.writeHere sess level false k v fwd = L.queueWrite sess level false k v none fwd := by
  simp [Live.writeHere, hk, hpass, Live.overLimit, hroom]

theorem Live.writeHere_refuses {L : Live} {sess : Sess} {level k : Nat} {v : Bytes} {fwd : Option Nat} {e : Abort} (hk : k ≠ 0x210010)
    (hfail : L.arrivalAt level (k / 256) (k % 256) v = some e) :
    L.writeHere sess level false k v fwd = L.refuseWrite sess false k 0 e := by
  simp [Live.writeHere, hk, hfail]

theorem Live.writeHere_transaction (L : Live) (sess : Sess) (level : Nat) (v : Bytes) (fwd : Option Nat) :
    L.writeHere sess level false 0x210010 v fwd = L.txnWrite sess level false v fwd := rfl

/-- The arrival checks of an object are those of its key. -/
theorem Live.arrivalAt_key (L : Live) (level index : Nat) {sub : Nat} (v : Bytes) (h : sub < 256) :
    L.arrivalAt level ((index * 256 + sub) / 256) ((index * 256 + sub) % 256) v = L.arrivalAt level index sub v := by
  have hindex : (index * 256 + sub) / 256 = index := by omega
  have hsub : (index * 256 + sub) % 256 = sub := by omega
  rw [hindex, hsub]

/-! ### OD_WRITE -/

section Rows

variable {s : State} {sess : Sess}

theorem exec_odWrite (sess : Sess) (via : Bool) (index sub : Nat) (value : Bytes) (s : State) :
    exec (.odWrite sess via index sub value) s = execOdWrite sess via index sub value s := rfl

theorem exec_transaction (sess : Sess) (via : Bool) (image : Bytes) (s : State) :
    exec (.transaction sess via image) s = execTransaction sess via image s := rfl

/-- A write that the module serves, at a twin that leads its pair and mirrors nothing, leaves what its keystone makes of it. -/
theorem odWrite_leaves {index sub : Nat} {value : Bytes} {P : Live → Prop} (hg : Granted sess 0 s.live) (hboot : s.live.mode.st ≠ .boot)
    (halone : s.live.mirrorsOut = false)
    (hP : P ((s.live.touch sess).writeHere sess ((s.live.touch sess).levelOf sess) false (index * 256 + sub) value none)) :
    Answers (.odWrite sess false index sub value) s P := by
  obtain ⟨hp, hserves, -, -, hown, -⟩ := hg
  refine answers_of_run hp (exec_odWrite sess false index sub value s) ?_
  rw [if_neg (by simp [hboot, hserves]), Live.write_touch sess _ value hown halone]
  exact hP

/-- The same for a transaction. -/
theorem transaction_leaves {image : Bytes} {P : Live → Prop} (hg : Granted sess 0 s.live) (hboot : s.live.mode.st ≠ .boot)
    (halone : s.live.mirrorsOut = false)
    (hP : P ((s.live.touch sess).txnWrite sess ((s.live.touch sess).levelOf sess) false image none)) :
    Answers (.transaction sess false image) s P := by
  obtain ⟨hp, hserves, -, -, hown, -⟩ := hg
  refine answers_of_run hp (exec_transaction sess false image s) ?_
  rw [if_neg (by simp [hboot, hserves]), Live.write_touch sess _ image hown halone, Live.writeHere_transaction]
  exact hP

theorem odWrite_queues {index sub : Nat} {value : Bytes} (hg : Granted sess 0 s.live) (hboot : s.live.mode.st ≠ .boot)
    (halone : s.live.mirrorsOut = false) (hk : index * 256 + sub ≠ 0x210010) (hsub : sub < 256)
    (hpass : (s.live.touch sess).arrival sess index sub value = none) :
    Answers (.odWrite sess false index sub value) s (fun L =>
      L.ks.pend = s.live.ks.pend ++ [{
        sess := sess, via := false, key := index * 256 + sub, val := value, txn := none, fwd := none
        level := (s.live.touch sess).levelOf sess }] ∧
      L.ks.refused = s.live.ks.refused ∧
      L.ks.commands = s.live.ks.commands + (if isCommandObject (index * 256 + sub) then 1 else 0) ∧
      { L with ks := s.live.ks } = s.live) := by
  refine odWrite_leaves hg hboot halone ?_
  obtain ⟨-, -, -, hroom, -, -⟩ := hg
  obtain ⟨ss, ed, htouch⟩ := s.live.touch_eq sess
  have hroom' : (s.live.touch sess).ks.commands < 16 := by rw [htouch]; exact hroom
  rw [Live.writeHere_queues hk ((Live.arrivalAt_key _ _ _ _ hsub).trans hpass) hroom', Live.queueWrite]
  generalize (s.live.touch sess).levelOf sess = level
  rw [htouch]
  exact ⟨rfl, rfl, rfl, rfl⟩

theorem odWrite_refused {index sub : Nat} {value : Bytes} {e : Abort} (hg : Granted sess 0 s.live) (hboot : s.live.mode.st ≠ .boot)
    (halone : s.live.mirrorsOut = false) (hk : index * 256 + sub ≠ 0x210010) (hsub : sub < 256) (hi : iface sess = 1)
    (hfail : (s.live.touch sess).arrival sess index sub value = some e) :
    Answers (.odWrite sess false index sub value) s (RefusedOnArrival sess 0 e s.live) := by
  refine odWrite_leaves hg hboot halone ?_
  rw [Live.writeHere_refuses hk ((Live.arrivalAt_key _ _ _ _ hsub).trans hfail)]
  exact s.live.refuseWrite_touch _ 0 e hi

theorem odWrite_notServed (via : Bool) (index sub : Nat) (value : Bytes)
    (h : s.live.powered = false ∨ s.live.mode.st = .boot ∨ s.live.serves sess = false) :
    exec (.odWrite sess via index sub value) s = .next s := by
  rw [exec_odWrite]
  rcases h with h | h | h <;> simp [execOdWrite, run, h]

/-! ### TRANSACTION -/

/-- The entries of a transaction wait in order, each with its place in it. -/
theorem Live.foldl_queueWrite (sess : Sess) (level : Nat) (txn : Option Nat) (es : List (Nat × Bytes)) (L : Live) :
    ∃ n, es.foldl (fun L e => L.queueWrite sess level false e.1 e.2 txn none) L = { L with ks := { L.ks with
      pend := L.ks.pend ++ es.map (fun e =>
        { sess := sess, via := false, key := e.1, val := e.2, txn := txn, fwd := none, level := level })
      commands := n } } := by
  induction es generalizing L with
  | nil => exact ⟨L.ks.commands, by simp⟩
  | cons e es ih =>
    obtain ⟨n, hn⟩ := ih (L.queueWrite sess level false e.1 e.2 txn none)
    refine ⟨n, hn.trans ?_⟩
    simp [Live.queueWrite]

theorem Live.txnWrite_malformed {L : Live} {image : Bytes} (level : Nat) (hparse : parseTxn image = none) :
    L.txnWrite sess level false image none = L.refuseWrite sess false 0x210010 0 abMalformed := by
  simp [Live.txnWrite, hparse]

theorem Live.txnWrite_refuses {L : Live} {image : Bytes} {level flags tag base pos : Nat} {es : List (Nat × Bytes)} {e : Abort}
    (hparse : parseTxn image = some (flags, tag, base, es)) (hfail : L.txnArrivalAt level 1 L.ks.commands es = some (pos, e)) :
    L.txnWrite sess level false image none = L.refuseWrite sess false 0x210010 pos e := by
  simp [Live.txnWrite, hparse, hfail]

theorem Live.txnWrite_queues {L : Live} {image : Bytes} {level flags tag base : Nat} {es : List (Nat × Bytes)}
    (hparse : parseTxn image = some (flags, tag, base, es)) (hpass : L.txnArrivalAt level 1 L.ks.commands es = none) :
    ∃ n, L.txnWrite sess level false image none = { L with ks := { L.ks with
      txns := L.ks.txns ++
        [{ num := L.ks.txns.length + 1, sess := sess, flags := flags, tag := tag, base := base, via := false }]
      pend := L.ks.pend ++ es.map (fun e =>
        { sess := sess, via := false, key := e.1, val := e.2, txn := some (L.ks.txns.length + 1), fwd := none, level := level })
      commands := n } } := by
  simp only [Live.txnWrite, hparse, hpass]
  exact Live.foldl_queueWrite sess level _ es _

/-- The commands that the course has taken are those before the request. -/
theorem Live.txnArrival_touch {L : Live} {es : List (Nat × Bytes)} {r : Option (Nat × Abort)}
    (h : (L.touch sess).txnArrival sess 1 L.ks.commands es = r) :
    (L.touch sess).txnArrivalAt ((L.touch sess).levelOf sess) 1 (L.touch sess).ks.commands es = r := by
  have hcommands : (L.touch sess).ks.commands = L.ks.commands := by
    obtain ⟨ss, ed, htouch⟩ := L.touch_eq sess
    rw [htouch]
  rw [hcommands]
  exact h

theorem transaction_malformed {image : Bytes} (hg : Granted sess 0 s.live) (hboot : s.live.mode.st ≠ .boot)
    (halone : s.live.mirrorsOut = false) (hi : iface sess = 1) (hparse : parseTxn image = none) :
    Answers (.transaction sess false image) s (RefusedOnArrival sess 0 abMalformed s.live) := by
  refine transaction_leaves hg hboot halone ?_
  rw [Live.txnWrite_malformed _ hparse]
  exact s.live.refuseWrite_touch _ 0 abMalformed hi

theorem transaction_refused {image : Bytes} {flags tag base pos : Nat} {es : List (Nat × Bytes)} {e : Abort}
    (hg : Granted sess 0 s.live) (hboot : s.live.mode.st ≠ .boot) (halone : s.live.mirrorsOut = false) (hi : iface sess = 1)
    (hparse : parseTxn image = some (flags, tag, base, es))
    (hfail : (s.live.touch sess).txnArrival sess 1 s.live.ks.commands es = some (pos, e)) :
    Answers (.transaction sess false image) s (RefusedOnArrival sess pos e s.live) := by
  refine transaction_leaves hg hboot halone ?_
  rw [Live.txnWrite_refuses hparse (Live.txnArrival_touch hfail)]
  exact s.live.refuseWrite_touch _ pos e hi

theorem transaction_queues {image : Bytes} {flags tag base : Nat} {es : List (Nat × Bytes)} (hg : Granted sess 0 s.live)
    (hboot : s.live.mode.st ≠ .boot) (halone : s.live.mirrorsOut = false) (hparse : parseTxn image = some (flags, tag, base, es))
    (hpass : (s.live.touch sess).txnArrival sess 1 s.live.ks.commands es = none) :
    Answers (.transaction sess false image) s (fun L =>
      L.ks.txns = s.live.ks.txns ++
        [{ num := s.live.ks.txns.length + 1, sess := sess, flags := flags, tag := tag, base := base, via := false }] ∧
      L.ks.pend = s.live.ks.pend ++ es.map (fun e => {
        sess := sess, via := false, key := e.1, val := e.2, txn := some (s.live.ks.txns.length + 1), fwd := none
        level := (s.live.touch sess).levelOf sess }) ∧
      L.ks.refused = s.live.ks.refused ∧ { L with ks := s.live.ks } = s.live) := by
  refine transaction_leaves hg hboot halone ?_
  obtain ⟨n, e⟩ := Live.txnWrite_queues (sess := sess) hparse (Live.txnArrival_touch hpass)
  rw [e]
  generalize (s.live.touch sess).levelOf sess = level
  obtain ⟨ss, ed, htouch⟩ := s.live.touch_eq sess
  rw [htouch]
  exact ⟨rfl, rfl, rfl, rfl⟩

/-! ### A command's row at a standby, and under the golden image -/

/-- A request passed on to the active twin waits for its answer, and changes nothing else but the sessions and what goes to the partner. -/
theorem Live.passOn_touch (L : Live) (sess : Sess) (k : Nat) (v : Bytes) :
    ∃ ss ed bulk seq, (L.touch sess).passOn sess k v = { L with
      ks := { L.ks with sessions := ss, edit := ed, forwarded := L.ks.forwarded ++ [(sess, k)] }
      twin := { L.twin with bulk := bulk, fwdSeq := seq } } := by
  have hpass : ∀ M : Live, ∃ bulk seq, M.passOn sess k v = { M with
      ks := { M.ks with forwarded := M.ks.forwarded ++ [(sess, k)] }
      twin := { M.twin with bulk := bulk, fwdSeq := seq } } := fun M => ⟨_, _, rfl⟩
  obtain ⟨bulk, seq, e⟩ := hpass (L.touch sess)
  obtain ⟨ss, ed, htouch⟩ := L.touch_eq sess
  rw [e, htouch]
  exact ⟨ss, ed, bulk, seq, rfl⟩

/-- At a standby twin the row of a command that is the pair's passes it on, whatever its level and its effect are. -/
theorem answers_of_command_follower {c : Instr} {level k : Nat} {v : Bytes} {f : Live → Live × Abort} {P : Live → Prop}
    (hc : exec c s = run s (fun L => L.command sess level k v f)) (hserved : Served sess 0 s.live) (hfollower : s.live.follower = true)
    (hpair : isTwinLocalWrite k = false)
    (hP : ∀ ss ed bulk seq, P { s.live with
      ks := { s.live.ks with sessions := ss, edit := ed, forwarded := s.live.ks.forwarded ++ [(sess, k)] }
      twin := { s.live.twin with bulk := bulk, fwdSeq := seq } }) : Answers c s P := by
  obtain ⟨hp, hserves, -⟩ := hserved
  refine answers_of_run hp hc ?_
  rw [Live.command, Live.asWrite_follower _ _ hserves hfollower hpair]
  obtain ⟨ss, ed, bulk, seq, e⟩ := s.live.passOn_touch sess k v
  rw [e]
  exact hP ss ed bulk seq

theorem exec_tableCmdEraseBank (sess : Sess) (s : State) :
    exec (.tableCmdEraseBank sess) s = run s (fun L => L.command sess 3 0x380006 (leBytes 1 2)
      (fun L => L.orAbort (L.cmdTable 2 (L.time.mtime + 200000)))) := rfl

theorem Live.refuseArrival_answeredTo (L : Live) (sess : Sess) (code : Abort) : AnsweredTo sess code L (L.refuseArrival sess code) := by
  obtain ⟨hout, ks, out, mgr, dbg, num, bus, e⟩ :=
    (({ L with ks := { L.ks with refused := L.ks.refused + 1 } } : Live).modSession sess
      fun x => { x with lastAbort := code, refusedEntry := 0 }).answer_answeredTo sess code
  exact ⟨hout, ks, out, mgr, dbg, num, bus, e⟩

/-- The golden image refuses a command that it does not take, before its level is looked at. -/
theorem Live.command_golden {L : Live} {k : Nat} (level : Nat) (v : Bytes) (f : Live → Live × Abort) (hserves : L.serves sess = true)
    (hown : L.follower = false) (hgolden : L.goldenRefuses k = true) :
    L.command sess level k v f = (L.arrived sess k v).refuseArrival sess abState := by
  have hfollower : ¬((L.touch sess).follower = true ∧ (!isTwinLocalWrite k) = true) := by simp [L.follower_touch, hown]
  have hgolden' : (L.arrived sess k v).goldenRefuses k = true := by
    rw [Live.goldenRefuses, (L.arrived_prepared sess k v).getN]
    exact hgolden
  unfold Live.arrived at hgolden'
  unfold Live.command Live.asWrite Live.asked
  rw [if_pos hserves]
  dsimp only
  rw [if_neg hfollower]
  simp only [hgolden', if_true]
  rfl

theorem tableCmdEraseBank_golden (hserved : Served sess 0 s.live) (hown : s.live.follower = false) (hgolden : s.live.getN 0x20000D = 2) :
    Answers (.tableCmdEraseBank sess) s (fun L => Replied sess abState L ∧ L.blob = s.live.blob ∧ L.obj = s.live.obj ∧
      { L with
        ks := s.live.ks, out := s.live.out, mgr := s.live.mgr, dbg := s.live.dbg
        com := { L.com with num := s.live.com.num, bus := s.live.com.bus }
        twin := { L.twin with bulk := s.live.twin.bulk, fwdSeq := s.live.twin.fwdSeq } } = s.live) := by
  obtain ⟨hp, hserves, -⟩ := hserved
  refine answers_of_run hp (exec_tableCmdEraseBank sess s) ?_
  rw [Live.command_golden 3 _ _ hserves hown (by simp [Live.goldenRefuses, hgolden])]
  obtain ⟨ss, ed, n, bulk, seq, hM⟩ := s.live.arrived_prepared sess 0x380006 (leBytes 1 2)
  obtain ⟨hout, ks, out, mgr, dbg, num, bus, hR⟩ := (s.live.arrived sess 0x380006 (leBytes 1 2)).refuseArrival_answeredTo sess abState
  refine ⟨hout, ?_⟩
  rw [hR, hM]
  exact ⟨rfl, rfl, rfl⟩

end Rows

/-- Settles O32: each row is its own lemma above; the two commands at a standby share one. -/
theorem writesArriveAtTheKeystone : Obligations.WritesArriveAtTheKeystone := by
  refine ⟨?_, ?_, ?_, ?_, ?_, ?_, ?_, ?_, ?_⟩
  · exact fun s sess index sub value hg hboot _ halone hk hsub hpass => odWrite_queues hg hboot halone hk hsub hpass
  · intro s sess index sub value e hg hboot _ halone hk hsub hi hfail
    obtain ⟨L, hL, hlast, -, ss, ed, n, bs, rfl⟩ := odWrite_refused hg hboot halone hk hsub hi hfail
    exact ⟨_, hL, rfl, rfl, rfl, hlast, rfl⟩
  · exact fun s sess via index sub value h => odWrite_notServed via index sub value h
  · intro s sess image hg hboot _ halone hi hparse
    obtain ⟨L, hL, -, -, ss, ed, n, bs, rfl⟩ := transaction_malformed hg hboot halone hi hparse
    exact ⟨_, hL, rfl, rfl, rfl, rfl, rfl⟩
  · exact fun s sess image flags tag base es hg hboot _ halone hparse hpass => transaction_queues hg hboot halone hparse hpass
  · intro s sess image flags tag base es pos e hg hboot _ halone hi hparse hfail
    obtain ⟨L, hL, -, hentry, ss, ed, n, bs, rfl⟩ := transaction_refused hg hboot halone hi hparse hfail
    exact ⟨_, hL, rfl, rfl, rfl, rfl, hentry, rfl⟩
  · exact fun s sess hserved hfollower => answers_of_command_follower (exec_cmdEnable sess s) hserved hfollower (by decide)
      fun _ _ _ _ => ⟨rfl, rfl, rfl, rfl, rfl⟩
  · exact fun s sess hserved hfollower => answers_of_command_follower (exec_tableCmdEraseBank sess s) hserved hfollower (by decide)
      fun _ _ _ _ => ⟨rfl, rfl, rfl, rfl, rfl⟩
  · exact fun s sess hserved hown hgolden => tableCmdEraseBank_golden hserved hown hgolden

end Sys2Proof.Machine
end

section
/-! A granted command and the level of its session (12 R316, R317): what its row leaves, written out, and what keeps a level. -/

namespace Sys2Proof.Machine

open Sys2Proof

/-! ### What keeps a level -/

theorem Live.levelOf_debug (L : Live) {sess : Sess} (h : iface sess = 4) :
    L.levelOf sess = (L.dbg.session.map (·.1)).getD 0 := by
  rw [Live.levelOf, if_pos h]
  cases L.dbg.session <;> rfl

theorem Live.levelOf_modbus (L : Live) {sess : Sess} (h : iface sess = 3) :
    L.levelOf sess = ((L.mgr.conns.getD (sess % 256) none).map (·.level)).getD 0 := by
  rw [Live.levelOf, if_neg (by simp [h]), if_pos h]
  cases L.mgr.conns.getD (sess % 256) none <;> rfl

/-- A session that is neither the port's nor a connection's has its level in the table of sessions. -/
theorem Live.levelOf_elsewhere (L : Live) {sess : Sess} (h3 : iface sess ≠ 3) (h4 : iface sess ≠ 4) :
    L.levelOf sess = ((L.session sess).map (·.level)).getD (L.getN 0x4C0007) := by
  rw [Live.levelOf, if_neg h4, if_neg h3]
  cases L.session sess <;> rfl

theorem Live.levelOf_table (L : Live) {sess : Sess} (h : iface sess = 1 ∨ iface sess = 2) :
    L.levelOf sess = ((L.session sess).map (·.level)).getD (L.getN 0x4C0007) := L.levelOf_elsewhere (by omega) (by omega)

/-- A session of CAN that is held has the level that stands there. -/
theorem Live.levelOf_held {L : Live} {sess : Sess} {x : Session} (hi : iface sess = 1 ∨ iface sess = 2)
    (hx : L.session sess = some x) : L.levelOf sess = x.level := by
  rw [L.levelOf_table hi, hx]
  rfl

/-- A level follows from the port, the connections, the table of sessions and the objects. -/
theorem Live.levelOf_congr {A B : Live} (sess : Sess) (hdbg : A.dbg.session = B.dbg.session) (hmgr : A.mgr.conns = B.mgr.conns)
    (hks : A.ks.sessions = B.ks.sessions) (hobj : A.obj = B.obj) : A.levelOf sess = B.levelOf sess := by
  simp only [Live.levelOf, Live.session, hdbg, hmgr, hks, Live.getN_congr A B _ hobj]

/-- That of a session of CAN follows from the table and the objects. -/
theorem Live.levelOf_table_congr {A B : Live} {sess : Sess} (hi : iface sess = 1 ∨ iface sess = 2)
    (hks : A.ks.sessions = B.ks.sessions) (hobj : A.obj = B.obj) : A.levelOf sess = B.levelOf sess := by
  simp only [Live.levelOf_table _ hi, Live.session, hks, Live.getN_congr A B _ hobj]

theorem Live.levelOf_ev (L : Live) {sess : Sess} (hi : iface sess = 1 ∨ iface sess = 2) (src code cls : Nat) (key rest : Bytes) :
    (L.ev src code cls key rest).levelOf sess = L.levelOf sess :=
  Live.levelOf_table_congr hi (by simp) (by simp)

/-- A change of what is held of a session that leaves its level leaves every reading of it. -/
theorem Live.levelOf_modSession (L : Live) (sess : Sess) {f : Session → Session} (hid : ∀ x, (f x).id = x.id)
    (hlevel : ∀ x, (f x).level = x.level) : (L.modSession sess f).levelOf sess = L.levelOf sess := by
  by_cases h4 : iface sess = 4
  · rw [Live.levelOf_debug _ h4, Live.levelOf_debug _ h4]
    rfl
  by_cases h3 : iface sess = 3
  · rw [Live.levelOf_modbus _ h3, Live.levelOf_modbus _ h3]
    rfl
  rw [Live.levelOf_elsewhere _ h3 h4, Live.levelOf_elsewhere _ h3 h4, L.session_modSession sess hid]
  cases L.session sess with
  | none => rfl
  | some x => exact hlevel x

/-- The answer to a Modbus connection takes its request, and leaves its level. -/
theorem Live.levelOf_mbAnswer (L : Live) (sess : Sess) (conn abort : Nat) (data : Bytes) :
    (L.mbAnswer conn abort data).levelOf sess = L.levelOf sess := by
  unfold Live.mbAnswer
  split
  · rfl
  · next c hc =>
    split
    · rfl
    · next rest _ =>
      by_cases h3 : iface sess = 3
      · rw [Live.levelOf_modbus _ h3, Live.levelOf_modbus _ h3]
        by_cases hconn : conn = sess % 256
        · have hlen : sess % 256 < L.mgr.conns.length := by
            by_contra hge
            simp [List.getD_eq_getElem?_getD, hconn, Nat.not_lt.mp hge] at hc
          rw [← hconn, hc]
          simp [Live.emit, List.getD_eq_getElem?_getD, hconn, hlen]
        · simp [Live.emit, List.getD_eq_getElem?_getD, hconn]
      · simp [Live.levelOf, Live.emit, Live.session, Live.getN, Live.get, h3]

theorem Live.levelOf_answer (L : Live) (sess : Sess) (abort : Nat) (data : Bytes) :
    (L.answer sess abort data).levelOf sess = L.levelOf sess := by
  unfold Live.answer
  split
  · exact L.levelOf_mbAnswer sess _ abort data
  · split
    · unfold Live.dbgAnswer
      split <;> exact Live.levelOf_congr sess rfl rfl rfl rfl
    · unfold Live.canAnswer
      dsimp only
      split <;> exact Live.levelOf_congr sess rfl rfl rfl rfl

theorem Live.levelOf_finish (x : Live × Abort) (sess : Sess) : (Live.finish x sess).levelOf sess = x.1.levelOf sess := by
  unfold Live.finish
  split
  · exact x.1.levelOf_answer sess 0 []
  · rw [Live.refuse, Live.levelOf_answer]
    exact x.1.levelOf_modSession sess (fun _ => rfl) fun _ => rfl

theorem Live.levelOf_noteDone (L : Live) (sess : Sess) (k : Nat) (v : Bytes) (fwd : Option Nat) (code : Abort) :
    (L.noteDone sess k v fwd code).levelOf sess = L.levelOf sess := by
  unfold Live.noteDone
  split <;> rfl

/-! ### The row of a granted command -/

/-- The block as the effect of a command of a session finds it. -/
abbrev Live.called (L : Live) (sess : Sess) (k : Nat) (v : Bytes) : Live := (L.arrived sess k v).counted

theorem Live.called_prepared (L : Live) (sess : Sess) (k : Nat) (v : Bytes) : Prepared L (L.called sess k v) :=
  (L.arrived_prepared sess k v).counted

/-- The effect finds the session as its request has left it. -/
theorem Live.session_called (L : Live) (sess : Sess) (k : Nat) (v : Bytes) :
    (L.called sess k v).session sess = (L.touch sess).session sess := by
  obtain ⟨bulk, seq, e⟩ := (L.touch sess).forwardOn_eq sess k v
  rw [Live.called, Live.arrived, e]
  rfl

theorem Live.levelOf_called (L : Live) (sess : Sess) (k : Nat) (v : Bytes) :
    (L.called sess k v).levelOf sess = (L.touch sess).levelOf sess := (L.touch sess).levelOf_forwardOn sess k v

/-- A granted command runs its effect, is answered, and its verdict is kept where the request was forwarded. -/
theorem Live.command_granted {L : Live} {sess : Sess} {level : Nat} (h : Granted sess level L) (k : Nat) (v : Bytes)
    (f : Live → Live × Abort) :
    L.command sess level k v f = (Live.finish (f (L.called sess k v)) sess).noteDone sess k v
      ((L.touch sess).forwardOn sess k v).2 (f (L.called sess k v)).2 := by
  obtain ⟨-, hserves, hlevel, hroom, hown, himage⟩ := h
  have hfollower : ¬((L.touch sess).follower = true ∧ (!isTwinLocalWrite k) = true) := by simp [L.follower_touch, hown]
  have hgolden : ((L.touch sess).forwardOn sess k v).1.goldenRefuses k = false :=
    Live.goldenRefuses_of_not_golden ((L.arrived_prepared sess k v).getN 0x20000D ▸ himage) k
  have hlow : ¬((L.touch sess).forwardOn sess k v).1.levelOf sess < level := by
    rw [Live.levelOf_forwardOn]
    exact Nat.not_lt.mpr hlevel
  have hfull : ¬16 ≤ ((L.touch sess).forwardOn sess k v).1.ks.commands := by
    rw [Live.commands_forwardOn_touch]
    exact Nat.not_le.mpr hroom
  unfold Live.command Live.asWrite Live.asked
  rw [if_pos hserves]
  dsimp only
  rw [if_neg hfollower]
  simp only [hgolden, Bool.false_eq_true, if_false, hlow, hfull]
  rfl

/-- After a granted command its session has the level that the effect leaves it. -/
theorem Live.levelOf_command {L : Live} {sess : Sess} {level : Nat} (h : Granted sess level L) (k : Nat) (v : Bytes)
    (f : Live → Live × Abort) : (L.command sess level k v f).levelOf sess = (f (L.called sess k v)).1.levelOf sess := by
  rw [Live.command_granted h, Live.levelOf_noteDone, Live.levelOf_finish]

/-- A session of CAN is answered through the outbox and a transmit ring, over SDO as over USDO. -/
theorem Live.answer_bus (L : Live) {sess : Sess} (abort : Nat) (data : Bytes) (h : iface sess = 1 ∨ iface sess = 2) :
    ∃ n bs, L.answer sess abort data = { L with
      com := { L.com with num := n, bus := bs }
      out := .answer sess abort data :: L.out } := by
  have hport : ∀ i : Nat, sess / 4096 = i → i % 16 = 1 ∨ i % 16 = 2 := by
    rintro i rfl
    exact h
  have h3 : sess / 4096 ≠ 3 := fun e => absurd (hport 3 e) (by decide)
  have h4 : sess / 4096 ≠ 4 := fun e => absurd (hport 4 e) (by decide)
  simp only [Live.answer, h3, h4, if_false, Live.canAnswer]
  split
  · exact ⟨_, _, rfl⟩
  · exact ⟨L.com.num, L.com.bus, rfl⟩

/-- The answer to a command of a session of CAN: beside the outbox and a transmit ring it changes the table of sessions at most. -/
theorem Live.finish_bus (x : Live × Abort) {sess : Sess} (h : iface sess = 1 ∨ iface sess = 2) :
    ∃ ss n bs, Live.finish x sess = { x.1 with
      ks := { x.1.ks with sessions := ss }
      com := { x.1.com with num := n, bus := bs }
      out := .answer sess x.2 [] :: x.1.out } := by
  unfold Live.finish
  split
  · next hcode =>
    obtain ⟨n, bs, e⟩ := x.1.answer_bus 0 [] h
    rw [hcode]
    exact ⟨x.1.ks.sessions, n, bs, e⟩
  · obtain ⟨n, bs, e⟩ := (x.1.modSession sess fun y => { y with lastAbort := x.2, refusedEntry := 0 }).answer_bus x.2 [] h
    exact ⟨_, n, bs, e⟩

/-- A granted command of a session of CAN leaves what its effect leaves, and its answer. -/
theorem Live.command_bus {L : Live} {sess : Sess} {level : Nat} (h : Granted sess level L) (hi : iface sess = 1 ∨ iface sess = 2)
    (k : Nat) (v : Bytes) (f : Live → Live × Abort) :
    ∃ ks n bs, L.command sess level k v f = { (f (L.called sess k v)).1 with
        ks := ks
        com := { (f (L.called sess k v)).1.com with num := n, bus := bs }
        out := .answer sess (f (L.called sess k v)).2 [] :: (f (L.called sess k v)).1.out } ∧
      (L.mirrorsOut = false → ks.pend = (f (L.called sess k v)).1.ks.pend) := by
  rw [Live.command_granted h]
  obtain ⟨ss, n, bs, e⟩ := Live.finish_bus (f (L.called sess k v)) hi
  rw [e]
  unfold Live.noteDone
  split
  · exact ⟨_, n, bs, rfl, fun _ => rfl⟩
  · next hforwarded =>
    refine ⟨_, n, bs, rfl, fun halone => absurd (.inl ?_) hforwarded⟩
    simp [Live.forwardOn, L.mirrorsOut_touch, halone]

end Sys2Proof.Machine
end

section
/-! Sessions and levels (12 R315 to R317): one lemma per row. -/

namespace Sys2Proof.Machine

open Sys2Proof

/-! ### A response to the challenge -/

/-- A wrong response counts against its session, and leaves its level. -/
theorem Live.authFail_eq (L : Live) {sess : Sess} (hi : iface sess = 1 ∨ iface sess = 2) :
    (L.authFail sess).levelOf sess = L.levelOf sess ∧
      ∃ ss rcd com dbg cap, L.authFail sess =
        { L with ks := { L.ks with sessions := ss }, rcd := rcd, com := com, dbg := dbg, cap := cap } := by
  unfold Live.authFail
  extract_lets recent
  split
  · obtain ⟨rcd, com, dbg, cap, e, -⟩ :=
      (L.modSession sess fun x => { x with fails := [], lockUntil := some (L.time.clk + sec 60) }).ev_eq 127 16 1 [] (leBytes 2 sess)
    have hlevel := L.levelOf_modSession sess
      (f := fun x => { x with fails := [], lockUntil := some (L.time.clk + sec 60) }) (fun _ => rfl) fun _ => rfl
    exact ⟨(Live.levelOf_ev _ hi _ _ _ _ _).trans hlevel, _, rcd, com, dbg, cap, e⟩
  · exact ⟨L.levelOf_modSession sess (fun _ => rfl) fun _ => rfl, _, L.rcd, L.com, L.dbg, L.cap, rfl⟩

/-- R is L once a session's response has been judged, right or wrong (12 R316). -/
structure Judged (sess : Sess) (right : Bool) (asked : Nat) (L : Live) (R : Live × Abort) : Prop where
  code : R.2 = if right then 0 else abAuth
  level : R.1.levelOf sess = if right then asked else L.levelOf sess
  frame : ∃ ss rcd com dbg cap, R.1 =
    { L with ks := { L.ks with sessions := ss }, rcd := rcd, com := com, dbg := dbg, cap := cap }

/-- A response of its length, of a session of CAN that is not locked, is judged. -/
theorem Live.cmdAuth_judged {L : Live} {sess : Sess} {x : Session} {v : Bytes} (hi : iface sess = 1 ∨ iface sess = 2)
    (hx : L.session sess = some x) (hlock : x.lockUntil = none) (hlen : v.length = 25) :
    Judged sess (L.authRight x v) (byteAt v 0) L (L.cmdAuth sess v) := by
  have hcan : ¬(iface sess ≠ 1 ∧ iface sess ≠ 2) := by omega
  by_cases hright : L.authRight x v = true
  · have heq : L.cmdAuth sess v =
        ((L.modSession sess fun x => { x with level := byteAt v 0, used := le v 1 8 :: x.used }).ev 8 5 0 []
          (leBytes 2 sess ++ leBytes 1 (byteAt v 0)), 0) := by
      simp [Live.cmdAuth, hx, hcan, hlock, hlen, hright]
    obtain ⟨rcd, com, dbg, cap, e, -⟩ := (L.modSession sess fun x =>
      { x with level := byteAt v 0, used := le v 1 8 :: x.used }).ev_eq 8 5 0 [] (leBytes 2 sess ++ leBytes 1 (byteAt v 0))
    have hsession := Live.session_modSession_held
      (fun x => { x with level := byteAt v 0, used := le v 1 8 :: x.used }) (fun _ => rfl) hx
    rw [heq, hright]
    exact ⟨rfl, (Live.levelOf_ev _ hi _ _ _ _ _).trans (Live.levelOf_held hi hsession), _, rcd, com, dbg, cap, e⟩
  · rw [Bool.not_eq_true] at hright
    have heq : L.cmdAuth sess v = (L.authFail sess, abAuth) := by
      simp [Live.cmdAuth, hx, hcan, hlock, hlen, hright]
    rw [heq, hright]
    obtain ⟨hlevel, hframe⟩ := L.authFail_eq hi
    exact ⟨rfl, hlevel, hframe⟩

/-- A locked session's response is not looked at. -/
theorem Live.cmdAuth_locked {L : Live} {sess : Sess} {x : Session} (v : Bytes) (hi : iface sess = 1 ∨ iface sess = 2)
    (hx : L.session sess = some x) (hlock : x.lockUntil.isSome = true) : L.cmdAuth sess v = (L, abLocked) := by
  have hcan : ¬(iface sess ≠ 1 ∧ iface sess ≠ 2) := by omega
  simp [Live.cmdAuth, hx, hcan, hlock]

/-- A response is judged as its request finds it: that it is forwarded and counted changes nothing of that. -/
theorem Live.authRight_called (L : Live) (sess : Sess) (k : Nat) (v : Bytes) (x : Session) (response : Bytes) :
    (L.called sess k v).authRight x response = (L.touch sess).authRight x response := by
  obtain ⟨bulk, seq, e⟩ := (L.touch sess).forwardOn_eq sess k v
  rw [Live.called, Live.arrived, e]
  rfl

section Rows

variable {s : State} {sess : Sess}

theorem exec_authResponse (sess : Sess) (response : Bytes) (s : State) :
    exec (.authResponse sess response) s = run s (fun L => L.command sess 0 0x4C0003 response (fun L => L.cmdAuth sess response)) := rfl

theorem exec_lowerLevel (sess : Sess) (level : Nat) (s : State) :
    exec (.lowerLevel sess level) s =
      run s (fun L => L.command sess 0 0x4C0004 (leBytes 1 level) (fun L => L.orAbort (L.cmdLower sess level))) := rfl

theorem exec_sessionIdleTimeout (sess : Sess) (s : State) :
    exec (.sessionIdleTimeout sess) s = execSessionIdleTimeout sess s := rfl

theorem exec_authLockExpiry (sess : Sess) (s : State) : exec (.authLockExpiry sess) s = execAuthLockExpiry sess s := rfl

theorem authResponse_judged {response : Bytes} {x : Session} (hg : Granted sess 0 s.live) (hi : iface sess = 1)
    (hlen : response.length = 25) (hx : (s.live.touch sess).session sess = some x) (hlock : x.lockUntil = none) :
    Answers (.authResponse sess response) s (fun L =>
      L.levelOf sess = (if (s.live.touch sess).authRight x response then byteAt response 0 else (s.live.touch sess).levelOf sess) ∧
      L.out.head? = some (.answer sess (if (s.live.touch sess).authRight x response then 0 else abAuth) []) ∧
      L.time = s.live.time ∧ (s.live.mirrorsOut = false → L.ks.pend = s.live.ks.pend) ∧
      { L with
        ks := s.live.ks, out := s.live.out, rcd := s.live.rcd, obj := s.live.obj, dbg := s.live.dbg, com := s.live.com
        cap := s.live.cap, twin := { L.twin with bulk := s.live.twin.bulk, fwdSeq := s.live.twin.fwdSeq } } = s.live) := by
  refine answers_of_run hg.1 (exec_authResponse sess response s) ?_
  have hx' := (s.live.session_called sess 0x4C0003 response).trans hx
  obtain ⟨hcode, hlevel, ss, rcd, com, dbg, cap, hR⟩ := Live.cmdAuth_judged (.inl hi) hx' hlock hlen
  obtain ⟨ks, n, bs, e, hpend⟩ := Live.command_bus hg (.inl hi) 0x4C0003 response (fun L => L.cmdAuth sess response)
  obtain ⟨ss', ed, cmds, bulk, seq, hM⟩ := s.live.called_prepared sess 0x4C0003 response
  rw [Live.authRight_called] at hcode hlevel
  refine ⟨?_, ?_, ?_, fun halone => ?_, ?_⟩
  · rw [Live.levelOf_command hg, hlevel, Live.levelOf_called]
  · rw [e, hcode]
    rfl
  · rw [e, hR, hM]
  · rw [e]
    refine (hpend halone).trans ?_
    rw [hR, hM]
  · rw [e, hR, hM]

theorem authResponse_locked {response : Bytes} {x : Session} (hg : Granted sess 0 s.live) (hi : iface sess = 1)
    (hx : (s.live.touch sess).session sess = some x) (hlock : x.lockUntil.isSome = true) :
    Answers (.authResponse sess response) s (fun L =>
      L.levelOf sess = (s.live.touch sess).levelOf sess ∧ Replied sess abLocked L ∧
      { L with
        ks := s.live.ks, out := s.live.out, com := { L.com with num := s.live.com.num, bus := s.live.com.bus }
        twin := { L.twin with bulk := s.live.twin.bulk, fwdSeq := s.live.twin.fwdSeq } } = s.live) := by
  refine answers_of_run hg.1 (exec_authResponse sess response s) ?_
  have heq := Live.cmdAuth_locked response (.inl hi) ((s.live.session_called sess 0x4C0003 response).trans hx) hlock
  obtain ⟨ks, n, bs, e, -⟩ := Live.command_bus hg (.inl hi) 0x4C0003 response (fun L => L.cmdAuth sess response)
  obtain ⟨ss', ed, cmds, bulk, seq, hM⟩ := s.live.called_prepared sess 0x4C0003 response
  refine ⟨?_, fun _ _ => ?_, ?_⟩
  · rw [Live.levelOf_command hg, heq, Live.levelOf_called]
  · rw [e, heq]
    rfl
  · rw [e, heq, hM]

/-! ### A lower level -/

theorem Live.cmdLower_sets {L : Live} {level : Nat} (hi : iface sess = 1 ∨ iface sess = 2) (hlevel : level ≤ L.levelOf sess) :
    L.cmdLower sess level = .ok (L.modSession sess (fun x => { x with level := level })) := by
  rw [Live.cmdLower, if_neg (by omega), if_pos hi]

theorem Live.cmdLower_higher {L : Live} {level : Nat} (hlevel : L.levelOf sess < level) : L.cmdLower sess level = .error abRange :=
  if_pos hlevel

theorem lowerLevel_sets {level : Nat} (hg : Granted sess level s.live) (hi : iface sess = 1 ∨ iface sess = 2) :
    Answers (.lowerLevel sess level) s (fun L => L.levelOf sess = level ∧ Replied sess 0 L ∧
      { L with
        ks := s.live.ks, out := s.live.out, com := { L.com with num := s.live.com.num, bus := s.live.com.bus }
        twin := { L.twin with bulk := s.live.twin.bulk, fwdSeq := s.live.twin.fwdSeq } } = s.live) := by
  refine answers_of_run hg.1 (exec_lowerLevel sess level s) ?_
  obtain ⟨hp, hserves, hlevel, hrest⟩ := hg
  have hg : Granted sess 0 s.live := ⟨hp, hserves, Nat.zero_le _, hrest⟩
  obtain ⟨x, hx⟩ := Option.isSome_iff_exists.mp (s.live.session_touch_isSome sess)
  have heq := Live.cmdLower_sets hi (L := s.live.called sess 0x4C0004 (leBytes 1 level)) (level := level)
    (by rwa [Live.levelOf_called])
  have hsession := Live.session_modSession_held (fun x => { x with level := level }) (fun _ => rfl)
    ((s.live.session_called sess 0x4C0004 (leBytes 1 level)).trans hx)
  obtain ⟨ks, n, bs, e, -⟩ := Live.command_bus hg hi 0x4C0004 (leBytes 1 level) (fun L => L.orAbort (L.cmdLower sess level))
  obtain ⟨ss', ed, cmds, bulk, seq, hM⟩ := s.live.called_prepared sess 0x4C0004 (leBytes 1 level)
  refine ⟨?_, fun _ _ => ?_, ?_⟩
  · rw [Live.levelOf_command hg, heq]
    exact Live.levelOf_held hi hsession
  · rw [e, heq]
    rfl
  · rw [e, heq, Live.orAbort_ok, hM]
    rfl

theorem lowerLevel_higher {level : Nat} (hg : Granted sess 0 s.live) (hlevel : (s.live.touch sess).levelOf sess < level) :
    Answers (.lowerLevel sess level) s (fun L => L.levelOf sess = (s.live.touch sess).levelOf sess ∧ Replied sess abRange L ∧
      { L with
        ks := s.live.ks, out := s.live.out, mgr := s.live.mgr, dbg := s.live.dbg
        com := { L.com with num := s.live.com.num, bus := s.live.com.bus }
        twin := { L.twin with bulk := s.live.twin.bulk, fwdSeq := s.live.twin.fwdSeq } } = s.live) := by
  refine answers_of_run hg.1 (exec_lowerLevel sess level s) ?_
  have heq := Live.cmdLower_higher (L := s.live.called sess 0x4C0004 (leBytes 1 level)) (level := level) (sess := sess)
    (by rwa [Live.levelOf_called])
  have hanswered := Live.command_answeredTo hg 0x4C0004 (leBytes 1 level) (fun L => L.orAbort (L.cmdLower sess level))
  simp only [heq, Live.orAbort_error] at hanswered
  obtain ⟨hout, ks, out, mgr, dbg, num, bus, e⟩ := hanswered
  obtain ⟨ss', ed, cmds, bulk, seq, hM⟩ := (s.live.arrived_prepared sess 0x4C0004 (leBytes 1 level)).counted
  refine ⟨?_, hout, ?_⟩
  · rw [Live.levelOf_command hg, heq, Live.orAbort_error, Live.levelOf_called]
  · rw [e, hM]

/-! ### The timers -/

/-- R is L at the instant t, or at its own time where that is later, and of the keystone only the table of sessions may have changed. -/
def AtInstant (t : Nat) (L R : Live) : Prop :=
  R.time.clk = max L.time.clk t ∧ R.ks.edit = L.ks.edit ∧
    { R with
      ks := { R.ks with sessions := L.ks.sessions }
      time := { R.time with clk := L.time.clk, mtime := L.time.mtime, cyc := L.time.cyc, frac := L.time.frac } } = L

/-- A change of what is held of a session, at its instant. -/
theorem Live.modSession_reach {L : Live} {x : Session} (t : Nat) (f : Session → Session) (hf : ∀ x, (f x).id = x.id)
    (hx : L.session sess = some x) :
    ((L.reach t).modSession sess f).session sess = some (f x) ∧ AtInstant t L ((L.reach t).modSession sess f) :=
  ⟨Live.session_modSession_held (L := L.reach t) f hf hx, L.reach_clk t, rfl, rfl⟩

theorem sessionIdleTimeout_opens {x : Session} (hp : s.live.powered = true) (hx : s.live.session sess = some x)
    (hi : iface sess = 1 ∨ iface sess = 2) :
    Answers (.sessionIdleTimeout sess) s (fun L => L.levelOf sess = s.live.getN 0x4C0007 ∧
      AtInstant (x.lastReq + sec (s.live.getN 0x4C0006)) s.live L) := by
  refine answers_of_run hp (exec_sessionIdleTimeout sess s) ?_
  obtain ⟨hsession, hinstant⟩ := Live.modSession_reach (x.lastReq + sec (s.live.getN 0x4C0006))
    (fun x => { x with level := s.live.getN 0x4C0007 }) (fun _ => rfl) hx
  rw [hx]
  exact ⟨Live.levelOf_held hi hsession, hinstant⟩

theorem sessionIdleTimeout_none (h : s.live.session sess = none) : exec (.sessionIdleTimeout sess) s = .next s := by
  rw [exec_sessionIdleTimeout]
  simp [execSessionIdleTimeout, run, h]

theorem authLockExpiry_unlocks {x : Session} {u : Nat} (hp : s.live.powered = true) (hi : iface sess ≠ 4)
    (hx : s.live.session sess = some x) (hlock : x.lockUntil = some u) :
    Answers (.authLockExpiry sess) s (fun L => (L.session sess).map (·.lockUntil) = some none ∧ AtInstant u s.live L) := by
  refine answers_of_run hp (exec_authLockExpiry sess s) ?_
  have hlocked : (s.live.session sess).bind (·.lockUntil) = some u := by rw [hx]; exact hlock
  obtain ⟨hsession, hinstant⟩ := Live.modSession_reach u (fun x => { x with lockUntil := none }) (fun _ => rfl) hx
  rw [if_neg hi, hlocked]
  exact ⟨congrArg (Option.map (·.lockUntil)) hsession, hinstant⟩

theorem authLockExpiry_port {u : Nat} (hp : s.live.powered = true) (hlock : s.live.dbg.lockUntil = some u) :
    Answers (.authLockExpiry 0x4000) s (fun L => L.dbg.lockUntil = none ∧ L.time.clk = max s.live.time.clk u ∧
      { L with
        dbg := { L.dbg with lockUntil := s.live.dbg.lockUntil }
        time := { L.time with
          clk := s.live.time.clk, mtime := s.live.time.mtime, cyc := s.live.time.cyc, frac := s.live.time.frac } } = s.live) := by
  have hleaves : exec (.authLockExpiry 0x4000) s =
      .next { s with live := { s.live.reach u with dbg := { (s.live.reach u).dbg with lockUntil := none } } } := by
    rw [exec_authLockExpiry, execAuthLockExpiry, run_of_powered _ hp, if_pos (by decide), hlock]
  exact ⟨_, hleaves, rfl, s.live.reach_clk u, rfl⟩

end Rows

/-- Settles O33: each row is its own lemma above. -/
theorem sessionsAndLevels : Obligations.SessionsAndLevels := by
  refine ⟨?_, ?_, ?_, ?_, ?_, ?_, ?_, ?_⟩
  · intro s sess response hg hi hlen hmap
    obtain ⟨x, hx, hlock⟩ := Option.map_eq_some_iff.mp hmap
    obtain ⟨L, hL, hlevel, hout, htime, hpend, hframe⟩ := authResponse_judged hg hi hlen hx hlock
    refine ⟨L, hL, ?_, ?_, ?_, htime, hpend, hframe⟩
    · rw [hx]
      exact hlevel
    · intro hright _ _
      have hright' : (s.live.touch sess).authRight x response = true := by simpa [hx] using hright
      rw [hout, if_pos hright']
    · intro hwrong _ _
      have hwrong' : (s.live.touch sess).authRight x response = false := by simpa [hx] using hwrong
      rw [hout, hwrong']
      rfl
  · intro s sess response u hg hi hmap
    obtain ⟨x, hx, hlock⟩ := Option.map_eq_some_iff.mp hmap
    exact authResponse_locked hg hi hx (by rw [hlock]; rfl)
  · exact fun s sess level hg hi => lowerLevel_sets hg hi
  · exact fun s sess level hg hlevel => lowerLevel_higher hg hlevel
  · intro s sess hp hheld hi
    obtain ⟨x, hx⟩ := Option.isSome_iff_exists.mp hheld
    obtain ⟨L, hL, hlevel, hclk, hedit, hframe⟩ := sessionIdleTimeout_opens hp hx hi
    exact ⟨L, hL, hlevel, hclk ▸ Nat.le_max_left _ _, hedit, hframe⟩
  · exact fun s sess h => sessionIdleTimeout_none h
  · intro s sess x u hp hi hx hlock
    obtain ⟨L, hL, hnone, hclk, -, hframe⟩ := authLockExpiry_unlocks hp (by omega) hx hlock
    exact ⟨L, hL, hnone, hclk, hframe⟩
  · exact fun s u hp hlock => authLockExpiry_port hp hlock

end Sys2Proof.Machine
end

section
/-! Site time by PTP (13 R338 to R340): what a pair of instants, an Announce and a manual time leave, then one lemma per row. -/

namespace Sys2Proof.Machine

open Sys2Proof

/-! ### Shared rules -/

/-- A row of an island whose work changes nothing goes on from the same state. -/
theorem exec_of_fixed {c : Instr} {i : Nat} {s : State} {f : Live → Live} (hc : exec c s = runIn i s f) (hf : f s.live = s.live) :
    exec c s = .next s := hc.trans (runIn_of_fixed hf)

/-- A row of an island answers the state that its work is known to leave. -/
theorem answers_of_works {c : Instr} {i : Nat} {s : State} {f : Live → Live} {M : Live} {P : Live → Prop} (hw : Works i s.live)
    (hc : exec c s = runIn i s f) (hf : f s.live = M) (hP : P M) : Answers c s P := ⟨M, exec_of_works hw hc hf, hP⟩

/-- A manager event changes the recorder, the transmit rings, the debug port and the capture unit at most (13 R356). -/
theorem Live.mgrEv_eq (L : Live) (src code cls : Nat) (rest : Bytes) :
    ∃ rcd com dbg cap, L.mgrEv src code cls rest = { L with rcd := rcd, com := com, dbg := dbg, cap := cap } := by
  obtain ⟨rcd, com, dbg, cap, e, -⟩ := L.ev_eq src code cls [] (rest ++ leBytes 4 (bayEpoch L.time.mtime))
  exact ⟨rcd, com, dbg, cap, e⟩

theorem Live.getN_mgrEv (L : Live) (src code cls : Nat) (rest : Bytes) (k : Nat) : (L.mgrEv src code cls rest).getN k = L.getN k :=
  Live.getN_congr _ _ _ (by simp [Live.mgrEv_frame])

/-- The same of an event with its report in an object. -/
theorem Live.put_mgrEv_eq (L : Live) (k : Nat) (v : Int) (src code cls : Nat) (rest : Bytes) :
    ∃ obj rcd com dbg cap, (L.put k v).mgrEv src code cls rest =
      { L with obj := obj, rcd := rcd, com := com, dbg := dbg, cap := cap } := by
  obtain ⟨rcd, com, dbg, cap, e⟩ := (L.put k v).mgrEv_eq src code cls rest
  exact ⟨_, rcd, com, dbg, cap, e⟩

theorem Live.getN_put_mgrEv (L : Live) (k : Nat) (v : Int) (src code cls : Nat) (rest : Bytes) :
    ((L.put k v).mgrEv src code cls rest).getN k = v.toNat := by rw [Live.getN_mgrEv, Live.getN_put_same]

/-- On the way to an instant the four counts of time run on, and nothing else changes. -/
theorem Live.reach_time (L : Live) (t : Nat) :
    ∃ m n f, L.reach t = { L with time := { L.time with mtime := m, clk := max L.time.clk t, cyc := n, frac := f } } := by
  refine ⟨(L.reach t).time.mtime, (L.reach t).time.cyc, (L.reach t).time.frac, ?_⟩
  rw [← L.reach_clk t]
  rfl

/-! ### An offset put to use leaves the objects of other units alone -/

theorem Live.get_ev (L : Live) (src code cls : Nat) (key rest : Bytes) (j : Nat) : (L.ev src code cls key rest).get j = L.get j :=
  Live.get_congr _ _ _ (by simp)

theorem Live.get_useOffset (L : Live) (off : Int) (src code : Nat) (payload : Bytes) {j : Nat} (h3 : j ≠ 0x220003)
    (h4 : j ≠ 0x220004) : (L.useOffset off src code payload).get j = L.get j := by
  unfold Live.useOffset
  rw [Live.get_put_ne _ _ _ _ h4]
  have hreport := L.get_put_ne j _ (max (-2147483647) (min 2147483647 off)) h3
  refine (Live.get_congr _ _ j ?_).trans hreport
  (repeat' split) <;> simp

theorem Live.get_selfBit (L : Live) (b : Nat) (failed : Bool) {j : Nat} (h : j ≠ 0x20001A) : (L.selfBit b failed).get j = L.get j := by
  have hobj : (L.selfBit b failed).obj = (L.put 0x20001A (setBit (L.getN 0x20001A) b failed : Nat)).obj := by
    unfold Live.selfBit
    split <;> simp
  exact (Live.get_congr _ _ _ hobj).trans (L.get_put_ne j _ _ h)

theorem Live.get_sourceHeard (L : Live) {j : Nat} (h2 : j ≠ 0x220002) (hA : j ≠ 0x20001A) : L.sourceHeard.get j = L.get j := by
  unfold Live.sourceHeard
  extract_lets M
  have hM : M.get j = L.get j := by
    unfold M
    split
    · exact L.get_selfBit 18 false hA
    · rfl
  split
  · exact hM
  · exact (M.get_put_ne _ _ _ h2).trans hM

theorem Live.get_lockedTo (L : Live) (src code : Nat) (payload : Bytes) {j : Nat} (h2 : j ≠ 0x220002) :
    (L.lockedTo src code payload).get j = L.get j := by
  unfold Live.lockedTo
  split
  · rfl
  · exact (Live.get_ev _ _ _ _ _ _ j).trans (L.get_put_ne j _ _ h2)

theorem Live.get_lockRun (L : Live) (off : Int) (src code : Nat) (payload : Bytes) {j : Nat} (h2 : j ≠ 0x220002) :
    (L.lockRun off src code payload).get j = L.get j := by
  unfold Live.lockRun
  extract_lets n _ M
  split
  · exact Live.get_lockedTo M _ _ _ h2
  · rfl

/-! ### A complete Sync -/

/-- The instants of a complete Sync are kept, and nothing waits for a follow-up any more (13 R339). -/
def Live.keepPair (L : Live) (t1 t2 : Int) : Live :=
  { L with mgr := { L.mgr with ptp := { L.mgr.ptp with t12 := some (t1, t2), sync := none, lastSync := L.time.clk } } }

/-- The offset from the master is reported, saturating (13 R339). -/
def Live.reportOffset (L : Live) (off : Int) : Live := L.put 0x500026 (max (-2147483648) (min 2147483647 (-off)))

/-- The site's time is selected, and module time steered by an offset from it (13 R340). -/
def Live.steer (L : Live) (off : Int) (identity : Bytes) : Live :=
  let M := (L.useOffset off 20 6 (leBytes 4 (bayEpoch L.time.mtime))).sourceHeard
  Live.lockRun { M with mgr := { M.mgr with ptp := { M.mgr.ptp with locked := true } } } off 20 1
    (identity ++ leBytes 4 (bayEpoch L.time.mtime))

theorem Live.steer_mgr (L : Live) (off : Int) (identity : Bytes) :
    (L.steer off identity).mgr = { L.mgr with ptp := { L.mgr.ptp with locked := true } } := by
  simp [Live.steer, Live.lockRun_frame, Live.sourceHeard_frame, Live.useOffset_frame]

theorem Live.get_steer (L : Live) (off : Int) (identity : Bytes) : (L.steer off identity).get 0x500026 = L.get 0x500026 := by
  rw [Live.steer, Live.get_lockRun _ _ _ _ _ (by decide)]
  exact (Live.get_sourceHeard _ (by decide) (by decide)).trans (L.get_useOffset _ _ _ _ (by decide) (by decide))

theorem Live.siteSync_def (L : Live) (t1 t2 : Int) :
    L.siteSync t1 t2 = match L.mgr.ptp.delay with
      | none => L.keepPair t1 t2
      | some d =>
        if !((L.keepPair t1 t2).reportOffset (t1 + d - t2)).followsSite then (L.keepPair t1 t2).reportOffset (t1 + d - t2)
        else ((L.keepPair t1 t2).reportOffset (t1 + d - t2)).steer (t1 + d - t2)
          (match L.mgr.ptp.master with | some m => padTo 8 m.1.identity | none => []) := rfl

/-- Before the first exchange a pair is kept and nothing else. -/
theorem Live.siteSync_waits {L : Live} (t1 t2 : Int) (hdelay : L.mgr.ptp.delay = none) : L.siteSync t1 t2 = L.keepPair t1 t2 := by
  rw [Live.siteSync_def, hdelay]

/-- Once the path delay is known, the offset is reported, and a module that follows the site is steered. -/
theorem Live.siteSync_acts {L : Live} {d : Int} (t1 t2 : Int) (hdelay : L.mgr.ptp.delay = some d) :
    L.siteSync t1 t2 = (L.keepPair t1 t2).reportOffset (t1 + d - t2) ∨
      ∃ identity, L.siteSync t1 t2 = ((L.keepPair t1 t2).reportOffset (t1 + d - t2)).steer (t1 + d - t2) identity := by
  rw [Live.siteSync_def, hdelay]
  dsimp only
  split
  · exact .inl rfl
  · exact .inr ⟨_, rfl⟩

/-- A complete Sync keeps its pair, and closes the wait for a follow-up (13 R339). -/
theorem Live.siteSync_mgr (L : Live) (t1 t2 : Int) :
    ∃ locked, (L.siteSync t1 t2).mgr = { L.mgr with ptp := { L.mgr.ptp with
      t12 := some (t1, t2), sync := none, lastSync := L.time.clk, locked := locked } } := by
  cases hdelay : L.mgr.ptp.delay with
  | none => exact ⟨L.mgr.ptp.locked, by rw [Live.siteSync_waits t1 t2 hdelay]; rfl⟩
  | some d =>
    rcases Live.siteSync_acts t1 t2 hdelay with e | ⟨identity, e⟩
    · exact ⟨L.mgr.ptp.locked, by rw [e]; rfl⟩
    · exact ⟨true, by rw [e, Live.steer_mgr]; rfl⟩

theorem Live.siteSync_offset {L : Live} {d : Int} (t1 t2 : Int) (hdelay : L.mgr.ptp.delay = some d) :
    (L.siteSync t1 t2).get 0x500026 = max (-2147483648) (min 2147483647 (t2 - (t1 + d))) := by
  have hreport : ((L.keepPair t1 t2).reportOffset (t1 + d - t2)).get 0x500026 =
      max (-2147483648) (min 2147483647 (t2 - (t1 + d))) := by
    rw [Live.reportOffset, Live.get_put_same, Int.neg_sub]
  rcases Live.siteSync_acts t1 t2 hdelay with e | ⟨identity, e⟩
  · rw [e, hreport]
  · rw [e, Live.get_steer, hreport]

/-- A complete Sync changes the port's record, and what the servo, the reports and the events change. -/
theorem Live.siteSync_eq (L : Live) (t1 t2 : Int) :
    { L.siteSync t1 t2 with
      mgr := { (L.siteSync t1 t2).mgr with ptp := L.mgr.ptp }
      obj := L.obj, time := L.time, rcd := L.rcd, com := L.com, dbg := L.dbg, cap := L.cap } = L := by
  have hframe := L.siteSync_frame t1 t2
  obtain ⟨locked, hmgr⟩ := L.siteSync_mgr t1 t2
  rw [hmgr]
  generalize L.siteSync t1 t2 = M at hframe
  cases L
  simp_all

/-! ### An Announce -/

/-- A master loses the port where it was the one selected. -/
def Live.deselect (L : Live) (identity : Bytes) : Live :=
  if (L.mgr.ptp.master.map (fun m => m.1.identity)) = some identity then L.startPort none else L

theorem Live.deselect_eq (L : Live) (identity : Bytes) :
    (L.deselect identity).mgr.ptp.master =
        (if (L.mgr.ptp.master.map (fun m => m.1.identity)) = some identity then none else L.mgr.ptp.master) ∧
      (L.deselect identity).mgr.ptp.refused = L.mgr.ptp.refused ∧
      ∃ ptp obj, L.deselect identity = { L with mgr := { L.mgr with ptp := ptp }, obj := obj } := by
  unfold Live.deselect
  split
  · exact ⟨rfl, rfl, _, _, rfl⟩
  · exact ⟨rfl, rfl, L.mgr.ptp, L.obj, rfl⟩

/-- A master is noted as refused. -/
def Live.noteRefused (L : Live) (identity : Bytes) : Live :=
  { L with mgr := { L.mgr with ptp := { L.mgr.ptp with refused := identity :: L.mgr.ptp.refused } } }

/-- An Announce without the PTP timescale takes the port from its sender; the first of a sender is reported (13 R339). -/
theorem Live.announce_refuses {L : Live} {a : Announce} (hon : L.online = true) (hdomain : a.domain = L.getN 0x500024)
    (hscale : a.ptpTimescale = false) :
    L.announce a = if L.mgr.ptp.refused.contains a.identity then L.deselect a.identity
      else ((L.deselect a.identity).noteRefused a.identity).mgrEv 20 5 1 (padTo 8 a.identity) := by
  unfold Live.announce
  rw [if_neg (by simp [hon, hdomain]), if_pos (by simp [hscale])]
  rfl

/-- The first master announced in the domain is selected (13 R338). -/
theorem Live.announce_selects {L : Live} {a : Announce} (hon : L.online = true) (hdomain : a.domain = L.getN 0x500024)
    (hscale : a.ptpTimescale = true) (hnone : L.mgr.ptp.master = none) :
    L.announce a = Live.selectMaster { L with mgr := { L.mgr with ptp := { L.mgr.ptp with
      refused := L.mgr.ptp.refused.filter (fun x => x != a.identity) } } } a := by
  unfold Live.announce
  rw [if_neg (by simp [hon, hdomain]), if_neg (by simp [hscale])]
  simp only [hnone]

section Rows

variable {s : State}

theorem exec_ptpAnnounceRx (a : Announce) (s : State) : exec (.ptpAnnounceRx a) s = runIn 4 s (fun L => L.announce a) := rfl

theorem ptpAnnounceRx_selects {a : Announce} (hw : Works 4 s.live) (hon : s.live.online = true)
    (hdomain : a.domain = s.live.getN 0x500024) (hscale : a.ptpTimescale = true) (hnone : s.live.mgr.ptp.master = none) :
    Answers (.ptpAnnounceRx a) s (fun L => L.mgr.ptp.master = some (a, s.live.time.clk) ∧
      L.mgr.ptp.sync = none ∧ L.mgr.ptp.t12 = none ∧ L.mgr.ptp.req = none ∧ L.mgr.ptp.delay = none ∧ L.mgr.ptp.locked = false ∧
      L.getN 0x500025 = 0 ∧ SameObjects [0x500025] L s.live ∧
      { L with mgr := { L.mgr with ptp := s.live.mgr.ptp }, obj := s.live.obj } = s.live) := by
  refine answers_of_runIn hw (exec_ptpAnnounceRx a s) ?_
  rw [Live.announce_selects hon hdomain hscale hnone]
  refine ⟨rfl, rfl, rfl, rfl, rfl, rfl, Live.getN_put_same _ _ _, fun k hk => ?_, rfl⟩
  exact Live.get_put_ne _ _ _ _ (List.mem_singleton.not.mp hk)

theorem ptpAnnounceRx_refuses {a : Announce} (hw : Works 4 s.live) (hon : s.live.online = true)
    (hdomain : a.domain = s.live.getN 0x500024) (hscale : a.ptpTimescale = false) :
    Answers (.ptpAnnounceRx a) s (fun L =>
      (L.mgr.ptp.master = (if s.live.mgr.ptp.master.map (fun m => m.1.identity) = some a.identity then none
        else s.live.mgr.ptp.master)) ∧
      L.time = s.live.time ∧ L.mgr.ptp.refused.contains a.identity = true ∧
      { L with
        mgr := { L.mgr with ptp := s.live.mgr.ptp }, rcd := s.live.rcd, obj := s.live.obj, com := s.live.com
        dbg := s.live.dbg, cap := s.live.cap } = s.live) := by
  refine answers_of_runIn hw (exec_ptpAnnounceRx a s) ?_
  obtain ⟨hmaster, hrefused, ptp, obj, e⟩ := s.live.deselect_eq a.identity
  rw [Live.announce_refuses hon hdomain hscale]
  split
  · next hseen => exact ⟨hmaster, by rw [e], hrefused ▸ hseen, by rw [e]⟩
  · obtain ⟨rcd, com, dbg, cap, eEv⟩ :=
      ((s.live.deselect a.identity).noteRefused a.identity).mgrEv_eq 20 5 1 (padTo 8 a.identity)
    rw [eEv]
    exact ⟨hmaster, by rw [e]; rfl, by simp [Live.noteRefused], by rw [e]; rfl⟩

theorem ptpAnnounceRx_ignored {a : Announce} (h : s.live.online = false ∨ a.domain ≠ s.live.getN 0x500024) :
    exec (.ptpAnnounceRx a) s = .next s :=
  exec_of_fixed (exec_ptpAnnounceRx a s) (if_pos (h.imp_left fun hoff => by simp [hoff]))

/-! ### Sync and follow-up -/

theorem exec_ptpSyncRx (identity : Bytes) (seq : Nat) (twoStep : Bool) (origin correction rx : Int) (s : State) :
    exec (.ptpSyncRx identity seq twoStep origin correction rx) s = runIn 4 s (fun L =>
      if !L.fromMaster identity then L
      else if twoStep then
        { L with mgr := { L.mgr with ptp := { L.mgr.ptp with sync := some (seq, correction, rx) } } }
      else L.siteSync (origin + correction - ptpOrigin) rx) := rfl

theorem ptpSyncRx_twoStep {identity : Bytes} (seq : Nat) (origin correction rx : Int) (hw : Works 4 s.live)
    (hmaster : s.live.fromMaster identity = true) :
    Answers (.ptpSyncRx identity seq true origin correction rx) s (fun L =>
      L.mgr.ptp.sync = some (seq, correction, rx) ∧ L.mgr.ptp.t12 = s.live.mgr.ptp.t12 ∧
      { L with mgr := { L.mgr with ptp := s.live.mgr.ptp } } = s.live) := by
  refine answers_of_runIn hw (exec_ptpSyncRx identity seq true origin correction rx s) ?_
  rw [if_neg (by simp [hmaster]), if_pos rfl]
  exact ⟨rfl, rfl, rfl⟩

theorem ptpSyncRx_oneStep {identity : Bytes} (seq : Nat) (origin correction rx : Int) (hw : Works 4 s.live)
    (hmaster : s.live.fromMaster identity = true) :
    Answers (.ptpSyncRx identity seq false origin correction rx) s (fun L =>
      L.mgr.ptp.t12 = some (origin + correction - 946684800000000000, rx) ∧ L.mgr.ptp.sync = none ∧
      (∀ d ∈ s.live.mgr.ptp.delay, L.get 0x500026 = max (-2147483648)
        (min 2147483647 (rx - (origin + correction - 946684800000000000 + d)))) ∧
      (s.live.mgr.ptp.delay = none → L.time = s.live.time ∧ L.obj = s.live.obj) ∧
      { L with
        mgr := { L.mgr with ptp := s.live.mgr.ptp }, obj := s.live.obj, time := s.live.time, rcd := s.live.rcd
        com := s.live.com, dbg := s.live.dbg, cap := s.live.cap } = s.live) := by
  refine answers_of_runIn hw (exec_ptpSyncRx identity seq false origin correction rx s) ?_
  rw [if_neg (by simp [hmaster]), if_neg Bool.false_ne_true]
  obtain ⟨locked, hmgr⟩ := s.live.siteSync_mgr (origin + correction - ptpOrigin) rx
  refine ⟨by rw [hmgr]; rfl, by rw [hmgr], fun d hd => Live.siteSync_offset _ _ hd, fun hnone => ?_, Live.siteSync_eq _ _ _⟩
  rw [Live.siteSync_waits _ _ hnone]
  exact ⟨rfl, rfl⟩

theorem ptpSyncRx_ignored {identity : Bytes} (seq : Nat) (twoStep : Bool) (origin correction rx : Int)
    (h : s.live.fromMaster identity = false) : exec (.ptpSyncRx identity seq twoStep origin correction rx) s = .next s :=
  exec_of_fixed (exec_ptpSyncRx identity seq twoStep origin correction rx s) (if_pos (by simp [h]))

theorem exec_ptpFollowUpRx (identity : Bytes) (seq : Nat) (origin correction : Int) (s : State) :
    exec (.ptpFollowUpRx identity seq origin correction) s = execPtpFollowUpRx identity seq origin correction s := rfl

theorem ptpFollowUpRx_completes {identity : Bytes} {seq : Nat} (origin correction : Int) {c0 rx : Int} (hw : Works 4 s.live)
    (hmaster : s.live.fromMaster identity = true) (hsync : s.live.mgr.ptp.sync = some (seq, c0, rx)) :
    Answers (.ptpFollowUpRx identity seq origin correction) s (fun L =>
      L.mgr.ptp.t12 = some (origin + c0 + correction - 946684800000000000, rx) ∧ L.mgr.ptp.sync = none ∧
      { L with
        mgr := { L.mgr with ptp := s.live.mgr.ptp }, obj := s.live.obj, time := s.live.time, rcd := s.live.rcd
        com := s.live.com, dbg := s.live.dbg, cap := s.live.cap } = s.live) := by
  refine answers_of_runIn hw (exec_ptpFollowUpRx identity seq origin correction s) ?_
  simp only [hsync, hmaster, Bool.not_true, Bool.false_eq_true, ne_eq, not_true_eq_false, or_self, if_false]
  obtain ⟨locked, hmgr⟩ := s.live.siteSync_mgr (origin + c0 + correction - ptpOrigin) rx
  exact ⟨by rw [hmgr]; rfl, by rw [hmgr], Live.siteSync_eq _ _ _⟩

theorem ptpFollowUpRx_ignored (identity : Bytes) {seq : Nat} (origin correction : Int)
    (h : (s.live.mgr.ptp.sync.map (·.1)) ≠ some seq) : exec (.ptpFollowUpRx identity seq origin correction) s = .next s := by
  refine exec_of_fixed (exec_ptpFollowUpRx identity seq origin correction s) ?_
  cases hsync : s.live.mgr.ptp.sync with
  | none => rfl
  | some x =>
    have hseq : x.1 ≠ seq := fun e => h (by rw [hsync, ← e]; rfl)
    exact if_pos (.inr hseq)

/-! ### The delay exchange -/

theorem exec_ptpDelayReqSend (tx : Int) (s : State) : exec (.ptpDelayReqSend tx) s = execPtpDelayReqSend tx s := rfl

theorem ptpDelayReqSend_sends (tx : Int) (hw : Works 4 s.live) (hon : s.live.online = true)
    (hpair : s.live.mgr.ptp.t12.isSome = true) :
    Answers (.ptpDelayReqSend tx) s (fun L => L.mgr.ptp.req = some (s.live.mgr.ptp.reqSeq, tx) ∧
      L.mgr.ptp.reqSeq = (s.live.mgr.ptp.reqSeq + 1) % 65536 ∧ L.out.length = s.live.out.length + 1 ∧
      { L with out := s.live.out, mgr := { L.mgr with ptp := s.live.mgr.ptp } } = s.live) := by
  refine answers_of_runIn hw (exec_ptpDelayReqSend tx s) ?_
  rw [if_neg (by simp [hon, Option.isSome_iff_ne_none.mp hpair])]
  exact ⟨rfl, rfl, rfl, rfl⟩

theorem ptpDelayReqSend_ignored (tx : Int) (h : s.live.online = false ∨ s.live.mgr.ptp.t12 = none) :
    exec (.ptpDelayReqSend tx) s = .next s :=
  exec_of_fixed (exec_ptpDelayReqSend tx s) (if_pos (h.imp (fun hoff => by simp [hoff]) (fun hnone => by simp [hnone])))

theorem exec_ptpDelayRespRx (seq : Nat) (receive correction : Int) (s : State) :
    exec (.ptpDelayRespRx seq receive correction) s = execPtpDelayRespRx seq receive correction s := rfl

theorem ptpDelayRespRx_measures {seq : Nat} (receive correction : Int) {t1 t2 t3 : Int} (hw : Works 4 s.live)
    (hon : s.live.online = true) (hreq : s.live.mgr.ptp.req = some (seq, t3)) (hpair : s.live.mgr.ptp.t12 = some (t1, t2)) :
    Answers (.ptpDelayRespRx seq receive correction) s (fun L =>
      L.mgr.ptp.delay = some (roundQ (q ((t2 - t1) + (receive - correction - 946684800000000000 - t3)) / 2)) ∧
      L.mgr.ptp.req = none ∧ { L with mgr := { L.mgr with ptp := s.live.mgr.ptp } } = s.live) := by
  refine answers_of_runIn hw (exec_ptpDelayRespRx seq receive correction s) ?_
  simp only [hreq, hpair, hon, Bool.not_true, Bool.false_eq_true, ne_eq, not_true_eq_false, or_self, if_false]
  exact ⟨rfl, trivial, trivial⟩

theorem ptpDelayRespRx_ignored {seq : Nat} (receive correction : Int) (h : s.live.mgr.ptp.req.map (·.1) ≠ some seq) :
    exec (.ptpDelayRespRx seq receive correction) s = .next s := by
  refine exec_of_fixed (exec_ptpDelayRespRx seq receive correction s) ?_
  cases hreq : s.live.mgr.ptp.req with
  | none => rfl
  | some x =>
    have hseq : x.1 ≠ seq := fun e => h (by rw [hreq, ← e]; rfl)
    cases s.live.mgr.ptp.t12 with
    | none => rfl
    | some p => exact if_pos (.inr hseq)

/-! ### Holdover, the wait, and a manual time -/

/-- Holdover begins: its state is reported, and its start noted (13 R340). -/
def Live.enterHoldover (L : Live) : Live :=
  { L.put 0x220002 3 with time := { (L.put 0x220002 3).time with lockCount := 0, holdAt := (L.put 0x220002 3).time.clk } }

theorem Live.enterHoldover_eq (L : Live) :
    ∃ obj, L.enterHoldover = { L with obj := obj, time := { L.time with lockCount := 0, holdAt := L.time.clk } } := ⟨_, rfl⟩

theorem Live.getN_enterHoldover (L : Live) : L.enterHoldover.getN 0x220002 = 3 := L.getN_put_same 0x220002 3

theorem exec_siteTimeHoldover (s : State) : exec .siteTimeHoldover s = execSiteTimeHoldover s := rfl

theorem siteTimeHoldover_begins (hw : Works 4 s.live) (hlead : s.live.mgr.lead = true) (hsite : s.live.followsSite = true)
    (hsynced : s.live.time.synced = true) (hstate : s.live.getN 0x220002 = 1 ∨ s.live.getN 0x220002 = 2) :
    Answers .siteTimeHoldover s (fun L => L.getN 0x220002 = 3 ∧
      L.time.clk = max s.live.time.clk (s.live.mgr.ptp.lastSync + sec 5) ∧ L.time.lockCount = 0 ∧
      { L with
        time := { L.time with
          clk := s.live.time.clk, mtime := s.live.time.mtime, cyc := s.live.time.cyc, frac := s.live.time.frac
          lockCount := s.live.time.lockCount, holdAt := s.live.time.holdAt }
        obj := s.live.obj, rcd := s.live.rcd, com := s.live.com, dbg := s.live.dbg, cap := s.live.cap } = s.live) := by
  have hacts : (s.live.mgr.lead && s.live.followsSite && s.live.time.synced &&
      (s.live.getN 0x220002 == 1 || s.live.getN 0x220002 == 2)) = true := by simpa [hlead, hsite, hsynced] using hstate
  obtain ⟨m, n, f, hreach⟩ := s.live.reach_time (s.live.mgr.ptp.lastSync + sec 5)
  obtain ⟨obj, hholdover⟩ := (s.live.reach (s.live.mgr.ptp.lastSync + sec 5)).enterHoldover_eq
  obtain ⟨rcd, com, dbg, cap, e⟩ := (s.live.reach (s.live.mgr.ptp.lastSync + sec 5)).enterHoldover.mgrEv_eq 20 2 1 []
  refine answers_of_works (M := (s.live.reach (s.live.mgr.ptp.lastSync + sec 5)).enterHoldover.mgrEv 20 2 1 []) hw
    (exec_siteTimeHoldover s) (if_pos hacts) ⟨(Live.getN_mgrEv _ _ _ _ _ _).trans (Live.getN_enterHoldover _), ?_⟩
  rw [e, hholdover, hreach]
  exact ⟨rfl, rfl, rfl⟩

theorem siteTimeHoldover_ignored (h : s.live.mgr.lead = false ∨ s.live.time.synced = false) :
    exec .siteTimeHoldover s = .next s :=
  exec_of_fixed (exec_siteTimeHoldover s) (if_neg (by rcases h with h | h <;> simp [h]))

theorem exec_siteTimeWaitExpiry (s : State) : exec .siteTimeWaitExpiry s = execSiteTimeWaitExpiry s := rfl

theorem siteTimeWaitExpiry_reports (hw : Works 4 s.live) (hlead : s.live.mgr.lead = true) (hsynced : s.live.time.synced = false)
    (hnone : s.live.mgr.ptp.master = none) (hbit : bitOf (s.live.getN 0x500025) 2 = false) :
    Answers .siteTimeWaitExpiry s (fun L => L.getN 0x500025 = 4 ∧
      L.time.clk = max s.live.time.clk (s.live.mode.bootClk + sec (s.live.getN 0x500029)) ∧
      { L with
        time := { L.time with
          clk := s.live.time.clk, mtime := s.live.time.mtime, cyc := s.live.time.cyc, frac := s.live.time.frac }
        obj := s.live.obj, rcd := s.live.rcd, com := s.live.com, dbg := s.live.dbg, cap := s.live.cap } = s.live) := by
  have hwaits : ¬(!s.live.mgr.lead || s.live.time.synced || s.live.mgr.ptp.master.isSome ||
      bitOf (s.live.getN 0x500025) 2) = true := by simp [hlead, hsynced, hnone, hbit]
  refine answers_of_works hw (exec_siteTimeWaitExpiry s) (if_neg hwaits) ⟨Live.getN_put_mgrEv _ _ _ _ _ _ _, ?_⟩
  obtain ⟨obj, rcd, com, dbg, cap, e⟩ :=
    (s.live.reach (s.live.mode.bootClk + sec (s.live.getN 0x500029))).put_mgrEv_eq 0x500025 4 20 3 1 []
  obtain ⟨m, n, f, hreach⟩ := s.live.reach_time (s.live.mode.bootClk + sec (s.live.getN 0x500029))
  rw [e, hreach]
  exact ⟨rfl, rfl⟩

theorem siteTimeWaitExpiry_ignored (h : s.live.mgr.lead = false ∨ s.live.time.synced = true) :
    exec .siteTimeWaitExpiry s = .next s :=
  exec_of_fixed (exec_siteTimeWaitExpiry s) (if_pos (by rcases h with h | h <;> simp [h]))

/-- The lead manager's first time becomes a pending step to it, in whole 10 µs (04 R82; 13 R340). -/
theorem Live.cmdTime_taken {M : Live} (sess : Sess) {t : Nat} (hlead : M.mgr.lead = true) (hsynced : M.time.synced = false)
    (hfirst : M.time.firstPending = false) (ht : t < 2 ^ 63) :
    ∃ rcd com dbg cap, M.cmdTime sess t = .ok { M with
      time := { M.time with stepPending := ((t : Int) - M.time.mtime).tdiv 10000 * 10000, firstPending := true }
      rcd := rcd, com := com, dbg := dbg, cap := cap } := by
  obtain ⟨rcd, com, dbg, cap, e⟩ := ({ M with time := { M.time with
    stepPending := ((t : Int) - M.time.mtime).tdiv 10000 * 10000
    firstPending := true } } : Live).mgrEv_eq 20 4 0 (leBytes 8 t ++ leBytes 2 sess)
  refine ⟨rcd, com, dbg, cap, ?_⟩
  rw [Live.cmdTime, if_neg (Nat.not_le.mpr ht), if_neg (by simp [hlead, hsynced, hfirst])]
  exact congrArg Except.ok e

theorem exec_manualModuleTime (sess : Sess) (time : Nat) (s : State) :
    exec (.manualModuleTime sess time) s = execManualModuleTime sess time s := rfl

theorem manualModuleTime_taken {sess : Sess} {time : Nat} (hg : Granted sess 3 s.live) (hmanager : s.live.isManager = true)
    (hlead : s.live.mgr.lead = true) (hsynced : s.live.time.synced = false) (hfirst : s.live.time.firstPending = false)
    (ht : time < 2 ^ 63) :
    Answers (.manualModuleTime sess time) s (fun L =>
      L.time.stepPending = ((time : Int) - s.live.time.mtime).tdiv 10000 * 10000 ∧ L.time.firstPending = true ∧
      Replied sess 0 L ∧
      { L with
        ks := s.live.ks, out := s.live.out
        time := { L.time with stepPending := s.live.time.stepPending, firstPending := s.live.time.firstPending }
        mgr := s.live.mgr, dbg := s.live.dbg, rcd := s.live.rcd, obj := s.live.obj, com := s.live.com, cap := s.live.cap
        twin := { L.twin with bulk := s.live.twin.bulk, fwdSeq := s.live.twin.fwdSeq } } = s.live) := by
  refine answers_of_run hg.1 (exec_manualModuleTime sess time s) ?_
  rw [if_neg (by simp [hmanager])]
  have hanswered := Live.command_answeredTo hg 0x50002A (leBytes 8 time) (fun L => L.orAbort (L.cmdTime sess time))
  obtain ⟨ss, ed, n, bulk, seq, hM⟩ := (s.live.arrived_prepared sess 0x50002A (leBytes 8 time)).counted
  rw [hM] at hanswered
  obtain ⟨rcd, com, dbg, cap, htime⟩ := Live.cmdTime_taken (M := { s.live with
    ks := { s.live.ks with sessions := ss, edit := ed, commands := n }
    twin := { s.live.twin with bulk := bulk, fwdSeq := seq } }) sess hlead hsynced hfirst ht
  rw [htime, Live.orAbort_ok] at hanswered
  obtain ⟨hout, ks, out, mgr, dbg, num, bus, e⟩ := hanswered
  exact ⟨by rw [e], by rw [e], hout, by rw [e]⟩

theorem manualModuleTime_elsewhere {sess : Sess} (time : Nat) (hserved : Served sess 0 s.live)
    (hmanager : s.live.isManager = false) :
    Answers (.manualModuleTime sess time) s (fun L => Replied sess 0x06020000 L ∧ L.time = s.live.time ∧
      { L with
        ks := s.live.ks, out := s.live.out, mgr := s.live.mgr, dbg := s.live.dbg
        com := { L.com with num := s.live.com.num, bus := s.live.com.bus } } = s.live) := by
  obtain ⟨hp, hserves, -⟩ := hserved
  refine answers_of_run hp (exec_manualModuleTime sess time s) ?_
  rw [if_pos (by simp [hmanager]), Live.asked, if_pos hserves]
  obtain ⟨ss, ed, htouch⟩ := s.live.touch_eq sess
  obtain ⟨hout, ks, out, mgr, dbg, num, bus, e⟩ := (s.live.touch sess).refuseArrival_answeredTo sess abIndex
  exact ⟨hout, by rw [e, htouch], by rw [e, htouch]⟩

end Rows

/-- Settles O37: each row is its own lemma above. -/
theorem siteTimeByPtp : Obligations.SiteTimeByPtp := by
  refine ⟨?_, ?_, ?_, ?_, ?_, ?_, ?_, ?_, ?_, ?_, ?_, ?_, ?_, ?_, ?_, ?_, ?_, ?_⟩
  · exact fun s a hw hon hdomain hscale hnone => ptpAnnounceRx_selects hw hon hdomain hscale hnone
  · exact fun s a hw hon hdomain hscale => ptpAnnounceRx_refuses hw hon hdomain hscale
  · exact fun s a h => ptpAnnounceRx_ignored h
  · exact fun s identity seq origin correction rx hw hmaster => ptpSyncRx_twoStep seq origin correction rx hw hmaster
  · exact fun s identity seq origin correction rx hw hmaster => ptpSyncRx_oneStep seq origin correction rx hw hmaster
  · exact fun s identity seq twoStep origin correction rx h => ptpSyncRx_ignored seq twoStep origin correction rx h
  · exact fun s identity seq origin correction c0 rx hw hmaster hsync => ptpFollowUpRx_completes origin correction hw hmaster hsync
  · exact fun s identity seq origin correction h => ptpFollowUpRx_ignored identity origin correction h
  · exact fun s tx hw hon hpair => ptpDelayReqSend_sends tx hw hon hpair
  · exact fun s tx h => ptpDelayReqSend_ignored tx h
  · exact fun s seq receive correction t1 t2 t3 hw hon hreq hpair => ptpDelayRespRx_measures receive correction hw hon hreq hpair
  · exact fun s seq receive correction h => ptpDelayRespRx_ignored receive correction h
  · exact fun s hw hlead hsite hsynced hstate => siteTimeHoldover_begins hw hlead hsite hsynced hstate
  · exact fun s h => siteTimeHoldover_ignored h
  · exact fun s hw hlead hsynced hnone hbit => siteTimeWaitExpiry_reports hw hlead hsynced hnone hbit
  · exact fun s h => siteTimeWaitExpiry_ignored h
  · exact fun s sess time hg hmanager hlead hsynced hfirst ht => manualModuleTime_taken hg hmanager hlead hsynced hfirst ht
  · exact fun s sess time hserved hmanager => manualModuleTime_elsewhere time hserved hmanager

end Sys2Proof.Machine
end

section
/-! The Ethernet services and Modbus TCP (13 R350 to R353): connections and requests, then one lemma per row. -/

namespace Sys2Proof.Machine

open Sys2Proof

/-! ### Sessions of connections -/

theorem iface_mbSess (i : Fin 8) : iface (mbSess i) = 3 := by decide +revert

theorem mbSess_mod (i : Fin 8) : mbSess i % 256 = i := by decide +revert

/-- The level of a connection's session is the connection's (13 R351). -/
theorem Live.levelOf_mbSess (L : Live) (i : Fin 8) :
    L.levelOf (mbSess i) = ((L.mgr.conns.getD i none).map (·.level)).getD 0 := by
  rw [L.levelOf_modbus (iface_mbSess i), mbSess_mod]

/-- The end of a session removes it, and closes the edit copy that it owns (12 R315, R329). -/
theorem Live.endSession_eq (L : Live) (sess : Sess) : L.endSession sess = { L with ks := { L.ks with
    sessions := L.ks.sessions.filter (fun x => x.id != sess)
    edit := L.ks.edit.filter (fun e => e.owner != sess) } } := by
  unfold Live.endSession
  dsimp only
  cases L.ks.edit with
  | none => rfl
  | some e =>
    dsimp only
    split
    · next howner => simp [Option.filter_some, howner]
    · next howner => simp [Option.filter_some, howner]

/-- An open connection stands in the table. -/
theorem getElem?_of_getD_eq_some {l : List (Option MbConn)} {i : Nat} {c : MbConn} (h : l.getD i none = some c) :
    l[i]? = some (some c) := by
  rw [List.getD_eq_getElem?_getD] at h
  cases hi : l[i]? <;> simp_all

/-- A change of an open connection puts it in its place. -/
theorem Live.modConn_open {L : Live} {conn : Nat} {c : MbConn} (f : MbConn → MbConn) (h : L.mgr.conns.getD conn none = some c) :
    L.modConn conn f = { L with mgr := { L.mgr with conns := L.mgr.conns.set conn (some (f c)) } } := by
  simp [Live.modConn, List.modify_eq_set_getElem?, getElem?_of_getD_eq_some h]

/-! ### Requests -/

section Requests

variable {s : State} {c : Instr} {conn : Nat} {f : MbConn → Live → Live}

/-- A request on an open connection is worked on with its session held. -/
theorem answers_of_onConn {c0 : MbConn} {P : Live → Prop} (hw : Works 4 s.live)
    (hc : exec c s = runIn 4 s (fun L => L.onConn conn f)) (hopen : s.live.mgr.conns.getD conn none = some c0)
    (hP : ∀ ss ed, P (f c0 { s.live with ks := { s.live.ks with sessions := ss, edit := ed } })) : Answers c s P := by
  refine answers_of_runIn hw hc ?_
  obtain ⟨ss, ed, htouch⟩ := s.live.touch_eq (mbSess conn)
  unfold Live.onConn
  rw [hopen]
  exact htouch ▸ hP ss ed

/-- A request that is only answered: beside the response it changes no more than the sessions held. -/
theorem answers_of_response {pdu : Bytes} (hw : Works 4 s.live) (hc : exec c s = runIn 4 s (fun L => L.onConn conn f))
    (hopen : (s.live.mgr.conns.getD conn none).isSome = true) (hf : ∀ c0 M, f c0 M = M.mbSend conn pdu) :
    Answers c s (fun L => L.out = .modbus conn pdu :: s.live.out ∧ { L with out := s.live.out, ks := s.live.ks } = s.live) := by
  obtain ⟨c0, hopen⟩ := Option.isSome_iff_exists.mp hopen
  refine answers_of_onConn hw hc hopen fun ss ed => ?_
  rw [hf]
  exact ⟨rfl, rfl⟩

/-- A write of the object window changes what its connection has selected, and is answered (13 R352). -/
theorem answers_of_selection {pdu : Bytes} {c0 : MbConn} {g : MbConn → MbConn} (hw : Works 4 s.live)
    (hc : exec c s = runIn 4 s (fun L => L.onConn conn f)) (hopen : s.live.mgr.conns.getD conn none = some c0)
    (hf : ∀ M, f c0 M = (M.modConn conn g).mbSend conn pdu) :
    Answers c s (fun L => L.mgr.conns = s.live.mgr.conns.set conn (some (g c0)) ∧ L.out = .modbus conn pdu :: s.live.out ∧
      { L with out := s.live.out, ks := s.live.ks, mgr := { L.mgr with conns := s.live.mgr.conns } } = s.live) := by
  refine answers_of_onConn hw hc hopen fun ss ed => ?_
  have hset := Live.modConn_open (L := { s.live with ks := { s.live.ks with sessions := ss, edit := ed } }) g hopen
  rw [hf, hset]
  exact ⟨rfl, rfl, rfl⟩

end Requests

/-! ### Registers -/

/-- Registers whose first is outside the map have no values. -/
theorem allRegs_eq_none {f : Nat → Option Nat} {start count : Nat} (hcount : 0 < count) (hfirst : f start = none) :
    allRegs f start count = none := by
  obtain ⟨n, rfl⟩ := Nat.exists_eq_add_one.mpr hcount
  simp [allRegs, List.range_succ_eq_map, List.mapM_cons, hfirst]

/-- Outside the value window the holding registers end below 15 (13 R352). -/
theorem holdingReg_eq_none (S L : Live) (sess : Sess) (c : MbConn) {r : Nat} (h : 15 ≤ r) : holdingReg S L sess c r = none := by
  have hne : ∀ n, n < 15 → r ≠ n := by omega
  simp [holdingReg, hne]

/-- The first two hold the dispatch set-point (13 R352). -/
theorem allRegs_holdingReg_setpoint (S L : Live) (sess : Sess) (c : MbConn) :
    allRegs (holdingReg S L sess c) 0 2 =
      some [ofSigned 32 (S.get 0x500001) % 65536, ofSigned 32 (S.get 0x500001) / 65536] := rfl

/-- A write of one register from 17 on is outside the map. -/
theorem Live.mbWrite_outside (L : Live) (c : MbConn) (conn fc n v : Nat) {reg : Nat} (h : 17 ≤ reg) :
    L.mbWrite c conn fc reg n [v] = L.mbFail conn fc 2 := by
  have hne : ∀ n, n < 17 → reg ≠ n := by omega
  simp [Live.mbWrite, hne]

/-! ### The rows -/

section Rows

variable {s : State}

theorem exec_ethernetLinkChange (link : Fin 3) (s : State) : exec (.ethernetLinkChange link) s = execEthernetLinkChange link s := rfl

theorem ethernetLinkChange_records (link : Fin 3) (hw : Works 4 s.live) (hon : s.live.online = true) :
    Answers (.ethernetLinkChange link) s (fun L => L.getN 0x500023 = link.val ∧
      (s.live.getN 0x500023 = link.val → L.rcd.raised = s.live.rcd.raised) ∧
      { L with obj := s.live.obj, rcd := s.live.rcd, com := s.live.com, dbg := s.live.dbg, cap := s.live.cap } = s.live) := by
  refine answers_of_runIn hw (exec_ethernetLinkChange link s) ?_
  rw [if_neg (by simp [hon])]
  dsimp only
  split
  · next hdown =>
    refine ⟨Live.getN_put_mgrEv _ _ _ _ _ _ _, fun hsame => absurd (hsame.trans hdown.2) hdown.1, ?_⟩
    obtain ⟨obj, rcd, com, dbg, cap, e⟩ := s.live.put_mgrEv_eq 0x500023 link.val 13 1 1 []
    rw [e]
  · split
    · next hup =>
      refine ⟨Live.getN_put_mgrEv _ _ _ _ _ _ _, fun hsame => absurd (hsame.symm.trans hup.1) hup.2, ?_⟩
      obtain ⟨obj, rcd, com, dbg, cap, e⟩ := s.live.put_mgrEv_eq 0x500023 link.val 13 2 0 []
      rw [e]
    · exact ⟨Live.getN_put_same _ _ _, fun _ => rfl, rfl⟩

theorem ethernetLinkChange_ignored (link : Fin 3) (h : s.live.online = false) : exec (.ethernetLinkChange link) s = .next s :=
  exec_of_fixed (exec_ethernetLinkChange link s) (if_pos (by simp [h]))

theorem exec_arpRequest (ip : Nat) (s : State) : exec (.arpRequest ip) s = execArpRequest ip s := rfl

theorem arpRequest_answered {ip : Nat} (hw : Works 4 s.live) (hnet : s.live.netUp = true) (hip : ip = s.live.bootN 0x500020) :
    Answers (.arpRequest ip) s (fun L => L.out.length = s.live.out.length + 1 ∧ L.out.drop 1 = s.live.out ∧
      { L with out := s.live.out } = s.live) := by
  refine answers_of_runIn hw (exec_arpRequest ip s) ?_
  rw [if_pos (by simp [hnet, hip])]
  exact ⟨rfl, rfl, rfl⟩

theorem arpRequest_ignored {ip : Nat} (h : s.live.netUp = false ∨ ip ≠ s.live.bootN 0x500020) : exec (.arpRequest ip) s = .next s :=
  exec_of_fixed (exec_arpRequest ip s) (if_neg (by rcases h with h | h <;> simp [h]))

theorem exec_icmpEchoRequest (ip ident seq : Nat) (data : Bytes) (s : State) :
    exec (.icmpEchoRequest ip ident seq data) s = execIcmpEchoRequest ip ident seq data s := rfl

theorem icmpEchoRequest_answered (ip ident seq : Nat) (data : Bytes) (hw : Works 4 s.live) (hnet : s.live.netUp = true) :
    Answers (.icmpEchoRequest ip ident seq data) s (fun L =>
      L.out = .eth 1 ip 0 ([0, 0] ++ beBytes 2 (inetSum ([0, 0, 0, 0] ++ beBytes 2 ident ++ beBytes 2 seq ++ data)) ++
        beBytes 2 ident ++ beBytes 2 seq ++ data) :: s.live.out ∧
      { L with out := s.live.out } = s.live) := by
  refine answers_of_runIn hw (exec_icmpEchoRequest ip ident seq data s) ?_
  rw [if_neg (by simp [hnet])]
  exact ⟨by simp [List.append_assoc], rfl⟩

theorem icmpEchoRequest_ignored (ip ident seq : Nat) (data : Bytes) (h : s.live.netUp = false) :
    exec (.icmpEchoRequest ip ident seq data) s = .next s :=
  exec_of_fixed (exec_icmpEchoRequest ip ident seq data s) (if_pos (by simp [h]))

/-! ### Connections -/

theorem exec_modbusConnect (client : Nat) (s : State) : exec (.modbusConnect client) s = execModbusConnect client s := rfl

theorem modbusConnect_opens {client : Nat} {i : Fin 8} (hw : Works 4 s.live) (hnet : s.live.netUp = true)
    (hlen : s.live.mgr.conns.length = 8) (hfree : (s.live.mgr.conns.getD i none).isNone = true)
    (hfirst : ∀ j : Fin 8, j < i → (s.live.mgr.conns.getD j none).isNone = false) (hlevel : s.live.clientLevel client ≠ 0xFF) :
    Answers (.modbusConnect client) s (fun L =>
      L.mgr.conns = s.live.mgr.conns.set i (some { client := client, level := s.live.clientLevel client }) ∧
      L.levelOf (mbSess i) = s.live.clientLevel client ∧
      { L with mgr := { L.mgr with conns := s.live.mgr.conns }, ks := s.live.ks } = s.live) := by
  refine answers_of_runIn hw (exec_modbusConnect client s) ?_
  have hfind : (List.range 8).find? (fun i => (s.live.mgr.conns.getD i none).isNone) = some i.val := by
    refine List.find?_range_eq_some.mpr ⟨hfree, List.mem_range.mpr i.isLt, fun j hj => ?_⟩
    rw [hfirst ⟨j, hj.trans i.isLt⟩ hj]
    rfl
  rw [if_neg (by simp [hnet])]
  simp only [hfind, if_neg hlevel]
  obtain ⟨ss, ed, htouch⟩ := Live.touch_eq { s.live with mgr := { s.live.mgr with
    conns := s.live.mgr.conns.set i (some { client := client, level := s.live.clientLevel client }) } } (mbSess i)
  rw [htouch]
  refine ⟨rfl, ?_, rfl⟩
  rw [Live.levelOf_mbSess]
  simp [List.getD_eq_getElem?_getD, hlen]

theorem modbusConnect_refused {client : Nat} (hw : Works 4 s.live) (hnet : s.live.netUp = true)
    (h : (∀ j : Fin 8, (s.live.mgr.conns.getD j none).isNone = false) ∨ s.live.clientLevel client = 0xFF) :
    Answers (.modbusConnect client) s (fun L => L.mgr = s.live.mgr ∧
      { L with rcd := s.live.rcd, obj := s.live.obj, com := s.live.com, dbg := s.live.dbg, cap := s.live.cap } = s.live) := by
  refine answers_of_runIn hw (exec_modbusConnect client s) ?_
  rw [if_neg (by simp [hnet])]
  obtain ⟨rcd, com, dbg, cap, e⟩ := s.live.mgrEv_eq 13 3 0 (leBytes 4 client)
  dsimp only
  split
  · next i hfind =>
    obtain ⟨hfree, hi, -⟩ := List.find?_range_eq_some.mp hfind
    have hlevel : s.live.clientLevel client = 0xFF := h.resolve_left fun hall =>
      Bool.false_ne_true ((hall ⟨i, List.mem_range.mp hi⟩).symm.trans hfree)
    rw [if_pos hlevel, e]
    exact ⟨rfl, rfl⟩
  · rw [e]
    exact ⟨rfl, rfl⟩

theorem exec_modbusConnectionClose (conn : Fin 8) (s : State) :
    exec (.modbusConnectionClose conn) s = execModbusConnectionClose conn s := rfl

theorem modbusConnectionClose_frees {conn : Fin 8} (hw : Works 4 s.live) (hopen : (s.live.mgr.conns.getD conn none).isSome = true) :
    Answers (.modbusConnectionClose conn) s (fun L => L.mgr.conns = s.live.mgr.conns.set conn none ∧
      L.session (mbSess conn) = none ∧ (L.ks.edit.all (fun e => e.owner != mbSess conn) = true) ∧
      { L with
        mgr := { L.mgr with conns := s.live.mgr.conns }
        ks := { L.ks with sessions := s.live.ks.sessions, edit := s.live.ks.edit } } = s.live) := by
  refine answers_of_runIn hw (exec_modbusConnectionClose conn s) ?_
  rw [if_neg (mt Option.isNone_iff_eq_none.mp (Option.isSome_iff_ne_none.mp hopen)), Live.endSession_eq]
  exact ⟨rfl, by simp [Live.session], by simp [Option.all_filter], rfl⟩

/-! ### Requests -/

theorem exec_modbusUnsupportedFunction (conn : Fin 8) (code : Nat) (s : State) :
    exec (.modbusUnsupportedFunction conn code) s =
      runIn 4 s (fun L => L.onConn conn.val (fun _ L => L.mbFail conn.val (code % 128) 1)) := rfl

theorem exec_readInputRegisters (conn : Fin 8) (start count : Nat) (s : State) :
    exec (.readInputRegisters conn start count) s = execReadInputRegisters conn start count s := rfl

theorem readInputRegisters_closed {conn : Fin 8} (start count : Nat) (h : s.live.mgr.conns.getD conn none = none) :
    exec (.readInputRegisters conn start count) s = .next s := by
  refine exec_of_fixed (exec_readInputRegisters conn start count s) ?_
  unfold Live.onConn
  rw [h]

theorem readInputRegisters_answered {conn : Fin 8} (start count : Nat) (hw : Works 4 s.live)
    (hopen : (s.live.mgr.conns.getD conn none).isSome = true) :
    Answers (.readInputRegisters conn start count) s (fun L =>
      (L.out = .modbus conn (if count = 0 ∨ 125 < count then [0x84, 3]
        else match allRegs (inputReg s.snap) start count with | some rs => mbReply 4 rs | none => [0x84, 2]) :: s.live.out) ∧
      { L with out := s.live.out, ks := s.live.ks } = s.live) := by
  refine answers_of_response hw (exec_readInputRegisters conn start count s) hopen fun _ M => ?_
  split
  · rfl
  · cases allRegs (inputReg s.snap) start count <;> rfl

theorem exec_readHoldingRegisters (conn : Fin 8) (start count : Nat) (s : State) :
    exec (.readHoldingRegisters conn start count) s = execReadHoldingRegisters conn start count s := rfl

theorem readHoldingRegisters_setpoint {conn : Fin 8} (hw : Works 4 s.live)
    (hopen : (s.live.mgr.conns.getD conn none).isSome = true) :
    Answers (.readHoldingRegisters conn 0 2) s (fun L =>
      L.out = .modbus conn (mbReply 3 [ofSigned 32 (s.snap.get 0x500001) % 65536, ofSigned 32 (s.snap.get 0x500001) / 65536]) ::
        s.live.out ∧
      { L with out := s.live.out, ks := s.live.ks } = s.live) := by
  refine answers_of_response hw (exec_readHoldingRegisters conn 0 2 s) hopen fun c0 M => ?_
  rw [if_neg (by decide), if_neg (by decide), allRegs_holdingReg_setpoint]

theorem readHoldingRegisters_refused {conn : Fin 8} {start count : Nat} (hw : Works 4 s.live)
    (hopen : (s.live.mgr.conns.getD conn none).isSome = true) (h : count = 0 ∨ 125 < count ∨ 15 < start ∧ 48 < start + count) :
    Answers (.readHoldingRegisters conn start count) s (fun L =>
      (L.out = .modbus conn [0x83, if count = 0 ∨ 125 < count then 3 else 2] :: s.live.out) ∧
      { L with out := s.live.out, ks := s.live.ks } = s.live) := by
  refine answers_of_response hw (exec_readHoldingRegisters conn start count s) hopen fun c0 M => ?_
  by_cases hcount : count = 0 ∨ 125 < count
  · rw [if_pos hcount, if_pos hcount]
    rfl
  · have hnone : allRegs (holdingReg s.snap M (mbSess conn) c0) start count = none :=
      allRegs_eq_none (by omega) (holdingReg_eq_none _ _ _ _ (by omega))
    rw [if_neg hcount, if_neg hcount, if_neg (by omega), hnone]
    rfl

theorem exec_writeSingleRegister (conn : Fin 8) (reg value : Nat) (s : State) :
    exec (.writeSingleRegister conn reg value) s =
      runIn 4 s (fun L => L.onConn conn.val (fun c L => L.mbWrite c conn.val 6 reg (value % 65536) [value % 65536])) := rfl

theorem writeSingleRegister_outside {conn : Fin 8} {reg : Nat} (value : Nat) (hw : Works 4 s.live)
    (hopen : (s.live.mgr.conns.getD conn none).isSome = true) (hreg : 17 ≤ reg) :
    Answers (.writeSingleRegister conn reg value) s (fun L => L.out = .modbus conn [0x86, 2] :: s.live.out ∧
      { L with out := s.live.out, ks := s.live.ks } = s.live) :=
  answers_of_response hw (exec_writeSingleRegister conn reg value s) hopen fun c0 M => M.mbWrite_outside c0 conn 6 _ _ hreg

theorem exec_writeMultipleRegisters (conn : Fin 8) (start : Nat) (values : List Nat) (s : State) :
    exec (.writeMultipleRegisters conn start values) s = execWriteMultipleRegisters conn start values s := rfl

theorem writeMultipleRegisters_refused {conn : Fin 8} (start : Nat) {values : List Nat} (hw : Works 4 s.live)
    (hopen : (s.live.mgr.conns.getD conn none).isSome = true) (h : values = [] ∨ 123 < values.length) :
    Answers (.writeMultipleRegisters conn start values) s (fun L => L.out = .modbus conn [0x90, 3] :: s.live.out ∧
      { L with out := s.live.out, ks := s.live.ks } = s.live) :=
  answers_of_response hw (exec_writeMultipleRegisters conn start values s) hopen fun _ _ =>
    if_pos (h.imp_left List.isEmpty_iff.mpr)

theorem exec_readDeviceIdentification (conn : Fin 8) (s : State) :
    exec (.readDeviceIdentification conn) s = execReadDeviceIdentification conn s := rfl

theorem readDeviceIdentification_answered {conn : Fin 8} (hw : Works 4 s.live)
    (hopen : (s.live.mgr.conns.getD conn none).isSome = true) :
    Answers (.readDeviceIdentification conn) s (fun L => L.out.length = s.live.out.length + 1 ∧ L.out.drop 1 = s.live.out ∧
      { L with out := s.live.out, ks := s.live.ks } = s.live) := by
  obtain ⟨L, hL, hout, hframe⟩ :=
    answers_of_response hw (exec_readDeviceIdentification conn s) hopen fun _ _ => rfl
  exact ⟨L, hL, by rw [hout]; rfl, by rw [hout]; rfl, hframe⟩

end Rows

/-- Settles O38: each row is its own lemma above; the requests that are only answered share one rule, the selections another. -/
theorem ethernetAndModbus : Obligations.EthernetAndModbus := by
  refine ⟨?_, ?_, ?_, ?_, ?_, ?_, ?_, ?_, ?_, ?_, ?_, ?_, ?_, ?_, ?_, ?_, ?_, ?_, ?_⟩
  · exact fun s link hw hon => ethernetLinkChange_records link hw hon
  · exact fun s link h => ethernetLinkChange_ignored link h
  · exact fun s ip hw hnet hip => arpRequest_answered hw hnet hip
  · exact fun s ip h => arpRequest_ignored h
  · exact fun s ip ident seq data hw hnet => icmpEchoRequest_answered ip ident seq data hw hnet
  · exact fun s ip ident seq data h => icmpEchoRequest_ignored ip ident seq data h
  · exact fun s client i hw hnet hlen hfree hfirst hlevel => modbusConnect_opens hw hnet hlen hfree hfirst hlevel
  · exact fun s client hw hnet h => modbusConnect_refused hw hnet h
  · exact fun s conn hw _ hopen => modbusConnectionClose_frees hw hopen
  · exact fun s conn code hw hopen => answers_of_response hw (exec_modbusUnsupportedFunction conn code s) hopen fun _ _ => rfl
  · exact fun s conn start count h => readInputRegisters_closed start count h
  · exact fun s conn start count hw hopen => readInputRegisters_answered start count hw hopen
  · exact fun s conn hw hopen => readHoldingRegisters_setpoint hw hopen
  · exact fun s conn start count hw hopen h => readHoldingRegisters_refused hw hopen h
  · exact fun s conn c0 value hw _ hopen =>
      answers_of_selection hw (exec_writeSingleRegister conn 10 value s) hopen fun _ => rfl
  · exact fun s conn reg value hw hopen hreg => writeSingleRegister_outside value hw hopen hreg
  · exact fun s conn c0 index sub hw _ hopen =>
      answers_of_selection hw (exec_writeMultipleRegisters conn 10 [index, sub] s) hopen fun _ => rfl
  · exact fun s conn start values hw hopen h => writeMultipleRegisters_refused start hw hopen h
  · exact fun s conn hw hopen => readDeviceIdentification_answered hw hopen

end Sys2Proof.Machine
end
section
/-! The logic engine's operations: what each writes of its registers, and that none breaks its memory's canonical form. -/

namespace Sys2Proof.Machine

open Sys2Proof

/-! ### Registers -/

@[simp] theorem Logic.begin_vm (g : Logic) (c : Nat) :
    (g.begin_ c).vm = { g.vm with cyc := g.vm.cyc + c, pc := g.vm.pc + 1 } := rfl

@[simp] theorem Logic.setBa_vm (g : Logic) (b : Bool) : (g.setBa b).vm = { g.vm with ba := b } := rfl

@[simp] theorem Logic.setAcc_vm (g : Logic) (v : Int) : (g.setAcc v).vm = { g.vm with acc := v } := rfl

@[simp] theorem Logic.flag_vm (g : Logic) (b : Nat) : (g.flag b).vm = { g.vm with flags := setBit g.vm.flags b true } := rfl

@[simp] theorem Logic.goto_vm (g : Logic) (k : Nat) : (g.goto k).vm = { g.vm with pc := k } := rfl

@[simp] theorem Logic.setSat_mem (g : Logic) (v : Int) : (g.setSat v).vm.mem = g.vm.mem := by
  unfold Logic.setSat
  dsimp only
  split <;> rfl

@[simp] theorem Logic.divide_mem (g : Logic) (v : Int) : (g.divide v).vm.mem = g.vm.mem := by
  unfold Logic.divide
  split
  · rfl
  · exact g.setSat_mem _

/-! ### The canonical form of the memory -/

theorem Logic.storeAcc_wf (g : Logic) (o : WordOp) (h : Memory.wf g.vm.mem = true) : Memory.wf (g.storeAcc o).vm.mem = true := by
  refine Logic.storeWord_wf _ o _ ?_
  split <;> exact h

theorem Logic.putI_wf (g : Logic) (o : BlockOp) (off : Nat) (v : Int) (h : Memory.wf g.vm.mem = true) :
    Memory.wf (g.putI o off v).vm.mem = true := g.store_wf _ _ _ _ h

theorem Logic.putBits_wf (g : Logic) (o : BlockOp) (b : Nat) (h : Memory.wf g.vm.mem = true) :
    Memory.wf (g.putBits o b).vm.mem = true := Logic.store_wf _ _ _ _ _ (g.store_wf _ _ _ _ h)

theorem Logic.storeAll_wf (g : Logic) (space a : Nat) (bs : Bytes) (h : Memory.wf g.vm.mem = true) :
    Memory.wf (g.storeAll space a bs).vm.mem = true := by
  unfold Logic.storeAll
  generalize bs.zipIdx = xs
  induction xs generalizing g with
  | nil => exact h
  | cons x xs ih => exact ih _ (g.storeByte_wf _ _ _ h)

theorem Logic.opSetb_wf (g : Logic) (o : BitOp) (h : Memory.wf g.vm.mem = true) : Memory.wf (g.opSetb o).vm.mem = true := by
  unfold Logic.opSetb
  split
  · exact Logic.storeBit_wf _ o _ h
  · exact h

theorem Logic.opRstb_wf (g : Logic) (o : BitOp) (h : Memory.wf g.vm.mem = true) : Memory.wf (g.opRstb o).vm.mem = true := by
  unfold Logic.opRstb
  split
  · exact Logic.storeBit_wf _ o _ h
  · exact h

theorem Logic.opTimer_wf (g : Logic) (o : BlockOp) (f : Nat → Int → Bool → Bool → Timer → Timer) (h : Memory.wf g.vm.mem = true) :
    Memory.wf (g.opTimer o f).vm.mem = true := Logic.putBits_wf _ o _ (Logic.store_wf _ _ _ _ _ (Logic.putI_wf _ o _ _ h))

theorem Logic.opCounter_wf (g : Logic) (o : BlockOp) (kind : Nat) (h : Memory.wf g.vm.mem = true) :
    Memory.wf (g.opCounter o kind).vm.mem = true := Logic.putBits_wf _ o _ (Logic.putI_wf _ o _ _ h)

theorem Logic.opEdge_wf (g : Logic) (o : BlockOp) (rising : Bool) (h : Memory.wf g.vm.mem = true) :
    Memory.wf (g.opEdge o rising).vm.mem = true := Logic.putBits_wf _ o _ h

@[simp] theorem Logic.opJump_mem (g : Logic) (t : BitVec 24) (c : Bool) : (g.opJump t c).vm.mem = g.vm.mem := by
  unfold Logic.opJump
  split <;> rfl

@[simp] theorem Logic.opNext_mem (g : Logic) : g.opNext.vm.mem = g.vm.mem := by
  unfold Logic.opNext
  dsimp only
  (repeat' split) <;> rfl

@[simp] theorem Logic.opRet_mem (g : Logic) : g.opRet.vm.mem = g.vm.mem := by
  unfold Logic.opRet
  dsimp only
  split <;> rfl

@[simp] theorem Live.popBit_mem (L : Live) (f : Bool → Bool → Bool) : (L.popBit f).lgc.vm.mem = L.lgc.vm.mem := by
  unfold Live.popBit
  dsimp only
  split <;> rfl

theorem Live.opMsgrx_wf (L : Live) (o : WordOp) (h : Memory.wf L.lgc.vm.mem = true) :
    Memory.wf (L.opMsgrx o).lgc.vm.mem = true := by
  unfold Live.opMsgrx
  dsimp only
  split
  · exact h
  · simp only [Live.bump_frame]
    exact Logic.storeAll_wf _ _ _ _ h

@[simp] theorem Live.opMsgtx_mem (L : Live) (o : WordOp) : (L.opMsgtx o).lgc.vm.mem = L.lgc.vm.mem := by
  unfold Live.opMsgtx
  dsimp only
  split <;> rfl

@[simp] theorem Live.opEvt_mem (L : Live) (cls code : Nat) : (L.opEvt cls code).lgc.vm.mem = L.lgc.vm.mem := by
  simp [Live.opEvt, Live.lgcEv_frame]

/-- No instruction of a program breaks the canonical form. -/
theorem Live.logicOp_wf (L : Live) (i : Instr) (h : Memory.wf L.lgc.vm.mem = true) : Memory.wf (L.logicOp i).lgc.vm.mem = true := by
  cases i
  case stb o => exact Logic.storeBit_wf _ o _ h
  case setb o => exact Logic.opSetb_wf _ o h
  case rstb o => exact Logic.opRstb_wf _ o h
  case st o => exact Logic.storeAcc_wf _ o h
  case ton o | tof o | tp o => exact Logic.opTimer_wf _ o _ h
  case ctu o | ctd o | ctud o => exact Logic.opCounter_wf _ o _ h
  case rTrig o | fTrig o => exact Logic.opEdge_wf _ o _ h
  case msgrx o => exact L.opMsgrx_wf o h
  case msgtx o => exact (L.opMsgtx_mem o).symm ▸ h
  case evt c k => exact (L.opEvt_mem c k).symm ▸ h
  case popand | popor => exact (L.popBit_mem _).symm ▸ h
  case add | sub | mul | addi => exact (Logic.setSat_mem _ _).symm ▸ h
  case div o => exact (Logic.divide_mem _ _).symm ▸ h
  case jmp t | jmpt t | jmpf t => exact (Logic.opJump_mem _ t _).symm ▸ h
  case next => exact (Logic.opNext_mem _).symm ▸ h
  case ret => exact (Logic.opRet_mem _).symm ▸ h
  all_goals exact h

end Sys2Proof.Machine
end

section
/-! What leaves the logic engine's memory as it is, of the operations that change something else of the engine. -/

namespace Sys2Proof.Machine

open Sys2Proof

@[simp] theorem Vm.mem_ite (c : Prop) [Decidable c] (A B : Vm) : (if c then A else B).mem = if c then A.mem else B.mem :=
  apply_ite Vm.mem c A B

@[simp] theorem lgc_mem_foldl {α : Type} (g : Live → α → Live) (h : ∀ L a, (g L a).lgc.vm.mem = L.lgc.vm.mem) (l : List α)
    (L : Live) : (l.foldl g L).lgc.vm.mem = L.lgc.vm.mem :=
  foldl_inv (fun M => M.lgc.vm.mem = L.lgc.vm.mem) g (fun M a e => (h M a).trans e) l L rfl

@[simp] theorem Live.toBoot_mem (L : Live) (trig cause : Nat) : (L.toBoot trig cause).lgc.vm.mem = L.lgc.vm.mem := by
  simp [Live.toBoot, Live.ev_frame, Live.setState_frame, Live.resetReleases_frame, Live.put_frame, Live.endConds_frame]

@[simp] theorem Live.clearForcesRestart_mem (L : Live) : L.clearForcesRestart.lgc.vm.mem = L.lgc.vm.mem := by
  simp [Live.clearForcesRestart, Live.lgcEv_frame]

@[simp] theorem Live.stopOutputs_mem (L : Live) : L.stopOutputs.lgc.vm.mem = L.lgc.vm.mem := by
  simp [Live.stopOutputs]

@[simp] theorem Live.logicStop_mem (L : Live) : L.logicStop.lgc.vm.mem = L.lgc.vm.mem := by
  simp [Live.logicStop, Live.lgcEv_frame, Live.put_frame]

@[simp] theorem Live.logicFault_mem (L : Live) : L.logicFault.lgc.vm.mem = L.lgc.vm.mem := by
  simp [Live.logicFault, Live.lgcEv_frame, Live.put_frame]

@[simp] theorem Live.logicCourse_mem (L : Live) : L.logicCourse.lgc.vm.mem = L.lgc.vm.mem := by
  simp [Live.logicCourse, Live.mirrorItem_frame]

@[simp] theorem Live.haltTaken_mem (L : Live) : L.haltTaken.lgc.vm.mem = L.lgc.vm.mem := by
  simp [Live.haltTaken, Live.ev_frame, Live.attention_frame, Live.put_frame]

@[simp] theorem Live.brkTaken_mem (L : Live) (slot : Nat) : (L.brkTaken slot).lgc.vm.mem = L.lgc.vm.mem := by
  simp [Live.brkTaken, Live.ev_frame, Live.attention_frame, Live.put_frame]

@[simp] theorem Live.sendMessages_mem (L : Live) : L.sendMessages.lgc.vm.mem = L.lgc.vm.mem := by
  simp [Live.sendMessages, Live.bump_frame, Live.enqueue_frame]

@[simp] theorem outWrite_foldl_vm (os : List OutMap) (g : Logic) : (os.foldl Logic.outWrite g).vm = g.vm := by
  induction os generalizing g with
  | nil => rfl
  | cons o os ih => exact ih _

@[simp] theorem Live.finishScan_mem (L : Live) : L.finishScan.lgc.vm.mem = L.lgc.vm.mem := by
  simp [Live.finishScan, Live.put_frame, Live.lgcEv_frame]

@[simp] theorem Live.imageWritten_mem (L : Live) (b : Nat) (image : Bytes) : (L.imageWritten b image).lgc.vm.mem = L.lgc.vm.mem := by
  simp [Live.imageWritten, Live.put_frame, Live.putBlob_frame, Live.lgcEv_frame]

@[simp] theorem Live.activateSlot_mem (L : Live) (slot : Nat) (probation atOnce : Bool) :
    (L.activateSlot slot probation atOnce).lgc.vm.mem = L.lgc.vm.mem := by
  simp [Live.activateSlot, Live.stageEntry_frame, Live.put_frame, Live.updEv_frame]

@[simp] theorem Live.restoreGen_mem (L : Live) : L.restoreGen.lgc.vm.mem = L.lgc.vm.mem := by
  unfold Live.restoreGen
  split
  · rfl
  · dsimp only
    split <;> simp [Live.put_frame, Live.putBlob_frame]

@[simp] theorem Live.leaveSet_mem (L : Live) : L.leaveSet.lgc.vm.mem = L.lgc.vm.mem := by
  simp [Live.leaveSet, Live.updEv_frame, Live.put_frame]

@[simp] theorem Live.updateTurn_mem (L : Live) : L.updateTurn.lgc.vm.mem = L.lgc.vm.mem := by
  simp [Live.updateTurn, Live.requestHandover_frame]

@[simp] theorem Live.probationOver_mem (L : Live) : L.probationOver.lgc.vm.mem = L.lgc.vm.mem := by
  simp [Live.probationOver, Live.probationTick_frame, Live.put_frame, Live.requestHandover_frame]

@[simp] theorem Live.installPart_mem (L : Live) (kind : Nat) (d : Bytes) : (L.installPart kind d).lgc.vm.mem = L.lgc.vm.mem := by
  unfold Live.installPart
  split
  · simp [Live.put_frame, Live.putBlob_frame]
  · dsimp only
    split <;> simp [Live.setActive_frame, Live.withParams_frame, Live.putBlob_frame]
  · simp [Live.put_frame, Live.updEv_frame, Live.putBlob_frame]
  · simp [Live.put_frame]
  · rfl

@[simp] theorem Live.installSet_mem (L : Live) (s : Slot) : (L.installSet s).lgc.vm.mem = L.lgc.vm.mem := by
  unfold Live.installSet
  dsimp only
  refine (lgc_mem_foldl _ (fun M (p : Nat × Bytes) => M.installPart_mem p.1 p.2) _ _).trans ?_
  (repeat' split) <;> rfl

@[simp] theorem Live.replayBody_mem (L : Live) (e : JEntry) : (L.replayBody e).lgc.vm.mem = L.lgc.vm.mem := by
  unfold Live.replayBody
  (repeat' split) <;> simp [Live.put_frame, Live.modSeg_frame, Live.blockFresh_frame, Live.resumeNode_frame, Live.rewrite_frame]

@[simp] theorem Live.replay_mem (L : Live) (p : JEntry → Bool) : (L.replay p).lgc.vm.mem = L.lgc.vm.mem := by
  simp [Live.replay, Live.jdone_frame]

@[simp] theorem Live.fallBack_mem (L : Live) (why : Nat) : (L.fallBack why).lgc.vm.mem = L.lgc.vm.mem := by
  simp [Live.fallBack, Live.updEv_frame, Live.put_frame, Live.notice_frame]

@[simp] theorem Live.bootImage_mem (L : Live) (r : BootReport) : (L.bootImage r).lgc.vm.mem = L.lgc.vm.mem := by
  simp [Live.bootImage, Live.put_frame, Live.updEv_frame]

@[simp] theorem Live.bootReplay_mem (L : Live) : L.bootReplay.lgc.vm.mem = L.lgc.vm.mem := by
  simp [Live.bootReplay, Live.ev_frame, Live.updEv_frame, Live.put_frame, Live.checkpoint_frame]

@[simp] theorem Live.outputResults_mem (L : Live) (res : List (Req × Abort × Nat)) :
    (L.outputResults res).lgc.vm.mem = L.lgc.vm.mem := by
  simp [Live.outputResults, Live.put_frame, Live.lgcEv_frame]

@[simp] theorem Live.takeMgrItem_mem (L : Live) (d : Bytes) : (L.takeMgrItem d).lgc.vm.mem = L.lgc.vm.mem := by
  simp [Live.takeMgrItem, Live.holdSnapshot_frame, Live.mirrorDispatch_frame, Live.holdSummary_frame]

@[simp] theorem Live.takeover_mem (L : Live) : L.takeover.lgc.vm.mem = L.lgc.vm.mem := by
  simp [Live.takeover, Live.disarmIsland_frame, Live.twinEv_frame, Live.put_frame, Live.bump_frame, Live.answerLost_frame,
    Live.breakClean_frame, Live.partnerGone_frame, Live.dueThresholds_frame, Live.insRelay_frame, Live.updLead_frame,
    Live.setFast_frame]

@[simp] theorem Live.partnerLost_mem (L : Live) : L.partnerLost.lgc.vm.mem = L.lgc.vm.mem := by
  simp [Live.partnerLost, Live.answerLost_frame, Live.partnerGone_frame, Live.leaveStep_frame, Live.lostUnfollowed_frame]

end Sys2Proof.Machine
end

section
/-! Requests that answer with an abort code or a new block, as they leave the logic engine's memory. -/

namespace Sys2Proof.Machine

open Sys2Proof

@[simp] theorem Live.requestWindow_mem (L : Live) (operator : Bool) : (L.requestWindow operator).lgc.vm.mem = L.lgc.vm.mem := by
  simp [Live.requestWindow, Live.put_frame, Live.ev_frame]

@[simp] theorem Live.noteCheck_mem (L : Live) (v : Nat) : (L.noteCheck v).lgc.vm.mem = L.lgc.vm.mem := by
  simp [Live.noteCheck, Live.put_frame]

@[simp] theorem Live.cmdSegment_mem (L : Live) (s v due : Nat) :
    (L.orAbort (L.cmdSegment s v due)).1.lgc.vm.mem = L.lgc.vm.mem := by
  unfold Live.cmdSegment
  (repeat' split) <;> simp [Live.modSeg_frame]

@[simp] theorem Live.cmdNode_mem (L : Live) (s v : Nat) :
    (L.orAbort (L.cmdNode s v)).1.lgc.vm.mem = L.lgc.vm.mem := by
  unfold Live.cmdNode
  (repeat' split) <;> simp [Live.modSeg_frame, Live.request_frame, Live.startBring_frame]

@[simp] theorem Live.cmdReplaced_mem (L : Live) (g : Nat) (v : Nat) :
    (L.orAbort (L.cmdReplaced g v)).1.lgc.vm.mem = L.lgc.vm.mem := by
  unfold Live.cmdReplaced
  (repeat' split) <;> simp [Live.ev_frame]

@[simp] theorem Live.cmdCan_mem (L : Live) (bus v : Nat) :
    (L.orAbort (L.cmdCan bus v)).1.lgc.vm.mem = L.lgc.vm.mem := by
  unfold Live.cmdCan
  (repeat' split) <;> simp [Live.startRecovery_frame, Live.put_frame]

@[simp] theorem Live.cmdChisel_mem (L : Live) (v due : Nat) :
    (L.orAbort (L.cmdChisel v due)).1.lgc.vm.mem = L.lgc.vm.mem := by
  unfold Live.cmdChisel
  (repeat' split) <;> simp [Live.abortChisel_frame]

@[simp] theorem Live.cmdCapture_mem (L : Live) (v due : Nat) :
    (L.orAbort (L.cmdCapture v due)).1.lgc.vm.mem = L.lgc.vm.mem := by
  unfold Live.cmdCapture
  (repeat' split) <;> simp [Live.dropCaptureReads_frame]

@[simp] theorem Live.cmdEst_mem (L : Live) (v : Nat) :
    (L.orAbort (L.cmdEst v)).1.lgc.vm.mem = L.lgc.vm.mem := by
  unfold Live.cmdEst
  (repeat' split) <;> simp [Live.put_frame]

@[simp] theorem Live.cmdTable_mem (L : Live) (v due : Nat) :
    (L.orAbort (L.cmdTable v due)).1.lgc.vm.mem = L.lgc.vm.mem := by
  unfold Live.cmdTable
  (repeat' split) <;> simp [Live.put_frame, Live.putBlob_frame]

@[simp] theorem Live.cmdDiscardEdit_mem (L : Live) (s : Sess) :
    (L.orAbort (L.cmdDiscardEdit s)).1.lgc.vm.mem = L.lgc.vm.mem := by
  unfold Live.cmdDiscardEdit
  (repeat' split) <;> simp

@[simp] theorem Live.cmdSafety_mem (L : Live) (v : Nat) :
    (L.orAbort (L.cmdSafety v)).1.lgc.vm.mem = L.lgc.vm.mem := by
  unfold Live.cmdSafety
  (repeat' split) <;> simp [Live.put_frame, Live.release__frame]

@[simp] theorem Live.cmdFreeze_mem (L : Live) (s : Sess) :
    (L.orAbort (L.cmdFreeze s)).1.lgc.vm.mem = L.lgc.vm.mem := by
  unfold Live.cmdFreeze
  (repeat' split) <;> simp [Live.raise_frame]

@[simp] theorem Live.cmdRelease_mem (L : Live) (s : Sess) :
    (L.orAbort (L.cmdRelease s)).1.lgc.vm.mem = L.lgc.vm.mem := by
  unfold Live.cmdRelease
  (repeat' split) <;> simp [Live.releaseFreeze_frame]

@[simp] theorem Live.cmdClear_mem (L : Live) (s : Sess) :
    (L.orAbort (L.cmdClear s)).1.lgc.vm.mem = L.lgc.vm.mem := by
  unfold Live.cmdClear
  split
  · rfl
  · simp only [Live.orAbort_ok, Live.systemRecord_frame]

@[simp] theorem Live.cmdTwin_mem (L : Live) (v : Nat) :
    (L.orAbort (L.cmdTwin v)).1.lgc.vm.mem = L.lgc.vm.mem := by
  unfold Live.cmdTwin
  (repeat' split) <;> simp [Live.requestHandover_frame, Live.leaveStep_frame]

@[simp] theorem Live.cmdLower_mem (L : Live) (s : Sess) (level : Nat) :
    (L.orAbort (L.cmdLower s level)).1.lgc.vm.mem = L.lgc.vm.mem := by
  unfold Live.cmdLower
  (repeat' split) <;> simp [Live.modSession_frame]

@[simp] theorem Live.cmdTime_mem (L : Live) (s : Sess) (t : Nat) :
    (L.orAbort (L.cmdTime s t)).1.lgc.vm.mem = L.lgc.vm.mem := by
  unfold Live.cmdTime
  (repeat' split) <;> simp [Live.mgrEv_frame]

@[simp] theorem Live.writeTable_mem (L : Live) (b : Nat) (img : Bytes) :
    (L.orAbort (L.writeTable b img)).1.lgc.vm.mem = L.lgc.vm.mem := by
  unfold Live.writeTable
  (repeat' split) <;> simp [Live.put_frame, Live.putBlob_frame, Live.ev_frame]

@[simp] theorem Live.writeIntKey_mem (L : Live) (k : Bytes) :
    (L.orAbort (L.writeIntKey k)).1.lgc.vm.mem = L.lgc.vm.mem := by
  unfold Live.writeIntKey
  (repeat' split) <;> simp [Live.putBlob_frame]

@[simp] theorem Live.editWrite_mem (L : Live) (s : Sess) (k : Nat) (v : Int) :
    (L.orAbort (L.editWrite s k v)).1.lgc.vm.mem = L.lgc.vm.mem := by
  unfold Live.editWrite
  (repeat' split) <;> simp

@[simp] theorem Live.cmdLogicStop_mem (L : Live) :
    (L.orAbort L.cmdLogicStop).1.lgc.vm.mem = L.lgc.vm.mem := by
  unfold Live.cmdLogicStop
  (repeat' split) <;> simp

@[simp] theorem Live.cmdClearForces_mem (L : Live) (s : Sess) :
    (L.orAbort (L.cmdClearForces s)).1.lgc.vm.mem = L.lgc.vm.mem := by
  unfold Live.cmdClearForces
  simp [Live.forceEv_frame]

@[simp] theorem Live.cmdEraseInactive_mem (L : Live) :
    (L.orAbort L.cmdEraseInactive).1.lgc.vm.mem = L.lgc.vm.mem := by
  unfold Live.cmdEraseInactive
  simp [Live.put_frame, Live.putBlob_frame]

@[simp] theorem Live.cmdSetForce_mem (L : Live) (s : Sess) (v : Bytes) :
    (L.orAbort (L.cmdSetForce s v)).1.lgc.vm.mem = L.lgc.vm.mem := by
  unfold Live.cmdSetForce
  split
  · rfl
  · split
    · rfl
    · split
      · rfl
      · dsimp only
        split <;> simp [Live.forceEv_frame]

@[simp] theorem Live.cmdReleaseForce_mem (L : Live) (s : Sess) (n : Nat) :
    (L.orAbort (L.cmdReleaseForce s n)).1.lgc.vm.mem = L.lgc.vm.mem := by
  unfold Live.cmdReleaseForce
  (repeat' split) <;> simp [Live.forceEv_frame]

@[simp] theorem Live.cmdImage_mem (L : Live) (b : Nat) (image : Bytes) :
    (L.orAbort (L.cmdImage b image)).1.lgc.vm.mem = L.lgc.vm.mem := by
  unfold Live.cmdImage
  (repeat' split) <;> simp

end Sys2Proof.Machine
end

section
/-! The operations that write the logic engine's memory: each keeps its canonical form. -/

namespace Sys2Proof.Machine

open Sys2Proof

variable {L : Live}

theorem Live.logicRestart_wf (cold : Bool) (h : Memory.wf L.lgc.vm.mem = true) :
    Memory.wf (L.logicRestart cold).lgc.vm.mem = true := by
  unfold Live.logicRestart
  dsimp only
  (repeat' split) <;> simp [Live.lgcEv_frame, Live.selfBit_frame, Live.put_frame, Memory.wf_start, h]

theorem Live.logicStart_wf (cold : Bool) (h : Memory.wf L.lgc.vm.mem = true) :
    Memory.wf (L.logicStart cold).lgc.vm.mem = true := Live.logicRestart_wf cold h

theorem Live.prepareScan_wf (snap : Live) (h : Memory.wf L.lgc.vm.mem = true) :
    Memory.wf (Live.prepareScan snap L).lgc.vm.mem = true := by
  simp only [Live.prepareScan, Live.modLgc_lgc]
  exact Memory.wf_putAll (Memory.wf_clear (Memory.wf_putAll (Memory.wf_clear h _ _) _ _) _ _) _ _

theorem Live.ensureScan_wf (h : Memory.wf L.lgc.vm.mem = true) : Memory.wf L.ensureScan.lgc.vm.mem = true := by
  unfold Live.ensureScan
  split
  · exact h
  · exact Live.prepareScan_wf L h

theorem runLogic_wf (img : Bytes) (n : Nat) (skip : Bool) (L : Live) (h : Memory.wf L.lgc.vm.mem = true) :
    Memory.wf (runLogic img n skip L).1.lgc.vm.mem = true := by
  induction n generalizing skip L with
  | zero => exact h
  | succ n ih =>
    unfold runLogic
    (repeat' split)
    · exact h
    · exact h
    · exact h
    · exact L.logicOp_wf _ h
    · exact ih _ _ (L.logicOp_wf _ h)

theorem Live.afterRun_wf (r : Live × Option Nat) (h : Memory.wf r.1.lgc.vm.mem = true) :
    Memory.wf (Live.afterRun r).lgc.vm.mem = true := by
  unfold Live.afterRun
  (repeat' split) <;> simpa using h

theorem Live.logicScan_wf (snap : Live) (h : Memory.wf L.lgc.vm.mem = true) :
    Memory.wf (Live.logicScan snap L).lgc.vm.mem = true := by
  have hp := Live.prepareScan_wf snap h
  unfold Live.logicScan
  dsimp only
  split
  · exact h
  · split
    · simp only [Live.modLgc_lgc]
      split
      · exact h
      · exact hp
    · split
      · simpa using hp
      · exact Live.afterRun_wf _ (runLogic_wf _ _ _ _ hp)

theorem Live.stepHalted_wf (n : Nat) (h : Memory.wf L.lgc.vm.mem = true) : Memory.wf (L.stepHalted n).lgc.vm.mem = true := by
  have hr := runLogic_wf L.ensureScan.program n true _ (Live.ensureScan_wf h)
  unfold Live.stepHalted
  dsimp only
  (repeat' split) <;> simpa using hr

theorem Live.stepCourse_wf (h : Memory.wf L.lgc.vm.mem = true) : Memory.wf L.stepCourse.lgc.vm.mem = true :=
  Live.afterRun_wf _ (runLogic_wf _ _ _ _ (Live.ensureScan_wf h))

theorem Live.resumeLogic_wf (h : Memory.wf L.lgc.vm.mem = true) : Memory.wf L.resumeLogic.lgc.vm.mem = true := by
  have hr := runLogic_wf L.ensureScan.program maxScan true _ (Live.ensureScan_wf h)
  unfold Live.resumeLogic
  dsimp only
  split
  · simpa [Live.ev_frame] using h
  · split
    · simpa using hr
    · simp only [Live.ev_frame, Live.modLgc_lgc, Live.put_frame]
      split <;> simpa using hr

theorem Live.onHalted_wf (s : Sess) (node : Nat) {f : Live → Live} (hf : Memory.wf (f L).lgc.vm.mem = true)
    (h : Memory.wf L.lgc.vm.mem = true) : Memory.wf (L.onHalted s node f).1.lgc.vm.mem = true := by
  unfold Live.onHalted
  split
  · exact h
  · split
    · exact h
    · exact hf

theorem Live.debugEnded_wf (s : Sess) (node : Nat) (h : Memory.wf L.lgc.vm.mem = true) :
    Memory.wf (L.debugEnded s node).lgc.vm.mem = true := by
  have hd : Memory.wf (L.disarmLogic s node).lgc.vm.mem = true := h
  unfold Live.debugEnded
  dsimp only
  split
  · exact Live.resumeLogic_wf hd
  · exact hd

theorem Live.cmdDebug_wf (s : Sess) (k : Nat) (v : Bytes) (h : Memory.wf L.lgc.vm.mem = true) :
    Memory.wf (L.cmdDebug s k v).1.lgc.vm.mem = true := by
  unfold Live.cmdDebug
  dsimp only
  split
  · unfold Live.logicHaltBy
    (repeat' split) <;> exact h
  · split
    · exact Live.onHalted_wf _ _ (Live.stepHalted_wf _ h) h
    · exact h
  · split
    · exact Live.onHalted_wf _ _ (Live.stepCourse_wf h) h
    · exact h
  · exact Live.onHalted_wf _ _ (Live.resumeLogic_wf h) h
  · exact h
  · exact h
  · exact Live.debugEnded_wf _ _ h
  · exact h

theorem Live.activateLogic_wf (h : Memory.wf L.lgc.vm.mem = true) : Memory.wf L.activateLogic.lgc.vm.mem = true := by
  simp [Live.activateLogic, Live.lgcEv_frame, Live.forceEv_frame, Live.put_frame, Memory.wf_carry, h]

theorem Live.cmdActivateLogic_wf (drop : Bool) (h : Memory.wf L.lgc.vm.mem = true) :
    Memory.wf (L.cmdActivateLogic drop).1.lgc.vm.mem = true := by
  unfold Live.cmdActivateLogic
  dsimp only
  split
  · exact Live.activateLogic_wf h
  · simpa [Live.lgcEv_frame] using h

theorem Live.cmdLogicStart_wf (h : Memory.wf L.lgc.vm.mem = true) : Memory.wf (L.orAbort L.cmdLogicStart).1.lgc.vm.mem = true := by
  unfold Live.cmdLogicStart
  split
  · exact Live.logicStart_wf _ h
  · exact h

theorem Live.cmdColdLogic_wf (h : Memory.wf L.lgc.vm.mem = true) : Memory.wf L.cmdColdLogic.lgc.vm.mem = true := by
  unfold Live.cmdColdLogic
  split
  · simpa [Live.result_frame] using Live.logicStart_wf true h
  · simpa [Live.result_frame] using h

@[simp] theorem Live.cmdActivateSet_mem (L : Live) (level : Nat) : (L.cmdActivateSet level).1.lgc.vm.mem = L.lgc.vm.mem := by
  unfold Live.cmdActivateSet
  dsimp only
  (repeat' split) <;> simp [Live.put_frame]

theorem Live.cmdModule_wf (v : Nat) (h : Memory.wf L.lgc.vm.mem = true) : Memory.wf (L.cmdModule v).lgc.vm.mem = true := by
  unfold Live.cmdModule
  split
  case h_8 => exact Live.cmdColdLogic_wf h
  all_goals simpa [Live.cmdEnable_frame, Live.cmdDisable_frame, Live.cmdAcknowledge_frame, Live.cmdEnterService_frame,
    Live.cmdLeaveService_frame, Live.cmdEnterQuarry_frame, Live.result_frame, Live.cmdColdEst_frame] using h

theorem Live.vmWrites_wf (rs : List Req) (h : Memory.wf L.lgc.vm.mem = true) : Memory.wf (L.vmWrites rs).lgc.vm.mem = true := by
  unfold Live.vmWrites
  refine foldl_inv (fun M => Memory.wf M.lgc.vm.mem = true) _ (fun M it hM => ?_) _ L h
  split
  · exact Memory.wf_putAll hM _ _
  · exact hM

/-! ### The commit (12 R321, 15 R391) -/

theorem Live.applyCommand_wf (s : Sess) (level k : Nat) (v : Bytes) (due : Nat) (drop decided : Bool)
    (h : Memory.wf L.lgc.vm.mem = true) : Memory.wf (L.applyCommand s level k v due drop decided).1.lgc.vm.mem = true := by
  have keep : ∀ {M : Live} {r : Except Abort Live}, (M.orAbort r).1.lgc.vm.mem = L.lgc.vm.mem →
      Memory.wf (M.orAbort r).1.lgc.vm.mem = true := fun e => e ▸ h
  unfold Live.applyCommand
  extract_lets n f idx
  clear_value n
  split
  · split
    · exact keep (L.cmdSegment_mem _ _ _)
    · split
      · exact keep (L.cmdNode_mem _ _)
      · exact keep (L.cmdReplaced_mem _ _)
  · split
    · dsimp only
      split
      · simpa [Live.result_frame] using h
      · exact Live.cmdModule_wf n h
    · exact keep (L.cmdCan_mem _ _)
    · exact keep (L.cmdCan_mem _ _)
    · exact keep (L.cmdChisel_mem _ _)
    · exact keep (L.cmdCapture_mem _ _)
    · exact keep (L.cmdEst_mem _)
    · exact keep (((L.noteCheck n).cmdTable_mem n due).trans (L.noteCheck_mem n))
    · exact keep (L.cmdDiscardEdit_mem _)
    · simpa [Live.cmdConfirm_frame] using h
    · exact keep (L.cmdSafety_mem _)
    · split
      · exact Live.cmdLogicStart_wf h
      · exact keep L.cmdLogicStop_mem
      · exact Live.cmdActivateLogic_wf _ h
      · exact keep (L.cmdClearForces_mem _)
      · exact keep L.cmdEraseInactive_mem
    · exact keep (L.cmdSetForce_mem _ _)
    · exact keep (L.cmdReleaseForce_mem _ _)
    · refine keep (r := if n = 1 then L.cmdFreeze s else if n = 2 then L.cmdRelease s else L.cmdClear s) ?_
      (repeat' split) <;> simp
    · (repeat' split) <;> simpa [Live.cmdVerify_frame, Live.cmdDiscardSet_frame] using h
    · exact keep (L.cmdTwin_mem _)
    · (repeat' split) <;> simpa [Live.modSession_frame, Live.touch_frame, Live.cmdAuth_frame] using h
    · exact keep (L.cmdLower_mem _ _)
    · exact keep (L.cmdTime_mem _ _)
    · exact Live.cmdDebug_wf _ _ _ h

theorem items_wf (due : Nat) (r : Req) (its : List (Nat × Bytes)) (x : Live × Abort) (h : Memory.wf x.1.lgc.vm.mem = true) :
    Memory.wf (its.foldl (fun (a : Live × Abort) it => if isCommandObject it.1
      then a.1.applyCommand r.sess r.level it.1 it.2 due (bitOf r.flags 1) r.decided else a) x).1.lgc.vm.mem = true := by
  induction its generalizing x with
  | nil => exact h
  | cons it its ih =>
    refine ih _ ?_
    dsimp only
    split
    · exact Live.applyCommand_wf _ _ _ _ _ _ _ h
    · exact h

theorem runCommands_wf (due : Nat) (rs : List (Req × Abort × Nat)) (L : Live) (h : Memory.wf L.lgc.vm.mem = true) :
    Memory.wf (runCommands due rs L).1.lgc.vm.mem = true := by
  induction rs generalizing L with
  | nil => exact h
  | cons x rest ih =>
    obtain ⟨r, code, pos⟩ := x
    unfold runCommands
    dsimp only
    split
    · exact ih _ h
    · exact ih _ (items_wf due r r.items _ h)

end Sys2Proof.Machine
end

section
/-! The values of a commit (12 R321) leave the logic engine's memory alone; the commit and the course that follow it keep its form. -/

namespace Sys2Proof.Machine

open Sys2Proof

/-! ### Values -/

theorem orCode_mem {L : Live} {x : Live × Abort} (h : x.1.lgc.vm.mem = L.lgc.vm.mem) :
    (L.orAbort (orCode x)).1.lgc.vm.mem = L.lgc.vm.mem := by
  unfold orCode
  split
  · exact h
  · rfl

/-- What an operation leaves, read off its answer. -/
theorem mem_of_orAbort {L M : Live} {r : Except Abort Live} (hr : r = .ok M) (h : (L.orAbort r).1.lgc.vm.mem = L.lgc.vm.mem) :
    M.lgc.vm.mem = L.lgc.vm.mem := by
  rwa [hr] at h

@[simp] theorem Live.applyValue_mem (L : Live) (s : Sess) (k : Nat) (v : Bytes) :
    (L.orAbort (L.applyValue s k v)).1.lgc.vm.mem = L.lgc.vm.mem := by
  unfold Live.applyValue
  split
  · rfl
  · dsimp only
    split
    · simp
    · split
      · rfl
      · split
        · rfl
        · split
          case h_6 => exact orCode_mem (by simp [Live.writeManifest_frame])
          case h_7 => exact orCode_mem (by simp [Live.writeBlock_frame])
          all_goals simp [Live.put_frame, Live.putBlob_frame, Live.startPort_frame, Live.putDataRate_frame]

@[simp] theorem Live.outputValue_mem (L : Live) (k : Nat) (v : Bytes) :
    (L.orAbort (L.outputValue k v)).1.lgc.vm.mem = L.lgc.vm.mem := by
  unfold Live.outputValue
  split <;> simp [Live.put_frame]

theorem Fold.stage_L {c d : Fold} {r : Req} {i sub : Nat} {x : Int} (h : c.stage r i sub x = .ok d) : d.L = c.L := by
  unfold Fold.stage at h
  dsimp only at h
  split at h
  · cases h
  · injection h with h
    rw [← h]

theorem Fold.value_mem {stageOk : Bool} {c d : Fold} {r : Req} {k : Nat} {v : Bytes} (h : c.value stageOk r k v = .ok d) :
    d.L.lgc.vm.mem = c.L.lgc.vm.mem := by
  unfold Fold.value at h
  split at h
  · split at h
    · cases h
    · split at h
      · rw [Fold.stage_L h]
      · cases h
  · split at h
    · next M hM =>
      injection h with h
      rw [← h]
      split at hM
      · exact mem_of_orAbort hM (by simp)
      · exact mem_of_orAbort hM (by simp)
    · split at h
      · injection h with h
        simp [← h, Live.rewrite_frame]
      · cases h

theorem Fold.values_mem {stageOk : Bool} {r : Req} {i : Nat} {its : List (Nat × Bytes)} {c d : Fold}
    (h : Fold.values stageOk r i its c = .ok d) : d.L.lgc.vm.mem = c.L.lgc.vm.mem := by
  induction its generalizing i c with
  | nil =>
    injection h with h
    rw [h]
  | cons it rest ih =>
    unfold Fold.values at h
    split at h
    · cases h
    · split at h
      · exact ih h
      · split at h
        · next c' hc' => exact (ih h).trans (Fold.value_mem hc')
        · cases h

@[simp] theorem Fold.request_mem (stageOk : Bool) (due : Nat) (c : Fold) (r : Req) :
    (Fold.request stageOk due c r).L.lgc.vm.mem = c.L.lgc.vm.mem := by
  unfold Fold.request
  dsimp only
  split
  · rfl
  · rfl
  · split
    · rfl
    · rfl
    · split
      · rfl
      · next d hd =>
        have hmem := Fold.values_mem hd
        split
        · rfl
        · split
          · simp [Fold.refused, Live.tagged, Live.afterRefusal_frame]
          · exact hmem

@[simp] theorem Live.foldRequests_mem (L : Live) (stageOk : Bool) (due : Nat) (rs : List Req) :
    (L.foldRequests stageOk due rs).L.lgc.vm.mem = L.lgc.vm.mem := by
  have hfold : ∀ (c : Fold), (rs.foldl (Fold.request stageOk due) c).L.lgc.vm.mem = c.L.lgc.vm.mem := by
    induction rs with
    | nil => exact fun _ => rfl
    | cons r rs ih => exact fun c => (ih _).trans (Fold.request_mem stageOk due c r)
  exact hfold _

@[simp] theorem Live.commitValues_mem (L : Live) (due : Nat) (rs : List Req) :
    (L.commitValues due rs).L.lgc.vm.mem = L.lgc.vm.mem := by
  unfold Live.commitValues
  dsimp only
  split
  · simp
  · split
    · simp [Live.noteTable_frame, Live.commitTab_frame, Live.zeroCoefs_frame]
    · simp [Live.noteTable_frame, Live.ev_frame, Live.tabRefused_frame]

/-! ### The commit and the course -/

theorem Live.commit_wf {L : Live} (epoch : Nat) (mirrored : List Req) (h : Memory.wf L.lgc.vm.mem = true) :
    Memory.wf (L.commit epoch mirrored).1.lgc.vm.mem = true := by
  unfold Live.commit
  extract_lets due A lss com B edit c C D E confirms ks x F res G edited its keys ks' H I J K M N
  have hB : B.lgc.vm.mem = L.lgc.vm.mem := by
    simp only [B, lss]
    split <;> simp [A, Live.put_frame, Live.applyStep23_frame, Live.commitSnap_frame]
  have hD : D.lgc.vm.mem = L.lgc.vm.mem := by
    simp [D, C, Live.recommit_frame, Live.afterModeWrite_frame, c, Live.tabRefused_frame, hB]
  have hE : Memory.wf E.lgc.vm.mem = true := by
    simp only [E, Live.pendingActs_frame]
    exact Live.vmWrites_wf _ (hD ▸ h)
  have hF : Memory.wf F.lgc.vm.mem = true := runCommands_wf _ _ _ hE
  have hG : G.lgc = F.lgc := by
    simp only [G]
    split <;> simp [Live.setRole_frame]
  have hN : N.lgc.vm.mem = G.lgc.vm.mem := by
    simp [N, M, K, J, I, H, Live.jdoneAll_frame, Live.jwrite_frame, Live.drawNonce_frame, Live.put_frame]
  rw [hN, hG]
  exact hF

@[simp] theorem Live.courseEnd_mem (old snap L : Live) : (Live.courseEnd old snap L).lgc.vm.mem = L.lgc.vm.mem := by
  simp [Live.courseEnd, Live.startTransfer_frame, Live.noticeWatch_frame, Live.updLead_frame, Live.sendPdos_frame]

theorem commitAt_wf (old U L : Live) (epoch : Nat) (mirrored : List Req) (h : Memory.wf L.lgc.vm.mem = true) :
    Memory.wf (commitAt old U L epoch mirrored).1.lgc.vm.mem = true := by
  have hc := Live.commit_wf epoch mirrored h
  unfold commitAt
  dsimp only
  split <;> simpa [Live.answerReq_frame, Live.sendRecord_frame] using hc

/-! ### A twin's part in the commit of the other -/

@[simp] theorem Live.takeItem_mem (snap L : Live) (c : Nat) (d : Bytes) : (Live.takeItem snap L c d).lgc.vm.mem = L.lgc.vm.mem := by
  unfold Live.takeItem
  split <;> simp [Live.takeRequest_frame, Live.takeVerdicts_frame, Live.takeReadItem_frame, Live.takeEntry_frame, Live.takeNotice_frame]

@[simp] theorem Live.takeBulk_mem (snap L : Live) (f : Bytes) : (Live.takeBulk snap L f).lgc.vm.mem = L.lgc.vm.mem := by
  unfold Live.takeBulk
  dsimp only
  split
  · rfl
  · split <;> simp

theorem takeRecord_wf (s : State) (L : Live) (f : Bytes) (h : Memory.wf L.lgc.vm.mem = true) :
    Memory.wf (takeRecord s L f).live.lgc.vm.mem = true := by
  have hfail : ∀ n, Memory.wf (L.recordFails n).lgc.vm.mem = true := fun n => by simpa [Live.recordFails_frame] using h
  unfold takeRecord
  dsimp only
  split
  · split
    · dsimp only
      split
      · simpa [Live.holdRecord_frame] using h
      · exact h
    · exact h
  · split
    · exact h
    · split
      · exact h
      · split
        · exact h
        · split
          · exact hfail _
          · split
            · split
              · exact hfail _
              · split
                · exact hfail _
                · split
                  · exact hfail _
                  · exact commitAt_wf _ _ _ _ _ (by simpa [Live.noteSure_frame, Live.dropDecided_frame] using h)
            · split
              · exact hfail _
              · exact h

theorem takeFrame_wf (s : State) (f : Bytes) (h : Memory.wf s.live.lgc.vm.mem = true) :
    Memory.wf (takeFrame s f).live.lgc.vm.mem = true := by
  unfold takeFrame
  refine takeRecord_wf _ _ _ ?_
  simpa [Live.auxWatch_frame, Live.updLead_frame, Live.timeFrame_frame, Live.tokenFrame_frame, Live.obeyFrame_frame,
    Live.compareFrame_frame, Live.takeShared_frame, Live.partnerOff_frame, Live.pairStep_frame, Live.forwardedWords_frame,
    Live.storeFrame_frame] using h

theorem replayCommit_wf (s : State) (c : Nat × List Pend × Bytes) (h : Memory.wf s.live.lgc.vm.mem = true) :
    Memory.wf (replayCommit s c).live.lgc.vm.mem = true := by
  unfold replayCommit
  split
  · exact h
  · have hc := commitAt_wf s.snap s.live s.live c.1 (decidedReqs c.2.1) h
    dsimp only
    exact Live.logicScan_wf _ hc

theorem replayCommits_wf (cs : List (Nat × List Pend × Bytes)) (s : State) (h : Memory.wf s.live.lgc.vm.mem = true) :
    Memory.wf (cs.foldl replayCommit s).live.lgc.vm.mem = true := by
  induction cs generalizing s with
  | nil => exact h
  | cons c cs ih => exact ih _ (replayCommit_wf s c h)

end Sys2Proof.Machine
end

section
/-! What a row leaves of the logic engine's memory, by the shape of the row. -/

namespace Sys2Proof.Machine

open Sys2Proof

/-- Every next state that an outcome holds keeps the memory of the logic engine in its canonical form (14 R363). -/
def KeepsMemory (s : State) (o : Host.Outcome State Fault Refusal) : Prop :=
  ∀ t, o = .next t → Memory.wf s.live.lgc.vm.mem = true → Memory.wf t.live.lgc.vm.mem = true

theorem KeepsMemory.next {s t : State} (h : Memory.wf s.live.lgc.vm.mem = true → Memory.wf t.live.lgc.vm.mem = true) :
    KeepsMemory s (.next t) := by
  intro u hu
  injection hu with hu
  exact hu ▸ h

theorem KeepsMemory.refl (s : State) : KeepsMemory s (.next s) := .next id

theorem KeepsMemory.same {s t : State} (h : t.live.lgc.vm.mem = s.live.lgc.vm.mem) : KeepsMemory s (.next t) := .next (h ▸ id)

theorem OnlyNodes.keepsMemory {s : State} {o : Host.Outcome State Fault Refusal} (h : OnlyNodes s o) : KeepsMemory s o := by
  intro t ht hs
  have hmem := congrArg (fun u : State => u.live.lgc.vm.mem) (h t ht)
  exact hmem ▸ hs

theorem run_keepsMemory {s : State} {f : Live → Live}
    (h : ∀ L : Live, Memory.wf L.lgc.vm.mem = true → Memory.wf (f L).lgc.vm.mem = true) : KeepsMemory s (run s f) := by
  intro t ht hs
  rcases run_cases ht with ⟨-, rfl⟩ | ⟨-, rfl⟩
  · exact h _ hs
  · exact hs

theorem runIn_keepsMemory {i : Nat} {s : State} {f : Live → Live}
    (h : ∀ L : Live, Memory.wf L.lgc.vm.mem = true → Memory.wf (f L).lgc.vm.mem = true) : KeepsMemory s (runIn i s f) := by
  intro t ht hs
  rcases runIn_cases ht with ⟨-, -, -, rfl⟩ | rfl
  · exact h _ hs
  · exact hs

theorem portRun_keepsMemory {s : State} {f : Live → Live}
    (h : ∀ L : Live, Memory.wf L.lgc.vm.mem = true → Memory.wf (f L).lgc.vm.mem = true) : KeepsMemory s (portRun s f) := by
  refine run_keepsMemory fun L hL => ?_
  split
  · exact hL
  · exact h L hL

/-- What holds of a request's effect on every block, and of the block that is not asked, holds of the request. -/
theorem Live.asWrite_wf {L : Live} {sess : Sess} {k : Nat} {v : Bytes} {r : Live → Option Abort} {f : Live → Live × Abort}
    (h : ∀ M : Live, Memory.wf M.lgc.vm.mem = true → Memory.wf (f M).1.lgc.vm.mem = true) (hL : Memory.wf L.lgc.vm.mem = true) :
    Memory.wf (L.asWrite sess k v r f).lgc.vm.mem = true := by
  have hfwd : Memory.wf ((L.touch sess).forwardOn sess k v).1.lgc.vm.mem = true := by
    simpa [Live.forwardOn_frame, Live.touch_frame] using hL
  unfold Live.asWrite Live.asked
  split
  · dsimp only
    split
    · simpa [Live.passOn_frame, Live.touch_frame] using hL
    · split
      · simpa [Live.refuseArrival_frame] using hfwd
      · have hf := h _ hfwd
        simp only [Live.noteDone_frame, Live.finish]
        split <;> simpa [Live.accept_frame, Live.refuse_frame] using hf
  · exact hL

theorem asWrite_keepsMemory {s : State} {sess : Sess} {k : Nat} {v : Bytes} {r : Live → Option Abort} {f : Live → Live × Abort}
    (h : ∀ M : Live, Memory.wf M.lgc.vm.mem = true → Memory.wf (f M).1.lgc.vm.mem = true) :
    KeepsMemory s (run s (fun L => L.asWrite sess k v r f)) := run_keepsMemory fun _ hL => Live.asWrite_wf h hL

theorem command_keepsMemory {s : State} {sess : Sess} {level k : Nat} {v : Bytes} {f : Live → Live × Abort}
    (h : ∀ M : Live, Memory.wf M.lgc.vm.mem = true → Memory.wf (f M).1.lgc.vm.mem = true) :
    KeepsMemory s (run s (fun L => L.command sess level k v f)) := asWrite_keepsMemory fun _ hM => h _ hM

theorem inSession_keepsMemory {s : State} {tag : Byte} {level : Nat} {f : Live → Live}
    (h : ∀ M : Live, Memory.wf M.lgc.vm.mem = true → Memory.wf (f M).lgc.vm.mem = true) :
    KeepsMemory s (portRun s (fun L => L.inSession tag level f)) := by
  refine portRun_keepsMemory fun L hL => ?_
  have ht : Memory.wf (L.touch dbgSess).lgc.vm.mem = true := by simpa [Live.touch_frame] using hL
  unfold Live.inSession
  split
  · simpa [Live.respond_frame] using hL
  · dsimp only
    split
    · simpa [Live.respond_frame] using ht
    · exact h _ ht

theorem onConn_keepsMemory {s : State} {conn : Nat} {f : MbConn → Live → Live}
    (h : ∀ c (M : Live), Memory.wf M.lgc.vm.mem = true → Memory.wf (f c M).lgc.vm.mem = true) :
    KeepsMemory s (runIn 4 s (fun L => L.onConn conn f)) := by
  refine runIn_keepsMemory fun L hL => ?_
  unfold Live.onConn
  split
  · exact hL
  · exact h _ _ (by simpa [Live.touch_frame] using hL)

/-! ### Rows that leave the memory as it is -/

theorem run_leavesMemory {s : State} {f : Live → Live} (h : ∀ M, (f M).lgc.vm.mem = M.lgc.vm.mem) : KeepsMemory s (run s f) :=
  run_keepsMemory fun M hM => (h M).symm ▸ hM

theorem runIn_leavesMemory {i : Nat} {s : State} {f : Live → Live} (h : ∀ M, (f M).lgc.vm.mem = M.lgc.vm.mem) :
    KeepsMemory s (runIn i s f) := runIn_keepsMemory fun M hM => (h M).symm ▸ hM

theorem portRun_leavesMemory {s : State} {f : Live → Live} (h : ∀ M, (f M).lgc.vm.mem = M.lgc.vm.mem) :
    KeepsMemory s (portRun s f) := portRun_keepsMemory fun M hM => (h M).symm ▸ hM

theorem asWrite_leavesMemory {s : State} {sess : Sess} {k : Nat} {v : Bytes} {r : Live → Option Abort} {f : Live → Live × Abort}
    (h : ∀ M, (f M).1.lgc.vm.mem = M.lgc.vm.mem) : KeepsMemory s (run s (fun L => L.asWrite sess k v r f)) :=
  asWrite_keepsMemory fun M hM => (h M).symm ▸ hM

theorem command_leavesMemory {s : State} {sess : Sess} {level k : Nat} {v : Bytes} {f : Live → Live × Abort}
    (h : ∀ M, (f M).1.lgc.vm.mem = M.lgc.vm.mem) : KeepsMemory s (run s (fun L => L.command sess level k v f)) :=
  command_keepsMemory fun M hM => (h M).symm ▸ hM

theorem moduleRow_leavesMemory {s : State} {sess : Sess} {level code : Nat} {f : Live → Live}
    (h : ∀ M, (f M).lgc.vm.mem = M.lgc.vm.mem) : KeepsMemory s (run s (fun L => L.moduleRow sess level code f)) :=
  command_keepsMemory fun M hM => (h M).symm ▸ hM

theorem inSession_leavesMemory {s : State} {tag : Byte} {level : Nat} {f : Live → Live} (h : ∀ M, (f M).lgc.vm.mem = M.lgc.vm.mem) :
    KeepsMemory s (portRun s (fun L => L.inSession tag level f)) := inSession_keepsMemory fun M hM => (h M).symm ▸ hM

theorem onConn_leavesMemory {s : State} {conn : Nat} {f : MbConn → Live → Live} (h : ∀ c M, (f c M).lgc.vm.mem = M.lgc.vm.mem) :
    KeepsMemory s (runIn 4 s (fun L => L.onConn conn f)) := onConn_keepsMemory fun c M hM => (h c M).symm ▸ hM

end Sys2Proof.Machine
end

section
/-! The rows of the logic engine's instructions (14 R366) as instances of one operation of a program. -/

namespace Sys2Proof.Machine

open Sys2Proof

/-- The instructions that a program of the logic engine is made of (14 R366). -/
def isLogicRow : Instr → Bool
  | .nop | .ldb _ | .andb _ | .orb _ | .stb _ | .setb _ | .rstb _ | .notb | .pushb | .popand | .popor | .ld _ | .ldi _ | .ldhi _
  | .st _ | .add _ | .sub _ | .mul _ | .div _ | .addi _ | .and _ | .or _ | .shl _ | .shr _ | .min _ | .max _ | .eq _ | .ne _
  | .lt _ | .gt _ | .jmp _ | .jmpt _ | .jmpf _ | .loop _ | .next | .call _ | .ret | .end_ | .ton _ | .tof _ | .tp _ | .ctu _
  | .ctd _ | .ctud _ | .rTrig _ | .fTrig _ | .msgrx _ | .msgtx _ | .evt .. => true
  | _ => false

/-- An instruction that the load check accepts runs, as its row, the operation that a program of it runs. -/
theorem exec_of_loadOk {i : Instr} (h : isLogicRow i = true) (hok : loadOk i = true) (s : State) :
    exec i s = runIn 3 s (fun L => L.logicOp i) := by
  cases i
  case nop | notb | pushb | popand | popor | ldi | addi | shr | next | ret | end_ => rfl
  case ldb | andb | orb | stb | setb | rstb | ld | ldhi | st | add | sub | mul | div | and | or | shl | min | max | eq | ne | lt |
      gt | jmp | jmpt | jmpf | loop | call | ton | tof | tp | ctu | ctd | ctud | rTrig | fTrig | msgrx | msgtx | evt =>
    exact if_pos hok
  all_goals cases h

/-- One that the load check does not accept is refused. -/
theorem exec_of_not_loadOk {i : Instr} (h : isLogicRow i = true) (hok : loadOk i = false) (s : State) :
    ∃ r, exec i s = .refused r := by
  cases i
  case ldb | andb | orb | stb | setb | rstb | ld | ldhi | st | add | sub | mul | div | and | or | shl | min | max | eq | ne | lt |
      gt | jmp | jmpt | jmpf | loop | call | ton | tof | tp | ctu | ctd | ctud | rTrig | fTrig | msgrx | msgtx | evt =>
    exact ⟨_, if_neg (by simp [hok])⟩
  case nop | notb | pushb | popand | popor | ldi | addi | shr | next | ret | end_ => cases hok
  all_goals cases h

end Sys2Proof.Machine
end

section
/-! The rows whose own steps keep the logic engine's memory canonical. -/

namespace Sys2Proof.Machine

open Sys2Proof

/-! ### Rows with more to them than their shape -/

theorem rmsRatioBucket_keepsMemory (s : State) : KeepsMemory s (exec .rmsRatioBucket s) := by
  change KeepsMemory s (execRmsRatioBucket s)
  refine runIn_leavesMemory fun L => ?_
  dsimp only
  rw [lgc_mem_foldl Live.ratioCheck (fun M k => by simp only [Live.ratioCheck_frame])]

@[simp] theorem Live.thermModule_mem (L : Live) (vals : List (Option Int)) : (L.thermModule vals).lgc.vm.mem = L.lgc.vm.mem := by
  unfold Live.thermModule
  dsimp only
  rw [lgc_mem_foldl]
  intro M j
  rw [lgc_mem_foldl]
  intro N e
  simp only [Live.ev_frame]

theorem Live.lgc_withTherm (L : Live) (t : Therm) : ({ L with th := t } : Live).lgc = L.lgc := rfl

theorem Live.lgc_withCom (L : Live) (c : Com) : ({ L with com := c } : Live).lgc = L.lgc := rfl

theorem thermalEvaluation_keepsMemory (sensors : List (Option Int)) (s : State) :
    KeepsMemory s (exec (.thermalEvaluation sensors) s) := by
  change KeepsMemory s (execThermalEvaluation sensors s)
  refine runIn_leavesMemory fun L => ?_
  extract_lets M _ N was
  have hM : M.lgc = L.lgc := by simp only [M, Live.toMark_frame]
  have hN : N.lgc = L.lgc := (M.lgc_withTherm _).trans hM
  simp only [Live.derate_frame, Live.moduleShutdown_frame, Live.throttleHandover_frame, Live.chargeRefusal_frame,
    Live.thermFactor_frame, Live.thermEffects_frame, Live.overTemp_frame, Live.thermModule_mem, Live.thermNodes_frame, hN]

theorem crossChannelExchange_keepsMemory (valueDiff : Bool) (s : State) :
    KeepsMemory s (exec (.crossChannelExchange valueDiff) s) := by
  change KeepsMemory s (execCrossChannelExchange valueDiff s)
  refine runIn_leavesMemory fun L => ?_
  dsimp only
  simp only [Live.settleX_frame, Live.closeIfDue_frame, Live.relWatch_frame]
  rw [lgc_mem_foldl Live.exchangePair (fun M i => by simp only [Live.exchangePair_frame])]

theorem testPulseStart_keepsMemory (t2 : Bool) (lowA lowB : Nat) (fbLowP fbLowN : Bool) (s : State) :
    KeepsMemory s (exec (.testPulseStart t2 lowA lowB fbLowP fbLowN) s) := by
  change KeepsMemory s (execTestPulseStart t2 lowA lowB fbLowP fbLowN s)
  refine runIn_leavesMemory fun L => ?_
  dsimp only
  simp only [Live.pulseFeedback_frame]
  rw [lgc_mem_foldl _ (fun M i => by simp only [Live.pulseInput_frame])]
  simp only [Live.toPulse, Live.pass_frame]

theorem inputDiscrepancyTimeout_keepsMemory (pair : Fin 8) (s : State) :
    KeepsMemory s (exec (.inputDiscrepancyTimeout pair) s) := by
  change KeepsMemory s (execInputDiscrepancyTimeout pair s)
  refine runIn_leavesMemory fun L => ?_
  dsimp only
  (repeat' split) <;> simp [Live.modPair_frame, Live.reach_frame, Live.raise_frame]

theorem Live.pdoWrite_mem (m : List (Nat × Nat)) (data : Bytes) (L : Live) : (L.pdoWrite m data).lgc.vm.mem = L.lgc.vm.mem := by
  induction m generalizing L data with
  | nil => rfl
  | cons x rest ih =>
    unfold Live.pdoWrite
    dsimp only
    rw [ih]
    split
    · simp [Live.forward_frame]
    · split <;> simp [Live.forwardOn_frame]

theorem rpdoRx_keepsMemory (bus : Fin 2) (n : Fin 4) (data : Bytes) (s : State) : KeepsMemory s (exec (.rpdoRx bus n data) s) := by
  change KeepsMemory s (execRpdoRx bus n data s)
  refine runIn_leavesMemory fun L => ?_
  dsimp only
  split
  · rfl
  · exact Live.pdoWrite_mem _ _ _

theorem srdoRx_keepsMemory (bus : Fin 2) (k : Fin 8) (inverted : Bool) (data : Bytes) (s : State) :
    KeepsMemory s (exec (.srdoRx bus k inverted data) s) := by
  change KeepsMemory s (execSrdoRx bus k inverted data s)
  refine runIn_leavesMemory fun L => ?_
  dsimp only
  (repeat' split) <;> simp [Live.srdoTaken_frame, Live.modCan_frame]

theorem heartbeatTx_keepsMemory (s : State) : KeepsMemory s (exec .heartbeatTx s) := by
  change KeepsMemory s (execHeartbeatTx s)
  refine runIn_leavesMemory fun L => ?_
  split
  · rfl
  · extract_lets M _ N f
    have hM : M.lgc = L.lgc := by simp only [M, Live.reach_frame]
    have hN : N.lgc = L.lgc := (M.lgc_withCom _).trans hM
    simp only [Live.enqueue_frame, hN]

theorem busMonitorCheckEnd_keepsMemory (s : State) : KeepsMemory s (exec .busMonitorCheckEnd s) := by
  change KeepsMemory s (execBusMonitorCheckEnd s)
  refine runIn_leavesMemory fun L => ?_
  refine (lgc_mem_foldl _ (fun M b => ?_) _ _).trans ?_
  · split <;> simp [Live.modCan_frame]
  · split <;> simp

theorem withheldRecoveryStart_keepsMemory (bus : Fin 2) (s : State) : KeepsMemory s (exec (.withheldRecoveryStart bus) s) := by
  change KeepsMemory s (execWithheldRecoveryStart bus s)
  refine runIn_leavesMemory fun L => ?_
  dsimp only
  (repeat' split) <;> simp [Live.startRecovery_frame, Live.reach_frame]

theorem mirrorFrameSend_keepsMemory (s : State) : KeepsMemory s (exec .mirrorFrameSend s) := by
  have hbulk : ∀ M : Live, M.bulkSection.1.lgc.vm.mem = M.lgc.vm.mem := fun M => by
    unfold Live.bulkSection
    dsimp only
    split <;> rfl
  change KeepsMemory s (execMirrorFrameSend s)
  refine run_leavesMemory fun L => ?_
  split
  · rfl
  · dsimp only
    simp only [Live.emit_frame]
    exact (hbulk _).trans (by simp [Live.sayIdentity_frame])

theorem manualModuleTime_keepsMemory (sess : Sess) (time : Nat) (s : State) :
    KeepsMemory s (exec (.manualModuleTime sess time) s) := by
  change KeepsMemory s (execManualModuleTime sess time s)
  refine run_keepsMemory fun L hL => ?_
  split
  · unfold Live.asked
    split
    · simpa [Live.refuseArrival_frame, Live.touch_frame] using hL
    · exact hL
  · exact Live.asWrite_wf (fun M hM => (Live.cmdTime_mem _ sess time).symm ▸ hM) hL

theorem recordsRead_keepsMemory (sess : Sess) (s : State) : KeepsMemory s (exec (.recordsRead sess) s) := by
  change KeepsMemory s (execRecordsRead sess s)
  refine run_leavesMemory fun L => ?_
  unfold Live.asked
  split
  · simp [Live.answer_frame, Live.readRecord_frame, Live.touch_frame]
  · rfl

theorem Live.mbCall_mem (L : Live) (conn k fc start n : Nat) {f : Live → Live} (h : ∀ M, (f M).lgc.vm.mem = M.lgc.vm.mem) :
    (L.mbCall conn k fc start n f).lgc.vm.mem = L.lgc.vm.mem := by
  simp [Live.mbCall, Live.modConn_frame, h _]

theorem Live.mbObject_mem (L : Live) (conn fc start n k : Nat) (v : Bytes) :
    (L.mbObject conn fc start n k v).lgc.vm.mem = L.lgc.vm.mem :=
  L.mbCall_mem _ _ _ _ _ fun M => by simp [Live.write_frame]

theorem Live.mbWrite_mem (L : Live) (c : MbConn) (conn fc start n : Nat) (vals : List Nat) :
    (L.mbWrite c conn fc start n vals).lgc.vm.mem = L.lgc.vm.mem := by
  have hset : ∀ (f : MbConn → MbConn) (b : Bytes), ((L.modConn conn f).mbSend conn b).lgc.vm.mem = L.lgc.vm.mem := fun f b => by
    simp [Live.mbSend_frame, Live.modConn_frame]
  have hrefuse : ∀ (k : Nat) (e : Abort),
      (L.mbCall conn k fc start n (fun L => L.refuseArrival (mbSess conn) e)).lgc.vm.mem = L.lgc.vm.mem :=
    fun k e => L.mbCall_mem _ _ _ _ _ fun M => by simp [Live.refuseArrival_frame]
  unfold Live.mbWrite
  dsimp only
  (repeat' split) <;> simp only [hset, hrefuse, Live.mbObject_mem, Live.mbFail_frame]

theorem readHoldingRegisters_keepsMemory (conn : Fin 8) (start count : Nat) (s : State) :
    KeepsMemory s (exec (.readHoldingRegisters conn start count) s) := by
  refine onConn_leavesMemory (conn := conn.val) fun c M => ?_
  dsimp only
  split
  · simp [Live.mbFail_frame]
  · split
    · exact M.mbCall_mem _ _ _ _ _ fun N => by simp [Live.read_frame]
    · split <;> simp [Live.mbFail_frame, Live.mbSend_frame]

theorem writeSingleRegister_keepsMemory (conn : Fin 8) (reg value : Nat) (s : State) :
    KeepsMemory s (exec (.writeSingleRegister conn reg value) s) :=
  onConn_leavesMemory (conn := conn.val) fun c M => M.mbWrite_mem c ..

theorem writeMultipleRegisters_keepsMemory (conn : Fin 8) (start : Nat) (values : List Nat) (s : State) :
    KeepsMemory s (exec (.writeMultipleRegisters conn start values) s) := by
  refine onConn_leavesMemory (conn := conn.val) fun c M => ?_
  split
  · simp [Live.mbFail_frame]
  · exact M.mbWrite_mem c ..

theorem boot_keepsMemory (r : BootReport) (s : State) : KeepsMemory s (exec (.boot r) s) := by
  change KeepsMemory s (execBoot r s)
  refine run_keepsMemory fun L hL => ?_
  split
  · exact hL
  · extract_lets A B C D E F
    have hA : A.lgc.vm.mem = L.lgc.vm.mem := by
      simp [A, Live.tallyRestore, Live.holdupCheck, Live.ev_frame, Live.bump_frame, Live.raisePower_frame, Live.selfBit_frame,
        Live.put_frame]
    have hC : C.lgc.vm.mem = A.lgc.vm.mem := by
      simp [C, B, Live.selfBit_frame, Live.checkCopies_frame, Live.bootRestore_frame]
    have hD : Memory.wf D.lgc.vm.mem = true := by
      simp only [D, Live.put_frame]
      exact Live.logicRestart_wf _ (by rw [hC, hA]; exact hL)
    have hF : F.lgc.vm.mem = D.lgc.vm.mem := by
      have hcan : ∀ (M : Live) (b : Nat), (if M.boot (canKey b 0x0A) = 0 then M.setCan b 4 else M).lgc.vm.mem = M.lgc.vm.mem :=
        fun M b => by simp [Live.setCan_frame]
      simp only [F]
      rw [lgc_mem_foldl _ hcan]
      simp only [E, Live.put_frame, Live.estRestart_frame]
    dsimp only
    rw [hF]
    exact hD

theorem Live.setAux_mem (L : Live) (input : Fin 2) (on : Bool) (mv : Nat) : (L.setAux input on mv).lgc.vm.mem = L.lgc.vm.mem := by
  simp [Live.setAux, Live.put_frame]

theorem auxInputPresent_keepsMemory (input : Fin 2) (mv : Nat) (s : State) : KeepsMemory s (exec (.auxInputPresent input mv) s) := by
  change KeepsMemory s (execAuxInputPresent input mv s)
  unfold execAuxInputPresent
  dsimp only
  split
  · exact .refl s
  · refine .same ?_
    (repeat' split) <;> simp [Live.setAux_mem, Live.sourceEvent_frame]

theorem auxInputAbsent_keepsMemory (input : Fin 2) (mv : Nat) (s : State) : KeepsMemory s (exec (.auxInputAbsent input mv) s) := by
  change KeepsMemory s (execAuxInputAbsent input mv s)
  unfold execAuxInputAbsent
  dsimp only
  split
  · exact .refl s
  · refine .same ?_
    split <;> simp [Live.setAux_mem, Live.auxLost_frame, Live.sourceEvent_frame]

theorem allSuppliesLost_keepsMemory (s : State) : KeepsMemory s (exec .allSuppliesLost s) := by
  change KeepsMemory s (execAllSuppliesLost s)
  unfold execAllSuppliesLost
  dsimp only
  split
  · exact .same (by simp [Live.setAux_mem])
  · refine .same ?_
    (repeat' split) <;> simp [Live.setAux_mem, Live.sourceEvent_frame, Live.put_frame, Live.requestHandover_frame,
      Live.openLoop_frame, Live.setFast_frame, Live.supplyLossSafe_frame]

theorem wakePulse_keepsMemory (ms : Nat) (s : State) : KeepsMemory s (exec (.wakePulse ms) s) := by
  change KeepsMemory s (execWakePulse ms s)
  unfold execWakePulse
  split
  · exact .same (by simp)
  · exact .refl s

theorem Live.lgc_withTime (L : Live) (t : TimeU) : ({ L with time := t } : Live).lgc = L.lgc := rfl

theorem Live.toBoundary_lgc (L : Live) : L.toBoundary.lgc = L.lgc := by
  unfold Live.toBoundary
  extract_lets last b M
  exact (M.lgc_withTime _).trans (by simp only [M, Live.pass_frame])

theorem courseBoundary_keepsMemory (s : State) : KeepsMemory s (exec .courseBoundary s) := by
  change KeepsMemory s (execCourseBoundary s)
  unfold execCourseBoundary
  split
  · extract_lets U twin x
    have hU : U.lgc = s.live.lgc := by simp only [U, Live.closeCourse_frame, Live.toBoundary_lgc]
    clear_value U
    split
    · refine .same ?_
      simp only [hU]
    · have hx := commitAt_wf s.snap U U (s.live.ks.epoch + 1) []
      rw [hU] at hx
      exact .next hx
  · exact .refl s

theorem odRead_keepsMemory (sess : Sess) (index sub : Nat) (segmented : Bool) (s : State) :
    KeepsMemory s (exec (.odRead sess index sub segmented) s) := by
  change KeepsMemory s (execOdRead sess index sub segmented s)
  unfold execOdRead
  split
  · exact .refl s
  · exact .same (by simp [Live.read_frame, Live.setReading_frame, Live.touch_frame])

theorem segmentedReadTimeout_keepsMemory (sess : Sess) (s : State) : KeepsMemory s (exec (.segmentedReadTimeout sess) s) := by
  change KeepsMemory s (execSegmentedReadTimeout sess s)
  unfold execSegmentedReadTimeout
  split
  · exact .refl s
  · split
    · exact .refl s
    · refine .same ?_
      dsimp only
      split <;> simp [Live.setReading_frame, Live.refuse_frame, Live.reach_frame]

theorem mirrorFrameRx_keepsMemory (frame : Bytes) (primary secondary : Fin 3) (s : State) :
    KeepsMemory s (exec (.mirrorFrameRx frame primary secondary) s) := by
  change KeepsMemory s (execMirrorFrameRx frame primary secondary s)
  have hfib : ∀ a b, ((s.live.fibre 0 a).fibre 1 b).lgc.vm.mem = s.live.lgc.vm.mem := fun a b => by simp [Live.fibre_frame]
  unfold execMirrorFrameRx
  extract_lets _ ok copy L
  split
  · exact .refl s
  · split
    · exact .next fun hs => takeFrame_wf _ _ ((hfib _ _).symm ▸ hs)
    · exact .same (hfib _ _)

theorem mirrorFrameMissing_keepsMemory (s : State) : KeepsMemory s (exec .mirrorFrameMissing s) := by
  change KeepsMemory s (execMirrorFrameMissing s)
  unfold execMirrorFrameMissing
  dsimp only
  split
  · exact .refl s
  · split
    · exact .same (by simp [Live.auxWatch_frame, Live.partnerOff_frame, Live.bump_frame, Live.fibre_frame])
    · exact .same (by simp [Live.bump_frame, Live.fibre_frame])

/-- The state transfer takes the memory of an image that was found in shape (15 R398). -/
theorem stateTransferComplete_keepsMemory (s : State) : KeepsMemory s (exec .stateTransferComplete s) := by
  change KeepsMemory s (execStateTransferComplete s)
  unfold execStateTransferComplete
  dsimp only
  split
  · exact .refl s
  · split
    · next C t n hC _ =>
      obtain ⟨-, hok⟩ := Option.filter_eq_some_iff.mp hC
      have hmem : Memory.wf C.lgc.vm.mem = true := by
        simp only [Live.shaped, Bool.and_eq_true] at hok
        obtain ⟨⟨⟨⟨h, -⟩, -⟩, -⟩, -⟩ := hok
        exact h
      refine .next fun _ => ?_
      simp only [Live.twinEv_frame, Live.bump_frame, Live.put_frame, Live.replaySweeps_frame]
      refine replayCommits_wf _ _ ?_
      simp only [Live.takeState_frame]
      exact hmem
    · exact .refl s

end Sys2Proof.Machine
end

section
/-! No step breaks the canonical form of the logic engine's memory (14 R363). -/

namespace Sys2Proof.Machine

open Sys2Proof

/-- An instruction of a program, run as its row. -/
theorem logicRow_keepsMemory {c : Instr} (h : isLogicRow c = true) (s : State) : KeepsMemory s (exec c s) := by
  cases hok : loadOk c with
  | true =>
    rw [exec_of_loadOk h hok]
    exact runIn_keepsMemory fun L hL => L.logicOp_wf c hL
  | false =>
    obtain ⟨r, hr⟩ := exec_of_not_loadOk h hok s
    rw [hr]
    exact fun t ht => nomatch ht

/-- The commands of the supply and the start-up (02, 03). -/
theorem startUp_keepsMemory {c : Instr} (hfam : family c = .startUp) (s : State) : KeepsMemory s (exec c s) := by
  cases c with
  | auxInputPresent input mv => exact auxInputPresent_keepsMemory input mv s
  | auxInputAbsent input mv => exact auxInputAbsent_keepsMemory input mv s
  | allSuppliesLost => exact allSuppliesLost_keepsMemory s
  | wakePulse ms => exact wakePulse_keepsMemory ms s
  | boot r => exact boot_keepsMemory r s
  | cmdColdRestartLogic =>
    dsimp only [exec]
    exact command_keepsMemory fun _ hM => Live.cmdColdLogic_wf hM
  | courseBoundary => exact courseBoundary_keepsMemory s
  | holdupSealComplete | quarryEntryComplete | watchdogExpiry | bootComplete | dupNodeIdListenEnd | sampleStrobe =>
    dsimp only [exec]
    exact run_leavesMemory fun _ => by simp [Live.applyStep_frame, Live.pass_frame, Live.reach_frame, Live.seal_frame,
        Live.setFast_frame, Live.setNmt_frame, Live.setState_frame, Live.takeHits_frame]
  | selftestComplete =>
    dsimp only [exec]
    exact run_leavesMemory fun _ => by simp [Live.enterStandby_frame, Live.firstToken_frame, Live.latchCause_frame,
        Live.latchTrips_frame, Live.raise_frame, Live.rejoinPair_frame, Live.setFast_frame, Live.testResults_frame]
  | cmdEnable | cmdDisable | cmdAcknowledge | cmdEnterService | cmdLeaveService | cmdEnterQuarry | cmdReset | cmdColdRestartEstimator =>
    dsimp only [exec]
    exact moduleRow_leavesMemory fun _ => by simp [Live.cmdAcknowledge_frame, Live.cmdColdEst_frame, Live.cmdDisable_frame,
        Live.cmdEnable_frame, Live.cmdEnterQuarry_frame, Live.cmdEnterService_frame, Live.cmdLeaveService_frame, Live.result_frame]
  | pendingEnableExpiry | prechargeCooldownEnd | controlSample =>
    dsimp only [exec]
    exact run_leavesMemory fun _ => by (repeat' split) <;> simp [Live.brkIsland_frame, Live.crossing_frame, Live.reach_frame,
        Live.result_frame, Live.sample_frame]
  | derateHoldExpiry | captureComplete | chiselComplete | impedanceWindowBoundary | downlinkLatch =>
    dsimp only [exec]
    exact runIn_leavesMemory fun _ => by simp [Live.clearWindow_frame, Live.ev_frame, Live.evalWindow_frame, Live.pass_frame,
        Live.reach_frame, Live.setState_frame]
  | _ => cases hfam

/-- The commands of the segment links, the nodes and the conversion (05, 06). -/
theorem linksAndConversion_keepsMemory {c : Instr} (hfam : family c = .linksAndConversion) (s : State) : KeepsMemory s (exec c s) := by
  cases c with
  | nodeDownlinkFrameRx node port frame lineOk => exact (nodeDownlinkFrameRx_onlyNodes node port frame lineOk s).keepsMemory
  | nodeSuperframeStart node inBound => exact (nodeSuperframeStart_onlyNodes node inBound s).keepsMemory
  | nodeDesaturation node high => exact (nodeDesaturation_onlyNodes node high s).keepsMemory
  | hardBypassLatchSet node periods => exact (hardBypassLatchSet_onlyNodes node periods s).keepsMemory
  | nodePortsDark node us => exact (nodePortsDark_onlyNodes node us s).keepsMemory
  | mgmtRead node port tag addr len => exact (mgmtRead_onlyNodes node port tag addr len s).keepsMemory
  | mgmtWrite node port tag addr data => exact (mgmtWrite_onlyNodes node port tag addr data s).keepsMemory
  | imageBlock node port tag block data => exact (imageBlock_onlyNodes node port tag block data s).keepsMemory
  | imageActivate node port tag digest => exact (imageActivate_onlyNodes node port tag digest s).keepsMemory
  | latchRelease node port tag checkOk => exact (latchRelease_onlyNodes node port tag checkOk s).keepsMemory
  | comparatorTest node port tag passed => exact (comparatorTest_onlyNodes node port tag passed s).keepsMemory
  | rmsRatioBucket => exact rmsRatioBucket_keepsMemory s
  | superframeStart | uplinkFrameRx | uplinkMissingTimeout =>
    dsimp only [exec]
    exact runIn_leavesMemory fun _ => by simp [Live.minorityReports, Live.badUplink_frame, Live.goodUplink_frame, Live.linkDown_frame,
        Live.pass_frame, Live.segEv_frame, Live.segFrame_frame, Live.tokenReports_frame, Live.unplanned_frame]
  | bypassConfirmTimeout | mgmtResponseRx | mgmtTimeout =>
    dsimp only [exec]
    exact runIn_leavesMemory fun _ => by (repeat' split) <;> simp [Live.emit_frame, Live.hardBypass_frame, Live.modSeg_frame,
        Live.pass_frame, Live.pumpReq_frame, Live.requestFailed_frame, Live.segEv_frame, Live.takeResponse_frame]
  | uplinkWordsLostTimeout | linkCommaLock | softstartContactorsClosed | softstartSwitchClosed | softstartMatchTimeout |
    softstartSwitchTimeout | balancingAgeTick =>
    dsimp only [exec]
    exact runIn_leavesMemory fun _ => by simp [Live.ageTick_frame, Live.pass_frame, Live.prechargeFault_frame, Live.reach_frame,
        Live.setPhase_frame, Live.startBring_frame, Live.trip_frame]
  | nodeCmdCommission | nodeCmdReleaseLatch | nodeCmdRepeatBringup | nodeCmdComparatorTest | segCmdBypass | segCmdReturn =>
    dsimp only [exec]
    exact command_leavesMemory fun _ => by simp
  | busCollapseDetected | busCollapseRelease | softstartMatched | softstartComplete | shortAbort | prechargeTimeout =>
    dsimp only [exec]
    exact runIn_leavesMemory fun _ => by (repeat' split) <;> simp [Live.convEv_frame, Live.modeAtT9_frame, Live.prechargeFault_frame,
        Live.reach_frame, Live.setFast_frame, Live.setPhase_frame, Live.setState_frame]
  | _ => cases hfam

/-- The commands of the estimator and the temperatures (08, 09). -/
theorem estimation_keepsMemory {c : Instr} (hfam : family c = .estimation) (s : State) : KeepsMemory s (exec c s) := by
  cases c with
  | thermalEvaluation sensors => exact thermalEvaluation_keepsMemory sensors s
  | estimatorSweep =>
    dsimp only [exec]
    exact runIn_leavesMemory fun _ => by simp [Live.holdSweep_frame, Live.sweep_frame, Live.toMark_frame]
  | uncertaintyLimitExceeded | referenceWindowComplete | referenceRequestUnmet =>
    dsimp only [exec]
    exact runIn_leavesMemory fun _ => by (repeat' split) <;> simp [Live.ev_frame, Live.put_frame, Live.reach_frame,
        Live.windowCells_frame]
  | estCmdRequestWindow | estCmdWithdrawRequest | segEstCmdReplaced | tableCmdSwitchBank | tableCmdEraseBank =>
    dsimp only [exec]
    exact command_leavesMemory fun _ => by simp
  | tableImageWrite =>
    dsimp only [exec]
    exact asWrite_leavesMemory fun _ => by simp
  | _ => cases hfam

/-- The commands of the safety functions (10). -/
theorem safety_keepsMemory {c : Instr} (hfam : family c = .safety) (s : State) : KeepsMemory s (exec c s) := by
  cases c with
  | crossChannelExchange valueDiff => exact crossChannelExchange_keepsMemory valueDiff s
  | inputDiscrepancyTimeout pair => exact inputDiscrepancyTimeout_keepsMemory pair s
  | testPulseStart t2 lowA lowB fbLowP fbLowN => exact testPulseStart_keepsMemory t2 lowA lowB fbLowP fbLowN s
  | crossChannelMismatch | seqStep1End | classSHoldoffExpiry | lintelOpenTimeout | step4BlockedTimeout | bayTripHeldTimeout |
    unmonitoredLimitExpiry =>
    dsimp only [exec]
    exact runIn_leavesMemory fun _ => by (repeat' split) <;> simp [Live.holdoffEnds_frame, Live.raise_frame, Live.reach_frame,
        Live.seqOn_frame, Live.setSeq_frame, Live.sf12_frame, Live.toStep2_frame, Live.toStep3_frame]
  | channelBSample | fastComparatorTrip | fastComparatorCheck | i2tBlock | loopTest | contactorOpenTimeout | unexpectedOpeningTimeout |
    srdoSctExpiry =>
    dsimp only [exec]
    exact runIn_leavesMemory fun _ => by simp [Live.heartbeatWord_frame, Live.put_frame, Live.reach_frame, Live.setFast_frame,
        Live.sf09_frame, Live.sf12_frame, Live.toPhase_frame, Live.trip_frame, Live.updExpect_frame]
  | loopTestExpiry =>
    dsimp only [exec]
    exact runIn_leavesMemory fun _ => by (repeat' split) <;> simp [Live.put_frame, Live.raise_frame, Live.reach_frame,
        Live.senseLoop_frame, Live.sf12_frame, Live.updExpect_frame]
  | safetyInputChange | feedbackInputChange | bayTripRead =>
    dsimp only [exec]
    exact runIn_leavesMemory fun _ => by simp [Live.alsoB_frame, Live.fbClock_frame, Live.holdoffEnds_frame, Live.insContactors_frame,
        Live.judgePair_frame, Live.modPair_frame, Live.pairTrip_frame, Live.seqOn_frame, Live.trip_frame]
  | contactorCloseTimeout | switchDiscrepancyTimeout | safetyReleaseTimer | srdoRefresh =>
    dsimp only [exec]
    exact runIn_leavesMemory fun _ => by simp [Live.noticeWatch_frame, Live.openLoop_frame, Live.prechargeFault_frame, Live.reach_frame,
        Live.release__frame, Live.sendSrdo_frame, Live.seqOn_frame, Live.sf09_frame, Live.toStep3_frame]
  | safetyCmdReleaseSf09 | safetyCmdReleaseDeepSf02 =>
    dsimp only [exec]
    exact command_leavesMemory fun _ => by simp
  | pePathTest | insulationHalfPeriod | insulationSelftest =>
    dsimp only [exec]
    exact runIn_leavesMemory fun _ => by simp [Live.toHalf, Live.insOnBus_frame, Live.insOwn_frame, Live.insRelay_frame,
        Live.insReport_frame, Live.pass_frame, Live.put_frame, Live.raise_frame, Live.selfBit_frame]
  | insulationListenGap | twinXLowDetected | twinXTestPulse | opticalMarginLow =>
    dsimp only [exec]
    exact runIn_leavesMemory fun _ => by simp [Live.endObeyed_frame, Live.insRelay_frame, Live.obey_frame, Live.put_frame,
        Live.raise_frame, Live.segEv_frame, Live.setRole_frame, Live.toPhase_frame, Live.twinEv_frame]
  | _ => cases hfam

/-- The commands of the buses (11). -/
theorem can_keepsMemory {c : Instr} (hfam : family c = .can) (s : State) : KeepsMemory s (exec c s) := by
  cases c with
  | srdoRx bus k inverted data => exact srdoRx_keepsMemory bus k inverted data s
  | rpdoRx bus n data => exact rpdoRx_keepsMemory bus n data s
  | heartbeatTx => exact heartbeatTx_keepsMemory s
  | busMonitorCheckEnd => exact busMonitorCheckEnd_keepsMemory s
  | canFrameRx | startRemoteNode | stopRemoteNode | enterPreOperational | resetNode | resetCommunication | txBufferLoad | canTxComplete
    | framePromotion | frameDeadline | canBusOff | busOffRecoveryComplete =>
    dsimp only [exec]
    exact runIn_leavesMemory fun _ => by simp [Live.busOff_frame, Live.canAccept_frame, Live.canRejoin_frame, Live.deadlines_frame,
        Live.loadBuffer_frame, Live.promote_frame, Live.resetCom_frame, Live.setNmt_frame, Live.txEnd_frame]
  | heartbeatRx =>
    dsimp only [exec]
    exact run_leavesMemory fun _ => by simp [Live.ev_frame, Live.put_frame]
  | canErrorPassive | canErrorActive | canNoAckTimeout | referenceMessageSend | referenceCancelTimeout =>
    dsimp only [exec]
    exact runIn_leavesMemory fun _ => by simp [Live.freeCounters, Live.cancelReference_frame, Live.degraded_frame, Live.enqueue_frame,
        Live.ev_frame, Live.modCan_frame, Live.put_frame, Live.setCan_frame, Live.toPhase_frame]
  | canCmdRecover | canCmdClearCounters =>
    dsimp only [exec]
    exact command_leavesMemory fun _ => by simp
  | referenceMessageRx | followUpRx | timeHoldoverEntry | holdoverLimitExpiry | managerSilenceTimeout =>
    dsimp only [exec]
    exact runIn_leavesMemory fun _ => by simp [Live.referenceRx, Live.discardUsed_frame, Live.ev_frame, Live.followUpRx_frame,
        Live.put_frame, Live.reach_frame, Live.selfBit_frame]
  | _ => cases hfam

/-- The commands of the dictionary (12). -/
theorem dictionary_keepsMemory {c : Instr} (hfam : family c = .dictionary) (s : State) : KeepsMemory s (exec c s) := by
  cases c with
  | odRead sess index sub segmented => exact odRead_keepsMemory sess index sub segmented s
  | segmentedReadTimeout sess => exact segmentedReadTimeout_keepsMemory sess s
  | lssSwitchStateGlobal | lssSwitchStateSelective | lssConfigureNodeId | lssStoreConfiguration | lssIdentifyRemoteSlave |
    lssIdentifyNonConfigured | lssInquireVendor | lssInquireProduct | lssInquireRevision | lssInquireSerial | lssInquireNodeId =>
    dsimp only [exec]
    exact runIn_leavesMemory fun _ => by simp [Live.lssInquire_frame, Live.lssSend_frame, Live.lssSet_frame]
  | odWrite | transaction | readListResultRead | safetySetCrcCheck =>
    dsimp only [exec]
    exact run_leavesMemory fun _ => by simp [Live.checkCopies_frame, Live.read_frame, Live.touch_frame, Live.write_frame]
  | authResponse | lowerLevel | safetyCmdDiscardEdit | safetySetConfirm =>
    dsimp only [exec]
    exact command_leavesMemory fun _ => by simp [Live.cmdAuth_frame, Live.cmdConfirm_frame]
  | sessionIdleTimeout | authLockExpiry | editCopyTimeout =>
    dsimp only [exec]
    exact run_leavesMemory fun _ => by (repeat' split) <;> simp [Live.modSession_frame, Live.reach_frame]
  | safetyParamWrite =>
    dsimp only [exec]
    exact asWrite_leavesMemory fun _ => by (repeat' split) <;> simp
  | _ => cases hfam

/-- The commands of the bay manager (13). -/
theorem bayManager_keepsMemory {c : Instr} (hfam : family c = .bayManager) (s : State) : KeepsMemory s (exec c s) := by
  cases c with
  | manualModuleTime sess time => exact manualModuleTime_keepsMemory sess time s
  | readHoldingRegisters conn start count => exact readHoldingRegisters_keepsMemory conn start count s
  | writeSingleRegister conn reg value => exact writeSingleRegister_keepsMemory conn reg value s
  | writeMultipleRegisters conn start values => exact writeMultipleRegisters_keepsMemory conn start values s
  | summarySend | summaryRx | summaryDeadline | baySnapshotSend | baySnapshotRx | dispatchStepRx | dataPlaneSend | ptpDelayReqSend |
    arpRequest | icmpEchoRequest =>
    dsimp only [exec]
    exact runIn_leavesMemory fun _ => by simp [Live.sendPlane, Live.emit_frame, Live.holdSnapshot_frame, Live.holdStep_frame,
        Live.onBoth_frame, Live.sendBay_frame, Live.summaryDeadline_frame, Live.takeSummary_frame, Live.toPhase_frame]
  | ptpAnnounceRx | ptpSyncRx | siteTimeHoldover | siteTimeWaitExpiry | ethernetLinkChange =>
    dsimp only [exec]
    exact runIn_leavesMemory fun _ => by simp [Live.announce_frame, Live.mgrEv_frame, Live.put_frame, Live.reach_frame,
        Live.siteSync_frame]
  | ptpFollowUpRx | ptpDelayRespRx | modbusConnect =>
    dsimp only [exec]
    exact runIn_leavesMemory fun _ => by (repeat' split) <;> simp [Live.mgrEv_frame, Live.siteSync_frame, Live.touch_frame]
  | readInputRegisters =>
    dsimp only [exec]
    exact onConn_leavesMemory fun _ _ => by (repeat' split) <;> simp [Live.mbFail_frame, Live.mbSend_frame]
  | readDeviceIdentification =>
    dsimp only [exec]
    exact onConn_leavesMemory fun _ _ => by simp [Live.mbSend_frame]
  | _ => cases hfam

/-- The commands of the logic engine (14). -/
theorem logic_keepsMemory {c : Instr} (hfam : family c = .logic) (s : State) : KeepsMemory s (exec c s) := by
  cases hrow : isLogicRow c with
  | true => exact logicRow_keepsMemory hrow s
  | false =>
    cases c with
    | logicScan =>
      dsimp only [exec]
      exact runIn_keepsMemory fun _ hL => Live.logicScan_wf s.snap hL
    | logicCmdStart =>
      dsimp only [exec]
      exact command_keepsMemory fun _ hM => Live.cmdLogicStart_wf hM
    | logicCmdActivate =>
      dsimp only [exec]
      exact command_keepsMemory fun _ hM => Live.cmdActivateLogic_wf false hM
    | scanOverrun =>
      dsimp only [exec]
      exact runIn_leavesMemory fun _ => by simp
    | logicCmdStop | logicCmdClearForces | logicCmdEraseInactive | setForce | releaseForce =>
      dsimp only [exec]
      exact command_leavesMemory fun _ => by simp
    | logicImageWrite =>
      dsimp only [exec]
      exact asWrite_leavesMemory fun _ => by simp
    | nop | ldb | andb | orb | stb | setb | rstb | notb | pushb | popand | popor | ld | ldi | ldhi | st | add | sub | mul | div | addi |
      and | or | shl | shr | min | max | eq | ne | lt | gt | jmp | jmpt | jmpf | loop | next | call | ret | end_ | ton | tof | tp | ctu
      | ctd | ctud | rTrig | fTrig | msgrx | msgtx | evt => cases hrow
    | _ => cases hfam

/-- The commands of twin, recorder, capture and chisel (15, 16, 07). -/
theorem twinAndRecorder_keepsMemory {c : Instr} (hfam : family c = .twinAndRecorder) (s : State) : KeepsMemory s (exec c s) := by
  cases c with
  | mirrorFrameSend => exact mirrorFrameSend_keepsMemory s
  | mirrorFrameRx frame primary secondary => exact mirrorFrameRx_keepsMemory frame primary secondary s
  | mirrorFrameMissing => exact mirrorFrameMissing_keepsMemory s
  | stateTransferComplete => exact stateTransferComplete_keepsMemory s
  | recordsRead sess => exact recordsRead_keepsMemory sess s
  | captureDataRead sess => exact odRead_keepsMemory sess _ _ _ s
  | pairCheckComplete | urgentWordRx =>
    dsimp only [exec]
    exact runIn_leavesMemory fun _ => by simp [Live.acceptHandover_frame, Live.breakClean_frame, Live.checkOutcome_frame,
        Live.obey_frame, Live.put_frame, Live.toPartner_frame, Live.twinEv_frame]
  | stateTransferTimeout | handoverClaimLimit =>
    dsimp only [exec]
    exact runIn_leavesMemory fun _ => by (repeat' split) <;> simp [Live.finishHandover_frame, Live.pass_frame, Live.reach_frame,
        Live.settleClaim_frame, Live.twinEv_frame]
  | twinCmdHandover | twinCmdResync | recorderCmdFreeze | recorderCmdRelease | recorderCmdClear | captureArm | captureForceTrigger |
    captureAbort | chiselStart | chiselStop =>
    dsimp only [exec]
    exact command_leavesMemory fun _ => by simp
  | recordCommit | repeatUpdate =>
    dsimp only [exec]
    exact run_leavesMemory fun _ => by simp [Live.commitRecord_frame, Live.repeatInPlace_frame]
  | freezeTimeout =>
    dsimp only [exec]
    exact run_leavesMemory fun _ => by (repeat' split) <;> simp [Live.reach_frame, Live.releaseFreeze_frame]
  | _ => cases hfam

/-- The commands of update and journal (17). -/
theorem update_keepsMemory {c : Instr} (hfam : family c = .update) (s : State) : KeepsMemory s (exec c s) := by
  cases c with
  | manifestWrite | stagingBlockWrite | integratorKeyWrite =>
    dsimp only [exec]
    exact asWrite_leavesMemory fun _ => by simp [Live.writeBlock_frame, Live.writeManifest_frame]
  | updateCmdVerify | updateCmdActivate | updateCmdDiscard =>
    dsimp only [exec]
    exact command_leavesMemory fun _ => by simp [Live.cmdDiscardSet_frame, Live.cmdVerify_frame]
  | verificationComplete | probationConfirm | probationTimeTick | probationLimit | nodeUpdateSegment | flashRefreshBlock |
    journalCheckpoint | countersSaveTick =>
    dsimp only [exec]
    exact run_leavesMemory fun _ => by simp [Live.checkpoint_frame, Live.confirmSet_frame, Live.nodeUpdate_frame,
        Live.probationTick_frame, Live.reach_frame, Live.refresh_frame, Live.saveCounters_frame, Live.verified_frame]
  | _ => cases hfam

/-- The commands of the debug port (18) and the rows at the end of the table. -/
theorem debugPort_keepsMemory {c : Instr} (hfam : family c = .debugPort) (s : State) : KeepsMemory s (exec c s) := by
  cases c with
  | withheldRecoveryStart bus => exact withheldRecoveryStart_keepsMemory bus s
  | nodePowerUp node => exact (nodePowerUp_onlyNodes node s).keepsMemory
  | nodeCommaLock node port => exact (nodeCommaLock_onlyNodes node port s).keepsMemory
  | nodeComparatorSelftest node passed => exact (nodeComparatorSelftest_onlyNodes node passed s).keepsMemory
  | dbgOpen | dbgInvalidRequest =>
    dsimp only [exec]
    exact portRun_leavesMemory fun _ => by simp [Live.ev_frame, Live.newNonce_frame, Live.respond_frame, Live.touch_frame]
  | dbgAuth | dbgClose | dbgStatus | dbgRead | islandRun | dbgWrite | dbgOdRead | logicHalt | logicStepCourse | logicRun | logicStep |
    breakSet | breakClear =>
    dsimp only [exec]
    exact inSession_leavesMemory fun _ => by simp [Live.dbgAuthFail, Live.awaits_frame, Live.commitLater_frame, Live.endDebug_frame,
        Live.ev_frame, Live.newNonce_frame, Live.read_frame, Live.respond_frame, Live.setBrk_frame]
  | dbgOdWrite | islandHalt =>
    dsimp only [exec]
    exact inSession_leavesMemory fun _ => by simp [Live.awaits_frame, Live.ev_frame, Live.haltIsland_frame, Live.refuseArrival_frame,
        Live.respond_frame, Live.write_frame]
  | debugIdleTimeout =>
    dsimp only [exec]
    exact run_leavesMemory fun _ => by (repeat' split) <;> simp [Live.endDebug_frame, Live.reach_frame]
  | cyclicDiagnostic | modbusConnectionClose =>
    dsimp only [exec]
    exact runIn_leavesMemory fun _ => by simp [Live.endSession_frame, Live.sf12_frame]
  | modbusUnsupportedFunction =>
    dsimp only [exec]
    exact onConn_leavesMemory fun _ _ => by simp [Live.mbFail_frame]
  | _ => cases hfam

theorem exec_keepsMemory (c : Instr) (s : State) : KeepsMemory s (exec c s) := by
  cases hfam : family c with
  | startUp => exact startUp_keepsMemory hfam s
  | linksAndConversion => exact linksAndConversion_keepsMemory hfam s
  | estimation => exact estimation_keepsMemory hfam s
  | safety => exact safety_keepsMemory hfam s
  | can => exact can_keepsMemory hfam s
  | dictionary => exact dictionary_keepsMemory hfam s
  | bayManager => exact bayManager_keepsMemory hfam s
  | logic => exact logic_keepsMemory hfam s
  | twinAndRecorder => exact twinAndRecorder_keepsMemory hfam s
  | update => exact update_keepsMemory hfam s
  | debugPort => exact debugPort_keepsMemory hfam s

/-- Settles O54: family by family, a command leaves the memory as it is, or writes it by operations that keep its form, or takes that of
an image found in shape. -/
theorem logicMemoryStaysCanonical : Obligations.LogicMemoryStaysCanonical := by
  intro s t hs ht
  rcases step_cases ht with ⟨-, rfl⟩ | ⟨c, rest, -, hc⟩
  · exact hs
  · exact exec_keepsMemory c _ t hc hs

end Sys2Proof.Machine
end

section
/-! A code word runs as the row of its instruction (14 R358, R366). -/

namespace Sys2Proof.Machine

open Sys2Proof

theorem decodeBlock_all_isLogicRow (w : Nat) : (decodeBlock w).all isLogicRow = true := by
  unfold decodeBlock
  dsimp only
  (repeat' split) <;> rfl

theorem decodeLogic_all_isLogicRow (w : Nat) : (decodeLogic w).all isLogicRow = true := by
  unfold decodeLogic
  dsimp only
  split
  case h_39 => exact decodeBlock_all_isLogicRow w
  all_goals (repeat' split) <;> rfl

/-- What a program image holds is an instruction of the logic engine that the load check accepts. -/
theorem imgInstr_isLogicRow {img : Bytes} {k : Nat} {i : Instr} (h : imgInstr img k = some i) :
    isLogicRow i = true ∧ loadOk i = true := by
  unfold imgInstr at h
  split at h
  · cases h
  · split at h
    · next j hj =>
      split at h
      · next hok =>
        cases h
        have hall := decodeLogic_all_isLogicRow (le img (64 + 4 * k) 4)
        rw [hj] at hall
        exact ⟨hall, hok⟩
      · cases h
    · cases h

/-- One instruction of a program where it has not ended and neither breakpoint stands in the way. -/
theorem runLogic_succ {img : Bytes} {n : Nat} {L : Live} {i : Instr} (hended : L.lgc.vm.ended = false)
    (hbrk : L.brkAt L.lgc.vm.pc = none) (hi : imgInstr img L.lgc.vm.pc = some i)
    (hchanged : (L.logicOp i).brkChanged L.lgc.vm.mem = none) :
    runLogic img (n + 1) false L = runLogic img n false (L.logicOp i) := by
  rw [runLogic]
  simp [hended, hbrk, hi, hchanged]

/-- Settles O56: the row of an instruction that the load check accepts runs the operation that the scan runs. -/
theorem codeWordsRunAsTheRows : Obligations.CodeWordsRunAsTheRows := by
  intro s img n i hw hended hbrk hi
  obtain ⟨hrow, hok⟩ := imgInstr_isLogicRow hi
  refine ⟨{ s with live := s.live.logicOp i }, ?_, rfl, runLogic_succ hended hbrk hi⟩
  rw [exec_of_loadOk hrow hok, runIn_of_works _ hw]

end Sys2Proof.Machine
end

section
/-! The rows of the logic engine's instructions: the meaning of each row is its operation, and what a store leaves and writes
(14 R364 to R366). -/

namespace Sys2Proof

open Sys2Proof.Machine

theorem SameBytes.trans {a n : Nat} {m m' m'' : List Host.Cell} (h : SameBytes a n m m') (h' : SameBytes a n m' m'') :
    SameBytes a n m m'' := fun k hk => (h k hk).trans (h' k hk)

theorem SameBytes.mono {a n b k : Nat} {m m' : List Host.Cell} (h : SameBytes a n m m') (hlo : b ≤ a) (hhi : a + n ≤ b + k) :
    SameBytes b k m m' := fun j hj => h j (by omega)

theorem SameBytes.memBytes {a n b k : Nat} {m m' : List Host.Cell} (h : SameBytes a n m m') (hb : b + k ≤ a ∨ a + n ≤ b) :
    memBytes m b k = memBytes m' b k :=
  List.map_congr_left fun i hi => h (b + i) (by have := List.mem_range.mp hi; omega)

end Sys2Proof

namespace Sys2Proof.Machine

open Sys2Proof

/-- The row of an instruction that the load check accepts answers with its operation. -/
theorem answers_of_logicOp {i : Instr} {s : State} {P : Live → Prop} (hrow : isLogicRow i = true) (hok : loadOk i = true)
    (hw : Works 3 s.live) (h : P (s.live.logicOp i)) : Answers i s P :=
  answers_of_runIn hw (exec_of_loadOk hrow hok s) h

/-- The row of an instruction that takes the engine to g answers with the block whose engine is g. -/
theorem answers_of_logic {i : Instr} {s : State} {P : Live → Prop} (g : Logic) (hrow : isLogicRow i = true)
    (hok : loadOk i = true) (hw : Works 3 s.live) (hg : s.live.logicOp i = { s.live with lgc := g })
    (h : P { s.live with lgc := g }) : Answers i s P :=
  answers_of_logicOp hrow hok hw (hg ▸ h)

/-- The logic engine with another memory. -/
def Logic.withMem (g : Logic) (m : List Host.Cell) : Logic := { g with vm := { g.vm with mem := m } }

/-- A store changes the memory alone. -/
theorem Logic.store_eq_withMem (g : Logic) (space a n v : Nat) :
    g.store space a n v = g.withMem (g.store space a n v).vm.mem :=
  Logic.store_inv (fun h => h = g.withMem h.vm.mem) space a v _ (fun _ _ _ hg => by rw [hg]; rfl) g rfl

@[simp] theorem Logic.store_forces (g : Logic) (space a n v : Nat) : (g.store space a n v).forces = g.forces := by
  rw [g.store_eq_withMem]; rfl

theorem Logic.store_sameBytes (g : Logic) (space a n v : Nat) :
    SameBytes (spaceBase space + a) n (g.store space a n v).vm.mem g.vm.mem := fun k hk => g.store_other space a n v k hk

/-! ### Without forces -/

theorem Logic.loadByte_of_no_forces {g : Logic} (hf : g.forces = []) (space a : Nat) :
    g.loadByte space a = (memByte g.vm.mem (spaceBase space + a)).toNat := by
  simp [Logic.loadByte, hf, overlay]

theorem Logic.storeByte_same {g : Logic} (hf : g.forces = []) (hwf : Memory.wf g.vm.mem = true) (space a b : Nat) :
    memByte (g.storeByte space a b).vm.mem (spaceBase space + a) = BitVec.ofNat 8 b := by
  have hmask : b &&& 255 = b % 256 := Nat.and_two_pow_sub_one_eq_mod b 8
  simp only [Logic.storeByte, hf, forcedMask, List.foldl_nil, ite_self, Nat.and_zero, Nat.zero_or, Nat.sub_zero, hmask]
  rw [memByte_put_same hwf]
  exact BitVec.eq_of_toNat_eq (by simp)

theorem Logic.store_succ (g : Logic) (space a n v : Nat) :
    g.store space a (n + 1) v = (g.store space a n v).storeByte space (a + n) (v / 256 ^ n % 256) := by
  simp [Logic.store, List.range_succ]

/-- A store writes the bytes of its value, lowest first. -/
theorem Logic.memByte_store {g : Logic} (hf : g.forces = []) (hwf : Memory.wf g.vm.mem = true) (space a n v : Nat) {i : Nat}
    (hi : i < n) : memByte (g.store space a n v).vm.mem (spaceBase space + a + i) = BitVec.ofNat 8 (v / 256 ^ i) := by
  induction n with
  | zero => omega
  | succ n ih =>
    rw [Logic.store_succ]
    by_cases hin : i = n
    · subst hin
      rw [Nat.add_assoc, Logic.storeByte_same ((g.store_forces ..).trans hf) (g.store_wf _ _ _ _ hwf)]
      exact BitVec.eq_of_toNat_eq (by simp)
    · rw [Logic.storeByte_other _ _ _ _ _ (by omega), ih (by omega)]

theorem leBytes_eq_map (n v : Nat) : leBytes n v = (List.range n).map (fun i => BitVec.ofNat 8 (v / 256 ^ i)) := by
  induction n generalizing v with
  | zero => rfl
  | succ n ih =>
    rw [leBytes, ih, List.range_succ_eq_map, List.map_cons, List.map_map]
    simp [Function.comp_def, Nat.pow_succ', Nat.div_div_eq_div_mul]

theorem Logic.memBytes_store {g : Logic} (hf : g.forces = []) (hwf : Memory.wf g.vm.mem = true) (space a n v : Nat) :
    memBytes (g.store space a n v).vm.mem (spaceBase space + a) n = leBytes n v := by
  rw [leBytes_eq_map]
  exact List.map_congr_left fun i hi => Logic.memByte_store hf hwf space a n v (List.mem_range.mp hi)

theorem memBytes_add (m : List Host.Cell) (a n k : Nat) : memBytes m a (n + k) = memBytes m a n ++ memBytes m (a + n) k := by
  simp [memBytes, List.range_add, Function.comp_def, Nat.add_assoc]

theorem memBytes_one (m : List Host.Cell) (a : Nat) : memBytes m a 1 = [memByte m a] := rfl

end Sys2Proof.Machine
end

section
/-! The control, bit and word instructions (14 R366, R367). -/

namespace Sys2Proof.Machine

open Sys2Proof

/-! ### Jumps and loops -/

theorem Logic.opJump_eq (g : Logic) {t : BitVec 24} (ht : t.toNat < 2 ^ 14) (c : Bool) :
    g.opJump t c =
      { g with vm := { g.vm with pc := if c then t.toNat else g.vm.pc + 1, cyc := g.vm.cyc + 2 } } := by
  cases c
  · rfl
  · simp only [Logic.opJump, Logic.goto, Logic.begin_, Nat.mod_eq_of_lt ht, if_true]

theorem Logic.opNext_of_passes {g : Logic} {first n : Nat} {rest : List (Nat × Nat)} (hl : g.vm.loops = (first, n) :: rest)
    (hn : 2 ≤ n) :
    g.opNext = { g with vm := { g.vm with loops := (first, n - 1) :: rest, pc := first, cyc := g.vm.cyc + 3 } } := by
  simp [Logic.opNext, Logic.begin_, hl, hn]

theorem Logic.opNext_of_last {g : Logic} {first n : Nat} {rest : List (Nat × Nat)} (hl : g.vm.loops = (first, n) :: rest)
    (hn : ¬2 ≤ n) :
    g.opNext = { g with vm := { g.vm with loops := rest, pc := g.vm.pc + 1, cyc := g.vm.cyc + 3 } } := by
  simp [Logic.opNext, Logic.begin_, hl, hn]

theorem Logic.opRet_of_calls {g : Logic} {k : Nat} {rest : List Nat} (hc : g.vm.calls = k :: rest) :
    g.opRet = { g with vm := { g.vm with calls := rest, pc := k, cyc := g.vm.cyc + 4 } } := by
  simp [Logic.opRet, Logic.begin_, hc]

theorem next_answers {s : State} {first n : Nat} {rest : List (Nat × Nat)} (hw : Works 3 s.live)
    (hl : s.live.lgc.vm.loops = (first, n) :: rest) :
    Answers .next s (fun L =>
      (2 ≤ n → L.lgc.vm =
        { s.live.lgc.vm with loops := (first, n - 1) :: rest, pc := first, cyc := s.live.lgc.vm.cyc + 3 }) ∧
      (n ≤ 1 → L.lgc.vm = { s.live.lgc.vm with loops := rest, pc := s.live.lgc.vm.pc + 1, cyc := s.live.lgc.vm.cyc + 3 }) ∧
      { L with lgc := { L.lgc with vm := s.live.lgc.vm } } = s.live) := by
  refine answers_of_logic s.live.lgc.opNext rfl rfl hw rfl ?_
  by_cases hn : 2 ≤ n
  · rw [Logic.opNext_of_passes hl hn]
    exact ⟨fun _ => rfl, fun h => absurd hn (by omega), rfl⟩
  · rw [Logic.opNext_of_last hl hn]
    exact ⟨fun h => absurd h hn, fun _ => rfl, rfl⟩

/-- Settles O41: each control instruction writes the instruction index, the cycles and its own stack. -/
theorem logicControlInstructions : Obligations.LogicControlInstructions := by
  refine ⟨fun s hw => ?nop, fun s t hw hok => ?jmp, fun s t hw hok => ?jmpt, fun s t hw hok => ?jmpf, fun s imm hw hok => ?loop,
    fun s first n rest hw hl => next_answers hw hl, fun s t hw hok => ?call, fun s k rest hw hc => ?ret, fun s hw => ?end_⟩
  case nop => exact answers_of_logic (s.live.lgc.begin_ 1) rfl rfl hw rfl ⟨rfl, rfl⟩
  case jmp =>
    refine answers_of_logic (s.live.lgc.opJump t true) rfl hok hw rfl ?_
    rw [Logic.opJump_eq _ (of_decide_eq_true hok)]
    exact ⟨rfl, rfl⟩
  case jmpt =>
    refine answers_of_logic (s.live.lgc.opJump t s.live.lgc.vm.ba) rfl hok hw rfl ?_
    rw [Logic.opJump_eq _ (of_decide_eq_true hok)]
    exact ⟨rfl, rfl⟩
  case jmpf =>
    refine answers_of_logic (s.live.lgc.opJump t (!s.live.lgc.vm.ba)) rfl hok hw rfl ?_
    rw [Logic.opJump_eq _ (of_decide_eq_true hok)]
    exact ⟨by cases s.live.lgc.vm.ba <;> rfl, rfl⟩
  case loop =>
    have hlt : imm.toNat < 256 := by have := (of_decide_eq_true hok).2; omega
    refine answers_of_logic (s.live.lgc.opLoop imm) rfl hok hw rfl ⟨?_, rfl⟩
    simp [Logic.opLoop, Nat.mod_eq_of_lt hlt]
  case call =>
    refine answers_of_logic (s.live.lgc.opCall t) rfl hok hw rfl ?_
    rw [Logic.opCall, Nat.mod_eq_of_lt (of_decide_eq_true hok)]
    exact ⟨rfl, rfl⟩
  case ret =>
    refine answers_of_logic s.live.lgc.opRet rfl rfl hw rfl ?_
    rw [Logic.opRet_of_calls hc]
    exact ⟨rfl, rfl⟩
  case end_ => exact answers_of_logic s.live.lgc.opEnd rfl rfl hw rfl ⟨rfl, rfl⟩

/-! ### Bits -/

theorem Live.popBit_of_stacked {L : Live} {b : Bool} {rest : List Bool} (f : Bool → Bool → Bool) (h : L.lgc.vm.bst = b :: rest) :
    L.popBit f = { L with lgc := { L.lgc with vm :=
      { L.lgc.vm with ba := f b L.lgc.vm.ba, bst := rest, cyc := L.lgc.vm.cyc + 1, pc := L.lgc.vm.pc + 1 } } } := by
  simp [Live.popBit, Logic.begin_, h]

/-- A bit is stored after the cycles of its instruction are charged. -/
def Logic.putBit (g : Logic) (o : BitOp) (v : Bool) : Logic := (g.begin_ 3).storeBit o v

theorem Logic.putBit_eq (g : Logic) (o : BitOp) (v : Bool) :
    g.putBit o v = { g with vm :=
      { g.vm with mem := (g.putBit o v).vm.mem, cyc := g.vm.cyc + 3, pc := g.vm.pc + 1 } } :=
  Logic.store_eq_withMem (g.begin_ 3) _ _ _ _

theorem Logic.putBit_sameBytes (g : Logic) (o : BitOp) (v : Bool) :
    SameBytes (spaceBase o.space + o.addr) 1 (g.putBit o v).vm.mem g.vm.mem :=
  Logic.store_sameBytes (g.begin_ 3) _ _ _ _

theorem Logic.memByte_putBit {g : Logic} (hf : g.forces = []) (hwf : Memory.wf g.vm.mem = true) (o : BitOp) (v : Bool) :
    memByte (g.putBit o v).vm.mem (spaceBase o.space + o.addr) =
      BitVec.ofNat 8 (setBit (memByte g.vm.mem (spaceBase o.space + o.addr)).toNat o.bit (v != o.inv)) := by
  have hstore := Logic.memByte_store (g := g.begin_ 3) hf hwf o.space o.addr 1
    (setBit ((g.begin_ 3).loadByte o.space o.addr) o.bit (v != o.inv)) (i := 0) Nat.one_pos
  rw [Logic.loadByte_of_no_forces (g := g.begin_ 3) hf] at hstore
  simpa [Logic.putBit, Logic.storeBit, Logic.loadByte_of_no_forces (g := g.begin_ 3) hf] using hstore

/-- What STB, SETB and RSTB leave once the bit is stored. -/
theorem putBit_leaves {M L : Live} {o : BitOp} {v : Bool} (h : M = L.modLgc (fun g => g.putBit o v)) :
    SameBytes (spaceBase o.space + o.addr) 1 M.lgc.vm.mem L.lgc.vm.mem ∧
    (L.lgc.forces = [] ∧ Memory.wf L.lgc.vm.mem = true → memByte M.lgc.vm.mem (spaceBase o.space + o.addr) =
      BitVec.ofNat 8 (setBit (memByte L.lgc.vm.mem (spaceBase o.space + o.addr)).toNat o.bit (v != o.inv))) ∧
    M.lgc.vm = { L.lgc.vm with mem := M.lgc.vm.mem, cyc := L.lgc.vm.cyc + 3, pc := L.lgc.vm.pc + 1 } ∧
    { M with lgc := { M.lgc with vm := L.lgc.vm } } = L := by
  subst h
  have heq := L.lgc.putBit_eq o v
  refine ⟨L.lgc.putBit_sameBytes o v, fun ⟨hf, hwf⟩ => Logic.memByte_putBit hf hwf o v, ?_, ?_⟩
  · exact congrArg Logic.vm heq
  · simp only [Live.modLgc]
    rw [heq]

/-- What SETB and RSTB leave: the bit is stored if BA holds, else only the cycles and the index have gone on. -/
theorem putBit_if_leaves {M L : Live} {o : BitOp} {v : Bool}
    (h : M = L.modLgc (fun g => if g.vm.ba then g.putBit o v else g.begin_ 3)) :
    SameBytes (spaceBase o.space + o.addr) 1 M.lgc.vm.mem L.lgc.vm.mem ∧
    (L.lgc.forces = [] ∧ Memory.wf L.lgc.vm.mem = true ∧ L.lgc.vm.ba = true → memByte M.lgc.vm.mem (spaceBase o.space + o.addr) =
      BitVec.ofNat 8 (setBit (memByte L.lgc.vm.mem (spaceBase o.space + o.addr)).toNat o.bit (v != o.inv))) ∧
    (L.lgc.vm.ba = false → M.lgc.vm.mem = L.lgc.vm.mem) ∧
    M.lgc.vm = { L.lgc.vm with mem := M.lgc.vm.mem, cyc := L.lgc.vm.cyc + 3, pc := L.lgc.vm.pc + 1 } ∧
    { M with lgc := { M.lgc with vm := L.lgc.vm } } = L := by
  cases hba : L.lgc.vm.ba
  · simp only [Live.modLgc, hba, Bool.false_eq_true, if_false] at h
    subst h
    exact ⟨fun _ _ => rfl, fun ⟨_, _, hc⟩ => absurd hc Bool.false_ne_true, fun _ => rfl, rfl, rfl⟩
  · have hM : M = L.modLgc (fun g => g.putBit o v) := by simpa only [Live.modLgc, hba, if_true] using h
    obtain ⟨hsame, hbyte, hvm, hrest⟩ := putBit_leaves hM
    exact ⟨hsame, fun ⟨hf, hwf, _⟩ => hbyte ⟨hf, hwf⟩, fun hc => absurd hc.symm Bool.false_ne_true, hvm, hrest⟩

/-- Settles O39: the loads and the boolean stack by the operations' equations, the stores by what storing a bit leaves. -/
theorem logicBitInstructions : Obligations.LogicBitInstructions := by
  refine ⟨fun s o hw hok => ?ldb, fun s o hw hok => ?andb, fun s o hw hok => ?orb, fun s hw => ?notb, fun s hw => ?pushb,
    fun s b rest hw hb => ?popand, fun s b rest hw hb => ?popor, fun s o hw hok => ?stb, fun s o hw hok => ?setb,
    fun s o hw hok => ?rstb⟩
  case ldb => exact answers_of_logic (s.live.lgc.opLdb o) rfl hok hw rfl ⟨rfl, rfl⟩
  case andb => exact answers_of_logic (s.live.lgc.opAndb o) rfl hok hw rfl ⟨rfl, rfl⟩
  case orb => exact answers_of_logic (s.live.lgc.opOrb o) rfl hok hw rfl ⟨rfl, rfl⟩
  case notb => exact answers_of_logic s.live.lgc.opNotb rfl rfl hw rfl ⟨rfl, rfl⟩
  case pushb => exact answers_of_logic s.live.lgc.opPushb rfl rfl hw rfl ⟨rfl, rfl⟩
  case popand => exact answers_of_logic _ rfl rfl hw (Live.popBit_of_stacked (· && ·) hb) ⟨rfl, rfl⟩
  case popor => exact answers_of_logic _ rfl rfl hw (Live.popBit_of_stacked (· || ·) hb) ⟨rfl, rfl⟩
  case stb => exact answers_of_logic (s.live.lgc.putBit o s.live.lgc.vm.ba) rfl hok hw rfl (putBit_leaves rfl)
  case setb => exact answers_of_logic (s.live.lgc.opSetb o) rfl hok hw rfl (putBit_if_leaves rfl)
  case rstb => exact answers_of_logic (s.live.lgc.opRstb o) rfl hok hw rfl (putBit_if_leaves rfl)

/-! ### Words -/

@[simp] theorem Logic.begin_loadWord (g : Logic) (c : Nat) (o : WordOp) : (g.begin_ c).loadWord o = g.loadWord o := rfl

theorem Logic.setSat_eq (g : Logic) (v : Int) :
    g.setSat v = { g with vm := { g.vm with
      acc := max minI32 (min maxI32 v),
      flags := if max minI32 (min maxI32 v) = v then g.vm.flags else setBit g.vm.flags 0 true } } := by
  unfold Logic.setSat
  dsimp only
  split <;> rfl

theorem saturated_leaves {M L : Live} {v : Int} {c : Nat} (h : M = L.modLgc (fun g => (g.begin_ c).setSat v)) :
    (M.lgc.vm = { L.lgc.vm with
      acc := max minI32 (min maxI32 v),
      flags := if max minI32 (min maxI32 v) = v then L.lgc.vm.flags else setBit L.lgc.vm.flags 0 true,
      cyc := L.lgc.vm.cyc + c, pc := L.lgc.vm.pc + 1 }) ∧
    { M with lgc := { M.lgc with vm := L.lgc.vm } } = L := by
  simp only [Live.modLgc, Logic.setSat_eq] at h
  subst h
  exact ⟨rfl, rfl⟩

theorem div_leaves {M L : Live} {v : Int} (h : M = L.modLgc (fun g => (g.begin_ 24).divide v)) :
    (v = 0 → M.lgc.vm = { L.lgc.vm with
      acc := 0, flags := setBit L.lgc.vm.flags 1 true, cyc := L.lgc.vm.cyc + 24, pc := L.lgc.vm.pc + 1 }) ∧
    (v ≠ 0 → M.lgc.vm = { L.lgc.vm with
      acc := max minI32 (min maxI32 (L.lgc.vm.acc.tdiv v)),
      flags := if max minI32 (min maxI32 (L.lgc.vm.acc.tdiv v)) = L.lgc.vm.acc.tdiv v then L.lgc.vm.flags
        else setBit L.lgc.vm.flags 0 true,
      cyc := L.lgc.vm.cyc + 24, pc := L.lgc.vm.pc + 1 }) ∧
    { M with lgc := { M.lgc with vm := L.lgc.vm } } = L := by
  by_cases hv : v = 0
  · simp only [Live.modLgc, Logic.divide, if_pos hv] at h
    subst h
    exact ⟨fun _ => rfl, fun hne => absurd hv hne, rfl⟩
  · simp only [Logic.divide, if_neg hv] at h
    obtain ⟨hvm, hrest⟩ := saturated_leaves h
    exact ⟨fun h0 => absurd h0 hv, fun _ => hvm, hrest⟩

/-- The engine whose flags say whether a store of ACC to this operand saturates. -/
def Logic.flagSat (g : Logic) (o : WordOp) : Logic :=
  { g with vm := { g.vm with
    flags := if o.width < 2 ∧ saturate o g.vm.acc ≠ g.vm.acc then setBit g.vm.flags 2 true else g.vm.flags } }

theorem Logic.storeAcc_eq_storeWord (g : Logic) (o : WordOp) :
    g.storeAcc o = (g.flagSat o).storeWord o (saturate o g.vm.acc) := by
  unfold Logic.storeAcc Logic.flagSat
  dsimp only
  split <;> rfl

theorem store_leaves {M L : Live} {o : WordOp} (h : M = L.modLgc (fun g => g.opSt o)) :
    SameBytes (spaceBase o.space + o.addr) (2 ^ o.width) M.lgc.vm.mem L.lgc.vm.mem ∧
    (L.lgc.forces = [] ∧ Memory.wf L.lgc.vm.mem = true →
      memBytes M.lgc.vm.mem (spaceBase o.space + o.addr) (2 ^ o.width) =
        leBytes (2 ^ o.width) (ofSigned (8 * 2 ^ o.width) (saturate o L.lgc.vm.acc))) ∧
    (M.lgc.vm = { L.lgc.vm with
      mem := M.lgc.vm.mem,
      flags := if o.width < 2 ∧ saturate o L.lgc.vm.acc ≠ L.lgc.vm.acc then setBit L.lgc.vm.flags 2 true else L.lgc.vm.flags,
      cyc := L.lgc.vm.cyc + 3, pc := L.lgc.vm.pc + 1 }) ∧
    { M with lgc := { M.lgc with vm := L.lgc.vm } } = L := by
  rw [Live.modLgc, Logic.opSt, Logic.storeAcc_eq_storeWord] at h
  have hmem := Logic.store_eq_withMem ((L.lgc.begin_ 3).flagSat o) o.space o.addr (2 ^ o.width)
    (ofSigned (8 * 2 ^ o.width) (saturate o L.lgc.vm.acc))
  subst h
  refine ⟨Logic.store_sameBytes ((L.lgc.begin_ 3).flagSat o) _ _ _ _, fun ⟨hf, hwf⟩ => ?_, congrArg Logic.vm hmem, ?_⟩
  · exact Logic.memBytes_store (g := (L.lgc.begin_ 3).flagSat o) hf hwf _ _ _ _
  · exact congrArg (fun g : Logic => { L with lgc := { g with vm := L.lgc.vm } }) hmem

/-- Settles O40: sums, differences, products and quotients saturate alike; ST stores what saturating leaves of ACC. -/
theorem logicWordInstructions : Obligations.LogicWordInstructions := by
  refine ⟨fun s o hw hok => ?ld, fun s imm hw => ?ldi, fun s imm hw hok => ?ldhi, fun s o hw hok => ?add, fun s o hw hok => ?sub,
    fun s o hw hok => ?mul, fun s o hw hok => ?div, fun s imm hw => ?addi, fun s o hw hok => ?and, fun s o hw hok => ?or,
    fun s imm hw hok => ?shl, fun s imm hw => ?shr, fun s o hw hok => ?min, fun s o hw hok => ?max, fun s o hw hok => ?eq,
    fun s o hw hok => ?ne, fun s o hw hok => ?lt, fun s o hw hok => ?gt, fun s o hw hok => ?st⟩
  case ld => exact answers_of_logic (s.live.lgc.opLd o) rfl hok hw rfl ⟨rfl, rfl⟩
  case ldi => exact answers_of_logic (s.live.lgc.opLdi imm) rfl rfl hw rfl ⟨rfl, rfl⟩
  case ldhi =>
    have hlt : imm.toNat < 256 := of_decide_eq_true hok
    refine answers_of_logic (s.live.lgc.opLdhi imm) rfl hok hw rfl ?_
    rw [Logic.opLdhi, Nat.mod_eq_of_lt hlt]
    exact ⟨rfl, rfl⟩
  case add => exact answers_of_logic (s.live.lgc.opAdd o) rfl hok hw rfl (saturated_leaves rfl)
  case sub => exact answers_of_logic (s.live.lgc.opSub o) rfl hok hw rfl (saturated_leaves rfl)
  case mul => exact answers_of_logic (s.live.lgc.opMul o) rfl hok hw rfl (saturated_leaves rfl)
  case div => exact answers_of_logic (s.live.lgc.opDiv o) rfl hok hw rfl (div_leaves rfl)
  case addi => exact answers_of_logic (s.live.lgc.opAddi imm) rfl rfl hw rfl (saturated_leaves rfl)
  case and => exact answers_of_logic (s.live.lgc.opAnd o) rfl hok hw rfl ⟨rfl, rfl⟩
  case or => exact answers_of_logic (s.live.lgc.opOr o) rfl hok hw rfl ⟨rfl, rfl⟩
  case shl =>
    have hlt : imm.toNat < 32 := of_decide_eq_true hok
    refine answers_of_logic (s.live.lgc.opShl imm) rfl hok hw rfl ?_
    rw [Logic.opShl, Nat.mod_eq_of_lt hlt]
    exact ⟨rfl, rfl⟩
  case shr => exact answers_of_logic (s.live.lgc.opShr imm) rfl rfl hw rfl ⟨rfl, rfl⟩
  case min => exact answers_of_logic (s.live.lgc.opMin o) rfl hok hw rfl ⟨rfl, rfl⟩
  case max => exact answers_of_logic (s.live.lgc.opMax o) rfl hok hw rfl ⟨rfl, rfl⟩
  case eq => exact answers_of_logic (s.live.lgc.opCmp o (fun a v => a == v)) rfl hok hw rfl ⟨rfl, rfl⟩
  case ne =>
    refine answers_of_logic (s.live.lgc.opCmp o (fun a v => a != v)) rfl hok hw rfl ⟨?_, rfl⟩
    rw [decide_not]
    rfl
  case lt => exact answers_of_logic (s.live.lgc.opCmp o (fun a v => decide (a < v))) rfl hok hw rfl ⟨rfl, rfl⟩
  case gt => exact answers_of_logic (s.live.lgc.opCmp o (fun a v => decide (v < a))) rfl hok hw rfl ⟨rfl, rfl⟩
  case st => exact answers_of_logic (s.live.lgc.opSt o) rfl hok hw rfl (store_leaves rfl)

end Sys2Proof.Machine
end

section
/-! Timers, counters and edge detectors (14 R368, R369): what each writes of its 16-byte instance. -/

namespace Sys2Proof.Machine

open Sys2Proof

/-! ### What the end of a block writes -/

theorem Logic.vm_of_withMem {g h : Logic} (hm : h = g.withMem h.vm.mem) (q : Bool) (a : Int) :
    ((h.setBa q).setAcc a).vm = { g.vm with mem := h.vm.mem, ba := q, acc := a } := by
  generalize h.vm.mem = m at hm
  subst hm
  rfl

theorem Logic.vm_setBa_of_withMem {g h : Logic} (hm : h = g.withMem h.vm.mem) (q : Bool) :
    (h.setBa q).vm = { g.vm with mem := h.vm.mem, ba := q } := by
  generalize h.vm.mem = m at hm
  subst hm
  rfl

theorem Logic.restore_setBa {g h : Logic} {c : Nat} {m : List Host.Cell} (hm : h = (g.begin_ c).withMem m) (q : Bool) :
    { h.setBa q with vm := g.vm } = g := by
  subst hm
  rfl

theorem Logic.restore_setAcc {g h : Logic} {c : Nat} {m : List Host.Cell} (hm : h = (g.begin_ c).withMem m) (q : Bool)
    (a : Int) : { (h.setBa q).setAcc a with vm := g.vm } = g := by
  subst hm
  rfl

theorem Live.restore_vm {L M : Live} {g : Logic} (hM : M = { L with lgc := g }) (hg : { g with vm := L.lgc.vm } = L.lgc) :
    { M with lgc := { M.lgc with vm := L.lgc.vm } } = L := by
  subst hM
  change { L with lgc := { g with vm := L.lgc.vm } } = L
  rw [hg]

theorem Logic.eq_withMem_trans {g h k : Logic} (hh : h = g.withMem h.vm.mem) (hk : k = h.withMem k.vm.mem) :
    k = g.withMem k.vm.mem := hk.trans (by rw [hh]; rfl)

/-! ### Stores into an instance -/

theorem Logic.instStore_sameBytes (g : Logic) (o : BlockOp) (off n v : Nat) :
    SameBytes (instAt o + off) n (g.store o.space (o.addr + off) n v).vm.mem g.vm.mem := by
  rw [Nat.add_assoc]
  exact g.store_sameBytes o.space (o.addr + off) n v

theorem Logic.memBytes_instStore {g : Logic} (hf : g.forces = []) (hwf : Memory.wf g.vm.mem = true) (o : BlockOp)
    (off n v : Nat) : memBytes (g.store o.space (o.addr + off) n v).vm.mem (instAt o + off) n = leBytes n v := by
  rw [Nat.add_assoc]
  exact Logic.memBytes_store hf hwf o.space (o.addr + off) n v

/-- A byte of an instance is loaded as it stands where no force holds it. -/
theorem Logic.load_instByte {g : Logic} (hf : g.forces = []) (o : BlockOp) (off : Nat) :
    g.load o.space (o.addr + off) 1 = (memByte g.vm.mem (instAt o + off)).toNat := by
  simp only [Logic.load, List.range_one, List.map_cons, List.map_nil, leNat, Nat.add_zero, Logic.loadByte_of_no_forces hf,
    Nat.mul_zero, Nat.add_assoc]
  exact congrArg BitVec.toNat (BitVec.ofNat_toNat ..)

theorem Logic.putBits_eq_withMem (g : Logic) (o : BlockOp) (b : Nat) : g.putBits o b = g.withMem (g.putBits o b).vm.mem :=
  Logic.eq_withMem_trans (g.store_eq_withMem ..) (Logic.store_eq_withMem ..)

theorem Logic.putBits_sameBytes (g : Logic) (o : BlockOp) (b : Nat) :
    SameBytes (instAt o + 12) 2 (g.putBits o b).vm.mem g.vm.mem :=
  ((Logic.instStore_sameBytes _ o 13 1 _).mono (by omega) (by omega)).trans
    ((g.instStore_sameBytes o 12 1 b).mono (by omega) (by omega))

/-- Byte 12 takes the bits, byte 13 loses its first-call flag (14 R369). -/
theorem Logic.memBytes_putBits {g : Logic} (hf : g.forces = []) (hwf : Memory.wf g.vm.mem = true) (o : BlockOp) (b : Nat) :
    memBytes (g.putBits o b).vm.mem (instAt o + 12) 2 =
      [BitVec.ofNat 8 b, BitVec.ofNat 8 (setBit (memByte g.vm.mem (instAt o + 13)).toNat 0 false)] := by
  have hlow : memBytes (g.putBits o b).vm.mem (instAt o + 12) 1 = leBytes 1 b :=
    ((Logic.instStore_sameBytes _ o 13 1 _).memBytes (by omega)).trans (Logic.memBytes_instStore hf hwf o 12 1 b)
  have hhigh : memBytes (g.putBits o b).vm.mem (instAt o + 13) 1 =
      leBytes 1 (setBit (memByte g.vm.mem (instAt o + 13)).toNat 0 false) := by
    rw [← Logic.load_instByte hf]
    exact Logic.memBytes_instStore ((g.store_forces ..).trans hf) (g.store_wf _ _ _ _ hwf) o 13 1 _
  rw [memBytes_add _ _ 1 1, hlow, hhigh]
  rfl

/-! ### Timers -/

/-- A timer's new state is stored into its instance. -/
def Logic.putTimer (g : Logic) (o : BlockOp) (t : Timer) (b : Nat) : Logic :=
  ((g.putI o 4 t.et).store o.space (o.addr + 8) 4 t.start).putBits o b

theorem Logic.putTimer_eq_withMem (g : Logic) (o : BlockOp) (t : Timer) (b : Nat) :
    g.putTimer o t b = g.withMem (g.putTimer o t b).vm.mem :=
  Logic.eq_withMem_trans (Logic.eq_withMem_trans (g.store_eq_withMem ..) (Logic.store_eq_withMem (g.putI o 4 t.et) ..))
    (Logic.putBits_eq_withMem ..)

theorem Logic.putTimer_sameBytes (g : Logic) (o : BlockOp) (t : Timer) (b : Nat) :
    SameBytes (instAt o) 16 (g.putTimer o t b).vm.mem g.vm.mem :=
  ((Logic.putBits_sameBytes _ o b).mono (by omega) (by omega)).trans
    (((Logic.instStore_sameBytes _ o 8 4 t.start).mono (by omega) (by omega)).trans
      ((g.instStore_sameBytes o 4 4 _).mono (by omega) (by omega)))

/-- A timer's instance: PT as it stood, ET, START, the bits, the first-call flag cleared, the rest as it stood (14 R368). -/
theorem Logic.memBytes_putTimer {g : Logic} (hf : g.forces = []) (hwf : Memory.wf g.vm.mem = true) (o : BlockOp) (t : Timer)
    (b : Nat) :
    memBytes (g.putTimer o t b).vm.mem (instAt o) 16 =
      memBytes g.vm.mem (instAt o) 4 ++ leBytes 4 (ofSigned 32 t.et) ++ leBytes 4 t.start ++
      [BitVec.ofNat 8 b, BitVec.ofNat 8 (setBit (memByte g.vm.mem (instAt o + 13)).toNat 0 false)] ++
      memBytes g.vm.mem (instAt o + 14) 2 := by
  have h1 : SameBytes (instAt o + 4) 4 (g.putI o 4 t.et).vm.mem g.vm.mem := g.instStore_sameBytes o 4 4 _
  have hwf1 := g.store_wf o.space (o.addr + 4) 4 (ofSigned 32 t.et) hwf
  have hf1 : (g.putI o 4 t.et).forces = [] := (g.store_forces ..).trans hf
  have h2 := (g.putI o 4 t.et).instStore_sameBytes o 8 4 t.start
  have hf2 := ((g.putI o 4 t.et).store_forces o.space (o.addr + 8) 4 t.start).trans hf1
  have h3 := Logic.putBits_sameBytes ((g.putI o 4 t.et).store o.space (o.addr + 8) 4 t.start) o b
  have hpt : memBytes (g.putTimer o t b).vm.mem (instAt o) 4 = memBytes g.vm.mem (instAt o) 4 :=
    (h3.memBytes (by omega)).trans ((h2.memBytes (by omega)).trans (h1.memBytes (by omega)))
  have het : memBytes (g.putTimer o t b).vm.mem (instAt o + 4) 4 = leBytes 4 (ofSigned 32 t.et) :=
    (h3.memBytes (by omega)).trans ((h2.memBytes (by omega)).trans (Logic.memBytes_instStore hf hwf o 4 4 _))
  have hstart : memBytes (g.putTimer o t b).vm.mem (instAt o + 8) 4 = leBytes 4 t.start :=
    (h3.memBytes (by omega)).trans (Logic.memBytes_instStore hf1 hwf1 o 8 4 _)
  have hbits : memBytes (g.putTimer o t b).vm.mem (instAt o + 12) 2 =
      [BitVec.ofNat 8 b, BitVec.ofNat 8 (setBit (memByte g.vm.mem (instAt o + 13)).toNat 0 false)] := by
    rw [← h1 (instAt o + 13) (by omega), ← h2 (instAt o + 13) (by omega)]
    exact Logic.memBytes_putBits hf2 (Logic.store_wf _ _ _ _ _ hwf1) o b
  have hrest : memBytes (g.putTimer o t b).vm.mem (instAt o + 14) 2 = memBytes g.vm.mem (instAt o + 14) 2 :=
    (h3.memBytes (by omega)).trans ((h2.memBytes (by omega)).trans (h1.memBytes (by omega)))
  rw [memBytes_add _ _ 14 2, memBytes_add _ _ 12 2, memBytes_add _ _ 8 4, memBytes_add _ _ 4 4, hpt, het, hstart, hbits, hrest]

/-- Byte 12 of a timer's instance: IN, Q, the running mark and the last input below its upper half. -/
def Logic.timerByte (g : Logic) (o : BlockOp) (t : Timer) : Nat :=
  (g.instBits o).1 / 16 * 16 + ofBits [g.vm.ba, t.q, t.run, g.vm.ba]

theorem Logic.opTimer_eq (g : Logic) (o : BlockOp) (f : Nat → Int → Bool → Bool → Timer → Timer) :
    g.opTimer o f = (((g.begin_ 24).putTimer o (timerAfter f g o) (g.timerByte o (timerAfter f g o))).setBa
      (timerAfter f g o).q).setAcc (timerAfter f g o).et := rfl

theorem timer_leaves {M L : Live} {o : BlockOp} {f : Nat → Int → Bool → Bool → Timer → Timer}
    (h : M = { L with lgc := L.lgc.opTimer o f }) :
    SameBytes (instAt o) 16 M.lgc.vm.mem L.lgc.vm.mem ∧
    M.lgc.vm = { L.lgc.vm with
      mem := M.lgc.vm.mem, ba := (timerAfter f L.lgc o).q, acc := (timerAfter f L.lgc o).et,
      cyc := L.lgc.vm.cyc + 24, pc := L.lgc.vm.pc + 1 } ∧
    (L.lgc.forces = [] ∧ Memory.wf L.lgc.vm.mem = true → memBytes M.lgc.vm.mem (instAt o) 16 =
      memBytes L.lgc.vm.mem (instAt o) 4 ++ leBytes 4 (ofSigned 32 (timerAfter f L.lgc o).et) ++
      leBytes 4 (timerAfter f L.lgc o).start ++
      [BitVec.ofNat 8 ((memByte L.lgc.vm.mem (instAt o + 12)).toNat / 16 * 16 +
        ofBits [L.lgc.vm.ba, (timerAfter f L.lgc o).q, (timerAfter f L.lgc o).run, L.lgc.vm.ba]),
        BitVec.ofNat 8 (setBit (memByte L.lgc.vm.mem (instAt o + 13)).toNat 0 false)] ++
      memBytes L.lgc.vm.mem (instAt o + 14) 2) ∧
    { M with lgc := { M.lgc with vm := L.lgc.vm } } = L := by
  rw [Logic.opTimer_eq] at h
  generalize hb : L.lgc.timerByte o (timerAfter f L.lgc o) = b at h
  have hmem := (L.lgc.begin_ 24).putTimer_eq_withMem o (timerAfter f L.lgc o) b
  have hM : M.lgc.vm.mem = ((L.lgc.begin_ 24).putTimer o (timerAfter f L.lgc o) b).vm.mem := by rw [h]; rfl
  refine ⟨?_, ?_, fun ⟨hf, hwf⟩ => ?_, ?_⟩
  · rw [hM]
    exact (L.lgc.begin_ 24).putTimer_sameBytes o _ b
  · rw [h]
    exact Logic.vm_of_withMem hmem _ _
  · rw [Logic.timerByte, Logic.instBits, Logic.load_instByte hf] at hb
    rw [hM, hb]
    exact Logic.memBytes_putTimer (g := L.lgc.begin_ 24) hf hwf o (timerAfter f L.lgc o) b
  · exact Live.restore_vm h (Logic.restore_setAcc hmem _ _)

/-! ### Counters -/

/-- CV after a counter block's call. -/
def Logic.cvAfter (g : Logic) (o : BlockOp) (kind : Nat) : Int :=
  let b := g.instBits o
  let cu := kind != 1 && g.vm.ba
  let cd := if kind = 1 then g.vm.ba else kind == 2 && bitOf b.1 1
  let up := cu && !(if b.2 then cu else bitOf b.1 6)
  let dn := cd && !(if b.2 then cd else bitOf b.1 7)
  if kind != 1 && bitOf b.1 2 then 0
  else if kind != 0 && bitOf b.1 3 then g.instI o 0
  else if up && !dn then count (g.instI o 4) 1
  else if dn && !up then count (g.instI o 4) (-1)
  else g.instI o 4

/-- Q of a counter block whose CV is known: QU, or QD of a CTD. -/
def Logic.counterQ (g : Logic) (o : BlockOp) (kind : Nat) (cv : Int) : Bool :=
  if kind = 1 then decide (cv ≤ 0) else decide (g.instI o 0 ≤ cv)

/-- A counter block stores CV and byte 12 and leaves Q in BA and CV in ACC. -/
theorem Logic.opCounter_eq (g : Logic) (o : BlockOp) (kind : Nat) :
    ∃ b, g.opCounter o kind = ((((g.begin_ 24).putI o 4 (g.cvAfter o kind)).putBits o b).setBa
      (g.counterQ o kind (g.cvAfter o kind))).setAcc (g.cvAfter o kind) := ⟨_, rfl⟩

theorem counter_leaves {M L : Live} {o : BlockOp} {kind : Nat} (h : M = { L with lgc := L.lgc.opCounter o kind }) :
    SameBytes (instAt o) 16 M.lgc.vm.mem L.lgc.vm.mem ∧
    M.lgc.vm.acc = L.lgc.cvAfter o kind ∧
    M.lgc.vm.ba = L.lgc.counterQ o kind M.lgc.vm.acc ∧
    (L.lgc.forces = [] ∧ Memory.wf L.lgc.vm.mem = true → memBytes M.lgc.vm.mem (instAt o) 12 =
      memBytes L.lgc.vm.mem (instAt o) 4 ++ leBytes 4 (ofSigned 32 M.lgc.vm.acc) ++ memBytes L.lgc.vm.mem (instAt o + 8) 4) ∧
    M.lgc.vm = { L.lgc.vm with
      mem := M.lgc.vm.mem, ba := M.lgc.vm.ba, acc := M.lgc.vm.acc, cyc := L.lgc.vm.cyc + 24, pc := L.lgc.vm.pc + 1 } ∧
    { M with lgc := { M.lgc with vm := L.lgc.vm } } = L := by
  obtain ⟨b, hb⟩ := L.lgc.opCounter_eq o kind
  rw [hb] at h
  generalize L.lgc.cvAfter o kind = cv at h ⊢
  have h1 := (L.lgc.begin_ 24).instStore_sameBytes o 4 4 (ofSigned 32 cv)
  have h2 := Logic.putBits_sameBytes ((L.lgc.begin_ 24).putI o 4 cv) o b
  have hmem : ((L.lgc.begin_ 24).putI o 4 cv).putBits o b =
      (L.lgc.begin_ 24).withMem (((L.lgc.begin_ 24).putI o 4 cv).putBits o b).vm.mem :=
    Logic.eq_withMem_trans (Logic.store_eq_withMem ..) (Logic.putBits_eq_withMem ..)
  have hvm : M.lgc.vm = { L.lgc.vm with
      mem := M.lgc.vm.mem, ba := L.lgc.counterQ o kind cv, acc := cv, cyc := L.lgc.vm.cyc + 24, pc := L.lgc.vm.pc + 1 } := by
    rw [h]
    exact Logic.vm_of_withMem hmem _ _
  have hacc : M.lgc.vm.acc = cv := by rw [hvm]
  have hba : M.lgc.vm.ba = L.lgc.counterQ o kind cv := by rw [hvm]
  refine ⟨?_, hacc, by rw [hacc, hba], fun ⟨hf, hwf⟩ => ?_, by rw [hacc, hba]; exact hvm, ?_⟩
  · rw [h]
    exact (h2.mono (by omega) (by omega)).trans (h1.mono (by omega) (by omega))
  · rw [hacc, h, memBytes_add _ _ 8 4, memBytes_add _ _ 4 4]
    have hpv := (h2.memBytes (b := instAt o) (k := 4) (by omega)).trans (h1.memBytes (by omega))
    have hcv := (h2.memBytes (b := instAt o + 4) (k := 4) (by omega)).trans
      (Logic.memBytes_instStore (g := L.lgc.begin_ 24) hf hwf o 4 4 _)
    have hrest := (h2.memBytes (b := instAt o + 8) (k := 4) (by omega)).trans (h1.memBytes (by omega))
    exact congrArg₂ (· ++ ·) (congrArg₂ (· ++ ·) hpv hcv) hrest
  · exact Live.restore_vm h (Logic.restore_setAcc hmem _ _)

/-! ### Edge detectors -/

/-- Q of an edge detector. -/
def Logic.edgeQ (g : Logic) (o : BlockOp) (rising : Bool) : Bool :=
  let m := if (g.instBits o).2 then g.vm.ba else bitOf (g.instBits o).1 2
  if rising then g.vm.ba && !m else m && !g.vm.ba

theorem Logic.opEdge_eq (g : Logic) (o : BlockOp) (rising : Bool) :
    ∃ b, g.opEdge o rising = ((g.begin_ 24).putBits o b).setBa (g.edgeQ o rising) := ⟨_, rfl⟩

theorem edge_leaves {M L : Live} {o : BlockOp} {rising : Bool} (h : M = { L with lgc := L.lgc.opEdge o rising }) :
    SameBytes (instAt o) 16 M.lgc.vm.mem L.lgc.vm.mem ∧
    (M.lgc.vm = { L.lgc.vm with
      mem := M.lgc.vm.mem, ba := L.lgc.edgeQ o rising, cyc := L.lgc.vm.cyc + 24, pc := L.lgc.vm.pc + 1 }) ∧
    (L.lgc.forces = [] ∧ Memory.wf L.lgc.vm.mem = true →
      memBytes M.lgc.vm.mem (instAt o) 12 = memBytes L.lgc.vm.mem (instAt o) 12 ∧
      memByte M.lgc.vm.mem (instAt o + 13) =
        BitVec.ofNat 8 (setBit (memByte L.lgc.vm.mem (instAt o + 13)).toNat 0 false)) ∧
    { M with lgc := { M.lgc with vm := L.lgc.vm } } = L := by
  obtain ⟨b, hb⟩ := L.lgc.opEdge_eq o rising
  rw [hb] at h
  have hsame := (L.lgc.begin_ 24).putBits_sameBytes o b
  have hmem := (L.lgc.begin_ 24).putBits_eq_withMem o b
  refine ⟨?_, ?_, fun ⟨hf, hwf⟩ => ?_, ?_⟩
  · rw [h]
    exact hsame.mono (by omega) (by omega)
  · rw [h]
    exact Logic.vm_setBa_of_withMem hmem _
  · rw [h]
    have hbits := Logic.memBytes_putBits (g := L.lgc.begin_ 24) hf hwf o b
    exact ⟨hsame.memBytes (by omega), (List.cons.inj (List.cons.inj hbits).2).1⟩
  · exact Live.restore_vm h (Logic.restore_setBa hmem _)

/-- Settles O42: timers, counters and edge detectors store into their own instance alone. -/
theorem logicTimersCountersEdges : Obligations.LogicTimersCountersEdges := by
  refine ⟨fun s o hw hok => ?ton, fun s o hw hok => ?tof, fun s o hw hok => ?tp, fun s o hw hok => ?ctu, fun s o hw hok => ?ctd,
    fun s o hw hok => ?ctud, fun s o hw hok => ?rTrig, fun s o hw hok => ?fTrig⟩
  case ton => exact answers_of_logic (s.live.lgc.opTimer o tonStep) rfl hok hw rfl (timer_leaves rfl)
  case tof => exact answers_of_logic (s.live.lgc.opTimer o tofStep) rfl hok hw rfl (timer_leaves rfl)
  case tp => exact answers_of_logic (s.live.lgc.opTimer o tpStep) rfl hok hw rfl (timer_leaves rfl)
  case ctu =>
    refine answers_of_logic (s.live.lgc.opCounter o 0) rfl hok hw rfl ?_
    obtain ⟨hsame, hacc, hrest⟩ := counter_leaves (L := s.live) (o := o) (kind := 0) rfl
    exact ⟨hsame, by simpa [Logic.cvAfter] using hacc, hrest⟩
  case ctd =>
    refine answers_of_logic (s.live.lgc.opCounter o 1) rfl hok hw rfl ?_
    obtain ⟨hsame, hacc, hrest⟩ := counter_leaves (L := s.live) (o := o) (kind := 1) rfl
    exact ⟨hsame, by simpa [Logic.cvAfter] using hacc, hrest⟩
  case ctud => exact answers_of_logic (s.live.lgc.opCounter o 2) rfl hok hw rfl (counter_leaves rfl)
  case rTrig => exact answers_of_logic (s.live.lgc.opEdge o true) rfl hok hw rfl (edge_leaves rfl)
  case fTrig => exact answers_of_logic (s.live.lgc.opEdge o false) rfl hok hw rfl (edge_leaves rfl)

end Sys2Proof.Machine
end

section
/-! Forces (14 R378 to R380): set, replaced, released and cleared by command. -/

namespace Sys2Proof.Machine

open Sys2Proof

/-! ### Events of forces -/

/-- R is L but for what events change: the recorder, the transmit rings, the debug port and the capture unit. -/
def OnlyEvents (L R : Live) : Prop := ∃ rcd com dbg cap, R = { L with rcd := rcd, com := com, dbg := dbg, cap := cap }

theorem OnlyEvents.refl (L : Live) : OnlyEvents L L := ⟨_, _, _, _, rfl⟩

theorem OnlyEvents.trans {L M R : Live} (h : OnlyEvents L M) (h' : OnlyEvents M R) : OnlyEvents L R := by
  obtain ⟨_, _, _, _, rfl⟩ := h
  obtain ⟨_, _, _, _, rfl⟩ := h'
  exact ⟨_, _, _, _, rfl⟩

theorem Live.raise_onlyEvents (L : Live) (src code cls : Nat) (key rest : Bytes) : OnlyEvents L (L.raise src code cls key rest) := by
  obtain ⟨rcd, com, dbg, cap, h, -⟩ := L.raise_eq src code cls key rest
  exact ⟨rcd, com, dbg, cap, h⟩

theorem Live.forceEv_onlyEvents (L : Live) (code cls : Nat) (f : Force) : OnlyEvents L (L.forceEv code cls f) :=
  L.raise_onlyEvents ..

theorem foldl_onlyEvents {α : Type} {step : Live → α → Live} (hstep : ∀ L x, OnlyEvents L (step L x)) (l : List α) (L : Live) :
    OnlyEvents L (l.foldl step L) := by
  induction l generalizing L with
  | nil => exact OnlyEvents.refl L
  | cons x xs ih => exact (hstep L x).trans (ih (step L x))

/-- R is L with other forces, and the events of the change. -/
def ForcesBecome (fs : List Force) (L R : Live) : Prop := OnlyEvents (L.modLgc (fun g => { g with forces := fs })) R

/-! ### Locations -/

theorem Force.of_mask_ne_zero {f : Force} {space a : Nat} (h : f.mask space a ≠ 0) :
    f.space = space ∧ f.addr ≤ a ∧ a < f.addr + f.bytes := by
  unfold Force.mask at h
  split at h
  · exact absurd rfl h
  · omega

/-- A force of at most four bytes that does not meet another is not met by it. -/
theorem Force.meets_comm_false {f h : Force} (hbytes : f.bytes ≤ 4) (hmeets : f.meets h = false) : h.meets f = false := by
  simp only [Force.meets, List.any_eq_false, bne_iff_ne, ne_eq, not_not, List.mem_range] at hmeets ⊢
  intro i _
  by_contra hne
  have hf : f.mask h.space (h.addr + i) ≠ 0 := fun h0 => hne (by rw [h0, Nat.and_zero])
  obtain ⟨hspace, hlo, hhi⟩ := Force.of_mask_ne_zero hf
  have hj := hmeets (h.addr + i - f.addr) (by omega)
  rw [hspace, Nat.add_sub_cancel' hlo, Nat.and_comm] at hj
  exact hne hj

theorem Live.forcePlace_width {L : Live} {v : Bytes} {p : Nat × Nat} (h : L.forcePlace v = some p) : byteAt v 8 ≤ 3 := by
  unfold Live.forcePlace at h
  dsimp only at h
  split at h
  · cases h
  · omega

theorem Force.bytes_le_four {f : Force} (h : byteAt f.entry 8 ≤ 3) : f.bytes ≤ 4 := by
  unfold Force.bytes
  split
  · omega
  · calc 2 ^ (byteAt f.entry 8 - 1) ≤ 2 ^ 2 := Nat.pow_le_pow_right (by omega) (by omega)
      _ = 4 := rfl

/-- A table with fewer than 64 forces has a free entry. -/
theorem freeSlot_isSome {fs : List Force} (h : fs.length < 64) : (freeSlot fs).isSome = true := by
  by_contra hnone
  rw [Bool.not_eq_true, Option.isSome_eq_false_iff, Option.isNone_iff_eq_none, freeSlot, List.find?_eq_none] at hnone
  have hsub : List.range 64 ⊆ fs.map (·.slot) := fun n hn => by
    have hused : fs.any (fun f => f.slot == n) = true := by simpa only [Bool.not_eq_true, Bool.not_eq_false'] using hnone n hn
    obtain ⟨f, hf, hslot⟩ := List.any_eq_true.mp hused
    exact List.mem_map.mpr ⟨f, hf, beq_iff_eq.mp hslot⟩
  have hle := (List.subperm_of_subset List.nodup_range hsub).length_le
  rw [List.length_range, List.length_map] at hle
  omega

/-! ### The commands -/

/-- The force that an entry sets. -/
abbrev newForce (entry : Bytes) (space addr : Nat) (sess : Sess) : Force :=
  { slot := 0, entry := entry, space := space, addr := addr, sess := sess }

/-- The forces that a new one leaves. -/
def Live.forcesLeft (L : Live) (f : Force) : List Force := L.lgc.forces.filter (fun h => !f.meets h)

/-- The entry that a new force takes: that of the first force it replaces, else a free one. -/
def Live.forceSlot (L : Live) (f : Force) : Option Nat :=
  ((L.lgc.forces.find? (fun h => f.meets h)).map (·.slot)).orElse (fun _ => freeSlot (L.forcesLeft f))

/-- The block once the force holds entry n. -/
def Live.forceSet (L : Live) (f : Force) (n : Nat) : Live :=
  ((((L.lgc.forces.filter (fun h => f.meets h)).drop 1).foldl (fun (L : Live) h => L.forceEv 9 0 { h with sess := f.sess }) L).modLgc
    (fun g => { g with forces := L.forcesLeft f ++ [{ f with slot := n }] })).forceEv 8 0 { f with slot := n }

theorem Live.cmdSetForce_sets {L : Live} {sess : Sess} {entry : Bytes} {space addr n : Nat} (hlen : entry.length = 16)
    (hzero : le entry 10 2 = 0) (hplace : L.forcePlace entry = some (space, addr))
    (hn : L.forceSlot (newForce entry space addr sess) = some n) :
    L.cmdSetForce sess entry = .ok (L.forceSet (newForce entry space addr sess) n) := by
  unfold Live.forceSlot Live.forcesLeft at hn
  rw [Live.cmdSetForce, if_neg (not_not.mpr hlen), if_neg (not_not.mpr hzero), hplace]
  dsimp only
  rw [hn]
  rfl

theorem Live.cmdSetForce_out_of_range {L : Live} {entry : Bytes} (sess : Sess) (hlen : entry.length = 16)
    (hzero : le entry 10 2 = 0) (hplace : L.forcePlace entry = none) : L.cmdSetForce sess entry = .error abRange := by
  rw [Live.cmdSetForce, if_neg (not_not.mpr hlen), if_neg (not_not.mpr hzero), hplace]

theorem Live.forceSlot_isSome {L : Live} (f : Force) (hroom : L.lgc.forces.length < 64) : (L.forceSlot f).isSome = true := by
  have hfree := freeSlot_isSome (Nat.lt_of_le_of_lt (List.length_filter_le (fun h => !f.meets h) L.lgc.forces) hroom)
  unfold Live.forceSlot
  cases L.lgc.forces.find? (fun h => f.meets h) with
  | none => exact hfree
  | some h => rfl

theorem Live.forceSet_becomes (L : Live) (f : Force) (n : Nat) :
    ForcesBecome (L.forcesLeft f ++ [{ f with slot := n }]) L (L.forceSet f n) := by
  have hgone := foldl_onlyEvents (step := fun M h => M.forceEv 9 0 { h with sess := f.sess }) (fun M h => M.forceEv_onlyEvents ..)
    ((L.lgc.forces.filter (fun h => f.meets h)).drop 1) L
  refine OnlyEvents.trans ?_ (Live.forceEv_onlyEvents ..)
  obtain ⟨rcd, com, dbg, cap, e⟩ := hgone
  rw [e]
  exact ⟨rcd, com, dbg, cap, rfl⟩

theorem Live.cmdReleaseForce_held {L : Live} {n : Nat} {f : Force} (sess : Sess) (hn : n ≤ 63)
    (hf : L.lgc.forces.find? (fun h => h.slot == n) = some f) :
    ∃ R, L.cmdReleaseForce sess n = .ok R ∧ ForcesBecome (L.lgc.forces.filter (fun h => h.slot != n)) L R := by
  rw [Live.cmdReleaseForce, if_neg (Nat.not_lt.mpr hn), hf]
  exact ⟨_, rfl, Live.forceEv_onlyEvents ..⟩

theorem Live.cmdReleaseForce_free {L : Live} {n : Nat} (sess : Sess)
    (hf : L.lgc.forces.find? (fun h => h.slot == n) = none) :
    L.cmdReleaseForce sess n = .error (if 63 < n then abRange else abState) := by
  rw [Live.cmdReleaseForce, hf]
  split <;> rfl

theorem Live.cmdClearForces_clears (L : Live) (sess : Sess) :
    ∃ R, L.cmdClearForces sess = .ok R ∧ ForcesBecome [] L R :=
  ⟨_, rfl, foldl_onlyEvents (fun M _ => M.forceEv_onlyEvents ..) _ _⟩

/-! ### The rows -/

theorem exec_setForce (sess : Sess) (entry : Bytes) (s : State) : exec (.setForce sess entry) s =
    run s (fun L => L.command sess 2 0x440013 entry (fun L => L.orAbort (L.cmdSetForce sess entry))) := rfl

theorem exec_releaseForce (sess : Sess) (n : Nat) (s : State) : exec (.releaseForce sess n) s =
    run s (fun L => L.command sess 2 0x440014 (leBytes 1 n) (fun L => L.orAbort (L.cmdReleaseForce sess n))) := rfl

theorem exec_logicCmdClearForces (sess : Sess) (s : State) : exec (.logicCmdClearForces sess) s =
    run s (fun L => L.command sess 2 0x440002 (leBytes 1 4) (fun L => L.orAbort (L.cmdClearForces sess))) := rfl

/-- What a granted command that changes the forces leaves. -/
structure ForcesChanged (sess : Sess) (fs : List Force) (L R : Live) : Prop where
  forces : R.lgc.forces = fs
  vm : R.lgc.vm = L.lgc.vm
  replied : Replied sess 0 R
  frame : { R with
    ks := L.ks, out := L.out, mgr := L.mgr, dbg := L.dbg, lgc := { R.lgc with forces := L.lgc.forces }, rcd := L.rcd
    obj := L.obj, com := L.com, cap := L.cap, twin := { R.twin with bulk := L.twin.bulk, fwdSeq := L.twin.fwdSeq } } = L

theorem forcesChanged_of_becomes {sess : Sess} {fs : List Force} {L M R A : Live} (hM : Prepared L M)
    (hR : ForcesBecome fs M R) (hA : AnsweredTo sess 0 R A) : ForcesChanged sess fs L A := by
  obtain ⟨ss, ed, n, bulk, seq, rfl⟩ := hM
  obtain ⟨rcd, com, dbg, cap, rfl⟩ := hR
  obtain ⟨hout, ks, out, mgr, dbg', num, bus, rfl⟩ := hA
  exact ⟨rfl, rfl, hout, rfl⟩

/-- What a refused command on the forces leaves. -/
theorem refused_leaves {sess : Sess} {code : Abort} {L M A : Live} (hM : Prepared L M) (hA : AnsweredTo sess code M A) :
    Replied sess code A ∧
    { A with
      ks := L.ks, out := L.out, mgr := L.mgr, dbg := L.dbg, com := { A.com with num := L.com.num, bus := L.com.bus }
      twin := { A.twin with bulk := L.twin.bulk, fwdSeq := L.twin.fwdSeq } } = L := by
  obtain ⟨ss, ed, n, bulk, seq, rfl⟩ := hM
  obtain ⟨hout, ks, out, mgr, dbg, num, bus, rfl⟩ := hA
  exact ⟨hout, rfl⟩

/-- The engine and its programs are those of the block before the request. -/
theorem Prepared.forcePlace {L M : Live} (h : Prepared L M) (entry : Bytes) : M.forcePlace entry = L.forcePlace entry := by
  obtain ⟨ss, ed, n, bulk, seq, rfl⟩ := h
  rfl

theorem Prepared.lgc {L M : Live} (h : Prepared L M) : M.lgc = L.lgc := by
  obtain ⟨ss, ed, n, bulk, seq, rfl⟩ := h
  rfl

section Rows

variable {s : State} {sess : Sess}

theorem setForce_sets {entry : Bytes} {space addr : Nat} (hg : Granted sess 2 s.live) (hlen : entry.length = 16)
    (hzero : le entry 10 2 = 0) (hplace : s.live.forcePlace entry = some (space, addr))
    (hroom : s.live.lgc.forces.length < 64) :
    Answers (.setForce sess entry) s (fun L =>
      ∃ n, ForcesChanged sess (s.live.forcesLeft (newForce entry space addr sess) ++
        [{ newForce entry space addr sess with slot := n }]) s.live L) := by
  refine answers_of_granted_command hg (exec_setForce sess entry s) fun M R hM hR => ?_
  obtain ⟨n, hn⟩ := Option.isSome_iff_exists.mp
    (Live.forceSlot_isSome (newForce entry space addr sess) (L := M) (hM.lgc.symm ▸ hroom))
  rw [Live.cmdSetForce_sets hlen hzero ((hM.forcePlace entry).trans hplace) hn, Live.orAbort_ok] at hR
  have hset := M.forceSet_becomes (newForce entry space addr sess) n
  rw [Live.forcesLeft, hM.lgc] at hset
  exact ⟨n, forcesChanged_of_becomes hM hset hR⟩

theorem setForce_out_of_range {entry : Bytes} (hg : Granted sess 2 s.live) (hlen : entry.length = 16)
    (hzero : le entry 10 2 = 0) (hplace : s.live.forcePlace entry = none) :
    Answers (.setForce sess entry) s (fun L => Replied sess abRange L ∧
      { L with
        ks := s.live.ks, out := s.live.out, mgr := s.live.mgr, dbg := s.live.dbg
        com := { L.com with num := s.live.com.num, bus := s.live.com.bus }
        twin := { L.twin with bulk := s.live.twin.bulk, fwdSeq := s.live.twin.fwdSeq } } = s.live) := by
  refine answers_of_granted_command hg (exec_setForce sess entry s) fun M R hM hR => ?_
  rw [Live.cmdSetForce_out_of_range sess hlen hzero ((hM.forcePlace entry).trans hplace), Live.orAbort_error] at hR
  exact refused_leaves hM hR

theorem releaseForce_held {n : Nat} {f : Force} (hg : Granted sess 2 s.live) (hn : n ≤ 63)
    (hf : s.live.lgc.forces.find? (fun h => h.slot == n) = some f) :
    Answers (.releaseForce sess n) s (ForcesChanged sess (s.live.lgc.forces.filter (fun h => h.slot != n)) s.live) := by
  refine answers_of_granted_command hg (exec_releaseForce sess n s) fun M R hM hR => ?_
  obtain ⟨M', heq, hset⟩ := Live.cmdReleaseForce_held (L := M) sess hn (hM.lgc.symm ▸ hf)
  rw [heq, Live.orAbort_ok] at hR
  rw [hM.lgc] at hset
  exact forcesChanged_of_becomes hM hset hR

theorem releaseForce_free {n : Nat} (hg : Granted sess 2 s.live)
    (hf : s.live.lgc.forces.find? (fun h => h.slot == n) = none) :
    Answers (.releaseForce sess n) s (fun L => Replied sess (if 63 < n then abRange else abState) L ∧
      { L with
        ks := s.live.ks, out := s.live.out, mgr := s.live.mgr, dbg := s.live.dbg
        com := { L.com with num := s.live.com.num, bus := s.live.com.bus }
        twin := { L.twin with bulk := s.live.twin.bulk, fwdSeq := s.live.twin.fwdSeq } } = s.live) := by
  refine answers_of_granted_command hg (exec_releaseForce sess n s) fun M R hM hR => ?_
  rw [Live.cmdReleaseForce_free (L := M) sess (hM.lgc.symm ▸ hf), Live.orAbort_error] at hR
  exact refused_leaves hM hR

theorem clearForces_clears (hg : Granted sess 2 s.live) :
    Answers (.logicCmdClearForces sess) s (ForcesChanged sess [] s.live) := by
  refine answers_of_granted_command hg (exec_logicCmdClearForces sess s) fun M R hM hR => ?_
  obtain ⟨M', heq, hset⟩ := M.cmdClearForces_clears sess
  rw [heq, Live.orAbort_ok] at hR
  exact forcesChanged_of_becomes hM hset hR

end Rows

/-- Settles O45: a force set stands last, behind the forces that it does not meet. -/
theorem logicForces : Obligations.LogicForces := by
  refine ⟨fun s sess entry space addr hg hlen hzero hplace hroom => ?_, fun s sess entry hg hlen hzero hplace =>
    setForce_out_of_range hg hlen hzero hplace, fun s sess n f hg hn hf => ?_, fun s sess n hg hf => releaseForce_free hg hf,
    fun s sess hg => ?_⟩
  · obtain ⟨R, hexec, n, hforces, hvm, hreplied, hframe⟩ := setForce_sets hg hlen hzero hplace hroom
    refine ⟨R, hexec, ?_, ?_, fun f hf => ?_, hvm, hreplied, hframe⟩
    · simp [hforces]
    · simp [hforces]
    · rw [hforces, List.dropLast_concat, Live.forcesLeft, List.mem_filter, Bool.not_eq_true'] at hf
      obtain ⟨hheld, hmeets⟩ := hf
      exact ⟨hheld, Force.meets_comm_false (Force.bytes_le_four (Live.forcePlace_width hplace)) hmeets⟩
  · obtain ⟨R, hexec, hforces, hvm, hreplied, hframe⟩ := releaseForce_held hg hn hf
    exact ⟨R, hexec, hforces, hvm, hreplied, hframe⟩
  · obtain ⟨R, hexec, hforces, hvm, hreplied, hframe⟩ := clearForces_clears hg
    exact ⟨R, hexec, hforces, hvm, hreplied, hframe⟩

end Sys2Proof.Machine
end

section
/-! Every command that the load check admits goes on (95). -/

namespace Sys2Proof.Machine

open Sys2Proof

/-- The block goes on: it is neither stopped nor is the command refused. -/
def GoesOn (o : Host.Outcome State Fault Refusal) : Prop := ∃ t, o = .next t

theorem goesOn_next (t : State) : GoesOn (.next t) := ⟨t, rfl⟩

theorem goesOn_ite {c : Prop} [Decidable c] {a b : Host.Outcome State Fault Refusal} (ha : GoesOn a) (hb : GoesOn b) :
    GoesOn (if c then a else b) := by
  split
  · exact ha
  · exact hb

theorem run_goesOn (s : State) (f : Live → Live) : GoesOn (run s f) := goesOn_ite (goesOn_next _) (goesOn_next _)

theorem runIn_goesOn (i : Nat) (s : State) (f : Live → Live) : GoesOn (runIn i s f) := goesOn_ite (goesOn_next _) (goesOn_next _)

theorem portRun_goesOn (s : State) (f : Live → Live) : GoesOn (portRun s f) := run_goesOn _ _

/-! ### Rows of their own shape -/

theorem execOdRead_goesOn (sess : Sess) (index sub : Nat) (segmented : Bool) (s : State) :
    GoesOn (execOdRead sess index sub segmented s) := goesOn_ite (goesOn_next _) (goesOn_next _)

theorem execSegmentedReadTimeout_goesOn (sess : Sess) (s : State) : GoesOn (execSegmentedReadTimeout sess s) := by
  unfold execSegmentedReadTimeout
  split
  · exact goesOn_next _
  · exact goesOn_ite (goesOn_next _) (goesOn_next _)

theorem execStateTransferComplete_goesOn (s : State) : GoesOn (execStateTransferComplete s) := by
  unfold execStateTransferComplete
  refine goesOn_ite (goesOn_next _) ?_
  split <;> exact goesOn_next _

/-! ### Every row -/

/-- A command that is no instruction of a program goes on. -/
theorem exec_goesOn_of_not_logicRow {c : Instr} (h : isLogicRow c = false) (s : State) : GoesOn (exec c s) := by
  cases c
  case nop | ldb | andb | orb | stb | setb | rstb | notb | pushb | popand | popor | ld | ldi | ldhi | st | add | sub | mul | div |
      addi | and | or | shl | shr | min | max | eq | ne | lt | gt | jmp | jmpt | jmpf | loop | next | call | ret | end_ | ton | tof |
      tp | ctu | ctd | ctud | rTrig | fTrig | msgrx | msgtx | evt => cases h
  case holdupSealComplete | watchdogExpiry | boot | bootComplete | dupNodeIdListenEnd | selftestComplete | cmdEnable | cmdDisable |
      cmdAcknowledge | cmdEnterService | cmdLeaveService | cmdEnterQuarry | quarryEntryComplete | cmdReset | cmdColdRestartLogic |
      cmdColdRestartEstimator | pendingEnableExpiry | prechargeCooldownEnd | sampleStrobe | controlSample | nodeCmdCommission |
      nodeCmdReleaseLatch | nodeCmdRepeatBringup | nodeCmdComparatorTest | segCmdBypass | segCmdReturn | estCmdRequestWindow |
      estCmdWithdrawRequest | segEstCmdReplaced | tableCmdSwitchBank | tableCmdEraseBank | tableImageWrite | safetyCmdReleaseSf09 |
      safetyCmdReleaseDeepSf02 | heartbeatRx | canCmdRecover | canCmdClearCounters | odWrite | readListResultRead | transaction |
      authResponse | lowerLevel | sessionIdleTimeout | authLockExpiry | safetyParamWrite | safetyCmdDiscardEdit | safetySetConfirm |
      editCopyTimeout | safetySetCrcCheck | manualModuleTime | logicCmdStart | logicCmdStop | logicCmdActivate |
      logicCmdClearForces | logicCmdEraseInactive | setForce | releaseForce | logicImageWrite | mirrorFrameSend | twinCmdHandover |
      twinCmdResync | recordCommit | repeatUpdate | recorderCmdFreeze | recorderCmdRelease | recorderCmdClear | freezeTimeout |
      recordsRead | captureArm | captureForceTrigger | captureAbort | chiselStart | chiselStop | manifestWrite |
      stagingBlockWrite | updateCmdVerify | verificationComplete | updateCmdActivate | updateCmdDiscard | probationConfirm |
      probationTimeTick | probationLimit | nodeUpdateSegment | integratorKeyWrite | flashRefreshBlock | journalCheckpoint |
      countersSaveTick | debugIdleTimeout =>
    dsimp only [exec]
    exact run_goesOn _ _
  case dbgOpen | dbgAuth | dbgClose | dbgStatus | dbgRead | dbgWrite | dbgOdRead | dbgOdWrite | logicHalt | logicStep |
      logicStepCourse | logicRun | breakSet | breakClear | islandHalt | islandRun | dbgInvalidRequest =>
    dsimp only [exec]
    exact portRun_goesOn _ _
  case nodeDownlinkFrameRx | nodeSuperframeStart | nodeDesaturation | hardBypassLatchSet | nodePortsDark | nodeCommaLock |
      nodeComparatorSelftest | nodePowerUp => exact goesOn_next _
  case mgmtWrite | imageBlock | latchRelease | comparatorTest | auxInputPresent | auxInputAbsent | allSuppliesLost | wakePulse =>
    exact goesOn_ite (goesOn_next _) (goesOn_next _)
  case imageActivate | mgmtRead =>
    exact goesOn_ite (goesOn_next _) (goesOn_ite (goesOn_next _) (goesOn_ite (goesOn_next _) (goesOn_next _)))
  case courseBoundary => exact goesOn_ite (goesOn_ite (goesOn_next _) (goesOn_next _)) (goesOn_next _)
  case mirrorFrameMissing | mirrorFrameRx => exact goesOn_ite (goesOn_next _) (goesOn_ite (goesOn_next _) (goesOn_next _))
  case odRead sess index sub segmented => exact execOdRead_goesOn sess index sub segmented s
  case captureDataRead sess => exact execOdRead_goesOn sess _ _ _ s
  case segmentedReadTimeout sess => exact execSegmentedReadTimeout_goesOn sess s
  case stateTransferComplete => exact execStateTransferComplete_goesOn s
  all_goals
    dsimp only [exec]
    exact runIn_goesOn _ _ _

theorem exec_goesOn {c : Instr} (h : loadOk c = true) (s : State) : GoesOn (exec c s) := by
  cases hc : isLogicRow c with
  | false => exact exec_goesOn_of_not_logicRow hc s
  | true =>
    rw [exec_of_loadOk hc h]
    exact runIn_goesOn _ _ _

/-- Settles O1: every row is one of few shapes, each of which goes on. -/
theorem stepRunsFrontCommand : Obligations.StepRunsFrontCommand :=
  ⟨fun _ _ _ => rfl, fun _ h => step_idle h, fun _ s h => exec_goesOn h s⟩

end Sys2Proof.Machine
end

section
/-! A scan whose program pops the empty boolean stack (14 R366; log 43). -/

namespace Sys2Proof.Machine

open Sys2Proof

/-- A module in STANDBY whose engine runs and whose scan is due. Its program of two instructions is POPAND, on a boolean stack that is
empty, and END; the load check has not seen it. -/
def scanOfEmptyStack : State :=
  { live := {
      mode := { st := .standby }
      obj := [(0x440001, 2)]
      blob := [(0x440018, List.replicate 12 0 ++ leBytes 4 2 ++ List.replicate 48 0 ++ leBytes 4 0x09000000 ++ leBytes 4 0x37000000)]
      lgc := { due := true } } }

theorem exec_logicScan (s : State) : exec .logicScan s = runIn 3 s (fun L => Live.logicScan s.snap L) := rfl

/-- Refutes O44, the clause of a running scan: it says that a scan takes no free value. What an empty boolean stack yields is free (log 43),
and the clause asks for no program that the load check has accepted: POPAND as the first instruction takes one. -/
theorem not_logicScanAndCommands : ¬ Obligations.LogicScanAndCommands := by
  rintro ⟨-, -, -, hScan, -⟩
  obtain ⟨-, -, -, -, -, hframe⟩ :=
    of_answers_runIn (by decide) (exec_logicScan _) (hScan scanOfEmptyStack (by decide) (by decide) (by decide) (by decide))
  exact absurd (congrArg (·.free) hframe) (by decide +kernel)

end Sys2Proof.Machine
end

section
/-! The verification of a staged set where its journal entry finds no room (17 R425, R435). -/

namespace Sys2Proof.Machine

open Sys2Proof

/-- String 2 in STANDBY with a staged set and a session of level 4, whose journal has come round the ring to an entry that is not
complete. Its clean running was last interrupted at the start of its clock, which has gone on. -/
def ringFull : State :=
  { live := {
      mode := { st := .standby }
      ks := { atBoot := [(0x200002, 2)] }
      obj := [(0x480001, 2), (0x4C0007, 4)]
      time := { clk := 5 }
      com := { nmt := 5 }
      jrn := { ents := [{ seq := 0, cls := 3, time := 0, body := [], pos := 0 }], nextSeq := 1, head := ringSize } } }

theorem exec_updateCmdVerify (sess : Sess) (s : State) : exec (.updateCmdVerify sess) s =
    run s (fun L => L.command sess 2 0x480002 (leBytes 1 1) (fun L => L.cmdVerify)) := rfl

/-- Refutes O48, the clause of UPDATE_CMD_VERIFY: it says that the update state is left alone. The command's journal entry reaches an
entry that is not complete, which is a cause of SF-12 (17 R435); its trip interrupts the clean running (17 R430). -/
theorem not_stagingAndVerification : ¬ Obligations.StagingAndVerification := by
  rintro ⟨-, -, -, -, hVerify, -⟩
  have hg : Granted 0x1001 2 ringFull.live := by decide +kernel
  have hanswer := hVerify ringFull 0x1001 hg (by decide +kernel)
  obtain ⟨-, hupd, -⟩ := of_answers (exec_updateCmdVerify 0x1001 ringFull) hanswer
  exact absurd (congrArg (·.cleanAt) hupd) (by decide +kernel)

end Sys2Proof.Machine
end

section
/-! The debug port (18 R441 to R445): the request of an open session, and what commits later. -/

namespace Sys2Proof.Machine

open Sys2Proof

/-! ### What an event changes of the port -/

/-- R is L but for the recorder, the transmit rings and the capture unit. -/
def RecordsOnly (L R : Live) : Prop := ∃ rcd com cap, R = { L with rcd := rcd, com := com, cap := cap }

theorem Live.ev_dbg (L : Live) (src code cls : Nat) (key rest : Bytes) (h : cls < 2) : (L.ev src code cls key rest).dbg = L.dbg := by
  simp [Live.ev, Live.raise, Live.oweEmcy_frame, Live.setConds_frame, Nat.not_le.mpr h]

/-- An event below the FAULT class leaves the port alone (18 R443). -/
theorem Live.ev_recordsOnly (L : Live) (src code cls : Nat) (key rest : Bytes) (h : cls < 2) :
    RecordsOnly L (L.ev src code cls key rest) := by
  obtain ⟨rcd, com, dbg, cap, e, -⟩ := L.ev_eq src code cls key rest
  have hdbg := L.ev_dbg src code cls key rest h
  rw [e] at hdbg ⊢
  obtain rfl : dbg = L.dbg := hdbg
  exact ⟨rcd, com, cap, rfl⟩

/-! ### Requests -/

/-- The port takes requests: the module is up, BOOT has ended and no response waits (18 R442). -/
abbrev PortOpen (L : Live) : Prop := L.powered = true ∧ L.mode.st ≠ .boot ∧ L.dbg.waiting = none

section Requests

variable {c : Instr} {s : State} {P : Live → Prop} {tag : Byte} {d : Nat × Nat}

theorem answers_of_port {f : Live → Live} (h : PortOpen s.live) (hc : exec c s = portRun s f) (hP : P (f s.live)) : Answers c s P := by
  obtain ⟨hp, hb, hw⟩ := h
  refine answers_of_run hp hc ?_
  rw [if_neg (by simp [hb, hw])]
  exact hP

/-- The block as a request of the open session finds it: the session is held, and its idle time begins anew (18 R444). -/
def Live.atPort (L : Live) (d : Nat × Nat) : Live :=
  { L.touch dbgSess with dbg := { (L.touch dbgSess).dbg with session := some (d.1, L.time.clk) } }

theorem Live.atPort_eq (L : Live) (d : Nat × Nat) : ∃ ss ed, L.atPort d = { L with
    ks := { L.ks with sessions := ss, edit := ed }, dbg := { L.dbg with session := some (d.1, L.time.clk) } } := by
  obtain ⟨ss, ed, e⟩ := L.touch_eq dbgSess
  rw [Live.atPort, e]
  exact ⟨ss, ed, rfl⟩

theorem Live.inSession_of_level {L : Live} {level : Nat} (tag : Byte) (f : Live → Live) (hs : L.dbg.session = some d)
    (hl : level ≤ d.1) : L.inSession tag level f = f (L.atPort d) := by
  rw [Live.inSession, hs]
  exact if_neg (Nat.not_lt.mpr hl)

theorem Live.inSession_of_low_level {L : Live} {level : Nat} (tag : Byte) (f : Live → Live) (hs : L.dbg.session = some d)
    (hl : d.1 < level) : L.inSession tag level f = (L.atPort d).respond tag stLevel [] := by
  rw [Live.inSession, hs]
  exact if_pos hl

theorem Live.inSession_of_none {L : Live} (tag : Byte) (level : Nat) (f : Live → Live) (hs : L.dbg.session = none) :
    L.inSession tag level f = L.respond tag stClosed [] := by
  rw [Live.inSession, hs]

theorem answers_of_session {level : Nat} {f : Live → Live} (h : PortOpen s.live) (hs : s.live.dbg.session = some d)
    (hl : level ≤ d.1) (hc : exec c s = portRun s (fun L => L.inSession tag level f)) (hP : P (f (s.live.atPort d))) :
    Answers c s P :=
  answers_of_port h hc (Live.inSession_of_level tag f hs hl ▸ hP)

end Requests

/-! ### What commits later -/

/-- This twin decides alone, and the course has room for a command (12 R317, R321). -/
abbrev DecidesAlone (L : Live) : Prop := L.ks.commands < 16 ∧ L.follower = false ∧ L.mirrorsOut = false

/-- R is L once a request of the port has been appended for the next commit, its response waiting (18 R447). -/
structure QueuedForCommit (tag : Byte) (level key : Nat) (v : Bytes) (L R : Live) : Prop where
  pend : R.ks.pend = L.ks.pend ++
    [{ sess := dbgSess, via := false, key := key, val := leBytes 1 L.nodeId ++ v, txn := none, fwd := none, level := level }]
  waiting : R.dbg.waiting = some tag
  brk : R.dbg.brk = L.dbg.brk
  frame : { R with ks := L.ks, dbg := L.dbg } = L

theorem Live.levelOf_dbgSess (L : Live) : L.levelOf dbgSess = (L.dbg.session.map (·.1)).getD 0 := by
  rw [L.levelOf_debug (by decide)]

theorem Live.commitLater_eq {L : Live} (tag : Byte) (key : Nat) (v : Bytes) (h : DecidesAlone L) :
    L.commitLater tag key v =
      (L.awaits tag).queueWrite dbgSess (L.levelOf dbgSess) false key (leBytes 1 L.nodeId ++ v) none none := by
  obtain ⟨hroom, hown, halone⟩ := h
  have hown' : (L.awaits tag).follower = false := hown
  have halone' : (L.awaits tag).mirrorsOut = false := halone
  simp only [Live.commitLater, if_pos hroom, hown', Live.queueDebug, Live.forwardOn, halone', Bool.false_eq_true, false_and, if_false]
  rfl

theorem Live.commitLater_atPort {L : Live} (tag : Byte) (d : Nat × Nat) (key : Nat) (v : Bytes) (h : DecidesAlone L) :
    QueuedForCommit tag d.1 key v L ((L.atPort d).commitLater tag key v) := by
  obtain ⟨ss, ed, e⟩ := L.atPort_eq d
  have hlevel : (L.atPort d).levelOf dbgSess = d.1 := by rw [Live.levelOf_dbgSess]; rfl
  rw [Live.commitLater_eq tag key v (by rw [e]; exact h), hlevel, e]
  exact ⟨rfl, rfl, rfl, rfl⟩

end Sys2Proof.Machine
end

section
/-! Halts, steps and breakpoints by the debug port (18 R447 to R450). -/

namespace Sys2Proof.Machine

open Sys2Proof

theorem exec_logicHalt (tag : Byte) (s : State) : exec (.logicHalt tag) s =
    portRun s (fun L => L.inSession tag 2 (fun L => L.commitLater tag keyHalt [])) := rfl

theorem exec_logicStep (tag : Byte) (count : Nat) (s : State) : exec (.logicStep tag count) s =
    portRun s (fun L => L.inSession tag 2 (fun L =>
      if count = 0 ∨ 16 < count then L.respond tag stLength [] else L.commitLater tag keyStep (leBytes 1 count))) := rfl

theorem exec_logicStepCourse (tag : Byte) (s : State) : exec (.logicStepCourse tag) s =
    portRun s (fun L => L.inSession tag 2 (fun L => L.commitLater tag keyCourse [])) := rfl

theorem exec_logicRun (tag : Byte) (s : State) : exec (.logicRun tag) s =
    portRun s (fun L => L.inSession tag 2 (fun L => L.commitLater tag keyRun [])) := rfl

/-- What BREAK_SET does once its session's level is found sufficient. -/
def Live.breakSet (L : Live) (tag : Byte) (slot kind param : Nat) : Live :=
  if !brkOk slot kind param then L.respond tag stLength []
  else if kind < 2 then L.commitLater tag keyBreak (leBytes 1 slot ++ leBytes 1 kind ++ leBytes 4 param)
  else if !L.haltAllowed then L.respond tag stToken []
  else if 2 ≤ L.islandSlots slot then L.respond tag stState []
  else (L.setBrk slot (some { kind := kind, param := param, sess := dbgSess, node := L.nodeId })).respond tag 0 []

theorem exec_breakSet (tag : Byte) (slot kind param : Nat) (s : State) : exec (.breakSet tag slot kind param) s =
    portRun s (fun L => L.inSession tag (if kind < 2 then 2 else 4) (fun L => L.breakSet tag slot kind param)) := rfl

/-- Does a slot hold a breakpoint of this twin alone, of kind 2 or 3 (18 R449)? -/
def Live.ownBrk (L : Live) (slot : Nat) : Bool := match L.brkKind slot with | some k => decide (2 ≤ k) | none => false

/-- What BREAK_CLEAR does once its session's level is found sufficient. -/
def Live.breakClear (L : Live) (tag : Byte) (own : Bool) (slot : Nat) : Live :=
  if 8 ≤ slot then L.respond tag stLength []
  else if own then (L.setBrk slot none).respond tag 0 []
  else L.commitLater tag keyClear (leBytes 1 slot)

theorem exec_breakClear (tag : Byte) (slot : Nat) (s : State) : exec (.breakClear tag slot) s =
    portRun s (fun L => L.inSession tag (if L.ownBrk slot then 4 else 2) (fun M => M.breakClear tag (L.ownBrk slot) slot)) := rfl

theorem exec_islandHalt (tag : Byte) (island : Nat) (s : State) : exec (.islandHalt tag island) s =
    portRun s (fun L => L.inSession tag 4 (fun L =>
      if 6 ≤ island then L.respond tag stLength []
      else if L.haltAllowed then (L.haltIsland island).respond tag 0 []
      else (L.respond tag stToken []).ev 127 7 1 [] (leBytes 1 1))) := rfl

theorem exec_islandRun (tag : Byte) (s : State) : exec (.islandRun tag) s =
    portRun s (fun L => L.inSession tag 4 (fun L => (L.respond tag 0 []).toBoot 4 1)) := rfl

/-! ### What a request of the port finds -/

theorem Live.atPort_haltAllowed (L : Live) (d : Nat × Nat) : (L.atPort d).haltAllowed = L.haltAllowed := by
  obtain ⟨ss, ed, e⟩ := L.atPort_eq d
  rw [e]
  rfl

theorem Live.atPort_islandSlots (L : Live) (d : Nat × Nat) (slot : Nat) : (L.atPort d).islandSlots slot = L.islandSlots slot := by
  obtain ⟨ss, ed, e⟩ := L.atPort_eq d
  rw [e]
  rfl

/-! ### The halt of an island -/

/-- R is L once an island has halted (18 R450). -/
structure IslandHalted (island : Nat) (L R : Live) : Prop where
  halted : bitOf R.dbg.halted island = true
  contactA : R.pins.contactA = false
  contactB : R.pins.contactB = false
  fastOff : R.pins.fastOff = if L.twin.holds then .off else .absent
  pair : R.twin.pair = 0
  out : R.out = L.out
  frame : { R with
    dbg := L.dbg, twin := L.twin, pins := L.pins, saf := L.saf, obj := L.obj, rcd := L.rcd, com := L.com, cap := L.cap } = L

theorem Live.openLoop_fastOff (L : Live) : L.openLoop.pins.fastOff = L.pins.fastOff := by
  unfold Live.openLoop
  dsimp only
  simp only [Live.updExpect_frame, Live.put_frame]
  split <;> rfl

theorem Live.haltIsland_halted (L : Live) (island : Nat) : IslandHalted island L (L.haltIsland island) := by
  have hframe := L.haltIsland_frame island
  have hhalted : bitOf (L.haltIsland island).dbg.halted island = true := by
    rw [Live.haltIsland, Live.ev_dbg _ _ _ _ _ _ (by decide)]
    exact bitOf_setBit_same _ _ _
  have hpins : (L.haltIsland island).pins =
      (if (L.toPartner 7 (leBytes 1 3)).twin.holds then (L.toPartner 7 (leBytes 1 3)).setFast .off
        else (L.toPartner 7 (leBytes 1 3)).setFast .absent).openLoop.pins := by
    simp [Live.haltIsland]
  have hpair : (L.haltIsland island).twin.pair = 0 := by simp [Live.haltIsland]
  obtain ⟨hA, hB⟩ := (if (L.toPartner 7 (leBytes 1 3)).twin.holds then (L.toPartner 7 (leBytes 1 3)).setFast .off
        else (L.toPartner 7 (leBytes 1 3)).setFast .absent).openLoop_open
  refine ⟨hhalted, hpins ▸ hA, hpins ▸ hB, ?_, hpair, ?_, ?_⟩
  · rw [hpins, Live.openLoop_fastOff]
    split
    · next h => exact (if_pos h).symm
    · next h => exact (if_neg h).symm
  · simp [Live.haltIsland_frame]
  · generalize L.haltIsland island = R at hframe
    cases R
    simp_all

/-! ### The rows -/

section Rows

variable {s : State} {tag : Byte} {d : Nat × Nat}

theorem logicStep_queues {count : Nat} (h : PortOpen s.live) (hs : s.live.dbg.session = some d) (hl : 2 ≤ d.1)
    (hcount : ¬(count = 0 ∨ 16 < count)) (halone : DecidesAlone s.live) :
    Answers (.logicStep tag count) s (QueuedForCommit tag d.1 keyStep (leBytes 1 count) s.live) := by
  refine answers_of_session h hs hl (exec_logicStep tag count s) ?_
  rw [if_neg hcount]
  exact Live.commitLater_atPort tag d keyStep (leBytes 1 count) halone

/-- R is L once the port has answered with no more than a status. -/
theorem respond_atPort (L : Live) (d : Nat × Nat) (tag : Byte) (status : Nat) :
    ((L.atPort d).respond tag status []).out = .dbg (dbgResponse tag status []) :: L.out ∧
    { (L.atPort d).respond tag status [] with out := L.out, ks := L.ks, dbg := L.dbg } = L := by
  obtain ⟨ss, ed, e⟩ := L.atPort_eq d
  rw [e]
  exact ⟨rfl, rfl⟩

theorem breakSet_queues {slot kind param : Nat} (h : PortOpen s.live) (hs : s.live.dbg.session = some d) (hl : 2 ≤ d.1)
    (hkind : kind < 2) (hok : brkOk slot kind param = true) (halone : DecidesAlone s.live) :
    Answers (.breakSet tag slot kind param) s
      (QueuedForCommit tag d.1 keyBreak (leBytes 1 slot ++ leBytes 1 kind ++ leBytes 4 param) s.live) := by
  refine answers_of_session h hs (by rw [if_pos hkind]; exact hl) (exec_breakSet tag slot kind param s) ?_
  rw [Live.breakSet, hok, if_neg (by decide), if_pos hkind]
  exact Live.commitLater_atPort tag d keyBreak _ halone

theorem Live.setBrk_atPort (L : Live) (d : Nat × Nat) (tag : Byte) (slot : Nat) (b : Option Brk) :
    (((L.atPort d).setBrk slot b).respond tag 0 []).dbg.brk = L.dbg.brk.set slot b ∧
    (((L.atPort d).setBrk slot b).respond tag 0 []).out = .dbg (dbgResponse tag 0 []) :: L.out ∧
    { ((L.atPort d).setBrk slot b).respond tag 0 [] with ks := L.ks, out := L.out, dbg := L.dbg } = L := by
  obtain ⟨ss, ed, e⟩ := L.atPort_eq d
  rw [e]
  exact ⟨rfl, rfl, rfl⟩

theorem Live.breakSet_own {L : Live} {slot kind param : Nat} (hkind : 2 ≤ kind) (hok : brkOk slot kind param = true)
    (hallowed : L.haltAllowed = true) (hslots : L.islandSlots slot < 2) : L.breakSet tag slot kind param =
      (L.setBrk slot (some { kind := kind, param := param, sess := dbgSess, node := L.nodeId })).respond tag 0 [] := by
  rw [Live.breakSet, hok, hallowed, if_neg (by decide), if_neg (Nat.not_lt.mpr hkind), if_neg (by decide),
    if_neg (Nat.not_le.mpr hslots)]

theorem breakSet_arms {slot kind param : Nat} (h : PortOpen s.live) (hs : s.live.dbg.session = some d) (hl : d.1 = 4)
    (hkind : 2 ≤ kind) (hok : brkOk slot kind param = true) (hallowed : s.live.haltAllowed = true)
    (hslots : s.live.islandSlots slot < 2) :
    Answers (.breakSet tag slot kind param) s (fun L =>
      L.dbg.brk = s.live.dbg.brk.set slot (some { kind := kind, param := param, sess := dbgSess, node := s.live.nodeId }) ∧
      L.out = .dbg (dbgResponse tag 0 []) :: s.live.out ∧
      { L with ks := s.live.ks, out := s.live.out, dbg := s.live.dbg } = s.live) := by
  refine answers_of_session h hs (by rw [if_neg (Nat.not_lt.mpr hkind), hl]) (exec_breakSet tag slot kind param s) ?_
  rw [Live.breakSet_own hkind hok ((s.live.atPort_haltAllowed d).trans hallowed)
    ((s.live.atPort_islandSlots d slot).symm ▸ hslots)]
  have hnode : (s.live.atPort d).nodeId = s.live.nodeId := by
    obtain ⟨ss, ed, e⟩ := s.live.atPort_eq d
    rw [e]
    rfl
  rw [hnode]
  exact s.live.setBrk_atPort d tag slot _

theorem breakClear_disarms {slot k : Nat} (h : PortOpen s.live) (hs : s.live.dbg.session = some d) (hl : d.1 = 4)
    (hslot : slot < 8) (hk : s.live.brkKind slot = some k) (hown : 2 ≤ k) :
    Answers (.breakClear tag slot) s (fun L =>
      L.dbg.brk = s.live.dbg.brk.set slot none ∧ L.out = .dbg (dbgResponse tag 0 []) :: s.live.out ∧
      { L with ks := s.live.ks, out := s.live.out, dbg := s.live.dbg } = s.live) := by
  have howns : s.live.ownBrk slot = true := by simp [Live.ownBrk, hk, hown]
  refine answers_of_port h (exec_breakClear tag slot s) ?_
  rw [Live.inSession_of_level tag _ hs (by rw [howns, hl]; exact Nat.le_refl 4), howns, Live.breakClear,
    if_neg (Nat.not_le.mpr hslot), if_pos rfl]
  exact s.live.setBrk_atPort d tag slot none

theorem breakClear_queues {slot : Nat} (h : PortOpen s.live) (hs : s.live.dbg.session = some d) (hl : 2 ≤ d.1)
    (hslot : slot < 8) (hk : s.live.brkKind slot = none) (halone : DecidesAlone s.live) :
    Answers (.breakClear tag slot) s (QueuedForCommit tag d.1 keyClear (leBytes 1 slot) s.live) := by
  have howns : s.live.ownBrk slot = false := by simp [Live.ownBrk, hk]
  refine answers_of_port h (exec_breakClear tag slot s) ?_
  rw [Live.inSession_of_level tag _ hs (by rw [howns]; exact hl), howns, Live.breakClear, if_neg (Nat.not_le.mpr hslot),
    if_neg Bool.false_ne_true]
  exact Live.commitLater_atPort tag d keyClear _ halone

theorem islandHalt_halts {island : Nat} (h : PortOpen s.live) (hs : s.live.dbg.session = some d) (hl : d.1 = 4)
    (hisland : island < 6) (hallowed : s.live.haltAllowed = true) :
    Answers (.islandHalt tag island) s (fun L =>
      bitOf L.dbg.halted island = true ∧
      (L.pins.contactA = false ∧ L.pins.contactB = false ∧ L.pins.fastOff = (if s.live.twin.holds then .off else .absent)) ∧
      L.twin.pair = 0 ∧ L.out = .dbg (dbgResponse tag 0 []) :: s.live.out ∧
      { L with
        ks := s.live.ks, out := s.live.out, dbg := s.live.dbg, twin := s.live.twin, pins := s.live.pins, saf := s.live.saf
        obj := s.live.obj, rcd := s.live.rcd, com := s.live.com, cap := s.live.cap } = s.live) := by
  refine answers_of_session h hs (by rw [hl]) (exec_islandHalt tag island s) ?_
  rw [if_neg (Nat.not_le.mpr hisland), if_pos ((s.live.atPort_haltAllowed d).trans hallowed)]
  obtain ⟨hhalted, hA, hB, hfast, hpair, hout, hframe⟩ := (s.live.atPort d).haltIsland_halted island
  obtain ⟨ss, ed, e⟩ := s.live.atPort_eq d
  generalize (s.live.atPort d).haltIsland island = R at *
  rw [e] at hfast hout hframe
  have hanswer := congrArg (Out.dbg (dbgResponse tag 0 []) :: ·) hout
  have hrest := congrArg (fun M : Live => { M with ks := s.live.ks, out := s.live.out, dbg := s.live.dbg }) hframe
  exact ⟨hhalted, ⟨hA, hB, hfast⟩, hpair, hanswer, hrest⟩

theorem islandHalt_refused {island : Nat} (h : PortOpen s.live) (hs : s.live.dbg.session = some d) (hl : d.1 = 4)
    (hisland : island < 6) (hforbidden : s.live.haltAllowed = false) :
    Answers (.islandHalt tag island) s (fun L =>
      L.pins = s.live.pins ∧ L.dbg.halted = s.live.dbg.halted ∧ .dbg (dbgResponse tag 6 []) ∈ L.out ∧
      { L with
        ks := s.live.ks, out := s.live.out, dbg := s.live.dbg, rcd := s.live.rcd, com := s.live.com, obj := s.live.obj
        cap := s.live.cap } = s.live) := by
  refine answers_of_session h hs (by rw [hl]) (exec_islandHalt tag island s) ?_
  rw [if_neg (Nat.not_le.mpr hisland), if_neg (by rw [s.live.atPort_haltAllowed d, hforbidden]; exact Bool.false_ne_true)]
  obtain ⟨rcd, com, cap, hR⟩ :=
    ((s.live.atPort d).respond tag stToken []).ev_recordsOnly 127 7 1 [] (leBytes 1 1) (by decide)
  obtain ⟨ss, ed, e⟩ := s.live.atPort_eq d
  rw [hR, e]
  exact ⟨rfl, rfl, List.mem_cons_self .., rfl⟩

theorem islandRun_resets (h : PortOpen s.live) (hs : s.live.dbg.session = some d) (hl : d.1 = 4) :
    Answers (.islandRun tag) s (fun L =>
      L.mode.st = .boot ∧ L.dbg.halted = 0 ∧ L.getN 0x20000F = 1 ∧ L.pins.contactA = false ∧ L.pins.contactB = false ∧
      L.pins.fastOff ≠ .permit) := by
  refine answers_of_session h hs (by rw [hl]) (exec_islandRun tag s) ?_
  obtain ⟨hfast, hA, hB, -⟩ := ((s.live.atPort d).respond tag 0 []).toBoot_pins 4 1
  refine ⟨Live.toBoot_st _ _ _, ?_, Live.toBoot_cause _ _ _, hA, hB, ?_⟩
  · simp [Live.toBoot]
  · rw [hfast]
    split <;> decide

end Rows

/-- Settles O51: what commits later is appended with the level of its session; what is this twin's own is done at once. -/
theorem debugHaltsAndBreakpoints : Obligations.DebugHaltsAndBreakpoints := by
  refine ⟨fun s tag d hp hb hw hs hl hroom hown halone => ?halt, fun s tag n d hp hb hw hs hl hlo hhi hroom hown halone => ?step,
    fun s tag n d hp hb hw hs hl hn => ?badStep, fun s tag d hp hb hw hs hl hroom hown halone => ?course,
    fun s tag d hp hb hw hs hl hroom hown halone => ?run,
    fun s tag slot kind param d hp hb hw hs hl hkind hok hroom hown halone => ?set,
    fun s tag slot kind param d hp hb hw hs hl hkind hok hallowed hslots _ =>
      breakSet_arms ⟨hp, hb, hw⟩ hs hl hkind hok hallowed hslots,
    fun s tag slot d k hp hb hw hs hl hslot hk hown => breakClear_disarms ⟨hp, hb, hw⟩ hs hl hslot hk hown,
    fun s tag slot d hp hb hw hs hl hslot hk hroom hown halone => ?clear,
    fun s tag island d hp hb hw hs hl hisland hallowed => islandHalt_halts ⟨hp, hb, hw⟩ hs hl hisland hallowed,
    fun s tag island d hp hb hw hs hl hisland hforbidden => islandHalt_refused ⟨hp, hb, hw⟩ hs hl hisland hforbidden,
    fun s tag d hp hb hw hs hl => islandRun_resets ⟨hp, hb, hw⟩ hs hl⟩
  case halt =>
    obtain ⟨hpend, hwaits, -, hframe⟩ := Live.commitLater_atPort (L := s.live) tag d keyHalt [] ⟨hroom, hown, halone⟩
    rw [List.append_nil] at hpend
    exact answers_of_session ⟨hp, hb, hw⟩ hs hl (exec_logicHalt tag s) ⟨hpend, hwaits, hframe⟩
  case step =>
    obtain ⟨L, hexec, hpend, hwaits, -, hframe⟩ :=
      logicStep_queues (tag := tag) ⟨hp, hb, hw⟩ hs hl (by omega : ¬(n = 0 ∨ 16 < n)) ⟨hroom, hown, halone⟩
    exact ⟨L, hexec, hpend, hwaits, hframe⟩
  case badStep =>
    refine answers_of_session ⟨hp, hb, hw⟩ hs hl (exec_logicStep tag n s) ?_
    rw [if_pos hn]
    exact respond_atPort s.live d tag stLength
  case course =>
    obtain ⟨hpend, hwaits, -, hframe⟩ := Live.commitLater_atPort (L := s.live) tag d keyCourse [] ⟨hroom, hown, halone⟩
    rw [List.append_nil] at hpend
    exact answers_of_session ⟨hp, hb, hw⟩ hs hl (exec_logicStepCourse tag s) ⟨hpend, hwaits, hframe⟩
  case run =>
    obtain ⟨hpend, hwaits, -, hframe⟩ := Live.commitLater_atPort (L := s.live) tag d keyRun [] ⟨hroom, hown, halone⟩
    rw [List.append_nil] at hpend
    exact answers_of_session ⟨hp, hb, hw⟩ hs hl (exec_logicRun tag s) ⟨hpend, hwaits, hframe⟩
  case set =>
    obtain ⟨L, hexec, hpend, hwaits, hbrk, hframe⟩ :=
      breakSet_queues (tag := tag) ⟨hp, hb, hw⟩ hs hl hkind hok ⟨hroom, hown, halone⟩
    exact ⟨L, hexec, hpend, hwaits, hbrk, hframe⟩
  case clear =>
    obtain ⟨L, hexec, hpend, hwaits, hbrk, hframe⟩ :=
      breakClear_queues (tag := tag) ⟨hp, hb, hw⟩ hs hl hslot hk ⟨hroom, hown, halone⟩
    exact ⟨L, hexec, hpend, hwaits, hbrk, hframe⟩

end Sys2Proof.Machine
end

section
/-! Sessions, reads and writes of the debug port (18 R443 to R446). -/

namespace Sys2Proof.Machine

open Sys2Proof

/-! ### The rows as their effects -/

/-- A session opens, and is answered (18 R444). -/
def Live.portOpened (L : Live) (tag : Byte) : Live :=
  let M := L.newNonce
  let M := { M.touch dbgSess with dbg := { M.dbg with session := some (0, M.time.clk) } }
  M.respond tag 0 (padTo 16 M.dbg.nonce ++ leBytes 4 Config.serial ++ leBytes 1 M.nodeId ++ [0])

theorem exec_dbgOpen (tag : Byte) (s : State) : exec (.dbgOpen tag) s = portRun s (fun L =>
    if L.dbg.session.isSome ∨ !L.isSet 0x4C0026 then L.respond tag stState []
    else (L.portOpened tag).ev 127 1 0 [] []) := rfl

/-- The session has its new level, and is answered (18 R444). -/
def Live.portRaised (L : Live) (tag : Byte) (level : Nat) : Live :=
  Live.respond { L.newNonce with dbg := { L.newNonce.dbg with session := some (level, L.newNonce.time.clk) } } tag 0 []

theorem exec_dbgAuth (tag : Byte) (level : Nat) (mac : Bytes) (s : State) : exec (.dbgAuth tag level mac) s =
    portRun s (fun L => L.inSession tag 0 (fun L =>
      if mac.length ≠ 16 then L.respond tag stLength []
      else if L.dbg.lockUntil.isSome then L.newNonce.respond tag stLocked []
      else if L.macRight level mac then (L.portRaised tag level).ev 127 2 0 [] (leBytes 1 level)
      else (L.newNonce.dbgAuthFail).respond tag stAuth [])) := rfl

theorem exec_dbgClose (tag : Byte) (s : State) : exec (.dbgClose tag) s =
    portRun s (fun L => L.inSession tag 0 (fun L => (L.respond tag 0 []).endDebug 1)) := rfl

theorem exec_debugIdleTimeout (s : State) : exec .debugIdleTimeout s = execDebugIdleTimeout s := rfl

theorem exec_dbgStatus (tag : Byte) (s : State) : exec (.dbgStatus tag) s =
    portRun s (fun L => L.inSession tag 0 (fun L =>
      { L.respond tag 0 (leBytes 1 L.dbg.attn) with dbg := { L.dbg with attn := 0 } })) := rfl

theorem exec_dbgInvalidRequest (tag : Byte) (crcWrong : Bool) (s : State) : exec (.dbgInvalidRequest tag crcWrong) s =
    portRun s (fun L => L.respond tag (if crcWrong then stCrc else stUnknown) []) := rfl

theorem exec_dbgRead (tag : Byte) (addr len : Nat) (s : State) : exec (.dbgRead tag addr len) s =
    portRun s (fun L => L.inSession tag 2 (fun L =>
      if len < 4 ∨ 1024 < len ∨ len % 4 ≠ 0 ∨ addr % 4 ≠ 0 then L.respond tag stLength []
      else if (List.range len).any (fun i => (regionOf (addr + i)).isNone) then L.respond tag stAddress []
      else { L.respond tag 0 ((List.range len).map (fun i => L.dbgByte (addr + i))) with free := L.free + 1 })) := rfl

theorem exec_dbgOdRead (tag : Byte) (index sub : Nat) (s : State) : exec (.dbgOdRead tag index sub) s =
    portRun s (fun L => L.inSession tag 0 (fun L => Live.read s.snap (L.awaits tag) dbgSess index sub)) := rfl

theorem exec_dbgOdWrite (tag : Byte) (index sub : Nat) (value : Bytes) (s : State) : exec (.dbgOdWrite tag index sub value) s =
    portRun s (fun L => L.inSession tag 0 (fun L =>
      if (odRows index).isEmpty then (L.awaits tag).refuseArrival dbgSess abIndex
      else (L.awaits tag).write dbgSess false (index * 256 + sub) value)) := rfl

/-! ### Sessions -/

theorem Live.portOpened_eq (L : Live) (tag : Byte) : ∃ ss ed, L.portOpened tag = { L with
    ks := { L.ks with sessions := ss, edit := ed }
    dbg := { L.dbg with nonce := Config.nonce L.free, session := some (0, L.time.clk) }
    free := L.free + 1
    out := .dbg (dbgResponse tag 0 (padTo 16 (Config.nonce L.free) ++ leBytes 4 Config.serial ++ leBytes 1 L.nodeId ++ [0])) ::
      L.out } := by
  obtain ⟨ss, ed, e⟩ := L.newNonce.touch_eq dbgSess
  unfold Live.portOpened
  dsimp only
  rw [e]
  exact ⟨ss, ed, rfl⟩

theorem Live.dbgAuthFail_eq (L : Live) : ∃ fails lock rcd com cap, L.dbgAuthFail = { L with
    dbg := { L.dbg with fails := fails, lockUntil := lock }, rcd := rcd, com := com, cap := cap } := by
  unfold Live.dbgAuthFail
  extract_lets recent
  split
  · obtain ⟨rcd, com, cap, e⟩ := Live.ev_recordsOnly
      { L with dbg := { L.dbg with fails := [], lockUntil := some (L.time.clk + sec 60) } } 127 16 1 [] (leBytes 2 dbgSess) (by decide)
    exact ⟨_, _, rcd, com, cap, e⟩
  · exact ⟨_, L.dbg.lockUntil, L.rcd, L.com, L.cap, rfl⟩

/-- R is L once the debug session has ended by this cause (18 R444). -/
structure PortClosed (cause : Nat) (L R : Live) : Prop where
  session : R.dbg.session = none
  halted : R.dbg.halted = L.dbg.halted
  attn : R.dbg.attn = if cause = 2 then setBit 0 3 true else 0
  frame : ∃ ks bulk seq dbg rcd com cap, R = { L with
    ks := ks, twin := { L.twin with bulk := bulk, fwdSeq := seq }, dbg := dbg, rcd := rcd, com := com, cap := cap }

theorem Live.endDebug_closed (L : Live) (cause : Nat) : PortClosed cause L (L.endDebug cause) := by
  have hasked : ∃ ks bulk seq, (if L.follower then L.forward 0 keyEnded (leBytes 1 L.nodeId)
      else L.queueDebug 0 false keyEnded (leBytes 1 L.nodeId)) =
        { L with ks := ks, twin := { L.twin with bulk := bulk, fwdSeq := seq } } := by
    split
    · exact ⟨L.ks, _, _, rfl⟩
    · obtain ⟨bulk, seq, e⟩ := L.forwardOn_eq 0 keyEnded (leBytes 1 L.nodeId)
      rw [Live.queueDebug, e]
      exact ⟨_, bulk, seq, rfl⟩
  obtain ⟨ks, bulk, seq, hasked⟩ := hasked
  unfold Live.endDebug
  dsimp only
  rw [hasked, Live.endSession_eq]
  obtain ⟨rcd, com, cap, hR⟩ := Live.ev_recordsOnly _ 127 3 0 [] (leBytes 1 cause) (by decide)
  rw [hR]
  exact ⟨rfl, rfl, rfl, _, bulk, seq, _, rcd, com, cap, rfl⟩

section Sessions

variable {s : State} {tag : Byte} {d : Nat × Nat}

theorem dbgOpen_opens (h : PortOpen s.live) (hs : s.live.dbg.session = none) (hen : s.live.isSet 0x4C0026 = true) :
    Answers (.dbgOpen tag) s (fun L =>
      L.dbg.session = some (0, s.live.time.clk) ∧ L.dbg.attn = s.live.dbg.attn ∧
      L.out = .dbg (dbgResponse tag 0
        (padTo 16 (Config.nonce s.live.free) ++ leBytes 4 Config.serial ++ leBytes 1 s.live.nodeId ++ [0])) :: s.live.out ∧
      L.dbg.halted = s.live.dbg.halted ∧ L.dbg.brk = s.live.dbg.brk ∧
      { L with
        dbg := s.live.dbg, ks := s.live.ks, out := s.live.out, free := s.live.free, rcd := s.live.rcd, com := s.live.com
        obj := s.live.obj, cap := s.live.cap } = s.live) := by
  refine answers_of_port h (exec_dbgOpen tag s) ?_
  rw [if_neg (by simp [hs, hen])]
  obtain ⟨rcd, com, cap, hR⟩ := (s.live.portOpened tag).ev_recordsOnly 127 1 0 [] [] (by decide)
  obtain ⟨ss, ed, e⟩ := s.live.portOpened_eq tag
  rw [hR, e]
  exact ⟨rfl, rfl, rfl, rfl, rfl, rfl⟩

theorem dbgOpen_refused (h : PortOpen s.live) (hs : s.live.dbg.session.isSome = true ∨ s.live.isSet 0x4C0026 = false) :
    Answers (.dbgOpen tag) s (fun L => L.out = .dbg (dbgResponse tag 7 []) :: s.live.out ∧ { L with out := s.live.out } = s.live) := by
  refine answers_of_port h (exec_dbgOpen tag s) ?_
  rw [if_pos (by simpa using hs)]
  exact ⟨rfl, rfl⟩

theorem Live.atPort_macRight (L : Live) (d : Nat × Nat) (level : Nat) (mac : Bytes) :
    (L.atPort d).macRight level mac = (L.touch dbgSess).macRight level mac := rfl

theorem dbgAuth_judged {level : Nat} {mac : Bytes} (h : PortOpen s.live) (hs : s.live.dbg.session = some d)
    (hlock : s.live.dbg.lockUntil = none) (hmac : mac.length = 16) :
    Answers (.dbgAuth tag level mac) s (fun L =>
      ((s.live.touch dbgSess).macRight level mac = true →
        L.dbg.session = some (level, s.live.time.clk) ∧ L.out = .dbg (dbgResponse tag 0 []) :: s.live.out) ∧
      ((s.live.touch dbgSess).macRight level mac = false →
        L.dbg.session = some (d.1, s.live.time.clk) ∧ L.out = .dbg (dbgResponse tag 8 []) :: s.live.out) ∧
      L.dbg.nonce = Config.nonce s.live.free ∧
      { L with
        dbg := s.live.dbg, ks := s.live.ks, out := s.live.out, free := s.live.free, rcd := s.live.rcd, com := s.live.com
        obj := s.live.obj, cap := s.live.cap } = s.live) := by
  refine answers_of_session h hs (Nat.zero_le _) (exec_dbgAuth tag level mac s) ?_
  obtain ⟨ss, ed, e⟩ := s.live.atPort_eq d
  have hlock' : (s.live.atPort d).dbg.lockUntil = none := by rw [e]; exact hlock
  rw [if_neg (not_not.mpr hmac), hlock', if_neg (by simp), s.live.atPort_macRight]
  cases hright : (s.live.touch dbgSess).macRight level mac with
  | true =>
    rw [if_pos rfl]
    obtain ⟨rcd, com, cap, hR⟩ := ((s.live.atPort d).portRaised tag level).ev_recordsOnly 127 2 0 [] (leBytes 1 level) (by decide)
    rw [hR, e]
    exact ⟨fun _ => ⟨rfl, rfl⟩, fun hf => absurd hf.symm Bool.false_ne_true, rfl, rfl⟩
  | false =>
    rw [if_neg Bool.false_ne_true]
    obtain ⟨fails, lock, rcd, com, cap, hR⟩ := (s.live.atPort d).newNonce.dbgAuthFail_eq
    rw [hR, e]
    exact ⟨fun hf => absurd hf Bool.false_ne_true, fun _ => ⟨rfl, rfl⟩, rfl, rfl⟩

theorem dbgClose_closes (h : PortOpen s.live) (hs : s.live.dbg.session = some d) :
    Answers (.dbgClose tag) s (fun L =>
      L.dbg.session = none ∧ .dbg (dbgResponse tag 0 []) ∈ L.out ∧ L.dbg.halted = s.live.dbg.halted ∧
      { L with
        dbg := s.live.dbg, ks := s.live.ks, out := s.live.out, rcd := s.live.rcd, com := s.live.com, obj := s.live.obj
        cap := s.live.cap, twin := { L.twin with bulk := s.live.twin.bulk, fwdSeq := s.live.twin.fwdSeq } } = s.live) := by
  refine answers_of_session h hs (Nat.zero_le _) (exec_dbgClose tag s) ?_
  obtain ⟨hsession, hhalted, -, ks, bulk, seq, dbg, rcd, com, cap, hR⟩ :=
    ((s.live.atPort d).respond tag 0 []).endDebug_closed 1
  obtain ⟨ss, ed, e⟩ := s.live.atPort_eq d
  refine ⟨hsession, ?_, hhalted.trans ?_, ?_⟩
  · rw [hR]
    exact List.mem_cons_self ..
  · rw [e]
    rfl
  · rw [hR, e]
    rfl

/-- On the way to an instant the clock alone moves on. -/
theorem Live.reach_restores (L : Live) (t : Nat) : ∃ time, L.reach t = { L with time := time } ∧ time.clk = max L.time.clk t ∧
    { time with clk := L.time.clk, mtime := L.time.mtime, cyc := L.time.cyc, frac := L.time.frac } = L.time :=
  ⟨(L.reach t).time, rfl, L.reach_clk t, rfl⟩

theorem debugIdleTimeout_closes (hp : s.live.powered = true) (hs : s.live.dbg.session = some d) :
    Answers .debugIdleTimeout s (fun L =>
      L.dbg.session = none ∧ bitOf L.dbg.attn 3 = true ∧
      L.time.clk = max s.live.time.clk (d.2 + sec (s.live.getN 0x4C0027)) ∧
      { L with
        dbg := s.live.dbg, ks := s.live.ks, rcd := s.live.rcd, com := s.live.com, obj := s.live.obj, cap := s.live.cap
        twin := { L.twin with bulk := s.live.twin.bulk, fwdSeq := s.live.twin.fwdSeq }
        time := { L.time with
          clk := s.live.time.clk, mtime := s.live.time.mtime, cyc := s.live.time.cyc, frac := s.live.time.frac } } = s.live) := by
  generalize ht : d.2 + sec (s.live.getN 0x4C0027) = t
  refine answers_of_run (f := fun L => (L.reach (d.2 + sec (s.live.getN 0x4C0027))).endDebug 2) hp ?_ ?_
  · rw [exec_debugIdleTimeout, execDebugIdleTimeout]
    unfold run
    simp only [hs]
  · rw [ht]
    obtain ⟨hsession, -, hattn, ks, bulk, seq, dbg, rcd, com, cap, hR⟩ := (s.live.reach t).endDebug_closed 2
    refine ⟨hsession, ?_, ?_, ?_⟩
    · rw [hattn]
      decide
    · rw [hR]
      exact s.live.reach_clk t
    · obtain ⟨time, htime, -, hrest⟩ := s.live.reach_restores t
      rw [hR, htime]
      exact congrArg (fun x => { s.live with time := x }) hrest

theorem debugIdleTimeout_idle (hs : s.live.dbg.session = none) : exec .debugIdleTimeout s = .next s := by
  rw [exec_debugIdleTimeout, execDebugIdleTimeout]
  unfold run
  simp only [hs]
  exact ite_self _

theorem dbgStatus_answers (h : PortOpen s.live) (hs : s.live.dbg.session = some d) :
    Answers (.dbgStatus tag) s (fun L =>
      L.out = .dbg (dbgResponse tag 0 (leBytes 1 s.live.dbg.attn)) :: s.live.out ∧ L.dbg.attn = 0 ∧
      L.dbg.session = some (d.1, s.live.time.clk) ∧
      { L with out := s.live.out, ks := s.live.ks, dbg := s.live.dbg } = s.live) := by
  refine answers_of_session h hs (Nat.zero_le _) (exec_dbgStatus tag s) ?_
  obtain ⟨ss, ed, e⟩ := s.live.atPort_eq d
  rw [e]
  exact ⟨rfl, rfl, rfl, rfl⟩

theorem dbgStatus_without_session (h : PortOpen s.live) (hs : s.live.dbg.session = none) :
    Answers (.dbgStatus tag) s (fun L => L.out = .dbg (dbgResponse tag 0x0C []) :: s.live.out ∧
      { L with out := s.live.out } = s.live) := by
  refine answers_of_port h (exec_dbgStatus tag s) ?_
  rw [Live.inSession_of_none _ _ _ hs]
  exact ⟨rfl, rfl⟩

theorem dbgInvalidRequest_answers (crcWrong : Bool) (h : PortOpen s.live) :
    Answers (.dbgInvalidRequest tag crcWrong) s (fun L =>
      (L.out = .dbg (dbgResponse tag (if crcWrong then 1 else 2) []) :: s.live.out) ∧ { L with out := s.live.out } = s.live) :=
  answers_of_port h (exec_dbgInvalidRequest tag crcWrong s) ⟨rfl, rfl⟩

end Sessions

/-! ### Reads -/

section Reads

variable {s : State} {tag : Byte} {d : Nat × Nat}

theorem dbgRead_answers {addr len : Nat} (h : PortOpen s.live) (hs : s.live.dbg.session = some d) (hl : 2 ≤ d.1)
    (hlen : ¬(len < 4 ∨ 1024 < len ∨ len % 4 ≠ 0 ∨ addr % 4 ≠ 0)) :
    Answers (.dbgRead tag addr len) s (fun L =>
      (L.out = .dbg (if (List.range len).any (fun i => (regionOf (addr + i)).isNone) then dbgResponse tag 5 []
        else dbgResponse tag 0 ((List.range len).map (fun i => (s.live.touch dbgSess).dbgByte (addr + i)))) :: s.live.out) ∧
      L.lgc = s.live.lgc ∧ L.dbg.mem = s.live.dbg.mem ∧
      { L with out := s.live.out, ks := s.live.ks, dbg := s.live.dbg, free := s.live.free } = s.live) := by
  refine answers_of_session h hs hl (exec_dbgRead tag addr len s) ?_
  rw [if_neg hlen]
  have hbyte : ∀ a, (s.live.atPort d).dbgByte a = (s.live.touch dbgSess).dbgByte a := fun a => rfl
  simp only [hbyte]
  generalize (List.range len).map (fun i => (s.live.touch dbgSess).dbgByte (addr + i)) = bytes
  obtain ⟨ss, ed, e⟩ := s.live.atPort_eq d
  cases (List.range len).any (fun i => (regionOf (addr + i)).isNone) with
  | true =>
    rw [e]
    exact ⟨rfl, rfl, rfl, rfl⟩
  | false =>
    rw [e]
    exact ⟨rfl, rfl, rfl, rfl⟩

theorem dbgRead_low_level {addr len : Nat} (h : PortOpen s.live) (hs : s.live.dbg.session = some d) (hl : d.1 < 2) :
    Answers (.dbgRead tag addr len) s (fun L =>
      L.out = .dbg (dbgResponse tag 4 []) :: s.live.out ∧
      { L with out := s.live.out, ks := s.live.ks, dbg := s.live.dbg } = s.live) := by
  refine answers_of_port h (exec_dbgRead tag addr len s) ?_
  rw [Live.inSession_of_low_level _ _ hs hl]
  exact respond_atPort s.live d tag stLevel

/-- A request whose response waits is answered once, on the port. -/
theorem Live.answerRead_awaits (L : Live) (tag : Byte) (r : Except Abort Bytes) :
    ∃ ss x, (L.awaits tag).answerRead dbgSess r = { L with
      ks := { L.ks with sessions := ss }, dbg := { L.dbg with waiting := none }, out := x :: L.out } := by
  cases r with
  | ok b => exact ⟨_, _, rfl⟩
  | error code => exact ⟨_, _, rfl⟩

theorem dbgOdRead_answers {index sub : Nat} (h : PortOpen s.live) (hs : s.live.dbg.session = some d)
    (hown : s.live.follower = false) (hk : index * 256 + sub ≠ 0x460010) :
    Answers (.dbgOdRead tag index sub) s (fun L =>
      L.out.length = s.live.out.length + 1 ∧ L.out.drop 1 = s.live.out ∧ L.dbg.waiting = none ∧
      { L with out := s.live.out, ks := s.live.ks, dbg := s.live.dbg } = s.live) := by
  refine answers_of_session h hs (Nat.zero_le _) (exec_dbgOdRead tag index sub s) ?_
  obtain ⟨ss, ed, e⟩ := s.live.atPort_eq d
  have hown' : ((s.live.atPort d).awaits tag).follower = false := by rw [e]; exact hown
  rw [Live.read_here hown' hk]
  obtain ⟨ss', x, hR⟩ := (s.live.atPort d).answerRead_awaits tag
    (Live.readObj s.snap ((s.live.atPort d).awaits tag) dbgSess index sub)
  rw [hR, e]
  exact ⟨rfl, rfl, rfl, rfl⟩

/-- An object that passes the checks on arrival has an index that exists. -/
theorem odRows_of_arrivalAt {L : Live} {level index sub : Nat} {value : Bytes} (h : L.arrivalAt level index sub value = none) :
    (odRows index).isEmpty = false := by
  cases hrows : (odRows index).isEmpty with
  | false => rfl
  | true =>
    have hrow : L.findRow index sub = .error abIndex := by simp [Live.findRow, hrows]
    simp [Live.arrivalAt, hrow] at h

theorem dbgOdWrite_queues {index sub : Nat} {value : Bytes} (h : PortOpen s.live) (hs : s.live.dbg.session = some d)
    (halone : DecidesAlone s.live) (hk : index * 256 + sub ≠ 0x210010) (hsub : sub < 256)
    (hpass : (s.live.touch dbgSess).arrivalAt d.1 index sub value = none) :
    Answers (.dbgOdWrite tag index sub value) s (fun L =>
      L.ks.pend = s.live.ks.pend ++ [{ sess := dbgSess, via := false, key := index * 256 + sub, val := value, txn := none
                                       fwd := none, level := d.1 }] ∧
      L.dbg.waiting = some tag ∧ L.out = s.live.out ∧ { L with ks := s.live.ks, dbg := s.live.dbg } = s.live) := by
  obtain ⟨hroom, hown, halone⟩ := halone
  refine answers_of_session h hs (Nat.zero_le _) (exec_dbgOdWrite tag index sub value s) ?_
  rw [odRows_of_arrivalAt hpass, if_neg Bool.false_ne_true]
  have hpass' : ((s.live.atPort d).awaits tag).arrivalAt d.1 index sub value = none := hpass
  have hlevel : ((s.live.atPort d).awaits tag).levelOf dbgSess = d.1 := by rw [Live.levelOf_dbgSess]; rfl
  obtain ⟨ss, ed, e⟩ := s.live.atPort_eq d
  have hown' : ((s.live.atPort d).awaits tag).follower = false := by rw [e]; exact hown
  have halone' : ((s.live.atPort d).awaits tag).mirrorsOut = false := by rw [e]; exact halone
  have hroom' : ((s.live.atPort d).awaits tag).ks.commands < 16 := by rw [e]; exact hroom
  have hwrite : ((s.live.atPort d).awaits tag).write dbgSess false (index * 256 + sub) value =
      ((s.live.atPort d).awaits tag).writeHere dbgSess d.1 false (index * 256 + sub) value none := by
    simp [Live.write, Live.writeAt, Live.forwardOn, hown', halone', hlevel]
  rw [hwrite, Live.writeHere_queues hk ((Live.arrivalAt_key _ _ _ _ hsub).trans hpass') hroom', e]
  exact ⟨rfl, rfl, rfl, rfl⟩

end Reads

end Sys2Proof.Machine
end

section
/-! Writes of the debug port (18 R446, R448): the window of a halted island at once, logic memory at the commit. -/

namespace Sys2Proof.Machine

open Sys2Proof

/-! ### Bytes a session wrote -/

theorem find?_filter_of_imp {α : Type} {p q : α → Bool} (h : ∀ x, p x = true → q x = true) (l : List α) :
    (l.filter q).find? p = l.find? p := by
  have hpq : (fun x => decide (q x = true ∧ p x = true)) = p := by
    funext x
    have hx := h x
    cases hp : p x <;> simp_all
  rw [List.find?_filter, hpq]

theorem find?_filter_of_not {α : Type} {p q : α → Bool} (h : ∀ x, q x = true → p x = false) (l : List α) :
    (l.filter q).find? p = none :=
  List.find?_eq_none.mpr fun x hx => by
    rw [h x (List.mem_filter.mp hx).2]
    exact Bool.false_ne_true

/-- Cells below and above another keep what stands at an address, or have nothing there. -/
theorem find?_cellPut (m : List Host.Cell) (a k : Nat) (b : Byte) :
    (cellPut m a b).find? (fun c => c.1 == k) = if k = a then some (a, b) else m.find? (fun c => c.1 == k) := by
  have hbelow : (m.filter fun c => decide (c.1 < a)).find? (fun c => c.1 == k) =
      if k < a then m.find? (fun c => c.1 == k) else none := by
    split
    · exact find?_filter_of_imp (fun c hc => by simp only [beq_iff_eq] at hc; simpa [hc]) m
    · exact find?_filter_of_not (fun c hc => by simp only [decide_eq_true_eq] at hc; simp only [beq_eq_false_iff_ne]; omega) m
  have habove : (m.filter fun c => decide (a < c.1)).find? (fun c => c.1 == k) =
      if a < k then m.find? (fun c => c.1 == k) else none := by
    split
    · exact find?_filter_of_imp (fun c hc => by simp only [beq_iff_eq] at hc; simpa [hc]) m
    · exact find?_filter_of_not (fun c hc => by simp only [decide_eq_true_eq] at hc; simp only [beq_eq_false_iff_ne]; omega) m
  rw [cellPut, List.find?_append, List.find?_cons, hbelow, habove]
  rcases Nat.lt_trichotomy k a with hlt | rfl | hgt
  · have hne : (a == k) = false := beq_false_of_ne (Nat.ne_of_gt hlt)
    simp [hlt, hne, Nat.ne_of_lt hlt, Nat.not_lt_of_lt hlt]
  · simp
  · have hne : (a == k) = false := beq_false_of_ne (Nat.ne_of_lt hgt)
    simp [hgt, hne, Nat.ne_of_gt hgt, Nat.not_lt_of_lt hgt]

theorem find?_cellPutAll_below (m : List Host.Cell) {a k : Nat} (bs : Bytes) (hk : k < a) :
    (cellPutAll m a bs).find? (fun c => c.1 == k) = m.find? (fun c => c.1 == k) := by
  induction bs generalizing m a with
  | nil => rfl
  | cons b bs ih => rw [cellPutAll, ih _ (by omega), find?_cellPut, if_neg (by omega)]

/-- A byte written reads as what was written last. -/
theorem find?_cellPutAll (m : List Host.Cell) (a : Nat) (bs : Bytes) {i : Nat} (hi : i < bs.length) :
    (cellPutAll m a bs).find? (fun c => c.1 == a + i) = some (a + i, bs.getD i 0) := by
  induction bs generalizing m a i with
  | nil => cases hi
  | cons b bs ih =>
    rw [cellPutAll]
    cases i with
    | zero => rw [Nat.add_zero, find?_cellPutAll_below _ _ (Nat.lt_succ_self a), find?_cellPut, if_pos rfl, List.getD_cons_zero]
    | succ i =>
      rw [show a + (i + 1) = a + 1 + i by omega, ih _ _ (Nat.lt_of_succ_lt_succ hi), List.getD_cons_succ]

/-! ### The rows of the address map -/

theorem regionOf_window {a i : Nat} (hi : i < 6) (hlo : 0x40000000 + 0x100000 * i ≤ a) (hhi : a < 0x40000000 + 0x100000 * (i + 1)) :
    regionOf a = some (.window i) := by
  have hw : (a - 0x40000000) / 0x100000 = i := by omega
  rw [regionOf, if_neg (by omega), if_neg (by omega), if_neg (by omega), if_neg (by omega), if_neg (by omega), if_neg (by omega),
    if_pos (by omega), hw]

theorem regionOf_logic {a : Nat} (hlo : 0x51000000 ≤ a) (hhi : a < 0x51006000) : regionOf a = some .logic := by
  rw [regionOf, if_neg (by omega), if_neg (by omega), if_neg (by omega), if_neg (by omega), if_neg (by omega), if_neg (by omega),
    if_neg (by omega), if_neg (by omega), if_pos ⟨hlo, hhi⟩]

/-- Logic memory that the port may write: V and R of a halted engine (18 R448). -/
theorem Live.writable_logic {L : Live} {a : Nat} (hlo : 0x51000000 ≤ a) (hhi : a < 0x51005000) (hhalted : L.logicState = 3) :
    L.writable a = some (2, true) := by
  rw [Live.writable, regionOf_logic hlo (by omega)]
  dsimp only
  rw [if_pos (.inl (by omega)), hhalted]
  rfl

theorem Live.writable_window {L : Live} {a i : Nat} (hr : regionOf a = some (.window i)) (hhalted : bitOf L.dbg.halted i = true) :
    L.writable a = some (4, true) := by
  rw [Live.writable, hr]
  dsimp only
  rw [hhalted]

theorem Live.dbgByte_window {L : Live} {a i : Nat} (hr : regionOf a = some (.window i)) {b : Byte}
    (hb : L.dbg.mem.find? (fun c => c.1 == a) = some (a, b)) : L.dbgByte a = b := by
  rw [Live.dbgByte, hr]
  simp [hb]

/-! ### DBG_WRITE -/

/-- The bytes of a window are kept, and answered (18 R446). -/
def Live.portKept (L : Live) (tag : Byte) (addr : Nat) (data : Bytes) : Live :=
  Live.respond { L with dbg := { L.dbg with mem := cellPutAll L.dbg.mem addr data } } tag 0 []

/-- What DBG_WRITE does once its session is found open. -/
def Live.portWrite (L : Live) (tag : Byte) (addr : Nat) (data : Bytes) : Live :=
  let rows := (List.range data.length).map (fun i => L.writable (addr + i))
  let level := match L.dbg.session with | some d => d.1 | none => 0
  if data.length < 4 ∨ 1024 < data.length ∨ data.length % 4 ≠ 0 ∨ addr % 4 ≠ 0 then L.respond tag stLength []
  else if rows.any (fun r => match r with | some x => decide (level < x.1) | none => false) then L.respond tag stLevel []
  else if rows.any (fun r => match r with | some x => !x.2 | none => true) then L.respond tag stAddress []
  else if regionOf addr = some .logic then L.commitLater tag keyVm (leBytes 4 addr ++ data)
  else (L.portKept tag addr data).ev 127 9 1 [] (leBytes 4 addr ++ leBytes 4 data.length)

theorem exec_dbgWrite (tag : Byte) (addr : Nat) (data : Bytes) (s : State) : exec (.dbgWrite tag addr data) s =
    portRun s (fun L => L.inSession tag 2 (fun L => L.portWrite tag addr data)) := rfl

/-- A write of bytes that the session's level may write now passes its checks. -/
theorem Live.portWrite_of_writable {L : Live} {tag : Byte} {addr level : Nat} {data : Bytes} {d : Nat × Nat}
    (hs : L.dbg.session = some d) (hl : level ≤ d.1)
    (hlen : ¬(data.length < 4 ∨ 1024 < data.length ∨ data.length % 4 ≠ 0 ∨ addr % 4 ≠ 0))
    (hrows : ∀ i < data.length, L.writable (addr + i) = some (level, true)) :
    L.portWrite tag addr data =
      if regionOf addr = some .logic then L.commitLater tag keyVm (leBytes 4 addr ++ data)
      else (L.portKept tag addr data).ev 127 9 1 [] (leBytes 4 addr ++ leBytes 4 data.length) := by
  have hmap : (List.range data.length).map (fun i => L.writable (addr + i)) = List.replicate data.length (some (level, true)) :=
    List.eq_replicate_iff.mpr ⟨by simp, fun x hx => by
      obtain ⟨i, hi, rfl⟩ := List.mem_map.mp hx
      exact hrows i (List.mem_range.mp hi)⟩
  unfold Live.portWrite
  simp only [hmap, hs]
  rw [if_neg hlen, if_neg (by simp [Nat.not_lt.mpr hl]), if_neg (by simp)]

section Writes

variable {s : State} {tag : Byte} {d : Nat × Nat} {addr : Nat} {data : Bytes}

theorem dbgWrite_keeps {i : Nat} (h : PortOpen s.live) (hs : s.live.dbg.session = some d) (hl : d.1 = 4)
    (hlen : ¬(data.length < 4 ∨ 1024 < data.length ∨ data.length % 4 ≠ 0 ∨ addr % 4 ≠ 0)) (hi : i < 6)
    (hlo : 0x40000000 + 0x100000 * i ≤ addr) (hhi : addr + data.length ≤ 0x40000000 + 0x100000 * (i + 1))
    (hhalted : bitOf s.live.dbg.halted i = true) :
    Answers (.dbgWrite tag addr data) s (fun L =>
      (∀ k : Fin data.length, L.dbgByte (addr + k) = data.getD k 0) ∧ .dbg (dbgResponse tag 0 []) ∈ L.out ∧
      L.lgc = s.live.lgc ∧
      { L with
        out := s.live.out, ks := s.live.ks, dbg := s.live.dbg, rcd := s.live.rcd, com := s.live.com, obj := s.live.obj
        cap := s.live.cap } = s.live) := by
  refine answers_of_session h hs (by omega) (exec_dbgWrite tag addr data s) ?_
  obtain ⟨ss, ed, e⟩ := s.live.atPort_eq d
  have hregion : ∀ k < data.length, regionOf (addr + k) = some (.window i) := fun k hk => regionOf_window hi (by omega) (by omega)
  have hhalted' : bitOf (s.live.atPort d).dbg.halted i = true := by rw [e]; exact hhalted
  have hfirst : regionOf addr ≠ some .logic := by
    rw [regionOf_window hi hlo (by omega)]
    exact fun hne => nomatch hne
  rw [Live.portWrite_of_writable (d := (d.1, s.live.time.clk)) (by rw [e]) (Nat.le_of_eq hl.symm) hlen
    (fun k hk => Live.writable_window (hregion k hk) hhalted'), if_neg hfirst]
  obtain ⟨rcd, com, cap, hR⟩ := ((s.live.atPort d).portKept tag addr data).ev_recordsOnly 127 9 1 []
    (leBytes 4 addr ++ leBytes 4 data.length) (by decide)
  rw [hR]
  refine ⟨fun k => Live.dbgByte_window (hregion k k.isLt) (find?_cellPutAll _ addr data k.isLt), List.mem_cons_self .., ?_, ?_⟩
  · rw [e]
    rfl
  · rw [e]
    rfl

theorem dbgWrite_queues (h : PortOpen s.live) (hs : s.live.dbg.session = some d) (hl : 2 ≤ d.1)
    (hlen : ¬(data.length < 4 ∨ 1024 < data.length ∨ data.length % 4 ≠ 0 ∨ addr % 4 ≠ 0)) (hlo : 0x51000000 ≤ addr)
    (hhi : addr + data.length ≤ 0x51005000) (hhalted : s.live.logicState = 3) (halone : DecidesAlone s.live) :
    Answers (.dbgWrite tag addr data) s (fun L => QueuedForCommit tag d.1 keyVm (leBytes 4 addr ++ data) s.live L) := by
  refine answers_of_session h hs hl (exec_dbgWrite tag addr data s) ?_
  obtain ⟨ss, ed, e⟩ := s.live.atPort_eq d
  have hhalted' : (s.live.atPort d).logicState = 3 := by rw [e]; exact hhalted
  rw [Live.portWrite_of_writable (d := (d.1, s.live.time.clk)) (by rw [e]) hl hlen
    (fun k hk => Live.writable_logic (by omega) (by omega) hhalted'), if_pos (regionOf_logic hlo (by omega))]
  exact Live.commitLater_atPort tag d keyVm _ halone

end Writes

/-- Settles O50: one lemma for each row of the port. -/
theorem debugSessionsAndReads : Obligations.DebugSessionsAndReads := by
  refine ⟨fun s tag hp hb hw hs hen => dbgOpen_opens ⟨hp, hb, hw⟩ hs hen,
    fun s tag hp hb hw hs => dbgOpen_refused ⟨hp, hb, hw⟩ hs,
    fun s tag level mac d hp hb hw hs hlock hmac => dbgAuth_judged ⟨hp, hb, hw⟩ hs hlock hmac,
    fun s tag d hp hb hw hs => dbgClose_closes ⟨hp, hb, hw⟩ hs,
    fun s d hp hs => debugIdleTimeout_closes hp hs,
    fun s hs => debugIdleTimeout_idle hs,
    fun s tag d hp hb hw hs => dbgStatus_answers ⟨hp, hb, hw⟩ hs,
    fun s tag hp hb hw hs => dbgStatus_without_session ⟨hp, hb, hw⟩ hs,
    fun s tag crcWrong hp hb hw => dbgInvalidRequest_answers crcWrong ⟨hp, hb, hw⟩,
    fun s tag addr len d hp hb hw hs hl hmin hmax hlen haddr => dbgRead_answers ⟨hp, hb, hw⟩ hs hl (by omega),
    fun s tag addr len d hp hb hw hs hl => dbgRead_low_level ⟨hp, hb, hw⟩ hs hl,
    fun s tag addr data d i hp hb hw hs hl hmin hmax hlen haddr hlo hhi hhalted =>
      dbgWrite_keeps ⟨hp, hb, hw⟩ hs hl (by omega) i.isLt hlo hhi hhalted,
    fun s tag addr data d hp hb hw hs hl hmin hmax hlen haddr hlo hhi hhalted hroom hown halone => ?_,
    fun s tag index sub d hp hb hw hs hown hk => dbgOdRead_answers ⟨hp, hb, hw⟩ hs hown hk,
    fun s tag index sub value d hp hb hw hs hown halone hroom hk hsub hpass =>
      dbgOdWrite_queues ⟨hp, hb, hw⟩ hs ⟨hroom, hown, halone⟩ hk hsub hpass⟩
  obtain ⟨L, hexec, hpend, hwaits, -, hframe⟩ :=
    dbgWrite_queues (tag := tag) ⟨hp, hb, hw⟩ hs hl
      (by omega : ¬(data.length < 4 ∨ 1024 < data.length ∨ data.length % 4 ≠ 0 ∨ addr % 4 ≠ 0))
      hlo hhi hhalted ⟨hroom, hown, halone⟩
  have hlgc := congrArg Live.lgc hframe
  have hout := congrArg Live.out hframe
  exact ⟨L, hexec, hpend, hwaits, hlgc, hout, hframe⟩

end Sys2Proof.Machine
end
